-- ==== Sys2Proof/Word.lean ====
section
/-!
DEFINITION. The word types of the device: bytes of frames and memories, the 32-bit words of its registers
(spec/18_register_map.md, R504) and the 64-bit words of its counters (R9).
-/

namespace Sys2Proof

/-- A byte of a frame, of a message or of a memory. -/
abbrev Byte := BitVec 8

/-- A register word (spec/18, R504). -/
abbrev Word := BitVec 32

/-- A 64-bit counter or snapshot pair (spec/01, R9). -/
abbrev Word64 := BitVec 64

end Sys2Proof
end

