-- ==== Sys2Proof/Syntax.lean ====
section
/-!
DEFINITION. The commands of the block: one constructor per row of spec/opcode_table.json, with the row's operands.
An operand names what the command acts on (a port, a channel, an address) or carries what reaches the device from
outside with it (the bytes of a frame, a level of a pin, what an error detector found).
-/

namespace Sys2Proof

/-- How the bytes of FRAME_RECEIVE arrive (spec/03, R76 and R81): through the express MAC, as the first mPacket of a
preemptable frame with the frame count of its SMD-S, or as a continuation mPacket with the frame count of its SMD-C and its
fragment count. -/
inductive MPacket where
  | express
  | start (count : Nat)
  | cont (count frag : Nat)
  deriving DecidableEq, Repr

/-- How the piece of a frame ends (spec/03, R76; spec/05, R160): more bytes follow, the frame ended, its
reassembly failed for another reason than its counts (a wrong mCRC), its SMD is undefined, or the link went down. -/
inductive RxEnd where
  | more | ended | assemblyErr | smdErr | linkLost
  deriving DecidableEq, Repr

/-- The two MACs of a port (spec/03, R80). -/
inductive MacSel where
  | express | preemptable
  deriving DecidableEq, Repr

/-- An uncorrectable error the buffer's ECC reports with a read (spec/05, R162); the number is the cell's place in
the chain, or the queue. -/
inductive BufErr where
  | none
  | cellData (k : Nat)
  | linkWord (k : Nat)
  | descriptor
  | nodeList
  | mapWord (word : Nat)
  deriving DecidableEq, Repr

/-- A frame on a CAN bus (spec/08, R235): its format (0 base, 1 extended, 2 XL), identifier, FDF, BRS and remote
bits, the XL fields SDT, SEC, VCID and AF, and its data. -/
structure CanFrame where
  fmt : Nat
  id : Nat
  fdf : Bool
  brs : Bool
  rtr : Bool
  xl : List Nat
  data : List Byte
  deriving DecidableEq, Repr

/-- How a LIN response ends (spec/08, R248 and R249): as its checksum says, or with a framing or bit error, or with a
collision of an event-triggered slot. -/
inductive LinEnd where
  | whole | framing | bit | collision
  deriving DecidableEq, Repr

/-- What a visit of a scrub or a check beside it finds (spec/14, R391, R392 and R395): nothing, a correctable SRAM or MRAM word, an
uncorrectable word of a table, of the MRAM or of the scratchpad with its place as SAF_LOG shows it (for the MRAM also the firmware copy A
or B, 0 or 1, or the retained image, 2, in which it lies), a TCAM entry that differs from its shadow, an uncorrectable FDB entry, a
word of the packet buffer with the head of its chain or its queue, a copy outvoted in a triplicated element, or a register field of the always-on domain whose parity fails. -/
inductive ScrubFind where
  | clean
  | sramSingle
  | tableDouble (place : Nat)
  | mramSingle
  | mramDouble (copy : Option Nat) (place : Nat)
  | scratchDouble (place : Nat)
  | voted
  | aonField (n : Nat)
  | tcam (entry : Nat)
  | fdb (index : Nat)
  | buffer (head : Nat) (err : BufErr)
  deriving DecidableEq, Repr

/-- What a start meets that the state does not hold (spec/02, R56 to R68): the UNIT_ID strap; columns repaired by MBIST and
the macro it could not repair; the compare groups whose self-test failed; whether a scratchpad bank passed MBIST;
uncorrectable MRAM words in firmware copies A and B and the retained copy (bits 0, 1, 2); whether the NVM responds; the key
slots whose header is torn, those whose pending half does not verify and those whose unnamed half a cut write left a key in;
the two-phase records whose write the power loss cut; the JSEQ of the first uncorrectable journal entry;
and the duration of the start in µs of CLK_AON. -/
structure StartEnv where
  strap : Nat
  softCols : Nat
  badMacro : Option Nat
  selftest : Nat
  monitor : Bool
  mram : Nat
  nvm : Bool
  torn : List Nat
  tornHalf : List Nat
  stray : List Nat
  cut : List Nat
  badEntry : Option Nat
  startUs : Nat
  deriving DecidableEq, Repr

/-- What the USXGMII link of a port reports (spec/03, R74, R86): whether it is up, and the speed. -/
structure UsxReport where
  up : Bool
  speed : Nat
  deriving DecidableEq, Repr

/-- How a LIN header was seen (spec/08, R247): break, sync field and parity were right, and the break began `ago` ns ago. -/
structure HeaderSeen where
  good : Bool
  ago : Nat
  deriving DecidableEq, Repr

/-- What a life-cycle advance meets (spec/11, R337): the cold restart at its end, or the step after which power is lost. -/
structure AdvanceEnv where
  env : StartEnv
  lost : Option Nat
  deriving DecidableEq, Repr

/-- The commands of the block, in the order of the table. -/
inductive Instr where
  /-- REGISTER_WRITE (R7): A write to a register field that has no row of its own stores the value, clears W1C bits written 1,
  or is ignored, according to the field's access code. -/
  | registerWrite (addr : Nat) (mask : Word) (value : Word)
  /-- SNAPSHOT_LO_READ (R9): A read of the LO half of a snapshot pair captures the full 64-bit value and returns its low half.
  -/
  | snapshotLoRead (addr : Nat)
  /-- SNAPSHOT_LO_WRITE (R9): A write of the LO half of a snapshot pair is held until the following write of HI. -/
  | snapshotLoWrite (addr : Nat) (value : Word)
  /-- SNAPSHOT_HI_WRITE (R9): A write of the HI half stores both halves in one cycle, taking a held LO write or else keeping
  the current low half. -/
  | snapshotHiWrite (addr : Nat) (value : Word)
  /-- HELD_REGISTER_WRITE (R513): A write to a held window or rate register stores the value without effect until its commit.
  -/
  | heldRegisterWrite (addr : Nat) (mask : Word) (value : Word)
  /-- POWER_UP_AON (R534): VDD_AON rises; the always-on domain starts, INH goes high and the always-on fields take their reset
  values. -/
  | powerUpAon
  /-- PORST_ASSERT (R540): PORST_N goes low or a supply monitor trips; every MAC, PHY and engine stops and the pins take their
  held states. -/
  | porstAssert
  /-- SUPPLY_MONITOR_TRIP (R522): A rail leaves its monitor window; a fatal fault is raised, or a power-on reset below the
  reset threshold. -/
  | supplyMonitorTrip (rail : Nat) (below : Bool)
  /-- COLD_START (R56): The release of PORST_N runs the cold start from clocks through MBIST, firmware and image checks to
  forwarding. -/
  | coldStart (env : StartEnv)
  /-- SUPERVISOR_HOLD_TIMEOUT (R58): HOLD_US microseconds pass in state HOLD and the start continues with forwarding. -/
  | supervisorHoldTimeout (us : Nat)
  /-- RETAINED_COPY_DONE (R51): The copy of the applied image into MRAM completes and its seal is written with the commit word
  last. -/
  | retainedCopyDone
  /-- FRAME_RECEIVE (R76): A frame arrives on an Ethernet port and is judged for runt, oversize, FCS, MAC control and
  reassembly errors. -/
  | frameReceive (port : Nat) (kind : MPacket) (bytes : List Byte) (fin : RxEnd)
  /-- PIPELINE_PASS (R28): A frame takes a first pass through parser, classifier, destinations, policing and enqueue when it
  is granted the lookup slot. -/
  | pipelinePass
  /-- SECOND_PASS (R30): A recirculated frame waiting in the FIFO takes its second pass with its stamped generation. -/
  | secondPass
  /-- FRAME_END_WRITTEN (R104): The last byte of a frame is written, and checks that needed the frame's end are made. -/
  | frameEndWritten (port : Nat)
  /-- LEARN (R144): A waiting learn request inserts or updates a dynamic FDB entry in a cycle without a command write. -/
  | learn
  /-- AGEING_PASS (R145): Every AGE_S x 500 ms an ageing pass clears HIT bits and removes dynamic entries already unhit. -/
  | ageingPass
  /-- LINK_CHANGE (R86): A port's LINK_UP changes; transmission stops, LAG buckets move and LINK_CHANGED is set. -/
  | linkChange (port : Nat) (phyUp : Bool) (lock : Bool) (usx : UsxReport)
  /-- EGRESS_SELECTION (R187): At a MAC's selection instant the scheduler starts at most one eligible copy. -/
  | egressSelection (port : Nat) (mac : MacSel) (sent : Nat) (err : BufErr)
  /-- TRANSMIT_END (R136): A copy's transmission ends and its hold on the frame is released. -/
  | transmitEnd (port : Nat) (mac : MacSel) (err : BufErr)
  /-- QUEUE_AGE_SWEEP (R158): Every millisecond a sweep discards aged head copies of every queue. -/
  | queueAgeSweep
  /-- QUARANTINE_END (R163): The reclaim walk of a quarantined queue ends and the queue resumes empty. -/
  | quarantineEnd (queue : Nat)
  /-- BUFFER_AUDIT (R164): Every 10 ms an audit checks each cell against its state and frees orphans and fixes the free map.
  -/
  | bufferAudit (dirty : List Nat)
  /-- AUDIT_END (R164): The audit ends, sets FREE_CELLS to its tally and reports a quarantine limit hit. -/
  | auditEnd
  /-- VERIFY_SEND (R82): Every VERIFY_TIME ms a verify mPacket is sent, up to three times. -/
  | verifySend (port : Nat)
  /-- VERIFY_RECEIVE (R82): A received verify mPacket is answered with a respond mPacket. -/
  | verifyReceive (port : Nat)
  /-- RESPOND_RECEIVE (R82): A received respond mPacket makes preemption active. -/
  | respondReceive (port : Nat)
  /-- MERGE_CFG_APPLY (R83): A write to MERGE_CFG takes effect at the next frame boundary. -/
  | mergeCfgApply (port : Nat)
  /-- MAC_CFG_WRITE (R94): A write to MAC_CFG takes effect or is rejected with CFG_REJECT. -/
  | macCfgWrite (port : Nat) (mask : Word) (value : Word)
  /-- MAC_FRAME_WRITE (R94): A write of MAX_FRAME outside 64 to 9,216 is ignored with CFG_REJECT. -/
  | macFrameWrite (port : Nat) (mask : Word) (value : Word)
  /-- CLEAR (R95): A CNT_CTRL.CLEAR write sets all counters of its block or port to 0 in one cycle. -/
  | clear (addr : Nat)
  /-- MDIO_ACCESS (R96): A write to MDIO_CMD starts one Clause 45 read or write access. -/
  | mdioAccess (master : Nat) (value : Word)
  /-- MDIO_ACCESS_DONE (R87): A Clause 45 access completes, sets DONE and loads RDATA. -/
  | mdioAccessDone (master : Nat) (answer : Option Nat)
  /-- MDIO_POLL (R85): Every POLL_MS the master polls the PMA/PMD status of each enabled B port. -/
  | mdioPoll (master : Nat)
  /-- MDIO_INTERRUPT_POLL (R85): A port is polled at once when its PHY_INT_N is seen asserted. -/
  | mdioInterruptPoll (port : Nat)
  /-- MDIO_CFG_WRITE (R84): A write of MDIO_CFG sets divider and poll interval and restarts the poll timer. -/
  | mdioCfgWrite (master : Nat) (mask : Word) (value : Word)
  /-- FDB_LOOKUP (R170): LOOKUP loads FDB_KEY and FDB_DATA with the entry found. -/
  | fdbLookup
  /-- FDB_WRITE (R170): WRITE updates, inserts or removes the entry of the key. -/
  | fdbWrite
  /-- FDB_DELETE (R170): DELETE removes the entry of the key. -/
  | fdbDelete
  /-- FDB_READ_INDEX (R170): READ_INDEX loads the stored contents of one entry. -/
  | fdbReadIndex (index : Nat)
  /-- FLUSH_PORT (R170): FLUSH_PORT starts a walk removing dynamic entries that name one port. -/
  | flushPort
  /-- FLUSH_DYNAMIC (R170): FLUSH_DYNAMIC starts a walk removing all dynamic entries. -/
  | flushDynamic
  /-- FDB_OPERATION_DONE (R170): An FDB operation completes and sets DONE with its result. -/
  | fdbOperationDone
  /-- VLAN_ENTRY_COMMIT (R169): The write of VLAN_WIN_DATA[3] stores all four words of the selected VLAN entry in one cycle.
  -/
  | vlanEntryCommit (mask : Word) (value : Word)
  /-- MCG_ENTRY_COMMIT (R169): The write of MCG_WIN_DATA[1] commits the selected multicast group entry. -/
  | mcgEntryCommit (mask : Word) (value : Word)
  /-- CLS_WIN_ENTRY_WRITE (R118): A write to a TCAM key, mask or action word is stored, or ignored with LIVE_WRITE while VALID
  is 1. -/
  | clsWinEntryWrite (addr : Nat) (mask : Word) (value : Word)
  /-- CLS_WIN_CTRL_WRITE (R118): A write to CLS_WIN_CTRL changes GEN and VALID in one cycle, unless a retiring generation
  forbids it. -/
  | clsWinCtrlWrite (mask : Word) (value : Word)
  /-- SWAP (R123): A CLS_GEN SWAP write requests a generation swap, held pending if another is in progress. -/
  | swap (gen : Nat)
  /-- SWAP_TAKE_EFFECT (R122): A requested swap takes effect for lookups and starts a retirement if frames of the old
  generation wait. -/
  | swapTakeEffect
  /-- RETIREMENT_END (R122): The last second lookup of the retiring generation ends its retirement and applies any pending
  swap. -/
  | retirementEnd
  /-- TOKEN_TICK (R176): When the nanoseconds pass a multiple of 64, every enabled bucket gains its increment limited to
  BURST. -/
  | tokenTick
  /-- SHAPER_COMMIT (R182): A SHP_CTRL.COMMIT write requests the held shaper values for the next tick. -/
  | shaperCommit
  /-- METER_COMMIT (R182): An MTR_CTRL.COMMIT write requests the held meter values for the next tick. -/
  | meterCommit
  /-- ZONE_POLICER_COMMIT (R295): A ZPOL_CTRL.COMMIT write requests the held zone policer values for the next tick. -/
  | zonePolicerCommit
  /-- FRER_RESET (R186): A SEQR_WIN_STATE.RESET write sets TAKE_ANY of the recovery function. -/
  | frerReset
  /-- FRER_RESET_TIMER (R186): No frame passes a recovery function for RESET_MS and TAKE_ANY is set. -/
  | frerResetTimer (fn : Nat)
  /-- CONFIG_CHANGE (R195): A GATE_CTRL.CONFIG_CHANGE write computes the change time and sets PENDING. -/
  | configChange
  /-- CANCEL (R195): A GATE_CTRL.CANCEL write clears a pending gate list change. -/
  | cancel
  /-- GATE_CHANGE_TIME (R195): At T_c the administrative list becomes operational. -/
  | gateChangeTime (port : Nat)
  /-- GATE_ENTRY_TRANSITION (R193): A gate list entry starts and the queue gates take its state. -/
  | gateEntryTransition (port : Nat)
  /-- GATE_HOLD_REQUEST (R194): GATE_HOLD_ADV before a HOLD entry starts, a hold request stops preemptable frames. -/
  | gateHoldRequest (port : Nat)
  /-- TIME_NOW_CAPTURE (R209): A read of TIME_NOW_NS captures the whole time counter. -/
  | timeNowCapture
  /-- PPS_IN_STAMP_CAPTURE (R232): A read of PPS_IN_STAMP_NS captures the stamp with its seconds. -/
  | ppsInStampCapture
  /-- SOURCE_WRITE (R220): A TIME_CTRL write changing SOURCE puts the servo into FREE or ACQUIRING and resets INTEG and AVG.
  -/
  | sourceWrite (source : Nat)
  /-- STEP (R225): A TIME_CTRL.STEP write sets the counter to TIME_SET, or is rejected outside ACQUIRING while gates run. -/
  | stepTime
  /-- ACQUIRE (R224): A TIME_CTRL.ACQUIRE write puts a LOCKED or HOLDOVER servo into ACQUIRING. -/
  | acquire
  /-- SYNC_RECEIVE (R216): A Sync on the slave port is stored with its ingress stamp and relayed to master ports. -/
  | syncReceive
  /-- FOLLOW_UP_RECEIVE (R216): A Follow_Up completes a two-step Sync, giving an offset measurement. -/
  | followUpReceive
  /-- FOLLOW_UP_RELAY (R218): A Follow_Up is enqueued on a master port once that port's Sync egress stamp is taken. -/
  | followUpRelay (port : Nat)
  /-- FOLLOWUP_MISSING (R216): A two-step Sync without Follow_Up within 2^SYNC_LOG s is discarded. -/
  | followupMissing
  /-- PDELAY_REQ_SEND (R215): Every 2^PDELAY_LOG s a port sends a Pdelay_Req. -/
  | pdelayReqSend (port : Nat)
  /-- PDELAY_REQ_RECEIVE (R215): A received Pdelay_Req is answered. -/
  | pdelayReqReceive
  /-- PDELAY_RESP_RECEIVE (R215): A completed Pdelay exchange updates DELAY, NRR and AS_CAPABLE. -/
  | pdelayRespReceive
  /-- GM_SYNC_SEND (R219): As grandmaster, each master port sends a Sync at each multiple of 2^SYNC_LOG s. -/
  | gmSyncSend
  /-- SYNC_MISSED (R224): An interval passes without a measurement, and after MISS_LIMIT a LOCKED servo enters HOLDOVER. -/
  | syncMissed
  /-- PPS_IN_EDGE (R227): An edge of PPS_IN of the chosen polarity is stamped by each lockstep copy. -/
  | ppsInEdge (falling : Bool) (diff : Nat)
  /-- INPUT_EPOCH (R387): Every 64 CLK_CORE cycles the input agreement stage compares both copies' samples of each
  asynchronous input. -/
  | inputEpoch (levelsA : Nat) (levelsB : Nat)
  /-- PPS_OUT_EDGE (R229): A pulse output becomes active at each edge time and inactive after WIDTH. -/
  | ppsOutEdge (output : Nat)
  /-- CAN_FRAME_RECEIVE (R234): A correct CAN frame is stamped and delivered to the Weaver. -/
  | canFrameReceive (channel : Nat) (msg : CanFrame) (ago : Nat)
  /-- CAN_ARBITRATION (R241): At an arbitration opportunity the channel enters its first-ranking transmit request. -/
  | canArbitration (channel : Nat)
  /-- CAN_TX_COMPLETE (R239): A transmitted CAN frame ends and its stamp goes to the Weaver with the confirmation. -/
  | canTxComplete (channel : Nat)
  /-- CAN_BUS_ERROR (R243): A bus error updates TEC and REC and may change the error state or drop a request. -/
  | canBusError (channel : Nat) (lec : Nat) (sending : Bool) (step : Nat)
  /-- BUSOFF_HOLD_END (R244): BUSOFF_HOLD_MS after bus-off, auto recovery starts the recovery sequence. -/
  | busoffHoldEnd (channel : Nat)
  /-- RECOVER (R244): A RECOVER write starts the recovery sequence of a bus-off channel. -/
  | recover (channel : Nat)
  /-- CAN_RECOVERY_DONE (R244): The recovery sequence of 128 x 11 recessive bits ends and the channel leaves bus-off. -/
  | canRecoveryDone (channel : Nat)
  /-- CAN_ISOLATE (R245): A CAN channel dominant beyond DOM_LIMIT becomes isolated. -/
  | canIsolate (channel : Nat) (receiving : Bool)
  /-- CAN_ISOLATION_END (R245): After 128 x 11 recessive bit times the isolated channel integrates again. -/
  | canIsolationEnd (channel : Nat)
  /-- LIN_ISOLATE (R246): A LIN channel dominant beyond STUCK_MS becomes isolated. -/
  | linIsolate (channel : Nat)
  /-- LIN_ISOLATION_END (R246): After 10 ms recessive the isolated LIN channel resumes. -/
  | linIsolationEnd (channel : Nat)
  /-- LIN_SLOT (R249): A commander's schedule slot starts and its header is sent. -/
  | linSlot (channel : Nat)
  /-- LIN_HEADER_RECEIVE (R247): A responder detects a break, sync and identifier and responds or subscribes. -/
  | linHeaderReceive (channel : Nat) (ident : Nat) (seen : HeaderSeen)
  /-- LIN_FRAME_RECEIVE (R248): A subscribed LIN response is received and delivered, or counted by its error. -/
  | linFrameReceive (channel : Nat) (bytes : List Byte) (fin : LinEnd) (ago : Nat)
  /-- LIN_RESPONSE_TIMEOUT (R248): A subscribed response incomplete after its time limit is not delivered and counted. -/
  | linResponseTimeout (channel : Nat)
  /-- SWITCH (R249): A LIN_CTRL.SWITCH write requests a change to the table named in TABLE. -/
  | switch (channel : Nat)
  /-- WAKE (R249): A LIN_CTRL.WAKE write sends a 1 ms dominant wake pulse. -/
  | wake (channel : Nat)
  /-- SHADOW_CLEAR (R252): After takeover, a shadowing channel clears SHADOW at its next bus idle or slot boundary. -/
  | shadowClear (channel : Nat)
  /-- WEAVER_UNIT (R258): The Weaver takes the next unit from its queue, looks it up and runs its routes. -/
  | weaverUnit
  /-- PDU_TIMEOUT (R266): A receive PDU's deadline passes, TIMED_OUT is set and a timeout unit is queued. -/
  | pduTimeout (pdu : Nat)
  /-- CYCLIC_SEND (R271): At each due time a cyclic or mixed transmit PDU is sent. -/
  | cyclicSend
  /-- DEFERRED_SEND (R272): At the end of the minimum gap a deferred send is made. -/
  | deferredSend
  /-- SEND (R270): A WVR_CTRL.SEND write sends the selected transmit PDU under its minimum gap. -/
  | send
  /-- CARRIER_FRAME_CLOSE (R279): HOLD_US after its first PDU, an open carrier frame is closed and placed in the Weaver lane.
  -/
  | carrierFrameClose (carrier : Nat)
  /-- WVR_PDU_COMMIT (R289): The write of WVR_PDU_DATA[7] stores the whole PDU definition between two units. -/
  | wvrPduCommit
  /-- WVR_ROUTE_COMMIT (R289): The write of WVR_RT_DATA[7] stores the route between units, or is rejected for a denied zone
  pair. -/
  | wvrRouteCommit (value : Word)
  /-- WVR_CARRIER_COMMIT (R289): The write of WVR_CAR_CFG[1] stores the carrier and its template between units. -/
  | wvrCarrierCommit (value : Word)
  /-- WVR_IMAGE_WRITE (R289): A write to a transmit PDU image takes effect between units; one to a receive PDU is rejected. -/
  | wvrImageWrite (word : Nat) (value : Word)
  /-- WVR_PDU_STAMP_CAPTURE (R288): A read of WVR_PDU_STAMP_NS captures the event time with its seconds. -/
  | wvrPduStampCapture
  /-- SEC_SA_COMMIT (R310): The write of SEC_SA_CFG commits the whole SA entry between two frames. -/
  | secSaCommit (port : Nat) (value : Word)
  /-- TX_AN_APPLY (R303): A new TX_AN takes effect at the next frame boundary. -/
  | txAnApply (port : Nat)
  /-- KEY_LOAD (R321): KEY_LOAD unwraps a key into the pending half of a slot after checking its KCV. -/
  | keyLoad
  /-- KEY_DERIVE (R321): KEY_DERIVE derives a slot key into the pending half after checking its KCV. -/
  | keyDerive
  /-- KEY_PROMOTE (R321): KEY_PROMOTE switches the active half when the pending key's KCV matches. -/
  | keyPromote
  /-- KEY_ERASE (R321): KEY_ERASE zeroises both halves and commits the slot EMPTY. -/
  | keyErase
  /-- KEY_OPERATION_DONE (R322): A key operation completes and the next waiting one starts. -/
  | keyOperationDone
  /-- CMD_KEY_ADVANCE (R317): CMD_KEY_ADVANCE raises CMD_GEN of its origin and resets its LAST_SEQ. -/
  | cmdKeyAdvance
  /-- ATTEST (R329): ATTEST returns a COSE_Sign1 over the nonce and the unit's state, signed with the ID key. -/
  | attest
  /-- CERT_READ (R328): CERT_READ returns the device certificate or a transition statement. -/
  | certRead
  /-- LC_ADVANCE (R337): LC_ADVANCE runs the life-cycle transition through the fuse programming to a cold restart. -/
  | lcAdvance (adv : AdvanceEnv)
  /-- SIGNATURE_RELEASE (R326): A READY signing key serves the next request and releases a signature after committing NEXT. -/
  | signatureRelease
  /-- SIGNING_KEY_READY (R326): A signing key becomes READY after its first generation. -/
  | signingKeyReady (sigKey : Nat)
  /-- LMS_TREE_READY (R326): The next level-1 tree finishes generation in the background. -/
  | lmsTreeReady (sigKey : Nat)
  /-- LEDGER_SAMPLE (R344): At each whole millisecond each meter integrates I x U into its accumulators or counts a gap. -/
  | ledgerSample
  /-- INPUT_STALE (R343): A ledger input receives no value for STALE_MS and becomes stale. -/
  | inputStale (input : Nat)
  /-- LEDGER_PERSIST (R346): Once per second of CLK_AON the accumulators and residuals are written to a two-phase record. -/
  | ledgerPersist
  /-- PERIOD_RECORD (R348): At each multiple of PERIOD_S a PERIOD record is appended. -/
  | periodRecord
  /-- LEDGER_SIGN (R350): An LDG_CTRL.SIGN write closes the current batch for signing. -/
  | ledgerSign
  /-- LEDGER_RD_INDEX_WRITE (R353): A write of LDG_RD_INDEX loads LDG_RD_DATA with that record. -/
  | ledgerRdIndexWrite (value : Word)
  /-- GROUP_IDLE (R358): A group without soft sources for IDLE_MS becomes a sleep candidate. -/
  | groupIdle (group : Nat)
  /-- RING_ROUND_START (R363): The ring starts a round over the candidate groups and sends the first CONSENT_REQ. -/
  | ringRoundStart
  /-- CONSENT_RSP_RECEIVE (R362): A member's CONSENT_RSP records its vetoes and the token moves on. -/
  | consentRspReceive
  /-- CONSENT_RSP_TIMEOUT (R363): A member that does not answer within RSP_MS consents and is counted silent. -/
  | consentRspTimeout
  /-- FORCED_SLEEP (R359): A group awake for MAX_AWAKE_S is isolated from its soft source and forced to sleep. -/
  | forcedSleep (group : Nat)
  /-- SLEEP_ENTRY (R371): At T_commit the committed groups power down and, when all sleep, the unit enters Calm. -/
  | sleepEntry
  /-- WAKE_REQ_RECEIVE (R365): A member's WAKE_REQ wakes the groups it names. -/
  | wakeReqReceive
  /-- NM_WAKE (R366): An NM_WAKE write wakes the named groups. -/
  | nmWake (groups : Nat)
  /-- WAKE_INPUT_FILTER_PASS (R372): A wake input holds a new level for DEBOUNCE cycles and its filtered level changes. -/
  | wakeInputFilterPass (input : Nat)
  /-- WAKE_INPUT_STUCK (R372): An input active beyond STUCK x 100 ms is masked. -/
  | wakeInputStuck (input : Nat)
  /-- WAKE_INPUT_UNMASK (R372): A masked input inactive for DEBOUNCE cycles is unmasked. -/
  | wakeInputUnmask (input : Nat)
  /-- WAKE_OUT_PULSE_END (R373): The unit releases WAKE_BUS after PULSE x 100 us. -/
  | wakeOutPulseEnd
  /-- GUST (R374): A latched wake in Calm runs the gust through Lee mode to forwarding. -/
  | gust (env : StartEnv)
  /-- GROUP_WAKE (R377): In Lull a woken group's members power up and WAKE_REQ is sent to members. -/
  | groupWake
  /-- FATAL_FAULT (R397): A fatal fault halts the decision plane and enters HALTED or Lee mode. -/
  | fatalFault (code : Nat) (detail : Nat)
  /-- PLL_RELOCK (R399): After a clock fault the root PLL relocks and Lee entry proceeds. -/
  | pllRelock
  /-- DIGEST_COMPARE (R388): Every 1 ms the checker compares the 32 digest pairs of both copies. -/
  | digestCompare (differ : Nat)
  /-- SCRUB_VISIT (R392): The SRAM and MRAM scrubs visit words and rewrite correctable errors. -/
  | scrubVisit (find : ScrubFind)
  /-- TEMPERATURE_WARNING (R394): The junction temperature crosses TJ_WARN upward and code 0x09 is raised. -/
  | temperatureWarning (tj : Nat)
  /-- LEE_SLOT (R403): At a Lee stream's slot time the most recent eligible frame is sent on its egress ports. -/
  | leeSlot (stream : Nat)
  /-- LEE_FRAME_SEND (R405): A Lee transmit frame is sent at its cycle offset with its routed image. -/
  | leeFrameSend (entry : Nat)
  /-- LEE_EXIT_TIMEOUT (R406): EXIT_MS after entry an automatic reset ends Lee mode by a warm restart. -/
  | leeExitTimeout (env : StartEnv)
  /-- FAULT_INJECT (R411): A SAF_INJECT write injects a difference into a compare or digest group. -/
  | faultInject (kind : Nat) (group : Nat)
  /-- HELLO_SEND (R416): Every HELLO_US the pair logic sends a HELLO on each pair port. -/
  | helloSend
  /-- HELLO_RECEIVE (R416): A received HELLO marks the partner present and evaluates MISMATCH. -/
  | helloReceive
  /-- PARTNER_LOSS (R416): No HELLO for LOSS_US makes the partner absent. -/
  | partnerLoss
  /-- HOLD_IN_CHANGE (R418): The agreed HOLD_IN level changes and the standby role table applies. -/
  | holdInChange
  /-- CLAIM_TIMEOUT (R418): 1,000 ns after HOLD_OUT with HOLD_IN deasserted, CLAIMING becomes ACTIVE. -/
  | claimTimeout
  /-- CLAIM_DEFER_END (R418): With PREFER_STANDBY, HOLD_IN deasserted for a further 5 ms leads to CLAIMING. -/
  | claimDeferEnd
  /-- ACTIVE_YIELD (R418): An ACTIVE unit with UNIT_ID 1 seeing HOLD_IN asserted for 1,000 ns becomes STANDBY. -/
  | activeYield
  /-- HOLD_IN_MASK (R420): A stuck or chattering HOLD_IN is masked. -/
  | holdInMask (chatter : Bool)
  /-- HOLD_IN_UNMASK (R420): A masked HOLD_IN stable for 1 ms is unmasked. -/
  | holdInUnmask
  /-- CLAIM (R419): A PAIR_CTRL.CLAIM write moves a STANDBY unit to CLAIMING. -/
  | claim
  /-- RESYNC (R428): A PAIR_CTRL.RESYNC write starts a rejoin of the standby. -/
  | resync
  /-- REJOIN_RETRY (R428): 100 ms after a failed rejoin step, the rejoin restarts at step 1. -/
  | rejoinRetry
  /-- CATCH_UP_RECEIVE (R428): The standby replaces its journal tail with the active unit's entries and executes them. -/
  | catchUpReceive
  /-- SYNC_SNAPSHOT (R428): At T_sync both units snapshot their dynamic state. -/
  | syncSnapshot
  /-- SYNC_RECEIVE_PAIR (R429): The standby applies the active unit's snapshot received in SYNC messages and becomes READY. -/
  | syncReceivePair (tSync : Option Nat) (items : List (Nat × Nat × Int))
  /-- JOURNAL_RECEIVE (R430): The standby receives a JOURNAL entry and answers JOURNAL_ACK, or detects a gap. -/
  | journalReceive
  /-- JOURNAL_ACK_RECEIVE (R430): A JOURNAL_ACK makes the replicated command accepted. -/
  | journalAckReceive
  /-- JOURNAL_ACK_TIMEOUT (R430): No ACK within 500 us resends the entry, or accepts on the own journal after 3 tries. -/
  | journalAckTimeout
  /-- COMMIT_RECEIVE (R431): The standby receives COMMIT with T_apply. -/
  | commitReceive
  /-- COMMAND_APPLY_TIME (R431): At T_apply both units apply the command. -/
  | commandApplyTime
  /-- SLEEP_PAIR_RECEIVE (R434): The standby receives SLEEP and enters or aborts sleep with the active unit. -/
  | sleepPairReceive
  /-- WAKE_PAIR_RECEIVE (R434): The active unit treats a WAKE message as a wake with the standby's timestamp. -/
  | wakePairReceive
  /-- CROSSING_FRAME_RECEIVE (R440): A crossing frame from the partner has its tag removed and goes to its local destination.
  -/
  | crossingFrameReceive
  /-- CREDIT_SEND (R442): Every CREDIT_US with changes the receiver sends cumulative returned cells. -/
  | creditSend
  /-- CREDIT_RECEIVE (R442): A CREDIT message updates returned counts or resets a VOQ's counts. -/
  | creditReceive
  /-- CREDIT_RESET_TIMEOUT (R442): A VOQ head waiting 10 ms without return sends CREDIT with RESET. -/
  | creditResetTimeout (voq : Nat)
  /-- BRIDGE_REQ_RECEIVE (R444): A partner's BRIDGE_REQ is executed as a register access and answered. -/
  | bridgeReqReceive (write : Bool) (tag : Nat) (addr : Nat) (mask : Word) (value : Word)
  /-- BRIDGE_RSP_RECEIVE (R444): A BRIDGE_RSP completes a far access to the partner window. -/
  | bridgeRspReceive (tag : Nat) (isRead : Bool) (cause : Nat) (value : Word)
  /-- BRIDGE_RSP_TIMEOUT (R466): No BRIDGE_RSP within 20 us fails the far write with PARTNER_LINK_DOWN. -/
  | bridgeRspTimeout
  /-- COMMAND_FRAME_RECEIVE (R297): A good command frame on a management-zone port is passed to the MC and queued. -/
  | commandFrameReceive (err : BufErr)
  /-- WRITE_COMMAND (R459): An MGT_SPI transaction carries one command message to the MC queue. -/
  | writeCommand (bytes : List Byte)
  /-- READ_RESPONSE (R460): An MGT_SPI transaction reads the oldest complete response. -/
  | readResponse (count : Nat)
  /-- READ_STATUS (R459): An MGT_SPI transaction reads the status byte. -/
  | readStatus
  /-- READ_EVENT (R459): An MGT_SPI transaction reads the oldest unacknowledged event message. -/
  | readEvent (count : Nat)
  /-- COMMAND_ACCEPT (R455): The command at the head of the queue is authenticated, checked, journaled and accepted or
  refused. -/
  | commandAccept
  /-- RESTART (R67): RESTART runs a cold or warm restart. -/
  | restart (env : StartEnv)
  /-- START_FORWARDING (R58): START_FORWARDING ends the supervisor hold and enables forwarding. -/
  | startForwarding (us : Nat)
  /-- IMAGE_ERASE (R461): IMAGE_ERASE erases an image slot. -/
  | imageErase
  /-- IMAGE_WRITE (R463): IMAGE_WRITE writes data into a slot that is not in use. -/
  | imageWrite
  /-- IMAGE_VERIFY (R54): IMAGE_VERIFY checks a slot's image and returns its reason and version. -/
  | imageVerify (nvm : Bool)
  /-- IMAGE_ACTIVATE (R65): IMAGE_ACTIVATE sets BOOT_PREF and restarts selection in NO_IMAGE or FW_BAD. -/
  | imageActivate (env : StartEnv)
  /-- FIRMWARE_WRITE (R331): FIRMWARE_WRITE writes the firmware copy that is not running. -/
  | firmwareWrite
  /-- RECORD_APPLY (R462): RECORD_APPLY checks and translates one permitted Basic record. -/
  | recordApply
  /-- LEDGER_READ (R461): LEDGER_READ returns up to 16 ledger records. -/
  | ledgerRead
  /-- LEDGER_SIG_READ (R350): LEDGER_SIG_READ returns the signature of a batch. -/
  | ledgerSigRead
  /-- JRN_READ (R461): JRN_READ returns up to 20 journal entries. -/
  | jrnRead
  /-- CHECKPOINT (R477): CHECKPOINT appends a checkpoint entry and returns its JSEQ when signed. -/
  | checkpoint
  /-- CHECKPOINT_READ (R477): CHECKPOINT_READ returns a checkpoint statement. -/
  | checkpointRead
  /-- FRAME_SEND (R470): FRAME_SEND injects a frame into the MC lane of port M, or fails when the lane is full. -/
  | frameSend
  /-- FRAME_READ (R470): FRAME_READ returns the oldest frame waiting for the MC. -/
  | frameRead
  /-- EVENT_ACK (R473): EVENT_ACK acknowledges events up to the named SEQ. -/
  | eventAck
  /-- REG_READ (R465): REG_READ reads 1 to 64 register addresses through the bridge. -/
  | regRead
  /-- REG_WRITE (R46): REG_WRITE performs masked writes of its triples. -/
  | regWrite
  /-- REG_BURST_READ (R468): REG_BURST_READ reads consecutive words page by page. -/
  | regBurstRead
  /-- REG_BURST_WRITE (R468): REG_BURST_WRITE writes consecutive words page by page. -/
  | regBurstWrite
  /-- WRITE_FENCE (R467): WRITE_FENCE completes when earlier posted writes end and returns the failure count. -/
  | writeFence
  /-- FAR_READ_COMPLETE (R465): A far read returns its data or fails with 0xFFFF_FFFF. -/
  | farReadComplete (parity : Bool)
  /-- POSTED_WRITE_COMPLETE (R466): A posted write completes or fails and a failure enters the log. -/
  | postedWriteComplete (parity : Bool)
  /-- BUF_QLOG_POP (R507): A read of BUF_QLOG returns and removes the oldest entry. -/
  | bufQlogPop
  /-- NM_LOG_POP (R507): A read of NM_LOG returns and removes the oldest entry. -/
  | nmLogPop
  /-- SAF_LOG_POP (R507): A read of SAF_LOG returns and removes the oldest entry. -/
  | safLogPop
  /-- BRG_PWFL_POP (R507): A read of BRG_PWFL pops the oldest failure and latches its address and time. -/
  | brgPwflPop
  /-- EVT_POP (R507): A read of EVT_POP acknowledges the oldest event and latches its body. -/
  | evtPop
  /-- JRN_RD_INDEX_WRITE (R480): The write of JRN_RD_INDEX HI loads JRN_RD_DATA with that entry. -/
  | jrnRdIndexWrite (value : Word)
  /-- HANDOVER (R487): A BANK_OWNER HANDOVER write starts draining a bank, or is rejected. -/
  | handover (bank : Nat) (target : Nat)
  /-- BANK_DRAIN_DONE (R488): The old owner's in-flight operations end and the bank is cleared. -/
  | bankDrainDone (bank : Nat)
  /-- BANK_CLEAR_DONE (R488): The bank is zeroed and passes to its new owner with DONE set. -/
  | bankClearDone (bank : Nat)
  /-- PULSE (R502): RST_CTRL PULSE holds a reset group for 1 us and then releases it. -/
  | pulse (group : Nat)
  /-- HOLD (R502): RST_CTRL HOLD holds a reset group in soft reset. -/
  | hold (group : Nat)
  /-- RELEASE (R502): RST_CTRL RELEASE releases a soft-held reset group. -/
  | release (group : Nat)
  /-- RESET_PULSE_END (R502): The 1 us of a PULSE ends and the group is released. -/
  | resetPulseEnd
  /-- AON_CLOCK_FAULT (R395): The monitor finds CLK_AON more than 10 % from nominal; code 0x07 is raised as an event and
  CALM_EN acts as 0 until the next power-on reset. -/
  | aonClockFault
  /-- WAKE_FILTER_COPY_FAULT (R391): The two copies of a duplicated wake input filter disagree for more than DEBOUNCE + 64
  CLK_AON cycles, and code 0x23 is raised as an event. -/
  | wakeFilterCopyFault (input : Nat)
  /-- TJ_WARN_REARM (R394): The junction temperature falls 5 °C below TJ_WARN, TJ_HIGH clears and code 0x09 may be raised
  again. -/
  | tjWarnRearm (tj : Nat)
  /-- LIN_WAKE_PULSE_END (R249): The 1 ms dominant wake pulse of a LIN channel ends, and the WAKE operation is no longer busy.
  -/
  | linWakePulseEnd (channel : Nat)
  /-- LINE_FAULT_CLEAR (R421): HOLD_IN has been asserted continuously for 1 ms, and LINE_FAULT clears. -/
  | lineFaultClear
  /-- REPLAY_LIST_EXIT (R425): A held copy leaves a port's replay list 2,000 ns after its held transmission ended, and its
  hold on the frame is released. -/
  | replayListExit (port : Nat)
  deriving DecidableEq, Repr

end Sys2Proof
end

