-- ==== Sys2Proof/Decode.lean ====
section
/-!
DEFINITION. The command that a word spells: the table of this block gives its rows no bits, so no word spells one
(spec/opcode_table.json; log entry 33).
-/

namespace Sys2Proof

/-- The rows of the table have no bits: no command is read from a word. -/
def decodeTableWord (_nbits _w : Nat) : Option Instr := none

end Sys2Proof
end

