-- ==== Sys2Proof/Machine/Maps.lean ====
section
/-!
DEFINITION. Sparse tables held as plain data: lists of (key, value) pairs in ONE canonical form (keys strictly
rising, no value equal to what an unlisted key reads as), with the bit-field and byte-order helpers that every
family uses.
-/

namespace Sys2Proof.Machine

/-- Reads a sparse table: an unlisted key `k` reads as `d k`. -/
def mapGet {α : Type} (d : Nat → α) : List (Nat × α) → Nat → α
  | [], k => d k
  | (k', v) :: r, k => if k' = k then v else mapGet d r k

/-- Puts a pair at its sorted place in a list that does not hold its key. -/
def mapInsert {α : Type} (k : Nat) (v : α) : List (Nat × α) → List (Nat × α)
  | [] => [(k, v)]
  | (k', v') :: r => if k < k' then (k, v) :: (k', v') :: r else (k', v') :: mapInsert k v r

/-- Removes a key. -/
def mapErase {α : Type} (k : Nat) (m : List (Nat × α)) : List (Nat × α) :=
  m.filter (fun c => c.1 != k)

/-- Writes a sparse table and keeps its canonical form: writing what the key reads as unlisted removes it. -/
def mapSet {α : Type} [DecidableEq α] (d : Nat → α) (m : List (Nat × α)) (k : Nat) (v : α) : List (Nat × α) :=
  if v = d k then mapErase k m else mapInsert k v (mapErase k m)

/-- Changes one value of a sparse table. -/
def mapModify {α : Type} [DecidableEq α] (d : Nat → α) (m : List (Nat × α)) (k : Nat) (f : α → α) :
    List (Nat × α) :=
  mapSet d m k (f (mapGet d m k))

/-- Keeps the entries a test accepts; the others read as unlisted again. -/
def mapKeep {α : Type} (m : List (Nat × α)) (f : Nat → α → Bool) : List (Nat × α) :=
  m.filter (fun c => f c.1 c.2)

/-- The canonical form: keys strictly rising and no value that an unlisted key reads as. -/
def mapWf {α : Type} [DecidableEq α] (d : Nat → α) : List (Nat × α) → Bool
  | [] => true
  | (k, v) :: r => decide (v ≠ d k) && r.all (fun c => decide (k < c.1)) && mapWf d r

/-- Bits hi:lo of a number. -/
def bits (w hi lo : Nat) : Nat := (w >>> lo) % 2 ^ (hi - lo + 1)

/-- One bit of a number, as a truth value. -/
def bitOf (w i : Nat) : Bool := w.testBit i

/-- A truth value as a bit. -/
def b2n (b : Bool) : Nat := if b then 1 else 0

/-- A value lies in lo to hi. -/
def within (v lo hi : Nat) : Bool := decide (lo ≤ v) && decide (v ≤ hi)

/-- Bits hi:lo of a word, as a number. -/
def wordBits (w : Word) (hi lo : Nat) : Nat := bits w.toNat hi lo

/-- The mask of bits hi:lo. -/
def maskOf (hi lo : Nat) : Word := BitVec.ofNat 32 ((2 ^ (hi - lo + 1) - 1) <<< lo)

/-- A word with bits hi:lo replaced by the low bits of a number. -/
def putBits (w : Word) (hi lo v : Nat) : Word :=
  (w &&& ~~~ maskOf hi lo) ||| ((BitVec.ofNat 32 v <<< lo) &&& maskOf hi lo)

/-- The value of a two's-complement number of `n` bits. -/
def toSigned (n w : Nat) : Int := if w % 2 ^ n < 2 ^ (n - 1) then (w % 2 ^ n : Nat) else (w % 2 ^ n : Nat) - (2 ^ n : Nat)

/-- The `n` low bits of an integer, in two's complement. -/
def ofSigned (n : Nat) (i : Int) : Nat := (i % (2 ^ n : Nat)).toNat

/-- The number whose bytes are given, first byte most significant (network order). -/
def beNat : List Byte → Nat
  | l => l.foldl (fun a b => a * 256 + b.toNat) 0

/-- The number whose bytes are given, first byte least significant. -/
def leNat : List Byte → Nat
  | [] => 0
  | b :: r => b.toNat + 256 * leNat r

/-- The `n` bytes of a number, most significant first. -/
def beBytes (n v : Nat) : List Byte :=
  (List.range n).map (fun i => BitVec.ofNat 8 (v >>> (8 * (n - 1 - i))))

/-- The `n` bytes of a number, least significant first. -/
def leBytes (n v : Nat) : List Byte :=
  (List.range n).map (fun i => BitVec.ofNat 8 (v >>> (8 * i)))

/-- `n` bytes of a list from an offset. -/
def slice (l : List Byte) (off n : Nat) : List Byte := (l.drop off).take n

/-- The big-endian number in `n` bytes of a list from an offset. -/
def beAt (l : List Byte) (off n : Nat) : Nat := beNat (slice l off n)

/-- The little-endian number in `n` bytes of a list from an offset. -/
def leAt (l : List Byte) (off n : Nat) : Nat := leNat (slice l off n)

/-- The little-endian 32-bit words of a byte list whose length is a multiple of four. -/
def leWords : List Byte → List Word
  | a :: b :: c :: d :: r => BitVec.ofNat 32 (leNat [a, b, c, d]) :: leWords r
  | _ => []

/-- A list padded with a value, or cut, to a length. -/
def padTo {α : Type} (n : Nat) (x : α) (l : List α) : List α := l.take n ++ List.replicate (n - l.length) x

/-- Replaces the element at an index. -/
def setAt {α : Type} (l : List α) (i : Nat) (v : α) : List α := l.set i v

/-- The ports (or other indexes) whose bit is set in a mask, of the first `n`. -/
def maskList (n m : Nat) : List Nat := (List.range n).filter (fun i => m.testBit i)

/-- The mask with one bit per listed index. -/
def listMask (l : List Nat) : Nat := l.foldl (fun a i => a ||| 1 <<< i) 0

end Sys2Proof.Machine
end

