-- ==== Sys2Proof/Machine/Crc.lean ====
section
/-!
DEFINITION. The two CRCs the spec gives: the Ethernet CRC-32 (spec/05, R141) and the CRC-16 of the LAG hash
(spec/05, R147).
-/

namespace Sys2Proof.Machine

/-- One bit of the reflected CRC-32: polynomial 0x04C11DB7, reflected 0xEDB88320. -/
def crc32Bit (c : Nat) : Nat := if c % 2 = 1 then Nat.xor (c / 2) 0xEDB88320 else c / 2

/-- One byte of the reflected CRC-32. -/
def crc32Byte (c : Nat) (b : Byte) : Nat :=
  let x := Nat.xor c b.toNat
  crc32Bit (crc32Bit (crc32Bit (crc32Bit (crc32Bit (crc32Bit (crc32Bit (crc32Bit x)))))))

/-- The running CRC-32 over a byte list. -/
def crc32Run (c : Nat) : List Byte → Nat
  | [] => c
  | b :: r => crc32Run (crc32Byte c b) r

/-- The Ethernet CRC-32: initial value 0xFFFF_FFFF, reflected, final complement (spec/05, R141). -/
def crc32 (l : List Byte) : Nat := Nat.xor (crc32Run 0xFFFFFFFF l) 0xFFFFFFFF

/-- The four FCS bytes of a frame as they follow it on the wire: least significant byte first (IEEE 802.3:
PRESUMED, log entry 11). -/
def fcsBytes (l : List Byte) : List Byte := leBytes 4 (crc32 l)

/-- The stomped FCS: the bitwise inverse of the CRC-32 (spec/05, R160). -/
def stompBytes (l : List Byte) : List Byte := leBytes 4 (Nat.xor (crc32 l) 0xFFFFFFFF)

/-- The bitwise inverse of the mCRC of the fragments so far (spec/05, R162). The mCRC is the CRC-32 over them with its last two
bytes inverted (IEEE 802.3br: PRESUMED, log entry 11). -/
def badMcrc (l : List Byte) : List Byte := leBytes 4 (Nat.xor (crc32 l) 0x0000FFFF)

/-- The last four bytes are the FCS of the bytes before them. -/
def fcsGood (l : List Byte) : Bool := l.drop (l.length - 4) == fcsBytes (l.take (l.length - 4))

/-- The last four bytes are the stomped FCS of the bytes before them (spec/05, R161). -/
def fcsStomped (l : List Byte) : Bool := l.drop (l.length - 4) == stompBytes (l.take (l.length - 4))

/-- A frame without FCS, with its FCS. -/
def withFcs (l : List Byte) : List Byte := l ++ fcsBytes l

/-- One bit of the CRC-16 with polynomial 0x8005, most significant bit first. -/
def crc16Bit (c : Nat) : Nat :=
  if 0x8000 ≤ c then Nat.xor (c * 2 % 0x10000) 0x8005 else c * 2

/-- One byte of the CRC-16. -/
def crc16Byte (c : Nat) (b : Byte) : Nat :=
  let x := Nat.xor c (b.toNat * 256)
  crc16Bit (crc16Bit (crc16Bit (crc16Bit (crc16Bit (crc16Bit (crc16Bit (crc16Bit x)))))))

/-- The CRC-16 of R147: polynomial 0x8005, initial value 0xFFFF, most significant bit first, no final XOR. -/
def crc16 (l : List Byte) : Nat := l.foldl crc16Byte 0xFFFF

end Sys2Proof.Machine
end

