-- ==== Sys2Proof/Machine/Crypto.lean ====
section
/-!
DEFINITION. The algorithms that spec/11, spec/10, spec/02 and spec/16 name: SHA-256, HMAC-SHA-256, AES with AES-CMAC, the
AES key wrap and AES-GCM, and HSS/LMS with LMS_SHA256_M32_H20 and LMOTS_SHA256_N32_W4. The spec names them and the standards
that define them (FIPS 180-4, RFC 2104, FIPS 197, RFC 4493, RFC 3394, SP 800-38D, RFC 8554); what stands here is taken from
those standards (PRESUMED: log entry 4).
-/

namespace Sys2Proof.Machine

/-- Cuts the first `k` pieces of `n` bytes off a text. -/
def piecesOf (n : Nat) : Nat → List Byte → List (List Byte)
  | 0, _ => []
  | k + 1, l => l.take n :: piecesOf n k (l.drop n)

/-- The exclusive-or of two texts. -/
def xorBytes (a b : List Byte) : List Byte := List.zipWith (fun x y => x ^^^ y) a b

/-! ## SHA-256 and HMAC -/

/-- The constants of the 64 rounds. -/
def shaK : List Word :=
  [0x428a2f98, 0x71374491, 0xb5c0fbcf, 0xe9b5dba5, 0x3956c25b, 0x59f111f1, 0x923f82a4, 0xab1c5ed5] ++
  [0xd807aa98, 0x12835b01, 0x243185be, 0x550c7dc3, 0x72be5d74, 0x80deb1fe, 0x9bdc06a7, 0xc19bf174] ++
  [0xe49b69c1, 0xefbe4786, 0x0fc19dc6, 0x240ca1cc, 0x2de92c6f, 0x4a7484aa, 0x5cb0a9dc, 0x76f988da] ++
  [0x983e5152, 0xa831c66d, 0xb00327c8, 0xbf597fc7, 0xc6e00bf3, 0xd5a79147, 0x06ca6351, 0x14292967] ++
  [0x27b70a85, 0x2e1b2138, 0x4d2c6dfc, 0x53380d13, 0x650a7354, 0x766a0abb, 0x81c2c92e, 0x92722c85] ++
  [0xa2bfe8a1, 0xa81a664b, 0xc24b8b70, 0xc76c51a3, 0xd192e819, 0xd6990624, 0xf40e3585, 0x106aa070] ++
  [0x19a4c116, 0x1e376c08, 0x2748774c, 0x34b0bcb5, 0x391c0cb3, 0x4ed8aa4a, 0x5b9cca4f, 0x682e6ff3] ++
  [0x748f82ee, 0x78a5636f, 0x84c87814, 0x8cc70208, 0x90befffa, 0xa4506ceb, 0xbef9a3f7, 0xc67178f2]

/-- The eight working words. -/
structure Sha where
  a : Word
  b : Word
  c : Word
  d : Word
  e : Word
  f : Word
  g : Word
  h : Word
  deriving DecidableEq, Repr

/-- The initial hash value. -/
def shaInit : Sha := ⟨0x6a09e667, 0xbb67ae85, 0x3c6ef372, 0xa54ff53a, 0x510e527f, 0x9b05688c, 0x1f83d9ab, 0x5be0cd19⟩

/-- One round, with the next 16 words of the message schedule at hand. -/
def shaRound (x : Sha × List Word) (k : Word) : Sha × List Word :=
  let s := x.1
  let w := x.2
  let wAt (i : Nat) : Word := w.getD i 0
  let t1 := s.h + (s.e.rotateRight 6 ^^^ s.e.rotateRight 11 ^^^ s.e.rotateRight 25) + ((s.e &&& s.f) ^^^ (~~~ s.e &&& s.g)) + k + wAt 0
  let t2 := (s.a.rotateRight 2 ^^^ s.a.rotateRight 13 ^^^ s.a.rotateRight 22) + ((s.a &&& s.b) ^^^ (s.a &&& s.c) ^^^ (s.b &&& s.c))
  let next := ((wAt 14).rotateRight 17 ^^^ (wAt 14).rotateRight 19 ^^^ (wAt 14) >>> 10) + wAt 9 +
    ((wAt 1).rotateRight 7 ^^^ (wAt 1).rotateRight 18 ^^^ (wAt 1) >>> 3) + wAt 0
  (⟨t1 + t2, s.a, s.b, s.c, s.d + t1, s.e, s.f, s.g⟩, w.drop 1 ++ [next])

/-- The hash value after one block of 64 bytes. -/
def shaBlock (s : Sha) (b : List Byte) : Sha :=
  let r := (shaK.foldl shaRound (s, (piecesOf 4 16 b).map (fun w => BitVec.ofNat 32 (beNat w)))).1
  ⟨s.a + r.a, s.b + r.b, s.c + r.c, s.d + r.d, s.e + r.e, s.f + r.f, s.g + r.g, s.h + r.h⟩

/-- A message with its padding. -/
def shaPad (m : List Byte) : List Byte :=
  m ++ [0x80] ++ List.replicate ((119 - m.length % 64) % 64) 0 ++ beBytes 8 (8 * m.length)

/-- SHA-256 of a message, 32 bytes. -/
def sha256 (m : List Byte) : List Byte :=
  let s := (piecesOf 64 ((m.length + 72) / 64) (shaPad m)).foldl shaBlock shaInit
  [s.a, s.b, s.c, s.d, s.e, s.f, s.g, s.h].flatMap (fun w => beBytes 4 w.toNat)

/-- HMAC-SHA-256 of a message under a key. -/
def hmacSha256 (key msg : List Byte) : List Byte :=
  let k := padTo 64 0 (if key.length ≤ 64 then key else sha256 key)
  sha256 (k.map (fun x => x ^^^ 0x5C) ++ sha256 (k.map (fun x => x ^^^ 0x36) ++ msg))

/-! ## AES -/

/-- A byte times x in the field of AES. -/
def xtime (b : Byte) : Byte := (b <<< 1) ^^^ (if b.msb then 0x1B else 0)

/-- The product in the field of AES. -/
def gfMul (a b : Byte) : Byte :=
  ((List.range 8).foldl (fun (c : Byte × Byte) i => (if b.getLsbD i then c.1 ^^^ c.2 else c.1, xtime c.2)) (0, a)).1

/-- The inverse in the field of AES, 0 for 0: the 254th power. -/
def gfInv (a : Byte) : Byte :=
  ((List.range 7).foldl (fun (c : Byte × Byte) _ => (gfMul c.1 (gfMul c.2 c.2), gfMul c.2 c.2)) (1, a)).1

/-- The S-box and its inverse. -/
def sbox (a : Byte) : Byte :=
  let i := gfInv a
  i ^^^ i.rotateLeft 1 ^^^ i.rotateLeft 2 ^^^ i.rotateLeft 3 ^^^ i.rotateLeft 4 ^^^ 0x63
def invSbox (a : Byte) : Byte := gfInv (a.rotateLeft 1 ^^^ a.rotateLeft 3 ^^^ a.rotateLeft 6 ^^^ 0x05)

/-- The round constant of key expansion. -/
def rcon (j : Nat) : Byte := (List.range (j - 1)).foldl (fun c _ => xtime c) 1

/-- The next word of the key schedule of a key of `nk` words. -/
def nextKeyWord (nk : Nat) (w : List (List Byte)) : List Byte :=
  let i := w.length
  let t := w.getD (i - 1) []
  let t := if i % nk = 0 then xorBytes ((t.drop 1 ++ t.take 1).map sbox) [rcon (i / nk), 0, 0, 0]
    else if 6 < nk ∧ i % nk = 4 then t.map sbox else t
  xorBytes (w.getD (i - nk) []) t

/-- The round keys of a key of 16 or 32 bytes. -/
def roundKeys (key : List Byte) : List (List Byte) :=
  let nk := key.length / 4
  let n := 4 * (nk + 7)
  let w := (List.range (n - nk)).foldl (fun w _ => w ++ [nextKeyWord nk w]) (piecesOf 4 nk key)
  piecesOf 16 (nk + 7) (w.flatMap (fun x => x))

/-- SHIFTROWS, rows turned left by `d` times their number. -/
def shiftRows (d : Nat) (s : List Byte) : List Byte :=
  (List.range 16).map (fun i => s.getD (4 * ((i / 4 + d * (i % 4)) % 4) + i % 4) 0)

/-- MIXCOLUMNS with the first row of its matrix. -/
def mixColumns (row : List Byte) (s : List Byte) : List Byte :=
  (List.range 16).map (fun i =>
    (List.range 4).foldl (fun c j => c ^^^ gfMul (row.getD ((j + 4 - i % 4) % 4) 0) (s.getD (4 * (i / 4) + j) 0)) 0)

/-- The rounds of encryption. -/
def aesRounds : List (List Byte) → List Byte → List Byte
  | [], s => s
  | [k], s => xorBytes (shiftRows 1 (s.map sbox)) k
  | k :: r, s => aesRounds r (xorBytes (mixColumns [2, 3, 1, 1] (shiftRows 1 (s.map sbox))) k)

/-- The rounds of decryption. -/
def aesBack : List (List Byte) → List Byte → List Byte
  | [], s => s
  | [k], s => xorBytes ((shiftRows 3 s).map invSbox) k
  | k :: r, s => aesBack r (mixColumns [14, 11, 13, 9] (xorBytes ((shiftRows 3 s).map invSbox) k))

/-- AES of one block of 16 bytes. -/
def aes (key block : List Byte) : List Byte :=
  match roundKeys key with
  | [] => block
  | k :: r => aesRounds r (xorBytes block k)

/-- The inverse of AES on one block. -/
def aesInv (key block : List Byte) : List Byte :=
  match (roundKeys key).reverse with
  | [] => block
  | k :: r => aesBack r (xorBytes block k)

/-! ## AES-CMAC -/

/-- A block times x in the field of CMAC. -/
def cmacDouble (b : List Byte) : List Byte :=
  let n := beNat b
  beBytes 16 (Nat.xor (2 * n) (if n.testBit 127 then 0x87 else 0))

/-- AES-CMAC of a message under a key, 16 bytes. -/
def cmac (key msg : List Byte) : List Byte :=
  let k1 := cmacDouble (aes key (List.replicate 16 0))
  let n := (msg.length - 1) / 16
  let last := msg.drop (16 * n)
  let last := if last.length = 16 then xorBytes last k1 else xorBytes (padTo 16 0 (last ++ [0x80])) (cmacDouble k1)
  aes key (xorBytes last ((piecesOf 16 n msg).foldl (fun c b => aes key (xorBytes c b)) (List.replicate 16 0)))

/-! ## The AES key wrap -/

/-- One step of unwrapping: step `t` of `6 n`, on the integrity register and the blocks. -/
def unwrapStep (key : List Byte) (n : Nat) (x : List Byte × List (List Byte)) (t : Nat) : List Byte × List (List Byte) :=
  let i := (t - 1) % n
  let b := aesInv key (xorBytes x.1 (beBytes 8 t) ++ x.2.getD i [])
  (b.take 8, x.2.set i (b.drop 8))

/-- Unwraps a wrapped key under a wrapping key: none where the check fails. -/
def aesUnwrap (key wrapped : List Byte) : Option (List Byte) :=
  let n := wrapped.length / 8 - 1
  if wrapped.length % 8 ≠ 0 ∨ n < 2 then none
  else
    let steps := ((List.range (6 * n)).map (fun t => t + 1)).reverse
    let r := steps.foldl (unwrapStep key n) (wrapped.take 8, piecesOf 8 n (wrapped.drop 8))
    if r.1 = List.replicate 8 0xA6 then some (r.2.flatMap (fun x => x)) else none

/-! ## AES-GCM, with initial vectors of 12 bytes -/

/-- The key stream over a text, from the second counter block on. -/
def gcmXor (key iv text : List Byte) : List Byte :=
  xorBytes text ((List.range ((text.length + 15) / 16)).flatMap (fun i => aes key (iv ++ beBytes 4 (i + 2))))

/-- The product in the field of GHASH. -/
def ghashMul (x y : BitVec 128) : BitVec 128 :=
  ((List.range 128).foldl (fun (c : BitVec 128 × BitVec 128) i =>
    (if x.getLsbD (127 - i) then c.1 ^^^ c.2 else c.1,
      (c.2 >>> 1) ^^^ (if c.2.getLsbD 0 then BitVec.ofNat 128 (0xE1 <<< 120) else 0))) (0, y)).1

/-- A text with zeros up to a whole number of blocks. -/
def zeroFill (l : List Byte) : List Byte := l ++ List.replicate ((16 - l.length % 16) % 16) 0

/-- GHASH of a text of whole blocks. -/
def ghash (h : BitVec 128) (l : List Byte) : BitVec 128 :=
  (piecesOf 16 (l.length / 16) l).foldl (fun y b => ghashMul (y ^^^ BitVec.ofNat 128 (beNat b)) h) 0

/-- The ICV, 16 bytes, over additional data and ciphertext. -/
def gcmIcv (key iv aad text : List Byte) : List Byte :=
  let h := BitVec.ofNat 128 (beNat (aes key (List.replicate 16 0)))
  let g := ghash h (zeroFill aad ++ zeroFill text ++ beBytes 8 (8 * aad.length) ++ beBytes 8 (8 * text.length))
  xorBytes (aes key (iv ++ beBytes 4 1)) (beBytes 16 g.toNat)

/-! ## LMS and HSS: one-time keys of 67 chains of 15 steps, trees of height 20 -/

/-- A tree's secret: SEED and I. -/
structure LmsTree where
  seed : List Byte
  id : List Byte
  deriving DecidableEq, Repr

/-- The 67 digits of what is signed with one-time key `q`: those of the message's hash, and their checksum's. -/
def otsDigits (id : List Byte) (q : Nat) (c msg : List Byte) : List Nat :=
  let h := sha256 (id ++ beBytes 4 q ++ beBytes 2 0x8181 ++ c ++ msg)
  let d := h.flatMap (fun b => [b.toNat / 16, b.toNat % 16])
  let sum := d.foldl (fun a x => a + (15 - x)) 0
  d ++ [sum / 256 % 16, sum / 16 % 16, sum % 16]

/-- Chain `i` of one-time key `q`, from step `a` on, for `n` steps. -/
def otsChain (id : List Byte) (q i a n : Nat) (x : List Byte) : List Byte :=
  (List.range n).foldl (fun t j => sha256 (id ++ beBytes 4 q ++ beBytes 2 i ++ beBytes 1 (a + j) ++ t)) x

/-- The start of chain `i` (RFC 8554, Appendix A). -/
def otsSecret (t : LmsTree) (q i : Nat) : List Byte :=
  sha256 (t.id ++ beBytes 4 q ++ beBytes 2 i ++ [0xFF] ++ t.seed)

/-- The public key of one-time key `q` from the ends of its chains. -/
def otsKey (id : List Byte) (q : Nat) (ends : List (List Byte)) : List Byte :=
  sha256 (id ++ beBytes 4 q ++ beBytes 2 0x8080 ++ ends.flatMap (fun x => x))

/-- The leaf and the inner nodes of a tree, by number. -/
def lmsLeaf (id : List Byte) (r : Nat) (key : List Byte) : List Byte :=
  sha256 (id ++ beBytes 4 r ++ beBytes 2 0x8282 ++ key)
def lmsInner (id : List Byte) (r : Nat) (a b : List Byte) : List Byte :=
  sha256 (id ++ beBytes 4 r ++ beBytes 2 0x8383 ++ a ++ b)

/-- Node `r` of a tree, `h` levels above the leaves. -/
def lmsNode (t : LmsTree) : Nat → Nat → List Byte
  | 0, r =>
    let q := r - 2 ^ 20
    lmsLeaf t.id r (otsKey t.id q ((List.range 67).map (fun i => otsChain t.id q i 0 15 (otsSecret t q i))))
  | h + 1, r => lmsInner t.id r (lmsNode t h (2 * r)) (lmsNode t h (2 * r + 1))

/-- A tree's public key: the LMS type, the LM-OTS type, I and the root, 56 bytes. -/
def lmsKey (t : LmsTree) : List Byte := beBytes 4 8 ++ beBytes 4 3 ++ t.id ++ lmsNode t 20 1

/-- The signature with leaf `q` of a tree, 2,828 bytes, with a randomizer C. -/
def lmsSign (t : LmsTree) (q : Nat) (c msg : List Byte) : List Byte :=
  let d := otsDigits t.id q c msg
  let y := (List.range 67).flatMap (fun i => otsChain t.id q i 0 (d.getD i 0) (otsSecret t q i))
  let path := (List.range 20).flatMap (fun h => lmsNode t h (Nat.xor ((2 ^ 20 + q) >>> h) 1))
  beBytes 4 q ++ beBytes 4 3 ++ c ++ y ++ beBytes 4 8 ++ path

/-- Verifies an LMS signature over a message with a tree's public key. -/
def lmsVerify (key msg sig : List Byte) : Bool :=
  let id := slice key 8 16
  let q := beAt sig 0 4
  let y := piecesOf 32 67 (sig.drop 40)
  let d := otsDigits id q (slice sig 8 32) msg
  let ends := (List.range 67).map (fun i => otsChain id q i (d.getD i 0) (15 - d.getD i 0) (y.getD i []))
  let path := piecesOf 32 20 (sig.drop 2188)
  let root := (List.range 20).foldl (fun x h =>
    let r := (2 ^ 20 + q) >>> h
    let o := path.getD h []
    if r % 2 = 1 then lmsInner id (r / 2) o x else lmsInner id (r / 2) x o) (lmsLeaf id (2 ^ 20 + q) (otsKey id q ends))
  beAt key 0 4 == 8 && beAt key 4 4 == 3 && sig.length == 2828 && decide (q < 2 ^ 20) && beAt sig 4 4 == 3 && beAt sig 2184 4 == 8 &&
    root == slice key 24 32

/-- Verifies an HSS signature of two levels. -/
def hssVerify (key msg sig : List Byte) : Bool :=
  let lower := slice sig 2832 56
  beAt key 0 4 == 2 && sig.length == 5716 && beAt sig 0 4 == 1 && lmsVerify (key.drop 4) lower (slice sig 4 2828) &&
    lmsVerify lower msg (sig.drop 2888)

/-- The HSS public key of a top tree, 60 bytes. -/
def hssKey (top : LmsTree) : List Byte := beBytes 4 2 ++ lmsKey top

/-- The HSS signature with leaf pair `q`: leaf `q / 2^20` of the top tree signs the public key of the level-1 tree of that number,
whose leaf `q mod 2^20` signs the message. -/
def hssSign (top tree : LmsTree) (q : Nat) (rand : LmsTree → Nat → List Byte) (msg : List Byte) : List Byte :=
  let sub := lmsKey tree
  beBytes 4 1 ++ lmsSign top (q / 2 ^ 20) (rand top (q / 2 ^ 20)) sub ++ sub ++ lmsSign tree (q % 2 ^ 20) (rand tree (q % 2 ^ 20)) msg

end Sys2Proof.Machine
end

