-- ==== Sys2Proof/Config.lean ====
section
/-!
DEFINITION. The values that the spec leaves open, as constants with no body. No proof can see what one of them is (log entries
3, 4 and 5).
-/

namespace Sys2Proof.Config

/-- The randomizer C of the signature with leaf `q` of the LMS tree of identifier `id`: RFC 8554 leaves it to the signer (spec/11,
R324; log entry 4). -/
opaque lmsRandomizer : (id : List Byte) → (q : Nat) → List Byte

/-- The key that an interrupted write left in a half of a slot, which the start zeroises (spec/11, R323; log entry 72). -/
opaque strayKey : (slot : Nat) → List Byte

/-- The payload that an interrupted write left in a frame of a two-phase record (spec/11, R318; log entry 72). -/
opaque cutPayload : (record seq : Nat) → List Byte

/-- The OPCODE field of a message that is no command, for its DISC and the command's OPCODE or event's code: the
spec does not state it (spec/16, R457 and R473; log entry 9). -/
opaque messageOpcode : (disc opcode : Nat) → Nat

/-- The STATUS of the answer to a command whose SEQ is not above LAST_SEQ, which the spec names REPLAY and gives no code
(spec/16, R453, R456; log entry 29). -/
opaque replayStatus : Nat

/-- A free value: the `n`-th value that the spec leaves open, as a number (log entry 5). -/
opaque freeValue : Nat → Nat

/-- L of R188 for a copy that is judged before the end of its frame is known, by the frame's head cell and stamp: the
spec does not state it (spec/06, R188; log entry 19). -/
opaque openLength : (head stamp : Nat) → Nat

/-- The body of a SYNC part that carries a snapshot, whose layout the spec does not state (spec/15, R415, R429; log
entry 20). -/
opaque syncBody : List (Nat × Nat × Int) → List Byte

/-- The body of a BRIDGE_REQ or BRIDGE_RSP, whose layout the spec does not state, for its words (spec/15, R415, R444;
log entry 20). -/
opaque bridgeBody : List Nat → List Byte

/-- The fields that the body of a KEY_* command carries, none where its length is wrong for the OPCODE: SERIAL, slot,
TYPE, KDF_ID, KCV and the wrapped key. The spec names them and does not state their places (spec/11, R321; spec/16, R461;
log entry 28). -/
opaque keyBody : (opcode : Nat) → (body : List Byte) → Option (Nat × Nat × Nat × Nat × Nat × List Byte)

/-- The fields that the body of LC_ADVANCE carries: SERIAL, the target state and its IMG_KEY_HASH; their places are not
stated (spec/11, R336; log entry 28). -/
opaque lcBody : (body : List Byte) → Option (Nat × Nat × List Byte)

/-- The key word `j` of TCAM entry `i`, which the spec calls undefined after reset (spec/04, R130). -/
opaque tcamKey : (i j : Nat) → Word

/-- The mask word `j` of TCAM entry `i`, which the spec calls undefined after reset (spec/04, R130). -/
opaque tcamMask : (i j : Nat) → Word

/-- The action word `j` of TCAM entry `i`, which the spec calls undefined after reset (spec/04, R130). -/
opaque tcamAct : (i j : Nat) → Word

end Sys2Proof.Config
end

