-- ==== Sys2Proof/Machine/RegMap.lean ====
section
/-!
DEFINITION. The register map of spec/18_register_map.md and of the register tables of every chapter: for each
register its byte address, how many copies it has and how far apart, how many entries stand behind its window
(spec/18, R509), which bits are RW, W1C and CMD (spec/18, R505 to R508), and the value it has after reset.
A register's key is its byte address plus 2^32 times the window entry it shows.
-/

namespace Sys2Proof.Machine

/-- How a register's reset value is given. -/
inductive RegReset where
  /-- the value the spec's table gives (or, for MRAM, fuses, straps: see the log entries 2 and 3) -/
  | const (w : Nat)
  /-- MAC_CFG: MODE and EN by the kind of port (spec/03, R94) -/
  | macCfg
  /-- MAC_FRAME: 1,530, for port M 9,216 (spec/03, R94) -/
  | macFrame
  /-- ZONE_PAIR: PERMIT on the diagonal (spec/10, R310) -/
  | zoneDiag
  /-- WAKE_IN_CFG: input 4 is enabled, active low, with a debounce of 51 (spec/13, R381) -/
  | wakeIn
  deriving DecidableEq, Repr

/-- One row of the register map. -/
structure RegDesc where
  base : Nat
  count : Nat
  stride : Nat
  /-- entries behind the window, 1 where the register is no window -/
  win : Nat
  rw : Nat
  w1c : Nat
  cmd : Nat
  /-- named bits that are RO or POP -/
  ro : Nat
  reset : RegReset
  deriving DecidableEq, Repr

/-- The registers of the block at 0x0. -/
def regBlock0 : List RegDesc := [
  ⟨0x0, 1, 0x0, 1, 0x0, 0x0, 0x0, 0xffffff0f, (.const 0x9210a102)⟩,
  ⟨0x4, 1, 0x0, 1, 0x0, 0x0, 0x0, 0xf70003f, (.const 0x2)⟩,
  ⟨0x8, 1, 0x0, 1, 0xffffffff, 0x0, 0x0, 0x0, (.const 0x0)⟩,
  ⟨0x10, 1, 0x0, 1, 0xfffff000, 0x0, 0x0, 0x0, (.const 0x0)⟩,
  ⟨0x14, 1, 0x0, 1, 0x0, 0x0, 0x0, 0x3, (.const 0x1)⟩,
  ⟨0x10000, 1, 0x0, 1, 0x0, 0x8000, 0x307f, 0x4000, (.const 0x0)⟩,
  ⟨0x10004, 1, 0x0, 1, 0x0, 0x0, 0x0, 0xff, (.const 0x0)⟩,
  ⟨0x10010, 3, 0x4, 1, 0x0, 0x0, 0x0, 0xffffffff, (.const 0x0)⟩,
  ⟨0x20000, 1, 0x0, 1, 0x0, 0x0, 0x0, 0x3ff01ff, (.const 0x30)⟩,
  ⟨0x20010, 3, 0x4, 1, 0x0, 0x0, 0x0, 0xffffffff, (.const 0x0)⟩,
  ⟨0x20020, 1, 0x0, 1, 0x0, 0x0, 0x0, 0xffffffff, (.const 0x0)⟩,
  ⟨0x20024, 1, 0x0, 1, 0x0, 0x0, 0x0, 0xffffffff, (.const 0x0)⟩,
  ⟨0x20028, 1, 0x0, 1, 0x0, 0x0, 0x0, 0x1, (.const 0x0)⟩,
  ⟨0x20030, 1, 0x0, 1, 0xffffff, 0x0, 0x0, 0x0, (.const 0x0)⟩,
  ⟨0x20034, 1, 0x0, 1, 0x0, 0x0, 0x0, 0xfffff, (.const 0x0)⟩,
  ⟨0x20040, 4, 0x4, 1, 0x0, 0x0, 0x0, 0xffffffff, (.const 0x0)⟩]

/-- The registers of the block at 0x40000. -/
def regBlock1 : List RegDesc := [
  ⟨0x40000, 35, 0x1000, 1, 0xfc0001, 0x0, 0x0, 0x0, .macCfg⟩,
  ⟨0x40004, 35, 0x1000, 1, 0x0, 0x30, 0x0, 0xf, (.const 0x0)⟩,
  ⟨0x40008, 35, 0x1000, 1, 0x3fff, 0x0, 0x0, 0x0, .macFrame⟩,
  ⟨0x40010, 10, 0x1000, 1, 0x1ffffc, 0x0, 0x0, 0x0, (.const 0x24c0)⟩,
  ⟨0x5a018, 8, 0x1000, 1, 0x3ffff8, 0x0, 0x0, 0x0, (.const 0x82000)⟩,
  ⟨0x40020, 26, 0x1000, 1, 0xffff31, 0x0, 0x0, 0x0, (.const 0x1400)⟩,
  ⟨0x62020, 1, 0x0, 1, 0x0, 0x0, 0x0, 0x0, (.const 0x0)⟩,
  ⟨0x40024, 26, 0x1000, 1, 0x0, 0x0, 0x0, 0xf, (.const 0x0)⟩,
  ⟨0x40030, 35, 0x1000, 1, 0xffffff, 0x0, 0x0, 0x0, (.const 0x0)⟩,
  ⟨0x40034, 35, 0x1000, 1, 0xffffff, 0x0, 0x0, 0x0, (.const 0x0)⟩,
  ⟨0x40040, 35, 0x1000, 1, 0x0, 0x4, 0x1, 0x2, (.const 0x0)⟩,
  ⟨0x7f000, 2, 0x100, 1, 0xffff, 0x0, 0x0, 0x0, (.const 0x131)⟩,
  ⟨0x7f004, 2, 0x100, 1, 0x0, 0x0, 0x83ffffff, 0x0, (.const 0x0)⟩,
  ⟨0x7f008, 2, 0x100, 1, 0xffff, 0x0, 0x0, 0x0, (.const 0x0)⟩,
  ⟨0x7f00c, 2, 0x100, 1, 0x0, 0x6, 0x0, 0xffff0001, (.const 0x0)⟩]

/-- The registers of the block at 0x80000. -/
def regBlock2 : List RegDesc := [
  ⟨0x80000, 1, 0x0, 1, 0x1ffff, 0x0, 0x0, 0x0, (.const 0x0)⟩,
  ⟨0x80004, 1, 0x0, 1, 0x1ffff, 0x0, 0x0, 0x0, (.const 0x0)⟩,
  ⟨0x80010, 1, 0x0, 1, 0x0, 0xc0000, 0x30000, 0xf, (.const 0x0)⟩,
  ⟨0x80014, 1, 0x0, 1, 0x0, 0x3, 0x0, 0x0, (.const 0x0)⟩,
  ⟨0x80020, 1, 0x0, 1, 0x1fff, 0x0, 0x0, 0x0, (.const 0x0)⟩,
  ⟨0x80030, 1, 0x0, 1, 0x0, 0x4, 0x1, 0x2, (.const 0x0)⟩,
  ⟨0x80100, 35, 0x4, 1, 0xf, 0x0, 0x0, 0x0, (.const 0x0)⟩]

/-- The registers of the block at 0xc0000. -/
def regBlock3 : List RegDesc := [
  ⟨0xc0000, 1, 0x0, 1, 0xff3ffff, 0x0, 0x0, 0x0, (.const 0x4000400)⟩,
  ⟨0xc0004, 1, 0x0, 1, 0x0, 0x0, 0x0, 0x3ffff, (.const 0x0)⟩,
  ⟨0xc0008, 1, 0x0, 1, 0x0, 0x1c0000, 0x0, 0x3ffff, (.const 0x0)⟩,
  ⟨0xc000c, 1, 0x0, 1, 0x0, 0x4, 0x1, 0x2, (.const 0x0)⟩,
  ⟨0xc0010, 1, 0x0, 1, 0xffff, 0x0, 0x0, 0x0, (.const 0x12c)⟩,
  ⟨0xc0014, 1, 0x0, 1, 0x0, 0x0, 0xe0007fff, 0x0, (.const 0x0)⟩,
  ⟨0xc0018, 1, 0x0, 1, 0xffffffff, 0x0, 0x0, 0x0, (.const 0x0)⟩,
  ⟨0xc001c, 1, 0x0, 1, 0xfffffff, 0x0, 0x0, 0x0, (.const 0x0)⟩,
  ⟨0xc0020, 1, 0x0, 1, 0xfffe0000, 0x0, 0x0, 0x0, (.const 0x0)⟩,
  ⟨0xc0024, 1, 0x0, 1, 0x0, 0x30000, 0x0, 0x1cffff, (.const 0x0)⟩,
  ⟨0xc0028, 1, 0x0, 1, 0x3ffff, 0x0, 0x0, 0x0, (.const 0x2000)⟩,
  ⟨0xc002c, 1, 0x0, 1, 0xffffff, 0x0, 0x0, 0x0, (.const 0x0)⟩,
  ⟨0xc0030, 1, 0x0, 1, 0xfff, 0x0, 0x0, 0x0, (.const 0x0)⟩,
  ⟨0xc0040, 1, 0x0, 4096, 0xffff0000, 0x0, 0x0, 0x0, (.const 0x0)⟩,
  ⟨0xc0044, 1, 0x0, 4096, 0xffffffff, 0x0, 0x0, 0x0, (.const 0x0)⟩,
  ⟨0xc0048, 1, 0x0, 4096, 0x80070007, 0x0, 0x0, 0x0, (.const 0x0)⟩,
  ⟨0xc004c, 1, 0x0, 4096, 0xffffffff, 0x0, 0x0, 0x0, (.const 0x0)⟩,
  ⟨0xc0050, 1, 0x0, 1, 0x3ff, 0x0, 0x0, 0x0, (.const 0x0)⟩,
  ⟨0xc0054, 1, 0x0, 1024, 0xffffffff, 0x0, 0x0, 0x0, (.const 0x0)⟩,
  ⟨0xc0058, 1, 0x0, 1024, 0x80000007, 0x0, 0x0, 0x0, (.const 0x0)⟩,
  ⟨0xc0060, 1, 0x0, 1, 0x1ff, 0x0, 0x0, 0x0, (.const 0x0)⟩,
  ⟨0xc0064, 1, 0x0, 280, 0xf803ffff, 0x0, 0x0, 0x0, (.const 0x20000)⟩,
  ⟨0xc0068, 1, 0x0, 280, 0xffffff, 0x0, 0x0, 0x0, (.const 0x0)⟩,
  ⟨0xc006c, 1, 0x0, 280, 0x0, 0x0, 0x0, 0x8003ffff, (.const 0x0)⟩,
  ⟨0xc0070, 1, 0x0, 1, 0x7, 0x0, 0x0, 0x0, (.const 0x0)⟩,
  ⟨0xc0080, 16, 0x4, 8, 0xffffffff, 0x0, 0x0, 0x0, (.const 0x0)⟩,
  ⟨0xc0100, 35, 0x4, 1, 0xf8fff, 0x0, 0x0, 0x0, (.const 0x1)⟩,
  ⟨0xc0200, 35, 0x4, 1, 0xffffff, 0x0, 0x0, 0x0, (.const 0xfac688)⟩,
  ⟨0xc0300, 8, 0x8, 1, 0xfffffff, 0x0, 0x0, 0x0, (.const 0xfffffff)⟩,
  ⟨0xc0304, 8, 0x8, 1, 0x800003ff, 0x0, 0x0, 0xf0000, (.const 0x0)⟩,
  ⟨0xc0400, 16, 0x10, 1, 0xffffffff, 0x0, 0x0, 0x0, (.const 0xffffffff)⟩,
  ⟨0xc0404, 16, 0x10, 1, 0xffffffff, 0x0, 0x0, 0x0, (.const 0xffffffff)⟩,
  ⟨0xc0408, 16, 0x10, 1, 0x3fffff, 0x0, 0x0, 0x0, (.const 0x0)⟩,
  ⟨0xcf000, 1, 0x0, 1, 0x0, 0x0, 0x0, 0xff03ffff, (.const 0x0)⟩]

/-- The registers of the block at 0x100000. -/
def regBlock4 : List RegDesc := [
  ⟨0x100000, 1, 0x0, 1, 0x1ff, 0x0, 0x0, 0x0, (.const 0x0)⟩,
  ⟨0x100004, 1, 0x0, 280, 0x3ff, 0x0, 0x0, 0x0, (.const 0x0)⟩,
  ⟨0x100008, 1, 0x0, 280, 0x1ffffff, 0x0, 0x0, 0x0, (.const 0x0)⟩,
  ⟨0x10000c, 1, 0x0, 280, 0xffffff, 0x0, 0x0, 0x0, (.const 0x0)⟩,
  ⟨0x100010, 1, 0x0, 280, 0x1ffffff, 0x0, 0x0, 0x0, (.const 0x0)⟩,
  ⟨0x100014, 1, 0x0, 280, 0xffffff, 0x0, 0x0, 0x0, (.const 0x0)⟩,
  ⟨0x100018, 1, 0x0, 280, 0x6, 0x8, 0x1, 0x10, (.const 0x0)⟩,
  ⟨0x10001c, 1, 0x0, 280, 0x0, 0x0, 0x0, 0xffffffff, (.const 0x0)⟩,
  ⟨0x100020, 1, 0x0, 280, 0x0, 0x0, 0x0, 0xffffffff, (.const 0x0)⟩,
  ⟨0x100024, 1, 0x0, 280, 0xffffffff, 0x0, 0x0, 0x0, (.const 0x0)⟩,
  ⟨0x100028, 1, 0x0, 280, 0x0, 0x0, 0x0, 0xe0ffffff, (.const 0x40ffffff)⟩,
  ⟨0x100100, 1, 0x0, 1, 0x3f, 0x0, 0x0, 0x0, (.const 0x0)⟩,
  ⟨0x100104, 1, 0x0, 34, 0x1, 0x8, 0x6, 0x0, (.const 0x0)⟩,
  ⟨0x100108, 1, 0x0, 34, 0x0, 0x300000, 0x0, 0xe03ff, (.const 0x0)⟩,
  ⟨0x100110, 1, 0x0, 34, 0xffffffff, 0x0, 0x0, 0x0, (.const 0x0)⟩,
  ⟨0x100114, 1, 0x0, 34, 0xffff, 0x0, 0x0, 0x0, (.const 0x0)⟩,
  ⟨0x100118, 1, 0x0, 34, 0x3fffffff, 0x0, 0x0, 0x0, (.const 0x0)⟩,
  ⟨0x10011c, 1, 0x0, 34, 0xffffffff, 0x0, 0x0, 0x0, (.const 0xf4240)⟩,
  ⟨0x100120, 1, 0x0, 34, 0xffffffff, 0x0, 0x0, 0x0, (.const 0x0)⟩,
  ⟨0x100124, 1, 0x0, 34, 0x7ff, 0x0, 0x0, 0x0, (.const 0x1)⟩,
  ⟨0x100128, 1, 0x0, 34, 0xfffff, 0x0, 0x0, 0x0, (.const 0x0)⟩,
  ⟨0x100130, 1, 0x0, 34, 0x0, 0x0, 0x0, 0xffffffff, (.const 0x0)⟩,
  ⟨0x100134, 1, 0x0, 34, 0x0, 0x0, 0x0, 0xffff, (.const 0x0)⟩,
  ⟨0x100138, 1, 0x0, 34, 0x0, 0x0, 0x0, 0x3fffffff, (.const 0x0)⟩,
  ⟨0x10013c, 1, 0x0, 34, 0x0, 0x0, 0x0, 0xffffffff, (.const 0xf4240)⟩,
  ⟨0x100140, 1, 0x0, 34, 0x0, 0x0, 0x0, 0xffffffff, (.const 0x0)⟩,
  ⟨0x100144, 1, 0x0, 34, 0x0, 0x0, 0x0, 0x7ff, (.const 0x1)⟩,
  ⟨0x100148, 1, 0x0, 34, 0x0, 0x0, 0x0, 0xffffffff, (.const 0x0)⟩,
  ⟨0x10014c, 1, 0x0, 34, 0x0, 0x0, 0x0, 0xffff, (.const 0x0)⟩,
  ⟨0x100150, 1, 0x0, 34, 0x0, 0x0, 0x0, 0x3fffffff, (.const 0x0)⟩,
  ⟨0x100160, 1, 0x0, 1, 0x800003ff, 0x0, 0x0, 0x0, (.const 0x0)⟩,
  ⟨0x100164, 1, 0x0, 69632, 0xffffffff, 0x0, 0x0, 0x0, (.const 0x0)⟩,
  ⟨0x100168, 1, 0x0, 69632, 0x1ff, 0x0, 0x0, 0x0, (.const 0xff)⟩,
  ⟨0x100200, 1, 0x0, 1, 0xfff, 0x0, 0x0, 0x0, (.const 0x0)⟩,
  ⟨0x100204, 1, 0x0, 4096, 0x1d3fff, 0x20000, 0x0, 0x0, (.const 0x0)⟩,
  ⟨0x100208, 1, 0x0, 4096, 0x1ffffff, 0x0, 0x0, 0x0, (.const 0x0)⟩,
  ⟨0x10020c, 1, 0x0, 4096, 0xffffff, 0x0, 0x0, 0x0, (.const 0x0)⟩,
  ⟨0x100210, 1, 0x0, 4096, 0x1ffffff, 0x0, 0x0, 0x0, (.const 0x0)⟩,
  ⟨0x100214, 1, 0x0, 4096, 0xffffff, 0x0, 0x0, 0x0, (.const 0x0)⟩,
  ⟨0x100218, 1, 0x0, 4096, 0x2, 0x4, 0x1, 0x8, (.const 0x0)⟩,
  ⟨0x10021c, 1, 0x0, 4096, 0x0, 0x0, 0x0, 0xffffffff, (.const 0x0)⟩,
  ⟨0x100220, 1, 0x0, 4096, 0x0, 0x0, 0x0, 0xffffffff, (.const 0x0)⟩,
  ⟨0x100300, 1, 0x0, 1, 0x3ff, 0x0, 0x0, 0x0, (.const 0x0)⟩,
  ⟨0x100304, 1, 0x0, 1024, 0x8000ffff, 0x0, 0x0, 0x0, (.const 0x0)⟩,
  ⟨0x100308, 1, 0x0, 1024, 0xffc0ffff, 0x0, 0x0, 0x0, (.const 0x80003e8)⟩,
  ⟨0x10030c, 1, 0x0, 1024, 0x0, 0x0, 0x20000, 0x1ffff, (.const 0x10000)⟩,
  ⟨0x100f00, 1, 0x0, 1, 0x0, 0x4, 0x1, 0x2, (.const 0x0)⟩]

/-- The registers of the block at 0x140000. -/
def regBlock5 : List RegDesc := [
  ⟨0x140000, 1, 0x0, 1, 0x0, 0x0, 0x0, 0x3fffffff, (.const 0x0)⟩,
  ⟨0x140004, 1, 0x0, 1, 0x0, 0x0, 0x0, 0xffff, (.const 0x0)⟩,
  ⟨0x140008, 1, 0x0, 1, 0x0, 0x0, 0x0, 0xffffffff, (.const 0x0)⟩,
  ⟨0x14000c, 1, 0x0, 1, 0x0, 0x0, 0x0, 0xffff, (.const 0x0)⟩,
  ⟨0x140010, 1, 0x0, 1, 0x3, 0x60, 0x18, 0x0, (.const 0x0)⟩,
  ⟨0x140014, 1, 0x0, 1, 0x0, 0x8, 0x0, 0xfff3, (.const 0x0)⟩,
  ⟨0x140018, 1, 0x0, 1, 0xffffffff, 0x0, 0x0, 0x0, (.const 0x0)⟩,
  ⟨0x14001c, 1, 0x0, 1, 0x3fffffff, 0x0, 0x0, 0x0, (.const 0x0)⟩,
  ⟨0x140020, 1, 0x0, 1, 0xffffffff, 0x0, 0x0, 0x0, (.const 0x0)⟩,
  ⟨0x140024, 1, 0x0, 1, 0xffff, 0x0, 0x0, 0x0, (.const 0x0)⟩,
  ⟨0x140030, 1, 0x0, 1, 0xffffff, 0x0, 0x0, 0x0, (.const 0x225c)⟩,
  ⟨0x140034, 1, 0x0, 1, 0xffffff, 0x0, 0x0, 0x0, (.const 0x897)⟩,
  ⟨0x140038, 1, 0x0, 1, 0xffff, 0x0, 0x0, 0x0, (.const 0x4308)⟩,
  ⟨0x14003c, 1, 0x0, 1, 0xffff0000, 0x0, 0x0, 0x0, (.const 0x640000)⟩,
  ⟨0x140040, 1, 0x0, 1, 0xffffffff, 0x0, 0x0, 0x0, (.const 0x3e8)⟩,
  ⟨0x140044, 1, 0x0, 1, 0x7fffffff, 0x0, 0x0, 0x0, (.const 0x1a36e2eb)⟩,
  ⟨0x140048, 1, 0x0, 1, 0x0, 0x0, 0x0, 0xffffffff, (.const 0x0)⟩,
  ⟨0x14004c, 1, 0x0, 1, 0x0, 0x0, 0x0, 0xffffffff, (.const 0x0)⟩,
  ⟨0x140050, 1, 0x0, 1, 0x0, 0x0, 0x0, 0xffffffff, (.const 0x0)⟩,
  ⟨0x140080, 1, 0x0, 1, 0xffffff, 0x0, 0x0, 0x0, (.const 0xd00320)⟩,
  ⟨0x140088, 1, 0x0, 1, 0xffffffff, 0x0, 0x0, 0x0, (.const 0x0)⟩,
  ⟨0x14008c, 1, 0x0, 1, 0xffffffff, 0x0, 0x0, 0x0, (.const 0x0)⟩,
  ⟨0x140100, 34, 0x8, 1, 0x1f, 0x0, 0x0, 0x0, (.const 0x1c)⟩,
  ⟨0x140104, 34, 0x8, 1, 0x0, 0x0, 0x0, 0x800fffff, (.const 0x0)⟩,
  ⟨0x140280, 34, 0x4, 1, 0x0, 0x0, 0x0, 0xffffff, (.const 0x0)⟩,
  ⟨0x140380, 1, 0x0, 1, 0xffffffb, 0x4, 0x0, 0x0, (.const 0xc3500)⟩,
  ⟨0x140384, 1, 0x0, 1, 0x0, 0x0, 0x0, 0x3fffffff, (.const 0x0)⟩,
  ⟨0x140388, 1, 0x0, 1, 0x0, 0x0, 0x0, 0xffffffff, (.const 0x0)⟩,
  ⟨0x14038c, 1, 0x0, 1, 0x0, 0x0, 0x0, 0xffff, (.const 0x0)⟩,
  ⟨0x140390, 1, 0x0, 1, 0xffffffff, 0x0, 0x0, 0x0, (.const 0x0)⟩,
  ⟨0x140394, 1, 0x0, 1, 0xffff, 0x0, 0x0, 0x0, (.const 0x0)⟩,
  ⟨0x140400, 4, 0x20, 1, 0xd, 0x12, 0x0, 0x0, (.const 0x0)⟩,
  ⟨0x140404, 4, 0x20, 1, 0x3fffffff, 0x0, 0x0, 0x0, (.const 0x0)⟩,
  ⟨0x140408, 4, 0x20, 1, 0xffffffff, 0x0, 0x0, 0x0, (.const 0x0)⟩,
  ⟨0x14040c, 4, 0x20, 1, 0xffff, 0x0, 0x0, 0x0, (.const 0x0)⟩,
  ⟨0x140410, 4, 0x20, 1, 0xffffffff, 0x0, 0x0, 0x0, (.const 0x0)⟩,
  ⟨0x140414, 4, 0x20, 1, 0xffffffff, 0x0, 0x0, 0x0, (.const 0x2)⟩,
  ⟨0x140f00, 1, 0x0, 1, 0x0, 0x4, 0x1, 0x2, (.const 0x0)⟩]

/-- The registers of the block at 0x180000. -/
def regBlock6 : List RegDesc := [
  ⟨0x180000, 24, 0x400, 1, 0x3f03, 0x8000, 0x4000, 0x4, (.const 0x400)⟩,
  ⟨0x180004, 24, 0x400, 1, 0x3fffffff, 0x0, 0x0, 0x0, (.const 0x78f3e00)⟩,
  ⟨0x180008, 24, 0x400, 1, 0x3ffffff, 0x0, 0x0, 0x0, (.const 0x111a0)⟩,
  ⟨0x18000c, 24, 0x400, 1, 0x3ffffff, 0x0, 0x0, 0x0, (.const 0x111a0)⟩,
  ⟨0x180010, 24, 0x400, 1, 0x7ffff, 0x0, 0x0, 0x0, (.const 0x70c)⟩,
  ⟨0x180014, 24, 0x400, 1, 0xffffffff, 0x0, 0x0, 0x0, (.const 0x1000000)⟩,
  ⟨0x180020, 24, 0x400, 1, 0x0, 0x0, 0x0, 0xffff8f87, (.const 0x0)⟩,
  ⟨0x180024, 24, 0x400, 1, 0x0, 0xff, 0x0, 0x0, (.const 0x0)⟩,
  ⟨0x180040, 24, 0x400, 1, 0x0, 0x4, 0x1, 0x2, (.const 0x0)⟩,
  ⟨0x186000, 8, 0x400, 1, 0x1e3, 0x800, 0x600, 0x10, (.const 0x0)⟩,
  ⟨0x186004, 8, 0x400, 1, 0xffff, 0x0, 0x0, 0x0, (.const 0x823)⟩,
  ⟨0x186008, 8, 0x400, 1, 0xff1f0000, 0x0, 0x0, 0x0, (.const 0x640d0000)⟩,
  ⟨0x18600c, 8, 0x400, 1, 0x3f3f3f3f, 0x0, 0x0, 0x0, (.const 0x0)⟩,
  ⟨0x186020, 8, 0x400, 1, 0x0, 0x0, 0x0, 0xff7, (.const 0x0)⟩,
  ⟨0x186024, 8, 0x400, 1, 0x0, 0xff, 0x0, 0x0, (.const 0x0)⟩,
  ⟨0x186040, 8, 0x400, 1, 0x0, 0x4, 0x1, 0x2, (.const 0x0)⟩,
  ⟨0x186080, 8, 0x400, 1, 0x7f, 0x0, 0x0, 0x0, (.const 0x0)⟩,
  ⟨0x186084, 8, 0x400, 128, 0xff00ffff, 0x0, 0x0, 0x0, (.const 0x0)⟩,
  ⟨0x186088, 8, 0x400, 1, 0x3f, 0x0, 0x0, 0x0, (.const 0x0)⟩,
  ⟨0x18608c, 8, 0x400, 64, 0xfc, 0x0, 0x0, 0x0, (.const 0xe0)⟩]

/-- The registers of the block at 0x1c0000. -/
def regBlock7 : List RegDesc := [
  ⟨0x1c0000, 1, 0x0, 1, 0x0, 0x4, 0x2, 0x0, (.const 0x0)⟩,
  ⟨0x1c0004, 1, 0x0, 1, 0x0, 0x0, 0x0, 0x1ff, (.const 0x0)⟩,
  ⟨0x1c0008, 1, 0x0, 1, 0x0, 0xff, 0x0, 0x0, (.const 0x0)⟩,
  ⟨0x1c000c, 1, 0x0, 1, 0x0, 0x4, 0x1, 0x2, (.const 0x0)⟩,
  ⟨0x1c0010, 1, 0x0, 1, 0xfff, 0x0, 0x0, 0x0, (.const 0x0)⟩,
  ⟨0x1c0014, 1, 0x0, 4096, 0x0, 0x0, 0x0, 0xf0000000, (.const 0x0)⟩,
  ⟨0x1c0018, 1, 0x0, 1, 0x0, 0x0, 0x0, 0x3fffffff, (.const 0x0)⟩,
  ⟨0x1c001c, 1, 0x0, 1, 0x0, 0x0, 0x0, 0xffffffff, (.const 0x0)⟩,
  ⟨0x1c0020, 1, 0x0, 1, 0x0, 0x0, 0x0, 0xffff, (.const 0x0)⟩,
  ⟨0x1c0040, 1, 0x0, 4096, 0xffff007f, 0x0, 0x0, 0x0, (.const 0x0)⟩,
  ⟨0x1c0044, 1, 0x0, 4096, 0xffffffff, 0x0, 0x0, 0x0, (.const 0x0)⟩,
  ⟨0x1c0048, 1, 0x0, 4096, 0xffffffff, 0x0, 0x0, 0x0, (.const 0x0)⟩,
  ⟨0x1c004c, 1, 0x0, 4096, 0x3ffffff, 0x0, 0x0, 0x0, (.const 0x0)⟩,
  ⟨0x1c0050, 1, 0x0, 4096, 0xffffffff, 0x0, 0x0, 0x0, (.const 0xffe00000)⟩,
  ⟨0x1c0054, 1, 0x0, 4096, 0xffffff, 0x0, 0x0, 0x0, (.const 0x0)⟩,
  ⟨0x1c0058, 1, 0x0, 4096, 0xffffffff, 0x0, 0x0, 0x0, (.const 0x0)⟩,
  ⟨0x1c005c, 1, 0x0, 4096, 0x0, 0x0, 0x0, 0x0, (.const 0x0)⟩,
  ⟨0x1c0080, 16, 0x4, 4096, 0xffffffff, 0x0, 0x0, 0x0, (.const 0x0)⟩,
  ⟨0x1c0100, 1, 0x0, 1, 0x3fff, 0x0, 0x0, 0x0, (.const 0x0)⟩,
  ⟨0x1c0120, 1, 0x0, 16384, 0xffff0fff, 0x0, 0x0, 0x0, (.const 0x0)⟩,
  ⟨0x1c0124, 1, 0x0, 16384, 0x7fffdf, 0x0, 0x0, 0x0, (.const 0x0)⟩,
  ⟨0x1c0128, 1, 0x0, 16384, 0x7fffc0, 0x0, 0x0, 0x0, (.const 0x0)⟩,
  ⟨0x1c012c, 1, 0x0, 16384, 0xffffffff, 0x0, 0x0, 0x0, (.const 0x0)⟩,
  ⟨0x1c0130, 1, 0x0, 16384, 0xffffffff, 0x0, 0x0, 0x0, (.const 0x0)⟩,
  ⟨0x1c0134, 1, 0x0, 16384, 0xffffffff, 0x0, 0x0, 0x0, (.const 0x0)⟩,
  ⟨0x1c0138, 1, 0x0, 16384, 0xffffffff, 0x0, 0x0, 0x0, (.const 0x0)⟩,
  ⟨0x1c013c, 1, 0x0, 16384, 0xffffffff, 0x0, 0x0, 0x0, (.const 0x0)⟩,
  ⟨0x1c0140, 1, 0x0, 1, 0x3fff, 0x0, 0x0, 0x0, (.const 0x0)⟩,
  ⟨0x1c0144, 1, 0x0, 16384, 0x80ffffff, 0x0, 0x0, 0x0, (.const 0x80000000)⟩,
  ⟨0x1c0180, 1, 0x0, 1, 0x1ff, 0x0, 0x0, 0x0, (.const 0x0)⟩,
  ⟨0x1c0184, 1, 0x0, 512, 0xe3c03fff, 0x0, 0x0, 0x0, (.const 0x5fa)⟩,
  ⟨0x1c0188, 1, 0x0, 512, 0xffffffff, 0x0, 0x0, 0x0, (.const 0x0)⟩,
  ⟨0x1c01c0, 16, 0x4, 512, 0xffffffff, 0x0, 0x0, 0x0, (.const 0x0)⟩,
  ⟨0x1c0200, 1, 0x0, 1, 0x7ff, 0x0, 0x0, 0x0, (.const 0x0)⟩,
  ⟨0x1c0204, 1, 0x0, 1536, 0x0, 0x0, 0x0, 0x80ffffff, (.const 0x0)⟩]

/-- The registers of the block at 0x200000. -/
def regBlock8 : List RegDesc := [
  ⟨0x200000, 1, 0x0, 1, 0x0, 0x1, 0x0, 0x0, (.const 0x0)⟩,
  ⟨0x200004, 1, 0x0, 1, 0x0, 0x4, 0x1, 0x2, (.const 0x0)⟩,
  ⟨0x200008, 1, 0x0, 1, 0x0, 0x0, 0x0, 0x7fff, (.const 0x7f00)⟩,
  ⟨0x200100, 35, 0x4, 1, 0xf, 0x0, 0x0, 0x0, (.const 0x0)⟩,
  ⟨0x200200, 32, 0x4, 1, 0xf, 0x0, 0x0, 0x0, (.const 0x0)⟩,
  ⟨0x200300, 36, 0x4, 1, 0xf, 0x0, 0x0, 0x0, (.const 0x0)⟩,
  ⟨0x200400, 256, 0x4, 1, 0xdf000000, 0x0, 0x0, 0x0, .zoneDiag⟩,
  ⟨0x200800, 1, 0x0, 1, 0x1f, 0x0, 0x0, 0x0, (.const 0x0)⟩,
  ⟨0x200804, 1, 0x0, 32, 0x1ffffff, 0x0, 0x0, 0x0, (.const 0x0)⟩,
  ⟨0x200808, 1, 0x0, 32, 0xffffff, 0x0, 0x0, 0x0, (.const 0x0)⟩,
  ⟨0x20080c, 1, 0x0, 32, 0x6, 0x8, 0x1, 0x10, (.const 0x0)⟩,
  ⟨0x200810, 1, 0x0, 32, 0x0, 0x0, 0x0, 0xffffffff, (.const 0x0)⟩,
  ⟨0x208000, 10, 0x400, 1, 0x3fb, 0x0, 0x0, 0x0, (.const 0xf8)⟩,
  ⟨0x208004, 10, 0x400, 1, 0x0, 0x1, 0x0, 0x2, (.const 0x0)⟩,
  ⟨0x208008, 10, 0x400, 1, 0xffffffff, 0x0, 0x0, 0x0, (.const 0x0)⟩,
  ⟨0x208010, 10, 0x400, 1, 0xffffffff, 0x0, 0x0, 0x0, (.const 0x0)⟩,
  ⟨0x208014, 10, 0x400, 1, 0xffffffff, 0x0, 0x0, 0x0, (.const 0x0)⟩,
  ⟨0x208020, 10, 0x400, 1, 0x1f, 0x0, 0x0, 0x0, (.const 0x0)⟩,
  ⟨0x208024, 10, 0x400, 32, 0xffe00000, 0x0, 0x0, 0x0, (.const 0x0)⟩,
  ⟨0x208028, 10, 0x400, 32, 0xffffffff, 0x0, 0x0, 0x0, (.const 0x0)⟩,
  ⟨0x20802c, 10, 0x400, 32, 0xffffffff, 0x0, 0x0, 0x0, (.const 0x0)⟩,
  ⟨0x208030, 10, 0x400, 32, 0xffffffff, 0x0, 0x0, 0x0, (.const 0x0)⟩,
  ⟨0x208034, 10, 0x400, 32, 0xffffffff, 0x0, 0x0, 0x0, (.const 0x0)⟩,
  ⟨0x208038, 10, 0x400, 32, 0xffffffff, 0x0, 0x0, 0x0, (.const 0x0)⟩,
  ⟨0x20803c, 10, 0x400, 32, 0xffffffff, 0x0, 0x0, 0x0, (.const 0x0)⟩,
  ⟨0x208040, 10, 0x400, 32, 0xffffffff, 0x0, 0x0, 0x0, (.const 0x0)⟩,
  ⟨0x208044, 10, 0x400, 32, 0xffffffff, 0x0, 0x0, 0x0, (.const 0x0)⟩]

/-- The registers of the block at 0x240000. -/
def regBlock9 : List RegDesc := [
  ⟨0x240000, 1, 0x0, 1, 0x0, 0x200, 0x0, 0x1f7, (.const 0x0)⟩,
  ⟨0x240008, 1, 0x0, 1, 0x0, 0x0, 0x0, 0xffffffff, (.const 0x0)⟩,
  ⟨0x24000c, 1, 0x0, 1, 0x0, 0x0, 0x0, 0xffffffff, (.const 0x0)⟩,
  ⟨0x240010, 1, 0x0, 1, 0x0, 0x0, 0x0, 0x7f7f03, (.const 0x0)⟩,
  ⟨0x240014, 1, 0x0, 1, 0x0, 0x0, 0x0, 0xffffffff, (.const 0x0)⟩,
  ⟨0x240020, 1, 0x0, 1, 0x0, 0xa, 0x0, 0x3ff0001, (.const 0x0)⟩,
  ⟨0x240030, 1, 0x0, 1, 0x1ff, 0x0, 0x0, 0x0, (.const 0x0)⟩,
  ⟨0x240034, 1, 0x0, 512, 0x0, 0x0, 0x0, 0xf8ffffff, (.const 0x0)⟩,
  ⟨0x240038, 1, 0x0, 512, 0x0, 0x0, 0x0, 0x38ffffff, (.const 0x0)⟩,
  ⟨0x240040, 3, 0x10, 1, 0x0, 0x0, 0x0, 0x7, (.const 0x0)⟩,
  ⟨0x240044, 3, 0x10, 1, 0x0, 0x0, 0x0, 0xffffffff, (.const 0x0)⟩,
  ⟨0x240048, 3, 0x10, 1, 0x0, 0x0, 0x0, 0xff, (.const 0x0)⟩,
  ⟨0x240100, 64, 0x4, 1, 0x0, 0x0, 0x0, 0xffff, (.const 0x0)⟩,
  ⟨0x260000, 1, 0x0, 1, 0xffffff0b, 0x0, 0x0, 0x0, (.const 0x3c0c800)⟩,
  ⟨0x260004, 1, 0x0, 1, 0x0, 0x4, 0x2, 0x0, (.const 0x0)⟩,
  ⟨0x260008, 1, 0x0, 1, 0x0, 0x10, 0x0, 0xff63, (.const 0xff03)⟩,
  ⟨0x26000c, 1, 0x0, 1, 0x0, 0x0, 0x0, 0xffffffff, (.const 0x0)⟩,
  ⟨0x260010, 1, 0x0, 1, 0x0, 0x0, 0x0, 0xffffffff, (.const 0x0)⟩,
  ⟨0x260020, 4, 0x8, 1, 0x0, 0x0, 0x0, 0xffffffff, (.const 0x0)⟩,
  ⟨0x260024, 4, 0x8, 1, 0x0, 0x0, 0x0, 0xffffffff, (.const 0x0)⟩,
  ⟨0x260040, 8, 0x4, 1, 0x0, 0x0, 0x0, 0xffffffff, (.const 0x0)⟩,
  ⟨0x260080, 1, 0x0, 1, 0xffffffff, 0x0, 0x0, 0x0, (.const 0x0)⟩,
  ⟨0x2600c0, 16, 0x4, 1, 0x0, 0x0, 0x0, 0xffffffff, (.const 0x0)⟩]

/-- The registers of the block at 0x280000. -/
def regBlock10 : List RegDesc := [
  ⟨0x280000, 1, 0x0, 1, 0x0, 0x0, 0x0, 0xffff0031, (.const 0x0)⟩,
  ⟨0x280004, 1, 0x0, 1, 0xffffe0ff, 0x0, 0x0, 0x0, (.const 0x7d0200a)⟩,
  ⟨0x280008, 1, 0x0, 1, 0xffffff00, 0x0, 0x0, 0x0, (.const 0x3e80500)⟩,
  ⟨0x28000c, 1, 0x0, 1, 0xffffffff, 0x0, 0x0, 0x0, (.const 0x12c0064)⟩,
  ⟨0x280010, 1, 0x0, 1, 0x0, 0x20000, 0xffff, 0x10000, (.const 0x0)⟩,
  ⟨0x280014, 1, 0x0, 1, 0xffff, 0x0, 0x0, 0x0, (.const 0x0)⟩,
  ⟨0x280018, 1, 0x0, 1, 0xffff, 0x0, 0x0, 0x0, (.const 0x0)⟩,
  ⟨0x28001c, 1, 0x0, 1, 0x0, 0x0, 0x0, 0xff1fffff, (.const 0xff000000)⟩,
  ⟨0x280020, 1, 0x0, 1, 0xffffffff, 0x0, 0x0, 0x0, (.const 0x0)⟩,
  ⟨0x280024, 1, 0x0, 1, 0xffff, 0x0, 0x0, 0x0, (.const 0x0)⟩,
  ⟨0x280040, 5, 0x4, 1, 0xffffffff, 0x0, 0x0, 0x0, (.const 0x0)⟩,
  ⟨0x280060, 4, 0x4, 1, 0xffffffff, 0x0, 0x0, 0x0, (.const 0x0)⟩,
  ⟨0x280080, 16, 0x4, 1, 0x0, 0x0, 0x0, 0xf8ffffff, (.const 0xff0000)⟩,
  ⟨0x280100, 5, 0x8, 1, 0xc000ffff, 0x0, 0x0, 0x0, .wakeIn⟩,
  ⟨0x280104, 5, 0x8, 1, 0xffff, 0x0, 0x0, 0x0, (.const 0x0)⟩,
  ⟨0x280140, 1, 0x0, 1, 0xffffffff, 0x0, 0x0, 0x0, (.const 0x321064)⟩,
  ⟨0x280144, 1, 0x0, 1, 0x0, 0x0, 0x0, 0x1f1f1f, (.const 0x0)⟩,
  ⟨0x280180, 1, 0x0, 1, 0x1f, 0x0, 0x0, 0x0, (.const 0x0)⟩,
  ⟨0x280184, 1, 0x0, 32, 0xfffff000, 0x0, 0x0, 0x0, (.const 0x0)⟩,
  ⟨0x280188, 1, 0x0, 32, 0xffff, 0x0, 0x0, 0x0, (.const 0x0)⟩,
  ⟨0x28018c, 1, 0x0, 32, 0xffffffff, 0x0, 0x0, 0x0, (.const 0x0)⟩,
  ⟨0x280190, 1, 0x0, 32, 0xffff, 0x0, 0x0, 0x0, (.const 0x0)⟩,
  ⟨0x280f00, 1, 0x0, 1, 0x0, 0x4, 0x1, 0x2, (.const 0x0)⟩,
  ⟨0x28f000, 1, 0x0, 1, 0x0, 0x0, 0x0, 0xffffffff, (.const 0xff0000)⟩]

/-- The registers of the block at 0x2c0000. -/
def regBlock11 : List RegDesc := [
  ⟨0x2c0000, 1, 0x0, 1, 0x0, 0x0, 0x0, 0xe0ff0f00, (.const 0x0)⟩,
  ⟨0x2c0004, 1, 0x0, 1, 0xfffffff1, 0x0, 0x0, 0x0, (.const 0x13887830)⟩,
  ⟨0x2c0008, 1, 0x0, 1, 0xff, 0x0, 0x0, 0x0, (.const 0x0)⟩,
  ⟨0x2c000c, 1, 0x0, 1, 0x0, 0x0, 0x0, 0xff000006, (.const 0x0)⟩,
  ⟨0x2c0010, 1, 0x0, 1, 0x0, 0x0, 0x0, 0xff00001f, (.const 0xff000000)⟩,
  ⟨0x2c0018, 1, 0x0, 1, 0x0, 0x0, 0x0, 0xffffffff, (.const 0x0)⟩,
  ⟨0x2c001c, 1, 0x0, 1, 0x0, 0x0, 0x0, 0xffffffff, (.const 0x0)⟩,
  ⟨0x2c0020, 1, 0x0, 1, 0x0, 0x0, 0xbf, 0x0, (.const 0x0)⟩,
  ⟨0x2c0040, 1, 0x0, 1, 0x0, 0x0, 0x0, 0xffffffff, (.const 0xf4240)⟩,
  ⟨0x2c0044, 1, 0x0, 1, 0x0, 0x0, 0x0, 0xffff, (.const 0x7d0)⟩,
  ⟨0x2c0080, 1, 0x0, 1, 0x3ff, 0x0, 0x0, 0x0, (.const 0x0)⟩,
  ⟨0x2c0084, 6, 0x4, 1024, 0x0, 0x0, 0x0, 0xffffffff, (.const 0x0)⟩,
  ⟨0x2c0f00, 1, 0x0, 1, 0x0, 0x4, 0x1, 0x2, (.const 0x0)⟩,
  ⟨0x2cf000, 1, 0x0, 1, 0x0, 0x0, 0x0, 0xffffffff, (.const 0x0)⟩]

/-- The registers of the block at 0x300000. -/
def regBlock12 : List RegDesc := [
  ⟨0x300000, 1, 0x0, 1, 0xff0ffff, 0x0, 0x0, 0xf0000000, (.const 0x400000a)⟩,
  ⟨0x300004, 1, 0x0, 1, 0xffffffff, 0x0, 0x0, 0x0, (.const 0x6400c8)⟩,
  ⟨0x300008, 1, 0x0, 1, 0xffffff00, 0x0, 0x0, 0x0, (.const 0x3e80800)⟩,
  ⟨0x30000c, 1, 0x0, 1, 0xffff00ff, 0x0, 0x0, 0x0, (.const 0x1000001)⟩,
  ⟨0x300010, 1, 0x0, 1, 0x0, 0x0, 0x0, 0x1ff0f0f, (.const 0x0)⟩,
  ⟨0x300014, 1, 0x0, 1, 0x0, 0x8, 0x6, 0x0, (.const 0x0)⟩,
  ⟨0x300018, 1, 0x0, 1, 0x0, 0xff, 0x0, 0x0, (.const 0x0)⟩,
  ⟨0x300020, 1, 0x0, 1, 0x0, 0x0, 0x0, 0xffffffff, (.const 0x0)⟩,
  ⟨0x300024, 1, 0x0, 1, 0x0, 0x0, 0x0, 0xffffffff, (.const 0x0)⟩,
  ⟨0x300f00, 1, 0x0, 1, 0x0, 0x4, 0x1, 0x2, (.const 0x0)⟩]

/-- The registers of the block at 0x340000. -/
def regBlock13 : List RegDesc := [
  ⟨0x340000, 1, 0x0, 1, 0x0, 0x0, 0x0, 0x1ff001f, (.const 0x0)⟩,
  ⟨0x340004, 1, 0x0, 1, 0xfff80fff, 0x40000, 0x0, 0x0, (.const 0xfe000000)⟩,
  ⟨0x340008, 1, 0x0, 1, 0xffffffff, 0x0, 0x0, 0x0, (.const 0x0)⟩,
  ⟨0x34000c, 1, 0x0, 1, 0xffff, 0x0, 0x0, 0x0, (.const 0x0)⟩,
  ⟨0x340010, 2, 0x4, 1, 0xffffffff, 0x0, 0x0, 0x0, (.const 0xffffffff)⟩,
  ⟨0x340018, 1, 0x0, 1, 0x3f, 0x0, 0x0, 0x0, (.const 0x0)⟩,
  ⟨0x34001c, 1, 0x0, 64, 0x0, 0x0, 0x0, 0xffffffff, (.const 0x0)⟩,
  ⟨0x340f00, 1, 0x0, 1, 0x0, 0x4, 0x1, 0x2, (.const 0x0)⟩,
  ⟨0x341000, 1, 0x0, 1, 0x0, 0x6, 0x0, 0x9, (.const 0x0)⟩,
  ⟨0x341008, 1, 0x0, 1, 0x0, 0x0, 0x0, 0xffffffff, (.const 0x0)⟩,
  ⟨0x34100c, 1, 0x0, 1, 0x0, 0x0, 0x0, 0xffffffff, (.const 0x0)⟩,
  ⟨0x341010, 1, 0x0, 1, 0x0, 0x0, 0x0, 0xffffffff, (.const 0x0)⟩,
  ⟨0x341014, 1, 0x0, 1, 0x0, 0x0, 0x0, 0xffffffff, (.const 0x0)⟩,
  ⟨0x341020, 1, 0x0, 1, 0xffffffff, 0x0, 0x0, 0x0, (.const 0x0)⟩,
  ⟨0x341024, 1, 0x0, 1, 0xffffffff, 0x0, 0x0, 0x0, (.const 0x0)⟩,
  ⟨0x341040, 16, 0x4, 1, 0x0, 0x0, 0x0, 0xffffffff, (.const 0x0)⟩,
  ⟨0x342000, 1, 0x0, 1, 0x0, 0x2000000, 0x0, 0x1ff007f, (.const 0x0)⟩,
  ⟨0x342004, 1, 0x0, 1, 0x0, 0x0, 0x0, 0xffff, (.const 0x0)⟩,
  ⟨0x34f000, 1, 0x0, 1, 0x0, 0x0, 0x0, 0xff00ffff, (.const 0x0)⟩,
  ⟨0x34f004, 1, 0x0, 1, 0x0, 0x0, 0x0, 0xffffffff, (.const 0x0)⟩,
  ⟨0x34f008, 1, 0x0, 1, 0x0, 0x0, 0x0, 0x3fffffff, (.const 0x0)⟩,
  ⟨0x34f00c, 1, 0x0, 1, 0x0, 0x0, 0x0, 0xffffffff, (.const 0x0)⟩,
  ⟨0x34f010, 1, 0x0, 1, 0x0, 0x0, 0x0, 0xffff, (.const 0x0)⟩,
  ⟨0x34f020, 1, 0x0, 1, 0x0, 0x0, 0x0, 0xffffffff, (.const 0x0)⟩,
  ⟨0x34f040, 12, 0x4, 1, 0x0, 0x0, 0x0, 0xffffffff, (.const 0x0)⟩]

/-- The registers of the block at 0x380000. -/
def regBlock14 : List RegDesc := [
  ⟨0x380000, 32, 0x4, 1, 0x300, 0xe0000, 0x400, 0x18003, (.const 0x1)⟩,
  ⟨0x380080, 1, 0x0, 1, 0x0, 0x0, 0x0, 0xffffffff, (.const 0xffffff)⟩,
  ⟨0x380100, 1, 0x0, 1, 0x0, 0x0, 0x0, 0xffffff, (.const 0x0)⟩,
  ⟨0x380104, 1, 0x0, 1, 0x0, 0x0, 0x0, 0x800007ff, (.const 0x0)⟩]

/-- The registers of the block of 0x40000 bytes an address lies in. -/
def regBlock (b : Nat) : List RegDesc :=
  match b with
  | 0 => regBlock0
  | 1 => regBlock1
  | 2 => regBlock2
  | 3 => regBlock3
  | 4 => regBlock4
  | 5 => regBlock5
  | 6 => regBlock6
  | 7 => regBlock7
  | 8 => regBlock8
  | 9 => regBlock9
  | 10 => regBlock10
  | 11 => regBlock11
  | 12 => regBlock12
  | 13 => regBlock13
  | 14 => regBlock14
  | _ => []

/-- GLB_ID (spec/18/R511). -/
def K.GLB_ID : Nat := 0x0
/-- GLB_STATUS (spec/18/R511). -/
def K.GLB_STATUS : Nat := 0x4
/-- GLB_SCRATCH (spec/18/R511). -/
def K.GLB_SCRATCH : Nat := 0x8
/-- GLB_PAGE_INDEX (spec/18/R511). -/
def K.GLB_PAGE_INDEX : Nat := 0x10
/-- GLB_PAGE_INFO (spec/18/R511). -/
def K.GLB_PAGE_INFO : Nat := 0x14
/-- RST_CTRL (spec/17/R502). -/
def K.RST_CTRL : Nat := 0x10000
/-- CLK_STATUS (spec/17/R502). -/
def K.CLK_STATUS : Nat := 0x10004
/-- RST_HELD (spec/17/R502). -/
def K.RST_HELD (i : Nat) : Nat := 0x10010 + 0x4 * i
/-- BOOT_STATUS (spec/02/R70). -/
def K.BOOT_STATUS : Nat := 0x20000
/-- BOOT_FAIL (spec/02/R71). -/
def K.BOOT_FAIL (i : Nat) : Nat := 0x20010 + 0x4 * i
/-- BOOT_IMAGE_VER (spec/02/R72). -/
def K.BOOT_IMAGE_VER : Nat := 0x20020
/-- BOOT_ROLLBACK (spec/02/R72). -/
def K.BOOT_ROLLBACK : Nat := 0x20024
/-- BOOT_PREF (spec/02/R72). -/
def K.BOOT_PREF : Nat := 0x20028
/-- BOOT_HOLD (spec/02/R72). -/
def K.BOOT_HOLD : Nat := 0x20030
/-- BOOT_TIME (spec/02/R72). -/
def K.BOOT_TIME : Nat := 0x20034
/-- BOOT_BUILD (spec/02/R72). -/
def K.BOOT_BUILD (i : Nat) : Nat := 0x20040 + 0x4 * i
/-- MAC_CFG (spec/03/R94). -/
def K.MAC_CFG (i : Nat) : Nat := 0x40000 + 0x1000 * i
/-- MAC_STATUS (spec/03/R94). -/
def K.MAC_STATUS (i : Nat) : Nat := 0x40004 + 0x1000 * i
/-- MAC_FRAME (spec/03/R94). -/
def K.MAC_FRAME (i : Nat) : Nat := 0x40008 + 0x1000 * i
/-- SERDES_CFG (spec/03/R94). -/
def K.SERDES_CFG (i : Nat) : Nat := 0x40010 + 0x1000 * i
/-- PLCA_CFG (spec/03/R94). -/
def K.PLCA_CFG (i : Nat) : Nat := 0x5a018 + 0x1000 * i
/-- MERGE_CFG (spec/03/R94). -/
def K.MERGE_CFG (i : Nat) : Nat := 0x40020 + 0x1000 * i
/-- MERGE_CFG_M (spec/03/R94). -/
def K.MERGE_CFG_M : Nat := 0x62020
/-- MERGE_STATUS (spec/03/R94). -/
def K.MERGE_STATUS (i : Nat) : Nat := 0x40024 + 0x1000 * i
/-- TS_COMP_TX (spec/03/R94). -/
def K.TS_COMP_TX (i : Nat) : Nat := 0x40030 + 0x1000 * i
/-- TS_COMP_RX (spec/03/R94). -/
def K.TS_COMP_RX (i : Nat) : Nat := 0x40034 + 0x1000 * i
/-- CNT_CTRL (spec/03/R95). -/
def K.CNT_CTRL (i : Nat) : Nat := 0x40040 + 0x1000 * i
/-- MDIO_CFG (spec/03/R96). -/
def K.MDIO_CFG (i : Nat) : Nat := 0x7f000 + 0x100 * i
/-- MDIO_CMD (spec/03/R96). -/
def K.MDIO_CMD (i : Nat) : Nat := 0x7f004 + 0x100 * i
/-- MDIO_WDATA (spec/03/R96). -/
def K.MDIO_WDATA (i : Nat) : Nat := 0x7f008 + 0x100 * i
/-- MDIO_STATUS (spec/03/R96). -/
def K.MDIO_STATUS (i : Nat) : Nat := 0x7f00c + 0x100 * i
/-- PRS_TPID (spec/04/R130). -/
def K.PRS_TPID : Nat := 0x80000
/-- PRS_UDP (spec/04/R130). -/
def K.PRS_UDP : Nat := 0x80004
/-- CLS_GEN (spec/04/R130). -/
def K.CLS_GEN : Nat := 0x80010
/-- CLS_STATUS (spec/04/R131). -/
def K.CLS_STATUS : Nat := 0x80014
/-- CLS_WIN_INDEX (spec/04/R131). -/
def K.CLS_WIN_INDEX : Nat := 0x80020
/-- CLS_CNT_CTRL (spec/04/R132). -/
def K.CLS_CNT_CTRL : Nat := 0x80030
/-- PRS_PORT (spec/04/R131). -/
def K.PRS_PORT (i : Nat) : Nat := 0x80100 + 0x4 * i
/-- BUF_CFG (spec/05/R168). -/
def K.BUF_CFG : Nat := 0xc0000
/-- BUF_STATUS (spec/05/R168). -/
def K.BUF_STATUS : Nat := 0xc0004
/-- BUF_AUDIT (spec/05/R168). -/
def K.BUF_AUDIT : Nat := 0xc0008
/-- BUF_CNT_CTRL (spec/05/R168). -/
def K.BUF_CNT_CTRL : Nat := 0xc000c
/-- FDB_CFG (spec/05/R168). -/
def K.FDB_CFG : Nat := 0xc0010
/-- FDB_CMD (spec/05/R168). -/
def K.FDB_CMD : Nat := 0xc0014
/-- FDB_KEY_LO (spec/05/R168). -/
def K.FDB_KEY_LO : Nat := 0xc0018
/-- FDB_KEY_HI (spec/05/R168). -/
def K.FDB_KEY_HI : Nat := 0xc001c
/-- FDB_DATA (spec/05/R168). -/
def K.FDB_DATA : Nat := 0xc0020
/-- FDB_STATUS (spec/05/R168). -/
def K.FDB_STATUS : Nat := 0xc0024
/-- VOQ_CFG (spec/05/R168). -/
def K.VOQ_CFG : Nat := 0xc0028
/-- VOQ_AGE (spec/05/R168). -/
def K.VOQ_AGE : Nat := 0xc002c
/-- VLAN_WIN_INDEX (spec/05/R170). -/
def K.VLAN_WIN_INDEX : Nat := 0xc0030
/-- VLAN_WIN_DATA0 (spec/05/R170). -/
def K.VLAN_WIN_DATA0 (e : Nat) : Nat := 0xc0040 + 0x100000000 * e
/-- VLAN_WIN_DATA1 (spec/05/R170). -/
def K.VLAN_WIN_DATA1 (e : Nat) : Nat := 0xc0044 + 0x100000000 * e
/-- VLAN_WIN_DATA2 (spec/05/R170). -/
def K.VLAN_WIN_DATA2 (e : Nat) : Nat := 0xc0048 + 0x100000000 * e
/-- VLAN_WIN_DATA3 (spec/05/R170). -/
def K.VLAN_WIN_DATA3 (e : Nat) : Nat := 0xc004c + 0x100000000 * e
/-- MCG_WIN_INDEX (spec/05/R170). -/
def K.MCG_WIN_INDEX : Nat := 0xc0050
/-- MCG_WIN_DATA0 (spec/05/R170). -/
def K.MCG_WIN_DATA0 (e : Nat) : Nat := 0xc0054 + 0x100000000 * e
/-- MCG_WIN_DATA1 (spec/05/R170). -/
def K.MCG_WIN_DATA1 (e : Nat) : Nat := 0xc0058 + 0x100000000 * e
/-- QUE_WIN_INDEX (spec/05/R168). -/
def K.QUE_WIN_INDEX : Nat := 0xc0060
/-- QUE_WIN_CFG (spec/05/R168). -/
def K.QUE_WIN_CFG (e : Nat) : Nat := 0xc0064 + 0x100000000 * e
/-- QUE_WIN_AGE (spec/05/R168). -/
def K.QUE_WIN_AGE (e : Nat) : Nat := 0xc0068 + 0x100000000 * e
/-- QUE_WIN_STATUS (spec/05/R168). -/
def K.QUE_WIN_STATUS (e : Nat) : Nat := 0xc006c + 0x100000000 * e
/-- LAG_WIN_INDEX (spec/05/R170). -/
def K.LAG_WIN_INDEX : Nat := 0xc0070
/-- LAG_WIN_TABLE (spec/05/R170). -/
def K.LAG_WIN_TABLE (i e : Nat) : Nat := 0xc0080 + 0x4 * i + 0x100000000 * e
/-- PORT_L2 (spec/05/R170). -/
def K.PORT_L2 (i : Nat) : Nat := 0xc0100 + 0x4 * i
/-- PORT_PCP (spec/05/R170). -/
def K.PORT_PCP (i : Nat) : Nat := 0xc0200 + 0x4 * i
/-- LAG_CFG (spec/05/R170). -/
def K.LAG_CFG (i : Nat) : Nat := 0xc0300 + 0x8 * i
/-- LAG_SEL (spec/05/R170). -/
def K.LAG_SEL (i : Nat) : Nat := 0xc0304 + 0x8 * i
/-- WRED_G_THR (spec/05/R170). -/
def K.WRED_G_THR (i : Nat) : Nat := 0xc0400 + 0x10 * i
/-- WRED_Y_THR (spec/05/R170). -/
def K.WRED_Y_THR (i : Nat) : Nat := 0xc0404 + 0x10 * i
/-- WRED_PARAM (spec/05/R170). -/
def K.WRED_PARAM (i : Nat) : Nat := 0xc0408 + 0x10 * i
/-- BUF_QLOG (spec/05/R168). -/
def K.BUF_QLOG : Nat := 0xcf000
/-- SCH_QUE_INDEX (spec/06/R204). -/
def K.SCH_QUE_INDEX : Nat := 0x100000
/-- SCH_QUE_CFG (spec/06/R204). -/
def K.SCH_QUE_CFG (e : Nat) : Nat := 0x100004 + 0x100000000 * e
/-- SHP_CIR (spec/06/R204). -/
def K.SHP_CIR (e : Nat) : Nat := 0x100008 + 0x100000000 * e
/-- SHP_CBS (spec/06/R204). -/
def K.SHP_CBS (e : Nat) : Nat := 0x10000c + 0x100000000 * e
/-- SHP_PIR (spec/06/R204). -/
def K.SHP_PIR (e : Nat) : Nat := 0x100010 + 0x100000000 * e
/-- SHP_PBS (spec/06/R204). -/
def K.SHP_PBS (e : Nat) : Nat := 0x100014 + 0x100000000 * e
/-- SHP_CTRL (spec/06/R204). -/
def K.SHP_CTRL (e : Nat) : Nat := 0x100018 + 0x100000000 * e
/-- SHP_C_LEVEL (spec/06/R204). -/
def K.SHP_C_LEVEL (e : Nat) : Nat := 0x10001c + 0x100000000 * e
/-- SHP_P_LEVEL (spec/06/R204). -/
def K.SHP_P_LEVEL (e : Nat) : Nat := 0x100020 + 0x100000000 * e
/-- SCH_LAUNCH (spec/06/R204). -/
def K.SCH_LAUNCH (e : Nat) : Nat := 0x100024 + 0x100000000 * e
/-- SCH_QUE_STATUS (spec/06/R204). -/
def K.SCH_QUE_STATUS (e : Nat) : Nat := 0x100028 + 0x100000000 * e
/-- GATE_WIN_PORT (spec/06/R204). -/
def K.GATE_WIN_PORT : Nat := 0x100100
/-- GATE_CTRL (spec/06/R204). -/
def K.GATE_CTRL (e : Nat) : Nat := 0x100104 + 0x100000000 * e
/-- GATE_STATUS (spec/06/R204). -/
def K.GATE_STATUS (e : Nat) : Nat := 0x100108 + 0x100000000 * e
/-- GATE_ADMIN_BASE_S_LO (spec/06/R204). -/
def K.GATE_ADMIN_BASE_S_LO (e : Nat) : Nat := 0x100110 + 0x100000000 * e
/-- GATE_ADMIN_BASE_S_HI (spec/06/R204). -/
def K.GATE_ADMIN_BASE_S_HI (e : Nat) : Nat := 0x100114 + 0x100000000 * e
/-- GATE_ADMIN_BASE_NS (spec/06/R204). -/
def K.GATE_ADMIN_BASE_NS (e : Nat) : Nat := 0x100118 + 0x100000000 * e
/-- GATE_ADMIN_CYCLE (spec/06/R204). -/
def K.GATE_ADMIN_CYCLE (e : Nat) : Nat := 0x10011c + 0x100000000 * e
/-- GATE_ADMIN_EXT (spec/06/R204). -/
def K.GATE_ADMIN_EXT (e : Nat) : Nat := 0x100120 + 0x100000000 * e
/-- GATE_ADMIN_LEN (spec/06/R204). -/
def K.GATE_ADMIN_LEN (e : Nat) : Nat := 0x100124 + 0x100000000 * e
/-- GATE_HOLD_ADV (spec/06/R204). -/
def K.GATE_HOLD_ADV (e : Nat) : Nat := 0x100128 + 0x100000000 * e
/-- GATE_OPER_BASE_S_LO (spec/06/R204). -/
def K.GATE_OPER_BASE_S_LO (e : Nat) : Nat := 0x100130 + 0x100000000 * e
/-- GATE_OPER_BASE_S_HI (spec/06/R204). -/
def K.GATE_OPER_BASE_S_HI (e : Nat) : Nat := 0x100134 + 0x100000000 * e
/-- GATE_OPER_BASE_NS (spec/06/R204). -/
def K.GATE_OPER_BASE_NS (e : Nat) : Nat := 0x100138 + 0x100000000 * e
/-- GATE_OPER_CYCLE (spec/06/R204). -/
def K.GATE_OPER_CYCLE (e : Nat) : Nat := 0x10013c + 0x100000000 * e
/-- GATE_OPER_EXT (spec/06/R204). -/
def K.GATE_OPER_EXT (e : Nat) : Nat := 0x100140 + 0x100000000 * e
/-- GATE_OPER_LEN (spec/06/R204). -/
def K.GATE_OPER_LEN (e : Nat) : Nat := 0x100144 + 0x100000000 * e
/-- GATE_CHANGE_S_LO (spec/06/R204). -/
def K.GATE_CHANGE_S_LO (e : Nat) : Nat := 0x100148 + 0x100000000 * e
/-- GATE_CHANGE_S_HI (spec/06/R204). -/
def K.GATE_CHANGE_S_HI (e : Nat) : Nat := 0x10014c + 0x100000000 * e
/-- GATE_CHANGE_NS (spec/06/R204). -/
def K.GATE_CHANGE_NS (e : Nat) : Nat := 0x100150 + 0x100000000 * e
/-- GATE_WIN_ENTRY (spec/06/R204). -/
def K.GATE_WIN_ENTRY : Nat := 0x100160
/-- GATE_WIN_INTERVAL (spec/06/R204). -/
def K.GATE_WIN_INTERVAL (e : Nat) : Nat := 0x100164 + 0x100000000 * e
/-- GATE_WIN_OP (spec/06/R204). -/
def K.GATE_WIN_OP (e : Nat) : Nat := 0x100168 + 0x100000000 * e
/-- STRM_WIN_INDEX (spec/06/R204). -/
def K.STRM_WIN_INDEX : Nat := 0x100200
/-- STRM_WIN_FILTER (spec/06/R204). -/
def K.STRM_WIN_FILTER (e : Nat) : Nat := 0x100204 + 0x100000000 * e
/-- MTR_CIR (spec/06/R204). -/
def K.MTR_CIR (e : Nat) : Nat := 0x100208 + 0x100000000 * e
/-- MTR_CBS (spec/06/R204). -/
def K.MTR_CBS (e : Nat) : Nat := 0x10020c + 0x100000000 * e
/-- MTR_PIR (spec/06/R204). -/
def K.MTR_PIR (e : Nat) : Nat := 0x100210 + 0x100000000 * e
/-- MTR_PBS (spec/06/R204). -/
def K.MTR_PBS (e : Nat) : Nat := 0x100214 + 0x100000000 * e
/-- MTR_CTRL (spec/06/R204). -/
def K.MTR_CTRL (e : Nat) : Nat := 0x100218 + 0x100000000 * e
/-- MTR_C_LEVEL (spec/06/R204). -/
def K.MTR_C_LEVEL (e : Nat) : Nat := 0x10021c + 0x100000000 * e
/-- MTR_P_LEVEL (spec/06/R204). -/
def K.MTR_P_LEVEL (e : Nat) : Nat := 0x100220 + 0x100000000 * e
/-- FRER_WIN_INDEX (spec/06/R204). -/
def K.FRER_WIN_INDEX : Nat := 0x100300
/-- SEQG_WIN_CFG (spec/06/R204). -/
def K.SEQG_WIN_CFG (e : Nat) : Nat := 0x100304 + 0x100000000 * e
/-- SEQR_WIN_CFG (spec/06/R204). -/
def K.SEQR_WIN_CFG (e : Nat) : Nat := 0x100308 + 0x100000000 * e
/-- SEQR_WIN_STATE (spec/06/R204). -/
def K.SEQR_WIN_STATE (e : Nat) : Nat := 0x10030c + 0x100000000 * e
/-- SCH_CNT_CTRL (spec/06/R205). -/
def K.SCH_CNT_CTRL : Nat := 0x100f00
/-- TIME_NOW_NS (spec/07/R232). -/
def K.TIME_NOW_NS : Nat := 0x140000
/-- TIME_NOW_FRAC (spec/07/R232). -/
def K.TIME_NOW_FRAC : Nat := 0x140004
/-- TIME_NOW_S_LO (spec/07/R232). -/
def K.TIME_NOW_S_LO : Nat := 0x140008
/-- TIME_NOW_S_HI (spec/07/R232). -/
def K.TIME_NOW_S_HI : Nat := 0x14000c
/-- TIME_CTRL (spec/07/R232). -/
def K.TIME_CTRL : Nat := 0x140010
/-- TIME_STATUS (spec/07/R232). -/
def K.TIME_STATUS : Nat := 0x140014
/-- TIME_RATE (spec/07/R232). -/
def K.TIME_RATE : Nat := 0x140018
/-- TIME_SET_NS (spec/07/R232). -/
def K.TIME_SET_NS : Nat := 0x14001c
/-- TIME_SET_S_LO (spec/07/R232). -/
def K.TIME_SET_S_LO : Nat := 0x140020
/-- TIME_SET_S_HI (spec/07/R232). -/
def K.TIME_SET_S_HI : Nat := 0x140024
/-- SERVO_KP (spec/07/R232). -/
def K.SERVO_KP : Nat := 0x140030
/-- SERVO_KI (spec/07/R232). -/
def K.SERVO_KI : Nat := 0x140034
/-- SERVO_CFG (spec/07/R232). -/
def K.SERVO_CFG : Nat := 0x140038
/-- SERVO_THR (spec/07/R232). -/
def K.SERVO_THR : Nat := 0x14003c
/-- SERVO_STEP (spec/07/R232). -/
def K.SERVO_STEP : Nat := 0x140040
/-- SERVO_SLEW (spec/07/R232). -/
def K.SERVO_SLEW : Nat := 0x140044
/-- SERVO_OFFSET (spec/07/R232). -/
def K.SERVO_OFFSET : Nat := 0x140048
/-- SERVO_INTEG (spec/07/R232). -/
def K.SERVO_INTEG : Nat := 0x14004c
/-- SERVO_AVG (spec/07/R232). -/
def K.SERVO_AVG : Nat := 0x140050
/-- GPTP_CFG (spec/07/R232). -/
def K.GPTP_CFG : Nat := 0x140080
/-- GPTP_CLOCK_ID_LO (spec/07/R232). -/
def K.GPTP_CLOCK_ID_LO : Nat := 0x140088
/-- GPTP_CLOCK_ID_HI (spec/07/R232). -/
def K.GPTP_CLOCK_ID_HI : Nat := 0x14008c
/-- GPTP_PORT_CFG (spec/07/R232). -/
def K.GPTP_PORT_CFG (i : Nat) : Nat := 0x140100 + 0x8 * i
/-- GPTP_PORT_STATUS (spec/07/R232). -/
def K.GPTP_PORT_STATUS (i : Nat) : Nat := 0x140104 + 0x8 * i
/-- GPTP_PORT_DELAY (spec/07/R232). -/
def K.GPTP_PORT_DELAY (i : Nat) : Nat := 0x140280 + 0x4 * i
/-- PPS_IN_CFG (spec/07/R232). -/
def K.PPS_IN_CFG : Nat := 0x140380
/-- PPS_IN_STAMP_NS (spec/07/R232). -/
def K.PPS_IN_STAMP_NS : Nat := 0x140384
/-- PPS_IN_STAMP_S_LO (spec/07/R232). -/
def K.PPS_IN_STAMP_S_LO : Nat := 0x140388
/-- PPS_IN_STAMP_S_HI (spec/07/R232). -/
def K.PPS_IN_STAMP_S_HI : Nat := 0x14038c
/-- PPS_IN_SEC_LO (spec/07/R232). -/
def K.PPS_IN_SEC_LO : Nat := 0x140390
/-- PPS_IN_SEC_HI (spec/07/R232). -/
def K.PPS_IN_SEC_HI : Nat := 0x140394
/-- PPS_OUT_CTRL (spec/07/R232). -/
def K.PPS_OUT_CTRL (i : Nat) : Nat := 0x140400 + 0x20 * i
/-- PPS_OUT_START_NS (spec/07/R232). -/
def K.PPS_OUT_START_NS (i : Nat) : Nat := 0x140404 + 0x20 * i
/-- PPS_OUT_START_S_LO (spec/07/R232). -/
def K.PPS_OUT_START_S_LO (i : Nat) : Nat := 0x140408 + 0x20 * i
/-- PPS_OUT_START_S_HI (spec/07/R232). -/
def K.PPS_OUT_START_S_HI (i : Nat) : Nat := 0x14040c + 0x20 * i
/-- PPS_OUT_PERIOD (spec/07/R232). -/
def K.PPS_OUT_PERIOD (i : Nat) : Nat := 0x140410 + 0x20 * i
/-- PPS_OUT_WIDTH (spec/07/R232). -/
def K.PPS_OUT_WIDTH (i : Nat) : Nat := 0x140414 + 0x20 * i
/-- TIME_CNT_CTRL (spec/07/R233). -/
def K.TIME_CNT_CTRL : Nat := 0x140f00
/-- CAN_CTRL (spec/08/R255). -/
def K.CAN_CTRL (i : Nat) : Nat := 0x180000 + 0x400 * i
/-- CAN_NBT (spec/08/R255). -/
def K.CAN_NBT (i : Nat) : Nat := 0x180004 + 0x400 * i
/-- CAN_DBT (spec/08/R255). -/
def K.CAN_DBT (i : Nat) : Nat := 0x180008 + 0x400 * i
/-- CAN_XBT (spec/08/R255). -/
def K.CAN_XBT (i : Nat) : Nat := 0x18000c + 0x400 * i
/-- CAN_XL_PWM (spec/08/R255). -/
def K.CAN_XL_PWM (i : Nat) : Nat := 0x180010 + 0x400 * i
/-- CAN_LIMITS (spec/08/R255). -/
def K.CAN_LIMITS (i : Nat) : Nat := 0x180014 + 0x400 * i
/-- CAN_STATUS (spec/08/R255). -/
def K.CAN_STATUS (i : Nat) : Nat := 0x180020 + 0x400 * i
/-- CAN_EVT (spec/08/R255). -/
def K.CAN_EVT (i : Nat) : Nat := 0x180024 + 0x400 * i
/-- CAN_CNT_CTRL (spec/08/R255). -/
def K.CAN_CNT_CTRL (i : Nat) : Nat := 0x180040 + 0x400 * i
/-- LIN_CTRL (spec/08/R255). -/
def K.LIN_CTRL (i : Nat) : Nat := 0x186000 + 0x400 * i
/-- LIN_BAUD (spec/08/R255). -/
def K.LIN_BAUD (i : Nat) : Nat := 0x186004 + 0x400 * i
/-- LIN_CFG (spec/08/R255). -/
def K.LIN_CFG (i : Nat) : Nat := 0x186008 + 0x400 * i
/-- LIN_TABLE_LEN (spec/08/R255). -/
def K.LIN_TABLE_LEN (i : Nat) : Nat := 0x18600c + 0x400 * i
/-- LIN_STATUS (spec/08/R255). -/
def K.LIN_STATUS (i : Nat) : Nat := 0x186020 + 0x400 * i
/-- LIN_EVT (spec/08/R255). -/
def K.LIN_EVT (i : Nat) : Nat := 0x186024 + 0x400 * i
/-- LIN_CNT_CTRL (spec/08/R255). -/
def K.LIN_CNT_CTRL (i : Nat) : Nat := 0x186040 + 0x400 * i
/-- LIN_SCHED_INDEX (spec/08/R255). -/
def K.LIN_SCHED_INDEX (i : Nat) : Nat := 0x186080 + 0x400 * i
/-- LIN_SCHED_ENTRY (spec/08/R255). -/
def K.LIN_SCHED_ENTRY (i e : Nat) : Nat := 0x186084 + 0x400 * i + 0x100000000 * e
/-- LIN_FRAME_INDEX (spec/08/R255). -/
def K.LIN_FRAME_INDEX (i : Nat) : Nat := 0x186088 + 0x400 * i
/-- LIN_FRAME_CFG (spec/08/R255). -/
def K.LIN_FRAME_CFG (i e : Nat) : Nat := 0x18608c + 0x400 * i + 0x100000000 * e
/-- WVR_CTRL (spec/09/R289). -/
def K.WVR_CTRL : Nat := 0x1c0000
/-- WVR_STATUS (spec/09/R289). -/
def K.WVR_STATUS : Nat := 0x1c0004
/-- WVR_EVT (spec/09/R289). -/
def K.WVR_EVT : Nat := 0x1c0008
/-- WVR_CNT_CTRL (spec/09/R289). -/
def K.WVR_CNT_CTRL : Nat := 0x1c000c
/-- WVR_PDU_INDEX (spec/09/R289). -/
def K.WVR_PDU_INDEX : Nat := 0x1c0010
/-- WVR_PDU_STATE (spec/09/R289). -/
def K.WVR_PDU_STATE (e : Nat) : Nat := 0x1c0014 + 0x100000000 * e
/-- WVR_PDU_STAMP_NS (spec/09/R289). -/
def K.WVR_PDU_STAMP_NS : Nat := 0x1c0018
/-- WVR_PDU_STAMP_S_LO (spec/09/R289). -/
def K.WVR_PDU_STAMP_S_LO : Nat := 0x1c001c
/-- WVR_PDU_STAMP_S_HI (spec/09/R289). -/
def K.WVR_PDU_STAMP_S_HI : Nat := 0x1c0020
/-- WVR_PDU_DATA0 (spec/09/R289). -/
def K.WVR_PDU_DATA0 (e : Nat) : Nat := 0x1c0040 + 0x100000000 * e
/-- WVR_PDU_DATA1 (spec/09/R289). -/
def K.WVR_PDU_DATA1 (e : Nat) : Nat := 0x1c0044 + 0x100000000 * e
/-- WVR_PDU_DATA2 (spec/09/R289). -/
def K.WVR_PDU_DATA2 (e : Nat) : Nat := 0x1c0048 + 0x100000000 * e
/-- WVR_PDU_DATA3 (spec/09/R289). -/
def K.WVR_PDU_DATA3 (e : Nat) : Nat := 0x1c004c + 0x100000000 * e
/-- WVR_PDU_DATA4 (spec/09/R289). -/
def K.WVR_PDU_DATA4 (e : Nat) : Nat := 0x1c0050 + 0x100000000 * e
/-- WVR_PDU_DATA5 (spec/09/R289). -/
def K.WVR_PDU_DATA5 (e : Nat) : Nat := 0x1c0054 + 0x100000000 * e
/-- WVR_PDU_DATA6 (spec/09/R289). -/
def K.WVR_PDU_DATA6 (e : Nat) : Nat := 0x1c0058 + 0x100000000 * e
/-- WVR_PDU_DATA7 (spec/09/R289). -/
def K.WVR_PDU_DATA7 (e : Nat) : Nat := 0x1c005c + 0x100000000 * e
/-- WVR_IMG (spec/09/R289). -/
def K.WVR_IMG (i e : Nat) : Nat := 0x1c0080 + 0x4 * i + 0x100000000 * e
/-- WVR_RT_INDEX (spec/09/R289). -/
def K.WVR_RT_INDEX : Nat := 0x1c0100
/-- WVR_RT_DATA0 (spec/09/R289). -/
def K.WVR_RT_DATA0 (e : Nat) : Nat := 0x1c0120 + 0x100000000 * e
/-- WVR_RT_DATA1 (spec/09/R289). -/
def K.WVR_RT_DATA1 (e : Nat) : Nat := 0x1c0124 + 0x100000000 * e
/-- WVR_RT_DATA2 (spec/09/R289). -/
def K.WVR_RT_DATA2 (e : Nat) : Nat := 0x1c0128 + 0x100000000 * e
/-- WVR_RT_DATA3 (spec/09/R289). -/
def K.WVR_RT_DATA3 (e : Nat) : Nat := 0x1c012c + 0x100000000 * e
/-- WVR_RT_DATA4 (spec/09/R289). -/
def K.WVR_RT_DATA4 (e : Nat) : Nat := 0x1c0130 + 0x100000000 * e
/-- WVR_RT_DATA5 (spec/09/R289). -/
def K.WVR_RT_DATA5 (e : Nat) : Nat := 0x1c0134 + 0x100000000 * e
/-- WVR_RT_DATA6 (spec/09/R289). -/
def K.WVR_RT_DATA6 (e : Nat) : Nat := 0x1c0138 + 0x100000000 * e
/-- WVR_RT_DATA7 (spec/09/R289). -/
def K.WVR_RT_DATA7 (e : Nat) : Nat := 0x1c013c + 0x100000000 * e
/-- WVR_ENUM_INDEX (spec/09/R289). -/
def K.WVR_ENUM_INDEX : Nat := 0x1c0140
/-- WVR_ENUM_DATA (spec/09/R289). -/
def K.WVR_ENUM_DATA (e : Nat) : Nat := 0x1c0144 + 0x100000000 * e
/-- WVR_CAR_INDEX (spec/09/R289). -/
def K.WVR_CAR_INDEX : Nat := 0x1c0180
/-- WVR_CAR_CFG0 (spec/09/R289). -/
def K.WVR_CAR_CFG0 (e : Nat) : Nat := 0x1c0184 + 0x100000000 * e
/-- WVR_CAR_CFG1 (spec/09/R289). -/
def K.WVR_CAR_CFG1 (e : Nat) : Nat := 0x1c0188 + 0x100000000 * e
/-- WVR_CAR_TPL (spec/09/R289). -/
def K.WVR_CAR_TPL (i e : Nat) : Nat := 0x1c01c0 + 0x4 * i + 0x100000000 * e
/-- WVR_SND_INDEX (spec/09/R289). -/
def K.WVR_SND_INDEX : Nat := 0x1c0200
/-- WVR_SND_STATUS (spec/09/R289). -/
def K.WVR_SND_STATUS (e : Nat) : Nat := 0x1c0204 + 0x100000000 * e
/-- ZONE_STATUS (spec/10/R310). -/
def K.ZONE_STATUS : Nat := 0x200000
/-- ZONE_CNT_CTRL (spec/10/R310). -/
def K.ZONE_CNT_CTRL : Nat := 0x200004
/-- ZONE_LAST_DENY (spec/10/R310). -/
def K.ZONE_LAST_DENY : Nat := 0x200008
/-- ZONE_PORT (spec/10/R310). -/
def K.ZONE_PORT (i : Nat) : Nat := 0x200100 + 0x4 * i
/-- ZONE_CHAN (spec/10/R310). -/
def K.ZONE_CHAN (i : Nat) : Nat := 0x200200 + 0x4 * i
/-- ZONE_PARTNER (spec/10/R310). -/
def K.ZONE_PARTNER (i : Nat) : Nat := 0x200300 + 0x4 * i
/-- ZONE_PAIR (spec/10/R310). -/
def K.ZONE_PAIR (i : Nat) : Nat := 0x200400 + 0x4 * i
/-- ZPOL_INDEX (spec/10/R310). -/
def K.ZPOL_INDEX : Nat := 0x200800
/-- ZPOL_RATE (spec/10/R310). -/
def K.ZPOL_RATE (e : Nat) : Nat := 0x200804 + 0x100000000 * e
/-- ZPOL_BURST (spec/10/R310). -/
def K.ZPOL_BURST (e : Nat) : Nat := 0x200808 + 0x100000000 * e
/-- ZPOL_CTRL (spec/10/R310). -/
def K.ZPOL_CTRL (e : Nat) : Nat := 0x20080c + 0x100000000 * e
/-- ZPOL_LEVEL (spec/10/R310). -/
def K.ZPOL_LEVEL (e : Nat) : Nat := 0x200810 + 0x100000000 * e
/-- SEC_CFG (spec/10/R310). -/
def K.SEC_CFG (i : Nat) : Nat := 0x208000 + 0x400 * i
/-- SEC_STATUS (spec/10/R310). -/
def K.SEC_STATUS (i : Nat) : Nat := 0x208004 + 0x400 * i
/-- SEC_REPLAY (spec/10/R310). -/
def K.SEC_REPLAY (i : Nat) : Nat := 0x208008 + 0x400 * i
/-- SEC_TX_SCI_LO (spec/10/R310). -/
def K.SEC_TX_SCI_LO (i : Nat) : Nat := 0x208010 + 0x400 * i
/-- SEC_TX_SCI_HI (spec/10/R310). -/
def K.SEC_TX_SCI_HI (i : Nat) : Nat := 0x208014 + 0x400 * i
/-- SEC_SA_INDEX (spec/10/R310). -/
def K.SEC_SA_INDEX (i : Nat) : Nat := 0x208020 + 0x400 * i
/-- SEC_SA_CFG (spec/10/R310). -/
def K.SEC_SA_CFG (i e : Nat) : Nat := 0x208024 + 0x400 * i + 0x100000000 * e
/-- SEC_SA_SCI_LO (spec/10/R310). -/
def K.SEC_SA_SCI_LO (i e : Nat) : Nat := 0x208028 + 0x400 * i + 0x100000000 * e
/-- SEC_SA_SCI_HI (spec/10/R310). -/
def K.SEC_SA_SCI_HI (i e : Nat) : Nat := 0x20802c + 0x400 * i + 0x100000000 * e
/-- SEC_SA_PN_LO (spec/10/R310). -/
def K.SEC_SA_PN_LO (i e : Nat) : Nat := 0x208030 + 0x400 * i + 0x100000000 * e
/-- SEC_SA_PN_HI (spec/10/R310). -/
def K.SEC_SA_PN_HI (i e : Nat) : Nat := 0x208034 + 0x400 * i + 0x100000000 * e
/-- SEC_SA_SALT0 (spec/10/R310). -/
def K.SEC_SA_SALT0 (i e : Nat) : Nat := 0x208038 + 0x400 * i + 0x100000000 * e
/-- SEC_SA_SALT1 (spec/10/R310). -/
def K.SEC_SA_SALT1 (i e : Nat) : Nat := 0x20803c + 0x400 * i + 0x100000000 * e
/-- SEC_SA_SALT2 (spec/10/R310). -/
def K.SEC_SA_SALT2 (i e : Nat) : Nat := 0x208040 + 0x400 * i + 0x100000000 * e
/-- SEC_SA_SSCI (spec/10/R310). -/
def K.SEC_SA_SSCI (i e : Nat) : Nat := 0x208044 + 0x400 * i + 0x100000000 * e
/-- LCS_STATUS (spec/11/R341). -/
def K.LCS_STATUS : Nat := 0x240000
/-- DEVICE_SERIAL_LO (spec/11/R341). -/
def K.DEVICE_SERIAL_LO : Nat := 0x240008
/-- DEVICE_SERIAL_HI (spec/11/R341). -/
def K.DEVICE_SERIAL_HI : Nat := 0x24000c
/-- FW_STATUS (spec/11/R341). -/
def K.FW_STATUS : Nat := 0x240010
/-- FW_VERSION (spec/11/R341). -/
def K.FW_VERSION : Nat := 0x240014
/-- KEY_STATUS (spec/11/R341). -/
def K.KEY_STATUS : Nat := 0x240020
/-- KEY_SLOT_INDEX (spec/11/R341). -/
def K.KEY_SLOT_INDEX : Nat := 0x240030
/-- KEY_SLOT_INFO (spec/11/R341). -/
def K.KEY_SLOT_INFO (e : Nat) : Nat := 0x240034 + 0x100000000 * e
/-- KEY_SLOT_PEND (spec/11/R341). -/
def K.KEY_SLOT_PEND (e : Nat) : Nat := 0x240038 + 0x100000000 * e
/-- LMS_STATUS (spec/11/R341). -/
def K.LMS_STATUS (i : Nat) : Nat := 0x240040 + 0x10 * i
/-- LMS_NEXT_LO (spec/11/R341). -/
def K.LMS_NEXT_LO (i : Nat) : Nat := 0x240044 + 0x10 * i
/-- LMS_NEXT_HI (spec/11/R341). -/
def K.LMS_NEXT_HI (i : Nat) : Nat := 0x240048 + 0x10 * i
/-- CMD_GEN (spec/11/R341). -/
def K.CMD_GEN (i : Nat) : Nat := 0x240100 + 0x4 * i
/-- LDG_CFG (spec/12/R353). -/
def K.LDG_CFG : Nat := 0x260000
/-- LDG_CTRL (spec/12/R353). -/
def K.LDG_CTRL : Nat := 0x260004
/-- LDG_STATUS (spec/12/R353). -/
def K.LDG_STATUS : Nat := 0x260008
/-- LDG_NEXT (spec/12/R353). -/
def K.LDG_NEXT : Nat := 0x26000c
/-- LDG_SIGNED (spec/12/R353). -/
def K.LDG_SIGNED : Nat := 0x260010
/-- LDG_ACC_LO (spec/12/R353). -/
def K.LDG_ACC_LO (i : Nat) : Nat := 0x260020 + 0x8 * i
/-- LDG_ACC_HI (spec/12/R353). -/
def K.LDG_ACC_HI (i : Nat) : Nat := 0x260024 + 0x8 * i
/-- LDG_INPUT (spec/12/R353). -/
def K.LDG_INPUT (i : Nat) : Nat := 0x260040 + 0x4 * i
/-- LDG_RD_INDEX (spec/12/R353). -/
def K.LDG_RD_INDEX : Nat := 0x260080
/-- LDG_RD_DATA (spec/12/R353). -/
def K.LDG_RD_DATA (i : Nat) : Nat := 0x2600c0 + 0x4 * i
/-- NM_STATE (spec/13/R381). -/
def K.NM_STATE : Nat := 0x280000
/-- NM_CFG (spec/13/R381). -/
def K.NM_CFG : Nat := 0x280004
/-- NM_TIMING (spec/13/R381). -/
def K.NM_TIMING : Nat := 0x280008
/-- NM_LIMITS (spec/13/R381). -/
def K.NM_LIMITS : Nat := 0x28000c
/-- NM_WAKE (spec/13/R381). -/
def K.NM_WAKE : Nat := 0x280010
/-- NM_KEEP (spec/13/R381). -/
def K.NM_KEEP : Nat := 0x280014
/-- NM_SLEEP_EN (spec/13/R381). -/
def K.NM_SLEEP_EN : Nat := 0x280018
/-- NM_CAUSE (spec/13/R381). -/
def K.NM_CAUSE : Nat := 0x28001c
/-- NM_SA_LO (spec/13/R381). -/
def K.NM_SA_LO : Nat := 0x280020
/-- NM_SA_HI (spec/13/R381). -/
def K.NM_SA_HI : Nat := 0x280024
/-- NM_PORT_GROUP (spec/13/R381). -/
def K.NM_PORT_GROUP (i : Nat) : Nat := 0x280040 + 0x4 * i
/-- NM_CHAN_GROUP (spec/13/R381). -/
def K.NM_CHAN_GROUP (i : Nat) : Nat := 0x280060 + 0x4 * i
/-- NM_GROUP_STATUS (spec/13/R381). -/
def K.NM_GROUP_STATUS (i : Nat) : Nat := 0x280080 + 0x4 * i
/-- WAKE_IN_CFG (spec/13/R381). -/
def K.WAKE_IN_CFG (i : Nat) : Nat := 0x280100 + 0x8 * i
/-- WAKE_IN_GROUPS (spec/13/R381). -/
def K.WAKE_IN_GROUPS (i : Nat) : Nat := 0x280104 + 0x8 * i
/-- WAKE_LIMITS (spec/13/R381). -/
def K.WAKE_LIMITS : Nat := 0x280140
/-- WAKE_STATUS (spec/13/R381). -/
def K.WAKE_STATUS : Nat := 0x280144
/-- NM_MBR_INDEX (spec/13/R381). -/
def K.NM_MBR_INDEX : Nat := 0x280180
/-- NM_MBR_DATA0 (spec/13/R381). -/
def K.NM_MBR_DATA0 (e : Nat) : Nat := 0x280184 + 0x100000000 * e
/-- NM_MBR_DATA1 (spec/13/R381). -/
def K.NM_MBR_DATA1 (e : Nat) : Nat := 0x280188 + 0x100000000 * e
/-- NM_MBR_DATA2 (spec/13/R381). -/
def K.NM_MBR_DATA2 (e : Nat) : Nat := 0x28018c + 0x100000000 * e
/-- NM_MBR_DATA3 (spec/13/R381). -/
def K.NM_MBR_DATA3 (e : Nat) : Nat := 0x280190 + 0x100000000 * e
/-- NM_CNT_CTRL (spec/13/R382). -/
def K.NM_CNT_CTRL : Nat := 0x280f00
/-- NM_LOG (spec/13/R381). -/
def K.NM_LOG : Nat := 0x28f000
/-- SAF_STATUS (spec/14/R411). -/
def K.SAF_STATUS : Nat := 0x2c0000
/-- SAF_CFG (spec/14/R411). -/
def K.SAF_CFG : Nat := 0x2c0004
/-- SAF_DIGEST_MODE (spec/14/R411). -/
def K.SAF_DIGEST_MODE : Nat := 0x2c0008
/-- SAF_MON (spec/14/R411). -/
def K.SAF_MON : Nat := 0x2c000c
/-- SAF_AGREE (spec/14/R411). -/
def K.SAF_AGREE : Nat := 0x2c0010
/-- SAF_SELFTEST_LO (spec/14/R411). -/
def K.SAF_SELFTEST_LO : Nat := 0x2c0018
/-- SAF_SELFTEST_HI (spec/14/R411). -/
def K.SAF_SELFTEST_HI : Nat := 0x2c001c
/-- SAF_INJECT (spec/14/R411). -/
def K.SAF_INJECT : Nat := 0x2c0020
/-- LEE_CFG (spec/14/R411). -/
def K.LEE_CFG : Nat := 0x2c0040
/-- LEE_EDGE (spec/14/R411). -/
def K.LEE_EDGE : Nat := 0x2c0044
/-- LEE_WIN_INDEX (spec/14/R411). -/
def K.LEE_WIN_INDEX : Nat := 0x2c0080
/-- LEE_WIN_DATA (spec/14/R411). -/
def K.LEE_WIN_DATA (i e : Nat) : Nat := 0x2c0084 + 0x4 * i + 0x100000000 * e
/-- SAF_CNT_CTRL (spec/14/R412). -/
def K.SAF_CNT_CTRL : Nat := 0x2c0f00
/-- SAF_LOG (spec/14/R411). -/
def K.SAF_LOG : Nat := 0x2cf000
/-- PAIR_CFG (spec/15/R448). -/
def K.PAIR_CFG : Nat := 0x300000
/-- PAIR_TIMING (spec/15/R448). -/
def K.PAIR_TIMING : Nat := 0x300004
/-- PAIR_HOLD (spec/15/R448). -/
def K.PAIR_HOLD : Nat := 0x300008
/-- PAIR_CREDIT (spec/15/R448). -/
def K.PAIR_CREDIT : Nat := 0x30000c
/-- PAIR_STATUS (spec/15/R448). -/
def K.PAIR_STATUS : Nat := 0x300010
/-- PAIR_CTRL (spec/15/R448). -/
def K.PAIR_CTRL : Nat := 0x300014
/-- PAIR_EVT (spec/15/R448). -/
def K.PAIR_EVT : Nat := 0x300018
/-- PAIR_PARTNER_SERIAL_LO (spec/15/R448). -/
def K.PAIR_PARTNER_SERIAL_LO : Nat := 0x300020
/-- PAIR_PARTNER_SERIAL_HI (spec/15/R448). -/
def K.PAIR_PARTNER_SERIAL_HI : Nat := 0x300024
/-- PAIR_CNT_CTRL (spec/15/R449). -/
def K.PAIR_CNT_CTRL : Nat := 0x300f00
/-- MGT_STATUS (spec/16/R480). -/
def K.MGT_STATUS : Nat := 0x340000
/-- MGT_CFG (spec/16/R480). -/
def K.MGT_CFG : Nat := 0x340004
/-- MGT_EVT_MAC_LO (spec/16/R480). -/
def K.MGT_EVT_MAC_LO : Nat := 0x340008
/-- MGT_EVT_MAC_HI (spec/16/R480). -/
def K.MGT_EVT_MAC_HI : Nat := 0x34000c
/-- MGT_ORIGIN_EN (spec/16/R480). -/
def K.MGT_ORIGIN_EN (i : Nat) : Nat := 0x340010 + 0x4 * i
/-- MGT_SEQ_INDEX (spec/16/R480). -/
def K.MGT_SEQ_INDEX : Nat := 0x340018
/-- MGT_LAST_SEQ (spec/16/R480). -/
def K.MGT_LAST_SEQ (e : Nat) : Nat := 0x34001c + 0x100000000 * e
/-- MGT_CNT_CTRL (spec/16/R480). -/
def K.MGT_CNT_CTRL : Nat := 0x340f00
/-- JRN_STATUS (spec/16/R480). -/
def K.JRN_STATUS : Nat := 0x341000
/-- JRN_HEAD_LO (spec/16/R480). -/
def K.JRN_HEAD_LO : Nat := 0x341008
/-- JRN_HEAD_HI (spec/16/R480). -/
def K.JRN_HEAD_HI : Nat := 0x34100c
/-- JRN_CP_LO (spec/16/R480). -/
def K.JRN_CP_LO : Nat := 0x341010
/-- JRN_CP_HI (spec/16/R480). -/
def K.JRN_CP_HI : Nat := 0x341014
/-- JRN_RD_INDEX_LO (spec/16/R480). -/
def K.JRN_RD_INDEX_LO : Nat := 0x341020
/-- JRN_RD_INDEX_HI (spec/16/R480). -/
def K.JRN_RD_INDEX_HI : Nat := 0x341024
/-- JRN_RD_DATA (spec/16/R480). -/
def K.JRN_RD_DATA (i : Nat) : Nat := 0x341040 + 0x4 * i
/-- BRG_STATUS (spec/16/R480). -/
def K.BRG_STATUS : Nat := 0x342000
/-- BRG_TAG (spec/16/R480). -/
def K.BRG_TAG : Nat := 0x342004
/-- BRG_PWFL (spec/16/R480). -/
def K.BRG_PWFL : Nat := 0x34f000
/-- BRG_PWFL_ADDR (spec/16/R480). -/
def K.BRG_PWFL_ADDR : Nat := 0x34f004
/-- BRG_PWFL_TIME_NS (spec/16/R480). -/
def K.BRG_PWFL_TIME_NS : Nat := 0x34f008
/-- BRG_PWFL_TIME_S_LO (spec/16/R480). -/
def K.BRG_PWFL_TIME_S_LO : Nat := 0x34f00c
/-- BRG_PWFL_TIME_S_HI (spec/16/R480). -/
def K.BRG_PWFL_TIME_S_HI : Nat := 0x34f010
/-- EVT_POP (spec/16/R480). -/
def K.EVT_POP : Nat := 0x34f020
/-- EVT_DATA (spec/16/R480). -/
def K.EVT_DATA (i : Nat) : Nat := 0x34f040 + 0x4 * i
/-- BANK_OWNER (spec/17/R503). -/
def K.BANK_OWNER (i : Nat) : Nat := 0x380000 + 0x4 * i
/-- BANK_STATUS (spec/17/R503). -/
def K.BANK_STATUS : Nat := 0x380080
/-- MEM_REPAIR (spec/17/R503). -/
def K.MEM_REPAIR : Nat := 0x380100
/-- MBIST_FAIL (spec/17/R503). -/
def K.MBIST_FAIL : Nat := 0x380104

/-- A field of a register: the register's key and the field's bits hi:lo. -/
structure Fld where
  key : Nat
  hi : Nat
  lo : Nat
  deriving DecidableEq, Repr

/-! The fields, named REGISTER_FIELD as the spec's tables name them. -/

def F.GLB_ID_DEVICE : Fld := ⟨K.GLB_ID, 31, 16⟩
def F.GLB_ID_REVISION : Fld := ⟨K.GLB_ID, 15, 8⟩
def F.GLB_ID_GRADE : Fld := ⟨K.GLB_ID, 3, 0⟩
def F.GLB_STATUS_ROLE : Fld := ⟨K.GLB_STATUS, 27, 24⟩
def F.GLB_STATUS_LC_STATE : Fld := ⟨K.GLB_STATUS, 22, 20⟩
def F.GLB_STATUS_HOLD : Fld := ⟨K.GLB_STATUS, 5, 5⟩
def F.GLB_STATUS_LULL : Fld := ⟨K.GLB_STATUS, 4, 4⟩
def F.GLB_STATUS_HOLD_OUT : Fld := ⟨K.GLB_STATUS, 3, 3⟩
def F.GLB_STATUS_EVT : Fld := ⟨K.GLB_STATUS, 2, 2⟩
def F.GLB_STATUS_FAULT : Fld := ⟨K.GLB_STATUS, 1, 1⟩
def F.GLB_STATUS_FORWARDING : Fld := ⟨K.GLB_STATUS, 0, 0⟩
def F.GLB_SCRATCH_VALUE : Fld := ⟨K.GLB_SCRATCH, 31, 0⟩
def F.GLB_PAGE_INDEX_PAGE : Fld := ⟨K.GLB_PAGE_INDEX, 31, 12⟩
def F.GLB_PAGE_INFO_ATTR : Fld := ⟨K.GLB_PAGE_INFO, 1, 0⟩
def F.RST_CTRL_ERR_BUSY : Fld := ⟨K.RST_CTRL, 15, 15⟩
def F.RST_CTRL_BUSY : Fld := ⟨K.RST_CTRL, 14, 14⟩
def F.RST_CTRL_OP : Fld := ⟨K.RST_CTRL, 13, 12⟩
def F.RST_CTRL_GROUP : Fld := ⟨K.RST_CTRL, 6, 0⟩
def F.CLK_STATUS_AON_FAIL : Fld := ⟨K.CLK_STATUS, 7, 7⟩
def F.CLK_STATUS_MON_FAIL : Fld := ⟨K.CLK_STATUS, 6, 2⟩
def F.CLK_STATUS_XTAL_OK : Fld := ⟨K.CLK_STATUS, 1, 1⟩
def F.CLK_STATUS_PLL_LOCK : Fld := ⟨K.CLK_STATUS, 0, 0⟩
def F.RST_HELD_HELD (i : Nat) : Fld := ⟨K.RST_HELD i, 31, 0⟩
def F.BOOT_STATUS_SKIPPED : Fld := ⟨K.BOOT_STATUS, 25, 18⟩
def F.BOOT_STATUS_FAILED_COUNT : Fld := ⟨K.BOOT_STATUS, 17, 16⟩
def F.BOOT_STATUS_UNIT_ID : Fld := ⟨K.BOOT_STATUS, 8, 8⟩
def F.BOOT_STATUS_RETAINED_VALID : Fld := ⟨K.BOOT_STATUS, 7, 7⟩
def F.BOOT_STATUS_WARM : Fld := ⟨K.BOOT_STATUS, 6, 6⟩
def F.BOOT_STATUS_SOURCE : Fld := ⟨K.BOOT_STATUS, 5, 4⟩
def F.BOOT_STATUS_STATE : Fld := ⟨K.BOOT_STATUS, 3, 0⟩
def F.BOOT_FAIL_OFFSET (i : Nat) : Fld := ⟨K.BOOT_FAIL i, 31, 8⟩
def F.BOOT_FAIL_REASON (i : Nat) : Fld := ⟨K.BOOT_FAIL i, 7, 0⟩
def F.BOOT_IMAGE_VER_VERSION : Fld := ⟨K.BOOT_IMAGE_VER, 31, 0⟩
def F.BOOT_ROLLBACK_ROLLBACK_MIN : Fld := ⟨K.BOOT_ROLLBACK, 31, 0⟩
def F.BOOT_PREF_SLOT : Fld := ⟨K.BOOT_PREF, 0, 0⟩
def F.BOOT_HOLD_HOLD_US : Fld := ⟨K.BOOT_HOLD, 23, 0⟩
def F.BOOT_TIME_START_US : Fld := ⟨K.BOOT_TIME, 19, 0⟩
def F.BOOT_BUILD_BUILD (i : Nat) : Fld := ⟨K.BOOT_BUILD i, 31, 0⟩
def F.MAC_CFG_MODE (i : Nat) : Fld := ⟨K.MAC_CFG i, 23, 20⟩
def F.MAC_CFG_ROLE (i : Nat) : Fld := ⟨K.MAC_CFG i, 19, 18⟩
def F.MAC_CFG_EN (i : Nat) : Fld := ⟨K.MAC_CFG i, 0, 0⟩
def F.MAC_STATUS_CFG_REJECT (i : Nat) : Fld := ⟨K.MAC_STATUS i, 5, 5⟩
def F.MAC_STATUS_LINK_CHANGED (i : Nat) : Fld := ⟨K.MAC_STATUS i, 4, 4⟩
def F.MAC_STATUS_SPEED_MISMATCH (i : Nat) : Fld := ⟨K.MAC_STATUS i, 3, 3⟩
def F.MAC_STATUS_PHY_INT (i : Nat) : Fld := ⟨K.MAC_STATUS i, 2, 2⟩
def F.MAC_STATUS_LOCK (i : Nat) : Fld := ⟨K.MAC_STATUS i, 1, 1⟩
def F.MAC_STATUS_LINK_UP (i : Nat) : Fld := ⟨K.MAC_STATUS i, 0, 0⟩
def F.MAC_FRAME_MAX_FRAME (i : Nat) : Fld := ⟨K.MAC_FRAME i, 13, 0⟩
def F.SERDES_CFG_PRTAD (i : Nat) : Fld := ⟨K.SERDES_CFG i, 20, 16⟩
def F.SERDES_CFG_TX_PRE (i : Nat) : Fld := ⟨K.SERDES_CFG i, 15, 12⟩
def F.SERDES_CFG_TX_POST (i : Nat) : Fld := ⟨K.SERDES_CFG i, 11, 8⟩
def F.SERDES_CFG_TX_AMP (i : Nat) : Fld := ⟨K.SERDES_CFG i, 7, 4⟩
def F.SERDES_CFG_TX_INV (i : Nat) : Fld := ⟨K.SERDES_CFG i, 3, 3⟩
def F.SERDES_CFG_RX_INV (i : Nat) : Fld := ⟨K.SERDES_CFG i, 2, 2⟩
def F.PLCA_CFG_NODE_COUNT (i : Nat) : Fld := ⟨K.PLCA_CFG i, 21, 16⟩
def F.PLCA_CFG_TO_TIMER (i : Nat) : Fld := ⟨K.PLCA_CFG i, 15, 8⟩
def F.PLCA_CFG_NODE_ID (i : Nat) : Fld := ⟨K.PLCA_CFG i, 7, 3⟩
def F.MERGE_CFG_PMAC_QUEUES (i : Nat) : Fld := ⟨K.MERGE_CFG i, 23, 16⟩
def F.MERGE_CFG_VERIFY_TIME (i : Nat) : Fld := ⟨K.MERGE_CFG i, 15, 9⟩
def F.MERGE_CFG_VERIFY_DIS (i : Nat) : Fld := ⟨K.MERGE_CFG i, 8, 8⟩
def F.MERGE_CFG_ADD_FRAG (i : Nat) : Fld := ⟨K.MERGE_CFG i, 5, 4⟩
def F.MERGE_CFG_EN (i : Nat) : Fld := ⟨K.MERGE_CFG i, 0, 0⟩
def F.MERGE_STATUS_PMAC_TX (i : Nat) : Fld := ⟨K.MERGE_STATUS i, 3, 3⟩
def F.MERGE_STATUS_VERIFY_STATE (i : Nat) : Fld := ⟨K.MERGE_STATUS i, 2, 0⟩
def F.TS_COMP_TX_COMP (i : Nat) : Fld := ⟨K.TS_COMP_TX i, 23, 0⟩
def F.TS_COMP_RX_COMP (i : Nat) : Fld := ⟨K.TS_COMP_RX i, 23, 0⟩
def F.CNT_CTRL_ERR_BUSY (i : Nat) : Fld := ⟨K.CNT_CTRL i, 2, 2⟩
def F.CNT_CTRL_BUSY (i : Nat) : Fld := ⟨K.CNT_CTRL i, 1, 1⟩
def F.CNT_CTRL_CLEAR (i : Nat) : Fld := ⟨K.CNT_CTRL i, 0, 0⟩
def F.MDIO_CFG_POLL_MS (i : Nat) : Fld := ⟨K.MDIO_CFG i, 15, 8⟩
def F.MDIO_CFG_MDC_DIV (i : Nat) : Fld := ⟨K.MDIO_CFG i, 7, 0⟩
def F.MDIO_CMD_RD (i : Nat) : Fld := ⟨K.MDIO_CMD i, 31, 31⟩
def F.MDIO_CMD_PRTAD (i : Nat) : Fld := ⟨K.MDIO_CMD i, 25, 21⟩
def F.MDIO_CMD_DEVAD (i : Nat) : Fld := ⟨K.MDIO_CMD i, 20, 16⟩
def F.MDIO_CMD_REGAD (i : Nat) : Fld := ⟨K.MDIO_CMD i, 15, 0⟩
def F.MDIO_WDATA_WDATA (i : Nat) : Fld := ⟨K.MDIO_WDATA i, 15, 0⟩
def F.MDIO_STATUS_RDATA (i : Nat) : Fld := ⟨K.MDIO_STATUS i, 31, 16⟩
def F.MDIO_STATUS_ERR_BUSY (i : Nat) : Fld := ⟨K.MDIO_STATUS i, 2, 2⟩
def F.MDIO_STATUS_DONE (i : Nat) : Fld := ⟨K.MDIO_STATUS i, 1, 1⟩
def F.MDIO_STATUS_BUSY (i : Nat) : Fld := ⟨K.MDIO_STATUS i, 0, 0⟩
def F.PRS_TPID_ALT_EN : Fld := ⟨K.PRS_TPID, 16, 16⟩
def F.PRS_TPID_ALT : Fld := ⟨K.PRS_TPID, 15, 0⟩
def F.PRS_UDP_CONTAINER_EN : Fld := ⟨K.PRS_UDP, 16, 16⟩
def F.PRS_UDP_CONTAINER_PORT : Fld := ⟨K.PRS_UDP, 15, 0⟩
def F.CLS_GEN_ERR_BUSY : Fld := ⟨K.CLS_GEN, 19, 19⟩
def F.CLS_GEN_DONE : Fld := ⟨K.CLS_GEN, 18, 18⟩
def F.CLS_GEN_TARGET : Fld := ⟨K.CLS_GEN, 17, 17⟩
def F.CLS_GEN_SWAP : Fld := ⟨K.CLS_GEN, 16, 16⟩
def F.CLS_GEN_PENDING_TARGET : Fld := ⟨K.CLS_GEN, 3, 3⟩
def F.CLS_GEN_PENDING : Fld := ⟨K.CLS_GEN, 2, 2⟩
def F.CLS_GEN_RETIRING : Fld := ⟨K.CLS_GEN, 1, 1⟩
def F.CLS_GEN_ACTIVE : Fld := ⟨K.CLS_GEN, 0, 0⟩
def F.CLS_STATUS_RETIRE_REJECT : Fld := ⟨K.CLS_STATUS, 1, 1⟩
def F.CLS_STATUS_LIVE_WRITE : Fld := ⟨K.CLS_STATUS, 0, 0⟩
def F.CLS_WIN_INDEX_INDEX : Fld := ⟨K.CLS_WIN_INDEX, 12, 0⟩
def F.CLS_CNT_CTRL_ERR_BUSY : Fld := ⟨K.CLS_CNT_CTRL, 2, 2⟩
def F.CLS_CNT_CTRL_BUSY : Fld := ⟨K.CLS_CNT_CTRL, 1, 1⟩
def F.CLS_CNT_CTRL_CLEAR : Fld := ⟨K.CLS_CNT_CTRL, 0, 0⟩
def F.PRS_PORT_DEFAULT_PARSEERR (i : Nat) : Fld := ⟨K.PRS_PORT i, 3, 2⟩
def F.PRS_PORT_DEFAULT_NOMATCH (i : Nat) : Fld := ⟨K.PRS_PORT i, 1, 0⟩
def F.BUF_CFG_QUAR_LIMIT : Fld := ⟨K.BUF_CFG, 27, 20⟩
def F.BUF_CFG_LOW_WATER : Fld := ⟨K.BUF_CFG, 17, 0⟩
def F.BUF_STATUS_FREE_CELLS : Fld := ⟨K.BUF_STATUS, 17, 0⟩
def F.BUF_AUDIT_QLOG_LOST : Fld := ⟨K.BUF_AUDIT, 20, 20⟩
def F.BUF_AUDIT_LIMIT_HIT : Fld := ⟨K.BUF_AUDIT, 19, 19⟩
def F.BUF_AUDIT_COUNT_FIXED : Fld := ⟨K.BUF_AUDIT, 18, 18⟩
def F.BUF_AUDIT_QUAR_CELLS : Fld := ⟨K.BUF_AUDIT, 17, 0⟩
def F.BUF_CNT_CTRL_ERR_BUSY : Fld := ⟨K.BUF_CNT_CTRL, 2, 2⟩
def F.BUF_CNT_CTRL_BUSY : Fld := ⟨K.BUF_CNT_CTRL, 1, 1⟩
def F.BUF_CNT_CTRL_CLEAR : Fld := ⟨K.BUF_CNT_CTRL, 0, 0⟩
def F.FDB_CFG_AGE_S : Fld := ⟨K.FDB_CFG, 15, 0⟩
def F.FDB_CMD_OP : Fld := ⟨K.FDB_CMD, 31, 29⟩
def F.FDB_CMD_INDEX : Fld := ⟨K.FDB_CMD, 14, 0⟩
def F.FDB_KEY_LO_MAC_LO : Fld := ⟨K.FDB_KEY_LO, 31, 0⟩
def F.FDB_KEY_HI_FID : Fld := ⟨K.FDB_KEY_HI, 27, 16⟩
def F.FDB_KEY_HI_MAC_HI : Fld := ⟨K.FDB_KEY_HI, 15, 0⟩
def F.FDB_DATA_VALID : Fld := ⟨K.FDB_DATA, 31, 31⟩
def F.FDB_DATA_STATIC : Fld := ⟨K.FDB_DATA, 30, 30⟩
def F.FDB_DATA_HIT : Fld := ⟨K.FDB_DATA, 29, 29⟩
def F.FDB_DATA_KIND : Fld := ⟨K.FDB_DATA, 28, 27⟩
def F.FDB_DATA_DEST : Fld := ⟨K.FDB_DATA, 26, 17⟩
def F.FDB_STATUS_RESULT : Fld := ⟨K.FDB_STATUS, 20, 18⟩
def F.FDB_STATUS_ERR_BUSY : Fld := ⟨K.FDB_STATUS, 17, 17⟩
def F.FDB_STATUS_DONE : Fld := ⟨K.FDB_STATUS, 16, 16⟩
def F.FDB_STATUS_BUSY : Fld := ⟨K.FDB_STATUS, 15, 15⟩
def F.FDB_STATUS_INDEX : Fld := ⟨K.FDB_STATUS, 14, 0⟩
def F.VOQ_CFG_MAX_CELLS : Fld := ⟨K.VOQ_CFG, 17, 0⟩
def F.VOQ_AGE_AGE_LIMIT : Fld := ⟨K.VOQ_AGE, 23, 0⟩
def F.VLAN_WIN_INDEX_VID : Fld := ⟨K.VLAN_WIN_INDEX, 11, 0⟩
def F.VLAN_WIN_DATA0_VALID (e : Nat) : Fld := ⟨K.VLAN_WIN_DATA0 e, 31, 31⟩
def F.VLAN_WIN_DATA0_LEARN (e : Nat) : Fld := ⟨K.VLAN_WIN_DATA0 e, 30, 30⟩
def F.VLAN_WIN_DATA0_FLOOD_UC (e : Nat) : Fld := ⟨K.VLAN_WIN_DATA0 e, 29, 29⟩
def F.VLAN_WIN_DATA0_FLOOD_MC (e : Nat) : Fld := ⟨K.VLAN_WIN_DATA0 e, 28, 28⟩
def F.VLAN_WIN_DATA0_FID (e : Nat) : Fld := ⟨K.VLAN_WIN_DATA0 e, 27, 16⟩
def F.VLAN_WIN_DATA1_MEMBER (e : Nat) : Fld := ⟨K.VLAN_WIN_DATA1 e, 31, 0⟩
def F.VLAN_WIN_DATA2_PARTNER (e : Nat) : Fld := ⟨K.VLAN_WIN_DATA2 e, 31, 31⟩
def F.VLAN_WIN_DATA2_UNTAG_HI (e : Nat) : Fld := ⟨K.VLAN_WIN_DATA2 e, 18, 16⟩
def F.VLAN_WIN_DATA2_MEMBER_HI (e : Nat) : Fld := ⟨K.VLAN_WIN_DATA2 e, 2, 0⟩
def F.VLAN_WIN_DATA3_UNTAG (e : Nat) : Fld := ⟨K.VLAN_WIN_DATA3 e, 31, 0⟩
def F.MCG_WIN_INDEX_INDEX : Fld := ⟨K.MCG_WIN_INDEX, 9, 0⟩
def F.MCG_WIN_DATA0_MASK (e : Nat) : Fld := ⟨K.MCG_WIN_DATA0 e, 31, 0⟩
def F.MCG_WIN_DATA1_PARTNER (e : Nat) : Fld := ⟨K.MCG_WIN_DATA1 e, 31, 31⟩
def F.MCG_WIN_DATA1_MASK_HI (e : Nat) : Fld := ⟨K.MCG_WIN_DATA1 e, 2, 0⟩
def F.QUE_WIN_INDEX_INDEX : Fld := ⟨K.QUE_WIN_INDEX, 8, 0⟩
def F.QUE_WIN_CFG_WRED_EN (e : Nat) : Fld := ⟨K.QUE_WIN_CFG e, 31, 31⟩
def F.QUE_WIN_CFG_WRED_PROFILE (e : Nat) : Fld := ⟨K.QUE_WIN_CFG e, 30, 27⟩
def F.QUE_WIN_CFG_MAX_CELLS (e : Nat) : Fld := ⟨K.QUE_WIN_CFG e, 17, 0⟩
def F.QUE_WIN_AGE_AGE_LIMIT (e : Nat) : Fld := ⟨K.QUE_WIN_AGE e, 23, 0⟩
def F.QUE_WIN_STATUS_QUAR (e : Nat) : Fld := ⟨K.QUE_WIN_STATUS e, 31, 31⟩
def F.QUE_WIN_STATUS_CELLS (e : Nat) : Fld := ⟨K.QUE_WIN_STATUS e, 17, 0⟩
def F.LAG_WIN_INDEX_GROUP : Fld := ⟨K.LAG_WIN_INDEX, 2, 0⟩
def F.LAG_WIN_TABLE_SLOTS (i e : Nat) : Fld := ⟨K.LAG_WIN_TABLE i e, 31, 0⟩
def F.PORT_L2_CT_EN (i : Nat) : Fld := ⟨K.PORT_L2 i, 19, 19⟩
def F.PORT_L2_LEARN_EN (i : Nat) : Fld := ⟨K.PORT_L2 i, 18, 18⟩
def F.PORT_L2_DEFAULT_PCP (i : Nat) : Fld := ⟨K.PORT_L2 i, 17, 15⟩
def F.PORT_L2_PVID (i : Nat) : Fld := ⟨K.PORT_L2 i, 11, 0⟩
def F.PORT_PCP_MAP (i : Nat) : Fld := ⟨K.PORT_PCP i, 23, 0⟩
def F.LAG_CFG_MEMBERS (i : Nat) : Fld := ⟨K.LAG_CFG i, 27, 0⟩
def F.LAG_SEL_EN (i : Nat) : Fld := ⟨K.LAG_SEL i, 31, 31⟩
def F.LAG_SEL_UP (i : Nat) : Fld := ⟨K.LAG_SEL i, 19, 16⟩
def F.LAG_SEL_SEL (i : Nat) : Fld := ⟨K.LAG_SEL i, 9, 0⟩
def F.WRED_G_THR_MAX (i : Nat) : Fld := ⟨K.WRED_G_THR i, 31, 16⟩
def F.WRED_G_THR_MIN (i : Nat) : Fld := ⟨K.WRED_G_THR i, 15, 0⟩
def F.WRED_Y_THR_MAX (i : Nat) : Fld := ⟨K.WRED_Y_THR i, 31, 16⟩
def F.WRED_Y_THR_MIN (i : Nat) : Fld := ⟨K.WRED_Y_THR i, 15, 0⟩
def F.WRED_PARAM_W (i : Nat) : Fld := ⟨K.WRED_PARAM i, 21, 18⟩
def F.WRED_PARAM_Y_PMAX (i : Nat) : Fld := ⟨K.WRED_PARAM i, 17, 9⟩
def F.WRED_PARAM_G_PMAX (i : Nat) : Fld := ⟨K.WRED_PARAM i, 8, 0⟩
def F.BUF_QLOG_CAUSE : Fld := ⟨K.BUF_QLOG, 31, 24⟩
def F.BUF_QLOG_INDEX : Fld := ⟨K.BUF_QLOG, 17, 0⟩
def F.SCH_QUE_INDEX_INDEX : Fld := ⟨K.SCH_QUE_INDEX, 8, 0⟩
def F.SCH_QUE_CFG_WEIGHT (e : Nat) : Fld := ⟨K.SCH_QUE_CFG e, 9, 0⟩
def F.SHP_CIR_RATE (e : Nat) : Fld := ⟨K.SHP_CIR e, 24, 0⟩
def F.SHP_CBS_BURST (e : Nat) : Fld := ⟨K.SHP_CBS e, 23, 0⟩
def F.SHP_PIR_RATE (e : Nat) : Fld := ⟨K.SHP_PIR e, 24, 0⟩
def F.SHP_PBS_BURST (e : Nat) : Fld := ⟨K.SHP_PBS e, 23, 0⟩
def F.SHP_CTRL_PENDING (e : Nat) : Fld := ⟨K.SHP_CTRL e, 4, 4⟩
def F.SHP_CTRL_ERR_BUSY (e : Nat) : Fld := ⟨K.SHP_CTRL e, 3, 3⟩
def F.SHP_CTRL_RESET_FILL (e : Nat) : Fld := ⟨K.SHP_CTRL e, 2, 2⟩
def F.SHP_CTRL_EN (e : Nat) : Fld := ⟨K.SHP_CTRL e, 1, 1⟩
def F.SHP_CTRL_COMMIT (e : Nat) : Fld := ⟨K.SHP_CTRL e, 0, 0⟩
def F.SHP_C_LEVEL_LEVEL (e : Nat) : Fld := ⟨K.SHP_C_LEVEL e, 31, 0⟩
def F.SHP_P_LEVEL_LEVEL (e : Nat) : Fld := ⟨K.SHP_P_LEVEL e, 31, 0⟩
def F.SCH_LAUNCH_LATE_NS (e : Nat) : Fld := ⟨K.SCH_LAUNCH e, 31, 0⟩
def F.SCH_QUE_STATUS_ELIGIBLE (e : Nat) : Fld := ⟨K.SCH_QUE_STATUS e, 31, 31⟩
def F.SCH_QUE_STATUS_GATE_OPEN (e : Nat) : Fld := ⟨K.SCH_QUE_STATUS e, 30, 30⟩
def F.SCH_QUE_STATUS_LAUNCH_WAIT (e : Nat) : Fld := ⟨K.SCH_QUE_STATUS e, 29, 29⟩
def F.SCH_QUE_STATUS_MAX_OPEN_US (e : Nat) : Fld := ⟨K.SCH_QUE_STATUS e, 23, 0⟩
def F.GATE_WIN_PORT_PORT : Fld := ⟨K.GATE_WIN_PORT, 5, 0⟩
def F.GATE_CTRL_ERR_BUSY (e : Nat) : Fld := ⟨K.GATE_CTRL e, 3, 3⟩
def F.GATE_CTRL_CANCEL (e : Nat) : Fld := ⟨K.GATE_CTRL e, 2, 2⟩
def F.GATE_CTRL_CONFIG_CHANGE (e : Nat) : Fld := ⟨K.GATE_CTRL e, 1, 1⟩
def F.GATE_CTRL_GATE_EN (e : Nat) : Fld := ⟨K.GATE_CTRL e, 0, 0⟩
def F.GATE_STATUS_LIST_ERR (e : Nat) : Fld := ⟨K.GATE_STATUS e, 21, 21⟩
def F.GATE_STATUS_LOCK_REJECT (e : Nat) : Fld := ⟨K.GATE_STATUS e, 20, 20⟩
def F.GATE_STATUS_PENDING (e : Nat) : Fld := ⟨K.GATE_STATUS e, 19, 19⟩
def F.GATE_STATUS_OPER_VALID (e : Nat) : Fld := ⟨K.GATE_STATUS e, 18, 18⟩
def F.GATE_STATUS_HOLD_ACTIVE (e : Nat) : Fld := ⟨K.GATE_STATUS e, 17, 17⟩
def F.GATE_STATUS_CURRENT (e : Nat) : Fld := ⟨K.GATE_STATUS e, 9, 0⟩
def F.GATE_ADMIN_BASE_S_LO_SEC (e : Nat) : Fld := ⟨K.GATE_ADMIN_BASE_S_LO e, 31, 0⟩
def F.GATE_ADMIN_BASE_S_HI_SEC (e : Nat) : Fld := ⟨K.GATE_ADMIN_BASE_S_HI e, 15, 0⟩
def F.GATE_ADMIN_BASE_NS_NS (e : Nat) : Fld := ⟨K.GATE_ADMIN_BASE_NS e, 29, 0⟩
def F.GATE_ADMIN_CYCLE_CYCLE (e : Nat) : Fld := ⟨K.GATE_ADMIN_CYCLE e, 31, 0⟩
def F.GATE_ADMIN_EXT_CYCLE_EXT (e : Nat) : Fld := ⟨K.GATE_ADMIN_EXT e, 31, 0⟩
def F.GATE_ADMIN_LEN_LEN (e : Nat) : Fld := ⟨K.GATE_ADMIN_LEN e, 10, 0⟩
def F.GATE_HOLD_ADV_ADV_NS (e : Nat) : Fld := ⟨K.GATE_HOLD_ADV e, 19, 0⟩
def F.GATE_OPER_BASE_S_LO_SEC (e : Nat) : Fld := ⟨K.GATE_OPER_BASE_S_LO e, 31, 0⟩
def F.GATE_OPER_BASE_S_HI_SEC (e : Nat) : Fld := ⟨K.GATE_OPER_BASE_S_HI e, 15, 0⟩
def F.GATE_OPER_BASE_NS_NS (e : Nat) : Fld := ⟨K.GATE_OPER_BASE_NS e, 29, 0⟩
def F.GATE_OPER_CYCLE_CYCLE (e : Nat) : Fld := ⟨K.GATE_OPER_CYCLE e, 31, 0⟩
def F.GATE_OPER_EXT_CYCLE_EXT (e : Nat) : Fld := ⟨K.GATE_OPER_EXT e, 31, 0⟩
def F.GATE_OPER_LEN_LEN (e : Nat) : Fld := ⟨K.GATE_OPER_LEN e, 10, 0⟩
def F.GATE_CHANGE_S_LO_SEC (e : Nat) : Fld := ⟨K.GATE_CHANGE_S_LO e, 31, 0⟩
def F.GATE_CHANGE_S_HI_SEC (e : Nat) : Fld := ⟨K.GATE_CHANGE_S_HI e, 15, 0⟩
def F.GATE_CHANGE_NS_NS (e : Nat) : Fld := ⟨K.GATE_CHANGE_NS e, 29, 0⟩
def F.GATE_WIN_ENTRY_LIST : Fld := ⟨K.GATE_WIN_ENTRY, 31, 31⟩
def F.GATE_WIN_ENTRY_INDEX : Fld := ⟨K.GATE_WIN_ENTRY, 9, 0⟩
def F.GATE_WIN_INTERVAL_INTERVAL (e : Nat) : Fld := ⟨K.GATE_WIN_INTERVAL e, 31, 0⟩
def F.GATE_WIN_OP_HOLD (e : Nat) : Fld := ⟨K.GATE_WIN_OP e, 8, 8⟩
def F.GATE_WIN_OP_GATES (e : Nat) : Fld := ⟨K.GATE_WIN_OP e, 7, 0⟩
def F.STRM_WIN_INDEX_INDEX : Fld := ⟨K.STRM_WIN_INDEX, 11, 0⟩
def F.STRM_WIN_FILTER_DROP_YELLOW (e : Nat) : Fld := ⟨K.STRM_WIN_FILTER e, 20, 20⟩
def F.STRM_WIN_FILTER_CB (e : Nat) : Fld := ⟨K.STRM_WIN_FILTER e, 19, 19⟩
def F.STRM_WIN_FILTER_METER_EN (e : Nat) : Fld := ⟨K.STRM_WIN_FILTER e, 18, 18⟩
def F.STRM_WIN_FILTER_BLOCKED (e : Nat) : Fld := ⟨K.STRM_WIN_FILTER e, 17, 17⟩
def F.STRM_WIN_FILTER_BLOCK_OVERSIZE (e : Nat) : Fld := ⟨K.STRM_WIN_FILTER e, 16, 16⟩
def F.STRM_WIN_FILTER_MAX_SDU (e : Nat) : Fld := ⟨K.STRM_WIN_FILTER e, 13, 0⟩
def F.MTR_CIR_RATE (e : Nat) : Fld := ⟨K.MTR_CIR e, 24, 0⟩
def F.MTR_CBS_BURST (e : Nat) : Fld := ⟨K.MTR_CBS e, 23, 0⟩
def F.MTR_PIR_RATE (e : Nat) : Fld := ⟨K.MTR_PIR e, 24, 0⟩
def F.MTR_PBS_BURST (e : Nat) : Fld := ⟨K.MTR_PBS e, 23, 0⟩
def F.MTR_CTRL_PENDING (e : Nat) : Fld := ⟨K.MTR_CTRL e, 3, 3⟩
def F.MTR_CTRL_ERR_BUSY (e : Nat) : Fld := ⟨K.MTR_CTRL e, 2, 2⟩
def F.MTR_CTRL_RESET_FILL (e : Nat) : Fld := ⟨K.MTR_CTRL e, 1, 1⟩
def F.MTR_CTRL_COMMIT (e : Nat) : Fld := ⟨K.MTR_CTRL e, 0, 0⟩
def F.MTR_C_LEVEL_LEVEL (e : Nat) : Fld := ⟨K.MTR_C_LEVEL e, 31, 0⟩
def F.MTR_P_LEVEL_LEVEL (e : Nat) : Fld := ⟨K.MTR_P_LEVEL e, 31, 0⟩
def F.FRER_WIN_INDEX_INDEX : Fld := ⟨K.FRER_WIN_INDEX, 9, 0⟩
def F.SEQG_WIN_CFG_EN (e : Nat) : Fld := ⟨K.SEQG_WIN_CFG e, 31, 31⟩
def F.SEQG_WIN_CFG_NEXT (e : Nat) : Fld := ⟨K.SEQG_WIN_CFG e, 15, 0⟩
def F.SEQR_WIN_CFG_EN (e : Nat) : Fld := ⟨K.SEQR_WIN_CFG e, 31, 31⟩
def F.SEQR_WIN_CFG_ALG (e : Nat) : Fld := ⟨K.SEQR_WIN_CFG e, 30, 30⟩
def F.SEQR_WIN_CFG_TAKE_NO_SEQ (e : Nat) : Fld := ⟨K.SEQR_WIN_CFG e, 29, 29⟩
def F.SEQR_WIN_CFG_POP_RTAG (e : Nat) : Fld := ⟨K.SEQR_WIN_CFG e, 28, 28⟩
def F.SEQR_WIN_CFG_HISTORY (e : Nat) : Fld := ⟨K.SEQR_WIN_CFG e, 27, 22⟩
def F.SEQR_WIN_CFG_RESET_MS (e : Nat) : Fld := ⟨K.SEQR_WIN_CFG e, 15, 0⟩
def F.SEQR_WIN_STATE_RESET (e : Nat) : Fld := ⟨K.SEQR_WIN_STATE e, 17, 17⟩
def F.SEQR_WIN_STATE_TAKE_ANY (e : Nat) : Fld := ⟨K.SEQR_WIN_STATE e, 16, 16⟩
def F.SEQR_WIN_STATE_RECOV_SEQ (e : Nat) : Fld := ⟨K.SEQR_WIN_STATE e, 15, 0⟩
def F.SCH_CNT_CTRL_ERR_BUSY : Fld := ⟨K.SCH_CNT_CTRL, 2, 2⟩
def F.SCH_CNT_CTRL_BUSY : Fld := ⟨K.SCH_CNT_CTRL, 1, 1⟩
def F.SCH_CNT_CTRL_CLEAR : Fld := ⟨K.SCH_CNT_CTRL, 0, 0⟩
def F.TIME_NOW_NS_NS : Fld := ⟨K.TIME_NOW_NS, 29, 0⟩
def F.TIME_NOW_FRAC_FRAC : Fld := ⟨K.TIME_NOW_FRAC, 15, 0⟩
def F.TIME_NOW_S_LO_SEC : Fld := ⟨K.TIME_NOW_S_LO, 31, 0⟩
def F.TIME_NOW_S_HI_SEC : Fld := ⟨K.TIME_NOW_S_HI, 15, 0⟩
def F.TIME_CTRL_STEP_REJECT : Fld := ⟨K.TIME_CTRL, 6, 6⟩
def F.TIME_CTRL_STEP_DONE : Fld := ⟨K.TIME_CTRL, 5, 5⟩
def F.TIME_CTRL_ACQUIRE : Fld := ⟨K.TIME_CTRL, 4, 4⟩
def F.TIME_CTRL_STEP : Fld := ⟨K.TIME_CTRL, 3, 3⟩
def F.TIME_CTRL_SOURCE : Fld := ⟨K.TIME_CTRL, 1, 0⟩
def F.TIME_STATUS_LOCK_RUN : Fld := ⟨K.TIME_STATUS, 15, 8⟩
def F.TIME_STATUS_MISSED : Fld := ⟨K.TIME_STATUS, 7, 4⟩
def F.TIME_STATUS_STATE_CHANGED : Fld := ⟨K.TIME_STATUS, 3, 3⟩
def F.TIME_STATUS_STATE : Fld := ⟨K.TIME_STATUS, 1, 0⟩
def F.TIME_RATE_RATE_ADJ : Fld := ⟨K.TIME_RATE, 31, 0⟩
def F.TIME_SET_NS_NS : Fld := ⟨K.TIME_SET_NS, 29, 0⟩
def F.TIME_SET_S_LO_SEC : Fld := ⟨K.TIME_SET_S_LO, 31, 0⟩
def F.TIME_SET_S_HI_SEC : Fld := ⟨K.TIME_SET_S_HI, 15, 0⟩
def F.SERVO_KP_GAIN : Fld := ⟨K.SERVO_KP, 23, 0⟩
def F.SERVO_KI_GAIN : Fld := ⟨K.SERVO_KI, 23, 0⟩
def F.SERVO_CFG_AVG_W : Fld := ⟨K.SERVO_CFG, 15, 12⟩
def F.SERVO_CFG_MISS_LIMIT : Fld := ⟨K.SERVO_CFG, 11, 8⟩
def F.SERVO_CFG_LOCK_COUNT : Fld := ⟨K.SERVO_CFG, 7, 0⟩
def F.SERVO_THR_LOCK_NS : Fld := ⟨K.SERVO_THR, 31, 16⟩
def F.SERVO_STEP_STEP_NS : Fld := ⟨K.SERVO_STEP, 31, 0⟩
def F.SERVO_SLEW_SLEW : Fld := ⟨K.SERVO_SLEW, 30, 0⟩
def F.SERVO_OFFSET_E_NS : Fld := ⟨K.SERVO_OFFSET, 31, 0⟩
def F.SERVO_INTEG_VALUE : Fld := ⟨K.SERVO_INTEG, 31, 0⟩
def F.SERVO_AVG_VALUE : Fld := ⟨K.SERVO_AVG, 31, 0⟩
def F.GPTP_CFG_SYNC_LOG : Fld := ⟨K.GPTP_CFG, 23, 20⟩
def F.GPTP_CFG_PDELAY_LOG : Fld := ⟨K.GPTP_CFG, 19, 16⟩
def F.GPTP_CFG_NB_THRESH : Fld := ⟨K.GPTP_CFG, 15, 0⟩
def F.GPTP_CLOCK_ID_LO_ID : Fld := ⟨K.GPTP_CLOCK_ID_LO, 31, 0⟩
def F.GPTP_CLOCK_ID_HI_ID : Fld := ⟨K.GPTP_CLOCK_ID_HI, 31, 0⟩
def F.GPTP_PORT_CFG_QUEUE (i : Nat) : Fld := ⟨K.GPTP_PORT_CFG i, 4, 2⟩
def F.GPTP_PORT_CFG_ROLE (i : Nat) : Fld := ⟨K.GPTP_PORT_CFG i, 1, 0⟩
def F.GPTP_PORT_STATUS_AS_CAPABLE (i : Nat) : Fld := ⟨K.GPTP_PORT_STATUS i, 31, 31⟩
def F.GPTP_PORT_STATUS_LOST (i : Nat) : Fld := ⟨K.GPTP_PORT_STATUS i, 19, 16⟩
def F.GPTP_PORT_STATUS_NRR_OFFSET (i : Nat) : Fld := ⟨K.GPTP_PORT_STATUS i, 15, 0⟩
def F.GPTP_PORT_DELAY_DELAY (i : Nat) : Fld := ⟨K.GPTP_PORT_DELAY i, 23, 0⟩
def F.PPS_IN_CFG_WINDOW_NS : Fld := ⟨K.PPS_IN_CFG, 27, 3⟩
def F.PPS_IN_CFG_NEW : Fld := ⟨K.PPS_IN_CFG, 2, 2⟩
def F.PPS_IN_CFG_FALLING : Fld := ⟨K.PPS_IN_CFG, 1, 1⟩
def F.PPS_IN_CFG_EN : Fld := ⟨K.PPS_IN_CFG, 0, 0⟩
def F.PPS_IN_STAMP_NS_NS : Fld := ⟨K.PPS_IN_STAMP_NS, 29, 0⟩
def F.PPS_IN_STAMP_S_LO_SEC : Fld := ⟨K.PPS_IN_STAMP_S_LO, 31, 0⟩
def F.PPS_IN_STAMP_S_HI_SEC : Fld := ⟨K.PPS_IN_STAMP_S_HI, 15, 0⟩
def F.PPS_IN_SEC_LO_SEC : Fld := ⟨K.PPS_IN_SEC_LO, 31, 0⟩
def F.PPS_IN_SEC_HI_SEC : Fld := ⟨K.PPS_IN_SEC_HI, 15, 0⟩
def F.PPS_OUT_CTRL_LATE (i : Nat) : Fld := ⟨K.PPS_OUT_CTRL i, 4, 4⟩
def F.PPS_OUT_CTRL_QUALIFY (i : Nat) : Fld := ⟨K.PPS_OUT_CTRL i, 3, 3⟩
def F.PPS_OUT_CTRL_POLARITY (i : Nat) : Fld := ⟨K.PPS_OUT_CTRL i, 2, 2⟩
def F.PPS_OUT_CTRL_CFG_REJECT (i : Nat) : Fld := ⟨K.PPS_OUT_CTRL i, 1, 1⟩
def F.PPS_OUT_CTRL_EN (i : Nat) : Fld := ⟨K.PPS_OUT_CTRL i, 0, 0⟩
def F.PPS_OUT_START_NS_NS (i : Nat) : Fld := ⟨K.PPS_OUT_START_NS i, 29, 0⟩
def F.PPS_OUT_START_S_LO_SEC (i : Nat) : Fld := ⟨K.PPS_OUT_START_S_LO i, 31, 0⟩
def F.PPS_OUT_START_S_HI_SEC (i : Nat) : Fld := ⟨K.PPS_OUT_START_S_HI i, 15, 0⟩
def F.PPS_OUT_PERIOD_NS (i : Nat) : Fld := ⟨K.PPS_OUT_PERIOD i, 31, 0⟩
def F.PPS_OUT_WIDTH_NS (i : Nat) : Fld := ⟨K.PPS_OUT_WIDTH i, 31, 0⟩
def F.TIME_CNT_CTRL_ERR_BUSY : Fld := ⟨K.TIME_CNT_CTRL, 2, 2⟩
def F.TIME_CNT_CTRL_BUSY : Fld := ⟨K.TIME_CNT_CTRL, 1, 1⟩
def F.TIME_CNT_CTRL_CLEAR : Fld := ⟨K.TIME_CNT_CTRL, 0, 0⟩
def F.CAN_CTRL_ERR_BUSY (i : Nat) : Fld := ⟨K.CAN_CTRL i, 15, 15⟩
def F.CAN_CTRL_RECOVER (i : Nat) : Fld := ⟨K.CAN_CTRL i, 14, 14⟩
def F.CAN_CTRL_STB_FORCE (i : Nat) : Fld := ⟨K.CAN_CTRL i, 13, 12⟩
def F.CAN_CTRL_STB_ON_STUCK (i : Nat) : Fld := ⟨K.CAN_CTRL i, 11, 11⟩
def F.CAN_CTRL_AUTO_RECOVER (i : Nat) : Fld := ⟨K.CAN_CTRL i, 10, 10⟩
def F.CAN_CTRL_PROTOCOL (i : Nat) : Fld := ⟨K.CAN_CTRL i, 9, 8⟩
def F.CAN_CTRL_SHADOW (i : Nat) : Fld := ⟨K.CAN_CTRL i, 2, 2⟩
def F.CAN_CTRL_MODE (i : Nat) : Fld := ⟨K.CAN_CTRL i, 1, 0⟩
def F.CAN_NBT_NSJW_M1 (i : Nat) : Fld := ⟨K.CAN_NBT i, 29, 23⟩
def F.CAN_NBT_NTSEG2_M1 (i : Nat) : Fld := ⟨K.CAN_NBT i, 22, 16⟩
def F.CAN_NBT_NTSEG1_M1 (i : Nat) : Fld := ⟨K.CAN_NBT i, 15, 8⟩
def F.CAN_NBT_NBRP_M1 (i : Nat) : Fld := ⟨K.CAN_NBT i, 7, 0⟩
def F.CAN_DBT_TDC_EN (i : Nat) : Fld := ⟨K.CAN_DBT i, 25, 25⟩
def F.CAN_DBT_TDCO (i : Nat) : Fld := ⟨K.CAN_DBT i, 24, 18⟩
def F.CAN_DBT_DSJW_M1 (i : Nat) : Fld := ⟨K.CAN_DBT i, 17, 14⟩
def F.CAN_DBT_DTSEG2_M1 (i : Nat) : Fld := ⟨K.CAN_DBT i, 13, 10⟩
def F.CAN_DBT_DTSEG1_M1 (i : Nat) : Fld := ⟨K.CAN_DBT i, 9, 5⟩
def F.CAN_DBT_DBRP_M1 (i : Nat) : Fld := ⟨K.CAN_DBT i, 4, 0⟩
def F.CAN_XBT_TDC_EN (i : Nat) : Fld := ⟨K.CAN_XBT i, 25, 25⟩
def F.CAN_XBT_TDCO (i : Nat) : Fld := ⟨K.CAN_XBT i, 24, 18⟩
def F.CAN_XBT_DSJW_M1 (i : Nat) : Fld := ⟨K.CAN_XBT i, 17, 14⟩
def F.CAN_XBT_DTSEG2_M1 (i : Nat) : Fld := ⟨K.CAN_XBT i, 13, 10⟩
def F.CAN_XBT_DTSEG1_M1 (i : Nat) : Fld := ⟨K.CAN_XBT i, 9, 5⟩
def F.CAN_XBT_DBRP_M1 (i : Nat) : Fld := ⟨K.CAN_XBT i, 4, 0⟩
def F.CAN_XL_PWM_TMS_EN (i : Nat) : Fld := ⟨K.CAN_XL_PWM i, 18, 18⟩
def F.CAN_XL_PWM_PWMO (i : Nat) : Fld := ⟨K.CAN_XL_PWM i, 17, 12⟩
def F.CAN_XL_PWM_PWML (i : Nat) : Fld := ⟨K.CAN_XL_PWM i, 11, 6⟩
def F.CAN_XL_PWM_PWMS (i : Nat) : Fld := ⟨K.CAN_XL_PWM i, 5, 0⟩
def F.CAN_LIMITS_DOM_LIMIT (i : Nat) : Fld := ⟨K.CAN_LIMITS i, 31, 16⟩
def F.CAN_LIMITS_BUSOFF_HOLD_MS (i : Nat) : Fld := ⟨K.CAN_LIMITS i, 15, 8⟩
def F.CAN_LIMITS_TX_RETRY (i : Nat) : Fld := ⟨K.CAN_LIMITS i, 7, 0⟩
def F.CAN_STATUS_REC (i : Nat) : Fld := ⟨K.CAN_STATUS i, 31, 24⟩
def F.CAN_STATUS_TEC (i : Nat) : Fld := ⟨K.CAN_STATUS i, 23, 15⟩
def F.CAN_STATUS_LEC (i : Nat) : Fld := ⟨K.CAN_STATUS i, 11, 9⟩
def F.CAN_STATUS_BUS_IDLE (i : Nat) : Fld := ⟨K.CAN_STATUS i, 8, 8⟩
def F.CAN_STATUS_ISOLATED (i : Nat) : Fld := ⟨K.CAN_STATUS i, 7, 7⟩
def F.CAN_STATUS_WARN (i : Nat) : Fld := ⟨K.CAN_STATUS i, 2, 2⟩
def F.CAN_STATUS_STATE (i : Nat) : Fld := ⟨K.CAN_STATUS i, 1, 0⟩
def F.CAN_EVT_EVENTS (i : Nat) : Fld := ⟨K.CAN_EVT i, 7, 0⟩
def F.CAN_CNT_CTRL_ERR_BUSY (i : Nat) : Fld := ⟨K.CAN_CNT_CTRL i, 2, 2⟩
def F.CAN_CNT_CTRL_BUSY (i : Nat) : Fld := ⟨K.CAN_CNT_CTRL i, 1, 1⟩
def F.CAN_CNT_CTRL_CLEAR (i : Nat) : Fld := ⟨K.CAN_CNT_CTRL i, 0, 0⟩
def F.LIN_CTRL_ERR_BUSY (i : Nat) : Fld := ⟨K.LIN_CTRL i, 11, 11⟩
def F.LIN_CTRL_WAKE (i : Nat) : Fld := ⟨K.LIN_CTRL i, 10, 10⟩
def F.LIN_CTRL_SWITCH (i : Nat) : Fld := ⟨K.LIN_CTRL i, 9, 9⟩
def F.LIN_CTRL_TABLE (i : Nat) : Fld := ⟨K.LIN_CTRL i, 8, 7⟩
def F.LIN_CTRL_EN_FORCE (i : Nat) : Fld := ⟨K.LIN_CTRL i, 6, 5⟩
def F.LIN_CTRL_SHADOW (i : Nat) : Fld := ⟨K.LIN_CTRL i, 4, 4⟩
def F.LIN_CTRL_MODE (i : Nat) : Fld := ⟨K.LIN_CTRL i, 1, 0⟩
def F.LIN_BAUD_DIV (i : Nat) : Fld := ⟨K.LIN_BAUD i, 15, 0⟩
def F.LIN_CFG_STUCK_MS (i : Nat) : Fld := ⟨K.LIN_CFG i, 31, 24⟩
def F.LIN_CFG_BREAK_BITS (i : Nat) : Fld := ⟨K.LIN_CFG i, 20, 16⟩
def F.LIN_TABLE_LEN_LEN3 (i : Nat) : Fld := ⟨K.LIN_TABLE_LEN i, 29, 24⟩
def F.LIN_TABLE_LEN_LEN2 (i : Nat) : Fld := ⟨K.LIN_TABLE_LEN i, 21, 16⟩
def F.LIN_TABLE_LEN_LEN1 (i : Nat) : Fld := ⟨K.LIN_TABLE_LEN i, 13, 8⟩
def F.LIN_TABLE_LEN_LEN0 (i : Nat) : Fld := ⟨K.LIN_TABLE_LEN i, 5, 0⟩
def F.LIN_STATUS_ENTRY (i : Nat) : Fld := ⟨K.LIN_STATUS i, 11, 6⟩
def F.LIN_STATUS_TABLE (i : Nat) : Fld := ⟨K.LIN_STATUS i, 5, 4⟩
def F.LIN_STATUS_SWITCH_PENDING (i : Nat) : Fld := ⟨K.LIN_STATUS i, 2, 2⟩
def F.LIN_STATUS_ISOLATED (i : Nat) : Fld := ⟨K.LIN_STATUS i, 1, 1⟩
def F.LIN_STATUS_BUS_IDLE (i : Nat) : Fld := ⟨K.LIN_STATUS i, 0, 0⟩
def F.LIN_EVT_EVENTS (i : Nat) : Fld := ⟨K.LIN_EVT i, 7, 0⟩
def F.LIN_CNT_CTRL_ERR_BUSY (i : Nat) : Fld := ⟨K.LIN_CNT_CTRL i, 2, 2⟩
def F.LIN_CNT_CTRL_BUSY (i : Nat) : Fld := ⟨K.LIN_CNT_CTRL i, 1, 1⟩
def F.LIN_CNT_CTRL_CLEAR (i : Nat) : Fld := ⟨K.LIN_CNT_CTRL i, 0, 0⟩
def F.LIN_SCHED_INDEX_INDEX (i : Nat) : Fld := ⟨K.LIN_SCHED_INDEX i, 6, 0⟩
def F.LIN_SCHED_ENTRY_ID (i e : Nat) : Fld := ⟨K.LIN_SCHED_ENTRY i e, 31, 26⟩
def F.LIN_SCHED_ENTRY_TYPE (i e : Nat) : Fld := ⟨K.LIN_SCHED_ENTRY i e, 25, 24⟩
def F.LIN_SCHED_ENTRY_DELAY (i e : Nat) : Fld := ⟨K.LIN_SCHED_ENTRY i e, 15, 0⟩
def F.LIN_FRAME_INDEX_ID (i : Nat) : Fld := ⟨K.LIN_FRAME_INDEX i, 5, 0⟩
def F.LIN_FRAME_CFG_LEN_M1 (i e : Nat) : Fld := ⟨K.LIN_FRAME_CFG i e, 7, 5⟩
def F.LIN_FRAME_CFG_DIR (i e : Nat) : Fld := ⟨K.LIN_FRAME_CFG i e, 4, 3⟩
def F.LIN_FRAME_CFG_ENHANCED (i e : Nat) : Fld := ⟨K.LIN_FRAME_CFG i e, 2, 2⟩
def F.WVR_CTRL_ERR_BUSY : Fld := ⟨K.WVR_CTRL, 2, 2⟩
def F.WVR_CTRL_SEND : Fld := ⟨K.WVR_CTRL, 1, 1⟩
def F.WVR_STATUS_QUEUE : Fld := ⟨K.WVR_STATUS, 8, 0⟩
def F.WVR_EVT_EVENTS : Fld := ⟨K.WVR_EVT, 7, 0⟩
def F.WVR_CNT_CTRL_ERR_BUSY : Fld := ⟨K.WVR_CNT_CTRL, 2, 2⟩
def F.WVR_CNT_CTRL_BUSY : Fld := ⟨K.WVR_CNT_CTRL, 1, 1⟩
def F.WVR_CNT_CTRL_CLEAR : Fld := ⟨K.WVR_CNT_CTRL, 0, 0⟩
def F.WVR_PDU_INDEX_INDEX : Fld := ⟨K.WVR_PDU_INDEX, 11, 0⟩
def F.WVR_PDU_STATE_TIMED_OUT (e : Nat) : Fld := ⟨K.WVR_PDU_STATE e, 31, 31⟩
def F.WVR_PDU_STATE_WRITTEN (e : Nat) : Fld := ⟨K.WVR_PDU_STATE e, 30, 30⟩
def F.WVR_PDU_STATE_DEFERRED (e : Nat) : Fld := ⟨K.WVR_PDU_STATE e, 29, 29⟩
def F.WVR_PDU_STATE_IN_FRAME (e : Nat) : Fld := ⟨K.WVR_PDU_STATE e, 28, 28⟩
def F.WVR_PDU_STAMP_NS_NS : Fld := ⟨K.WVR_PDU_STAMP_NS, 29, 0⟩
def F.WVR_PDU_STAMP_S_LO_SEC : Fld := ⟨K.WVR_PDU_STAMP_S_LO, 31, 0⟩
def F.WVR_PDU_STAMP_S_HI_SEC : Fld := ⟨K.WVR_PDU_STAMP_S_HI, 15, 0⟩
def F.WVR_PDU_DATA0_VALID (e : Nat) : Fld := ⟨K.WVR_PDU_DATA0 e, 31, 31⟩
def F.WVR_PDU_DATA0_DIR (e : Nat) : Fld := ⟨K.WVR_PDU_DATA0 e, 30, 30⟩
def F.WVR_PDU_DATA0_KIND (e : Nat) : Fld := ⟨K.WVR_PDU_DATA0 e, 29, 27⟩
def F.WVR_PDU_DATA0_FMT (e : Nat) : Fld := ⟨K.WVR_PDU_DATA0 e, 26, 25⟩
def F.WVR_PDU_DATA0_CHANNEL (e : Nat) : Fld := ⟨K.WVR_PDU_DATA0 e, 24, 20⟩
def F.WVR_PDU_DATA0_ZONE (e : Nat) : Fld := ⟨K.WVR_PDU_DATA0 e, 19, 16⟩
def F.WVR_PDU_DATA0_LEN (e : Nat) : Fld := ⟨K.WVR_PDU_DATA0 e, 6, 0⟩
def F.WVR_PDU_DATA1_ID (e : Nat) : Fld := ⟨K.WVR_PDU_DATA1 e, 31, 0⟩
def F.WVR_PDU_DATA2_RXTX (e : Nat) : Fld := ⟨K.WVR_PDU_DATA2 e, 31, 0⟩
def F.WVR_PDU_DATA3_US (e : Nat) : Fld := ⟨K.WVR_PDU_DATA3 e, 25, 0⟩
def F.WVR_PDU_DATA4_RXTX (e : Nat) : Fld := ⟨K.WVR_PDU_DATA4 e, 31, 0⟩
def F.WVR_PDU_DATA5_MIN_GAP_US (e : Nat) : Fld := ⟨K.WVR_PDU_DATA5 e, 23, 0⟩
def F.WVR_PDU_DATA6_LAUNCH_NS (e : Nat) : Fld := ⟨K.WVR_PDU_DATA6 e, 31, 0⟩
def F.WVR_IMG_DATA (i e : Nat) : Fld := ⟨K.WVR_IMG i e, 31, 0⟩
def F.WVR_RT_INDEX_INDEX : Fld := ⟨K.WVR_RT_INDEX, 13, 0⟩
def F.WVR_RT_DATA0_VALID (e : Nat) : Fld := ⟨K.WVR_RT_DATA0 e, 31, 31⟩
def F.WVR_RT_DATA0_DST_KIND (e : Nat) : Fld := ⟨K.WVR_RT_DATA0 e, 30, 30⟩
def F.WVR_RT_DATA0_TRIG (e : Nat) : Fld := ⟨K.WVR_RT_DATA0 e, 29, 28⟩
def F.WVR_RT_DATA0_TMO_ACT (e : Nat) : Fld := ⟨K.WVR_RT_DATA0 e, 27, 27⟩
def F.WVR_RT_DATA0_RANGE_ACT (e : Nat) : Fld := ⟨K.WVR_RT_DATA0 e, 26, 25⟩
def F.WVR_RT_DATA0_RANGE_EN (e : Nat) : Fld := ⟨K.WVR_RT_DATA0 e, 24, 24⟩
def F.WVR_RT_DATA0_ROUND (e : Nat) : Fld := ⟨K.WVR_RT_DATA0 e, 23, 23⟩
def F.WVR_RT_DATA0_ENUM_EN (e : Nat) : Fld := ⟨K.WVR_RT_DATA0 e, 22, 22⟩
def F.WVR_RT_DATA0_ENUM_TABLE (e : Nat) : Fld := ⟨K.WVR_RT_DATA0 e, 21, 16⟩
def F.WVR_RT_DATA0_DST (e : Nat) : Fld := ⟨K.WVR_RT_DATA0 e, 11, 0⟩
def F.WVR_RT_DATA1_SRC_START (e : Nat) : Fld := ⟨K.WVR_RT_DATA1 e, 22, 14⟩
def F.WVR_RT_DATA1_SRC_LEN_M1 (e : Nat) : Fld := ⟨K.WVR_RT_DATA1 e, 13, 8⟩
def F.WVR_RT_DATA1_SRC_ORDER (e : Nat) : Fld := ⟨K.WVR_RT_DATA1 e, 7, 7⟩
def F.WVR_RT_DATA1_SRC_SIGNED (e : Nat) : Fld := ⟨K.WVR_RT_DATA1 e, 6, 6⟩
def F.WVR_RT_DATA1_S (e : Nat) : Fld := ⟨K.WVR_RT_DATA1 e, 4, 0⟩
def F.WVR_RT_DATA2_DST_START (e : Nat) : Fld := ⟨K.WVR_RT_DATA2 e, 22, 14⟩
def F.WVR_RT_DATA2_DST_LEN_M1 (e : Nat) : Fld := ⟨K.WVR_RT_DATA2 e, 13, 8⟩
def F.WVR_RT_DATA2_DST_ORDER (e : Nat) : Fld := ⟨K.WVR_RT_DATA2 e, 7, 7⟩
def F.WVR_RT_DATA2_DST_SIGNED (e : Nat) : Fld := ⟨K.WVR_RT_DATA2 e, 6, 6⟩
def F.WVR_RT_DATA3_A (e : Nat) : Fld := ⟨K.WVR_RT_DATA3 e, 31, 0⟩
def F.WVR_RT_DATA4_B (e : Nat) : Fld := ⟨K.WVR_RT_DATA4 e, 31, 0⟩
def F.WVR_RT_DATA5_MIN (e : Nat) : Fld := ⟨K.WVR_RT_DATA5 e, 31, 0⟩
def F.WVR_RT_DATA6_MAX (e : Nat) : Fld := ⟨K.WVR_RT_DATA6 e, 31, 0⟩
def F.WVR_RT_DATA7_SUBST (e : Nat) : Fld := ⟨K.WVR_RT_DATA7 e, 31, 0⟩
def F.WVR_ENUM_INDEX_TABLE : Fld := ⟨K.WVR_ENUM_INDEX, 13, 8⟩
def F.WVR_ENUM_INDEX_ENTRY : Fld := ⟨K.WVR_ENUM_INDEX, 7, 0⟩
def F.WVR_ENUM_DATA_UNDEF (e : Nat) : Fld := ⟨K.WVR_ENUM_DATA e, 31, 31⟩
def F.WVR_ENUM_DATA_VALUE (e : Nat) : Fld := ⟨K.WVR_ENUM_DATA e, 23, 0⟩
def F.WVR_CAR_INDEX_INDEX : Fld := ⟨K.WVR_CAR_INDEX, 8, 0⟩
def F.WVR_CAR_CFG0_VALID (e : Nat) : Fld := ⟨K.WVR_CAR_CFG0 e, 31, 31⟩
def F.WVR_CAR_CFG0_FORMAT (e : Nat) : Fld := ⟨K.WVR_CAR_CFG0 e, 30, 29⟩
def F.WVR_CAR_CFG0_ZONE (e : Nat) : Fld := ⟨K.WVR_CAR_CFG0 e, 25, 22⟩
def F.WVR_CAR_CFG0_MAX_LEN (e : Nat) : Fld := ⟨K.WVR_CAR_CFG0 e, 13, 0⟩
def F.WVR_CAR_CFG1_HDR_LEN (e : Nat) : Fld := ⟨K.WVR_CAR_CFG1 e, 31, 24⟩
def F.WVR_CAR_CFG1_L3_OFF (e : Nat) : Fld := ⟨K.WVR_CAR_CFG1 e, 23, 16⟩
def F.WVR_CAR_CFG1_HOLD_US (e : Nat) : Fld := ⟨K.WVR_CAR_CFG1 e, 15, 0⟩
def F.WVR_CAR_TPL_DATA (i e : Nat) : Fld := ⟨K.WVR_CAR_TPL i e, 31, 0⟩
def F.WVR_SND_INDEX_INDEX : Fld := ⟨K.WVR_SND_INDEX, 10, 0⟩
def F.WVR_SND_STATUS_SILENT (e : Nat) : Fld := ⟨K.WVR_SND_STATUS e, 31, 31⟩
def F.WVR_SND_STATUS_PDUS (e : Nat) : Fld := ⟨K.WVR_SND_STATUS e, 23, 12⟩
def F.WVR_SND_STATUS_TIMED_OUT (e : Nat) : Fld := ⟨K.WVR_SND_STATUS e, 11, 0⟩
def F.ZONE_STATUS_DENIED : Fld := ⟨K.ZONE_STATUS, 0, 0⟩
def F.ZONE_CNT_CTRL_ERR_BUSY : Fld := ⟨K.ZONE_CNT_CTRL, 2, 2⟩
def F.ZONE_CNT_CTRL_BUSY : Fld := ⟨K.ZONE_CNT_CTRL, 1, 1⟩
def F.ZONE_CNT_CTRL_CLEAR : Fld := ⟨K.ZONE_CNT_CTRL, 0, 0⟩
def F.ZONE_LAST_DENY_PORT : Fld := ⟨K.ZONE_LAST_DENY, 14, 8⟩
def F.ZONE_LAST_DENY_FROM : Fld := ⟨K.ZONE_LAST_DENY, 7, 4⟩
def F.ZONE_LAST_DENY_TO : Fld := ⟨K.ZONE_LAST_DENY, 3, 0⟩
def F.ZONE_PORT_ZONE (i : Nat) : Fld := ⟨K.ZONE_PORT i, 3, 0⟩
def F.ZONE_CHAN_ZONE (i : Nat) : Fld := ⟨K.ZONE_CHAN i, 3, 0⟩
def F.ZONE_PARTNER_ZONE (i : Nat) : Fld := ⟨K.ZONE_PARTNER i, 3, 0⟩
def F.ZONE_PAIR_PERMIT (i : Nat) : Fld := ⟨K.ZONE_PAIR i, 31, 31⟩
def F.ZONE_PAIR_POL_EN (i : Nat) : Fld := ⟨K.ZONE_PAIR i, 30, 30⟩
def F.ZONE_PAIR_POLICER (i : Nat) : Fld := ⟨K.ZONE_PAIR i, 28, 24⟩
def F.ZPOL_INDEX_INDEX : Fld := ⟨K.ZPOL_INDEX, 4, 0⟩
def F.ZPOL_RATE_RATE (e : Nat) : Fld := ⟨K.ZPOL_RATE e, 24, 0⟩
def F.ZPOL_BURST_BURST (e : Nat) : Fld := ⟨K.ZPOL_BURST e, 23, 0⟩
def F.ZPOL_CTRL_PENDING (e : Nat) : Fld := ⟨K.ZPOL_CTRL e, 4, 4⟩
def F.ZPOL_CTRL_ERR_BUSY (e : Nat) : Fld := ⟨K.ZPOL_CTRL e, 3, 3⟩
def F.ZPOL_CTRL_RESET_FILL (e : Nat) : Fld := ⟨K.ZPOL_CTRL e, 2, 2⟩
def F.ZPOL_CTRL_EN (e : Nat) : Fld := ⟨K.ZPOL_CTRL e, 1, 1⟩
def F.ZPOL_CTRL_COMMIT (e : Nat) : Fld := ⟨K.ZPOL_CTRL e, 0, 0⟩
def F.ZPOL_LEVEL_LEVEL (e : Nat) : Fld := ⟨K.ZPOL_LEVEL e, 31, 0⟩
def F.SEC_CFG_TX_AN (i : Nat) : Fld := ⟨K.SEC_CFG i, 9, 8⟩
def F.SEC_CFG_TX_CONF (i : Nat) : Fld := ⟨K.SEC_CFG i, 7, 7⟩
def F.SEC_CFG_REPLAY (i : Nat) : Fld := ⟨K.SEC_CFG i, 6, 6⟩
def F.SEC_CFG_BYPASS_PTP (i : Nat) : Fld := ⟨K.SEC_CFG i, 5, 5⟩
def F.SEC_CFG_INCLUDE_SCI (i : Nat) : Fld := ⟨K.SEC_CFG i, 4, 4⟩
def F.SEC_CFG_VALIDATE (i : Nat) : Fld := ⟨K.SEC_CFG i, 3, 3⟩
def F.SEC_CFG_RX_EN (i : Nat) : Fld := ⟨K.SEC_CFG i, 1, 1⟩
def F.SEC_CFG_TX_EN (i : Nat) : Fld := ⟨K.SEC_CFG i, 0, 0⟩
def F.SEC_STATUS_TX_STALLED (i : Nat) : Fld := ⟨K.SEC_STATUS i, 1, 1⟩
def F.SEC_STATUS_PN_WARN (i : Nat) : Fld := ⟨K.SEC_STATUS i, 0, 0⟩
def F.SEC_REPLAY_REPLAY_WINDOW (i : Nat) : Fld := ⟨K.SEC_REPLAY i, 31, 0⟩
def F.SEC_TX_SCI_LO_SCI (i : Nat) : Fld := ⟨K.SEC_TX_SCI_LO i, 31, 0⟩
def F.SEC_TX_SCI_HI_SCI (i : Nat) : Fld := ⟨K.SEC_TX_SCI_HI i, 31, 0⟩
def F.SEC_SA_INDEX_SA (i : Nat) : Fld := ⟨K.SEC_SA_INDEX i, 4, 0⟩
def F.SEC_SA_CFG_EN (i e : Nat) : Fld := ⟨K.SEC_SA_CFG i e, 31, 31⟩
def F.SEC_SA_CFG_XPN (i e : Nat) : Fld := ⟨K.SEC_SA_CFG i e, 30, 30⟩
def F.SEC_SA_CFG_KEY_SLOT (i e : Nat) : Fld := ⟨K.SEC_SA_CFG i e, 29, 21⟩
def F.SEC_SA_SCI_LO_VALUE (i e : Nat) : Fld := ⟨K.SEC_SA_SCI_LO i e, 31, 0⟩
def F.SEC_SA_SCI_HI_VALUE (i e : Nat) : Fld := ⟨K.SEC_SA_SCI_HI i e, 31, 0⟩
def F.SEC_SA_PN_LO_VALUE (i e : Nat) : Fld := ⟨K.SEC_SA_PN_LO i e, 31, 0⟩
def F.SEC_SA_PN_HI_VALUE (i e : Nat) : Fld := ⟨K.SEC_SA_PN_HI i e, 31, 0⟩
def F.SEC_SA_SALT0_VALUE (i e : Nat) : Fld := ⟨K.SEC_SA_SALT0 i e, 31, 0⟩
def F.SEC_SA_SALT1_VALUE (i e : Nat) : Fld := ⟨K.SEC_SA_SALT1 i e, 31, 0⟩
def F.SEC_SA_SALT2_VALUE (i e : Nat) : Fld := ⟨K.SEC_SA_SALT2 i e, 31, 0⟩
def F.SEC_SA_SSCI_VALUE (i e : Nat) : Fld := ⟨K.SEC_SA_SSCI i e, 31, 0⟩
def F.LCS_STATUS_RESUMED : Fld := ⟨K.LCS_STATUS, 9, 9⟩
def F.LCS_STATUS_DEBUG_FULL : Fld := ⟨K.LCS_STATUS, 8, 8⟩
def F.LCS_STATUS_TRANSITION : Fld := ⟨K.LCS_STATUS, 7, 7⟩
def F.LCS_STATUS_TARGET : Fld := ⟨K.LCS_STATUS, 6, 4⟩
def F.LCS_STATUS_STATE : Fld := ⟨K.LCS_STATUS, 2, 0⟩
def F.DEVICE_SERIAL_LO_SERIAL : Fld := ⟨K.DEVICE_SERIAL_LO, 31, 0⟩
def F.DEVICE_SERIAL_HI_SERIAL : Fld := ⟨K.DEVICE_SERIAL_HI, 31, 0⟩
def F.FW_STATUS_FW_FLOOR : Fld := ⟨K.FW_STATUS, 22, 16⟩
def F.FW_STATUS_SVN : Fld := ⟨K.FW_STATUS, 14, 8⟩
def F.FW_STATUS_OTHER_VALID : Fld := ⟨K.FW_STATUS, 1, 1⟩
def F.FW_STATUS_COPY : Fld := ⟨K.FW_STATUS, 0, 0⟩
def F.FW_VERSION_FW_VERSION : Fld := ⟨K.FW_VERSION, 31, 0⟩
def F.KEY_STATUS_SLOTS_USED : Fld := ⟨K.KEY_STATUS, 25, 16⟩
def F.KEY_STATUS_KCV_MISMATCH : Fld := ⟨K.KEY_STATUS, 3, 3⟩
def F.KEY_STATUS_TORN_RESOLVED : Fld := ⟨K.KEY_STATUS, 1, 1⟩
def F.KEY_STATUS_BUSY : Fld := ⟨K.KEY_STATUS, 0, 0⟩
def F.KEY_SLOT_INDEX_SLOT : Fld := ⟨K.KEY_SLOT_INDEX, 8, 0⟩
def F.KEY_SLOT_INFO_STATE (e : Nat) : Fld := ⟨K.KEY_SLOT_INFO e, 31, 30⟩
def F.KEY_SLOT_INFO_TYPE (e : Nat) : Fld := ⟨K.KEY_SLOT_INFO e, 29, 28⟩
def F.KEY_SLOT_INFO_SOURCE (e : Nat) : Fld := ⟨K.KEY_SLOT_INFO e, 27, 27⟩
def F.KEY_SLOT_INFO_KCV (e : Nat) : Fld := ⟨K.KEY_SLOT_INFO e, 23, 0⟩
def F.KEY_SLOT_PEND_TYPE (e : Nat) : Fld := ⟨K.KEY_SLOT_PEND e, 29, 28⟩
def F.KEY_SLOT_PEND_SOURCE (e : Nat) : Fld := ⟨K.KEY_SLOT_PEND e, 27, 27⟩
def F.KEY_SLOT_PEND_KCV (e : Nat) : Fld := ⟨K.KEY_SLOT_PEND e, 23, 0⟩
def F.LMS_STATUS_EXHAUSTED (i : Nat) : Fld := ⟨K.LMS_STATUS i, 2, 2⟩
def F.LMS_STATUS_NEXT_TREE (i : Nat) : Fld := ⟨K.LMS_STATUS i, 1, 1⟩
def F.LMS_STATUS_READY (i : Nat) : Fld := ⟨K.LMS_STATUS i, 0, 0⟩
def F.LMS_NEXT_LO_NEXT (i : Nat) : Fld := ⟨K.LMS_NEXT_LO i, 31, 0⟩
def F.LMS_NEXT_HI_NEXT (i : Nat) : Fld := ⟨K.LMS_NEXT_HI i, 7, 0⟩
def F.CMD_GEN_GEN (i : Nat) : Fld := ⟨K.CMD_GEN i, 15, 0⟩
def F.LDG_CFG_PERIOD_S : Fld := ⟨K.LDG_CFG, 31, 20⟩
def F.LDG_CFG_STALE_MS : Fld := ⟨K.LDG_CFG, 19, 8⟩
def F.LDG_CFG_STANDBY_EN : Fld := ⟨K.LDG_CFG, 3, 3⟩
def F.LDG_CFG_M1_EN : Fld := ⟨K.LDG_CFG, 1, 1⟩
def F.LDG_CFG_M0_EN : Fld := ⟨K.LDG_CFG, 0, 0⟩
def F.LDG_CTRL_ERR_BUSY : Fld := ⟨K.LDG_CTRL, 2, 2⟩
def F.LDG_CTRL_SIGN : Fld := ⟨K.LDG_CTRL, 1, 1⟩
def F.LDG_STATUS_STALE : Fld := ⟨K.LDG_STATUS, 15, 8⟩
def F.LDG_STATUS_GONE : Fld := ⟨K.LDG_STATUS, 6, 6⟩
def F.LDG_STATUS_SIGN_WAIT : Fld := ⟨K.LDG_STATUS, 5, 5⟩
def F.LDG_STATUS_OVERWRITE : Fld := ⟨K.LDG_STATUS, 4, 4⟩
def F.LDG_STATUS_GAP1 : Fld := ⟨K.LDG_STATUS, 1, 1⟩
def F.LDG_STATUS_GAP0 : Fld := ⟨K.LDG_STATUS, 0, 0⟩
def F.LDG_NEXT_INDEX : Fld := ⟨K.LDG_NEXT, 31, 0⟩
def F.LDG_SIGNED_INDEX : Fld := ⟨K.LDG_SIGNED, 31, 0⟩
def F.LDG_ACC_LO_VALUE (i : Nat) : Fld := ⟨K.LDG_ACC_LO i, 31, 0⟩
def F.LDG_ACC_HI_VALUE (i : Nat) : Fld := ⟨K.LDG_ACC_HI i, 31, 0⟩
def F.LDG_INPUT_VALUE (i : Nat) : Fld := ⟨K.LDG_INPUT i, 31, 0⟩
def F.LDG_RD_INDEX_INDEX : Fld := ⟨K.LDG_RD_INDEX, 31, 0⟩
def F.LDG_RD_DATA_DATA (i : Nat) : Fld := ⟨K.LDG_RD_DATA i, 31, 0⟩
def F.NM_STATE_ASLEEP : Fld := ⟨K.NM_STATE, 31, 16⟩
def F.NM_STATE_RING : Fld := ⟨K.NM_STATE, 5, 4⟩
def F.NM_STATE_LULL : Fld := ⟨K.NM_STATE, 0, 0⟩
def F.NM_CFG_GUARD_US : Fld := ⟨K.NM_CFG, 31, 16⟩
def F.NM_CFG_CALM_EN : Fld := ⟨K.NM_CFG, 15, 15⟩
def F.NM_CFG_WAKE_OUT_EN : Fld := ⟨K.NM_CFG, 14, 14⟩
def F.NM_CFG_CALM_XTAL : Fld := ⟨K.NM_CFG, 13, 13⟩
def F.NM_CFG_PULSE : Fld := ⟨K.NM_CFG, 7, 0⟩
def F.NM_TIMING_IDLE_MS : Fld := ⟨K.NM_TIMING, 31, 16⟩
def F.NM_TIMING_RSP_MS : Fld := ⟨K.NM_TIMING, 15, 8⟩
def F.NM_LIMITS_MAX_AWAKE_S : Fld := ⟨K.NM_LIMITS, 31, 16⟩
def F.NM_LIMITS_RETRY_MS : Fld := ⟨K.NM_LIMITS, 15, 0⟩
def F.NM_WAKE_ERR_BUSY : Fld := ⟨K.NM_WAKE, 17, 17⟩
def F.NM_WAKE_BUSY : Fld := ⟨K.NM_WAKE, 16, 16⟩
def F.NM_WAKE_GROUPS : Fld := ⟨K.NM_WAKE, 15, 0⟩
def F.NM_KEEP_KEEP : Fld := ⟨K.NM_KEEP, 15, 0⟩
def F.NM_SLEEP_EN_SLEEP_EN : Fld := ⟨K.NM_SLEEP_EN, 15, 0⟩
def F.NM_CAUSE_FIRST : Fld := ⟨K.NM_CAUSE, 31, 24⟩
def F.NM_CAUSE_LINES : Fld := ⟨K.NM_CAUSE, 20, 16⟩
def F.NM_CAUSE_GROUPS : Fld := ⟨K.NM_CAUSE, 15, 0⟩
def F.NM_SA_LO_SA : Fld := ⟨K.NM_SA_LO, 31, 0⟩
def F.NM_SA_HI_SA : Fld := ⟨K.NM_SA_HI, 15, 0⟩
def F.NM_PORT_GROUP_GROUP (i : Nat) : Fld := ⟨K.NM_PORT_GROUP i, 31, 0⟩
def F.NM_CHAN_GROUP_GROUP (i : Nat) : Fld := ⟨K.NM_CHAN_GROUP i, 31, 0⟩
def F.NM_GROUP_STATUS_ASLEEP (i : Nat) : Fld := ⟨K.NM_GROUP_STATUS i, 31, 31⟩
def F.NM_GROUP_STATUS_ISOLATED (i : Nat) : Fld := ⟨K.NM_GROUP_STATUS i, 30, 30⟩
def F.NM_GROUP_STATUS_HELD (i : Nat) : Fld := ⟨K.NM_GROUP_STATUS i, 29, 29⟩
def F.NM_GROUP_STATUS_RUN (i : Nat) : Fld := ⟨K.NM_GROUP_STATUS i, 28, 27⟩
def F.NM_GROUP_STATUS_LAST_SOURCE (i : Nat) : Fld := ⟨K.NM_GROUP_STATUS i, 23, 16⟩
def F.NM_GROUP_STATUS_AWAKE_S (i : Nat) : Fld := ⟨K.NM_GROUP_STATUS i, 15, 0⟩
def F.WAKE_IN_CFG_EN (i : Nat) : Fld := ⟨K.WAKE_IN_CFG i, 31, 31⟩
def F.WAKE_IN_CFG_ACTIVE_LOW (i : Nat) : Fld := ⟨K.WAKE_IN_CFG i, 30, 30⟩
def F.WAKE_IN_CFG_DEBOUNCE (i : Nat) : Fld := ⟨K.WAKE_IN_CFG i, 15, 0⟩
def F.WAKE_IN_GROUPS_GROUPS (i : Nat) : Fld := ⟨K.WAKE_IN_GROUPS i, 15, 0⟩
def F.WAKE_LIMITS_STUCK : Fld := ⟨K.WAKE_LIMITS, 31, 16⟩
def F.WAKE_LIMITS_CHATTER_N : Fld := ⟨K.WAKE_LIMITS, 15, 8⟩
def F.WAKE_LIMITS_CHATTER_MS : Fld := ⟨K.WAKE_LIMITS, 7, 0⟩
def F.WAKE_STATUS_LEVEL : Fld := ⟨K.WAKE_STATUS, 20, 16⟩
def F.WAKE_STATUS_CHATTER : Fld := ⟨K.WAKE_STATUS, 12, 8⟩
def F.WAKE_STATUS_STUCK : Fld := ⟨K.WAKE_STATUS, 4, 0⟩
def F.NM_MBR_INDEX_INDEX : Fld := ⟨K.NM_MBR_INDEX, 4, 0⟩
def F.NM_MBR_DATA0_EN (e : Nat) : Fld := ⟨K.NM_MBR_DATA0 e, 31, 31⟩
def F.NM_MBR_DATA0_PORT (e : Nat) : Fld := ⟨K.NM_MBR_DATA0 e, 30, 24⟩
def F.NM_MBR_DATA0_VID (e : Nat) : Fld := ⟨K.NM_MBR_DATA0 e, 23, 12⟩
def F.NM_MBR_DATA1_MAC_HI (e : Nat) : Fld := ⟨K.NM_MBR_DATA1 e, 15, 0⟩
def F.NM_MBR_DATA2_MAC_LO (e : Nat) : Fld := ⟨K.NM_MBR_DATA2 e, 31, 0⟩
def F.NM_MBR_DATA3_GROUPS (e : Nat) : Fld := ⟨K.NM_MBR_DATA3 e, 15, 0⟩
def F.NM_CNT_CTRL_ERR_BUSY : Fld := ⟨K.NM_CNT_CTRL, 2, 2⟩
def F.NM_CNT_CTRL_BUSY : Fld := ⟨K.NM_CNT_CTRL, 1, 1⟩
def F.NM_CNT_CTRL_CLEAR : Fld := ⟨K.NM_CNT_CTRL, 0, 0⟩
def F.NM_LOG_EVENT : Fld := ⟨K.NM_LOG, 31, 24⟩
def F.NM_LOG_SOURCE : Fld := ⟨K.NM_LOG, 23, 16⟩
def F.NM_LOG_GROUPS : Fld := ⟨K.NM_LOG, 15, 0⟩
def F.SAF_STATUS_LAST_STATE : Fld := ⟨K.SAF_STATUS, 31, 30⟩
def F.SAF_STATUS_NO_CLOCK : Fld := ⟨K.SAF_STATUS, 29, 29⟩
def F.SAF_STATUS_LAST_CAUSE : Fld := ⟨K.SAF_STATUS, 23, 16⟩
def F.SAF_STATUS_EXITS : Fld := ⟨K.SAF_STATUS, 11, 8⟩
def F.SAF_CFG_EXIT_MS : Fld := ⟨K.SAF_CFG, 31, 16⟩
def F.SAF_CFG_TJ_WARN : Fld := ⟨K.SAF_CFG, 15, 8⟩
def F.SAF_CFG_EXIT_LIMIT : Fld := ⟨K.SAF_CFG, 7, 4⟩
def F.SAF_CFG_QUAR_FATAL : Fld := ⟨K.SAF_CFG, 0, 0⟩
def F.SAF_DIGEST_MODE_REPORT : Fld := ⟨K.SAF_DIGEST_MODE, 7, 0⟩
def F.SAF_MON_TJ : Fld := ⟨K.SAF_MON, 31, 24⟩
def F.SAF_MON_AON_CLK_FAIL : Fld := ⟨K.SAF_MON, 2, 2⟩
def F.SAF_MON_TJ_HIGH : Fld := ⟨K.SAF_MON, 1, 1⟩
def F.SAF_AGREE_LAST_INPUT : Fld := ⟨K.SAF_AGREE, 31, 24⟩
def F.SAF_AGREE_RUN : Fld := ⟨K.SAF_AGREE, 4, 0⟩
def F.SAF_SELFTEST_LO_FAIL : Fld := ⟨K.SAF_SELFTEST_LO, 31, 0⟩
def F.SAF_SELFTEST_HI_FAIL : Fld := ⟨K.SAF_SELFTEST_HI, 31, 0⟩
def F.SAF_INJECT_KIND : Fld := ⟨K.SAF_INJECT, 7, 7⟩
def F.SAF_INJECT_GROUP : Fld := ⟨K.SAF_INJECT, 5, 0⟩
def F.LEE_CFG_CYCLE_NS : Fld := ⟨K.LEE_CFG, 31, 0⟩
def F.LEE_EDGE_EDGE_SETUP_US : Fld := ⟨K.LEE_EDGE, 15, 0⟩
def F.LEE_WIN_INDEX_KIND : Fld := ⟨K.LEE_WIN_INDEX, 9, 8⟩
def F.LEE_WIN_INDEX_INDEX : Fld := ⟨K.LEE_WIN_INDEX, 7, 0⟩
def F.LEE_WIN_DATA_DATA (i e : Nat) : Fld := ⟨K.LEE_WIN_DATA i e, 31, 0⟩
def F.SAF_CNT_CTRL_ERR_BUSY : Fld := ⟨K.SAF_CNT_CTRL, 2, 2⟩
def F.SAF_CNT_CTRL_BUSY : Fld := ⟨K.SAF_CNT_CTRL, 1, 1⟩
def F.SAF_CNT_CTRL_CLEAR : Fld := ⟨K.SAF_CNT_CTRL, 0, 0⟩
def F.SAF_LOG_CODE : Fld := ⟨K.SAF_LOG, 31, 24⟩
def F.SAF_LOG_DETAIL : Fld := ⟨K.SAF_LOG, 23, 0⟩
def F.PAIR_CFG_MODE : Fld := ⟨K.PAIR_CFG, 31, 30⟩
def F.PAIR_CFG_TIME_PAIR : Fld := ⟨K.PAIR_CFG, 29, 29⟩
def F.PAIR_CFG_P1_EN : Fld := ⟨K.PAIR_CFG, 28, 28⟩
def F.PAIR_CFG_HOLD_FILTER : Fld := ⟨K.PAIR_CFG, 27, 20⟩
def F.PAIR_CFG_HELLO_US : Fld := ⟨K.PAIR_CFG, 15, 0⟩
def F.PAIR_TIMING_LOSS_US : Fld := ⟨K.PAIR_TIMING, 31, 16⟩
def F.PAIR_TIMING_APPLY_US : Fld := ⟨K.PAIR_TIMING, 15, 0⟩
def F.PAIR_HOLD_STUCK_US : Fld := ⟨K.PAIR_HOLD, 31, 16⟩
def F.PAIR_HOLD_CHATTER_N : Fld := ⟨K.PAIR_HOLD, 15, 8⟩
def F.PAIR_CREDIT_CELLS : Fld := ⟨K.PAIR_CREDIT, 31, 16⟩
def F.PAIR_CREDIT_INTERVAL_US : Fld := ⟨K.PAIR_CREDIT, 7, 0⟩
def F.PAIR_STATUS_TAKEOVER_BLOCKED : Fld := ⟨K.PAIR_STATUS, 24, 24⟩
def F.PAIR_STATUS_PARTNER_PRESENT : Fld := ⟨K.PAIR_STATUS, 23, 23⟩
def F.PAIR_STATUS_PARTNER_READY : Fld := ⟨K.PAIR_STATUS, 22, 22⟩
def F.PAIR_STATUS_READY : Fld := ⟨K.PAIR_STATUS, 21, 21⟩
def F.PAIR_STATUS_MISMATCH : Fld := ⟨K.PAIR_STATUS, 20, 20⟩
def F.PAIR_STATUS_LINE_FAULT : Fld := ⟨K.PAIR_STATUS, 19, 19⟩
def F.PAIR_STATUS_HOLD_MASKED : Fld := ⟨K.PAIR_STATUS, 18, 18⟩
def F.PAIR_STATUS_HOLD_IN : Fld := ⟨K.PAIR_STATUS, 17, 17⟩
def F.PAIR_STATUS_HOLD_OUT : Fld := ⟨K.PAIR_STATUS, 16, 16⟩
def F.PAIR_STATUS_PARTNER_ROLE : Fld := ⟨K.PAIR_STATUS, 11, 8⟩
def F.PAIR_STATUS_ROLE : Fld := ⟨K.PAIR_STATUS, 3, 0⟩
def F.PAIR_CTRL_ERR_BUSY : Fld := ⟨K.PAIR_CTRL, 3, 3⟩
def F.PAIR_CTRL_RESYNC : Fld := ⟨K.PAIR_CTRL, 2, 2⟩
def F.PAIR_CTRL_CLAIM : Fld := ⟨K.PAIR_CTRL, 1, 1⟩
def F.PAIR_EVT_EVENTS : Fld := ⟨K.PAIR_EVT, 7, 0⟩
def F.PAIR_PARTNER_SERIAL_LO_SERIAL : Fld := ⟨K.PAIR_PARTNER_SERIAL_LO, 31, 0⟩
def F.PAIR_PARTNER_SERIAL_HI_SERIAL : Fld := ⟨K.PAIR_PARTNER_SERIAL_HI, 31, 0⟩
def F.PAIR_CNT_CTRL_ERR_BUSY : Fld := ⟨K.PAIR_CNT_CTRL, 2, 2⟩
def F.PAIR_CNT_CTRL_BUSY : Fld := ⟨K.PAIR_CNT_CTRL, 1, 1⟩
def F.PAIR_CNT_CTRL_CLEAR : Fld := ⟨K.PAIR_CNT_CTRL, 0, 0⟩
def F.MGT_STATUS_EVT_COUNT : Fld := ⟨K.MGT_STATUS, 24, 16⟩
def F.MGT_STATUS_CMD_QUEUE : Fld := ⟨K.MGT_STATUS, 4, 0⟩
def F.MGT_CFG_EVT_PORT : Fld := ⟨K.MGT_CFG, 31, 25⟩
def F.MGT_CFG_EVT_ORIGIN : Fld := ⟨K.MGT_CFG, 24, 19⟩
def F.MGT_CFG_EVT_LOST : Fld := ⟨K.MGT_CFG, 18, 18⟩
def F.MGT_CFG_EVT_VID : Fld := ⟨K.MGT_CFG, 11, 0⟩
def F.MGT_EVT_MAC_LO_MAC : Fld := ⟨K.MGT_EVT_MAC_LO, 31, 0⟩
def F.MGT_EVT_MAC_HI_MAC : Fld := ⟨K.MGT_EVT_MAC_HI, 15, 0⟩
def F.MGT_ORIGIN_EN_EN (i : Nat) : Fld := ⟨K.MGT_ORIGIN_EN i, 31, 0⟩
def F.MGT_SEQ_INDEX_ORIGIN : Fld := ⟨K.MGT_SEQ_INDEX, 5, 0⟩
def F.MGT_LAST_SEQ_SEQ (e : Nat) : Fld := ⟨K.MGT_LAST_SEQ e, 31, 0⟩
def F.MGT_CNT_CTRL_ERR_BUSY : Fld := ⟨K.MGT_CNT_CTRL, 2, 2⟩
def F.MGT_CNT_CTRL_BUSY : Fld := ⟨K.MGT_CNT_CTRL, 1, 1⟩
def F.MGT_CNT_CTRL_CLEAR : Fld := ⟨K.MGT_CNT_CTRL, 0, 0⟩
def F.JRN_STATUS_GONE : Fld := ⟨K.JRN_STATUS, 3, 3⟩
def F.JRN_STATUS_DAMAGED : Fld := ⟨K.JRN_STATUS, 2, 2⟩
def F.JRN_STATUS_TORN : Fld := ⟨K.JRN_STATUS, 1, 1⟩
def F.JRN_STATUS_SIGN_WAIT : Fld := ⟨K.JRN_STATUS, 0, 0⟩
def F.JRN_HEAD_LO_JSEQ : Fld := ⟨K.JRN_HEAD_LO, 31, 0⟩
def F.JRN_HEAD_HI_JSEQ : Fld := ⟨K.JRN_HEAD_HI, 31, 0⟩
def F.JRN_CP_LO_JSEQ : Fld := ⟨K.JRN_CP_LO, 31, 0⟩
def F.JRN_CP_HI_JSEQ : Fld := ⟨K.JRN_CP_HI, 31, 0⟩
def F.JRN_RD_INDEX_LO_JSEQ : Fld := ⟨K.JRN_RD_INDEX_LO, 31, 0⟩
def F.JRN_RD_INDEX_HI_JSEQ : Fld := ⟨K.JRN_RD_INDEX_HI, 31, 0⟩
def F.JRN_RD_DATA_DATA (i : Nat) : Fld := ⟨K.JRN_RD_DATA i, 31, 0⟩
def F.BRG_STATUS_PWFL_LOST : Fld := ⟨K.BRG_STATUS, 25, 25⟩
def F.BRG_STATUS_WRITES : Fld := ⟨K.BRG_STATUS, 24, 16⟩
def F.BRG_STATUS_READS : Fld := ⟨K.BRG_STATUS, 6, 0⟩
def F.BRG_TAG_NEXT : Fld := ⟨K.BRG_TAG, 15, 0⟩
def F.BRG_PWFL_CAUSE : Fld := ⟨K.BRG_PWFL, 31, 24⟩
def F.BRG_PWFL_TAG : Fld := ⟨K.BRG_PWFL, 15, 0⟩
def F.BRG_PWFL_ADDR_ADDR : Fld := ⟨K.BRG_PWFL_ADDR, 31, 0⟩
def F.BRG_PWFL_TIME_NS_TIME : Fld := ⟨K.BRG_PWFL_TIME_NS, 29, 0⟩
def F.BRG_PWFL_TIME_S_LO_TIME : Fld := ⟨K.BRG_PWFL_TIME_S_LO, 31, 0⟩
def F.BRG_PWFL_TIME_S_HI_TIME : Fld := ⟨K.BRG_PWFL_TIME_S_HI, 15, 0⟩
def F.EVT_POP_CODE : Fld := ⟨K.EVT_POP, 31, 16⟩
def F.EVT_POP_SEQ_LO : Fld := ⟨K.EVT_POP, 15, 0⟩
def F.EVT_DATA_DATA (i : Nat) : Fld := ⟨K.EVT_DATA i, 31, 0⟩
def F.BANK_OWNER_ERR_BUSY (i : Nat) : Fld := ⟨K.BANK_OWNER i, 19, 19⟩
def F.BANK_OWNER_REJECT (i : Nat) : Fld := ⟨K.BANK_OWNER i, 18, 18⟩
def F.BANK_OWNER_DONE (i : Nat) : Fld := ⟨K.BANK_OWNER i, 17, 17⟩
def F.BANK_OWNER_STATE (i : Nat) : Fld := ⟨K.BANK_OWNER i, 16, 15⟩
def F.BANK_OWNER_HANDOVER (i : Nat) : Fld := ⟨K.BANK_OWNER i, 10, 10⟩
def F.BANK_OWNER_TARGET (i : Nat) : Fld := ⟨K.BANK_OWNER i, 9, 8⟩
def F.BANK_OWNER_OWNER (i : Nat) : Fld := ⟨K.BANK_OWNER i, 1, 0⟩
def F.BANK_STATUS_RESERVED : Fld := ⟨K.BANK_STATUS, 31, 0⟩
def F.MEM_REPAIR_SOFT_COLS : Fld := ⟨K.MEM_REPAIR, 23, 12⟩
def F.MEM_REPAIR_FUSE_COLS : Fld := ⟨K.MEM_REPAIR, 11, 0⟩
def F.MBIST_FAIL_FAIL : Fld := ⟨K.MBIST_FAIL, 31, 31⟩
def F.MBIST_FAIL_MACRO : Fld := ⟨K.MBIST_FAIL, 10, 0⟩

end Sys2Proof.Machine
end

