-- ==== Sys2Proof/Machine/DataTypes.lean ====
section
/-!
DEFINITION. The data of the data plane: buffer cells, frames with their descriptors, the copies that wait in the
egress queues and VOQs, what the MACs have in reception and transmission, and the tables of the decision plane that
are no registers (spec/03_ethernet_ports.md to spec/06_metering_shaping_scheduling.md).
-/

namespace Sys2Proof.Machine

/-- STATE of a cell's link word (spec/05, R134). -/
inductive CellState where
  | free | inChain | quarantined | marked
  deriving DecidableEq, Repr

/-- A cell's link word and its bit in the free map (spec/05, R134 and R137). -/
structure Cell where
  next : Nat
  last : Bool
  head : Nat
  state : CellState
  strike : Bool
  map : Bool
  deriving DecidableEq, Repr

/-- A cell as the initialisation leaves it: free. -/
def Cell.fresh : Cell := ⟨0, false, 0, .free, false, true⟩

/-- The parse status of a pass (spec/04, R100). -/
inductive ParseStatus where
  | ok | deep | inconsistent
  deriving DecidableEq, Repr

/-- What a walk of the parser found: the key of R105 as a number, the parse status and the places of the payloads
that later stages need (spec/04, R97 to R105 and R117). -/
structure Walk where
  key : Nat
  status : ParseStatus
  hdrSeen : Nat
  tagCount : Nat
  /-- offset, from the start of the pass, of the first byte after an NTSCF or TSCF header -/
  acfOff : Nat
  /-- ntscf_data_length or stream_data_length, 0 where none was walked -/
  acfLen : Nat
  /-- an NTSCF or TSCF header was walked -/
  avtp : Bool
  /-- offset of the first container, and of the end of the UDP payload -/
  contOff : Nat
  contEnd : Nat
  /-- the sequence_number of a walked R-TAG -/
  rtag : Option Nat
  /-- offset of the R-TAG's type field -/
  rtagOff : Nat
  deriving DecidableEq, Repr

/-- An empty walk. -/
def Walk.empty : Walk := ⟨0, .ok, 0, 0, 0, 0, false, 0, 0, none, 0⟩

/-- Where a frame stands in the pipeline. -/
inductive Stage where
  /-- bytes arrive, the parse window is not reached -/
  | arriving
  /-- waits for its first pass -/
  | first
  /-- waits in the recirculation FIFO for its second pass -/
  | second
  /-- its passes have ended -/
  | passed
  deriving DecidableEq, Repr

/-- What the parser stage hands past the classifier (spec/04, R98; spec/10, R297; spec/13, R360; spec/15, R414). -/
inductive Special where
  | gptp | command | ring | pair | crossing
  deriving DecidableEq, Repr

/-- How a frame entered through the injection path of port M (spec/01, R32; spec/16, R458 and R470). -/
structure Inj where
  zone : Nat
  /-- REDIRECT to a port and queue without a classifier rule -/
  redirect : Option (Nat × Nat)
  launch : Option Nat
  deriving DecidableEq, Repr

/-- A learn request of a frame (spec/05, R144). -/
structure LearnReq where
  fid : Nat
  mac : Nat
  kind : Nat
  dest : Nat
  deriving DecidableEq, Repr

/-- What a meter or zone policer charged on a length not yet known (spec/06, R181; spec/10, R295). -/
structure Charge where
  /-- key of the LEVEL register charged -/
  level : Nat
  /-- key of the BURST register that limits a refund -/
  burst : Nat
  amount : Nat
  deriving DecidableEq, Repr

/-- A frame in the buffer with its descriptor (spec/05, R134), its bytes as written and what the pipeline keeps
with it. The key of a frame in the frame table is the index of its head cell. -/
structure Frame where
  port : Nat
  bytes : List Byte
  /-- reception has ended -/
  ended : Bool
  /-- the last byte has been written and the checks of the frame's end were made (R104) -/
  written : Bool
  /-- no further byte will be written: cut short (R138, R160) -/
  cut : Bool
  bad : Bool
  /-- a copy of it has started cut-through (R134, CT) -/
  ct : Bool
  /-- received through the preemptable MAC -/
  pre : Bool
  tail : Nat
  start : Nat
  ref : Nat
  /-- the descriptor is live (R162) -/
  live : Bool
  pendingMask : Nat
  queue : Nat
  colour : Nat
  gen : Nat
  enqUs : Nat
  /-- the ingress hold of R136 is held -/
  ihold : Bool
  stage : Stage
  /-- place in the chain of a link word found uncorrectable (R162) -/
  badLink : Option Nat
  stamp : Nat
  deriving DecidableEq, Repr

/-- What the pipeline remembers of a frame between its passes and its end. -/
structure PassInfo where
  zone : Nat
  metaByte : Nat
  /-- the walk of the latest pass -/
  walk : Walk
  /-- the second pass is in AVTP_ACF mode -/
  acf : Bool
  special : Option Special
  inj : Option Inj
  learn : Option LearnReq
  /-- the stream whose MAX_SDU is checked at the frame's end (R179) -/
  sdu : Option Nat
  charges : List Charge
  /-- handed to the Weaver when its last byte is written (R110) -/
  toWeaver : Bool
  /-- CT_DIS of the action word, or a second pass (R159) -/
  ctDis : Bool
  /-- VOQ whose returned cells this crossing frame counts for, and its cells (R442) -/
  credit : Option (Nat × Nat)
  /-- the first pass, or the second, did not know the frame's end: its late checks are still to be made (R104) -/
  late : Bool
  late2 : Bool
  /-- source address of the first pass (R144) -/
  sa : Nat
  /-- CLK_CORE cycle of its parse window, and the cycle from which its second pass may start (spec/01, R30, R36) -/
  window : Nat
  secondAt : Nat
  deriving DecidableEq, Repr

/-- The information of a frame that has had no pass. -/
def PassInfo.empty : PassInfo := ⟨0, 0, .empty, false, none, none, none, none, [], false, false, none, false, false, 0, 0, 0⟩

/-- Egress editing of a copy (spec/05, R149): the lookup VID, whether the outer tag leaves, the PCP an untagged
frame gains, and the frame's tag count. -/
structure Edit where
  vid : Nat
  untag : Bool
  pcp : Nat
  tags : Nat
  deriving DecidableEq, Repr

/-- What a generated message is, for those whose transmission has an effect (spec/07, R215 to R219). -/
inductive CopyNote where
  | none
  | sync (seq : Nat)
  | pdelayReq (seq : Nat)
  | pdelayResp (seq : Nat)
  /-- a Pdelay_Resp_Follow_Up: like the other peer delay messages it is never held (spec/15, R422) -/
  | pdelayFollow
  /-- a pair message: never held (spec/15, R414) -/
  | pair
  | other
  deriving DecidableEq, Repr

/-- A copy: a queue node (spec/05, R150). A copy with no frame is a message the device generated, with its own bytes. -/
structure Copy where
  frame : Option Nat
  own : List Byte
  edit : Option Edit
  /-- 0 TO_MGT or a plain destination, 1 COPY_TO_MGT, 2 mirror (R470) -/
  kind : Nat
  rtag : Option Nat
  popRtag : Bool
  launch : Option Nat
  enqUs : Nat
  note : CopyNote
  /-- the copy may be cut through (R159) -/
  ctOk : Bool
  /-- crossing tag fields of a VOQ copy: queue, zone, REDIR, VID, ingress (spec/15, R438) -/
  cross : Option (List Nat)
  deriving DecidableEq, Repr

/-- The SA a protected frame takes at its start (spec/10, R303 and R304): key, initial vector, AN, PN, the SCI its
SecTAG carries, and confidentiality. -/
structure SecUse where
  key : List Byte
  iv : List Byte
  an : Nat
  pn : Nat
  sci : Option Nat
  conf : Bool
  deriving DecidableEq, Repr

/-- What a MAC has in transmission. -/
structure Tx where
  queue : Nat
  copy : Copy
  /-- length with FCS, with SecTAG and ICV -/
  len : Nat
  /-- started before the last byte was written -/
  cutThrough : Bool
  /-- known to end with a stomped FCS -/
  stomp : Bool
  /-- found oversize in cut-through (R78) -/
  oversize : Bool
  /-- fragments already sent of a preempted frame -/
  fragments : Nat
  /-- preempted and waiting to resume -/
  waiting : Bool
  /-- network time of its first bit -/
  stamp : Nat
  /-- it started with TX_EN 1 and is of the frames that MACsec bypasses (spec/10, R303) -/
  bypass : Bool
  /-- its real transmission is held by the standby (spec/15, R422) -/
  held : Bool
  /-- bytes that its earlier fragments carried -/
  done : Nat
  /-- the SA that protects it -/
  sec : Option SecUse
  deriving DecidableEq, Repr

/-- A frame in reception on one MAC of a port. -/
structure RxProg where
  /-- head cell of the frame, none when no cell was granted -/
  head : Option Nat
  /-- bytes received, as they arrived -/
  raw : List Byte
  stamp : Nat
  /-- nothing more of it is stored: no cell was granted, or it is discarded -/
  lost : Bool
  /-- it had reached the pipeline before it was lost (R76, RX_FRAMES) -/
  passed : Bool
  /-- the frame count of its SMD-S, and the fragment count its next continuation carries (R76, R81) -/
  count : Nat
  frag : Nat
  /-- SEC_CFG, and the promoted key of each receive SA, as they were when the frame started (spec/10, R306) -/
  cfg : Word
  keys : List (Nat × List Byte)
  deriving DecidableEq, Repr

/-- Hidden state of an egress queue (spec/05, R155 to R157; spec/06, R191). -/
structure QState where
  avg : Int
  lfsr : Nat
  /-- start tag of the head copy and the WEIGHT it became head under, where it is of the WFQ group -/
  fin : Option (Nat × Nat)
  quar : Bool
  deriving DecidableEq, Repr

/-- A TCAM entry: key, mask and action as numbers of 640, 640 and 96 bits (spec/04, R106 to R108). -/
structure TcamEntry where
  key : List Word
  mask : List Word
  act : List Word
  gen : Nat
  valid : Bool
  hit : Word64
  deriving DecidableEq, Repr

/-- An entry of the forwarding database (spec/05, R141). -/
structure FdbEntry where
  fid : Nat
  mac : Nat
  static : Bool
  hit : Bool
  kind : Nat
  dest : Nat
  deriving DecidableEq, Repr

/-- An operation of the forwarding database in progress (spec/05, R170); a flush holds the index that its walk reaches next. -/
inductive FdbOp where
  | none
  | single (op : Nat) (index : Nat)
  | flushPort (dest : Nat) (next : Nat)
  | flushDynamic (next : Nat)
  deriving DecidableEq, Repr

/-- The data plane. -/
structure DataSt where
  /-- cells; an unlisted cell is free -/
  cells : List (Nat × Cell)
  cursor : Nat
  frames : List (Nat × Option Frame)
  infos : List (Nat × PassInfo)
  /-- egress queues 0 to 279 and VOQs 280 to 567, head first -/
  queues : List (Nat × List Copy)
  qst : List (Nat × QState)
  /-- virtual time of each port's WFQ group -/
  vtime : List (Nat × Nat)
  /-- frames waiting for their first pass, in the order of their parse windows -/
  waiting : List Nat
  /-- the recirculation FIFO of 64 -/
  recirc : List Nat
  /-- crossing frames that wait for their pass (spec/15, R440) -/
  crossing : List Nat
  learnQ : List LearnReq
  fdb : List (Nat × Option FdbEntry)
  fdbOp : FdbOp
  /-- the cycle in which database entries were granted last, and those entries (spec/01, R36) -/
  fdbCycle : Nat
  fdbUsed : List Nat
  tcam : List (Nat × Option TcamEntry)
  /-- a generation swap requested and not yet in effect (spec/04, R123) -/
  swap : Option Nat
  /-- hidden fractions of buckets by the key of their LEVEL register (R175) -/
  fracs : List (Nat × Nat)
  /-- LFSR_SEED of the image's header (spec/02, R38) -/
  lfsrSeed : Nat
  /-- cells returned per VOQ of the partner, for its credit (spec/15, R442) -/
  returned : List (Nat × Nat)
  /-- an audit is in progress (R164) -/
  audit : Bool
  /-- history bits of each sequence recovery function (spec/06, R185) -/
  frerHist : List (Nat × Nat)
  /-- meters whose METER_EN went to 1 and whose buckets the next tick sets (spec/06, R183) -/
  meterStart : List Nat
  deriving DecidableEq, Repr

/-- A Clause 45 access: the port it polls, or none for a commanded one; the command, write data and MDC_DIV; whether the port
was disabled after it began, so that it is no poll of the port enabled since (R86). -/
structure MdioAccess where
  poll : Option Nat
  cmd : Nat
  wdata : Nat
  div : Nat
  void : Bool
  deriving DecidableEq, Repr

/-- The PLCA cycle that an S port coordinates (spec/03, R89): the node whose transmit opportunity runs, CLK_CORE cycles until
it ends, and whether this port has sent in its own. -/
structure Plca where
  node : Nat
  left : Nat
  used : Bool
  deriving DecidableEq, Repr

/-- The MACs. -/
structure PortSt where
  /-- receptions: key 2p for the express MAC of port p, 2p + 1 for the preemptable one -/
  rx : List (Nat × Option RxProg)
  /-- transmissions, keyed in the same way -/
  tx : List (Nat × Option Tx)
  /-- link conditions of a port: PHY link by the last poll or by the integrated PHY, serdes or receiver lock -/
  phyLink : List (Nat × Bool)
  /-- USXGMII link of a B port, and the speed its PHY reported last in Mb/s, 0 before any report (R74, R86) -/
  usxLink : List (Nat × Bool)
  phySpeed : List (Nat × Nat)
  /-- the MERGE_CFG in effect -/
  mergeEff : List (Nat × Word)
  /-- MERGE_CFG.EN has been written 0 since a MERGE_CFG took effect (R82) -/
  mergeOff : List (Nat × Bool)
  /-- verify mPackets sent (R82) -/
  verifies : List (Nat × Nat)
  /-- a TX_AN in effect (spec/10, R303) -/
  txAn : List (Nat × Nat)
  /-- committed receive SA entries that wait for the end of a frame's reception: port × 32 + entry, and the words of its
  registers in the order of their commit (spec/10, R310) -/
  saWait : List (Nat × List Word)
  /-- Clause 45 access of each MDIO master in progress (R87) -/
  mdio : List (Nat × Option MdioAccess)
  /-- a commanded access of each master that waits for the end of a poll access -/
  mdioWait : List (Nat × Option MdioAccess)
  /-- ports of each master that wait for a poll access -/
  mdioPolls : List (Nat × List Nat)
  /-- CLK_CORE cycle from which each master's poll interval runs, once forwarding was enabled (R85) -/
  pollFrom : List (Nat × Option Nat)
  /-- the PLCA cycle of each S port that coordinates one (R89) -/
  plca : List (Nat × Plca)
  deriving DecidableEq, Repr

end Sys2Proof.Machine
end

