-- ==== Sys2Proof/Machine/CtrlTypes.lean ====
section
/-!
DEFINITION. The data of the control side: commands and their responses, the journal, events, the register bridge
(spec/16_management_and_journal.md) and the network time (spec/07_network_time.md).
-/

namespace Sys2Proof.Machine

/-- The channel of a command: MGT_SPI, or a frame with its ingress port, addresses and outer tag (spec/16, R458). -/
inductive Chan where
  | spi
  | frame (port : Nat) (da sa tag : List Byte)
  deriving DecidableEq, Repr

/-- A 64 B frame of a two-phase record: SEQ, the payload of 48 B, and COMMIT (spec/11, R318). -/
structure RecFrame where
  seq : Nat
  payload : List Byte
  commit : List Byte
  deriving DecidableEq, Repr

/-- A two-phase record: frames F0 and F1 (spec/11, R318). -/
structure TwoPhase where
  f0 : RecFrame
  f1 : RecFrame
  deriving DecidableEq, Repr

/-- A record as the unit leaves production: F0 holds zeros under SEQ 0. Its COMMIT is the first 8 B of the SHA-256 of 56 zero
bytes. -/
def TwoPhase.blank : TwoPhase :=
  ⟨⟨0, List.replicate 48 0, [0xD4, 0x81, 0x7A, 0xA5, 0x49, 0x76, 0x28, 0xE7]⟩, ⟨0, [], []⟩⟩

/-- A command message waiting in the queue of 16 (spec/16, R454). -/
structure QCmd where
  chan : Chan
  msg : List Byte
  deriving DecidableEq, Repr

/-- An accepted command waiting for its execution or in execution (spec/16, R455). -/
structure Cmd where
  chan : Chan
  origin : Nat
  seq : Nat
  opcode : Nat
  body : List Byte
  jseq : Nat
  /-- BRG_TAG at its acceptance (R467) -/
  tag : Nat
  /-- CMD_GEN of the key its TAG verified under, under which its responses are tagged (R457; spec/11, R317) -/
  gen : Nat
  deriving DecidableEq, Repr

/-- A journal entry: its JSEQ, bytes 0 to 47, and CHAIN (spec/16, R474). -/
structure JEntry where
  jseq : Nat
  body : List Byte
  chain : List Byte
  deriving DecidableEq, Repr

/-- An event in the event queue (spec/16, R473). -/
structure EvMsg where
  seq : Nat
  code : Nat
  body : List Byte
  deriving DecidableEq, Repr

/-- A posted write outstanding in the register bridge (spec/16, R466). -/
structure Posted where
  tag : Nat
  addr : Nat
  mask : Word
  data : Word
  /-- sent to the partner, whose answer is awaited -/
  sent : Bool
  /-- the command that issued it (spec/04, R123) -/
  cmd : Option Cmd
  deriving DecidableEq, Repr

/-- An entry of the Posted Write Failure Log (spec/16, R466 and R480). -/
structure Pwfl where
  cause : Nat
  tag : Nat
  addr : Nat
  time : Nat
  deriving DecidableEq, Repr

/-- A frame waiting for the MC (spec/16, R470), and the frame of the buffer that its DMA transfer holds (spec/05, R136). -/
structure McFrame where
  head : Option Nat
  port : Nat
  kind : Nat
  stamp : Nat
  bytes : List Byte
  deriving DecidableEq, Repr

/-- A frame in the MC lane or Weaver lane of port M (spec/16, R541; spec/09, R280). -/
structure LaneFrame where
  bytes : List Byte
  inj : Inj
  deriving DecidableEq, Repr

/-- A frame that the parser stage has passed to the time block, the MC or the pair logic and that was found good; a command
frame is held in the buffer until its DMA transfer has ended (spec/05, R136). -/
structure InFrame where
  head : Option Nat
  kind : Special
  port : Nat
  stamp : Nat
  bytes : List Byte
  deriving DecidableEq, Repr

/-- The reads of a REG_READ or REG_BURST_READ in execution: addresses still to read, words read, and the index of
the first failed far read (spec/16, R465), and whether the partner has been asked for the next one. -/
structure ReadRun where
  addrs : List Nat
  words : List Word
  failed : Option Nat
  asked : Bool
  deriving DecidableEq, Repr

/-- A checkpoint statement (spec/16, R477): the entry's JSEQ, CHAIN and EPOCH, LAST_SEQ of the 64 origins, the
payload, and the COSE_Sign1 once it is signed. -/
structure Statement where
  jseq : Nat
  chain : List Byte
  epoch : Nat
  lastSeq : List Nat
  payload : List Byte
  signed : Option (List Byte)
  deriving DecidableEq, Repr

/-- Commands, journal, events and bridge. -/
structure MgtSt where
  cmdQ : List QCmd
  execQ : List Cmd
  run : Option ReadRun
  respSpi : List (List Byte)
  events : List EvMsg
  evSeq : Nat
  mcFrames : List McFrame
  mcLane : List LaneFrame
  mcWait : List LaneFrame
  wvLane : List LaneFrame
  /-- the lane of port M whose cell was written last was the MC lane -/
  lastMc : Bool
  /-- cells that the head frames of the MC lane and the Weaver lane have written already (spec/09, R280) -/
  laneCells : Nat × Nat
  jrn : List JEntry
  posted : List Posted
  pwfl : List Pwfl
  fenceFail : Nat
  fenceTag : Nat
  statements : List Statement
  inbox : List InFrame
  /-- the command that wrote a pending swap, whose completion is PENDING (spec/04, R123) -/
  swapCmd : Option Cmd
  /-- the command whose write to this unit's targets is being made -/
  writer : Option Cmd
  /-- writes of the partner that wait for the classifier writes of this unit's command: TAG, address, mask, data (spec/04, R120) -/
  served : List (Nat × Nat × Word × Word)
  /-- the command being executed wrote a swap that became pending -/
  swapPending : Bool
  /-- JSEQ of the entry whose signed statement the CHECKPOINT command in hand awaits -/
  cpWait : Option Nat
  /-- an ATTEST command whose signature is awaited is in hand -/
  attesting : Bool
  /-- writes that the command in hand has still to post (spec/16, R466, R468): address, mask and data -/
  toPost : List (Nat × Word × Word)
  /-- the reset group that a PULSE holds (spec/17, R502) -/
  pulsing : Option Nat
  deriving DecidableEq, Repr

/-- The gPTP state of one port (spec/07, R215). -/
structure GPort where
  seq : Nat
  /-- t1 of the request in progress: its egress stamp once taken -/
  reqOut : Bool
  t1 : Option Nat
  /-- t2 and t4 of the response in progress -/
  t2t4 : Option (Nat × Nat)
  /-- the last (t3, t4) pairs, newest first -/
  hist : List (Nat × Nat)
  exchanges : Nat
  good : Nat
  /-- exchanges in a row without a response -/
  missed : Nat
  /-- NRR × 2^41 -/
  nrr : Int
  /-- sequenceId and identity of the requests whose Pdelay_Resp has not left yet, oldest first -/
  answers : List (Nat × List Byte)
  deriving DecidableEq, Repr

/-- A port that has done no exchange. -/
def GPort.fresh : GPort := ⟨0, false, none, none, [], 0, 0, 0, 2 ^ 41, []⟩

/-- A Sync in relay (spec/07, R216 to R218). -/
structure SyncSt where
  seq : Nat
  /-- ingress stamp in 2^-40 ns -/
  stamp : Nat
  correction : Int
  /-- preciseOriginTimestamp in ns, correction and cumulative rate offset, once known -/
  origin : Option (Nat × Int × Int)
  /-- sourcePortIdentity of the received Sync -/
  src : List Byte
  /-- master ports whose Follow_Up is still to be sent, with the egress stamp when taken -/
  ports : List (Nat × Option Nat)
  deriving DecidableEq, Repr

/-- Network time (spec/07). The counter counts 2^-40 ns. -/
structure TimeSt where
  now : Nat
  /-- the counter was stepped by the command in hand (R226) -/
  stepped : Bool
  /-- captures of TIME_NOW_NS, PPS_IN_STAMP_NS -/
  capNow : Nat
  capPps : Nat
  ppsStamp : Nat
  /-- stamps of each copy waiting for the epoch -/
  ppsEdge : Option (Nat × Nat)
  ports : List (Nat × GPort)
  /-- the Syncs whose Follow_Up is still to be received, or to be sent on a port, oldest first -/
  syncs : List SyncSt
  /-- the latest Sync sent as grandmaster: sequenceId -/
  gmSeq : Nat
  /-- the Follow_Ups to be sent as grandmaster, oldest first: sequenceId, port, and the Sync's egress stamp when taken -/
  gmPorts : List (Nat × Nat × Option Nat)
  /-- a pulse has been accepted since SOURCE became GM_PPS -/
  ppsSeen : Bool
  /-- level active of each PPS_OUT -/
  ppsOut : List (Nat × Bool)
  /-- an output of PERIOD 0 enabled after START emits nothing -/
  ppsLate : List (Nat × Bool)
  /-- the last whole millisecond that the ledger has sampled, and the second up to which its PERIOD records are made: both follow
  a step (spec/12, R345, R348) -/
  ldgMs : Nat
  ldgSec : Nat
  deriving DecidableEq, Repr

/-- A half of a key slot: the key, its TYPE and a COMMIT over both (spec/11, R319); a zeroised half has no key. -/
structure Half where
  key : List Byte
  type : Nat
  commit : List Byte
  deriving DecidableEq, Repr

/-- A key slot: ACTIVE_HALF, H0 and H1 (spec/11, R319). The rest of the header in effect is in KEY_SLOT_INFO and
KEY_SLOT_PEND, and the header as a two-phase record is in `KeySt.records`. -/
structure KeySlot where
  active : Nat
  h0 : Half
  h1 : Half
  deriving DecidableEq, Repr

/-- What a signature is for (spec/11, R326). -/
inductive SignFor where
  | checkpoint (jseq : Nat)
  | attest (c : Cmd)
  | batch (first last : Nat)
  | transition
  deriving DecidableEq, Repr

/-- A request for a signature of key `key` (0 ID, 1 JRN, 2 LDG) over a payload, made in a CLK_CTRL cycle. -/
structure SignReq where
  key : Nat
  what : SignFor
  payload : List Byte
  cycle : Nat
  deriving DecidableEq, Repr

/-- A life-cycle transition in progress (spec/11, R337): target, new hash, the JSEQ of LC_ADVANCE, the step reached,
and the handover record. -/
structure Transition where
  target : Nat
  hash : List Byte
  jseq : Nat
  step : Nat
  record : List Byte
  deriving DecidableEq, Repr

/-- Keys, identity and life cycle (spec/11). Fuses and MRAM of the unit. -/
structure KeySt where
  drs : List Byte
  fwHash : List Byte
  imgHash : List (Nat × List Byte)
  slots : List (Nat × KeySlot)
  /-- a key operation in progress: its opcode and completion status -/
  keyOp : Option (Nat × Nat)
  signQ : List SignReq
  transition : Option Transition
  /-- the two-phase records of MRAM, by number (`recOf…` of Machine/TwoPhase.lean); one that is not listed was never written
  and holds zeros -/
  records : List (Nat × TwoPhase)
  /-- the transition intent record of step 5 -/
  intent : Option (Nat × List Byte)
  cert : List Byte
  statements : List (List Byte)
  deriving DecidableEq, Repr

/-- The firmware seal: the copy, its SHA-256 and its FW_VERSION (spec/11, R333). -/
structure FwSeal where
  copy : Nat
  digest : List Byte
  version : Nat
  deriving DecidableEq, Repr

/-- The seal of the retained copy (spec/02, R51). -/
structure Seal where
  digest : List Byte
  len : Nat
  source : Nat
  fallback : Bool
  firmware : Option FwSeal
  deriving DecidableEq, Repr

/-- Power, images, firmware and starts (spec/02, spec/11 R330 to R333). The NOR slots are the external memory; the
firmware copies, seals, the retained copy and ROLLBACK_MIN are MRAM. -/
structure BootSt where
  /-- PORST_N is low, or the rails are down: nothing outside the always-on domain runs -/
  held : Bool
  slotA : List Byte
  slotB : List Byte
  fwA : List Byte
  fwB : List Byte
  fwSeal : Option FwSeal
  retained : List Byte
  sealOf : Option Seal
  /-- the copy into MRAM in progress -/
  copying : Option (List Byte × Seal)
  /-- ROLLBACK_MIN of each life-cycle state -/
  rollback : List (Nat × Nat)
  /-- uncorrectable words seen in firmware copies A, B and the retained copy: bits 0, 1, 2 -/
  mramBad : Nat
  /-- SHA-256 and RETAINED_FALLBACK of the image applied -/
  digest : List Byte
  fallback : Bool
  /-- SHA-256 of the running firmware copy, and its RAISE_FLOOR -/
  fwDigest : List Byte
  raiseFloor : Bool
  /-- a scratchpad bank passed MBIST, so that the recovery monitor can run (spec/02, R66) -/
  monitor : Bool
  /-- ports whose applied gate list becomes operational when forwarding is enabled (R50) -/
  gateStart : List Nat
  /-- LIN commanders whose schedule starts when forwarding is enabled (R50) -/
  linStart : List Nat
  /-- MAX_FRAME and MIN_FRAG_CODE that the PORT_SETUP records of the applied image give their ports (spec/06, R202) -/
  basic : List (Nat × Nat × Nat)
  deriving DecidableEq, Repr

/-- Whether the decision plane runs (spec/14, R397). -/
inductive SafMode where
  | normal | halted | lee
  deriving DecidableEq, Repr

/-- A received edge frame the Lee routes read from: channel, FMT, identifier, stamp and payload (spec/14, R405). -/
structure LeeSrc where
  channel : Nat
  fmt : Nat
  id : Nat
  stamp : Nat
  data : List Byte
  deriving DecidableEq, Repr

/-- Fault detection and the Lee path (spec/14). Lee entries are held as the words of their records (R409, R411). -/
structure SafSt where
  mode : SafMode
  /-- value of the always-on counter when HALTED or LEE was entered (R406) -/
  enterAt : Nat
  leeTime : Nat
  leeRate : Int
  streams : List (Nat × List Word)
  frames : List (Nat × List Word)
  routes : List (Nat × List Word)
  /-- frames of each stream not yet sent, newest first, with their stamps and ingress ports -/
  store : List (Nat × List (Nat × List Byte))
  /-- the last frame each stream sent -/
  lastSent : List (Nat × List Byte)
  srcs : List LeeSrc
  images : List (Nat × List Byte)
  /-- the Lee cycle in which each transmit frame was sent last (R405) -/
  sentAt : List (Nat × Option Nat)
  /-- waiting for the root PLL after code 0x06 (R399) -/
  pllWait : Bool
  /-- agreed level of each asynchronous input, and its run of disagreements between copies A and B (R386) -/
  agreed : List (Nat × Bool)
  runs : List (Nat × Nat)
  /-- digest groups in which the copies differ -/
  digests : List Nat
  /-- TJ_WARN was crossed and has not been rearmed (R394) -/
  warned : Bool
  /-- a CLK_AON fault since the last power-on reset: CALM_EN acts as 0 (R395) -/
  aonFault : Bool
  /-- health records: code, group and time (R398) -/
  health : List (Nat × Nat × Nat)
  deriving DecidableEq, Repr

/-- The protocol fields of a CAN frame that go to the Weaver with it (spec/08, R234, R235): FDF, BRS and remote bits, and SDT, SEC,
VCID and AF of an XL frame. -/
structure Proto where
  fdf : Bool
  brs : Bool
  rtr : Bool
  xl : List Nat
  deriving DecidableEq, Repr

/-- A PDU without such fields. -/
def Proto.none : Proto := ⟨false, false, false, []⟩

/-- A unit of the Weaver (spec/09, R257): a received PDU with the four parts of its key, its received payload, the
acf_msg_type where it is an ACF message, and its event time; or the timeout of a receive PDU. -/
inductive WUnit where
  | pdu (acfType source zone fmt id : Nat) (data : List Byte) (stamp : Nat) (proto : Proto)
  | timeout (pdu : Nat)
  deriving DecidableEq, Repr

/-- A PDU in an open frame: its index, image, event time and launch time, and the CLK_CTRL cycle of its send. -/
structure OpenPdu where
  pdu : Nat
  img : List Byte
  time : Nat
  launch : Option Nat
  cycle : Nat
  deriving DecidableEq, Repr

/-- An open frame of a carrier (spec/09, R279): its PDUs, and the CLK_CORE cycle in which the first of them entered. -/
structure OpenFrame where
  pdus : List OpenPdu
  since : Nat
  deriving DecidableEq, Repr

/-- Hidden state of the Weaver (spec/09). Definitions, images and tables are in its window registers. -/
structure WvrSt where
  units : List WUnit
  /-- the CLK_CTRL cycle of the latest arrivals, and how many of the last units arrived in it (spec/09, R257) -/
  newCycle : Nat
  newCount : Nat
  /-- stamp of the last transmit confirmation of each edge channel (spec/08, R239) -/
  confirms : List (Nat × Nat)
  /-- deadlines of receive PDUs in ns of network time (R266) -/
  deadline : List (Nat × Option Nat)
  /-- event time of the last reception or send of a PDU (R288) -/
  stamps : List (Nat × Nat)
  /-- CLK_CORE cycle of the last send of a PDU, for its minimum gap, and CLK_CTRL cycle of its last cyclic send (R272) -/
  lastSend : List (Nat × Option Nat)
  lastCyclic : List (Nat × Option Nat)
  /-- next due time of a PDU, in ns (R271) -/
  due : List (Nat × Option Nat)
  openFrames : List (Nat × OpenFrame)
  /-- frames of each carrier so far: sequence_num and identification (R277) -/
  carSeq : List (Nat × Nat)
  /-- capture of WVR_PDU_STAMP_NS (R288), in ns -/
  capStamp : Nat
  deriving DecidableEq, Repr

/-- A transmit request of a CAN channel (spec/08, R241): what is sent, its failed attempts, and the PDU it is of. -/
structure CanReq where
  fmt : Nat
  id : Nat
  fdf : Bool
  brs : Bool
  /-- SDT, SEC, VCID and AF of an XL frame -/
  xl : List Nat
  data : List Byte
  fails : Nat
  deriving DecidableEq, Repr

/-- Hidden state of a CAN channel (spec/08, R241 to R244): the requests that wait, in order of arrival, the one in
transmission with the stamp of its SOF, and how far the bus-off recovery is. -/
structure CanSt where
  reqs : List CanReq
  cur : Option (CanReq × Nat)
  holdOver : Bool
  asked : Bool
  recovering : Bool
  /-- the receive FIFO, oldest first (R240) -/
  fifo : List WUnit
  deriving DecidableEq, Repr

def CanSt.fresh : CanSt := ⟨[], none, false, false, false, []⟩

/-- Hidden state of a LIN channel (spec/08, R248, R249): the entry of the next slot, response data supplied per
identifier, the diagnostic request that waits, the identifier whose response is awaited, a header that waits for the
bus with the data of a diagnostic request, a wake pulse in progress, and a go-to-sleep frame due in place of the next slot (spec/13, R369). -/
structure LinSt where
  next : Nat
  supplied : List (Nat × List Byte)
  diag : Option (List Byte)
  await : Option Nat
  waiting : Option (Nat × Option (List Byte))
  /-- CLK_CORE cycle in which the frame that the channel itself sends ends, where one is on the bus -/
  busy : Option Nat
  /-- network time in ns at which the next slot starts, none while no table is active -/
  slotAt : Option Nat
  /-- stamp of the break field of the frame on the bus (R238, R239) -/
  stamp : Nat
  /-- the receive FIFO, oldest first (R240) -/
  fifo : List WUnit
  pulse : Bool
  goSleep : Bool
  /-- a go-to-sleep frame has been sent for the commit in hand -/
  slept : Bool
  deriving DecidableEq, Repr

def LinSt.fresh : LinSt := ⟨0, [], none, none, none, none, none, 0, [], false, false, false⟩

/-- The edge channels: CAN 0 to 23, LIN 0 to 7. -/
structure EdgeSt where
  can : List (Nat × CanSt)
  lin : List (Nat × LinSt)
  deriving DecidableEq, Repr

/-- Sleep, wake and the consent ring (spec/13): what its registers do not show. Sets of groups are masks. -/
structure NmSt where
  /-- the groups for which the unit consents (R358) -/
  candidates : Nat
  /-- the round in progress: ROUND, SET, groups that stayed candidates, vetoed groups, the member visited and those
  still to be visited (R363) -/
  round : Nat
  set : Nat
  stayed : Nat
  vetoed : Nat
  visiting : Option Nat
  toVisit : List Nat
  /-- forced commits that wait for the ring (R364) -/
  forced : List Nat
  /-- the commit: its groups and T_commit in ns -/
  committed : Nat
  tCommit : Nat
  /-- the members that received SLEEP_COMMIT -/
  told : List Nat
  /-- the wake latch: armed, groups, first code, lines (R368) -/
  armed : Bool
  latched : Option (Nat × Nat × Nat)
  /-- the unit is in Calm -/
  calm : Bool
  /-- WAKE_BUS is driven low (R373), since when, and the time before which input 4 is not evaluated: 2 ns steps of the always-on
  clock -/
  pulse : Bool
  pulseAt : Nat
  busFree : Nat
  /-- groups of the NM_WAKE in hand that still sleep -/
  waking : Nat
  /-- times of the changes of each input's filtered level, newest first, in ms of the always-on clock (R372) -/
  changes : List (Nat × List Nat)
  /-- time of the last change of each input's filtered level, in 2 ns steps (R372) -/
  levelAt : List (Nat × Nat)
  /-- the most recent soft source of each group (R359), and its time in 2 ns steps (R358) -/
  lastSoft : List (Nat × Nat)
  softAt : List (Nat × Nat)
  /-- times of the last round that ended with a veto and of the last CONSENT_REQ, in 2 ns steps (R363) -/
  vetoAt : Option Nat
  askedAt : Nat
  /-- entries of ring members committed during a visit: they take effect between two visits (R381) -/
  memberWait : List (Nat × List Word)
  /-- value of the always-on counter from which a group's awake timer runs (R359) -/
  awakeSince : List (Nat × Nat)
  /-- sleeping groups that a wake brings back, and its code (R377) -/
  due : Nat
  dueCode : Nat
  deriving DecidableEq, Repr

/-- The energy ledger (spec/12): what its registers do not show. -/
structure LdgSt where
  /-- records, newest first -/
  records : List (List Byte)
  /-- residuals in µW·ms of meter and sign, at 2m + c -/
  residual : List (Nat × Nat)
  /-- network time in ns of the last delivery to each input, none before the first -/
  delivered : List (Nat × Option Nat)
  /-- the value that each input held at the last whole millisecond before its last delivery (R344) -/
  before : List (Nat × Word)
  /-- event time in ns of the last value delivered to each input (spec/09, R264) -/
  eventAt : List (Nat × Nat)
  /-- the LDG_CFG in effect (R349) -/
  cfg : Word
  /-- GAP_MS and use of a standby source since the previous record; GAP records of this period -/
  gapMs : Nat
  standbyUsed : Bool
  gapRecords : Nat
  /-- first INDEX of the open batch, and first INDEX not covered by a signature -/
  batchFirst : Nat
  unsigned : Nat
  /-- a SIGN command is busy until the batch that ends at this INDEX is signed -/
  signing : Option Nat
  /-- accumulators and residuals of the two-phase record (R346) -/
  saved : List Nat
  savedResidual : List (Nat × Nat)
  /-- the two-phase record that holds them -/
  record : TwoPhase
  /-- signatures: first and last INDEX and the COSE_Sign1, newest first -/
  signatures : List (Nat × Nat × List Byte)
  deriving DecidableEq, Repr

/-- What a snapshot item of R429 is of (spec/15): a register the standby takes by difference (NEXT, AVG), a bucket, a
register or image word it takes as it is, WRED's LFSR of a queue, the history bits of a recovery function, and a
deadline of the Weaver. -/
inductive SnapKind where
  | delta (key : Nat)
  | bucket (key : Nat)
  | avg (queue : Nat)
  | word (key : Nat)
  | lfsr (queue : Nat)
  | history (fn : Nat)
  | deadline (pdu : Nat)
  deriving DecidableEq, Repr

/-- An entry of the sync log (spec/15, R429): a unit of the Weaver, or a judgement of a sequence number. -/
inductive SyncLog where
  | unit (u : WUnit)
  | judge (fn seq : Nat)
  deriving DecidableEq, Repr

/-- Hidden state of the pair logic (spec/15). -/
structure PairSt where
  /-- SEQ of the last message of each TYPE -/
  txSeq : List (Nat × Nat)
  /-- PREFER_STANDBY, in the always-on domain (R435) -/
  prefer : Bool
  /-- HOLD_IN is masked: 0 no, 1 stuck, 2 chattering (R420) -/
  mask : Nat
  /-- network time in ns of the unit's own entry into ACTIVE (R421) -/
  activeSince : Nat
  /-- step of the rejoin in progress, 0 none, and T_sync in ns (R428) -/
  step : Nat
  tSync : Option Nat
  /-- the rejoin has completed since STANDBY was entered, and no entry was missed since (R427) -/
  rejoined : Bool
  /-- the unit's own snapshot, its sync log, and an overflow of it (R429) -/
  snap : List (SnapKind × Int)
  syncLog : List SyncLog
  overflow : Bool
  /-- T_sync has passed and the active unit's snapshot is awaited; draws of each queue's LFSR since -/
  snapping : Bool
  draws : List (Nat × Nat)
  /-- the last HELLO's flags: READY, TIME_LOCKED and the rest (R415) -/
  partnerFlags : Nat
  /-- replay list of each port: queue and copy, oldest first (R425) -/
  replay : List (Nat × List (Nat × Copy))
  /-- the replay of a takeover runs: its lists are sent, not aged out -/
  replaying : Bool
  /-- VOQ cells sent and returned (R442), and the CREDIT_CELLS in effect -/
  voqSent : List (Nat × Nat)
  voqBack : List (Nat × Nat)
  credit : Nat
  /-- what the last CREDIT message reported -/
  credited : List (Nat × Nat)
  /-- replicated commands whose JOURNAL_ACK is awaited, with sends so far (R430) -/
  acks : List (Cmd × Nat)
  /-- next JSEQ to be sent in a JOURNAL message -/
  sent : Nat
  /-- accepted commands with their T_apply in ns (R431) -/
  commits : List (Cmd × Nat)
  /-- entries the standby holds without a COMMIT (R431) -/
  uncommitted : List Cmd
  deriving DecidableEq, Repr

/-- What leaves the device at its pins, as the model records it (log entry 17). -/
inductive WireOut where
  /-- a frame ended on a MAC of a port: its bytes with FCS, whether it was ended whole, and the launch or slot stamp -/
  | frame (port : Nat) (bytes : List Byte) (whole : Bool)
  /-- a control mPacket: 1 verify, 2 respond -/
  | mpacket (port kind : Nat)
  /-- the BEACON of a PLCA coordinator -/
  | beacon (port : Nat)
  /-- a Clause 45 access ended -/
  | mdio (master cmd wdata : Nat)
  /-- a CAN frame: channel, format, identifier, flags (FDF, BRS), SDT, SEC, VCID and AF of an XL frame, data -/
  | can (channel fmt id flags : Nat) (xl : List Nat) (data : List Byte)
  /-- an error frame on a CAN bus -/
  | canError (channel : Nat)
  /-- a LIN header: a break of `brk` dominant bits with a delimiter of one bit, the sync byte and the protected identifier; or a LIN
  response with its checksum -/
  | linHeader (channel brk sync pid : Nat)
  | linResponse (channel : Nat) (bytes : List Byte)
  /-- a LIN wake pulse starts -/
  | linWake (channel : Nat)
  /-- a pulse output changes level -/
  | pps (n : Nat) (level : Bool)
  /-- a pin changes level: 0 WAKE_BUS, 1 INH, 2 HOLD_OUT, 3 RSTOUT_N, 4 FAULT_N, 5 LEE_N, 6 XSPI_RST_N, 8 + n PHY_RST_Nn -/
  | pin (code : Nat) (level : Bool)
  /-- an answer on MGT_SPI -/
  | spi (bytes : List Byte)
  /-- a command passed on to the partner over the pair link (spec/15, R430) -/
  | passed (msg : List Byte)
  deriving DecidableEq, Repr

end Sys2Proof.Machine
end

