-- ==== Sys2Proof/Machine/State.lean ====
section
/-!
DEFINITION. The state of the device: every register, counter, table, FIFO and queue of the spec as plain data, and
the queue of commands that wait.
-/

namespace Sys2Proof.Machine

/-- Reasons for which the machine stops with a fault. -/
inductive Fault where
  /-- Raised by no command: the spec gives the block no condition under which it stops for good; safe. -/
  | none
  deriving DecidableEq, Repr

/-- Reasons for which a command has no meaning. -/
inductive Refusal where
  /-- Raised by no command: the arm of a command without a meaning would answer it, and every command has one; safe. -/
  | notModelled (mnemonic : String)
  deriving DecidableEq, Repr

/-- The state. -/
structure State where
  /-- the registers, by key (address + 2^32 × window entry); unlisted: the reset value -/
  regs : List (Nat × Word)
  /-- 64-bit counters by the address of their LO half -/
  cnts : List (Nat × Word64)
  /-- captures of snapshot pairs by the key of their LO half (spec/00, R9) -/
  caps : List (Nat × Word64)
  /-- held LO writes of snapshot pairs (spec/00, R9) -/
  heldLo : List (Nat × Option Word)
  /-- held window words and rates by key (spec/18, R513) -/
  held : List (Nat × Option Word)
  /-- the word the last register read returned -/
  busData : Word
  /-- free values used (log entry 5) -/
  fresh : Nat
  /-- time the always-on domain has counted, in steps of 2 ns -/
  aon : Nat
  /-- CLK_CORE cycles since the data plane's reset was released (spec/01, R36) -/
  cycle : Nat
  /-- the scratchpad window's bytes, by offset -/
  mem : List Host.Cell
  /-- the FIFOs of BUF_QLOG, NM_LOG and SAF_LOG -/
  bufLog : List Word
  nmLog : List Word
  safLog : List Word
  data : DataSt
  ports : PortSt
  time : TimeSt
  mgt : MgtSt
  edge : EdgeSt
  nm : NmSt
  wvr : WvrSt
  ldg : LdgSt
  twin : PairSt
  key : KeySt
  saf : SafSt
  boot : BootSt
  /-- what left the device, newest first (log entry 17) -/
  out : List WireOut
  /-- the commands that wait, first in first out -/
  pending : List Instr
  deriving DecidableEq, Repr

/-! ## Reset -/

/-- The data plane after reset: no cell in use, no frame, no entry (spec/05, R137). -/
def DataSt.reset : DataSt :=
  { cells := [], cursor := 0, frames := [], infos := [], queues := [], qst := [], vtime := [], waiting := [], recirc := [],
    crossing := [], learnQ := [], fdb := [], fdbOp := .none, fdbCycle := 0, fdbUsed := [], tcam := [], swap := none, fracs := [], lfsrSeed := 0, returned := [],
    audit := false, frerHist := [], meterStart := [] }

/-- The MACs after reset. -/
def PortSt.reset : PortSt :=
  { rx := [], tx := [], phyLink := [], usxLink := [], phySpeed := [], mergeEff := [], mergeOff := [], verifies := [], txAn := [], saWait := [], mdio := [],
    mdioWait := [], mdioPolls := [], pollFrom := [], plca := [] }

/-- Network time after reset: the counter starts at 0 (spec/07, R208). -/
def TimeSt.reset : TimeSt :=
  { now := 0, stepped := false, capNow := 0, capPps := 0, ppsStamp := 0, ppsEdge := none, ports := [], syncs := [],
    gmSeq := 0, gmPorts := [], ppsSeen := false, ppsOut := [], ppsLate := [], ldgMs := 0, ldgSec := 0 }

/-- Commands, events and bridge after reset; the journal and the checkpoint statements are MRAM (log entry 2). -/
def MgtSt.reset : MgtSt :=
  { cmdQ := [], execQ := [], run := none, respSpi := [], events := [], evSeq := 0, mcFrames := [], mcLane := [], mcWait := [], wvLane := [],
    lastMc := false, laneCells := (0, 0), jrn := [], posted := [], pwfl := [], fenceFail := 0, fenceTag := 0, statements := [], inbox := [], swapCmd := none, writer := none, served := [],
    swapPending := false, cpWait := none, attesting := false, toPost := [], pulsing := none }

/-- The edge channels after reset. -/
def EdgeSt.reset : EdgeSt := { can := [], lin := [] }

/-- Sleep and wake after reset: no group sleeps, the ring is idle. -/
def NmSt.reset : NmSt :=
  { candidates := 0, round := 0, set := 0, stayed := 0, vetoed := 0, visiting := none, toVisit := [], forced := [], committed := 0, tCommit := 0,
    told := [], armed := false, latched := none, calm := false, pulse := false, pulseAt := 0, busFree := 0, waking := 0, changes := [], levelAt := [], lastSoft := [], softAt := [], vetoAt := none, askedAt := 0, memberWait := [],
    awakeSince := [], due := 0, dueCode := 0 }

/-- The Weaver after reset. -/
def WvrSt.reset : WvrSt :=
  { units := [], newCycle := 0, newCount := 0, confirms := [], deadline := [], stamps := [], lastSend := [], lastCyclic := [], due := [],
    openFrames := [], carSeq := [], capStamp := 0 }

/-- The ledger after reset; records and signatures are MRAM (log entry 2), LDG_CFG in effect is its register's reset value. -/
def LdgSt.reset : LdgSt :=
  { records := [], residual := [], delivered := [], before := [], eventAt := [], cfg := 0x03C0C800, gapMs := 0, standbyUsed := false, gapRecords := 0, batchFirst := 0,
    unsigned := 0, signing := none, saved := [0, 0, 0, 0], savedResidual := [], record := .blank, signatures := [] }

/-- The pair logic after reset. -/
def PairSt.reset : PairSt :=
  { txSeq := [], prefer := false, mask := 0, activeSince := 0, step := 0, tSync := none, rejoined := false, snap := [], syncLog := [],
    overflow := false, snapping := false, draws := [], partnerFlags := 0, replay := [], replaying := false, voqSent := [], voqBack := [],
    credit := 0, credited := [], acks := [], sent := 0, commits := [], uncommitted := [] }

/-- The fuses and keys of the unit, whose contents the spec does not give (log entry 2). -/
def KeySt.reset : KeySt :=
  { drs := [], fwHash := [], imgHash := [], slots := [], records := [], keyOp := none, signQ := [], transition := none, intent := none, cert := [], statements := [] }

/-- Faults and the Lee path after reset. -/
def SafSt.reset : SafSt :=
  { mode := .normal, enterAt := 0, leeTime := 0, leeRate := 0, streams := [], frames := [], routes := [], store := [], lastSent := [], srcs := [], images := [], sentAt := [],
    pllWait := false, agreed := [], runs := [], digests := [], warned := false, aonFault := false,
    health := [] }

/-- In reset: the start has not begun; the image slots are erased, no copy is sealed (log entry 2). -/
def BootSt.reset : BootSt :=
  { held := true, slotA := [], slotB := [], fwA := [], fwB := [], fwSeal := none, retained := [], sealOf := none, copying := none, rollback := [],
    mramBad := 0, digest := [], fallback := true, fwDigest := [], raiseFloor := false, monitor := false, gateStart := [], linStart := [],
    basic := [] }

/-- The device right after a power-on reset: every register at its reset value, nothing in any memory, and PORST_N not yet
released, so that COLD_START comes next (spec/02, R56, R67). -/
def State.reset : State :=
  { regs := [], cnts := [], caps := [], heldLo := [], held := [], busData := 0, fresh := 0, aon := 0, cycle := 0, mem := [], bufLog := [],
    nmLog := [], safLog := [], data := .reset, ports := .reset, time := .reset, mgt := .reset, edge := .reset, nm := .reset, wvr := .reset,
    ldg := .reset, twin := .reset, key := .reset, saf := .reset, boot := .reset, out := [], pending := [] }

end Sys2Proof.Machine
end

