-- ==== Sys2Proof/Machine/Ops.lean ====
section
/-!
DEFINITION. The named operations over the registers, counters, captures, logs and the scratchpad memory that every
meaning uses.
-/

namespace Sys2Proof.Machine

/-- The meaning's answer: the next state. -/
abbrev Out := Host.Outcome State Fault Refusal

/-! ## Registers -/

/-- MODE and EN of MAC_CFG after reset (spec/03, R94). -/
def macCfgReset (p : Nat) : Nat :=
  if p < 8 then 0 else if p < 10 then 0x400000 else if p < 26 then 0x800000 else if p < 34 then 0xC00000 else 0xF00001

/-- The value of copy `i` of a register after reset. -/
def RegReset.value (r : RegReset) (i : Nat) : Nat :=
  match r with
  | .const w => w
  | .macCfg => macCfgReset i
  | .macFrame => if i = 34 then 9216 else 1530
  | .zoneDiag => if i / 16 = i % 16 then 0x80000000 else 0
  | .wakeIn => if i = 4 then 0xC0000033 else 0x400

/-- The place of an address among a register's copies, if the address is one of them. -/
def RegDesc.copyOf (d : RegDesc) (a : Nat) : Option Nat :=
  if a < d.base then none
  else if d.count = 1 then (if a = d.base then some 0 else none)
  else if (a - d.base) % d.stride = 0 ∧ (a - d.base) / d.stride < d.count then some ((a - d.base) / d.stride)
  else none

/-- The register that occupies an address, and which copy of it (spec/18, R505). -/
def regFind (a : Nat) : List RegDesc → Option (RegDesc × Nat)
  | [] => none
  | d :: r => match d.copyOf a with
    | some i => some (d, i)
    | none => regFind a r

/-- The register that occupies an address. -/
def regAt (a : Nat) : Option (RegDesc × Nat) := regFind a (regBlock (a / 0x40000))

/-- What a register reads as after reset. -/
def resetWord (key : Nat) : Word :=
  match regAt (key % 0x100000000) with
  | some (d, i) => if key / 0x100000000 < d.win then BitVec.ofNat 32 (d.reset.value i) else 0
  | none => 0

/-- The value a register holds. -/
def State.reg (s : State) (key : Nat) : Word := mapGet resetWord s.regs key

/-- Puts a value into a register. -/
def State.setReg (s : State) (key : Nat) (w : Word) : State := { s with regs := mapSet resetWord s.regs key w }

/-- The value of a field. -/
def State.fld (s : State) (f : Fld) : Nat := wordBits (s.reg f.key) f.hi f.lo

/-- A field of one bit as a truth value. -/
def State.flag (s : State) (f : Fld) : Bool := (s.reg f.key).toNat.testBit f.lo

/-- Puts a value into a field. -/
def State.setFld (s : State) (f : Fld) (v : Nat) : State := s.setReg f.key (putBits (s.reg f.key) f.hi f.lo v)

/-- Puts a list of values into fields, in order. -/
def State.setFlds (s : State) : List (Fld × Nat) → State
  | [] => s
  | (f, v) :: r => (s.setFld f v).setFlds r

/-- Keys of the copies of a window register that hold something else than their reset value: its entries. -/
def State.listedEntries (s : State) (addr : Nat) : List Nat :=
  s.regs.filterMap (fun c => if c.1 % 0x100000000 = addr then some (c.1 / 0x100000000) else none)

/-- The 64-bit value of a LO/HI pair. -/
def State.pair (s : State) (lo hi : Nat) : Nat := (s.reg lo).toNat + 0x100000000 * (s.reg hi).toNat

/-- Puts a value into a LO/HI pair. -/
def State.setPair (s : State) (lo hi v : Nat) : State :=
  (s.setReg lo (BitVec.ofNat 32 v)).setReg hi (BitVec.ofNat 32 (v / 0x100000000))

/-! ## Counters (spec/00, R9; spec/03, R95) -/

/-- The value of a counter. -/
def State.cnt (s : State) (lo : Nat) : Word64 := mapGet (fun _ => 0) s.cnts lo

/-- A counter counts `n`, modulo 2^64. -/
def State.count (s : State) (lo n : Nat) : State :=
  { s with cnts := mapSet (fun _ => 0) s.cnts lo (s.cnt lo + BitVec.ofNat 64 n) }

/-- A counter counts one. -/
def State.inc (s : State) (lo : Nat) : State := s.count lo 1

/-- Sets the counters from `lo` on, `n` of them, to 0. -/
def State.clearCounters (s : State) (lo n : Nat) : State :=
  { s with cnts := s.cnts.filter (fun c => c.1 < lo || lo + 8 * n ≤ c.1) }

/-! Addresses of the counters (LO halves), by block. -/
def C.mac (p k : Nat) : Nat := 0x40100 + 0x1000 * p + 8 * k
def C.cls (k : Nat) : Nat := 0x82000 + 8 * k
def C.buf (k : Nat) : Nat := 0xC1000 + 8 * k
def C.sch (k : Nat) : Nat := 0x101000 + 8 * k
def C.time (k : Nat) : Nat := 0x141000 + 8 * k
def C.edge (n k : Nat) : Nat := 0x180100 + 0x400 * n + 8 * k
def C.wvr (k : Nat) : Nat := 0x1C1000 + 8 * k
def C.zone (k : Nat) : Nat := 0x201000 + 8 * k
def C.sec (p k : Nat) : Nat := 0x208100 + 0x400 * p + 8 * k
def C.nm (k : Nat) : Nat := 0x281000 + 8 * k
def C.saf (k : Nat) : Nat := 0x2C1000 + 8 * k
def C.pair (k : Nat) : Nat := 0x301000 + 8 * k
def C.mgt (k : Nat) : Nat := 0x340800 + 8 * k

/-! ## Held words, captures and free values -/

/-- A held word, where one is held. -/
def State.heldWord (s : State) (key : Nat) : Option Word := mapGet (fun _ => none) s.held key

/-- Holds a word. -/
def State.hold (s : State) (key : Nat) (w : Word) : State :=
  { s with held := mapSet (fun _ => none) s.held key (some w) }

/-- Drops a held word. -/
def State.unhold (s : State) (key : Nat) : State := { s with held := mapErase key s.held }

/-- The held word of a register, or what it holds where none is held. -/
def State.heldOr (s : State) (key : Nat) : Word := (s.heldWord key).getD (s.reg key)

/-- Commits a held word: the register takes it. -/
def State.commitHeld (s : State) (key : Nat) : State := (s.setReg key (s.heldOr key)).unhold key

/-- Commits held words of several registers. -/
def State.commitAll (s : State) : List Nat → State
  | [] => s
  | k :: r => (s.commitHeld k).commitAll r

/-- The capture of a snapshot pair (spec/00, R9): 0 until the first read of LO. -/
def State.capture (s : State) (lo : Nat) : Word64 := mapGet (fun _ => 0) s.caps lo

/-- Captures a value. -/
def State.setCapture (s : State) (lo : Nat) (v : Word64) : State :=
  { s with caps := mapSet (fun _ => 0) s.caps lo v }

/-- The next free value, as a number of `n` bits (log entry 5). -/
def State.freeNat (s : State) (n : Nat) : Nat := Config.freeValue s.fresh % 2 ^ n

/-- Advances to the next free value. -/
def State.used (s : State) : State := { s with fresh := s.fresh + 1 }

/-! ## Time (spec/07, R206) -/

/-- Units of 2^-40 ns in a nanosecond. -/
def fracPerNs : Nat := 0x10000000000

/-- Network time in whole nanoseconds. -/
def State.nowNs (s : State) : Nat := s.time.now / fracPerNs

/-- Network seconds and nanoseconds of a time in nanoseconds. -/
def secOf (ns : Nat) : Nat := ns / 1000000000 % 2 ^ 48
def nsOf (ns : Nat) : Nat := ns % 1000000000

/-- The local microsecond counter of 24 bits (spec/05, R158): 500 CLK_CORE cycles a microsecond. -/
def State.usec (s : State) : Nat := s.cycle / 500 % 0x1000000

/-! ## Memory: the scratchpad (spec/17, spec/18 R504) -/

/-- Bytes of the scratchpad window. -/
def Memory.size : Nat := 0x400000

/-- What a byte of the scratchpad reads that nothing has written: 0, as a bank is cleared before anyone but the MC
reads it (spec/17, R488; log entry 7). -/
def Memory.unlisted (_ : Nat) : Byte := 0

/-- The canonical form of the memory. -/
def Memory.wf (m : List Host.Cell) : Bool := mapWf Memory.unlisted m

/-- Reads one byte. -/
def State.readByte (s : State) (a : Nat) : Byte := mapGet Memory.unlisted s.mem a

/-- Writes one byte. -/
def State.writeByte (s : State) (a : Nat) (b : Byte) : State := { s with mem := mapSet Memory.unlisted s.mem a b }

/-- Reads a word: byte 4k of a word is bits 8k + 7:8k (spec/18, R506). -/
def State.readWord (s : State) (a : Nat) : Word :=
  BitVec.ofNat 32 (leNat [s.readByte a, s.readByte (a + 1), s.readByte (a + 2), s.readByte (a + 3)])

/-- Writes the bytes of a list from an address on. -/
def State.writeBytes (s : State) (a : Nat) : List Byte → State
  | [] => s
  | b :: r => (s.writeByte a b).writeBytes (a + 1) r

/-- Writes a word under a mask. -/
def State.writeWord (s : State) (a : Nat) (mask data : Word) : State :=
  s.writeBytes a (leBytes 4 (((s.readWord a) &&& ~~~ mask) ||| (data &&& mask)).toNat)

/-- Clears bytes of the scratchpad from `lo` up to `hi`. -/
def State.clearMem (s : State) (lo hi : Nat) : State :=
  { s with mem := mapKeep s.mem (fun k _ => k < lo || hi ≤ k) }

/-- Records what leaves the device (log entry 17). -/
def State.emit (s : State) (o : WireOut) : State := { s with out := o :: s.out }

/-! ## Lists of work -/

/-- Does a state change for each element of a list, in order. -/
def forEach {α : Type} (l : List α) (f : α → State → State) (s : State) : State :=
  match l with
  | [] => s
  | x :: r => forEach r f (f x s)

/-- Does a state change when a condition holds. -/
def State.doIf (s : State) (c : Bool) (f : State → State) : State := if c then f s else s

/-! ## Footprints -/

/-- The parts of the state: its fields but the queue of commands. -/
inductive Part where
  | regs | cnts | caps | heldLo | held | busData | fresh | aon | cycle | mem | bufLog | nmLog | safLog | data | ports | time | mgt
  | edge | nm | wvr | ldg | twin | key | saf | boot | out
  deriving DecidableEq, Repr

/-- Takes the listed parts of a result `t`, and every other part, the queue of commands included, from `s`: the footprint of
an operation, which says at its definition what it can change. -/
def State.confine (s : State) (l : List Part) (t : State) : State :=
  let has (p : Part) : Bool := l.any (fun q => decide (q = p))
  { regs := if has .regs then t.regs else s.regs, cnts := if has .cnts then t.cnts else s.cnts,
    caps := if has .caps then t.caps else s.caps, heldLo := if has .heldLo then t.heldLo else s.heldLo,
    held := if has .held then t.held else s.held, busData := if has .busData then t.busData else s.busData,
    fresh := if has .fresh then t.fresh else s.fresh, aon := if has .aon then t.aon else s.aon,
    cycle := if has .cycle then t.cycle else s.cycle, mem := if has .mem then t.mem else s.mem,
    bufLog := if has .bufLog then t.bufLog else s.bufLog, nmLog := if has .nmLog then t.nmLog else s.nmLog,
    safLog := if has .safLog then t.safLog else s.safLog, data := if has .data then t.data else s.data,
    ports := if has .ports then t.ports else s.ports, time := if has .time then t.time else s.time,
    mgt := if has .mgt then t.mgt else s.mgt, edge := if has .edge then t.edge else s.edge,
    nm := if has .nm then t.nm else s.nm, wvr := if has .wvr then t.wvr else s.wvr,
    ldg := if has .ldg then t.ldg else s.ldg, twin := if has .twin then t.twin else s.twin,
    key := if has .key then t.key else s.key, saf := if has .saf then t.saf else s.saf,
    boot := if has .boot then t.boot else s.boot, out := if has .out then t.out else s.out,
    pending := s.pending }

end Sys2Proof.Machine
end

