-- ==== Sys2Proof/Machine/Kdf.lean ====
section
/-!
DEFINITION. The derivation tree of spec/11 (R314, R315), the KCV (R320), and the CBOR and COSE forms of the
statements the device signs (spec/11, R327 to R329; spec/16, R477).
-/

namespace Sys2Proof.Machine

/-- The bytes of an ASCII text. -/
def ascii (t : String) : List Byte := t.toList.map (fun c => BitVec.ofNat 8 c.toNat)

/-- One block of the counter-mode derivation (R314). -/
def kdfBlock (kin : List Byte) (i : Nat) (label context : List Byte) (bits : Nat) : List Byte :=
  hmacSha256 kin (beBytes 4 i ++ label ++ [0] ++ context ++ beBytes 4 bits)

/-- The derivation of R314: the first `bits` bits of K(1) ‖ K(2) and so on. -/
def kdf (kin : List Byte) (label : String) (context : List Byte) (bits : Nat) : List Byte :=
  ((List.range ((bits + 255) / 256)).flatMap (fun i => kdfBlock kin (i + 1) (ascii label) context bits)).take (bits / 8)

/-- SERIAL (R312). -/
def State.serial (s : State) : Nat := s.pair K.DEVICE_SERIAL_LO K.DEVICE_SERIAL_HI

/-- The state code of R335: EPOCH. -/
def State.lcState (s : State) : Nat := s.fld F.LCS_STATUS_STATE

/-- K_EPOCH of a state code (R315, R316). -/
def State.epochKey (s : State) (epoch : Nat) : List Byte :=
  kdf s.key.drs "QG EPOCH" (beBytes 8 s.serial ++ beBytes 1 epoch) 256

/-- K_CMD[o] of a generation (R315). -/
def State.cmdKeyOf (s : State) (o gen : Nat) : List Byte :=
  kdf (s.epochKey s.lcState) "CMD" (beBytes 1 o ++ beBytes 2 gen) 128

/-- K_CMD[o] (R315, R317). -/
def State.cmdKey (s : State) (o : Nat) : List Byte := s.cmdKeyOf o (s.fld (F.CMD_GEN_GEN o))

/-- K_XPORT[o] (R315). -/
def State.xportKey (s : State) (o : Nat) : List Byte := kdf (s.epochKey s.lcState) "XPORT" (beBytes 1 o) 256

/-- K_SAK of a slot and KDF_ID, of TYPE 1 or 2 (R315, R322). -/
def State.sakKey (s : State) (slot kdfId type : Nat) : List Byte :=
  kdf (s.epochKey s.lcState) "SAK" (beBytes 2 slot ++ beBytes 4 kdfId) (if type = 1 then 128 else 256)

/-- The KCV of a key (R320). -/
def kcvOf (key : List Byte) : Nat := beNat ((cmac key (List.replicate 16 0)).take 3)

/-- SEED and I of tree `t` at level `v` of a signing key in a state (R315). -/
def State.lmsTree (s : State) (k epoch v t : Nat) : LmsTree :=
  let label := if k = 0 then "ID" else if k = 1 then "JRN" else "LDG"
  let b := kdf (s.epochKey epoch) label (beBytes 1 v ++ beBytes 4 t) 384
  ⟨b.take 32, b.drop 32⟩

/-- The public key of a signing key `k` in a state: level count, then the LMS public key of tree 0 at level 0 (R324). -/
def State.lmsPublic (s : State) (k epoch : Nat) : List Byte := hssKey (s.lmsTree k epoch 0 0)

/-- The signature of a signing key with leaf pair `q`, of the current state (R324, R325). -/
def State.lmsSignature (s : State) (k q : Nat) (msg : List Byte) : List Byte :=
  hssSign (s.lmsTree k s.lcState 0 0) (s.lmsTree k s.lcState 1 (q / 2 ^ 20)) q
    (fun t n => padTo 32 0 (Config.lmsRandomizer t.id n)) msg

/-! ## CBOR (RFC 8949, in its shortest forms: PRESUMED, log entry 8) -/

/-- A CBOR head of a major type and argument. -/
def cborHead (major n : Nat) : List Byte :=
  if n < 24 then [BitVec.ofNat 8 (major * 32 + n)]
  else if n < 256 then [BitVec.ofNat 8 (major * 32 + 24)] ++ beBytes 1 n
  else if n < 65536 then [BitVec.ofNat 8 (major * 32 + 25)] ++ beBytes 2 n
  else if n < 4294967296 then [BitVec.ofNat 8 (major * 32 + 26)] ++ beBytes 4 n
  else [BitVec.ofNat 8 (major * 32 + 27)] ++ beBytes 8 n

def cborUint (n : Nat) : List Byte := cborHead 0 n
def cborBytes (b : List Byte) : List Byte := cborHead 2 b.length ++ b
def cborArray (l : List (List Byte)) : List Byte := cborHead 4 l.length ++ l.flatMap id
/-- A map whose keys are small numbers. -/
def cborMap (l : List (Nat × List Byte)) : List Byte :=
  cborHead 5 l.length ++ l.flatMap (fun c => cborUint c.1 ++ c.2)

/-- The protected header of a COSE_Sign1: alg −46, with a kid where one is given (R327, R329). -/
def coseHeader (kid : List Byte) : List Byte :=
  if kid = [] then cborMap [(1, cborHead 1 45)] else cborMap [(1, cborHead 1 45), (4, cborBytes kid)]

/-- The Sig_structure that is signed (RFC 9052). -/
def coseToSign (kid payload : List Byte) : List Byte :=
  cborArray [cborHead 3 10 ++ ascii "Signature1", cborBytes (coseHeader kid), cborBytes [], cborBytes payload]

/-- A COSE_Sign1. -/
def coseSign1 (kid payload sig : List Byte) : List Byte :=
  cborHead 6 18 ++ cborArray [cborBytes (coseHeader kid), cborMap [], cborBytes payload, cborBytes sig]

end Sys2Proof.Machine
end

