-- ==== Sys2Proof/Machine/TwoPhase.lean ====
section
/-!
DEFINITION. Two-phase records and the frames of key slots in MRAM (spec/11, R318 and R319): how one is written, what an
interrupted write leaves, and what a read takes. The places of the fields in a payload are DESIGN CHOICE (log entry 72).
-/

namespace Sys2Proof.Machine

/-- COMMIT: the first 8 B of SHA-256 (R318). -/
def commitOf (l : List Byte) : List Byte := (sha256 l).take 8

/-- COMMIT verifies over SEQ ‖ payload. -/
def RecFrame.good (f : RecFrame) : Bool := f.commit == commitOf (beBytes 8 f.seq ++ f.payload)

/-- A written frame. -/
def RecFrame.of (seq : Nat) (payload : List Byte) : RecFrame :=
  ⟨seq, padTo 48 0 payload, commitOf (beBytes 8 seq ++ padTo 48 0 payload)⟩

/-- The frame that a read takes: COMMIT verifies, and the higher SEQ. A record with none is torn. -/
def TwoPhase.read (r : TwoPhase) : Option RecFrame :=
  if r.f0.good && r.f1.good then some (if r.f0.seq < r.f1.seq then r.f1 else r.f0)
  else if r.f0.good then some r.f0
  else if r.f1.good then some r.f1
  else none

/-- The payload that is read. -/
def TwoPhase.value (r : TwoPhase) : Option (List Byte) := r.read.map (fun f => f.payload)

/-- SEQ + 1 of the value read. -/
def TwoPhase.nextSeq (r : TwoPhase) : Nat := match r.read with
  | some f => f.seq + 1
  | none => 1

/-- Puts a frame in place of the one whose COMMIT fails or whose SEQ is lower. -/
def TwoPhase.put (r : TwoPhase) (f : RecFrame) : TwoPhase :=
  if r.f0.good && (!r.f1.good || decide (r.f1.seq < r.f0.seq)) then { r with f1 := f } else { r with f0 := f }

/-- A write. -/
def TwoPhase.write (r : TwoPhase) (payload : List Byte) : TwoPhase := r.put (.of r.nextSeq payload)

/-- A write that was interrupted before its COMMIT: the previous value stays readable. -/
def TwoPhase.cut (r : TwoPhase) (payload : List Byte) : TwoPhase := r.put ⟨r.nextSeq, padTo 48 0 payload, []⟩

/-- Neither COMMIT verifies. -/
def TwoPhase.tear (r : TwoPhase) : TwoPhase := ⟨{ r.f0 with commit := [] }, { r.f1 with commit := [] }⟩

/-! ## The records of the unit, by number -/

/-- ROLLBACK_MIN of a state (spec/02, R53), the transition intent, the firmware seal, the ledger's record (spec/12, R346), the
LMS state of a signing key, CMD_GEN of an origin and the header of a slot. -/
def recRollback (state : Nat) : Nat := state
def recIntent : Nat := 5
def recSeal : Nat := 6
def recEnergy : Nat := 7
def recLms (k : Nat) : Nat := 8 + k
def recGen (o : Nat) : Nat := 64 + o
def recSlot (i : Nat) : Nat := 1024 + i

/-- A record. -/
def State.twoPhase (s : State) (n : Nat) : TwoPhase :=
  if n = recEnergy then s.ldg.record else mapGet (fun _ => TwoPhase.blank) s.key.records n

def State.setTwoPhase (s : State) (n : Nat) (r : TwoPhase) : State :=
  if n = recEnergy then { s with ldg := { s.ldg with record := r } }
  else { s with key := { s.key with records := mapSet (fun _ => TwoPhase.blank) s.key.records n r } }

/-- Writes a record (R318). -/
def State.writeRec (s : State) (n : Nat) (payload : List Byte) : State := s.setTwoPhase n ((s.twoPhase n).write payload)

/-- Zeroises the records that a test names. -/
def State.dropRecs (s : State) (p : Nat → Bool) : State :=
  { s with key := { s.key with records := s.key.records.filter (fun c => !p c.1) } }

/-- An accepted CMD_KEY_ADVANCE raises its origin's CMD_GEN by 1 (R317). -/
def State.raiseGen (s : State) (c : Cmd) : State :=
  if c.opcode = 0x34 ∧ c.origin < 64 then
    let g := s.fld (F.CMD_GEN_GEN c.origin) + 1
    (s.setFld (F.CMD_GEN_GEN c.origin) g).writeRec (recGen c.origin) (beBytes 2 g)
  else s

/-! ## Key slots (R319) -/

/-- A zeroised half, and a written one. -/
def Half.zero : Half := ⟨[], 0, []⟩
def Half.of (type : Nat) (key : List Byte) : Half := ⟨key, type, commitOf (beBytes 1 type ++ key)⟩

/-- A half's COMMIT verifies. -/
def Half.good (h : Half) : Bool := h.commit == commitOf (beBytes 1 h.type ++ h.key)

/-- An empty slot. -/
def KeySlot.empty : KeySlot := ⟨0, .zero, .zero⟩

/-- The active half and the pending one, which ACTIVE_HALF does not name. -/
def KeySlot.actHalf (k : KeySlot) : Half := if k.active = 0 then k.h0 else k.h1
def KeySlot.pendHalf (k : KeySlot) : Half := if k.active = 0 then k.h1 else k.h0
def KeySlot.setAct (k : KeySlot) (h : Half) : KeySlot := if k.active = 0 then { k with h0 := h } else { k with h1 := h }
def KeySlot.setPend (k : KeySlot) (h : Half) : KeySlot := if k.active = 0 then { k with h1 := h } else { k with h0 := h }

/-- The active key and the pending key, [] where there is none. -/
def KeySlot.act (k : KeySlot) : List Byte := k.actHalf.key
def KeySlot.pend (k : KeySlot) : List Byte := k.pendHalf.key

/-- ACTIVE_HALF is switched. -/
def KeySlot.switch (k : KeySlot) : KeySlot := { k with active := 1 - k.active }

def State.slot (s : State) (i : Nat) : KeySlot := mapGet (fun _ => KeySlot.empty) s.key.slots i
def State.setSlot (s : State) (i : Nat) (k : KeySlot) : State :=
  { s with key := { s.key with slots := mapSet (fun _ => KeySlot.empty) s.key.slots i k } }

/-- The header in effect: ACTIVE_HALF, STATE, and TYPE, SOURCE and KCV of H0 and of H1. -/
def State.headerBytes (s : State) (i : Nat) : List Byte :=
  let a := beBytes 1 (s.fld (F.KEY_SLOT_INFO_TYPE i)) ++ beBytes 1 (s.fld (F.KEY_SLOT_INFO_SOURCE i)) ++ beBytes 3 (s.fld (F.KEY_SLOT_INFO_KCV i))
  let p := beBytes 1 (s.fld (F.KEY_SLOT_PEND_TYPE i)) ++ beBytes 1 (s.fld (F.KEY_SLOT_PEND_SOURCE i)) ++ beBytes 3 (s.fld (F.KEY_SLOT_PEND_KCV i))
  beBytes 1 (s.slot i).active ++ beBytes 1 (s.fld (F.KEY_SLOT_INFO_STATE i)) ++ (if (s.slot i).active = 0 then a ++ p else p ++ a)

/-- The header is committed. -/
def State.commitHeader (s : State) (i : Nat) : State := s.writeRec (recSlot i) (s.headerBytes i)

/-- A header as it was read is in effect. -/
def State.loadHeader (s : State) (i : Nat) (p : List Byte) : State :=
  let a := beAt p 0 1 % 2
  let half (h : Nat) : List Byte := slice p (2 + 5 * h) 5
  let s := s.setSlot i { s.slot i with active := a }
  s.setFlds [(F.KEY_SLOT_INFO_STATE i, beAt p 1 1), (F.KEY_SLOT_INFO_TYPE i, beAt (half a) 0 1), (F.KEY_SLOT_INFO_SOURCE i, beAt (half a) 1 1),
    (F.KEY_SLOT_INFO_KCV i, beAt (half a) 2 3), (F.KEY_SLOT_PEND_TYPE i, beAt (half (1 - a)) 0 1),
    (F.KEY_SLOT_PEND_SOURCE i, beAt (half (1 - a)) 1 1), (F.KEY_SLOT_PEND_KCV i, beAt (half (1 - a)) 2 3)]

end Sys2Proof.Machine
end

