-- ==== Sys2Proof/Machine/Journal.lean ====
section
/-!
DEFINITION. The command journal (spec/16, R474 to R477), the messages the MC sends (R457, R541) and events (R472,
R473).
-/

namespace Sys2Proof.Machine

/-! ## Entries -/

/-- Entries in the ring (spec/16). -/
def jrnSize : Nat := 65536

/-- The unit is one of a standby pair and not the ACTIVE one. -/
def State.standby (s : State) : Bool := s.fld F.PAIR_CFG_MODE == 1 && s.fld F.PAIR_STATUS_ROLE != 3

/-- The unit is the STANDBY: its journal is the active unit's, and it appends no entry of its own (R477). -/
def State.journalHeld (s : State) : Bool := s.fld F.PAIR_CFG_MODE == 1 && s.fld F.PAIR_STATUS_ROLE == 4

/-- The next JSEQ. -/
def State.nextJseq (s : State) : Nat :=
  match s.mgt.jrn with
  | [] => 0
  | e :: _ => e.jseq + 1

/-- The CHAIN of the newest entry; 16 zero bytes before the first (R474). -/
def State.lastChain (s : State) : List Byte :=
  match s.mgt.jrn with
  | [] => List.replicate 16 0
  | e :: _ => e.chain

/-- Bytes 0 to 47 of an entry (R474). -/
def entryBody (jseq kind origin opcode cseq timeNs part : Nat) (data : List Byte) : List Byte :=
  beBytes 8 jseq ++ beBytes 1 kind ++ beBytes 1 origin ++ beBytes 2 opcode ++ beBytes 4 cseq ++
    beBytes 6 (secOf timeNs) ++ beBytes 4 (nsOf timeNs) ++ beBytes 2 part ++ padTo 20 0 data

/-- The CHAIN of an entry (R474). -/
def chainOf (prev body : List Byte) : List Byte := (sha256 (prev ++ body)).take 16

/-- Puts a whole entry at the head of the ring; the oldest is overwritten. -/
def State.putEntry (s : State) (e : JEntry) : State :=
  let s := { s with mgt := { s.mgt with jrn := (e :: s.mgt.jrn).take jrnSize } }
  s.setPair K.JRN_HEAD_LO K.JRN_HEAD_HI e.jseq

/-- Appends one entry. -/
def State.appendRaw (s : State) (kind origin opcode cseq part : Nat) (data : List Byte) : State :=
  let body := entryBody s.nextJseq kind origin opcode cseq s.nowNs part data
  s.putEntry ⟨s.nextJseq, body, chainOf s.lastChain body⟩

/-- Puts a request for a signature of a key into the key engine's queue: in order of arrival, and in one CLK_CTRL
cycle LDG, then JRN, then ID (spec/11, R326). -/
def State.requestSign (s : State) (k : Nat) (what : SignFor) (payload : List Byte) : State :=
  let r : SignReq := ⟨k, what, payload, s.cycle / 2⟩
  let (older, same) := s.key.signQ.partition (fun q => q.cycle != r.cycle || decide (k ≤ q.key))
  { s with key := { s.key with signQ := older ++ r :: same } }

/-- The payload of a checkpoint statement over an entry (R477). -/
def State.checkpointPayload (s : State) (e : JEntry) : List Byte :=
  cborMap [(1, cborUint s.serial), (2, cborUint s.lcState), (3, cborUint e.jseq), (4, cborBytes e.chain),
    (5, cborArray ((List.range 64).map (fun o => cborUint (s.fld (F.MGT_LAST_SEQ_SEQ o)))))]

/-- The statement over an entry, not yet signed. -/
def State.statementOf (s : State) (e : JEntry) : Statement :=
  ⟨e.jseq, e.chain, s.lcState, (List.range 64).map (fun o => s.fld (F.MGT_LAST_SEQ_SEQ o)), s.checkpointPayload e, none⟩

/-- The signature-ring position that the next checkpoint statement takes. -/
def State.signPosition (s : State) : Nat := s.mgt.statements.length % 64

/-- Writes the statement over a CHECKPOINT entry; its signature is requested (R477). -/
def State.putStatement (s : State) (e : JEntry) : State :=
  let st := s.statementOf e
  let s := { s with mgt := { s.mgt with statements := (st :: s.mgt.statements).take 64 } }
  let s := s.setPair K.JRN_CP_LO K.JRN_CP_HI e.jseq
  let s := s.requestSign 1 (.checkpoint e.jseq) st.payload
  if s.flag (F.LMS_STATUS_READY 1) then s else s.setFld F.JRN_STATUS_SIGN_WAIT 1

/-- Appends a CHECKPOINT entry, and the statement beside it whose signature is requested (R477). -/
def State.checkpoint (s : State) (origin opcode cseq : Nat) : State :=
  let s := s.appendRaw 7 origin opcode cseq 0 (beBytes 4 s.signPosition)
  match s.mgt.jrn with
  | [] => s
  | e :: _ => s.putStatement e

/-- Appends the entries of one command, with consecutive JSEQs (R475): each is given as kind, part and data. The
CHECKPOINT entry of JSEQ mod 4,096 = 4,095 (R477) follows at once; one due within the group follows the group (log
entry 10). A standby appends nothing (R477). -/
def State.appendGroup (s : State) (origin opcode cseq : Nat) (l : List (Nat × Nat × List Byte)) : State :=
  if s.journalHeld then s
  else
    let first := s.nextJseq
    let s := forEach l (fun e s => s.appendRaw e.1 origin opcode cseq e.2.1 e.2.2) s
    if first / 4096 < (first + l.length + 1) / 4096 then s.checkpoint 255 0 0 else s

/-- Appends one entry of the unit's own or of a command. -/
def State.append (s : State) (kind origin opcode cseq part : Nat) (data : List Byte) : State :=
  s.appendGroup origin opcode cseq [(kind, part, data)]

/-- A COMPLETION entry (R475). -/
def State.completion (s : State) (c : Cmd) (status result : Nat) : State :=
  s.append 3 c.origin c.opcode c.seq 0 (beBytes 8 c.jseq ++ beBytes 2 status ++ beBytes 4 result)

/-- The entry of a JSEQ, where the ring holds it. -/
def State.entryOf (s : State) (jseq : Nat) : Option JEntry := s.mgt.jrn.find? (fun e => e.jseq == jseq)

/-- The 64 bytes of an entry. -/
def JEntry.bytes (e : JEntry) : List Byte := e.body ++ e.chain

/-! ## Messages the MC sends -/

/-- A message of the layout of R451 with its TAG under a key; the body is padded with zeros to the multiple of 4 that LENGTH is. -/
def message (key : List Byte) (disc origin seq opcode : Nat) (body : List Byte) : List Byte :=
  let body := body ++ List.replicate ((4 - body.length % 4) % 4) 0
  let m := beBytes 1 disc ++ beBytes 1 1 ++ beBytes 1 origin ++ beBytes 1 0 ++ beBytes 4 seq ++
    beBytes 2 (if disc = 0xC0 then opcode else Config.messageOpcode disc opcode) ++ beBytes 2 body.length ++ body
  m ++ cmac key m

/-- The management zone (spec/10, R292). -/
def State.mgtZone (s : State) : Nat := s.fld (F.ZONE_PORT_ZONE 34)

/-- The MC places a frame in its lane, or waits for a place (R541). -/
def State.mcSend (s : State) (f : LaneFrame) : State :=
  if s.mgt.mcLane.length < 64 && s.mgt.mcWait.isEmpty then
    { s with mgt := { s.mgt with mcLane := s.mgt.mcLane ++ [f] } }
  else { s with mgt := { s.mgt with mcWait := s.mgt.mcWait ++ [f] } }

/-- Sends a response on the channel that carried the command (R457, R458): on a frame channel from port M, by
REDIRECT to the ingress port in queue Q7. -/
def State.respond (s : State) (chan : Chan) (msg : List Byte) : State :=
  match chan with
  | .spi => { s with mgt := { s.mgt with respSpi := s.mgt.respSpi ++ [msg] } }
  | .frame port da sa tag =>
    s.mcSend ⟨padTo 60 0 (sa ++ da ++ tag ++ beBytes 2 0x88B5 ++ msg) ++
      (sa ++ da ++ tag ++ beBytes 2 0x88B5 ++ msg).drop 60, ⟨s.mgtZone, some (port, 7), none⟩⟩

/-- The body of a response: STATUS, PART, LAST and the JSEQ, then data (R457). -/
def rspBody (status part last jseq : Nat) (data : List Byte) : List Byte :=
  beBytes 2 status ++ beBytes 1 part ++ beBytes 1 last ++ beBytes 8 jseq ++ data

/-- The result bytes one message holds on a channel: the LENGTH limit of R451 less the 12 bytes of R457. -/
def Chan.room : Chan → Nat
  | .spi => 4100
  | .frame .. => 1428

/-- The parts of a result, at most `fuel` of them. -/
def parts (room fuel : Nat) (data : List Byte) : List (List Byte) :=
  match fuel with
  | 0 => [data]
  | n + 1 => if data.length ≤ room then [data] else data.take room :: parts room n (data.drop room)

/-- Answers a command with a status and result data, in as many parts as it needs (R457). In a standby pair the unit
that is ACTIVE answers (spec/15, R430). -/
def State.answer (s : State) (c : Cmd) (status : Nat) (data : List Byte) : State :=
  s.confine [.mgt] (
    if s.standby then s else
    let ps := parts c.chan.room 254 data
    forEach ((List.range ps.length).zip ps) (fun p s =>
      s.respond c.chan (message (s.cmdKeyOf c.origin c.gen) 0xC1 c.origin c.seq c.opcode
        (rspBody status p.1 (b2n (p.1 + 1 == ps.length)) c.jseq p.2))) s)

/-! ## Events -/

/-- The frame that carries an event (R473). -/
def State.eventFrame (s : State) (msg : List Byte) : LaneFrame :=
  let mac (lo hi : Nat) := beBytes 6 (s.pair lo hi)
  let vid := s.fld F.MGT_CFG_EVT_VID
  let f := mac K.MGT_EVT_MAC_LO K.MGT_EVT_MAC_HI ++ mac K.NM_SA_LO K.NM_SA_HI ++
    (if vid = 0 then [] else beBytes 2 0x8100 ++ beBytes 2 vid) ++ beBytes 2 0x88B5 ++ msg
  ⟨f, ⟨s.mgtZone, some (s.fld F.MGT_CFG_EVT_PORT, 7), none⟩⟩

/-- The message of an event, tagged under K_CMD[EVT_ORIGIN] (R473). -/
def State.eventMessage (s : State) (e : EvMsg) : List Byte :=
  message (s.cmdKey (s.fld F.MGT_CFG_EVT_ORIGIN)) 0xC2 (s.fld F.MGT_CFG_EVT_ORIGIN) e.seq e.code e.body

/-- Queues an event, and sends it once as a frame where EVT_PORT and NM_SA say so; a full queue loses it (R473). A RETIRED unit has
no key to tag it with, and sends none (spec/11, R316). -/
def State.queueEvent (s : State) (code : Nat) (body : List Byte) : State :=
  if 256 ≤ s.mgt.events.length then (s.inc (C.mgt 8)).setFld F.MGT_CFG_EVT_LOST 1
  else
    let e : EvMsg := ⟨s.mgt.evSeq, code, body⟩
    let s := { s with mgt := { s.mgt with events := s.mgt.events ++ [e], evSeq := (s.mgt.evSeq + 1) % 0x100000000 } }
    if s.fld F.MGT_CFG_EVT_PORT ≠ 127 ∧ s.pair K.NM_SA_LO K.NM_SA_HI ≠ 0 ∧ s.lcState < 4 then
      s.mcSend (s.eventFrame (s.eventMessage e))
    else s

/-- Raises an event: journals it, counts it and queues it (R472, R473). -/
def State.raise (s : State) (code : Nat) (detail : List Byte) : State :=
  s.confine [.regs, .cnts, .mgt, .key] (
    let body := entryBody s.nextJseq 5 255 code 0 s.nowNs 0 detail
    ((s.append 5 255 code 0 0 detail).inc (C.mgt 7)).queueEvent code body)

/-- EVT_N is asserted while the queue holds an unacknowledged event (R473), and from a fatal fault on (spec/14, R398,
step 3). -/
def State.evtPin (s : State) : Bool := !s.mgt.events.isEmpty || s.saf.mode != .normal

end Sys2Proof.Machine
end

