-- ==== Sys2Proof/Machine/Flags.lean ====
section
/-!
DEFINITION. Event flags and logs: what a flag going from 0 to 1, or an entry of a log, raises (spec/16, R472).
-/

namespace Sys2Proof.Machine

/-- The block code of an address in an event's bits 15:8 (spec/16, R472). -/
def blockCode (addr : Nat) : Nat :=
  match addr / 0x40000 with
  | 0 => 0x01
  | 1 => 0x03
  | 2 => 0x04
  | 3 => 0x05
  | 5 => 0x07
  | 6 => 0x08
  | 7 => 0x09
  | 8 => 0x0A
  | 9 => if addr < 0x260000 then 0x0B else 0x0C
  | 10 => 0x0D
  | 11 => 0x0E
  | 12 => 0x0F
  | 13 => if addr / 0x1000 = 0x341 then 0x11 else 0x10
  | _ => 0

/-- Sets an event flag: an event is raised when it goes from 0 to 1 (R472; which registers hold event flags: log
entry 12). -/
def State.raiseFlag (s : State) (f : Fld) (detail : List Byte) : State :=
  if s.flag f then s
  else (s.setFld f 1).raise (blockCode (f.key % 0x100000000) * 256 + f.lo) detail

/-- An entry of BUF_QLOG: CAUSE and INDEX; a full log loses it and sets QLOG_LOST (spec/05, R168). -/
def State.bufEvent (s : State) (cause index : Nat) : State :=
  if 32 ≤ s.bufLog.length then s.setFld F.BUF_AUDIT_QLOG_LOST 1
  else
    let w : Word := BitVec.ofNat 32 (cause * 0x1000000 + index % 0x40000)
    ({ s with bufLog := s.bufLog ++ [w] }).raise (0x500 + cause) (beBytes 4 w.toNat)

/-- An event of R391 with its CODE and DETAIL: counted, and logged where SAF_LOG is not full (spec/14, R411, R412). -/
def State.safEvent (s : State) (code detail : Nat) : State :=
  let s := s.inc (C.saf 14)
  if 64 ≤ s.safLog.length then s
  else
    let w : Word := BitVec.ofNat 32 (code * 0x1000000 + detail % 0x1000000)
    ({ s with safLog := s.safLog ++ [w] }).raise (0xE00 + code) (beBytes 4 w.toNat)

/-- An entry of NM_LOG: EVENT, SOURCE and GROUPS; what finds the log full is not logged (spec/13, R381), nor what happens
in Calm, where only the always-on domain runs (R378). -/
def State.nmEvent (s : State) (event source groups : Nat) : State :=
  if s.nm.calm ∨ 32 ≤ s.nmLog.length then s
  else
    let w : Word := BitVec.ofNat 32 (event * 0x1000000 + source % 256 * 0x10000 + groups % 0x10000)
    ({ s with nmLog := s.nmLog ++ [w] }).raise (0xD00 + event) (beBytes 4 w.toNat)

/-- An entry of the Posted Write Failure Log; a failure that finds it full is counted and sets PWFL_LOST
(spec/16, R466). -/
def State.writeFailed (s : State) (cause tag addr : Nat) : State :=
  s.confine [.regs, .cnts, .mgt, .key] (
    let s := { s with mgt := { s.mgt with fenceFail := min 65535 (s.mgt.fenceFail + 1), fenceTag := tag } }
    let s := if 32 ≤ s.mgt.pwfl.length then (s.inc (C.mgt 10)).setFld F.BRG_STATUS_PWFL_LOST 1
      else { s with mgt := { s.mgt with pwfl := s.mgt.pwfl ++ [⟨cause, tag, addr, s.nowNs⟩] } }
    s.raise (0x1000 + cause) (beBytes 4 addr ++ beBytes 2 tag))

/-- Notes a unit or a judgement in the sync log of 4,096 while one runs (spec/15, R429). -/
def State.logSync (s : State) (e : SyncLog) : State :=
  if !s.twin.snapping then s
  else if 4096 ≤ s.twin.syncLog.length then { s with twin := { s.twin with overflow := true } }
  else { s with twin := { s.twin with syncLog := s.twin.syncLog ++ [e] } }

/-- Notes a draw of a queue's LFSR. -/
def State.logDraw (s : State) (q : Nat) : State :=
  if !s.twin.snapping then s
  else { s with twin := { s.twin with draws := mapModify (fun _ => 0) s.twin.draws q (fun n => n + 1) } }

/-! ## Wake groups and reset groups (spec/13, R355, R356, R369; spec/17, R500 to R502) -/

/-- Wake group of an edge channel (spec/13, R355). -/
def State.chanGroup (s : State) (n : Nat) : Nat := bits (s.fld (F.NM_CHAN_GROUP_GROUP (n / 8))) (4 * (n % 8) + 3) (4 * (n % 8))

/-- Wake group of a port. -/
def State.portGroup (s : State) (p : Nat) : Nat := bits (s.fld (F.NM_PORT_GROUP_GROUP (p / 8))) (4 * (p % 8) + 3) (4 * (p % 8))

/-- A wake group sleeps. -/
def State.asleep (s : State) (g : Nat) : Bool := (s.fld F.NM_STATE_ASLEEP).testBit g

/-- A reset group is held by RST_CTRL (spec/17, R500, R502). -/
def State.rstHeld (s : State) (g : Nat) : Bool := (s.reg (K.RST_HELD (g / 32))).toNat.testBit (g % 32)

/-- An edge channel is held in reset: by RST_CTRL or by the sleep of its group (spec/17, R501). -/
def State.chanHeld (s : State) (n : Nat) : Bool := s.rstHeld (34 + n) || s.asleep (s.chanGroup n)

/-- A port is held in reset in the same way; port M is in no group. -/
def State.portHeld (s : State) (p : Nat) : Bool := decide (p < 34) && (s.rstHeld p || s.asleep (s.portGroup p))

/-- From SLEEP_COMMIT on, members of committed groups start no transmission (spec/13, R369). -/
def State.groupQuiet (s : State) (g : Nat) : Bool := decide (2 ≤ s.fld F.NM_STATE_RING) && s.nm.committed.testBit g

end Sys2Proof.Machine
end

