-- ==== Sys2Proof/Machine/Buffer.lean ====
section
/-!
DEFINITION. The packet buffer: cells, chains, holds, copies and queues, admission with WRED, bad frames, quarantine
and the audit (spec/05, R133 to R138, R150 to R158, R162 to R165).
-/

namespace Sys2Proof.Machine

/-! ## Tables -/

def cellCount : Nat := 131072

def State.cell (s : State) (k : Nat) : Cell := mapGet (fun _ => .fresh) s.data.cells k
def State.setCell (s : State) (k : Nat) (c : Cell) : State :=
  { s with data := { s.data with cells := mapSet (fun _ => .fresh) s.data.cells k c } }

def State.frame (s : State) (h : Nat) : Option Frame := mapGet (fun _ => none) s.data.frames h
def State.setFrame (s : State) (h : Nat) (f : Frame) : State :=
  { s with data := { s.data with frames := mapSet (fun _ => none) s.data.frames h (some f) } }
def State.modFrame (s : State) (h : Nat) (g : Frame → Frame) : State :=
  match s.frame h with
  | some f => s.setFrame h (g f)
  | none => s

def State.info (s : State) (h : Nat) : PassInfo := mapGet (fun _ => .empty) s.data.infos h
def State.setInfo (s : State) (h : Nat) (i : PassInfo) : State :=
  { s with data := { s.data with infos := mapSet (fun _ => .empty) s.data.infos h i } }

def State.queue (s : State) (q : Nat) : List Copy := mapGet (fun _ => []) s.data.queues q
def State.setQueue (s : State) (q : Nat) (l : List Copy) : State :=
  { s with data := { s.data with queues := mapSet (fun _ => []) s.data.queues q l } }

def QState.fresh : QState := ⟨0, 0, none, false⟩
def State.qs (s : State) (q : Nat) : QState := mapGet (fun _ => .fresh) s.data.qst q
def State.setQs (s : State) (q : Nat) (x : QState) : State :=
  { s with data := { s.data with qst := mapSet (fun _ => .fresh) s.data.qst q x } }

def State.txAt (s : State) (m : Nat) : Option Tx := mapGet (fun _ => none) s.ports.tx m
def State.setTx (s : State) (m : Nat) (t : Option Tx) : State :=
  { s with ports := { s.ports with tx := mapSet (fun _ => none) s.ports.tx m t } }
def State.rxAt (s : State) (m : Nat) : Option RxProg := mapGet (fun _ => none) s.ports.rx m
def State.setRx (s : State) (m : Nat) (r : Option RxProg) : State :=
  { s with ports := { s.ports with rx := mapSet (fun _ => none) s.ports.rx m r } }

/-- Queue nodes of the pool (R150). -/
def nodeCount : Nat := 131072

/-- The nodes in use: a copy in transmission keeps its node until its hold is released, as R154 counts its cells (DESIGN CHOICE:
R150 does not say when a node returns to the pool; log entry 67). -/
def State.nodesUsed (s : State) : Nat :=
  s.data.queues.foldl (fun n c => n + c.2.length) 0 + s.ports.tx.foldl (fun n c => n + b2n c.2.isSome) 0

/-! ## Cells (R135 to R138) -/

/-- The lowest free index at or after `k`, wrapping, within `fuel` steps (R137). -/
def findFree (cells : List (Nat × Cell)) (k : Nat) : Nat → Option Nat
  | 0 => none
  | fuel + 1 =>
    if (mapGet (fun _ => Cell.fresh) cells k).map then some k else findFree cells ((k + 1) % cellCount) fuel

def State.freeCells (s : State) : Nat := s.fld F.BUF_STATUS_FREE_CELLS
def State.addFree (s : State) (d : Int) : State :=
  s.setFld F.BUF_STATUS_FREE_CELLS (ofSigned 18 ((s.freeCells : Int) + d))
def State.addQuar (s : State) (d : Int) : State :=
  s.setFld F.BUF_AUDIT_QUAR_CELLS (ofSigned 18 ((s.fld F.BUF_AUDIT_QUAR_CELLS : Int) + d))

/-- Grants a cell at the cursor and moves the cursor past it (R137). The cell is the last of a chain of head `head`,
or a head of its own. -/
def State.grantCell (s : State) (head : Option Nat) : Option (Nat × State) :=
  match findFree s.data.cells s.data.cursor (s.data.cells.length + 1) with
  | none => none
  | some k =>
    let s := s.setCell k ⟨0, true, head.getD k, .inChain, (s.cell k).strike, false⟩
    some (k, { s with data := { s.data with cursor := (k + 1) % cellCount } }.addFree (-1))

/-- Cells a number of bytes occupies (R133). -/
def cellsOf (n : Nat) : Nat := (n + 127) / 128

/-- Adds `n` cells to the chain of a frame, or stops at the first that is not granted. -/
def State.growChain (s : State) (h : Nat) : Nat → State × Bool
  | 0 => (s, true)
  | n + 1 =>
    match s.frame h, s.grantCell (some h) with
    | some f, some (k, s') =>
      let s' := s'.setCell f.tail { s'.cell f.tail with next := k, last := false }
      (s'.setFrame h { f with tail := k }).growChain h n
    | _, _ => (s, false)

/-- A cell returned: STATE 1 becomes free, STATE 3 quarantined (R137). -/
def State.returnCell (s : State) (k : Nat) : State :=
  match (s.cell k).state with
  | .inChain => (s.setCell k { Cell.fresh with strike := (s.cell k).strike }).addFree 1
  | .marked => (s.setCell k ⟨0, false, 0, .quarantined, (s.cell k).strike, false⟩).addQuar 1
  | _ => s

/-- The cells of a chain from `k`, at most `fuel`. -/
def State.chain (s : State) (k : Nat) : Nat → List Nat
  | 0 => []
  | fuel + 1 => k :: (if (s.cell k).last then [] else s.chain (s.cell k).next fuel)

/-- Longest chain: 9,217 bytes (R133). -/
def chainFuel : Nat := 80

/-- Returns the chain of a frame whose REF reached 0 and forgets the frame. A link word found uncorrectable stops the
walk: the cells after it are left to the audit (R137, R162). -/
def State.returnChain (s : State) (h : Nat) : State :=
  match s.frame h with
  | none => s
  | some f =>
    let l := s.chain h chainFuel
    let l := match f.badLink with
      | some k => l.take (k + 1)
      | none => l
    let s := forEach l (fun k s => s.returnCell k) s
    { s with data := { s.data with frames := mapErase h s.data.frames, infos := mapErase h s.data.infos } }

/-- Cells a partner's VOQ gets back when its crossing frame is released are counted by the pair logic (R442): VOQ and
cells returned so far. -/
def State.creditBack (s : State) (v n : Nat) : State :=
  let old := mapGet (fun _ => 0) s.data.returned v
  { s with data := { s.data with returned := mapSet (fun _ => 0) s.data.returned v ((old + n) % 0x100000000) } }

/-- Releases one hold (R136). A hold released at REF 0 is logged as REF_UNDERFLOW (R165). A descriptor that is not
live keeps its chain for the audit (R162). -/
def State.release (s : State) (h : Nat) : State :=
  match s.frame h with
  | none => s
  | some f =>
    if f.ref = 0 then s.bufEvent 7 h
    else if f.ref = 1 then
      let s := match (s.info h).credit with
        | some (v, n) => s.creditBack v n
        | none => s
      let s := s.setFrame h { f with ref := 0 }
      if f.live then s.returnChain h
      else { s with data := { s.data with frames := mapErase h s.data.frames, infos := mapErase h s.data.infos } }
    else s.setFrame h { f with ref := f.ref - 1 }

/-- A management DMA transfer holds a frame that the MC is to read (R136). The hold lasts from the frame's delivery until the MC
has read it (log entry 69). -/
def State.holdDma (s : State) (h : Nat) : State := s.modFrame h (fun f => { f with ref := f.ref + 1 })

/-- The transfer has ended: its hold is released (R136). -/
def State.releaseDma (s : State) (h : Option Nat) : State :=
  match h with
  | some h => s.release h
  | none => s

/-- Releases the ingress hold once the last byte is written, or the frame was cut short or found bad at its end, and
its passes have ended (R136). -/
def State.tryRelease (s : State) (h : Nat) : State :=
  match s.frame h with
  | none => s
  | some f =>
    if f.ihold ∧ f.stage = .passed ∧ (f.written ∨ (f.bad ∧ (f.ended ∨ f.cut))) then
      (s.setFrame h { f with ihold := false }).release h
    else s

/-! ## Copies -/

/-- Port and queue number of an egress queue index. -/
def qPort (q : Nat) : Nat := q / 8
def qNum (q : Nat) : Nat := q % 8

/-- A copy of a frame is queued for, or in transmission on, a port. -/
def State.hasCopy (s : State) (h p : Nat) : Bool :=
  (List.range 8).any (fun i => (s.queue (8 * p + i)).any (fun c => c.frame == some h)) ||
  [2 * p, 2 * p + 1].any (fun m => match s.txAt m with
    | some t => t.copy.frame == some h
    | none => false)

/-- Ends a copy that is out of its queue: its PENDING bit and its hold (R136). -/
def State.endCopy (s : State) (q : Nat) (c : Copy) : State :=
  match c.frame with
  | none => s
  | some h =>
    let s := if q < 280 && !s.hasCopy h (qPort q) then
        s.modFrame h (fun f => { f with pendingMask := f.pendingMask &&& (2 ^ 35 - 1 - 2 ^ qPort q) })
      else s
    s.release h

/-- The bytes of a frame that a copy reads: from START, without the tags that recirculation removed, and without the
received FCS (R114, R149). -/
def frameBytes (f : Frame) (acf : Bool) : List Byte :=
  let b := if f.ended && !f.cut then f.bytes.take (f.bytes.length - 4) else f.bytes
  if acf then b.drop f.start else b.take 12 ++ b.drop (12 + f.start)
def State.frameView (s : State) (h : Nat) : List Byte :=
  match s.frame h with
  | none => []
  | some f => frameBytes f (s.info h).acf

/-- Egress editing of R149 over bytes without FCS. -/
def editBytes (e : Edit) (b : List Byte) : List Byte :=
  let rest := b.drop 12
  let r :=
    if e.tags = 0 then
      (if e.untag then b else b.take 12 ++ beBytes 2 0x8100 ++ beBytes 2 (e.pcp * 8192 + e.vid) ++ rest)
    else if e.untag then b.take 12 ++ rest.drop 4
    else b.take 12 ++ rest.take 2 ++ beBytes 2 (beAt rest 2 2 / 4096 * 4096 + e.vid) ++ rest.drop 4
  r ++ List.replicate (60 - r.length) 0

/-- Offset of the type field after at most three VLAN tags. -/
def afterTags (alt : Option Nat) (b : List Byte) : Nat → Nat → Nat
  | 0, off => off
  | n + 1, off =>
    let v := beAt b off 2
    if v = 0x8100 ∨ v = 0x88A8 ∨ alt = some v then afterTags alt b n (off + 4) else off

/-- PRS_TPID.ALT where enabled. -/
def State.altTpid (s : State) : Option Nat :=
  if s.flag F.PRS_TPID_ALT_EN then some (s.fld F.PRS_TPID_ALT) else none

/-- R-TAG insertion and removal (spec/06, R184 and R186). -/
def rtagBytes (alt : Option Nat) (num : Option Nat) (pop : Bool) (b : List Byte) : List Byte :=
  let o := afterTags alt b 3 12
  let has := beAt b o 2 = 0xF1C1
  let b := if pop && has then b.take o ++ b.drop (o + 6) else b
  match num with
  | none => b
  | some n =>
    if has && !pop then b.take (o + 4) ++ beBytes 2 n ++ b.drop (o + 6)
    else b.take o ++ beBytes 2 0xF1C1 ++ beBytes 2 0 ++ beBytes 2 n ++ b.drop o

/-- The crossing tag of R438: EtherType 0x88B5 with its 6 bytes; written by the pair logic's own layout. -/
def crossTag (l : List Nat) : List Byte := l.map (fun x => BitVec.ofNat 8 x)

/-- The bytes a copy transmits, without FCS (R149, R160, R184; spec/15, R439). -/
def State.copyBytes (s : State) (c : Copy) : List Byte :=
  match c.frame with
  | none => c.own
  | some h =>
    let b := s.frameView h
    let b := match c.edit with
      | some e => editBytes e b
      | none => b
    let b := rtagBytes s.altTpid c.rtag c.popRtag b
    match c.cross with
    | some t => b.take 12 ++ crossTag t ++ b.drop 12
    | none => b

/-- No further byte of a copy's frame is to come. -/
def State.copyWhole (s : State) (c : Copy) : Bool :=
  match c.frame with
  | none => true
  | some h => match s.frame h with
    | some f => f.ended || f.cut
    | none => true

/-- The longest frame that a shaper is charged for without SecTAG and ICV (spec/06, R177). -/
def longestFrame : Nat := 9216

/-- L of R188: the copy's length after egress editing and R-TAG insertion, with its FCS. The spec states no L for a
copy judged before its frame's end is known: it is Config's, within the bound of R177 (log entry 19). -/
def State.copyLen (s : State) (c : Copy) : Nat :=
  if s.copyWhole c then (s.copyBytes c).length + 4
  else match c.frame with
    | some h => Config.openLength h (match s.frame h with
        | some f => f.stamp
        | none => 0) % (longestFrame + 1)
    | none => 0

/-- Whether MACsec protects a frame that leaves a port (spec/10, R303). -/
def State.secApplies (s : State) (p : Nat) (b : List Byte) : Bool :=
  decide (p < 10) && s.flag (F.SEC_CFG_TX_EN p) && !(s.flag (F.SEC_CFG_BYPASS_PTP p) && beAt b 12 2 == 0x88F7)

/-- Bytes that SecTAG and ICV add to a frame on a port (spec/10, R307). -/
def State.secExtra (s : State) (p : Nat) (b : List Byte) : Nat :=
  if s.secApplies p b then (if s.flag (F.SEC_CFG_INCLUDE_SCI p) then 32 else 24) else 0

/-- L of R188 on a port, with the bytes MACsec adds (spec/10, R307). -/
def State.wireLen (s : State) (p : Nat) (c : Copy) : Nat := s.copyLen c + s.secExtra p (s.copyBytes c)

/-! ## Queues -/

/-- Cells a copy's frame holds as written (R154). -/
def State.copyCells (s : State) (c : Copy) : Nat :=
  match c.frame with
  | none => 0
  | some h => match s.frame h with
    | some f => cellsOf f.bytes.length
    | none => 0

/-- Cells of a queue: its queued copies and its copy in transmission (R154). -/
def State.queueCells (s : State) (q : Nat) : Nat :=
  (s.queue q).foldl (fun n c => n + s.copyCells c) 0 +
  [2 * qPort q, 2 * qPort q + 1].foldl (fun n m => match s.txAt m with
    | some t => if t.queue = q then n + s.copyCells t.copy else n
    | none => n) 0

/-- One advance of the Galois LFSR (R157). -/
def lfsrStep (x : Nat) : Nat := if x % 2 = 1 then Nat.xor (x / 2) 0x80200003 else x / 2

/-- The initial LFSR state of queue `n` (R157). -/
def lfsrInit (seed n : Nat) : Nat :=
  let v := Nat.xor (seed % 0x100000000) (0x9E3779B9 * (n + 1) % 0x100000000)
  if v = 0 then 1 else v

/-- WRED of R155 and R156 for a copy of a colour at queue `q`: whether it is kept, with AVG and the LFSR as they
become. -/
def State.wred (s : State) (q colour : Nat) : Bool × State :=
  let n := s.fld (F.QUE_WIN_CFG_WRED_PROFILE q)
  let x := s.qs q
  let avg := x.avg + ((((s.queueCells q * 256 : Nat) : Int) - x.avg) >>> s.fld (F.WRED_PARAM_W n))
  let a := (avg / 256).toNat
  let g := colour = 0
  let lo := if g then s.fld (F.WRED_G_THR_MIN n) else s.fld (F.WRED_Y_THR_MIN n)
  let hi := if g then s.fld (F.WRED_G_THR_MAX n) else s.fld (F.WRED_Y_THR_MAX n)
  let pm := min 256 (if g then s.fld (F.WRED_PARAM_G_PMAX n) else s.fld (F.WRED_PARAM_Y_PMAX n))
  if hi ≤ a then (false, s.setQs q { x with avg := avg })
  else if a < lo then (true, s.setQs q { x with avg := avg })
  else
    let l := lfsrStep (if x.lfsr = 0 then lfsrInit s.data.lfsrSeed q else x.lfsr)
    (!decide (l % 0x10000 * (hi - lo) < pm * (a - lo) * 256), (s.logDraw q).setQs q { x with avg := avg, lfsr := l })

/-- A copy becomes the head of a queue with start tag `st`: it is of the WFQ group where WEIGHT is not 0, and keeps the WEIGHT
it became head under (spec/06, R191, R192). -/
def State.headTag (s : State) (q st : Nat) : State :=
  if (s.queue q).isEmpty then s
  else
    let w := s.fld (F.SCH_QUE_CFG_WEIGHT q)
    s.setQs q { s.qs q with fin := if w = 0 then none else some (st, w) }

/-- The finish tag of a queue's head (spec/06, R191). -/
def State.finTag (s : State) (q : Nat) : Option Nat :=
  match s.queue q, (s.qs q).fin with
  | c :: _, some (st, w) => some ((st + s.wireLen (qPort q) c * 65536 / w) % 0x100000000)
  | _, _ => none

def State.vt (s : State) (p : Nat) : Nat := mapGet (fun _ => 0) s.data.vtime p

/-- Appends a node to a queue. -/
def State.pushCopy (s : State) (q : Nat) (c : Copy) : State :=
  let empty := (s.queue q).isEmpty
  let s := s.setQueue q (s.queue q ++ [c])
  if empty && decide (q < 280) then s.headTag q (s.vt (qPort q)) else s

/-- Takes the head of a queue; the next copy becomes the head, with the previous head's finish tag as its start tag
(spec/06, R191). A queue whose head had no tag joins the group as waking from empty (R192). -/
def State.popHead (s : State) (q : Nat) : State :=
  let fin := s.finTag q
  let s := s.setQueue q (s.queue q).tail
  if q < 280 then s.headTag q (fin.getD (s.vt (qPort q))) else s

/-- A queue of a port whose wake group sleeps, which admits no copy (spec/13, R356). -/
def State.sleepingQueue (s : State) (q : Nat) : Bool := decide (q < 272) && s.asleep (s.portGroup (qPort q))

/-- The admission checks of R154 in their order, after that of a sleeping port; a copy that fails one is counted. -/
def State.admitTo (s : State) (q colour : Nat) : Bool × State :=
  if s.sleepingQueue q then (false, s.inc (C.nm 11))
  else if (s.qs q).quar then (false, s.inc (C.buf 5))
  else if s.freeCells < s.fld F.BUF_CFG_LOW_WATER ∧ qNum q ≠ 7 ∧ qPort q ≠ 34 then (false, s.inc (C.buf 1))
  else if s.fld (F.QUE_WIN_CFG_MAX_CELLS q) ≤ s.queueCells q then (false, s.inc (C.buf 2))
  else
    let (keep, s) := if s.flag (F.QUE_WIN_CFG_WRED_EN q) then s.wred q colour else (true, s)
    if !keep then (false, s.inc (C.buf 3))
    else if nodeCount ≤ s.nodesUsed then (false, s.inc (C.buf 6))
    else (true, s)

/-- Enqueues a copy of a frame on a port and queue: admission, then its node, hold, PENDING bit and ENQ_US stamp
(R136, R150, R154, R158). -/
def State.enqueue (s : State) (p n : Nat) (c : Copy) : State :=
  match c.frame with
  | none => if s.sleepingQueue (8 * p + n) then s.inc (C.nm 11) else s.pushCopy (8 * p + n) { c with enqUs := s.usec }
  | some h =>
    match s.frame h with
    | none => s
    | some f =>
      let (ok, s) := s.admitTo (8 * p + n) f.colour
      if !ok then s
      else
        let s := s.modFrame h (fun f => { f with
          ref := f.ref + 1, pendingMask := f.pendingMask ||| 2 ^ p, queue := n, enqUs := s.usec })
        s.pushCopy (8 * p + n) { c with enqUs := s.usec }

/-- Enqueues a VOQ copy: VOQ `v` takes it below MAX_CELLS, else it is counted in VOQ_DROP (R151). -/
def State.enqueueVoq (s : State) (v : Nat) (c : Copy) : State :=
  match c.frame with
  | none => s
  | some h =>
    let q := 280 + v
    if (s.qs q).quar then s.inc (C.buf 5)
    else if s.fld F.VOQ_CFG_MAX_CELLS ≤ s.queueCells q then s.inc (C.buf 12)
    else if nodeCount ≤ s.nodesUsed then s.inc (C.buf 6)
    else (s.modFrame h (fun f => { f with ref := f.ref + 1, enqUs := s.usec })).pushCopy q { c with enqUs := s.usec }

/-- Removes from one queue the copies a test names, ending each. -/
def State.dropCopies (s : State) (q : Nat) (f : Copy → Bool) : State :=
  let out := (s.queue q).filter f
  if out.isEmpty then s
  else
    let headGone := match s.queue q with
      | c :: _ => f c
      | [] => false
    let fin := s.finTag q
    let s := s.setQueue q ((s.queue q).filter (fun c => !f c))
    let s := if headGone && decide (q < 280) then s.headTag q (fin.getD (s.vt (qPort q))) else s
    forEach out (fun c s => s.endCopy q c) s

/-- Keys of the queues that hold copies. -/
def State.busyQueues (s : State) : List Nat := s.data.queues.map (fun c => c.1)

/-! ## Bad frames (R76, R138, R160) -/

/-- Marks transmissions of a frame as stomped. -/
def State.stompTx (s : State) (h : Nat) : State :=
  { s with ports := { s.ports with tx := s.ports.tx.map (fun c => (c.1, c.2.map (fun t =>
      if t.copy.frame = some h then { t with stomp := true } else t))) } }

/-- A frame is found bad: copies not yet started are discarded, those started will end stomped, a pass it waits for is
not taken (R76, R138, R160). -/
def State.markBad (s : State) (h : Nat) : State :=
  match s.frame h with
  | none => s
  | some f =>
    if f.bad then s
    else
      let s := s.setFrame h { f with bad := true }
      let s := forEach s.busyQueues (fun q s => s.dropCopies q (fun c => c.frame == some h)) s
      let s := s.stompTx h
      let s := { s with data := { s.data with
        waiting := s.data.waiting.filter (fun k => k != h), recirc := s.data.recirc.filter (fun k => k != h),
        crossing := s.data.crossing.filter (fun k => k != h) } }
      let s := if f.ended || f.cut then s.modFrame h (fun f => { f with stage := .passed }) else s
      s.tryRelease h

/-- The bytes of a frame that arrive: they take cells as they are written, a frame that no pass admitted anywhere
takes none, and a cell that is not granted makes the frame bad (R133, R138). -/
def State.writeFrame (s : State) (h : Nat) (b : List Byte) : State :=
  match s.frame h with
  | none => s
  | some f =>
    if f.cut then s
    else
      let n := f.bytes.length + b.length
      let s' := s.setFrame h { f with bytes := f.bytes ++ b }
      if f.stage = .passed ∧ f.ref ≤ 1 then s'
      else
        let have' := max 1 (cellsOf f.bytes.length)
        match s'.growChain h (cellsOf n - have') with
        | (s', true) => s'
        | (s', false) =>
          let s' := s'.modFrame h (fun g => { g with
            bytes := g.bytes.take (128 * (s'.chain h chainFuel).length), cut := true })
          (s'.inc (C.buf 0)).markBad h

/-! ## Age (R158) -/

/-- AGE_LIMIT of a queue, or of the VOQs. -/
def State.ageLimit (s : State) (q : Nat) : Nat :=
  if q < 280 then s.fld (F.QUE_WIN_AGE_AGE_LIMIT q) else s.fld F.VOQ_AGE_AGE_LIMIT

/-- A copy is aged. -/
def State.aged (s : State) (q : Nat) (c : Copy) : Bool :=
  s.ageLimit q != 0 && decide (s.ageLimit q < (s.usec + 0x1000000 - c.enqUs) % 0x1000000)

/-- Discards aged copies from the head of a queue, at most `fuel`. -/
def State.ageHeads (s : State) (q : Nat) : Nat → State
  | 0 => s
  | fuel + 1 =>
    match s.queue q with
    | [] => s
    | c :: _ =>
      if s.aged q c then (((s.popHead q).endCopy q c).inc (C.buf 4)).ageHeads q fuel else s

/-! ## Uncorrectable errors (R162, R163) -/

/-- Quarantines a queue (R163, step 1). -/
def State.quarantine (s : State) (q : Nat) : State :=
  (s.setQs q { s.qs q with quar := true }).bufEvent 4 q

/-- The node list of a queue reads uncorrectable at its dequeue: the error is logged and counted, and the queue is quarantined
(R162, R163; spec/14, R391, code 0x11). -/
def State.badNodes (s : State) (q : Nat) : State :=
  (((((s.inc (C.saf 2)).safEvent 0x11 q).bufEvent 9 q).inc (C.buf 16))).quarantine q

/-- STATE of the `k`-th cell of a chain becomes 3. -/
def State.markCell (s : State) (h k : Nat) : State :=
  match (s.chain h chainFuel)[k]? with
  | none => s
  | some i => match (s.cell i).state with
    | .inChain => s.setCell i { s.cell i with state := .marked }
    | _ => s

/-- Index of the `k`-th cell of a chain. -/
def State.cellAt (s : State) (h k : Nat) : Nat := ((s.chain h chainFuel)[k]?).getD h

/-- The records of an error found while a copy of a frame is read (R162; spec/14, R391, code 0x11): logs, counters, and
the cell, link or descriptor it names; a node list is the scheduler's (`badNodes`). A free map word has no cause of BUF_QLOG
and no counter of R168's tables of its own, so it is logged in SAF_LOG and counted in SAF's counter only (DESIGN CHOICE: R162 has
each event entered in BUF_QLOG and counted and gives no code for this one; log entry 67). -/
def State.bufError (s : State) (h : Nat) (e : BufErr) : State :=
  let s := match e with
    | .none | .nodeList => s
    | _ => (s.inc (C.saf 2)).safEvent 0x11 h
  match e with
  | .none => s
  | .cellData k => ((s.bufEvent 1 (s.cellAt h k)).inc (C.buf 15)).markCell h k
  | .linkWord k =>
    ((s.bufEvent 2 (s.cellAt h k)).inc (C.buf 16)).modFrame h (fun f => { f with badLink := some k })
  | .descriptor => ((s.bufEvent 3 h).inc (C.buf 16)).modFrame h (fun f => { f with live := false })
  | .nodeList => s
  | .mapWord w =>
    let l := (List.range 32).map (fun i => 32 * w + i)
    forEach l (fun k s => if (s.cell k).state = .free then s.setCell k { s.cell k with map := false } else s) s

/-- What a read of a whole chain meets of the words found uncorrectable in it: the descriptor, a link word, or the first cell
of STATE 3 (R162). -/
def State.chainErr (s : State) (h : Nat) : BufErr :=
  match s.frame h with
  | none => .none
  | some f =>
    if !f.live then .descriptor
    else
      match f.badLink with
      | some k => .linkWord k
      | none =>
        match (s.chain h chainFuel).findIdx? (fun i => (s.cell i).state == .marked) with
        | some k => .cellData k
        | none => .none

/-- An error found by the management DMA transfer that reads a frame: it is recorded, the hold is released and the transfer is
counted in MGT_DMA_ERR (R162; spec/16, R471). -/
def State.dmaError (s : State) (h : Option Nat) (e : BufErr) : State :=
  (match h with
    | some h => (s.bufError h e).release h
    | none => s).inc (C.mgt 11)

/-- The error is one that a DMA transfer meets: cell data, a link word or the descriptor. -/
def stopsDma (e : BufErr) : Bool :=
  match e with
  | .cellData _ | .linkWord _ | .descriptor => true
  | .none | .nodeList | .mapWord _ => false

/-- The end of a quarantine (R163, steps 3 and 4). -/
def State.reclaim (s : State) (q : Nat) : State :=
  if !(s.qs q).quar then s
  else
    let nodes := s.queue q
    let s := s.setQueue q []
    let s := forEach nodes (fun c s => s.endCopy q c) s
    s.setQs q { s.qs q with quar := false }

/-! ## The audit (R164) -/

/-- What the audit does with one cell; `dirty` are the cells whose test patterns do not read back. -/
def State.auditCell (dirty : List Nat) (s : State) (k : Nat) : State :=
  let c := s.cell k
  let live := match s.frame c.head with
    | some f => f.live && decide (1 ≤ f.ref)
    | none => false
  match c.state with
  | .free => if c.map then s else (s.setCell k { c with map := true }).bufEvent 6 k
  | .quarantined =>
    let s := if c.map then (s.setCell k { c with map := false }).bufEvent 6 k else s
    if c.strike || dirty.contains k then s
    else (((s.setCell k { Cell.fresh with strike := true }).addFree 1).addQuar (-1)).bufEvent 8 k
  | .inChain =>
    if live then (if c.map then (s.setCell k { c with map := false }).bufEvent 6 k else s)
    else (((s.setCell k { Cell.fresh with strike := c.strike }).addFree 1).bufEvent 5 k).inc (C.buf 17)
  | .marked =>
    if live then (if c.map then (s.setCell k { c with map := false }).bufEvent 6 k else s)
    else (((s.setCell k ⟨0, false, 0, .quarantined, c.strike, false⟩).addQuar 1).bufEvent 5 k).inc (C.buf 17)

/-- What a reset that is neither a power-on nor a cold reset, or the end of all frames in a fatal fault, leaves of the cells
(R134, R164): quarantined cells stay quarantined, a cell marked for it becomes so, STRIKE stays; every other cell is free. -/
def keepCells (l : List (Nat × Cell)) : List (Nat × Cell) :=
  l.filterMap (fun c => match c.2.state with
    | .quarantined => some c
    | .marked => some (c.1, ⟨0, false, 0, .quarantined, c.2.strike, false⟩)
    | _ => if c.2.strike then some (c.1, { Cell.fresh with strike := true }) else none)

/-- The cells of the data plane are its kept ones only, and the counts agree with them. -/
def State.resetCells (s : State) (l : List (Nat × Cell)) : State :=
  let l := keepCells l
  let quar := (l.filter (fun c => c.2.state == .quarantined)).length
  ({ s with data := { s.data with cells := l } }.setFld F.BUF_STATUS_FREE_CELLS (cellCount - quar)).setFld F.BUF_AUDIT_QUAR_CELLS quar

/-- Free cells as the audit tallies them. -/
def State.tally (s : State) : Nat :=
  cellCount - (s.data.cells.filter (fun c => c.2.state != .free || !c.2.map)).length

end Sys2Proof.Machine
end

