-- ==== Sys2Proof/Machine/MacSec.lean ====
section
/-!
DEFINITION. The SecY of B and P ports: SecTAG, protection of transmitted frames, checks of received ones and the SA
entries (spec/10, R301 to R307, R310). SecTAG and initial vectors are laid out as IEEE 802.1AE-2018 has them
(PRESUMED, log entry 13); the cipher is Config's (log entry 4).
-/

namespace Sys2Proof.Machine

/-- The fields of a SecTAG. -/
structure SecTag where
  /-- bytes of the tag with its EtherType -/
  len : Nat
  an : Nat
  e : Bool
  c : Bool
  scb : Bool
  es : Bool
  ver : Bool
  sl : Nat
  /-- one of the two bits above SL is 1 -/
  slHigh : Bool
  pn : Nat
  sci : Option Nat
  deriving DecidableEq, Repr

/-- Reads the SecTAG of a frame, none where there is none. -/
def secTag (raw : List Byte) : Option SecTag :=
  if beAt raw 12 2 ≠ 0x88E5 then none
  else
    let t := beAt raw 14 1
    let sc := t.testBit 5
    some ⟨if sc then 16 else 8, t % 4, t.testBit 3, t.testBit 2, t.testBit 4, t.testBit 6, t.testBit 7, beAt raw 15 1 % 64,
      decide (64 ≤ beAt raw 15 1),      beAt raw 16 4, if sc then some (beAt raw 20 8) else none⟩

/-- The tag is invalid under 802.1AE for a frame of `n` bytes with FCS, or SCB is 1 (R305, row 2): a version other than 0, ES
with an explicit SCI, E without C, an SL of 48 or more or with a bit above it, a PN of 0 without XPN, or a length that does not
agree with SL, where an SL of 0 stands for data of 48 bytes or more (PRESUMED, log entry 13). -/
def SecTag.bad (t : SecTag) (n : Nat) (ended xpn : Bool) : Bool :=
  t.ver || (t.es && t.sci.isSome) || t.scb || (t.e && !t.c) || decide (48 ≤ t.sl) || t.slHigh || (t.pn == 0 && !xpn) ||
  (ended && decide (n < 12 + t.len + (if t.sl = 0 then 48 else t.sl) + 16 + 4))

/-! ## SA entries (R302) -/

def State.saSci (s : State) (p i : Nat) : Nat := s.pair (K.SEC_SA_SCI_LO p i) (K.SEC_SA_SCI_HI p i)
def State.saPn (s : State) (p i : Nat) : Nat := s.pair (K.SEC_SA_PN_LO p i) (K.SEC_SA_PN_HI p i)
def State.setSaPn (s : State) (p i v : Nat) : State := s.setPair (K.SEC_SA_PN_LO p i) (K.SEC_SA_PN_HI p i) v

/-- The promoted key of an SA's slot, [] where there is none (R306). -/
def State.saKey (s : State) (p i : Nat) : List Byte :=
  (s.slot (s.fld (F.SEC_SA_CFG_KEY_SLOT p i))).act

/-- The initial vector of a frame: SCI and PN, or for XPN the SALT exclusive-or SSCI and PN. -/
def State.saIv (s : State) (p i sci pn : Nat) : List Byte :=
  if s.flag (F.SEC_SA_CFG_XPN p i) then
    let salt := s.fld (F.SEC_SA_SALT0_VALUE p i) + 2 ^ 32 * s.fld (F.SEC_SA_SALT1_VALUE p i) + 2 ^ 64 * s.fld (F.SEC_SA_SALT2_VALUE p i)
    beBytes 12 (Nat.xor salt (s.fld (F.SEC_SA_SSCI_VALUE p i) * 2 ^ 64 + pn % 2 ^ 64))
  else beBytes 8 sci ++ beBytes 4 pn

/-! ## Reception (R305) -/

/-- What R305 makes of a frame. -/
inductive SecRx where
  /-- passed as it is -/
  | clear
  /-- discarded under a row of the table, which names its counter -/
  | drop (counter : Nat)
  /-- passed with SecTAG and ICV removed, with no SA found -/
  | stripped (t : SecTag)
  /-- judged by an SA entry with its recovered PN -/
  | sa (t : SecTag) (i pn : Nat)
  deriving DecidableEq, Repr

/-- What a reception keeps of the SecY's settings from its start (R306): the keys of the enabled receive SAs, where RX_EN is 1. -/
def State.rxKeys (s : State) (p : Nat) : List (Nat × List Byte) :=
  if 10 ≤ p ∨ !s.flag (F.SEC_CFG_RX_EN p) then []
  else (((List.range 28).map (fun k => k + 4)).filter (fun i => s.flag (F.SEC_SA_CFG_EN p i))).map (fun i => (i, s.saKey p i))

/-- A frame whose reception starts on a port. -/
def State.rxBegin (s : State) (p stamp count : Nat) (lost : Bool) : RxProg :=
  { head := none, raw := [], stamp := stamp, lost := lost, passed := false, count := count, frag := 0,
    cfg := if p < 10 then s.reg (K.SEC_CFG p) else 0, keys := s.rxKeys p }

/-- Fields of SEC_CFG that a reception started with. -/
def RxProg.rxEn (r : RxProg) : Bool := r.cfg.toNat.testBit 1
def RxProg.strict (r : RxProg) : Bool := r.cfg.toNat.testBit 3
def RxProg.bypassPtp (r : RxProg) : Bool := r.cfg.toNat.testBit 5
def RxProg.replay (r : RxProg) : Bool := r.cfg.toNat.testBit 6

/-- The promoted key that a reception uses under an SA, [] where there is none. -/
def RxProg.key (r : RxProg) (i : Nat) : List Byte := mapGet (fun _ => []) r.keys i

/-- The enabled receive SA of an SCI and AN: its slot holds a promoted key (R305, check 3; spec/11, R322). -/
def State.rxSa (s : State) (p : Nat) (r : RxProg) (sci an : Nat) : Option Nat :=
  (List.range 28).map (fun k => k + 4) |>.find? (fun i =>
    i % 4 == an && s.flag (F.SEC_SA_CFG_EN p i) && !(r.key i).isEmpty && s.saSci p i == sci)

/-- The PN of a tag under an SA: for XPN its upper half follows the lowest acceptable PN. -/
def State.recoverPn (s : State) (p i pn : Nat) : Nat :=
  if s.flag (F.SEC_SA_CFG_XPN p i) then
    let low := s.saPn p i
    let hi := low / 2 ^ 32
    (if low.testBit 31 && !pn.testBit 31 then hi + 1 else hi) * 2 ^ 32 + pn
  else pn

/-- The SCI of a received tag: implicit from the source address and port identifier 1 where SC is 0. -/
def SecTag.sciOf (t : SecTag) (raw : List Byte) : Nat := t.sci.getD (beAt raw 6 6 * 65536 + 1)

/-- The checks of R305 in their order up to the ICV, on the bytes received so far. -/
def State.secRx (s : State) (p : Nat) (r : RxProg) (ended : Bool) : SecRx :=
  match secTag r.raw with
  | none =>
    if r.bypassPtp && beAt r.raw 12 2 == 0x88F7 then .clear
    else if r.strict then .drop 1 else .clear
  | some t =>
    let sa := s.rxSa p r (t.sciOf r.raw) t.an
    if t.bad r.raw.length ended (sa.any (fun i => s.flag (F.SEC_SA_CFG_XPN p i))) then .drop 2
    else match sa with
      | none => if r.strict || t.e then .drop 3 else .stripped t
      | some i =>
        let pn := s.recoverPn p i t.pn
        if r.replay && decide (pn < s.saPn p i) then .drop 4 else .sa t i pn

/-- The secured data of a frame: its bytes between SecTAG and ICV, as far as they are known. -/
def SecTag.data (t : SecTag) (raw : List Byte) (ended : Bool) : List Byte :=
  let body := raw.drop (12 + t.len)
  if ended ∧ t.sl ≠ 0 then body.take t.sl else body.take (body.length - 20)

/-- The frame as the parser sees it: SecTAG and ICV removed, decrypted, with a correct FCS once it ended. -/
def State.secPlain (s : State) (p : Nat) (r : RxProg) (ended : Bool) (t : SecTag) (sa : Option (Nat × Nat)) : List Byte :=
  let d := t.data r.raw ended
  let d := match sa with
    | some (i, pn) => if t.e then gcmXor (r.key i) (s.saIv p i (t.sciOf r.raw) pn) d else d
    | none => d
  let b := r.raw.take 12 ++ d
  if ended then b ++ fcsBytes b else b

/-- The ICV of a received frame verifies: over the SecTAG and the data, as ciphertext or as additional data. -/
def State.icvGood (s : State) (p : Nat) (r : RxProg) (t : SecTag) (i pn : Nat) : Bool :=
  let d := t.data r.raw true
  let iv := s.saIv p i (t.sciOf r.raw) pn
  let hdr := r.raw.take (12 + t.len)
  let icv := slice r.raw (12 + t.len + d.length) 16
  icv == (if t.e then gcmIcv (r.key i) iv hdr d else gcmIcv (r.key i) iv (hdr ++ d) [])

/-- What a port's MAC hands to the parser of the bytes received so far (R305): none where the frame is discarded. -/
def State.secView (s : State) (p : Nat) (r : RxProg) (ended : Bool) : Option (List Byte) :=
  if 10 ≤ p ∨ !r.rxEn then some r.raw
  else if !ended ∧ r.raw.length < 48 then some []
  else match s.secRx p r ended with
    | .clear => some r.raw
    | .drop _ => none
    | .stripped t => some (s.secPlain p r ended t none)
    | .sa t i pn => some (s.secPlain p r ended t (some (i, pn)))

/-- The counters and PN of a received frame at its end, and whether its ICV makes it bad (R305). -/
def State.secEnd (s : State) (p : Nat) (r : RxProg) : Bool × State :=
  if 10 ≤ p ∨ !r.rxEn then (false, s)
  else match s.secRx p r true with
    | .clear => (false, if (secTag r.raw).isNone then s.inc (C.sec p 1) else s)
    | .drop k => (false, s.inc (C.sec p k))
    | .stripped _ => (false, s.inc (C.sec p 3))
    | .sa t i pn =>
      if s.icvGood p r t i pn then
        let low := pn + 1 - s.fld (F.SEC_REPLAY_REPLAY_WINDOW p)
        (false, (s.setSaPn p i (max (s.saPn p i) low)).inc (C.sec p 0))
      else (r.strict || t.e, s.inc (C.sec p 5))

/-! ## Transmission (R303, R304, R307) -/

/-- The TX_AN in effect on a port. -/
def State.txAn (s : State) (p : Nat) : Nat := mapGet (fun _ => 0) s.ports.txAn p

/-- A transmit SA can protect a frame (R304). -/
def State.saUsable (s : State) (p i : Nat) : Bool :=
  let pn := s.saPn p i
  s.flag (F.SEC_SA_CFG_EN p i) && !(s.saKey p i).isEmpty &&
    !(pn == 0 || (!s.flag (F.SEC_SA_CFG_XPN p i) && decide (2 ^ 32 ≤ pn)))

/-- The SA a frame that starts on a port takes: its PN is taken and incremented, with PN_WARN where it passes the
limit; none where the frame is not transmitted (R304). -/
def State.secTake (s : State) (p : Nat) : Option SecUse × State :=
  let i := s.txAn p
  if !s.saUsable p i then (none, (s.inc (C.sec p 8)).setFld (F.SEC_STATUS_TX_STALLED p) 1)
  else
    let pn := s.saPn p i
    let sci := s.pair (K.SEC_TX_SCI_LO p) (K.SEC_TX_SCI_HI p)
    let lim := if s.flag (F.SEC_SA_CFG_XPN p i) then 0xC000000000000000 else 0xC0000000
    let u : SecUse := ⟨s.saKey p i, s.saIv p i sci pn, i, pn,
      if s.flag (F.SEC_CFG_INCLUDE_SCI p) then some sci else none, s.flag (F.SEC_CFG_TX_CONF p)⟩
    let s := s.setSaPn p i ((pn + 1) % 2 ^ 64)
    (some u, if pn ≤ lim ∧ lim < pn + 1 then s.raiseFlag (F.SEC_STATUS_PN_WARN p) (beBytes 1 p) else s)

/-- A frame without FCS as its SA protects it: SecTAG, data and ICV (R303). -/
def secSeal (u : SecUse) (b : List Byte) : List Byte :=
  let d := b.drop 12
  let tci := (if u.sci.isSome then 0x20 else 0) + (if u.conf then 0x0C else 0) + u.an
  let hdr := b.take 12 ++ beBytes 2 0x88E5 ++ beBytes 1 tci ++ beBytes 1 (if d.length < 48 then d.length else 0) ++
    beBytes 4 (u.pn % 2 ^ 32) ++ (match u.sci with
      | some c => beBytes 8 c
      | none => [])
  let text := if u.conf then gcmXor u.key u.iv d else d
  hdr ++ text ++ (if u.conf then gcmIcv u.key u.iv hdr text else gcmIcv u.key u.iv (hdr ++ d) [])

/-- A TX_AN written takes effect at the frame boundary; a usable SA ends the stall (R303, R304). -/
def State.applyTxAn (s : State) (p : Nat) : State :=
  let an := s.fld (F.SEC_CFG_TX_AN p)
  let s := { s with ports := { s.ports with txAn := mapSet (fun _ => 0) s.ports.txAn p an } }
  if s.saUsable p an then s.setFld (F.SEC_STATUS_TX_STALLED p) 0 else s

/-! ## The SA entry commit (R310) -/

/-- The registers of an SA entry, in the order of their commit. -/
def saKeysOf (p i : Nat) : List Nat :=
  [K.SEC_SA_SCI_LO p i, K.SEC_SA_SCI_HI p i, K.SEC_SA_PN_LO p i, K.SEC_SA_PN_HI p i, K.SEC_SA_SALT0 p i, K.SEC_SA_SALT1 p i,
    K.SEC_SA_SALT2 p i, K.SEC_SA_SSCI p i, K.SEC_SA_CFG p i]

/-- An SA entry takes its words. -/
def State.putSa (s : State) (p i : Nat) (words : List Word) : State :=
  forEach ((saKeysOf p i).zip words) (fun c s => s.setReg c.1 c.2) s

/-- A frame is in reception on one of a port's MACs. -/
def State.receiving (s : State) (p : Nat) : Bool := (s.rxAt (2 * p)).isSome || (s.rxAt (2 * p + 1)).isSome

/-- The write of SEC_SA_CFG commits the entry between two frames: the held words and the word written. A transmit entry
(0 to 3) was read when a frame started; a receive entry waits for the end of the frames in reception. -/
def State.commitSa (s : State) (p i : Nat) (w : Word) : State :=
  let words := ((saKeysOf p i).dropLast).map s.heldOr ++ [w &&& 0xFFE00000]
  let s := forEach (saKeysOf p i) (fun k s => s.unhold k) s
  if 4 ≤ i ∧ s.receiving p then
    { s with ports := { s.ports with saWait := mapSet (fun _ => []) s.ports.saWait (32 * p + i) words } }
  else s.putSa p i words

/-- Between two frames: entries of a port that wait are committed. -/
def State.applySaWait (s : State) (p : Nat) : State :=
  if s.receiving p ∨ s.ports.saWait = [] then s
  else
    let mine := s.ports.saWait.filter (fun c => c.1 / 32 == p)
    let s := { s with ports := { s.ports with saWait := s.ports.saWait.filter (fun c => c.1 / 32 != p) } }
    forEach mine (fun c s => s.putSa p (c.1 % 32) c.2) s

end Sys2Proof.Machine
end

