-- ==== Sys2Proof/Machine/Parser.lean ====
section
/-!
DEFINITION. The parser: the header walk with its limits and parse status, and the key (spec/04, R97 to R105, R117,
R542). The layouts of the protocols' own headers are IEEE's and the IETF's (PRESUMED, log entry 13).
-/

namespace Sys2Proof.Machine

/-- What the parser reads of a pass: its bytes as far as they are readable, from the first byte of the pass; how many bytes the
pass has up to the FCS where all of them are read, which tells a header cut by the frame's end (R99, R542); and the same
where the frame's end was written by the parse window, for the checks of R102 that need it (R104). -/
structure PassBytes where
  bytes : List Byte
  whole : Option Nat
  total : Option Nat
  deriving DecidableEq, Repr

/-- The parser in a walk. -/
structure Prs where
  /-- offset of the next byte from the start of the pass -/
  off : Nat
  w : Walk
  /-- the walk has ended -/
  stop : Bool
  /-- end of the IP payload, and the packet is a later fragment or any fragment -/
  ipEnd : Nat
  frag : Nat
  deriving DecidableEq, Repr

/-- Whether a header of a size can be walked (R99, R101, R542). -/
inductive Fit where
  | fits | deep | cut
  deriving DecidableEq, Repr

/-- A header of `n` bytes at `off`: past the frame's end it is a contradiction, past the 256 bytes, or past the bytes
readable at the parse window, it is DEEP (the latter: log entry 14). -/
def PassBytes.fit (b : PassBytes) (off n : Nat) : Fit :=
  match b.whole with
  | some t => if t < off + n then .cut else if 256 < off + n || b.bytes.length < off + n then .deep else .fits
  | none => if 256 < off + n || b.bytes.length < off + n then .deep else .fits

/-- Puts a field into the key at its lowest bit. -/
def Prs.put (p : Prs) (lo v : Nat) : Prs := { p with w := { p.w with key := p.w.key ||| v <<< lo } }

/-- Marks a header as walked: its HDR_SEEN bit, and the bytes it takes. -/
def Prs.seen (p : Prs) (bit n : Nat) : Prs :=
  { p with off := p.off + n, w := { p.w with hdrSeen := p.w.hdrSeen ||| 1 <<< bit } }

/-- Ends the walk. -/
def Prs.halt (p : Prs) : Prs := { p with stop := true }

/-- Ends the walk with a contradiction (R102). -/
def Prs.contradict (p : Prs) : Prs := { p with stop := true, w := { p.w with status := .inconsistent } }

/-- Ends the walk where a check finds a contradiction. -/
def Prs.check (p : Prs) (bad : Bool) : Prs := if bad then p.contradict else p

/-- Ends the walk before a header that does not fit (R101, R542). -/
def Prs.noFit (p : Prs) (f : Fit) : Prs :=
  match f with
  | .cut => p.contradict
  | _ => { p with stop := true, w := { p.w with status := if p.w.status = .ok then .deep else p.w.status } }

/-- Walks a header of `n` bytes with a HDR_SEEN bit, then continues; else stops before it. -/
def Prs.take (p : Prs) (b : PassBytes) (bit n : Nat) (k : Prs → Prs) : Prs :=
  if p.stop then p
  else match b.fit p.off n with
    | .fits => k (p.seen bit n)
    | f => p.noFit f

/-- The frame's end is known and lies before byte `n` of the pass. -/
def PassBytes.beyond (b : PassBytes) (n : Nat) : Bool :=
  match b.total with
  | some t => t < n
  | none => false

/-- Source port, destination port and the like of UDP (R97 6a, R102). -/
def walkUdp (b : PassBytes) (cport : Option Nat) (p : Prs) : Prs :=
  let o := p.off
  p.take b 7 8 fun p =>
    let len := beAt b.bytes (o + 4) 2
    let dst := beAt b.bytes (o + 2) 2
    let p := (p.put 511 (beAt b.bytes o 2)).put 527 dst
    let p := p.check (len < 8 || (p.frag == 0 && len != p.ipEnd - o))
    if p.stop || cport != some dst then p.halt
    else
      let c := p.off
      p.take b 12 8 fun p =>
        let n := beAt b.bytes (c + 4) 4
        let p := (p.put 591 (beAt b.bytes c 4)).put 559 n
        let p := { p with w := { p.w with contOff := c, contEnd := o + len } }
        (p.check (o + len < c + 8 + n)).halt

/-- TCP (R97 6b, R102). -/
def walkTcp (b : PassBytes) (p : Prs) : Prs :=
  let o := p.off
  match b.fit o 13 with
  | .fits =>
    let d := bits (beAt b.bytes (o + 12) 1) 7 4
    p.take b 8 (if d < 5 then 20 else d * 4) fun p =>
      let p := ((p.put 511 (beAt b.bytes o 2)).put 527 (beAt b.bytes (o + 2) 2)).put 543 (beAt b.bytes (o + 12) 2 % 512)
      (p.check (d < 5 || p.ipEnd < o + d * 4)).halt
  | f => p.noFit f

/-- ICMP and ICMPv6 (R97 6c). -/
def walkIcmp (b : PassBytes) (p : Prs) : Prs :=
  let o := p.off
  p.take b 9 4 fun p => (p.put 543 (beAt b.bytes o 2)).halt

/-- The header after IP, by its protocol (R97 rows 6a to 6c): only in a first fragment or an unfragmented packet. -/
def walkL4 (b : PassBytes) (cport : Option Nat) (icmp proto : Nat) (p : Prs) : Prs :=
  if p.stop || p.frag = 2 then p.halt
  else if proto = 17 then walkUdp b cport p
  else if proto = 6 then walkTcp b p
  else if proto = icmp then walkIcmp b p
  else p.halt

/-- IPv4, from its type field (R97 4f, R102). -/
def walkIpv4 (b : PassBytes) (cport : Option Nat) (p : Prs) : Prs :=
  let o := p.off + 2
  match b.fit p.off 3 with
  | .fits =>
    let ihl := beAt b.bytes o 1 % 16
    let size := if ihl < 5 then 20 else ihl * 4
    p.take b 4 (2 + size) fun p =>
      let tl := beAt b.bytes (o + 2) 2
      let tos := beAt b.bytes (o + 1) 1
      let fl := beAt b.bytes (o + 6) 2
      let frag := if fl % 0x2000 ≠ 0 then 2 else if fl.testBit 13 then 1 else 0
      let proto := beAt b.bytes (o + 9) 1
      let p := ((((((p.put 206 (beAt b.bytes (o + 12) 4)).put 334 (beAt b.bytes (o + 16) 4)).put 462 proto).put 470
        (tos / 4)).put 476 (tos % 4)).put 478 (beAt b.bytes (o + 8) 1)).put 486 frag
      let p := { p with ipEnd := o + tl, frag := frag }
      walkL4 b cport 1 proto (p.check (ihl < 5 || tl < size || b.beyond (o + tl)))
  | f => p.noFit f

/-- IPv6 extension headers, at most four (R97 row 5, R99, R102). `n` were walked, `fuel` may be. -/
def walkExt (b : PassBytes) (cport : Option Nat) (fuel n next : Nat) (p : Prs) : Prs :=
  if p.stop then p
  else if next = 0 ∨ next = 43 ∨ next = 44 ∨ next = 60 then
    match fuel with
    | 0 => (((p.put 488 n).put 462 next).put 486 p.frag).noFit .deep
    | fuel + 1 =>
      let o := p.off
      match b.fit o 2 with
      | .fits =>
        let size := if next = 44 then 8 else (beAt b.bytes (o + 1) 1 + 1) * 8
        let q := p.take b 6 size fun p =>
          let fl := beAt b.bytes (o + 2) 2
          let frag := if next ≠ 44 then p.frag else if fl / 8 ≠ 0 then 2 else if fl % 2 = 1 then 1 else 0
          { p with frag := frag }.check (p.ipEnd < p.off)
        if q.off = o then ((q.put 488 n).put 462 next).put 486 p.frag
        else if q.stop then ((q.put 488 (n + 1)).put 462 (beAt b.bytes o 1)).put 486 q.frag
        else walkExt b cport fuel (n + 1) (beAt b.bytes o 1) q
      | f => (((p.put 488 n).put 462 next).put 486 p.frag).noFit f
  else walkL4 b cport 58 next (((p.put 488 n).put 462 next).put 486 p.frag)

/-- IPv6, from its type field (R97 4g, R102). -/
def walkIpv6 (b : PassBytes) (cport : Option Nat) (p : Prs) : Prs :=
  let o := p.off + 2
  p.take b 5 42 fun p =>
    let v := beAt b.bytes o 4
    let pl := beAt b.bytes (o + 4) 2
    let next := beAt b.bytes (o + 6) 1
    let p := (((((p.put 206 (beAt b.bytes (o + 8) 16)).put 334 (beAt b.bytes (o + 24) 16)).put 470
      (bits v 27 22)).put 476 (bits v 21 20)).put 478 (beAt b.bytes (o + 7) 1)).put 491 (v % 0x100000)
    let p := { p with ipEnd := o + 40 + pl }
    let p := p.check (b.beyond (o + 40 + pl))
    if p.stop then p.put 462 next else walkExt b cport 4 0 next p

/-- ARP for Ethernet and IPv4 (R97 4b). -/
def walkArp (b : PassBytes) (p : Prs) : Prs :=
  let o := p.off + 2
  p.take b 14 30 fun p =>
    (((p.put 543 (beAt b.bytes (o + 6) 2)).put 591 (beAt b.bytes (o + 14) 4)).put 559 (beAt b.bytes (o + 24) 4)).halt

/-- IEEE 1722 AVTP (R97 4e, R102): subtype 0x82 is NTSCF, 0x05 TSCF. Of another subtype only 4 bytes are walked, and APP stays 0
though sv be 1 (DESIGN CHOICE: R105 puts the stream_id there, which lies past what R97 walks; log entry 67). -/
def walkAvtp (b : PassBytes) (p : Prs) : Prs :=
  let o := p.off + 2
  match b.fit p.off 3 with
  | .fits =>
    let st := beAt b.bytes o 1
    let size := if st = 0x82 then 12 else if st = 0x05 then 24 else 4
    p.take b 10 (2 + size) fun p =>
      let f := beAt b.bytes (o + 1) 1
      let p := p.put 543 (st * 256 + f / 128 * 128 + bits f 6 4 * 16)
      if size = 4 then p.halt
      else
        let p := if f.testBit 7 then p.put 559 (beAt b.bytes (o + 4) 8) else p
        let n := if size = 12 then beAt b.bytes (o + 1) 2 % 2048 else beAt b.bytes (o + 20) 2
        let p := { p with w := { p.w with avtp := true, acfOff := o + size, acfLen := n } }
        (p.check (b.beyond (o + size + n))).halt
  | f => p.noFit f

/-- MACsec SecTAG reaching the parser (R97 4c): 16 bytes with an SCI, else 8. -/
def walkSecTag (b : PassBytes) (p : Prs) : Prs :=
  match b.fit p.off 3 with
  | .fits => p.take b 3 (if (beAt b.bytes (p.off + 2) 1).testBit 5 then 16 else 8) Prs.halt
  | f => p.noFit f

/-- The type/length field of row 4a (R97, R102). -/
def walkLength (b : PassBytes) (v : Nat) (p : Prs) : Prs :=
  let o := p.off
  p.take b 1 2 fun p =>
    let badLen := match b.total with
      | some t => t < o + 2 + v || (o + 2 + v < t && 64 < t + 4)
      | none => false
    (p.check (0x5DD ≤ v || badLen)).halt

/-- The header that a type/length value selects (R97 rows 4a to 4g). ETHERTYPE is the value after the last tag or R-TAG walked,
also where the next tag was not walked and where the header it selects does not fit (R105; the latter: DESIGN CHOICE, as R542
keeps the fields of that header out of the key and ETHERTYPE is of no header; log entry 67). -/
def walkType (b : PassBytes) (cport : Option Nat) (p : Prs) : Prs :=
  if p.stop then (if p.w.hdrSeen.testBit 0 && decide (p.off + 2 ≤ b.bytes.length) then p.put 134 (beAt b.bytes p.off 2) else p)
  else if b.bytes.length < p.off + 2 then
    (match b.whole with
      | some t => if t < p.off + 2 then p.halt else p.noFit .deep
      | none => p.noFit .deep)
  else
    let v := beAt b.bytes p.off 2
    let p := p.put 134 v
    if v < 0x600 then walkLength b v p
    else if v = 0x0806 then walkArp b p
    else if v = 0x88E5 then walkSecTag b p
    else if v = 0x88B5 then
      let o := p.off + 2
      p.take b 13 10 fun p => (p.put 559 (beAt b.bytes o 8)).halt
    else if v = 0x22F0 then walkAvtp b p
    else if v = 0x0800 then walkIpv4 b cport p
    else if v = 0x86DD then walkIpv6 b cport p
    else p.halt

/-- The R-TAG (R97 row 3), where the next type is 0xF1C1. -/
def walkRtag (b : PassBytes) (p : Prs) : Prs :=
  if p.stop ∨ b.bytes.length < p.off + 2 ∨ beAt b.bytes p.off 2 ≠ 0xF1C1 then p
  else
    let o := p.off
    p.take b 2 6 fun p => { p with w := { p.w with rtag := some (beAt b.bytes (o + 4) 2), rtagOff := o } }

/-- TPID_SEL of a TPID, where it is one (R97 row 2, R105). -/
def tpidSel (alt : Option Nat) (v : Nat) : Option Nat :=
  if v = 0x8100 then some 0 else if v = 0x88A8 then some 1 else if alt = some v then some 2 else none

/-- VLAN tags, at most three (R97 row 2, R99): `n` were walked, `fuel` may be. -/
def walkTags (b : PassBytes) (alt : Option Nat) (fuel n : Nat) (p : Prs) : Prs :=
  if p.stop ∨ b.bytes.length < p.off + 2 then p
  else match tpidSel alt (beAt b.bytes p.off 2) with
    | none => p
    | some sel =>
      match fuel with
      | 0 => p.noFit .deep
      | fuel + 1 =>
        match b.fit p.off 4 with
        | .fits =>
          let tci := beAt b.bytes (p.off + 2) 2
          let p := ((((p.put (152 + 18 * n) (tci % 4096)).put (164 + 18 * n) (bits tci 12 12)).put (165 + 18 * n)
            (tci / 8192)).put (168 + 18 * n) sel)
          walkTags b alt fuel (n + 1) { p with off := p.off + 4, w := { p.w with tagCount := n + 1 } }
        | f => p.noFit f

/-- What the parser takes from registers: PRS_TPID.ALT and PRS_UDP.CONTAINER_PORT where enabled (R97). -/
structure PrsCfg where
  alt : Option Nat
  cport : Option Nat
  deriving DecidableEq, Repr

/-- The parser at the start of a pass. -/
def Prs.start : Prs := ⟨0, .empty, false, 0, 0⟩

/-- The walk of a pass that starts at the Ethernet MAC header. -/
def walkEthernet (c : PrsCfg) (b : PassBytes) : Prs :=
  let p := Prs.start.take b 0 12 fun p => (p.put 38 (beAt b.bytes 0 6)).put 86 (beAt b.bytes 6 6)
  walkType b c.cport (walkRtag b (walkTags b c.alt 3 0 p))

/-- The ACF messages after the first, each against its row of R102 (R117): `left` bytes remain. -/
def acfBad (bytes : List Byte) (fuel off left : Nat) : Bool :=
  match fuel with
  | 0 => false
  | fuel + 1 =>
    if left = 0 ∨ bytes.length < off + 2 then false
    else
      let n := beAt bytes off 2 % 512 * 4
      if n = 0 ∨ left < n then true else acfBad bytes fuel (off + n) (left - n)

/-- Most ACF messages of a frame of 9,216 bytes: each takes at least 4. -/
def acfMax : Nat := 2304

/-- The walk of a second pass in AVTP_ACF mode (R97 row 8, R117); `all` are the pass's bytes that the check of the later messages
may read. -/
def walkAcf (b : PassBytes) (all : List Byte) (len : Nat) : Prs :=
  let p := Prs.start
  match b.fit 0 2 with
  | .fits =>
    let ty := beAt b.bytes 0 1 / 2
    let n := beAt b.bytes 0 2 % 512 * 4
    let size := if ty = 1 then 16 else if ty = 2 then 8 else 2
    p.take b 11 size fun p =>
      let fl := beAt b.bytes 2 1
      let id := if ty = 1 then beAt b.bytes 12 4 % 0x20000000 else beAt b.bytes 4 4 % 0x20000000
      let p := p.put 543 (ty * 512)
      let p := if ty = 1 ∨ ty = 2 then
          p.put 559 (id + (bits fl 3 3) <<< 29 + (bits fl 4 4) <<< 30 + (bits fl 1 1) <<< 31 + (bits fl 2 2) <<< 32 +
            (bits fl 0 0) <<< 33 + (beAt b.bytes 3 1 % 32) <<< 34)
        else p
      (p.check (n = 0 || len < n || acfBad all acfMax n (len - n))).halt
  | f => p.noFit f

/-- The key of a walk, with the fields that no header gives (R105). -/
def walkKey (p : Prs) (second : Bool) (port zone metaByte : Nat) : Walk :=
  let st := match p.w.status with | .ok => 0 | .deep => 1 | .inconsistent => 2
  { p.w with key := p.w.key ||| b2n second ||| st <<< 1 ||| port <<< 3 ||| zone <<< 10 ||| metaByte <<< 14 |||
      p.w.hdrSeen <<< 22 ||| p.w.tagCount <<< 150 }

/-- Reads a field of a key by its bits. -/
def Walk.f (w : Walk) (hi lo : Nat) : Nat := bits w.key hi lo

/-- DA, SA and ETHERTYPE of a walk. -/
def Walk.da (w : Walk) : Nat := w.f 85 38
def Walk.sa (w : Walk) : Nat := w.f 133 86
def Walk.ethertype (w : Walk) : Nat := w.f 149 134

end Sys2Proof.Machine
end

