-- ==== Sys2Proof/Machine/Classifier.lean ====
section
/-!
DEFINITION. The classifier: TCAM, action words, default actions, the window and its rejections, and rule generations
(spec/04, R106 to R113, R118 to R124, R131).
-/

namespace Sys2Proof.Machine

/-! ## TCAM -/

/-- An entry nothing has written: undefined but for VALID 0 (R130). -/
def tcamFresh (i : Nat) : TcamEntry :=
  { key := (List.range 20).map (fun j => if j = 19 then Config.tcamKey i j &&& 0x7FFF else Config.tcamKey i j)
    mask := (List.range 20).map (fun j => if j = 19 then Config.tcamMask i j &&& 0x7FFF else Config.tcamMask i j)
    act := (List.range 3).map (fun j => if j = 2 then Config.tcamAct i j &&& 0x1FFFF else Config.tcamAct i j)
    gen := 0, valid := false, hit := 0 }

def State.tcamAt (s : State) (i : Nat) : TcamEntry := (mapGet (fun _ => none) s.data.tcam i).getD (tcamFresh i)
def State.setTcam (s : State) (i : Nat) (e : TcamEntry) : State :=
  { s with data := { s.data with tcam := mapSet (fun _ => none) s.data.tcam i (some e) } }

/-- The number whose 32-bit words are given, lowest first. -/
def wordsNat : List Word → Nat
  | [] => 0
  | w :: r => w.toNat + 0x100000000 * wordsNat r

/-- An entry matches a key of a generation (R106). -/
def TcamEntry.hits (e : TcamEntry) (key gen : Nat) : Bool :=
  e.valid && e.gen.testBit gen && Nat.land (Nat.xor key (wordsNat e.key)) (wordsNat e.mask) == 0

/-- The lowest matching entry (R107). -/
def State.tcamLookup (s : State) (key gen : Nat) : Option Nat :=
  (s.data.tcam.find? (fun c => match c.2 with
    | some e => e.hits key gen
    | none => false)).map (fun c => c.1)

/-! ## Action words (R108, R109) -/

/-- Fields of an action word. -/
def A.disposition (a : Nat) : Nat := bits a 2 0
def A.dest (a : Nat) : Nat := bits a 9 3
def A.copyMgt (a : Nat) : Bool := bitOf a 10
def A.mirrorEn (a : Nat) : Bool := bitOf a 11
def A.mirrorPort (a : Nat) : Nat := bits a 18 12
def A.queueEn (a : Nat) : Bool := bitOf a 19
def A.queue (a : Nat) : Nat := bits a 22 20
def A.colour (a : Nat) : Nat := bits a 24 23
def A.ctDis (a : Nat) : Bool := bitOf a 25
def A.zoneEn (a : Nat) : Bool := bitOf a 26
def A.zone (a : Nat) : Nat := bits a 30 27
def A.streamEn (a : Nat) : Bool := bitOf a 31
def A.stream (a : Nat) : Nat := bits a 43 32
def A.seqFn (a : Nat) : Nat := bits a 45 44
def A.frer (a : Nat) : Nat := bits a 55 46
def A.metaByte (a : Nat) : Nat := bits a 63 56
def A.vidEn (a : Nat) : Bool := bitOf a 64
def A.vid (a : Nat) : Nat := bits a 76 65
def A.recMode (a : Nat) : Nat := bits a 78 77
def A.popTags (a : Nat) : Nat := bits a 80 79

/-- The stake image configures joined pairing (R25, R446). -/
def State.joinedCfg (s : State) : Bool := s.fld F.PAIR_CFG_MODE == 2

/-- A port index that a field may carry (R25): a local port, a partner port in joined pairing, or 127, "no port". -/
def State.portValid (s : State) (d : Nat) : Bool :=
  decide (d < 35) || (s.joinedCfg && decide (64 ≤ d) && decide (d < 99)) || d == 127

/-- The conditions of R109 that no frame decides. -/
def State.actStatic (s : State) (a : Nat) : Bool :=
  bits a 95 81 != 0 || A.colour a == 3 || A.seqFn a == 3 ||
  (A.disposition a == 5 && !s.portValid (A.dest a)) || (A.mirrorEn a && !s.portValid (A.mirrorPort a)) ||
  (A.vidEn a && (A.vid a == 0 || A.vid a == 4095)) ||
  (A.disposition a == 6 && decide (2 ≤ A.recMode a)) ||
  (A.disposition a == 6 && A.recMode a == 0 && A.popTags a == 0)

/-- An action word is invalid for a frame (R109). -/
def State.actInvalid (s : State) (a : Nat) (w : Walk) : Bool :=
  s.actStatic a ||
  (A.disposition a == 7 && !(w.hdrSeen.testBit 11) && !(w.hdrSeen.testBit 12)) ||
  (A.disposition a == 6 && A.recMode a == 0 && decide (w.tagCount < A.popTags a)) ||
  (A.disposition a == 6 && A.recMode a == 1 && !w.avtp)

/-- What a pass's lookup decides: an action word, or a default action (R113). -/
inductive Verdict where
  | act (a : Nat)
  | dflt (d : Nat)
  deriving DecidableEq, Repr

/-- The default action for parse errors (R113), as R116 applies it to a third pass. -/
def State.parseErrDefault (s : State) (port : Nat) : Nat := s.fld (F.PRS_PORT_DEFAULT_PARSEERR port)

/-- The lookup of a pass: the hit counter of the entry, an invalid action is DROP and counted, a miss takes the
ingress port's default (R107, R109, R113). -/
def State.classify (s : State) (w : Walk) (gen port : Nat) : Verdict × State :=
  match s.tcamLookup w.key gen with
  | some i =>
    let e := s.tcamAt i
    let s := s.setTcam i { e with hit := e.hit + 1 }
    let a := wordsNat e.act
    if s.actInvalid a w then (.dflt 0, s.inc (C.cls 5)) else (.act a, s)
  | none =>
    if w.status = .ok then (.dflt (s.fld (F.PRS_PORT_DEFAULT_NOMATCH port)), s.inc (C.cls 3))
    else (.dflt (s.parseErrDefault port), s.inc (C.cls 4))

/-- Counts the status of a pass (R132). -/
def State.countStatus (s : State) (st : ParseStatus) : State :=
  match st with
  | .ok => s
  | .deep => s.inc (C.cls 0)
  | .inconsistent => s.inc (C.cls 1)

/-! ## The window (R118, R119, R124) -/

def State.clsIndex (s : State) : Nat := s.fld F.CLS_WIN_INDEX_INDEX

/-- The generation that retires, where one does. -/
def State.retiring (s : State) : Option Nat :=
  if s.flag F.CLS_GEN_RETIRING then some (1 - s.fld F.CLS_GEN_ACTIVE) else none

/-- A masked change of a word. -/
def maskWord (old mask data : Word) : Word := (old &&& ~~~ mask) ||| (data &&& mask)

/-- Writes word `j` of the window's entry: KEY (0 to 19), MASK (20 to 39) or ACT (40 to 42); ignored with LIVE_WRITE
while VALID is 1 (R118). Reserved bits of the last words stay 0 (R130). -/
def State.clsWriteWord (s : State) (j : Nat) (mask data : Word) : State :=
  let i := s.clsIndex
  let e := s.tcamAt i
  if e.valid then s.raiseFlag F.CLS_STATUS_LIVE_WRITE (beBytes 2 i)
  else if j < 20 then
    let m := if j = 19 then mask &&& 0x7FFF else mask
    s.setTcam i { e with key := e.key.set j (maskWord (e.key.getD j 0) m data) }
  else if j < 40 then
    let m := if j = 39 then mask &&& 0x7FFF else mask
    s.setTcam i { e with mask := e.mask.set (j - 20) (maskWord (e.mask.getD (j - 20) 0) m data) }
  else
    let m := if j = 42 then mask &&& 0x1FFFF else mask
    s.setTcam i { e with act := e.act.set (j - 40) (maskWord (e.act.getD (j - 40) 0) m data) }

/-- Writes CLS_WIN_CTRL: GEN and VALID change in one cycle, unless the retiring generation forbids it; VALID going to
1 sets the hit counter to 0 (R118, R124, R131; for an entry made valid see log entry 15). -/
def State.clsWriteCtrl (s : State) (mask data : Word) : State :=
  let i := s.clsIndex
  let e := s.tcamAt i
  let old : Word := BitVec.ofNat 32 (b2n e.valid + 2 * e.gen)
  let w := maskWord old mask data
  let valid := w.toNat.testBit 0
  let gen := wordBits w 2 1
  let reject := match s.retiring with
    | none => false
    | some r => (e.valid && e.gen.testBit r) != (valid && gen.testBit r)
  if reject then s.raiseFlag F.CLS_STATUS_RETIRE_REJECT (beBytes 2 i)
  else s.setTcam i { e with gen := gen, valid := valid, hit := if valid && !e.valid then 0 else e.hit }

/-! ## Rule generations (R121 to R123) -/

/-- A frame stamped with a generation awaits its second lookup. -/
def State.awaits (s : State) (gen : Nat) : Bool :=
  s.data.recirc.any (fun h => match s.frame h with
    | some f => f.gen == gen
    | none => false)

/-- The journal records the completion of a swap that was pending (R123). -/
def State.swapDone (s : State) : State :=
  match s.mgt.swapCmd with
  | none => s
  | some c => { s with mgt := { s.mgt with swapCmd := none } }.completion c 0 0

/-- A swap takes effect (R122, R123): without change where the target is active already. -/
def State.applySwap (s : State) (t : Nat) : State :=
  if t = s.fld F.CLS_GEN_ACTIVE then s.setFld F.CLS_GEN_DONE 1
  else
    let old := s.fld F.CLS_GEN_ACTIVE
    let s := ((s.setFld F.CLS_GEN_ACTIVE t).setFld F.CLS_GEN_DONE 1).inc (C.cls 9)
    if s.awaits old then s.setFld F.CLS_GEN_RETIRING 1 else s

/-- Applies a pending swap (R123). -/
def State.applyPending (s : State) : State :=
  if s.flag F.CLS_GEN_PENDING && !s.flag F.CLS_GEN_RETIRING then
    let t := s.fld F.CLS_GEN_PENDING_TARGET
    (((s.setFld F.CLS_GEN_PENDING 0).setFld F.CLS_GEN_PENDING_TARGET 0).applySwap t).swapDone
  else s

/-- A SWAP write (R123): held as pending where a swap is in progress or a generation retires, ignored with ERR_BUSY
where one is pending. The journal records a pending swap with the completion of the command that wrote it; a write that
reaches the register after its command has ended gets that entry now. -/
def State.requestSwap (s : State) (t : Nat) : State :=
  if s.flag F.CLS_GEN_PENDING then s.setFld F.CLS_GEN_ERR_BUSY 1
  else if s.data.swap.isSome || s.flag F.CLS_GEN_RETIRING then
    let s := (s.setFld F.CLS_GEN_PENDING 1).setFld F.CLS_GEN_PENDING_TARGET t
    let late := s.mgt.writer.isSome && s.mgt.writer != s.mgt.execQ.head?
    let s := { s with mgt := { s.mgt with swapCmd := s.mgt.writer, swapPending := s.mgt.swapPending || !late } }
    match s.mgt.writer with
    | some c => s.doIf late (fun s => s.completion c 1 0)
    | none => s
  else { s with data := { s.data with swap := some t } }

/-- The requested swap takes effect for lookups (R122); a pending one follows where no retirement started (R123). -/
def State.swapEffect (s : State) : State :=
  match s.data.swap with
  | none => s
  | some t => ({ s with data := { s.data with swap := none } }.applySwap t).applyPending

/-- The retirement ends with the last second lookup of the retiring generation (R122, R123). -/
def State.endRetirement (s : State) : State :=
  match s.retiring with
  | none => s
  | some r => if s.awaits r then s else (s.setFld F.CLS_GEN_RETIRING 0).applyPending

end Sys2Proof.Machine
end

