-- ==== Sys2Proof/Machine/Fdb.lean ====
section
/-!
DEFINITION. The forwarding database with its commands, learning and ageing, and the choice of destinations: lookup
VID, VLAN table, multicast groups, LAG groups (spec/05, R139 to R148, R169, R170).
-/

namespace Sys2Proof.Machine

/-! ## LAG groups (R147, R148) -/

/-- A port's MAC is enabled and its link is up. -/
def State.portUp (s : State) (p : Nat) : Bool := s.flag (F.MAC_CFG_EN p) && s.flag (F.MAC_STATUS_LINK_UP p)

/-- The port a slot of a group names; 127 is an empty slot. -/
def State.slotPort (s : State) (g i : Nat) : Nat := bits (s.fld (F.LAG_CFG_MEMBERS g)) (7 * i + 6) (7 * i)

/-- A slot is up (R148). -/
def State.slotUp (s : State) (g i : Nat) : Bool := decide (s.slotPort g i < 35) && s.portUp (s.slotPort g i)

/-- The up slots of a group in ascending order. -/
def State.upSlots (s : State) (g : Nat) : List Nat := (List.range 4).filter (s.slotUp g)

/-- The group in use that a port belongs to. -/
def State.lagOf (s : State) (p : Nat) : Option Nat :=
  (List.range 8).find? (fun g => s.flag (F.LAG_SEL_EN g) && (List.range 4).any (fun i => s.slotPort g i == p))

/-- The hash input of R147: the selected key fields in the order of their SEL bit. -/
def hashBytes (sel vid : Nat) (w : Walk) : List Byte :=
  let put (i : Nat) (b : List Byte) : List Byte := if sel.testBit i then b else []
  put 0 (beBytes 6 w.da) ++ put 1 (beBytes 6 w.sa) ++ put 2 (beBytes 2 vid) ++ put 3 (beBytes 2 w.ethertype) ++
    put 4 (beBytes 16 (w.f 333 206)) ++ put 5 (beBytes 16 (w.f 461 334)) ++ put 6 (beBytes 1 (w.f 469 462)) ++
    put 7 (beBytes 2 (w.f 526 511)) ++ put 8 (beBytes 2 (w.f 542 527)) ++ put 9 (beBytes 8 (w.f 622 559))

/-- The bucket of a frame. -/
def hashBucket (sel vid : Nat) (w : Walk) : Nat := crc16 (hashBytes sel vid w) % 256

/-- The administrative slot of a bucket. -/
def State.adminSlot (s : State) (g b : Nat) : Nat :=
  bits (s.fld (F.LAG_WIN_TABLE_SLOTS (b / 16) g)) (2 * (b % 16) + 1) (2 * (b % 16))

/-- The member port a group gives a bucket, none where no slot is up (R148). -/
def State.lagPick (s : State) (g b : Nat) : Option Nat :=
  let a := s.adminSlot g b
  if s.slotUp g a then some (s.slotPort g a)
  else
    let up := s.upSlots g
    if up.isEmpty then none else some (s.slotPort g (up.getD (b % up.length) 0))

/-- The member port for a frame. -/
def State.lagMember (s : State) (g vid : Nat) (w : Walk) : Option Nat :=
  s.lagPick g (hashBucket (s.fld (F.LAG_SEL_SEL g)) vid w)

/-! ## VLAN and multicast tables (R140, R143) -/

def State.vlanMember (s : State) (vid : Nat) : Nat :=
  s.fld (F.VLAN_WIN_DATA1_MEMBER vid) + 0x100000000 * s.fld (F.VLAN_WIN_DATA2_MEMBER_HI vid)
def State.vlanUntag (s : State) (vid : Nat) : Nat :=
  s.fld (F.VLAN_WIN_DATA3_UNTAG vid) + 0x100000000 * s.fld (F.VLAN_WIN_DATA2_UNTAG_HI vid)
def State.mcgMask (s : State) (g : Nat) : Nat :=
  s.fld (F.MCG_WIN_DATA0_MASK g) + 0x100000000 * s.fld (F.MCG_WIN_DATA1_MASK_HI g)

/-- The lookup VID (R139); `vid` is the action word's where VID_EN is 1. -/
def State.lookupVid (s : State) (vid : Option Nat) (w : Walk) (port : Nat) : Nat :=
  match vid with
  | some v => v
  | none =>
    let outer := w.f 163 152
    if 1 ≤ w.tagCount ∧ outer ≠ 0 then outer else s.fld (F.PORT_L2_PVID port)

/-! ## Forwarding database (R141) -/

def State.fdbAt (s : State) (i : Nat) : Option FdbEntry := mapGet (fun _ => none) s.data.fdb i
def State.setFdb (s : State) (i : Nat) (e : Option FdbEntry) : State :=
  { s with data := { s.data with fdb := mapSet (fun _ => none) s.data.fdb i e } }

/-- An entry is granted to a command write or to learning, which write it (spec/01, R36). -/
def State.fdbPut (s : State) (i : Nat) (e : Option FdbEntry) : State :=
  let s := s.setFdb i e
  { s with data := { s.data with fdbCycle := s.cycle, fdbUsed := if s.data.fdbCycle = s.cycle then i :: s.data.fdbUsed else [i] } }

/-- An entry has been granted in this cycle: a later contender for it loses (spec/01, R36). -/
def State.fdbTaken (s : State) (i : Nat) : Bool := s.data.fdbCycle == s.cycle && s.data.fdbUsed.contains i

/-- The set of a key. -/
def fdbSet (fid mac : Nat) : Nat := crc32 (beBytes 2 fid ++ beBytes 6 mac) % 8192

/-- The four entry indexes of a key's set. -/
def fdbWays (fid mac : Nat) : List Nat := (List.range 4).map (fun w => 4 * fdbSet fid mac + w)

/-- The entry of a key, with its index. -/
def State.fdbFind (s : State) (fid mac : Nat) : Option (Nat × FdbEntry) :=
  (fdbWays fid mac).findSome? (fun i => match s.fdbAt i with
    | some e => if e.fid = fid ∧ e.mac = mac then some (i, e) else none
    | none => none)

/-- The lowest-numbered free way of a key's set. -/
def State.fdbFree (s : State) (fid mac : Nat) : Option Nat := (fdbWays fid mac).find? (fun i => (s.fdbAt i).isNone)

/-! ## Destinations (R142). A destination is a local port 0 to 34, a partner port 64 to 98, or 99 for the partner
flood VOQ. -/

/-- Joined pairing runs (spec/15, R438, R448). -/
def State.joined (s : State) : Bool := s.joinedCfg && s.fld F.PAIR_STATUS_ROLE == 6

/-- A flood: the MEMBER ports but the ingress port and its group's members; of every other group the chosen member
only, and where that has no up slot no copy for it and no count in LAG_DOWN_DROP (DESIGN CHOICE: R148 speaks of the copies of a
lookup's group; log entry 67). `partner` adds the copy to the partner where the VLAN's PARTNER bit says so. -/
def State.flood (s : State) (vid port : Nat) (w : Walk) (partner : Bool) : List Nat :=
  let own := s.lagOf port
  let keep (p : Nat) : Bool :=
    decide (p ≠ port) &&
    (match s.lagOf p with
      | none => true
      | some g => own != some g && s.lagMember g vid w == some p)
  (maskList 35 (s.vlanMember vid)).filter keep ++
    (if partner && s.flag (F.VLAN_WIN_DATA2_PARTNER vid) && s.joined then [99] else [])

/-- What a lookup of the destination address gives (R142, steps 1 to 8). -/
def State.resolve (s : State) (vid port : Nat) (w : Walk) : List Nat × State :=
  let da := w.da
  let fid := s.fld (F.VLAN_WIN_DATA0_FID vid)
  let filtered (s : State) : List Nat × State := ([], s.inc (C.buf 8))
  if da = 0xFFFFFFFFFFFF then (s.flood vid port w true, s)
  else match s.fdbFind fid da with
    | some (_, e) =>
      (match e.kind with
        | 0 =>
          if 64 ≤ e.dest then
            (if s.flag (F.VLAN_WIN_DATA2_PARTNER vid) && e.dest != port then
              (if s.joined then ([e.dest], s) else ([], s.inc (C.buf 12)))
            else filtered s)
          else if e.dest = port ∨ !(s.vlanMember vid).testBit e.dest then filtered s
          else ([e.dest], s)
        | 1 =>
          if s.lagOf port = some e.dest then filtered s
          else (match s.lagMember e.dest vid w with
            | some p => ([p], s)
            | none => ([], s.inc (C.buf 11)))
        | 2 =>
          (maskList 35 (Nat.land (s.mcgMask e.dest) (s.vlanMember vid)) ++
            (if s.flag (F.MCG_WIN_DATA1_PARTNER e.dest) && s.joined then [99] else []), s)
        | _ => filtered s)
    | none =>
      if da.testBit 40 then
        (if s.flag (F.VLAN_WIN_DATA0_FLOOD_MC vid) then (s.flood vid port w true, s) else filtered s)
      else if s.flag (F.VLAN_WIN_DATA0_FLOOD_UC vid) then (s.flood vid port w true, s) else filtered s

/-- R140: whether the VLAN discards the frame. A partner ingress port (64 to 98) has its membership judged by the
partner. -/
def State.vlanDrops (s : State) (vid port : Nat) : Bool :=
  !s.flag (F.VLAN_WIN_DATA0_VALID vid) || (decide (port < 35) && !(s.vlanMember vid).testBit port)

/-! ## Learning (R144) -/

/-- KIND and DEST of what learning stores for an ingress port. -/
def State.learnDest (s : State) (port : Nat) : Nat × Nat :=
  match s.lagOf port with
  | some g => (1, g)
  | none => (0, port)

/-- Learning of a source address on a port: HIT of the entry found, a static move counted, and the request made
where one is due. -/
def State.learnLookup (s : State) (vid port sa : Nat) : Option LearnReq × State :=
  let fid := s.fld (F.VLAN_WIN_DATA0_FID vid)
  let (kind, dest) := s.learnDest port
  if !s.flag (F.VLAN_WIN_DATA0_LEARN vid) || sa.testBit 40 then (none, s)
  else match s.fdbFind fid sa with
    | none => (some ⟨fid, sa, kind, dest⟩, s)
    | some (i, e) =>
      let s := s.setFdb i (some { e with hit := true })
      if e.kind = kind ∧ e.dest = dest then (none, s)
      else if e.static then (none, s.inc (C.buf 10))
      else (some ⟨fid, sa, kind, dest⟩, s)

/-- A learn request joins the 64 that wait, or is lost and counted (R144, R171). -/
def State.queueLearn (s : State) (r : LearnReq) : State :=
  if 64 ≤ s.data.learnQ.length then (s.inc (C.buf 9)).inc (C.buf 19)
  else { s with data := { s.data with learnQ := s.data.learnQ ++ [r] } }

/-- Carries out one learn request. -/
def State.learnOne (s : State) (r : LearnReq) : State :=
  let e : FdbEntry := ⟨r.fid, r.mac, false, true, r.kind, r.dest⟩
  match s.fdbFind r.fid r.mac with
  | some (i, old) => if old.static then s else s.fdbPut i (some e)
  | none => match s.fdbFree r.fid r.mac with
    | some i => s.fdbPut i (some e)
    | none => s.inc (C.buf 9)

/-- The entry that a learn request asks for. -/
def State.learnEntry (s : State) (r : LearnReq) : Option Nat :=
  match s.fdbFind r.fid r.mac with
  | some (i, _) => some i
  | none => s.fdbFree r.fid r.mac

/-- The oldest learn request is carried out. It waits for the next cycle where a command write has its entry in this one
(spec/01, R36, R37). -/
def State.learnNext (s : State) : State :=
  match s.data.learnQ with
  | [] => s
  | r :: rest =>
    if (match s.learnEntry r with
      | some i => s.fdbTaken i
      | none => false) then s
    else { s with data := { s.data with learnQ := rest } }.learnOne r

/-- An ageing pass over every entry, none where AGE_S is 0 (R145): the pass is one instant here (log entry 16). It leaves the
entries that a command write or learning has in this cycle to the next pass (spec/01, R37). -/
def State.agePass (s : State) : State :=
  if s.fld F.FDB_CFG_AGE_S = 0 then s
  else { s with data := { s.data with fdb := s.data.fdb.filterMap (fun c => match c.2 with
      | none => none
      | some e =>
        if e.static || s.fdbTaken c.1 then some c
        else if e.hit then some (c.1, some { e with hit := false }) else none) } }

/-! ## Commands of FDB_CMD (R170) -/

/-- The key in FDB_KEY. -/
def State.fdbKey (s : State) : Nat × Nat :=
  (s.fld F.FDB_KEY_HI_FID, s.fld F.FDB_KEY_LO_MAC_LO + 0x100000000 * s.fld F.FDB_KEY_HI_MAC_HI)

/-- Starts an operation: BUSY, and what its end will report. -/
def State.fdbStart (s : State) (o : FdbOp) : State :=
  { (s.setFld F.FDB_STATUS_BUSY 1) with data := { s.data with fdbOp := o } }

/-- A command of FDB_CMD while one is in progress is ignored and sets ERR_BUSY (R7). -/
def State.fdbCommand (s : State) (f : State → State) : State :=
  if s.flag F.FDB_STATUS_BUSY then s.setFld F.FDB_STATUS_ERR_BUSY 1 else f s

/-- Loads FDB_KEY and FDB_DATA with the contents of an entry; an empty one is 0 throughout. -/
def State.fdbLoad (s : State) (o : Option FdbEntry) : State :=
  match o with
  | none => s.setFlds [(F.FDB_KEY_LO_MAC_LO, 0), (F.FDB_KEY_HI_MAC_HI, 0), (F.FDB_KEY_HI_FID, 0),
      (F.FDB_DATA_VALID, 0), (F.FDB_DATA_STATIC, 0), (F.FDB_DATA_HIT, 0), (F.FDB_DATA_KIND, 0), (F.FDB_DATA_DEST, 0)]
  | some e => s.setFlds [(F.FDB_KEY_LO_MAC_LO, e.mac % 0x100000000), (F.FDB_KEY_HI_MAC_HI, e.mac / 0x100000000),
      (F.FDB_KEY_HI_FID, e.fid), (F.FDB_DATA_VALID, 1), (F.FDB_DATA_STATIC, b2n e.static), (F.FDB_DATA_HIT, b2n e.hit),
      (F.FDB_DATA_KIND, e.kind), (F.FDB_DATA_DEST, e.dest)]

/-- LOOKUP. -/
def State.fdbLookupOp (s : State) : State :=
  let (fid, mac) := s.fdbKey
  match s.fdbFind fid mac with
  | some (i, e) => (s.fdbLoad (some e)).fdbStart (.single 0 i)
  | none => s.fdbStart (.single 1 (s.fld F.FDB_STATUS_INDEX))

/-- Removes the entry of the key. -/
def State.fdbRemoveOp (s : State) : State :=
  let (fid, mac) := s.fdbKey
  match s.fdbFind fid mac with
  | some (i, _) => (s.fdbPut i none).fdbStart (.single 0 i)
  | none => s.fdbStart (.single 1 (s.fld F.FDB_STATUS_INDEX))

/-- A KIND and DEST that no entry may hold (R170). -/
def State.destInvalid (s : State) (kind dest : Nat) : Bool :=
  match kind with
  | 0 => !s.portValid dest || dest == 127
  | 1 => decide (7 < dest)
  | _ => false

/-- WRITE. -/
def State.fdbWriteOp (s : State) : State :=
  if !s.flag F.FDB_DATA_VALID then s.fdbRemoveOp
  else
    let (fid, mac) := s.fdbKey
    let kind := s.fld F.FDB_DATA_KIND
    let dest := s.fld F.FDB_DATA_DEST
    let e : FdbEntry := ⟨fid, mac, s.flag F.FDB_DATA_STATIC, s.flag F.FDB_DATA_HIT, kind, dest⟩
    if s.destInvalid kind dest then s.fdbStart (.single 3 (s.fld F.FDB_STATUS_INDEX))
    else match s.fdbFind fid mac with
      | some (i, _) => (s.fdbPut i (some e)).fdbStart (.single 0 i)
      | none => match s.fdbFree fid mac with
        | some i => (s.fdbPut i (some e)).fdbStart (.single 0 i)
        | none => s.fdbStart (.single 2 (s.fld F.FDB_STATUS_INDEX))

/-- READ_INDEX. -/
def State.fdbReadOp (s : State) (i : Nat) : State := (s.fdbLoad (s.fdbAt i)).fdbStart (.single 0 i)

/-- Removes the dynamic entries a test names. -/
def State.fdbFlush (s : State) (f : FdbEntry → Bool) : State :=
  { s with data := { s.data with fdb := mapKeep s.data.fdb (fun _ e => match e with
      | none => false
      | some e => e.static || !f e) } }

/-- Removes the entry that a flush's walk reaches where it is dynamic and the test names it. -/
def State.flushAt (s : State) (f : FdbEntry → Bool) (i : Nat) : State :=
  match s.fdbAt i with
  | some e => if e.static || !f e then s else s.fdbPut i none
  | none => s

/-- A flush's walk reaches one entry in each cycle, in index order: the 32,768 entries in 65.5 µs (R170; log entry 16). -/
def State.fdbWalk (s : State) : State :=
  match s.data.fdbOp with
  | .flushPort d i =>
    let s := s.flushAt (fun e => e.kind == 0 && e.dest == d) i
    { s with data := { s.data with fdbOp := .flushPort d (i + 1) } }
  | .flushDynamic i =>
    let s := s.flushAt (fun _ => true) i
    { s with data := { s.data with fdbOp := .flushDynamic (i + 1) } }
  | _ => s

/-- Removes what a flush's walk has still to reach. -/
def State.flushRest (s : State) (f : FdbEntry → Bool) (next : Nat) : State :=
  { s with data := { s.data with fdb := mapKeep s.data.fdb (fun i e => decide (i < next) || (match e with
      | none => false
      | some e => e.static || !f e)) } }

/-- Ends an operation: BUSY clears, DONE and RESULT are set (R170). The end of a flush is that of its walk. -/
def State.fdbDone (s : State) : State :=
  let fin (s : State) (r i : Nat) : State :=
    { s with data := { s.data with fdbOp := .none } }.setFlds
      [(F.FDB_STATUS_BUSY, 0), (F.FDB_STATUS_DONE, 1), (F.FDB_STATUS_RESULT, r), (F.FDB_STATUS_INDEX, i)]
  match s.data.fdbOp with
  | .none => s
  | .single r i => fin s r i
  | .flushPort d i => fin (s.flushRest (fun e => e.kind == 0 && e.dest == d) i) 0 (s.fld F.FDB_STATUS_INDEX)
  | .flushDynamic i => fin (s.flushRest (fun _ => true) i) 0 (s.fld F.FDB_STATUS_INDEX)

/-- Removes the dynamic entries that name partner ports (spec/15, R445). -/
def State.fdbDropPartner (s : State) : State := s.fdbFlush (fun e => e.kind == 0 && decide (64 ≤ e.dest))

end Sys2Proof.Machine
end

