-- ==== Sys2Proof/Machine/Police.lean ====
section
/-!
DEFINITION. Token buckets with their commits, zone matrix and zone policers, stream filters, meters, and frame
replication and elimination (spec/06, R172 to R186; spec/10, R291 to R296).
-/

namespace Sys2Proof.Machine

/-! ## Buckets (R175 to R178, R182) -/

/-- Units of a bucket's hidden fraction in a byte. -/
def fracUnit : Int := 0x1000000

/-- INC of a rate (R176). -/
def incOf (rate : Nat) : Nat := rate * 134217728 / 1000000

/-- LEVEL of a bucket. -/
def State.level (s : State) (k : Nat) : Int := toSigned 32 (s.reg k).toNat

/-- Value of a bucket in units of 2^-24 B. -/
def State.bucket (s : State) (k : Nat) : Int := s.level k * fracUnit + (mapGet (fun _ => 0) s.data.fracs k : Nat)

/-- Puts a value into a bucket. -/
def State.setBucket (s : State) (k : Nat) (v : Int) : State :=
  let s := s.setReg k (BitVec.ofNat 32 (ofSigned 32 (v / fracUnit)))
  { s with data := { s.data with fracs := mapSet (fun _ => 0) s.data.fracs k (v % fracUnit).toNat } }

/-- A bucket gains units and is limited to BURST (R176, R181). -/
def State.gain (s : State) (k burst : Nat) (units : Int) : State :=
  s.setBucket k (min (s.bucket k + units) ((burst : Int) * fracUnit))

/-- A charge of `n` bytes (R177). -/
def State.charge (s : State) (k n : Nat) : State := s.setBucket k (s.bucket k - (n : Int) * fracUnit)

/-- RATE and BURST of their registers. -/
def State.rateOf (s : State) (k : Nat) : Nat := wordBits (s.reg k) 24 0
def State.burstOf (s : State) (k : Nat) : Nat := wordBits (s.reg k) 23 0

/-- One tick of a bucket. -/
def State.tickBucket (s : State) (level rate burst : Nat) : State :=
  s.gain level (s.burstOf burst) (incOf (s.rateOf rate) : Nat)

/-- A bucket set by RESET_FILL: to 0, or to BURST (R182). -/
def State.fillBucket (s : State) (full : Bool) (level burst : Nat) : State :=
  s.setBucket level (if full then (s.burstOf burst : Int) * fracUnit else 0)

/-- The tick of a queue's shaper: a commit in place of the increment, else both buckets gain (R176, R182). -/
def State.tickShaper (q : Nat) (s : State) : State :=
  if s.flag (F.SHP_CTRL_PENDING q) then
    let s := s.commitAll [K.SHP_CIR q, K.SHP_CBS q, K.SHP_PIR q, K.SHP_PBS q]
    let s := match s.heldWord (K.SHP_CTRL q) with
      | some w => (s.setFld (F.SHP_CTRL_EN q) (wordBits w 1 1)).unhold (K.SHP_CTRL q)
      | none => s
    let full := s.flag (F.SHP_CTRL_RESET_FILL q)
    ((s.fillBucket full (K.SHP_C_LEVEL q) (K.SHP_CBS q)).fillBucket full (K.SHP_P_LEVEL q) (K.SHP_PBS q)).setFld
      (F.SHP_CTRL_PENDING q) 0
  else if s.flag (F.SHP_CTRL_EN q) then
    (s.tickBucket (K.SHP_C_LEVEL q) (K.SHP_CIR q) (K.SHP_CBS q)).tickBucket (K.SHP_P_LEVEL q) (K.SHP_PIR q) (K.SHP_PBS q)
  else s

/-- The tick of a stream's meter (R176, R182, R183). -/
def State.tickMeter (i : Nat) (s : State) : State :=
  let start := s.data.meterStart.contains i
  let commit := s.flag (F.MTR_CTRL_PENDING i)
  let s := if commit then (s.commitAll [K.MTR_CIR i, K.MTR_CBS i, K.MTR_PIR i, K.MTR_PBS i]).setFld (F.MTR_CTRL_PENDING i) 0
    else s
  let s := { s with data := { s.data with meterStart := s.data.meterStart.filter (fun k => k != i) } }
  if commit || start then
    let full := s.flag (F.MTR_CTRL_RESET_FILL i)
    (s.fillBucket full (K.MTR_C_LEVEL i) (K.MTR_CBS i)).fillBucket full (K.MTR_P_LEVEL i) (K.MTR_PBS i)
  else if s.flag (F.STRM_WIN_FILTER_METER_EN i) then
    (s.tickBucket (K.MTR_C_LEVEL i) (K.MTR_CIR i) (K.MTR_CBS i)).tickBucket (K.MTR_P_LEVEL i) (K.MTR_PIR i) (K.MTR_PBS i)
  else s

/-- The tick of a zone policer (spec/10, R295). -/
def State.tickPolicer (i : Nat) (s : State) : State :=
  if s.flag (F.ZPOL_CTRL_PENDING i) then
    let s := s.commitAll [K.ZPOL_RATE i, K.ZPOL_BURST i]
    let s := match s.heldWord (K.ZPOL_CTRL i) with
      | some w => (s.setFld (F.ZPOL_CTRL_EN i) (wordBits w 1 1)).unhold (K.ZPOL_CTRL i)
      | none => s
    (s.fillBucket (s.flag (F.ZPOL_CTRL_RESET_FILL i)) (K.ZPOL_LEVEL i) (K.ZPOL_BURST i)).setFld (F.ZPOL_CTRL_PENDING i) 0
  else if s.flag (F.ZPOL_CTRL_EN i) then s.tickBucket (K.ZPOL_LEVEL i) (K.ZPOL_RATE i) (K.ZPOL_BURST i)
  else s

/-- Meters a tick has to visit. -/
def State.meterList (s : State) : List Nat :=
  let a := s.listedEntries (K.STRM_WIN_FILTER 0)
  let b := (s.listedEntries (K.MTR_CTRL 0)).filter (fun i => !a.contains i)
  a ++ b ++ s.data.meterStart.filter (fun i => !a.contains i && !b.contains i)

/-- A token tick (R176). -/
def State.tick (s : State) : State :=
  let s := forEach (s.listedEntries (K.SHP_CTRL 0)) State.tickShaper s
  let s := forEach s.meterList State.tickMeter s
  forEach (s.listedEntries (K.ZPOL_CTRL 0)) State.tickPolicer s

/-- A COMMIT write: PENDING, or ERR_BUSY where one is pending (R182). -/
def State.requestCommit (s : State) (pending busy : Fld) : State :=
  if s.flag pending then s.setFld busy 1 else s.setFld pending 1

/-! ## Zones (spec/10, R291 to R296) -/

/-- Zone of a local port. -/
def State.portZone (s : State) (p : Nat) : Nat := s.fld (F.ZONE_PORT_ZONE p)

/-- Egress zone of a destination (R294): 64 to 98 partner ports, 99 the partner flood. -/
def State.egressZone (s : State) (d : Nat) : Nat :=
  if d < 64 then s.portZone d else s.fld (F.ZONE_PARTNER_ZONE (d - 64))

/-- LEN or, where the last byte is not yet written, MAX_FRAME of the ingress port: L_meter (R181). -/
def State.meterLen (s : State) (f : Frame) : Nat :=
  if f.written then f.bytes.length else s.fld (F.MAC_FRAME_MAX_FRAME (min f.port 34))

/-- Judges one copy of a frame for a destination (R294, R295): whether it is admitted, with what it was charged. -/
def State.zoneJudge (s : State) (f : Frame) (port zone d : Nat) : Bool × List Charge × State :=
  let zto := s.egressZone d
  let i := 16 * zone + zto
  if !s.flag (F.ZONE_PAIR_PERMIT i) then
    let s := (s.inc (C.zone 0)).setFlds [(F.ZONE_LAST_DENY_PORT, port), (F.ZONE_LAST_DENY_FROM, zone), (F.ZONE_LAST_DENY_TO, zto)]
    (false, [], s.raiseFlag F.ZONE_STATUS_DENIED (beBytes 1 port ++ beBytes 1 zone ++ beBytes 1 zto))
  else if !s.flag (F.ZONE_PAIR_POL_EN i) then (true, [], s)
  else
    let p := s.fld (F.ZONE_PAIR_POLICER i)
    if !s.flag (F.ZPOL_CTRL_EN p) then (true, [], s)
    else if s.level (K.ZPOL_LEVEL p) < 0 then (false, [], s.inc (C.zone 1))
    else
      let n := s.meterLen f
      (true, [⟨K.ZPOL_LEVEL p, K.ZPOL_BURST p, n⟩], s.charge (K.ZPOL_LEVEL p) n)

/-! ## Stream filter and meter (R179 to R181) -/

/-- LEN exceeds MAX_SDU: counted, and the stream blocked where it is set so (R179). -/
def State.sduFail (s : State) (i : Nat) : State :=
  let s := s.inc (C.sch 0)
  if s.flag (F.STRM_WIN_FILTER_BLOCK_OVERSIZE i) then s.setFld (F.STRM_WIN_FILTER_BLOCKED i) 1 else s

/-- A length is beyond a stream's MAX_SDU. -/
def State.sduOver (s : State) (i len : Nat) : Bool :=
  s.fld (F.STRM_WIN_FILTER_MAX_SDU i) != 0 && decide (s.fld (F.STRM_WIN_FILTER_MAX_SDU i) < len)

/-- The stream filter (R179): whether the frame passes, and the stream whose SDU check is due at its end. -/
def State.streamFilter (s : State) (f : Frame) (i : Nat) : Bool × Option Nat × State :=
  if s.flag (F.STRM_WIN_FILTER_BLOCKED i) then (false, none, s.inc (C.sch 1))
  else if !f.written then (true, some i, s)
  else if s.sduOver i f.bytes.length then (false, none, s.sduFail i)
  else (true, none, s)

/-- The meter (R180): the colour, with what was charged. -/
def State.meter (s : State) (f : Frame) (i colour : Nat) : Nat × List Charge × State :=
  let c := if s.flag (F.STRM_WIN_FILTER_CB i) then 0 else colour
  let n := s.meterLen f
  let pc : Charge := ⟨K.MTR_P_LEVEL i, K.MTR_PBS i, n⟩
  let cc : Charge := ⟨K.MTR_C_LEVEL i, K.MTR_CBS i, n⟩
  if c = 2 ∨ s.level (K.MTR_P_LEVEL i) < 0 then (2, [], s)
  else if c = 1 ∨ s.level (K.MTR_C_LEVEL i) < 0 then (1, [pc], s.charge (K.MTR_P_LEVEL i) n)
  else (0, [pc, cc], (s.charge (K.MTR_P_LEVEL i) n).charge (K.MTR_C_LEVEL i) n)

/-- The refund of R181 when the last byte is written. -/
def State.refund (s : State) (len : Nat) (c : Charge) : State :=
  if len < c.amount then s.gain c.level (s.burstOf c.burst) (((c.amount - len : Nat) : Int) * fracUnit) else s

/-! ## Frame replication and elimination (R184 to R186) -/

/-- History bits of a recovery function. -/
def State.frerHist (s : State) (i : Nat) : Nat := mapGet (fun _ => 0) s.data.frerHist i
def State.setHist (s : State) (i h : Nat) : State :=
  { s with data := { s.data with frerHist := mapSet (fun _ => 0) s.data.frerHist i h } }

/-- Sets TAKE_ANY of a recovery function (R186). -/
def State.takeAny (s : State) (i : Nat) : State := s.setFld (F.SEQR_WIN_STATE_TAKE_ANY i) 1

/-- No frame has passed a recovery function for RESET_MS: a timer reset is counted (R186). -/
def State.frerTimerEnd (s : State) (i : Nat) : State := (s.takeAny i).inc (C.sch 8)

/-- The judgement of a sequence number (R185). -/
def State.recover (s : State) (i q : Nat) : Bool × State :=
  let recov := s.fld (F.SEQR_WIN_STATE_RECOV_SEQ i)
  let hist := s.frerHist i
  let history := s.fld (F.SEQR_WIN_CFG_HISTORY i)
  if s.flag (F.SEQR_WIN_STATE_TAKE_ANY i) then
    (true, ((s.setFld (F.SEQR_WIN_STATE_RECOV_SEQ i) q).setFld (F.SEQR_WIN_STATE_TAKE_ANY i) 0).setHist i 1)
  else
    let d : Int := toSigned 16 (q + 65536 - recov)
    if s.flag (F.SEQR_WIN_CFG_ALG i) then
      (if d = 0 then (false, s.inc (C.sch 5)) else (true, s.setFld (F.SEQR_WIN_STATE_RECOV_SEQ i) q))
    else if (history : Int) ≤ d ∨ d ≤ -(history : Int) then (false, s.inc (C.sch 6))
    else if d ≤ 0 then
      let k := (-d).toNat
      if hist.testBit k then (false, s.inc (C.sch 5)) else (true, s.setHist i (hist ||| 1 <<< k))
    else (true, (s.setFld (F.SEQR_WIN_STATE_RECOV_SEQ i) q).setHist i (((hist <<< d.toNat) ||| 1) % 2 ^ history))

/-- The sequence recovery function for a frame with or without a walked R-TAG: whether it passes. -/
def State.frerRecover (s : State) (i : Nat) (rtag : Option Nat) : Bool × State :=
  if !s.flag (F.SEQR_WIN_CFG_EN i) then (true, s)
  else match rtag with
    | none => (s.flag (F.SEQR_WIN_CFG_TAKE_NO_SEQ i), s.inc (C.sch 7))
    | some q => (s.logSync (.judge i q)).recover i q

/-- The sequence generation function: the number it gives (R184). -/
def State.frerGenerate (s : State) (i : Nat) : Option Nat × State :=
  if !s.flag (F.SEQG_WIN_CFG_EN i) then (none, s)
  else
    let n := s.fld (F.SEQG_WIN_CFG_NEXT i)
    (some n, (s.setFld (F.SEQG_WIN_CFG_NEXT i) ((n + 1) % 65536)).inc (C.sch 9))

end Sys2Proof.Machine
end

