-- ==== Sys2Proof/Machine/LeeTable.lean ====
section
/-!
DEFINITION. The Lee static table and the frames stored for its streams (spec/14, R402, R403, R409), with the rate of
a port that it and cut-through read (spec/03, R73).
-/

namespace Sys2Proof.Machine

/-- Rate of a port in Mbit/s by its MODE (spec/03, R73). -/
def State.portRate (s : State) (p : Nat) : Nat :=
  match s.fld (F.MAC_CFG_MODE p) with
  | 0 => 10000
  | 1 => 10000
  | 2 => 5000
  | 3 => 2500
  | 4 => 25000
  | 5 => 25000
  | 8 => 1000
  | 9 => 100
  | 0xC => 10
  | _ => 10000

/-- ns per byte of a port, times 100 (spec/06, R198). -/
def State.nsPerByte100 (s : State) (p : Nat) : Nat := 800000 / s.portRate p

/-- Word `j` of a Lee record. -/
def leeWord (l : List Word) (j : Nat) : Nat := (l.getD j 0).toNat

/-- Fields of a Lee stream's record (R409). -/
def Lee.port (l : List Word) : Nat := bits (leeWord l 0) 25 19
def Lee.tagged (l : List Word) : Bool := bitOf (leeWord l 0) 18
def Lee.vid (l : List Word) : Nat := bits (leeWord l 0) 17 6
def Lee.queue (l : List Word) : Nat := bits (leeWord l 0) 5 3
def Lee.da (l : List Word) : Nat := bits (leeWord l 1) 15 0 * 0x100000000 + leeWord l 2
def Lee.egress (l : List Word) : Nat := bits (leeWord l 3) 25 0
def Lee.maxLen (l : List Word) : Nat := bits (leeWord l 4) 26 16
def Lee.offset (l : List Word) : Nat := leeWord l 5

/-- A frame of a walk received on a port has a stream's key (R402). -/
def Lee.hits (l : List Word) (port : Nat) (w : Walk) : Bool :=
  Lee.port l == port && Lee.da l == w.da &&
  (if Lee.tagged l then decide (1 ≤ w.tagCount) && w.f 163 152 == Lee.vid l else w.tagCount == 0)

/-- The first stream of the table that a frame matches (spec/04, R110, LEE_ONLY). -/
def State.leeMatch (s : State) (port : Nat) (w : Walk) : Option (List Word) :=
  (s.saf.streams.find? (fun c => Lee.hits c.2 port w)).map (fun c => c.2)

/-- The frames stored for a stream, newest first, with their stamps in 2^-40 ns. -/
def State.leeStore (s : State) (i : Nat) : List (Nat × List Byte) := mapGet (fun _ => []) s.saf.store i
def State.setLeeStore (s : State) (i : Nat) (l : List (Nat × List Byte)) : State :=
  { s with saf := { s.saf with store := mapSet (fun _ => []) s.saf.store i l } }

/-- PRS_TPID and PRS_UDP as the parser takes them. -/
def State.prsCfg (s : State) : PrsCfg :=
  ⟨s.altTpid, if s.flag F.PRS_UDP_CONTAINER_EN then some (s.fld F.PRS_UDP_CONTAINER_PORT) else none⟩

/-- A stored frame is eligible at a time in 2^-40 ns (R402). -/
def State.leeEligible (s : State) (port t : Nat) (f : Nat × List Byte) : Bool :=
  decide (100 * f.1 + (f.2.length * s.nsPerByte100 port + 800000) * fracPerNs ≤ 100 * t)

/-- The frames that a slot at or after a time can still send: those up to the most recent eligible one. -/
def State.leePrune (s : State) (port t : Nat) : List (Nat × List Byte) → List (Nat × List Byte)
  | [] => []
  | f :: r => if s.leeEligible port t f then [f] else f :: s.leePrune port t r

/-- The time that stamps frames: network time, or Lee time in Lee mode (R401). -/
def State.stampClock (s : State) : Nat := if s.saf.mode = .lee then s.saf.leeTime else s.time.now

/-- A stream's unsent frames, and those superseded before they were sent, which are counted (R402). -/
def State.leeKeep (s : State) (i port : Nat) (l : List (Nat × List Byte)) : State :=
  let k := s.leePrune port s.stampClock l
  let n := l.length - k.length
  let s := s.setLeeStore i k
  if n = 0 then s else s.count (C.saf 11) n

/-- A frame received with a good FCS is stored for each stream it matches; a longer one is counted (R402). -/
def State.leeReceive (s : State) (port stamp : Nat) (bytes : List Byte) : State :=
  let w := (walkKey (walkEthernet s.prsCfg ⟨bytes.take 256, some (bytes.length - 4), some (bytes.length - 4)⟩) false port 0 0)
  forEach s.saf.streams (fun c s =>
    if !Lee.hits c.2 port w then s
    else if Lee.maxLen c.2 < bytes.length then s.inc (C.saf 12)
    else (s.leeKeep c.1 port ((stamp, bytes) :: s.leeStore c.1)).inc (C.saf 9)) s

end Sys2Proof.Machine
end

