-- ==== Sys2Proof/Machine/WvrTable.lean ====
section
/-!
DEFINITION. The Weaver's PDU definitions: their fields, the match of a received PDU, deadlines and senders, and the
input queue (spec/09, R257 to R260, R266 to R269, R289, R290).
-/

namespace Sys2Proof.Machine

/-! ## Fields of a definition (R289) -/

def State.pduValid (s : State) (i : Nat) : Bool := s.flag (F.WVR_PDU_DATA0_VALID i)
def State.pduTx (s : State) (i : Nat) : Bool := s.flag (F.WVR_PDU_DATA0_DIR i)
def State.pduKind (s : State) (i : Nat) : Nat := s.fld (F.WVR_PDU_DATA0_KIND i)
def State.pduFmt (s : State) (i : Nat) : Nat := s.fld (F.WVR_PDU_DATA0_FMT i)
def State.pduChannel (s : State) (i : Nat) : Nat := s.fld (F.WVR_PDU_DATA0_CHANNEL i)
def State.pduLen (s : State) (i : Nat) : Nat := min 64 (s.fld (F.WVR_PDU_DATA0_LEN i))
def State.pduId (s : State) (i : Nat) : Nat := s.fld (F.WVR_PDU_DATA1_ID i)
/-- A field of WVR_PDU_DATA[2] or [4], whose layout follows DIR. -/
def State.pdu2 (s : State) (i hi lo : Nat) : Nat := wordBits (s.reg (K.WVR_PDU_DATA2 i)) hi lo
def State.pdu4 (s : State) (i hi lo : Nat) : Nat := wordBits (s.reg (K.WVR_PDU_DATA4 i)) hi lo
/-- TIMEOUT_US or PERIOD_US. -/
def State.pduUs (s : State) (i : Nat) : Nat := s.fld (F.WVR_PDU_DATA3_US i)
def State.pduSender (s : State) (i : Nat) : Nat := s.pdu4 i 31 21

/-- The PDUs that have a definition, in rising order. -/
def State.pduList (s : State) : List Nat := s.listedEntries (K.WVR_PDU_DATA0 0)

/-- SOURCE of a receive definition's key (R259). -/
def State.pduSource (s : State) (i : Nat) : Nat :=
  match s.pduKind i with
  | 0 => s.pduChannel i
  | 1 => s.pduChannel i
  | 2 => 32 + s.pduChannel i
  | 3 => 32 + s.pduChannel i
  | _ => 64

/-- KIND of a definition takes a PDU of a source: an ACF PDU by its message type, KIND 2 either and KIND 3 the brief
one (R259; that KIND 3 takes only the brief one is DEDUCED, log entry 26). -/
def kindTakes (kind acfType source : Nat) : Bool :=
  if source < 24 then kind == 0 else if source < 32 then kind == 1
  else if source < 64 then kind == 2 || (kind == 3 && acfType == 2) else kind == 4

/-- The receive definition of a received PDU. -/
def State.pduMatch (s : State) (acfType source zone fmt id : Nat) : Option Nat :=
  s.pduList.find? (fun i => s.pduValid i && !s.pduTx i && kindTakes (s.pduKind i) acfType source &&
    s.pduSource i == source && s.fld (F.WVR_PDU_DATA0_ZONE i) == zone && s.pduFmt i == fmt && s.pduId i == id)

/-! ## Deadlines and senders (R266 to R269) -/

def State.wvrEvent (s : State) (bit : Nat) : State := s.raiseFlag ⟨K.WVR_EVT, bit, bit⟩ []

/-- Starts a PDU's deadline: TIMEOUT_US from now, none where there is no timeout. -/
def State.startDeadline (s : State) (i : Nat) : State :=
  let d := if s.pduUs i = 0 ∨ s.pduTx i ∨ !s.pduValid i then none else some (s.nowNs + 1000 * s.pduUs i)
  { s with wvr := { s.wvr with deadline := mapSet (fun _ => none) s.wvr.deadline i d } }

/-- The monitored PDUs that name a sender. -/
def State.sentBy (s : State) (k : Nat) : List Nat :=
  s.pduList.filter (fun i => s.pduValid i && !s.pduTx i && s.pduUs i != 0 && s.pduSender i == k)

/-- SILENT of a sender follows its PDUs, with the events of R269. -/
def State.judgeSender (s : State) (k : Nat) : State :=
  if 1536 ≤ k then s
  else
    let l := s.sentBy k
    let out := l.filter (fun i => s.flag (F.WVR_PDU_STATE_TIMED_OUT i))
    let now := !l.isEmpty && out.length == l.length
    let was := s.flag (F.WVR_SND_STATUS_SILENT k)
    let s := s.setFlds [(F.WVR_SND_STATUS_SILENT k, b2n now), (F.WVR_SND_STATUS_PDUS k, l.length), (F.WVR_SND_STATUS_TIMED_OUT k, out.length)]
    if now = was then s else s.wvrEvent (if now then 2 else 3)

/-- Event time of the last reception or send of a PDU (R288). -/
def State.setStamp (s : State) (i t : Nat) : State :=
  { s with wvr := { s.wvr with stamps := mapSet (fun _ => 0) s.wvr.stamps i t } }

/-- The reception of a PDU: its deadline starts again, and a timeout ends (R266, R267). -/
def State.pduReceived (s : State) (i stamp : Nat) : State :=
  let s := (s.startDeadline i).setStamp i stamp
  if s.flag (F.WVR_PDU_STATE_TIMED_OUT i) then
    ((s.setFld (F.WVR_PDU_STATE_TIMED_OUT i) 0).wvrEvent 1).judgeSender (s.pduSender i)
  else s

/-! ## The input queue (R257, R258) -/

/-- Rank of a unit among those that arrive in one CLK_CTRL cycle: edge channels by index, the pipeline in its order, timeouts by
PDU index. -/
def WUnit.rank : WUnit → Nat
  | .pdu _ source .. => min source 32
  | .timeout i => 33 + i

/-- Puts a unit behind those of its rank and below. -/
def rankIn (u : WUnit) : List WUnit → List WUnit
  | [] => [u]
  | v :: r => if u.rank < v.rank then u :: v :: r else v :: rankIn u r

/-- The CLK_CTRL cycle: one of two CLK_CORE cycles. -/
def State.ctrlCycle (s : State) : Nat := s.cycle / 2

/-- How many of the last units of the queue arrived in this CLK_CTRL cycle. -/
def State.newUnits (s : State) : Nat := if s.wvr.newCycle = s.ctrlCycle then min s.wvr.newCount s.wvr.units.length else 0

/-- Puts a unit into the queue, in its place among those of this cycle. -/
def State.placeUnit (s : State) (u : WUnit) : State :=
  let k := s.newUnits
  let n := s.wvr.units.length - k
  { s with wvr := { s.wvr with units := s.wvr.units.take n ++ rankIn u (s.wvr.units.drop n), newCycle := s.ctrlCycle, newCount := k + 1 } }

/-- A delivery in the cycle of its own timeout cancels that timeout: its unit, its count and its flag (R258). The event that the
timeout raised stands (log entry 66). -/
def State.cancelTimeout (s : State) (i : Nat) : State :=
  let k := s.newUnits
  let n := s.wvr.units.length - k
  if (s.wvr.units.drop n).contains (.timeout i) then
    let s := { s with wvr := { s.wvr with units := s.wvr.units.take n ++ (s.wvr.units.drop n).erase (.timeout i), newCount := k - 1 } }
    ((s.count (C.wvr 6) (2 ^ 64 - 1)).setFld (F.WVR_PDU_STATE_TIMED_OUT i) 0).judgeSender (s.pduSender i)
  else s

/-- A unit joins the queue of 256; where that is full the last in the order of R257 is lost and counted. A PDU that enters is a
reception of its definition. -/
def State.queueUnit (s : State) (u : WUnit) : State :=
  let s := match u with
    | .pdu ty src z f id .. => (match s.pduMatch ty src z f id with
      | some i => s.cancelTimeout i
      | none => s)
    | .timeout _ => s
  let t := s.placeUnit u
  if 256 < t.wvr.units.length then
    let s := if t.wvr.units.getLast? = some u then s else { t with wvr := { t.wvr with units := t.wvr.units.dropLast, newCount := t.wvr.newCount - 1 } }
    (s.inc (C.wvr 3)).wvrEvent 4
  else
    match u with
    | .pdu ty src z f id _ stamp _ => (match t.pduMatch ty src z f id with
      | some i => t.pduReceived i stamp
      | none => t)
    | .timeout _ => t

/-- A receive PDU's deadline has passed (R266). The deadline is not renewed until the next reception. -/
def State.pduTimeout (s : State) (i : Nat) (suspended : Bool) : State :=
  match mapGet (fun _ => none) s.wvr.deadline i with
  | none => s
  | some d =>
    if suspended ∨ s.nowNs < d then s
    else
      let s := { s with wvr := { s.wvr with deadline := mapSet (fun _ => none) s.wvr.deadline i none } }
      let s := ((s.setFld (F.WVR_PDU_STATE_TIMED_OUT i) 1).inc (C.wvr 6)).wvrEvent 0
      (s.judgeSender (s.pduSender i)).queueUnit (.timeout i)

end Sys2Proof.Machine
end

