-- ==== Sys2Proof/Machine/Pipeline.lean ====
section
/-!
DEFINITION. A frame's passes: parser stage, classifier, destinations, policing and enqueue, recirculation, and the
checks made when the last byte is written (spec/01, R28 to R32; spec/04, R98, R104, R110 to R117; spec/05, R144 to
R149; spec/06, R172, R173; spec/15, R438 to R440).
-/

namespace Sys2Proof.Machine

/-! ## What a pass reads -/

/-- The parser's view of a frame: its bytes from START; where the 256 bytes hold all of them but the FCS, their number; and the
same where the parse window was the frame's last byte (R104, R542). -/
def Frame.passBytes (f : Frame) (acf known : Bool) : PassBytes :=
  let v := frameBytes f acf
  let whole := known || (f.ended && !f.cut && decide (v.length ≤ 256))
  ⟨v.take 256, if whole then some v.length else none, if known then some v.length else none⟩

/-- The frame's end had been written by its parse window: it has no byte after the 256th. -/
def Frame.endKnown (f : Frame) : Bool := f.ended && !f.cut && decide (f.bytes.length ≤ 256)

/-- Walks a pass of a frame. The checks of later ACF messages reach the bytes written by the parse window, or all of them where the
frame's end is known (R117). -/
def State.walkPass (s : State) (f : Frame) (i : PassInfo) (second known : Bool) : Walk :=
  let b := f.passBytes i.acf known
  let w := if i.acf then
      let v := frameBytes f true
      let p := walkAcf b (if known then v else v.take (256 - f.start)) i.walk.acfLen
      { p with w := { p.w with acfLen := i.walk.acfLen } }
    else walkEthernet s.prsCfg b
  walkKey w second (min f.port 34) i.zone i.metaByte

/-- Puts a frame's pipeline stage. -/
def State.setStage (s : State) (h : Nat) (g : Stage) : State := s.modFrame h (fun f => { f with stage := g })

/-- A pass that ends the frame's way through the pipeline. -/
def State.passEnd (s : State) (h : Nat) : State := (s.setStage h .passed).tryRelease h

/-! ## Specials of the parser stage -/

/-- P0, and P1 with P1_EN, while pairing is configured (spec/15, R413). -/
def State.pairPort (s : State) (p : Nat) : Bool :=
  s.fld F.PAIR_CFG_MODE != 0 && (p == 8 || (p == 9 && s.flag F.PAIR_CFG_P1_EN))

/-- What the parser stage makes of a frame: a special, or none with whether it is foreign to a pair port. -/
def State.special (s : State) (f : Frame) (b : List Byte) (w : Walk) : Option Special × Bool :=
  let untagged := w.tagCount == 0 && beAt b 12 2 == 0x88B5
  if w.ethertype = 0x88F7 ∧ w.da = 0x0180C200000E then (some .gptp, false)
  else if s.pairPort f.port then
    (if untagged && beAt b 14 1 == 0xFA then (some .pair, false)
    else if untagged && beAt b 14 1 == 0xFB && s.joinedCfg then (some .crossing, false)
    else (none, true))
  else if f.port < 34 ∧ w.ethertype = 0x88B6 then (some .ring, false)
  else if f.port < 34 ∧ w.hdrSeen.testBit 13 ∧ s.portZone f.port = s.mgtZone then (some .command, false)
  else (none, false)

/-- A gPTP message that the time block does not handle: another type or domain, or a port whose role is DISABLED
(spec/07, R213). -/
def State.gptpForeign (s : State) (port : Nat) (b : List Byte) : Bool :=
  let o := afterTags s.altTpid b 3 12 + 2
  let ty := beAt b o 1 % 16
  !(ty == 0 || ty == 2 || ty == 3 || ty == 8 || ty == 10) || beAt b (o + 4) 1 != 0 ||
    s.fld (F.GPTP_PORT_CFG_ROLE port) == 0 && !s.pairPort port

/-- Offset of a consent-ring message in a frame: after the EtherType that follows the VLAN tags (spec/13, R360). -/
def State.ringOff (s : State) (b : List Byte) : Nat := afterTags s.altTpid b 3 12 + 2

/-- A frame comes from a ring member: from its port, with its address and VID, or untagged where that is 0 (R360). -/
def State.ringFrom (s : State) (port : Nat) (b : List Byte) (m : Nat) : Bool :=
  let vid := s.fld (F.NM_MBR_DATA0_VID m)
  let tagged := s.ringOff b != 14
  s.flag (F.NM_MBR_DATA0_EN m) && s.fld (F.NM_MBR_DATA0_PORT m) == port &&
    beAt b 6 6 == s.fld (F.NM_MBR_DATA1_MAC_HI m) * 0x100000000 + s.fld (F.NM_MBR_DATA2_MAC_LO m) &&
    (if vid = 0 then !tagged else tagged && beAt b 14 2 % 4096 == vid)

/-- A consent-ring frame that is discarded and counted: no member's, of another version or an undefined type (R360,
R361). -/
def State.ringForeign (s : State) (port : Nat) (b : List Byte) : Bool :=
  let o := s.ringOff b
  let ty := beAt b (o + 1) 1
  beAt b o 1 != 1 || ty == 0 || decide (5 < ty) || !(List.range 32).any (s.ringFrom port b)

/-- A special frame found good goes to the time block, the MC or the pair logic (R98; spec/10, R297). -/
def State.deliverSpecial (s : State) (h : Nat) : State :=
  match s.frame h, (s.info h).special with
  | some f, some k =>
    if k = .crossing ∨ f.bad then s
    else if k = .ring && s.ringForeign f.port (s.frameView h) then s.inc (C.nm 10)
    else if k = .pair && beAt (s.frameView h) 15 1 != 1 then s.inc (C.pair 12)
    else if k = .gptp && s.gptpForeign f.port (s.frameView h) then s.inc (C.time 5)
    else
      let dma := k == .command
      let s := if dma then s.holdDma h else s
      { s with mgt := { s.mgt with inbox := s.mgt.inbox ++ [⟨if dma then some h else none, k, f.port, f.stamp, s.frameView h⟩] } }
  | _, _ => s

/-! ## Hand-over to the Weaver (R110; spec/09, R257, R259) -/

/-- The unit of an ACF message, where it is one of CAN or CAN brief (R110, R259). -/
def acfUnit (zone now : Nat) (m : List Byte) : Option WUnit :=
  let ty := beAt m 0 1 / 2
  let hdr := if ty = 1 then 16 else 8
  let id := beAt m (hdr - 4) 4 % 0x20000000
  let pad := bits (beAt m 2 1) 7 6
  if ty = 1 ∨ ty = 2 then
    some (.pdu ty (32 + beAt m 3 1 % 32) zone (bits (beAt m 2 1) 3 3) id ((m.drop hdr).take (m.length - hdr - pad)) now .none)
  else none

/-- Hands over the ACF messages of a frame in order, `left` bytes of data from the front. -/
def State.handAcf (s : State) (zone : Nat) (b : List Byte) : Nat → Nat → State
  | 0, _ => s
  | fuel + 1, left =>
    let n := beAt b 0 2 % 512 * 4
    if left < 2 ∨ n = 0 ∨ left < n then s
    else
      let s := match acfUnit zone s.nowNs (b.take n) with
        | some u => s.queueUnit u
        | none => s.inc (C.wvr 1)
      s.handAcf zone (b.drop n) fuel (left - n)

/-- Hands over the containers of a frame in order. -/
def State.handContainers (s : State) (zone : Nat) (b : List Byte) : Nat → State
  | 0 => s
  | fuel + 1 =>
    let n := beAt b 4 4
    if b.length < 8 ∨ b.length < 8 + n then s
    else (s.queueUnit (.pdu 0 64 zone 0 (beAt b 0 4) ((b.drop 8).take n) s.nowNs .none)).handContainers zone (b.drop (8 + n)) fuel

/-- A TO_WEAVER frame found good is handed over. -/
def State.handOver (s : State) (h : Nat) : State :=
  let i := s.info h
  let b := s.frameView h
  let s := s.setInfo h { i with toWeaver := false }
  if i.acf then s.handAcf i.zone b acfMax (min i.walk.acfLen b.length)
  else s.handContainers i.zone ((b.take i.walk.contEnd).drop i.walk.contOff) 1200

/-! ## Copies -/

/-- Cut-through conditions of R159 that the ingress side decides. -/
def State.ctIngress (s : State) (f : Frame) (i : PassInfo) (second : Bool) : Bool :=
  s.flag (F.PORT_L2_CT_EN (min f.port 34)) && !i.ctDis && !second && !(decide (26 ≤ f.port) && decide (f.port < 34)) &&
    !f.pre && i.credit.isNone

/-- Cut-through conditions of R159 for one egress port. -/
def State.ctEgress (s : State) (f : Frame) (p : Nat) : Bool :=
  s.flag (F.PORT_L2_CT_EN p) && !(decide (26 ≤ p) && decide (p < 34)) && decide (s.portRate p ≤ s.portRate (min f.port 34))

/-- A copy that a pass plans: destination (R142's coding), kind of R470, and whether it is edited. -/
structure Plan where
  dest : Nat
  kind : Nat
  edited : Bool
  deriving DecidableEq, Repr

/-- What a pass decides for all its copies. -/
structure Deal where
  zone : Nat
  queue : Nat
  vid : Nat
  redir : Bool
  plans : List Plan
  colour : Nat
  /-- STREAM_ID, where STREAM_EN is 1 -/
  stream : Option Nat
  seqFn : Nat
  frer : Nat
  weaver : Bool
  /-- the queue of the TO_MGT copy (R110), where it is another -/
  mgtQueue : Option Nat
  deriving DecidableEq, Repr

/-- The queue of a planned copy. -/
def Deal.queueOf (d : Deal) (p : Plan) : Nat :=
  match d.mgtQueue with
  | some q => if p.dest = 34 ∧ p.kind = 0 then q else d.queue
  | none => d.queue

/-- A plan put in its place in the order of the egress buffer-read slot: higher queue, then lower destination (spec/01, R36; a
copy that is not enqueued yet has no finish tag). -/
def Deal.place (d : Deal) (p : Plan) : List Plan → List Plan
  | [] => [p]
  | x :: r =>
    if d.queueOf x < d.queueOf p ∨ (d.queueOf x = d.queueOf p ∧ p.dest < x.dest) then p :: x :: r else x :: d.place p r

/-- The planned copies in that order. -/
def Deal.ordered (d : Deal) : List Plan := d.plans.foldl (fun l p => d.place p l) []

/-- The action 1 judgement of every planned copy, in order (R172, R294, R295). -/
def State.judgePlans (s : State) (f : Frame) (port zone : Nat) : List Plan → List Plan × List Charge × State
  | [] => ([], [], s)
  | p :: r =>
    let (ok, ch, s) := s.zoneJudge f port zone p.dest
    let (l, chs, s) := s.judgePlans f port zone r
    (if ok then p :: l else l, ch ++ chs, s)

/-- What actions 2 to 7 of R172 leave of a frame that they do not discard: its colour, the number it was given, whether its R-TAG
is removed, and the stream whose SDU is checked at its end. -/
structure Policed where
  colour : Nat
  rtag : Option Nat
  pop : Bool
  sdu : Option Nat
  deriving DecidableEq, Repr

/-- Actions 5 to 7 (R172, R173). -/
def State.policeColour (s : State) (d : Deal) (colour : Nat) (pop : Bool) (sdu : Option Nat) : Option Policed × State :=
  let s := if colour = 1 then s.inc (C.sch 4) else s
  if colour = 2 then (none, s.inc (C.sch 2))
  else
    let dropYellow : Bool := match d.stream with
      | some i => s.flag (F.STRM_WIN_FILTER_DROP_YELLOW i)
      | none => false
    if colour == 1 && dropYellow then (none, s.inc (C.sch 3))
    else if d.seqFn = 1 then
      let (n, s) := s.frerGenerate d.frer
      (some ⟨colour, n, pop, sdu⟩, s)
    else (some ⟨colour, none, pop, sdu⟩, s)

/-- Actions 2 to 7 of R172 for a frame of which a copy survived action 1, with what its meter charged, which stands and is
refunded at the frame's end also where a later action discards the frame (R181). -/
def State.police (s : State) (f : Frame) (d : Deal) (rtag : Option Nat) : Option Policed × List Charge × State :=
  let (ok, sdu, s) := match d.stream with
    | some i => s.streamFilter f i
    | none => (true, none, s)
  if !ok then (none, [], s)
  else
    let (ok, s) := if d.seqFn = 2 then s.frerRecover d.frer rtag else (true, s)
    if !ok then (none, [], s)
    else
      let pop := d.seqFn == 2 && s.flag (F.SEQR_WIN_CFG_EN d.frer) && s.flag (F.SEQR_WIN_CFG_POP_RTAG d.frer)
      match d.stream with
      | some i =>
        if s.flag (F.STRM_WIN_FILTER_METER_EN i) then
          let (c, ch, s) := s.meter f i d.colour
          let (r, s) := s.policeColour d c pop sdu
          (r, ch, s)
        else
          let (r, s) := s.policeColour d d.colour pop sdu
          (r, [], s)
      | none =>
        let (r, s) := s.policeColour d d.colour pop sdu
        (r, [], s)

/-- The crossing tag of a VOQ copy (spec/15, R439). -/
def crossBytes (ingress gen d colour queue : Nat) (redir : Bool) (zone vid : Nat) : List Nat :=
  [0x88, 0xB5, 0xFB, ingress % 128 * 2 + gen % 2, d * 4 + colour, queue * 32 + b2n redir * 16 + zone, vid / 256, vid % 256]

/-- Makes one surviving copy and enqueues it. -/
def State.dealCopy (h : Nat) (d : Deal) (p : Policed) (second : Bool) (pl : Plan) (s : State) : State :=
  match s.frame h with
  | none => s
  | some f =>
    let i := s.info h
    let launch := match i.inj with
      | some j => j.launch
      | none => none
    let c : Copy := ⟨some h, [], none, pl.kind, p.rtag, p.pop, launch, 0, .none, false, none⟩
    if pl.dest < 35 then
      let e : Edit := ⟨d.vid, (s.vlanUntag d.vid).testBit pl.dest, s.fld (F.PORT_L2_DEFAULT_PCP (min f.port 34)), i.walk.tagCount⟩
      s.enqueue pl.dest (d.queueOf pl) { c with
        edit := if pl.edited then some e else none, ctOk := s.ctIngress f i second && s.ctEgress f pl.dest }
    else
      let dd := pl.dest - 64
      let tag := crossBytes f.port f.gen dd p.colour d.queue d.redir d.zone d.vid
      s.enqueueVoq (8 * dd + d.queue) { c with ctOk := s.ctIngress f i second, cross := some tag }

/-- Step 4 and 5 of a pass: the copies are judged, the frame policed, and what survives enqueued. -/
def State.deal (s : State) (h : Nat) (d : Deal) (second : Bool) : State :=
  match s.frame h with
  | none => s
  | some f =>
    let (pl, ch, s) := s.judgePlans f f.port d.zone d.ordered
    if pl.isEmpty && !d.weaver then s.setInfo h { s.info h with charges := (s.info h).charges ++ ch }
    else
      let (r, mc, s) := s.police f d (s.info h).walk.rtag
      match r with
      | none => s.setInfo h { s.info h with charges := (s.info h).charges ++ ch ++ mc }
      | some p =>
        let s := s.setInfo h { s.info h with
          charges := (s.info h).charges ++ ch ++ mc, sdu := p.sdu, toWeaver := d.weaver, zone := d.zone }
        let s := s.modFrame h (fun f => { f with colour := p.colour })
        forEach pl (State.dealCopy h d p second) s

/-! ## Dispositions (R110, R111, R113) -/

/-- The queue of a frame whose action leaves it open (R146). -/
def State.pcpQueue (s : State) (f : Frame) (w : Walk) : Nat :=
  let pcp := if 1 ≤ w.tagCount then w.f 167 165 else s.fld (F.PORT_L2_DEFAULT_PCP (min f.port 34))
  bits (s.fld (F.PORT_PCP_MAP (min f.port 34))) (3 * pcp + 2) (3 * pcp)

/-- Destinations of FORWARD and L2_ONLY with learning (R140, R142, R144). -/
def State.l2Dests (s : State) (h : Nat) (f : Frame) (vid : Nat) (w : Walk) : List Plan × State :=
  let port := min f.port 34
  if s.vlanDrops vid port then ([], s.inc (C.buf 7))
  else
    let (req, s) := if s.flag (F.PORT_L2_LEARN_EN port) then s.learnLookup vid port (s.info h).sa else (none, s)
    let s := s.setInfo h { s.info h with learn := req }
    let (l, s) := s.resolve vid port w
    (l.map (fun d => ⟨d, 0, true⟩), s)

/-- A deal without action word fields: the frame is green, with no stream, sequence function or copies. -/
def Deal.plain (zone queue vid : Nat) (redir : Bool) (plans : List Plan) : Deal :=
  ⟨zone, queue, vid, redir, plans, 0, none, 0, 0, false, none⟩

/-- L2_ONLY (R110). -/
def State.doL2 (s : State) (h : Nat) (f : Frame) (w : Walk) (second : Bool) : State :=
  let vid := s.lookupVid none w (min f.port 34)
  let (pl, s) := s.l2Dests h f vid w
  s.deal h (Deal.plain (s.info h).zone (s.pcpQueue f w) vid false pl) second

/-- The copies of R111. -/
def extraPlans (a : Nat) : List Plan :=
  (if A.copyMgt a then [⟨34, 1, false⟩] else []) ++
  (if A.mirrorEn a && A.mirrorPort a != 127 then [⟨A.mirrorPort a, 2, false⟩] else [])

/-- LEE_ONLY's destinations and queue, where a stream of the Lee table matches. -/
def State.leePlans (s : State) (f : Frame) (w : Walk) : Option (List Plan × Nat) :=
  (s.leeMatch f.port w).map (fun l => ((maskList 26 (Lee.egress l)).map (fun d => ⟨d, 0, false⟩), Lee.queue l))

/-- Partner destinations of REDIRECT or a mirror outside running joined pairing make no copy and are counted (spec/15,
R445). -/
def State.dropPartner (s : State) (l : List Plan) : List Plan × State :=
  if s.joined then (l, s)
  else
    let out := (l.filter (fun p => decide (64 ≤ p.dest))).length
    (l.filter (fun p => decide (p.dest < 64)), if out = 0 then s else s.count (C.buf 12) out)

/-- An action word's disposition but RECIRCULATE (R110); L2_ONLY ignores CT_DIS with the word's other fields. Under LEE_ONLY the
copies of R111 take the stream's queue with the frame, and they are made where no stream matches too (DESIGN CHOICE: neither
rule says; log entry 67). -/
def State.doAction (s : State) (h : Nat) (f : Frame) (w : Walk) (a : Nat) (second : Bool) : State :=
  let zone := if A.zoneEn a then A.zone a else (s.info h).zone
  let queue := if A.queueEn a then A.queue a else s.pcpQueue f w
  let vid := s.lookupVid (if A.vidEn a then some (A.vid a) else none) w (min f.port 34)
  let s := s.setInfo h { s.info h with ctDis := A.disposition a != 3 && A.ctDis a }
  let mk (plans : List Plan) (redir weaver : Bool) (mq : Option Nat) (q : Nat) : Deal :=
    ⟨zone, q, vid, redir, plans, A.colour a, if A.streamEn a then some (A.stream a) else none, A.seqFn a, A.frer a,
      weaver, mq⟩
  match A.disposition a with
  | 0 =>
    let (pl, s) := s.l2Dests h f vid w
    let (ex, s) := s.dropPartner (extraPlans a)
    s.deal h (mk (pl ++ ex) false false none queue) second
  | 2 =>
    let (ex, s) := s.dropPartner (extraPlans a)
    s.deal h (mk (⟨34, 0, false⟩ :: ex) true false (some (if A.queueEn a then A.queue a else 0)) queue) second
  | 3 => s.doL2 h f w second
  | 4 =>
    let (ex, s) := s.dropPartner (extraPlans a)
    (match s.leePlans f w with
      | some (pl, q) => s.deal h (mk (pl ++ ex) false false none q) second
      | none => (s.inc (C.cls 10)).deal h (mk ex false false none queue) second)
  | 5 =>
    let d : List Plan := if A.dest a = 127 then [] else [⟨A.dest a, 0, false⟩]
    let (pl, s) := s.dropPartner (d ++ extraPlans a)
    s.deal h (mk pl true false none queue) second
  | 7 =>
    let (ex, s) := s.dropPartner (extraPlans a)
    s.deal h (mk ex false true none queue) second
  | _ => s

/-- A default action (R113). -/
def State.doDefault (s : State) (h : Nat) (f : Frame) (w : Walk) (d : Nat) (second : Bool) : State :=
  let zone := (s.info h).zone
  let q := s.pcpQueue f w
  let vid := s.lookupVid none w (min f.port 34)
  match d with
  | 1 => s.deal h (Deal.plain zone 0 vid true [⟨34, 0, false⟩]) second
  | 2 => s.doL2 h f w second
  | 3 => (match s.leePlans f w with
    | some (pl, ql) => s.deal h (Deal.plain zone ql vid false pl) second
    | none => (s.inc (C.cls 10)).deal h (Deal.plain zone q vid false []) second)
  | _ => s

/-- The verdict of a pass, but RECIRCULATE. -/
def State.doVerdict (s : State) (h : Nat) (f : Frame) (w : Walk) (v : Verdict) (second : Bool) : State :=
  match v with
  | .act a => s.doAction h f w a second
  | .dflt d => s.doDefault h f w d second

/-! ## Recirculation (R30, R114 to R116) -/

/-- CLK_CORE cycles of a pass (spec/01, R28). -/
def passCycles : Nat := 180

/-- A first pass whose action is RECIRCULATE. The second starts no earlier than 8 cycles after the first ends (spec/01, R30). -/
def State.recirculate (s : State) (h : Nat) (w : Walk) (a : Nat) : State :=
  if 64 ≤ s.data.recirc.length then (s.inc (C.cls 8)).passEnd h
  else
    let i := s.info h
    let acf := A.recMode a == 1
    let start := if acf then w.acfOff else 4 * A.popTags a
    let s := s.setInfo h { i with
      zone := if A.zoneEn a then A.zone a else i.zone, metaByte := A.metaByte a, acf := acf, secondAt := s.cycle + passCycles + 8 }
    let s := s.modFrame h (fun f => { f with start := start, stage := .second })
    { s with data := { s.data with recirc := s.data.recirc ++ [h] } }

/-! ## The end of a frame (R104, R136, R144, R179, R181) -/

/-- A check of the first pass, over the frame as that pass saw it, fails at the frame's end (R104). -/
def State.lateFirst (s : State) (f : Frame) (i : PassInfo) : Bool :=
  i.late && (s.walkPass { f with start := 0 } { i with acf := false } false true).status == .inconsistent

/-- The same of the second pass. -/
def State.lateSecond (s : State) (f : Frame) (i : PassInfo) : Bool :=
  i.late2 && (s.walkPass f i true true).status == .inconsistent

/-- The checks that needed the end: a contradiction that a pass did not see makes the frame bad (R104). -/
def State.lateWalk (s : State) (h : Nat) : State :=
  match s.frame h with
  | none => s
  | some f =>
    let i := s.info h
    if !(i.late || i.late2) || f.bad then s
    else
      let t := s.setInfo h { i with late := false, late2 := false }
      if s.lateFirst f i || s.lateSecond f i then (t.inc (C.cls 2)).markBad h else t

/-- The SDU check of R179 at the frame's end. -/
def State.lateSdu (s : State) (h : Nat) : State :=
  match s.frame h, (s.info h).sdu with
  | some f, some i =>
    let s := s.setInfo h { s.info h with sdu := none }
    if !f.bad && s.sduOver i f.bytes.length then (s.sduFail i).markBad h else s
  | _, _ => s

/-- The refunds of R181. -/
def State.refunds (s : State) (h : Nat) : State :=
  match s.frame h with
  | none => s
  | some f =>
    let l := (s.info h).charges
    let s := s.setInfo h { s.info h with charges := [] }
    forEach l (fun c s => s.refund f.bytes.length c) s

/-- What a good frame does at its end: learn request, Weaver hand-over, delivery of a special. -/
def State.goodEnd (s : State) (h : Nat) : State :=
  match s.frame h with
  | none => s
  | some f =>
    if f.bad then s
    else
      let i := s.info h
      let s := match i.learn with
        | some r => (s.setInfo h { i with learn := none }).queueLearn r
        | none => s
      let s := if (s.info h).toWeaver then s.handOver h else s
      let sp := (s.info h).special
      let s := s.deliverSpecial h
      if sp = some .crossing then s else s.setInfo h { s.info h with special := none }

/-- The end of a frame that has had its passes; a frame that still waits for one has it later. -/
def State.endChecks (s : State) (h : Nat) : State :=
  match s.frame h with
  | none => s
  | some f =>
    if !f.written then s
    else
      let s := ((s.lateWalk h).lateSdu h).refunds h
      match s.frame h with
      | none => s
      | some g => if g.stage = .passed ∨ g.bad then (s.goodEnd h).tryRelease h else s

/-- The last byte of a frame is written (R104). -/
def State.writeEnd (s : State) (h : Nat) : State :=
  (s.modFrame h (fun f => { f with written := true })).endChecks h

/-! ## The passes -/

/-- Whether the data plane runs: forwarding is enabled and no fatal fault has halted it (spec/02, R69; spec/14,
R397). -/
def State.running (s : State) : Bool := s.fld F.BOOT_STATUS_STATE == 0xB && s.saf.mode == .normal

/-- The parser stage and lookup of a frame's first pass. -/
def State.firstPass (s : State) (h : Nat) : State :=
  match s.frame h with
  | none => s
  | some f0 =>
    let zone := match (s.info h).inj with
      | some j => j.zone
      | none => s.portZone (min f0.port 34)
    let f := { f0 with written := f0.ended && !f0.cut }
    let s := s.setFrame h f
    let i := { s.info h with zone := zone, metaByte := 0, acf := false }
    let s := s.setInfo h i
    let w := s.walkPass f i false f.endKnown
    let s := s.setInfo h { i with walk := w, late := !f.endKnown && w.status != .inconsistent, sa := w.sa }
    let s := s.countStatus w.status
    match s.special f (s.frameView h) w with
    | (some .crossing, _) =>
      let s := s.setInfo h { s.info h with special := some .crossing }
      { (s.setStage h .second) with data := { s.data with crossing := s.data.crossing ++ [h] } }
    | (some k, _) => ((s.setInfo h { s.info h with special := some k }).setStage h .passed).endChecks h
    | (none, true) => (((s.inc (C.pair 12)).setInfo h { s.info h with late := false }).setStage h .passed).endChecks h
    | (none, false) =>
      let s := s.modFrame h (fun f => { f with gen := s.fld F.CLS_GEN_ACTIVE })
      let (v, s) := s.classify w (s.fld F.CLS_GEN_ACTIVE) (min f.port 34)
      match (s.info h).inj, v with
      | some ⟨z, some (p, q), _⟩, _ =>
        ((s.deal h (Deal.plain z q 0 true [⟨p, 0, false⟩]) false).setStage h .passed).endChecks h
      | _, .act a =>
        if A.disposition a = 6 then (s.recirculate h w a).endChecks h
        else ((s.doAction h f w a false).setStage h .passed).endChecks h
      | _, .dflt d => ((s.doDefault h f w d false).setStage h .passed).endChecks h

/-- The second pass of a frame (R30, R114 to R117): a third pass is not taken (R116). A pass of status DEEP that asks for one is
counted in PRS_DEEP and in PRS_INCONSISTENT (DESIGN CHOICE: R116 sets its status to INCONSISTENT after DEEP was counted; log
entry 67). -/
def State.secondPassOf (s : State) (h : Nat) : State :=
  match s.frame h with
  | none => s
  | some f =>
    let i := s.info h
    let w := s.walkPass f i true f.endKnown
    let s := s.setInfo h { i with walk := w, late2 := !f.endKnown && w.status != .inconsistent }
    let s := (s.inc (C.cls 7)).countStatus w.status
    let (v, s) := s.classify w f.gen (min f.port 34)
    let s := match v with
      | .act a =>
        if A.disposition a = 6 then
          ((if w.status = ParseStatus.inconsistent then s else s.inc (C.cls 1)).inc (C.cls 6)).doDefault h f
            { w with status := ParseStatus.inconsistent } (s.parseErrDefault (min f.port 34)) true
        else s.doAction h f w a true
      | .dflt d => s.doDefault h f w d true
    (s.setStage h .passed).endChecks h

/-! ## Crossing frames (spec/15, R439, R440) -/

/-- The pass of a crossing frame: no lookup, the tag decides. -/
def State.crossPass (s : State) (h : Nat) : State :=
  match s.frame h with
  | none => s
  | some f =>
    let b := f.bytes
    let ingress := 64 + beAt b 15 1 / 2
    let dest := beAt b 16 1 / 4
    let colour := beAt b 16 1 % 4
    let queue := beAt b 17 1 / 32
    let redir := (beAt b 17 1).testBit 4
    let zone := beAt b 17 1 % 16
    let vid := beAt b 18 2 % 4096
    let i := { s.info h with zone := zone, acf := false }
    let s := s.modFrame h (fun f => { f with start := 8, gen := beAt b 15 1 % 2 })
    let s := s.setInfo h i
    let w := s.walkPass { f with start := 8 } i false true
    let s := s.setInfo h { i with walk := w, late := false, special := none, sa := w.sa }
    let (req, s) := if redir || s.vlanDrops vid ingress then (none, s) else s.learnLookup vid ingress w.sa
    let s := s.setInfo h { s.info h with learn := req }
    let mk (l : List Plan) : Deal := { Deal.plain zone queue vid redir l with colour := colour }
    let s :=
      if dest < 35 then
        (if !redir && (!s.flag (F.VLAN_WIN_DATA0_VALID vid) || !(s.vlanMember vid).testBit dest) then s.inc (C.buf 8)
        else s.deal h (mk [⟨dest, 0, !redir⟩]) true)
      else if dest = 35 then s.deal h (mk ((s.flood vid ingress w false).map (fun d => ⟨d, 0, true⟩))) true
      else s
    (s.setStage h .passed).endChecks h

end Sys2Proof.Machine
end

