-- ==== Sys2Proof/Machine/Ports.lean ====
section
/-!
DEFINITION. The Ethernet ports: reception, the injection path of port M, MAC registers with their rejections, link
state, MAC merge with its verify protocol, and the MDIO masters (spec/03, R73 to R96; spec/05, R138, R160, R161;
spec/16, R541; spec/09, R280).
-/

namespace Sys2Proof.Machine

/-! ## Kinds of port (R73, R94) -/

/-- R73 offers a MODE code for a port. -/
def modeOffered (p mode : Nat) : Bool :=
  if p < 8 then decide (mode ≤ 3) else if p < 10 then mode == 4 || mode == 5
  else if p < 26 then mode == 8 || mode == 9 else if p < 34 then mode == 12 else mode == 15

/-- A port's type defines a ROLE (R94). -/
def roleDefined (p role : Nat) : Bool :=
  if p < 10 then role == 0 else if p < 26 then decide (role ≤ 1) else if p < 34 then decide (role ≤ 2) else role == 0

/-- B, P and E ports have MAC merge. -/
def hasMerge (p : Nat) : Bool := decide (p < 26)

/-! ## Hidden port state -/

def State.phyLink (s : State) (p : Nat) : Bool := mapGet (fun _ => false) s.ports.phyLink p
def State.setPhyLink (s : State) (p : Nat) (b : Bool) : State :=
  { s with ports := { s.ports with phyLink := mapSet (fun _ => false) s.ports.phyLink p b } }

/-- USXGMII link of a B port, and the speed its PHY reported last (R74, R86). -/
def State.usxLink (s : State) (p : Nat) : Bool := mapGet (fun _ => false) s.ports.usxLink p
def State.setUsxLink (s : State) (p : Nat) (b : Bool) : State :=
  { s with ports := { s.ports with usxLink := mapSet (fun _ => false) s.ports.usxLink p b } }
def State.phySpeed (s : State) (p : Nat) : Nat := mapGet (fun _ => 0) s.ports.phySpeed p
def State.setPhySpeed (s : State) (p n : Nat) : State :=
  { s with ports := { s.ports with phySpeed := mapSet (fun _ => 0) s.ports.phySpeed p n } }

/-- MERGE_CFG in effect (R83). -/
def State.mergeEff (s : State) (p : Nat) : Word := mapGet (fun _ => 0x1400) s.ports.mergeEff p
def State.setMergeEff (s : State) (p : Nat) (w : Word) : State :=
  { s with ports := { s.ports with mergeEff := mapSet (fun _ => 0x1400) s.ports.mergeEff p w } }
def State.mergeOff (s : State) (p : Nat) : Bool := mapGet (fun _ => false) s.ports.mergeOff p
def State.setMergeOff (s : State) (p : Nat) (b : Bool) : State :=
  { s with ports := { s.ports with mergeOff := mapSet (fun _ => false) s.ports.mergeOff p b } }
def State.mergeOn (s : State) (p : Nat) : Bool := hasMerge p && (s.mergeEff p).toNat.testBit 0

def State.verifies (s : State) (p : Nat) : Nat := mapGet (fun _ => 0) s.ports.verifies p
def State.setVerifies (s : State) (p n : Nat) : State :=
  { s with ports := { s.ports with verifies := mapSet (fun _ => 0) s.ports.verifies p n } }

/-- Starts or ends verification as EN, VERIFY_DIS and the link say (R82). -/
def State.restartVerify (s : State) (p : Nat) : State :=
  let st := if !s.mergeOn p then 0 else if (s.mergeEff p).toNat.testBit 8 then 4 else 1
  (s.setFld (F.MERGE_STATUS_VERIFY_STATE p) st).setVerifies p 0

/-- Preemption is active (R82). -/
def State.preempts (s : State) (p : Nat) : Bool :=
  s.mergeOn p && (s.fld (F.MERGE_STATUS_VERIFY_STATE p) == 2 || s.fld (F.MERGE_STATUS_VERIFY_STATE p) == 4)

/-- A queue of a port is served by the preemptable MAC. -/
def State.pmacQueue (s : State) (p q : Nat) : Bool := s.preempts p && (s.mergeEff p).toNat.testBit (16 + q)

/-! ## Stamps (R91; spec/07, R210) -/

/-- The ingress stamp of a frame that arrives now, in 2^-40 ns. -/
def State.rxStamp (s : State) (p : Nat) : Nat := s.stampClock - s.fld (F.TS_COMP_RX_COMP p) * 0x100000000

/-- The egress stamp of a frame that leaves now. -/
def State.txStamp (s : State) (p : Nat) : Nat := s.stampClock + s.fld (F.TS_COMP_TX_COMP p) * 0x100000000

/-! ## Reception (R76) -/

/-- Ends a frame in the buffer that is not passed on: bad, with no further byte. -/
def State.discardFrame (s : State) (h : Nat) : State :=
  let s := s.markBad h
  let s := s.modFrame h (fun f => { f with ended := true, stage := .passed })
  { s with data := { s.data with
    waiting := s.data.waiting.filter (fun k => k != h) } }.tryRelease h

/-- A new frame with its first cell, none where no cell is granted (R138). -/
def State.newFrame (s : State) (p : Nat) (pre : Bool) (stamp : Nat) (inj : Option Inj) : Option Nat × State :=
  match s.grantCell none with
  | none => (none, s.inc (C.buf 0))
  | some (h, s) =>
    let f : Frame := ⟨p, [], false, false, false, false, false, pre, h, 0, 1, true, 0, 0, 0, 0, 0, true, .arriving, none, stamp⟩
    (some h, (s.setFrame h f).setInfo h { PassInfo.empty with inj := inj })

/-- VOQ and cells a crossing frame counts for (spec/15, R442): its tag is read at the parse window. -/
def State.noteCredit (s : State) (h : Nat) : State :=
  match s.frame h with
  | none => s
  | some f =>
    if s.pairPort f.port && s.joinedCfg && beAt f.bytes 12 2 == 0x88B5 && beAt f.bytes 14 1 == 0xFB then
      let v := 8 * (beAt f.bytes 16 1 / 4) + beAt f.bytes 17 1 / 32
      s.setInfo h { s.info h with credit := some (v, cellsOf f.bytes.length) }
    else s

/-- The parse window of a frame: its 256th byte, or its last. The cycle in which it falls orders first passes (spec/01, R36). -/
def State.parseWindow (s : State) (h : Nat) : State :=
  match s.frame h with
  | none => s
  | some f =>
    if f.stage ≠ .arriving ∨ f.bad ∨ (f.bytes.length < 256 ∧ !f.ended) then s
    else if beAt f.bytes 12 2 = 0x8808 then s.discardFrame h
    else
      let s := (s.setStage h .first).noteCredit h
      let s := s.setInfo h { s.info h with window := s.cycle }
      { s with data := { s.data with waiting := s.data.waiting ++ [h] } }

/-- A frame in the buffer has been passed to the pipeline. -/
def State.inPipeline (s : State) (h : Nat) : Bool :=
  match s.frame h with
  | some f => f.stage != .arriving
  | none => false

/-- Nothing more of a reception is stored: its frame keeps what was written (R138), or is no longer there. -/
def State.loseRx (s : State) (m : Nat) (r : RxProg) : State := s.setRx m (some { r with head := none, lost := true })

/-- A reception whose frame has been cut or has left the buffer stores nothing more (R138). -/
def State.checkRx (s : State) (m : Nat) : State :=
  match s.rxAt m with
  | none => s
  | some r => match r.head with
    | none => s
    | some h => match s.frame h with
      | some f => if f.cut then s.loseRx m r else s
      | none => s.loseRx m r

/-- Stores the part of a reception's view that is not yet stored, up to MAX_FRAME + 1 bytes (R76). -/
def State.storeView (s : State) (p m : Nat) (r : RxProg) (ended : Bool) : State :=
  match s.secView p r ended with
  | none =>
    let s := match r.head with
      | some h => s.discardFrame h
      | none => s
    s.loseRx m { r with head := none }
  | some v =>
    if r.lost ∨ v = [] then s.setRx m (some r)
    else
      let (r, s) := match r.head with
        | some _ => (r, s)
        | none =>
          let (o, s) := s.newFrame p (m % 2 == 1) r.stamp none
          ({ r with head := o, lost := o.isNone }, s)
      match r.head with
      | none => s.setRx m (some r)
      | some h =>
        let have' := match s.frame h with
          | some f => f.bytes.length
          | none => v.length
        let lim := s.fld (F.MAC_FRAME_MAX_FRAME p) + 1
        let r := { r with passed := s.inPipeline h }
        let s := (s.setRx m (some r)).modFrame h (fun f => { f with ended := f.ended || ended })
        (s.writeFrame h ((v.take lim).drop have')).checkRx m

/-- The first row of R76 that applies to a frame that ended: 1 runt, 2 oversize, 3 FCS, 4 MAC control, 0 none. A frame that
meets several rows is treated and counted under the first of them (DESIGN CHOICE: R76 does not say; log entry 67). -/
def State.rxRow (s : State) (p : Nat) (r : RxProg) : Nat :=
  let n := match s.secView p r true with
    | some v => v.length
    | none => r.raw.length
  if n < 64 then 1 else if s.fld (F.MAC_FRAME_MAX_FRAME p) < n then 2 else if !fcsGood r.raw then 3
  else if beAt r.raw 12 2 = 0x8808 then 4 else 0

/-- The frame of an ended reception: discarded, bad, or given to the pipeline where it was not yet (R76). -/
def State.rxFrame (s : State) (h row : Nat) (icvBad : Bool) : State :=
  if row = 1 ∨ row = 4 then s.discardFrame h
  else if row ≠ 0 ∨ icvBad then
    let s := s.markBad h
    (s.modFrame h (fun f => { f with stage := .passed })).tryRelease h
  else s.parseWindow h

/-- The end of a frame's reception: counters, the Lee store, and what becomes of the frame (R76; spec/05, R161; spec/14, R402).
RX_FRAMES counts a frame that reached the pipeline: what found no cell, and what MACsec discards or finds bad, did not. -/
def State.rxEnd (s : State) (p m : Nat) (r : RxProg) : State :=
  let s := s.setRx m none
  let row := s.rxRow p r
  let view := (s.secView p r true).getD []
  let dropped := (s.secView p r true).isNone
  let (icvBad, s) := if row = 0 then s.secEnd p r else (false, s)
  let s := s.count (C.mac p 0) r.raw.length
  let s := if fcsStomped r.raw then s.inc (C.buf 18) else s
  let s := if row = 3 ∨ fcsStomped r.raw then s.inc (C.mac p 3) else s
  let s := match row with
    | 1 => s.inc (C.mac p 4)
    | 2 => s.inc (C.mac p 5)
    | 4 => s.inc (C.mac p 6)
    | _ => s
  let good := row == 0 && !dropped && !icvBad
  let s := if good && (r.head.isSome || r.passed) then
      (s.inc (C.mac p 1)).doIf ((beAt r.raw 0 1).testBit 0) (fun s => s.inc (C.mac p 2))
    else s
  let s := if good then s.leeReceive p r.stamp view else s
  let s := match r.head with
    | none => s
    | some h => s.rxFrame h row icvBad
  s.applySaWait p

/-- A reception that is cut short: no further byte arrives (R76, R160); its bytes are counted (R95). -/
def State.rxCut (s : State) (m : Nat) (r : RxProg) : State :=
  let s := ((s.setRx m none).count (C.mac (m / 2) 0) r.raw.length).applySaWait (m / 2)
  match r.head with
  | none => s
  | some h =>
    let s := (s.modFrame h (fun f => { f with cut := true })).markBad h
    (s.modFrame h (fun f => { f with stage := .passed })).tryRelease h

/-- The reception that bytes continue, with the state in which a reception they end leaves the port: the express MAC's frame, a
new preemptable frame, or the frame in reassembly where the counts of the continuation agree with it; none where they belong to
no frame (R76, R81). -/
def State.rxTake (s : State) (p m : Nat) (k : MPacket) : Option RxProg × State :=
  match k, s.rxAt m with
  | .express, some r => (some r, s)
  | .express, none => (some (s.rxBegin p (s.rxStamp p) 0 (!s.running)), s)
  | .start n, old =>
    let s := match old with
      | some r => (s.rxCut m r).inc (C.mac p 7)
      | none => s
    (some (s.rxBegin p (s.rxStamp p) n (!s.running)), s)
  | .cont _ _, none => (none, s.inc (C.mac p 7))
  | .cont n i, some r =>
    if r.count = n ∧ r.frag = i then (some { r with frag := (i + 1) % 4 }, s)
    else (none, (s.rxCut m r).inc (C.mac p 7))

/-- Bytes of a frame arrive on a port (R76, R81). What arrives while the unit does not forward is counted and serves
the Lee path, and nothing of it is stored. -/
def State.receive (s : State) (p : Nat) (k : MPacket) (data : List Byte) (fin : RxEnd) : State :=
  let m := 2 * p + (if k = .express then 0 else 1)
  if fin = .smdErr then s.inc (C.mac p 8)
  else
    let s := match k with
      | .cont _ _ => s.inc (C.mac p 9)
      | _ => s
    match s.rxTake p m k with
    | (none, s) => s
    | (some r, s) =>
      let r := { r with raw := r.raw ++ data }
      match fin with
      | .assemblyErr => (s.rxCut m r).inc (C.mac p 7)
      | .linkLost => (match (s.storeView p m r false).rxAt m with
        | some r => (s.storeView p m r false).rxCut m r
        | none => s)
      | .ended => (match (s.storeView p m r true).rxAt m with
        | some r => (s.storeView p m r true).rxEnd p m r
        | none => s)
      | _ =>
        let s := s.storeView p m r false
        match (s.rxAt m).bind (fun r => r.head) with
        | some h => (s.parseWindow h).checkRx m
        | none => s

/-! ## The injection path of port M -/

/-- Of two frames written cell by cell in turn, the first cell going to the first one: whether the first one ends first, and how
many cells the other one has by then (spec/09, R280). -/
def firstEnds (a b : Nat) : Bool × Nat := if a ≤ b then (true, a - 1) else (false, b)

/-- Cells of a lane's head frame that are still to be written. -/
def LaneFrame.left (f : LaneFrame) (done : Nat) : Nat := max 1 (cellsOf (f.bytes.length + 4) - done)

/-- The frame of port M's lanes that is whole in the buffer next: where both lanes have frames they are written cell by cell in
turn, so that each has half (spec/09, R280; log entry 18). -/
def State.nextLane (s : State) : Option (LaneFrame × State) :=
  let mc (r : List LaneFrame) (w : Nat) : State := { s with mgt := { s.mgt with mcLane := r, lastMc := true, laneCells := (0, w) } }
  let wv (r : List LaneFrame) (m : Nat) : State := { s with mgt := { s.mgt with wvLane := r, lastMc := false, laneCells := (m, 0) } }
  let (m, w) := s.mgt.laneCells
  match s.mgt.mcLane, s.mgt.wvLane with
  | [], [] => none
  | f :: r, [] => some (f, mc r 0)
  | [], f :: r => some (f, wv r 0)
  | a :: ra, b :: rb =>
    if s.mgt.lastMc then
      (match firstEnds (b.left w) (a.left m) with
      | (true, k) => some (b, wv rb (m + k))
      | (false, k) => some (a, mc ra (w + k)))
    else
      (match firstEnds (a.left m) (b.left w) with
      | (true, k) => some (a, mc ra (w + k))
      | (false, k) => some (b, wv rb (m + k)))

/-- A frame that waits for a place in the MC lane takes it (spec/16, R541). -/
def State.refillLane (s : State) : State :=
  match s.mgt.mcWait with
  | [] => s
  | f :: r => if s.mgt.mcLane.length < 64 then
      { s with mgt := { s.mgt with mcLane := s.mgt.mcLane ++ [f], mcWait := r } } else s

/-- The next frame of the lanes enters the buffer at port M, whole (spec/03, R75; spec/09, R280). -/
def State.inject (s : State) : State :=
  match s.nextLane with
  | none => s
  | some (f, s) =>
    let s := s.refillLane
    let b := withFcs f.bytes
    let s := s.count (C.mac 34 0) b.length
    if beAt b 12 2 = 0x8808 then s.inc (C.mac 34 6)
    else
      let (o, s) := s.newFrame 34 false s.stampClock (some f.inj)
      match o with
      | none => s
      | some h =>
        let s := (s.inc (C.mac 34 1)).doIf ((beAt b 0 1).testBit 0) (fun s => s.inc (C.mac 34 2))
        ((s.modFrame h (fun f => { f with ended := true })).writeFrame h b).parseWindow h

/-! ## Link state (R79, R86) -/

/-- The speed in Mb/s that a USXGMII MODE fixes, 0 for another MODE (R73, R74). -/
def usxSpeed (mode : Nat) : Nat := if mode = 1 then 10000 else if mode = 2 then 5000 else if mode = 3 then 2500 else 0

/-- SPEED_MISMATCH of a B port: it is in a USXGMII mode and its PHY reported another speed than MODE fixes (R74). -/
def State.mismatch (s : State) (p : Nat) : Bool :=
  let v := usxSpeed (s.fld (F.MAC_CFG_MODE p))
  v != 0 && s.phySpeed p != 0 && s.phySpeed p != v

/-- The conditions of a B port: poll, block lock, and in a USXGMII mode its link and an agreed speed (R74, R86). -/
def State.linkB (s : State) (p : Nat) : Bool :=
  s.phyLink p && s.flag (F.MAC_STATUS_LOCK p) && (usxSpeed (s.fld (F.MAC_CFG_MODE p)) == 0 || (s.usxLink p && !s.mismatch p))

/-- LINK_UP by its conditions. R86 gives them for B, E and S ports; that a P port's link, which has no PHY, follows its serdes
lock is the model's (DESIGN CHOICE, log entry 67). -/
def State.linkNow (s : State) (p : Nat) : Bool :=
  if p = 34 then s.flag (F.MAC_STATUS_LINK_UP 34)
  else s.flag (F.MAC_CFG_EN p) && !s.portHeld p &&
    (if p < 8 then s.linkB p else if p < 10 then s.flag (F.MAC_STATUS_LOCK p) else s.phyLink p)

/-- Ends a transmission at once: TX_ABORT, and the copy's hold is released (R79). The bytes it had sent are not held
(log entry 5): TX_OCTETS counts a free value from those of its earlier fragments up to its length. -/
def State.abortTx (s : State) (m : Nat) : State :=
  match s.txAt m with
  | none => s
  | some t =>
    let p := m / 2
    let sent := t.done + s.freeNat 14 % (t.len - t.done + 1)
    let s := ((s.used.setTx m none).inc (C.mac p 13)).count (C.mac p 10) sent
    s.endCopy t.queue t.copy

/-- What a port has in reception is cut short. -/
def State.cutRx (s : State) (m : Nat) : State :=
  match s.rxAt m with
  | some r => s.rxCut m r
  | none => s

/-- Recomputes SPEED_MISMATCH and LINK_UP: a change sets LINK_CHANGED, a link that goes down ends what the port transmits and
receives, and one that comes up starts verification again (R74, R79, R82, R86). -/
def State.relink (s : State) (p : Nat) : State :=
  let s := if p < 8 then s.setFld (F.MAC_STATUS_SPEED_MISMATCH p) (b2n (s.mismatch p)) else s
  let now := s.linkNow p
  if now = s.flag (F.MAC_STATUS_LINK_UP p) then s
  else
    let s := (s.setFld (F.MAC_STATUS_LINK_UP p) (b2n now)).raiseFlag (F.MAC_STATUS_LINK_CHANGED p) (beBytes 1 p ++ beBytes 1 (b2n now))
    if now then (if hasMerge p then s.restartVerify p else s)
    else
      let s := ((s.abortTx (2 * p)).abortTx (2 * p + 1)).cutRx (2 * p) |>.cutRx (2 * p + 1)
      if hasMerge p then s.setFld (F.MERGE_STATUS_PMAC_TX p) 0 else s

/-! ## What the MDIO masters hold -/

def State.mdioAt (s : State) (m : Nat) : Option MdioAccess := mapGet (fun _ => none) s.ports.mdio m
def State.setMdio (s : State) (m : Nat) (a : Option MdioAccess) : State :=
  { s with ports := { s.ports with mdio := mapSet (fun _ => none) s.ports.mdio m a } }
def State.mdioWaits (s : State) (m : Nat) : Option MdioAccess := mapGet (fun _ => none) s.ports.mdioWait m
def State.setMdioWait (s : State) (m : Nat) (a : Option MdioAccess) : State :=
  { s with ports := { s.ports with mdioWait := mapSet (fun _ => none) s.ports.mdioWait m a } }
def State.mdioPolls (s : State) (m : Nat) : List Nat := mapGet (fun _ => []) s.ports.mdioPolls m
def State.setMdioPolls (s : State) (m : Nat) (l : List Nat) : State :=
  { s with ports := { s.ports with mdioPolls := mapSet (fun _ => []) s.ports.mdioPolls m l } }

/-! ## MAC registers (R94) -/

/-- A B port that is disabled is polled no more: a poll of it that waits is dropped, and one in progress is no poll of the port
once it is enabled again (R85, R86). -/
def State.voidPoll (s : State) (p : Nat) : State :=
  let m := p / 4
  let s := s.setMdioPolls m ((s.mdioPolls m).filter (fun q => q != p))
  match s.mdioAt m with
  | some a => if a.poll = some p then s.setMdio m (some { a with void := true }) else s
  | none => s

/-- A write of MAC_CFG under a mask. -/
def State.writeMacCfg (s : State) (p : Nat) (mask data : Word) : State :=
  if p = 34 then s
  else
    let old := s.reg (K.MAC_CFG p)
    let w := maskWord old (mask &&& 0x00FC0001) data
    let mode := wordBits w 23 20
    let role := wordBits w 19 18
    let changes := mode != wordBits old 23 20 || role != wordBits old 19 18
    if (changes && old.toNat.testBit 0 && w.toNat.testBit 0) || !modeOffered p mode || !roleDefined p role then
      s.raiseFlag (F.MAC_STATUS_CFG_REJECT p) (beBytes 1 p)
    else
      let s := s.setReg (K.MAC_CFG p) w
      let s := if p < 8 ∧ !w.toNat.testBit 0 then (s.setPhyLink p false).voidPoll p else s
      s.relink p

/-- A write of MAC_FRAME under a mask. -/
def State.writeMacFrame (s : State) (p : Nat) (mask data : Word) : State :=
  if p = 34 then s
  else
    let w := maskWord (s.reg (K.MAC_FRAME p)) (mask &&& 0x3FFF) data
    if w.toNat < 64 ∨ 9216 < w.toNat then s.raiseFlag (F.MAC_STATUS_CFG_REJECT p) (beBytes 1 p)
    else s.setReg (K.MAC_FRAME p) w

/-! ## MAC merge (R82, R83) -/

/-- MERGE_CFG is written: EN written 0 is remembered until a MERGE_CFG takes effect (R82, R83). -/
def State.noteMerge (s : State) (p : Nat) : State := if s.flag (F.MERGE_CFG_EN p) then s else s.setMergeOff p true

/-- A frame boundary of a port: no frame is in transmission on either of its MACs, preempted or not (R83). -/
def State.txBoundary (s : State) (p : Nat) : Bool := (s.txAt (2 * p)).isNone && (s.txAt (2 * p + 1)).isNone

/-- MERGE_CFG as written takes effect at the frame boundary, so that a frame in transmission finishes under the settings with
which it started (R83). Verification starts again where EN has been written 0 or changes, and where VERIFY_DIS changes, but a
FAILED verification stands until EN has been written 0 and then 1 (R82). -/
def State.applyMerge (s : State) (p : Nat) : State :=
  if !s.txBoundary p then s
  else
    let old := s.mergeEff p
    let new := s.reg (K.MERGE_CFG p)
    let en := s.mergeOff p || old.toNat.testBit 0 != new.toNat.testBit 0
    let dis := old.toNat.testBit 8 != new.toNat.testBit 8 && s.fld (F.MERGE_STATUS_VERIFY_STATE p) != 3
    let s := (s.setMergeEff p new).setMergeOff p false
    if en || dis then s.restartVerify p else s

/-- Sends a control mPacket; on a port that MACsec protects it bypasses the SecY (spec/10, R303). -/
def State.sendMPacket (s : State) (p kind : Nat) : State :=
  let s := s.emit (.mpacket p kind)
  if p < 10 ∧ s.flag (F.SEC_CFG_TX_EN p) then s.inc (C.sec p 7) else s

/-- The verify interval passes (R82): up to three verify mPackets, then FAILED. -/
def State.verifyTick (s : State) (p : Nat) : State :=
  if s.fld (F.MERGE_STATUS_VERIFY_STATE p) ≠ 1 ∨ !s.flag (F.MAC_STATUS_LINK_UP p) then s
  else if s.verifies p < 3 then (s.sendMPacket p 1).setVerifies p (s.verifies p + 1)
  else s.setFld (F.MERGE_STATUS_VERIFY_STATE p) 3

/-- A verify mPacket arrives (R82). -/
def State.verifyIn (s : State) (p : Nat) : State :=
  if s.mergeOn p && s.flag (F.MAC_STATUS_LINK_UP p) then s.sendMPacket p 2 else s

/-- A respond mPacket arrives (R82). -/
def State.respondIn (s : State) (p : Nat) : State :=
  if s.fld (F.MERGE_STATUS_VERIFY_STATE p) = 1 ∧ s.flag (F.MAC_STATUS_LINK_UP p) then s.setFld (F.MERGE_STATUS_VERIFY_STATE p) 2 else s

/-! ## MDIO (R84, R85, R87, R96) -/

/-- The poll access of a port: a read of register 1.0001 at its PRTAD (R85). -/
def State.pollAccess (s : State) (p : Nat) : MdioAccess :=
  ⟨some p, 0x80000000 + s.fld (F.SERDES_CFG_PRTAD p) * 0x200000 + 0x10001, 0, s.fld (F.MDIO_CFG_MDC_DIV (p / 4)), false⟩

/-- An idle master starts what waits: the commanded access first; a poll of a port that is disabled by then is not made
(R85, R87). -/
def State.mdioNext (s : State) (m : Nat) : State :=
  if s.rstHeld (66 + m) || (s.mdioAt m).isSome then s
  else match s.mdioWaits m with
    | some a => (s.setMdioWait m none).setMdio m (some { a with div := s.fld (F.MDIO_CFG_MDC_DIV m) })
    | none => match (s.mdioPolls m).filter (fun p => s.flag (F.MAC_CFG_EN p)) with
      | p :: r => (s.setMdioPolls m r).setMdio m (some (s.pollAccess p))
      | [] => s.setMdioPolls m []

/-- A write of MDIO_CMD (R96). -/
def State.mdioCommand (s : State) (m : Nat) (w : Word) : State :=
  if s.flag (F.MDIO_STATUS_BUSY m) then s.setFld (F.MDIO_STATUS_ERR_BUSY m) 1
  else
    let a : MdioAccess := ⟨none, w.toNat, s.fld (F.MDIO_WDATA_WDATA m), 0, false⟩
    ((s.setFld (F.MDIO_STATUS_BUSY m) 1).setMdioWait m (some a)).mdioNext m

/-- What a read returns: 0xFFFF where no PHY answers (R87). -/
def mdioRead (answer : Option Nat) : Nat := answer.getD 0xFFFF

/-- The access in progress ends with what a PHY answered (R87, R96): a poll gives the PHY's receive link status, bit 2 of
register 1.0001 (IEEE 802.3: PRESUMED, log entry 13). -/
def State.mdioEnd (s : State) (m : Nat) (answer : Option Nat) : State :=
  match s.mdioAt m with
  | none => s
  | some a =>
    let s := (s.setMdio m none).emit (.mdio m a.cmd a.wdata)
    let s := match a.poll with
      | some p => if a.void then s else (s.setPhyLink p ((mdioRead answer).testBit 2)).relink p
      | none =>
        let s := (s.setFld (F.MDIO_STATUS_BUSY m) 0).setFld (F.MDIO_STATUS_DONE m) 1
        if a.cmd.testBit 31 then s.setFld (F.MDIO_STATUS_RDATA m) (mdioRead answer) else s
    s.mdioNext m

/-- The poll timer of a master: the CLK_CORE cycle from which its interval runs, none before forwarding is enabled (R85). -/
def State.pollFrom (s : State) (m : Nat) : Option Nat := mapGet (fun _ => none) s.ports.pollFrom m
def State.setPollFrom (s : State) (m : Nat) (c : Option Nat) : State :=
  { s with ports := { s.ports with pollFrom := mapSet (fun _ => none) s.ports.pollFrom m c } }

/-- CLK_CORE cycles in a poll interval. -/
def State.pollCycles (s : State) (m : Nat) : Nat := 500000 * s.fld (F.MDIO_CFG_POLL_MS m)

/-- The poll timers start when forwarding is enabled (R85). -/
def State.startPolls (s : State) : State := forEach [0, 1] (fun m s => s.setPollFrom m (some s.cycle)) s

/-- A periodic poll falls POLL_MS ms after the timer's start or the poll before: every enabled B port of the master
(R85). -/
def State.mdioPollAll (s : State) (m : Nat) : State :=
  match s.pollFrom m with
  | none => s
  | some c =>
    if s.pollCycles m = 0 ∨ s.cycle < c + s.pollCycles m then s
    else
      let l := ((List.range 4).map (fun i => 4 * m + i)).filter (fun p => s.flag (F.MAC_CFG_EN p))
      ((s.setPollFrom m (some (c + s.pollCycles m))).setMdioPolls m (s.mdioPolls m ++ l)).mdioNext m

/-- An interrupt poll of one port, where its PHY_INT_N is asserted (R85). -/
def State.mdioPollPort (s : State) (p : Nat) : State :=
  if s.flag (F.MAC_CFG_EN p) && s.flag (F.MAC_STATUS_PHY_INT p) then
    (s.setMdioPolls (p / 4) (p :: s.mdioPolls (p / 4))).mdioNext (p / 4)
  else s

/-- A write of MDIO_CFG: an MDC_DIV below 9 is not taken (R84); a poll timer that runs starts again (R85). -/
def State.writeMdioCfg (s : State) (m : Nat) (mask data : Word) : State :=
  let old := s.reg (K.MDIO_CFG m)
  let w := maskWord old (mask &&& 0xFFFF) data
  let s := s.setReg (K.MDIO_CFG m) (if wordBits w 7 0 < 9 then putBits w 7 0 (wordBits old 7 0) else w)
  s.setPollFrom m ((s.pollFrom m).map (fun _ => s.cycle))

/-! ## PLCA (R89) -/

/-- The PLCA cycle of S port `p`. -/
def Plca.fresh : Plca := ⟨0, 0, false⟩
def State.plca (s : State) (p : Nat) : Plca := mapGet (fun _ => .fresh) s.ports.plca p
def State.setPlca (s : State) (p : Nat) (x : Plca) : State :=
  { s with ports := { s.ports with plca := mapSet (fun _ => .fresh) s.ports.plca p x } }

/-- An S port that coordinates: enabled, ROLE 0b00 and its link up. -/
def State.coordinates (s : State) (p : Nat) : Bool :=
  decide (26 ≤ p) && decide (p < 34) && s.flag (F.MAC_STATUS_LINK_UP p) && s.fld (F.MAC_CFG_ROLE p) == 0

/-- Cycles of CLK_CORE in a transmit opportunity that nobody uses: TO_TIMER bit times of 100 ns. -/
def State.toCycles (s : State) (p : Nat) : Nat := 50 * s.fld (F.PLCA_CFG_TO_TIMER (p - 26))

/-- The medium of an S port is in use, by a frame in transmission or in reception. -/
def State.mediumBusy (s : State) (p : Nat) : Bool := (s.txAt (2 * p)).isSome || (s.rxAt (2 * p)).isSome

/-- One CLK_CORE cycle of a coordinator's PLCA cycle: the opportunity of the present node goes on while the medium is in use,
ends where its timer has run, and after that of the last node the BEACON starts the next cycle. The BEACON takes no time of its
own in the model (log entry 68). -/
def State.plcaTick (s : State) (p : Nat) : State :=
  if !s.coordinates p then (if s.plca p = .fresh then s else s.setPlca p .fresh)
  else
    let x := s.plca p
    if s.mediumBusy p then s.setPlca p { x with left := 1 }
    else if 1 < x.left then s.setPlca p { x with left := x.left - 1 }
    else
      let n := x.node + 1
      if x.left = 0 ∨ s.fld (F.PLCA_CFG_NODE_COUNT (p - 26)) ≤ n then (s.emit (.beacon p)).setPlca p ⟨0, s.toCycles p, false⟩
      else s.setPlca p ⟨n, s.toCycles p, false⟩

/-- A port may start a frame: in a PLCA role one in each transmit opportunity of its own. The coordinator's is that of node 0; a
follower's, whose cycle starts with a BEACON that no command brings, is the occasion of EGRESS_SELECTION itself
(log entry 68). -/
def State.plcaOpen (s : State) (p : Nat) : Bool :=
  !s.coordinates p || ((s.plca p).node == 0 && decide (0 < (s.plca p).left) && !(s.plca p).used)

/-- A coordinator has sent in its opportunity. -/
def State.plcaUse (s : State) (p : Nat) : State := if s.coordinates p then s.setPlca p { s.plca p with used := true } else s

end Sys2Proof.Machine
end

