-- ==== Sys2Proof/Machine/Gates.lean ====
section
/-!
DEFINITION. Gate control lists: validity, the gate state at a network time, closing time and longest open stretch,
change of list, and hold (spec/06, R189, R193 to R195, R204).
-/

namespace Sys2Proof.Machine

/-- The window entry of entry `i` of a port's list: 0 administrative, 1 operational. -/
def gateKey (p list i : Nat) : Nat := p * 2048 + list * 1024 + i

/-- An entry's INTERVAL, HOLD and GATES. -/
def State.gateEntry (s : State) (p list i : Nat) : Nat × Bool × Nat :=
  let k := gateKey p list i
  (s.fld (F.GATE_WIN_INTERVAL_INTERVAL k), s.flag (F.GATE_WIN_OP_HOLD k), s.fld (F.GATE_WIN_OP_GATES k))

/-- A segment of a cycle: the entry's index, HOLD, GATES and its duration in ns. -/
structure Seg where
  index : Nat
  hold : Bool
  gates : Nat
  dur : Nat
  deriving DecidableEq, Repr

/-- The segments of a cycle of `left` ns from entry `i`, `n` entries to go: cut at the cycle's end, the last one held
until it (R193). -/
def State.segs (s : State) (p list : Nat) : Nat → Nat → Nat → List Seg
  | 0, _, _ => []
  | n + 1, i, left =>
    let (d, h, g) := s.gateEntry p list i
    if left = 0 then []
    else if n = 0 ∨ left ≤ d then [⟨i, h, g, left⟩]
    else ⟨i, h, g, d⟩ :: s.segs p list n (i + 1) (left - d)

/-- CYCLE and LEN, base time and CYCLE_EXT of the administrative (0) or operational (1) list. -/
def State.gateCycle (s : State) (p list : Nat) : Nat :=
  if list = 0 then s.fld (F.GATE_ADMIN_CYCLE_CYCLE p) else s.fld (F.GATE_OPER_CYCLE_CYCLE p)
def State.gateLen (s : State) (p list : Nat) : Nat :=
  if list = 0 then s.fld (F.GATE_ADMIN_LEN_LEN p) else s.fld (F.GATE_OPER_LEN_LEN p)
def State.gateExt (s : State) (p list : Nat) : Nat :=
  if list = 0 then s.fld (F.GATE_ADMIN_EXT_CYCLE_EXT p) else s.fld (F.GATE_OPER_EXT_CYCLE_EXT p)
def State.gateBase (s : State) (p list : Nat) : Nat :=
  if list = 0 then s.pair (K.GATE_ADMIN_BASE_S_LO p) (K.GATE_ADMIN_BASE_S_HI p) * 1000000000 + s.fld (F.GATE_ADMIN_BASE_NS_NS p)
  else s.pair (K.GATE_OPER_BASE_S_LO p) (K.GATE_OPER_BASE_S_HI p) * 1000000000 + s.fld (F.GATE_OPER_BASE_NS_NS p)

/-- The change time T_c in ns. -/
def State.gateTc (s : State) (p : Nat) : Nat :=
  s.pair (K.GATE_CHANGE_S_LO p) (K.GATE_CHANGE_S_HI p) * 1000000000 + s.fld (F.GATE_CHANGE_NS_NS p)

def State.gateSegs (s : State) (p list : Nat) : List Seg := s.segs p list (s.gateLen p list) 0 (s.gateCycle p list)

/-- The administrative list is valid (R193). -/
def State.gateListValid (s : State) (p : Nat) : Bool :=
  let n := s.gateLen p 0
  let c := s.gateCycle p 0
  decide (1 ≤ n) && decide (n ≤ 1024) && c % 2 == 0 && decide (1000 ≤ c) && decide (c ≤ 4000000000) &&
    decide (s.gateExt p 0 ≤ c) &&
    (List.range n).all (fun i =>
      let d := (s.gateEntry p 0 i).1
      d % 2 == 0 && decide (16 ≤ d) && decide (d ≤ 4000000000))

/-- Gates run on a port: GATE_EN, and a port that has gates (R193). -/
def State.gatesOn (s : State) (p : Nat) : Bool := decide (p < 34) && s.flag (F.GATE_CTRL_GATE_EN p)

/-- Offset of an instant in the cycle of a list that started at its base. -/
def State.gateOffset (s : State) (p list t : Nat) : Nat :=
  (((t : Int) - (s.gateBase p list : Int)) % (s.gateCycle p list : Int)).toNat

/-- The segment at an offset. -/
def segAt : List Seg → Nat → Option Seg
  | [], _ => none
  | [x], _ => some x
  | x :: r, off => if off < x.dur then some x else segAt r (off - x.dur)

/-- T_k of R195: the last start of an operational cycle before T_c. -/
def State.gateTk (s : State) (p : Nat) : Nat :=
  let rest := s.gateOffset p 1 (s.gateTc p)
  s.gateTc p - (if rest = 0 then s.gateCycle p 1 else rest)

/-- A pending change leaves out the cycle due at T_k and extends the cycle before it to T_c (R195). -/
def State.gateExtends (s : State) (p : Nat) : Bool :=
  s.flag (F.GATE_STATUS_PENDING p) && decide (s.gateTc p - s.gateTk p ≤ s.gateExt p 1)

/-- The segment of a port in effect at an instant, none where every gate is open (R193, R195). -/
def State.gateSeg (s : State) (p t : Nat) : Option Seg :=
  if !s.gatesOn p then none
  else if s.flag (F.GATE_STATUS_PENDING p) && decide (s.gateTc p ≤ t) then segAt (s.gateSegs p 0) (s.gateOffset p 0 t)
  else if !s.flag (F.GATE_STATUS_OPER_VALID p) then none
  else if s.gateExtends p && decide (s.gateTk p ≤ t) then (s.gateSegs p 1).getLast?
  else segAt (s.gateSegs p 1) (s.gateOffset p 1 t)

/-- A queue's gate is open at an instant. -/
def State.gateOpen (s : State) (p q t : Nat) : Bool :=
  match s.gateSeg p t with
  | none => true
  | some x => x.gates.testBit q

/-- From an offset of a cycle, the ns until a queue's gate closes within it; none where it stays open to its end. -/
def closeIn (q : Nat) : List Seg → Nat → Option Nat
  | [], _ => none
  | x :: r, off =>
    if off < x.dur then
      (if x.gates.testBit q then (closeIn q r 0).map (fun d => x.dur - off + d) else some 0)
    else closeIn q r (off - x.dur)

/-- The ns from an instant until a queue's gate closes under one list alone, none where it never closes. -/
def State.closeList (s : State) (p q list t : Nat) : Option Nat :=
  let l := s.gateSegs p list
  let off := s.gateOffset p list t
  match closeIn q l off with
  | some d => some d
  | none => (closeIn q l 0).map (fun d => s.gateCycle p list - off + d)

/-- The ns from an instant until a queue's gate closes under the operational list, and from T_c under a pending one: the
operational list counts until T_c, or until T_k where its last state is extended to T_c (R189, R195). -/
def State.closePending (s : State) (p q t : Nat) (oper : Option Nat) : Option Nat :=
  let tc := s.gateTc p
  let later := (s.closeList p q 0 tc).map (fun e => tc - t + e)
  match oper with
  | some d => if d < (if s.gateExtends p then s.gateTk p else tc) - t then some d else later
  | none => later

/-- The ns until a queue's gate closes, none where it does not within 4 s (R189). -/
def State.gateCloses (s : State) (p q t : Nat) : Option Nat :=
  if !s.gatesOn p then none
  else
    let oper := if s.flag (F.GATE_STATUS_OPER_VALID p) then s.closeList p q 1 t else none
    let r := if s.flag (F.GATE_STATUS_PENDING p) then s.closePending p q t oper else oper
    match r with
    | some d => if d ≤ 4000000000 then some d else none
    | none => none

/-- The longest run of segments that keep a queue's gate open. -/
def openRuns (q : Nat) : List Seg → Nat → Nat → Nat
  | [], cur, best => max cur best
  | x :: r, cur, best => if x.gates.testBit q then openRuns q r (cur + x.dur) best else openRuns q r 0 (max cur best)

/-- MAX_OPEN of R189 in ns: none without a limit, taken cyclically. -/
def State.maxOpen (s : State) (p q : Nat) : Option Nat :=
  if !s.gatesOn p || !s.flag (F.GATE_STATUS_OPER_VALID p) then none
  else
    let l := s.gateSegs p 1
    if l.all (fun x => x.gates.testBit q) then none else some (openRuns q (l ++ l) 0 0)

/-- HOLD has an effect on a port: MAC merge, whose verification has not failed (R194). -/
def State.holdWorks (s : State) (p : Nat) : Bool := s.mergeOn p && s.fld (F.MERGE_STATUS_VERIFY_STATE p) != 3

/-- The entry in effect before a transition has HOLD 1: CURRENT of the operational list (R194). -/
def State.heldBefore (s : State) (p : Nat) : Bool :=
  s.flag (F.GATE_STATUS_OPER_VALID p) && s.flag (F.GATE_WIN_OP_HOLD (gateKey p 1 (s.fld (F.GATE_STATUS_CURRENT p))))

/-- An entry takes effect: CURRENT, and the release of a hold by an entry without HOLD after one with HOLD, `was` (R193, R194). -/
def State.gateTake (s : State) (p : Nat) (was : Bool) : State :=
  match s.gateSeg p s.nowNs with
  | none => s
  | some x =>
    let s := s.setFld (F.GATE_STATUS_CURRENT p) x.index
    if !x.hold then s.doIf was (fun s => s.setFld (F.GATE_STATUS_HOLD_ACTIVE p) 0)
    else if s.holdWorks p then s.setFld (F.GATE_STATUS_HOLD_ACTIVE p) 1 else s

/-- A transition within the operational list. -/
def State.gateEnter (s : State) (p : Nat) : State := s.gateTake p (s.heldBefore p)

/-- A hold request, GATE_HOLD_ADV before an entry with HOLD starts (R194). -/
def State.gateHold (s : State) (p : Nat) : State :=
  match s.gateSeg p (s.nowNs + s.fld (F.GATE_HOLD_ADV_ADV_NS p)) with
  | none => s
  | some x => if x.hold && s.holdWorks p then s.setFld (F.GATE_STATUS_HOLD_ACTIVE p) 1 else s

/-- T_c of R195. -/
def changeTime (now base cycle : Nat) : Nat :=
  if now + 2000 ≤ base then base else base + (now + 2000 - base + cycle - 1) / cycle * cycle

/-- A CONFIG_CHANGE write (R195). -/
def State.gateChange (s : State) (p : Nat) : State :=
  if s.flag (F.GATE_STATUS_PENDING p) then s.setFld (F.GATE_CTRL_ERR_BUSY p) 1
  else if !s.gateListValid p then s.setFld (F.GATE_STATUS_LIST_ERR p) 1
  else
    let tc := changeTime s.nowNs (s.gateBase p 0) (s.gateCycle p 0)
    ((s.setPair (K.GATE_CHANGE_S_LO p) (K.GATE_CHANGE_S_HI p) (secOf tc)).setFld (F.GATE_CHANGE_NS_NS p) (nsOf tc)).setFld
      (F.GATE_STATUS_PENDING p) 1

/-- A CANCEL write (R195). -/
def State.gateCancel (s : State) (p : Nat) : State := s.setFld (F.GATE_STATUS_PENDING p) 0

/-- Copies the entries of the administrative list to the operational one. -/
def State.gateCopy (s : State) (p : Nat) : State :=
  forEach (List.range (s.gateLen p 0)) (fun i s =>
    (s.setReg (K.GATE_WIN_INTERVAL (gateKey p 1 i)) (s.reg (K.GATE_WIN_INTERVAL (gateKey p 0 i)))).setReg
      (K.GATE_WIN_OP (gateKey p 1 i)) (s.reg (K.GATE_WIN_OP (gateKey p 0 i)))) s

/-- At T_c the administrative list becomes operational (R195). -/
def State.gateSwitch (s : State) (p : Nat) : State :=
  if !s.flag (F.GATE_STATUS_PENDING p) || decide (s.nowNs < s.gateTc p) then s
  else
    let was := s.heldBefore p
    let s := s.gateCopy p
    let s := forEach [(K.GATE_ADMIN_BASE_S_LO p, K.GATE_OPER_BASE_S_LO p), (K.GATE_ADMIN_BASE_S_HI p, K.GATE_OPER_BASE_S_HI p),
      (K.GATE_ADMIN_BASE_NS p, K.GATE_OPER_BASE_NS p), (K.GATE_ADMIN_CYCLE p, K.GATE_OPER_CYCLE p),
      (K.GATE_ADMIN_EXT p, K.GATE_OPER_EXT p), (K.GATE_ADMIN_LEN p, K.GATE_OPER_LEN p)]
      (fun c s => s.setReg c.2 (s.reg c.1)) s
    (((s.setFld (F.GATE_STATUS_PENDING p) 0).setFld (F.GATE_STATUS_OPER_VALID p) 1).inc (C.sch 12)).gateTake p was

end Sys2Proof.Machine
end

