-- ==== Sys2Proof/Machine/Time.lean ====
section
/-!
DEFINITION. Network time: the counter, the servo, the gPTP messages and exchanges, and the pulses (spec/07, R206 to
R233; spec/15, R432). Message layouts are those of IEEE 802.1AS-2020 (PRESUMED, log entry 13).
-/

namespace Sys2Proof.Machine

/-! ## The counter (R206 to R209, R225) -/

/-- Units of 2^-40 ns before the seconds wrap. -/
def timeMod : Nat := 2 ^ 48 * 1000000000 * fracPerNs

/-- RATE_ADJ in effect (R207). -/
def State.rateAdj (s : State) : Int := toSigned 32 (s.fld F.TIME_RATE_RATE_ADJ)

/-- One CLK_CORE cycle of the counter (R207). -/
def State.timeTick (s : State) : State :=
  { s with time := { s.time with now := (((s.time.now : Int) + 2 * (fracPerNs : Int) + s.rateAdj) % (timeMod : Int)).toNat } }

/-- Puts the counter to a value: a step, with its one token tick (R176, R225, R226). The ledger goes on at
the first whole millisecond and the first whole period after it (spec/12, R345, R348). -/
def State.stepTo (s : State) (t : Int) : State :=
  let n := (t % (timeMod : Int)).toNat
  ({ s with time := { s.time with now := n, stepped := true, ppsLate := [], ldgMs := n / fracPerNs / 1000000,
                                  ldgSec := n / fracPerNs / 1000000000 } }.inc (C.time 6)).tick

/-- A read of TIME_NOW_NS (R209). -/
def State.captureNow (s : State) : State :=
  { s with time := { s.time with capNow := s.time.now }, busData := BitVec.ofNat 32 (nsOf s.nowNs) }

/-- A read of PPS_IN_STAMP_NS (R232). -/
def State.capturePps (s : State) : State :=
  { s with time := { s.time with capPps := s.time.ppsStamp },
           busData := BitVec.ofNat 32 (nsOf (s.time.ppsStamp / fracPerNs)) }

/-! ## Roles and source (R214; spec/15, R432) -/

/-- The unit takes the time from its partner or gives it to it: TIME_PAIR with pairing configured. -/
def State.timePair (s : State) : Bool := s.flag F.PAIR_CFG_TIME_PAIR && s.fld F.PAIR_CFG_MODE != 0

/-- The unit is the time master of the pair. -/
def State.timeMaster (s : State) : Bool :=
  if s.fld F.PAIR_CFG_MODE = 1 then s.fld F.PAIR_STATUS_ROLE == 3 else s.fld F.BOOT_STATUS_UNIT_ID == 0

/-- The unit follows the partner's time: it is present and not MISMATCHed (R432, R433). -/
def State.timeFollows (s : State) : Bool :=
  s.timePair && !s.timeMaster && s.flag F.PAIR_STATUS_PARTNER_PRESENT

/-- The source in effect. -/
def State.timeSource (s : State) : Nat := if s.timeFollows then 2 else s.fld F.TIME_CTRL_SOURCE

/-- The role of a port in effect. -/
def State.gptpRole (s : State) (p : Nat) : Nat :=
  let r := s.fld (F.GPTP_PORT_CFG_ROLE p)
  if s.timeFollows then (if p = 8 then 2 else if p = 9 then 3 else if r = 2 then 3 else r)
  else if s.timePair && s.timeMaster && s.pairPort p then 1
  else if r = 2 ∧ s.timeSource ≠ 2 then 0 else r

/-! ## States (R224) -/

def State.servoState (s : State) : Nat := s.fld F.TIME_STATUS_STATE

/-- Changes STATE, with STATE_CHANGED where it differs. -/
def State.setServo (s : State) (st : Nat) : State :=
  if st = s.servoState then s
  else (s.setFld F.TIME_STATUS_STATE st).raiseFlag F.TIME_STATUS_STATE_CHANGED (beBytes 1 st)

/-- Clamps to ±(2^31 − 1). -/
def clamp31 (x : Int) : Int := max (-2147483647) (min 2147483647 x)

def State.integ (s : State) : Int := toSigned 32 (s.fld F.SERVO_INTEG_VALUE)
def State.avg (s : State) : Int := toSigned 32 (s.fld F.SERVO_AVG_VALUE)
def State.setInteg (s : State) (x : Int) : State := s.setFld F.SERVO_INTEG_VALUE (ofSigned 32 x)
def State.setAvg (s : State) (x : Int) : State := s.setFld F.SERVO_AVG_VALUE (ofSigned 32 x)
def State.setRate (s : State) (x : Int) : State := s.setFld F.TIME_RATE_RATE_ADJ (ofSigned 32 x)

/-- One servo update for an offset in 2^-16 ns; `ratio` is (rate_ratio − 1) × 2^41 (R221). -/
def State.servoUpdate (s : State) (e ratio : Int) : State :=
  let ens := max (-2147483648) (min 2147483647 (e / 65536))
  let s := s.setFld F.SERVO_OFFSET_E_NS (ofSigned 32 ens)
  if s.servoState = 1 ∧ (s.fld F.SERVO_STEP_STEP_NS : Int) * 65536 < e.natAbs then
    let s := s.stepTo ((s.time.now : Int) + e * 16777216)
    let s := if s.timeSource = 2 then s.setInteg (clamp31 ratio) else s
    s.setFld F.TIME_STATUS_LOCK_RUN 0
  else
    let p := ((s.fld F.SERVO_KP_GAIN : Int) * e) >>> 16
    let slew : Int := (min (s.fld F.SERVO_SLEW_SLEW) 439804651 : Nat)
    let (p, s) : Int × State :=
      if slew < p.natAbs then ((if p < 0 then -slew else slew), s.inc (C.time 7))
      else (p, s.setInteg (clamp31 (s.integ + (((s.fld F.SERVO_KI_GAIN : Int) * e) >>> 16))))
    let rate := clamp31 (s.integ + p)
    let s := s.setRate rate
    let s := s.setAvg (s.avg + ((rate - s.avg) >>> s.fld F.SERVO_CFG_AVG_W))
    let run := if (e.natAbs : Int) ≤ (s.fld F.SERVO_THR_LOCK_NS : Int) * 65536 then min (s.fld F.TIME_STATUS_LOCK_RUN + 1) 255 else 0
    let s := s.setFld F.TIME_STATUS_LOCK_RUN run
    if s.servoState = 1 ∧ max 1 (s.fld F.SERVO_CFG_LOCK_COUNT) ≤ run then s.setServo 2 else s

/-- A measurement: it ends HOLDOVER, then updates (R224). -/
def State.measure (s : State) (e ratio : Int) : State :=
  let s := s.setFld F.TIME_STATUS_MISSED 0
  (if s.servoState = 3 then s.setServo 2 else s).servoUpdate e ratio

/-- LOCKED becomes HOLDOVER at the average rate (R224). -/
def State.holdover (s : State) : State :=
  (((s.setRate s.avg).setInteg s.avg).setServo 3).inc (C.time 8)

/-- An interval passes without a measurement (R224). -/
def State.missInterval (s : State) : State :=
  if s.timeSource = 0 then s
  else
    let n := min 15 (s.fld F.TIME_STATUS_MISSED + 1)
    let s := (s.setFld F.TIME_STATUS_MISSED n).inc (C.time 3)
    if s.servoState = 2 ∧ max 2 (s.fld F.SERVO_CFG_MISS_LIMIT) ≤ n then s.holdover else s

/-- A write of SOURCE (R220). -/
def State.writeSource (s : State) (src : Nat) : State :=
  if 3 ≤ src ∨ src = s.fld F.TIME_CTRL_SOURCE then s
  else
    let s := s.setFld F.TIME_CTRL_SOURCE src
    let s := ((s.setInteg s.rateAdj).setAvg s.rateAdj).setServo (if src = 0 then 0 else 1)
    { s with time := { s.time with ppsSeen := false } }

/-- A STEP command (R225). -/
def State.commandStep (s : State) : State :=
  if s.servoState = 1 ∨ (List.range 34).all (fun p => !s.flag (F.GATE_CTRL_GATE_EN p)) then
    let ns := s.pair K.TIME_SET_S_LO K.TIME_SET_S_HI * 1000000000 + s.fld F.TIME_SET_NS_NS
    let s := (s.stepTo ((ns * fracPerNs : Nat) : Int)).setFld F.TIME_CTRL_STEP_DONE 1
    if s.servoState = 0 then s else s.setServo 1
  else s.setFld F.TIME_CTRL_STEP_REJECT 1

/-- An ACQUIRE command (R224). -/
def State.commandAcquire (s : State) : State :=
  if s.servoState = 2 ∨ s.servoState = 3 then s.setServo 1 else s

/-! ## gPTP messages (R213, R217, R218) -/

def State.gport (s : State) (p : Nat) : GPort := mapGet (fun _ => .fresh) s.time.ports p
def State.setGport (s : State) (p : Nat) (g : GPort) : State :=
  { s with time := { s.time with ports := mapSet (fun _ => .fresh) s.time.ports p g } }

/-- The portIdentity of a port (R217). -/
def State.portIdentity (s : State) (p : Nat) : List Byte :=
  beBytes 8 (s.pair K.GPTP_CLOCK_ID_LO K.GPTP_CLOCK_ID_HI) ++ beBytes 2 (p + 1)

/-- A PTP timestamp of a time in ns. -/
def ptpStamp (ns : Nat) : List Byte := beBytes 6 (secOf ns) ++ beBytes 4 (nsOf ns)

/-- A message: type, flags, correctionField in 2^-16 ns, sequenceId and body. The source address is the unit's own,
NM_SA (PRESUMED, log entry 13). -/
def State.gptpMessage (s : State) (p ty fl seq : Nat) (corr : Int) (interval : Nat) (body : List Byte) : List Byte :=
  beBytes 6 0x0180C200000E ++ beBytes 6 (s.pair K.NM_SA_LO K.NM_SA_HI) ++ beBytes 2 0x88F7 ++
    beBytes 1 (0x10 + ty) ++ beBytes 1 0x12 ++ beBytes 2 (34 + body.length) ++ [0, 0] ++ beBytes 2 fl ++
    beBytes 8 (ofSigned 64 corr) ++ beBytes 4 0 ++ s.portIdentity p ++ beBytes 2 seq ++
    beBytes 1 (if ty = 0 then 0 else if ty = 8 then 2 else 5) ++ beBytes 1 interval ++ body

/-- The Follow_Up information TLV with a cumulative scaled rate offset. -/
def followTlv (csro : Int) : List Byte :=
  beBytes 2 3 ++ beBytes 2 28 ++ beBytes 3 0x0080C2 ++ beBytes 3 1 ++ beBytes 4 (ofSigned 32 csro) ++ List.replicate 18 0

/-- logMessageInterval of a 4-bit logarithm: the same signed number in an octet (R213). -/
def logOctet (v : Nat) : Nat := ofSigned 8 (toSigned 4 v)

/-- Enqueues a gPTP message on its port's queue; it takes no pass (R218). -/
def State.sendGptp (s : State) (p : Nat) (note : CopyNote) (b : List Byte) : State :=
  s.enqueue p (s.fld (F.GPTP_PORT_CFG_QUEUE p)) ⟨none, padTo (max 60 b.length) 0 b, none, 0, none, false, none, 0, note, false, none⟩

/-- The PTP part of a frame: what follows the EtherType. -/
def State.ptpBody (s : State) (b : List Byte) : List Byte := b.drop (afterTags s.altTpid b 3 12 + 2)

/-- Type, flags, correctionField, source portIdentity, sequenceId of a message. -/
def ptpType (m : List Byte) : Nat := beAt m 0 1 % 16
def ptpTwoStep (m : List Byte) : Bool := (beAt m 6 1).testBit 1
def ptpCorr (m : List Byte) : Int := toSigned 64 (beAt m 8 8)
def ptpSource (m : List Byte) : List Byte := slice m 20 10
def ptpSeq (m : List Byte) : Nat := beAt m 30 2
/-- The timestamp at an offset, in ns. -/
def ptpTime (m : List Byte) (o : Nat) : Nat := beAt m o 6 * 1000000000 + beAt m (o + 6) 4
/-- The cumulative scaled rate offset of the TLV after the timestamp, 0 where there is none. -/
def ptpCsro (m : List Byte) : Int := if m.length < 76 then 0 else toSigned 32 (beAt m 54 4)

/-- Takes the first waiting message that a test names. -/
def State.takeInbox (s : State) (f : InFrame → Bool) : Option (InFrame × State) :=
  match s.mgt.inbox.find? f with
  | none => none
  | some m => some (m, { s with mgt := { s.mgt with inbox := s.mgt.inbox.erase m } })

/-- Takes the first gPTP message of one of some types. -/
def State.takeGptp (s : State) (tys : List Nat) : Option (InFrame × List Byte × State) :=
  (s.takeInbox (fun m => m.kind == .gptp && tys.contains (ptpType (s.ptpBody m.bytes)))).map
    (fun r => (r.1, s.ptpBody r.1.bytes, r.2))

/-! ## Peer delay (R215) -/

/-- A Pdelay_Req is sent; an exchange still without a response counts as lost. -/
def State.pdelaySend (s : State) (p : Nat) : State :=
  if s.gptpRole p = 0 then s
  else
    let g := s.gport p
    let (g, s) :=
      if g.reqOut then
        let n := g.missed + 1
        let s := (s.inc (C.time 4)).setFld (F.GPTP_PORT_STATUS_LOST p) (min 15 n)
        ({ g with missed := n, good := 0 }, if 3 ≤ n then s.setFld (F.GPTP_PORT_STATUS_AS_CAPABLE p) 0 else s)
      else (g, s)
    let q := (g.seq + 1) % 65536
    let s := s.setGport p { g with seq := q, reqOut := true, t1 := none, t2t4 := none }
    s.sendGptp p (.pdelayReq q) (s.gptpMessage p 2 0 q 0 (logOctet (s.fld F.GPTP_CFG_PDELAY_LOG)) (List.replicate 20 0))

/-- A received Pdelay_Req is answered with its receipt time. -/
def State.pdelayAnswer (s : State) : State :=
  match s.takeGptp [2] with
  | none => s
  | some (m, b, s) =>
    if s.gptpRole m.port = 0 then s.inc (C.time 5)
    else
      let seq := ptpSeq b
      let src := ptpSource b
      let s := s.setGport m.port { s.gport m.port with answers := (s.gport m.port).answers ++ [(seq, src)] }
      s.sendGptp m.port (.pdelayResp seq)
        (s.gptpMessage m.port 3 0x0200 seq (((m.stamp % fracPerNs) / 16777216 : Nat) : Int) 0x7F (ptpStamp (m.stamp / fracPerNs) ++ src))

/-- The delay of an exchange in 1/256 ns: times in 2^-16 ns. -/
def pdelayOf (t1 t2 t3 t4 nrr : Int) : Int := (((t4 - t1) * nrr / 2199023255552 - (t3 - t2)) / 2) / 256

/-- A complete exchange: NRR, DELAY and AS_CAPABLE. -/
def State.pdelayDone (s : State) (p : Nat) (t1 t2 t3 t4 : Int) : State :=
  let g := s.gport p
  let hist : List (Nat × Nat) := ((t3.toNat, t4.toNat) :: g.hist).take 9
  let n := g.exchanges + 1
  let nrr : Int := match hist[8]? with
    | some old =>
      if t4.toNat = old.2 then g.nrr
      else ((t3.toNat : Int) - (old.1 : Int)) * 2199023255552 / ((t4.toNat : Int) - (old.2 : Int))
    | none => 2199023255552
  let d := max 0 (min 16777215 (pdelayOf t1 t2 t3 t4 nrr))
  let old : Int := s.fld (F.GPTP_PORT_DELAY_DELAY p)
  let delay := if n = 1 then d else max 0 (min 16777215 (old + (d - old) / 8))
  let s := (s.setFld (F.GPTP_PORT_DELAY_DELAY p) delay.toNat).setFld (F.GPTP_PORT_STATUS_NRR_OFFSET p)
    (ofSigned 16 (max (-32768) (min 32767 ((nrr - 2199023255552) / 32768))))
  let far := (s.fld F.GPTP_CFG_NB_THRESH : Int) * 256 < delay
  let good := if far then 0 else g.good + 1
  let s := s.setFld (F.GPTP_PORT_STATUS_LOST p) 0
  let s := if far then s.setFld (F.GPTP_PORT_STATUS_AS_CAPABLE p) 0
    else if 3 ≤ good then s.setFld (F.GPTP_PORT_STATUS_AS_CAPABLE p) 1 else s
  s.setGport p { g with reqOut := false, t1 := none, t2t4 := none, hist := hist, exchanges := n, good := good,
                        missed := 0, nrr := nrr }

/-- A Pdelay_Resp gives t2 and t4, and its Follow_Up t3. -/
def State.pdelayResp (s : State) : State :=
  match s.takeGptp [3, 10] with
  | none => s
  | some (m, b, s) =>
    let p := m.port
    let g := s.gport p
    if s.gptpRole p = 0 then s.inc (C.time 5)
    else if !g.reqOut || ptpSeq b != g.seq || slice b 44 10 != s.portIdentity p then s
    else if ptpType b = 3 then
      s.setGport p { g with t2t4 := some (ptpTime b 34 * 65536 + (ptpCorr b).toNat, m.stamp / 16777216) }
    else match g.t1, g.t2t4 with
      | some t1, some (t2, t4) => s.pdelayDone p t1 t2 ((ptpTime b 34 * 65536 : Nat) + ptpCorr b) t4
      | _, _ => s

/-! ## Sync and relay (R216 to R219) -/

/-- AS_CAPABLE MASTER ports. -/
def State.relayPorts (s : State) : List Nat :=
  (List.range 34).filter (fun p => s.gptpRole p == 1 && s.flag (F.GPTP_PORT_STATUS_AS_CAPABLE p))

/-- A two-step Sync for a port. -/
def State.syncMessage (s : State) (p seq : Nat) : List Byte :=
  s.gptpMessage p 0 0x0200 seq 0 (logOctet (s.fld F.GPTP_CFG_SYNC_LOG)) (List.replicate 10 0)

/-- (rate_ratio − 1) × 2^41 of a received message on a port. -/
def State.rateRatio (s : State) (p : Nat) (csro : Int) : Int :=
  (2199023255552 + csro) * (s.gport p).nrr / 2199023255552 - 2199023255552

/-- The offset of an accepted Sync in 2^-16 ns (R216). -/
def State.syncOffset (s : State) (p origin : Nat) (corr csro : Int) (stamp : Nat) : Int :=
  (origin * 65536 : Nat) + corr +
    (s.fld (F.GPTP_PORT_DELAY_DELAY p) * 256 : Nat) * (2199023255552 + s.rateRatio p csro) / 2199023255552 - (stamp / 16777216 : Nat)

/-- A Sync is accepted with its origin: counted, and measured (R216). -/
def State.acceptSync (s : State) (p origin : Nat) (corr csro : Int) (stamp : Nat) : State :=
  (s.inc (C.time 0)).measure (s.syncOffset p origin corr csro stamp) (s.rateRatio p csro)

/-- Keeps a Sync as long as its Follow_Up is to be received or to be sent. -/
def State.setSyncs (s : State) (l : List SyncSt) : State :=
  { s with time := { s.time with syncs := l.filter (fun st => st.origin.isNone || !st.ports.isEmpty) } }

/-- Puts a kept Sync in the place of an earlier state of it. -/
def State.putSync (s : State) (old new : SyncSt) : State := s.setSyncs (s.time.syncs.map (fun x => if x = old then new else x))

/-- A Sync arrives: on an AS_CAPABLE slave port it is stored and relayed (R216, R218). -/
def State.syncIn (s : State) : State :=
  match s.takeGptp [0] with
  | none => s
  | some (m, b, s) =>
    let p := m.port
    if s.gptpRole p = 0 then s.inc (C.time 5)
    else if s.gptpRole p ≠ 2 ∨ !s.flag (F.GPTP_PORT_STATUS_AS_CAPABLE p) then s
    else
      let ports := s.relayPorts
      let corr := ptpCorr b
      let two := ptpTwoStep b
      let csro := if two then 0 else ptpCsro b
      let origin := ptpTime b 34
      let st : SyncSt := ⟨ptpSeq b, m.stamp, corr, if two then none else some (origin, 0, csro), ptpSource b, ports.map (fun q => (q, none))⟩
      let s := s.setSyncs (s.time.syncs ++ [st])
      let s := forEach ports (fun q s => s.sendGptp q (.sync st.seq) (s.syncMessage q st.seq)) s
      if two then s else s.acceptSync p origin corr csro m.stamp

/-- A Follow_Up completes the Sync stored (R216). -/
def State.followIn (s : State) : State :=
  match s.takeGptp [8] with
  | none => s
  | some (m, b, s) =>
    if s.gptpRole m.port = 0 then s.inc (C.time 5)
    else match s.time.syncs.find? (fun st => st.origin.isNone && st.seq == ptpSeq b && st.src == ptpSource b) with
    | none => s
    | some st =>
      if s.gptpRole m.port ≠ 2 then s
      else
        let origin := ptpTime b 34
        let corr := ptpCorr b
        let csro := ptpCsro b
        (s.putSync st { st with origin := some (origin, corr, csro) }).acceptSync m.port origin (st.correction + corr) csro st.stamp

/-- The slave port in effect. -/
def State.slavePort (s : State) : Nat := ((List.range 34).find? (fun p => s.gptpRole p == 2)).getD 0

/-- correctionField of a relayed Follow_Up (R217): what was received, and the time from the transmission by the neighbour, which is
the ingress stamp less the link's delay over the neighbour's rate ratio, to the egress, at the rate ratio (PRESUMED of IEEE
802.1AS-2020, clause 11; log entry 13). -/
def State.relayCorr (s : State) (st : SyncSt) (corr csro : Int) (egress : Nat) : Int :=
  let p := s.slavePort
  let delay : Int := (s.fld (F.GPTP_PORT_DELAY_DELAY p) * 256 : Nat) * 2199023255552 / max 1 (s.gport p).nrr
  let rr := 2199023255552 + s.rateRatio p csro
  st.correction + corr + (((egress : Int) - st.stamp) / 16777216 + delay) * rr / 2199023255552

/-- A kept Sync whose Follow_Up can go out on a port: the origin is known and the Sync has left there. -/
def SyncSt.ready (st : SyncSt) (p : Nat) : Bool := st.origin.isSome && st.ports.any (fun c => c.1 == p && c.2.isSome)

/-- The Follow_Up of a relayed Sync on a port (R217). -/
def State.sendRelay (s : State) (st : SyncSt) (p : Nat) : State :=
  match st.origin, st.ports.find? (fun c => c.1 == p) with
  | some (origin, corr, csro), some (_, some e) =>
    (s.putSync st { st with ports := st.ports.filter (fun c => c.1 != p) }).sendGptp p .other
      (s.gptpMessage p 8 0 st.seq (s.relayCorr st corr csro e) (logOctet (s.fld F.GPTP_CFG_SYNC_LOG))
        (ptpStamp origin ++ followTlv (s.rateRatio s.slavePort csro)))
  | _, _ => s

/-- The grandmaster's Follow_Up of a Sync that has left a port: the egress stamp, correctionField 0 and rateRatio 1 (R219). -/
def State.sendOrigin (s : State) (p : Nat) : State :=
  match s.time.gmPorts.find? (fun c => c.2.1 == p && c.2.2.isSome) with
  | some (q, _, some e) =>
    { s with time := { s.time with gmPorts := s.time.gmPorts.erase (q, p, some e) } }.sendGptp p .other
      (s.gptpMessage p 8 0 q 0 (logOctet (s.fld F.GPTP_CFG_SYNC_LOG)) (ptpStamp (e / fracPerNs) ++ followTlv 0))
  | _ => s

/-- The oldest Follow_Up due on a port is sent: relayed, or as grandmaster (R217 to R219). -/
def State.followRelay (s : State) (p : Nat) : State :=
  match s.time.syncs.find? (fun st => st.ready p) with
  | some st => s.sendRelay st p
  | none => s.sendOrigin p

/-- The oldest two-step Sync without its Follow_Up is discarded (R216). -/
def State.followMissing (s : State) : State :=
  match s.time.syncs.find? (fun st => st.origin.isNone) with
  | none => s
  | some st => { s with time := { s.time with syncs := s.time.syncs.erase st } }.inc (C.time 2)

/-- 2^SYNC_LOG s in units of the counter. -/
def State.syncPeriod (s : State) : Nat :=
  let v := s.fld F.GPTP_CFG_SYNC_LOG
  if v < 8 then 1000000000 * fracPerNs * 2 ^ v else 1000000000 * fracPerNs / 2 ^ (16 - v)

/-- Network time has reached a whole multiple of 2^SYNC_LOG s in this cycle (R219). -/
def State.syncDue (s : State) : Bool := decide (((s.time.now % s.syncPeriod : Nat) : Int) < 2 * (fracPerNs : Int) + s.rateAdj)

/-- The grandmaster's Syncs (R219). -/
def State.gmSync (s : State) : State :=
  let src := s.timeSource
  if src = 2 ∨ (src = 1 ∧ !s.time.ppsSeen) ∨ !s.syncDue then s
  else
    let ports := (List.range 34).filter (fun p => s.gptpRole p == 1)
    let q := (s.time.gmSeq + 1) % 65536
    let s := { s with time := { s.time with gmSeq := q, gmPorts := s.time.gmPorts ++ ports.map (fun p => (q, p, none)) } }
    forEach ports (fun p s => s.sendGptp p (.sync q) (s.syncMessage p q)) s

/-- The egress stamp of a relayed Sync, or of the grandmaster's, goes to the oldest of its sequenceId that awaits it. -/
def State.stampSync (s : State) (p q stamp : Nat) : State :=
  match s.time.syncs.find? (fun st => st.seq == q && st.ports.contains (p, none)) with
  | some st => s.putSync st { st with ports := st.ports.map (fun c => if c.1 = p then (c.1, some stamp) else c) }
  | none => { s with time := { s.time with gmPorts := s.time.gmPorts.map (fun c => if c = (q, p, none) then (q, p, some stamp) else c) } }

/-- The egress stamp of a message that has left a port (R211, R215, R217). -/
def State.noteSent (s : State) (p : Nat) (note : CopyNote) (stamp : Nat) : State :=
  match note with
  | .sync q => (s.inc (C.time 1)).stampSync p q stamp
  | .pdelayReq q =>
    let g := s.gport p
    if g.seq = q then s.setGport p { g with t1 := some (stamp / 16777216) } else s
  | .pdelayResp q =>
    (match (s.gport p).answers.find? (fun a => a.1 == q) with
    | some a =>
      (s.setGport p { s.gport p with answers := (s.gport p).answers.erase a }).sendGptp p .pdelayFollow
        (s.gptpMessage p 10 0 q (((stamp % fracPerNs) / 16777216 : Nat) : Int) 0x7F (ptpStamp (stamp / fracPerNs) ++ a.2))
    | none => s)
  | _ => s

/-! ## Pulses (R227 to R230) -/

/-- An edge of PPS_IN: copy A stamps it now, copy B `diff` units of 2^-40 ns later. -/
def State.ppsEdge (s : State) (falling : Bool) (diff : Nat) : State :=
  if s.flag F.PPS_IN_CFG_EN && s.flag F.PPS_IN_CFG_FALLING == falling then
    let t := s.time.now - 6 * fracPerNs
    { s with time := { s.time with ppsEdge := some (t, t + diff) } }
  else s

/-- An agreed stamp (R227, R228). -/
def State.ppsAgreed (s : State) (t : Nat) : State :=
  let s := { s with time := { s.time with ppsStamp := t } }.setFld F.PPS_IN_CFG_NEW 1
  if s.timeSource ≠ 1 then s
  else
    let whole := 1000000000 * fracPerNs
    let r := t % whole
    let off := min r (whole - r)
    if (s.servoState = 2 ∨ s.servoState = 3) ∧ s.fld F.PPS_IN_CFG_WINDOW_NS * fracPerNs < off then s.inc (C.time 9)
    else
      let sec := s.pair K.PPS_IN_SEC_LO K.PPS_IN_SEC_HI
      let s := s.setPair K.PPS_IN_SEC_LO K.PPS_IN_SEC_HI ((sec + 1) % 2 ^ 48)
      let s := { s with time := { s.time with ppsSeen := true } }
      s.measure ((((sec * 1000000000 * fracPerNs : Nat) : Int) - t) / 16777216) 0

/-- START of a pulse output in ns. -/
def State.ppsStart (s : State) (n : Nat) : Nat :=
  s.pair (K.PPS_OUT_START_S_LO n) (K.PPS_OUT_START_S_HI n) * 1000000000 + s.fld (F.PPS_OUT_START_NS_NS n)

/-- An output is active at the present time (R229, R230); in Lee mode it is inactive (spec/14, R401). -/
def State.ppsActive (s : State) (n : Nat) : Bool :=
  let t := s.nowNs
  let st := s.ppsStart n
  let per := s.fld (F.PPS_OUT_PERIOD_NS n)
  let w := s.fld (F.PPS_OUT_WIDTH_NS n)
  s.flag (F.PPS_OUT_CTRL_EN n) && s.saf.mode == .normal &&
    !(s.flag (F.PPS_OUT_CTRL_QUALIFY n) && s.servoState == 1) &&
    !(mapGet (fun _ => false) s.time.ppsLate n) && decide (st ≤ t) &&
    (if per = 0 then decide (t < st + w) else decide ((t - st) % per < w))

/-- The level of an output's pin: active is low with POLARITY 1 (R229). -/
def State.ppsLevel (s : State) (n : Nat) : Bool := s.ppsActive n != s.flag (F.PPS_OUT_CTRL_POLARITY n)

/-- The pin of an output follows the time, the servo's state and the output's registers (R229, R230). -/
def State.ppsUpdate (s : State) (n : Nat) : State :=
  if s.ppsLevel n = mapGet (fun _ => false) s.time.ppsOut n then s
  else { s with time := { s.time with ppsOut := mapSet (fun _ => false) s.time.ppsOut n (s.ppsLevel n) } }.emit (.pps n (s.ppsLevel n))

/-- The four outputs. -/
def State.ppsAll (s : State) : State := s.confine [.time, .out] (forEach (List.range 4) (fun n s => s.ppsUpdate n) s)

/-- The pulse outputs are low while a reset holds them, and in Calm (spec/02, R69). -/
def State.ppsLow (s : State) : State :=
  forEach (List.range 4) (fun n s => if mapGet (fun _ => false) s.time.ppsOut n then s.emit (.pps n false) else s) s

end Sys2Proof.Machine
end

