-- ==== Sys2Proof/Machine/Egress.lean ====
section
/-!
DEFINITION. Transmission: eligibility, choice and start of a copy, preemption, crossing copies and their credit, and
the end of a transmission, real or held (spec/03, R78 to R81; spec/05, R152, R158 to R160, R162, R163; spec/06, R187 to
R196; spec/10, R303, R304, R307; spec/15, R422, R425, R441, R442; spec/16, R470).
-/

namespace Sys2Proof.Machine

/-! ## Held egress (spec/15, R418, R422, R425) -/

/-- Egress of a port is held: standby pairing in STARTING, CLAIMING or STANDBY. Port M, which has no wire, is not held
(log entry 21). -/
def State.heldPort (s : State) (p : Nat) : Bool :=
  let r := s.fld F.PAIR_STATUS_ROLE
  s.fld F.PAIR_CFG_MODE == 1 && (r == 1 || r == 2 || r == 4) && p != 34

/-- A message that is never held (R422). -/
def CopyNote.free (n : CopyNote) : Bool :=
  match n with
  | .pair | .pdelayReq _ | .pdelayResp _ | .pdelayFollow => true
  | _ => false

def State.replayList (s : State) (p : Nat) : List (Nat × Copy) := mapGet (fun _ => []) s.twin.replay p
def State.setReplay (s : State) (p : Nat) (l : List (Nat × Copy)) : State :=
  { s with twin := { s.twin with replay := mapSet (fun _ => []) s.twin.replay p l } }

/-- A held copy leaves a port's replay list, 2,000 ns after its held transmission ended (R425). -/
def State.replayExit (s : State) (p : Nat) : State :=
  if s.twin.replaying then s
  else match s.replayList p with
    | [] => s
    | (q, c) :: r => (s.setReplay p r).endCopy q c

/-! ## Which MAC serves a queue (spec/03, R82; spec/07, R218) -/

/-- A gPTP event message, which the express MAC sends (R218). -/
def CopyNote.event (n : CopyNote) : Bool :=
  match n with
  | .sync _ | .pdelayReq _ | .pdelayResp _ => true
  | _ => false

/-- The preemptable MAC serves a copy at the head of a queue. -/
def State.onPmac (s : State) (p q : Nat) (c : Copy) : Bool := s.pmacQueue p (q % 8) && !c.note.event && c.note != .pair

/-- The MACs of a port are idle but for a preempted frame that waits. -/
def State.macIdle (s : State) (p : Nat) : Bool :=
  (s.txAt (2 * p)).isNone && (match s.txAt (2 * p + 1) with
    | some t => t.waiting
    | none => true)

/-! ## Eligibility (spec/06, R188) -/

/-- The transmission time of R188 fits a time in ns, at a rate in Mbit/s. -/
def fits (len rate ns : Nat) : Bool := decide ((len + 8) * 8000 ≤ ns * rate)

/-- The network time of a selection instant: the choice is made 3 CLK_CORE cycles before it (R187; log entry 66). -/
def State.instant (s : State) : Nat :=
  (((s.time.now : Int) + 3 * (2 * (fracPerNs : Int) + s.rateAdj)) % (timeMod : Int)).toNat

/-- The same in ns. -/
def State.instantNs (s : State) : Nat := s.instant / fracPerNs

/-- The last byte is written, or the copy is cut through (R159). -/
def State.complete (s : State) (p : Nat) (c : Copy) : Bool :=
  match c.frame with
  | none => true
  | some h => match s.frame h with
    | some f => f.written || (c.ctOk && !f.bad && (c.cross.isNone || s.ctEgress f p))
    | none => false

/-- The gate condition, at the time of the instant (R187). -/
def State.gateFits (s : State) (p n len : Nat) : Bool :=
  s.gateOpen p n s.instantNs && (match s.gateCloses p n s.instantNs with
    | none => true
    | some d => fits len (s.portRate p) d)

/-- The shaper condition. -/
def State.shaperOpen (s : State) (q : Nat) : Bool :=
  !s.flag (F.SHP_CTRL_EN q) || (decide (0 ≤ s.level (K.SHP_C_LEVEL q)) && decide (0 ≤ s.level (K.SHP_P_LEVEL q)))

/-- The launch condition, at the time of the instant (R187). -/
def State.launchReached (s : State) (c : Copy) : Bool :=
  match c.launch with
  | none => true
  | some t => decide (t ≤ s.instantNs)

/-- A copy that does not start while its port is a member of a committed group: any but a consent-ring frame (spec/13,
R369). -/
def State.quietCopy (s : State) (p : Nat) (c : Copy) : Bool :=
  decide (p < 34) && s.groupQuiet (s.portGroup p) &&
    (let b := s.copyBytes c
     beAt b (afterTags s.altTpid b 3 12) 2 != 0x88B6)

/-- A queue of a port is eligible for a MAC. -/
def State.eligible (s : State) (p : Nat) (pre : Bool) (n : Nat) : Bool :=
  match s.queue (8 * p + n) with
  | [] => false
  | c :: _ =>
    !(s.qs (8 * p + n)).quar && s.onPmac p n c == pre && s.complete p c && s.gateFits p n (s.wireLen p c) &&
      s.shaperOpen (8 * p + n) && s.launchReached c && (!pre || !s.flag (F.GATE_STATUS_HOLD_ACTIVE p)) &&
      !s.quietCopy p c

/-! ## Discards at the head (R158, R189) -/

/-- A head copy is longer than a non-zero MAX_OPEN (R189): judged where its length stands, or where it may start before that. -/
def State.noFit (s : State) (p n : Nat) (c : Copy) : Bool :=
  (s.copyWhole c || c.ctOk) && (match s.maxOpen p n with
    | none => false
    | some m => m != 0 && !fits (s.wireLen p c) (s.portRate p) m)

/-- Discards the aged head copies of a queue and those that can never fit, at most `fuel`. -/
def State.cleanHead (s : State) (p n : Nat) : Nat → State
  | 0 => s
  | fuel + 1 =>
    let q := 8 * p + n
    match s.queue q with
    | [] => s
    | c :: _ =>
      if s.aged q c then (((s.popHead q).endCopy q c).inc (C.buf 4)).cleanHead p n fuel
      else if s.noFit p n c then (((s.popHead q).endCopy q c).inc (C.sch 11)).cleanHead p n fuel
      else s

/-- Cleans the heads of a port's queues that are not quarantined. -/
def State.cleanHeads (s : State) (p : Nat) : State :=
  forEach (List.range 8) (fun n s => if (s.qs (8 * p + n)).quar then s else s.cleanHead p n (s.queue (8 * p + n)).length) s

/-! ## The choice (R190, R191) -/

/-- A queue is a member of its port's WFQ group. -/
def State.inGroup (s : State) (p n : Nat) : Bool :=
  match s.queue (8 * p + n) with
  | [] => s.fld (F.SCH_QUE_CFG_WEIGHT (8 * p + n)) != 0
  | _ :: _ => (s.qs (8 * p + n)).fin.isSome

/-- The rank of the group: its highest-numbered member. -/
def State.groupRank (s : State) (p : Nat) : Nat := ((List.range 8).filter (s.inGroup p)).foldl max 0

/-- A finish tag is before another, as signed 32-bit difference. -/
def tagBefore (a b : Nat) : Bool := decide (toSigned 32 (a + 2 ^ 32 - b) < 0)

/-- The better of two eligible queues, the second of which has the higher number. -/
def State.better (s : State) (p a b : Nat) : Nat :=
  let rank (n : Nat) := if s.inGroup p n then s.groupRank p else n
  if s.inGroup p a && s.inGroup p b then
    (if tagBefore ((s.finTag (8 * p + a)).getD 0) ((s.finTag (8 * p + b)).getD 0) then a else b)
  else if rank b < rank a then a else b

/-- The queue served next, of the eligible ones in rising order. -/
def State.choose (s : State) (p : Nat) : List Nat → Option Nat
  | [] => none
  | n :: r => some (r.foldl (s.better p) n)

/-- The eligible queues of a MAC. -/
def State.ready (s : State) (p : Nat) (pre : Bool) : List Nat := (List.range 8).filter (s.eligible p pre)

/-- ELIGIBLE of SCH_QUE_STATUS: eligible at the last selection instant. -/
def State.showReady (s : State) (p : Nat) (pre : Bool) : State :=
  forEach (List.range 8) (fun n s => match s.queue (8 * p + n) with
    | c :: _ => if s.onPmac p n c = pre then s.setFld (F.SCH_QUE_STATUS_ELIGIBLE (8 * p + n)) (b2n (s.eligible p pre n)) else s
    | [] => s.setFld (F.SCH_QUE_STATUS_ELIGIBLE (8 * p + n)) 0) s

/-! ## The start of a copy -/

/-- A copy taken from its queue is discarded. -/
def State.dropCopy (s : State) (q : Nat) (c : Copy) : State := s.endCopy q c

/-- A descriptor that is not live: every copy is discarded at its dequeue (R162). -/
def State.deadFrame (s : State) (c : Copy) : Bool :=
  match c.frame with
  | none => false
  | some h => match s.frame h with
    | some f => !f.live
    | none => true

/-- A launch time passed by more than LATE_NS (R196). -/
def State.tooLate (s : State) (q : Nat) (c : Copy) : Bool :=
  match c.launch with
  | none => false
  | some t =>
    let late := s.fld (F.SCH_LAUNCH_LATE_NS q)
    late != 0 && decide (t + late < s.instantNs)

/-- The length limit of R78 for a copy; the crossing tag does not count (spec/15, R439). -/
def State.maxLen (s : State) (p : Nat) (c : Copy) : Nat :=
  s.fld (F.MAC_FRAME_MAX_FRAME p) + (if c.cross.isSome then 8 else 0)

/-- A copy whose frame is whole is over the limit. -/
def State.oversize (s : State) (p : Nat) (c : Copy) : Bool := s.copyWhole c && decide (s.maxLen p c < s.copyLen c)

/-- The bytes of a copy with its FCS are over the limit. -/
def State.overMax (s : State) (p : Nat) (c : Copy) : Bool := decide (s.maxLen p c < (s.copyBytes c).length + 4)

/-- The frame of a copy has not had its last byte written. -/
def State.startsEarly (s : State) (c : Copy) : Bool :=
  match c.frame with
  | none => false
  | some h => match s.frame h with
    | some f => !f.written
    | none => false

/-- Charges an enabled shaper (R188). -/
def State.chargeShaper (s : State) (q len : Nat) : State :=
  if q < 280 ∧ s.flag (F.SHP_CTRL_EN q) then (s.charge (K.SHP_C_LEVEL q) len).charge (K.SHP_P_LEVEL q) len else s

/-- Puts a copy on a MAC. Its first bit leaves at the instant. -/
def State.begin (s : State) (p m q : Nat) (c : Copy) (sec : Option SecUse) (len : Nat) : State :=
  let early := s.startsEarly c
  let s := if early then
      (match c.frame with
        | some h => (s.modFrame h (fun f => { f with ct := true })).inc (C.buf 13)
        | none => s)
    else s
  let s := if m % 2 = 1 then s.setFld (F.MERGE_STATUS_PMAC_TX p) 1 else s
  let bypass := sec.isNone && decide (p < 10) && s.flag (F.SEC_CFG_TX_EN p)
  let stamp := { s with time := { s.time with now := s.instant } }.txStamp p
  (s.setTx m (some ⟨q, c, len, early, false, false, 0, false, stamp, bypass, s.heldPort p && !c.note.free, 0, sec⟩)).plcaUse p

/-- What R78, R162, R196 and R304 make of a copy taken from its queue, and its start. `shape` says that the shaper is
charged: not for a replayed copy, which was charged when it was held (log entry 22). True where a copy started. -/
def State.launchCopy (s : State) (p m q : Nat) (c : Copy) (err : BufErr) (shape : Bool) : Bool × State :=
  if s.deadFrame c then (false, s.dropCopy q c)
  else
    let s := match c.frame with
      | some h => s.bufError h err
      | none => s
    match c.frame, err with
    | some _, .cellData _ | some _, .linkWord _ | some _, .descriptor => (false, s.dropCopy q c)
    | _, _ =>
      if s.tooLate q c then (false, (s.dropCopy q c).inc (C.sch 10))
      else if s.oversize p c then (false, (s.dropCopy q c).inc (C.mac p 15))
      else
        let len := s.wireLen p c
        if s.secApplies p (s.copyBytes c) then
          match s.secTake p with
          | (none, s) => (false, s.dropCopy q c)
          | (some u, s) => (true, (if shape then s.chargeShaper q len else s).begin p m q c (some u) len)
        else (true, (if shape then s.chargeShaper q len else s).begin p m q c none len)

/-- Serves the chosen queues of a MAC until a copy starts or none is eligible, at most `fuel` copies. A node list that is bad
quarantines the queue it is of (R162). -/
def State.serve (s : State) (p : Nat) (pre : Bool) (err : BufErr) : Nat → Bool × State
  | 0 => (false, s)
  | fuel + 1 =>
    let s := s.cleanHeads p
    match s.choose p (s.ready p pre) with
    | none => (false, s)
    | some n =>
      let q := 8 * p + n
      match s.queue q with
      | [] => (false, s)
      | c :: _ =>
        if err = .nodeList then (s.badNodes q).serve p pre .none fuel
        else
          let s := match s.finTag q with
            | some f => { s with data := { s.data with vtime := mapSet (fun _ => 0) s.data.vtime p f } }
            | none => s
          match (s.popHead q).launchCopy p (2 * p + b2n pre) q c err true with
          | (true, s) => (true, s)
          | (false, s) => s.serve p pre .none fuel

/-! ## Crossing copies (spec/05, R152; spec/15, R441, R442) -/

def State.voqSent (s : State) (v : Nat) : Nat := mapGet (fun _ => 0) s.twin.voqSent v
def State.setVoqSent (s : State) (v n : Nat) : State :=
  { s with twin := { s.twin with voqSent := mapSet (fun _ => 0) s.twin.voqSent v n } }
def State.voqBack (s : State) (v : Nat) : Nat := mapGet (fun _ => 0) s.twin.voqBack v
def State.setVoqBack (s : State) (v n : Nat) : State :=
  { s with twin := { s.twin with voqBack := mapSet (fun _ => 0) s.twin.voqBack v n } }

/-- C_v, modulo 2^32. -/
def State.voqCredit (s : State) (v : Nat) : Nat :=
  ofSigned 32 ((s.twin.credit : Int) - ((s.voqSent v : Int) - (s.voqBack v : Int)))

/-- Cells of a crossing copy: its frame without the tag, and 8 bytes (R442). -/
def State.crossCells (s : State) (c : Copy) : Nat := cellsOf (s.copyLen c)

/-- The pair port a crossing copy takes (R441). -/
def State.crossPort (s : State) (c : Copy) : Option Nat :=
  match c.frame, c.cross with
  | some h, some t =>
    let b := hashBucket 0x1F7 (t.getD 6 0 * 256 + t.getD 7 0) (s.info h).walk
    let a := if b % 2 = 1 ∧ s.flag F.PAIR_CFG_P1_EN then 9 else 8
    let up := [8, 9].filter (fun p => s.pairPort p && s.portUp p)
    if up.contains a then some a else if up.isEmpty then none else some (up.getD (b % up.length) 0)
  | _, _ => none

/-- A VOQ's head may leave on a pair port. -/
def State.voqReady (s : State) (p v : Nat) : Bool :=
  match s.queue (280 + v) with
  | [] => false
  | c :: _ =>
    !(s.qs (280 + v)).quar && s.crossPort c == some p && s.complete p c && decide (s.crossCells c ≤ s.voqCredit v) &&
      !s.quietCopy p c

/-- The VOQs in the order of R152: higher queue first, then lower destination. -/
def voqOrder : List Nat := (List.range 8).reverse.flatMap (fun q => (List.range 36).map (fun d => 8 * d + q))

/-- Serves the VOQs on a pair port. -/
def State.serveVoq (s : State) (p : Nat) (err : BufErr) : Nat → Bool × State
  | 0 => (false, s)
  | fuel + 1 =>
    let s := forEach s.busyQueues (fun q s => if 280 ≤ q && !(s.qs q).quar then s.ageHeads q (s.queue q).length else s) s
    match voqOrder.find? (s.voqReady p) with
    | none => (false, s)
    | some v =>
      match s.queue (280 + v) with
      | [] => (false, s)
      | c :: _ =>
        let n := s.crossCells c
        if err = .nodeList then (s.badNodes (280 + v)).serveVoq p .none fuel
        else match (s.popHead (280 + v)).launchCopy p (2 * p) (280 + v) c err false with
          | (true, s) => (true, s.setVoqSent v ((s.voqSent v + n) % 2 ^ 32))
          | (false, s) => s.serveVoq p .none fuel

/-! ## A selection instant (R187) -/

/-- The replay list of a port is sent first after a takeover (spec/15, R425): eligible at once. -/
def State.serveReplay (s : State) (p : Nat) (pre : Bool) (err : BufErr) : Bool × State :=
  if !s.twin.replaying || s.heldPort p then (false, s)
  else match s.replayList p with
    | [] => (false, s)
    | (q, c) :: r =>
      if s.onPmac p (q % 8) c ≠ pre ∨ s.quietCopy p c then (false, s)
      else
        let (ok, s) := (s.setReplay p r).launchCopy p (2 * p + b2n pre) q c err false
        (ok, if ok then s.inc (C.pair 4) else s)

/-- Whether an express copy is ready on a port. -/
def State.expressReady (s : State) (p : Nat) : Bool :=
  !(s.ready p false).isEmpty || (s.twin.replaying && !s.heldPort p && (match s.replayList p with
    | (q, c) :: _ => !s.onPmac p (q % 8) c
    | [] => false))

/-- Preempts the preemptable frame in transmission where R80 permits it: `sent` bytes of its mPacket have left, the
mCRC they would end with included. -/
def State.preempt (s : State) (p sent : Nat) : State :=
  match s.txAt (2 * p + 1) with
  | none => s
  | some t =>
    let least := 64 * (wordBits (s.mergeEff p) 5 4 + 1)
    let left := t.len + 4 - (t.done + sent)
    if t.waiting ∨ !s.preempts p ∨ sent < least ∨ left < 64 then s
    else (s.setTx (2 * p + 1) (some { t with waiting := true, done := t.done + (sent - 4), fragments := t.fragments + 1 })).inc (C.mac p 14)

/-- A selection by the express MAC. -/
def State.selectExpress (s : State) (p sent : Nat) (err : BufErr) : State :=
  let s := (s.cleanHeads p).showReady p false
  let s := if s.expressReady p || s.flag (F.GATE_STATUS_HOLD_ACTIVE p) then s.preempt p sent else s
  if !s.macIdle p || !s.plcaOpen p then s
  else
    match s.serveReplay p false err with
    | (true, s) => s
    | (false, s) =>
      match s.serve p false err (s.nodesUsed + 1) with
      | (true, s) => s
      | (false, s) => if s.joined && s.pairPort p then (s.serveVoq p err (s.nodesUsed + 1)).2 else s

/-- A selection by the preemptable MAC: a preempted frame resumes first, and nothing starts while an express copy is
ready or a hold is active (R81, R194). -/
def State.selectPre (s : State) (p : Nat) (err : BufErr) : State :=
  let s := (s.cleanHeads p).showReady p true
  if !s.macIdle p || s.expressReady p || s.flag (F.GATE_STATUS_HOLD_ACTIVE p) then s
  else match s.txAt (2 * p + 1) with
    | some t => s.setTx (2 * p + 1) (some { t with waiting := false })
    | none =>
      match s.serveReplay p true err with
      | (true, s) => s
      | (false, s) => (s.serve p true err (s.nodesUsed + 1)).2

/-- Egress selection of a MAC: the command is the cycle of the choice (R187; log entry 66). An uncorrectable node list
quarantines the queue chosen (R162, R163). -/
def State.select (s : State) (p : Nat) (mac : MacSel) (sent : Nat) (err : BufErr) : State :=
  if !s.running || !s.portUp p then s
  else
    let s := match err with
      | .mapWord _ => s.bufError 0 err
      | _ => s
    match mac with
    | .express => s.selectExpress p sent err
    | .preemptable => s.selectPre p err

/-! ## The end of a transmission (R136) -/

/-- A frame's transmission can end: no further byte is to come, or it reached the length limit of R78. -/
def State.txCanEnd (s : State) (p : Nat) (t : Tx) : Bool :=
  !t.waiting && (match t.copy.frame with
    | none => true
    | some h => match s.frame h with
      | some f => f.written || f.cut || f.bad || (t.cutThrough && s.overMax p t.copy)
      | none => true)

/-- The bytes of a transmission without FCS: R78 cuts an oversize cut-through copy. -/
def State.wireBody (s : State) (p : Nat) (t : Tx) : List Byte :=
  let b := s.copyBytes t.copy
  let b := if t.cutThrough && s.overMax p t.copy then b.take (s.maxLen p t.copy - 4) else b
  match t.sec with
  | some u => secSeal u b
  | none => b

/-- The bytes a transmission put on the wire: R160 inverts the FCS of a bad one. -/
def State.wireBytes (s : State) (p : Nat) (t : Tx) (stomp : Bool) : List Byte :=
  let b := s.wireBody p t
  if stomp then b ++ stompBytes b else withFcs b

/-- The same of a preemptable frame that ends within an mPacket, which closes with the inverse of its mCRC: its fragments so
far, and a number of bytes of the last one that the spec leaves open (R162; spec/02, R540; log entry 5). -/
def State.brokenBytes (s : State) (p : Nat) (t : Tx) : List Byte :=
  let b := s.wireBody p t
  let b := b.take (t.done + s.freeNat 14 % (b.length - t.done + 1))
  b ++ badMcrc b

/-- A frame in transmission on a MAC is ended by a reset or a fatal fault (spec/02, R540): an express one with a stomped FCS, a
preemptable one with an invalid mCRC. Of a preempted frame that waits no mPacket is on the wire: what it sent stands, and it is
neither whole nor stomped. -/
def State.stompOne (s : State) (m : Nat) (t : Tx) : State :=
  let p := m / 2
  if t.held ∨ p = 34 then s
  else if m % 2 = 0 then
    let b := s.wireBytes p t true
    ((s.count (C.mac p 10) b.length).inc (C.mac p 12)).emit (.frame p b false)
  else if t.waiting then
    let b := (s.wireBody p t).take t.done
    (s.count (C.mac p 10) b.length).emit (.frame p b false)
  else
    let b := s.brokenBytes p t
    ((s.used.count (C.mac p 10) b.length).inc (C.mac p 12)).emit (.frame p b false)

/-- What port M delivers to the MC (spec/16, R470; spec/10, R297). -/
def State.deliverMc (s : State) (t : Tx) (b : List Byte) : State :=
  match t.copy.frame with
  | none => s
  | some h =>
    match s.frame h with
    | none => s
    | some f =>
      if t.copy.kind < 2 && (s.info h).walk.hdrSeen.testBit 13 then s.inc (C.zone 2)
      else if 64 ≤ s.mgt.mcFrames.length then s.inc (C.mgt 13)
      else
        let s := s.holdDma h
        { s with mgt := { s.mgt with mcFrames := s.mgt.mcFrames ++ [⟨some h, min f.port 34, t.copy.kind, f.stamp, b⟩] } }

/-- Counters and wire bytes of a transmission that was not held. -/
def State.txReal (s : State) (p : Nat) (t : Tx) (b : List Byte) (stomp long : Bool) : State :=
  let s := s.count (C.mac p 10) b.length
  let s := if stomp then s.inc (C.mac p 12) else s.inc (C.mac p 11)
  let s := if stomp && t.cutThrough && !long then s.inc (C.buf 14) else s
  let s := if long then s.inc (C.mac p 15) else s
  let s := if t.copy.cross.isSome then s.inc (C.pair 9) else s
  let s := if t.sec.isSome then s.inc (C.sec p 6) else if t.bypass then s.inc (C.sec p 7) else s
  if p = 34 then (if stomp then s else s.deliverMc t (s.copyBytes t.copy)) else s.emit (.frame p b (!stomp))

/-- A transmission ends: its hold on the frame is released, at once or through the replay list (R136; spec/15, R422,
R425). An error found while a preemptable frame is sent whose earlier fragments have left ends it in its mPacket (R162). -/
def State.transmitEnd (s : State) (p : Nat) (mac : MacSel) (err : BufErr) : State :=
  let m := 2 * p + (match mac with
    | .express => 0
    | .preemptable => 1)
  match s.txAt m with
  | none => s
  | some t =>
    if !s.running || !s.txCanEnd p t then s
    else
      let s := match t.copy.frame with
        | some h => s.bufError h err
        | none => s
      let hit := t.copy.frame.isSome && (match err with
        | .cellData _ | .linkWord _ | .descriptor => true
        | _ => false)
      let broken := hit && decide (0 < t.fragments)
      let long := !broken && t.cutThrough && s.overMax p t.copy
      let bad := match t.copy.frame with
        | some h => (match s.frame h with
          | some f => f.bad
          | none => false)
        | none => false
      let stomp := t.stomp || hit || long || bad
      let s := if m % 2 = 1 then s.setFld (F.MERGE_STATUS_PMAC_TX p) 0 else s
      if t.held then
        ((s.setTx m none).inc (C.pair 3)).setReplay p (s.replayList p ++ [(t.queue, t.copy)])
      else
        let b := if broken then s.brokenBytes p t else s.wireBytes p t stomp
        let s := ((if broken then s.used else s).txReal p t b stomp long).setTx m none
        let s := if stomp then s else s.noteSent p t.copy.note t.stamp
        s.endCopy t.queue t.copy

/-- After a takeover the copies in held transmission are sent again from their first byte, behind the port's replay
list (spec/15, R425). -/
def State.openReplay (s : State) : State :=
  let s := forEach s.ports.tx (fun c s => match c.2 with
    | some t => if t.held then (s.setTx c.1 none).setReplay (c.1 / 2) (s.replayList (c.1 / 2) ++ [(t.queue, t.copy)]) else s
    | none => s) s
  { s with twin := { s.twin with replaying := true } }

end Sys2Proof.Machine
end

