-- ==== Sys2Proof/Machine/Can.lean ====
section
/-!
DEFINITION. The CAN channels: reception, transmit requests with arbitration and retransmission, error counters and
bus-off, isolation, and shadow operation (spec/08, R234 to R245, R251, R252; the sources of the Lee routes, spec/14,
R405). The rules of ISO 11898-1 for the error counters come with the command (log entry 23).
-/

namespace Sys2Proof.Machine

/-! ## Edge channels -/

/-- Edge channels work: the unit is not halted (spec/14, R397). -/
def State.edgeOn (s : State) : Bool := s.saf.mode != .halted

/-- Whole ns of the time that stamps edge frames, less the ns since the edge (R238; spec/14, R401). -/
def State.edgeStamp (s : State) (ago : Nat) : Nat := s.stampClock / fracPerNs - ago

/-! ## Sources of the Lee routes (spec/14, R405) -/

/-- Fields of a Lee route's record (spec/14, R409). -/
def Route.channel (l : List Word) : Nat := bits (leeWord l 0) 23 19
def Route.fmt (l : List Word) : Nat := bits (leeWord l 0) 18 17
def Route.id (l : List Word) : Nat := leeWord l 1

/-- A frame delivered under R234 becomes a source. A source that a newer one, old enough to apply from now on, follows
is forgotten. -/
def State.leeSource (s : State) (channel fmt id stamp : Nat) (data : List Byte) : State :=
  if s.saf.routes.any (fun c => Route.channel c.2 == channel && Route.fmt c.2 == fmt && Route.id c.2 == id) then
    let same (x : LeeSrc) : Bool := x.channel == channel && x.fmt == fmt && x.id == id
    let applied (x : LeeSrc) : Bool := decide (x.stamp + s.fld F.LEE_EDGE_EDGE_SETUP_US * 1000 ≤ s.stampClock / fracPerNs)
    let old := s.saf.srcs.filter same
    let keep := old.filter (fun x => !applied x) ++ (old.filter applied).take 1
    { s with saf := { s.saf with srcs := ⟨channel, fmt, id, stamp, data⟩ :: keep ++ s.saf.srcs.filter (fun x => !same x) } }
  else s

/-! ## State of a CAN channel -/

def State.can (s : State) (n : Nat) : CanSt := mapGet (fun _ => .fresh) s.edge.can n
def State.setCan (s : State) (n : Nat) (c : CanSt) : State :=
  { s with edge := { s.edge with can := mapSet (fun _ => .fresh) s.edge.can n c } }

/-- A channel takes part in its bus. -/
def State.canLive (s : State) (n : Nat) : Bool :=
  s.edgeOn && s.fld (F.CAN_CTRL_MODE n) != 0 && !s.chanHeld n && !s.flag (F.CAN_STATUS_ISOLATED n)

/-- Sets an event flag of a channel. -/
def State.canEvent (s : State) (n bit : Nat) : State := s.raiseFlag ⟨K.CAN_EVT n, bit, bit⟩ (beBytes 1 n)

/-- The error state of error counters: 0 active, 1 passive, 2 bus-off (R243). -/
def canErrorState (tec rec : Nat) : Nat := if 256 ≤ tec then 2 else if 128 ≤ tec ∨ 128 ≤ rec then 1 else 0

/-- The error state that a channel is in; a channel that integrates keeps that of its counters. -/
def State.canWas (s : State) (n : Nat) : Nat :=
  let st := s.fld (F.CAN_STATUS_STATE n)
  if st = 3 then canErrorState (s.fld (F.CAN_STATUS_TEC n)) (s.fld (F.CAN_STATUS_REC n)) else st

/-- Error state and WARN from TEC and REC, with the flags and the count of what is entered (R243). -/
def State.canState (s : State) (n : Nat) (tec rec : Nat) : State :=
  let old := s.canWas n
  let warn := decide (96 ≤ tec) || decide (96 ≤ rec)
  let st := canErrorState tec rec
  let s := if warn && !s.flag (F.CAN_STATUS_WARN n) then s.canEvent n 2 else s
  let s := if st = 1 ∧ old ≠ 1 then s.canEvent n 1 else s
  let s := if st = 2 ∧ old ≠ 2 then (s.canEvent n 0).inc (C.edge n 7) else s
  s.setFlds [(F.CAN_STATUS_WARN n, b2n warn), (F.CAN_STATUS_STATE n, st), (F.CAN_STATUS_TEC n, min tec 511), (F.CAN_STATUS_REC n, min rec 255)]

/-- A channel that integrates has seen the bus idle when it next takes part in a frame (log entry 24). -/
def State.canIntegrate (s : State) (n : Nat) : State :=
  if s.canLive n ∧ s.fld (F.CAN_STATUS_STATE n) = 3 then
    (s.setFld (F.CAN_STATUS_BUS_IDLE n) 1).canState n (s.fld (F.CAN_STATUS_TEC n)) (s.fld (F.CAN_STATUS_REC n))
  else s

/-- A channel starts to integrate, as after reset. -/
def State.canRestart (s : State) (n : Nat) : State :=
  s.setFlds [(F.CAN_STATUS_TEC n, 0), (F.CAN_STATUS_REC n, 0), (F.CAN_STATUS_WARN n, 0), (F.CAN_STATUS_STATE n, 3), (F.CAN_STATUS_BUS_IDLE n, 0)]

/-- Error active or passive. -/
def State.canOnBus (s : State) (n : Nat) : Bool := s.canLive n && decide (s.fld (F.CAN_STATUS_STATE n) ≤ 1)

/-! ## Transmit requests (R241, R242, R251) -/

/-- Rank of a request in CAN arbitration: the 11 base bits, base before extended, the 18 extended bits. -/
def CanReq.rank (r : CanReq) : Nat := if r.fmt = 1 then r.id / 0x40000 * 0x80000 + 0x40000 + r.id % 0x40000 else r.id * 0x80000

/-- A request is placed; none where it is refused, which the channel counts (R241). -/
def State.canRequest (s : State) (n : Nat) (r : CanReq) : Bool × State :=
  let c := s.can n
  if s.fld (F.CAN_CTRL_MODE n) ≠ 1 ∨ s.chanHeld n ∨ s.flag (F.CAN_STATUS_ISOLATED n) ∨ s.fld (F.CAN_STATUS_STATE n) = 2 then
    (false, s.inc (C.edge n 5))
  else if s.flag (F.CAN_CTRL_SHADOW n) then
    let rest := c.reqs.filter (fun x => !(x.id == r.id && x.fmt == r.fmt))
    let s := if 32 ≤ rest.length then s.inc (C.edge n 11) else s
    (true, s.setCan n { c with reqs := (if 32 ≤ rest.length then rest.drop 1 else rest) ++ [r] })
  else if 32 ≤ c.reqs.length + b2n c.cur.isSome then (false, s.inc (C.edge n 5))
  else (true, s.setCan n { c with reqs := c.reqs ++ [r] })

/-- The request that ranks first; equal identifiers in order of arrival. -/
def firstReq : List CanReq → Option CanReq
  | [] => none
  | r :: l => some (l.foldl (fun a b => if b.rank < a.rank then b else a) r)

/-- An arbitration opportunity: the first-ranking request is entered (R241), and its SOF stamped (R239). -/
def State.canArbitrate (s : State) (n : Nat) : State :=
  let s := s.canIntegrate n
  let c := s.can n
  if !s.canOnBus n || s.flag (F.CAN_CTRL_SHADOW n) || s.fld (F.CAN_CTRL_MODE n) != 1 || c.cur.isSome ||
      s.groupQuiet (s.chanGroup n) then s
  else match firstReq c.reqs with
    | none => s
    | some r => (s.setCan n { c with reqs := c.reqs.erase r, cur := some (r, s.edgeStamp 0) }).setFld (F.CAN_STATUS_BUS_IDLE n) 0

/-- The request in transmission waits again, in the place it had: before those of its rank. -/
def State.canRequeue (s : State) (n : Nat) : State :=
  let c := s.can n
  match c.cur with
  | none => s
  | some (r, _) => s.setCan n { c with cur := none, reqs := r :: c.reqs }

/-- The stamp of a frame that an edge channel sent goes to the Weaver with the confirmation (R239). -/
def State.confirm (s : State) (channel stamp : Nat) : State :=
  { s with wvr := { s.wvr with confirms := mapSet (fun _ => 0) s.wvr.confirms channel stamp } }

/-- A transmitted frame ends (R239): TEC falls by one, and the stamp is confirmed to the Weaver. A shadowing channel sends none
(R251). -/
def State.canSent (s : State) (n : Nat) : State :=
  let c := s.can n
  match c.cur with
  | none => s
  | some (r, t) =>
    if !s.canOnBus n || s.flag (F.CAN_CTRL_SHADOW n) then s
    else
      let s := (s.setCan n { c with cur := none }).confirm n t
      let s := (s.inc (C.edge n 1)).emit (.can n r.fmt r.id (b2n r.fdf + 2 * b2n r.brs) r.xl r.data)
      (s.canState n (s.fld (F.CAN_STATUS_TEC n) - 1) (s.fld (F.CAN_STATUS_REC n))).setFld (F.CAN_STATUS_BUS_IDLE n) 1

/-! ## Reception (R234, R235, R238, R240) -/

/-- The protocol of a channel handles a frame's format: 0 yes, 1 it answers with an error frame, 2 it starts the
protocol exception event (R235). -/
def State.canFormat (s : State) (n : Nat) (f : CanFrame) : Nat :=
  match s.fld (F.CAN_CTRL_PROTOCOL n) with
  | 0 => if f.fdf || f.fmt == 2 then 1 else 0
  | 1 => if f.fmt = 2 then 2 else 0
  | _ => 0

/-- REC after a frame was received: one less, or for a passive receiver a value from 119 to 127 that the standard
leaves open (R243; log entry 5). -/
def State.recAfter (s : State) (n : Nat) : Nat × State :=
  let r := s.fld (F.CAN_STATUS_REC n)
  if 127 < r then (119 + s.freeNat 4 % 9, s.used) else (r - 1, s)

/-- A held shadow request that a frame matches is retired (R251). -/
def State.canRetire (s : State) (n : Nat) (f : CanFrame) : State :=
  let c := s.can n
  if !s.flag (F.CAN_CTRL_SHADOW n) then s
  else
    let hit (r : CanReq) : Bool := r.id == f.id && r.fmt == f.fmt && r.fdf == f.fdf && r.data == f.data
    if c.reqs.any hit then (s.setCan n { c with reqs := c.reqs.filter (fun r => !hit r) }).inc (C.edge n 10) else s

/-- A frame of another node is on the bus: the request in transmission has lost arbitration and waits again (R242). -/
def State.canLost (s : State) (n : Nat) : State :=
  if (s.can n).cur.isSome then (s.canRequeue n).inc (C.edge n 3) else s

/-- The channel answers with an error frame; a shadowing or a listening channel sends none (R235, R251). -/
def State.canErrorFrame (s : State) (n : Nat) : State :=
  if s.flag (F.CAN_CTRL_SHADOW n) || s.fld (F.CAN_CTRL_MODE n) == 2 then s else s.emit (.canError n)

/-- A classical controller receives an FD or XL frame: an error, of a kind that the standard leaves to the frame's bits (log
entry 5), answered with an error frame; REC rises as for an error that a receiver finds (R235, R243). -/
def State.canUnknown (s : State) (n : Nat) : State :=
  let s := ((s.used.inc (C.edge n 2)).setFld (F.CAN_STATUS_LEC n) (1 + s.freeNat 3 % 6)).canErrorFrame n
  if s.flag (F.CAN_CTRL_SHADOW n) then s else s.canState n (s.fld (F.CAN_STATUS_TEC n)) (s.fld (F.CAN_STATUS_REC n) + 1)

/-- A receive FIFO has a place for a frame of `len` bytes: it holds fewer than 16 frames, and with it at most 4 KiB of data (R240;
log entry 25). -/
def fifoFits (l : List WUnit) (len : Nat) : Bool :=
  decide (l.length < 16) && decide (l.foldl (fun a u => match u with
    | .pdu _ _ _ _ _ d _ _ => a + d.length
    | .timeout _ => a) len ≤ 4096)

/-- A received frame enters its channel's FIFO, or is lost and counted (R240). -/
def State.canFifo (s : State) (n : Nat) (u : WUnit) (len : Nat) : State :=
  let c := s.can n
  if fifoFits c.fifo len then s.setCan n { c with fifo := c.fifo ++ [u] } else (s.inc (C.edge n 6)).canEvent n 4

/-- A correct frame on the bus, its SOF `ago` ns ago. -/
def State.canReceive (s : State) (n : Nat) (f : CanFrame) (ago : Nat) : State :=
  let s := s.canIntegrate n
  if !s.canOnBus n then s
  else
    let s := s.canLost n
    match s.canFormat n f with
    | 1 => s.canUnknown n
    | 2 => (((s.inc (C.edge n 9)).canEvent n 6).setFld (F.CAN_STATUS_STATE n) 3).setFld (F.CAN_STATUS_BUS_IDLE n) 0
    | _ =>
      let s := s.canRetire n f
      let s := if s.flag (F.CAN_CTRL_SHADOW n) then s
        else
          let (r, s) := s.recAfter n
          s.canState n (s.fld (F.CAN_STATUS_TEC n)) r
      let s := ((s.inc (C.edge n 0)).setFld (F.CAN_STATUS_LEC n) 0).setFld (F.CAN_STATUS_BUS_IDLE n) 1
      let stamp := s.edgeStamp ago
      let s := s.leeSource n f.fmt f.id stamp f.data
      if s.running then s.canFifo n (.pdu 0 n 0 f.fmt f.id f.data stamp ⟨f.fdf, f.brs, f.rtr, f.xl⟩) f.data.length else s

/-! ## Errors and bus-off (R242 to R244) -/

/-- A failed attempt of the request in transmission: dropped after TX_RETRY failures that follow the first. -/
def State.canFail (s : State) (n : Nat) : State :=
  let c := s.can n
  match c.cur with
  | none => s
  | some (r, _) =>
    let lim := s.fld (F.CAN_LIMITS_TX_RETRY n)
    let r := { r with fails := r.fails + 1 }
    if lim ≠ 0 ∧ lim < r.fails then (s.setCan n { c with cur := none }).inc (C.edge n 4)
    else s.setCan n { c with cur := none, reqs := r :: c.reqs }

/-- A bus error of a kind (LEC's code), found while transmitting or receiving, for which the standard raises the
counter by `step`. A shadowing channel leaves its counters (R251). -/
def State.canError (s : State) (n lec : Nat) (sending : Bool) (step : Nat) : State :=
  let s := s.canIntegrate n
  if !s.canOnBus n then s
  else
    let sending := sending && (s.can n).cur.isSome
    let s := s.setFld (F.CAN_STATUS_LEC n) lec
    let s := (if sending then s.canFail n else (s.canLost n).inc (C.edge n 2)).canErrorFrame n
    let s := if s.flag (F.CAN_CTRL_SHADOW n) then s
      else if sending then s.canState n (s.fld (F.CAN_STATUS_TEC n) + step) (s.fld (F.CAN_STATUS_REC n))
      else s.canState n (s.fld (F.CAN_STATUS_TEC n)) (s.fld (F.CAN_STATUS_REC n) + step)
    if s.fld (F.CAN_STATUS_STATE n) = 2 then s.setCan n { s.can n with holdOver := false, asked := false, recovering := false }
    else s

/-- BUSOFF_HOLD_MS has passed (R244). -/
def State.canHoldEnd (s : State) (n : Nat) : State :=
  let c := s.can n
  if s.fld (F.CAN_STATUS_STATE n) ≠ 2 then s
  else s.setCan n { c with holdOver := true, recovering := c.recovering || c.asked || s.flag (F.CAN_CTRL_AUTO_RECOVER n) }

/-- A RECOVER command (R244). -/
def State.canRecover (s : State) (n : Nat) : State :=
  let c := s.can n
  if s.fld (F.CAN_STATUS_STATE n) ≠ 2 then s
  else if c.asked then s.setFld (F.CAN_CTRL_ERR_BUSY n) 1
  else s.setCan n { c with asked := true, recovering := c.recovering || c.holdOver }

/-- The recovery sequence ends (R244). -/
def State.canRecovered (s : State) (n : Nat) : State :=
  let c := s.can n
  if s.fld (F.CAN_STATUS_STATE n) ≠ 2 ∨ !c.recovering then s
  else
    let s := s.setCan n { c with holdOver := false, asked := false, recovering := false }
    (s.setFld (F.CAN_STATUS_BUS_IDLE n) 1).canState n 0 0

/-! ## Isolation (R245) and transceiver control (R250) -/

/-- CANn_STB is high: the transceiver is at the standby level. -/
def State.canStandby (s : State) (n : Nat) : Bool :=
  match s.fld (F.CAN_CTRL_STB_FORCE n) with
  | 1 => false
  | 2 => true
  | _ => s.fld (F.CAN_CTRL_MODE n) == 0 || s.asleep (s.chanGroup n) ||
      (s.flag (F.CAN_STATUS_ISOLATED n) && s.flag (F.CAN_CTRL_STB_ON_STUCK n))

/-- A channel dominant beyond DOM_LIMIT is isolated; a frame in reception ends as an error. -/
def State.canIsolate (s : State) (n : Nat) (receiving : Bool) : State :=
  if !s.canLive n then s
  else
    let s := (s.canRequeue n).setFlds [(F.CAN_STATUS_ISOLATED n, 1), (F.CAN_STATUS_BUS_IDLE n, 0)]
    let s := if receiving then s.inc (C.edge n 2) else s
    (s.canEvent n 3).inc (C.edge n 8)

/-- After 128 × 11 recessive bits the channel integrates as after reset. -/
def State.canRejoin (s : State) (n : Nat) : State :=
  if s.flag (F.CAN_STATUS_ISOLATED n) then (s.setFld (F.CAN_STATUS_ISOLATED n) 0).canRestart n else s

/-! ## Shadow operation (R251, R252) and registers -/

/-- Egress of the unit is held: its channels shadow. -/
def State.shadows (s : State) : Bool := s.heldPort 0

/-- A shadowing CAN channel clears SHADOW at its bus idle once the unit is active. -/
def State.canUnshadow (s : State) (n : Nat) : State :=
  if s.flag (F.CAN_CTRL_SHADOW n) && !s.shadows then
    let s := s.setCan n { s.can n with holdOver := false, asked := false, recovering := false }
    (((s.setFld (F.CAN_CTRL_SHADOW n) 0).canState n 0 0).setFld (F.CAN_STATUS_BUS_IDLE n) 1).canEvent n 7
  else s

/-- MODE of a CAN channel changes: a channel that is disabled forgets its requests, one that is enabled integrates. -/
def State.canMode (s : State) (n old : Nat) : State :=
  let m := s.fld (F.CAN_CTRL_MODE n)
  if m = 0 then
    ((s.setCan n .fresh).canRestart n).setFlds [(F.CAN_CTRL_SHADOW n, 0), (F.CAN_STATUS_ISOLATED n, 0)]
  else if old = 0 then (s.canRestart n).setFld (F.CAN_CTRL_SHADOW n) (b2n s.shadows)
  else s

/-- A reset group of a channel is held: its waiting requests are discarded and counted, its status fields return to
their reset values (spec/17, R501). -/
def State.canReset (s : State) (n : Nat) : State :=
  let c := s.can n
  let k := c.reqs.length + b2n c.cur.isSome
  let s := if k = 0 then s else s.count (C.edge n 4) k
  let s := s.setCan n .fresh
  ((s.setReg (K.CAN_STATUS n) (if s.fld (F.CAN_CTRL_MODE n) = 0 then 0 else 3)).setReg (K.CAN_EVT n) 0).setFlds
    [(F.CAN_CTRL_ERR_BUSY n, 0), (F.CAN_CNT_CTRL_ERR_BUSY n, 0)]

end Sys2Proof.Machine
end

