-- ==== Sys2Proof/Machine/Lin.lean ====
section
/-!
DEFINITION. The LIN channels: schedule tables, headers and responses, isolation, wake pulses, transceivers and shadow
operation (spec/08, R234, R246 to R252, R255, R256; spec/13, R367, R369). The parity of the protected identifier and the
checksum are those of ISO 17987 (PRESUMED, log entry 13).
-/

namespace Sys2Proof.Machine

def State.lin (s : State) (n : Nat) : LinSt := mapGet (fun _ => .fresh) s.edge.lin n
def State.setLin (s : State) (n : Nat) (l : LinSt) : State :=
  { s with edge := { s.edge with lin := mapSet (fun _ => .fresh) s.edge.lin n l } }

/-- A channel takes part in its bus. -/
def State.linLive (s : State) (n : Nat) : Bool :=
  s.edgeOn && s.fld (F.LIN_CTRL_MODE n) != 0 && !s.chanHeld (24 + n) && !s.flag (F.LIN_STATUS_ISOLATED n)

/-- Sets an event flag of a channel. -/
def State.linEvent (s : State) (n bit : Nat) : State := s.raiseFlag ⟨K.LIN_EVT n, bit, bit⟩ (beBytes 1 (24 + n))

/-! ## Frames (R247, R248) -/

/-- The protected identifier. -/
def linPid (id : Nat) : Nat :=
  let b (i : Nat) : Nat := id / 2 ^ i % 2
  id % 64 + 64 * ((b 0 + b 1 + b 2 + b 4) % 2) + 128 * ((1 + b 1 + b 3 + b 4 + b 5) % 2)

/-- The sum with carries that the checksum inverts. -/
def linSum (l : List Byte) (start : Nat) : Nat :=
  l.foldl (fun a b => if 255 < a + b.toNat then a + b.toNat - 255 else a + b.toNat) start

/-- The frame configuration of an identifier: key of its LIN_FRAME_CFG. -/
def linFrameKey (id : Nat) : Nat := id % 64

/-- The checksum of a response: the model of the identifier, classic for 0x3C and 0x3D. -/
def State.linChecksum (s : State) (n id : Nat) (l : List Byte) : Byte :=
  let enhanced := s.flag (F.LIN_FRAME_CFG_ENHANCED n (linFrameKey id)) && id != 0x3C && id != 0x3D
  BitVec.ofNat 8 (255 - linSum l (if enhanced then linPid id else 0))

/-- Length of a response. -/
def State.linLen (s : State) (n id : Nat) : Nat := s.fld (F.LIN_FRAME_CFG_LEN_M1 n (linFrameKey id)) + 1

/-- DIR of an identifier: 3 acts as 0. -/
def State.linDir (s : State) (n id : Nat) : Nat := s.fld (F.LIN_FRAME_CFG_DIR n (linFrameKey id)) % 3

/-- The data supplied for an identifier. -/
def State.linData (s : State) (n id : Nat) : Option (List Byte) :=
  ((s.lin n).supplied.find? (fun c => c.1 == id)).map (fun c => c.2)

/-- Supplies response data (R248). -/
def State.linSupply (s : State) (n id : Nat) (data : List Byte) : State :=
  let l := s.lin n
  s.setLin n { l with supplied := (id, data) :: l.supplied.filter (fun c => c.1 != id) }

/-- CLK_CORE cycles of a number of bit times: a bit is DIV cycles of 25 ns, a CLK_CORE cycle 2 ns (R247). -/
def State.linBits (s : State) (n bitTimes : Nat) : Nat := bitTimes * s.fld (F.LIN_BAUD_DIV n) * 25 / 2

/-- The channel itself has the bus for a number of bit times more. -/
def State.linHold (s : State) (n bitTimes : Nat) : State :=
  let l := s.lin n
  (s.setLin n { l with busy := some (max (l.busy.getD s.cycle) s.cycle + s.linBits n bitTimes) }).setFld (F.LIN_STATUS_BUS_IDLE n) 0

/-- A response is sent, of the identifier's length; its stamp, that of the break, goes to the Weaver (R239, R248). -/
def State.linRespond (s : State) (n id : Nat) (data : List Byte) : State :=
  let d := padTo (s.linLen n id) 0 data
  (((s.inc (C.edge (24 + n) 2)).confirm (24 + n) (s.lin n).stamp).emit (.linResponse n (d ++ [s.linChecksum n id d]))).linHold n
    (10 * (d.length + 1))

/-- What follows a header on the bus: the channel answers, awaits a response, or neither (R248). -/
def State.linAfter (s : State) (n id : Nat) : State :=
  match s.linDir n id with
  | 1 => (match s.linData n id with
    | some d => if s.flag (F.LIN_CTRL_SHADOW n) then s else s.linRespond n id d
    | none => s)
  | 2 => (s.setLin n { s.lin n with await := some id }).setFld (F.LIN_STATUS_BUS_IDLE n) 0
  | _ => s

/-- A commander sends a header: break of BREAK_BITS and delimiter, sync byte, protected identifier (R247). Its stamp is that of
the falling edge that starts the break (R238). A shadowing commander sends none (R251). -/
def State.linBreak (s : State) (n id : Nat) : State :=
  if s.flag (F.LIN_CTRL_SHADOW n) then s
  else
    let brk := s.fld (F.LIN_CFG_BREAK_BITS n)
    let s := s.setLin n { s.lin n with stamp := s.edgeStamp 0 }
    ((s.inc (C.edge (24 + n) 0)).emit (.linHeader n brk 0x55 (linPid id))).linHold n (brk + 21)

/-- A commander's header leaves, and what follows it. A diagnostic request has its data with it; a shadowing commander follows its
schedule silently (R249, R251). -/
def State.linHeader (s : State) (n id : Nat) (d : Option (List Byte)) : State :=
  let s := s.linBreak n id
  match d with
  | none => s.linAfter n id
  | some d => if s.flag (F.LIN_CTRL_SHADOW n) then s else s.linRespond n id d

/-- The bus is free: a header that waits for it leaves. -/
def State.linFree (s : State) (n : Nat) : State :=
  let l := s.lin n
  let s := (s.setLin n { l with await := none, waiting := none, busy := none }).setFld (F.LIN_STATUS_BUS_IDLE n) 1
  match l.waiting with
  | none => s
  | some (id, d) => s.linHeader n id d

/-- A frame is on the bus: a response is awaited, or what the channel sends has not ended. -/
def State.linBusy (s : State) (n : Nat) : Bool :=
  (s.lin n).await.isSome || (match (s.lin n).busy with
    | some c => decide (s.cycle < c)
    | none => false)

/-- A slot's header: at once, or after the frame that is still on the bus (R249). -/
def State.linStart (s : State) (n id : Nat) (d : Option (List Byte)) : State :=
  if s.linBusy n then (s.setLin n { s.lin n with waiting := some (id, d) }).inc (C.edge (24 + n) 7)
  else s.linHeader n id d

/-- What the channel sends ends in this cycle: the bus is free. -/
def State.linTick (s : State) (n : Nat) : State :=
  let l := s.lin n
  match l.busy with
  | some c => if c ≤ s.cycle then (if l.await.isSome then s.setLin n { l with busy := none } else s.linFree n) else s
  | none => s

/-! ## Schedule tables (R249) -/

/-- LEN of a table. -/
def State.linTableLen (s : State) (n t : Nat) : Nat :=
  match t with
  | 0 => s.fld (F.LIN_TABLE_LEN_LEN0 n)
  | 1 => s.fld (F.LIN_TABLE_LEN_LEN1 n)
  | 2 => s.fld (F.LIN_TABLE_LEN_LEN2 n)
  | _ => s.fld (F.LIN_TABLE_LEN_LEN3 n)

/-- The first whole millisecond of network time that is `ahead` ns or more away, in ns. -/
def State.wholeMs (s : State) (ahead : Nat) : Nat := (s.nowNs + ahead + 999999) / 1000000 * 1000000

/-- A table becomes the active one: it starts at its first entry, at the first whole millisecond that is at least 1 ms away
(R249). -/
def State.linSwitchTo (s : State) (n t : Nat) : State :=
  (s.setLin n { s.lin n with next := 0, slotAt := some (s.wholeMs 1000000) }).setFlds
    [(F.LIN_STATUS_TABLE n, t), (F.LIN_STATUS_ENTRY n, 0), (F.LIN_STATUS_SWITCH_PENDING n, 0)]

/-- The running table starts again (R249; spec/13, R367). -/
def State.linAgain (s : State) (n : Nat) : State := s.linSwitchTo n (s.fld (F.LIN_STATUS_TABLE n))

/-- Tables that become active at step 9 of a gust start at the first whole millisecond after it (R249). -/
def State.linGust (s : State) : State :=
  forEach (List.range 8) (fun n s =>
    if (s.lin n).slotAt.isSome then s.setLin n { s.lin n with slotAt := some (s.wholeMs 0) } else s) s

/-- A pending switch takes effect: the table requested starts. -/
def State.linSwitchNow (s : State) (n : Nat) : State := s.linSwitchTo n (s.fld (F.LIN_CTRL_TABLE n))

/-- A SWITCH command: it waits for the end of the running table's last slot, or takes effect at once where no table
runs; ERR_BUSY while one waits. -/
def State.linSwitch (s : State) (n : Nat) : State :=
  if s.flag (F.LIN_STATUS_SWITCH_PENDING n) then s.setFld (F.LIN_CTRL_ERR_BUSY n) 1
  else if s.linTableLen n (s.fld (F.LIN_STATUS_TABLE n)) = 0 ∨ s.fld (F.LIN_CTRL_MODE n) ≠ 1 then s.linSwitchNow n
  else s.setFld (F.LIN_STATUS_SWITCH_PENDING n) 1

/-- The content of the slot of an entry. -/
def State.linEntry (s : State) (n k : Nat) : State :=
  let id := s.fld (F.LIN_SCHED_ENTRY_ID n k)
  match s.fld (F.LIN_SCHED_ENTRY_TYPE n k) with
  | 2 =>
    let l := s.lin n
    (match l.diag with
      | none => s
      | some d => (s.setLin n { l with diag := none }).linStart n 0x3C (some d))
  | 3 => s.linStart n 0x3D none
  | _ => s.linStart n id none

/-- The go-to-sleep frame, in place of a slot (spec/13, R369): a diagnostic request of 0x00 and 0xFF (ISO 17987:
PRESUMED, log entry 13). -/
def State.linGoSleep (s : State) (n : Nat) : State :=
  (s.setLin n { s.lin n with goSleep := false, slept := true }).linStart n 0x3C (some (0 :: List.replicate 7 0xFF))

/-- The next slot's instant has come. A go-to-sleep frame of a commander that runs no table has no slot to wait for. -/
def State.slotDue (s : State) (n : Nat) : Bool :=
  match (s.lin n).slotAt with
  | some t => decide (t ≤ s.nowNs)
  | none => (s.lin n).goSleep

/-- Entry `k` of the running table takes the slot: the one after it starts DELAY of its own entry later (R249, DEDUCED: slot k
starts DELAY after slot k − 1; log entry 70). -/
def State.linTake (s : State) (n t k len : Nat) : State :=
  let l := s.lin n
  let after := (k + 1) % len
  (s.setLin n { l with
    next := k + 1
    slotAt := l.slotAt.map (fun a => a + 100000 * s.fld (F.LIN_SCHED_ENTRY_DELAY n (32 * t + after))) }).setFld (F.LIN_STATUS_ENTRY n) k

/-- A slot of a commander starts, at its instant of network time. A pending switch takes effect in its place where the last slot of
the running table has ended. An isolated commander's schedule goes on, and it sends again from the next slot boundary after its
isolation (R246, R249). -/
def State.linSlot (s : State) (n : Nat) : State :=
  if !s.edgeOn || s.chanHeld (24 + n) || s.fld (F.LIN_CTRL_MODE n) != 1 || !s.slotDue n then s
  else
    let l := s.lin n
    let t := s.fld (F.LIN_STATUS_TABLE n)
    let len := s.linTableLen n t
    let live := s.linLive n
    if l.goSleep && live then s.linGoSleep n
    else if s.groupQuiet (s.chanGroup (24 + n)) then s
    else if s.flag (F.LIN_STATUS_SWITCH_PENDING n) && decide (len ≤ l.next) then s.linSwitchNow n
    else if len = 0 then s
    else
      let k := if len ≤ l.next then 0 else l.next
      let s := s.linTake n t k len
      if live then s.linEntry n (32 * t + k) else s

/-! ## Responders and responses (R247, R248) -/

/-- A responder detects a header whose break began `ago` ns ago; `good` says that break, sync field and parity were right. -/
def State.linHeaderIn (s : State) (n id : Nat) (good : Bool) (ago : Nat) : State :=
  if !s.linLive n || s.fld (F.LIN_CTRL_MODE n) != 2 then s
  else if !good then (s.inc (C.edge (24 + n) 9)).linEvent n 5
  else (s.setLin n { s.lin n with await := none, waiting := none, stamp := s.edgeStamp ago }).linAfter n id

/-- A received response enters its channel's FIFO, or is lost and counted (R240). -/
def State.linFifo (s : State) (n : Nat) (u : WUnit) (len : Nat) : State :=
  let l := s.lin n
  if fifoFits l.fifo len then s.setLin n { l with fifo := l.fifo ++ [u] } else s.inc (C.edge (24 + n) 10)

/-- A response ends on the bus: delivered, or counted by its cause: one of fewer bytes than its length asks is incomplete. Bytes
are those of data and checksum. -/
def State.linResponseIn (s : State) (n : Nat) (bytes : List Byte) (fin : LinEnd) (ago : Nat) : State :=
  match (s.lin n).await with
  | none => s
  | some id =>
    if !s.linLive n then s
    else
      let s := s.linFree n
      match fin with
      | .collision => (s.inc (C.edge (24 + n) 6)).linEvent n 3
      | .framing => (s.inc (C.edge (24 + n) 5)).linEvent n 2
      | .bit => (s.inc (C.edge (24 + n) 5)).linEvent n 2
      | .whole =>
        let k := s.linLen n id
        let d := bytes.take k
        if bytes.length ≤ k then (s.inc (C.edge (24 + n) 3)).linEvent n 0
        else if bytes.getD k 0 ≠ s.linChecksum n id d then (s.inc (C.edge (24 + n) 4)).linEvent n 1
        else
          let s := s.inc (C.edge (24 + n) 1)
          let stamp := s.edgeStamp ago
          let s := s.leeSource (24 + n) 0 id stamp d
          if s.running then s.linFifo n (.pdu 0 (24 + n) 0 0 id d stamp .none) k else s

/-- A response is incomplete after its time limit. -/
def State.linTimeout (s : State) (n : Nat) : State :=
  match (s.lin n).await with
  | none => s
  | some _ => if !s.linLive n then s else ((s.linFree n).inc (C.edge (24 + n) 3)).linEvent n 0

/-! ## Isolation, wake pulses, transceivers, shadow (R246, R249 to R252) -/

def State.linIsolate (s : State) (n : Nat) : State :=
  if !s.linLive n then s
  else
    let s := s.setLin n { s.lin n with await := none, waiting := none, busy := none }
    ((s.setFlds [(F.LIN_STATUS_ISOLATED n, 1), (F.LIN_STATUS_BUS_IDLE n, 0)]).linEvent n 4).inc (C.edge (24 + n) 8)

def State.linRejoin (s : State) (n : Nat) : State :=
  if s.flag (F.LIN_STATUS_ISOLATED n) then s.setFlds [(F.LIN_STATUS_ISOLATED n, 0), (F.LIN_STATUS_BUS_IDLE n, 1)] else s

/-- A wake pulse starts (R249); an isolated or a shadowing channel drives none (R246, R251). -/
def State.linPulse (s : State) (n : Nat) : State :=
  if s.linLive n && !s.flag (F.LIN_CTRL_SHADOW n) then (s.setLin n { s.lin n with pulse := true }).emit (.linWake n) else s

/-- A WAKE command. -/
def State.linWake (s : State) (n : Nat) : State :=
  if (s.lin n).pulse then s.setFld (F.LIN_CTRL_ERR_BUSY n) 1
  else s.linPulse n

def State.linPulseEnd (s : State) (n : Nat) : State := s.setLin n { s.lin n with pulse := false }

/-- LINn_EN is low: the transceiver is at the standby level. -/
def State.linStandby (s : State) (n : Nat) : Bool :=
  match s.fld (F.LIN_CTRL_EN_FORCE n) with
  | 1 => false
  | 2 => true
  | _ => s.fld (F.LIN_CTRL_MODE n) == 0 || s.asleep (s.chanGroup (24 + n))

def State.linUnshadow (s : State) (n : Nat) : State :=
  if s.flag (F.LIN_CTRL_SHADOW n) && !s.shadows then (s.setFld (F.LIN_CTRL_SHADOW n) 0).linEvent n 7 else s

/-- MODE of a LIN channel changes: a disabled channel forgets what was supplied and what waits, one that changes its role keeps
what the Weaver supplied since it was enabled (R248); a commander's table 0, or the one last switched to, starts from its first
entry. -/
def State.linMode (s : State) (n old : Nat) : State :=
  let m := s.fld (F.LIN_CTRL_MODE n)
  if m = old then s
  else
    let l := s.lin n
    let s := s.setLin n (if m = 0 ∨ old = 0 then .fresh else { l with await := none, waiting := none, busy := none, slotAt := none })
    let s := if m = 1 then s.linAgain n else s
    if m = 0 then s.setFlds [(F.LIN_CTRL_SHADOW n, 0), (F.LIN_STATUS_ISOLATED n, 0), (F.LIN_STATUS_BUS_IDLE n, 0), (F.LIN_STATUS_SWITCH_PENDING n, 0)]
    else s.setFlds [(F.LIN_CTRL_SHADOW n, b2n s.shadows), (F.LIN_STATUS_BUS_IDLE n, 1), (F.LIN_STATUS_ENTRY n, 0)]

/-- A reset group of a channel is held (spec/17, R501). A diagnostic request that waits is dropped; a LIN channel has no counter
of dropped requests (R256). -/
def State.linReset (s : State) (n : Nat) : State :=
  (((s.setLin n .fresh).setReg (K.LIN_STATUS n) 0).setReg (K.LIN_EVT n) 0).setFlds
    [(F.LIN_CTRL_ERR_BUSY n, 0), (F.LIN_CNT_CTRL_ERR_BUSY n, 0)]

/-- SHADOW of every enabled channel as the unit's role says: a frame in transmission is broken off, and its request waits (R251). -/
def State.shadowAll (s : State) : State :=
  let s := forEach (List.range 24) (fun n s =>
    if s.fld (F.CAN_CTRL_MODE n) ≠ 0 then (s.canRequeue n).setFld (F.CAN_CTRL_SHADOW n) 1 else s) s
  forEach (List.range 8) (fun n s => if s.fld (F.LIN_CTRL_MODE n) ≠ 0 then s.setFld (F.LIN_CTRL_SHADOW n) 1 else s) s

end Sys2Proof.Machine
end

