-- ==== Sys2Proof/Machine/Ledger.lean ====
section
/-!
DEFINITION. The energy ledger: inputs, integration, records, batches and their signatures (spec/12, R342 to R353).
-/

namespace Sys2Proof.Machine

/-! ## Inputs and meters (R342, R343) -/

/-- An input is stale. -/
def State.ldgStale (s : State) (k : Nat) : Bool := (s.fld F.LDG_STATUS_STALE).testBit k

def State.setStale (s : State) (k : Nat) (b : Bool) : State :=
  let m := s.fld F.LDG_STATUS_STALE
  s.setFld F.LDG_STATUS_STALE (if b then m ||| 2 ^ k else m &&& (255 - 2 ^ k))

/-- STALE_MS, STANDBY_EN and the enables in effect (R349). -/
def State.ldgStaleMs (s : State) : Nat := wordBits s.ldg.cfg 19 8
def State.ldgStandby (s : State) : Bool := s.ldg.cfg.toNat.testBit 3
def State.ldgEnabled (s : State) (m : Nat) : Bool := s.ldg.cfg.toNat.testBit m

/-- A value is delivered to an input with its event time (spec/09, R264); the value it had at the last whole millisecond is kept. A value of a timeout unit makes it stale. -/
def State.ldgDeliver (s : State) (k : Nat) (v : Int) (event : Nat) (timeout : Bool) : State :=
  let ms := s.nowNs / 1000000 * 1000000
  let first := match mapGet (fun _ => none) s.ldg.delivered k with
    | some t => decide (t < ms)
    | none => true
  let before := if first then mapSet (fun _ => 0) s.ldg.before k (s.reg (K.LDG_INPUT k)) else s.ldg.before
  let s := s.setFld (F.LDG_INPUT_VALUE k) (ofSigned 32 v)
  let s := { s with ldg := { s.ldg with
    before := before
    delivered := mapSet (fun _ => none) s.ldg.delivered k (some s.nowNs)
    eventAt := mapSet (fun _ => 0) s.ldg.eventAt k event } }
  s.setStale k timeout

/-- An input has received no value for STALE_MS (R343). -/
def State.ldgInputStale (s : State) (k : Nat) : State :=
  match mapGet (fun _ => none) s.ldg.delivered k with
  | none => s
  | some t => if t + s.ldgStaleMs * 1000000 ≤ s.nowNs then s.setStale k true else s

/-- The fresh source of an input: itself, or its standby. -/
def State.ldgSource (s : State) (k : Nat) : Option Nat :=
  if !s.ldgStale k then some k else if s.ldgStandby && !s.ldgStale (k + 4) then some (k + 4) else none

/-- A meter's sources, none where it is in a gap. -/
def State.ldgSources (s : State) (m : Nat) : Option (Nat × Nat) :=
  if !s.ldgEnabled m then none
  else match s.ldgSource (2 * m), s.ldgSource (2 * m + 1) with
    | some i, some u => some (i, u)
    | _, _ => none

/-! ## Records (R347, R348) -/

def ldgRing : Nat := 32768

def State.acc (s : State) (a : Nat) : Nat := s.pair (K.LDG_ACC_LO a) (K.LDG_ACC_HI a)
def State.setAcc (s : State) (a v : Nat) : State := s.setPair (K.LDG_ACC_LO a) (K.LDG_ACC_HI a) (v % 2 ^ 64)
def State.residual (s : State) (a : Nat) : Nat := mapGet (fun _ => 0) s.ldg.residual a
def State.setResidual (s : State) (a v : Nat) : State :=
  { s with ldg := { s.ldg with residual := mapSet (fun _ => 0) s.ldg.residual a v } }

/-- A meter is in a gap, as its status bit says. -/
def State.gapBit (s : State) (m : Nat) : Bool := if m = 0 then s.flag F.LDG_STATUS_GAP0 else s.flag F.LDG_STATUS_GAP1

/-- The bytes of the next record. -/
def State.ldgRecord (s : State) (type : Nat) : List Byte :=
  let flags := b2n (s.gapBit 0) + 2 * b2n (s.gapBit 1) + 4 * b2n (s.servoState != 2) + 8 * b2n s.ldg.standbyUsed
  let chain := match s.ldg.records with
    | [] => List.replicate 8 0
    | r :: _ => (sha256 r).take 8
  beBytes 4 (s.fld F.LDG_NEXT_INDEX) ++ beBytes 1 type ++ beBytes 1 flags ++ beBytes 1 s.lcState ++ [0] ++
    beBytes 8 (secOf s.nowNs) ++ beBytes 4 (nsOf s.nowNs) ++ beBytes 4 s.ldg.gapMs ++
    beBytes 8 (s.acc 0) ++ beBytes 8 (s.acc 1) ++ beBytes 8 (s.acc 2) ++ beBytes 8 (s.acc 3) ++ chain

/-- The record of an INDEX, where the ring holds it. -/
def State.ldgAt (s : State) (i : Nat) : Option (List Byte) :=
  let n := s.fld F.LDG_NEXT_INDEX
  if i < n then s.ldg.records[n - 1 - i]? else none

/-- Closes the open batch: its statement waits for the LDG key (R350). -/
def State.closeBatch (s : State) : State :=
  let n := s.fld F.LDG_NEXT_INDEX
  let first := s.ldg.batchFirst
  if n ≤ first then s
  else
    let recs := ((List.range (n - first)).map (fun k => (s.ldgAt (first + k)).getD [])).flatMap id
    let payload := cborMap [(1, cborUint s.serial), (2, cborUint s.lcState), (3, cborUint first), (4, cborUint (n - 1)),
      (5, cborBytes (sha256 recs))]
    let s := { s with ldg := { s.ldg with batchFirst := n } }
    let s := s.requestSign 2 (.batch first (n - 1)) payload
    if s.flag (F.LMS_STATUS_READY 2) then s else s.setFld F.LDG_STATUS_SIGN_WAIT 1

/-- Appends a record; the oldest of the ring is overwritten, which shows in OVERWRITE where it is not yet signed (R348,
R351). A batch closes at INDEX mod 256 = 255 and at a HANDOVER record. -/
def State.ldgAppend (s : State) (type : Nat) : State :=
  let n := s.fld F.LDG_NEXT_INDEX
  let r := s.ldgRecord type
  let lost := decide (ldgRing ≤ n) && decide (s.ldg.unsigned ≤ n - ldgRing)
  let s := { s with ldg := { s.ldg with records := (r :: s.ldg.records).take ldgRing, gapMs := 0, standbyUsed := false } }
  let s := s.setFld F.LDG_NEXT_INDEX (n + 1)
  let s := if lost then s.setFld F.LDG_STATUS_OVERWRITE 1 else s
  if n % 256 = 255 ∨ type = 3 then s.closeBatch else s

/-- PERIOD_S in effect (R349). -/
def State.ldgPeriodS (s : State) : Nat := wordBits s.ldg.cfg 31 20

/-- A whole multiple of PERIOD_S has been reached since the last PERIOD record (R348). -/
def State.periodDue (s : State) : Bool := s.ldgPeriodS != 0 && decide (s.time.ldgSec / s.ldgPeriodS < s.nowNs / 1000000000 / s.ldgPeriodS)

/-- A PERIOD record at a whole multiple of PERIOD_S; a change of LDG_CFG takes effect with it (R348, R349). -/
def State.ldgPeriod (s : State) : State :=
  if !s.periodDue then s
  else
    let s := s.ldgAppend 0
    { s with ldg := { s.ldg with gapRecords := 0, cfg := s.reg K.LDG_CFG }, time := { s.time with ldgSec := s.nowNs / 1000000000 } }

/-! ## Integration (R344) -/

/-- The last value delivered to an input before the millisecond that is sampled: a delivery at or after it counts for the next. -/
def State.sampleOf (s : State) (k : Nat) : Int :=
  let late := match mapGet (fun _ => none) s.ldg.delivered k with
    | some t => decide ((s.time.ldgMs + 1) * 1000000 ≤ t)
    | none => false
  toSigned 32 (if late then (mapGet (fun _ => 0) s.ldg.before k).toNat else s.fld (F.LDG_INPUT_VALUE k))

/-- Energy of one millisecond of a meter. -/
def State.integrate (s : State) (m i u : Nat) : State :=
  let p : Int := s.sampleOf i * s.sampleOf u
  if p = 0 then s
  else
    let a := 2 * m + (if 0 < p then 1 else 0)
    let r := s.residual a + p.natAbs
    (s.setResidual a (r % 3600000)).setAcc a (s.acc a + r / 3600000)

/-- One millisecond of one meter: its gap bit follows its sources, it integrates or counts the gap; true where the gap
bit changed. -/
def State.sampleMeter (s : State) (m : Nat) : Bool × State :=
  let src := s.ldgSources m
  let was := s.gapBit m
  let s := s.setFld (if m = 0 then F.LDG_STATUS_GAP0 else F.LDG_STATUS_GAP1) (b2n src.isNone)
  let s := match src with
    | none => { s with ldg := { s.ldg with gapMs := s.ldg.gapMs + 1 } }
    | some (i, u) =>
      let s := if 4 ≤ i ∨ 4 ≤ u then { s with ldg := { s.ldg with standbyUsed := true } } else s
      s.integrate m i u
  (was != src.isNone, s)

/-- A GAP record, of which a period holds at most 16 (R348). -/
def State.gapRecord (s : State) : State :=
  if 16 ≤ s.ldg.gapRecords then s
  else
    let s := s.ldgAppend 1
    { s with ldg := { s.ldg with gapRecords := s.ldg.gapRecords + 1 } }

/-- A whole millisecond of network time that has not been sampled: a PERIOD record due with it comes before its GAP records
(R348). -/
def State.ldgSample (s : State) : State :=
  if s.nowNs / 1000000 ≤ s.time.ldgMs then s
  else
    let s := forEach (List.range 8) (fun k s => s.ldgInputStale k) s
    let (a, s) := s.sampleMeter 0
    let (b, s) := s.sampleMeter 1
    let s := { s with time := { s.time with ldgMs := s.time.ldgMs + 1 } }.ldgPeriod
    let s := if a then s.gapRecord else s
    if b then s.gapRecord else s

/-- The two-phase record of accumulators and residuals (R346). -/
def State.ldgPersist (s : State) : State :=
  let bytes := (List.range 4).flatMap (fun a => beBytes 8 (s.acc a)) ++ (List.range 4).flatMap (fun a => beBytes 4 (s.residual a))
  { s with ldg := { s.ldg with saved := (List.range 4).map s.acc, savedResidual := s.ldg.residual, record := s.ldg.record.write bytes } }

/-- A start resumes from the two-phase record. -/
def State.ldgResume (s : State) : State :=
  let s := forEach (List.range 4) (fun a s => s.setAcc a (s.ldg.saved.getD a 0)) s
  { s with ldg := { s.ldg with residual := s.ldg.savedResidual } }

/-! ## SIGN and reading (R350, R353) -/

/-- An LDG_CTRL.SIGN command. -/
def State.ldgSign (s : State) : State :=
  if s.ldg.signing.isSome then s.setFld F.LDG_CTRL_ERR_BUSY 1
  else if s.fld F.LDG_NEXT_INDEX ≤ s.ldg.batchFirst then s
  else
    let n := s.fld F.LDG_NEXT_INDEX
    let s := s.closeBatch
    { s with ldg := { s.ldg with signing := some (n - 1) } }

/-- Puts 64 bytes into 16 read-out words, byte 4j in bits 31:24 of word j. -/
def State.showBytes (s : State) (key : Nat → Nat) (b : List Byte) : State :=
  forEach (List.range 16) (fun j s => s.setReg (key j) (BitVec.ofNat 32 (beAt b (4 * j) 4))) s

/-- A write of LDG_RD_INDEX. -/
def State.ldgRead (s : State) (i : Nat) : State :=
  let s := s.setFld F.LDG_RD_INDEX_INDEX i
  match s.ldgAt i with
  | some r => (s.showBytes K.LDG_RD_DATA r).setFld F.LDG_STATUS_GONE 0
  | none => (s.showBytes K.LDG_RD_DATA (List.replicate 64 0)).setFld F.LDG_STATUS_GONE 1

end Sys2Proof.Machine
end

