-- ==== Sys2Proof/Machine/Weaver.lean ====
section
/-!
DEFINITION. The Weaver: signals and routes, units, sends to channels, carriers with their frames, and the commits of its
tables (spec/09, R258 to R280, R289; spec/10, R299). The layouts of ACF messages and AVTP headers are those of IEEE 1722
(PRESUMED, log entry 13).
-/

namespace Sys2Proof.Machine

/-! ## Images and signals (R260, R261) -/

/-- The 64 bytes of a PDU's image, byte 4j in bits 31:24 of word j. -/
def State.image (s : State) (i : Nat) : List Byte :=
  (List.range 16).flatMap (fun j => beBytes 4 (s.reg (K.WVR_IMG j i)).toNat)

def State.setImage (s : State) (i : Nat) (b : List Byte) : State :=
  forEach (List.range 16) (fun j s => s.setReg (K.WVR_IMG j i) (BitVec.ofNat 32 (beAt b (4 * j) 4))) s

/-- Bit `p` of an image. -/
def imgBit (b : List Byte) (p : Nat) : Bool := (b.getD (p / 8) 0).toNat.testBit (p % 8)

/-- An image with bit `p` set to a value; a place outside it is not stored. -/
def setImgBit (b : List Byte) (p : Nat) (v : Bool) : List Byte :=
  let x := (b.getD (p / 8) 0).toNat
  b.set (p / 8) (BitVec.ofNat 8 (if v then x ||| 2 ^ (p % 8) else x &&& (255 - 2 ^ (p % 8))))

/-- The places of a sawtooth signal's bits from the most significant on. -/
def sawPlaces : Nat → Nat → List Nat
  | 0, _ => []
  | n + 1, p => p :: sawPlaces n (if p % 8 = 0 then p + 15 else p - 1)

/-- The places of a signal's bits, of bit 0 first. -/
def sigBits (start len : Nat) (sawtooth : Bool) : List Nat :=
  if sawtooth then (sawPlaces len start).reverse else (List.range len).map (fun k => start + k)

/-- Reads a signal (R261). -/
def extractSig (b : List Byte) (start len : Nat) (sawtooth signed : Bool) : Int :=
  let x := (sigBits start len sawtooth).foldr (fun p a => 2 * a + b2n (imgBit b p)) 0
  if signed && x.testBit (len - 1) then (x : Int) - (2 ^ len : Nat) else x

/-- Writes a signal: the low bits of a value, in the same places. -/
def insertSig (b : List Byte) (start len : Nat) (sawtooth : Bool) (v : Int) : List Byte :=
  let x := ofSigned len v
  ((List.range len).zip (sigBits start len sawtooth)).foldl (fun b c => setImgBit b c.2 (x.testBit c.1)) b

/-! ## Routes (R262 to R265) -/

/-- Source and destination signal of a route. -/
def State.rtSrc (s : State) (r : Nat) : List Nat :=
  sigBits (s.fld (F.WVR_RT_DATA1_SRC_START r)) (s.fld (F.WVR_RT_DATA1_SRC_LEN_M1 r) + 1) (s.flag (F.WVR_RT_DATA1_SRC_ORDER r))
def State.rtDst (s : State) (r : Nat) : List Nat :=
  sigBits (s.fld (F.WVR_RT_DATA2_DST_START r)) (s.fld (F.WVR_RT_DATA2_DST_LEN_M1 r) + 1) (s.flag (F.WVR_RT_DATA2_DST_ORDER r))

/-- A route's signed word. -/
def State.rtWord (s : State) (key : Nat) : Int := toSigned 32 (s.reg key).toNat

/-- The value a route reads from an enumeration table, none where the entry is undefined. -/
def State.enumAt (s : State) (table : Nat) (x : Int) : Option Int :=
  if x < 0 ∨ 255 < x then none
  else
    let e := 256 * table + x.toNat
    if s.flag (F.WVR_ENUM_DATA_UNDEF e) then none else some (toSigned 24 (s.fld (F.WVR_ENUM_DATA_VALUE e)))

/-- The outcome of a route's arithmetic: its value if it stores one, and whether it went out of range and was
substituted, which are counted. -/
structure RtOut where
  value : Option Int
  out : Bool
  subst : Bool
  deriving DecidableEq, Repr

/-- What a value out of range becomes (R262, R263): saturated, substituted or held. RANGE_ACT 3 acts as 2. -/
def State.rtOutOfRange (s : State) (r : Nat) (y : Option Int) : RtOut :=
  match s.fld (F.WVR_RT_DATA0_RANGE_ACT r), y with
  | 0, some y => ⟨some y, true, false⟩
  | 0, none => ⟨none, true, false⟩
  | 1, _ => ⟨some (s.rtWord (K.WVR_RT_DATA7 r)), true, true⟩
  | _, _ => ⟨none, true, false⟩

/-- run_route of R262 up to the destination range. -/
def State.rtCompute (s : State) (r : Nat) (img : List Byte) (timedOut : Bool) : RtOut :=
  if timedOut then
    if s.flag (F.WVR_RT_DATA0_TMO_ACT r) then ⟨some (s.rtWord (K.WVR_RT_DATA7 r)), false, true⟩ else ⟨none, false, false⟩
  else
    let x := extractSig img (s.fld (F.WVR_RT_DATA1_SRC_START r)) (s.fld (F.WVR_RT_DATA1_SRC_LEN_M1 r) + 1)
      (s.flag (F.WVR_RT_DATA1_SRC_ORDER r)) (s.flag (F.WVR_RT_DATA1_SRC_SIGNED r))
    let x : Option Int := if s.flag (F.WVR_RT_DATA0_ENUM_EN r) then s.enumAt (s.fld (F.WVR_RT_DATA0_ENUM_TABLE r)) x else some x
    match x with
    | none => s.rtOutOfRange r none
    | some x =>
      let sh := s.fld (F.WVR_RT_DATA1_S r)
      let rnd : Int := if s.flag (F.WVR_RT_DATA0_ROUND r) && decide (0 < sh) then (2 ^ (sh - 1) : Nat) else 0
      let y : Int := (x * s.rtWord (K.WVR_RT_DATA3 r) + s.rtWord (K.WVR_RT_DATA4 r) + rnd) >>> sh
      if s.flag (F.WVR_RT_DATA0_RANGE_EN r) && (decide (y < s.rtWord (K.WVR_RT_DATA5 r)) || decide (s.rtWord (K.WVR_RT_DATA6 r) < y)) then
        s.rtOutOfRange r (some y)
      else ⟨some y, false, false⟩

/-- The destination range of a route. -/
def State.rtClamp (s : State) (r : Nat) (y : Int) : Int :=
  let n := s.fld (F.WVR_RT_DATA2_DST_LEN_M1 r) + 1
  if s.flag (F.WVR_RT_DATA2_DST_SIGNED r) then max (-((2 ^ (n - 1) : Nat) : Int)) (min ((2 ^ (n - 1) : Nat) - 1) y)
  else max 0 (min ((2 ^ n : Nat) - 1) y)

/-- A transmit PDU that a route may write. -/
def State.isTxPdu (s : State) (i : Nat) : Bool := s.pduValid i && s.pduTx i

/-- Runs a route of a unit with its event time. -/
def State.runRoute (s : State) (r : Nat) (img : List Byte) (t : Nat) (timedOut : Bool) : State :=
  let o := s.rtCompute r img timedOut
  let dst := s.fld (F.WVR_RT_DATA0_DST r)
  let s := s.inc (C.wvr 4)
  let s := if o.out then s.inc (C.wvr 5) else s
  let s := if o.subst then s.inc (C.wvr 7) else s
  match o.value with
  | none => s
  | some y =>
    if s.flag (F.WVR_RT_DATA0_DST_KIND r) then
      if dst < 8 then s.ldgDeliver dst (max (-2147483648) (min 2147483647 y)) t timedOut else s
    else if s.isTxPdu dst then
      (s.setImage dst (insertSig (s.image dst) (s.fld (F.WVR_RT_DATA2_DST_START r)) (s.fld (F.WVR_RT_DATA2_DST_LEN_M1 r) + 1)
        (s.flag (F.WVR_RT_DATA2_DST_ORDER r)) (s.rtClamp r y))).setFld (F.WVR_PDU_STATE_WRITTEN dst) 1
    else s

/-- A route's source bits lie within the bytes received. -/
def State.rtCovered (s : State) (r n : Nat) : Bool := (s.rtSrc r).all (fun p => decide (p < 8 * n))

/-- Routes of a receive PDU that are in use. -/
def State.routesOf (s : State) (i : Nat) : List Nat :=
  ((List.range (min 16384 (s.pdu2 i 17 3))).map (fun k => s.pdu2 i 31 18 + k)).filter
    (fun r => decide (r < 16384) && s.flag (F.WVR_RT_DATA0_VALID r))

/-- Runs routes in rising order; those whose source was not received are skipped. A route that stored a value is told
apart by the transmit PDUs it wrote. -/
def State.runRoutes (s : State) (img : List Byte) (n t : Nat) (timedOut : Bool) : List Nat → List Nat → List Nat × State
  | [], done => (done, s)
  | r :: rest, done =>
    if !timedOut && !s.rtCovered r n then s.runRoutes img n t timedOut rest done
    else
      let stored := (s.rtCompute r img timedOut).value.isSome && !s.flag (F.WVR_RT_DATA0_DST_KIND r) &&
        s.isTxPdu (s.fld (F.WVR_RT_DATA0_DST r))
      (s.runRoute r img t timedOut).runRoutes img n t timedOut rest (if stored then done ++ [r] else done)

/-! ## Frames of carriers (R277 to R280) -/

def State.openFrame (s : State) (c : Nat) : OpenFrame := mapGet (fun _ => ⟨[], 0⟩) s.wvr.openFrames c
def State.setOpen (s : State) (c : Nat) (f : OpenFrame) : State :=
  { s with wvr := { s.wvr with openFrames := mapSet (fun _ => ⟨[], 0⟩) s.wvr.openFrames c f } }

/-- The header template of a carrier. -/
def State.template (s : State) (c : Nat) : List Byte :=
  ((List.range 16).flatMap (fun j => beBytes 4 (s.reg (K.WVR_CAR_TPL j c)).toNat)).take (s.fld (F.WVR_CAR_CFG1_HDR_LEN c))

/-- A PDU's entry in a frame: an ACF message or a container (R278). -/
def State.entryBytes (s : State) (i : Nat) (img : List Byte) (t : Nat) : List Byte :=
  let len := s.pduLen i
  let d := img.take len
  if s.pduKind i = 4 then beBytes 4 (s.pduId i) ++ beBytes 4 len ++ d
  else
    let brief := s.pduKind i == 3
    let p := (len + 3) / 4 * 4
    let quads := ((if brief then 8 else 16) + p) / 4
    let fl := (p - len) * 64 + (if brief then 0 else 0x20) + 8 * b2n (s.pduFmt i == 1) + 4 * s.pdu2 i 26 26 + 2 * s.pdu2 i 27 27
    beBytes 2 ((if brief then 2 else 1) * 512 + quads) ++ beBytes 1 fl ++ beBytes 1 (s.pduChannel i % 32) ++
      (if brief then [] else beBytes 8 t) ++ beBytes 4 (s.pduId i % 0x20000000) ++ padTo p 0 d

/-- Puts bytes into a list at an offset. -/
def putAt (l : List Byte) (off : Nat) (b : List Byte) : List Byte := l.take off ++ b ++ l.drop (off + b.length)

/-- One's-complement sum of the 16-bit words of a list. -/
def sum16 : List Byte → Nat
  | a :: b :: r => a.toNat * 256 + b.toNat + sum16 r
  | [a] => a.toNat * 256
  | [] => 0

/-- Folds the carries of a sum into 16 bits and inverts. -/
def checksum16 (n : Nat) : Nat :=
  let n := n / 65536 + n % 65536
  let n := n / 65536 + n % 65536
  65535 - n % 65536

/-- A carrier's frame with the fields the Weaver fills (R277), padded to 60 bytes. -/
def State.carrierFrame (s : State) (c : Nat) (payload : List Byte) : List Byte :=
  let o := s.fld (F.WVR_CAR_CFG1_L3_OFF c)
  let seq := mapGet (fun _ => 0) s.wvr.carSeq c
  let t := s.template c
  let n := payload.length
  let h := match s.fld (F.WVR_CAR_CFG0_FORMAT c) with
    | 0 =>
      let w := beAt t (o + 1) 2
      putAt (putAt t (o + 1) (beBytes 2 (w / 2048 * 2048 + n % 2048))) (o + 3) (beBytes 1 seq)
    | 1 =>
      let t := putAt (putAt (putAt t (o + 2) (beBytes 2 (28 + n))) (o + 4) (beBytes 2 seq)) (o + 10) [0, 0]
      let t := putAt t (o + 10) (beBytes 2 (checksum16 (sum16 (slice t o 20))))
      putAt (putAt t (o + 24) (beBytes 2 (8 + n))) (o + 26) [0, 0]
    | _ =>
      let t := putAt (putAt (putAt t (o + 4) (beBytes 2 (8 + n))) (o + 44) (beBytes 2 (8 + n))) (o + 46) [0, 0]
      let ck := checksum16 (sum16 (slice t (o + 8) 32) + (8 + n) + 17 + sum16 (slice t (o + 40) 8 ++ payload))
      putAt t (o + 46) (beBytes 2 (if ck = 0 then 65535 else ck))
  let f := h ++ payload
  f ++ List.replicate (60 - f.length) 0

/-- The earliest of the launch times of a frame's PDUs. -/
def earliest : List (Option Nat) → Option Nat
  | [] => none
  | none :: r => earliest r
  | some t :: r => match earliest r with
    | none => some t
    | some u => some (min t u)

/-- Closes a carrier's frame and places it in the Weaver lane, or counts it where the lane is full. -/
def State.closeFrame (s : State) (c : Nat) : State :=
  let f : OpenFrame := s.openFrame c
  if f.pdus.isEmpty then s
  else
    let payload := f.pdus.flatMap (fun p => s.entryBytes p.pdu p.img p.time)
    let b := s.carrierFrame c payload
    let md := if s.fld (F.WVR_CAR_CFG0_FORMAT c) = 0 then 256 else 65536
    let s := forEach f.pdus (fun p s => s.setFld (F.WVR_PDU_STATE_IN_FRAME p.pdu) 0) s
    let s := s.setOpen c ⟨[], 0⟩
    let s := { s with wvr := { s.wvr with carSeq := mapModify (fun _ => 0) s.wvr.carSeq c (fun n => (n + 1) % md) } }
    if 64 ≤ s.mgt.wvLane.length then (s.inc (C.wvr 13)).wvrEvent 6
    else { s with mgt := { s.mgt with wvLane := s.mgt.wvLane ++
      [LaneFrame.mk b (Inj.mk (s.fld (F.WVR_CAR_CFG0_ZONE c)) none (earliest (f.pdus.map OpenPdu.launch)))] } }.inc (C.wvr 12)

/-- Puts a PDU behind the others of a frame; those sent in its CLK_CTRL cycle stand by ascending index (R279). -/
def insertPdu (e : OpenPdu) : List OpenPdu → List OpenPdu
  | [] => [e]
  | x :: r => if x.cycle = e.cycle ∧ e.pdu < x.pdu then e :: x :: r else x :: insertPdu e r

/-- Adds a PDU to its carrier's open frame; one that does not fit closes the frame first. -/
def State.addToFrame (s : State) (i t : Nat) (launch : Option Nat) : State :=
  let c := s.pdu2 i 25 17
  if !s.flag (F.WVR_CAR_CFG0_VALID c) then s
  else
    let entry : OpenPdu := ⟨i, s.image i, t, launch, s.ctrlCycle⟩
    let f := s.openFrame c
    if f.pdus.any (fun p => p.pdu == i) then
      (s.setOpen c { f with pdus := f.pdus.map (fun p => if p.pdu = i then entry else p) }).inc (C.wvr 11)
    else
      let size (l : List OpenPdu) : Nat :=
        l.foldl (fun n p => n + (s.entryBytes p.pdu p.img p.time).length) (s.fld (F.WVR_CAR_CFG1_HDR_LEN c))
      let s := if s.fld (F.WVR_CAR_CFG0_MAX_LEN c) < size (f.pdus ++ [entry]) then s.closeFrame c else s
      let f := s.openFrame c
      let since := if f.pdus.isEmpty then s.cycle else f.since
      (s.setOpen c ⟨insertPdu entry f.pdus, since⟩).setFld (F.WVR_PDU_STATE_IN_FRAME i) 1

/-- Closes the frames of the carriers that hold none back, at the end of a unit or an instant (R279). -/
def State.closeReady (s : State) : State :=
  forEach (s.wvr.openFrames.map (fun c => c.1)) (fun c s => if s.fld (F.WVR_CAR_CFG1_HOLD_US c) = 0 then s.closeFrame c else s) s

/-- CLK_CORE cycles of a number of µs (R272, R279): intervals that a step of the time counter does not change. -/
def usCycles (us : Nat) : Nat := 500 * us

/-- A frame of a carrier is closed HOLD_US after its first PDU. -/
def State.holdClose (s : State) (c : Nat) : State :=
  let f := s.openFrame c
  if f.pdus.isEmpty ∨ s.cycle < f.since + usCycles (s.fld (F.WVR_CAR_CFG1_HOLD_US c)) then s else s.closeFrame c

/-! ## Sends (R270 to R276) -/

/-- The transceiver of a channel is at the standby level (spec/08, R250). -/
def State.chanStandby (s : State) (n : Nat) : Bool := if n < 24 then s.canStandby n else s.linStandby (n - 24)

/-- A PDU names an edge channel whose transceiver is at the standby level (R273). -/
def State.pduStandby (s : State) (i : Nat) : Bool := decide (s.pduKind i ≤ 1) && s.chanStandby (s.pduChannel i)

/-- A refused request (R275). -/
def State.wvrRefused (s : State) : State := (s.inc (C.wvr 9)).wvrEvent 5

/-- A diagnostic request for the next slot; a newer one replaces the one that waits (R276). -/
def State.linRequest (s : State) (n : Nat) (d : List Byte) : State :=
  if !s.linLive n then (s.inc (C.edge (24 + n) 11)).wvrRefused
  else
    let l := s.lin n
    let s := if l.diag.isSome then s.inc (C.wvr 11) else s
    s.setLin n { l with diag := some d }

/-- Makes a send with its event time. -/
def State.doSend (s : State) (i t : Nat) : State :=
  let s := ((s.inc (C.wvr 8)).setStamp i t).setFld (F.WVR_PDU_STATE_DEFERRED i) 0
  let s := { s with wvr := { s.wvr with lastSend := mapSet (fun _ => none) s.wvr.lastSend i (some s.cycle) } }
  let d := (s.image i).take (s.pduLen i)
  match s.pduKind i with
  | 0 =>
    let (ok, s) := s.canRequest (s.pduChannel i) ⟨s.pduFmt i, s.pduId i, (s.pdu2 i 27 27 == 1), (s.pdu2 i 26 26 == 1),
      if s.pduFmt i = 2 then [0, 0, 0, 0] else [], d, 0⟩
    if ok then s else s.wvrRefused
  | 1 => if s.pduId i = 0x3C then s.linRequest (s.pduChannel i - 24) d else s
  | _ => s.addToFrame i t (if s.pdu2 i 28 28 = 1 then some (t + s.fld (F.WVR_PDU_DATA6_LAUNCH_NS i)) else none)

/-- A PDU may be sent: its channel is not at standby, and WAIT_FIRST is met (R273). A LIN PDU other than 0x3C is not
sent but supplied (R276). -/
def State.maySend (s : State) (i : Nat) : Bool :=
  s.isTxPdu i && !s.pduStandby i && (s.pdu2 i 29 29 == 0 || s.flag (F.WVR_PDU_STATE_WRITTEN i)) &&
    !(s.pduKind i == 1 && s.pduId i != 0x3C)

/-- The CLK_CORE cycle in which a PDU's minimum gap ends, none before its first send. -/
def State.gapEnd (s : State) (i : Nat) : Option Nat :=
  (mapGet (fun _ => none) s.wvr.lastSend i).map (fun t => t + usCycles (s.fld (F.WVR_PDU_DATA5_MIN_GAP_US i)))

/-- The due time of a cyclic or mixed PDU. -/
def State.dueOf (s : State) (i : Nat) : Option Nat := mapGet (fun _ => none) s.wvr.due i
def State.setDue (s : State) (i : Nat) (d : Option Nat) : State :=
  { s with wvr := { s.wvr with due := mapSet (fun _ => none) s.wvr.due i d } }

/-- A due time of a PDU falls in this CLK_CTRL cycle: its send has been made or is still to be made in it (R272). -/
def State.cyclicNow (s : State) (i : Nat) : Bool :=
  mapGet (fun _ => none) s.wvr.lastCyclic i == some s.ctrlCycle || (match s.dueOf i with
    | some d => decide (d ≤ s.nowNs) && decide (s.nowNs < d + 4)
    | none => false)

/-- An event send under the minimum gap. With a due time in the same cycle one send is made, the cyclic one (R272). -/
def State.eventSend (s : State) (i t : Nat) : State :=
  if !s.maySend i || s.cyclicNow i then s
  else
    let late := match s.gapEnd i with
      | none => true
      | some e => decide (e ≤ s.cycle)
    if late then s.doSend i t
    else if s.flag (F.WVR_PDU_STATE_DEFERRED i) then s
    else (s.setFld (F.WVR_PDU_STATE_DEFERRED i) 1).inc (C.wvr 10)

/-- The triggers of a unit for one transmit PDU (R265): change, over the bits of every route of the unit with TRIG 1, and write,
over the routes with TRIG 2 that stored. -/
def State.triggers (s : State) (before : List Byte) (i : Nat) (routes stored : List Nat) : Bool × Bool :=
  let mine (l : List Nat) : List Nat := l.filter (fun r => !s.flag (F.WVR_RT_DATA0_DST_KIND r) && s.fld (F.WVR_RT_DATA0_DST r) == i)
  let now := s.image i
  ((mine routes).any (fun r => s.fld (F.WVR_RT_DATA0_TRIG r) == 1 && (s.rtDst r).any (fun p => imgBit before p != imgBit now p)),
    (mine stored).any (fun r => s.fld (F.WVR_RT_DATA0_TRIG r) == 2))

/-- What follows for one transmit PDU at the end of a unit that stored into it. -/
def State.afterUnit (s : State) (before : List Byte) (i : Nat) (routes stored : List Nat) (t : Nat) : State :=
  let s := if s.pduKind i = 1 ∧ s.pduId i ≠ 0x3C then s.linSupply (s.pduChannel i - 24) (s.pduId i % 64) ((s.image i).take (s.pduLen i)) else s
  let (change, write) := s.triggers before i routes stored
  match s.pdu2 i 31 30 with
  | 0 => s
  | 3 => if write then s.eventSend i t else s
  | _ => if change || write then s.eventSend i t else s

/-- Runs the routes of a receive PDU over an image of `n` received bytes, then its triggers, by rising PDU index. -/
def State.runUnit (s : State) (i : Nat) (img : List Byte) (n t : Nat) (timedOut : Bool) : State :=
  let routes := s.routesOf i
  let short := !timedOut && routes.any (fun r => !s.rtCovered r n)
  let dsts := (s.pduList.filter (fun d => s.isTxPdu d && routes.any (fun r =>
    !s.flag (F.WVR_RT_DATA0_DST_KIND r) && s.fld (F.WVR_RT_DATA0_DST r) == d)))
  let before := dsts.map (fun d => (d, s.image d))
  let s := if short then s.inc (C.wvr 2) else s
  let (done, s) := s.runRoutes img n t timedOut routes []
  let s := forEach before (fun d s =>
    if done.any (fun r => s.fld (F.WVR_RT_DATA0_DST r) == d.1) then s.afterUnit d.2 d.1 routes done t else s) s
  s.closeReady

/-- A unit is looked up and its routes run (R258 to R260). -/
def State.doUnit (s : State) (u : WUnit) : State :=
  match u with
  | .timeout i => s.runUnit i [] 0 s.nowNs true
  | .pdu ty src z f id data t _ =>
    (match s.pduMatch ty src z f id with
    | none => (s.inc (C.wvr 0)).inc (C.wvr 1)
    | some i =>
      let img := data.take (s.pduLen i)
      let s := (s.inc (C.wvr 0)).setImage i (padTo 64 0 img)
      s.runUnit i img img.length t false)

/-- The receive FIFOs of the edge channels hand a frame each to the Weaver, by ascending channel index (R257; spec/08, R240). -/
def State.edgeIntake (s : State) : State :=
  let s := forEach (s.edge.can.filter (fun c => !c.2.fifo.isEmpty)) (fun c s => match c.2.fifo with
    | [] => s
    | u :: r => (s.setCan c.1 { c.2 with fifo := r }).queueUnit u) s
  forEach (s.edge.lin.filter (fun c => !c.2.fifo.isEmpty)) (fun c s => match c.2.fifo with
    | [] => s
    | u :: r => (s.setLin c.1 { c.2 with fifo := r }).queueUnit u) s

/-- The Weaver takes its next unit; what the receive FIFOs hold has entered its queue by then (log entry 25). -/
def State.weaverUnit (s : State) : State :=
  let s := s.edgeIntake
  match s.wvr.units with
  | [] => s
  | u :: rest => (({ s with wvr := { s.wvr with units := rest } }).logSync (.unit u)).doUnit u

/-- The first due time at or after an instant (R271). -/
def State.firstDue (s : State) (i t : Nat) : Option Nat :=
  let m := s.pdu2 i 31 30
  let per := 1000 * s.pduUs i
  let off := 1000 * s.pdu4 i 25 0
  if !s.isTxPdu i ∨ (m ≠ 0 ∧ m ≠ 2) ∨ per = 0 then none
  else if t ≤ off then some off
  else some (off + (t - off + per - 1) / per * per)

/-- The due PDUs of the earliest due time reached are sent, by rising index, and their frames closed. -/
def State.cyclicSend (s : State) : State :=
  match s.wvr.due.foldl (fun a c => match a, c.2 with
      | some x, some y => some (min x y)
      | none, y => y
      | x, none => x) none with
  | none => s
  | some d =>
    if s.nowNs < d then s
    else
      let l := (s.wvr.due.filter (fun c => c.2 == some d)).map (fun c => c.1)
      let s := forEach l (fun i s =>
        let s := s.setDue i (some (d + 1000 * s.pduUs i))
        if s.maySend i then
          let s := s.doSend i d
          { s with wvr := { s.wvr with lastCyclic := mapSet (fun _ => none) s.wvr.lastCyclic i (some s.ctrlCycle) } }
        else s) s
      s.closeReady

/-- The deferred PDUs whose gap has ended. -/
def State.deferredReady (s : State) : List (Nat × Nat) :=
  s.pduList.filterMap (fun i =>
    if s.flag (F.WVR_PDU_STATE_DEFERRED i) then
      (match s.gapEnd i with
        | some e => if e ≤ s.cycle then some (i, e) else none
        | none => some (i, s.cycle))
    else none)

/-- The deferred sends at the earliest end of a gap reached (R272). -/
def State.deferredSend (s : State) : State :=
  match (s.deferredReady.map (fun c => some c.2)).foldl (fun a y => match a, y with
      | some x, some y => some (min x y)
      | none, y => y
      | x, none => x) none with
  | none => s
  | some e =>
    let s := forEach ((s.deferredReady.filter (fun c => c.2 == e))) (fun c s =>
      if s.maySend c.1 then s.doSend c.1 (s.nowNs - 2 * (s.cycle - e)) else s.setFld (F.WVR_PDU_STATE_DEFERRED c.1) 0) s
    s.closeReady

/-- A SEND command for the PDU selected (R270). -/
def State.sendCommand (s : State) : State :=
  let i := s.fld F.WVR_PDU_INDEX_INDEX
  if s.isTxPdu i then (s.eventSend i s.nowNs).closeReady else s

/-- After a step of the time counter: running deadlines start again, due times are the first after the stepped time, deferred sends are made (R268,
R271, R272). -/
def State.wvrStep (s : State) : State :=
  let s := forEach s.wvr.deadline (fun c s => if c.2.isSome then s.startDeadline c.1 else s) s
  let s := forEach s.wvr.due (fun c s => s.setDue c.1 (s.firstDue c.1 (s.nowNs + 1))) s
  let s := forEach s.pduList (fun i s =>
    if s.flag (F.WVR_PDU_STATE_DEFERRED i) then
      (if s.maySend i then s.doSend i s.nowNs else s.setFld (F.WVR_PDU_STATE_DEFERRED i) 0)
    else s) s
  s.closeReady

/-- The deadlines of a channel's PDUs start again when its transceiver returns to the normal level (R273). -/
def State.wvrResume (s : State) (n : Nat) : State :=
  forEach (s.wvr.deadline.map (fun c => c.1)) (fun i s =>
    if s.pduKind i ≤ 1 ∧ s.pduChannel i = n then s.startDeadline i else s) s

/-- Does a change that may move a channel's transceiver between its levels. -/
def State.withStandby (s : State) (n : Nat) (f : State → State) : State :=
  let s' := f s
  if s.chanStandby n && !s'.chanStandby n then s'.wvrResume n else s'

/-- The start of forwarding: every deadline runs, every due time is set (R266, R271). -/
def State.wvrBegin (s : State) : State :=
  forEach s.pduList (fun i s => (s.startDeadline i).setDue i (s.firstDue i s.nowNs)) s

/-! ## Commits (R289; spec/10, R299) -/

/-- Image and state of a PDU are cleared: it leaves the open frame that it is in, and no gap runs. -/
def State.pduClear (s : State) (i : Nat) : State :=
  let s := ((s.setImage i (List.replicate 64 0)).setReg (K.WVR_PDU_STATE i) 0).setStamp i 0
  { s with wvr := { s.wvr with
    lastSend := mapErase i s.wvr.lastSend
    lastCyclic := mapErase i s.wvr.lastCyclic
    openFrames := s.wvr.openFrames.map (fun c => (c.1, { c.2 with pdus := c.2.pdus.filter (fun p => p.pdu != i) })) } }

/-- The write of WVR_PDU_DATA[7] stores the whole definition. A change of its key, DIR, KIND or LEN clears image and
state: the PDU leaves the open frame it is in, and no gap runs (R272). -/
def State.commitPdu (s : State) (i : Nat) : State :=
  let old0 := s.reg (K.WVR_PDU_DATA0 i)
  let old1 := s.reg (K.WVR_PDU_DATA1 i)
  let oldSender := s.pduSender i
  let s := s.commitAll [K.WVR_PDU_DATA0 i, K.WVR_PDU_DATA1 i, K.WVR_PDU_DATA2 i, K.WVR_PDU_DATA3 i, K.WVR_PDU_DATA4 i,
    K.WVR_PDU_DATA5 i, K.WVR_PDU_DATA6 i]
  let same := (old0 ^^^ s.reg (K.WVR_PDU_DATA0 i)) &&& 0x7FFF007F == 0 && old1 == s.reg (K.WVR_PDU_DATA1 i)
  let s := if same then s.setFld (F.WVR_PDU_STATE_WRITTEN i) 0
    else s.pduClear i
  let s := (s.startDeadline i).setDue i (s.firstDue i s.nowNs)
  (s.judgeSender oldSender).judgeSender (s.pduSender i)

/-- Zone of a PDU's far side: an edge channel's, a definition's, or a carrier's. -/
def State.pduZone (s : State) (i : Nat) : Nat :=
  if s.pduKind i ≤ 1 then s.fld (F.ZONE_CHAN_ZONE (s.pduChannel i))
  else if s.pduTx i then s.fld (F.WVR_CAR_CFG0_ZONE (s.pdu2 i 25 17)) else s.fld (F.WVR_PDU_DATA0_ZONE i)

/-- The receive PDU that owns a route. -/
def State.routeOwner (s : State) (r : Nat) : Option Nat :=
  s.pduList.find? (fun i => s.pduValid i && !s.pduTx i && decide (s.pdu2 i 31 18 ≤ r) && decide (r < s.pdu2 i 31 18 + s.pdu2 i 17 3))

/-- The write of WVR_RT_DATA[7] stores the route, unless it would join a denied pair of zones (R299). -/
def State.commitRoute (s : State) (r : Nat) (w : Word) : State :=
  let d0 := s.heldOr (K.WVR_RT_DATA0 r)
  let dst := wordBits d0 11 0
  let denied := match s.routeOwner r with
    | some i => wordBits d0 31 31 == 1 && wordBits d0 30 30 == 0 && s.isTxPdu dst &&
        !s.flag (F.ZONE_PAIR_PERMIT (16 * s.pduZone i + s.pduZone dst))
    | none => false
  if denied then s.wvrEvent 7
  else (s.commitAll [K.WVR_RT_DATA0 r, K.WVR_RT_DATA1 r, K.WVR_RT_DATA2 r, K.WVR_RT_DATA3 r, K.WVR_RT_DATA4 r,
    K.WVR_RT_DATA5 r, K.WVR_RT_DATA6 r]).setReg (K.WVR_RT_DATA7 r) w

/-- The write of WVR_CAR_CFG[1] stores the carrier with its template. -/
def State.commitCarrier (s : State) (c : Nat) (w : Word) : State :=
  (s.commitAll (K.WVR_CAR_CFG0 c :: (List.range 16).map (fun j => K.WVR_CAR_TPL j c))).setReg (K.WVR_CAR_CFG1 c) w

/-- A write to an image: of a transmit PDU it is stored and raises no trigger, of a receive PDU it is rejected. -/
def State.writeImage (s : State) (i j : Nat) (w : Word) : State :=
  if s.pduTx i then s.setReg (K.WVR_IMG j i) w else s.wvrEvent 7

/-- A read of WVR_PDU_STAMP_NS captures the event time with its seconds (R288). -/
def State.captureStamp (s : State) (i : Nat) : State :=
  let t := mapGet (fun _ => 0) s.wvr.stamps i
  { s with wvr := { s.wvr with capStamp := t }, busData := BitVec.ofNat 32 (nsOf t) }

end Sys2Proof.Machine
end

