-- ==== Sys2Proof/Machine/PairLink.lean ====
section
/-!
DEFINITION. The pair link: pair messages and how they are sent (spec/15, R413 to R415).
-/

namespace Sys2Proof.Machine

/-- UNIT_ID of the unit (spec/02, R68). -/
def State.unitId (s : State) : Nat := s.fld F.BOOT_STATUS_UNIT_ID

/-- SEQ of the last message of a TYPE. -/
def State.pairSeq (s : State) (ty : Nat) : Nat := mapGet (fun _ => 0) s.twin.txSeq ty

/-- A pair message as a frame without FCS (R414, R415). -/
def State.pairFrame (s : State) (ty : Nat) (body : List Byte) : List Byte :=
  let u := s.unitId
  let m := beBytes 6 (0x025147921000 + (1 - u % 2)) ++ beBytes 6 (0x025147921000 + u % 2) ++ beBytes 2 0x88B5 ++
    beBytes 1 0xFA ++ beBytes 1 1 ++ beBytes 1 ty ++ beBytes 1 (u % 2 * 128 + s.fld F.PAIR_STATUS_ROLE) ++
    beBytes 4 (s.pairSeq ty) ++ ptpStamp s.nowNs ++ beBytes 2 body.length ++ body
  padTo (max 60 m.length) 0 m

/-- The pair ports whose link is up. -/
def State.pairUp (s : State) : List Nat := [8, 9].filter (fun p => s.pairPort p && s.flag (F.MAC_STATUS_LINK_UP p))

/-- The pair logic sends a message on every pair port whose link is up, from Q7. -/
def State.pairSend (s : State) (ty : Nat) (body : List Byte) : State :=
  s.confine [.cnts, .data, .twin] (
    let s := { s with twin := { s.twin with
      txSeq := mapModify (fun _ => 0) s.twin.txSeq ty (fun n => (n + 1) % 2 ^ 32) } }
    let b := s.pairFrame ty body
    forEach s.pairUp (fun p s =>
      s.enqueue p 7 ⟨none, b, none, 0, none, false, none, 0, .pair, false, none⟩) s)

/-- Fields of a received pair message; offsets count from its DISC byte, the 15th byte of the frame. -/
def pmType (b : List Byte) : Nat := beAt b 16 1
def pmUnit (b : List Byte) : Nat := beAt b 17 1 / 128
def pmRole (b : List Byte) : Nat := beAt b 17 1 % 16
def pmTime (b : List Byte) : Nat := beAt b 22 6 * 1000000000 + beAt b 28 4
def pmBody (b : List Byte) : List Byte := (b.drop 34).take (beAt b 32 2)

/-- Takes the first waiting pair message of a TYPE. -/
def State.takePair (s : State) (ty : Nat) : Option (InFrame × State) :=
  s.takeInbox (fun m => m.kind == .pair && pmType m.bytes == ty)

/-- The partner is present (R416). -/
def State.partnerHere (s : State) : Bool := s.flag F.PAIR_STATUS_PARTNER_PRESENT

/-- The unit is the ACTIVE one of a standby pair. -/
def State.pairActive (s : State) : Bool := s.fld F.PAIR_CFG_MODE == 1 && s.fld F.PAIR_STATUS_ROLE == 3

end Sys2Proof.Machine
end

