-- ==== Sys2Proof/Machine/Sleep.lean ====
section
/-!
DEFINITION. Sleep, wake and the consent ring (spec/13, R354 to R382; spec/15, R434). Calm and the gust, which reset the
switched domains, stand with the starts.
-/

namespace Sys2Proof.Machine

/-! ## Members, groups and sources (R355 to R359) -/

/-- Ports and channels of the groups of a mask. -/
def State.groupPorts (s : State) (g : Nat) : List Nat := (List.range 34).filter (fun p => g.testBit (s.portGroup p))
def State.groupChans (s : State) (g : Nat) : List Nat := (List.range 32).filter (fun n => g.testBit (s.chanGroup n))

/-- Groups that have members. -/
def State.usedGroups (s : State) : Nat :=
  listMask ((List.range 34).map s.portGroup) ||| listMask ((List.range 32).map s.chanGroup)

/-- The complement of a mask of groups. -/
def notMask (m : Nat) : Nat := 65535 - m % 65536

def State.asleepMask (s : State) : Nat := s.fld F.NM_STATE_ASLEEP

/-- LULL of NM_STATE (R354). -/
def State.lull (s : State) : Bool := !s.nm.calm && (s.asleepMask &&& s.usedGroups) != 0

/-- The agreed level of an asynchronous input, and its run of disagreements (spec/14, R387). -/
def State.agreedIn (s : State) (i : Nat) : Bool := mapGet (fun _ => false) s.saf.agreed i
def State.runOf (s : State) (i : Nat) : Nat := mapGet (fun _ => 0) s.saf.runs i

/-- A wake input is enabled and not masked (R372). -/
def State.lineUsed (s : State) (n : Nat) : Bool :=
  s.flag (F.WAKE_IN_CFG_EN n) && !(s.fld F.WAKE_STATUS_CHATTER).testBit n && !(s.fld F.WAKE_STATUS_STUCK).testBit n

/-- The always-on domain sees an input in use active after its filter. -/
def State.lineRaised (s : State) (n : Nat) : Bool := s.lineUsed n && (s.fld F.WAKE_STATUS_LEVEL).testBit n

/-- The wake logic sees an input in use active, as agreed at the last epoch: a hard source of its GROUPS (R357, R366; spec/14, R386). -/
def State.lineActive (s : State) (n : Nat) : Bool := s.lineUsed n && s.agreedIn (10 + n)

/-- Groups that a hard source keeps awake. -/
def State.hardMask (s : State) : Nat :=
  (List.range 5).foldl (fun m n => if s.lineActive n then m ||| s.fld (F.WAKE_IN_GROUPS_GROUPS n) else m) (s.fld F.NM_KEEP_KEEP)

/-- R358 but for the idle time. -/
def State.mayConsent (s : State) (g : Nat) : Bool :=
  !s.asleep g && s.usedGroups.testBit g && (s.fld F.NM_SLEEP_EN_SLEEP_EN).testBit g && !s.hardMask.testBit g

/-- The candidates: groups idle for IDLE_MS that the rest of R358 still allows. -/
def State.candidates (s : State) : Nat := listMask ((maskList 16 s.nm.candidates).filter s.mayConsent)

/-- Groups are no candidates any more: they are not, either, for the round in progress (R364). -/
def State.dropCandidates (s : State) (m : Nat) : State :=
  { s with nm := { s.nm with candidates := s.nm.candidates &&& notMask m, stayed := s.nm.stayed &&& notMask m } }

/-- The awake timers of groups start again at 0 (R359). -/
def State.restartTimers (s : State) (m : Nat) : State :=
  forEach (maskList 16 m) (fun g s => { (s.setFld (F.NM_GROUP_STATUS_AWAKE_S g) 0) with
    nm := { s.nm with awakeSince := mapSet (fun _ => 0) s.nm.awakeSince g s.aon } }) s

/-- The awake timer of a group in seconds (R359): 500,000,000 steps of 2 ns each. -/
def State.awakeSeconds (s : State) (g : Nat) : Nat :=
  if s.asleep g || s.hardMask.testBit g || !(s.fld F.NM_SLEEP_EN_SLEEP_EN).testBit g then s.fld (F.NM_GROUP_STATUS_AWAKE_S g)
  else min 65535 ((s.aon - mapGet (fun _ => 0) s.nm.awakeSince g) / 500000000)

/-! ## The ring's messages (R361, R362) -/

/-- A member's GROUPS. -/
def State.memberGroups (s : State) (m : Nat) : Nat :=
  if s.flag (F.NM_MBR_DATA0_EN m) then s.fld (F.NM_MBR_DATA3_GROUPS m) else 0

/-- Members whose GROUPS meet a set. -/
def State.membersOf (s : State) (set : Nat) : List Nat := (List.range 32).filter (fun m => (s.memberGroups m &&& set) != 0)

/-- A message for a member, sent from port M. -/
def State.ringSend (s : State) (ty round set member flags tNs m : Nat) : State :=
  let vid := s.fld (F.NM_MBR_DATA0_VID m)
  let msg := beBytes 1 1 ++ beBytes 1 ty ++ beBytes 2 round ++ beBytes 2 set ++ beBytes 2 0 ++ beBytes 1 member ++
    beBytes 1 flags ++ (if ty = 3 ∨ ty = 4 then ptpStamp tNs else List.replicate 10 0) ++ beBytes 4 0
  let b := beBytes 2 (s.fld (F.NM_MBR_DATA1_MAC_HI m)) ++ beBytes 4 (s.fld (F.NM_MBR_DATA2_MAC_LO m)) ++
    beBytes 6 (s.pair K.NM_SA_LO K.NM_SA_HI) ++
    (if vid = 0 then [] else beBytes 2 0x8100 ++ beBytes 2 (7 * 8192 + vid)) ++ beBytes 2 0x88B6 ++ msg
  s.mcSend ⟨padTo (max 60 b.length) 0 b, ⟨s.mgtZone, some (s.fld (F.NM_MBR_DATA0_PORT m), 7), none⟩⟩

/-- The SLEEP message to the standby of a pair (spec/15, R434). -/
def State.tellStandby (s : State) (set : Nat) (abort : Bool) : State :=
  if s.pairActive then
    s.pairSend 7 (beBytes 2 s.nm.round ++ beBytes 2 set ++ beBytes 1 (b2n abort) ++ [0] ++ ptpStamp s.nm.tCommit)
  else s

/-! ## Wake (R366 to R368, R373, R377) -/

/-- 2 ns steps of the always-on clock in a millisecond. -/
def aonPerMs : Nat := 500000

/-- The unit drives WAKE_BUS low where WAKE_OUT_EN says so; a standby does not (R373; spec/15, R422). -/
def State.wakeOut (s : State) : State :=
  if s.flag F.NM_CFG_WAKE_OUT_EN && !s.nm.pulse && !s.standby then
    { s with nm := { s.nm with pulse := true, pulseAt := s.aon } }.emit (.pin 0 false)
  else s

/-- The wake latch takes a wake: its first code, its lines and groups (R368). -/
def State.latch (s : State) (groups code lines : Nat) : State :=
  let l := match s.nm.latched with
    | none => (groups, code, lines)
    | some (g, c, n) => (g ||| groups, c, n ||| lines)
  { s with nm := { s.nm with latched := some l } }

/-- The LIN commanders of groups. -/
def State.commanders (s : State) (m : Nat) : List Nat :=
  ((s.groupChans m).filter (fun n => decide (24 ≤ n))).map (fun n => n - 24) |>.filter (fun n => s.fld (F.LIN_CTRL_MODE n) == 1)

/-- A commit of groups: T_commit is set, members are told, the wake latch is armed, and commanders are to send
go-to-sleep (R364, R368, R369). -/
def State.commitSleep (s : State) (groups : Nat) (forced : Bool) : State :=
  let told := s.membersOf groups
  let s := { s with nm := { s.nm with
    committed := groups, tCommit := s.nowNs + 1000 * s.fld F.NM_CFG_GUARD_US, told := told,
    armed := true, latched := none, visiting := none, set := if forced then groups else s.nm.set } }
  let s := forEach told (fun m s => s.ringSend 3 s.nm.round groups 255 (b2n forced) s.nm.tCommit m) s
  let s := s.tellStandby groups false
  let s := forEach (s.commanders groups) (fun n s => s.setLin n { s.lin n with goSleep := true, slept := false }) s
  ((s.setFld F.NM_STATE_RING 2).inc (C.nm 3)).nmEvent 4 255 groups

/-- The ring is IDLE: a forced commit that waits is made at once (R364). -/
def State.ringIdle (s : State) : State :=
  let s := s.setFld F.NM_STATE_RING 0
  match s.nm.forced with
  | [] => s
  | g :: r => { s with nm := { s.nm with forced := r } }.commitSleep (2 ^ g) true

/-- The commit is aborted (R367): members are told, commanders that sent go-to-sleep send a wake pulse and start their
tables again, and every run count is 0. -/
def State.abortCommit (s : State) (byBus : Bool) : State :=
  let set := s.nm.committed
  let s := if s.standby then s
    else forEach s.nm.told (s := s) (fun m s => s.ringSend 4 s.nm.round set 255 0 s.nm.tCommit m)
  let s := s.tellStandby set true
  let s := if byBus then s else s.wakeOut
  let s := forEach (s.commanders set) (fun n s =>
    let l := s.lin n
    let s := s.setLin n { l with goSleep := false, slept := false }
    if l.slept then (s.linPulse n).linAgain n else s) s
  let s := forEach (List.range 16) (fun g s => s.setFld (F.NM_GROUP_STATUS_RUN g) 0) s
  let s := { s with nm := { s.nm with committed := 0, told := [], armed := false } }
  ((s.inc (C.nm 4)).nmEvent 5 255 set).ringIdle

/-- A wake of groups (R366), with its code, the inputs it came over and its timestamp in ns. -/
def State.wake (s : State) (groups code lines stamp : Nat) : State :=
  if groups = 0 then s
  else
    let byBus := code == 0xC4
    let s := if s.standby && !s.nm.calm && s.partnerHere then s.pairSend 8 (beBytes 2 groups ++ ptpStamp stamp) else s
    if s.nm.calm then (if byBus then s else s.wakeOut).latch groups code lines
    else
      let ring := s.fld F.NM_STATE_RING
      let s := if byBus then s else s.wakeOut
      let hits := (groups &&& s.nm.committed) != 0
      if 2 ≤ ring ∧ hits ∧ stamp ≤ s.nm.tCommit then
        let s := if s.standby then s else s.abortCommit byBus
        { s with nm := { s.nm with due := s.nm.due ||| (groups &&& s.asleepMask), dueCode := code } }
      else if 2 ≤ ring ∧ (hits ∨ s.nm.tCommit < stamp) then s.latch groups code lines
      else if (groups &&& s.asleepMask) = 0 then s
      else { s with nm := { s.nm with due := s.nm.due ||| (groups &&& s.asleepMask), dueCode := code } }

/-- A soft source occurs (R357): its groups are no candidates, and a frame on a member of a committed group is a wake
(R366). A source that a forced sleep has isolated keeps nothing awake (R359). -/
def State.softSource (s : State) (groups code stamp : Nat) (isWake : Bool) : State :=
  let s := forEach (maskList 16 groups) (fun g s =>
    if s.flag (F.NM_GROUP_STATUS_ISOLATED g) && s.fld (F.NM_GROUP_STATUS_LAST_SOURCE g) == code then s
    else { (s.dropCandidates (2 ^ g)) with nm := { (s.dropCandidates (2 ^ g)).nm with
      lastSoft := mapSet (fun _ => 0xFF) s.nm.lastSoft g code, softAt := mapSet (fun _ => 0) s.nm.softAt g s.aon } }) s
  if isWake ∧ 2 ≤ s.fld F.NM_STATE_RING ∧ (groups &&& s.nm.committed) ≠ 0 then s.wake (groups &&& s.nm.committed) code 0 stamp
  else s

/-- A frame was received on a port: a source, where it is neither a consent-ring nor a gPTP frame and the port is no
pair port (R357; spec/15, R413). -/
def State.portTraffic (s : State) (p stamp : Nat) (b : List Byte) : State :=
  let ty := beAt b (afterTags s.altTpid b 3 12) 2
  if 34 ≤ p ∨ s.pairPort p = true ∨ ty = 0x88B6 ∨ (ty = 0x88F7 ∧ beAt b 0 6 = 0x0180C200000E) then s
  else s.softSource (2 ^ s.portGroup p) p stamp true

/-- A frame of an edge channel was delivered. -/
def State.chanTraffic (s : State) (n stamp : Nat) : State :=
  s.softSource (2 ^ s.chanGroup n) (0x40 + n) stamp true

/-- A hard source of groups becomes active: a wake, and their timers start again (R359, R366). -/
def State.sourceOn (s : State) (groups code lines : Nat) : State :=
  ((s.dropCandidates groups).restartTimers groups).wake groups code lines s.nowNs

/-- Does a change to the hard sources; the timers of groups they leave run from here. -/
def State.afterHard (old : Nat) (s : State) : State := s.restartTimers (old &&& notMask s.hardMask)

/-- Does a change that may move transceivers between their levels (spec/08, R250; spec/09, R273). -/
def State.withStandbyAll (s : State) (f : State → State) : State :=
  let was := (List.range 32).filter s.chanStandby
  let s := f s
  forEach was (fun n s => if s.chanStandby n then s else s.wvrResume n) s

/-- A port whose reset group is held or released: its link follows, and held it loses its status (spec/17, R501). -/
def State.portReset (s : State) (p : Nat) : State :=
  let s := (s.setPhyLink p false).setFld (F.MAC_STATUS_LOCK p) 0
  let s := s.relink p
  let s := s.setReg (K.MAC_STATUS p) 0
  if hasMerge p then s.restartVerify p else s

/-- A channel whose reset group is held. -/
def State.chanReset (s : State) (n : Nat) : State := if n < 24 then s.canReset n else s.linReset (n - 24)

/-- A channel whose reset group is released integrates as after reset (spec/17, R501). -/
def State.chanStart (s : State) (n : Nat) : State :=
  if s.chanHeld n then s
  else if n < 24 then (if s.fld (F.CAN_CTRL_MODE n) = 0 then s else s.canRestart n)
  else if s.fld (F.LIN_CTRL_MODE (n - 24)) = 0 then s
  else
    let s := s.setFld (F.LIN_STATUS_BUS_IDLE (n - 24)) 1
    if s.fld (F.LIN_CTRL_MODE (n - 24)) = 1 then s.linAgain (n - 24) else s

/-- PHY_RST_Nn of a port follows its group (R356). -/
def State.phyPin (s : State) (p : Nat) : State := if p < 8 then s.emit (.pin (8 + p) (!s.asleep (s.portGroup p))) else s

/-- Sleeping groups wake: their members are powered, and ring members are told (R377). -/
def State.groupWake (s : State) (groups code : Nat) : State :=
  let g := groups &&& s.asleepMask
  let s := { s with nm := { s.nm with due := s.nm.due &&& notMask g, waking := s.nm.waking &&& notMask g } }
  if g = 0 then s
  else
    let s := s.withStandbyAll (fun s => s.setFld F.NM_STATE_ASLEEP (s.asleepMask &&& notMask g))
    let s := (s.dropCandidates g).restartTimers g
    let s := forEach (maskList 16 g) (fun k s => (s.setFlds
      [(F.NM_GROUP_STATUS_ISOLATED k, 0), (F.NM_GROUP_STATUS_RUN k, 0)]).inc (C.nm 7)) s
    let s := forEach (s.groupPorts g) (fun p s => s.phyPin p) s
    let s := forEach (s.groupChans g) (fun n s => s.chanStart n) s
    let s := s.nmEvent 9 code g
    if s.standby then s
    else forEach (s.membersOf g) (fun m s => s.ringSend 5 s.nm.round g 255 0 0 m) s

/-- GROUP_WAKE: what a wake has named and the ring does not hold back (R368, R377). -/
def State.groupWakeDue (s : State) : State :=
  if s.nm.calm ∨ s.fld F.NM_STATE_RING = 3 then s else s.groupWake s.nm.due s.nm.dueCode

/-- An NM_WAKE write (R366): BUSY until every group named is awake. -/
def State.nmWake (s : State) (groups : Nat) : State :=
  if s.nm.waking ≠ 0 then s.setFld F.NM_WAKE_ERR_BUSY 1
  else
    let s := { s with nm := { s.nm with waking := groups &&& (s.asleepMask ||| (if 2 ≤ s.fld F.NM_STATE_RING then s.nm.committed else 0)) } }
    let s := s.wake groups 0xE1 0 s.nowNs
    { s with nm := { s.nm with waking := s.nm.waking &&& (s.asleepMask ||| s.nm.committed) } }

/-! ## The ring (R363, R364) -/

/-- The run counts at a round's end (R364). -/
def State.countRuns (s : State) : State :=
  forEach (List.range 16) (fun g s =>
    let ok := s.nm.set.testBit g && !s.nm.vetoed.testBit g && s.nm.stayed.testBit g && s.candidates.testBit g
    s.setFld (F.NM_GROUP_STATUS_RUN g) (if ok then min 2 (s.fld (F.NM_GROUP_STATUS_RUN g) + 1) else 0)) s

/-- Groups whose run count is `n`. -/
def State.runMask (s : State) (n : Nat) : Nat :=
  listMask ((List.range 16).filter (fun g => s.fld (F.NM_GROUP_STATUS_RUN g) == n))

/-- A member that a round visits: its GROUPS meet the set, and its port's group is awake. -/
def State.visitable (s : State) (m : Nat) : Bool :=
  (s.memberGroups m &&& s.nm.set) != 0 && !s.asleep (s.portGroup (s.fld (F.NM_MBR_DATA0_PORT m)))

/-- The token moves to the next member; none where the round has ended. -/
def State.visitNext (s : State) : Option State :=
  match s.nm.toVisit.dropWhile (fun m => !s.visitable m) with
  | [] => none
  | m :: r =>
    let s := { s with nm := { s.nm with visiting := some m, toVisit := r, askedAt := s.aon } }
    some (s.ringSend 1 s.nm.round s.nm.set m 0 0 m)

/-- Writes the entry of a ring member. -/
def State.setMember (s : State) (i : Nat) (words : List Word) : State :=
  forEach ([K.NM_MBR_DATA0 i, K.NM_MBR_DATA1 i, K.NM_MBR_DATA2 i, K.NM_MBR_DATA3 i].zip words) (fun c s => s.setReg c.1 c.2) s

/-- A visit is in progress. -/
def State.inVisit (s : State) : Bool := s.fld F.NM_STATE_RING == 1 && s.nm.visiting.isSome

/-- Between two visits the entries that wait take effect (R381). -/
def State.endVisit (s : State) : State :=
  let w := s.nm.memberWait
  forEach w (fun c s => s.setMember c.1 c.2) { s with nm := { s.nm with visiting := none, memberWait := [] } }

/-- A round starts. -/
def State.openRound (s : State) : State :=
  let c := s.candidates
  let s := { s with nm := { s.nm with
    round := (s.nm.round + 1) % 65536, set := c, stayed := c, vetoed := 0, visiting := none, toVisit := List.range 32 } }
  (s.setFld F.NM_STATE_RING 1).inc (C.nm 0)

/-- The token moves on; at a round's end groups are committed, a new round starts, or the ring is idle (R364). A round
that visits no member ends at once. -/
def State.ringGo (s : State) : Nat → State
  | 0 => s.ringIdle
  | fuel + 1 =>
    match s.visitNext with
    | some s => s
    | none =>
      let s := { s with nm := { s.nm with visiting := none, vetoAt := if s.nm.vetoed = 0 then s.nm.vetoAt else some s.aon } }.countRuns
      match s.nm.forced with
      | g :: r => { s with nm := { s.nm with forced := r } }.commitSleep (2 ^ g) true
      | [] =>
        if s.runMask 2 ≠ 0 then s.commitSleep (s.runMask 2) false
        else if s.runMask 1 ≠ 0 then s.openRound.ringGo fuel
        else s.setFld F.NM_STATE_RING 0

/-- GROUP_IDLE: no soft source of a group for IDLE_MS (R358). -/
def State.groupIdle (s : State) (g : Nat) : State :=
  if s.mayConsent g ∧ mapGet (fun _ => 0) s.nm.softAt g + s.fld F.NM_TIMING_IDLE_MS * aonPerMs ≤ s.aon then { s with nm := { s.nm with candidates := s.nm.candidates ||| 2 ^ g } } else s

/-- RETRY_MS have passed since the last round that ended with a veto. -/
def State.retryOver (s : State) : Bool := s.nm.vetoAt.all (fun t => decide (t + s.fld F.NM_LIMITS_RETRY_MS * aonPerMs ≤ s.aon))

/-- RING_ROUND_START (R363). A standby runs no ring (spec/15, R434). -/
def State.roundStart (s : State) : State :=
  if s.standby ∨ s.nm.calm ∨ s.fld F.NM_STATE_RING ≠ 0 ∨ s.candidates = 0 ∨ s.retryOver = false then s else s.openRound.ringGo 3

/-- Takes the first waiting consent-ring message of a TYPE. -/
def State.takeRing (s : State) (ty : Nat) : Option (InFrame × List Byte × State) :=
  (s.takeInbox (fun m => m.kind == .ring && beAt m.bytes (s.ringOff m.bytes + 1) 1 == ty)).map
    (fun r => (r.1, r.1.bytes.drop (s.ringOff r.1.bytes), r.2))

/-- A CONSENT_RSP (R362, R363): accepted from the member visited, in its round. -/
def State.consentRsp (s : State) : State :=
  match s.takeRing 2 with
  | none => s
  | some (f, b, s) =>
    match s.nm.visiting with
    | none => s
    | some m =>
      if s.fld F.NM_STATE_RING ≠ 1 ∨ beAt b 2 2 ≠ s.nm.round ∨ beAt b 8 1 ≠ m ∨ s.ringFrom f.port f.bytes m = false then s
      else
        let v := beAt b 6 2 &&& s.memberGroups m
        let s := if v = 0 then s else (s.inc (C.nm 1)).softSource v (0x80 + m) (f.stamp / fracPerNs) false
        { s with nm := { s.nm with vetoed := s.nm.vetoed ||| v } }.endVisit.ringGo 3

/-- A member does not answer within RSP_MS: it consents and is counted (R363). -/
def State.consentTimeout (s : State) : State :=
  if s.inVisit = false ∨ s.aon < s.nm.askedAt + s.fld F.NM_TIMING_RSP_MS * aonPerMs then s else (s.inc (C.nm 2)).endVisit.ringGo 3

/-- A WAKE_REQ (R365). -/
def State.wakeReq (s : State) : State :=
  match s.takeRing 5 with
  | none => s
  | some (f, b, s) =>
    let m := ((List.range 32).find? (s.ringFrom f.port f.bytes)).getD 0
    s.wake (beAt b 4 2) (0x80 + m) 0 (f.stamp / fracPerNs)

/-- FORCED_SLEEP: a group's awake timer has reached MAX_AWAKE_S (R359). -/
def State.forcedSleep (s : State) (g : Nat) : State :=
  if s.fld F.NM_LIMITS_MAX_AWAKE_S = 0 ∨ s.asleep g ∨ !(s.fld F.NM_SLEEP_EN_SLEEP_EN).testBit g ∨ s.hardMask.testBit g ∨
      !s.usedGroups.testBit g ∨ s.awakeSeconds g < s.fld F.NM_LIMITS_MAX_AWAKE_S then s
  else
    let src := mapGet (fun _ => 0xFF) s.nm.lastSoft g
    let s := s.setFlds [(F.NM_GROUP_STATUS_LAST_SOURCE g, src), (F.NM_GROUP_STATUS_ISOLATED g, 1)]
    let s := ((s.nmEvent 7 src (2 ^ g)).nmEvent 6 src (2 ^ g)).inc (C.nm 5)
    if s.standby then s
    else
      let s := { s with nm := { s.nm with forced := s.nm.forced ++ [g] } }
      if s.fld F.NM_STATE_RING = 0 then s.ringIdle else s

/-! ## Sleep entry (R356, R369, R371) -/

/-- Members of groups are powered down. -/
def State.powerDown (s : State) (groups : Nat) : State :=
  let g := groups &&& notMask s.asleepMask
  let s := forEach (maskList 16 g) (fun k s => s.setFld (F.NM_GROUP_STATUS_AWAKE_S k) (s.awakeSeconds k)) s
  let s := s.setFld F.NM_STATE_ASLEEP (s.asleepMask ||| g)
  let s := s.dropCandidates g
  let s := forEach (s.groupPorts g) (fun p s =>
    let s := s.portReset p
    let s := forEach (List.range 8) (fun n s =>
      let k := (s.queue (8 * p + n)).length
      if k = 0 then s else (s.dropCopies (8 * p + n) (fun _ => true)).count (C.nm 11) k) s
    s.phyPin p) s
  forEach (s.groupChans g) (fun n s => s.chanReset n) s

/-- A commander's 348 nominal bit times exceed GUARD_US (R369): DIV cycles of CLK_CTRL at 40 MHz a bit. -/
def State.longBits (s : State) (n : Nat) : Bool :=
  decide (s.fld F.NM_CFG_GUARD_US * 40 < 348 * s.fld (F.LIN_BAUD_DIV n))

/-- The entry waits for a commander's go-to-sleep frame. -/
def State.entryWaits (s : State) : Bool :=
  (s.commanders s.nm.committed).any (fun n => s.longBits n && (s.lin n).goSleep && s.linLive n)

/-- The entry may run: T_commit is reached. -/
def State.entryDue (s : State) : Bool := decide (2 ≤ s.fld F.NM_STATE_RING) && decide (s.nm.tCommit ≤ s.nowNs) && !s.nm.calm

/-- Every group is asleep once the committed ones are, and CALM_EN acts (R354, R371, R395). -/
def State.calmNext (s : State) : Bool :=
  s.flag F.NM_CFG_CALM_EN && !s.saf.aonFault && (s.usedGroups &&& notMask s.asleepMask) == 0

/-- Steps 1 and 2: the committed groups sleep. -/
def State.enterSleep (s : State) : State :=
  s.confine [.regs, .cnts, .fresh, .bufLog, .data, .ports, .mgt, .edge, .nm, .key, .out] (
    let g := s.nm.committed
    let s := s.powerDown g
    let s := forEach (s.commanders g) (fun n s => s.setLin n { s.lin n with goSleep := false, slept := false }) s
    { s with nm := { s.nm with committed := 0, told := [], armed := false } })

/-- The end of an entry in Lull: a wake latched meanwhile wakes its groups (R368). -/
def State.endInLull (s : State) : State :=
  s.confine [.regs, .cnts, .nmLog, .data, .mgt, .edge, .nm, .twin, .key] (
    let s := match s.nm.latched with
      | none => s
      | some (g, c, _) => { s with nm := { s.nm with due := s.nm.due ||| (g &&& s.asleepMask), dueCode := c, latched := none,
                                                     waking := s.nm.waking &&& s.asleepMask } }
    s.ringIdle)

/-! ## Wake inputs (R372, R373) -/

/-- Logs an input's masking: event, its code, its groups. -/
def State.maskInput (s : State) (n ev : Nat) : State :=
  s.nmEvent ev (0xC0 + n) (s.fld (F.WAKE_IN_GROUPS_GROUPS n))

/-- The always-on clock in ms. -/
def State.aonMs (s : State) : Nat := s.aon / 500000

/-- A change of an input's filtered level is noted; more than CHATTER_N within CHATTER_MS mask it. -/
def State.noteChange (s : State) (n : Nat) : State :=
  let now := s.aonMs
  let l := (now :: mapGet (fun _ => []) s.nm.changes n).filter (fun t => decide (now < t + s.fld F.WAKE_LIMITS_CHATTER_MS))
  let s := { s with nm := { s.nm with changes := mapSet (fun _ => []) s.nm.changes n l } }
  let c := s.fld F.WAKE_STATUS_CHATTER
  if s.fld F.WAKE_LIMITS_CHATTER_N < l.length ∧ c.testBit n = false ∧ (s.fld F.WAKE_STATUS_STUCK).testBit n = false then
    ((s.setFld F.WAKE_STATUS_CHATTER (c ||| 2 ^ n)).maskInput n 2).inc (C.nm 9)
  else s

/-- WAKE_INPUT_FILTER_PASS: the filtered level of an input changes; the wake logic reads it at the next epoch, in Calm the wake
latch takes it at once. While the unit drives WAKE_BUS, and for 20 µs
after, input 4 is not evaluated. -/
def State.filterPass (s : State) (n : Nat) : State :=
  if !s.flag (F.WAKE_IN_CFG_EN n) ∨ (n = 4 ∧ (s.nm.pulse ∨ s.aon < s.nm.busFree)) then s
  else
    let old := s.hardMask
    let s := { s with nm := { s.nm with levelAt := mapSet (fun _ => 0) s.nm.levelAt n s.aon } }.setFld F.WAKE_STATUS_LEVEL (Nat.xor (s.fld F.WAKE_STATUS_LEVEL) (2 ^ n))
    let s := s.noteChange n
    let s := if s.nm.calm ∧ s.lineRaised n = true then s.wake (s.fld (F.WAKE_IN_GROUPS_GROUPS n)) (0xC0 + n) (2 ^ n) s.nowNs else s
    s.afterHard old

/-- The wake logic reads the filtered level of an input on which both copies agree at an epoch: a line that has become active is a
wake (R366; spec/14, R387). -/
def State.wakeEpoch (s : State) (n : Nat) : State :=
  let i := 10 + n
  let old := s.hardMask
  let on := (s.fld F.WAKE_STATUS_LEVEL).testBit n && !s.agreedIn i
  let s := { s with saf := { s.saf with agreed := mapSet (fun _ => false) s.saf.agreed i ((s.fld F.WAKE_STATUS_LEVEL).testBit n) } }
  let s := if on && s.lineActive n then s.sourceOn (s.fld (F.WAKE_IN_GROUPS_GROUPS n)) (0xC0 + n) (2 ^ n) else s
  s.afterHard old

/-- Lines that the wake logic had not read when the unit entered Calm are in the wake latch: no wake is lost (R368). -/
def State.latchLines (s : State) : State :=
  forEach ((List.range 5).filter (fun n => s.lineRaised n && !s.agreedIn (10 + n)))
    (fun n s => s.latch (s.fld (F.WAKE_IN_GROUPS_GROUPS n)) (0xC0 + n) (2 ^ n)) s

/-- WAKE_INPUT_STUCK: an input has been active for more than STUCK × 100 ms. -/
def State.inputStuck (s : State) (n : Nat) : State :=
  if !s.lineRaised n ∨ s.aon ≤ mapGet (fun _ => 0) s.nm.levelAt n + s.fld F.WAKE_LIMITS_STUCK * 100 * aonPerMs then s
  else
    let old := s.hardMask
    let s := s.setFld F.WAKE_STATUS_STUCK (s.fld F.WAKE_STATUS_STUCK ||| 2 ^ n)
    ((s.maskInput n 1).inc (C.nm 8)).afterHard old

/-- WAKE_INPUT_UNMASK: a masked input has been inactive for DEBOUNCE cycles. -/
def State.inputUnmask (s : State) (n : Nat) : State :=
  let m := s.fld F.WAKE_STATUS_CHATTER ||| s.fld F.WAKE_STATUS_STUCK
  if m.testBit n = false ∨ (s.fld F.WAKE_STATUS_LEVEL).testBit n then s
  else
    let clr (x : Nat) : Nat := if x.testBit n then x - 2 ^ n else x
    (s.setFlds [(F.WAKE_STATUS_CHATTER, clr (s.fld F.WAKE_STATUS_CHATTER)), (F.WAKE_STATUS_STUCK, clr (s.fld F.WAKE_STATUS_STUCK))]).maskInput n 3

/-- WAKE_OUT_PULSE_END: PULSE × 100 µs after it began to drive WAKE_BUS, the unit releases it. -/
def State.wakePulseEnd (s : State) : State :=
  if s.nm.pulse ∧ s.nm.pulseAt + s.fld F.NM_CFG_PULSE * 50000 ≤ s.aon then
    { s with nm := { s.nm with pulse := false, busFree := s.aon + 10000 } }.emit (.pin 0 true)
  else s

/-! ## Register writes with an effect here -/

/-- A write of NM_KEEP: bits that become 1 are hard sources that become active. -/
def State.writeKeep (s : State) (v : Nat) : State :=
  let old := s.hardMask
  let new := v &&& notMask (s.fld F.NM_KEEP_KEEP)
  let s := s.setFld F.NM_KEEP_KEEP v
  (s.sourceOn new 0xE0 0).afterHard old

/-- A write of NM_SLEEP_EN: timers of the groups it enables start. -/
def State.writeSleepEn (s : State) (v : Nat) : State :=
  let new := v &&& notMask (s.fld F.NM_SLEEP_EN_SLEEP_EN)
  (s.setFld F.NM_SLEEP_EN_SLEEP_EN v).restartTimers new

/-- A write of WAKE_IN_CFG or WAKE_IN_GROUPS: an active line it brings in is a hard source that becomes active. -/
def State.writeWakeIn (s : State) (n key : Nat) (w : Word) : State :=
  let was := if s.lineActive n then s.fld (F.WAKE_IN_GROUPS_GROUPS n) else 0
  let old := s.hardMask
  let s := s.setReg key w
  let now := if s.lineActive n then s.fld (F.WAKE_IN_GROUPS_GROUPS n) else 0
  (s.sourceOn (now &&& notMask was) (0xC0 + n) (2 ^ n)).afterHard old

/-! ## Sleep of a pair (spec/15, R434) and steps of time (R370) -/

/-- A SLEEP message: the standby commits or aborts with the active unit. -/
def State.sleepPair (s : State) : State :=
  match s.takePair 7 with
  | none => s
  | some (f, s) =>
    if !s.standby then s
    else
      let b := pmBody f.bytes
      let set := beAt b 2 2
      if beAt b 4 1 = 0 then
        let s := { s with nm := { s.nm with round := beAt b 0 2, committed := set, told := [], armed := true, latched := none,
                                            tCommit := beAt b 6 6 * 1000000000 + beAt b 12 4 } }
        let s := forEach (s.commanders set) (fun n s => s.setLin n { s.lin n with goSleep := true, slept := false }) s
        ((s.setFld F.NM_STATE_RING 2).inc (C.nm 3)).nmEvent 4 255 set
      else if 2 ≤ s.fld F.NM_STATE_RING then s.abortCommit false else s

/-- A WAKE message: the active unit takes it as a wake with the standby's timestamp. Its code is that of a wake by no
source of R357. -/
def State.wakePair (s : State) : State :=
  match s.takePair 8 with
  | none => s
  | some (f, s) =>
    let b := pmBody f.bytes
    if s.pairActive then s.wake (beAt b 0 2) 0xFF 0 (beAt b 2 6 * 1000000000 + beAt b 8 4) else s

/-- After a step of the counter the Weaver follows, and a commit is aborted (R268, R370). -/
def State.afterStep (s : State) : State :=
  if s.time.stepped then
    let s := { s with time := { s.time with stepped := false } }.wvrStep
    if s.fld F.NM_STATE_RING = 2 then s.abortCommit false else s
  else s

/-- After a command that may have stepped the counter or changed the servo's state, the pulse outputs follow too (spec/07, R226,
R230). -/
def State.settleTime (s : State) : State :=
  s.confine [.regs, .cnts, .nmLog, .data, .time, .mgt, .edge, .nm, .wvr, .twin, .key, .out] s.ppsAll.afterStep

/-- A change in which the counter may be stepped, with what follows a step. -/
def State.settled (s : State) (f : State → State) : State := (f { s with time := { s.time with stepped := false } }).settleTime

end Sys2Proof.Machine
end

