-- ==== Sys2Proof/Machine/Fault.lean ====
section
/-!
DEFINITION. Faults and the Lee path: the fatal reaction, the checks and scrubs, the input agreement, and Lee slots and
transmit frames (spec/14, R386 to R406; spec/05, R164, R165).
-/

namespace Sys2Proof.Machine

/-! ## The fatal reaction (R397 to R400) -/

/-- The unit forwards, or is held only by its role. -/
def State.forwarding (s : State) : Bool := s.fld F.BOOT_STATUS_STATE == 0xB

/-- The partner is a standby ready to take over: its last HELLO, not older than LOSS_US, says so (spec/15, R427). -/
def State.partnerReady (s : State) : Bool :=
  s.fld F.PAIR_CFG_MODE == 1 && s.partnerHere && s.fld F.PAIR_STATUS_PARTNER_ROLE == 4 && s.flag F.PAIR_STATUS_PARTNER_READY

/-- The state a fatal fault enters (R397). A unit that does not forward yet is halted (log entry 27). -/
def State.faultMode (s : State) : SafMode :=
  if !s.forwarding || s.heldPort 0 || s.partnerReady then .halted else .lee

/-- HOLD_OUT is driven to a level (spec/15, R417). -/
def State.driveHold (s : State) (b : Bool) : State :=
  if s.flag F.PAIR_STATUS_HOLD_OUT = b then s else (s.setFld F.PAIR_STATUS_HOLD_OUT (b2n b)).emit (.pin 2 b)

/-- Frames in transmission end (spec/02, R540); nothing else of the data plane stays but the quarantined cells and STRIKE
(R398, step 3; spec/05, R164). -/
def State.stompAll (s : State) : State :=
  let s := forEach s.ports.tx (fun c s => match c.2 with
    | some t => s.stompOne c.1 t
    | none => s) s
  { s with
    ports := { s.ports with tx := [], rx := [] },
    data := { s.data with frames := [], infos := [], queues := [], waiting := [], recirc := [],
                          crossing := [], learnQ := [] },
    twin := { s.twin with replay := [], replaying := false } }.resetCells s.data.cells

/-- Every queued channel request is discarded; a frame in transmission completes (R398, step 3). -/
def State.dropRequests (s : State) : State :=
  { s with edge :=
    { can := s.edge.can.map (fun c => (c.1, { c.2 with reqs := [] })),
      lin := s.edge.lin.map (fun c => (c.1, { c.2 with diag := none, waiting := none })) } }

/-- Every sleeping group is woken (R398, step 4). -/
def State.wakeAll (s : State) : State :=
  let g := s.asleepMask
  let s := s.setFld F.NM_STATE_ASLEEP 0
  let s := forEach (s.groupPorts g) (fun p s => s.phyPin p) s
  forEach (s.groupChans g) (fun n s => s.chanStart n) s

/-- The Lee path takes the egress: Lee time goes on by itself from the time released last (R401). -/
def State.leeTakes (s : State) : State := s.wakeAll

/-- A fatal fault of a code, with the group or place concerned. Nothing follows in a unit already halted. After code
0x06, whose detail is the bit of CLK_STATUS that names the monitor, the Lee path waits for the root PLL (R399). -/
def State.fatalFault (s : State) (code detail : Nat) : State :=
  s.confine [.regs, .cnts, .fresh, .data, .ports, .edge, .twin, .saf, .out] (
    if s.saf.mode ≠ .normal then s
    else
      let m := s.faultMode
      let s := s.stompAll.dropRequests
      let role := s.fld F.PAIR_STATUS_ROLE
      let s := if s.fld F.PAIR_CFG_MODE = 1 ∧ 2 ≤ role ∧ role ≤ 4 then s.setFld F.PAIR_STATUS_ROLE 5 else s
      let s := (s.emit (.pin 4 false)).driveHold false
      let s := { s with saf := { s.saf with
        mode := m, enterAt := s.aon, leeTime := s.time.now, leeRate := s.rateAdj, pllWait := code == 6,
        health := (code, detail, s.nowNs) :: s.saf.health } }
      let s := s.setFlds [(F.SAF_STATUS_LAST_STATE, if m = SafMode.lee then 1 else 2), (F.SAF_STATUS_LAST_CAUSE, code)]
      let s := if code = 6 then
          (if 2 ≤ detail ∧ detail ≤ 6 then s.setFld F.CLK_STATUS_MON_FAIL (s.fld F.CLK_STATUS_MON_FAIL ||| 2 ^ (detail - 2)) else s).setFld F.CLK_STATUS_PLL_LOCK 0
        else s
      if m = SafMode.lee then
        let s := s.emit (.pin 5 false)
        if code = 6 then s else s.leeTakes
      else s)

/-- PLL_RELOCK: the root PLL has locked again and the entry into Lee mode goes on (R399). -/
def State.pllRelock (s : State) : State :=
  if s.saf.pllWait then
    let s := { s with saf := { s.saf with pllWait := false } }.setFld F.CLK_STATUS_PLL_LOCK 1
    if s.saf.mode = .lee then s.leeTakes else s
  else s

/-- The Lee path transmits. -/
def State.leeOn (s : State) : Bool := s.saf.mode == .lee && !s.saf.pllWait

/-! ## Digests, scrubs, temperature, clocks, filters (R388 to R395) -/

/-- DIGEST_COMPARE: the first group in which the copies differ is fatal, or where REPORT says so its state is
overwritten, and it is counted and reported (R389). -/
def State.digestCompare (s : State) (differ : Nat) : State :=
  let l := (List.range 32).filter (fun g => differ.testBit g || s.saf.digests.contains g)
  let s := { s with saf := { s.saf with digests := [] } }
  let fatal (g : Nat) : Bool := decide (g < 24) || !(s.fld F.SAF_DIGEST_MODE_REPORT).testBit (g - 24)
  match l.find? fatal with
  | some g => s.fatalFault 2 g
  | none => forEach l (fun g s => (s.inc (C.saf 7)).safEvent 2 g) s

/-- An uncorrectable FDB entry is removed where it is dynamic, and fatal where it is static (R393). -/
def State.fdbUncorr (s : State) (i : Nat) : State :=
  let s := s.inc (C.saf 2)
  match s.fdbAt i with
  | some e => if e.static then s.fatalFault 0x13 i
    else (((s.setFdb i none).inc (C.saf 5)).safEvent 0x12 i)
  | none => s

/-- The register fields of the always-on domain that carry parity (R395; spec/13, R378). -/
def aonFields : List Nat :=
  [K.NM_CFG, K.NM_SLEEP_EN, K.NM_CAUSE, K.WAKE_LIMITS] ++ (List.range 5).flatMap (fun n => [K.WAKE_IN_CFG n, K.WAKE_IN_GROUPS n])

/-- A field with a parity error takes its reset value and raises code 0x22 (R395). -/
def State.aonParity (s : State) (n : Nat) : State :=
  match aonFields[n]? with
  | some k => ((s.setReg k (resetWord k)).afterHard s.hardMask).safEvent 0x22 n
  | none => s

/-- SCRUB_VISIT (R391, R392, R395). -/
def State.scrubVisit (s : State) (f : ScrubFind) : State :=
  match f with
  | .clean => s
  | .sramSingle => s.inc (C.saf 0)
  | .tableDouble a => (s.inc (C.saf 2)).fatalFault 0x13 a
  | .mramSingle => s.inc (C.saf 1)
  | .mramDouble copy a =>
    let s := match copy with
      | some k => { s with boot := { s.boot with mramBad := s.boot.mramBad ||| 2 ^ k } }
      | none => s
    (s.inc (C.saf 3)).safEvent 0x19 a
  | .scratchDouble a => (s.inc (C.saf 2)).fatalFault 0x15 a
  | .voted => s.inc (C.saf 8)
  | .aonField n => s.aonParity n
  | .tcam _ => s.inc (C.saf 4)
  | .fdb i => s.fdbUncorr i
  | .buffer q .nodeList => s.badNodes q
  | .buffer h e => s.bufError h e

/-- The junction temperature in °C as its 8-bit field shows it. -/
def tjOf (t : Nat) : Int := toSigned 8 t

/-- TEMPERATURE_WARNING: the temperature crosses TJ_WARN upward (R394). -/
def State.tjWarn (s : State) (t : Nat) : State :=
  let s := s.setFld F.SAF_MON_TJ t
  if (s.fld F.SAF_CFG_TJ_WARN : Int) < tjOf t ∧ s.saf.warned = false then
    ({ s with saf := { s.saf with warned := true } }.setFld F.SAF_MON_TJ_HIGH 1).safEvent 9 0
  else s

/-- TJ_WARN_REARM: it has fallen 5 °C below TJ_WARN. -/
def State.tjRearm (s : State) (t : Nat) : State :=
  let s := s.setFld F.SAF_MON_TJ t
  if tjOf t ≤ (s.fld F.SAF_CFG_TJ_WARN : Int) - 5 then
    { s with saf := { s.saf with warned := false } }.setFld F.SAF_MON_TJ_HIGH 0
  else s

/-- AON_CLOCK_FAULT (R395). -/
def State.aonClockFault (s : State) : State :=
  let s := { s with saf := { s.saf with aonFault := true } }
  (s.setFlds [(F.CLK_STATUS_AON_FAIL, 1), (F.SAF_MON_AON_CLK_FAIL, 1)]).safEvent 7 0

/-- WAKE_FILTER_COPY_FAULT: the two copies of an input's filter disagree (R391, code 0x23). -/
def State.filterCopyFault (s : State) (n : Nat) : State := s.safEvent 0x23 n

/-- SAF_INJECT (R411): a compare group is a checker alarm, a digest group differs at the next compare. -/
def State.faultInject (s : State) (kind group : Nat) : State :=
  if kind = 0 then s.fatalFault 1 group
  else if group < 32 then { s with saf := { s.saf with digests := s.saf.digests ++ [group] } } else s

/-! ## The audit's end (spec/05, R164, R165) -/

/-- AUDIT_END: FREE_CELLS takes the tally, and quarantined cells above QUAR_LIMIT are code 0x20. -/
def State.auditEnd (s : State) : State :=
  if !s.data.audit then s
  else
    let s := { s with data := { s.data with audit := false } }
    let n := s.tally
    let s := if n = s.freeCells then s else (s.setFld F.BUF_STATUS_FREE_CELLS n).raiseFlag F.BUF_AUDIT_COUNT_FIXED (beBytes 4 n)
    let q := s.fld F.BUF_AUDIT_QUAR_CELLS
    if q ≤ s.fld F.BUF_CFG_QUAR_LIMIT then s
    else
      let s := s.raiseFlag F.BUF_AUDIT_LIMIT_HIT (beBytes 4 q)
      if s.flag F.SAF_CFG_QUAR_FATAL then s.fatalFault 0x20 q else s.safEvent 0x20 q

/-! ## Input agreement (R386, R387) -/

/-- The copies agree on an input: both use the sample. Inputs 0 to 7, active low, read in MAC_STATUS. -/
def State.agreeInput (s : State) (i : Nat) (b : Bool) : State :=
  let s := { s with saf := { s.saf with
    agreed := mapSet (fun _ => false) s.saf.agreed i b, runs := mapSet (fun _ => 0) s.saf.runs i 0 } }
  let s := if s.fld F.SAF_AGREE_LAST_INPUT = i then s.setFld F.SAF_AGREE_RUN 0 else s
  if i < 8 then s.setFld (F.MAC_STATUS_PHY_INT i) (b2n b) else s

/-- The copies disagree on an input: counted, and at the 16th consecutive epoch fatal. -/
def State.disagreeInput (s : State) (i : Nat) : State :=
  let n := s.runOf i + 1
  let s := { s with saf := { s.saf with runs := mapSet (fun _ => 0) s.saf.runs i n } }
  let s := (s.inc (C.saf 6)).setFlds [(F.SAF_AGREE_LAST_INPUT, i), (F.SAF_AGREE_RUN, min n 31)]
  if 16 ≤ n then s.fatalFault 5 i else s

/-- The pulse of input 9: agreeing stamps are the pulse's, disagreeing ones discard it (spec/07, R227). -/
def State.agreePps (s : State) : State :=
  match s.time.ppsEdge with
  | none => s
  | some (a, b) =>
    let s := { s with time := { s.time with ppsEdge := none } }
    if a = b then (s.agreeInput 9 false).ppsAgreed a else (s.inc (C.time 10)).disagreeInput 9

/-- An input of an epoch, whose samples agree or not. What the copies sample of inputs 10 to 14 is the filtered level that the
always-on domain holds. -/
def State.epochInput (a b i : Nat) (s : State) : State :=
  if a.testBit i ≠ b.testBit i then s.disagreeInput i
  else if i < 10 then s.agreeInput i (a.testBit i)
  else (if s.saf.mode = .normal then s.wakeEpoch (i - 10) else s).agreeInput i ((s.fld F.WAKE_STATUS_LEVEL).testBit (i - 10))

/-- INPUT_EPOCH, every 64 cycles: the samples of copies A and B, bit i input i, asserted 1. Lee time follows the time counter. -/
def State.inputEpoch (s : State) (a b : Nat) : State :=
  let s := forEach ((List.range 15).filter (fun i => i != 9)) (State.epochInput a b) s
  let s := s.agreePps
  if s.saf.mode = .normal then { s with saf := { s.saf with leeTime := s.time.now, leeRate := s.rateAdj } } else s

/-! ## The Lee path transmits (R402 to R405) -/

/-- Lee time in whole ns. -/
def State.leeNs (s : State) : Nat := s.saf.leeTime / fracPerNs

/-- The latest instant at an offset into a Lee cycle, none before the first. -/
def State.leeInstant (s : State) (offset : Nat) : Option Nat :=
  let c := s.fld F.LEE_CFG_CYCLE_NS
  if s.leeNs < offset ∨ c = 0 then none else some ((s.leeNs - offset) / c * c + offset)

/-- A Lee frame leaves on a port, whole with its FCS, unless it is longer than the port's MAX_FRAME (spec/03, R78, R95). -/
def State.leeSend (s : State) (p : Nat) (b : List Byte) : State :=
  if s.fld (F.MAC_FRAME_MAX_FRAME p) < b.length then s.inc (C.mac p 15)
  else ((s.count (C.mac p 10) b.length).inc (C.mac p 11)).emit (.frame p b true)

/-- LEE_SLOT: the most recent eligible frame of a stream leaves on its egress ports; older ones were superseded. -/
def State.leeSlot (s : State) (i : Nat) : State :=
  match s.saf.streams.find? (fun c => c.1 == i) with
  | none => s
  | some (_, l) =>
    if !s.leeOn then s
    else match s.leeInstant (Lee.offset l) with
      | none => s
      | some t =>
        let q := s.leeStore i
        let early := q.takeWhile (fun f => !s.leeEligible (Lee.port l) (t * fracPerNs) f)
        match q.drop early.length with
        | [] => s
        | f :: old =>
          let s := s.setLeeStore i early
          let s := if old.isEmpty then s else s.count (C.saf 11) old.length
          let s := { s with saf := { s.saf with lastSent := mapSet (fun _ => []) s.saf.lastSent i f.2 } }
          forEach ((maskList 26 (Lee.egress l)).filter s.portUp) (fun p s => s.leeSend p f.2) (s.inc (C.saf 10))

/-- Fields of a Lee transmit frame's and a route's record (R409). -/
def LeeF.channel (l : List Word) : Nat := bits (leeWord l 0) 25 21
def LeeF.fmt (l : List Word) : Nat := bits (leeWord l 0) 20 19
def LeeF.fdf (l : List Word) : Bool := bitOf (leeWord l 0) 18
def LeeF.brs (l : List Word) : Bool := bitOf (leeWord l 0) 17
def LeeF.len (l : List Word) : Nat := bits (leeWord l 0) 16 10
def LeeF.div (l : List Word) : Nat := bits (leeWord l 0) 9 2
def LeeF.id (l : List Word) : Nat := leeWord l 1
def LeeF.offset (l : List Word) : Nat := leeWord l 2
def Route.order (l : List Word) : Bool := bitOf (leeWord l 0) 16
def Route.tmoAct (l : List Word) : Bool := bitOf (leeWord l 0) 15
def Route.srcStart (l : List Word) : Nat := bits (leeWord l 0) 14 6
def Route.len (l : List Word) : Nat := bits (leeWord l 0) 5 1 + 1
def Route.frame (l : List Word) : Nat := bits (leeWord l 2) 31 26
def Route.dstStart (l : List Word) : Nat := bits (leeWord l 2) 25 17
def Route.timeout (l : List Word) : Nat := bits (leeWord l 2) 15 0
def Route.subst (l : List Word) : Nat := leeWord l 3

def State.leeImage (s : State) (i : Nat) : List Byte := mapGet (fun _ => List.replicate 64 0) s.saf.images i
def State.setLeeImage (s : State) (i : Nat) (b : List Byte) : State :=
  { s with saf := { s.saf with images := mapSet (fun _ => List.replicate 64 0) s.saf.images i b } }

/-- The source frame that applies to a send at a time (R405). -/
def State.leeApplied (s : State) (r : List Word) (t : Nat) : Option LeeSrc :=
  s.saf.srcs.find? (fun x => x.channel == Route.channel r && x.fmt == Route.fmt r && x.id == Route.id r &&
    decide (x.stamp + 1000 * s.fld F.LEE_EDGE_EDGE_SETUP_US ≤ t))

/-- A route's bits at a send at a time: from the applied frame, substituted, or held. -/
def State.leeRoute (s : State) (r : List Word) (t : Nat) : State :=
  let i := Route.frame r
  let put (v : Int) (s : State) : State := s.setLeeImage i (insertSig (s.leeImage i) (Route.dstStart r) (Route.len r) (Route.order r) v)
  let src := s.leeApplied r t
  let late := Route.timeout r != 0 && (match src with
    | none => true
    | some x => decide (x.stamp + 1000000 * Route.timeout r ≤ t))
  if late then (if Route.tmoAct r then (put (Route.subst r) s).inc (C.saf 13) else s)
  else match src with
    | none => s
    | some x => put (extractSig x.data (Route.srcStart r) (Route.len r) (Route.order r) false) s

/-- LEE_FRAME_SEND, once in a Lee cycle: the routes of a transmit frame run, and its image is requested or supplied (R405). -/
def State.leeFrameSend (s : State) (i : Nat) : State :=
  match s.saf.frames.find? (fun c => c.1 == i) with
  | none => s
  | some (_, f) =>
    if !s.leeOn then s
    else match s.leeInstant (LeeF.offset f) with
      | none => s
      | some t =>
        let k := (t - LeeF.offset f) / s.fld F.LEE_CFG_CYCLE_NS
        if k % LeeF.div f ≠ 0 ∨ mapGet (fun _ => none) s.saf.sentAt i = some k then s
        else
          let s := { s with saf := { s.saf with sentAt := mapSet (fun _ => none) s.saf.sentAt i (some k) } }
          let s := forEach (s.saf.routes.filter (fun c => Route.frame c.2 == i)) (fun c s => s.leeRoute c.2 t) s
          let d := (s.leeImage i).take (LeeF.len f)
          let n := LeeF.channel f
          if n < 24 then (s.canRequest n ⟨LeeF.fmt f, LeeF.id f, LeeF.fdf f, LeeF.brs f,
            if LeeF.fmt f = 2 then [0, 0, 0, 0] else [], d, 0⟩).2
          else s.linSupply (n - 24) (LeeF.id f % 64) d

/-- One CLK_CORE cycle of Lee time in Lee mode (R401). -/
def State.leeTick (s : State) : State :=
  if s.saf.mode = .lee then
    { s with saf := { s.saf with leeTime := (((s.saf.leeTime : Int) + 2 * (fracPerNs : Int) + s.saf.leeRate) % (timeMod : Int)).toNat } }
  else s

end Sys2Proof.Machine
end

