-- ==== Sys2Proof/Machine/Pair.lean ====
section
/-!
DEFINITION. Pairing but for commands and the journal: HELLO, roles and the interlock, takeover, rejoin and snapshots,
time of a pair, joined pairing and credit (spec/15, R416 to R433, R438 to R445).
-/

namespace Sys2Proof.Machine

/-- Sets an event flag of the pair. -/
def State.pairEvent (s : State) (bit : Nat) : State := s.raiseFlag ⟨K.PAIR_EVT, bit, bit⟩ (beBytes 1 bit)

def State.role (s : State) : Nat := s.fld F.PAIR_STATUS_ROLE
def State.setRole (s : State) (r : Nat) : State := s.setFld F.PAIR_STATUS_ROLE r

/-! ## Time in a pair (R432, R433) -/

/-- The unit stops following the partner's time. -/
def State.returnTime (s : State) : State :=
  let s := s.setRate s.avg
  if s.fld F.TIME_CTRL_SOURCE = 0 then s.setServo 0
  else if s.servoState = 3 then s else (s.setServo 3).inc (C.time 8)

/-- The unit starts to follow: a servo that was free acquires. -/
def State.followTime (s : State) : State := if s.servoState = 0 then s.setServo 1 else s

/-- Does a change that may start or end the unit's following of its partner's time. -/
def State.withTime (s : State) (f : State → State) : State :=
  let was := s.timeFollows
  let s := f s
  if was && !s.timeFollows then s.returnTime else if !was && s.timeFollows then s.followTime else s

/-- The time condition of R432. -/
def State.timeCondition (s : State) : Bool :=
  s.servoState == 2 && (s.flag F.PAIR_CFG_TIME_PAIR || s.twin.partnerFlags.testBit 1)

/-! ## Readiness (R427) -/

/-- READY of a standby. -/
def State.pairReady (s : State) : Bool :=
  s.fld F.PAIR_CFG_MODE == 1 && s.role == 4 && s.partnerHere && !s.flag F.PAIR_STATUS_MISMATCH && s.timeCondition &&
    s.twin.rejoined && s.twin.mask == 0 && !s.flag F.PAIR_STATUS_LINE_FAULT

/-- READY follows its conditions; TAKEOVER_BLOCKED clears with it. -/
def State.settleReady (s : State) : State :=
  let r := s.pairReady
  let s := s.setFld F.PAIR_STATUS_READY (b2n r)
  if r then s.setFld F.PAIR_STATUS_TAKEOVER_BLOCKED 0 else s

/-! ## Roles (R418, R419, R424, R425) -/

/-- HOLD_IN as the role table reads it: the agreed level, or what a mask makes of it (R420). -/
def State.holdIn (s : State) : Bool :=
  if s.twin.mask = 1 then false else if s.twin.mask = 2 then true else s.flag F.PAIR_STATUS_HOLD_IN

/-- Entries that a command's COMMAND entry and its DATA entries take. -/
def State.groupSize (s : State) (jseq : Nat) : Nat :=
  match s.entryOf jseq with
  | some e => 1 + beAt e.body 26 2
  | none => 1

/-- The new ACTIVE unit applies every command for which it holds a COMMIT, and records the others that it holds as not
accepted (R431). -/
def State.takeJournal (s : State) : State :=
  let l := s.twin.uncommitted
  let s := { s with mgt := { s.mgt with execQ := s.mgt.execQ ++ s.twin.commits.map (fun c => c.1) },
                    twin := { s.twin with commits := [], uncommitted := [] } }
  let s := forEach l (fun c s => s.append 8 255 0 0 0 (beBytes 8 c.jseq ++ beBytes 4 (s.groupSize c.jseq))) s
  { s with twin := { s.twin with sent := s.nextJseq } }

/-- ACTIVE: HOLD_OUT is asserted and the held egress opens with its replay. -/
def State.enterActive (s : State) : State :=
  s.withTime fun s =>
    let s := ((s.setRole 3).driveHold true).openReplay.takeJournal
    { s with twin := { s.twin with activeSince := s.nowNs, step := 0, tSync := none, rejoined := false, snapping := false } }.settleReady

/-- A takeover: ACTIVE with TAKEOVER set (R424). -/
def State.takeover (s : State) : State := (s.enterActive.pairEvent 0).inc (C.pair 2)

/-- STANDBY: HOLD_OUT is deasserted, channels shadow, and a rejoin starts (R428, R251). -/
def State.enterStandby (s : State) : State :=
  s.withTime fun s =>
    let s := ((s.setRole 4).driveHold false).shadowAll
    { s with twin := { s.twin with replaying := false, step := 1, tSync := none, rejoined := false, snapping := false } }.settleReady

/-- CLAIMING, decided at once where HOLD_IN is asserted: UNIT_ID 0 becomes ACTIVE, 1 STANDBY. -/
def State.claimRule (s : State) : State :=
  if s.holdIn then (if s.unitId = 0 then s.enterActive else s.enterStandby) else s
def State.enterClaiming (s : State) : State := ((s.setRole 2).driveHold true).claimRule

/-- The role when forwarding is enabled (R418). -/
def State.pairForward (s : State) : State :=
  if s.fld F.PAIR_CFG_MODE ≠ 1 ∨ s.role ≠ 1 then s
  else if s.holdIn then s.enterStandby
  else if s.twin.prefer then s else s.enterClaiming

/-- The role table after a change of what HOLD_IN reads as. -/
def State.holdRule (s : State) : State :=
  if s.fld F.PAIR_CFG_MODE ≠ 1 ∨ s.saf.mode ≠ .normal then s
  else match s.role with
    | 1 => if s.holdIn && s.forwarding then s.enterStandby else s
    | 2 => s.claimRule
    | 4 => if s.holdIn then s else if s.pairReady then s.takeover else s.setFld F.PAIR_STATUS_TAKEOVER_BLOCKED 1
    | _ => s

/-- HOLD_IN_CHANGE: the level agreed at an epoch. -/
def State.holdInChange (s : State) : State :=
  let l := s.agreedIn 8
  if s.flag F.PAIR_STATUS_HOLD_IN = l then s else (s.setFld F.PAIR_STATUS_HOLD_IN (b2n l)).holdRule

/-- CLAIM_TIMEOUT: HOLD_IN stayed deasserted for 1,000 ns. -/
def State.claimTimeout (s : State) : State := if s.role = 2 ∧ s.holdIn = false then s.enterActive else s

/-- CLAIM_DEFER_END: it stayed deasserted for 5 ms. -/
def State.claimDeferEnd (s : State) : State :=
  if s.fld F.PAIR_CFG_MODE = 1 ∧ s.role = 1 ∧ s.forwarding ∧ s.twin.prefer ∧ s.holdIn = false then s.enterClaiming else s

/-- ACTIVE_YIELD: UNIT_ID 1 saw HOLD_IN asserted for 1,000 ns. -/
def State.activeYield (s : State) : State :=
  if s.pairActive ∧ s.unitId = 1 ∧ s.holdIn then s.enterStandby else s

/-- HOLD_IN_MASK of a standby: stuck, where the partner's role does not explain the level, or chattering (R420). -/
def State.holdMask (s : State) (chatter : Bool) : State :=
  if s.fld F.PAIR_CFG_MODE ≠ 1 ∨ s.role ≠ 4 ∨ s.twin.mask ≠ 0 then s
  else if chatter then
    let s := { s with twin := { s.twin with mask := 2 } }
    (((s.setFlds [(F.PAIR_STATUS_HOLD_MASKED, 1), (F.PAIR_STATUS_LINE_FAULT, 1)]).pairEvent 5).holdRule).settleReady
  else if s.flag F.PAIR_STATUS_HOLD_IN && s.fld F.PAIR_STATUS_PARTNER_ROLE != 2 && s.fld F.PAIR_STATUS_PARTNER_ROLE != 3 then
    let s := { s with twin := { s.twin with mask := 1 } }
    (((s.setFld F.PAIR_STATUS_HOLD_MASKED 1).pairEvent 4).holdRule).settleReady
  else s

/-- HOLD_IN_UNMASK: the filtered level has been stable for 1 ms. -/
def State.holdUnmask (s : State) : State :=
  if s.twin.mask = 0 then s
  else (({ s with twin := { s.twin with mask := 0 } }.setFld F.PAIR_STATUS_HOLD_MASKED 0).settleReady).holdRule

/-- LINE_FAULT_CLEAR: HOLD_IN asserted for 1 ms (R421). -/
def State.lineFaultClear (s : State) : State :=
  if s.flag F.PAIR_STATUS_HOLD_IN then (s.setFld F.PAIR_STATUS_LINE_FAULT 0).settleReady else s

/-- A CLAIM command (R419). -/
def State.claim (s : State) : State :=
  if s.role = 2 then s.setFld F.PAIR_CTRL_ERR_BUSY 1 else if s.role = 4 then s.enterClaiming else s

/-- A RESYNC command (R428): busy while a rejoin runs, however it began; idle again once a step has failed. -/
def State.resync (s : State) : State :=
  if s.role ≠ 4 then s
  else if within s.twin.step 1 4 then s.setFld F.PAIR_CTRL_ERR_BUSY 1
  else { s with twin := { s.twin with step := 1, tSync := none, rejoined := false } }.settleReady

/-! ## Joined pairing (R438, R442, R445) -/

/-- All credit counts are 0, and CREDIT_CELLS takes effect. -/
def State.creditStart (s : State) : State :=
  { s with twin := { s.twin with voqSent := [], voqBack := [], credited := [], credit := s.fld F.PAIR_CREDIT_CELLS },
           data := { s.data with returned := [] } }

/-- Joined pairing starts, or is suspended: its VOQs are emptied and dynamic entries of the partner removed. -/
def State.joinRule (s : State) : State :=
  if s.fld F.PAIR_CFG_MODE ≠ 2 ∨ !s.forwarding then s
  else
    let now := s.partnerHere && !s.flag F.PAIR_STATUS_MISMATCH
    if now ∧ s.role ≠ 6 then (s.setRole 6).creditStart
    else if !now ∧ s.role = 6 then
      let s := forEach (List.range 288) (fun v s =>
        let k := (s.queue (280 + v)).length
        if k = 0 then s else (s.dropCopies (280 + v) (fun _ => true)).count (C.buf 12) k) s
      (s.setRole 7).fdbDropPartner
    else s

/-- CREDIT_SEND: the counts that changed since they were last reported, 64 to a message. -/
def creditBody (reset : Nat) (l : List (Nat × Nat)) : List Byte :=
  beBytes 1 reset ++ beBytes 1 l.length ++ l.flatMap (fun c => beBytes 2 c.1 ++ beBytes 4 c.2)

/-- Messages of at most 64 entries. -/
def State.creditParts (s : State) : Nat → List (Nat × Nat) → State
  | 0, _ => s
  | fuel + 1, l => if l.isEmpty then s else (s.pairSend 5 (creditBody 0 (l.take 64))).creditParts fuel (l.drop 64)

def State.creditSend (s : State) : State :=
  if !s.joined then s
  else
    let l := s.data.returned.filter (fun c => mapGet (fun _ => 0) s.twin.credited c.1 != c.2)
    let s := { s with twin := { s.twin with credited := s.data.returned } }
    s.creditParts 5 l

/-- A VOQ's counts are set to 0 on this unit (R442). -/
def State.creditReset (s : State) (v : Nat) : State :=
  let s := (s.setVoqSent v 0).setVoqBack v 0
  { s with data := { s.data with returned := mapErase v s.data.returned },
           twin := { s.twin with credited := mapErase v s.twin.credited } }

/-- The entries of a CREDIT message. -/
def creditEntries (b : List Byte) : Nat → List (Nat × Nat)
  | 0 => []
  | n + 1 => (beAt b 0 2, beAt b 2 4) :: creditEntries (b.drop 6) n

/-- CREDIT_RECEIVE. -/
def State.creditReceive (s : State) : State :=
  match s.takePair 5 with
  | none => s
  | some (f, s) =>
    if !s.joined then s
    else
      let b := pmBody f.bytes
      let l := creditEntries (b.drop 2) (beAt b 1 1)
      if beAt b 0 1 = 1 then forEach l (fun c s => (s.creditReset c.1).inc (C.pair 11)) s
      else forEach l (fun c s => s.setVoqBack c.1 c.2) s

/-- CREDIT_RESET_TIMEOUT: the head of a VOQ has waited 10 ms without a return. -/
def State.creditTimeout (s : State) (v : Nat) : State :=
  if !s.joined ∨ (s.queue (280 + v)).isEmpty then s
  else ((s.pairSend 5 (creditBody 1 [(v, 0)])).creditReset v).inc (C.pair 11)

/-- CROSSING_FRAME_RECEIVE: the first crossing frame whose last byte is written takes its pass; a bad one is discarded
(R440; spec/05, R161). -/
def State.crossingReceive (s : State) : State :=
  let ready (h : Nat) : Bool := match s.frame h with
    | some f => f.written
    | none => true
  match s.data.crossing.find? ready with
  | none => s
  | some h =>
    let s := { s with data := { s.data with crossing := s.data.crossing.erase h } }
    match s.frame h with
    | none => s
    | some f =>
      let s := s.inc (C.pair 10)
      if f.bad ∨ !s.joined then ((s.setStage h .passed).endChecks h) else s.crossPass h

/-! ## HELLO (R416, R421, R428) -/

/-- BUILD_ID of the image applied. -/
def State.buildId (s : State) : List Byte := (List.range 4).flatMap (fun k => beBytes 4 (s.reg (K.BOOT_BUILD k)).toNat)

/-- The body of a HELLO (R415). -/
def State.helloBody (s : State) : List Byte :=
  let fl := b2n s.pairReady + 2 * b2n (s.servoState == 2) + 4 * b2n (s.flag F.PAIR_STATUS_MISMATCH) +
    8 * b2n (s.flag F.PAIR_STATUS_LINE_FAULT) + 16 * b2n s.twin.prefer
  beBytes 2 fl ++ beBytes 1 (s.fld F.PAIR_CFG_MODE) ++ [0] ++ beBytes 4 s.data.lfsrSeed ++ s.buildId ++
    beBytes 8 (s.pair K.JRN_HEAD_LO K.JRN_HEAD_HI) ++ beBytes 8 s.serial

/-- HELLO_SEND. -/
def State.helloSend (s : State) : State :=
  if s.fld F.PAIR_CFG_MODE = 0 then s else ((s.pairSend 1 s.helloBody).inc (C.pair 0)).settleReady

/-- A rejoin fails: counted, and tried again after 100 ms (R428). -/
def State.rejoinFail (s : State) : State :=
  if s.twin.step = 0 ∨ s.twin.step = 9 then s
  else { s with twin := { s.twin with step := 9, tSync := none, snapping := false } }.inc (C.pair 8)

/-- REJOIN_RETRY. -/
def State.rejoinRetry (s : State) : State :=
  if s.twin.step = 9 then { s with twin := { s.twin with step := 1 } } else s

/-- The steps of a standby's rejoin that a HELLO can end: 1, and 2 where the time condition holds. -/
def State.rejoinHello (s : State) : State :=
  if s.role ≠ 4 ∨ s.flag F.PAIR_STATUS_MISMATCH then s
  else
    let s := if s.twin.step = 1 then { s with twin := { s.twin with step := 2 } } else s
    if s.twin.step = 2 ∧ s.timeCondition then { s with twin := { s.twin with step := 3 } } else s

/-- Journal entries as CATCH_UP messages of at most 22 entries. -/
def State.catchUp (s : State) : Nat → List JEntry → State
  | 0, _ => s
  | fuel + 1, l =>
    let s := s.pairSend 11 ((l.take 22).flatMap JEntry.bytes)
    if l.length ≤ 22 then s else s.catchUp fuel (l.drop 22)

/-- The time condition of R432 as the active unit sees it: the standby's HELLO reports its STATE LOCKED. -/
def State.serveTime (s : State) : Bool :=
  s.twin.partnerFlags.testBit 1 && (s.flag F.PAIR_CFG_TIME_PAIR || s.servoState == 2)

/-- The active unit serves a standby's rejoin once step 2 is met: its entries, of which the standby takes what it does not hold,
then T_sync (R428, steps 3 and 4; log entry 30). -/
def State.serveRejoin (s : State) (ready : Bool) : State :=
  if !s.pairActive ∨ s.fld F.PAIR_STATUS_PARTNER_ROLE ≠ 4 ∨ ready then
    (if s.pairActive then { s with twin := { s.twin with step := 0, tSync := none } } else s)
  else if s.twin.step ≠ 0 ∨ s.flag F.PAIR_STATUS_MISMATCH ∨ !s.serveTime then s
  else
    let s := s.catchUp 3000 s.mgt.jrn.reverse
    let t := s.nowNs + 1000000
    let s := s.pairSend 6 (Config.syncBody [(255, t, 0)])
    { s with twin := { s.twin with step := 4, tSync := some t, sent := s.nextJseq } }

/-- Dual activity (R421): UNIT_ID 1 returns to STANDBY, or the higher SERIAL where the UNIT_IDs are equal. -/
def State.dualActive (s : State) (unit : Nat) (serial : Nat) : State :=
  let yields := if unit = s.unitId then decide (serial < s.serial) else s.unitId == 1
  if yields then
    (((s.enterStandby.setFld F.PAIR_STATUS_LINE_FAULT 1).pairEvent 6).inc (C.pair 13)).settleReady
  else s

/-- What a HELLO shows of the partner. -/
def State.helloNote (s : State) (m : List Byte) : State :=
  let b := pmBody m
  let s := if s.partnerHere then s else (s.setFld F.PAIR_STATUS_PARTNER_PRESENT 1).pairEvent 2
  let s := { s with twin := { s.twin with partnerFlags := beAt b 0 2 } }
  let s := s.setFlds [(F.PAIR_STATUS_PARTNER_ROLE, pmRole m),
    (F.PAIR_STATUS_PARTNER_READY, b2n (pmRole m == 4 && (beAt b 0 2).testBit 0))]
  s.setPair K.PAIR_PARTNER_SERIAL_LO K.PAIR_PARTNER_SERIAL_HI (beAt b 32 8)

/-- A HELLO shows a mismatch (R416). -/
def State.helloBad (s : State) (m : List Byte) : Bool :=
  let b := pmBody m
  beAt b 2 1 != s.fld F.PAIR_CFG_MODE || beAt b 4 4 != s.data.lfsrSeed || slice b 8 16 != s.buildId || pmUnit m == s.unitId

/-- MISMATCH follows a HELLO. -/
def State.helloMismatch (s : State) (m : List Byte) : State :=
  let s' := if s.helloBad m && !s.flag F.PAIR_STATUS_MISMATCH then s.pairEvent 3 else s
  s'.setFld F.PAIR_STATUS_MISMATCH (b2n (s.helloBad m))

/-- Dual activity that a HELLO shows. -/
def State.helloDual (s : State) (m : List Byte) : State :=
  if s.pairActive && pmRole m == 3 && decide (s.twin.activeSince < pmTime m) then
    s.dualActive (pmUnit m) (beAt (pmBody m) 32 8)
  else s

/-- A HELLO's effects. -/
def State.helloIn (m : List Byte) (s : State) : State :=
  let s := (((s.inc (C.pair 1)).helloNote m).helloMismatch m).helloDual m
  ((s.rejoinHello.serveRejoin ((beAt (pmBody m) 0 2).testBit 0)).joinRule).settleReady

/-- HELLO_RECEIVE. -/
def State.helloReceive (s : State) : State :=
  match s.takePair 1 with
  | none => s
  | some (f, s) => if s.fld F.PAIR_CFG_MODE = 0 then s else s.withTime (State.helloIn f.bytes)

/-- PARTNER_LOSS: no HELLO for LOSS_US. -/
def State.partnerLoss (s : State) : State :=
  if !s.partnerHere then s
  else s.withTime fun s =>
    let s := (s.setFlds [(F.PAIR_STATUS_PARTNER_PRESENT, 0), (F.PAIR_STATUS_PARTNER_READY, 0)]).pairEvent 1
    let s := if s.role = 4 then s.rejoinFail else { s with twin := { s.twin with step := 0, tSync := none } }
    s.joinRule.settleReady

/-! ## Snapshots (R428, R429) -/

/-- The windows whose bucket levels a snapshot holds. -/
def bucketBases : List Nat := [K.SHP_C_LEVEL 0, K.SHP_P_LEVEL 0, K.MTR_C_LEVEL 0, K.MTR_P_LEVEL 0, K.ZPOL_LEVEL 0]

/-- The value of one item. -/
def State.snapValue (s : State) (k : SnapKind) : Int :=
  match k with
  | .delta key => (wordBits (s.reg key) 15 0 : Nat)
  | .bucket key => s.bucket key
  | .avg q => (s.qs q).avg
  | .word key => ((s.reg key).toNat : Nat)
  | .lfsr q => (((if (s.qs q).lfsr = 0 then lfsrInit s.data.lfsrSeed q else (s.qs q).lfsr) : Nat) : Int)
  | .history i => ((s.frerHist i : Nat) : Int)
  | .deadline i => match mapGet (fun _ => none) s.wvr.deadline i with
    | some t => ((t + 1 : Nat) : Int)
    | none => 0

/-- The items that differ from what they are after reset. -/
def State.snapKeys (s : State) : List SnapKind :=
  let keys (base : Nat) : List Nat := (s.listedEntries base).map (fun e => base + 0x100000000 * e)
  (keys (K.SEQG_WIN_CFG 0)).map .delta ++ (bucketBases.flatMap keys).map .bucket ++
    (s.data.qst.map (fun c => c.1)).map .avg ++ (s.data.qst.map (fun c => c.1)).map .lfsr ++
    (keys (K.SEQR_WIN_STATE 0)).map .word ++ (s.data.frerHist.map (fun c => c.1)).map .history ++
    (keys (K.STRM_WIN_FILTER 0)).map .word ++ (keys (K.WVR_PDU_STATE 0)).map .word ++
    ((s.pduList.filter s.pduTx).flatMap (fun i => (List.range 16).map (fun j => K.WVR_IMG j i))).map .word ++
    (s.wvr.deadline.map (fun c => c.1)).map .deadline

/-- The unit's snapshot. -/
def State.snapshot (s : State) : List (SnapKind × Int) := s.snapKeys.map (fun k => (k, s.snapValue k))

/-- A snapshot item as numbers, for a SYNC message. -/
def snapCode : SnapKind × Int → Nat × Nat × Int
  | (.delta k, v) => (0, k, v)
  | (.bucket k, v) => (1, k, v)
  | (.avg k, v) => (2, k, v)
  | (.word k, v) => (3, k, v)
  | (.lfsr k, v) => (4, k, v)
  | (.history k, v) => (5, k, v)
  | (.deadline k, v) => (6, k, v)

/-- And back. -/
def snapKind (c k : Nat) : SnapKind :=
  match c with
  | 0 => .delta k
  | 1 => .bucket k
  | 2 => .avg k
  | 3 => .word k
  | 4 => .lfsr k
  | 5 => .history k
  | _ => .deadline k

/-- SYNC_SNAPSHOT: T_sync is reached. The active unit sends its snapshot; the standby keeps its own and logs. -/
def State.syncSnapshot (s : State) : State :=
  match s.twin.tSync with
  | none => s
  | some t =>
    if s.nowNs < t ∨ s.twin.step ≠ 4 then s
    else if s.pairActive then
      let s := s.pairSend 6 (Config.syncBody (s.snapshot.map snapCode))
      { s with twin := { s.twin with step := 0, tSync := none } }
    else if s.role = 4 then
      { s with twin := { s.twin with snap := s.snapshot, snapping := true, syncLog := [], draws := [], overflow := false,
                                     tSync := none } }
    else s

/-- A value of a snapshot, or of a unit that has the item as after reset. -/
def snapAt (l : List (SnapKind × Int)) (k : SnapKind) (d : Int) : Int :=
  match l.find? (fun c => c.1 == k) with
  | some c => c.2
  | none => d

/-- What an item is after reset. -/
def State.snapReset (s : State) (k : SnapKind) : Int :=
  match k with
  | .word key => ((resetWord key).toNat : Nat)
  | .lfsr q => ((lfsrInit s.data.lfsrSeed q : Nat) : Int)
  | _ => 0

/-- `n` advances of an LFSR. -/
def lfsrRun : Nat → Nat → Nat
  | 0, x => x
  | n + 1, x => lfsrRun n (lfsrStep x)

/-- BURST's register beside a bucket's LEVEL. -/
def burstKey (key : Nat) : Nat :=
  if key % 0x100000000 = K.SHP_C_LEVEL 0 ∨ key % 0x100000000 = K.MTR_C_LEVEL 0 then key - 16
  else if key % 0x100000000 = K.ZPOL_LEVEL 0 then key - 8 else key - 12

/-- One item of the active unit's snapshot is applied (R429). -/
def State.applyItem (s : State) (l : List (SnapKind × Int)) (k : SnapKind) : State :=
  let v := snapAt l k (s.snapReset k)
  let d := v - snapAt s.twin.snap k (s.snapReset k)
  match k with
  | .delta key => s.setReg key (putBits (s.reg key) 15 0 (ofSigned 16 ((wordBits (s.reg key) 15 0 : Nat) + d)))
  | .bucket key => s.setBucket key (min (s.bucket key + d) ((s.burstOf (burstKey key) : Int) * fracUnit))
  | .avg q => s.setQs q { s.qs q with avg := (s.qs q).avg + d }
  | .word key =>
    if key % 0x100000000 = K.STRM_WIN_FILTER 0 then s.setReg key (putBits (s.reg key) 17 17 (bits v.toNat 17 17))
    else if key % 0x100000000 = K.WVR_PDU_STATE 0 then s.setReg key (putBits (s.reg key) 31 31 (bits v.toNat 31 31))
    else s.setReg key (BitVec.ofNat 32 v.toNat)
  | .lfsr q => s.setQs q { s.qs q with lfsr := lfsrRun (mapGet (fun _ => 0) s.twin.draws q) v.toNat }
  | .history i => s.setHist i v.toNat
  | .deadline i =>
    let o := if v = 0 then none else some (v.toNat - 1)
    { s with wvr := { s.wvr with deadline := mapSet (fun _ => none) s.wvr.deadline i o } }

/-- The sync log is run again. -/
def State.rerun (s : State) (e : SyncLog) : State :=
  match e with
  | .unit u => s.doUnit u
  | .judge i q => (s.recover i q).2

/-- SYNC_RECEIVE_PAIR: T_sync, or the snapshot. -/
def State.syncReceivePair (s : State) (tSync : Option Nat) (items : List (Nat × Nat × Int)) : State :=
  match s.takePair 6 with
  | none => s
  | some (_, s) =>
    if s.role ≠ 4 then s
    else match tSync with
      | some t => if s.twin.step = 3 then { s with twin := { s.twin with step := 4, tSync := some t } } else s
      | none =>
        if !s.twin.snapping then s
        else if s.twin.overflow then s.rejoinFail
        else
          let l := items.map (fun c => (snapKind c.1 c.2.1, c.2.2))
          let own := (s.twin.snap.map (fun c => c.1)).filter (fun k => !(l.map (fun c => c.1)).contains k)
          let s := forEach (l.map (fun c => c.1) ++ own) (fun k s => s.applyItem l k) s
          let log := s.twin.syncLog
          let s := { s with twin := { s.twin with snapping := false, snap := [], syncLog := [], draws := [] } }
          let s := forEach log (fun e s => s.rerun e) s
          let s := { s with twin := { s.twin with step := 0, rejoined := true } }
          (s.inc (C.pair 7)).settleReady

end Sys2Proof.Machine
end

