-- ==== Sys2Proof/Machine/Keys.lean ====
section
/-!
DEFINITION. Command execution at the head of the execution queue, key slots and key operations, signing keys, identity
(spec/11, R317 to R329) and the life-cycle transition up to its restart (R336 to R338).
-/

namespace Sys2Proof.Machine

/-! ## Commands in execution (spec/16, R455, R457) -/

/-- The MC runs: not in Calm or in reset, the decision plane is not halted, and the start has reached a state in which
commands are handled; in HW_FAULT only where the recovery monitor can run (spec/02, R64, R66). -/
def State.mcRuns (s : State) : Bool :=
  let st := s.fld F.BOOT_STATUS_STATE
  !s.nm.calm && !s.boot.held && s.saf.mode == .normal && decide (0xA ≤ st) && decide (st ≤ 0xE) && (st != 0xE || s.boot.monitor)

/-- The command in hand, where it has this OPCODE. -/
def State.execHead (s : State) (op : Nat) : Option Cmd :=
  match s.mgt.execQ with
  | c :: _ => if c.opcode = op ∧ s.mcRuns then some c else none
  | [] => none

/-- The command in hand leaves the execution queue. -/
def State.popExec (s : State) : State := { s with mgt := { s.mgt with execQ := s.mgt.execQ.drop 1 } }

/-- The command in hand ends: its COMPLETION entry is appended. -/
def State.endCmd (s : State) (c : Cmd) (status result : Nat) : State :=
  s.confine [.regs, .mgt, .key] (s.popExec.completion c status result)

/-- A class D command ends: COMPLETION, then its response with the result data. -/
def State.endData (s : State) (c : Cmd) (data : List Byte) : State := (s.endCmd c 0 0).answer c 1 data

/-! ## Key slots (R319 to R322) -/

/-- SLOTS_USED counts the slots that are not EMPTY. -/
def State.countSlots (s : State) : State :=
  s.setFld F.KEY_STATUS_SLOTS_USED
    ((s.listedEntries (K.KEY_SLOT_INFO 0)).filter (fun i => s.fld (F.KEY_SLOT_INFO_STATE i) != 0)).length

/-- Writes the pending half of a slot, then its header. -/
def State.setPend (s : State) (i type source : Nat) (key : List Byte) : State :=
  let s := s.setSlot i ((s.slot i).setPend (.of type key))
  let st := s.fld (F.KEY_SLOT_INFO_STATE i)
  ((s.setFlds [(F.KEY_SLOT_PEND_TYPE i, type), (F.KEY_SLOT_PEND_SOURCE i, source), (F.KEY_SLOT_PEND_KCV i, kcvOf key),
    (F.KEY_SLOT_INFO_STATE i, if st = 1 ∨ st = 2 then 2 else 3)]).commitHeader i).countSlots

/-- Zeroises the pending half: the slot falls back to ACTIVE or EMPTY. -/
def State.dropPend (s : State) (i : Nat) : State :=
  let s := (s.setSlot i ((s.slot i).setPend .zero)).setReg (K.KEY_SLOT_PEND i) 0
  let st := s.fld (F.KEY_SLOT_INFO_STATE i)
  ((s.setFld (F.KEY_SLOT_INFO_STATE i) (if st = 1 ∨ st = 2 then 1 else 0)).commitHeader i).countSlots

/-- ACTIVE_HALF is switched in one header commit; then the old active half is overwritten with zeros. -/
def State.promote (s : State) (i : Nat) : State :=
  let s := s.setSlot i (s.slot i).switch
  let s := s.setFlds [(F.KEY_SLOT_INFO_STATE i, 1), (F.KEY_SLOT_INFO_TYPE i, s.fld (F.KEY_SLOT_PEND_TYPE i)),
    (F.KEY_SLOT_INFO_SOURCE i, s.fld (F.KEY_SLOT_PEND_SOURCE i)), (F.KEY_SLOT_INFO_KCV i, s.fld (F.KEY_SLOT_PEND_KCV i))]
  let s := (s.setReg (K.KEY_SLOT_PEND i) 0).commitHeader i
  (s.setSlot i ((s.slot i).setPend .zero)).countSlots

/-- Both halves are overwritten with zeros and the header is committed EMPTY. -/
def State.eraseSlot (s : State) (i : Nat) : State :=
  ((((s.setSlot i .empty).setReg (K.KEY_SLOT_INFO i) 0).setReg (K.KEY_SLOT_PEND i) 0).commitHeader i).countSlots

/-- The length of a key of a TYPE. -/
def keyLen (type : Nat) : Nat := if type = 1 then 16 else 32

/-- A key operation is in progress until KEY_OPERATION_DONE, with the status its completion will have. -/
def State.keyBegin (s : State) (op status : Nat) : State :=
  let s := { s with key := { s.key with keyOp := some (op, status) } }.setFld F.KEY_STATUS_BUSY 1
  if status = 0 then s else s.raiseFlag F.KEY_STATUS_KCV_MISMATCH (beBytes 2 op)

/-- A key is taken into the pending half where its KCV is the one carried. -/
def State.keyTake (s : State) (op i type source kcv : Nat) (key : List Byte) : State :=
  if kcvOf key = kcv then (s.setPend i type source key).keyBegin op 0 else s.keyBegin op 0x17

/-- The command in hand as a key operation that may start: the body's fields. -/
def State.keyHead (s : State) (op : Nat) : Option (Cmd × Nat × Nat × Nat × Nat × Nat × List Byte) :=
  match s.execHead op with
  | none => none
  | some c => if s.key.keyOp.isSome then none else (Config.keyBody op c.body).map (fun b => (c, b))

/-- KEY_LOAD (R321). -/
def State.keyLoad (s : State) : State :=
  match s.keyHead 0x30 with
  | none => s
  | some (c, serial, i, type, _, kcv, wrapped) =>
    if serial ≠ s.serial then s.keyBegin 0x30 0x17
    else match aesUnwrap (s.xportKey c.origin) wrapped with
      | none => s.keyBegin 0x30 0x17
      | some k => if k.length ≠ keyLen type then s.keyBegin 0x30 0x17 else s.keyTake 0x30 i type 0 kcv k

/-- KEY_DERIVE (R321). -/
def State.keyDerive (s : State) : State :=
  match s.keyHead 0x31 with
  | none => s
  | some (_, _, i, type, kdfId, kcv, _) => s.keyTake 0x31 i type 1 kcv (s.sakKey i kdfId type)

/-- KEY_PROMOTE (R321). -/
def State.keyPromote (s : State) : State :=
  match s.keyHead 0x32 with
  | none => s
  | some (_, _, i, _, _, kcv, _) =>
    let st := s.fld (F.KEY_SLOT_INFO_STATE i)
    if st < 2 ∨ kcvOf (s.slot i).pend ≠ kcv then s.keyBegin 0x32 0x17 else (s.promote i).keyBegin 0x32 0

/-- KEY_ERASE (R321). -/
def State.keyErase (s : State) : State :=
  match s.keyHead 0x33 with
  | none => s
  | some (_, _, i, _, _, _, _) => (s.eraseSlot i).keyBegin 0x33 0

/-- KEY_OPERATION_DONE: the operation completes; the next waiting one may start (R322). -/
def State.keyDone (s : State) : State :=
  match s.key.keyOp with
  | none => s
  | some (op, status) =>
    let s := { s with key := { s.key with keyOp := none } }.setFld F.KEY_STATUS_BUSY 0
    match s.execHead op with
    | none => s
    | some c => s.endCmd c status 0

/-- KEY_STATUS.TORN_RESOLVED (R323). -/
def State.tornFlag (s : State) (i : Nat) : State := s.raiseFlag F.KEY_STATUS_TORN_RESOLVED (beBytes 2 i)

/-- Zeroises the halves that the header names as neither active nor pending. -/
def State.wipeUnnamed (s : State) (i : Nat) : State :=
  let st := s.fld (F.KEY_SLOT_INFO_STATE i)
  let k := s.slot i
  let a := if st = 1 ∨ st = 2 then k else k.setAct .zero
  let b := if 2 ≤ st then a else a.setPend .zero
  if b = k then s else (s.setSlot i b).tornFlag i

/-- Resolves one slot: a torn header makes it EMPTY; a pending half whose COMMIT fails or whose KCV differs is zeroised. -/
def State.resolveSlot (i : Nat) (s : State) : State :=
  match (s.twoPhase (recSlot i)).value with
  | none => (s.eraseSlot i).tornFlag i
  | some p =>
    let s := s.loadHeader i p
    let k := s.slot i
    let good := k.pendHalf.good && kcvOf k.pend == s.fld (F.KEY_SLOT_PEND_KCV i)
    (if 2 ≤ s.fld (F.KEY_SLOT_INFO_STATE i) ∧ !good then (s.dropPend i).tornFlag i else s).wipeUnnamed i

/-- What a loss of power left in MRAM, before a start reads it: writes of records that it cut, slot headers with no verifying
frame, pending halves whose COMMIT fails, and keys in halves that no header names yet (R318, R323). -/
def State.powerCut (s : State) (env : StartEnv) : State :=
  let s := forEach env.cut (fun n s => s.setTwoPhase n ((s.twoPhase n).cut (Config.cutPayload n (s.twoPhase n).nextSeq))) s
  let s := forEach env.torn (fun i s => s.setTwoPhase (recSlot i) (s.twoPhase (recSlot i)).tear) s
  let s := forEach env.tornHalf (fun i s => s.setSlot i ((s.slot i).setPend { (s.slot i).pendHalf with commit := [] })) s
  forEach env.stray (fun i s =>
    let st := s.fld (F.KEY_SLOT_INFO_STATE i)
    if 2 ≤ st then s else s.setSlot i ((s.slot i).setPend (.of 2 (Config.strayKey i)))) s

/-- Each slot that holds something is resolved (R323). -/
def State.resolveSlots (s : State) : State :=
  let listed := s.key.slots.map (fun c => c.1) ++ s.key.records.map (fun c => c.1 - 1024)
  forEach ((List.range 512).filter (fun i => listed.contains i)) State.resolveSlot s

/-- A start reads a record that has been written. -/
def State.loadRec (n : Nat) (s : State) : State :=
  match (s.twoPhase n).value with
  | none => s
  | some p =>
    if n < 5 then { s with boot := { s.boot with rollback := mapSet (fun _ => 0) s.boot.rollback n (beAt p 0 4) } }
    else if n = recIntent then
      { s with key := { s.key with intent := if beAt p 0 1 = 0 then none else some (beAt p 1 1, slice p 2 32) } }
    else if n = recSeal then { s with boot := { s.boot with fwSeal := some ⟨beAt p 0 1, slice p 5 32, beAt p 1 4⟩ } }
    else if n < 11 then s.setPair (K.LMS_NEXT_LO (n - 8)) (K.LMS_NEXT_HI (n - 8)) (beAt p 0 8)
    else if n < 128 then s.setFld (F.CMD_GEN_GEN (n - 64)) (beAt p 0 2)
    else s

/-- A start reads the records other than slot headers. -/
def State.loadRecs (s : State) : State :=
  forEach ((s.key.records.map (fun c => c.1)).filter (fun n => decide (n < 1024))) State.loadRec s

/-- SLOT_DERIVE at application (R340): unchanged where the active KCV and TYPE match. -/
def State.slotDerive (s : State) (i type kdfId kcv : Nat) : State :=
  if s.fld (F.KEY_SLOT_INFO_KCV i) = kcv ∧ s.fld (F.KEY_SLOT_INFO_TYPE i) = type then s
  else (s.setPend i type 1 (s.sakKey i kdfId type)).promote i

/-- CMD_KEY_ADVANCE ends: CMD_GEN rose at its acceptance (`State.raiseGen`); LAST_SEQ is 0 when the completion is journaled
(R317; spec/16, R453). -/
def State.cmdKeyAdvance (s : State) : State :=
  match s.execHead 0x34 with
  | none => s
  | some c =>
    (s.endCmd c 0 0).setFld (F.MGT_LAST_SEQ_SEQ c.origin) 0

/-! ## Signing keys (R324 to R326) -/

/-- NEXT of a key. -/
def State.lmsNext (s : State) (k : Nat) : Nat := s.pair (K.LMS_NEXT_LO k) (K.LMS_NEXT_HI k)

/-- A request can be served: the unit is not RETIRED (R316), the key is READY and not EXHAUSTED, and the level-1 tree of its next leaf pair is there. -/
def State.signable (s : State) (r : SignReq) : Bool :=
  decide (s.lcState < 4) && s.flag (F.LMS_STATUS_READY r.key) && !s.flag (F.LMS_STATUS_EXHAUSTED r.key) &&
    (s.lmsNext r.key % 0x100000 != 0 || s.lmsNext r.key == 0 || s.flag (F.LMS_STATUS_NEXT_TREE r.key))

/-- The kid of a statement: the first 16 B of the SHA-256 of the ID public key for an attestation, none otherwise. -/
def State.kidOf (s : State) (what : SignFor) : List Byte :=
  match what with
  | .attest _ => (sha256 (s.lmsPublic 0 s.lcState)).take 16
  | _ => []

/-- Commits NEXT = q + 1 before the signature with leaf pair q is released (R325). -/
def State.takeLeaf (s : State) (k : Nat) : State :=
  let q := s.lmsNext k
  let s := if q % 0x100000 = 0 then s.setFld (F.LMS_STATUS_NEXT_TREE k) 0 else s
  let s := (s.setPair (K.LMS_NEXT_LO k) (K.LMS_NEXT_HI k) (q + 1)).writeRec (recLms k) (beBytes 8 (q + 1))
  if q + 1 = 2 ^ 40 then s.setFld (F.LMS_STATUS_EXHAUSTED k) 1 else s

/-- The CHECKPOINT command in hand ends when its statement is signed (spec/16, R461). -/
def State.endCheckpoint (s : State) (j : Nat) : State :=
  if s.mgt.cpWait = some j then
    match s.execHead 0x61 with
    | some c => { s with mgt := { s.mgt with cpWait := none } }.endData c (beBytes 8 j)
    | none => s
  else s

/-- A signed statement goes to what asked for it. -/
def State.deliverSigned (s : State) (what : SignFor) (cose : List Byte) : State :=
  match what with
  | .checkpoint j =>
    let l := s.mgt.statements.map (fun st => if st.jseq = j then { st with signed := some cose } else st)
    let s := { s with mgt := { s.mgt with statements := l } }
    s.endCheckpoint j
  | .attest c => { s with mgt := { s.mgt with attesting := false } }.endData c cose
  | .batch first last =>
    let sigs := ((first, last, cose) :: s.ldg.signatures).take 128
    let busy := if s.ldg.signing = some last then none else s.ldg.signing
    let s := { s with ldg := { s.ldg with signatures := sigs, unsigned := last + 1, signing := busy } }
    s.setFld F.LDG_SIGNED_INDEX last
  | .transition =>
    let t := s.key.transition.map (fun t => { t with step := 5 })
    { s with key := { s.key with statements := s.key.statements ++ [cose], transition := t } }

/-- SIGNATURE_RELEASE: the first request whose key can sign is served (R326). -/
def State.signNext (s : State) : State :=
  match s.key.signQ.find? s.signable with
  | none => s
  | some r =>
    let q := s.lmsNext r.key
    let kid := s.kidOf r.what
    let s := ({ s with key := { s.key with signQ := s.key.signQ.erase r } }).takeLeaf r.key
    s.deliverSigned r.what (coseSign1 kid r.payload (s.lmsSignature r.key q (coseToSign kid r.payload)))

/-- SIGNING_KEY_READY: a key's first generation in a state has ended; what waited for it is signed from now on.
In RETIRED no key is derived (R316). -/
def State.keyReady (s : State) (k : Nat) : State :=
  if 4 ≤ s.lcState then s else
  let s := s.setFld (F.LMS_STATUS_READY k) 1
  if k = 1 then s.setFld F.JRN_STATUS_SIGN_WAIT 0 else if k = 2 then s.setFld F.LDG_STATUS_SIGN_WAIT 0 else s

/-- LMS_TREE_READY: the next level-1 tree has been generated, from the first use of the current one. -/
def State.treeReady (s : State) (k : Nat) : State :=
  if s.flag (F.LMS_STATUS_READY k) ∧ s.lmsNext k % 0x100000 ≠ 0 then s.setFld (F.LMS_STATUS_NEXT_TREE k) 1 else s

/-! ## Identity (R328, R329) -/

/-- The payload of an attestation. -/
def State.attestPayload (s : State) (nonce : List Byte) : List Byte :=
  let slots := (List.range 512).filter (fun i => s.fld (F.KEY_SLOT_INFO_STATE i) != 0)
  let chain := s.lastChain
  cborMap [(1, cborBytes nonce), (2, cborUint s.serial), (3, cborUint (s.fld F.GLB_ID_REVISION)), (4, cborUint s.lcState),
    (5, cborUint (s.fld F.FW_VERSION_FW_VERSION)), (6, cborBytes s.boot.fwDigest),
    (7, cborUint (s.fld F.BOOT_IMAGE_VER_VERSION)), (8, cborBytes s.boot.digest), (9, cborUint (s.fld F.BOOT_STATUS_SOURCE)),
    (10, cborUint (s.fld F.BOOT_ROLLBACK_ROLLBACK_MIN)),
    (11, cborArray [cborUint (s.pair K.JRN_HEAD_LO K.JRN_HEAD_HI), cborBytes chain]),
    (12, cborUint (s.fld F.LDG_NEXT_INDEX - 1)),
    (13, cborArray [cborUint (secOf s.nowNs), cborUint (nsOf s.nowNs), cborUint s.servoState]),
    (14, cborArray (slots.map (fun i => cborArray [cborUint i, cborUint (s.fld (F.KEY_SLOT_INFO_KCV i))]))),
    (15, cborUint (s.reg K.BOOT_STATUS).toNat)]

/-- ATTEST: the signature of the ID key is requested; the command ends when it is released. -/
def State.attest (s : State) : State :=
  match s.execHead 0x35 with
  | none => s
  | some c =>
    if s.mgt.attesting then s
    else { s with mgt := { s.mgt with attesting := true } }.requestSign 0 (.attest c) (s.attestPayload c.body)

/-- CERT_READ: the certificate, or the n-th transition statement. -/
def State.certRead (s : State) : State :=
  match s.execHead 0x37 with
  | none => s
  | some c =>
    let n := beAt c.body 0 4
    s.endData c (if n = 0 then s.key.cert else (s.key.statements[n - 1]?).getD [])

/-! ## Life cycle (R336 to R338) -/

/-- Step 4's statement (R328). -/
def State.transitionPayload (s : State) (t : Transition) : List Byte :=
  cborMap ([(1, cborUint s.serial), (2, cborUint s.lcState), (3, cborUint t.target)] ++
    (if t.target = 4 then [] else [(4, cborBytes (s.lmsPublic 0 t.target))]) ++
    [(5, cborBytes t.hash), (6, cborBytes (sha256 t.record)), (7, cborUint t.jseq)])

/-- Step 6: IMG_KEY_HASH of the target is programmed. -/
def State.lcHash (s : State) (target : Nat) (hash : List Byte) : State :=
  let h := if target = 4 then s.key.imgHash else mapSet (fun _ => []) s.key.imgHash target hash
  { s with key := { s.key with imgHash := h } }

/-- Steps 6 to 8: the new hash and the LC fuse are programmed, and what the old state's keys gave is zeroised. -/
def State.lcProgram (s : State) (target : Nat) (hash : List Byte) : State :=
  let s := s.lcHash target hash
  let s := s.setFld F.LCS_STATUS_STATE target
  let s := forEach (List.range 512) (fun i s => if s.fld (F.KEY_SLOT_INFO_STATE i) = 0 then s else s.eraseSlot i) s
  let s := forEach [0, 1, 2] (fun k s => (s.setReg (K.LMS_STATUS k) 0).setPair (K.LMS_NEXT_LO k) (K.LMS_NEXT_HI k) 0) s
  let s := forEach (List.range 64) (fun o s => (s.setFld (F.CMD_GEN_GEN o) 0).setFld (F.MGT_LAST_SEQ_SEQ o) 0) s
  let s := s.dropRecs (fun n => within n 8 127 || decide (1024 ≤ n) || n == recIntent)
  let s := s.writeRec (recRollback target) (beBytes 4 0)
  { s with
    boot := { s.boot with rollback := mapSet (fun _ => 0) s.boot.rollback target 0 },
    key := { s.key with intent := none, transition := none },
    ldg := { s.ldg with saved := [0, 0, 0, 0], savedResidual := [], record := .blank } }

/-- R338, at a start: a transition whose intent has committed is completed. -/
def State.lcResume (s : State) : State :=
  match s.key.intent with
  | none => s
  | some (target, hash) => (s.lcProgram target hash).raiseFlag F.LCS_STATUS_RESUMED (beBytes 1 target)

/-- Steps 1 and 2 of LC_ADVANCE. -/
def State.lcBegin (s : State) (c : Cmd) (target : Nat) (hash : List Byte) : State :=
  let s := s.setFlds [(F.LCS_STATUS_TRANSITION, 1), (F.LCS_STATUS_TARGET, target)]
  let s := s.ldgAppend 3
  { s with key := { s.key with transition := some ⟨target, hash, c.jseq, 2, s.ldg.records.headD []⟩ } }

/-- The handover batch still waits for its signature. -/
def State.batchWaits (s : State) : Bool := s.key.signQ.any (fun r => match r.what with
  | .batch _ _ => true
  | _ => false)

/-- Steps 2 to 5, each when the signature before it has been released; requests ahead are served in order. True where
the intent has committed. -/
def State.lcSteps (s : State) : Nat → State × Bool
  | 0 => (s, false)
  | fuel + 1 =>
    match s.key.transition with
    | none => (s, false)
    | some t =>
      if t.step = 2 then
        if s.batchWaits then
          (if s.key.signQ.any s.signable then s.signNext.lcSteps fuel else (s, false))
        else
          let s := { s with key := { s.key with transition := some { t with step := 4 } } }
          (s.requestSign 0 .transition (s.transitionPayload t)).lcSteps fuel
      else if t.step = 4 then
        (if s.key.signQ.any s.signable then s.signNext.lcSteps fuel else (s, false))
      else
        (({ s with key := { s.key with intent := some (t.target, t.hash) } }).writeRec recIntent (beBytes 1 1 ++ beBytes 1 t.target ++ t.hash), true)

end Sys2Proof.Machine
end

