-- ==== Sys2Proof/Machine/Reset.lean ====
section
/-!
DEFINITION. Scratchpad banks and their handover, and the reset groups (spec/17, R482 to R488, R500 to R503).
-/

namespace Sys2Proof.Machine

/-! ## Banks (R485 to R488) -/

/-- OWNER and STATE of a bank: 0 FREE, 1 MC, 2 BRIDGE; 0 STABLE, 1 DRAINING, 2 CLEARING. -/
def State.bankOwner (s : State) (b : Nat) : Nat := s.fld (F.BANK_OWNER_OWNER b)
def State.bankState (s : State) (b : Nat) : Nat := s.fld (F.BANK_OWNER_STATE b)

/-- The bank that holds an offset of the scratchpad (R483). -/
def bankOf (offset : Nat) : Nat := offset / 0x20000

/-- The BRIDGE owns a bank and no handover of it runs. -/
def State.bridgeOwns (s : State) (b : Nat) : Bool := s.bankOwner b == 2 && s.bankState b == 0

/-- A write of HANDOVER = 1 with the new owner in TARGET (R487). -/
def State.handover (s : State) (b target : Nat) : State :=
  if s.bankState b ≠ 0 then s.setFld (F.BANK_OWNER_ERR_BUSY b) 1
  else
    let s := s.setFld (F.BANK_OWNER_TARGET b) target
    if (s.fld F.BANK_STATUS_RESERVED).testBit b || target == 3 || target == s.bankOwner b then s.setFld (F.BANK_OWNER_REJECT b) 1
    else s.setFld (F.BANK_OWNER_STATE b) 1

/-- A posted write of this unit to a bank is in flight. -/
def State.bankInUse (s : State) (b : Nat) : Bool :=
  s.mgt.posted.any (fun p => !p.sent && decide (0x400000 + 0x20000 * b ≤ p.addr) && decide (p.addr < 0x420000 + 0x20000 * b))

/-- BANK_DRAIN_DONE: the old owner's operations have ended (R488, step 3). -/
def State.bankDrained (s : State) (b : Nat) : State :=
  if s.bankState b = 1 ∧ s.bankInUse b = false then s.setFld (F.BANK_OWNER_STATE b) 2 else s

/-- BANK_CLEAR_DONE: every word is 0 and the bank passes to its new owner (R488, step 4). -/
def State.bankCleared (s : State) (b : Nat) : State :=
  if s.bankState b = 2 then
    (s.clearMem (0x20000 * b) (0x20000 * (b + 1))).setFlds
      [(F.BANK_OWNER_OWNER b, s.fld (F.BANK_OWNER_TARGET b)), (F.BANK_OWNER_STATE b, 0), (F.BANK_OWNER_DONE b, 1)]
  else s

/-! ## Reset groups (R500 to R502) -/

/-- RST_CTRL holds a group, or does not. -/
def State.setRstHeld (s : State) (g : Nat) (b : Bool) : State :=
  let f : Fld := ⟨K.RST_HELD (g / 32), g % 32, g % 32⟩
  s.setFld f (b2n b)

/-- An MDIO master's shift logic and poll state are reset; its status returns to its reset value. -/
def State.mdioReset (s : State) (m : Nat) : State :=
  (((s.setMdio m none).setMdioWait m none).setMdioPolls m []).setReg (K.MDIO_STATUS m) 0

/-- A group is held in soft reset (R501). -/
def State.holdGroup (s : State) (g : Nat) : State :=
  let s := s.withStandbyAll (fun s => s.setRstHeld g true)
  if g < 34 then s.portReset g else if g < 66 then s.chanReset (g - 34) else s.mdioReset (g - 66)

/-- A group's soft hold ends; it runs where its port or channel is not asleep. -/
def State.releaseGroup (s : State) (g : Nat) : State :=
  if s.rstHeld g then
    let s := s.withStandbyAll (fun s => s.setRstHeld g false)
    if g < 34 then s.relink g else if g < 66 then s.chanStart (g - 34) else s.mdioNext (g - 66)
  else s

/-- A write of RST_CTRL with OP: ERR_BUSY while one runs; a GROUP above 67 has no effect (R502). -/
def State.rstOp (s : State) (g : Nat) (f : State → State) : State :=
  if s.flag F.RST_CTRL_BUSY then s.setFld F.RST_CTRL_ERR_BUSY 1 else if 67 < g then s else f s

/-- PULSE: the group is held for 1 µs; BUSY until RESET_PULSE_END. -/
def State.rstPulse (s : State) (g : Nat) : State :=
  s.rstOp g (fun s => { (s.holdGroup g).setFld F.RST_CTRL_BUSY 1 with mgt := { (s.holdGroup g).mgt with pulsing := some g } })

/-- HOLD and RELEASE. -/
def State.rstHold (s : State) (g : Nat) : State := s.rstOp g (fun s => s.holdGroup g)
def State.rstRelease (s : State) (g : Nat) : State := s.rstOp g (fun s => s.releaseGroup g)

/-- RESET_PULSE_END: the 1 µs of a PULSE ends. -/
def State.rstPulseEnd (s : State) : State :=
  match s.mgt.pulsing with
  | none => s
  | some g => ({ s with mgt := { s.mgt with pulsing := none } }.setFld F.RST_CTRL_BUSY 0).releaseGroup g

end Sys2Proof.Machine
end

