-- ==== Sys2Proof/Machine/BusRead.lean ====
section
/-!
DEFINITION. Reads of the register space: where an address lies, windows and their index registers, snapshot pairs, the
fields that follow the state, and reads with an effect (spec/00, R9; spec/18, R504 to R511).
-/

namespace Sys2Proof.Machine

/-! ## Where an address lies (R504, R505) -/

/-- The 79 register pages, by address bits 31:12 (R504). -/
def regPage (g : Nat) : Bool :=
  g == 0x0 || g == 0x10 || g == 0x20 || (decide (0x40 ≤ g) && decide (g ≤ 0x62)) || g == 0x7F ||
  (decide (0x80 ≤ g) && decide (g ≤ 0x82)) || g == 0xC0 || g == 0xC1 || g == 0xCF || g == 0x100 || g == 0x101 ||
  g == 0x140 || g == 0x141 || (decide (0x180 ≤ g) && decide (g ≤ 0x187)) || g == 0x1C0 || g == 0x1C1 ||
  g == 0x200 || g == 0x201 || (decide (0x208 ≤ g) && decide (g ≤ 0x20A)) || g == 0x240 || g == 0x260 ||
  g == 0x280 || g == 0x281 || g == 0x28F || g == 0x2C0 || g == 0x2C1 || g == 0x2CF || g == 0x300 || g == 0x301 ||
  (decide (0x340 ≤ g) && decide (g ≤ 0x342)) || g == 0x34F || g == 0x380

/-- The six NOPREFETCH pages. -/
def noPrefetch (g : Nat) : Bool := [0xCF, 0x140, 0x1C0, 0x28F, 0x2CF, 0x34F].contains g

/-- ATTR of a page: 0 none, 1 PREFETCH, 2 NOPREFETCH, 3 partner window (R511). -/
def pageAttr (g : Nat) : Nat :=
  if noPrefetch g then 2 else if regPage g then 1
  else if 0x400 ≤ g ∧ g < 0x800 then 1 else if 0x1000 ≤ g ∧ g < 0x2000 then 3 else 0

/-- What an address names. -/
inductive Place where
  /-- a register page -/
  | register
  /-- the scratchpad window, with the offset in it -/
  | scratch (offset : Nat)
  /-- the partner window, with the partner's address -/
  | partner (addr : Nat)
  /-- nothing -/
  | outside
  deriving DecidableEq, Repr

def placeOf (a : Nat) : Place :=
  if regPage (a / 0x1000) then .register
  else if 0x400000 ≤ a ∧ a < 0x800000 then .scratch (a - 0x400000)
  else if 0x1000000 ≤ a ∧ a < 0x2000000 then .partner (a - 0x1000000)
  else .outside

/-! ## Counters and pairs (R9) -/

/-- The blocks of counters: first LO, blocks, stride and counters of each. -/
def counterBlocks : List (Nat × Nat × Nat × Nat) :=
  [(0x40100, 35, 0x1000, 16), (0x82000, 1, 1, 11), (0xC1000, 1, 1, 20), (0x101000, 1, 1, 13), (0x141000, 1, 1, 11),
   (0x180100, 32, 0x400, 12), (0x1C1000, 1, 1, 14), (0x201000, 1, 1, 3), (0x208100, 10, 0x400, 9), (0x281000, 1, 1, 12),
   (0x2C1000, 1, 1, 15), (0x301000, 1, 1, 15), (0x340800, 1, 1, 14)]

/-- An address lies in copies of a range of `size` bytes at a base and stride. -/
def inCopies (a base count stride size : Nat) : Bool :=
  decide (base ≤ a) && decide ((a - base) / stride < count) && decide ((a - base) % stride < size)

/-- An address is a half of a counter. -/
def isCounter (a : Nat) : Bool :=
  a % 4 == 0 && counterBlocks.any (fun (b, n, st, k) =>
    if n = 1 then decide (b ≤ a) && decide (a < b + 8 * k) else inCopies a b n st (8 * k))

/-- The LO registers of the snapshot pairs that are no counters: base, copies and stride. TCAM hit counters, times of
captures and FDB_KEY are not among them: a pair that another register's read captures is no snapshot pair. -/
def snapPairs : List (Nat × Nat × Nat) :=
  [(0x100110, 1, 1), (0x100130, 1, 1), (0x100148, 1, 1), (0x140020, 1, 1), (0x140088, 1, 1), (0x140390, 1, 1),
   (0x140408, 4, 0x20), (0x208010, 10, 0x400), (0x208028, 10, 0x400), (0x208030, 10, 0x400), (0x240008, 1, 1),
   (0x240044, 3, 0x10), (0x260020, 4, 0x8), (0x280020, 1, 1), (0x2C0018, 1, 1), (0x300020, 1, 1), (0x340008, 1, 1),
   (0x341008, 1, 1), (0x341010, 1, 1), (0x341020, 1, 1)]

/-- An address is the LO half of a snapshot pair of registers. -/
def isPairLo (a : Nat) : Bool := snapPairs.any (fun (b, n, st) => decide (b ≤ a) && (a - b) % st == 0 && decide ((a - b) / st < n))

/-- An address is the LO half of a snapshot pair of any kind, or its HI half. -/
def isLo (a : Nat) : Bool := (isCounter a && a % 8 == 0) || a == 0x81118 || isPairLo a
def isHi (a : Nat) : Bool := decide (4 ≤ a) && isLo (a - 4)

/-! ## Windows (R512) -/

/-- The entry that the index register of a window selects. -/
def State.winIndex (s : State) (a : Nat) : Nat :=
  let within (lo hi : Nat) : Bool := decide (lo ≤ a) && decide (a ≤ hi)
  if within 0xC0040 0xC004F then s.fld F.VLAN_WIN_INDEX_VID
  else if within 0xC0054 0xC005B then s.fld F.MCG_WIN_INDEX_INDEX
  else if within 0xC0064 0xC006F then s.fld F.QUE_WIN_INDEX_INDEX
  else if within 0xC0080 0xC00BF then s.fld F.LAG_WIN_INDEX_GROUP
  else if within 0x100004 0x10002B then s.fld F.SCH_QUE_INDEX_INDEX
  else if within 0x100104 0x100153 then s.fld F.GATE_WIN_PORT_PORT
  else if within 0x100164 0x10016B then gateKey (s.fld F.GATE_WIN_PORT_PORT) (s.fld F.GATE_WIN_ENTRY_LIST) (s.fld F.GATE_WIN_ENTRY_INDEX)
  else if within 0x100204 0x100223 then s.fld F.STRM_WIN_INDEX_INDEX
  else if within 0x100304 0x10030F then s.fld F.FRER_WIN_INDEX_INDEX
  else if within 0x186000 0x187FFF then
    let n := (a - 0x186000) / 0x400
    if a % 0x400 = 0x84 then s.fld (F.LIN_SCHED_INDEX_INDEX n) else if a % 0x400 = 0x8C then s.fld (F.LIN_FRAME_INDEX_ID n) else 0
  else if within 0x1C0014 0x1C0017 || within 0x1C0040 0x1C00BF then s.fld F.WVR_PDU_INDEX_INDEX
  else if within 0x1C0120 0x1C013F then s.fld F.WVR_RT_INDEX_INDEX
  else if within 0x1C0144 0x1C0147 then 256 * s.fld F.WVR_ENUM_INDEX_TABLE + s.fld F.WVR_ENUM_INDEX_ENTRY
  else if within 0x1C0184 0x1C018B || within 0x1C01C0 0x1C01FF then s.fld F.WVR_CAR_INDEX_INDEX
  else if within 0x1C0204 0x1C0207 then s.fld F.WVR_SND_INDEX_INDEX
  else if within 0x200804 0x200813 then s.fld F.ZPOL_INDEX_INDEX
  else if within 0x208000 0x20AFFF then
    (if 0x24 ≤ a % 0x400 ∧ a % 0x400 ≤ 0x47 then s.fld (F.SEC_SA_INDEX_SA ((a - 0x208000) / 0x400)) else 0)
  else if within 0x240034 0x24003B then s.fld F.KEY_SLOT_INDEX_SLOT
  else if within 0x280184 0x280193 then s.fld F.NM_MBR_INDEX_INDEX
  else if within 0x2C0084 0x2C009B then 256 * s.fld F.LEE_WIN_INDEX_KIND + s.fld F.LEE_WIN_INDEX_INDEX
  else if within 0x34001C 0x34001F then s.fld F.MGT_SEQ_INDEX_ORIGIN
  else 0

/-- The register at an address with the key it shows now: none where no register is, or its index names no entry. -/
def State.regHere (s : State) (a : Nat) : Option (RegDesc × Nat) :=
  match regAt a with
  | none => none
  | some (d, _) =>
    if d.win = 1 then some (d, a)
    else if s.winIndex a < d.win then some (d, a + 0x100000000 * s.winIndex a) else none

/-- A window register is there for the window's present index; else it reads 0 and ignores writes. -/
def State.winHere (s : State) (a : Nat) : Bool := (s.regHere a).isSome

/-! ## Fields that follow the state -/

/-- The TCAM window's words (spec/04, R131). -/
def State.clsRead (s : State) (a : Nat) : Word :=
  let e := s.tcamAt s.clsIndex
  let o := a - 0x81000
  if o < 0x50 then e.key.getD (o / 4) 0
  else if 0x80 ≤ o ∧ o < 0xD0 then e.mask.getD ((o - 0x80) / 4) 0
  else if 0x100 ≤ o ∧ o < 0x10C then e.act.getD ((o - 0x100) / 4) 0
  else if o = 0x110 then BitVec.ofNat 32 (b2n e.valid + 2 * e.gen)
  else 0

/-- GLB_STATUS (R511). -/
def State.glbStatus (s : State) : Nat :=
  let st := s.fld F.BOOT_STATUS_STATE
  s.role * 0x1000000 + s.lcState * 0x100000 + b2n (st == 0xA) * 32 + b2n s.lull * 16 + b2n (s.flag F.PAIR_STATUS_HOLD_OUT) * 8 +
    b2n s.evtPin * 4 + b2n (st != 0xB) * 2 + b2n (st == 0xB)

/-- SCH_QUE_STATUS (spec/06, R204). -/
def State.queStatus (s : State) (q : Nat) : Nat :=
  let p := qPort q
  let n := qNum q
  let wait := match s.queue q with
    | c :: _ => !s.launchReached c
    | [] => false
  let m := match s.maxOpen p n with
    | none => 0xFFFFFF
    | some ns => min 0xFFFFFF (ns / 1000)
  b2n (s.flag (F.SCH_QUE_STATUS_ELIGIBLE q)) * 2 ^ 31 + b2n (s.gateOpen p n s.nowNs) * 2 ^ 30 + b2n wait * 2 ^ 29 + m

/-- The state of LAG slots (spec/05, R148): UP in bits 19:16 of LAG_SEL. -/
def State.lagUp (s : State) (g : Nat) : Nat := listMask (s.upSlots g)

/-- A word of a Lee entry, word 0 with the index as written (spec/14, R411). -/
def State.leeRead (s : State) (e j : Nat) : Word :=
  let l := if e < 256 then s.saf.streams else if e < 512 then s.saf.frames else s.saf.routes
  match l.find? (fun c => c.1 == e % 256) with
  | some (_, w) => w.getD j 0
  | none => 0

/-- A register's value where part of it follows the state; none where the register holds all of it. -/
def State.shown (s : State) (a e : Nat) (w : Word) : Option Word :=
  let nat (n : Nat) : Option Word := some (BitVec.ofNat 32 n)
  if a = K.GLB_STATUS then nat s.glbStatus
  else if a = K.GLB_PAGE_INFO then nat (pageAttr (s.fld F.GLB_PAGE_INDEX_PAGE))
  else if a = 0x100028 then nat (s.queStatus e)
  else if a = 0xC006C then nat (b2n (s.qs e).quar * 2 ^ 31 + s.queueCells e)
  else if 0xC0300 ≤ a ∧ a < 0xC0340 ∧ a % 8 = 4 then some (putBits w 19 16 (s.lagUp ((a - 0xC0300) / 8)))
  else if a = K.NM_STATE then some (putBits w 0 0 (b2n s.lull))
  else if 0x280080 ≤ a ∧ a < 0x2800C0 then
    let g := (a - 0x280080) / 4
    some (putBits (putBits (putBits w 31 31 (b2n (s.asleep g))) 29 29 (b2n (s.hardMask.testBit g))) 15 0 (s.awakeSeconds g))
  else if a = K.NM_WAKE then some (putBits w 16 16 (b2n (s.nm.waking != 0)))
  else if a = K.WVR_STATUS then nat s.wvr.units.length
  else if a = K.MGT_STATUS then nat (s.mgt.events.length * 0x10000 + s.mgt.cmdQ.length)
  else if a = K.BRG_STATUS then
    some (putBits (putBits w 24 16 s.mgt.posted.length) 6 0 (b2n s.mgt.run.isSome))
  else if a = K.LCS_STATUS then some (putBits w 8 8 (b2n (s.lcState == 0)))
  else if a = K.TIME_NOW_FRAC then nat (s.time.capNow % fracPerNs / 0x1000000)
  else if a = K.TIME_NOW_S_LO then nat (secOf (s.time.capNow / fracPerNs))
  else if a = K.TIME_NOW_S_HI then nat (secOf (s.time.capNow / fracPerNs) / 0x100000000)
  else if a = K.PPS_IN_STAMP_S_LO then nat (secOf (s.time.capPps / fracPerNs))
  else if a = K.PPS_IN_STAMP_S_HI then nat (secOf (s.time.capPps / fracPerNs) / 0x100000000)
  else if a = K.WVR_PDU_STAMP_S_LO then nat (secOf s.wvr.capStamp)
  else if a = K.WVR_PDU_STAMP_S_HI then nat (secOf s.wvr.capStamp / 0x100000000)
  else if 0x2C0084 ≤ a ∧ a < 0x2C009C then some (s.leeRead e ((a - 0x2C0084) / 4))
  else none

/-- The value that an address of a register page has, without any effect of reading it; unoccupied ones read 0. -/
def State.peek (s : State) (a : Nat) : Word :=
  if isCounter a then (s.cnt (a - a % 8)).setWidth 32
  else if 0x81000 ≤ a ∧ a < 0x81118 then s.clsRead a
  else match s.regHere a with
    | none => 0
    | some (_, k) => (s.shown a (k / 0x100000000) (s.reg k)).getD (s.reg k)

/-! ## Reads with an effect (R9, R507) -/

/-- The 64-bit value of the pair whose LO half is at an address. -/
def State.pairAt (s : State) (a : Nat) : Word64 :=
  if isCounter a then s.cnt a
  else if a = 0x81118 then (s.tcamAt s.clsIndex).hit
  else (s.peek (a + 4)).setWidth 64 <<< 32 ||| (s.peek a).setWidth 64

/-- A read of a LO half captures the pair (R9). -/
def State.readLo (s : State) (a : Nat) : State :=
  let v := s.pairAt a
  { s.setCapture a v with busData := v.setWidth 32 }

/-- Takes the oldest entry of a FIFO, or what an empty one reads. -/
def popWord (l : List Word) (empty : Word) : Word × List Word :=
  match l with
  | [] => (empty, [])
  | w :: r => (w, r)

/-- A read of BUF_QLOG. -/
def State.popBufLog (s : State) : State :=
  let r := popWord s.bufLog 0
  { s with bufLog := r.2, busData := r.1 }

/-- A read of NM_LOG. -/
def State.popNmLog (s : State) : State :=
  let r := popWord s.nmLog 0x00FF0000
  { s with nmLog := r.2, busData := r.1 }

/-- A read of SAF_LOG. -/
def State.popSafLog (s : State) : State :=
  let r := popWord s.safLog 0
  { s with safLog := r.2, busData := r.1 }

/-- A read of BRG_PWFL: the entry's address and time are latched, 0 where the log is empty (spec/16, R480). -/
def State.popPwfl (s : State) : State :=
  let latch (s : State) (addr time : Nat) : State :=
    (((s.setReg K.BRG_PWFL_ADDR (BitVec.ofNat 32 addr)).setFld F.BRG_PWFL_TIME_NS_TIME (nsOf time)).setPair
      K.BRG_PWFL_TIME_S_LO K.BRG_PWFL_TIME_S_HI (secOf time))
  match s.mgt.pwfl with
  | [] => { latch s 0 0 with busData := 0 }
  | e :: r =>
    let s := latch s e.addr e.time
    { s with mgt := { s.mgt with pwfl := r }, busData := BitVec.ofNat 32 (e.cause * 0x1000000 + e.tag) }

/-- A read of EVT_POP: the oldest event is acknowledged and its body is latched (spec/16, R473, R480). -/
def State.popEvent (s : State) : State :=
  let latch (s : State) (b : List Byte) : State :=
    forEach (List.range 12) (fun j s => s.setReg (K.EVT_DATA j) (BitVec.ofNat 32 (beAt b (4 * j) 4))) s
  match s.mgt.events with
  | [] => { latch s (List.replicate 48 0) with busData := 0 }
  | e :: r =>
    let s := latch s e.body
    { s with mgt := { s.mgt with events := r }, busData := BitVec.ofNat 32 (e.code * 0x10000 + e.seq % 0x10000) }

/-- A read of an address of a register page, with its effect. The word read is left in `busData`. -/
def State.busRead (s : State) (a : Nat) : State :=
  s.confine [.regs, .cnts, .caps, .busData, .bufLog, .nmLog, .safLog, .data, .time, .mgt, .nm, .wvr, .twin] (
    if a = K.BUF_QLOG then s.popBufLog
    else if a = K.NM_LOG then s.popNmLog
    else if a = K.SAF_LOG then s.popSafLog
    else if a = K.BRG_PWFL then s.popPwfl
    else if a = K.EVT_POP then s.popEvent
    else if a = K.TIME_NOW_NS then s.captureNow
    else if a = K.PPS_IN_STAMP_NS then s.capturePps
    else if a = K.WVR_PDU_STAMP_NS then s.captureStamp (s.fld F.WVR_PDU_INDEX_INDEX)
    else if isLo a then s.readLo a
    else if isHi a then { s with busData := (s.capture (a - 4) >>> 32).setWidth 32 }
    else { s with busData := s.peek a })

/-! ## Targets that a sleep or a reset group stops (spec/16, R466; spec/17, R501) -/

/-- The register belongs to a port, channel or MDIO master that is held in reset or sleeps. -/
def State.stopped (s : State) (a : Nat) : Bool :=
  if 0x40000 ≤ a ∧ a < 0x63000 then s.portHeld ((a - 0x40000) / 0x1000)
  else if 0x7F000 ≤ a ∧ a < 0x7F200 then s.rstHeld (66 + (a - 0x7F000) / 0x100)
  else if 0x180000 ≤ a ∧ a < 0x188000 then s.chanHeld ((a - 0x180000) / 0x400)
  else false

end Sys2Proof.Machine
end

