-- ==== Sys2Proof/Machine/BusWrite.lean ====
section
/-!
DEFINITION. Writes of the register space: what a write does to each kind of field (spec/00, R7 and R9; spec/02, R46),
the held and committing registers (spec/18, R513), and the operations that a write of a CMD field starts.
-/

namespace Sys2Proof.Machine

/-! ## The plain write (R7, R46) -/

/-- A register's value after a masked write: RW bits take the data, W1C bits written 1 are cleared. -/
def RegDesc.after (d : RegDesc) (old mask data : Word) : Word :=
  maskWord old (mask &&& BitVec.ofNat 32 d.rw) data &&& ~~~ (mask &&& data &&& BitVec.ofNat 32 d.w1c)

/-- The plain masked write of a register. -/
def State.plainWrite (s : State) (d : RegDesc) (k : Nat) (mask data : Word) : State := s.setReg k (d.after (s.reg k) mask data)

/-- The value that a masked write gives a held word (R513); bits outside RW stay 0. -/
def State.holdWrite (s : State) (d : RegDesc) (k : Nat) (mask data : Word) : State :=
  s.hold k (d.after (s.heldOr k) mask data)

/-- A held word of a window whose entry is selected at the commit (spec/05, R169): it is held once for the window, under the
key `w`. Bits that no write has covered are those of the entry selected at the first write (log entry 49). -/
def State.holdWindow (s : State) (d : RegDesc) (w k : Nat) (mask data : Word) : State :=
  s.hold w (d.after ((s.heldWord w).getD (s.reg k)) mask data)

/-- The entry's register takes its window's held word. -/
def State.commitWindow (s : State) (w k : Nat) : State := (s.setReg k ((s.heldWord w).getD (s.reg k))).unhold w

/-- The data of the CMD bits that a write covers. -/
def cmdData (mask data : Word) : Nat := (mask &&& data).toNat

/-! ## Counters (spec/03, R95) -/

/-- The counters that a CNT_CTRL register clears: pairs of first LO and how many. -/
def clearRanges (a : Nat) : List (Nat × Nat) :=
  if 0x40000 ≤ a ∧ a < 0x63000 then [(C.mac ((a - 0x40000) / 0x1000) 0, 16)]
  else if 0x180000 ≤ a ∧ a < 0x188000 then [(C.edge ((a - 0x180000) / 0x400) 0, 12)]
  else if a = K.CLS_CNT_CTRL then [(C.cls 0, 11)]
  else if a = K.BUF_CNT_CTRL then [(C.buf 0, 20)]
  else if a = K.SCH_CNT_CTRL then [(C.sch 0, 13)]
  else if a = K.TIME_CNT_CTRL then [(C.time 0, 11)]
  else if a = K.WVR_CNT_CTRL then [(C.wvr 0, 14)]
  else if a = K.ZONE_CNT_CTRL then (C.zone 0, 3) :: (List.range 10).map (fun p => (C.sec p 0, 9))
  else if a = K.NM_CNT_CTRL then [(C.nm 0, 12)]
  else if a = K.SAF_CNT_CTRL then [(C.saf 0, 15)]
  else if a = K.PAIR_CNT_CTRL then [(C.pair 0, 15)]
  else if a = K.MGT_CNT_CTRL then [(C.mgt 0, 14)]
  else []

/-- An address is that of a CNT_CTRL register. -/
def isCntCtrl (a : Nat) : Bool := (regAt a).isSome && !(clearRanges a).isEmpty &&
  (if 0x40000 ≤ a ∧ a < 0x63000 then a % 0x1000 == 0x40 else if 0x180000 ≤ a ∧ a < 0x188000 then a % 0x400 == 0x40 else true)

/-- CLEAR: all counters of the block are 0 in one cycle. -/
def State.clearAt (s : State) (a : Nat) : State := forEach (clearRanges a) (fun r s => s.clearCounters r.1 r.2) s

/-- A write of a CNT_CTRL register. -/
def State.writeCntCtrl (s : State) (d : RegDesc) (a : Nat) (mask data : Word) : State :=
  (s.plainWrite d a mask data).doIf ((cmdData mask data).testBit 0) (fun s => s.clearAt a)

/-! ## Clock and reset, packet buffer -/

/-- A write of RST_CTRL (spec/17, R502). -/
def State.writeRstCtrl (s : State) (d : RegDesc) (mask data : Word) : State :=
  let s := s.plainWrite d K.RST_CTRL mask data
  let g := bits (cmdData mask data) 6 0
  match bits (cmdData mask data) 13 12 with
  | 1 => s.rstPulse g
  | 2 => s.rstHold g
  | 3 => s.rstRelease g
  | _ => s

/-- A write of CLS_GEN (spec/04, R123, R131). -/
def State.writeClsGen (s : State) (d : RegDesc) (mask data : Word) : State :=
  (s.plainWrite d K.CLS_GEN mask data).doIf ((cmdData mask data).testBit 16) (fun s => s.requestSwap (bits (cmdData mask data) 17 17))

/-- A write in the TCAM window (spec/04, R118). -/
def State.writeTcam (s : State) (a : Nat) (mask data : Word) : State :=
  let o := a - 0x81000
  if o < 0x50 then s.clsWriteWord (o / 4) mask data
  else if 0x80 ≤ o ∧ o < 0xD0 then s.clsWriteWord (20 + (o - 0x80) / 4) mask data
  else if 0x100 ≤ o ∧ o < 0x10C then s.clsWriteWord (40 + (o - 0x100) / 4) mask data
  else if o = 0x110 then s.clsWriteCtrl mask data
  else s

/-- A write of FDB_CMD (spec/05, R170). -/
def State.writeFdbCmd (s : State) (mask data : Word) : State :=
  match bits (cmdData mask data) 31 29 with
  | 1 => s.fdbCommand State.fdbLookupOp
  | 2 => s.fdbCommand State.fdbWriteOp
  | 3 => s.fdbCommand State.fdbRemoveOp
  | 4 => s.fdbCommand (fun s => s.fdbReadOp (bits (cmdData mask data) 14 0))
  | 5 => s.fdbCommand (fun s => s.fdbStart (.flushPort (s.fld F.FDB_DATA_DEST) 0))
  | 6 => s.fdbCommand (fun s => s.fdbStart (.flushDynamic 0))
  | _ => s

/-- The write of VLAN_WIN_DATA[3] stores all four words of an entry (spec/05, R169). -/
def State.commitVlan (s : State) (v : Nat) (mask data : Word) : State :=
  (((s.commitWindow (K.VLAN_WIN_DATA0 0) (K.VLAN_WIN_DATA0 v)).commitWindow (K.VLAN_WIN_DATA1 0)
    (K.VLAN_WIN_DATA1 v)).commitWindow (K.VLAN_WIN_DATA2 0) (K.VLAN_WIN_DATA2 v)).setReg (K.VLAN_WIN_DATA3 v)
    (maskWord (s.reg (K.VLAN_WIN_DATA3 v)) mask data)

/-- The write of MCG_WIN_DATA[1] commits a multicast group (spec/05, R169). -/
def State.commitMcg (s : State) (g : Nat) (mask data : Word) : State :=
  (s.commitWindow (K.MCG_WIN_DATA0 0) (K.MCG_WIN_DATA0 g)).setReg (K.MCG_WIN_DATA1 g)
    (maskWord (s.reg (K.MCG_WIN_DATA1 g)) (mask &&& 0x80000007) data)

/-! ## Schedulers, gates, streams (spec/06) -/

/-- A write of SHP_CTRL: EN is held; COMMIT asks for the held values (R182, R204). -/
def State.writeShpCtrl (s : State) (d : RegDesc) (q : Nat) (mask data : Word) : State :=
  let k := K.SHP_CTRL q
  let s := s.doIf (mask.toNat.testBit 1) (fun s => s.hold k data)
  (s.plainWrite d k (mask &&& ~~~ 2) data).doIf ((cmdData mask data).testBit 0)
    (fun s => s.requestCommit (F.SHP_CTRL_PENDING q) (F.SHP_CTRL_ERR_BUSY q))

/-- A write of MTR_CTRL (R182). -/
def State.writeMtrCtrl (s : State) (d : RegDesc) (i : Nat) (mask data : Word) : State :=
  (s.plainWrite d (K.MTR_CTRL i) mask data).doIf ((cmdData mask data).testBit 0)
    (fun s => s.requestCommit (F.MTR_CTRL_PENDING i) (F.MTR_CTRL_ERR_BUSY i))

/-- A write of ZPOL_CTRL (spec/10, R295). -/
def State.writeZpolCtrl (s : State) (d : RegDesc) (i : Nat) (mask data : Word) : State :=
  let k := K.ZPOL_CTRL i
  let s := s.doIf (mask.toNat.testBit 1) (fun s => s.hold k data)
  (s.plainWrite d k (mask &&& ~~~ 2) data).doIf ((cmdData mask data).testBit 0)
    (fun s => s.requestCommit (F.ZPOL_CTRL_PENDING i) (F.ZPOL_CTRL_ERR_BUSY i))

/-- A write of STRM_WIN_FILTER: a meter that METER_EN starts has its buckets set at the next tick (R183). -/
def State.writeFilter (s : State) (d : RegDesc) (i : Nat) (mask data : Word) : State :=
  let was := s.flag (F.STRM_WIN_FILTER_METER_EN i)
  let s := s.plainWrite d (K.STRM_WIN_FILTER i) mask data
  if !was && s.flag (F.STRM_WIN_FILTER_METER_EN i) then
    { s with data := { s.data with meterStart := i :: s.data.meterStart.filter (fun k => k != i) } }
  else s

/-- A write of GATE_CTRL: with both CANCEL and CONFIG_CHANGE, CANCEL first (R195). Stopped gates hold nothing
(R193). -/
def State.writeGateCtrl (s : State) (d : RegDesc) (p : Nat) (mask data : Word) : State :=
  let s := s.plainWrite d (K.GATE_CTRL p) mask data
  let s := s.doIf (!s.flag (F.GATE_CTRL_GATE_EN p)) (fun s => s.setFld (F.GATE_STATUS_HOLD_ACTIVE p) 0)
  let s := s.doIf ((cmdData mask data).testBit 2) (fun s => s.gateCancel p)
  s.doIf ((cmdData mask data).testBit 1) (fun s => s.gateChange p)

/-- A write to the administrative parameters of a port's gates: ignored while a change is pending (R195). -/
def State.writeAdmin (s : State) (p : Nat) (f : State → State) : State :=
  if s.flag (F.GATE_STATUS_PENDING p) then s.setFld (F.GATE_STATUS_LOCK_REJECT p) 1 else f s

/-- A write of GATE_WIN_INTERVAL or GATE_WIN_OP: ignored for the operational list, and while a change is pending
(R195, R204). -/
def State.writeGateEntry (s : State) (f : State → State) : State :=
  let p := s.fld F.GATE_WIN_PORT_PORT
  if s.flag F.GATE_WIN_ENTRY_LIST then s.setFld (F.GATE_STATUS_LOCK_REJECT p) 1 else s.writeAdmin p f

/-! ## Network time (spec/07) -/

/-- A write of TIME_CTRL (R220, R224, R225). -/
def State.writeTimeCtrl (s : State) (d : RegDesc) (mask data : Word) : State :=
  let src := (maskWord (s.reg K.TIME_CTRL) mask data).toNat % 4
  let s := s.plainWrite d K.TIME_CTRL (mask &&& ~~~ 3) data
  let s := s.writeSource src
  let s := s.doIf ((cmdData mask data).testBit 3) State.commandStep
  s.doIf ((cmdData mask data).testBit 4) State.commandAcquire

/-- A write of GPTP_PORT_CFG: a second SLAVE is ignored (R214, R232). -/
def State.writePortCfg (s : State) (d : RegDesc) (p : Nat) (mask data : Word) : State :=
  let k := K.GPTP_PORT_CFG p
  let role := (maskWord (s.reg k) mask data).toNat % 4
  let second := role == 2 && (List.range 34).any (fun q => q != p && s.fld (F.GPTP_PORT_CFG_ROLE q) == 2)
  s.plainWrite d k (if second then mask &&& ~~~ 3 else mask) data

/-- A write of PPS_OUT_CTRL (R230). -/
def State.writePpsCtrl (s : State) (d : RegDesc) (n : Nat) (mask data : Word) : State :=
  let was := s.flag (F.PPS_OUT_CTRL_EN n)
  let s := s.plainWrite d (K.PPS_OUT_CTRL n) mask data
  let late := s.fld (F.PPS_OUT_PERIOD_NS n) == 0 && decide (s.ppsStart n < s.nowNs)
  let s := if !was && s.flag (F.PPS_OUT_CTRL_EN n) then
      { s with time := { s.time with ppsLate := mapSet (fun _ => false) s.time.ppsLate n late } }.doIf late
        (fun s => s.raiseFlag (F.PPS_OUT_CTRL_LATE n) (beBytes 1 n))
    else s
  s.ppsUpdate n

/-- A write of START, PERIOD or WIDTH: ignored while EN is 1 (R230). -/
def State.writePpsParam (s : State) (n : Nat) (f : State → State) : State :=
  if s.flag (F.PPS_OUT_CTRL_EN n) then s.raiseFlag (F.PPS_OUT_CTRL_CFG_REJECT n) (beBytes 1 n) else f s

/-! ## CAN and LIN (spec/08) -/

/-- A write of CAN_CTRL: PROTOCOL only while MODE is 0, no PROTOCOL or MODE of 3 (R237, R255). -/
def State.writeCanCtrl (s : State) (d : RegDesc) (n : Nat) (mask data : Word) : State :=
  let k := K.CAN_CTRL n
  let old := s.fld (F.CAN_CTRL_MODE n)
  let w := maskWord (s.reg k) mask data
  let proto := wordBits w 9 8
  let locked := mask &&& 0x300 != 0 && old != 0
  let m := if proto = 3 ∨ locked then mask &&& ~~~ 0x300 else mask
  let m := if wordBits w 1 0 = 3 then m &&& ~~~ 3 else m
  let s := s.doIf locked (fun s => s.canEvent n 5)
  let s := s.withStandby n (fun s => s.plainWrite d k m data)
  let s := s.doIf (s.fld (F.CAN_CTRL_MODE n) != old) (fun s => s.canMode n old)
  s.doIf ((cmdData mask data).testBit 14) (fun s => s.canRecover n)

/-- A write of LIN_CTRL: no MODE of 3 (R249, R255). -/
def State.writeLinCtrl (s : State) (d : RegDesc) (n : Nat) (mask data : Word) : State :=
  let k := K.LIN_CTRL n
  let old := s.fld (F.LIN_CTRL_MODE n)
  let m := if (maskWord (s.reg k) mask data).toNat % 4 = 3 then mask &&& ~~~ 3 else mask
  let s := s.withStandby (24 + n) (fun s => s.plainWrite d k m data)
  let s := s.linMode n old
  let s := s.doIf ((cmdData mask data).testBit 9) (fun s => s.linSwitch n)
  s.doIf ((cmdData mask data).testBit 10) (fun s => s.linWake n)

/-- A write of a bit timing register: ignored while MODE is not 0 (R237). -/
def State.writeCanTiming (s : State) (n : Nat) (f : State → State) : State :=
  if s.fld (F.CAN_CTRL_MODE n) = 0 then f s else s.canEvent n 5

def State.writeLinTiming (s : State) (n : Nat) (f : State → State) : State :=
  if s.fld (F.LIN_CTRL_MODE n) = 0 then f s else s.linEvent n 6

/-- A write in the page of an edge channel. -/
def State.writeEdge (s : State) (d : RegDesc) (a k : Nat) (mask data : Word) : State :=
  let c := (a - 0x180000) / 0x400
  let o := a % 0x400
  let plain (s : State) : State := s.plainWrite d k mask data
  if o = 0x40 then s.writeCntCtrl d a mask data
  else if c < 24 then
    if o = 0 then s.writeCanCtrl d c mask data
    else if o ≤ 0x10 then s.writeCanTiming c plain
    else plain s
  else
    if o = 0 then s.writeLinCtrl d (c - 24) mask data
    else if o = 4 ∨ o = 8 then s.writeLinTiming (c - 24) plain
    else plain s

/-! ## The Weaver (spec/09, R289) -/

/-- A write in the Weaver's page. -/
def State.writeWvr (s : State) (d : RegDesc) (a k : Nat) (mask data : Word) : State :=
  let e := k / 0x100000000
  let m := mask &&& BitVec.ofNat 32 d.rw
  if a = K.WVR_CTRL then (s.plainWrite d k mask data).doIf ((cmdData mask data).testBit 1) State.sendCommand
  else if 0x1C0040 ≤ a ∧ a < 0x1C005C then s.holdWrite d k mask data
  else if a = 0x1C005C then s.commitPdu e
  else if 0x1C0080 ≤ a ∧ a < 0x1C00C0 then s.writeImage e ((a - 0x1C0080) / 4) (maskWord (s.reg k) m data)
  else if 0x1C0120 ≤ a ∧ a < 0x1C013C then s.holdWrite d k mask data
  else if a = 0x1C013C then s.commitRoute e (maskWord (s.reg k) m data)
  else if a = 0x1C0184 ∨ (0x1C01C0 ≤ a ∧ a < 0x1C0200) then s.holdWrite d k mask data
  else if a = 0x1C0188 then s.commitCarrier e (maskWord (s.reg k) m data)
  else s.plainWrite d k mask data

/-! ## Zones and MACsec (spec/10, R310) -/

/-- A write in the page of the zones or of a MACsec port. -/
def State.writeZone (s : State) (d : RegDesc) (a k : Nat) (mask data : Word) : State :=
  let e := k / 0x100000000
  let p := (a - 0x208000) / 0x400
  if a = 0x200804 ∨ a = 0x200808 then s.holdWrite d k mask data
  else if a = 0x20080C then s.writeZpolCtrl d e mask data
  else if a < 0x208000 then s.plainWrite d k mask data
  else if a % 0x400 = 0x24 then s.commitSa p e (maskWord (s.reg k) mask data)
  else if 0x38 ≤ a % 0x400 ∧ a % 0x400 ≤ 0x44 then s.holdWrite d k mask data
  else s.plainWrite d k mask data

/-! ## Ledger, sleep, pair, management, banks -/

/-- A write of LDG_CTRL (spec/12, R350). -/
def State.writeLdgCtrl (s : State) (d : RegDesc) (mask data : Word) : State :=
  (s.plainWrite d K.LDG_CTRL mask data).doIf ((cmdData mask data).testBit 1) State.ldgSign

/-- A write of LDG_RD_INDEX loads LDG_RD_DATA (spec/12, R353). -/
def State.writeLdgIndex (s : State) (mask data : Word) : State :=
  let i := maskWord (s.reg K.LDG_RD_INDEX) mask data
  (s.setReg K.LDG_RD_INDEX i).ldgRead i.toNat

/-- A write of NM_WAKE (spec/13, R366, R381): named groups are woken, or ERR_BUSY. -/
def State.writeNmWake (s : State) (d : RegDesc) (mask data : Word) : State :=
  (s.plainWrite d K.NM_WAKE mask data).doIf ((cmdData mask data) % 0x10000 != 0) (fun s => s.nmWake ((cmdData mask data) % 0x10000))

/-- The write of NM_MBR_DATA[3] commits a ring member, between two ring visits (spec/13, R381). -/
def State.commitMember (s : State) (i : Nat) (mask data : Word) : State :=
  let held := [K.NM_MBR_DATA0 i, K.NM_MBR_DATA1 i, K.NM_MBR_DATA2 i]
  let words := held.map s.heldOr ++ [maskWord (s.reg (K.NM_MBR_DATA3 i)) (mask &&& 0xFFFF) data]
  let s := forEach held (fun k s => s.unhold k) s
  if s.inVisit then { s with nm := { s.nm with memberWait := s.nm.memberWait ++ [(i, words)] } } else s.setMember i words

/-- A write in the sleep block. -/
def State.writeNm (s : State) (d : RegDesc) (a k : Nat) (mask data : Word) : State :=
  let e := k / 0x100000000
  let w := d.after (s.reg k) mask data
  if a = K.NM_WAKE then s.writeNmWake d mask data
  else if a = K.NM_KEEP then s.writeKeep w.toNat
  else if a = K.NM_SLEEP_EN then s.writeSleepEn w.toNat
  else if 0x280100 ≤ a ∧ a < 0x280128 then
    let n := (a - 0x280100) / 8
    s.writeWakeIn n k (if n = 4 ∧ a % 8 = 0 then w ||| 0x40000000 else w)
  else if 0x280184 ≤ a ∧ a < 0x280190 then s.holdWrite d k mask data
  else if a = 0x280190 then s.commitMember e mask data
  else s.plainWrite d k mask data

/-- A write of SAF_INJECT (spec/14, R411). -/
def State.writeInject (s : State) (mask data : Word) : State :=
  if mask = 0 then s else s.faultInject (bits (cmdData mask data) 7 7) (bits (cmdData mask data) 5 0)

/-- A write of PAIR_CTRL (spec/15, R419, R428). -/
def State.writePairCtrl (s : State) (d : RegDesc) (mask data : Word) : State :=
  let s := s.plainWrite d K.PAIR_CTRL mask data
  let s := s.doIf ((cmdData mask data).testBit 1) State.claim
  s.doIf ((cmdData mask data).testBit 2) State.resync

/-- JRN_RD_DATA takes the entry that JRN_RD_INDEX names; GONE where the ring does not hold it (spec/16, R480). -/
def State.loadEntry (s : State) : State :=
  match s.entryOf (s.pair K.JRN_RD_INDEX_LO K.JRN_RD_INDEX_HI) with
  | some e => (s.showBytes K.JRN_RD_DATA e.bytes).setFld F.JRN_STATUS_GONE 0
  | none => (s.showBytes K.JRN_RD_DATA (List.replicate 64 0)).setFld F.JRN_STATUS_GONE 1

/-- A write of BANK_OWNER (spec/17, R487): without HANDOVER it stores TARGET while the bank is STABLE. -/
def State.writeBank (s : State) (d : RegDesc) (b : Nat) (mask data : Word) : State :=
  let s := s.plainWrite d (K.BANK_OWNER b) (if s.bankState b = 0 then mask else mask &&& ~~~ 0x300) data
  let t := if mask &&& 0x300 = 0 then s.fld (F.BANK_OWNER_TARGET b) else bits data.toNat 9 8
  s.doIf ((cmdData mask data).testBit 10) (fun s => s.handover b t)

/-! ## Snapshot pairs (R9) -/

/-- A write of the LO half of a pair is held. -/
def State.writeLo (s : State) (a : Nat) (old mask data : Word) : State :=
  let w := maskWord ((mapGet (fun _ => none) s.heldLo a).getD old) mask data
  { s with heldLo := mapSet (fun _ => none) s.heldLo a (some w) }

/-- The halves that a write of HI stores: the held LO, or the current one. -/
def State.takeLo (s : State) (a : Nat) (old : Word) : Word × State :=
  ((mapGet (fun _ => none) s.heldLo a).getD old, { s with heldLo := mapErase a s.heldLo })

/-- What guards a write to a pair: its gate parameters while PENDING, its output while EN (spec/06, R195; spec/07, R230). -/
def State.guardPair (s : State) (lo : Nat) (f : State → State) : State :=
  if lo = 0x100110 then s.writeAdmin (s.fld F.GATE_WIN_PORT_PORT) f
  else if 0x140400 ≤ lo ∧ lo < 0x140480 then s.writePpsParam ((lo - 0x140400) / 0x20) f
  else f s

/-- A pair whose two halves stay held until SEC_SA_CFG is written (spec/10, R310). -/
def isSaPair (lo : Nat) : Bool := decide (0x208000 ≤ lo) && decide (lo < 0x20A800) && (lo % 0x400 == 0x28 || lo % 0x400 == 0x30)

/-- A write of the HI half stores both halves in one cycle. -/
def State.writeHi (s : State) (d : RegDesc) (lo klo khi : Nat) (mask data : Word) : State :=
  let old := if isSaPair lo then s.heldOr klo else s.reg klo
  let oldHi := if isSaPair lo then s.heldOr khi else s.reg khi
  let r := s.takeLo lo old
  let hi := d.after oldHi mask data
  if isSaPair lo then (r.2.hold klo r.1).hold khi hi
  else ((r.2.setReg klo r.1).setReg khi hi).doIf (lo == 0x341020) State.loadEntry

/-- A write to a half of a pair of registers; the pairs that no write reaches ignore it. -/
def State.writePair (s : State) (d : RegDesc) (a k : Nat) (mask data : Word) : State :=
  if d.rw = 0 then s
  else if isPairLo a then
    s.guardPair a (fun s => s.writeLo a (if isSaPair a then s.heldOr k else s.reg k) (mask &&& BitVec.ofNat 32 d.rw) data)
  else s.guardPair (a - 4) (fun s => s.writeHi d (a - 4) (k - 4) k mask data)

/-! ## The write of a word -/

/-- A write in the buffer block. -/
def State.writeBuf (s : State) (d : RegDesc) (a k : Nat) (mask data : Word) : State :=
  let e := k / 0x100000000
  if a = K.FDB_CMD then s.writeFdbCmd mask data
  else if a = 0xC0040 ∨ a = 0xC0044 ∨ a = 0xC0048 ∨ a = 0xC0054 then s.holdWindow d (k % 0x100000000) k mask data
  else if a = 0xC004C then s.commitVlan e mask data
  else if a = 0xC0058 then s.commitMcg e mask data
  else s.plainWrite d k mask data

/-- A write in the scheduler block. -/
def State.writeSch (s : State) (d : RegDesc) (a k : Nat) (mask data : Word) : State :=
  let e := k / 0x100000000
  let plain (s : State) : State := s.plainWrite d k mask data
  if (0x100008 ≤ a ∧ a ≤ 0x100014) ∨ (0x100208 ≤ a ∧ a ≤ 0x100214) then s.holdWrite d k mask data
  else if a = 0x100018 then s.writeShpCtrl d e mask data
  else if a = 0x100218 then s.writeMtrCtrl d e mask data
  else if a = K.GATE_WIN_PORT then (if 33 < (d.after (s.reg k) mask data).toNat then s else plain s)
  else if a = 0x100104 then s.writeGateCtrl d e mask data
  else if 0x100118 ≤ a ∧ a ≤ 0x100124 then s.writeAdmin e plain
  else if a = 0x100164 ∨ a = 0x100168 then s.writeGateEntry plain
  else if a = 0x100204 then s.writeFilter d e mask data
  else if a = 0x100308 then (plain s).takeAny e
  else if a = 0x10030C then s.doIf ((cmdData mask data).testBit 17) (fun s => s.takeAny e)
  else plain s

/-- A write in the time block. -/
def State.writeTime (s : State) (d : RegDesc) (a k : Nat) (mask data : Word) : State :=
  let plain (s : State) : State := s.plainWrite d k mask data
  if a = K.TIME_CTRL then s.writeTimeCtrl d mask data
  else if a = K.TIME_RATE then (if s.timeSource = 0 then plain s else s)
  else if 0x140100 ≤ a ∧ a < 0x140210 ∧ a % 8 = 0 then s.writePortCfg d ((a - 0x140100) / 8) mask data
  else if 0x140400 ≤ a ∧ a < 0x140480 then
    (if a % 0x20 = 0 then s.writePpsCtrl d ((a - 0x140400) / 0x20) mask data
     else s.writePpsParam ((a - 0x140400) / 0x20) plain)
  else plain s

/-- A write in the ledger's, the pair's, the management's or another block with few special registers. -/
def State.writeCtl (s : State) (d : RegDesc) (a k : Nat) (mask data : Word) : State :=
  if a = K.RST_CTRL then s.writeRstCtrl d mask data
  else if a = K.LDG_CTRL then s.writeLdgCtrl d mask data
  else if a = K.LDG_RD_INDEX then s.writeLdgIndex mask data
  else if a = K.SAF_INJECT then s.writeInject mask data
  else if a = K.PAIR_CTRL then s.writePairCtrl d mask data
  else if 0x380000 ≤ a ∧ a < 0x380080 then s.writeBank d ((a - 0x380000) / 4) mask data
  else s.plainWrite d k mask data

/-- A write in a port's MAC page or of an MDIO master. -/
def State.writeMac (s : State) (d : RegDesc) (a k : Nat) (mask data : Word) : State :=
  let p := (a - 0x40000) / 0x1000
  let m := (a - 0x7F000) / 0x100
  if a < 0x63000 then
    if a % 0x1000 = 0 then s.writeMacCfg p mask data
    else if a % 0x1000 = 8 then s.writeMacFrame p mask data
    else if k = K.MERGE_CFG p ∧ p < 26 then (s.plainWrite d k mask data).noteMerge p
    else s.plainWrite d k mask data
  else if a % 0x100 = 0 then s.writeMdioCfg m mask data
  else if a % 0x100 = 4 then s.mdioCommand m (data &&& mask)
  else s.plainWrite d k mask data

/-- A write to a register that is there, by its block. -/
def State.blockWrite (s : State) (d : RegDesc) (a k : Nat) (mask data : Word) : State :=
  if isCntCtrl a then s.writeCntCtrl d a mask data
  else if isPairLo a || (decide (4 ≤ a) && isPairLo (a - 4)) then s.writePair d a k mask data
  else match a / 0x40000 with
    | 1 => s.writeMac d a k mask data
    | 2 => if a = K.CLS_GEN then s.writeClsGen d mask data else s.plainWrite d k mask data
    | 3 => s.writeBuf d a k mask data
    | 4 => s.writeSch d a k mask data
    | 5 => s.writeTime d a k mask data
    | 6 => s.writeEdge d a k mask data
    | 7 => s.writeWvr d a k mask data
    | 8 => s.writeZone d a k mask data
    | 10 => s.writeNm d a k mask data
    | _ => s.writeCtl d a k mask data

/-- A masked write of a word to a register page. A mask of 0 makes no access; an address that no register occupies, an
entry that the index register does not reach and a counter ignore it (R46, R505). -/
def State.busWrite (s : State) (a : Nat) (mask data : Word) : State :=
  s.confine [.regs, .cnts, .heldLo, .held, .fresh, .bufLog, .nmLog, .data, .ports, .time, .mgt, .edge, .nm, .wvr, .ldg, .twin, .key, .saf, .out] (
    if mask = 0 then s
    else if 0x81000 ≤ a ∧ a < 0x81118 then s.writeTcam a mask data
    else match s.regHere a with
      | none => s
      | some (d, k) => s.blockWrite d a k mask data)

/-- A register that is held until its commit (R513). -/
def isHeld (a : Nat) : Bool :=
  let within (lo hi : Nat) : Bool := decide (lo ≤ a) && decide (a ≤ hi)
  within 0xC0040 0xC0048 || a == 0xC0054 || within 0x100008 0x100018 || within 0x100208 0x100214 ||
    within 0x1C0040 0x1C0058 || within 0x1C0120 0x1C0138 || a == 0x1C0184 || within 0x1C01C0 0x1C01FC ||
    within 0x200804 0x20080C || within 0x280184 0x28018C ||
    (within 0x208000 0x20A7FF && decide (0x28 ≤ a % 0x400) && decide (a % 0x400 ≤ 0x44))

end Sys2Proof.Machine
end

