-- ==== Sys2Proof/Machine/Bridge.lean ====
section
/-!
DEFINITION. The register bridge (spec/16, R464 to R469): posted writes, reads, fences, and the accesses that a partner
sends (spec/15, R444).
-/

namespace Sys2Proof.Machine

/-! ## Targets -/

/-- A block whose clock or power domain may be stopped is a far target: ports, MDIO masters and edge channels. -/
def farBlock (a : Nat) : Bool :=
  (decide (0x40000 ≤ a) && decide (a < 0x63000)) || (decide (0x7F000 ≤ a) && decide (a < 0x80000)) ||
    (decide (0x180000 ≤ a) && decide (a < 0x188000))

/-- A near target answers within the bridge's own cycles. -/
def isNear (a : Nat) : Bool := placeOf a == .register && !farBlock a

/-- The cause for which an access fails now, 0 where it does not (R466). -/
def State.failCause (s : State) (a : Nat) : Nat :=
  match placeOf a with
  | .outside => 5
  | .partner _ => if s.joined then 0 else 1
  | .scratch off => if s.bridgeOwns (bankOf off) then 0 else 3
  | .register => if s.stopped a then 2 else 0

/-- The cause for which a posted write of this unit fails when it completes: one to a bank that was in flight when a handover of the
bank began completes under the old owner (spec/17, R488, R489). -/
def State.endCause (s : State) (a : Nat) : Nat :=
  match placeOf a with
  | .scratch off => if s.bankOwner (bankOf off) == 2 && decide (s.bankState (bankOf off) ≤ 1) then 0 else 3
  | _ => s.failCause a

/-- A write to this unit's own registers or scratchpad. -/
def State.ownWrite (s : State) (a : Nat) (mask data : Word) : State :=
  match placeOf a with
  | .scratch off => s.writeWord off mask data
  | .register => s.busWrite a mask data
  | _ => s

/-- A write that a command of this unit has issued: the classifier is told whose it is (spec/04, R123). -/
def State.writeFor (s : State) (c : Option Cmd) (a : Nat) (mask data : Word) : State :=
  let s := { s with mgt := { s.mgt with writer := c } }.ownWrite a mask data
  { s with mgt := { s.mgt with writer := none } }

/-- A read of this unit's own registers or scratchpad; the word is left in `busData`. -/
def State.ownRead (s : State) (a : Nat) : State :=
  match placeOf a with
  | .scratch off => { s with busData := s.readWord off }
  | .register => s.busRead a
  | _ => { s with busData := 0xFFFFFFFF }

/-! ## Posted writes (R466, R468) -/

/-- The posted writes outstanding. -/
def State.setPosted (s : State) (l : List Posted) : State := { s with mgt := { s.mgt with posted := l } }

/-- A write to this unit's own targets is outstanding: later ones complete after it. -/
def State.ownOutstanding (s : State) : Bool := s.mgt.posted.any (fun p => !p.sent)

/-- Issues one write: it takes a tag, and completes or fails at once or stays outstanding; one to a bank that the bridge does not own
fails at once (spec/17, R486). A mask of 0 makes no
access (spec/02, R46). -/
def State.postWrite (s : State) (a : Nat) (mask data : Word) : State :=
  if mask = 0 then s
  else
    let tag := s.fld F.BRG_TAG_NEXT
    let s := s.setFld F.BRG_TAG_NEXT ((tag + 1) % 65536)
    match placeOf a with
    | .outside => s.writeFailed 5 tag a
    | .scratch off => if s.bridgeOwns (bankOf off) then s.setPosted (s.mgt.posted ++ [⟨tag, a, mask, data, false, s.mgt.execQ.head?⟩])
      else s.writeFailed 3 tag a
    | .partner x =>
      if s.joined then
        (s.setPosted (s.mgt.posted ++ [⟨tag, a, mask, data, true, s.mgt.execQ.head?⟩])).pairSend 9 (Config.bridgeBody [1, tag, x, mask.toNat, data.toNat])
      else s.writeFailed 1 tag a
    | _ =>
      if isNear a && !s.ownOutstanding then s.writeFor s.mgt.execQ.head? a mask data
      else s.setPosted (s.mgt.posted ++ [⟨tag, a, mask, data, false, s.mgt.execQ.head?⟩])

/-- Issues the writes that the command in hand has still to post, while the bridge has places. -/
def State.pump (s : State) : Nat → State
  | 0 => s
  | n + 1 =>
    match s.mgt.toPost with
    | [] => s
    | (a, m, d) :: r =>
      if 192 ≤ s.mgt.posted.length then s
      else ({ s with mgt := { s.mgt with toPost := r } }.postWrite a m d).pump n

/-- An outstanding write of this unit completes, or fails. -/
def State.finishWrite (s : State) (p : Posted) (parity : Bool) : State :=
  let s := s.setPosted (s.mgt.posted.erase p)
  let cause := if parity then 4 else s.endCause p.addr
  if cause = 0 then s.writeFor p.cmd p.addr p.mask p.data else s.writeFailed cause p.tag p.addr

/-- Writes to near targets that waited for an earlier one complete in issue order. -/
def State.drain (s : State) : Nat → State
  | 0 => s
  | n + 1 =>
    match s.mgt.posted.find? (fun p => !p.sent) with
    | some p => if isNear p.addr then (s.finishWrite p false).drain n else s
    | none => s

/-- The command in hand that writes registers ends when all its writes are issued: PENDING where it wrote a swap that is
held (spec/04, R123). -/
def State.endWrites (s : State) : State :=
  match s.mgt.execQ with
  | c :: _ => if s.mgt.toPost.isEmpty && (c.opcode == 0x101 || c.opcode == 0x103) then
      s.endCmd c (b2n s.mgt.swapPending) 0 else s
  | [] => s

/-- REG_WRITE and REG_BURST_WRITE start: their writes are issued in order. -/
def State.startWrites (s : State) (l : List (Nat × Word × Word)) : State :=
  if s.mgt.toPost.isEmpty then
    ({ s with mgt := { s.mgt with toPost := l, swapPending := false } }.pump 257).endWrites
  else s

/-! ## Reads (R465, R468) -/

/-- The words of the reads in execution. -/
def State.setRun (s : State) (r : Option ReadRun) : State := { s with mgt := { s.mgt with run := r } }

/-- The next read returns a word, or fails and returns 0xFFFF_FFFF. -/
def State.wordIn (s : State) (r : ReadRun) (w : Word) (failed : Bool) : State :=
  let s := if failed then s.inc (C.mgt 9) else s
  s.setRun (some ⟨r.addrs.drop 1, r.words ++ [if failed then 0xFFFFFFFF else w],
    if failed && r.failed.isNone then some r.words.length else r.failed, false⟩)

/-- A read of an address may not pass a posted write to its page. -/
def State.pageBusy (s : State) (a : Nat) : Bool := s.mgt.posted.any (fun p => p.addr / 0x1000 == a / 0x1000)

/-- The next read of the command in hand: true where its word is there and the one after it may follow at once; a far read
waits for its answer. -/
def State.readOne (s : State) (r : ReadRun) (a : Nat) : State × Bool :=
  if s.pageBusy a then (s, false)
  else if isNear a then ((s.ownRead a).wordIn r (s.ownRead a).busData false, true)
  else match placeOf a with
    | .outside => (s.wordIn r 0 true, true)
    | .partner x =>
      if !s.joined then (s.wordIn r 0 true, true)
      else if r.asked then (s, false)
      else ((s.setRun (some { r with asked := true })).pairSend 9 (Config.bridgeBody [0, 0, x, 0, 0]), false)
    | _ => (s, false)

/-- The next read, where one is left. -/
def State.readNext (s : State) : State × Bool :=
  match s.mgt.run with
  | none => (s, false)
  | some r => match r.addrs with
    | [] => (s, false)
    | a :: _ => s.readOne r a

/-- Reads of near targets, and failures known at once, follow one another. -/
def State.advance (s : State) : Nat → State
  | 0 => s
  | n + 1 => if s.readNext.2 then s.readNext.1.advance n else s.readNext.1

/-- The reading command in hand ends when every word is there: DONE, or DONE_FAR_ERROR with the index of the first
failed word. -/
def State.endReads (s : State) : State :=
  match s.mgt.run, s.mgt.execQ with
  | some r, c :: _ =>
    if r.addrs.isEmpty then
      let data := r.words.flatMap (fun w => beBytes 4 w.toNat)
      match r.failed with
      | none => (s.setRun none).endData c data
      | some i => ((s.setRun none).endCmd c 2 0).answer c 2 (data ++ beBytes 4 i)
    else s
  | _, _ => s

/-- REG_READ and REG_BURST_READ start. -/
def State.startReads (s : State) (l : List Nat) : State :=
  if s.mgt.run.isSome then s else ((s.setRun (some ⟨l, [], none, false⟩)).advance 257).endReads

/-- A write to the parser's or the classifier's registers (spec/18, R504). -/
def isCls (a : Nat) : Bool := decide (0x80000 ≤ a) && decide (a < 0xC0000)

/-- Writes of a command of this unit to the classifier are not all done: no other command's come between them (spec/04, R120). -/
def State.clsBusy (s : State) : Bool := s.mgt.posted.any (fun p => !p.sent && isCls p.addr) || s.mgt.toPost.any (fun x => isCls x.1)

/-- A partner's write is made and answered (spec/15, R444). -/
def State.serveWrite (s : State) (tag a : Nat) (mask data : Word) : State :=
  (s.ownWrite a mask data).pairSend 10 (Config.bridgeBody [1, tag, 0, 0])

/-- The partner's writes that waited are made in their order. -/
def State.serveWaits (s : State) : State :=
  if s.mgt.served.isEmpty || s.clsBusy then s
  else forEach s.mgt.served (fun x s => s.serveWrite x.1 x.2.1 x.2.2.1 x.2.2.2) { s with mgt := { s.mgt with served := [] } }

/-- After an answer: what waited in the bridge goes on. -/
def State.goOn (s : State) : State :=
  let waits := !s.mgt.toPost.isEmpty
  let s := (s.drain 192).pump 257
  let s := if waits then s.endWrites else s
  (s.serveWaits.advance 257).endReads

/-- FAR_READ_COMPLETE: the far read in hand returns its word, or fails. -/
def State.farReadDone (s : State) (parity : Bool) : State :=
  match s.mgt.run with
  | none => s
  | some r =>
    match r.addrs with
    | [] => s
    | a :: _ =>
      if isNear a || s.pageBusy a then s
      else match placeOf a with
        | .partner _ => if s.joined then s else (s.wordIn r 0 true).goOn
        | _ =>
          if parity || s.failCause a != 0 then (s.wordIn r 0 true).goOn
          else (let t := s.ownRead a; (t.wordIn r t.busData false).goOn)

/-- POSTED_WRITE_COMPLETE: the oldest outstanding write to a target of this unit ends. -/
def State.postedDone (s : State) (parity : Bool) : State :=
  match s.mgt.posted.find? (fun p => !p.sent) with
  | none => s
  | some p => (s.finishWrite p parity).goOn

/-- A write outstanding at the partner ends with a cause, 0 for success. -/
def State.partnerWriteEnds (s : State) (p : Posted) (cause : Nat) : State :=
  let s := s.setPosted (s.mgt.posted.erase p)
  (if cause = 0 then s else s.writeFailed cause p.tag p.addr).goOn

/-- The partner's answer to a read. -/
def State.partnerReadEnds (s : State) (cause : Nat) (w : Word) : State :=
  match s.mgt.run with
  | some r => if r.asked then (s.wordIn r w (cause != 0)).goOn else s
  | none => s

/-- BRIDGE_RSP_RECEIVE: the answer to the read asked for, or to the posted write of a tag (spec/15, R444). -/
def State.bridgeRsp (s : State) (tag : Nat) (isRead : Bool) (cause : Nat) (w : Word) : State :=
  match s.takePair 10 with
  | none => s
  | some (_, s) =>
    if isRead then s.partnerReadEnds cause w
    else match s.mgt.posted.find? (fun p => p.sent && p.tag == tag) with
      | some p => s.partnerWriteEnds p cause
      | none => s

/-- BRIDGE_RSP_TIMEOUT: the oldest access at the partner fails with PARTNER_LINK_DOWN (R466). -/
def State.bridgeTimeout (s : State) : State :=
  match s.mgt.posted.find? (fun p => p.sent) with
  | some p => s.partnerWriteEnds p 1
  | none => s.partnerReadEnds 1 0

/-- The cause for which a partner's access fails here: the partner window is not reachable (spec/18, R505). -/
def State.servedCause (s : State) (a : Nat) : Nat :=
  match placeOf a with
  | .partner _ => 5
  | _ => s.failCause a

/-- BRIDGE_REQ_RECEIVE: a partner's access is executed and answered (spec/15, R444). A write to the classifier between the
classifier writes of a command of this unit waits for their end, and later writes wait behind it (spec/04, R120). -/
def State.bridgeReq (s : State) (write : Bool) (tag a : Nat) (mask data : Word) : State :=
  match s.takePair 9 with
  | none => s
  | some (_, s) =>
    if !s.joined then s
    else
      let cause := s.servedCause a
      if cause ≠ 0 then s.pairSend 10 (Config.bridgeBody [b2n write, tag, cause, 0xFFFFFFFF])
      else if write then
        (if (isCls a && s.clsBusy) || !s.mgt.served.isEmpty then
          { s with mgt := { s.mgt with served := s.mgt.served ++ [(tag, a, mask, data)] } }
        else s.serveWrite tag a mask data)
      else (let t := s.ownRead a; t.pairSend 10 (Config.bridgeBody [0, tag, 0, t.busData.toNat]))

/-! ## The commands of the bridge (R461, R467) -/

/-- Big-endian words of a command's body. -/
def bodyWords (b : List Byte) : List Nat := (List.range (b.length / 4)).map (fun i => beAt b (4 * i) 4)

/-- Triples of address, mask and data of a REG_WRITE. -/
def bodyTriples (b : List Byte) : List (Nat × Word × Word) :=
  (List.range (b.length / 12)).map (fun i =>
    (beAt b (12 * i) 4, BitVec.ofNat 32 (beAt b (12 * i + 4) 4), BitVec.ofNat 32 (beAt b (12 * i + 8) 4)))

/-- The words of a REG_BURST_WRITE with their addresses. -/
def bodyBurst (b : List Byte) : List (Nat × Word × Word) :=
  (List.range (b.length / 4 - 1)).map (fun i => (beAt b 0 4 + 4 * i, 0xFFFFFFFF, BitVec.ofNat 32 (beAt b (4 * i + 4) 4)))

def State.regRead (s : State) : State :=
  match s.execHead 0x100 with
  | none => s
  | some c => s.startReads (bodyWords c.body)

def State.regWrite (s : State) : State :=
  match s.execHead 0x101 with
  | none => s
  | some c => s.startWrites (bodyTriples c.body)

def State.regBurstRead (s : State) : State :=
  match s.execHead 0x102 with
  | none => s
  | some c => s.startReads ((List.range (beAt c.body 4 4)).map (fun i => beAt c.body 0 4 + 4 * i))

def State.regBurstWrite (s : State) : State :=
  match s.execHead 0x103 with
  | none => s
  | some c => s.startWrites (bodyBurst c.body)

/-- A posted write was issued before a tag was next: at most 192 are outstanding. -/
def Posted.before (p : Posted) (tag : Nat) : Bool := decide ((tag + 65536 - p.tag - 1) % 65536 < 32768)

/-- WRITE_FENCE: it completes when every write posted before its acceptance has ended; FAILURES and LAST_TAG start
again. -/
def State.writeFence (s : State) : State :=
  match s.execHead 0x104 with
  | none => s
  | some c =>
    if s.mgt.posted.any (fun p => p.before c.tag) then s
    else { s with mgt := { s.mgt with fenceFail := 0, fenceTag := 0 } }.endData c (beBytes 2 s.mgt.fenceFail ++ beBytes 2 s.mgt.fenceTag)

end Sys2Proof.Machine
end

