-- ==== Sys2Proof/Machine/Records.lean ====
section
/-!
DEFINITION. The records of a stake image: their form, the lengths and named bits of their layouts, the ranges of their
fields, and what makes two of them duplicates (spec/02, R41 to R48 and R539; the Basic record sections of spec/03 to
spec/16).
-/

namespace Sys2Proof.Machine

/-- A record of an image: its place in the image, the fields of TYPE, and its value (R41, R42). -/
structure Rec where
  off : Nat
  expert : Bool
  critical : Bool
  scope : Nat
  number : Nat
  val : List Byte
  deriving DecidableEq, Repr

/-- Word `j` of a record's value, big-endian. -/
def Rec.word (r : Rec) (j : Nat) : Nat := beAt r.val (4 * j) 4

/-- The words of a record's value. -/
def Rec.words (r : Rec) : List Nat := (List.range (r.val.length / 4)).map r.word

/-- Word `j` of a value given as words. -/
def wd (w : List Nat) (j : Nat) : Nat := w.getD j 0

/-- A record applies to a unit: both units, or that one (R41). -/
def Rec.forUnit (r : Rec) (u : Nat) : Bool := r.scope == 0 || r.scope == u + 1

/-- Reads the records of a record area from an offset on: the records before the first malformed one, and its offset
(R41, R42). -/
def readRecs (b : List Byte) : Nat → Nat → List Rec × Option Nat
  | 0, off => ([], if off < b.length then some off else none)
  | fuel + 1, off =>
    if b.length ≤ off then ([], none)
    else
      let ty := beAt b off 2
      let len := beAt b (off + 2) 2
      if b.length < off + 4 ∨ len % 4 ≠ 0 ∨ b.length < off + 4 + len ∨ bits ty 13 12 = 3 then ([], some off)
      else
        let r : Rec := ⟨off, ty.testBit 15, ty.testBit 14, bits ty 13 12, bits ty 11 0, slice b (off + 4) len⟩
        let rest := readRecs b fuel (off + 4 + len)
        (r :: rest.1, rest.2)

/-! ## Lengths and named bits (R539) -/

/-- A word all of whose bits are named. -/
def fullW : Nat := 0xFFFFFFFF

/-- Words that hold `n` bytes, byte 0 in bits 31:24: the bytes beyond the last are not named. -/
def byteWords (n : Nat) : List Nat :=
  (List.range ((n + 3) / 4)).map (fun j => if 4 * (j + 1) ≤ n then fullW else fullW - (2 ^ (8 * (4 * (j + 1) - n)) - 1))

/-- Widths of the key's fields, by FIELD_ID (spec/04, R105). -/
def keyFields : List (Nat × Nat) :=
  [(0, 0), (2, 1), (9, 3), (13, 10), (21, 14), (37, 22), (85, 38), (133, 86), (149, 134), (151, 150),
   (163, 152), (164, 164), (167, 165), (169, 168), (181, 170), (182, 182), (185, 183), (187, 186),
   (199, 188), (200, 200), (203, 201), (205, 204), (333, 206), (461, 334), (469, 462), (475, 470),
   (477, 476), (485, 478), (487, 486), (490, 488), (510, 491), (526, 511), (542, 527), (558, 543), (622, 559)]

/-- Bits hi:lo of a key field. -/
def keyField (id : Nat) : Nat × Nat := keyFields.getD id (0, 0)

/-- Width of a key field, and the words its value takes. -/
def keyWidth (id : Nat) : Nat := (keyField id).1 + 1 - (keyField id).2
def keyWords (id : Nat) : Nat := (keyWidth id + 31) / 32

/-- Named bits of a right-aligned value of `w` bits, most significant word first. -/
def alignedWords (w : Nat) : List Nat :=
  let n := (w + 31) / 32
  (List.range n).map (fun j => if j = 0 ∧ w % 32 ≠ 0 then 2 ^ (w % 32) - 1 else fullW)

/-- The match items of a RULE: FIELD_ID, value and mask (spec/04, R128). -/
def ruleItems : Nat → List Nat → List (Nat × Nat × Nat)
  | 0, _ => []
  | n + 1, w =>
    let id := wd w 0 / 0x1000000
    let k := keyWords id
    let num (l : List Nat) : Nat := l.foldl (fun a x => a * 0x100000000 + x) 0
    (id, num ((w.drop 1).take k), num ((w.drop (1 + k)).take k)) :: ruleItems n (w.drop (1 + 2 * k))

/-- Named bits of the match items' words. -/
def itemMasks : Nat → List Nat → List Nat
  | 0, _ => []
  | n + 1, w =>
    let id := wd w 0 / 0x1000000
    (0xFF000000 :: alignedWords (keyWidth id)) ++ alignedWords (keyWidth id) ++ itemMasks n (w.drop (1 + 2 * keyWords id))

/-- The named bits of a PDU's words (spec/09, R285, R289). -/
def pduMasks (w : List Nat) : List Nat :=
  let tx := (wd w 1).testBit 30
  [0xFFF00000, 0xFFFF007F, fullW] ++
    (if tx then [0xFFFE0000, 0x03FFFFFF, 0x03FFFFFF, 0x00FFFFFF, fullW] ++ byteWords (bits (wd w 1) 6 0)
     else [0xFFFFFFF8, 0x03FFFFFF, 0xFFE00000, 0, 0])

/-- The named bits of each word of a Basic record's layout, whose length is the record's; none for a number that no
chapter defines (R43, R539). -/
def recMasks (number : Nat) (w : List Nat) : Option (List Nat) :=
  match number with
  | 0x010 => some [0x0001FFFF]
  | 0x080 => some [0xFFFE3FFF, fullW, 0xFFFFC0FF]
  | 0x100 => some [fullW, 1]
  | 0x101 => some [0xFFE00000]
  | 0x110 => some ([0xFFFE003F, fullW, fullW, fullW] ++ itemMasks (bits (wd w 0) 5 0) (w.drop 4))
  | 0x200 => some [fullW, fullW, 0xFF]
  | 0x201 => some [0xFFF00FFF, 0x00FFFFFF]
  | 0x210 => some [0xFFFFFFF0, fullW, 0x00070007, fullW]
  | 0x220 =>
    let kind := bits (wd w 0) 19 18
    some [0xFFFCFFFF, fullW, if kind = 0 then 0x7F else if kind = 1 then 7 else if kind = 2 then fullW else 0,
      if kind = 2 then 0x80000007 else 0]
  | 0x230 => some [0xEFFFFFFF, 0x3FF]
  | 0x240 => some [0xFFFE7FFF, 0xFFFF]
  | 0x250 => some [0xFFFFFF00, fullW, fullW]
  | 0x300 => some [0xFFF003FF, fullW, fullW, fullW]
  | 0x310 => some ([0xFF0007FF, fullW, 0x3FFFFFFF, fullW, fullW] ++
      (List.range (bits (wd w 0) 10 0)).flatMap (fun _ => [fullW, 0x1FF]))
  | 0x320 => some [0xFFFF3FFF, fullW, fullW]
  | 0x330 => some [0xFFC0FFFF]
  | 0x331 => some [0xFFF8003F, 0xFFFF]
  | 0x400 => some [0xFFFFFFFC, fullW, fullW, fullW, fullW]
  | 0x401 => some [0xFFF00000]
  | 0x402 => some [0xF8000000, fullW, 0x3FFFFFFF, fullW, fullW]
  | 0x480 => some [0xFFF0FFFF, 0xFFFFF000, fullW, fullW]
  | 0x481 => some [0xFE1FFFFF, 0xFF]
  | 0x482 => some [0xFFFF8000]
  | 0x483 => some (0xFF00003F :: List.replicate (bits (wd w 0) 5 0) 0xFF00FFFF)
  | 0x510 => some (pduMasks w)
  | 0x530 => some [0xFFFC0000, 0xFFFF0FFF, 0x007FFFDF, 0x007FFFC0, fullW, fullW, fullW, fullW, fullW, fullW]
  | 0x540 => some (0xFC0001FF :: List.replicate (bits (wd w 0) 8 0) 0x80FFFFFF)
  | 0x550 => some ([0xFF800000, 0xE3C03FFF, fullW] ++ byteWords (bits (wd w 2) 31 24))
  | 0x700 => some [0xFF8F0000]
  | 0x701 => some [0xFFDF0000]
  | 0x702 => some [0xF800FFFF, 0xFFFF]
  | 0x710 => some [0xFFFF0000, fullW, fullW, fullW]
  | 0x711 => some [0xFFFFFC00, fullW, fullW, fullW, fullW, fullW, fullW, fullW, fullW]
  | 0x780 => some [0xFFE00000, fullW, 0x00FFFFFF]
  | 0x800 => some [0xFFFFFF0B]
  | 0x840 => some [0xFFFFE0FF, 0xFFFFFF00, fullW, 0xFFFF, fullW, 0xFFFF, fullW]
  | 0x841 => some [0xF800FFFF, 0xFFFF]
  | 0x842 => some [0xFF0F0000]
  | 0x843 => some [0xFFFFFF00, 0xFFFF, fullW, 0xFFFF]
  | 0x900 => some [fullW, 0xFFFF0F01, 0xFFFF00FF]
  | 0x910 => some [0xFFFFFFF8, 0xFFFF, fullW, 0x03FFFFFF, 0x07FF0000, fullW]
  | 0x920 => some [0xFFFFFFFC, fullW, fullW]
  | 0x930 => some [0xFFFFFFFE, fullW, 0xFFFEFFFF, fullW]
  | 0x980 => some [0xFFF0FFFF, fullW, fullW, 0xFFFF]
  | 0xA00 => some [0xFFF80FFF, 0xFFFF, fullW, fullW, fullW]
  | _ => none

/-- The unit knows a type: a Basic number of a chapter, the information text, or one of the two Expert records. -/
def Rec.known (r : Rec) : Bool :=
  if r.expert then r.number == 1 || r.number == 2 else r.number == 1 || (recMasks r.number []).isSome

/-- A Basic record has its layout's length, and no unnamed bit is 1 (R539). -/
def fitsLayout (number : Nat) (w : List Nat) : Bool :=
  match recMasks number w with
  | none => true
  | some m => m.length == w.length && (w.zip m).all (fun c => c.1 &&& c.2 == c.1)

/-! ## Ranges of fields -/

/-- A port index field under R25, where partner indices are allowed or not. -/
def portField (joined : Bool) (p : Nat) : Bool := decide (p < 35) || (joined && within p 64 98) || p == 127

/-- A length that a CAN FD frame has. -/
def fdLen (n : Nat) : Bool := decide (n ≤ 8) || [12, 16, 20, 24, 32, 48, 64].contains n

/-- CHANNEL, FMT, FDF and LEN of an edge PDU (spec/09, R287). -/
def edgeForm (lin : Bool) (channel fmt : Nat) (tx fdf : Bool) (len : Nat) : Bool :=
  fmt != 3 && (fmt != 2 || !lin) && (if lin then within channel 24 31 else decide (channel < 24)) && decide (len ≤ 64) &&
    (if lin then decide (len ≤ 8) else if !tx then true else if fdf then fdLen len else decide (len ≤ 8))

/-- PORT_SETUP (spec/03, R25, R73, R89 and its table). -/
def portSetupOk (w : List Nat) : Bool :=
  let p := bits (wd w 0) 31 25
  let role := bits (wd w 0) 19 18
  let isS := within p 26 33
  let isE := within p 10 25
  let frame := bits (wd w 0) 13 0
  let count := bits (wd w 2) 21 16
  let node := bits (wd w 2) 26 22
  decide (p < 34) && modeOffered p (bits (wd w 0) 23 20) && (if isS then decide (role < 3) else if isE then decide (role < 2) else role == 0) &&
    (!isS || !(wd w 0).testBit 17) && (frame == 0 || within frame 64 9216) && ((!isE && !isS) || wd w 1 == 0) &&
    (decide (p < 8) || bits (wd w 2) 31 27 == 0) &&
    (if isS && decide (role < 2) then within count 2 32 && (if role = 0 then node == 0 else within node 1 (count - 1))
     else count == 0 && node == 0) &&
    ((wd w 0).testBit 17 || bits (wd w 2) 7 0 == 0)

/-- A RULE's own fields (spec/04, R128, R129); the action word's conditions that no frame decides are checked beside
the state. -/
def ruleOk (w : List Nat) : Bool :=
  let items := ruleItems (bits (wd w 0) 5 0) (w.drop 4)
  bits (wd w 0) 18 17 != 0 && decide (bits (wd w 0) 5 0 ≤ 35) &&
    items.all (fun c => decide (c.1 < 35) && c.2.1 &&& c.2.2 == c.2.1) && (items.map (fun c => c.1)).Nodup

/-- The gate list of a GATE_LIST: CYCLE and the intervals (spec/06, R193, R202). -/
def gateSum (w : List Nat) : Nat := (List.range (bits (wd w 0) 10 0)).foldl (fun a i => a + wd w (5 + 2 * i)) 0
def gateRecCycle (w : List Nat) : Nat := if wd w 3 = 0 then gateSum w else wd w 3
def gateListOk (w : List Nat) : Bool :=
  let n := bits (wd w 0) 10 0
  let c := gateRecCycle w
  decide (bits (wd w 0) 31 25 < 34) && within n 1 1024 && decide (bits (wd w 2) 29 0 < 1000000000) && c % 2 == 0 && within c 1000 4000000000 &&
    decide (wd w 4 ≤ c) && (List.range n).all (fun i => wd w (5 + 2 * i) % 2 == 0 && within (wd w (5 + 2 * i)) 16 4000000000)

/-- Rates and bursts of a shaper or meter: CIR, CBS, PIR, PBS as given. -/
def ratesOk (w : List Nat) (i : Nat) : Bool :=
  decide (wd w i / 65536 ≤ 33554) && decide (wd w i % 65536 ≤ 16383) && decide (wd w (i + 1) / 65536 ≤ 33554) &&
    decide (wd w (i + 1) % 65536 ≤ 16383)

/-- TIME_SETUP (spec/07, R231). -/
def timeSetupOk (w : List Nat) : Bool :=
  let sync := toSigned 4 (bits (wd w 0) 29 26)
  let pd := toSigned 4 (bits (wd w 0) 25 22)
  decide (bits (wd w 0) 31 30 < 3) && decide (-7 ≤ sync) && decide (sync ≤ 0) && decide (-3 ≤ pd) && decide (pd ≤ 3) &&
    within (bits (wd w 0) 21 12) 1 1000 && decide (bits (wd w 0) 11 2 ≤ 1000) && decide (1 ≤ wd w 1 / 65536) && decide (1 ≤ wd w 1 % 65536) &&
    decide (1 ≤ bits (wd w 2) 15 1)

/-- PPS_OUT (spec/07, R231). -/
def ppsOutOk (w : List Nat) : Bool :=
  decide (wd w 2 < 1000000000) && (wd w 3 == 0 || (wd w 3 % 2 == 0 && within (wd w 3) 2000 4000000000)) &&
    wd w 4 % 2 == 0 && decide (2 ≤ wd w 4) && (wd w 3 == 0 || decide (wd w 4 < wd w 3))

/-- The prescaler and quanta per bit of a rate in kbit/s: the smallest b with N in bounds (spec/08, R254). -/
def canPrescale (kbps lo hi bmax : Nat) : Option (Nat × Nat) :=
  if kbps = 0 ∨ 40000 % kbps ≠ 0 then none
  else
    let q := 40000 / kbps
    ((List.range bmax).map (fun i => i + 1)).findSome? (fun b =>
      if q % b = 0 ∧ lo ≤ q / b ∧ q / b ≤ hi then some (b, q / b) else none)

/-- b, TSEG1 and TSEG2 of a phase, with their bounds (R254). -/
def canPhase (kbps sp lo hi bmax t1max t2max : Nat) : Option (Nat × Nat × Nat) :=
  match canPrescale kbps lo hi bmax with
  | none => none
  | some (b, n) =>
    let x := (n * sp + 500) / 1000
    if x < 2 then none
    else
      let t1 := x - 1
      if n < t1 + 2 then none
      else if t1 ≤ t1max ∧ n - 1 - t1 ≤ t2max then some (b, t1, n - 1 - t1) else none

/-- CAN_SETUP's nominal phase, FD data phase and XL data phase, where they are given. -/
def canNominal (w : List Nat) : Option (Nat × Nat × Nat) :=
  canPhase (bits (wd w 0) 15 0) (if bits (wd w 1) 31 22 = 0 then 800 else bits (wd w 1) 31 22) 1 80 256 256 128
def canData (kbps : Nat) (w : List Nat) : Option (Nat × Nat × Nat) :=
  canPhase kbps (if bits (wd w 1) 21 12 = 0 then 750 else bits (wd w 1) 21 12) 4 40 32 32 16

/-- TDC_EN and TDCO of a data phase: it fits its field (R254). -/
def tdcOk (kbps : Nat) (p : Nat × Nat × Nat) : Bool := decide (kbps ≤ 1000) || decide (p.1 * (1 + p.2.1) ≤ 127)

/-- CAN_SETUP (spec/08, R253, R254). -/
def canSetupOk (w : List Nat) : Bool :=
  let proto := bits (wd w 0) 25 24
  let nom := bits (wd w 0) 15 0
  let sp (v : Nat) : Bool := v == 0 || within v 500 900
  let data := wd w 2 / 65536
  let xl := wd w 2 % 65536
  let dom := wd w 3 / 65536
  let phase (kbps : Nat) : Bool := match canData kbps w with
    | some p => tdcOk kbps p
    | none => false
  decide (bits (wd w 0) 31 27 < 24) && decide (proto < 3) && within nom 10 1000 && sp (bits (wd w 1) 31 22) && sp (bits (wd w 1) 21 12) &&
    (data == 0 || (decide (1 ≤ proto) && within data nom 8000 && phase data)) &&
    (xl == 0 || (proto == 2 && within xl 1000 10000 && phase xl)) && (dom == 0 || decide (32 ≤ dom)) && (canNominal w).isSome

/-- LIN_SETUP, LIN_FRAME and LIN_TABLE (spec/08, R253). -/
def linSetupOk (w : List Nat) : Bool :=
  let brk := bits (wd w 0) 20 16
  decide (24 ≤ bits (wd w 0) 31 27) && (brk == 0 || within brk 13 20) && within (bits (wd w 0) 15 0) 1000 20000
def linFrameOk (w : List Nat) : Bool := decide (24 ≤ bits (wd w 0) 31 27)
def linTableOk (w : List Nat) : Bool :=
  let n := bits (wd w 0) 5 0
  decide (24 ≤ bits (wd w 0) 31 27) && within n 1 32 && (List.range n).all (fun i => decide (1 ≤ wd w (1 + i) % 65536))

/-- A PDU's own fields (spec/09, R287). OFFSET_US 0 is right with the PERIOD_US 0 that R287 leaves to MODE 1 and 3 (DEDUCED, log
entry 71). -/
def pduOk (w : List Nat) : Bool :=
  let d := wd w 1
  let tx := d.testBit 30
  let kind := bits d 29 27
  let len := bits d 6 0
  let mode := bits (wd w 3) 31 30
  let sender := bits (wd w 5) 31 21
  let base := bits (wd w 3) 31 18
  let n := bits (wd w 3) 17 3
  decide (kind ≤ 4) && bits d 26 25 != 3 && (bits d 26 25 != 2 || kind == 0) && decide (len ≤ 64) &&
    (if kind = 0 then edgeForm false (bits d 24 20) (bits d 26 25) tx ((wd w 3).testBit 27) len
     else if kind = 1 then edgeForm true (bits d 24 20) (bits d 26 25) tx false len else true) &&
    (decide (2 ≤ kind) || bits d 19 16 == 0) &&
    (if tx then (mode != 0 && mode != 2 || bits (wd w 4) 25 0 != 0) && (decide (bits (wd w 5) 25 0 < bits (wd w 4) 25 0) || bits (wd w 4) 25 0 == 0 && bits (wd w 5) 25 0 == 0)
     else decide (base + n ≤ 16384) && (decide (sender < 1536) || sender == 2047))

/-- A signed word. -/
def sgnW (v : Nat) : Int := toSigned 32 v

/-- A(s) or B(s) of R286: ⌊x × 2^s ÷ d + ½⌋. -/
def scaleAt (x : Int) (d s : Nat) : Int := (2 * x * (2 ^ s : Nat) + d) / (2 * d : Nat)

/-- The shift, A and B of a route (R286). -/
def routeScale (num : Int) (den : Nat) (off : Int) : Option (Nat × Int × Int) :=
  let ok (x : Int) : Bool := decide (x ≤ 2147483647) && decide (-2147483647 ≤ x)
  ((List.range 32).reverse).findSome? (fun s =>
    if ok (scaleAt num den s) && ok (scaleAt off 65536 s) then some (s, scaleAt num den s, scaleAt off 65536 s) else none)

/-- A ROUTE's own fields (R287). -/
def routeOk (w : List Nat) : Bool :=
  let d := wd w 1
  let dst := d.testBit 30
  bits d 26 25 != 3 && (!dst || (decide (bits d 11 0 < 8) && bits (wd w 3) 13 8 == 31 && (wd w 3).testBit 6)) &&
    (!d.testBit 24 || decide (sgnW (wd w 7) ≤ sgnW (wd w 8))) && wd w 5 != 0 &&
    (routeScale (sgnW (wd w 4)) (wd w 5) (sgnW (wd w 6))).isSome

/-- A CARRIER's own fields (R287). -/
def carrierOk (w : List Nat) : Bool :=
  let f := bits (wd w 1) 30 29
  let h := bits (wd w 2) 31 24
  let add := if f = 0 then 12 else if f = 1 then 28 else 48
  f != 3 && h == bits (wd w 2) 23 16 + add && decide (h ≤ 64) && within (bits (wd w 1) 13 0) (h + 24) 1530

/-- MACsec records (spec/10, R308, R309). -/
def macsecSaOk (w : List Nat) : Bool :=
  let sa := bits (wd w 0) 24 20
  let xpn := (wd w 0).testBit 19
  decide (bits (wd w 0) 31 25 < 10) && (decide (4 ≤ sa) || (wd w 1 == 0 && wd w 2 == 0)) &&
    (xpn || (wd w 5 == 0 && wd w 6 == 0 && wd w 7 == 0 && wd w 8 == 0)) && (wd w 3 != 0 || wd w 4 != 0)

/-- NM_SETUP to NM_MEMBER (spec/13, R379, R380). -/
def wakeInputOk (w : List Nat) : Bool :=
  let n := bits (wd w 0) 31 29
  decide (n < 5) && decide (bits (wd w 0) 15 0 ≤ 63999) && (n != 4 || (wd w 0).testBit 27)
def nmMemberOk (w : List Nat) : Bool :=
  decide (bits (wd w 0) 26 20 < 34) && decide (bits (wd w 0) 19 8 ≤ 4094) && wd w 3 != 0 && !(wd w 1).testBit 8

/-- Lee records (spec/14, R409, R410). -/
def leeFrameOk (w : List Nat) : Bool :=
  let ch := bits (wd w 0) 25 21
  let len := bits (wd w 0) 16 10
  let div := bits (wd w 0) 9 2
  edgeForm (decide (24 ≤ ch)) ch (bits (wd w 0) 20 19) true ((wd w 0).testBit 18) len && decide (1 ≤ len) && decide (1 ≤ div) &&
    (decide (ch < 24) || div == 1) && wd w 2 % 2 == 0
def leeStreamOk (w : List Nat) : Bool :=
  decide (bits (wd w 0) 25 19 < 34) && within (bits (wd w 4) 26 16) 64 1024 && wd w 5 % 2 == 0 &&
    !(wd w 3).testBit (bits (wd w 0) 25 19)
def safSetupOk (w : List Nat) : Bool :=
  let tj := bits (wd w 2) 7 0
  (wd w 0 == 0 || (wd w 0 % 2 == 0 && within (wd w 0) 100000 1000000000)) && (tj == 0 || within tj 80 130)

/-- PAIR_SETUP (spec/15, R446, R447). -/
def pairSetupOk (w : List Nat) : Bool :=
  let filt := bits (wd w 0) 27 20
  let hello := bits (wd w 0) 15 0
  let loss := if wd w 1 / 65536 = 0 then 100 else wd w 1 / 65536
  let apply := wd w 1 % 65536
  let chat := bits (wd w 2) 15 8
  let cells := wd w 3
  decide (bits (wd w 0) 31 30 < 3) && (filt == 0 || decide (16 ≤ filt)) && (hello == 0 || within hello 2 1000) && (apply == 0 || within apply 50 10000) &&
    (chat == 0 || decide (2 ≤ chat)) && (cells == 0 || within cells 8 8192) &&
    decide (3 * (if hello = 0 then 10 else hello) ≤ loss)

/-- MGT_SETUP (spec/16, R479). -/
def mgtSetupOk (w : List Nat) : Bool :=
  let p := bits (wd w 0) 31 25
  (decide (p < 34) || p == 127) && decide (bits (wd w 0) 11 0 ≤ 4094) && !(wd w 1).testBit 8

/-- The fields of a Basic record lie in the ranges that its own layout gives. -/
def rangesOk (number : Nat) (w : List Nat) : Bool :=
  let port := bits (wd w 0) 31 25
  match number with
  | 0x010 => decide (wd w 0 % 65536 ≤ 16000)
  | 0x080 => portSetupOk w
  | 0x100 =>
    let alt := wd w 0 / 65536
    alt == 0 || (decide (0x600 ≤ alt) && !([0x8100, 0x88A8, 0x0800, 0x86DD, 0x22F0, 0xF1C1, 0x88E5, 0x88B5, 0x88F7].contains alt))
  | 0x101 => decide (port < 35)
  | 0x110 => ruleOk w
  | 0x200 => decide (wd w 0 % 65536 ≤ 16384) && decide (wd w 1 / 65536 ≤ 16777) && within (wd w 1 % 65536) 1 16384
  | 0x201 => decide (port < 35) && within (bits (wd w 0) 11 0) 1 4094
  | 0x210 => within (bits (wd w 0) 31 20) 1 4094
  | 0x220 => within (bits (wd w 0) 31 20) 1 4094
  | 0x230 => true
  | 0x240 => decide (port < 35) && decide (bits (wd w 0) 14 0 ≤ 16384) && decide (wd w 1 ≤ 16777)
  | 0x250 => decide (bits (wd w 0) 23 16 ≤ 100) && decide (bits (wd w 0) 15 8 ≤ 100) && decide (wd w 1 / 65536 ≤ 8191) &&
      decide (wd w 1 % 65536 ≤ 8191) && decide (wd w 2 / 65536 ≤ 8191) && decide (wd w 2 % 65536 ≤ 8191)
  | 0x300 => decide (port < 35) && ratesOk w 1 && (!(wd w 0).testBit 21 || decide (wd w 1 / 65536 ≤ wd w 2 / 65536))
  | 0x310 => gateListOk w
  | 0x320 =>
    let sdu := bits (wd w 0) 13 0
    (sdu == 0 || within sdu 64 9216) && ratesOk w 1 && (!(wd w 0).testBit 19 || decide (wd w 1 / 65536 ≤ wd w 2 / 65536))
  | 0x330 => true
  | 0x331 => within (bits (wd w 0) 5 0) 1 32 && decide (1 ≤ wd w 1)
  | 0x400 => timeSetupOk w
  | 0x401 => decide (port < 34)
  | 0x402 => ppsOutOk w
  | 0x480 => canSetupOk w
  | 0x481 => linSetupOk w
  | 0x482 => linFrameOk w
  | 0x483 => linTableOk w
  | 0x510 => pduOk w
  | 0x530 => routeOk w
  | 0x540 => within (bits (wd w 0) 8 0) 1 256
  | 0x550 => carrierOk w
  | 0x700 =>
    let i := bits (wd w 0) 29 23
    (match bits (wd w 0) 31 30 with
      | 0 => decide (i < 35)
      | 1 => decide (i < 32)
      | 2 => decide (i < 36)
      | _ => false)
  | 0x701 => true
  | 0x702 => decide (wd w 0 % 65536 ≤ 16383) && decide (wd w 1 ≤ 33554)
  | 0x710 => decide (port < 10)
  | 0x711 => macsecSaOk w
  | 0x780 => within (bits (wd w 0) 22 21) 1 2
  | 0x800 => decide (bits (wd w 0) 31 20 ≤ 3600)
  | 0x840 =>
    let g := wd w 0 / 65536
    g == 0 || decide (100 ≤ g)
  | 0x841 => wakeInputOk w
  | 0x842 => if (wd w 0).testBit 31 then decide (bits (wd w 0) 30 24 < 32) else decide (bits (wd w 0) 30 24 < 34)
  | 0x843 => nmMemberOk w
  | 0x900 => safSetupOk w
  | 0x910 => leeStreamOk w
  | 0x920 => leeFrameOk w
  | 0x930 => true
  | 0x980 => pairSetupOk w
  | 0xA00 => mgtSetupOk w
  | _ => true

/-! ## Duplicates (R44) -/

/-- What two records of one number must share to be duplicates; none where a record may appear several times without
such a key (FDB_STATIC's is found beside the state). -/
def recKey (number : Nat) (w : List Nat) : Option Nat :=
  let top (lo : Nat) : Option Nat := some (bits (wd w 0) 31 lo)
  match number with
  | 0x080 => top 25
  | 0x101 => top 25
  | 0x110 => top 19
  | 0x201 => top 25
  | 0x210 => top 20
  | 0x230 => top 29
  | 0x240 => top 22
  | 0x250 => top 28
  | 0x300 => top 22
  | 0x310 => top 25
  | 0x320 => top 20
  | 0x330 => top 22
  | 0x331 => top 22
  | 0x401 => top 25
  | 0x402 => top 30
  | 0x480 => top 27
  | 0x481 => top 27
  | 0x482 => top 21
  | 0x483 => top 25
  | 0x510 => top 20
  | 0x530 => top 18
  | 0x540 => top 26
  | 0x550 => top 23
  | 0x700 => top 23
  | 0x701 => top 24
  | 0x702 => top 27
  | 0x710 => top 25
  | 0x711 => top 20
  | 0x780 => top 23
  | 0x841 => top 29
  | 0x842 => top 24
  | 0x843 => top 27
  | 0x910 => top 26
  | 0x920 => top 26
  | 0x930 => top 24
  | 0x001 => none
  | 0x220 => none
  | _ => some 0

/-- A unit that both records are for: records of one key scoped to different units are no duplicates (DESIGN CHOICE: R44 does not
speak of scopes; log entry 67). -/
def Rec.meets (a b : Rec) : Bool := a.scope == 0 || b.scope == 0 || a.scope == b.scope

/-- A record repeats an earlier one (R44). -/
def Rec.duplicates (r : Rec) (earlier : List Rec) : Bool :=
  !r.expert && (match recKey r.number r.words with
    | none => false
    | some k => earlier.any (fun e => !e.expert && e.number == r.number && r.meets e && recKey e.number e.words == some k))

/-! ## Expert records (R46 to R48) -/

/-- The triples of an Expert record: address, mask and data; a BLOCK_WRITE's words are written in full. -/
def Rec.triples (r : Rec) : List (Nat × Nat × Nat) :=
  if r.number = 1 then (List.range (r.val.length / 12)).map (fun i => (r.word (3 * i), r.word (3 * i + 1), r.word (3 * i + 2)))
  else (List.range (r.val.length / 4 - 1)).map (fun i => (r.word 0 + 4 * i, fullW, r.word (1 + i)))

/-- An Expert record has its form: whole triples with no data outside the mask, or a block within one page. -/
def Rec.expertForm (r : Rec) : Bool :=
  if r.number = 1 then r.val.length % 12 == 0 && decide (12 ≤ r.val.length) && r.triples.all (fun t => t.2.2 &&& t.2.1 == t.2.2)
  else within r.val.length 8 4100 && decide (r.word 0 % 4096 + (r.val.length - 4) ≤ 4096)

/-- An address that an Expert write may reach with a mask: a register outside the blocks of R48, none of whose other
than RW fields the mask covers. -/
def expertAddress (a mask : Nat) : Bool :=
  let blk := a / 0x40000
  if a % 4 ≠ 0 ∨ placeOf a ≠ .register ∨ blk = 9 ∧ a < 0x260000 ∨ blk = 13 ∨ blk = 14 then false
  else if 0x81000 ≤ a ∧ a < 0x81120 then
    let o := a - 0x81000
    decide (o < 0x50) || within o 0x80 0xCF || within o 0x100 0x10B || o == 0x110
  else match regAt a with
    | none => false
    | some (d, _) => (mask == 0 || d.rw != 0 || a == K.WVR_PDU_DATA7 0) && mask &&& (d.w1c ||| d.cmd ||| d.ro) == 0

end Sys2Proof.Machine
end

