-- ==== Sys2Proof/Machine/Translate.lean ====
section
/-!
DEFINITION. The translation of Basic records into registers and tables (spec/02, R45 and R49; the Basic record sections
of spec/03 to spec/16), and Expert writes. `live` is true for RECORD_APPLY, which translates one record while the unit
runs (spec/16, R462).
-/

namespace Sys2Proof.Machine

/-- A write to the register of a key, as a write on the register bus does it, without the window's index register. -/
def State.put (s : State) (k : Nat) (mask data : Word) : State :=
  match regAt (k % 0x100000000) with
  | some (d, _) => s.blockWrite d (k % 0x100000000) k mask data
  | none => s

/-- Puts a number into a register. -/
def State.setNat (s : State) (k v : Nat) : State := s.setReg k (BitVec.ofNat 32 v)

/-- Puts a list of numbers into registers. -/
def State.setNats (s : State) : List (Nat × Nat) → State
  | [] => s
  | (k, v) :: r => (s.setNat k v).setNats r

/-- Holds a list of numbers. -/
def State.holdNats (s : State) : List (Nat × Nat) → State
  | [] => s
  | (k, v) :: r => (s.hold k (BitVec.ofNat 32 v)).holdNats r

/-- A field whose value 0 stands for another one. -/
def orElse (v d : Nat) : Nat := if v = 0 then d else v

/-- A bit of a word, as a number. -/
def wb (w i : Nat) : Nat := bits w i i

/-- PORT_SETUP (spec/03, R92). -/
def State.trPort (s : State) (live : Bool) (w : List Nat) : State :=
  let p := bits (wd w 0) 31 25
  let cfg := BitVec.ofNat 32 (bits (wd w 0) 23 18 * 0x40000 + wb (wd w 0) 24)
  let frame := bits (wd w 0) 13 0
  let s := s.setFlds [(F.TS_COMP_TX_COMP p, wd w 1 / 65536 * 256), (F.TS_COMP_RX_COMP p, wd w 1 % 65536 * 256)]
  let s := if frame = 0 then s else s.setFld (F.MAC_FRAME_MAX_FRAME p) frame
  let s := if p < 8 then s.setFld (F.SERDES_CFG_PRTAD p) (bits (wd w 2) 31 27) else s
  let s := if p < 26 then s.setFlds [(F.MERGE_CFG_EN p, wb (wd w 0) 17), (F.MERGE_CFG_ADD_FRAG p, bits (wd w 2) 15 14),
      (F.MERGE_CFG_PMAC_QUEUES p, bits (wd w 2) 7 0)] else s
  let s := if 26 ≤ p then s.setFlds [(F.PLCA_CFG_NODE_ID (p - 26), bits (wd w 2) 26 22), (F.PLCA_CFG_NODE_COUNT (p - 26), bits (wd w 2) 21 16)] else s
  let moved := (s.reg (K.MAC_CFG p) ^^^ cfg) &&& 0x00FC0000 != 0
  let s := if moved then s.writeMacCfg p 1 0 else s
  let s := s.writeMacCfg p 0x00FC0001 cfg
  let s := if live then s else { s with boot := { s.boot with basic := mapSet (fun _ => (0, 0)) s.boot.basic p (frame, bits (wd w 2) 15 14) } }
  let s := if p < 26 then s.noteMerge p else s
  if live || decide (26 ≤ p) then s else s.applyMerge p

/-- PARSER_SETUP and PORT_CLASS (spec/04, R126, R127). -/
def State.trParser (s : State) (live : Bool) (w : List Nat) : State :=
  let alt := wd w 0 / 65536
  let cport := wd w 0 % 65536
  let s := s.setFlds [(F.PRS_TPID_ALT, alt), (F.PRS_TPID_ALT_EN, b2n (alt != 0)), (F.PRS_UDP_CONTAINER_PORT, cport),
    (F.PRS_UDP_CONTAINER_EN, b2n (cport != 0))]
  if live then s else s.setFld F.CLS_GEN_ACTIVE (wb (wd w 1) 0)
def State.trPortClass (s : State) (w : List Nat) : State :=
  let p := bits (wd w 0) 31 25
  s.setFlds [(F.PRS_PORT_DEFAULT_NOMATCH p, bits (wd w 0) 24 23), (F.PRS_PORT_DEFAULT_PARSEERR p, bits (wd w 0) 22 21)]

/-- The key and mask that a RULE's items give (R129). -/
def ruleKey (w : List Nat) : Nat × Nat :=
  (ruleItems (bits (wd w 0) 5 0) (w.drop 4)).foldl (fun a c =>
    let lo := (keyField c.1).2
    (a.1 ||| c.2.1 <<< lo, a.2 ||| c.2.2 <<< lo)) (0, 0)

/-- RULE: the entry is installed as R119 says, VALID last. -/
def State.trRule (s : State) (w : List Nat) : State :=
  let idx := s.reg K.CLS_WIN_INDEX
  let s := (s.setNat K.CLS_WIN_INDEX (bits (wd w 0) 31 19)).clsWriteCtrl 1 0
  let kw (n j : Nat) : Word := BitVec.ofNat 32 (n >>> (32 * j))
  let s := forEach (List.range 20) (fun j s => (s.clsWriteWord j 0xFFFFFFFF (kw (ruleKey w).1 j)).clsWriteWord (20 + j) 0xFFFFFFFF (kw (ruleKey w).2 j)) s
  let s := forEach (List.range 3) (fun j s => s.clsWriteWord (40 + j) 0xFFFFFFFF (BitVec.ofNat 32 (wd w (1 + j)))) s
  (s.clsWriteCtrl 7 (BitVec.ofNat 32 (1 + 2 * bits (wd w 0) 18 17))).setReg K.CLS_WIN_INDEX idx

/-- BUF_SETUP, PORT_L2 and VLAN (spec/05, R166). -/
def State.trBuf (s : State) (w : List Nat) : State :=
  s.setFlds [(F.FDB_CFG_AGE_S, wd w 0 / 65536), (F.BUF_CFG_LOW_WATER, wd w 0 % 65536 * 8), (F.VOQ_CFG_MAX_CELLS, wd w 1 % 65536 * 8),
    (F.VOQ_AGE_AGE_LIMIT, wd w 1 / 65536 * 1000), (F.BUF_CFG_QUAR_LIMIT, wd w 2)]
def State.trPortL2 (s : State) (w : List Nat) : State :=
  let p := bits (wd w 0) 31 25
  s.setFlds [(F.PORT_L2_LEARN_EN p, wb (wd w 0) 24), (F.PORT_L2_CT_EN p, wb (wd w 0) 23), (F.PORT_L2_DEFAULT_PCP p, bits (wd w 0) 22 20),
    (F.PORT_L2_PVID p, bits (wd w 0) 11 0), (F.PORT_PCP_MAP p, bits (wd w 1) 23 0)]
def State.trVlan (s : State) (w : List Nat) : State :=
  let v := bits (wd w 0) 31 20
  let s := (((s.unhold (K.VLAN_WIN_DATA0 0)).unhold (K.VLAN_WIN_DATA1 0)).unhold (K.VLAN_WIN_DATA2 0))
  s.setNats [(K.VLAN_WIN_DATA0 v, 2 ^ 31 + bits (wd w 0) 7 5 * 2 ^ 28 + bits (wd w 0) 19 8 * 65536), (K.VLAN_WIN_DATA1 v, wd w 1),
    (K.VLAN_WIN_DATA2 v, wb (wd w 0) 4 * 2 ^ 31 + wd w 2), (K.VLAN_WIN_DATA3 v, wd w 3)]

/-- FID and address of an FDB_STATIC. -/
def State.staticKey (s : State) (w : List Nat) : Nat × Nat :=
  (s.fld (F.VLAN_WIN_DATA0_FID (bits (wd w 0) 31 20)), wd w 0 % 65536 * 0x100000000 + wd w 1)

/-- FDB_STATIC (R166): a KIND 2 takes a multicast group, the next one or its entry's own. The entry takes the key's way,
a free one, or the first that a dynamic entry holds. -/
def State.trStatic (s : State) (w : List Nat) : State :=
  let kind := bits (wd w 0) 19 18
  let (fid, mac) := s.staticKey w
  let old := s.fdbFind fid mac
  let used := (s.data.fdb.filter (fun c => match c.2 with
    | some e => e.static && e.kind == 2
    | none => false)).length
  let group := match old with
    | some (_, e) => if e.static && e.kind == 2 then e.dest else used
    | none => used
  let s := if kind = 2 then s.setNats [(K.MCG_WIN_DATA0 group, wd w 2), (K.MCG_WIN_DATA1 group, wd w 3)] else s
  let dest := if kind = 0 then wd w 2 % 128 else if kind = 1 then wd w 2 % 8 else if kind = 2 then group else 0
  let way := match old with
    | some (i, _) => some i
    | none => (match s.fdbFree fid mac with
      | some i => some i
      | none => (fdbWays fid mac).find? (fun i => match s.fdbAt i with
        | some e => !e.static
        | none => false))
  match way with
  | some i => s.setFdb i (some ⟨fid, mac, true, false, kind, dest⟩)
  | none => s

/-- The administrative slot of a bucket: the (b mod n)-th non-empty slot (R166). -/
def lagSlot (members b : Nat) : Nat :=
  let l := (List.range 4).filter (fun i => bits members (7 * i + 6) (7 * i) != 127)
  if l.isEmpty then 0 else l.getD (b % l.length) 0

/-- LAG, QUEUE and WRED (R166). -/
def State.trLag (s : State) (w : List Nat) : State :=
  let g := bits (wd w 0) 31 29
  let m := bits (wd w 0) 27 0
  let s := s.setFlds [(F.LAG_CFG_MEMBERS g, m), (F.LAG_SEL_SEL g, wd w 1), (F.LAG_SEL_EN g, 1)]
  forEach (List.range 16) (fun j s => s.setNat (K.LAG_WIN_TABLE j g)
    ((List.range 16).foldl (fun a i => a + lagSlot m (16 * j + i) * 4 ^ i) 0)) s
def State.trQueue (s : State) (w : List Nat) : State :=
  let q := 8 * bits (wd w 0) 31 25 + bits (wd w 0) 24 22
  let kib := bits (wd w 0) 14 0
  s.setFlds [(F.QUE_WIN_CFG_WRED_EN q, wb (wd w 0) 21), (F.QUE_WIN_CFG_WRED_PROFILE q, bits (wd w 0) 20 17),
    (F.QUE_WIN_CFG_MAX_CELLS q, if kib = 0 then 131072 else kib * 8), (F.QUE_WIN_AGE_AGE_LIMIT q, wd w 1 * 1000)]
def State.trWred (s : State) (w : List Nat) : State :=
  let i := bits (wd w 0) 31 28
  s.setFlds [(F.WRED_G_THR_MAX i, wd w 1 / 65536 * 8), (F.WRED_G_THR_MIN i, wd w 1 % 65536 * 8), (F.WRED_Y_THR_MAX i, wd w 2 / 65536 * 8),
    (F.WRED_Y_THR_MIN i, wd w 2 % 65536 * 8), (F.WRED_PARAM_W i, bits (wd w 0) 27 24),
    (F.WRED_PARAM_Y_PMAX i, (bits (wd w 0) 15 8 * 256 + 50) / 100), (F.WRED_PARAM_G_PMAX i, (bits (wd w 0) 23 16 * 256 + 50) / 100)]

/-- What the image's PORT_SETUP gives a port: its MAX_FRAME, or the value of R202 where it gives none, and its MIN_FRAG_CODE. -/
def State.basicOf (s : State) (p : Nat) : Nat × Nat := mapGet (fun _ => (0, 0)) s.boot.basic p
def State.basicFrame (s : State) (p : Nat) : Nat := if p = 34 then 9216 else orElse (s.basicOf p).1 1530

/-- SCHED_QUEUE (spec/06, R202): a burst of 0 KiB is the MAX_FRAME that the image's Basic records give the port. -/
def State.trSched (s : State) (w : List Nat) : State :=
  let p := bits (wd w 0) 31 25
  let q := 8 * p + bits (wd w 0) 24 22
  let burst (kib : Nat) : Nat := if kib = 0 then s.basicFrame p else kib * 1024
  let s := s.put (K.SCH_QUE_CFG q) 0x3FF (BitVec.ofNat 32 (bits (wd w 0) 9 0))
  let s := s.holdNats [(K.SHP_CIR q, wd w 1 / 65536 * 1000), (K.SHP_CBS q, burst (wd w 1 % 65536)), (K.SHP_PIR q, wd w 2 / 65536 * 1000),
    (K.SHP_PBS q, burst (wd w 2 % 65536))]
  let s := s.put (K.SHP_CTRL q) 7 (BitVec.ofNat 32 (1 + 2 * wb (wd w 0) 21 + 4 * wb (wd w 0) 20))
  s.setNat (K.SCH_LAUNCH q) (wd w 3)

/-- GATE_HOLD_ADV: ⌈(64 × (ADD_FRAG + 1) + 75) × 8 ÷ rate⌉ ns, ADD_FRAG being the MIN_FRAG_CODE of the image's PORT_SETUP
(R202). -/
def State.holdAdv (s : State) (p : Nat) : Nat :=
  let n := (64 * ((s.basicOf p).2 + 1) + 75) * 8 * 1000
  if s.portRate p = 0 then 0 else (n + s.portRate p - 1) / s.portRate p

/-- GATE_LIST (R202): before forwarding CONFIG_CHANGE waits for it; in a running unit it is made at once. -/
def State.trGate (s : State) (live : Bool) (w : List Nat) : State :=
  let p := bits (wd w 0) 31 25
  let en := wb (wd w 0) 24
  let n := bits (wd w 0) 10 0
  let s := s.writeAdmin p fun s =>
    let s := forEach (List.range n) (fun i s => s.setNats [(K.GATE_WIN_INTERVAL (gateKey p 0 i), wd w (5 + 2 * i)), (K.GATE_WIN_OP (gateKey p 0 i), wd w (6 + 2 * i))]) s
    s.setNats [(K.GATE_ADMIN_BASE_S_LO p, wd w 1), (K.GATE_ADMIN_BASE_S_HI p, 0), (K.GATE_ADMIN_BASE_NS p, wd w 2),
      (K.GATE_ADMIN_CYCLE p, gateRecCycle w), (K.GATE_ADMIN_EXT p, wd w 4), (K.GATE_ADMIN_LEN p, n)]
  let s := s.setFld (F.GATE_HOLD_ADV_ADV_NS p) (s.holdAdv p)
  if live then s.put (K.GATE_CTRL p) 3 (BitVec.ofNat 32 (3 * en))
  else { s.setFld (F.GATE_CTRL_GATE_EN p) en with boot := { s.boot with gateStart := if en = 1 then s.boot.gateStart ++ [p] else s.boot.gateStart } }

/-- STREAM, FRER_GEN and FRER_REC (R202). -/
def State.trStream (s : State) (w : List Nat) : State :=
  let i := bits (wd w 0) 31 20
  let burst (kib : Nat) : Nat := if kib = 0 then 9216 else kib * 1024
  let s := s.put (K.STRM_WIN_FILTER i) 0x001D3FFF (BitVec.ofNat 32 (wb (wd w 0) 17 * 2 ^ 20 + wb (wd w 0) 18 * 2 ^ 19 + wb (wd w 0) 19 * 2 ^ 18 +
    wb (wd w 0) 16 * 2 ^ 16 + bits (wd w 0) 13 0))
  let s := s.holdNats [(K.MTR_CIR i, wd w 1 / 65536 * 1000), (K.MTR_CBS i, burst (wd w 1 % 65536)), (K.MTR_PIR i, wd w 2 / 65536 * 1000),
    (K.MTR_PBS i, burst (wd w 2 % 65536))]
  s.put (K.MTR_CTRL i) 3 1
def State.trFrerGen (s : State) (w : List Nat) : State :=
  s.setNat (K.SEQG_WIN_CFG (bits (wd w 0) 31 22)) (2 ^ 31 + wd w 0 % 65536)
def State.trFrerRec (s : State) (w : List Nat) : State :=
  s.put (K.SEQR_WIN_CFG (bits (wd w 0) 31 22)) 0xFFFFFFFF (BitVec.ofNat 32 (2 ^ 31 + bits (wd w 0) 21 19 * 2 ^ 28 + bits (wd w 0) 5 0 * 2 ^ 22 + wd w 1))

/-- SERVO_KP or SERVO_KI: ⌊x × 2^41 ÷ (1,000 × τ) + ½⌋, with τ = 10^9 × 2^−k ns (spec/07, R231). -/
def servoGain (x k : Nat) : Nat := (2 * x * 2 ^ (41 + k) + 1000000000000) / 2000000000000

/-- TIME_SETUP, GPTP_PORT and PPS_OUT (spec/07, R231). -/
def State.trTime (s : State) (w : List Nat) : State :=
  let src := bits (wd w 0) 31 30
  let k := if src = 1 then 0 else (-(toSigned 4 (bits (wd w 0) 29 26))).toNat
  let s := s.setFlds [(F.GPTP_CFG_SYNC_LOG, bits (wd w 0) 29 26), (F.GPTP_CFG_PDELAY_LOG, bits (wd w 0) 25 22), (F.GPTP_CFG_NB_THRESH, wd w 2 / 65536),
    (F.SERVO_KP_GAIN, servoGain (bits (wd w 0) 21 12) k), (F.SERVO_KI_GAIN, servoGain (bits (wd w 0) 11 2) k), (F.SERVO_THR_LOCK_NS, wd w 1 / 65536),
    (F.SERVO_STEP_STEP_NS, wd w 1 % 65536 * 1000), (F.PPS_IN_CFG_WINDOW_NS, bits (wd w 2) 15 1 * 1000), (F.PPS_IN_CFG_FALLING, wb (wd w 2) 0),
    (F.PPS_IN_CFG_EN, b2n (src == 1))]
  (s.setNats [(K.GPTP_CLOCK_ID_HI, wd w 3), (K.GPTP_CLOCK_ID_LO, wd w 4)]).writeSource src
def State.trGptp (s : State) (w : List Nat) : State :=
  let p := bits (wd w 0) 31 25
  s.setFlds [(F.GPTP_PORT_CFG_ROLE p, bits (wd w 0) 24 23), (F.GPTP_PORT_CFG_QUEUE p, bits (wd w 0) 22 20)]
def State.trPps (s : State) (w : List Nat) : State :=
  let n := bits (wd w 0) 31 30
  let s := s.put (K.PPS_OUT_CTRL n) 1 0
  let s := s.setNats [(K.PPS_OUT_START_S_LO n, wd w 1), (K.PPS_OUT_START_S_HI n, 0), (K.PPS_OUT_START_NS n, wd w 2), (K.PPS_OUT_PERIOD n, wd w 3),
    (K.PPS_OUT_WIDTH n, wd w 4)]
  s.put (K.PPS_OUT_CTRL n) 0xD (BitVec.ofNat 32 (wb (wd w 0) 29 + 4 * wb (wd w 0) 28 + 8 * wb (wd w 0) 27))

/-- A data phase's register: TDC above 1,000 kbit/s (spec/08, R254). -/
def dataPhase (kbps : Nat) (w : List Nat) : Nat :=
  match canData kbps w with
  | some (b, t1, t2) =>
    (if 1000 < kbps then 2 ^ 25 + b * (1 + t1) * 2 ^ 18 else 0) + (t2 - 1) * 2 ^ 14 + (t2 - 1) * 2 ^ 10 + (t1 - 1) * 32 + (b - 1)
  | none => 0

/-- CAN_SETUP (R253): the channel is disabled while its bit timing is written (R237). -/
def State.trCan (s : State) (w : List Nat) : State :=
  let n := bits (wd w 0) 31 27
  let s := s.put (K.CAN_CTRL n) 3 0
  let s := match canNominal w with
    | some (b, t1, t2) => s.setNat (K.CAN_NBT n) ((t2 - 1) * 2 ^ 23 + (t2 - 1) * 65536 + (t1 - 1) * 256 + (b - 1))
    | none => s
  let s := if wd w 2 / 65536 = 0 then s else s.setNat (K.CAN_DBT n) (dataPhase (wd w 2 / 65536) w)
  let s := if wd w 2 % 65536 = 0 then s else s.setNat (K.CAN_XBT n) (dataPhase (wd w 2 % 65536) w)
  let s := s.setFlds [(F.CAN_XL_PWM_TMS_EN n, wb (wd w 0) 21), (F.CAN_XL_PWM_PWMS n, 12), (F.CAN_XL_PWM_PWML n, 28), (F.CAN_XL_PWM_PWMO n, 0),
    (F.CAN_LIMITS_DOM_LIMIT n, orElse (wd w 3 / 65536) 256), (F.CAN_LIMITS_BUSOFF_HOLD_MS n, bits (wd w 3) 15 8), (F.CAN_LIMITS_TX_RETRY n, bits (wd w 3) 7 0)]
  let mode := if wb (wd w 0) 26 = 0 then 0 else 1 + wb (wd w 0) 23
  s.put (K.CAN_CTRL n) 0xF03 (BitVec.ofNat 32 (mode + bits (wd w 0) 25 24 * 256 + wb (wd w 0) 22 * 1024 + wb (wd w 0) 20 * 2048))

/-- LIN_SETUP, LIN_FRAME and LIN_TABLE (R253). -/
def State.trLin (s : State) (w : List Nat) : State :=
  let n := bits (wd w 0) 31 27 - 24
  let rate := bits (wd w 0) 15 0
  let s := s.put (K.LIN_CTRL n) 3 0
  let s := s.setFlds [(F.LIN_BAUD_DIV n, (80000000 + rate) / (2 * rate)), (F.LIN_CFG_STUCK_MS n, orElse (wd w 1) 100),
    (F.LIN_CFG_BREAK_BITS n, orElse (bits (wd w 0) 20 16) 13)]
  s.put (K.LIN_CTRL n) 3 (BitVec.ofNat 32 (if wb (wd w 0) 26 = 0 then 0 else wb (wd w 0) 25 + 1))
def State.trLinFrame (s : State) (w : List Nat) : State :=
  let n := bits (wd w 0) 31 27 - 24
  let id := bits (wd w 0) 26 21
  s.setFlds [(F.LIN_FRAME_CFG_DIR n id, bits (wd w 0) 20 19), (F.LIN_FRAME_CFG_ENHANCED n id, wb (wd w 0) 18),
    (F.LIN_FRAME_CFG_LEN_M1 n id, (bits (wd w 0) 17 15 + 7) % 8)]
def State.trLinTable (s : State) (live : Bool) (w : List Nat) : State :=
  let n := bits (wd w 0) 31 27 - 24
  let t := bits (wd w 0) 26 25
  let c := bits (wd w 0) 5 0
  let s := forEach (List.range c) (fun i s => s.setNat (K.LIN_SCHED_ENTRY n (32 * t + i)) (wd w (1 + i))) s
  let s := s.setReg (K.LIN_TABLE_LEN n) (putBits (s.reg (K.LIN_TABLE_LEN n)) (8 * t + 5) (8 * t) c)
  if live || wb (wd w 0) 24 == 0 then s else { s with boot := { s.boot with linStart := s.boot.linStart ++ [4 * n + t] } }

/-- PDU (spec/09, R285). -/
def State.trPdu (s : State) (w : List Nat) : State :=
  let i := bits (wd w 0) 31 20
  let s := s.holdNats [(K.WVR_PDU_DATA0 i, wd w 1 ||| 0x80000000), (K.WVR_PDU_DATA1 i, wd w 2), (K.WVR_PDU_DATA2 i, wd w 3), (K.WVR_PDU_DATA3 i, wd w 4),
    (K.WVR_PDU_DATA4 i, wd w 5), (K.WVR_PDU_DATA5 i, wd w 6), (K.WVR_PDU_DATA6 i, wd w 7)]
  let s := s.commitPdu i
  if (wd w 1).testBit 30 then s.setImage i (padTo 64 0 ((w.drop 8).flatMap (beBytes 4))) else s

/-- ROUTE (R286). -/
def State.trRoute (s : State) (w : List Nat) : State :=
  let r := bits (wd w 0) 31 18
  match routeScale (sgnW (wd w 4)) (wd w 5) (sgnW (wd w 6)) with
  | none => s
  | some (sh, a, b) =>
    let s := s.holdNats [(K.WVR_RT_DATA0 r, wd w 1 ||| 0x00800000), (K.WVR_RT_DATA1 r, (wd w 2 &&& 0xFFFFFFE0) + sh), (K.WVR_RT_DATA2 r, wd w 3),
      (K.WVR_RT_DATA3 r, ofSigned 32 a), (K.WVR_RT_DATA4 r, ofSigned 32 b), (K.WVR_RT_DATA5 r, wd w 7), (K.WVR_RT_DATA6 r, wd w 8)]
    s.commitRoute r (BitVec.ofNat 32 (wd w 9))

/-- ENUM and CARRIER (R285). -/
def State.trEnum (s : State) (w : List Nat) : State :=
  let t := bits (wd w 0) 31 26
  let n := bits (wd w 0) 8 0
  forEach (List.range 256) (fun i s => s.setNat (K.WVR_ENUM_DATA (256 * t + i)) (if i < n then wd w (1 + i) else 0x80000000)) s
def State.trCarrier (s : State) (w : List Nat) : State :=
  let c := bits (wd w 0) 31 23
  let n := w.length - 3
  let s := s.holdNats ((K.WVR_CAR_CFG0 c, wd w 1 ||| 0x80000000) :: (List.range 16).map (fun j => (K.WVR_CAR_TPL j c, if j < n then wd w (3 + j) else 0)))
  s.commitCarrier c (BitVec.ofNat 32 (wd w 2))

/-- ZONE_MEMBER, ZONE_PAIR and ZONE_POLICER (spec/10, R308). -/
def State.trZone (s : State) (w : List Nat) : State :=
  let i := bits (wd w 0) 29 23
  let z := bits (wd w 0) 19 16
  match bits (wd w 0) 31 30 with
  | 0 => s.setFld (F.ZONE_PORT_ZONE i) z
  | 1 => s.setFld (F.ZONE_CHAN_ZONE i) z
  | _ => s.setFld (F.ZONE_PARTNER_ZONE i) z
def State.trZonePair (s : State) (w : List Nat) : State :=
  let i := bits (wd w 0) 31 24
  s.setFlds [(F.ZONE_PAIR_PERMIT i, wb (wd w 0) 23), (F.ZONE_PAIR_POL_EN i, wb (wd w 0) 22), (F.ZONE_PAIR_POLICER i, bits (wd w 0) 20 16)]
def State.trPolicer (s : State) (w : List Nat) : State :=
  let i := bits (wd w 0) 31 27
  let kib := wd w 0 % 65536
  let s := s.holdNats [(K.ZPOL_RATE i, wd w 1 * 1000), (K.ZPOL_BURST i, if kib = 0 then 9216 else kib * 1024)]
  s.put (K.ZPOL_CTRL i) 7 3

/-- MACSEC_PORT and MACSEC_SA (R308). -/
def State.trSec (s : State) (live : Bool) (w : List Nat) : State :=
  let p := bits (wd w 0) 31 25
  let s := s.setFlds [(F.SEC_CFG_TX_EN p, wb (wd w 0) 24), (F.SEC_CFG_RX_EN p, wb (wd w 0) 23), (F.SEC_CFG_VALIDATE p, wb (wd w 0) 22),
    (F.SEC_CFG_INCLUDE_SCI p, wb (wd w 0) 21), (F.SEC_CFG_BYPASS_PTP p, wb (wd w 0) 20), (F.SEC_CFG_REPLAY p, wb (wd w 0) 19),
    (F.SEC_CFG_TX_CONF p, wb (wd w 0) 18), (F.SEC_CFG_TX_AN p, bits (wd w 0) 17 16)]
  let s := s.setNats [(K.SEC_REPLAY p, wd w 1), (K.SEC_TX_SCI_HI p, wd w 2), (K.SEC_TX_SCI_LO p, wd w 3)]
  if live then s else s.applyTxAn p
def State.trSa (s : State) (w : List Nat) : State :=
  let p := bits (wd w 0) 31 25
  let i := bits (wd w 0) 24 20
  let s := s.holdNats [(K.SEC_SA_SCI_HI p i, wd w 1), (K.SEC_SA_SCI_LO p i, wd w 2), (K.SEC_SA_PN_HI p i, wd w 3), (K.SEC_SA_PN_LO p i, wd w 4),
    (K.SEC_SA_SALT2 p i, wd w 5), (K.SEC_SA_SALT1 p i, wd w 6), (K.SEC_SA_SALT0 p i, wd w 7), (K.SEC_SA_SSCI p i, wd w 8)]
  s.commitSa p i (BitVec.ofNat 32 (2 ^ 31 + wb (wd w 0) 19 * 2 ^ 30 + bits (wd w 0) 18 10 * 2 ^ 21))

/-- SLOT_DERIVE and LEDGER_SETUP (spec/11, R340; spec/12, R352). -/
def State.trSlot (s : State) (w : List Nat) : State := s.slotDerive (bits (wd w 0) 31 23) (bits (wd w 0) 22 21) (wd w 1) (wd w 2)
def State.trLedger (s : State) (w : List Nat) : State :=
  s.setFlds [(F.LDG_CFG_PERIOD_S, orElse (bits (wd w 0) 31 20) 60), (F.LDG_CFG_STALE_MS, orElse (bits (wd w 0) 19 8) 200),
    (F.LDG_CFG_STANDBY_EN, wb (wd w 0) 3), (F.LDG_CFG_M1_EN, wb (wd w 0) 1), (F.LDG_CFG_M0_EN, wb (wd w 0) 0)]

/-- NM_SETUP, WAKE_INPUT, NM_ASSIGN and NM_MEMBER (spec/13, R379). -/
def State.trNm (s : State) (w : List Nat) : State :=
  let awake := wd w 2 / 65536
  let s := s.setFlds [(F.NM_CFG_GUARD_US, orElse (wd w 0 / 65536) 2000), (F.NM_CFG_CALM_EN, wb (wd w 0) 15), (F.NM_CFG_WAKE_OUT_EN, wb (wd w 0) 14),
    (F.NM_CFG_CALM_XTAL, 1 - wb (wd w 0) 13), (F.NM_CFG_PULSE, orElse (bits (wd w 0) 7 0) 10), (F.NM_TIMING_IDLE_MS, orElse (wd w 1 / 65536) 1000),
    (F.NM_TIMING_RSP_MS, orElse (bits (wd w 1) 15 8) 5), (F.NM_LIMITS_MAX_AWAKE_S, if awake = 65535 then 0 else orElse awake 300),
    (F.NM_LIMITS_RETRY_MS, orElse (wd w 2 % 65536) 100), (F.WAKE_LIMITS_STUCK, (orElse (wd w 6 / 65536) 5000 + 99) / 100),
    (F.WAKE_LIMITS_CHATTER_N, orElse (bits (wd w 6) 15 8) 16), (F.WAKE_LIMITS_CHATTER_MS, orElse (bits (wd w 6) 7 0) 100)]
  (s.setNats [(K.NM_SA_HI, wd w 3), (K.NM_SA_LO, wd w 4)]).writeSleepEn (wd w 5)
def State.trWakeIn (s : State) (w : List Nat) : State :=
  let n := bits (wd w 0) 31 29
  let us := orElse (wd w 0 % 65536) (if n = 4 then 50 else 1000)
  let cfg := wb (wd w 0) 28 * 2 ^ 31 + wb (wd w 0) 27 * 2 ^ 30 + (us * 2048 + 1000) / 2000
  (s.writeWakeIn n (K.WAKE_IN_CFG n) (BitVec.ofNat 32 cfg)).writeWakeIn n (K.WAKE_IN_GROUPS n) (BitVec.ofNat 32 (wd w 1))
def State.trAssign (s : State) (w : List Nat) : State :=
  let i := bits (wd w 0) 30 24
  let k := if (wd w 0).testBit 31 then K.NM_CHAN_GROUP (i / 8) else K.NM_PORT_GROUP (i / 8)
  s.setReg k (putBits (s.reg k) (4 * (i % 8) + 3) (4 * (i % 8)) (bits (wd w 0) 19 16))
def State.trMember (s : State) (w : List Nat) : State :=
  let i := bits (wd w 0) 31 27
  s.setNats [(K.NM_MBR_DATA0 i, 2 ^ 31 + bits (wd w 0) 26 20 * 2 ^ 24 + bits (wd w 0) 19 8 * 2 ^ 12), (K.NM_MBR_DATA1 i, wd w 1), (K.NM_MBR_DATA2 i, wd w 2),
    (K.NM_MBR_DATA3 i, wd w 3)]

/-- SAF_SETUP and the Lee entries (spec/14, R409). -/
def State.trSaf (s : State) (w : List Nat) : State :=
  s.setFlds [(F.LEE_CFG_CYCLE_NS, orElse (wd w 0) 1000000), (F.SAF_CFG_EXIT_MS, wd w 1 / 65536), (F.SAF_CFG_EXIT_LIMIT, bits (wd w 1) 11 8),
    (F.SAF_CFG_QUAR_FATAL, wb (wd w 1) 0), (F.LEE_EDGE_EDGE_SETUP_US, orElse (wd w 2 / 65536) 2000), (F.SAF_CFG_TJ_WARN, orElse (bits (wd w 2) 7 0) 120)]
def State.trLee (s : State) (number : Nat) (w : List Nat) : State :=
  let l := w.map (BitVec.ofNat 32)
  if number = 0x910 then { s with saf := { s.saf with streams := mapSet (fun _ => []) s.saf.streams (bits (wd w 0) 31 26) l } }
  else if number = 0x920 then { s with saf := { s.saf with frames := mapSet (fun _ => []) s.saf.frames (bits (wd w 0) 31 26) l } }
  else { s with saf := { s.saf with routes := mapSet (fun _ => []) s.saf.routes (bits (wd w 0) 31 24) l } }

/-- PAIR_SETUP: MODE 1 puts the unit into STARTING, MODE 2 into JOIN_SUSPENDED (spec/15, R418, R438, R446). -/
def State.trPair (s : State) (w : List Nat) : State :=
  let mode := bits (wd w 0) 31 30
  let s := s.setFlds [(F.PAIR_CFG_MODE, mode), (F.PAIR_CFG_TIME_PAIR, wb (wd w 0) 29), (F.PAIR_CFG_P1_EN, wb (wd w 0) 28),
    (F.PAIR_CFG_HOLD_FILTER, orElse (bits (wd w 0) 27 20) 64), (F.PAIR_CFG_HELLO_US, orElse (wd w 0 % 65536) 10),
    (F.PAIR_TIMING_LOSS_US, orElse (wd w 1 / 65536) 100), (F.PAIR_TIMING_APPLY_US, orElse (wd w 1 % 65536) 200),
    (F.PAIR_HOLD_STUCK_US, orElse (wd w 2 / 65536) 1000), (F.PAIR_HOLD_CHATTER_N, orElse (bits (wd w 2) 15 8) 8),
    (F.PAIR_CREDIT_CELLS, orElse (wd w 3) 256), (F.PAIR_CREDIT_INTERVAL_US, orElse (bits (wd w 2) 7 0) 1)]
  s.setRole (if mode = 1 then 1 else if mode = 2 then 7 else 0)

/-- MGT_SETUP (spec/16, R479). -/
def State.trMgt (s : State) (w : List Nat) : State :=
  let s := s.setFlds [(F.MGT_CFG_EVT_PORT, bits (wd w 0) 31 25), (F.MGT_CFG_EVT_ORIGIN, bits (wd w 0) 24 19), (F.MGT_CFG_EVT_VID, bits (wd w 0) 11 0)]
  s.setNats [(K.MGT_EVT_MAC_HI, wd w 1), (K.MGT_EVT_MAC_LO, wd w 2), (K.MGT_ORIGIN_EN 1, wd w 3), (K.MGT_ORIGIN_EN 0, wd w 4)]

/-- START_OPTIONS (spec/02, R45). -/
def State.trStart (s : State) (w : List Nat) : State :=
  { s.setFld F.BOOT_HOLD_HOLD_US (wd w 0 % 65536 * 1000) with boot := { s.boot with fallback := (wd w 0).testBit 16 } }

/-- The translation of a Basic record of a number with its value's words. -/
def State.translate (s : State) (live : Bool) (number : Nat) (w : List Nat) : State :=
  match number with
  | 0x010 => s.trStart w
  | 0x080 => s.trPort live w
  | 0x100 => s.trParser live w
  | 0x101 => s.trPortClass w
  | 0x110 => s.trRule w
  | 0x200 => s.trBuf w
  | 0x201 => s.trPortL2 w
  | 0x210 => s.trVlan w
  | 0x220 => s.trStatic w
  | 0x230 => s.trLag w
  | 0x240 => s.trQueue w
  | 0x250 => s.trWred w
  | 0x300 => s.trSched w
  | 0x310 => s.trGate live w
  | 0x320 => s.trStream w
  | 0x330 => s.trFrerGen w
  | 0x331 => s.trFrerRec w
  | 0x400 => s.trTime w
  | 0x401 => s.trGptp w
  | 0x402 => s.trPps w
  | 0x480 => s.trCan w
  | 0x481 => s.trLin w
  | 0x482 => s.trLinFrame w
  | 0x483 => s.trLinTable live w
  | 0x510 => s.trPdu w
  | 0x530 => s.trRoute w
  | 0x540 => s.trEnum w
  | 0x550 => s.trCarrier w
  | 0x700 => s.trZone w
  | 0x701 => s.trZonePair w
  | 0x702 => s.trPolicer w
  | 0x710 => s.trSec live w
  | 0x711 => s.trSa w
  | 0x780 => s.trSlot w
  | 0x800 => s.trLedger w
  | 0x840 => s.trNm w
  | 0x841 => s.trWakeIn w
  | 0x842 => s.trAssign w
  | 0x843 => s.trMember w
  | 0x900 => s.trSaf w
  | 0x910 => s.trLee 0x910 w
  | 0x920 => s.trLee 0x920 w
  | 0x930 => s.trLee 0x930 w
  | 0x980 => s.trPair w
  | 0xA00 => s.trMgt w
  | _ => s

/-- The numbers whose translation another record's reads, before it: the result is then the same wherever the records
stand in the image, as R202 asks of MAX_FRAME and MIN_FRAG_CODE. -/
def firstNumbers : List Nat := [0x980, 0x080, 0x210, 0x400, 0x550, 0x700, 0x701, 0x711, 0x481, 0x510]

/-- The Basic records of a list for a unit, translated (R49). -/
def State.translateAll (s : State) (u : Nat) (l : List Rec) : State :=
  let l := l.filter (fun r => !r.expert && r.forUnit u)
  let one (r : Rec) (s : State) : State := s.translate false r.number r.words
  let s := forEach firstNumbers (fun n s => forEach (l.filter (fun r => r.number == n)) one s) s
  forEach (l.filter (fun r => !firstNumbers.contains r.number)) one s

/-- The Expert writes of a list for a unit, in image order (R46, R47, R49). -/
def State.expertAll (s : State) (u : Nat) (l : List Rec) : State :=
  forEach (l.filter (fun r => r.expert && r.forUnit u)) (fun r s =>
    forEach r.triples (fun t s => s.busWrite t.1 (BitVec.ofNat 32 t.2.1) (BitVec.ofNat 32 t.2.2)) s) s

/-! ## What a record asks of the others (check 10 of R54, R462) -/

/-- Other elements of a list conflict with one. -/
def anyOther (i : Nat) (l : List Nat) (f : Nat → Bool) : Bool := l.any (fun j => j != i && f j)

/-- A port index of a destination is right (spec/01, R25). -/
def State.partnerPort (s : State) (p : Nat) : Bool := portField s.joinedCfg p

/-- Every bit of a signal lies within `len` bytes (spec/09, R261, R287). -/
def signalBits (start len : Nat) (sawtooth : Bool) : Nat → List Nat
  | 0 => []
  | n + 1 => if sawtooth then start :: signalBits (if start % 8 = 0 then start + 15 else start - 1) len true n
    else (List.range (n + 1)).map (fun k => start + k)
def signalFits (start n : Nat) (sawtooth : Bool) (len : Nat) : Bool := (signalBits start len sawtooth n).all (fun p => decide (p < 8 * len))

/-- Receive definitions with one set index of R259. -/
def State.pduSet (s : State) (i : Nat) : Nat :=
  crc16 (beBytes 1 (s.pduSource i) ++ beBytes 1 (s.fld (F.WVR_PDU_DATA0_ZONE i) * 16 + s.pduFmt i) ++ beBytes 4 (s.pduId i)) % 1024
def State.rxPdus (s : State) : List Nat := s.pduList.filter (fun i => s.pduValid i && !s.pduTx i)

/-- PDU against the PDUs before it and the carriers (R287). -/
def State.pduClash (s : State) (before : Nat → Bool) (i : Nat) : Bool :=
  if s.pduTx i then decide (2 ≤ s.pduKind i) && !s.flag (F.WVR_CAR_CFG0_VALID (s.pdu2 i 25 17))
  else
    let base := s.pdu2 i 31 18
    let n := s.pdu2 i 17 3
    let key (j : Nat) : Nat × Nat × Nat × Nat := (s.pduSource j, s.fld (F.WVR_PDU_DATA0_ZONE j), s.pduFmt j, s.pduId j)
    let others := s.rxPdus.filter before
    anyOther i others (fun j => n != 0 && s.pdu2 j 17 3 != 0 && decide (s.pdu2 j 31 18 < base + n) && decide (base < s.pdu2 j 31 18 + s.pdu2 j 17 3)) ||
      anyOther i others (fun j => key j == key i) ||
      decide (4 ≤ (others.filter (fun j => j != i && s.pduSet j == s.pduSet i)).length)

/-- ROUTE against its PDUs, the matrix and the enumerations (R287; spec/10, R299). -/
def State.routeClash (s : State) (enums : List Nat) (w : List Nat) : Bool :=
  let d := wd w 1
  let dst := bits d 11 0
  let srcBad := match s.routeOwner (bits (wd w 0) 31 18) with
    | none => true
    | some i => !signalFits (bits (wd w 2) 22 14) (bits (wd w 2) 13 8 + 1) ((wd w 2).testBit 7) (s.pduLen i) ||
        (!d.testBit 30 && !s.flag (F.ZONE_PAIR_PERMIT (16 * s.pduZone i + s.pduZone dst)))
  srcBad || (!d.testBit 30 && (!s.pduValid dst || !s.pduTx dst ||
      !signalFits (bits (wd w 3) 22 14) (bits (wd w 3) 13 8 + 1) ((wd w 3).testBit 7) (s.pduLen dst))) ||
    (d.testBit 22 && !enums.contains (bits d 21 16))

/-- LEE_STREAM against ports, zones and the streams before it (spec/14, R410; spec/10, R300). -/
def State.streamClash (s : State) (before : Nat → Bool) (ports : List Nat) (w : List Nat) : Bool :=
  let i := bits (wd w 0) 31 26
  let inP := bits (wd w 0) 25 19
  let eg := maskList 26 (wd w 3)
  let cyc := s.fld F.LEE_CFG_CYCLE_NS
  let words (j : Nat) : List Word := mapGet (fun _ => []) s.saf.streams j
  let key (l : List Word) : Nat × Nat × Nat × Nat × Nat := (Lee.port l, b2n (Lee.tagged l), Lee.vid l, Lee.queue l, Lee.da l)
  let mine := words i
  let near (a b : List Word) (p : Nat) : Bool :=
    decide ((Lee.offset b + cyc - Lee.offset a % cyc) % cyc * s.portRate p < (Lee.maxLen a + 20) * 8000)
  eg.any (fun p => !ports.contains p || !s.flag (F.ZONE_PAIR_PERMIT (16 * s.portZone inP + s.portZone p))) || !ports.contains inP ||
    decide (cyc ≤ wd w 5) ||
    anyOther i ((s.saf.streams.map (fun c => c.1)).filter before) (fun j => key (words j) == key mine ||
      eg.any (fun p => (Lee.egress (words j)).testBit p && (near mine (words j) p || near (words j) mine p)))

/-- A slot of a LIN_TABLE is shorter than its frame asks (spec/08, R254). -/
def State.slotsShort (s : State) (w : List Nat) : Bool :=
  let n := bits (wd w 0) 31 27 - 24
  let c := bits (wd w 0) 5 0
  (List.range c).any (fun i =>
    let id := match bits (wd w (1 + i)) 25 24 with
      | 2 => 0x3C
      | 3 => 0x3D
      | _ => bits (wd w (1 + i)) 31 26
    decide (wd w (1 + (i + 1) % c) % 65536 * 40000 < 14 * (34 + 10 * (s.linLen n id + 1)) * s.fld (F.LIN_BAUD_DIV n)))

/-- What a Basic record asks of the rest of the configuration is broken: `s` has all records translated, `all` are the
records of the image for the unit, `earlier` those before this one: of two records that break a condition together, the later fails (log entry 34). -/
def State.clashes (s : State) (live : Bool) (all earlier : List Rec) (r : Rec) : Bool :=
  let w := r.words
  let p := bits (wd w 0) 31 25
  let of (n : Nat) (l : List Rec) : List (List Nat) := (l.filter (fun e => !e.expert && e.number == n)).map Rec.words
  let before (n : Nat) (key : List Nat → Nat) (j : Nat) : Bool := live || (of n earlier).any (fun v => key v == j)
  match r.number with
  | 0x110 => s.actStatic (wd w 1 + wd w 2 * 0x100000000 + wd w 3 * 0x10000000000000000)
  | 0x210 => (wd w 0).testBit 4 && !s.joinedCfg
  | 0x220 =>
    let kind := bits (wd w 0) 19 18
    let key := s.staticKey w
    !s.flag (F.VLAN_WIN_DATA0_VALID (bits (wd w 0) 31 20)) || (kind == 0 && (!s.partnerPort (wd w 2) || wd w 2 == 127)) ||
      (kind == 2 && (wd w 3).testBit 31 && !s.joinedCfg) || (s.fdbFind key.1 key.2).isNone ||
      decide (1024 ≤ ((of 0x220 earlier).filter (fun v => kind == 2 && bits (wd v 0) 19 18 == 2)).length)
  | 0x230 =>
    let slots (m : Nat) : List Nat := ((List.range 4).map (fun i => bits m (7 * i + 6) (7 * i))).filter (fun q => q != 127)
    let g := bits (wd w 0) 31 29
    let mine := slots (bits (wd w 0) 27 0)
    mine.any (fun q => decide (26 ≤ q) || (live && s.fld F.PAIR_CFG_MODE != 0 && (q == 8 || (q == 9 && s.flag F.PAIR_CFG_P1_EN)))) ||
      anyOther g ((List.range 8).filter (before 0x230 (fun v => bits (wd v 0) 31 29))) (fun h => (slots (s.fld (F.LAG_CFG_MEMBERS h))).any (fun q => mine.contains q))
  | 0x401 =>
    let role := bits (wd w 0) 24 23
    (role == 2 && ((of 0x401 earlier).any (fun v => bits (wd v 0) 24 23 == 2) ||
        (live && anyOther p (List.range 34) (fun q => s.fld (F.GPTP_PORT_CFG_ROLE q) == 2)) || s.fld F.TIME_CTRL_SOURCE != 2)) ||
      (role != 0 && s.pair K.GPTP_CLOCK_ID_LO K.GPTP_CLOCK_ID_HI == 0)
  | 0x483 => s.slotsShort w ||
      (wb (wd w 0) 24 == 1 && (of 0x483 earlier).any (fun v => wb (wd v 0) 24 == 1 && bits (wd v 0) 31 27 == bits (wd w 0) 31 27))
  | 0x510 => s.pduClash (before 0x510 (fun v => bits (wd v 0) 31 20)) (bits (wd w 0) 31 20)
  | 0x530 =>
    let given := (of 0x540 all).map (fun v => bits (wd v 0) 31 26)
    let there := if live then (s.listedEntries (K.WVR_ENUM_DATA 0)).map (fun e => e / 256) else []
    s.routeClash (given ++ there) w
  | 0x700 => bits (wd w 0) 31 30 == 2 && !s.joinedCfg
  | 0x711 =>
    let i := bits (wd w 0) 24 20
    let pp := bits (wd w 0) 31 25
    decide (4 ≤ i) && anyOther i (((List.range 4).map (fun k => i / 4 * 4 + k)).filter (fun j =>
        before 0x711 (fun v => wd v 0 / 0x100000) (pp * 32 + j))) (fun j => s.flag (F.SEC_SA_CFG_EN pp j) &&
      (s.reg (K.SEC_SA_SCI_LO pp j) != s.reg (K.SEC_SA_SCI_LO pp i) || s.reg (K.SEC_SA_SCI_HI pp j) != s.reg (K.SEC_SA_SCI_HI pp i)))
  | 0x780 => kcvOf (s.sakKey (bits (wd w 0) 31 23) (wd w 1) (bits (wd w 0) 22 21)) != wd w 2
  | 0x843 => s.pair K.NM_SA_LO K.NM_SA_HI == 0
  | 0x910 => s.streamClash (before 0x910 (fun v => bits (wd v 0) 31 26)) ((of 0x080 all).map (fun v => bits (wd v 0) 31 25)) w
  | 0x920 => decide (s.fld F.LEE_CFG_CYCLE_NS ≤ wd w 2)
  | 0x930 =>
    let n := bits (wd w 0) 5 1 + 1
    let saw := (wd w 0).testBit 16
    let srcBad := !signalFits (bits (wd w 0) 14 6) n saw (if bits (wd w 0) 23 19 < 24 then 64 else 8)
    let dst := (of 0x920 all).find? (fun v => bits (wd v 0) 31 26 == bits (wd w 2) 31 26)
    srcBad || (match dst with
      | none => true
      | some v => !signalFits (bits (wd w 2) 25 17) n saw (bits (wd v 0) 16 10))
  | 0x980 =>
    let on (q : Nat) : Bool := (of 0x080 all).any (fun v => bits (wd v 0) 31 25 == q && (wd v 0).testBit 24)
    let lagged (q : Nat) : Bool := (of 0x230 all).any (fun v => (List.range 4).any (fun i => bits (wd v 0) (7 * i + 6) (7 * i) == q))
    bits (wd w 0) 31 30 != 0 && (!on 8 || lagged 8 || ((wd w 0).testBit 28 && (!on 9 || lagged 9)))
  | _ => false

end Sys2Proof.Machine
end

