-- ==== Sys2Proof/Machine/Image.lean ====
section
/-!
DEFINITION. Stake images and firmware copies: their headers and signature blocks, the checks of R54 and R331, and the
commands that write and verify them (spec/02, R38 to R40 and R50 to R55; spec/11, R330, R331; spec/16, R461).
-/

namespace Sys2Proof.Machine

/-! ## What every start keeps (spec/18, R510; spec/13, R378; spec/02, R67) -/

/-- The bits of a register that no start changes: MRAM, fuses, the strap, and the always-on domain. -/
def keptBits (key : Nat) : Nat :=
  let a := key % 0x100000000
  let full : List Nat := [K.BOOT_ROLLBACK, K.BOOT_PREF, K.DEVICE_SERIAL_LO, K.DEVICE_SERIAL_HI, K.KEY_SLOT_INFO 0, K.KEY_SLOT_PEND 0,
    K.LDG_NEXT, K.LDG_SIGNED, K.MGT_LAST_SEQ 0, K.JRN_HEAD_LO, K.JRN_HEAD_HI, K.JRN_CP_LO, K.JRN_CP_HI, K.SAF_STATUS,
    K.NM_CFG, K.NM_SLEEP_EN, K.NM_CAUSE, K.WAKE_LIMITS, K.WAKE_STATUS]
  if full.contains a then fullW
  else if within a (K.LMS_STATUS 0) (K.LMS_NEXT_HI 2) || within a (K.CMD_GEN 0) (K.CMD_GEN 63) ||
      within a (K.WAKE_IN_CFG 0) (K.WAKE_IN_GROUPS 4) then fullW
  else if a = K.BOOT_STATUS then 2 ^ 8
  else if a = K.LCS_STATUS then 7
  else if a = K.FW_STATUS then 0x7F0000
  else if a = K.MEM_REPAIR then 0xFFF
  else if a = K.CLK_STATUS then 2 ^ 7
  else if a = K.SAF_MON then 4
  else if a = K.PAIR_STATUS then 2 ^ 17
  else 0

/-- SOFT_COLS, which a warm restart and a gust keep as well (spec/17, R492). -/
def warmBits (key : Nat) : Nat := if key = K.MEM_REPAIR then 0xFFFFFF else keptBits key

/-- Registers with the kept bits as they are and every other bit at its reset value. -/
def keepRegs (mask : Nat → Nat) : List (Nat × Word) → List (Nat × Word) → List (Nat × Word)
  | [], m => m
  | (k, w) :: r, m =>
    let b := BitVec.ofNat 32 (mask k)
    keepRegs mask r (if mask k = 0 then m else mapSet resetWord m k ((w &&& b) ||| (resetWord k &&& ~~~ b)))

/-- A signature request that outlives a start. -/
def SignReq.lasts (r : SignReq) : Bool := match r.what with
  | .checkpoint _ => true
  | .batch _ _ => true
  | _ => false

/-- The state as a start leaves it before anything is applied (R510): `warm` for a warm restart and a gust. -/
def State.blank (s : State) (warm : Bool) : State :=
  let cnts := if warm then s.cnts.filter (fun c => decide (C.saf 9 ≤ c.1) && decide (c.1 ≤ C.saf 13)) else []
  { State.reset with
    regs := keepRegs (if warm then warmBits else keptBits) s.regs [], cnts := cnts,
    busData := s.busData, fresh := s.fresh, aon := s.aon, out := s.out, pending := s.pending,
    data := { DataSt.reset with cells := if warm then keepCells s.data.cells else [] },
    mgt := { MgtSt.reset with jrn := s.mgt.jrn, statements := s.mgt.statements },
    nm := { NmSt.reset with latched := s.nm.latched, armed := s.nm.armed, changes := s.nm.changes, levelAt := s.nm.levelAt,
                            pulse := s.nm.pulse, pulseAt := s.nm.pulseAt, busFree := s.nm.busFree,
                            awakeSince := (List.range 16).map (fun g => (g, s.aon)) },
    ldg := { LdgSt.reset with records := s.ldg.records, batchFirst := s.ldg.batchFirst, unsigned := s.ldg.unsigned,
                              saved := s.ldg.saved, savedResidual := s.ldg.savedResidual, record := s.ldg.record, signatures := s.ldg.signatures },
    twin := { PairSt.reset with prefer := s.twin.prefer },
    key := { s.key with keyOp := none, signQ := s.key.signQ.filter SignReq.lasts, transition := none },
    saf := { SafSt.reset with agreed := ((List.range 5).filter (s.fld F.WAKE_STATUS_LEVEL).testBit).map (fun n => (10 + n, true)),
                              aonFault := s.saf.aonFault, health := s.saf.health },
    boot := { s.boot with held := false, copying := none, digest := [], fallback := true, gateStart := [], linStart := [], basic := [] } }

/-! ## Images (R38 to R40) -/

/-- The bytes of a slot from its start, as the NOR reads them: erased bytes are 0xFF. -/
def norBytes (slot : List Byte) (n : Nat) : List Byte := padTo n 0xFF slot

/-- The slot's stored bytes. -/
def State.slotBytes (s : State) (n : Nat) : List Byte := if n = 0 then s.boot.slotA else s.boot.slotB

/-- A header that obeys every rule of R38. -/
def headerOk (revision : Nat) (b : List Byte) : Bool :=
  let len := beAt b 8 4
  beAt b 0 4 == 0x5147534B && beAt b 4 2 == 1 && beAt b 6 2 == 64 && len % 4 == 0 && within len 5844 4194304 && beAt b 12 4 + 5844 == len &&
    decide (beAt b 20 4 ≤ beAt b 16 4) && beAt b 24 4 != 0 && decide (beAt b 28 1 < 16) && beAt b 29 3 == 0 && beAt b 48 2 == 0x9210 &&
    decide (beAt b 50 1 ≤ revision) && beAt b 51 13 == 0

/-- The length a header gives, where it lies in bounds; else only the header is read. -/
def readLen (slot : List Byte) (max : Nat) : Nat :=
  let n := beAt (norBytes slot 64) 8 4
  if within n 5844 max then n else 64

/-- The image in a slot, read in full as its header says. -/
def imageOf (slot : List Byte) : List Byte := norBytes slot (readLen slot 4194304)

/-- The HSS public key of a signature block, and whether the block verifies over what it signs (R39). -/
def blockKey (b : List Byte) : List Byte := slice b (b.length - 5776) 60
def blockGood (b : List Byte) : Bool :=
  beAt b (b.length - 5780) 4 == 1 && hssVerify (blockKey b) (b.take (b.length - 5716)) (b.drop (b.length - 5716))

/-- The records of an image and the offset in it of the first malformed one: offsets count from the image's start. -/
def imageRecs (b : List Byte) : List Rec × Option Nat :=
  let area := (b.take (b.length - 5780)).drop 64
  let r := readRecs area area.length 0
  (r.1.map (fun x => { x with off := x.off + 64 }), r.2.map (fun o => o + 64))

/-- ROLLBACK_MIN of the current life-cycle state (R53). -/
def State.rollbackMin (s : State) : Nat := mapGet (fun _ => 0) s.boot.rollback s.lcState

/-! ## The checks (R54, R55) -/

/-- Every record with the ones before it, in image order. -/
def withEarlier : List Rec → List Rec → List (Rec × List Rec)
  | _, [] => []
  | e, r :: l => (r, e) :: withEarlier (e ++ [r]) l

/-- A record's own fields are invalid (R539, R46, R47 and its chapter's table). -/
def Rec.badForm (r : Rec) : Bool :=
  if r.expert then (r.number == 1 || r.number == 2) && !r.expertForm
  else !(fitsLayout r.number r.words && rangesOk r.number r.words)

/-- The configuration that an image gives a unit, for the conditions between its records; `s` is the state that a start
leaves. -/
def State.drafted (s : State) (u : Nat) (l : List Rec) : State := s.translateAll u (l.filter (fun r => r.known && !r.badForm))

/-- A record breaks a condition between records, for a unit it is for. -/
def Rec.breaks (d0 d1 : State) (l : List Rec) (c : Rec × List Rec) : Bool :=
  let one (u : Nat) (d : State) : Bool :=
    c.1.forUnit u && d.clashes false (l.filter (fun r => r.forUnit u)) (c.2.filter (fun r => r.forUnit u)) c.1
  !c.1.expert && c.1.known && (one 0 d0 || one 1 d1)

/-- FDB_STATIC is repeated by a record with the same FID and address (spec/05, R166). -/
def Rec.repeatsStatic (d0 d1 : State) (c : Rec × List Rec) : Bool :=
  let one (u : Nat) (d : State) : Bool := c.1.forUnit u &&
    c.2.any (fun e => !e.expert && e.number == 0x220 && e.forUnit u && d.staticKey e.words == d.staticKey c.1.words)
  !c.1.expert && c.1.number == 0x220 && (one 0 d0 || one 1 d1)

/-- Checks 8 to 12 over every record: the reason and the failing record's offset ÷ 4. -/
def State.checkRecords (s : State) (b : List Byte) : Nat × Nat :=
  match imageRecs b with
  | (_, some off) => (0x30, off / 4)
  | (l, none) =>
    let find (f : Rec × List Rec → Bool) : Option Nat := ((withEarlier [] l).find? f).map (fun c => c.1.off / 4)
    match find (fun c => c.1.critical && !c.1.known) with
    | some o => (0x31, o)
    | none =>
      let d0 := s.drafted 0 l
      let d1 := s.drafted 1 l
      match find (fun c => (c.1.known && c.1.badForm) || Rec.breaks d0 d1 l c) with
      | some o => (0x32, o)
      | none =>
        match find (fun c => c.1.expert && c.1.known && c.1.triples.any (fun t => !expertAddress t.1 t.2.1)) with
        | some o => (0x33, o)
        | none =>
          match find (fun c => c.1.known && (c.1.duplicates c.2 || Rec.repeatsStatic d0 d1 c)) with
          | some o => (0x34, o)
          | none => (1, 0)

/-- Checks 2 to 7 of an image: 0 where it passes them. -/
def State.checkHead (s : State) (b : List Byte) (uncorrectable : Bool) : Nat :=
  if !headerOk (s.fld F.GLB_ID_REVISION) b then 0x11
  else if uncorrectable then 0x41
  else if mapGet (fun _ => []) s.key.imgHash s.lcState ≠ sha256 (blockKey b) then 0x21
  else if !blockGood b then 0x20
  else if beAt b 16 4 < s.rollbackMin then 0x22
  else if s.lcState < 4 ∧ (beAt b 28 1).testBit s.lcState then 0 else 0x15

/-- The checks of R54 on a candidate: the reason code, and OFFSET of BOOT_FAIL. -/
def State.checkImage (s : State) (b : List Byte) (responds uncorrectable : Bool) : Nat × Nat :=
  if !responds then (0x10, 0)
  else
    let h := s.checkHead b uncorrectable
    if h = 0 then (s.blank false).checkRecords b else (h, 0)

/-! ## Firmware (spec/11, R330, R331) -/

def State.fwBytes (s : State) (c : Nat) : List Byte := if c = 0 then s.boot.fwA else s.boot.fwB

/-- A copy as long as its header says. -/
def fwImage (b : List Byte) : List Byte := norBytes b (readLen b 1048576)

/-- Checks 1 to 5 of a copy. -/
def State.fwOk (s : State) (c : Nat) : Bool :=
  let b := fwImage (s.fwBytes c)
  beAt b 0 4 == 0x51474657 && within (beAt b 8 4) 5844 1048576 && decide (beAt b 12 1 ≤ 64) && beAt b 13 3 == 0 && decide (beAt b 16 1 < 16) &&
    decide (beAt b 17 1 < 2) && (slice b 18 46).all (fun x => x == 0) && !s.boot.mramBad.testBit c && s.key.fwHash == sha256 (blockKey b) &&
    blockGood b && decide (s.fld F.FW_STATUS_FW_FLOOR ≤ beAt b 12 1) && decide (s.lcState < 4) && (beAt b 16 1).testBit s.lcState

/-- The copy that runs: the higher FW_VERSION of those that pass, A on a tie. -/
def State.fwChoice (s : State) : Option Nat :=
  match s.fwOk 0, s.fwOk 1 with
  | true, true => some (if beAt s.boot.fwA 4 4 < beAt s.boot.fwB 4 4 then 1 else 0)
  | true, false => some 0
  | false, true => some 1
  | false, false => none

/-! ## Commands on slots and copies (spec/16, R461) -/

def State.setSlotBytes (s : State) (n : Nat) (b : List Byte) : State :=
  { s with boot := if n = 0 then { s.boot with slotA := b } else { s.boot with slotB := b } }

/-- Writes data into a stored byte string at an offset. -/
def spliceBytes (b : List Byte) (off : Nat) (data : List Byte) : List Byte :=
  padTo off 0xFF b ++ data ++ b.drop (off + data.length)

/-- IMAGE_ERASE. -/
def State.imageErase (s : State) : State :=
  match s.execHead 0x20 with
  | none => s
  | some c => (s.setSlotBytes (beAt c.body 0 4) []).endCmd c 0 0

/-- IMAGE_WRITE. -/
def State.imageWrite (s : State) : State :=
  match s.execHead 0x21 with
  | none => s
  | some c =>
    let n := beAt c.body 0 1
    (s.setSlotBytes n (spliceBytes (s.slotBytes n) (beAt c.body 4 4) (c.body.drop 8))).endCmd c 0 0

/-- IMAGE_VERIFY: the checks of R54 on a slot. -/
def State.imageVerify (s : State) (nvm : Bool) : State :=
  match s.execHead 0x22 with
  | none => s
  | some c =>
    let b := imageOf (s.slotBytes (beAt c.body 0 4))
    s.endData c (beBytes 4 (s.checkImage b nvm false).1 ++ beBytes 4 (if nvm then beAt b 16 4 else 0))

/-- FIRMWARE_WRITE: the copy that does not run, or copy A in FW_BAD (R331). -/
def State.firmwareWrite (s : State) : State :=
  match s.execHead 0x24 with
  | none => s
  | some c =>
    let a := s.fld F.BOOT_STATUS_STATE == 0xD || s.flag F.FW_STATUS_COPY
    let off := beAt c.body 0 4
    let put (b : List Byte) : List Byte := spliceBytes b off (c.body.drop 4)
    let s := { s with boot := if a then { s.boot with fwA := put s.boot.fwA } else { s.boot with fwB := put s.boot.fwB } }
    s.endCmd c 0 0

end Sys2Proof.Machine
end

