-- ==== Sys2Proof/Machine/Boot.lean ====
section
/-!
DEFINITION. Starts: cold start, warm restart, gust, HOLD, the retained copy, the recovery of the journal, and the entry into
Calm (spec/02, R51 to R69; spec/11, R331 to R338; spec/13, R371 and R374 to R378; spec/14, R396, R406; spec/16, R478).
-/

namespace Sys2Proof.Machine

/-! ## Journal recovery (R478) -/

/-- What the walk of R478 carries: LAST_SEQ of the origins, the chain hash, whether the entries belong to the current epoch,
and the JSEQ of the first entry to discard. -/
structure Recovery where
  lastSeq : List (Nat × Nat)
  prev : List Byte
  current : Bool
  bad : Option Nat
  deriving DecidableEq, Repr

/-- One entry of the walk. -/
def recoverEntry (epoch : Nat) (torn : Option Nat) (r : Recovery) (e : JEntry) : Recovery :=
  if r.bad.isSome then r
  else
    let kind := beAt e.body 8 1
    let o := beAt e.body 9 1
    let op := beAt e.body 10 2
    let seq := beAt e.body 12 4
    let current := if kind = 6 then beAt e.body 28 1 == epoch else r.current
    let last := mapGet (fun _ => 0) r.lastSeq o
    let l := if current ∧ o < 64 ∧ last < seq then mapSet (fun _ => 0) r.lastSeq o seq else r.lastSeq
    let l := if current ∧ kind = 3 ∧ op = 0x34 ∧ o < 64 then mapSet (fun _ => 0) l o 0 else l
    if torn = some e.jseq ∨ chainOf r.prev e.body ≠ e.chain then { r with lastSeq := l, bad := some e.jseq }
    else ⟨l, e.chain, current, none⟩

/-- The discarded entries are all of one command: the first of them is its COMMAND entry or one of its DATA entries. -/
def oneCommand (l : List JEntry) : Bool :=
  match l with
  | [] => true
  | _ :: r => r.all (fun e => beAt e.body 8 1 == 2)

/-- The MC recovers the journal; `torn` is the first entry that reads uncorrectable. -/
def State.journalRecover (s : State) (torn : Option Nat) : State :=
  let epoch := s.lcState
  let start : Recovery := match s.mgt.statements with
    | [] => ⟨[], List.replicate 16 0, true, none⟩
    | cp :: _ => ⟨if cp.epoch = epoch then (List.range 64).filterMap (fun o => match cp.lastSeq.getD o 0 with
        | 0 => none
        | n => some (o, n)) else [], cp.chain, cp.epoch == epoch, none⟩
  let from_ := match s.mgt.statements with
    | [] => 0
    | cp :: _ => cp.jseq + 1
  let r := ((s.mgt.jrn.filter (fun e => decide (from_ ≤ e.jseq))).reverse).foldl (recoverEntry epoch torn) start
  let s := forEach (List.range 64) (fun o s => s.setFld (F.MGT_LAST_SEQ_SEQ o) (mapGet (fun _ => 0) r.lastSeq o)) s
  match r.bad with
  | none => s
  | some j =>
    let gone := (s.mgt.jrn.filter (fun e => decide (j ≤ e.jseq))).reverse
    let s := { s with mgt := { s.mgt with jrn := s.mgt.jrn.filter (fun e => decide (e.jseq < j)) } }
    let s := (s.append 8 255 0 0 0 (beBytes 8 j ++ beBytes 4 gone.length)).count (C.mgt 12) gone.length
    let s := if oneCommand gone then s else s.setFld F.JRN_STATUS_DAMAGED 1
    s.raiseFlag F.JRN_STATUS_TORN (beBytes 8 j)

/-! ## Forwarding (R56 step 14, R61 step 8, R374 step 9) -/

/-- The START record and the START entry, and FW_FLOOR where the running copy raises it (spec/12, R348; spec/16, R475;
spec/11, R332). -/
def State.startRecords (s : State) : State :=
  let s := s.ldgAppend 2
  let s := s.append 6 255 0 0 0 (beBytes 1 s.lcState ++ beBytes 1 (s.fld F.BOOT_STATUS_SOURCE) ++ beBytes 4 (s.fld F.BOOT_IMAGE_VER_VERSION) ++
    s.boot.digest.take 14)
  if s.boot.raiseFloor then s.setFld F.FW_STATUS_FW_FLOOR (max (s.fld F.FW_STATUS_FW_FLOOR) (s.fld F.FW_STATUS_SVN)) else s

/-- Gate lists and LIN tables that wait for forwarding start (spec/06, R202; spec/08, R253). -/
def State.startLists (s : State) : State :=
  let s := forEach s.boot.gateStart (fun p s => s.gateChange p) s
  let s := forEach s.boot.linStart (fun c s => s.linSwitchTo (c / 4) (c % 4)) s
  { s with boot := { s.boot with gateStart := [], linStart := [] } }

/-- Port M's link is usable from the moment forwarding is enabled (spec/03, R86, R90). -/
def State.portMUp (s : State) : State :=
  if s.flag (F.MAC_STATUS_LINK_UP 34) then s
  else (s.setFld (F.MAC_STATUS_LINK_UP 34) 1).raiseFlag (F.MAC_STATUS_LINK_CHANGED 34) [34, 1]

/-- Forwarding is enabled and FAULT_N released; `us` is the duration of the start. -/
def State.enableForwarding (s : State) (us : Nat) : State :=
  let s := (s.setFlds [(F.BOOT_STATUS_STATE, 0xB), (F.BOOT_TIME_START_US, min us 0xFFFFF)]).emit (.pin 4 true)
  let s := s.portMUp.startPolls
  let s := s.startLists.wvrBegin
  s.pairForward.joinRule.startRecords

/-- The start ends in HOLD where HOLD_US asks for it (R58). -/
def State.finishStart (s : State) (us : Nat) : State :=
  if s.fld F.BOOT_HOLD_HOLD_US = 0 then s.enableForwarding us else s.setFld F.BOOT_STATUS_STATE 0xA

/-- SUPERVISOR_HOLD_TIMEOUT: HOLD_US have passed. -/
def State.holdTimeout (s : State) (us : Nat) : State :=
  if s.fld F.BOOT_STATUS_STATE = 0xA ∧ !s.boot.held ∧ !s.nm.calm then s.enableForwarding us else s

/-- START_FORWARDING (R58). Accepted in another state than HOLD it completes as FAILED (DESIGN CHOICE: R58 gives it no outcome
there; log entry 67). -/
def State.startForwarding (s : State) (us : Nat) : State :=
  match s.execHead 0x11 with
  | none => s
  | some c => if s.fld F.BOOT_STATUS_STATE = 0xA then (s.endCmd c 0 0).enableForwarding us else s.endCmd c 3 0

/-! ## Application (R49, R53) -/

/-- The header's fields, then the Basic records, then the Expert writes; LDG_CFG as they leave it is in effect. -/
def State.applyRecords (s : State) (b : List Byte) : State :=
  let recs := (imageRecs b).1
  let s := { s with data := { s.data with lfsrSeed := beAt b 24 4 }, boot := { s.boot with digest := sha256 b } }
  let s := s.setNats ((K.BOOT_IMAGE_VER, beAt b 16 4) :: (List.range 4).map (fun k => (K.BOOT_BUILD k, beAt b (32 + 4 * k) 4)))
  let s := s.setFld F.BOOT_STATUS_SKIPPED (min 255 ((recs.filter (fun r => !r.known)).length))
  let s := (s.translateAll s.unitId recs).expertAll s.unitId recs
  { s with ldg := { s.ldg with cfg := s.reg K.LDG_CFG } }

/-- ROLLBACK_MIN takes the larger of itself and the image's FLOOR, as a two-phase record (R53). -/
def State.raiseRollback (s : State) (floor : Nat) : State :=
  let m := max s.rollbackMin floor
  let s := { s with boot := { s.boot with rollback := mapSet (fun _ => 0) s.boot.rollback s.lcState m } }
  (s.writeRec (recRollback s.lcState) (beBytes 4 m)).setFld F.BOOT_ROLLBACK_ROLLBACK_MIN m

/-- The retained copy: an image from a slot whose digest is not the sealed one is copied, the old copy being invalid from
then on (R51). Where the digest is the sealed one, the seal stays as it is, with its source slot and firmware seal (DESIGN CHOICE:
R51 does not say that it is written anew; log entry 67). -/
def State.beginCopy (s : State) (b : List Byte) (source : Nat) : State :=
  let same := s.boot.sealOf.any (fun x => x.digest == s.boot.digest)
  if source == 2 || same then s
  else
    let x : Seal := ⟨s.boot.digest, b.length, source, s.boot.fallback, s.boot.fwSeal⟩
    { s with boot := { s.boot with copying := some (b, x), sealOf := none } }.setFld F.BOOT_STATUS_RETAINED_VALID 0

/-- RETAINED_COPY_DONE: the copy's seal is written. -/
def State.copyDone (s : State) : State :=
  match s.boot.copying with
  | none => s
  | some (b, x) =>
    if s.boot.held ∨ s.nm.calm then s
    else { s with boot := { s.boot with retained := b, sealOf := some x, copying := none } }.setFld F.BOOT_STATUS_RETAINED_VALID 1

/-- PHY_RST_N0 to 7 are released where the port is awake. -/
def State.releasePhys (s : State) : State := forEach (List.range 8) (fun p s => s.phyPin p) s

/-- An accepted image is applied, up to the point before forwarding; the buffer's cells are free but for the quarantined ones
(spec/05, R137, R164). -/
def State.applyImage (s : State) (b : List Byte) (source : Nat) : State :=
  let s := (s.setFld F.BOOT_STATUS_SOURCE source).applyRecords b
  let s := (s.raiseRollback (beAt b 20 4)).beginCopy b source
  s.resetCells s.data.cells

/-! ## Choosing an image (R54, R55) -/

/-- Candidates in their order: slot BOOT_PREF, the other slot, the retained copy. -/
def State.candidates3 (s : State) : List Nat := [s.fld F.BOOT_PREF_SLOT, 1 - s.fld F.BOOT_PREF_SLOT, 2]

/-- A candidate's reason and offset, none where it is not tried. -/
def State.tryCandidate (s : State) (env : StartEnv) (n : Nat) : Option (Nat × Nat) :=
  if n < 2 then some (s.checkImage (imageOf (s.slotBytes n)) env.nvm false)
  else match s.boot.sealOf with
    | none => some (0x40, 0)
    | some x => if x.fallback then some (s.checkImage (imageOf s.boot.retained) true (s.boot.mramBad.testBit 2)) else none

/-- The bytes of a candidate. -/
def State.candidateBytes (s : State) (n : Nat) : List Byte := imageOf (if n < 2 then s.slotBytes n else s.boot.retained)

/-- Step 8 of R56 on: the candidates are tried, and the first accepted is applied. -/
def State.selectFrom (s : State) (env : StartEnv) : List Nat → State
  | [] => s.setFlds [(F.BOOT_STATUS_STATE, 0xC), (F.BOOT_STATUS_SOURCE, 3)]
  | n :: r =>
    match s.tryCandidate env n with
    | none => s.selectFrom env r
    | some (reason, off) =>
      let s := s.setFlds [(F.BOOT_FAIL_REASON n, reason), (F.BOOT_FAIL_OFFSET n, off)]
      if reason = 1 then ((s.applyImage (s.candidateBytes n) n).releasePhys).finishStart env.startUs
      else (s.setFld F.BOOT_STATUS_FAILED_COUNT (s.fld F.BOOT_STATUS_FAILED_COUNT + 1)).selectFrom env r

/-- Candidate selection from its beginning, step 8 of R56: XSPI_RST_N is pulsed low. -/
def State.selectImage (s : State) (env : StartEnv) : State :=
  let s := (s.emit (.pin 6 false)).emit (.pin 6 true)
  let s := s.setFlds [(F.BOOT_STATUS_FAILED_COUNT, 0)]
  let s := forEach [0, 1, 2] (fun n s => s.setReg (K.BOOT_FAIL n) 0) s
  s.selectFrom env s.candidates3

/-! ## Steps that every start has -/

/-- What the power sources give (R510): ROLLBACK_MIN, DEBUG_FULL, SLOTS_USED, the ledger's and the retained copy's state. -/
def State.loadSources (s : State) : State :=
  let s := s.setFlds [(F.BOOT_ROLLBACK_ROLLBACK_MIN, s.rollbackMin), (F.LCS_STATUS_DEBUG_FULL, b2n (s.lcState == 0)),
    (F.BOOT_STATUS_RETAINED_VALID, b2n s.boot.sealOf.isSome)]
  s.countSlots.ldgResume

/-- The MC starts: RSTOUT_N is released, torn key records and the journal are resolved. -/
def State.startMc (s : State) (env : StartEnv) (keys : Bool) : State :=
  let s := s.emit (.pin 3 true)
  let s := if keys then ((s.powerCut env).resolveSlots.loadRecs).lcResume else s
  (s.loadSources).journalRecover env.badEntry

/-- HW_FAULT (R59): the recovery monitor recovers the journal where it can run. -/
def State.hwFault (s : State) (env : StartEnv) : State :=
  let s := s.setFlds [(F.BOOT_STATUS_STATE, 0xE), (F.BOOT_STATUS_SOURCE, 3)]
  if s.boot.monitor then s.loadSources.journalRecover env.badEntry else s.loadSources

/-- The running firmware copy's registers and seal (spec/11, R333, R341). -/
def State.runFirmware (s : State) (c : Nat) : State :=
  let b := fwImage (s.fwBytes c)
  let d := sha256 b
  let s := { s with boot := { s.boot with fwSeal := some ⟨c, d, beAt b 4 4⟩, fwDigest := d, raiseFloor := (beAt b 17 1).testBit 0 } }
  let s := s.writeRec recSeal (beBytes 1 c ++ beBytes 4 (beAt b 4 4) ++ d)
  s.setFlds [(F.FW_STATUS_COPY, c), (F.FW_STATUS_SVN, beAt b 12 1), (F.FW_STATUS_OTHER_VALID, b2n (s.fwOk (1 - c))), (F.FW_VERSION_FW_VERSION, beAt b 4 4)]

/-- Step 6 of R56: the firmware is verified in full; FW_BAD where no copy passes. -/
def State.fwStep (s : State) (env : StartEnv) (next : State → State) : State :=
  match s.fwChoice with
  | none => (s.setFlds [(F.BOOT_STATUS_STATE, 0xD), (F.BOOT_STATUS_SOURCE, 3)]).loadSources.journalRecover env.badEntry
  | some c => next (s.runFirmware c)

/-- Step 6 of R56 on. -/
def State.fromFirmware (s : State) (env : StartEnv) : State :=
  { s with boot := { s.boot with mramBad := env.mram } }.fwStep env (fun s => (s.startMc env true).selectImage env)

/-- The result of the checker's self-test. -/
def State.setSelftest (s : State) (m : Nat) : State := s.setNats [(K.SAF_SELFTEST_LO, m), (K.SAF_SELFTEST_HI, m / 0x100000000)]

/-- Steps 2 to 14 of R56. -/
def State.coldSteps (s : State) (env : StartEnv) : State :=
  s.confine [.regs, .cnts, .heldLo, .held, .fresh, .bufLog, .nmLog, .data, .ports, .time, .mgt, .edge, .nm, .wvr, .ldg, .twin, .key, .saf, .boot, .out] (
    let s := s.setFlds [(F.CLK_STATUS_XTAL_OK, 1), (F.CLK_STATUS_PLL_LOCK, 1), (F.MEM_REPAIR_SOFT_COLS, env.softCols)]
    let s := { s with boot := { s.boot with monitor := env.monitor } }
    match env.badMacro with
    | some m => (s.setFlds [(F.MBIST_FAIL_FAIL, 1), (F.MBIST_FAIL_MACRO, m)]).hwFault env
    | none => if env.selftest = 0 then s.fromFirmware env else (s.setSelftest env.selftest).hwFault env)

/-- A start of a unit whose crystal has failed sets NO_CLOCK (spec/14, R399). -/
def State.noteClock (s : State) (waited : Bool) : State := if waited then s.setFld F.SAF_STATUS_NO_CLOCK 1 else s

/-- A power-on reset clears the count of automatic resets and what the last fault left (spec/14, R406, R411). -/
def State.powerOnHealth (s : State) : State :=
  let waited := s.saf.pllWait
  let s := (s.setReg K.SAF_STATUS 0).noteClock waited
  { s with saf := { s.saf with aonFault := false } }

/-- Pins as a reset holds them (R69): FAULT_N low, HOLD_OUT deasserted, RSTOUT_N low, PPS_OUT low, LEE_N high. -/
def State.resetPins (s : State) : State :=
  let s := (s.emit (.pin 4 false)).driveHold false
  let s := (s.emit (.pin 3 false)).ppsLow
  if s.saf.mode = .lee then s.emit (.pin 5 true) else s

/-- PHY_RST_N0 to 7 low. -/
def State.holdPhys (s : State) : State := forEach (List.range 8) (fun p s => s.emit (.pin (8 + p) false)) s

/-- ASLEEP 0 and the ring IDLE (R378): a blank state's are; its wake latch stays. -/
def State.coldStart (s : State) (env : StartEnv) : State :=
  if !s.boot.held then s
  else
    let s := (s.powerOnHealth.blank false).setFld F.BOOT_STATUS_UNIT_ID env.strap
    s.coldSteps env

/-- PORST_N goes low, or a rail falls below its reset threshold: everything stops at once (R67, R540). -/
def State.porst (s : State) : State :=
  let wait := s.saf.pllWait
  let s := s.resetPins.holdPhys
  let s := s.blank false
  { s with boot := { s.boot with held := true }, saf := { s.saf with pllWait := wait } }

/-- SUPPLY_MONITOR_TRIP of a rail, numbered as R522 lists them (log entry 32): below its reset threshold it is a power-on reset,
outside its window code 0x08; in Calm only VDD_AON (7) is monitored, against its threshold. -/
def State.supplyTrip (s : State) (rail : Nat) (below : Bool) : State :=
  if below then (if s.nm.calm ∧ rail ≠ 7 then s else s.porst) else if s.boot.held ∨ s.nm.calm then s else s.fatalFault 8 rail

/-- POWER_UP_AON: VDD_AON rises: the always-on registers take their reset values, INH goes high (spec/13, R378). -/
def State.aonReset (s : State) : State :=
  let aon : List Nat := [K.NM_CFG, K.NM_SLEEP_EN, K.NM_CAUSE, K.WAKE_LIMITS, K.WAKE_STATUS, K.CLK_STATUS, K.SAF_MON, K.MEM_REPAIR, K.PAIR_STATUS]
  let s := s.porst
  let fuse := s.fld F.MEM_REPAIR_FUSE_COLS
  let s := forEach aon (fun k s => s.setReg k (resetWord k)) s
  let s := forEach (List.range 5) (fun n s => (s.setReg (K.WAKE_IN_CFG n) (resetWord (K.WAKE_IN_CFG n))).setReg (K.WAKE_IN_GROUPS n) 0) s
  let s := { s with nm := NmSt.reset, aon := 0, twin := { s.twin with prefer := false } }
  (s.setFld F.MEM_REPAIR_FUSE_COLS fuse).emit (.pin 1 true)

/-! ## Restarts (R56, R60 to R63) -/

/-- A cold restart: step 1 is the command. -/
def State.coldRestart (s : State) (env : StartEnv) : State :=
  let waited := s.saf.pllWait
  ((s.stompAll.resetPins.holdPhys.noteClock waited).blank false).coldSteps env

/-- The retained copy can be read: its seal verifies and no word of it is uncorrectable. -/
def State.retainedGood (s : State) : Bool := s.boot.sealOf.isSome && !s.boot.mramBad.testBit 2

/-- A sealed firmware copy runs without a check in full (spec/11, R333). -/
def State.sealedCopy (s : State) : Option Nat :=
  match s.boot.fwSeal with
  | some x => if s.boot.mramBad.testBit x.copy then none else some x.copy
  | none => none

/-- The sealed copy, or R331 in full; then the rest of the start. -/
def State.warmFirmware (s : State) (env : StartEnv) (next : State → State) : State :=
  match s.sealedCopy with
  | some c => next (s.runFirmware c)
  | none => s.fwStep env next

/-- The retained image applied in one pass, without checks 8 to 12; FW_FLOOR is left to a step 14. -/
def State.applyRetained (s : State) : State :=
  { s with boot := { s.boot with raiseFloor := false } }.applyImage (imageOf s.boot.retained) 2

/-- Steps 2 to 8 of R61. -/
def State.warmSteps (s : State) (env : StartEnv) : State :=
  s.confine [.regs, .cnts, .heldLo, .held, .fresh, .bufLog, .nmLog, .data, .ports, .time, .mgt, .edge, .nm, .wvr, .ldg, .twin, .key, .saf, .boot, .out] (
    let s := s.setFlds [(F.CLK_STATUS_XTAL_OK, 1), (F.CLK_STATUS_PLL_LOCK, 1)]
    let s := { s with boot := { s.boot with mramBad := s.boot.mramBad ||| env.mram } }
    if env.selftest ≠ 0 then (s.setSelftest env.selftest).hwFault env
    else s.warmFirmware env (fun s =>
      let s := s.startMc env true
      if s.retainedGood then ((s.setFld F.BOOT_STATUS_WARM 1).applyRetained.releasePhys).finishStart env.startUs
      else (s.setFld F.BOOT_STATUS_WARM 1).selectImage env))

/-- A warm restart (R60). -/
def State.warmRestart (s : State) (env : StartEnv) : State :=
  let waited := s.saf.pllWait
  ((s.stompAll.resetPins.noteClock waited).blank true).warmSteps env

/-- RESTART. -/
def State.restart (s : State) (env : StartEnv) : State :=
  match s.execHead 0x10 with
  | none => s
  | some c =>
    let s := s.endCmd c 0 0
    if beAt c.body 0 4 = 1 then s.warmRestart env else s.coldRestart env

/-- LEE_EXIT_TIMEOUT: the automatic reset of R406, EXIT_MS after entry. A unit in HW_FAULT is left only by a power-on reset (R66). -/
def State.leeExit (s : State) (env : StartEnv) : State :=
  let n := s.fld F.SAF_STATUS_EXITS
  if s.saf.mode = .normal ∨ s.fld F.BOOT_STATUS_STATE = 0xE ∨ s.fld F.SAF_CFG_EXIT_MS = 0 ∨ s.flag F.SAF_STATUS_NO_CLOCK ∨ s.fld F.SAF_CFG_EXIT_LIMIT ≤ n ∨
      s.aon < s.saf.enterAt + s.fld F.SAF_CFG_EXIT_MS * aonPerMs then s
  else (s.setFld F.SAF_STATUS_EXITS (n + 1)).warmRestart env

/-- IMAGE_ACTIVATE: BOOT_PREF names the slot; in NO_IMAGE and FW_BAD the start goes on (R65, R66). -/
def State.imageActivate (s : State) (env : StartEnv) : State :=
  match s.execHead 0x23 with
  | none => s
  | some c =>
    let st := s.fld F.BOOT_STATUS_STATE
    let s := (s.setFld F.BOOT_PREF_SLOT (beAt c.body 0 4)).endCmd c 0 0
    if st = 0xC then s.selectImage env else if st = 0xD then s.fromFirmware env else s

/-- Power is lost in a transition whose intent has committed: after step 5, 6 or 7 (spec/11, R338). -/
def State.lcCut (s : State) (step target : Nat) (hash : List Byte) : State :=
  let s := if 6 ≤ step then s.lcHash target hash else s
  (if 7 ≤ step then s.setFld F.LCS_STATUS_STATE target else s).porst

/-- LC_ADVANCE (spec/11, R336, R337): the steps up to the signatures that are released, and from the commit of the intent on
the programming and the cold restart, or those up to the step after which power is lost. -/
def State.lcAdvance (s : State) (env : StartEnv) (lost : Option Nat) : State :=
  match s.execHead 0x36 with
  | none => s
  | some c =>
    match Config.lcBody c.body with
    | none => s.endCmd c 3 0
    | some (_, target, hash) =>
      let (t, done) := (if s.key.transition.isSome then s else s.lcBegin c target hash).lcSteps 256
      if done then
        (match lost with
        | none => ((t.endCmd c 0 0).lcProgram target hash).coldRestart env
        | some step => t.lcCut step target hash)
      else s.confine [.regs, .mgt, .ldg, .key] t

/-! ## Calm and the gust (spec/13, R371, R374 to R376) -/

/-- Steps 3 to 5 of R371: only the always-on domain goes on. -/
def State.enterCalm (s : State) : State :=
  let prefer := s.role == 4
  let s := s.ldgPersist
  let s := (((s.emit (.pin 3 false)).driveHold false).ppsLow).emit (.pin 1 false)
  let s := s.emit (.pin 4 false)
  let asleep := s.asleepMask
  let s := (s.latchLines.blank true).setFld F.NM_STATE_ASLEEP asleep
  let s := s.setFld F.CLK_STATUS_XTAL_OK (s.fld F.NM_CFG_CALM_XTAL)
  { s with cnts := [], nm := { s.nm with calm := true }, twin := { s.twin with prefer := prefer } }

/-- SLEEP_ENTRY (R371). -/
def State.sleepEntry (s : State) : State :=
  if !s.entryDue then s
  else if s.entryWaits then s.setFld F.NM_STATE_RING 3
  else
    let s := s.enterSleep
    if s.calmNext then s.enterCalm else s.endInLull

/-- Step 9 of R374 on a unit whose retained copy is good: Lee mode is entered and left within it. -/
def State.gustApply (s : State) (groups asleep us : Nat) : State :=
  let s := s.emit (.pin 5 false)
  let s := s.setFld F.NM_STATE_ASLEEP (asleep &&& notMask groups)
  let s := s.applyRetained.releasePhys
  ((s.emit (.pin 5 true)).enableForwarding us).linGust

/-- Steps 2 to 9 of R374, from a state whose registers outside the always-on domain start again. -/
def State.gustSteps (s : State) (cause : Nat × Nat × Nat) (asleep : Nat) (env : StartEnv) : State :=
  s.confine [.regs, .cnts, .heldLo, .held, .fresh, .bufLog, .nmLog, .data, .ports, .time, .mgt, .edge, .nm, .wvr, .ldg, .twin, .key, .saf, .boot, .out] (
    let (groups, code, lines) := cause
    let s := { s with cnts := [], nm := { s.nm with latched := none, armed := false } }
    let s := s.setFlds [(F.NM_CAUSE_FIRST, code), (F.NM_CAUSE_LINES, lines), (F.NM_CAUSE_GROUPS, groups), (F.CLK_STATUS_XTAL_OK, 1),
      (F.CLK_STATUS_PLL_LOCK, 1)]
    let s := { s with boot := { s.boot with mramBad := s.boot.mramBad ||| env.mram } }
    if env.selftest ≠ 0 then (s.setSelftest env.selftest).hwFault env
    else s.warmFirmware env (fun s =>
      let s := ((s.startMc env false).inc (C.nm 6)).nmEvent 8 code groups
      if s.retainedGood then s.gustApply groups asleep env.startUs else s.selectImage env))

/-- GUST: from Calm, with the wake latch set. -/
def State.gust (s : State) (env : StartEnv) : State :=
  match s.nm.latched with
  | none => s
  | some cause => if !s.nm.calm ∨ s.boot.held then s else ((s.emit (.pin 1 true)).blank true).gustSteps cause s.asleepMask env

end Sys2Proof.Machine
end

