-- ==== Sys2Proof/Machine/Mgmt.lean ====
section
/-!
DEFINITION. Commands: their arrival, authentication, admission, acceptance and refusal (spec/16, R450 to R464), and the
commands that only read or answer (R461, R470, R473, R477).
-/

namespace Sys2Proof.Machine

/-! ## Arrival (R454, R459, R471; spec/10, R297) -/

/-- A command message reaches the MC's queue of 16. -/
def State.commandArrive (s : State) (c : Chan) (msg : List Byte) : State :=
  if !s.mcRuns then s
  else
    let s := s.inc (C.mgt 0)
    if 16 ≤ s.mgt.cmdQ.length then s.inc (C.mgt 5) else { s with mgt := { s.mgt with cmdQ := s.mgt.cmdQ ++ [⟨c, msg⟩] } }

/-- The message in a command frame of at least 60 B: padding to 60 B is no part of it. -/
def frameMessage (frame body : List Byte) : List Byte :=
  let n := 28 + beAt body 10 2
  if frame.length ≤ 60 ∧ n ≤ body.length then body.take n else body

/-- COMMAND_FRAME_RECEIVE: a good command frame reaches the MC; a DMA transfer of it that fails discards it. -/
def State.commandFrame (s : State) (err : BufErr) : State :=
  match s.takeInbox (fun m => m.kind == .command) with
  | none => s
  | some (f, s) =>
    if stopsDma err then s.dmaError f.head err
    else
      let s := s.releaseDma f.head
      let o := afterTags s.altTpid f.bytes 3 12
      let tag := if o = 12 then [] else slice f.bytes 12 4
      s.commandArrive (.frame f.port (f.bytes.take 6) (slice f.bytes 6 6) tag) (frameMessage f.bytes (s.ptpBody f.bytes))

/-! ## MGT_SPI (R459, R460) -/

/-- READ_RESPONSE of `n` bytes: zeros until a response is complete, then the sync byte and the oldest one, which is removed
when its last byte was clocked out. -/
def State.spiResponse (s : State) (n : Nat) : State :=
  match s.mgt.respSpi with
  | [] => s.emit (.spi (List.replicate n 0))
  | m :: r =>
    let s := s.emit (.spi (padTo n 0 (0xA5 :: m)))
    if m.length < n then { s with mgt := { s.mgt with respSpi := r } } else s

/-- The status byte: RSP_READY, EVT_PENDING, QUEUE_FULL, LIMITED. -/
def State.spiStatus (s : State) : Nat :=
  b2n (!s.mgt.respSpi.isEmpty) + 2 * b2n (!s.mgt.events.isEmpty) + 4 * b2n (decide (16 ≤ s.mgt.cmdQ.length)) +
    8 * b2n (decide (0xC ≤ s.fld F.BOOT_STATUS_STATE))

/-- READ_STATUS. -/
def State.spiReadStatus (s : State) : State := s.emit (.spi [BitVec.ofNat 8 s.spiStatus])

/-- READ_EVENT of `n` bytes: the oldest unacknowledged event message; nothing is acknowledged. A
RETIRED unit derives no key for its TAG and returns zeros (spec/11, R316; DESIGN CHOICE, log entry 72). -/
def State.spiEvent (s : State) (n : Nat) : State :=
  match s.mgt.events with
  | [] => s.emit (.spi (List.replicate n 0))
  | e :: _ => s.emit (.spi (if s.lcState < 4 then padTo n 0 (0xA5 :: s.eventMessage e) else List.replicate n 0))

/-! ## Checks (R451 to R456, R461 to R464) -/

/-- Fields of a command message. -/
def msgOrigin (m : List Byte) : Nat := beAt m 2 1
def msgSeq (m : List Byte) : Nat := beAt m 4 4
def msgOp (m : List Byte) : Nat := beAt m 8 2
def msgLen (m : List Byte) : Nat := beAt m 10 2
def msgBody (m : List Byte) : List Byte := slice m 12 (msgLen m)

/-- The greatest LENGTH of a channel. -/
def Chan.limit : Chan → Nat
  | .spi => 4112
  | .frame .. => 1440

/-- A message obeys R451 and R452. -/
def framed (c : Chan) (m : List Byte) : Bool :=
  decide (12 ≤ m.length) && beAt m 0 1 == 0xC0 && beAt m 1 1 == 1 && msgLen m % 4 == 0 && decide (msgLen m ≤ c.limit) && m.length == 28 + msgLen m

/-- A message's TAG verifies: RETIRED has no command keys (spec/11, R339). -/
def State.authentic (s : State) (m : List Byte) : Bool :=
  decide (msgOrigin m < 64) && decide (s.lcState < 4) && cmac (s.cmdKey (msgOrigin m)) (m.take (12 + msgLen m)) == m.drop (12 + msgLen m)

/-- SEQ is new; CMD_KEY_ADVANCE may use the last one again (R453). -/
def State.fresh? (s : State) (m : List Byte) : Bool :=
  let last := s.fld (F.MGT_LAST_SEQ_SEQ (msgOrigin m))
  decide (last < msgSeq m) || (msgOp m == 0x34 && msgSeq m == 0xFFFFFFFF)

/-- The commands with the lengths of their bodies: least, greatest and step (R461). -/
def bodyLen (op : Nat) (b : List Byte) : Option Bool :=
  let n := b.length
  match op with
  | 0x10 | 0x20 | 0x22 | 0x23 | 0x37 | 0x51 | 0x80 => some (n == 4)
  | 0x11 | 0x34 | 0x61 | 0x71 | 0x104 => some (n == 0)
  | 0x21 => some (decide (8 ≤ n))
  | 0x24 | 0x40 => some (decide (4 ≤ n))
  | 0x30 | 0x31 | 0x32 | 0x33 => some (Config.keyBody op b).isSome
  | 0x35 => some (within n 8 64)
  | 0x36 => some (Config.lcBody b).isSome
  | 0x50 | 0x62 | 0x102 => some (n == 8)
  | 0x60 => some (n == 12)
  | 0x70 => some (within n 76 1440)
  | 0x100 => some (within n 4 256)
  | 0x101 => some (n % 12 == 0 && within n 12 1440)
  | 0x103 => some (within n 8 1028)
  | _ => none

/-- The record that a RECORD_APPLY carries: its whole body, well formed. -/
def applyRec (b : List Byte) : Option Rec :=
  match readRecs b 2 0 with
  | ([r], none) => some r
  | _ => none

/-- BAD_FORMAT: the length is wrong, or a RECORD_APPLY's record is malformed. -/
def badFormat (op : Nat) (b : List Byte) : Bool := bodyLen op b == some false || (op == 0x40 && (applyRec b).isNone)

/-- A record that RECORD_APPLY refuses (R462). -/
def Rec.excluded (r : Rec) : Bool :=
  r.expert || within r.number 0x010 0x07F || within r.number 0x780 0x7FF || within r.number 0x900 0x9FF || within r.number 0xA00 0xA7F

/-- A slot in use: the source of the running image while no retained copy is sealed (R463). -/
def State.slotInUse (s : State) (n : Nat) : Bool :=
  s.fld F.BOOT_STATUS_SOURCE == n && s.boot.sealOf.isNone

/-- LC_ADVANCE is not admitted (spec/11, R336). -/
def State.lcBarred (s : State) (origin : Nat) (b : List Byte) : Bool :=
  match Config.lcBody b with
  | none => true
  | some (_, target, _) => origin != 0 || s.flag F.LCS_STATUS_TRANSITION || !(target == s.lcState + 1 || target == 4)

/-- NOT_PERMITTED (R64, R336, R337, R462, R463; R317). -/
def State.notPermitted (s : State) (origin op : Nat) (b : List Byte) : Bool :=
  let st := s.fld F.BOOT_STATUS_STATE
  let limited := decide (0xC ≤ st) && !(within op 0x20 0x23 || (op == 0x24 && st == 0xD))
  limited || (op == 0x36 && s.lcBarred origin b) ||
    (s.flag F.LCS_STATUS_TRANSITION && (within op 0x30 0x32 || op == 0x34)) ||
    (op == 0x34 && s.fld (F.CMD_GEN_GEN origin) == 65535) ||
    (op == 0x21 && s.slotInUse (beAt b 0 1)) ||
    (op == 0x40 && (match applyRec b with
      | some r => r.excluded
      | none => false))

/-- A RECORD_APPLY's record does not pass checks 9 to 12 of R54 against the current configuration. -/
def State.recordBad (s : State) (r : Rec) : Bool :=
  if !r.known then r.critical
  else r.badForm || (r.forUnit s.unitId && (s.translate true r.number r.words).clashes true [r] [] r)

/-- A key command's fields: slot 0 to 511, and TYPE 1 or 2 where it gives one. -/
def keyFieldsBad (op : Nat) (b : List Byte) : Bool :=
  match Config.keyBody op b with
  | none => false
  | some (_, i, type, _, _, _) => decide (511 < i) || (decide (op < 0x32) && !within type 1 2)

/-- LC_ADVANCE's fields: the unit's SERIAL, and a hash that is all zeros exactly for RETIRED. -/
def State.lcFieldsBad (s : State) (b : List Byte) : Bool :=
  match Config.lcBody b with
  | none => false
  | some (serial, target, hash) => serial != s.serial || (hash.all (fun x => x == 0)) != (target == 4)

/-- INVALID_FIELD: a field out of range. -/
def State.invalidField (s : State) (op : Nat) (b : List Byte) : Bool :=
  let w := beAt b 0 4
  match op with
  | 0x10 | 0x20 | 0x22 | 0x23 => decide (1 < w)
  | 0x21 => decide (1 < beAt b 0 1) || beAt b 4 4 % 4 != 0 || decide (4194304 < beAt b 4 4 + (b.length - 8))
  | 0x24 => decide (1048576 < w + (b.length - 4))
  | 0x30 | 0x31 | 0x32 | 0x33 => keyFieldsBad op b
  | 0x36 => s.lcFieldsBad b
  | 0x37 => decide (s.key.statements.length < w)
  | 0x40 => (match applyRec b with
    | some r => s.recordBad r
    | none => false)
  | 0x50 => !within (beAt b 4 4) 1 16
  | 0x60 => !within (beAt b 8 4) 1 20
  | 0x100 => (bodyWords b).any (fun a => a % 4 != 0)
  | 0x101 => (bodyTriples b).any (fun t => t.1 % 4 != 0 || t.2.2 &&& t.2.1 != t.2.2)
  | 0x102 => w % 4 != 0 || !within (beAt b 4 4) 1 256
  | 0x103 => w % 4 != 0
  | _ => false

/-- An address that a command may not write: the KEY and LCS block, or a scratchpad bank that the MC owns (R464). -/
def State.barred (s : State) (a : Nat) : Bool :=
  match placeOf a with
  | .register => decide (0x240000 ≤ a) && decide (a < 0x260000)
  | .scratch off => s.bankOwner (bankOf off) == 1
  | _ => false

/-- FORBIDDEN_ADDRESS. -/
def State.forbidden (s : State) (op : Nat) (b : List Byte) : Bool :=
  if op = 0x101 then (bodyTriples b).any (fun t => s.barred t.1)
  else if op = 0x103 then (bodyBurst b).any (fun t => s.barred t.1) else false

/-- The channel is a frame. -/
def Chan.isFrame : Chan → Bool
  | .spi => false
  | .frame .. => true

/-- Whether an origin is enabled. -/
def State.originOn (s : State) (o : Nat) : Bool := (s.fld (F.MGT_ORIGIN_EN_EN (o / 32))).testBit (o % 32)

/-- Conditions 1 and 2 of R456: the status, 0 for none. -/
def State.refuseEarly (s : State) (c : Chan) (m : List Byte) : Nat :=
  if !s.originOn (msgOrigin m) then 0x19
  else if c.isFrame && (msgOrigin m == 0 || msgOp m == 0x36) then 0x18 else 0

/-- Conditions 4 to 8. -/
def State.refuseLate (s : State) (m : List Byte) : Nat :=
  let op := msgOp m
  let b := msgBody m
  if (bodyLen op b).isNone then 0x12
  else if badFormat op b then 0x11
  else if s.notPermitted (msgOrigin m) op b then 0x15
  else if s.invalidField op b then 0x13
  else if s.forbidden op b then 0x14 else 0

/-! ## Journal entries of a command (R475) -/

/-- The form in which a body is journaled: its FORM and bytes. -/
def journalForm (op : Nat) (b : List Byte) : Nat × List Byte :=
  let cut (n : Nat) : Nat × List Byte := (1, b.take n ++ sha256 (b.drop n))
  match op with
  | 0x21 => cut 8
  | 0x24 => cut 4
  | 0x70 => cut 16
  | _ => (0, b)

/-- Pieces of 20 bytes. -/
def pieces20 : Nat → List Byte → List (List Byte)
  | 0, _ => []
  | n + 1, b => if b.isEmpty then [] else b.take 20 :: pieces20 n (b.drop 20)

/-- The COMMAND entry and its DATA entries: kind, PART and DATA. -/
def commandEntries (op : Nat) (b : List Byte) : List (Nat × Nat × List Byte) :=
  let f := journalForm op b
  let l := pieces20 f.2.length (f.2.drop 16)
  (1, l.length, beBytes 2 f.2.length ++ beBytes 2 f.1 ++ f.2.take 16) ::
    ((List.range l.length).zip l).map (fun c => (2, c.1 + 1, c.2))

/-! ## Acceptance (R455, R457; spec/15, R430, R431) -/

/-- A class D command: it answers when its execution ends. -/
def classD (op : Nat) : Bool := [0x22, 0x35, 0x37, 0x50, 0x51, 0x60, 0x61, 0x62, 0x71, 0x100, 0x102, 0x104].contains op

/-- Journal entries that the partner has not been sent go to it. -/
def State.relayJournal (s : State) : State :=
  if !s.pairActive ∨ !s.partnerHere then s
  else
    let l := (s.mgt.jrn.filter (fun e => decide (s.twin.sent ≤ e.jseq))).reverse
    let s := forEach l (fun e s => s.pairSend 2 (beBytes 8 e.jseq ++ e.bytes)) s
    { s with twin := { s.twin with sent := s.nextJseq } }

/-- Step 5: the command is accepted, and answered where it is not of class D; CMD_KEY_ADVANCE raises its origin's CMD_GEN (spec/11,
R317). -/
def State.acceptCmd (s : State) (c : Cmd) : State :=
  let s := (s.setFld (F.MGT_LAST_SEQ_SEQ c.origin) c.seq).inc (C.mgt 1)
  (if classD c.opcode then s else s.answer c 0 []).raiseGen c

/-- The command waits for its execution: at T_apply in a standby pair, which COMMIT tells the partner. -/
def State.scheduleCmd (s : State) (c : Cmd) : State :=
  if s.pairActive then
    let t := s.nowNs + 1000 * s.fld F.PAIR_TIMING_APPLY_US
    let s := s.pairSend 4 (beBytes 8 c.jseq ++ beBytes 6 (secOf t) ++ beBytes 4 (nsOf t))
    { s with twin := { s.twin with commits := s.twin.commits ++ [(c, t)] } }
  else { s with mgt := { s.mgt with execQ := s.mgt.execQ ++ [c] } }

/-- A command whose entries are valid is accepted: in a standby pair with a partner, when the JOURNAL_ACK arrives. -/
def State.replicate (s : State) (c : Cmd) : State :=
  let s := s.relayJournal
  if s.pairActive && s.partnerHere then { s with twin := { s.twin with acks := [(c, 1)] } }
  else (s.acceptCmd c).scheduleCmd c

/-- The command is journaled and taken. -/
def State.takeCmd (s : State) (ch : Chan) (m : List Byte) : State :=
  let c : Cmd := ⟨ch, msgOrigin m, msgSeq m, msgOp m, msgBody m, s.nextJseq, s.fld F.BRG_TAG_NEXT, s.fld (F.CMD_GEN_GEN (msgOrigin m))⟩
  (s.appendGroup c.origin c.opcode c.seq (commandEntries c.opcode c.body)).replicate c

/-- A refusal: REFUSED entry and response with the status. The STANDBY, whose journal is its partner's, makes no entry. -/
def State.refuseCmd (s : State) (ch : Chan) (m : List Byte) (status : Nat) : State :=
  let held := s.journalHeld
  let j := if held then 0 else s.nextJseq
  let s := (s.append 4 (msgOrigin m) (msgOp m) (msgSeq m) 0 (beBytes 2 status ++ (msgBody m).take 16)).inc (C.mgt 2)
  let s := if held then s else s.setFld (F.MGT_LAST_SEQ_SEQ (msgOrigin m)) (msgSeq m)
  (s.respond ch (message (s.cmdKey (msgOrigin m)) 0xC1 (msgOrigin m) (msgSeq m) (msgOp m) (rspBody status 0 1 j []))).relayJournal

/-- A REPLAY: answered, counted, not journaled. -/
def State.replayCmd (s : State) (ch : Chan) (m : List Byte) : State :=
  (s.respond ch (message (s.cmdKey (msgOrigin m)) 0xC1 (msgOrigin m) (msgSeq m) (msgOp m) (rspBody Config.replayStatus 0 1 0 []))).inc (C.mgt 4)

/-- The checks of R456 and what follows. A unit of a standby pair that is not ACTIVE passes the command on to an ACTIVE
partner, and refuses it otherwise (spec/15, R430). -/
def State.judgeCmd (s : State) (ch : Chan) (m : List Byte) : State :=
  let e := s.refuseEarly ch m
  if e ≠ 0 then s.refuseCmd ch m e
  else if s.standby then
    (if s.partnerHere && s.fld F.PAIR_STATUS_PARTNER_ROLE == 3 then s.emit (.passed m) else s.refuseCmd ch m 0x16)
  else
    let r := s.refuseLate m
    if r ≠ 0 then s.refuseCmd ch m r else s.takeCmd ch m

/-- COMMAND_ACCEPT: the command at the head of the queue. -/
def State.commandAccept (s : State) : State :=
  match s.mgt.cmdQ with
  | [] => s
  | q :: r =>
    if !s.mcRuns || (s.pairActive && !s.twin.acks.isEmpty) then s
    else
      let s := { s with mgt := { s.mgt with cmdQ := r }, twin := { s.twin with acks := [] } }
      if !framed q.chan q.msg then s.inc (C.mgt 6)
      else if !s.authentic q.msg then s.inc (C.mgt 3)
      else if !s.fresh? q.msg then s.replayCmd q.chan q.msg
      else s.judgeCmd q.chan q.msg

/-! ## The journal in a standby pair (spec/15, R428, R430, R431) -/

/-- The command whose acknowledgement is awaited is accepted. -/
def State.acceptAcked (s : State) : State :=
  match s.twin.acks with
  | [] => s
  | (c, _) :: _ =>
    let s := { s with twin := { s.twin with acks := [] } }
    if s.pairActive then (s.acceptCmd c).scheduleCmd c else s

/-- JOURNAL_ACK_RECEIVE. -/
def State.journalAck (s : State) : State :=
  match s.takePair 3 with
  | none => s
  | some (f, s) =>
    let s := s.inc (C.pair 5)
    match s.twin.acks with
    | (c, _) :: _ => if c.jseq + s.groupSize c.jseq ≤ beAt (pmBody f.bytes) 0 8 + 1 then s.acceptAcked else s
    | [] => s

/-- JOURNAL_ACK_TIMEOUT: the entries are sent again, up to 3 times; then the command is accepted. -/
def State.ackTimeout (s : State) : State :=
  match s.twin.acks with
  | [] => s
  | (c, n) :: _ =>
    if 3 < n ∨ !s.partnerHere then s.acceptAcked
    else
      let l := (s.mgt.jrn.filter (fun e => decide (c.jseq ≤ e.jseq) && decide (e.jseq < c.jseq + s.groupSize c.jseq))).reverse
      let s := forEach l (fun e s => s.pairSend 2 (beBytes 8 e.jseq ++ e.bytes)) s
      { s with twin := { s.twin with acks := [(c, n + 1)] } }.inc (C.pair 6)

/-- PARTNER_LOSS: without a partner the command is accepted on the own journal alone. -/
def State.partnerGone (s : State) : State :=
  let s := s.partnerLoss
  if s.partnerHere then s else s.acceptAcked

/-- COMMAND_APPLY_TIME: commands whose T_apply is reached are applied. -/
def State.applyTime (s : State) : State :=
  let due := s.twin.commits.filter (fun c => decide (c.2 ≤ s.nowNs))
  { s with twin := { s.twin with commits := s.twin.commits.filter (fun c => decide (s.nowNs < c.2)) },
           mgt := { s.mgt with execQ := s.mgt.execQ ++ due.map (fun c => c.1) } }

/-- The body that the entries of a command hold, where they hold it verbatim. -/
def State.journaledBody (s : State) (e : JEntry) : Option (List Byte) :=
  let n := beAt e.body 28 2
  let parts := (List.range (beAt e.body 26 2)).map (fun k => s.entryOf (e.jseq + 1 + k))
  if beAt e.body 30 2 ≠ 0 ∨ parts.any (fun p => p.isNone) then none
  else some (((slice e.body 32 16) ++ parts.flatMap (fun p => match p with
    | some d => slice d.body 28 20
    | none => [])).take n)

/-- The command that a COMMAND entry and its DATA entries journal; none where its data is not in the journal. -/
def State.journaledCmd (s : State) (e : JEntry) : Option Cmd :=
  (s.journaledBody e).map (fun b => ⟨.spi, beAt e.body 9 1, beAt e.body 12 4, beAt e.body 10 2, b, e.jseq, s.fld F.BRG_TAG_NEXT,
    s.fld (F.CMD_GEN_GEN (beAt e.body 9 1))⟩)

/-- An entry of the active unit becomes the standby's: a CHECKPOINT's statement, and LAST_SEQ of a refused command. -/
def State.takeEntry (s : State) (e : JEntry) : State :=
  let kind := beAt e.body 8 1
  let o := beAt e.body 9 1
  let s := s.putEntry e
  if kind = 7 then s.putStatement e
  else if kind = 4 ∧ o < 64 then s.setFld (F.MGT_LAST_SEQ_SEQ o) (beAt e.body 12 4)
  else if kind = 1 then
    { s with twin := { s.twin with uncommitted := s.twin.uncommitted ++ [⟨.spi, o, beAt e.body 12 4, beAt e.body 10 2, [], e.jseq, 0, 0⟩] } }
  else s

/-- The entry that a JOURNAL or CATCH_UP message holds at an offset of its body. -/
def entryAt (b : List Byte) (off : Nat) : JEntry := ⟨beAt b off 8, slice b off 48, slice b (off + 48) 16⟩

/-- The entry follows the newest one. -/
def State.follows (s : State) (e : JEntry) : Bool := e.jseq == s.nextJseq && chainOf s.lastChain e.body == e.chain

/-- The standby has missed an entry: it rejoins. -/
def State.missEntry (s : State) : State :=
  if within s.twin.step 1 3 || s.twin.step == 9 then s
  else
    let s := s.pairEvent 7
    { s with twin := { s.twin with rejoined := false, step := 1, tSync := none, snapping := false } }.settleReady

/-- JOURNAL_RECEIVE. -/
def State.journalReceive (s : State) : State :=
  match s.takePair 2 with
  | none => s
  | some (f, s) =>
    if s.role ≠ 4 then s
    else
      let b := pmBody f.bytes
      let e := entryAt b 8
      if s.follows e then (s.takeEntry e).pairSend 3 (beBytes 8 e.jseq)
      else if e.jseq < s.nextJseq then s.pairSend 3 (beBytes 8 e.jseq)
      else s.missEntry

/-- COMMIT_RECEIVE: the command waits for T_apply; after it, it is applied at once and the standby rejoins. -/
def State.commitReceive (s : State) : State :=
  match s.takePair 4 with
  | none => s
  | some (f, s) =>
    let b := pmBody f.bytes
    let j := beAt b 0 8
    let t := beAt b 8 6 * 1000000000 + beAt b 14 4
    if s.role ≠ 4 then s
    else match s.entryOf j with
      | none => s
      | some e =>
        let s := { s with twin := { s.twin with uncommitted := s.twin.uncommitted.filter (fun c => c.jseq != j) } }
        let s := s.setFld (F.MGT_LAST_SEQ_SEQ (beAt e.body 9 1)) (beAt e.body 12 4)
        match s.journaledCmd e with
        | none => s
        | some c =>
          let s := s.raiseGen c
          if s.nowNs < t then { s with twin := { s.twin with commits := s.twin.commits ++ [(c, t)] } }
          else { s with mgt := { s.mgt with execQ := s.mgt.execQ ++ [c] } }.missEntry

/-- A command of the journal that changes state and that a catch-up executes. -/
def stateChanging (op : Nat) : Bool := [0x20, 0x23, 0x30, 0x31, 0x32, 0x33, 0x34, 0x40, 0x101, 0x103].contains op

/-- Commands of a catch-up are executed in order; a START of the active unit leaves those before it undone. -/
def State.catchUpRun (s : State) (e : JEntry) : State :=
  let kind := beAt e.body 8 1
  if kind = 6 then { s with mgt := { s.mgt with execQ := [] } }
  else
    let first := match s.mgt.jrn.find? (fun x => beAt x.body 8 1 == 1) with
      | some x => if kind ≤ 2 ∧ x.jseq + beAt x.body 26 2 = e.jseq then some x else none
      | none => none
    match first with
    | none => s
    | some x =>
      match s.journaledCmd x with
      | some c => if stateChanging c.opcode then ({ s with mgt := { s.mgt with execQ := s.mgt.execQ ++ [c] } }).raiseGen c else s
      | none => s

/-- One entry of a catch-up: an entry both hold is skipped; what differs gives way to the active unit's. -/
def State.catchUpEntry (s : State) (e : JEntry) : State :=
  if s.entryOf e.jseq = some e then s
  else
    let gone := (s.mgt.jrn.filter (fun x => decide (e.jseq ≤ x.jseq))).length
    let s := if gone = 0 then s else s.count (C.pair 14) gone
    let s := { s with mgt := { s.mgt with jrn := s.mgt.jrn.filter (fun x => decide (x.jseq < e.jseq)) } }
    let s := s.putEntry e
    let s := if beAt e.body 8 1 = 7 then s.putStatement e else s
    let o := beAt e.body 9 1
    let s := if (beAt e.body 8 1 = 1 ∨ beAt e.body 8 1 = 4) ∧ o < 64 then s.setFld (F.MGT_LAST_SEQ_SEQ o) (beAt e.body 12 4) else s
    s.catchUpRun e

/-- CATCH_UP_RECEIVE. -/
def State.catchUpReceive (s : State) : State :=
  match s.takePair 11 with
  | none => s
  | some (f, s) =>
    if s.role ≠ 4 ∨ s.twin.step ≠ 3 then s
    else
      let b := pmBody f.bytes
      forEach ((List.range (b.length / 64)).map (fun k => entryAt b (64 * k))) (fun e s => s.catchUpEntry e) s

/-! ## Commands that read, answer or send (R461, R470, R473, R477) -/

/-- RECORD_APPLY (R462): a record for the other unit, or of an unknown type, changes nothing. It waits while writes of earlier
commands to this unit's registers are outstanding: commands take effect in the order of their acceptance (spec/00, R13). -/
def State.recordApply (s : State) : State :=
  match s.execHead 0x40 with
  | none => s
  | some c =>
    if s.ownOutstanding then s else
    let s := match applyRec c.body with
      | some r => if r.known && r.forUnit s.unitId then s.translate true r.number r.words else s
      | none => s
    s.endCmd c 0 0

/-- LEDGER_READ: the records of the INDEXes asked for that the ring holds. -/
def State.ledgerRead (s : State) : State :=
  match s.execHead 0x50 with
  | none => s
  | some c =>
    let i := beAt c.body 0 4
    s.endData c (((List.range (beAt c.body 4 4)).filterMap (fun k => s.ldgAt (i + k))).flatMap id)

/-- LEDGER_SIG_READ: the signature of the batch that ends at an INDEX. -/
def State.ledgerSigRead (s : State) : State :=
  match s.execHead 0x51 with
  | none => s
  | some c =>
    let i := beAt c.body 0 4
    s.endData c (match s.ldg.signatures.find? (fun x => x.2.1 == i) with
      | some x => x.2.2
      | none => [])

/-- Entries from a JSEQ on that the ring holds. -/
def State.entriesFrom (s : State) : Nat → Nat → List Byte
  | 0, _ => []
  | n + 1, j => match s.entryOf j with
    | some e => e.bytes ++ s.entriesFrom n (j + 1)
    | none => []

/-- JRN_READ. -/
def State.jrnRead (s : State) : State :=
  match s.execHead 0x60 with
  | none => s
  | some c => s.endData c (s.entriesFrom (beAt c.body 8 4) (beAt c.body 0 8))

/-- CHECKPOINT: the entry and its statement; the command ends when the statement is signed. The standby's checkpoint is the
active unit's entry. -/
def State.checkpointCmd (s : State) : State :=
  match s.execHead 0x61 with
  | none => s
  | some c =>
    if s.journalHeld then s.popExec
    else if s.mgt.cpWait.isSome then s
    else
      let s := s.checkpoint c.origin c.opcode c.seq
      { s with mgt := { s.mgt with cpWait := some (s.nextJseq - 1) } }

/-- CHECKPOINT_READ: the signed statement over an entry. -/
def State.checkpointRead (s : State) : State :=
  match s.execHead 0x62 with
  | none => s
  | some c =>
    let j := beAt c.body 0 8
    s.endData c (match s.mgt.statements.find? (fun x => x.jseq == j) with
      | some x => x.signed.getD []
      | none => [])

/-- FRAME_SEND: the frame enters the MC lane, or is discarded where the lane is full (R541). -/
def State.frameSend (s : State) : State :=
  match s.execHead 0x70 with
  | none => s
  | some c =>
    if 64 ≤ s.mgt.mcLane.length then (s.inc (C.mgt 13)).endCmd c 3 0
    else
      let w := beAt c.body 0 4
      let zone := if w.testBit 28 then bits w 27 24 else s.mgtZone
      let launch := if w.testBit 23 then some (beAt c.body 4 6 * 1000000000 + beAt c.body 10 4) else none
      { s with mgt := { s.mgt with mcLane := s.mgt.mcLane ++ [LaneFrame.mk (c.body.drop 16) ⟨zone, none, launch⟩] } }.endCmd c 0 0

/-- What the transfer of a waiting frame meets: a word of it that a scrub or another copy's read found uncorrectable stays so. -/
def State.dmaMeets (s : State) (h : Option Nat) : BufErr :=
  match h with
  | some h => s.chainErr h
  | none => .none

/-- FRAME_READ: the oldest frame that waits, with its FCS, cut at 1,400 B; a frame whose transfer meets an uncorrectable error is
discarded, and the command completes as FAILED with no response (R471; log entry 69). -/
def State.frameRead (s : State) : State :=
  match s.execHead 0x71 with
  | none => s
  | some c =>
    match s.mgt.mcFrames with
    | [] => s.endData c []
    | f :: r =>
      let b := withFcs f.bytes
      let ns := f.stamp / fracPerNs
      let s := { s with mgt := { s.mgt with mcFrames := r } }
      let err := s.dmaMeets f.head
      if stopsDma err then (s.dmaError f.head err).endCmd c 3 0
      else (s.releaseDma f.head).endData c (beBytes 1 f.port ++ beBytes 1 f.kind ++ beBytes 2 b.length ++ beBytes 6 (secOf ns) ++
        beBytes 4 (nsOf ns) ++ [0, 0] ++ b.take 1400)

/-- EVENT_ACK: the event of a SEQ and every earlier one is acknowledged. -/
def State.eventAck (s : State) : State :=
  match s.execHead 0x80 with
  | none => s
  | some c =>
    let n := beAt c.body 0 4
    let later (e : EvMsg) : Bool := decide (2 ^ 31 ≤ (n + 2 ^ 32 - e.seq) % 2 ^ 32)
    { s with mgt := { s.mgt with events := s.mgt.events.filter later } }.endCmd c 0 0

end Sys2Proof.Machine
end

