-- ==== Sys2Proof/Machine/Operands.lean ====
section
/-!
DEFINITION. The operand forms of the commands: which operands the device has, when a command's occasion exists, and the
operations that commands without an operand of their own make on the element that the spec's order selects.
-/

namespace Sys2Proof.Machine

/-- A command whose operand names nothing that the device has finds nothing to act on and changes nothing, as a write to an
address that no register occupies is ignored (spec/18, R505; log entry 6); otherwise the state becomes `t`. -/
def State.demand (s : State) (ok : Bool) (t : State) : Out := .next (if ok then t else s)

/-! ## Occasions (log entry 31) -/

/-- The core domain has power and runs: no power-on reset, no Calm (spec/02, R67; spec/13, R375). -/
def State.powered (s : State) : Bool := !s.boot.held && !s.nm.calm

/-- The unit drives its interfaces: it is powered, and no fatal fault has ended what it sends (spec/01, R20). -/
def State.drives (s : State) : Bool := s.powered && s.saf.mode == .normal

/-- A start has ended, in HOLD or in forwarding, and no fatal fault has halted the unit: the pair link serves, and network time,
with what follows it, runs (spec/15, R416; spec/06, R176, R195). -/
def State.linked (s : State) : Bool :=
  s.powered && s.saf.mode == .normal && (s.fld F.BOOT_STATUS_STATE == 0xA || s.fld F.BOOT_STATUS_STATE == 0xB)

/-- A register of this unit can be accessed: the bridge runs and the register's block is not stopped (spec/16, R464, R466). -/
def State.busRuns (s : State) (addr : Nat) : Bool := s.mcRuns && !s.stopped addr

/-! ## Operand forms -/

/-- The address of a register (spec/18, R504). -/
def isRegister (addr : Nat) : Bool :=
  placeOf addr == .register && ((regAt addr).isSome || (decide (0x81000 ≤ addr) && decide (addr < 0x81114) && addr % 4 == 0))

/-- REGISTER_WRITE: the bridge makes the write, or it fails as a posted write of a command does: no register lies outside every
region, and a stopped block's registers cannot be written (spec/16, R466; spec/17, R501; spec/18, R505). -/
def State.registerWrite (s : State) (addr : Nat) (mask value : Word) : State :=
  if !s.mcRuns || mask == 0 then s
  else if s.failCause addr = 0 then s.settled (fun s => s.busWrite addr mask value)
  else
    let tag := s.fld F.BRG_TAG_NEXT
    (s.setFld F.BRG_TAG_NEXT ((tag + 1) % 65536)).writeFailed (s.failCause addr) tag addr

/-- The HI half of a writable snapshot pair (spec/01, R9). -/
def isPairHi (addr : Nat) : Bool := decide (4 ≤ addr) && isPairLo (addr - 4)

/-- A key, mask or action word of the TCAM window (spec/04, R118). -/
def isClsEntry (addr : Nat) : Bool :=
  addr % 4 == 0 && ((decide (0x81000 ≤ addr) && decide (addr < 0x81050)) || (decide (0x81080 ≤ addr) && decide (addr < 0x810D0)) ||
    (decide (0x81100 ≤ addr) && decide (addr < 0x8110C)))

/-- Bytes arrive on a port other than M, on the express MAC or, on a port with MAC merge, in mPackets (spec/03, R80, R81). -/
def rxForm (port : Nat) (kind : MPacket) : Bool :=
  decide (port < 34) && (match kind with
    | .express => true
    | .start count => hasMerge port && decide (count < 4)
    | .cont count frag => hasMerge port && decide (count < 4) && decide (frag < 4))

/-- A MAC of a port: every port has the express MAC, a port with MAC merge the preemptable one too (spec/03, R80). -/
def txForm (port : Nat) (mac : MacSel) : Bool := decide (port < 35) && (mac == .express || hasMerge port)

/-- The number of a two-phase record, whose write a power loss can cut (spec/11, R318). -/
def recordNumber (n : Nat) : Bool := decide (n < 11) || within n 64 127 || within n 1024 1535

/-- What a start can meet: the strap is one bit, the repairs fit MEM_REPAIR, the groups, MRAM regions and slots exist. -/
def startOk (env : StartEnv) : Bool :=
  decide (env.strap < 2) && decide (env.softCols < 4096) && env.badMacro.all (fun m => decide (m < 2048)) &&
    decide (env.selftest < 2 ^ 64) && decide (env.mram < 8) && env.torn.all (fun i => decide (i < 512)) &&
    env.tornHalf.all (fun i => decide (i < 512)) && env.stray.all (fun i => decide (i < 512)) && env.cut.all recordNumber

/-- A frame that a CAN bus can carry: a base identifier has 11 bits, an extended one 29, an XL priority 11; data of at most 8,
64 or 2,048 bytes; a remote frame carries none (spec/08, R235). -/
def canFrameOk (msg : CanFrame) : Bool :=
  decide (msg.fmt < 3) && decide (msg.id < (if msg.fmt = 1 then 2 ^ 29 else 2 ^ 11)) &&
    decide (msg.data.length ≤ (if msg.fmt = 2 then 2048 else if msg.fdf then 64 else 8)) && (!msg.rtr || msg.data.isEmpty)

/-- What a scrub can find: an existing copy in MRAM, and an existing field. -/
def scrubOk (find : ScrubFind) : Bool :=
  match find with
  | .mramDouble copy _ => copy.all (fun k => decide (k < 3))
  | .aonField n => decide (n < aonFields.length)
  | .tcam entry => decide (entry < 2816)
  | .fdb index => decide (index < 32768)
  | .buffer head err => decide (head < (if err = .nodeList then 280 else 131072))
  | _ => true

/-- The codes of the fatal faults that a detector reports (spec/14, R391). -/
def fatalCodes : List Nat := [0x01, 0x02, 0x03, 0x04, 0x05, 0x06, 0x08, 0x0A, 0x13, 0x15]

/-! ## Frames that are sources of the wake logic (spec/13, R357) -/

/-- Bytes of a frame arrive on a port; a frame that ends good is a source of its port's wake group (spec/01, R23). -/
def State.frameIn (s : State) (port : Nat) (kind : MPacket) (bytes : List Byte) (fin : RxEnd) : State :=
  let m := 2 * port + (if kind = .express then 0 else 1)
  let t := s.receive port kind bytes fin
  match fin, (s.rxTake port m kind).1 with
  | .ended, some r =>
    let r := { r with raw := r.raw ++ bytes }
    (match s.secView port r true with
      | some b => if s.rxRow port r = 0 ∧ s.drives then t.portTraffic port (r.stamp / fracPerNs) b else t
      | none => t)
  | _, _ => t

/-- A frame of a CAN or LIN channel arrives; one that is delivered is a source of its channel's wake group (spec/01, R23). -/
def State.canIn (s : State) (channel : Nat) (msg : CanFrame) (ago : Nat) : State :=
  let t := s.canReceive channel msg ago
  if t.cnt (C.edge channel 0) = s.cnt (C.edge channel 0) ∨ !s.drives then t else t.chanTraffic channel (s.edgeStamp ago)
def State.linIn (s : State) (channel : Nat) (bytes : List Byte) (fin : LinEnd) (ago : Nat) : State :=
  let t := s.linResponseIn channel bytes fin ago
  if t.cnt (C.edge (24 + channel) 1) = s.cnt (C.edge (24 + channel) 1) ∨ !s.drives then t
  else t.chanTraffic (24 + channel) (s.edgeStamp ago)

/-! ## The element that a command acts on -/

/-- Place of a port in the free-list rotation of a cycle (spec/01, R36). -/
def State.rotation (s : State) (port : Nat) : Nat := (port + 35 - s.cycle % 35) % 35

/-- A frame goes to its first pass before another: by its parse window, and in one cycle by the rotation of its port (spec/01,
R36). -/
def State.passBefore (s : State) (a b : Nat) : Bool :=
  let key (h : Nat) : Nat := (s.info h).window * 35 + s.rotation (match s.frame h with
    | some f => min f.port 34
    | none => 0)
  decide (key a < key b)

/-- The frame whose first pass is next. -/
def State.passFirst (s : State) : Option Nat :=
  match s.data.waiting with
  | [] => none
  | h :: r => some (r.foldl (fun a b => if s.passBefore b a then b else a) h)

/-- The second pass of the frame at the head of the recirculation FIFO may start (spec/01, R30). -/
def State.secondDue (s : State) : Option Nat :=
  match s.data.recirc with
  | [] => none
  | h :: _ => if (s.info h).secondAt ≤ s.cycle then some h else none

/-- A first pass; a frame of port M's lanes enters the buffer before it (spec/01, R28; spec/09, R280). A second pass that may
start has the lookup slot first (spec/01, R36). -/
def State.passNext (s : State) : State :=
  let s := s.inject
  match s.secondDue, s.passFirst with
  | none, some h => { s with data := { s.data with waiting := s.data.waiting.erase h } }.firstPass h
  | _, _ => s

/-- The second pass of the frame at the head of the recirculation FIFO (spec/01, R30; spec/04, R115). -/
def State.secondNext (s : State) : State :=
  match s.secondDue with
  | none => s
  | some h => { s with data := { s.data with recirc := s.data.recirc.tail } }.secondPassOf h

/-- The earliest frame of a port whose end has been received and not yet been written. -/
def State.unwritten (s : State) (port : Nat) : Option Nat :=
  let l := s.data.frames.filterMap (fun c => match c.2 with
    | some f => if f.port = port ∧ f.ended ∧ !f.written ∧ !f.cut ∧ (f.stage = .second ∨ f.stage = .passed) then some (c.1, f.stamp) else none
    | none => none)
  match l with
  | [] => none
  | c :: r => some (r.foldl (fun a b => if b.2 < a.2 then b else a) c).1

/-- The last byte of a port's earliest such frame is written (spec/04, R104). -/
def State.endNext (s : State) (port : Nat) : State :=
  match s.unwritten port with
  | some h => s.writeEnd h
  | none => s

/-- What the PHY and the serdes of a port report (spec/03, R74, R86): a B port's PHY link comes from its polls only; `usx` is its
USXGMII link and `speed` the Mb/s its PHY reports. -/
def State.linkInputs (s : State) (port : Nat) (phyUp lock usx : Bool) (speed : Nat) : State :=
  let s := if 10 ≤ port then s.setPhyLink port phyUp else s
  let s := s.setFld (F.MAC_STATUS_LOCK port) (b2n lock)
  let s := if port < 8 then (s.setUsxLink port usx).setPhySpeed port speed else s
  s.relink port

/-- The sweep visits the head of every queue (spec/05, R158). -/
def State.ageSweep (s : State) : State := forEach s.busyQueues (fun q s => if (s.qs q).quar then s else s.ageHeads q (s.queue q).length) s

/-- The audit examines every cell; a cell that nothing lists is free and in order (spec/05, R164). -/
def State.bufferAudit (s : State) (dirty : List Nat) : State :=
  (s.data.cells.map (fun c => c.1)).foldl (State.auditCell dirty) { s with data := { s.data with audit := true } }

/-- FLUSH_PORT with the destination in FDB_DATA, and FLUSH_DYNAMIC (spec/05, R170). -/
def State.fdbFlushPort (s : State) : State := s.fdbStart (.flushPort (s.fld F.FDB_DATA_DEST) 0)
def State.fdbFlushDynamic (s : State) : State := s.fdbStart (.flushDynamic 0)

/-- COMMIT of a shaper, a meter or a zone policer: it takes effect at the next token tick (spec/06, R182; spec/10, R295). -/
def State.commitShaper (s : State) (q : Nat) : State := s.requestCommit (F.SHP_CTRL_PENDING q) (F.SHP_CTRL_ERR_BUSY q)
def State.commitMeter (s : State) (i : Nat) : State := s.requestCommit (F.MTR_CTRL_PENDING i) (F.MTR_CTRL_ERR_BUSY i)
def State.commitPolicer (s : State) (i : Nat) : State := s.requestCommit (F.ZPOL_CTRL_PENDING i) (F.ZPOL_CTRL_ERR_BUSY i)

/-- SHADOW of a channel is cleared: CAN 0 to 23, LIN 24 to 31 (spec/08, R252). -/
def State.unshadow (s : State) (channel : Nat) : State :=
  if channel < 24 then s.canUnshadow channel else s.linUnshadow (channel - 24)

/-! ## The clock -/

/-- The edge channels in a cycle: what a LIN channel sends may end, and the Weaver reads the receive FIFOs once in two cycles. -/
def State.edgeTick (s : State) : State :=
  let s := forEach (s.edge.lin.filter (fun c => c.2.busy.isSome)) (fun c s => s.linTick c.1) s
  if s.running && s.cycle % 2 == 0 then s.edgeIntake else s

/-- Network time, Lee time and the pulse outputs in a cycle. -/
def State.timers (s : State) : State := ((if s.saf.mode = .normal then s.timeTick else s).leeTick).ppsAll

/-- What the blocks do in a cycle. -/
def State.blocksTick (s : State) : State :=
  s.confine [.regs, .cnts, .data, .ports, .mgt, .edge, .wvr, .key, .out] (
    let s := s.fdbWalk
    let s := if s.drives then forEach (List.range 8) (fun i s => s.plcaTick (26 + i)) s else s
    s.edgeTick)

/-- One cycle of CLK_CORE, 2 ns: the always-on counter goes on, and where the core domain runs its cycle counter, network time
and Lee time do, the pulse outputs follow the time (spec/07, R207, R229; spec/14, R401; log entry 1), a flush's walk goes on
(spec/05, R170), so do the PLCA cycles of the S ports (spec/03, R89) and the frames that LIN channels send (spec/08, R249), and
in every CLK_CTRL cycle the receive FIFOs of the edge channels are read (spec/08, R240). -/
def State.clock (s : State) : State :=
  s.confine [.regs, .cnts, .aon, .cycle, .data, .ports, .time, .mgt, .edge, .wvr, .key, .saf, .out] (
    let s := { s with aon := s.aon + 1 }
    if !s.powered then s else { s with cycle := s.cycle + 1 }.timers.blocksTick)

end Sys2Proof.Machine
end

