-- ==== Sys2Proof/Machine/CmdEdge.lean ====
section
/-!
DEFINITION. The meanings of the commands: CAN and LIN channels. Each takes its occasion (log entry 31) and its footprint.
-/

namespace Sys2Proof.Machine

/-- CAN_FRAME_RECEIVE (R234): A correct CAN frame is stamped and delivered to the Weaver. -/
def execCanFrameReceive (channel : Nat) (msg : CanFrame) (ago : Nat) (s : State) : Out :=
  s.demand (decide (channel < 24) && canFrameOk msg) (s.confine [.regs, .cnts, .fresh, .nmLog, .data, .ports, .time, .mgt,
    .edge, .nm, .wvr, .twin, .key, .saf, .out] (s.doIf s.powered (fun s => s.canIn channel msg ago)))

/-- CAN_ARBITRATION (R241): At an arbitration opportunity the channel enters its first-ranking transmit request. -/
def execCanArbitration (channel : Nat) (s : State) : Out :=
  s.demand (decide (channel < 24)) (
    s.confine [.regs, .cnts, .mgt, .edge, .key] (s.doIf s.powered (fun s => s.canArbitrate channel)))

/-- CAN_TX_COMPLETE (R239): A transmitted CAN frame ends and its stamp goes to the Weaver with the confirmation. -/
def execCanTxComplete (channel : Nat) (s : State) : Out :=
  s.demand (decide (channel < 24)) (s.confine [.regs, .cnts, .mgt, .edge, .wvr, .key, .out] (s.doIf s.powered (fun s =>
    s.canSent channel)))

/-- CAN_BUS_ERROR (R243): A bus error updates TEC and REC and may change the error state or drop a request. -/
def execCanBusError (channel : Nat) (lec : Nat) (sending : Bool) (step : Nat) (s : State) : Out :=
  s.demand (decide (channel < 24) && decide (lec < 8) && (step == 0 || step == 1 || step == 8)) (s.confine [.regs, .cnts,
    .mgt, .edge, .key, .out] (s.doIf s.powered (fun s => s.canError channel lec sending step)))

/-- BUSOFF_HOLD_END (R244): BUSOFF_HOLD_MS after bus-off, auto recovery starts the recovery sequence. -/
def execBusoffHoldEnd (channel : Nat) (s : State) : Out :=
  s.demand (decide (channel < 24)) (
    s.confine [.edge] (s.doIf s.powered (fun s => s.canHoldEnd channel)))

/-- RECOVER (R244): A RECOVER write starts the recovery sequence of a bus-off channel. -/
def execRecover (channel : Nat) (s : State) : Out :=
  s.demand (decide (channel < 24)) (
    s.confine [.regs, .edge] (s.doIf (s.busRuns (K.CAN_CTRL channel)) (fun s => s.canRecover channel)))

/-- CAN_RECOVERY_DONE (R244): The recovery sequence of 128 x 11 recessive bits ends and the channel leaves bus-off. -/
def execCanRecoveryDone (channel : Nat) (s : State) : Out :=
  s.demand (decide (channel < 24)) (
    s.confine [.regs, .cnts, .mgt, .edge, .key] (s.doIf s.powered (fun s => s.canRecovered channel)))

/-- CAN_ISOLATE (R245): A CAN channel dominant beyond DOM_LIMIT becomes isolated. -/
def execCanIsolate (channel : Nat) (receiving : Bool) (s : State) : Out :=
  s.demand (decide (channel < 24)) (
    s.confine [.regs, .cnts, .mgt, .edge, .key] (s.doIf s.powered (fun s => s.canIsolate channel receiving)))

/-- CAN_ISOLATION_END (R245): After 128 x 11 recessive bit times the isolated channel integrates again. -/
def execCanIsolationEnd (channel : Nat) (s : State) : Out :=
  s.demand (decide (channel < 24)) (s.confine [.regs, .wvr] (s.doIf s.powered (fun s => s.withStandby channel (fun s =>
    s.canRejoin channel))))

/-- LIN_ISOLATE (R246): A LIN channel dominant beyond STUCK_MS becomes isolated. -/
def execLinIsolate (channel : Nat) (s : State) : Out :=
  s.demand (decide (channel < 8)) (
    s.confine [.regs, .cnts, .mgt, .edge, .key] (s.doIf s.powered (fun s => s.linIsolate channel)))

/-- LIN_ISOLATION_END (R246): After 10 ms recessive the isolated LIN channel resumes. -/
def execLinIsolationEnd (channel : Nat) (s : State) : Out :=
  s.demand (decide (channel < 8)) (
    s.confine [.regs] (s.doIf s.powered (fun s => s.linRejoin channel)))

/-- LIN_SLOT (R249): A commander's schedule slot starts and its header is sent. -/
def execLinSlot (channel : Nat) (s : State) : Out :=
  s.demand (decide (channel < 8)) (s.confine [.regs, .cnts, .mgt, .edge, .wvr, .key, .out] (s.doIf s.powered (fun s =>
    s.linSlot channel)))

/-- LIN_HEADER_RECEIVE (R247): A responder detects a break, sync and identifier and responds or subscribes. -/
def execLinHeaderReceive (channel : Nat) (ident : Nat) (seen : HeaderSeen) (s : State) : Out :=
  s.demand (decide (channel < 8) && decide (ident < 64)) (s.confine [.regs, .cnts, .mgt, .edge, .wvr, .key, .out] (s.doIf
    s.powered (fun s => s.linHeaderIn channel ident seen.good seen.ago)))

/-- LIN_FRAME_RECEIVE (R248): A subscribed LIN response is received and delivered, or counted by its error. -/
def execLinFrameReceive (channel : Nat) (bytes : List Byte) (fin : LinEnd) (ago : Nat) (s : State) : Out :=
  s.demand (decide (channel < 8) && decide (bytes.length < 10)) (s.confine [.regs, .cnts, .nmLog, .data, .ports, .time,
    .mgt, .edge, .nm, .wvr, .twin, .key, .saf, .out] (s.doIf s.powered (fun s => s.linIn channel bytes fin ago)))

/-- LIN_RESPONSE_TIMEOUT (R248): A subscribed response incomplete after its time limit is not delivered and counted. -/
def execLinResponseTimeout (channel : Nat) (s : State) : Out :=
  s.demand (decide (channel < 8)) (s.confine [.regs, .cnts, .mgt, .edge, .wvr, .key, .out] (s.doIf s.powered (fun s =>
    s.linTimeout channel)))

/-- SWITCH (R249): A LIN_CTRL.SWITCH write requests a change to the table named in TABLE. -/
def execSwitch (channel : Nat) (s : State) : Out :=
  s.demand (decide (channel < 8)) (
    s.confine [.regs, .edge] (s.doIf (s.busRuns (K.LIN_CTRL channel)) (fun s => s.linSwitch channel)))

/-- WAKE (R249): A LIN_CTRL.WAKE write sends a 1 ms dominant wake pulse. -/
def execWake (channel : Nat) (s : State) : Out :=
  s.demand (decide (channel < 8)) (
    s.confine [.regs, .edge, .out] (s.doIf (s.busRuns (K.LIN_CTRL channel)) (fun s => s.linWake channel)))

/-- SHADOW_CLEAR (R252): After takeover, a shadowing channel clears SHADOW at its next bus idle or slot boundary. -/
def execShadowClear (channel : Nat) (s : State) : Out :=
  s.demand (decide (channel < 32)) (s.confine [.regs, .cnts, .mgt, .edge, .key] (s.doIf s.powered (fun s => s.unshadow
    channel)))

end Sys2Proof.Machine
end

