-- ==== Sys2Proof/Machine/CmdFault.lean ====
section
/-!
DEFINITION. The meanings of the commands: faults and Lee mode. Each takes its occasion (log entry 31) and its footprint.
-/

namespace Sys2Proof.Machine

/-- FATAL_FAULT (R397): A fatal fault halts the decision plane and enters HALTED or Lee mode. -/
def execFatalFault (code : Nat) (detail : Nat) (s : State) : Out :=
  s.demand (fatalCodes.contains code) (s.confine [.regs, .cnts, .fresh, .data, .ports, .edge, .twin, .saf, .out] (s.doIf
    s.powered (fun s => s.fatalFault code detail)))

/-- PLL_RELOCK (R399): After a clock fault the root PLL relocks and Lee entry proceeds. -/
def execPllRelock (s : State) : Out :=
  .next (s.confine [.regs, .edge, .saf, .out] (s.doIf s.powered (fun s => s.pllRelock)))

/-- DIGEST_COMPARE (R388): Every 1 ms the checker compares the 32 digest pairs of both copies. -/
def execDigestCompare (differ : Nat) (s : State) : Out :=
  s.demand (decide (differ < 0x100000000)) (s.confine [.regs, .cnts, .fresh, .safLog, .data, .ports, .mgt, .edge, .twin,
    .key, .saf, .out] (s.doIf s.powered (fun s => if s.cycle % 500000 = 0 then s.digestCompare differ else s)))

/-- SCRUB_VISIT (R392): The SRAM and MRAM scrubs visit words and rewrite correctable errors. -/
def execScrubVisit (find : ScrubFind) (s : State) : Out :=
  s.demand (scrubOk find) (s.confine [.regs, .cnts, .fresh, .bufLog, .safLog, .data, .ports, .mgt, .edge, .nm, .twin, .key,
    .saf, .boot, .out] (s.doIf s.powered (fun s => s.scrubVisit find)))

/-- TEMPERATURE_WARNING (R394): The junction temperature crosses TJ_WARN upward and code 0x09 is raised. -/
def execTemperatureWarning (tj : Nat) (s : State) : Out :=
  s.demand (decide (tj < 256)) (
    s.confine [.regs, .cnts, .safLog, .mgt, .key, .saf] (s.doIf s.powered (fun s => s.tjWarn tj)))

/-- LEE_SLOT (R403): At a Lee stream's slot time the most recent eligible frame is sent on its egress ports. -/
def execLeeSlot (stream : Nat) (s : State) : Out :=
  s.demand (decide (stream < 64)) (
    s.confine [.cnts, .saf, .out] (s.doIf s.powered (fun s => s.leeSlot stream)))

/-- LEE_FRAME_SEND (R405): A Lee transmit frame is sent at its cycle offset with its routed image. -/
def execLeeFrameSend (entry : Nat) (s : State) : Out :=
  s.demand (decide (entry < 64)) (
    s.confine [.cnts, .edge, .saf] (s.doIf s.powered (fun s => s.leeFrameSend entry)))

/-- LEE_EXIT_TIMEOUT (R406): EXIT_MS after entry an automatic reset ends Lee mode by a warm restart. -/
def execLeeExitTimeout (env : StartEnv) (s : State) : Out :=
  s.demand (startOk env) (
    s.confine [.regs, .cnts, .caps, .heldLo, .held, .fresh, .cycle, .mem, .bufLog, .nmLog, .safLog, .data, .ports, .time,
    .mgt, .edge, .nm, .wvr, .ldg, .twin, .key, .saf, .boot, .out] (s.doIf s.powered (fun s => s.leeExit env)))

/-- FAULT_INJECT (R411): A SAF_INJECT write injects a difference into a compare or digest group. -/
def execFaultInject (kind : Nat) (group : Nat) (s : State) : Out :=
  s.demand (decide (kind < 2) && decide (group < 64)) (s.confine [.regs, .cnts, .fresh, .data, .ports, .edge, .twin, .saf,
    .out] (s.doIf s.mcRuns (fun s => s.faultInject kind group)))

end Sys2Proof.Machine
end

