-- ==== Sys2Proof/Machine/CmdFrame.lean ====
section
/-!
DEFINITION. The meanings of the commands: frames through the switch. Each takes its occasion (log entry 31) and its footprint.
-/

namespace Sys2Proof.Machine

/-- FRAME_RECEIVE (R76): A frame arrives on an Ethernet port and is judged for runt, oversize, FCS, MAC control and reassembly
errors. -/
def execFrameReceive (port : Nat) (kind : MPacket) (bytes : List Byte) (fin : RxEnd) (s : State) : Out :=
  s.demand (rxForm port kind) (s.confine [.regs, .cnts, .fresh, .bufLog, .nmLog, .data, .ports, .mgt, .edge, .nm, .twin,
    .key, .saf, .out] (s.doIf (s.powered && s.flag (F.MAC_STATUS_LINK_UP port)) (fun s => s.frameIn port kind bytes fin)))

/-- PIPELINE_PASS (R28): A frame takes a first pass through parser, classifier, destinations, policing and enqueue when it is
granted the lookup slot. -/
def execPipelinePass (s : State) : Out :=
  .next (s.confine [.regs, .cnts, .bufLog, .data, .ports, .mgt, .wvr, .twin, .key] (s.doIf s.running (fun s => s.passNext)))

/-- SECOND_PASS (R30): A recirculated frame waiting in the FIFO takes its second pass with its stamped generation. -/
def execSecondPass (s : State) : Out :=
  .next (s.confine [.regs, .cnts, .bufLog, .data, .ports, .mgt, .wvr, .twin, .key] (s.doIf s.running (fun s => s.secondNext)))

/-- FRAME_END_WRITTEN (R104): The last byte of a frame is written, and checks that needed the frame's end are made. -/
def execFrameEndWritten (port : Nat) (s : State) : Out :=
  s.demand (decide (port < 35)) (
    s.confine [.regs, .cnts, .bufLog, .data, .ports, .mgt, .wvr, .key] (s.doIf s.running (fun s => s.endNext port)))

/-- LEARN (R144): A waiting learn request inserts or updates a dynamic FDB entry in a cycle without a command write. -/
def execLearn (s : State) : Out :=
  .next (s.confine [.cnts, .data] (s.doIf s.running (fun s => s.learnNext)))

/-- AGEING_PASS (R145): Every AGE_S x 500 ms an ageing pass clears HIT bits and removes dynamic entries already unhit. -/
def execAgeingPass (s : State) : Out :=
  .next (s.confine [.data] (s.doIf s.running (fun s => s.agePass)))

/-- LINK_CHANGE (R86): A port's LINK_UP changes; transmission stops, LAG buckets move and LINK_CHANGED is set. -/
def execLinkChange (port : Nat) (phyUp : Bool) (lock : Bool) (usx : UsxReport) (s : State) : Out :=
  s.demand (decide (port < 34)) (s.confine [.regs, .cnts, .fresh, .bufLog, .data, .ports, .mgt, .key] (s.doIf s.powered (fun
    s => s.linkInputs port phyUp lock usx.up usx.speed)))

/-- EGRESS_SELECTION (R187): At a MAC's selection instant the scheduler starts at most one eligible copy. -/
def execEgressSelection (port : Nat) (mac : MacSel) (sent : Nat) (err : BufErr) (s : State) : Out :=
  s.demand (txForm port mac) (s.confine [.regs, .cnts, .fresh, .bufLog, .safLog, .data, .ports, .time, .mgt, .twin, .key]
    (s.doIf s.running (fun s => s.select port mac sent err)))

/-- TRANSMIT_END (R136): A copy's transmission ends and its hold on the frame is released. -/
def execTransmitEnd (port : Nat) (mac : MacSel) (err : BufErr) (s : State) : Out :=
  s.demand (txForm port mac) (s.confine [.regs, .cnts, .fresh, .bufLog, .safLog, .data, .ports, .time, .mgt, .twin, .key,
    .out] (s.doIf s.powered (fun s => s.transmitEnd port mac err)))

/-- QUEUE_AGE_SWEEP (R158): Every millisecond a sweep discards aged head copies of every queue. -/
def execQueueAgeSweep (s : State) : Out :=
  .next (s.confine [.regs, .cnts, .bufLog, .data, .mgt, .key] (s.doIf s.running (fun s => s.ageSweep)))

/-- QUARANTINE_END (R163): The reclaim walk of a quarantined queue ends and the queue resumes empty. -/
def execQuarantineEnd (queue : Nat) (s : State) : Out :=
  s.demand (decide (queue < 568)) (
    s.confine [.regs, .cnts, .bufLog, .data, .mgt, .key] (s.doIf s.running (fun s => s.reclaim queue)))

/-- BUFFER_AUDIT (R164): Every 10 ms an audit checks each cell against its state and frees orphans and fixes the free map. -/
def execBufferAudit (dirty : List Nat) (s : State) : Out :=
  s.demand (dirty.all (fun k => decide (k < cellCount))) (
    s.confine [.regs, .cnts, .bufLog, .data, .mgt, .key] (s.doIf s.running (fun s => s.bufferAudit dirty)))

/-- AUDIT_END (R164): The audit ends, sets FREE_CELLS to its tally and reports a quarantine limit hit. -/
def execAuditEnd (s : State) : Out :=
  .next (s.confine [.regs, .cnts, .fresh, .safLog, .data, .ports, .mgt, .edge, .twin, .key, .saf, .out] (s.doIf s.running
    (fun s => s.auditEnd)))

end Sys2Proof.Machine
end

