-- ==== Sys2Proof/Machine/CmdKey.lean ====
section
/-!
DEFINITION. The meanings of the commands: keys, identity and the ledger. Each takes its occasion (log entry 31) and its footprint.
-/

namespace Sys2Proof.Machine

/-- KEY_LOAD (R321): KEY_LOAD unwraps a key into the pending half of a slot after checking its KCV. -/
def execKeyLoad (s : State) : Out :=
  .next (s.confine [.regs, .cnts, .mgt, .key] (s.doIf s.mcRuns (fun s => s.keyLoad)))

/-- KEY_DERIVE (R321): KEY_DERIVE derives a slot key into the pending half after checking its KCV. -/
def execKeyDerive (s : State) : Out :=
  .next (s.confine [.regs, .cnts, .mgt, .key] (s.doIf s.mcRuns (fun s => s.keyDerive)))

/-- KEY_PROMOTE (R321): KEY_PROMOTE switches the active half when the pending key's KCV matches. -/
def execKeyPromote (s : State) : Out :=
  .next (s.confine [.regs, .cnts, .mgt, .key] (s.doIf s.mcRuns (fun s => s.keyPromote)))

/-- KEY_ERASE (R321): KEY_ERASE zeroises both halves and commits the slot EMPTY. -/
def execKeyErase (s : State) : Out :=
  .next (s.confine [.regs, .cnts, .mgt, .key] (s.doIf s.mcRuns (fun s => s.keyErase)))

/-- KEY_OPERATION_DONE (R322): A key operation completes and the next waiting one starts. -/
def execKeyOperationDone (s : State) : Out :=
  .next (s.confine [.regs, .mgt, .key] (s.doIf s.mcRuns (fun s => s.keyDone)))

/-- CMD_KEY_ADVANCE (R317): CMD_KEY_ADVANCE raises CMD_GEN of its origin and resets its LAST_SEQ. -/
def execCmdKeyAdvance (s : State) : Out :=
  .next (s.confine [.regs, .mgt, .key] (s.doIf s.mcRuns (fun s => s.cmdKeyAdvance)))

/-- ATTEST (R329): ATTEST returns a COSE_Sign1 over the nonce and the unit's state, signed with the ID key. -/
def execAttest (s : State) : Out :=
  .next (s.confine [.mgt, .key] (s.doIf s.mcRuns (fun s => s.attest)))

/-- CERT_READ (R328): CERT_READ returns the device certificate or a transition statement. -/
def execCertRead (s : State) : Out :=
  .next (s.confine [.regs, .mgt, .key] (s.doIf s.mcRuns (fun s => s.certRead)))

/-- LC_ADVANCE (R337): LC_ADVANCE runs the life-cycle transition through the fuse programming to a cold restart. -/
def execLcAdvance (adv : AdvanceEnv) (s : State) : Out :=
  s.demand (startOk adv.env && adv.lost.all (fun k => within k 5 7)) (s.confine [.regs, .cnts, .caps, .heldLo, .held,
    .fresh, .cycle, .mem, .bufLog, .nmLog, .safLog, .data, .ports, .time, .mgt, .edge, .nm, .wvr, .ldg, .twin, .key, .saf,
    .boot, .out] (s.doIf s.mcRuns (fun s => s.lcAdvance adv.env adv.lost)))

/-- SIGNATURE_RELEASE (R326): A READY signing key serves the next request and releases a signature after committing NEXT. -/
def execSignatureRelease (s : State) : Out :=
  .next (s.confine [.regs, .mgt, .ldg, .key] (s.doIf s.mcRuns (fun s => s.signNext)))

/-- SIGNING_KEY_READY (R326): A signing key becomes READY after its first generation. -/
def execSigningKeyReady (sigKey : Nat) (s : State) : Out :=
  s.demand (decide (sigKey < 3)) (
    s.confine [.regs] (s.doIf s.mcRuns (fun s => s.keyReady sigKey)))

/-- LMS_TREE_READY (R326): The next level-1 tree finishes generation in the background. -/
def execLmsTreeReady (sigKey : Nat) (s : State) : Out :=
  s.demand (decide (sigKey < 3)) (
    s.confine [.regs] (s.doIf s.mcRuns (fun s => s.treeReady sigKey)))

/-- LEDGER_SAMPLE (R344): At each whole millisecond each meter integrates I x U into its accumulators or counts a gap. -/
def execLedgerSample (s : State) : Out :=
  .next (s.confine [.regs, .time, .ldg, .key] (s.doIf s.mcRuns (fun s => s.ldgSample)))

/-- INPUT_STALE (R343): A ledger input receives no value for STALE_MS and becomes stale. -/
def execInputStale (input : Nat) (s : State) : Out :=
  s.demand (decide (input < 8)) (
    s.confine [.regs] (s.doIf s.mcRuns (fun s => s.ldgInputStale input)))

/-- LEDGER_PERSIST (R346): Once per second of CLK_AON the accumulators and residuals are written to a two-phase record. -/
def execLedgerPersist (s : State) : Out :=
  .next (s.confine [.ldg] (s.doIf s.mcRuns (fun s => s.ldgPersist)))

/-- PERIOD_RECORD (R348): At each multiple of PERIOD_S a PERIOD record is appended. -/
def execPeriodRecord (s : State) : Out :=
  .next (s.confine [.regs, .time, .ldg, .key] (s.doIf s.mcRuns (fun s => s.ldgPeriod)))

/-- LEDGER_SIGN (R350): An LDG_CTRL.SIGN write closes the current batch for signing. -/
def execLedgerSign (s : State) : Out :=
  .next (s.confine [.regs, .ldg, .key] (s.doIf s.mcRuns (fun s => s.ldgSign)))

/-- LEDGER_RD_INDEX_WRITE (R353): A write of LDG_RD_INDEX loads LDG_RD_DATA with that record. -/
def execLedgerRdIndexWrite (value : Word) (s : State) : Out :=
  .next (s.confine [.regs] (s.doIf s.mcRuns (fun s => s.writeLdgIndex 0xFFFFFFFF value)))

end Sys2Proof.Machine
end

