-- ==== Sys2Proof/Machine/CmdMgmt.lean ====
section
/-!
DEFINITION. The meanings of the commands: management commands. Each takes its occasion (log entry 31) and its footprint.
-/

namespace Sys2Proof.Machine

/-- COMMAND_FRAME_RECEIVE (R297): A good command frame on a management-zone port is passed to the MC and queued. -/
def execCommandFrameReceive (err : BufErr) (s : State) : Out :=
  .next (s.confine [.regs, .cnts, .bufLog, .safLog, .data, .mgt, .key] (s.doIf s.mcRuns (fun s => s.commandFrame err)))

/-- WRITE_COMMAND (R459): An MGT_SPI transaction carries one command message to the MC queue. -/
def execWriteCommand (bytes : List Byte) (s : State) : Out :=
  .next (s.confine [.cnts, .mgt] (s.doIf s.mcRuns (fun s => s.commandArrive .spi bytes)))

/-- READ_RESPONSE (R460): An MGT_SPI transaction reads the oldest complete response. -/
def execReadResponse (count : Nat) (s : State) : Out :=
  .next (s.confine [.cnts, .mgt, .out] (s.doIf s.mcRuns (fun s => s.spiResponse count)))

/-- READ_STATUS (R459): An MGT_SPI transaction reads the status byte. -/
def execReadStatus (s : State) : Out :=
  .next (s.confine [.out] (s.doIf s.mcRuns (fun s => s.spiReadStatus)))

/-- READ_EVENT (R459): An MGT_SPI transaction reads the oldest unacknowledged event message. -/
def execReadEvent (count : Nat) (s : State) : Out :=
  .next (s.confine [.cnts, .out] (s.doIf s.mcRuns (fun s => s.spiEvent count)))

/-- COMMAND_ACCEPT (R455): The command at the head of the queue is authenticated, checked, journaled and accepted or refused.
-/
def execCommandAccept (s : State) : Out :=
  .next (s.confine [.regs, .cnts, .data, .mgt, .twin, .key, .out] (s.doIf s.mcRuns (fun s => s.commandAccept)))

/-- RESTART (R67): RESTART runs a cold or warm restart. -/
def execRestart (env : StartEnv) (s : State) : Out :=
  s.demand (startOk env) (
    s.confine [.regs, .cnts, .caps, .heldLo, .held, .fresh, .cycle, .mem, .bufLog, .nmLog, .safLog, .data, .ports, .time,
    .mgt, .edge, .nm, .wvr, .ldg, .twin, .key, .saf, .boot, .out] (s.doIf s.mcRuns (fun s => s.restart env)))

/-- START_FORWARDING (R58): START_FORWARDING ends the supervisor hold and enables forwarding. -/
def execStartForwarding (us : Nat) (s : State) : Out :=
  .next (s.confine [.regs, .cnts, .bufLog, .data, .ports, .mgt, .edge, .wvr, .ldg, .twin, .key, .boot, .out] (s.doIf s.mcRuns
    (fun s => s.startForwarding us)))

/-- IMAGE_ERASE (R461): IMAGE_ERASE erases an image slot. -/
def execImageErase (s : State) : Out :=
  .next (s.confine [.regs, .mgt, .key, .boot] (s.doIf s.mcRuns (fun s => s.imageErase)))

/-- IMAGE_WRITE (R463): IMAGE_WRITE writes data into a slot that is not in use. -/
def execImageWrite (s : State) : Out :=
  .next (s.confine [.regs, .mgt, .key, .boot] (s.doIf s.mcRuns (fun s => s.imageWrite)))

/-- IMAGE_VERIFY (R54): IMAGE_VERIFY checks a slot's image and returns its reason and version. -/
def execImageVerify (nvm : Bool) (s : State) : Out :=
  .next (s.confine [.regs, .mgt, .key] (s.doIf s.mcRuns (fun s => s.imageVerify nvm)))

/-- IMAGE_ACTIVATE (R65): IMAGE_ACTIVATE sets BOOT_PREF and restarts selection in NO_IMAGE or FW_BAD. -/
def execImageActivate (env : StartEnv) (s : State) : Out :=
  s.demand (startOk env) (
    s.confine [.regs, .cnts, .heldLo, .held, .fresh, .bufLog, .nmLog, .data, .ports, .time, .mgt, .edge, .nm, .wvr, .ldg,
    .twin, .key, .saf, .boot, .out] (s.doIf s.mcRuns (fun s => s.imageActivate env)))

/-- FIRMWARE_WRITE (R331): FIRMWARE_WRITE writes the firmware copy that is not running. -/
def execFirmwareWrite (s : State) : Out :=
  .next (s.confine [.regs, .mgt, .key, .boot] (s.doIf s.mcRuns (fun s => s.firmwareWrite)))

/-- RECORD_APPLY (R462): RECORD_APPLY checks and translates one permitted Basic record. -/
def execRecordApply (s : State) : Out :=
  .next (s.confine [.regs, .cnts, .heldLo, .held, .fresh, .bufLog, .nmLog, .data, .ports, .time, .mgt, .edge, .nm, .wvr, .ldg,
    .twin, .key, .saf, .boot, .out] (s.doIf s.mcRuns (fun s => s.settled (fun s => s.recordApply))))

/-- LEDGER_READ (R461): LEDGER_READ returns up to 16 ledger records. -/
def execLedgerRead (s : State) : Out :=
  .next (s.confine [.regs, .mgt, .key] (s.doIf s.mcRuns (fun s => s.ledgerRead)))

/-- LEDGER_SIG_READ (R350): LEDGER_SIG_READ returns the signature of a batch. -/
def execLedgerSigRead (s : State) : Out :=
  .next (s.confine [.regs, .mgt, .key] (s.doIf s.mcRuns (fun s => s.ledgerSigRead)))

/-- JRN_READ (R461): JRN_READ returns up to 20 journal entries. -/
def execJrnRead (s : State) : Out :=
  .next (s.confine [.regs, .mgt, .key] (s.doIf s.mcRuns (fun s => s.jrnRead)))

/-- CHECKPOINT (R477): CHECKPOINT appends a checkpoint entry and returns its JSEQ when signed. -/
def execCheckpoint (s : State) : Out :=
  .next (s.confine [.regs, .mgt, .key] (s.doIf s.mcRuns (fun s => s.checkpointCmd)))

/-- CHECKPOINT_READ (R477): CHECKPOINT_READ returns a checkpoint statement. -/
def execCheckpointRead (s : State) : Out :=
  .next (s.confine [.regs, .mgt, .key] (s.doIf s.mcRuns (fun s => s.checkpointRead)))

/-- FRAME_SEND (R470): FRAME_SEND injects a frame into the MC lane of port M, or fails when the lane is full. -/
def execFrameSend (s : State) : Out :=
  .next (s.confine [.regs, .cnts, .mgt, .key] (s.doIf s.mcRuns (fun s => s.frameSend)))

/-- FRAME_READ (R470): FRAME_READ returns the oldest frame waiting for the MC. -/
def execFrameRead (s : State) : Out :=
  .next (s.confine [.regs, .cnts, .bufLog, .safLog, .data, .mgt, .key] (s.doIf s.mcRuns (fun s => s.frameRead)))

/-- EVENT_ACK (R473): EVENT_ACK acknowledges events up to the named SEQ. -/
def execEventAck (s : State) : Out :=
  .next (s.confine [.regs, .mgt, .key] (s.doIf s.mcRuns (fun s => s.eventAck)))

/-- REG_READ (R465): REG_READ reads 1 to 64 register addresses through the bridge. -/
def execRegRead (s : State) : Out :=
  .next (s.confine [.regs, .cnts, .caps, .busData, .bufLog, .nmLog, .safLog, .data, .time, .mgt, .wvr, .twin, .key] (s.doIf
    s.mcRuns (fun s => s.regRead)))

/-- REG_WRITE (R46): REG_WRITE performs masked writes of its triples. -/
def execRegWrite (s : State) : Out :=
  .next (s.confine [.regs, .cnts, .heldLo, .held, .fresh, .mem, .bufLog, .nmLog, .data, .ports, .time, .mgt, .edge, .nm, .wvr,
    .ldg, .twin, .key, .saf, .out] (s.doIf s.mcRuns (fun s => s.settled (fun s => s.regWrite))))

/-- REG_BURST_READ (R468): REG_BURST_READ reads consecutive words page by page. -/
def execRegBurstRead (s : State) : Out :=
  .next (s.confine [.regs, .cnts, .caps, .busData, .bufLog, .nmLog, .safLog, .data, .time, .mgt, .wvr, .twin, .key] (s.doIf
    s.mcRuns (fun s => s.regBurstRead)))

/-- REG_BURST_WRITE (R468): REG_BURST_WRITE writes consecutive words page by page. -/
def execRegBurstWrite (s : State) : Out :=
  .next (s.confine [.regs, .cnts, .heldLo, .held, .fresh, .mem, .bufLog, .nmLog, .data, .ports, .time, .mgt, .edge, .nm, .wvr,
    .ldg, .twin, .key, .saf, .out] (s.doIf s.mcRuns (fun s => s.settled (fun s => s.regBurstWrite))))

/-- WRITE_FENCE (R467): WRITE_FENCE completes when earlier posted writes end and returns the failure count. -/
def execWriteFence (s : State) : Out :=
  .next (s.confine [.regs, .mgt, .key] (s.doIf s.mcRuns (fun s => s.writeFence)))

/-- FAR_READ_COMPLETE (R465): A far read returns its data or fails with 0xFFFF_FFFF. -/
def execFarReadComplete (parity : Bool) (s : State) : Out :=
  .next (s.confine [.regs, .cnts, .caps, .heldLo, .held, .busData, .fresh, .mem, .bufLog, .nmLog, .safLog, .data, .ports,
    .time, .mgt, .edge, .nm, .wvr, .ldg, .twin, .key, .saf, .out] (s.doIf s.mcRuns (fun s => s.settled (fun s => s.farReadDone
    parity))))

/-- POSTED_WRITE_COMPLETE (R466): A posted write completes or fails and a failure enters the log. -/
def execPostedWriteComplete (parity : Bool) (s : State) : Out :=
  .next (s.confine [.regs, .cnts, .caps, .heldLo, .held, .busData, .fresh, .mem, .bufLog, .nmLog, .safLog, .data, .ports,
    .time, .mgt, .edge, .nm, .wvr, .ldg, .twin, .key, .saf, .out] (s.doIf s.mcRuns (fun s => s.settled (fun s => s.postedDone
    parity))))

/-- BUF_QLOG_POP (R507): A read of BUF_QLOG returns and removes the oldest entry. -/
def execBufQlogPop (s : State) : Out :=
  .next (s.confine [.busData, .bufLog] (s.doIf s.mcRuns (fun s => s.popBufLog)))

/-- NM_LOG_POP (R507): A read of NM_LOG returns and removes the oldest entry. -/
def execNmLogPop (s : State) : Out :=
  .next (s.confine [.busData, .nmLog] (s.doIf s.mcRuns (fun s => s.popNmLog)))

/-- SAF_LOG_POP (R507): A read of SAF_LOG returns and removes the oldest entry. -/
def execSafLogPop (s : State) : Out :=
  .next (s.confine [.busData, .safLog] (s.doIf s.mcRuns (fun s => s.popSafLog)))

/-- BRG_PWFL_POP (R507): A read of BRG_PWFL pops the oldest failure and latches its address and time. -/
def execBrgPwflPop (s : State) : Out :=
  .next (s.confine [.regs, .busData, .mgt] (s.doIf s.mcRuns (fun s => s.popPwfl)))

/-- EVT_POP (R507): A read of EVT_POP acknowledges the oldest event and latches its body. -/
def execEvtPop (s : State) : Out :=
  .next (s.confine [.regs, .busData, .mgt] (s.doIf s.mcRuns (fun s => s.popEvent)))

/-- JRN_RD_INDEX_WRITE (R480): The write of JRN_RD_INDEX HI loads JRN_RD_DATA with that entry. -/
def execJrnRdIndexWrite (value : Word) (s : State) : Out :=
  .next (s.confine [.regs, .cnts, .heldLo, .held, .fresh, .bufLog, .nmLog, .data, .ports, .time, .mgt, .edge, .nm, .wvr, .ldg,
    .twin, .key, .saf, .out] (s.doIf s.mcRuns (fun s => s.settled (fun s => s.busWrite K.JRN_RD_INDEX_HI 0xFFFFFFFF value))))

end Sys2Proof.Machine
end

