-- ==== Sys2Proof/Machine/CmdPair.lean ====
section
/-!
DEFINITION. The meanings of the commands: pairing. Each takes its occasion (log entry 31) and its footprint.
-/

namespace Sys2Proof.Machine

/-- HELLO_SEND (R416): Every HELLO_US the pair logic sends a HELLO on each pair port. -/
def execHelloSend (s : State) : Out :=
  .next (s.confine [.regs, .cnts, .data, .twin] (s.doIf s.linked (fun s => s.helloSend.relayJournal)))

/-- HELLO_RECEIVE (R416): A received HELLO marks the partner present and evaluates MISMATCH. -/
def execHelloReceive (s : State) : Out :=
  .next (s.confine [.regs, .cnts, .bufLog, .data, .mgt, .edge, .twin, .key, .out] (s.doIf s.linked (fun s =>
    s.helloReceive)))

/-- PARTNER_LOSS (R416): No HELLO for LOSS_US makes the partner absent. -/
def execPartnerLoss (s : State) : Out :=
  .next (s.confine [.regs, .cnts, .bufLog, .data, .mgt, .twin, .key] (s.doIf s.linked (fun s => s.partnerGone)))

/-- HOLD_IN_CHANGE (R418): The agreed HOLD_IN level changes and the standby role table applies. -/
def execHoldInChange (s : State) : Out :=
  .next (s.confine [.regs, .cnts, .ports, .mgt, .edge, .twin, .key, .out] (s.doIf s.powered (fun s => s.holdInChange)))

/-- CLAIM_TIMEOUT (R418): 1,000 ns after HOLD_OUT with HOLD_IN deasserted, CLAIMING becomes ACTIVE. -/
def execClaimTimeout (s : State) : Out :=
  .next (s.confine [.regs, .cnts, .ports, .mgt, .twin, .key, .out] (s.doIf s.linked (fun s => s.claimTimeout)))

/-- CLAIM_DEFER_END (R418): With PREFER_STANDBY, HOLD_IN deasserted for a further 5 ms leads to CLAIMING. -/
def execClaimDeferEnd (s : State) : Out :=
  .next (s.confine [.regs, .cnts, .ports, .mgt, .edge, .twin, .key, .out] (s.doIf s.linked (fun s => s.claimDeferEnd)))

/-- ACTIVE_YIELD (R418): An ACTIVE unit with UNIT_ID 1 seeing HOLD_IN asserted for 1,000 ns becomes STANDBY. -/
def execActiveYield (s : State) : Out :=
  .next (s.confine [.regs, .cnts, .mgt, .edge, .twin, .key, .out] (s.doIf s.linked (fun s => s.activeYield)))

/-- HOLD_IN_MASK (R420): A stuck or chattering HOLD_IN is masked. -/
def execHoldInMask (chatter : Bool) (s : State) : Out :=
  .next (s.confine [.regs, .cnts, .ports, .mgt, .edge, .twin, .key, .out] (s.doIf s.powered (fun s => s.holdMask chatter)))

/-- HOLD_IN_UNMASK (R420): A masked HOLD_IN stable for 1 ms is unmasked. -/
def execHoldInUnmask (s : State) : Out :=
  .next (s.confine [.regs, .cnts, .ports, .mgt, .edge, .twin, .key, .out] (s.doIf s.powered (fun s => s.holdUnmask)))

/-- CLAIM (R419): A PAIR_CTRL.CLAIM write moves a STANDBY unit to CLAIMING. -/
def execClaim (s : State) : Out :=
  .next (s.confine [.regs, .cnts, .ports, .mgt, .edge, .twin, .key, .out] (s.doIf s.mcRuns (fun s => s.claim)))

/-- RESYNC (R428): A PAIR_CTRL.RESYNC write starts a rejoin of the standby. -/
def execResync (s : State) : Out :=
  .next (s.confine [.regs, .twin] (s.doIf s.mcRuns (fun s => s.resync)))

/-- REJOIN_RETRY (R428): 100 ms after a failed rejoin step, the rejoin restarts at step 1. -/
def execRejoinRetry (s : State) : Out :=
  .next (s.confine [.twin] (s.doIf s.linked (fun s => s.rejoinRetry)))

/-- CATCH_UP_RECEIVE (R428): The standby replaces its journal tail with the active unit's entries and executes them. -/
def execCatchUpReceive (s : State) : Out :=
  .next (s.confine [.regs, .cnts, .mgt, .key] (s.doIf s.linked (fun s => s.catchUpReceive)))

/-- SYNC_SNAPSHOT (R428): At T_sync both units snapshot their dynamic state. -/
def execSyncSnapshot (s : State) : Out :=
  .next (s.confine [.cnts, .data, .twin] (s.doIf s.linked (fun s => s.syncSnapshot)))

/-- SYNC_RECEIVE_PAIR (R429): The standby applies the active unit's snapshot received in SYNC messages and becomes READY. -/
def execSyncReceivePair (tSync : Option Nat) (items : List (Nat × Nat × Int)) (s : State) : Out :=
  .next (s.confine [.regs, .cnts, .data, .mgt, .edge, .wvr, .ldg, .twin, .key] (s.doIf s.linked (fun s => s.syncReceivePair
    tSync items)))

/-- JOURNAL_RECEIVE (R430): The standby receives a JOURNAL entry and answers JOURNAL_ACK, or detects a gap. -/
def execJournalReceive (s : State) : Out :=
  .next (s.confine [.regs, .cnts, .data, .mgt, .twin, .key] (s.doIf s.linked (fun s => s.journalReceive)))

/-- JOURNAL_ACK_RECEIVE (R430): A JOURNAL_ACK makes the replicated command accepted. -/
def execJournalAckReceive (s : State) : Out :=
  .next (s.confine [.regs, .cnts, .data, .mgt, .twin, .key] (s.doIf s.linked (fun s => s.journalAck)))

/-- JOURNAL_ACK_TIMEOUT (R430): No ACK within 500 us resends the entry, or accepts on the own journal after 3 tries. -/
def execJournalAckTimeout (s : State) : Out :=
  .next (s.confine [.regs, .cnts, .data, .mgt, .twin, .key] (s.doIf s.linked (fun s => s.ackTimeout)))

/-- COMMIT_RECEIVE (R431): The standby receives COMMIT with T_apply. -/
def execCommitReceive (s : State) : Out :=
  .next (s.confine [.regs, .cnts, .mgt, .twin, .key] (s.doIf s.linked (fun s => s.commitReceive)))

/-- COMMAND_APPLY_TIME (R431): At T_apply both units apply the command. -/
def execCommandApplyTime (s : State) : Out :=
  .next (s.confine [.mgt, .twin] (s.doIf s.linked (fun s => s.applyTime)))

/-- SLEEP_PAIR_RECEIVE (R434): The standby receives SLEEP and enters or aborts sleep with the active unit. -/
def execSleepPairReceive (s : State) : Out :=
  .next (s.confine [.regs, .cnts, .nmLog, .data, .mgt, .edge, .nm, .twin, .key, .out] (s.doIf s.linked (fun s =>
    s.sleepPair)))

/-- WAKE_PAIR_RECEIVE (R434): The active unit treats a WAKE message as a wake with the standby's timestamp. -/
def execWakePairReceive (s : State) : Out :=
  .next (s.confine [.regs, .cnts, .nmLog, .data, .mgt, .edge, .nm, .twin, .key, .out] (s.doIf s.linked (fun s => s.wakePair)))

/-- CROSSING_FRAME_RECEIVE (R440): A crossing frame from the partner has its tag removed and goes to its local destination. -/
def execCrossingFrameReceive (s : State) : Out :=
  .next (s.confine [.regs, .cnts, .bufLog, .data, .ports, .mgt, .wvr, .twin, .key] (s.doIf s.running (fun s =>
    s.crossingReceive)))

/-- CREDIT_SEND (R442): Every CREDIT_US with changes the receiver sends cumulative returned cells. -/
def execCreditSend (s : State) : Out :=
  .next (s.confine [.cnts, .data, .twin] (s.doIf s.running (fun s => s.creditSend)))

/-- CREDIT_RECEIVE (R442): A CREDIT message updates returned counts or resets a VOQ's counts. -/
def execCreditReceive (s : State) : Out :=
  .next (s.confine [.cnts, .data, .mgt, .twin] (s.doIf s.running (fun s => s.creditReceive)))

/-- CREDIT_RESET_TIMEOUT (R442): A VOQ head waiting 10 ms without return sends CREDIT with RESET. -/
def execCreditResetTimeout (voq : Nat) (s : State) : Out :=
  s.demand (decide (voq < 288)) (
    s.confine [.cnts, .data, .twin] (s.doIf s.running (fun s => s.creditTimeout voq)))

/-- BRIDGE_REQ_RECEIVE (R444): A partner's BRIDGE_REQ is executed as a register access and answered. -/
def execBridgeReqReceive (write : Bool) (tag : Nat) (addr : Nat) (mask : Word) (value : Word) (s : State) : Out :=
  s.demand (decide (tag < 65536) && decide (addr < 0x2000000) && addr % 4 == 0) (
    s.confine [.regs, .cnts, .caps, .heldLo, .held, .busData, .fresh, .mem, .bufLog, .nmLog, .safLog, .data, .ports, .time,
    .mgt, .edge, .nm, .wvr, .ldg, .twin, .key, .saf, .out] (s.doIf s.mcRuns (fun s => s.settled (fun s => s.bridgeReq write
    tag addr mask value))))

/-- BRIDGE_RSP_RECEIVE (R444): A BRIDGE_RSP completes a far access to the partner window. -/
def execBridgeRspReceive (tag : Nat) (isRead : Bool) (cause : Nat) (value : Word) (s : State) : Out :=
  s.demand (decide (tag < 65536) && decide (cause < 8)) (
    s.confine [.regs, .cnts, .caps, .heldLo, .held, .busData, .fresh, .mem, .bufLog, .nmLog, .safLog, .data, .ports, .time,
    .mgt, .edge, .nm, .wvr, .ldg, .twin, .key, .saf, .out] (s.doIf s.mcRuns (fun s => s.settled (fun s => s.bridgeRsp tag
    isRead cause value))))

/-- BRIDGE_RSP_TIMEOUT (R466): No BRIDGE_RSP within 20 us fails the far write with PARTNER_LINK_DOWN. -/
def execBridgeRspTimeout (s : State) : Out :=
  .next (s.confine [.regs, .cnts, .caps, .heldLo, .held, .busData, .fresh, .mem, .bufLog, .nmLog, .safLog, .data, .ports,
    .time, .mgt, .edge, .nm, .wvr, .ldg, .twin, .key, .saf, .out] (s.doIf s.mcRuns (fun s => s.settled (fun s =>
    s.bridgeTimeout))))

end Sys2Proof.Machine
end

