-- ==== Sys2Proof/Machine/CmdPolice.lean ====
section
/-!
DEFINITION. The meanings of the commands: token ticks, commits, FRER and gates. Each takes its occasion (log entry 31) and its footprint.
-/

namespace Sys2Proof.Machine

/-- TOKEN_TICK (R176): When the nanoseconds pass a multiple of 64, every enabled bucket gains its increment limited to BURST.
-/
def execTokenTick (s : State) : Out :=
  .next (s.confine [.regs, .held, .data] (s.doIf s.linked (fun s => s.tick)))

/-- SHAPER_COMMIT (R182): A SHP_CTRL.COMMIT write requests the held shaper values for the next tick. -/
def execShaperCommit (s : State) : Out :=
  .next (s.confine [.regs] (s.doIf (s.mcRuns && s.winHere 0x100018) (fun s => s.commitShaper (s.winIndex 0x100018))))

/-- METER_COMMIT (R182): An MTR_CTRL.COMMIT write requests the held meter values for the next tick. -/
def execMeterCommit (s : State) : Out :=
  .next (s.confine [.regs] (s.doIf s.mcRuns (fun s => s.commitMeter (s.winIndex 0x100218))))

/-- ZONE_POLICER_COMMIT (R295): A ZPOL_CTRL.COMMIT write requests the held zone policer values for the next tick. -/
def execZonePolicerCommit (s : State) : Out :=
  .next (s.confine [.regs] (s.doIf s.mcRuns (fun s => s.commitPolicer (s.winIndex 0x20080C))))

/-- FRER_RESET (R186): A SEQR_WIN_STATE.RESET write sets TAKE_ANY of the recovery function. -/
def execFrerReset (s : State) : Out :=
  .next (s.confine [.regs] (s.doIf s.mcRuns (fun s => s.takeAny (s.winIndex 0x10030C))))

/-- FRER_RESET_TIMER (R186): No frame passes a recovery function for RESET_MS and TAKE_ANY is set. -/
def execFrerResetTimer (fn : Nat) (s : State) : Out :=
  s.demand (decide (fn < 1024)) (s.confine [.regs, .cnts] (s.doIf s.linked (fun s => s.frerTimerEnd fn)))

/-- CONFIG_CHANGE (R195): A GATE_CTRL.CONFIG_CHANGE write computes the change time and sets PENDING. -/
def execConfigChange (s : State) : Out :=
  .next (s.confine [.regs] (s.doIf (s.mcRuns && s.winHere 0x100104) (fun s => s.gateChange (s.winIndex 0x100104))))

/-- CANCEL (R195): A GATE_CTRL.CANCEL write clears a pending gate list change. -/
def execCancel (s : State) : Out :=
  .next (s.confine [.regs] (s.doIf (s.mcRuns && s.winHere 0x100104) (fun s => s.gateCancel (s.winIndex 0x100104))))

/-- GATE_CHANGE_TIME (R195): At T_c the administrative list becomes operational. -/
def execGateChangeTime (port : Nat) (s : State) : Out :=
  s.demand (decide (port < 34)) (s.confine [.regs, .cnts, .held] (s.doIf s.linked (fun s => s.gateSwitch port)))

/-- GATE_ENTRY_TRANSITION (R193): A gate list entry starts and the queue gates take its state. -/
def execGateEntryTransition (port : Nat) (s : State) : Out :=
  s.demand (decide (port < 34)) (s.confine [.regs, .held] (s.doIf s.linked (fun s => s.gateEnter port)))

/-- GATE_HOLD_REQUEST (R194): GATE_HOLD_ADV before a HOLD entry starts, a hold request stops preemptable frames. -/
def execGateHoldRequest (port : Nat) (s : State) : Out :=
  s.demand (decide (port < 34)) (s.confine [.regs, .held] (s.doIf s.linked (fun s => s.gateHold port)))

end Sys2Proof.Machine
end

