-- ==== Sys2Proof/Machine/CmdPort.lean ====
section
/-!
DEFINITION. The meanings of the commands: MACs, preemption and MDIO. Each takes its occasion (log entry 31) and its footprint.
-/

namespace Sys2Proof.Machine

/-- VERIFY_SEND (R82): Every VERIFY_TIME ms a verify mPacket is sent, up to three times. -/
def execVerifySend (port : Nat) (s : State) : Out :=
  s.demand (hasMerge port) (s.confine [.regs, .cnts, .ports, .out] (s.doIf s.drives (fun s => s.verifyTick port)))

/-- VERIFY_RECEIVE (R82): A received verify mPacket is answered with a respond mPacket. -/
def execVerifyReceive (port : Nat) (s : State) : Out :=
  s.demand (hasMerge port) (s.confine [.cnts, .out] (s.doIf s.drives (fun s => s.verifyIn port)))

/-- RESPOND_RECEIVE (R82): A received respond mPacket makes preemption active. -/
def execRespondReceive (port : Nat) (s : State) : Out :=
  s.demand (hasMerge port) (s.confine [.regs] (s.doIf s.drives (fun s => s.respondIn port)))

/-- MERGE_CFG_APPLY (R83): A write to MERGE_CFG takes effect at the next frame boundary. -/
def execMergeCfgApply (port : Nat) (s : State) : Out :=
  s.demand (hasMerge port) (
    s.confine [.regs, .ports] (s.doIf s.powered (fun s => s.applyMerge port)))

/-- MAC_CFG_WRITE (R94): A write to MAC_CFG takes effect or is rejected with CFG_REJECT. -/
def execMacCfgWrite (port : Nat) (mask : Word) (value : Word) (s : State) : Out :=
  s.demand (decide (port < 35)) (
    s.confine [.regs, .cnts, .fresh, .bufLog, .data, .ports, .mgt, .key] (s.doIf (s.busRuns (K.MAC_CFG port)) (fun s =>
    s.writeMacCfg port mask value)))

/-- MAC_FRAME_WRITE (R94): A write of MAX_FRAME outside 64 to 9,216 is ignored with CFG_REJECT. -/
def execMacFrameWrite (port : Nat) (mask : Word) (value : Word) (s : State) : Out :=
  s.demand (decide (port < 35)) (
    s.confine [.regs, .cnts, .mgt, .key] (s.doIf (s.busRuns (K.MAC_FRAME port)) (fun s => s.writeMacFrame port mask value)))

/-- CLEAR (R95): A CNT_CTRL.CLEAR write sets all counters of its block or port to 0 in one cycle. -/
def execClear (addr : Nat) (s : State) : Out :=
  s.demand (isCntCtrl addr) (
    s.confine [.cnts] (s.doIf (s.busRuns addr) (fun s => s.clearAt addr)))

/-- MDIO_ACCESS (R96): A write to MDIO_CMD starts one Clause 45 read or write access. -/
def execMdioAccess (master : Nat) (value : Word) (s : State) : Out :=
  s.demand (decide (master < 2)) (
    s.confine [.regs, .ports] (s.doIf (s.busRuns (K.MDIO_CMD master)) (fun s => s.mdioCommand master value)))

/-- MDIO_ACCESS_DONE (R87): A Clause 45 access completes, sets DONE and loads RDATA. -/
def execMdioAccessDone (master : Nat) (answer : Option Nat) (s : State) : Out :=
  s.demand (decide (master < 2) && answer.all (fun r => decide (r < 65536))) (s.confine [.regs, .cnts, .fresh, .bufLog,
    .data, .ports, .mgt, .key, .out] (s.doIf s.drives (fun s => s.mdioEnd master answer)))

/-- MDIO_POLL (R85): Every POLL_MS the master polls the PMA/PMD status of each enabled B port. -/
def execMdioPoll (master : Nat) (s : State) : Out :=
  s.demand (decide (master < 2)) (s.confine [.ports] (s.doIf s.drives (fun s => s.mdioPollAll master)))

/-- MDIO_INTERRUPT_POLL (R85): A port is polled at once when its PHY_INT_N is seen asserted. -/
def execMdioInterruptPoll (port : Nat) (s : State) : Out :=
  s.demand (decide (port < 8)) (s.confine [.ports] (s.doIf s.drives (fun s => s.mdioPollPort port)))

/-- MDIO_CFG_WRITE (R84): A write of MDIO_CFG sets divider and poll interval and restarts the poll timer. -/
def execMdioCfgWrite (master : Nat) (mask : Word) (value : Word) (s : State) : Out :=
  s.demand (decide (master < 2)) (s.confine [.regs, .ports] (s.doIf (s.busRuns (K.MDIO_CFG master)) (fun s => s.writeMdioCfg
    master mask value)))

end Sys2Proof.Machine
end

