-- ==== Sys2Proof/Machine/CmdReg.lean ====
section
/-!
DEFINITION. The meanings of the commands: register writes and snapshot pairs. Each takes its occasion (log entry 31) and its footprint.
-/

namespace Sys2Proof.Machine

/-- REGISTER_WRITE (R7): A write to a register field that has no row of its own stores the value, clears W1C bits written 1,
or is ignored, according to the field's access code. -/
def execRegisterWrite (addr : Nat) (mask : Word) (value : Word) (s : State) : Out :=
  s.demand (isRegister addr || placeOf addr == .outside) (s.confine [.regs, .cnts, .heldLo, .held, .fresh, .bufLog, .nmLog,
    .data, .ports, .time, .mgt, .edge, .nm, .wvr, .ldg, .twin, .key, .saf, .out] (s.registerWrite addr mask value))

/-- SNAPSHOT_LO_READ (R9): A read of the LO half of a snapshot pair captures the full 64-bit value and returns its low half.
-/
def execSnapshotLoRead (addr : Nat) (s : State) : Out :=
  s.demand (isLo addr) (
    s.confine [.caps, .busData] (s.doIf (s.busRuns addr) (fun s => s.readLo addr)))

/-- SNAPSHOT_LO_WRITE (R9): A write of the LO half of a snapshot pair is held until the following write of HI. -/
def execSnapshotLoWrite (addr : Nat) (value : Word) (s : State) : Out :=
  s.demand (isPairLo addr) (
    s.confine [.regs, .cnts, .heldLo, .held, .fresh, .bufLog, .nmLog, .data, .ports, .time, .mgt, .edge, .nm, .wvr, .ldg,
    .twin, .key, .saf, .out] (s.doIf (s.busRuns addr) (fun s => s.settled (fun s => s.busWrite addr 0xFFFFFFFF value))))

/-- SNAPSHOT_HI_WRITE (R9): A write of the HI half stores both halves in one cycle, taking a held LO write or else keeping the
current low half. -/
def execSnapshotHiWrite (addr : Nat) (value : Word) (s : State) : Out :=
  s.demand (isPairHi addr) (
    s.confine [.regs, .cnts, .heldLo, .held, .fresh, .bufLog, .nmLog, .data, .ports, .time, .mgt, .edge, .nm, .wvr, .ldg,
    .twin, .key, .saf, .out] (s.doIf (s.busRuns addr) (fun s => s.settled (fun s => s.busWrite addr 0xFFFFFFFF value))))

/-- HELD_REGISTER_WRITE (R513): A write to a held window or rate register stores the value without effect until its commit. -/
def execHeldRegisterWrite (addr : Nat) (mask : Word) (value : Word) (s : State) : Out :=
  s.demand (isHeld addr) (
    s.confine [.regs, .cnts, .heldLo, .held, .fresh, .bufLog, .nmLog, .data, .ports, .time, .mgt, .edge, .nm, .wvr, .ldg,
    .twin, .key, .saf, .out] (s.doIf (s.busRuns addr) (fun s => s.settled (fun s => s.busWrite addr mask value))))

end Sys2Proof.Machine
end

