-- ==== Sys2Proof/Machine/CmdReset.lean ====
section
/-!
DEFINITION. The meanings of the commands: banks, reset groups and watchdog events. Each takes its occasion (log entry 31) and its footprint.
-/

namespace Sys2Proof.Machine

/-- HANDOVER (R487): A BANK_OWNER HANDOVER write starts draining a bank, or is rejected. -/
def execHandover (bank : Nat) (target : Nat) (s : State) : Out :=
  s.demand (decide (bank < 32) && decide (target < 4)) (
    s.confine [.regs] (s.doIf s.mcRuns (fun s => s.handover bank target)))

/-- BANK_DRAIN_DONE (R488): The old owner's in-flight operations end and the bank is cleared. -/
def execBankDrainDone (bank : Nat) (s : State) : Out :=
  s.demand (decide (bank < 32)) (
    s.confine [.regs] (s.doIf s.powered (fun s => s.bankDrained bank)))

/-- BANK_CLEAR_DONE (R488): The bank is zeroed and passes to its new owner with DONE set. -/
def execBankClearDone (bank : Nat) (s : State) : Out :=
  s.demand (decide (bank < 32)) (
    s.confine [.regs, .mem] (s.doIf s.powered (fun s => s.bankCleared bank)))

/-- PULSE (R502): RST_CTRL PULSE holds a reset group for 1 us and then releases it. -/
def execPulse (group : Nat) (s : State) : Out :=
  s.demand (decide (group < 128)) (
    s.confine [.regs, .cnts, .fresh, .bufLog, .data, .ports, .mgt, .edge, .wvr, .key] (s.doIf s.mcRuns (fun s => s.rstPulse
    group)))

/-- HOLD (R502): RST_CTRL HOLD holds a reset group in soft reset. -/
def execHold (group : Nat) (s : State) : Out :=
  s.demand (decide (group < 128)) (
    s.confine [.regs, .cnts, .fresh, .bufLog, .data, .ports, .mgt, .edge, .wvr, .key] (s.doIf s.mcRuns (fun s => s.rstHold
    group)))

/-- RELEASE (R502): RST_CTRL RELEASE releases a soft-held reset group. -/
def execRelease (group : Nat) (s : State) : Out :=
  s.demand (decide (group < 128)) (s.confine [.regs, .cnts, .fresh, .bufLog, .data, .ports, .mgt, .edge, .wvr, .key] (s.doIf
    s.mcRuns (fun s => s.rstRelease group)))

/-- RESET_PULSE_END (R502): The 1 us of a PULSE ends and the group is released. -/
def execResetPulseEnd (s : State) : Out :=
  .next (s.confine [.regs, .cnts, .fresh, .bufLog, .data, .ports, .mgt, .edge, .wvr, .key] (s.doIf s.powered (fun s =>
    s.rstPulseEnd)))

/-- AON_CLOCK_FAULT (R395): The monitor finds CLK_AON more than 10 % from nominal; code 0x07 is raised as an event and CALM_EN
acts as 0 until the next power-on reset. -/
def execAonClockFault (s : State) : Out :=
  .next (s.confine [.regs, .cnts, .safLog, .mgt, .key, .saf] (s.doIf s.powered (fun s => s.aonClockFault)))

/-- WAKE_FILTER_COPY_FAULT (R391): The two copies of a duplicated wake input filter disagree for more than DEBOUNCE + 64
CLK_AON cycles, and code 0x23 is raised as an event. -/
def execWakeFilterCopyFault (input : Nat) (s : State) : Out :=
  s.demand (decide (input < 5)) (
    s.confine [.regs, .cnts, .safLog, .mgt, .key] (s.doIf s.powered (fun s => s.filterCopyFault input)))

/-- TJ_WARN_REARM (R394): The junction temperature falls 5 °C below TJ_WARN, TJ_HIGH clears and code 0x09 may be raised again.
-/
def execTjWarnRearm (tj : Nat) (s : State) : Out :=
  s.demand (decide (tj < 256)) (
    s.confine [.regs, .saf] (s.doIf s.powered (fun s => s.tjRearm tj)))

/-- LIN_WAKE_PULSE_END (R249): The 1 ms dominant wake pulse of a LIN channel ends, and the WAKE operation is no longer busy.
-/
def execLinWakePulseEnd (channel : Nat) (s : State) : Out :=
  s.demand (decide (channel < 8)) (
    s.confine [.edge] (s.doIf s.powered (fun s => s.linPulseEnd channel)))

/-- LINE_FAULT_CLEAR (R421): HOLD_IN has been asserted continuously for 1 ms, and LINE_FAULT clears. -/
def execLineFaultClear (s : State) : Out :=
  .next (s.confine [.regs] (s.doIf s.powered (fun s => s.lineFaultClear)))

/-- REPLAY_LIST_EXIT (R425): A held copy leaves a port's replay list 2,000 ns after its held transmission ended, and its hold
on the frame is released. -/
def execReplayListExit (port : Nat) (s : State) : Out :=
  s.demand (decide (port < 34)) (
    s.confine [.regs, .cnts, .bufLog, .data, .mgt, .twin, .key] (s.doIf s.running (fun s => s.replayExit port)))

end Sys2Proof.Machine
end

