-- ==== Sys2Proof/Machine/CmdSleep.lean ====
section
/-!
DEFINITION. The meanings of the commands: sleep and wake. Each takes its occasion (log entry 31) and its footprint.
-/

namespace Sys2Proof.Machine

/-- GROUP_IDLE (R358): A group without soft sources for IDLE_MS becomes a sleep candidate. -/
def execGroupIdle (group : Nat) (s : State) : Out :=
  s.demand (decide (group < 16)) (
    s.confine [.nm] (s.doIf s.running (fun s => s.groupIdle group)))

/-- RING_ROUND_START (R363): The ring starts a round over the candidate groups and sends the first CONSENT_REQ. -/
def execRingRoundStart (s : State) : Out :=
  .next (s.confine [.regs, .cnts, .nmLog, .data, .mgt, .edge, .nm, .twin, .key] (s.doIf s.running (fun s => s.roundStart)))

/-- CONSENT_RSP_RECEIVE (R362): A member's CONSENT_RSP records its vetoes and the token moves on. -/
def execConsentRspReceive (s : State) : Out :=
  .next (s.confine [.regs, .cnts, .nmLog, .data, .mgt, .edge, .nm, .twin, .key, .out] (s.doIf s.running (fun s =>
    s.consentRsp)))

/-- CONSENT_RSP_TIMEOUT (R363): A member that does not answer within RSP_MS consents and is counted silent. -/
def execConsentRspTimeout (s : State) : Out :=
  .next (s.confine [.regs, .cnts, .nmLog, .data, .mgt, .edge, .nm, .twin, .key] (s.doIf s.running (fun s =>
    s.consentTimeout)))

/-- FORCED_SLEEP (R359): A group awake for MAX_AWAKE_S is isolated from its soft source and forced to sleep. -/
def execForcedSleep (group : Nat) (s : State) : Out :=
  s.demand (decide (group < 16)) (
    s.confine [.regs, .cnts, .nmLog, .data, .mgt, .edge, .nm, .twin, .key] (s.doIf s.running (fun s => s.forcedSleep group)))

/-- SLEEP_ENTRY (R371): At T_commit the committed groups power down and, when all sleep, the unit enters Calm. -/
def execSleepEntry (s : State) : Out :=
  .next (s.confine [.regs, .cnts, .caps, .heldLo, .held, .fresh, .cycle, .mem, .bufLog, .nmLog, .safLog, .data, .ports, .time,
    .mgt, .edge, .nm, .wvr, .ldg, .twin, .key, .saf, .boot, .out] (s.doIf s.running (fun s => s.sleepEntry)))

/-- WAKE_REQ_RECEIVE (R365): A member's WAKE_REQ wakes the groups it names. -/
def execWakeReqReceive (s : State) : Out :=
  .next (s.confine [.regs, .cnts, .nmLog, .data, .mgt, .edge, .nm, .twin, .key, .out] (s.doIf s.running (fun s => s.wakeReq)))

/-- NM_WAKE (R366): An NM_WAKE write wakes the named groups. -/
def execNmWake (groups : Nat) (s : State) : Out :=
  s.demand (decide (groups < 65536)) (
    s.confine [.regs, .cnts, .nmLog, .data, .mgt, .edge, .nm, .twin, .key, .out] (s.doIf s.mcRuns (fun s => s.nmWake groups)))

/-- WAKE_INPUT_FILTER_PASS (R372): A wake input holds a new level for DEBOUNCE cycles and its filtered level changes. -/
def execWakeInputFilterPass (input : Nat) (s : State) : Out :=
  s.demand (decide (input < 5)) (
    s.confine [.regs, .cnts, .nmLog, .data, .mgt, .edge, .nm, .twin, .key, .out] (s.filterPass input))

/-- WAKE_INPUT_STUCK (R372): An input active beyond STUCK x 100 ms is masked. -/
def execWakeInputStuck (input : Nat) (s : State) : Out :=
  s.demand (decide (input < 5)) (
    s.confine [.regs, .cnts, .nmLog, .mgt, .nm, .key] (s.inputStuck input))

/-- WAKE_INPUT_UNMASK (R372): A masked input inactive for DEBOUNCE cycles is unmasked. -/
def execWakeInputUnmask (input : Nat) (s : State) : Out :=
  s.demand (decide (input < 5)) (
    s.confine [.regs, .cnts, .nmLog, .mgt, .key] (s.inputUnmask input))

/-- WAKE_OUT_PULSE_END (R373): The unit releases WAKE_BUS after PULSE x 100 us. -/
def execWakeOutPulseEnd (s : State) : Out :=
  .next (s.confine [.nm, .out] (s.wakePulseEnd))

/-- GUST (R374): A latched wake in Calm runs the gust through Lee mode to forwarding. -/
def execGust (env : StartEnv) (s : State) : Out :=
  s.demand (startOk env) (
    s.confine [.regs, .cnts, .caps, .heldLo, .held, .fresh, .cycle, .mem, .bufLog, .nmLog, .safLog, .data, .ports, .time,
    .mgt, .edge, .nm, .wvr, .ldg, .twin, .key, .saf, .boot, .out] (s.gust env))

/-- GROUP_WAKE (R377): In Lull a woken group's members power up and WAKE_REQ is sent to members. -/
def execGroupWake (s : State) : Out :=
  .next (s.confine [.regs, .cnts, .nmLog, .mgt, .edge, .nm, .wvr, .key, .out] (s.doIf s.running (fun s => s.groupWakeDue)))

end Sys2Proof.Machine
end

