-- ==== Sys2Proof/Machine/CmdStart.lean ====
section
/-!
DEFINITION. The meanings of the commands: power, resets and starts. Each takes its occasion (log entry 31) and its footprint.
-/

namespace Sys2Proof.Machine

/-- POWER_UP_AON (R534): VDD_AON rises; the always-on domain starts, INH goes high and the always-on fields take their reset
values. -/
def execPowerUpAon (s : State) : Out :=
  .next (s.confine [.regs, .cnts, .caps, .heldLo, .held, .aon, .fresh, .cycle, .mem, .bufLog, .nmLog, .safLog, .data,
    .ports, .time, .mgt, .edge, .nm, .wvr, .ldg, .twin, .key, .saf, .boot, .out] (s.aonReset))

/-- PORST_ASSERT (R540): PORST_N goes low or a supply monitor trips; every MAC, PHY and engine stops and the pins take their
held states. -/
def execPorstAssert (s : State) : Out :=
  .next (s.confine [.regs, .cnts, .caps, .heldLo, .held, .fresh, .cycle, .mem, .bufLog, .nmLog, .safLog, .data, .ports,
    .time, .mgt, .edge, .nm, .wvr, .ldg, .twin, .key, .saf, .boot, .out] (s.porst))

/-- SUPPLY_MONITOR_TRIP (R522): A rail leaves its monitor window; a fatal fault is raised, or a power-on reset below the reset
threshold. -/
def execSupplyMonitorTrip (rail : Nat) (below : Bool) (s : State) : Out :=
  s.demand (decide (rail < 10)) (s.confine [.regs, .cnts, .caps, .heldLo, .held, .fresh, .cycle, .mem, .bufLog, .nmLog,
    .safLog, .data, .ports, .time, .mgt, .edge, .nm, .wvr, .ldg, .twin, .key, .saf, .boot, .out] (s.supplyTrip rail below))

/-- COLD_START (R56): The release of PORST_N runs the cold start from clocks through MBIST, firmware and image checks to
forwarding. -/
def execColdStart (env : StartEnv) (s : State) : Out :=
  s.demand (startOk env) (
    s.confine [.regs, .cnts, .caps, .heldLo, .held, .fresh, .cycle, .mem, .bufLog, .nmLog, .safLog, .data, .ports, .time,
    .mgt, .edge, .nm, .wvr, .ldg, .twin, .key, .saf, .boot, .out] (s.coldStart env))

/-- SUPERVISOR_HOLD_TIMEOUT (R58): HOLD_US microseconds pass in state HOLD and the start continues with forwarding. -/
def execSupervisorHoldTimeout (us : Nat) (s : State) : Out :=
  .next (s.confine [.regs, .cnts, .bufLog, .data, .ports, .mgt, .edge, .wvr, .ldg, .twin, .key, .boot, .out] (s.holdTimeout
    us))

/-- RETAINED_COPY_DONE (R51): The copy of the applied image into MRAM completes and its seal is written with the commit word
last. -/
def execRetainedCopyDone (s : State) : Out :=
  .next (s.confine [.regs, .boot] (s.copyDone))

end Sys2Proof.Machine
end

