-- ==== Sys2Proof/Machine/CmdTable.lean ====
section
/-!
DEFINITION. The meanings of the commands: the forwarding database, VLANs and the classifier tables. Each takes its occasion (log entry 31) and its footprint.
-/

namespace Sys2Proof.Machine

/-- FDB_LOOKUP (R170): LOOKUP loads FDB_KEY and FDB_DATA with the entry found. -/
def execFdbLookup (s : State) : Out :=
  .next (s.confine [.regs, .data] (s.doIf s.mcRuns (fun s => s.fdbCommand State.fdbLookupOp)))

/-- FDB_WRITE (R170): WRITE updates, inserts or removes the entry of the key. -/
def execFdbWrite (s : State) : Out :=
  .next (s.confine [.regs, .data] (s.doIf s.mcRuns (fun s => s.fdbCommand State.fdbWriteOp)))

/-- FDB_DELETE (R170): DELETE removes the entry of the key. -/
def execFdbDelete (s : State) : Out :=
  .next (s.confine [.regs, .data] (s.doIf s.mcRuns (fun s => s.fdbCommand State.fdbRemoveOp)))

/-- FDB_READ_INDEX (R170): READ_INDEX loads the stored contents of one entry. -/
def execFdbReadIndex (index : Nat) (s : State) : Out :=
  s.demand (decide (index < 32768)) (
    s.confine [.regs, .data] (s.doIf s.mcRuns (fun s => s.fdbCommand (fun s => s.fdbReadOp index))))

/-- FLUSH_PORT (R170): FLUSH_PORT starts a walk removing dynamic entries that name one port. -/
def execFlushPort (s : State) : Out :=
  .next (s.confine [.regs, .data] (s.doIf s.mcRuns (fun s => s.fdbCommand State.fdbFlushPort)))

/-- FLUSH_DYNAMIC (R170): FLUSH_DYNAMIC starts a walk removing all dynamic entries. -/
def execFlushDynamic (s : State) : Out :=
  .next (s.confine [.regs, .data] (s.doIf s.mcRuns (fun s => s.fdbCommand State.fdbFlushDynamic)))

/-- FDB_OPERATION_DONE (R170): An FDB operation completes and sets DONE with its result. -/
def execFdbOperationDone (s : State) : Out :=
  .next (s.confine [.regs, .data] (s.doIf s.powered (fun s => s.fdbDone)))

/-- VLAN_ENTRY_COMMIT (R169): The write of VLAN_WIN_DATA[3] stores all four words of the selected VLAN entry in one cycle. -/
def execVlanEntryCommit (mask : Word) (value : Word) (s : State) : Out :=
  .next (s.confine [.regs, .held] (s.doIf s.mcRuns (fun s => s.commitVlan (s.winIndex (K.VLAN_WIN_DATA0 0)) mask value)))

/-- MCG_ENTRY_COMMIT (R169): The write of MCG_WIN_DATA[1] commits the selected multicast group entry. -/
def execMcgEntryCommit (mask : Word) (value : Word) (s : State) : Out :=
  .next (s.confine [.regs, .held] (s.doIf s.mcRuns (fun s => s.commitMcg (s.winIndex (K.MCG_WIN_DATA0 0)) mask value)))

/-- CLS_WIN_ENTRY_WRITE (R118): A write to a TCAM key, mask or action word is stored, or ignored with LIVE_WRITE while VALID
is 1. -/
def execClsWinEntryWrite (addr : Nat) (mask : Word) (value : Word) (s : State) : Out :=
  s.demand (isClsEntry addr) (
    s.confine [.regs, .cnts, .data, .mgt, .key] (s.doIf s.mcRuns (fun s => s.writeTcam addr mask value)))

/-- CLS_WIN_CTRL_WRITE (R118): A write to CLS_WIN_CTRL changes GEN and VALID in one cycle, unless a retiring generation
forbids it. -/
def execClsWinCtrlWrite (mask : Word) (value : Word) (s : State) : Out :=
  .next (s.confine [.regs, .cnts, .data, .mgt, .key] (s.doIf s.mcRuns (fun s => s.clsWriteCtrl mask value)))

/-- SWAP (R123): A CLS_GEN SWAP write requests a generation swap, held pending if another is in progress. -/
def execSwap (gen : Nat) (s : State) : Out :=
  s.demand (decide (gen < 2)) (s.confine [.regs, .data, .mgt, .key] (s.doIf s.mcRuns (fun s => s.requestSwap gen)))

/-- SWAP_TAKE_EFFECT (R122): A requested swap takes effect for lookups and starts a retirement if frames of the old generation
wait. -/
def execSwapTakeEffect (s : State) : Out :=
  .next (s.confine [.regs, .cnts, .data, .mgt, .key] (s.doIf s.powered (fun s => s.swapEffect)))

/-- RETIREMENT_END (R122): The last second lookup of the retiring generation ends its retirement and applies any pending swap.
-/
def execRetirementEnd (s : State) : Out :=
  .next (s.confine [.regs, .cnts, .mgt, .key] (s.doIf s.powered (fun s => s.endRetirement)))

end Sys2Proof.Machine
end

