-- ==== Sys2Proof/Machine/CmdTime.lean ====
section
/-!
DEFINITION. The meanings of the commands: network time. Each takes its occasion (log entry 31) and its footprint.
-/

namespace Sys2Proof.Machine

/-- TIME_NOW_CAPTURE (R209): A read of TIME_NOW_NS captures the whole time counter. -/
def execTimeNowCapture (s : State) : Out :=
  .next (s.confine [.busData, .time] (s.doIf s.mcRuns (fun s => s.captureNow)))

/-- PPS_IN_STAMP_CAPTURE (R232): A read of PPS_IN_STAMP_NS captures the stamp with its seconds. -/
def execPpsInStampCapture (s : State) : Out :=
  .next (s.confine [.busData, .time] (s.doIf s.mcRuns (fun s => s.capturePps)))

/-- SOURCE_WRITE (R220): A TIME_CTRL write changing SOURCE puts the servo into FREE or ACQUIRING and resets INTEG and AVG. -/
def execSourceWrite (source : Nat) (s : State) : Out :=
  s.demand (decide (source < 4)) (s.confine [.regs, .cnts, .held, .nmLog, .data, .time, .mgt, .edge, .nm, .wvr, .twin, .key,
    .out] (s.doIf s.mcRuns (fun s => s.settled (fun s => s.writeSource source))))

/-- STEP (R225): A TIME_CTRL.STEP write sets the counter to TIME_SET, or is rejected outside ACQUIRING while gates run. -/
def execStepTime (s : State) : Out :=
  .next (s.confine [.regs, .cnts, .held, .nmLog, .data, .time, .mgt, .edge, .nm, .wvr, .twin, .key, .out] (s.doIf s.mcRuns
    (fun s => s.settled (fun s => s.commandStep))))

/-- ACQUIRE (R224): A TIME_CTRL.ACQUIRE write puts a LOCKED or HOLDOVER servo into ACQUIRING. -/
def execAcquire (s : State) : Out :=
  .next (s.confine [.regs, .cnts, .held, .nmLog, .data, .time, .mgt, .edge, .nm, .wvr, .twin, .key, .out] (s.doIf s.mcRuns
    (fun s => s.settled (fun s => s.commandAcquire))))

/-- SYNC_RECEIVE (R216): A Sync on the slave port is stored with its ingress stamp and relayed to master ports. -/
def execSyncReceive (s : State) : Out :=
  .next (s.confine [.regs, .cnts, .held, .nmLog, .data, .time, .mgt, .edge, .nm, .wvr, .twin, .key, .out] (s.doIf s.running
    (fun s => s.settled (fun s => s.syncIn))))

/-- FOLLOW_UP_RECEIVE (R216): A Follow_Up completes a two-step Sync, giving an offset measurement. -/
def execFollowUpReceive (s : State) : Out :=
  .next (s.confine [.regs, .cnts, .held, .nmLog, .data, .time, .mgt, .edge, .nm, .wvr, .twin, .key, .out] (s.doIf s.running
    (fun s => s.settled (fun s => s.followIn))))

/-- FOLLOW_UP_RELAY (R218): A Follow_Up is enqueued on a master port once that port's Sync egress stamp is taken. -/
def execFollowUpRelay (port : Nat) (s : State) : Out :=
  s.demand (decide (port < 34)) (
    s.confine [.cnts, .data, .ports, .time, .twin] (s.doIf s.running (fun s => s.followRelay port)))

/-- FOLLOWUP_MISSING (R216): A two-step Sync without Follow_Up within 2^SYNC_LOG s is discarded. -/
def execFollowupMissing (s : State) : Out :=
  .next (s.confine [.cnts, .time] (s.doIf s.running (fun s => s.followMissing)))

/-- PDELAY_REQ_SEND (R215): Every 2^PDELAY_LOG s a port sends a Pdelay_Req. -/
def execPdelayReqSend (port : Nat) (s : State) : Out :=
  s.demand (decide (port < 34)) (
    s.confine [.regs, .cnts, .data, .time, .twin] (s.doIf s.running (fun s => s.pdelaySend port)))

/-- PDELAY_REQ_RECEIVE (R215): A received Pdelay_Req is answered. -/
def execPdelayReqReceive (s : State) : Out :=
  .next (s.confine [.regs, .cnts, .data, .time, .mgt, .twin] (s.doIf s.running (fun s => s.pdelayAnswer)))

/-- PDELAY_RESP_RECEIVE (R215): A completed Pdelay exchange updates DELAY, NRR and AS_CAPABLE. -/
def execPdelayRespReceive (s : State) : Out :=
  .next (s.confine [.regs, .cnts, .time, .mgt] (s.doIf s.running (fun s => s.pdelayResp)))

/-- GM_SYNC_SEND (R219): As grandmaster, each master port sends a Sync at each multiple of 2^SYNC_LOG s. -/
def execGmSyncSend (s : State) : Out :=
  .next (s.confine [.cnts, .data, .time, .twin] (s.doIf s.running (fun s => s.gmSync)))

/-- SYNC_MISSED (R224): An interval passes without a measurement, and after MISS_LIMIT a LOCKED servo enters HOLDOVER. -/
def execSyncMissed (s : State) : Out :=
  .next (s.confine [.regs, .cnts, .mgt, .key] (s.doIf s.running (fun s => s.missInterval)))

/-- PPS_IN_EDGE (R227): An edge of PPS_IN of the chosen polarity is stamped by each lockstep copy. -/
def execPpsInEdge (falling : Bool) (diff : Nat) (s : State) : Out :=
  .next (s.confine [.time] (s.doIf s.powered (fun s => s.ppsEdge falling diff)))

/-- INPUT_EPOCH (R387): Every 64 CLK_CORE cycles the input agreement stage compares both copies' samples of each asynchronous
input. -/
def execInputEpoch (levelsA : Nat) (levelsB : Nat) (s : State) : Out :=
  s.demand (decide (levelsA < 32768) && decide (levelsB < 32768)) (s.confine [.regs, .cnts, .held, .fresh, .nmLog, .data,
    .ports, .time, .mgt, .edge, .nm, .wvr, .twin, .key, .saf, .out] (s.doIf s.powered (fun s => if s.cycle % 64 = 0 then
    s.settled (fun s => s.inputEpoch levelsA levelsB) else s)))

/-- PPS_OUT_EDGE (R229): A pulse output becomes active at each edge time and inactive after WIDTH. -/
def execPpsOutEdge (output : Nat) (s : State) : Out :=
  s.demand (decide (output < 4)) (
    s.confine [.time, .out] (s.doIf s.powered (fun s => s.ppsUpdate output)))

end Sys2Proof.Machine
end

