-- ==== Sys2Proof/Machine/CmdWeaver.lean ====
section
/-!
DEFINITION. The meanings of the commands: the Weaver and MACsec associations. Each takes its occasion (log entry 31) and its footprint.
-/

namespace Sys2Proof.Machine

/-- WEAVER_UNIT (R258): The Weaver takes the next unit from its queue, looks it up and runs its routes. -/
def execWeaverUnit (s : State) : Out :=
  .next (s.confine [.regs, .cnts, .mgt, .edge, .wvr, .ldg, .twin, .key] (s.doIf s.running (fun s => s.weaverUnit)))

/-- PDU_TIMEOUT (R266): A receive PDU's deadline passes, TIMED_OUT is set and a timeout unit is queued. -/
def execPduTimeout (pdu : Nat) (s : State) : Out :=
  s.demand (decide (pdu < 4096)) (
    s.confine [.regs, .cnts, .mgt, .wvr, .key] (s.doIf s.running (fun s => s.pduTimeout pdu (s.pduStandby pdu))))

/-- CYCLIC_SEND (R271): At each due time a cyclic or mixed transmit PDU is sent. -/
def execCyclicSend (s : State) : Out :=
  .next (s.confine [.regs, .cnts, .mgt, .edge, .wvr, .key] (s.doIf s.running (fun s => s.cyclicSend)))

/-- DEFERRED_SEND (R272): At the end of the minimum gap a deferred send is made. -/
def execDeferredSend (s : State) : Out :=
  .next (s.confine [.regs, .cnts, .mgt, .edge, .wvr, .key] (s.doIf s.running (fun s => s.deferredSend)))

/-- SEND (R270): A WVR_CTRL.SEND write sends the selected transmit PDU under its minimum gap. -/
def execSend (s : State) : Out :=
  .next (s.confine [.regs, .cnts, .mgt, .edge, .wvr, .key] (s.doIf s.mcRuns (fun s => s.sendCommand)))

/-- CARRIER_FRAME_CLOSE (R279): HOLD_US after its first PDU, an open carrier frame is closed and placed in the Weaver lane. -/
def execCarrierFrameClose (carrier : Nat) (s : State) : Out :=
  s.demand (decide (carrier < 512)) (
    s.confine [.regs, .cnts, .mgt, .wvr, .key] (s.doIf s.running (fun s => s.holdClose carrier)))

/-- WVR_PDU_COMMIT (R289): The write of WVR_PDU_DATA[7] stores the whole PDU definition between two units. -/
def execWvrPduCommit (s : State) : Out :=
  .next (s.confine [.regs, .cnts, .held, .mgt, .wvr, .key] (s.doIf s.mcRuns (fun s => s.commitPdu (s.winIndex 0x1C005C))))

/-- WVR_ROUTE_COMMIT (R289): The write of WVR_RT_DATA[7] stores the route between units, or is rejected for a denied zone
pair. -/
def execWvrRouteCommit (value : Word) (s : State) : Out :=
  .next (s.confine [.regs, .cnts, .held, .mgt, .key] (s.doIf s.mcRuns (fun s => s.commitRoute (s.winIndex 0x1C013C) value)))

/-- WVR_CARRIER_COMMIT (R289): The write of WVR_CAR_CFG[1] stores the carrier and its template between units. -/
def execWvrCarrierCommit (value : Word) (s : State) : Out :=
  .next (s.confine [.regs, .held] (s.doIf s.mcRuns (fun s => s.commitCarrier (s.winIndex 0x1C0188) value)))

/-- WVR_IMAGE_WRITE (R289): A write to a transmit PDU image takes effect between units; one to a receive PDU is rejected. -/
def execWvrImageWrite (word : Nat) (value : Word) (s : State) : Out :=
  s.demand (decide (word < 16)) (
    s.confine [.regs, .cnts, .mgt, .key] (s.doIf s.mcRuns (fun s => s.writeImage (s.winIndex 0x1C0080) word value)))

/-- WVR_PDU_STAMP_CAPTURE (R288): A read of WVR_PDU_STAMP_NS captures the event time with its seconds. -/
def execWvrPduStampCapture (s : State) : Out :=
  .next (s.confine [.busData, .wvr] (s.doIf s.mcRuns (fun s => s.captureStamp (s.fld F.WVR_PDU_INDEX_INDEX))))

/-- SEC_SA_COMMIT (R310): The write of SEC_SA_CFG commits the whole SA entry between two frames. -/
def execSecSaCommit (port : Nat) (value : Word) (s : State) : Out :=
  s.demand (decide (port < 10)) (s.confine [.regs, .held, .ports] (s.doIf s.mcRuns (fun s => s.commitSa port (s.winIndex
    (0x208024 + 0x400 * port)) value)))

/-- TX_AN_APPLY (R303): A new TX_AN takes effect at the next frame boundary. -/
def execTxAnApply (port : Nat) (s : State) : Out :=
  s.demand (decide (port < 10)) (
    s.confine [.regs, .ports] (s.doIf s.powered (fun s => s.applyTxAn port)))

end Sys2Proof.Machine
end

