-- ==== Sys2Proof/Machine/Dispatch.lean ====
section
/-!
DEFINITION. The effect of a command on everything but the queue: one arm per command.
-/

namespace Sys2Proof.Machine

def exec (i : Instr) (s : State) : Host.Outcome State Fault Refusal :=
  match i with
  | .registerWrite addr mask value => Sys2Proof.Machine.execRegisterWrite addr mask value s
  | .snapshotLoRead addr => Sys2Proof.Machine.execSnapshotLoRead addr s
  | .snapshotLoWrite addr value => Sys2Proof.Machine.execSnapshotLoWrite addr value s
  | .snapshotHiWrite addr value => Sys2Proof.Machine.execSnapshotHiWrite addr value s
  | .heldRegisterWrite addr mask value => Sys2Proof.Machine.execHeldRegisterWrite addr mask value s
  | .powerUpAon => Sys2Proof.Machine.execPowerUpAon s
  | .porstAssert => Sys2Proof.Machine.execPorstAssert s
  | .supplyMonitorTrip rail below => Sys2Proof.Machine.execSupplyMonitorTrip rail below s
  | .coldStart env => Sys2Proof.Machine.execColdStart env s
  | .supervisorHoldTimeout us => Sys2Proof.Machine.execSupervisorHoldTimeout us s
  | .retainedCopyDone => Sys2Proof.Machine.execRetainedCopyDone s
  | .frameReceive port kind bytes fin => Sys2Proof.Machine.execFrameReceive port kind bytes fin s
  | .pipelinePass => Sys2Proof.Machine.execPipelinePass s
  | .secondPass => Sys2Proof.Machine.execSecondPass s
  | .frameEndWritten port => Sys2Proof.Machine.execFrameEndWritten port s
  | .learn => Sys2Proof.Machine.execLearn s
  | .ageingPass => Sys2Proof.Machine.execAgeingPass s
  | .linkChange port phyUp lock usx => Sys2Proof.Machine.execLinkChange port phyUp lock usx s
  | .egressSelection port mac sent err => Sys2Proof.Machine.execEgressSelection port mac sent err s
  | .transmitEnd port mac err => Sys2Proof.Machine.execTransmitEnd port mac err s
  | .queueAgeSweep => Sys2Proof.Machine.execQueueAgeSweep s
  | .quarantineEnd queue => Sys2Proof.Machine.execQuarantineEnd queue s
  | .bufferAudit dirty => Sys2Proof.Machine.execBufferAudit dirty s
  | .auditEnd => Sys2Proof.Machine.execAuditEnd s
  | .verifySend port => Sys2Proof.Machine.execVerifySend port s
  | .verifyReceive port => Sys2Proof.Machine.execVerifyReceive port s
  | .respondReceive port => Sys2Proof.Machine.execRespondReceive port s
  | .mergeCfgApply port => Sys2Proof.Machine.execMergeCfgApply port s
  | .macCfgWrite port mask value => Sys2Proof.Machine.execMacCfgWrite port mask value s
  | .macFrameWrite port mask value => Sys2Proof.Machine.execMacFrameWrite port mask value s
  | .clear addr => Sys2Proof.Machine.execClear addr s
  | .mdioAccess master value => Sys2Proof.Machine.execMdioAccess master value s
  | .mdioAccessDone master answer => Sys2Proof.Machine.execMdioAccessDone master answer s
  | .mdioPoll master => Sys2Proof.Machine.execMdioPoll master s
  | .mdioInterruptPoll port => Sys2Proof.Machine.execMdioInterruptPoll port s
  | .mdioCfgWrite master mask value => Sys2Proof.Machine.execMdioCfgWrite master mask value s
  | .fdbLookup => Sys2Proof.Machine.execFdbLookup s
  | .fdbWrite => Sys2Proof.Machine.execFdbWrite s
  | .fdbDelete => Sys2Proof.Machine.execFdbDelete s
  | .fdbReadIndex index => Sys2Proof.Machine.execFdbReadIndex index s
  | .flushPort => Sys2Proof.Machine.execFlushPort s
  | .flushDynamic => Sys2Proof.Machine.execFlushDynamic s
  | .fdbOperationDone => Sys2Proof.Machine.execFdbOperationDone s
  | .vlanEntryCommit mask value => Sys2Proof.Machine.execVlanEntryCommit mask value s
  | .mcgEntryCommit mask value => Sys2Proof.Machine.execMcgEntryCommit mask value s
  | .clsWinEntryWrite addr mask value => Sys2Proof.Machine.execClsWinEntryWrite addr mask value s
  | .clsWinCtrlWrite mask value => Sys2Proof.Machine.execClsWinCtrlWrite mask value s
  | .swap gen => Sys2Proof.Machine.execSwap gen s
  | .swapTakeEffect => Sys2Proof.Machine.execSwapTakeEffect s
  | .retirementEnd => Sys2Proof.Machine.execRetirementEnd s
  | .tokenTick => Sys2Proof.Machine.execTokenTick s
  | .shaperCommit => Sys2Proof.Machine.execShaperCommit s
  | .meterCommit => Sys2Proof.Machine.execMeterCommit s
  | .zonePolicerCommit => Sys2Proof.Machine.execZonePolicerCommit s
  | .frerReset => Sys2Proof.Machine.execFrerReset s
  | .frerResetTimer fn => Sys2Proof.Machine.execFrerResetTimer fn s
  | .configChange => Sys2Proof.Machine.execConfigChange s
  | .cancel => Sys2Proof.Machine.execCancel s
  | .gateChangeTime port => Sys2Proof.Machine.execGateChangeTime port s
  | .gateEntryTransition port => Sys2Proof.Machine.execGateEntryTransition port s
  | .gateHoldRequest port => Sys2Proof.Machine.execGateHoldRequest port s
  | .timeNowCapture => Sys2Proof.Machine.execTimeNowCapture s
  | .ppsInStampCapture => Sys2Proof.Machine.execPpsInStampCapture s
  | .sourceWrite source => Sys2Proof.Machine.execSourceWrite source s
  | .stepTime => Sys2Proof.Machine.execStepTime s
  | .acquire => Sys2Proof.Machine.execAcquire s
  | .syncReceive => Sys2Proof.Machine.execSyncReceive s
  | .followUpReceive => Sys2Proof.Machine.execFollowUpReceive s
  | .followUpRelay port => Sys2Proof.Machine.execFollowUpRelay port s
  | .followupMissing => Sys2Proof.Machine.execFollowupMissing s
  | .pdelayReqSend port => Sys2Proof.Machine.execPdelayReqSend port s
  | .pdelayReqReceive => Sys2Proof.Machine.execPdelayReqReceive s
  | .pdelayRespReceive => Sys2Proof.Machine.execPdelayRespReceive s
  | .gmSyncSend => Sys2Proof.Machine.execGmSyncSend s
  | .syncMissed => Sys2Proof.Machine.execSyncMissed s
  | .ppsInEdge falling diff => Sys2Proof.Machine.execPpsInEdge falling diff s
  | .inputEpoch levelsA levelsB => Sys2Proof.Machine.execInputEpoch levelsA levelsB s
  | .ppsOutEdge output => Sys2Proof.Machine.execPpsOutEdge output s
  | .canFrameReceive channel msg ago => Sys2Proof.Machine.execCanFrameReceive channel msg ago s
  | .canArbitration channel => Sys2Proof.Machine.execCanArbitration channel s
  | .canTxComplete channel => Sys2Proof.Machine.execCanTxComplete channel s
  | .canBusError channel lec sending step => Sys2Proof.Machine.execCanBusError channel lec sending step s
  | .busoffHoldEnd channel => Sys2Proof.Machine.execBusoffHoldEnd channel s
  | .recover channel => Sys2Proof.Machine.execRecover channel s
  | .canRecoveryDone channel => Sys2Proof.Machine.execCanRecoveryDone channel s
  | .canIsolate channel receiving => Sys2Proof.Machine.execCanIsolate channel receiving s
  | .canIsolationEnd channel => Sys2Proof.Machine.execCanIsolationEnd channel s
  | .linIsolate channel => Sys2Proof.Machine.execLinIsolate channel s
  | .linIsolationEnd channel => Sys2Proof.Machine.execLinIsolationEnd channel s
  | .linSlot channel => Sys2Proof.Machine.execLinSlot channel s
  | .linHeaderReceive channel ident seen => Sys2Proof.Machine.execLinHeaderReceive channel ident seen s
  | .linFrameReceive channel bytes fin ago => Sys2Proof.Machine.execLinFrameReceive channel bytes fin ago s
  | .linResponseTimeout channel => Sys2Proof.Machine.execLinResponseTimeout channel s
  | .switch channel => Sys2Proof.Machine.execSwitch channel s
  | .wake channel => Sys2Proof.Machine.execWake channel s
  | .shadowClear channel => Sys2Proof.Machine.execShadowClear channel s
  | .weaverUnit => Sys2Proof.Machine.execWeaverUnit s
  | .pduTimeout pdu => Sys2Proof.Machine.execPduTimeout pdu s
  | .cyclicSend => Sys2Proof.Machine.execCyclicSend s
  | .deferredSend => Sys2Proof.Machine.execDeferredSend s
  | .send => Sys2Proof.Machine.execSend s
  | .carrierFrameClose carrier => Sys2Proof.Machine.execCarrierFrameClose carrier s
  | .wvrPduCommit => Sys2Proof.Machine.execWvrPduCommit s
  | .wvrRouteCommit value => Sys2Proof.Machine.execWvrRouteCommit value s
  | .wvrCarrierCommit value => Sys2Proof.Machine.execWvrCarrierCommit value s
  | .wvrImageWrite word value => Sys2Proof.Machine.execWvrImageWrite word value s
  | .wvrPduStampCapture => Sys2Proof.Machine.execWvrPduStampCapture s
  | .secSaCommit port value => Sys2Proof.Machine.execSecSaCommit port value s
  | .txAnApply port => Sys2Proof.Machine.execTxAnApply port s
  | .keyLoad => Sys2Proof.Machine.execKeyLoad s
  | .keyDerive => Sys2Proof.Machine.execKeyDerive s
  | .keyPromote => Sys2Proof.Machine.execKeyPromote s
  | .keyErase => Sys2Proof.Machine.execKeyErase s
  | .keyOperationDone => Sys2Proof.Machine.execKeyOperationDone s
  | .cmdKeyAdvance => Sys2Proof.Machine.execCmdKeyAdvance s
  | .attest => Sys2Proof.Machine.execAttest s
  | .certRead => Sys2Proof.Machine.execCertRead s
  | .lcAdvance adv => Sys2Proof.Machine.execLcAdvance adv s
  | .signatureRelease => Sys2Proof.Machine.execSignatureRelease s
  | .signingKeyReady sigKey => Sys2Proof.Machine.execSigningKeyReady sigKey s
  | .lmsTreeReady sigKey => Sys2Proof.Machine.execLmsTreeReady sigKey s
  | .ledgerSample => Sys2Proof.Machine.execLedgerSample s
  | .inputStale input => Sys2Proof.Machine.execInputStale input s
  | .ledgerPersist => Sys2Proof.Machine.execLedgerPersist s
  | .periodRecord => Sys2Proof.Machine.execPeriodRecord s
  | .ledgerSign => Sys2Proof.Machine.execLedgerSign s
  | .ledgerRdIndexWrite value => Sys2Proof.Machine.execLedgerRdIndexWrite value s
  | .groupIdle group => Sys2Proof.Machine.execGroupIdle group s
  | .ringRoundStart => Sys2Proof.Machine.execRingRoundStart s
  | .consentRspReceive => Sys2Proof.Machine.execConsentRspReceive s
  | .consentRspTimeout => Sys2Proof.Machine.execConsentRspTimeout s
  | .forcedSleep group => Sys2Proof.Machine.execForcedSleep group s
  | .sleepEntry => Sys2Proof.Machine.execSleepEntry s
  | .wakeReqReceive => Sys2Proof.Machine.execWakeReqReceive s
  | .nmWake groups => Sys2Proof.Machine.execNmWake groups s
  | .wakeInputFilterPass input => Sys2Proof.Machine.execWakeInputFilterPass input s
  | .wakeInputStuck input => Sys2Proof.Machine.execWakeInputStuck input s
  | .wakeInputUnmask input => Sys2Proof.Machine.execWakeInputUnmask input s
  | .wakeOutPulseEnd => Sys2Proof.Machine.execWakeOutPulseEnd s
  | .gust env => Sys2Proof.Machine.execGust env s
  | .groupWake => Sys2Proof.Machine.execGroupWake s
  | .fatalFault code detail => Sys2Proof.Machine.execFatalFault code detail s
  | .pllRelock => Sys2Proof.Machine.execPllRelock s
  | .digestCompare differ => Sys2Proof.Machine.execDigestCompare differ s
  | .scrubVisit find => Sys2Proof.Machine.execScrubVisit find s
  | .temperatureWarning tj => Sys2Proof.Machine.execTemperatureWarning tj s
  | .leeSlot stream => Sys2Proof.Machine.execLeeSlot stream s
  | .leeFrameSend entry => Sys2Proof.Machine.execLeeFrameSend entry s
  | .leeExitTimeout env => Sys2Proof.Machine.execLeeExitTimeout env s
  | .faultInject kind group => Sys2Proof.Machine.execFaultInject kind group s
  | .helloSend => Sys2Proof.Machine.execHelloSend s
  | .helloReceive => Sys2Proof.Machine.execHelloReceive s
  | .partnerLoss => Sys2Proof.Machine.execPartnerLoss s
  | .holdInChange => Sys2Proof.Machine.execHoldInChange s
  | .claimTimeout => Sys2Proof.Machine.execClaimTimeout s
  | .claimDeferEnd => Sys2Proof.Machine.execClaimDeferEnd s
  | .activeYield => Sys2Proof.Machine.execActiveYield s
  | .holdInMask chatter => Sys2Proof.Machine.execHoldInMask chatter s
  | .holdInUnmask => Sys2Proof.Machine.execHoldInUnmask s
  | .claim => Sys2Proof.Machine.execClaim s
  | .resync => Sys2Proof.Machine.execResync s
  | .rejoinRetry => Sys2Proof.Machine.execRejoinRetry s
  | .catchUpReceive => Sys2Proof.Machine.execCatchUpReceive s
  | .syncSnapshot => Sys2Proof.Machine.execSyncSnapshot s
  | .syncReceivePair tSync items => Sys2Proof.Machine.execSyncReceivePair tSync items s
  | .journalReceive => Sys2Proof.Machine.execJournalReceive s
  | .journalAckReceive => Sys2Proof.Machine.execJournalAckReceive s
  | .journalAckTimeout => Sys2Proof.Machine.execJournalAckTimeout s
  | .commitReceive => Sys2Proof.Machine.execCommitReceive s
  | .commandApplyTime => Sys2Proof.Machine.execCommandApplyTime s
  | .sleepPairReceive => Sys2Proof.Machine.execSleepPairReceive s
  | .wakePairReceive => Sys2Proof.Machine.execWakePairReceive s
  | .crossingFrameReceive => Sys2Proof.Machine.execCrossingFrameReceive s
  | .creditSend => Sys2Proof.Machine.execCreditSend s
  | .creditReceive => Sys2Proof.Machine.execCreditReceive s
  | .creditResetTimeout voq => Sys2Proof.Machine.execCreditResetTimeout voq s
  | .bridgeReqReceive write tag addr mask value => Sys2Proof.Machine.execBridgeReqReceive write tag addr mask value s
  | .bridgeRspReceive tag isRead cause value => Sys2Proof.Machine.execBridgeRspReceive tag isRead cause value s
  | .bridgeRspTimeout => Sys2Proof.Machine.execBridgeRspTimeout s
  | .commandFrameReceive err => Sys2Proof.Machine.execCommandFrameReceive err s
  | .writeCommand bytes => Sys2Proof.Machine.execWriteCommand bytes s
  | .readResponse count => Sys2Proof.Machine.execReadResponse count s
  | .readStatus => Sys2Proof.Machine.execReadStatus s
  | .readEvent count => Sys2Proof.Machine.execReadEvent count s
  | .commandAccept => Sys2Proof.Machine.execCommandAccept s
  | .restart env => Sys2Proof.Machine.execRestart env s
  | .startForwarding us => Sys2Proof.Machine.execStartForwarding us s
  | .imageErase => Sys2Proof.Machine.execImageErase s
  | .imageWrite => Sys2Proof.Machine.execImageWrite s
  | .imageVerify nvm => Sys2Proof.Machine.execImageVerify nvm s
  | .imageActivate env => Sys2Proof.Machine.execImageActivate env s
  | .firmwareWrite => Sys2Proof.Machine.execFirmwareWrite s
  | .recordApply => Sys2Proof.Machine.execRecordApply s
  | .ledgerRead => Sys2Proof.Machine.execLedgerRead s
  | .ledgerSigRead => Sys2Proof.Machine.execLedgerSigRead s
  | .jrnRead => Sys2Proof.Machine.execJrnRead s
  | .checkpoint => Sys2Proof.Machine.execCheckpoint s
  | .checkpointRead => Sys2Proof.Machine.execCheckpointRead s
  | .frameSend => Sys2Proof.Machine.execFrameSend s
  | .frameRead => Sys2Proof.Machine.execFrameRead s
  | .eventAck => Sys2Proof.Machine.execEventAck s
  | .regRead => Sys2Proof.Machine.execRegRead s
  | .regWrite => Sys2Proof.Machine.execRegWrite s
  | .regBurstRead => Sys2Proof.Machine.execRegBurstRead s
  | .regBurstWrite => Sys2Proof.Machine.execRegBurstWrite s
  | .writeFence => Sys2Proof.Machine.execWriteFence s
  | .farReadComplete parity => Sys2Proof.Machine.execFarReadComplete parity s
  | .postedWriteComplete parity => Sys2Proof.Machine.execPostedWriteComplete parity s
  | .bufQlogPop => Sys2Proof.Machine.execBufQlogPop s
  | .nmLogPop => Sys2Proof.Machine.execNmLogPop s
  | .safLogPop => Sys2Proof.Machine.execSafLogPop s
  | .brgPwflPop => Sys2Proof.Machine.execBrgPwflPop s
  | .evtPop => Sys2Proof.Machine.execEvtPop s
  | .jrnRdIndexWrite value => Sys2Proof.Machine.execJrnRdIndexWrite value s
  | .handover bank target => Sys2Proof.Machine.execHandover bank target s
  | .bankDrainDone bank => Sys2Proof.Machine.execBankDrainDone bank s
  | .bankClearDone bank => Sys2Proof.Machine.execBankClearDone bank s
  | .pulse group => Sys2Proof.Machine.execPulse group s
  | .hold group => Sys2Proof.Machine.execHold group s
  | .release group => Sys2Proof.Machine.execRelease group s
  | .resetPulseEnd => Sys2Proof.Machine.execResetPulseEnd s
  | .aonClockFault => Sys2Proof.Machine.execAonClockFault s
  | .wakeFilterCopyFault input => Sys2Proof.Machine.execWakeFilterCopyFault input s
  | .tjWarnRearm tj => Sys2Proof.Machine.execTjWarnRearm tj s
  | .linWakePulseEnd channel => Sys2Proof.Machine.execLinWakePulseEnd channel s
  | .lineFaultClear => Sys2Proof.Machine.execLineFaultClear s
  | .replayListExit port => Sys2Proof.Machine.execReplayListExit port s

end Sys2Proof.Machine
end

