-- ==== Sys2Proof/WellFormed.lean ====
section
/-!
DEFINITION. Which commands are well formed: their operands name ports, channels, queues, addresses and values that the
device has.
-/

namespace Sys2Proof

open Machine

/-- The operands of a command name what the device has. -/
def Instr.wf (i : Instr) : Bool :=
  match i with
  | .registerWrite addr _ _ => isRegister addr || placeOf addr == .outside
  | .snapshotLoRead addr => isLo addr
  | .snapshotLoWrite addr _ => isPairLo addr
  | .snapshotHiWrite addr _ => isPairHi addr
  | .heldRegisterWrite addr _ _ => isHeld addr
  | .powerUpAon => true
  | .porstAssert => true
  | .supplyMonitorTrip rail _ => decide (rail < 10)
  | .coldStart env => startOk env
  | .supervisorHoldTimeout _ => true
  | .retainedCopyDone => true
  | .frameReceive port kind _ _ => rxForm port kind
  | .pipelinePass => true
  | .secondPass => true
  | .frameEndWritten port => decide (port < 35)
  | .learn => true
  | .ageingPass => true
  | .linkChange port _ _ _ => decide (port < 34)
  | .egressSelection port mac _ _ => txForm port mac
  | .transmitEnd port mac _ => txForm port mac
  | .queueAgeSweep => true
  | .quarantineEnd queue => decide (queue < 568)
  | .bufferAudit dirty => dirty.all (fun k => decide (k < cellCount))
  | .auditEnd => true
  | .verifySend port => hasMerge port
  | .verifyReceive port => hasMerge port
  | .respondReceive port => hasMerge port
  | .mergeCfgApply port => hasMerge port
  | .macCfgWrite port _ _ => decide (port < 35)
  | .macFrameWrite port _ _ => decide (port < 35)
  | .clear addr => isCntCtrl addr
  | .mdioAccess master _ => decide (master < 2)
  | .mdioAccessDone master answer => decide (master < 2) && answer.all (fun r => decide (r < 65536))
  | .mdioPoll master => decide (master < 2)
  | .mdioInterruptPoll port => decide (port < 8)
  | .mdioCfgWrite master _ _ => decide (master < 2)
  | .fdbLookup => true
  | .fdbWrite => true
  | .fdbDelete => true
  | .fdbReadIndex index => decide (index < 32768)
  | .flushPort => true
  | .flushDynamic => true
  | .fdbOperationDone => true
  | .vlanEntryCommit _ _ => true
  | .mcgEntryCommit _ _ => true
  | .clsWinEntryWrite addr _ _ => isClsEntry addr
  | .clsWinCtrlWrite _ _ => true
  | .swap gen => decide (gen < 2)
  | .swapTakeEffect => true
  | .retirementEnd => true
  | .tokenTick => true
  | .shaperCommit => true
  | .meterCommit => true
  | .zonePolicerCommit => true
  | .frerReset => true
  | .frerResetTimer fn => decide (fn < 1024)
  | .configChange => true
  | .cancel => true
  | .gateChangeTime port => decide (port < 34)
  | .gateEntryTransition port => decide (port < 34)
  | .gateHoldRequest port => decide (port < 34)
  | .timeNowCapture => true
  | .ppsInStampCapture => true
  | .sourceWrite source => decide (source < 4)
  | .stepTime => true
  | .acquire => true
  | .syncReceive => true
  | .followUpReceive => true
  | .followUpRelay port => decide (port < 34)
  | .followupMissing => true
  | .pdelayReqSend port => decide (port < 34)
  | .pdelayReqReceive => true
  | .pdelayRespReceive => true
  | .gmSyncSend => true
  | .syncMissed => true
  | .ppsInEdge _ _ => true
  | .inputEpoch levelsA levelsB => decide (levelsA < 32768) && decide (levelsB < 32768)
  | .ppsOutEdge output => decide (output < 4)
  | .canFrameReceive channel msg _ => decide (channel < 24) && canFrameOk msg
  | .canArbitration channel => decide (channel < 24)
  | .canTxComplete channel => decide (channel < 24)
  | .canBusError channel lec _ step => decide (channel < 24) && decide (lec < 8) && (step == 0 || step == 1 || step == 8)
  | .busoffHoldEnd channel => decide (channel < 24)
  | .recover channel => decide (channel < 24)
  | .canRecoveryDone channel => decide (channel < 24)
  | .canIsolate channel _ => decide (channel < 24)
  | .canIsolationEnd channel => decide (channel < 24)
  | .linIsolate channel => decide (channel < 8)
  | .linIsolationEnd channel => decide (channel < 8)
  | .linSlot channel => decide (channel < 8)
  | .linHeaderReceive channel ident _ => decide (channel < 8) && decide (ident < 64)
  | .linFrameReceive channel bytes _ _ => decide (channel < 8) && decide (bytes.length < 10)
  | .linResponseTimeout channel => decide (channel < 8)
  | .switch channel => decide (channel < 8)
  | .wake channel => decide (channel < 8)
  | .shadowClear channel => decide (channel < 32)
  | .weaverUnit => true
  | .pduTimeout pdu => decide (pdu < 4096)
  | .cyclicSend => true
  | .deferredSend => true
  | .send => true
  | .carrierFrameClose carrier => decide (carrier < 512)
  | .wvrPduCommit => true
  | .wvrRouteCommit _ => true
  | .wvrCarrierCommit _ => true
  | .wvrImageWrite word _ => decide (word < 16)
  | .wvrPduStampCapture => true
  | .secSaCommit port _ => decide (port < 10)
  | .txAnApply port => decide (port < 10)
  | .keyLoad => true
  | .keyDerive => true
  | .keyPromote => true
  | .keyErase => true
  | .keyOperationDone => true
  | .cmdKeyAdvance => true
  | .attest => true
  | .certRead => true
  | .lcAdvance adv => startOk adv.env && adv.lost.all (fun k => within k 5 7)
  | .signatureRelease => true
  | .signingKeyReady sigKey => decide (sigKey < 3)
  | .lmsTreeReady sigKey => decide (sigKey < 3)
  | .ledgerSample => true
  | .inputStale input => decide (input < 8)
  | .ledgerPersist => true
  | .periodRecord => true
  | .ledgerSign => true
  | .ledgerRdIndexWrite _ => true
  | .groupIdle group => decide (group < 16)
  | .ringRoundStart => true
  | .consentRspReceive => true
  | .consentRspTimeout => true
  | .forcedSleep group => decide (group < 16)
  | .sleepEntry => true
  | .wakeReqReceive => true
  | .nmWake groups => decide (groups < 65536)
  | .wakeInputFilterPass input => decide (input < 5)
  | .wakeInputStuck input => decide (input < 5)
  | .wakeInputUnmask input => decide (input < 5)
  | .wakeOutPulseEnd => true
  | .gust env => startOk env
  | .groupWake => true
  | .fatalFault code _ => fatalCodes.contains code
  | .pllRelock => true
  | .digestCompare differ => decide (differ < 0x100000000)
  | .scrubVisit find => scrubOk find
  | .temperatureWarning tj => decide (tj < 256)
  | .leeSlot stream => decide (stream < 64)
  | .leeFrameSend entry => decide (entry < 64)
  | .leeExitTimeout env => startOk env
  | .faultInject kind group => decide (kind < 2) && decide (group < 64)
  | .helloSend => true
  | .helloReceive => true
  | .partnerLoss => true
  | .holdInChange => true
  | .claimTimeout => true
  | .claimDeferEnd => true
  | .activeYield => true
  | .holdInMask _ => true
  | .holdInUnmask => true
  | .claim => true
  | .resync => true
  | .rejoinRetry => true
  | .catchUpReceive => true
  | .syncSnapshot => true
  | .syncReceivePair _ _ => true
  | .journalReceive => true
  | .journalAckReceive => true
  | .journalAckTimeout => true
  | .commitReceive => true
  | .commandApplyTime => true
  | .sleepPairReceive => true
  | .wakePairReceive => true
  | .crossingFrameReceive => true
  | .creditSend => true
  | .creditReceive => true
  | .creditResetTimeout voq => decide (voq < 288)
  | .bridgeReqReceive _ tag addr _ _ => decide (tag < 65536) && decide (addr < 0x2000000) && addr % 4 == 0
  | .bridgeRspReceive tag _ cause _ => decide (tag < 65536) && decide (cause < 8)
  | .bridgeRspTimeout => true
  | .commandFrameReceive _ => true
  | .writeCommand _ => true
  | .readResponse _ => true
  | .readStatus => true
  | .readEvent _ => true
  | .commandAccept => true
  | .restart env => startOk env
  | .startForwarding _ => true
  | .imageErase => true
  | .imageWrite => true
  | .imageVerify _ => true
  | .imageActivate env => startOk env
  | .firmwareWrite => true
  | .recordApply => true
  | .ledgerRead => true
  | .ledgerSigRead => true
  | .jrnRead => true
  | .checkpoint => true
  | .checkpointRead => true
  | .frameSend => true
  | .frameRead => true
  | .eventAck => true
  | .regRead => true
  | .regWrite => true
  | .regBurstRead => true
  | .regBurstWrite => true
  | .writeFence => true
  | .farReadComplete _ => true
  | .postedWriteComplete _ => true
  | .bufQlogPop => true
  | .nmLogPop => true
  | .safLogPop => true
  | .brgPwflPop => true
  | .evtPop => true
  | .jrnRdIndexWrite _ => true
  | .handover bank target => decide (bank < 32) && decide (target < 4)
  | .bankDrainDone bank => decide (bank < 32)
  | .bankClearDone bank => decide (bank < 32)
  | .pulse group => decide (group < 128)
  | .hold group => decide (group < 128)
  | .release group => decide (group < 128)
  | .resetPulseEnd => true
  | .aonClockFault => true
  | .wakeFilterCopyFault input => decide (input < 5)
  | .tjWarnRearm tj => decide (tj < 256)
  | .linWakePulseEnd channel => decide (channel < 8)
  | .lineFaultClear => true
  | .replayListExit port => decide (port < 34)

end Sys2Proof
end

