-- ==== Sys2Proof/Safety.lean ====
section
/-!
DEFINITION. What counts as a safe run: the scratchpad keeps its canonical form, and every command that waits is well formed.
With it, the words in which claims say what a command leaves as it was.
-/

namespace Sys2Proof.Machine

/-- The scratchpad is in its canonical form: keys strictly rising, no byte listed that reads as if it were not. -/
def State.MemInv (s : State) : Prop := Memory.wf s.mem = true

/-- Every command that waits is well formed. -/
def State.Ready (s : State) : Prop := ∀ c ∈ s.pending, c.wf = true

/-- A state from which the block can run: both hold. -/
def State.Safe (s : State) : Prop := s.MemInv ∧ s.Ready

/-- Every part of the state outside a list, the queue of commands included, is as it was. -/
def State.Only (s t : State) (l : List Part) : Prop := s.confine l t = t

/-- Every register outside a list of keys reads as it did: the frame of a command that changes registers. -/
def State.RegsBut (s t : State) (l : List Nat) : Prop := ∀ k, k ∉ l → t.reg k = s.reg k

/-- Every counter outside a list reads as it did. -/
def State.CntsBut (s t : State) (l : List Nat) : Prop := ∀ a, a ∉ l → t.cnt a = s.cnt a

/-- The registers that an event or a journal entry may change: the flag of a full event queue, the journal's head, its checkpoint
and SIGN_WAIT (spec/16, R473, R474, R477). -/
def journalKeys : List Nat := [K.MGT_CFG, K.JRN_STATUS, K.JRN_HEAD_LO, K.JRN_HEAD_HI, K.JRN_CP_LO, K.JRN_CP_HI]

/-- The counters of events: raised, and lost (spec/16, R473). -/
def eventCounters : List Nat := [C.mgt 7, C.mgt 8]

/-- Every byte of the scratchpad reads as it did. -/
def State.MemSame (s t : State) : Prop := ∀ a, t.readByte a = s.readByte a

/-! ## Words of the claims -/

/-- SPEED_MISMATCH of a B port whose PHY reports a speed in Mb/s, 0 for none (spec/03, R74). -/
def State.mismatchWith (s : State) (p speed : Nat) : Bool :=
  let v := usxSpeed (s.fld (F.MAC_CFG_MODE p))
  v != 0 && speed != 0 && speed != v

/-- LINK_UP as the inputs of a link make it (spec/03, R74, R86). -/
def State.upWith (s : State) (p : Nat) (phyUp lock usx : Bool) (speed : Nat) : Bool :=
  s.flag (F.MAC_CFG_EN p) && !s.portHeld p &&
    (if p < 8 then s.phyLink p && lock && (usxSpeed (s.fld (F.MAC_CFG_MODE p)) == 0 || (usx && !s.mismatchWith p speed))
    else if p < 10 then lock else phyUp)

/-- The walk of the first pass over a frame whose bytes still arrive (spec/04). -/
def State.walkFirst (s : State) (h : Nat) (f : Frame) (i : PassInfo) : Walk :=
  ((s.setFrame h f).setInfo h i).walkPass f i false f.endKnown

/-- No edge channel's receive FIFO holds a frame (spec/08, R240). -/
abbrev State.fifosEmpty (s : State) : Prop :=
  s.edge.can.all (fun c => c.2.fifo.isEmpty) = true ∧ s.edge.lin.all (fun c => c.2.fifo.isEmpty) = true

/-- The Syncs that are kept: their Follow_Up is still to be received, or to be sent on a port (spec/07, R216, R217). -/
def keptSyncs (l : List SyncSt) : List SyncSt := l.filter (fun st => st.origin.isNone || !st.ports.isEmpty)

/-- The register access of a command stepped no counter: only the pulse outputs may have followed the time. -/
def State.TimeKept (s t : State) : Prop := t.time = { s.time with stepped := false, ppsOut := t.time.ppsOut }

/-- The one message that answers a command on MGT_SPI with a whole result (spec/16, R457). -/
def State.spiAnswer (s : State) (c : Cmd) (status : Nat) (data : List Byte) : List Byte :=
  message (s.cmdKeyOf c.origin c.gen) 0xC1 c.origin c.seq c.opcode (rspBody status 0 1 c.jseq data)

/-- A command ended: the journal has a new COMPLETION entry with the JSEQ of its COMMAND entry and its status (spec/16, R475). -/
def State.completed (s t : State) (c : Cmd) (status : Nat) : Prop :=
  ∃ e, e ∈ t.mgt.jrn ∧ s.nextJseq ≤ e.jseq ∧ beAt e.body 8 1 = 3 ∧ beAt e.body 28 8 = c.jseq ∧ beAt e.body 36 2 = status

end Sys2Proof.Machine

namespace Sys2Proof

/-! ## Words of the claims over all commands -/

/-- The commands that can bring the unit to a reset or a start: the cycle counter begins again. -/
def Instr.startsUnit : Instr → Bool
  | .powerUpAon | .porstAssert | .supplyMonitorTrip .. | .coldStart .. | .lcAdvance .. | .sleepEntry | .gust ..
  | .leeExitTimeout .. | .restart .. => true
  | _ => false

/-- The commands that can write the scratchpad: resets and starts, register writes of the register bridge, and the clearing of
a bank. -/
def Instr.writesScratchpad : Instr → Bool
  | .bridgeReqReceive .. | .bridgeRspReceive .. | .bridgeRspTimeout | .regWrite | .regBurstWrite | .farReadComplete ..
  | .postedWriteComplete .. | .bankClearDone .. => true
  | c => c.startsUnit

/-- The commands that can change what the unit stores over a start: images, firmware copies, the retained copy. -/
def Instr.writesStored : Instr → Bool
  | .supervisorHoldTimeout .. | .retainedCopyDone | .startForwarding .. | .imageErase | .imageWrite | .imageActivate ..
  | .firmwareWrite | .recordApply => true
  | c => c.startsUnit

/-- The commands whose occasion does not need the switched domains to run (log entry 31). -/
def Instr.needsNoStart : Instr → Bool
  | .powerUpAon | .porstAssert | .supplyMonitorTrip .. | .coldStart .. | .supervisorHoldTimeout .. | .retainedCopyDone
  | .wakeInputFilterPass .. | .wakeInputStuck .. | .wakeInputUnmask .. | .wakeOutPulseEnd | .gust .. => true
  | _ => false

end Sys2Proof
end

