-- ==== Sys2Proof/Certificates/Slice0/Obligations.lean ====
section
/-!
DEFINITION. The statements for the provers: what the commands of the block do, what they leave, and what a step keeps. Each
docstring names the rules of spec/ behind it and, where a clause rests on a choice of the model, the entry of the assumption log.
-/

open Sys2Proof Sys2Proof.Machine

/-- A step runs the command at the front of the queue. The queue is the model's own frame around the commands of the table
(log entry 64). -/
def Obligations.StepRunsTheFrontCommand : Prop :=
  ∀ (s : State) (c : Instr) (rest : List Instr), s.pending = c :: rest → step s = exec c { s with pending := rest }

/-- On an empty queue the clock goes on. That an empty queue lets the clock run is the model's choice (log entry 1); the
advance of the counter follows R207. -/
def Obligations.EmptyQueueLetsTheClockRun : Prop :=
  ∀ s : State, s.pending = [] →
    ∃ t, step s = .next t ∧ t.aon = s.aon + 1 ∧
      s.Only t [.regs, .cnts, .aon, .cycle, .data, .ports, .time, .mgt, .edge, .wvr, .key, .saf, .out] ∧
      (s.powered = false → t = { s with aon := s.aon + 1 }) ∧
      (s.powered = true → t.cycle = s.cycle + 1) ∧
      (s.powered = true → s.saf.mode = .normal → t.saf = s.saf ∧
        t.time = { s.time with now := t.time.now, ppsOut := t.time.ppsOut } ∧
        (t.time.now : Int) = ((s.time.now : Int) + 2 * (fracPerNs : Int) + s.rateAdj) % (timeMod : Int)) ∧
      (s.powered = true → s.saf.mode ≠ .normal → t.time = { s.time with ppsOut := t.time.ppsOut })

/-- What reset leaves. Each value is the Reset column of the register's table; that an unwritten byte of the scratchpad
reads as 0 is the model's choice (log entry 7). -/
def Obligations.ResetLeavesTheStatedValues : Prop :=
  State.reset.Safe ∧ State.reset.pending = [] ∧ (∀ a, State.reset.readByte a = 0) ∧ (∀ a, State.reset.cnt a = 0) ∧
    (∀ a, State.reset.capture a = 0) ∧
    ∀ x ∈ [(K.GLB_ID, (0x9210A102 : Word)), (K.MAC_CFG 0, 0), (K.MAC_CFG 8, 0x00400000), (K.MAC_CFG 25, 0x00800000),
        (K.MAC_CFG 33, 0x00C00000), (K.MAC_CFG 34, 0x00F00001), (K.MAC_FRAME 33, 1530), (K.MAC_FRAME 34, 9216),
        (K.MERGE_CFG 25, 0x1400), (K.MDIO_CFG 1, 0x131), (K.FDB_CFG, 300), (K.PORT_PCP 34, 0x00FAC688),
        (K.QUE_WIN_CFG 279, 131072), (K.GATE_ADMIN_CYCLE 33, 1000000), (K.GATE_ADMIN_LEN 33, 1), (K.SERVO_KP, 8796),
        (K.SERVO_SLEW, 439804651), (K.CAN_LIMITS 23, 0x01000000), (K.LIN_BAUD 7, 2083), (K.WVR_CAR_CFG0 511, 1530),
        (K.ZONE_PAIR 0, 0x80000000), (K.ZONE_PAIR 1, 0), (K.ZONE_PAIR 255, 0x80000000), (K.LDG_CFG, 0x03C0C800),
        (K.NM_CFG, 0x07D0200A), (K.NM_TIMING, 0x03E80500), (K.SAF_CFG, 0x13887830), (K.PAIR_TIMING, 0x006400C8),
        (K.MGT_ORIGIN_EN 1, 0xFFFFFFFF), (K.BANK_OWNER 31, 1), (K.BANK_STATUS, 0x00FFFFFF)],
      State.reset.reg x.1 = x.2

/-- Every well-formed command ends in a next state, every other changes nothing. That an operand that names nothing the device has
changes nothing is the model's choice (log entry 6). -/
def Obligations.CommandsEndAsTheirOperandsSay : Prop :=
  ∀ (c : Instr) (s : State),
    (c.wf = true → ∃ t, exec c s = .next t ∧ t.pending = s.pending) ∧
    (c.wf = false → exec c s = .next s)

/-- What commands leave alone. The lists stand in Sys2Proof/Safety.lean: resets and starts, the register bridge, the
clearing of a bank (R486, R488), the commands on stored images. -/
def Obligations.CommandsLeaveWhatIsNotTheirs : Prop :=
  ∀ (c : Instr) (s t : State), exec c s = .next t →
    t.pending = s.pending ∧ (c.writesScratchpad = false → t.mem = s.mem) ∧ (c.writesStored = false → t.boot = s.boot) ∧
      (c ≠ .powerUpAon → t.aon = s.aon) ∧ (c.startsUnit = false → t.cycle = s.cycle)

/-- A unit held in reset heeds only its pins. R67, R534; that a command whose occasion is not there changes nothing is the
model's choice (log entry 31). -/
def Obligations.StoppedUnitHeedsOnlyItsPins : Prop :=
  ∀ (c : Instr) (s : State), s.boot.held = true → s.running = false → c.wf = true → c.needsNoStart = false →
    exec c s = .next s

/-- A queue of well-formed commands runs to its end. The queue is the model's own frame around the commands (log entry 64).
-/
def Obligations.QueueRunsToItsEnd : Prop :=
  ∀ s : State, s.Ready → ∃ t, core.run s.pending.length s = .next t ∧ State.pending t = []

/-- Every step keeps the block safe. Over all 227 commands and over an idle step; that the invariant holds at reset is
ResetLeavesTheStatedValues. -/
def Obligations.StepKeepsSafe : Prop :=
  ∀ s t : State, s.Safe → step s = .next t → t.Safe

/-- Register writes follow their access code, clears zero their counters. R7 on GLB_SCRATCH, GLB_ID and CLS_STATUS; R95 and
the clears of the other counter blocks. -/
def Obligations.RegisterWritesAndClears : Prop :=
  (∀ (s : State) (mask value : Word), s.mcRuns = true →
     (∃ t, exec (.registerWrite K.GLB_SCRATCH mask value) s = .next t ∧
       t.reg K.GLB_SCRATCH = (s.reg K.GLB_SCRATCH &&& ~~~ mask) ||| (value &&& mask) ∧
       s.RegsBut t [K.GLB_SCRATCH] ∧ s.Only t [.regs, .time, .out] ∧ (mask ≠ 0 → s.TimeKept t)) ∧
     (∃ t, exec (.registerWrite K.GLB_ID mask value) s = .next t ∧
       s.RegsBut t [] ∧ s.Only t [.regs, .time, .out] ∧ (mask ≠ 0 → s.TimeKept t)) ∧
     (∃ t, exec (.registerWrite K.CLS_STATUS mask value) s = .next t ∧
       t.reg K.CLS_STATUS = s.reg K.CLS_STATUS &&& ~~~ (mask &&& value &&& 3) ∧
       s.RegsBut t [K.CLS_STATUS] ∧ s.Only t [.regs, .time, .out] ∧ (mask ≠ 0 → s.TimeKept t))) ∧
  (∀ (s : State) (addr : Nat), isCntCtrl addr = true → s.busRuns addr = true →
     ∃ t, exec (.clear addr) s = .next t ∧ s.Only t [.cnts] ∧
       (∀ r k, r ∈ clearRanges addr → k < r.2 → t.cnt (r.1 + 8 * k) = 0) ∧
       (∀ a, (∀ r ∈ clearRanges addr, a < r.1 ∨ r.1 + 8 * r.2 ≤ a) → t.cnt a = s.cnt a) ∧
       (∀ p, p < 35 → addr = 0x40040 + 0x1000 * p → clearRanges addr = [(C.mac p 0, 16)]))

/-- Snapshot pairs are read and written whole. R9; the write on MGT_EVT_MAC, whose high half has 16 bits. -/
def Obligations.SnapshotPairsAreWhole : Prop :=
  (∀ (s : State) (addr : Nat), isLo addr = true → s.busRuns addr = true →
     ∃ t, exec (.snapshotLoRead addr) s = .next t ∧ t.busData = (s.pairAt addr).setWidth 32 ∧
       t.capture addr = s.pairAt addr ∧ (∀ a, a ≠ addr → t.capture a = s.capture a) ∧ s.Only t [.caps, .busData]) ∧
  (∀ (s : State) (lo hi : Word), s.mcRuns = true →
     (∃ t, exec (.snapshotLoWrite K.MGT_EVT_MAC_LO lo) s = .next t ∧ t.regs = s.regs ∧
       mapGet (fun _ => none) t.heldLo K.MGT_EVT_MAC_LO = some lo ∧
       s.Only t [.heldLo, .time, .out] ∧ s.TimeKept t) ∧
     (∃ t, exec (.snapshotHiWrite K.MGT_EVT_MAC_HI hi) s = .next t ∧
       t.reg K.MGT_EVT_MAC_HI = (s.reg K.MGT_EVT_MAC_HI &&& ~~~ (0xFFFF : Word)) ||| (hi &&& 0xFFFF) ∧
       t.reg K.MGT_EVT_MAC_LO = (mapGet (fun _ => none) s.heldLo K.MGT_EVT_MAC_LO).getD (s.reg K.MGT_EVT_MAC_LO) ∧
       mapGet (fun _ => none) t.heldLo K.MGT_EVT_MAC_LO = none ∧ s.RegsBut t [K.MGT_EVT_MAC_LO, K.MGT_EVT_MAC_HI] ∧
       s.Only t [.regs, .heldLo, .time, .out] ∧ s.TimeKept t))

/-- Held words of a VLAN or group entry take effect with its last word. R169: in the entry selected then. A masked write of a held
word merges with the word already held (log entry 50). -/
def Obligations.HeldWordsTakeEffectTogether : Prop :=
  (∀ (s : State) (mask value : Word), s.mcRuns = true → mask ≠ 0 →
     ∀ x ∈ [(0xC0040, K.VLAN_WIN_DATA0, s.fld F.VLAN_WIN_INDEX_VID, (0xFFFF0000 : Word)),
         (0xC0044, K.VLAN_WIN_DATA1, s.fld F.VLAN_WIN_INDEX_VID, 0xFFFFFFFF),
         (0xC0048, K.VLAN_WIN_DATA2, s.fld F.VLAN_WIN_INDEX_VID, 0x80070007),
         (0xC0054, K.MCG_WIN_DATA0, s.fld F.MCG_WIN_INDEX_INDEX, 0xFFFFFFFF)],
       ∃ t, exec (.heldRegisterWrite x.1 mask value) s = .next t ∧ t.regs = s.regs ∧
         t.heldWord (x.2.1 0) =
           some (maskWord ((s.heldWord (x.2.1 0)).getD (s.reg (x.2.1 x.2.2.1))) (mask &&& x.2.2.2) value) ∧
         (∀ k, k ≠ x.2.1 0 → t.heldWord k = s.heldWord k) ∧
         s.Only t [.held, .time, .out] ∧ s.TimeKept t) ∧
  (∀ (s : State) (mask value : Word), s.mcRuns = true →
     (let v := s.fld F.VLAN_WIN_INDEX_VID
      ∃ t, exec (.vlanEntryCommit mask value) s = .next t ∧
       (∀ k ∈ [K.VLAN_WIN_DATA0, K.VLAN_WIN_DATA1, K.VLAN_WIN_DATA2],
         t.reg (k v) = (s.heldWord (k 0)).getD (s.reg (k v)) ∧ t.heldWord (k 0) = none) ∧
       t.reg (K.VLAN_WIN_DATA3 v) = maskWord (s.reg (K.VLAN_WIN_DATA3 v)) mask value ∧
       s.RegsBut t [K.VLAN_WIN_DATA0 v, K.VLAN_WIN_DATA1 v, K.VLAN_WIN_DATA2 v, K.VLAN_WIN_DATA3 v] ∧
         s.Only t [.regs, .held]) ∧
     (let g := s.fld F.MCG_WIN_INDEX_INDEX
      ∃ t, exec (.mcgEntryCommit mask value) s = .next t ∧
       t.reg (K.MCG_WIN_DATA0 g) = (s.heldWord (K.MCG_WIN_DATA0 0)).getD (s.reg (K.MCG_WIN_DATA0 g)) ∧
       t.heldWord (K.MCG_WIN_DATA0 0) = none ∧
       t.reg (K.MCG_WIN_DATA1 g) = maskWord (s.reg (K.MCG_WIN_DATA1 g)) (mask &&& 0x80000007) value ∧
       s.RegsBut t [K.MCG_WIN_DATA0 g, K.MCG_WIN_DATA1 g] ∧ s.Only t [.regs, .held]))

/-- A power-on reset stops the unit. R67, R522, R534, R540; rails are numbered as R522 lists them (log entry 32). -/
def Obligations.PowerOnResetStopsTheUnit : Prop :=
  ∀ s : State,
    (∃ t, exec .porstAssert s = .next t ∧ t.boot.held = true ∧ t.mem = [] ∧ t.cnts = [] ∧ t.data = DataSt.reset ∧
      t.ports = PortSt.reset ∧ t.edge = EdgeSt.reset ∧ t.wvr = WvrSt.reset ∧ t.time = TimeSt.reset ∧ t.saf.mode = .normal ∧
      t.aon = s.aon ∧ t.pending = s.pending) ∧
    (∃ t, exec .powerUpAon s = .next t ∧ t.boot.held = true ∧ t.aon = 0 ∧ t.nm = NmSt.reset ∧
      t.out.head? = some (.pin 1 true) ∧
      t.mem = [] ∧ t.pending = s.pending) ∧
    (∀ rail, rail < 10 → (s.nm.calm = false ∨ rail = 7) →
      ∃ t, exec (.supplyMonitorTrip rail true) s = .next t ∧ exec .porstAssert s = .next t ∧ t.boot.held = true)

/-- Every start begins from a blank state. R56, R60, R61, R67, R374, R406; a start is one command (log entry 54). -/
def Obligations.StartsBeginFromABlankState : Prop :=
  ∀ (s : State) (env : StartEnv), startOk env = true →
    (s.boot.held = true → ∃ t, exec (.coldStart env) s = .next t ∧ t.mem = [] ∧ t.caps = [] ∧ t.safLog = [] ∧ t.cycle = 0 ∧
      t.aon = s.aon ∧ t.busData = s.busData ∧ t.pending = s.pending) ∧
    (∀ cause, s.nm.latched = some cause → s.nm.calm = true → s.boot.held = false →
      ∃ t, exec (.gust env) s = .next t ∧ t.mem = [] ∧ t.caps = [] ∧ t.safLog = [] ∧ t.cycle = 0 ∧ t.aon = s.aon ∧
      t.pending = s.pending) ∧
    (∀ c rest, s.mgt.execQ = c :: rest → c.opcode = 0x10 → s.mcRuns = true →
      ∃ t, exec (.restart env) s = .next t ∧ t.mem = [] ∧ t.caps = [] ∧ t.safLog = [] ∧ t.cycle = 0 ∧ t.aon = s.aon ∧
      t.pending = s.pending) ∧
    (s.powered = true → s.saf.mode ≠ .normal → s.fld F.SAF_CFG_EXIT_MS ≠ 0 → s.flag F.SAF_STATUS_NO_CLOCK = false →
      s.fld F.SAF_STATUS_EXITS < s.fld F.SAF_CFG_EXIT_LIMIT → s.fld F.BOOT_STATUS_STATE ≠ 0xE →
      s.saf.enterAt + s.fld F.SAF_CFG_EXIT_MS * aonPerMs ≤ s.aon →
      ∃ t, exec (.leeExitTimeout env) s = .next t ∧ t.mem = [] ∧ t.caps = [] ∧ t.safLog = [] ∧ t.cycle = 0 ∧ t.aon = s.aon ∧
      t.pending = s.pending)

/-- HOLD ends in forwarding, the retained copy in its seal. R58 and R51. -/
def Obligations.StartsEndInForwarding : Prop :=
  (∀ (s : State) (us : Nat), s.fld F.BOOT_STATUS_STATE = 0xA → s.powered = true → s.saf.mode = .normal →
    s.fld F.PAIR_CFG_MODE = 0 →
     (∃ t, exec (.supervisorHoldTimeout us) s = .next t ∧ t.fld F.BOOT_STATUS_STATE = 0xB ∧ s.MemSame t ∧
       t.pending = s.pending) ∧
     (∀ c rest, s.mgt.execQ = c :: rest → c.opcode = 0x11 →
       ∃ t, exec (.startForwarding us) s = .next t ∧ t.fld F.BOOT_STATUS_STATE = 0xB ∧ s.MemSame t ∧ t.pending = s.pending)) ∧
  (∀ (s : State) (b : List Byte) (x : Seal), s.boot.copying = some (b, x) → s.powered = true →
     ∃ t, exec .retainedCopyDone s = .next t ∧ t.boot.retained = b ∧ t.boot.sealOf = some x ∧ t.boot.copying = none ∧
       t.flag F.BOOT_STATUS_RETAINED_VALID = true ∧ s.RegsBut t [K.BOOT_STATUS] ∧ s.Only t [.regs, .boot])

/-- A received frame is judged by R76. R76, R95, R161; the port has no receive MACsec, and no frame is in reception when the frame
begins. A frame that meets several rows of R76 is counted under the first (log entry 67). -/
def Obligations.ReceptionIsJudged : Prop :=
  (∀ (s : State) (p : Nat) (bytes : List Byte), p < 34 → s.powered = true → s.flag (F.MAC_STATUS_LINK_UP p) = true →
     s.rxAt (2 * p) = none → (10 ≤ p ∨ s.flag (F.SEC_CFG_RX_EN p) = false) →
     ∃ t, exec (.frameReceive p .express bytes .ended) s = .next t ∧
       s.Only t [.regs, .cnts, .fresh, .bufLog, .nmLog, .data, .ports, .mgt, .edge, .nm, .twin, .key, .saf, .out] ∧
       t.rxAt (2 * p) = none ∧
       t.cnt (C.mac p 0) = s.cnt (C.mac p 0) + BitVec.ofNat 64 bytes.length ∧
       (let row := if bytes.length < 64 then 4 else if s.fld (F.MAC_FRAME_MAX_FRAME p) < bytes.length then 5
          else if fcsGood bytes = false then 3 else if beAt bytes 12 2 = 0x8808 then 6 else 1
        (∀ j, j < 16 → 4 ≤ j → t.cnt (C.mac p j) = s.cnt (C.mac p j) + (if j = row then 1 else 0)) ∧
        t.cnt (C.mac p 3) = s.cnt (C.mac p 3) + (if row = 3 ∨ fcsStomped bytes = true then 1 else 0) ∧
        (row ≠ 1 ∨ s.running = false → t.cnt (C.mac p 1) = s.cnt (C.mac p 1) ∧ t.cnt (C.mac p 2) = s.cnt (C.mac p 2)) ∧
        (row = 1 → s.running = true → bytes.length ≤ 128 → (s.grantCell none).isSome = true →
          t.cnt (C.mac p 1) = s.cnt (C.mac p 1) + 1 ∧
          t.cnt (C.mac p 2) = s.cnt (C.mac p 2) + (if (beAt bytes 0 1).testBit 0 then 1 else 0)))) ∧
  (∀ (s : State) (p : Nat) (kind : MPacket) (bytes : List Byte), rxForm p kind = true → s.powered = true →
     s.flag (F.MAC_STATUS_LINK_UP p) = true →
     (∃ t, exec (.frameReceive p kind bytes .smdErr) s = .next t ∧ t.cnt (C.mac p 8) = s.cnt (C.mac p 8) + 1 ∧
       s.CntsBut t [C.mac p 8] ∧ s.Only t [.cnts]) ∧
     (∀ count frag, kind = .cont count frag → s.rxAt (2 * p + 1) = none →
       ∃ t, exec (.frameReceive p kind bytes .ended) s = .next t ∧ t.cnt (C.mac p 7) = s.cnt (C.mac p 7) + 1 ∧
         t.cnt (C.mac p 9) = s.cnt (C.mac p 9) + 1 ∧ s.CntsBut t [C.mac p 7, C.mac p 9] ∧ s.Only t [.cnts]))

/-- Learning inserts in order, ageing removes entries not hit. R144 and R145; an ageing pass is one instant (log entry 16). An entry
that a command wrote in the same cycle is left to the command (R36, R37). -/
def Obligations.LearningAndAgeing : Prop :=
  (∀ (s : State) (r : LearnReq) (rest : List LearnReq), s.running = true → s.data.learnQ = r :: rest →
     (∀ i, s.learnEntry r = some i → s.fdbTaken i = true → exec .learn s = .next s) ∧
     ((∀ i, s.learnEntry r = some i → s.fdbTaken i = false) →
      ∃ t, exec .learn s = .next t ∧ t.data.learnQ = rest ∧ s.Only t [.cnts, .data] ∧
       (∀ i old, s.fdbFind r.fid r.mac = some (i, old) → old.static = true → t.data.fdb = s.data.fdb ∧ t.cnts = s.cnts) ∧
       (∀ i old, s.fdbFind r.fid r.mac = some (i, old) → old.static = false →
         t.fdbAt i = some ⟨r.fid, r.mac, false, true, r.kind, r.dest⟩ ∧ (∀ j, j ≠ i → t.fdbAt j = s.fdbAt j) ∧
           t.cnts = s.cnts) ∧
       (∀ i, s.fdbFind r.fid r.mac = none → s.fdbFree r.fid r.mac = some i →
         t.fdbAt i = some ⟨r.fid, r.mac, false, true, r.kind, r.dest⟩ ∧ (∀ j, j ≠ i → t.fdbAt j = s.fdbAt j) ∧
           t.cnts = s.cnts) ∧
       (s.fdbFind r.fid r.mac = none → s.fdbFree r.fid r.mac = none →
         t.data.fdb = s.data.fdb ∧ t.cnt (C.buf 9) = s.cnt (C.buf 9) + 1 ∧ s.CntsBut t [C.buf 9]))) ∧
  (∀ s : State, s.running = true → s.fld F.FDB_CFG_AGE_S ≠ 0 →
     ∃ t, exec .ageingPass s = .next t ∧ s.Only t [.data] ∧ t.data = { s.data with fdb := t.data.fdb } ∧
       ∀ i e, (i, some e) ∈ t.data.fdb ↔
         ((e.static = true ∨ s.fdbTaken i = true) ∧ (i, some e) ∈ s.data.fdb) ∨
         (e.static = false ∧ s.fdbTaken i = false ∧ e.hit = false ∧ (i, some { e with hit := true }) ∈ s.data.fdb))

/-- A change of a link is shown. R74, R86, R79, R160. -/
def Obligations.LinkChangeIsShown : Prop :=
  ∀ (s : State) (p : Nat) (phyUp lock usx : Bool) (speed : Nat), p < 34 → s.powered = true →
    ∃ t, exec (.linkChange p phyUp lock ⟨usx, speed⟩) s = .next t ∧
      t.flag (F.MAC_STATUS_LOCK p) = lock ∧
      (p < 8 → t.flag (F.MAC_STATUS_SPEED_MISMATCH p) = s.mismatchWith p speed) ∧
      t.flag (F.MAC_STATUS_LINK_UP p) = State.upWith s p phyUp lock usx speed ∧
      (s.flag (F.MAC_STATUS_LINK_UP p) ≠ State.upWith s p phyUp lock usx speed → t.flag (F.MAC_STATUS_LINK_CHANGED p) = true) ∧
      (s.flag (F.MAC_STATUS_LINK_UP p) = State.upWith s p phyUp lock usx speed →
        t.flag (F.MAC_STATUS_LINK_CHANGED p) = s.flag (F.MAC_STATUS_LINK_CHANGED p) ∧ s.RegsBut t [K.MAC_STATUS p] ∧
        s.Only t [.regs, .ports]) ∧
      (s.flag (F.MAC_STATUS_LINK_UP p) = true → State.upWith s p phyUp lock usx speed = false →
        t.txAt (2 * p) = none ∧ t.txAt (2 * p + 1) = none ∧ t.rxAt (2 * p) = none ∧ t.rxAt (2 * p + 1) = none)

/-- Egress starts the chosen copy and its end releases it. R136, R187 to R190, R81, R425; on an S port that coordinates PLCA within
its transmit opportunity (R89). -/
def Obligations.EgressStartsAndEnds : Prop :=
  (∀ (s u : State) (p sent : Nat), p < 35 → s.running = true → s.portUp p = true →
     (u = (s.cleanHeads p).showReady p false → u.txAt (2 * p) = none → u.txAt (2 * p + 1) = none → s.twin.replaying = false →
       u.plcaOpen p = true →
       ∀ n c rest, (u.cleanHeads p).choose p ((u.cleanHeads p).ready p false) = some n →
         (u.cleanHeads p).queue (8 * p + n) = c :: rest → c.frame = none → c.launch = none →
         c.own.length + 4 ≤ s.fld (F.MAC_FRAME_MAX_FRAME p) → c.cross = none → (10 ≤ p ∨ s.flag (F.SEC_CFG_TX_EN p) = false) →
         ∃ t x, exec (.egressSelection p .express sent .none) s = .next t ∧
           s.Only t [.regs, .cnts, .fresh, .bufLog, .safLog, .data, .ports, .time, .mgt, .twin, .key] ∧ t.txAt (2 * p) = some x ∧
           x.copy = c ∧
           x.queue = 8 * p + n ∧ x.waiting = false ∧ x.stomp = false ∧ t.queue (8 * p + n) = rest ∧
           t.txAt (2 * p + 1) = none) ∧
     (u = (s.cleanHeads p).showReady p true → p < 26 → u.txAt (2 * p) = none → u.expressReady p = false →
       u.flag (F.GATE_STATUS_HOLD_ACTIVE p) = false → ∀ x, u.txAt (2 * p + 1) = some x → x.waiting = true →
       ∃ t, exec (.egressSelection p .preemptable sent .none) s = .next t ∧
         s.Only t [.regs, .cnts, .fresh, .bufLog, .safLog, .data, .ports, .time, .mgt, .twin, .key] ∧
         t.txAt (2 * p + 1) = some { x with waiting := false } ∧ t.txAt (2 * p) = none ∧ t.data.queues = u.data.queues)) ∧
  (∀ (s : State) (p : Nat) (mac : MacSel) (tx : Tx), p < 34 → txForm p mac = true → s.running = true → s.powered = true →
     s.txAt (2 * p + (match mac with
       | .express => 0
       | .preemptable => 1)) = some tx → s.txCanEnd p tx = true → tx.cutThrough = false →
     (tx.held = true → ∃ t, exec (.transmitEnd p mac .none) s = .next t ∧
       t.txAt (2 * p + (match mac with
         | .express => 0
         | .preemptable => 1)) = none ∧
       t.replayList p = s.replayList p ++ [(tx.queue, tx.copy)] ∧ t.cnt (C.pair 3) = s.cnt (C.pair 3) + 1 ∧
       s.CntsBut t [C.pair 3] ∧ s.Only t [.regs, .cnts, .ports, .twin]) ∧
     (tx.held = false → tx.stomp = false → (∀ h f, tx.copy.frame = some h → s.frame h = some f → f.bad = false) →
       ∃ t, exec (.transmitEnd p mac .none) s = .next t ∧
         s.Only t [.regs, .cnts, .fresh, .bufLog, .safLog, .data, .ports, .time, .mgt, .twin, .key, .out] ∧
         t.txAt (2 * p + (match mac with
           | .express => 0
           | .preemptable => 1)) = none ∧
         t.out = .frame p (s.wireBytes p tx false) true :: s.out ∧
         t.cnt (C.mac p 10) = s.cnt (C.mac p 10) + BitVec.ofNat 64 (s.wireBytes p tx false).length ∧
         t.cnt (C.mac p 11) = s.cnt (C.mac p 11) + 1))

/-- Sweep, quarantine and audit keep the queues clean. R158, R163, R164. -/
def Obligations.QueuesAreKeptClean : Prop :=
  (∀ s : State, s.running = true →
     ∃ t, exec .queueAgeSweep s = .next t ∧ s.Only t [.regs, .cnts, .bufLog, .data, .mgt, .key] ∧
       (∀ q, (s.qs q).quar = false → ∃ n, t.queue q = (s.queue q).drop n) ∧
       (∀ q c rest, (s.qs q).quar = false → t.queue q = c :: rest → s.aged q c = false) ∧
       (∀ q, (s.qs q).quar = true → t.queue q = s.queue q)) ∧
  (∀ (s : State) (q : Nat), q < 568 → s.running = true → (s.qs q).quar = true →
     ∃ t, exec (.quarantineEnd q) s = .next t ∧ s.Only t [.regs, .cnts, .bufLog, .data, .mgt, .key] ∧ t.queue q = [] ∧
       (t.qs q).quar = false ∧
       (∀ r, r ≠ q → t.queue r = s.queue r ∧ t.qs r = s.qs r)) ∧
  (∀ (s : State) (dirty : List Nat), dirty.all (fun k => decide (k < cellCount)) = true → s.running = true →
     (∃ t, exec (.bufferAudit dirty) s = .next t ∧ s.Only t [.regs, .cnts, .bufLog, .data, .mgt, .key] ∧ t.data.audit = true ∧
       (∀ k c, s.data.cells.filter (fun x => x.1 == k) = [(k, c)] →
         (c.state = .quarantined → c.map = false → c.strike = false → k ∉ dirty →
           t.cell k = { Cell.fresh with strike := true }) ∧
         (c.state = .quarantined → c.map = false → (c.strike = true ∨ k ∈ dirty) → t.cell k = c) ∧
         (c.state = .inChain → (∀ f, s.frame c.head = some f → f.live = false) →
           t.cell k = { Cell.fresh with strike := c.strike }) ∧
         (c.state = .free → c.map = false → t.cell k = { c with map := true }))) ∧
     (s.data.audit = true → s.tally ≠ s.freeCells → s.fld F.BUF_AUDIT_QUAR_CELLS ≤ s.fld F.BUF_CFG_QUAR_LIMIT →
       ∃ t, exec .auditEnd s = .next t ∧
         s.Only t [.regs, .cnts, .safLog, .data, .ports, .mgt, .edge, .twin, .key, .saf, .out] ∧ t.data.audit = false ∧
         t.fld F.BUF_STATUS_FREE_CELLS = s.tally ∧
         t.flag F.BUF_AUDIT_COUNT_FIXED = true))

/-- A pass follows the verdict of the classifier. R28, R30, R107, R119 to R121; the lookup slot goes to a second pass that
may start, then
by R36. -/
def Obligations.PassesFollowTheVerdict : Prop :=
  (∀ (s : State) (h : Nat) (f : Frame) (i : PassInfo) (w : Walk), s.running = true →
     s.passFirst = some h → s.secondDue = none → s.nextLane = none → s.frame h = some f → f.ended = false → f.written = false →
       f.bad = false →
     i = { s.info h with zone := s.portZone (min f.port 34), metaByte := 0, acf := false } → i.inj = none →
     w = State.walkFirst s h f i → w.status = .ok →
     s.special f (((s.setFrame h f).setInfo h i).frameView h) w = (none, false) →
     (s.tcamLookup w.key (s.fld F.CLS_GEN_ACTIVE) = none → s.fld (F.PRS_PORT_DEFAULT_NOMATCH (min f.port 34)) = 0 →
       ∃ t, exec .pipelinePass s = .next t ∧ t.data.waiting = s.data.waiting.erase h ∧ t.data.queues = s.data.queues ∧
         (∃ g, t.frame h = some g ∧ g.stage = .passed ∧ g.gen = s.fld F.CLS_GEN_ACTIVE) ∧
         t.cnt (C.cls 3) = s.cnt (C.cls 3) + 1 ∧ s.CntsBut t [C.cls 3] ∧ s.Only t [.cnts, .data]) ∧
     (∀ e, s.tcamLookup w.key (s.fld F.CLS_GEN_ACTIVE) = some e → s.actInvalid (wordsNat (s.tcamAt e).act) w = false →
       A.disposition (wordsNat (s.tcamAt e).act) = 6 →
       ∃ t, exec .pipelinePass s = .next t ∧ s.Only t [.regs, .cnts, .bufLog, .data, .ports, .mgt, .wvr, .twin, .key] ∧
         t.data.waiting = s.data.waiting.erase h ∧ t.data.queues = s.data.queues ∧
         (t.tcamAt e).hit = (s.tcamAt e).hit + 1 ∧
         (s.data.recirc.length < 64 → t.data.recirc = s.data.recirc ++ [h] ∧
           (∃ g, t.frame h = some g ∧ g.stage = .second ∧ g.gen = s.fld F.CLS_GEN_ACTIVE) ∧ t.cnts = s.cnts) ∧
         (64 ≤ s.data.recirc.length → t.data.recirc = s.data.recirc ∧ t.cnt (C.cls 8) = s.cnt (C.cls 8) + 1 ∧
           s.CntsBut t [C.cls 8] ∧ (∃ g, t.frame h = some g ∧ g.stage = .passed)))) ∧
  (∀ (s : State) (h : Nat) (rest : List Nat) (f : Frame) (w : Walk), s.running = true →
     s.data.recirc = h :: rest → (s.info h).secondAt ≤ s.cycle → s.frame h = some f → f.written = false →
     w = s.walkPass f (s.info h) true f.endKnown → w.status = .ok →
     (s.tcamLookup w.key f.gen = none → s.fld (F.PRS_PORT_DEFAULT_NOMATCH (min f.port 34)) = 0 →
       ∃ t, exec .secondPass s = .next t ∧ t.data.recirc = rest ∧ t.data.queues = s.data.queues ∧
         (∃ g, t.frame h = some g ∧ g.stage = .passed) ∧
         t.cnt (C.cls 7) = s.cnt (C.cls 7) + 1 ∧ t.cnt (C.cls 3) = s.cnt (C.cls 3) + 1 ∧ s.CntsBut t [C.cls 7, C.cls 3] ∧
         s.Only t [.cnts, .data]) ∧
     (∀ e, s.tcamLookup w.key f.gen = some e → s.actInvalid (wordsNat (s.tcamAt e).act) w = false →
       A.disposition (wordsNat (s.tcamAt e).act) = 6 → s.fld (F.PRS_PORT_DEFAULT_PARSEERR (min f.port 34)) = 0 →
       ∃ t, exec .secondPass s = .next t ∧ t.data.recirc = rest ∧ t.data.queues = s.data.queues ∧
         t.cnt (C.cls 7) = s.cnt (C.cls 7) + 1 ∧ t.cnt (C.cls 6) = s.cnt (C.cls 6) + 1 ∧
           t.cnt (C.cls 1) = s.cnt (C.cls 1) + 1 ∧
         s.CntsBut t [C.cls 7, C.cls 6, C.cls 1] ∧ s.Only t [.cnts, .data]))

/-- The end of a frame makes the late checks. R104, R136, R144. -/
def Obligations.FrameEndMakesTheLateChecks : Prop :=
  ∀ (s : State) (p h : Nat) (f : Frame), p < 35 → s.running = true → s.unwritten p = some h → s.frame h = some f →
    f.bad = false →
    ((s.info h).late = false → (s.info h).late2 = false → (s.info h).sdu = none → (s.info h).charges = [] →
      (s.info h).special = none →
      (s.info h).toWeaver = false → f.stage = .passed → ∀ r, (s.info h).learn = some r →
      ∃ t, exec (.frameEndWritten p) s = .next t ∧ s.Only t [.regs, .cnts, .bufLog, .data, .ports, .mgt, .wvr, .key] ∧
        (s.data.learnQ.length < 64 → t.data.learnQ = s.data.learnQ ++ [r]) ∧
        (64 ≤ s.data.learnQ.length → t.data.learnQ = s.data.learnQ ∧ t.cnt (C.buf 19) = s.cnt (C.buf 19) + 1) ∧
        (f.ihold = true → 2 ≤ f.ref → t.frame h = some { f with written := true, ihold := false, ref := f.ref - 1 })) ∧
    ((s.lateFirst f (s.info h) = true ∨ s.lateSecond f (s.info h) = true) →
      ∃ t, exec (.frameEndWritten p) s = .next t ∧ s.Only t [.regs, .cnts, .bufLog, .data, .ports, .mgt, .wvr, .key] ∧
        t.cnt (C.cls 2) = s.cnt (C.cls 2) + 1 ∧ t.data.learnQ = s.data.learnQ ∧
        (∀ q c, c ∈ t.queue q → c.frame ≠ some h))

/-- MERGE_CFG takes effect at the frame boundary, preemption is verified. R83; the verification clauses follow R82: a FAILED
verification stands until EN has been written 0 and then 1. -/
def Obligations.PreemptionFollowsMergeCfg : Prop :=
  (∀ (s : State) (p : Nat), hasMerge p = true → s.drives = true → s.flag (F.MAC_STATUS_LINK_UP p) = true →
     (s.fld (F.MERGE_STATUS_VERIFY_STATE p) = 1 → s.verifies p < 3 →
       ∃ t, exec (.verifySend p) s = .next t ∧ s.Only t [.regs, .cnts, .ports, .out] ∧ t.out = .mpacket p 1 :: s.out ∧
         t.verifies p = s.verifies p + 1 ∧ t.regs = s.regs) ∧
     (s.fld (F.MERGE_STATUS_VERIFY_STATE p) = 1 → 3 ≤ s.verifies p →
       ∃ t, exec (.verifySend p) s = .next t ∧ t.fld (F.MERGE_STATUS_VERIFY_STATE p) = 3 ∧
         s.RegsBut t [K.MERGE_STATUS p] ∧ s.Only t [.regs]) ∧
     (s.mergeOn p = true → ∃ t, exec (.verifyReceive p) s = .next t ∧ t.out = .mpacket p 2 :: s.out ∧
       s.Only t [.cnts, .out]) ∧
     (s.fld (F.MERGE_STATUS_VERIFY_STATE p) = 1 →
       ∃ t, exec (.respondReceive p) s = .next t ∧ t.fld (F.MERGE_STATUS_VERIFY_STATE p) = 2 ∧
         s.RegsBut t [K.MERGE_STATUS p] ∧ s.Only t [.regs])) ∧
  (∀ (s : State) (p : Nat), hasMerge p = true →
     (∀ mask value, s.busRuns (K.MERGE_CFG p) = true →
       ∃ t, exec (.registerWrite (K.MERGE_CFG p) mask value) s = .next t ∧
         t.ports = { s.ports with mergeOff := t.ports.mergeOff } ∧
         (mask ≠ 0 → t.mergeOff p = (s.mergeOff p || !t.flag (F.MERGE_CFG_EN p))) ∧
         t.reg (K.MERGE_CFG p) = maskWord (s.reg (K.MERGE_CFG p)) (mask &&& 0x00FFFF31) value ∧
         s.RegsBut t [K.MERGE_CFG p] ∧ s.Only t [.regs, .ports, .time, .out]) ∧
     (s.txBoundary p = false → exec (.mergeCfgApply p) s = .next s) ∧
     (s.powered = true → s.txBoundary p = true →
     ∃ t, exec (.mergeCfgApply p) s = .next t ∧ t.mergeEff p = s.reg (K.MERGE_CFG p) ∧ s.RegsBut t [K.MERGE_STATUS p] ∧
       s.Only t [.regs, .ports] ∧
       t.ports.tx = s.ports.tx ∧ (∀ q, q ≠ p → t.mergeEff q = s.mergeEff q) ∧
       (let on (w : Word) := w.toNat.testBit 0
        let plain (w : Word) := w.toNat.testBit 8
        let again := s.mergeOff p = true ∨ on (s.mergeEff p) ≠ on (s.reg (K.MERGE_CFG p)) ∨
          (plain (s.mergeEff p) ≠ plain (s.reg (K.MERGE_CFG p)) ∧ s.fld (F.MERGE_STATUS_VERIFY_STATE p) ≠ 3)
        (¬again → t.regs = s.regs) ∧
        (again → t.verifies p = 0 ∧ t.fld (F.MERGE_STATUS_VERIFY_STATE p) =
            if on (s.reg (K.MERGE_CFG p)) = false then 0 else if plain (s.reg (K.MERGE_CFG p)) then 4 else 1))))

/-- Writes of port configuration are checked, those of port M ignored. R94. The event of the flag is log entry 12; the place
of port M's MERGE_CFG is log entry 65. -/
def Obligations.PortWritesAreCheckedOrIgnored : Prop :=
  (∀ (s : State) (p : Nat) (mask value : Word), p < 34 → s.busRuns (K.MAC_CFG p) = true → s.busRuns (K.MAC_FRAME p) = true →
     (let old := s.reg (K.MAC_CFG p)
      let w := maskWord old (mask &&& 0x00FC0001) value
      let bad := ((wordBits w 23 20 != wordBits old 23 20 || wordBits w 19 18 != wordBits old 19 18) &&
        old.toNat.testBit 0 && w.toNat.testBit 0) || !modeOffered p (wordBits w 23 20) || !roleDefined p (wordBits w 19 18)
      ∃ t, exec (.macCfgWrite p mask value) s = .next t ∧
        (bad = true → t.flag (F.MAC_STATUS_CFG_REJECT p) = true ∧ s.RegsBut t (K.MAC_STATUS p :: journalKeys) ∧
          s.CntsBut t eventCounters ∧ s.Only t [.regs, .cnts, .mgt, .key]) ∧
        (bad = false → t.reg (K.MAC_CFG p) = w ∧ t.flag (F.MAC_STATUS_CFG_REJECT p) = s.flag (F.MAC_STATUS_CFG_REJECT p) ∧
          t.reg (K.MAC_FRAME p) = s.reg (K.MAC_FRAME p))) ∧
     (let w := maskWord (s.reg (K.MAC_FRAME p)) (mask &&& 0x3FFF) value
      ∃ t, exec (.macFrameWrite p mask value) s = .next t ∧
        (w.toNat < 64 ∨ 9216 < w.toNat → t.flag (F.MAC_STATUS_CFG_REJECT p) = true ∧
          s.RegsBut t (K.MAC_STATUS p :: journalKeys) ∧ s.CntsBut t eventCounters) ∧
        (64 ≤ w.toNat → w.toNat ≤ 9216 → t.reg (K.MAC_FRAME p) = w ∧ s.RegsBut t [K.MAC_FRAME p] ∧ s.Only t [.regs]))) ∧
  (∀ (s : State) (mask value : Word), exec (.macCfgWrite 34 mask value) s = .next s ∧
    exec (.macFrameWrite 34 mask value) s = .next s ∧
     (s.busRuns K.MERGE_CFG_M = true → ∃ t, exec (.registerWrite K.MERGE_CFG_M mask value) s = .next t ∧ s.RegsBut t [] ∧
       s.Only t [.regs, .time, .out] ∧ (mask ≠ 0 → s.TimeKept t)))

/-- An MDIO master runs one access at a time. R84, R85, R87, R96: a read that no PHY answers returns 0xFFFF, a poll ended after its
port was disabled counts for nothing, and the periodic poll falls at its timer. -/
def Obligations.MdioMastersWork : Prop :=
  (∀ (s : State) (m : Nat), m < 2 → s.drives = true → s.rstHeld (66 + m) = false →
     (∀ value, s.mcRuns = true → s.flag (F.MDIO_STATUS_BUSY m) = true →
       ∃ t, exec (.mdioAccess m value) s = .next t ∧ t.flag (F.MDIO_STATUS_ERR_BUSY m) = true ∧
         s.RegsBut t [K.MDIO_STATUS m] ∧ s.Only t [.regs]) ∧
     (∀ value, s.mcRuns = true → s.flag (F.MDIO_STATUS_BUSY m) = false → s.mdioAt m = none →
       ∃ t, exec (.mdioAccess m value) s = .next t ∧ t.flag (F.MDIO_STATUS_BUSY m) = true ∧
         t.mdioAt m = some ⟨none, value.toNat, s.fld (F.MDIO_WDATA_WDATA m), s.fld (F.MDIO_CFG_MDC_DIV m), false⟩ ∧
         s.RegsBut t [K.MDIO_STATUS m] ∧ s.Only t [.regs, .ports]) ∧
     (∀ a (answer : Option Nat), (∀ r, answer = some r → r < 65536) → s.mdioAt m = some a → a.poll = none →
       ∃ t, exec (.mdioAccessDone m answer) s = .next t ∧ t.flag (F.MDIO_STATUS_BUSY m) = false ∧
         t.flag (F.MDIO_STATUS_DONE m) = true ∧
         t.fld (F.MDIO_STATUS_RDATA m) = (if a.cmd.testBit 31 then answer.getD 0xFFFF else s.fld (F.MDIO_STATUS_RDATA m)) ∧
         t.out = .mdio m a.cmd a.wdata :: s.out ∧ s.RegsBut t [K.MDIO_STATUS m] ∧ s.Only t [.regs, .ports, .out]) ∧
     (∀ a p (answer : Option Nat), (∀ r, answer = some r → r < 65536) → s.mdioAt m = some a → a.poll = some p →
       ∃ t, exec (.mdioAccessDone m answer) s = .next t ∧
         s.Only t [.regs, .cnts, .fresh, .bufLog, .data, .ports, .mgt, .key, .out] ∧
           t.phyLink p = (if a.void then s.phyLink p else (answer.getD 0xFFFF).testBit 2) ∧
         t.out = .mdio m a.cmd a.wdata :: s.out)) ∧
  (∀ (s : State) (m : Nat), m < 2 → s.drives = true → s.rstHeld (66 + m) = false → s.mdioWaits m = none →
     (∀ c, s.pollFrom m = some c → s.fld (F.MDIO_CFG_POLL_MS m) ≠ 0 → c + s.pollCycles m ≤ s.cycle →
       ∃ t, exec (.mdioPoll m) s = .next t ∧ s.Only t [.ports] ∧ t.pollFrom m = some (c + s.pollCycles m) ∧
         (let l := ((List.range 4).map (fun i => 4 * m + i)).filter (fun p => s.flag (F.MAC_CFG_EN p))
          (∀ a, s.mdioAt m = some a → t.mdioAt m = some a ∧ t.mdioPolls m = s.mdioPolls m ++ l) ∧
          (∀ p r, s.mdioAt m = none → (s.mdioPolls m ++ l).filter (fun p => s.flag (F.MAC_CFG_EN p)) = p :: r →
            t.mdioAt m = some (s.pollAccess p) ∧
            t.mdioPolls m = r))) ∧
     (∀ p, p < 8 → p / 4 = m → s.flag (F.MAC_CFG_EN p) = true → s.flag (F.MAC_STATUS_PHY_INT p) = true →
       ∃ t, exec (.mdioInterruptPoll p) s = .next t ∧ s.Only t [.ports] ∧
         (s.mdioAt m = none → t.mdioAt m = some (s.pollAccess p) ∧
           t.mdioPolls m = (s.mdioPolls m).filter (fun p => s.flag (F.MAC_CFG_EN p))) ∧
         (∀ a, s.mdioAt m = some a → t.mdioAt m = some a ∧ t.mdioPolls m = p :: s.mdioPolls m))) ∧
  (∀ (s : State) (m : Nat) (mask value : Word), m < 2 → s.busRuns (K.MDIO_CFG m) = true →
     ∃ t, exec (.mdioCfgWrite m mask value) s = .next t ∧ s.RegsBut t [K.MDIO_CFG m] ∧ s.Only t [.regs, .ports] ∧
       t.pollFrom m = (s.pollFrom m).map (fun _ => s.cycle) ∧
       (let w := maskWord (s.reg (K.MDIO_CFG m)) (mask &&& 0xFFFF) value
        t.fld (F.MDIO_CFG_POLL_MS m) = wordBits w 15 8 ∧
        t.fld (F.MDIO_CFG_MDC_DIV m) = if wordBits w 7 0 < 9 then s.fld (F.MDIO_CFG_MDC_DIV m) else wordBits w 7 0))

/-- Commands on the forwarding database act and end. R170. INDEX keeps its value when nothing is found (log entry 57); a
flush's walk
reaches one entry in a cycle, and its end takes what is still to be reached (log entry 16). -/
def Obligations.FdbCommandsActAndEnd : Prop :=
  (∀ (s : State) (index : Nat), s.mcRuns = true → index < 32768 →
     (s.flag F.FDB_STATUS_BUSY = true →
       ∀ c ∈ [Instr.fdbLookup, .fdbWrite, .fdbDelete, .fdbReadIndex index, .flushPort, .flushDynamic],
         ∃ t, exec c s = .next t ∧ t.flag F.FDB_STATUS_ERR_BUSY = true ∧ s.RegsBut t [K.FDB_STATUS] ∧ s.Only t [.regs]) ∧
     (s.flag F.FDB_STATUS_BUSY = false →
       (∃ t, exec .fdbLookup s = .next t ∧ s.Only t [.regs, .data] ∧ t.flag F.FDB_STATUS_BUSY = true ∧
         t.data.fdb = s.data.fdb ∧
         (∀ i e, s.fdbFind s.fdbKey.1 s.fdbKey.2 = some (i, e) → t.data.fdbOp = .single 0 i ∧ t.flag F.FDB_DATA_VALID = true ∧
           t.flag F.FDB_DATA_STATIC = e.static ∧ t.flag F.FDB_DATA_HIT = e.hit ∧ t.fld F.FDB_DATA_KIND = e.kind % 4 ∧
           t.fld F.FDB_DATA_DEST = e.dest % 1024 ∧ t.fdbKey = s.fdbKey) ∧
         (s.fdbFind s.fdbKey.1 s.fdbKey.2 = none → t.data.fdbOp = .single 1 (s.fld F.FDB_STATUS_INDEX) ∧
           s.RegsBut t [K.FDB_STATUS])) ∧
       (∀ c ∈ [Instr.fdbDelete, .fdbWrite], (c = .fdbWrite → s.flag F.FDB_DATA_VALID = false) →
         ∃ t, exec c s = .next t ∧ t.flag F.FDB_STATUS_BUSY = true ∧ s.RegsBut t [K.FDB_STATUS] ∧
           (∀ i e, s.fdbFind s.fdbKey.1 s.fdbKey.2 = some (i, e) →
             t.data.fdbOp = .single 0 i ∧ t.fdbAt i = none ∧ (∀ j, j ≠ i → t.fdbAt j = s.fdbAt j)) ∧
           (s.fdbFind s.fdbKey.1 s.fdbKey.2 = none →
             t.data.fdbOp = .single 1 (s.fld F.FDB_STATUS_INDEX) ∧ t.data.fdb = s.data.fdb)) ∧
       (s.flag F.FDB_DATA_VALID = true →
         ∃ t, exec .fdbWrite s = .next t ∧ s.Only t [.regs, .data] ∧ t.flag F.FDB_STATUS_BUSY = true ∧
           s.RegsBut t [K.FDB_STATUS] ∧
           (s.destInvalid (s.fld F.FDB_DATA_KIND) (s.fld F.FDB_DATA_DEST) = true →
             t.data.fdbOp = .single 3 (s.fld F.FDB_STATUS_INDEX) ∧ t.data.fdb = s.data.fdb) ∧
           (s.destInvalid (s.fld F.FDB_DATA_KIND) (s.fld F.FDB_DATA_DEST) = false →
             (∀ i, ((s.fdbFind s.fdbKey.1 s.fdbKey.2).map (fun x => x.1) = some i ∨
                 (s.fdbFind s.fdbKey.1 s.fdbKey.2 = none ∧ s.fdbFree s.fdbKey.1 s.fdbKey.2 = some i)) →
               t.data.fdbOp = .single 0 i ∧ (∀ j, j ≠ i → t.fdbAt j = s.fdbAt j) ∧
               t.fdbAt i = some ⟨s.fdbKey.1, s.fdbKey.2, s.flag F.FDB_DATA_STATIC, s.flag F.FDB_DATA_HIT,
                 s.fld F.FDB_DATA_KIND, s.fld F.FDB_DATA_DEST⟩) ∧
             (s.fdbFind s.fdbKey.1 s.fdbKey.2 = none → s.fdbFree s.fdbKey.1 s.fdbKey.2 = none →
               t.data.fdbOp = .single 2 (s.fld F.FDB_STATUS_INDEX) ∧ t.data.fdb = s.data.fdb))) ∧
       (∃ t, exec (.fdbReadIndex index) s = .next t ∧ s.Only t [.regs, .data] ∧ t.flag F.FDB_STATUS_BUSY = true ∧
         t.data.fdbOp = .single 0 index ∧
         t.flag F.FDB_DATA_VALID = (s.fdbAt index).isSome ∧ t.data.fdb = s.data.fdb) ∧
       (∃ t, exec .flushPort s = .next t ∧ s.Only t [.regs, .data] ∧ t.flag F.FDB_STATUS_BUSY = true ∧
         t.data.fdb = s.data.fdb ∧
         t.data.fdbOp = .flushPort (s.fld F.FDB_DATA_DEST) 0) ∧
       (∃ t, exec .flushDynamic s = .next t ∧ s.Only t [.regs, .data] ∧ t.flag F.FDB_STATUS_BUSY = true ∧
         t.data.fdb = s.data.fdb ∧
         t.data.fdbOp = .flushDynamic 0))) ∧
  (∀ s : State, s.powered = true → s.data.fdbOp ≠ .none →
     ∃ t, exec .fdbOperationDone s = .next t ∧ t.flag F.FDB_STATUS_BUSY = false ∧ t.flag F.FDB_STATUS_DONE = true ∧
       t.data.fdbOp = .none ∧ s.RegsBut t [K.FDB_STATUS] ∧ s.Only t [.regs, .data] ∧
       (∀ r i, s.data.fdbOp = .single r i →
         t.fld F.FDB_STATUS_RESULT = r % 8 ∧ t.fld F.FDB_STATUS_INDEX = i % 32768 ∧ t.data.fdb = s.data.fdb) ∧
       (∀ d n, s.data.fdbOp = .flushPort d n → t.fld F.FDB_STATUS_RESULT = 0 ∧
         ∀ i e, (i, some e) ∈ t.data.fdb ↔
           ((i, some e) ∈ s.data.fdb ∧ (i < n ∨ ¬(e.static = false ∧ e.kind = 0 ∧ e.dest = d)))) ∧
       (∀ n, s.data.fdbOp = .flushDynamic n → t.fld F.FDB_STATUS_RESULT = 0 ∧
         ∀ i e, (i, some e) ∈ t.data.fdb ↔ ((i, some e) ∈ s.data.fdb ∧ (i < n ∨ e.static = true))))

/-- Live and retiring classifier entries are guarded. R118 and R124; that making an entry valid in the retiring generation
is rejected too is log entry 15. -/
def Obligations.TcamEntriesAreGuarded : Prop :=
  (∀ (s : State) (e : TcamEntry) (addr : Nat) (mask value : Word), isClsEntry addr = true → s.mcRuns = true →
     s.tcamAt s.clsIndex = e →
     ∃ t, exec (.clsWinEntryWrite addr mask value) s = .next t ∧
       (e.valid = true → t.data = s.data ∧ t.flag F.CLS_STATUS_LIVE_WRITE = true ∧
         s.RegsBut t (K.CLS_STATUS :: journalKeys) ∧ s.CntsBut t eventCounters) ∧
       (e.valid = false → s.Only t [.data] ∧
         (∀ i, i ≠ s.clsIndex → t.tcamAt i = s.tcamAt i) ∧
         (∀ j, j < 20 → addr = 0x81000 + 4 * j → t.tcamAt s.clsIndex =
           { e with key := e.key.set j (maskWord (e.key.getD j 0) (if j = 19 then mask &&& 0x7FFF else mask) value) }) ∧
         (∀ j, j < 20 → addr = 0x81080 + 4 * j → t.tcamAt s.clsIndex =
           { e with mask := e.mask.set j (maskWord (e.mask.getD j 0) (if j = 19 then mask &&& 0x7FFF else mask) value) }) ∧
         (∀ j, j < 3 → addr = 0x81100 + 4 * j → t.tcamAt s.clsIndex =
           { e with act := e.act.set j (maskWord (e.act.getD j 0) (if j = 2 then mask &&& 0x1FFFF else mask) value) }))) ∧
  (∀ (s : State) (mask value : Word), s.mcRuns = true →
     (let e := s.tcamAt s.clsIndex
      let w := maskWord (BitVec.ofNat 32 (b2n e.valid + 2 * e.gen)) mask value
      let x := { e with gen := wordBits w 2 1, valid := w.toNat.testBit 0, hit := if w.toNat.testBit 0 && !e.valid then 0
        else e.hit }
      ∃ t, exec (.clsWinCtrlWrite mask value) s = .next t ∧
       (s.flag F.CLS_GEN_RETIRING = false → t.tcamAt s.clsIndex = x ∧ (∀ i, i ≠ s.clsIndex → t.tcamAt i = s.tcamAt i) ∧
         s.Only t [.data]) ∧
       (s.flag F.CLS_GEN_RETIRING = true →
         ((e.valid && e.gen.testBit (1 - s.fld F.CLS_GEN_ACTIVE)) ≠ (x.valid && x.gen.testBit (1 - s.fld F.CLS_GEN_ACTIVE)) →
           t.data = s.data ∧ t.flag F.CLS_STATUS_RETIRE_REJECT = true ∧ s.RegsBut t (K.CLS_STATUS :: journalKeys)) ∧
         ((e.valid && e.gen.testBit (1 - s.fld F.CLS_GEN_ACTIVE)) = (x.valid && x.gen.testBit (1 - s.fld F.CLS_GEN_ACTIVE)) →
           t.tcamAt s.clsIndex = x ∧ s.Only t [.data]))))

/-- Rule generations swap and retire. R122, R123. -/
def Obligations.GenerationsSwap : Prop :=
  ∀ (s : State) (gen : Nat), gen < 2 →
    (s.mcRuns = true →
      ∃ t, exec (.swap gen) s = .next t ∧
        (s.flag F.CLS_GEN_PENDING = true → t.flag F.CLS_GEN_ERR_BUSY = true ∧ s.RegsBut t [K.CLS_GEN] ∧ s.Only t [.regs]) ∧
        (s.flag F.CLS_GEN_PENDING = false → (s.data.swap ≠ none ∨ s.flag F.CLS_GEN_RETIRING = true) →
          t.flag F.CLS_GEN_PENDING = true ∧ t.fld F.CLS_GEN_PENDING_TARGET = gen ∧ t.data = s.data ∧
          t.fld F.CLS_GEN_ACTIVE = s.fld F.CLS_GEN_ACTIVE) ∧
        (s.flag F.CLS_GEN_PENDING = false → s.data.swap = none → s.flag F.CLS_GEN_RETIRING = false →
          t.data = { s.data with swap := some gen } ∧ s.Only t [.data])) ∧
    (∀ tgt, tgt < 2 → s.powered = true → s.data.swap = some tgt → s.flag F.CLS_GEN_PENDING = false →
      s.flag F.CLS_GEN_RETIRING = false →
      ∃ t, exec .swapTakeEffect s = .next t ∧ s.Only t [.regs, .cnts, .data, .mgt, .key] ∧ t.data.swap = none ∧
        t.flag F.CLS_GEN_DONE = true ∧ t.fld F.CLS_GEN_ACTIVE = tgt ∧
        s.RegsBut t [K.CLS_GEN] ∧
        (tgt = s.fld F.CLS_GEN_ACTIVE → t.cnts = s.cnts ∧ t.flag F.CLS_GEN_RETIRING = false) ∧
        (tgt ≠ s.fld F.CLS_GEN_ACTIVE → t.cnt (C.cls 9) = s.cnt (C.cls 9) + 1 ∧ s.CntsBut t [C.cls 9] ∧
          t.flag F.CLS_GEN_RETIRING = s.awaits (s.fld F.CLS_GEN_ACTIVE))) ∧
    (s.powered = true → s.flag F.CLS_GEN_RETIRING = true →
      (s.awaits (1 - s.fld F.CLS_GEN_ACTIVE) = true → exec .retirementEnd s = .next s) ∧
      (s.awaits (1 - s.fld F.CLS_GEN_ACTIVE) = false → s.flag F.CLS_GEN_PENDING = false →
        ∃ t, exec .retirementEnd s = .next t ∧ t.flag F.CLS_GEN_RETIRING = false ∧ s.RegsBut t [K.CLS_GEN] ∧
          s.Only t [.regs]) ∧
      (s.awaits (1 - s.fld F.CLS_GEN_ACTIVE) = false → s.flag F.CLS_GEN_PENDING = true →
        ∃ t, exec .retirementEnd s = .next t ∧ s.Only t [.regs, .cnts, .mgt, .key] ∧ t.flag F.CLS_GEN_PENDING = false ∧
          t.flag F.CLS_GEN_DONE = true ∧
          t.fld F.CLS_GEN_ACTIVE = s.fld F.CLS_GEN_PENDING_TARGET))

/-- Token ticks feed the buckets and apply commits. R182; the increments follow R176. -/
def Obligations.TicksFeedAndCommitBuckets : Prop :=
  (∀ s : State, s.linked = true → (s.listedEntries (K.SHP_CTRL 0)).Nodup → (s.listedEntries (K.ZPOL_CTRL 0)).Nodup →
     s.meterList.Nodup →
     ∃ t, exec .tokenTick s = .next t ∧ s.Only t [.regs, .held, .data] ∧
       (∀ q, s.flag (F.SHP_CTRL_PENDING q) = false → s.flag (F.SHP_CTRL_EN q) = true →
         t.bucket (K.SHP_C_LEVEL q) =
           min (s.bucket (K.SHP_C_LEVEL q) + (incOf (s.rateOf (K.SHP_CIR q)) : Nat)) ((s.burstOf (K.SHP_CBS q) : Int) *
             fracUnit) ∧
         t.bucket (K.SHP_P_LEVEL q) =
           min (s.bucket (K.SHP_P_LEVEL q) + (incOf (s.rateOf (K.SHP_PIR q)) : Nat)) ((s.burstOf (K.SHP_PBS q) : Int) *
             fracUnit)) ∧
       (∀ i, s.flag (F.ZPOL_CTRL_PENDING i) = false → s.flag (F.ZPOL_CTRL_EN i) = true →
         t.bucket (K.ZPOL_LEVEL i) =
           min (s.bucket (K.ZPOL_LEVEL i) + (incOf (s.rateOf (K.ZPOL_RATE i)) : Nat)) ((s.burstOf (K.ZPOL_BURST i) : Int) *
             fracUnit)) ∧
       (∀ i, s.flag (F.MTR_CTRL_PENDING i) = false → s.data.meterStart.contains i = false →
         s.flag (F.STRM_WIN_FILTER_METER_EN i) = true →
         t.bucket (K.MTR_C_LEVEL i) =
           min (s.bucket (K.MTR_C_LEVEL i) + (incOf (s.rateOf (K.MTR_CIR i)) : Nat)) ((s.burstOf (K.MTR_CBS i) : Int) *
             fracUnit) ∧
         t.bucket (K.MTR_P_LEVEL i) =
           min (s.bucket (K.MTR_P_LEVEL i) + (incOf (s.rateOf (K.MTR_PIR i)) : Nat)) ((s.burstOf (K.MTR_PBS i) : Int) *
             fracUnit)) ∧
       (∀ q, s.flag (F.SHP_CTRL_PENDING q) = false → s.flag (F.SHP_CTRL_EN q) = false →
         t.bucket (K.SHP_C_LEVEL q) = s.bucket (K.SHP_C_LEVEL q) ∧ t.bucket (K.SHP_P_LEVEL q) = s.bucket (K.SHP_P_LEVEL q))) ∧
  (∀ (s : State) (n : Nat), s.linked = true → (s.listedEntries (K.SHP_CTRL 0)).Nodup →
    (s.listedEntries (K.ZPOL_CTRL 0)).Nodup →
     s.meterList.Nodup →
     ∃ t, exec .tokenTick s = .next t ∧ s.Only t [.regs, .held, .data] ∧
       (s.flag (F.SHP_CTRL_PENDING n) = true → t.flag (F.SHP_CTRL_PENDING n) = false ∧
         (∀ k ∈ [K.SHP_CIR n, K.SHP_CBS n, K.SHP_PIR n, K.SHP_PBS n], t.reg k = s.heldOr k ∧ t.heldWord k = none) ∧
         (∀ x ∈ [(K.SHP_C_LEVEL n, K.SHP_CBS n), (K.SHP_P_LEVEL n, K.SHP_PBS n)], t.bucket x.1 =
           if s.flag (F.SHP_CTRL_RESET_FILL n) then (wordBits (s.heldOr x.2) 23 0 : Int) * fracUnit else 0)) ∧
       (s.flag (F.MTR_CTRL_PENDING n) = true → t.flag (F.MTR_CTRL_PENDING n) = false ∧
         (∀ k ∈ [K.MTR_CIR n, K.MTR_CBS n, K.MTR_PIR n, K.MTR_PBS n], t.reg k = s.heldOr k ∧ t.heldWord k = none) ∧
         (∀ x ∈ [(K.MTR_C_LEVEL n, K.MTR_CBS n), (K.MTR_P_LEVEL n, K.MTR_PBS n)], t.bucket x.1 =
           if s.flag (F.MTR_CTRL_RESET_FILL n) then (wordBits (s.heldOr x.2) 23 0 : Int) * fracUnit else 0)) ∧
       (s.flag (F.ZPOL_CTRL_PENDING n) = true → t.flag (F.ZPOL_CTRL_PENDING n) = false ∧
         (∀ k ∈ [K.ZPOL_RATE n, K.ZPOL_BURST n], t.reg k = s.heldOr k ∧ t.heldWord k = none) ∧
         t.bucket (K.ZPOL_LEVEL n) =
           if s.flag (F.ZPOL_CTRL_RESET_FILL n) then (wordBits (s.heldOr (K.ZPOL_BURST n)) 23 0 : Int) * fracUnit else 0)) ∧
  (∀ s : State, s.mcRuns = true →
     (∀ q, q = s.fld F.SCH_QUE_INDEX_INDEX → q < 280 →
       ∃ t, exec .shaperCommit s = .next t ∧ s.RegsBut t [K.SHP_CTRL q] ∧ s.Only t [.regs] ∧
         t.flag (F.SHP_CTRL_PENDING q) = true ∧
         (t.flag (F.SHP_CTRL_ERR_BUSY q) = true ↔ s.flag (F.SHP_CTRL_ERR_BUSY q) = true ∨
           s.flag (F.SHP_CTRL_PENDING q) = true)) ∧
     (280 ≤ s.fld F.SCH_QUE_INDEX_INDEX → exec .shaperCommit s = .next s) ∧
     (∀ i, i = s.fld F.STRM_WIN_INDEX_INDEX →
       ∃ t, exec .meterCommit s = .next t ∧ s.RegsBut t [K.MTR_CTRL i] ∧ s.Only t [.regs] ∧
         t.flag (F.MTR_CTRL_PENDING i) = true ∧
         (t.flag (F.MTR_CTRL_ERR_BUSY i) = true ↔ s.flag (F.MTR_CTRL_ERR_BUSY i) = true ∨
           s.flag (F.MTR_CTRL_PENDING i) = true)) ∧
     (∀ i, i = s.fld F.ZPOL_INDEX_INDEX →
       ∃ t, exec .zonePolicerCommit s = .next t ∧ s.RegsBut t [K.ZPOL_CTRL i] ∧ s.Only t [.regs] ∧
         t.flag (F.ZPOL_CTRL_PENDING i) = true ∧
         (t.flag (F.ZPOL_CTRL_ERR_BUSY i) = true ↔ s.flag (F.ZPOL_CTRL_ERR_BUSY i) = true ∨
           s.flag (F.ZPOL_CTRL_PENDING i) = true)))

/-- Gate lists change at their time, recovery functions are reset. R186, R193 to R195; the timer of a recovery function runs
whatever its EN (log entry 60). -/
def Obligations.GatesAndRecoveryFunctions : Prop :=
  (∀ (s : State) (p : Nat), p < 34 →
     (s.mcRuns = true → p = s.fld F.GATE_WIN_PORT_PORT →
       (s.flag (F.GATE_STATUS_PENDING p) = true →
         ∃ t, exec .configChange s = .next t ∧ t.flag (F.GATE_CTRL_ERR_BUSY p) = true ∧ s.RegsBut t [K.GATE_CTRL p] ∧
           s.Only t [.regs]) ∧
       (s.flag (F.GATE_STATUS_PENDING p) = false → s.gateListValid p = false →
         ∃ t, exec .configChange s = .next t ∧ t.flag (F.GATE_STATUS_LIST_ERR p) = true ∧ s.RegsBut t [K.GATE_STATUS p] ∧
           s.Only t [.regs]) ∧
       (s.flag (F.GATE_STATUS_PENDING p) = false → s.gateListValid p = true →
         ∃ t, exec .configChange s = .next t ∧ t.flag (F.GATE_STATUS_PENDING p) = true ∧
           (∀ tc, tc = (if s.nowNs + 2000 ≤ s.gateBase p 0 then s.gateBase p 0 else
               s.gateBase p 0 + (s.nowNs + 2000 - s.gateBase p 0 + s.gateCycle p 0 - 1) / s.gateCycle p 0 * s.gateCycle p 0) →
             t.pair (K.GATE_CHANGE_S_LO p) (K.GATE_CHANGE_S_HI p) = tc / 1000000000 % 2 ^ 48 ∧
             t.fld (F.GATE_CHANGE_NS_NS p) = tc % 1000000000) ∧
           s.RegsBut t [K.GATE_STATUS p, K.GATE_CHANGE_S_LO p, K.GATE_CHANGE_S_HI p, K.GATE_CHANGE_NS p] ∧ s.Only t [.regs]) ∧
       (∃ t, exec .cancel s = .next t ∧ t.flag (F.GATE_STATUS_PENDING p) = false ∧ s.RegsBut t [K.GATE_STATUS p] ∧
         s.Only t [.regs])) ∧
     (s.linked = true → s.flag (F.GATE_STATUS_PENDING p) = true → s.gateTc p ≤ s.nowNs → s.gateLen p 0 ≤ 1024 →
       ∃ t, exec (.gateChangeTime p) s = .next t ∧ s.Only t [.regs, .cnts, .held] ∧ t.flag (F.GATE_STATUS_PENDING p) = false ∧
         t.flag (F.GATE_STATUS_OPER_VALID p) = true ∧ t.cnt (C.sch 12) = s.cnt (C.sch 12) + 1 ∧ s.CntsBut t [C.sch 12] ∧
         t.gateCycle p 1 = s.gateCycle p 0 ∧ t.gateLen p 1 = s.gateLen p 0 ∧ t.gateBase p 1 = s.gateBase p 0 ∧
         t.gateExt p 1 = s.gateExt p 0 ∧ (∀ i, i < s.gateLen p 0 → t.gateEntry p 1 i = s.gateEntry p 0 i))) ∧
  (∀ (s : State) (p : Nat), p < 34 → s.linked = true →
     (∀ x, s.gateSeg p s.nowNs = some x →
       ∃ t, exec (.gateEntryTransition p) s = .next t ∧ t.fld (F.GATE_STATUS_CURRENT p) = x.index % 1024 ∧
         t.flag (F.GATE_STATUS_HOLD_ACTIVE p) =
           (if x.hold = false then s.flag (F.GATE_STATUS_HOLD_ACTIVE p) && !s.heldBefore p
            else s.flag (F.GATE_STATUS_HOLD_ACTIVE p) || s.holdWorks p) ∧
         s.RegsBut t [K.GATE_STATUS p] ∧ s.Only t [.regs]) ∧
     (∀ x, s.gateSeg p (s.nowNs + s.fld (F.GATE_HOLD_ADV_ADV_NS p)) = some x → x.hold = true → s.holdWorks p = true →
       ∃ t, exec (.gateHoldRequest p) s = .next t ∧ t.flag (F.GATE_STATUS_HOLD_ACTIVE p) = true ∧
         s.RegsBut t [K.GATE_STATUS p] ∧ s.Only t [.regs]) ∧
     (s.gatesOn p = false → exec (.gateEntryTransition p) s = .next s ∧ exec (.gateHoldRequest p) s = .next s)) ∧
  (∀ s : State,
     (s.mcRuns = true → ∃ t, exec .frerReset s = .next t ∧
       t.flag (F.SEQR_WIN_STATE_TAKE_ANY (s.fld F.FRER_WIN_INDEX_INDEX)) = true ∧
       s.RegsBut t [K.SEQR_WIN_STATE (s.fld F.FRER_WIN_INDEX_INDEX)] ∧ s.Only t [.regs]) ∧
     (∀ fn, fn < 1024 → s.linked = true →
       ∃ t, exec (.frerResetTimer fn) s = .next t ∧ t.flag (F.SEQR_WIN_STATE_TAKE_ANY fn) = true ∧
         t.cnt (C.sch 8) = s.cnt (C.sch 8) + 1 ∧ s.CntsBut t [C.sch 8] ∧
         s.RegsBut t [K.SEQR_WIN_STATE fn] ∧ s.Only t [.regs, .cnts]))

/-- The commands on network time. R209, R220, R224, R225, R232. -/
def Obligations.TimeCommandsAct : Prop :=
  (∀ s : State, s.mcRuns = true →
     (∃ t, exec .timeNowCapture s = .next t ∧ t.time = { s.time with capNow := s.time.now } ∧
       t.busData = BitVec.ofNat 32 (s.time.now / fracPerNs % 1000000000) ∧ s.Only t [.busData, .time]) ∧
     (∃ t, exec .ppsInStampCapture s = .next t ∧ t.time = { s.time with capPps := s.time.ppsStamp } ∧
       t.busData = BitVec.ofNat 32 (s.time.ppsStamp / fracPerNs % 1000000000) ∧ s.Only t [.busData, .time])) ∧
  (∀ (s : State) (src : Nat), src < 4 → s.mcRuns = true →
     ((3 ≤ src ∨ src = s.fld F.TIME_CTRL_SOURCE) →
       ∃ t, exec (.sourceWrite src) s = .next t ∧ s.TimeKept t ∧ s.Only t [.time, .out]) ∧
     (src < 3 → src ≠ s.fld F.TIME_CTRL_SOURCE →
       ∃ t, exec (.sourceWrite src) s = .next t ∧ s.Only t [.regs, .cnts, .time, .mgt, .key, .out] ∧
         t.fld F.TIME_CTRL_SOURCE = src ∧ t.integ = s.rateAdj ∧ t.avg = s.rateAdj ∧
         t.servoState = (if src = 0 then 0 else 1) ∧ t.rateAdj = s.rateAdj ∧
         t.time = { s.time with ppsSeen := false, stepped := false, ppsOut := t.time.ppsOut } ∧
         s.RegsBut t (K.TIME_CTRL :: K.SERVO_INTEG :: K.SERVO_AVG :: K.TIME_STATUS :: journalKeys))) ∧
  (∀ s : State, s.mcRuns = true →
     ((s.servoState = 1 ∨ ∀ p, p < 34 → s.flag (F.GATE_CTRL_GATE_EN p) = false) →
       ∃ t, exec .stepTime s = .next t ∧ t.flag F.TIME_CTRL_STEP_DONE = true ∧
         t.time.now = (s.pair K.TIME_SET_S_LO K.TIME_SET_S_HI * 1000000000 + s.fld F.TIME_SET_NS_NS) * fracPerNs % timeMod ∧
         t.cnt (C.time 6) = s.cnt (C.time 6) + 1 ∧ t.servoState = (if s.servoState = 0 then 0 else 1)) ∧
     (s.servoState ≠ 1 → (∃ p, p < 34 ∧ s.flag (F.GATE_CTRL_GATE_EN p) = true) →
       ∃ t, exec .stepTime s = .next t ∧ t.flag F.TIME_CTRL_STEP_REJECT = true ∧ s.RegsBut t [K.TIME_CTRL] ∧
         s.TimeKept t ∧ s.Only t [.regs, .time, .out])) ∧
  (∀ s : State, s.mcRuns = true →
     ((s.servoState = 2 ∨ s.servoState = 3) →
       ∃ t, exec .acquire s = .next t ∧ s.Only t [.regs, .cnts, .time, .mgt, .key, .out] ∧ s.TimeKept t ∧ t.servoState = 1 ∧
         t.flag F.TIME_STATUS_STATE_CHANGED = true ∧ t.rateAdj = s.rateAdj ∧
         s.RegsBut t (K.TIME_STATUS :: journalKeys) ∧ s.CntsBut t eventCounters) ∧
     (s.servoState ≠ 2 → s.servoState ≠ 3 → ∃ t, exec .acquire s = .next t ∧ s.TimeKept t ∧ s.Only t [.time, .out]))

/-- Syncs are stored, measured and relayed. R216, R218; header layouts are log entry 13. -/
def Obligations.SyncsAreMeasuredAndRelayed : Prop :=
  (∀ (s u : State) (m : InFrame) (b : List Byte), s.running = true →
     (s.takeGptp [0] = some (m, b, u) → s.gptpRole m.port = 2 → s.flag (F.GPTP_PORT_STATUS_AS_CAPABLE m.port) = true →
       ptpTwoStep b = true →
       ∃ t, exec .syncReceive s = .next t ∧ t.mgt.inbox = s.mgt.inbox.erase m ∧
         t.time.syncs = keptSyncs s.time.syncs ++
           [⟨ptpSeq b, m.stamp, ptpCorr b, none, ptpSource b, s.relayPorts.map (fun q => (q, none))⟩] ∧
         t.regs = s.regs) ∧
     (∀ st, s.takeGptp [8] = some (m, b, u) → s.gptpRole m.port = 2 →
       s.time.syncs.find? (fun x => x.origin.isNone && x.seq == ptpSeq b && x.src == ptpSource b) = some st →
       ∃ t, exec .followUpReceive s = .next t ∧ t.mgt.inbox = s.mgt.inbox.erase m ∧
         t.time.syncs = keptSyncs (s.time.syncs.map (fun x =>
           if x = st then { st with origin := some (ptpTime b 34, ptpCorr b, ptpCsro b) } else x)) ∧
         t.cnt (C.time 0) = s.cnt (C.time 0) + 1 ∧
         t.fld F.SERVO_OFFSET_E_NS = ofSigned 32 (max (-2147483648) (min 2147483647
           (s.syncOffset m.port (ptpTime b 34) (st.correction + ptpCorr b) (ptpCsro b) st.stamp / 65536))))) ∧
  (∀ (s : State) (st : SyncSt), s.running = true →
     (s.time.syncs.find? (fun x => x.origin.isNone) = some st →
       ∃ t, exec .followupMissing s = .next t ∧ t.time = { s.time with syncs := s.time.syncs.erase st } ∧
         t.cnt (C.time 2) = s.cnt (C.time 2) + 1 ∧
         s.CntsBut t [C.time 2] ∧ s.Only t [.cnts, .time]) ∧
     (∀ p o e, p < 34 → s.time.syncs.find? (fun x => x.ready p) = some st → st.origin = some o →
       st.ports.find? (fun c => c.1 == p) = some (p, some e) →
       s.sleepingQueue (8 * p + s.fld (F.GPTP_PORT_CFG_QUEUE p)) = false →
       ∃ t c, exec (.followUpRelay p) s = .next t ∧ s.Only t [.cnts, .data, .ports, .time, .twin] ∧
         t.time = { s.time with syncs := keptSyncs (s.time.syncs.map (fun x =>
           if x = st then { st with ports := st.ports.filter (fun c => c.1 != p) } else x)) } ∧
         t.queue (8 * p + s.fld (F.GPTP_PORT_CFG_QUEUE p)) = s.queue (8 * p + s.fld (F.GPTP_PORT_CFG_QUEUE p)) ++ [c] ∧
         c.frame = none ∧ ptpType (c.own.drop 14) = 8 ∧ ptpSeq (c.own.drop 14) = st.seq % 65536))

/-- Peer delay is measured. R215; header layouts are log entry 13. -/
def Obligations.PeerDelayIsMeasured : Prop :=
  ∀ (s u : State) (m : InFrame) (b : List Byte), s.running = true →
    (∀ p, p < 34 → s.gptpRole p ≠ 0 →
      ∃ t, exec (.pdelayReqSend p) s = .next t ∧ s.Only t [.regs, .cnts, .data, .time, .twin] ∧
        (t.gport p).seq = ((s.gport p).seq + 1) % 65536 ∧ (t.gport p).reqOut = true ∧
        (t.gport p).t1 = none ∧ (t.gport p).t2t4 = none ∧ (∀ q, q ≠ p → t.gport q = s.gport q) ∧
        ((s.gport p).reqOut = false → s.RegsBut t [] ∧ (t.gport p).missed = (s.gport p).missed) ∧
        ((s.gport p).reqOut = true → (t.gport p).missed = (s.gport p).missed + 1 ∧
          t.fld (F.GPTP_PORT_STATUS_LOST p) = min 15 ((s.gport p).missed + 1) ∧
          (3 ≤ (s.gport p).missed + 1 → t.flag (F.GPTP_PORT_STATUS_AS_CAPABLE p) = false))) ∧
    (s.takeGptp [2] = some (m, b, u) → s.gptpRole m.port ≠ 0 →
      ∃ t, exec .pdelayReqReceive s = .next t ∧ s.Only t [.regs, .cnts, .data, .time, .mgt, .twin] ∧
        t.mgt.inbox = s.mgt.inbox.erase m ∧
        (t.gport m.port).answers = (s.gport m.port).answers ++ [(ptpSeq b, ptpSource b)]) ∧
    (s.takeGptp [3, 10] = some (m, b, u) → s.gptpRole m.port ≠ 0 → (s.gport m.port).reqOut = true →
      ptpSeq b = (s.gport m.port).seq → slice b 44 10 = s.portIdentity m.port →
      (ptpType b = 3 →
        ∃ t, exec .pdelayRespReceive s = .next t ∧ s.Only t [.regs, .cnts, .time, .mgt] ∧
          t.mgt.inbox = s.mgt.inbox.erase m ∧ t.regs = s.regs ∧
          (t.gport m.port).t2t4 = some (ptpTime b 34 * 65536 + (ptpCorr b).toNat, m.stamp / 16777216)) ∧
      (∀ t1 t2 t4, ptpType b ≠ 3 → (s.gport m.port).t1 = some t1 → (s.gport m.port).t2t4 = some (t2, t4) →
        (s.gport m.port).exchanges = 0 → (s.gport m.port).hist = [] →
        ∃ t, exec .pdelayRespReceive s = .next t ∧ s.Only t [.regs, .cnts, .time, .mgt] ∧
          t.mgt.inbox = s.mgt.inbox.erase m ∧ (t.gport m.port).reqOut = false ∧
          (t.fld (F.GPTP_PORT_DELAY_DELAY m.port) : Int) =
            max 0 (min 16777215 (pdelayOf t1 t2 ((ptpTime b 34 * 65536 : Nat) + ptpCorr b) t4 2199023255552)) ∧
          t.fld (F.GPTP_PORT_STATUS_LOST m.port) = 0))

/-- A grandmaster sends Syncs, a servo without measurements holds over. R219, R224. -/
def Obligations.GrandmasterAndHoldover : Prop :=
  ∀ s : State, s.running = true →
    (s.syncDue = false → exec .gmSyncSend s = .next s) ∧
    ((s.timeSource = 0 ∨ (s.timeSource = 1 ∧ s.time.ppsSeen = true)) → s.syncDue = true →
      ∃ t, exec .gmSyncSend s = .next t ∧ s.Only t [.cnts, .data, .time, .twin] ∧
        t.time = { s.time with
          gmSeq := (s.time.gmSeq + 1) % 65536,
          gmPorts := s.time.gmPorts ++ ((List.range 34).filter (fun p => s.gptpRole p == 1)).map
            (fun p => ((s.time.gmSeq + 1) % 65536, p, none)) } ∧ t.regs = s.regs) ∧
    (s.timeSource ≠ 0 →
      ∃ t, exec .syncMissed s = .next t ∧ s.Only t [.regs, .cnts, .mgt, .key] ∧
        t.fld F.TIME_STATUS_MISSED = min 15 (s.fld F.TIME_STATUS_MISSED + 1) ∧
        t.cnt (C.time 3) = s.cnt (C.time 3) + 1 ∧
        (s.servoState = 2 → max 2 (s.fld F.SERVO_CFG_MISS_LIMIT) ≤ min 15 (s.fld F.TIME_STATUS_MISSED + 1) →
          t.servoState = 3 ∧ t.rateAdj = s.avg ∧ t.integ = s.avg ∧ t.cnt (C.time 8) = s.cnt (C.time 8) + 1) ∧
        (s.servoState ≠ 2 ∨ min 15 (s.fld F.TIME_STATUS_MISSED + 1) < max 2 (s.fld F.SERVO_CFG_MISS_LIMIT) →
          t.servoState = s.servoState ∧ t.rateAdj = s.rateAdj ∧ s.RegsBut t [K.TIME_STATUS]))

/-- Pulses follow the counter, inputs take effect when agreed. R227, R229, R387. -/
def Obligations.PulsesAndInputsTakeEffect : Prop :=
  (∀ (s : State) (diff n : Nat) (falling : Bool), s.powered = true → n < 4 →
     (s.flag F.PPS_IN_CFG_EN = true → s.flag F.PPS_IN_CFG_FALLING = falling →
       ∃ t, exec (.ppsInEdge falling diff) s = .next t ∧
         t.time = { s.time with ppsEdge := some (s.time.now - 6 * fracPerNs, s.time.now - 6 * fracPerNs + diff) } ∧
           s.Only t [.time]) ∧
     ((s.flag F.PPS_IN_CFG_EN = false ∨ s.flag F.PPS_IN_CFG_FALLING ≠ falling) → exec (.ppsInEdge falling diff) s = .next s) ∧
     (s.ppsLevel n ≠ mapGet (fun _ => false) s.time.ppsOut n →
       ∃ t, exec (.ppsOutEdge n) s = .next t ∧ mapGet (fun _ => false) t.time.ppsOut n = s.ppsLevel n ∧
         t.out = .pps n (s.ppsActive n != s.flag (F.PPS_OUT_CTRL_POLARITY n)) :: s.out ∧ s.Only t [.time, .out]) ∧
     (s.ppsLevel n = mapGet (fun _ => false) s.time.ppsOut n → exec (.ppsOutEdge n) s = .next s)) ∧
  (∀ (s : State) (a b : Nat), s.powered = true → s.cycle % 64 ≠ 0 → exec (.inputEpoch a b) s = .next s) ∧
  (∀ (s : State) (a b : Nat), a < 32768 → b < 32768 → s.powered = true → s.cycle % 64 = 0 → s.time.ppsEdge = none →
     s.saf.mode = .normal → (∀ i, i < 15 → i ≠ 9 → s.runOf i < 15) →
     (∀ n, n < 5 → s.lineUsed n = true → (s.fld F.WAKE_STATUS_LEVEL).testBit n = s.agreedIn (10 + n)) →
     ∃ t, exec (.inputEpoch a b) s = .next t ∧
       (∀ i, i < 15 → i ≠ 9 → a.testBit i = b.testBit i → t.runOf i = 0 ∧
         mapGet (fun _ => false) t.saf.agreed i =
           if i < 10 then a.testBit i else (s.fld F.WAKE_STATUS_LEVEL).testBit (i - 10)) ∧
       (∀ i, i < 15 → i ≠ 9 → a.testBit i ≠ b.testBit i →
         mapGet (fun _ => false) t.saf.agreed i = mapGet (fun _ => false) s.saf.agreed i ∧ t.runOf i = s.runOf i + 1) ∧
       (∀ p, p < 8 → t.flag (F.MAC_STATUS_PHY_INT p) =
         if a.testBit p = b.testBit p then a.testBit p else s.flag (F.MAC_STATUS_PHY_INT p)) ∧
       t.cnt (C.saf 6) = s.cnt (C.saf 6) +
         BitVec.ofNat 64 (((List.range 15).filter (fun i => i != 9 && a.testBit i != b.testBit i)).length) ∧
       s.CntsBut t [C.saf 6] ∧ t.saf.leeTime = s.time.now ∧ t.data = s.data ∧ s.TimeKept t ∧
       ((∀ n, n < 4 → s.ppsLevel n = mapGet (fun _ => false) s.time.ppsOut n) → t.out = s.out))

/-- CAN frames come and go. R234, R235, R238 to R241, R251; the ISO 11898 counters are log entry 23, REC after a passive
reception log entry 59, the receive FIFO log entry 25. -/
def Obligations.CanFramesComeAndGo : Prop :=
  (∀ (s : State) (n ago : Nat) (f : CanFrame), n < 24 → canFrameOk f = true → s.powered = true → s.running = true →
     s.canOnBus n = true → (s.can n).cur = none → s.fld F.NM_STATE_RING < 2 →
     (s.canFormat n f = 0 → s.flag (F.CAN_CTRL_SHADOW n) = false → s.fld (F.CAN_STATUS_REC n) ≤ 127 →
       ∃ t, exec (.canFrameReceive n f ago) s = .next t ∧ s.Only t [.regs, .cnts, .mgt, .edge, .nm, .key, .saf] ∧
         t.cnt (C.edge n 0) = s.cnt (C.edge n 0) + 1 ∧
         t.fld (F.CAN_STATUS_REC n) = s.fld (F.CAN_STATUS_REC n) - 1 ∧
         t.fld (F.CAN_STATUS_LEC n) = 0 ∧ t.flag (F.CAN_STATUS_BUS_IDLE n) = true ∧
         (fifoFits (s.can n).fifo f.data.length = true → t.can n = { s.can n with
           fifo := (s.can n).fifo ++ [.pdu 0 n 0 f.fmt f.id f.data (s.edgeStamp ago) ⟨f.fdf, f.brs, f.rtr, f.xl⟩] }) ∧
         (fifoFits (s.can n).fifo f.data.length = false → t.can n = s.can n ∧
           t.cnt (C.edge n 6) = s.cnt (C.edge n 6) + 1 ∧ t.flag ⟨K.CAN_EVT n, 4, 4⟩ = true)) ∧
     (s.canFormat n f = 0 → s.flag (F.CAN_CTRL_SHADOW n) = true →
       (s.can n).reqs.any (fun r => r.id == f.id && r.fmt == f.fmt && r.fdf == f.fdf && r.data == f.data) = true →
       ∃ t, exec (.canFrameReceive n f ago) s = .next t ∧ s.Only t [.regs, .cnts, .mgt, .edge, .nm, .key, .saf] ∧
         t.cnt (C.edge n 10) = s.cnt (C.edge n 10) + 1 ∧
         (t.can n).reqs =
           (s.can n).reqs.filter (fun r => !(r.id == f.id && r.fmt == f.fmt && r.fdf == f.fdf && r.data == f.data)) ∧
         t.fld (F.CAN_STATUS_REC n) = s.fld (F.CAN_STATUS_REC n) ∧ t.fld (F.CAN_STATUS_TEC n) = s.fld (F.CAN_STATUS_TEC n)) ∧
     (s.canFormat n f = 1 →
       ∃ t, exec (.canFrameReceive n f ago) s = .next t ∧ s.Only t [.regs, .cnts, .fresh, .mgt, .key, .out] ∧
         t.cnt (C.edge n 2) = s.cnt (C.edge n 2) + 1 ∧
         t.out = (if s.flag (F.CAN_CTRL_SHADOW n) = true ∨ s.fld (F.CAN_CTRL_MODE n) = 2 then s.out else .canError n :: s.out) ∧
         (s.flag (F.CAN_CTRL_SHADOW n) = false → t.fld (F.CAN_STATUS_REC n) = min (s.fld (F.CAN_STATUS_REC n) + 1) 255) ∧
         s.RegsBut t (K.CAN_STATUS n :: K.CAN_EVT n :: journalKeys) ∧
         s.CntsBut t (C.edge n 2 :: C.edge n 7 :: eventCounters)) ∧
     (s.canFormat n f = 2 →
       ∃ t, exec (.canFrameReceive n f ago) s = .next t ∧ s.Only t [.regs, .cnts, .mgt, .key] ∧
         t.cnt (C.edge n 9) = s.cnt (C.edge n 9) + 1 ∧
         t.fld (F.CAN_STATUS_STATE n) = 3 ∧ s.CntsBut t (C.edge n 9 :: eventCounters))) ∧
  (∀ (s : State) (n : Nat), n < 24 → s.powered = true → s.canOnBus n = true →
     (∀ r, firstReq (s.can n).reqs = some r → (s.can n).cur = none → s.flag (F.CAN_CTRL_SHADOW n) = false →
       s.fld (F.CAN_CTRL_MODE n) = 1 → s.groupQuiet (s.chanGroup n) = false →
       (∀ x ∈ (s.can n).reqs, r.rank ≤ x.rank) ∧
       ∃ t, exec (.canArbitration n) s = .next t ∧ (t.can n).cur = some (r, s.edgeStamp 0) ∧
         (t.can n).reqs = (s.can n).reqs.erase r ∧
         t.flag (F.CAN_STATUS_BUS_IDLE n) = false ∧ (∀ m, m ≠ n → t.can m = s.can m) ∧ s.RegsBut t [K.CAN_STATUS n] ∧
         s.Only t [.regs, .edge]) ∧
     (∀ r stamp, (s.can n).cur = some (r, stamp) →
       (s.flag (F.CAN_CTRL_SHADOW n) = true → exec (.canTxComplete n) s = .next s) ∧
       (s.flag (F.CAN_CTRL_SHADOW n) = false →
       ∃ t, exec (.canTxComplete n) s = .next t ∧ s.Only t [.regs, .cnts, .mgt, .edge, .wvr, .key, .out] ∧
         t.can n = { s.can n with cur := none } ∧
         t.wvr = { s.wvr with confirms := mapSet (fun _ => 0) s.wvr.confirms n stamp } ∧
         t.cnt (C.edge n 1) = s.cnt (C.edge n 1) + 1 ∧
         t.out = .can n r.fmt r.id (b2n r.fdf + 2 * b2n r.brs) r.xl r.data :: s.out ∧
         t.fld (F.CAN_STATUS_TEC n) = s.fld (F.CAN_STATUS_TEC n) - 1 ∧ t.flag (F.CAN_STATUS_BUS_IDLE n) = true)))

/-- CAN errors move the counters, bus-off recovers in order. R244; the counters follow R243 with the step the command
carries (log entry 23). -/
def Obligations.CanErrorsAndBusOff : Prop :=
  (∀ (s : State) (n lec step : Nat), n < 24 → lec < 8 → (step = 0 ∨ step = 1 ∨ step = 8) → s.powered = true →
     s.canOnBus n = true → s.flag (F.CAN_CTRL_SHADOW n) = false →
     ((s.can n).cur = none →
       ∃ t, exec (.canBusError n lec false step) s = .next t ∧ s.Only t [.regs, .cnts, .mgt, .edge, .key, .out] ∧
         t.out = (if s.fld (F.CAN_CTRL_MODE n) = 2 then s.out else .canError n :: s.out) ∧
         t.fld (F.CAN_STATUS_LEC n) = lec ∧
         t.cnt (C.edge n 2) = s.cnt (C.edge n 2) + 1 ∧
         t.fld (F.CAN_STATUS_REC n) = min (s.fld (F.CAN_STATUS_REC n) + step) 255 ∧
         t.fld (F.CAN_STATUS_TEC n) = s.fld (F.CAN_STATUS_TEC n)) ∧
     (∀ r stamp, (s.can n).cur = some (r, stamp) →
       ∃ t, exec (.canBusError n lec true step) s = .next t ∧ s.Only t [.regs, .cnts, .mgt, .edge, .key, .out] ∧
         t.fld (F.CAN_STATUS_LEC n) = lec ∧ (t.can n).cur = none ∧
         t.fld (F.CAN_STATUS_TEC n) = min (s.fld (F.CAN_STATUS_TEC n) + step) 511 ∧
         t.fld (F.CAN_STATUS_REC n) = s.fld (F.CAN_STATUS_REC n) ∧
         t.flag (F.CAN_STATUS_WARN n) =
           (decide (96 ≤ s.fld (F.CAN_STATUS_TEC n) + step) || decide (96 ≤ s.fld (F.CAN_STATUS_REC n))) ∧
         t.fld (F.CAN_STATUS_STATE n) = (if 256 ≤ s.fld (F.CAN_STATUS_TEC n) + step then 2
           else if 128 ≤ s.fld (F.CAN_STATUS_TEC n) + step ∨ 128 ≤ s.fld (F.CAN_STATUS_REC n) then 1 else 0) ∧
         (256 ≤ s.fld (F.CAN_STATUS_TEC n) + step → t.cnt (C.edge n 7) = s.cnt (C.edge n 7) + 1 ∧
           (t.can n).holdOver = false ∧ (t.can n).recovering = false) ∧
         (s.fld (F.CAN_LIMITS_TX_RETRY n) = 0 → (t.can n).reqs = { r with fails := r.fails + 1 } :: (s.can n).reqs))) ∧
  (∀ (s : State) (n : Nat), n < 24 → s.powered = true →
     (s.fld (F.CAN_STATUS_STATE n) = 2 →
       (∃ t, exec (.busoffHoldEnd n) s = .next t ∧ (t.can n).holdOver = true ∧
         (t.can n).recovering = ((s.can n).recovering || (s.can n).asked || s.flag (F.CAN_CTRL_AUTO_RECOVER n)) ∧
           s.Only t [.edge]) ∧
       (s.busRuns (K.CAN_CTRL n) = true → (s.can n).asked = false →
         ∃ t, exec (.recover n) s = .next t ∧ (t.can n).asked = true ∧
           (t.can n).recovering = ((s.can n).recovering || (s.can n).holdOver) ∧ s.Only t [.edge]) ∧
       (s.busRuns (K.CAN_CTRL n) = true → (s.can n).asked = true →
         ∃ t, exec (.recover n) s = .next t ∧ t.flag (F.CAN_CTRL_ERR_BUSY n) = true ∧ s.RegsBut t [K.CAN_CTRL n] ∧
           s.Only t [.regs]) ∧
       ((s.can n).recovering = true →
         ∃ t, exec (.canRecoveryDone n) s = .next t ∧ t.fld (F.CAN_STATUS_STATE n) = 0 ∧ t.fld (F.CAN_STATUS_TEC n) = 0 ∧
           t.fld (F.CAN_STATUS_REC n) = 0 ∧ t.flag (F.CAN_STATUS_WARN n) = false ∧ (t.can n).recovering = false ∧
           (t.can n).asked = false ∧ (t.can n).holdOver = false ∧ (t.can n).reqs = (s.can n).reqs ∧
             s.RegsBut t [K.CAN_STATUS n] ∧ s.Only t [.regs, .edge])) ∧
     (s.fld (F.CAN_STATUS_STATE n) ≠ 2 →
       exec (.recover n) s = .next s ∧ exec (.busoffHoldEnd n) s = .next s ∧ exec (.canRecoveryDone n) s = .next s))

/-- Stuck channels are isolated, shadows are cleared, LIN commands act. R245, R246, R249, R252. -/
def Obligations.StuckChannelsAndShadows : Prop :=
  (∀ s : State, s.powered = true →
     (∀ n receiving, n < 24 → s.canLive n = true →
       ∃ t, exec (.canIsolate n receiving) s = .next t ∧ s.Only t [.regs, .cnts, .mgt, .edge, .key] ∧
         t.flag (F.CAN_STATUS_ISOLATED n) = true ∧ t.canLive n = false ∧
         (t.can n).cur = none ∧ t.flag ⟨K.CAN_EVT n, 3, 3⟩ = true ∧ t.cnt (C.edge n 8) = s.cnt (C.edge n 8) + 1 ∧
         s.RegsBut t (K.CAN_STATUS n :: K.CAN_EVT n :: journalKeys)) ∧
     (∀ n, n < 24 → s.flag (F.CAN_STATUS_ISOLATED n) = true →
       ∃ t, exec (.canIsolationEnd n) s = .next t ∧ t.flag (F.CAN_STATUS_ISOLATED n) = false ∧
         t.fld (F.CAN_STATUS_STATE n) = 3 ∧
         t.fld (F.CAN_STATUS_TEC n) = 0 ∧ t.fld (F.CAN_STATUS_REC n) = 0 ∧ s.RegsBut t [K.CAN_STATUS n] ∧ s.Only t [.regs, .wvr]) ∧
     (∀ n, n < 8 → s.linLive n = true →
       ∃ t, exec (.linIsolate n) s = .next t ∧ s.Only t [.regs, .cnts, .mgt, .edge, .key] ∧
         t.flag (F.LIN_STATUS_ISOLATED n) = true ∧ t.linLive n = false ∧
         (t.lin n).await = none ∧ t.flag ⟨K.LIN_EVT n, 4, 4⟩ = true ∧
           t.cnt (C.edge (24 + n) 8) = s.cnt (C.edge (24 + n) 8) + 1 ∧
         s.RegsBut t (K.LIN_STATUS n :: K.LIN_EVT n :: journalKeys)) ∧
     (∀ n, n < 8 → s.flag (F.LIN_STATUS_ISOLATED n) = true →
       ∃ t, exec (.linIsolationEnd n) s = .next t ∧ t.flag (F.LIN_STATUS_ISOLATED n) = false ∧
         t.flag (F.LIN_STATUS_BUS_IDLE n) = true ∧
         s.RegsBut t [K.LIN_STATUS n] ∧ s.Only t [.regs])) ∧
  (∀ (s : State) (n : Nat), n < 8 → s.powered = true →
     (s.busRuns (K.LIN_CTRL n) = true →
       (s.flag (F.LIN_STATUS_SWITCH_PENDING n) = true →
         ∃ t, exec (.switch n) s = .next t ∧ t.flag (F.LIN_CTRL_ERR_BUSY n) = true ∧ s.RegsBut t [K.LIN_CTRL n] ∧
           s.Only t [.regs]) ∧
       (s.flag (F.LIN_STATUS_SWITCH_PENDING n) = false →
         (s.linTableLen n (s.fld (F.LIN_STATUS_TABLE n)) = 0 ∨ s.fld (F.LIN_CTRL_MODE n) ≠ 1) →
         ∃ t, exec (.switch n) s = .next t ∧ t.fld (F.LIN_STATUS_TABLE n) = s.fld (F.LIN_CTRL_TABLE n) ∧ (t.lin n).next = 0 ∧
           (t.lin n).slotAt = some ((s.nowNs + 1999999) / 1000000 * 1000000) ∧
           s.RegsBut t [K.LIN_STATUS n] ∧ s.Only t [.regs, .edge]) ∧
       (s.flag (F.LIN_STATUS_SWITCH_PENDING n) = false → s.linTableLen n (s.fld (F.LIN_STATUS_TABLE n)) ≠ 0 →
         s.fld (F.LIN_CTRL_MODE n) = 1 →
         ∃ t, exec (.switch n) s = .next t ∧ t.flag (F.LIN_STATUS_SWITCH_PENDING n) = true ∧ s.RegsBut t [K.LIN_STATUS n] ∧
           s.Only t [.regs]) ∧
       ((s.lin n).pulse = true → ∃ t, exec (.wake n) s = .next t ∧ t.flag (F.LIN_CTRL_ERR_BUSY n) = true ∧
         s.RegsBut t [K.LIN_CTRL n] ∧
         s.Only t [.regs]) ∧
       ((s.lin n).pulse = false → s.linLive n = true → s.flag (F.LIN_CTRL_SHADOW n) = false →
         ∃ t, exec (.wake n) s = .next t ∧ (t.lin n).pulse = true ∧ t.out = .linWake n :: s.out ∧ s.Only t [.edge, .out])) ∧
     (∃ t, exec (.linWakePulseEnd n) s = .next t ∧ (t.lin n).pulse = false ∧ (t.lin n).await = (s.lin n).await ∧
       s.Only t [.edge]) ∧
     (s.shadows = false →
       (∀ m, m < 24 → s.flag (F.CAN_CTRL_SHADOW m) = true →
         ∃ t, exec (.shadowClear m) s = .next t ∧ s.Only t [.regs, .cnts, .mgt, .edge, .key] ∧
           t.flag (F.CAN_CTRL_SHADOW m) = false ∧ t.fld (F.CAN_STATUS_TEC m) = 0 ∧
           t.fld (F.CAN_STATUS_REC m) = 0 ∧ t.flag ⟨K.CAN_EVT m, 7, 7⟩ = true ∧
           s.RegsBut t (K.CAN_CTRL m :: K.CAN_STATUS m :: K.CAN_EVT m :: journalKeys)) ∧
       (s.flag (F.LIN_CTRL_SHADOW n) = true →
         ∃ t, exec (.shadowClear (24 + n)) s = .next t ∧ s.Only t [.regs, .cnts, .mgt, .key] ∧
           t.flag (F.LIN_CTRL_SHADOW n) = false ∧ t.flag ⟨K.LIN_EVT n, 7, 7⟩ = true ∧
           s.RegsBut t (K.LIN_CTRL n :: K.LIN_EVT n :: journalKeys))))

/-- LIN slots follow the table, responses are judged. R234, R238 to R240, R247 to R249; the instants of slots are log entry 70,
the parity of the identifier and the checksum log entry 13. -/
def Obligations.LinSlotsAndResponses : Prop :=
  (∀ (s : State) (n k : Nat), n < 8 → s.powered = true → s.linLive n = true → s.fld (F.LIN_CTRL_MODE n) = 1 →
     s.slotDue n = true → (s.lin n).goSleep = false → s.groupQuiet (s.chanGroup (24 + n)) = false →
     s.flag (F.LIN_STATUS_SWITCH_PENDING n) = false → s.linTableLen n (s.fld (F.LIN_STATUS_TABLE n)) ≠ 0 →
     k = (if s.linTableLen n (s.fld (F.LIN_STATUS_TABLE n)) ≤ (s.lin n).next then 0 else (s.lin n).next) →
     ∃ t, exec (.linSlot n) s = .next t ∧ s.Only t [.regs, .cnts, .edge, .wvr, .out] ∧ t.fld (F.LIN_STATUS_ENTRY n) = k % 64 ∧
       (t.lin n).next = k + 1 ∧
       (t.lin n).slotAt = (s.lin n).slotAt.map (fun a => a + 100000 * s.fld (F.LIN_SCHED_ENTRY_DELAY n
         (32 * s.fld (F.LIN_STATUS_TABLE n) + (k + 1) % s.linTableLen n (s.fld (F.LIN_STATUS_TABLE n))))) ∧
       (∀ id e, e = 32 * s.fld (F.LIN_STATUS_TABLE n) + k → s.flag (F.LIN_CTRL_SHADOW n) = false →
         ((s.fld (F.LIN_SCHED_ENTRY_TYPE n e) < 2 ∧ id = s.fld (F.LIN_SCHED_ENTRY_ID n e)) ∨
           (s.fld (F.LIN_SCHED_ENTRY_TYPE n e) = 3 ∧ id = 0x3D)) →
         (s.linBusy n = true → t.out = s.out ∧ t.wvr = s.wvr ∧ (t.lin n).waiting = some (id, none) ∧
           t.cnt (C.edge (24 + n) 7) = s.cnt (C.edge (24 + n) 7) + 1) ∧
         (s.linBusy n = false → t.cnt (C.edge (24 + n) 0) = s.cnt (C.edge (24 + n) 0) + 1 ∧
           (s.linDir n id = 0 → t.out = .linHeader n (s.fld (F.LIN_CFG_BREAK_BITS n)) 0x55 (linPid id) :: s.out) ∧
           (s.linDir n id = 2 → (t.lin n).await = some id ∧
             t.out = .linHeader n (s.fld (F.LIN_CFG_BREAK_BITS n)) 0x55 (linPid id) :: s.out) ∧
           (s.linDir n id = 1 → ∀ d, s.linData n id = some d →
             t.out = .linResponse n (padTo (s.linLen n id) 0 d ++ [s.linChecksum n id (padTo (s.linLen n id) 0 d)]) ::
               .linHeader n (s.fld (F.LIN_CFG_BREAK_BITS n)) 0x55 (linPid id) :: s.out))) ∧
       (s.fld (F.LIN_SCHED_ENTRY_TYPE n (32 * s.fld (F.LIN_STATUS_TABLE n) + k)) = 2 → (s.lin n).diag = none →
         t.out = s.out ∧ t.cnts = s.cnts)) ∧
  (∀ (s : State) (n id ago : Nat), n < 8 → id < 64 → s.powered = true → s.linLive n = true → s.fld (F.LIN_CTRL_MODE n) = 2 →
     (∃ t, exec (.linHeaderReceive n id ⟨false, ago⟩) s = .next t ∧ s.Only t [.regs, .cnts, .mgt, .key] ∧
       t.cnt (C.edge (24 + n) 9) = s.cnt (C.edge (24 + n) 9) + 1 ∧ t.flag ⟨K.LIN_EVT n, 5, 5⟩ = true) ∧
     (s.linDir n id = 0 →
       ∃ t, exec (.linHeaderReceive n id ⟨true, ago⟩) s = .next t ∧ s.Only t [.edge] ∧ (t.lin n).await = none) ∧
     (s.linDir n id = 2 →
       ∃ t, exec (.linHeaderReceive n id ⟨true, ago⟩) s = .next t ∧ s.Only t [.regs, .edge] ∧ (t.lin n).await = some id ∧
         s.RegsBut t [K.LIN_STATUS n]) ∧
     (∀ d, s.linDir n id = 1 → s.linData n id = some d → s.flag (F.LIN_CTRL_SHADOW n) = false →
       ∃ t, exec (.linHeaderReceive n id ⟨true, ago⟩) s = .next t ∧ s.Only t [.regs, .cnts, .edge, .wvr, .out] ∧
         t.cnt (C.edge (24 + n) 2) = s.cnt (C.edge (24 + n) 2) + 1 ∧
         t.wvr = { s.wvr with confirms := mapSet (fun _ => 0) s.wvr.confirms (24 + n) (s.edgeStamp ago) } ∧
         t.out = .linResponse n (padTo (s.linLen n id) 0 d ++ [s.linChecksum n id (padTo (s.linLen n id) 0 d)]) :: s.out)) ∧
  (∀ (s : State) (n i ago : Nat) (bytes : List Byte), n < 8 → bytes.length < 10 → s.powered = true → s.linLive n = true →
     (s.lin n).await = some i → (s.lin n).waiting = none → s.fld F.NM_STATE_RING < 2 →
     (∃ t, exec (.linResponseTimeout n) s = .next t ∧ s.Only t [.regs, .cnts, .mgt, .edge, .key] ∧
       (t.lin n).await = none ∧ t.cnt (C.edge (24 + n) 3) = s.cnt (C.edge (24 + n) 3) + 1 ∧
       t.flag ⟨K.LIN_EVT n, 0, 0⟩ = true) ∧
     (∃ t, exec (.linFrameReceive n bytes .whole ago) s = .next t ∧
       s.Only t [.regs, .cnts, .mgt, .edge, .nm, .key, .saf] ∧ (t.lin n).await = none ∧
       (bytes.length ≤ s.linLen n i → (t.lin n).fifo = (s.lin n).fifo ∧
         t.cnt (C.edge (24 + n) 3) = s.cnt (C.edge (24 + n) 3) + 1 ∧ t.flag ⟨K.LIN_EVT n, 0, 0⟩ = true) ∧
       (s.linLen n i < bytes.length → bytes.getD (s.linLen n i) 0 ≠ s.linChecksum n i (bytes.take (s.linLen n i)) →
         (t.lin n).fifo = (s.lin n).fifo ∧
         t.cnt (C.edge (24 + n) 4) = s.cnt (C.edge (24 + n) 4) + 1 ∧ t.flag ⟨K.LIN_EVT n, 1, 1⟩ = true) ∧
       (s.linLen n i < bytes.length → bytes.getD (s.linLen n i) 0 = s.linChecksum n i (bytes.take (s.linLen n i)) →
         t.cnt (C.edge (24 + n) 1) = s.cnt (C.edge (24 + n) 1) + 1 ∧
         (s.running = true → fifoFits (s.lin n).fifo (s.linLen n i) = true →
           (t.lin n).fifo = (s.lin n).fifo ++
             [.pdu 0 (24 + n) 0 0 i (bytes.take (s.linLen n i)) (s.edgeStamp ago) .none]))))

/-- The Weaver takes its units in order and runs their routes. R256 to R262; it reads the receive FIFOs first (log entry 25). -/
def Obligations.UnitsRunTheirRoutes : Prop :=
  (∀ (s : State) (ty src z fmt id stamp : Nat) (pr : Proto) (data : List Byte) (rest : List WUnit), s.running = true →
    s.twin.snapping = false → s.fifosEmpty →
     s.wvr.units = .pdu ty src z fmt id data stamp pr :: rest →
     (s.pduMatch ty src z fmt id = none →
       ∃ t, exec .weaverUnit s = .next t ∧ t.wvr = { s.wvr with units := rest } ∧ t.cnt (C.wvr 0) = s.cnt (C.wvr 0) + 1 ∧
         t.cnt (C.wvr 1) = s.cnt (C.wvr 1) + 1 ∧ s.CntsBut t [C.wvr 0, C.wvr 1] ∧ s.Only t [.cnts, .wvr]) ∧
     (∀ i, s.pduMatch ty src z fmt id = some i → s.routesOf i = [] → s.wvr.openFrames = [] →
       ∃ t, exec .weaverUnit s = .next t ∧ t.wvr = { s.wvr with units := rest } ∧ t.cnt (C.wvr 0) = s.cnt (C.wvr 0) + 1 ∧
         s.CntsBut t [C.wvr 0] ∧ t.image i = padTo 64 0 (data.take (s.pduLen i)) ∧
         s.RegsBut t ((List.range 16).map (fun j => K.WVR_IMG j i)) ∧ s.Only t [.regs, .cnts, .wvr])) ∧
  (∀ (s : State) (n ty src z fmt id stamp : Nat) (pr : Proto) (data : List Byte) (c : CanSt) (r : List WUnit), s.running = true →
     s.twin.snapping = false → s.edge.can = [(n, c)] → c.fifo = .pdu ty src z fmt id data stamp pr :: r → s.edge.lin = [] →
     s.wvr.units = [] → s.pduMatch ty src z fmt id = none →
     ∃ t, exec .weaverUnit s = .next t ∧ t.can n = { c with fifo := r } ∧ t.wvr.units = [] ∧
       t.cnt (C.wvr 0) = s.cnt (C.wvr 0) + 1 ∧ t.cnt (C.wvr 1) = s.cnt (C.wvr 1) + 1 ∧ s.CntsBut t [C.wvr 0, C.wvr 1] ∧
       s.Only t [.cnts, .edge, .wvr]) ∧
  (∀ (s : State) (ty src z fmt id stamp i r dst : Nat) (y : Int) (pr : Proto) (data : List Byte) (rest : List WUnit),
    s.running = true →
     s.twin.snapping = false → s.fifosEmpty → s.wvr.units = .pdu ty src z fmt id data stamp pr :: rest → s.wvr.openFrames = [] →
     s.pduMatch ty src z fmt id = some i → s.routesOf i = [r] → s.rtCovered r (data.take (s.pduLen i)).length = true →
     s.rtCompute r (data.take (s.pduLen i)) false = ⟨some y, false, false⟩ → s.flag (F.WVR_RT_DATA0_DST_KIND r) = false →
     dst = s.fld (F.WVR_RT_DATA0_DST r) → s.isTxPdu dst = true → s.pdu2 dst 31 30 = 0 → 2 ≤ s.pduKind dst →
     ∃ t, exec .weaverUnit s = .next t ∧ s.Only t [.regs, .cnts, .mgt, .edge, .wvr, .ldg, .twin, .key] ∧
       t.wvr = { s.wvr with units := rest } ∧
       t.image dst = insertSig (s.image dst) (s.fld (F.WVR_RT_DATA2_DST_START r)) (s.fld (F.WVR_RT_DATA2_DST_LEN_M1 r) + 1)
         (s.flag (F.WVR_RT_DATA2_DST_ORDER r)) (s.rtClamp r y) ∧
       t.flag (F.WVR_PDU_STATE_WRITTEN dst) = true ∧ t.cnt (C.wvr 0) = s.cnt (C.wvr 0) + 1 ∧
       t.cnt (C.wvr 4) = s.cnt (C.wvr 4) + 1 ∧ s.CntsBut t [C.wvr 0, C.wvr 4])

/-- A route computes exactly. R261, R262. -/
def Obligations.RouteArithmetic : Prop :=
  ∀ (s : State) (r : Nat) (img : List Byte) (x y : Int),
    x = extractSig img (s.fld (F.WVR_RT_DATA1_SRC_START r)) (s.fld (F.WVR_RT_DATA1_SRC_LEN_M1 r) + 1)
      (s.flag (F.WVR_RT_DATA1_SRC_ORDER r)) (s.flag (F.WVR_RT_DATA1_SRC_SIGNED r)) →
    y = (x * s.rtWord (K.WVR_RT_DATA3 r) + s.rtWord (K.WVR_RT_DATA4 r) +
      (if s.flag (F.WVR_RT_DATA0_ROUND r) = true ∧
        0 < s.fld (F.WVR_RT_DATA1_S r) then 2 ^ (s.fld (F.WVR_RT_DATA1_S r) - 1) else 0)) /
        2 ^ s.fld (F.WVR_RT_DATA1_S r) →
    s.flag (F.WVR_RT_DATA0_ENUM_EN r) = false →
    (s.flag (F.WVR_RT_DATA0_RANGE_EN r) = false ∨ (s.rtWord (K.WVR_RT_DATA5 r) ≤ y ∧ y ≤ s.rtWord (K.WVR_RT_DATA6 r)) →
      s.rtCompute r img false = ⟨some y, false, false⟩) ∧
    (s.flag (F.WVR_RT_DATA0_RANGE_EN r) = true → (y < s.rtWord (K.WVR_RT_DATA5 r) ∨ s.rtWord (K.WVR_RT_DATA6 r) < y) →
      s.rtCompute r img false = if s.fld (F.WVR_RT_DATA0_RANGE_ACT r) = 0 then ⟨some y, true, false⟩
        else if s.fld (F.WVR_RT_DATA0_RANGE_ACT r) = 1 then ⟨some (s.rtWord (K.WVR_RT_DATA7 r)), true, true⟩ else ⟨none,
          true, false⟩) ∧
    s.rtCompute r img true = (if s.flag (F.WVR_RT_DATA0_TMO_ACT r) then ⟨some (s.rtWord (K.WVR_RT_DATA7 r)), false, true⟩
      else ⟨none, false, false⟩)

/-- PDUs time out, held frames close in time. R257, R266, R279; HOLD_US counts CLK_CORE cycles (log entry 71). -/
def Obligations.WeaverTimesOutAndCloses : Prop :=
  (∀ (s : State) (i d : Nat), i < 4096 → s.running = true → mapGet (fun _ => none) s.wvr.deadline i = some d →
     (d ≤ s.nowNs → s.pduStandby i = false →
       ∃ t, exec (.pduTimeout i) s = .next t ∧ s.Only t [.regs, .cnts, .mgt, .wvr, .key] ∧
         t.flag (F.WVR_PDU_STATE_TIMED_OUT i) = true ∧
         mapGet (fun _ => none) t.wvr.deadline i = none ∧ t.cnt (C.wvr 6) = s.cnt (C.wvr 6) + 1 ∧
         t.flag ⟨K.WVR_EVT, 0, 0⟩ = true ∧
         (s.wvr.units.length < 256 → t.cnt (C.wvr 3) = s.cnt (C.wvr 3) ∧
           t.wvr.units = s.wvr.units.take (s.wvr.units.length - s.newUnits) ++
             rankIn (.timeout i) (s.wvr.units.drop (s.wvr.units.length - s.newUnits))) ∧
         (s.newUnits = 0 → s.wvr.units.length < 256 → t.wvr.units = s.wvr.units ++ [.timeout i]) ∧
         (s.newUnits = 0 → 256 ≤ s.wvr.units.length → t.wvr.units = s.wvr.units ∧ t.cnt (C.wvr 3) = s.cnt (C.wvr 3) + 1)) ∧
     ((s.nowNs < d ∨ s.pduStandby i = true) → exec (.pduTimeout i) s = .next s)) ∧
  (∀ (s : State) (c : Nat) (f : OpenFrame), c < 512 → s.running = true → s.openFrame c = f → f.pdus ≠ [] →
     (f.since + 500 * s.fld (F.WVR_CAR_CFG1_HOLD_US c) ≤ s.cycle →
       ∃ t, exec (.carrierFrameClose c) s = .next t ∧ s.Only t [.regs, .cnts, .mgt, .wvr, .key] ∧ t.openFrame c = ⟨[], 0⟩ ∧
         (∀ p ∈ f.pdus, t.flag (F.WVR_PDU_STATE_IN_FRAME p.pdu) = false) ∧
         mapGet (fun _ => 0) t.wvr.carSeq c =
           (mapGet (fun _ => 0) s.wvr.carSeq c + 1) % (if s.fld (F.WVR_CAR_CFG0_FORMAT c) = 0 then 256 else 65536) ∧
         (s.mgt.wvLane.length < 64 → t.cnt (C.wvr 12) = s.cnt (C.wvr 12) + 1 ∧
           t.mgt.wvLane = s.mgt.wvLane ++ [⟨s.carrierFrame c (f.pdus.flatMap (fun p => s.entryBytes p.pdu p.img p.time)),
             ⟨s.fld (F.WVR_CAR_CFG0_ZONE c), none, earliest (f.pdus.map (fun p => p.launch))⟩⟩]) ∧
         (64 ≤ s.mgt.wvLane.length → t.mgt.wvLane = s.mgt.wvLane ∧ t.cnt (C.wvr 13) = s.cnt (C.wvr 13) + 1)) ∧
     (s.cycle < f.since + 500 * s.fld (F.WVR_CAR_CFG1_HOLD_US c) → exec (.carrierFrameClose c) s = .next s))

/-- Sends place a request on their channel. R270 to R272, R275; the form of a CAN PDU. Gaps count CLK_CORE cycles (log entry 71). -/
def Obligations.SendsPlaceRequests : Prop :=
  ∀ (s : State) (i n : Nat), s.pduKind i = 0 → n = s.pduChannel i → s.maySend i = true → s.fld (F.CAN_CTRL_MODE n) = 1 →
    s.chanHeld n = false → s.flag (F.CAN_STATUS_ISOLATED n) = false → s.fld (F.CAN_STATUS_STATE n) ≠ 2 →
    s.flag (F.CAN_CTRL_SHADOW n) = false → (s.can n).reqs.length + b2n (s.can n).cur.isSome < 32 →
    let req : CanReq := ⟨s.pduFmt i, s.pduId i, s.pdu2 i 27 27 == 1, s.pdu2 i 26 26 == 1,
      if s.pduFmt i = 2 then [0, 0, 0, 0] else [], (s.image i).take (s.pduLen i), 0⟩
    (i = s.fld F.WVR_PDU_INDEX_INDEX → s.mcRuns = true → s.cyclicNow i = false →
      (∀ e, s.gapEnd i = some e → e ≤ s.cycle) →
      ∃ t, exec .send s = .next t ∧ s.Only t [.regs, .cnts, .mgt, .edge, .wvr, .key] ∧
        (t.can n).reqs = (s.can n).reqs ++ [req] ∧ t.cnt (C.wvr 8) = s.cnt (C.wvr 8) + 1 ∧
        mapGet (fun _ => none) t.wvr.lastSend i = some s.cycle ∧ mapGet (fun _ => 0) t.wvr.stamps i = s.nowNs) ∧
    (i = s.fld F.WVR_PDU_INDEX_INDEX → s.mcRuns = true → s.cyclicNow i = true →
      ∃ t, exec .send s = .next t ∧ t.edge = s.edge ∧ t.cnt (C.wvr 8) = s.cnt (C.wvr 8)) ∧
    (∀ e, i = s.fld F.WVR_PDU_INDEX_INDEX → s.mcRuns = true → s.cyclicNow i = false → s.gapEnd i = some e → s.cycle < e →
      s.flag (F.WVR_PDU_STATE_DEFERRED i) = false →
      ∃ t, exec .send s = .next t ∧ s.Only t [.regs, .cnts, .mgt, .edge, .wvr, .key] ∧ t.edge = s.edge ∧
        t.flag (F.WVR_PDU_STATE_DEFERRED i) = true ∧
        t.cnt (C.wvr 10) = s.cnt (C.wvr 10) + 1) ∧
    (∀ e, s.running = true → s.deferredReady = [(i, e)] →
      ∃ t, exec .deferredSend s = .next t ∧ s.Only t [.regs, .cnts, .mgt, .edge, .wvr, .key] ∧
        (t.can n).reqs = (s.can n).reqs ++ [req] ∧ t.cnt (C.wvr 8) = s.cnt (C.wvr 8) + 1 ∧
        t.flag (F.WVR_PDU_STATE_DEFERRED i) = false ∧
        mapGet (fun _ => 0) t.wvr.stamps i = s.nowNs - 2 * (s.cycle - e)) ∧
    (∀ d, s.running = true → s.wvr.due = [(i, some d)] → d ≤ s.nowNs →
      ∃ t, exec .cyclicSend s = .next t ∧ s.Only t [.regs, .cnts, .mgt, .edge, .wvr, .key] ∧
        (t.can n).reqs = (s.can n).reqs ++ [req] ∧ t.cnt (C.wvr 8) = s.cnt (C.wvr 8) + 1 ∧
        t.dueOf i = some (d + 1000 * s.pduUs i) ∧ mapGet (fun _ => 0) t.wvr.stamps i = d)

/-- Weaver and MACsec entries commit whole. R288, R289, R303, R310. -/
def Obligations.WeaverAndSecureEntriesCommit : Prop :=
  (∀ (s : State) (value : Word), s.mcRuns = true →
     (let i := s.fld F.WVR_PDU_INDEX_INDEX
      ∃ t, exec .wvrPduCommit s = .next t ∧ s.Only t [.regs, .cnts, .held, .mgt, .wvr, .key] ∧
       ∀ k ∈ [K.WVR_PDU_DATA0 i, K.WVR_PDU_DATA1 i, K.WVR_PDU_DATA2 i, K.WVR_PDU_DATA3 i, K.WVR_PDU_DATA4 i, K.WVR_PDU_DATA5
         i,
         K.WVR_PDU_DATA6 i], t.reg k = s.heldOr k ∧ t.heldWord k = none) ∧
     (let r := s.fld F.WVR_RT_INDEX_INDEX
      let denied := match s.routeOwner r with
        | some i => wordBits (s.heldOr (K.WVR_RT_DATA0 r)) 31 31 == 1 && wordBits (s.heldOr (K.WVR_RT_DATA0 r)) 30 30 == 0 &&
            s.isTxPdu (wordBits (s.heldOr (K.WVR_RT_DATA0 r)) 11 0) &&
            !s.flag (F.ZONE_PAIR_PERMIT (16 * s.pduZone i + s.pduZone (wordBits (s.heldOr (K.WVR_RT_DATA0 r)) 11 0)))
        | none => false
      ∃ t, exec (.wvrRouteCommit value) s = .next t ∧
       (denied = true → t.flag ⟨K.WVR_EVT, 7, 7⟩ = true ∧ s.RegsBut t (K.WVR_EVT :: journalKeys) ∧ t.held = s.held) ∧
       (denied = false → t.reg (K.WVR_RT_DATA7 r) = value ∧ s.Only t [.regs, .held] ∧
         ∀ k ∈ [K.WVR_RT_DATA0 r, K.WVR_RT_DATA1 r, K.WVR_RT_DATA2 r, K.WVR_RT_DATA3 r, K.WVR_RT_DATA4 r, K.WVR_RT_DATA5 r,
           K.WVR_RT_DATA6 r], t.reg k = s.heldOr k ∧ t.heldWord k = none)) ∧
     (let c := s.fld F.WVR_CAR_INDEX_INDEX
      ∃ t, exec (.wvrCarrierCommit value) s = .next t ∧ t.reg (K.WVR_CAR_CFG1 c) = value ∧ s.Only t [.regs, .held] ∧
       (t.reg (K.WVR_CAR_CFG0 c) = s.heldOr (K.WVR_CAR_CFG0 c)) ∧
       (∀ j, j < 16 → t.reg (K.WVR_CAR_TPL j c) = s.heldOr (K.WVR_CAR_TPL j c))) ∧
     (∀ j, j < 16 →
       let i := s.fld F.WVR_PDU_INDEX_INDEX
       ∃ t, exec (.wvrImageWrite j value) s = .next t ∧
         (s.pduTx i = true → t.reg (K.WVR_IMG j i) = value ∧ s.RegsBut t [K.WVR_IMG j i] ∧ s.Only t [.regs]) ∧
         (s.pduTx i = false → t.flag ⟨K.WVR_EVT, 7, 7⟩ = true ∧ s.RegsBut t (K.WVR_EVT :: journalKeys))) ∧
     (∃ t, exec .wvrPduStampCapture s = .next t ∧ s.Only t [.busData, .wvr] ∧
       t.wvr = { s.wvr with capStamp := mapGet (fun _ => 0) s.wvr.stamps (s.fld F.WVR_PDU_INDEX_INDEX) } ∧
       t.busData = BitVec.ofNat 32 (mapGet (fun _ => 0) s.wvr.stamps (s.fld F.WVR_PDU_INDEX_INDEX) % 1000000000))) ∧
  (∀ (s : State) (p : Nat) (value : Word), p < 10 →
     (s.mcRuns = true →
       let i := s.fld (F.SEC_SA_INDEX_SA p)
       let keys := [K.SEC_SA_SCI_LO p i, K.SEC_SA_SCI_HI p i, K.SEC_SA_PN_LO p i, K.SEC_SA_PN_HI p i, K.SEC_SA_SALT0 p i,
           K.SEC_SA_SALT1 p i, K.SEC_SA_SALT2 p i, K.SEC_SA_SSCI p i]
       (i < 4 ∨ s.receiving p = false →
         ∃ t, exec (.secSaCommit p value) s = .next t ∧ t.reg (K.SEC_SA_CFG p i) = value &&& 0xFFE00000 ∧
           s.Only t [.regs, .held] ∧ ∀ k ∈ keys, t.reg k = s.heldOr k ∧ t.heldWord k = none) ∧
       (4 ≤ i → s.receiving p = true →
         ∃ t, exec (.secSaCommit p value) s = .next t ∧ s.Only t [.held, .ports] ∧ (∀ k ∈ keys, t.heldWord k = none) ∧
           mapGet (fun _ => []) t.ports.saWait (32 * p + i) = keys.map s.heldOr ++ [value &&& 0xFFE00000])) ∧
     (s.powered = true →
       ∃ t, exec (.txAnApply p) s = .next t ∧ t.txAn p = s.fld (F.SEC_CFG_TX_AN p) ∧ (∀ q, q ≠ p → t.txAn q = s.txAn q) ∧
         s.RegsBut t [K.SEC_STATUS p] ∧ s.Only t [.regs, .ports] ∧
         (s.saUsable p (s.fld (F.SEC_CFG_TX_AN p)) = true → t.flag (F.SEC_STATUS_TX_STALLED p) = false) ∧
         (s.saUsable p (s.fld (F.SEC_CFG_TX_AN p)) = false → t.regs = s.regs)))

/-- Key commands act on their slot. R319 to R321; the places of the fields in the bodies of the commands are open (log entry
28): the
conclusion holds for what the body gives. -/
def Obligations.KeyCommandsActOnTheirSlot : Prop :=
  ∀ (s : State) (c : Cmd) (rest : List Cmd), s.mcRuns = true → s.mgt.execQ = c :: rest → s.key.keyOp = none →
    (c.opcode = 0x30 → ∃ t, exec .keyLoad s = .next t ∧
      ∀ serial i type kdfId kcv wrapped, Config.keyBody 0x30 c.body = some (serial, i, type, kdfId, kcv, wrapped) →
        i < 512 → type < 4 → kcv < 2 ^ 24 →
        (∀ k, serial = s.serial → aesUnwrap (s.xportKey c.origin) wrapped = some k → k.length = keyLen type →
          kcvOf k = kcv →
          t.slot i = (s.slot i).setPend (.of type k) ∧ t.fld (F.KEY_SLOT_PEND_TYPE i) = type ∧
          t.fld (F.KEY_SLOT_PEND_SOURCE i) = 0 ∧ t.fld (F.KEY_SLOT_PEND_KCV i) = kcv ∧
          t.fld (F.KEY_SLOT_INFO_STATE i) =
            (if s.fld (F.KEY_SLOT_INFO_STATE i) = 1 ∨ s.fld (F.KEY_SLOT_INFO_STATE i) = 2 then 2 else 3) ∧
          t.fld (F.KEY_SLOT_INFO_KCV i) = s.fld (F.KEY_SLOT_INFO_KCV i) ∧
          t.key.keyOp = some (0x30, 0) ∧ t.flag F.KEY_STATUS_BUSY = true ∧
          s.RegsBut t [K.KEY_SLOT_PEND i, K.KEY_SLOT_INFO i, K.KEY_STATUS] ∧ s.Only t [.regs, .key]) ∧
        (serial ≠ s.serial ∨ aesUnwrap (s.xportKey c.origin) wrapped = none ∨
          (∃ k, aesUnwrap (s.xportKey c.origin) wrapped = some k ∧ (k.length ≠ keyLen type ∨ kcvOf k ≠ kcv)) →
          t.key.slots = s.key.slots ∧ t.key.keyOp = some (0x30, 0x17) ∧ t.flag F.KEY_STATUS_KCV_MISMATCH = true ∧
          s.RegsBut t (K.KEY_STATUS :: journalKeys))) ∧
    (c.opcode = 0x31 → ∃ t, exec .keyDerive s = .next t ∧
      ∀ serial i type kdfId kcv wrapped, Config.keyBody 0x31 c.body = some (serial, i, type, kdfId, kcv, wrapped) →
        i < 512 → type < 4 → kcv < 2 ^ 24 →
        (kcvOf (s.sakKey i kdfId type) = kcv →
          t.slot i = (s.slot i).setPend (.of type (s.sakKey i kdfId type)) ∧ t.fld (F.KEY_SLOT_PEND_TYPE i) = type ∧
          t.fld (F.KEY_SLOT_PEND_SOURCE i) = 1 ∧ t.fld (F.KEY_SLOT_PEND_KCV i) = kcv ∧ t.key.keyOp = some (0x31, 0) ∧
          s.RegsBut t [K.KEY_SLOT_PEND i, K.KEY_SLOT_INFO i, K.KEY_STATUS] ∧ s.Only t [.regs, .key]) ∧
        (kcvOf (s.sakKey i kdfId type) ≠ kcv →
          t.key.slots = s.key.slots ∧ t.key.keyOp = some (0x31, 0x17) ∧ t.flag F.KEY_STATUS_KCV_MISMATCH = true ∧
          s.RegsBut t (K.KEY_STATUS :: journalKeys))) ∧
    (c.opcode = 0x32 → ∃ t, exec .keyPromote s = .next t ∧
      ∀ serial i type kdfId kcv wrapped, Config.keyBody 0x32 c.body = some (serial, i, type, kdfId, kcv, wrapped) → i < 512 →
        (2 ≤ s.fld (F.KEY_SLOT_INFO_STATE i) → kcvOf (s.slot i).pend = kcv →
          t.slot i = (s.slot i).switch.setPend .zero ∧ t.fld (F.KEY_SLOT_INFO_STATE i) = 1 ∧
          t.fld (F.KEY_SLOT_INFO_TYPE i) = s.fld (F.KEY_SLOT_PEND_TYPE i) ∧
          t.fld (F.KEY_SLOT_INFO_SOURCE i) = s.fld (F.KEY_SLOT_PEND_SOURCE i) ∧
          t.fld (F.KEY_SLOT_INFO_KCV i) = s.fld (F.KEY_SLOT_PEND_KCV i) ∧ t.reg (K.KEY_SLOT_PEND i) = 0 ∧
          t.key.keyOp = some (0x32, 0) ∧ s.RegsBut t [K.KEY_SLOT_PEND i, K.KEY_SLOT_INFO i, K.KEY_STATUS] ∧
          s.Only t [.regs, .key]) ∧
        (s.fld (F.KEY_SLOT_INFO_STATE i) < 2 ∨ kcvOf (s.slot i).pend ≠ kcv →
          t.key.slots = s.key.slots ∧ t.key.keyOp = some (0x32, 0x17) ∧ s.RegsBut t (K.KEY_STATUS :: journalKeys))) ∧
    (c.opcode = 0x33 → ∃ t, exec .keyErase s = .next t ∧
      ∀ serial i type kdfId kcv wrapped, Config.keyBody 0x33 c.body = some (serial, i, type, kdfId, kcv, wrapped) → i < 512 →
        t.slot i = .empty ∧ t.reg (K.KEY_SLOT_INFO i) = 0 ∧ t.reg (K.KEY_SLOT_PEND i) = 0 ∧
        (∀ j, j ≠ i → t.slot j = s.slot j) ∧ t.key.keyOp = some (0x33, 0) ∧
        s.RegsBut t [K.KEY_SLOT_PEND i, K.KEY_SLOT_INFO i, K.KEY_STATUS] ∧ s.Only t [.regs, .key])

/-- The key engine serves its commands and uses each leaf once. R316, R317, R322, R325, R326, R329, R337; bodies of
LC_ADVANCE and what
an exhausted key does are log entries 28 and 47. -/
def Obligations.KeyEngineServesItsCommands : Prop :=
  (∀ (s : State) (c : Cmd) (rest : List Cmd), s.mcRuns = true → s.mgt.execQ = c :: rest →
     (∀ status, s.key.keyOp = some (c.opcode, status) →
       ∃ t, exec .keyOperationDone s = .next t ∧ t.key.keyOp = none ∧ t.flag F.KEY_STATUS_BUSY = false ∧ t.mgt.execQ = rest ∧
         t.key.slots = s.key.slots ∧ s.RegsBut t (K.KEY_STATUS :: journalKeys) ∧ s.Only t [.regs, .mgt, .key]) ∧
     (c.opcode = 0x34 → c.origin < 64 →
       ∃ t, exec .cmdKeyAdvance s = .next t ∧ t.fld (F.MGT_LAST_SEQ_SEQ c.origin) = 0 ∧ t.mgt.execQ = rest ∧
         s.RegsBut t (K.MGT_LAST_SEQ c.origin :: journalKeys) ∧ s.Only t [.regs, .mgt, .key]) ∧
     (c.opcode = 0x35 → s.mgt.attesting = false →
       ∃ t r, exec .attest s = .next t ∧ t.mgt = { s.mgt with attesting := true } ∧ r ∈ t.key.signQ ∧ r.key = 0 ∧
         r.what = .attest c ∧ r.payload = s.attestPayload c.body ∧ t.key.signQ.length = s.key.signQ.length + 1 ∧
         s.Only t [.mgt, .key]) ∧
     (c.opcode = 0x36 → ∀ env lost, startOk env = true → (∀ k, lost = some k → 5 ≤ k ∧ k ≤ 7) → s.key.transition = none →
       s.key.signQ.any s.signable = false →
       s.flag (F.LMS_STATUS_READY 2) = false → s.fld F.LDG_NEXT_INDEX < 0xFFFFFFFF →
         s.ldg.batchFirst ≤ s.fld F.LDG_NEXT_INDEX →
       ∃ t, exec (.lcAdvance ⟨env, lost⟩) s = .next t ∧
         ∀ serial target hash, Config.lcBody c.body = some (serial, target, hash) → target < 8 →
           t.flag F.LCS_STATUS_TRANSITION = true ∧ t.fld F.LCS_STATUS_TARGET = target ∧
           t.fld F.LCS_STATUS_STATE = s.fld F.LCS_STATUS_STATE ∧ t.mgt = s.mgt ∧ t.data = s.data ∧ t.ports = s.ports ∧
           t.fld F.LDG_NEXT_INDEX = s.fld F.LDG_NEXT_INDEX + 1 ∧ t.ldg.batchFirst = t.fld F.LDG_NEXT_INDEX ∧
           t.key.intent = s.key.intent ∧ t.key.slots = s.key.slots)) ∧
  (∀ (s : State), s.mcRuns = true →
     (∀ r, s.key.signQ.find? s.signable = some r → r.key < 3 → s.lmsNext r.key < 2 ^ 40 →
       ∃ t, exec .signatureRelease s = .next t ∧ s.Only t [.regs, .mgt, .ldg, .key] ∧ t.lmsNext r.key = s.lmsNext r.key + 1 ∧
         (∀ k, k < 3 → k ≠ r.key → t.lmsNext k = s.lmsNext k) ∧
         t.flag (F.LMS_STATUS_EXHAUSTED r.key) = decide (s.lmsNext r.key + 1 = 2 ^ 40) ∧
         (∀ c, r.what = .attest c → t.mgt.attesting = false) ∧
         (∀ a b, r.what = .batch a b → t.fld F.LDG_SIGNED_INDEX = b % 2 ^ 32 ∧ t.ldg.unsigned = b + 1 ∧
           t.key.signQ = s.key.signQ.erase r ∧ t.mgt = s.mgt)) ∧
     (∀ k, 4 ≤ s.lcState → exec (.signingKeyReady k) s = .next s) ∧
     (∀ k, k < 3 → s.lcState < 4 →
       ∃ t, exec (.signingKeyReady k) s = .next t ∧ t.flag (F.LMS_STATUS_READY k) = true ∧
         (k = 1 → t.flag F.JRN_STATUS_SIGN_WAIT = false) ∧ (k = 2 → t.flag F.LDG_STATUS_SIGN_WAIT = false) ∧
         s.RegsBut t [K.LMS_STATUS k, K.JRN_STATUS, K.LDG_STATUS] ∧ s.Only t [.regs]) ∧
     (∀ k, k < 3 → s.flag (F.LMS_STATUS_READY k) = true → s.lmsNext k % 2 ^ 20 ≠ 0 →
       ∃ t, exec (.lmsTreeReady k) s = .next t ∧ t.flag (F.LMS_STATUS_NEXT_TREE k) = true ∧
         s.RegsBut t [K.LMS_STATUS k] ∧ s.Only t [.regs]))

/-- Reading commands answer and end. R328, R350, R461, R467, R470, R471, R477; empty results are log entry 48, FRAME_READ with its
FCS log entry 51, the hold of a frame until it is read log entry 69. -/
def Obligations.ReadingCommandsAnswerAndEnd : Prop :=
  ∀ (s : State) (c : Cmd) (rest : List Cmd), s.mcRuns = true → s.mgt.execQ = c :: rest → c.chan = .spi → s.standby = false →
    (∀ i op data,
      (i = .certRead ∧ op = 0x37 ∧
        data = (if beAt c.body 0 4 = 0 then s.key.cert else (s.key.statements[beAt c.body 0 4 - 1]?).getD [])) ∨
      (i = .ledgerRead ∧ op = 0x50 ∧
        data = ((List.range (beAt c.body 4 4)).filterMap (fun k => s.ldgAt (beAt c.body 0 4 + k))).flatMap id) ∨
      (i = .ledgerSigRead ∧ op = 0x51 ∧
        data = ((s.ldg.signatures.find? (fun x => x.2.1 == beAt c.body 0 4)).map (fun x => x.2.2)).getD []) ∨
      (i = .jrnRead ∧ op = 0x60 ∧ data = s.entriesFrom (beAt c.body 8 4) (beAt c.body 0 8)) ∨
      (i = .checkpointRead ∧ op = 0x62 ∧
        data = ((s.mgt.statements.find? (fun x => x.jseq == beAt c.body 0 8)).bind (fun x => x.signed)).getD []) ∨
      (i = .frameRead ∧ op = 0x71 ∧ s.mgt.mcFrames = [] ∧ data = []) ∨
      (i = .writeFence ∧ op = 0x104 ∧ s.mgt.posted.any (fun p => p.before c.tag) = false ∧
        data = beBytes 2 s.mgt.fenceFail ++ beBytes 2 s.mgt.fenceTag) →
      c.opcode = op → data.length ≤ 4100 →
      ∃ t, exec i s = .next t ∧ t.mgt.execQ = rest ∧ t.mgt.respSpi = s.mgt.respSpi ++ [s.spiAnswer c 1 data] ∧
        s.RegsBut t journalKeys ∧ s.Only t [.regs, .mgt, .key]) ∧
    (c.opcode = 0x71 → ∀ f r err, s.mgt.mcFrames = f :: r → err = s.dmaMeets f.head →
      ∃ t, exec .frameRead s = .next t ∧ t.mgt.mcFrames = r ∧ t.mgt.execQ = rest ∧
        s.Only t [.regs, .cnts, .bufLog, .safLog, .data, .mgt, .key] ∧
        (stopsDma err = false → f.head = none → s.RegsBut t journalKeys ∧ s.Only t [.regs, .mgt, .key]) ∧
        (stopsDma err = true → t.mgt.respSpi = s.mgt.respSpi ∧ t.cnt (C.mgt 11) = s.cnt (C.mgt 11) + 1) ∧
        (stopsDma err = false → t.mgt.respSpi = s.mgt.respSpi ++ [s.spiAnswer c 1 (beBytes 1 f.port ++ beBytes 1 f.kind ++
          beBytes 2 (withFcs f.bytes).length ++ beBytes 6 (secOf (f.stamp / fracPerNs)) ++ beBytes 4 (nsOf (f.stamp /
            fracPerNs)) ++
          [0, 0] ++ (withFcs f.bytes).take 1400)]))

/-- The ledger integrates and records energy. R343, R344, R346, R348, R350, R353. -/
def Obligations.LedgerIntegratesAndRecords : Prop :=
  (∀ s : State, s.mcRuns = true → s.nowNs / 1000000 ≤ s.time.ldgMs → exec .ledgerSample s = .next s) ∧
  (∀ s u : State, s.mcRuns = true → s.time.ldgMs < s.nowNs / 1000000 →
     u = forEach (List.range 8) (fun k s => s.ldgInputStale k) s →
     ∃ t, exec .ledgerSample s = .next t ∧ s.Only t [.regs, .time, .ldg, .key] ∧ t.time.ldgMs = s.time.ldgMs + 1 ∧
       (∀ m, m < 2 → t.gapBit m = (u.ldgSources m).isNone) ∧
       (∀ m, m < 2 → u.ldgSources m = none →
         t.acc (2 * m) = s.acc (2 * m) ∧ t.acc (2 * m + 1) = s.acc (2 * m + 1) ∧
         t.residual (2 * m) = s.residual (2 * m) ∧ t.residual (2 * m + 1) = s.residual (2 * m + 1)) ∧
       (∀ m i v p, m < 2 → u.ldgSources m = some (i, v) → p = s.sampleOf i * s.sampleOf v →
         (0 < p → t.acc (2 * m + 1) = (s.acc (2 * m + 1) + (s.residual (2 * m + 1) + p.natAbs) / 3600000) % 2 ^ 64 ∧
           t.residual (2 * m + 1) = (s.residual (2 * m + 1) + p.natAbs) % 3600000 ∧
           t.acc (2 * m) = s.acc (2 * m) ∧ t.residual (2 * m) = s.residual (2 * m)) ∧
         (p < 0 → t.acc (2 * m) = (s.acc (2 * m) + (s.residual (2 * m) + p.natAbs) / 3600000) % 2 ^ 64 ∧
           t.residual (2 * m) = (s.residual (2 * m) + p.natAbs) % 3600000 ∧
           t.acc (2 * m + 1) = s.acc (2 * m + 1) ∧ t.residual (2 * m + 1) = s.residual (2 * m + 1)) ∧
         (p = 0 → t.acc (2 * m) = s.acc (2 * m) ∧ t.acc (2 * m + 1) = s.acc (2 * m + 1) ∧
           t.residual (2 * m) = s.residual (2 * m) ∧ t.residual (2 * m + 1) = s.residual (2 * m + 1))) ∧
       (s.periodDue = false → (∀ m, m < 2 → s.gapBit m = (u.ldgSources m).isNone) →
         t.time = { s.time with ldgMs := s.time.ldgMs + 1 } ∧ t.ldg.records = s.ldg.records ∧ t.key = s.key ∧
         t.ldg.gapMs = s.ldg.gapMs + b2n (u.ldgSources 0).isNone + b2n (u.ldgSources 1).isNone ∧
         s.RegsBut t (K.LDG_STATUS :: (List.range 4).flatMap (fun a => [K.LDG_ACC_LO a, K.LDG_ACC_HI a])))) ∧
  (∀ s : State, s.mcRuns = true →
     (∀ k t0, k < 8 → mapGet (fun _ => none) s.ldg.delivered k = some t0 → t0 + s.ldgStaleMs * 1000000 ≤ s.nowNs →
       ∃ t, exec (.inputStale k) s = .next t ∧ t.ldgStale k = true ∧ (∀ j, j < 8 → j ≠ k → t.ldgStale j = s.ldgStale j) ∧
         s.RegsBut t [K.LDG_STATUS] ∧ s.Only t [.regs]) ∧
     (∃ t, exec .ledgerPersist s = .next t ∧ s.Only t [.ldg] ∧
       t.ldg.record = s.ldg.record.write
         ((List.range 4).flatMap (fun a => beBytes 8 (s.acc a)) ++ (List.range 4).flatMap (fun a => beBytes 4 (s.residual a))) ∧
       ∀ a, a < 4 → t.ldgResume.acc a = s.acc a ∧ t.ldgResume.residual a = s.residual a) ∧
     (s.periodDue = false → exec .periodRecord s = .next s) ∧
     (s.fld F.LDG_NEXT_INDEX + 1 < 2 ^ 32 → s.periodDue = true →
       ∃ t, exec .periodRecord s = .next t ∧ t.ldg.records = (s.ldgRecord 0 :: s.ldg.records).take 32768 ∧
         t.fld F.LDG_NEXT_INDEX = s.fld F.LDG_NEXT_INDEX + 1 ∧ t.ldg.gapMs = 0 ∧ t.ldg.cfg = s.reg K.LDG_CFG ∧
         (∀ a, t.acc a = s.acc a) ∧
         (s.fld F.LDG_NEXT_INDEX % 256 = 255 → s.ldg.batchFirst ≤ s.fld F.LDG_NEXT_INDEX →
           t.ldg.batchFirst = t.fld F.LDG_NEXT_INDEX ∧
           ∃ r, r ∈ t.key.signQ ∧ r.key = 2 ∧ r.what = .batch s.ldg.batchFirst (s.fld F.LDG_NEXT_INDEX)) ∧
         t.time = { s.time with ldgSec := s.nowNs / 1000000000 } ∧ s.Only t [.regs, .time, .ldg, .key]) ∧
     (s.ldg.signing = none → s.ldg.batchFirst < s.fld F.LDG_NEXT_INDEX →
       ∃ t r, exec .ledgerSign s = .next t ∧ t.ldg.batchFirst = s.fld F.LDG_NEXT_INDEX ∧
         t.ldg.signing = some (s.fld F.LDG_NEXT_INDEX - 1) ∧ t.ldg.records = s.ldg.records ∧ r ∈ t.key.signQ ∧ r.key = 2 ∧
         r.what = .batch s.ldg.batchFirst (s.fld F.LDG_NEXT_INDEX - 1) ∧
         (s.flag (F.LMS_STATUS_READY 2) = false → t.flag F.LDG_STATUS_SIGN_WAIT = true) ∧
         s.RegsBut t [K.LDG_STATUS] ∧ s.Only t [.regs, .ldg, .key]) ∧
     (s.ldg.signing = none → s.fld F.LDG_NEXT_INDEX ≤ s.ldg.batchFirst → exec .ledgerSign s = .next s) ∧
     (s.ldg.signing ≠ none →
       ∃ t, exec .ledgerSign s = .next t ∧ t.flag F.LDG_CTRL_ERR_BUSY = true ∧ s.RegsBut t [K.LDG_CTRL] ∧ s.Only t [.regs]) ∧
     (∀ v : Word, ∃ t, exec (.ledgerRdIndexWrite v) s = .next t ∧ t.reg K.LDG_RD_INDEX = v ∧
       t.flag F.LDG_STATUS_GONE = (s.ldgAt v.toNat).isNone ∧
       (∀ j, j < 16 → t.reg (K.LDG_RD_DATA j) =
         BitVec.ofNat 32 (beAt ((s.ldgAt v.toNat).getD (List.replicate 64 0)) (4 * j) 4)) ∧
       s.RegsBut t (K.LDG_RD_INDEX :: K.LDG_STATUS :: (List.range 16).map K.LDG_RD_DATA) ∧ s.Only t [.regs]))

/-- The consent ring visits its members, sleep is forced or entered. R358 to R364, R371; what is logged is log entry 44, the
wait after a veto log entry 62. -/
def Obligations.RingAndForcedSleep : Prop :=
  (∀ s : State, s.running = true → s.nm.calm = false → s.standby = false →
     (∀ g, g < 16 → s.mayConsent g = true → mapGet (fun _ => 0) s.nm.softAt g + s.fld F.NM_TIMING_IDLE_MS * aonPerMs ≤ s.aon →
       ∃ t, exec (.groupIdle g) s = .next t ∧ t.nm = { s.nm with candidates := s.nm.candidates ||| 2 ^ g } ∧ s.Only t [.nm]) ∧
     (∀ g, g < 16 → (s.mayConsent g = false ∨ s.aon < mapGet (fun _ => 0) s.nm.softAt g + s.fld F.NM_TIMING_IDLE_MS * aonPerMs) →
       exec (.groupIdle g) s = .next s) ∧
     (s.retryOver = false → exec .ringRoundStart s = .next s) ∧
     (s.fld F.NM_STATE_RING = 0 → s.candidates ≠ 0 → s.retryOver = true → ∀ m, m < 32 →
       (∀ k, k ≤ m → State.visitable { s with nm := { s.nm with set := s.candidates } } k = decide (k = m)) →
       ∃ t, exec .ringRoundStart s = .next t ∧ t.fld F.NM_STATE_RING = 1 ∧ t.nm.round = (s.nm.round + 1) % 65536 ∧
         t.nm.set = s.candidates ∧ t.nm.visiting = some m ∧ t.nm.vetoed = 0 ∧ t.cnt (C.nm 0) = s.cnt (C.nm 0) + 1 ∧
         t.mgt.mcLane.length + t.mgt.mcWait.length = s.mgt.mcLane.length + s.mgt.mcWait.length + 1 ∧
         s.RegsBut t [K.NM_STATE] ∧ s.CntsBut t [C.nm 0] ∧ s.Only t [.regs, .cnts, .mgt, .nm]) ∧
     (s.fld F.NM_STATE_RING = 1 → ∀ m m' r, s.nm.visiting = some m → s.nm.toVisit = m' :: r → s.visitable m' = true →
       s.nm.memberWait = [] →
       (s.aon < s.nm.askedAt + s.fld F.NM_TIMING_RSP_MS * aonPerMs → exec .consentRspTimeout s = .next s) ∧
       (s.nm.askedAt + s.fld F.NM_TIMING_RSP_MS * aonPerMs ≤ s.aon → ∃ t, exec .consentRspTimeout s = .next t ∧
         t.cnt (C.nm 2) = s.cnt (C.nm 2) + 1 ∧ t.nm.visiting = some m' ∧
         t.nm.toVisit = r ∧ t.nm.vetoed = s.nm.vetoed ∧ t.nm.round = s.nm.round ∧ s.RegsBut t [] ∧ s.CntsBut t [C.nm 2] ∧
         s.Only t [.cnts, .mgt, .nm]) ∧
       (∀ f b u, s.takeRing 2 = some (f, b, u) → beAt b 2 2 = s.nm.round → beAt b 8 1 = m →
         s.ringFrom f.port f.bytes m = true →
         ∃ t, exec .consentRspReceive s = .next t ∧
           s.Only t [.regs, .cnts, .nmLog, .data, .mgt, .edge, .nm, .twin, .key, .out] ∧
           t.mgt.inbox = s.mgt.inbox.erase f ∧ t.nm.visiting = some m' ∧
           t.nm.vetoed = s.nm.vetoed ||| (beAt b 6 2 &&& s.memberGroups m) ∧ t.nm.round = s.nm.round ∧
           t.cnt (C.nm 1) = s.cnt (C.nm 1) + (if beAt b 6 2 &&& s.memberGroups m = 0 then 0 else 1) ∧ s.RegsBut t []) ∧
       (∀ f b u, s.takeRing 2 = some (f, b, u) → beAt b 2 2 ≠ s.nm.round ∨ beAt b 8 1 ≠ m →
         ∃ t, exec .consentRspReceive s = .next t ∧ t.mgt.inbox = s.mgt.inbox.erase f ∧ t.nm = s.nm ∧ s.Only t [.mgt]))) ∧
  (∀ s : State, s.running = true → s.nm.calm = false →
     (∀ g, g < 16 → s.fld F.NM_LIMITS_MAX_AWAKE_S ≠ 0 → s.asleep g = false →
       (s.fld F.NM_SLEEP_EN_SLEEP_EN).testBit g = true → s.hardMask.testBit g = false → s.usedGroups.testBit g = true →
       s.standby = false →
       (s.awakeSeconds g < s.fld F.NM_LIMITS_MAX_AWAKE_S → exec (.forcedSleep g) s = .next s) ∧
       (s.fld F.NM_LIMITS_MAX_AWAKE_S ≤ s.awakeSeconds g → ∃ t, exec (.forcedSleep g) s = .next t ∧
         s.Only t [.regs, .cnts, .nmLog, .data, .mgt, .edge, .nm, .twin, .key] ∧
         t.flag (F.NM_GROUP_STATUS_ISOLATED g) = true ∧
         t.fld (F.NM_GROUP_STATUS_LAST_SOURCE g) = mapGet (fun _ => 0xFF) s.nm.lastSoft g % 256 ∧
         t.cnt (C.nm 5) = s.cnt (C.nm 5) + 1 ∧
         (s.fld F.NM_STATE_RING = 0 → s.nm.forced = [] → t.fld F.NM_STATE_RING = 2 ∧ t.nm.committed = 2 ^ g ∧
           t.nm.set = 2 ^ g ∧ t.nm.tCommit = s.nowNs + 1000 * s.fld F.NM_CFG_GUARD_US ∧ t.nm.armed = true) ∧
         (s.fld F.NM_STATE_RING ≠ 0 → t.nm = { s.nm with forced := s.nm.forced ++ [g] }))) ∧
     (s.entryDue = true →
       (s.entryWaits = true →
         ∃ t, exec .sleepEntry s = .next t ∧ t.fld F.NM_STATE_RING = 3 ∧ s.RegsBut t [K.NM_STATE] ∧ s.Only t [.regs]) ∧
       (s.entryWaits = false → s.enterSleep.calmNext = false →
         ∃ t, exec .sleepEntry s = .next t ∧ (∀ g, g < 16 → t.asleep g = (s.asleep g || s.nm.committed.testBit g)) ∧
           t.nm.calm = false ∧
           (s.nm.forced = [] → t.fld F.NM_STATE_RING = 0 ∧ t.nm.committed = 0 ∧ t.nm.armed = false) ∧
           (∀ g c l, s.nm.latched = some (g, c, l) → t.nm.due = s.nm.due ||| (g &&& t.asleepMask) ∧ t.nm.dueCode = c)) ∧
       (s.entryWaits = false → s.enterSleep.calmNext = true →
         ∃ t, exec .sleepEntry s = .next t ∧ t.nm.calm = true)))

/-- Wake inputs are filtered, groups wake. R365, R366, R372, R373, R377; the pulse at each wake is log entry 44. -/
def Obligations.WakesAreFilteredAndGroupsWake : Prop :=
  (∀ s : State, s.mcRuns = true → s.running = true → s.standby = false → s.fld F.NM_STATE_RING = 0 →
     (∀ f b u, s.takeRing 5 = some (f, b, u) →
       ∃ t, exec .wakeReqReceive s = .next t ∧
         s.Only t [.regs, .cnts, .nmLog, .data, .mgt, .edge, .nm, .twin, .key, .out] ∧ t.mgt.inbox = s.mgt.inbox.erase f ∧
         t.nm.due = s.nm.due ||| (beAt b 4 2 &&& s.asleepMask) ∧ s.RegsBut t []) ∧
     (∀ groups, groups < 65536 → s.nm.waking = 0 →
       ∃ t, exec (.nmWake groups) s = .next t ∧
         s.Only t [.regs, .cnts, .nmLog, .data, .mgt, .edge, .nm, .twin, .key, .out] ∧
         t.nm.due = s.nm.due ||| (groups &&& s.asleepMask) ∧
         t.nm.waking = groups &&& s.asleepMask ∧ s.RegsBut t []) ∧
     (∀ groups, groups < 65536 → s.nm.waking ≠ 0 →
       ∃ t, exec (.nmWake groups) s = .next t ∧ t.flag F.NM_WAKE_ERR_BUSY = true ∧ t.nm = s.nm ∧ s.RegsBut t [K.NM_WAKE] ∧
         s.Only t [.regs]) ∧
     (∃ t, exec .groupWake s = .next t ∧ s.Only t [.regs, .cnts, .nmLog, .mgt, .edge, .nm, .wvr, .key, .out] ∧
       (∀ g, g < 16 → t.asleep g = (s.asleep g && !s.nm.due.testBit g)) ∧
       (∀ g, g < 16 → s.asleep g = true → s.nm.due.testBit g = true →
         t.flag (F.NM_GROUP_STATUS_ISOLATED g) = false ∧ t.fld (F.NM_GROUP_STATUS_RUN g) = 0 ∧
         t.fld (F.NM_GROUP_STATUS_AWAKE_S g) = 0 ∧ t.nm.due.testBit g = false) ∧
       t.cnt (C.nm 7) = s.cnt (C.nm 7) + BitVec.ofNat 64 (maskList 16 (s.nm.due &&& s.asleepMask)).length)) ∧
  (∀ (s : State) (n : Nat), n < 5 →
     (s.flag (F.WAKE_IN_CFG_EN n) = false ∨ (n = 4 ∧ (s.nm.pulse = true ∨ s.aon < s.nm.busFree)) →
       exec (.wakeInputFilterPass n) s = .next s) ∧
     (s.flag (F.WAKE_IN_CFG_EN n) = true → (n = 4 → s.nm.pulse = false ∧ s.nm.busFree ≤ s.aon) →
       ∃ t, exec (.wakeInputFilterPass n) s = .next t ∧
         s.Only t [.regs, .cnts, .nmLog, .data, .mgt, .edge, .nm, .twin, .key, .out] ∧
         (∀ k, (t.fld F.WAKE_STATUS_LEVEL).testBit k =
           ((s.fld F.WAKE_STATUS_LEVEL).testBit k != decide (k = n))) ∧
         mapGet (fun _ => 0) t.nm.levelAt n = s.aon ∧
         (s.nm.calm = false → t.nm.due = s.nm.due ∧ t.nm.latched = s.nm.latched) ∧
         ((s.fld F.WAKE_STATUS_LEVEL).testBit n = false → (s.fld F.WAKE_STATUS_CHATTER).testBit n = false →
           (s.fld F.WAKE_STATUS_STUCK).testBit n = false →
           ((s.aonMs :: mapGet (fun _ => []) s.nm.changes n).filter
             (fun x => decide (s.aonMs < x + s.fld F.WAKE_LIMITS_CHATTER_MS))).length ≤ s.fld F.WAKE_LIMITS_CHATTER_N →
           s.nm.calm = true → s.fld (F.WAKE_IN_GROUPS_GROUPS n) ≠ 0 →
           (s.nm.latched = none → t.nm.latched = some (s.fld (F.WAKE_IN_GROUPS_GROUPS n), 0xC0 + n, 2 ^ n)) ∧
           (∀ g c l, s.nm.latched = some (g, c, l) →
             t.nm.latched = some (g ||| s.fld (F.WAKE_IN_GROUPS_GROUPS n), c, l ||| 2 ^ n)))) ∧
     (∀ a, a < 32768 → s.powered = true → s.cycle % 64 = 0 → s.time.ppsEdge = none → s.saf.mode = .normal →
       s.standby = false → s.fld F.NM_STATE_RING = 0 → s.lineRaised n = true → s.agreedIn (10 + n) = false →
       (∀ m, m < 5 → m ≠ n → (s.fld F.WAKE_STATUS_LEVEL).testBit m = s.agreedIn (10 + m)) →
       ∃ t, exec (.inputEpoch a a) s = .next t ∧ t.lineActive n = true ∧
         t.nm.due = s.nm.due ||| (s.fld (F.WAKE_IN_GROUPS_GROUPS n) &&& s.asleepMask)) ∧
     (s.aon ≤ mapGet (fun _ => 0) s.nm.levelAt n + s.fld F.WAKE_LIMITS_STUCK * 100 * aonPerMs →
       exec (.wakeInputStuck n) s = .next s) ∧
     (s.lineRaised n = true → mapGet (fun _ => 0) s.nm.levelAt n + s.fld F.WAKE_LIMITS_STUCK * 100 * aonPerMs < s.aon →
       ∃ t, exec (.wakeInputStuck n) s = .next t ∧ s.Only t [.regs, .cnts, .nmLog, .mgt, .nm, .key] ∧
         (t.fld F.WAKE_STATUS_STUCK).testBit n = true ∧ t.lineActive n = false ∧
         t.cnt (C.nm 8) = s.cnt (C.nm 8) + 1 ∧ s.CntsBut t (C.nm 8 :: eventCounters)) ∧
     ((s.fld F.WAKE_STATUS_CHATTER ||| s.fld F.WAKE_STATUS_STUCK).testBit n = true →
       (s.fld F.WAKE_STATUS_LEVEL).testBit n = false →
       ∃ t, exec (.wakeInputUnmask n) s = .next t ∧ s.Only t [.regs, .cnts, .nmLog, .mgt, .key] ∧
         (t.fld F.WAKE_STATUS_CHATTER).testBit n = false ∧
         (t.fld F.WAKE_STATUS_STUCK).testBit n = false ∧
         (∀ k, k < 5 → k ≠ n → (t.fld F.WAKE_STATUS_CHATTER).testBit k = (s.fld F.WAKE_STATUS_CHATTER).testBit k ∧
           (t.fld F.WAKE_STATUS_STUCK).testBit k = (s.fld F.WAKE_STATUS_STUCK).testBit k) ∧
         s.RegsBut t (K.WAKE_STATUS :: journalKeys) ∧ s.CntsBut t eventCounters) ∧
     (s.nm.pulse = true → s.nm.pulseAt + s.fld F.NM_CFG_PULSE * 50000 ≤ s.aon →
       ∃ t, exec .wakeOutPulseEnd s = .next t ∧ t.nm = { s.nm with pulse := false, busFree := s.aon + 10000 } ∧
         t.out = .pin 0 true :: s.out ∧
         s.Only t [.nm, .out]) ∧
     (s.nm.pulse = false ∨ s.aon < s.nm.pulseAt + s.fld F.NM_CFG_PULSE * 50000 → exec .wakeOutPulseEnd s = .next s))

/-- Faults lead to their reactions. R388, R391 to R395, R397, R398, R411. Where R397 is silent (a unit not yet forwarding)
HALTED is the model's choice (log entry 27); EVT_N is log entry 35. -/
def Obligations.FaultsLeadToTheirReactions : Prop :=
  (∀ (s : State) (code detail : Nat), fatalCodes.contains code = true → s.powered = true →
     (s.saf.mode = .normal →
       ∃ t, exec (.fatalFault code detail) s = .next t ∧ s.Only t [.regs, .cnts, .fresh, .data, .ports, .edge, .twin, .saf, .out] ∧
         t.saf.mode = (if s.fld F.BOOT_STATUS_STATE = 0xB ∧ s.heldPort 0 = false ∧
           s.partnerReady = false then .lee else .halted) ∧
         t.fld F.SAF_STATUS_LAST_CAUSE = code ∧
         t.fld F.SAF_STATUS_LAST_STATE = (if t.saf.mode = .lee then 1 else 2) ∧
         t.flag F.PAIR_STATUS_HOLD_OUT = false ∧ .pin 4 false ∈ t.out ∧ (t.saf.mode = .lee → .pin 5 false ∈ t.out) ∧
         t.data.queues = [] ∧ t.ports.tx = [] ∧ t.ports.rx = [] ∧ (∀ n, n < 24 → (t.can n).reqs = []) ∧
         t.saf.health = (code, detail, s.nowNs) :: s.saf.health ∧ t.evtPin = true ∧ t.mcRuns = false ∧
         (t.saf.mode = .lee → code ≠ 6 → t.asleepMask = 0 ∧ t.leeOn = true) ∧ (code = 6 → t.leeOn = false) ∧
         (t.saf.mode = .halted → t.leeOn = false ∧ ∀ l, t.out = l ++ s.out → .pin 5 false ∉ l)) ∧
     (s.saf.mode ≠ .normal → exec (.fatalFault code detail) s = .next s)) ∧
  (∀ s : State, s.powered = true → s.saf.mode = .normal →
     (s.saf.digests = [] → exec (.digestCompare 0) s = .next s) ∧
     (∀ differ, s.cycle % 500000 ≠ 0 → exec (.digestCompare differ) s = .next s) ∧
     (∀ g, g < 24 → s.saf.digests = [] → s.cycle % 500000 = 0 →
       ∃ t, exec (.digestCompare (2 ^ g)) s = .next t ∧
         s.Only t [.regs, .cnts, .fresh, .safLog, .data, .ports, .mgt, .edge, .twin, .key, .saf, .out] ∧
         t.fld F.SAF_STATUS_LAST_CAUSE = 2 ∧
         t.saf.health = (2, g, s.nowNs) :: s.saf.health ∧ t.saf.mode ≠ .normal) ∧
     (∀ g, 24 ≤ g → g < 32 → s.saf.digests = [] → s.cycle % 500000 = 0 → (s.fld F.SAF_DIGEST_MODE_REPORT).testBit (g - 24) = true →
       ∃ t, exec (.digestCompare (2 ^ g)) s = .next t ∧
         s.Only t [.regs, .cnts, .fresh, .safLog, .data, .ports, .mgt, .edge, .twin, .key, .saf, .out] ∧
         t.cnt (C.saf 7) = s.cnt (C.saf 7) + 1 ∧ t.saf = s.saf ∧
         s.RegsBut t journalKeys ∧ s.CntsBut t (C.saf 7 :: C.saf 14 :: eventCounters)) ∧
     (∀ e, e < 2816 → ∀ x ∈ [(ScrubFind.sramSingle, 0), (.mramSingle, 1), (.tcam e, 4), (.voted, 8)],
       ∃ t, exec (.scrubVisit x.1) s = .next t ∧ t.cnt (C.saf x.2) = s.cnt (C.saf x.2) + 1 ∧ s.CntsBut t [C.saf x.2] ∧
         s.Only t [.cnts]) ∧
     (∀ a, ∃ t, exec (.scrubVisit (.mramDouble none a)) s = .next t ∧ t.cnt (C.saf 3) = s.cnt (C.saf 3) + 1 ∧
       t.cnt (C.saf 14) = s.cnt (C.saf 14) + 1 ∧ s.Only t [.regs, .cnts, .safLog, .mgt, .key]) ∧
     (∀ q, q < 280 →
       ∃ t, exec (.scrubVisit (.buffer q .nodeList)) s = .next t ∧ (t.qs q).quar = true ∧ t.cnt (C.saf 2) = s.cnt (C.saf 2) + 1 ∧
         t.cnt (C.saf 14) = s.cnt (C.saf 14) + 1 ∧ s.Only t [.regs, .cnts, .bufLog, .safLog, .data, .mgt, .key]) ∧
     (∀ h k, h < 131072 → ∀ err ∈ [BufErr.cellData k, .linkWord k, .descriptor, .mapWord k],
       ∃ t, exec (.scrubVisit (.buffer h err)) s = .next t ∧ t.cnt (C.saf 2) = s.cnt (C.saf 2) + 1 ∧
         t.cnt (C.saf 14) = s.cnt (C.saf 14) + 1 ∧ s.Only t [.regs, .cnts, .bufLog, .safLog, .data, .mgt, .key] ∧
         (∀ f, err = .descriptor → s.frame h = some f → t.frame h = some { f with live := false }) ∧
         (∀ f, err = .linkWord k → s.frame h = some f → t.frame h = some { f with badLink := some k })) ∧
     (∀ n k, aonFields[n]? = some k →
       ∃ t, exec (.scrubVisit (.aonField n)) s = .next t ∧ t.reg k = resetWord k ∧ t.cnt (C.saf 14) = s.cnt (C.saf 14) + 1) ∧
     (∀ a, ∃ t, exec (.scrubVisit (.scratchDouble a)) s = .next t ∧
       s.Only t [.regs, .cnts, .fresh, .safLog, .data, .ports, .mgt, .edge, .twin, .key, .saf, .out] ∧
       t.fld F.SAF_STATUS_LAST_CAUSE = 0x15 ∧ t.saf.mode ≠ .normal) ∧
     (∀ a, ∃ t, exec (.scrubVisit (.tableDouble a)) s = .next t ∧
       s.Only t [.regs, .cnts, .fresh, .safLog, .data, .ports, .mgt, .edge, .twin, .key, .saf, .out] ∧
       t.fld F.SAF_STATUS_LAST_CAUSE = 0x13 ∧ t.saf.mode ≠ .normal) ∧
     (∀ i e, i < 32768 → s.fdbAt i = some e → e.static = false →
       ∃ t, exec (.scrubVisit (.fdb i)) s = .next t ∧
         s.Only t [.regs, .cnts, .fresh, .safLog, .data, .ports, .mgt, .edge, .twin, .key, .saf, .out] ∧ t.fdbAt i = none ∧
         (∀ j, j ≠ i → t.fdbAt j = s.fdbAt j) ∧
         t.cnt (C.saf 5) = s.cnt (C.saf 5) + 1 ∧ t.cnt (C.saf 2) = s.cnt (C.saf 2) + 1 ∧ t.saf.mode = .normal) ∧
     (∀ i e, i < 32768 → s.fdbAt i = some e → e.static = true →
       ∃ t, exec (.scrubVisit (.fdb i)) s = .next t ∧
         s.Only t [.regs, .cnts, .fresh, .safLog, .data, .ports, .mgt, .edge, .twin, .key, .saf, .out] ∧
         t.fld F.SAF_STATUS_LAST_CAUSE = 0x13 ∧ t.saf.mode ≠ .normal) ∧
     (∀ tj, tj < 256 → (s.fld F.SAF_CFG_TJ_WARN : Int) < tjOf tj →
       ∃ t, exec (.temperatureWarning tj) s = .next t ∧ t.fld F.SAF_MON_TJ = tj ∧
         (s.saf.warned = false → t.flag F.SAF_MON_TJ_HIGH = true ∧ t.saf.warned = true ∧
           t.cnt (C.saf 14) = s.cnt (C.saf 14) + 1) ∧
         (s.saf.warned = true → s.RegsBut t [K.SAF_MON] ∧ s.Only t [.regs])) ∧
     (∀ tj, tj < 256 → tjOf tj ≤ (s.fld F.SAF_CFG_TJ_WARN : Int) - 5 →
       ∃ t, exec (.tjWarnRearm tj) s = .next t ∧ t.fld F.SAF_MON_TJ = tj ∧ t.flag F.SAF_MON_TJ_HIGH = false ∧
         t.saf = { s.saf with warned := false } ∧ s.RegsBut t [K.SAF_MON] ∧ s.Only t [.regs, .saf]) ∧
     (∃ t, exec .aonClockFault s = .next t ∧ s.Only t [.regs, .cnts, .safLog, .mgt, .key, .saf] ∧
       t.flag F.CLK_STATUS_AON_FAIL = true ∧ t.flag F.SAF_MON_AON_CLK_FAIL = true ∧
       t.calmNext = false ∧ t.cnt (C.saf 14) = s.cnt (C.saf 14) + 1) ∧
     (∀ n, n < 5 → ∃ t, exec (.wakeFilterCopyFault n) s = .next t ∧ t.cnt (C.saf 14) = s.cnt (C.saf 14) + 1 ∧
       (s.safLog.length < 64 → t.safLog = s.safLog ++ [BitVec.ofNat 32 (0x23000000 + n)]) ∧
       s.RegsBut t journalKeys ∧ s.CntsBut t (C.saf 14 :: eventCounters) ∧ s.Only t [.regs, .cnts, .safLog, .mgt, .key]) ∧
     (s.mcRuns = true → ∀ g, g < 64 →
       (∃ t, exec (.faultInject 0 g) s = .next t ∧ s.Only t [.regs, .cnts, .fresh, .data, .ports, .edge, .twin, .saf, .out] ∧
         t.fld F.SAF_STATUS_LAST_CAUSE = 1 ∧ t.saf.mode ≠ .normal) ∧
       (g < 32 → ∃ t, exec (.faultInject 1 g) s = .next t ∧ t.saf = { s.saf with digests := s.saf.digests ++ [g] } ∧
         s.Only t [.saf])))

/-- The Lee path sends at its slots. R399, R403, R405; the Lee store is log entry 37. -/
def Obligations.LeePathSendsAtItsSlots : Prop :=
  ∀ s : State, s.powered = true →
    (s.saf.pllWait = true → s.saf.mode = .lee →
      ∃ t, exec .pllRelock s = .next t ∧ s.Only t [.regs, .saf, .out] ∧ t.leeOn = true ∧
        t.flag F.CLK_STATUS_PLL_LOCK = true ∧ t.asleepMask = 0) ∧
    (s.leeOn = true →
      (∀ i l T early f old, i < 64 → s.saf.streams.find? (fun c => c.1 == i) = some (i, l) →
        s.leeInstant (Lee.offset l) = some T →
        early = (s.leeStore i).takeWhile (fun x => !s.leeEligible (Lee.port l) (T * fracPerNs) x) →
        (s.leeStore i).drop early.length = f :: old →
        ∃ t, exec (.leeSlot i) s = .next t ∧
          t.out = (((maskList 26 (Lee.egress l)).filter
            (fun p => s.portUp p && decide (f.2.length ≤ s.fld (F.MAC_FRAME_MAX_FRAME p)))).map
              (fun p => WireOut.frame p f.2 true)).reverse ++ s.out ∧
          t.leeStore i = early ∧ (∀ j, j ≠ i → t.leeStore j = s.leeStore j) ∧ t.cnt (C.saf 10) = s.cnt (C.saf 10) + 1 ∧
          t.cnt (C.saf 11) = s.cnt (C.saf 11) + BitVec.ofNat 64 old.length ∧
          s.CntsBut t (C.saf 10 :: C.saf 11 :: (List.range 26).flatMap (fun p => [C.mac p 10, C.mac p 11, C.mac p 15])) ∧
          s.Only t [.cnts, .saf, .out]) ∧
      (∀ i f T k, i < 64 → s.saf.frames.find? (fun c => c.1 == i) = some (i, f) → s.leeInstant (LeeF.offset f) = some T →
        k = (T - LeeF.offset f) / s.fld F.LEE_CFG_CYCLE_NS → k % LeeF.div f = 0 →
        (mapGet (fun _ => none) s.saf.sentAt i = some k → exec (.leeFrameSend i) s = .next s) ∧
        (mapGet (fun _ => none) s.saf.sentAt i ≠ some k → s.saf.routes.filter (fun c => Route.frame c.2 == i) = [] →
        (LeeF.channel f < 24 → s.fld (F.CAN_CTRL_MODE (LeeF.channel f)) = 1 → s.chanHeld (LeeF.channel f) = false →
          s.flag (F.CAN_STATUS_ISOLATED (LeeF.channel f)) = false → s.fld (F.CAN_STATUS_STATE (LeeF.channel f)) ≠ 2 →
          s.flag (F.CAN_CTRL_SHADOW (LeeF.channel f)) = false → (s.can (LeeF.channel f)).reqs = [] →
          ∃ t, exec (.leeFrameSend i) s = .next t ∧ (t.can (LeeF.channel f)).reqs =
            [⟨LeeF.fmt f, LeeF.id f, LeeF.fdf f, LeeF.brs f, if LeeF.fmt f = 2 then [0, 0, 0, 0] else [],
              (s.leeImage i).take (LeeF.len f), 0⟩] ∧ t.cnts = s.cnts ∧
            mapGet (fun _ => none) t.saf.sentAt i = some k ∧ s.Only t [.edge, .saf]) ∧
        (24 ≤ LeeF.channel f →
          ∃ t, exec (.leeFrameSend i) s = .next t ∧ (t.lin (LeeF.channel f - 24)).supplied.find?
            (fun c => c.1 == LeeF.id f % 64) = some (LeeF.id f % 64, (s.leeImage i).take (LeeF.len f)) ∧
            mapGet (fun _ => none) t.saf.sentAt i = some k ∧ s.Only t [.edge, .saf]))))

/-- Roles of a pair follow the table. R416, R418 to R421, R428; sequence numbers and codes of the pair link are log entry
42. -/
def Obligations.PairRolesFollowTheTable : Prop :=
  (∀ s : State, s.linked = true →
     (s.fld F.PAIR_CFG_MODE ≠ 0 →
       ∃ t, exec .helloSend s = .next t ∧ s.Only t [.regs, .cnts, .data, .twin] ∧
         t.pairSeq 1 = (s.pairSeq 1 + 1) % 2 ^ 32 ∧ t.cnt (C.pair 0) = s.cnt (C.pair 0) + 1) ∧
     (∀ f u, s.fld F.PAIR_CFG_MODE ≠ 0 → s.takePair 1 = some (f, u) →
       ∃ t, exec .helloReceive s = .next t ∧ s.Only t [.regs, .cnts, .bufLog, .data, .mgt, .edge, .twin, .key, .out] ∧
         t.partnerHere = true ∧ t.fld F.PAIR_STATUS_PARTNER_ROLE = pmRole f.bytes ∧
         t.flag F.PAIR_STATUS_MISMATCH = s.helloBad f.bytes ∧ t.cnt (C.pair 1) = s.cnt (C.pair 1) + 1) ∧
     (s.partnerHere = true → s.twin.acks = [] →
       ∃ t, exec .partnerLoss s = .next t ∧ s.Only t [.regs, .cnts, .bufLog, .data, .mgt, .twin, .key] ∧
         t.partnerHere = false ∧ t.flag F.PAIR_STATUS_PARTNER_READY = false ∧
         t.flag F.PAIR_STATUS_READY = false ∧
         (s.role = 4 → s.twin.step ≠ 0 → s.twin.step ≠ 9 → t.twin.step = 9 ∧ t.cnt (C.pair 8) = s.cnt (C.pair 8) + 1)) ∧
     (s.twin.step = 9 →
       ∃ t, exec .rejoinRetry s = .next t ∧ t.twin = { s.twin with step := 1 } ∧ s.Only t [.twin]) ∧
     (s.mcRuns = true → s.role = 4 → (s.twin.step = 0 ∨ 4 < s.twin.step) →
       ∃ t, exec .resync s = .next t ∧ t.twin.step = 1 ∧ t.twin.rejoined = false ∧ t.flag F.PAIR_STATUS_READY = false ∧
         s.RegsBut t [K.PAIR_STATUS] ∧ s.Only t [.regs, .twin]) ∧
     (s.mcRuns = true → s.role = 4 → 1 ≤ s.twin.step → s.twin.step ≤ 4 →
       ∃ t, exec .resync s = .next t ∧ t.flag F.PAIR_CTRL_ERR_BUSY = true ∧ s.RegsBut t [K.PAIR_CTRL] ∧ s.Only t [.regs])) ∧
  (∀ s : State, s.powered = true → s.fld F.PAIR_CFG_MODE = 1 → s.saf.mode = .normal → s.twin.mask = 0 →
     (s.role = 4 → s.flag F.PAIR_STATUS_HOLD_IN = true → s.agreedIn 8 = false →
       (s.pairReady = true →
         ∃ t, exec .holdInChange s = .next t ∧ s.Only t [.regs, .cnts, .ports, .mgt, .edge, .twin, .key, .out] ∧ t.role = 3 ∧
           t.flag F.PAIR_STATUS_HOLD_OUT = true ∧
           (t.fld F.PAIR_EVT_EVENTS).testBit 0 = true ∧ t.twin.replaying = true ∧ t.cnt (C.pair 2) = s.cnt (C.pair 2) + 1) ∧
       (s.pairReady = false →
         ∃ t, exec .holdInChange s = .next t ∧ t.role = 4 ∧ t.flag F.PAIR_STATUS_TAKEOVER_BLOCKED = true ∧
           t.flag F.PAIR_STATUS_HOLD_IN = false ∧ s.RegsBut t [K.PAIR_STATUS] ∧ s.Only t [.regs])) ∧
     (s.role = 1 → s.forwarding = true → s.flag F.PAIR_STATUS_HOLD_IN = false → s.agreedIn 8 = true →
       ∃ t, exec .holdInChange s = .next t ∧ s.Only t [.regs, .cnts, .ports, .mgt, .edge, .twin, .key, .out] ∧ t.role = 4 ∧
         t.flag F.PAIR_STATUS_HOLD_OUT = false ∧ t.twin.step = 1) ∧
     (s.role = 2 → s.flag F.PAIR_STATUS_HOLD_IN = false → s.agreedIn 8 = true →
       ∃ t, exec .holdInChange s = .next t ∧ s.Only t [.regs, .cnts, .ports, .mgt, .edge, .twin, .key, .out] ∧
         t.role = (if s.unitId = 0 then 3 else 4) ∧
         t.flag F.PAIR_STATUS_HOLD_OUT = decide (s.unitId = 0)) ∧
     (s.linked = true →
       (s.role = 2 → s.flag F.PAIR_STATUS_HOLD_IN = false →
         ∃ t, exec .claimTimeout s = .next t ∧ s.Only t [.regs, .cnts, .ports, .mgt, .edge, .twin, .key, .out] ∧ t.role = 3 ∧
           t.flag F.PAIR_STATUS_HOLD_OUT = true) ∧
       (s.role = 1 → s.forwarding = true → s.twin.prefer = true → s.flag F.PAIR_STATUS_HOLD_IN = false →
         ∃ t, exec .claimDeferEnd s = .next t ∧ s.Only t [.regs, .cnts, .ports, .mgt, .edge, .twin, .key, .out] ∧ t.role = 2 ∧
           t.flag F.PAIR_STATUS_HOLD_OUT = true) ∧
       (s.role = 3 → s.unitId = 1 → s.flag F.PAIR_STATUS_HOLD_IN = true →
         ∃ t, exec .activeYield s = .next t ∧ s.Only t [.regs, .cnts, .mgt, .edge, .twin, .key, .out] ∧ t.role = 4 ∧
           t.flag F.PAIR_STATUS_HOLD_OUT = false)) ∧
     (s.mcRuns = true →
       (s.role = 4 → s.flag F.PAIR_STATUS_HOLD_IN = false →
         ∃ t, exec .claim s = .next t ∧ s.Only t [.regs, .cnts, .ports, .mgt, .edge, .twin, .key, .out] ∧ t.role = 2 ∧
           t.flag F.PAIR_STATUS_HOLD_OUT = true) ∧
       (s.role = 4 → s.flag F.PAIR_STATUS_HOLD_IN = true →
         ∃ t, exec .claim s = .next t ∧ s.Only t [.regs, .cnts, .ports, .mgt, .edge, .twin, .key, .out] ∧
           t.role = (if s.unitId = 0 then 3 else 4)) ∧
       (s.role = 2 →
         ∃ t, exec .claim s = .next t ∧ t.flag F.PAIR_CTRL_ERR_BUSY = true ∧ t.role = 2 ∧ s.RegsBut t [K.PAIR_CTRL] ∧
           s.Only t [.regs]))) ∧
  (∀ s : State, s.powered = true → s.fld F.PAIR_CFG_MODE = 1 → s.saf.mode = .normal → s.role = 4 →
     (s.twin.mask = 0 →
       (∃ t, exec (.holdInMask true) s = .next t ∧ s.Only t [.regs, .cnts, .ports, .mgt, .edge, .twin, .key, .out] ∧
         t.holdIn = true ∧ t.flag F.PAIR_STATUS_HOLD_MASKED = true ∧
         t.flag F.PAIR_STATUS_LINE_FAULT = true ∧ (t.fld F.PAIR_EVT_EVENTS).testBit 5 = true ∧ t.role = 4 ∧
         t.flag F.PAIR_STATUS_READY = false) ∧
       (s.flag F.PAIR_STATUS_HOLD_IN = true → s.fld F.PAIR_STATUS_PARTNER_ROLE ≠ 2 → s.fld F.PAIR_STATUS_PARTNER_ROLE ≠ 3 →
         ∃ t, exec (.holdInMask false) s = .next t ∧ s.Only t [.regs, .cnts, .ports, .mgt, .edge, .twin, .key, .out] ∧
           t.holdIn = false ∧ t.flag F.PAIR_STATUS_HOLD_MASKED = true ∧
           (t.fld F.PAIR_EVT_EVENTS).testBit 4 = true ∧ t.role = 4 ∧ t.flag F.PAIR_STATUS_TAKEOVER_BLOCKED = true ∧
           t.flag F.PAIR_STATUS_READY = false)) ∧
     (s.twin.mask ≠ 0 → s.flag F.PAIR_STATUS_HOLD_IN = true →
       ∃ t, exec .holdInUnmask s = .next t ∧ s.Only t [.regs, .cnts, .ports, .mgt, .edge, .twin, .key, .out] ∧ t.twin.mask = 0 ∧
         t.flag F.PAIR_STATUS_HOLD_MASKED = false ∧ t.role = 4) ∧
     (s.flag F.PAIR_STATUS_HOLD_IN = true →
       ∃ t, exec .lineFaultClear s = .next t ∧ t.flag F.PAIR_STATUS_LINE_FAULT = false ∧ t.role = 4 ∧
         s.RegsBut t [K.PAIR_STATUS] ∧ s.Only t [.regs]) ∧
     (s.flag F.PAIR_STATUS_HOLD_IN = false → exec .lineFaultClear s = .next s))

/-- The journal goes to the standby. R428, R430, R431; relay of entries is log entry 52, layouts log entry 20. -/
def Obligations.JournalGoesToTheStandby : Prop :=
  ∀ s : State, s.linked = true → s.fld F.PAIR_CFG_MODE = 1 →
    (s.role = 4 → s.twin.snapping = false →
      (∀ f u e, s.takePair 2 = some (f, u) → e = entryAt (pmBody f.bytes) 8 →
        (s.follows e = true → e.jseq < 2 ^ 64 →
          ∃ t, exec .journalReceive s = .next t ∧ s.Only t [.regs, .cnts, .data, .mgt, .twin, .key] ∧
            t.mgt.jrn = (e :: s.mgt.jrn).take 65536 ∧
            t.pair K.JRN_HEAD_LO K.JRN_HEAD_HI = e.jseq ∧ t.pairSeq 3 = (s.pairSeq 3 + 1) % 2 ^ 32) ∧
        (s.follows e = false → s.nextJseq ≤ e.jseq → s.twin.step = 0 →
          ∃ t, exec .journalReceive s = .next t ∧ s.Only t [.regs, .cnts, .data, .mgt, .twin, .key] ∧
            t.mgt.jrn = s.mgt.jrn ∧ t.twin.step = 1 ∧
            t.twin.rejoined = false ∧ t.flag F.PAIR_STATUS_READY = false ∧ (t.fld F.PAIR_EVT_EVENTS).testBit 7 = true)) ∧
      (∀ f u e c T, s.takePair 4 = some (f, u) → s.entryOf (beAt (pmBody f.bytes) 0 8) = some e → s.journaledCmd e = some c →
        c.origin < 64 → T = beAt (pmBody f.bytes) 8 6 * 1000000000 + beAt (pmBody f.bytes) 14 4 → s.nowNs < T →
        ∃ t, exec .commitReceive s = .next t ∧ s.Only t [.regs, .cnts, .mgt, .twin, .key] ∧
          t.twin.commits = s.twin.commits ++ [(c, T)] ∧
          t.fld (F.MGT_LAST_SEQ_SEQ c.origin) = c.seq ∧ t.mgt.execQ = s.mgt.execQ ∧
          (c.opcode = 0x34 → t.fld (F.CMD_GEN_GEN c.origin) = (s.fld (F.CMD_GEN_GEN c.origin) + 1) % 2 ^ 16) ∧
          s.RegsBut t (K.MGT_LAST_SEQ c.origin :: if c.opcode = 0x34 then [K.CMD_GEN c.origin] else [])) ∧
      (∀ f u e, s.takePair 11 = some (f, u) → s.twin.step = 3 → (pmBody f.bytes).length = 64 →
        e = entryAt (pmBody f.bytes) 0 →
        s.entryOf e.jseq ≠ some e →
        ∃ t, exec .catchUpReceive s = .next t ∧ s.Only t [.regs, .cnts, .mgt, .key] ∧
          t.mgt.jrn = (e :: s.mgt.jrn.filter (fun x => decide (x.jseq < e.jseq))).take 65536 ∧
          t.cnt (C.pair 14) = s.cnt (C.pair 14) +
            BitVec.ofNat 64 (s.mgt.jrn.filter (fun x => decide (e.jseq ≤ x.jseq))).length)) ∧
    (s.role = 3 → ∀ c n, s.twin.acks = [(c, n)] → c.origin < 64 → c.seq < 2 ^ 32 →
      (∀ f u, s.takePair 3 = some (f, u) → c.jseq + s.groupSize c.jseq ≤ beAt (pmBody f.bytes) 0 8 + 1 →
        ∃ t, exec .journalAckReceive s = .next t ∧ s.Only t [.regs, .cnts, .data, .mgt, .twin, .key] ∧ t.twin.acks = [] ∧
          t.fld (F.MGT_LAST_SEQ_SEQ c.origin) = c.seq ∧
          s.RegsBut t (K.MGT_LAST_SEQ c.origin :: if c.opcode = 0x34 then [K.CMD_GEN c.origin] else []) ∧
          t.twin.commits = s.twin.commits ++ [(c, s.nowNs + 1000 * s.fld F.PAIR_TIMING_APPLY_US)] ∧
          t.pairSeq 4 = (s.pairSeq 4 + 1) % 2 ^ 32 ∧ t.cnt (C.mgt 1) = s.cnt (C.mgt 1) + 1) ∧
      (n ≤ 3 → s.partnerHere = true →
        ∃ t, exec .journalAckTimeout s = .next t ∧ s.Only t [.cnts, .data, .twin] ∧
          t.twin.acks = [(c, n + 1)] ∧ t.cnt (C.pair 6) = s.cnt (C.pair 6) + 1 ∧
          t.twin.commits = s.twin.commits ∧ s.RegsBut t []) ∧
      (3 < n ∨ s.partnerHere = false →
        ∃ t, exec .journalAckTimeout s = .next t ∧ s.Only t [.regs, .cnts, .data, .mgt, .twin, .key] ∧ t.twin.acks = [] ∧
          t.fld (F.MGT_LAST_SEQ_SEQ c.origin) = c.seq ∧
          t.twin.commits = s.twin.commits ++ [(c, s.nowNs + 1000 * s.fld F.PAIR_TIMING_APPLY_US)])) ∧
    (∃ t, exec .commandApplyTime s = .next t ∧
      t.mgt.execQ = s.mgt.execQ ++ (s.twin.commits.filter (fun c => decide (c.2 ≤ s.nowNs))).map (fun c => c.1) ∧
      t.twin.commits = s.twin.commits.filter (fun c => decide (s.nowNs < c.2)) ∧ s.Only t [.mgt, .twin])

/-- Snapshots bring the standby up, credits return with crossing frames. R425, R428, R429, R434, R440, R442; layouts are log
entry 20, both directions of a reset log entry 42. -/
def Obligations.SnapshotsAndCredits : Prop :=
  (∀ s : State, s.linked = true → s.fld F.PAIR_CFG_MODE = 1 →
     (∀ T, s.twin.tSync = some T → T ≤ s.nowNs → s.twin.step = 4 →
       (s.role = 3 → ∃ t, exec .syncSnapshot s = .next t ∧ s.Only t [.cnts, .data, .twin] ∧ t.twin.tSync = none ∧
         t.twin.step = 0 ∧
         t.pairSeq 6 = (s.pairSeq 6 + 1) % 2 ^ 32 ∧ s.RegsBut t []) ∧
       (s.role = 4 → ∃ t, exec .syncSnapshot s = .next t ∧ t.twin.snap = s.snapshot ∧ t.twin.snapping = true ∧
         t.twin.syncLog = [] ∧ t.twin.tSync = none ∧ s.Only t [.twin])) ∧
     (s.role = 4 → ∀ f u, s.takePair 6 = some (f, u) →
       (∀ T items, s.twin.step = 3 →
         ∃ t, exec (.syncReceivePair (some T) items) s = .next t ∧ t.twin = { s.twin with step := 4, tSync := some T } ∧
           t.mgt.inbox = s.mgt.inbox.erase f ∧ s.Only t [.mgt, .twin]) ∧
       (∀ i v d, s.twin.snapping = true → s.twin.overflow = false → s.twin.syncLog = [] → i < 1024 →
         s.twin.snap = [(SnapKind.delta (K.SEQG_WIN_CFG i), d)] →
         ∃ t, exec (.syncReceivePair none [(0, K.SEQG_WIN_CFG i, v)]) s = .next t ∧
           s.Only t [.regs, .cnts, .data, .mgt, .edge, .wvr, .ldg, .twin, .key] ∧ t.twin.step = 0 ∧ t.twin.rejoined = true ∧
           t.twin.snapping = false ∧ t.cnt (C.pair 7) = s.cnt (C.pair 7) + 1 ∧
           t.reg (K.SEQG_WIN_CFG i) = putBits (s.reg (K.SEQG_WIN_CFG i)) 15 0
             (ofSigned 16 ((wordBits (s.reg (K.SEQG_WIN_CFG i)) 15 0 : Int) + (v - d))) ∧
           s.RegsBut t [K.SEQG_WIN_CFG i, K.PAIR_STATUS]) ∧
       (∀ items, s.twin.snapping = true → s.twin.overflow = true → s.twin.step = 4 →
         ∃ t, exec (.syncReceivePair none items) s = .next t ∧
           s.Only t [.regs, .cnts, .data, .mgt, .edge, .wvr, .ldg, .twin, .key] ∧ t.twin.step = 9 ∧
           t.cnt (C.pair 8) = s.cnt (C.pair 8) + 1 ∧
           s.RegsBut t [])) ∧
     (s.role = 4 → ∀ f u, s.takePair 7 = some (f, u) → beAt (pmBody f.bytes) 4 1 = 0 →
       ∃ t, exec .sleepPairReceive s = .next t ∧
         s.Only t [.regs, .cnts, .nmLog, .data, .mgt, .edge, .nm, .twin, .key, .out] ∧ t.fld F.NM_STATE_RING = 2 ∧
         t.nm.committed = beAt (pmBody f.bytes) 2 2 ∧
         t.nm.round = beAt (pmBody f.bytes) 0 2 ∧ t.nm.armed = true ∧
         t.nm.tCommit = beAt (pmBody f.bytes) 6 6 * 1000000000 + beAt (pmBody f.bytes) 12 4) ∧
     (s.role = 3 → s.nm.calm = false → s.fld F.NM_STATE_RING = 0 → ∀ f u, s.takePair 8 = some (f, u) →
       ∃ t, exec .wakePairReceive s = .next t ∧
         s.Only t [.regs, .cnts, .nmLog, .data, .mgt, .edge, .nm, .twin, .key, .out] ∧
         t.nm.due = s.nm.due ||| (beAt (pmBody f.bytes) 0 2 &&& s.asleepMask) ∧
         t.mgt.inbox = s.mgt.inbox.erase f)) ∧
  (∀ s : State, s.running = true →
     (s.joined = true →
       (∀ v n, v < 288 → s.data.returned = [(v, n)] → mapGet (fun _ => 0) s.twin.credited v ≠ n →
         ∃ t, exec .creditSend s = .next t ∧ s.Only t [.cnts, .data, .twin] ∧ t.pairSeq 5 = (s.pairSeq 5 + 1) % 2 ^ 32 ∧
           t.twin.credited = [(v, n)] ∧
           t.data.returned = [(v, n)]) ∧
       (∀ f u, s.takePair 5 = some (f, u) → beAt (pmBody f.bytes) 1 1 = 1 →
         (beAt (pmBody f.bytes) 0 1 = 0 →
           ∃ t, exec .creditReceive s = .next t ∧ s.Only t [.cnts, .data, .mgt, .twin] ∧
             t.voqBack (beAt (pmBody f.bytes) 2 2) = beAt (pmBody f.bytes) 4 4 ∧
             (∀ v, v ≠ beAt (pmBody f.bytes) 2 2 → t.voqBack v = s.voqBack v) ∧ (∀ v, t.voqSent v = s.voqSent v) ∧
             t.cnts = s.cnts) ∧
         (beAt (pmBody f.bytes) 0 1 = 1 →
           ∃ t, exec .creditReceive s = .next t ∧ s.Only t [.cnts, .data, .mgt, .twin] ∧
             t.voqBack (beAt (pmBody f.bytes) 2 2) = 0 ∧
             t.voqSent (beAt (pmBody f.bytes) 2 2) = 0 ∧ t.cnt (C.pair 11) = s.cnt (C.pair 11) + 1 ∧
             s.CntsBut t [C.pair 11])) ∧
       (∀ v, v < 288 → s.queue (280 + v) ≠ [] →
         ∃ t, exec (.creditResetTimeout v) s = .next t ∧ s.Only t [.cnts, .data, .twin] ∧ t.voqBack v = 0 ∧ t.voqSent v = 0 ∧
           t.cnt (C.pair 11) = s.cnt (C.pair 11) + 1 ∧ t.pairSeq 5 = (s.pairSeq 5 + 1) % 2 ^ 32)) ∧
     (∀ h rest f, s.data.crossing = h :: rest → s.frame h = some f → f.written = true →
       ∃ t, exec .crossingFrameReceive s = .next t ∧
         s.Only t [.regs, .cnts, .bufLog, .data, .ports, .mgt, .wvr, .twin, .key] ∧
         t.cnt (C.pair 10) = s.cnt (C.pair 10) + 1 ∧
         (s.joined = true → f.bad = false → (beAt f.bytes 17 1).testBit 4 = false → beAt f.bytes 16 1 / 4 < 35 →
           s.flag (F.VLAN_WIN_DATA0_VALID (beAt f.bytes 18 2 % 4096)) = false →
           t.cnt (C.buf 8) = s.cnt (C.buf 8) + 1)) ∧
     (s.twin.replaying = false →
       (∀ p q c r, p < 34 → s.replayList p = (q, c) :: r → c.frame = none →
         ∃ t, exec (.replayListExit p) s = .next t ∧ s.Only t [.regs, .cnts, .bufLog, .data, .mgt, .twin, .key] ∧
           t.replayList p = r ∧ (∀ k, k ≠ p → t.replayList k = s.replayList k)) ∧
       (∀ p, p < 34 → s.replayList p = [] → exec (.replayListExit p) s = .next s)))

/-- Commands are admitted in order. R297, R452 to R457, R459; when CMD_RX counts and where framing is checked are log entry
51. -/
def Obligations.CommandsAreAdmittedInOrder : Prop :=
  ∀ s : State, s.mcRuns = true →
    (∀ bytes, ∃ t, exec (.writeCommand bytes) s = .next t ∧ s.Only t [.cnts, .mgt] ∧ t.cnt (C.mgt 0) = s.cnt (C.mgt 0) + 1 ∧
      (s.mgt.cmdQ.length < 16 → t.mgt = { s.mgt with cmdQ := s.mgt.cmdQ ++ [⟨.spi, bytes⟩] } ∧ s.CntsBut t [C.mgt 0]) ∧
      (16 ≤ s.mgt.cmdQ.length → t.mgt = s.mgt ∧ t.cnt (C.mgt 5) = s.cnt (C.mgt 5) + 1 ∧ s.CntsBut t [C.mgt 0, C.mgt 5])) ∧
    (∀ f u, s.takeInbox (fun m => m.kind == .command) = some (f, u) →
      (∀ err, stopsDma err = true → ∃ t, exec (.commandFrameReceive err) s = .next t ∧
        s.Only t [.regs, .cnts, .bufLog, .safLog, .data, .mgt, .key] ∧ t.mgt.cmdQ = s.mgt.cmdQ ∧
        t.mgt.inbox = s.mgt.inbox.erase f ∧ t.cnt (C.mgt 0) = s.cnt (C.mgt 0) ∧
        t.cnt (C.mgt 11) = s.cnt (C.mgt 11) + 1 ∧ (f.head = none → s.CntsBut t [C.mgt 11] ∧ s.Only t [.cnts, .mgt])) ∧
      (s.mgt.cmdQ.length < 16 → ∀ err, stopsDma err = false →
        ∃ t q, exec (.commandFrameReceive err) s = .next t ∧ s.Only t [.regs, .cnts, .bufLog, .safLog, .data, .mgt, .key] ∧
          q.chan.isFrame = true ∧ t.mgt.inbox = s.mgt.inbox.erase f ∧ t.mgt.cmdQ = s.mgt.cmdQ ++ [q] ∧
          t.cnt (C.mgt 0) = s.cnt (C.mgt 0) + 1 ∧ t.cnt (C.mgt 11) = s.cnt (C.mgt 11) ∧
          (f.head = none → s.Only t [.cnts, .mgt]))) ∧
    (∀ q r, s.mgt.cmdQ = q :: r → s.twin.acks = [] → s.pairActive = false → s.journalHeld = false →
      ∃ t, exec .commandAccept s = .next t ∧ s.Only t [.regs, .cnts, .data, .mgt, .twin, .key, .out] ∧ t.mgt.cmdQ = r ∧
        (if framed q.chan q.msg = false then
          t.cnt (C.mgt 6) = s.cnt (C.mgt 6) + 1 ∧ s.CntsBut t [C.mgt 6] ∧ s.RegsBut t [] ∧ t.mgt = { s.mgt with cmdQ := r }
        else if s.authentic q.msg = false then
          t.cnt (C.mgt 3) = s.cnt (C.mgt 3) + 1 ∧ s.CntsBut t [C.mgt 3] ∧ s.RegsBut t [] ∧ t.mgt = { s.mgt with cmdQ := r }
        else if s.fresh? q.msg = false then
          t.cnt (C.mgt 4) = s.cnt (C.mgt 4) + 1 ∧ s.RegsBut t [] ∧ t.mgt.jrn = s.mgt.jrn ∧ t.mgt.execQ = s.mgt.execQ
        else if s.refuseEarly q.chan q.msg ≠ 0 ∨ s.standby = true ∨ s.refuseLate q.msg ≠ 0 then
          t.mgt.execQ = s.mgt.execQ ∧ (s.standby = false → t.cnt (C.mgt 2) = s.cnt (C.mgt 2) + 1 ∧
            t.fld (F.MGT_LAST_SEQ_SEQ (msgOrigin q.msg)) = msgSeq q.msg ∧ s.nextJseq < t.nextJseq)
        else
          t.mgt.execQ = s.mgt.execQ ++ [⟨q.chan, msgOrigin q.msg, msgSeq q.msg, msgOp q.msg, msgBody q.msg, s.nextJseq,
            s.fld F.BRG_TAG_NEXT, s.fld (F.CMD_GEN_GEN (msgOrigin q.msg))⟩] ∧
          t.fld (F.CMD_GEN_GEN (msgOrigin q.msg)) = s.fld (F.CMD_GEN_GEN (msgOrigin q.msg)) + b2n (msgOp q.msg == 0x34) ∧
          t.fld (F.MGT_LAST_SEQ_SEQ (msgOrigin q.msg)) = msgSeq q.msg ∧ t.cnt (C.mgt 1) = s.cnt (C.mgt 1) + 1 ∧
          s.nextJseq + (commandEntries (msgOp q.msg) (msgBody q.msg)).length ≤ t.nextJseq))

/-- READ_RESPONSE, status, events and POP registers show the oldest. R460; the other clauses follow R459, R473, R480, R507.
-/
def Obligations.SpiAndPopsTakeTheOldest : Prop :=
  (∀ s : State, s.mcRuns = true →
     (∃ t b, exec .readStatus s = .next t ∧ t.out = .spi [b] :: s.out ∧ b.getLsbD 0 = !s.mgt.respSpi.isEmpty ∧
       b.getLsbD 1 = !s.mgt.events.isEmpty ∧ b.getLsbD 2 = decide (16 ≤ s.mgt.cmdQ.length) ∧
       b.getLsbD 3 = decide (0xC ≤ s.fld F.BOOT_STATUS_STATE) ∧ b.toNat < 16 ∧ s.Only t [.out]) ∧
     (∀ n m r, s.mgt.respSpi = m :: r →
       ∃ t, exec (.readResponse n) s = .next t ∧ t.out = .spi (padTo n 0 (0xA5 :: m)) :: s.out ∧
         t.mgt = { s.mgt with respSpi := if m.length < n then r else m :: r } ∧ s.Only t [.mgt, .out]) ∧
     (∀ n, s.mgt.respSpi = [] →
       ∃ t, exec (.readResponse n) s = .next t ∧ t.out = .spi (List.replicate n 0) :: s.out ∧ s.Only t [.out]) ∧
     (∀ n e r, s.mgt.events = e :: r →
       ∃ t, exec (.readEvent n) s = .next t ∧ s.Only t [.out] ∧
         (s.lcState < 4 → t.out = .spi (padTo n 0 (0xA5 :: message (s.cmdKey (s.fld F.MGT_CFG_EVT_ORIGIN)) 0xC2
           (s.fld F.MGT_CFG_EVT_ORIGIN) e.seq e.code e.body)) :: s.out) ∧
         (4 ≤ s.lcState → t.out = .spi (List.replicate n 0) :: s.out)) ∧
     (∀ n, s.mgt.events = [] → ∃ t, exec (.readEvent n) s = .next t ∧ s.Only t [.out] ∧
       t.out = .spi (List.replicate n 0) :: s.out) ∧
     (∀ c rest, s.mgt.execQ = c :: rest → c.opcode = 0x80 →
       ∃ t, exec .eventAck s = .next t ∧ s.Only t [.regs, .mgt, .key] ∧ t.mgt.execQ = rest ∧ s.RegsBut t journalKeys ∧
         t.mgt.events = s.mgt.events.filter (fun e => decide (2 ^ 31 ≤ (beAt c.body 0 4 + 2 ^ 32 - e.seq) % 2 ^ 32)))) ∧
  (∀ s : State, s.mcRuns = true →
     (∃ t, exec .bufQlogPop s = .next t ∧ t.busData = s.bufLog.headD 0 ∧ t.bufLog = s.bufLog.drop 1 ∧
       s.Only t [.busData, .bufLog]) ∧
     (∃ t, exec .nmLogPop s = .next t ∧ t.busData = s.nmLog.headD 0x00FF0000 ∧ t.nmLog = s.nmLog.drop 1 ∧
       s.Only t [.busData, .nmLog]) ∧
     (∃ t, exec .safLogPop s = .next t ∧ t.busData = s.safLog.headD 0 ∧ t.safLog = s.safLog.drop 1 ∧
       s.Only t [.busData, .safLog]) ∧
     (∃ t, exec .brgPwflPop s = .next t ∧ t.mgt = { s.mgt with pwfl := s.mgt.pwfl.drop 1 } ∧
       (∀ e r, s.mgt.pwfl = e :: r → t.busData = BitVec.ofNat 32 (e.cause * 0x1000000 + e.tag) ∧
         t.reg K.BRG_PWFL_ADDR = BitVec.ofNat 32 e.addr ∧ t.fld F.BRG_PWFL_TIME_NS_TIME = nsOf e.time ∧
         t.pair K.BRG_PWFL_TIME_S_LO K.BRG_PWFL_TIME_S_HI = secOf e.time) ∧
       (s.mgt.pwfl = [] → t.busData = 0 ∧ t.reg K.BRG_PWFL_ADDR = 0) ∧
       s.RegsBut t [K.BRG_PWFL_ADDR, K.BRG_PWFL_TIME_NS, K.BRG_PWFL_TIME_S_LO, K.BRG_PWFL_TIME_S_HI] ∧
       s.Only t [.regs, .busData, .mgt]) ∧
     (∃ t, exec .evtPop s = .next t ∧ t.mgt = { s.mgt with events := s.mgt.events.drop 1 } ∧
       (∀ e r, s.mgt.events = e :: r → t.busData = BitVec.ofNat 32 (e.code * 0x10000 + e.seq % 0x10000) ∧
         ∀ j, j < 12 → t.reg (K.EVT_DATA j) = BitVec.ofNat 32 (beAt e.body (4 * j) 4)) ∧
       (s.mgt.events = [] → t.busData = 0 ∧ ∀ j, j < 12 → t.reg (K.EVT_DATA j) = 0) ∧
       s.RegsBut t ((List.range 12).map K.EVT_DATA) ∧ s.Only t [.regs, .busData, .mgt]) ∧
     (∀ (lo hi : Word) (j : Nat), mapGet (fun _ => none) s.heldLo K.JRN_RD_INDEX_LO = some lo →
       j = lo.toNat + 2 ^ 32 * hi.toNat →
       ∃ t, exec (.jrnRdIndexWrite hi) s = .next t ∧ t.pair K.JRN_RD_INDEX_LO K.JRN_RD_INDEX_HI = j ∧
         t.flag F.JRN_STATUS_GONE = (s.entryOf j).isNone ∧
         (∀ k, k < 16 → t.reg (K.JRN_RD_DATA k) =
           BitVec.ofNat 32 (beAt (((s.entryOf j).map JEntry.bytes).getD (List.replicate 64 0)) (4 * k) 4)) ∧
         mapGet (fun _ => none) t.heldLo K.JRN_RD_INDEX_LO = none))

/-- Commands on images, firmware and records. R54, R65, R331, R461 to R463, R470, R477; layouts and readings of records are
log entries 48 and 53. -/
def Obligations.StoredImagesAndRecordsChange : Prop :=
  ∀ (s : State) (c : Cmd) (rest : List Cmd), s.mcRuns = true → s.mgt.execQ = c :: rest →
    (c.opcode = 0x20 → ∃ t, exec .imageErase s = .next t ∧ t.mgt.execQ = rest ∧ s.RegsBut t journalKeys ∧
      (∀ n, n < 2 → beAt c.body 0 4 < 2 → t.slotBytes n = if n = beAt c.body 0 4 then [] else s.slotBytes n) ∧
      s.Only t [.regs, .mgt, .key, .boot]) ∧
    (c.opcode = 0x21 → ∃ t, exec .imageWrite s = .next t ∧ t.mgt.execQ = rest ∧ s.RegsBut t journalKeys ∧
      (∀ n, n < 2 → beAt c.body 0 1 < 2 → t.slotBytes n = if n = beAt c.body 0 1
        then spliceBytes (s.slotBytes n) (beAt c.body 4 4) (c.body.drop 8) else s.slotBytes n) ∧
      s.Only t [.regs, .mgt, .key, .boot]) ∧
    (c.opcode = 0x22 → ∀ nvm, ∃ t, exec (.imageVerify nvm) s = .next t ∧ t.mgt.execQ = rest ∧ s.RegsBut t journalKeys ∧
      s.Only t [.regs, .mgt, .key] ∧
      (c.chan = .spi → s.standby = false → ∀ b, b = imageOf (s.slotBytes (beAt c.body 0 4)) →
        t.mgt.respSpi = s.mgt.respSpi ++ [s.spiAnswer c 1
          (if nvm = false then beBytes 4 0x10 ++ beBytes 4 0
           else if headerOk (s.fld F.GLB_ID_REVISION) b = false then beBytes 4 0x11 ++ beBytes 4 (beAt b 16 4)
           else if mapGet (fun _ => []) s.key.imgHash s.lcState ≠ sha256 (blockKey b) then beBytes 4 0x21 ++ beBytes 4 (beAt b 16 4)
           else if blockGood b = false then beBytes 4 0x20 ++ beBytes 4 (beAt b 16 4)
           else beBytes 4 (s.checkImage b true false).1 ++ beBytes 4 (beAt b 16 4))])) ∧
    (c.opcode = 0x23 → s.fld F.BOOT_STATUS_STATE = 0xB → beAt c.body 0 4 < 2 →
      ∀ env, startOk env = true → ∃ t, exec (.imageActivate env) s = .next t ∧ t.fld F.BOOT_PREF_SLOT = beAt c.body 0 4 ∧
        t.mgt.execQ = rest ∧ s.RegsBut t (K.BOOT_PREF :: journalKeys) ∧ s.Only t [.regs, .mgt, .key]) ∧
    (c.opcode = 0x24 → ∃ t, exec .firmwareWrite s = .next t ∧ s.Only t [.regs, .mgt, .key, .boot] ∧ t.mgt.execQ = rest ∧
      t.boot = (if s.fld F.BOOT_STATUS_STATE = 0xD ∨ s.flag F.FW_STATUS_COPY = true
        then { s.boot with fwA := spliceBytes s.boot.fwA (beAt c.body 0 4) (c.body.drop 4) }
        else { s.boot with fwB := spliceBytes s.boot.fwB (beAt c.body 0 4) (c.body.drop 4) }) ∧
      s.RegsBut t journalKeys) ∧
    (c.opcode = 0x40 → s.ownOutstanding = true → ∃ t, exec .recordApply s = .next t ∧ t.mgt = s.mgt ∧
      s.RegsBut t [] ∧ s.Only t [.time, .out]) ∧
    (c.opcode = 0x40 → s.ownOutstanding = false → ∀ r, applyRec c.body = some r →
      ((r.known && r.forUnit s.unitId) = false →
        ∃ t, exec .recordApply s = .next t ∧ t.mgt.execQ = rest ∧ s.RegsBut t journalKeys ∧ t.data = s.data ∧ t.ldg = s.ldg) ∧
      (r.number = 0x800 → (r.known && r.forUnit s.unitId) = true →
        ∃ t, exec .recordApply s = .next t ∧ t.mgt.execQ = rest ∧ t.ldg = s.ldg ∧
          t.fld F.LDG_CFG_PERIOD_S = orElse (bits (wd r.words 0) 31 20) 60 ∧
          t.fld F.LDG_CFG_STALE_MS = orElse (bits (wd r.words 0) 19 8) 200 ∧
          s.RegsBut t (K.LDG_CFG :: journalKeys))) ∧
    (c.opcode = 0x61 → s.journalHeld = false → s.mgt.cpWait = none →
      ∃ t e, exec .checkpoint s = .next t ∧ t.mgt.jrn.head? = some e ∧ e.jseq = s.nextJseq ∧ beAt e.body 8 1 = 7 ∧
        t.mgt.cpWait = some e.jseq ∧ t.mgt.execQ = s.mgt.execQ ∧
        (∃ r, r ∈ t.key.signQ ∧ r.key = 1 ∧ r.what = .checkpoint e.jseq) ∧
        (s.flag (F.LMS_STATUS_READY 1) = false → t.flag F.JRN_STATUS_SIGN_WAIT = true) ∧ s.RegsBut t journalKeys ∧
        s.Only t [.regs, .mgt, .key]) ∧
    (c.opcode = 0x70 →
      (s.mgt.mcLane.length < 64 → ∃ t f, exec .frameSend s = .next t ∧ s.Only t [.regs, .cnts, .mgt, .key] ∧
        t.mgt.execQ = rest ∧
        t.mgt.mcLane = s.mgt.mcLane ++ [f] ∧ t.cnts = s.cnts ∧ s.RegsBut t journalKeys) ∧
      (64 ≤ s.mgt.mcLane.length → ∃ t, exec .frameSend s = .next t ∧ s.Only t [.regs, .cnts, .mgt, .key] ∧
        t.mgt.execQ = rest ∧ t.mgt.mcLane = s.mgt.mcLane ∧
        t.cnt (C.mgt 13) = s.cnt (C.mgt 13) + 1 ∧ s.CntsBut t [C.mgt 13]))

/-- The register bridge reads, writes and logs failures. R444, R465, R466, R468, R486; the layouts of the bridge messages
are log entry 20. -/
def Obligations.RegisterBridgeReadsAndWrites : Prop :=
  (∀ (s : State) (c : Cmd) (rest : List Cmd), s.mcRuns = true → s.mgt.execQ = c :: rest → c.chan = .spi → s.standby = false →
     s.mgt.run = none → s.mgt.toPost = [] → s.mgt.posted = [] →
     (∀ i, (i = .regRead ∧ c.opcode = 0x100 ∧ bodyWords c.body = [K.GLB_SCRATCH]) ∨
         (i = .regBurstRead ∧ c.opcode = 0x102 ∧ beAt c.body 0 4 = K.GLB_SCRATCH ∧ beAt c.body 4 4 = 1) →
       ∃ t, exec i s = .next t ∧ t.mgt.execQ = rest ∧ t.mgt.run = none ∧ s.RegsBut t journalKeys ∧
         t.mgt.respSpi = s.mgt.respSpi ++ [s.spiAnswer c 1 (beBytes 4 (s.reg K.GLB_SCRATCH).toNat)]) ∧
     (c.opcode = 0x100 → bodyWords c.body = [0x3FFFFC] →
       ∃ t, exec .regRead s = .next t ∧ t.mgt.execQ = rest ∧ t.cnt (C.mgt 9) = s.cnt (C.mgt 9) + 1 ∧
         t.mgt.respSpi = s.mgt.respSpi ++ [s.spiAnswer c 2 (beBytes 4 0xFFFFFFFF ++ beBytes 4 0)] ∧ s.RegsBut t journalKeys) ∧
     (∀ i m d, m ≠ 0 → (i = .regWrite ∧ c.opcode = 0x101 ∧ bodyTriples c.body = [(K.GLB_SCRATCH, m, d)]) ∨
         (i = .regBurstWrite ∧ c.opcode = 0x103 ∧ m = 0xFFFFFFFF ∧ bodyBurst c.body = [(K.GLB_SCRATCH, m, d)]) →
       ∃ t, exec i s = .next t ∧ t.mgt.execQ = rest ∧ t.mgt.posted = [] ∧
         t.reg K.GLB_SCRATCH = (s.reg K.GLB_SCRATCH &&& ~~~ m) ||| (d &&& m) ∧
         t.fld F.BRG_TAG_NEXT = (s.fld F.BRG_TAG_NEXT + 1) % 65536 ∧
         s.RegsBut t (K.GLB_SCRATCH :: K.BRG_TAG :: journalKeys) ∧ s.MemSame t) ∧
     (∀ m d off, m ≠ 0 → off < 0x400000 → c.opcode = 0x101 → bodyTriples c.body = [(0x400000 + off, m, d)] →
       (s.bridgeOwns (bankOf off) = true →
         ∃ t, exec .regWrite s = .next t ∧ t.mgt.execQ = rest ∧ s.MemSame t ∧
           t.mgt.posted = [⟨s.fld F.BRG_TAG_NEXT, 0x400000 + off, m, d, false, some c⟩]) ∧
       (s.bridgeOwns (bankOf off) = false → s.mgt.pwfl.length < 32 →
         ∃ t, exec .regWrite s = .next t ∧ t.mgt.execQ = rest ∧ s.MemSame t ∧ t.mgt.posted = [] ∧
           t.mgt.pwfl = s.mgt.pwfl ++ [⟨3, s.fld F.BRG_TAG_NEXT, 0x400000 + off, s.nowNs⟩])) ∧
     (∀ m d, m ≠ 0 → s.mgt.pwfl.length < 32 → c.opcode = 0x101 → bodyTriples c.body = [(0x3FFFFC, m, d)] →
       ∃ t, exec .regWrite s = .next t ∧ t.mgt.execQ = rest ∧ s.MemSame t ∧
         t.mgt.pwfl = s.mgt.pwfl ++ [⟨5, s.fld F.BRG_TAG_NEXT, 0x3FFFFC, s.nowNs⟩] ∧
         t.mgt.fenceFail = min 65535 (s.mgt.fenceFail + 1) ∧ t.mgt.fenceTag = s.fld F.BRG_TAG_NEXT)) ∧
  (∀ s : State, s.mcRuns = true → s.mgt.toPost = [] → s.mgt.served = [] →
     (∀ a off tag m d w, s.mgt.run = none → s.mgt.posted = [⟨tag, a, m, d, false, w⟩] → placeOf a = .scratch off →
       (s.bankOwner (bankOf off) = 2 → s.bankState (bankOf off) ≤ 1 →
         ∃ t, exec (.postedWriteComplete false) s = .next t ∧ t.mgt.posted = [] ∧
           t.readWord off = (s.readWord off &&& ~~~ m) ||| (d &&& m) ∧
           (∀ x, x < off ∨ off + 4 ≤ x → t.readByte x = s.readByte x) ∧ s.RegsBut t []) ∧
       (s.bankOwner (bankOf off) ≠ 2 ∨ 1 < s.bankState (bankOf off) → s.mgt.pwfl.length < 32 →
         ∃ t, exec (.postedWriteComplete false) s = .next t ∧ t.mgt.posted = [] ∧ s.MemSame t ∧
           t.mgt.pwfl = s.mgt.pwfl ++ [⟨3, tag, a, s.nowNs⟩] ∧ s.RegsBut t journalKeys)) ∧
     (∀ c rest a off, s.mgt.execQ = c :: rest → c.chan = .spi → s.standby = false → s.mgt.posted = [] →
       s.mgt.run = some ⟨[a], [], none, false⟩ → placeOf a = .scratch off →
       (s.bridgeOwns (bankOf off) = true →
         ∃ t, exec (.farReadComplete false) s = .next t ∧ t.mgt.run = none ∧ t.mgt.execQ = rest ∧ s.MemSame t ∧
           t.mgt.respSpi = s.mgt.respSpi ++ [s.spiAnswer c 1 (beBytes 4 (s.readWord off).toNat)] ∧ s.RegsBut t journalKeys) ∧
       (∃ t, exec (.farReadComplete true) s = .next t ∧ t.mgt.run = none ∧ t.mgt.execQ = rest ∧ s.MemSame t ∧
           t.mgt.respSpi = s.mgt.respSpi ++ [s.spiAnswer c 2 (beBytes 4 0xFFFFFFFF ++ beBytes 4 0)] ∧
           t.cnt (C.mgt 9) = s.cnt (C.mgt 9) + 1)) ∧
     (∀ f u tag off m d, s.takePair 9 = some (f, u) → tag < 65536 → off % 4 = 0 → off < 0x400000 → s.joined = true →
       (s.bridgeOwns (bankOf off) = true →
         ∃ t, exec (.bridgeReqReceive true tag (0x400000 + off) m d) s = .next t ∧
           t.readWord off = (s.readWord off &&& ~~~ m) ||| (d &&& m) ∧
           (∀ x, x < off ∨ off + 4 ≤ x → t.readByte x = s.readByte x) ∧ t.pairSeq 10 = (s.pairSeq 10 + 1) % 2 ^ 32 ∧
           s.RegsBut t []) ∧
       (s.bridgeOwns (bankOf off) = false →
         ∃ t, exec (.bridgeReqReceive true tag (0x400000 + off) m d) s = .next t ∧ s.MemSame t ∧
           t.pairSeq 10 = (s.pairSeq 10 + 1) % 2 ^ 32 ∧ s.RegsBut t [])) ∧
     (∀ f u tag a m d w v, s.takePair 10 = some (f, u) → s.mgt.run = none → s.mgt.posted = [⟨tag, a, m, d, true, w⟩] →
       tag < 65536 → s.mgt.pwfl.length < 32 →
       (∃ t, exec (.bridgeRspReceive tag false 0 v) s = .next t ∧ t.mgt.posted = [] ∧ t.mgt.pwfl = s.mgt.pwfl ∧ s.MemSame t ∧
         s.RegsBut t []) ∧
       (∀ cause, 0 < cause → cause < 8 → ∃ t, exec (.bridgeRspReceive tag false cause v) s = .next t ∧ t.mgt.posted = [] ∧
         t.mgt.pwfl = s.mgt.pwfl ++ [⟨cause, tag, a, s.nowNs⟩] ∧ s.MemSame t)) ∧
     (∀ tag a m d w, s.mgt.run = none → s.mgt.posted = [⟨tag, a, m, d, true, w⟩] → s.mgt.pwfl.length < 32 →
       ∃ t, exec .bridgeRspTimeout s = .next t ∧ t.mgt.posted = [] ∧ s.MemSame t ∧
         t.mgt.pwfl = s.mgt.pwfl ++ [⟨1, tag, a, s.nowNs⟩]))

/-- Banks pass cleared to their owners, reset groups are held and released. R487; the steps of a handover follow R488, the
reset groups R501 and R502. -/
def Obligations.BanksAndResetGroupsChangeHands : Prop :=
  (∀ (s : State) (b : Nat), b < 32 →
     (∀ target, target < 4 → s.mcRuns = true →
       (s.bankState b ≠ 0 →
         ∃ t, exec (.handover b target) s = .next t ∧ t.flag (F.BANK_OWNER_ERR_BUSY b) = true ∧
           t.bankOwner b = s.bankOwner b ∧
           t.bankState b = s.bankState b ∧ s.RegsBut t [K.BANK_OWNER b] ∧ s.Only t [.regs]) ∧
       (s.bankState b = 0 → (s.fld F.BANK_STATUS_RESERVED).testBit b = true ∨ target = 3 ∨ target = s.bankOwner b →
         ∃ t, exec (.handover b target) s = .next t ∧ t.flag (F.BANK_OWNER_REJECT b) = true ∧ t.bankOwner b = s.bankOwner b ∧
           t.bankState b = 0 ∧ s.RegsBut t [K.BANK_OWNER b] ∧ s.Only t [.regs]) ∧
       (s.bankState b = 0 → (s.fld F.BANK_STATUS_RESERVED).testBit b = false → target ≠ 3 → target ≠ s.bankOwner b →
         ∃ t, exec (.handover b target) s = .next t ∧ t.bankState b = 1 ∧ t.fld (F.BANK_OWNER_TARGET b) = target ∧
           t.bridgeOwns b = false ∧ t.bankOwner b = s.bankOwner b ∧ s.RegsBut t [K.BANK_OWNER b] ∧ s.Only t [.regs])) ∧
     (s.powered = true → s.bankState b = 1 → s.bankInUse b = true → exec (.bankDrainDone b) s = .next s) ∧
     (s.powered = true → s.bankState b = 1 → s.bankInUse b = false →
       ∃ t, exec (.bankDrainDone b) s = .next t ∧ t.bankState b = 2 ∧ t.bankOwner b = s.bankOwner b ∧
         s.RegsBut t [K.BANK_OWNER b] ∧ s.Only t [.regs]) ∧
     (s.powered = true → s.bankState b = 2 →
       ∃ t, exec (.bankClearDone b) s = .next t ∧ t.bankOwner b = s.fld (F.BANK_OWNER_TARGET b) ∧ t.bankState b = 0 ∧
         t.flag (F.BANK_OWNER_DONE b) = true ∧ (∀ a, 0x20000 * b ≤ a → a < 0x20000 * (b + 1) → t.readByte a = 0) ∧
         (∀ a, a < 0x20000 * b ∨ 0x20000 * (b + 1) ≤ a → t.readByte a = s.readByte a) ∧
         s.RegsBut t [K.BANK_OWNER b] ∧ s.Only t [.regs, .mem])) ∧
  (∀ (s : State) (g : Nat), g < 68 →
     (s.mcRuns = true → s.flag F.RST_CTRL_BUSY = false →
       (∃ t, exec (.pulse g) s = .next t ∧
         s.Only t [.regs, .cnts, .fresh, .bufLog, .data, .ports, .mgt, .edge, .wvr, .key] ∧ t.rstHeld g = true ∧
         (∀ k, k < 68 → k ≠ g → t.rstHeld k = s.rstHeld k) ∧
         t.flag F.RST_CTRL_BUSY = true ∧ t.mgt.pulsing = some g ∧
         (g < 34 → t.flag (F.MAC_STATUS_LINK_UP g) = false)) ∧
       (∃ t, exec (.hold g) s = .next t ∧
         s.Only t [.regs, .cnts, .fresh, .bufLog, .data, .ports, .mgt, .edge, .wvr, .key] ∧ t.rstHeld g = true ∧
         (∀ k, k < 68 → k ≠ g → t.rstHeld k = s.rstHeld k) ∧
         (g < 34 → t.flag (F.MAC_STATUS_LINK_UP g) = false) ∧
         (34 ≤ g → g < 58 → (t.can (g - 34)).reqs = [] ∧ t.fld (F.CAN_STATUS_TEC (g - 34)) = 0 ∧
           t.fld (F.CAN_STATUS_REC (g - 34)) = 0)) ∧
       (s.rstHeld g = true →
         ∃ t, exec (.release g) s = .next t ∧ s.Only t [.regs, .cnts, .fresh, .bufLog, .data, .ports, .mgt, .edge, .wvr, .key] ∧
           t.rstHeld g = false ∧ (∀ k, k < 68 → k ≠ g → t.rstHeld k = s.rstHeld k))) ∧
     (s.mcRuns = true → s.flag F.RST_CTRL_BUSY = true → ∀ i, i = .pulse g ∨ i = .hold g ∨ i = .release g →
       ∃ t, exec i s = .next t ∧ t.flag F.RST_CTRL_ERR_BUSY = true ∧ s.RegsBut t [K.RST_CTRL] ∧ s.Only t [.regs]) ∧
     (s.powered = true → s.mgt.pulsing = some g →
       ∃ t, exec .resetPulseEnd s = .next t ∧ s.Only t [.regs, .cnts, .fresh, .bufLog, .data, .ports, .mgt, .edge, .wvr, .key] ∧
         t.rstHeld g = false ∧ t.flag F.RST_CTRL_BUSY = false ∧ t.mgt.pulsing = none))

/-- What LIN channels do at their instants, and commands on stored images, records and frames, completes. R246 to R249, R251, R461,
R470, R475, R477; layouts and readings are log entries 48, 53 and 70. -/
def Obligations.LinAndStoredCommandsComplete : Prop :=
  (∀ (s : State) (n : Nat), n < 8 → s.powered = true → s.linLive n = true → s.fld (F.LIN_CTRL_MODE n) = 1 →
     (s.slotDue n = false → exec (.linSlot n) s = .next s) ∧
     (s.slotDue n = true → (s.lin n).goSleep = true → s.linBusy n = false → s.flag (F.LIN_CTRL_SHADOW n) = false →
       ∃ t d, exec (.linSlot n) s = .next t ∧ d = padTo (s.linLen n 0x3C) 0 (0 :: List.replicate 7 0xFF) ∧
         t.out = .linResponse n (d ++ [s.linChecksum n 0x3C d]) ::
           .linHeader n (s.fld (F.LIN_CFG_BREAK_BITS n)) 0x55 (linPid 0x3C) :: s.out ∧
         (t.lin n).goSleep = false ∧ (t.lin n).slept = true ∧ s.Only t [.regs, .cnts, .edge, .wvr, .out]) ∧
     (s.slotDue n = true → (s.lin n).goSleep = false → s.groupQuiet (s.chanGroup (24 + n)) = false →
       s.flag (F.LIN_STATUS_SWITCH_PENDING n) = true → s.linTableLen n (s.fld (F.LIN_STATUS_TABLE n)) ≤ (s.lin n).next →
       ∃ t, exec (.linSlot n) s = .next t ∧ t.fld (F.LIN_STATUS_TABLE n) = s.fld (F.LIN_CTRL_TABLE n) ∧ (t.lin n).next = 0 ∧
         t.flag (F.LIN_STATUS_SWITCH_PENDING n) = false ∧ (t.lin n).slotAt = some (s.wholeMs 1000000) ∧
         s.RegsBut t [K.LIN_STATUS n] ∧ s.Only t [.regs, .edge])) ∧
  (∀ (s : State) (n id ago : Nat), n < 8 → id < 64 → s.powered = true →
     (s.linLive n = true → s.fld (F.LIN_CTRL_MODE n) = 2 → s.linDir n id = 1 → s.linData n id = none →
       ∃ t, exec (.linHeaderReceive n id ⟨true, ago⟩) s = .next t ∧ (t.lin n).await = none ∧ t.out = s.out ∧
         t.cnts = s.cnts ∧ s.Only t [.edge]) ∧
     (s.linLive n = false ∨ s.fld (F.LIN_CTRL_MODE n) ≠ 2 → ∀ good, exec (.linHeaderReceive n id ⟨good, ago⟩) s = .next s)) ∧
  (∀ (s : State) (n i id ago : Nat) (bytes : List Byte), n < 8 → bytes.length < 10 → s.powered = true → s.linLive n = true →
     (s.lin n).await = some i →
     ((s.lin n).waiting = some (id, none) → s.flag (F.LIN_CTRL_SHADOW n) = false → s.linDir n id = 0 →
       ∃ t, exec (.linResponseTimeout n) s = .next t ∧ (t.lin n).await = none ∧ (t.lin n).waiting = none ∧
         t.out = .linHeader n (s.fld (F.LIN_CFG_BREAK_BITS n)) 0x55 (linPid id) :: s.out ∧
         t.cnt (C.edge (24 + n) 0) = s.cnt (C.edge (24 + n) 0) + 1 ∧
         t.cnt (C.edge (24 + n) 3) = s.cnt (C.edge (24 + n) 3) + 1 ∧ t.flag ⟨K.LIN_EVT n, 0, 0⟩ = true) ∧
     ((s.lin n).waiting = none →
       (∃ t, exec (.linFrameReceive n bytes .collision ago) s = .next t ∧ (t.lin n).await = none ∧
         (t.lin n).fifo = (s.lin n).fifo ∧ t.cnt (C.edge (24 + n) 6) = s.cnt (C.edge (24 + n) 6) + 1 ∧
         t.flag ⟨K.LIN_EVT n, 3, 3⟩ = true ∧ s.Only t [.regs, .cnts, .mgt, .edge, .key]) ∧
       (∀ fin, fin = .framing ∨ fin = .bit →
         ∃ t, exec (.linFrameReceive n bytes fin ago) s = .next t ∧ (t.lin n).await = none ∧
           (t.lin n).fifo = (s.lin n).fifo ∧ t.cnt (C.edge (24 + n) 5) = s.cnt (C.edge (24 + n) 5) + 1 ∧
           t.flag ⟨K.LIN_EVT n, 2, 2⟩ = true ∧ s.Only t [.regs, .cnts, .mgt, .edge, .key]))) ∧
  (∀ (s : State) (c : Cmd) (rest : List Cmd), s.mcRuns = true → s.mgt.execQ = c :: rest → s.journalHeld = false →
     c.jseq < 2 ^ 64 →
     (c.opcode = 0x20 → ∃ t, exec .imageErase s = .next t ∧ t.mgt.execQ = rest ∧ s.completed t c 0 ∧ t.mgt.mcLane = s.mgt.mcLane) ∧
     (c.opcode = 0x21 → ∃ t, exec .imageWrite s = .next t ∧ t.mgt.execQ = rest ∧ s.completed t c 0 ∧
       t.boot.fwA = s.boot.fwA ∧ t.boot.fwB = s.boot.fwB) ∧
     (c.opcode = 0x22 → ∀ nvm, ∃ t, exec (.imageVerify nvm) s = .next t ∧ t.mgt.execQ = rest ∧ s.completed t c 0) ∧
     (c.opcode = 0x23 → s.fld F.BOOT_STATUS_STATE ≠ 0xC → s.fld F.BOOT_STATUS_STATE ≠ 0xD →
       ∀ env, startOk env = true → ∃ t, exec (.imageActivate env) s = .next t ∧ t.mgt.execQ = rest ∧ s.completed t c 0 ∧
         t.fld F.BOOT_STATUS_STATE = s.fld F.BOOT_STATUS_STATE ∧ t.boot = s.boot) ∧
     (c.opcode = 0x24 → ∃ t, exec .firmwareWrite s = .next t ∧ t.mgt.execQ = rest ∧ s.completed t c 0 ∧
       t.boot.slotA = s.boot.slotA ∧ t.boot.slotB = s.boot.slotB) ∧
     (c.opcode = 0x40 → s.ownOutstanding = false → applyRec c.body = none →
       ∃ t, exec .recordApply s = .next t ∧ t.mgt.execQ = rest ∧ s.completed t c 0 ∧ s.RegsBut t journalKeys) ∧
     (c.opcode = 0x40 → s.ownOutstanding = false → ∀ r, applyRec c.body = some r →
       ((r.known && r.forUnit s.unitId) = false ∨ r.number = 0x800) →
       ∃ t, exec .recordApply s = .next t ∧ t.mgt.execQ = rest ∧ s.completed t c 0) ∧
     (c.opcode = 0x61 → s.mgt.cpWait = none → s.nextJseq < 2 ^ 64 →
       ∃ t st, exec .checkpoint s = .next t ∧ t.mgt.statements.head? = some st ∧ st.jseq = s.nextJseq ∧
         st.lastSeq = (List.range 64).map (fun o => s.fld (F.MGT_LAST_SEQ_SEQ o)) ∧ st.signed = none ∧
         t.mgt.cpWait = some s.nextJseq ∧ t.mgt.execQ = c :: rest) ∧
     (c.opcode = 0x70 →
       (s.mgt.mcLane.length < 64 → ∃ t f, exec .frameSend s = .next t ∧ t.mgt.execQ = rest ∧ s.completed t c 0 ∧
         t.mgt.mcLane = s.mgt.mcLane ++ [f] ∧ f.bytes = c.body.drop 16) ∧
       (64 ≤ s.mgt.mcLane.length → ∃ t, exec .frameSend s = .next t ∧ t.mgt.execQ = rest ∧ s.completed t c 3)))
end

