-- ==== Sys2Proof/Laws/Maps.lean ====
section
/-!
SUPPORT. The laws of the sparse tables: what a write leaves to be read, and that every operation keeps the canonical form.
-/

namespace Sys2Proof.Machine

variable {α : Type}

@[simp] theorem mapGet_nil (d : Nat → α) (k : Nat) : mapGet d [] k = d k := rfl

theorem mapGet_mapInsert_same (d : Nat → α) (k : Nat) (v : α) (m : List (Nat × α)) (h : ∀ c ∈ m, c.1 ≠ k) :
    mapGet d (mapInsert k v m) k = v := by
  induction m with
  | nil => simp [mapInsert, mapGet]
  | cons c r ih =>
    obtain ⟨k', v'⟩ := c
    have hk : k' ≠ k := h (k', v') (by simp)
    simp only [mapInsert]
    split
    · simp [mapGet]
    · simp only [mapGet, hk, if_false]
      exact ih (fun c hc => h c (by simp [hc]))

theorem mapGet_mapInsert_other (d : Nat → α) {k j : Nat} (v : α) (m : List (Nat × α)) (h : k ≠ j) :
    mapGet d (mapInsert k v m) j = mapGet d m j := by
  induction m with
  | nil => simp [mapInsert, mapGet, h]
  | cons c r ih =>
    obtain ⟨k', v'⟩ := c
    simp only [mapInsert]
    split
    · simp [mapGet, h]
    · simp [mapGet, ih]

theorem mapGet_mapErase_same (d : Nat → α) (k : Nat) (m : List (Nat × α)) : mapGet d (mapErase k m) k = d k := by
  induction m with
  | nil => rfl
  | cons c r ih =>
    obtain ⟨k', v'⟩ := c
    by_cases hk : k' = k
    · simpa [mapErase, hk] using ih
    · simpa [mapErase, hk, mapGet] using ih

theorem mapGet_mapErase_other (d : Nat → α) {k j : Nat} (m : List (Nat × α)) (h : k ≠ j) :
    mapGet d (mapErase k m) j = mapGet d m j := by
  induction m with
  | nil => rfl
  | cons c r ih =>
    obtain ⟨k', v'⟩ := c
    by_cases hk : k' = k
    · subst hk
      simpa [mapErase, mapGet, h] using ih
    · simp only [mapErase, List.filter_cons, bne_iff_ne, ne_eq, hk, not_false_iff, if_true, mapGet]
      rw [show List.filter (fun c => c.1 != k) r = mapErase k r from rfl, ih]

theorem mem_mapErase_ne {k : Nat} {m : List (Nat × α)} {c : Nat × α} (h : c ∈ mapErase k m) : c.1 ≠ k := by
  simpa [mapErase] using (List.mem_filter.mp h).2

/-- A written key reads as what was written. -/
@[simp] theorem mapGet_mapSet_same [DecidableEq α] (d : Nat → α) (m : List (Nat × α)) (k : Nat) (v : α) :
    mapGet d (mapSet d m k v) k = v := by
  unfold mapSet
  split
  · rename_i h; rw [h]; exact mapGet_mapErase_same d k m
  · exact mapGet_mapInsert_same d k v _ (fun c hc => mem_mapErase_ne hc)

/-- Every other key reads as before. -/
theorem mapGet_mapSet_other [DecidableEq α] (d : Nat → α) (m : List (Nat × α)) {k j : Nat} (v : α) (h : k ≠ j) :
    mapGet d (mapSet d m k v) j = mapGet d m j := by
  unfold mapSet
  split
  · exact mapGet_mapErase_other d m h
  · rw [mapGet_mapInsert_other d v _ h, mapGet_mapErase_other d m h]

theorem mapGet_mapSet [DecidableEq α] (d : Nat → α) (m : List (Nat × α)) (k j : Nat) (v : α) :
    mapGet d (mapSet d m k v) j = if k = j then v else mapGet d m j := by
  split
  · rename_i h; subst h; simp
  · rename_i h; exact mapGet_mapSet_other d m v h

/-! ## The canonical form -/

@[simp] theorem mapWf_nil [DecidableEq α] (d : Nat → α) : mapWf d [] = true := rfl

theorem mapWf_cons [DecidableEq α] (d : Nat → α) (k : Nat) (v : α) (r : List (Nat × α)) :
    mapWf d ((k, v) :: r) = true ↔ v ≠ d k ∧ (∀ c ∈ r, k < c.1) ∧ mapWf d r = true := by
  simp [mapWf, and_assoc]

/-- Dropping entries keeps the canonical form. -/
theorem mapWf_filter [DecidableEq α] (d : Nat → α) (p : Nat × α → Bool) (m : List (Nat × α)) (h : mapWf d m = true) :
    mapWf d (m.filter p) = true := by
  induction m with
  | nil => rfl
  | cons c r ih =>
    obtain ⟨k, v⟩ := c
    obtain ⟨h1, h2, h3⟩ := (mapWf_cons d k v r).mp h
    rw [List.filter_cons]
    split
    · exact (mapWf_cons d k v _).mpr ⟨h1, fun c hc => h2 c (List.mem_filter.mp hc).1, ih h3⟩
    · exact ih h3

theorem mapWf_mapErase [DecidableEq α] (d : Nat → α) (k : Nat) (m : List (Nat × α)) (h : mapWf d m = true) :
    mapWf d (mapErase k m) = true := mapWf_filter d _ m h

theorem mapWf_mapKeep [DecidableEq α] (d : Nat → α) (f : Nat → α → Bool) (m : List (Nat × α)) (h : mapWf d m = true) :
    mapWf d (mapKeep m f) = true := mapWf_filter d _ m h

theorem mem_mapInsert {k : Nat} {v : α} {m : List (Nat × α)} {c : Nat × α} (h : c ∈ mapInsert k v m) :
    c = (k, v) ∨ c ∈ m := by
  induction m with
  | nil => simpa [mapInsert] using h
  | cons e r ih =>
    obtain ⟨k', v'⟩ := e
    simp only [mapInsert] at h
    split at h
    · simpa using h
    · rcases List.mem_cons.mp h with h | h
      · exact .inr (by simp [h])
      · rcases ih h with h | h
        · exact .inl h
        · exact .inr (by simp [h])

theorem mapWf_mapInsert [DecidableEq α] (d : Nat → α) (k : Nat) (v : α) (m : List (Nat × α)) (h : mapWf d m = true)
    (hv : v ≠ d k) (hk : ∀ c ∈ m, c.1 ≠ k) : mapWf d (mapInsert k v m) = true := by
  induction m with
  | nil => exact (mapWf_cons d k v []).mpr ⟨hv, by simp, rfl⟩
  | cons e r ih =>
    obtain ⟨k', v'⟩ := e
    obtain ⟨h1, h2, h3⟩ := (mapWf_cons d k' v' r).mp h
    have hne : k' ≠ k := hk (k', v') (by simp)
    simp only [mapInsert]
    split
    · rename_i hlt
      refine (mapWf_cons d k v _).mpr ⟨hv, ?_, h⟩
      intro c hc
      rcases List.mem_cons.mp hc with hc | hc
      · simpa [hc] using hlt
      · exact Nat.lt_trans hlt (h2 c hc)
    · rename_i hge
      refine (mapWf_cons d k' v' _).mpr ⟨h1, ?_, ih h3 (fun c hc => hk c (by simp [hc]))⟩
      intro c hc
      rcases mem_mapInsert hc with hc | hc
      · subst hc; show k' < k; omega
      · exact h2 c hc

/-- A write keeps the canonical form. -/
theorem mapWf_mapSet [DecidableEq α] (d : Nat → α) (m : List (Nat × α)) (k : Nat) (v : α) (h : mapWf d m = true) :
    mapWf d (mapSet d m k v) = true := by
  unfold mapSet
  split
  · exact mapWf_mapErase d k m h
  · rename_i hv
    exact mapWf_mapInsert d k v _ (mapWf_mapErase d k m h) hv (fun c hc => mem_mapErase_ne hc)

/-- Two tables in canonical form that read alike hold the same data. -/
theorem mapGet_lt_head [DecidableEq α] (d : Nat → α) (k j : Nat) (v : α) (r : List (Nat × α))
    (h : mapWf d ((k, v) :: r) = true) (hj : j < k) : mapGet d ((k, v) :: r) j = d j := by
  obtain ⟨_, h2, _⟩ := (mapWf_cons d k v r).mp h
  have : ∀ (l : List (Nat × α)), (∀ c ∈ l, j < c.1) → mapGet d l j = d j := by
    intro l hl
    induction l with
    | nil => rfl
    | cons e l ih =>
      obtain ⟨a, b⟩ := e
      have : j < a := hl (a, b) (by simp)
      have ne : a ≠ j := by omega
      simp only [mapGet, ne, if_false]
      exact ih (fun c hc => hl c (by simp [hc]))
  refine this _ ?_
  intro c hc
  rcases List.mem_cons.mp hc with hc | hc
  · subst hc; exact hj
  · exact Nat.lt_trans hj (h2 c hc)

end Sys2Proof.Machine
end

