-- ==== Sys2Proof/Laws/State.lean ====
section
/-!
SUPPORT. What each update of the state leaves alone: one lemma per field and update, and the footprint of `State.confine` part by part.
-/

namespace Sys2Proof.Machine

variable (s : State)

@[simp] theorem State.setReg_cnts (k : Nat) (w : Word) : (s.setReg k w).cnts = s.cnts := rfl
@[simp] theorem State.setReg_caps (k : Nat) (w : Word) : (s.setReg k w).caps = s.caps := rfl
@[simp] theorem State.setReg_heldLo (k : Nat) (w : Word) : (s.setReg k w).heldLo = s.heldLo := rfl
@[simp] theorem State.setReg_held (k : Nat) (w : Word) : (s.setReg k w).held = s.held := rfl
@[simp] theorem State.setReg_busData (k : Nat) (w : Word) : (s.setReg k w).busData = s.busData := rfl
@[simp] theorem State.setReg_fresh (k : Nat) (w : Word) : (s.setReg k w).fresh = s.fresh := rfl
@[simp] theorem State.setReg_aon (k : Nat) (w : Word) : (s.setReg k w).aon = s.aon := rfl
@[simp] theorem State.setReg_cycle (k : Nat) (w : Word) : (s.setReg k w).cycle = s.cycle := rfl
@[simp] theorem State.setReg_mem (k : Nat) (w : Word) : (s.setReg k w).mem = s.mem := rfl
@[simp] theorem State.setReg_bufLog (k : Nat) (w : Word) : (s.setReg k w).bufLog = s.bufLog := rfl
@[simp] theorem State.setReg_nmLog (k : Nat) (w : Word) : (s.setReg k w).nmLog = s.nmLog := rfl
@[simp] theorem State.setReg_safLog (k : Nat) (w : Word) : (s.setReg k w).safLog = s.safLog := rfl
@[simp] theorem State.setReg_data (k : Nat) (w : Word) : (s.setReg k w).data = s.data := rfl
@[simp] theorem State.setReg_ports (k : Nat) (w : Word) : (s.setReg k w).ports = s.ports := rfl
@[simp] theorem State.setReg_time (k : Nat) (w : Word) : (s.setReg k w).time = s.time := rfl
@[simp] theorem State.setReg_mgt (k : Nat) (w : Word) : (s.setReg k w).mgt = s.mgt := rfl
@[simp] theorem State.setReg_edge (k : Nat) (w : Word) : (s.setReg k w).edge = s.edge := rfl
@[simp] theorem State.setReg_nm (k : Nat) (w : Word) : (s.setReg k w).nm = s.nm := rfl
@[simp] theorem State.setReg_wvr (k : Nat) (w : Word) : (s.setReg k w).wvr = s.wvr := rfl
@[simp] theorem State.setReg_ldg (k : Nat) (w : Word) : (s.setReg k w).ldg = s.ldg := rfl
@[simp] theorem State.setReg_twin (k : Nat) (w : Word) : (s.setReg k w).twin = s.twin := rfl
@[simp] theorem State.setReg_key (k : Nat) (w : Word) : (s.setReg k w).key = s.key := rfl
@[simp] theorem State.setReg_saf (k : Nat) (w : Word) : (s.setReg k w).saf = s.saf := rfl
@[simp] theorem State.setReg_boot (k : Nat) (w : Word) : (s.setReg k w).boot = s.boot := rfl
@[simp] theorem State.setReg_out (k : Nat) (w : Word) : (s.setReg k w).out = s.out := rfl
@[simp] theorem State.setReg_pending (k : Nat) (w : Word) : (s.setReg k w).pending = s.pending := rfl

@[simp] theorem State.setFld_cnts (f : Fld) (v : Nat) : (s.setFld f v).cnts = s.cnts := rfl
@[simp] theorem State.setFld_caps (f : Fld) (v : Nat) : (s.setFld f v).caps = s.caps := rfl
@[simp] theorem State.setFld_heldLo (f : Fld) (v : Nat) : (s.setFld f v).heldLo = s.heldLo := rfl
@[simp] theorem State.setFld_held (f : Fld) (v : Nat) : (s.setFld f v).held = s.held := rfl
@[simp] theorem State.setFld_busData (f : Fld) (v : Nat) : (s.setFld f v).busData = s.busData := rfl
@[simp] theorem State.setFld_fresh (f : Fld) (v : Nat) : (s.setFld f v).fresh = s.fresh := rfl
@[simp] theorem State.setFld_aon (f : Fld) (v : Nat) : (s.setFld f v).aon = s.aon := rfl
@[simp] theorem State.setFld_cycle (f : Fld) (v : Nat) : (s.setFld f v).cycle = s.cycle := rfl
@[simp] theorem State.setFld_mem (f : Fld) (v : Nat) : (s.setFld f v).mem = s.mem := rfl
@[simp] theorem State.setFld_bufLog (f : Fld) (v : Nat) : (s.setFld f v).bufLog = s.bufLog := rfl
@[simp] theorem State.setFld_nmLog (f : Fld) (v : Nat) : (s.setFld f v).nmLog = s.nmLog := rfl
@[simp] theorem State.setFld_safLog (f : Fld) (v : Nat) : (s.setFld f v).safLog = s.safLog := rfl
@[simp] theorem State.setFld_data (f : Fld) (v : Nat) : (s.setFld f v).data = s.data := rfl
@[simp] theorem State.setFld_ports (f : Fld) (v : Nat) : (s.setFld f v).ports = s.ports := rfl
@[simp] theorem State.setFld_time (f : Fld) (v : Nat) : (s.setFld f v).time = s.time := rfl
@[simp] theorem State.setFld_mgt (f : Fld) (v : Nat) : (s.setFld f v).mgt = s.mgt := rfl
@[simp] theorem State.setFld_edge (f : Fld) (v : Nat) : (s.setFld f v).edge = s.edge := rfl
@[simp] theorem State.setFld_nm (f : Fld) (v : Nat) : (s.setFld f v).nm = s.nm := rfl
@[simp] theorem State.setFld_wvr (f : Fld) (v : Nat) : (s.setFld f v).wvr = s.wvr := rfl
@[simp] theorem State.setFld_ldg (f : Fld) (v : Nat) : (s.setFld f v).ldg = s.ldg := rfl
@[simp] theorem State.setFld_twin (f : Fld) (v : Nat) : (s.setFld f v).twin = s.twin := rfl
@[simp] theorem State.setFld_key (f : Fld) (v : Nat) : (s.setFld f v).key = s.key := rfl
@[simp] theorem State.setFld_saf (f : Fld) (v : Nat) : (s.setFld f v).saf = s.saf := rfl
@[simp] theorem State.setFld_boot (f : Fld) (v : Nat) : (s.setFld f v).boot = s.boot := rfl
@[simp] theorem State.setFld_out (f : Fld) (v : Nat) : (s.setFld f v).out = s.out := rfl
@[simp] theorem State.setFld_pending (f : Fld) (v : Nat) : (s.setFld f v).pending = s.pending := rfl

@[simp] theorem State.setPair_cnts (lo hi v : Nat) : (s.setPair lo hi v).cnts = s.cnts := rfl
@[simp] theorem State.setPair_caps (lo hi v : Nat) : (s.setPair lo hi v).caps = s.caps := rfl
@[simp] theorem State.setPair_heldLo (lo hi v : Nat) : (s.setPair lo hi v).heldLo = s.heldLo := rfl
@[simp] theorem State.setPair_held (lo hi v : Nat) : (s.setPair lo hi v).held = s.held := rfl
@[simp] theorem State.setPair_busData (lo hi v : Nat) : (s.setPair lo hi v).busData = s.busData := rfl
@[simp] theorem State.setPair_fresh (lo hi v : Nat) : (s.setPair lo hi v).fresh = s.fresh := rfl
@[simp] theorem State.setPair_aon (lo hi v : Nat) : (s.setPair lo hi v).aon = s.aon := rfl
@[simp] theorem State.setPair_cycle (lo hi v : Nat) : (s.setPair lo hi v).cycle = s.cycle := rfl
@[simp] theorem State.setPair_mem (lo hi v : Nat) : (s.setPair lo hi v).mem = s.mem := rfl
@[simp] theorem State.setPair_bufLog (lo hi v : Nat) : (s.setPair lo hi v).bufLog = s.bufLog := rfl
@[simp] theorem State.setPair_nmLog (lo hi v : Nat) : (s.setPair lo hi v).nmLog = s.nmLog := rfl
@[simp] theorem State.setPair_safLog (lo hi v : Nat) : (s.setPair lo hi v).safLog = s.safLog := rfl
@[simp] theorem State.setPair_data (lo hi v : Nat) : (s.setPair lo hi v).data = s.data := rfl
@[simp] theorem State.setPair_ports (lo hi v : Nat) : (s.setPair lo hi v).ports = s.ports := rfl
@[simp] theorem State.setPair_time (lo hi v : Nat) : (s.setPair lo hi v).time = s.time := rfl
@[simp] theorem State.setPair_mgt (lo hi v : Nat) : (s.setPair lo hi v).mgt = s.mgt := rfl
@[simp] theorem State.setPair_edge (lo hi v : Nat) : (s.setPair lo hi v).edge = s.edge := rfl
@[simp] theorem State.setPair_nm (lo hi v : Nat) : (s.setPair lo hi v).nm = s.nm := rfl
@[simp] theorem State.setPair_wvr (lo hi v : Nat) : (s.setPair lo hi v).wvr = s.wvr := rfl
@[simp] theorem State.setPair_ldg (lo hi v : Nat) : (s.setPair lo hi v).ldg = s.ldg := rfl
@[simp] theorem State.setPair_twin (lo hi v : Nat) : (s.setPair lo hi v).twin = s.twin := rfl
@[simp] theorem State.setPair_key (lo hi v : Nat) : (s.setPair lo hi v).key = s.key := rfl
@[simp] theorem State.setPair_saf (lo hi v : Nat) : (s.setPair lo hi v).saf = s.saf := rfl
@[simp] theorem State.setPair_boot (lo hi v : Nat) : (s.setPair lo hi v).boot = s.boot := rfl
@[simp] theorem State.setPair_out (lo hi v : Nat) : (s.setPair lo hi v).out = s.out := rfl
@[simp] theorem State.setPair_pending (lo hi v : Nat) : (s.setPair lo hi v).pending = s.pending := rfl

@[simp] theorem State.count_regs (a n : Nat) : (s.count a n).regs = s.regs := rfl
@[simp] theorem State.count_caps (a n : Nat) : (s.count a n).caps = s.caps := rfl
@[simp] theorem State.count_heldLo (a n : Nat) : (s.count a n).heldLo = s.heldLo := rfl
@[simp] theorem State.count_held (a n : Nat) : (s.count a n).held = s.held := rfl
@[simp] theorem State.count_busData (a n : Nat) : (s.count a n).busData = s.busData := rfl
@[simp] theorem State.count_fresh (a n : Nat) : (s.count a n).fresh = s.fresh := rfl
@[simp] theorem State.count_aon (a n : Nat) : (s.count a n).aon = s.aon := rfl
@[simp] theorem State.count_cycle (a n : Nat) : (s.count a n).cycle = s.cycle := rfl
@[simp] theorem State.count_mem (a n : Nat) : (s.count a n).mem = s.mem := rfl
@[simp] theorem State.count_bufLog (a n : Nat) : (s.count a n).bufLog = s.bufLog := rfl
@[simp] theorem State.count_nmLog (a n : Nat) : (s.count a n).nmLog = s.nmLog := rfl
@[simp] theorem State.count_safLog (a n : Nat) : (s.count a n).safLog = s.safLog := rfl
@[simp] theorem State.count_data (a n : Nat) : (s.count a n).data = s.data := rfl
@[simp] theorem State.count_ports (a n : Nat) : (s.count a n).ports = s.ports := rfl
@[simp] theorem State.count_time (a n : Nat) : (s.count a n).time = s.time := rfl
@[simp] theorem State.count_mgt (a n : Nat) : (s.count a n).mgt = s.mgt := rfl
@[simp] theorem State.count_edge (a n : Nat) : (s.count a n).edge = s.edge := rfl
@[simp] theorem State.count_nm (a n : Nat) : (s.count a n).nm = s.nm := rfl
@[simp] theorem State.count_wvr (a n : Nat) : (s.count a n).wvr = s.wvr := rfl
@[simp] theorem State.count_ldg (a n : Nat) : (s.count a n).ldg = s.ldg := rfl
@[simp] theorem State.count_twin (a n : Nat) : (s.count a n).twin = s.twin := rfl
@[simp] theorem State.count_key (a n : Nat) : (s.count a n).key = s.key := rfl
@[simp] theorem State.count_saf (a n : Nat) : (s.count a n).saf = s.saf := rfl
@[simp] theorem State.count_boot (a n : Nat) : (s.count a n).boot = s.boot := rfl
@[simp] theorem State.count_out (a n : Nat) : (s.count a n).out = s.out := rfl
@[simp] theorem State.count_pending (a n : Nat) : (s.count a n).pending = s.pending := rfl

@[simp] theorem State.inc_regs (a : Nat) : (s.inc a).regs = s.regs := rfl
@[simp] theorem State.inc_caps (a : Nat) : (s.inc a).caps = s.caps := rfl
@[simp] theorem State.inc_heldLo (a : Nat) : (s.inc a).heldLo = s.heldLo := rfl
@[simp] theorem State.inc_held (a : Nat) : (s.inc a).held = s.held := rfl
@[simp] theorem State.inc_busData (a : Nat) : (s.inc a).busData = s.busData := rfl
@[simp] theorem State.inc_fresh (a : Nat) : (s.inc a).fresh = s.fresh := rfl
@[simp] theorem State.inc_aon (a : Nat) : (s.inc a).aon = s.aon := rfl
@[simp] theorem State.inc_cycle (a : Nat) : (s.inc a).cycle = s.cycle := rfl
@[simp] theorem State.inc_mem (a : Nat) : (s.inc a).mem = s.mem := rfl
@[simp] theorem State.inc_bufLog (a : Nat) : (s.inc a).bufLog = s.bufLog := rfl
@[simp] theorem State.inc_nmLog (a : Nat) : (s.inc a).nmLog = s.nmLog := rfl
@[simp] theorem State.inc_safLog (a : Nat) : (s.inc a).safLog = s.safLog := rfl
@[simp] theorem State.inc_data (a : Nat) : (s.inc a).data = s.data := rfl
@[simp] theorem State.inc_ports (a : Nat) : (s.inc a).ports = s.ports := rfl
@[simp] theorem State.inc_time (a : Nat) : (s.inc a).time = s.time := rfl
@[simp] theorem State.inc_mgt (a : Nat) : (s.inc a).mgt = s.mgt := rfl
@[simp] theorem State.inc_edge (a : Nat) : (s.inc a).edge = s.edge := rfl
@[simp] theorem State.inc_nm (a : Nat) : (s.inc a).nm = s.nm := rfl
@[simp] theorem State.inc_wvr (a : Nat) : (s.inc a).wvr = s.wvr := rfl
@[simp] theorem State.inc_ldg (a : Nat) : (s.inc a).ldg = s.ldg := rfl
@[simp] theorem State.inc_twin (a : Nat) : (s.inc a).twin = s.twin := rfl
@[simp] theorem State.inc_key (a : Nat) : (s.inc a).key = s.key := rfl
@[simp] theorem State.inc_saf (a : Nat) : (s.inc a).saf = s.saf := rfl
@[simp] theorem State.inc_boot (a : Nat) : (s.inc a).boot = s.boot := rfl
@[simp] theorem State.inc_out (a : Nat) : (s.inc a).out = s.out := rfl
@[simp] theorem State.inc_pending (a : Nat) : (s.inc a).pending = s.pending := rfl

@[simp] theorem State.clearCounters_regs (a n : Nat) : (s.clearCounters a n).regs = s.regs := rfl
@[simp] theorem State.clearCounters_caps (a n : Nat) : (s.clearCounters a n).caps = s.caps := rfl
@[simp] theorem State.clearCounters_heldLo (a n : Nat) : (s.clearCounters a n).heldLo = s.heldLo := rfl
@[simp] theorem State.clearCounters_held (a n : Nat) : (s.clearCounters a n).held = s.held := rfl
@[simp] theorem State.clearCounters_busData (a n : Nat) : (s.clearCounters a n).busData = s.busData := rfl
@[simp] theorem State.clearCounters_fresh (a n : Nat) : (s.clearCounters a n).fresh = s.fresh := rfl
@[simp] theorem State.clearCounters_aon (a n : Nat) : (s.clearCounters a n).aon = s.aon := rfl
@[simp] theorem State.clearCounters_cycle (a n : Nat) : (s.clearCounters a n).cycle = s.cycle := rfl
@[simp] theorem State.clearCounters_mem (a n : Nat) : (s.clearCounters a n).mem = s.mem := rfl
@[simp] theorem State.clearCounters_bufLog (a n : Nat) : (s.clearCounters a n).bufLog = s.bufLog := rfl
@[simp] theorem State.clearCounters_nmLog (a n : Nat) : (s.clearCounters a n).nmLog = s.nmLog := rfl
@[simp] theorem State.clearCounters_safLog (a n : Nat) : (s.clearCounters a n).safLog = s.safLog := rfl
@[simp] theorem State.clearCounters_data (a n : Nat) : (s.clearCounters a n).data = s.data := rfl
@[simp] theorem State.clearCounters_ports (a n : Nat) : (s.clearCounters a n).ports = s.ports := rfl
@[simp] theorem State.clearCounters_time (a n : Nat) : (s.clearCounters a n).time = s.time := rfl
@[simp] theorem State.clearCounters_mgt (a n : Nat) : (s.clearCounters a n).mgt = s.mgt := rfl
@[simp] theorem State.clearCounters_edge (a n : Nat) : (s.clearCounters a n).edge = s.edge := rfl
@[simp] theorem State.clearCounters_nm (a n : Nat) : (s.clearCounters a n).nm = s.nm := rfl
@[simp] theorem State.clearCounters_wvr (a n : Nat) : (s.clearCounters a n).wvr = s.wvr := rfl
@[simp] theorem State.clearCounters_ldg (a n : Nat) : (s.clearCounters a n).ldg = s.ldg := rfl
@[simp] theorem State.clearCounters_twin (a n : Nat) : (s.clearCounters a n).twin = s.twin := rfl
@[simp] theorem State.clearCounters_key (a n : Nat) : (s.clearCounters a n).key = s.key := rfl
@[simp] theorem State.clearCounters_saf (a n : Nat) : (s.clearCounters a n).saf = s.saf := rfl
@[simp] theorem State.clearCounters_boot (a n : Nat) : (s.clearCounters a n).boot = s.boot := rfl
@[simp] theorem State.clearCounters_out (a n : Nat) : (s.clearCounters a n).out = s.out := rfl
@[simp] theorem State.clearCounters_pending (a n : Nat) : (s.clearCounters a n).pending = s.pending := rfl

@[simp] theorem State.hold_regs (k : Nat) (w : Word) : (s.hold k w).regs = s.regs := rfl
@[simp] theorem State.hold_cnts (k : Nat) (w : Word) : (s.hold k w).cnts = s.cnts := rfl
@[simp] theorem State.hold_caps (k : Nat) (w : Word) : (s.hold k w).caps = s.caps := rfl
@[simp] theorem State.hold_heldLo (k : Nat) (w : Word) : (s.hold k w).heldLo = s.heldLo := rfl
@[simp] theorem State.hold_busData (k : Nat) (w : Word) : (s.hold k w).busData = s.busData := rfl
@[simp] theorem State.hold_fresh (k : Nat) (w : Word) : (s.hold k w).fresh = s.fresh := rfl
@[simp] theorem State.hold_aon (k : Nat) (w : Word) : (s.hold k w).aon = s.aon := rfl
@[simp] theorem State.hold_cycle (k : Nat) (w : Word) : (s.hold k w).cycle = s.cycle := rfl
@[simp] theorem State.hold_mem (k : Nat) (w : Word) : (s.hold k w).mem = s.mem := rfl
@[simp] theorem State.hold_bufLog (k : Nat) (w : Word) : (s.hold k w).bufLog = s.bufLog := rfl
@[simp] theorem State.hold_nmLog (k : Nat) (w : Word) : (s.hold k w).nmLog = s.nmLog := rfl
@[simp] theorem State.hold_safLog (k : Nat) (w : Word) : (s.hold k w).safLog = s.safLog := rfl
@[simp] theorem State.hold_data (k : Nat) (w : Word) : (s.hold k w).data = s.data := rfl
@[simp] theorem State.hold_ports (k : Nat) (w : Word) : (s.hold k w).ports = s.ports := rfl
@[simp] theorem State.hold_time (k : Nat) (w : Word) : (s.hold k w).time = s.time := rfl
@[simp] theorem State.hold_mgt (k : Nat) (w : Word) : (s.hold k w).mgt = s.mgt := rfl
@[simp] theorem State.hold_edge (k : Nat) (w : Word) : (s.hold k w).edge = s.edge := rfl
@[simp] theorem State.hold_nm (k : Nat) (w : Word) : (s.hold k w).nm = s.nm := rfl
@[simp] theorem State.hold_wvr (k : Nat) (w : Word) : (s.hold k w).wvr = s.wvr := rfl
@[simp] theorem State.hold_ldg (k : Nat) (w : Word) : (s.hold k w).ldg = s.ldg := rfl
@[simp] theorem State.hold_twin (k : Nat) (w : Word) : (s.hold k w).twin = s.twin := rfl
@[simp] theorem State.hold_key (k : Nat) (w : Word) : (s.hold k w).key = s.key := rfl
@[simp] theorem State.hold_saf (k : Nat) (w : Word) : (s.hold k w).saf = s.saf := rfl
@[simp] theorem State.hold_boot (k : Nat) (w : Word) : (s.hold k w).boot = s.boot := rfl
@[simp] theorem State.hold_out (k : Nat) (w : Word) : (s.hold k w).out = s.out := rfl
@[simp] theorem State.hold_pending (k : Nat) (w : Word) : (s.hold k w).pending = s.pending := rfl

@[simp] theorem State.unhold_regs (k : Nat) : (s.unhold k).regs = s.regs := rfl
@[simp] theorem State.unhold_cnts (k : Nat) : (s.unhold k).cnts = s.cnts := rfl
@[simp] theorem State.unhold_caps (k : Nat) : (s.unhold k).caps = s.caps := rfl
@[simp] theorem State.unhold_heldLo (k : Nat) : (s.unhold k).heldLo = s.heldLo := rfl
@[simp] theorem State.unhold_busData (k : Nat) : (s.unhold k).busData = s.busData := rfl
@[simp] theorem State.unhold_fresh (k : Nat) : (s.unhold k).fresh = s.fresh := rfl
@[simp] theorem State.unhold_aon (k : Nat) : (s.unhold k).aon = s.aon := rfl
@[simp] theorem State.unhold_cycle (k : Nat) : (s.unhold k).cycle = s.cycle := rfl
@[simp] theorem State.unhold_mem (k : Nat) : (s.unhold k).mem = s.mem := rfl
@[simp] theorem State.unhold_bufLog (k : Nat) : (s.unhold k).bufLog = s.bufLog := rfl
@[simp] theorem State.unhold_nmLog (k : Nat) : (s.unhold k).nmLog = s.nmLog := rfl
@[simp] theorem State.unhold_safLog (k : Nat) : (s.unhold k).safLog = s.safLog := rfl
@[simp] theorem State.unhold_data (k : Nat) : (s.unhold k).data = s.data := rfl
@[simp] theorem State.unhold_ports (k : Nat) : (s.unhold k).ports = s.ports := rfl
@[simp] theorem State.unhold_time (k : Nat) : (s.unhold k).time = s.time := rfl
@[simp] theorem State.unhold_mgt (k : Nat) : (s.unhold k).mgt = s.mgt := rfl
@[simp] theorem State.unhold_edge (k : Nat) : (s.unhold k).edge = s.edge := rfl
@[simp] theorem State.unhold_nm (k : Nat) : (s.unhold k).nm = s.nm := rfl
@[simp] theorem State.unhold_wvr (k : Nat) : (s.unhold k).wvr = s.wvr := rfl
@[simp] theorem State.unhold_ldg (k : Nat) : (s.unhold k).ldg = s.ldg := rfl
@[simp] theorem State.unhold_twin (k : Nat) : (s.unhold k).twin = s.twin := rfl
@[simp] theorem State.unhold_key (k : Nat) : (s.unhold k).key = s.key := rfl
@[simp] theorem State.unhold_saf (k : Nat) : (s.unhold k).saf = s.saf := rfl
@[simp] theorem State.unhold_boot (k : Nat) : (s.unhold k).boot = s.boot := rfl
@[simp] theorem State.unhold_out (k : Nat) : (s.unhold k).out = s.out := rfl
@[simp] theorem State.unhold_pending (k : Nat) : (s.unhold k).pending = s.pending := rfl

@[simp] theorem State.setCapture_regs (k : Nat) (v : Word64) : (s.setCapture k v).regs = s.regs := rfl
@[simp] theorem State.setCapture_cnts (k : Nat) (v : Word64) : (s.setCapture k v).cnts = s.cnts := rfl
@[simp] theorem State.setCapture_heldLo (k : Nat) (v : Word64) : (s.setCapture k v).heldLo = s.heldLo := rfl
@[simp] theorem State.setCapture_held (k : Nat) (v : Word64) : (s.setCapture k v).held = s.held := rfl
@[simp] theorem State.setCapture_busData (k : Nat) (v : Word64) : (s.setCapture k v).busData = s.busData := rfl
@[simp] theorem State.setCapture_fresh (k : Nat) (v : Word64) : (s.setCapture k v).fresh = s.fresh := rfl
@[simp] theorem State.setCapture_aon (k : Nat) (v : Word64) : (s.setCapture k v).aon = s.aon := rfl
@[simp] theorem State.setCapture_cycle (k : Nat) (v : Word64) : (s.setCapture k v).cycle = s.cycle := rfl
@[simp] theorem State.setCapture_mem (k : Nat) (v : Word64) : (s.setCapture k v).mem = s.mem := rfl
@[simp] theorem State.setCapture_bufLog (k : Nat) (v : Word64) : (s.setCapture k v).bufLog = s.bufLog := rfl
@[simp] theorem State.setCapture_nmLog (k : Nat) (v : Word64) : (s.setCapture k v).nmLog = s.nmLog := rfl
@[simp] theorem State.setCapture_safLog (k : Nat) (v : Word64) : (s.setCapture k v).safLog = s.safLog := rfl
@[simp] theorem State.setCapture_data (k : Nat) (v : Word64) : (s.setCapture k v).data = s.data := rfl
@[simp] theorem State.setCapture_ports (k : Nat) (v : Word64) : (s.setCapture k v).ports = s.ports := rfl
@[simp] theorem State.setCapture_time (k : Nat) (v : Word64) : (s.setCapture k v).time = s.time := rfl
@[simp] theorem State.setCapture_mgt (k : Nat) (v : Word64) : (s.setCapture k v).mgt = s.mgt := rfl
@[simp] theorem State.setCapture_edge (k : Nat) (v : Word64) : (s.setCapture k v).edge = s.edge := rfl
@[simp] theorem State.setCapture_nm (k : Nat) (v : Word64) : (s.setCapture k v).nm = s.nm := rfl
@[simp] theorem State.setCapture_wvr (k : Nat) (v : Word64) : (s.setCapture k v).wvr = s.wvr := rfl
@[simp] theorem State.setCapture_ldg (k : Nat) (v : Word64) : (s.setCapture k v).ldg = s.ldg := rfl
@[simp] theorem State.setCapture_twin (k : Nat) (v : Word64) : (s.setCapture k v).twin = s.twin := rfl
@[simp] theorem State.setCapture_key (k : Nat) (v : Word64) : (s.setCapture k v).key = s.key := rfl
@[simp] theorem State.setCapture_saf (k : Nat) (v : Word64) : (s.setCapture k v).saf = s.saf := rfl
@[simp] theorem State.setCapture_boot (k : Nat) (v : Word64) : (s.setCapture k v).boot = s.boot := rfl
@[simp] theorem State.setCapture_out (k : Nat) (v : Word64) : (s.setCapture k v).out = s.out := rfl
@[simp] theorem State.setCapture_pending (k : Nat) (v : Word64) : (s.setCapture k v).pending = s.pending := rfl

@[simp] theorem State.used_regs : (s.used).regs = s.regs := rfl
@[simp] theorem State.used_cnts : (s.used).cnts = s.cnts := rfl
@[simp] theorem State.used_caps : (s.used).caps = s.caps := rfl
@[simp] theorem State.used_heldLo : (s.used).heldLo = s.heldLo := rfl
@[simp] theorem State.used_held : (s.used).held = s.held := rfl
@[simp] theorem State.used_busData : (s.used).busData = s.busData := rfl
@[simp] theorem State.used_aon : (s.used).aon = s.aon := rfl
@[simp] theorem State.used_cycle : (s.used).cycle = s.cycle := rfl
@[simp] theorem State.used_mem : (s.used).mem = s.mem := rfl
@[simp] theorem State.used_bufLog : (s.used).bufLog = s.bufLog := rfl
@[simp] theorem State.used_nmLog : (s.used).nmLog = s.nmLog := rfl
@[simp] theorem State.used_safLog : (s.used).safLog = s.safLog := rfl
@[simp] theorem State.used_data : (s.used).data = s.data := rfl
@[simp] theorem State.used_ports : (s.used).ports = s.ports := rfl
@[simp] theorem State.used_time : (s.used).time = s.time := rfl
@[simp] theorem State.used_mgt : (s.used).mgt = s.mgt := rfl
@[simp] theorem State.used_edge : (s.used).edge = s.edge := rfl
@[simp] theorem State.used_nm : (s.used).nm = s.nm := rfl
@[simp] theorem State.used_wvr : (s.used).wvr = s.wvr := rfl
@[simp] theorem State.used_ldg : (s.used).ldg = s.ldg := rfl
@[simp] theorem State.used_twin : (s.used).twin = s.twin := rfl
@[simp] theorem State.used_key : (s.used).key = s.key := rfl
@[simp] theorem State.used_saf : (s.used).saf = s.saf := rfl
@[simp] theorem State.used_boot : (s.used).boot = s.boot := rfl
@[simp] theorem State.used_out : (s.used).out = s.out := rfl
@[simp] theorem State.used_pending : (s.used).pending = s.pending := rfl

@[simp] theorem State.writeByte_regs (a : Nat) (b : Byte) : (s.writeByte a b).regs = s.regs := rfl
@[simp] theorem State.writeByte_cnts (a : Nat) (b : Byte) : (s.writeByte a b).cnts = s.cnts := rfl
@[simp] theorem State.writeByte_caps (a : Nat) (b : Byte) : (s.writeByte a b).caps = s.caps := rfl
@[simp] theorem State.writeByte_heldLo (a : Nat) (b : Byte) : (s.writeByte a b).heldLo = s.heldLo := rfl
@[simp] theorem State.writeByte_held (a : Nat) (b : Byte) : (s.writeByte a b).held = s.held := rfl
@[simp] theorem State.writeByte_busData (a : Nat) (b : Byte) : (s.writeByte a b).busData = s.busData := rfl
@[simp] theorem State.writeByte_fresh (a : Nat) (b : Byte) : (s.writeByte a b).fresh = s.fresh := rfl
@[simp] theorem State.writeByte_aon (a : Nat) (b : Byte) : (s.writeByte a b).aon = s.aon := rfl
@[simp] theorem State.writeByte_cycle (a : Nat) (b : Byte) : (s.writeByte a b).cycle = s.cycle := rfl
@[simp] theorem State.writeByte_bufLog (a : Nat) (b : Byte) : (s.writeByte a b).bufLog = s.bufLog := rfl
@[simp] theorem State.writeByte_nmLog (a : Nat) (b : Byte) : (s.writeByte a b).nmLog = s.nmLog := rfl
@[simp] theorem State.writeByte_safLog (a : Nat) (b : Byte) : (s.writeByte a b).safLog = s.safLog := rfl
@[simp] theorem State.writeByte_data (a : Nat) (b : Byte) : (s.writeByte a b).data = s.data := rfl
@[simp] theorem State.writeByte_ports (a : Nat) (b : Byte) : (s.writeByte a b).ports = s.ports := rfl
@[simp] theorem State.writeByte_time (a : Nat) (b : Byte) : (s.writeByte a b).time = s.time := rfl
@[simp] theorem State.writeByte_mgt (a : Nat) (b : Byte) : (s.writeByte a b).mgt = s.mgt := rfl
@[simp] theorem State.writeByte_edge (a : Nat) (b : Byte) : (s.writeByte a b).edge = s.edge := rfl
@[simp] theorem State.writeByte_nm (a : Nat) (b : Byte) : (s.writeByte a b).nm = s.nm := rfl
@[simp] theorem State.writeByte_wvr (a : Nat) (b : Byte) : (s.writeByte a b).wvr = s.wvr := rfl
@[simp] theorem State.writeByte_ldg (a : Nat) (b : Byte) : (s.writeByte a b).ldg = s.ldg := rfl
@[simp] theorem State.writeByte_twin (a : Nat) (b : Byte) : (s.writeByte a b).twin = s.twin := rfl
@[simp] theorem State.writeByte_key (a : Nat) (b : Byte) : (s.writeByte a b).key = s.key := rfl
@[simp] theorem State.writeByte_saf (a : Nat) (b : Byte) : (s.writeByte a b).saf = s.saf := rfl
@[simp] theorem State.writeByte_boot (a : Nat) (b : Byte) : (s.writeByte a b).boot = s.boot := rfl
@[simp] theorem State.writeByte_out (a : Nat) (b : Byte) : (s.writeByte a b).out = s.out := rfl
@[simp] theorem State.writeByte_pending (a : Nat) (b : Byte) : (s.writeByte a b).pending = s.pending := rfl

@[simp] theorem State.clearMem_regs (lo hi : Nat) : (s.clearMem lo hi).regs = s.regs := rfl
@[simp] theorem State.clearMem_cnts (lo hi : Nat) : (s.clearMem lo hi).cnts = s.cnts := rfl
@[simp] theorem State.clearMem_caps (lo hi : Nat) : (s.clearMem lo hi).caps = s.caps := rfl
@[simp] theorem State.clearMem_heldLo (lo hi : Nat) : (s.clearMem lo hi).heldLo = s.heldLo := rfl
@[simp] theorem State.clearMem_held (lo hi : Nat) : (s.clearMem lo hi).held = s.held := rfl
@[simp] theorem State.clearMem_busData (lo hi : Nat) : (s.clearMem lo hi).busData = s.busData := rfl
@[simp] theorem State.clearMem_fresh (lo hi : Nat) : (s.clearMem lo hi).fresh = s.fresh := rfl
@[simp] theorem State.clearMem_aon (lo hi : Nat) : (s.clearMem lo hi).aon = s.aon := rfl
@[simp] theorem State.clearMem_cycle (lo hi : Nat) : (s.clearMem lo hi).cycle = s.cycle := rfl
@[simp] theorem State.clearMem_bufLog (lo hi : Nat) : (s.clearMem lo hi).bufLog = s.bufLog := rfl
@[simp] theorem State.clearMem_nmLog (lo hi : Nat) : (s.clearMem lo hi).nmLog = s.nmLog := rfl
@[simp] theorem State.clearMem_safLog (lo hi : Nat) : (s.clearMem lo hi).safLog = s.safLog := rfl
@[simp] theorem State.clearMem_data (lo hi : Nat) : (s.clearMem lo hi).data = s.data := rfl
@[simp] theorem State.clearMem_ports (lo hi : Nat) : (s.clearMem lo hi).ports = s.ports := rfl
@[simp] theorem State.clearMem_time (lo hi : Nat) : (s.clearMem lo hi).time = s.time := rfl
@[simp] theorem State.clearMem_mgt (lo hi : Nat) : (s.clearMem lo hi).mgt = s.mgt := rfl
@[simp] theorem State.clearMem_edge (lo hi : Nat) : (s.clearMem lo hi).edge = s.edge := rfl
@[simp] theorem State.clearMem_nm (lo hi : Nat) : (s.clearMem lo hi).nm = s.nm := rfl
@[simp] theorem State.clearMem_wvr (lo hi : Nat) : (s.clearMem lo hi).wvr = s.wvr := rfl
@[simp] theorem State.clearMem_ldg (lo hi : Nat) : (s.clearMem lo hi).ldg = s.ldg := rfl
@[simp] theorem State.clearMem_twin (lo hi : Nat) : (s.clearMem lo hi).twin = s.twin := rfl
@[simp] theorem State.clearMem_key (lo hi : Nat) : (s.clearMem lo hi).key = s.key := rfl
@[simp] theorem State.clearMem_saf (lo hi : Nat) : (s.clearMem lo hi).saf = s.saf := rfl
@[simp] theorem State.clearMem_boot (lo hi : Nat) : (s.clearMem lo hi).boot = s.boot := rfl
@[simp] theorem State.clearMem_out (lo hi : Nat) : (s.clearMem lo hi).out = s.out := rfl
@[simp] theorem State.clearMem_pending (lo hi : Nat) : (s.clearMem lo hi).pending = s.pending := rfl

@[simp] theorem State.emit_regs (o : WireOut) : (s.emit o).regs = s.regs := rfl
@[simp] theorem State.emit_cnts (o : WireOut) : (s.emit o).cnts = s.cnts := rfl
@[simp] theorem State.emit_caps (o : WireOut) : (s.emit o).caps = s.caps := rfl
@[simp] theorem State.emit_heldLo (o : WireOut) : (s.emit o).heldLo = s.heldLo := rfl
@[simp] theorem State.emit_held (o : WireOut) : (s.emit o).held = s.held := rfl
@[simp] theorem State.emit_busData (o : WireOut) : (s.emit o).busData = s.busData := rfl
@[simp] theorem State.emit_fresh (o : WireOut) : (s.emit o).fresh = s.fresh := rfl
@[simp] theorem State.emit_aon (o : WireOut) : (s.emit o).aon = s.aon := rfl
@[simp] theorem State.emit_cycle (o : WireOut) : (s.emit o).cycle = s.cycle := rfl
@[simp] theorem State.emit_mem (o : WireOut) : (s.emit o).mem = s.mem := rfl
@[simp] theorem State.emit_bufLog (o : WireOut) : (s.emit o).bufLog = s.bufLog := rfl
@[simp] theorem State.emit_nmLog (o : WireOut) : (s.emit o).nmLog = s.nmLog := rfl
@[simp] theorem State.emit_safLog (o : WireOut) : (s.emit o).safLog = s.safLog := rfl
@[simp] theorem State.emit_data (o : WireOut) : (s.emit o).data = s.data := rfl
@[simp] theorem State.emit_ports (o : WireOut) : (s.emit o).ports = s.ports := rfl
@[simp] theorem State.emit_time (o : WireOut) : (s.emit o).time = s.time := rfl
@[simp] theorem State.emit_mgt (o : WireOut) : (s.emit o).mgt = s.mgt := rfl
@[simp] theorem State.emit_edge (o : WireOut) : (s.emit o).edge = s.edge := rfl
@[simp] theorem State.emit_nm (o : WireOut) : (s.emit o).nm = s.nm := rfl
@[simp] theorem State.emit_wvr (o : WireOut) : (s.emit o).wvr = s.wvr := rfl
@[simp] theorem State.emit_ldg (o : WireOut) : (s.emit o).ldg = s.ldg := rfl
@[simp] theorem State.emit_twin (o : WireOut) : (s.emit o).twin = s.twin := rfl
@[simp] theorem State.emit_key (o : WireOut) : (s.emit o).key = s.key := rfl
@[simp] theorem State.emit_saf (o : WireOut) : (s.emit o).saf = s.saf := rfl
@[simp] theorem State.emit_boot (o : WireOut) : (s.emit o).boot = s.boot := rfl
@[simp] theorem State.emit_pending (o : WireOut) : (s.emit o).pending = s.pending := rfl

/-- Setting fields changes the registers alone. -/
theorem State.setFlds_frame (l : List (Fld × Nat)) : ∀ s : State, s.setFlds l = { s with regs := (s.setFlds l).regs } := by
  induction l with
  | nil => intro s; rfl
  | cons c r ih => intro s; rw [State.setFlds, ih]; rfl

@[simp] theorem State.setFlds_cnts (l : List (Fld × Nat)) : (s.setFlds l).cnts = s.cnts := by rw [s.setFlds_frame l]
@[simp] theorem State.setFlds_caps (l : List (Fld × Nat)) : (s.setFlds l).caps = s.caps := by rw [s.setFlds_frame l]
@[simp] theorem State.setFlds_heldLo (l : List (Fld × Nat)) : (s.setFlds l).heldLo = s.heldLo := by rw [s.setFlds_frame l]
@[simp] theorem State.setFlds_held (l : List (Fld × Nat)) : (s.setFlds l).held = s.held := by rw [s.setFlds_frame l]
@[simp] theorem State.setFlds_busData (l : List (Fld × Nat)) : (s.setFlds l).busData = s.busData := by rw [s.setFlds_frame l]
@[simp] theorem State.setFlds_fresh (l : List (Fld × Nat)) : (s.setFlds l).fresh = s.fresh := by rw [s.setFlds_frame l]
@[simp] theorem State.setFlds_aon (l : List (Fld × Nat)) : (s.setFlds l).aon = s.aon := by rw [s.setFlds_frame l]
@[simp] theorem State.setFlds_cycle (l : List (Fld × Nat)) : (s.setFlds l).cycle = s.cycle := by rw [s.setFlds_frame l]
@[simp] theorem State.setFlds_mem (l : List (Fld × Nat)) : (s.setFlds l).mem = s.mem := by rw [s.setFlds_frame l]
@[simp] theorem State.setFlds_bufLog (l : List (Fld × Nat)) : (s.setFlds l).bufLog = s.bufLog := by rw [s.setFlds_frame l]
@[simp] theorem State.setFlds_nmLog (l : List (Fld × Nat)) : (s.setFlds l).nmLog = s.nmLog := by rw [s.setFlds_frame l]
@[simp] theorem State.setFlds_safLog (l : List (Fld × Nat)) : (s.setFlds l).safLog = s.safLog := by rw [s.setFlds_frame l]
@[simp] theorem State.setFlds_data (l : List (Fld × Nat)) : (s.setFlds l).data = s.data := by rw [s.setFlds_frame l]
@[simp] theorem State.setFlds_ports (l : List (Fld × Nat)) : (s.setFlds l).ports = s.ports := by rw [s.setFlds_frame l]
@[simp] theorem State.setFlds_time (l : List (Fld × Nat)) : (s.setFlds l).time = s.time := by rw [s.setFlds_frame l]
@[simp] theorem State.setFlds_mgt (l : List (Fld × Nat)) : (s.setFlds l).mgt = s.mgt := by rw [s.setFlds_frame l]
@[simp] theorem State.setFlds_edge (l : List (Fld × Nat)) : (s.setFlds l).edge = s.edge := by rw [s.setFlds_frame l]
@[simp] theorem State.setFlds_nm (l : List (Fld × Nat)) : (s.setFlds l).nm = s.nm := by rw [s.setFlds_frame l]
@[simp] theorem State.setFlds_wvr (l : List (Fld × Nat)) : (s.setFlds l).wvr = s.wvr := by rw [s.setFlds_frame l]
@[simp] theorem State.setFlds_ldg (l : List (Fld × Nat)) : (s.setFlds l).ldg = s.ldg := by rw [s.setFlds_frame l]
@[simp] theorem State.setFlds_twin (l : List (Fld × Nat)) : (s.setFlds l).twin = s.twin := by rw [s.setFlds_frame l]
@[simp] theorem State.setFlds_key (l : List (Fld × Nat)) : (s.setFlds l).key = s.key := by rw [s.setFlds_frame l]
@[simp] theorem State.setFlds_saf (l : List (Fld × Nat)) : (s.setFlds l).saf = s.saf := by rw [s.setFlds_frame l]
@[simp] theorem State.setFlds_boot (l : List (Fld × Nat)) : (s.setFlds l).boot = s.boot := by rw [s.setFlds_frame l]
@[simp] theorem State.setFlds_out (l : List (Fld × Nat)) : (s.setFlds l).out = s.out := by rw [s.setFlds_frame l]
@[simp] theorem State.setFlds_pending (l : List (Fld × Nat)) : (s.setFlds l).pending = s.pending := by rw [s.setFlds_frame l]

/-- Writing bytes changes the memory alone. -/
theorem State.writeBytes_frame (l : List Byte) : ∀ (s : State) (a : Nat), s.writeBytes a l = { s with mem := (s.writeBytes a l).mem } := by
  induction l with
  | nil => intro s a; rfl
  | cons b r ih => intro s a; rw [State.writeBytes, ih]; rfl

@[simp] theorem State.writeBytes_regs (a : Nat) (l : List Byte) : (s.writeBytes a l).regs = s.regs := by rw [s.writeBytes_frame l a]
@[simp] theorem State.writeBytes_cnts (a : Nat) (l : List Byte) : (s.writeBytes a l).cnts = s.cnts := by rw [s.writeBytes_frame l a]
@[simp] theorem State.writeBytes_caps (a : Nat) (l : List Byte) : (s.writeBytes a l).caps = s.caps := by rw [s.writeBytes_frame l a]
@[simp] theorem State.writeBytes_heldLo (a : Nat) (l : List Byte) : (s.writeBytes a l).heldLo = s.heldLo := by rw [s.writeBytes_frame l a]
@[simp] theorem State.writeBytes_held (a : Nat) (l : List Byte) : (s.writeBytes a l).held = s.held := by rw [s.writeBytes_frame l a]
@[simp] theorem State.writeBytes_busData (a : Nat) (l : List Byte) : (s.writeBytes a l).busData = s.busData := by rw [s.writeBytes_frame l a]
@[simp] theorem State.writeBytes_fresh (a : Nat) (l : List Byte) : (s.writeBytes a l).fresh = s.fresh := by rw [s.writeBytes_frame l a]
@[simp] theorem State.writeBytes_aon (a : Nat) (l : List Byte) : (s.writeBytes a l).aon = s.aon := by rw [s.writeBytes_frame l a]
@[simp] theorem State.writeBytes_cycle (a : Nat) (l : List Byte) : (s.writeBytes a l).cycle = s.cycle := by rw [s.writeBytes_frame l a]
@[simp] theorem State.writeBytes_bufLog (a : Nat) (l : List Byte) : (s.writeBytes a l).bufLog = s.bufLog := by rw [s.writeBytes_frame l a]
@[simp] theorem State.writeBytes_nmLog (a : Nat) (l : List Byte) : (s.writeBytes a l).nmLog = s.nmLog := by rw [s.writeBytes_frame l a]
@[simp] theorem State.writeBytes_safLog (a : Nat) (l : List Byte) : (s.writeBytes a l).safLog = s.safLog := by rw [s.writeBytes_frame l a]
@[simp] theorem State.writeBytes_data (a : Nat) (l : List Byte) : (s.writeBytes a l).data = s.data := by rw [s.writeBytes_frame l a]
@[simp] theorem State.writeBytes_ports (a : Nat) (l : List Byte) : (s.writeBytes a l).ports = s.ports := by rw [s.writeBytes_frame l a]
@[simp] theorem State.writeBytes_time (a : Nat) (l : List Byte) : (s.writeBytes a l).time = s.time := by rw [s.writeBytes_frame l a]
@[simp] theorem State.writeBytes_mgt (a : Nat) (l : List Byte) : (s.writeBytes a l).mgt = s.mgt := by rw [s.writeBytes_frame l a]
@[simp] theorem State.writeBytes_edge (a : Nat) (l : List Byte) : (s.writeBytes a l).edge = s.edge := by rw [s.writeBytes_frame l a]
@[simp] theorem State.writeBytes_nm (a : Nat) (l : List Byte) : (s.writeBytes a l).nm = s.nm := by rw [s.writeBytes_frame l a]
@[simp] theorem State.writeBytes_wvr (a : Nat) (l : List Byte) : (s.writeBytes a l).wvr = s.wvr := by rw [s.writeBytes_frame l a]
@[simp] theorem State.writeBytes_ldg (a : Nat) (l : List Byte) : (s.writeBytes a l).ldg = s.ldg := by rw [s.writeBytes_frame l a]
@[simp] theorem State.writeBytes_twin (a : Nat) (l : List Byte) : (s.writeBytes a l).twin = s.twin := by rw [s.writeBytes_frame l a]
@[simp] theorem State.writeBytes_key (a : Nat) (l : List Byte) : (s.writeBytes a l).key = s.key := by rw [s.writeBytes_frame l a]
@[simp] theorem State.writeBytes_saf (a : Nat) (l : List Byte) : (s.writeBytes a l).saf = s.saf := by rw [s.writeBytes_frame l a]
@[simp] theorem State.writeBytes_boot (a : Nat) (l : List Byte) : (s.writeBytes a l).boot = s.boot := by rw [s.writeBytes_frame l a]
@[simp] theorem State.writeBytes_out (a : Nat) (l : List Byte) : (s.writeBytes a l).out = s.out := by rw [s.writeBytes_frame l a]
@[simp] theorem State.writeBytes_pending (a : Nat) (l : List Byte) : (s.writeBytes a l).pending = s.pending := by rw [s.writeBytes_frame l a]

/-! ## The footprint: a listed part comes from the result, every other part from the state before -/

theorem State.confine_regs (l : List Part) (t : State) : (s.confine l t).regs = if l.any (fun q => decide (q = .regs)) then t.regs else s.regs := rfl
theorem State.confine_cnts (l : List Part) (t : State) : (s.confine l t).cnts = if l.any (fun q => decide (q = .cnts)) then t.cnts else s.cnts := rfl
theorem State.confine_caps (l : List Part) (t : State) : (s.confine l t).caps = if l.any (fun q => decide (q = .caps)) then t.caps else s.caps := rfl
theorem State.confine_heldLo (l : List Part) (t : State) : (s.confine l t).heldLo = if l.any (fun q => decide (q = .heldLo)) then t.heldLo else s.heldLo := rfl
theorem State.confine_held (l : List Part) (t : State) : (s.confine l t).held = if l.any (fun q => decide (q = .held)) then t.held else s.held := rfl
theorem State.confine_busData (l : List Part) (t : State) : (s.confine l t).busData = if l.any (fun q => decide (q = .busData)) then t.busData else s.busData := rfl
theorem State.confine_fresh (l : List Part) (t : State) : (s.confine l t).fresh = if l.any (fun q => decide (q = .fresh)) then t.fresh else s.fresh := rfl
theorem State.confine_aon (l : List Part) (t : State) : (s.confine l t).aon = if l.any (fun q => decide (q = .aon)) then t.aon else s.aon := rfl
theorem State.confine_cycle (l : List Part) (t : State) : (s.confine l t).cycle = if l.any (fun q => decide (q = .cycle)) then t.cycle else s.cycle := rfl
theorem State.confine_mem (l : List Part) (t : State) : (s.confine l t).mem = if l.any (fun q => decide (q = .mem)) then t.mem else s.mem := rfl
theorem State.confine_bufLog (l : List Part) (t : State) : (s.confine l t).bufLog = if l.any (fun q => decide (q = .bufLog)) then t.bufLog else s.bufLog := rfl
theorem State.confine_nmLog (l : List Part) (t : State) : (s.confine l t).nmLog = if l.any (fun q => decide (q = .nmLog)) then t.nmLog else s.nmLog := rfl
theorem State.confine_safLog (l : List Part) (t : State) : (s.confine l t).safLog = if l.any (fun q => decide (q = .safLog)) then t.safLog else s.safLog := rfl
theorem State.confine_data (l : List Part) (t : State) : (s.confine l t).data = if l.any (fun q => decide (q = .data)) then t.data else s.data := rfl
theorem State.confine_ports (l : List Part) (t : State) : (s.confine l t).ports = if l.any (fun q => decide (q = .ports)) then t.ports else s.ports := rfl
theorem State.confine_time (l : List Part) (t : State) : (s.confine l t).time = if l.any (fun q => decide (q = .time)) then t.time else s.time := rfl
theorem State.confine_mgt (l : List Part) (t : State) : (s.confine l t).mgt = if l.any (fun q => decide (q = .mgt)) then t.mgt else s.mgt := rfl
theorem State.confine_edge (l : List Part) (t : State) : (s.confine l t).edge = if l.any (fun q => decide (q = .edge)) then t.edge else s.edge := rfl
theorem State.confine_nm (l : List Part) (t : State) : (s.confine l t).nm = if l.any (fun q => decide (q = .nm)) then t.nm else s.nm := rfl
theorem State.confine_wvr (l : List Part) (t : State) : (s.confine l t).wvr = if l.any (fun q => decide (q = .wvr)) then t.wvr else s.wvr := rfl
theorem State.confine_ldg (l : List Part) (t : State) : (s.confine l t).ldg = if l.any (fun q => decide (q = .ldg)) then t.ldg else s.ldg := rfl
theorem State.confine_twin (l : List Part) (t : State) : (s.confine l t).twin = if l.any (fun q => decide (q = .twin)) then t.twin else s.twin := rfl
theorem State.confine_key (l : List Part) (t : State) : (s.confine l t).key = if l.any (fun q => decide (q = .key)) then t.key else s.key := rfl
theorem State.confine_saf (l : List Part) (t : State) : (s.confine l t).saf = if l.any (fun q => decide (q = .saf)) then t.saf else s.saf := rfl
theorem State.confine_boot (l : List Part) (t : State) : (s.confine l t).boot = if l.any (fun q => decide (q = .boot)) then t.boot else s.boot := rfl
theorem State.confine_out (l : List Part) (t : State) : (s.confine l t).out = if l.any (fun q => decide (q = .out)) then t.out else s.out := rfl
@[simp] theorem State.confine_pending (l : List Part) (t : State) : (s.confine l t).pending = s.pending := rfl

/-- An effect that is not taken changes nothing. -/
theorem State.confine_self (l : List Part) : s.confine l s = s := by
  simp [State.confine]

@[simp] theorem State.doIf_true (f : State → State) : s.doIf true f = f s := rfl
@[simp] theorem State.doIf_false (f : State → State) : s.doIf false f = s := rfl
theorem State.doIf_of {c : Bool} (f : State → State) (h : c = true) : s.doIf c f = f s := by simp [h]

/-- Confining again changes nothing. -/
theorem State.confine_confine (t : State) (l : List Part) : s.confine l (s.confine l t) = s.confine l t := by
  have key : ∀ {α : Type} (c : Bool) (a b : α), (if c then (if c then a else b) else b) = if c then a else b := by
    intro α c a b; cases c <;> rfl
  simp only [State.confine, key]

/-- What a listed state change confines stays confined under a longer list. -/
theorem State.confine_eq_of {t : State} {l m : List Part} (h : s.confine l t = t) (hl : l.all (fun p => m.any (fun q => decide (q = p))) = true) :
    s.confine m t = t := by
  have key : ∀ {α : Type} (p : Part) (a b : α), (if l.any (fun q => decide (q = p)) then a else b) = a →
      (if m.any (fun q => decide (q = p)) then a else b) = a := by
    intro α p a b e
    cases hm : m.any (fun q => decide (q = p))
    · cases hp : l.any (fun q => decide (q = p))
      · simpa [hp] using e
      · obtain ⟨q, hq, hqp⟩ := List.any_eq_true.mp hp
        have := List.all_eq_true.mp hl q hq
        rw [of_decide_eq_true hqp] at this
        simp [hm] at this
    · rfl
  obtain ⟨e1, e2, e3, e4, e5, e6, e7, e8, e9, e10, e11, e12, e13, e14, e15, e16, e17, e18, e19, e20, e21, e22, e23, e24, e25, e26, e27⟩ := State.mk.inj h
  simp only [State.confine]
  simp only [key _ _ _ e1, key _ _ _ e2, key _ _ _ e3, key _ _ _ e4, key _ _ _ e5, key _ _ _ e6, key _ _ _ e7, key _ _ _ e8, key _ _ _ e9,
    key _ _ _ e10, key _ _ _ e11, key _ _ _ e12, key _ _ _ e13, key _ _ _ e14, key _ _ _ e15, key _ _ _ e16, key _ _ _ e17, key _ _ _ e18,
    key _ _ _ e19, key _ _ _ e20, key _ _ _ e21, key _ _ _ e22, key _ _ _ e23, key _ _ _ e24, key _ _ _ e25, key _ _ _ e26, e27]

end Sys2Proof.Machine
end

