-- ==== Sys2Proof/Laws/Regs.lean ====
section
/-!
SUPPORT. The laws of registers, fields, counters and captures: what a write leaves to be read in the same place and in every
other.
-/

namespace Sys2Proof.Machine

/-! ## Bit fields -/

theorem maskOf_testBit {hi lo i : Nat} (h1 : lo ≤ hi) (h2 : hi < 32) :
    (maskOf hi lo).toNat.testBit i = (decide (lo ≤ i) && decide (i ≤ hi)) := by
  have hlt : (2 ^ (hi - lo + 1) - 1) <<< lo < 2 ^ 32 := by
    rw [Nat.shiftLeft_eq]
    calc (2 ^ (hi - lo + 1) - 1) * 2 ^ lo < 2 ^ (hi - lo + 1) * 2 ^ lo :=
          Nat.mul_lt_mul_of_pos_right (Nat.sub_lt (Nat.two_pow_pos _) Nat.one_pos) (Nat.two_pow_pos _)
      _ = 2 ^ (hi + 1) := by rw [← Nat.pow_add]; congr 1; omega
      _ ≤ 2 ^ 32 := Nat.pow_le_pow_right (by omega) (by omega)
  rw [maskOf, BitVec.toNat_ofNat, Nat.mod_eq_of_lt hlt, Nat.testBit_shiftLeft, Nat.testBit_two_pow_sub_one]
  by_cases a : lo ≤ i
  · have : (i - lo < hi - lo + 1) ↔ i ≤ hi := by omega
    simp [a, this]
  · simp [a]

theorem putBits_testBit {w : Word} {hi lo v i : Nat} (h1 : lo ≤ hi) (h2 : hi < 32) :
    (putBits w hi lo v).toNat.testBit i =
      if lo ≤ i ∧ i ≤ hi then v.testBit (i - lo) else w.toNat.testBit i := by
  have hm := @maskOf_testBit hi lo i h1 h2
  by_cases hi32 : i < 32
  · have hm' : (maskOf hi lo).getLsbD i = (decide (lo ≤ i) && decide (i ≤ hi)) := by
      rw [BitVec.getLsbD]; exact hm
    have : (putBits w hi lo v).getLsbD i = if lo ≤ i ∧ i ≤ hi then v.testBit (i - lo) else w.getLsbD i := by
      unfold putBits
      simp only [BitVec.getLsbD_or, BitVec.getLsbD_and, BitVec.getLsbD_not, BitVec.getLsbD_shiftLeft, hm',
        BitVec.getLsbD_ofNat, hi32, decide_true, Bool.true_and]
      by_cases a : lo ≤ i
      · by_cases b : i ≤ hi
        · have c : ¬ i < lo := by omega
          have d : i - lo < 32 := by omega
          simp [a, b, c, d]
        · simp [a, b]
      · simp [a]
    rw [BitVec.getLsbD] at this
    rw [this, BitVec.getLsbD]
  · have hp : (putBits w hi lo v).toNat.testBit i = false :=
      Nat.testBit_lt_two_pow (Nat.lt_of_lt_of_le (putBits w hi lo v).isLt (Nat.pow_le_pow_right (by omega) (by omega)))
    have hw : w.toNat.testBit i = false :=
      Nat.testBit_lt_two_pow (Nat.lt_of_lt_of_le w.isLt (Nat.pow_le_pow_right (by omega) (by omega)))
    rw [hp, hw, if_neg (by omega)]

theorem wordBits_testBit (w : Word) (hi lo i : Nat) :
    (wordBits w hi lo).testBit i = (decide (i < hi - lo + 1) && w.toNat.testBit (lo + i)) := by
  rw [wordBits, bits, Nat.testBit_mod_two_pow, Nat.testBit_shiftRight]

/-- A field put is the field read. -/
theorem wordBits_putBits_same (w : Word) (hi lo v : Nat) (h1 : lo ≤ hi) (h2 : hi < 32) :
    wordBits (putBits w hi lo v) hi lo = v % 2 ^ (hi - lo + 1) := by
  apply Nat.eq_of_testBit_eq
  intro i
  rw [wordBits_testBit, putBits_testBit h1 h2, Nat.testBit_mod_two_pow]
  by_cases a : i < hi - lo + 1
  · rw [if_pos (by omega)]; simp [a]
  · simp [a]

/-- A field put leaves a field of other bits alone. -/
theorem wordBits_putBits_other (w : Word) (hi lo v hi' lo' : Nat) (h1 : lo ≤ hi) (h2 : hi < 32) (h3 : lo' ≤ hi')
    (h : hi < lo' ∨ hi' < lo) : wordBits (putBits w hi lo v) hi' lo' = wordBits w hi' lo' := by
  apply Nat.eq_of_testBit_eq
  intro i
  rw [wordBits_testBit, wordBits_testBit, putBits_testBit h1 h2]
  by_cases a : i < hi' - lo' + 1
  · rw [if_neg (by omega)]
  · simp [a]

/-! ## Registers -/

theorem State.reg_setReg (s : State) (k j : Nat) (w : Word) : (s.setReg k w).reg j = if k = j then w else s.reg j :=
  mapGet_mapSet resetWord s.regs k j w

@[simp] theorem State.reg_setReg_same (s : State) (k : Nat) (w : Word) : (s.setReg k w).reg k = w := by simp [State.reg_setReg]

theorem State.reg_setReg_other (s : State) {k j : Nat} (w : Word) (h : k ≠ j) : (s.setReg k w).reg j = s.reg j := by
  simp [State.reg_setReg, h]

/-- Reading depends on the registers alone. -/
theorem State.reg_congr {s t : State} (h : s.regs = t.regs) (k : Nat) : s.reg k = t.reg k := by simp [State.reg, h]

theorem State.fld_congr {s t : State} (h : s.regs = t.regs) (f : Fld) : s.fld f = t.fld f := by
  simp [State.fld, State.reg, h]

theorem State.flag_congr {s t : State} (h : s.regs = t.regs) (f : Fld) : s.flag f = t.flag f := by
  simp [State.flag, State.reg, h]

theorem State.reg_setFld_same (s : State) (f : Fld) (v : Nat) :
    (s.setFld f v).reg f.key = putBits (s.reg f.key) f.hi f.lo v := by simp [State.setFld]

theorem State.reg_setFld_other (s : State) (f : Fld) (v : Nat) {k : Nat} (h : f.key ≠ k) :
    (s.setFld f v).reg k = s.reg k := by simp [State.setFld, State.reg_setReg, h]

/-- A field set reads as what was set, cut to its width. -/
theorem State.fld_setFld_same (s : State) (f : Fld) (v : Nat) (h1 : f.lo ≤ f.hi) (h2 : f.hi < 32) :
    (s.setFld f v).fld f = v % 2 ^ (f.hi - f.lo + 1) := by
  rw [State.fld, State.reg_setFld_same]; exact wordBits_putBits_same _ _ _ _ h1 h2

/-- A field of another register reads as before. -/
theorem State.fld_setFld_key (s : State) (f g : Fld) (v : Nat) (h : f.key ≠ g.key) : (s.setFld f v).fld g = s.fld g := by
  rw [State.fld, State.reg_setFld_other s f v h, State.fld]

/-- A field of other bits of the register reads as before. -/
theorem State.fld_setFld_bits (s : State) (f g : Fld) (v : Nat) (hk : f.key = g.key) (h1 : f.lo ≤ f.hi) (h2 : f.hi < 32)
    (h3 : g.lo ≤ g.hi) (h : f.hi < g.lo ∨ g.hi < f.lo) : (s.setFld f v).fld g = s.fld g := by
  rw [State.fld, ← hk, State.reg_setFld_same, wordBits_putBits_other _ _ _ _ _ _ h1 h2 h3 h, State.fld, hk]

theorem State.flag_eq (s : State) (f : Fld) (h : f.hi = f.lo) : s.flag f = decide (s.fld f = 1) := by
  have : ∀ n i : Nat, n.testBit i = decide (bits n i i = 1) := by
    intro n i
    simp only [bits, Nat.sub_self, Nat.zero_add, Nat.pow_one, Nat.testBit, Nat.one_and_eq_mod_two]
    rcases Nat.mod_two_eq_zero_or_one (n >>> i) with e | e <;> simp [e]
  rw [State.flag, State.fld, h, this]; rfl

theorem State.flag_setFld_key (s : State) (f g : Fld) (v : Nat) (h : f.key ≠ g.key) : (s.setFld f v).flag g = s.flag g := by
  rw [State.flag, State.reg_setFld_other s f v h, State.flag]

theorem State.flag_setFld_same (s : State) (f : Fld) (v : Nat) (h1 : f.hi = f.lo) (h2 : f.hi < 32) :
    (s.setFld f v).flag f = decide (v % 2 = 1) := by
  rw [State.flag_eq _ _ h1, State.fld_setFld_same s f v (by omega) h2, h1]; simp

/-! ## Counters and captures -/

theorem State.cnt_count (s : State) (a b n : Nat) :
    (s.count a n).cnt b = if a = b then s.cnt a + BitVec.ofNat 64 n else s.cnt b :=
  mapGet_mapSet _ s.cnts a b _

@[simp] theorem State.cnt_inc_same (s : State) (a : Nat) : (s.inc a).cnt a = s.cnt a + 1 := by
  simp [State.inc, State.cnt_count]

theorem State.cnt_inc_other (s : State) {a b : Nat} (h : a ≠ b) : (s.inc a).cnt b = s.cnt b := by
  simp [State.inc, State.cnt_count, h]

theorem State.cnt_congr {s t : State} (h : s.cnts = t.cnts) (a : Nat) : s.cnt a = t.cnt a := by simp [State.cnt, h]

theorem State.capture_setCapture (s : State) (a b : Nat) (v : Word64) :
    (s.setCapture a v).capture b = if a = b then v else s.capture b := mapGet_mapSet _ s.caps a b v

theorem State.heldWord_hold (s : State) (a b : Nat) (w : Word) :
    (s.hold a w).heldWord b = if a = b then some w else s.heldWord b := mapGet_mapSet _ s.held a b (some w)

end Sys2Proof.Machine
end

