-- ==== Sys2Proof/Laws/Memory.lean ====
section
/-!
SUPPORT. Every operation over the scratchpad keeps its canonical form, and every operation that can reach it does.
-/

namespace Sys2Proof.Machine

/-- An operation that leaves the memory as it is keeps the form. -/
theorem State.MemInv.of_mem {s t : State} (h : s.MemInv) (e : t.mem = s.mem) : t.MemInv := by
  unfold State.MemInv at *; rw [e]; exact h

/-- A footprint without the memory keeps the form. -/
theorem State.MemInv.confine {s : State} (h : s.MemInv) (l : List Part) (t : State) (hl : l.any (fun q => decide (q = .mem)) = false) :
    (s.confine l t).MemInv := h.of_mem (by rw [State.confine_mem, hl]; rfl)

/-- With the memory in the footprint the form is that of the result. -/
theorem State.MemInv.confine_of {s t : State} (l : List Part) (h : s.MemInv) (ht : t.MemInv) : (s.confine l t).MemInv := by
  unfold State.MemInv; rw [State.confine_mem]; split
  · exact ht
  · exact h

theorem memInv_empty {s : State} (h : s.mem = []) : s.MemInv := by unfold State.MemInv Memory.wf; rw [h]; rfl

theorem State.MemInv.doIf {s : State} (h : s.MemInv) (c : Bool) (f : State → State) (hf : (f s).MemInv) : (s.doIf c f).MemInv := by
  cases c
  · exact h
  · exact hf

/-! ## The memory's own operations -/

theorem State.MemInv.writeByte {s : State} (h : s.MemInv) (a : Nat) (b : Byte) : (s.writeByte a b).MemInv :=
  mapWf_mapSet _ _ _ _ h

theorem State.MemInv.writeBytes {s : State} (h : s.MemInv) (a : Nat) (l : List Byte) : (s.writeBytes a l).MemInv := by
  induction l generalizing s a with
  | nil => exact h
  | cons b r ih => exact ih (h.writeByte a b) (a + 1)

theorem State.MemInv.writeWord {s : State} (h : s.MemInv) (a : Nat) (m d : Word) : (s.writeWord a m d).MemInv :=
  h.writeBytes a _

theorem State.MemInv.clearMem {s : State} (h : s.MemInv) (lo hi : Nat) : (s.clearMem lo hi).MemInv := by
  show mapWf Memory.unlisted (mapKeep s.mem (fun k _ => k < lo || hi ≤ k)) = true
  exact mapWf_mapKeep _ _ _ h

/-- Reading after a write: the byte written, and every other byte as before. -/
theorem State.readByte_writeByte (s : State) (a b : Nat) (v : Byte) :
    (s.writeByte a v).readByte b = if a = b then v else s.readByte b := mapGet_mapSet _ _ _ _ _

theorem State.readByte_congr {s t : State} (h : s.mem = t.mem) (a : Nat) : s.readByte a = t.readByte a := by
  simp [State.readByte, h]

/-- Writing bytes from an address on leaves every byte outside them as it was. -/
theorem State.readByte_writeBytes_other (l : List Byte) : ∀ (s : State) (a b : Nat), (b < a ∨ a + l.length ≤ b) →
    (s.writeBytes a l).readByte b = s.readByte b := by
  induction l with
  | nil => intro s a b _; rfl
  | cons x r ih =>
    intro s a b h
    rw [State.writeBytes, ih _ _ _ (by simp at h; omega), State.readByte_writeByte, if_neg (by simp at h; omega)]

/-- Writing bytes from an address on leaves each of them to be read. -/
theorem State.readByte_writeBytes (l : List Byte) : ∀ (s : State) (a i : Nat) (h : i < l.length),
    (s.writeBytes a l).readByte (a + i) = l[i] := by
  induction l with
  | nil => intro s a i h; simp at h
  | cons x r ih =>
    intro s a i h
    rw [State.writeBytes]
    cases i with
    | zero => rw [State.readByte_writeBytes_other _ _ _ _ (by omega), State.readByte_writeByte]; simp
    | succ n =>
      rw [show a + (n + 1) = a + 1 + n by omega, ih _ _ n (by simpa using h)]; simp

/-- A cleared byte reads as one that nothing has written; the others read as before. -/
theorem State.readByte_clearMem (s : State) (lo hi a : Nat) :
    (s.clearMem lo hi).readByte a = if lo ≤ a ∧ a < hi then Memory.unlisted a else s.readByte a := by
  unfold State.readByte State.clearMem mapKeep
  simp only
  generalize s.mem = m
  induction m with
  | nil => split <;> rfl
  | cons c r ih =>
    obtain ⟨k, v⟩ := c
    rw [List.filter_cons]
    by_cases e : k = a
    · subst e
      by_cases hk : lo ≤ k ∧ k < hi
      · rw [if_neg (by simp; omega), ih, if_pos hk, if_pos hk]
      · rw [if_pos (by simp; omega)]; simp [mapGet, hk]
    · split
      · simp only [mapGet, e, if_false]; exact ih
      · simp only [mapGet, e, if_false]; exact ih

/-! ## Operations confined to other parts -/

theorem forEach_mem {α : Type} (l : List α) (f : α → State → State) (hf : ∀ x s, (f x s).mem = s.mem) :
    ∀ s : State, (forEach l f s).mem = s.mem := by
  induction l with
  | nil => intro s; rfl
  | cons x r ih => intro s; rw [forEach, ih, hf]

@[simp] theorem State.busWrite_mem (s : State) (a : Nat) (m d : Word) : (s.busWrite a m d).mem = s.mem := by unfold State.busWrite; rw [State.confine_mem]; rfl
@[simp] theorem State.busRead_mem (s : State) (a : Nat) : (s.busRead a).mem = s.mem := by unfold State.busRead; rw [State.confine_mem]; rfl
@[simp] theorem State.settleTime_mem (s : State) : s.settleTime.mem = s.mem := by unfold State.settleTime; rw [State.confine_mem]; rfl
@[simp] theorem State.pairSend_mem (s : State) (ty : Nat) (b : List Byte) : (s.pairSend ty b).mem = s.mem := by unfold State.pairSend; rw [State.confine_mem]; rfl
@[simp] theorem State.writeFailed_mem (s : State) (c t a : Nat) : (s.writeFailed c t a).mem = s.mem := by unfold State.writeFailed; rw [State.confine_mem]; rfl
@[simp] theorem State.endCmd_mem (s : State) (c : Cmd) (a b : Nat) : (s.endCmd c a b).mem = s.mem := by unfold State.endCmd; rw [State.confine_mem]; rfl
@[simp] theorem State.answer_mem (s : State) (c : Cmd) (a : Nat) (b : List Byte) : (s.answer c a b).mem = s.mem := by unfold State.answer; rw [State.confine_mem]; rfl
@[simp] theorem State.endData_mem (s : State) (c : Cmd) (b : List Byte) : (s.endData c b).mem = s.mem := by simp [State.endData]
@[simp] theorem State.fatalFault_mem (s : State) (c d : Nat) : (s.fatalFault c d).mem = s.mem := by unfold State.fatalFault; rw [State.confine_mem]; rfl
@[simp] theorem State.clock_mem (s : State) : s.clock.mem = s.mem := by unfold State.clock; rw [State.confine_mem]; rfl
@[simp] theorem State.coldSteps_mem (s : State) (e : StartEnv) : (s.coldSteps e).mem = s.mem := by unfold State.coldSteps; rw [State.confine_mem]; rfl
@[simp] theorem State.warmSteps_mem (s : State) (e : StartEnv) : (s.warmSteps e).mem = s.mem := by unfold State.warmSteps; rw [State.confine_mem]; rfl
@[simp] theorem State.gustSteps_mem (s : State) (c : Nat × Nat × Nat) (a : Nat) (e : StartEnv) : (s.gustSteps c a e).mem = s.mem := by unfold State.gustSteps; rw [State.confine_mem]; rfl
@[simp] theorem State.blank_mem (s : State) (w : Bool) : (s.blank w).mem = [] := rfl
@[simp] theorem State.setPosted_mem (s : State) (l : List Posted) : (s.setPosted l).mem = s.mem := rfl
@[simp] theorem State.setRun_mem (s : State) (r : Option ReadRun) : (s.setRun r).mem = s.mem := rfl

@[simp] theorem State.ownRead_mem (s : State) (a : Nat) : (s.ownRead a).mem = s.mem := by
  unfold State.ownRead; split <;> rfl

@[simp] theorem State.wordIn_mem (s : State) (r : ReadRun) (w : Word) (b : Bool) : (s.wordIn r w b).mem = s.mem := by
  unfold State.wordIn; cases b <;> rfl

@[simp] theorem State.endWrites_mem (s : State) : s.endWrites.mem = s.mem := by
  unfold State.endWrites; split
  · split <;> rfl
  · rfl

@[simp] theorem State.endReads_mem (s : State) : s.endReads.mem = s.mem := by
  unfold State.endReads; split
  · split
    · simp only; split <;> rfl
    · rfl
  · rfl

@[simp] theorem State.readOne_mem (s : State) (r : ReadRun) (a : Nat) : (s.readOne r a).1.mem = s.mem := by
  unfold State.readOne
  repeat' split
  all_goals simp

@[simp] theorem State.readNext_mem (s : State) : s.readNext.1.mem = s.mem := by
  unfold State.readNext
  repeat' split
  all_goals simp

@[simp] theorem State.advance_mem (n : Nat) : ∀ s : State, (s.advance n).mem = s.mem := by
  induction n with
  | zero => intro s; rfl
  | succ n ih =>
    intro s
    unfold State.advance
    split
    · rw [ih, State.readNext_mem]
    · exact s.readNext_mem

theorem State.takeInbox_mem {s t : State} {f : InFrame → Bool} {m : InFrame} (h : s.takeInbox f = some (m, t)) : t.mem = s.mem := by
  unfold State.takeInbox at h
  split at h
  · simp at h
  · simp only [Option.some.injEq, Prod.mk.injEq] at h
    rw [← h.2]

/-! ## The bridge -/

theorem State.MemInv.ownWrite {s : State} (h : s.MemInv) (a : Nat) (m d : Word) : (s.ownWrite a m d).MemInv := by
  unfold State.ownWrite
  split
  · exact h.writeWord _ _ _
  · exact h.of_mem (by simp)
  · exact h

theorem State.MemInv.writeFor {s : State} (h : s.MemInv) (c : Option Cmd) (a : Nat) (m d : Word) : (s.writeFor c a m d).MemInv :=
  State.MemInv.ownWrite (s := { s with mgt := { s.mgt with writer := c } }) h a m d

theorem State.MemInv.postWrite {s : State} (h : s.MemInv) (a : Nat) (m d : Word) : (s.postWrite a m d).MemInv := by
  unfold State.postWrite
  split
  · exact h
  · have h' : (s.setFld F.BRG_TAG_NEXT ((s.fld F.BRG_TAG_NEXT + 1) % 65536)).MemInv := h.of_mem (by simp)
    simp only
    split
    · exact h'.of_mem (by simp)
    · split
      · exact h'.of_mem (by simp)
      · exact h'.of_mem (by simp)
    · split
      · exact h'.of_mem (by simp)
      · exact h'.of_mem (by simp)
    · split
      · exact h'.writeFor _ _ _ _
      · exact h'.of_mem (by simp)

theorem State.MemInv.pump (n : Nat) : ∀ {s : State}, s.MemInv → (s.pump n).MemInv := by
  induction n with
  | zero => intro s h; exact h
  | succ n ih =>
    intro s h
    unfold State.pump
    split
    · exact h
    · split
      · exact h
      · refine ih ?_
        refine State.MemInv.postWrite ?_ _ _ _
        exact h

theorem State.MemInv.finishWrite {s : State} (h : s.MemInv) (p : Posted) (b : Bool) : (s.finishWrite p b).MemInv := by
  unfold State.finishWrite
  have h' : (s.setPosted (s.mgt.posted.erase p)).MemInv := h.of_mem (by simp)
  generalize s.setPosted (s.mgt.posted.erase p) = u at h'
  simp only
  generalize (if b = true then 4 else u.endCause p.addr) = c
  split
  · exact h'.writeFor _ _ _ _
  · exact h'.of_mem (by simp)

theorem State.MemInv.drain (n : Nat) : ∀ {s : State}, s.MemInv → (s.drain n).MemInv := by
  induction n with
  | zero => intro s h; exact h
  | succ n ih =>
    intro s h
    unfold State.drain
    split
    · split
      · exact ih (h.finishWrite _ _)
      · exact h
    · exact h

theorem State.MemInv.startWrites {s : State} (h : s.MemInv) (l : List (Nat × Word × Word)) : (s.startWrites l).MemInv := by
  unfold State.startWrites
  split
  · refine State.MemInv.of_mem (State.MemInv.pump 257 ?_) (State.endWrites_mem _)
    exact h
  · exact h

theorem State.MemInv.serveWrite {s : State} (h : s.MemInv) (t a : Nat) (m d : Word) : (s.serveWrite t a m d).MemInv :=
  (h.ownWrite a m d).of_mem (State.pairSend_mem _ _ _)

/-- What every step of a list keeps, the whole list keeps. -/
theorem State.MemInv.forEach {α : Type} (f : α → State → State) (hf : ∀ x s, State.MemInv s → (f x s).MemInv) (l : List α) :
    ∀ {s : State}, s.MemInv → (Machine.forEach l f s).MemInv := by
  induction l with
  | nil => exact fun h => h
  | cons x r ih => exact fun h => ih (hf x _ h)

theorem State.MemInv.serveWaits {s : State} (h : s.MemInv) : s.serveWaits.MemInv := by
  unfold State.serveWaits
  split
  · exact h
  · refine State.MemInv.forEach _ (fun x s h => h.serveWrite _ _ _ _) _ ?_
    exact h

theorem State.MemInv.goOn {s : State} (h : s.MemInv) : s.goOn.MemInv := by
  unfold State.goOn
  have h' := State.MemInv.pump 257 (State.MemInv.drain 192 h)
  simp only
  refine State.MemInv.of_mem (s := (if !s.mgt.toPost.isEmpty then ((s.drain 192).pump 257).endWrites else (s.drain 192).pump 257).serveWaits)
    (State.MemInv.serveWaits ?_) (by simp)
  split
  · exact h'.of_mem (by simp)
  · exact h'

theorem State.MemInv.farReadDone {s : State} (h : s.MemInv) (b : Bool) : (s.farReadDone b).MemInv := by
  unfold State.farReadDone
  split
  · exact h
  · split
    · exact h
    · split
      · exact h
      · split
        · split
          · exact h
          · exact (h.of_mem (by simp)).goOn
        · split
          · exact (h.of_mem (by simp)).goOn
          · exact State.MemInv.goOn (h.of_mem (by simp))

theorem State.MemInv.postedDone {s : State} (h : s.MemInv) (b : Bool) : (s.postedDone b).MemInv := by
  unfold State.postedDone
  split
  · exact h
  · exact (h.finishWrite _ _).goOn

theorem State.MemInv.partnerWriteEnds {s : State} (h : s.MemInv) (p : Posted) (c : Nat) : (s.partnerWriteEnds p c).MemInv := by
  unfold State.partnerWriteEnds
  refine State.MemInv.goOn ?_
  split
  · exact h.of_mem (by simp)
  · exact h.of_mem (by simp)

theorem State.MemInv.partnerReadEnds {s : State} (h : s.MemInv) (c : Nat) (w : Word) : (s.partnerReadEnds c w).MemInv := by
  unfold State.partnerReadEnds
  split
  · split
    · exact (h.of_mem (by simp)).goOn
    · exact h
  · exact h

theorem State.MemInv.bridgeRsp {s : State} (h : s.MemInv) (t : Nat) (b : Bool) (c : Nat) (w : Word) : (s.bridgeRsp t b c w).MemInv := by
  unfold State.bridgeRsp
  split
  · exact h
  · rename_i m u hu
    have h' : u.MemInv := h.of_mem (State.takeInbox_mem hu)
    split
    · exact h'.partnerReadEnds _ _
    · split
      · exact h'.partnerWriteEnds _ _
      · exact h'

theorem State.MemInv.bridgeTimeout {s : State} (h : s.MemInv) : s.bridgeTimeout.MemInv := by
  unfold State.bridgeTimeout
  split
  · exact h.partnerWriteEnds _ _
  · exact h.partnerReadEnds _ _

theorem State.MemInv.bridgeReq {s : State} (h : s.MemInv) (w : Bool) (t a : Nat) (m d : Word) : (s.bridgeReq w t a m d).MemInv := by
  unfold State.bridgeReq
  split
  · exact h
  · rename_i f u hu
    have h' : u.MemInv := h.of_mem (State.takeInbox_mem hu)
    split
    · exact h'
    · simp only
      split
      · exact h'.of_mem (by simp)
      · split
        · split
          · exact h'
          · exact h'.serveWrite _ _ _ _
        · exact h'.of_mem (by simp)

theorem State.MemInv.regWrite {s : State} (h : s.MemInv) : s.regWrite.MemInv := by
  unfold State.regWrite; split
  · exact h
  · exact h.startWrites _

theorem State.MemInv.regBurstWrite {s : State} (h : s.MemInv) : s.regBurstWrite.MemInv := by
  unfold State.regBurstWrite; split
  · exact h
  · exact h.startWrites _

theorem State.MemInv.settleTime {s : State} (h : s.MemInv) : s.settleTime.MemInv := h.of_mem (by simp)

/-! ## Resets and starts leave no byte listed, or the memory as it was -/

theorem State.porst_mem (s : State) : s.porst.mem = [] := rfl

theorem State.MemInv.porst (s : State) : s.porst.MemInv := memInv_empty s.porst_mem

theorem State.MemInv.supplyTrip {s : State} (h : s.MemInv) (r : Nat) (b : Bool) : (s.supplyTrip r b).MemInv := by
  unfold State.supplyTrip
  repeat' split
  · exact h
  · exact State.MemInv.porst s
  · exact h
  · exact h.of_mem (by simp)

theorem State.aonReset_mem (s : State) : s.aonReset.mem = [] := by
  unfold State.aonReset
  simp only [State.emit_mem, State.setFld_mem]
  rw [forEach_mem _ _ (fun _ _ => by simp), forEach_mem _ _ (fun _ _ => by simp), State.porst_mem]

theorem State.MemInv.coldStart {s : State} (h : s.MemInv) (e : StartEnv) : (s.coldStart e).MemInv := by
  unfold State.coldStart
  split
  · exact h
  · exact memInv_empty (by simp)

theorem State.coldRestart_mem (s : State) (e : StartEnv) : (s.coldRestart e).mem = [] := rfl
theorem State.warmRestart_mem (s : State) (e : StartEnv) : (s.warmRestart e).mem = [] := rfl

theorem State.MemInv.restart {s : State} (h : s.MemInv) (e : StartEnv) : (s.restart e).MemInv := by
  unfold State.restart
  split
  · exact h
  · simp only
    split
    · exact memInv_empty (State.warmRestart_mem _ _)
    · exact memInv_empty (State.coldRestart_mem _ _)

theorem State.MemInv.leeExit {s : State} (h : s.MemInv) (e : StartEnv) : (s.leeExit e).MemInv := by
  unfold State.leeExit
  simp only
  split
  · exact h
  · exact memInv_empty (State.warmRestart_mem _ _)

theorem State.MemInv.lcAdvance {s : State} (h : s.MemInv) (e : StartEnv) (lost : Option Nat) : (s.lcAdvance e lost).MemInv := by
  unfold State.lcAdvance
  repeat' split
  · exact h
  · exact h.of_mem (by simp)
  · exact memInv_empty (State.coldRestart_mem _ _)
  · exact memInv_empty (State.porst_mem _)
  · exact h.confine _ _ rfl

theorem State.MemInv.sleepEntry {s : State} (h : s.MemInv) : s.sleepEntry.MemInv := by
  unfold State.sleepEntry
  repeat' split
  · exact h
  · exact h.of_mem (by simp)
  · simp only
    split
    · exact memInv_empty rfl
    · exact h.of_mem rfl

theorem State.MemInv.gust {s : State} (h : s.MemInv) (e : StartEnv) : (s.gust e).MemInv := by
  unfold State.gust
  split
  · exact h
  · split
    · exact h
    · exact memInv_empty (by simp)

theorem State.MemInv.bankCleared {s : State} (h : s.MemInv) (b : Nat) : (s.bankCleared b).MemInv := by
  unfold State.bankCleared
  split
  · exact (h.clearMem (0x20000 * b) (0x20000 * (b + 1))).of_mem (by simp)
  · exact h

end Sys2Proof.Machine
end

