-- ==== Sys2Proof/Laws/Frame.lean ====
section
/-!
SUPPORT. How a frame follows from a footprint: the lemmas that every claim about what a command leaves alone cites.
-/

namespace Sys2Proof.Machine

theorem State.only_confine (s t : State) (l : List Part) : s.Only (s.confine l t) l := s.confine_confine t l

theorem State.only_refl (s : State) (l : List Part) : s.Only s l := s.confine_self l

theorem State.Only.mono {s t : State} {l : List Part} (m : List Part) (h : s.Only t l)
    (hl : l.all (fun p => m.any (fun q => decide (q = p))) = true) : s.Only t m := s.confine_eq_of h hl

/-- A change within a footprint is the whole of what the command does. -/
theorem State.Only.confine {s t : State} {l : List Part} (m : List Part) (h : s.Only t l)
    (hl : l.all (fun p => m.any (fun q => decide (q = p))) = true) : s.confine m t = t := h.mono m hl

theorem State.Only.pending {s t : State} {l : List Part} (h : s.Only t l) : t.pending = s.pending := by
  have : (s.confine l t).pending = s.pending := rfl
  rwa [h] at this

theorem State.Only.mem {s t : State} {l : List Part} (h : s.Only t l) (hl : l.any (fun q => decide (q = .mem)) = false) : t.mem = s.mem := by
  have : (s.confine l t).mem = s.mem := by rw [State.confine_mem, hl]; rfl
  rwa [h] at this

theorem State.Only.regs {s t : State} {l : List Part} (h : s.Only t l) (hl : l.any (fun q => decide (q = .regs)) = false) : t.regs = s.regs := by
  have : (s.confine l t).regs = s.regs := by rw [State.confine_regs, hl]; rfl
  rwa [h] at this

theorem State.RegsBut.refl (s : State) (l : List Nat) : s.RegsBut s l := fun _ _ => rfl

theorem State.RegsBut.trans {s t u : State} {l m : List Nat} (h : s.RegsBut t l) (h' : t.RegsBut u m) : s.RegsBut u (l ++ m) := by
  intro k hk
  simp only [List.mem_append, not_or] at hk
  rw [h' k hk.2, h k hk.1]

theorem State.RegsBut.mono {s t : State} {l m : List Nat} (h : s.RegsBut t l) (hl : ∀ k ∈ l, k ∈ m) : s.RegsBut t m :=
  fun k hk => h k (fun hm => hk (hl k hm))

theorem State.regsBut_setReg (s : State) (k : Nat) (w : Word) : s.RegsBut (s.setReg k w) [k] := by
  intro j hj
  exact s.reg_setReg_other w (fun e => hj (by simp [e]))

theorem State.regsBut_setFld (s : State) (f : Fld) (v : Nat) : s.RegsBut (s.setFld f v) [f.key] := s.regsBut_setReg f.key _

theorem State.regsBut_of_regs {s t : State} (h : t.regs = s.regs) (l : List Nat) : s.RegsBut t l := fun k _ => State.reg_congr h k

theorem State.RegsBut.fld {s t : State} {l : List Nat} (h : s.RegsBut t l) {f : Fld} (hf : f.key ∉ l) : t.fld f = s.fld f := by
  simp [State.fld, h f.key hf]

theorem State.RegsBut.flag {s t : State} {l : List Nat} (h : s.RegsBut t l) {f : Fld} (hf : f.key ∉ l) : t.flag f = s.flag f := by
  simp [State.flag, h f.key hf]

theorem State.memSame_of_mem {s t : State} (h : t.mem = s.mem) : s.MemSame t := fun a => State.readByte_congr h a

theorem State.demand_ok {s : State} {b : Bool} {x : State} (h : b = true) : s.demand b x = .next x := by simp [State.demand, h]

theorem State.demand_not {s : State} {b : Bool} {x : State} (h : b = false) : s.demand b x = .next s := by simp [State.demand, h]

/-- A pulse output's update changes nothing but the output's level and the wire. -/
theorem State.ppsUpdate_time (s : State) (n : Nat) : (s.ppsUpdate n).time = { s.time with ppsOut := (s.ppsUpdate n).time.ppsOut } := by
  unfold State.ppsUpdate; split <;> rfl

theorem State.ppsEach_time (l : List Nat) : ∀ s : State,
    (forEach l (fun n s => s.ppsUpdate n) s).time = { s.time with ppsOut := (forEach l (fun n s => s.ppsUpdate n) s).time.ppsOut } := by
  induction l with
  | nil => intro s; rfl
  | cons n r ih => intro s; rw [forEach, ih, s.ppsUpdate_time n]

/-- The pulse outputs follow the time: nothing else of the time changes. -/
theorem State.ppsAll_time (s : State) : s.ppsAll.time = { s.time with ppsOut := s.ppsAll.time.ppsOut } := by
  have h : s.ppsAll.time = (forEach (List.range 4) (fun n s => s.ppsUpdate n) s).time := rfl
  rw [h]; exact State.ppsEach_time _ s

theorem State.ppsAll_only (s : State) : s.Only s.ppsAll [.time, .out] := s.only_confine _ _

/-- Where no step of network time happens, only the pulse outputs follow. -/
theorem State.settleTime_plain (s : State) (h : s.time.stepped = false) : s.settleTime = s.ppsAll := by
  have e : s.ppsAll.afterStep = s.ppsAll := by
    unfold State.afterStep
    rw [if_neg (by rw [State.ppsAll_time]; simp [h])]
  unfold State.settleTime
  rw [e]
  exact s.ppsAll_only.mono _ rfl

end Sys2Proof.Machine
end

