-- ==== Sys2Proof/Laws/Exec.lean ====
section
/-!
SUPPORT. What each command answers on its occasion with operands that the device has: one lemma per command, which claims cite
instead of unfolding the dispatch.
-/

namespace Sys2Proof.Machine

variable (s : State)

theorem exec_registerWrite (addr : Nat) (mask : Word) (value : Word) (hw : Instr.wf (.registerWrite addr mask value)) :
    exec (.registerWrite addr mask value) s = .next (s.confine [.regs, .cnts, .heldLo, .held, .fresh, .bufLog, .nmLog, .data,
    .ports, .time, .mgt, .edge, .nm, .wvr, .ldg, .twin, .key, .saf, .out] (s.registerWrite addr mask value)) := by
  exact State.demand_ok hw

theorem exec_snapshotLoRead (addr : Nat) (hw : Instr.wf (.snapshotLoRead addr)) (hg : s.busRuns addr) :
    exec (.snapshotLoRead addr) s = .next (s.confine [.caps, .busData] (s.readLo addr)) := by
  exact (State.demand_ok hw).trans (by rw [State.doIf_of s _ hg])

theorem exec_snapshotLoWrite (addr : Nat) (value : Word) (hw : Instr.wf (.snapshotLoWrite addr value)) (hg : s.busRuns addr) :
    exec (.snapshotLoWrite addr value) s = .next (s.confine [.regs, .cnts, .heldLo, .held, .fresh, .bufLog, .nmLog, .data,
    .ports, .time, .mgt, .edge, .nm, .wvr, .ldg, .twin, .key, .saf, .out] (s.settled (fun s => s.busWrite addr 0xFFFFFFFF
    value))) := by
  exact (State.demand_ok hw).trans (by rw [State.doIf_of s _ hg])

theorem exec_snapshotHiWrite (addr : Nat) (value : Word) (hw : Instr.wf (.snapshotHiWrite addr value)) (hg : s.busRuns addr) :
    exec (.snapshotHiWrite addr value) s = .next (s.confine [.regs, .cnts, .heldLo, .held, .fresh, .bufLog, .nmLog, .data,
    .ports, .time, .mgt, .edge, .nm, .wvr, .ldg, .twin, .key, .saf, .out] (s.settled (fun s => s.busWrite addr 0xFFFFFFFF
    value))) := by
  exact (State.demand_ok hw).trans (by rw [State.doIf_of s _ hg])

theorem exec_heldRegisterWrite (addr : Nat) (mask : Word) (value : Word) (hw : Instr.wf (.heldRegisterWrite addr mask value))
    (hg : s.busRuns addr) :
    exec (.heldRegisterWrite addr mask value) s = .next (s.confine [.regs, .cnts, .heldLo, .held, .fresh, .bufLog, .nmLog,
    .data, .ports, .time, .mgt, .edge, .nm, .wvr, .ldg, .twin, .key, .saf, .out] (s.settled (fun s => s.busWrite addr mask
    value))) := by
  exact (State.demand_ok hw).trans (by rw [State.doIf_of s _ hg])

theorem exec_powerUpAon :
    exec .powerUpAon s = .next (s.confine [.regs, .cnts, .caps, .heldLo, .held, .aon, .fresh, .cycle, .mem, .bufLog, .nmLog,
    .safLog, .data, .ports, .time, .mgt, .edge, .nm, .wvr, .ldg, .twin, .key, .saf, .boot, .out] (s.aonReset)) := by
  rfl

theorem exec_porstAssert :
    exec .porstAssert s = .next (s.confine [.regs, .cnts, .caps, .heldLo, .held, .fresh, .cycle, .mem, .bufLog, .nmLog,
    .safLog, .data, .ports, .time, .mgt, .edge, .nm, .wvr, .ldg, .twin, .key, .saf, .boot, .out] (s.porst)) := by
  rfl

theorem exec_supplyMonitorTrip (rail : Nat) (below : Bool) (hw : Instr.wf (.supplyMonitorTrip rail below)) :
    exec (.supplyMonitorTrip rail below) s = .next (s.confine [.regs, .cnts, .caps, .heldLo, .held, .fresh, .cycle, .mem,
    .bufLog, .nmLog, .safLog, .data, .ports, .time, .mgt, .edge, .nm, .wvr, .ldg, .twin, .key, .saf, .boot, .out]
    (s.supplyTrip rail below)) := by
  exact State.demand_ok hw

theorem exec_coldStart (env : StartEnv) (hw : Instr.wf (.coldStart env)) :
    exec (.coldStart env) s = .next (s.confine [.regs, .cnts, .caps, .heldLo, .held, .fresh, .cycle, .mem, .bufLog, .nmLog,
    .safLog, .data, .ports, .time, .mgt, .edge, .nm, .wvr, .ldg, .twin, .key, .saf, .boot, .out] (s.coldStart env)) := by
  exact State.demand_ok hw

theorem exec_supervisorHoldTimeout (us : Nat) :
    exec (.supervisorHoldTimeout us) s = .next (s.confine [.regs, .cnts, .bufLog, .data, .ports, .mgt, .edge, .wvr, .ldg,
    .twin, .key, .boot, .out] (s.holdTimeout us)) := by
  rfl

theorem exec_retainedCopyDone :
    exec .retainedCopyDone s = .next (s.confine [.regs, .boot] (s.copyDone)) := by
  rfl

theorem exec_frameReceive (port : Nat) (kind : MPacket) (bytes : List Byte) (fin : RxEnd) (hw : Instr.wf (.frameReceive port
    kind bytes fin)) (hg : s.powered && s.flag (F.MAC_STATUS_LINK_UP port)) :
    exec (.frameReceive port kind bytes fin) s = .next (s.confine [.regs, .cnts, .fresh, .bufLog, .nmLog, .data, .ports,
    .mgt, .edge, .nm, .twin, .key, .saf, .out] (s.frameIn port kind bytes fin)) := by
  exact (State.demand_ok hw).trans (by rw [State.doIf_of s _ hg])

theorem exec_pipelinePass (hg : s.running) :
    exec .pipelinePass s = .next (s.confine [.regs, .cnts, .bufLog, .data, .ports, .mgt, .wvr, .twin, .key] (s.passNext)) :=
    by
  show Host.Outcome.next (s.confine [.regs, .cnts, .bufLog, .data, .ports, .mgt, .wvr, .twin, .key] (s.doIf _ _)) = _
  rw [State.doIf_of s _ hg]

theorem exec_secondPass (hg : s.running) :
    exec .secondPass s = .next (s.confine [.regs, .cnts, .bufLog, .data, .ports, .mgt, .wvr, .twin, .key] (s.secondNext)) :=
    by
  show Host.Outcome.next (s.confine [.regs, .cnts, .bufLog, .data, .ports, .mgt, .wvr, .twin, .key] (s.doIf _ _)) = _
  rw [State.doIf_of s _ hg]

theorem exec_frameEndWritten (port : Nat) (hw : Instr.wf (.frameEndWritten port)) (hg : s.running) :
    exec (.frameEndWritten port) s = .next (s.confine [.regs, .cnts, .bufLog, .data, .ports, .mgt, .wvr, .key] (s.endNext
    port)) := by
  exact (State.demand_ok hw).trans (by rw [State.doIf_of s _ hg])

theorem exec_learn (hg : s.running) :
    exec .learn s = .next (s.confine [.cnts, .data] (s.learnNext)) := by
  show Host.Outcome.next (s.confine [.cnts, .data] (s.doIf _ _)) = _
  rw [State.doIf_of s _ hg]

theorem exec_ageingPass (hg : s.running) :
    exec .ageingPass s = .next (s.confine [.data] (s.agePass)) := by
  show Host.Outcome.next (s.confine [.data] (s.doIf _ _)) = _
  rw [State.doIf_of s _ hg]

theorem exec_linkChange (port : Nat) (phyUp : Bool) (lock : Bool) (usx : UsxReport) (hw : Instr.wf (.linkChange port phyUp
    lock usx)) (hg : s.powered) :
    exec (.linkChange port phyUp lock usx) s = .next (s.confine [.regs, .cnts, .fresh, .bufLog, .data, .ports, .mgt, .key]
    (s.linkInputs port phyUp lock usx.up usx.speed)) := by
  exact (State.demand_ok hw).trans (by rw [State.doIf_of s _ hg])

theorem exec_egressSelection (port : Nat) (mac : MacSel) (sent : Nat) (err : BufErr) (hw : Instr.wf (.egressSelection port
    mac sent err)) (hg : s.running) :
    exec (.egressSelection port mac sent err) s = .next (s.confine [.regs, .cnts, .fresh, .bufLog, .safLog, .data, .ports,
    .time, .mgt, .twin, .key] (s.select port mac sent err)) := by
  exact (State.demand_ok hw).trans (by rw [State.doIf_of s _ hg])

theorem exec_transmitEnd (port : Nat) (mac : MacSel) (err : BufErr) (hw : Instr.wf (.transmitEnd port mac err)) (hg :
    s.powered) :
    exec (.transmitEnd port mac err) s = .next (s.confine [.regs, .cnts, .fresh, .bufLog, .safLog, .data, .ports, .time,
    .mgt, .twin, .key, .out] (s.transmitEnd port mac err)) := by
  exact (State.demand_ok hw).trans (by rw [State.doIf_of s _ hg])

theorem exec_queueAgeSweep (hg : s.running) :
    exec .queueAgeSweep s = .next (s.confine [.regs, .cnts, .bufLog, .data, .mgt, .key] (s.ageSweep)) := by
  show Host.Outcome.next (s.confine [.regs, .cnts, .bufLog, .data, .mgt, .key] (s.doIf _ _)) = _
  rw [State.doIf_of s _ hg]

theorem exec_quarantineEnd (queue : Nat) (hw : Instr.wf (.quarantineEnd queue)) (hg : s.running) :
    exec (.quarantineEnd queue) s = .next (s.confine [.regs, .cnts, .bufLog, .data, .mgt, .key] (s.reclaim queue)) := by
  exact (State.demand_ok hw).trans (by rw [State.doIf_of s _ hg])

theorem exec_bufferAudit (dirty : List Nat) (hw : Instr.wf (.bufferAudit dirty)) (hg : s.running) :
    exec (.bufferAudit dirty) s = .next (s.confine [.regs, .cnts, .bufLog, .data, .mgt, .key] (s.bufferAudit dirty)) := by
  exact (State.demand_ok hw).trans (by rw [State.doIf_of s _ hg])

theorem exec_auditEnd (hg : s.running) :
    exec .auditEnd s = .next (s.confine [.regs, .cnts, .fresh, .safLog, .data, .ports, .mgt, .edge, .twin, .key, .saf, .out]
    (s.auditEnd)) := by
  show Host.Outcome.next (s.confine [.regs, .cnts, .fresh, .safLog, .data, .ports, .mgt, .edge, .twin, .key, .saf, .out]
    (s.doIf _ _)) = _
  rw [State.doIf_of s _ hg]

theorem exec_verifySend (port : Nat) (hw : Instr.wf (.verifySend port)) (hg : s.drives) :
    exec (.verifySend port) s = .next (s.confine [.regs, .cnts, .ports, .out] (s.verifyTick port)) := by
  exact (State.demand_ok hw).trans (by rw [State.doIf_of s _ hg])

theorem exec_verifyReceive (port : Nat) (hw : Instr.wf (.verifyReceive port)) (hg : s.drives) :
    exec (.verifyReceive port) s = .next (s.confine [.cnts, .out] (s.verifyIn port)) := by
  exact (State.demand_ok hw).trans (by rw [State.doIf_of s _ hg])

theorem exec_respondReceive (port : Nat) (hw : Instr.wf (.respondReceive port)) (hg : s.drives) :
    exec (.respondReceive port) s = .next (s.confine [.regs] (s.respondIn port)) := by
  exact (State.demand_ok hw).trans (by rw [State.doIf_of s _ hg])

theorem exec_mergeCfgApply (port : Nat) (hw : Instr.wf (.mergeCfgApply port)) (hg : s.powered) :
    exec (.mergeCfgApply port) s = .next (s.confine [.regs, .ports] (s.applyMerge port)) := by
  exact (State.demand_ok hw).trans (by rw [State.doIf_of s _ hg])

theorem exec_macCfgWrite (port : Nat) (mask : Word) (value : Word) (hw : Instr.wf (.macCfgWrite port mask value)) (hg :
    s.busRuns (K.MAC_CFG port)) :
    exec (.macCfgWrite port mask value) s = .next (s.confine [.regs, .cnts, .fresh, .bufLog, .data, .ports, .mgt, .key]
    (s.writeMacCfg port mask value)) := by
  exact (State.demand_ok hw).trans (by rw [State.doIf_of s _ hg])

theorem exec_macFrameWrite (port : Nat) (mask : Word) (value : Word) (hw : Instr.wf (.macFrameWrite port mask value)) (hg :
    s.busRuns (K.MAC_FRAME port)) :
    exec (.macFrameWrite port mask value) s = .next (s.confine [.regs, .cnts, .mgt, .key] (s.writeMacFrame port mask value))
    := by
  exact (State.demand_ok hw).trans (by rw [State.doIf_of s _ hg])

theorem exec_clear (addr : Nat) (hw : Instr.wf (.clear addr)) (hg : s.busRuns addr) :
    exec (.clear addr) s = .next (s.confine [.cnts] (s.clearAt addr)) := by
  exact (State.demand_ok hw).trans (by rw [State.doIf_of s _ hg])

theorem exec_mdioAccess (master : Nat) (value : Word) (hw : Instr.wf (.mdioAccess master value)) (hg : s.busRuns (K.MDIO_CMD
    master)) :
    exec (.mdioAccess master value) s = .next (s.confine [.regs, .ports] (s.mdioCommand master value)) := by
  exact (State.demand_ok hw).trans (by rw [State.doIf_of s _ hg])

theorem exec_mdioAccessDone (master : Nat) (answer : Option Nat) (hw : Instr.wf (.mdioAccessDone master answer)) (hg :
    s.drives) :
    exec (.mdioAccessDone master answer) s = .next (s.confine [.regs, .cnts, .fresh, .bufLog, .data, .ports, .mgt, .key,
    .out] (s.mdioEnd master answer)) := by
  exact (State.demand_ok hw).trans (by rw [State.doIf_of s _ hg])

theorem exec_mdioPoll (master : Nat) (hw : Instr.wf (.mdioPoll master)) (hg : s.drives) :
    exec (.mdioPoll master) s = .next (s.confine [.ports] (s.mdioPollAll master)) := by
  exact (State.demand_ok hw).trans (by rw [State.doIf_of s _ hg])

theorem exec_mdioInterruptPoll (port : Nat) (hw : Instr.wf (.mdioInterruptPoll port)) (hg : s.drives) :
    exec (.mdioInterruptPoll port) s = .next (s.confine [.ports] (s.mdioPollPort port)) := by
  exact (State.demand_ok hw).trans (by rw [State.doIf_of s _ hg])

theorem exec_mdioCfgWrite (master : Nat) (mask : Word) (value : Word) (hw : Instr.wf (.mdioCfgWrite master mask value)) (hg :
    s.busRuns (K.MDIO_CFG master)) :
    exec (.mdioCfgWrite master mask value) s = .next (s.confine [.regs, .ports] (s.writeMdioCfg master mask value)) := by
  exact (State.demand_ok hw).trans (by rw [State.doIf_of s _ hg])

theorem exec_fdbLookup (hg : s.mcRuns) :
    exec .fdbLookup s = .next (s.confine [.regs, .data] (s.fdbCommand State.fdbLookupOp)) := by
  show Host.Outcome.next (s.confine [.regs, .data] (s.doIf _ _)) = _
  rw [State.doIf_of s _ hg]

theorem exec_fdbWrite (hg : s.mcRuns) :
    exec .fdbWrite s = .next (s.confine [.regs, .data] (s.fdbCommand State.fdbWriteOp)) := by
  show Host.Outcome.next (s.confine [.regs, .data] (s.doIf _ _)) = _
  rw [State.doIf_of s _ hg]

theorem exec_fdbDelete (hg : s.mcRuns) :
    exec .fdbDelete s = .next (s.confine [.regs, .data] (s.fdbCommand State.fdbRemoveOp)) := by
  show Host.Outcome.next (s.confine [.regs, .data] (s.doIf _ _)) = _
  rw [State.doIf_of s _ hg]

theorem exec_fdbReadIndex (index : Nat) (hw : Instr.wf (.fdbReadIndex index)) (hg : s.mcRuns) :
    exec (.fdbReadIndex index) s = .next (s.confine [.regs, .data] (s.fdbCommand (fun s => s.fdbReadOp index))) := by
  exact (State.demand_ok hw).trans (by rw [State.doIf_of s _ hg])

theorem exec_flushPort (hg : s.mcRuns) :
    exec .flushPort s = .next (s.confine [.regs, .data] (s.fdbCommand State.fdbFlushPort)) := by
  show Host.Outcome.next (s.confine [.regs, .data] (s.doIf _ _)) = _
  rw [State.doIf_of s _ hg]

theorem exec_flushDynamic (hg : s.mcRuns) :
    exec .flushDynamic s = .next (s.confine [.regs, .data] (s.fdbCommand State.fdbFlushDynamic)) := by
  show Host.Outcome.next (s.confine [.regs, .data] (s.doIf _ _)) = _
  rw [State.doIf_of s _ hg]

theorem exec_fdbOperationDone (hg : s.powered) :
    exec .fdbOperationDone s = .next (s.confine [.regs, .data] (s.fdbDone)) := by
  show Host.Outcome.next (s.confine [.regs, .data] (s.doIf _ _)) = _
  rw [State.doIf_of s _ hg]

theorem exec_vlanEntryCommit (mask : Word) (value : Word) (hg : s.mcRuns) :
    exec (.vlanEntryCommit mask value) s = .next (s.confine [.regs, .held] (s.commitVlan (s.winIndex (K.VLAN_WIN_DATA0 0))
    mask value)) := by
  show Host.Outcome.next (s.confine [.regs, .held] (s.doIf _ _)) = _
  rw [State.doIf_of s _ hg]

theorem exec_mcgEntryCommit (mask : Word) (value : Word) (hg : s.mcRuns) :
    exec (.mcgEntryCommit mask value) s = .next (s.confine [.regs, .held] (s.commitMcg (s.winIndex (K.MCG_WIN_DATA0 0)) mask
    value)) := by
  show Host.Outcome.next (s.confine [.regs, .held] (s.doIf _ _)) = _
  rw [State.doIf_of s _ hg]

theorem exec_clsWinEntryWrite (addr : Nat) (mask : Word) (value : Word) (hw : Instr.wf (.clsWinEntryWrite addr mask value))
    (hg : s.mcRuns) :
    exec (.clsWinEntryWrite addr mask value) s = .next (s.confine [.regs, .cnts, .data, .mgt, .key] (s.writeTcam addr mask
    value)) := by
  exact (State.demand_ok hw).trans (by rw [State.doIf_of s _ hg])

theorem exec_clsWinCtrlWrite (mask : Word) (value : Word) (hg : s.mcRuns) :
    exec (.clsWinCtrlWrite mask value) s = .next (s.confine [.regs, .cnts, .data, .mgt, .key] (s.clsWriteCtrl mask value)) :=
    by
  show Host.Outcome.next (s.confine [.regs, .cnts, .data, .mgt, .key] (s.doIf _ _)) = _
  rw [State.doIf_of s _ hg]

theorem exec_swap (gen : Nat) (hw : Instr.wf (.swap gen)) (hg : s.mcRuns) :
    exec (.swap gen) s = .next (s.confine [.regs, .data, .mgt, .key] (s.requestSwap gen)) := by
  exact (State.demand_ok hw).trans (by rw [State.doIf_of s _ hg])

theorem exec_swapTakeEffect (hg : s.powered) :
    exec .swapTakeEffect s = .next (s.confine [.regs, .cnts, .data, .mgt, .key] (s.swapEffect)) := by
  show Host.Outcome.next (s.confine [.regs, .cnts, .data, .mgt, .key] (s.doIf _ _)) = _
  rw [State.doIf_of s _ hg]

theorem exec_retirementEnd (hg : s.powered) :
    exec .retirementEnd s = .next (s.confine [.regs, .cnts, .mgt, .key] (s.endRetirement)) := by
  show Host.Outcome.next (s.confine [.regs, .cnts, .mgt, .key] (s.doIf _ _)) = _
  rw [State.doIf_of s _ hg]

theorem exec_tokenTick (hg : s.linked) :
    exec .tokenTick s = .next (s.confine [.regs, .held, .data] (s.tick)) := by
  show Host.Outcome.next (s.confine [.regs, .held, .data] (s.doIf _ _)) = _
  rw [State.doIf_of s _ hg]

theorem exec_shaperCommit (hg : s.mcRuns && s.winHere 0x100018) :
    exec .shaperCommit s = .next (s.confine [.regs] (s.commitShaper (s.winIndex 0x100018))) := by
  show Host.Outcome.next (s.confine [.regs] (s.doIf _ _)) = _
  rw [State.doIf_of s _ hg]

theorem exec_meterCommit (hg : s.mcRuns) :
    exec .meterCommit s = .next (s.confine [.regs] (s.commitMeter (s.winIndex 0x100218))) := by
  show Host.Outcome.next (s.confine [.regs] (s.doIf _ _)) = _
  rw [State.doIf_of s _ hg]

theorem exec_zonePolicerCommit (hg : s.mcRuns) :
    exec .zonePolicerCommit s = .next (s.confine [.regs] (s.commitPolicer (s.winIndex 0x20080C))) := by
  show Host.Outcome.next (s.confine [.regs] (s.doIf _ _)) = _
  rw [State.doIf_of s _ hg]

theorem exec_frerReset (hg : s.mcRuns) :
    exec .frerReset s = .next (s.confine [.regs] (s.takeAny (s.winIndex 0x10030C))) := by
  show Host.Outcome.next (s.confine [.regs] (s.doIf _ _)) = _
  rw [State.doIf_of s _ hg]

theorem exec_frerResetTimer (fn : Nat) (hw : Instr.wf (.frerResetTimer fn)) (hg : s.linked) :
    exec (.frerResetTimer fn) s = .next (s.confine [.regs, .cnts] (s.frerTimerEnd fn)) := by
  exact (State.demand_ok hw).trans (by rw [State.doIf_of s _ hg])

theorem exec_configChange (hg : s.mcRuns && s.winHere 0x100104) :
    exec .configChange s = .next (s.confine [.regs] (s.gateChange (s.winIndex 0x100104))) := by
  show Host.Outcome.next (s.confine [.regs] (s.doIf _ _)) = _
  rw [State.doIf_of s _ hg]

theorem exec_cancel (hg : s.mcRuns && s.winHere 0x100104) :
    exec .cancel s = .next (s.confine [.regs] (s.gateCancel (s.winIndex 0x100104))) := by
  show Host.Outcome.next (s.confine [.regs] (s.doIf _ _)) = _
  rw [State.doIf_of s _ hg]

theorem exec_gateChangeTime (port : Nat) (hw : Instr.wf (.gateChangeTime port)) (hg : s.linked) :
    exec (.gateChangeTime port) s = .next (s.confine [.regs, .cnts, .held] (s.gateSwitch port)) := by
  exact (State.demand_ok hw).trans (by rw [State.doIf_of s _ hg])

theorem exec_gateEntryTransition (port : Nat) (hw : Instr.wf (.gateEntryTransition port)) (hg : s.linked) :
    exec (.gateEntryTransition port) s = .next (s.confine [.regs, .held] (s.gateEnter port)) := by
  exact (State.demand_ok hw).trans (by rw [State.doIf_of s _ hg])

theorem exec_gateHoldRequest (port : Nat) (hw : Instr.wf (.gateHoldRequest port)) (hg : s.linked) :
    exec (.gateHoldRequest port) s = .next (s.confine [.regs, .held] (s.gateHold port)) := by
  exact (State.demand_ok hw).trans (by rw [State.doIf_of s _ hg])

theorem exec_timeNowCapture (hg : s.mcRuns) :
    exec .timeNowCapture s = .next (s.confine [.busData, .time] (s.captureNow)) := by
  show Host.Outcome.next (s.confine [.busData, .time] (s.doIf _ _)) = _
  rw [State.doIf_of s _ hg]

theorem exec_ppsInStampCapture (hg : s.mcRuns) :
    exec .ppsInStampCapture s = .next (s.confine [.busData, .time] (s.capturePps)) := by
  show Host.Outcome.next (s.confine [.busData, .time] (s.doIf _ _)) = _
  rw [State.doIf_of s _ hg]

theorem exec_sourceWrite (source : Nat) (hw : Instr.wf (.sourceWrite source)) (hg : s.mcRuns) :
    exec (.sourceWrite source) s = .next (s.confine [.regs, .cnts, .held, .nmLog, .data, .time, .mgt, .edge, .nm, .wvr,
    .twin, .key, .out] (s.settled (fun s => s.writeSource source))) := by
  exact (State.demand_ok hw).trans (by rw [State.doIf_of s _ hg])

theorem exec_stepTime (hg : s.mcRuns) :
    exec .stepTime s = .next (s.confine [.regs, .cnts, .held, .nmLog, .data, .time, .mgt, .edge, .nm, .wvr, .twin, .key,
    .out] (s.settled (fun s => s.commandStep))) := by
  show Host.Outcome.next (s.confine [.regs, .cnts, .held, .nmLog, .data, .time, .mgt, .edge, .nm, .wvr, .twin, .key, .out]
    (s.doIf _ _)) = _
  rw [State.doIf_of s _ hg]

theorem exec_acquire (hg : s.mcRuns) :
    exec .acquire s = .next (s.confine [.regs, .cnts, .held, .nmLog, .data, .time, .mgt, .edge, .nm, .wvr, .twin, .key, .out]
    (s.settled (fun s => s.commandAcquire))) := by
  show Host.Outcome.next (s.confine [.regs, .cnts, .held, .nmLog, .data, .time, .mgt, .edge, .nm, .wvr, .twin, .key, .out]
    (s.doIf _ _)) = _
  rw [State.doIf_of s _ hg]

theorem exec_syncReceive (hg : s.running) :
    exec .syncReceive s = .next (s.confine [.regs, .cnts, .held, .nmLog, .data, .time, .mgt, .edge, .nm, .wvr, .twin, .key,
    .out] (s.settled (fun s => s.syncIn))) := by
  show Host.Outcome.next (s.confine [.regs, .cnts, .held, .nmLog, .data, .time, .mgt, .edge, .nm, .wvr, .twin, .key, .out]
    (s.doIf _ _)) = _
  rw [State.doIf_of s _ hg]

theorem exec_followUpReceive (hg : s.running) :
    exec .followUpReceive s = .next (s.confine [.regs, .cnts, .held, .nmLog, .data, .time, .mgt, .edge, .nm, .wvr, .twin,
    .key, .out] (s.settled (fun s => s.followIn))) := by
  show Host.Outcome.next (s.confine [.regs, .cnts, .held, .nmLog, .data, .time, .mgt, .edge, .nm, .wvr, .twin, .key, .out]
    (s.doIf _ _)) = _
  rw [State.doIf_of s _ hg]

theorem exec_followUpRelay (port : Nat) (hw : Instr.wf (.followUpRelay port)) (hg : s.running) :
    exec (.followUpRelay port) s = .next (s.confine [.cnts, .data, .ports, .time, .twin] (s.followRelay port)) := by
  exact (State.demand_ok hw).trans (by rw [State.doIf_of s _ hg])

theorem exec_followupMissing (hg : s.running) :
    exec .followupMissing s = .next (s.confine [.cnts, .time] (s.followMissing)) := by
  show Host.Outcome.next (s.confine [.cnts, .time] (s.doIf _ _)) = _
  rw [State.doIf_of s _ hg]

theorem exec_pdelayReqSend (port : Nat) (hw : Instr.wf (.pdelayReqSend port)) (hg : s.running) :
    exec (.pdelayReqSend port) s = .next (s.confine [.regs, .cnts, .data, .time, .twin] (s.pdelaySend port)) := by
  exact (State.demand_ok hw).trans (by rw [State.doIf_of s _ hg])

theorem exec_pdelayReqReceive (hg : s.running) :
    exec .pdelayReqReceive s = .next (s.confine [.regs, .cnts, .data, .time, .mgt, .twin] (s.pdelayAnswer)) := by
  show Host.Outcome.next (s.confine [.regs, .cnts, .data, .time, .mgt, .twin] (s.doIf _ _)) = _
  rw [State.doIf_of s _ hg]

theorem exec_pdelayRespReceive (hg : s.running) :
    exec .pdelayRespReceive s = .next (s.confine [.regs, .cnts, .time, .mgt] (s.pdelayResp)) := by
  show Host.Outcome.next (s.confine [.regs, .cnts, .time, .mgt] (s.doIf _ _)) = _
  rw [State.doIf_of s _ hg]

theorem exec_gmSyncSend (hg : s.running) :
    exec .gmSyncSend s = .next (s.confine [.cnts, .data, .time, .twin] (s.gmSync)) := by
  show Host.Outcome.next (s.confine [.cnts, .data, .time, .twin] (s.doIf _ _)) = _
  rw [State.doIf_of s _ hg]

theorem exec_syncMissed (hg : s.running) :
    exec .syncMissed s = .next (s.confine [.regs, .cnts, .mgt, .key] (s.missInterval)) := by
  show Host.Outcome.next (s.confine [.regs, .cnts, .mgt, .key] (s.doIf _ _)) = _
  rw [State.doIf_of s _ hg]

theorem exec_ppsInEdge (falling : Bool) (diff : Nat) (hg : s.powered) :
    exec (.ppsInEdge falling diff) s = .next (s.confine [.time] (s.ppsEdge falling diff)) := by
  show Host.Outcome.next (s.confine [.time] (s.doIf _ _)) = _
  rw [State.doIf_of s _ hg]

theorem exec_inputEpoch (levelsA : Nat) (levelsB : Nat) (hw : Instr.wf (.inputEpoch levelsA levelsB)) (hg : s.powered) :
    exec (.inputEpoch levelsA levelsB) s = .next (s.confine [.regs, .cnts, .held, .fresh, .nmLog, .data, .ports, .time, .mgt,
    .edge, .nm, .wvr, .twin, .key, .saf, .out] (if s.cycle % 64 = 0 then s.settled (fun s => s.inputEpoch levelsA levelsB)
    else s)) := by
  exact (State.demand_ok hw).trans (by rw [State.doIf_of s _ hg])

theorem exec_ppsOutEdge (output : Nat) (hw : Instr.wf (.ppsOutEdge output)) (hg : s.powered) :
    exec (.ppsOutEdge output) s = .next (s.confine [.time, .out] (s.ppsUpdate output)) := by
  exact (State.demand_ok hw).trans (by rw [State.doIf_of s _ hg])

theorem exec_canFrameReceive (channel : Nat) (msg : CanFrame) (ago : Nat) (hw : Instr.wf (.canFrameReceive channel msg ago))
    (hg : s.powered) :
    exec (.canFrameReceive channel msg ago) s = .next (s.confine [.regs, .cnts, .fresh, .nmLog, .data, .ports, .time, .mgt,
    .edge, .nm, .wvr, .twin, .key, .saf, .out] (s.canIn channel msg ago)) := by
  exact (State.demand_ok hw).trans (by rw [State.doIf_of s _ hg])

theorem exec_canArbitration (channel : Nat) (hw : Instr.wf (.canArbitration channel)) (hg : s.powered) :
    exec (.canArbitration channel) s = .next (s.confine [.regs, .cnts, .mgt, .edge, .key] (s.canArbitrate channel)) := by
  exact (State.demand_ok hw).trans (by rw [State.doIf_of s _ hg])

theorem exec_canTxComplete (channel : Nat) (hw : Instr.wf (.canTxComplete channel)) (hg : s.powered) :
    exec (.canTxComplete channel) s = .next (s.confine [.regs, .cnts, .mgt, .edge, .wvr, .key, .out] (s.canSent channel)) :=
    by
  exact (State.demand_ok hw).trans (by rw [State.doIf_of s _ hg])

theorem exec_canBusError (channel : Nat) (lec : Nat) (sending : Bool) (step : Nat) (hw : Instr.wf (.canBusError channel lec
    sending step)) (hg : s.powered) :
    exec (.canBusError channel lec sending step) s = .next (s.confine [.regs, .cnts, .mgt, .edge, .key, .out] (s.canError
    channel lec sending step)) := by
  exact (State.demand_ok hw).trans (by rw [State.doIf_of s _ hg])

theorem exec_busoffHoldEnd (channel : Nat) (hw : Instr.wf (.busoffHoldEnd channel)) (hg : s.powered) :
    exec (.busoffHoldEnd channel) s = .next (s.confine [.edge] (s.canHoldEnd channel)) := by
  exact (State.demand_ok hw).trans (by rw [State.doIf_of s _ hg])

theorem exec_recover (channel : Nat) (hw : Instr.wf (.recover channel)) (hg : s.busRuns (K.CAN_CTRL channel)) :
    exec (.recover channel) s = .next (s.confine [.regs, .edge] (s.canRecover channel)) := by
  exact (State.demand_ok hw).trans (by rw [State.doIf_of s _ hg])

theorem exec_canRecoveryDone (channel : Nat) (hw : Instr.wf (.canRecoveryDone channel)) (hg : s.powered) :
    exec (.canRecoveryDone channel) s = .next (s.confine [.regs, .cnts, .mgt, .edge, .key] (s.canRecovered channel)) := by
  exact (State.demand_ok hw).trans (by rw [State.doIf_of s _ hg])

theorem exec_canIsolate (channel : Nat) (receiving : Bool) (hw : Instr.wf (.canIsolate channel receiving)) (hg : s.powered) :
    exec (.canIsolate channel receiving) s = .next (s.confine [.regs, .cnts, .mgt, .edge, .key] (s.canIsolate channel
    receiving)) := by
  exact (State.demand_ok hw).trans (by rw [State.doIf_of s _ hg])

theorem exec_canIsolationEnd (channel : Nat) (hw : Instr.wf (.canIsolationEnd channel)) (hg : s.powered) :
    exec (.canIsolationEnd channel) s = .next (s.confine [.regs, .wvr] (s.withStandby channel (fun s => s.canRejoin
    channel))) := by
  exact (State.demand_ok hw).trans (by rw [State.doIf_of s _ hg])

theorem exec_linIsolate (channel : Nat) (hw : Instr.wf (.linIsolate channel)) (hg : s.powered) :
    exec (.linIsolate channel) s = .next (s.confine [.regs, .cnts, .mgt, .edge, .key] (s.linIsolate channel)) := by
  exact (State.demand_ok hw).trans (by rw [State.doIf_of s _ hg])

theorem exec_linIsolationEnd (channel : Nat) (hw : Instr.wf (.linIsolationEnd channel)) (hg : s.powered) :
    exec (.linIsolationEnd channel) s = .next (s.confine [.regs] (s.linRejoin channel)) := by
  exact (State.demand_ok hw).trans (by rw [State.doIf_of s _ hg])

theorem exec_linSlot (channel : Nat) (hw : Instr.wf (.linSlot channel)) (hg : s.powered) :
    exec (.linSlot channel) s = .next (s.confine [.regs, .cnts, .mgt, .edge, .wvr, .key, .out] (s.linSlot channel)) := by
  exact (State.demand_ok hw).trans (by rw [State.doIf_of s _ hg])

theorem exec_linHeaderReceive (channel : Nat) (ident : Nat) (seen : HeaderSeen) (hw : Instr.wf (.linHeaderReceive channel
    ident seen)) (hg : s.powered) :
    exec (.linHeaderReceive channel ident seen) s = .next (s.confine [.regs, .cnts, .mgt, .edge, .wvr, .key, .out]
    (s.linHeaderIn channel ident seen.good seen.ago)) := by
  exact (State.demand_ok hw).trans (by rw [State.doIf_of s _ hg])

theorem exec_linFrameReceive (channel : Nat) (bytes : List Byte) (fin : LinEnd) (ago : Nat) (hw : Instr.wf (.linFrameReceive
    channel bytes fin ago)) (hg : s.powered) :
    exec (.linFrameReceive channel bytes fin ago) s = .next (s.confine [.regs, .cnts, .nmLog, .data, .ports, .time, .mgt,
    .edge, .nm, .wvr, .twin, .key, .saf, .out] (s.linIn channel bytes fin ago)) := by
  exact (State.demand_ok hw).trans (by rw [State.doIf_of s _ hg])

theorem exec_linResponseTimeout (channel : Nat) (hw : Instr.wf (.linResponseTimeout channel)) (hg : s.powered) :
    exec (.linResponseTimeout channel) s = .next (s.confine [.regs, .cnts, .mgt, .edge, .wvr, .key, .out] (s.linTimeout
    channel)) := by
  exact (State.demand_ok hw).trans (by rw [State.doIf_of s _ hg])

theorem exec_switch (channel : Nat) (hw : Instr.wf (.switch channel)) (hg : s.busRuns (K.LIN_CTRL channel)) :
    exec (.switch channel) s = .next (s.confine [.regs, .edge] (s.linSwitch channel)) := by
  exact (State.demand_ok hw).trans (by rw [State.doIf_of s _ hg])

theorem exec_wake (channel : Nat) (hw : Instr.wf (.wake channel)) (hg : s.busRuns (K.LIN_CTRL channel)) :
    exec (.wake channel) s = .next (s.confine [.regs, .edge, .out] (s.linWake channel)) := by
  exact (State.demand_ok hw).trans (by rw [State.doIf_of s _ hg])

theorem exec_shadowClear (channel : Nat) (hw : Instr.wf (.shadowClear channel)) (hg : s.powered) :
    exec (.shadowClear channel) s = .next (s.confine [.regs, .cnts, .mgt, .edge, .key] (s.unshadow channel)) := by
  exact (State.demand_ok hw).trans (by rw [State.doIf_of s _ hg])

theorem exec_weaverUnit (hg : s.running) :
    exec .weaverUnit s = .next (s.confine [.regs, .cnts, .mgt, .edge, .wvr, .ldg, .twin, .key] (s.weaverUnit)) := by
  show Host.Outcome.next (s.confine [.regs, .cnts, .mgt, .edge, .wvr, .ldg, .twin, .key] (s.doIf _ _)) = _
  rw [State.doIf_of s _ hg]

theorem exec_pduTimeout (pdu : Nat) (hw : Instr.wf (.pduTimeout pdu)) (hg : s.running) :
    exec (.pduTimeout pdu) s = .next (s.confine [.regs, .cnts, .mgt, .wvr, .key] (s.pduTimeout pdu (s.pduStandby pdu))) := by
  exact (State.demand_ok hw).trans (by rw [State.doIf_of s _ hg])

theorem exec_cyclicSend (hg : s.running) :
    exec .cyclicSend s = .next (s.confine [.regs, .cnts, .mgt, .edge, .wvr, .key] (s.cyclicSend)) := by
  show Host.Outcome.next (s.confine [.regs, .cnts, .mgt, .edge, .wvr, .key] (s.doIf _ _)) = _
  rw [State.doIf_of s _ hg]

theorem exec_deferredSend (hg : s.running) :
    exec .deferredSend s = .next (s.confine [.regs, .cnts, .mgt, .edge, .wvr, .key] (s.deferredSend)) := by
  show Host.Outcome.next (s.confine [.regs, .cnts, .mgt, .edge, .wvr, .key] (s.doIf _ _)) = _
  rw [State.doIf_of s _ hg]

theorem exec_send (hg : s.mcRuns) :
    exec .send s = .next (s.confine [.regs, .cnts, .mgt, .edge, .wvr, .key] (s.sendCommand)) := by
  show Host.Outcome.next (s.confine [.regs, .cnts, .mgt, .edge, .wvr, .key] (s.doIf _ _)) = _
  rw [State.doIf_of s _ hg]

theorem exec_carrierFrameClose (carrier : Nat) (hw : Instr.wf (.carrierFrameClose carrier)) (hg : s.running) :
    exec (.carrierFrameClose carrier) s = .next (s.confine [.regs, .cnts, .mgt, .wvr, .key] (s.holdClose carrier)) := by
  exact (State.demand_ok hw).trans (by rw [State.doIf_of s _ hg])

theorem exec_wvrPduCommit (hg : s.mcRuns) :
    exec .wvrPduCommit s = .next (s.confine [.regs, .cnts, .held, .mgt, .wvr, .key] (s.commitPdu (s.winIndex 0x1C005C))) := by
  show Host.Outcome.next (s.confine [.regs, .cnts, .held, .mgt, .wvr, .key] (s.doIf _ _)) = _
  rw [State.doIf_of s _ hg]

theorem exec_wvrRouteCommit (value : Word) (hg : s.mcRuns) :
    exec (.wvrRouteCommit value) s = .next (s.confine [.regs, .cnts, .held, .mgt, .key] (s.commitRoute (s.winIndex 0x1C013C)
    value)) := by
  show Host.Outcome.next (s.confine [.regs, .cnts, .held, .mgt, .key] (s.doIf _ _)) = _
  rw [State.doIf_of s _ hg]

theorem exec_wvrCarrierCommit (value : Word) (hg : s.mcRuns) :
    exec (.wvrCarrierCommit value) s = .next (s.confine [.regs, .held] (s.commitCarrier (s.winIndex 0x1C0188) value)) := by
  show Host.Outcome.next (s.confine [.regs, .held] (s.doIf _ _)) = _
  rw [State.doIf_of s _ hg]

theorem exec_wvrImageWrite (word : Nat) (value : Word) (hw : Instr.wf (.wvrImageWrite word value)) (hg : s.mcRuns) :
    exec (.wvrImageWrite word value) s = .next (s.confine [.regs, .cnts, .mgt, .key] (s.writeImage (s.winIndex 0x1C0080) word
    value)) := by
  exact (State.demand_ok hw).trans (by rw [State.doIf_of s _ hg])

theorem exec_wvrPduStampCapture (hg : s.mcRuns) :
    exec .wvrPduStampCapture s = .next (s.confine [.busData, .wvr] (s.captureStamp (s.fld F.WVR_PDU_INDEX_INDEX))) := by
  show Host.Outcome.next (s.confine [.busData, .wvr] (s.doIf _ _)) = _
  rw [State.doIf_of s _ hg]

theorem exec_secSaCommit (port : Nat) (value : Word) (hw : Instr.wf (.secSaCommit port value)) (hg : s.mcRuns) :
    exec (.secSaCommit port value) s = .next (s.confine [.regs, .held, .ports] (s.commitSa port (s.winIndex (0x208024 + 0x400
    * port)) value)) := by
  exact (State.demand_ok hw).trans (by rw [State.doIf_of s _ hg])

theorem exec_txAnApply (port : Nat) (hw : Instr.wf (.txAnApply port)) (hg : s.powered) :
    exec (.txAnApply port) s = .next (s.confine [.regs, .ports] (s.applyTxAn port)) := by
  exact (State.demand_ok hw).trans (by rw [State.doIf_of s _ hg])

theorem exec_keyLoad (hg : s.mcRuns) :
    exec .keyLoad s = .next (s.confine [.regs, .cnts, .mgt, .key] (s.keyLoad)) := by
  show Host.Outcome.next (s.confine [.regs, .cnts, .mgt, .key] (s.doIf _ _)) = _
  rw [State.doIf_of s _ hg]

theorem exec_keyDerive (hg : s.mcRuns) :
    exec .keyDerive s = .next (s.confine [.regs, .cnts, .mgt, .key] (s.keyDerive)) := by
  show Host.Outcome.next (s.confine [.regs, .cnts, .mgt, .key] (s.doIf _ _)) = _
  rw [State.doIf_of s _ hg]

theorem exec_keyPromote (hg : s.mcRuns) :
    exec .keyPromote s = .next (s.confine [.regs, .cnts, .mgt, .key] (s.keyPromote)) := by
  show Host.Outcome.next (s.confine [.regs, .cnts, .mgt, .key] (s.doIf _ _)) = _
  rw [State.doIf_of s _ hg]

theorem exec_keyErase (hg : s.mcRuns) :
    exec .keyErase s = .next (s.confine [.regs, .cnts, .mgt, .key] (s.keyErase)) := by
  show Host.Outcome.next (s.confine [.regs, .cnts, .mgt, .key] (s.doIf _ _)) = _
  rw [State.doIf_of s _ hg]

theorem exec_keyOperationDone (hg : s.mcRuns) :
    exec .keyOperationDone s = .next (s.confine [.regs, .mgt, .key] (s.keyDone)) := by
  show Host.Outcome.next (s.confine [.regs, .mgt, .key] (s.doIf _ _)) = _
  rw [State.doIf_of s _ hg]

theorem exec_cmdKeyAdvance (hg : s.mcRuns) :
    exec .cmdKeyAdvance s = .next (s.confine [.regs, .mgt, .key] (s.cmdKeyAdvance)) := by
  show Host.Outcome.next (s.confine [.regs, .mgt, .key] (s.doIf _ _)) = _
  rw [State.doIf_of s _ hg]

theorem exec_attest (hg : s.mcRuns) :
    exec .attest s = .next (s.confine [.mgt, .key] (s.attest)) := by
  show Host.Outcome.next (s.confine [.mgt, .key] (s.doIf _ _)) = _
  rw [State.doIf_of s _ hg]

theorem exec_certRead (hg : s.mcRuns) :
    exec .certRead s = .next (s.confine [.regs, .mgt, .key] (s.certRead)) := by
  show Host.Outcome.next (s.confine [.regs, .mgt, .key] (s.doIf _ _)) = _
  rw [State.doIf_of s _ hg]

theorem exec_lcAdvance (adv : AdvanceEnv) (hw : Instr.wf (.lcAdvance adv)) (hg : s.mcRuns) :
    exec (.lcAdvance adv) s = .next (s.confine [.regs, .cnts, .caps, .heldLo, .held, .fresh, .cycle, .mem, .bufLog, .nmLog,
    .safLog, .data, .ports, .time, .mgt, .edge, .nm, .wvr, .ldg, .twin, .key, .saf, .boot, .out] (s.lcAdvance adv.env
    adv.lost)) := by
  exact (State.demand_ok hw).trans (by rw [State.doIf_of s _ hg])

theorem exec_signatureRelease (hg : s.mcRuns) :
    exec .signatureRelease s = .next (s.confine [.regs, .mgt, .ldg, .key] (s.signNext)) := by
  show Host.Outcome.next (s.confine [.regs, .mgt, .ldg, .key] (s.doIf _ _)) = _
  rw [State.doIf_of s _ hg]

theorem exec_signingKeyReady (sigKey : Nat) (hw : Instr.wf (.signingKeyReady sigKey)) (hg : s.mcRuns) :
    exec (.signingKeyReady sigKey) s = .next (s.confine [.regs] (s.keyReady sigKey)) := by
  exact (State.demand_ok hw).trans (by rw [State.doIf_of s _ hg])

theorem exec_lmsTreeReady (sigKey : Nat) (hw : Instr.wf (.lmsTreeReady sigKey)) (hg : s.mcRuns) :
    exec (.lmsTreeReady sigKey) s = .next (s.confine [.regs] (s.treeReady sigKey)) := by
  exact (State.demand_ok hw).trans (by rw [State.doIf_of s _ hg])

theorem exec_ledgerSample (hg : s.mcRuns) :
    exec .ledgerSample s = .next (s.confine [.regs, .time, .ldg, .key] (s.ldgSample)) := by
  show Host.Outcome.next (s.confine [.regs, .time, .ldg, .key] (s.doIf _ _)) = _
  rw [State.doIf_of s _ hg]

theorem exec_inputStale (input : Nat) (hw : Instr.wf (.inputStale input)) (hg : s.mcRuns) :
    exec (.inputStale input) s = .next (s.confine [.regs] (s.ldgInputStale input)) := by
  exact (State.demand_ok hw).trans (by rw [State.doIf_of s _ hg])

theorem exec_ledgerPersist (hg : s.mcRuns) :
    exec .ledgerPersist s = .next (s.confine [.ldg] (s.ldgPersist)) := by
  show Host.Outcome.next (s.confine [.ldg] (s.doIf _ _)) = _
  rw [State.doIf_of s _ hg]

theorem exec_periodRecord (hg : s.mcRuns) :
    exec .periodRecord s = .next (s.confine [.regs, .time, .ldg, .key] (s.ldgPeriod)) := by
  show Host.Outcome.next (s.confine [.regs, .time, .ldg, .key] (s.doIf _ _)) = _
  rw [State.doIf_of s _ hg]

theorem exec_ledgerSign (hg : s.mcRuns) :
    exec .ledgerSign s = .next (s.confine [.regs, .ldg, .key] (s.ldgSign)) := by
  show Host.Outcome.next (s.confine [.regs, .ldg, .key] (s.doIf _ _)) = _
  rw [State.doIf_of s _ hg]

theorem exec_ledgerRdIndexWrite (value : Word) (hg : s.mcRuns) :
    exec (.ledgerRdIndexWrite value) s = .next (s.confine [.regs] (s.writeLdgIndex 0xFFFFFFFF value)) := by
  show Host.Outcome.next (s.confine [.regs] (s.doIf _ _)) = _
  rw [State.doIf_of s _ hg]

theorem exec_groupIdle (group : Nat) (hw : Instr.wf (.groupIdle group)) (hg : s.running) :
    exec (.groupIdle group) s = .next (s.confine [.nm] (s.groupIdle group)) := by
  exact (State.demand_ok hw).trans (by rw [State.doIf_of s _ hg])

theorem exec_ringRoundStart (hg : s.running) :
    exec .ringRoundStart s = .next (s.confine [.regs, .cnts, .nmLog, .data, .mgt, .edge, .nm, .twin, .key] (s.roundStart)) :=
    by
  show Host.Outcome.next (s.confine [.regs, .cnts, .nmLog, .data, .mgt, .edge, .nm, .twin, .key] (s.doIf _ _)) = _
  rw [State.doIf_of s _ hg]

theorem exec_consentRspReceive (hg : s.running) :
    exec .consentRspReceive s = .next (s.confine [.regs, .cnts, .nmLog, .data, .mgt, .edge, .nm, .twin, .key, .out]
    (s.consentRsp)) := by
  show Host.Outcome.next (s.confine [.regs, .cnts, .nmLog, .data, .mgt, .edge, .nm, .twin, .key, .out] (s.doIf _ _)) = _
  rw [State.doIf_of s _ hg]

theorem exec_consentRspTimeout (hg : s.running) :
    exec .consentRspTimeout s = .next (s.confine [.regs, .cnts, .nmLog, .data, .mgt, .edge, .nm, .twin, .key]
    (s.consentTimeout)) := by
  show Host.Outcome.next (s.confine [.regs, .cnts, .nmLog, .data, .mgt, .edge, .nm, .twin, .key] (s.doIf _ _)) = _
  rw [State.doIf_of s _ hg]

theorem exec_forcedSleep (group : Nat) (hw : Instr.wf (.forcedSleep group)) (hg : s.running) :
    exec (.forcedSleep group) s = .next (s.confine [.regs, .cnts, .nmLog, .data, .mgt, .edge, .nm, .twin, .key]
    (s.forcedSleep group)) := by
  exact (State.demand_ok hw).trans (by rw [State.doIf_of s _ hg])

theorem exec_sleepEntry (hg : s.running) :
    exec .sleepEntry s = .next (s.confine [.regs, .cnts, .caps, .heldLo, .held, .fresh, .cycle, .mem, .bufLog, .nmLog,
    .safLog, .data, .ports, .time, .mgt, .edge, .nm, .wvr, .ldg, .twin, .key, .saf, .boot, .out] (s.sleepEntry)) := by
  show Host.Outcome.next (s.confine [.regs, .cnts, .caps, .heldLo, .held, .fresh, .cycle, .mem, .bufLog, .nmLog, .safLog,
    .data, .ports, .time, .mgt, .edge, .nm, .wvr, .ldg, .twin, .key, .saf, .boot, .out] (s.doIf _ _)) = _
  rw [State.doIf_of s _ hg]

theorem exec_wakeReqReceive (hg : s.running) :
    exec .wakeReqReceive s = .next (s.confine [.regs, .cnts, .nmLog, .data, .mgt, .edge, .nm, .twin, .key, .out] (s.wakeReq))
    := by
  show Host.Outcome.next (s.confine [.regs, .cnts, .nmLog, .data, .mgt, .edge, .nm, .twin, .key, .out] (s.doIf _ _)) = _
  rw [State.doIf_of s _ hg]

theorem exec_nmWake (groups : Nat) (hw : Instr.wf (.nmWake groups)) (hg : s.mcRuns) :
    exec (.nmWake groups) s = .next (s.confine [.regs, .cnts, .nmLog, .data, .mgt, .edge, .nm, .twin, .key, .out] (s.nmWake
    groups)) := by
  exact (State.demand_ok hw).trans (by rw [State.doIf_of s _ hg])

theorem exec_wakeInputFilterPass (input : Nat) (hw : Instr.wf (.wakeInputFilterPass input)) :
    exec (.wakeInputFilterPass input) s = .next (s.confine [.regs, .cnts, .nmLog, .data, .mgt, .edge, .nm, .twin, .key, .out]
    (s.filterPass input)) := by
  exact State.demand_ok hw

theorem exec_wakeInputStuck (input : Nat) (hw : Instr.wf (.wakeInputStuck input)) :
    exec (.wakeInputStuck input) s = .next (s.confine [.regs, .cnts, .nmLog, .mgt, .nm, .key] (s.inputStuck input)) := by
  exact State.demand_ok hw

theorem exec_wakeInputUnmask (input : Nat) (hw : Instr.wf (.wakeInputUnmask input)) :
    exec (.wakeInputUnmask input) s = .next (s.confine [.regs, .cnts, .nmLog, .mgt, .key] (s.inputUnmask input)) := by
  exact State.demand_ok hw

theorem exec_wakeOutPulseEnd :
    exec .wakeOutPulseEnd s = .next (s.confine [.nm, .out] (s.wakePulseEnd)) := by
  rfl

theorem exec_gust (env : StartEnv) (hw : Instr.wf (.gust env)) :
    exec (.gust env) s = .next (s.confine [.regs, .cnts, .caps, .heldLo, .held, .fresh, .cycle, .mem, .bufLog, .nmLog,
    .safLog, .data, .ports, .time, .mgt, .edge, .nm, .wvr, .ldg, .twin, .key, .saf, .boot, .out] (s.gust env)) := by
  exact State.demand_ok hw

theorem exec_groupWake (hg : s.running) :
    exec .groupWake s = .next (s.confine [.regs, .cnts, .nmLog, .mgt, .edge, .nm, .wvr, .key, .out] (s.groupWakeDue)) := by
  show Host.Outcome.next (s.confine [.regs, .cnts, .nmLog, .mgt, .edge, .nm, .wvr, .key, .out] (s.doIf _ _)) = _
  rw [State.doIf_of s _ hg]

theorem exec_fatalFault (code : Nat) (detail : Nat) (hw : Instr.wf (.fatalFault code detail)) (hg : s.powered) :
    exec (.fatalFault code detail) s = .next (s.confine [.regs, .cnts, .fresh, .data, .ports, .edge, .twin, .saf, .out]
    (s.fatalFault code detail)) := by
  exact (State.demand_ok hw).trans (by rw [State.doIf_of s _ hg])

theorem exec_pllRelock (hg : s.powered) :
    exec .pllRelock s = .next (s.confine [.regs, .edge, .saf, .out] (s.pllRelock)) := by
  show Host.Outcome.next (s.confine [.regs, .edge, .saf, .out] (s.doIf _ _)) = _
  rw [State.doIf_of s _ hg]

theorem exec_digestCompare (differ : Nat) (hw : Instr.wf (.digestCompare differ)) (hg : s.powered) :
    exec (.digestCompare differ) s = .next (s.confine [.regs, .cnts, .fresh, .safLog, .data, .ports, .mgt, .edge, .twin,
    .key, .saf, .out] (if s.cycle % 500000 = 0 then s.digestCompare differ else s)) := by
  exact (State.demand_ok hw).trans (by rw [State.doIf_of s _ hg])

theorem exec_scrubVisit (find : ScrubFind) (hw : Instr.wf (.scrubVisit find)) (hg : s.powered) :
    exec (.scrubVisit find) s = .next (s.confine [.regs, .cnts, .fresh, .bufLog, .safLog, .data, .ports, .mgt, .edge, .nm,
    .twin, .key, .saf, .boot, .out] (s.scrubVisit find)) := by
  exact (State.demand_ok hw).trans (by rw [State.doIf_of s _ hg])

theorem exec_temperatureWarning (tj : Nat) (hw : Instr.wf (.temperatureWarning tj)) (hg : s.powered) :
    exec (.temperatureWarning tj) s = .next (s.confine [.regs, .cnts, .safLog, .mgt, .key, .saf] (s.tjWarn tj)) := by
  exact (State.demand_ok hw).trans (by rw [State.doIf_of s _ hg])

theorem exec_leeSlot (stream : Nat) (hw : Instr.wf (.leeSlot stream)) (hg : s.powered) :
    exec (.leeSlot stream) s = .next (s.confine [.cnts, .saf, .out] (s.leeSlot stream)) := by
  exact (State.demand_ok hw).trans (by rw [State.doIf_of s _ hg])

theorem exec_leeFrameSend (entry : Nat) (hw : Instr.wf (.leeFrameSend entry)) (hg : s.powered) :
    exec (.leeFrameSend entry) s = .next (s.confine [.cnts, .edge, .saf] (s.leeFrameSend entry)) := by
  exact (State.demand_ok hw).trans (by rw [State.doIf_of s _ hg])

theorem exec_leeExitTimeout (env : StartEnv) (hw : Instr.wf (.leeExitTimeout env)) (hg : s.powered) :
    exec (.leeExitTimeout env) s = .next (s.confine [.regs, .cnts, .caps, .heldLo, .held, .fresh, .cycle, .mem, .bufLog,
    .nmLog, .safLog, .data, .ports, .time, .mgt, .edge, .nm, .wvr, .ldg, .twin, .key, .saf, .boot, .out] (s.leeExit env)) :=
    by
  exact (State.demand_ok hw).trans (by rw [State.doIf_of s _ hg])

theorem exec_faultInject (kind : Nat) (group : Nat) (hw : Instr.wf (.faultInject kind group)) (hg : s.mcRuns) :
    exec (.faultInject kind group) s = .next (s.confine [.regs, .cnts, .fresh, .data, .ports, .edge, .twin, .saf, .out]
    (s.faultInject kind group)) := by
  exact (State.demand_ok hw).trans (by rw [State.doIf_of s _ hg])

theorem exec_helloSend (hg : s.linked) :
    exec .helloSend s = .next (s.confine [.regs, .cnts, .data, .twin] (s.helloSend.relayJournal)) := by
  show Host.Outcome.next (s.confine [.regs, .cnts, .data, .twin] (s.doIf _ _)) = _
  rw [State.doIf_of s _ hg]

theorem exec_helloReceive (hg : s.linked) :
    exec .helloReceive s = .next (s.confine [.regs, .cnts, .bufLog, .data, .mgt, .edge, .twin, .key, .out] (s.helloReceive))
    := by
  show Host.Outcome.next (s.confine [.regs, .cnts, .bufLog, .data, .mgt, .edge, .twin, .key, .out] (s.doIf _ _)) = _
  rw [State.doIf_of s _ hg]

theorem exec_partnerLoss (hg : s.linked) :
    exec .partnerLoss s = .next (s.confine [.regs, .cnts, .bufLog, .data, .mgt, .twin, .key] (s.partnerGone)) := by
  show Host.Outcome.next (s.confine [.regs, .cnts, .bufLog, .data, .mgt, .twin, .key] (s.doIf _ _)) = _
  rw [State.doIf_of s _ hg]

theorem exec_holdInChange (hg : s.powered) :
    exec .holdInChange s = .next (s.confine [.regs, .cnts, .ports, .mgt, .edge, .twin, .key, .out] (s.holdInChange)) := by
  show Host.Outcome.next (s.confine [.regs, .cnts, .ports, .mgt, .edge, .twin, .key, .out] (s.doIf _ _)) = _
  rw [State.doIf_of s _ hg]

theorem exec_claimTimeout (hg : s.linked) :
    exec .claimTimeout s = .next (s.confine [.regs, .cnts, .ports, .mgt, .twin, .key, .out] (s.claimTimeout)) := by
  show Host.Outcome.next (s.confine [.regs, .cnts, .ports, .mgt, .twin, .key, .out] (s.doIf _ _)) = _
  rw [State.doIf_of s _ hg]

theorem exec_claimDeferEnd (hg : s.linked) :
    exec .claimDeferEnd s = .next (s.confine [.regs, .cnts, .ports, .mgt, .edge, .twin, .key, .out] (s.claimDeferEnd)) := by
  show Host.Outcome.next (s.confine [.regs, .cnts, .ports, .mgt, .edge, .twin, .key, .out] (s.doIf _ _)) = _
  rw [State.doIf_of s _ hg]

theorem exec_activeYield (hg : s.linked) :
    exec .activeYield s = .next (s.confine [.regs, .cnts, .mgt, .edge, .twin, .key, .out] (s.activeYield)) := by
  show Host.Outcome.next (s.confine [.regs, .cnts, .mgt, .edge, .twin, .key, .out] (s.doIf _ _)) = _
  rw [State.doIf_of s _ hg]

theorem exec_holdInMask (chatter : Bool) (hg : s.powered) :
    exec (.holdInMask chatter) s = .next (s.confine [.regs, .cnts, .ports, .mgt, .edge, .twin, .key, .out] (s.holdMask
    chatter)) := by
  show Host.Outcome.next (s.confine [.regs, .cnts, .ports, .mgt, .edge, .twin, .key, .out] (s.doIf _ _)) = _
  rw [State.doIf_of s _ hg]

theorem exec_holdInUnmask (hg : s.powered) :
    exec .holdInUnmask s = .next (s.confine [.regs, .cnts, .ports, .mgt, .edge, .twin, .key, .out] (s.holdUnmask)) := by
  show Host.Outcome.next (s.confine [.regs, .cnts, .ports, .mgt, .edge, .twin, .key, .out] (s.doIf _ _)) = _
  rw [State.doIf_of s _ hg]

theorem exec_claim (hg : s.mcRuns) :
    exec .claim s = .next (s.confine [.regs, .cnts, .ports, .mgt, .edge, .twin, .key, .out] (s.claim)) := by
  show Host.Outcome.next (s.confine [.regs, .cnts, .ports, .mgt, .edge, .twin, .key, .out] (s.doIf _ _)) = _
  rw [State.doIf_of s _ hg]

theorem exec_resync (hg : s.mcRuns) :
    exec .resync s = .next (s.confine [.regs, .twin] (s.resync)) := by
  show Host.Outcome.next (s.confine [.regs, .twin] (s.doIf _ _)) = _
  rw [State.doIf_of s _ hg]

theorem exec_rejoinRetry (hg : s.linked) :
    exec .rejoinRetry s = .next (s.confine [.twin] (s.rejoinRetry)) := by
  show Host.Outcome.next (s.confine [.twin] (s.doIf _ _)) = _
  rw [State.doIf_of s _ hg]

theorem exec_catchUpReceive (hg : s.linked) :
    exec .catchUpReceive s = .next (s.confine [.regs, .cnts, .mgt, .key] (s.catchUpReceive)) := by
  show Host.Outcome.next (s.confine [.regs, .cnts, .mgt, .key] (s.doIf _ _)) = _
  rw [State.doIf_of s _ hg]

theorem exec_syncSnapshot (hg : s.linked) :
    exec .syncSnapshot s = .next (s.confine [.cnts, .data, .twin] (s.syncSnapshot)) := by
  show Host.Outcome.next (s.confine [.cnts, .data, .twin] (s.doIf _ _)) = _
  rw [State.doIf_of s _ hg]

theorem exec_syncReceivePair (tSync : Option Nat) (items : List (Nat × Nat × Int)) (hg : s.linked) :
    exec (.syncReceivePair tSync items) s = .next (s.confine [.regs, .cnts, .data, .mgt, .edge, .wvr, .ldg, .twin, .key]
    (s.syncReceivePair tSync items)) := by
  show Host.Outcome.next (s.confine [.regs, .cnts, .data, .mgt, .edge, .wvr, .ldg, .twin, .key] (s.doIf _ _)) = _
  rw [State.doIf_of s _ hg]

theorem exec_journalReceive (hg : s.linked) :
    exec .journalReceive s = .next (s.confine [.regs, .cnts, .data, .mgt, .twin, .key] (s.journalReceive)) := by
  show Host.Outcome.next (s.confine [.regs, .cnts, .data, .mgt, .twin, .key] (s.doIf _ _)) = _
  rw [State.doIf_of s _ hg]

theorem exec_journalAckReceive (hg : s.linked) :
    exec .journalAckReceive s = .next (s.confine [.regs, .cnts, .data, .mgt, .twin, .key] (s.journalAck)) := by
  show Host.Outcome.next (s.confine [.regs, .cnts, .data, .mgt, .twin, .key] (s.doIf _ _)) = _
  rw [State.doIf_of s _ hg]

theorem exec_journalAckTimeout (hg : s.linked) :
    exec .journalAckTimeout s = .next (s.confine [.regs, .cnts, .data, .mgt, .twin, .key] (s.ackTimeout)) := by
  show Host.Outcome.next (s.confine [.regs, .cnts, .data, .mgt, .twin, .key] (s.doIf _ _)) = _
  rw [State.doIf_of s _ hg]

theorem exec_commitReceive (hg : s.linked) :
    exec .commitReceive s = .next (s.confine [.regs, .cnts, .mgt, .twin, .key] (s.commitReceive)) := by
  show Host.Outcome.next (s.confine [.regs, .cnts, .mgt, .twin, .key] (s.doIf _ _)) = _
  rw [State.doIf_of s _ hg]

theorem exec_commandApplyTime (hg : s.linked) :
    exec .commandApplyTime s = .next (s.confine [.mgt, .twin] (s.applyTime)) := by
  show Host.Outcome.next (s.confine [.mgt, .twin] (s.doIf _ _)) = _
  rw [State.doIf_of s _ hg]

theorem exec_sleepPairReceive (hg : s.linked) :
    exec .sleepPairReceive s = .next (s.confine [.regs, .cnts, .nmLog, .data, .mgt, .edge, .nm, .twin, .key, .out]
    (s.sleepPair)) := by
  show Host.Outcome.next (s.confine [.regs, .cnts, .nmLog, .data, .mgt, .edge, .nm, .twin, .key, .out] (s.doIf _ _)) = _
  rw [State.doIf_of s _ hg]

theorem exec_wakePairReceive (hg : s.linked) :
    exec .wakePairReceive s = .next (s.confine [.regs, .cnts, .nmLog, .data, .mgt, .edge, .nm, .twin, .key, .out]
    (s.wakePair)) := by
  show Host.Outcome.next (s.confine [.regs, .cnts, .nmLog, .data, .mgt, .edge, .nm, .twin, .key, .out] (s.doIf _ _)) = _
  rw [State.doIf_of s _ hg]

theorem exec_crossingFrameReceive (hg : s.running) :
    exec .crossingFrameReceive s = .next (s.confine [.regs, .cnts, .bufLog, .data, .ports, .mgt, .wvr, .twin, .key]
    (s.crossingReceive)) := by
  show Host.Outcome.next (s.confine [.regs, .cnts, .bufLog, .data, .ports, .mgt, .wvr, .twin, .key] (s.doIf _ _)) = _
  rw [State.doIf_of s _ hg]

theorem exec_creditSend (hg : s.running) :
    exec .creditSend s = .next (s.confine [.cnts, .data, .twin] (s.creditSend)) := by
  show Host.Outcome.next (s.confine [.cnts, .data, .twin] (s.doIf _ _)) = _
  rw [State.doIf_of s _ hg]

theorem exec_creditReceive (hg : s.running) :
    exec .creditReceive s = .next (s.confine [.cnts, .data, .mgt, .twin] (s.creditReceive)) := by
  show Host.Outcome.next (s.confine [.cnts, .data, .mgt, .twin] (s.doIf _ _)) = _
  rw [State.doIf_of s _ hg]

theorem exec_creditResetTimeout (voq : Nat) (hw : Instr.wf (.creditResetTimeout voq)) (hg : s.running) :
    exec (.creditResetTimeout voq) s = .next (s.confine [.cnts, .data, .twin] (s.creditTimeout voq)) := by
  exact (State.demand_ok hw).trans (by rw [State.doIf_of s _ hg])

theorem exec_bridgeReqReceive (write : Bool) (tag : Nat) (addr : Nat) (mask : Word) (value : Word) (hw : Instr.wf
    (.bridgeReqReceive write tag addr mask value)) (hg : s.mcRuns) :
    exec (.bridgeReqReceive write tag addr mask value) s = .next (s.confine [.regs, .cnts, .caps, .heldLo, .held, .busData,
    .fresh, .mem, .bufLog, .nmLog, .safLog, .data, .ports, .time, .mgt, .edge, .nm, .wvr, .ldg, .twin, .key, .saf, .out]
    (s.settled (fun s => s.bridgeReq write tag addr mask value))) := by
  exact (State.demand_ok hw).trans (by rw [State.doIf_of s _ hg])

theorem exec_bridgeRspReceive (tag : Nat) (isRead : Bool) (cause : Nat) (value : Word) (hw : Instr.wf (.bridgeRspReceive tag
    isRead cause value)) (hg : s.mcRuns) :
    exec (.bridgeRspReceive tag isRead cause value) s = .next (s.confine [.regs, .cnts, .caps, .heldLo, .held, .busData,
    .fresh, .mem, .bufLog, .nmLog, .safLog, .data, .ports, .time, .mgt, .edge, .nm, .wvr, .ldg, .twin, .key, .saf, .out]
    (s.settled (fun s => s.bridgeRsp tag isRead cause value))) := by
  exact (State.demand_ok hw).trans (by rw [State.doIf_of s _ hg])

theorem exec_bridgeRspTimeout (hg : s.mcRuns) :
    exec .bridgeRspTimeout s = .next (s.confine [.regs, .cnts, .caps, .heldLo, .held, .busData, .fresh, .mem, .bufLog,
    .nmLog, .safLog, .data, .ports, .time, .mgt, .edge, .nm, .wvr, .ldg, .twin, .key, .saf, .out] (s.settled (fun s =>
    s.bridgeTimeout))) := by
  show Host.Outcome.next (s.confine [.regs, .cnts, .caps, .heldLo, .held, .busData, .fresh, .mem, .bufLog, .nmLog, .safLog,
    .data, .ports, .time, .mgt, .edge, .nm, .wvr, .ldg, .twin, .key, .saf, .out] (s.doIf _ _)) = _
  rw [State.doIf_of s _ hg]

theorem exec_commandFrameReceive (err : BufErr) (hg : s.mcRuns) :
    exec (.commandFrameReceive err) s = .next (s.confine [.regs, .cnts, .bufLog, .safLog, .data, .mgt, .key] (s.commandFrame
    err)) := by
  show Host.Outcome.next (s.confine [.regs, .cnts, .bufLog, .safLog, .data, .mgt, .key] (s.doIf _ _)) = _
  rw [State.doIf_of s _ hg]

theorem exec_writeCommand (bytes : List Byte) (hg : s.mcRuns) :
    exec (.writeCommand bytes) s = .next (s.confine [.cnts, .mgt] (s.commandArrive .spi bytes)) := by
  show Host.Outcome.next (s.confine [.cnts, .mgt] (s.doIf _ _)) = _
  rw [State.doIf_of s _ hg]

theorem exec_readResponse (count : Nat) (hg : s.mcRuns) :
    exec (.readResponse count) s = .next (s.confine [.cnts, .mgt, .out] (s.spiResponse count)) := by
  show Host.Outcome.next (s.confine [.cnts, .mgt, .out] (s.doIf _ _)) = _
  rw [State.doIf_of s _ hg]

theorem exec_readStatus (hg : s.mcRuns) :
    exec .readStatus s = .next (s.confine [.out] (s.spiReadStatus)) := by
  show Host.Outcome.next (s.confine [.out] (s.doIf _ _)) = _
  rw [State.doIf_of s _ hg]

theorem exec_readEvent (count : Nat) (hg : s.mcRuns) :
    exec (.readEvent count) s = .next (s.confine [.cnts, .out] (s.spiEvent count)) := by
  show Host.Outcome.next (s.confine [.cnts, .out] (s.doIf _ _)) = _
  rw [State.doIf_of s _ hg]

theorem exec_commandAccept (hg : s.mcRuns) :
    exec .commandAccept s = .next (s.confine [.regs, .cnts, .data, .mgt, .twin, .key, .out] (s.commandAccept)) := by
  show Host.Outcome.next (s.confine [.regs, .cnts, .data, .mgt, .twin, .key, .out] (s.doIf _ _)) = _
  rw [State.doIf_of s _ hg]

theorem exec_restart (env : StartEnv) (hw : Instr.wf (.restart env)) (hg : s.mcRuns) :
    exec (.restart env) s = .next (s.confine [.regs, .cnts, .caps, .heldLo, .held, .fresh, .cycle, .mem, .bufLog, .nmLog,
    .safLog, .data, .ports, .time, .mgt, .edge, .nm, .wvr, .ldg, .twin, .key, .saf, .boot, .out] (s.restart env)) := by
  exact (State.demand_ok hw).trans (by rw [State.doIf_of s _ hg])

theorem exec_startForwarding (us : Nat) (hg : s.mcRuns) :
    exec (.startForwarding us) s = .next (s.confine [.regs, .cnts, .bufLog, .data, .ports, .mgt, .edge, .wvr, .ldg, .twin,
    .key, .boot, .out] (s.startForwarding us)) := by
  show Host.Outcome.next (s.confine [.regs, .cnts, .bufLog, .data, .ports, .mgt, .edge, .wvr, .ldg, .twin, .key, .boot, .out]
    (s.doIf _ _)) = _
  rw [State.doIf_of s _ hg]

theorem exec_imageErase (hg : s.mcRuns) :
    exec .imageErase s = .next (s.confine [.regs, .mgt, .key, .boot] (s.imageErase)) := by
  show Host.Outcome.next (s.confine [.regs, .mgt, .key, .boot] (s.doIf _ _)) = _
  rw [State.doIf_of s _ hg]

theorem exec_imageWrite (hg : s.mcRuns) :
    exec .imageWrite s = .next (s.confine [.regs, .mgt, .key, .boot] (s.imageWrite)) := by
  show Host.Outcome.next (s.confine [.regs, .mgt, .key, .boot] (s.doIf _ _)) = _
  rw [State.doIf_of s _ hg]

theorem exec_imageVerify (nvm : Bool) (hg : s.mcRuns) :
    exec (.imageVerify nvm) s = .next (s.confine [.regs, .mgt, .key] (s.imageVerify nvm)) := by
  show Host.Outcome.next (s.confine [.regs, .mgt, .key] (s.doIf _ _)) = _
  rw [State.doIf_of s _ hg]

theorem exec_imageActivate (env : StartEnv) (hw : Instr.wf (.imageActivate env)) (hg : s.mcRuns) :
    exec (.imageActivate env) s = .next (s.confine [.regs, .cnts, .heldLo, .held, .fresh, .bufLog, .nmLog, .data, .ports,
    .time, .mgt, .edge, .nm, .wvr, .ldg, .twin, .key, .saf, .boot, .out] (s.imageActivate env)) := by
  exact (State.demand_ok hw).trans (by rw [State.doIf_of s _ hg])

theorem exec_firmwareWrite (hg : s.mcRuns) :
    exec .firmwareWrite s = .next (s.confine [.regs, .mgt, .key, .boot] (s.firmwareWrite)) := by
  show Host.Outcome.next (s.confine [.regs, .mgt, .key, .boot] (s.doIf _ _)) = _
  rw [State.doIf_of s _ hg]

theorem exec_recordApply (hg : s.mcRuns) :
    exec .recordApply s = .next (s.confine [.regs, .cnts, .heldLo, .held, .fresh, .bufLog, .nmLog, .data, .ports, .time,
    .mgt, .edge, .nm, .wvr, .ldg, .twin, .key, .saf, .boot, .out] (s.settled (fun s => s.recordApply))) := by
  show Host.Outcome.next (s.confine [.regs, .cnts, .heldLo, .held, .fresh, .bufLog, .nmLog, .data, .ports, .time, .mgt,
    .edge, .nm, .wvr, .ldg, .twin, .key, .saf, .boot, .out] (s.doIf _ _)) = _
  rw [State.doIf_of s _ hg]

theorem exec_ledgerRead (hg : s.mcRuns) :
    exec .ledgerRead s = .next (s.confine [.regs, .mgt, .key] (s.ledgerRead)) := by
  show Host.Outcome.next (s.confine [.regs, .mgt, .key] (s.doIf _ _)) = _
  rw [State.doIf_of s _ hg]

theorem exec_ledgerSigRead (hg : s.mcRuns) :
    exec .ledgerSigRead s = .next (s.confine [.regs, .mgt, .key] (s.ledgerSigRead)) := by
  show Host.Outcome.next (s.confine [.regs, .mgt, .key] (s.doIf _ _)) = _
  rw [State.doIf_of s _ hg]

theorem exec_jrnRead (hg : s.mcRuns) :
    exec .jrnRead s = .next (s.confine [.regs, .mgt, .key] (s.jrnRead)) := by
  show Host.Outcome.next (s.confine [.regs, .mgt, .key] (s.doIf _ _)) = _
  rw [State.doIf_of s _ hg]

theorem exec_checkpoint (hg : s.mcRuns) :
    exec .checkpoint s = .next (s.confine [.regs, .mgt, .key] (s.checkpointCmd)) := by
  show Host.Outcome.next (s.confine [.regs, .mgt, .key] (s.doIf _ _)) = _
  rw [State.doIf_of s _ hg]

theorem exec_checkpointRead (hg : s.mcRuns) :
    exec .checkpointRead s = .next (s.confine [.regs, .mgt, .key] (s.checkpointRead)) := by
  show Host.Outcome.next (s.confine [.regs, .mgt, .key] (s.doIf _ _)) = _
  rw [State.doIf_of s _ hg]

theorem exec_frameSend (hg : s.mcRuns) :
    exec .frameSend s = .next (s.confine [.regs, .cnts, .mgt, .key] (s.frameSend)) := by
  show Host.Outcome.next (s.confine [.regs, .cnts, .mgt, .key] (s.doIf _ _)) = _
  rw [State.doIf_of s _ hg]

theorem exec_frameRead (hg : s.mcRuns) :
    exec .frameRead s = .next (s.confine [.regs, .cnts, .bufLog, .safLog, .data, .mgt, .key] (s.frameRead)) := by
  show Host.Outcome.next (s.confine [.regs, .cnts, .bufLog, .safLog, .data, .mgt, .key] (s.doIf _ _)) = _
  rw [State.doIf_of s _ hg]

theorem exec_eventAck (hg : s.mcRuns) :
    exec .eventAck s = .next (s.confine [.regs, .mgt, .key] (s.eventAck)) := by
  show Host.Outcome.next (s.confine [.regs, .mgt, .key] (s.doIf _ _)) = _
  rw [State.doIf_of s _ hg]

theorem exec_regRead (hg : s.mcRuns) :
    exec .regRead s = .next (s.confine [.regs, .cnts, .caps, .busData, .bufLog, .nmLog, .safLog, .data, .time, .mgt, .wvr,
    .twin, .key] (s.regRead)) := by
  show Host.Outcome.next (s.confine [.regs, .cnts, .caps, .busData, .bufLog, .nmLog, .safLog, .data, .time, .mgt, .wvr,
    .twin, .key] (s.doIf _ _)) = _
  rw [State.doIf_of s _ hg]

theorem exec_regWrite (hg : s.mcRuns) :
    exec .regWrite s = .next (s.confine [.regs, .cnts, .heldLo, .held, .fresh, .mem, .bufLog, .nmLog, .data, .ports, .time,
    .mgt, .edge, .nm, .wvr, .ldg, .twin, .key, .saf, .out] (s.settled (fun s => s.regWrite))) := by
  show Host.Outcome.next (s.confine [.regs, .cnts, .heldLo, .held, .fresh, .mem, .bufLog, .nmLog, .data, .ports, .time, .mgt,
    .edge, .nm, .wvr, .ldg, .twin, .key, .saf, .out] (s.doIf _ _)) = _
  rw [State.doIf_of s _ hg]

theorem exec_regBurstRead (hg : s.mcRuns) :
    exec .regBurstRead s = .next (s.confine [.regs, .cnts, .caps, .busData, .bufLog, .nmLog, .safLog, .data, .time, .mgt,
    .wvr, .twin, .key] (s.regBurstRead)) := by
  show Host.Outcome.next (s.confine [.regs, .cnts, .caps, .busData, .bufLog, .nmLog, .safLog, .data, .time, .mgt, .wvr,
    .twin, .key] (s.doIf _ _)) = _
  rw [State.doIf_of s _ hg]

theorem exec_regBurstWrite (hg : s.mcRuns) :
    exec .regBurstWrite s = .next (s.confine [.regs, .cnts, .heldLo, .held, .fresh, .mem, .bufLog, .nmLog, .data, .ports,
    .time, .mgt, .edge, .nm, .wvr, .ldg, .twin, .key, .saf, .out] (s.settled (fun s => s.regBurstWrite))) := by
  show Host.Outcome.next (s.confine [.regs, .cnts, .heldLo, .held, .fresh, .mem, .bufLog, .nmLog, .data, .ports, .time, .mgt,
    .edge, .nm, .wvr, .ldg, .twin, .key, .saf, .out] (s.doIf _ _)) = _
  rw [State.doIf_of s _ hg]

theorem exec_writeFence (hg : s.mcRuns) :
    exec .writeFence s = .next (s.confine [.regs, .mgt, .key] (s.writeFence)) := by
  show Host.Outcome.next (s.confine [.regs, .mgt, .key] (s.doIf _ _)) = _
  rw [State.doIf_of s _ hg]

theorem exec_farReadComplete (parity : Bool) (hg : s.mcRuns) :
    exec (.farReadComplete parity) s = .next (s.confine [.regs, .cnts, .caps, .heldLo, .held, .busData, .fresh, .mem,
    .bufLog, .nmLog, .safLog, .data, .ports, .time, .mgt, .edge, .nm, .wvr, .ldg, .twin, .key, .saf, .out] (s.settled (fun s
    => s.farReadDone parity))) := by
  show Host.Outcome.next (s.confine [.regs, .cnts, .caps, .heldLo, .held, .busData, .fresh, .mem, .bufLog, .nmLog, .safLog,
    .data, .ports, .time, .mgt, .edge, .nm, .wvr, .ldg, .twin, .key, .saf, .out] (s.doIf _ _)) = _
  rw [State.doIf_of s _ hg]

theorem exec_postedWriteComplete (parity : Bool) (hg : s.mcRuns) :
    exec (.postedWriteComplete parity) s = .next (s.confine [.regs, .cnts, .caps, .heldLo, .held, .busData, .fresh, .mem,
    .bufLog, .nmLog, .safLog, .data, .ports, .time, .mgt, .edge, .nm, .wvr, .ldg, .twin, .key, .saf, .out] (s.settled (fun s
    => s.postedDone parity))) := by
  show Host.Outcome.next (s.confine [.regs, .cnts, .caps, .heldLo, .held, .busData, .fresh, .mem, .bufLog, .nmLog, .safLog,
    .data, .ports, .time, .mgt, .edge, .nm, .wvr, .ldg, .twin, .key, .saf, .out] (s.doIf _ _)) = _
  rw [State.doIf_of s _ hg]

theorem exec_bufQlogPop (hg : s.mcRuns) :
    exec .bufQlogPop s = .next (s.confine [.busData, .bufLog] (s.popBufLog)) := by
  show Host.Outcome.next (s.confine [.busData, .bufLog] (s.doIf _ _)) = _
  rw [State.doIf_of s _ hg]

theorem exec_nmLogPop (hg : s.mcRuns) :
    exec .nmLogPop s = .next (s.confine [.busData, .nmLog] (s.popNmLog)) := by
  show Host.Outcome.next (s.confine [.busData, .nmLog] (s.doIf _ _)) = _
  rw [State.doIf_of s _ hg]

theorem exec_safLogPop (hg : s.mcRuns) :
    exec .safLogPop s = .next (s.confine [.busData, .safLog] (s.popSafLog)) := by
  show Host.Outcome.next (s.confine [.busData, .safLog] (s.doIf _ _)) = _
  rw [State.doIf_of s _ hg]

theorem exec_brgPwflPop (hg : s.mcRuns) :
    exec .brgPwflPop s = .next (s.confine [.regs, .busData, .mgt] (s.popPwfl)) := by
  show Host.Outcome.next (s.confine [.regs, .busData, .mgt] (s.doIf _ _)) = _
  rw [State.doIf_of s _ hg]

theorem exec_evtPop (hg : s.mcRuns) :
    exec .evtPop s = .next (s.confine [.regs, .busData, .mgt] (s.popEvent)) := by
  show Host.Outcome.next (s.confine [.regs, .busData, .mgt] (s.doIf _ _)) = _
  rw [State.doIf_of s _ hg]

theorem exec_jrnRdIndexWrite (value : Word) (hg : s.mcRuns) :
    exec (.jrnRdIndexWrite value) s = .next (s.confine [.regs, .cnts, .heldLo, .held, .fresh, .bufLog, .nmLog, .data, .ports,
    .time, .mgt, .edge, .nm, .wvr, .ldg, .twin, .key, .saf, .out] (s.settled (fun s => s.busWrite K.JRN_RD_INDEX_HI
    0xFFFFFFFF value))) := by
  show Host.Outcome.next (s.confine [.regs, .cnts, .heldLo, .held, .fresh, .bufLog, .nmLog, .data, .ports, .time, .mgt,
    .edge, .nm, .wvr, .ldg, .twin, .key, .saf, .out] (s.doIf _ _)) = _
  rw [State.doIf_of s _ hg]

theorem exec_handover (bank : Nat) (target : Nat) (hw : Instr.wf (.handover bank target)) (hg : s.mcRuns) :
    exec (.handover bank target) s = .next (s.confine [.regs] (s.handover bank target)) := by
  exact (State.demand_ok hw).trans (by rw [State.doIf_of s _ hg])

theorem exec_bankDrainDone (bank : Nat) (hw : Instr.wf (.bankDrainDone bank)) (hg : s.powered) :
    exec (.bankDrainDone bank) s = .next (s.confine [.regs] (s.bankDrained bank)) := by
  exact (State.demand_ok hw).trans (by rw [State.doIf_of s _ hg])

theorem exec_bankClearDone (bank : Nat) (hw : Instr.wf (.bankClearDone bank)) (hg : s.powered) :
    exec (.bankClearDone bank) s = .next (s.confine [.regs, .mem] (s.bankCleared bank)) := by
  exact (State.demand_ok hw).trans (by rw [State.doIf_of s _ hg])

theorem exec_pulse (group : Nat) (hw : Instr.wf (.pulse group)) (hg : s.mcRuns) :
    exec (.pulse group) s = .next (s.confine [.regs, .cnts, .fresh, .bufLog, .data, .ports, .mgt, .edge, .wvr, .key]
    (s.rstPulse group)) := by
  exact (State.demand_ok hw).trans (by rw [State.doIf_of s _ hg])

theorem exec_hold (group : Nat) (hw : Instr.wf (.hold group)) (hg : s.mcRuns) :
    exec (.hold group) s = .next (s.confine [.regs, .cnts, .fresh, .bufLog, .data, .ports, .mgt, .edge, .wvr, .key]
    (s.rstHold group)) := by
  exact (State.demand_ok hw).trans (by rw [State.doIf_of s _ hg])

theorem exec_release (group : Nat) (hw : Instr.wf (.release group)) (hg : s.mcRuns) :
    exec (.release group) s = .next (s.confine [.regs, .cnts, .fresh, .bufLog, .data, .ports, .mgt, .edge, .wvr, .key]
    (s.rstRelease group)) := by
  exact (State.demand_ok hw).trans (by rw [State.doIf_of s _ hg])

theorem exec_resetPulseEnd (hg : s.powered) :
    exec .resetPulseEnd s = .next (s.confine [.regs, .cnts, .fresh, .bufLog, .data, .ports, .mgt, .edge, .wvr, .key]
    (s.rstPulseEnd)) := by
  show Host.Outcome.next (s.confine [.regs, .cnts, .fresh, .bufLog, .data, .ports, .mgt, .edge, .wvr, .key] (s.doIf _ _)) = _
  rw [State.doIf_of s _ hg]

theorem exec_aonClockFault (hg : s.powered) :
    exec .aonClockFault s = .next (s.confine [.regs, .cnts, .safLog, .mgt, .key, .saf] (s.aonClockFault)) := by
  show Host.Outcome.next (s.confine [.regs, .cnts, .safLog, .mgt, .key, .saf] (s.doIf _ _)) = _
  rw [State.doIf_of s _ hg]

theorem exec_wakeFilterCopyFault (input : Nat) (hw : Instr.wf (.wakeFilterCopyFault input)) (hg : s.powered) :
    exec (.wakeFilterCopyFault input) s = .next (s.confine [.regs, .cnts, .safLog, .mgt, .key] (s.filterCopyFault input)) :=
    by
  exact (State.demand_ok hw).trans (by rw [State.doIf_of s _ hg])

theorem exec_tjWarnRearm (tj : Nat) (hw : Instr.wf (.tjWarnRearm tj)) (hg : s.powered) :
    exec (.tjWarnRearm tj) s = .next (s.confine [.regs, .saf] (s.tjRearm tj)) := by
  exact (State.demand_ok hw).trans (by rw [State.doIf_of s _ hg])

theorem exec_linWakePulseEnd (channel : Nat) (hw : Instr.wf (.linWakePulseEnd channel)) (hg : s.powered) :
    exec (.linWakePulseEnd channel) s = .next (s.confine [.edge] (s.linPulseEnd channel)) := by
  exact (State.demand_ok hw).trans (by rw [State.doIf_of s _ hg])

theorem exec_lineFaultClear (hg : s.powered) :
    exec .lineFaultClear s = .next (s.confine [.regs] (s.lineFaultClear)) := by
  show Host.Outcome.next (s.confine [.regs] (s.doIf _ _)) = _
  rw [State.doIf_of s _ hg]

theorem exec_replayListExit (port : Nat) (hw : Instr.wf (.replayListExit port)) (hg : s.running) :
    exec (.replayListExit port) s = .next (s.confine [.regs, .cnts, .bufLog, .data, .mgt, .twin, .key] (s.replayExit port))
    := by
  exact (State.demand_ok hw).trans (by rw [State.doIf_of s _ hg])

end Sys2Proof.Machine
end

