-- ==== Sys2Proof/Laws/Bus.lean ====
section
/-!
SUPPORT. What a masked write of the register space does: nothing under a mask of 0, and the plain write of a register that has no
rule of its own.
-/

namespace Sys2Proof.Machine

theorem word_ones : (0xFFFFFFFF : Word) = BitVec.allOnes 32 := rfl

theorem word_zero : (0 : Word) = 0#32 := rfl

theorem not_zero_word : (~~~ (0#32)) = BitVec.allOnes 32 := by decide

/-- A mask of 0 keeps every bit. -/
theorem RegDesc.after_zero (d : RegDesc) (w v : Word) : d.after w 0 v = w := by
  simp only [RegDesc.after, maskWord, word_zero, BitVec.zero_and, BitVec.and_zero, not_zero_word, BitVec.and_allOnes, BitVec.or_zero]

/-- Where every bit is RW the write is (old AND NOT mask) OR (data AND mask). -/
theorem RegDesc.after_rw (d : RegDesc) (h1 : d.rw = 0xFFFFFFFF) (h2 : d.w1c = 0) (w m v : Word) :
    d.after w m v = (w &&& ~~~ m) ||| (v &&& m) := by
  simp only [RegDesc.after, maskWord, h1, h2]
  rw [show BitVec.ofNat 32 0xFFFFFFFF = BitVec.allOnes 32 from rfl, show BitVec.ofNat 32 0 = 0#32 from rfl]
  simp only [BitVec.and_zero, not_zero_word, BitVec.and_allOnes]

/-- Where no bit is RW only W1C bits written 1 change. -/
theorem RegDesc.after_w1c (d : RegDesc) (h1 : d.rw = 0) (w m v : Word) :
    d.after w m v = w &&& ~~~ (m &&& v &&& BitVec.ofNat 32 d.w1c) := by
  simp only [RegDesc.after, maskWord, h1]
  rw [show BitVec.ofNat 32 0 = 0#32 from rfl]
  simp only [BitVec.and_zero, not_zero_word, BitVec.and_allOnes, BitVec.or_zero]

theorem State.busWrite_zero (s : State) (a : Nat) (v : Word) : s.busWrite a 0 v = s := by
  unfold State.busWrite
  rw [if_pos rfl]; exact s.confine_self _

/-- A write to a register outside the classifier's window is its block's. -/
theorem State.busWrite_block (s : State) (a k : Nat) (d : RegDesc) (m v : Word) (hm : m ≠ 0) (h1 : ¬ (0x81000 ≤ a ∧ a < 0x81118))
    (h2 : s.regHere a = some (d, k)) {l : List Part} (hl : s.Only (s.blockWrite d a k m v) l)
    (hl' : l.all (fun p => [Part.regs, .cnts, .heldLo, .held, .fresh, .bufLog, .nmLog, .data, .ports, .time, .mgt, .edge, .nm, .wvr,
      .ldg, .twin, .key, .saf, .out].any (fun q => decide (q = p))) = true) :
    s.busWrite a m v = s.blockWrite d a k m v := by
  unfold State.busWrite
  rw [if_neg hm, if_neg h1, h2]
  exact hl.confine _ hl'

/-- A register with no rule of its own takes the plain write. -/
theorem State.busWrite_plain (s : State) (a k : Nat) (d : RegDesc) (m v : Word) (hm : m ≠ 0) (h1 : ¬ (0x81000 ≤ a ∧ a < 0x81118))
    (h2 : s.regHere a = some (d, k)) (h3 : s.blockWrite d a k m v = s.plainWrite d k m v) :
    s.busWrite a m v = s.setReg k (d.after (s.reg k) m v) := by
  rw [s.busWrite_block a k d m v hm h1 h2 (l := [.regs]) (by rw [h3]; rfl) (by decide), h3]; rfl

theorem State.plainWrite_eq (s : State) (d : RegDesc) (k : Nat) (m v : Word) :
    s.plainWrite d k m v = s.setReg k (d.after (s.reg k) m v) := rfl

end Sys2Proof.Machine
end

