-- ==== Sys2Proof/Laws/Events.lean ====
section
/-!
SUPPORT. What an event, a journal entry and the end of a command can change: the journal's own registers and counters, and
nothing else of the registers and counters.
-/

namespace Sys2Proof.Machine

theorem forEach_regsBut {α : Type} (l : List α) (f : α → State → State) (ks : List Nat) (hf : ∀ x (s : State), s.RegsBut (f x s) ks) :
    ∀ s : State, s.RegsBut (forEach l f s) ks := by
  induction l with
  | nil => intro s; exact State.RegsBut.refl s ks
  | cons x r ih => intro s k hk; exact (ih (f x s) k hk).trans (hf x s k hk)

theorem State.regsBut_setPair (s : State) (lo hi v : Nat) : s.RegsBut (s.setPair lo hi v) [lo, hi] :=
  (s.regsBut_setReg lo _).trans ((s.setReg lo _).regsBut_setReg hi _)

theorem State.RegsBut.after {s t u : State} {l : List Nat} (h : s.RegsBut t l) (e : u.regs = t.regs) : s.RegsBut u l :=
  fun k hk => (State.reg_congr e k).trans (h k hk)

theorem State.RegsBut.from {s t u : State} {l : List Nat} (h : t.RegsBut u l) (e : t.regs = s.regs) : s.RegsBut u l :=
  fun k hk => (h k hk).trans (State.reg_congr e k)

theorem State.RegsBut.comp {s t u : State} {l : List Nat} (h : s.RegsBut t l) (h' : t.RegsBut u l) : s.RegsBut u l :=
  fun k hk => (h' k hk).trans (h k hk)

theorem State.CntsBut.refl (s : State) (l : List Nat) : s.CntsBut s l := fun _ _ => rfl

theorem State.CntsBut.comp {s t u : State} {l : List Nat} (h : s.CntsBut t l) (h' : t.CntsBut u l) : s.CntsBut u l :=
  fun a ha => (h' a ha).trans (h a ha)

theorem State.cntsBut_of_cnts {s t : State} (h : t.cnts = s.cnts) (l : List Nat) : s.CntsBut t l := fun a _ => State.cnt_congr h a

theorem State.cntsBut_inc (s : State) (a : Nat) : s.CntsBut (s.inc a) [a] := fun b hb =>
  s.cnt_inc_other (fun e => hb (by simp [e]))

theorem State.CntsBut.mono {s t : State} {l m : List Nat} (h : s.CntsBut t l) (hl : ∀ k ∈ l, k ∈ m) : s.CntsBut t m :=
  fun k hk => h k (fun hm => hk (hl k hm))

/-! ## The journal -/

theorem State.putEntry_regsBut (s : State) (e : JEntry) : s.RegsBut (s.putEntry e) journalKeys :=
  ((State.regsBut_setPair _ _ _ _).from rfl).mono (by decide)

theorem State.appendRaw_regsBut (s : State) (a b c d e : Nat) (l : List Byte) : s.RegsBut (s.appendRaw a b c d e l) journalKeys :=
  s.putEntry_regsBut _

theorem State.requestSign_regs (s : State) (k : Nat) (w : SignFor) (p : List Byte) : (s.requestSign k w p).regs = s.regs := rfl

theorem State.putStatement_regsBut (s : State) (e : JEntry) : s.RegsBut (s.putStatement e) journalKeys := by
  have h : s.RegsBut ((({ s with mgt := { s.mgt with statements := (s.statementOf e :: s.mgt.statements).take 64 } } : State).setPair
      K.JRN_CP_LO K.JRN_CP_HI e.jseq).requestSign 1 (.checkpoint e.jseq) (s.statementOf e).payload) journalKeys :=
    (((State.regsBut_setPair _ _ _ _).from rfl).mono (by decide)).after rfl
  unfold State.putStatement
  simp only
  split
  · exact h
  · exact h.comp ((State.regsBut_setFld _ _ _).mono (by decide))

theorem State.checkpoint_regsBut (s : State) (a b c : Nat) : s.RegsBut (s.checkpoint a b c) journalKeys := by
  unfold State.checkpoint
  simp only
  split
  · exact s.appendRaw_regsBut _ _ _ _ _ _
  · exact (s.appendRaw_regsBut _ _ _ _ _ _).comp (State.putStatement_regsBut _ _)

theorem State.appendGroup_regsBut (s : State) (a b c : Nat) (l : List (Nat × Nat × List Byte)) :
    s.RegsBut (s.appendGroup a b c l) journalKeys := by
  unfold State.appendGroup
  split
  · exact State.RegsBut.refl s _
  · have h := forEach_regsBut l (fun e s => s.appendRaw e.1 a b c e.2.1 e.2.2) journalKeys (fun x s => s.appendRaw_regsBut _ _ _ _ _ _) s
    simp only
    split
    · exact h.comp (State.checkpoint_regsBut _ _ _ _)
    · exact h

theorem State.append_regsBut (s : State) (k a b c d : Nat) (l : List Byte) : s.RegsBut (s.append k a b c d l) journalKeys :=
  s.appendGroup_regsBut _ _ _ _

theorem State.appendRaw_cnts (s : State) (a b c d e : Nat) (l : List Byte) : (s.appendRaw a b c d e l).cnts = s.cnts := rfl

theorem forEach_cnts {α : Type} (l : List α) (f : α → State → State) (hf : ∀ x s, (f x s).cnts = s.cnts) :
    ∀ s : State, (forEach l f s).cnts = s.cnts := by
  induction l with
  | nil => intro s; rfl
  | cons x r ih => intro s; rw [forEach, ih, hf]

theorem State.putStatement_cnts (s : State) (e : JEntry) : (s.putStatement e).cnts = s.cnts := by
  unfold State.putStatement
  simp only
  split <;> rfl

theorem State.checkpoint_cnts (s : State) (a b c : Nat) : (s.checkpoint a b c).cnts = s.cnts := by
  unfold State.checkpoint
  simp only
  split
  · rfl
  · rw [State.putStatement_cnts]; rfl

theorem State.appendGroup_cnts (s : State) (a b c : Nat) (l : List (Nat × Nat × List Byte)) : (s.appendGroup a b c l).cnts = s.cnts := by
  unfold State.appendGroup
  split
  · rfl
  · simp only
    split
    · rw [State.checkpoint_cnts]; exact forEach_cnts l (fun e s => s.appendRaw e.1 a b c e.2.1 e.2.2) (fun _ _ => rfl) s
    · exact forEach_cnts l (fun e s => s.appendRaw e.1 a b c e.2.1 e.2.2) (fun _ _ => rfl) s

/-! ## The end of a command -/

theorem State.endCmd_regsBut (s : State) (c : Cmd) (a b : Nat) : s.RegsBut (s.endCmd c a b) journalKeys := by
  refine State.RegsBut.after (t := s.popExec.completion c a b) ?_ rfl
  exact (State.append_regsBut _ _ _ _ _ _ _).from rfl

@[simp] theorem State.endCmd_cnts (s : State) (c : Cmd) (a b : Nat) : (s.endCmd c a b).cnts = s.cnts := rfl

theorem State.endCmd_only (s : State) (c : Cmd) (a b : Nat) : s.Only (s.endCmd c a b) [.regs, .mgt, .key] := s.only_confine _ _

theorem State.answer_only (s : State) (c : Cmd) (a : Nat) (b : List Byte) : s.Only (s.answer c a b) [.mgt] := s.only_confine _ _

@[simp] theorem State.answer_regs (s : State) (c : Cmd) (a : Nat) (b : List Byte) : (s.answer c a b).regs = s.regs := rfl

theorem State.endData_regsBut (s : State) (c : Cmd) (d : List Byte) : s.RegsBut (s.endData c d) journalKeys :=
  (s.endCmd_regsBut c 0 0).after (State.answer_regs _ _ _ _)

/-! ## Events -/

theorem State.mcSend_regs (s : State) (f : LaneFrame) : (s.mcSend f).regs = s.regs := by unfold State.mcSend; split <;> rfl
theorem State.mcSend_cnts (s : State) (f : LaneFrame) : (s.mcSend f).cnts = s.cnts := by unfold State.mcSend; split <;> rfl

theorem State.queueEvent_regsBut (s : State) (c : Nat) (b : List Byte) : s.RegsBut (s.queueEvent c b) journalKeys := by
  unfold State.queueEvent
  split
  · exact ((State.regsBut_setFld _ _ _).from rfl).mono (by decide)
  · simp only
    split
    · exact State.regsBut_of_regs (by rw [State.mcSend_regs]) _
    · exact State.regsBut_of_regs rfl _

theorem State.queueEvent_cntsBut (s : State) (c : Nat) (b : List Byte) : s.CntsBut (s.queueEvent c b) eventCounters := by
  unfold State.queueEvent
  split
  · exact (s.cntsBut_inc _).mono (by decide)
  · simp only
    split
    · exact State.cntsBut_of_cnts (by rw [State.mcSend_cnts]) _
    · exact State.cntsBut_of_cnts rfl _

theorem State.raise_only (s : State) (c : Nat) (d : List Byte) : s.Only (s.raise c d) [.regs, .cnts, .mgt, .key] := s.only_confine _ _

/-- An event changes no register but the journal's. -/
theorem State.raise_regsBut (s : State) (c : Nat) (d : List Byte) : s.RegsBut (s.raise c d) journalKeys := by
  refine State.RegsBut.after (t := ((s.append 5 255 c 0 0 d).inc (C.mgt 7)).queueEvent c (entryBody s.nextJseq 5 255 c 0 s.nowNs 0 d)) ?_ rfl
  exact (s.append_regsBut 5 255 c 0 0 d).comp ((State.queueEvent_regsBut _ _ _).from rfl)

/-- An event changes no counter but those of events. -/
theorem State.raise_cntsBut (s : State) (c : Nat) (d : List Byte) : s.CntsBut (s.raise c d) eventCounters := by
  have h : s.CntsBut (((s.append 5 255 c 0 0 d).inc (C.mgt 7)).queueEvent c (entryBody s.nextJseq 5 255 c 0 s.nowNs 0 d)) eventCounters :=
    ((State.cntsBut_of_cnts (s.appendGroup_cnts 255 c 0 [(5, 0, d)]) _).comp ((State.cntsBut_inc _ _).mono (by decide))).comp
      (State.queueEvent_cntsBut _ _ _)
  intro a ha
  exact (State.cnt_congr rfl a).trans (h a ha)

theorem State.raiseFlag_only (s : State) (f : Fld) (d : List Byte) : s.Only (s.raiseFlag f d) [.regs, .cnts, .mgt, .key] := by
  unfold State.raiseFlag
  split
  · exact s.only_refl _
  · have h := (s.setFld f 1).raise_only (blockCode (f.key % 0x100000000) * 256 + f.lo) d
    unfold State.Only at h ⊢
    rw [← h]; rfl

theorem State.raiseFlag_regsBut (s : State) (f : Fld) (d : List Byte) : s.RegsBut (s.raiseFlag f d) (f.key :: journalKeys) := by
  unfold State.raiseFlag
  split
  · exact State.RegsBut.refl s _
  · exact ((s.regsBut_setFld f 1).mono (by simp)).comp ((State.raise_regsBut _ _ _).mono (fun k hk => List.mem_cons_of_mem _ hk))

theorem State.raiseFlag_cntsBut (s : State) (f : Fld) (d : List Byte) : s.CntsBut (s.raiseFlag f d) eventCounters := by
  unfold State.raiseFlag
  split
  · exact State.CntsBut.refl s _
  · intro a ha
    exact (State.raise_cntsBut _ _ _ a ha).trans rfl

/-- The flag is set afterwards. -/
theorem State.raiseFlag_flag (s : State) (f : Fld) (d : List Byte) (h1 : f.hi = f.lo) (h2 : f.hi < 32) (h3 : f.key ∉ journalKeys) :
    (s.raiseFlag f d).flag f = true := by
  unfold State.raiseFlag
  split
  · assumption
  · rw [(State.raise_regsBut _ _ _).flag h3, State.flag_setFld_same s f 1 h1 h2]; rfl

/-- The other fields of its register stay as they are. -/
theorem State.raiseFlag_fld (s : State) (f g : Fld) (d : List Byte) (h1 : f.lo ≤ f.hi) (h2 : f.hi < 32) (h3 : f.key ∉ journalKeys)
    (hk : f.key = g.key) (hg : g.lo ≤ g.hi) (h : f.hi < g.lo ∨ g.hi < f.lo) : (s.raiseFlag f d).fld g = s.fld g := by
  unfold State.raiseFlag
  split
  · rfl
  · rw [(State.raise_regsBut _ _ _).fld (by rw [← hk]; exact h3), s.fld_setFld_bits f g 1 hk h1 h2 hg h]

end Sys2Proof.Machine
end

