-- ==== Sys2Proof/Laws/Starts.lean ====
section
/-!
SUPPORT. What resets and starts leave: the fields of a blank state, and of a unit held in power-on reset.
-/

namespace Sys2Proof.Machine

/-- A part that no element's change touches is as it was after all of them. -/
theorem forEach_part {α β : Type} (l : List α) (f : α → State → State) (g : State → β) (h : ∀ x s, g (f x s) = g s) :
    ∀ s, g (forEach l f s) = g s := by
  induction l with
  | nil => intro s; rfl
  | cons x r ih => intro s; rw [forEach, ih, h]

variable (s : State)

@[simp] theorem State.blank_aon (w : Bool) : (s.blank w).aon = s.aon := rfl
@[simp] theorem State.blank_cycle (w : Bool) : (s.blank w).cycle = 0 := rfl
@[simp] theorem State.blank_caps (w : Bool) : (s.blank w).caps = [] := rfl
@[simp] theorem State.blank_safLog (w : Bool) : (s.blank w).safLog = [] := rfl
@[simp] theorem State.blank_busData (w : Bool) : (s.blank w).busData = s.busData := rfl
@[simp] theorem State.blank_pending (w : Bool) : (s.blank w).pending = s.pending := rfl
@[simp] theorem State.blank_out (w : Bool) : (s.blank w).out = s.out := rfl
@[simp] theorem State.blank_data (w : Bool) :
    (s.blank w).data = { DataSt.reset with cells := if w then keepCells s.data.cells else [] } := rfl
@[simp] theorem State.blank_cold_data : (s.blank false).data = DataSt.reset := rfl
@[simp] theorem State.blank_ports (w : Bool) : (s.blank w).ports = PortSt.reset := rfl
@[simp] theorem State.blank_edge (w : Bool) : (s.blank w).edge = EdgeSt.reset := rfl
@[simp] theorem State.blank_wvr (w : Bool) : (s.blank w).wvr = WvrSt.reset := rfl
@[simp] theorem State.blank_time (w : Bool) : (s.blank w).time = TimeSt.reset := rfl
@[simp] theorem State.blank_cold_cnts : (s.blank false).cnts = [] := rfl

theorem State.driveHold_part {β : Type} (g : State → β) (h1 : ∀ (s : State) f v, g (s.setFld f v) = g s)
    (h2 : ∀ (s : State) o, g (s.emit o) = g s) (b : Bool) : g (s.driveHold b) = g s := by
  unfold State.driveHold; split
  · rfl
  · rw [h2, h1]

theorem State.ppsLow_part {β : Type} (g : State → β) (h2 : ∀ (s : State) o, g (s.emit o) = g s) : g s.ppsLow = g s := by
  unfold State.ppsLow
  refine forEach_part _ _ g (fun n s => ?_) s
  split
  · exact h2 _ _
  · rfl

theorem State.resetPins_part {β : Type} (g : State → β) (h1 : ∀ (s : State) f v, g (s.setFld f v) = g s)
    (h2 : ∀ (s : State) o, g (s.emit o) = g s) : g s.resetPins = g s := by
  unfold State.resetPins
  simp only
  split
  · rw [h2, State.ppsLow_part _ g h2, h2, State.driveHold_part _ g h1 h2, h2]
  · rw [State.ppsLow_part _ g h2, h2, State.driveHold_part _ g h1 h2, h2]

theorem State.holdPhys_part {β : Type} (g : State → β) (h2 : ∀ (s : State) o, g (s.emit o) = g s) : g s.holdPhys = g s :=
  forEach_part _ _ g (fun _ _ => h2 _ _) s

theorem State.porst_eq : s.porst = { (s.resetPins.holdPhys.blank false) with
    boot := { (s.resetPins.holdPhys.blank false).boot with held := true },
    saf := { (s.resetPins.holdPhys.blank false).saf with pllWait := s.saf.pllWait } } := rfl

theorem State.porst_aon : s.porst.aon = s.aon := by
  rw [State.porst_eq]
  simp only [State.blank_aon]
  exact (s.resetPins.holdPhys_part State.aon (fun _ _ => rfl)).trans (s.resetPins_part State.aon (fun _ _ _ => rfl) (fun _ _ => rfl))

end Sys2Proof.Machine
end

