-- ==== Sys2Proof/Tests/Slice0.lean ====
section
/-! SUPPORT. Tests of the model: ill-formed commands are refused, a few commands act as the spec's words say, and the
hypotheses of every obligation are met by a concrete state, clause by clause. -/

namespace Sys2Proof.Tests

open Sys2Proof.Machine

set_option Elab.async false

/-! ## Small states -/

/-- A unit that forwards, with everything else as reset leaves it. -/
def up : State :=
  { State.reset.setFlds [(F.BOOT_STATUS_STATE, 0xB)] with boot := { State.reset.boot with held := false } }
/-- A unit held at START_FORWARDING. -/
def w0 : State :=
  { State.reset.setFlds [(F.BOOT_STATUS_STATE, 0xA)] with boot := { State.reset.boot with held := false } }
/-- The state after some commands, each of which goes on. -/
def run (l : List Instr) (s : State) : State :=
  l.foldl (fun s i => match exec i s with
    | .next t => t
    | _ => s) s
def dt (f : DataSt → DataSt) (s : State) : State := { s with data := f s.data }
def mg (f : MgtSt → MgtSt) (s : State) : State := { s with mgt := f s.mgt }
def tw (f : PairSt → PairSt) (s : State) : State := { s with twin := f s.twin }
def nm (f : NmSt → NmSt) (s : State) : State := { s with nm := f s.nm }
def tm (f : TimeSt → TimeSt) (s : State) : State := { s with time := f s.time }
def wv (f : WvrSt → WvrSt) (s : State) : State := { s with wvr := f s.wvr }
def sf (f : SafSt → SafSt) (s : State) : State := { s with saf := f s.saf }
def ky (f : KeySt → KeySt) (s : State) : State := { s with key := f s.key }
def lg (f : LdgSt → LdgSt) (s : State) : State := { s with ldg := f s.ldg }
def cyc (n : Nat) (s : State) : State := { s with cycle := n }
def aonAt (n : Nat) (s : State) : State := { s with aon := n }
def atNs (n : Nat) (s : State) : State := tm (fun t => { t with now := n * fracPerNs }) s
def holds (l : List (Nat × Word)) (s : State) : State := { s with held := l.map (fun c => (c.1, some c.2)) }
/-- A command of the SPI of origin 3, with its sequence number 9. -/
def cmd (op : Nat) (b : List Byte) : Cmd := ⟨.spi, 3, 9, op, b, 4, 0, 0⟩
/-- It stands at the head of the execution queue. -/
def withCmd (op : Nat) (b : List Byte) (s : State) : State :=
  mg (fun m => { m with execQ := [cmd op b, cmd 1 []] }) s
/-- A frame for the MC waits. -/
def box (k : Special) (p : Nat) (b : List Byte) (s : State) : State :=
  mg (fun m => { m with inbox := [⟨none, k, p, 1000000000000000003, b⟩] }) s
/-- Link up on a port. -/
def lk (p : Nat) (s : State := up) : State :=
  s.setFlds [(F.MAC_CFG_EN p, 1), (F.MAC_STATUS_LINK_UP p, 1), (F.MAC_STATUS_LOCK p, 1)]
def raw (n : Nat) : List Byte :=
  beBytes 6 0x020000000001 ++ beBytes 6 0x020000000002 ++ beBytes 2 0x0800 ++ List.replicate (n - 18) 7
def fr0 : Frame := ⟨0, [], false, false, false, false, false, false, 0, 0, 0, false, 0, 0, 0, 0, 0, false, .first, none, 0⟩
def cpo (n : Nat) : Copy := ⟨none, raw n, none, 0, none, false, none, 0, .none, false, none⟩
def tx0 : Tx := ⟨96, cpo 64, 68, false, false, false, 0, false, 0, false, false, 0, none⟩
def cqs (l : List (Nat × List Copy)) (s : State) : State := dt (fun d => { d with queues := l }) s
def env0 : StartEnv := ⟨0, 0, none, 0, false, 0, false, [], [], [], [], none, 0⟩
/-! The data plane -/
def vl (n : Nat) : List Byte :=
  beBytes 6 0x020000000001 ++ beBytes 6 0x020000000002 ++ beBytes 2 0x8100 ++ beBytes 2 5 ++ beBytes 2 0x0800 ++
    List.replicate (n - 18) 7
def vl2 (n : Nat) : List Byte :=
  beBytes 6 0x020000000001 ++ beBytes 6 0x020000000002 ++ beBytes 2 0x88A8 ++ beBytes 2 5 ++ beBytes 2 0x8100 ++
    beBytes 2 5 ++ beBytes 2 0x0800 ++ List.replicate (n - 18) 7
def rx : State := run [.frameReceive 33 .express (vl 300) .more] (lk 33)
def setE (i : Nat) (e : TcamEntry) (s : State) : State := dt (fun d => { d with tcam := [(i, some e)] }) s
def anyE : TcamEntry := ⟨List.replicate 20 0, List.replicate 20 0, [6, 0, 0x8000], 1, true, 3⟩
def one : State := setE 5 anyE rx
def two : State :=
  run [.pipelinePass] (setE 5 anyE (run [.frameReceive 33 .express (vl2 300) .more] (lk 33)))
def afterE : State := run [.pipelinePass, .frameReceive 33 .express (fcsBytes (vl 300)) .ended] rx
def lrn : LearnReq := ⟨3, 5, 0, 5⟩
def fin (s : State) : State :=
  (s.setInfo 0 { s.info 0 with learn := some lrn, late := false, sdu := none, charges := [], special := none,
                               toWeaver := false }).setFrame 0
    { (s.frame 0).getD fr0 with ref := 2, ihold := true, stage := .passed }
def bb : List Byte :=
  beBytes 6 0x020000000001 ++ beBytes 6 0x020000000002 ++ beBytes 2 0x86DD ++ beBytes 4 0x60000000 ++ beBytes 2 200 ++
    [0, 64] ++ List.replicate 32 1 ++ [59, 24] ++ List.replicate 197 0
def badLen : State :=
  run [.frameReceive 33 .express ((bb ++ fcsBytes bb).take 256) .more, .pipelinePass,
    .frameReceive 33 .express ((bb ++ fcsBytes bb).drop 256) .ended] (lk 33)
def mac0 : Nat := 0x020000000002
def way (i : Nat) : Nat := (fdbWays 3 mac0).getD i 0
def fe (st : Bool) (m : Nat) : FdbEntry := ⟨3, m, st, true, 1, 9⟩
def lq : State := dt (fun d => { d with learnQ := [⟨3, mac0, 0, 5⟩, ⟨3, 7, 0, 5⟩] }) up
def setw (l : List (Nat × FdbEntry)) (s : State) : State :=
  dt (fun d => { d with fdb := l.map (fun c => (c.1, some c.2)) }) s
def fulls (s : State) : State := (fdbWays 3 mac0).foldl (fun s i => s.setFdb i (some (fe false (900 + i)))) s
def key0 (s : State) : State :=
  s.setFlds [(F.FDB_KEY_HI_FID, 3), (F.FDB_KEY_HI_MAC_HI, 0x0200), (F.FDB_KEY_LO_MAC_LO, 2)]
def dv (k d : Nat) (s : State) : State :=
  s.setFlds [(F.FDB_DATA_VALID, 1), (F.FDB_DATA_KIND, k), (F.FDB_DATA_DEST, d), (F.FDB_DATA_STATIC, 1)]
def fop (o : FdbOp) : State :=
  (dt (fun d => { d with fdbOp := o }) (setw [(0, fe true 0), (1, fe false 1)] up)).setFlds [(F.FDB_STATUS_BUSY, 1)]
def cls (l : List (Nat × Machine.Cell)) (s : State) : State := dt (fun d => { d with cells := l }) s
def cq (st : CellState) (strike : Bool) (head : Nat) : Machine.Cell := ⟨head, false, 0, st, strike, false⟩
def te (v : Bool) (g : Nat) : TcamEntry := ⟨List.replicate 20 0x55, List.replicate 20 0x66, [0x77, 1, 2], g, v, 3⟩
def ix (e : TcamEntry) (l : List (Fld × Nat) := []) : State :=
  setE 5 e (up.setFlds ((F.CLS_WIN_INDEX_INDEX, 5) :: l))
def sw (o : Option Nat) (s : State) : State := dt (fun d => { d with swap := o }) s
def aw (s : State) : State := dt (fun d => { d with recirc := [3] }) (s.setFrame 3 fr0)
def shp (q en pend : Nat) (s : State) : State :=
  s.setFlds [(F.SHP_CTRL_EN q, en), (F.SHP_CTRL_PENDING q, pend), (F.ZPOL_CTRL_EN q, en), (F.ZPOL_CTRL_PENDING q, pend),
    (F.MTR_CTRL_PENDING q, pend), (F.STRM_WIN_FILTER_METER_EN q, en)]
def gt (p : Nat) (l : List (Fld × Nat)) (s : State) : State :=
  s.setFlds ([(F.GATE_CTRL_GATE_EN p, 1), (F.GATE_WIN_PORT_PORT, p)] ++ l)
def adm (p : Nat) (s : State) : State :=
  s.setFlds [(F.GATE_ADMIN_LEN_LEN p, 2), (F.GATE_ADMIN_CYCLE_CYCLE p, 2000),
    (F.GATE_WIN_INTERVAL_INTERVAL (gateKey p 0 0), 1000), (F.GATE_WIN_INTERVAL_INTERVAL (gateKey p 0 1), 1000),
    (F.GATE_WIN_OP_HOLD (gateKey p 0 1), 1)]
def mrg (p : Nat) (w : Word) (s : State) : State := run [.mergeCfgApply p] (s.setReg (K.MERGE_CFG p) w)
def gts : State := run [.gateChangeTime 3] (atNs 5000 (gt 3 [(F.GATE_STATUS_PENDING 3, 1)] (adm 3 up)))
def ma : MdioAccess := ⟨none, 0x80000000, 5, 9, false⟩
def md (a : MdioAccess) (s : State) : State := (s.setMdio 0 (some a)).setFlds [(F.MDIO_STATUS_BUSY 0, 1)]
def poll (s : State) : State := s.setFlds [(F.MDIO_CFG_POLL_MS 0, 5), (F.MAC_STATUS_PHY_INT 3, 1)]
/-! Network time -/
def st (n src : Nat) (l : List (Fld × Nat) := []) : State :=
  up.setFlds ([(F.TIME_STATUS_STATE, n), (F.TIME_CTRL_SOURCE, src)] ++ l)
def gf (ty seq : Nat) (two : Bool) (rest : List Byte) : List Byte :=
  beBytes 6 0x0180C200000E ++ beBytes 6 2 ++ beBytes 2 0x88F7 ++ [BitVec.ofNat 8 (0x10 + ty), 2] ++
    beBytes 2 (34 + rest.length) ++ beBytes 2 0 ++ beBytes 2 (if two then 0x0200 else 0) ++ beBytes 8 65536 ++
    beBytes 4 0 ++ beBytes 8 0x1122334455667788 ++ beBytes 2 1 ++ beBytes 2 seq ++ beBytes 2 0x007F ++ rest
def rl (p r : Nat) (s : State := up) : State :=
  s.setFlds [(F.GPTP_PORT_CFG_ROLE p, r), (F.TIME_CTRL_SOURCE, 2), (F.GPTP_PORT_STATUS_AS_CAPABLE p, 1),
    (F.MAC_STATUS_LINK_UP p, 1)]
def sy (o : Option (Nat × Int × Int)) : SyncSt :=
  ⟨7, 1000000000000000000, 5, o, beBytes 8 0x1122334455667788 ++ beBytes 2 1, [(4, none), (33, some 99)]⟩
def gp1 : GPort := { GPort.fresh with reqOut := true, missed := 2 }
def ppo (n : Nat) (l : List (Fld × Nat)) : State :=
  up.setFlds ([(F.PPS_OUT_CTRL_EN n, 1), (F.PPS_OUT_WIDTH_NS n, 100), (F.PPS_OUT_PERIOD_NS n, 1000)] ++ l)
/-! Channels -/
def cfr (fmt id : Nat) (fd : Bool) (d : List Byte) : CanFrame := ⟨fmt, id, fd, false, false, [], d⟩
def rq (id : Nat) : CanReq := ⟨0, id, false, false, [], [1, 2], 0⟩
def ch (l : List (Fld × Nat)) (c : CanSt := .fresh) : State :=
  (up.setFlds ([(F.CAN_CTRL_MODE 23, 1), (F.CAN_STATUS_STATE 23, 0)] ++ l)).setCan 23 c
def bz : CanSt := { CanSt.fresh with cur := some (rq 5, 77), reqs := [rq 6] }
def ln (d : Nat) (l : List (Fld × Nat)) (c : LinSt := .fresh) : State :=
  (up.setFlds ([(F.LIN_CTRL_MODE 7, 1), (F.LIN_TABLE_LEN_LEN0 7, 2), (F.LIN_FRAME_CFG_DIR 7 (linFrameKey 5), d),
    (F.LIN_FRAME_CFG_LEN_M1 7 (linFrameKey 5), 3), (F.LIN_SCHED_ENTRY_ID 7 0, 5), (F.LIN_SCHED_ENTRY_TYPE 7 0, 0),
    (F.LIN_SCHED_ENTRY_ID 7 1, 5), (F.LIN_SCHED_ENTRY_TYPE 7 1, 1)] ++ l)).setLin 7 c
def sup : LinSt := { LinSt.fresh with supplied := [(5, [1, 2, 3])] }
/-! The Weaver -/
def pdu (i dir kind chn id len : Nat) (s : State) : State :=
  s.setFlds [(F.WVR_PDU_DATA0_VALID i, 1), (F.WVR_PDU_DATA0_DIR i, dir), (F.WVR_PDU_DATA0_KIND i, kind),
    (F.WVR_PDU_DATA0_CHANNEL i, chn), (F.WVR_PDU_DATA1_ID i, id), (F.WVR_PDU_DATA0_LEN i, len)]
def route (r dst : Nat) (l : List (Fld × Nat)) (s : State) : State :=
  (s.setFlds ([(F.WVR_RT_DATA0_VALID r, 1), (F.WVR_RT_DATA0_DST r, dst), (F.WVR_RT_DATA1_SRC_START r, 0),
    (F.WVR_RT_DATA1_SRC_LEN_M1 r, 7), (F.WVR_RT_DATA2_DST_START r, 8), (F.WVR_RT_DATA2_DST_LEN_M1 r, 7)] ++ l)).setReg
    (K.WVR_RT_DATA3 r) 1
def rxp (n rts : Nat) (s : State) : State :=
  (pdu 7 0 0 3 5 4 s).setReg (K.WVR_PDU_DATA2 7) (BitVec.ofNat 32 (rts * 2 ^ 18 + n * 8))
def u0 : WUnit := .pdu 0 3 0 0 5 [9, 8, 7, 6] 1000 .none
def un (s : State) : State := wv (fun w => { w with units := [u0, .timeout 3] }) s
def rtS (l : List (Fld × Nat)) : State := un (route 11 20 l (pdu 20 1 2 0 0 8 (rxp 1 11 up)))
def dl (d : Nat) (s : State) : State := wv (fun w => { w with deadline := [(4095, some d)] }) s
def txs (l : List (Fld × Nat)) : State :=
  (pdu 7 1 0 3 5 4 up).setFlds
    ([(F.WVR_PDU_INDEX_INDEX, 7), (F.CAN_CTRL_MODE 3, 1), (F.CAN_STATUS_STATE 3, 0)] ++ l)
def car (l : List (Fld × Nat)) : State :=
  (wv (fun w => { w with openFrames := [(511, ⟨[⟨20, [1, 2, 3], 3, none, 7⟩, ⟨21, [1], 3, some 77, 8⟩], 100⟩)] })
    (pdu 21 1 2 0 0 1 (pdu 20 1 2 0 0 3 up))).setFlds
    ([(F.WVR_CAR_CFG0_VALID 511, 1), (F.WVR_PDU_STATE_IN_FRAME 20, 1), (F.WVR_PDU_STATE_IN_FRAME 21, 1)] ++ l)
def lane0 : LaneFrame := ⟨raw 64, ⟨0, none, none⟩⟩
/-! Keys and the ledger -/
def slotted (i st : Nat) (s : State) : State :=
  ky (fun k => { k with slots := [(i, ⟨0, .of 1 [1, 2], .of 1 [3, 4]⟩)] }) (s.setFlds [(F.KEY_SLOT_INFO_STATE i, st)])
def reqs (l : List SignReq) (s : State) : State := ky (fun k => { k with signQ := l }) s
def rdy3 (s : State) : State :=
  s.setFlds [(F.LMS_STATUS_READY 0, 1), (F.LMS_STATUS_READY 1, 1), (F.LMS_STATUS_READY 2, 1)]
def frm : McFrame := ⟨none, 3, 1, 12345678901234, List.replicate 70 3⟩
def inp (a b : Nat) : State :=
  lg (fun l => { l with cfg := 0xF00C8003#32, residual := [(0, 5)], gapMs := 7 })
    (up.setFlds [(F.LDG_INPUT_VALUE 0, a), (F.LDG_INPUT_VALUE 1, b), (F.LDG_INPUT_VALUE 2, a), (F.LDG_INPUT_VALUE 3, b),
      (F.LDG_STATUS_STALE, 0xF0)])
/-! Sleep -/
def g0 : State :=
  up.setFlds [(F.NM_MBR_DATA0_EN 1, 1), (F.NM_MBR_DATA3_GROUPS 1, 6), (F.NM_MBR_DATA0_EN 5, 1),
    (F.NM_MBR_DATA3_GROUPS 5, 2), (F.NM_MBR_DATA0_PORT 5, 3), (F.NM_MBR_DATA1_MAC_HI 1, 0x1234),
    (F.NM_MBR_DATA2_MAC_LO 1, 0x56789ABC), (F.NM_PORT_GROUP_GROUP 0, 0x00211000), (F.NM_CHAN_GROUP_GROUP 0, 0x10),
    (F.NM_CHAN_GROUP_GROUP 3, 2), (F.NM_SLEEP_EN_SLEEP_EN, 0xFFFE), (F.LIN_CTRL_MODE 0, 1), (F.CAN_CTRL_MODE 1, 1)]
def msg (ty rnd set member veto : Nat) : List Byte :=
  beBytes 6 0x025147921000 ++ beBytes 6 0x123456789ABC ++ beBytes 2 0x88B6 ++ beBytes 1 1 ++ beBytes 1 ty ++
    beBytes 2 rnd ++ beBytes 2 set ++ beBytes 2 veto ++ beBytes 1 member ++ List.replicate 20 0
def rnd : State :=
  (nm (fun n => { n with round := 7, set := 6, candidates := 6, stayed := 6, visiting := some 1, toVisit := [5, 7] })
    g0).setFlds [(F.NM_STATE_RING, 1)]
def com : State :=
  (nm (fun n => { n with committed := 6, tCommit := 0, armed := true, told := [1] }) g0).setFlds [(F.NM_STATE_RING, 2)]
def asl (l : List (Fld × Nat) := []) : State :=
  g0.setFlds ([(F.NM_STATE_ASLEEP, 6), (F.NM_GROUP_STATUS_ISOLATED 1, 1), (F.WAKE_IN_CFG_EN 3, 1),
    (F.WAKE_IN_CFG_EN 4, 1), (F.WAKE_IN_GROUPS_GROUPS 3, 2), (F.WAKE_LIMITS_CHATTER_N, 3),
    (F.WAKE_LIMITS_CHATTER_MS, 100)] ++ l)
/-! Lee mode and pairing -/
def lee (s : State) : State :=
  sf (fun f => { f with mode := .lee, leeTime := 5000000000 * fracPerNs })
    (s.setFlds [(F.MAC_STATUS_LINK_UP 0, 1), (F.MAC_STATUS_LINK_UP 5, 1), (F.CAN_CTRL_MODE 23, 1), (F.MAC_CFG_EN 0, 1),
      (F.MAC_CFG_EN 5, 1)])
def lfr (chan : Nat) : List Word := [BitVec.ofNat 32 (chan * 0x200000 + 8 * 1024 + 4), 0x123, 100, 0]
def prs (role : Nat) (l : List (Fld × Nat) := []) : State :=
  up.setFlds ([(F.PAIR_CFG_MODE, 1), (F.PAIR_STATUS_ROLE, role), (F.MAC_STATUS_LINK_UP 8, 1)] ++ l)
def pmsg (ty role : Nat) (body : List Byte) : List Byte :=
  beBytes 6 1 ++ beBytes 6 2 ++ beBytes 2 0x88B5 ++ beBytes 1 0xFA ++ beBytes 1 1 ++ beBytes 1 ty ++
    beBytes 1 (128 + role) ++ beBytes 4 1 ++ beBytes 6 5 ++ beBytes 4 6 ++ beBytes 2 body.length ++ body
def hb (mode fl : Nat) : List Byte :=
  beBytes 2 fl ++ beBytes 1 mode ++ [0] ++ beBytes 4 up.data.lfsrSeed ++ up.buildId ++ beBytes 8 0 ++ beBytes 8 77
def rdy (s : State) : State :=
  (tw (fun t => { t with rejoined := true, partnerFlags := 2 }) s).setFlds
    [(F.PAIR_STATUS_PARTNER_PRESENT, 1), (F.TIME_STATUS_STATE, 2)]
def agr (s : State) : State := sf (fun f => { f with agreed := [(8, true)] }) s
def e0 : JEntry :=
  ⟨0, entryBody 0 1 3 0x20 9 5 0 (beBytes 2 4 ++ beBytes 2 0 ++ [0, 0, 0, 1]), List.replicate 16 7⟩
def e34 : JEntry := ⟨0, entryBody 0 1 3 0x34 9 5 0 (beBytes 2 0 ++ beBytes 2 0), List.replicate 16 7⟩
def eb : List Byte := e0.body ++ e0.chain
def e1 : JEntry := ⟨1, List.replicate 48 7, List.replicate 16 9⟩
def jr (l : List JEntry) (s : State) : State := mg (fun m => { m with jrn := l }) s
def acks (n : Nat) (s : State) : State := tw (fun t => { t with acks := [(⟨.spi, 3, 9, 0x20, [0, 0, 0, 1], 0, 0, 0⟩, n)] }) s
def snp (s : State) : State :=
  tw (fun t => { t with snapping := true, step := 4, snap := [(.delta (K.SEQG_WIN_CFG 3), 5)] }) s
def jn (l : List (Fld × Nat) := []) : State :=
  up.setFlds ([(F.PAIR_CFG_MODE, 2), (F.PAIR_STATUS_ROLE, 6), (F.PAIR_STATUS_PARTNER_PRESENT, 1),
    (F.MAC_STATUS_LINK_UP 8, 1)] ++ l)
def pcp : Copy := ⟨none, [1, 2, 3], none, 0, none, false, none, 0, .pair, false, none⟩
def crd (v n r : Nat) : List Byte := beBytes 1 r ++ beBytes 1 1 ++ beBytes 2 v ++ beBytes 4 n
def own (b : Nat) (s : State) : State := s.setFlds [(F.BANK_OWNER_OWNER b, 2)]
def po (a : Nat) (p : Bool) (s : State) : State :=
  mg (fun m => { m with posted := [⟨7, a, 0x80008000, 0x12345678, p, none⟩] }) s
def tri (a : Nat) (m d : Word) : List Byte := beBytes 4 a ++ beBytes 4 m.toNat ++ beBytes 4 d.toNat
def cmdFrame : List Byte := beBytes 6 1 ++ beBytes 6 2 ++ beBytes 2 0x88B5 ++ List.replicate 50 0
def recLdg : List Byte := beBytes 4 (0x800 * 65536 + 4) ++ [0x01, 0x40, 0x20, 3]

/-! ## Ill-formed commands: each check of `Instr.wf` refuses one -/

/-- A start whose strap has no value of a two-valued strap. -/
def badEnv : StartEnv := ⟨2, 0, none, 0, false, 0, false, [], [], [], [], none, 0⟩

/-- Addresses and ports that the device does not have. -/
def illPorts : List Instr :=
  [.registerWrite 3 0 0, .snapshotLoRead 0, .snapshotLoWrite 0 0, .snapshotHiWrite 0 0, .heldRegisterWrite 0 0 0,
   .supplyMonitorTrip 10 true, .coldStart badEnv, .frameReceive 34 .express [] .more, .frameReceive 26 (.start 0) [] .more,
   .frameEndWritten 35, .linkChange 34 true true ⟨true, 0⟩, .egressSelection 35 .express 0 .none,
   .egressSelection 26 .preemptable 0 .none, .transmitEnd 35 .express .none, .quarantineEnd 568, .bufferAudit [131072],
   .verifySend 26, .verifyReceive 26, .respondReceive 26, .mergeCfgApply 26, .macCfgWrite 35 0 0, .macFrameWrite 35 0 0,
   .clear 0, .mdioAccess 2 0, .mdioAccessDone 0 (some 65536), .mdioPoll 2, .mdioInterruptPoll 8, .mdioCfgWrite 2 0 0]

/-- Table entries, network time and channels that the device does not have. -/
def illTables : List Instr :=
  [.fdbReadIndex 32768, .clsWinEntryWrite 0 0 0, .swap 2, .frerResetTimer 1024, .gateChangeTime 34,
   .gateEntryTransition 34, .gateHoldRequest 34, .sourceWrite 4, .followUpRelay 34, .pdelayReqSend 34,
   .inputEpoch 32768 0, .ppsOutEdge 4, .canFrameReceive 24 (cfr 0 5 false []) 0, .canFrameReceive 0 (cfr 9 5 false []) 0,
   .canArbitration 24, .canTxComplete 24, .canBusError 0 8 false 0, .canBusError 0 1 false 2, .busoffHoldEnd 24,
   .recover 24, .canRecoveryDone 24, .canIsolate 24 false, .canIsolationEnd 24, .linIsolate 8, .linIsolationEnd 8,
   .linSlot 8, .linHeaderReceive 0 64 ⟨true, 0⟩, .linFrameReceive 0 (List.replicate 10 0) .whole 0, .linResponseTimeout 8,
   .switch 8, .wake 8, .shadowClear 32, .linWakePulseEnd 8]

/-- The Weaver's, the key engine's, sleep's, Lee mode's and the management's operands that the device does not have. -/
def illOthers : List Instr :=
  [.pduTimeout 4096, .carrierFrameClose 512, .wvrImageWrite 16 0, .secSaCommit 10 0, .txAnApply 10, .lcAdvance ⟨badEnv, none⟩, .lcAdvance ⟨env0, some 4⟩,
   .signingKeyReady 3, .lmsTreeReady 3, .inputStale 8, .groupIdle 16, .forcedSleep 16, .nmWake 65536,
   .wakeInputFilterPass 5, .wakeInputStuck 5, .wakeInputUnmask 5, .wakeFilterCopyFault 5, .gust badEnv, .fatalFault 0 0,
   .digestCompare 0x100000000, .scrubVisit (.tcam 2816),
   .scrubVisit (.fdb 32768), .scrubVisit (.buffer 280 .nodeList), .scrubVisit (.mramDouble (some 3) 0), .temperatureWarning 256, .tjWarnRearm 256, .leeSlot 64, .leeFrameSend 64,
   .leeExitTimeout badEnv, .faultInject 2 0, .faultInject 0 64, .creditResetTimeout 288,
   .bridgeReqReceive false 65536 0 0 0, .bridgeReqReceive false 0 2 0 0, .bridgeRspReceive 0 true 8 0, .restart badEnv,
   .imageActivate badEnv, .handover 32 0, .handover 0 4, .bankDrainDone 32, .bankClearDone 32, .pulse 128, .hold 128,
   .release 128, .replayListExit 34]

theorem test_illPorts_not_wf : illPorts.all (fun c => !c.wf) = true := by decide +kernel
theorem test_illTables_not_wf : illTables.all (fun c => !c.wf) = true := by decide +kernel
theorem test_illOthers_not_wf : illOthers.all (fun c => !c.wf) = true := by decide +kernel

/-- An ill-formed command changes nothing (log entry 6). -/
def unheeded (c : Instr) (s : State) : Bool :=
  match exec c s with
  | .next t => t == s
  | _ => false

theorem test_illPorts_unheeded : illPorts.all (unheeded · up) = true := by decide +kernel
theorem test_illTables_unheeded : illTables.all (unheeded · up) = true := by decide +kernel
theorem test_illOthers_unheeded : illOthers.all (unheeded · up) = true := by decide +kernel

/-! ## Commands -/

/-- R9 and R7 over GLB_SCRATCH: the bits the mask names take the value, the others stay. -/
theorem test_registerWrite_masks :
    (run [.registerWrite K.GLB_SCRATCH 0x0000FFFF 0x12345678] (up.setReg K.GLB_SCRATCH 0xAAAABBBB)).reg K.GLB_SCRATCH =
      0xAAAA5678 := by decide +kernel

/-- R9: LO holds its write until HI takes both halves. -/
theorem test_snapshotHiWrite_takes_both :
    (run [.snapshotLoWrite K.TIME_SET_S_LO 7, .snapshotHiWrite K.TIME_SET_S_HI 1] up).pair K.TIME_SET_S_LO
      K.TIME_SET_S_HI = 2 ^ 32 + 7 := by decide +kernel

/-- IEEE 802.3's CRC-32 over the digits 1 to 9 is 0xCBF43926 (the polynomial and form of R141). -/
theorem test_crc32_of_digits : crc32 [0x31, 0x32, 0x33, 0x34, 0x35, 0x36, 0x37, 0x38, 0x39] = 0xCBF43926 := by
  decide +kernel

/-- ISO 17987's protected identifiers of 0x3C and 0x3D are 0x3C and 0x7D. -/
theorem test_linPid_of_diagnostics : linPid 0x3C = 0x3C ∧ linPid 0x3D = 0x7D := by decide +kernel

/-- R76: a frame of 64 bytes whose FCS holds is counted as good. -/
theorem test_frameReceive_counts_good :
    (run [.frameReceive 12 .express (raw 64 ++ fcsBytes (raw 64)) .ended] (lk 12)).cnt (C.mac 12 1) = 1 := by
  decide +kernel

/-- R244: a transmit error flag's 8 over a TEC of 248 makes 256 and bus-off. -/
theorem test_canBusError_goes_bus_off :
    (run [.canBusError 23 1 true 8] (ch [(F.CAN_STATUS_TEC 23, 248)] bz)).fld (F.CAN_STATUS_STATE 23) = 2 := by
  decide +kernel

/-- R487: a handover of a bank that is not reserved goes to draining; one that is busy keeps its state. -/
theorem test_handover_starts_draining :
    (run [.handover 31 2] up).fld (F.BANK_OWNER_STATE 31) = 1 ∧
      (run [.handover 31 2, .handover 31 0] up).fld (F.BANK_OWNER_TARGET 31) = 2 := by decide +kernel

/-- R540: the power-on reset holds the unit, and INH stays as it was. -/
theorem test_porstAssert_holds : (run [.porstAssert] up).boot.held = true := by decide +kernel

/-- The queue is first in, first out. -/
theorem test_step_takes_the_front :
    (match step { up with pending := [.registerWrite K.GLB_SCRATCH 0xFFFFFFFF 5, .learn] } with
      | .next t => t == { up.setReg K.GLB_SCRATCH 5 with pending := [.learn] }
      | _ => false) = true := by decide +kernel

/-- The table gives its rows no bits, so no word spells a command. -/
theorem test_no_word_spells_a_command : decodeTableWord 16 0x1234 = none ∧ up.withFetchWord 16 0x1234 = up := ⟨rfl, rfl⟩

/-- FIPS 180-4: the digest of "abc" begins with 0xBA7816BF. -/
theorem test_sha256_of_abc : (sha256 [0x61, 0x62, 0x63]).take 4 = [0xBA, 0x78, 0x16, 0xBF] := by decide +kernel

/-- FIPS 197, appendix C.1: AES-128 of 0x00112233...FF under the key 0x000102...0F begins with 0x69C4E0D8. -/
theorem test_aes128_of_fips197 :
    (aes ((List.range 16).map (fun i => BitVec.ofNat 8 i)) ((List.range 16).map (fun i => BitVec.ofNat 8 (17 * i)))).take 4 =
      [0x69, 0xC4, 0xE0, 0xD8] := by decide +kernel

/-- R240: a frame that finds the receive FIFO full is counted in RX_OVERRUN. -/
theorem test_canFrameReceive_overrun :
    (run [.canFrameReceive 23 (cfr 0 5 false [1]) 0] (ch [] { CanSt.fresh with fifo := List.replicate 16 u0 })).cnt
      (C.edge 23 6) = 1 := by decide +kernel

/-! ## Every hypothesis is met: one theorem per statement, one clause after the other -/

def s1 : State := { up with pending := [.learn, .learn] }
def s2 : State := sf (fun f => { f with mode := .halted }) up
def s3 : State := holds [(K.VLAN_WIN_DATA0 5, 77), (K.VLAN_WIN_DATA1 5, 78)] (up.setFlds [(F.VLAN_WIN_INDEX_VID, 5),
  (F.MCG_WIN_INDEX_INDEX, 6)])
def s4 : State := nm (fun n => { n with latched := some (1, 0, 0), calm := true }) up
def s5 : State := withCmd 0x10 [] up
def s6 : State := aonAt 1000000000 (sf (fun f => { f with mode := .lee }) (up.setFlds [(F.SAF_CFG_EXIT_MS, 5),
  (F.SAF_CFG_EXIT_LIMIT, 5)]))
def s7 : State := withCmd 0x11 [] w0
def s8 : State := { up with boot := { up.boot with copying := some ([1, 2], ⟨[], 0, 0, false, none⟩) } }
def s9 : State := lk 33
def s10 : State := lk 25
def s11 : State := dt (fun d => { d with fdbUsed := fdbWays 3 mac0 }) lq
def s12 : State := setw [(way 1, fe true mac0)] lq
def s13 : State := setw [(way 1, fe false mac0)] lq
def s14 : State := fulls lq
def s15 : State := cqs [(96, [cpo 80]), (99, [cpo 60, cpo 70])] (lk 12)
def s16 : State := (lk 25).setTx 51 (some { tx0 with waiting := true })
def s17 : State := (lk 33).setTx 66 (some { tx0 with held := true })
def s18 : State := (lk 33).setTx 66 (some tx0)
def s19 : State := cqs [(96, [cpo 3])] (up.setQs 96 { up.qs 96 with quar := true })
def s20 : State := cls [(3, cq .quarantined false 0)] up
def s21 : State := cls [(3, cq .quarantined true 0)] up
def s22 : State := cls [(3, cq .inChain true 3)] up
def s23 : State := cls [(3, cq .free true 0)] up
def s24 : State := (dt (fun d => { d with audit := true }) up).setFlds [(F.BUF_STATUS_FREE_CELLS, 7)]
def s25 : State := dt (fun d => { d with recirc := List.replicate 64 77 }) (one.setInfo 77
  { one.info 77 with secondAt := 9 })
def s26 : State := cyc 1000 (dt (fun d => { d with tcam := [] }) two)
def s27 : State := cyc 1000 two
def s28 : State := fin afterE
def s29 : State := dt (fun d => { d with learnQ := List.replicate 64 lrn }) (fin afterE)
def s30 : State := mrg 25 1 (lk 25)
def s31 : State := run [.verifySend 25, .verifySend 25, .verifySend 25] (mrg 25 1 (lk 25))
def s32 : State := (lk 25).setTx 51 (some tx0)
def s33 : State := md ma up
def s34 : State := cyc 5000000 { poll (lk 3) with ports := { (poll (lk 3)).ports with pollFrom := [(0, some 0)] } }
def s35 : State := md { ma with poll := some 3 } (lk 3)
def s36 : State := md ma (poll (lk 3))
def s37 : State := up.setFlds [(F.FDB_STATUS_BUSY, 1)]
def s38 : State := setw [(way 1, fe true mac0)] (key0 up)
def s39 : State := dv 0 127 (key0 up)
def s40 : State := dv 0 5 (key0 up)
def s41 : State := dv 2 9 (fulls (key0 up))
def s42 : State := fop (.single 9 2)
def s43 : State := fop (.flushPort 9 0)
def s44 : State := fop (.flushDynamic 0)
def s45 : State := ix (te true 1)
def s46 : State := ix (te false 1)
def s47 : State := ix (te true 2) [(F.CLS_GEN_RETIRING, 1)]
def s48 : State := up.setFlds [(F.CLS_GEN_PENDING, 1)]
def s49 : State := up.setFlds [(F.CLS_GEN_RETIRING, 1)]
def s50 : State := sw (some 0) up
def s51 : State := sw (some 1) up
def s52 : State := aw (up.setFlds [(F.CLS_GEN_RETIRING, 1), (F.CLS_GEN_ACTIVE, 1)])
def s53 : State := up.setFlds [(F.CLS_GEN_RETIRING, 1), (F.CLS_GEN_PENDING, 1), (F.CLS_GEN_PENDING_TARGET, 1)]
def s54 : State := shp 3 1 0 up
def s55 : State := shp 3 0 0 up
def s56 : State := shp 3 1 1 up
def s57 : State := up.setFlds [(F.SCH_QUE_INDEX_INDEX, 280)]
def s58 : State := gt 3 [(F.GATE_STATUS_PENDING 3, 1)] (adm 3 up)
def s59 : State := gt 3 [] up
def s60 : State := gt 3 [] (adm 3 up)
def s61 : State := atNs 5001 (mrg 3 0x101 gts)
def s62 : State := st 3 2 [(F.GATE_CTRL_GATE_EN 33, 1)]
def s63 : State := st 2 1
def s64 : State := box .gptp 33 (gf 0 7 true (beBytes 10 0)) (rl 33 2)
def s65 : State := tm (fun t => { t with syncs := [sy none] }) (box .gptp 33 (gf 8 7 false (beBytes 6 5 ++ beBytes 4 77
  ++ List.replicate 32 1)) (rl 33 2))
def s66 : State := tm (fun t => { t with syncs := [sy (some (5000, 7, 9))] }) (rl 33 1)
def s67 : State := rl 33 1
def s68 : State := (rl 33 1).setGport 33 gp1
def s69 : State := box .gptp 33 (gf 2 8 true (beBytes 20 0)) (rl 33 1)
def s70 : State := box .gptp 33 (gf 3 0 true (beBytes 6 0 ++ beBytes 4 5000 ++ up.portIdentity 33)) ((rl 33 1).setGport
  33 gp1)
def s71 : State := box .gptp 33 (gf 10 0 true (beBytes 6 0 ++ beBytes 4 6000 ++ up.portIdentity 33)) ((rl 33 1).setGport
  33 { gp1 with t1 := some 26214400, t2t4 := some (327745536, 458752000) })
def s72 : State := atNs 5 (st 2 2)
def s73 : State := st 2 1 [(F.TIME_STATUS_MISSED, 15)]
def s74 : State := ppo 1 [(F.PPS_IN_CFG_EN, 1)]
def s75 : State := cyc 1 up
def s76 : State := ch [(F.CAN_STATUS_REC 23, 127)]
def s77 : State := ch [(F.CAN_STATUS_REC 23, 127)] { CanSt.fresh with fifo := List.replicate 16 u0 }
def s78 : State := ch [(F.CAN_CTRL_SHADOW 23, 1)] { CanSt.fresh with reqs := [rq 5] }
def s79 : State := ch [(F.CAN_CTRL_PROTOCOL 23, 1)]
def s80 : State := ch [] { CanSt.fresh with reqs := [rq 6, rq 5] }
def s81 : State := ch [(F.CAN_CTRL_SHADOW 23, 1)] bz
def s82 : State := ch [] bz
def s83 : State := ch [(F.CAN_STATUS_TEC 23, 248)] bz
def s84 : State := ch [(F.CAN_STATUS_STATE 23, 2)]
def s85 : State := ch [(F.CAN_STATUS_STATE 23, 2)] { CanSt.fresh with asked := true }
def s86 : State := ch [(F.CAN_STATUS_STATE 23, 2)] { CanSt.fresh with recovering := true }
def s87 : State := ch [(F.CAN_STATUS_ISOLATED 23, 1)]
def s88 : State := ln 0 []
def s89 : State := ln 0 [(F.LIN_STATUS_ISOLATED 7, 1)]
def s90 : State := ln 0 [(F.LIN_STATUS_SWITCH_PENDING 7, 1)]
def s91 : State := ln 0 [] { LinSt.fresh with pulse := true }
def s92 : State := ch [(F.CAN_CTRL_SHADOW 23, 1), (F.LIN_CTRL_SHADOW 7, 1)]
def s93 : State := ln 2 [] { LinSt.fresh with next := 7, await := some 9, slotAt := some 0 }
def s94 : State := ln 0 [] { LinSt.fresh with slotAt := some 0 }
def s95 : State := ln 2 [] { LinSt.fresh with slotAt := some 0 }
def s96 : State := ln 1 [] { sup with slotAt := some 0 }
def s97 : State := ln 0 [(F.LIN_SCHED_ENTRY_TYPE 7 0, 2)] { LinSt.fresh with slotAt := some 0 }
def s98 : State := ln 2 [(F.LIN_CTRL_MODE 7, 2)]
def s99 : State := ln 1 [(F.LIN_CTRL_MODE 7, 2)] sup
def s100 : State := ln 1 [] { LinSt.fresh with await := some 5 }
def s101 : State := un up
def s102 : State := un (rxp 0 0 up)
def s103 : State := { up with edge := { up.edge with can := [(3, { CanSt.fresh with fifo := [u0] })] } }
def s104 : State := rtS []
def s105 : State := rtS [(F.WVR_RT_DATA0_RANGE_EN 11, 1)]
def s106 : State := dl 0 (up.setFlds [(F.CAN_CTRL_MODE 0, 1)])
def s107 : State := dl 0 (wv (fun w => { w with units := List.replicate 256 u0 }) (up.setFlds [(F.CAN_CTRL_MODE 0, 1)]))
def s108 : State := dl 5000 up
def s109 : State := cyc 5000 (car [(F.WVR_CAR_CFG1_HOLD_US 511, 3)])
def s110 : State := mg (fun m => { m with wvLane := List.replicate 64 lane0 }) (cyc 5000 (car []))
def s111 : State := car []
def s112 : State := txs []
def s113 : State := wv (fun w => { w with due := [(7, some 0)] }) (txs [(F.WVR_PDU_DATA3_US 7, 50)])
def s114 : State := wv (fun w => { w with lastSend := [(7, some 10)] }) (txs [(F.WVR_PDU_DATA5_MIN_GAP_US 7, 50)])
def s115 : State := txs [(F.WVR_PDU_STATE_DEFERRED 7, 1)]
def s116 : State := holds [(K.WVR_RT_DATA0 11, 0x80000014)] ((pdu 20 1 2 0 0 8 (rxp 1 11 up)).setFlds
  [(F.WVR_RT_INDEX_INDEX, 11), (F.WVR_CAR_CFG0_ZONE 0, 3), (F.ZONE_PAIR_PERMIT 3, 0)])
def s117 : State := (up.setFlds [(F.SEC_SA_INDEX_SA 9, 5)]).setRx 18 (some ⟨none, [1], 0, false, false, 0, 0, 0, []⟩)
def s118 : State := up.setFlds [(F.WVR_PDU_INDEX_INDEX, 7), (F.WVR_PDU_DATA0_VALID 7, 1), (F.WVR_PDU_DATA0_DIR 7, 1)]
def s119 : State := ky (fun k => { k with slots := [(1, ⟨0, .of 1 [1], .of 1 [1]⟩)] }) ((up.setFlds [(F.SEC_CFG_TX_AN 9,
  2), (F.SEC_SA_CFG_EN 9 2, 1), (F.SEC_SA_CFG_KEY_SLOT 9 2, 1), (F.KEY_SLOT_INFO_STATE 1, 1)]).setReg (K.SEC_SA_PN_LO 9
  2) 5)
def s120 : State := ky (fun k => { k with keyOp := some (0x30, 0x17) }) (withCmd 0x30 [] up)
def s121 : State := withCmd 0x34 [] up
def s122 : State := withCmd 0x35 [1, 2, 3, 4] up
def s123 : State := rdy3 (reqs [⟨0, .attest (cmd 0x35 []), [], 0⟩] (withCmd 0x35 [] up))
def s124 : State := rdy3 (reqs [⟨2, .batch 3 9, [1], 0⟩] up)
def s125 : State := up.setFlds [(F.LCS_STATUS_STATE, 4)]
def s126 : State := (rdy3 up).setPair (K.LMS_NEXT_LO 2) (K.LMS_NEXT_HI 2) 77
def s127 : State := withCmd 0x50 [0, 0, 0, 1, 0, 0, 0, 2] up
def s128 : State := withCmd 0x71 [] (mg (fun m => { m with mcFrames := [frm, frm] }) up)
def s129 : State := withCmd 0x71 [] (mg (fun m => { m with mcFrames := [{ frm with head := some 7 }] }) (up.setFrame 7
  fr0))
def s130 : State := atNs 1000000 (lg (fun l => { l with cfg := 0#32 }) up)
def s131 : State := atNs 1000000 (inp 100 200)
def s132 : State := atNs 1000000 (inp 0xFFFFFF00 2000000)
def s133 : State := atNs 70000000000 ((lg (fun l => { l with cfg := 0xF00C8003#32 }) (inp 0 5)).setFlds
  [(F.LDG_NEXT_INDEX, 255)])
def s134 : State := lg (fun l => { l with delivered := [(3, some 5)], batchFirst := 3 }) (atNs 5000000000 (inp 0 5))
def s135 : State := atNs 5000000000000 ((inp 0 5).setFlds [(F.LDG_NEXT_INDEX, 255)])
def s136 : State := lg (fun l => { l with signing := some 4 }) up
def s137 : State := aonAt 5000000000000 g0
def s138 : State := nm (fun n => { n with vetoAt := some 0 }) g0
def s139 : State := nm (fun n => { n with candidates := 6 }) g0
def s140 : State := box .ring 0 (msg 2 7 6 1 2) rnd
def s141 : State := aonAt 5000000000000 rnd
def s142 : State := box .ring 0 (msg 2 8 6 1 2) rnd
def s143 : State := (com.setFlds [(F.LIN_BAUD_DIV 0, 4095), (F.NM_CFG_GUARD_US, 100)]).setLin 0
  { com.lin 0 with goSleep := true }
def s144 : State := aonAt 5000000000000 com
def s145 : State := nm (fun n => { n with latched := some (2, 0xC1, 2) }) com
def s146 : State := com.setFlds [(F.NM_STATE_ASLEEP, 1), (F.NM_CFG_CALM_EN, 1)]
def s147 : State := box .ring 0 (msg 5 0 2 1 0) asl
def s148 : State := asl [(F.WAKE_STATUS_LEVEL, 0x08)]
def s149 : State := nm (fun n => { n with waking := 4 }) asl
def s150 : State := nm (fun n => { n with due := 7, dueCode := 0xE1 }) asl
def s151 : State := nm (fun n => { n with calm := true }) asl
def s152 : State := nm (fun n => { n with calm := true, latched := some (1, 0, 0) }) asl
def s153 : State := aonAt 5000000000000 (asl [(F.WAKE_STATUS_LEVEL, 0x18)])
def s154 : State := asl [(F.WAKE_STATUS_STUCK, 0x18)]
def s155 : State := aonAt 5000000000000 (nm (fun n => { n with pulse := true }) asl)
def s156 : State := up.setFlds [(F.SAF_DIGEST_MODE_REPORT, 0xFF)]
def s157 : State := up.setFrame 7 fr0
def s158 : State := setw [(5, fe false 2)] up
def s159 : State := setw [(31, fe true 2)] up
def s160 : State := sf (fun f => { f with warned := true }) up
def s161 : State := sf (fun f => { f with pllWait := true }) (lee up)
def s162 : State := sf (fun f =>
  { f with streams := [(63, List.replicate 6 0x21)], store := [(63, [(4000000000 * fracPerNs, [1, 2]), (3000000000 * fracPerNs, [3, 4])])] })
  (lee up)
def s163 : State := sf (fun f =>
  { f with frames := [(1, lfr 23), (63, lfr 24)], sentAt := [(1, some 4999), (63, some 4999)] }) (lee up)
def s164 : State := sf (fun f => { f with frames := [(1, lfr 23), (63, lfr 24)] }) (lee up)
def s165 : State := box .pair 8 (pmsg 1 3 (hb 1 1)) (prs 4)
def s166 : State := tw (fun t => { t with step := 2 }) (prs 4 [(F.PAIR_STATUS_PARTNER_PRESENT, 1)])
def s167 : State := tw (fun t => { t with step := 9 }) (prs 4)
def s168 : State := prs 4
def s169 : State := rdy (prs 4 [(F.PAIR_STATUS_HOLD_IN, 1)])
def s170 : State := prs 4 [(F.PAIR_STATUS_HOLD_IN, 1)]
def s171 : State := agr (prs 1)
def s172 : State := agr (prs 2)
def s173 : State := tw (fun t => { t with prefer := true }) (prs 1)
def s174 : State := prs 3 [(F.BOOT_STATUS_UNIT_ID, 1), (F.PAIR_STATUS_HOLD_IN, 1)]
def s175 : State := tw (fun t => { t with mask := 1 }) (prs 4 [(F.PAIR_STATUS_HOLD_IN, 1)])
def s176 : State := box .pair 8 (pmsg 2 3 (beBytes 8 1 ++ List.replicate 64 7)) (prs 4)
def s177 : State := box .pair 8 (pmsg 4 3 (beBytes 8 0 ++ beBytes 6 1 ++ beBytes 4 7)) (jr [e34] (prs 4))
def s178 : State := box .pair 8 (pmsg 11 3 eb) (tw (fun t => { t with step := 3 }) (prs 4))
def s179 : State := box .pair 8 (pmsg 3 4 (beBytes 8 0)) (jr [e0] (acks 1 (prs 3 [(F.PAIR_STATUS_PARTNER_PRESENT, 1)])))
def s180 : State := acks 4 (prs 3 [(F.PAIR_STATUS_PARTNER_PRESENT, 1)])
def s181 : State := tw (fun t => { t with tSync := some 0, step := 4 }) (prs 3)
def s182 : State := tw (fun t => { t with tSync := some 0, step := 4 }) (prs 4)
def s183 : State := box .pair 8 (pmsg 6 3 []) (tw (fun t => { t with step := 3 }) (prs 4))
def s184 : State := box .pair 8 (pmsg 6 3 []) (snp (prs 4))
def s185 : State := box .pair 8 (pmsg 6 3 []) (tw (fun t => { t with overflow := true }) (snp (prs 4)))
def s186 : State := box .pair 8 (pmsg 7 3 (beBytes 2 7 ++ beBytes 2 6 ++ [0, 0] ++ beBytes 6 1 ++ beBytes 4 2)) (prs 4)
def s187 : State := box .pair 8 (pmsg 8 4 (beBytes 2 7 ++ beBytes 6 1 ++ beBytes 4 2)) (prs 3)
def s188 : State := dt (fun d => { d with returned := [(287, 8)] }) jn
def s189 : State := box .pair 8 (pmsg 5 6 (crd 287 77 0)) (jn.setVoqSent 287 5)
def s190 : State := box .pair 8 (pmsg 5 6 (crd 287 77 1)) ((jn.setVoqSent 287 5).setVoqBack 287 9)
def s191 : State := cqs [(567, [pcp])] (jn.setVoqSent 287 5)
def s192 : State := dt (fun d => { d with crossing := [5] }) (jn.setFrame 5
  { fr0 with written := true, bytes := List.replicate 64 0, ihold := true, ref := 1 })
def s193 : State := up.setReplay 33 [(24, pcp), (25, pcp)]
def s194 : State := mg (fun m => { m with cmdQ := List.replicate 16 ⟨.spi, []⟩ }) up
def s195 : State := box .command 8 cmdFrame up
def s196 : State := mg (fun m =>
  { m with respSpi := [[1, 2, 3], [4]], events := [⟨3, 0x301, [1, 2]⟩], pwfl := [⟨3, 7, 0x40000, 123456789012345678⟩] })
  (withCmd 0x80 [0, 0, 0, 3] up)
def s197 : State := mg (fun m => { m with events := [⟨3, 0x301, [1, 2]⟩] }) (up.setFlds [(F.LCS_STATUS_STATE, 4)])
def s198 : State :=
  { jr [⟨5 + 2 ^ 32 * 3, List.replicate 48 7, List.replicate 16 9⟩] up with heldLo := [(K.JRN_RD_INDEX_LO, some 5)] }
def s199 : State := withCmd 0x20 (beBytes 4 0) up
def s200 : State := withCmd 0x21 (beBytes 1 0 ++ beBytes 3 0 ++ beBytes 4 2 ++ [1, 2, 3, 4]) up
def s201 : State := withCmd 0x22 (beBytes 4 0) up
def s202 : State := withCmd 0x23 (beBytes 4 1) up
def s203 : State := withCmd 0x24 (beBytes 4 2 ++ [9, 9]) up
def s204 : State := withCmd 0x40 recLdg (po 0x400004 false up)
def s205 : State := withCmd 0x40 (beBytes 4 (0x2800 * 65536 + 4) ++ [1, 0x40, 0x20, 3]) up
def s206 : State := withCmd 0x40 recLdg up
def s207 : State := withCmd 0x61 [] up
def s208 : State := withCmd 0x70 (beBytes 4 0 ++ cmdFrame) up
def s209 : State := withCmd 0x70 (beBytes 4 0 ++ cmdFrame) (mg (fun m => { m with mcLane := List.replicate 64 lane0 })
  up)
def s210 : State := withCmd 0x100 (beBytes 4 K.GLB_SCRATCH) up
def s211 : State := withCmd 0x100 (beBytes 4 0x3FFFFC) up
def s212 : State := withCmd 0x101 (tri K.GLB_SCRATCH 0x12345678 0xFFFFFFFF) up
def s213 : State := own 0 (withCmd 0x101 (tri 0x400004 0x12345678 0xFFFFFFFF) up)
def s214 : State := withCmd 0x101 (tri 0x400004 0x12345678 0xFFFFFFFF) up
def s215 : State := withCmd 0x101 (tri 0x3FFFFC 0x12345678 0xFFFFFFFF) up
def s216 : State := own 0 (po 0x400004 false up)
def s217 : State := po 0x400004 false up
def s218 : State := mg (fun m => { m with run := some ⟨[0x400004], [], none, false⟩ }) (own 0 (withCmd 0x100 (beBytes 4
  0x400004) up))
def s219 : State := own 0 (box .pair 8 (pmsg 9 6 []) jn)
def s220 : State := box .pair 8 (pmsg 9 6 []) jn
def s221 : State := box .pair 8 (pmsg 10 6 []) (po 0x400004 true jn)
def s222 : State := po 0x420004 false (up.setFlds [(F.BANK_OWNER_STATE 1, 1)])
def s223 : State := up.setFlds [(F.BANK_OWNER_STATE 1, 1)]
def s224 : State := up.setFlds [(F.BANK_OWNER_STATE 1, 2), (F.BANK_OWNER_TARGET 1, 2)]
def s225 : State := run [.hold 60] up
def s226 : State := up.setFlds [(F.RST_CTRL_BUSY, 1)]
def s227 : State := mg (fun m => { m with pulsing := some 1 }) (up.setFlds [(F.RST_CTRL_BUSY, 1)])
def s228 : State := ln 0 [] { LinSt.fresh with slotAt := some 0, goSleep := true }
def s229 : State := ln 0 [(F.LIN_STATUS_SWITCH_PENDING 7, 1)] { LinSt.fresh with slotAt := some 0, next := 2 }
def s230 : State := ln 1 [(F.LIN_CTRL_MODE 7, 2)]
def s231 : State := ln 0 [] { LinSt.fresh with await := some 5, waiting := some (6, none) }
def s232 : State := withCmd 0x40 [] up

/-- States and operands that meet the hypotheses of `Obligations.StepRunsTheFrontCommand`, clause by clause. -/
theorem witness_StepRunsTheFrontCommand :
    (∃ (s : State) (c : Instr) (rest : List Instr), s.pending = c :: rest) :=
  ⟨s1, ((s1.pending).head (by decide +kernel)), (s1.pending).tail, by decide +kernel⟩

/-- States and operands that meet the hypotheses of `Obligations.EmptyQueueLetsTheClockRun`, clause by clause. -/
theorem witness_EmptyQueueLetsTheClockRun :
    (∃ (s : State), s.pending = [] ∧ s.powered = false) ∧
    (∃ (s : State), s.pending = [] ∧ s.powered = true ∧ s.saf.mode = .normal) ∧
    (∃ (s : State), s.pending = [] ∧ s.powered = true ∧ s.saf.mode ≠ .normal) :=
  ⟨⟨State.reset, by decide +kernel⟩,
   ⟨up, by decide +kernel⟩,
   ⟨s2, by decide +kernel⟩⟩

/-- States and operands that meet the hypotheses of `Obligations.CommandsEndAsTheirOperandsSay`, clause by clause. -/
theorem witness_CommandsEndAsTheirOperandsSay :
    (∃ (c : Instr), c.wf = true) ∧
    (∃ (c : Instr), c.wf = false) :=
  ⟨⟨.learn, by decide +kernel⟩,
   ⟨(.frameReceive 99 .express [] .more), by decide +kernel⟩⟩

/-- States and operands that meet the hypotheses of `Obligations.StoppedUnitHeedsOnlyItsPins`, clause by clause. -/
theorem witness_StoppedUnitHeedsOnlyItsPins :
    (∃ (c : Instr) (s : State), s.boot.held = true ∧ s.running = false ∧ c.wf = true ∧ c.needsNoStart = false) :=
  ⟨.learn, State.reset, by decide +kernel⟩

/-- States and operands that meet the hypotheses of `Obligations.QueueRunsToItsEnd`, clause by clause. -/
theorem witness_QueueRunsToItsEnd :
    (∃ (s : State), s.Ready) :=
  ⟨s1, by unfold State.Ready; decide +kernel⟩

/-- States and operands that meet the hypotheses of `Obligations.RegisterWritesAndClears`, clause by clause. -/
theorem witness_RegisterWritesAndClears :
    (∃ (s : State) (mask : Word), s.mcRuns = true ∧ mask ≠ 0) ∧
    (∃ (s : State) (addr : Nat) (r : Nat × Nat) (k : _), isCntCtrl addr = true ∧ s.busRuns addr = true ∧ r ∈ clearRanges
      addr ∧ k < r.2) ∧
    (∃ (s : State) (addr : Nat) (a : _), isCntCtrl addr = true ∧ s.busRuns addr = true ∧ (∀ r ∈ clearRanges addr, a <
      r.1 ∨ r.1 + 8 * r.2 ≤ a)) ∧
    (∃ (s : State) (addr : Nat) (p : _), isCntCtrl addr = true ∧ s.busRuns addr = true ∧ p < 35 ∧ addr = 0x40040 +
      0x1000 * p) :=
  ⟨⟨up, 1, by decide +kernel⟩,
   ⟨up, 0x40040, ((clearRanges 0x40040).headD (0, 0)), 0, by decide +kernel⟩,
   ⟨up, 0x40040, 0x40040, by decide +kernel⟩,
   ⟨up, 262208, 0, by decide +kernel⟩⟩

/-- States and operands that meet the hypotheses of `Obligations.SnapshotPairsAreWhole`, clause by clause. -/
theorem witness_SnapshotPairsAreWhole :
    (∃ (s : State) (addr : Nat) (a : _), isLo addr = true ∧ s.busRuns addr = true ∧ a ≠ addr) ∧
    (∃ (s : State), s.mcRuns = true) :=
  ⟨⟨up, K.MGT_EVT_MAC_LO, K.TIME_SET_S_LO, by decide +kernel⟩,
   ⟨up, by decide +kernel⟩⟩

/-- States and operands that meet the hypotheses of `Obligations.HeldWordsTakeEffectTogether`, clause by clause. -/
theorem witness_HeldWordsTakeEffectTogether :
    (∃ (s : State) (mask : Word) (x : Nat × (Nat → Nat) × Nat × Word) (k : _), s.mcRuns = true ∧ mask ≠ 0 ∧ x ∈
      [(0xC0040, K.VLAN_WIN_DATA0, s.fld F.VLAN_WIN_INDEX_VID, (0xFFFF0000 : Word)), (0xC0044, K.VLAN_WIN_DATA1, s.fld
      F.VLAN_WIN_INDEX_VID, 0xFFFFFFFF), (0xC0048, K.VLAN_WIN_DATA2, s.fld F.VLAN_WIN_INDEX_VID, 0x80070007), (0xC0054,
      K.MCG_WIN_DATA0, s.fld F.MCG_WIN_INDEX_INDEX, 0xFFFFFFFF)] ∧ k ≠ x.2.1 0) ∧
    (∃ (s : State), s.mcRuns = true) :=
  ⟨⟨s3, 1, (0xC0040, K.VLAN_WIN_DATA0, s3.fld F.VLAN_WIN_INDEX_VID, (0xFFFF0000 : Word)), 3, by decide +kernel, by
     decide +kernel, List.mem_cons_self, by decide +kernel⟩,
   ⟨s3, by decide +kernel⟩⟩

/-- States and operands that meet the hypotheses of `Obligations.PowerOnResetStopsTheUnit`, clause by clause. -/
theorem witness_PowerOnResetStopsTheUnit :
    (∃ (s : State) (rail : _), rail < 10 ∧ (s.nm.calm = false ∨ rail = 7)) :=
  ⟨up, 9, by decide +kernel⟩

/-- States and operands that meet the hypotheses of `Obligations.StartsBeginFromABlankState`, clause by clause. -/
theorem witness_StartsBeginFromABlankState :
    (∃ (s : State) (env : StartEnv), startOk env = true ∧ s.boot.held = true) ∧
    (∃ (s : State) (env : StartEnv) (cause : _), startOk env = true ∧ s.nm.latched = some cause ∧ s.nm.calm = true ∧
      s.boot.held = false) ∧
    (∃ (s : State) (env : StartEnv) (c : _) (rest : _), startOk env = true ∧ s.mgt.execQ = c :: rest ∧ c.opcode = 0x10 ∧
      s.mcRuns = true) ∧
    (∃ (s : State) (env : StartEnv), startOk env = true ∧ s.powered = true ∧ s.saf.mode ≠ .normal ∧ s.fld
      F.SAF_CFG_EXIT_MS ≠ 0 ∧ s.flag F.SAF_STATUS_NO_CLOCK = false ∧ s.fld F.SAF_STATUS_EXITS < s.fld
      F.SAF_CFG_EXIT_LIMIT ∧ s.fld F.BOOT_STATUS_STATE ≠ 0xE ∧ s.saf.enterAt + s.fld F.SAF_CFG_EXIT_MS * aonPerMs ≤
      s.aon) :=
  ⟨⟨State.reset, env0, by decide +kernel⟩,
   ⟨s4, env0, ((s4.nm.latched).get (by decide +kernel)), by decide +kernel⟩,
   ⟨s5, env0, ((s5.mgt.execQ).head (by decide +kernel)), (s5.mgt.execQ).tail, by decide +kernel⟩,
   ⟨s6, env0, by decide +kernel⟩⟩

/-- States and operands that meet the hypotheses of `Obligations.StartsEndInForwarding`, clause by clause. -/
theorem witness_StartsEndInForwarding :
    (∃ (s : State) (c : _) (rest : _), s.fld F.BOOT_STATUS_STATE = 0xA ∧ s.powered = true ∧ s.saf.mode = .normal ∧ s.fld
      F.PAIR_CFG_MODE = 0 ∧ s.mgt.execQ = c :: rest ∧ c.opcode = 0x11) ∧
    (∃ (s : State) (b : List Byte) (x : Seal), s.boot.copying = some (b, x) ∧ s.powered = true) :=
  ⟨⟨s7, ((s7.mgt.execQ).head (by decide +kernel)), (s7.mgt.execQ).tail, by decide +kernel⟩,
   ⟨s8, ((s8.boot.copying).get (by decide +kernel)).1, ((s8.boot.copying).get (by decide +kernel)).2, by decide +kernel⟩⟩

/-- States and operands that meet the hypotheses of `Obligations.ReceptionIsJudged`, clause by clause. -/
theorem witness_ReceptionIsJudged :
    (∃ (s : State) (p : Nat), p < 34 ∧ s.powered = true ∧ s.flag (F.MAC_STATUS_LINK_UP p) = true ∧ s.rxAt (2 * p) = none
      ∧ (10 ≤ p ∨ s.flag (F.SEC_CFG_RX_EN p) = false)) ∧
    (∃ (s : State) (p : Nat) (kind : MPacket) (count : _) (frag : _), rxForm p kind = true ∧ s.powered = true ∧ s.flag
      (F.MAC_STATUS_LINK_UP p) = true ∧ kind = .cont count frag ∧ s.rxAt (2 * p + 1) = none) :=
  ⟨⟨s9, 33, by decide +kernel⟩,
   ⟨s10, 25, (.cont 1 1), 1, 1, by decide +kernel⟩⟩

/-- States and operands that meet the hypotheses of `Obligations.LearningAndAgeing`, clause by clause. -/
theorem witness_LearningAndAgeing :
    (∃ (s : State) (r : LearnReq) (rest : List LearnReq) (i : _), s.running = true ∧ s.data.learnQ = r :: rest ∧
      s.learnEntry r = some i ∧ s.fdbTaken i = true) ∧
    (∃ (s : State) (r : LearnReq) (rest : List LearnReq) (i : _) (old : _), s.running = true ∧ s.data.learnQ = r :: rest
      ∧ (∀ i, s.learnEntry r = some i → s.fdbTaken i = false) ∧ s.fdbFind r.fid r.mac = some (i, old) ∧ old.static =
      true) ∧
    (∃ (s : State) (r : LearnReq) (rest : List LearnReq) (i : _) (old : _) (j : _), s.running = true ∧ s.data.learnQ = r
      :: rest ∧ (∀ i, s.learnEntry r = some i → s.fdbTaken i = false) ∧ s.fdbFind r.fid r.mac = some (i, old) ∧
      old.static = false ∧ j ≠ i) ∧
    (∃ (s : State) (r : LearnReq) (rest : List LearnReq) (i : _) (j : _), s.running = true ∧ s.data.learnQ = r :: rest ∧
      (∀ i, s.learnEntry r = some i → s.fdbTaken i = false) ∧ s.fdbFind r.fid r.mac = none ∧ s.fdbFree r.fid r.mac =
      some i ∧ j ≠ i) ∧
    (∃ (s : State) (r : LearnReq) (rest : List LearnReq), s.running = true ∧ s.data.learnQ = r :: rest ∧ (∀ i,
      s.learnEntry r = some i → s.fdbTaken i = false) ∧ s.fdbFind r.fid r.mac = none ∧ s.fdbFree r.fid r.mac = none) ∧
    (∃ (s : State), s.running = true ∧ s.fld F.FDB_CFG_AGE_S ≠ 0) :=
  ⟨⟨s11, ((s11.data.learnQ).head (by decide +kernel)), (s11.data.learnQ).tail, 5964, by decide +kernel⟩,
   ⟨s12, ((s12.data.learnQ).head (by decide +kernel)), (s12.data.learnQ).tail, 5965, (((s12.fdbFind
     ((s12.data.learnQ).head (by decide +kernel)).fid ((s12.data.learnQ).head (by decide +kernel)).mac)).get (by
     decide +kernel)).2, by decide +kernel, by decide +kernel, fun _ _ => Bool.and_false _, by decide +kernel, by
     decide +kernel⟩,
   ⟨s13, ((s13.data.learnQ).head (by decide +kernel)), (s13.data.learnQ).tail, 5965, (((s13.fdbFind
     ((s13.data.learnQ).head (by decide +kernel)).fid ((s13.data.learnQ).head (by decide +kernel)).mac)).get (by
     decide +kernel)).2, 0, by decide +kernel, by decide +kernel, fun _ _ => Bool.and_false _, by decide +kernel, by
     decide +kernel, by decide +kernel⟩,
   ⟨lq, ((lq.data.learnQ).head (by decide +kernel)), (lq.data.learnQ).tail, 5964, 0, by decide +kernel, by
     decide +kernel, fun _ _ => Bool.and_false _, by decide +kernel, by decide +kernel, by decide +kernel⟩,
   ⟨s14, ((s14.data.learnQ).head (by decide +kernel)), (s14.data.learnQ).tail, by decide +kernel, by decide +kernel, fun
     _ _ => Bool.and_false _, by decide +kernel, by decide +kernel⟩,
   ⟨lq, by decide +kernel⟩⟩

/-- States and operands that meet the hypotheses of `Obligations.LinkChangeIsShown`, clause by clause. -/
theorem witness_LinkChangeIsShown :
    (∃ (s : State) (p : Nat), p < 34 ∧ s.powered = true ∧ p < 8) ∧
    (∃ (s : State) (p : Nat) (phyUp : Bool) (lock : Bool) (usx : Bool) (speed : Nat), p < 34 ∧ s.powered = true ∧ s.flag
      (F.MAC_STATUS_LINK_UP p) ≠ State.upWith s p phyUp lock usx speed) ∧
    (∃ (s : State) (p : Nat) (phyUp : Bool) (lock : Bool) (usx : Bool) (speed : Nat), p < 34 ∧ s.powered = true ∧ s.flag
      (F.MAC_STATUS_LINK_UP p) = State.upWith s p phyUp lock usx speed) ∧
    (∃ (s : State) (p : Nat) (phyUp : Bool) (lock : Bool) (usx : Bool) (speed : Nat), p < 34 ∧ s.powered = true ∧ s.flag
      (F.MAC_STATUS_LINK_UP p) = true ∧ State.upWith s p phyUp lock usx speed = false) :=
  ⟨⟨up, 3, by decide +kernel⟩,
   ⟨s9, 33, false, false, false, 3, by decide +kernel⟩,
   ⟨up, 3, false, false, false, 3, by decide +kernel⟩,
   ⟨s9, 33, false, false, false, 3, by decide +kernel⟩⟩

/-- States and operands that meet the hypotheses of `Obligations.EgressStartsAndEnds`, clause by clause. -/
theorem witness_EgressStartsAndEnds :
    (∃ (s : State) (u : State) (p : Nat) (n : _) (c : _) (rest : _), p < 35 ∧ s.running = true ∧ s.portUp p = true ∧ u =
      (s.cleanHeads p).showReady p false ∧ u.txAt (2 * p) = none ∧ u.txAt (2 * p + 1) = none ∧ s.twin.replaying = false
      ∧ u.plcaOpen p = true ∧ (u.cleanHeads p).choose p ((u.cleanHeads p).ready p false) = some n ∧ (u.cleanHeads
      p).queue (8 * p + n) = c :: rest ∧ c.frame = none ∧ c.launch = none ∧ c.own.length + 4 ≤ s.fld
      (F.MAC_FRAME_MAX_FRAME p) ∧ c.cross = none ∧ (10 ≤ p ∨ s.flag (F.SEC_CFG_TX_EN p) = false)) ∧
    (∃ (s : State) (u : State) (p : Nat) (x : _), p < 35 ∧ s.running = true ∧ s.portUp p = true ∧ u = (s.cleanHeads
      p).showReady p true ∧ p < 26 ∧ u.txAt (2 * p) = none ∧ u.expressReady p = false ∧ u.flag
      (F.GATE_STATUS_HOLD_ACTIVE p) = false ∧ u.txAt (2 * p + 1) = some x ∧ x.waiting = true) ∧
    (∃ (s : State) (p : Nat) (mac : MacSel) (tx : Tx), p < 34 ∧ txForm p mac = true ∧ s.running = true ∧ s.powered =
      true ∧ s.txAt (2 * p + (match mac with | .express => 0 | .preemptable => 1)) = some tx ∧ s.txCanEnd p tx = true ∧
      tx.cutThrough = false ∧ tx.held = true) ∧
    (∃ (s : State) (p : Nat) (mac : MacSel) (tx : Tx), p < 34 ∧ txForm p mac = true ∧ s.running = true ∧ s.powered =
      true ∧ s.txAt (2 * p + (match mac with | .express => 0 | .preemptable => 1)) = some tx ∧ s.txCanEnd p tx = true ∧
      tx.cutThrough = false ∧ tx.held = false ∧ tx.stomp = false ∧ (∀ h f, tx.copy.frame = some h → s.frame h = some f →
      f.bad = false)) :=
  ⟨⟨s15, ((s15.cleanHeads 12).showReady 12 false), 12, 3, ((((((s15.cleanHeads 12).showReady 12 false).cleanHeads
     12).queue (8 * 12 + 3))).head (by decide +kernel)), (((((s15.cleanHeads 12).showReady 12 false).cleanHeads
     12).queue (8 * 12 + 3))).tail, by decide +kernel⟩,
   ⟨s16, ((s16.cleanHeads 25).showReady 25 true), 25, (((((s16.cleanHeads 25).showReady 25 true).txAt (2 * 25 + 1))).get
     (by decide +kernel)), by decide +kernel⟩,
   ⟨s17, 33, MacSel.express, (((s17.txAt (2 * 33 +
     (match MacSel.express with | .express => 0 | .preemptable => 1)))).get (by decide +kernel)), by decide +kernel⟩,
   ⟨s18, 33, MacSel.express, (((s18.txAt (2 * 33 +
     (match MacSel.express with | .express => 0 | .preemptable => 1)))).get (by decide +kernel)), by decide +kernel, by
     decide +kernel, by decide +kernel, by decide +kernel, by decide +kernel, by decide +kernel, by decide +kernel, by
     decide +kernel, by decide +kernel, fun h _ e => absurd (e.symm.trans (by decide +kernel : _ = none)) (by simp)⟩⟩

/-- States and operands that meet the hypotheses of `Obligations.QueuesAreKeptClean`, clause by clause. -/
theorem witness_QueuesAreKeptClean :
    (∃ (s : State) (q : _), s.running = true ∧ (s.qs q).quar = false) ∧
    (∃ (s : State) (q : _), s.running = true ∧ (s.qs q).quar = true) ∧
    (∃ (s : State) (q : Nat) (r : _), q < 568 ∧ s.running = true ∧ (s.qs q).quar = true ∧ r ≠ q) ∧
    (∃ (s : State) (dirty : List Nat) (k : _) (c : _), dirty.all (fun k => decide (k < cellCount)) = true ∧ s.running =
      true ∧ s.data.cells.filter (fun x => x.1 == k) = [(k, c)] ∧ c.state = .quarantined ∧ c.map = false ∧ c.strike =
      false ∧ k ∉ dirty) ∧
    (∃ (s : State) (dirty : List Nat) (k : _) (c : _), dirty.all (fun k => decide (k < cellCount)) = true ∧ s.running =
      true ∧ s.data.cells.filter (fun x => x.1 == k) = [(k, c)] ∧ c.state = .quarantined ∧ c.map = false ∧ (c.strike =
      true ∨ k ∈ dirty)) ∧
    (∃ (s : State) (dirty : List Nat) (k : _) (c : _), dirty.all (fun k => decide (k < cellCount)) = true ∧ s.running =
      true ∧ s.data.cells.filter (fun x => x.1 == k) = [(k, c)] ∧ c.state = .inChain ∧ (∀ f, s.frame c.head = some f →
      f.live = false)) ∧
    (∃ (s : State) (dirty : List Nat) (k : _) (c : _), dirty.all (fun k => decide (k < cellCount)) = true ∧ s.running =
      true ∧ s.data.cells.filter (fun x => x.1 == k) = [(k, c)] ∧ c.state = .free ∧ c.map = false) ∧
    (∃ (s : State) (dirty : List Nat), dirty.all (fun k => decide (k < cellCount)) = true ∧ s.running = true ∧
      s.data.audit = true ∧ s.tally ≠ s.freeCells ∧ s.fld F.BUF_AUDIT_QUAR_CELLS ≤ s.fld F.BUF_CFG_QUAR_LIMIT) :=
  ⟨⟨up, 96, by decide +kernel⟩,
   ⟨s19, 96, by decide +kernel⟩,
   ⟨s19, 96, 3, by decide +kernel⟩,
   ⟨s20, [], 3, (((s20.data.cells.filter (fun x => x.1 == 3))).head (by decide +kernel)).2, by decide +kernel⟩,
   ⟨s21, [], 3, (((s21.data.cells.filter (fun x => x.1 == 3))).head (by decide +kernel)).2, by decide +kernel⟩,
   ⟨s22, [], 3, (((s22.data.cells.filter (fun x => x.1 == 3))).head (by decide +kernel)).2, by decide +kernel⟩,
   ⟨s23, [], 3, (((s23.data.cells.filter (fun x => x.1 == 3))).head (by decide +kernel)).2, by decide +kernel⟩,
   ⟨s24, [], by decide +kernel⟩⟩

/-- States and operands that meet the hypotheses of `Obligations.PassesFollowTheVerdict`, clause by clause. -/
theorem witness_PassesFollowTheVerdict :
    (∃ (s : State) (h : Nat) (f : Frame) (i : PassInfo) (w : Walk), s.running = true ∧ s.passFirst = some h ∧
      s.secondDue = none ∧ s.nextLane = none ∧ s.frame h = some f ∧ f.ended = false ∧ f.written = false ∧ f.bad = false
      ∧ i = { s.info h with zone := s.portZone (min f.port 34), metaByte := 0, acf := false } ∧ i.inj = none ∧ w =
      State.walkFirst s h f i ∧ w.status = .ok ∧ s.special f (((s.setFrame h f).setInfo h i).frameView h) w = (none,
      false) ∧ s.tcamLookup w.key (s.fld F.CLS_GEN_ACTIVE) = none ∧ s.fld (F.PRS_PORT_DEFAULT_NOMATCH (min f.port 34)) =
      0) ∧
    (∃ (s : State) (h : Nat) (f : Frame) (i : PassInfo) (w : Walk) (e : _), s.running = true ∧ s.passFirst = some h ∧
      s.secondDue = none ∧ s.nextLane = none ∧ s.frame h = some f ∧ f.ended = false ∧ f.written = false ∧ f.bad = false
      ∧ i = { s.info h with zone := s.portZone (min f.port 34), metaByte := 0, acf := false } ∧ i.inj = none ∧ w =
      State.walkFirst s h f i ∧ w.status = .ok ∧ s.special f (((s.setFrame h f).setInfo h i).frameView h) w = (none,
      false) ∧ s.tcamLookup w.key (s.fld F.CLS_GEN_ACTIVE) = some e ∧ s.actInvalid (wordsNat (s.tcamAt e).act) w = false
      ∧ A.disposition (wordsNat (s.tcamAt e).act) = 6 ∧ s.data.recirc.length < 64) ∧
    (∃ (s : State) (h : Nat) (f : Frame) (i : PassInfo) (w : Walk) (e : _), s.running = true ∧ s.passFirst = some h ∧
      s.secondDue = none ∧ s.nextLane = none ∧ s.frame h = some f ∧ f.ended = false ∧ f.written = false ∧ f.bad = false
      ∧ i = { s.info h with zone := s.portZone (min f.port 34), metaByte := 0, acf := false } ∧ i.inj = none ∧ w =
      State.walkFirst s h f i ∧ w.status = .ok ∧ s.special f (((s.setFrame h f).setInfo h i).frameView h) w = (none,
      false) ∧ s.tcamLookup w.key (s.fld F.CLS_GEN_ACTIVE) = some e ∧ s.actInvalid (wordsNat (s.tcamAt e).act) w = false
      ∧ A.disposition (wordsNat (s.tcamAt e).act) = 6 ∧ 64 ≤ s.data.recirc.length) ∧
    (∃ (s : State) (h : Nat) (rest : List Nat) (f : Frame) (w : Walk), s.running = true ∧ s.data.recirc = h :: rest ∧
      (s.info h).secondAt ≤ s.cycle ∧ s.frame h = some f ∧ f.written = false ∧ w = s.walkPass f (s.info h) true
      f.endKnown ∧ w.status = .ok ∧ s.tcamLookup w.key f.gen = none ∧ s.fld (F.PRS_PORT_DEFAULT_NOMATCH (min f.port 34))
      = 0) ∧
    (∃ (s : State) (h : Nat) (rest : List Nat) (f : Frame) (w : Walk) (e : _), s.running = true ∧ s.data.recirc = h ::
      rest ∧ (s.info h).secondAt ≤ s.cycle ∧ s.frame h = some f ∧ f.written = false ∧ w = s.walkPass f (s.info h) true
      f.endKnown ∧ w.status = .ok ∧ s.tcamLookup w.key f.gen = some e ∧ s.actInvalid (wordsNat (s.tcamAt e).act) w =
      false ∧ A.disposition (wordsNat (s.tcamAt e).act) = 6 ∧ s.fld (F.PRS_PORT_DEFAULT_PARSEERR (min f.port 34)) = 0) :=
  ⟨⟨rx, 0, (((rx.frame 0)).get (by decide +kernel)),
     ({ rx.info 0 with zone := rx.portZone (min (((rx.frame 0)).get (by decide +kernel)).port 34), metaByte := 0, acf := false }),
     (State.walkFirst rx 0 (((rx.frame 0)).get (by decide +kernel))
     ({ rx.info 0 with zone := rx.portZone (min (((rx.frame 0)).get (by decide +kernel)).port 34), metaByte := 0, acf := false })),
     by decide +kernel⟩,
   ⟨one, 0, (((one.frame 0)).get (by decide +kernel)),
     ({ one.info 0 with zone := one.portZone (min (((one.frame 0)).get (by decide +kernel)).port 34), metaByte := 0, acf := false }),
     (State.walkFirst one 0 (((one.frame 0)).get (by decide +kernel))
     ({ one.info 0 with zone := one.portZone (min (((one.frame 0)).get (by decide +kernel)).port 34), metaByte := 0, acf := false })),
     5, by decide +kernel⟩,
   ⟨s25, 0, (((s25.frame 0)).get (by decide +kernel)),
     ({ s25.info 0 with zone := s25.portZone (min (((s25.frame 0)).get (by decide +kernel)).port 34), metaByte := 0, acf := false }),
     (State.walkFirst s25 0 (((s25.frame 0)).get (by decide +kernel))
     ({ s25.info 0 with zone := s25.portZone (min (((s25.frame 0)).get (by decide +kernel)).port 34), metaByte := 0, acf := false })),
     5, by decide +kernel⟩,
   ⟨s26, 0, (s26.data.recirc).tail, (((s26.frame 0)).get (by decide +kernel)), (s26.walkPass (((s26.frame 0)).get (by
     decide +kernel)) (s26.info 0) true (((s26.frame 0)).get (by decide +kernel)).endKnown), by decide +kernel⟩,
   ⟨s27, 0, (s27.data.recirc).tail, (((s27.frame 0)).get (by decide +kernel)), (s27.walkPass (((s27.frame 0)).get (by
     decide +kernel)) (s27.info 0) true (((s27.frame 0)).get (by decide +kernel)).endKnown), 5, by decide +kernel⟩⟩

set_option maxRecDepth 20000 in
/-- States and operands that meet the hypotheses of `Obligations.FrameEndMakesTheLateChecks`, clause by clause. -/
theorem witness_FrameEndMakesTheLateChecks :
    (∃ (s : State) (p : Nat) (h : Nat) (f : Frame) (r : _), p < 35 ∧ s.running = true ∧ s.unwritten p = some h ∧ s.frame
      h = some f ∧ f.bad = false ∧ (s.info h).late = false ∧ (s.info h).late2 = false ∧ (s.info h).sdu = none ∧ (s.info
      h).charges = [] ∧ (s.info h).special = none ∧ (s.info h).toWeaver = false ∧ f.stage = .passed ∧ (s.info h).learn =
      some r ∧ s.data.learnQ.length < 64) ∧
    (∃ (s : State) (p : Nat) (h : Nat) (f : Frame) (r : _), p < 35 ∧ s.running = true ∧ s.unwritten p = some h ∧ s.frame
      h = some f ∧ f.bad = false ∧ (s.info h).late = false ∧ (s.info h).late2 = false ∧ (s.info h).sdu = none ∧ (s.info
      h).charges = [] ∧ (s.info h).special = none ∧ (s.info h).toWeaver = false ∧ f.stage = .passed ∧ (s.info h).learn =
      some r ∧ 64 ≤ s.data.learnQ.length) ∧
    (∃ (s : State) (p : Nat) (h : Nat) (f : Frame) (r : _), p < 35 ∧ s.running = true ∧ s.unwritten p = some h ∧ s.frame
      h = some f ∧ f.bad = false ∧ (s.info h).late = false ∧ (s.info h).late2 = false ∧ (s.info h).sdu = none ∧ (s.info
      h).charges = [] ∧ (s.info h).special = none ∧ (s.info h).toWeaver = false ∧ f.stage = .passed ∧ (s.info h).learn =
      some r ∧ f.ihold = true ∧ 2 ≤ f.ref) ∧
    (∃ (s : State) (p : Nat) (h : Nat) (f : Frame), p < 35 ∧ s.running = true ∧ s.unwritten p = some h ∧ s.frame h =
      some f ∧ f.bad = false ∧ (s.lateFirst f (s.info h) = true ∨ s.lateSecond f (s.info h) = true)) :=
  ⟨⟨s28, 33, 0, (((s28.frame 0)).get (by decide +kernel)), ((((s28.info 0).learn)).get (by decide +kernel)), by
     decide +kernel⟩,
   ⟨s29, 33, 0, (((s29.frame 0)).get (by decide +kernel)), ((((s29.info 0).learn)).get (by decide +kernel)), by
     decide +kernel⟩,
   ⟨s28, 33, 0, (((s28.frame 0)).get (by decide +kernel)), ((((s28.info 0).learn)).get (by decide +kernel)), by
     decide +kernel⟩,
   ⟨badLen, 33, 0, (((badLen.frame 0)).get (by decide +kernel)), by decide +kernel⟩⟩

/-- States and operands that meet the hypotheses of `Obligations.PreemptionFollowsMergeCfg`, clause by clause. -/
theorem witness_PreemptionFollowsMergeCfg :
    (∃ (s : State) (p : Nat), hasMerge p = true ∧ s.drives = true ∧ s.flag (F.MAC_STATUS_LINK_UP p) = true ∧ s.fld
      (F.MERGE_STATUS_VERIFY_STATE p) = 1 ∧ s.verifies p < 3) ∧
    (∃ (s : State) (p : Nat), hasMerge p = true ∧ s.drives = true ∧ s.flag (F.MAC_STATUS_LINK_UP p) = true ∧ s.fld
      (F.MERGE_STATUS_VERIFY_STATE p) = 1 ∧ 3 ≤ s.verifies p) ∧
    (∃ (s : State) (p : Nat), hasMerge p = true ∧ s.drives = true ∧ s.flag (F.MAC_STATUS_LINK_UP p) = true ∧ s.mergeOn p
      = true) ∧
    (∃ (s : State) (p : Nat) (mask : _), hasMerge p = true ∧ s.busRuns (K.MERGE_CFG p) = true ∧ mask ≠ 0) ∧
    (∃ (s : State) (p : Nat), hasMerge p = true ∧ s.txBoundary p = false) ∧
    (∃ (s : State) (p : Nat) (q : _), hasMerge p = true ∧ s.powered = true ∧ s.txBoundary p = true ∧ q ≠ p) :=
  ⟨⟨s30, 25, by decide +kernel⟩,
   ⟨s31, 25, by decide +kernel⟩,
   ⟨s30, 25, by decide +kernel⟩,
   ⟨s32, 25, 25, by decide +kernel⟩,
   ⟨s32, 25, by decide +kernel⟩,
   ⟨s32, 1, 25, by decide +kernel⟩⟩

/-- States and operands that meet the hypotheses of `Obligations.PortWritesAreCheckedOrIgnored`, clause by clause. -/
theorem witness_PortWritesAreCheckedOrIgnored :
    (∃ (s : State) (p : Nat) (mask : Word) (value : Word), p < 34 ∧ s.busRuns (K.MAC_CFG p) = true ∧ s.busRuns
      (K.MAC_FRAME p) = true ∧ (((wordBits (maskWord (s.reg (K.MAC_CFG p)) (mask &&& 0x00FC0001) value) 23 20 !=
      wordBits (s.reg (K.MAC_CFG p)) 23 20 || wordBits (maskWord (s.reg (K.MAC_CFG p)) (mask &&& 0x00FC0001) value) 19
      18 != wordBits (s.reg (K.MAC_CFG p)) 19 18) && (s.reg (K.MAC_CFG p)).toNat.testBit 0 && (maskWord (s.reg
      (K.MAC_CFG p)) (mask &&& 0x00FC0001) value).toNat.testBit 0) || !modeOffered p (wordBits (maskWord (s.reg
      (K.MAC_CFG p)) (mask &&& 0x00FC0001) value) 23 20) || !roleDefined p (wordBits (maskWord (s.reg (K.MAC_CFG p))
      (mask &&& 0x00FC0001) value) 19 18)) = true) ∧
    (∃ (s : State) (p : Nat) (mask : Word) (value : Word), p < 34 ∧ s.busRuns (K.MAC_CFG p) = true ∧ s.busRuns
      (K.MAC_FRAME p) = true ∧ (((wordBits (maskWord (s.reg (K.MAC_CFG p)) (mask &&& 0x00FC0001) value) 23 20 !=
      wordBits (s.reg (K.MAC_CFG p)) 23 20 || wordBits (maskWord (s.reg (K.MAC_CFG p)) (mask &&& 0x00FC0001) value) 19
      18 != wordBits (s.reg (K.MAC_CFG p)) 19 18) && (s.reg (K.MAC_CFG p)).toNat.testBit 0 && (maskWord (s.reg
      (K.MAC_CFG p)) (mask &&& 0x00FC0001) value).toNat.testBit 0) || !modeOffered p (wordBits (maskWord (s.reg
      (K.MAC_CFG p)) (mask &&& 0x00FC0001) value) 23 20) || !roleDefined p (wordBits (maskWord (s.reg (K.MAC_CFG p))
      (mask &&& 0x00FC0001) value) 19 18)) = false) ∧
    (∃ (s : State) (p : Nat) (mask : Word) (value : Word), p < 34 ∧ s.busRuns (K.MAC_CFG p) = true ∧ s.busRuns
      (K.MAC_FRAME p) = true ∧ ((maskWord (s.reg (K.MAC_FRAME p)) (mask &&& 0x3FFF) value).toNat < 64 ∨ 9216 < (maskWord
      (s.reg (K.MAC_FRAME p)) (mask &&& 0x3FFF) value).toNat)) ∧
    (∃ (s : State) (p : Nat) (mask : Word) (value : Word), p < 34 ∧ s.busRuns (K.MAC_CFG p) = true ∧ s.busRuns
      (K.MAC_FRAME p) = true ∧ 64 ≤ (maskWord (s.reg (K.MAC_FRAME p)) (mask &&& 0x3FFF) value).toNat ∧ (maskWord (s.reg
      (K.MAC_FRAME p)) (mask &&& 0x3FFF) value).toNat ≤ 9216) ∧
    (∃ (s : State) (mask : Word), s.busRuns K.MERGE_CFG_M = true ∧ mask ≠ 0) :=
  ⟨⟨up, 33, 0xFFFFFFFF, 0xFFFFFFFF, by decide +kernel⟩,
   ⟨up, 33, 64, 0xFFFFFFFF, by decide +kernel⟩,
   ⟨up, 33, 0xFFFFFFFF, 0xFFFFFFFF, by decide +kernel⟩,
   ⟨up, 33, 0xFFFFFFFF, 64, by decide +kernel⟩,
   ⟨up, 0xFFFFFFFF, by decide +kernel⟩⟩

/-- States and operands that meet the hypotheses of `Obligations.MdioMastersWork`, clause by clause. -/
theorem witness_MdioMastersWork :
    (∃ (s : State) (m : Nat), m < 2 ∧ s.drives = true ∧ s.rstHeld (66 + m) = false ∧ s.mcRuns = true ∧ s.flag
      (F.MDIO_STATUS_BUSY m) = true) ∧
    (∃ (s : State) (m : Nat), m < 2 ∧ s.drives = true ∧ s.rstHeld (66 + m) = false ∧ s.mcRuns = true ∧ s.flag
      (F.MDIO_STATUS_BUSY m) = false ∧ s.mdioAt m = none) ∧
    (∃ (s : State) (m : Nat) (a : _) (answer : Option Nat), m < 2 ∧ s.drives = true ∧ s.rstHeld (66 + m) = false ∧ (∀ r,
      answer = some r → r < 65536) ∧ s.mdioAt m = some a ∧ a.poll = none) ∧
    (∃ (s : State) (m : Nat) (a : _) (p : _) (answer : Option Nat), m < 2 ∧ s.drives = true ∧ s.rstHeld (66 + m) = false
      ∧ (∀ r, answer = some r → r < 65536) ∧ s.mdioAt m = some a ∧ a.poll = some p) ∧
    (∃ (s : State) (m : Nat) (c : _), m < 2 ∧ s.drives = true ∧ s.rstHeld (66 + m) = false ∧ s.mdioWaits m = none ∧
      s.pollFrom m = some c ∧ s.fld (F.MDIO_CFG_POLL_MS m) ≠ 0 ∧ c + s.pollCycles m ≤ s.cycle) ∧
    (∃ (s : State) (m : Nat) (p : _), m < 2 ∧ s.drives = true ∧ s.rstHeld (66 + m) = false ∧ s.mdioWaits m = none ∧ p <
      8 ∧ p / 4 = m ∧ s.flag (F.MAC_CFG_EN p) = true ∧ s.flag (F.MAC_STATUS_PHY_INT p) = true ∧ s.mdioAt m = none) ∧
    (∃ (s : State) (m : Nat) (p : _) (a : _), m < 2 ∧ s.drives = true ∧ s.rstHeld (66 + m) = false ∧ s.mdioWaits m =
      none ∧ p < 8 ∧ p / 4 = m ∧ s.flag (F.MAC_CFG_EN p) = true ∧ s.flag (F.MAC_STATUS_PHY_INT p) = true ∧ s.mdioAt m =
      some a) ∧
    (∃ (s : State) (m : Nat), m < 2 ∧ s.busRuns (K.MDIO_CFG m) = true) :=
  ⟨⟨s33, 0, by decide +kernel⟩,
   ⟨s34, 0, by decide +kernel⟩,
   ⟨s33, 0, (((s33.mdioAt 0)).get (by decide +kernel)), none, by decide +kernel⟩,
   ⟨s35, 0, (((s35.mdioAt 0)).get (by decide +kernel)), 3, none, by decide +kernel⟩,
   ⟨s34, 0, (((s34.pollFrom 0)).get (by decide +kernel)), by decide +kernel⟩,
   ⟨s34, 0, 3, by decide +kernel⟩,
   ⟨s36, 0, 3, (((s36.mdioAt 0)).get (by decide +kernel)), by decide +kernel⟩,
   ⟨s34, 0, by decide +kernel⟩⟩

/-- States and operands that meet the hypotheses of `Obligations.FdbCommandsActAndEnd`, clause by clause. -/
theorem witness_FdbCommandsActAndEnd :
    (∃ (s : State) (index : Nat) (c : Instr), s.mcRuns = true ∧ index < 32768 ∧ s.flag F.FDB_STATUS_BUSY = true ∧ c ∈
      [Instr.fdbLookup, .fdbWrite, .fdbDelete, .fdbReadIndex index, .flushPort, .flushDynamic]) ∧
    (∃ (s : State) (index : Nat) (c : Instr) (i : _) (e : _) (j : _), s.mcRuns = true ∧ index < 32768 ∧ s.flag
      F.FDB_STATUS_BUSY = false ∧ c ∈ [Instr.fdbDelete, .fdbWrite] ∧ (c = .fdbWrite → s.flag F.FDB_DATA_VALID = false) ∧
      s.fdbFind s.fdbKey.1 s.fdbKey.2 = some (i, e) ∧ j ≠ i) ∧
    (∃ (s : State) (index : Nat) (c : Instr), s.mcRuns = true ∧ index < 32768 ∧ s.flag F.FDB_STATUS_BUSY = false ∧ c ∈
      [Instr.fdbDelete, .fdbWrite] ∧ (c = .fdbWrite → s.flag F.FDB_DATA_VALID = false) ∧ s.fdbFind s.fdbKey.1 s.fdbKey.2
      = none) ∧
    (∃ (s : State) (index : Nat), s.mcRuns = true ∧ index < 32768 ∧ s.flag F.FDB_STATUS_BUSY = false ∧ s.flag
      F.FDB_DATA_VALID = true ∧ s.destInvalid (s.fld F.FDB_DATA_KIND) (s.fld F.FDB_DATA_DEST) = true) ∧
    (∃ (s : State) (index : Nat) (i : _) (j : _), s.mcRuns = true ∧ index < 32768 ∧ s.flag F.FDB_STATUS_BUSY = false ∧
      s.flag F.FDB_DATA_VALID = true ∧ s.destInvalid (s.fld F.FDB_DATA_KIND) (s.fld F.FDB_DATA_DEST) = false ∧
      ((s.fdbFind s.fdbKey.1 s.fdbKey.2).map (fun x => x.1) = some i ∨ (s.fdbFind s.fdbKey.1 s.fdbKey.2 = none ∧
      s.fdbFree s.fdbKey.1 s.fdbKey.2 = some i)) ∧ j ≠ i) ∧
    (∃ (s : State) (index : Nat), s.mcRuns = true ∧ index < 32768 ∧ s.flag F.FDB_STATUS_BUSY = false ∧ s.flag
      F.FDB_DATA_VALID = true ∧ s.destInvalid (s.fld F.FDB_DATA_KIND) (s.fld F.FDB_DATA_DEST) = false ∧ s.fdbFind
      s.fdbKey.1 s.fdbKey.2 = none ∧ s.fdbFree s.fdbKey.1 s.fdbKey.2 = none) ∧
    (∃ (s : State) (r : _) (i : _), s.powered = true ∧ s.data.fdbOp ≠ .none ∧ s.data.fdbOp = .single r i) ∧
    (∃ (s : State) (d : _) (n : _), s.powered = true ∧ s.data.fdbOp ≠ .none ∧ s.data.fdbOp = .flushPort d n) ∧
    (∃ (s : State) (n : _), s.powered = true ∧ s.data.fdbOp ≠ .none ∧ s.data.fdbOp = .flushDynamic n) :=
  ⟨⟨s37, 0, .fdbDelete, by decide +kernel⟩,
   ⟨s38, 0, .fdbDelete, 5965, (((s38.fdbFind s38.fdbKey.1 s38.fdbKey.2)).get (by decide +kernel)).2, 0, by
     decide +kernel⟩,
   ⟨up, 0, .fdbDelete, by decide +kernel⟩,
   ⟨s39, 0, by decide +kernel⟩,
   ⟨s40, 0, (way 0), 0, by decide +kernel⟩,
   ⟨s41, 0, by decide +kernel⟩,
   ⟨s42, 9, 2, by decide +kernel⟩,
   ⟨s43, 9, 0, by decide +kernel⟩,
   ⟨s44, 0, by decide +kernel⟩⟩

/-- States and operands that meet the hypotheses of `Obligations.TcamEntriesAreGuarded`, clause by clause. -/
theorem witness_TcamEntriesAreGuarded :
    (∃ (s : State) (e : TcamEntry) (addr : Nat), isClsEntry addr = true ∧ s.mcRuns = true ∧ s.tcamAt s.clsIndex = e ∧
      e.valid = true) ∧
    (∃ (s : State) (e : TcamEntry) (addr : Nat) (i : _), isClsEntry addr = true ∧ s.mcRuns = true ∧ s.tcamAt s.clsIndex
      = e ∧ e.valid = false ∧ i ≠ s.clsIndex) ∧
    (∃ (s : State) (e : TcamEntry) (addr : Nat) (j : _), isClsEntry addr = true ∧ s.mcRuns = true ∧ s.tcamAt s.clsIndex
      = e ∧ e.valid = false ∧ j < 20 ∧ addr = 0x81000 + 4 * j) ∧
    (∃ (s : State) (e : TcamEntry) (addr : Nat) (j : _), isClsEntry addr = true ∧ s.mcRuns = true ∧ s.tcamAt s.clsIndex
      = e ∧ e.valid = false ∧ j < 20 ∧ addr = 0x81080 + 4 * j) ∧
    (∃ (s : State) (e : TcamEntry) (addr : Nat) (j : _), isClsEntry addr = true ∧ s.mcRuns = true ∧ s.tcamAt s.clsIndex
      = e ∧ e.valid = false ∧ j < 3 ∧ addr = 0x81100 + 4 * j) ∧
    (∃ (s : State) (i : _), s.mcRuns = true ∧ s.flag F.CLS_GEN_RETIRING = false ∧ i ≠ s.clsIndex) ∧
    (∃ (s : State) (mask : Word) (value : Word), s.mcRuns = true ∧ s.flag F.CLS_GEN_RETIRING = true ∧ ((s.tcamAt
      s.clsIndex).valid && (s.tcamAt s.clsIndex).gen.testBit (1 - s.fld F.CLS_GEN_ACTIVE)) ≠
      (({ (s.tcamAt s.clsIndex) with gen := wordBits (maskWord (BitVec.ofNat 32 (b2n (s.tcamAt s.clsIndex).valid + 2 * (s.tcamAt s.clsIndex).gen)) mask value) 2 1, valid := (maskWord (BitVec.ofNat 32 (b2n (s.tcamAt s.clsIndex).valid + 2 * (s.tcamAt s.clsIndex).gen)) mask value).toNat.testBit 0, hit := if (maskWord (BitVec.ofNat 32 (b2n (s.tcamAt s.clsIndex).valid + 2 * (s.tcamAt s.clsIndex).gen)) mask value).toNat.testBit 0 && !(s.tcamAt s.clsIndex).valid then 0 else (s.tcamAt s.clsIndex).hit }).valid
      &&
      ({ (s.tcamAt s.clsIndex) with gen := wordBits (maskWord (BitVec.ofNat 32 (b2n (s.tcamAt s.clsIndex).valid + 2 * (s.tcamAt s.clsIndex).gen)) mask value) 2 1, valid := (maskWord (BitVec.ofNat 32 (b2n (s.tcamAt s.clsIndex).valid + 2 * (s.tcamAt s.clsIndex).gen)) mask value).toNat.testBit 0, hit := if (maskWord (BitVec.ofNat 32 (b2n (s.tcamAt s.clsIndex).valid + 2 * (s.tcamAt s.clsIndex).gen)) mask value).toNat.testBit 0 && !(s.tcamAt s.clsIndex).valid then 0 else (s.tcamAt s.clsIndex).hit }).gen.testBit
      (1 - s.fld F.CLS_GEN_ACTIVE))) ∧
    (∃ (s : State) (mask : Word) (value : Word), s.mcRuns = true ∧ s.flag F.CLS_GEN_RETIRING = true ∧ ((s.tcamAt
      s.clsIndex).valid && (s.tcamAt s.clsIndex).gen.testBit (1 - s.fld F.CLS_GEN_ACTIVE)) =
      (({ (s.tcamAt s.clsIndex) with gen := wordBits (maskWord (BitVec.ofNat 32 (b2n (s.tcamAt s.clsIndex).valid + 2 * (s.tcamAt s.clsIndex).gen)) mask value) 2 1, valid := (maskWord (BitVec.ofNat 32 (b2n (s.tcamAt s.clsIndex).valid + 2 * (s.tcamAt s.clsIndex).gen)) mask value).toNat.testBit 0, hit := if (maskWord (BitVec.ofNat 32 (b2n (s.tcamAt s.clsIndex).valid + 2 * (s.tcamAt s.clsIndex).gen)) mask value).toNat.testBit 0 && !(s.tcamAt s.clsIndex).valid then 0 else (s.tcamAt s.clsIndex).hit }).valid
      &&
      ({ (s.tcamAt s.clsIndex) with gen := wordBits (maskWord (BitVec.ofNat 32 (b2n (s.tcamAt s.clsIndex).valid + 2 * (s.tcamAt s.clsIndex).gen)) mask value) 2 1, valid := (maskWord (BitVec.ofNat 32 (b2n (s.tcamAt s.clsIndex).valid + 2 * (s.tcamAt s.clsIndex).gen)) mask value).toNat.testBit 0, hit := if (maskWord (BitVec.ofNat 32 (b2n (s.tcamAt s.clsIndex).valid + 2 * (s.tcamAt s.clsIndex).gen)) mask value).toNat.testBit 0 && !(s.tcamAt s.clsIndex).valid then 0 else (s.tcamAt s.clsIndex).hit }).gen.testBit
      (1 - s.fld F.CLS_GEN_ACTIVE))) :=
  ⟨⟨s45, (s45.tcamAt s45.clsIndex), 0x8104C, by decide +kernel⟩,
   ⟨s46, (s46.tcamAt s46.clsIndex), 0x8104C, 0, by decide +kernel⟩,
   ⟨s46, (s46.tcamAt s46.clsIndex), 528384, 0, by decide +kernel⟩,
   ⟨s46, (s46.tcamAt s46.clsIndex), 528512, 0, by decide +kernel⟩,
   ⟨s46, (s46.tcamAt s46.clsIndex), 528640, 0, by decide +kernel⟩,
   ⟨s46, 0, by decide +kernel⟩,
   ⟨s47, 1, 0, by decide +kernel⟩,
   ⟨s47, 1, 1, by decide +kernel⟩⟩

/-- States and operands that meet the hypotheses of `Obligations.GenerationsSwap`, clause by clause. -/
theorem witness_GenerationsSwap :
    (∃ (s : State) (gen : Nat), gen < 2 ∧ s.mcRuns = true ∧ s.flag F.CLS_GEN_PENDING = true) ∧
    (∃ (s : State) (gen : Nat), gen < 2 ∧ s.mcRuns = true ∧ s.flag F.CLS_GEN_PENDING = false ∧ (s.data.swap ≠ none ∨
      s.flag F.CLS_GEN_RETIRING = true)) ∧
    (∃ (s : State) (gen : Nat), gen < 2 ∧ s.mcRuns = true ∧ s.flag F.CLS_GEN_PENDING = false ∧ s.data.swap = none ∧
      s.flag F.CLS_GEN_RETIRING = false) ∧
    (∃ (s : State) (gen : Nat) (tgt : _), gen < 2 ∧ tgt < 2 ∧ s.powered = true ∧ s.data.swap = some tgt ∧ s.flag
      F.CLS_GEN_PENDING = false ∧ s.flag F.CLS_GEN_RETIRING = false ∧ tgt = s.fld F.CLS_GEN_ACTIVE) ∧
    (∃ (s : State) (gen : Nat) (tgt : _), gen < 2 ∧ tgt < 2 ∧ s.powered = true ∧ s.data.swap = some tgt ∧ s.flag
      F.CLS_GEN_PENDING = false ∧ s.flag F.CLS_GEN_RETIRING = false ∧ tgt ≠ s.fld F.CLS_GEN_ACTIVE) ∧
    (∃ (s : State) (gen : Nat), gen < 2 ∧ s.powered = true ∧ s.flag F.CLS_GEN_RETIRING = true ∧ s.awaits (1 - s.fld
      F.CLS_GEN_ACTIVE) = true) ∧
    (∃ (s : State) (gen : Nat), gen < 2 ∧ s.powered = true ∧ s.flag F.CLS_GEN_RETIRING = true ∧ s.awaits (1 - s.fld
      F.CLS_GEN_ACTIVE) = false ∧ s.flag F.CLS_GEN_PENDING = false) ∧
    (∃ (s : State) (gen : Nat), gen < 2 ∧ s.powered = true ∧ s.flag F.CLS_GEN_RETIRING = true ∧ s.awaits (1 - s.fld
      F.CLS_GEN_ACTIVE) = false ∧ s.flag F.CLS_GEN_PENDING = true) :=
  ⟨⟨s48, 0, by decide +kernel⟩,
   ⟨s49, 0, by decide +kernel⟩,
   ⟨up, 0, by decide +kernel⟩,
   ⟨s50, 0, 0, by decide +kernel⟩,
   ⟨s51, 0, 1, by decide +kernel⟩,
   ⟨s52, 0, by decide +kernel⟩,
   ⟨s49, 0, by decide +kernel⟩,
   ⟨s53, 0, by decide +kernel⟩⟩

/-- States and operands that meet the hypotheses of `Obligations.TicksFeedAndCommitBuckets`, clause by clause. -/
theorem witness_TicksFeedAndCommitBuckets :
    (∃ (s : State) (q : _), s.linked = true ∧ (s.listedEntries (K.SHP_CTRL 0)).Nodup ∧ (s.listedEntries (K.ZPOL_CTRL
      0)).Nodup ∧ s.meterList.Nodup ∧ s.flag (F.SHP_CTRL_PENDING q) = false ∧ s.flag (F.SHP_CTRL_EN q) = true) ∧
    (∃ (s : State) (i : _), s.linked = true ∧ (s.listedEntries (K.SHP_CTRL 0)).Nodup ∧ (s.listedEntries (K.ZPOL_CTRL
      0)).Nodup ∧ s.meterList.Nodup ∧ s.flag (F.ZPOL_CTRL_PENDING i) = false ∧ s.flag (F.ZPOL_CTRL_EN i) = true) ∧
    (∃ (s : State) (i : _), s.linked = true ∧ (s.listedEntries (K.SHP_CTRL 0)).Nodup ∧ (s.listedEntries (K.ZPOL_CTRL
      0)).Nodup ∧ s.meterList.Nodup ∧ s.flag (F.MTR_CTRL_PENDING i) = false ∧ s.data.meterStart.contains i = false ∧
      s.flag (F.STRM_WIN_FILTER_METER_EN i) = true) ∧
    (∃ (s : State) (q : _), s.linked = true ∧ (s.listedEntries (K.SHP_CTRL 0)).Nodup ∧ (s.listedEntries (K.ZPOL_CTRL
      0)).Nodup ∧ s.meterList.Nodup ∧ s.flag (F.SHP_CTRL_PENDING q) = false ∧ s.flag (F.SHP_CTRL_EN q) = false) ∧
    (∃ (s : State) (n : Nat), s.linked = true ∧ (s.listedEntries (K.SHP_CTRL 0)).Nodup ∧ (s.listedEntries (K.ZPOL_CTRL
      0)).Nodup ∧ s.meterList.Nodup ∧ s.flag (F.SHP_CTRL_PENDING n) = true) ∧
    (∃ (s : State) (n : Nat), s.linked = true ∧ (s.listedEntries (K.SHP_CTRL 0)).Nodup ∧ (s.listedEntries (K.ZPOL_CTRL
      0)).Nodup ∧ s.meterList.Nodup ∧ s.flag (F.MTR_CTRL_PENDING n) = true) ∧
    (∃ (s : State) (n : Nat), s.linked = true ∧ (s.listedEntries (K.SHP_CTRL 0)).Nodup ∧ (s.listedEntries (K.ZPOL_CTRL
      0)).Nodup ∧ s.meterList.Nodup ∧ s.flag (F.ZPOL_CTRL_PENDING n) = true) ∧
    (∃ (s : State) (q : _), s.mcRuns = true ∧ q = s.fld F.SCH_QUE_INDEX_INDEX ∧ q < 280) ∧
    (∃ (s : State), s.mcRuns = true ∧ 280 ≤ s.fld F.SCH_QUE_INDEX_INDEX) ∧
    (∃ (s : State) (i : _), s.mcRuns = true ∧ i = s.fld F.STRM_WIN_INDEX_INDEX) ∧
    (∃ (s : State) (i : _), s.mcRuns = true ∧ i = s.fld F.ZPOL_INDEX_INDEX) :=
  ⟨⟨s54, 3, by decide +kernel⟩,
   ⟨s54, 3, by decide +kernel⟩,
   ⟨s54, 3, by decide +kernel⟩,
   ⟨s55, 3, by decide +kernel⟩,
   ⟨s56, 3, by decide +kernel⟩,
   ⟨s56, 3, by decide +kernel⟩,
   ⟨s56, 3, by decide +kernel⟩,
   ⟨s54, 0, by decide +kernel⟩,
   ⟨s57, by decide +kernel⟩,
   ⟨s54, 0, by decide +kernel⟩,
   ⟨s54, 0, by decide +kernel⟩⟩

/-- States and operands that meet the hypotheses of `Obligations.GatesAndRecoveryFunctions`, clause by clause. -/
theorem witness_GatesAndRecoveryFunctions :
    (∃ (s : State) (p : Nat), p < 34 ∧ s.mcRuns = true ∧ p = s.fld F.GATE_WIN_PORT_PORT ∧ s.flag (F.GATE_STATUS_PENDING
      p) = true) ∧
    (∃ (s : State) (p : Nat), p < 34 ∧ s.mcRuns = true ∧ p = s.fld F.GATE_WIN_PORT_PORT ∧ s.flag (F.GATE_STATUS_PENDING
      p) = false ∧ s.gateListValid p = false) ∧
    (∃ (s : State) (p : Nat) (tc : _), p < 34 ∧ s.mcRuns = true ∧ p = s.fld F.GATE_WIN_PORT_PORT ∧ s.flag
      (F.GATE_STATUS_PENDING p) = false ∧ s.gateListValid p = true ∧ tc = (if s.nowNs + 2000 ≤ s.gateBase p 0 then
      s.gateBase p 0 else s.gateBase p 0 + (s.nowNs + 2000 - s.gateBase p 0 + s.gateCycle p 0 - 1) / s.gateCycle p 0 *
      s.gateCycle p 0)) ∧
    (∃ (s : State) (p : Nat) (i : _), p < 34 ∧ s.linked = true ∧ s.flag (F.GATE_STATUS_PENDING p) = true ∧ s.gateTc p ≤
      s.nowNs ∧ s.gateLen p 0 ≤ 1024 ∧ i < s.gateLen p 0) ∧
    (∃ (s : State) (p : Nat) (x : _), p < 34 ∧ s.linked = true ∧ s.gateSeg p s.nowNs = some x) ∧
    (∃ (s : State) (p : Nat) (x : _), p < 34 ∧ s.linked = true ∧ s.gateSeg p (s.nowNs + s.fld (F.GATE_HOLD_ADV_ADV_NS
      p)) = some x ∧ x.hold = true ∧ s.holdWorks p = true) ∧
    (∃ (s : State) (p : Nat), p < 34 ∧ s.linked = true ∧ s.gatesOn p = false) ∧
    (∃ (s : State) (fn : _), fn < 1024 ∧ s.linked = true) :=
  ⟨⟨s58, 3, by decide +kernel⟩,
   ⟨s59, 3, by decide +kernel⟩,
   ⟨s60, 3, 2000, by decide +kernel⟩,
   ⟨s58, 3, 1, by decide +kernel⟩,
   ⟨s58, 3, (((s58.gateSeg 3 s58.nowNs)).get (by decide +kernel)), by decide +kernel⟩,
   ⟨s61, 3, (((s61.gateSeg 3 (s61.nowNs + s61.fld (F.GATE_HOLD_ADV_ADV_NS 3)))).get (by decide +kernel)), by
     decide +kernel⟩,
   ⟨s58, 1, by decide +kernel⟩,
   ⟨s58, 3, by decide +kernel⟩⟩

/-- States and operands that meet the hypotheses of `Obligations.TimeCommandsAct`, clause by clause. -/
theorem witness_TimeCommandsAct :
    (∃ (s : State) (src : Nat), src < 4 ∧ s.mcRuns = true ∧ (3 ≤ src ∨ src = s.fld F.TIME_CTRL_SOURCE)) ∧
    (∃ (s : State) (src : Nat), src < 4 ∧ s.mcRuns = true ∧ src < 3 ∧ src ≠ s.fld F.TIME_CTRL_SOURCE) ∧
    (∃ (s : State), s.mcRuns = true ∧ (s.servoState = 1 ∨ ∀ p, p < 34 → s.flag (F.GATE_CTRL_GATE_EN p) = false)) ∧
    (∃ (s : State), s.mcRuns = true ∧ s.servoState ≠ 1 ∧ (∃ p, p < 34 ∧ s.flag (F.GATE_CTRL_GATE_EN p) = true)) ∧
    (∃ (s : State), s.mcRuns = true ∧ (s.servoState = 2 ∨ s.servoState = 3)) ∧
    (∃ (s : State), s.mcRuns = true ∧ s.servoState ≠ 2 ∧ s.servoState ≠ 3) :=
  ⟨⟨up, 0, by decide +kernel⟩,
   ⟨up, 2, by decide +kernel⟩,
   ⟨up, by decide +kernel⟩,
   ⟨s62, by decide +kernel⟩,
   ⟨s63, by decide +kernel⟩,
   ⟨up, by decide +kernel⟩⟩

/-- States and operands that meet the hypotheses of `Obligations.SyncsAreMeasuredAndRelayed`, clause by clause. -/
theorem witness_SyncsAreMeasuredAndRelayed :
    (∃ (s : State) (u : State) (m : InFrame) (b : List Byte), s.running = true ∧ s.takeGptp [0] = some (m, b, u) ∧
      s.gptpRole m.port = 2 ∧ s.flag (F.GPTP_PORT_STATUS_AS_CAPABLE m.port) = true ∧ ptpTwoStep b = true) ∧
    (∃ (s : State) (u : State) (m : InFrame) (b : List Byte) (st : SyncSt), s.running = true ∧ s.takeGptp [8] = some (m,
      b, u) ∧ s.gptpRole m.port = 2 ∧ s.time.syncs.find? (fun x => x.origin.isNone && x.seq == ptpSeq b && x.src ==
      ptpSource b) = some st) ∧
    (∃ (s : State) (st : SyncSt), s.running = true ∧ s.time.syncs.find? (fun x => x.origin.isNone) = some st) ∧
    (∃ (s : State) (st : SyncSt) (p : _) (o : _) (e : _), s.running = true ∧ p < 34 ∧ s.time.syncs.find? (fun x =>
      x.ready p) = some st ∧ st.origin = some o ∧ st.ports.find? (fun c => c.1 == p) = some (p, some e) ∧
      s.sleepingQueue (8 * p + s.fld (F.GPTP_PORT_CFG_QUEUE p)) = false) :=
  ⟨⟨s64, (((s64.takeGptp [0])).get (by decide +kernel)).2.2, (((s64.takeGptp [0])).get (by decide +kernel)).1,
     (((s64.takeGptp [0])).get (by decide +kernel)).2.1, by decide +kernel⟩,
   ⟨s65, (((s65.takeGptp [8])).get (by decide +kernel)).2.2, (((s65.takeGptp [8])).get (by decide +kernel)).1,
     (((s65.takeGptp [8])).get (by decide +kernel)).2.1, (((s65.time.syncs.find? (fun x => x.origin.isNone && x.seq ==
     ptpSeq (((s65.takeGptp [8])).get (by decide +kernel)).2.1 && x.src == ptpSource (((s65.takeGptp [8])).get (by
     decide +kernel)).2.1))).get (by decide +kernel)), by decide +kernel⟩,
   ⟨s65, (((s65.time.syncs.find? (fun x => x.origin.isNone))).get (by decide +kernel)), by decide +kernel⟩,
   ⟨s66, (sy (some (5000, 7, 9))), 33, ((((sy (some (5000, 7, 9))).origin)).get (by decide +kernel)), 99, by
     decide +kernel⟩⟩

/-- States and operands that meet the hypotheses of `Obligations.PeerDelayIsMeasured`, clause by clause. -/
theorem witness_PeerDelayIsMeasured :
    (∃ (s : State) (p : _) (q : _), s.running = true ∧ p < 34 ∧ s.gptpRole p ≠ 0 ∧ q ≠ p) ∧
    (∃ (s : State) (p : _), s.running = true ∧ p < 34 ∧ s.gptpRole p ≠ 0 ∧ (s.gport p).reqOut = false) ∧
    (∃ (s : State) (p : _), s.running = true ∧ p < 34 ∧ s.gptpRole p ≠ 0 ∧ (s.gport p).reqOut = true ∧ 3 ≤ (s.gport
      p).missed + 1) ∧
    (∃ (s : State) (u : State) (m : InFrame) (b : List Byte), s.running = true ∧ s.takeGptp [2] = some (m, b, u) ∧
      s.gptpRole m.port ≠ 0) ∧
    (∃ (s : State) (u : State) (m : InFrame) (b : List Byte), s.running = true ∧ s.takeGptp [3, 10] = some (m, b, u) ∧
      s.gptpRole m.port ≠ 0 ∧ (s.gport m.port).reqOut = true ∧ ptpSeq b = (s.gport m.port).seq ∧ slice b 44 10 =
      s.portIdentity m.port ∧ ptpType b = 3) ∧
    (∃ (s : State) (u : State) (m : InFrame) (b : List Byte) (t1 : _) (t2 : _) (t4 : _), s.running = true ∧ s.takeGptp
      [3, 10] = some (m, b, u) ∧ s.gptpRole m.port ≠ 0 ∧ (s.gport m.port).reqOut = true ∧ ptpSeq b = (s.gport
      m.port).seq ∧ slice b 44 10 = s.portIdentity m.port ∧ ptpType b ≠ 3 ∧ (s.gport m.port).t1 = some t1 ∧ (s.gport
      m.port).t2t4 = some (t2, t4) ∧ (s.gport m.port).exchanges = 0 ∧ (s.gport m.port).hist = []) :=
  ⟨⟨s67, 33, 0, by decide +kernel⟩,
   ⟨s67, 33, by decide +kernel⟩,
   ⟨s68, 33, by decide +kernel⟩,
   ⟨s69, (((s69.takeGptp [2])).get (by decide +kernel)).2.2, (((s69.takeGptp [2])).get (by decide +kernel)).1,
     (((s69.takeGptp [2])).get (by decide +kernel)).2.1, by decide +kernel⟩,
   ⟨s70, (((s70.takeGptp [3, 10])).get (by decide +kernel)).2.2, (((s70.takeGptp [3, 10])).get (by decide +kernel)).1,
     (((s70.takeGptp [3, 10])).get (by decide +kernel)).2.1, by decide +kernel⟩,
   ⟨s71, (((s71.takeGptp [3, 10])).get (by decide +kernel)).2.2, (((s71.takeGptp [3, 10])).get (by decide +kernel)).1,
     (((s71.takeGptp [3, 10])).get (by decide +kernel)).2.1, 26214400, 327745536, 458752000, by decide +kernel⟩⟩

/-- States and operands that meet the hypotheses of `Obligations.GrandmasterAndHoldover`, clause by clause. -/
theorem witness_GrandmasterAndHoldover :
    (∃ (s : State), s.running = true ∧ s.syncDue = false) ∧
    (∃ (s : State), s.running = true ∧ (s.timeSource = 0 ∨ (s.timeSource = 1 ∧ s.time.ppsSeen = true)) ∧ s.syncDue =
      true) ∧
    (∃ (s : State), s.running = true ∧ s.timeSource ≠ 0 ∧ s.servoState = 2 ∧ max 2 (s.fld F.SERVO_CFG_MISS_LIMIT) ≤ min
      15 (s.fld F.TIME_STATUS_MISSED + 1)) ∧
    (∃ (s : State), s.running = true ∧ s.timeSource ≠ 0 ∧ (s.servoState ≠ 2 ∨ min 15 (s.fld F.TIME_STATUS_MISSED + 1) <
      max 2 (s.fld F.SERVO_CFG_MISS_LIMIT))) :=
  ⟨⟨s72, by decide +kernel⟩,
   ⟨up, by decide +kernel⟩,
   ⟨s73, by decide +kernel⟩,
   ⟨s72, by decide +kernel⟩⟩

/-- States and operands that meet the hypotheses of `Obligations.PulsesAndInputsTakeEffect`, clause by clause. -/
theorem witness_PulsesAndInputsTakeEffect :
    (∃ (s : State) (n : Nat) (falling : Bool), s.powered = true ∧ n < 4 ∧ s.flag F.PPS_IN_CFG_EN = true ∧ s.flag
      F.PPS_IN_CFG_FALLING = falling) ∧
    (∃ (s : State) (n : Nat) (falling : Bool), s.powered = true ∧ n < 4 ∧ (s.flag F.PPS_IN_CFG_EN = false ∨ s.flag
      F.PPS_IN_CFG_FALLING ≠ falling)) ∧
    (∃ (s : State) (n : Nat), s.powered = true ∧ n < 4 ∧ s.ppsLevel n ≠ mapGet (fun _ => false) s.time.ppsOut n) ∧
    (∃ (s : State) (n : Nat), s.powered = true ∧ n < 4 ∧ s.ppsLevel n = mapGet (fun _ => false) s.time.ppsOut n) ∧
    (∃ (s : State), s.powered = true ∧ s.cycle % 64 ≠ 0) ∧
    (∃ (s : State) (a : Nat) (b : Nat) (i : _), a < 32768 ∧ b < 32768 ∧ s.powered = true ∧ s.cycle % 64 = 0 ∧
      s.time.ppsEdge = none ∧ s.saf.mode = .normal ∧ (∀ i, i < 15 → i ≠ 9 → s.runOf i < 15) ∧ (∀ n, n < 5 → s.lineUsed n
      = true → (s.fld F.WAKE_STATUS_LEVEL).testBit n = s.agreedIn (10 + n)) ∧ i < 15 ∧ i ≠ 9 ∧ a.testBit i = b.testBit
      i) ∧
    (∃ (s : State) (a : Nat) (b : Nat) (i : _), a < 32768 ∧ b < 32768 ∧ s.powered = true ∧ s.cycle % 64 = 0 ∧
      s.time.ppsEdge = none ∧ s.saf.mode = .normal ∧ (∀ i, i < 15 → i ≠ 9 → s.runOf i < 15) ∧ (∀ n, n < 5 → s.lineUsed n
      = true → (s.fld F.WAKE_STATUS_LEVEL).testBit n = s.agreedIn (10 + n)) ∧ i < 15 ∧ i ≠ 9 ∧ a.testBit i ≠ b.testBit
      i) ∧
    (∃ (s : State) (a : Nat) (b : Nat) (p : _), a < 32768 ∧ b < 32768 ∧ s.powered = true ∧ s.cycle % 64 = 0 ∧
      s.time.ppsEdge = none ∧ s.saf.mode = .normal ∧ (∀ i, i < 15 → i ≠ 9 → s.runOf i < 15) ∧ (∀ n, n < 5 → s.lineUsed n
      = true → (s.fld F.WAKE_STATUS_LEVEL).testBit n = s.agreedIn (10 + n)) ∧ p < 8) ∧
    (∃ (s : State) (a : Nat) (b : Nat), a < 32768 ∧ b < 32768 ∧ s.powered = true ∧ s.cycle % 64 = 0 ∧ s.time.ppsEdge =
      none ∧ s.saf.mode = .normal ∧ (∀ i, i < 15 → i ≠ 9 → s.runOf i < 15) ∧ (∀ n, n < 5 → s.lineUsed n = true → (s.fld
      F.WAKE_STATUS_LEVEL).testBit n = s.agreedIn (10 + n)) ∧ (∀ n, n < 4 → s.ppsLevel n = mapGet (fun _ => false)
      s.time.ppsOut n)) :=
  ⟨⟨s74, 0, (s74.flag F.PPS_IN_CFG_FALLING), by decide +kernel⟩,
   ⟨s75, 0, false, by decide +kernel⟩,
   ⟨s74, 1, by decide +kernel⟩,
   ⟨s75, 0, by decide +kernel⟩,
   ⟨s75, by decide +kernel⟩,
   ⟨up, 0, 0, 0, by decide +kernel⟩,
   ⟨up, 0, 1, 0, by decide +kernel⟩,
   ⟨up, 0, 0, 0, by decide +kernel⟩,
   ⟨up, 0, 0, by decide +kernel⟩⟩

/-- States and operands that meet the hypotheses of `Obligations.CanFramesComeAndGo`, clause by clause. -/
theorem witness_CanFramesComeAndGo :
    (∃ (s : State) (n : Nat) (f : CanFrame), n < 24 ∧ canFrameOk f = true ∧ s.powered = true ∧ s.running = true ∧
      s.canOnBus n = true ∧ (s.can n).cur = none ∧ s.fld F.NM_STATE_RING < 2 ∧ s.canFormat n f = 0 ∧ s.flag
      (F.CAN_CTRL_SHADOW n) = false ∧ s.fld (F.CAN_STATUS_REC n) ≤ 127 ∧ fifoFits (s.can n).fifo f.data.length = true) ∧
    (∃ (s : State) (n : Nat) (f : CanFrame), n < 24 ∧ canFrameOk f = true ∧ s.powered = true ∧ s.running = true ∧
      s.canOnBus n = true ∧ (s.can n).cur = none ∧ s.fld F.NM_STATE_RING < 2 ∧ s.canFormat n f = 0 ∧ s.flag
      (F.CAN_CTRL_SHADOW n) = false ∧ s.fld (F.CAN_STATUS_REC n) ≤ 127 ∧ fifoFits (s.can n).fifo f.data.length = false) ∧
    (∃ (s : State) (n : Nat) (f : CanFrame), n < 24 ∧ canFrameOk f = true ∧ s.powered = true ∧ s.running = true ∧
      s.canOnBus n = true ∧ (s.can n).cur = none ∧ s.fld F.NM_STATE_RING < 2 ∧ s.canFormat n f = 0 ∧ s.flag
      (F.CAN_CTRL_SHADOW n) = true ∧ (s.can n).reqs.any (fun r => r.id == f.id && r.fmt == f.fmt && r.fdf == f.fdf &&
      r.data == f.data) = true) ∧
    (∃ (s : State) (n : Nat) (f : CanFrame), n < 24 ∧ canFrameOk f = true ∧ s.powered = true ∧ s.running = true ∧
      s.canOnBus n = true ∧ (s.can n).cur = none ∧ s.fld F.NM_STATE_RING < 2 ∧ s.canFormat n f = 1 ∧ s.flag
      (F.CAN_CTRL_SHADOW n) = false) ∧
    (∃ (s : State) (n : Nat) (f : CanFrame), n < 24 ∧ canFrameOk f = true ∧ s.powered = true ∧ s.running = true ∧
      s.canOnBus n = true ∧ (s.can n).cur = none ∧ s.fld F.NM_STATE_RING < 2 ∧ s.canFormat n f = 2) ∧
    (∃ (s : State) (n : Nat) (r : _) (m : _), n < 24 ∧ s.powered = true ∧ s.canOnBus n = true ∧ firstReq (s.can n).reqs
      = some r ∧ (s.can n).cur = none ∧ s.flag (F.CAN_CTRL_SHADOW n) = false ∧ s.fld (F.CAN_CTRL_MODE n) = 1 ∧
      s.groupQuiet (s.chanGroup n) = false ∧ m ≠ n) ∧
    (∃ (s : State) (n : Nat) (r : _) (stamp : _), n < 24 ∧ s.powered = true ∧ s.canOnBus n = true ∧ (s.can n).cur = some
      (r, stamp) ∧ s.flag (F.CAN_CTRL_SHADOW n) = true) ∧
    (∃ (s : State) (n : Nat) (r : _) (stamp : _), n < 24 ∧ s.powered = true ∧ s.canOnBus n = true ∧ (s.can n).cur = some
      (r, stamp) ∧ s.flag (F.CAN_CTRL_SHADOW n) = false) :=
  ⟨⟨s76, 23, (cfr 0 5 false [1, 2]), by decide +kernel⟩,
   ⟨s77, 23, (cfr 0 5 false [1, 2]), by decide +kernel⟩,
   ⟨s78, 23, (cfr 0 5 false [1, 2]), by decide +kernel⟩,
   ⟨s77, 23, (cfr 1 5 true [1, 2, 3]), by decide +kernel⟩,
   ⟨s79, 23, (cfr 2 6 true [4]), by decide +kernel⟩,
   ⟨s80, 23, (((firstReq (s80.can 23).reqs)).get (by decide +kernel)), 1, by decide +kernel⟩,
   ⟨s81, 23, ((((s81.can 23).cur)).get (by decide +kernel)).1, 77, by decide +kernel⟩,
   ⟨s82, 23, ((((s82.can 23).cur)).get (by decide +kernel)).1, 77, by decide +kernel⟩⟩

/-- States and operands that meet the hypotheses of `Obligations.CanErrorsAndBusOff`, clause by clause. -/
theorem witness_CanErrorsAndBusOff :
    (∃ (s : State) (n : Nat) (lec : Nat) (step : Nat), n < 24 ∧ lec < 8 ∧ (step = 0 ∨ step = 1 ∨ step = 8) ∧ s.powered =
      true ∧ s.canOnBus n = true ∧ s.flag (F.CAN_CTRL_SHADOW n) = false ∧ (s.can n).cur = none) ∧
    (∃ (s : State) (n : Nat) (lec : Nat) (step : Nat) (r : _) (stamp : _), n < 24 ∧ lec < 8 ∧ (step = 0 ∨ step = 1 ∨
      step = 8) ∧ s.powered = true ∧ s.canOnBus n = true ∧ s.flag (F.CAN_CTRL_SHADOW n) = false ∧ (s.can n).cur = some
      (r, stamp) ∧ 256 ≤ s.fld (F.CAN_STATUS_TEC n) + step) ∧
    (∃ (s : State) (n : Nat) (lec : Nat) (step : Nat) (r : _) (stamp : _), n < 24 ∧ lec < 8 ∧ (step = 0 ∨ step = 1 ∨
      step = 8) ∧ s.powered = true ∧ s.canOnBus n = true ∧ s.flag (F.CAN_CTRL_SHADOW n) = false ∧ (s.can n).cur = some
      (r, stamp) ∧ s.fld (F.CAN_LIMITS_TX_RETRY n) = 0) ∧
    (∃ (s : State) (n : Nat), n < 24 ∧ s.powered = true ∧ s.fld (F.CAN_STATUS_STATE n) = 2 ∧ s.busRuns (K.CAN_CTRL n) =
      true ∧ (s.can n).asked = false) ∧
    (∃ (s : State) (n : Nat), n < 24 ∧ s.powered = true ∧ s.fld (F.CAN_STATUS_STATE n) = 2 ∧ s.busRuns (K.CAN_CTRL n) =
      true ∧ (s.can n).asked = true) ∧
    (∃ (s : State) (n : Nat), n < 24 ∧ s.powered = true ∧ s.fld (F.CAN_STATUS_STATE n) = 2 ∧ (s.can n).recovering =
      true) ∧
    (∃ (s : State) (n : Nat), n < 24 ∧ s.powered = true ∧ s.fld (F.CAN_STATUS_STATE n) ≠ 2) :=
  ⟨⟨s76, 23, 7, 8, by decide +kernel⟩,
   ⟨s83, 23, 7, 8, ((((s83.can 23).cur)).get (by decide +kernel)).1, 77, by decide +kernel⟩,
   ⟨s82, 23, 7, 8, ((((s82.can 23).cur)).get (by decide +kernel)).1, 77, by decide +kernel⟩,
   ⟨s84, 23, by decide +kernel⟩,
   ⟨s85, 23, by decide +kernel⟩,
   ⟨s86, 23, by decide +kernel⟩,
   ⟨s76, 23, by decide +kernel⟩⟩

/-- States and operands that meet the hypotheses of `Obligations.StuckChannelsAndShadows`, clause by clause. -/
theorem witness_StuckChannelsAndShadows :
    (∃ (s : State) (n : _), s.powered = true ∧ n < 24 ∧ s.canLive n = true) ∧
    (∃ (s : State) (n : _), s.powered = true ∧ n < 24 ∧ s.flag (F.CAN_STATUS_ISOLATED n) = true) ∧
    (∃ (s : State) (n : _), s.powered = true ∧ n < 8 ∧ s.linLive n = true) ∧
    (∃ (s : State) (n : _), s.powered = true ∧ n < 8 ∧ s.flag (F.LIN_STATUS_ISOLATED n) = true) ∧
    (∃ (s : State) (n : Nat), n < 8 ∧ s.powered = true ∧ s.busRuns (K.LIN_CTRL n) = true ∧ s.flag
      (F.LIN_STATUS_SWITCH_PENDING n) = true) ∧
    (∃ (s : State) (n : Nat), n < 8 ∧ s.powered = true ∧ s.busRuns (K.LIN_CTRL n) = true ∧ s.flag
      (F.LIN_STATUS_SWITCH_PENDING n) = false ∧ (s.linTableLen n (s.fld (F.LIN_STATUS_TABLE n)) = 0 ∨ s.fld
      (F.LIN_CTRL_MODE n) ≠ 1)) ∧
    (∃ (s : State) (n : Nat), n < 8 ∧ s.powered = true ∧ s.busRuns (K.LIN_CTRL n) = true ∧ s.flag
      (F.LIN_STATUS_SWITCH_PENDING n) = false ∧ s.linTableLen n (s.fld (F.LIN_STATUS_TABLE n)) ≠ 0 ∧ s.fld
      (F.LIN_CTRL_MODE n) = 1) ∧
    (∃ (s : State) (n : Nat), n < 8 ∧ s.powered = true ∧ s.busRuns (K.LIN_CTRL n) = true ∧ (s.lin n).pulse = true) ∧
    (∃ (s : State) (n : Nat), n < 8 ∧ s.powered = true ∧ s.busRuns (K.LIN_CTRL n) = true ∧ (s.lin n).pulse = false ∧
      s.linLive n = true ∧ s.flag (F.LIN_CTRL_SHADOW n) = false) ∧
    (∃ (s : State) (n : Nat) (m : _), n < 8 ∧ s.powered = true ∧ s.shadows = false ∧ m < 24 ∧ s.flag (F.CAN_CTRL_SHADOW
      m) = true) ∧
    (∃ (s : State) (n : Nat), n < 8 ∧ s.powered = true ∧ s.shadows = false ∧ s.flag (F.LIN_CTRL_SHADOW n) = true) :=
  ⟨⟨s82, 23, by decide +kernel⟩,
   ⟨s87, 23, by decide +kernel⟩,
   ⟨s88, 7, by decide +kernel⟩,
   ⟨s89, 7, by decide +kernel⟩,
   ⟨s90, 7, by decide +kernel⟩,
   ⟨s82, 7, by decide +kernel⟩,
   ⟨s88, 7, by decide +kernel⟩,
   ⟨s91, 7, by decide +kernel⟩,
   ⟨s88, 7, by decide +kernel⟩,
   ⟨s92, 7, 23, by decide +kernel⟩,
   ⟨s92, 7, by decide +kernel⟩⟩

/-- States and operands that meet the hypotheses of `Obligations.LinSlotsAndResponses`, clause by clause. -/
theorem witness_LinSlotsAndResponses :
    (∃ (s : State) (n : Nat) (k : Nat) (id : _) (e : _), n < 8 ∧ s.powered = true ∧ s.linLive n = true ∧ s.fld
      (F.LIN_CTRL_MODE n) = 1 ∧ s.slotDue n = true ∧ (s.lin n).goSleep = false ∧ s.groupQuiet (s.chanGroup (24 + n)) =
      false ∧ s.flag (F.LIN_STATUS_SWITCH_PENDING n) = false ∧ s.linTableLen n (s.fld (F.LIN_STATUS_TABLE n)) ≠ 0 ∧ k =
      (if s.linTableLen n (s.fld (F.LIN_STATUS_TABLE n)) ≤ (s.lin n).next then 0 else (s.lin n).next) ∧ e = 32 * s.fld
      (F.LIN_STATUS_TABLE n) + k ∧ s.flag (F.LIN_CTRL_SHADOW n) = false ∧ ((s.fld (F.LIN_SCHED_ENTRY_TYPE n e) < 2 ∧ id
      = s.fld (F.LIN_SCHED_ENTRY_ID n e)) ∨ (s.fld (F.LIN_SCHED_ENTRY_TYPE n e) = 3 ∧ id = 0x3D)) ∧ s.linBusy n = true) ∧
    (∃ (s : State) (n : Nat) (k : Nat) (id : _) (e : _), n < 8 ∧ s.powered = true ∧ s.linLive n = true ∧ s.fld
      (F.LIN_CTRL_MODE n) = 1 ∧ s.slotDue n = true ∧ (s.lin n).goSleep = false ∧ s.groupQuiet (s.chanGroup (24 + n)) =
      false ∧ s.flag (F.LIN_STATUS_SWITCH_PENDING n) = false ∧ s.linTableLen n (s.fld (F.LIN_STATUS_TABLE n)) ≠ 0 ∧ k =
      (if s.linTableLen n (s.fld (F.LIN_STATUS_TABLE n)) ≤ (s.lin n).next then 0 else (s.lin n).next) ∧ e = 32 * s.fld
      (F.LIN_STATUS_TABLE n) + k ∧ s.flag (F.LIN_CTRL_SHADOW n) = false ∧ ((s.fld (F.LIN_SCHED_ENTRY_TYPE n e) < 2 ∧ id
      = s.fld (F.LIN_SCHED_ENTRY_ID n e)) ∨ (s.fld (F.LIN_SCHED_ENTRY_TYPE n e) = 3 ∧ id = 0x3D)) ∧ s.linBusy n = false
      ∧ s.linDir n id = 0) ∧
    (∃ (s : State) (n : Nat) (k : Nat) (id : _) (e : _), n < 8 ∧ s.powered = true ∧ s.linLive n = true ∧ s.fld
      (F.LIN_CTRL_MODE n) = 1 ∧ s.slotDue n = true ∧ (s.lin n).goSleep = false ∧ s.groupQuiet (s.chanGroup (24 + n)) =
      false ∧ s.flag (F.LIN_STATUS_SWITCH_PENDING n) = false ∧ s.linTableLen n (s.fld (F.LIN_STATUS_TABLE n)) ≠ 0 ∧ k =
      (if s.linTableLen n (s.fld (F.LIN_STATUS_TABLE n)) ≤ (s.lin n).next then 0 else (s.lin n).next) ∧ e = 32 * s.fld
      (F.LIN_STATUS_TABLE n) + k ∧ s.flag (F.LIN_CTRL_SHADOW n) = false ∧ ((s.fld (F.LIN_SCHED_ENTRY_TYPE n e) < 2 ∧ id
      = s.fld (F.LIN_SCHED_ENTRY_ID n e)) ∨ (s.fld (F.LIN_SCHED_ENTRY_TYPE n e) = 3 ∧ id = 0x3D)) ∧ s.linBusy n = false
      ∧ s.linDir n id = 2) ∧
    (∃ (s : State) (n : Nat) (k : Nat) (id : _) (e : _) (d : _), n < 8 ∧ s.powered = true ∧ s.linLive n = true ∧ s.fld
      (F.LIN_CTRL_MODE n) = 1 ∧ s.slotDue n = true ∧ (s.lin n).goSleep = false ∧ s.groupQuiet (s.chanGroup (24 + n)) =
      false ∧ s.flag (F.LIN_STATUS_SWITCH_PENDING n) = false ∧ s.linTableLen n (s.fld (F.LIN_STATUS_TABLE n)) ≠ 0 ∧ k =
      (if s.linTableLen n (s.fld (F.LIN_STATUS_TABLE n)) ≤ (s.lin n).next then 0 else (s.lin n).next) ∧ e = 32 * s.fld
      (F.LIN_STATUS_TABLE n) + k ∧ s.flag (F.LIN_CTRL_SHADOW n) = false ∧ ((s.fld (F.LIN_SCHED_ENTRY_TYPE n e) < 2 ∧ id
      = s.fld (F.LIN_SCHED_ENTRY_ID n e)) ∨ (s.fld (F.LIN_SCHED_ENTRY_TYPE n e) = 3 ∧ id = 0x3D)) ∧ s.linBusy n = false
      ∧ s.linDir n id = 1 ∧ s.linData n id = some d) ∧
    (∃ (s : State) (n : Nat) (k : Nat), n < 8 ∧ s.powered = true ∧ s.linLive n = true ∧ s.fld (F.LIN_CTRL_MODE n) = 1 ∧
      s.slotDue n = true ∧ (s.lin n).goSleep = false ∧ s.groupQuiet (s.chanGroup (24 + n)) = false ∧ s.flag
      (F.LIN_STATUS_SWITCH_PENDING n) = false ∧ s.linTableLen n (s.fld (F.LIN_STATUS_TABLE n)) ≠ 0 ∧ k = (if
      s.linTableLen n (s.fld (F.LIN_STATUS_TABLE n)) ≤ (s.lin n).next then 0 else (s.lin n).next) ∧ s.fld
      (F.LIN_SCHED_ENTRY_TYPE n (32 * s.fld (F.LIN_STATUS_TABLE n) + k)) = 2 ∧ (s.lin n).diag = none) ∧
    (∃ (s : State) (n : Nat) (id : Nat), n < 8 ∧ id < 64 ∧ s.powered = true ∧ s.linLive n = true ∧ s.fld
      (F.LIN_CTRL_MODE n) = 2 ∧ s.linDir n id = 0) ∧
    (∃ (s : State) (n : Nat) (id : Nat), n < 8 ∧ id < 64 ∧ s.powered = true ∧ s.linLive n = true ∧ s.fld
      (F.LIN_CTRL_MODE n) = 2 ∧ s.linDir n id = 2) ∧
    (∃ (s : State) (n : Nat) (id : Nat) (d : _), n < 8 ∧ id < 64 ∧ s.powered = true ∧ s.linLive n = true ∧ s.fld
      (F.LIN_CTRL_MODE n) = 2 ∧ s.linDir n id = 1 ∧ s.linData n id = some d ∧ s.flag (F.LIN_CTRL_SHADOW n) = false) ∧
    (∃ (s : State) (n : Nat) (i : Nat) (bytes : List Byte), n < 8 ∧ bytes.length < 10 ∧ s.powered = true ∧ s.linLive n =
      true ∧ (s.lin n).await = some i ∧ (s.lin n).waiting = none ∧ s.fld F.NM_STATE_RING < 2 ∧ bytes.length ≤ s.linLen n
      i) ∧
    (∃ (s : State) (n : Nat) (i : Nat) (bytes : List Byte), n < 8 ∧ bytes.length < 10 ∧ s.powered = true ∧ s.linLive n =
      true ∧ (s.lin n).await = some i ∧ (s.lin n).waiting = none ∧ s.fld F.NM_STATE_RING < 2 ∧ s.linLen n i <
      bytes.length ∧ bytes.getD (s.linLen n i) 0 ≠ s.linChecksum n i (bytes.take (s.linLen n i))) ∧
    (∃ (s : State) (n : Nat) (i : Nat) (bytes : List Byte), n < 8 ∧ bytes.length < 10 ∧ s.powered = true ∧ s.linLive n =
      true ∧ (s.lin n).await = some i ∧ (s.lin n).waiting = none ∧ s.fld F.NM_STATE_RING < 2 ∧ s.linLen n i <
      bytes.length ∧ bytes.getD (s.linLen n i) 0 = s.linChecksum n i (bytes.take (s.linLen n i)) ∧ s.running = true ∧
      fifoFits (s.lin n).fifo (s.linLen n i) = true) :=
  ⟨⟨s93, 7, 0, 5, 0, by decide +kernel⟩,
   ⟨s94, 7, 0, 5, 0, by decide +kernel⟩,
   ⟨s95, 7, 0, 5, 0, by decide +kernel⟩,
   ⟨s96, 7, 0, 5, 0, (((s96.linData 7 5)).get (by decide +kernel)), by decide +kernel⟩,
   ⟨s97, 7, 0, by decide +kernel⟩,
   ⟨s98, 7, 7, by decide +kernel⟩,
   ⟨s98, 7, 5, by decide +kernel⟩,
   ⟨s99, 7, 5, (((s99.linData 7 5)).get (by decide +kernel)), by decide +kernel⟩,
   ⟨s93, 7, 9, [], by decide +kernel⟩,
   ⟨s100, 7, 5, [1, 2, 3, 4, 5], by decide +kernel⟩,
   ⟨s100, 7, 5, [1, 2, 3, 4, (ln 1 []).linChecksum 7 5 [1, 2, 3, 4]], by decide +kernel⟩⟩

/-- States and operands that meet the hypotheses of `Obligations.UnitsRunTheirRoutes`, clause by clause. -/
theorem witness_UnitsRunTheirRoutes :
    (∃ (s : State) (ty : Nat) (src : Nat) (z : Nat) (fmt : Nat) (id : Nat) (stamp : Nat) (pr : Proto) (data : List Byte)
      (rest : List WUnit), s.running = true ∧ s.twin.snapping = false ∧ s.fifosEmpty ∧ s.wvr.units = .pdu ty src z fmt
      id data stamp pr :: rest ∧ s.pduMatch ty src z fmt id = none) ∧
    (∃ (s : State) (ty : Nat) (src : Nat) (z : Nat) (fmt : Nat) (id : Nat) (stamp : Nat) (pr : Proto) (data : List Byte)
      (rest : List WUnit) (i : _), s.running = true ∧ s.twin.snapping = false ∧ s.fifosEmpty ∧ s.wvr.units = .pdu ty src
      z fmt id data stamp pr :: rest ∧ s.pduMatch ty src z fmt id = some i ∧ s.routesOf i = [] ∧ s.wvr.openFrames = []) ∧
    (∃ (s : State) (n : Nat) (ty : Nat) (src : Nat) (z : Nat) (fmt : Nat) (id : Nat) (stamp : Nat) (pr : Proto) (data :
      List Byte) (c : CanSt) (r : List WUnit), s.running = true ∧ s.twin.snapping = false ∧ s.edge.can = [(n, c)] ∧
      c.fifo = .pdu ty src z fmt id data stamp pr :: r ∧ s.edge.lin = [] ∧ s.wvr.units = [] ∧ s.pduMatch ty src z fmt id
      = none) ∧
    (∃ (s : State) (ty : Nat) (src : Nat) (z : Nat) (fmt : Nat) (id : Nat) (stamp : Nat) (i : Nat) (r : Nat) (dst : Nat)
      (y : Int) (pr : Proto) (data : List Byte) (rest : List WUnit), s.running = true ∧ s.twin.snapping = false ∧
      s.fifosEmpty ∧ s.wvr.units = .pdu ty src z fmt id data stamp pr :: rest ∧ s.wvr.openFrames = [] ∧ s.pduMatch ty
      src z fmt id = some i ∧ s.routesOf i = [r] ∧ s.rtCovered r (data.take (s.pduLen i)).length = true ∧ s.rtCompute r
      (data.take (s.pduLen i)) false = ⟨some y, false, false⟩ ∧ s.flag (F.WVR_RT_DATA0_DST_KIND r) = false ∧ dst = s.fld
      (F.WVR_RT_DATA0_DST r) ∧ s.isTxPdu dst = true ∧ s.pdu2 dst 31 30 = 0 ∧ 2 ≤ s.pduKind dst) :=
  ⟨⟨s101, 0, 3, 0, 0, 5, 1000, .none, [9, 8, 7, 6], [.timeout 3], by decide +kernel⟩,
   ⟨s102, 0, 3, 0, 0, 5, 1000, .none, [9, 8, 7, 6], [.timeout 3], 7, by decide +kernel⟩,
   ⟨s103, 3, 0, 3, 0, 0, 5, 1000, .none, [9, 8, 7, 6], ((s103.edge.can).head (by decide +kernel)).2, [], by
     decide +kernel⟩,
   ⟨s104, 0, 3, 0, 0, 5, 1000, 7, 11, 20, 9, .none, [9, 8, 7, 6], [.timeout 3], by decide +kernel⟩⟩

/-- States and operands that meet the hypotheses of `Obligations.RouteArithmetic`, clause by clause. -/
theorem witness_RouteArithmetic :
    (∃ (s : State) (r : Nat) (img : List Byte) (x : Int) (y : Int), x = extractSig img (s.fld (F.WVR_RT_DATA1_SRC_START
      r)) (s.fld (F.WVR_RT_DATA1_SRC_LEN_M1 r) + 1) (s.flag (F.WVR_RT_DATA1_SRC_ORDER r)) (s.flag
      (F.WVR_RT_DATA1_SRC_SIGNED r)) ∧ y = (x * s.rtWord (K.WVR_RT_DATA3 r) + s.rtWord (K.WVR_RT_DATA4 r) + (if s.flag
      (F.WVR_RT_DATA0_ROUND r) = true ∧ 0 < s.fld (F.WVR_RT_DATA1_S r) then 2 ^ (s.fld (F.WVR_RT_DATA1_S r) - 1) else
      0)) / 2 ^ s.fld (F.WVR_RT_DATA1_S r) ∧ s.flag (F.WVR_RT_DATA0_ENUM_EN r) = false ∧ s.flag (F.WVR_RT_DATA0_RANGE_EN
      r) = true ∧ (y < s.rtWord (K.WVR_RT_DATA5 r) ∨ s.rtWord (K.WVR_RT_DATA6 r) < y)) :=
  ⟨s105, 11, [9, 8, 7, 6], 9, 9, by decide +kernel⟩

/-- States and operands that meet the hypotheses of `Obligations.WeaverTimesOutAndCloses`, clause by clause. -/
theorem witness_WeaverTimesOutAndCloses :
    (∃ (s : State) (i : Nat) (d : Nat), i < 4096 ∧ s.running = true ∧ mapGet (fun _ => none) s.wvr.deadline i = some d ∧
      d ≤ s.nowNs ∧ s.pduStandby i = false ∧ s.newUnits = 0 ∧ s.wvr.units.length < 256) ∧
    (∃ (s : State) (i : Nat) (d : Nat), i < 4096 ∧ s.running = true ∧ mapGet (fun _ => none) s.wvr.deadline i = some d ∧
      d ≤ s.nowNs ∧ s.pduStandby i = false ∧ s.newUnits = 0 ∧ 256 ≤ s.wvr.units.length) ∧
    (∃ (s : State) (i : Nat) (d : Nat), i < 4096 ∧ s.running = true ∧ mapGet (fun _ => none) s.wvr.deadline i = some d ∧
      (s.nowNs < d ∨ s.pduStandby i = true)) ∧
    (∃ (s : State) (c : Nat) (f : OpenFrame), c < 512 ∧ s.running = true ∧ s.openFrame c = f ∧ f.pdus ≠ [] ∧ f.since +
      500 * s.fld (F.WVR_CAR_CFG1_HOLD_US c) ≤ s.cycle ∧ s.mgt.wvLane.length < 64) ∧
    (∃ (s : State) (c : Nat) (f : OpenFrame), c < 512 ∧ s.running = true ∧ s.openFrame c = f ∧ f.pdus ≠ [] ∧ f.since +
      500 * s.fld (F.WVR_CAR_CFG1_HOLD_US c) ≤ s.cycle ∧ 64 ≤ s.mgt.wvLane.length) ∧
    (∃ (s : State) (c : Nat) (f : OpenFrame), c < 512 ∧ s.running = true ∧ s.openFrame c = f ∧ f.pdus ≠ [] ∧ s.cycle <
      f.since + 500 * s.fld (F.WVR_CAR_CFG1_HOLD_US c)) :=
  ⟨⟨s106, 4095, 0, by decide +kernel⟩,
   ⟨s107, 4095, 0, by decide +kernel⟩,
   ⟨s108, 4095, 5000, by decide +kernel⟩,
   ⟨s109, 511, (s109.openFrame 511), by decide +kernel⟩,
   ⟨s110, 511, (s110.openFrame 511), by decide +kernel⟩,
   ⟨s111, 511, (s111.openFrame 511), by decide +kernel⟩⟩

/-- States and operands that meet the hypotheses of `Obligations.SendsPlaceRequests`, clause by clause. -/
theorem witness_SendsPlaceRequests :
    (∃ (s : State) (i : Nat) (n : Nat), s.pduKind i = 0 ∧ n = s.pduChannel i ∧ s.maySend i = true ∧ s.fld
      (F.CAN_CTRL_MODE n) = 1 ∧ s.chanHeld n = false ∧ s.flag (F.CAN_STATUS_ISOLATED n) = false ∧ s.fld
      (F.CAN_STATUS_STATE n) ≠ 2 ∧ s.flag (F.CAN_CTRL_SHADOW n) = false ∧ (s.can n).reqs.length + b2n (s.can
      n).cur.isSome < 32 ∧ i = s.fld F.WVR_PDU_INDEX_INDEX ∧ s.mcRuns = true ∧ s.cyclicNow i = false ∧ (∀ e, s.gapEnd i
      = some e → e ≤ s.cycle)) ∧
    (∃ (s : State) (i : Nat) (n : Nat), s.pduKind i = 0 ∧ n = s.pduChannel i ∧ s.maySend i = true ∧ s.fld
      (F.CAN_CTRL_MODE n) = 1 ∧ s.chanHeld n = false ∧ s.flag (F.CAN_STATUS_ISOLATED n) = false ∧ s.fld
      (F.CAN_STATUS_STATE n) ≠ 2 ∧ s.flag (F.CAN_CTRL_SHADOW n) = false ∧ (s.can n).reqs.length + b2n (s.can
      n).cur.isSome < 32 ∧ i = s.fld F.WVR_PDU_INDEX_INDEX ∧ s.mcRuns = true ∧ s.cyclicNow i = true) ∧
    (∃ (s : State) (i : Nat) (n : Nat) (e : _), s.pduKind i = 0 ∧ n = s.pduChannel i ∧ s.maySend i = true ∧ s.fld
      (F.CAN_CTRL_MODE n) = 1 ∧ s.chanHeld n = false ∧ s.flag (F.CAN_STATUS_ISOLATED n) = false ∧ s.fld
      (F.CAN_STATUS_STATE n) ≠ 2 ∧ s.flag (F.CAN_CTRL_SHADOW n) = false ∧ (s.can n).reqs.length + b2n (s.can
      n).cur.isSome < 32 ∧ i = s.fld F.WVR_PDU_INDEX_INDEX ∧ s.mcRuns = true ∧ s.cyclicNow i = false ∧ s.gapEnd i = some
      e ∧ s.cycle < e ∧ s.flag (F.WVR_PDU_STATE_DEFERRED i) = false) ∧
    (∃ (s : State) (i : Nat) (n : Nat) (e : _), s.pduKind i = 0 ∧ n = s.pduChannel i ∧ s.maySend i = true ∧ s.fld
      (F.CAN_CTRL_MODE n) = 1 ∧ s.chanHeld n = false ∧ s.flag (F.CAN_STATUS_ISOLATED n) = false ∧ s.fld
      (F.CAN_STATUS_STATE n) ≠ 2 ∧ s.flag (F.CAN_CTRL_SHADOW n) = false ∧ (s.can n).reqs.length + b2n (s.can
      n).cur.isSome < 32 ∧ s.running = true ∧ s.deferredReady = [(i, e)]) ∧
    (∃ (s : State) (i : Nat) (n : Nat) (d : _), s.pduKind i = 0 ∧ n = s.pduChannel i ∧ s.maySend i = true ∧ s.fld
      (F.CAN_CTRL_MODE n) = 1 ∧ s.chanHeld n = false ∧ s.flag (F.CAN_STATUS_ISOLATED n) = false ∧ s.fld
      (F.CAN_STATUS_STATE n) ≠ 2 ∧ s.flag (F.CAN_CTRL_SHADOW n) = false ∧ (s.can n).reqs.length + b2n (s.can
      n).cur.isSome < 32 ∧ s.running = true ∧ s.wvr.due = [(i, some d)] ∧ d ≤ s.nowNs) :=
  ⟨⟨s112, 7, 3, by decide +kernel⟩,
   ⟨s113, 7, 3, by decide +kernel⟩,
   ⟨s114, 7, 3, 25010, by decide +kernel⟩,
   ⟨s115, 7, 3, 0, by decide +kernel⟩,
   ⟨s113, 7, 3, 0, by decide +kernel⟩⟩

/-- States and operands that meet the hypotheses of `Obligations.WeaverAndSecureEntriesCommit`, clause by clause. -/
theorem witness_WeaverAndSecureEntriesCommit :
    (∃ (s : State), s.mcRuns = true ∧
      (match s.routeOwner (s.fld F.WVR_RT_INDEX_INDEX) with | some i => wordBits (s.heldOr (K.WVR_RT_DATA0 (s.fld F.WVR_RT_INDEX_INDEX))) 31 31 == 1 && wordBits (s.heldOr (K.WVR_RT_DATA0 (s.fld F.WVR_RT_INDEX_INDEX))) 30 30 == 0 && s.isTxPdu (wordBits (s.heldOr (K.WVR_RT_DATA0 (s.fld F.WVR_RT_INDEX_INDEX))) 11 0) && !s.flag (F.ZONE_PAIR_PERMIT (16 * s.pduZone i + s.pduZone (wordBits (s.heldOr (K.WVR_RT_DATA0 (s.fld F.WVR_RT_INDEX_INDEX))) 11 0))) | none => false)
      = true) ∧
    (∃ (s : State), s.mcRuns = true ∧
      (match s.routeOwner (s.fld F.WVR_RT_INDEX_INDEX) with | some i => wordBits (s.heldOr (K.WVR_RT_DATA0 (s.fld F.WVR_RT_INDEX_INDEX))) 31 31 == 1 && wordBits (s.heldOr (K.WVR_RT_DATA0 (s.fld F.WVR_RT_INDEX_INDEX))) 30 30 == 0 && s.isTxPdu (wordBits (s.heldOr (K.WVR_RT_DATA0 (s.fld F.WVR_RT_INDEX_INDEX))) 11 0) && !s.flag (F.ZONE_PAIR_PERMIT (16 * s.pduZone i + s.pduZone (wordBits (s.heldOr (K.WVR_RT_DATA0 (s.fld F.WVR_RT_INDEX_INDEX))) 11 0))) | none => false)
      = false) ∧
    (∃ (s : State) (j : _), s.mcRuns = true ∧ j < 16) ∧
    (∃ (s : State) (j : _), s.mcRuns = true ∧ j < 16 ∧ s.pduTx (s.fld F.WVR_PDU_INDEX_INDEX) = true) ∧
    (∃ (s : State) (j : _), s.mcRuns = true ∧ j < 16 ∧ s.pduTx (s.fld F.WVR_PDU_INDEX_INDEX) = false) ∧
    (∃ (s : State) (p : Nat), p < 10 ∧ s.mcRuns = true ∧ ((s.fld (F.SEC_SA_INDEX_SA p)) < 4 ∨ s.receiving p = false)) ∧
    (∃ (s : State) (p : Nat), p < 10 ∧ s.mcRuns = true ∧ 4 ≤ (s.fld (F.SEC_SA_INDEX_SA p)) ∧ s.receiving p = true) ∧
    (∃ (s : State) (p : Nat) (q : _), p < 10 ∧ s.powered = true ∧ q ≠ p) ∧
    (∃ (s : State) (p : Nat), p < 10 ∧ s.powered = true ∧ s.saUsable p (s.fld (F.SEC_CFG_TX_AN p)) = true) ∧
    (∃ (s : State) (p : Nat), p < 10 ∧ s.powered = true ∧ s.saUsable p (s.fld (F.SEC_CFG_TX_AN p)) = false) :=
  ⟨⟨s116, by decide +kernel⟩,
   ⟨s117, by decide +kernel⟩,
   ⟨s117, 9, by decide +kernel⟩,
   ⟨s118, 9, by decide +kernel⟩,
   ⟨s117, 9, by decide +kernel⟩,
   ⟨s117, 0, by decide +kernel⟩,
   ⟨s117, 9, by decide +kernel⟩,
   ⟨s117, 9, 0, by decide +kernel⟩,
   ⟨s119, 9, by decide +kernel⟩,
   ⟨s117, 9, by decide +kernel⟩⟩

/-- States and operands that meet the hypotheses of `Obligations.KeyEngineServesItsCommands`, clause by clause. -/
theorem witness_KeyEngineServesItsCommands :
    (∃ (s : State) (c : Cmd) (rest : List Cmd) (status : _), s.mcRuns = true ∧ s.mgt.execQ = c :: rest ∧ s.key.keyOp =
      some (c.opcode, status)) ∧
    (∃ (s : State) (c : Cmd) (rest : List Cmd), s.mcRuns = true ∧ s.mgt.execQ = c :: rest ∧ c.opcode = 0x34 ∧ c.origin <
      64) ∧
    (∃ (s : State) (c : Cmd) (rest : List Cmd), s.mcRuns = true ∧ s.mgt.execQ = c :: rest ∧ c.opcode = 0x35 ∧
      s.mgt.attesting = false) ∧
    (∃ (s : State) (r : _) (k : _), s.mcRuns = true ∧ s.key.signQ.find? s.signable = some r ∧ r.key < 3 ∧ s.lmsNext
      r.key < 2 ^ 40 ∧ k < 3 ∧ k ≠ r.key) ∧
    (∃ (s : State) (r : _) (c : Cmd), s.mcRuns = true ∧ s.key.signQ.find? s.signable = some r ∧ r.key < 3 ∧ s.lmsNext
      r.key < 2 ^ 40 ∧ r.what = .attest c) ∧
    (∃ (s : State) (r : _) (a : _) (b : _), s.mcRuns = true ∧ s.key.signQ.find? s.signable = some r ∧ r.key < 3 ∧
      s.lmsNext r.key < 2 ^ 40 ∧ r.what = .batch a b) ∧
    (∃ (s : State), s.mcRuns = true ∧ 4 ≤ s.lcState) ∧
    (∃ (s : State) (k : _), s.mcRuns = true ∧ k < 3 ∧ s.lcState < 4 ∧ k = 1) ∧
    (∃ (s : State) (k : _), s.mcRuns = true ∧ k < 3 ∧ s.lcState < 4 ∧ k = 2) ∧
    (∃ (s : State) (k : _), s.mcRuns = true ∧ k < 3 ∧ s.flag (F.LMS_STATUS_READY k) = true ∧ s.lmsNext k % 2 ^ 20 ≠ 0) :=
  ⟨⟨s120, ((s120.mgt.execQ).head (by decide +kernel)), (s120.mgt.execQ).tail, 0x17, by decide +kernel⟩,
   ⟨s121, ((s121.mgt.execQ).head (by decide +kernel)), (s121.mgt.execQ).tail, by decide +kernel⟩,
   ⟨s122, ((s122.mgt.execQ).head (by decide +kernel)), (s122.mgt.execQ).tail, by decide +kernel⟩,
   ⟨s123, (((s123.key.signQ.find? s123.signable)).get (by decide +kernel)), 1, by decide +kernel⟩,
   ⟨s123, (((s123.key.signQ.find? s123.signable)).get (by decide +kernel)), (cmd 0x35 []), by decide +kernel⟩,
   ⟨s124, (((s124.key.signQ.find? s124.signable)).get (by decide +kernel)), 3, 9, by decide +kernel⟩,
   ⟨s125, by decide +kernel⟩,
   ⟨up, 1, by decide +kernel⟩,
   ⟨up, 2, by decide +kernel⟩,
   ⟨s126, 2, by decide +kernel⟩⟩

/-- States and operands that meet the hypotheses of `Obligations.ReadingCommandsAnswerAndEnd`, clause by clause. -/
theorem witness_ReadingCommandsAnswerAndEnd :
    (∃ (s : State) (c : Cmd) (rest : List Cmd) (i : Instr) (op : _) (data : List Byte), s.mcRuns = true ∧ s.mgt.execQ =
      c :: rest ∧ c.chan = .spi ∧ s.standby = false ∧ ((i = .certRead ∧ op = 0x37 ∧ data = (if beAt c.body 0 4 = 0 then
      s.key.cert else (s.key.statements[beAt c.body 0 4 - 1]?).getD [])) ∨ (i = .ledgerRead ∧ op = 0x50 ∧ data =
      ((List.range (beAt c.body 4 4)).filterMap (fun k => s.ldgAt (beAt c.body 0 4 + k))).flatMap id) ∨ (i =
      .ledgerSigRead ∧ op = 0x51 ∧ data = ((s.ldg.signatures.find? (fun x => x.2.1 == beAt c.body 0 4)).map (fun x =>
      x.2.2)).getD []) ∨ (i = .jrnRead ∧ op = 0x60 ∧ data = s.entriesFrom (beAt c.body 8 4) (beAt c.body 0 8)) ∨ (i =
      .checkpointRead ∧ op = 0x62 ∧ data = ((s.mgt.statements.find? (fun x => x.jseq == beAt c.body 0 8)).bind (fun x =>
      x.signed)).getD []) ∨ (i = .frameRead ∧ op = 0x71 ∧ s.mgt.mcFrames = [] ∧ data = []) ∨ (i = .writeFence ∧ op =
      0x104 ∧ s.mgt.posted.any (fun p => p.before c.tag) = false ∧ data = beBytes 2 s.mgt.fenceFail ++ beBytes 2
      s.mgt.fenceTag)) ∧ c.opcode = op ∧ data.length ≤ 4100) ∧
    (∃ (s : State) (c : Cmd) (rest : List Cmd) (f : _) (r : _) (err : BufErr), s.mcRuns = true ∧ s.mgt.execQ = c :: rest
      ∧ c.chan = .spi ∧ s.standby = false ∧ c.opcode = 0x71 ∧ s.mgt.mcFrames = f :: r ∧ err = s.dmaMeets f.head ∧
      stopsDma err = false ∧ f.head = none) ∧
    (∃ (s : State) (c : Cmd) (rest : List Cmd) (f : _) (r : _) (err : BufErr), s.mcRuns = true ∧ s.mgt.execQ = c :: rest
      ∧ c.chan = .spi ∧ s.standby = false ∧ c.opcode = 0x71 ∧ s.mgt.mcFrames = f :: r ∧ err = s.dmaMeets f.head ∧
      stopsDma err = true) :=
  ⟨⟨s127, ((s127.mgt.execQ).head (by decide +kernel)), (s127.mgt.execQ).tail, .ledgerRead, 80, [], by decide +kernel, by
     decide +kernel, by decide +kernel, by decide +kernel, Or.inr (Or.inl ⟨rfl, rfl, by decide +kernel⟩), by
     decide +kernel, by decide +kernel⟩,
   ⟨s128, ((s128.mgt.execQ).head (by decide +kernel)), (s128.mgt.execQ).tail, ((s128.mgt.mcFrames).head (by
     decide +kernel)), (s128.mgt.mcFrames).tail, (s128.dmaMeets ((s128.mgt.mcFrames).head (by decide +kernel)).head), by
     decide +kernel⟩,
   ⟨s129, ((s129.mgt.execQ).head (by decide +kernel)), (s129.mgt.execQ).tail, ((s129.mgt.mcFrames).head (by
     decide +kernel)), (s129.mgt.mcFrames).tail, (s129.dmaMeets ((s129.mgt.mcFrames).head (by decide +kernel)).head), by
     decide +kernel⟩⟩

/-- States and operands that meet the hypotheses of `Obligations.LedgerIntegratesAndRecords`, clause by clause. -/
theorem witness_LedgerIntegratesAndRecords :
    (∃ (s : State), s.mcRuns = true ∧ s.nowNs / 1000000 ≤ s.time.ldgMs) ∧
    (∃ (s : State) (u : State) (m : _), s.mcRuns = true ∧ s.time.ldgMs < s.nowNs / 1000000 ∧ u = forEach (List.range 8)
      (fun k s => s.ldgInputStale k) s ∧ m < 2 ∧ u.ldgSources m = none) ∧
    (∃ (s : State) (u : State) (m : _) (i : _) (v : _) (p : _), s.mcRuns = true ∧ s.time.ldgMs < s.nowNs / 1000000 ∧ u =
      forEach (List.range 8) (fun k s => s.ldgInputStale k) s ∧ m < 2 ∧ u.ldgSources m = some (i, v) ∧ p = s.sampleOf i
      * s.sampleOf v ∧ 0 < p) ∧
    (∃ (s : State) (u : State) (m : _) (i : _) (v : _) (p : _), s.mcRuns = true ∧ s.time.ldgMs < s.nowNs / 1000000 ∧ u =
      forEach (List.range 8) (fun k s => s.ldgInputStale k) s ∧ m < 2 ∧ u.ldgSources m = some (i, v) ∧ p = s.sampleOf i
      * s.sampleOf v ∧ p < 0) ∧
    (∃ (s : State) (u : State) (m : _) (i : _) (v : _) (p : _), s.mcRuns = true ∧ s.time.ldgMs < s.nowNs / 1000000 ∧ u =
      forEach (List.range 8) (fun k s => s.ldgInputStale k) s ∧ m < 2 ∧ u.ldgSources m = some (i, v) ∧ p = s.sampleOf i
      * s.sampleOf v ∧ p = 0) ∧
    (∃ (s : State) (u : State), s.mcRuns = true ∧ s.time.ldgMs < s.nowNs / 1000000 ∧ u = forEach (List.range 8) (fun k s
      => s.ldgInputStale k) s ∧ s.periodDue = false ∧ (∀ m, m < 2 → s.gapBit m = (u.ldgSources m).isNone)) ∧
    (∃ (s : State) (k : _) (t0 : _) (j : _), s.mcRuns = true ∧ k < 8 ∧ mapGet (fun _ => none) s.ldg.delivered k = some
      t0 ∧ t0 + s.ldgStaleMs * 1000000 ≤ s.nowNs ∧ j < 8 ∧ j ≠ k) ∧
    (∃ (s : State) (a : _), s.mcRuns = true ∧ a < 4) ∧
    (∃ (s : State), s.mcRuns = true ∧ s.fld F.LDG_NEXT_INDEX + 1 < 2 ^ 32 ∧ s.periodDue = true ∧ s.fld F.LDG_NEXT_INDEX
      % 256 = 255 ∧ s.ldg.batchFirst ≤ s.fld F.LDG_NEXT_INDEX) ∧
    (∃ (s : State), s.mcRuns = true ∧ s.ldg.signing = none ∧ s.ldg.batchFirst < s.fld F.LDG_NEXT_INDEX ∧ s.flag
      (F.LMS_STATUS_READY 2) = false) ∧
    (∃ (s : State), s.mcRuns = true ∧ s.ldg.signing = none ∧ s.fld F.LDG_NEXT_INDEX ≤ s.ldg.batchFirst) ∧
    (∃ (s : State), s.mcRuns = true ∧ s.ldg.signing ≠ none) ∧
    (∃ (s : State) (j : _), s.mcRuns = true ∧ j < 16) :=
  ⟨⟨up, by decide +kernel⟩,
   ⟨s130, (forEach (List.range 8) (fun k s130 => s130.ldgInputStale k) s130), 0, by decide +kernel⟩,
   ⟨s131, (forEach (List.range 8) (fun k s131 => s131.ldgInputStale k) s131), 0, 0, 1, 20000, by decide +kernel⟩,
   ⟨s132, (forEach (List.range 8) (fun k s132 => s132.ldgInputStale k) s132), 0, 0, 1, (s132.sampleOf 0 * s132.sampleOf
     1), by decide +kernel⟩,
   ⟨s133, (forEach (List.range 8) (fun k s133 => s133.ldgInputStale k) s133), 0, 0, 1, 0, by decide +kernel⟩,
   ⟨s130, (forEach (List.range 8) (fun k s130 => s130.ldgInputStale k) s130), by decide +kernel⟩,
   ⟨s134, 3, 5, 2, by decide +kernel⟩,
   ⟨s131, 2, by decide +kernel⟩,
   ⟨s135, by decide +kernel⟩,
   ⟨s133, by decide +kernel⟩,
   ⟨s131, by decide +kernel⟩,
   ⟨s136, by decide +kernel⟩,
   ⟨s131, 2, by decide +kernel⟩⟩

/-- States and operands that meet the hypotheses of `Obligations.RingAndForcedSleep`, clause by clause. -/
theorem witness_RingAndForcedSleep :
    (∃ (s : State) (g : _), s.running = true ∧ s.nm.calm = false ∧ s.standby = false ∧ g < 16 ∧ s.mayConsent g = true ∧
      mapGet (fun _ => 0) s.nm.softAt g + s.fld F.NM_TIMING_IDLE_MS * aonPerMs ≤ s.aon) ∧
    (∃ (s : State) (g : _), s.running = true ∧ s.nm.calm = false ∧ s.standby = false ∧ g < 16 ∧ (s.mayConsent g = false
      ∨ s.aon < mapGet (fun _ => 0) s.nm.softAt g + s.fld F.NM_TIMING_IDLE_MS * aonPerMs)) ∧
    (∃ (s : State), s.running = true ∧ s.nm.calm = false ∧ s.standby = false ∧ s.retryOver = false) ∧
    (∃ (s : State) (m : _), s.running = true ∧ s.nm.calm = false ∧ s.standby = false ∧ s.fld F.NM_STATE_RING = 0 ∧
      s.candidates ≠ 0 ∧ s.retryOver = true ∧ m < 32 ∧ (∀ k, k ≤ m → State.visitable
      { s with nm := { s.nm with set := s.candidates } } k = decide (k = m))) ∧
    (∃ (s : State) (m : _) (m' : _) (r : _), s.running = true ∧ s.nm.calm = false ∧ s.standby = false ∧ s.fld
      F.NM_STATE_RING = 1 ∧ s.nm.visiting = some m ∧ s.nm.toVisit = m' :: r ∧ s.visitable m' = true ∧ s.nm.memberWait =
      [] ∧ s.aon < s.nm.askedAt + s.fld F.NM_TIMING_RSP_MS * aonPerMs) ∧
    (∃ (s : State) (m : _) (m' : _) (r : _), s.running = true ∧ s.nm.calm = false ∧ s.standby = false ∧ s.fld
      F.NM_STATE_RING = 1 ∧ s.nm.visiting = some m ∧ s.nm.toVisit = m' :: r ∧ s.visitable m' = true ∧ s.nm.memberWait =
      [] ∧ s.nm.askedAt + s.fld F.NM_TIMING_RSP_MS * aonPerMs ≤ s.aon) ∧
    (∃ (s : State) (m : _) (m' : _) (r : _) (f : _) (b : _) (u : _), s.running = true ∧ s.nm.calm = false ∧ s.standby =
      false ∧ s.fld F.NM_STATE_RING = 1 ∧ s.nm.visiting = some m ∧ s.nm.toVisit = m' :: r ∧ s.visitable m' = true ∧
      s.nm.memberWait = [] ∧ s.takeRing 2 = some (f, b, u) ∧ beAt b 2 2 = s.nm.round ∧ beAt b 8 1 = m ∧ s.ringFrom
      f.port f.bytes m = true) ∧
    (∃ (s : State) (m : _) (m' : _) (r : _) (f : _) (b : _) (u : _), s.running = true ∧ s.nm.calm = false ∧ s.standby =
      false ∧ s.fld F.NM_STATE_RING = 1 ∧ s.nm.visiting = some m ∧ s.nm.toVisit = m' :: r ∧ s.visitable m' = true ∧
      s.nm.memberWait = [] ∧ s.takeRing 2 = some (f, b, u) ∧ (beAt b 2 2 ≠ s.nm.round ∨ beAt b 8 1 ≠ m)) ∧
    (∃ (s : State) (g : _), s.running = true ∧ s.nm.calm = false ∧ g < 16 ∧ s.fld F.NM_LIMITS_MAX_AWAKE_S ≠ 0 ∧ s.asleep
      g = false ∧ (s.fld F.NM_SLEEP_EN_SLEEP_EN).testBit g = true ∧ s.hardMask.testBit g = false ∧ s.usedGroups.testBit
      g = true ∧ s.standby = false ∧ s.awakeSeconds g < s.fld F.NM_LIMITS_MAX_AWAKE_S) ∧
    (∃ (s : State) (g : _), s.running = true ∧ s.nm.calm = false ∧ g < 16 ∧ s.fld F.NM_LIMITS_MAX_AWAKE_S ≠ 0 ∧ s.asleep
      g = false ∧ (s.fld F.NM_SLEEP_EN_SLEEP_EN).testBit g = true ∧ s.hardMask.testBit g = false ∧ s.usedGroups.testBit
      g = true ∧ s.standby = false ∧ s.fld F.NM_LIMITS_MAX_AWAKE_S ≤ s.awakeSeconds g ∧ s.fld F.NM_STATE_RING = 0 ∧
      s.nm.forced = []) ∧
    (∃ (s : State) (g : _), s.running = true ∧ s.nm.calm = false ∧ g < 16 ∧ s.fld F.NM_LIMITS_MAX_AWAKE_S ≠ 0 ∧ s.asleep
      g = false ∧ (s.fld F.NM_SLEEP_EN_SLEEP_EN).testBit g = true ∧ s.hardMask.testBit g = false ∧ s.usedGroups.testBit
      g = true ∧ s.standby = false ∧ s.fld F.NM_LIMITS_MAX_AWAKE_S ≤ s.awakeSeconds g ∧ s.fld F.NM_STATE_RING ≠ 0) ∧
    (∃ (s : State), s.running = true ∧ s.nm.calm = false ∧ s.entryDue = true ∧ s.entryWaits = true) ∧
    (∃ (s : State) (g : _), s.running = true ∧ s.nm.calm = false ∧ s.entryDue = true ∧ s.entryWaits = false ∧
      s.enterSleep.calmNext = false ∧ g < 16) ∧
    (∃ (s : State), s.running = true ∧ s.nm.calm = false ∧ s.entryDue = true ∧ s.entryWaits = false ∧
      s.enterSleep.calmNext = false ∧ s.nm.forced = []) ∧
    (∃ (s : State) (g : _) (c : _) (l : _), s.running = true ∧ s.nm.calm = false ∧ s.entryDue = true ∧ s.entryWaits =
      false ∧ s.enterSleep.calmNext = false ∧ s.nm.latched = some (g, c, l)) ∧
    (∃ (s : State), s.running = true ∧ s.nm.calm = false ∧ s.entryDue = true ∧ s.entryWaits = false ∧
      s.enterSleep.calmNext = true) :=
  ⟨⟨s137, 1, by decide +kernel⟩,
   ⟨s137, 0, by decide +kernel⟩,
   ⟨s138, by decide +kernel⟩,
   ⟨s139, 1, by decide +kernel⟩,
   ⟨s140, 1, 5, (s140.nm.toVisit).tail, by decide +kernel⟩,
   ⟨s141, 1, 5, (s141.nm.toVisit).tail, by decide +kernel⟩,
   ⟨s140, 1, 5, (s140.nm.toVisit).tail, (((s140.takeRing 2)).get (by decide +kernel)).1, (((s140.takeRing 2)).get (by
     decide +kernel)).2.1, (((s140.takeRing 2)).get (by decide +kernel)).2.2, by decide +kernel⟩,
   ⟨s142, 1, 5, (s142.nm.toVisit).tail, (((s142.takeRing 2)).get (by decide +kernel)).1, (((s142.takeRing 2)).get (by
     decide +kernel)).2.1, (((s142.takeRing 2)).get (by decide +kernel)).2.2, by decide +kernel⟩,
   ⟨s138, 1, by decide +kernel⟩,
   ⟨s137, 1, by decide +kernel⟩,
   ⟨s141, 1, by decide +kernel⟩,
   ⟨s143, by decide +kernel⟩,
   ⟨s144, 1, by decide +kernel⟩,
   ⟨s144, by decide +kernel⟩,
   ⟨s145, 2, ((s145.nm.latched).get (by decide +kernel)).2.1, 2, by decide +kernel⟩,
   ⟨s146, by decide +kernel⟩⟩

/-- States and operands that meet the hypotheses of `Obligations.WakesAreFilteredAndGroupsWake`, clause by clause. -/
theorem witness_WakesAreFilteredAndGroupsWake :
    (∃ (s : State) (f : _) (b : _) (u : _), s.mcRuns = true ∧ s.running = true ∧ s.standby = false ∧ s.fld
      F.NM_STATE_RING = 0 ∧ s.takeRing 5 = some (f, b, u)) ∧
    (∃ (s : State) (groups : _), s.mcRuns = true ∧ s.running = true ∧ s.standby = false ∧ s.fld F.NM_STATE_RING = 0 ∧
      groups < 65536 ∧ s.nm.waking = 0) ∧
    (∃ (s : State) (groups : _), s.mcRuns = true ∧ s.running = true ∧ s.standby = false ∧ s.fld F.NM_STATE_RING = 0 ∧
      groups < 65536 ∧ s.nm.waking ≠ 0) ∧
    (∃ (s : State) (g : _), s.mcRuns = true ∧ s.running = true ∧ s.standby = false ∧ s.fld F.NM_STATE_RING = 0 ∧ g < 16
      ∧ s.asleep g = true ∧ s.nm.due.testBit g = true) ∧
    (∃ (s : State) (n : Nat), n < 5 ∧ (s.flag (F.WAKE_IN_CFG_EN n) = false ∨ (n = 4 ∧ (s.nm.pulse = true ∨ s.aon <
      s.nm.busFree)))) ∧
    (∃ (s : State) (n : Nat), n < 5 ∧ s.flag (F.WAKE_IN_CFG_EN n) = true ∧ (n = 4 → s.nm.pulse = false ∧ s.nm.busFree ≤
      s.aon) ∧ s.nm.calm = false) ∧
    (∃ (s : State) (n : Nat), n < 5 ∧ s.flag (F.WAKE_IN_CFG_EN n) = true ∧ (n = 4 → s.nm.pulse = false ∧ s.nm.busFree ≤
      s.aon) ∧ (s.fld F.WAKE_STATUS_LEVEL).testBit n = false ∧ (s.fld F.WAKE_STATUS_CHATTER).testBit n = false ∧ (s.fld
      F.WAKE_STATUS_STUCK).testBit n = false ∧ ((s.aonMs :: mapGet (fun _ => []) s.nm.changes n).filter (fun x => decide
      (s.aonMs < x + s.fld F.WAKE_LIMITS_CHATTER_MS))).length ≤ s.fld F.WAKE_LIMITS_CHATTER_N ∧ s.nm.calm = true ∧ s.fld
      (F.WAKE_IN_GROUPS_GROUPS n) ≠ 0 ∧ s.nm.latched = none) ∧
    (∃ (s : State) (n : Nat) (g : _) (c : _) (l : _), n < 5 ∧ s.flag (F.WAKE_IN_CFG_EN n) = true ∧ (n = 4 → s.nm.pulse =
      false ∧ s.nm.busFree ≤ s.aon) ∧ (s.fld F.WAKE_STATUS_LEVEL).testBit n = false ∧ (s.fld
      F.WAKE_STATUS_CHATTER).testBit n = false ∧ (s.fld F.WAKE_STATUS_STUCK).testBit n = false ∧ ((s.aonMs :: mapGet
      (fun _ => []) s.nm.changes n).filter (fun x => decide (s.aonMs < x + s.fld F.WAKE_LIMITS_CHATTER_MS))).length ≤
      s.fld F.WAKE_LIMITS_CHATTER_N ∧ s.nm.calm = true ∧ s.fld (F.WAKE_IN_GROUPS_GROUPS n) ≠ 0 ∧ s.nm.latched = some (g,
      c, l)) ∧
    (∃ (s : State) (n : Nat) (a : _), n < 5 ∧ a < 32768 ∧ s.powered = true ∧ s.cycle % 64 = 0 ∧ s.time.ppsEdge = none ∧
      s.saf.mode = .normal ∧ s.standby = false ∧ s.fld F.NM_STATE_RING = 0 ∧ s.lineRaised n = true ∧ s.agreedIn (10 + n)
      = false ∧ (∀ m, m < 5 → m ≠ n → (s.fld F.WAKE_STATUS_LEVEL).testBit m = s.agreedIn (10 + m))) ∧
    (∃ (s : State) (n : Nat), n < 5 ∧ s.aon ≤ mapGet (fun _ => 0) s.nm.levelAt n + s.fld F.WAKE_LIMITS_STUCK * 100 *
      aonPerMs) ∧
    (∃ (s : State) (n : Nat), n < 5 ∧ s.lineRaised n = true ∧ mapGet (fun _ => 0) s.nm.levelAt n + s.fld
      F.WAKE_LIMITS_STUCK * 100 * aonPerMs < s.aon) ∧
    (∃ (s : State) (n : Nat) (k : _), n < 5 ∧ (s.fld F.WAKE_STATUS_CHATTER ||| s.fld F.WAKE_STATUS_STUCK).testBit n =
      true ∧ (s.fld F.WAKE_STATUS_LEVEL).testBit n = false ∧ k < 5 ∧ k ≠ n) ∧
    (∃ (s : State) (n : Nat), n < 5 ∧ s.nm.pulse = true ∧ s.nm.pulseAt + s.fld F.NM_CFG_PULSE * 50000 ≤ s.aon) ∧
    (∃ (s : State) (n : Nat), n < 5 ∧ (s.nm.pulse = false ∨ s.aon < s.nm.pulseAt + s.fld F.NM_CFG_PULSE * 50000)) :=
  ⟨⟨s147, (((s147.takeRing 5)).get (by decide +kernel)).1, (((s147.takeRing 5)).get (by decide +kernel)).2.1,
     (((s147.takeRing 5)).get (by decide +kernel)).2.2, by decide +kernel⟩,
   ⟨s148, 3, by decide +kernel⟩,
   ⟨s149, 3, by decide +kernel⟩,
   ⟨s150, 1, by decide +kernel⟩,
   ⟨s151, 1, by decide +kernel⟩,
   ⟨s148, 3, by decide +kernel⟩,
   ⟨s151, 3, by decide +kernel⟩,
   ⟨s152, 3, 1, ((s152.nm.latched).get (by decide +kernel)).2.1, 0, by decide +kernel⟩,
   ⟨s148, 3, 3, by decide +kernel⟩,
   ⟨s151, 3, by decide +kernel⟩,
   ⟨s153, 3, by decide +kernel⟩,
   ⟨s154, 3, 4, by decide +kernel⟩,
   ⟨s155, 3, by decide +kernel⟩,
   ⟨s151, 3, by decide +kernel⟩⟩

/-- States and operands that meet the hypotheses of `Obligations.FaultsLeadToTheirReactions`, clause by clause. -/
theorem witness_FaultsLeadToTheirReactions :
    (∃ (s : State) (code : Nat) (n : Nat), fatalCodes.contains code = true ∧ s.powered = true ∧ s.saf.mode = .normal ∧ n
      < 24) ∧
    (∃ (s : State) (code : Nat), fatalCodes.contains code = true ∧ s.powered = true ∧ s.saf.mode = .normal ∧ code = 6) ∧
    (∃ (s : State) (code : Nat), fatalCodes.contains code = true ∧ s.powered = true ∧ s.saf.mode ≠ .normal) ∧
    (∃ (s : State), s.powered = true ∧ s.saf.mode = .normal ∧ s.cycle % 500000 ≠ 0) ∧
    (∃ (s : State) (g : _), s.powered = true ∧ s.saf.mode = .normal ∧ g < 24 ∧ s.saf.digests = [] ∧ s.cycle % 500000 =
      0) ∧
    (∃ (s : State) (g : _), s.powered = true ∧ s.saf.mode = .normal ∧ 24 ≤ g ∧ g < 32 ∧ s.saf.digests = [] ∧ s.cycle %
      500000 = 0 ∧ (s.fld F.SAF_DIGEST_MODE_REPORT).testBit (g - 24) = true) ∧
    (∃ (s : State) (e : _) (x : ScrubFind × Nat), s.powered = true ∧ s.saf.mode = .normal ∧ e < 2816 ∧ x ∈
      [(ScrubFind.sramSingle, 0), (.mramSingle, 1), (.tcam e, 4), (.voted, 8)]) ∧
    (∃ (s : State), s.powered = true ∧ s.saf.mode = .normal) ∧
    (∃ (s : State) (q : _), s.powered = true ∧ s.saf.mode = .normal ∧ q < 280) ∧
    (∃ (s : State) (h : Nat) (k : _) (err : BufErr) (f : _), s.powered = true ∧ s.saf.mode = .normal ∧ h < 131072 ∧ err
      ∈ [BufErr.cellData k, .linkWord k, .descriptor, .mapWord k] ∧ err = .descriptor ∧ s.frame h = some f) ∧
    (∃ (s : State) (h : Nat) (k : _) (err : BufErr) (f : _), s.powered = true ∧ s.saf.mode = .normal ∧ h < 131072 ∧ err
      ∈ [BufErr.cellData k, .linkWord k, .descriptor, .mapWord k] ∧ err = .linkWord k ∧ s.frame h = some f) ∧
    (∃ (s : State) (n : Nat) (k : _), s.powered = true ∧ s.saf.mode = .normal ∧ aonFields[n]? = some k) ∧
    (∃ (s : State) (i : _) (e : _) (j : _), s.powered = true ∧ s.saf.mode = .normal ∧ i < 32768 ∧ s.fdbAt i = some e ∧
      e.static = false ∧ j ≠ i) ∧
    (∃ (s : State) (i : _) (e : _), s.powered = true ∧ s.saf.mode = .normal ∧ i < 32768 ∧ s.fdbAt i = some e ∧ e.static
      = true) ∧
    (∃ (s : State) (tj : _), s.powered = true ∧ s.saf.mode = .normal ∧ tj < 256 ∧ (s.fld F.SAF_CFG_TJ_WARN : Int) < tjOf
      tj ∧ s.saf.warned = false) ∧
    (∃ (s : State) (tj : _), s.powered = true ∧ s.saf.mode = .normal ∧ tj < 256 ∧ (s.fld F.SAF_CFG_TJ_WARN : Int) < tjOf
      tj ∧ s.saf.warned = true) ∧
    (∃ (s : State) (tj : _), s.powered = true ∧ s.saf.mode = .normal ∧ tj < 256 ∧ tjOf tj ≤ (s.fld F.SAF_CFG_TJ_WARN :
      Int) - 5) ∧
    (∃ (s : State) (n : Nat), s.powered = true ∧ s.saf.mode = .normal ∧ n < 5 ∧ s.safLog.length < 64) ∧
    (∃ (s : State) (g : _), s.powered = true ∧ s.saf.mode = .normal ∧ s.mcRuns = true ∧ g < 64 ∧ g < 32) :=
  ⟨⟨s75, 1, 0, by decide +kernel⟩,
   ⟨s75, 6, by decide +kernel⟩,
   ⟨s2, 1, by decide +kernel⟩,
   ⟨s75, by decide +kernel⟩,
   ⟨up, 1, by decide +kernel⟩,
   ⟨s156, 24, by decide +kernel⟩,
   ⟨s75, 1, (.sramSingle, 0), by decide +kernel⟩,
   ⟨s75, by decide +kernel⟩,
   ⟨s75, 1, by decide +kernel⟩,
   ⟨s157, 7, 1, .descriptor, (((s157.frame 7)).get (by decide +kernel)), by decide +kernel⟩,
   ⟨s157, 7, 1, (.linkWord 1), (((s157.frame 7)).get (by decide +kernel)), by decide +kernel⟩,
   ⟨s75, 0, 2621444, by decide +kernel⟩,
   ⟨s158, 5, (((s158.fdbAt 5)).get (by decide +kernel)), 1, by decide +kernel⟩,
   ⟨s159, 31, (((s159.fdbAt 31)).get (by decide +kernel)), by decide +kernel⟩,
   ⟨s75, 125, by decide +kernel⟩,
   ⟨s160, 125, by decide +kernel⟩,
   ⟨s75, 1, by decide +kernel⟩,
   ⟨s75, 0, by decide +kernel⟩,
   ⟨s75, 1, by decide +kernel⟩⟩

/-- States and operands that meet the hypotheses of `Obligations.LeePathSendsAtItsSlots`, clause by clause. -/
theorem witness_LeePathSendsAtItsSlots :
    (∃ (s : State), s.powered = true ∧ s.saf.pllWait = true ∧ s.saf.mode = .lee) ∧
    (∃ (s : State) (i : _) (l : _) (T : _) (early : _) (f : _) (old : _) (j : _), s.powered = true ∧ s.leeOn = true ∧ i
      < 64 ∧ s.saf.streams.find? (fun c => c.1 == i) = some (i, l) ∧ s.leeInstant (Lee.offset l) = some T ∧ early =
      (s.leeStore i).takeWhile (fun x => !s.leeEligible (Lee.port l) (T * fracPerNs) x) ∧ (s.leeStore i).drop
      early.length = f :: old ∧ j ≠ i) ∧
    (∃ (s : State) (i : _) (f : _) (T : _) (k : _), s.powered = true ∧ s.leeOn = true ∧ i < 64 ∧ s.saf.frames.find? (fun
      c => c.1 == i) = some (i, f) ∧ s.leeInstant (LeeF.offset f) = some T ∧ k = (T - LeeF.offset f) / s.fld
      F.LEE_CFG_CYCLE_NS ∧ k % LeeF.div f = 0 ∧ mapGet (fun _ => none) s.saf.sentAt i = some k) ∧
    (∃ (s : State) (i : _) (f : _) (T : _) (k : _), s.powered = true ∧ s.leeOn = true ∧ i < 64 ∧ s.saf.frames.find? (fun
      c => c.1 == i) = some (i, f) ∧ s.leeInstant (LeeF.offset f) = some T ∧ k = (T - LeeF.offset f) / s.fld
      F.LEE_CFG_CYCLE_NS ∧ k % LeeF.div f = 0 ∧ mapGet (fun _ => none) s.saf.sentAt i ≠ some k ∧ s.saf.routes.filter
      (fun c => Route.frame c.2 == i) = [] ∧ LeeF.channel f < 24 ∧ s.fld (F.CAN_CTRL_MODE (LeeF.channel f)) = 1 ∧
      s.chanHeld (LeeF.channel f) = false ∧ s.flag (F.CAN_STATUS_ISOLATED (LeeF.channel f)) = false ∧ s.fld
      (F.CAN_STATUS_STATE (LeeF.channel f)) ≠ 2 ∧ s.flag (F.CAN_CTRL_SHADOW (LeeF.channel f)) = false ∧ (s.can
      (LeeF.channel f)).reqs = []) ∧
    (∃ (s : State) (i : _) (f : _) (T : _) (k : _), s.powered = true ∧ s.leeOn = true ∧ i < 64 ∧ s.saf.frames.find? (fun
      c => c.1 == i) = some (i, f) ∧ s.leeInstant (LeeF.offset f) = some T ∧ k = (T - LeeF.offset f) / s.fld
      F.LEE_CFG_CYCLE_NS ∧ k % LeeF.div f = 0 ∧ mapGet (fun _ => none) s.saf.sentAt i ≠ some k ∧ s.saf.routes.filter
      (fun c => Route.frame c.2 == i) = [] ∧ 24 ≤ LeeF.channel f) :=
  ⟨⟨s161, by decide +kernel⟩,
   ⟨s162, 63, (((s162.saf.streams.find? (fun c => c.1 == 63))).get (by decide +kernel)).2, 4999000033, ((s162.leeStore
     63).takeWhile (fun x => !s162.leeEligible (Lee.port (((s162.saf.streams.find? (fun c => c.1 == 63))).get (by
     decide +kernel)).2) (4999000033 * fracPerNs) x)), ((((s162.leeStore 63).drop ((s162.leeStore 63).takeWhile (fun x
     => !s162.leeEligible (Lee.port (((s162.saf.streams.find? (fun c => c.1 == 63))).get (by decide +kernel)).2)
     (4999000033 * fracPerNs) x)).length)).head (by decide +kernel)), (((s162.leeStore 63).drop ((s162.leeStore
     63).takeWhile (fun x => !s162.leeEligible (Lee.port (((s162.saf.streams.find? (fun c => c.1 == 63))).get (by
     decide +kernel)).2) (4999000033 * fracPerNs) x)).length)).tail, 1, by decide +kernel⟩,
   ⟨s163, 63, (((s163.saf.frames.find? (fun c => c.1 == 63))).get (by decide +kernel)).2, 4999000100, 4999, by
     decide +kernel⟩,
   ⟨s164, 1, (((s164.saf.frames.find? (fun c => c.1 == 1))).get (by decide +kernel)).2, 4999000100, 4999, by
     decide +kernel⟩,
   ⟨s164, 63, (((s164.saf.frames.find? (fun c => c.1 == 63))).get (by decide +kernel)).2, 4999000100, 4999, by
     decide +kernel⟩⟩

/-- States and operands that meet the hypotheses of `Obligations.PairRolesFollowTheTable`, clause by clause. -/
theorem witness_PairRolesFollowTheTable :
    (∃ (s : State) (f : _) (u : _), s.linked = true ∧ s.fld F.PAIR_CFG_MODE ≠ 0 ∧ s.takePair 1 = some (f, u)) ∧
    (∃ (s : State), s.linked = true ∧ s.partnerHere = true ∧ s.twin.acks = [] ∧ s.role = 4 ∧ s.twin.step ≠ 0 ∧
      s.twin.step ≠ 9) ∧
    (∃ (s : State), s.linked = true ∧ s.twin.step = 9) ∧
    (∃ (s : State), s.linked = true ∧ s.mcRuns = true ∧ s.role = 4 ∧ (s.twin.step = 0 ∨ 4 < s.twin.step)) ∧
    (∃ (s : State), s.linked = true ∧ s.mcRuns = true ∧ s.role = 4 ∧ 1 ≤ s.twin.step ∧ s.twin.step ≤ 4) ∧
    (∃ (s : State), s.powered = true ∧ s.fld F.PAIR_CFG_MODE = 1 ∧ s.saf.mode = .normal ∧ s.twin.mask = 0 ∧ s.role = 4 ∧
      s.flag F.PAIR_STATUS_HOLD_IN = true ∧ s.agreedIn 8 = false ∧ s.pairReady = true) ∧
    (∃ (s : State), s.powered = true ∧ s.fld F.PAIR_CFG_MODE = 1 ∧ s.saf.mode = .normal ∧ s.twin.mask = 0 ∧ s.role = 4 ∧
      s.flag F.PAIR_STATUS_HOLD_IN = true ∧ s.agreedIn 8 = false ∧ s.pairReady = false) ∧
    (∃ (s : State), s.powered = true ∧ s.fld F.PAIR_CFG_MODE = 1 ∧ s.saf.mode = .normal ∧ s.twin.mask = 0 ∧ s.role = 1 ∧
      s.forwarding = true ∧ s.flag F.PAIR_STATUS_HOLD_IN = false ∧ s.agreedIn 8 = true) ∧
    (∃ (s : State), s.powered = true ∧ s.fld F.PAIR_CFG_MODE = 1 ∧ s.saf.mode = .normal ∧ s.twin.mask = 0 ∧ s.role = 2 ∧
      s.flag F.PAIR_STATUS_HOLD_IN = false ∧ s.agreedIn 8 = true) ∧
    (∃ (s : State), s.powered = true ∧ s.fld F.PAIR_CFG_MODE = 1 ∧ s.saf.mode = .normal ∧ s.twin.mask = 0 ∧ s.linked =
      true ∧ s.role = 2 ∧ s.flag F.PAIR_STATUS_HOLD_IN = false) ∧
    (∃ (s : State), s.powered = true ∧ s.fld F.PAIR_CFG_MODE = 1 ∧ s.saf.mode = .normal ∧ s.twin.mask = 0 ∧ s.linked =
      true ∧ s.role = 1 ∧ s.forwarding = true ∧ s.twin.prefer = true ∧ s.flag F.PAIR_STATUS_HOLD_IN = false) ∧
    (∃ (s : State), s.powered = true ∧ s.fld F.PAIR_CFG_MODE = 1 ∧ s.saf.mode = .normal ∧ s.twin.mask = 0 ∧ s.linked =
      true ∧ s.role = 3 ∧ s.unitId = 1 ∧ s.flag F.PAIR_STATUS_HOLD_IN = true) ∧
    (∃ (s : State), s.powered = true ∧ s.fld F.PAIR_CFG_MODE = 1 ∧ s.saf.mode = .normal ∧ s.twin.mask = 0 ∧ s.mcRuns =
      true ∧ s.role = 4 ∧ s.flag F.PAIR_STATUS_HOLD_IN = false) ∧
    (∃ (s : State), s.powered = true ∧ s.fld F.PAIR_CFG_MODE = 1 ∧ s.saf.mode = .normal ∧ s.twin.mask = 0 ∧ s.mcRuns =
      true ∧ s.role = 4 ∧ s.flag F.PAIR_STATUS_HOLD_IN = true) ∧
    (∃ (s : State), s.powered = true ∧ s.fld F.PAIR_CFG_MODE = 1 ∧ s.saf.mode = .normal ∧ s.twin.mask = 0 ∧ s.mcRuns =
      true ∧ s.role = 2) ∧
    (∃ (s : State), s.powered = true ∧ s.fld F.PAIR_CFG_MODE = 1 ∧ s.saf.mode = .normal ∧ s.role = 4 ∧ s.twin.mask = 0 ∧
      s.flag F.PAIR_STATUS_HOLD_IN = true ∧ s.fld F.PAIR_STATUS_PARTNER_ROLE ≠ 2 ∧ s.fld F.PAIR_STATUS_PARTNER_ROLE ≠ 3) ∧
    (∃ (s : State), s.powered = true ∧ s.fld F.PAIR_CFG_MODE = 1 ∧ s.saf.mode = .normal ∧ s.role = 4 ∧ s.twin.mask ≠ 0 ∧
      s.flag F.PAIR_STATUS_HOLD_IN = true) :=
  ⟨⟨s165, (((s165.takePair 1)).get (by decide +kernel)).1, (((s165.takePair 1)).get (by decide +kernel)).2, by
     decide +kernel⟩,
   ⟨s166, by decide +kernel⟩,
   ⟨s167, by decide +kernel⟩,
   ⟨s168, by decide +kernel⟩,
   ⟨s166, by decide +kernel⟩,
   ⟨s169, by decide +kernel⟩,
   ⟨s170, by decide +kernel⟩,
   ⟨s171, by decide +kernel⟩,
   ⟨s172, by decide +kernel⟩,
   ⟨s172, by decide +kernel⟩,
   ⟨s173, by decide +kernel⟩,
   ⟨s174, by decide +kernel⟩,
   ⟨s168, by decide +kernel⟩,
   ⟨s169, by decide +kernel⟩,
   ⟨s172, by decide +kernel⟩,
   ⟨s169, by decide +kernel⟩,
   ⟨s175, by decide +kernel⟩⟩

/-- States and operands that meet the hypotheses of `Obligations.JournalGoesToTheStandby`, clause by clause. -/
theorem witness_JournalGoesToTheStandby :
    (∃ (s : State) (f : _) (u : _) (e : _), s.linked = true ∧ s.fld F.PAIR_CFG_MODE = 1 ∧ s.role = 4 ∧ s.twin.snapping =
      false ∧ s.takePair 2 = some (f, u) ∧ e = entryAt (pmBody f.bytes) 8 ∧ s.follows e = false ∧ s.nextJseq ≤ e.jseq ∧
      s.twin.step = 0) ∧
    (∃ (s : State) (f : _) (u : _) (e : _) (c : _) (T : _), s.linked = true ∧ s.fld F.PAIR_CFG_MODE = 1 ∧ s.role = 4 ∧
      s.twin.snapping = false ∧ s.takePair 4 = some (f, u) ∧ s.entryOf (beAt (pmBody f.bytes) 0 8) = some e ∧
      s.journaledCmd e = some c ∧ c.origin < 64 ∧ T = beAt (pmBody f.bytes) 8 6 * 1000000000 + beAt (pmBody f.bytes) 14
      4 ∧ s.nowNs < T ∧ c.opcode = 0x34) ∧
    (∃ (s : State) (f : _) (u : _) (e : _), s.linked = true ∧ s.fld F.PAIR_CFG_MODE = 1 ∧ s.role = 4 ∧ s.twin.snapping =
      false ∧ s.takePair 11 = some (f, u) ∧ s.twin.step = 3 ∧ (pmBody f.bytes).length = 64 ∧ e = entryAt (pmBody
      f.bytes) 0 ∧ s.entryOf e.jseq ≠ some e) ∧
    (∃ (s : State) (c : _) (n : _) (f : _) (u : _), s.linked = true ∧ s.fld F.PAIR_CFG_MODE = 1 ∧ s.role = 3 ∧
      s.twin.acks = [(c, n)] ∧ c.origin < 64 ∧ c.seq < 2 ^ 32 ∧ s.takePair 3 = some (f, u) ∧ c.jseq + s.groupSize c.jseq
      ≤ beAt (pmBody f.bytes) 0 8 + 1) ∧
    (∃ (s : State) (c : _) (n : _), s.linked = true ∧ s.fld F.PAIR_CFG_MODE = 1 ∧ s.role = 3 ∧ s.twin.acks = [(c, n)] ∧
      c.origin < 64 ∧ c.seq < 2 ^ 32 ∧ n ≤ 3 ∧ s.partnerHere = true) ∧
    (∃ (s : State) (c : _) (n : _), s.linked = true ∧ s.fld F.PAIR_CFG_MODE = 1 ∧ s.role = 3 ∧ s.twin.acks = [(c, n)] ∧
      c.origin < 64 ∧ c.seq < 2 ^ 32 ∧ (3 < n ∨ s.partnerHere = false)) :=
  ⟨⟨s176, (((s176.takePair 2)).get (by decide +kernel)).1, (((s176.takePair 2)).get (by decide +kernel)).2, (entryAt
     (pmBody (((s176.takePair 2)).get (by decide +kernel)).1.bytes) 8), by decide +kernel⟩,
   ⟨s177, (((s177.takePair 4)).get (by decide +kernel)).1, (((s177.takePair 4)).get (by decide +kernel)).2,
     (((s177.entryOf (beAt (pmBody (((s177.takePair 4)).get (by decide +kernel)).1.bytes) 0 8))).get (by
     decide +kernel)), (((s177.journaledCmd (((s177.entryOf (beAt (pmBody (((s177.takePair 4)).get (by
     decide +kernel)).1.bytes) 0 8))).get (by decide +kernel)))).get (by decide +kernel)), (beAt (pmBody
     (((s177.takePair 4)).get (by decide +kernel)).1.bytes) 8 6 * 1000000000 + beAt (pmBody (((s177.takePair 4)).get (by
     decide +kernel)).1.bytes) 14 4), by decide +kernel⟩,
   ⟨s178, (((s178.takePair 11)).get (by decide +kernel)).1, (((s178.takePair 11)).get (by decide +kernel)).2, (entryAt
     (pmBody (((s178.takePair 11)).get (by decide +kernel)).1.bytes) 0), by decide +kernel⟩,
   ⟨s179, ((s179.twin.acks).head (by decide +kernel)).1, 1, (((s179.takePair 3)).get (by decide +kernel)).1,
     (((s179.takePair 3)).get (by decide +kernel)).2, by decide +kernel⟩,
   ⟨s179, ((s179.twin.acks).head (by decide +kernel)).1, 1, by decide +kernel⟩,
   ⟨s180, ((s180.twin.acks).head (by decide +kernel)).1, 4, by decide +kernel⟩⟩

/-- States and operands that meet the hypotheses of `Obligations.SnapshotsAndCredits`, clause by clause. -/
theorem witness_SnapshotsAndCredits :
    (∃ (s : State) (T : _), s.linked = true ∧ s.fld F.PAIR_CFG_MODE = 1 ∧ s.twin.tSync = some T ∧ T ≤ s.nowNs ∧
      s.twin.step = 4 ∧ s.role = 3) ∧
    (∃ (s : State) (T : _), s.linked = true ∧ s.fld F.PAIR_CFG_MODE = 1 ∧ s.twin.tSync = some T ∧ T ≤ s.nowNs ∧
      s.twin.step = 4 ∧ s.role = 4) ∧
    (∃ (s : State) (f : _) (u : _), s.linked = true ∧ s.fld F.PAIR_CFG_MODE = 1 ∧ s.role = 4 ∧ s.takePair 6 = some (f,
      u) ∧ s.twin.step = 3) ∧
    (∃ (s : State) (f : _) (u : _) (i : _) (d : Int), s.linked = true ∧ s.fld F.PAIR_CFG_MODE = 1 ∧ s.role = 4 ∧
      s.takePair 6 = some (f, u) ∧ s.twin.snapping = true ∧ s.twin.overflow = false ∧ s.twin.syncLog = [] ∧ i < 1024 ∧
      s.twin.snap = [(SnapKind.delta (K.SEQG_WIN_CFG i), d)]) ∧
    (∃ (s : State) (f : _) (u : _), s.linked = true ∧ s.fld F.PAIR_CFG_MODE = 1 ∧ s.role = 4 ∧ s.takePair 6 = some (f,
      u) ∧ s.twin.snapping = true ∧ s.twin.overflow = true ∧ s.twin.step = 4) ∧
    (∃ (s : State) (f : _) (u : _), s.linked = true ∧ s.fld F.PAIR_CFG_MODE = 1 ∧ s.role = 4 ∧ s.takePair 7 = some (f,
      u) ∧ beAt (pmBody f.bytes) 4 1 = 0) ∧
    (∃ (s : State) (f : _) (u : _), s.linked = true ∧ s.fld F.PAIR_CFG_MODE = 1 ∧ s.role = 3 ∧ s.nm.calm = false ∧ s.fld
      F.NM_STATE_RING = 0 ∧ s.takePair 8 = some (f, u)) ∧
    (∃ (s : State) (v : _) (n : _), s.running = true ∧ s.joined = true ∧ v < 288 ∧ s.data.returned = [(v, n)] ∧ mapGet
      (fun _ => 0) s.twin.credited v ≠ n) ∧
    (∃ (s : State) (f : _) (u : _) (v : _), s.running = true ∧ s.joined = true ∧ s.takePair 5 = some (f, u) ∧ beAt
      (pmBody f.bytes) 1 1 = 1 ∧ beAt (pmBody f.bytes) 0 1 = 0 ∧ v ≠ beAt (pmBody f.bytes) 2 2) ∧
    (∃ (s : State) (f : _) (u : _), s.running = true ∧ s.joined = true ∧ s.takePair 5 = some (f, u) ∧ beAt (pmBody
      f.bytes) 1 1 = 1 ∧ beAt (pmBody f.bytes) 0 1 = 1) ∧
    (∃ (s : State) (v : _), s.running = true ∧ s.joined = true ∧ v < 288 ∧ s.queue (280 + v) ≠ []) ∧
    (∃ (s : State) (h : _) (rest : _) (f : _), s.running = true ∧ s.data.crossing = h :: rest ∧ s.frame h = some f ∧
      f.written = true ∧ s.joined = true ∧ f.bad = false ∧ (beAt f.bytes 17 1).testBit 4 = false ∧ beAt f.bytes 16 1 / 4
      < 35 ∧ s.flag (F.VLAN_WIN_DATA0_VALID (beAt f.bytes 18 2 % 4096)) = false) ∧
    (∃ (s : State) (p : _) (q : _) (c : _) (r : _) (k : _), s.running = true ∧ s.twin.replaying = false ∧ p < 34 ∧
      s.replayList p = (q, c) :: r ∧ c.frame = none ∧ k ≠ p) ∧
    (∃ (s : State) (p : _), s.running = true ∧ s.twin.replaying = false ∧ p < 34 ∧ s.replayList p = []) :=
  ⟨⟨s181, 0, by decide +kernel⟩,
   ⟨s182, 0, by decide +kernel⟩,
   ⟨s183, (((s183.takePair 6)).get (by decide +kernel)).1, (((s183.takePair 6)).get (by decide +kernel)).2, by
     decide +kernel⟩,
   ⟨s184, (((s184.takePair 6)).get (by decide +kernel)).1, (((s184.takePair 6)).get (by decide +kernel)).2, 3, 5, by
     decide +kernel⟩,
   ⟨s185, (((s185.takePair 6)).get (by decide +kernel)).1, (((s185.takePair 6)).get (by decide +kernel)).2, by
     decide +kernel⟩,
   ⟨s186, (((s186.takePair 7)).get (by decide +kernel)).1, (((s186.takePair 7)).get (by decide +kernel)).2, by
     decide +kernel⟩,
   ⟨s187, (((s187.takePair 8)).get (by decide +kernel)).1, (((s187.takePair 8)).get (by decide +kernel)).2, by
     decide +kernel⟩,
   ⟨s188, 287, 8, by decide +kernel⟩,
   ⟨s189, (((s189.takePair 5)).get (by decide +kernel)).1, (((s189.takePair 5)).get (by decide +kernel)).2, 33, by
     decide +kernel⟩,
   ⟨s190, (((s190.takePair 5)).get (by decide +kernel)).1, (((s190.takePair 5)).get (by decide +kernel)).2, by
     decide +kernel⟩,
   ⟨s191, 287, by decide +kernel⟩,
   ⟨s192, 5, (s192.data.crossing).tail, (((s192.frame 5)).get (by decide +kernel)), by decide +kernel⟩,
   ⟨s193, 33, 24, (((s193.replayList 33)).head (by decide +kernel)).2, ((s193.replayList 33)).tail, 287, by
     decide +kernel⟩,
   ⟨s181, 33, by decide +kernel⟩⟩

/-- States and operands that meet the hypotheses of `Obligations.CommandsAreAdmittedInOrder`, clause by clause. -/
theorem witness_CommandsAreAdmittedInOrder :
    (∃ (s : State), s.mcRuns = true ∧ s.mgt.cmdQ.length < 16) ∧
    (∃ (s : State), s.mcRuns = true ∧ 16 ≤ s.mgt.cmdQ.length) ∧
    (∃ (s : State) (f : _) (u : _) (err : BufErr), s.mcRuns = true ∧ s.takeInbox (fun m => m.kind == .command) = some
      (f, u) ∧ stopsDma err = true ∧ f.head = none) ∧
    (∃ (s : State) (f : _) (u : _) (err : BufErr), s.mcRuns = true ∧ s.takeInbox (fun m => m.kind == .command) = some
      (f, u) ∧ s.mgt.cmdQ.length < 16 ∧ stopsDma err = false ∧ f.head = none) ∧
    (∃ (s : State) (q : _) (r : _), s.mcRuns = true ∧ s.mgt.cmdQ = q :: r ∧ s.twin.acks = [] ∧ s.pairActive = false ∧
      s.journalHeld = false) :=
  ⟨⟨up, by decide +kernel⟩,
   ⟨s194, by decide +kernel⟩,
   ⟨s195, (((s195.takeInbox (fun m => m.kind == .command))).get (by decide +kernel)).1, (((s195.takeInbox (fun m =>
     m.kind == .command))).get (by decide +kernel)).2, .descriptor, by decide +kernel⟩,
   ⟨s195, (((s195.takeInbox (fun m => m.kind == .command))).get (by decide +kernel)).1, (((s195.takeInbox (fun m =>
     m.kind == .command))).get (by decide +kernel)).2, .none, by decide +kernel⟩,
   ⟨s194, ((s194.mgt.cmdQ).head (by decide +kernel)), (s194.mgt.cmdQ).tail, by decide +kernel⟩⟩

/-- States and operands that meet the hypotheses of `Obligations.SpiAndPopsTakeTheOldest`, clause by clause. -/
theorem witness_SpiAndPopsTakeTheOldest :
    (∃ (s : State) (m : _) (r : _), s.mcRuns = true ∧ s.mgt.respSpi = m :: r) ∧
    (∃ (s : State), s.mcRuns = true ∧ s.mgt.respSpi = []) ∧
    (∃ (s : State) (e : _) (r : _), s.mcRuns = true ∧ s.mgt.events = e :: r ∧ s.lcState < 4) ∧
    (∃ (s : State) (e : _) (r : _), s.mcRuns = true ∧ s.mgt.events = e :: r ∧ 4 ≤ s.lcState) ∧
    (∃ (s : State), s.mcRuns = true ∧ s.mgt.events = []) ∧
    (∃ (s : State) (c : _) (rest : _), s.mcRuns = true ∧ s.mgt.execQ = c :: rest ∧ c.opcode = 0x80) ∧
    (∃ (s : State) (e : _) (r : _), s.mcRuns = true ∧ s.mgt.pwfl = e :: r) ∧
    (∃ (s : State), s.mcRuns = true ∧ s.mgt.pwfl = []) ∧
    (∃ (s : State) (e : _) (r : _) (j : _), s.mcRuns = true ∧ s.mgt.events = e :: r ∧ j < 12) ∧
    (∃ (s : State) (j : _), s.mcRuns = true ∧ s.mgt.events = [] ∧ j < 12) ∧
    (∃ (s : State) (lo : Word) (hi : Word) (j : Nat) (k : _), s.mcRuns = true ∧ mapGet (fun _ => none) s.heldLo
      K.JRN_RD_INDEX_LO = some lo ∧ j = lo.toNat + 2 ^ 32 * hi.toNat ∧ k < 16) :=
  ⟨⟨s196, ((s196.mgt.respSpi).head (by decide +kernel)), (s196.mgt.respSpi).tail, by decide +kernel⟩,
   ⟨s197, by decide +kernel⟩,
   ⟨s196, ((s196.mgt.events).head (by decide +kernel)), (s196.mgt.events).tail, by decide +kernel⟩,
   ⟨s197, ((s197.mgt.events).head (by decide +kernel)), (s197.mgt.events).tail, by decide +kernel⟩,
   ⟨up, by decide +kernel⟩,
   ⟨s196, ((s196.mgt.execQ).head (by decide +kernel)), (s196.mgt.execQ).tail, by decide +kernel⟩,
   ⟨s196, ((s196.mgt.pwfl).head (by decide +kernel)), (s196.mgt.pwfl).tail, by decide +kernel⟩,
   ⟨s197, by decide +kernel⟩,
   ⟨s197, ((s197.mgt.events).head (by decide +kernel)), (s197.mgt.events).tail, 11, by decide +kernel⟩,
   ⟨up, 11, by decide +kernel⟩,
   ⟨s198, (((mapGet (fun _ => none) s198.heldLo K.JRN_RD_INDEX_LO)).get (by decide +kernel)), 3, 12884901893, 11, by
     decide +kernel⟩⟩

/-- States and operands that meet the hypotheses of `Obligations.StoredImagesAndRecordsChange`, clause by clause. -/
theorem witness_StoredImagesAndRecordsChange :
    (∃ (s : State) (c : Cmd) (rest : List Cmd) (n : _), s.mcRuns = true ∧ s.mgt.execQ = c :: rest ∧ c.opcode = 0x20 ∧ n
      < 2 ∧ beAt c.body 0 4 < 2) ∧
    (∃ (s : State) (c : Cmd) (rest : List Cmd) (n : _), s.mcRuns = true ∧ s.mgt.execQ = c :: rest ∧ c.opcode = 0x21 ∧ n
      < 2 ∧ beAt c.body 0 1 < 2) ∧
    (∃ (s : State) (c : Cmd) (rest : List Cmd) (b : _), s.mcRuns = true ∧ s.mgt.execQ = c :: rest ∧ c.opcode = 0x22 ∧
      c.chan = .spi ∧ s.standby = false ∧ b = imageOf (s.slotBytes (beAt c.body 0 4))) ∧
    (∃ (s : State) (c : Cmd) (rest : List Cmd) (env : StartEnv), s.mcRuns = true ∧ s.mgt.execQ = c :: rest ∧ c.opcode =
      0x23 ∧ s.fld F.BOOT_STATUS_STATE = 0xB ∧ beAt c.body 0 4 < 2 ∧ startOk env = true) ∧
    (∃ (s : State) (c : Cmd) (rest : List Cmd), s.mcRuns = true ∧ s.mgt.execQ = c :: rest ∧ c.opcode = 0x24) ∧
    (∃ (s : State) (c : Cmd) (rest : List Cmd), s.mcRuns = true ∧ s.mgt.execQ = c :: rest ∧ c.opcode = 0x40 ∧
      s.ownOutstanding = true) ∧
    (∃ (s : State) (c : Cmd) (rest : List Cmd) (r : _), s.mcRuns = true ∧ s.mgt.execQ = c :: rest ∧ c.opcode = 0x40 ∧
      s.ownOutstanding = false ∧ applyRec c.body = some r ∧ (r.known && r.forUnit s.unitId) = false) ∧
    (∃ (s : State) (c : Cmd) (rest : List Cmd) (r : _), s.mcRuns = true ∧ s.mgt.execQ = c :: rest ∧ c.opcode = 0x40 ∧
      s.ownOutstanding = false ∧ applyRec c.body = some r ∧ r.number = 0x800 ∧ (r.known && r.forUnit s.unitId) = true) ∧
    (∃ (s : State) (c : Cmd) (rest : List Cmd), s.mcRuns = true ∧ s.mgt.execQ = c :: rest ∧ c.opcode = 0x61 ∧
      s.journalHeld = false ∧ s.mgt.cpWait = none ∧ s.flag (F.LMS_STATUS_READY 1) = false) ∧
    (∃ (s : State) (c : Cmd) (rest : List Cmd), s.mcRuns = true ∧ s.mgt.execQ = c :: rest ∧ c.opcode = 0x70 ∧
      s.mgt.mcLane.length < 64) ∧
    (∃ (s : State) (c : Cmd) (rest : List Cmd), s.mcRuns = true ∧ s.mgt.execQ = c :: rest ∧ c.opcode = 0x70 ∧ 64 ≤
      s.mgt.mcLane.length) :=
  ⟨⟨s199, ((s199.mgt.execQ).head (by decide +kernel)), (s199.mgt.execQ).tail, 0, by decide +kernel⟩,
   ⟨s200, ((s200.mgt.execQ).head (by decide +kernel)), (s200.mgt.execQ).tail, 0, by decide +kernel⟩,
   ⟨s201, ((s201.mgt.execQ).head (by decide +kernel)), (s201.mgt.execQ).tail, (imageOf (s201.slotBytes (beAt
     ((s201.mgt.execQ).head (by decide +kernel)).body 0 4))), by decide +kernel⟩,
   ⟨s202, ((s202.mgt.execQ).head (by decide +kernel)), (s202.mgt.execQ).tail, env0, by decide +kernel⟩,
   ⟨s203, ((s203.mgt.execQ).head (by decide +kernel)), (s203.mgt.execQ).tail, by decide +kernel⟩,
   ⟨s204, ((s204.mgt.execQ).head (by decide +kernel)), (s204.mgt.execQ).tail, by decide +kernel⟩,
   ⟨s205, ((s205.mgt.execQ).head (by decide +kernel)), (s205.mgt.execQ).tail, (((applyRec ((s205.mgt.execQ).head (by
     decide +kernel)).body)).get (by decide +kernel)), by decide +kernel⟩,
   ⟨s206, ((s206.mgt.execQ).head (by decide +kernel)), (s206.mgt.execQ).tail, (((applyRec ((s206.mgt.execQ).head (by
     decide +kernel)).body)).get (by decide +kernel)), by decide +kernel⟩,
   ⟨s207, ((s207.mgt.execQ).head (by decide +kernel)), (s207.mgt.execQ).tail, by decide +kernel⟩,
   ⟨s208, ((s208.mgt.execQ).head (by decide +kernel)), (s208.mgt.execQ).tail, by decide +kernel⟩,
   ⟨s209, ((s209.mgt.execQ).head (by decide +kernel)), (s209.mgt.execQ).tail, by decide +kernel⟩⟩

/-- States and operands that meet the hypotheses of `Obligations.RegisterBridgeReadsAndWrites`, clause by clause. -/
theorem witness_RegisterBridgeReadsAndWrites :
    (∃ (s : State) (c : Cmd) (rest : List Cmd) (i : Instr), s.mcRuns = true ∧ s.mgt.execQ = c :: rest ∧ c.chan = .spi ∧
      s.standby = false ∧ s.mgt.run = none ∧ s.mgt.toPost = [] ∧ s.mgt.posted = [] ∧ ((i = .regRead ∧ c.opcode = 0x100 ∧
      bodyWords c.body = [K.GLB_SCRATCH]) ∨ (i = .regBurstRead ∧ c.opcode = 0x102 ∧ beAt c.body 0 4 = K.GLB_SCRATCH ∧
      beAt c.body 4 4 = 1))) ∧
    (∃ (s : State) (c : Cmd) (rest : List Cmd), s.mcRuns = true ∧ s.mgt.execQ = c :: rest ∧ c.chan = .spi ∧ s.standby =
      false ∧ s.mgt.run = none ∧ s.mgt.toPost = [] ∧ s.mgt.posted = [] ∧ c.opcode = 0x100 ∧ bodyWords c.body =
      [0x3FFFFC]) ∧
    (∃ (s : State) (c : Cmd) (rest : List Cmd) (i : Instr) (m : Word) (d : Word), s.mcRuns = true ∧ s.mgt.execQ = c ::
      rest ∧ c.chan = .spi ∧ s.standby = false ∧ s.mgt.run = none ∧ s.mgt.toPost = [] ∧ s.mgt.posted = [] ∧ m ≠ 0 ∧ ((i
      = .regWrite ∧ c.opcode = 0x101 ∧ bodyTriples c.body = [(K.GLB_SCRATCH, m, d)]) ∨ (i = .regBurstWrite ∧ c.opcode =
      0x103 ∧ m = 0xFFFFFFFF ∧ bodyBurst c.body = [(K.GLB_SCRATCH, m, d)]))) ∧
    (∃ (s : State) (c : Cmd) (rest : List Cmd) (m : Word) (d : Word) (off : _), s.mcRuns = true ∧ s.mgt.execQ = c ::
      rest ∧ c.chan = .spi ∧ s.standby = false ∧ s.mgt.run = none ∧ s.mgt.toPost = [] ∧ s.mgt.posted = [] ∧ m ≠ 0 ∧ off
      < 0x400000 ∧ c.opcode = 0x101 ∧ bodyTriples c.body = [(0x400000 + off, m, d)] ∧ s.bridgeOwns (bankOf off) = true) ∧
    (∃ (s : State) (c : Cmd) (rest : List Cmd) (m : Word) (d : Word) (off : _), s.mcRuns = true ∧ s.mgt.execQ = c ::
      rest ∧ c.chan = .spi ∧ s.standby = false ∧ s.mgt.run = none ∧ s.mgt.toPost = [] ∧ s.mgt.posted = [] ∧ m ≠ 0 ∧ off
      < 0x400000 ∧ c.opcode = 0x101 ∧ bodyTriples c.body = [(0x400000 + off, m, d)] ∧ s.bridgeOwns (bankOf off) = false
      ∧ s.mgt.pwfl.length < 32) ∧
    (∃ (s : State) (c : Cmd) (rest : List Cmd) (m : Word) (d : Word), s.mcRuns = true ∧ s.mgt.execQ = c :: rest ∧ c.chan
      = .spi ∧ s.standby = false ∧ s.mgt.run = none ∧ s.mgt.toPost = [] ∧ s.mgt.posted = [] ∧ m ≠ 0 ∧ s.mgt.pwfl.length
      < 32 ∧ c.opcode = 0x101 ∧ bodyTriples c.body = [(0x3FFFFC, m, d)]) ∧
    (∃ (s : State) (a : _) (off : _) (tag : _) (m : Word) (d : Word) (w : Option Cmd) (x : _), s.mcRuns = true ∧
      s.mgt.toPost = [] ∧ s.mgt.served = [] ∧ s.mgt.run = none ∧ s.mgt.posted = [⟨tag, a, m, d, false, w⟩] ∧ placeOf a =
      .scratch off ∧ s.bankOwner (bankOf off) = 2 ∧ s.bankState (bankOf off) ≤ 1 ∧ (x < off ∨ off + 4 ≤ x)) ∧
    (∃ (s : State) (a : _) (off : _) (tag : _) (m : Word) (d : Word) (w : Option Cmd), s.mcRuns = true ∧ s.mgt.toPost =
      [] ∧ s.mgt.served = [] ∧ s.mgt.run = none ∧ s.mgt.posted = [⟨tag, a, m, d, false, w⟩] ∧ placeOf a = .scratch off ∧
      (s.bankOwner (bankOf off) ≠ 2 ∨ 1 < s.bankState (bankOf off)) ∧ s.mgt.pwfl.length < 32) ∧
    (∃ (s : State) (c : _) (rest : _) (a : _) (off : _), s.mcRuns = true ∧ s.mgt.toPost = [] ∧ s.mgt.served = [] ∧
      s.mgt.execQ = c :: rest ∧ c.chan = .spi ∧ s.standby = false ∧ s.mgt.posted = [] ∧ s.mgt.run = some ⟨[a], [], none,
      false⟩ ∧ placeOf a = .scratch off ∧ s.bridgeOwns (bankOf off) = true) ∧
    (∃ (s : State) (f : _) (u : _) (tag : _) (off : _) (x : _), s.mcRuns = true ∧ s.mgt.toPost = [] ∧ s.mgt.served = []
      ∧ s.takePair 9 = some (f, u) ∧ tag < 65536 ∧ off % 4 = 0 ∧ off < 0x400000 ∧ s.joined = true ∧ s.bridgeOwns (bankOf
      off) = true ∧ (x < off ∨ off + 4 ≤ x)) ∧
    (∃ (s : State) (f : _) (u : _) (tag : _) (off : _), s.mcRuns = true ∧ s.mgt.toPost = [] ∧ s.mgt.served = [] ∧
      s.takePair 9 = some (f, u) ∧ tag < 65536 ∧ off % 4 = 0 ∧ off < 0x400000 ∧ s.joined = true ∧ s.bridgeOwns (bankOf
      off) = false) ∧
    (∃ (s : State) (f : _) (u : _) (tag : _) (a : _) (m : Word) (d : Word) (w : Option Cmd) (cause : _), s.mcRuns = true
      ∧ s.mgt.toPost = [] ∧ s.mgt.served = [] ∧ s.takePair 10 = some (f, u) ∧ s.mgt.run = none ∧ s.mgt.posted = [⟨tag,
      a, m, d, true, w⟩] ∧ tag < 65536 ∧ s.mgt.pwfl.length < 32 ∧ 0 < cause ∧ cause < 8) :=
  ⟨⟨s210, ((s210.mgt.execQ).head (by decide +kernel)), (s210.mgt.execQ).tail, .regRead, by decide +kernel⟩,
   ⟨s211, ((s211.mgt.execQ).head (by decide +kernel)), (s211.mgt.execQ).tail, by decide +kernel⟩,
   ⟨s212, ((s212.mgt.execQ).head (by decide +kernel)), (s212.mgt.execQ).tail, .regWrite, 0x12345678, 0xFFFFFFFF, by
     decide +kernel⟩,
   ⟨s213, ((s213.mgt.execQ).head (by decide +kernel)), (s213.mgt.execQ).tail, 0x12345678, 0xFFFFFFFF, 4, by
     decide +kernel⟩,
   ⟨s214, ((s214.mgt.execQ).head (by decide +kernel)), (s214.mgt.execQ).tail, 0x12345678, 0xFFFFFFFF, 4, by
     decide +kernel⟩,
   ⟨s215, ((s215.mgt.execQ).head (by decide +kernel)), (s215.mgt.execQ).tail, (((bodyTriples ((s215.mgt.execQ).head (by
     decide +kernel)).body)).head (by decide +kernel)).2.1, (((bodyTriples ((s215.mgt.execQ).head (by
     decide +kernel)).body)).head (by decide +kernel)).2.2, by decide +kernel⟩,
   ⟨s216, 0x400004, 4, 7, 0x80008000, 0x12345678, none, 0, by decide +kernel⟩,
   ⟨s217, 0x400004, 4, 7, 0x80008000, 0x12345678, none, by decide +kernel⟩,
   ⟨s218, ((s218.mgt.execQ).head (by decide +kernel)), (s218.mgt.execQ).tail, 0x400004, 4, by decide +kernel⟩,
   ⟨s219, (((s219.takePair 9)).get (by decide +kernel)).1, (((s219.takePair 9)).get (by decide +kernel)).2, 7, 4, 0, by
     decide +kernel⟩,
   ⟨s220, (((s220.takePair 9)).get (by decide +kernel)).1, (((s220.takePair 9)).get (by decide +kernel)).2, 7, 4, by
     decide +kernel⟩,
   ⟨s221, (((s221.takePair 10)).get (by decide +kernel)).1, (((s221.takePair 10)).get (by decide +kernel)).2, 7,
     0x400004, 0x80008000, 0x12345678, none, 4, by decide +kernel⟩⟩

/-- States and operands that meet the hypotheses of `Obligations.BanksAndResetGroupsChangeHands`, clause by clause. -/
theorem witness_BanksAndResetGroupsChangeHands :
    (∃ (s : State) (b : Nat) (target : _), b < 32 ∧ target < 4 ∧ s.mcRuns = true ∧ s.bankState b ≠ 0) ∧
    (∃ (s : State) (b : Nat) (target : _), b < 32 ∧ target < 4 ∧ s.mcRuns = true ∧ s.bankState b = 0 ∧ ((s.fld
      F.BANK_STATUS_RESERVED).testBit b = true ∨ target = 3 ∨ target = s.bankOwner b)) ∧
    (∃ (s : State) (b : Nat) (target : _), b < 32 ∧ target < 4 ∧ s.mcRuns = true ∧ s.bankState b = 0 ∧ (s.fld
      F.BANK_STATUS_RESERVED).testBit b = false ∧ target ≠ 3 ∧ target ≠ s.bankOwner b) ∧
    (∃ (s : State) (b : Nat), b < 32 ∧ s.powered = true ∧ s.bankState b = 1 ∧ s.bankInUse b = true) ∧
    (∃ (s : State) (b : Nat), b < 32 ∧ s.powered = true ∧ s.bankState b = 1 ∧ s.bankInUse b = false) ∧
    (∃ (s : State) (b : Nat) (a : _), b < 32 ∧ s.powered = true ∧ s.bankState b = 2 ∧ 0x20000 * b ≤ a ∧ a < 0x20000 * (b
      + 1)) ∧
    (∃ (s : State) (b : Nat) (a : _), b < 32 ∧ s.powered = true ∧ s.bankState b = 2 ∧ (a < 0x20000 * b ∨ 0x20000 * (b +
      1) ≤ a)) ∧
    (∃ (s : State) (g : Nat), g < 68 ∧ s.mcRuns = true ∧ s.flag F.RST_CTRL_BUSY = false ∧ g < 34) ∧
    (∃ (s : State) (g : Nat), g < 68 ∧ s.mcRuns = true ∧ s.flag F.RST_CTRL_BUSY = false ∧ 34 ≤ g ∧ g < 58) ∧
    (∃ (s : State) (g : Nat) (k : _), g < 68 ∧ s.mcRuns = true ∧ s.flag F.RST_CTRL_BUSY = false ∧ s.rstHeld g = true ∧ k
      < 68 ∧ k ≠ g) ∧
    (∃ (s : State) (g : Nat) (i : Instr), g < 68 ∧ s.mcRuns = true ∧ s.flag F.RST_CTRL_BUSY = true ∧ (i = .pulse g ∨ i =
      .hold g ∨ i = .release g)) ∧
    (∃ (s : State) (g : Nat), g < 68 ∧ s.powered = true ∧ s.mgt.pulsing = some g) :=
  ⟨⟨s222, 1, 1, by decide +kernel⟩,
   ⟨s222, 2, 1, by decide +kernel⟩,
   ⟨s222, 31, 2, by decide +kernel⟩,
   ⟨s222, 1, by decide +kernel⟩,
   ⟨s223, 1, by decide +kernel⟩,
   ⟨s224, 1, 0x20000, by decide +kernel⟩,
   ⟨s224, 1, 1, by decide +kernel⟩,
   ⟨s222, 1, by decide +kernel⟩,
   ⟨s222, 34, by decide +kernel⟩,
   ⟨s225, 60, 1, by decide +kernel⟩,
   ⟨s226, 1, (.pulse 1), by decide +kernel⟩,
   ⟨s227, 1, by decide +kernel⟩⟩

/-- States and operands that meet the hypotheses of `Obligations.LinAndStoredCommandsComplete`, clause by clause. -/
theorem witness_LinAndStoredCommandsComplete :
    (∃ (s : State) (n : Nat), n < 8 ∧ s.powered = true ∧ s.linLive n = true ∧ s.fld (F.LIN_CTRL_MODE n) = 1 ∧ s.slotDue
      n = false) ∧
    (∃ (s : State) (n : Nat), n < 8 ∧ s.powered = true ∧ s.linLive n = true ∧ s.fld (F.LIN_CTRL_MODE n) = 1 ∧ s.slotDue
      n = true ∧ (s.lin n).goSleep = true ∧ s.linBusy n = false ∧ s.flag (F.LIN_CTRL_SHADOW n) = false) ∧
    (∃ (s : State) (n : Nat), n < 8 ∧ s.powered = true ∧ s.linLive n = true ∧ s.fld (F.LIN_CTRL_MODE n) = 1 ∧ s.slotDue
      n = true ∧ (s.lin n).goSleep = false ∧ s.groupQuiet (s.chanGroup (24 + n)) = false ∧ s.flag
      (F.LIN_STATUS_SWITCH_PENDING n) = true ∧ s.linTableLen n (s.fld (F.LIN_STATUS_TABLE n)) ≤ (s.lin n).next) ∧
    (∃ (s : State) (n : Nat) (id : Nat), n < 8 ∧ id < 64 ∧ s.powered = true ∧ s.linLive n = true ∧ s.fld
      (F.LIN_CTRL_MODE n) = 2 ∧ s.linDir n id = 1 ∧ s.linData n id = none) ∧
    (∃ (s : State) (n : Nat) (id : Nat), n < 8 ∧ id < 64 ∧ s.powered = true ∧ (s.linLive n = false ∨ s.fld
      (F.LIN_CTRL_MODE n) ≠ 2)) ∧
    (∃ (s : State) (n : Nat) (i : Nat) (id : Nat) (bytes : List Byte), n < 8 ∧ bytes.length < 10 ∧ s.powered = true ∧
      s.linLive n = true ∧ (s.lin n).await = some i ∧ (s.lin n).waiting = some (id, none) ∧ s.flag (F.LIN_CTRL_SHADOW n)
      = false ∧ s.linDir n id = 0) ∧
    (∃ (s : State) (n : Nat) (i : Nat) (bytes : List Byte) (fin : LinEnd), n < 8 ∧ bytes.length < 10 ∧ s.powered = true
      ∧ s.linLive n = true ∧ (s.lin n).await = some i ∧ (s.lin n).waiting = none ∧ (fin = .framing ∨ fin = .bit)) ∧
    (∃ (s : State) (c : Cmd) (rest : List Cmd), s.mcRuns = true ∧ s.mgt.execQ = c :: rest ∧ s.journalHeld = false ∧
      c.jseq < 2 ^ 64 ∧ c.opcode = 0x20) ∧
    (∃ (s : State) (c : Cmd) (rest : List Cmd), s.mcRuns = true ∧ s.mgt.execQ = c :: rest ∧ s.journalHeld = false ∧
      c.jseq < 2 ^ 64 ∧ c.opcode = 0x21) ∧
    (∃ (s : State) (c : Cmd) (rest : List Cmd), s.mcRuns = true ∧ s.mgt.execQ = c :: rest ∧ s.journalHeld = false ∧
      c.jseq < 2 ^ 64 ∧ c.opcode = 0x22) ∧
    (∃ (s : State) (c : Cmd) (rest : List Cmd) (env : StartEnv), s.mcRuns = true ∧ s.mgt.execQ = c :: rest ∧
      s.journalHeld = false ∧ c.jseq < 2 ^ 64 ∧ c.opcode = 0x23 ∧ s.fld F.BOOT_STATUS_STATE ≠ 0xC ∧ s.fld
      F.BOOT_STATUS_STATE ≠ 0xD ∧ startOk env = true) ∧
    (∃ (s : State) (c : Cmd) (rest : List Cmd), s.mcRuns = true ∧ s.mgt.execQ = c :: rest ∧ s.journalHeld = false ∧
      c.jseq < 2 ^ 64 ∧ c.opcode = 0x24) ∧
    (∃ (s : State) (c : Cmd) (rest : List Cmd), s.mcRuns = true ∧ s.mgt.execQ = c :: rest ∧ s.journalHeld = false ∧
      c.jseq < 2 ^ 64 ∧ c.opcode = 0x40 ∧ s.ownOutstanding = false ∧ applyRec c.body = none) ∧
    (∃ (s : State) (c : Cmd) (rest : List Cmd) (r : _), s.mcRuns = true ∧ s.mgt.execQ = c :: rest ∧ s.journalHeld =
      false ∧ c.jseq < 2 ^ 64 ∧ c.opcode = 0x40 ∧ s.ownOutstanding = false ∧ applyRec c.body = some r ∧ ((r.known &&
      r.forUnit s.unitId) = false ∨ r.number = 0x800)) ∧
    (∃ (s : State) (c : Cmd) (rest : List Cmd), s.mcRuns = true ∧ s.mgt.execQ = c :: rest ∧ s.journalHeld = false ∧
      c.jseq < 2 ^ 64 ∧ c.opcode = 0x61 ∧ s.mgt.cpWait = none ∧ s.nextJseq < 2 ^ 64) ∧
    (∃ (s : State) (c : Cmd) (rest : List Cmd), s.mcRuns = true ∧ s.mgt.execQ = c :: rest ∧ s.journalHeld = false ∧
      c.jseq < 2 ^ 64 ∧ c.opcode = 0x70 ∧ s.mgt.mcLane.length < 64) ∧
    (∃ (s : State) (c : Cmd) (rest : List Cmd), s.mcRuns = true ∧ s.mgt.execQ = c :: rest ∧ s.journalHeld = false ∧
      c.jseq < 2 ^ 64 ∧ c.opcode = 0x70 ∧ 64 ≤ s.mgt.mcLane.length) :=
  ⟨⟨s88, 7, by decide +kernel⟩,
   ⟨s228, 7, by decide +kernel⟩,
   ⟨s229, 7, by decide +kernel⟩,
   ⟨s230, 7, 5, by decide +kernel⟩,
   ⟨up, 7, 7, by decide +kernel⟩,
   ⟨s231, 7, 5, 6, [], by decide +kernel⟩,
   ⟨s100, 7, 5, [], .bit, by decide +kernel⟩,
   ⟨s199, ((s199.mgt.execQ).head (by decide +kernel)), (s199.mgt.execQ).tail, by decide +kernel⟩,
   ⟨s200, ((s200.mgt.execQ).head (by decide +kernel)), (s200.mgt.execQ).tail, by decide +kernel⟩,
   ⟨s201, ((s201.mgt.execQ).head (by decide +kernel)), (s201.mgt.execQ).tail, by decide +kernel⟩,
   ⟨s202, ((s202.mgt.execQ).head (by decide +kernel)), (s202.mgt.execQ).tail, env0, by decide +kernel⟩,
   ⟨s203, ((s203.mgt.execQ).head (by decide +kernel)), (s203.mgt.execQ).tail, by decide +kernel⟩,
   ⟨s232, ((s232.mgt.execQ).head (by decide +kernel)), (s232.mgt.execQ).tail, by decide +kernel⟩,
   ⟨s206, ((s206.mgt.execQ).head (by decide +kernel)), (s206.mgt.execQ).tail, (((applyRec ((s206.mgt.execQ).head (by
     decide +kernel)).body)).get (by decide +kernel)), by decide +kernel⟩,
   ⟨s207, ((s207.mgt.execQ).head (by decide +kernel)), (s207.mgt.execQ).tail, by decide +kernel⟩,
   ⟨s208, ((s208.mgt.execQ).head (by decide +kernel)), (s208.mgt.execQ).tail, by decide +kernel⟩,
   ⟨s209, ((s209.mgt.execQ).head (by decide +kernel)), (s209.mgt.execQ).tail, by decide +kernel⟩⟩

/-- A JOURNAL message with the entry that follows an empty journal. -/
def jw : State :=
  box .pair 8 (pmsg 2 3 (beBytes 8 0 ++ e0.body ++ chainOf (List.replicate 16 0) e0.body)) (prs 4)

/-- The clause of `Obligations.JournalGoesToTheStandby` over an entry that follows: its CHAIN is SHA-256 over what is before. -/
theorem witness_JournalGoesToTheStandby_entry :
    ∃ (s : State) (f : InFrame) (u : State) (e : JEntry), s.linked = true ∧ s.fld F.PAIR_CFG_MODE = 1 ∧ s.role = 4 ∧
      s.twin.snapping = false ∧ s.takePair 2 = some (f, u) ∧ e = entryAt (pmBody f.bytes) 8 ∧ s.follows e = true ∧
      e.jseq < 2 ^ 64 :=
  ⟨jw, ((jw.takePair 2).get (by decide +kernel)).1, ((jw.takePair 2).get (by decide +kernel)).2, _, by decide +kernel,
   by decide +kernel, by decide +kernel, by decide +kernel, by decide +kernel, rfl, by decide +kernel, by decide +kernel⟩

/-- States that meet the hypotheses of `Obligations.KeyCommandsActOnTheirSlot` for each opcode and every body: what the
body spells is free (log entry 28), and the conclusion quantifies over it. -/
theorem witness_KeyCommandsActOnTheirSlot (op : Nat) (b : List Byte) :
    (withCmd op b up).mcRuns = true ∧ (withCmd op b up).mgt.execQ = [cmd op b, cmd 1 []] ∧
      (withCmd op b up).key.keyOp = none ∧ (cmd op b).opcode = op :=
  ⟨(by decide +kernel : up.mcRuns = true), rfl, (by decide +kernel : up.key.keyOp = none), rfl⟩

/-- Its clauses over a slot with a pending key, and over one without. -/
theorem witness_KeyCommandsActOnTheirSlot_slots (op : Nat) (b : List Byte) :
    2 ≤ (slotted 511 2 (withCmd op b up)).fld (F.KEY_SLOT_INFO_STATE 511) ∧
      (slotted 511 1 (withCmd op b up)).fld (F.KEY_SLOT_INFO_STATE 511) < 2 :=
  ⟨(by decide +kernel : 2 ≤ (slotted 511 2 up).fld (F.KEY_SLOT_INFO_STATE 511)),
   (by decide +kernel : (slotted 511 1 up).fld (F.KEY_SLOT_INFO_STATE 511) < 2)⟩

/-- The clause of `Obligations.KeyEngineServesItsCommands` over LC_ADVANCE, for every body. -/
theorem witness_KeyEngineServesItsCommands_lcAdvance (b : List Byte) :
    (withCmd 0x36 b up).mcRuns = true ∧ (withCmd 0x36 b up).mgt.execQ = [cmd 0x36 b, cmd 1 []] ∧
      startOk env0 = true ∧ (withCmd 0x36 b up).key.transition = none ∧
      (withCmd 0x36 b up).key.signQ.any (withCmd 0x36 b up).signable = false ∧
      (withCmd 0x36 b up).flag (F.LMS_STATUS_READY 2) = false ∧
      (withCmd 0x36 b up).fld F.LDG_NEXT_INDEX < 0xFFFFFFFF ∧
      (withCmd 0x36 b up).ldg.batchFirst ≤ (withCmd 0x36 b up).fld F.LDG_NEXT_INDEX :=
  ⟨(by decide +kernel : up.mcRuns = true), rfl, by decide, (by decide +kernel : up.key.transition = none),
   (by decide +kernel : up.key.signQ.any up.signable = false),
   (by decide +kernel : up.flag (F.LMS_STATUS_READY 2) = false),
   (by decide +kernel : up.fld F.LDG_NEXT_INDEX < 0xFFFFFFFF),
   (by decide +kernel : up.ldg.batchFirst ≤ up.fld F.LDG_NEXT_INDEX)⟩

theorem next_of_isNext {α β γ : Type} (o : Host.Outcome α β γ) (h : (match o with
    | .next _ => true
    | _ => false) = true) : ∃ t, o = .next t := by
  cases o with
  | next t => exact ⟨t, rfl⟩
  | fault f => simp at h
  | refused r => simp at h

/-- A command that meets every hypothesis of `Obligations.CommandsLeaveWhatIsNotTheirs`. -/
theorem witness_CommandsLeaveWhatIsNotTheirs :
    ∃ (c : Instr) (s t : State), exec c s = .next t ∧ c.writesScratchpad = false ∧ c.writesStored = false ∧
      c ≠ .powerUpAon ∧ c.startsUnit = false := by
  obtain ⟨t, h⟩ := next_of_isNext (exec .learn lq) (by decide +kernel)
  exact ⟨.learn, lq, t, h, by decide⟩

/-- A state that meets the hypotheses of `Obligations.StepKeepsSafe`. -/
theorem witness_StepKeepsSafe : ∃ s t : State, s.Safe ∧ step s = .next t := by
  obtain ⟨t, h⟩ := next_of_isNext (step { lq with pending := [.learn] }) (by decide +kernel)
  exact ⟨{ lq with pending := [.learn] }, t, ⟨by unfold State.MemInv; decide +kernel,
    by unfold State.Ready; decide +kernel⟩, h⟩

end Sys2Proof.Tests
end

section
/-!
SUPPORT. What the buffer, the events and MACsec leave alone in the pages of the MACs: a transmission that ends, a copy that is
released and a reception that is cut short change registers of the buffer, the journal and the SA entries only. A register of the
MACs has a key below 0x80000, every one of those a key from 0xC0000 on.
-/

namespace Sys2Proof.Machine

theorem not_mem_journalKeys {k : Nat} (hk : k < 0x80000) : k ∉ journalKeys := by
  have above : ∀ j ∈ journalKeys, 0x80000 ≤ j := by decide
  exact fun h => absurd (above k h) (by omega)

theorem saKeysOf_above (p i : Nat) : ∀ j ∈ saKeysOf p i, 0x80000 ≤ j := by
  simp only [saKeysOf, K.SEC_SA_SCI_LO, K.SEC_SA_SCI_HI, K.SEC_SA_PN_LO, K.SEC_SA_PN_HI, K.SEC_SA_SALT0, K.SEC_SA_SALT1,
    K.SEC_SA_SALT2, K.SEC_SA_SSCI, K.SEC_SA_CFG, List.forall_mem_cons, List.not_mem_nil, false_imp_iff, implies_true, and_true]
  omega

section
variable (s : State) {k : Nat} (hk : k < 0x80000)

@[simp] theorem State.modFrame_reg (h : Nat) (g : Frame → Frame) : (s.modFrame h g).reg k = s.reg k := by
  unfold State.modFrame; split <;> rfl

@[simp] theorem State.headTag_reg (q st : Nat) : (s.headTag q st).reg k = s.reg k := by
  unfold State.headTag; split <;> rfl

include hk

/-! ## Events and cells -/

theorem State.raise_macReg (c : Nat) (d : List Byte) : (s.raise c d).reg k = s.reg k :=
  s.raise_regsBut c d k (not_mem_journalKeys hk)

theorem State.setFld_macReg (f : Fld) (v : Nat) (hf : 0x80000 ≤ f.key) : (s.setFld f v).reg k = s.reg k :=
  s.reg_setFld_other f v (by omega)

theorem State.bufEvent_macReg (c i : Nat) : (s.bufEvent c i).reg k = s.reg k := by
  unfold State.bufEvent
  split
  · exact s.setFld_macReg hk _ _ (by decide)
  · exact State.raise_macReg _ hk _ _

theorem State.addFree_macReg (d : Int) : (s.addFree d).reg k = s.reg k :=
  s.setFld_macReg hk _ _ (by decide)

theorem State.addQuar_macReg (d : Int) : (s.addQuar d).reg k = s.reg k :=
  s.setFld_macReg hk _ _ (by decide)

theorem State.returnCell_macReg (c : Nat) : (s.returnCell c).reg k = s.reg k := by
  unfold State.returnCell
  split
  · exact State.addFree_macReg _ hk _
  · exact State.addQuar_macReg _ hk _
  · rfl

/-! ## Holds and copies -/

theorem State.returnChain_macReg (h : Nat) : (s.returnChain h).reg k = s.reg k := by
  unfold State.returnChain
  split
  · rfl
  · exact forEach_part _ _ (fun s => s.reg k) (fun c s => s.returnCell_macReg hk c) s

theorem State.release_macReg (h : Nat) : (s.release h).reg k = s.reg k := by
  unfold State.release
  split
  · rfl
  · split
    · exact s.bufEvent_macReg hk _ _
    · split
      · cases (s.info h).credit
        all_goals
          dsimp only
          split
          · exact State.returnChain_macReg _ hk h
          · rfl
      · rfl

theorem State.tryRelease_macReg (h : Nat) : (s.tryRelease h).reg k = s.reg k := by
  unfold State.tryRelease
  split
  · rfl
  · split
    · exact State.release_macReg _ hk h
    · rfl

theorem State.endCopy_macReg (q : Nat) (c : Copy) : (s.endCopy q c).reg k = s.reg k := by
  unfold State.endCopy
  split
  · rfl
  · dsimp only
    rw [State.release_macReg _ hk]
    split
    · exact s.modFrame_reg _ _
    · rfl

theorem State.dropCopies_macReg (q : Nat) (f : Copy → Bool) : (s.dropCopies q f).reg k = s.reg k := by
  have each (l : List Copy) (s : State) : (forEach l (fun c s => s.endCopy q c) s).reg k = s.reg k :=
    forEach_part l _ (fun s => s.reg k) (fun c s => s.endCopy_macReg hk q c) s
  have tag (c : Bool) (st : Nat) (s : State) : (if c then s.headTag q st else s).reg k = s.reg k := by
    cases c
    · rfl
    · exact s.headTag_reg q st
  unfold State.dropCopies
  dsimp only
  split
  · rfl
  · rw [each, tag]; rfl

theorem State.markBad_macReg (h : Nat) : (s.markBad h).reg k = s.reg k := by
  have each (l : List Nat) (f : Copy → Bool) (s : State) : (forEach l (fun q s => s.dropCopies q f) s).reg k = s.reg k :=
    forEach_part l _ (fun s => s.reg k) (fun q s => s.dropCopies_macReg hk q f) s
  unfold State.markBad
  split
  · rfl
  · split
    · rfl
    · dsimp only
      rw [State.tryRelease_macReg _ hk]
      split
      · rw [State.modFrame_reg]; exact each _ _ _
      · exact each _ _ _

/-! ## Receptions and transmissions that end at once -/

theorem State.putSa_macReg (p i : Nat) (w : List Word) : (s.putSa p i w).reg k = s.reg k := by
  unfold State.putSa
  have each (l : List (Nat × Word)) (hl : ∀ c ∈ l, k ≠ c.1) (s : State) :
      (forEach l (fun c s => s.setReg c.1 c.2) s).reg k = s.reg k := by
    induction l generalizing s with
    | nil => rfl
    | cons c r ih =>
      rw [forEach, ih (fun d hd => hl d (List.mem_cons_of_mem _ hd)),
        s.reg_setReg_other c.2 (hl c List.mem_cons_self).symm]
  refine each _ (fun c hc => ?_) s
  have := saKeysOf_above p i c.1 (List.of_mem_zip hc).1
  omega

theorem State.applySaWait_macReg (p : Nat) : (s.applySaWait p).reg k = s.reg k := by
  unfold State.applySaWait
  split
  · rfl
  · exact forEach_part _ _ (fun s => s.reg k) (fun (c : Nat × List Word) s => s.putSa_macReg hk p (c.1 % 32) c.2) _

theorem State.rxCut_macReg (m : Nat) (r : RxProg) : (s.rxCut m r).reg k = s.reg k := by
  unfold State.rxCut
  dsimp only
  split
  · exact State.applySaWait_macReg _ hk _
  · rw [State.tryRelease_macReg _ hk, State.modFrame_reg, State.markBad_macReg _ hk, State.modFrame_reg,
      State.applySaWait_macReg _ hk]; rfl

theorem State.cutRx_macReg (m : Nat) : (s.cutRx m).reg k = s.reg k := by
  unfold State.cutRx
  split
  · exact s.rxCut_macReg hk _ _
  · rfl

theorem State.abortTx_macReg (m : Nat) : (s.abortTx m).reg k = s.reg k := by
  unfold State.abortTx
  split
  · rfl
  · exact State.endCopy_macReg _ hk _ _

end

end Sys2Proof.Machine
end

section
/-!
SUPPORT. What a REGISTER_WRITE of a register that can be accessed answers: the write of its block, with the pulse outputs
following the time. With it, the writes of MERGE_CFG, on the ports that have MAC merge and on port M.
-/

namespace Sys2Proof.Machine

/-- Two changes within one footprint are a change within it. -/
theorem State.Only.comp {s t u : State} {l : List Part} (h : s.Only t l) (h' : t.Only u l) : s.Only u l := by
  have key : ∀ {α : Type} (c : Bool) (a b d : α),
      (if c then (if c then a else (if c then b else d)) else d) = if c then a else (if c then b else d) := by
    intro α c a b d; cases c <;> rfl
  have e : s.confine l ((s.confine l t).confine l u) = (s.confine l t).confine l u := by simp only [State.confine, key]
  rwa [h, h'] at e

/-- The state in which a register write is made: no step of network time has happened in it yet. -/
def State.unstepped (s : State) : State := { s with time := { s.time with stepped := false } }

theorem State.unstepped_only (s : State) : s.Only s.unstepped [.time] := rfl

section
variable (s : State) {a : Nat}

theorem isRegister_place (ha : isRegister a = true) : placeOf a = .register :=
  eq_of_beq (Bool.and_eq_true_iff.mp ha).1

theorem State.busRuns_iff : s.busRuns a = true ↔ s.mcRuns = true ∧ s.stopped a = false := by
  rw [State.busRuns, Bool.and_eq_true, Bool.not_eq_true']

theorem State.failCause_of_busRuns (ha : isRegister a = true) (hr : s.busRuns a = true) : s.failCause a = 0 := by
  unfold State.failCause
  rw [isRegister_place ha]
  simp only [(s.busRuns_iff.mp hr).2]
  rfl

/-- A mask of 0 makes no access. -/
theorem exec_registerWrite_zero (ha : isRegister a = true) (v : Word) : exec (.registerWrite a 0 v) s = .next s := by
  rw [exec_registerWrite s a 0 v (by simp [Instr.wf, ha])]
  have : s.registerWrite a 0 v = s := by simp [State.registerWrite]
  rw [this, s.confine_self]

/-- A write that changes registers and the ports' own state, and steps no counter, is followed by the pulse outputs alone. -/
theorem exec_registerWrite_plain (ha : isRegister a = true) (hr : s.busRuns a = true) {m v : Word} (hm : m ≠ 0) {x : State}
    (hx : s.unstepped.busWrite a m v = x) (ho : s.unstepped.Only x [.regs, .ports]) :
    exec (.registerWrite a m v) s = .next x.ppsAll ∧ s.Only x.ppsAll [.regs, .ports, .time, .out] := by
  have only : s.Only x.ppsAll [.regs, .ports, .time, .out] :=
    ((s.unstepped_only.mono _ rfl).comp (ho.mono _ rfl)).comp (x.ppsAll_only.mono _ rfl)
  have step : x.time.stepped = false := by rw [← ho]; rfl
  have write : s.registerWrite a m v = x.ppsAll := by
    have access : (!s.mcRuns || m == 0) = false := by rw [(s.busRuns_iff.mp hr).1]; exact beq_false_of_ne hm
    unfold State.registerWrite
    rw [access, if_pos (s.failCause_of_busRuns ha hr), ← x.settleTime_plain step, ← hx]
    rfl
  refine ⟨?_, only⟩
  rw [exec_registerWrite s a m v (by simp [Instr.wf, ha]), write, only.confine _ rfl]

end

/-! ## MERGE_CFG (spec/03, R83; port M: R94) -/

/-- The registers MERGE_CFG of the ports with MAC merge. -/
def mergeCfgDesc : RegDesc := ⟨0x40020, 26, 0x1000, 1, 0xFFFF31, 0, 0, 0, .const 0x1400⟩

/-- The place of port M's MERGE_CFG, of which no bit can be written. -/
def mergeCfgMDesc : RegDesc := ⟨0x62020, 1, 0, 1, 0, 0, 0, 0, .const 0⟩

theorem regAt_mergeCfg : ∀ p < 26, regAt (K.MERGE_CFG p) = some (mergeCfgDesc, p) := by decide
theorem regAt_mergeCfgM : regAt K.MERGE_CFG_M = some (mergeCfgMDesc, 0) := by decide

theorem isRegister_mergeCfg : ∀ p < 26, isRegister (K.MERGE_CFG p) = true := by decide

/-- MERGE_CFG is no CNT_CTRL and no half of a snapshot pair. -/
theorem mergeCfg_plain : ∀ p < 26, isCntCtrl (K.MERGE_CFG p) = false ∧
    (isPairLo (K.MERGE_CFG p) || (decide (4 ≤ K.MERGE_CFG p) && isPairLo (K.MERGE_CFG p - 4))) = false := by decide

theorem mergeCfgDesc_after (w m v : Word) : mergeCfgDesc.after w m v = maskWord w (m &&& 0x00FFFF31) v := by
  simp only [RegDesc.after, mergeCfgDesc]
  rw [show BitVec.ofNat 32 0 = 0#32 from rfl, BitVec.and_zero, not_zero_word, BitVec.and_allOnes]
  rfl

/-- The register MERGE_CFG of a port takes a masked write. -/
def State.putMergeCfg (s : State) (p : Nat) (m v : Word) : State := s.plainWrite mergeCfgDesc (K.MERGE_CFG p) m v

section
variable (s : State) (p : Nat)

theorem State.reg_putMergeCfg (m v : Word) :
    (s.putMergeCfg p m v).reg (K.MERGE_CFG p) = maskWord (s.reg (K.MERGE_CFG p)) (m &&& 0x00FFFF31) v := by
  rw [← mergeCfgDesc_after]
  exact s.reg_setReg_same _ _

theorem State.putMergeCfg_regsBut (m v : Word) : s.RegsBut (s.putMergeCfg p m v) [K.MERGE_CFG p] := s.regsBut_setReg _ _

theorem State.noteMerge_regs : (s.noteMerge p).regs = s.regs := by unfold State.noteMerge; split <;> rfl

theorem State.noteMerge_only : s.Only (s.noteMerge p) [.ports] := by unfold State.noteMerge; split <;> rfl

theorem State.noteMerge_ports : (s.noteMerge p).ports = { s.ports with mergeOff := (s.noteMerge p).ports.mergeOff } := by
  unfold State.noteMerge; split <;> rfl

/-- EN written 0 is noted, and what was noted stays. -/
theorem State.mergeOff_noteMerge : (s.noteMerge p).mergeOff p = (s.mergeOff p || !s.flag (F.MERGE_CFG_EN p)) := by
  unfold State.noteMerge
  cases h : s.flag (F.MERGE_CFG_EN p)
  · simp [State.setMergeOff, State.mergeOff]
  · simp

/-- The write of MERGE_CFG in the bus: the register takes it, and EN written 0 is noted. -/
theorem State.busWrite_mergeCfg (hp : p < 26) {m v : Word} (hm : m ≠ 0) :
    s.busWrite (K.MERGE_CFG p) m v = (s.putMergeCfg p m v).noteMerge p := by
  obtain ⟨hc, hl⟩ := mergeCfg_plain p hp
  have block : K.MERGE_CFG p / 0x40000 = 1 := by unfold K.MERGE_CFG; omega
  have page : (K.MERGE_CFG p - 0x40000) / 0x1000 = p := by unfold K.MERGE_CFG; omega
  have offset : K.MERGE_CFG p % 0x1000 = 0x20 := by unfold K.MERGE_CFG; omega
  have mac : K.MERGE_CFG p < 0x63000 := by unfold K.MERGE_CFG; omega
  have write : s.blockWrite mergeCfgDesc (K.MERGE_CFG p) (K.MERGE_CFG p) m v =
      (s.putMergeCfg p m v).noteMerge p := by
    simp [State.blockWrite, State.writeMac, State.putMergeCfg, hc, hl, block, page, offset, mac, hp]
  have here : s.regHere (K.MERGE_CFG p) = some (mergeCfgDesc, K.MERGE_CFG p) := by
    simp only [State.regHere, regAt_mergeCfg p hp]; rfl
  rw [s.busWrite_block _ _ mergeCfgDesc m v hm (by omega) here (l := [.regs, .ports]) ?_ rfl, write]
  rw [write]
  exact State.Only.comp (t := s.putMergeCfg p m v) rfl ((State.noteMerge_only _ p).mono _ rfl)

/-- The write of port M's MERGE_CFG: the register keeps its value. -/
theorem State.busWrite_mergeCfgM {m v : Word} (hm : m ≠ 0) :
    s.busWrite K.MERGE_CFG_M m v = s.setReg K.MERGE_CFG_M (s.reg K.MERGE_CFG_M) := by
  have here : s.regHere K.MERGE_CFG_M = some (mergeCfgMDesc, K.MERGE_CFG_M) := by
    simp only [State.regHere, regAt_mergeCfgM]; rfl
  have write : s.blockWrite mergeCfgMDesc K.MERGE_CFG_M K.MERGE_CFG_M m v = s.plainWrite mergeCfgMDesc K.MERGE_CFG_M m v := rfl
  rw [s.busWrite_plain _ _ mergeCfgMDesc m v hm (by decide) here write, RegDesc.after_w1c _ rfl]
  congr 1
  rw [show BitVec.ofNat 32 mergeCfgMDesc.w1c = 0#32 from rfl, BitVec.and_zero, not_zero_word, BitVec.and_allOnes]

end

end Sys2Proof.Machine
end

section
/-!
SUPPORT. The MAC merge of a port (spec/03, R82, R83): the control mPackets, and MERGE_CFG that takes effect at a frame boundary.
-/

namespace Sys2Proof.Machine

section
variable (s : State) (p : Nat)

/-! ## Control mPackets (R82) -/

theorem State.sendMPacket_only (kind : Nat) : s.Only (s.sendMPacket p kind) [.cnts, .out] := by
  unfold State.sendMPacket; dsimp only; split <;> rfl

theorem State.sendMPacket_out (kind : Nat) : (s.sendMPacket p kind).out = .mpacket p kind :: s.out := by
  unfold State.sendMPacket; dsimp only; split <;> rfl

theorem State.verifies_setVerifies (n : Nat) : (s.setVerifies p n).verifies p = n := mapGet_mapSet_same _ s.ports.verifies p n

variable {s p}

theorem State.verifyTick_send (hs : s.fld (F.MERGE_STATUS_VERIFY_STATE p) = 1) (hl : s.flag (F.MAC_STATUS_LINK_UP p) = true)
    (hv : s.verifies p < 3) : s.verifyTick p = (s.sendMPacket p 1).setVerifies p (s.verifies p + 1) := by
  simp [State.verifyTick, hs, hl, hv]

theorem State.verifyTick_fail (hs : s.fld (F.MERGE_STATUS_VERIFY_STATE p) = 1) (hl : s.flag (F.MAC_STATUS_LINK_UP p) = true)
    (hv : 3 ≤ s.verifies p) : s.verifyTick p = s.setFld (F.MERGE_STATUS_VERIFY_STATE p) 3 := by
  simp [State.verifyTick, hs, hl, Nat.not_lt.mpr hv]

theorem State.verifyIn_answer (hm : s.mergeOn p = true) (hl : s.flag (F.MAC_STATUS_LINK_UP p) = true) :
    s.verifyIn p = s.sendMPacket p 2 := by simp [State.verifyIn, hm, hl]

theorem State.respondIn_succeed (hs : s.fld (F.MERGE_STATUS_VERIFY_STATE p) = 1) (hl : s.flag (F.MAC_STATUS_LINK_UP p) = true) :
    s.respondIn p = s.setFld (F.MERGE_STATUS_VERIFY_STATE p) 2 := by simp [State.respondIn, hs, hl]

/-- VERIFY_STATE takes a value of its three bits, and no other register changes. -/
theorem State.setVerifyState (s : State) (p : Nat) {v : Nat} (hv : v < 8) :
    (s.setFld (F.MERGE_STATUS_VERIFY_STATE p) v).fld (F.MERGE_STATUS_VERIFY_STATE p) = v ∧
      s.RegsBut (s.setFld (F.MERGE_STATUS_VERIFY_STATE p) v) [K.MERGE_STATUS p] ∧
      s.Only (s.setFld (F.MERGE_STATUS_VERIFY_STATE p) v) [.regs] :=
  ⟨(s.fld_setFld_same _ v (show 0 ≤ 2 by decide) (show 2 < 32 by decide)).trans (Nat.mod_eq_of_lt hv), s.regsBut_setFld _ v, rfl⟩

end

/-! ## MERGE_CFG takes effect (R83) -/

/-- The settings of MERGE_CFG in effect become the register, and EN written 0 is forgotten. -/
def State.takeMergeCfg (s : State) (p : Nat) : State := (s.setMergeEff p (s.reg (K.MERGE_CFG p))).setMergeOff p false

/-- Verification starts again when MERGE_CFG takes effect: EN has been written 0 or changes, or VERIFY_DIS changes and the last
verification has not FAILED (R82). -/
def State.verifiesAnew (s : State) (p : Nat) : Bool :=
  (s.mergeOff p || (s.mergeEff p).toNat.testBit 0 != (s.reg (K.MERGE_CFG p)).toNat.testBit 0) ||
    ((s.mergeEff p).toNat.testBit 8 != (s.reg (K.MERGE_CFG p)).toNat.testBit 8 &&
      s.fld (F.MERGE_STATUS_VERIFY_STATE p) != 3)

section
variable (s : State) (p : Nat)

theorem State.applyMerge_within (h : s.txBoundary p = false) : s.applyMerge p = s := by simp [State.applyMerge, h]

theorem State.applyMerge_boundary (h : s.txBoundary p = true) :
    s.applyMerge p = if s.verifiesAnew p then (s.takeMergeCfg p).restartVerify p else s.takeMergeCfg p := by
  unfold State.applyMerge
  rw [h]
  rfl

theorem State.mergeEff_takeMergeCfg (q : Nat) :
    (s.takeMergeCfg p).mergeEff q = if p = q then s.reg (K.MERGE_CFG p) else s.mergeEff q :=
  mapGet_mapSet _ s.ports.mergeEff p q _

theorem State.restartVerify_regsBut : s.RegsBut (s.restartVerify p) [K.MERGE_STATUS p] :=
  (s.regsBut_setFld (F.MERGE_STATUS_VERIFY_STATE p) _).after rfl

theorem State.verifies_restartVerify : (s.restartVerify p).verifies p = 0 := State.verifies_setVerifies _ p 0

theorem State.verifyState_restartVerify : (s.restartVerify p).fld (F.MERGE_STATUS_VERIFY_STATE p) =
    if s.mergeOn p = false then 0 else if (s.mergeEff p).toNat.testBit 8 then 4 else 1 := by
  have put {v : Nat} (hv : v < 8) := (s.setVerifyState p hv).1
  unfold State.restartVerify
  dsimp only
  cases s.mergeOn p
  · exact put (v := 0) (by decide)
  · cases (s.mergeEff p).toNat.testBit 8
    · exact put (v := 1) (by decide)
    · exact put (v := 4) (by decide)

/-- A settings change leaves the transmissions, and of the registers all but the port's MERGE_STATUS. -/
theorem State.applyMerge_keeps : s.RegsBut (s.applyMerge p) [K.MERGE_STATUS p] ∧ (s.applyMerge p).ports.tx = s.ports.tx := by
  cases h : s.txBoundary p
  · rw [s.applyMerge_within p h]; exact ⟨State.RegsBut.refl s _, rfl⟩
  · rw [s.applyMerge_boundary p h]
    cases s.verifiesAnew p
    · exact ⟨State.regsBut_of_regs rfl _, rfl⟩
    · exact ⟨((s.takeMergeCfg p).restartVerify_regsBut p).from rfl, rfl⟩

theorem State.mergeEff_applyMerge (h : s.txBoundary p = true) (q : Nat) :
    (s.applyMerge p).mergeEff q = if p = q then s.reg (K.MERGE_CFG p) else s.mergeEff q := by
  rw [s.applyMerge_boundary p h, ← s.mergeEff_takeMergeCfg p q]
  cases s.verifiesAnew p <;> rfl

end

end Sys2Proof.Machine
end

section
/-!
SUPPORT. `Obligations.PreemptionFollowsMergeCfg`: the verification's commands, the write of MERGE_CFG and its taking effect, each as
a lemma over one command.
-/

namespace Sys2Proof.Machine

section
variable {s : State} {p : Nat}

/-! ## The verification (R82) -/

theorem exec_verifySend_sends (hp : hasMerge p = true) (hd : s.drives = true) (hl : s.flag (F.MAC_STATUS_LINK_UP p) = true)
    (hs : s.fld (F.MERGE_STATUS_VERIFY_STATE p) = 1) (hv : s.verifies p < 3) :
    ∃ t, exec (.verifySend p) s = .next t ∧ s.Only t [.regs, .cnts, .ports, .out] ∧ t.out = .mpacket p 1 :: s.out ∧
      t.verifies p = s.verifies p + 1 ∧ t.regs = s.regs := by
  refine ⟨_, exec_verifySend s p hp hd, s.only_confine _ _, ?_⟩
  rw [State.verifyTick_send hs hl hv]
  exact ⟨s.sendMPacket_out p 1, (s.sendMPacket p 1).verifies_setVerifies p _, (s.sendMPacket_only p 1).regs rfl⟩

theorem exec_verifySend_fails (hp : hasMerge p = true) (hd : s.drives = true) (hl : s.flag (F.MAC_STATUS_LINK_UP p) = true)
    (hs : s.fld (F.MERGE_STATUS_VERIFY_STATE p) = 1) (hv : 3 ≤ s.verifies p) :
    ∃ t, exec (.verifySend p) s = .next t ∧ t.fld (F.MERGE_STATUS_VERIFY_STATE p) = 3 ∧ s.RegsBut t [K.MERGE_STATUS p] ∧
      s.Only t [.regs] := by
  have put := s.setVerifyState p (v := 3) (by decide)
  refine ⟨_, exec_verifySend s p hp hd, ?_⟩
  rwa [State.verifyTick_fail hs hl hv, put.2.2.confine _ rfl]

theorem exec_verifyReceive_answers (hp : hasMerge p = true) (hd : s.drives = true)
    (hl : s.flag (F.MAC_STATUS_LINK_UP p) = true) (hm : s.mergeOn p = true) :
    ∃ t, exec (.verifyReceive p) s = .next t ∧ t.out = .mpacket p 2 :: s.out ∧ s.Only t [.cnts, .out] := by
  refine ⟨_, exec_verifyReceive s p hp hd, ?_, s.only_confine _ _⟩
  rw [State.verifyIn_answer hm hl]
  exact s.sendMPacket_out p 2

theorem exec_respondReceive_succeeds (hp : hasMerge p = true) (hd : s.drives = true)
    (hl : s.flag (F.MAC_STATUS_LINK_UP p) = true) (hs : s.fld (F.MERGE_STATUS_VERIFY_STATE p) = 1) :
    ∃ t, exec (.respondReceive p) s = .next t ∧ t.fld (F.MERGE_STATUS_VERIFY_STATE p) = 2 ∧ s.RegsBut t [K.MERGE_STATUS p] ∧
      s.Only t [.regs] := by
  have put := s.setVerifyState p (v := 2) (by decide)
  refine ⟨_, exec_respondReceive s p hp hd, ?_⟩
  rwa [State.respondIn_succeed hs hl, put.2.2.confine _ rfl]

/-! ## MERGE_CFG is written (R83) -/

theorem exec_registerWrite_mergeCfg (hp : hasMerge p = true) (mask value : Word) (hr : s.busRuns (K.MERGE_CFG p) = true) :
    ∃ t, exec (.registerWrite (K.MERGE_CFG p) mask value) s = .next t ∧
      t.ports = { s.ports with mergeOff := t.ports.mergeOff } ∧
      (mask ≠ 0 → t.mergeOff p = (s.mergeOff p || !t.flag (F.MERGE_CFG_EN p))) ∧
      t.reg (K.MERGE_CFG p) = maskWord (s.reg (K.MERGE_CFG p)) (mask &&& 0x00FFFF31) value ∧
      s.RegsBut t [K.MERGE_CFG p] ∧ s.Only t [.regs, .ports, .time, .out] := by
  have hp' : p < 26 := of_decide_eq_true hp
  by_cases hm : mask = 0
  · subst hm
    have same : s.reg (K.MERGE_CFG p) = maskWord (s.reg (K.MERGE_CFG p)) (0 &&& 0x00FFFF31) value := by
      rw [← mergeCfgDesc_after, RegDesc.after_zero]
    exact ⟨s, exec_registerWrite_zero s (isRegister_mergeCfg p hp') value, rfl, fun h => absurd rfl h, same,
      State.RegsBut.refl s _, s.only_refl _⟩
  · have written := s.unstepped.busWrite_mergeCfg p hp' (v := value) hm
    have inner : s.unstepped.Only ((s.unstepped.putMergeCfg p mask value).noteMerge p) [.regs, .ports] :=
      State.Only.comp (t := s.unstepped.putMergeCfg p mask value) rfl ((State.noteMerge_only _ p).mono _ rfl)
    have regs : ((s.unstepped.putMergeCfg p mask value).noteMerge p).ppsAll.regs = (s.unstepped.putMergeCfg p mask value).regs :=
      State.noteMerge_regs _ p
    obtain ⟨run, only⟩ := exec_registerWrite_plain s (isRegister_mergeCfg p hp') hr hm written inner
    refine ⟨_, run, (s.unstepped.putMergeCfg p mask value).noteMerge_ports p, fun _ => ?_, ?_, ?_, only⟩
    · rw [State.flag_congr regs]
      exact (s.unstepped.putMergeCfg p mask value).mergeOff_noteMerge p
    · rw [State.reg_congr regs]
      exact s.unstepped.reg_putMergeCfg p mask value
    · exact ((s.unstepped.putMergeCfg_regsBut p mask value).from rfl).after regs

/-! ## MERGE_CFG takes effect (R83) -/

theorem exec_mergeCfgApply_within (hp : hasMerge p = true) (hb : s.txBoundary p = false) :
    exec (.mergeCfgApply p) s = .next s := by
  have kept : s.doIf s.powered (fun s => s.applyMerge p) = s := by
    cases s.powered
    · rfl
    · exact s.applyMerge_within p hb
  have arm : exec (.mergeCfgApply p) s = s.demand (hasMerge p)
      (s.confine [.regs, .ports] (s.doIf s.powered (fun s => s.applyMerge p))) := rfl
  rw [arm, State.demand_ok hp, kept, s.confine_self]

theorem verifiesAnew_iff : s.verifiesAnew p = true ↔
    s.mergeOff p = true ∨ (s.mergeEff p).toNat.testBit 0 ≠ (s.reg (K.MERGE_CFG p)).toNat.testBit 0 ∨
      ((s.mergeEff p).toNat.testBit 8 ≠ (s.reg (K.MERGE_CFG p)).toNat.testBit 8 ∧
        s.fld (F.MERGE_STATUS_VERIFY_STATE p) ≠ 3) := by
  simp only [State.verifiesAnew, Bool.or_eq_true, Bool.and_eq_true, bne_iff_ne, or_assoc]

/-- What verification becomes at the frame boundary: nothing changes, or it starts again as the new settings say (R82). -/
theorem State.applyMerge_verification (hp : hasMerge p = true) (hb : s.txBoundary p = true) :
    (¬s.verifiesAnew p = true → (s.applyMerge p).regs = s.regs) ∧
      (s.verifiesAnew p = true → (s.applyMerge p).verifies p = 0 ∧ (s.applyMerge p).fld (F.MERGE_STATUS_VERIFY_STATE p) =
        if (s.reg (K.MERGE_CFG p)).toNat.testBit 0 = false then 0
        else if (s.reg (K.MERGE_CFG p)).toNat.testBit 8 then 4 else 1) := by
  have eff : (s.takeMergeCfg p).mergeEff p = s.reg (K.MERGE_CFG p) := by rw [s.mergeEff_takeMergeCfg p p, if_pos rfl]
  have on : (s.takeMergeCfg p).mergeOn p = (s.reg (K.MERGE_CFG p)).toNat.testBit 0 := by rw [State.mergeOn, eff, hp, Bool.true_and]
  rw [s.applyMerge_boundary p hb]
  refine ⟨fun h => by rw [if_neg h]; rfl, fun h => ?_⟩
  rw [if_pos h]
  exact ⟨State.verifies_restartVerify _ p, by rw [State.verifyState_restartVerify, on, eff]⟩

theorem exec_mergeCfgApply_boundary (hp : hasMerge p = true) (hw : s.powered = true) (hb : s.txBoundary p = true) :
    ∃ t, exec (.mergeCfgApply p) s = .next t ∧ t.mergeEff p = s.reg (K.MERGE_CFG p) ∧ s.RegsBut t [K.MERGE_STATUS p] ∧
      s.Only t [.regs, .ports] ∧ t.ports.tx = s.ports.tx ∧ (∀ q, q ≠ p → t.mergeEff q = s.mergeEff q) ∧
      (¬s.verifiesAnew p = true → t.regs = s.regs) ∧
      (s.verifiesAnew p = true → t.verifies p = 0 ∧ t.fld (F.MERGE_STATUS_VERIFY_STATE p) =
        if (s.reg (K.MERGE_CFG p)).toNat.testBit 0 = false then 0
        else if (s.reg (K.MERGE_CFG p)).toNat.testBit 8 then 4 else 1) := by
  obtain ⟨regs, tx⟩ := s.applyMerge_keeps p
  have eff := s.mergeEff_applyMerge p hb
  exact ⟨_, exec_mergeCfgApply s p hp hw, (eff p).trans (if_pos rfl), regs.after rfl, s.only_confine _ _, tx,
    fun q hq => (eff q).trans (if_neg hq.symm), State.applyMerge_verification hp hb⟩

end

/-- Settles O22: the verification clauses are the rules of `verifyTick`, `verifyIn` and `respondIn`, one for each branch taken; a
write of MERGE_CFG reaches the register and the note of EN only, and the settings in effect follow at the frame boundary. -/
theorem preemptionFollowsMergeCfg : Obligations.PreemptionFollowsMergeCfg := by
  unfold Obligations.PreemptionFollowsMergeCfg
  constructor
  · intro s p hp hd hl
    exact ⟨exec_verifySend_sends hp hd hl, exec_verifySend_fails hp hd hl, exec_verifyReceive_answers hp hd hl,
      exec_respondReceive_succeeds hp hd hl⟩
  · intro s p hp
    refine ⟨exec_registerWrite_mergeCfg hp, exec_mergeCfgApply_within hp, fun hw hb => ?_⟩
    obtain ⟨t, run, eff, regs, only, tx, others, kept, anew⟩ := exec_mergeCfgApply_boundary hp hw hb
    rw [verifiesAnew_iff] at kept anew
    exact ⟨t, run, eff, regs, only, tx, others, kept, anew⟩

end Sys2Proof.Machine
end

section
/-!
SUPPORT. Writes of MAC_CFG and MAC_FRAME (spec/03, R94): what a changed link leaves of a port's registers, and when a write is
refused.
-/

namespace Sys2Proof.Machine

/-! ## The link of a port (R79, R86) -/

/-- What a change of a port's link leaves: the pages of the MACs but MAC_STATUS and MERGE_STATUS of the port, and CFG_REJECT. -/
def State.LinkKept (s t : State) (p : Nat) : Prop :=
  (∀ k, k < 0x80000 → k ≠ K.MAC_STATUS p → k ≠ K.MERGE_STATUS p → t.reg k = s.reg k) ∧
    t.flag (F.MAC_STATUS_CFG_REJECT p) = s.flag (F.MAC_STATUS_CFG_REJECT p)

section
variable {s t u : State} {p : Nat}

theorem State.flag_of_reg {f : Fld} (h : t.reg f.key = s.reg f.key) : t.flag f = s.flag f := by rw [State.flag, h, State.flag]

theorem State.LinkKept.refl (s : State) (p : Nat) : s.LinkKept s p := ⟨fun _ _ _ _ => rfl, rfl⟩

theorem State.LinkKept.comp (h : s.LinkKept t p) (h' : t.LinkKept u p) : s.LinkKept u p :=
  ⟨fun k hk h1 h2 => (h'.1 k hk h1 h2).trans (h.1 k hk h1 h2), h'.2.trans h.2⟩

theorem linkKept_of_macReg (hp : p < 34) (h : ∀ {k : Nat}, k < 0x80000 → t.reg k = s.reg k) : s.LinkKept t p := by
  have key : K.MAC_STATUS p < 0x80000 := by unfold K.MAC_STATUS; omega
  exact ⟨fun k hk _ _ => h hk, State.flag_of_reg (h key)⟩

/-- A status bit of the port below CFG_REJECT is put. -/
theorem linkKept_setStatus (s : State) (p : Nat) {i : Nat} (hi : i < 5) (v : Nat) :
    s.LinkKept (s.setFld ⟨K.MAC_STATUS p, i, i⟩ v) p := by
  refine ⟨fun k _ h _ => s.reg_setFld_other _ v h.symm, ?_⟩
  have bits := s.fld_setFld_bits ⟨K.MAC_STATUS p, i, i⟩ (F.MAC_STATUS_CFG_REJECT p) v rfl (Nat.le_refl i) (by omega : i < 32)
    (Nat.le_refl 5) (Or.inl hi)
  rw [State.flag_eq _ _ rfl, bits, State.flag_eq _ _ rfl]

theorem linkKept_setMergeStatus (s : State) (p : Nat) {f : Fld} (hf : f.key = K.MERGE_STATUS p) (v : Nat) :
    s.LinkKept (s.setFld f v) p := by
  have other : f.key ≠ K.MAC_STATUS p := by rw [hf]; unfold K.MERGE_STATUS K.MAC_STATUS; omega
  exact ⟨fun k _ _ h => s.reg_setFld_other f v (hf ▸ h.symm), s.flag_setFld_key f _ v other⟩

theorem linkKept_raiseFlag (s : State) (hp : p < 34) (d : List Byte) :
    s.LinkKept (s.raiseFlag (F.MAC_STATUS_LINK_CHANGED p) d) p := by
  unfold State.raiseFlag
  split
  · exact State.LinkKept.refl s p
  · exact (linkKept_setStatus s p (i := 4) (by decide) 1).comp (linkKept_of_macReg hp (fun hk => State.raise_macReg _ hk _ _))

theorem linkKept_restartVerify (s : State) (p : Nat) : s.LinkKept (s.restartVerify p) p :=
  linkKept_setMergeStatus s p (f := F.MERGE_STATUS_VERIFY_STATE p) rfl _

/-- What the port transmits and receives ends: registers of the buffer, the journal and the SA entries change. -/
theorem linkKept_cutPort (s : State) (hp : p < 34) :
    s.LinkKept ((((s.abortTx (2 * p)).abortTx (2 * p + 1)).cutRx (2 * p)).cutRx (2 * p + 1)) p :=
  linkKept_of_macReg hp (fun hk => by
    rw [State.cutRx_macReg _ hk, State.cutRx_macReg _ hk, State.abortTx_macReg _ hk, State.abortTx_macReg _ hk])

theorem State.relink_linkKept (s : State) (hp : p < 34) : s.LinkKept (s.relink p) p := by
  unfold State.relink
  extract_lets s1 now s2 s3
  have first : s.LinkKept s1 p := by
    unfold s1
    split
    · exact linkKept_setStatus s p (i := 3) (by decide) _
    · exact State.LinkKept.refl s p
  have changed : s1.LinkKept s2 p := (linkKept_setStatus s1 p (i := 0) (by decide) _).comp (linkKept_raiseFlag _ hp _)
  have ended : s1.LinkKept s3 p := changed.comp (linkKept_cutPort s2 hp)
  refine first.comp ?_
  split
  · exact State.LinkKept.refl s1 p
  · split
    · split
      · exact changed.comp (linkKept_restartVerify s2 p)
      · exact changed
    · split
      · exact ended.comp (linkKept_setMergeStatus s3 p rfl 0)
      · exact ended

end

/-! ## MAC_CFG (R94) -/

/-- R94 forbids a value of MAC_CFG on a port: MODE or ROLE change while the port stays enabled, or the port does not offer them. -/
def State.macCfgForbidden (s : State) (p : Nat) (w : Word) : Bool :=
  ((wordBits w 23 20 != wordBits (s.reg (K.MAC_CFG p)) 23 20 || wordBits w 19 18 != wordBits (s.reg (K.MAC_CFG p)) 19 18) &&
    (s.reg (K.MAC_CFG p)).toNat.testBit 0 && w.toNat.testBit 0) || !modeOffered p (wordBits w 23 20) ||
    !roleDefined p (wordBits w 19 18)

/-- The word that a masked write gives MAC_CFG. -/
def State.macCfgWord (s : State) (p : Nat) (mask value : Word) : Word :=
  maskWord (s.reg (K.MAC_CFG p)) (mask &&& 0x00FC0001) value

/-- The word that a masked write gives MAC_FRAME. -/
def State.macFrameWord (s : State) (p : Nat) (mask value : Word) : Word :=
  maskWord (s.reg (K.MAC_FRAME p)) (mask &&& 0x3FFF) value

section
variable {s : State} {p : Nat} {mask value : Word}

/-- CFG_REJECT is set, and beside it only the journal and the counters of events change. -/
theorem raiseFlag_cfgReject (s : State) (hp : p < 34) (d : List Byte) :
    (s.raiseFlag (F.MAC_STATUS_CFG_REJECT p) d).flag (F.MAC_STATUS_CFG_REJECT p) = true ∧
      s.RegsBut (s.raiseFlag (F.MAC_STATUS_CFG_REJECT p) d) (K.MAC_STATUS p :: journalKeys) ∧
      s.CntsBut (s.raiseFlag (F.MAC_STATUS_CFG_REJECT p) d) eventCounters ∧
      s.Only (s.raiseFlag (F.MAC_STATUS_CFG_REJECT p) d) [.regs, .cnts, .mgt, .key] := by
  have key : K.MAC_STATUS p < 0x80000 := by unfold K.MAC_STATUS; omega
  exact ⟨s.raiseFlag_flag _ d rfl (show 5 < 32 by decide) (not_mem_journalKeys key), s.raiseFlag_regsBut _ d,
    s.raiseFlag_cntsBut _ d, s.raiseFlag_only _ d⟩

theorem State.writeMacCfg_forbidden (hp : p < 34) (h : s.macCfgForbidden p (s.macCfgWord p mask value) = true) :
    s.writeMacCfg p mask value = s.raiseFlag (F.MAC_STATUS_CFG_REJECT p) (beBytes 1 p) := by
  unfold State.writeMacCfg
  rw [if_neg (by omega)]
  exact if_pos h

/-- A B port that is disabled forgets its PHY's link and its poll: no register changes. -/
def State.disablePoll (s : State) (p : Nat) (w : Word) : State :=
  if p < 8 ∧ !w.toNat.testBit 0 then (s.setPhyLink p false).voidPoll p else s

theorem State.disablePoll_regs (s : State) (p : Nat) (w : Word) : (s.disablePoll p w).regs = s.regs := by
  have void (s : State) : (s.voidPoll p).regs = s.regs := by
    unfold State.voidPoll
    dsimp only
    split
    · split <;> rfl
    · rfl
  unfold State.disablePoll
  split
  · exact void _
  · rfl

theorem State.writeMacCfg_allowed (hp : p < 34) (h : s.macCfgForbidden p (s.macCfgWord p mask value) = false) :
    s.writeMacCfg p mask value =
      ((s.setReg (K.MAC_CFG p) (s.macCfgWord p mask value)).disablePoll p (s.macCfgWord p mask value)).relink p := by
  unfold State.writeMacCfg
  rw [if_neg (by omega)]
  exact if_neg (by rw [Bool.not_eq_true]; exact h)

/-- A write that R94 allows: MAC_CFG takes the word, MAC_FRAME and CFG_REJECT stay. -/
theorem State.writeMacCfg_takes (hp : p < 34) (h : s.macCfgForbidden p (s.macCfgWord p mask value) = false) :
    (s.writeMacCfg p mask value).reg (K.MAC_CFG p) = s.macCfgWord p mask value ∧
      (s.writeMacCfg p mask value).flag (F.MAC_STATUS_CFG_REJECT p) = s.flag (F.MAC_STATUS_CFG_REJECT p) ∧
      (s.writeMacCfg p mask value).reg (K.MAC_FRAME p) = s.reg (K.MAC_FRAME p) := by
  have regs := (s.setReg (K.MAC_CFG p) (s.macCfgWord p mask value)).disablePoll_regs p (s.macCfgWord p mask value)
  obtain ⟨others, reject⟩ := State.relink_linkKept
    ((s.setReg (K.MAC_CFG p) (s.macCfgWord p mask value)).disablePoll p (s.macCfgWord p mask value)) hp
  have cfgStatus : K.MAC_CFG p ≠ K.MAC_STATUS p := by unfold K.MAC_CFG K.MAC_STATUS; omega
  have cfgMerge : K.MAC_CFG p ≠ K.MERGE_STATUS p := by unfold K.MAC_CFG K.MERGE_STATUS; omega
  have frameStatus : K.MAC_FRAME p ≠ K.MAC_STATUS p := by unfold K.MAC_FRAME K.MAC_STATUS; omega
  have frameMerge : K.MAC_FRAME p ≠ K.MERGE_STATUS p := by unfold K.MAC_FRAME K.MERGE_STATUS; omega
  have cfgFrame : K.MAC_CFG p ≠ K.MAC_FRAME p := by unfold K.MAC_CFG K.MAC_FRAME; omega
  rw [State.writeMacCfg_allowed hp h]
  refine ⟨?_, ?_, ?_⟩
  · rw [others _ (by unfold K.MAC_CFG; omega) cfgStatus cfgMerge, State.reg_congr regs, State.reg_setReg_same]
  · rw [reject, State.flag_congr regs]
    exact State.flag_of_reg (s.reg_setReg_other _ cfgStatus)
  · rw [others _ (by unfold K.MAC_FRAME; omega) frameStatus frameMerge, State.reg_congr regs, s.reg_setReg_other _ cfgFrame]

theorem exec_macCfgWrite_checked (hp : p < 34) (hr : s.busRuns (K.MAC_CFG p) = true) :
    ∃ t, exec (.macCfgWrite p mask value) s = .next t ∧
      (s.macCfgForbidden p (s.macCfgWord p mask value) = true → t.flag (F.MAC_STATUS_CFG_REJECT p) = true ∧
        s.RegsBut t (K.MAC_STATUS p :: journalKeys) ∧ s.CntsBut t eventCounters ∧ s.Only t [.regs, .cnts, .mgt, .key]) ∧
      (s.macCfgForbidden p (s.macCfgWord p mask value) = false → t.reg (K.MAC_CFG p) = s.macCfgWord p mask value ∧
        t.flag (F.MAC_STATUS_CFG_REJECT p) = s.flag (F.MAC_STATUS_CFG_REJECT p) ∧
        t.reg (K.MAC_FRAME p) = s.reg (K.MAC_FRAME p)) := by
  refine ⟨_, exec_macCfgWrite s p mask value (decide_eq_true (by omega)) hr, fun h => ?_, fun h => ?_⟩
  · have rejected := raiseFlag_cfgReject s hp (beBytes 1 p)
    rwa [State.writeMacCfg_forbidden hp h, rejected.2.2.2.confine _ rfl]
  · exact State.writeMacCfg_takes hp h

/-! ## MAC_FRAME (R94) -/

theorem State.writeMacFrame_outside (hp : p < 34)
    (h : (s.macFrameWord p mask value).toNat < 64 ∨ 9216 < (s.macFrameWord p mask value).toNat) :
    s.writeMacFrame p mask value = s.raiseFlag (F.MAC_STATUS_CFG_REJECT p) (beBytes 1 p) := by
  unfold State.writeMacFrame
  rw [if_neg (by omega)]
  exact if_pos h

theorem State.writeMacFrame_within (hp : p < 34) (h1 : 64 ≤ (s.macFrameWord p mask value).toNat)
    (h2 : (s.macFrameWord p mask value).toNat ≤ 9216) :
    s.writeMacFrame p mask value = s.setReg (K.MAC_FRAME p) (s.macFrameWord p mask value) := by
  unfold State.writeMacFrame
  rw [if_neg (by omega)]
  exact if_neg (fun h : _ ∨ _ => h.elim (Nat.not_lt.mpr h1) (Nat.not_lt.mpr h2))

theorem exec_macFrameWrite_checked (hp : p < 34) (hr : s.busRuns (K.MAC_FRAME p) = true) :
    ∃ t, exec (.macFrameWrite p mask value) s = .next t ∧
      ((s.macFrameWord p mask value).toNat < 64 ∨ 9216 < (s.macFrameWord p mask value).toNat →
        t.flag (F.MAC_STATUS_CFG_REJECT p) = true ∧ s.RegsBut t (K.MAC_STATUS p :: journalKeys) ∧ s.CntsBut t eventCounters) ∧
      (64 ≤ (s.macFrameWord p mask value).toNat → (s.macFrameWord p mask value).toNat ≤ 9216 →
        t.reg (K.MAC_FRAME p) = s.macFrameWord p mask value ∧ s.RegsBut t [K.MAC_FRAME p] ∧ s.Only t [.regs]) := by
  refine ⟨_, exec_macFrameWrite s p mask value (decide_eq_true (by omega)) hr, fun h => ?_, fun h1 h2 => ?_⟩
  · obtain ⟨flag, regs, cnts, only⟩ := raiseFlag_cfgReject s hp (beBytes 1 p)
    rw [State.writeMacFrame_outside hp h, only.confine _ rfl]
    exact ⟨flag, regs, cnts⟩
  · rw [State.writeMacFrame_within hp h1 h2]
    exact ⟨s.reg_setReg_same _ _, (s.regsBut_setReg _ _).after rfl, rfl⟩

end

/-! ## Port M (R94) -/

section
variable (s : State) (mask value : Word)

theorem exec_macCfgWrite_portM : exec (.macCfgWrite 34 mask value) s = .next s := by
  have kept (b : Bool) : s.doIf b (fun s => s.writeMacCfg 34 mask value) = s := by cases b <;> rfl
  have arm : exec (.macCfgWrite 34 mask value) s = .next (s.confine [.regs, .cnts, .fresh, .bufLog, .data, .ports, .mgt, .key]
      (s.doIf (s.busRuns (K.MAC_CFG 34)) (fun s => s.writeMacCfg 34 mask value))) := rfl
  rw [arm, kept, s.confine_self]

theorem exec_macFrameWrite_portM : exec (.macFrameWrite 34 mask value) s = .next s := by
  have kept (b : Bool) : s.doIf b (fun s => s.writeMacFrame 34 mask value) = s := by cases b <;> rfl
  have arm : exec (.macFrameWrite 34 mask value) s = .next (s.confine [.regs, .cnts, .mgt, .key]
      (s.doIf (s.busRuns (K.MAC_FRAME 34)) (fun s => s.writeMacFrame 34 mask value))) := rfl
  rw [arm, kept, s.confine_self]

theorem exec_registerWrite_mergeCfgM (hr : s.busRuns K.MERGE_CFG_M = true) :
    ∃ t, exec (.registerWrite K.MERGE_CFG_M mask value) s = .next t ∧ s.RegsBut t [] ∧ s.Only t [.regs, .time, .out] ∧
      (mask ≠ 0 → s.TimeKept t) := by
  have here : isRegister K.MERGE_CFG_M = true := by decide
  by_cases hm : mask = 0
  · subst hm
    exact ⟨s, exec_registerWrite_zero s here value, State.RegsBut.refl s _, s.only_refl _, fun h => absurd rfl h⟩
  · have written := s.unstepped.busWrite_mergeCfgM (v := value) hm
    obtain ⟨run, -⟩ := exec_registerWrite_plain s here hr hm written rfl
    refine ⟨_, run, fun k _ => ?_, ?_, fun _ => State.ppsAll_time _⟩
    · refine (s.unstepped.reg_setReg K.MERGE_CFG_M k _).trans ?_
      split
      · next same => rw [← same]; rfl
      · rfl
    · have inner : s.Only (s.unstepped.setReg K.MERGE_CFG_M (s.unstepped.reg K.MERGE_CFG_M)) [.regs, .time, .out] := rfl
      exact inner.comp ((State.ppsAll_only _).mono _ rfl)

end

/-- Settles O23: each write follows the two branches of its check; on port M the MAC's commands do nothing, and the write of
MERGE_CFG meets a register of which no bit is RW. -/
theorem portWritesAreCheckedOrIgnored : Obligations.PortWritesAreCheckedOrIgnored := by
  unfold Obligations.PortWritesAreCheckedOrIgnored
  constructor
  · intro s p mask value hp hc hf
    exact ⟨exec_macCfgWrite_checked hp hc, exec_macFrameWrite_checked hp hf⟩
  · intro s mask value
    exact ⟨exec_macCfgWrite_portM s mask value, exec_macFrameWrite_portM s mask value, exec_registerWrite_mergeCfgM s mask value⟩

end Sys2Proof.Machine
end

section
/-!
SUPPORT. Held words: what a word held, dropped or committed leaves to be read, and what a HELD_REGISTER_WRITE of a register that can
be accessed answers.
-/

namespace Sys2Proof.Machine

/-! ## Held words (spec/18, R513) -/

section
variable (s : State)

theorem State.heldWord_congr {s t : State} (h : s.held = t.held) (k : Nat) : s.heldWord k = t.heldWord k := by
  simp [State.heldWord, h]

@[simp] theorem State.heldWord_setReg (k j : Nat) (w : Word) : (s.setReg k w).heldWord j = s.heldWord j := rfl

theorem State.heldWord_unhold (k j : Nat) : (s.unhold k).heldWord j = if k = j then none else s.heldWord j := by
  split
  · next same => exact same ▸ mapGet_mapErase_same _ k s.held
  · next other => exact mapGet_mapErase_other _ s.held other

/-! ## The commit of a window's word (spec/05, R169) -/

theorem State.reg_commitWindow (w k j : Nat) :
    (s.commitWindow w k).reg j = if k = j then (s.heldWord w).getD (s.reg k) else s.reg j := s.reg_setReg k j _

theorem State.heldWord_commitWindow (w k j : Nat) :
    (s.commitWindow w k).heldWord j = if w = j then none else s.heldWord j := State.heldWord_unhold _ w j

theorem State.commitWindow_regsBut (w k : Nat) : s.RegsBut (s.commitWindow w k) [k] := (s.regsBut_setReg k _).after rfl

end

/-! ## The register access of a held word -/

theorem State.ppsAll_held (s : State) : s.ppsAll.held = s.held := by rw [State.ppsAll, State.confine_held]; rfl

/-- A write that changes held words alone is followed by the pulse outputs alone. -/
theorem exec_heldRegisterWrite_plain {s : State} {a : Nat} (ha : isHeld a = true) (hr : s.busRuns a = true) {m v : Word} {x : State}
    (hx : s.unstepped.busWrite a m v = x) (ho : s.unstepped.Only x [.held]) :
    exec (.heldRegisterWrite a m v) s = .next x.ppsAll ∧ x.ppsAll.regs = s.regs ∧ x.ppsAll.held = x.held ∧
      s.Only x.ppsAll [.held, .time, .out] ∧ s.TimeKept x.ppsAll := by
  have only : s.Only x.ppsAll [.held, .time, .out] :=
    ((s.unstepped_only.mono _ rfl).comp (ho.mono _ rfl)).comp (x.ppsAll_only.mono _ rfl)
  have time : x.time = s.unstepped.time := by rw [← ho]; rfl
  have write : s.settled (fun s => s.busWrite a m v) = x.ppsAll := by
    rw [← x.settleTime_plain (congrArg TimeSt.stepped time), ← hx]
    rfl
  refine ⟨?_, only.regs rfl, x.ppsAll_held, only, ?_⟩
  · rw [exec_heldRegisterWrite s a m v ha hr, write, only.confine _ rfl]
  · rw [State.TimeKept, x.ppsAll_time, time]
    rfl

end Sys2Proof.Machine
end

section
/-!
SUPPORT. The VLAN and multicast group windows (spec/05, R169): words that are held for the window, and the write of the last word,
which stores the whole entry.
-/

namespace Sys2Proof.Machine

/-! ## The words that are held -/

/-- The held words of the VLAN and group windows: address, entries behind the window, and RW bits. -/
def heldWindowWords : List (Nat × Nat × Nat) :=
  [(0xC0040, 4096, 0xFFFF0000), (0xC0044, 4096, 0xFFFFFFFF), (0xC0048, 4096, 0x80070007), (0xC0054, 1024, 0xFFFFFFFF)]

/-- A register behind a window with RW bits only, 0 after reset. -/
def windowDesc (a n rw : Nat) : RegDesc := ⟨a, 1, 0, n, rw, 0, 0, 0, .const 0⟩

theorem regAt_heldWindowWord : ∀ x ∈ heldWindowWords, regAt x.1 = some (windowDesc x.1 x.2.1 x.2.2, 0) := by decide

theorem isHeld_heldWindowWord : ∀ x ∈ heldWindowWords, isHeld x.1 = true := by decide

/-- A held window word is no CNT_CTRL and no half of a snapshot pair. -/
theorem heldWindowWord_plain : ∀ x ∈ heldWindowWords, isCntCtrl x.1 = false ∧
    (isPairLo x.1 || (decide (4 ≤ x.1) && isPairLo (x.1 - 4))) = false := by decide

theorem heldWindowWord_address : ∀ x ∈ heldWindowWords, x.1 = 0xC0040 ∨ x.1 = 0xC0044 ∨ x.1 = 0xC0048 ∨ x.1 = 0xC0054 := by decide

theorem heldWindowWord_entries : ∀ x ∈ heldWindowWords, x.2.1 ≠ 1 := by decide

theorem windowDesc_after (a n rw : Nat) (w m v : Word) :
    (windowDesc a n rw).after w m v = maskWord w (m &&& BitVec.ofNat 32 rw) v := by
  simp only [RegDesc.after, windowDesc]
  rw [show BitVec.ofNat 32 0 = 0#32 from rfl, BitVec.and_zero, not_zero_word, BitVec.and_allOnes]

section
variable (s : State)

theorem State.fld_lt (f : Fld) : s.fld f < 2 ^ (f.hi - f.lo + 1) := Nat.mod_lt _ (Nat.two_pow_pos _)

/-- No reset group and no sleep stops the registers of the packet buffer. -/
theorem State.stopped_buffer {a : Nat} (h1 : 0x7F200 ≤ a) (h2 : a < 0x180000) : s.stopped a = false := by
  unfold State.stopped
  rw [if_neg (by omega), if_neg (by omega), if_neg (by omega)]

/-- The index register of each window names one of its entries. -/
theorem State.winIndex_heldWindowWord : ∀ x ∈ heldWindowWords, s.winIndex x.1 < x.2.1 := by
  simp only [heldWindowWords, List.forall_mem_cons, List.not_mem_nil, false_imp_iff, implies_true, and_true]
  have vid : s.fld F.VLAN_WIN_INDEX_VID < 4096 := s.fld_lt F.VLAN_WIN_INDEX_VID
  exact ⟨vid, vid, vid, s.fld_lt F.MCG_WIN_INDEX_INDEX⟩

/-- The write of a held window word in the bus holds it for the window. -/
theorem State.busWrite_heldWindowWord {x : Nat × Nat × Nat} (hx : x ∈ heldWindowWords) {m v : Word} (hm : m ≠ 0) :
    s.busWrite x.1 m v =
      s.holdWindow (windowDesc x.1 x.2.1 x.2.2) x.1 (x.1 + 0x100000000 * s.winIndex x.1) m v := by
  obtain ⟨hc, hl⟩ := heldWindowWord_plain x hx
  have address := heldWindowWord_address x hx
  have block : x.1 / 0x40000 = 3 := by omega
  have window : (x.1 + 0x100000000 * s.winIndex x.1) % 0x100000000 = x.1 := by omega
  have noCmd : x.1 ≠ K.FDB_CMD := by unfold K.FDB_CMD; omega
  have write : s.blockWrite (windowDesc x.1 x.2.1 x.2.2) x.1 (x.1 + 0x100000000 * s.winIndex x.1) m v =
      s.holdWindow (windowDesc x.1 x.2.1 x.2.2) x.1 (x.1 + 0x100000000 * s.winIndex x.1) m v := by
    simp only [State.blockWrite, hc, hl, block, Bool.false_eq_true, if_false, State.writeBuf, if_neg noCmd, if_pos address, window]
  have here : s.regHere x.1 = some (windowDesc x.1 x.2.1 x.2.2, x.1 + 0x100000000 * s.winIndex x.1) := by
    simp only [State.regHere, regAt_heldWindowWord x hx]
    exact (if_neg (heldWindowWord_entries x hx)).trans (if_pos (s.winIndex_heldWindowWord x hx))
  rw [s.busWrite_block _ _ (windowDesc x.1 x.2.1 x.2.2) m v hm (by omega) here (l := [.held]) (by rw [write]; rfl) rfl, write]

/-- A HELD_REGISTER_WRITE of a window's word is held for the window, over the word held before or, where none is, over that of the
entry which the index selects. -/
theorem exec_heldRegisterWrite_window {x : Nat × Nat × Nat} (hx : x ∈ heldWindowWords) {m v : Word}
    (hr : s.mcRuns = true) (hm : m ≠ 0) :
    ∃ t, exec (.heldRegisterWrite x.1 m v) s = .next t ∧ t.regs = s.regs ∧
      t.heldWord x.1 = some (maskWord ((s.heldWord x.1).getD (s.reg (x.1 + 0x100000000 * s.winIndex x.1)))
        (m &&& BitVec.ofNat 32 x.2.2) v) ∧
      (∀ k, k ≠ x.1 → t.heldWord k = s.heldWord k) ∧ s.Only t [.held, .time, .out] ∧ s.TimeKept t := by
  have address := heldWindowWord_address x hx
  have runs : s.busRuns x.1 = true := s.busRuns_iff.mpr ⟨hr, s.stopped_buffer (by omega) (by omega)⟩
  obtain ⟨run, regs, held, only, time⟩ := exec_heldRegisterWrite_plain (isHeld_heldWindowWord x hx) runs
    (s.unstepped.busWrite_heldWindowWord hx (v := v) hm) rfl
  refine ⟨_, run, regs, ?_, fun k hk => ?_, only, time⟩
  · rw [State.heldWord_congr held, State.holdWindow, State.heldWord_hold, if_pos rfl, windowDesc_after]
    rfl
  · rw [State.heldWord_congr held, State.holdWindow, State.heldWord_hold, if_neg hk.symm]
    rfl

end

/-! ## The write of the last word -/

section
variable (s : State) (e : Nat) (mask value : Word)

/-- The commit of a VLAN entry: the three held words and the written one are stored, and no word stays held. -/
theorem State.commitVlan_stores :
    (∀ k ∈ [K.VLAN_WIN_DATA0, K.VLAN_WIN_DATA1, K.VLAN_WIN_DATA2],
      (s.commitVlan e mask value).reg (k e) = (s.heldWord (k 0)).getD (s.reg (k e)) ∧
        (s.commitVlan e mask value).heldWord (k 0) = none) ∧
      (s.commitVlan e mask value).reg (K.VLAN_WIN_DATA3 e) = maskWord (s.reg (K.VLAN_WIN_DATA3 e)) mask value := by
  simp [State.commitVlan, State.reg_setReg, State.reg_commitWindow, State.heldWord_commitWindow, K.VLAN_WIN_DATA0, K.VLAN_WIN_DATA1,
    K.VLAN_WIN_DATA2, K.VLAN_WIN_DATA3]

theorem State.commitVlan_regsBut : s.RegsBut (s.commitVlan e mask value)
    [K.VLAN_WIN_DATA0 e, K.VLAN_WIN_DATA1 e, K.VLAN_WIN_DATA2 e, K.VLAN_WIN_DATA3 e] :=
  (((s.commitWindow_regsBut _ _).trans (State.commitWindow_regsBut _ _ _)).trans (State.commitWindow_regsBut _ _ _)).trans
    (State.regsBut_setReg _ _ _)

theorem State.commitVlan_only : s.Only (s.commitVlan e mask value) [.regs, .held] := rfl

/-- The commit of a group: the held word and the written one are stored, and no word stays held. -/
theorem State.commitMcg_stores :
    (s.commitMcg e mask value).reg (K.MCG_WIN_DATA0 e) = (s.heldWord (K.MCG_WIN_DATA0 0)).getD (s.reg (K.MCG_WIN_DATA0 e)) ∧
      (s.commitMcg e mask value).heldWord (K.MCG_WIN_DATA0 0) = none ∧
      (s.commitMcg e mask value).reg (K.MCG_WIN_DATA1 e) =
        maskWord (s.reg (K.MCG_WIN_DATA1 e)) (mask &&& 0x80000007) value := by
  simp [State.commitMcg, State.reg_setReg, State.reg_commitWindow, State.heldWord_commitWindow, K.MCG_WIN_DATA0, K.MCG_WIN_DATA1]

theorem State.commitMcg_regsBut : s.RegsBut (s.commitMcg e mask value) [K.MCG_WIN_DATA0 e, K.MCG_WIN_DATA1 e] :=
  (s.commitWindow_regsBut _ _).trans (State.regsBut_setReg _ _ _)

theorem State.commitMcg_only : s.Only (s.commitMcg e mask value) [.regs, .held] := rfl

theorem exec_vlanEntryCommit_stores (hr : s.mcRuns = true) : exec (.vlanEntryCommit mask value) s =
    .next (s.commitVlan (s.fld F.VLAN_WIN_INDEX_VID) mask value) := by
  rw [exec_vlanEntryCommit s mask value hr, (s.commitVlan_only _ mask value).confine _ rfl]
  rfl

theorem exec_mcgEntryCommit_stores (hr : s.mcRuns = true) : exec (.mcgEntryCommit mask value) s =
    .next (s.commitMcg (s.fld F.MCG_WIN_INDEX_INDEX) mask value) := by
  rw [exec_mcgEntryCommit s mask value hr, (s.commitMcg_only _ mask value).confine _ rfl]
  rfl

end

/-- Settles O11: a word written before the last is held for its window and reaches no register; the commit is the window commits
of the held words followed by the write of the last one, all on the registers of the entry that the index selects. -/
theorem heldWordsTakeEffectTogether : Obligations.HeldWordsTakeEffectTogether := by
  unfold Obligations.HeldWordsTakeEffectTogether
  constructor
  · intro s mask value hr hm
    simp only [List.forall_mem_cons, List.not_mem_nil, false_imp_iff, implies_true, and_true]
    have held {x : Nat × Nat × Nat} (hx : x ∈ heldWindowWords) := exec_heldRegisterWrite_window s hx (v := value) hr hm
    exact ⟨held (x := (0xC0040, 4096, 0xFFFF0000)) (by decide), held (x := (0xC0044, 4096, 0xFFFFFFFF)) (by decide),
      held (x := (0xC0048, 4096, 0x80070007)) (by decide), held (x := (0xC0054, 1024, 0xFFFFFFFF)) (by decide)⟩
  · intro s mask value hr
    constructor
    · obtain ⟨words, last⟩ := s.commitVlan_stores (s.fld F.VLAN_WIN_INDEX_VID) mask value
      exact ⟨_, exec_vlanEntryCommit_stores s mask value hr, words, last, s.commitVlan_regsBut _ mask value,
        s.commitVlan_only _ mask value⟩
    · obtain ⟨word, dropped, last⟩ := s.commitMcg_stores (s.fld F.MCG_WIN_INDEX_INDEX) mask value
      exact ⟨_, exec_mcgEntryCommit_stores s mask value hr, word, dropped, last, s.commitMcg_regsBut _ mask value,
        s.commitMcg_only _ mask value⟩

end Sys2Proof.Machine
end

section
/-!
SUPPORT. Token buckets: what a key of a register shows and which keys an operation reaches, the buckets' own arithmetic, and what a
commit, a fill and an increment of a list of buckets leave to be read.
-/

namespace Sys2Proof.Machine

/-! ## What a key shows -/

/-- What the state holds under the key of a register: its word, the word held for it, and the hidden fraction of a bucket. -/
def State.place (s : State) (k : Nat) : Word × Option Word × Nat :=
  (s.reg k, s.heldWord k, mapGet (fun _ => 0) s.data.fracs k)

/-- Two states show the same under each key of a list. -/
def State.Alike (s t : State) (ks : List Nat) : Prop := ∀ k ∈ ks, t.place k = s.place k

theorem State.Alike.refl (s : State) (ks : List Nat) : s.Alike s ks := fun _ _ => rfl

theorem State.Alike.mono {s t : State} {ks js : List Nat} (h : s.Alike t ks) (hl : ∀ k ∈ js, k ∈ ks) : s.Alike t js :=
  fun k hk => h k (hl k hk)

theorem State.Alike.trans {s t u : State} {ks : List Nat} (h : s.Alike t ks) (h' : t.Alike u ks) : s.Alike u ks :=
  fun k hk => (h' k hk).trans (h k hk)

section
variable {s t : State} {k : Nat} (h : t.place k = s.place k)
include h

theorem State.reg_of_place : t.reg k = s.reg k := congrArg (fun p => p.1) h

theorem State.heldWord_of_place : t.heldWord k = s.heldWord k := congrArg (fun p => p.2.1) h

theorem State.heldOr_of_place : t.heldOr k = s.heldOr k := by
  rw [State.heldOr, State.heldWord_of_place h, State.reg_of_place h, State.heldOr]

theorem State.rateOf_of_place : t.rateOf k = s.rateOf k := by rw [State.rateOf, State.reg_of_place h, State.rateOf]

theorem State.burstOf_of_place : t.burstOf k = s.burstOf k := by rw [State.burstOf, State.reg_of_place h, State.burstOf]

theorem State.bucket_of_place : t.bucket k = s.bucket k := by
  have frac : mapGet (fun _ => 0) t.data.fracs k = mapGet (fun _ => 0) s.data.fracs k := congrArg (fun p => p.2.2) h
  rw [State.bucket, State.level, State.reg_of_place h, frac, State.bucket, State.level]

end

theorem State.Alike.flag {s t : State} {ks : List Nat} (h : s.Alike t ks) {f : Fld} (hf : f.key ∈ ks) : t.flag f = s.flag f :=
  State.flag_of_reg (State.reg_of_place (h f.key hf))

/-! ## The keys an operation reaches -/

/-- An operation reaches the keys of a list only, and lists the entries of every other window register as before. -/
structure State.Touches (s t : State) (ks : List Nat) : Prop where
  place : ∀ k, k ∉ ks → t.place k = s.place k
  listed : ∀ a, (∀ k ∈ ks, k % 0x100000000 ≠ a) → t.listedEntries a = s.listedEntries a

theorem State.Touches.refl (s : State) (ks : List Nat) : s.Touches s ks := ⟨fun _ _ => rfl, fun _ _ => rfl⟩

theorem State.Touches.comp {s t u : State} {ks : List Nat} (h : s.Touches t ks) (h' : t.Touches u ks) : s.Touches u ks :=
  ⟨fun k hk => (h'.place k hk).trans (h.place k hk), fun a ha => (h'.listed a ha).trans (h.listed a ha)⟩

theorem State.Touches.mono {s t : State} {ks js : List Nat} (h : s.Touches t ks) (hl : ∀ k ∈ ks, k ∈ js) : s.Touches t js :=
  ⟨fun k hk => h.place k (fun hm => hk (hl k hm)), fun a ha => h.listed a (fun k hk => ha k (hl k hk))⟩

theorem State.Touches.alike {s t : State} {ks js : List Nat} (h : s.Touches t ks) (hd : ∀ k ∈ js, k ∉ ks) : s.Alike t js :=
  fun k hk => h.place k (hd k hk)

/-- A write of one key of a table leaves what the other keys list, in its order. -/
theorem filterMap_mapSet {α β : Type} [DecidableEq α] (d : Nat → α) (g : Nat × α → Option β) (m : List (Nat × α)) {k : Nat} {v : α}
    (hg : ∀ w, g (k, w) = none) : (mapSet d m k v).filterMap g = m.filterMap g := by
  have erased : (mapErase k m).filterMap g = m.filterMap g := by
    unfold mapErase
    induction m with
    | nil => rfl
    | cons c r ih =>
      obtain ⟨j, w⟩ := c
      by_cases same : j = k
      · subst same
        simpa [List.filterMap_cons, hg] using ih
      · simp [List.filterMap_cons, same, ih]
  have inserted (l : List (Nat × α)) : (mapInsert k v l).filterMap g = l.filterMap g := by
    induction l with
    | nil => simp [mapInsert, hg]
    | cons c r ih =>
      rw [mapInsert]
      split
      · rw [List.filterMap_cons, hg]
      · simp only [List.filterMap_cons, ih]
  rw [mapSet]
  split
  · exact erased
  · rw [inserted, erased]

section
variable (s : State)

theorem State.listedEntries_setReg {k a : Nat} (w : Word) (h : k % 0x100000000 ≠ a) :
    (s.setReg k w).listedEntries a = s.listedEntries a :=
  filterMap_mapSet resetWord _ s.regs (fun _ => if_neg h)

theorem State.touches_setReg (k : Nat) (w : Word) : s.Touches (s.setReg k w) [k] where
  place j hj := by
    have : (s.setReg k w).reg j = s.reg j := s.regsBut_setReg k w j hj
    simp only [State.place, this, State.heldWord_setReg, State.setReg_data]
  listed a ha := s.listedEntries_setReg w (ha k List.mem_cons_self)

theorem State.touches_setFld (f : Fld) (v : Nat) : s.Touches (s.setFld f v) [f.key] := s.touches_setReg f.key _

theorem State.touches_unhold (k : Nat) : s.Touches (s.unhold k) [k] where
  place j hj := by
    have : (s.unhold k).heldWord j = s.heldWord j := by rw [State.heldWord_unhold, if_neg (fun e => hj (by simp [e]))]
    rw [State.place, this]
    rfl
  listed _ _ := rfl

theorem State.touches_setBucket (k : Nat) (v : Int) : s.Touches (s.setBucket k v) [k] where
  place j hj := by
    have reg : (s.setBucket k v).reg j = s.reg j := s.regsBut_setReg k _ j hj
    have frac : mapGet (fun _ => 0) (s.setBucket k v).data.fracs j = mapGet (fun _ => 0) s.data.fracs j :=
      mapGet_mapSet_other _ _ _ (fun e => hj (by simp [e]))
    rw [State.place, reg, frac]
    rfl
  listed a ha := s.listedEntries_setReg _ (ha k List.mem_cons_self)

theorem State.touches_commitHeld (k : Nat) : s.Touches (s.commitHeld k) [k] :=
  (s.touches_setReg k _).comp (State.touches_unhold _ k)

theorem State.touches_commitAll (l : List Nat) : s.Touches (s.commitAll l) l := by
  induction l generalizing s with
  | nil => exact State.Touches.refl s []
  | cons k r ih =>
    exact ((s.touches_commitHeld k).mono (by simp)).comp ((ih (s.commitHeld k)).mono (fun _ => List.mem_cons_of_mem k))

/-! ## Held words that are committed (R182) -/

/-- Every word of a list that is committed is stored, and held no longer. -/
theorem State.commitAll_stores {l : List Nat} (hl : l.Nodup) :
    ∀ k ∈ l, (s.commitAll l).reg k = s.heldOr k ∧ (s.commitAll l).heldWord k = none := by
  induction l generalizing s with
  | nil => simp
  | cons j r ih =>
    obtain ⟨fresh, rest⟩ := List.nodup_cons.mp hl
    intro k hk
    rw [State.commitAll]
    rcases List.mem_cons.mp hk with same | later
    · subst same
      have kept := ((s.commitHeld k).touches_commitAll r).place k fresh
      rw [State.reg_of_place kept, State.heldWord_of_place kept]
      exact ⟨s.reg_setReg_same k _, (State.heldWord_unhold _ k k).trans (if_pos rfl)⟩
    · have other : k ≠ j := fun e => fresh (e ▸ later)
      have kept := (s.touches_commitHeld j).place k (by simpa using other)
      rw [← State.heldOr_of_place kept]
      exact ih (s.commitHeld j) rest k later

/-! ## One bucket (R175, R176) -/

theorem toSigned_ofSigned {v : Int} (h1 : -2 ^ 31 ≤ v) (h2 : v < 2 ^ 31) : toSigned 32 (ofSigned 32 v) = v := by
  unfold toSigned ofSigned
  split <;> omega

theorem State.level_lower (k : Nat) : -2 ^ 31 ≤ s.level k := by
  unfold State.level toSigned
  split <;> omega

theorem State.burstOf_lt (k : Nat) : s.burstOf k < 2 ^ 24 := Nat.mod_lt _ (Nat.two_pow_pos _)

/-- A bucket reads as the value put into it, where its whole bytes fit LEVEL. -/
theorem State.bucket_setBucket (k : Nat) {v : Int} (h1 : -2 ^ 31 * fracUnit ≤ v) (h2 : v < 2 ^ 31 * fracUnit) :
    (s.setBucket k v).bucket k = v := by
  have word : (s.setBucket k v).reg k = BitVec.ofNat 32 (ofSigned 32 (v / fracUnit)) := s.reg_setReg_same k _
  have frac : mapGet (fun _ => 0) (s.setBucket k v).data.fracs k = (v % fracUnit).toNat := mapGet_mapSet_same _ _ _ _
  have fits : ofSigned 32 (v / fracUnit) < 2 ^ 32 := by unfold ofSigned; omega
  unfold fracUnit at *
  rw [State.bucket, State.level, word, frac, BitVec.toNat_ofNat, Nat.mod_eq_of_lt fits, toSigned_ofSigned (by omega) (by omega)]
  unfold fracUnit
  omega

/-- A bucket gains its increment up to BURST. -/
theorem State.bucket_tickBucket (l r b : Nat) : (s.tickBucket l r b).bucket l =
    min (s.bucket l + (incOf (s.rateOf r) : Nat)) ((s.burstOf b : Int) * fracUnit) := by
  have burst := s.burstOf_lt b
  have level := s.level_lower l
  refine s.bucket_setBucket l ?_ ?_
  · unfold State.bucket fracUnit
    omega
  · unfold fracUnit
    omega

/-- A bucket that is set holds BURST, or 0. -/
theorem State.bucket_fillBucket (full : Bool) (l b : Nat) :
    (s.fillBucket full l b).bucket l = if full then (s.burstOf b : Int) * fracUnit else 0 := by
  have burst := s.burstOf_lt b
  refine s.bucket_setBucket l ?_ ?_ <;> unfold fracUnit <;> split <;> omega

end

/-! ## A list of buckets -/

/-- A bucket: the keys of its LEVEL, RATE and BURST. -/
structure Bucket where
  level : Nat
  rate : Nat
  burst : Nat

/-- The words that are held for a commit. -/
def Bucket.words (b : Bucket) : List Nat := [b.rate, b.burst]
/-- Every key of a bucket. -/
def Bucket.keys (b : Bucket) : List Nat := b.level :: b.words

/-- The keys of a control register and of the buckets it governs. -/
def unitKeys (ctrl : Nat) (bs : List Bucket) : List Nat := ctrl :: bs.flatMap Bucket.keys

/-- Each bucket of a list gains its increment. -/
def State.feedAll (s : State) : List Bucket → State
  | [] => s
  | b :: r => (s.tickBucket b.level b.rate b.burst).feedAll r

/-- Each bucket of a list is set by RESET_FILL. -/
def State.fillAll (s : State) (full : Bool) : List Bucket → State
  | [] => s
  | b :: r => (s.fillBucket full b.level b.burst).fillAll full r

/-- What a tick leaves in buckets that gain: the increment of RATE, up to BURST. -/
def State.Gains (s t : State) (bs : List Bucket) : Prop := ∀ b ∈ bs, t.bucket b.level =
  min (s.bucket b.level + (incOf (s.rateOf b.rate) : Nat)) ((s.burstOf b.burst : Int) * fracUnit)

/-- What a tick leaves of a commit: the held words stored and held no longer, and the buckets set by RESET_FILL. -/
def State.Stores (s t : State) (full : Bool) (bs : List Bucket) : Prop := ∀ b ∈ bs,
  (∀ k ∈ b.words, t.reg k = s.heldOr k ∧ t.heldWord k = none) ∧
    t.bucket b.level = if full then (wordBits (s.heldOr b.burst) 23 0 : Int) * fracUnit else 0

theorem Bucket.mem_keys {bs : List Bucket} {b : Bucket} (hb : b ∈ bs) {k : Nat} (hk : k ∈ b.keys) : k ∈ bs.flatMap Bucket.keys :=
  List.mem_flatMap.mpr ⟨b, hb, hk⟩

theorem Bucket.level_mem (b : Bucket) : b.level ∈ b.keys := by simp [Bucket.keys]

theorem Bucket.word_mem {b : Bucket} {k : Nat} (hk : k ∈ b.words) : k ∈ b.keys := List.mem_cons_of_mem _ hk

theorem Bucket.rate_mem (b : Bucket) : b.rate ∈ b.keys := by simp [Bucket.keys, Bucket.words]

theorem Bucket.burst_mem (b : Bucket) : b.burst ∈ b.keys := by simp [Bucket.keys, Bucket.words]

theorem levels_subset (bs : List Bucket) : ∀ k ∈ bs.map Bucket.level, k ∈ bs.flatMap Bucket.keys := by
  intro k hk
  obtain ⟨b, hb, rfl⟩ := List.mem_map.mp hk
  exact Bucket.mem_keys hb b.level_mem

theorem words_subset (bs : List Bucket) : ∀ k ∈ bs.flatMap Bucket.words, k ∈ bs.flatMap Bucket.keys := by
  intro k hk
  obtain ⟨b, hb, hw⟩ := List.mem_flatMap.mp hk
  exact Bucket.mem_keys hb (Bucket.word_mem hw)

/-- No bucket's LEVEL is a RATE or BURST. -/
theorem level_not_word {bs : List Bucket} (hn : (bs.flatMap Bucket.keys).Nodup) :
    ∀ k ∈ bs.flatMap Bucket.words, k ∉ bs.map Bucket.level := by
  induction bs with
  | nil => simp
  | cons b r ih =>
    obtain ⟨-, rest, apart⟩ := List.nodup_append.mp (List.flatMap_cons ▸ hn)
    obtain ⟨own, -⟩ := List.nodup_cons.mp (List.nodup_append.mp (List.flatMap_cons ▸ hn)).1
    intro k hk hm
    rw [List.flatMap_cons, List.mem_append] at hk
    rcases hk with hk | hk <;> rcases List.mem_cons.mp hm with e | hm
    · exact own (e ▸ hk)
    · exact apart k (Bucket.word_mem hk) k (levels_subset r k hm) rfl
    · exact apart k (e ▸ b.level_mem) k (words_subset r k hk) rfl
    · exact ih rest k hk hm

theorem words_nodup {bs : List Bucket} (hn : (bs.flatMap Bucket.keys).Nodup) : (bs.flatMap Bucket.words).Nodup :=
  hn.sublist (List.Sublist.flatMap_right bs (fun b _ => List.sublist_cons_self b.level b.words))

/-- Gains are seen from states that show the same under the buckets' keys. -/
theorem State.Gains.congr {s u t v : State} {bs : List Bucket} (h : u.Gains v bs) (hs : s.Alike u (bs.flatMap Bucket.keys))
    (ht : v.Alike t (bs.flatMap Bucket.keys)) : s.Gains t bs := by
  intro b hb
  have before {k : Nat} (hk : k ∈ b.keys) := hs k (Bucket.mem_keys hb hk)
  rw [State.bucket_of_place (ht _ (Bucket.mem_keys hb b.level_mem)), h b hb, State.bucket_of_place (before b.level_mem),
    State.rateOf_of_place (before b.rate_mem), State.burstOf_of_place (before b.burst_mem)]

/-- A commit is seen from states that show the same under the buckets' keys. -/
theorem State.Stores.congr {s u t v : State} {bs : List Bucket} {full : Bool} (h : u.Stores v full bs)
    (hs : s.Alike u (bs.flatMap Bucket.keys)) (ht : v.Alike t (bs.flatMap Bucket.keys)) : s.Stores t full bs := by
  intro b hb
  obtain ⟨words, level⟩ := h b hb
  have before {k : Nat} (hk : k ∈ b.keys) := hs k (Bucket.mem_keys hb hk)
  have after {k : Nat} (hk : k ∈ b.keys) := ht k (Bucket.mem_keys hb hk)
  refine ⟨fun k hk => ?_, ?_⟩
  · have key := Bucket.word_mem hk
    rw [State.reg_of_place (after key), State.heldWord_of_place (after key), ← State.heldOr_of_place (before key)]
    exact words k hk
  · rw [State.bucket_of_place (after b.level_mem), level, State.heldOr_of_place (before b.burst_mem)]

section
variable (s : State)

theorem State.touches_feedAll (bs : List Bucket) : s.Touches (s.feedAll bs) (bs.map Bucket.level) := by
  induction bs generalizing s with
  | nil => exact State.Touches.refl s _
  | cons b r ih =>
    exact ((s.touches_setBucket b.level _).mono (by simp)).comp ((ih _).mono (fun _ => List.mem_cons_of_mem _))

theorem State.touches_fillAll (full : Bool) (bs : List Bucket) : s.Touches (s.fillAll full bs) (bs.map Bucket.level) := by
  induction bs generalizing s with
  | nil => exact State.Touches.refl s _
  | cons b r ih =>
    exact ((s.touches_setBucket b.level _).mono (by simp)).comp ((ih _).mono (fun _ => List.mem_cons_of_mem _))

theorem State.gains_feedAll {bs : List Bucket} (hn : (bs.flatMap Bucket.keys).Nodup) : s.Gains (s.feedAll bs) bs := by
  induction bs generalizing s with
  | nil => simp [State.Gains]
  | cons b r ih =>
    obtain ⟨-, rest, apart⟩ := List.nodup_append.mp (List.flatMap_cons ▸ hn)
    have foreign : ∀ k ∈ r.flatMap Bucket.keys, k ∉ [b.level] := fun k hk hm =>
      apart b.level b.level_mem k hk (List.mem_singleton.mp hm).symm
    have tail := (ih (s.tickBucket b.level b.rate b.burst) rest).congr ((s.touches_setBucket b.level _).alike foreign)
      (State.Alike.refl _ _)
    have head := ((s.tickBucket b.level b.rate b.burst).touches_feedAll r).place b.level
      (fun hm => apart b.level b.level_mem _ (levels_subset r _ hm) rfl)
    rintro c (_ | ⟨_, hc⟩)
    · exact (State.bucket_of_place head).trans (s.bucket_tickBucket b.level b.rate b.burst)
    · exact tail c hc

theorem State.bucket_fillAll {bs : List Bucket} (hn : (bs.flatMap Bucket.keys).Nodup) (full : Bool) :
    ∀ b ∈ bs, (s.fillAll full bs).bucket b.level = if full then (s.burstOf b.burst : Int) * fracUnit else 0 := by
  induction bs generalizing s with
  | nil => simp
  | cons b r ih =>
    obtain ⟨-, rest, apart⟩ := List.nodup_append.mp (List.flatMap_cons ▸ hn)
    rintro c (_ | ⟨_, hc⟩)
    · have head := ((s.fillBucket full b.level b.burst).touches_fillAll full r).place b.level
        (fun hm => apart b.level b.level_mem _ (levels_subset r _ hm) rfl)
      exact (State.bucket_of_place head).trans (s.bucket_fillBucket full b.level b.burst)
    · have burst := (s.touches_setBucket b.level (if full then (s.burstOf b.burst : Int) * fracUnit else 0)).place c.burst
        (fun hm => apart b.level b.level_mem _ (Bucket.mem_keys hc c.burst_mem) (List.mem_singleton.mp hm).symm)
      rw [← State.burstOf_of_place burst]
      exact ih (s.fillBucket full b.level b.burst) rest c hc

/-- A commit of the held words of a list of buckets, other registers written, and the fill. -/
theorem State.stores_fillAll {bs : List Bucket} (hn : (bs.flatMap Bucket.keys).Nodup) {u : State}
    (hu : (s.commitAll (bs.flatMap Bucket.words)).Alike u (bs.flatMap Bucket.keys)) (full : Bool) :
    s.Stores (u.fillAll full bs) full bs := by
  have stored (b : Bucket) (hb : b ∈ bs) (k : Nat) (hk : k ∈ b.words) : u.reg k = s.heldOr k ∧ u.heldWord k = none := by
    have same := hu k (Bucket.mem_keys hb (Bucket.word_mem hk))
    rw [State.reg_of_place same, State.heldWord_of_place same]
    exact s.commitAll_stores (words_nodup hn) k (List.mem_flatMap.mpr ⟨b, hb, hk⟩)
  intro b hb
  refine ⟨fun k hk => ?_, ?_⟩
  · have kept := (u.touches_fillAll full bs).place k (level_not_word hn k (List.mem_flatMap.mpr ⟨b, hb, hk⟩))
    rw [State.reg_of_place kept, State.heldWord_of_place kept]
    exact stored b hb k hk
  · rw [u.bucket_fillAll hn full b hb, State.burstOf, (stored b hb b.burst (by simp [Bucket.words])).1]

end

end Sys2Proof.Machine
end

section
/-!
SUPPORT. A token tick: the tick of a shaper, a meter or a zone policer reaches the keys of its own entry only, so each entry that
holds something else than its reset value is ticked once, from the state before.
-/

namespace Sys2Proof.Machine

/-! ## One visit of each entry -/

section
variable {f : Nat → State → State} {keys : Nat → List Nat} (hf : ∀ x (s : State), s.Touches (f x s) (keys x))
include hf

theorem forEach_place {k : Nat} {l : List Nat} (hk : ∀ x ∈ l, k ∉ keys x) (s : State) : (forEach l f s).place k = s.place k := by
  induction l generalizing s with
  | nil => rfl
  | cons x r ih =>
    exact (ih (fun y hy => hk y (List.mem_cons_of_mem x hy)) (f x s)).trans ((hf x s).place k (hk x List.mem_cons_self))

theorem forEach_listed {a : Nat} (ha : ∀ x, ∀ k ∈ keys x, k % 0x100000000 ≠ a) (l : List Nat) (s : State) :
    (forEach l f s).listedEntries a = s.listedEntries a :=
  forEach_part l f (fun s => s.listedEntries a) (fun x s => (hf x s).listed a (ha x)) s

variable (hk : ∀ x, ∀ k ∈ keys x, k / 0x100000000 = x)
include hk

/-- The entries that are not visited show what they did. -/
theorem forEach_unvisited {l : List Nat} {q : Nat} (hq : q ∉ l) (s : State) : s.Alike (forEach l f s) (keys q) :=
  fun k hm => forEach_place hf (fun x hx hm' => hq ((hk q k hm).symm.trans (hk x k hm') ▸ hx)) s

/-- An entry that is visited once shows what its own visit left, made from a state that showed what the first one did. -/
theorem forEach_visited {l : List Nat} (hn : l.Nodup) {q : Nat} (hq : q ∈ l) (s : State) :
    ∃ l', s.Alike (forEach l' f s) (keys q) ∧ (f q (forEach l' f s)).Alike (forEach l f s) (keys q) := by
  have appended (a b : List Nat) (s : State) : forEach (a ++ b) f s = forEach b f (forEach a f s) := by
    induction a generalizing s with
    | nil => rfl
    | cons x r ih => exact ih (f x s)
  obtain ⟨a, b, rfl⟩ := List.append_of_mem hq
  obtain ⟨-, rest, apart⟩ := List.nodup_append.mp hn
  refine ⟨a, forEach_unvisited hf hk (fun h => apart q h q List.mem_cons_self rfl) s, ?_⟩
  rw [appended]
  exact forEach_unvisited hf hk (List.nodup_cons.mp rest).1 _

end

/-! ## Entries that are not listed -/

/-- A register behind a window that is 0 after reset reads 0 where its entry is not listed. -/
theorem State.reg_unlisted (s : State) {a e : Nat} (ha : a < 0x100000000)
    (hr : (regAt a).map (fun x => x.1.reset) = some (.const 0)) (he : e ∉ s.listedEntries a) :
    s.reg (a + 0x100000000 * e) = 0 := by
  have absent : ∀ c ∈ s.regs, c.1 ≠ a + 0x100000000 * e := fun c hc same =>
    he (List.mem_filterMap.mpr ⟨c, hc, by rw [if_pos (by omega)]; exact congrArg some (by omega)⟩)
  have unlisted (m : List (Nat × Word)) (hm : ∀ c ∈ m, c.1 ≠ a + 0x100000000 * e) :
      mapGet resetWord m (a + 0x100000000 * e) = resetWord (a + 0x100000000 * e) := by
    induction m with
    | nil => rfl
    | cons c r ih => rw [mapGet, if_neg (hm c List.mem_cons_self), ih (fun d hd => hm d (List.mem_cons_of_mem c hd))]
  rw [State.reg, unlisted s.regs absent, resetWord, show (a + 0x100000000 * e) % 0x100000000 = a by omega]
  obtain ⟨⟨d, i⟩, here, reset⟩ := Option.map_eq_some_iff.mp hr
  simp only [here]
  split
  · rw [show d.reset = .const 0 from reset]; rfl
  · rfl

theorem State.flag_of_reg_zero {s : State} {f : Fld} (h : s.reg f.key = 0) : s.flag f = false := by
  rw [State.flag, h]
  exact Nat.zero_testBit _

theorem shpCtrl_reset : (regAt 0x100018).map (fun x => x.1.reset) = some (.const 0) := by decide
theorem mtrCtrl_reset : (regAt 0x100218).map (fun x => x.1.reset) = some (.const 0) := by decide
theorem zpolCtrl_reset : (regAt 0x20080C).map (fun x => x.1.reset) = some (.const 0) := by decide
theorem strmFilter_reset : (regAt 0x100204).map (fun x => x.1.reset) = some (.const 0) := by decide

/-! ## The shapers' queues, the meters' streams and the zone policers -/

/-- C and P of a queue's shaper (R175). -/
def shaperBuckets (q : Nat) : List Bucket :=
  [⟨K.SHP_C_LEVEL q, K.SHP_CIR q, K.SHP_CBS q⟩, ⟨K.SHP_P_LEVEL q, K.SHP_PIR q, K.SHP_PBS q⟩]

/-- The bucket of a zone policer (spec/10, R295). -/
def policerBuckets (i : Nat) : List Bucket := [⟨K.ZPOL_LEVEL i, K.ZPOL_RATE i, K.ZPOL_BURST i⟩]

/-- C and P of a stream's meter (R180). -/
def meterBuckets (i : Nat) : List Bucket :=
  [⟨K.MTR_C_LEVEL i, K.MTR_CIR i, K.MTR_CBS i⟩, ⟨K.MTR_P_LEVEL i, K.MTR_PIR i, K.MTR_PBS i⟩]

/-- The keys a meter's tick reads or writes. -/
def meterKeys (i : Nat) : List Nat := K.STRM_WIN_FILTER i :: unitKeys (K.MTR_CTRL i) (meterBuckets i)

theorem ctrl_mem_unitKeys {ctrl : Nat} {bs : List Bucket} : ctrl ∈ unitKeys ctrl bs := List.mem_cons_self

theorem bucketKeys_mem_unitKeys {ctrl : Nat} {bs : List Bucket} : ∀ k ∈ bs.flatMap Bucket.keys, k ∈ unitKeys ctrl bs :=
  fun _ => List.mem_cons_of_mem _

theorem mtrCtrl_mem (i : Nat) : K.MTR_CTRL i ∈ meterKeys i := List.mem_cons_of_mem _ List.mem_cons_self

theorem strmFilter_mem (i : Nat) : K.STRM_WIN_FILTER i ∈ meterKeys i := List.mem_cons_self

theorem meterBucketKeys_mem (i : Nat) : ∀ k ∈ (meterBuckets i).flatMap Bucket.keys, k ∈ meterKeys i :=
  fun k hk => List.mem_cons_of_mem _ (bucketKeys_mem_unitKeys k hk)

theorem meterKeys_nodup (i : Nat) : (unitKeys (K.MTR_CTRL i) (meterBuckets i)).Nodup := by
  simp [unitKeys, meterBuckets, Bucket.keys, Bucket.words, K.MTR_CTRL, K.MTR_C_LEVEL, K.MTR_CIR, K.MTR_CBS, K.MTR_P_LEVEL,
    K.MTR_PIR, K.MTR_PBS]

theorem shaperKeys_nodup (q : Nat) : (unitKeys (K.SHP_CTRL q) (shaperBuckets q)).Nodup := by
  simp [unitKeys, shaperBuckets, Bucket.keys, Bucket.words, K.SHP_CTRL, K.SHP_C_LEVEL, K.SHP_CIR, K.SHP_CBS, K.SHP_P_LEVEL,
    K.SHP_PIR, K.SHP_PBS]

theorem policerKeys_nodup (i : Nat) : (unitKeys (K.ZPOL_CTRL i) (policerBuckets i)).Nodup := by
  simp [unitKeys, policerBuckets, Bucket.keys, Bucket.words, K.ZPOL_CTRL, K.ZPOL_LEVEL, K.ZPOL_RATE, K.ZPOL_BURST]

/-- The keys of a shaper name its queue and lie in the shaper window. -/
theorem shaperKeys_place (q : Nat) : ∀ k ∈ unitKeys (K.SHP_CTRL q) (shaperBuckets q),
    k / 0x100000000 = q ∧ 0x100008 ≤ k % 0x100000000 ∧ k % 0x100000000 ≤ 0x100020 := by
  simp only [unitKeys, shaperBuckets, Bucket.keys, Bucket.words, K.SHP_CTRL, K.SHP_C_LEVEL, K.SHP_CIR, K.SHP_CBS, K.SHP_P_LEVEL,
    K.SHP_PIR, K.SHP_PBS, List.flatMap_cons, List.flatMap_nil, List.cons_append, List.nil_append, List.append_nil,
    List.forall_mem_cons, List.not_mem_nil, false_imp_iff, implies_true, and_true]
  omega

/-- The keys of a meter name its stream and lie in the stream window. -/
theorem meterKeys_place (i : Nat) : ∀ k ∈ meterKeys i,
    k / 0x100000000 = i ∧ 0x100204 ≤ k % 0x100000000 ∧ k % 0x100000000 ≤ 0x100220 := by
  simp only [meterKeys, unitKeys, meterBuckets, Bucket.keys, Bucket.words, K.STRM_WIN_FILTER, K.MTR_CTRL, K.MTR_C_LEVEL, K.MTR_CIR,
    K.MTR_CBS, K.MTR_P_LEVEL, K.MTR_PIR, K.MTR_PBS, List.flatMap_cons, List.flatMap_nil, List.cons_append, List.nil_append,
    List.append_nil, List.forall_mem_cons, List.not_mem_nil, false_imp_iff, implies_true, and_true]
  omega

/-- The keys of a zone policer name it and lie in the policers' window. -/
theorem policerKeys_place (i : Nat) : ∀ k ∈ unitKeys (K.ZPOL_CTRL i) (policerBuckets i),
    k / 0x100000000 = i ∧ 0x200804 ≤ k % 0x100000000 ∧ k % 0x100000000 ≤ 0x200810 := by
  simp only [unitKeys, policerBuckets, Bucket.keys, Bucket.words, K.ZPOL_CTRL, K.ZPOL_LEVEL, K.ZPOL_RATE, K.ZPOL_BURST,
    List.flatMap_cons, List.flatMap_nil, List.append_nil, List.forall_mem_cons, List.not_mem_nil,
    false_imp_iff, implies_true, and_true]
  omega

/-! ## Shapers and zone policers: one control register with EN, RESET_FILL and PENDING -/

theorem State.flag_setFld_bits (s : State) {f g : Fld} (v : Nat) (hk : f.key = g.key) (hf : f.hi = f.lo) (hf' : f.hi < 32)
    (hg : g.hi = g.lo) (hne : f.lo ≠ g.lo) : (s.setFld f v).flag g = s.flag g := by
  rw [State.flag_eq _ _ hg, State.flag_eq _ _ hg, State.fld_setFld_bits s f g v hk (by omega) hf' (by omega) (by omega)]

/-- A held EN takes effect. -/
def State.takeEn (s : State) (ctrl : Nat) : State :=
  match s.heldWord ctrl with
  | some w => (s.setFld ⟨ctrl, 1, 1⟩ (wordBits w 1 1)).unhold ctrl
  | none => s

/-- The held words under a control register take effect. -/
def State.takeUnit (s : State) (ctrl : Nat) (bs : List Bucket) : State :=
  (s.commitAll (bs.flatMap Bucket.words)).takeEn ctrl

/-- The tick of the buckets under a control register: a commit in place of the increment, else the increment where EN is set. -/
def State.tickUnit (s : State) (ctrl : Nat) (bs : List Bucket) : State :=
  if s.flag ⟨ctrl, 4, 4⟩ then
    ((s.takeUnit ctrl bs).fillAll ((s.takeUnit ctrl bs).flag ⟨ctrl, 2, 2⟩) bs).setFld ⟨ctrl, 4, 4⟩ 0
  else if s.flag ⟨ctrl, 1, 1⟩ then s.feedAll bs
  else s

theorem tickShaper_eq (q : Nat) (s : State) : s.tickShaper q = s.tickUnit (K.SHP_CTRL q) (shaperBuckets q) := rfl

theorem tickPolicer_eq (i : Nat) (s : State) : s.tickPolicer i = s.tickUnit (K.ZPOL_CTRL i) (policerBuckets i) := rfl

/-- What a tick leaves of the buckets under a control register: the three clauses of R176 and R182. -/
structure State.UnitTicked (s t : State) (ctrl : Nat) (bs : List Bucket) : Prop where
  commits : s.flag ⟨ctrl, 4, 4⟩ = true → t.flag ⟨ctrl, 4, 4⟩ = false ∧ s.Stores t (s.flag ⟨ctrl, 2, 2⟩) bs
  gains : s.flag ⟨ctrl, 4, 4⟩ = false → s.flag ⟨ctrl, 1, 1⟩ = true → s.Gains t bs
  rests : s.flag ⟨ctrl, 4, 4⟩ = false → s.flag ⟨ctrl, 1, 1⟩ = false → s.Alike t (unitKeys ctrl bs)

section
variable {ctrl : Nat} {bs : List Bucket}

/-- What a tick left is seen from states that show the same under the unit's keys. -/
theorem State.UnitTicked.congr {s u t v : State} (h : u.UnitTicked v ctrl bs) (hs : s.Alike u (unitKeys ctrl bs))
    (ht : v.Alike t (unitKeys ctrl bs)) : s.UnitTicked t ctrl bs := by
  have before (hi lo : Nat) : s.flag ⟨ctrl, hi, lo⟩ = u.flag ⟨ctrl, hi, lo⟩ := (hs.flag ctrl_mem_unitKeys).symm
  have after (hi lo : Nat) : t.flag ⟨ctrl, hi, lo⟩ = v.flag ⟨ctrl, hi, lo⟩ := ht.flag ctrl_mem_unitKeys
  have hs' := hs.mono bucketKeys_mem_unitKeys
  have ht' := ht.mono bucketKeys_mem_unitKeys
  constructor
  · intro hp
    obtain ⟨cleared, stored⟩ := h.commits (before 4 4 ▸ hp)
    exact ⟨(after 4 4).trans cleared, before 2 2 ▸ stored.congr hs' ht'⟩
  · intro hp he
    exact (h.gains (before 4 4 ▸ hp) (before 1 1 ▸ he)).congr hs' ht'
  · intro hp he
    exact (hs.trans (h.rests (before 4 4 ▸ hp) (before 1 1 ▸ he))).trans ht

variable (s : State)

theorem State.touches_takeEn (ctrl : Nat) : s.Touches (s.takeEn ctrl) [ctrl] := by
  unfold State.takeEn
  split
  · exact (s.touches_setFld ⟨ctrl, 1, 1⟩ _).comp (State.touches_unhold _ ctrl)
  · exact State.Touches.refl s _

theorem State.flag_takeEn (ctrl : Nat) {b : Nat} (hb : 1 ≠ b) : (s.takeEn ctrl).flag ⟨ctrl, b, b⟩ = s.flag ⟨ctrl, b, b⟩ := by
  unfold State.takeEn
  split
  · exact s.flag_setFld_bits (f := ⟨ctrl, 1, 1⟩) _ rfl rfl (by decide : 1 < 32) rfl hb
  · rfl

theorem State.touches_tickUnit (ctrl : Nat) (bs : List Bucket) : s.Touches (s.tickUnit ctrl bs) (unitKeys ctrl bs) := by
  have levels : ∀ k ∈ bs.map Bucket.level, k ∈ unitKeys ctrl bs := fun k hk => bucketKeys_mem_unitKeys k (levels_subset bs k hk)
  have words : ∀ k ∈ bs.flatMap Bucket.words, k ∈ unitKeys ctrl bs := fun k hk => bucketKeys_mem_unitKeys k (words_subset bs k hk)
  have own : ∀ k ∈ [ctrl], k ∈ unitKeys ctrl bs := by simp [unitKeys]
  unfold State.tickUnit
  split
  · exact (((s.touches_commitAll _).mono words).comp ((State.touches_takeEn _ ctrl).mono own)).comp
      (((State.touches_fillAll _ _ bs).mono levels).comp ((State.touches_setFld _ ⟨ctrl, 4, 4⟩ 0).mono own))
  · split
    · exact (s.touches_feedAll bs).mono levels
    · exact State.Touches.refl s _

theorem State.tickUnit_ticks (hn : (unitKeys ctrl bs).Nodup) : s.UnitTicked (s.tickUnit ctrl bs) ctrl bs := by
  obtain ⟨apart, distinct⟩ := List.nodup_cons.mp hn
  have foreign : ∀ k ∈ bs.flatMap Bucket.keys, k ∉ [ctrl] := fun k hk hm => apart (List.mem_singleton.mp hm ▸ hk)
  have own : ∀ k ∈ [ctrl], k ∉ bs.flatMap Bucket.keys := by simpa using apart
  constructor
  · intro hp
    have fill : (s.takeUnit ctrl bs).flag ⟨ctrl, 2, 2⟩ = s.flag ⟨ctrl, 2, 2⟩ :=
      (State.flag_takeEn _ ctrl (by decide)).trans
        (((s.touches_commitAll _).mono (words_subset bs)).alike own |>.flag List.mem_cons_self)
    have run : s.tickUnit ctrl bs = ((s.takeUnit ctrl bs).fillAll (s.flag ⟨ctrl, 2, 2⟩) bs).setFld ⟨ctrl, 4, 4⟩ 0 := by
      rw [← fill]
      exact if_pos hp
    rw [run]
    exact ⟨State.flag_setFld_same _ ⟨ctrl, 4, 4⟩ 0 rfl (by decide : 4 < 32),
      (s.stores_fillAll distinct ((State.touches_takeEn _ ctrl).alike foreign) _).congr (State.Alike.refl s _)
        ((State.touches_setFld _ ⟨ctrl, 4, 4⟩ 0).alike foreign)⟩
  · intro hp he
    simp only [State.tickUnit, hp, he, Bool.false_eq_true, if_false, if_true]
    exact s.gains_feedAll distinct
  · intro hp he
    simp only [State.tickUnit, hp, he, Bool.false_eq_true, if_false]
    exact State.Alike.refl s _

end

/-- A visit of every listed entry ticks the unit of each entry, listed or not. -/
theorem forEach_ticksUnits {a : Nat} {bs : Nat → List Bucket} {f : Nat → State → State} (ha : a < 0x100000000)
    (hf : ∀ x s, f x s = s.tickUnit (a + 0x100000000 * x) (bs x))
    (hk : ∀ x, ∀ k ∈ unitKeys (a + 0x100000000 * x) (bs x), k / 0x100000000 = x)
    (hd : ∀ x, (unitKeys (a + 0x100000000 * x) (bs x)).Nodup)
    (hr : (regAt a).map (fun x => x.1.reset) = some (.const 0)) (s : State) (hn : (s.listedEntries a).Nodup) (q : Nat) :
    s.UnitTicked (forEach (s.listedEntries a) f s) (a + 0x100000000 * q) (bs q) := by
  have touches (x : Nat) (s : State) : s.Touches (f x s) (unitKeys (a + 0x100000000 * x) (bs x)) :=
    hf x s ▸ s.touches_tickUnit _ _
  by_cases hq : q ∈ s.listedEntries a
  · obtain ⟨l, before, after⟩ := forEach_visited touches hk hn hq s
    exact (hf q _ ▸ State.tickUnit_ticks _ (hd q)).congr before after
  · have clear (hi lo : Nat) : s.flag ⟨a + 0x100000000 * q, hi, lo⟩ = false := State.flag_of_reg_zero (s.reg_unlisted ha hr hq)
    exact ⟨fun h => absurd ((clear 4 4).symm.trans h) (by decide), fun _ h => absurd ((clear 1 1).symm.trans h) (by decide),
      fun _ _ => forEach_unvisited touches hk hq s⟩

/-! ## Meters (R182, R183) -/

/-- A meter that METER_EN started waits for no tick any more. -/
def State.endStart (s : State) (i : Nat) : State :=
  { s with data := { s.data with meterStart := s.data.meterStart.filter (fun k => k != i) } }

/-- The held words of a meter take effect. -/
def State.takeMeter (s : State) (i : Nat) : State :=
  ((s.commitAll ((meterBuckets i).flatMap Bucket.words)).setFld (F.MTR_CTRL_PENDING i) 0).endStart i

/-- What a tick leaves of a meter: a commit, or the increment where METER_EN is set and has not just been. -/
structure State.MeterTicked (s t : State) (i : Nat) : Prop where
  commits : s.flag (F.MTR_CTRL_PENDING i) = true →
    t.flag (F.MTR_CTRL_PENDING i) = false ∧ s.Stores t (s.flag (F.MTR_CTRL_RESET_FILL i)) (meterBuckets i)
  gains : s.flag (F.MTR_CTRL_PENDING i) = false → s.data.meterStart.contains i = false →
    s.flag (F.STRM_WIN_FILTER_METER_EN i) = true → s.Gains t (meterBuckets i)

/-- What a tick left of a meter is seen from states that show the same under its keys. -/
theorem State.MeterTicked.congr {s u t v : State} {i : Nat} (h : u.MeterTicked v i) (hs : s.Alike u (meterKeys i))
    (hm : s.data.meterStart.contains i = false → u.data.meterStart.contains i = false)
    (ht : v.Alike t (meterKeys i)) : s.MeterTicked t i := by
  have pending : u.flag (F.MTR_CTRL_PENDING i) = s.flag (F.MTR_CTRL_PENDING i) := hs.flag (mtrCtrl_mem i)
  have fill : u.flag (F.MTR_CTRL_RESET_FILL i) = s.flag (F.MTR_CTRL_RESET_FILL i) := hs.flag (mtrCtrl_mem i)
  have en : u.flag (F.STRM_WIN_FILTER_METER_EN i) = s.flag (F.STRM_WIN_FILTER_METER_EN i) := hs.flag (strmFilter_mem i)
  have hs' := hs.mono (meterBucketKeys_mem i)
  have ht' := ht.mono (meterBucketKeys_mem i)
  constructor
  · intro hp
    obtain ⟨cleared, stored⟩ := h.commits (pending.trans hp)
    exact ⟨(ht.flag (mtrCtrl_mem i)).trans cleared, fill ▸ stored.congr hs' ht'⟩
  · intro hp hc he
    exact (h.gains (pending.trans hp) (hm hc) (en.trans he)).congr hs' ht'

section
variable (s : State) (i : Nat)

theorem State.touches_endStart (ks : List Nat) : s.Touches (s.endStart i) ks := ⟨fun _ _ => rfl, fun _ _ => rfl⟩

theorem State.tickMeter_pending (h : s.flag (F.MTR_CTRL_PENDING i) = true) : s.tickMeter i =
    (s.takeMeter i).fillAll ((s.takeMeter i).flag (F.MTR_CTRL_RESET_FILL i)) (meterBuckets i) := by
  simp only [State.tickMeter, h, if_true, Bool.true_or]
  rfl

theorem State.tickMeter_start (h : s.flag (F.MTR_CTRL_PENDING i) = false) (hm : s.data.meterStart.contains i = true) :
    s.tickMeter i = (s.endStart i).fillAll ((s.endStart i).flag (F.MTR_CTRL_RESET_FILL i)) (meterBuckets i) := by
  simp only [State.tickMeter, h, hm, Bool.false_eq_true, if_false, Bool.or_true, if_true]
  rfl

theorem State.tickMeter_plain (h : s.flag (F.MTR_CTRL_PENDING i) = false) (hm : s.data.meterStart.contains i = false) :
    s.tickMeter i = if s.flag (F.STRM_WIN_FILTER_METER_EN i) then (s.endStart i).feedAll (meterBuckets i) else s.endStart i := by
  simp only [State.tickMeter, h, hm, Bool.false_eq_true, if_false, Bool.or_false]
  rfl

theorem State.touches_takeMeter : s.Touches (s.takeMeter i) (meterKeys i) :=
  (((s.touches_commitAll _).mono (fun k hk => meterBucketKeys_mem i k (words_subset _ k hk))).comp
    ((State.touches_setFld _ (F.MTR_CTRL_PENDING i) 0).mono (fun _ hk => List.mem_singleton.mp hk ▸ mtrCtrl_mem i))).comp
    (State.touches_endStart _ i _)

theorem State.touches_tickMeter : s.Touches (s.tickMeter i) (meterKeys i) := by
  have levels : ∀ k ∈ (meterBuckets i).map Bucket.level, k ∈ meterKeys i :=
    fun k hk => meterBucketKeys_mem i k (levels_subset _ k hk)
  cases hp : s.flag (F.MTR_CTRL_PENDING i)
  · cases hm : s.data.meterStart.contains i
    · rw [s.tickMeter_plain i hp hm]
      split
      · exact (s.touches_endStart i _).comp ((State.touches_feedAll _ _).mono levels)
      · exact s.touches_endStart i _
    · rw [s.tickMeter_start i hp hm]
      exact (s.touches_endStart i _).comp ((State.touches_fillAll _ _ _).mono levels)
  · rw [s.tickMeter_pending i hp]
    exact (s.touches_takeMeter i).comp ((State.touches_fillAll _ _ _).mono levels)

theorem State.tickMeter_ticks : s.MeterTicked (s.tickMeter i) i := by
  obtain ⟨apart, distinct⟩ := List.nodup_cons.mp (meterKeys_nodup i)
  have foreign : ∀ k ∈ (meterBuckets i).flatMap Bucket.keys, k ∉ [K.MTR_CTRL i] :=
    fun k hk hm => apart (List.mem_singleton.mp hm ▸ hk)
  have own : ∀ k ∈ [K.MTR_CTRL i], k ∉ (meterBuckets i).flatMap Bucket.keys := by simpa using apart
  constructor
  · intro hp
    have words : (s.commitAll ((meterBuckets i).flatMap Bucket.words)).Alike (s.takeMeter i) ((meterBuckets i).flatMap Bucket.keys) :=
      ((State.touches_setFld _ (F.MTR_CTRL_PENDING i) 0).comp (State.touches_endStart _ i _)).alike foreign
    have fill : (s.takeMeter i).flag (F.MTR_CTRL_RESET_FILL i) = s.flag (F.MTR_CTRL_RESET_FILL i) :=
      (State.flag_setFld_bits _ (f := F.MTR_CTRL_PENDING i) (g := F.MTR_CTRL_RESET_FILL i) 0 rfl rfl (by decide : 3 < 32) rfl
        (by decide : 3 ≠ 1)).trans
        (((s.touches_commitAll _).mono (words_subset _)).alike own |>.flag List.mem_cons_self)
    have cleared : (s.takeMeter i).flag (F.MTR_CTRL_PENDING i) = false :=
      State.flag_setFld_same _ (F.MTR_CTRL_PENDING i) 0 rfl (by decide : 3 < 32)
    rw [s.tickMeter_pending i hp, fill]
    exact ⟨((((s.takeMeter i).touches_fillAll _ _).mono (levels_subset _)).alike own |>.flag List.mem_cons_self).trans cleared,
      s.stores_fillAll distinct words _⟩
  · intro hp hm he
    rw [s.tickMeter_plain i hp hm, if_pos he]
    exact ((s.endStart i).gains_feedAll distinct).congr ((s.touches_endStart i []).alike (by simp)) (State.Alike.refl _ _)

/-! ## Meters that wait for their start -/

theorem State.feedAll_meterStart (bs : List Bucket) : (s.feedAll bs).data.meterStart = s.data.meterStart := by
  induction bs generalizing s with
  | nil => rfl
  | cons b r ih => exact ih (s.tickBucket b.level b.rate b.burst)

theorem State.fillAll_meterStart (full : Bool) (bs : List Bucket) : (s.fillAll full bs).data.meterStart = s.data.meterStart := by
  induction bs generalizing s with
  | nil => rfl
  | cons b r ih => exact ih (s.fillBucket full b.level b.burst)

theorem State.commitAll_data (l : List Nat) : (s.commitAll l).data = s.data := by
  induction l generalizing s with
  | nil => rfl
  | cons k r ih => exact ih (s.commitHeld k)

theorem State.takeEn_data (ctrl : Nat) : (s.takeEn ctrl).data = s.data := by unfold State.takeEn; split <;> rfl

theorem State.tickUnit_meterStart (ctrl : Nat) (bs : List Bucket) :
    (s.tickUnit ctrl bs).data.meterStart = s.data.meterStart := by
  unfold State.tickUnit
  split
  · rw [State.setFld_data, State.fillAll_meterStart, State.takeUnit, State.takeEn_data, State.commitAll_data]
  · split
    · exact s.feedAll_meterStart bs
    · rfl

theorem State.tickMeter_meterStart :
    (s.tickMeter i).data.meterStart = s.data.meterStart.filter (fun k => k != i) := by
  cases hp : s.flag (F.MTR_CTRL_PENDING i)
  · cases hm : s.data.meterStart.contains i
    · rw [s.tickMeter_plain i hp hm]
      split
      · exact State.feedAll_meterStart _ _
      · rfl
    · rw [s.tickMeter_start i hp hm]
      exact State.fillAll_meterStart _ _ _
  · rw [s.tickMeter_pending i hp, State.fillAll_meterStart]
    exact congrArg (fun d : DataSt => d.meterStart.filter (fun k => k != i)) (s.commitAll_data _)

end

/-- A meter that waits for no start waits for none after the ticks of others. -/
theorem forEach_tickMeter_starts (l : List Nat) (s : State) {i : Nat} (h : s.data.meterStart.contains i = false) :
    (forEach l State.tickMeter s).data.meterStart.contains i = false := by
  induction l generalizing s with
  | nil => exact h
  | cons j r ih =>
    refine ih (s.tickMeter j) ?_
    rw [s.tickMeter_meterStart j]
    simp only [List.contains_eq_mem, decide_eq_false_iff_not, List.mem_filter] at h ⊢
    exact fun hi => h hi.1

/-! ## The tick -/

/-- The three rounds of a tick. -/
def State.tickShapers (s : State) : State := forEach (s.listedEntries (K.SHP_CTRL 0)) State.tickShaper s
def State.tickMeters (s : State) : State := forEach s.meterList State.tickMeter s
def State.tickPolicers (s : State) : State := forEach (s.listedEntries (K.ZPOL_CTRL 0)) State.tickPolicer s

section
variable (s : State)

theorem State.tick_rounds : s.tick = s.tickShapers.tickMeters.tickPolicers := rfl

theorem State.touches_tickShaper (q : Nat) (s : State) :
    s.Touches (s.tickShaper q) (unitKeys (K.SHP_CTRL q) (shaperBuckets q)) :=
  tickShaper_eq q s ▸ s.touches_tickUnit (K.SHP_CTRL q) (shaperBuckets q)

theorem State.touches_tickPolicer (i : Nat) (s : State) :
    s.Touches (s.tickPolicer i) (unitKeys (K.ZPOL_CTRL i) (policerBuckets i)) :=
  tickPolicer_eq i s ▸ s.touches_tickUnit (K.ZPOL_CTRL i) (policerBuckets i)

theorem State.tickShapers_ticks (hn : (s.listedEntries (K.SHP_CTRL 0)).Nodup) (q : Nat) :
    s.UnitTicked s.tickShapers (K.SHP_CTRL q) (shaperBuckets q) :=
  forEach_ticksUnits (a := 0x100018) (by decide) (fun x s => tickShaper_eq x s) (fun x k hk => (shaperKeys_place x k hk).1)
    shaperKeys_nodup shpCtrl_reset s hn q

theorem State.tickPolicers_ticks (hn : (s.listedEntries (K.ZPOL_CTRL 0)).Nodup) (i : Nat) :
    s.UnitTicked s.tickPolicers (K.ZPOL_CTRL i) (policerBuckets i) :=
  forEach_ticksUnits (a := 0x20080C) (by decide) (fun x s => tickPolicer_eq x s) (fun x k hk => (policerKeys_place x k hk).1)
    policerKeys_nodup zpolCtrl_reset s hn i

theorem State.mem_meterList (i : Nat) : i ∈ s.meterList ↔
    i ∈ s.listedEntries (K.STRM_WIN_FILTER 0) ∨ i ∈ s.listedEntries (K.MTR_CTRL 0) ∨ i ∈ s.data.meterStart := by
  simp only [State.meterList, List.mem_append, List.mem_filter, Bool.and_eq_true, Bool.not_eq_true', List.contains_eq_mem,
    decide_eq_false_iff_not]
  tauto

theorem State.tickMeters_ticks (hn : s.meterList.Nodup) (i : Nat) : s.MeterTicked s.tickMeters i := by
  by_cases hi : i ∈ s.meterList
  · obtain ⟨l, before, after⟩ := forEach_visited (fun x s => s.touches_tickMeter x) (fun x k hk => (meterKeys_place x k hk).1)
      hn hi s
    exact (State.tickMeter_ticks _ i).congr before (forEach_tickMeter_starts l s) after
  · simp only [s.mem_meterList i, not_or] at hi
    obtain ⟨noFilter, noCtrl, -⟩ := hi
    have pending : s.flag (F.MTR_CTRL_PENDING i) = false :=
      State.flag_of_reg_zero (s.reg_unlisted (by decide) mtrCtrl_reset noCtrl)
    have en : s.flag (F.STRM_WIN_FILTER_METER_EN i) = false :=
      State.flag_of_reg_zero (s.reg_unlisted (by decide) strmFilter_reset noFilter)
    exact ⟨fun h => absurd (pending.symm.trans h) (by decide), fun _ _ h => absurd (en.symm.trans h) (by decide)⟩

/-! ## What a round leaves alone -/

theorem State.tickShapers_place {k : Nat} (hk : ¬(0x100008 ≤ k % 0x100000000 ∧ k % 0x100000000 ≤ 0x100020)) :
    s.tickShapers.place k = s.place k :=
  forEach_place State.touches_tickShaper (fun x _ hm => hk (shaperKeys_place x k hm).2) s

theorem State.tickMeters_place {k : Nat} (hk : ¬(0x100204 ≤ k % 0x100000000 ∧ k % 0x100000000 ≤ 0x100220)) :
    s.tickMeters.place k = s.place k :=
  forEach_place (fun x s => s.touches_tickMeter x) (fun x _ hm => hk (meterKeys_place x k hm).2) s

theorem State.tickPolicers_place {k : Nat} (hk : ¬(0x200804 ≤ k % 0x100000000 ∧ k % 0x100000000 ≤ 0x200810)) :
    s.tickPolicers.place k = s.place k :=
  forEach_place State.touches_tickPolicer (fun x _ hm => hk (policerKeys_place x k hm).2) s

theorem State.tickShapers_listed {a : Nat} (ha : 0x100020 < a) : s.tickShapers.listedEntries a = s.listedEntries a :=
  forEach_listed State.touches_tickShaper (fun x k hk => by have := shaperKeys_place x k hk; omega) _ s

theorem State.tickMeters_listed {a : Nat} (ha : 0x100220 < a) : s.tickMeters.listedEntries a = s.listedEntries a :=
  forEach_listed (fun x s => s.touches_tickMeter x) (fun x k hk => by have := meterKeys_place x k hk; omega) _ s

theorem State.tickShapers_meterStart : s.tickShapers.data.meterStart = s.data.meterStart :=
  forEach_part _ _ (fun s => s.data.meterStart) (fun q s => s.tickUnit_meterStart (K.SHP_CTRL q) (shaperBuckets q)) s

theorem State.tickShapers_meterList : s.tickShapers.meterList = s.meterList := by
  simp only [State.meterList, s.tickShapers_meterStart, s.tickShapers_listed (a := K.STRM_WIN_FILTER 0) (by decide),
    s.tickShapers_listed (a := K.MTR_CTRL 0) (by decide)]

/-! ## The whole tick -/

theorem State.tick_shaper (hn : (s.listedEntries (K.SHP_CTRL 0)).Nodup) (q : Nat) :
    s.UnitTicked s.tick (K.SHP_CTRL q) (shaperBuckets q) := by
  refine (s.tickShapers_ticks hn q).congr (State.Alike.refl s _) (fun k hk => ?_)
  have window := shaperKeys_place q k hk
  rw [s.tick_rounds, State.tickPolicers_place _ (by omega), State.tickMeters_place _ (by omega)]

theorem State.tick_meter (hn : s.meterList.Nodup) (i : Nat) : s.MeterTicked s.tick i := by
  refine (s.tickShapers.tickMeters_ticks (s.tickShapers_meterList.symm ▸ hn) i).congr (fun k hk => ?_)
    (fun h => s.tickShapers_meterStart.symm ▸ h) (fun k hk => ?_)
  all_goals have window := meterKeys_place i k hk
  · exact s.tickShapers_place (by omega)
  · rw [s.tick_rounds, State.tickPolicers_place _ (by omega)]

theorem State.tick_policer (hn : (s.listedEntries (K.ZPOL_CTRL 0)).Nodup) (i : Nat) :
    s.UnitTicked s.tick (K.ZPOL_CTRL i) (policerBuckets i) := by
  have listed : s.tickShapers.tickMeters.listedEntries (K.ZPOL_CTRL 0) = s.listedEntries (K.ZPOL_CTRL 0) := by
    rw [State.tickMeters_listed _ (by decide), State.tickShapers_listed _ (by decide)]
  refine (State.tickPolicers_ticks _ (listed.symm ▸ hn) i).congr (fun k hk => ?_) (State.Alike.refl _ _)
  have window := policerKeys_place i k hk
  exact (s.tickShapers.tickMeters_place (by omega)).trans (s.tickShapers_place (by omega))

end

end Sys2Proof.Machine
end

section
/-!
SUPPORT. `Obligations.TicksFeedAndCommitBuckets`: what TOKEN_TICK and the three COMMIT commands answer.
-/

namespace Sys2Proof.Machine

section
variable (s : State)

/-! ## TOKEN_TICK -/

theorem exec_tokenTick_ticks (hl : s.linked = true) (hq : (s.listedEntries (K.SHP_CTRL 0)).Nodup)
    (hz : (s.listedEntries (K.ZPOL_CTRL 0)).Nodup) (hm : s.meterList.Nodup) :
    ∃ t, exec .tokenTick s = .next t ∧ s.Only t [.regs, .held, .data] ∧
      (∀ q, s.UnitTicked t (K.SHP_CTRL q) (shaperBuckets q)) ∧ (∀ i, s.MeterTicked t i) ∧
      (∀ i, s.UnitTicked t (K.ZPOL_CTRL i) (policerBuckets i)) := by
  have same (ks : List Nat) : s.tick.Alike (s.confine [.regs, .held, .data] s.tick) ks := fun _ _ => rfl
  exact ⟨_, exec_tokenTick s hl, s.only_confine _ _, fun q => (s.tick_shaper hq q).congr (State.Alike.refl s _) (same _),
    fun i => (s.tick_meter hm i).congr (State.Alike.refl s _) id (same _),
    fun i => (s.tick_policer hz i).congr (State.Alike.refl s _) (same _)⟩

/-! ## COMMIT (R182) -/

/-- A COMMIT leaves PENDING set, and sets ERR_BUSY where one was pending. -/
theorem State.requestCommit_answers (ctrl p b : Nat) (hp : p < 32) (hb : b < 32) (hne : p ≠ b) :
    let t := s.requestCommit ⟨ctrl, p, p⟩ ⟨ctrl, b, b⟩
    s.RegsBut t [ctrl] ∧ s.Only t [.regs] ∧ t.flag ⟨ctrl, p, p⟩ = true ∧
      (t.flag ⟨ctrl, b, b⟩ = true ↔ s.flag ⟨ctrl, b, b⟩ = true ∨ s.flag ⟨ctrl, p, p⟩ = true) := by
  unfold State.requestCommit
  cases pending : s.flag ⟨ctrl, p, p⟩
  · refine ⟨s.regsBut_setFld _ _, rfl, s.flag_setFld_same ⟨ctrl, p, p⟩ 1 rfl hp, ?_⟩
    have busy := s.flag_setFld_bits (f := ⟨ctrl, p, p⟩) (g := ⟨ctrl, b, b⟩) 1 rfl rfl hp rfl hne
    simp [busy]
  · refine ⟨s.regsBut_setFld _ _, rfl, ?_, ?_⟩
    · exact (s.flag_setFld_bits (f := ⟨ctrl, b, b⟩) (g := ⟨ctrl, p, p⟩) 1 rfl rfl hb rfl hne.symm).trans pending
    · have busy := s.flag_setFld_same ⟨ctrl, b, b⟩ 1 rfl hb
      simp [busy]

theorem State.winHere_shaper : s.winHere 0x100018 = decide (s.fld F.SCH_QUE_INDEX_INDEX < 280) := by
  have here : regAt 0x100018 = some (⟨0x100018, 1, 0x0, 280, 0x6, 0x8, 0x1, 0x10, .const 0x0⟩, 0) := by decide
  have index : s.winIndex 0x100018 = s.fld F.SCH_QUE_INDEX_INDEX := rfl
  simp only [State.winHere, State.regHere, here, index]
  by_cases h : s.fld F.SCH_QUE_INDEX_INDEX < 280 <;> simp [h]

theorem exec_shaperCommit_answers (hr : s.mcRuns = true) (hq : s.fld F.SCH_QUE_INDEX_INDEX < 280) :
    exec .shaperCommit s = .next (s.commitShaper (s.fld F.SCH_QUE_INDEX_INDEX)) := by
  have only : s.Only (s.commitShaper (s.fld F.SCH_QUE_INDEX_INDEX)) [.regs] :=
    (s.requestCommit_answers _ 4 3 (by decide) (by decide) (by decide)).2.1
  rw [exec_shaperCommit s (by simp [hr, s.winHere_shaper, hq])]
  exact congrArg _ only

/-- No queue has an index from 280 on. -/
theorem exec_shaperCommit_beyond (hq : 280 ≤ s.fld F.SCH_QUE_INDEX_INDEX) : exec .shaperCommit s = .next s := by
  have arm : exec .shaperCommit s = .next (s.confine [.regs]
      (s.doIf (s.mcRuns && s.winHere 0x100018) (fun s => s.commitShaper (s.winIndex 0x100018)))) := rfl
  have absent : (s.mcRuns && s.winHere 0x100018) = false := by
    rw [s.winHere_shaper, decide_eq_false (Nat.not_lt.mpr hq), Bool.and_false]
  rw [arm, absent, State.doIf_false, s.confine_self]

theorem exec_meterCommit_answers (hr : s.mcRuns = true) :
    exec .meterCommit s = .next (s.commitMeter (s.fld F.STRM_WIN_INDEX_INDEX)) := by
  have only : s.Only (s.commitMeter (s.fld F.STRM_WIN_INDEX_INDEX)) [.regs] :=
    (s.requestCommit_answers _ 3 2 (by decide) (by decide) (by decide)).2.1
  exact (exec_meterCommit s hr).trans (congrArg _ only)

theorem exec_zonePolicerCommit_answers (hr : s.mcRuns = true) :
    exec .zonePolicerCommit s = .next (s.commitPolicer (s.fld F.ZPOL_INDEX_INDEX)) := by
  have only : s.Only (s.commitPolicer (s.fld F.ZPOL_INDEX_INDEX)) [.regs] :=
    (s.requestCommit_answers _ 4 3 (by decide) (by decide) (by decide)).2.1
  exact (exec_zonePolicerCommit s hr).trans (congrArg _ only)

end

/-! ## The clauses, bucket by bucket -/

section
variable {s t : State}

theorem State.Gains.pair {c p : Bucket} (h : s.Gains t [c, p]) :
    t.bucket c.level = min (s.bucket c.level + (incOf (s.rateOf c.rate) : Nat)) ((s.burstOf c.burst : Int) * fracUnit) ∧
    t.bucket p.level = min (s.bucket p.level + (incOf (s.rateOf p.rate) : Nat)) ((s.burstOf p.burst : Int) * fracUnit) :=
  ⟨h c (by simp), h p (by simp)⟩

theorem State.Gains.single {b : Bucket} (h : s.Gains t [b]) :
    t.bucket b.level = min (s.bucket b.level + (incOf (s.rateOf b.rate) : Nat)) ((s.burstOf b.burst : Int) * fracUnit) :=
  h b (by simp)

theorem State.Stores.single {full : Bool} {b : Bucket} (h : s.Stores t full [b]) :
    (∀ k ∈ [b.rate, b.burst], t.reg k = s.heldOr k ∧ t.heldWord k = none) ∧
    t.bucket b.level = if full then (wordBits (s.heldOr b.burst) 23 0 : Int) * fracUnit else 0 := h b (by simp)

theorem State.Stores.pair {full : Bool} {c p : Bucket} (h : s.Stores t full [c, p]) :
    (∀ k ∈ [c.rate, c.burst, p.rate, p.burst], t.reg k = s.heldOr k ∧ t.heldWord k = none) ∧
    (∀ x ∈ [(c.level, c.burst), (p.level, p.burst)], t.bucket x.1 =
      if full then (wordBits (s.heldOr x.2) 23 0 : Int) * fracUnit else 0) := by
  obtain ⟨cWords, cLevel⟩ := h c (by simp)
  obtain ⟨pWords, pLevel⟩ := h p (by simp)
  refine ⟨fun k hk => ?_, by simpa using ⟨cLevel, pLevel⟩⟩
  rw [show [c.rate, c.burst, p.rate, p.burst] = c.words ++ p.words from rfl, List.mem_append] at hk
  exact hk.elim (cWords k) (pWords k)

end

/-- Settles O28: each round of the tick visits an entry once, and a visit is the commit, the increment or nothing, by the flags
that the entry showed before; a COMMIT is `requestCommit` on the control register of the entry that the index selects. -/
theorem ticksFeedAndCommitBuckets : Obligations.TicksFeedAndCommitBuckets := by
  unfold Obligations.TicksFeedAndCommitBuckets
  refine ⟨fun s hl hq hz hm => ?_, fun s n hl hq hz hm => ?_, fun s hr => ?_⟩
  · obtain ⟨t, run, only, shapers, meters, policers⟩ := exec_tokenTick_ticks s hl hq hz hm
    refine ⟨t, run, only, fun q hp he => ((shapers q).gains hp he).pair, fun i hp he => ((policers i).gains hp he).single,
      fun i hp hs he => ((meters i).gains hp hs he).pair, fun q hp he => ?_⟩
    have rests := (shapers q).rests hp he
    exact ⟨State.bucket_of_place (rests _ (by simp [unitKeys, shaperBuckets, Bucket.keys])),
      State.bucket_of_place (rests _ (by simp [unitKeys, shaperBuckets, Bucket.keys]))⟩
  · obtain ⟨t, run, only, shapers, meters, policers⟩ := exec_tokenTick_ticks s hl hq hz hm
    refine ⟨t, run, only, fun hp => ?_, fun hp => ?_, fun hp => ?_⟩
    · obtain ⟨cleared, stored⟩ := (shapers n).commits hp
      exact ⟨cleared, stored.pair⟩
    · obtain ⟨cleared, stored⟩ := (meters n).commits hp
      exact ⟨cleared, stored.pair⟩
    · obtain ⟨cleared, stored⟩ := (policers n).commits hp
      exact ⟨cleared, stored.single⟩
  · refine ⟨?_, exec_shaperCommit_beyond s, ?_, ?_⟩
    · rintro q rfl hq
      exact ⟨_, exec_shaperCommit_answers s hr hq, s.requestCommit_answers _ 4 3 (by decide) (by decide) (by decide)⟩
    · rintro i rfl
      exact ⟨_, exec_meterCommit_answers s hr, s.requestCommit_answers _ 3 2 (by decide) (by decide) (by decide)⟩
    · rintro i rfl
      exact ⟨_, exec_zonePolicerCommit_answers s hr, s.requestCommit_answers _ 4 3 (by decide) (by decide) (by decide)⟩

end Sys2Proof.Machine
end

section
/-!
SUPPORT. The error counters of the CAN channels (spec/08, R243): what CAN_STATUS reads after the counters move, and what the events
that go with them leave alone.
-/

namespace Sys2Proof.Machine

/-! ## Fields set in one register -/

/-- Two fields have no bit of their register in common. -/
structure Fld.Apart (f g : Fld) : Prop where
  key : f.key = g.key
  order : f.lo ≤ f.hi
  width : f.hi < 32
  order' : g.lo ≤ g.hi
  bits : f.hi < g.lo ∨ g.hi < f.lo

theorem Fld.apart_mk (k : Nat) {hi lo hi' lo' : Nat} (h : lo ≤ hi ∧ hi < 32 ∧ lo' ≤ hi' ∧ (hi < lo' ∨ hi' < lo)) :
    Fld.Apart ⟨k, hi, lo⟩ ⟨k, hi', lo'⟩ := by
  obtain ⟨order, width, order', bits⟩ := h
  exact ⟨rfl, order, width, order', bits⟩

section
variable {g : Fld} {l : List (Fld × Nat)}

theorem State.fld_setFlds_apart (s : State) (h : ∀ c ∈ l, c.1.Apart g) : (s.setFlds l).fld g = s.fld g := by
  induction l generalizing s with
  | nil => rfl
  | cons c r ih =>
    have apart := h c List.mem_cons_self
    rw [State.setFlds, ih _ (fun d hd => h d (List.mem_cons_of_mem _ hd)),
      s.fld_setFld_bits c.1 g c.2 apart.key apart.order apart.width apart.order' apart.bits]

/-- Of a list of fields, the first reads as what was set where those after it are apart from it. -/
theorem State.fld_setFlds_head (s : State) {v : Nat} (h1 : g.lo ≤ g.hi) (h2 : g.hi < 32) (hv : v < 2 ^ (g.hi - g.lo + 1))
    (h : ∀ c ∈ l, c.1.Apart g) : (s.setFlds ((g, v) :: l)).fld g = v := by
  rw [State.setFlds, State.fld_setFlds_apart _ h, s.fld_setFld_same g v h1 h2, Nat.mod_eq_of_lt hv]

theorem State.regsBut_setFlds (s : State) {k : Nat} (h : ∀ c ∈ l, c.1.key = k) : s.RegsBut (s.setFlds l) [k] := by
  induction l generalizing s with
  | nil => exact State.RegsBut.refl s _
  | cons c r ih =>
    have first : s.RegsBut (s.setFld c.1 c.2) [k] := h c List.mem_cons_self ▸ s.regsBut_setFld c.1 c.2
    exact first.comp (ih _ (fun d hd => h d (List.mem_cons_of_mem _ hd)))

end

/-! ## A channel's events -/

/-- Events of a channel were raised: their flags, the journal and the counters of events may differ, and nothing else. -/
structure State.CanRaised (s t : State) (n : Nat) : Prop where
  only : s.Only t [.regs, .cnts, .mgt, .key]
  regs : s.RegsBut t (K.CAN_EVT n :: journalKeys)
  cnts : s.CntsBut t eventCounters

theorem State.CanRaised.refl (s : State) (n : Nat) : s.CanRaised s n :=
  ⟨s.only_refl _, State.RegsBut.refl s _, State.CntsBut.refl s _⟩

theorem State.CanRaised.comp {s t u : State} {n : Nat} (h : s.CanRaised t n) (h' : t.CanRaised u n) : s.CanRaised u n :=
  ⟨h.only.comp h'.only, h.regs.comp h'.regs, h.cnts.comp h'.cnts⟩

theorem State.CanRaised.fld {s t : State} {n : Nat} (h : s.CanRaised t n) {f : Fld} (hf : f.key = K.CAN_STATUS n) :
    t.fld f = s.fld f := by
  refine h.regs.fld ?_
  simp only [hf, journalKeys, K.CAN_STATUS, K.CAN_EVT, K.MGT_CFG, K.JRN_STATUS, K.JRN_HEAD_LO, K.JRN_HEAD_HI, K.JRN_CP_LO,
    K.JRN_CP_HI, List.mem_cons, List.not_mem_nil, or_false, not_or]
  omega

theorem State.canEvent_raised (s : State) (n bit : Nat) : s.CanRaised (s.canEvent n bit) n :=
  ⟨s.raiseFlag_only _ _, s.raiseFlag_regsBut _ _, s.raiseFlag_cntsBut _ _⟩

theorem State.canEvent_raised_if (s : State) (n bit : Nat) (c : Prop) [Decidable c] :
    s.CanRaised (if c then s.canEvent n bit else s) n := by
  split
  · exact s.canEvent_raised n bit
  · exact State.CanRaised.refl s n

/-- A counter of an edge channel is none of the counters of events. -/
theorem edge_not_event {n k : Nat} (hk : k < 32) : C.edge n k ∉ eventCounters := by
  simp only [eventCounters, C.edge, C.mgt, List.mem_cons, List.not_mem_nil, or_false, not_or]
  omega

/-! ## The counters move (R243) -/

theorem canErrorState_eq_two {tec rec : Nat} : canErrorState tec rec = 2 ↔ 256 ≤ tec := by
  unfold canErrorState
  split
  · simp [*]
  · split <;> simp [*]

/-- The events WARN and PASSIVE of counters that move. -/
def State.canWarn (s : State) (n tec rec : Nat) : State :=
  let t := if (decide (96 ≤ tec) || decide (96 ≤ rec)) && !s.flag (F.CAN_STATUS_WARN n) then s.canEvent n 2 else s
  if canErrorState tec rec = 1 ∧ s.canWas n ≠ 1 then t.canEvent n 1 else t

/-- Every event of counters that move: with those of `canWarn` the entry into bus-off, which is counted. -/
def State.canNote (s : State) (n tec rec : Nat) : State :=
  if canErrorState tec rec = 2 ∧ s.canWas n ≠ 2 then ((s.canWarn n tec rec).canEvent n 0).inc (C.edge n 7)
  else s.canWarn n tec rec

/-- The fields of CAN_STATUS that follow the counters, with their values. -/
def counterFlds (n tec rec : Nat) : List (Fld × Nat) :=
  [(F.CAN_STATUS_WARN n, b2n (decide (96 ≤ tec) || decide (96 ≤ rec))), (F.CAN_STATUS_STATE n, canErrorState tec rec),
    (F.CAN_STATUS_TEC n, min tec 511), (F.CAN_STATUS_REC n, min rec 255)]

theorem canErrorState_lt {tec rec : Nat} : canErrorState tec rec < 4 := by
  unfold canErrorState
  split
  · decide
  · split <;> decide

theorem counterFlds_apart {n tec rec hi lo : Nat} (h : 3 ≤ lo ∧ lo ≤ hi ∧ hi < 15) :
    ∀ c ∈ counterFlds n tec rec, c.1.Apart ⟨K.CAN_STATUS n, hi, lo⟩ := by
  simp only [counterFlds, List.forall_mem_cons, List.not_mem_nil, false_imp_iff, implies_true, and_true]
  exact ⟨Fld.apart_mk _ (by omega), Fld.apart_mk _ (by omega), Fld.apart_mk _ (by omega), Fld.apart_mk _ (by omega)⟩

section
variable (s : State) (n tec rec : Nat)

theorem State.canState_eq : s.canState n tec rec = (s.canNote n tec rec).setFlds (counterFlds n tec rec) := rfl

theorem State.canWarn_raised : s.CanRaised (s.canWarn n tec rec) n :=
  (s.canEvent_raised_if n 2 _).comp (State.canEvent_raised_if _ n 1 _)

/-- The events leave all but registers, counters, messages and keys, and of the fields of CAN_STATUS each one. -/
theorem State.canNote_keeps : s.Only (s.canNote n tec rec) [.regs, .cnts, .mgt, .key] ∧
    ∀ f : Fld, f.key = K.CAN_STATUS n → (s.canNote n tec rec).fld f = s.fld f := by
  have warned := s.canWarn_raised n tec rec
  unfold State.canNote
  split
  · have raised := warned.comp (State.canEvent_raised _ n 0)
    exact ⟨raised.only.comp (t := (s.canWarn n tec rec).canEvent n 0) rfl, fun f hf => raised.fld hf⟩
  · exact ⟨warned.only, fun f hf => warned.fld hf⟩

/-- A move of the counters leaves the hidden state of the channels. -/
theorem State.canState_edge : (s.canState n tec rec).edge = s.edge := by
  rw [State.canState_eq, State.setFlds_edge, ← (s.canNote_keeps n tec rec).1]; rfl

theorem State.canState_out : (s.canState n tec rec).out = s.out := by
  rw [State.canState_eq, State.setFlds_out, ← (s.canNote_keeps n tec rec).1]; rfl

/-- Of the channels' counters the events count an entry into bus-off, and nothing else. -/
theorem State.canNote_cnt {a : Nat} (ha : a ∉ eventCounters) : (s.canNote n tec rec).cnt a =
    if 256 ≤ tec ∧ s.canWas n ≠ 2 ∧ C.edge n 7 = a then s.cnt a + 1 else s.cnt a := by
  have warned := s.canWarn_raised n tec rec
  unfold State.canNote
  simp only [canErrorState_eq_two]
  by_cases off : 256 ≤ tec ∧ s.canWas n ≠ 2
  · have kept := (warned.comp (State.canEvent_raised _ n 0)).cnts a ha
    rw [if_pos off]
    by_cases same : C.edge n 7 = a
    · rw [if_pos ⟨off.1, off.2, same⟩, same, State.cnt_inc_same, kept]
    · rw [if_neg (fun h => same h.2.2), State.cnt_inc_other _ same, kept]
  · rw [if_neg off, if_neg (fun h => off ⟨h.1, h.2.1⟩), warned.cnts a ha]

/-- Counters of 0 raise no event. -/
theorem State.canNote_zero : s.canNote n 0 0 = s := by
  simp [State.canNote, State.canWarn, canErrorState]

theorem State.canState_zero_keeps : s.Only (s.canState n 0 0) [.regs] ∧ s.RegsBut (s.canState n 0 0) [K.CAN_STATUS n] := by
  rw [State.canState_eq, State.canNote_zero]
  have keys : ∀ c ∈ counterFlds n 0 0, c.1.key = K.CAN_STATUS n := by
    simp [counterFlds, F.CAN_STATUS_WARN, F.CAN_STATUS_STATE, F.CAN_STATUS_TEC, F.CAN_STATUS_REC]
  refine ⟨?_, s.regsBut_setFlds keys⟩
  rw [s.setFlds_frame (counterFlds n 0 0)]
  rfl

theorem State.canState_lec : (s.canState n tec rec).fld (F.CAN_STATUS_LEC n) = s.fld (F.CAN_STATUS_LEC n) := by
  have apart : ∀ c ∈ counterFlds n tec rec, c.1.Apart (F.CAN_STATUS_LEC n) :=
    counterFlds_apart (hi := 11) (lo := 9) (by decide)
  rw [State.canState_eq, State.fld_setFlds_apart _ apart, (s.canNote_keeps n tec rec).2 _ rfl]

theorem State.canState_cnt {a : Nat} (ha : a ∉ eventCounters) : (s.canState n tec rec).cnt a =
    if 256 ≤ tec ∧ s.canWas n ≠ 2 ∧ C.edge n 7 = a then s.cnt a + 1 else s.cnt a :=
  (State.cnt_congr (State.setFlds_cnts _ _) a).trans (s.canNote_cnt n tec rec ha)

theorem State.canState_tec : (s.canState n tec rec).fld (F.CAN_STATUS_TEC n) = min tec 511 := by
  rw [State.canState_eq, counterFlds, State.setFlds, State.setFlds]
  refine State.fld_setFlds_head _ (show 15 ≤ 23 by decide) (show 23 < 32 by decide) (show _ < 512 by omega) ?_
  exact List.forall_mem_singleton.mpr (Fld.apart_mk _ (by decide))

theorem State.canState_rec : (s.canState n tec rec).fld (F.CAN_STATUS_REC n) = min rec 255 := by
  rw [State.canState_eq, counterFlds, State.setFlds, State.setFlds, State.setFlds]
  exact State.fld_setFlds_head _ (show 24 ≤ 31 by decide) (show 31 < 32 by decide) (show _ < 256 by omega)
    (List.forall_mem_nil _)

theorem State.canState_state : (s.canState n tec rec).fld (F.CAN_STATUS_STATE n) = canErrorState tec rec := by
  rw [State.canState_eq, counterFlds, State.setFlds]
  refine State.fld_setFlds_head _ (show 0 ≤ 1 by decide) (show 1 < 32 by decide) canErrorState_lt ?_
  exact List.forall_mem_cons.mpr ⟨Fld.apart_mk _ (by decide), List.forall_mem_singleton.mpr (Fld.apart_mk _ (by decide))⟩

theorem State.canState_warn : (s.canState n tec rec).flag (F.CAN_STATUS_WARN n) =
    (decide (96 ≤ tec) || decide (96 ≤ rec)) := by
  have put : (s.canState n tec rec).fld (F.CAN_STATUS_WARN n) = b2n (decide (96 ≤ tec) || decide (96 ≤ rec)) := by
    have bit : b2n (decide (96 ≤ tec) || decide (96 ≤ rec)) < 2 := by unfold b2n; split <;> omega
    rw [State.canState_eq, counterFlds]
    refine State.fld_setFlds_head _ (show 2 ≤ 2 by decide) (show 2 < 32 by decide) bit ?_
    exact List.forall_mem_cons.mpr ⟨Fld.apart_mk _ (by decide), List.forall_mem_cons.mpr
      ⟨Fld.apart_mk _ (by decide), List.forall_mem_singleton.mpr (Fld.apart_mk _ (by decide))⟩⟩
  rw [State.flag_eq _ _ rfl, put]
  cases decide (96 ≤ tec) || decide (96 ≤ rec) <;> rfl

end

end Sys2Proof.Machine
end


section
/-!
SUPPORT. A bus error on a CAN channel (spec/08, R242, R243): what it leaves before the counters move, found while receiving or while
sending, and what their move leaves after it.
-/

namespace Sys2Proof.Machine

/-! ## The hidden state of a channel -/

@[simp] theorem State.can_setCan (s : State) (n : Nat) (c : CanSt) : (s.setCan n c).can n = c :=
  mapGet_mapSet_same _ s.edge.can n c

theorem State.can_congr {s t : State} (h : t.edge = s.edge) (n : Nat) : t.can n = s.can n := by rw [State.can, h, State.can]

/-- A channel that is bus-off begins its wait: the hold runs, and no recovery is asked for. -/
def State.canWait (s : State) (n : Nat) : State :=
  if s.fld (F.CAN_STATUS_STATE n) = 2 then s.setCan n { s.can n with holdOver := false, asked := false, recovering := false }
  else s

/-- The end of a bus error: the counters move, and a channel that is bus-off begins its wait. -/
def State.canBook (s : State) (n tec rec : Nat) : State := (s.canState n tec rec).canWait n

section
variable (s : State) (n : Nat)

theorem State.canWait_keeps : ((s.canWait n).can n).cur = (s.can n).cur ∧ ((s.canWait n).can n).reqs = (s.can n).reqs := by
  unfold State.canWait
  split
  · rw [State.can_setCan]; exact ⟨rfl, rfl⟩
  · exact ⟨rfl, rfl⟩

theorem State.canWait_off (h : s.fld (F.CAN_STATUS_STATE n) = 2) :
    ((s.canWait n).can n).holdOver = false ∧ ((s.canWait n).can n).recovering = false := by
  rw [State.canWait, if_pos h, State.can_setCan]; exact ⟨rfl, rfl⟩

end

/-- What the end of a bus error leaves of a state `s` whose counters become `tx` and `rx`. -/
structure State.CanBooked (s t : State) (n tx rx : Nat) : Prop where
  out : t.out = s.out
  lec : t.fld (F.CAN_STATUS_LEC n) = s.fld (F.CAN_STATUS_LEC n)
  txCount : t.fld (F.CAN_STATUS_TEC n) = min tx 511
  rxCount : t.fld (F.CAN_STATUS_REC n) = min rx 255
  warn : t.flag (F.CAN_STATUS_WARN n) = (decide (96 ≤ tx) || decide (96 ≤ rx))
  state : t.fld (F.CAN_STATUS_STATE n) = canErrorState tx rx
  cnt : ∀ a, a ∉ eventCounters →
    t.cnt a = if 256 ≤ tx ∧ s.canWas n ≠ 2 ∧ C.edge n 7 = a then s.cnt a + 1 else s.cnt a
  cur : (t.can n).cur = (s.can n).cur
  reqs : (t.can n).reqs = (s.can n).reqs
  off : 256 ≤ tx → (t.can n).holdOver = false ∧ (t.can n).recovering = false

section
variable {s : State} {n : Nat}

theorem State.canBook_booked (s : State) (n tx rx : Nat) : s.CanBooked (s.canBook n tx rx) n tx rx := by
  have wait (t : State) : (t.canWait n).regs = t.regs ∧ (t.canWait n).cnts = t.cnts ∧ (t.canWait n).out = t.out := by
    unfold State.canWait
    split <;> exact ⟨rfl, rfl, rfl⟩
  obtain ⟨regs, cnts, out⟩ := wait (s.canState n tx rx)
  obtain ⟨cur, reqs⟩ := (s.canState n tx rx).canWait_keeps n
  have can := State.can_congr (s.canState_edge n tx rx) n
  exact {
    out := out.trans (s.canState_out n tx rx)
    lec := (State.fld_congr regs _).trans (s.canState_lec n tx rx)
    txCount := (State.fld_congr regs _).trans (s.canState_tec n tx rx)
    rxCount := (State.fld_congr regs _).trans (s.canState_rec n tx rx)
    warn := (State.flag_congr regs _).trans (s.canState_warn n tx rx)
    state := (State.fld_congr regs _).trans (s.canState_state n tx rx)
    cnt := fun a ha => (State.cnt_congr cnts a).trans (s.canState_cnt n tx rx ha)
    cur := cur.trans (congrArg CanSt.cur can)
    reqs := reqs.trans (congrArg CanSt.reqs can)
    off := fun h => State.canWait_off _ n ((s.canState_state n tx rx).trans (canErrorState_eq_two.mpr h)) }

/-! ## A bus error (R242, R243) -/

theorem State.canOnBus_state (h : s.canOnBus n = true) : s.fld (F.CAN_STATUS_STATE n) ≤ 1 :=
  of_decide_eq_true (Bool.and_eq_true_iff.mp h).2

/-- A channel on its bus does not integrate. -/
theorem State.canIntegrate_onBus (h : s.canOnBus n = true) : s.canIntegrate n = s := by
  have state := State.canOnBus_state h
  exact if_neg (fun h => absurd h.2 (by omega))

theorem State.canWas_onBus (h : s.fld (F.CAN_STATUS_STATE n) ≤ 1) : s.canWas n ≠ 2 := by
  rw [State.canWas, if_neg (by omega)]
  omega

theorem State.canErrorFrame_only (s : State) (n : Nat) : s.Only (s.canErrorFrame n) [.out] := by
  unfold State.canErrorFrame; split <;> rfl

theorem State.canErrorFrame_out (h : s.flag (F.CAN_CTRL_SHADOW n) = false) :
    (s.canErrorFrame n).out = if s.fld (F.CAN_CTRL_MODE n) = 2 then s.out else .canError n :: s.out := by
  unfold State.canErrorFrame
  rw [h, Bool.false_or]
  by_cases mode : s.fld (F.CAN_CTRL_MODE n) = 2 <;> simp [mode, State.emit]

/-- A failed attempt ends the transmission; nothing but the channel's state and TX_DROPPED changes. -/
theorem State.canFail_ends {r : CanReq} {stamp : Nat} (h : (s.can n).cur = some (r, stamp)) :
    s.Only (s.canFail n) [.cnts, .edge] ∧ s.CntsBut (s.canFail n) [C.edge n 4] ∧ ((s.canFail n).can n).cur = none ∧
      (s.fld (F.CAN_LIMITS_TX_RETRY n) = 0 → ((s.canFail n).can n).reqs = { r with fails := r.fails + 1 } :: (s.can n).reqs) := by
  simp only [State.canFail, h]
  split
  · next dropped =>
    have can (c : CanSt) (a : Nat) : ((s.setCan n c).inc a).can n = c := s.can_setCan n c
    rw [can]
    exact ⟨rfl, (State.cntsBut_inc _ _), rfl, fun unlimited => absurd unlimited dropped.1⟩
  · rw [State.can_setCan]
    exact ⟨rfl, State.cntsBut_of_cnts rfl _, rfl, fun _ => rfl⟩

/-- A bus error that a receiver finds. -/
def State.canRxError (s : State) (n lec : Nat) : State :=
  ((s.setFld (F.CAN_STATUS_LEC n) lec).inc (C.edge n 2)).canErrorFrame n

/-- A bus error that the sender finds. -/
def State.canTxError (s : State) (n lec : Nat) : State :=
  ((s.setFld (F.CAN_STATUS_LEC n) lec).canFail n).canErrorFrame n

/-- An error's kind enters LEC, and no other field of CAN_STATUS, nor any other register, differs by it. -/
theorem State.setLec (s : State) (n : Nat) {lec : Nat} (hl : lec < 8) :
    (s.setFld (F.CAN_STATUS_LEC n) lec).fld (F.CAN_STATUS_LEC n) = lec ∧
      (s.setFld (F.CAN_STATUS_LEC n) lec).fld (F.CAN_STATUS_TEC n) = s.fld (F.CAN_STATUS_TEC n) ∧
      (s.setFld (F.CAN_STATUS_LEC n) lec).fld (F.CAN_STATUS_REC n) = s.fld (F.CAN_STATUS_REC n) ∧
      (s.setFld (F.CAN_STATUS_LEC n) lec).fld (F.CAN_STATUS_STATE n) = s.fld (F.CAN_STATUS_STATE n) := by
  have kept {g : Fld} (h : Fld.Apart (F.CAN_STATUS_LEC n) g) : (s.setFld (F.CAN_STATUS_LEC n) lec).fld g = s.fld g :=
    State.fld_setFlds_apart (l := [(F.CAN_STATUS_LEC n, lec)]) s (List.forall_mem_singleton.mpr h)
  have put := s.fld_setFld_same (F.CAN_STATUS_LEC n) lec (show 9 ≤ 11 by decide) (show 11 < 32 by decide)
  exact ⟨put.trans (Nat.mod_eq_of_lt hl), kept (Fld.apart_mk _ (by decide)), kept (Fld.apart_mk _ (by decide)),
    kept (Fld.apart_mk _ (by decide))⟩

/-- A bus error as it is found, before the counters move: LEC holds its kind, the other fields of CAN_STATUS stay. -/
structure State.CanFound (s u : State) (n lec : Nat) : Prop where
  lec : u.fld (F.CAN_STATUS_LEC n) = lec
  txCount : u.fld (F.CAN_STATUS_TEC n) = s.fld (F.CAN_STATUS_TEC n)
  rxCount : u.fld (F.CAN_STATUS_REC n) = s.fld (F.CAN_STATUS_REC n)
  state : u.fld (F.CAN_STATUS_STATE n) = s.fld (F.CAN_STATUS_STATE n)
  others : s.RegsBut u [K.CAN_STATUS n]

theorem canFound_of_regs {u : State} {lec : Nat} (hl : lec < 8) (h : u.regs = (s.setFld (F.CAN_STATUS_LEC n) lec).regs) :
    s.CanFound u n lec := by
  obtain ⟨put, tec, rec, state⟩ := s.setLec n hl
  exact ⟨(State.fld_congr h _).trans put, (State.fld_congr h _).trans tec, (State.fld_congr h _).trans rec,
    (State.fld_congr h _).trans state, (s.regsBut_setFld _ _).after h⟩

theorem State.canRxError_found (s : State) (n : Nat) {lec : Nat} (hl : lec < 8) : s.CanFound (s.canRxError n lec) n lec :=
  canFound_of_regs hl ((State.canErrorFrame_only _ n).regs rfl)

theorem State.canTxError_found {lec : Nat} {r : CanReq} {stamp : Nat} (hl : lec < 8) (hc : (s.can n).cur = some (r, stamp)) :
    s.CanFound (s.canTxError n lec) n lec :=
  canFound_of_regs hl (((State.canErrorFrame_only _ n).regs rfl).trans
    ((State.canFail_ends (s := s.setFld (F.CAN_STATUS_LEC n) lec) hc).1.regs rfl))

theorem canCtrl_not_status (n : Nat) : K.CAN_CTRL n ∉ [K.CAN_STATUS n] := by
  simp only [K.CAN_CTRL, K.CAN_STATUS, List.mem_singleton]
  omega

theorem State.canError_receiving {lec step : Nat} (hb : s.canOnBus n = true) (hs : s.flag (F.CAN_CTRL_SHADOW n) = false)
    (hc : (s.can n).cur = none) (hl : lec < 8) : s.canError n lec false step =
      (s.canRxError n lec).canBook n (s.fld (F.CAN_STATUS_TEC n)) (s.fld (F.CAN_STATUS_REC n) + step) := by
  have found := s.canRxError_found n hl
  have shadow : (s.canRxError n lec).flag (F.CAN_CTRL_SHADOW n) = false := (found.others.flag (canCtrl_not_status n)).trans hs
  have kept : (s.setFld (F.CAN_STATUS_LEC n) lec).canLost n = s.setFld (F.CAN_STATUS_LEC n) lec :=
    if_neg (by rw [State.can_congr (State.setFld_edge s _ _), hc]; decide)
  rw [← found.txCount, ← found.rxCount]
  simp only [State.canRxError] at shadow ⊢
  simp only [State.canError, State.canIntegrate_onBus hb, hb, kept, shadow, Bool.false_and, Bool.not_true, Bool.false_eq_true,
    if_false, State.canBook, State.canWait]

theorem State.canError_sending {lec step : Nat} {r : CanReq} {stamp : Nat} (hb : s.canOnBus n = true)
    (hs : s.flag (F.CAN_CTRL_SHADOW n) = false) (hc : (s.can n).cur = some (r, stamp)) (hl : lec < 8) :
    s.canError n lec true step =
      (s.canTxError n lec).canBook n (s.fld (F.CAN_STATUS_TEC n) + step) (s.fld (F.CAN_STATUS_REC n)) := by
  have found := State.canTxError_found hl hc
  have shadow : (s.canTxError n lec).flag (F.CAN_CTRL_SHADOW n) = false := (found.others.flag (canCtrl_not_status n)).trans hs
  rw [← found.txCount, ← found.rxCount]
  simp only [State.canTxError] at shadow ⊢
  simp only [State.canError, State.canIntegrate_onBus hb, hb, hc, shadow, Option.isSome_some, Bool.and_self, Bool.not_true,
    Bool.false_eq_true, if_false, if_true, State.canBook, State.canWait]

end

end Sys2Proof.Machine
end

section
/-!
SUPPORT. `Obligations.CanErrorsAndBusOff`: a bus error and the commands of bus-off, each as a lemma over one command (spec/08, R242 to
R244).
-/

namespace Sys2Proof.Machine

section
variable {s : State} {n : Nat}

/-! ## A bus error -/

theorem State.canRxError_out {lec : Nat} (hs : s.flag (F.CAN_CTRL_SHADOW n) = false) :
    (s.canRxError n lec).out = if s.fld (F.CAN_CTRL_MODE n) = 2 then s.out else .canError n :: s.out := by
  have regs : s.RegsBut ((s.setFld (F.CAN_STATUS_LEC n) lec).inc (C.edge n 2)) [K.CAN_STATUS n] :=
    (s.regsBut_setFld (F.CAN_STATUS_LEC n) lec).after rfl
  rw [State.canRxError, State.canErrorFrame_out ((regs.flag (canCtrl_not_status n)).trans hs), regs.fld (canCtrl_not_status n)]
  rfl

theorem State.canRxError_cnt (s : State) (n lec : Nat) :
    (s.canRxError n lec).cnt (C.edge n 2) = s.cnt (C.edge n 2) + 1 := by
  rw [State.canRxError, ← State.canErrorFrame_only _ n]
  exact State.cnt_inc_same (s.setFld _ lec) _

/-- The sender's attempt has ended: the channel sends nothing, and without a limit its request waits again. -/
theorem State.canTxError_ends {lec : Nat} {r : CanReq} {stamp : Nat} (hc : (s.can n).cur = some (r, stamp)) :
    (s.canTxError n lec).cnt (C.edge n 7) = s.cnt (C.edge n 7) ∧ ((s.canTxError n lec).can n).cur = none ∧
      (s.fld (F.CAN_LIMITS_TX_RETRY n) = 0 →
        ((s.canTxError n lec).can n).reqs = { r with fails := r.fails + 1 } :: (s.can n).reqs) := by
  obtain ⟨-, cnts, cur, reqs⟩ := State.canFail_ends (s := s.setFld (F.CAN_STATUS_LEC n) lec) hc
  have limit : (s.setFld (F.CAN_STATUS_LEC n) lec).fld (F.CAN_LIMITS_TX_RETRY n) = s.fld (F.CAN_LIMITS_TX_RETRY n) :=
    s.fld_setFld_key _ _ lec (show K.CAN_STATUS n ≠ K.CAN_LIMITS n by unfold K.CAN_STATUS K.CAN_LIMITS; omega)
  have other : C.edge n 7 ∉ [C.edge n 4] := by simp [C.edge]
  rw [limit] at reqs
  rw [State.canTxError, ← State.canErrorFrame_only _ n]
  exact ⟨cnts _ other, cur, reqs⟩

/-- Counters that are not raised stay within their fields. -/
theorem State.min_fld (s : State) (f : Fld) : min (s.fld f) (2 ^ (f.hi - f.lo + 1) - 1) = s.fld f :=
  Nat.min_eq_left (Nat.le_sub_one_of_lt (s.fld_lt f))

variable {lec step : Nat} (hn : n < 24) (hl : lec < 8) (ht : step = 0 ∨ step = 1 ∨ step = 8) (hp : s.powered = true)
  (hb : s.canOnBus n = true) (hs : s.flag (F.CAN_CTRL_SHADOW n) = false)
include hn hl ht hp hb hs

theorem exec_canBusError_receiving (hc : (s.can n).cur = none) :
    ∃ t, exec (.canBusError n lec false step) s = .next t ∧ s.Only t [.regs, .cnts, .mgt, .edge, .key, .out] ∧
      t.out = (if s.fld (F.CAN_CTRL_MODE n) = 2 then s.out else .canError n :: s.out) ∧
      t.fld (F.CAN_STATUS_LEC n) = lec ∧
      t.cnt (C.edge n 2) = s.cnt (C.edge n 2) + 1 ∧
      t.fld (F.CAN_STATUS_REC n) = min (s.fld (F.CAN_STATUS_REC n) + step) 255 ∧
      t.fld (F.CAN_STATUS_TEC n) = s.fld (F.CAN_STATUS_TEC n) := by
  have found := s.canRxError_found n hl
  have booked := (s.canRxError n lec).canBook_booked n (s.fld (F.CAN_STATUS_TEC n)) (s.fld (F.CAN_STATUS_REC n) + step)
  have cnt := booked.cnt (C.edge n 2) (edge_not_event (by decide))
  rw [if_neg (fun h => absurd h.2.2 (by simp [C.edge]))] at cnt
  refine ⟨_, exec_canBusError s n lec false step (by simp [Instr.wf, hn, hl, ht, or_assoc]) hp, s.only_confine _ _, ?_⟩
  rw [State.canError_receiving hb hs hc hl]
  generalize (s.canRxError n lec).canBook n _ _ = t at booked cnt ⊢
  exact ⟨booked.out.trans (State.canRxError_out hs), booked.lec.trans found.lec, cnt.trans (s.canRxError_cnt n lec),
    booked.rxCount, booked.txCount.trans (s.min_fld (F.CAN_STATUS_TEC n))⟩

theorem exec_canBusError_sending {r : CanReq} {stamp : Nat} (hc : (s.can n).cur = some (r, stamp)) :
    ∃ t, exec (.canBusError n lec true step) s = .next t ∧ s.Only t [.regs, .cnts, .mgt, .edge, .key, .out] ∧
      t.fld (F.CAN_STATUS_LEC n) = lec ∧ (t.can n).cur = none ∧
      t.fld (F.CAN_STATUS_TEC n) = min (s.fld (F.CAN_STATUS_TEC n) + step) 511 ∧
      t.fld (F.CAN_STATUS_REC n) = s.fld (F.CAN_STATUS_REC n) ∧
      t.flag (F.CAN_STATUS_WARN n) =
        (decide (96 ≤ s.fld (F.CAN_STATUS_TEC n) + step) || decide (96 ≤ s.fld (F.CAN_STATUS_REC n))) ∧
      t.fld (F.CAN_STATUS_STATE n) = canErrorState (s.fld (F.CAN_STATUS_TEC n) + step) (s.fld (F.CAN_STATUS_REC n)) ∧
      (256 ≤ s.fld (F.CAN_STATUS_TEC n) + step → t.cnt (C.edge n 7) = s.cnt (C.edge n 7) + 1 ∧
        (t.can n).holdOver = false ∧ (t.can n).recovering = false) ∧
      (s.fld (F.CAN_LIMITS_TX_RETRY n) = 0 → (t.can n).reqs = { r with fails := r.fails + 1 } :: (s.can n).reqs) := by
  have found := State.canTxError_found hl hc
  obtain ⟨entries, cur, reqs⟩ := State.canTxError_ends (lec := lec) hc
  have booked := (s.canTxError n lec).canBook_booked n (s.fld (F.CAN_STATUS_TEC n) + step) (s.fld (F.CAN_STATUS_REC n))
  have was : (s.canTxError n lec).canWas n ≠ 2 :=
    State.canWas_onBus (found.state.trans_le (State.canOnBus_state hb))
  have cnt := booked.cnt (C.edge n 7) (edge_not_event (by decide))
  refine ⟨_, exec_canBusError s n lec true step (by simp [Instr.wf, hn, hl, ht, or_assoc]) hp, s.only_confine _ _, ?_⟩
  rw [State.canError_sending hb hs hc hl]
  generalize (s.canTxError n lec).canBook n _ _ = t at booked cnt ⊢
  refine ⟨booked.lec.trans found.lec, booked.cur.trans cur, booked.txCount,
    booked.rxCount.trans (s.min_fld (F.CAN_STATUS_REC n)), booked.warn, booked.state, fun h => ⟨?_, booked.off h⟩,
    fun h => booked.reqs.trans (reqs h)⟩
  rw [if_pos ⟨h, was, rfl⟩, entries] at cnt
  exact cnt

end

/-! ## Bus-off (R244) -/

section
variable {s : State} {n : Nat} (hn : n < 24) (hp : s.powered = true)

theorem State.canRecovered_ends (hs : s.fld (F.CAN_STATUS_STATE n) = 2) (hr : (s.can n).recovering = true) :
    s.canRecovered n = ((s.setCan n { s.can n with holdOver := false, asked := false, recovering := false }).setFld
      (F.CAN_STATUS_BUS_IDLE n) 1).canState n 0 0 := by
  rw [State.canRecovered, if_neg (by simp [hs, hr])]

include hn

theorem exec_recover_asks (hs : s.fld (F.CAN_STATUS_STATE n) = 2) (hr : s.busRuns (K.CAN_CTRL n) = true)
    (ha : (s.can n).asked = false) :
    ∃ t, exec (.recover n) s = .next t ∧ (t.can n).asked = true ∧
      (t.can n).recovering = ((s.can n).recovering || (s.can n).holdOver) ∧ s.Only t [.edge] := by
  have asks : s.canRecover n =
      s.setCan n { s.can n with asked := true, recovering := (s.can n).recovering || (s.can n).holdOver } := by
    simp [State.canRecover, hs, ha]
  have put := State.can_setCan s n
  refine ⟨_, exec_recover s n (decide_eq_true hn) hr, ?_⟩
  rw [asks]
  exact ⟨congrArg CanSt.asked (put _), congrArg CanSt.recovering (put _), rfl⟩

theorem exec_recover_busy (hs : s.fld (F.CAN_STATUS_STATE n) = 2) (hr : s.busRuns (K.CAN_CTRL n) = true)
    (ha : (s.can n).asked = true) :
    ∃ t, exec (.recover n) s = .next t ∧ t.flag (F.CAN_CTRL_ERR_BUSY n) = true ∧ s.RegsBut t [K.CAN_CTRL n] ∧
      s.Only t [.regs] := by
  have busy : s.canRecover n = s.setFld (F.CAN_CTRL_ERR_BUSY n) 1 := by simp [State.canRecover, hs, ha]
  refine ⟨_, exec_recover s n (decide_eq_true hn) hr, ?_⟩
  rw [busy]
  exact ⟨s.flag_setFld_same (F.CAN_CTRL_ERR_BUSY n) 1 rfl (show 15 < 32 by decide), s.regsBut_setFld _ 1, rfl⟩

theorem exec_recover_notOff (hs : s.fld (F.CAN_STATUS_STATE n) ≠ 2) : exec (.recover n) s = .next s := by
  have kept : s.doIf (s.busRuns (K.CAN_CTRL n)) (fun s => s.canRecover n) = s := by
    cases s.busRuns (K.CAN_CTRL n)
    · rfl
    · exact if_pos hs
  have arm : exec (.recover n) s = s.demand (decide (n < 24))
      (s.confine [.regs, .edge] (s.doIf (s.busRuns (K.CAN_CTRL n)) (fun s => s.canRecover n))) := rfl
  rw [arm, State.demand_ok (decide_eq_true hn), kept, s.confine_self]

include hp

theorem exec_busoffHoldEnd_off (hs : s.fld (F.CAN_STATUS_STATE n) = 2) :
    ∃ t, exec (.busoffHoldEnd n) s = .next t ∧ (t.can n).holdOver = true ∧
      (t.can n).recovering = ((s.can n).recovering || (s.can n).asked || s.flag (F.CAN_CTRL_AUTO_RECOVER n)) ∧
      s.Only t [.edge] := by
  have ends : s.canHoldEnd n = s.setCan n { s.can n with
      holdOver := true, recovering := (s.can n).recovering || (s.can n).asked || s.flag (F.CAN_CTRL_AUTO_RECOVER n) } := by
    simp [State.canHoldEnd, hs]
  have put := State.can_setCan s n
  refine ⟨_, exec_busoffHoldEnd s n (decide_eq_true hn) hp, ?_⟩
  rw [ends]
  exact ⟨congrArg CanSt.holdOver (put _), congrArg CanSt.recovering (put _), rfl⟩

theorem exec_busoffHoldEnd_notOff (hs : s.fld (F.CAN_STATUS_STATE n) ≠ 2) : exec (.busoffHoldEnd n) s = .next s := by
  have kept : s.canHoldEnd n = s := if_pos hs
  rw [exec_busoffHoldEnd s n (decide_eq_true hn) hp, kept, s.confine_self]

theorem exec_canRecoveryDone_off (hs : s.fld (F.CAN_STATUS_STATE n) = 2) (hr : (s.can n).recovering = true) :
    ∃ t, exec (.canRecoveryDone n) s = .next t ∧ t.fld (F.CAN_STATUS_STATE n) = 0 ∧ t.fld (F.CAN_STATUS_TEC n) = 0 ∧
      t.fld (F.CAN_STATUS_REC n) = 0 ∧ t.flag (F.CAN_STATUS_WARN n) = false ∧ (t.can n).recovering = false ∧
      (t.can n).asked = false ∧ (t.can n).holdOver = false ∧ (t.can n).reqs = (s.can n).reqs ∧
      s.RegsBut t [K.CAN_STATUS n] ∧ s.Only t [.regs, .edge] := by
  refine ⟨_, exec_canRecoveryDone s n (decide_eq_true hn) hp, ?_⟩
  rw [State.canRecovered_ends hs hr]
  set c : CanSt := { s.can n with holdOver := false, asked := false, recovering := false }
  set u : State := (s.setCan n c).setFld (F.CAN_STATUS_BUS_IDLE n) 1
  obtain ⟨only, regs⟩ := u.canState_zero_keeps n
  have inner : s.Only u [.regs, .edge] := rfl
  have whole : s.Only (u.canState n 0 0) [.regs, .edge] := inner.comp (only.mono _ rfl)
  have status : s.RegsBut u [K.CAN_STATUS n] := (State.regsBut_setFld (s.setCan n c) (F.CAN_STATUS_BUS_IDLE n) 1).from rfl
  have can : (u.canState n 0 0).can n = c := (State.can_congr (u.canState_edge n 0 0) n).trans (s.can_setCan n c)
  rw [whole.confine _ rfl, can]
  exact ⟨u.canState_state n 0 0, u.canState_tec n 0 0, u.canState_rec n 0 0, u.canState_warn n 0 0, rfl, rfl, rfl, rfl,
    status.comp regs, whole⟩

theorem exec_canRecoveryDone_notOff (hs : s.fld (F.CAN_STATUS_STATE n) ≠ 2) : exec (.canRecoveryDone n) s = .next s := by
  have kept : s.canRecovered n = s := if_pos (Or.inl hs)
  rw [exec_canRecoveryDone s n (decide_eq_true hn) hp, kept, s.confine_self]

end

/-- Settles O36: a bus error is what the channel finds, with LEC, the failed attempt and the error frame, and then the move of its
counters, which alone leads into bus-off; each command of bus-off has its branches of `canHoldEnd`, `canRecover` and `canRecovered`,
and outside bus-off none of them acts. -/
theorem canErrorsAndBusOff : Obligations.CanErrorsAndBusOff := by
  unfold Obligations.CanErrorsAndBusOff
  constructor
  · intro s n lec step hn hl ht hp hb hs
    exact ⟨exec_canBusError_receiving hn hl ht hp hb hs, fun r stamp => exec_canBusError_sending hn hl ht hp hb hs⟩
  · intro s n hn hp
    refine ⟨fun off => ?_, fun notOff => ?_⟩
    · exact ⟨exec_busoffHoldEnd_off hn hp off, exec_recover_asks hn off, exec_recover_busy hn off,
        exec_canRecoveryDone_off hn hp off⟩
    · exact ⟨exec_recover_notOff hn notOff, exec_busoffHoldEnd_notOff hn hp notOff, exec_canRecoveryDone_notOff hn hp notOff⟩

end Sys2Proof.Machine
end

section
/-!
SUPPORT. What the MC keeps while the journal grows: a journal entry, and with it the end of a command, changes the ring and its
statements only, and EVENT_ACK the events beside it.
-/

namespace Sys2Proof.Machine

/-- Of what the MC holds, only the journal's ring and its statements may differ. -/
def State.Journaled (s t : State) : Prop := t.mgt = { s.mgt with jrn := t.mgt.jrn, statements := t.mgt.statements }

section
variable {s t u : State}

theorem State.Journaled.refl (s : State) : s.Journaled s := rfl

theorem State.Journaled.comp (h : s.Journaled t) (h' : t.Journaled u) : s.Journaled u :=
  h'.trans (congrArg (fun m => { m with jrn := u.mgt.jrn, statements := u.mgt.statements }) h)

theorem State.Journaled.events (h : s.Journaled t) : t.mgt.events = s.mgt.events := congrArg (fun m => m.events) h

theorem State.Journaled.execQ (h : s.Journaled t) : t.mgt.execQ = s.mgt.execQ := congrArg (fun m => m.execQ) h

end

theorem forEach_journaled {α : Type} (f : α → State → State) (hf : ∀ x s, State.Journaled s (f x s)) (l : List α)
    (s : State) : s.Journaled (forEach l f s) := by
  induction l generalizing s with
  | nil => exact State.Journaled.refl s
  | cons x r ih => exact (hf x s).comp (ih (f x s))

section
variable (s : State)

theorem State.appendRaw_journaled (kind origin opcode cseq part : Nat) (data : List Byte) :
    s.Journaled (s.appendRaw kind origin opcode cseq part data) := rfl

theorem State.putStatement_journaled (e : JEntry) : s.Journaled (s.putStatement e) := by
  unfold State.putStatement
  simp only
  split <;> rfl

theorem State.checkpoint_journaled (origin opcode cseq : Nat) : s.Journaled (s.checkpoint origin opcode cseq) := by
  have entry := s.appendRaw_journaled 7 origin opcode cseq 0 (beBytes 4 s.signPosition)
  unfold State.checkpoint
  simp only
  split
  · exact entry
  · exact entry.comp (State.putStatement_journaled _ _)

theorem State.appendGroup_journaled (origin opcode cseq : Nat) (l : List (Nat × Nat × List Byte)) :
    s.Journaled (s.appendGroup origin opcode cseq l) := by
  have entries := forEach_journaled (fun (e : Nat × Nat × List Byte) s => s.appendRaw e.1 origin opcode cseq e.2.1 e.2.2)
    (fun e s => s.appendRaw_journaled e.1 origin opcode cseq e.2.1 e.2.2) l s
  unfold State.appendGroup
  split
  · exact State.Journaled.refl s
  · simp only
    split
    · exact entries.comp (State.checkpoint_journaled _ _ _ _)
    · exact entries

/-- A command that ends leaves the execution queue, and its COMPLETION entry goes to the journal. -/
theorem State.endCmd_journaled (c : Cmd) (status result : Nat) : s.popExec.Journaled (s.endCmd c status result) :=
  s.popExec.appendGroup_journaled _ _ _ _

variable {s}

theorem State.execHead_of {c : Cmd} {rest : List Cmd} (hr : s.mcRuns = true) (hq : s.mgt.execQ = c :: rest) :
    s.execHead c.opcode = some c := by
  simp [State.execHead, hq, hr]

/-! ## EVENT_ACK (spec/16, R473) -/

/-- EVENT_ACK removes the event it names and every earlier one, and ends as every command does. -/
theorem exec_eventAck_removes {c : Cmd} {rest : List Cmd} (hr : s.mcRuns = true) (hq : s.mgt.execQ = c :: rest)
    (hop : c.opcode = 0x80) :
    ∃ t, exec .eventAck s = .next t ∧ s.Only t [.regs, .mgt, .key] ∧ t.mgt.execQ = rest ∧ s.RegsBut t journalKeys ∧
      t.mgt.events = s.mgt.events.filter (fun e => decide (2 ^ 31 ≤ (beAt c.body 0 4 + 2 ^ 32 - e.seq) % 2 ^ 32)) := by
  set u : State := { s with mgt := { s.mgt with
    events := s.mgt.events.filter (fun e => decide (2 ^ 31 ≤ (beAt c.body 0 4 + 2 ^ 32 - e.seq) % 2 ^ 32)) } }
  have head : s.execHead 0x80 = some c := hop ▸ State.execHead_of hr hq
  have acked : s.eventAck = u.endCmd c 0 0 := by rw [State.eventAck, head]
  have only : s.Only (u.endCmd c 0 0) [.regs, .mgt, .key] := State.Only.comp (t := u) rfl (u.endCmd_only c 0 0)
  have ended := u.endCmd_journaled c 0 0
  refine ⟨_, exec_eventAck s hr, ?_⟩
  rw [acked, only.confine _ rfl]
  refine ⟨only, ?_, (u.endCmd_regsBut c 0 0).from rfl, ended.events⟩
  rw [ended.execQ]
  exact congrArg (List.drop 1) hq

end

end Sys2Proof.Machine
end

section
/-!
SUPPORT. MGT_SPI (spec/16, R459, R460): the status byte, the oldest response and the oldest event as they are clocked out.
-/

namespace Sys2Proof.Machine

/-- A byte of four bits shows each of them in its place. -/
theorem fourBits_shown (a b c d : Bool) {v : Byte} (hv : v = BitVec.ofNat 8 (b2n a + 2 * b2n b + 4 * b2n c + 8 * b2n d)) :
    v.getLsbD 0 = a ∧ v.getLsbD 1 = b ∧ v.getLsbD 2 = c ∧ v.getLsbD 3 = d ∧ v.toNat < 16 := by
  subst hv
  revert a b c d
  decide

section
variable {s : State} (hr : s.mcRuns = true)
include hr

theorem exec_readStatus_shows : ∃ t b, exec .readStatus s = .next t ∧ t.out = .spi [b] :: s.out ∧
    b.getLsbD 0 = !s.mgt.respSpi.isEmpty ∧ b.getLsbD 1 = !s.mgt.events.isEmpty ∧
    b.getLsbD 2 = decide (16 ≤ s.mgt.cmdQ.length) ∧ b.getLsbD 3 = decide (0xC ≤ s.fld F.BOOT_STATUS_STATE) ∧ b.toNat < 16 ∧
    s.Only t [.out] := by
  obtain ⟨ready, event, full, limited, bound⟩ := fourBits_shown (!s.mgt.respSpi.isEmpty) (!s.mgt.events.isEmpty)
    (decide (16 ≤ s.mgt.cmdQ.length)) (decide (0xC ≤ s.fld F.BOOT_STATUS_STATE)) (v := BitVec.ofNat 8 s.spiStatus) rfl
  exact ⟨_, _, exec_readStatus s hr, rfl, ready, event, full, limited, bound, s.only_confine _ _⟩

/-- A response is removed only by a transfer that clocks out the sync byte and all of it. -/
theorem exec_readResponse_oldest (n : Nat) {m : List Byte} {r : List (List Byte)} (hq : s.mgt.respSpi = m :: r) :
    ∃ t, exec (.readResponse n) s = .next t ∧ t.out = .spi (padTo n 0 (0xA5 :: m)) :: s.out ∧
      t.mgt = { s.mgt with respSpi := if m.length < n then r else m :: r } ∧ s.Only t [.mgt, .out] := by
  refine ⟨_, exec_readResponse s n hr, ?_⟩
  have shown : s.spiResponse n = { s.emit (.spi (padTo n 0 (0xA5 :: m))) with
      mgt := { s.mgt with respSpi := if m.length < n then r else m :: r } } := by
    unfold State.spiResponse
    rw [hq]
    by_cases whole : m.length < n
    · simp [whole, State.emit]
    · simp [whole, State.emit, ← hq]
  rw [shown]
  exact ⟨rfl, rfl, rfl⟩

theorem exec_readResponse_none (n : Nat) (hq : s.mgt.respSpi = []) :
    ∃ t, exec (.readResponse n) s = .next t ∧ t.out = .spi (List.replicate n 0) :: s.out ∧ s.Only t [.out] := by
  refine ⟨_, exec_readResponse s n hr, ?_⟩
  have shown : s.spiResponse n = s.emit (.spi (List.replicate n 0)) := by rw [State.spiResponse, hq]
  rw [shown]
  exact ⟨rfl, rfl⟩

/-- The oldest event goes out under the key of EVT_ORIGIN; a RETIRED unit has no such key and shows zeros, as log entry 72 chooses. -/
theorem exec_readEvent_oldest (n : Nat) {e : EvMsg} {r : List EvMsg} (hq : s.mgt.events = e :: r) :
    ∃ t, exec (.readEvent n) s = .next t ∧ s.Only t [.out] ∧
      (s.lcState < 4 → t.out = .spi (padTo n 0 (0xA5 :: message (s.cmdKey (s.fld F.MGT_CFG_EVT_ORIGIN)) 0xC2
        (s.fld F.MGT_CFG_EVT_ORIGIN) e.seq e.code e.body)) :: s.out) ∧
      (4 ≤ s.lcState → t.out = .spi (List.replicate n 0) :: s.out) := by
  refine ⟨_, exec_readEvent s n hr, ?_⟩
  have shown : s.spiEvent n =
      s.emit (.spi (if s.lcState < 4 then padTo n 0 (0xA5 :: s.eventMessage e) else List.replicate n 0)) := by
    rw [State.spiEvent, hq]
  rw [shown]
  refine ⟨rfl, fun active => ?_, fun retired => ?_⟩
  · rw [if_pos active]
    rfl
  · rw [if_neg (Nat.not_lt.mpr retired)]
    rfl

theorem exec_readEvent_none (n : Nat) (hq : s.mgt.events = []) :
    ∃ t, exec (.readEvent n) s = .next t ∧ s.Only t [.out] ∧ t.out = .spi (List.replicate n 0) :: s.out := by
  refine ⟨_, exec_readEvent s n hr, ?_⟩
  have shown : s.spiEvent n = s.emit (.spi (List.replicate n 0)) := by rw [State.spiEvent, hq]
  rw [shown]
  exact ⟨rfl, rfl⟩

end

end Sys2Proof.Machine
end

section
/-!
SUPPORT. Words that are latched in a row of registers (spec/16, R480), a LO/HI pair that is set, and the state that a POP register or
the write of JRN_RD_INDEX leaves.
-/

namespace Sys2Proof.Machine

/-! ## A row of registers -/

theorem forEach_append {α : Type} (f : α → State → State) (l m : List α) (s : State) :
    forEach (l ++ m) f s = forEach m f (forEach l f s) := by
  induction l generalizing s with
  | nil => rfl
  | cons x r ih => exact ih (f x s)

/-- The words of a byte list are put into the first `n` registers of a row. -/
def State.latchRow (s : State) (key : Nat → Nat) (n : Nat) (b : List Byte) : State :=
  forEach (List.range n) (fun j s => s.setReg (key j) (BitVec.ofNat 32 (beAt b (4 * j) 4))) s

section
variable (s : State) {key : Nat → Nat} (b : List Byte)

theorem State.showBytes_eq (key : Nat → Nat) : s.showBytes key b = s.latchRow key 16 b := rfl

theorem State.latchRow_succ (key : Nat → Nat) (n : Nat) :
    s.latchRow key (n + 1) b = (s.latchRow key n b).setReg (key n) (BitVec.ofNat 32 (beAt b (4 * n) 4)) := by
  rw [State.latchRow, List.range_succ, forEach_append]
  rfl

theorem State.latchRow_only (n : Nat) : s.Only (s.latchRow key n b) [.regs] := by
  induction n with
  | zero => exact s.only_refl _
  | succ n ih =>
    rw [State.latchRow_succ]
    exact ih.comp rfl

theorem State.latchRow_mgt (n : Nat) : (s.latchRow key n b).mgt = s.mgt :=
  forEach_part (List.range n) (fun j s => s.setReg (key j) (BitVec.ofNat 32 (beAt b (4 * j) 4))) State.mgt (fun _ _ => rfl) s

theorem State.latchRow_regsBut (n : Nat) : s.RegsBut (s.latchRow key n b) ((List.range n).map key) := by
  induction n with
  | zero => exact State.RegsBut.refl s _
  | succ n ih =>
    rw [State.latchRow_succ, List.range_succ, List.map_append]
    exact ih.trans (State.regsBut_setReg _ _ _)

theorem State.latchRow_reg (hk : Function.Injective key) {n j : Nat} (hj : j < n) :
    (s.latchRow key n b).reg (key j) = BitVec.ofNat 32 (beAt b (4 * j) 4) := by
  induction n with
  | zero => exact absurd hj (Nat.not_lt_zero j)
  | succ n ih =>
    rw [State.latchRow_succ, State.reg_setReg]
    split
    · next last => rw [hk last]
    · next before => exact ih (by have : j ≠ n := fun h => before (h ▸ rfl); omega)

/-- Every state with the registers so latched shows the words of the list. -/
theorem State.latchRow_shown (hk : Function.Injective key) {n : Nat} {t : State} (h : t.regs = (s.latchRow key n b).regs) :
    (∀ j, j < n → t.reg (key j) = BitVec.ofNat 32 (beAt b (4 * j) 4)) ∧ s.RegsBut t ((List.range n).map key) :=
  ⟨fun j hj => (State.reg_congr h (key j)).trans (s.latchRow_reg b hk hj), (s.latchRow_regsBut b n).after h⟩

end

theorem evtData_injective : Function.Injective K.EVT_DATA := fun i j h => by simp only [K.EVT_DATA] at h; omega

theorem jrnRdData_injective : Function.Injective K.JRN_RD_DATA := fun i j h => by simp only [K.JRN_RD_DATA] at h; omega

theorem beAt_zeros : ∀ j < 12, beAt (List.replicate 48 0) (4 * j) 4 = 0 := by decide

/-! ## A pair -/

section
variable (s : State) {lo hi : Nat}

theorem State.pair_setReg_halves (h : lo ≠ hi) (l m : Word) :
    ((s.setReg lo l).setReg hi m).pair lo hi = l.toNat + 2 ^ 32 * m.toNat := by
  rw [State.pair, State.reg_setReg_other _ _ h.symm, State.reg_setReg_same, State.reg_setReg_same]
  rfl

theorem State.pair_setPair (h : lo ≠ hi) {v : Nat} (hv : v < 2 ^ 64) : (s.setPair lo hi v).pair lo hi = v := by
  rw [State.setPair, s.pair_setReg_halves h, BitVec.toNat_ofNat, BitVec.toNat_ofNat]
  omega

end

/-! ## BUF_QLOG, NM_LOG and SAF_LOG -/

theorem popWord_eq (l : List Word) (empty : Word) : popWord l empty = (l.headD empty, l.drop 1) := by cases l <;> rfl

section
variable {s : State} (hr : s.mcRuns = true)
include hr

theorem exec_bufQlogPop_oldest : ∃ t, exec .bufQlogPop s = .next t ∧ t.busData = s.bufLog.headD 0 ∧
    t.bufLog = s.bufLog.drop 1 ∧ s.Only t [.busData, .bufLog] := by
  refine ⟨_, exec_bufQlogPop s hr, ?_⟩
  rw [State.popBufLog, popWord_eq]
  exact ⟨rfl, rfl, rfl⟩

theorem exec_nmLogPop_oldest : ∃ t, exec .nmLogPop s = .next t ∧ t.busData = s.nmLog.headD 0x00FF0000 ∧
    t.nmLog = s.nmLog.drop 1 ∧ s.Only t [.busData, .nmLog] := by
  refine ⟨_, exec_nmLogPop s hr, ?_⟩
  rw [State.popNmLog, popWord_eq]
  exact ⟨rfl, rfl, rfl⟩

theorem exec_safLogPop_oldest : ∃ t, exec .safLogPop s = .next t ∧ t.busData = s.safLog.headD 0 ∧
    t.safLog = s.safLog.drop 1 ∧ s.Only t [.busData, .safLog] := by
  refine ⟨_, exec_safLogPop s hr, ?_⟩
  rw [State.popSafLog, popWord_eq]
  exact ⟨rfl, rfl, rfl⟩

end

/-! ## BRG_PWFL -/

/-- The address and time of a failed write are latched beside BRG_PWFL. -/
def State.latchFailure (s : State) (addr time : Nat) : State :=
  ((s.setReg K.BRG_PWFL_ADDR (BitVec.ofNat 32 addr)).setFld F.BRG_PWFL_TIME_NS_TIME (nsOf time)).setPair
    K.BRG_PWFL_TIME_S_LO K.BRG_PWFL_TIME_S_HI (secOf time)

section
variable (s : State) (addr time : Nat)

theorem State.latchFailure_addr : (s.latchFailure addr time).reg K.BRG_PWFL_ADDR = BitVec.ofNat 32 addr := by
  simp [State.latchFailure, State.setPair, State.setFld, State.reg_setReg, K.BRG_PWFL_ADDR, K.BRG_PWFL_TIME_S_LO,
    K.BRG_PWFL_TIME_S_HI, F.BRG_PWFL_TIME_NS_TIME, K.BRG_PWFL_TIME_NS]

theorem State.latchFailure_ns : (s.latchFailure addr time).fld F.BRG_PWFL_TIME_NS_TIME = nsOf time := by
  have bound : nsOf time < 2 ^ 30 := (Nat.mod_lt time (by decide)).trans (by decide)
  rw [State.latchFailure, (State.regsBut_setPair _ _ _ _).fld (by decide), State.fld_setFld_same _ _ _ (by decide) (by decide)]
  exact Nat.mod_eq_of_lt bound

theorem State.latchFailure_sec :
    (s.latchFailure addr time).pair K.BRG_PWFL_TIME_S_LO K.BRG_PWFL_TIME_S_HI = secOf time :=
  State.pair_setPair _ (by decide) ((Nat.mod_lt _ (by decide)).trans (by decide))

theorem State.latchFailure_regsBut : s.RegsBut (s.latchFailure addr time)
    [K.BRG_PWFL_ADDR, K.BRG_PWFL_TIME_NS, K.BRG_PWFL_TIME_S_LO, K.BRG_PWFL_TIME_S_HI] :=
  ((s.regsBut_setReg _ _).trans (State.regsBut_setFld _ _ _)).trans (State.regsBut_setPair _ _ _ _)

/-- Every state with the registers so latched shows the failed write. -/
theorem State.latchFailure_shown {t : State} (h : t.regs = (s.latchFailure addr time).regs) :
    t.reg K.BRG_PWFL_ADDR = BitVec.ofNat 32 addr ∧ t.fld F.BRG_PWFL_TIME_NS_TIME = nsOf time ∧
      t.pair K.BRG_PWFL_TIME_S_LO K.BRG_PWFL_TIME_S_HI = secOf time ∧
      s.RegsBut t [K.BRG_PWFL_ADDR, K.BRG_PWFL_TIME_NS, K.BRG_PWFL_TIME_S_LO, K.BRG_PWFL_TIME_S_HI] := by
  refine ⟨?_, ?_, ?_, (s.latchFailure_regsBut addr time).after h⟩
  · rw [State.reg_congr h, s.latchFailure_addr]
  · rw [State.fld_congr h, s.latchFailure_ns]
  · rw [State.pair, State.reg_congr h, State.reg_congr h]
    exact s.latchFailure_sec addr time

end

theorem State.popPwfl_nil {s : State} (hq : s.mgt.pwfl = []) :
    s.popPwfl.regs = (s.latchFailure 0 0).regs ∧ s.popPwfl.busData = 0 ∧ s.popPwfl.mgt = s.mgt := by
  rw [State.popPwfl, hq]
  exact ⟨rfl, rfl, rfl⟩

theorem State.popPwfl_cons {s : State} {e : Pwfl} {r : List Pwfl} (hq : s.mgt.pwfl = e :: r) :
    s.popPwfl.regs = (s.latchFailure e.addr e.time).regs ∧
      s.popPwfl.busData = BitVec.ofNat 32 (e.cause * 0x1000000 + e.tag) ∧ s.popPwfl.mgt = { s.mgt with pwfl := r } := by
  rw [State.popPwfl, hq]
  exact ⟨rfl, rfl, rfl⟩

theorem exec_brgPwflPop_oldest {s : State} (hr : s.mcRuns = true) :
    ∃ t, exec .brgPwflPop s = .next t ∧ t.mgt = { s.mgt with pwfl := s.mgt.pwfl.drop 1 } ∧
      (∀ e r, s.mgt.pwfl = e :: r → t.busData = BitVec.ofNat 32 (e.cause * 0x1000000 + e.tag) ∧
        t.reg K.BRG_PWFL_ADDR = BitVec.ofNat 32 e.addr ∧ t.fld F.BRG_PWFL_TIME_NS_TIME = nsOf e.time ∧
        t.pair K.BRG_PWFL_TIME_S_LO K.BRG_PWFL_TIME_S_HI = secOf e.time) ∧
      (s.mgt.pwfl = [] → t.busData = 0 ∧ t.reg K.BRG_PWFL_ADDR = 0) ∧
      s.RegsBut t [K.BRG_PWFL_ADDR, K.BRG_PWFL_TIME_NS, K.BRG_PWFL_TIME_S_LO, K.BRG_PWFL_TIME_S_HI] ∧
      s.Only t [.regs, .busData, .mgt] := by
  have only := s.only_confine s.popPwfl [.regs, .busData, .mgt]
  refine ⟨_, exec_brgPwflPop s hr, ?_⟩
  cases hq : s.mgt.pwfl with
  | nil =>
    obtain ⟨regs, empty, mgt⟩ := State.popPwfl_nil hq
    obtain ⟨addr, -, -, others⟩ := s.latchFailure_shown 0 0 (t := s.confine [.regs, .busData, .mgt] s.popPwfl) regs
    have kept : s.mgt = { s.mgt with pwfl := [] } := by rw [← hq]
    exact ⟨mgt.trans kept, fun _ _ h => absurd h (List.cons_ne_nil _ _).symm, fun _ => ⟨empty, addr⟩, others, only⟩
  | cons e r =>
    obtain ⟨regs, head, mgt⟩ := State.popPwfl_cons hq
    obtain ⟨addr, ns, sec, others⟩ :=
      s.latchFailure_shown e.addr e.time (t := s.confine [.regs, .busData, .mgt] s.popPwfl) regs
    refine ⟨mgt, fun e' r' h => ?_, fun h => absurd h (List.cons_ne_nil _ _), others, only⟩
    obtain ⟨rfl, -⟩ := List.cons.inj h
    exact ⟨head, addr, ns, sec⟩

/-! ## EVT_POP -/

theorem State.popEvent_nil {s : State} (hq : s.mgt.events = []) :
    s.popEvent.regs = (s.latchRow K.EVT_DATA 12 (List.replicate 48 0)).regs ∧ s.popEvent.busData = 0 ∧ s.popEvent.mgt = s.mgt := by
  have popped : s.popEvent = { s.latchRow K.EVT_DATA 12 (List.replicate 48 0) with busData := 0 } := by
    rw [State.popEvent, hq]
    rfl
  simp only [popped, State.latchRow_mgt, and_self]

theorem State.popEvent_cons {s : State} {e : EvMsg} {r : List EvMsg} (hq : s.mgt.events = e :: r) :
    s.popEvent.regs = (s.latchRow K.EVT_DATA 12 e.body).regs ∧
      s.popEvent.busData = BitVec.ofNat 32 (e.code * 0x10000 + e.seq % 0x10000) ∧
      s.popEvent.mgt = { s.mgt with events := r } := by
  have popped : s.popEvent = { s.latchRow K.EVT_DATA 12 e.body with
      mgt := { (s.latchRow K.EVT_DATA 12 e.body).mgt with events := r },
      busData := BitVec.ofNat 32 (e.code * 0x10000 + e.seq % 0x10000) } := by
    rw [State.popEvent, hq]
    rfl
  simp only [popped, State.latchRow_mgt, and_self]

theorem exec_evtPop_oldest {s : State} (hr : s.mcRuns = true) :
    ∃ t, exec .evtPop s = .next t ∧ t.mgt = { s.mgt with events := s.mgt.events.drop 1 } ∧
      (∀ e r, s.mgt.events = e :: r → t.busData = BitVec.ofNat 32 (e.code * 0x10000 + e.seq % 0x10000) ∧
        ∀ j, j < 12 → t.reg (K.EVT_DATA j) = BitVec.ofNat 32 (beAt e.body (4 * j) 4)) ∧
      (s.mgt.events = [] → t.busData = 0 ∧ ∀ j, j < 12 → t.reg (K.EVT_DATA j) = 0) ∧
      s.RegsBut t ((List.range 12).map K.EVT_DATA) ∧ s.Only t [.regs, .busData, .mgt] := by
  have only := s.only_confine s.popEvent [.regs, .busData, .mgt]
  refine ⟨_, exec_evtPop s hr, ?_⟩
  cases hq : s.mgt.events with
  | nil =>
    obtain ⟨regs, empty, mgt⟩ := State.popEvent_nil hq
    obtain ⟨data, others⟩ := s.latchRow_shown _ evtData_injective (t := s.confine [.regs, .busData, .mgt] s.popEvent) regs
    have kept : s.mgt = { s.mgt with events := [] } := by rw [← hq]
    exact ⟨mgt.trans kept, fun _ _ h => absurd h (List.cons_ne_nil _ _).symm,
      fun _ => ⟨empty, fun j hj => (data j hj).trans (congrArg (BitVec.ofNat 32) (beAt_zeros j hj))⟩, others, only⟩
  | cons e r =>
    obtain ⟨regs, head, mgt⟩ := State.popEvent_cons hq
    obtain ⟨data, others⟩ := s.latchRow_shown _ evtData_injective (t := s.confine [.regs, .busData, .mgt] s.popEvent) regs
    refine ⟨mgt, fun e' r' h => ?_, fun h => absurd h (List.cons_ne_nil _ _), others, only⟩
    obtain ⟨rfl, -⟩ := List.cons.inj h
    exact ⟨head, data⟩

end Sys2Proof.Machine
end

section
/-!
SUPPORT. The write of JRN_RD_INDEX (spec/16, R480), and with it the answers of MGT_SPI and of the POP registers.
-/

namespace Sys2Proof.Machine

/-! ## The journal's read registers -/

section
variable (s : State)

/-- JRN_RD_DATA shows the entry that JRN_RD_INDEX names, or zeros, and GONE tells which. -/
theorem State.loadEntry_shows {j : Nat} (hj : s.pair K.JRN_RD_INDEX_LO K.JRN_RD_INDEX_HI = j) :
    s.Only s.loadEntry [.regs] ∧ s.RegsBut s.loadEntry (K.JRN_STATUS :: (List.range 16).map K.JRN_RD_DATA) ∧
      s.loadEntry.flag F.JRN_STATUS_GONE = (s.entryOf j).isNone ∧
      ∀ k, k < 16 → s.loadEntry.reg (K.JRN_RD_DATA k) =
        BitVec.ofNat 32 (beAt (((s.entryOf j).map JEntry.bytes).getD (List.replicate 64 0)) (4 * k) 4) := by
  have loaded : s.loadEntry = (s.latchRow K.JRN_RD_DATA 16 (((s.entryOf j).map JEntry.bytes).getD (List.replicate 64 0))).setFld
      F.JRN_STATUS_GONE (b2n (s.entryOf j).isNone) := by
    simp only [State.loadEntry, hj, State.showBytes_eq]
    cases s.entryOf j <;> rfl
  rw [loaded]
  set b := ((s.entryOf j).map JEntry.bytes).getD (List.replicate 64 0)
  refine ⟨(s.latchRow_only b 16).comp rfl, ?_, ?_, fun k hk => ?_⟩
  · exact ((s.latchRow_regsBut b 16).mono (fun _ h => List.mem_cons_of_mem _ h)).comp
      ((State.regsBut_setFld _ _ _).mono (fun _ h => List.mem_singleton.mp h ▸ List.mem_cons_self))
  · rw [State.flag_setFld_same _ _ _ rfl (by decide)]
    cases (s.entryOf j).isNone <;> rfl
  · have apart : F.JRN_STATUS_GONE.key ≠ K.JRN_RD_DATA k := by
      simp only [F.JRN_STATUS_GONE, K.JRN_STATUS, K.JRN_RD_DATA]; omega
    rw [State.reg_setFld_other _ _ _ apart, s.latchRow_reg b jrnRdData_injective hk]

/-! ## The write of JRN_RD_INDEX HI -/

/-- The register JRN_RD_INDEX_HI, all of whose bits are RW. -/
def jrnRdIndexHiDesc : RegDesc := ⟨K.JRN_RD_INDEX_HI, 1, 0, 1, 0xFFFFFFFF, 0, 0, 0, .const 0⟩

theorem regHere_jrnRdIndexHi : s.regHere K.JRN_RD_INDEX_HI = some (jrnRdIndexHiDesc, K.JRN_RD_INDEX_HI) := by
  have here : regAt K.JRN_RD_INDEX_HI = some (jrnRdIndexHiDesc, 0) := by decide
  rw [State.regHere, here]
  rfl

theorem jrnRdIndexHiDesc_after (w v : Word) : jrnRdIndexHiDesc.after w 0xFFFFFFFF v = v := by
  rw [RegDesc.after_rw _ rfl rfl]
  simp only [word_ones, BitVec.not_allOnes, BitVec.and_zero, BitVec.zero_or, BitVec.and_allOnes]

/-- The state with both halves of JRN_RD_INDEX stored, and no LO half held any more. -/
def State.storeIndex (s : State) (lo hi : Word) : State :=
  ({ s with heldLo := mapErase K.JRN_RD_INDEX_LO s.heldLo }.setReg K.JRN_RD_INDEX_LO lo).setReg K.JRN_RD_INDEX_HI hi

variable {lo : Word} (hl : mapGet (fun _ => none) s.heldLo K.JRN_RD_INDEX_LO = some lo) (hi : Word)
include hl

theorem State.writeHi_jrnRdIndex :
    s.writeHi jrnRdIndexHiDesc K.JRN_RD_INDEX_LO K.JRN_RD_INDEX_LO K.JRN_RD_INDEX_HI 0xFFFFFFFF hi =
      (s.storeIndex lo hi).loadEntry := by
  have plain : isSaPair K.JRN_RD_INDEX_LO = false := by decide
  simp only [State.writeHi, plain, State.takeLo, hl, jrnRdIndexHiDesc_after, Bool.false_eq_true, if_false, Option.getD_some]
  rfl

theorem State.busWrite_jrnRdIndexHi : s.busWrite K.JRN_RD_INDEX_HI 0xFFFFFFFF hi = (s.storeIndex lo hi).loadEntry := by
  have cnt : isCntCtrl K.JRN_RD_INDEX_HI = false := by decide
  have half : (isPairLo K.JRN_RD_INDEX_HI || (decide (4 ≤ K.JRN_RD_INDEX_HI) && isPairLo (K.JRN_RD_INDEX_HI - 4))) = true := by
    decide
  have notLo : isPairLo K.JRN_RD_INDEX_HI = false := by decide
  have block : s.blockWrite jrnRdIndexHiDesc K.JRN_RD_INDEX_HI K.JRN_RD_INDEX_HI 0xFFFFFFFF hi =
      (s.storeIndex lo hi).loadEntry := by
    rw [State.blockWrite, cnt, half, ← s.writeHi_jrnRdIndex hl hi]
    simp only [State.writePair, notLo, Bool.false_eq_true, if_false, if_true]
    rfl
  have only : s.Only (s.storeIndex lo hi).loadEntry [.regs, .heldLo] :=
    State.Only.comp (t := s.storeIndex lo hi) rfl (((s.storeIndex lo hi).loadEntry_shows rfl).1.mono _ rfl)
  rw [s.busWrite_block _ _ jrnRdIndexHiDesc _ _ (by decide) (by decide) (regHere_jrnRdIndexHi s) (block ▸ only) rfl, block]

end

/-- A write that changes registers and held LO halves alone is followed by the pulse outputs alone. -/
theorem State.settled_plain {s x : State} {f : State → State} (hx : f s.unstepped = x) (ho : s.unstepped.Only x [.regs, .heldLo]) :
    s.settled f = x.ppsAll ∧ s.Only x.ppsAll [.regs, .heldLo, .time, .out] := by
  have step : x.time.stepped = false := by rw [← ho]; rfl
  refine ⟨?_, ((s.unstepped_only.mono _ rfl).comp (ho.mono _ rfl)).comp (x.ppsAll_only.mono _ rfl)⟩
  rw [← x.settleTime_plain step, ← hx]
  rfl

/-- The write of JRN_RD_INDEX HI stores the pair, drops the held LO half and loads the entry that the pair names. -/
theorem exec_jrnRdIndexWrite_loads {s : State} (hr : s.mcRuns = true) {lo : Word}
    (hl : mapGet (fun _ => none) s.heldLo K.JRN_RD_INDEX_LO = some lo) (hi : Word) {j : Nat}
    (hj : j = lo.toNat + 2 ^ 32 * hi.toNat) :
    ∃ t, exec (.jrnRdIndexWrite hi) s = .next t ∧ t.pair K.JRN_RD_INDEX_LO K.JRN_RD_INDEX_HI = j ∧
      t.flag F.JRN_STATUS_GONE = (s.entryOf j).isNone ∧
      (∀ k, k < 16 → t.reg (K.JRN_RD_DATA k) =
        BitVec.ofNat 32 (beAt (((s.entryOf j).map JEntry.bytes).getD (List.replicate 64 0)) (4 * k) 4)) ∧
      mapGet (fun _ => none) t.heldLo K.JRN_RD_INDEX_LO = none := by
  set u : State := s.unstepped.storeIndex lo hi
  have index : u.pair K.JRN_RD_INDEX_LO K.JRN_RD_INDEX_HI = j := (State.pair_setReg_halves _ (by decide) lo hi).trans hj.symm
  obtain ⟨only, others, gone, data⟩ := u.loadEntry_shows index
  have stored : s.unstepped.Only u.loadEntry [.regs, .heldLo] := State.Only.comp (t := u) rfl (only.mono _ rfl)
  obtain ⟨settled, whole⟩ := State.settled_plain (f := fun s => s.busWrite K.JRN_RD_INDEX_HI 0xFFFFFFFF hi)
    (s.unstepped.busWrite_jrnRdIndexHi hl hi) stored
  have regs : u.loadEntry.ppsAll.regs = u.loadEntry.regs := u.loadEntry.ppsAll_only.regs rfl
  have heldLo : u.loadEntry.ppsAll.heldLo = u.heldLo := by rw [State.ppsAll, State.confine_heldLo, ← only]; rfl
  refine ⟨_, exec_jrnRdIndexWrite s hi hr, ?_⟩
  rw [settled, whole.confine _ rfl]
  refine ⟨?_, ?_, fun k hk => ?_, ?_⟩
  · rw [State.pair, State.reg_congr regs, State.reg_congr regs, others _ (by decide), others _ (by decide)]
    exact index
  · rw [State.flag_congr regs, gone]
    rfl
  · rw [State.reg_congr regs, data k hk]
    rfl
  · rw [heldLo]
    exact mapGet_mapErase_same _ _ s.heldLo

/-- Settles O56: each command of MGT_SPI shows the head of its queue and removes what its rule says, and each POP register answers the
head of its log and leaves the rest; the write of JRN_RD_INDEX stores both halves and loads the entry they name. -/
theorem spiAndPopsTakeTheOldest : Obligations.SpiAndPopsTakeTheOldest := by
  unfold Obligations.SpiAndPopsTakeTheOldest
  constructor
  · intro s hr
    exact ⟨exec_readStatus_shows hr, fun n _ _ => exec_readResponse_oldest hr n, exec_readResponse_none hr,
      fun n _ _ => exec_readEvent_oldest hr n, exec_readEvent_none hr, fun _ _ => exec_eventAck_removes hr⟩
  · intro s hr
    exact ⟨exec_bufQlogPop_oldest hr, exec_nmLogPop_oldest hr, exec_safLogPop_oldest hr, exec_brgPwflPop_oldest hr,
      exec_evtPop_oldest hr, fun _ hi _ hl => exec_jrnRdIndexWrite_loads hr hl hi⟩

end Sys2Proof.Machine
end

section
/-!
SUPPORT. The handover of a scratchpad bank (spec/17, R487, R488): what a request, the end of the drain and the end of the clearing
write of BANK_OWNER, and that the clearing reaches the bytes of its bank alone.
-/

namespace Sys2Proof.Machine

theorem forall_mem_two {α : Type} {p : α → Prop} {x y : α} (hx : p x) (hy : p y) : ∀ z ∈ [x, y], p z :=
  List.forall_mem_cons.mpr ⟨hx, List.forall_mem_singleton.mpr hy⟩

theorem State.setFlds_only (s : State) (l : List (Fld × Nat)) : s.Only (s.setFlds l) [.regs] := (s.setFlds_frame l).symm

/-- Only fields of BANK_OWNER of a bank are written. -/
def State.BankOwnerOnly (s t : State) (b : Nat) : Prop := s.RegsBut t [K.BANK_OWNER b] ∧ s.Only t [.regs]

section
variable {s : State} {b target : Nat} {l : List (Fld × Nat)}

theorem State.bankOwnerOnly_setFlds (hl : ∀ c ∈ l, c.1.key = K.BANK_OWNER b) : s.BankOwnerOnly (s.setFlds l) b :=
  ⟨s.regsBut_setFlds hl, s.setFlds_only l⟩

/-! ## A request (R487) -/

theorem State.handover_busy (h : s.bankState b ≠ 0) : s.handover b target = s.setFlds [(F.BANK_OWNER_ERR_BUSY b, 1)] := if_pos h

/-- A bank that is STABLE takes the target; what R487 rejects is decided by the state before. -/
theorem State.handover_stable (hb : b < 32) (h : s.bankState b = 0) :
    s.handover b target = if (s.fld F.BANK_STATUS_RESERVED).testBit b = true ∨ target = 3 ∨ target = s.bankOwner b
      then s.setFlds [(F.BANK_OWNER_TARGET b, target), (F.BANK_OWNER_REJECT b, 1)]
      else s.setFlds [(F.BANK_OWNER_TARGET b, target), (F.BANK_OWNER_STATE b, 1)] := by
  have other : K.BANK_OWNER b ≠ K.BANK_STATUS := by unfold K.BANK_OWNER K.BANK_STATUS; omega
  have reserved : (s.setFld (F.BANK_OWNER_TARGET b) target).fld F.BANK_STATUS_RESERVED = s.fld F.BANK_STATUS_RESERVED :=
    s.fld_setFld_key _ _ _ other
  have owner : (s.setFld (F.BANK_OWNER_TARGET b) target).bankOwner b = s.bankOwner b :=
    s.fld_setFlds_apart (l := [(F.BANK_OWNER_TARGET b, target)]) (List.forall_mem_singleton.mpr (Fld.apart_mk _ (by decide)))
  simp only [State.handover, h, reserved, owner, Bool.or_eq_true, beq_iff_eq, or_assoc]
  rfl

theorem exec_handover_writes (hb : b < 32) (ht : target < 4) (hr : s.mcRuns = true) (h : s.handover b target = s.setFlds l) :
    exec (.handover b target) s = .next (s.setFlds l) := by
  have wf : Instr.wf (.handover b target) = true := by simp [Instr.wf, hb, ht]
  rw [exec_handover s b target wf hr, h, (s.setFlds_only l).confine _ rfl]

theorem exec_handover_busy (hb : b < 32) (ht : target < 4) (hr : s.mcRuns = true) (h : s.bankState b ≠ 0) :
    ∃ t, exec (.handover b target) s = .next t ∧ t.flag (F.BANK_OWNER_ERR_BUSY b) = true ∧ t.bankOwner b = s.bankOwner b ∧
      t.bankState b = s.bankState b ∧ s.BankOwnerOnly t b :=
  ⟨_, exec_handover_writes hb ht hr (State.handover_busy h), s.flag_setFld_same _ 1 rfl (by decide : 19 < 32),
    s.fld_setFlds_apart (List.forall_mem_singleton.mpr (Fld.apart_mk _ (by decide))),
    s.fld_setFlds_apart (List.forall_mem_singleton.mpr (Fld.apart_mk _ (by decide))),
    State.bankOwnerOnly_setFlds (List.forall_mem_singleton.mpr rfl)⟩

theorem exec_handover_rejected (hb : b < 32) (ht : target < 4) (hr : s.mcRuns = true) (h : s.bankState b = 0)
    (no : (s.fld F.BANK_STATUS_RESERVED).testBit b = true ∨ target = 3 ∨ target = s.bankOwner b) :
    ∃ t, exec (.handover b target) s = .next t ∧ t.flag (F.BANK_OWNER_REJECT b) = true ∧ t.bankOwner b = s.bankOwner b ∧
      t.bankState b = 0 ∧ s.BankOwnerOnly t b := by
  have taken := (State.handover_stable hb h).trans (if_pos no)
  refine ⟨_, exec_handover_writes hb ht hr taken, State.flag_setFld_same _ _ 1 rfl (by decide : 18 < 32),
    s.fld_setFlds_apart ?_, (s.fld_setFlds_apart ?_).trans h, State.bankOwnerOnly_setFlds ?_⟩
  · exact forall_mem_two (Fld.apart_mk _ (by decide)) (Fld.apart_mk _ (by decide))
  · exact forall_mem_two (Fld.apart_mk _ (by decide)) (Fld.apart_mk _ (by decide))
  · exact forall_mem_two rfl rfl

theorem exec_handover_starts (hb : b < 32) (ht : target < 4) (hr : s.mcRuns = true) (h : s.bankState b = 0)
    (free : (s.fld F.BANK_STATUS_RESERVED).testBit b = false) (h3 : target ≠ 3) (new : target ≠ s.bankOwner b) :
    ∃ t, exec (.handover b target) s = .next t ∧ t.bankState b = 1 ∧ t.fld (F.BANK_OWNER_TARGET b) = target ∧
      t.bridgeOwns b = false ∧ t.bankOwner b = s.bankOwner b ∧ s.BankOwnerOnly t b := by
  have no : ¬((s.fld F.BANK_STATUS_RESERVED).testBit b = true ∨ target = 3 ∨ target = s.bankOwner b) := by simp [free, h3, new]
  have taken := (State.handover_stable hb h).trans (if_neg no)
  set t : State := s.setFlds [(F.BANK_OWNER_TARGET b, target), (F.BANK_OWNER_STATE b, 1)]
  have draining : t.bankState b = 1 := State.fld_setFld_same _ _ 1 (by decide : 15 ≤ 16) (by decide : 16 < 32)
  refine ⟨t, exec_handover_writes hb ht hr taken, draining, s.fld_setFlds_head (by decide : 8 ≤ 9) (by decide : 9 < 32) ht ?_,
    by simp [State.bridgeOwns, draining], s.fld_setFlds_apart ?_, State.bankOwnerOnly_setFlds ?_⟩
  · exact List.forall_mem_singleton.mpr (Fld.apart_mk _ (by decide))
  · exact forall_mem_two (Fld.apart_mk _ (by decide)) (Fld.apart_mk _ (by decide))
  · exact forall_mem_two rfl rfl

/-! ## The drain and the clearing (R488) -/

theorem exec_bankDrainDone_inUse (hb : b < 32) (hp : s.powered = true) (hu : s.bankInUse b = true) :
    exec (.bankDrainDone b) s = .next s := by
  have stays : s.bankDrained b = s := if_neg (fun h => absurd hu (by simp [h.2]))
  rw [exec_bankDrainDone s b (decide_eq_true hb) hp, stays, s.confine_self]

theorem exec_bankDrainDone_drained (hb : b < 32) (hp : s.powered = true) (h : s.bankState b = 1) (hu : s.bankInUse b = false) :
    ∃ t, exec (.bankDrainDone b) s = .next t ∧ t.bankState b = 2 ∧ t.bankOwner b = s.bankOwner b ∧ s.BankOwnerOnly t b := by
  have drained : s.bankDrained b = s.setFlds [(F.BANK_OWNER_STATE b, 2)] := if_pos ⟨h, hu⟩
  refine ⟨s.setFlds [(F.BANK_OWNER_STATE b, 2)], ?_, s.fld_setFld_same _ 2 (by decide : 15 ≤ 16) (by decide : 16 < 32),
    s.fld_setFlds_apart (List.forall_mem_singleton.mpr (Fld.apart_mk _ (by decide))),
    State.bankOwnerOnly_setFlds (List.forall_mem_singleton.mpr rfl)⟩
  rw [exec_bankDrainDone s b (decide_eq_true hb) hp, drained, (s.setFlds_only _).confine _ rfl]

/-- The bank passes to the target, with DONE. -/
def State.passBank (s : State) (b : Nat) : State :=
  s.setFlds [(F.BANK_OWNER_OWNER b, s.fld (F.BANK_OWNER_TARGET b)), (F.BANK_OWNER_STATE b, 0), (F.BANK_OWNER_DONE b, 1)]

theorem State.bankCleared_clearing (h : s.bankState b = 2) :
    s.bankCleared b = (s.clearMem (0x20000 * b) (0x20000 * (b + 1))).passBank b := if_pos h

theorem State.passBank_shows (s : State) (b : Nat) : (s.passBank b).bankOwner b = s.fld (F.BANK_OWNER_TARGET b) ∧
    (s.passBank b).bankState b = 0 ∧ (s.passBank b).flag (F.BANK_OWNER_DONE b) = true ∧ s.BankOwnerOnly (s.passBank b) b := by
  set owned : State := s.setFld (F.BANK_OWNER_OWNER b) (s.fld (F.BANK_OWNER_TARGET b))
  have owner : (s.passBank b).bankOwner b = s.fld (F.BANK_OWNER_TARGET b) :=
    s.fld_setFlds_head (g := F.BANK_OWNER_OWNER b) (by decide : 0 ≤ 1) (by decide : 1 < 32) (s.fld_lt (F.BANK_OWNER_TARGET b))
      (forall_mem_two (Fld.apart_mk _ (by decide)) (Fld.apart_mk _ (by decide)))
  have stable : (s.passBank b).bankState b = 0 :=
    owned.fld_setFlds_head (g := F.BANK_OWNER_STATE b) (by decide : 15 ≤ 16) (by decide : 16 < 32) (Nat.two_pow_pos _)
      (List.forall_mem_singleton.mpr (Fld.apart_mk _ (by decide)))
  have done : (s.passBank b).flag (F.BANK_OWNER_DONE b) = true :=
    (owned.setFld (F.BANK_OWNER_STATE b) 0).flag_setFld_same (F.BANK_OWNER_DONE b) 1 rfl (by decide : 17 < 32)
  exact ⟨owner, stable, done, State.bankOwnerOnly_setFlds (List.forall_mem_cons.mpr ⟨rfl, forall_mem_two rfl rfl⟩)⟩

theorem exec_bankClearDone_passes (hb : b < 32) (hp : s.powered = true) (h : s.bankState b = 2) :
    ∃ t, exec (.bankClearDone b) s = .next t ∧ t.bankOwner b = s.fld (F.BANK_OWNER_TARGET b) ∧ t.bankState b = 0 ∧
      t.flag (F.BANK_OWNER_DONE b) = true ∧ (∀ a, 0x20000 * b ≤ a → a < 0x20000 * (b + 1) → t.readByte a = 0) ∧
      (∀ a, a < 0x20000 * b ∨ 0x20000 * (b + 1) ≤ a → t.readByte a = s.readByte a) ∧
      s.RegsBut t [K.BANK_OWNER b] ∧ s.Only t [.regs, .mem] := by
  set u : State := s.clearMem (0x20000 * b) (0x20000 * (b + 1))
  obtain ⟨owner, stable, done, regs, only⟩ := u.passBank_shows b
  have whole : s.Only (u.passBank b) [.regs, .mem] := State.Only.comp (t := u) rfl (only.mono _ rfl)
  have byte (a : Nat) : (u.passBank b).readByte a = if 0x20000 * b ≤ a ∧ a < 0x20000 * (b + 1) then 0 else s.readByte a :=
    (State.readByte_congr (only.mem rfl) a).trans (s.readByte_clearMem _ _ a)
  refine ⟨u.passBank b, ?_, owner, stable, done, fun a h1 h2 => (byte a).trans (if_pos ⟨h1, h2⟩),
    fun a ha => (byte a).trans (if_neg (by omega)), regs.from rfl, whole⟩
  rw [exec_bankClearDone s b (decide_eq_true hb) hp, State.bankCleared_clearing h, whole.confine _ rfl]

end

end Sys2Proof.Machine
end

section
/-!
SUPPORT. The pulse of a reset group that runs (spec/17, R502): no event, and nothing that a port ends with its link, touches it.
-/

namespace Sys2Proof.Machine

theorem State.Journaled.pulsing {s t : State} (h : s.Journaled t) : t.mgt.pulsing = s.mgt.pulsing := congrArg (fun m => m.pulsing) h

section
variable (s : State)

/-! ## Events and cells -/

theorem State.mcSend_pulsing (f : LaneFrame) : (s.mcSend f).mgt.pulsing = s.mgt.pulsing := by
  unfold State.mcSend; split <;> rfl

theorem State.queueEvent_pulsing (c : Nat) (b : List Byte) : (s.queueEvent c b).mgt.pulsing = s.mgt.pulsing := by
  unfold State.queueEvent
  split
  · rfl
  · dsimp only
    split
    · exact State.mcSend_pulsing _ _
    · rfl

@[simp] theorem State.raise_pulsing (c : Nat) (d : List Byte) : (s.raise c d).mgt.pulsing = s.mgt.pulsing :=
  (State.queueEvent_pulsing _ c _).trans (s.appendGroup_journaled 255 c 0 [(5, 0, d)]).pulsing

@[simp] theorem State.raiseFlag_pulsing (f : Fld) (d : List Byte) : (s.raiseFlag f d).mgt.pulsing = s.mgt.pulsing := by
  unfold State.raiseFlag; split <;> simp

@[simp] theorem State.bufEvent_pulsing (c i : Nat) : (s.bufEvent c i).mgt.pulsing = s.mgt.pulsing := by
  unfold State.bufEvent; split <;> simp

theorem State.returnCell_pulsing (c : Nat) : (s.returnCell c).mgt.pulsing = s.mgt.pulsing := by
  unfold State.returnCell; split <;> rfl

/-! ## Holds and copies -/

@[simp] theorem State.modFrame_mgt (h : Nat) (g : Frame → Frame) : (s.modFrame h g).mgt = s.mgt := by
  unfold State.modFrame; split <;> rfl

@[simp] theorem State.headTag_mgt (q st : Nat) : (s.headTag q st).mgt = s.mgt := by
  unfold State.headTag; split <;> rfl

@[simp] theorem State.returnChain_pulsing (h : Nat) : (s.returnChain h).mgt.pulsing = s.mgt.pulsing := by
  unfold State.returnChain
  split
  · rfl
  · exact forEach_part _ _ (fun s => s.mgt.pulsing) (fun c s => s.returnCell_pulsing c) s

@[simp] theorem State.release_pulsing (h : Nat) : (s.release h).mgt.pulsing = s.mgt.pulsing := by
  unfold State.release
  split
  · rfl
  · split
    · exact s.bufEvent_pulsing _ _
    · split
      · cases (s.info h).credit
        all_goals
          dsimp only
          split
          · exact State.returnChain_pulsing _ h
          · rfl
      · rfl

@[simp] theorem State.tryRelease_pulsing (h : Nat) : (s.tryRelease h).mgt.pulsing = s.mgt.pulsing := by
  unfold State.tryRelease
  split
  · rfl
  · split
    · exact State.release_pulsing _ h
    · rfl

@[simp] theorem State.endCopy_pulsing (q : Nat) (c : Copy) : (s.endCopy q c).mgt.pulsing = s.mgt.pulsing := by
  unfold State.endCopy
  split
  · rfl
  · dsimp only
    rw [State.release_pulsing]
    split
    · rw [State.modFrame_mgt]
    · rfl

@[simp] theorem State.dropCopies_pulsing (q : Nat) (f : Copy → Bool) : (s.dropCopies q f).mgt.pulsing = s.mgt.pulsing := by
  have each (l : List Copy) (s : State) : (forEach l (fun c s => s.endCopy q c) s).mgt.pulsing = s.mgt.pulsing :=
    forEach_part l _ (fun s => s.mgt.pulsing) (fun c s => s.endCopy_pulsing q c) s
  have tag (c : Bool) (st : Nat) (s : State) : (if c then s.headTag q st else s).mgt = s.mgt := by
    cases c
    · rfl
    · exact s.headTag_mgt q st
  unfold State.dropCopies
  dsimp only
  split
  · rfl
  · rw [each, tag]; rfl

@[simp] theorem State.markBad_pulsing (h : Nat) : (s.markBad h).mgt.pulsing = s.mgt.pulsing := by
  have each (l : List Nat) (f : Copy → Bool) (s : State) :
      (forEach l (fun q s => s.dropCopies q f) s).mgt.pulsing = s.mgt.pulsing :=
    forEach_part l _ (fun s => s.mgt.pulsing) (fun q s => s.dropCopies_pulsing q f) s
  unfold State.markBad
  split
  · rfl
  · split
    · rfl
    · dsimp only
      rw [State.tryRelease_pulsing]
      split
      · rw [State.modFrame_mgt]; exact each _ _ _
      · exact each _ _ _

/-! ## A link that changes -/

theorem State.putSa_mgt (p i : Nat) (w : List Word) : (s.putSa p i w).mgt = s.mgt :=
  forEach_part _ _ (fun s => s.mgt) (fun (c : Nat × Word) s => s.setReg_mgt c.1 c.2) s

@[simp] theorem State.applySaWait_mgt (p : Nat) : (s.applySaWait p).mgt = s.mgt := by
  unfold State.applySaWait
  split
  · rfl
  · exact forEach_part _ _ (fun s => s.mgt) (fun (c : Nat × List Word) s => s.putSa_mgt p (c.1 % 32) c.2) _

@[simp] theorem State.cutRx_pulsing (m : Nat) : (s.cutRx m).mgt.pulsing = s.mgt.pulsing := by
  unfold State.cutRx State.rxCut
  dsimp only
  split
  · split
    · rw [State.applySaWait_mgt]; rfl
    · rw [State.tryRelease_pulsing, State.modFrame_mgt, State.markBad_pulsing, State.modFrame_mgt, State.applySaWait_mgt]; rfl
  · rfl

@[simp] theorem State.abortTx_pulsing (m : Nat) : (s.abortTx m).mgt.pulsing = s.mgt.pulsing := by
  unfold State.abortTx
  split
  · rfl
  · exact State.endCopy_pulsing _ _ _

@[simp] theorem State.restartVerify_mgt (p : Nat) : (s.restartVerify p).mgt = s.mgt := rfl

theorem State.relink_pulsing (p : Nat) : (s.relink p).mgt.pulsing = s.mgt.pulsing := by
  unfold State.relink
  extract_lets s1 now s2 s3
  have first : s1.mgt = s.mgt := by unfold s1; split <;> rfl
  have changed : s2.mgt.pulsing = s1.mgt.pulsing := State.raiseFlag_pulsing _ _ _
  have ended : s3.mgt.pulsing = s2.mgt.pulsing := by simp [s3]
  rw [← first]
  split
  · rfl
  · split
    · split <;> exact changed
    · split <;> exact ended.trans changed

end

end Sys2Proof.Machine
end

section
/-!
SUPPORT. Holding and releasing a reset group (spec/17, R501): the one bit of RST_HELD changes, and what the members of the group do
touches neither RST_CTRL, RST_HELD nor the pulse that runs.
-/

namespace Sys2Proof.Machine

/-! ## What the members leave -/

/-- The registers of the clock and reset page, and the pulse that runs, are as they were. -/
structure State.ResetsKept (s t : State) : Prop where
  regs : ∀ k, k < 0x40000 → t.reg k = s.reg k
  pulsing : t.mgt.pulsing = s.mgt.pulsing

section
variable {s t u : State}

theorem State.ResetsKept.refl (s : State) : s.ResetsKept s := ⟨fun _ _ => rfl, rfl⟩

theorem State.ResetsKept.comp (h : s.ResetsKept t) (h' : t.ResetsKept u) : s.ResetsKept u :=
  ⟨fun k hk => (h'.regs k hk).trans (h.regs k hk), h'.pulsing.trans h.pulsing⟩

theorem resetsKept_of_parts (hr : t.regs = s.regs) (hm : t.mgt = s.mgt) : s.ResetsKept t :=
  ⟨fun k _ => State.reg_congr hr k, congrArg (fun m => m.pulsing) hm⟩

theorem resetsKept_setReg (s : State) {k : Nat} (hk : 0x40000 ≤ k) (w : Word) : s.ResetsKept (s.setReg k w) :=
  ⟨fun j hj => s.reg_setReg_other w (by omega), rfl⟩

theorem resetsKept_setFlds (s : State) {l : List (Fld × Nat)} (hl : ∀ c ∈ l, 0x40000 ≤ c.1.key) :
    s.ResetsKept (s.setFlds l) := by
  induction l generalizing s with
  | nil => exact State.ResetsKept.refl s
  | cons c r ih =>
    exact (resetsKept_setReg s (hl c List.mem_cons_self) _).comp (ih _ (fun d hd => hl d (List.mem_cons_of_mem _ hd)))

theorem State.ResetsKept.rstHeld (h : s.ResetsKept t) {k : Nat} (hk : k < 68) : t.rstHeld k = s.rstHeld k := by
  rw [State.rstHeld, h.regs _ (by unfold K.RST_HELD; omega), State.rstHeld]

theorem State.ResetsKept.flag (h : s.ResetsKept t) {f : Fld} (hf : f.key < 0x40000) : t.flag f = s.flag f :=
  State.flag_of_reg (h.regs _ hf)

end

section
variable (s : State)

/-! ## Ports -/

theorem State.relink_resetsKept {p : Nat} (hp : p < 34) : s.ResetsKept (s.relink p) := by
  refine ⟨fun k hk => (s.relink_linkKept hp).1 k (by omega) ?_ ?_, s.relink_pulsing p⟩
  · unfold K.MAC_STATUS; omega
  · unfold K.MERGE_STATUS; omega

/-- A held port: its link has gone down, and its status reads 0. -/
def State.portDown (s : State) (p : Nat) : State :=
  (((s.setPhyLink p false).setFld (F.MAC_STATUS_LOCK p) 0).relink p).setReg (K.MAC_STATUS p) 0

theorem State.portReset_eq (p : Nat) :
    s.portReset p = if hasMerge p then (s.portDown p).restartVerify p else s.portDown p := rfl

theorem State.portReset_resetsKept {p : Nat} (hp : p < 34) : s.ResetsKept (s.portReset p) := by
  have status : 0x40000 ≤ K.MAC_STATUS p := by unfold K.MAC_STATUS; omega
  have merge : 0x40000 ≤ K.MERGE_STATUS p := by unfold K.MERGE_STATUS; omega
  have lock : s.ResetsKept ((s.setPhyLink p false).setFld (F.MAC_STATUS_LOCK p) 0) :=
    State.ResetsKept.comp (t := s.setPhyLink p false) (resetsKept_of_parts rfl rfl) (resetsKept_setReg _ status _)
  have down : s.ResetsKept (s.portDown p) := (lock.comp (State.relink_resetsKept _ hp)).comp (resetsKept_setReg _ status 0)
  rw [State.portReset_eq]
  split
  · exact (down.comp (resetsKept_setReg _ merge _)).comp (resetsKept_of_parts rfl rfl)
  · exact down

theorem State.portReset_linkDown (p : Nat) : (s.portReset p).flag (F.MAC_STATUS_LINK_UP p) = false := by
  have down : (s.portDown p).reg (K.MAC_STATUS p) = 0 := State.reg_setReg_same _ _ _
  have other : K.MERGE_STATUS p ≠ K.MAC_STATUS p := by unfold K.MERGE_STATUS K.MAC_STATUS; omega
  have kept : ((s.portDown p).restartVerify p).reg (K.MAC_STATUS p) = 0 := (State.reg_setReg_other _ _ other).trans down
  rw [State.portReset_eq]
  split
  · exact State.flag_of_reg_zero kept
  · exact State.flag_of_reg_zero down

/-! ## Channels -/

/-- The request in progress and those that wait are discarded and counted, and the channel starts afresh. -/
def State.canDiscard (s : State) (n : Nat) : State :=
  let k := (s.can n).reqs.length + b2n (s.can n).cur.isSome
  (if k = 0 then s else s.count (C.edge n 4) k).setCan n .fresh

theorem State.canReset_eq (n : Nat) : s.canReset n =
    (((s.canDiscard n).setReg (K.CAN_STATUS n) (if (s.canDiscard n).fld (F.CAN_CTRL_MODE n) = 0 then 0 else 3)).setReg
      (K.CAN_EVT n) 0).setFlds [(F.CAN_CTRL_ERR_BUSY n, 0), (F.CAN_CNT_CTRL_ERR_BUSY n, 0)] := rfl

theorem State.canDiscard_resetsKept (n : Nat) : s.ResetsKept (s.canDiscard n) := by
  unfold State.canDiscard
  dsimp only
  split
  · exact resetsKept_of_parts rfl rfl
  · exact resetsKept_of_parts rfl rfl

theorem State.canReset_resetsKept (n : Nat) : s.ResetsKept (s.canReset n) := by
  have status : 0x40000 ≤ K.CAN_STATUS n := by unfold K.CAN_STATUS; omega
  have evt : 0x40000 ≤ K.CAN_EVT n := by unfold K.CAN_EVT; omega
  have ctrl : 0x40000 ≤ K.CAN_CTRL n := by unfold K.CAN_CTRL; omega
  have cnt : 0x40000 ≤ K.CAN_CNT_CTRL n := by unfold K.CAN_CNT_CTRL; omega
  rw [State.canReset_eq]
  exact (((s.canDiscard_resetsKept n).comp (resetsKept_setReg _ status _)).comp (resetsKept_setReg _ evt 0)).comp
    (resetsKept_setFlds _ (forall_mem_two ctrl cnt))

theorem State.canReset_can (n : Nat) : (s.canReset n).can n = .fresh := by
  rw [State.canReset_eq, State.can_congr (State.setFlds_edge _ _)]
  exact State.can_setCan _ n .fresh

/-- The error counters of a held CAN channel read 0. -/
theorem State.canReset_counters (n : Nat) :
    (s.canReset n).fld (F.CAN_STATUS_TEC n) = 0 ∧ (s.canReset n).fld (F.CAN_STATUS_REC n) = 0 := by
  set v : Word := if (s.canDiscard n).fld (F.CAN_CTRL_MODE n) = 0 then 0 else 3
  have apart : K.CAN_CTRL n ≠ K.CAN_STATUS n ∧ K.CAN_CNT_CTRL n ≠ K.CAN_STATUS n ∧ K.CAN_EVT n ≠ K.CAN_STATUS n := by
    unfold K.CAN_CTRL K.CAN_CNT_CTRL K.CAN_EVT K.CAN_STATUS; omega
  obtain ⟨ctrl, cnt, evt⟩ := apart
  have reads : (s.canReset n).reg (K.CAN_STATUS n) = v := by
    rw [State.canReset_eq, State.setFlds, State.setFlds, State.setFlds, State.reg_setFld_other _ _ _ cnt,
      State.reg_setFld_other _ _ _ ctrl, State.reg_setReg_other _ _ evt, State.reg_setReg_same]
  have counters : ∀ w : Word, w = 0 ∨ w = 3 → wordBits w 23 15 = 0 ∧ wordBits w 31 24 = 0 := by
    rintro w (rfl | rfl) <;> decide
  rw [State.fld, State.fld, show (F.CAN_STATUS_TEC n).key = K.CAN_STATUS n from rfl,
    show (F.CAN_STATUS_REC n).key = K.CAN_STATUS n from rfl, reads]
  exact counters v (by unfold v; split <;> simp)

theorem State.linReset_resetsKept (n : Nat) : s.ResetsKept (s.linReset n) := by
  have status : 0x40000 ≤ K.LIN_STATUS n := by unfold K.LIN_STATUS; omega
  have evt : 0x40000 ≤ K.LIN_EVT n := by unfold K.LIN_EVT; omega
  have ctrl : 0x40000 ≤ K.LIN_CTRL n := by unfold K.LIN_CTRL; omega
  have cnt : 0x40000 ≤ K.LIN_CNT_CTRL n := by unfold K.LIN_CNT_CTRL; omega
  have fresh : s.ResetsKept (s.setLin n .fresh) := resetsKept_of_parts rfl rfl
  exact ((fresh.comp (resetsKept_setReg _ status 0)).comp (resetsKept_setReg _ evt 0)).comp
    (resetsKept_setFlds _ (forall_mem_two ctrl cnt))

theorem State.chanReset_resetsKept (n : Nat) : s.ResetsKept (s.chanReset n) := by
  unfold State.chanReset
  split
  · exact s.canReset_resetsKept n
  · exact s.linReset_resetsKept (n - 24)

theorem State.linAgain_resetsKept (n : Nat) : s.ResetsKept (s.linAgain n) := by
  have status : 0x40000 ≤ K.LIN_STATUS n := by unfold K.LIN_STATUS; omega
  have table : s.ResetsKept (s.setLin n { s.lin n with next := 0, slotAt := some (s.wholeMs 1000000) }) :=
    resetsKept_of_parts rfl rfl
  exact table.comp (resetsKept_setFlds _ (List.forall_mem_cons.mpr ⟨status, forall_mem_two status status⟩))

/-- A released channel integrates: only its status and its hidden state change. -/
theorem State.chanStart_resetsKept (n : Nat) : s.ResetsKept (s.chanStart n) := by
  have canStatus : 0x40000 ≤ K.CAN_STATUS n := by unfold K.CAN_STATUS; omega
  have linStatus : 0x40000 ≤ K.LIN_STATUS (n - 24) := by unfold K.LIN_STATUS; omega
  have idle : s.ResetsKept (s.setFld (F.LIN_STATUS_BUS_IDLE (n - 24)) 1) := resetsKept_setReg s linStatus _
  have restarted : s.ResetsKept (s.canRestart n) := resetsKept_setFlds s (List.forall_mem_cons.mpr ⟨canStatus,
    List.forall_mem_cons.mpr ⟨canStatus, List.forall_mem_cons.mpr ⟨canStatus, forall_mem_two canStatus canStatus⟩⟩⟩)
  unfold State.chanStart
  dsimp only
  split
  · exact State.ResetsKept.refl s
  · split
    · split
      · exact State.ResetsKept.refl s
      · exact restarted
    · split
      · exact State.ResetsKept.refl s
      · split
        · exact idle.comp (State.linAgain_resetsKept _ _)
        · exact idle

/-! ## MDIO masters -/

theorem State.mdioReset_resetsKept (m : Nat) : s.ResetsKept (s.mdioReset m) :=
  (resetsKept_of_parts (s := s) (t := ((s.setMdio m none).setMdioWait m none).setMdioPolls m []) rfl rfl).comp
    (resetsKept_setReg _ (by unfold K.MDIO_STATUS; omega) 0)

theorem State.mdioNext_resetsKept (m : Nat) : s.ResetsKept (s.mdioNext m) := by
  unfold State.mdioNext
  split
  · exact State.ResetsKept.refl s
  · split
    · exact resetsKept_of_parts rfl rfl
    · split
      · exact resetsKept_of_parts rfl rfl
      · exact resetsKept_of_parts rfl rfl

end

/-! ## The bit of a group -/

theorem forEach_resetsKept {α : Type} (f : α → State → State) (hf : ∀ x s, State.ResetsKept s (f x s)) (l : List α)
    (s : State) : s.ResetsKept (forEach l f s) := by
  induction l generalizing s with
  | nil => exact State.ResetsKept.refl s
  | cons x r ih => exact (hf x s).comp (ih (f x s))

section
variable (s : State)

theorem State.wvrResume_resetsKept (n : Nat) : s.ResetsKept (s.wvrResume n) := by
  refine forEach_resetsKept _ (fun i s => ?_) _ s
  split
  · exact resetsKept_of_parts rfl rfl
  · exact State.ResetsKept.refl s

/-- The deadlines that start again with a transceiver's level are the Weaver's alone. -/
theorem State.withStandbyAll_resetsKept (f : State → State) : (f s).ResetsKept (s.withStandbyAll f) := by
  refine forEach_resetsKept _ (fun n s => ?_) _ (f s)
  split
  · exact State.ResetsKept.refl s
  · exact s.wvrResume_resetsKept n

variable (g : Nat)

theorem State.rstHeld_setRstHeld (b : Bool) (k : Nat) : (s.setRstHeld g b).rstHeld k = if k = g then b else s.rstHeld k := by
  have bit : (b2n b).testBit 0 = b := by cases b <;> rfl
  have within : g % 32 < 32 := Nat.mod_lt _ (by decide)
  rw [State.rstHeld, State.setRstHeld, State.setFld, State.reg_setReg]
  by_cases row : K.RST_HELD (g / 32) = K.RST_HELD (k / 32)
  · have same : (k = g) ↔ (g % 32 ≤ k % 32 ∧ k % 32 ≤ g % 32) := by unfold K.RST_HELD at row; omega
    rw [if_pos row, putBits_testBit (Nat.le_refl _) within, row]
    simp only [same]
    split
    · rename_i h
      rw [show k % 32 - g % 32 = 0 by omega, bit]
    · rfl
  · have other : k ≠ g := fun e => row (by rw [e])
    rw [if_neg row, if_neg other, State.rstHeld]

theorem State.flag_setRstHeld (b : Bool) {f : Fld} (hf : f.key = K.RST_CTRL) : (s.setRstHeld g b).flag f = s.flag f :=
  s.flag_setFld_key _ f _ (by rw [hf]; simp only [K.RST_HELD, K.RST_CTRL]; omega)

theorem State.rstHeld_setCtrl (k : Nat) {f : Fld} (hf : f.key = K.RST_CTRL) (v : Nat) : (s.setFld f v).rstHeld k = s.rstHeld k := by
  have other : f.key ≠ K.RST_HELD (k / 32) := by rw [hf]; simp only [K.RST_HELD, K.RST_CTRL]; omega
  rw [State.rstHeld, s.reg_setFld_other f v other, State.rstHeld]

variable {g}

/-- Exactly one group is put into its hold or out of it. -/
theorem State.ResetsKept.oneGroup {s t : State} {b : Bool} (h : (s.setRstHeld g b).ResetsKept t) (hg : g < 68) :
    t.rstHeld g = b ∧ ∀ k, k < 68 → k ≠ g → t.rstHeld k = s.rstHeld k :=
  ⟨(h.rstHeld hg).trans ((s.rstHeld_setRstHeld g b g).trans (if_pos rfl)),
    fun k hk hne => (h.rstHeld hk).trans ((s.rstHeld_setRstHeld g b k).trans (if_neg hne))⟩

/-- Holding a group sets its bit; the rest is the reset of its member. -/
theorem State.holdGroup_resetsKept : (s.setRstHeld g true).ResetsKept (s.holdGroup g) := by
  refine (s.withStandbyAll_resetsKept (fun s => s.setRstHeld g true)).comp ?_
  unfold State.holdGroup
  dsimp only
  split
  · exact State.portReset_resetsKept _ ‹_›
  · split
    · exact State.chanReset_resetsKept _ _
    · exact State.mdioReset_resetsKept _ _

/-- Releasing a group that is held clears its bit; the rest is the start of its member. -/
theorem State.releaseGroup_resetsKept (h : s.rstHeld g = true) : (s.setRstHeld g false).ResetsKept (s.releaseGroup g) := by
  refine (s.withStandbyAll_resetsKept (fun s => s.setRstHeld g false)).comp ?_
  rw [State.releaseGroup, if_pos h]
  dsimp only
  split
  · exact State.relink_resetsKept _ ‹_›
  · split
    · exact State.chanStart_resetsKept _ _
    · exact State.mdioNext_resetsKept _ _

theorem State.releaseGroup_free (h : s.rstHeld g = false) : s.releaseGroup g = s := by
  rw [State.releaseGroup, h]; rfl

/-! ## What a held member shows -/

theorem State.holdGroup_linkDown (hg : g < 34) : (s.holdGroup g).flag (F.MAC_STATUS_LINK_UP g) = false := by
  rw [State.holdGroup, if_pos hg]
  exact State.portReset_linkDown _ g

theorem State.holdGroup_canReset (h1 : 34 ≤ g) (h2 : g < 58) :
    s.holdGroup g = (s.withStandbyAll (fun s => s.setRstHeld g true)).canReset (g - 34) := by
  rw [State.holdGroup, if_neg (by omega), if_pos (by omega), State.chanReset, if_pos (by omega)]

end

end Sys2Proof.Machine
end

section
/-!
SUPPORT. PULSE, HOLD and RELEASE of RST_CTRL, and the end of a pulse (spec/17, R502). With it, the statement on banks
and reset groups.
-/

namespace Sys2Proof.Machine

/-- The parts of the state that the commands of RST_CTRL may change. -/
def resetParts : List Part := [.regs, .cnts, .fresh, .bufLog, .data, .ports, .mgt, .edge, .wvr, .key]

section
variable {s : State} {g : Nat}

theorem State.rstOp_busy (hb : s.flag F.RST_CTRL_BUSY = true) (f : State → State) :
    s.rstOp g f = s.setFld F.RST_CTRL_ERR_BUSY 1 := if_pos hb

theorem State.rstOp_idle (hg : g < 68) (hb : s.flag F.RST_CTRL_BUSY = false) (f : State → State) : s.rstOp g f = f s := by
  rw [State.rstOp, hb, if_neg Bool.false_ne_true, if_neg (by omega)]

/-- The state that a PULSE leaves: the group held, BUSY set, and the group noted. -/
def State.pulseGroup (s : State) (g : Nat) : State :=
  { (s.holdGroup g).setFld F.RST_CTRL_BUSY 1 with mgt := { (s.holdGroup g).mgt with pulsing := some g } }

section
variable (hg : g < 68) (hr : s.mcRuns = true)
include hg hr

theorem exec_pulse_idle (hb : s.flag F.RST_CTRL_BUSY = false) : ∃ t, exec (.pulse g) s = .next t ∧ s.Only t resetParts ∧
    t.rstHeld g = true ∧ (∀ k, k < 68 → k ≠ g → t.rstHeld k = s.rstHeld k) ∧ t.flag F.RST_CTRL_BUSY = true ∧
    t.mgt.pulsing = some g ∧ (g < 34 → t.flag (F.MAC_STATUS_LINK_UP g) = false) := by
  have wf : Instr.wf (.pulse g) = true := decide_eq_true (by omega : g < 128)
  have pulse : s.rstPulse g = s.pulseGroup g := State.rstOp_idle hg hb _
  have held (k : Nat) : (s.pulseGroup g).rstHeld k = (s.holdGroup g).rstHeld k := State.rstHeld_setCtrl _ k rfl 1
  have busy : (s.pulseGroup g).flag F.RST_CTRL_BUSY = true := State.flag_setFld_same _ F.RST_CTRL_BUSY 1 rfl (by decide)
  have other : K.RST_CTRL ≠ K.MAC_STATUS g := by unfold K.RST_CTRL K.MAC_STATUS; omega
  have link : (s.pulseGroup g).flag (F.MAC_STATUS_LINK_UP g) = (s.holdGroup g).flag (F.MAC_STATUS_LINK_UP g) :=
    State.flag_setFld_key _ F.RST_CTRL_BUSY _ 1 other
  obtain ⟨this, others⟩ := s.holdGroup_resetsKept.oneGroup hg
  refine ⟨s.confine resetParts (s.pulseGroup g), (exec_pulse s g wf hr).trans (by rw [pulse]; rfl), s.only_confine _ _,
    (held g).trans this, fun k hk hne => (held k).trans (others k hk hne), busy, rfl,
    fun hp => link.trans (s.holdGroup_linkDown hp)⟩

theorem exec_hold_idle (hb : s.flag F.RST_CTRL_BUSY = false) : ∃ t, exec (.hold g) s = .next t ∧ s.Only t resetParts ∧
    t.rstHeld g = true ∧ (∀ k, k < 68 → k ≠ g → t.rstHeld k = s.rstHeld k) ∧
    (g < 34 → t.flag (F.MAC_STATUS_LINK_UP g) = false) ∧
    (34 ≤ g → g < 58 → (t.can (g - 34)).reqs = [] ∧ t.fld (F.CAN_STATUS_TEC (g - 34)) = 0 ∧
      t.fld (F.CAN_STATUS_REC (g - 34)) = 0) := by
  have wf : Instr.wf (.hold g) = true := decide_eq_true (by omega : g < 128)
  have hold : s.rstHold g = s.holdGroup g := State.rstOp_idle hg hb _
  obtain ⟨this, others⟩ := s.holdGroup_resetsKept.oneGroup hg
  have channel (h1 : 34 ≤ g) (h2 : g < 58) : ((s.holdGroup g).can (g - 34)).reqs = [] ∧
      (s.holdGroup g).fld (F.CAN_STATUS_TEC (g - 34)) = 0 ∧ (s.holdGroup g).fld (F.CAN_STATUS_REC (g - 34)) = 0 := by
    rw [s.holdGroup_canReset h1 h2, State.canReset_can]
    exact ⟨rfl, State.canReset_counters _ _⟩
  exact ⟨s.confine resetParts (s.holdGroup g), (exec_hold s g wf hr).trans (by rw [hold]; rfl), s.only_confine _ _, this, others,
    fun hp => s.holdGroup_linkDown hp, channel⟩

theorem exec_release_idle (hb : s.flag F.RST_CTRL_BUSY = false) (hh : s.rstHeld g = true) :
    ∃ t, exec (.release g) s = .next t ∧ s.Only t resetParts ∧ t.rstHeld g = false ∧
      (∀ k, k < 68 → k ≠ g → t.rstHeld k = s.rstHeld k) := by
  have wf : Instr.wf (.release g) = true := decide_eq_true (by omega : g < 128)
  have release : s.rstRelease g = s.releaseGroup g := State.rstOp_idle hg hb _
  obtain ⟨this, others⟩ := (s.releaseGroup_resetsKept hh).oneGroup hg
  exact ⟨s.confine resetParts (s.releaseGroup g), (exec_release s g wf hr).trans (by rw [release]; rfl), s.only_confine _ _, this,
    others⟩

/-- While an operation of RST_CTRL runs, every other one sets ERR_BUSY alone. -/
theorem exec_resetOp_busy (hb : s.flag F.RST_CTRL_BUSY = true) {i : Instr} (hi : i = .pulse g ∨ i = .hold g ∨ i = .release g) :
    exec i s = .next (s.setFld F.RST_CTRL_ERR_BUSY 1) := by
  have within : g < 128 := by omega
  have whole : s.confine resetParts (s.setFld F.RST_CTRL_ERR_BUSY 1) = s.setFld F.RST_CTRL_ERR_BUSY 1 := rfl
  have refused (f : State → State) : s.confine resetParts (s.rstOp g f) = s.setFld F.RST_CTRL_ERR_BUSY 1 := by
    rw [State.rstOp_busy hb, whole]
  rcases hi with rfl | rfl | rfl
  · exact (exec_pulse s g (decide_eq_true within) hr).trans (congrArg _ (refused _))
  · exact (exec_hold s g (decide_eq_true within) hr).trans (congrArg _ (refused _))
  · exact (exec_release s g (decide_eq_true within) hr).trans (congrArg _ (refused _))

end

theorem exec_resetPulseEnd_releases (hg : g < 68) (hp : s.powered = true) (hm : s.mgt.pulsing = some g) :
    ∃ t, exec .resetPulseEnd s = .next t ∧ s.Only t resetParts ∧ t.rstHeld g = false ∧ t.flag F.RST_CTRL_BUSY = false ∧
      t.mgt.pulsing = none := by
  set u : State := { s with mgt := { s.mgt with pulsing := none } }.setFld F.RST_CTRL_BUSY 0
  have ended : s.rstPulseEnd = u.releaseGroup g := by unfold State.rstPulseEnd; rw [hm]
  have idle : u.flag F.RST_CTRL_BUSY = false := State.flag_setFld_same _ F.RST_CTRL_BUSY 0 rfl (by decide)
  have shown : (u.releaseGroup g).rstHeld g = false ∧ (u.releaseGroup g).flag F.RST_CTRL_BUSY = false ∧
      (u.releaseGroup g).mgt.pulsing = none := by
    cases hh : u.rstHeld g
    · rw [u.releaseGroup_free hh]
      exact ⟨hh, idle, rfl⟩
    · have kept := u.releaseGroup_resetsKept hh
      exact ⟨(kept.oneGroup hg).1, (kept.flag (by decide)).trans ((u.flag_setRstHeld g false rfl).trans idle), kept.pulsing⟩
  exact ⟨s.confine resetParts (u.releaseGroup g), (exec_resetPulseEnd s hp).trans (by rw [ended]; rfl),
    s.only_confine _ _, shown⟩

end

/-- Settles O59: a handover takes one of the three ways of R487 and then the two steps of R488, each a write of BANK_OWNER, the last
with the bytes of the bank; an operation of RST_CTRL holds or releases its group, which changes that bit of RST_HELD alone. -/
theorem banksAndResetGroupsChangeHands : Obligations.BanksAndResetGroupsChangeHands := by
  unfold Obligations.BanksAndResetGroupsChangeHands
  constructor
  · intro s b hb
    exact ⟨fun target ht hr => ⟨exec_handover_busy hb ht hr, exec_handover_rejected hb ht hr, exec_handover_starts hb ht hr⟩,
      fun hp _ hu => exec_bankDrainDone_inUse hb hp hu, exec_bankDrainDone_drained hb, exec_bankClearDone_passes hb⟩
  · intro s g hg
    refine ⟨fun hr hb => ⟨exec_pulse_idle hg hr hb, exec_hold_idle hg hr hb, exec_release_idle hg hr hb⟩,
      fun hr hb i hi => ?_, exec_resetPulseEnd_releases hg⟩
    exact ⟨_, exec_resetOp_busy hg hr hb hi, s.flag_setFld_same F.RST_CTRL_ERR_BUSY 1 rfl (by decide),
      s.regsBut_setFld F.RST_CTRL_ERR_BUSY 1, rfl⟩

end Sys2Proof.Machine
end

section
/-!
SUPPORT. What every command is: an effect within a footprint, taken where its operands name what the device has. From it follow the
statements on how a command ends, on runs, and on the scratchpad's canonical form.
-/

namespace Sys2Proof.Machine

/-! ## Every command is an effect within a footprint -/

/-- A command that writes no scratchpad has no memory in its footprint. -/
theorem exec_confined (c : Instr) (s : State) :
    ∃ (l : List Part) (u : State), exec c s = s.demand c.wf (s.confine l u) ∧
      (l.any (fun q => decide (q = .mem)) && !c.writesScratchpad) = false := by
  cases c <;> exact ⟨_, _, rfl, rfl⟩

theorem exec_next (c : Instr) (s : State) : ∃ t, exec c s = .next t ∧ t.pending = s.pending := by
  obtain ⟨l, u, h, -⟩ := exec_confined c s
  cases hw : c.wf
  · exact ⟨s, h.trans (State.demand_not hw), rfl⟩
  · exact ⟨s.confine l u, h.trans (State.demand_ok hw), rfl⟩

theorem exec_illFormed {c : Instr} (hw : c.wf = false) (s : State) : exec c s = .next s := by
  obtain ⟨l, u, h, -⟩ := exec_confined c s
  exact h.trans (State.demand_not hw)

theorem exec_keepsPending {c : Instr} {s t : State} (h : exec c s = .next t) : t.pending = s.pending := by
  obtain ⟨u, hu, hp⟩ := exec_next c s
  cases hu.symm.trans h
  exact hp

/-- Settles O4: an effect within a footprint keeps the queue, and a command that is not well formed takes none. -/
theorem commandsEndAsTheirOperandsSay : Obligations.CommandsEndAsTheirOperandsSay := by
  unfold Obligations.CommandsEndAsTheirOperandsSay
  exact fun c s => ⟨fun _ => exec_next c s, fun hw => exec_illFormed hw s⟩

/-! ## Scrubs -/

/-- A power-on reset has ended, and nothing has been stored. -/
def State.awake : State := { State.reset with boot := { BootSt.reset with held := false } }

theorem State.safEvent_only (s : State) (code detail : Nat) : s.Only (s.safEvent code detail) [.regs, .cnts, .safLog, .mgt, .key] := by
  unfold State.safEvent
  simp only
  split
  · rfl
  · exact State.Only.comp (t := { s.inc (C.saf 14) with safLog := (s.inc (C.saf 14)).safLog ++ [_] }) rfl
      ((State.raise_only _ _ _).mono _ (by decide))

/-- A part outside the footprint is as it was. -/
theorem State.Only.keeps {β : Type} {s t : State} {l : List Part} (h : s.Only t l) (g : State → β) (hg : g (s.confine l t) = g s) :
    g t = g s := (congrArg g h).symm.trans hg

/-- The scrub marks the copy in MRAM whose word it cannot correct. -/
theorem State.scrubVisit_mramDouble (s : State) (k a : Nat) :
    (s.scrubVisit (.mramDouble (some k) a)).boot.mramBad = s.boot.mramBad ||| 2 ^ k := by
  have kept (u : State) : (u.safEvent 0x19 a).boot = u.boot := (u.safEvent_only 0x19 a).keeps State.boot rfl
  unfold State.scrubVisit
  rw [kept]
  rfl

/-- Refutes O5: SCRUB_VISIT is none of the commands listed by name, and an uncorrectable word that the MRAM scrub finds in a copy
of the stored image marks that copy bad (spec/14, R392). -/
theorem not_commandsLeaveWhatIsNotTheirs : ¬ Obligations.CommandsLeaveWhatIsNotTheirs := by
  unfold Obligations.CommandsLeaveWhatIsNotTheirs
  intro h
  obtain ⟨-, -, stored, -⟩ := h (.scrubVisit (.mramDouble (some 0) 0)) State.awake _ (exec_scrubVisit _ _ rfl rfl)
  have marked := (State.awake.scrubVisit_mramDouble 0 0).symm.trans (congrArg BootSt.mramBad (stored rfl))
  exact absurd marked (by decide)

/-! ## The scratchpad's canonical form -/

theorem exec_memInv_writing {c : Instr} (hc : c.writesScratchpad = true) {s : State} (h : s.MemInv) :
    ∃ (l : List Part) (u : State), exec c s = s.demand c.wf (s.confine l u) ∧ u.MemInv := by
  have settled {f : State → State} (hf : ∀ {u : State}, u.MemInv → (f u).MemInv) : (s.settled f).MemInv :=
    (hf (u := s.unstepped) h).settleTime
  cases c with
  | powerUpAon => exact ⟨_, _, rfl, memInv_empty s.aonReset_mem⟩
  | porstAssert => exact ⟨_, _, rfl, State.MemInv.porst s⟩
  | supplyMonitorTrip rail below => exact ⟨_, _, rfl, h.supplyTrip rail below⟩
  | coldStart env => exact ⟨_, _, rfl, h.coldStart env⟩
  | gust env => exact ⟨_, _, rfl, h.gust env⟩
  | lcAdvance adv => exact ⟨_, _, rfl, h.doIf _ _ (h.lcAdvance adv.env adv.lost)⟩
  | sleepEntry => exact ⟨_, _, rfl, h.doIf _ _ h.sleepEntry⟩
  | leeExitTimeout env => exact ⟨_, _, rfl, h.doIf _ _ (h.leeExit env)⟩
  | restart env => exact ⟨_, _, rfl, h.doIf _ _ (h.restart env)⟩
  | bankClearDone bank => exact ⟨_, _, rfl, h.doIf _ _ (h.bankCleared bank)⟩
  | bridgeReqReceive w tag a m d => exact ⟨_, _, rfl, h.doIf _ _ (settled (·.bridgeReq w tag a m d))⟩
  | bridgeRspReceive tag isRead cause d => exact ⟨_, _, rfl, h.doIf _ _ (settled (·.bridgeRsp tag isRead cause d))⟩
  | bridgeRspTimeout => exact ⟨_, _, rfl, h.doIf _ _ (settled (·.bridgeTimeout))⟩
  | regWrite => exact ⟨_, _, rfl, h.doIf _ _ (settled (·.regWrite))⟩
  | regBurstWrite => exact ⟨_, _, rfl, h.doIf _ _ (settled (·.regBurstWrite))⟩
  | farReadComplete parity => exact ⟨_, _, rfl, h.doIf _ _ (settled (·.farReadDone parity))⟩
  | postedWriteComplete parity => exact ⟨_, _, rfl, h.doIf _ _ (settled (·.postedDone parity))⟩
  | _ => exact absurd hc Bool.false_ne_true

theorem demand_memInv {s t u : State} {l : List Part} {ok : Bool} (h : s.MemInv) (hu : (s.confine l u).MemInv)
    (e : s.demand ok (s.confine l u) = .next t) : t.MemInv := by
  cases ok <;> cases e
  · exact h
  · exact hu

theorem exec_memInv {c : Instr} {s t : State} (h : s.MemInv) (e : exec c s = .next t) : t.MemInv := by
  cases hc : c.writesScratchpad
  · obtain ⟨l, u, hu, hl⟩ := exec_confined c s
    exact demand_memInv h (h.confine l u (by simpa [hc] using hl)) (hu.symm.trans e)
  · obtain ⟨l, u, hu, hm⟩ := exec_memInv_writing hc h
    exact demand_memInv h (h.confine_of l hm) (hu.symm.trans e)

/-! ## Steps and runs -/

/-- Settles O1: the queue's front decides the step. -/
theorem stepRunsTheFrontCommand : Obligations.StepRunsTheFrontCommand := by
  unfold Obligations.StepRunsTheFrontCommand
  intro s c rest h
  rw [step, h]

/-- Settles O8: a command keeps the canonical form and hands on the rest of the queue, a cycle of the clock touches neither. -/
theorem stepKeepsSafe : Obligations.StepKeepsSafe := by
  unfold Obligations.StepKeepsSafe
  intro s t ⟨hm, hr⟩ e
  cases hp : s.pending with
  | nil =>
    rw [step, hp] at e
    cases e
    exact ⟨hm.of_mem s.clock_mem, hr⟩
  | cons c rest =>
    rw [stepRunsTheFrontCommand s c rest hp] at e
    refine ⟨exec_memInv (s := { s with pending := rest }) hm e, fun d hd => hr d ?_⟩
    rw [exec_keepsPending e] at hd
    rw [hp]
    exact List.mem_cons_of_mem c hd

theorem run_succ {s u : State} (k : Nat) (h : step s = .next u) : core.run (k + 1) s = core.run k u := by
  rw [Host.Core.run.eq_def core (k + 1) s]
  simp only [show core.step s = .next u from h]

theorem run_endsQueue (l : List Instr) : ∀ s : State, s.pending = l → ∃ t, core.run l.length s = .next t ∧ State.pending t = [] := by
  induction l with
  | nil => exact fun s hp => ⟨s, rfl, hp⟩
  | cons c rest ih =>
    intro s hp
    obtain ⟨u, hu, hq⟩ := exec_next c { s with pending := rest }
    obtain ⟨t, ht, he⟩ := ih u hq
    exact ⟨t, (run_succ rest.length ((stepRunsTheFrontCommand s c rest hp).trans hu)).trans ht, he⟩

/-- Settles O7: each step takes one command off the queue and answers a next state. -/
theorem queueRunsToItsEnd : Obligations.QueueRunsToItsEnd := by
  unfold Obligations.QueueRunsToItsEnd
  exact fun s _ => run_endsQueue s.pending s rfl

/-! ## A cycle of the clock, and reset -/

/-- The timers of a cycle leave what Lee mode and the time do not hold. -/
theorem State.timers_only (s : State) : s.Only s.timers [.time, .saf, .out] := by
  have lee (u : State) : u.Only u.leeTick [.time, .saf, .out] := by unfold State.leeTick; split <;> rfl
  have ticks : s.Only (if s.saf.mode = .normal then s.timeTick else s) [.time, .saf, .out] := by split <;> rfl
  exact (ticks.comp (lee _)).comp ((State.ppsAll_only _).mono _ rfl)

theorem State.leeTick_time (s : State) : s.leeTick.time = s.time := by unfold State.leeTick; split <;> rfl

/-- The time of a cycle, but for the pulse outputs, is what the counter makes of it. -/
theorem State.timers_time (s : State) :
    s.timers.time = { (if s.saf.mode = .normal then s.timeTick else s).time with ppsOut := s.timers.time.ppsOut } := by
  conv_lhs => rw [State.timers, State.ppsAll_time, State.leeTick_time]
  rfl

theorem State.timers_saf {s : State} (h : s.saf.mode = .normal) : s.timers.saf = s.saf := by
  have ticked : s.timeTick.leeTick = s.timeTick := by
    unfold State.leeTick; rw [if_neg (by rw [show s.timeTick.saf = s.saf from rfl, h]; decide)]
  rw [State.timers, if_pos h, ticked]
  exact (State.ppsAll_only _).keeps State.saf rfl

theorem State.timeTick_now (s : State) :
    (s.timeTick.time.now : Int) = ((s.time.now : Int) + 2 * (fracPerNs : Int) + s.rateAdj) % (timeMod : Int) :=
  Int.toNat_of_nonneg (Int.emod_nonneg _ (by decide))

/-- The clock in a unit that has power. -/
def State.cycled (s : State) : State := { s with aon := s.aon + 1, cycle := s.cycle + 1 }

theorem State.clock_stopped {s : State} (h : s.powered = false) : s.clock = { s with aon := s.aon + 1 } := by
  have h' : ({ s with aon := s.aon + 1 } : State).powered = false := h
  unfold State.clock
  simp only [h']
  rfl

theorem State.clock_parts {s : State} (h : s.powered = true) :
    s.clock.aon = s.aon + 1 ∧ s.clock.cycle = s.cycle + 1 ∧ s.clock.saf = s.cycled.timers.saf ∧ s.clock.time = s.cycled.timers.time := by
  have h' : ({ s with aon := s.aon + 1 } : State).powered = true := h
  have aon : s.cycled.timers.aon = s.aon + 1 := s.cycled.timers_only.keeps State.aon rfl
  have cycle : s.cycled.timers.cycle = s.cycle + 1 := s.cycled.timers_only.keeps State.cycle rfl
  unfold State.clock
  simp only [h']
  exact ⟨aon, cycle, rfl, rfl⟩

/-- Settles O2: a cycle is the always-on count, and in a unit that has power the timers and what the blocks do within their own
footprint. -/
theorem emptyQueueLetsTheClockRun : Obligations.EmptyQueueLetsTheClockRun := by
  unfold Obligations.EmptyQueueLetsTheClockRun
  intro s hq
  refine ⟨s.clock, by rw [step, hq], ?_, s.only_confine _ _, State.clock_stopped, fun h => (State.clock_parts h).2.1, fun h hm => ?_,
    fun h hm => ?_⟩
  · cases h : s.powered
    · rw [State.clock_stopped h]
    · exact (State.clock_parts h).1
  · obtain ⟨-, -, saf, time⟩ := State.clock_parts h
    have shown := s.cycled.timers_time
    rw [if_pos (show s.cycled.saf.mode = .normal from hm)] at shown
    refine ⟨saf.trans (State.timers_saf (s := s.cycled) hm), ?_, ?_⟩
    · rw [time, shown]; rfl
    · rw [time, shown]; exact s.cycled.timeTick_now
  · obtain ⟨-, -, -, time⟩ := State.clock_parts h
    have shown := s.cycled.timers_time
    rw [if_neg (show ¬ s.cycled.saf.mode = .normal from hm)] at shown
    rw [time, shown]; rfl

/-- Settles O3: nothing is listed after reset, so every register reads its reset value. -/
theorem resetLeavesTheStatedValues : Obligations.ResetLeavesTheStatedValues := by
  unfold Obligations.ResetLeavesTheStatedValues
  refine ⟨⟨rfl, fun c hc => absurd hc List.not_mem_nil⟩, rfl, fun _ => rfl, fun _ => rfl, fun _ => rfl, ?_⟩
  decide

/-! ## A unit held in reset -/

theorem State.held_stops {s : State} (hb : s.boot.held = true) :
    s.powered = false ∧ s.mcRuns = false ∧ s.linked = false ∧ s.drives = false ∧ ∀ a, s.busRuns a = false := by
  have hp : s.powered = false := by simp [State.powered, hb]
  have hm : s.mcRuns = false := by simp [State.mcRuns, hb]
  exact ⟨hp, hm, by simp [State.linked, hp], by simp [State.drives, hp], fun a => by simp [State.busRuns, hm]⟩

theorem demand_stopped (s : State) (ok : Bool) (l : List Part) {g : Bool} (hg : g = false) (f : State → State) :
    s.demand ok (s.confine l (s.doIf g f)) = .next s := by
  rw [hg, State.doIf_false, s.confine_self]
  cases ok <;> rfl

/-- Settles O6: every command but the eleven takes an occasion that the unit has only when it is powered or forwards. -/
theorem stoppedUnitHeedsOnlyItsPins : Obligations.StoppedUnitHeedsOnlyItsPins := by
  unfold Obligations.StoppedUnitHeedsOnlyItsPins
  intro c s hb hr _ hc
  obtain ⟨hp, hm, hl, hd, ha⟩ := State.held_stops hb
  have idle {l : List Part} {g : Bool} {f : State → State} (hg : g = false) :
      Host.Outcome.next (s.confine l (s.doIf g f)) = (.next s : Out) := demand_stopped s true l hg f
  have stopped {ok : Bool} {l : List Part} {g : Bool} {f : State → State} (hg : g = false) :
      s.demand ok (s.confine l (s.doIf g f)) = .next s := demand_stopped s ok l hg f
  cases c with
  | registerWrite a m v =>
    have idle : s.registerWrite a m v = s := by simp [State.registerWrite, hm]
    exact (congrArg (fun u => s.demand _ (s.confine _ u)) idle).trans (demand_stopped s _ _ rfl id)
  | frameReceive port kind bytes fin => exact stopped (by rw [hp, Bool.false_and])
  | shaperCommit => exact idle (by rw [hm, Bool.false_and])
  | configChange | cancel => exact idle (by rw [hm, Bool.false_and])
  | snapshotLoRead | snapshotLoWrite | snapshotHiWrite | heldRegisterWrite | macCfgWrite | macFrameWrite | clear |
    mdioAccess | mdioCfgWrite | recover | switch | wake => exact stopped (ha _)
  | verifySend | verifyReceive | respondReceive | mdioAccessDone | mdioPoll | mdioInterruptPoll => exact stopped hd
  | frerResetTimer | gateChangeTime | gateEntryTransition | gateHoldRequest => exact stopped hl
  | tokenTick | helloSend | helloReceive | partnerLoss | claimTimeout | claimDeferEnd | activeYield | rejoinRetry |
    catchUpReceive | syncSnapshot | syncReceivePair | journalReceive | journalAckReceive | journalAckTimeout | commitReceive
    | commandApplyTime | sleepPairReceive | wakePairReceive => exact idle hl
  | fdbReadIndex | clsWinEntryWrite | swap | sourceWrite | wvrImageWrite | secSaCommit | lcAdvance | signingKeyReady |
    lmsTreeReady | inputStale | nmWake | faultInject | bridgeReqReceive | bridgeRspReceive | restart | imageActivate |
    handover | pulse | hold | release => exact stopped hm
  | fdbLookup | fdbWrite | fdbDelete | flushPort | flushDynamic | vlanEntryCommit | mcgEntryCommit | clsWinCtrlWrite |
    meterCommit | zonePolicerCommit | frerReset | timeNowCapture | ppsInStampCapture | stepTime | acquire | send |
    wvrPduCommit | wvrRouteCommit | wvrCarrierCommit | wvrPduStampCapture | keyLoad | keyDerive | keyPromote | keyErase |
    keyOperationDone | cmdKeyAdvance | attest | certRead | signatureRelease | ledgerSample | ledgerPersist | periodRecord |
    ledgerSign | ledgerRdIndexWrite | claim | resync | bridgeRspTimeout | commandFrameReceive | writeCommand | readResponse
    | readStatus | readEvent | commandAccept | startForwarding | imageErase | imageWrite | imageVerify | firmwareWrite |
    recordApply | ledgerRead | ledgerSigRead | jrnRead | checkpoint | checkpointRead | frameSend | frameRead | eventAck |
    regRead | regWrite | regBurstRead | regBurstWrite | writeFence | farReadComplete | postedWriteComplete | bufQlogPop |
    nmLogPop | safLogPop | brgPwflPop | evtPop | jrnRdIndexWrite => exact idle hm
  | linkChange | transmitEnd | mergeCfgApply | inputEpoch | ppsOutEdge | canFrameReceive | canArbitration | canTxComplete |
    canBusError | busoffHoldEnd | canRecoveryDone | canIsolate | canIsolationEnd | linIsolate | linIsolationEnd | linSlot |
    linHeaderReceive | linFrameReceive | linResponseTimeout | shadowClear | txAnApply | fatalFault | digestCompare |
    scrubVisit | temperatureWarning | leeSlot | leeFrameSend | leeExitTimeout | bankDrainDone | bankClearDone |
    wakeFilterCopyFault | tjWarnRearm | linWakePulseEnd => exact stopped hp
  | fdbOperationDone | swapTakeEffect | retirementEnd | ppsInEdge | pllRelock | holdInChange | holdInMask | holdInUnmask |
    resetPulseEnd | aonClockFault | lineFaultClear => exact idle hp
  | frameEndWritten | egressSelection | quarantineEnd | bufferAudit | followUpRelay | pdelayReqSend | pduTimeout |
    carrierFrameClose | groupIdle | forcedSleep | creditResetTimeout | replayListExit => exact stopped hr
  | pipelinePass | secondPass | learn | ageingPass | queueAgeSweep | auditEnd | syncReceive | followUpReceive |
    followupMissing | pdelayReqReceive | pdelayRespReceive | gmSyncSend | syncMissed | weaverUnit | cyclicSend |
    deferredSend | ringRoundStart | consentRspReceive | consentRspTimeout | sleepEntry | wakeReqReceive | groupWake |
    crossingFrameReceive | creditSend | creditReceive => exact idle hr
  | _ => exact absurd hc.symm Bool.false_ne_true

end Sys2Proof.Machine
end

section
/-!
SUPPORT. Register writes by access code, counters that a CLEAR reaches, and snapshot pairs (spec/00, R7, R9; spec/03, R95).
-/

namespace Sys2Proof.Machine

/-! ## A register without a rule of its own (R7) -/

section
variable {s : State} {a : Nat} {d : RegDesc}

/-- A register of the unit's own pages has no stopped block. -/
theorem State.busRuns_of_mcRuns (hr : s.mcRuns = true) (ha : a < 0x40000 ∨ (0x63000 ≤ a ∧ a < 0x7F000) ∨ (0x7F200 ≤ a ∧ a < 0x180000) ∨ 0x188000 ≤ a) :
    s.busRuns a = true := by
  rw [s.busRuns_iff]
  refine ⟨hr, ?_⟩
  unfold State.stopped
  rw [if_neg (by omega), if_neg (by omega), if_neg (by omega)]

/-- A masked write of such a register is its access code's, and the pulse outputs follow. -/
theorem exec_registerWrite_stores (ha : isRegister a = true) (hr : s.busRuns a = true)
    (hw : ∀ (u : State) {m v : Word}, m ≠ 0 → u.busWrite a m v = u.setReg a (d.after (u.reg a) m v)) (mask value : Word) :
    ∃ t, exec (.registerWrite a mask value) s = .next t ∧ t.reg a = d.after (s.reg a) mask value ∧ s.RegsBut t [a] ∧
      s.Only t [.regs, .time, .out] ∧ (mask ≠ 0 → s.TimeKept t) := by
  by_cases hm : mask = 0
  · subst hm
    exact ⟨s, exec_registerWrite_zero s ha value, (d.after_zero _ _).symm, State.RegsBut.refl s _, s.only_refl _,
      fun h => absurd rfl h⟩
  · have written := hw s.unstepped (v := value) hm
    obtain ⟨run, -⟩ := exec_registerWrite_plain s ha hr hm written rfl
    have inner : s.Only (s.unstepped.setReg a (d.after (s.unstepped.reg a) mask value)) [.regs, .time, .out] := rfl
    refine ⟨_, run, ?_, ?_, inner.comp ((State.ppsAll_only _).mono _ rfl), fun _ => State.ppsAll_time _⟩
    · exact (State.reg_congr ((State.ppsAll_only _).regs rfl) a).trans (State.reg_setReg_same _ _ _)
    · exact (State.RegsBut.from (State.regsBut_setReg s.unstepped _ _) rfl).after ((State.ppsAll_only _).regs rfl)

/-- A register at its own key, outside the TCAM window, whose block gives it the plain write. -/
theorem State.busWrite_own (hat : ∃ i, regAt a = some (d, i)) (hone : d.win = 1) (h1 : ¬ (0x81000 ≤ a ∧ a < 0x81118))
    (hb : ∀ (u : State) (m v : Word), u.blockWrite d a a m v = u.plainWrite d a m v) (u : State) {m v : Word} (hm : m ≠ 0) :
    u.busWrite a m v = u.setReg a (d.after (u.reg a) m v) := by
  obtain ⟨i, hi⟩ := hat
  exact u.busWrite_plain a a d m v hm h1 (by simp [State.regHere, hi, hone]) (hb u m v)

end

def glbScratchDesc : RegDesc := ⟨K.GLB_SCRATCH, 1, 0, 1, 0xFFFFFFFF, 0, 0, 0, .const 0⟩
def glbIdDesc : RegDesc := ⟨K.GLB_ID, 1, 0, 1, 0, 0, 0, 0xFFFFFF0F, .const 0x9210A102⟩
def clsStatusDesc : RegDesc := ⟨K.CLS_STATUS, 1, 0, 1, 0, 3, 0, 0, .const 0⟩

theorem regAt_glbScratch : regAt K.GLB_SCRATCH = some (glbScratchDesc, 0) := by decide
theorem regAt_glbId : regAt K.GLB_ID = some (glbIdDesc, 0) := by decide
theorem regAt_clsStatus : regAt K.CLS_STATUS = some (clsStatusDesc, 0) := by decide

theorem glbIdDesc_after (w m v : Word) : glbIdDesc.after w m v = w := by
  rw [RegDesc.after_w1c _ rfl]
  rw [show BitVec.ofNat 32 glbIdDesc.w1c = 0#32 from rfl, BitVec.and_zero, not_zero_word, BitVec.and_allOnes]

theorem blockWrite_glbScratch (u : State) (m v : Word) :
    u.blockWrite glbScratchDesc K.GLB_SCRATCH K.GLB_SCRATCH m v = u.plainWrite glbScratchDesc K.GLB_SCRATCH m v := rfl

theorem blockWrite_glbId (u : State) (m v : Word) :
    u.blockWrite glbIdDesc K.GLB_ID K.GLB_ID m v = u.plainWrite glbIdDesc K.GLB_ID m v := rfl

theorem blockWrite_clsStatus (u : State) (m v : Word) :
    u.blockWrite clsStatusDesc K.CLS_STATUS K.CLS_STATUS m v = u.plainWrite clsStatusDesc K.CLS_STATUS m v := rfl

/-! ## Counters that a CLEAR reaches (R95) -/

/-- An address of one of the counters of a range: first LO and how many. -/
def inRange (a : Nat) (r : Nat × Nat) : Bool := decide (r.1 ≤ a) && decide (a < r.1 + 8 * r.2)

theorem mapGet_filter {α : Type} (d : Nat → α) (f : Nat → Bool) (m : List (Nat × α)) (k : Nat) :
    mapGet d (m.filter (fun c => f c.1)) k = if f k then mapGet d m k else d k := by
  induction m with
  | nil => simp
  | cons c r ih =>
    obtain ⟨j, v⟩ := c
    rw [List.filter_cons]
    by_cases hj : j = k
    · subst hj
      cases hf : f j
      · simpa [hf] using ih
      · simp [mapGet]
    · split <;> simp [mapGet, hj, ih]

theorem State.cnt_clearCounters (s : State) (r : Nat × Nat) (a : Nat) :
    (s.clearCounters r.1 r.2).cnt a = if inRange a r then 0 else s.cnt a := by
  refine (mapGet_filter _ (fun k => decide (k < r.1) || decide (r.1 + 8 * r.2 ≤ k)) s.cnts a).trans ?_
  by_cases h : r.1 ≤ a ∧ a < r.1 + 8 * r.2
  · rw [if_neg (by simp; omega), if_pos (by simpa [inRange] using h)]
  · rw [if_pos (by simp; omega), if_neg (by simpa [inRange] using h)]
    rfl

theorem forEach_clearCounters_cnt (l : List (Nat × Nat)) (a : Nat) : ∀ s : State,
    (forEach l (fun r s => s.clearCounters r.1 r.2) s).cnt a = if l.any (inRange a) then 0 else s.cnt a := by
  induction l with
  | nil => exact fun _ => rfl
  | cons r l ih =>
    intro s
    rw [forEach, ih, s.cnt_clearCounters, List.any_cons]
    cases inRange a r
    · rw [Bool.false_or]; rfl
    · rw [Bool.true_or, if_pos rfl]; exact ite_self _

theorem State.cnt_clearAt (s : State) (addr a : Nat) : (s.clearAt addr).cnt a = if (clearRanges addr).any (inRange a) then 0 else s.cnt a :=
  forEach_clearCounters_cnt _ a s

theorem clearRanges_mac {p : Nat} (hp : p < 35) : clearRanges (0x40040 + 0x1000 * p) = [(C.mac p 0, 16)] := by
  have page : (0x40040 + 0x1000 * p - 0x40000) / 0x1000 = p := by omega
  rw [clearRanges, if_pos (by omega), page]

theorem exec_clear_zeroes {s : State} {addr : Nat} (ha : isCntCtrl addr = true) (hr : s.busRuns addr = true) :
    ∃ t, exec (.clear addr) s = .next t ∧ s.Only t [.cnts] ∧
      (∀ r k, r ∈ clearRanges addr → k < r.2 → t.cnt (r.1 + 8 * k) = 0) ∧
      (∀ a, (∀ r ∈ clearRanges addr, a < r.1 ∨ r.1 + 8 * r.2 ≤ a) → t.cnt a = s.cnt a) := by
  refine ⟨_, exec_clear s addr ha hr, s.only_confine _ _, fun r k hm hk => ?_, fun a out => ?_⟩
  · refine (s.cnt_clearAt addr _).trans (if_pos (List.any_eq_true.mpr ⟨r, hm, ?_⟩))
    simp only [inRange, Bool.and_eq_true, decide_eq_true_eq]
    omega
  · refine (s.cnt_clearAt addr _).trans (if_neg ?_)
    simp only [List.any_eq_true, inRange, Bool.and_eq_true, decide_eq_true_eq, not_exists, not_and]
    intro r hm
    have := out r hm
    omega

/-- Settles O9: each of the three registers takes the plain write of its access code, and a CLEAR empties the ranges of its block. -/
theorem registerWritesAndClears : Obligations.RegisterWritesAndClears := by
  unfold Obligations.RegisterWritesAndClears
  refine ⟨fun s mask value hr => ⟨?_, ?_, ?_⟩, fun s addr ha hr => ?_⟩
  · obtain ⟨t, run, reg, rest⟩ := exec_registerWrite_stores (by decide) (State.busRuns_of_mcRuns hr (by decide))
      (State.busWrite_own ⟨0, regAt_glbScratch⟩ rfl (by decide) blockWrite_glbScratch) mask value
    exact ⟨t, run, reg.trans (RegDesc.after_rw _ rfl rfl _ _ _), rest⟩
  · obtain ⟨t, run, reg, regs, rest⟩ := exec_registerWrite_stores (by decide) (State.busRuns_of_mcRuns hr (by decide))
      (State.busWrite_own ⟨0, regAt_glbId⟩ rfl (by decide) blockWrite_glbId) mask value
    refine ⟨t, run, fun k _ => ?_, rest⟩
    by_cases hk : k = K.GLB_ID
    · subst hk; exact reg.trans (glbIdDesc_after _ _ _)
    · exact regs k (by simpa using hk)
  · obtain ⟨t, run, reg, rest⟩ := exec_registerWrite_stores (by decide) (State.busRuns_of_mcRuns hr (by decide))
      (State.busWrite_own ⟨0, regAt_clsStatus⟩ rfl (by decide) blockWrite_clsStatus) mask value
    exact ⟨t, run, reg.trans (RegDesc.after_w1c _ rfl _ _ _), rest⟩
  · obtain ⟨t, run, only, zero, kept⟩ := exec_clear_zeroes ha hr
    exact ⟨t, run, only, zero, kept, fun p hp h => h ▸ clearRanges_mac hp⟩

/-! ## Snapshot pairs (R9) -/

theorem exec_snapshotLoRead_captures {s : State} {addr : Nat} (ha : isLo addr = true) (hr : s.busRuns addr = true) :
    ∃ t, exec (.snapshotLoRead addr) s = .next t ∧ t.busData = (s.pairAt addr).setWidth 32 ∧
      t.capture addr = s.pairAt addr ∧ (∀ a, a ≠ addr → t.capture a = s.capture a) ∧ s.Only t [.caps, .busData] :=
  ⟨_, exec_snapshotLoRead s addr ha hr, rfl, (s.capture_setCapture addr addr _).trans (if_pos rfl),
    fun a h => (s.capture_setCapture addr a _).trans (if_neg (Ne.symm h)), s.only_confine _ _⟩

def evtMacLoDesc : RegDesc := ⟨K.MGT_EVT_MAC_LO, 1, 0, 1, 0xFFFFFFFF, 0, 0, 0, .const 0⟩
def evtMacHiDesc : RegDesc := ⟨K.MGT_EVT_MAC_HI, 1, 0, 1, 0xFFFF, 0, 0, 0, .const 0⟩

theorem regAt_evtMacLo : regAt K.MGT_EVT_MAC_LO = some (evtMacLoDesc, 0) := by decide
theorem regAt_evtMacHi : regAt K.MGT_EVT_MAC_HI = some (evtMacHiDesc, 0) := by decide

theorem maskWord_ones (old v : Word) : maskWord old (0xFFFFFFFF &&& BitVec.ofNat 32 0xFFFFFFFF) v = v := by
  simp only [maskWord, word_ones, show BitVec.ofNat 32 0xFFFFFFFF = BitVec.allOnes 32 from rfl, BitVec.and_allOnes, BitVec.not_allOnes,
    BitVec.and_zero, BitVec.zero_or]

theorem evtMacHiDesc_after (w v : Word) : evtMacHiDesc.after w 0xFFFFFFFF v = (w &&& ~~~ (0xFFFF : Word)) ||| (v &&& 0xFFFF) := by
  simp only [RegDesc.after, evtMacHiDesc, maskWord, word_ones, BitVec.and_zero, not_zero_word,
    BitVec.and_allOnes, BitVec.allOnes_and]
  rfl

section
variable (s : State) (lo hi : Word)

/-- The state that holds a LO half. -/
def State.holdLo (s : State) (a : Nat) (w : Word) : State := { s with heldLo := mapSet (fun _ => none) s.heldLo a (some w) }

theorem State.busWrite_evtMacLo : s.busWrite K.MGT_EVT_MAC_LO 0xFFFFFFFF lo = s.holdLo K.MGT_EVT_MAC_LO lo := by
  have here : s.regHere K.MGT_EVT_MAC_LO = some (evtMacLoDesc, K.MGT_EVT_MAC_LO) := by rw [State.regHere, regAt_evtMacLo]; rfl
  have cnt : isCntCtrl K.MGT_EVT_MAC_LO = false := by decide
  have isLo : isPairLo K.MGT_EVT_MAC_LO = true := by decide
  have write : s.blockWrite evtMacLoDesc K.MGT_EVT_MAC_LO K.MGT_EVT_MAC_LO 0xFFFFFFFF lo = s.holdLo K.MGT_EVT_MAC_LO lo := by
    rw [State.blockWrite, cnt, isLo, State.writePair, isLo, State.holdLo]
    simp only [Bool.true_or, Bool.false_eq_true, if_true, if_false]
    rw [if_neg (by decide)]
    simp only [State.guardPair, State.writeLo]
    rw [if_neg (by decide), if_neg (by decide)]
    rw [show evtMacLoDesc.rw = 0xFFFFFFFF from rfl, maskWord_ones]
  rw [s.busWrite_block _ _ evtMacLoDesc _ _ (by decide) (by decide) here (l := [.heldLo]) (by rw [write]; rfl) rfl, write]

/-- The state in which a write of HI has stored both halves and dropped the held LO. -/
def State.storePair (s : State) (klo khi : Nat) (lo hi : Word) : State :=
  ({ s with heldLo := mapErase klo s.heldLo }.setReg klo lo).setReg khi hi

/-- The low half that a write of HI stores. -/
def State.lowHalf (s : State) (k : Nat) : Word := (mapGet (fun _ => none) s.heldLo k).getD (s.reg k)

theorem State.busWrite_evtMacHi :
    s.busWrite K.MGT_EVT_MAC_HI 0xFFFFFFFF hi = s.storePair K.MGT_EVT_MAC_LO K.MGT_EVT_MAC_HI (s.lowHalf K.MGT_EVT_MAC_LO)
      ((s.reg K.MGT_EVT_MAC_HI &&& ~~~ (0xFFFF : Word)) ||| (hi &&& 0xFFFF)) := by
  have here : s.regHere K.MGT_EVT_MAC_HI = some (evtMacHiDesc, K.MGT_EVT_MAC_HI) := by rw [State.regHere, regAt_evtMacHi]; rfl
  have cnt : isCntCtrl K.MGT_EVT_MAC_HI = false := by decide
  have isHi : (isPairLo K.MGT_EVT_MAC_HI || (decide (4 ≤ K.MGT_EVT_MAC_HI) && isPairLo (K.MGT_EVT_MAC_HI - 4))) = true := by decide
  have notLo : isPairLo K.MGT_EVT_MAC_HI = false := by decide
  have plain : isSaPair K.MGT_EVT_MAC_LO = false := by decide
  have write : s.blockWrite evtMacHiDesc K.MGT_EVT_MAC_HI K.MGT_EVT_MAC_HI 0xFFFFFFFF hi =
      s.writeHi evtMacHiDesc K.MGT_EVT_MAC_LO K.MGT_EVT_MAC_LO K.MGT_EVT_MAC_HI 0xFFFFFFFF hi := by
    rw [State.blockWrite, cnt, isHi]
    simp only [State.writePair, notLo, Bool.false_eq_true, if_false, if_true]
    rfl
  have stored : s.writeHi evtMacHiDesc K.MGT_EVT_MAC_LO K.MGT_EVT_MAC_LO K.MGT_EVT_MAC_HI 0xFFFFFFFF hi =
      s.storePair K.MGT_EVT_MAC_LO K.MGT_EVT_MAC_HI (s.lowHalf K.MGT_EVT_MAC_LO)
        ((s.reg K.MGT_EVT_MAC_HI &&& ~~~ (0xFFFF : Word)) ||| (hi &&& 0xFFFF)) := by
    simp only [State.writeHi, plain, State.takeLo, evtMacHiDesc_after, Bool.false_eq_true, if_false]
    rfl
  rw [s.busWrite_block _ _ evtMacHiDesc _ _ (by decide) (by decide) here (l := [.regs, .heldLo]) (by rw [write, stored]; rfl) rfl,
    write, stored]

variable {s} (hr : s.mcRuns = true)
include hr

theorem exec_snapshotLoWrite_holds :
    ∃ t, exec (.snapshotLoWrite K.MGT_EVT_MAC_LO lo) s = .next t ∧ t.regs = s.regs ∧
      mapGet (fun _ => none) t.heldLo K.MGT_EVT_MAC_LO = some lo ∧ s.Only t [.heldLo, .time, .out] ∧ s.TimeKept t := by
  set x : State := s.unstepped.holdLo K.MGT_EVT_MAC_LO lo with hx
  obtain ⟨settled, -⟩ := State.settled_plain (f := fun s => s.busWrite K.MGT_EVT_MAC_LO 0xFFFFFFFF lo)
    (s.unstepped.busWrite_evtMacLo lo) rfl
  have only : s.Only x.ppsAll [.heldLo, .time, .out] := State.Only.comp (t := x) rfl (x.ppsAll_only.mono _ rfl)
  refine ⟨x.ppsAll, ?_, only.regs rfl, ?_, only, x.ppsAll_time⟩
  · rw [exec_snapshotLoWrite s _ lo (show isPairLo _ = true by decide) (State.busRuns_of_mcRuns hr (by decide)), settled, ← hx, only.confine _ rfl]
  · rw [x.ppsAll_only.keeps State.heldLo rfl]
    exact mapGet_mapSet_same (fun _ => none) s.heldLo K.MGT_EVT_MAC_LO (some lo)

theorem exec_snapshotHiWrite_stores :
    ∃ t, exec (.snapshotHiWrite K.MGT_EVT_MAC_HI hi) s = .next t ∧
      t.reg K.MGT_EVT_MAC_HI = (s.reg K.MGT_EVT_MAC_HI &&& ~~~ (0xFFFF : Word)) ||| (hi &&& 0xFFFF) ∧
      t.reg K.MGT_EVT_MAC_LO = s.lowHalf K.MGT_EVT_MAC_LO ∧ mapGet (fun _ => none) t.heldLo K.MGT_EVT_MAC_LO = none ∧
      s.RegsBut t [K.MGT_EVT_MAC_LO, K.MGT_EVT_MAC_HI] ∧ s.Only t [.regs, .heldLo, .time, .out] ∧ s.TimeKept t := by
  set word : Word := (s.reg K.MGT_EVT_MAC_HI &&& ~~~ (0xFFFF : Word)) ||| (hi &&& 0xFFFF)
  set x : State := s.unstepped.storePair K.MGT_EVT_MAC_LO K.MGT_EVT_MAC_HI (s.lowHalf K.MGT_EVT_MAC_LO) word with hx
  obtain ⟨settled, only⟩ := State.settled_plain (f := fun s => s.busWrite K.MGT_EVT_MAC_HI 0xFFFFFFFF hi)
    (s.unstepped.busWrite_evtMacHi hi) rfl
  have regs : x.ppsAll.regs = x.regs := x.ppsAll_only.regs rfl
  refine ⟨x.ppsAll, ?_, ?_, ?_, ?_, ?_, only, x.ppsAll_time⟩
  · rw [exec_snapshotHiWrite s _ hi (show isPairHi _ = true by decide) (State.busRuns_of_mcRuns hr (by decide)), settled, only.confine _ rfl]
    rfl
  · exact (State.reg_congr regs _).trans (State.reg_setReg_same _ _ _)
  · refine (State.reg_congr regs _).trans ((State.reg_setReg_other _ _ (by decide)).trans (State.reg_setReg_same _ _ _))
  · rw [x.ppsAll_only.keeps State.heldLo rfl]
    exact mapGet_mapErase_same _ _ s.heldLo
  · refine State.RegsBut.after (t := x) ?_ regs
    exact ((State.regsBut_setReg _ _ _).from rfl).trans (State.regsBut_setReg _ _ _)

end

/-- Settles O10: a LO read captures, and of the pair MGT_EVT_MAC a LO write is held until the HI write stores both halves. -/
theorem snapshotPairsAreWhole : Obligations.SnapshotPairsAreWhole := by
  unfold Obligations.SnapshotPairsAreWhole
  exact ⟨fun s addr ha hr => exec_snapshotLoRead_captures ha hr,
    fun s lo hi hr => ⟨exec_snapshotLoWrite_holds lo hr, exec_snapshotHiWrite_stores hi hr⟩⟩

end Sys2Proof.Machine
end

section
/-!
SUPPORT. Power-on resets and starts (spec/02, R56 to R69; spec/13, R374; spec/14, R406): what they clear and what they leave.
-/

namespace Sys2Proof.Machine

/-! ## Power-on resets (R67, R522, R534, R540) -/

section
variable (s : State)

theorem State.porst_stops :
    s.porst.boot.held = true ∧ s.porst.cnts = [] ∧ s.porst.data = DataSt.reset ∧ s.porst.ports = PortSt.reset ∧
      s.porst.edge = EdgeSt.reset ∧ s.porst.wvr = WvrSt.reset ∧ s.porst.time = TimeSt.reset ∧ s.porst.saf.mode = .normal := by
  rw [State.porst_eq]
  exact ⟨rfl, rfl, rfl, rfl, rfl, rfl, rfl, rfl⟩

/-- The parts that a power-on reset may change come from its result, and VDD_AON's clock goes on. -/
theorem exec_porstAssert_stops :
    ∃ t, exec .porstAssert s = .next t ∧ t.boot.held = true ∧ t.mem = [] ∧ t.cnts = [] ∧ t.data = DataSt.reset ∧
      t.ports = PortSt.reset ∧ t.edge = EdgeSt.reset ∧ t.wvr = WvrSt.reset ∧ t.time = TimeSt.reset ∧ t.saf.mode = .normal ∧
      t.aon = s.aon ∧ t.pending = s.pending := by
  have run := exec_porstAssert s
  have stops := s.porst_stops
  have mem := s.porst_mem
  generalize s.porst = u at run stops mem
  obtain ⟨held, cnts, data, ports, edge, wvr, time, mode⟩ := stops
  exact ⟨_, run, held, mem, cnts, data, ports, edge, wvr, time, mode, rfl, rfl⟩

/-- The registers of the always-on domain take their reset values. -/
def State.aonRegs (s : State) : State :=
  forEach (List.range 5) (fun n s => (s.setReg (K.WAKE_IN_CFG n) (resetWord (K.WAKE_IN_CFG n))).setReg (K.WAKE_IN_GROUPS n) 0)
    (forEach [K.NM_CFG, K.NM_SLEEP_EN, K.NM_CAUSE, K.WAKE_LIMITS, K.WAKE_STATUS, K.CLK_STATUS, K.SAF_MON, K.MEM_REPAIR,
      K.PAIR_STATUS] (fun k s => s.setReg k (resetWord k)) s)

theorem State.aonRegs_boot : s.aonRegs.boot = s.boot := by
  unfold State.aonRegs
  refine (forEach_part _ _ State.boot ?_ _).trans (forEach_part _ _ State.boot ?_ s)
  · exact fun _ _ => rfl
  · exact fun _ _ => rfl

theorem State.aonReset_eq : s.aonReset =
    (({ s.porst.aonRegs with nm := NmSt.reset, aon := 0, twin := { s.porst.aonRegs.twin with prefer := false } } : State).setFld
      F.MEM_REPAIR_FUSE_COLS (s.porst.fld F.MEM_REPAIR_FUSE_COLS)).emit (.pin 1 true) := by
  unfold State.aonReset State.aonRegs
  generalize s.porst = u
  rfl

theorem State.aonReset_always : s.aonReset.boot.held = true ∧ s.aonReset.aon = 0 ∧ s.aonReset.nm = NmSt.reset ∧
    s.aonReset.out.head? = some (.pin 1 true) := by
  rw [State.aonReset_eq]
  have held : s.porst.aonRegs.boot.held = true := s.porst.aonRegs_boot ▸ s.porst_stops.1
  generalize s.porst.aonRegs = u at held
  exact ⟨held, rfl, rfl, rfl⟩

theorem exec_powerUpAon_stops :
    ∃ t, exec .powerUpAon s = .next t ∧ t.boot.held = true ∧ t.aon = 0 ∧ t.nm = NmSt.reset ∧ t.out.head? = some (.pin 1 true) ∧
      t.mem = [] ∧ t.pending = s.pending := by
  have run := exec_powerUpAon s
  have always := s.aonReset_always
  have mem := s.aonReset_mem
  generalize s.aonReset = u at run always mem
  obtain ⟨held, aon, nm, pin⟩ := always
  exact ⟨_, run, held, aon, nm, pin, mem, rfl⟩

/-- A rail below its reset threshold is a power-on reset. -/
theorem exec_supplyMonitorTrip_below {rail : Nat} (hr : rail < 10) (hc : s.nm.calm = false ∨ rail = 7) :
    ∃ t, exec (.supplyMonitorTrip rail true) s = .next t ∧ exec .porstAssert s = .next t ∧ t.boot.held = true := by
  have trip : s.supplyTrip rail true = s.porst := by
    unfold State.supplyTrip
    rw [if_pos rfl, if_neg]
    rintro ⟨calm, other⟩
    rcases hc with h | h
    · rw [h] at calm; exact Bool.false_ne_true calm
    · exact other h
  refine ⟨_, exec_supplyMonitorTrip s rail true (decide_eq_true hr), ?_, ?_⟩
  · rw [trip]; exact exec_porstAssert s
  · rw [trip]; exact s.porst_stops.1

end

/-- Settles O12: each of the three is the same reset, VDD_AON's rise with the always-on registers and the always-on clock as well. -/
theorem powerOnResetStopsTheUnit : Obligations.PowerOnResetStopsTheUnit := by
  unfold Obligations.PowerOnResetStopsTheUnit
  exact fun s => ⟨exec_porstAssert_stops s, exec_powerUpAon_stops s, fun _ hr hc => exec_supplyMonitorTrip_below s hr hc⟩

/-! ## Starts (R56, R60, R61, R374, R406) -/

/-- What a start begins from: no byte, no capture, no entry of SAF_LOG, and no core cycle. -/
structure State.Blank (t : State) : Prop where
  mem : t.mem = []
  caps : t.caps = []
  safLog : t.safLog = []
  cycle : t.cycle = 0

section
variable {s : State}

theorem State.blank_blank (w : Bool) : (s.blank w).Blank := ⟨rfl, rfl, rfl, rfl⟩

/-- The steps of a start change none of the four parts. -/
theorem State.Blank.after {t u : State} {l : List Part} (h : t.Blank) (ho : t.Only u l)
    (hl : (t.confine l u).mem = t.mem ∧ (t.confine l u).caps = t.caps ∧ (t.confine l u).safLog = t.safLog ∧
      (t.confine l u).cycle = t.cycle) : u.Blank := by
  obtain ⟨m, c, f, n⟩ := hl
  exact ⟨(ho.keeps State.mem m).trans h.mem, (ho.keeps State.caps c).trans h.caps, (ho.keeps State.safLog f).trans h.safLog,
    (ho.keeps State.cycle n).trans h.cycle⟩

variable (s) (env : StartEnv)

theorem State.coldRestart_blank : (s.coldRestart env).Blank :=
  State.Blank.after (State.blank_blank false) (State.only_confine _ _ _) ⟨rfl, rfl, rfl, rfl⟩

theorem State.warmRestart_blank : (s.warmRestart env).Blank :=
  State.Blank.after (State.blank_blank true) (State.only_confine _ _ _) ⟨rfl, rfl, rfl, rfl⟩

variable {s}

theorem State.coldStart_blank (hb : s.boot.held = true) : (s.coldStart env).Blank := by
  unfold State.coldStart
  rw [hb]
  exact State.Blank.after (t := (s.powerOnHealth.blank false).setFld F.BOOT_STATUS_UNIT_ID env.strap)
    ⟨rfl, rfl, rfl, rfl⟩ (State.only_confine _ _ _) ⟨rfl, rfl, rfl, rfl⟩

theorem State.gust_blank {cause : Nat × Nat × Nat} (hl : s.nm.latched = some cause) (hc : s.nm.calm = true)
    (hb : s.boot.held = false) : (s.gust env).Blank := by
  unfold State.gust
  simp only [hl, hc, hb]
  exact State.Blank.after (State.blank_blank true) (State.only_confine _ _ _) ⟨rfl, rfl, rfl, rfl⟩

theorem State.restart_blank {c : Cmd} {rest : List Cmd} (hr : s.mcRuns = true) (hq : s.mgt.execQ = c :: rest)
    (hop : c.opcode = 0x10) : (s.restart env).Blank := by
  have head : s.execHead 0x10 = some c := hop ▸ State.execHead_of hr hq
  unfold State.restart
  simp only [head]
  split
  · exact State.warmRestart_blank _ env
  · exact State.coldRestart_blank _ env

theorem State.leeExit_blank (hm : s.saf.mode ≠ .normal) (he : s.fld F.SAF_CFG_EXIT_MS ≠ 0)
    (hn : s.flag F.SAF_STATUS_NO_CLOCK = false) (hl : s.fld F.SAF_STATUS_EXITS < s.fld F.SAF_CFG_EXIT_LIMIT)
    (hs : s.fld F.BOOT_STATUS_STATE ≠ 0xE) (ha : s.saf.enterAt + s.fld F.SAF_CFG_EXIT_MS * aonPerMs ≤ s.aon) :
    (s.leeExit env).Blank := by
  unfold State.leeExit
  simp only
  rw [if_neg]
  · exact State.warmRestart_blank _ env
  · simp only [hm, hs, he, hn, Bool.false_eq_true, false_or]
    omega

end

/-- Settles O13: each start takes its steps from a blank state, and its command changes neither the always-on clock nor the queue. -/
theorem startsBeginFromABlankState : Obligations.StartsBeginFromABlankState := by
  unfold Obligations.StartsBeginFromABlankState
  intro s env he
  refine ⟨fun hb => ?_, fun cause hl hc hb => ?_, fun c rest hq hop hr => ?_, fun hp hm hx hn hl hs ha => ?_⟩
  · have b := State.coldStart_blank env hb
    exact ⟨_, exec_coldStart s env he, b.mem, b.caps, b.safLog, b.cycle, rfl, rfl, rfl⟩
  · have b := State.gust_blank env hl hc hb
    exact ⟨_, exec_gust s env he, b.mem, b.caps, b.safLog, b.cycle, rfl, rfl⟩
  · have b := State.restart_blank env hr hq hop
    exact ⟨_, exec_restart s env he hr, b.mem, b.caps, b.safLog, b.cycle, rfl, rfl⟩
  · have b := State.leeExit_blank env hm hx hn hl hs ha
    exact ⟨_, exec_leeExitTimeout s env he hp, b.mem, b.caps, b.safLog, b.cycle, rfl, rfl⟩

/-! ## The end of a start (R51, R58) -/

section
variable (s : State) {k : Nat} (hk : k = K.BOOT_STATUS ∨ k = K.PAIR_CFG)

theorem forEach_reg {α : Type} (l : List α) (f : α → State → State) (hf : ∀ x s, (f x s).reg k = s.reg k) (s : State) :
    (forEach l f s).reg k = s.reg k :=
  forEach_part l f (fun s => s.reg k) hf s

theorem State.fld_of_reg {s t : State} {f : Fld} (h : t.reg f.key = s.reg f.key) : t.fld f = s.fld f := by
  rw [State.fld, h, State.fld]

theorem State.reg_setFlds_other {l : List (Fld × Nat)} (h : ∀ c ∈ l, c.1.key ≠ k) : (s.setFlds l).reg k = s.reg k := by
  induction l generalizing s with
  | nil => rfl
  | cons c r ih =>
    exact (ih (s.setFld c.1 c.2) (fun d hd => h d (List.mem_cons_of_mem _ hd))).trans
      (s.reg_setFld_other c.1 c.2 (h c List.mem_cons_self))

theorem State.wvrBegin_reg : s.wvrBegin.reg k = s.reg k := by
  unfold State.wvrBegin
  refine forEach_reg s.pduList _ ?_ s
  exact fun _ _ => rfl

theorem State.startPolls_reg : s.startPolls.reg k = s.reg k := by
  unfold State.startPolls
  refine forEach_reg [0, 1] _ ?_ s
  exact fun _ _ => rfl

include hk

/-- BOOT_STATUS and PAIR_CFG are none of the journal's registers. -/
theorem startKey_not_journal : k ∉ journalKeys := by
  rcases hk with h | h <;> subst h <;> decide

theorem State.portMUp_startKey : s.portMUp.reg k = s.reg k := by
  have apart : K.MAC_STATUS 34 ≠ k := by rcases hk with h | h <;> subst h <;> decide
  unfold State.portMUp
  split
  · rfl
  · rw [State.raiseFlag_regsBut _ _ _ k (by
      simp only [List.mem_cons, not_or]; exact ⟨fun h => apart h.symm, startKey_not_journal hk⟩)]
    exact s.reg_setFld_other _ _ apart

theorem State.gateChange_startKey (p : Nat) : (s.gateChange p).reg k = s.reg k := by
  have apart {a : Nat} (ha : 0x100000 ≤ a ∧ a < 0x110000) : a + 0x100000000 * p ≠ k := by
    rcases hk with h | h <;> subst h <;> simp only [K.BOOT_STATUS, K.PAIR_CFG] <;> omega
  unfold State.gateChange
  split
  · exact s.reg_setFld_other _ _ (apart ⟨by decide, by decide⟩)
  split
  · exact s.reg_setFld_other _ _ (apart ⟨by decide, by decide⟩)
  · simp only
    rw [State.reg_setFld_other _ _ _ (apart ⟨by decide, by decide⟩), State.reg_setFld_other _ _ _ (apart ⟨by decide, by decide⟩)]
    exact (State.regsBut_setPair _ _ _ _) k (by
      simp only [List.mem_cons, List.not_mem_nil, or_false, not_or]
      exact ⟨(apart ⟨by decide, by decide⟩).symm, (apart ⟨by decide, by decide⟩).symm⟩)

theorem State.linSwitchTo_startKey (n t : Nat) : (s.linSwitchTo n t).reg k = s.reg k := by
  have apart : K.LIN_STATUS n ≠ k := by
    rcases hk with h | h <;> subst h <;> simp only [K.BOOT_STATUS, K.PAIR_CFG, K.LIN_STATUS] <;> omega
  refine State.reg_setFlds_other _ (fun c hc => ?_)
  simp only [List.mem_cons, List.not_mem_nil, or_false] at hc
  rcases hc with h | h | h <;> subst h <;> exact apart

theorem State.startLists_startKey : s.startLists.reg k = s.reg k := by
  unfold State.startLists
  have gated := forEach_reg s.boot.gateStart _ (fun p s => s.gateChange_startKey hk p) s
  generalize forEach s.boot.gateStart (fun p s => s.gateChange p) s = u at gated
  exact (forEach_reg u.boot.linStart _ (fun c s => s.linSwitchTo_startKey hk (c / 4) (c % 4)) u).trans gated

theorem State.setFld_startKey {f : Fld} (hf : f.key ≠ K.BOOT_STATUS ∧ f.key ≠ K.PAIR_CFG) (v : Nat) :
    (s.setFld f v).reg k = s.reg k :=
  s.reg_setFld_other f v (by rcases hk with h | h <;> subst h; exacts [hf.1, hf.2])

theorem State.closeBatch_startKey : s.closeBatch.reg k = s.reg k := by
  unfold State.closeBatch
  simp only
  split
  · rfl
  split
  · rfl
  · exact State.setFld_startKey _ hk (by decide) _

theorem State.ldgAppend_startKey (type : Nat) : (s.ldgAppend type).reg k = s.reg k := by
  have indexed (u : State) (n : Nat) : (u.setFld F.LDG_NEXT_INDEX n).reg k = u.reg k := u.setFld_startKey hk (by decide) n
  have lost (u : State) (c : Prop) [Decidable c] : (if c then u.setFld F.LDG_STATUS_OVERWRITE 1 else u).reg k = u.reg k := by
    split
    · exact u.setFld_startKey hk (by decide) 1
    · rfl
  unfold State.ldgAppend
  simp only
  split
  · rw [State.closeBatch_startKey _ hk, lost, indexed]; rfl
  · rw [lost, indexed]; rfl

theorem State.startRecords_startKey : s.startRecords.reg k = s.reg k := by
  have logged (u : State) (a b c d e : Nat) (l : List Byte) : (u.append a b c d e l).reg k = u.reg k :=
    u.append_regsBut a b c d e l k (startKey_not_journal hk)
  unfold State.startRecords
  simp only
  split
  · rw [State.setFld_startKey _ hk (by decide), logged, s.ldgAppend_startKey hk]
  · rw [logged, s.ldgAppend_startKey hk]

omit hk

/-- An unpaired unit whose forwarding is enabled shows it. -/
theorem State.enableForwarding_state (us : Nat) (hm : s.fld F.PAIR_CFG_MODE = 0) :
    (s.enableForwarding us).fld F.BOOT_STATUS_STATE = 0xB := by
  set u : State := (s.setFlds [(F.BOOT_STATUS_STATE, 0xB), (F.BOOT_TIME_START_US, min us 0xFFFFF)]).emit (.pin 4 true) with hu
  set v : State := u.portMUp.startPolls.startLists.wvrBegin with hv
  have kept {k : Nat} (hk : k = K.BOOT_STATUS ∨ k = K.PAIR_CFG) : v.reg k = u.reg k := by
    rw [hv, State.wvrBegin_reg, State.startLists_startKey _ hk, State.startPolls_reg, u.portMUp_startKey hk]
  have mode : v.fld F.PAIR_CFG_MODE = 0 := by
    have same : u.reg K.PAIR_CFG = s.reg K.PAIR_CFG := State.reg_setFlds_other s (fun c hc => by
      simp only [List.mem_cons, List.not_mem_nil, or_false] at hc
      rcases hc with h | h <;> subst h
      · exact (show K.BOOT_STATUS ≠ K.PAIR_CFG by decide)
      · exact (show K.BOOT_TIME ≠ K.PAIR_CFG by decide))
    exact (State.fld_of_reg ((kept (.inr rfl)).trans same)).trans hm
  have unpaired : v.pairForward.joinRule = v := by
    have first : v.pairForward = v := by unfold State.pairForward; rw [if_pos (.inl (by rw [mode]; decide))]
    rw [first, State.joinRule, if_pos (.inl (by rw [mode]; decide))]
  have shown : u.fld F.BOOT_STATUS_STATE = 0xB := 
    ((s.setFld F.BOOT_STATUS_STATE 0xB).fld_setFld_key F.BOOT_TIME_START_US _ _ (by decide)).trans (s.fld_setFld_same F.BOOT_STATUS_STATE 0xB (by decide) (by decide))
  have whole : s.enableForwarding us = v.pairForward.joinRule.startRecords := rfl
  rw [whole, unpaired]
  exact (State.fld_of_reg ((v.startRecords_startKey (.inl rfl)).trans (kept (.inl rfl)))).trans shown

end

section
variable {s : State} (us : Nat) (hs : s.fld F.BOOT_STATUS_STATE = 0xA) (hp : s.powered = true) (hm : s.fld F.PAIR_CFG_MODE = 0)
include hs hp hm

theorem exec_supervisorHoldTimeout_forwards :
    ∃ t, exec (.supervisorHoldTimeout us) s = .next t ∧ t.fld F.BOOT_STATUS_STATE = 0xB ∧ s.MemSame t ∧ t.pending = s.pending := by
  have starts : s.holdTimeout us = s.enableForwarding us := by
    simp only [State.powered, Bool.and_eq_true] at hp
    unfold State.holdTimeout
    rw [if_pos ⟨hs, hp⟩]
  have run := exec_supervisorHoldTimeout s us
  have state := s.enableForwarding_state us hm
  rw [starts] at run
  generalize s.enableForwarding us = u at run state
  exact ⟨_, run, state, State.memSame_of_mem rfl, rfl⟩

theorem exec_startForwarding_forwards (hn : s.saf.mode = .normal) {c : Cmd} {rest : List Cmd} (hq : s.mgt.execQ = c :: rest)
    (hop : c.opcode = 0x11) :
    ∃ t, exec (.startForwarding us) s = .next t ∧ t.fld F.BOOT_STATUS_STATE = 0xB ∧ s.MemSame t ∧ t.pending = s.pending := by
  have runs : s.mcRuns = true := by
    simp only [State.powered, Bool.and_eq_true] at hp
    simp only [State.mcRuns, hs, hp.1, hp.2, hn]
    rfl
  have starts : s.startForwarding us = (s.endCmd c 0 0).enableForwarding us := by
    have head : s.execHead 0x11 = some c := hop ▸ State.execHead_of runs hq
    unfold State.startForwarding
    simp only [head]
    rw [if_pos hs]
  have unpaired : (s.endCmd c 0 0).fld F.PAIR_CFG_MODE = 0 := by
    rw [(s.endCmd_regsBut c 0 0).fld (by decide), hm]
  have run := exec_startForwarding s us runs
  have state := (s.endCmd c 0 0).enableForwarding_state us unpaired
  rw [starts] at run
  generalize (s.endCmd c 0 0).enableForwarding us = u at run state
  exact ⟨_, run, state, State.memSame_of_mem rfl, rfl⟩

end

theorem exec_retainedCopyDone_seals {s : State} {b : List Byte} {x : Seal} (hc : s.boot.copying = some (b, x)) (hp : s.powered = true) :
    ∃ t, exec .retainedCopyDone s = .next t ∧ t.boot.retained = b ∧ t.boot.sealOf = some x ∧ t.boot.copying = none ∧
      t.flag F.BOOT_STATUS_RETAINED_VALID = true ∧ s.RegsBut t [K.BOOT_STATUS] ∧ s.Only t [.regs, .boot] := by
  have done : s.copyDone = ({ s with boot := { s.boot with retained := b, sealOf := some x, copying := none } } : State).setFld
      F.BOOT_STATUS_RETAINED_VALID 1 := by
    simp only [State.powered, Bool.and_eq_true, Bool.not_eq_true'] at hp
    unfold State.copyDone
    simp only [hc]
    rw [if_neg (by simp [hp.1, hp.2])]
  have run := exec_retainedCopyDone s
  rw [done] at run
  exact ⟨_, run, rfl, rfl, rfl, State.flag_setFld_same _ F.BOOT_STATUS_RETAINED_VALID 1 rfl (by decide),
    (State.regsBut_setFld _ _ _).from rfl, s.only_confine _ _⟩

/-- Settles O14: both commands enable forwarding, which in an unpaired unit changes no more of BOOT_STATUS; the copy's end writes
its seal. -/
theorem startsEndInForwarding : Obligations.StartsEndInForwarding := by
  unfold Obligations.StartsEndInForwarding
  exact ⟨fun s us hs hp hn hm => ⟨exec_supervisorHoldTimeout_forwards us hs hp hm,
    fun c rest hq hop => exec_startForwarding_forwards us hs hp hm hn hq hop⟩, fun s b x hc hp => exec_retainedCopyDone_seals hc hp⟩

end Sys2Proof.Machine
end


section
/-! SUPPORT. Learning and ageing (spec/05, R144 and R145): what one learn request makes of the table, way by way, and which entries an
ageing pass leaves. -/

namespace Sys2Proof.Machine

/-- The entry that a learn request asks for. -/
def LearnReq.entry (r : LearnReq) : FdbEntry := ⟨r.fid, r.mac, false, true, r.kind, r.dest⟩

section
variable (s : State)

theorem State.fdbAt_fdbPut (i j : Nat) (e : Option FdbEntry) : (s.fdbPut i e).fdbAt j = if i = j then e else s.fdbAt j :=
  mapGet_mapSet _ s.data.fdb i j e

theorem State.learnOne_static {r : LearnReq} {i : Nat} {old : FdbEntry} (hf : s.fdbFind r.fid r.mac = some (i, old))
    (hs : old.static = true) : s.learnOne r = s := by
  simp [State.learnOne, hf, hs]

theorem State.learnOne_moves {r : LearnReq} {i : Nat} {old : FdbEntry} (hf : s.fdbFind r.fid r.mac = some (i, old))
    (hs : old.static = false) : s.learnOne r = s.fdbPut i (some r.entry) := by
  simp [State.learnOne, hf, hs, LearnReq.entry]

theorem State.learnOne_inserts {r : LearnReq} {i : Nat} (hf : s.fdbFind r.fid r.mac = none) (hw : s.fdbFree r.fid r.mac = some i) :
    s.learnOne r = s.fdbPut i (some r.entry) := by
  simp [State.learnOne, hf, hw, LearnReq.entry]

theorem State.learnOne_full {r : LearnReq} (hf : s.fdbFind r.fid r.mac = none) (hw : s.fdbFree r.fid r.mac = none) :
    s.learnOne r = s.inc (C.buf 9) := by
  simp [State.learnOne, hf, hw]

/-- The request at the front is taken off the queue. -/
def State.takeLearn (s : State) : State := { s with data := { s.data with learnQ := s.data.learnQ.tail } }

theorem State.learnOne_learnQ (r : LearnReq) : (s.learnOne r).data.learnQ = s.data.learnQ := by
  unfold State.learnOne
  split
  · split <;> rfl
  · split <;> rfl

section
variable {s} {r : LearnReq} {rest : List LearnReq} (hq : s.data.learnQ = r :: rest)
include hq

theorem State.learnNext_waits {i : Nat} (he : s.learnEntry r = some i) (ht : s.fdbTaken i = true) : s.learnNext = s := by
  simp [State.learnNext, hq, he, ht]

theorem State.learnNext_runs (h : ∀ i, s.learnEntry r = some i → s.fdbTaken i = false) : s.learnNext = s.takeLearn.learnOne r := by
  have runs : { s with data := { s.data with learnQ := rest } } = s.takeLearn := by simp only [State.takeLearn, hq, List.tail_cons]
  unfold State.learnNext
  simp only [hq, runs]
  cases he : s.learnEntry r with
  | none => exact if_neg Bool.false_ne_true
  | some i => exact if_neg (by simp [h i he])

end

/-- What an ageing pass makes of one place of the table. -/
def State.agePlace (s : State) (c : Nat × Option FdbEntry) : Option (Nat × Option FdbEntry) :=
  match c.2 with
  | none => none
  | some e =>
    if e.static || s.fdbTaken c.1 then some c
    else if e.hit then some (c.1, some { e with hit := false }) else none

theorem State.agePlace_eq_some (c : Nat × Option FdbEntry) (i : Nat) (e : FdbEntry) :
    s.agePlace c = some (i, some e) ↔
      ((e.static = true ∨ s.fdbTaken i = true) ∧ c = (i, some e)) ∨
      (e.static = false ∧ s.fdbTaken i = false ∧ e.hit = false ∧ c = (i, some { e with hit := true })) := by
  obtain ⟨k, v⟩ := c
  obtain ⟨fid, mac, st, hit, kind, dest⟩ := e
  cases v with
  | none => simp [State.agePlace]
  | some x =>
    obtain ⟨fid', mac', st', hit', kind', dest'⟩ := x
    simp only [State.agePlace, Prod.mk.injEq, Option.some.injEq, FdbEntry.mk.injEq]
    by_cases kept : (st' || s.fdbTaken k) = true
    · rw [if_pos kept]
      rw [Bool.or_eq_true] at kept
      simp only [Option.some.injEq, Prod.mk.injEq, FdbEntry.mk.injEq]
      constructor
      · rintro ⟨rfl, rfl, rfl, rfl, rfl, rfl, rfl⟩
        exact .inl ⟨kept, rfl, rfl, rfl, rfl, rfl, rfl, rfl⟩
      · rintro (⟨-, h⟩ | ⟨h1, h2, -, rfl, -, -, rfl, -⟩)
        · exact h
        · simp [h1, h2] at kept
    · rw [if_neg kept]
      simp only [Bool.or_eq_true, not_or, Bool.not_eq_true] at kept
      obtain ⟨dynamic, granted⟩ := kept
      cases hit' with
      | true =>
        simp only [if_true, Option.some.injEq, Prod.mk.injEq, FdbEntry.mk.injEq]
        constructor
        · rintro ⟨rfl, rfl, rfl, rfl, rfl, rfl, rfl⟩
          exact .inr ⟨dynamic, granted, rfl, rfl, rfl, rfl, rfl, trivial, rfl, rfl⟩
        · rintro (⟨h, rfl, -, -, rfl, -⟩ | ⟨-, -, rfl, rfl, rfl, rfl, rfl, -, rfl, rfl⟩)
          · simp [dynamic, granted] at h
          · exact ⟨rfl, rfl, rfl, rfl, rfl, rfl, rfl⟩
      | false =>
        simp only [Bool.false_eq_true, if_false, reduceCtorEq, false_iff, not_or]
        constructor
        · rintro ⟨h, rfl, -, -, rfl, -⟩
          simp [dynamic, granted] at h
        · rintro ⟨-, -, -, -, -, -, -, h, -⟩
          exact h

end

/-- What the oldest request does where its entry is not granted to a command. -/
theorem exec_learn_inserts {s : State} {r : LearnReq} {rest : List LearnReq} (hr : s.running = true) (hq : s.data.learnQ = r :: rest)
    (h : ∀ i, s.learnEntry r = some i → s.fdbTaken i = false) :
    exec .learn s = .next (s.confine [.cnts, .data] (s.takeLearn.learnOne r)) := by
  rw [exec_learn s hr, State.learnNext_runs hq h]

/-- What a put entry leaves to be read. -/
theorem State.fdbPut_reads (s : State) (i : Nat) (e : Option FdbEntry) :
    (s.fdbPut i e).fdbAt i = e ∧ ∀ j, j ≠ i → (s.fdbPut i e).fdbAt j = s.fdbAt j :=
  ⟨(s.fdbAt_fdbPut i i e).trans (if_pos rfl), fun j hj => (s.fdbAt_fdbPut i j e).trans (if_neg (Ne.symm hj))⟩

/-- Settles O16: the request in its four cases, and the ageing pass place by place. -/
theorem learningAndAgeing : Obligations.LearningAndAgeing := by
  unfold Obligations.LearningAndAgeing
  refine ⟨fun s r rest hr hq => ⟨fun i he ht => ?_, fun hfree => ⟨_, exec_learn_inserts hr hq hfree, ?_, s.only_confine _ _, ?_, ?_, ?_, ?_⟩⟩,
    fun s hr ha => ⟨_, exec_ageingPass s hr, s.only_confine _ _, ?_, fun i e => ?_⟩⟩
  · rw [exec_learn s hr, State.learnNext_waits hq he ht, s.confine_self]
  · refine (s.takeLearn.learnOne_learnQ r).trans ?_
    simp only [State.takeLearn, hq, List.tail_cons]
  · intro i old hf hs
    rw [s.takeLearn.learnOne_static hf hs]
    exact ⟨rfl, rfl⟩
  · intro i old hf hs
    rw [s.takeLearn.learnOne_moves hf hs]
    obtain ⟨same, others⟩ := s.takeLearn.fdbPut_reads i (some r.entry)
    exact ⟨same, others, rfl⟩
  · intro i hf hw
    rw [s.takeLearn.learnOne_inserts hf hw]
    obtain ⟨same, others⟩ := s.takeLearn.fdbPut_reads i (some r.entry)
    exact ⟨same, others, rfl⟩
  · intro hf hw
    rw [s.takeLearn.learnOne_full hf hw]
    exact ⟨rfl, s.cnt_inc_same (C.buf 9), s.cntsBut_inc (C.buf 9)⟩
  · unfold State.agePass
    rw [if_neg ha]
    rfl
  · have listed : (s.confine [.data] s.agePass).data.fdb = s.data.fdb.filterMap s.agePlace := by
      unfold State.agePass
      rw [if_neg ha]
      rfl
    rw [listed, List.mem_filterMap]
    constructor
    · rintro ⟨c, hc, kept⟩
      rcases (s.agePlace_eq_some c i e).mp kept with ⟨h, rfl⟩ | ⟨h1, h2, h3, rfl⟩
      · exact .inl ⟨h, hc⟩
      · exact .inr ⟨h1, h2, h3, hc⟩
    · rintro (⟨h, hc⟩ | ⟨h1, h2, h3, hc⟩)
      · exact ⟨_, hc, (s.agePlace_eq_some _ i e).mpr (.inl ⟨h, rfl⟩)⟩
      · exact ⟨_, hc, (s.agePlace_eq_some _ i e).mpr (.inr ⟨h1, h2, h3, rfl⟩)⟩

end Sys2Proof.Machine
end


section
/-! SUPPORT. What the packet buffer's operations leave alone (spec/05, R136 to R138, R162): a released hold, an ended copy and a
returned chain change cells, frames and the credits to return; copies that are dropped change their queue as well; a frame found bad
marks its transmissions. -/

namespace Sys2Proof.Machine

/-- The parts that the buffer's own operations change. -/
def bufParts : List Part := [.regs, .cnts, .bufLog, .data, .mgt, .key]

/-- The registers that the buffer's own operations change. -/
def bufKeys : List Nat := K.BUF_STATUS :: K.BUF_AUDIT :: journalKeys

/-- No more than the buffer's registers, logs and tables and the event counters changed. -/
def State.BufKept (s t : State) : Prop := s.Only t bufParts ∧ s.RegsBut t bufKeys ∧ s.CntsBut t eventCounters

/-- Within that, of the data plane no more than cells, frames and the credits to return changed. -/
def State.HoldKept (s t : State) : Prop :=
  s.BufKept t ∧ t.data = { s.data with
    cells := t.data.cells, frames := t.data.frames, infos := t.data.infos, returned := t.data.returned }

theorem not_mem_bufKeys {k : Nat} (hk : k < 0x80000) : k ∉ bufKeys := by
  have above : ∀ j ∈ bufKeys, 0x80000 ≤ j := by decide
  exact fun h => absurd (above k h) (by omega)

section
variable {s t u : State}

theorem State.BufKept.refl (s : State) : s.BufKept s := ⟨s.only_refl _, State.RegsBut.refl s _, State.CntsBut.refl s _⟩

theorem State.BufKept.comp (h : s.BufKept t) (h' : t.BufKept u) : s.BufKept u :=
  ⟨h.1.comp h'.1, h.2.1.comp h'.2.1, h.2.2.comp h'.2.2⟩

theorem State.HoldKept.refl (s : State) : s.HoldKept s := ⟨.refl s, rfl⟩

theorem State.HoldKept.comp (h : s.HoldKept t) (h' : t.HoldKept u) : s.HoldKept u :=
  ⟨h.1.comp h'.1, h'.2.trans (by rw [h.2])⟩

theorem State.BufKept.ports (h : s.BufKept t) : t.ports = s.ports := h.1.keeps State.ports rfl

theorem State.BufKept.out (h : s.BufKept t) : t.out = s.out := h.1.keeps State.out rfl

theorem State.BufKept.cycle (h : s.BufKept t) : t.cycle = s.cycle := h.1.keeps State.cycle rfl

theorem State.BufKept.txAt (h : s.BufKept t) (m : Nat) : t.txAt m = s.txAt m := by rw [State.txAt, h.ports, State.txAt]

theorem State.BufKept.rxAt (h : s.BufKept t) (m : Nat) : t.rxAt m = s.rxAt m := by rw [State.rxAt, h.ports, State.rxAt]

theorem State.HoldKept.queues (h : s.HoldKept t) : t.data.queues = s.data.queues := by rw [h.2]

theorem State.HoldKept.qst (h : s.HoldKept t) : t.data.qst = s.data.qst := by rw [h.2]

theorem State.HoldKept.queue (h : s.HoldKept t) (q : Nat) : t.queue q = s.queue q := by rw [State.queue, h.queues, State.queue]

theorem State.HoldKept.qs (h : s.HoldKept t) (q : Nat) : t.qs q = s.qs q := by rw [State.qs, h.qst, State.qs]

/-- A change of the data plane alone. -/
theorem State.bufKept_data (s : State) (d : DataSt) : s.BufKept { s with data := d } :=
  ⟨rfl, State.regsBut_of_regs rfl _, State.cntsBut_of_cnts rfl _⟩

/-- A field of the buffer's registers alone. -/
theorem State.holdKept_setFld (s : State) {f : Fld} (hf : f.key ∈ bufKeys) (v : Nat) : s.HoldKept (s.setFld f v) :=
  ⟨⟨rfl, (s.regsBut_setFld f v).mono (fun k hk => by rw [List.mem_singleton.mp hk]; exact hf), State.cntsBut_of_cnts rfl _⟩, rfl⟩

theorem forEach_holdKept {α : Type} (f : α → State → State) (hf : ∀ x s, State.HoldKept s (f x s)) (l : List α) (s : State) :
    s.HoldKept (forEach l f s) := by
  induction l generalizing s with
  | nil => exact .refl s
  | cons x r ih => exact (hf x s).comp (ih (f x s))

theorem forEach_bufKept {α : Type} (f : α → State → State) (hf : ∀ x s, State.BufKept s (f x s)) (l : List α) (s : State) :
    s.BufKept (forEach l f s) := by
  induction l generalizing s with
  | nil => exact .refl s
  | cons x r ih => exact (hf x s).comp (ih (f x s))

end

section
variable (s : State)

/-! ## Events and cells -/

theorem State.raise_holdKept (c : Nat) (d : List Byte) : s.HoldKept (s.raise c d) :=
  ⟨⟨(s.raise_only c d).mono _ (by decide), (s.raise_regsBut c d).mono (fun _ hk => List.mem_cons_of_mem _ (List.mem_cons_of_mem _ hk)),
    s.raise_cntsBut c d⟩, rfl⟩

theorem State.bufEvent_holdKept (c i : Nat) : s.HoldKept (s.bufEvent c i) := by
  unfold State.bufEvent
  split
  · exact s.holdKept_setFld (by decide) 1
  · have logged (l : List Word) : s.HoldKept { s with bufLog := l } :=
      ⟨⟨rfl, State.regsBut_of_regs rfl _, State.cntsBut_of_cnts rfl _⟩, rfl⟩
    exact (logged _).comp (State.raise_holdKept _ _ _)

theorem State.setCell_holdKept (k : Nat) (c : Cell) : s.HoldKept (s.setCell k c) := ⟨s.bufKept_data _, rfl⟩

theorem State.setFrame_holdKept (h : Nat) (f : Frame) : s.HoldKept (s.setFrame h f) := ⟨s.bufKept_data _, rfl⟩

theorem State.setInfo_holdKept (h : Nat) (i : PassInfo) : s.HoldKept (s.setInfo h i) := ⟨s.bufKept_data _, rfl⟩

theorem State.modFrame_holdKept (h : Nat) (g : Frame → Frame) : s.HoldKept (s.modFrame h g) := by
  unfold State.modFrame
  split
  · exact s.setFrame_holdKept h _
  · exact .refl s

theorem State.returnCell_holdKept (k : Nat) : s.HoldKept (s.returnCell k) := by
  unfold State.returnCell
  split
  · exact (s.setCell_holdKept k _).comp (State.holdKept_setFld _ (by decide) _)
  · exact (s.setCell_holdKept k _).comp (State.holdKept_setFld _ (by decide) _)
  · exact .refl s

/-! ## Holds and copies -/

theorem State.returnChain_holdKept (h : Nat) : s.HoldKept (s.returnChain h) := by
  unfold State.returnChain
  split
  · exact .refl s
  · exact (forEach_holdKept _ (fun k s => s.returnCell_holdKept k) _ s).comp ⟨State.bufKept_data _ _, rfl⟩

theorem State.release_holdKept (h : Nat) : s.HoldKept (s.release h) := by
  unfold State.release
  split
  · exact .refl s
  split
  · exact s.bufEvent_holdKept 7 h
  split
  · have forgets (u : State) : u.HoldKept { u with data := { u.data with
        frames := mapErase h u.data.frames, infos := mapErase h u.data.infos } } := ⟨u.bufKept_data _, rfl⟩
    cases (s.info h).credit with
    | none =>
      dsimp only
      split
      · exact (s.setFrame_holdKept h _).comp (State.returnChain_holdKept _ h)
      · exact (s.setFrame_holdKept h _).comp (forgets _)
    | some c =>
      have credited : s.HoldKept (s.creditBack c.1 c.2) := ⟨s.bufKept_data _, rfl⟩
      dsimp only
      split
      · exact credited.comp ((State.setFrame_holdKept _ h _).comp (State.returnChain_holdKept _ h))
      · exact credited.comp ((State.setFrame_holdKept _ h _).comp (forgets _))
  · exact s.setFrame_holdKept h _

theorem State.tryRelease_holdKept (h : Nat) : s.HoldKept (s.tryRelease h) := by
  unfold State.tryRelease
  split
  · exact .refl s
  split
  · exact (s.setFrame_holdKept h _).comp (State.release_holdKept _ h)
  · exact .refl s

theorem State.endCopy_holdKept (q : Nat) (c : Copy) : s.HoldKept (s.endCopy q c) := by
  unfold State.endCopy
  split
  · exact .refl s
  · refine State.HoldKept.comp (t := if _ then _ else s) ?_ (State.release_holdKept _ _)
    split
    · exact s.modFrame_holdKept _ _
    · exact .refl s

theorem State.headTag_bufKept (q st : Nat) : s.BufKept (s.headTag q st) := by
  unfold State.headTag
  split
  · exact .refl s
  · exact s.bufKept_data _

theorem State.headTag_queues (q st : Nat) : (s.headTag q st).data.queues = s.data.queues := by
  unfold State.headTag; split <;> rfl

theorem State.dropCopies_bufKept (q : Nat) (f : Copy → Bool) : s.BufKept (s.dropCopies q f) := by
  have tag (c : Bool) (st : Nat) (s : State) : s.BufKept (if c then s.headTag q st else s) := by
    cases c
    · exact .refl s
    · exact s.headTag_bufKept q st
  unfold State.dropCopies
  dsimp only
  split
  · exact .refl s
  · exact ((s.bufKept_data _).comp (tag _ _ (s.setQueue q _))).comp
      (forEach_bufKept _ (fun c s => (s.endCopy_holdKept q c).1) _ _)

/-! ## Frames found bad -/

/-- The frame's copies in transmission will end stomped; nothing else changed. -/
def stompList (h : Nat) (l : List (Nat × Option Tx)) : List (Nat × Option Tx) :=
  l.map (fun c => (c.1, c.2.map (fun t => if t.copy.frame = some h then { t with stomp := true } else t)))

theorem mapGet_stompList (h m : Nat) (l : List (Nat × Option Tx)) :
    mapGet (fun _ => none) (stompList h l) m =
      (mapGet (fun _ => none) l m).map (fun t => if t.copy.frame = some h then { t with stomp := true } else t) := by
  induction l with
  | nil => rfl
  | cons c r ih =>
    simp only [stompList, List.map_cons, mapGet] at ih ⊢
    split
    · rfl
    · exact ih

/-- Every queue drops its copies of a frame. -/
def State.dropFrame (s : State) (h : Nat) : State :=
  forEach s.busyQueues (fun q s => s.dropCopies q (fun c => c.frame == some h)) s

/-- A frame waits for no pass. -/
def State.unlistFrame (s : State) (h : Nat) : State :=
  { s with data := { s.data with
    waiting := s.data.waiting.filter (fun k => k != h), recirc := s.data.recirc.filter (fun k => k != h),
    crossing := s.data.crossing.filter (fun k => k != h) } }

/-- A frame whose end is known takes no further pass. -/
def State.passIfEnded (s : State) (h : Nat) (f : Frame) : State :=
  if f.ended || f.cut then s.modFrame h (fun g => { g with stage := .passed }) else s

theorem State.markBad_known {h : Nat} {f : Frame} (hf : s.frame h = some f) (hb : f.bad = true) : s.markBad h = s := by
  simp [State.markBad, hf, hb]

theorem State.markBad_absent {h : Nat} (hf : s.frame h = none) : s.markBad h = s := by simp [State.markBad, hf]

theorem State.markBad_found {h : Nat} {f : Frame} (hf : s.frame h = some f) (hb : f.bad = false) :
    s.markBad h = ((((((s.setFrame h { f with bad := true }).dropFrame h).stompTx h).unlistFrame h).passIfEnded h f).tryRelease h) := by
  unfold State.markBad
  simp only [hf, hb, Bool.false_eq_true, if_false]
  rfl

theorem State.dropFrame_bufKept (h : Nat) : s.BufKept (s.dropFrame h) :=
  forEach_bufKept _ (fun q s => s.dropCopies_bufKept q (fun c => c.frame == some h)) _ s

theorem State.passIfEnded_holdKept (h : Nat) (f : Frame) : s.HoldKept (s.passIfEnded h f) := by
  unfold State.passIfEnded
  split
  · exact s.modFrame_holdKept h _
  · exact .refl s

/-- A frame found bad changes the buffer as drops do, and marks transmissions. -/
theorem State.markBad_parts (h : Nat) :
    ∃ u v : State, s.BufKept u ∧ (v = u ∨ v = u.stompTx h) ∧ v.BufKept (s.markBad h) := by
  cases hf : s.frame h with
  | none =>
    rw [s.markBad_absent hf]
    exact ⟨s, s, .refl s, .inl rfl, .refl s⟩
  | some f =>
    cases hb : f.bad with
    | true =>
      rw [s.markBad_known hf hb]
      exact ⟨s, s, .refl s, .inl rfl, .refl s⟩
    | false =>
      rw [s.markBad_found hf hb]
      exact ⟨_, _, (s.setFrame_holdKept h _).1.comp (State.dropFrame_bufKept _ h), .inr rfl,
        (State.bufKept_data _ _).comp ((State.passIfEnded_holdKept _ h f).1.comp (State.tryRelease_holdKept _ h).1)⟩

theorem State.markBad_txAt (h m : Nat) : (s.markBad h).txAt m = s.txAt m ∨
    (s.markBad h).txAt m = (s.txAt m).map (fun t => if t.copy.frame = some h then { t with stomp := true } else t) := by
  obtain ⟨u, v, first, rfl | rfl, last⟩ := s.markBad_parts h
  · exact .inl ((last.txAt m).trans (first.txAt m))
  · refine .inr ((last.txAt m).trans ?_)
    rw [← first.txAt m]
    exact mapGet_stompList h m u.ports.tx

theorem State.markBad_rx (h : Nat) : (s.markBad h).ports.rx = s.ports.rx := by
  obtain ⟨u, v, first, rfl | rfl, last⟩ := s.markBad_parts h
  · rw [last.ports, first.ports]
  · rw [last.ports, State.stompTx, first.ports]

end

end Sys2Proof.Machine
end


section
/-! SUPPORT. A change of a link (spec/03, R74, R86): what the end of a link makes of transmissions and receptions, and what MAC_STATUS
shows of the link's inputs. -/

namespace Sys2Proof.Machine

/-! ## Transmissions and receptions that end at once -/

section
variable (s : State)

theorem State.txAt_setTx (m j : Nat) (x : Option Tx) : (s.setTx m x).txAt j = if m = j then x else s.txAt j :=
  mapGet_mapSet _ s.ports.tx m j x

theorem State.rxAt_setRx (m j : Nat) (x : Option RxProg) : (s.setRx m x).rxAt j = if m = j then x else s.rxAt j :=
  mapGet_mapSet _ s.ports.rx m j x

theorem State.putSa_ports (p i : Nat) (w : List Word) : (s.putSa p i w).ports = s.ports :=
  forEach_part _ _ (fun s => s.ports) (fun (c : Nat × Word) s => s.setReg_ports c.1 c.2) s

theorem State.applySaWait_ports (p : Nat) :
    (s.applySaWait p).ports.tx = s.ports.tx ∧ (s.applySaWait p).ports.rx = s.ports.rx := by
  unfold State.applySaWait
  split
  · exact ⟨rfl, rfl⟩
  · dsimp only
    constructor
    · rw [forEach_part _ _ (fun s => s.ports) (fun (c : Nat × List Word) s => s.putSa_ports p (c.1 % 32) c.2) _]
    · rw [forEach_part _ _ (fun s => s.ports) (fun (c : Nat × List Word) s => s.putSa_ports p (c.1 % 32) c.2) _]

theorem State.abortTx_txAt (m j : Nat) : (s.abortTx m).txAt j = if m = j then none else s.txAt j := by
  unfold State.abortTx
  split
  next h =>
    split
    next e => rw [← e, h]
    next => rfl
  · exact ((State.endCopy_holdKept _ _ _).1.txAt j).trans (s.txAt_setTx m j none)

theorem State.abortTx_rxAt (m j : Nat) : (s.abortTx m).rxAt j = s.rxAt j := by
  unfold State.abortTx
  split
  · rfl
  · exact (State.endCopy_holdKept _ _ _).1.rxAt j

theorem State.rxCut_rxAt (m j : Nat) (r : RxProg) : (s.rxCut m r).rxAt j = if m = j then none else s.rxAt j := by
  have kept {u v : State} (h : u.ports.rx = v.ports.rx) : u.rxAt j = v.rxAt j := by rw [State.rxAt, h, State.rxAt]
  have ended : (((s.setRx m none).count (C.mac (m / 2) 0) r.raw.length).applySaWait (m / 2)).rxAt j =
      if m = j then none else s.rxAt j := (kept (State.applySaWait_ports _ (m / 2)).2).trans (s.rxAt_setRx m j none)
  unfold State.rxCut
  cases r.head with
  | none => exact ended
  | some h =>
    refine Eq.trans ?_ ended
    dsimp only
    rw [(State.tryRelease_holdKept _ h).1.rxAt, (State.modFrame_holdKept _ h _).1.rxAt, kept (State.markBad_rx _ h),
      (State.modFrame_holdKept _ h _).1.rxAt]

theorem State.rxCut_txAt (m j : Nat) (r : RxProg) (hj : s.txAt j = none) : (s.rxCut m r).txAt j = none := by
  have kept {u v : State} (h : u.ports.tx = v.ports.tx) : u.txAt j = v.txAt j := by rw [State.txAt, h, State.txAt]
  have ended : (((s.setRx m none).count (C.mac (m / 2) 0) r.raw.length).applySaWait (m / 2)).txAt j = none :=
    (kept (State.applySaWait_ports _ (m / 2)).1).trans hj
  unfold State.rxCut
  cases r.head with
  | none => exact ended
  | some h =>
    dsimp only
    rw [(State.tryRelease_holdKept _ h).1.txAt, (State.modFrame_holdKept _ h _).1.txAt]
    have before := ((State.modFrame_holdKept (((s.setRx m none).count (C.mac (m / 2) 0) r.raw.length).applySaWait (m / 2)) h
      (fun f => { f with cut := true })).1.txAt j).trans ended
    rcases State.markBad_txAt _ h j with e | e
    · exact e.trans before
    · rw [e, before]; rfl

theorem State.cutRx_rxAt (m j : Nat) : (s.cutRx m).rxAt j = if m = j then none else s.rxAt j := by
  unfold State.cutRx
  split
  · exact s.rxCut_rxAt m j _
  next h =>
    split
    next e => rw [← e, h]
    next => rfl

theorem State.cutRx_txAt (m j : Nat) (hj : s.txAt j = none) : (s.cutRx m).txAt j = none := by
  unfold State.cutRx
  split
  · exact s.rxCut_txAt m j _ hj
  · exact hj

/-- Everything in transmission or reception on a port ends. -/
def State.cutPort (s : State) (p : Nat) : State :=
  (((s.abortTx (2 * p)).abortTx (2 * p + 1)).cutRx (2 * p)).cutRx (2 * p + 1)

theorem State.cutPort_ends (p : Nat) : (s.cutPort p).txAt (2 * p) = none ∧ (s.cutPort p).txAt (2 * p + 1) = none ∧
    (s.cutPort p).rxAt (2 * p) = none ∧ (s.cutPort p).rxAt (2 * p + 1) = none := by
  have apart : ¬2 * p + 1 = 2 * p := by omega
  refine ⟨?_, ?_, ?_, ?_⟩
  · refine State.cutRx_txAt _ _ _ (State.cutRx_txAt _ _ _ ?_)
    rw [State.abortTx_txAt, if_neg apart, State.abortTx_txAt, if_pos rfl]
  · refine State.cutRx_txAt _ _ _ (State.cutRx_txAt _ _ _ ?_)
    rw [State.abortTx_txAt, if_pos rfl]
  · rw [State.cutPort, State.cutRx_rxAt, if_neg apart, State.cutRx_rxAt, if_pos rfl]
  · rw [State.cutPort, State.cutRx_rxAt, if_pos rfl]

end

/-! ## The inputs of a link -/

section
variable (s : State) {p : Nat} (phyUp lock usx : Bool) (speed : Nat)

/-- What the PHY and the lock report, before the link follows. -/
def State.noteInputs (s : State) (p : Nat) (phyUp lock usx : Bool) (speed : Nat) : State :=
  let s := (if 10 ≤ p then s.setPhyLink p phyUp else s).setFld (F.MAC_STATUS_LOCK p) (b2n lock)
  if p < 8 then (s.setUsxLink p usx).setPhySpeed p speed else s

theorem State.linkInputs_eq : s.linkInputs p phyUp lock usx speed = (s.noteInputs p phyUp lock usx speed).relink p := rfl

theorem State.noteInputs_only : s.Only (s.noteInputs p phyUp lock usx speed) [.regs, .ports] := by
  unfold State.noteInputs
  dsimp only
  split <;> split <;> rfl

theorem State.noteInputs_regs : (s.noteInputs p phyUp lock usx speed).regs = (s.setFld (F.MAC_STATUS_LOCK p) (b2n lock)).regs := by
  unfold State.noteInputs
  dsimp only
  split <;> split <;> rfl

theorem State.noteInputs_reg {k : Nat} (hk : k ≠ K.MAC_STATUS p) : (s.noteInputs p phyUp lock usx speed).reg k = s.reg k :=
  (State.reg_congr (s.noteInputs_regs phyUp lock usx speed) k).trans (s.reg_setFld_other _ _ (Ne.symm hk))

/-- What is shown of the inputs before the link follows: with the speeds' mismatch on a port of this kind. -/
def State.showInputs (s : State) (p : Nat) (phyUp lock usx : Bool) (speed : Nat) : State :=
  let s := s.noteInputs p phyUp lock usx speed
  if p < 8 then s.setFld (F.MAC_STATUS_SPEED_MISMATCH p) (b2n (s.mismatch p)) else s

theorem State.showInputs_only : s.Only (s.showInputs p phyUp lock usx speed) [.regs, .ports] := by
  have noted := s.noteInputs_only (p := p) phyUp lock usx speed
  unfold State.showInputs
  dsimp only
  split
  · exact noted.comp rfl
  · exact noted

theorem State.showInputs_regsBut : s.RegsBut (s.showInputs p phyUp lock usx speed) [K.MAC_STATUS p] := by
  have noted : s.RegsBut (s.noteInputs p phyUp lock usx speed) [K.MAC_STATUS p] :=
    fun k hk => s.noteInputs_reg phyUp lock usx speed (fun e => hk (List.mem_singleton.mpr e))
  unfold State.showInputs
  dsimp only
  split
  · exact noted.comp (State.regsBut_setFld _ _ _)
  · exact noted

theorem State.showInputs_ports : (s.showInputs p phyUp lock usx speed).ports = (s.noteInputs p phyUp lock usx speed).ports := by
  unfold State.showInputs
  dsimp only
  split <;> rfl

/-- A flag of MAC_STATUS other than LOCK and SPEED_MISMATCH is as it was. -/
theorem State.showInputs_flag {i : Nat} (h1 : i ≠ 1) (h3 : i ≠ 3) :
    (s.showInputs p phyUp lock usx speed).flag ⟨K.MAC_STATUS p, i, i⟩ = s.flag ⟨K.MAC_STATUS p, i, i⟩ := by
  have noted : (s.noteInputs p phyUp lock usx speed).flag ⟨K.MAC_STATUS p, i, i⟩ = s.flag ⟨K.MAC_STATUS p, i, i⟩ :=
    (State.flag_of_reg (State.reg_congr (s.noteInputs_regs phyUp lock usx speed) _)).trans
      (s.flag_setFld_bits (f := F.MAC_STATUS_LOCK p) (g := ⟨K.MAC_STATUS p, i, i⟩) _ rfl rfl (show 1 < 32 by decide) rfl (Ne.symm h1))
  unfold State.showInputs
  dsimp only
  split
  · exact (State.flag_setFld_bits _ (f := F.MAC_STATUS_SPEED_MISMATCH p) (g := ⟨K.MAC_STATUS p, i, i⟩) _ rfl rfl
      (show 3 < 32 by decide) rfl (Ne.symm h3)).trans noted
  · exact noted

theorem State.showInputs_lock : (s.showInputs p phyUp lock usx speed).flag (F.MAC_STATUS_LOCK p) = lock := by
  have noted : (s.noteInputs p phyUp lock usx speed).flag (F.MAC_STATUS_LOCK p) = lock := by
    refine (State.flag_of_reg (State.reg_congr (s.noteInputs_regs phyUp lock usx speed) _)).trans ?_
    refine (s.flag_setFld_same (F.MAC_STATUS_LOCK p) (b2n lock) rfl (show 1 < 32 by decide)).trans ?_
    cases lock <;> rfl
  unfold State.showInputs
  dsimp only
  split
  · exact (State.flag_setFld_bits _ (f := F.MAC_STATUS_SPEED_MISMATCH p) (g := F.MAC_STATUS_LOCK p) _ rfl rfl
      (show 3 < 32 by decide) rfl (show 3 ≠ 1 by decide)).trans noted
  · exact noted

theorem State.macCfg_kept (f : Fld) (hf : f.key = K.MAC_CFG p) : (s.showInputs p phyUp lock usx speed).fld f = s.fld f :=
  (s.showInputs_regsBut phyUp lock usx speed).fld (by
    rw [hf, List.mem_singleton]; unfold K.MAC_CFG K.MAC_STATUS; omega)

/-- The mismatch of a port whose PHY reports the speed. -/
theorem State.showInputs_mismatch (hp : p < 8) :
    (s.showInputs p phyUp lock usx speed).mismatch p = s.mismatchWith p speed ∧
    (s.showInputs p phyUp lock usx speed).flag (F.MAC_STATUS_SPEED_MISMATCH p) = s.mismatchWith p speed := by
  have speeds : (s.noteInputs p phyUp lock usx speed).phySpeed p = speed := by
    unfold State.noteInputs
    rw [if_pos hp]
    exact mapGet_mapSet_same _ _ p speed
  have mode : (s.noteInputs p phyUp lock usx speed).fld (F.MAC_CFG_MODE p) = s.fld (F.MAC_CFG_MODE p) :=
    State.fld_of_reg (s.noteInputs_reg phyUp lock usx speed (by
      show K.MAC_CFG p ≠ K.MAC_STATUS p; unfold K.MAC_CFG K.MAC_STATUS; omega))
  have noted : (s.noteInputs p phyUp lock usx speed).mismatch p = s.mismatchWith p speed := by
    rw [State.mismatch, speeds, mode, State.mismatchWith]
  constructor
  · rw [State.mismatch, s.macCfg_kept phyUp lock usx speed _ rfl, State.phySpeed, s.showInputs_ports, ← State.phySpeed, speeds,
      State.mismatchWith]
  · unfold State.showInputs
    dsimp only
    rw [if_pos hp]
    refine (State.flag_setFld_same _ (F.MAC_STATUS_SPEED_MISMATCH p) _ rfl (show 3 < 32 by decide)).trans ?_
    rw [noted]
    cases s.mismatchWith p speed <;> rfl

theorem State.showInputs_phyLink :
    (s.showInputs p phyUp lock usx speed).phyLink p = if 10 ≤ p then phyUp else s.phyLink p := by
  rw [State.phyLink, s.showInputs_ports]
  have wired : ∀ u : State, mapGet (fun _ => false) (if p < 8 then (u.setUsxLink p usx).setPhySpeed p speed else u).ports.phyLink p =
      u.phyLink p := fun u => by split <;> rfl
  refine (wired _).trans ?_
  split
  · exact mapGet_mapSet_same _ _ p phyUp
  · rfl

theorem State.showInputs_usxLink (hp : p < 8) : (s.showInputs p phyUp lock usx speed).usxLink p = usx := by
  rw [State.usxLink, s.showInputs_ports]
  unfold State.noteInputs
  rw [if_pos hp]
  exact mapGet_mapSet_same _ _ p usx

/-- The resets and the sleep that hold a port are as they were. -/
theorem State.showInputs_portHeld (hp : p < 34) : (s.showInputs p phyUp lock usx speed).portHeld p = s.portHeld p := by
  have kept {k : Nat} (hk : k ≠ K.MAC_STATUS p) : (s.showInputs p phyUp lock usx speed).reg k = s.reg k :=
    s.showInputs_regsBut phyUp lock usx speed k (fun h => hk (List.mem_singleton.mp h))
  have group : (s.showInputs p phyUp lock usx speed).portGroup p = s.portGroup p := by
    rw [State.portGroup, State.fld_of_reg (kept (by
      show K.NM_PORT_GROUP (p / 8) ≠ K.MAC_STATUS p; unfold K.NM_PORT_GROUP K.MAC_STATUS; omega)), State.portGroup]
  have sleeps (g : Nat) : (s.showInputs p phyUp lock usx speed).asleep g = s.asleep g := by
    rw [State.asleep, State.fld_of_reg (kept (by
      show K.NM_STATE ≠ K.MAC_STATUS p; unfold K.NM_STATE K.MAC_STATUS; omega)), State.asleep]
  rw [State.portHeld, State.rstHeld, group, sleeps, kept (by unfold K.RST_HELD K.MAC_STATUS; omega), State.portHeld, State.rstHeld]

/-- The link that the inputs make. -/
theorem State.showInputs_linkNow (hp : p < 34) :
    (s.showInputs p phyUp lock usx speed).linkNow p = State.upWith s p phyUp lock usx speed := by
  have enabled : (s.showInputs p phyUp lock usx speed).flag (F.MAC_CFG_EN p) = s.flag (F.MAC_CFG_EN p) :=
    (s.showInputs_regsBut phyUp lock usx speed).flag (by
      rw [List.mem_singleton]; show K.MAC_CFG p ≠ K.MAC_STATUS p; unfold K.MAC_CFG K.MAC_STATUS; omega)
  unfold State.linkNow State.upWith
  rw [if_neg (by omega), enabled, s.showInputs_portHeld phyUp lock usx speed hp, s.showInputs_lock, s.showInputs_phyLink]
  congr 1
  split
  next h8 =>
    rw [State.linkB, s.showInputs_phyLink, s.showInputs_lock, s.macCfg_kept phyUp lock usx speed _ rfl,
      s.showInputs_usxLink phyUp lock usx speed h8, (s.showInputs_mismatch phyUp lock usx speed h8).1, if_neg (by omega)]
  next =>
    split
    · rfl
    · rw [if_pos (by omega)]

/-- A link that turns: shown, logged, and with it the verification of MAC merge and what the port sends and receives. -/
def State.turnLink (s : State) (p : Nat) (now : Bool) : State :=
  let s := (s.setFld (F.MAC_STATUS_LINK_UP p) (b2n now)).raiseFlag (F.MAC_STATUS_LINK_CHANGED p) (beBytes 1 p ++ beBytes 1 (b2n now))
  if now then (if hasMerge p then s.restartVerify p else s)
  else (if hasMerge p then (s.cutPort p).setFld (F.MERGE_STATUS_PMAC_TX p) 0 else s.cutPort p)

theorem State.linkInputs_turns (hp : p < 34) : s.linkInputs p phyUp lock usx speed =
    if State.upWith s p phyUp lock usx speed = s.flag (F.MAC_STATUS_LINK_UP p) then s.showInputs p phyUp lock usx speed
    else (s.showInputs p phyUp lock usx speed).turnLink p (State.upWith s p phyUp lock usx speed) := by
  have turns : s.linkInputs p phyUp lock usx speed =
      let u := s.showInputs p phyUp lock usx speed
      if u.linkNow p = u.flag (F.MAC_STATUS_LINK_UP p) then u else u.turnLink p (u.linkNow p) := rfl
  have up : (s.showInputs p phyUp lock usx speed).flag (F.MAC_STATUS_LINK_UP p) = s.flag (F.MAC_STATUS_LINK_UP p) :=
    s.showInputs_flag (i := 0) phyUp lock usx speed (by decide) (by decide)
  rw [turns]
  dsimp only
  rw [up, s.showInputs_linkNow phyUp lock usx speed hp]

/-- A link that turns leaves MAC_STATUS as its own two flags make it. -/
theorem State.turnLink_status (hp : p < 34) (now : Bool) : (s.turnLink p now).reg (K.MAC_STATUS p) =
    ((s.setFld (F.MAC_STATUS_LINK_UP p) (b2n now)).raiseFlag (F.MAC_STATUS_LINK_CHANGED p)
      (beBytes 1 p ++ beBytes 1 (b2n now))).reg (K.MAC_STATUS p) := by
  have below : K.MAC_STATUS p < 0x80000 := by unfold K.MAC_STATUS; omega
  have other : K.MERGE_STATUS p ≠ K.MAC_STATUS p := by unfold K.MERGE_STATUS K.MAC_STATUS; omega
  have cut (u : State) : (u.cutPort p).reg (K.MAC_STATUS p) = u.reg (K.MAC_STATUS p) := by
    unfold State.cutPort
    rw [State.cutRx_macReg _ below, State.cutRx_macReg _ below, State.abortTx_macReg _ below, State.abortTx_macReg _ below]
  unfold State.turnLink
  dsimp only
  split
  · split
    · exact State.restartVerify_regsBut _ _ _ (by rw [List.mem_singleton]; exact other.symm)
    · rfl
  · split
    · exact (State.reg_setFld_other _ _ _ other).trans (cut _)
    · exact cut _

/-- What MAC_STATUS shows of a link that turned. -/
theorem State.turnLink_flags (hp : p < 34) (now : Bool) :
    (s.turnLink p now).flag (F.MAC_STATUS_LINK_UP p) = now ∧
    (s.turnLink p now).flag (F.MAC_STATUS_LINK_CHANGED p) = true ∧
    ∀ i, i ≠ 0 → i ≠ 4 → (s.turnLink p now).flag ⟨K.MAC_STATUS p, i, i⟩ = s.flag ⟨K.MAC_STATUS p, i, i⟩ := by
  have status := s.turnLink_status hp now
  have apart : K.MAC_STATUS p ∉ journalKeys := not_mem_journalKeys (by unfold K.MAC_STATUS; omega)
  generalize hu : s.setFld (F.MAC_STATUS_LINK_UP p) (b2n now) = u at status
  generalize beBytes 1 p ++ beBytes 1 (b2n now) = detail at status
  have kept (i : Nat) (h4 : i ≠ 4) : (u.raiseFlag (F.MAC_STATUS_LINK_CHANGED p) detail).flag ⟨K.MAC_STATUS p, i, i⟩ =
      u.flag ⟨K.MAC_STATUS p, i, i⟩ := by
    rw [State.flag_eq _ _ rfl, State.flag_eq _ _ rfl, u.raiseFlag_fld (F.MAC_STATUS_LINK_CHANGED p) ⟨K.MAC_STATUS p, i, i⟩ detail
      (show 4 ≤ 4 by decide) (show 4 < 32 by decide) apart rfl (le_refl i) (show 4 < i ∨ i < 4 by omega)]
  refine ⟨?_, ?_, fun i h0 h4 => ?_⟩
  · refine (State.flag_of_reg status).trans ((kept 0 (by decide)).trans ?_)
    rw [← hu]
    refine (s.flag_setFld_same (F.MAC_STATUS_LINK_UP p) _ rfl (show 0 < 32 by decide)).trans ?_
    cases now <;> rfl
  · exact (State.flag_of_reg status).trans (u.raiseFlag_flag (F.MAC_STATUS_LINK_CHANGED p) detail rfl (show 4 < 32 by decide) apart)
  · refine (State.flag_of_reg status).trans ((kept i h4).trans ?_)
    rw [← hu]
    exact s.flag_setFld_bits (f := F.MAC_STATUS_LINK_UP p) (g := ⟨K.MAC_STATUS p, i, i⟩) _ rfl rfl (show 0 < 32 by decide) rfl (Ne.symm h0)

theorem State.turnLink_down (p : Nat) :
    (s.turnLink p false).txAt (2 * p) = none ∧ (s.turnLink p false).txAt (2 * p + 1) = none ∧
    (s.turnLink p false).rxAt (2 * p) = none ∧ (s.turnLink p false).rxAt (2 * p + 1) = none := by
  unfold State.turnLink
  dsimp only
  rw [if_neg Bool.false_ne_true]
  split <;> exact State.cutPort_ends _ p

end

/-- Settles O17: the inputs are shown first; the link then stays, or turns with its two flags. -/
theorem linkChangeIsShown : Obligations.LinkChangeIsShown := by
  unfold Obligations.LinkChangeIsShown
  intro s p phyUp lock usx speed hp hw
  have run := exec_linkChange s p phyUp lock ⟨usx, speed⟩ (decide_eq_true hp) hw
  rw [s.linkInputs_turns phyUp lock usx speed hp] at run
  have shownLock := s.showInputs_lock (p := p) phyUp lock usx speed
  have shownMismatch := fun h8 => (s.showInputs_mismatch (p := p) phyUp lock usx speed h8).2
  have shownUp : (s.showInputs p phyUp lock usx speed).flag (F.MAC_STATUS_LINK_UP p) = s.flag (F.MAC_STATUS_LINK_UP p) :=
    s.showInputs_flag (i := 0) phyUp lock usx speed (by decide) (by decide)
  have shownChanged : (s.showInputs p phyUp lock usx speed).flag (F.MAC_STATUS_LINK_CHANGED p) = s.flag (F.MAC_STATUS_LINK_CHANGED p) :=
    s.showInputs_flag (i := 4) phyUp lock usx speed (by decide) (by decide)
  have shownRegs := s.showInputs_regsBut (p := p) phyUp lock usx speed
  have shownOnly := s.showInputs_only (p := p) phyUp lock usx speed
  generalize State.upWith s p phyUp lock usx speed = now at run ⊢
  generalize s.showInputs p phyUp lock usx speed = u at *
  by_cases same : now = s.flag (F.MAC_STATUS_LINK_UP p)
  · rw [if_pos same] at run
    refine ⟨_, run, shownLock, shownMismatch, shownUp.trans same.symm, fun h => absurd same.symm h, fun _ => ⟨shownChanged, shownRegs, ?_⟩,
      fun h1 h2 => ?_⟩
    · rw [State.Only.confine _ shownOnly (by decide)]
      exact shownOnly
    · rw [h1, h2] at same
      exact absurd same Bool.false_ne_true
  · rw [if_neg same] at run
    obtain ⟨up, changed, others⟩ := u.turnLink_flags hp now
    refine ⟨_, run, (others 1 (by decide) (by decide)).trans shownLock, fun h8 => (others 3 (by decide) (by decide)).trans (shownMismatch h8),
      up, fun _ => changed, fun h => absurd h.symm same, fun _ down => ?_⟩
    rw [down]
    exact u.turnLink_down p

end Sys2Proof.Machine
end


section
/-! SUPPORT. The MDIO masters (spec/03, R84, R85, R87, R96): what an idle master starts, and what each command of a master answers. -/

namespace Sys2Proof.Machine

/-! ## What a link that follows leaves -/

section
variable (s : State)

/-- What goes out, and what the PHYs report. -/
def State.wired (s : State) : List WireOut × List (Nat × Bool) := (s.out, s.ports.phyLink)

theorem State.BufKept.wired {t : State} (h : s.BufKept t) : t.wired = s.wired := by
  rw [State.wired, h.out, h.ports, State.wired]

theorem State.abortTx_wired (m : Nat) : (s.abortTx m).wired = s.wired := by
  unfold State.abortTx
  split
  · rfl
  · exact (State.endCopy_holdKept _ _ _).1.wired

theorem State.applySaWait_wired (p : Nat) : (s.applySaWait p).wired = s.wired := by
  have each : ∀ (i : Nat) (w : List Word) (s : State), (s.putSa p i w).wired = s.wired := fun i w s => by
    refine forEach_part _ _ State.wired ?_ s
    exact fun (c : Nat × Word) s => rfl
  unfold State.applySaWait
  split
  · rfl
  · exact forEach_part _ _ State.wired (fun (c : Nat × List Word) s => each (c.1 % 32) c.2 s) _

theorem State.markBad_wired (h : Nat) : (s.markBad h).wired = s.wired := by
  obtain ⟨u, v, first, rfl | rfl, last⟩ := s.markBad_parts h
  · exact last.wired.trans first.wired
  · exact last.wired.trans ((show (u.stompTx h).wired = u.wired from rfl).trans first.wired)

theorem State.cutRx_wired (m : Nat) : (s.cutRx m).wired = s.wired := by
  unfold State.cutRx State.rxCut
  dsimp only
  split
  · split
    · exact State.applySaWait_wired _ _
    · rw [(State.tryRelease_holdKept _ _).1.wired, (State.modFrame_holdKept _ _ _).1.wired, State.markBad_wired,
        (State.modFrame_holdKept _ _ _).1.wired]
      exact State.applySaWait_wired _ _
  · rfl

theorem State.relink_wired (p : Nat) : (s.relink p).wired = s.wired := by
  unfold State.relink
  extract_lets s1 now s2 s3
  have first : s1.wired = s.wired := by unfold s1; split <;> rfl
  have changed : s2.wired = s1.wired := by
    have raised := (State.raiseFlag_only (s1.setFld (F.MAC_STATUS_LINK_UP p) (b2n now)) (F.MAC_STATUS_LINK_CHANGED p)
      (beBytes 1 p ++ beBytes 1 (b2n now))).keeps State.wired rfl
    exact raised
  have ended : s3.wired = s2.wired := by
    unfold s3
    rw [State.cutRx_wired, State.cutRx_wired, State.abortTx_wired, State.abortTx_wired]
  rw [← first]
  split
  · rfl
  split
  · split
    · exact changed
    · exact changed
  · split
    · exact ended.trans changed
    · exact ended.trans changed

end

/-! ## What an idle master starts -/

section
variable {s : State} {m : Nat}

theorem State.mdioAt_setMdio (s : State) (m : Nat) (a : Option MdioAccess) : (s.setMdio m a).mdioAt m = a :=
  mapGet_mapSet_same _ s.ports.mdio m a

theorem State.mdioPolls_setMdioPolls (s : State) (m : Nat) (l : List Nat) : (s.setMdioPolls m l).mdioPolls m = l :=
  mapGet_mapSet_same _ s.ports.mdioPolls m l

theorem State.pollFrom_setPollFrom (s : State) (m : Nat) (c : Option Nat) : (s.setPollFrom m c).pollFrom m = c :=
  mapGet_mapSet_same _ s.ports.pollFrom m c

theorem State.mdioNext_ports (s : State) (m : Nat) : s.Only (s.mdioNext m) [.ports] ∧ (s.mdioNext m).pollFrom m = s.pollFrom m ∧
    (s.mdioNext m).ports.phyLink = s.ports.phyLink := by
  unfold State.mdioNext
  split
  · exact ⟨s.only_refl _, rfl, rfl⟩
  split
  · exact ⟨rfl, rfl, rfl⟩
  split
  · exact ⟨rfl, rfl, rfl⟩
  · exact ⟨rfl, rfl, rfl⟩

theorem State.mdioNext_busy {a : MdioAccess} (ha : s.mdioAt m = some a) : s.mdioNext m = s := by
  unfold State.mdioNext
  rw [ha]
  simp

section
variable (hh : s.rstHeld (66 + m) = false) (hn : s.mdioAt m = none)
include hh hn

theorem State.mdioNext_command {a : MdioAccess} (hw : s.mdioWaits m = some a) :
    s.mdioNext m = (s.setMdioWait m none).setMdio m (some { a with div := s.fld (F.MDIO_CFG_MDC_DIV m) }) := by
  unfold State.mdioNext
  simp [hh, hn, hw]

theorem State.mdioNext_poll (hw : s.mdioWaits m = none) {p : Nat} {r : List Nat}
    (hl : (s.mdioPolls m).filter (fun p => s.flag (F.MAC_CFG_EN p)) = p :: r) :
    s.mdioNext m = (s.setMdioPolls m r).setMdio m (some (s.pollAccess p)) := by
  unfold State.mdioNext
  simp [hh, hn, hw, hl]

end

end

/-- An idle master takes the first poll of an enabled port, a busy one keeps what it has. -/
theorem State.mdioNext_polls {u : State} {m : Nat} (hh : u.rstHeld (66 + m) = false) (hw : u.mdioWaits m = none) :
    (∀ a, u.mdioAt m = some a → (u.mdioNext m).mdioAt m = some a ∧ (u.mdioNext m).mdioPolls m = u.mdioPolls m) ∧
    (∀ p r, u.mdioAt m = none → (u.mdioPolls m).filter (fun p => u.flag (F.MAC_CFG_EN p)) = p :: r →
      (u.mdioNext m).mdioAt m = some (u.pollAccess p) ∧ (u.mdioNext m).mdioPolls m = r) := by
  refine ⟨fun a ha => ?_, fun p r ha hp => ?_⟩
  · rw [State.mdioNext_busy ha]
    exact ⟨ha, rfl⟩
  · rw [State.mdioNext_poll hh ha hw hp]
    exact ⟨State.mdioAt_setMdio (u.setMdioPolls m r) m _, State.mdioPolls_setMdioPolls u m r⟩

theorem State.pollAccess_congr {s t : State} (h : t.regs = s.regs) (p : Nat) : t.pollAccess p = s.pollAccess p := by
  rw [State.pollAccess, State.fld_congr h, State.fld_congr h, State.pollAccess]

/-! ## The commands of a master -/

section
variable {s : State} {m : Nat} (hm : m < 2) (hh : s.rstHeld (66 + m) = false)

include hm hh in
theorem mdio_busRuns (hr : s.mcRuns = true) : s.busRuns (K.MDIO_CMD m) = true := by
  have held : s.stopped (K.MDIO_CMD m) = false := by
    have place : 66 + (K.MDIO_CMD m - 0x7F000) / 0x100 = 66 + m := by unfold K.MDIO_CMD; omega
    unfold State.stopped
    rw [if_neg (by unfold K.MDIO_CMD; omega), if_pos (by unfold K.MDIO_CMD; omega), place, hh]
  rw [State.busRuns_iff]
  exact ⟨hr, held⟩

include hm hh in
theorem exec_mdioAccess_busy (value : Word) (hr : s.mcRuns = true) (hb : s.flag (F.MDIO_STATUS_BUSY m) = true) :
    ∃ t, exec (.mdioAccess m value) s = .next t ∧ t.flag (F.MDIO_STATUS_ERR_BUSY m) = true ∧
      s.RegsBut t [K.MDIO_STATUS m] ∧ s.Only t [.regs] := by
  have run := exec_mdioAccess s m value (decide_eq_true hm) (mdio_busRuns hm hh hr)
  have effect : s.mdioCommand m value = s.setFld (F.MDIO_STATUS_ERR_BUSY m) 1 := by
    unfold State.mdioCommand
    rw [if_pos hb]
  rw [effect, State.Only.confine (t := s.setFld (F.MDIO_STATUS_ERR_BUSY m) 1) (l := [.regs]) _ rfl (by decide)] at run
  exact ⟨_, run, s.flag_setFld_same (F.MDIO_STATUS_ERR_BUSY m) 1 rfl (show 2 < 32 by decide), s.regsBut_setFld _ _, rfl⟩

include hm hh in
theorem exec_mdioAccess_starts (value : Word) (hr : s.mcRuns = true) (hb : s.flag (F.MDIO_STATUS_BUSY m) = false)
    (hn : s.mdioAt m = none) :
    ∃ t, exec (.mdioAccess m value) s = .next t ∧ t.flag (F.MDIO_STATUS_BUSY m) = true ∧
      t.mdioAt m = some ⟨none, value.toNat, s.fld (F.MDIO_WDATA_WDATA m), s.fld (F.MDIO_CFG_MDC_DIV m), false⟩ ∧
      s.RegsBut t [K.MDIO_STATUS m] ∧ s.Only t [.regs, .ports] := by
  have run := exec_mdioAccess s m value (decide_eq_true hm) (mdio_busRuns hm hh hr)
  let a : MdioAccess := ⟨none, value.toNat, s.fld (F.MDIO_WDATA_WDATA m), 0, false⟩
  let u : State := (s.setFld (F.MDIO_STATUS_BUSY m) 1).setMdioWait m (some a)
  have held : u.rstHeld (66 + m) = false := by
    have kept : u.reg (K.RST_HELD ((66 + m) / 32)) = s.reg (K.RST_HELD ((66 + m) / 32)) :=
      s.reg_setFld_other (F.MDIO_STATUS_BUSY m) 1 (show K.MDIO_STATUS m ≠ _ by unfold K.MDIO_STATUS K.RST_HELD; omega)
    rw [State.rstHeld, kept, ← State.rstHeld, hh]
  have effect : s.mdioCommand m value = (u.setMdioWait m none).setMdio m (some { a with div := u.fld (F.MDIO_CFG_MDC_DIV m) }) := by
    unfold State.mdioCommand
    rw [if_neg (by rw [hb]; exact Bool.false_ne_true)]
    exact State.mdioNext_command held hn (mapGet_mapSet_same _ s.ports.mdioWait m (some a))
  have div : u.fld (F.MDIO_CFG_MDC_DIV m) = s.fld (F.MDIO_CFG_MDC_DIV m) :=
    s.fld_setFld_key (F.MDIO_STATUS_BUSY m) (F.MDIO_CFG_MDC_DIV m) 1 (show K.MDIO_STATUS m ≠ K.MDIO_CFG m by
      unfold K.MDIO_STATUS K.MDIO_CFG; omega)
  rw [effect, div] at run
  exact ⟨_, run, s.flag_setFld_same (F.MDIO_STATUS_BUSY m) 1 rfl (show 0 < 32 by decide),
    (State.mdioAt_setMdio _ m _), (s.regsBut_setFld (F.MDIO_STATUS_BUSY m) 1).after rfl, s.only_confine _ _⟩

/-! ## An access ends -/

/-- The registers of a commanded access that ended. -/
def State.mdioShow (s : State) (m : Nat) (a : MdioAccess) (answer : Option Nat) : State :=
  let s := (s.setFld (F.MDIO_STATUS_BUSY m) 0).setFld (F.MDIO_STATUS_DONE m) 1
  if a.cmd.testBit 31 then s.setFld (F.MDIO_STATUS_RDATA m) (mdioRead answer) else s

theorem State.mdioShow_frame (s : State) (m : Nat) (a : MdioAccess) (answer : Option Nat) :
    s.RegsBut (s.mdioShow m a answer) [K.MDIO_STATUS m] ∧ s.Only (s.mdioShow m a answer) [.regs] := by
  have two : s.RegsBut ((s.setFld (F.MDIO_STATUS_BUSY m) 0).setFld (F.MDIO_STATUS_DONE m) 1) [K.MDIO_STATUS m] :=
    (s.regsBut_setFld (F.MDIO_STATUS_BUSY m) 0).comp (State.regsBut_setFld _ (F.MDIO_STATUS_DONE m) 1)
  unfold State.mdioShow
  dsimp only
  split
  · exact ⟨two.comp (State.regsBut_setFld _ (F.MDIO_STATUS_RDATA m) _), rfl⟩
  · exact ⟨two, rfl⟩

theorem State.mdioShow_flags (s : State) (m : Nat) (a : MdioAccess) (answer : Option Nat) :
    (s.mdioShow m a answer).flag (F.MDIO_STATUS_BUSY m) = false ∧ (s.mdioShow m a answer).flag (F.MDIO_STATUS_DONE m) = true := by
  have first := s.flag_setFld_same (F.MDIO_STATUS_BUSY m) 0 rfl (show 0 < 32 by decide)
  generalize hu : s.setFld (F.MDIO_STATUS_BUSY m) 0 = u at first
  have idle : (u.setFld (F.MDIO_STATUS_DONE m) 1).flag (F.MDIO_STATUS_BUSY m) = false :=
    (u.flag_setFld_bits (f := F.MDIO_STATUS_DONE m) (g := F.MDIO_STATUS_BUSY m) 1 rfl rfl (show 1 < 32 by decide) rfl
      (show 1 ≠ 0 by decide)).trans first
  have done : (u.setFld (F.MDIO_STATUS_DONE m) 1).flag (F.MDIO_STATUS_DONE m) = true :=
    u.flag_setFld_same (F.MDIO_STATUS_DONE m) 1 rfl (show 1 < 32 by decide)
  have beside (v : State) (i : Nat) (hi : i < 16) :
      (v.setFld (F.MDIO_STATUS_RDATA m) (mdioRead answer)).flag ⟨K.MDIO_STATUS m, i, i⟩ = v.flag ⟨K.MDIO_STATUS m, i, i⟩ := by
    rw [State.flag_eq _ _ rfl, State.flag_eq _ _ rfl, v.fld_setFld_bits (F.MDIO_STATUS_RDATA m) ⟨K.MDIO_STATUS m, i, i⟩ _ rfl
      (show 16 ≤ 31 by decide) (show 31 < 32 by decide) (le_refl i) (show 31 < i ∨ i < 16 from .inr hi)]
  unfold State.mdioShow
  rw [hu]
  dsimp only
  split
  · exact ⟨(beside _ 0 (by decide)).trans idle, (beside _ 1 (by decide)).trans done⟩
  · exact ⟨idle, done⟩

theorem State.mdioShow_read (s : State) (m : Nat) (a : MdioAccess) {answer : Option Nat} (ha : ∀ r, answer = some r → r < 65536) :
    (s.mdioShow m a answer).fld (F.MDIO_STATUS_RDATA m) =
      (if a.cmd.testBit 31 then answer.getD 0xFFFF else s.fld (F.MDIO_STATUS_RDATA m)) := by
  have small : answer.getD 0xFFFF < 65536 := by
    cases answer with
    | none => decide
    | some r => exact ha r rfl
  have beside (v : State) (i w : Nat) (hi : i < 16) :
      (v.setFld ⟨K.MDIO_STATUS m, i, i⟩ w).fld (F.MDIO_STATUS_RDATA m) = v.fld (F.MDIO_STATUS_RDATA m) :=
    v.fld_setFld_bits ⟨K.MDIO_STATUS m, i, i⟩ (F.MDIO_STATUS_RDATA m) w rfl (le_refl i) (show i < 32 by omega)
      (show 16 ≤ 31 by decide) (show i < 16 ∨ 31 < i from .inl hi)
  unfold State.mdioShow
  dsimp only
  split
  · exact (State.fld_setFld_same _ (F.MDIO_STATUS_RDATA m) _ (show 16 ≤ 31 by decide) (show 31 < 32 by decide)).trans
      (Nat.mod_eq_of_lt small)
  · exact (beside _ 1 1 (by decide)).trans (beside s 0 0 (by decide))

section
variable (hd : s.drives = true) {a : MdioAccess} {answer : Option Nat} (hr : ∀ r, answer = some r → r < 65536)
include hm hd hr

theorem exec_mdioAccessDone_ends : exec (.mdioAccessDone m answer) s = .next (s.confine
    [.regs, .cnts, .fresh, .bufLog, .data, .ports, .mgt, .key, .out] (s.mdioEnd m answer)) := by
  refine exec_mdioAccessDone s m answer ?_ hd
  have small : answer.all (fun r => decide (r < 65536)) = true := by
    cases answer with
    | none => rfl
    | some r => exact decide_eq_true (hr r rfl)
  show (decide (m < 2) && _) = true
  rw [small, decide_eq_true hm, Bool.and_true]

theorem exec_mdioAccessDone_commanded (ha : s.mdioAt m = some a) (hp : a.poll = none) :
    ∃ t, exec (.mdioAccessDone m answer) s = .next t ∧ t.flag (F.MDIO_STATUS_BUSY m) = false ∧
      t.flag (F.MDIO_STATUS_DONE m) = true ∧
      t.fld (F.MDIO_STATUS_RDATA m) = (if a.cmd.testBit 31 then answer.getD 0xFFFF else s.fld (F.MDIO_STATUS_RDATA m)) ∧
      t.out = .mdio m a.cmd a.wdata :: s.out ∧ s.RegsBut t [K.MDIO_STATUS m] ∧ s.Only t [.regs, .ports, .out] := by
  have run := exec_mdioAccessDone_ends hm hd hr
  let u : State := (s.setMdio m none).emit (.mdio m a.cmd a.wdata)
  have effect : s.mdioEnd m answer = (u.mdioShow m a answer).mdioNext m := by
    unfold State.mdioEnd
    simp only [ha, hp]
    rfl
  obtain ⟨idle, done⟩ := u.mdioShow_flags m a answer
  have read := u.mdioShow_read m a hr
  obtain ⟨frame, regs⟩ := u.mdioShow_frame m a answer
  have next := (State.mdioNext_ports (u.mdioShow m a answer) m).1
  have whole : s.Only ((u.mdioShow m a answer).mdioNext m) [.regs, .ports, .out] :=
    (show s.Only u [.regs, .ports, .out] from rfl).comp ((regs.mono _ (by decide)).comp (next.mono _ (by decide)))
  have sent : ((u.mdioShow m a answer).mdioNext m).out = u.out := (next.keeps State.out rfl).trans (regs.keeps State.out rfl)
  have shown : ((u.mdioShow m a answer).mdioNext m).regs = (u.mdioShow m a answer).regs := next.keeps State.regs rfl
  rw [effect, whole.confine _ (by decide)] at run
  exact ⟨_, run, (State.flag_of_reg (State.reg_congr shown _)).trans idle, (State.flag_of_reg (State.reg_congr shown _)).trans done,
    (State.fld_of_reg (State.reg_congr shown _)).trans read, sent, (frame.from rfl).after shown, whole⟩

theorem exec_mdioAccessDone_poll (ha : s.mdioAt m = some a) {p : Nat} (hp : a.poll = some p) :
    ∃ t, exec (.mdioAccessDone m answer) s = .next t ∧
      s.Only t [.regs, .cnts, .fresh, .bufLog, .data, .ports, .mgt, .key, .out] ∧
        t.phyLink p = (if a.void then s.phyLink p else (answer.getD 0xFFFF).testBit 2) ∧
      t.out = .mdio m a.cmd a.wdata :: s.out := by
  have run := exec_mdioAccessDone_ends hm hd hr
  let u : State := (s.setMdio m none).emit (.mdio m a.cmd a.wdata)
  have followed (v : State) : (v.mdioNext m).wired = v.wired := by
    obtain ⟨only, -, links⟩ := State.mdioNext_ports v m
    rw [State.wired, links, only.keeps State.out rfl, State.wired]
  have effect : (s.mdioEnd m answer).wired =
      (.mdio m a.cmd a.wdata :: s.out,
        if a.void then s.ports.phyLink else mapSet (fun _ => false) s.ports.phyLink p ((answer.getD 0xFFFF).testBit 2)) := by
    unfold State.mdioEnd
    simp only [ha, hp]
    rw [followed]
    split
    · rfl
    · exact State.relink_wired _ p
  refine ⟨_, run, s.only_confine _ _, ?_, congrArg Prod.fst effect⟩
  show mapGet (fun _ => false) (s.mdioEnd m answer).ports.phyLink p = _
  rw [show (s.mdioEnd m answer).ports.phyLink = _ from congrArg Prod.snd effect]
  split
  · rfl
  · exact mapGet_mapSet_same _ _ p _

end

/-! ## Polls -/

section
variable (hd : s.drives = true) (hw : s.mdioWaits m = none)
include hh hd hw

theorem exec_mdioPoll_falls (hm : m < 2) {c : Nat} (hc : s.pollFrom m = some c) (hi : s.fld (F.MDIO_CFG_POLL_MS m) ≠ 0)
    (hl : c + s.pollCycles m ≤ s.cycle) :
    ∃ t, exec (.mdioPoll m) s = .next t ∧ s.Only t [.ports] ∧ t.pollFrom m = some (c + s.pollCycles m) ∧
      (let l := ((List.range 4).map (fun i => 4 * m + i)).filter (fun p => s.flag (F.MAC_CFG_EN p))
      (∀ a, s.mdioAt m = some a → t.mdioAt m = some a ∧ t.mdioPolls m = s.mdioPolls m ++ l) ∧
      (∀ p r, s.mdioAt m = none → (s.mdioPolls m ++ l).filter (fun p => s.flag (F.MAC_CFG_EN p)) = p :: r →
        t.mdioAt m = some (s.pollAccess p) ∧ t.mdioPolls m = r)) := by
  have run := exec_mdioPoll s m (decide_eq_true hm) hd
  have some' : s.pollCycles m ≠ 0 := by unfold State.pollCycles; omega
  have falls : s.mdioPollAll m = ((s.setPollFrom m (some (c + s.pollCycles m))).setMdioPolls m (s.mdioPolls m ++
      ((List.range 4).map (fun i => 4 * m + i)).filter (fun p => s.flag (F.MAC_CFG_EN p)))).mdioNext m := by
    unfold State.mdioPollAll
    simp only [hc]
    exact if_neg (by omega)
  rw [falls] at run
  generalize c + s.pollCycles m = next at run ⊢
  let l := ((List.range 4).map (fun i => 4 * m + i)).filter (fun p => s.flag (F.MAC_CFG_EN p))
  let u : State := (s.setPollFrom m (some next)).setMdioPolls m (s.mdioPolls m ++ l)
  have queued : u.mdioPolls m = s.mdioPolls m ++ l := State.mdioPolls_setMdioPolls (s.setPollFrom m (some next)) m _
  have timer : u.pollFrom m = some next :=
    (show u.pollFrom m = (s.setPollFrom m (some next)).pollFrom m from rfl).trans (State.pollFrom_setPollFrom s m (some next))
  have only : s.Only (u.mdioNext m) [.ports] := (show s.Only u [.ports] from rfl).comp (State.mdioNext_ports u m).1
  have next := State.mdioNext_polls (u := u) (m := m) hh hw
  change exec (.mdioPoll m) s = .next (s.confine [.ports] (u.mdioNext m)) at run
  rw [only.confine _ (by decide)] at run
  rw [queued] at next
  refine ⟨_, run, only, (State.mdioNext_ports u m).2.1.trans timer, next.1, fun p r ha hp => ?_⟩
  rw [← State.pollAccess_congr (show u.regs = s.regs from rfl) p]
  exact next.2 p r ha hp

theorem exec_mdioInterruptPoll_queues {p : Nat} (hp : p < 8) (hpm : p / 4 = m) (he : s.flag (F.MAC_CFG_EN p) = true)
    (hi : s.flag (F.MAC_STATUS_PHY_INT p) = true) :
    ∃ t, exec (.mdioInterruptPoll p) s = .next t ∧ s.Only t [.ports] ∧
      (s.mdioAt m = none → t.mdioAt m = some (s.pollAccess p) ∧
        t.mdioPolls m = (s.mdioPolls m).filter (fun p => s.flag (F.MAC_CFG_EN p))) ∧
      (∀ a, s.mdioAt m = some a → t.mdioAt m = some a ∧ t.mdioPolls m = p :: s.mdioPolls m) := by
  have run := exec_mdioInterruptPoll s p (decide_eq_true hp) hd
  let u : State := s.setMdioPolls m (p :: s.mdioPolls m)
  have queued : u.mdioPolls m = p :: s.mdioPolls m := State.mdioPolls_setMdioPolls s m _
  have effect : s.mdioPollPort p = u.mdioNext m := by
    unfold State.mdioPollPort
    rw [he, hi, hpm]
    rfl
  rw [effect] at run
  refine ⟨_, run, s.only_confine _ _, fun ha => ?_, fun a ha => ?_⟩
  · have first : (u.mdioPolls m).filter (fun p => u.flag (F.MAC_CFG_EN p)) =
        p :: (s.mdioPolls m).filter (fun p => s.flag (F.MAC_CFG_EN p)) := by
      rw [queued]
      exact List.filter_cons_of_pos he
    rw [State.mdioNext_poll (s := u) hh ha hw first]
    exact ⟨State.mdioAt_setMdio _ m _, State.mdioPolls_setMdioPolls u m _⟩
  · rw [State.mdioNext_busy (s := u) ha]
    exact ⟨ha, queued⟩

end

/-! ## MDIO_CFG -/

omit s m in
theorem State.fld_of_stored {t : State} (f : Fld) {w : Word} (h : t.reg f.key = w) : t.fld f = wordBits w f.hi f.lo := by
  rw [State.fld, h]

include hm in
theorem exec_mdioCfgWrite_takes (mask value : Word) (hb : s.busRuns (K.MDIO_CFG m) = true) :
    ∃ t, exec (.mdioCfgWrite m mask value) s = .next t ∧ s.RegsBut t [K.MDIO_CFG m] ∧ s.Only t [.regs, .ports] ∧
      t.pollFrom m = (s.pollFrom m).map (fun _ => s.cycle) ∧
      (let w := maskWord (s.reg (K.MDIO_CFG m)) (mask &&& 0xFFFF) value
      t.fld (F.MDIO_CFG_POLL_MS m) = wordBits w 15 8 ∧
      t.fld (F.MDIO_CFG_MDC_DIV m) = if wordBits w 7 0 < 9 then s.fld (F.MDIO_CFG_MDC_DIV m) else wordBits w 7 0) := by
  have run := exec_mdioCfgWrite s m mask value (decide_eq_true hm) hb
  let w := maskWord (s.reg (K.MDIO_CFG m)) (mask &&& 0xFFFF) value
  let x := if wordBits w 7 0 < 9 then putBits w 7 0 (wordBits (s.reg (K.MDIO_CFG m)) 7 0) else w
  have stored : (s.writeMdioCfg m mask value).reg (K.MDIO_CFG m) = x := s.reg_setReg_same (K.MDIO_CFG m) x
  have others : s.RegsBut (s.writeMdioCfg m mask value) [K.MDIO_CFG m] := (s.regsBut_setReg (K.MDIO_CFG m) x).after rfl
  have timer : (s.writeMdioCfg m mask value).pollFrom m = (s.pollFrom m).map (fun _ => s.cycle) :=
    State.pollFrom_setPollFrom (s.setReg (K.MDIO_CFG m) x) m _
  have only : s.Only (s.writeMdioCfg m mask value) [.regs, .ports] := rfl
  rw [only.confine _ (by decide)] at run
  have polls : wordBits x 15 8 = wordBits w 15 8 := by
    unfold x
    split
    · exact wordBits_putBits_other _ 7 0 _ 15 8 (by decide) (by decide) (by decide) (.inl (by decide))
    · rfl
  have divides : wordBits x 7 0 = if wordBits w 7 0 < 9 then s.fld (F.MDIO_CFG_MDC_DIV m) else wordBits w 7 0 := by
    unfold x
    split
    · refine (wordBits_putBits_same _ 7 0 _ (by decide) (by decide)).trans (Nat.mod_eq_of_lt ?_)
      exact Nat.mod_lt _ (by decide)
    · rfl
  generalize s.writeMdioCfg m mask value = t at *
  exact ⟨_, run, others, only, timer, (State.fld_of_stored (F.MDIO_CFG_POLL_MS m) stored).trans polls,
    (State.fld_of_stored (F.MDIO_CFG_MDC_DIV m) stored).trans divides⟩

end

/-- Settles O24: each command of a master, on the master's own state. -/
theorem mdioMastersWork : Obligations.MdioMastersWork := by
  unfold Obligations.MdioMastersWork
  refine ⟨fun s m hm hd hh => ⟨fun value hr hb => exec_mdioAccess_busy hm hh value hr hb,
      fun value hr hb hn => exec_mdioAccess_starts hm hh value hr hb hn,
      fun a answer hr ha hp => exec_mdioAccessDone_commanded hm hd hr ha hp,
      fun a p answer hr ha hp => exec_mdioAccessDone_poll hm hd hr ha hp⟩,
    fun s m hm hd hh hw => ⟨fun c hc hi hl => exec_mdioPoll_falls hh hd hw hm hc hi hl,
      fun p hp hpm he hi => exec_mdioInterruptPoll_queues hh hd hw hp hpm he hi⟩,
    fun s m mask value hm hb => exec_mdioCfgWrite_takes hm mask value hb⟩

end Sys2Proof.Machine
end


section
/-! SUPPORT. Fields that a list of writes sets: what each reads as, and what the fields beside them read as. The places of the fields
are compared as Booleans, so that a closed list is checked by evaluation. -/

namespace Sys2Proof.Machine

/-- Two fields have no bit in common: they are of two registers, or of two ranges of one. -/
def Fld.beside (f g : Fld) : Bool :=
  f.key != g.key || (decide (f.lo ≤ f.hi) && decide (f.hi < 32) && decide (g.lo ≤ g.hi) && (decide (f.hi < g.lo) || decide (g.hi < f.lo)))

section
variable (s : State) {f g : Fld} {l : List (Fld × Nat)}

theorem State.fld_setFld_beside (v : Nat) (h : f.beside g = true) : (s.setFld f v).fld g = s.fld g := by
  by_cases hk : f.key = g.key
  · simp only [Fld.beside, hk, bne_self_eq_false, Bool.false_or, Bool.and_eq_true, Bool.or_eq_true, decide_eq_true_eq] at h
    obtain ⟨⟨⟨h1, h2⟩, h3⟩, h4⟩ := h
    exact s.fld_setFld_bits f g v hk h1 h2 h3 h4
  · exact s.fld_setFld_key f g v hk

theorem State.fld_setFlds_beside (h : l.all (fun c => c.1.beside g) = true) : (s.setFlds l).fld g = s.fld g := by
  induction l generalizing s with
  | nil => rfl
  | cons c r ih =>
    rw [List.all_cons, Bool.and_eq_true] at h
    rw [State.setFlds, ih _ h.2, s.fld_setFld_beside c.2 h.1]

theorem State.flag_setFlds_beside (hg : g.hi = g.lo) (h : l.all (fun c => c.1.beside g) = true) : (s.setFlds l).flag g = s.flag g := by
  rw [State.flag_eq _ _ hg, s.fld_setFlds_beside h, State.flag_eq _ _ hg]

theorem State.setFlds_append (pre post : List (Fld × Nat)) : s.setFlds (pre ++ post) = (s.setFlds pre).setFlds post := by
  induction pre generalizing s with
  | nil => rfl
  | cons c r ih => exact ih _

/-- A field of the list reads as what was set where those after it are beside it. -/
theorem State.fld_setFlds_at (pre post : List (Fld × Nat)) (g : Fld) (v : Nat) (h1 : g.lo ≤ g.hi) (h2 : g.hi < 32)
    (h : post.all (fun c => c.1.beside g) = true) : (s.setFlds (pre ++ (g, v) :: post)).fld g = v % 2 ^ (g.hi - g.lo + 1) := by
  rw [s.setFlds_append, State.setFlds, State.fld_setFlds_beside _ h]
  exact State.fld_setFld_same _ g v h1 h2

theorem State.flag_setFlds_at (pre post : List (Fld × Nat)) (g : Fld) (v : Nat) (h1 : g.hi = g.lo) (h2 : g.hi < 32)
    (h : post.all (fun c => c.1.beside g) = true) : (s.setFlds (pre ++ (g, v) :: post)).flag g = decide (v % 2 = 1) := by
  rw [State.flag_eq _ _ h1, s.fld_setFlds_at pre post g v (by omega) h2 h, h1]
  simp

theorem State.regsBut_setFlds_keys {keys : List Nat} (h : l.all (fun c => keys.contains c.1.key) = true) :
    s.RegsBut (s.setFlds l) keys := by
  induction l generalizing s with
  | nil => exact State.RegsBut.refl s _
  | cons c r ih =>
    rw [List.all_cons, Bool.and_eq_true] at h
    have mem := List.contains_iff_mem.mp h.1
    exact ((s.regsBut_setFld c.1 c.2).mono (fun k hk => List.mem_singleton.mp hk ▸ mem)).comp (ih _ h.2)

end

end Sys2Proof.Machine
end


section
/-! SUPPORT. The commands on the forwarding database (spec/05, R170): what an operation starts with, and what its end shows. -/

namespace Sys2Proof.Machine

section
variable (s : State)

/-! ## An operation starts -/

theorem State.fdbStart_starts (o : FdbOp) : (s.fdbStart o).flag F.FDB_STATUS_BUSY = true ∧ s.RegsBut (s.fdbStart o) [K.FDB_STATUS] ∧
    (s.fdbStart o).data = { s.data with fdbOp := o } ∧ s.Only (s.fdbStart o) [.regs, .data] :=
  ⟨s.flag_setFld_same F.FDB_STATUS_BUSY 1 rfl (by decide), (s.regsBut_setFld F.FDB_STATUS_BUSY 1).after rfl, rfl, rfl⟩

theorem State.fdbCommand_busy (hb : s.flag F.FDB_STATUS_BUSY = true) (f : State → State) :
    s.fdbCommand f = s.setFld F.FDB_STATUS_ERR_BUSY 1 := if_pos hb

theorem State.fdbCommand_idle (hb : s.flag F.FDB_STATUS_BUSY = false) (f : State → State) : s.fdbCommand f = f s :=
  if_neg (by rw [hb]; exact Bool.false_ne_true)

theorem State.fdbPut_only (i : Nat) (e : Option FdbEntry) : s.Only (s.fdbPut i e) [.data] := rfl

/-- An operation that puts an entry and reports its place. -/
def State.fdbPutAt (s : State) (i : Nat) (e : Option FdbEntry) : State := (s.fdbPut i e).fdbStart (.single 0 i)

theorem State.fdbPutAt_puts (i : Nat) (e : Option FdbEntry) : (s.fdbPutAt i e).data.fdbOp = .single 0 i ∧ (s.fdbPutAt i e).fdbAt i = e ∧
    ∀ j, j ≠ i → (s.fdbPutAt i e).fdbAt j = s.fdbAt j :=
  ⟨rfl, s.fdbPut_reads i e⟩

theorem State.fdbPutAt_starts (i : Nat) (e : Option FdbEntry) : (s.fdbPutAt i e).flag F.FDB_STATUS_BUSY = true ∧
    s.RegsBut (s.fdbPutAt i e) [K.FDB_STATUS] ∧ s.Only (s.fdbPutAt i e) [.regs, .data] := by
  obtain ⟨busy, regs, -, only⟩ := (s.fdbPut i e).fdbStart_starts (.single 0 i)
  exact ⟨busy, regs.from rfl, ((s.fdbPut_only i e).mono _ (by decide)).comp only⟩

/-! ## The effect of each command -/

theorem State.fdbFind_key {fid mac i : Nat} {e : FdbEntry} (h : s.fdbFind fid mac = some (i, e)) : e.fid = fid ∧ e.mac = mac := by
  obtain ⟨j, -, hj⟩ := List.exists_of_findSome?_eq_some h
  split at hj
  next x hx =>
    split at hj
    next hk => cases hj; exact hk
    next => cases hj
  next => cases hj

/-- The fields that FDB_KEY and FDB_DATA take from an entry. -/
def FdbEntry.flds (e : FdbEntry) : List (Fld × Nat) :=
  [(F.FDB_KEY_LO_MAC_LO, e.mac % 0x100000000), (F.FDB_KEY_HI_MAC_HI, e.mac / 0x100000000),
    (F.FDB_KEY_HI_FID, e.fid), (F.FDB_DATA_VALID, 1), (F.FDB_DATA_STATIC, b2n e.static), (F.FDB_DATA_HIT, b2n e.hit),
    (F.FDB_DATA_KIND, e.kind), (F.FDB_DATA_DEST, e.dest)]

theorem State.fdbLoad_entry (e : FdbEntry) : s.fdbLoad (some e) = s.setFlds e.flds := rfl

theorem State.fdbLoad_data (e : FdbEntry) : (s.setFlds e.flds).flag F.FDB_DATA_VALID = true ∧
    (s.setFlds e.flds).flag F.FDB_DATA_STATIC = e.static ∧ (s.setFlds e.flds).flag F.FDB_DATA_HIT = e.hit ∧
    (s.setFlds e.flds).fld F.FDB_DATA_KIND = e.kind % 4 ∧ (s.setFlds e.flds).fld F.FDB_DATA_DEST = e.dest % 1024 := by
  have truth (b : Bool) : decide (b2n b % 2 = 1) = b := by cases b <;> rfl
  refine ⟨?_, ?_, ?_, ?_, ?_⟩
  · exact s.flag_setFlds_at (e.flds.take 3) (e.flds.drop 4) F.FDB_DATA_VALID 1 rfl (by decide) rfl
  · exact (s.flag_setFlds_at (e.flds.take 4) (e.flds.drop 5) F.FDB_DATA_STATIC _ rfl (by decide) rfl).trans (truth e.static)
  · exact (s.flag_setFlds_at (e.flds.take 5) (e.flds.drop 6) F.FDB_DATA_HIT _ rfl (by decide) rfl).trans (truth e.hit)
  · exact s.fld_setFlds_at (e.flds.take 6) (e.flds.drop 7) F.FDB_DATA_KIND e.kind (by decide) (by decide) rfl
  · exact s.fld_setFlds_at (e.flds.take 7) [] F.FDB_DATA_DEST e.dest (by decide) (by decide) rfl

theorem State.fdbLoad_key (e : FdbEntry) : (s.setFlds e.flds).fdbKey =
    (e.fid % 4096, e.mac % 0x100000000 + 0x100000000 * (e.mac / 0x100000000 % 65536)) := by
  have lo : (s.setFlds e.flds).fld F.FDB_KEY_LO_MAC_LO = e.mac % 0x100000000 % 0x100000000 :=
    s.fld_setFlds_at [] (e.flds.drop 1) F.FDB_KEY_LO_MAC_LO _ (by decide) (by decide) rfl
  have hi : (s.setFlds e.flds).fld F.FDB_KEY_HI_MAC_HI = e.mac / 0x100000000 % 65536 :=
    s.fld_setFlds_at (e.flds.take 1) (e.flds.drop 2) F.FDB_KEY_HI_MAC_HI _ (by decide) (by decide) rfl
  have fid : (s.setFlds e.flds).fld F.FDB_KEY_HI_FID = e.fid % 4096 :=
    s.fld_setFlds_at (e.flds.take 2) (e.flds.drop 3) F.FDB_KEY_HI_FID _ (by decide) (by decide) rfl
  rw [State.fdbKey, lo, hi, fid, Nat.mod_mod]

theorem State.fdbLoad_frame (o : Option FdbEntry) :
    s.RegsBut (s.fdbLoad o) [K.FDB_KEY_LO, K.FDB_KEY_HI, K.FDB_DATA] ∧ s.Only (s.fdbLoad o) [.regs] ∧
    (s.fdbLoad o).data = s.data ∧ (s.fdbLoad o).flag F.FDB_DATA_VALID = o.isSome := by
  cases o with
  | none =>
    exact ⟨s.regsBut_setFlds_keys rfl, s.setFlds_only _, s.setFlds_data _,
      s.flag_setFlds_at [(F.FDB_KEY_LO_MAC_LO, 0), (F.FDB_KEY_HI_MAC_HI, 0), (F.FDB_KEY_HI_FID, 0)]
        [(F.FDB_DATA_STATIC, 0), (F.FDB_DATA_HIT, 0), (F.FDB_DATA_KIND, 0), (F.FDB_DATA_DEST, 0)] F.FDB_DATA_VALID 0 rfl (by decide) rfl⟩
  | some e => exact ⟨s.regsBut_setFlds_keys (l := e.flds) rfl, s.setFlds_only _, s.setFlds_data _, (s.fdbLoad_data e).1⟩

/-- What is read of the key's registers once its entry is loaded is the key. -/
theorem State.fdbLoad_found {i : Nat} {e : FdbEntry} (h : s.fdbFind s.fdbKey.1 s.fdbKey.2 = some (i, e)) :
    (s.setFlds e.flds).fdbKey = s.fdbKey := by
  obtain ⟨hfid, hmac⟩ := State.fdbFind_key s h
  have fid : s.fld F.FDB_KEY_HI_FID < 4096 := s.fld_lt F.FDB_KEY_HI_FID
  have lo : s.fld F.FDB_KEY_LO_MAC_LO < 0x100000000 := s.fld_lt F.FDB_KEY_LO_MAC_LO
  have hi : s.fld F.FDB_KEY_HI_MAC_HI < 65536 := s.fld_lt F.FDB_KEY_HI_MAC_HI
  rw [s.fdbLoad_key, hfid, hmac]
  simp only [State.fdbKey, Prod.mk.injEq]
  omega

theorem State.fdbLookupOp_found {i : Nat} {e : FdbEntry} (h : s.fdbFind s.fdbKey.1 s.fdbKey.2 = some (i, e)) :
    s.fdbLookupOp = (s.setFlds e.flds).fdbStart (.single 0 i) := by
  unfold State.fdbLookupOp
  simp only [h]
  rfl

theorem State.fdbLookupOp_absent (h : s.fdbFind s.fdbKey.1 s.fdbKey.2 = none) :
    s.fdbLookupOp = s.fdbStart (.single 1 (s.fld F.FDB_STATUS_INDEX)) := by
  unfold State.fdbLookupOp
  simp only [h]

theorem State.fdbRemoveOp_found {i : Nat} {e : FdbEntry} (h : s.fdbFind s.fdbKey.1 s.fdbKey.2 = some (i, e)) :
    s.fdbRemoveOp = s.fdbPutAt i none := by
  unfold State.fdbRemoveOp
  simp only [h]
  rfl

theorem State.fdbRemoveOp_absent (h : s.fdbFind s.fdbKey.1 s.fdbKey.2 = none) :
    s.fdbRemoveOp = s.fdbStart (.single 1 (s.fld F.FDB_STATUS_INDEX)) := by
  unfold State.fdbRemoveOp
  simp only [h]

theorem State.fdbWriteOp_removes (hv : s.flag F.FDB_DATA_VALID = false) : s.fdbWriteOp = s.fdbRemoveOp := by
  unfold State.fdbWriteOp
  rw [hv]
  rfl

/-- The entry that FDB_KEY and FDB_DATA describe. -/
def State.fdbEntry (s : State) : FdbEntry :=
  ⟨s.fdbKey.1, s.fdbKey.2, s.flag F.FDB_DATA_STATIC, s.flag F.FDB_DATA_HIT, s.fld F.FDB_DATA_KIND, s.fld F.FDB_DATA_DEST⟩

/-- The place that a written entry takes. -/
def State.fdbPlace (s : State) : Option Nat :=
  match s.fdbFind s.fdbKey.1 s.fdbKey.2 with
  | some (i, _) => some i
  | none => s.fdbFree s.fdbKey.1 s.fdbKey.2

theorem State.fdbPlace_eq_some {i : Nat} : s.fdbPlace = some i ↔
    (s.fdbFind s.fdbKey.1 s.fdbKey.2).map (fun x => x.1) = some i ∨
      (s.fdbFind s.fdbKey.1 s.fdbKey.2 = none ∧ s.fdbFree s.fdbKey.1 s.fdbKey.2 = some i) := by
  unfold State.fdbPlace
  cases s.fdbFind s.fdbKey.1 s.fdbKey.2 <;> simp

theorem State.fdbWriteOp_writes (hv : s.flag F.FDB_DATA_VALID = true) :
    s.fdbWriteOp = if s.destInvalid (s.fld F.FDB_DATA_KIND) (s.fld F.FDB_DATA_DEST) then s.fdbStart (.single 3 (s.fld F.FDB_STATUS_INDEX))
      else match s.fdbPlace with
        | some i => s.fdbPutAt i (some s.fdbEntry)
        | none => s.fdbStart (.single 2 (s.fld F.FDB_STATUS_INDEX)) := by
  unfold State.fdbWriteOp State.fdbPlace
  rw [hv]
  simp only [Bool.not_true, Bool.false_eq_true, if_false]
  split
  · rfl
  · cases s.fdbFind s.fdbKey.1 s.fdbKey.2 with
    | some x => rfl
    | none => cases s.fdbFree s.fdbKey.1 s.fdbKey.2 <;> rfl

/-! ## The end of an operation -/

/-- What the end of an operation shows. -/
def State.fdbShow (s : State) (r i : Nat) : State :=
  { s with data := { s.data with fdbOp := .none } }.setFlds
    [(F.FDB_STATUS_BUSY, 0), (F.FDB_STATUS_DONE, 1), (F.FDB_STATUS_RESULT, r), (F.FDB_STATUS_INDEX, i)]

theorem State.fdbShow_shows (r i : Nat) : (s.fdbShow r i).flag F.FDB_STATUS_BUSY = false ∧ (s.fdbShow r i).flag F.FDB_STATUS_DONE = true ∧
    (s.fdbShow r i).fld F.FDB_STATUS_RESULT = r % 8 ∧ (s.fdbShow r i).fld F.FDB_STATUS_INDEX = i % 32768 := by
  unfold State.fdbShow
  generalize { s with data := { s.data with fdbOp := .none } } = u
  exact ⟨u.flag_setFlds_at [] _ F.FDB_STATUS_BUSY 0 rfl (by decide) rfl,
    u.flag_setFlds_at [(F.FDB_STATUS_BUSY, 0)] _ F.FDB_STATUS_DONE 1 rfl (by decide) rfl,
    u.fld_setFlds_at [(F.FDB_STATUS_BUSY, 0), (F.FDB_STATUS_DONE, 1)] _ F.FDB_STATUS_RESULT r (by decide) (by decide) rfl,
    u.fld_setFlds_at [(F.FDB_STATUS_BUSY, 0), (F.FDB_STATUS_DONE, 1), (F.FDB_STATUS_RESULT, r)] [] F.FDB_STATUS_INDEX i
      (by decide) (by decide) rfl⟩

theorem State.fdbShow_frame (r i : Nat) : (s.fdbShow r i).data = { s.data with fdbOp := .none } ∧
    s.RegsBut (s.fdbShow r i) [K.FDB_STATUS] ∧ s.Only (s.fdbShow r i) [.regs, .data] := by
  unfold State.fdbShow
  have data : s.Only { s with data := { s.data with fdbOp := .none } } [.regs, .data] := rfl
  refine ⟨State.setFlds_data _ _, State.RegsBut.from (State.regsBut_setFlds_keys _ rfl) rfl, data.comp ?_⟩
  exact (State.setFlds_only _ _).mono _ (by decide)

/-- The operation that ends, with the places its flush had still to reach. -/
theorem State.fdbDone_single {r i : Nat} (h : s.data.fdbOp = .single r i) : s.fdbDone = s.fdbShow r i := by
  unfold State.fdbDone
  simp only [h]
  rfl

theorem State.fdbDone_flushPort {d n : Nat} (h : s.data.fdbOp = .flushPort d n) :
    s.fdbDone = (s.flushRest (fun e => e.kind == 0 && e.dest == d) n).fdbShow 0 (s.fld F.FDB_STATUS_INDEX) := by
  unfold State.fdbDone
  simp only [h]
  rfl

theorem State.fdbDone_flushDynamic {n : Nat} (h : s.data.fdbOp = .flushDynamic n) :
    s.fdbDone = (s.flushRest (fun _ => true) n).fdbShow 0 (s.fld F.FDB_STATUS_INDEX) := by
  unfold State.fdbDone
  simp only [h]
  rfl

theorem State.mem_flushRest (f : FdbEntry → Bool) (n i : Nat) (e : FdbEntry) :
    (i, some e) ∈ (s.flushRest f n).data.fdb ↔ (i, some e) ∈ s.data.fdb ∧ (i < n ∨ (e.static = true ∨ f e = false)) := by
  simp [State.flushRest, mapKeep, List.mem_filter]

end

/-! ## The commands -/

section
variable {s : State}

theorem exec_fdb_busy {c : Instr} {f : State → State} (run : exec c s = .next (s.confine [.regs, .data] (s.fdbCommand f)))
    (hb : s.flag F.FDB_STATUS_BUSY = true) :
    ∃ t, exec c s = .next t ∧ t.flag F.FDB_STATUS_ERR_BUSY = true ∧ s.RegsBut t [K.FDB_STATUS] ∧ s.Only t [.regs] := by
  rw [s.fdbCommand_busy hb, State.Only.confine (t := s.setFld F.FDB_STATUS_ERR_BUSY 1) (l := [.regs]) _ rfl (by decide)] at run
  exact ⟨_, run, s.flag_setFld_same F.FDB_STATUS_ERR_BUSY 1 rfl (by decide), s.regsBut_setFld _ _, rfl⟩

theorem exec_fdb_idle {c : Instr} {f : State → State} (run : exec c s = .next (s.confine [.regs, .data] (s.fdbCommand f)))
    (hb : s.flag F.FDB_STATUS_BUSY = false) (ho : s.Only (f s) [.regs, .data]) : exec c s = .next (f s) := by
  rw [s.fdbCommand_idle hb, ho.confine _ (by decide)] at run
  exact run

section
variable (hr : s.mcRuns = true) (hb : s.flag F.FDB_STATUS_BUSY = false)
include hr hb

theorem exec_fdbLookup_starts :
    ∃ t, exec .fdbLookup s = .next t ∧ s.Only t [.regs, .data] ∧ t.flag F.FDB_STATUS_BUSY = true ∧
      t.data.fdb = s.data.fdb ∧
      (∀ i e, s.fdbFind s.fdbKey.1 s.fdbKey.2 = some (i, e) → t.data.fdbOp = .single 0 i ∧ t.flag F.FDB_DATA_VALID = true ∧
        t.flag F.FDB_DATA_STATIC = e.static ∧ t.flag F.FDB_DATA_HIT = e.hit ∧ t.fld F.FDB_DATA_KIND = e.kind % 4 ∧
        t.fld F.FDB_DATA_DEST = e.dest % 1024 ∧ t.fdbKey = s.fdbKey) ∧
      (s.fdbFind s.fdbKey.1 s.fdbKey.2 = none → t.data.fdbOp = .single 1 (s.fld F.FDB_STATUS_INDEX) ∧
        s.RegsBut t [K.FDB_STATUS]) := by
  have run := exec_fdb_idle (exec_fdbLookup s hr) hb
  cases found : s.fdbFind s.fdbKey.1 s.fdbKey.2 with
  | none =>
    obtain ⟨busy, regs, data, only⟩ := s.fdbStart_starts (.single 1 (s.fld F.FDB_STATUS_INDEX))
    rw [s.fdbLookupOp_absent found] at run
    exact ⟨_, run only, only, busy, rfl, fun i e h => absurd h (by simp), fun _ => ⟨rfl, regs⟩⟩
  | some x =>
    obtain ⟨i, e⟩ := x
    rw [s.fdbLookupOp_found found] at run
    obtain ⟨valid, static, hit, kind, dest⟩ := s.fdbLoad_data e
    have key := s.fdbLoad_found found
    have loaded : s.Only (s.setFlds e.flds) [.regs, .data] := (s.setFlds_only e.flds).mono _ (by decide)
    have table : (s.setFlds e.flds).data = s.data := s.setFlds_data e.flds
    generalize s.setFlds e.flds = u at *
    obtain ⟨busy, regs, data, only⟩ := u.fdbStart_starts (.single 0 i)
    have whole := loaded.comp only
    refine ⟨_, run whole, whole, busy, by rw [data, table], fun j x h => ?_, fun h => absurd h (by simp)⟩
    cases h
    refine ⟨by rw [data], (regs.flag (by decide)).trans valid, (regs.flag (by decide)).trans static, (regs.flag (by decide)).trans hit,
      (regs.fld (by decide)).trans kind, (regs.fld (by decide)).trans dest, ?_⟩
    rw [← key, State.fdbKey, regs.fld (by decide), regs.fld (by decide), regs.fld (by decide), State.fdbKey]

omit hr in
theorem exec_fdb_removes {c : Instr} {f : State → State} (run : exec c s = .next (s.confine [.regs, .data] (s.fdbCommand f)))
    (hf : f s = s.fdbRemoveOp) :
    ∃ t, exec c s = .next t ∧ t.flag F.FDB_STATUS_BUSY = true ∧ s.RegsBut t [K.FDB_STATUS] ∧
      (∀ i e, s.fdbFind s.fdbKey.1 s.fdbKey.2 = some (i, e) →
        t.data.fdbOp = .single 0 i ∧ t.fdbAt i = none ∧ (∀ j, j ≠ i → t.fdbAt j = s.fdbAt j)) ∧
      (s.fdbFind s.fdbKey.1 s.fdbKey.2 = none →
        t.data.fdbOp = .single 1 (s.fld F.FDB_STATUS_INDEX) ∧ t.data.fdb = s.data.fdb) := by
  have run := exec_fdb_idle run hb
  rw [hf] at run
  cases found : s.fdbFind s.fdbKey.1 s.fdbKey.2 with
  | none =>
    rw [s.fdbRemoveOp_absent found] at run
    obtain ⟨busy, regs, data, only⟩ := s.fdbStart_starts (.single 1 (s.fld F.FDB_STATUS_INDEX))
    exact ⟨_, run only, busy, regs, fun i e h => absurd h (by simp), fun _ => ⟨rfl, rfl⟩⟩
  | some x =>
    rw [s.fdbRemoveOp_found found] at run
    obtain ⟨busy, regs, only⟩ := s.fdbPutAt_starts x.1 none
    refine ⟨_, run only, busy, regs, fun i e h => ?_, fun h => absurd h (by simp)⟩
    cases h
    exact s.fdbPutAt_puts i none

theorem exec_fdbWrite_writes (hv : s.flag F.FDB_DATA_VALID = true) :
    ∃ t, exec .fdbWrite s = .next t ∧ s.Only t [.regs, .data] ∧ t.flag F.FDB_STATUS_BUSY = true ∧
      s.RegsBut t [K.FDB_STATUS] ∧
      (s.destInvalid (s.fld F.FDB_DATA_KIND) (s.fld F.FDB_DATA_DEST) = true →
        t.data.fdbOp = .single 3 (s.fld F.FDB_STATUS_INDEX) ∧ t.data.fdb = s.data.fdb) ∧
      (s.destInvalid (s.fld F.FDB_DATA_KIND) (s.fld F.FDB_DATA_DEST) = false →
        (∀ i, ((s.fdbFind s.fdbKey.1 s.fdbKey.2).map (fun x => x.1) = some i ∨
            (s.fdbFind s.fdbKey.1 s.fdbKey.2 = none ∧ s.fdbFree s.fdbKey.1 s.fdbKey.2 = some i)) →
          t.data.fdbOp = .single 0 i ∧ (∀ j, j ≠ i → t.fdbAt j = s.fdbAt j) ∧
          t.fdbAt i = some ⟨s.fdbKey.1, s.fdbKey.2, s.flag F.FDB_DATA_STATIC, s.flag F.FDB_DATA_HIT,
            s.fld F.FDB_DATA_KIND, s.fld F.FDB_DATA_DEST⟩) ∧
        (s.fdbFind s.fdbKey.1 s.fdbKey.2 = none → s.fdbFree s.fdbKey.1 s.fdbKey.2 = none →
          t.data.fdbOp = .single 2 (s.fld F.FDB_STATUS_INDEX) ∧ t.data.fdb = s.data.fdb)) := by
  have run := exec_fdb_idle (exec_fdbWrite s hr) hb
  rw [s.fdbWriteOp_writes hv] at run
  simp only [← s.fdbPlace_eq_some]
  cases invalid : s.destInvalid (s.fld F.FDB_DATA_KIND) (s.fld F.FDB_DATA_DEST) with
  | true =>
    rw [if_pos invalid] at run
    obtain ⟨busy, regs, data, only⟩ := s.fdbStart_starts (.single 3 (s.fld F.FDB_STATUS_INDEX))
    exact ⟨_, run only, only, busy, regs, fun _ => ⟨rfl, rfl⟩, fun h => absurd h.symm Bool.false_ne_true⟩
  | false =>
    rw [if_neg (by rw [invalid]; exact Bool.false_ne_true)] at run
    cases place : s.fdbPlace with
    | some i =>
      simp only [place] at run
      obtain ⟨busy, regs, only⟩ := s.fdbPutAt_starts i (some s.fdbEntry)
      obtain ⟨op, same, others⟩ := s.fdbPutAt_puts i (some s.fdbEntry)
      refine ⟨_, run only, only, busy, regs, fun h => absurd h Bool.false_ne_true, fun _ => ⟨fun j h => ?_, fun h1 h2 => ?_⟩⟩
      · cases h
        exact ⟨op, others, same⟩
      · simp [State.fdbPlace, h1, h2] at place
    | none =>
      simp only [place] at run
      obtain ⟨busy, regs, data, only⟩ := s.fdbStart_starts (.single 2 (s.fld F.FDB_STATUS_INDEX))
      exact ⟨_, run only, only, busy, regs, fun h => absurd h Bool.false_ne_true,
        fun _ => ⟨fun j h => absurd h (by simp), fun _ _ => ⟨rfl, rfl⟩⟩⟩

theorem exec_fdbReadIndex_starts {index : Nat} (hi : index < 32768) :
    ∃ t, exec (.fdbReadIndex index) s = .next t ∧ s.Only t [.regs, .data] ∧ t.flag F.FDB_STATUS_BUSY = true ∧
      t.data.fdbOp = .single 0 index ∧ t.flag F.FDB_DATA_VALID = (s.fdbAt index).isSome ∧ t.data.fdb = s.data.fdb := by
  have run := exec_fdb_idle (exec_fdbReadIndex s index (decide_eq_true hi) hr) hb
  obtain ⟨-, loaded, table, valid⟩ := s.fdbLoad_frame (s.fdbAt index)
  change s.Only ((s.fdbLoad (s.fdbAt index)).fdbStart (.single 0 index)) _ → _ = Host.Outcome.next ((s.fdbLoad (s.fdbAt index)).fdbStart _) at run
  generalize s.fdbLoad (s.fdbAt index) = u at *
  obtain ⟨busy, regs, data, only⟩ := u.fdbStart_starts (.single 0 index)
  have whole := (loaded.mono [.regs, .data] (by decide)).comp only
  exact ⟨_, run whole, whole, busy, by rw [data], (regs.flag (by decide)).trans valid, by rw [data, table]⟩

omit hr in
theorem exec_flush_starts {c : Instr} {f : State → State} {o : FdbOp}
    (run : exec c s = .next (s.confine [.regs, .data] (s.fdbCommand f))) (hf : f s = s.fdbStart o) :
    ∃ t, exec c s = .next t ∧ s.Only t [.regs, .data] ∧ t.flag F.FDB_STATUS_BUSY = true ∧ t.data.fdb = s.data.fdb ∧
      t.data.fdbOp = o := by
  have run := exec_fdb_idle run hb
  rw [hf] at run
  obtain ⟨busy, regs, data, only⟩ := s.fdbStart_starts o
  exact ⟨_, run only, only, busy, rfl, rfl⟩

end

theorem exec_fdbOperationDone_ends (hp : s.powered = true) (ho : s.data.fdbOp ≠ .none) :
    ∃ t, exec .fdbOperationDone s = .next t ∧ t.flag F.FDB_STATUS_BUSY = false ∧ t.flag F.FDB_STATUS_DONE = true ∧
      t.data.fdbOp = .none ∧ s.RegsBut t [K.FDB_STATUS] ∧ s.Only t [.regs, .data] ∧
      (∀ r i, s.data.fdbOp = .single r i →
        t.fld F.FDB_STATUS_RESULT = r % 8 ∧ t.fld F.FDB_STATUS_INDEX = i % 32768 ∧ t.data.fdb = s.data.fdb) ∧
      (∀ d n, s.data.fdbOp = .flushPort d n → t.fld F.FDB_STATUS_RESULT = 0 ∧
        ∀ i e, (i, some e) ∈ t.data.fdb ↔
          ((i, some e) ∈ s.data.fdb ∧ (i < n ∨ ¬(e.static = false ∧ e.kind = 0 ∧ e.dest = d)))) ∧
      (∀ n, s.data.fdbOp = .flushDynamic n → t.fld F.FDB_STATUS_RESULT = 0 ∧
        ∀ i e, (i, some e) ∈ t.data.fdb ↔ ((i, some e) ∈ s.data.fdb ∧ (i < n ∨ e.static = true))) := by
  have run := exec_fdbOperationDone s hp
  have shows (u : State) (hu : s.Only u [.regs, .data]) (hr : u.regs = s.regs) (r i : Nat) :=
    And.intro (u.fdbShow_shows r i) (And.intro (hu.comp (u.fdbShow_frame r i).2.2) (And.intro (u.fdbShow_frame r i).1
      ((u.fdbShow_frame r i).2.1.from hr)))
  cases op : s.data.fdbOp with
  | none => exact absurd op ho
  | single r i =>
    obtain ⟨⟨busy, done, result, index⟩, only, data, regs⟩ := shows s (s.only_refl _) rfl r i
    rw [s.fdbDone_single op, only.confine _ (by decide)] at run
    refine ⟨_, run, busy, done, by rw [data], regs, only, fun r' i' h => ?_, fun d n h => (by cases h), fun n h => (by cases h)⟩
    cases h
    exact ⟨result, index, by rw [data]⟩
  | flushPort d n =>
    obtain ⟨⟨busy, done, result, -⟩, only, data, regs⟩ :=
      shows (s.flushRest (fun e => e.kind == 0 && e.dest == d) n) rfl rfl 0 (s.fld F.FDB_STATUS_INDEX)
    rw [s.fdbDone_flushPort op, only.confine _ (by decide)] at run
    refine ⟨_, run, busy, done, by rw [data], regs, only, fun r i h => (by cases h), fun d' n' h => ?_, fun n h => (by cases h)⟩
    cases h
    refine ⟨result, fun i e => ?_⟩
    rw [data]
    refine (s.mem_flushRest _ n i e).trans (and_congr_right fun _ => or_congr_right ?_)
    cases e.static <;> simp
  | flushDynamic n =>
    obtain ⟨⟨busy, done, result, -⟩, only, data, regs⟩ := shows (s.flushRest (fun _ => true) n) rfl rfl 0 (s.fld F.FDB_STATUS_INDEX)
    rw [s.fdbDone_flushDynamic op, only.confine _ (by decide)] at run
    refine ⟨_, run, busy, done, by rw [data], regs, only, fun r i h => (by cases h), fun d n h => (by cases h), fun n' h => ?_⟩
    cases h
    refine ⟨result, fun i e => ?_⟩
    rw [data]
    refine (s.mem_flushRest _ n i e).trans (and_congr_right fun _ => or_congr_right ?_)
    simp

end

/-- Settles O25: the commands while busy and while idle, and the end of each operation. -/
theorem fdbCommandsActAndEnd : Obligations.FdbCommandsActAndEnd := by
  unfold Obligations.FdbCommandsActAndEnd
  refine ⟨fun s index hr hi => ⟨fun hb c hc => ?_, fun hb => ⟨exec_fdbLookup_starts hr hb, fun c hc hv => ?_,
    fun hv => exec_fdbWrite_writes hr hb hv, exec_fdbReadIndex_starts hr hb hi, exec_flush_starts hb (exec_flushPort s hr) rfl,
    exec_flush_starts hb (exec_flushDynamic s hr) rfl⟩⟩, fun s hp ho => exec_fdbOperationDone_ends hp ho⟩
  · simp only [List.mem_cons, List.not_mem_nil, or_false] at hc
    rcases hc with rfl | rfl | rfl | rfl | rfl | rfl
    · exact exec_fdb_busy (exec_fdbLookup s hr) hb
    · exact exec_fdb_busy (exec_fdbWrite s hr) hb
    · exact exec_fdb_busy (exec_fdbDelete s hr) hb
    · exact exec_fdb_busy (exec_fdbReadIndex s index (decide_eq_true hi) hr) hb
    · exact exec_fdb_busy (exec_flushPort s hr) hb
    · exact exec_fdb_busy (exec_flushDynamic s hr) hb
  · simp only [List.mem_cons, List.not_mem_nil, or_false] at hc
    rcases hc with rfl | rfl
    · exact exec_fdb_removes hb (exec_fdbDelete s hr) rfl
    · exact exec_fdb_removes hb (exec_fdbWrite s hr) (s.fdbWriteOp_removes (hv rfl))

end Sys2Proof.Machine
end


section
/-! SUPPORT. What a journal entry leaves alone, part by part of the state (spec/16, R475, R477). -/

namespace Sys2Proof.Machine

theorem forEach_only {α : Type} {l : List Part} (f : α → State → State) (hf : ∀ x s, State.Only s (f x s) l) (xs : List α) (s : State) :
    s.Only (forEach xs f s) l := by
  induction xs generalizing s with
  | nil => exact s.only_refl l
  | cons x r ih => exact (hf x s).comp (ih (f x s))

section
variable (s : State)

theorem State.appendRaw_only (kind origin opcode cseq part : Nat) (data : List Byte) :
    s.Only (s.appendRaw kind origin opcode cseq part data) [.regs, .mgt, .key] := rfl

theorem State.putStatement_only (e : JEntry) : s.Only (s.putStatement e) [.regs, .mgt, .key] := by
  unfold State.putStatement
  dsimp only
  split <;> rfl

theorem State.checkpoint_only (origin opcode cseq : Nat) : s.Only (s.checkpoint origin opcode cseq) [.regs, .mgt, .key] := by
  have entry := s.appendRaw_only 7 origin opcode cseq 0 (beBytes 4 s.signPosition)
  unfold State.checkpoint
  dsimp only
  split
  · exact entry
  · exact entry.comp (State.putStatement_only _ _)

theorem State.appendGroup_only (origin opcode cseq : Nat) (l : List (Nat × Nat × List Byte)) :
    s.Only (s.appendGroup origin opcode cseq l) [.regs, .mgt, .key] := by
  have entries := forEach_only (fun (e : Nat × Nat × List Byte) s => s.appendRaw e.1 origin opcode cseq e.2.1 e.2.2)
    (fun e s => s.appendRaw_only e.1 origin opcode cseq e.2.1 e.2.2) l s
  unfold State.appendGroup
  split
  · exact s.only_refl _
  · dsimp only
    split
    · exact entries.comp (State.checkpoint_only _ _ _ _)
    · exact entries

theorem State.append_only (kind origin opcode cseq part : Nat) (data : List Byte) :
    s.Only (s.append kind origin opcode cseq part data) [.regs, .mgt, .key] := s.appendGroup_only _ _ _ _

theorem State.completion_only (c : Cmd) (status result : Nat) : s.Only (s.completion c status result) [.regs, .mgt, .key] :=
  s.append_only _ _ _ _ _ _

theorem State.completion_regsBut (c : Cmd) (status result : Nat) : s.RegsBut (s.completion c status result) journalKeys :=
  s.append_regsBut _ _ _ _ _ _

end

end Sys2Proof.Machine
end


section
/-! SUPPORT. The classifier's window (spec/04, R118, R124): which words a write changes, and what guards a live or retiring entry. -/

namespace Sys2Proof.Machine

/-- The parts that the classifier's window changes. -/
def clsParts : List Part := [.regs, .cnts, .data, .mgt, .key]

section
variable (s : State)

theorem State.tcamAt_setTcam (i j : Nat) (e : TcamEntry) : (s.setTcam i e).tcamAt j = if i = j then e else s.tcamAt j := by
  rw [State.tcamAt, State.setTcam, mapGet_mapSet]
  split
  next h => rfl
  next h => rfl

theorem State.setTcam_puts (i : Nat) (e : TcamEntry) :
    (s.setTcam i e).tcamAt i = e ∧ (∀ j, j ≠ i → (s.setTcam i e).tcamAt j = s.tcamAt j) ∧ s.Only (s.setTcam i e) [.data] :=
  ⟨(s.tcamAt_setTcam i i e).trans (if_pos rfl), fun j hj => (s.tcamAt_setTcam i j e).trans (if_neg (Ne.symm hj)), rfl⟩

/-- The number that CLS_WIN_ENTRY_WRITE gives the word at an address of the window. -/
def clsWord (a : Nat) : Nat :=
  if a < 0x81050 then (a - 0x81000) / 4 else if a < 0x810D0 then 20 + (a - 0x81080) / 4 else 40 + (a - 0x81100) / 4

theorem State.writeTcam_word {a : Nat} (ha : isClsEntry a = true) (mask value : Word) :
    s.writeTcam a mask value = s.clsWriteWord (clsWord a) mask value := by
  simp only [isClsEntry, Bool.and_eq_true, Bool.or_eq_true, decide_eq_true_eq] at ha
  obtain ⟨-, (⟨h1, h2⟩ | ⟨h1, h2⟩) | ⟨h1, h2⟩⟩ := ha
  · unfold State.writeTcam clsWord
    dsimp only
    rw [if_pos (by omega), if_pos h2]
  · unfold State.writeTcam clsWord
    dsimp only
    rw [if_neg (by omega), if_pos (by omega), if_neg (by omega), if_pos h2,
      show a - 0x81000 - 0x80 = a - 0x81080 from by omega]
  · unfold State.writeTcam clsWord
    dsimp only
    rw [if_neg (by omega), if_neg (by omega), if_pos (by omega), if_neg (by omega), if_neg (by omega),
      show a - 0x81000 - 0x100 = a - 0x81100 from by omega]

theorem State.clsWriteWord_live (j : Nat) (mask value : Word) (hv : (s.tcamAt s.clsIndex).valid = true) :
    s.clsWriteWord j mask value = s.raiseFlag F.CLS_STATUS_LIVE_WRITE (beBytes 2 s.clsIndex) := if_pos hv

/-- The entry of the window as a write of one of its words makes it. -/
def TcamEntry.putWord (e : TcamEntry) (j : Nat) (mask value : Word) : TcamEntry :=
  if j < 20 then { e with key := e.key.set j (maskWord (e.key.getD j 0) (if j = 19 then mask &&& 0x7FFF else mask) value) }
  else if j < 40 then
    { e with mask := e.mask.set (j - 20) (maskWord (e.mask.getD (j - 20) 0) (if j = 39 then mask &&& 0x7FFF else mask) value) }
  else { e with act := e.act.set (j - 40) (maskWord (e.act.getD (j - 40) 0) (if j = 42 then mask &&& 0x1FFFF else mask) value) }

theorem State.clsWriteWord_puts (j : Nat) (mask value : Word) (hv : (s.tcamAt s.clsIndex).valid = false) :
    s.clsWriteWord j mask value = s.setTcam s.clsIndex ((s.tcamAt s.clsIndex).putWord j mask value) := by
  unfold State.clsWriteWord TcamEntry.putWord
  dsimp only
  rw [if_neg (by rw [hv]; exact Bool.false_ne_true)]
  split
  · rfl
  split
  · rfl
  · rfl

/-- A flag of CLS_STATUS that a refused write sets. -/
theorem State.raiseFlag_cls {f : Fld} (hf : f = F.CLS_STATUS_LIVE_WRITE ∨ f = F.CLS_STATUS_RETIRE_REJECT) (d : List Byte) :
    (s.raiseFlag f d).flag f = true ∧ s.RegsBut (s.raiseFlag f d) (K.CLS_STATUS :: journalKeys) ∧
    s.CntsBut (s.raiseFlag f d) eventCounters ∧ s.Only (s.raiseFlag f d) clsParts ∧ (s.raiseFlag f d).data = s.data := by
  have regs := s.raiseFlag_regsBut f d
  have flag := s.raiseFlag_flag f d
  have only := s.raiseFlag_only f d
  rcases hf with rfl | rfl
  · exact ⟨flag rfl (by decide) (by decide), regs, s.raiseFlag_cntsBut _ d, only.mono _ (by decide), only.keeps State.data rfl⟩
  · exact ⟨flag rfl (by decide) (by decide), regs, s.raiseFlag_cntsBut _ d, only.mono _ (by decide), only.keeps State.data rfl⟩

end

section
variable {s : State} (hr : s.mcRuns = true)
include hr

theorem exec_clsWinEntryWrite_guards {addr : Nat} (ha : isClsEntry addr = true) (mask value : Word) {e : TcamEntry}
    (he : s.tcamAt s.clsIndex = e) :
    ∃ t, exec (.clsWinEntryWrite addr mask value) s = .next t ∧
      (e.valid = true → t.data = s.data ∧ t.flag F.CLS_STATUS_LIVE_WRITE = true ∧
        s.RegsBut t (K.CLS_STATUS :: journalKeys) ∧ s.CntsBut t eventCounters) ∧
      (e.valid = false → s.Only t [.data] ∧
        (∀ i, i ≠ s.clsIndex → t.tcamAt i = s.tcamAt i) ∧
        (∀ j, j < 20 → addr = 0x81000 + 4 * j → t.tcamAt s.clsIndex =
          { e with key := e.key.set j (maskWord (e.key.getD j 0) (if j = 19 then mask &&& 0x7FFF else mask) value) }) ∧
        (∀ j, j < 20 → addr = 0x81080 + 4 * j → t.tcamAt s.clsIndex =
          { e with mask := e.mask.set j (maskWord (e.mask.getD j 0) (if j = 19 then mask &&& 0x7FFF else mask) value) }) ∧
        (∀ j, j < 3 → addr = 0x81100 + 4 * j → t.tcamAt s.clsIndex =
          { e with act := e.act.set j (maskWord (e.act.getD j 0) (if j = 2 then mask &&& 0x1FFFF else mask) value) })) := by
  have run := exec_clsWinEntryWrite s addr mask value ha hr
  rw [s.writeTcam_word ha] at run
  subst he
  by_cases hv : (s.tcamAt s.clsIndex).valid = true
  · rw [s.clsWriteWord_live _ mask value hv] at run
    obtain ⟨flag, regs, cnts, only, data⟩ := s.raiseFlag_cls (.inl rfl) (beBytes 2 s.clsIndex)
    rw [only.confine _ (by decide)] at run
    exact ⟨_, run, fun _ => ⟨data, flag, regs, cnts⟩, fun h => absurd (h.symm.trans hv) Bool.false_ne_true⟩
  · rw [Bool.not_eq_true] at hv
    rw [s.clsWriteWord_puts _ mask value hv] at run
    obtain ⟨same, others, only⟩ := s.setTcam_puts s.clsIndex ((s.tcamAt s.clsIndex).putWord (clsWord addr) mask value)
    rw [only.confine _ (by decide)] at run
    refine ⟨_, run, fun h => absurd (hv.symm.trans h) Bool.false_ne_true, fun _ => ⟨only, others, fun j hj h => ?_, fun j hj h => ?_, fun j hj h => ?_⟩⟩
    · have place : clsWord addr = j := by unfold clsWord; rw [if_pos (by omega)]; omega
      rw [same, place, TcamEntry.putWord, if_pos hj]
    · have place : clsWord addr = 20 + j := by unfold clsWord; rw [if_neg (by omega), if_pos (by omega)]; omega
      rw [same, place, TcamEntry.putWord, if_neg (by omega), if_pos (by omega), Nat.add_sub_cancel_left]
      simp only [show (20 + j = 39) = (j = 19) from propext (by omega)]
    · have place : clsWord addr = 40 + j := by unfold clsWord; rw [if_neg (by omega), if_neg (by omega)]; omega
      rw [same, place, TcamEntry.putWord, if_neg (by omega), if_neg (by omega), Nat.add_sub_cancel_left]
      simp only [show (40 + j = 42) = (j = 2) from propext (by omega)]

/-- The entry of the window as a write of CLS_WIN_CTRL would make it. -/
def State.ctrlEntry (s : State) (mask value : Word) : TcamEntry :=
  let e := s.tcamAt s.clsIndex
  let w := maskWord (BitVec.ofNat 32 (b2n e.valid + 2 * e.gen)) mask value
  { e with gen := wordBits w 2 1, valid := w.toNat.testBit 0, hit := if w.toNat.testBit 0 && !e.valid then 0 else e.hit }

omit hr in
theorem State.clsWriteCtrl_cases (s : State) (mask value : Word) :
    s.clsWriteCtrl mask value =
      if s.flag F.CLS_GEN_RETIRING = true ∧ ((s.tcamAt s.clsIndex).valid && (s.tcamAt s.clsIndex).gen.testBit (1 - s.fld F.CLS_GEN_ACTIVE)) ≠
          ((s.ctrlEntry mask value).valid && (s.ctrlEntry mask value).gen.testBit (1 - s.fld F.CLS_GEN_ACTIVE)) then
        s.raiseFlag F.CLS_STATUS_RETIRE_REJECT (beBytes 2 s.clsIndex)
      else s.setTcam s.clsIndex (s.ctrlEntry mask value) := by
  unfold State.clsWriteCtrl State.retiring
  cases s.flag F.CLS_GEN_RETIRING with
  | false => simp only [Bool.false_eq_true, if_false, false_and]; rfl
  | true => simp only [if_true, true_and, bne_iff_ne]; rfl

theorem exec_clsWinCtrlWrite_guards (mask value : Word) :
    (let e := s.tcamAt s.clsIndex
     let w := maskWord (BitVec.ofNat 32 (b2n e.valid + 2 * e.gen)) mask value
     let x := { e with gen := wordBits w 2 1, valid := w.toNat.testBit 0, hit := if w.toNat.testBit 0 && !e.valid then 0
       else e.hit }
     ∃ t, exec (.clsWinCtrlWrite mask value) s = .next t ∧
      (s.flag F.CLS_GEN_RETIRING = false → t.tcamAt s.clsIndex = x ∧ (∀ i, i ≠ s.clsIndex → t.tcamAt i = s.tcamAt i) ∧
        s.Only t [.data]) ∧
      (s.flag F.CLS_GEN_RETIRING = true →
        ((e.valid && e.gen.testBit (1 - s.fld F.CLS_GEN_ACTIVE)) ≠ (x.valid && x.gen.testBit (1 - s.fld F.CLS_GEN_ACTIVE)) →
          t.data = s.data ∧ t.flag F.CLS_STATUS_RETIRE_REJECT = true ∧ s.RegsBut t (K.CLS_STATUS :: journalKeys)) ∧
        ((e.valid && e.gen.testBit (1 - s.fld F.CLS_GEN_ACTIVE)) = (x.valid && x.gen.testBit (1 - s.fld F.CLS_GEN_ACTIVE)) →
          t.tcamAt s.clsIndex = x ∧ s.Only t [.data]))) := by
  have run := exec_clsWinCtrlWrite s mask value hr
  rw [s.clsWriteCtrl_cases] at run
  intro e w x
  split at run
  next refused =>
    obtain ⟨flag, regs, -, only, data⟩ := s.raiseFlag_cls (.inr rfl) (beBytes 2 s.clsIndex)
    rw [only.confine _ (by decide)] at run
    exact ⟨_, run, fun h => absurd (h.symm.trans refused.1) Bool.false_ne_true, fun _ => ⟨fun _ => ⟨data, flag, regs⟩,
      fun h => absurd h refused.2⟩⟩
  next taken =>
    obtain ⟨same, others, only⟩ := s.setTcam_puts s.clsIndex (s.ctrlEntry mask value)
    rw [only.confine _ (by decide)] at run
    exact ⟨_, run, fun _ => ⟨same, others, only⟩, fun hret => ⟨fun h => absurd ⟨hret, h⟩ taken, fun _ => ⟨same, only⟩⟩⟩

end

/-- Settles O26: each word of a write, and the guard of the retiring generation. -/
theorem tcamEntriesAreGuarded : Obligations.TcamEntriesAreGuarded := by
  unfold Obligations.TcamEntriesAreGuarded
  exact ⟨fun s e addr mask value ha hr he => exec_clsWinEntryWrite_guards hr ha mask value he,
    fun s mask value hr => exec_clsWinCtrlWrite_guards hr mask value⟩

end Sys2Proof.Machine
end


section
/-! SUPPORT. Rule generations (spec/04, R122, R123): a swap that takes effect, and what ends a retirement. -/

namespace Sys2Proof.Machine

/-- A flag of CLS_GEN that a later write of another field leaves. -/
theorem State.clsGen_kept (s : State) {f g : Fld} (v : Nat) (h : f.beside g = true) (hg : g.hi = g.lo) :
    (s.setFld f v).flag g = s.flag g := by
  rw [State.flag_eq _ _ hg, s.fld_setFld_beside v h, State.flag_eq _ _ hg]

section
variable (s : State)

/-! ## A swap takes effect -/

theorem State.applySwap_same {t : Nat} (h : t = s.fld F.CLS_GEN_ACTIVE) : s.applySwap t = s.setFld F.CLS_GEN_DONE 1 := if_pos h

/-- A swap to the other generation, before the old one retires. -/
def State.turnGen (s : State) (t : Nat) : State := ((s.setFld F.CLS_GEN_ACTIVE t).setFld F.CLS_GEN_DONE 1).inc (C.cls 9)

theorem State.applySwap_other {t : Nat} (h : t ≠ s.fld F.CLS_GEN_ACTIVE) :
    s.applySwap t = if s.awaits (s.fld F.CLS_GEN_ACTIVE) then (s.turnGen t).setFld F.CLS_GEN_RETIRING 1 else s.turnGen t := if_neg h

theorem State.turnGen_frame (t : Nat) : s.RegsBut (s.turnGen t) [K.CLS_GEN] ∧ s.Only (s.turnGen t) [.regs, .cnts] ∧
    (s.turnGen t).cnt (C.cls 9) = s.cnt (C.cls 9) + 1 ∧ s.CntsBut (s.turnGen t) [C.cls 9] := by
  unfold State.turnGen
  exact ⟨((s.regsBut_setFld F.CLS_GEN_ACTIVE t).comp (State.regsBut_setFld _ F.CLS_GEN_DONE 1)).after rfl, rfl,
    State.cnt_inc_same _ _, State.cntsBut_inc ((s.setFld F.CLS_GEN_ACTIVE t).setFld F.CLS_GEN_DONE 1) (C.cls 9)⟩

theorem State.turnGen_fields {t : Nat} (ht : t < 2) : (s.turnGen t).fld F.CLS_GEN_ACTIVE = t ∧ (s.turnGen t).flag F.CLS_GEN_DONE = true ∧
    (s.turnGen t).flag F.CLS_GEN_RETIRING = s.flag F.CLS_GEN_RETIRING ∧ (s.turnGen t).flag F.CLS_GEN_PENDING = s.flag F.CLS_GEN_PENDING := by
  let l : List (Fld × Nat) := [(F.CLS_GEN_ACTIVE, t), (F.CLS_GEN_DONE, 1)]
  have regs : (s.turnGen t).regs = (s.setFlds l).regs := rfl
  refine ⟨?_, ?_, ?_, ?_⟩
  · rw [State.fld_congr regs]
    exact (s.fld_setFlds_at [] _ F.CLS_GEN_ACTIVE t (by decide) (by decide) rfl).trans (Nat.mod_eq_of_lt ht)
  · exact (State.flag_of_reg (State.reg_congr regs _)).trans (s.flag_setFlds_at [(F.CLS_GEN_ACTIVE, t)] [] F.CLS_GEN_DONE 1 rfl (by decide) rfl)
  · exact (State.flag_of_reg (State.reg_congr regs _)).trans (s.flag_setFlds_beside rfl rfl)
  · exact (State.flag_of_reg (State.reg_congr regs _)).trans (s.flag_setFlds_beside rfl rfl)

/-- What any swap leaves. -/
theorem State.applySwap_shows {t : Nat} (ht : t < 2) : (s.applySwap t).fld F.CLS_GEN_ACTIVE = t ∧
    (s.applySwap t).flag F.CLS_GEN_DONE = true ∧ (s.applySwap t).flag F.CLS_GEN_PENDING = s.flag F.CLS_GEN_PENDING ∧
    s.RegsBut (s.applySwap t) [K.CLS_GEN] ∧ s.Only (s.applySwap t) [.regs, .cnts] := by
  by_cases same : t = s.fld F.CLS_GEN_ACTIVE
  · rw [s.applySwap_same same]
    exact ⟨(s.fld_setFld_beside 1 rfl).trans same.symm, s.flag_setFld_same F.CLS_GEN_DONE 1 rfl (by decide),
      s.clsGen_kept 1 rfl rfl, s.regsBut_setFld _ _, rfl⟩
  · rw [s.applySwap_other same]
    obtain ⟨active, done, -, pending⟩ := s.turnGen_fields ht
    obtain ⟨regs, only, -, -⟩ := s.turnGen_frame t
    split
    · exact ⟨(State.fld_setFld_beside _ 1 rfl).trans active, (State.clsGen_kept _ 1 rfl rfl).trans done,
        (State.clsGen_kept _ 1 rfl rfl).trans pending, regs.comp (State.regsBut_setFld _ F.CLS_GEN_RETIRING 1), only.comp rfl⟩
    · exact ⟨active, done, pending, regs, only⟩

/-- The counter of swaps, and whether the old generation retires. -/
theorem State.applySwap_counts {t : Nat} (ht : t < 2) (hr : s.flag F.CLS_GEN_RETIRING = false) :
    (t = s.fld F.CLS_GEN_ACTIVE → (s.applySwap t).cnts = s.cnts ∧ (s.applySwap t).flag F.CLS_GEN_RETIRING = false) ∧
    (t ≠ s.fld F.CLS_GEN_ACTIVE → (s.applySwap t).cnt (C.cls 9) = s.cnt (C.cls 9) + 1 ∧ s.CntsBut (s.applySwap t) [C.cls 9] ∧
      (s.applySwap t).flag F.CLS_GEN_RETIRING = s.awaits (s.fld F.CLS_GEN_ACTIVE)) := by
  refine ⟨fun same => ?_, fun other => ?_⟩
  · rw [s.applySwap_same same]
    exact ⟨rfl, (s.clsGen_kept 1 rfl rfl).trans hr⟩
  · rw [s.applySwap_other other]
    obtain ⟨-, -, retiring, -⟩ := s.turnGen_fields ht
    obtain ⟨-, -, cnt, cnts⟩ := s.turnGen_frame t
    split
    next w => exact ⟨cnt, cnts, (State.flag_setFld_same _ F.CLS_GEN_RETIRING 1 rfl (by decide)).trans w.symm⟩
    next w =>
      rw [Bool.not_eq_true] at w
      exact ⟨cnt, cnts, (retiring.trans hr).trans w.symm⟩

theorem State.swapDone_frame : s.RegsBut s.swapDone journalKeys ∧ s.Only s.swapDone [.regs, .mgt, .key] := by
  unfold State.swapDone
  split
  · exact ⟨State.RegsBut.refl s _, s.only_refl _⟩
  next c _ =>
    have first : s.Only { s with mgt := { s.mgt with swapCmd := none } } [.regs, .mgt, .key] := rfl
    exact ⟨(State.completion_regsBut _ c 0 0).from rfl, first.comp (State.completion_only _ c 0 0)⟩

theorem State.applyPending_none (h : s.flag F.CLS_GEN_PENDING = false) : s.applyPending = s :=
  if_neg (by rw [h]; exact Bool.false_ne_true)

/-- A pending swap that is applied. -/
theorem State.applyPending_shows (hp : s.flag F.CLS_GEN_PENDING = true) (hr : s.flag F.CLS_GEN_RETIRING = false) :
    s.applyPending.flag F.CLS_GEN_PENDING = false ∧ s.applyPending.flag F.CLS_GEN_DONE = true ∧
    s.applyPending.fld F.CLS_GEN_ACTIVE = s.fld F.CLS_GEN_PENDING_TARGET ∧ s.Only s.applyPending [.regs, .cnts, .mgt, .key] := by
  have target : s.fld F.CLS_GEN_PENDING_TARGET < 2 := s.fld_lt F.CLS_GEN_PENDING_TARGET
  have effect : s.applyPending = ((s.setFlds [(F.CLS_GEN_PENDING, 0), (F.CLS_GEN_PENDING_TARGET, 0)]).applySwap
      (s.fld F.CLS_GEN_PENDING_TARGET)).swapDone := by
    unfold State.applyPending
    rw [hp, hr]
    rfl
  have taken : (s.setFlds [(F.CLS_GEN_PENDING, 0), (F.CLS_GEN_PENDING_TARGET, 0)]).flag F.CLS_GEN_PENDING = false :=
    s.flag_setFlds_at [] _ F.CLS_GEN_PENDING 0 rfl (by decide) rfl
  have only := s.setFlds_only [(F.CLS_GEN_PENDING, 0), (F.CLS_GEN_PENDING_TARGET, 0)]
  rw [effect]
  generalize s.setFlds [(F.CLS_GEN_PENDING, 0), (F.CLS_GEN_PENDING_TARGET, 0)] = u at *
  obtain ⟨active, done, pending, -, swapped⟩ := u.applySwap_shows target
  generalize u.applySwap (s.fld F.CLS_GEN_PENDING_TARGET) = v at *
  obtain ⟨regs, journaled⟩ := v.swapDone_frame
  exact ⟨(regs.flag (by decide)).trans (pending.trans taken), (regs.flag (by decide)).trans done, (regs.fld (by decide)).trans active,
    ((only.mono _ (by decide)).comp (swapped.mono _ (by decide))).comp (journaled.mono _ (by decide))⟩

/-! ## A swap is requested -/

theorem State.requestSwap_pending {t : Nat} (h : s.flag F.CLS_GEN_PENDING = true) :
    s.requestSwap t = s.setFld F.CLS_GEN_ERR_BUSY 1 := if_pos h

theorem State.requestSwap_starts {t : Nat} (h : s.flag F.CLS_GEN_PENDING = false) (hn : s.data.swap = none)
    (hr : s.flag F.CLS_GEN_RETIRING = false) : s.requestSwap t = { s with data := { s.data with swap := some t } } := by
  unfold State.requestSwap
  rw [h, hn, hr]
  rfl

/-- A swap that waits is shown as pending, and more than that only the journal changes. -/
theorem State.requestSwap_waits {t : Nat} (h : s.flag F.CLS_GEN_PENDING = false)
    (hw : s.data.swap ≠ none ∨ s.flag F.CLS_GEN_RETIRING = true) :
    (s.setFlds [(F.CLS_GEN_PENDING, 1), (F.CLS_GEN_PENDING_TARGET, t)]).RegsBut (s.requestSwap t) journalKeys ∧
    s.Only (s.requestSwap t) [.regs, .mgt, .key] := by
  have busy : (s.data.swap.isSome || s.flag F.CLS_GEN_RETIRING) = true := by
    rw [Bool.or_eq_true]
    exact hw.imp Option.isSome_iff_ne_none.mpr id
  unfold State.requestSwap
  rw [if_neg (by rw [h]; exact Bool.false_ne_true), if_pos busy]
  dsimp only
  have shown (m : MgtSt) : s.Only { (s.setFlds [(F.CLS_GEN_PENDING, 1), (F.CLS_GEN_PENDING_TARGET, t)]) with mgt := m } [.regs, .mgt, .key] := rfl
  split
  next c _ =>
    unfold State.doIf
    split
    · exact ⟨(State.completion_regsBut _ c 1 0).from rfl, (shown _).comp (State.completion_only _ c 1 0)⟩
    · exact ⟨State.regsBut_of_regs rfl _, shown _⟩
  · exact ⟨State.regsBut_of_regs rfl _, shown _⟩

end

/-! ## The commands -/

section
variable {s : State}

theorem exec_swap_requests {gen : Nat} (hg : gen < 2) (hr : s.mcRuns = true) :
    ∃ t, exec (.swap gen) s = .next t ∧
      (s.flag F.CLS_GEN_PENDING = true → t.flag F.CLS_GEN_ERR_BUSY = true ∧ s.RegsBut t [K.CLS_GEN] ∧ s.Only t [.regs]) ∧
      (s.flag F.CLS_GEN_PENDING = false → (s.data.swap ≠ none ∨ s.flag F.CLS_GEN_RETIRING = true) →
        t.flag F.CLS_GEN_PENDING = true ∧ t.fld F.CLS_GEN_PENDING_TARGET = gen ∧ t.data = s.data ∧
        t.fld F.CLS_GEN_ACTIVE = s.fld F.CLS_GEN_ACTIVE) ∧
      (s.flag F.CLS_GEN_PENDING = false → s.data.swap = none → s.flag F.CLS_GEN_RETIRING = false →
        t.data = { s.data with swap := some gen } ∧ s.Only t [.data]) := by
  have run := exec_swap s gen (decide_eq_true hg) hr
  by_cases pending : s.flag F.CLS_GEN_PENDING = true
  · have only : s.Only (s.setFld F.CLS_GEN_ERR_BUSY 1) [.regs] := rfl
    rw [s.requestSwap_pending pending, only.confine _ (by decide)] at run
    exact ⟨_, run, fun _ => ⟨s.flag_setFld_same F.CLS_GEN_ERR_BUSY 1 rfl (by decide), s.regsBut_setFld _ _, only⟩,
      fun h => absurd (h.symm.trans pending) Bool.false_ne_true, fun h => absurd (h.symm.trans pending) Bool.false_ne_true⟩
  · have free : s.flag F.CLS_GEN_PENDING = false := Bool.eq_false_iff.mpr pending
    by_cases waits : s.data.swap ≠ none ∨ s.flag F.CLS_GEN_RETIRING = true
    · obtain ⟨regs, only⟩ := s.requestSwap_waits (t := gen) free waits
      rw [only.confine _ (by decide)] at run
      refine ⟨_, run, fun h => absurd h pending, fun _ _ => ⟨?_, ?_, only.keeps State.data rfl, ?_⟩, fun _ h1 h2 => ?_⟩
      · exact (regs.flag (by decide)).trans (s.flag_setFlds_at [] _ F.CLS_GEN_PENDING 1 rfl (by decide) rfl)
      · exact (regs.fld (by decide)).trans ((s.fld_setFlds_at [(F.CLS_GEN_PENDING, 1)] [] F.CLS_GEN_PENDING_TARGET gen (by decide)
          (by decide) rfl).trans (Nat.mod_eq_of_lt hg))
      · exact (regs.fld (by decide)).trans (s.fld_setFlds_beside rfl)
      · exact absurd waits (by rw [h1, h2]; simp)
    · rw [not_or, ne_eq, not_not, Bool.not_eq_true] at waits
      have only : s.Only { s with data := { s.data with swap := some gen } } [.data] := rfl
      rw [s.requestSwap_starts free waits.1 waits.2, only.confine _ (by decide)] at run
      exact ⟨_, run, fun h => absurd h pending, fun _ h => absurd h (by rw [waits.1, waits.2]; simp), fun _ _ _ => ⟨rfl, only⟩⟩

theorem exec_swapTakeEffect_swaps {tgt : Nat} (ht : tgt < 2) (hp : s.powered = true) (hs : s.data.swap = some tgt)
    (hn : s.flag F.CLS_GEN_PENDING = false) (hr : s.flag F.CLS_GEN_RETIRING = false) :
    ∃ t, exec .swapTakeEffect s = .next t ∧ s.Only t [.regs, .cnts, .data, .mgt, .key] ∧ t.data.swap = none ∧
      t.flag F.CLS_GEN_DONE = true ∧ t.fld F.CLS_GEN_ACTIVE = tgt ∧
      s.RegsBut t [K.CLS_GEN] ∧
      (tgt = s.fld F.CLS_GEN_ACTIVE → t.cnts = s.cnts ∧ t.flag F.CLS_GEN_RETIRING = false) ∧
      (tgt ≠ s.fld F.CLS_GEN_ACTIVE → t.cnt (C.cls 9) = s.cnt (C.cls 9) + 1 ∧ s.CntsBut t [C.cls 9] ∧
        t.flag F.CLS_GEN_RETIRING = s.awaits (s.fld F.CLS_GEN_ACTIVE)) := by
  have run := exec_swapTakeEffect s hp
  let u : State := { s with data := { s.data with swap := none } }
  have taken : s.Only u clsParts := rfl
  obtain ⟨active, done, pending, regs, only⟩ := u.applySwap_shows ht
  obtain ⟨same, other⟩ := u.applySwap_counts ht hr
  have effect : s.swapEffect = u.applySwap tgt := by
    unfold State.swapEffect
    simp only [hs]
    exact State.applyPending_none _ (pending.trans hn)
  have whole : s.Only (u.applySwap tgt) clsParts := taken.comp (only.mono _ (by decide))
  rw [effect, whole.confine _ (by decide)] at run
  exact ⟨_, run, whole, by rw [only.keeps State.data rfl], done, active, regs, same, other⟩

section
variable (hp : s.powered = true) (hr : s.flag F.CLS_GEN_RETIRING = true)
include hp hr

theorem exec_retirementEnd_waits (ha : s.awaits (1 - s.fld F.CLS_GEN_ACTIVE) = true) : exec .retirementEnd s = .next s := by
  have kept : s.endRetirement = s := by
    unfold State.endRetirement State.retiring
    rw [hr]
    exact if_pos ha
  rw [exec_retirementEnd s hp, kept, s.confine_self]

omit hp in
theorem State.endRetirement_ends (ha : s.awaits (1 - s.fld F.CLS_GEN_ACTIVE) = false) :
    s.endRetirement = (s.setFld F.CLS_GEN_RETIRING 0).applyPending := by
  unfold State.endRetirement State.retiring
  rw [hr]
  exact if_neg (by rw [ha]; exact Bool.false_ne_true)

theorem exec_retirementEnd_ends (ha : s.awaits (1 - s.fld F.CLS_GEN_ACTIVE) = false) (hn : s.flag F.CLS_GEN_PENDING = false) :
    ∃ t, exec .retirementEnd s = .next t ∧ t.flag F.CLS_GEN_RETIRING = false ∧ s.RegsBut t [K.CLS_GEN] ∧ s.Only t [.regs] := by
  have run := exec_retirementEnd s hp
  have only : s.Only (s.setFld F.CLS_GEN_RETIRING 0) [.regs] := rfl
  rw [State.endRetirement_ends hr ha, State.applyPending_none _ ((s.clsGen_kept 0 rfl rfl).trans hn), only.confine _ (by decide)] at run
  exact ⟨_, run, s.flag_setFld_same F.CLS_GEN_RETIRING 0 rfl (by decide), s.regsBut_setFld _ _, only⟩

theorem exec_retirementEnd_applies (ha : s.awaits (1 - s.fld F.CLS_GEN_ACTIVE) = false) (hn : s.flag F.CLS_GEN_PENDING = true) :
    ∃ t, exec .retirementEnd s = .next t ∧ s.Only t [.regs, .cnts, .mgt, .key] ∧ t.flag F.CLS_GEN_PENDING = false ∧
      t.flag F.CLS_GEN_DONE = true ∧ t.fld F.CLS_GEN_ACTIVE = s.fld F.CLS_GEN_PENDING_TARGET := by
  have run := exec_retirementEnd s hp
  have only : s.Only (s.setFld F.CLS_GEN_RETIRING 0) [.regs] := rfl
  have target : (s.setFld F.CLS_GEN_RETIRING 0).fld F.CLS_GEN_PENDING_TARGET = s.fld F.CLS_GEN_PENDING_TARGET :=
    s.fld_setFld_beside 0 rfl
  obtain ⟨pending, done, active, applied⟩ := (s.setFld F.CLS_GEN_RETIRING 0).applyPending_shows ((s.clsGen_kept 0 rfl rfl).trans hn)
    (s.flag_setFld_same F.CLS_GEN_RETIRING 0 rfl (by decide))
  have whole := (only.mono [.regs, .cnts, .mgt, .key] (by decide)).comp applied
  rw [State.endRetirement_ends hr ha, whole.confine _ (by decide)] at run
  exact ⟨_, run, whole, pending, done, active.trans target⟩

end

end

/-- Settles O27: the request in its three cases, the swap that takes effect, and the end of a retirement. -/
theorem generationsSwap : Obligations.GenerationsSwap := by
  unfold Obligations.GenerationsSwap
  exact fun s gen hg => ⟨fun hr => exec_swap_requests hg hr, fun tgt ht hp hs hn hr => exec_swapTakeEffect_swaps ht hp hs hn hr,
    fun hp hr => ⟨exec_retirementEnd_waits hp hr, exec_retirementEnd_ends hp hr, exec_retirementEnd_applies hp hr⟩⟩

end Sys2Proof.Machine
end


section
/-! SUPPORT. Gate lists and recovery functions (spec/06, R183, R193 to R195): a change of list copies the administrative list register
by register; a transition sets CURRENT and the hold. -/

namespace Sys2Proof.Machine

section
variable (s : State)

/-! ## The commands of the window -/

theorem State.winHere_gate : s.winHere 0x100104 = decide (s.fld F.GATE_WIN_PORT_PORT < 34) := by
  have here : regAt 0x100104 = some (⟨0x100104, 1, 0x0, 34, 0x1, 0x8, 0x6, 0x0, .const 0x0⟩, 0) := by decide
  have index : s.winIndex 0x100104 = s.fld F.GATE_WIN_PORT_PORT := rfl
  simp only [State.winHere, State.regHere, here, index]
  by_cases h : s.fld F.GATE_WIN_PORT_PORT < 34 <;> simp [h]

variable (p : Nat)

theorem State.gateChange_busy (h : s.flag (F.GATE_STATUS_PENDING p) = true) : s.gateChange p = s.setFld (F.GATE_CTRL_ERR_BUSY p) 1 := if_pos h

theorem State.gateChange_refused (h : s.flag (F.GATE_STATUS_PENDING p) = false) (hv : s.gateListValid p = false) :
    s.gateChange p = s.setFld (F.GATE_STATUS_LIST_ERR p) 1 := by
  unfold State.gateChange
  rw [h, hv]
  rfl

/-- The change time as CONFIG_CHANGE computes it. -/
def State.newTc (s : State) (p : Nat) : Nat := changeTime s.nowNs (s.gateBase p 0) (s.gateCycle p 0)

theorem State.newTc_eq : s.newTc p = if s.nowNs + 2000 ≤ s.gateBase p 0 then s.gateBase p 0 else
    s.gateBase p 0 + (s.nowNs + 2000 - s.gateBase p 0 + s.gateCycle p 0 - 1) / s.gateCycle p 0 * s.gateCycle p 0 := by
  rw [State.newTc, changeTime]

theorem State.gateChange_takes (h : s.flag (F.GATE_STATUS_PENDING p) = false) (hv : s.gateListValid p = true) :
    s.gateChange p = ((s.setPair (K.GATE_CHANGE_S_LO p) (K.GATE_CHANGE_S_HI p) (secOf (s.newTc p))).setFld (F.GATE_CHANGE_NS_NS p)
      (nsOf (s.newTc p))).setFld (F.GATE_STATUS_PENDING p) 1 := by
  unfold State.gateChange
  rw [h, hv]
  rfl

theorem State.setTc_only (sec ns : Nat) : s.Only (((s.setPair (K.GATE_CHANGE_S_LO p) (K.GATE_CHANGE_S_HI p) sec).setFld
    (F.GATE_CHANGE_NS_NS p) ns).setFld (F.GATE_STATUS_PENDING p) 1) [.regs] := rfl

/-- A stored change time reads as it was computed. -/
theorem State.storeTc (tc : Nat) :
    let t := ((s.setPair (K.GATE_CHANGE_S_LO p) (K.GATE_CHANGE_S_HI p) (secOf tc)).setFld (F.GATE_CHANGE_NS_NS p) (nsOf tc)).setFld
      (F.GATE_STATUS_PENDING p) 1
    t.flag (F.GATE_STATUS_PENDING p) = true ∧ t.pair (K.GATE_CHANGE_S_LO p) (K.GATE_CHANGE_S_HI p) = tc / 1000000000 % 2 ^ 48 ∧
    t.fld (F.GATE_CHANGE_NS_NS p) = tc % 1000000000 ∧
    s.RegsBut t [K.GATE_STATUS p, K.GATE_CHANGE_S_LO p, K.GATE_CHANGE_S_HI p, K.GATE_CHANGE_NS p] := by
  have apart {a b : Nat} (h : a ≠ b) : a + 0x100000000 * p ≠ b + 0x100000000 * p := by omega
  intro t
  refine ⟨State.flag_setFld_same _ (F.GATE_STATUS_PENDING p) 1 rfl (show 19 < 32 by decide), ?_, ?_, ?_⟩
  · have lo : t.reg (K.GATE_CHANGE_S_LO p) = BitVec.ofNat 32 (secOf tc) :=
      (State.reg_setFld_other _ (F.GATE_STATUS_PENDING p) 1 (apart (by decide))).trans
        ((State.reg_setFld_other _ (F.GATE_CHANGE_NS_NS p) _ (apart (by decide))).trans
          ((State.reg_setReg_other _ _ (apart (by decide))).trans (State.reg_setReg_same _ _ _)))
    have hi : t.reg (K.GATE_CHANGE_S_HI p) = BitVec.ofNat 32 (secOf tc / 0x100000000) :=
      (State.reg_setFld_other _ (F.GATE_STATUS_PENDING p) 1 (apart (by decide))).trans
        ((State.reg_setFld_other _ (F.GATE_CHANGE_NS_NS p) _ (apart (by decide))).trans (State.reg_setReg_same _ _ _))
    rw [State.pair, lo, hi, BitVec.toNat_ofNat, BitVec.toNat_ofNat, secOf]
    omega
  · refine (State.fld_setFld_key _ (F.GATE_STATUS_PENDING p) (F.GATE_CHANGE_NS_NS p) 1 (apart (by decide))).trans ?_
    refine (State.fld_setFld_same _ (F.GATE_CHANGE_NS_NS p) _ (show 0 ≤ 29 by decide) (show 29 < 32 by decide)).trans
      (Nat.mod_eq_of_lt ?_)
    exact (Nat.mod_lt tc (by decide)).trans (show 1000000000 < 2 ^ (29 - 0 + 1) by decide)
  · have pair := (State.regsBut_setPair s (K.GATE_CHANGE_S_LO p) (K.GATE_CHANGE_S_HI p) (secOf tc)).mono
      (m := [K.GATE_STATUS p, K.GATE_CHANGE_S_LO p, K.GATE_CHANGE_S_HI p, K.GATE_CHANGE_NS p]) (by simp)
    exact (pair.comp ((State.regsBut_setFld _ (F.GATE_CHANGE_NS_NS p) _).mono (fun k hk => by
      rw [List.mem_singleton.mp hk]; simp [F.GATE_CHANGE_NS_NS]))).comp ((State.regsBut_setFld _ (F.GATE_STATUS_PENDING p) 1).mono
        (fun k hk => by rw [List.mem_singleton.mp hk]; simp [F.GATE_STATUS_PENDING]))

/-! ## A list becomes operational -/

/-- One entry of the administrative list is copied to the operational one. -/
def State.gateCopyEntry (p i : Nat) (s : State) : State :=
  (s.setReg (K.GATE_WIN_INTERVAL (gateKey p 1 i)) (s.reg (K.GATE_WIN_INTERVAL (gateKey p 0 i)))).setReg
    (K.GATE_WIN_OP (gateKey p 1 i)) (s.reg (K.GATE_WIN_OP (gateKey p 0 i)))

theorem State.gateCopy_eq : s.gateCopy p = forEach (List.range (s.gateLen p 0)) (State.gateCopyEntry p) s := rfl

variable {s p}

theorem State.reg_gateCopyEntry_other {i k : Nat} (h1 : k ≠ K.GATE_WIN_INTERVAL (gateKey p 1 i)) (h2 : k ≠ K.GATE_WIN_OP (gateKey p 1 i)) :
    (State.gateCopyEntry p i s).reg k = s.reg k :=
  (State.reg_setReg_other _ _ h2.symm).trans (State.reg_setReg_other _ _ h1.symm)

theorem State.reg_gateCopies_other {l : List Nat} {k : Nat}
    (h : ∀ i ∈ l, k ≠ K.GATE_WIN_INTERVAL (gateKey p 1 i) ∧ k ≠ K.GATE_WIN_OP (gateKey p 1 i)) :
    (forEach l (State.gateCopyEntry p) s).reg k = s.reg k := by
  induction l generalizing s with
  | nil => rfl
  | cons i r ih =>
    obtain ⟨h1, h2⟩ := h i List.mem_cons_self
    rw [forEach, ih (fun j hj => h j (List.mem_cons_of_mem _ hj)), State.reg_gateCopyEntry_other h1 h2]

theorem gateInterval_ne_op (a b : Nat) : K.GATE_WIN_INTERVAL a ≠ K.GATE_WIN_OP b := by
  unfold K.GATE_WIN_INTERVAL K.GATE_WIN_OP; omega

theorem gateInterval_ne {a b : Nat} (h : a ≠ b) : K.GATE_WIN_INTERVAL a ≠ K.GATE_WIN_INTERVAL b := by
  unfold K.GATE_WIN_INTERVAL; omega

theorem gateOp_ne {a b : Nat} (h : a ≠ b) : K.GATE_WIN_OP a ≠ K.GATE_WIN_OP b := by
  unfold K.GATE_WIN_OP; omega

/-- An administrative entry is not among the operational ones. -/
theorem gateKey_lists_ne {i j : Nat} (hi : i < 1024) : gateKey p 0 i ≠ gateKey p 1 j := by unfold gateKey; omega

/-- What the copied entries read as. -/
theorem State.reg_gateCopies {l : List Nat} (hl : ∀ i ∈ l, i < 1024) {i : Nat} (hi : i ∈ l) :
    (forEach l (State.gateCopyEntry p) s).reg (K.GATE_WIN_INTERVAL (gateKey p 1 i)) = s.reg (K.GATE_WIN_INTERVAL (gateKey p 0 i)) ∧
    (forEach l (State.gateCopyEntry p) s).reg (K.GATE_WIN_OP (gateKey p 1 i)) = s.reg (K.GATE_WIN_OP (gateKey p 0 i)) := by
  have small : i < 1024 := hl i hi
  have source (j : Nat) (s : State) : (State.gateCopyEntry p j s).reg (K.GATE_WIN_INTERVAL (gateKey p 0 i)) =
      s.reg (K.GATE_WIN_INTERVAL (gateKey p 0 i)) ∧
      (State.gateCopyEntry p j s).reg (K.GATE_WIN_OP (gateKey p 0 i)) = s.reg (K.GATE_WIN_OP (gateKey p 0 i)) :=
    ⟨State.reg_gateCopyEntry_other (gateInterval_ne (gateKey_lists_ne small)) (gateInterval_ne_op _ _),
      State.reg_gateCopyEntry_other (gateInterval_ne_op _ _).symm (gateOp_ne (gateKey_lists_ne small))⟩
  have own : (State.gateCopyEntry p i s).reg (K.GATE_WIN_INTERVAL (gateKey p 1 i)) = s.reg (K.GATE_WIN_INTERVAL (gateKey p 0 i)) ∧
      (State.gateCopyEntry p i s).reg (K.GATE_WIN_OP (gateKey p 1 i)) = s.reg (K.GATE_WIN_OP (gateKey p 0 i)) :=
    ⟨(State.reg_setReg_other _ _ (gateInterval_ne_op _ _).symm).trans (State.reg_setReg_same _ _ _), State.reg_setReg_same _ _ _⟩
  induction l generalizing s with
  | nil => exact absurd hi List.not_mem_nil
  | cons j r ih =>
    rw [forEach]
    by_cases later : i ∈ r
    · obtain ⟨h1, h2⟩ := ih (s := State.gateCopyEntry p j s) (fun k hk => hl k (List.mem_cons_of_mem _ hk)) later
        ⟨(State.reg_setReg_other _ _ (gateInterval_ne_op _ _).symm).trans (State.reg_setReg_same _ _ _), State.reg_setReg_same _ _ _⟩
      exact ⟨h1.trans (source j s).1, h2.trans (source j s).2⟩
    · obtain rfl : i = j := (List.mem_cons.mp hi).resolve_right later
      have apart : ∀ k ∈ r, gateKey p 1 i ≠ gateKey p 1 k := fun k hk h => later (by
        have : i = k := by unfold gateKey at h; omega
        exact this ▸ hk)
      exact ⟨(State.reg_gateCopies_other (fun k hk => ⟨gateInterval_ne (apart k hk), gateInterval_ne_op _ _⟩)).trans own.1,
        (State.reg_gateCopies_other (fun k hk => ⟨(gateInterval_ne_op _ _).symm, gateOp_ne (apart k hk)⟩)).trans own.2⟩

/-- The registers of the administrative list with those of the operational one. -/
def gateRegs (p : Nat) : List (Nat × Nat) :=
  [(K.GATE_ADMIN_BASE_S_LO p, K.GATE_OPER_BASE_S_LO p), (K.GATE_ADMIN_BASE_S_HI p, K.GATE_OPER_BASE_S_HI p),
    (K.GATE_ADMIN_BASE_NS p, K.GATE_OPER_BASE_NS p), (K.GATE_ADMIN_CYCLE p, K.GATE_OPER_CYCLE p),
    (K.GATE_ADMIN_EXT p, K.GATE_OPER_EXT p), (K.GATE_ADMIN_LEN p, K.GATE_OPER_LEN p)]

/-- Their places in a port's page. -/
theorem gateRegs_range : ∀ c ∈ gateRegs p, (0x100110 ≤ c.1 % 0x100000000 ∧ c.1 % 0x100000000 ≤ 0x100144) ∧
    (0x100110 ≤ c.2 % 0x100000000 ∧ c.2 % 0x100000000 ≤ 0x100144) := by
  simp only [gateRegs, List.forall_mem_cons, List.not_mem_nil, false_imp_iff, implies_true, and_true,
    K.GATE_ADMIN_BASE_S_LO, K.GATE_OPER_BASE_S_LO, K.GATE_ADMIN_BASE_S_HI, K.GATE_OPER_BASE_S_HI, K.GATE_ADMIN_BASE_NS, K.GATE_OPER_BASE_NS,
    K.GATE_ADMIN_CYCLE, K.GATE_OPER_CYCLE, K.GATE_ADMIN_EXT, K.GATE_OPER_EXT, K.GATE_ADMIN_LEN, K.GATE_OPER_LEN]
  omega

theorem gateRegs_ne_status : ∀ c ∈ gateRegs p, c.2 ≠ K.GATE_STATUS p := fun c hc => by
  have := gateRegs_range c hc
  unfold K.GATE_STATUS
  omega

theorem gateRegs_ne_window : ∀ c ∈ gateRegs p, ∀ e, c.1 ≠ K.GATE_WIN_INTERVAL e ∧ c.1 ≠ K.GATE_WIN_OP e ∧
    c.2 ≠ K.GATE_WIN_INTERVAL e ∧ c.2 ≠ K.GATE_WIN_OP e := fun c hc e => by
  have := gateRegs_range c hc
  unfold K.GATE_WIN_INTERVAL K.GATE_WIN_OP
  omega

/-- One register is copied to another. -/
def State.copyReg (c : Nat × Nat) (s : State) : State := s.setReg c.2 (s.reg c.1)

theorem forEach_copyReg_other {l : List (Nat × Nat)} {k : Nat} (h : ∀ c ∈ l, c.2 ≠ k) : (forEach l State.copyReg s).reg k = s.reg k := by
  induction l generalizing s with
  | nil => rfl
  | cons c r ih =>
    rw [forEach, ih (fun d hd => h d (List.mem_cons_of_mem _ hd))]
    exact State.reg_setReg_other _ _ (h c List.mem_cons_self)

/-- A copied register reads as its source where no later copy writes either, and no earlier one its source. -/
theorem forEach_copyReg_same {pre post : List (Nat × Nat)} {c : Nat × Nat} (hpre : ∀ d ∈ pre, d.2 ≠ c.1) (hpost : ∀ d ∈ post, d.2 ≠ c.2) :
    (forEach (pre ++ c :: post) State.copyReg s).reg c.2 = s.reg c.1 := by
  induction pre generalizing s with
  | nil =>
    rw [List.nil_append, forEach, forEach_copyReg_other hpost]
    exact State.reg_setReg_same _ _ _
  | cons d r ih =>
    rw [List.cons_append, forEach, ih (fun e he => hpre e (List.mem_cons_of_mem _ he))]
    exact State.reg_setReg_other _ _ (hpre d List.mem_cons_self)

/-- The six registers of the operational list read as those of the administrative one. -/
theorem State.reg_gateRegs (s : State) (p : Nat) : ∀ c ∈ gateRegs p, (forEach (gateRegs p) State.copyReg s).reg c.2 = s.reg c.1 := by
  have apart {a b : Nat} (h : a ≠ b) : a + 0x100000000 * p ≠ b + 0x100000000 * p := by omega
  intro c hc
  obtain ⟨pre, post, hsplit⟩ := List.append_of_mem hc
  have sources : ∀ d ∈ gateRegs p, ∀ e ∈ gateRegs p, d.2 ≠ e.1 := by
    simp only [gateRegs, List.forall_mem_cons, List.not_mem_nil, false_imp_iff, implies_true, and_true,
      K.GATE_ADMIN_BASE_S_LO, K.GATE_OPER_BASE_S_LO, K.GATE_ADMIN_BASE_S_HI, K.GATE_OPER_BASE_S_HI, K.GATE_ADMIN_BASE_NS, K.GATE_OPER_BASE_NS,
      K.GATE_ADMIN_CYCLE, K.GATE_OPER_CYCLE, K.GATE_ADMIN_EXT, K.GATE_OPER_EXT, K.GATE_ADMIN_LEN, K.GATE_OPER_LEN]
    omega
  have distinct : ((gateRegs p).map Prod.snd).Nodup := by
    simp only [gateRegs, List.map_cons, List.map_nil, List.nodup_cons, List.mem_cons, List.not_mem_nil, or_false, not_or,
      K.GATE_OPER_BASE_S_LO, K.GATE_OPER_BASE_S_HI, K.GATE_OPER_BASE_NS, K.GATE_OPER_CYCLE, K.GATE_OPER_EXT, K.GATE_OPER_LEN,
      not_false_eq_true, List.nodup_nil, and_true]
    omega
  rw [hsplit, List.map_append, List.map_cons, List.nodup_append] at distinct
  obtain ⟨-, last, -⟩ := distinct
  rw [List.nodup_cons, List.mem_map, not_exists] at last
  rw [hsplit]
  refine forEach_copyReg_same (fun d hd => sources d (by rw [hsplit]; exact List.mem_append_left _ hd) c hc) (fun d hd h => last.1 d ⟨hd, h⟩)

/-- The list has changed, before its first entry is entered. -/
def State.gateTurn (s : State) (p : Nat) : State :=
  (((forEach (gateRegs p) State.copyReg (s.gateCopy p)).setFld (F.GATE_STATUS_PENDING p) 0).setFld (F.GATE_STATUS_OPER_VALID p) 1).inc (C.sch 12)

theorem State.gateSwitch_turns (hp : s.flag (F.GATE_STATUS_PENDING p) = true) (hd : s.gateTc p ≤ s.nowNs) :
    s.gateSwitch p = (s.gateTurn p).gateTake p (s.heldBefore p) := by
  unfold State.gateSwitch
  rw [hp, decide_eq_false (Nat.not_lt.mpr hd)]
  rfl

/-- Entering an entry changes GATE_STATUS alone, and of it CURRENT and HOLD_ACTIVE. -/
theorem State.gateTake_frame (s : State) (p : Nat) (was : Bool) : s.RegsBut (s.gateTake p was) [K.GATE_STATUS p] ∧ s.Only (s.gateTake p was) [.regs] ∧
    ∀ i, 18 ≤ i → i < 32 → (s.gateTake p was).flag ⟨K.GATE_STATUS p, i, i⟩ = s.flag ⟨K.GATE_STATUS p, i, i⟩ := by
  have current (s : State) (v i : Nat) (hi : 18 ≤ i) : (s.setFld (F.GATE_STATUS_CURRENT p) v).flag ⟨K.GATE_STATUS p, i, i⟩ =
      s.flag ⟨K.GATE_STATUS p, i, i⟩ := by
    rw [State.flag_eq _ _ rfl, State.flag_eq _ _ rfl, s.fld_setFld_bits (F.GATE_STATUS_CURRENT p) ⟨K.GATE_STATUS p, i, i⟩ v rfl
      (show 0 ≤ 9 by decide) (show 9 < 32 by decide) (le_refl i) (show 9 < i ∨ i < 0 by omega)]
  have hold (s : State) (v i : Nat) (hi : 18 ≤ i) : (s.setFld (F.GATE_STATUS_HOLD_ACTIVE p) v).flag ⟨K.GATE_STATUS p, i, i⟩ =
      s.flag ⟨K.GATE_STATUS p, i, i⟩ :=
    s.flag_setFld_bits (f := F.GATE_STATUS_HOLD_ACTIVE p) (g := ⟨K.GATE_STATUS p, i, i⟩) v rfl rfl (show 17 < 32 by decide) rfl
      (show 17 ≠ i by omega)
  have one (v : Nat) := s.regsBut_setFld (F.GATE_STATUS_CURRENT p) v
  have two (v w : Nat) := (one v).comp (State.regsBut_setFld _ (F.GATE_STATUS_HOLD_ACTIVE p) w)
  unfold State.gateTake
  split
  · exact ⟨State.RegsBut.refl s _, s.only_refl _, fun _ _ _ => rfl⟩
  next x _ =>
    dsimp only
    split
    · unfold State.doIf
      split
      · exact ⟨two _ _, rfl, fun i hi _ => (hold _ _ i hi).trans (current s _ i hi)⟩
      · exact ⟨one _, rfl, fun i hi _ => current s _ i hi⟩
    · split
      · exact ⟨two _ _, rfl, fun i hi _ => (hold _ _ i hi).trans (current s _ i hi)⟩
      · exact ⟨one _, rfl, fun i hi _ => current s _ i hi⟩

theorem State.gateTurn_frame (s : State) (p : Nat) : s.Only (s.gateTurn p) [.regs, .cnts] ∧ (s.gateTurn p).cnt (C.sch 12) = s.cnt (C.sch 12) + 1 ∧
    s.CntsBut (s.gateTurn p) [C.sch 12] ∧ (s.gateTurn p).flag (F.GATE_STATUS_PENDING p) = false ∧
    (s.gateTurn p).flag (F.GATE_STATUS_OPER_VALID p) = true := by
  have copied : s.Only (forEach (gateRegs p) State.copyReg (s.gateCopy p)) [.regs] :=
    (forEach_only (State.gateCopyEntry p) (fun i s => (rfl : s.Only (State.gateCopyEntry p i s) [.regs])) _ s).comp
      (forEach_only State.copyReg (fun c s => (rfl : s.Only (State.copyReg c s) [.regs])) _ _)
  unfold State.gateTurn
  generalize forEach (gateRegs p) State.copyReg (s.gateCopy p) = u at *
  have done : (u.setFld (F.GATE_STATUS_PENDING p) 0).flag (F.GATE_STATUS_PENDING p) = false :=
    u.flag_setFld_same (F.GATE_STATUS_PENDING p) 0 rfl (show 19 < 32 by decide)
  have first : u.Only (u.setFld (F.GATE_STATUS_PENDING p) 0) [.regs] := rfl
  generalize u.setFld (F.GATE_STATUS_PENDING p) 0 = v at *
  have valid : (v.setFld (F.GATE_STATUS_OPER_VALID p) 1).flag (F.GATE_STATUS_OPER_VALID p) = true :=
    v.flag_setFld_same (F.GATE_STATUS_OPER_VALID p) 1 rfl (show 18 < 32 by decide)
  have pending : (v.setFld (F.GATE_STATUS_OPER_VALID p) 1).flag (F.GATE_STATUS_PENDING p) = false :=
    (v.flag_setFld_bits (f := F.GATE_STATUS_OPER_VALID p) (g := F.GATE_STATUS_PENDING p) 1 rfl rfl (show 18 < 32 by decide) rfl
      (show 18 ≠ 19 by decide)).trans done
  have second : v.Only (v.setFld (F.GATE_STATUS_OPER_VALID p) 1) [.regs] := rfl
  generalize v.setFld (F.GATE_STATUS_OPER_VALID p) 1 = x at *
  have regs : s.Only x [.regs] := (copied.comp first).comp second
  have same : x.cnts = s.cnts := regs.keeps State.cnts rfl
  refine ⟨(regs.mono _ (by decide)).comp (show x.Only (x.inc (C.sch 12)) [.regs, .cnts] from rfl), ?_,
    (State.cntsBut_of_cnts same _).comp (x.cntsBut_inc (C.sch 12)), pending, valid⟩
  rw [x.cnt_inc_same, State.cnt_congr same]

/-- The registers of a list that became operational. -/
theorem State.reg_gateTurn (hl : s.gateLen p 0 ≤ 1024) :
    (∀ c ∈ gateRegs p, (s.gateTurn p).reg c.2 = s.reg c.1) ∧
    ∀ i, i < s.gateLen p 0 →
      (s.gateTurn p).reg (K.GATE_WIN_INTERVAL (gateKey p 1 i)) = s.reg (K.GATE_WIN_INTERVAL (gateKey p 0 i)) ∧
      (s.gateTurn p).reg (K.GATE_WIN_OP (gateKey p 1 i)) = s.reg (K.GATE_WIN_OP (gateKey p 0 i)) := by
  have status {k : Nat} (hk : k ≠ K.GATE_STATUS p) : (s.gateTurn p).reg k = (forEach (gateRegs p) State.copyReg (s.gateCopy p)).reg k :=
    (State.reg_setFld_other _ (F.GATE_STATUS_OPER_VALID p) 1 hk.symm).trans (State.reg_setFld_other _ (F.GATE_STATUS_PENDING p) 0 hk.symm)
  have window {k : Nat} (h1 : ∀ e, k ≠ K.GATE_WIN_INTERVAL e) (h2 : ∀ e, k ≠ K.GATE_WIN_OP e) : (s.gateCopy p).reg k = s.reg k :=
    State.reg_gateCopies_other (fun i _ => ⟨h1 _, h2 _⟩)
  refine ⟨fun c hc => ?_, fun i hi => ?_⟩
  · rw [status (gateRegs_ne_status c hc), State.reg_gateRegs _ p c hc,
      window (fun e => (gateRegs_ne_window c hc e).1) (fun e => (gateRegs_ne_window c hc e).2.1)]
  · have copied := State.reg_gateCopies (p := p) (s := s) (l := List.range (s.gateLen p 0))
      (fun j hj => lt_of_lt_of_le (List.mem_range.mp hj) hl) (List.mem_range.mpr hi)
    rw [status (by unfold K.GATE_WIN_INTERVAL K.GATE_STATUS; omega), status (by unfold K.GATE_WIN_OP K.GATE_STATUS; omega),
      forEach_copyReg_other (fun c hc => (gateRegs_ne_window c hc _).2.2.1),
      forEach_copyReg_other (fun c hc => (gateRegs_ne_window c hc _).2.2.2)]
    exact copied

/-- A list that became operational reads as the administrative one did. -/
theorem State.gateList_of_regs {t : State} (hr : ∀ c ∈ gateRegs p, t.reg c.2 = s.reg c.1) :
    t.gateCycle p 1 = s.gateCycle p 0 ∧ t.gateLen p 1 = s.gateLen p 0 ∧ t.gateBase p 1 = s.gateBase p 0 ∧ t.gateExt p 1 = s.gateExt p 0 := by
  simp only [gateRegs, List.forall_mem_cons, List.not_mem_nil, false_imp_iff, implies_true, and_true] at hr
  obtain ⟨lo, hi, ns, cycle, ext, len⟩ := hr
  refine ⟨?_, ?_, ?_, ?_⟩
  · exact congrArg (fun w => wordBits w 31 0) cycle
  · exact congrArg (fun w => wordBits w 10 0) len
  · have base : t.fld (F.GATE_OPER_BASE_NS_NS p) = s.fld (F.GATE_ADMIN_BASE_NS_NS p) := congrArg (fun w => wordBits w 29 0) ns
    show t.pair _ _ * 1000000000 + _ = s.pair _ _ * 1000000000 + _
    rw [base, State.pair, lo, hi, State.pair]
  · exact congrArg (fun w => wordBits w 31 0) ext

theorem State.gateEntry_of_regs {t : State} {i : Nat}
    (h1 : t.reg (K.GATE_WIN_INTERVAL (gateKey p 1 i)) = s.reg (K.GATE_WIN_INTERVAL (gateKey p 0 i)))
    (h2 : t.reg (K.GATE_WIN_OP (gateKey p 1 i)) = s.reg (K.GATE_WIN_OP (gateKey p 0 i))) : t.gateEntry p 1 i = s.gateEntry p 0 i := by
  have interval : t.fld (F.GATE_WIN_INTERVAL_INTERVAL (gateKey p 1 i)) = s.fld (F.GATE_WIN_INTERVAL_INTERVAL (gateKey p 0 i)) :=
    congrArg (fun w => wordBits w 31 0) h1
  have hold : t.flag (F.GATE_WIN_OP_HOLD (gateKey p 1 i)) = s.flag (F.GATE_WIN_OP_HOLD (gateKey p 0 i)) :=
    congrArg (fun w => w.toNat.testBit 8) h2
  have gates : t.fld (F.GATE_WIN_OP_GATES (gateKey p 1 i)) = s.fld (F.GATE_WIN_OP_GATES (gateKey p 0 i)) :=
    congrArg (fun w => wordBits w 7 0) h2
  rw [State.gateEntry, interval, hold, gates, State.gateEntry]

/-! ## Transitions and holds -/

theorem State.gateTake_none (h : s.gateSeg p s.nowNs = none) (was : Bool) : s.gateTake p was = s := by
  simp only [State.gateTake, h]

theorem State.gateSeg_off (h : s.gatesOn p = false) (t : Nat) : s.gateSeg p t = none := by
  unfold State.gateSeg
  rw [h]
  rfl

/-- What GATE_STATUS shows of an entry that is entered. -/
theorem State.gateTake_shows {x : Seg} (hx : s.gateSeg p s.nowNs = some x) (was : Bool) :
    (s.gateTake p was).fld (F.GATE_STATUS_CURRENT p) = x.index % 1024 ∧
    (s.gateTake p was).flag (F.GATE_STATUS_HOLD_ACTIVE p) =
      (if x.hold = false then s.flag (F.GATE_STATUS_HOLD_ACTIVE p) && !was
       else s.flag (F.GATE_STATUS_HOLD_ACTIVE p) || s.holdWorks p) := by
  let u := s.setFld (F.GATE_STATUS_CURRENT p) x.index
  have current : u.fld (F.GATE_STATUS_CURRENT p) = x.index % 1024 :=
    s.fld_setFld_same (F.GATE_STATUS_CURRENT p) x.index (show 0 ≤ 9 by decide) (show 9 < 32 by decide)
  have hold : u.flag (F.GATE_STATUS_HOLD_ACTIVE p) = s.flag (F.GATE_STATUS_HOLD_ACTIVE p) := by
    rw [State.flag_eq _ _ rfl, State.flag_eq _ _ rfl, s.fld_setFld_bits (F.GATE_STATUS_CURRENT p) (F.GATE_STATUS_HOLD_ACTIVE p) _ rfl
      (show 0 ≤ 9 by decide) (show 9 < 32 by decide) (le_refl 17) (show 9 < 17 ∨ 17 < 0 by decide)]
  have held (v : Nat) : (u.setFld (F.GATE_STATUS_HOLD_ACTIVE p) v).fld (F.GATE_STATUS_CURRENT p) = x.index % 1024 ∧
      (u.setFld (F.GATE_STATUS_HOLD_ACTIVE p) v).flag (F.GATE_STATUS_HOLD_ACTIVE p) = decide (v % 2 = 1) :=
    ⟨(u.fld_setFld_bits (F.GATE_STATUS_HOLD_ACTIVE p) (F.GATE_STATUS_CURRENT p) v rfl (le_refl 17) (show 17 < 32 by decide)
      (show 0 ≤ 9 by decide) (show 17 < 0 ∨ 9 < 17 by decide)).trans current,
      u.flag_setFld_same (F.GATE_STATUS_HOLD_ACTIVE p) v rfl (show 17 < 32 by decide)⟩
  have works : u.holdWorks p = s.holdWorks p := by
    have kept : u.fld (F.MERGE_STATUS_VERIFY_STATE p) = s.fld (F.MERGE_STATUS_VERIFY_STATE p) :=
      s.fld_setFld_key (F.GATE_STATUS_CURRENT p) (F.MERGE_STATUS_VERIFY_STATE p) _ (show K.GATE_STATUS p ≠ K.MERGE_STATUS p by
        unfold K.GATE_STATUS K.MERGE_STATUS; omega)
    rw [State.holdWorks, kept, State.holdWorks]
    rfl
  have effect : s.gateTake p was = if !x.hold then u.doIf was (fun s => s.setFld (F.GATE_STATUS_HOLD_ACTIVE p) 0)
      else if u.holdWorks p then u.setFld (F.GATE_STATUS_HOLD_ACTIVE p) 1 else u := by
    simp only [State.gateTake, hx]
    rfl
  rw [effect, works]
  cases x.hold with
  | false =>
    simp only [Bool.not_false, if_true]
    cases was with
    | false => exact ⟨current, hold.trans (Bool.and_true _).symm⟩
    | true => exact ⟨(held 0).1, (held 0).2.trans (Bool.and_false _).symm⟩
  | true =>
    simp only [Bool.not_true, Bool.false_eq_true, if_false, Bool.true_eq_false]
    cases s.holdWorks p with
    | false => exact ⟨current, hold.trans (Bool.or_false _).symm⟩
    | true => exact ⟨(held 1).1, (held 1).2.trans (Bool.or_true _).symm⟩

end

/-! ## The commands -/

section
variable {s : State} {p : Nat}

section
variable (hr : s.mcRuns = true) (hp : p < 34) (hi : p = s.fld F.GATE_WIN_PORT_PORT)
include hr hp hi

theorem exec_configChange_port : exec .configChange s = .next (s.confine [.regs] (s.gateChange p)) := by
  have here : (s.mcRuns && s.winHere 0x100104) = true := by
    rw [hr, s.winHere_gate, ← hi, decide_eq_true hp]
    rfl
  rw [exec_configChange s here, show s.winIndex 0x100104 = p from hi.symm]

theorem exec_configChange_busy (hb : s.flag (F.GATE_STATUS_PENDING p) = true) :
    ∃ t, exec .configChange s = .next t ∧ t.flag (F.GATE_CTRL_ERR_BUSY p) = true ∧ s.RegsBut t [K.GATE_CTRL p] ∧ s.Only t [.regs] := by
  have run := exec_configChange_port hr hp hi
  have only : s.Only (s.setFld (F.GATE_CTRL_ERR_BUSY p) 1) [.regs] := rfl
  rw [s.gateChange_busy p hb, only.confine _ (by decide)] at run
  exact ⟨_, run, s.flag_setFld_same (F.GATE_CTRL_ERR_BUSY p) 1 rfl (show 3 < 32 by decide), s.regsBut_setFld _ _, only⟩

theorem exec_configChange_refused (hb : s.flag (F.GATE_STATUS_PENDING p) = false) (hv : s.gateListValid p = false) :
    ∃ t, exec .configChange s = .next t ∧ t.flag (F.GATE_STATUS_LIST_ERR p) = true ∧ s.RegsBut t [K.GATE_STATUS p] ∧ s.Only t [.regs] := by
  have run := exec_configChange_port hr hp hi
  have only : s.Only (s.setFld (F.GATE_STATUS_LIST_ERR p) 1) [.regs] := rfl
  rw [s.gateChange_refused p hb hv, only.confine _ (by decide)] at run
  exact ⟨_, run, s.flag_setFld_same (F.GATE_STATUS_LIST_ERR p) 1 rfl (show 21 < 32 by decide), s.regsBut_setFld _ _, only⟩

theorem exec_configChange_takes (hb : s.flag (F.GATE_STATUS_PENDING p) = false) (hv : s.gateListValid p = true) :
    ∃ t, exec .configChange s = .next t ∧ t.flag (F.GATE_STATUS_PENDING p) = true ∧
      (∀ tc, tc = (if s.nowNs + 2000 ≤ s.gateBase p 0 then s.gateBase p 0 else
          s.gateBase p 0 + (s.nowNs + 2000 - s.gateBase p 0 + s.gateCycle p 0 - 1) / s.gateCycle p 0 * s.gateCycle p 0) →
        t.pair (K.GATE_CHANGE_S_LO p) (K.GATE_CHANGE_S_HI p) = tc / 1000000000 % 2 ^ 48 ∧
        t.fld (F.GATE_CHANGE_NS_NS p) = tc % 1000000000) ∧
      s.RegsBut t [K.GATE_STATUS p, K.GATE_CHANGE_S_LO p, K.GATE_CHANGE_S_HI p, K.GATE_CHANGE_NS p] ∧ s.Only t [.regs] := by
  have run := exec_configChange_port hr hp hi
  rw [s.gateChange_takes p hb hv] at run
  have stored := s.storeTc p (s.newTc p)
  have only : s.Only (((s.setPair (K.GATE_CHANGE_S_LO p) (K.GATE_CHANGE_S_HI p) (secOf (s.newTc p))).setFld (F.GATE_CHANGE_NS_NS p)
      (nsOf (s.newTc p))).setFld (F.GATE_STATUS_PENDING p) 1) [.regs] := State.setTc_only s p _ _
  rw [only.confine _ (by decide)] at run
  generalize ((s.setPair (K.GATE_CHANGE_S_LO p) (K.GATE_CHANGE_S_HI p) (secOf (s.newTc p))).setFld (F.GATE_CHANGE_NS_NS p)
      (nsOf (s.newTc p))).setFld (F.GATE_STATUS_PENDING p) 1 = t at *
  obtain ⟨pending, seconds, ns, regs⟩ := stored
  refine ⟨_, run, pending, fun tc htc => ?_, regs, only⟩
  rw [htc, ← s.newTc_eq p]
  exact ⟨seconds, ns⟩

theorem exec_cancel_drops :
    ∃ t, exec .cancel s = .next t ∧ t.flag (F.GATE_STATUS_PENDING p) = false ∧ s.RegsBut t [K.GATE_STATUS p] ∧ s.Only t [.regs] := by
  have here : (s.mcRuns && s.winHere 0x100104) = true := by
    rw [hr, s.winHere_gate, ← hi, decide_eq_true hp]
    rfl
  have run := exec_cancel s here
  rw [show s.winIndex 0x100104 = p from hi.symm] at run
  have only : s.Only (s.gateCancel p) [.regs] := rfl
  rw [only.confine _ (by decide)] at run
  exact ⟨_, run, s.flag_setFld_same (F.GATE_STATUS_PENDING p) 0 rfl (show 19 < 32 by decide),
    s.regsBut_setFld (F.GATE_STATUS_PENDING p) 0, only⟩

end

theorem exec_gateChangeTime_switches (hp : p < 34) (hl : s.linked = true) (hb : s.flag (F.GATE_STATUS_PENDING p) = true)
    (hd : s.gateTc p ≤ s.nowNs) (hn : s.gateLen p 0 ≤ 1024) :
    ∃ t, exec (.gateChangeTime p) s = .next t ∧ s.Only t [.regs, .cnts, .held] ∧ t.flag (F.GATE_STATUS_PENDING p) = false ∧
      t.flag (F.GATE_STATUS_OPER_VALID p) = true ∧ t.cnt (C.sch 12) = s.cnt (C.sch 12) + 1 ∧ s.CntsBut t [C.sch 12] ∧
      t.gateCycle p 1 = s.gateCycle p 0 ∧ t.gateLen p 1 = s.gateLen p 0 ∧ t.gateBase p 1 = s.gateBase p 0 ∧
      t.gateExt p 1 = s.gateExt p 0 ∧ (∀ i, i < s.gateLen p 0 → t.gateEntry p 1 i = s.gateEntry p 0 i) := by
  have run := exec_gateChangeTime s p (decide_eq_true hp) hl
  obtain ⟨turned, cnt, cnts, pending, valid⟩ := s.gateTurn_frame p
  obtain ⟨regs, entries⟩ := State.reg_gateTurn hn
  rw [State.gateSwitch_turns hb hd] at run
  generalize s.gateTurn p = u at *
  obtain ⟨kept, only, flags⟩ := u.gateTake_frame p (s.heldBefore p)
  have counted : (u.gateTake p (s.heldBefore p)).cnts = u.cnts := only.keeps State.cnts rfl
  generalize u.gateTake p (s.heldBefore p) = t at *
  have whole : s.Only t [.regs, .cnts, .held] := (turned.mono _ (by decide)).comp (only.mono _ (by decide))
  rw [whole.confine _ (by decide)] at run
  have away {k : Nat} (hk : k ≠ K.GATE_STATUS p) : t.reg k = u.reg k := kept k (fun h => hk (List.mem_singleton.mp h))
  have list : ∀ c ∈ gateRegs p, t.reg c.2 = s.reg c.1 := fun c hc => (away (gateRegs_ne_status c hc)).trans (regs c hc)
  obtain ⟨cycle, len, base, ext⟩ := State.gateList_of_regs list
  refine ⟨_, run, whole, (flags 19 (by decide) (by decide)).trans pending, (flags 18 (by decide) (by decide)).trans valid,
    (State.cnt_congr counted _).trans cnt, cnts.comp (State.cntsBut_of_cnts counted _), cycle, len, base, ext, fun i hi => ?_⟩
  obtain ⟨h1, h2⟩ := entries i hi
  exact State.gateEntry_of_regs ((away (by unfold K.GATE_WIN_INTERVAL K.GATE_STATUS; omega)).trans h1)
    ((away (by unfold K.GATE_WIN_OP K.GATE_STATUS; omega)).trans h2)

section
variable (hp : p < 34) (hl : s.linked = true)
include hp hl

theorem exec_gateEntryTransition_enters {x : Seg} (hx : s.gateSeg p s.nowNs = some x) :
    ∃ t, exec (.gateEntryTransition p) s = .next t ∧ t.fld (F.GATE_STATUS_CURRENT p) = x.index % 1024 ∧
      t.flag (F.GATE_STATUS_HOLD_ACTIVE p) =
        (if x.hold = false then s.flag (F.GATE_STATUS_HOLD_ACTIVE p) && !s.heldBefore p
         else s.flag (F.GATE_STATUS_HOLD_ACTIVE p) || s.holdWorks p) ∧
      s.RegsBut t [K.GATE_STATUS p] ∧ s.Only t [.regs] := by
  have run := exec_gateEntryTransition s p (decide_eq_true hp) hl
  obtain ⟨regs, only, -⟩ := s.gateTake_frame p (s.heldBefore p)
  obtain ⟨current, hold⟩ := State.gateTake_shows hx (s.heldBefore p)
  rw [State.gateEnter, only.confine _ (by decide)] at run
  exact ⟨_, run, current, hold, regs, only⟩

theorem exec_gateHoldRequest_holds {x : Seg} (hx : s.gateSeg p (s.nowNs + s.fld (F.GATE_HOLD_ADV_ADV_NS p)) = some x)
    (hh : x.hold = true) (hw : s.holdWorks p = true) :
    ∃ t, exec (.gateHoldRequest p) s = .next t ∧ t.flag (F.GATE_STATUS_HOLD_ACTIVE p) = true ∧
      s.RegsBut t [K.GATE_STATUS p] ∧ s.Only t [.regs] := by
  have run := exec_gateHoldRequest s p (decide_eq_true hp) hl
  have effect : s.gateHold p = s.setFld (F.GATE_STATUS_HOLD_ACTIVE p) 1 := by
    simp only [State.gateHold, hx, hh, hw]
    rfl
  have only : s.Only (s.setFld (F.GATE_STATUS_HOLD_ACTIVE p) 1) [.regs] := rfl
  rw [effect, only.confine _ (by decide)] at run
  exact ⟨_, run, s.flag_setFld_same (F.GATE_STATUS_HOLD_ACTIVE p) 1 rfl (show 17 < 32 by decide), s.regsBut_setFld _ _, only⟩

theorem exec_gates_off (ho : s.gatesOn p = false) :
    exec (.gateEntryTransition p) s = .next s ∧ exec (.gateHoldRequest p) s = .next s := by
  have hold : s.gateHold p = s := by simp only [State.gateHold, State.gateSeg_off ho]
  rw [exec_gateEntryTransition s p (decide_eq_true hp) hl, exec_gateHoldRequest s p (decide_eq_true hp) hl, State.gateEnter,
    State.gateTake_none (State.gateSeg_off ho _), hold, s.confine_self]
  exact ⟨rfl, rfl⟩

end

/-! ## Recovery functions -/

theorem State.takeAny_takes (s : State) (i : Nat) : (s.takeAny i).flag (F.SEQR_WIN_STATE_TAKE_ANY i) = true ∧
    s.RegsBut (s.takeAny i) [K.SEQR_WIN_STATE i] ∧ s.Only (s.takeAny i) [.regs] :=
  ⟨s.flag_setFld_same (F.SEQR_WIN_STATE_TAKE_ANY i) 1 rfl (show 16 < 32 by decide), s.regsBut_setFld (F.SEQR_WIN_STATE_TAKE_ANY i) 1, rfl⟩

theorem exec_frerReset_takes (hr : s.mcRuns = true) :
    ∃ t, exec .frerReset s = .next t ∧ t.flag (F.SEQR_WIN_STATE_TAKE_ANY (s.fld F.FRER_WIN_INDEX_INDEX)) = true ∧
      s.RegsBut t [K.SEQR_WIN_STATE (s.fld F.FRER_WIN_INDEX_INDEX)] ∧ s.Only t [.regs] := by
  have run := exec_frerReset s hr
  rw [show s.winIndex 0x10030C = s.fld F.FRER_WIN_INDEX_INDEX from rfl] at run
  obtain ⟨flag, regs, only⟩ := s.takeAny_takes (s.fld F.FRER_WIN_INDEX_INDEX)
  rw [only.confine _ (by decide)] at run
  exact ⟨_, run, flag, regs, only⟩

theorem exec_frerResetTimer_takes {fn : Nat} (hn : fn < 1024) (hl : s.linked = true) :
    ∃ t, exec (.frerResetTimer fn) s = .next t ∧ t.flag (F.SEQR_WIN_STATE_TAKE_ANY fn) = true ∧
      t.cnt (C.sch 8) = s.cnt (C.sch 8) + 1 ∧ s.CntsBut t [C.sch 8] ∧
      s.RegsBut t [K.SEQR_WIN_STATE fn] ∧ s.Only t [.regs, .cnts] := by
  have run := exec_frerResetTimer s fn (decide_eq_true hn) hl
  obtain ⟨flag, regs, only⟩ := s.takeAny_takes fn
  have whole : s.Only (s.frerTimerEnd fn) [.regs, .cnts] := rfl
  rw [whole.confine _ (by decide)] at run
  exact ⟨_, run, flag, (s.takeAny fn).cnt_inc_same (C.sch 8), (s.takeAny fn).cntsBut_inc (C.sch 8), regs, whole⟩

end

/-- Settles O29: the commands on a list, its change time, its transitions, and the resets of a recovery function. -/
theorem gatesAndRecoveryFunctions : Obligations.GatesAndRecoveryFunctions := by
  unfold Obligations.GatesAndRecoveryFunctions
  exact ⟨fun s p hp => ⟨fun hr hi => ⟨exec_configChange_busy hr hp hi, exec_configChange_refused hr hp hi, exec_configChange_takes hr hp hi,
      exec_cancel_drops hr hp hi⟩, fun hl hb hd hn => exec_gateChangeTime_switches hp hl hb hd hn⟩,
    fun s p hp hl => ⟨fun x hx => exec_gateEntryTransition_enters hp hl hx, fun x hx hh hw => exec_gateHoldRequest_holds hp hl hx hh hw,
      exec_gates_off hp hl⟩,
    fun s => ⟨exec_frerReset_takes, fun fn hn hl => exec_frerResetTimer_takes hn hl⟩⟩

end Sys2Proof.Machine
end

section /-! SUPPORT. What the arithmetic of a route computes (spec/09, R261 and R262). -/
namespace Sys2Proof.Machine

section
variable (s : State) (r : Nat) (img : List Byte)

/-- The value that a route of a new source computes where it has no enumeration, before its range check. -/
def State.rtExact : Int :=
  (extractSig img (s.fld (F.WVR_RT_DATA1_SRC_START r)) (s.fld (F.WVR_RT_DATA1_SRC_LEN_M1 r) + 1)
      (s.flag (F.WVR_RT_DATA1_SRC_ORDER r)) (s.flag (F.WVR_RT_DATA1_SRC_SIGNED r)) * s.rtWord (K.WVR_RT_DATA3 r) +
    s.rtWord (K.WVR_RT_DATA4 r) +
    (if s.flag (F.WVR_RT_DATA0_ROUND r) = true ∧ 0 < s.fld (F.WVR_RT_DATA1_S r) then
      2 ^ (s.fld (F.WVR_RT_DATA1_S r) - 1) else 0)) / 2 ^ s.fld (F.WVR_RT_DATA1_S r)

theorem State.rtOutOfRange_some (y : Int) :
    s.rtOutOfRange r (some y) = if s.fld (F.WVR_RT_DATA0_RANGE_ACT r) = 0 then ⟨some y, true, false⟩
      else if s.fld (F.WVR_RT_DATA0_RANGE_ACT r) = 1 then ⟨some (s.rtWord (K.WVR_RT_DATA7 r)), true, true⟩
      else ⟨none, true, false⟩ := by
  unfold State.rtOutOfRange
  rcases s.fld (F.WVR_RT_DATA0_RANGE_ACT r) with _ | _ | n
  · rfl
  · rfl
  · simp

theorem State.rtCompute_timedOut :
    s.rtCompute r img true = if s.flag (F.WVR_RT_DATA0_TMO_ACT r) then ⟨some (s.rtWord (K.WVR_RT_DATA7 r)), false, true⟩
      else ⟨none, false, false⟩ := rfl

theorem State.rtCompute_exact (noEnum : s.flag (F.WVR_RT_DATA0_ENUM_EN r) = false) :
    s.rtCompute r img false =
      if s.flag (F.WVR_RT_DATA0_RANGE_EN r) = true ∧
          (s.rtExact r img < s.rtWord (K.WVR_RT_DATA5 r) ∨ s.rtWord (K.WVR_RT_DATA6 r) < s.rtExact r img) then
        s.rtOutOfRange r (some (s.rtExact r img))
      else ⟨some (s.rtExact r img), false, false⟩ := by
  unfold State.rtCompute State.rtExact
  simp only [noEnum, Bool.false_eq_true, if_false, Bool.and_eq_true, Bool.or_eq_true, decide_eq_true_eq,
    Int.shiftRight_eq_div_pow, Nat.cast_pow, Nat.cast_ofNat]

end

/-- Settles O40. Without an enumeration the sum is shifted arithmetically, which divides by the power of two downward. -/
theorem routeArithmetic : Obligations.RouteArithmetic := by
  unfold Obligations.RouteArithmetic
  rintro s r img x y rfl hy noEnum
  obtain rfl : y = s.rtExact r img := hy
  rw [s.rtCompute_exact r img noEnum]
  refine ⟨fun inRange => if_neg ?_, fun ranged out => ?_, s.rtCompute_timedOut r img⟩
  · rintro ⟨ranged, out⟩
    rcases inRange with h | h
    · exact absurd ranged (by simp [h])
    · omega
  · rw [if_pos ⟨ranged, out⟩]
    exact s.rtOutOfRange_some r _

end Sys2Proof.Machine
end

section /-! SUPPORT. Frames by address: what changes only registers of some addresses, whatever entry of a window they show. -/
namespace Sys2Proof.Machine

/-- Only registers of the listed addresses changed, each of any entry of its window. -/
def State.AddrsBut (s t : State) (as : List Nat) : Prop := ∀ k, k % 0x100000000 ∉ as → t.reg k = s.reg k

section
variable {s t u : State} {as bs : List Nat}

theorem State.AddrsBut.refl (s : State) (as : List Nat) : s.AddrsBut s as := fun _ _ => rfl

theorem State.AddrsBut.comp (h : s.AddrsBut t as) (h' : t.AddrsBut u as) : s.AddrsBut u as :=
  fun k hk => (h' k hk).trans (h k hk)

theorem State.AddrsBut.mono (h : s.AddrsBut t as) (hl : ∀ a ∈ as, a ∈ bs) : s.AddrsBut t bs := fun k hk => h k (fun m => hk (hl _ m))

theorem State.AddrsBut.after (h : s.AddrsBut t as) (e : u.regs = t.regs) : s.AddrsBut u as :=
  fun k hk => (State.reg_congr e k).trans (h k hk)

theorem State.AddrsBut.from (h : t.AddrsBut u as) (e : t.regs = s.regs) : s.AddrsBut u as :=
  fun k hk => (h k hk).trans (State.reg_congr e k)

theorem State.addrsBut_of_regs (e : t.regs = s.regs) (as : List Nat) : s.AddrsBut t as := fun k _ => State.reg_congr e k

theorem State.RegsBut.addrs {ks : List Nat} (h : s.RegsBut t ks) (hl : ∀ k ∈ ks, k % 0x100000000 ∈ as) : s.AddrsBut t as :=
  fun k hk => h k (fun m => hk (hl k m))

theorem State.AddrsBut.fld (h : s.AddrsBut t as) {f : Fld} (hf : f.key % 0x100000000 ∉ as) : t.fld f = s.fld f :=
  State.fld_of_reg (h f.key hf)

theorem State.AddrsBut.flag (h : s.AddrsBut t as) {f : Fld} (hf : f.key % 0x100000000 ∉ as) : t.flag f = s.flag f :=
  State.flag_of_reg (h f.key hf)

theorem forEach_addrsBut {α : Type} (l : List α) (f : α → State → State) (hf : ∀ x ∈ l, ∀ s : State, s.AddrsBut (f x s) as) (s : State) :
    s.AddrsBut (forEach l f s) as := by
  induction l generalizing s with
  | nil => exact State.AddrsBut.refl s as
  | cons x r ih => exact (hf x List.mem_cons_self s).comp (ih (fun y hy => hf y (List.mem_cons_of_mem x hy)) (f x s))

/-- An address that names an entry of a window has the entry above its lower 32 bits. -/
theorem addr_of_entry {a : Nat} (e : Nat) (ha : a < 0x100000000) : (a + 0x100000000 * e) % 0x100000000 = a := by omega

end
end Sys2Proof.Machine
end
section /-! SUPPORT. Weaver and MACsec entries that commit whole (spec/09, R288 and R289; spec/10, R303 and R310). -/
namespace Sys2Proof.Machine

section
variable (s : State)

/-! ## Events of the Weaver and its senders -/

theorem State.wvrEvent_only (b : Nat) : s.Only (s.wvrEvent b) [.regs, .cnts, .mgt, .key] := s.raiseFlag_only _ _

theorem State.wvrEvent_regsBut (b : Nat) : s.RegsBut (s.wvrEvent b) (K.WVR_EVT :: journalKeys) := s.raiseFlag_regsBut _ _

theorem State.wvrEvent_cntsBut (b : Nat) : s.CntsBut (s.wvrEvent b) eventCounters := s.raiseFlag_cntsBut _ _

theorem State.wvrEvent_flag {b : Nat} (hb : b < 32) : (s.wvrEvent b).flag ⟨K.WVR_EVT, b, b⟩ = true :=
  s.raiseFlag_flag _ _ rfl hb (show K.WVR_EVT ∉ journalKeys by decide)

/-- The addresses that a report about a sender can change. -/
def senderAddrs : List Nat := 0x1c0204 :: K.WVR_EVT :: journalKeys

theorem State.judgeSender_addrs (k : Nat) : s.AddrsBut (s.judgeSender k) senderAddrs := by
  unfold State.judgeSender
  split
  · exact State.AddrsBut.refl s _
  · have flds (l : List (Fld × Nat)) (h : ∀ c ∈ l, c.1.key = K.WVR_SND_STATUS k) : s.AddrsBut (s.setFlds l) senderAddrs :=
      (State.regsBut_setFlds s h).addrs (fun j hj => by
        rw [List.mem_singleton.mp hj, K.WVR_SND_STATUS, addr_of_entry k (by decide)]
        decide)
    have shown (a b c : Nat) := flds [(F.WVR_SND_STATUS_SILENT k, a), (F.WVR_SND_STATUS_PDUS k, b), (F.WVR_SND_STATUS_TIMED_OUT k, c)]
      (by simp [F.WVR_SND_STATUS_SILENT, F.WVR_SND_STATUS_PDUS, F.WVR_SND_STATUS_TIMED_OUT])
    simp only
    split
    · exact shown _ _ _
    · exact (shown _ _ _).comp ((State.wvrEvent_regsBut _ _).addrs (by decide))

theorem State.judgeSender_only (k : Nat) : s.Only (s.judgeSender k) [.regs, .cnts, .mgt, .key] := by
  unfold State.judgeSender
  split
  · exact s.only_refl _
  · have shown (a b c : Nat) : s.Only (s.setFlds [(F.WVR_SND_STATUS_SILENT k, a), (F.WVR_SND_STATUS_PDUS k, b),
        (F.WVR_SND_STATUS_TIMED_OUT k, c)]) [.regs, .cnts, .mgt, .key] := rfl
    simp only
    split
    · exact shown _ _ _
    · exact (shown _ _ _).comp (State.wvrEvent_only _ _)

/-! ## PDU entries -/

theorem State.setImage_addrs (i : Nat) (b : List Byte) : s.AddrsBut (s.setImage i b) ((List.range 16).map (fun j => 0x1c0080 + 4 * j)) :=
  forEach_addrsBut _ _ (fun j hj s => (s.regsBut_setReg _ _).addrs (fun k hk => by
    have : j < 16 := List.mem_range.mp hj
    rw [List.mem_singleton.mp hk, K.WVR_IMG, addr_of_entry i (by omega)]
    exact List.mem_map.mpr ⟨j, hj, rfl⟩)) s

theorem State.setImage_only (i : Nat) (b : List Byte) : s.Only (s.setImage i b) [.regs] :=
  forEach_only (l := [.regs]) (fun j s => s.setReg (K.WVR_IMG j i) (BitVec.ofNat 32 (beAt b (4 * j) 4))) (fun _ _ => rfl) _ s

/-- The addresses that a PDU entry which commits changes beside those of its own words. -/
def pduAddrs : List Nat := 0x1c0014 :: (List.range 16).map (fun j => 0x1c0080 + 4 * j) ++ senderAddrs

/-- What is forgotten with the image of a PDU: its state, stamp and times, and its places in open frames. -/
def State.pduForget (s : State) (i : Nat) : State :=
  let s := (s.setReg (K.WVR_PDU_STATE i) 0).setStamp i 0
  { s with wvr := { s.wvr with
    lastSend := mapErase i s.wvr.lastSend
    lastCyclic := mapErase i s.wvr.lastCyclic
    openFrames := s.wvr.openFrames.map (fun c => (c.1, { c.2 with pdus := c.2.pdus.filter (fun p => p.pdu != i) })) } }

theorem State.pduClear_eq (i : Nat) : s.pduClear i = (s.setImage i (List.replicate 64 0)).pduForget i := rfl

theorem State.pduForget_regs (i : Nat) : (s.pduForget i).regs = (s.setReg (K.WVR_PDU_STATE i) 0).regs := rfl

theorem State.pduForget_only (i : Nat) : s.Only (s.pduForget i) [.regs, .wvr] := rfl

theorem State.pduClear_addrs (i : Nat) : s.AddrsBut (s.pduClear i) pduAddrs := by
  have image := (s.setImage_addrs i (List.replicate 64 0)).mono (bs := pduAddrs) (by decide)
  have state (u : State) : u.AddrsBut (u.setReg (K.WVR_PDU_STATE i) 0) pduAddrs := (u.regsBut_setReg _ 0).addrs (fun k hk => by
    rw [List.mem_singleton.mp hk, K.WVR_PDU_STATE, addr_of_entry i (by decide)]
    decide)
  rw [s.pduClear_eq]
  exact image.comp ((state _).after (State.pduForget_regs _ i))

theorem State.pduClear_only (i : Nat) : s.Only (s.pduClear i) [.regs, .wvr] := by
  rw [s.pduClear_eq]
  exact ((s.setImage_only i (List.replicate 64 0)).mono _ (by decide)).comp (State.pduForget_only _ i)

theorem State.commitAll_only (l : List Nat) : s.Only (s.commitAll l) [.regs, .held] := by
  induction l generalizing s with
  | nil => exact s.only_refl _
  | cons k r ih => exact State.Only.comp (t := s.commitHeld k) rfl (ih _)

/-- The words of a PDU entry that are held until the last one is written. -/
def pduWords (i : Nat) : List Nat := [K.WVR_PDU_DATA0 i, K.WVR_PDU_DATA1 i, K.WVR_PDU_DATA2 i, K.WVR_PDU_DATA3 i, K.WVR_PDU_DATA4 i,
  K.WVR_PDU_DATA5 i, K.WVR_PDU_DATA6 i]

theorem pduWords_nodup (i : Nat) : (pduWords i).Nodup := by
  simp [pduWords, K.WVR_PDU_DATA0, K.WVR_PDU_DATA1, K.WVR_PDU_DATA2, K.WVR_PDU_DATA3, K.WVR_PDU_DATA4, K.WVR_PDU_DATA5,
    K.WVR_PDU_DATA6]

theorem pduWords_apart (i : Nat) : ∀ k ∈ pduWords i, k % 0x100000000 ∉ pduAddrs := by
  simp only [pduWords, K.WVR_PDU_DATA0, K.WVR_PDU_DATA1, K.WVR_PDU_DATA2, K.WVR_PDU_DATA3, K.WVR_PDU_DATA4, K.WVR_PDU_DATA5,
    K.WVR_PDU_DATA6, List.forall_mem_cons, Nat.add_mul_mod_self_left]
  decide

/-- What follows the words of a PDU entry: its state is cleared, its deadline and due time start, its senders are judged. -/
def State.afterPdu (s : State) (i : Nat) (same : Bool) (oldSender : Nat) : State :=
  let s := if same then s.setFld (F.WVR_PDU_STATE_WRITTEN i) 0 else s.pduClear i
  let s := (s.startDeadline i).setDue i (s.firstDue i s.nowNs)
  (s.judgeSender oldSender).judgeSender (s.pduSender i)

theorem State.commitPdu_eq (i : Nat) : ∃ same, s.commitPdu i = (s.commitAll (pduWords i)).afterPdu i same (s.pduSender i) := by
  simp only [State.commitPdu, State.afterPdu, pduWords]
  exact ⟨_, rfl⟩

theorem State.afterPdu_addrs (i : Nat) (same : Bool) (k : Nat) : s.AddrsBut (s.afterPdu i same k) pduAddrs := by
  have judged (u : State) (j : Nat) : u.AddrsBut (u.judgeSender j) pduAddrs := (u.judgeSender_addrs j).mono (by decide)
  have cleared : s.AddrsBut (if same then s.setFld (F.WVR_PDU_STATE_WRITTEN i) 0 else s.pduClear i) pduAddrs := by
    cases same
    · exact s.pduClear_addrs i
    · refine (s.regsBut_setFld _ _).addrs (fun j hj => ?_)
      rw [List.mem_singleton.mp hj, F.WVR_PDU_STATE_WRITTEN, K.WVR_PDU_STATE, addr_of_entry i (by decide)]
      decide
  have timed (u : State) : u.AddrsBut ((u.startDeadline i).setDue i (u.firstDue i u.nowNs)) pduAddrs := State.addrsBut_of_regs rfl _
  exact ((cleared.comp (timed _)).comp (judged _ _)).comp (judged _ _)

theorem State.afterPdu_only (i : Nat) (same : Bool) (k : Nat) : s.Only (s.afterPdu i same k) [.regs, .cnts, .mgt, .wvr, .key] := by
  have judged (u : State) (j : Nat) : u.Only (u.judgeSender j) [.regs, .cnts, .mgt, .wvr, .key] := (u.judgeSender_only j).mono _ (by decide)
  have cleared : s.Only (if same then s.setFld (F.WVR_PDU_STATE_WRITTEN i) 0 else s.pduClear i) [.regs, .cnts, .mgt, .wvr, .key] := by
    cases same
    · exact (s.pduClear_only i).mono _ (by decide)
    · rfl
  have timed (u : State) : u.Only ((u.startDeadline i).setDue i (u.firstDue i u.nowNs)) [.regs, .cnts, .mgt, .wvr, .key] := rfl
  exact ((cleared.comp (timed _)).comp (judged _ _)).comp (judged _ _)

/-- R288: the words of a PDU entry are stored together, and none is held any longer. -/
theorem exec_wvrPduCommit_stores {i : Nat} (hi : i = s.fld F.WVR_PDU_INDEX_INDEX) (hr : s.mcRuns = true) :
    ∃ t, exec .wvrPduCommit s = .next t ∧ s.Only t [.regs, .cnts, .held, .mgt, .wvr, .key] ∧
      ∀ k ∈ pduWords i, t.reg k = s.heldOr k ∧ t.heldWord k = none := by
  have run := exec_wvrPduCommit s hr
  obtain ⟨same, eq⟩ := s.commitPdu_eq i
  rw [show s.winIndex 0x1C005C = i from hi.symm, eq] at run
  have only : s.Only ((s.commitAll (pduWords i)).afterPdu i same (s.pduSender i)) [.regs, .cnts, .held, .mgt, .wvr, .key] :=
    ((s.commitAll_only _).mono _ (by decide)).comp ((State.afterPdu_only _ _ _ _).mono _ (by decide))
  rw [only.confine _ (by decide)] at run
  refine ⟨_, run, only, fun k hk => ?_⟩
  obtain ⟨stored, free⟩ := s.commitAll_stores (pduWords_nodup i) k hk
  refine ⟨((s.commitAll (pduWords i)).afterPdu_addrs i same _ k (pduWords_apart i k hk)).trans stored, ?_⟩
  rw [State.heldWord, ((s.commitAll (pduWords i)).afterPdu_only i same (s.pduSender i)).keeps State.held rfl]
  exact free

/-! ## Route and carrier entries, images, stamps -/

/-- The words of a route entry that are held until the last one is written. -/
def routeWords (r : Nat) : List Nat := [K.WVR_RT_DATA0 r, K.WVR_RT_DATA1 r, K.WVR_RT_DATA2 r, K.WVR_RT_DATA3 r, K.WVR_RT_DATA4 r,
  K.WVR_RT_DATA5 r, K.WVR_RT_DATA6 r]

theorem routeWords_nodup (r : Nat) : (routeWords r).Nodup := by
  simp [routeWords, K.WVR_RT_DATA0, K.WVR_RT_DATA1, K.WVR_RT_DATA2, K.WVR_RT_DATA3, K.WVR_RT_DATA4, K.WVR_RT_DATA5, K.WVR_RT_DATA6]

theorem routeWords_last (r : Nat) : K.WVR_RT_DATA7 r ∉ routeWords r := by
  simp [routeWords, K.WVR_RT_DATA0, K.WVR_RT_DATA1, K.WVR_RT_DATA2, K.WVR_RT_DATA3, K.WVR_RT_DATA4, K.WVR_RT_DATA5, K.WVR_RT_DATA6,
    K.WVR_RT_DATA7]

/-- The words that wait for a last one are stored with it. -/
theorem State.commitAll_last {l : List Nat} (hl : l.Nodup) {last : Nat} (hlast : last ∉ l) (w : Word) :
    ((s.commitAll l).setReg last w).reg last = w ∧
      ∀ k ∈ l, ((s.commitAll l).setReg last w).reg k = s.heldOr k ∧ ((s.commitAll l).setReg last w).heldWord k = none := by
  refine ⟨State.reg_setReg_same _ _ _, fun k hk => ?_⟩
  obtain ⟨stored, free⟩ := s.commitAll_stores hl k hk
  have other : k ≠ last := fun e => hlast (e ▸ hk)
  exact ⟨((s.commitAll l).regsBut_setReg last w k (by simpa using other)).trans stored, free⟩

theorem State.commitAll_last_only (l : List Nat) (last : Nat) (w : Word) : s.Only ((s.commitAll l).setReg last w) [.regs, .held] :=
  (s.commitAll_only l).comp (show (s.commitAll l).Only ((s.commitAll l).setReg last w) [.regs, .held] from rfl)

/-- A route between zones that may not talk: what a last word of a route entry is refused for (R289). -/
def State.routeDenied (s : State) (r : Nat) : Bool :=
  match s.routeOwner r with
  | some i => wordBits (s.heldOr (K.WVR_RT_DATA0 r)) 31 31 == 1 && wordBits (s.heldOr (K.WVR_RT_DATA0 r)) 30 30 == 0 &&
      s.isTxPdu (wordBits (s.heldOr (K.WVR_RT_DATA0 r)) 11 0) &&
      !s.flag (F.ZONE_PAIR_PERMIT (16 * s.pduZone i + s.pduZone (wordBits (s.heldOr (K.WVR_RT_DATA0 r)) 11 0)))
  | none => false

theorem State.commitRoute_denied {r : Nat} (h : s.routeDenied r = true) (w : Word) : s.commitRoute r w = s.wvrEvent 7 := if_pos h

theorem State.commitRoute_permitted {r : Nat} (h : s.routeDenied r = false) (w : Word) :
    s.commitRoute r w = (s.commitAll (routeWords r)).setReg (K.WVR_RT_DATA7 r) w := if_neg (Bool.eq_false_iff.mp h)

theorem exec_wvrRouteCommit_acts {r : Nat} (hi : r = s.fld F.WVR_RT_INDEX_INDEX) (hr : s.mcRuns = true) (value : Word) :
    ∃ t, exec (.wvrRouteCommit value) s = .next t ∧
      (s.routeDenied r = true → t.flag ⟨K.WVR_EVT, 7, 7⟩ = true ∧ s.RegsBut t (K.WVR_EVT :: journalKeys) ∧ t.held = s.held) ∧
      (s.routeDenied r = false → t.reg (K.WVR_RT_DATA7 r) = value ∧ s.Only t [.regs, .held] ∧
        ∀ k ∈ routeWords r, t.reg k = s.heldOr k ∧ t.heldWord k = none) := by
  have run := exec_wvrRouteCommit s value hr
  rw [show s.winIndex 0x1C013C = r from hi.symm] at run
  cases hd : s.routeDenied r
  case true =>
    rw [s.commitRoute_denied hd, (s.wvrEvent_only 7).confine _ (by decide)] at run
    exact ⟨_, run, fun _ => ⟨s.wvrEvent_flag (by decide), s.wvrEvent_regsBut 7, (s.wvrEvent_only 7).keeps State.held rfl⟩, (by simp)⟩
  case false =>
    have only := s.commitAll_last_only (routeWords r) (K.WVR_RT_DATA7 r) value
    obtain ⟨last, words⟩ := s.commitAll_last (routeWords_nodup r) (routeWords_last r) value
    rw [s.commitRoute_permitted hd, only.confine _ (by decide)] at run
    exact ⟨_, run, (by simp), fun _ => ⟨last, only, words⟩⟩

/-- The words of a carrier entry that are held until the last one is written. -/
def carrierWords (c : Nat) : List Nat := K.WVR_CAR_CFG0 c :: (List.range 16).map (fun j => K.WVR_CAR_TPL j c)

theorem carrierWords_nodup (c : Nat) : (carrierWords c).Nodup := by
  refine List.nodup_cons.mpr ⟨?_, List.Nodup.map (fun a b h => ?_) List.nodup_range⟩
  · simp only [K.WVR_CAR_CFG0, K.WVR_CAR_TPL, List.mem_map, not_exists, not_and]
    omega
  · simp only [K.WVR_CAR_TPL] at h
    omega

theorem carrierWords_last (c : Nat) : K.WVR_CAR_CFG1 c ∉ carrierWords c := by
  simp only [carrierWords, K.WVR_CAR_CFG0, K.WVR_CAR_CFG1, K.WVR_CAR_TPL, List.mem_cons, List.mem_map, not_or, not_exists, not_and]
  exact ⟨by omega, fun j _ => by omega⟩

theorem exec_wvrCarrierCommit_stores {c : Nat} (hi : c = s.fld F.WVR_CAR_INDEX_INDEX) (hr : s.mcRuns = true) (value : Word) :
    ∃ t, exec (.wvrCarrierCommit value) s = .next t ∧ t.reg (K.WVR_CAR_CFG1 c) = value ∧ s.Only t [.regs, .held] ∧
      t.reg (K.WVR_CAR_CFG0 c) = s.heldOr (K.WVR_CAR_CFG0 c) ∧
      ∀ j, j < 16 → t.reg (K.WVR_CAR_TPL j c) = s.heldOr (K.WVR_CAR_TPL j c) := by
  have run := exec_wvrCarrierCommit s value hr
  have only := s.commitAll_last_only (carrierWords c) (K.WVR_CAR_CFG1 c) value
  obtain ⟨last, words⟩ := s.commitAll_last (carrierWords_nodup c) (carrierWords_last c) value
  rw [show s.winIndex 0x1C0188 = c from hi.symm,
    show s.commitCarrier c value = (s.commitAll (carrierWords c)).setReg (K.WVR_CAR_CFG1 c) value from rfl,
    only.confine _ (by decide)] at run
  exact ⟨_, run, last, only, (words _ List.mem_cons_self).1,
    fun j hj => (words _ (List.mem_cons_of_mem _ (List.mem_map.mpr ⟨j, List.mem_range.mpr hj, rfl⟩))).1⟩

theorem exec_wvrImageWrite_writes {i j : Nat} (hi : i = s.fld F.WVR_PDU_INDEX_INDEX) (hr : s.mcRuns = true) (hj : j < 16) (value : Word) :
    ∃ t, exec (.wvrImageWrite j value) s = .next t ∧
      (s.pduTx i = true → t.reg (K.WVR_IMG j i) = value ∧ s.RegsBut t [K.WVR_IMG j i] ∧ s.Only t [.regs]) ∧
      (s.pduTx i = false → t.flag ⟨K.WVR_EVT, 7, 7⟩ = true ∧ s.RegsBut t (K.WVR_EVT :: journalKeys)) := by
  have run := exec_wvrImageWrite s j value (decide_eq_true hj) hr
  rw [show s.winIndex 0x1C0080 = i from hi.symm] at run
  cases ht : s.pduTx i
  case true =>
    have only : s.Only (s.setReg (K.WVR_IMG j i) value) [.regs] := rfl
    rw [show s.writeImage i j value = s.setReg (K.WVR_IMG j i) value from if_pos ht, only.confine _ (by decide)] at run
    exact ⟨_, run, fun _ => ⟨s.reg_setReg_same _ _, s.regsBut_setReg _ _, only⟩, (by simp)⟩
  case false =>
    rw [show s.writeImage i j value = s.wvrEvent 7 from if_neg (by simp [ht]), (s.wvrEvent_only 7).confine _ (by decide)] at run
    exact ⟨_, run, (by simp), fun _ => ⟨s.wvrEvent_flag (by decide), s.wvrEvent_regsBut 7⟩⟩

/-! ## Secure associations -/

theorem saKeysOf_nodup (p i : Nat) : (saKeysOf p i).Nodup := by
  simp [saKeysOf, K.SEC_SA_SCI_LO, K.SEC_SA_SCI_HI, K.SEC_SA_PN_LO, K.SEC_SA_PN_HI, K.SEC_SA_SALT0, K.SEC_SA_SALT1, K.SEC_SA_SALT2,
    K.SEC_SA_SSCI, K.SEC_SA_CFG]

/-- The words of a secure association that are held until the last one is written. -/
def saWords (p i : Nat) : List Nat := (saKeysOf p i).dropLast

/-- What a last word of a secure association holds for its entry. -/
def State.saCommitted (s : State) (p i : Nat) (w : Word) : List Word := (saWords p i).map s.heldOr ++ [w &&& 0xFFE00000]

theorem forEach_unhold_heldWord (l : List Nat) (k : Nat) :
    (forEach l (fun k s => s.unhold k) s).heldWord k = if k ∈ l then none else s.heldWord k := by
  induction l generalizing s with
  | nil => rfl
  | cons j r ih =>
    rw [forEach, ih, State.heldWord_unhold]
    simp only [List.mem_cons]
    by_cases hj : k = j
    · simp [hj]
    · simp [hj, Ne.symm hj]

theorem forEach_unhold_only (l : List Nat) : s.Only (forEach l (fun k s => s.unhold k) s) [.held] :=
  forEach_only (l := [.held]) (fun k s => s.unhold k) (fun _ _ => rfl) l s

theorem forEach_setReg_zip_other {k : Nat} {l : List Nat} (hk : k ∉ l) (ws : List Word) :
    (forEach (l.zip ws) (fun c s => s.setReg c.1 c.2) s).reg k = s.reg k := by
  induction l generalizing s ws with
  | nil => rfl
  | cons j r ih =>
    obtain ⟨other, rest⟩ := not_or.mp (fun h => hk (List.mem_cons.mpr h))
    rcases ws with _ | ⟨w, ws⟩
    · rfl
    · exact (ih (s.setReg j w) rest ws).trans (s.regsBut_setReg j w k (by simpa using other))

/-- Words stored pairwise into distinct registers are the words these registers read. -/
theorem forEach_setReg_zip {l : List Nat} (hl : l.Nodup) (ws : List Word) :
    ∀ c ∈ l.zip ws, (forEach (l.zip ws) (fun c s => s.setReg c.1 c.2) s).reg c.1 = c.2 := by
  induction l generalizing s ws with
  | nil => simp
  | cons k r ih =>
    obtain ⟨fresh, rest⟩ := List.nodup_cons.mp hl
    rcases ws with _ | ⟨w, ws⟩
    · simp
    · intro c hc
      rcases List.mem_cons.mp hc with rfl | hc
      · exact (forEach_setReg_zip_other (s.setReg k w) fresh ws).trans (s.reg_setReg_same k w)
      · exact ih (s.setReg k w) rest ws c hc

theorem State.putSa_only (p i : Nat) (ws : List Word) : s.Only (s.putSa p i ws) [.regs] :=
  forEach_only (l := [.regs]) (fun (c : Nat × Word) s => s.setReg c.1 c.2) (fun _ _ => rfl) _ s

/-- R310: the entry reads the words that were committed to it. -/
theorem State.putSa_committed (p i : Nat) (u : State) (w : Word) :
    (u.putSa p i (s.saCommitted p i w)).reg (K.SEC_SA_CFG p i) = w &&& 0xFFE00000 ∧
      ∀ k ∈ saWords p i, (u.putSa p i (s.saCommitted p i w)).reg k = s.heldOr k := by
  have stored := forEach_setReg_zip u (saKeysOf_nodup p i) (s.saCommitted p i w)
  have pairs : (saKeysOf p i).zip (s.saCommitted p i w) =
    (saWords p i).map (fun k => (k, s.heldOr k)) ++ [(K.SEC_SA_CFG p i, w &&& 0xFFE00000)] := rfl
  rw [pairs] at stored
  refine ⟨?_, fun k hk => ?_⟩
  · exact stored (K.SEC_SA_CFG p i, w &&& 0xFFE00000) (List.mem_append_right _ List.mem_cons_self)
  · exact stored (k, s.heldOr k) (List.mem_append_left _ (List.mem_map_of_mem hk))

/-- Words of an association in use wait for the end of its frame. -/
def State.waitSa (s : State) (p i : Nat) (ws : List Word) : State :=
  { s with ports := { s.ports with saWait := mapSet (fun _ => []) s.ports.saWait (32 * p + i) ws } }

theorem State.waitSa_only (p i : Nat) (ws : List Word) : s.Only (s.waitSa p i ws) [.ports] := rfl

theorem State.waitSa_waits (p i : Nat) (ws : List Word) : mapGet (fun _ => []) (s.waitSa p i ws).ports.saWait (32 * p + i) = ws :=
  mapGet_mapSet_same _ s.ports.saWait _ ws

theorem State.commitSa_eq (p i : Nat) (w : Word) :
    s.commitSa p i w = if 4 ≤ i ∧ (forEach (saKeysOf p i) (fun k s => s.unhold k) s).receiving p then
      (forEach (saKeysOf p i) (fun k s => s.unhold k) s).waitSa p i (s.saCommitted p i w)
      else (forEach (saKeysOf p i) (fun k s => s.unhold k) s).putSa p i (s.saCommitted p i w) := rfl

theorem State.Only.receiving {s t : State} (h : s.Only t [.held]) (p : Nat) : t.receiving p = s.receiving p :=
  h.keeps (fun s => s.receiving p) rfl

theorem State.Only.keepsHeld {s t : State} (h : s.Only t [.regs]) (k : Nat) : t.heldWord k = s.heldWord k :=
  h.keeps (fun s => s.heldWord k) rfl

theorem State.winIndex_sa {p : Nat} (hp : p < 10) : s.winIndex (0x208024 + 0x400 * p) = s.fld (F.SEC_SA_INDEX_SA p) := by
  interval_cases p <;> rfl

theorem exec_secSaCommit_commits {p i : Nat} (hp : p < 10) (hi : i = s.fld (F.SEC_SA_INDEX_SA p)) (hr : s.mcRuns = true) (value : Word) :
    (i < 4 ∨ s.receiving p = false →
      ∃ t, exec (.secSaCommit p value) s = .next t ∧ t.reg (K.SEC_SA_CFG p i) = value &&& 0xFFE00000 ∧
        s.Only t [.regs, .held] ∧ ∀ k ∈ saWords p i, t.reg k = s.heldOr k ∧ t.heldWord k = none) ∧
    (4 ≤ i → s.receiving p = true →
      ∃ t, exec (.secSaCommit p value) s = .next t ∧ s.Only t [.held, .ports] ∧ (∀ k ∈ saWords p i, t.heldWord k = none) ∧
        mapGet (fun _ => []) t.ports.saWait (32 * p + i) = s.saCommitted p i value) := by
  have run := exec_secSaCommit s p value (decide_eq_true hp) hr
  have free := forEach_unhold_only s (saKeysOf p i)
  have none' (k : Nat) (hk : k ∈ saWords p i) : (forEach (saKeysOf p i) (fun k s => s.unhold k) s).heldWord k = none :=
    (forEach_unhold_heldWord s _ k).trans (if_pos (List.mem_of_mem_dropLast hk))
  have receiving : (forEach (saKeysOf p i) (fun k s => s.unhold k) s).receiving p = s.receiving p := free.receiving p
  rw [s.winIndex_sa hp, ← hi, s.commitSa_eq, receiving] at run
  generalize forEach (saKeysOf p i) (fun k s => s.unhold k) s = u at run free none'
  refine ⟨fun boundary => ?_, fun inUse rx => ?_⟩
  · have now : ¬ (4 ≤ i ∧ s.receiving p = true) := by
      rintro ⟨h4, hrx⟩
      rcases boundary with h | h
      · omega
      · simp [hrx] at h
    have only : s.Only (u.putSa p i (s.saCommitted p i value)) [.regs, .held] :=
      (free.mono _ (by decide)).comp ((u.putSa_only p i _).mono _ (by decide))
    rw [if_neg now, only.confine _ (by decide)] at run
    obtain ⟨cfg, words⟩ := s.putSa_committed p i u value
    exact ⟨_, run, cfg, only, fun k hk => ⟨words k hk, ((u.putSa_only p i _).keepsHeld k).trans (none' k hk)⟩⟩
  · have only : s.Only (u.waitSa p i (s.saCommitted p i value)) [.held, .ports] :=
      (free.mono [.held, .ports] (by decide)).comp ((u.waitSa_only p i _).mono _ (by decide))
    rw [if_pos ⟨inUse, rx⟩, only.confine _ (by decide)] at run
    exact ⟨_, run, only, none', u.waitSa_waits p i _⟩

theorem exec_txAnApply_applies {p : Nat} (hp : p < 10) (hr : s.powered = true) :
    ∃ t, exec (.txAnApply p) s = .next t ∧ t.txAn p = s.fld (F.SEC_CFG_TX_AN p) ∧ (∀ q, q ≠ p → t.txAn q = s.txAn q) ∧
      s.RegsBut t [K.SEC_STATUS p] ∧ s.Only t [.regs, .ports] ∧
      (s.saUsable p (s.fld (F.SEC_CFG_TX_AN p)) = true → t.flag (F.SEC_STATUS_TX_STALLED p) = false) ∧
      (s.saUsable p (s.fld (F.SEC_CFG_TX_AN p)) = false → t.regs = s.regs) := by
  have run := exec_txAnApply s p (decide_eq_true hp) hr
  let u : State := { s with ports := { s.ports with txAn := mapSet (fun _ => 0) s.ports.txAn p (s.fld (F.SEC_CFG_TX_AN p)) } }
  have same : u.txAn p = s.fld (F.SEC_CFG_TX_AN p) := mapGet_mapSet_same _ _ _ _
  have others : ∀ q, q ≠ p → u.txAn q = s.txAn q := fun q hq => mapGet_mapSet_other _ _ _ hq.symm
  have effect : s.applyTxAn p = if s.saUsable p (s.fld (F.SEC_CFG_TX_AN p)) then u.setFld (F.SEC_STATUS_TX_STALLED p) 0 else u := rfl
  rw [effect] at run
  cases hu : s.saUsable p (s.fld (F.SEC_CFG_TX_AN p))
  case true =>
    have only : s.Only (u.setFld (F.SEC_STATUS_TX_STALLED p) 0) [.regs, .ports] := rfl
    rw [hu, if_pos rfl, only.confine _ (by decide)] at run
    refine ⟨_, run, same, others, (u.regsBut_setFld _ _).from rfl, only, fun _ => ?_, (by simp)⟩
    exact (u.flag_setFld_same (F.SEC_STATUS_TX_STALLED p) 0 rfl (show 1 < 32 by decide)).trans rfl
  case false =>
    have only : s.Only u [.regs, .ports] := rfl
    rw [hu, if_neg (by simp), only.confine _ (by decide)] at run
    exact ⟨_, run, same, others, State.regsBut_of_regs rfl _, only, (by simp), fun _ => rfl⟩

end

/-- Settles O43. Every entry is committed by its last word: the words held so far and that word, nothing of other entries. -/
theorem weaverAndSecureEntriesCommit : Obligations.WeaverAndSecureEntriesCommit := by
  unfold Obligations.WeaverAndSecureEntriesCommit
  refine ⟨fun s value hr => ⟨exec_wvrPduCommit_stores s rfl hr, exec_wvrRouteCommit_acts s rfl hr value,
    exec_wvrCarrierCommit_stores s rfl hr value, fun j hj => exec_wvrImageWrite_writes s rfl hr hj value, ?_⟩,
    fun s p value hp => ⟨fun hr => exec_secSaCommit_commits s hp rfl hr value, fun hr => exec_txAnApply_applies s hp hr⟩⟩
  have only : s.Only (s.captureStamp (s.fld F.WVR_PDU_INDEX_INDEX)) [.busData, .wvr] := rfl
  have run := exec_wvrPduStampCapture s hr
  rw [only.confine _ (by decide)] at run
  exact ⟨_, run, only, rfl, rfl⟩

end Sys2Proof.Machine
end

section /-! SUPPORT. What a journal entry and an event leave of the key store: they only ask for signatures (spec/11, R326; spec/16). -/
namespace Sys2Proof.Machine

/-- Of what the key store holds, only the waiting signature requests may differ. -/
def State.KeysKept (s t : State) : Prop := t.key = { s.key with signQ := t.key.signQ }

section
variable {s t u : State}

theorem State.KeysKept.refl (s : State) : s.KeysKept s := rfl

theorem State.KeysKept.comp (h : s.KeysKept t) (h' : t.KeysKept u) : s.KeysKept u :=
  h'.trans (congrArg (fun m => { m with signQ := u.key.signQ }) h)

theorem State.keysKept_of_key (h : t.key = s.key) : s.KeysKept t := h.trans (congrArg (fun k => { s.key with signQ := k.signQ }) h.symm)

theorem State.KeysKept.slots (h : s.KeysKept t) : t.key.slots = s.key.slots := congrArg (fun k => k.slots) h

theorem State.KeysKept.slot (h : s.KeysKept t) (i : Nat) : t.slot i = s.slot i := congrArg (fun k => mapGet (fun _ => KeySlot.empty) k i) h.slots

theorem State.KeysKept.keyOp (h : s.KeysKept t) : t.key.keyOp = s.key.keyOp := congrArg (fun k => k.keyOp) h

theorem forEach_keysKept {α : Type} (f : α → State → State) (hf : ∀ x s, State.KeysKept s (f x s)) (l : List α) (s : State) :
    s.KeysKept (forEach l f s) := by
  induction l generalizing s with
  | nil => exact State.KeysKept.refl s
  | cons x r ih => exact (hf x s).comp (ih (f x s))

end

section
variable (s : State)

theorem State.requestSign_keysKept (k : Nat) (w : SignFor) (p : List Byte) : s.KeysKept (s.requestSign k w p) := rfl

theorem State.putStatement_keysKept (e : JEntry) : s.KeysKept (s.putStatement e) := by
  unfold State.putStatement
  simp only
  split <;> rfl

theorem State.checkpoint_keysKept (origin opcode cseq : Nat) : s.KeysKept (s.checkpoint origin opcode cseq) := by
  have entry : s.KeysKept (s.appendRaw 7 origin opcode cseq 0 (beBytes 4 s.signPosition)) := rfl
  unfold State.checkpoint
  simp only
  split
  · exact entry
  · exact entry.comp (State.putStatement_keysKept _ _)

theorem State.appendGroup_keysKept (origin opcode cseq : Nat) (l : List (Nat × Nat × List Byte)) :
    s.KeysKept (s.appendGroup origin opcode cseq l) := by
  have entries := forEach_keysKept (fun (e : Nat × Nat × List Byte) s => s.appendRaw e.1 origin opcode cseq e.2.1 e.2.2)
    (fun _ _ => rfl) l s
  unfold State.appendGroup
  split
  · exact State.KeysKept.refl s
  · simp only
    split
    · exact entries.comp (State.checkpoint_keysKept _ _ _ _)
    · exact entries

theorem State.endCmd_keysKept (c : Cmd) (status result : Nat) : s.KeysKept (s.endCmd c status result) :=
  s.popExec.appendGroup_keysKept _ _ _ _

theorem State.queueEvent_key (c : Nat) (b : List Byte) : (s.queueEvent c b).key = s.key := by
  unfold State.queueEvent
  split
  · rfl
  · simp only
    split
    · unfold State.mcSend
      split <;> rfl
    · rfl

theorem State.raise_keysKept (c : Nat) (d : List Byte) : s.KeysKept (s.raise c d) := by
  have entry : s.KeysKept ((s.append 5 255 c 0 0 d).inc (C.mgt 7)) := s.appendGroup_keysKept 255 c 0 [(5, 0, d)]
  exact entry.comp (State.keysKept_of_key (State.queueEvent_key _ c (entryBody s.nextJseq 5 255 c 0 s.nowNs 0 d)))

theorem State.raiseFlag_keysKept (f : Fld) (d : List Byte) : s.KeysKept (s.raiseFlag f d) := by
  unfold State.raiseFlag
  split
  · exact State.KeysKept.refl s
  · exact State.KeysKept.comp (t := s.setFld f 1) rfl (State.raise_keysKept _ _ _)
end

end Sys2Proof.Machine
end
section /-! SUPPORT. Key commands act on their slot (spec/11, R319 to R321). -/
namespace Sys2Proof.Machine

section
variable (s : State) (i : Nat)

/-! ## The start of a key operation -/

/-- The registers of a key slot and the status of the key engine. -/
def slotKeys : List Nat := [K.KEY_SLOT_PEND i, K.KEY_SLOT_INFO i, K.KEY_STATUS]

theorem State.keyBegin_done (op : Nat) : (s.keyBegin op 0).key = { s.key with keyOp := some (op, 0) } ∧
    (s.keyBegin op 0).flag F.KEY_STATUS_BUSY = true ∧ s.RegsBut (s.keyBegin op 0) [K.KEY_STATUS] ∧ s.Only (s.keyBegin op 0) [.regs, .key] := by
  refine ⟨rfl, ?_, (State.regsBut_setFld _ F.KEY_STATUS_BUSY 1).from rfl, rfl⟩
  exact (State.flag_setFld_same _ F.KEY_STATUS_BUSY 1 rfl (by decide)).trans rfl

theorem State.keyBegin_mismatch (op : Nat) : (s.keyBegin op 0x17).key.slots = s.key.slots ∧
    (s.keyBegin op 0x17).key.keyOp = some (op, 0x17) ∧ (s.keyBegin op 0x17).flag F.KEY_STATUS_KCV_MISMATCH = true ∧
    s.RegsBut (s.keyBegin op 0x17) (K.KEY_STATUS :: journalKeys) ∧ s.Only (s.keyBegin op 0x17) [.regs, .cnts, .mgt, .key] := by
  let u : State := { s with key := { s.key with keyOp := some (op, 0x17) } }.setFld F.KEY_STATUS_BUSY 1
  have kept := u.raiseFlag_keysKept F.KEY_STATUS_KCV_MISMATCH (beBytes 2 op)
  have busy : s.RegsBut u (K.KEY_STATUS :: journalKeys) :=
    ((State.regsBut_setFld _ F.KEY_STATUS_BUSY 1).from rfl).mono (by decide)
  have only : s.Only u [.regs, .cnts, .mgt, .key] := rfl
  exact ⟨kept.slots, kept.keyOp, u.raiseFlag_flag _ _ rfl (by decide) (by decide), busy.comp (u.raiseFlag_regsBut _ _),
    only.comp (u.raiseFlag_only _ _)⟩

/-! ## Changes of a slot -/

theorem State.commitHeader_eq : s.commitHeader i = { s with key := { s.key with
    records := mapSet (fun _ => TwoPhase.blank) s.key.records (recSlot i) ((s.twoPhase (recSlot i)).write (s.headerBytes i)) } } :=
  if_neg (by simp only [recSlot, recEnergy]; omega)

theorem State.countSlots_regsBut : s.RegsBut s.countSlots [K.KEY_STATUS] := s.regsBut_setFld F.KEY_STATUS_SLOTS_USED _

/-- A slot's header is committed and the slots are counted. -/
def State.recount (s : State) (i : Nat) : State := (s.commitHeader i).countSlots

theorem State.recount_key : (s.recount i).key = { s.key with records := (s.recount i).key.records } := by
  rw [State.recount, s.commitHeader_eq]
  rfl

theorem State.recount_slot (j : Nat) : (s.recount i).slot j = s.slot j := by
  rw [State.slot, s.recount_key i, State.slot]

theorem State.recount_only : s.Only (s.recount i) [.regs, .key] := by
  rw [State.recount, s.commitHeader_eq]
  rfl

theorem State.recount_regsBut : s.RegsBut (s.recount i) [K.KEY_STATUS] := by
  rw [State.recount, s.commitHeader_eq]
  exact (State.countSlots_regsBut _).from rfl

theorem keyStatus_ne_info : K.KEY_SLOT_INFO i ∉ [K.KEY_STATUS] := by
  simp only [K.KEY_SLOT_INFO, K.KEY_STATUS, List.mem_singleton]
  omega

theorem keyStatus_ne_pend : K.KEY_SLOT_PEND i ∉ [K.KEY_STATUS] := by
  simp only [K.KEY_SLOT_PEND, K.KEY_STATUS, List.mem_singleton]
  omega

theorem State.slot_setSlot (k : KeySlot) : (s.setSlot i k).slot i = k := mapGet_mapSet_same _ s.key.slots i k

theorem State.slot_setSlot_other (k : KeySlot) {j : Nat} (hj : j ≠ i) : (s.setSlot i k).slot j = s.slot j :=
  mapGet_mapSet_other _ s.key.slots k hj.symm

/-- Every field of a list whose fields are beside each other reads as what the list sets it to. -/
theorem State.fld_setFlds_mem {l : List (Fld × Nat)} (hl : l.Pairwise (fun a b => b.1.beside a.1 = true))
    (hb : ∀ c ∈ l, c.1.lo ≤ c.1.hi ∧ c.1.hi < 32) :
    ∀ c ∈ l, (s.setFlds l).fld c.1 = c.2 % 2 ^ (c.1.hi - c.1.lo + 1) := by
  intro c hc
  obtain ⟨pre, post, rfl⟩ := List.append_of_mem hc
  have later := (List.pairwise_cons.mp (List.pairwise_append.mp hl).2.1).1
  exact s.fld_setFlds_at pre post c.1 c.2 (hb c hc).1 (hb c hc).2 (List.all_eq_true.mpr later)

/-- The fields of a slot that a key taken into its pending half sets. -/
def pendFlds (i type source kcv state : Nat) : List (Fld × Nat) :=
  [(F.KEY_SLOT_PEND_TYPE i, type), (F.KEY_SLOT_PEND_SOURCE i, source), (F.KEY_SLOT_PEND_KCV i, kcv), (F.KEY_SLOT_INFO_STATE i, state)]

theorem pendFlds_apart (type source kcv state : Nat) :
    (pendFlds i type source kcv state).Pairwise (fun a b => b.1.beside a.1 = true) ∧
    (∀ c ∈ pendFlds i type source kcv state, c.1.lo ≤ c.1.hi ∧ c.1.hi < 32) ∧
    (∀ c ∈ pendFlds i type source kcv state, c.1.beside (F.KEY_SLOT_INFO_KCV i) = true ∧ c.1.key ∈ slotKeys i) := by
  simp [pendFlds, slotKeys, Fld.beside, F.KEY_SLOT_PEND_TYPE, F.KEY_SLOT_PEND_SOURCE, F.KEY_SLOT_PEND_KCV, F.KEY_SLOT_INFO_STATE,
    F.KEY_SLOT_INFO_KCV, K.KEY_SLOT_PEND, K.KEY_SLOT_INFO]

theorem State.pendFlds_set {type source kcv state : Nat} (ht : type < 4) (hs : source < 2) (hk : kcv < 2 ^ 24) (hst : state < 4) :
    (∀ c ∈ pendFlds i type source kcv state, (s.setFlds (pendFlds i type source kcv state)).fld c.1 = c.2) ∧
    (s.setFlds (pendFlds i type source kcv state)).fld (F.KEY_SLOT_INFO_KCV i) = s.fld (F.KEY_SLOT_INFO_KCV i) ∧
    s.RegsBut (s.setFlds (pendFlds i type source kcv state)) (slotKeys i) := by
  obtain ⟨apart, bits, others⟩ := pendFlds_apart i type source kcv state
  refine ⟨fun c hc => (s.fld_setFlds_mem apart bits c hc).trans (Nat.mod_eq_of_lt ?_),
    s.fld_setFlds_beside (List.all_eq_true.mpr fun c hc => (others c hc).1),
    s.regsBut_setFlds_keys (List.all_eq_true.mpr fun c hc => List.contains_iff_mem.mpr (others c hc).2)⟩
  simp only [pendFlds, List.mem_cons, List.not_mem_nil, or_false] at hc
  rcases hc with rfl | rfl | rfl | rfl
  · exact ht
  · exact hs
  · exact hk
  · exact hst

/-- A key put into the pending half of its slot: the half, the fields of its header, and nothing else. -/
theorem State.setPend_puts {type source : Nat} {key : List Byte} (ht : type < 4) (hs : source < 2) (hk : kcvOf key < 2 ^ 24) :
    (s.setPend i type source key).slot i = (s.slot i).setPend (.of type key) ∧
    (s.setPend i type source key).fld (F.KEY_SLOT_PEND_TYPE i) = type ∧
    (s.setPend i type source key).fld (F.KEY_SLOT_PEND_SOURCE i) = source ∧
    (s.setPend i type source key).fld (F.KEY_SLOT_PEND_KCV i) = kcvOf key ∧
    (s.setPend i type source key).fld (F.KEY_SLOT_INFO_STATE i) =
      (if s.fld (F.KEY_SLOT_INFO_STATE i) = 1 ∨ s.fld (F.KEY_SLOT_INFO_STATE i) = 2 then 2 else 3) ∧
    (s.setPend i type source key).fld (F.KEY_SLOT_INFO_KCV i) = s.fld (F.KEY_SLOT_INFO_KCV i) ∧
    s.RegsBut (s.setPend i type source key) (slotKeys i) ∧ s.Only (s.setPend i type source key) [.regs, .key] := by
  let u := s.setSlot i ((s.slot i).setPend (.of type key))
  let st := if s.fld (F.KEY_SLOT_INFO_STATE i) = 1 ∨ s.fld (F.KEY_SLOT_INFO_STATE i) = 2 then 2 else 3
  have eq : s.setPend i type source key = (u.setFlds (pendFlds i type source (kcvOf key) st)).recount i := rfl
  obtain ⟨set_, kept, frame⟩ := u.pendFlds_set i (state := st) ht hs hk (by simp only [st]; split <;> decide)
  have counted := (u.setFlds (pendFlds i type source (kcvOf key) st)).recount_regsBut i
  have only : s.Only (u.setFlds (pendFlds i type source (kcvOf key) st)) [.regs, .key] := rfl
  have info (g : Fld) (hg : g.key = K.KEY_SLOT_INFO i) := counted.fld (f := g) (hg ▸ keyStatus_ne_info i)
  have pend (g : Fld) (hg : g.key = K.KEY_SLOT_PEND i) := counted.fld (f := g) (hg ▸ keyStatus_ne_pend i)
  rw [eq]
  refine ⟨(State.recount_slot _ i i).trans (s.slot_setSlot i _), (pend _ rfl).trans (set_ (F.KEY_SLOT_PEND_TYPE i, type) (by simp [pendFlds])),
    (pend _ rfl).trans (set_ (F.KEY_SLOT_PEND_SOURCE i, source) (by simp [pendFlds])), (pend _ rfl).trans (set_ (F.KEY_SLOT_PEND_KCV i, kcvOf key) (by simp [pendFlds])),
    (info _ rfl).trans (set_ (F.KEY_SLOT_INFO_STATE i, st) (by simp [pendFlds])), (info _ rfl).trans kept,
    (frame.from rfl).comp (counted.mono (by simp [slotKeys])), only.comp (State.recount_only _ i)⟩

/-- The fields of a slot's header that a promotion takes from its pending half. -/
def promoteFlds (i type source kcv : Nat) : List (Fld × Nat) :=
  [(F.KEY_SLOT_INFO_STATE i, 1), (F.KEY_SLOT_INFO_TYPE i, type), (F.KEY_SLOT_INFO_SOURCE i, source), (F.KEY_SLOT_INFO_KCV i, kcv)]

theorem promoteFlds_apart (type source kcv : Nat) :
    (promoteFlds i type source kcv).Pairwise (fun a b => b.1.beside a.1 = true) ∧
    (∀ c ∈ promoteFlds i type source kcv, c.1.lo ≤ c.1.hi ∧ c.1.hi < 32) ∧
    (∀ c ∈ promoteFlds i type source kcv, c.1.key = K.KEY_SLOT_INFO i) := by
  simp [promoteFlds, Fld.beside, F.KEY_SLOT_INFO_STATE, F.KEY_SLOT_INFO_TYPE, F.KEY_SLOT_INFO_SOURCE, F.KEY_SLOT_INFO_KCV]

theorem info_ne_pend : K.KEY_SLOT_INFO i ∉ [K.KEY_SLOT_PEND i] := by
  simp [K.KEY_SLOT_INFO, K.KEY_SLOT_PEND]

/-- A slot as a promotion leaves it before its header is committed. -/
def State.promoted (s : State) (i : Nat) : State :=
  ((s.setSlot i (s.slot i).switch).setFlds (promoteFlds i (s.fld (F.KEY_SLOT_PEND_TYPE i)) (s.fld (F.KEY_SLOT_PEND_SOURCE i))
    (s.fld (F.KEY_SLOT_PEND_KCV i)))).setReg (K.KEY_SLOT_PEND i) 0

theorem State.promoted_header :
    (s.promoted i).fld (F.KEY_SLOT_INFO_STATE i) = 1 ∧
    (s.promoted i).fld (F.KEY_SLOT_INFO_TYPE i) = s.fld (F.KEY_SLOT_PEND_TYPE i) ∧
    (s.promoted i).fld (F.KEY_SLOT_INFO_SOURCE i) = s.fld (F.KEY_SLOT_PEND_SOURCE i) ∧
    (s.promoted i).fld (F.KEY_SLOT_INFO_KCV i) = s.fld (F.KEY_SLOT_PEND_KCV i) ∧
    (s.promoted i).reg (K.KEY_SLOT_PEND i) = 0 ∧ s.RegsBut (s.promoted i) (slotKeys i) := by
  let u := s.setSlot i (s.slot i).switch
  let l := promoteFlds i (s.fld (F.KEY_SLOT_PEND_TYPE i)) (s.fld (F.KEY_SLOT_PEND_SOURCE i)) (s.fld (F.KEY_SLOT_PEND_KCV i))
  have eq : s.promoted i = (u.setFlds l).setReg (K.KEY_SLOT_PEND i) 0 := rfl
  obtain ⟨apart, bits, header⟩ := promoteFlds_apart i (s.fld (F.KEY_SLOT_PEND_TYPE i)) (s.fld (F.KEY_SLOT_PEND_SOURCE i))
    (s.fld (F.KEY_SLOT_PEND_KCV i))
  have cleared := (u.setFlds l).regsBut_setReg (K.KEY_SLOT_PEND i) 0
  have reads (c : Fld × Nat) (hc : c ∈ l) (hv : c.2 < 2 ^ (c.1.hi - c.1.lo + 1)) : (s.promoted i).fld c.1 = c.2 :=
    (cleared.fld (header c hc ▸ info_ne_pend i)).trans ((u.fld_setFlds_mem apart bits c hc).trans (Nat.mod_eq_of_lt hv))
  refine ⟨reads (F.KEY_SLOT_INFO_STATE i, 1) (by simp [l, promoteFlds]) (show 1 < 4 by decide),
    reads (F.KEY_SLOT_INFO_TYPE i, s.fld (F.KEY_SLOT_PEND_TYPE i)) (by simp [l, promoteFlds]) (s.fld_lt (F.KEY_SLOT_PEND_TYPE i)),
    reads (F.KEY_SLOT_INFO_SOURCE i, s.fld (F.KEY_SLOT_PEND_SOURCE i)) (by simp [l, promoteFlds]) (s.fld_lt (F.KEY_SLOT_PEND_SOURCE i)),
    reads (F.KEY_SLOT_INFO_KCV i, s.fld (F.KEY_SLOT_PEND_KCV i)) (by simp [l, promoteFlds]) (s.fld_lt (F.KEY_SLOT_PEND_KCV i)),
    State.reg_setReg_same _ _ _, ?_⟩
  have frame : u.RegsBut (u.setFlds l) (slotKeys i) := u.regsBut_setFlds_keys (List.all_eq_true.mpr fun c hc =>
    List.contains_iff_mem.mpr (header c hc ▸ List.mem_cons_of_mem _ List.mem_cons_self))
  exact (frame.from rfl).comp (cleared.mono (fun k hk => List.mem_singleton.mp hk ▸ List.mem_cons_self))

/-- R321: the pending half becomes the active one, and the old active half is overwritten. -/
theorem State.promote_switches :
    (s.promote i).slot i = (s.slot i).switch.setPend .zero ∧ (s.promote i).fld (F.KEY_SLOT_INFO_STATE i) = 1 ∧
    (s.promote i).fld (F.KEY_SLOT_INFO_TYPE i) = s.fld (F.KEY_SLOT_PEND_TYPE i) ∧
    (s.promote i).fld (F.KEY_SLOT_INFO_SOURCE i) = s.fld (F.KEY_SLOT_PEND_SOURCE i) ∧
    (s.promote i).fld (F.KEY_SLOT_INFO_KCV i) = s.fld (F.KEY_SLOT_PEND_KCV i) ∧ (s.promote i).reg (K.KEY_SLOT_PEND i) = 0 ∧
    s.RegsBut (s.promote i) (slotKeys i) ∧ s.Only (s.promote i) [.regs, .key] := by
  let u := (s.promoted i).commitHeader i
  have eq : s.promote i = (u.setSlot i ((u.slot i).setPend .zero)).countSlots := rfl
  have committed := (s.promoted i).commitHeader_eq i
  have slot : u.slot i = (s.slot i).switch := by
    rw [show u = _ from committed]
    exact s.slot_setSlot i _
  have regs : u.regs = (s.promoted i).regs := by rw [show u = _ from committed]
  have counted : (s.promoted i).RegsBut (s.promote i) [K.KEY_STATUS] := (State.countSlots_regsBut _).from regs
  have info (g : Fld) (hg : g.key = K.KEY_SLOT_INFO i) := counted.fld (f := g) (hg ▸ keyStatus_ne_info i)
  obtain ⟨state, type, source, kcv, cleared, frame⟩ := s.promoted_header i
  have only : s.Only (s.promoted i) [.regs, .key] := rfl
  have only' : (s.promoted i).Only (s.promote i) [.regs, .key] := by
    rw [eq, show u = _ from committed]
    rfl
  refine ⟨?_, (info _ rfl).trans state, (info _ rfl).trans type, (info _ rfl).trans source, (info _ rfl).trans kcv,
    (counted _ (keyStatus_ne_pend i)).trans cleared, frame.comp (counted.mono (by simp [slotKeys])), only.comp only'⟩
  rw [eq, slot]
  exact u.slot_setSlot i _

theorem State.eraseSlot_empties :
    (s.eraseSlot i).slot i = .empty ∧ (s.eraseSlot i).reg (K.KEY_SLOT_INFO i) = 0 ∧ (s.eraseSlot i).reg (K.KEY_SLOT_PEND i) = 0 ∧
    (∀ j, j ≠ i → (s.eraseSlot i).slot j = s.slot j) ∧ s.RegsBut (s.eraseSlot i) (slotKeys i) ∧
    s.Only (s.eraseSlot i) [.regs, .key] := by
  let u := ((s.setSlot i .empty).setReg (K.KEY_SLOT_INFO i) 0).setReg (K.KEY_SLOT_PEND i) 0
  have eq : s.eraseSlot i = u.recount i := rfl
  have counted := u.recount_regsBut i
  have info : u.reg (K.KEY_SLOT_INFO i) = 0 :=
    (State.regsBut_setReg _ _ _ _ (info_ne_pend i)).trans (State.reg_setReg_same _ _ _)
  have frame : s.RegsBut u (slotKeys i) :=
    (((State.regsBut_setReg _ (K.KEY_SLOT_INFO i) 0).from rfl).mono (by simp [slotKeys])).comp
      ((State.regsBut_setReg _ (K.KEY_SLOT_PEND i) 0).mono (by simp [slotKeys]))
  have only : s.Only u [.regs, .key] := rfl
  rw [eq]
  exact ⟨(u.recount_slot i i).trans (s.slot_setSlot i _), (counted _ (keyStatus_ne_info i)).trans info,
    (counted _ (keyStatus_ne_pend i)).trans (State.reg_setReg_same _ _ _),
    fun j hj => (u.recount_slot i j).trans (s.slot_setSlot_other i _ hj), frame.comp (counted.mono (by simp [slotKeys])),
    only.comp (u.recount_only i)⟩

/-! ## The commands -/

theorem State.keyTake_takes {op type source kcv : Nat} {key : List Byte} (h : kcvOf key = kcv) :
    s.keyTake op i type source kcv key = (s.setPend i type source key).keyBegin op 0 := if_pos h

theorem State.keyTake_refuses {op type source kcv : Nat} {key : List Byte} (h : kcvOf key ≠ kcv) :
    s.keyTake op i type source kcv key = s.keyBegin op 0x17 := if_neg h

end

section
variable {s : State} {c : Cmd} {rest : List Cmd} {serial i type kdfId kcv : Nat} {wrapped : List Byte}

theorem State.keyHead_of (hr : s.mcRuns = true) (hq : s.mgt.execQ = c :: rest) (hk : s.key.keyOp = none)
    (hb : Config.keyBody c.opcode c.body = some (serial, i, type, kdfId, kcv, wrapped)) :
    s.keyHead c.opcode = some (c, serial, i, type, kdfId, kcv, wrapped) := by
  rw [State.keyHead, State.execHead_of hr hq]
  simp [hk, hb]

theorem State.keyLoad_takes {key : List Byte} (head : s.keyHead 0x30 = some (c, serial, i, type, kdfId, kcv, wrapped))
    (hs : serial = s.serial) (hu : aesUnwrap (s.xportKey c.origin) wrapped = some key) (hl : key.length = keyLen type)
    (hk : kcvOf key = kcv) : s.keyLoad = (s.setPend i type 0 key).keyBegin 0x30 0 := by
  simp only [State.keyLoad, head, hs, hu, hl, ne_eq, not_true, if_false]
  exact s.keyTake_takes i hk

theorem State.keyLoad_refuses (head : s.keyHead 0x30 = some (c, serial, i, type, kdfId, kcv, wrapped))
    (h : serial ≠ s.serial ∨ aesUnwrap (s.xportKey c.origin) wrapped = none ∨
      ∃ k, aesUnwrap (s.xportKey c.origin) wrapped = some k ∧ (k.length ≠ keyLen type ∨ kcvOf k ≠ kcv)) :
    s.keyLoad = s.keyBegin 0x30 0x17 := by
  simp only [State.keyLoad, head]
  by_cases hs : serial = s.serial
  · rcases h with h | h | ⟨k, hu, h⟩
    · exact absurd hs h
    · simp only [hs, h, ne_eq, not_true, if_false]
    · simp only [hs, hu, ne_eq, not_true, if_false]
      by_cases hl : k.length = keyLen type
      · rw [if_neg (not_not_intro hl)]
        exact s.keyTake_refuses i (h.resolve_left (not_not_intro hl))
      · exact if_pos hl
  · exact if_pos hs

/-- What a key taken into its slot leaves, with its operation begun. -/
theorem State.taken_leaves (op : Nat) {source : Nat} {key : List Byte} (ht : type < 4) (hs : source < 2) (hk : kcvOf key < 2 ^ 24) :
    let t := (s.setPend i type source key).keyBegin op 0
    t.slot i = (s.slot i).setPend (.of type key) ∧ t.fld (F.KEY_SLOT_PEND_TYPE i) = type ∧
    t.fld (F.KEY_SLOT_PEND_SOURCE i) = source ∧ t.fld (F.KEY_SLOT_PEND_KCV i) = kcvOf key ∧
    t.fld (F.KEY_SLOT_INFO_STATE i) = (if s.fld (F.KEY_SLOT_INFO_STATE i) = 1 ∨ s.fld (F.KEY_SLOT_INFO_STATE i) = 2 then 2 else 3) ∧
    t.fld (F.KEY_SLOT_INFO_KCV i) = s.fld (F.KEY_SLOT_INFO_KCV i) ∧ t.key.keyOp = some (op, 0) ∧
    t.flag F.KEY_STATUS_BUSY = true ∧ s.RegsBut t (slotKeys i) ∧ s.Only t [.regs, .key] := by
  obtain ⟨slot, ptype, psource, pkcv, state, kcv, frame, only⟩ := s.setPend_puts i ht hs hk
  obtain ⟨key', busy, frame', only'⟩ := (s.setPend i type source key).keyBegin_done op
  have info (g : Fld) (hg : g.key = K.KEY_SLOT_INFO i) := frame'.fld (f := g) (hg ▸ keyStatus_ne_info i)
  have pend (g : Fld) (hg : g.key = K.KEY_SLOT_PEND i) := frame'.fld (f := g) (hg ▸ keyStatus_ne_pend i)
  refine ⟨?_, (pend _ rfl).trans ptype, (pend _ rfl).trans psource, (pend _ rfl).trans pkcv, (info _ rfl).trans state,
    (info _ rfl).trans kcv, congrArg (fun k => k.keyOp) key', busy, frame.comp (frame'.mono (by simp [slotKeys])), only.comp only'⟩
  rw [State.slot, key']
  exact slot

theorem exec_keyLoad_acts (hr : s.mcRuns = true) (hq : s.mgt.execQ = c :: rest) (hn : s.key.keyOp = none) (hop : c.opcode = 0x30) :
    ∃ t, exec .keyLoad s = .next t ∧
      ∀ serial i type kdfId kcv wrapped, Config.keyBody 0x30 c.body = some (serial, i, type, kdfId, kcv, wrapped) →
        i < 512 → type < 4 → kcv < 2 ^ 24 →
        (∀ k, serial = s.serial → aesUnwrap (s.xportKey c.origin) wrapped = some k → k.length = keyLen type →
          kcvOf k = kcv →
          t.slot i = (s.slot i).setPend (.of type k) ∧ t.fld (F.KEY_SLOT_PEND_TYPE i) = type ∧
          t.fld (F.KEY_SLOT_PEND_SOURCE i) = 0 ∧ t.fld (F.KEY_SLOT_PEND_KCV i) = kcv ∧
          t.fld (F.KEY_SLOT_INFO_STATE i) =
            (if s.fld (F.KEY_SLOT_INFO_STATE i) = 1 ∨ s.fld (F.KEY_SLOT_INFO_STATE i) = 2 then 2 else 3) ∧
          t.fld (F.KEY_SLOT_INFO_KCV i) = s.fld (F.KEY_SLOT_INFO_KCV i) ∧
          t.key.keyOp = some (0x30, 0) ∧ t.flag F.KEY_STATUS_BUSY = true ∧ s.RegsBut t (slotKeys i) ∧ s.Only t [.regs, .key]) ∧
        (serial ≠ s.serial ∨ aesUnwrap (s.xportKey c.origin) wrapped = none ∨
          (∃ k, aesUnwrap (s.xportKey c.origin) wrapped = some k ∧ (k.length ≠ keyLen type ∨ kcvOf k ≠ kcv)) →
          t.key.slots = s.key.slots ∧ t.key.keyOp = some (0x30, 0x17) ∧ t.flag F.KEY_STATUS_KCV_MISMATCH = true ∧
          s.RegsBut t (K.KEY_STATUS :: journalKeys)) := by
  refine ⟨_, exec_keyLoad s hr, fun serial i type kdfId kcv wrapped hb _ ht hk => ?_⟩
  have head := State.keyHead_of hr hq hn (hop ▸ hb)
  rw [hop] at head
  refine ⟨fun k hs hu hl e => ?_, fun bad => ?_⟩
  · obtain ⟨slot, ptype, psource, pkcv, state, skcv, op, busy, frame, only⟩ :=
      s.taken_leaves (i := i) 0x30 ht (show 0 < 2 by decide) (e ▸ hk)
    rw [State.keyLoad_takes head hs hu hl e, only.confine _ (by decide)]
    exact ⟨slot, ptype, psource, pkcv.trans e, state, skcv, op, busy, frame, only⟩
  · obtain ⟨slots, op, flag, frame, only⟩ := s.keyBegin_mismatch 0x30
    rw [State.keyLoad_refuses head bad, only.confine _ (by decide)]
    exact ⟨slots, op, flag, frame⟩

theorem exec_keyDerive_acts (hr : s.mcRuns = true) (hq : s.mgt.execQ = c :: rest) (hn : s.key.keyOp = none) (hop : c.opcode = 0x31) :
    ∃ t, exec .keyDerive s = .next t ∧
      ∀ serial i type kdfId kcv wrapped, Config.keyBody 0x31 c.body = some (serial, i, type, kdfId, kcv, wrapped) →
        i < 512 → type < 4 → kcv < 2 ^ 24 →
        (kcvOf (s.sakKey i kdfId type) = kcv →
          t.slot i = (s.slot i).setPend (.of type (s.sakKey i kdfId type)) ∧ t.fld (F.KEY_SLOT_PEND_TYPE i) = type ∧
          t.fld (F.KEY_SLOT_PEND_SOURCE i) = 1 ∧ t.fld (F.KEY_SLOT_PEND_KCV i) = kcv ∧ t.key.keyOp = some (0x31, 0) ∧
          s.RegsBut t (slotKeys i) ∧ s.Only t [.regs, .key]) ∧
        (kcvOf (s.sakKey i kdfId type) ≠ kcv →
          t.key.slots = s.key.slots ∧ t.key.keyOp = some (0x31, 0x17) ∧ t.flag F.KEY_STATUS_KCV_MISMATCH = true ∧
          s.RegsBut t (K.KEY_STATUS :: journalKeys)) := by
  refine ⟨_, exec_keyDerive s hr, fun serial i type kdfId kcv wrapped hb _ ht hk => ?_⟩
  have head := State.keyHead_of hr hq hn (hop ▸ hb)
  rw [hop] at head
  have eq : s.keyDerive = s.keyTake 0x31 i type 1 kcv (s.sakKey i kdfId type) := by
    simp only [State.keyDerive, head]
  rw [eq]
  refine ⟨fun e => ?_, fun bad => ?_⟩
  · obtain ⟨slot, ptype, psource, pkcv, _, _, op, _, frame, only⟩ :=
      s.taken_leaves (i := i) 0x31 ht (show 1 < 2 by decide) (e ▸ hk)
    rw [s.keyTake_takes i e, only.confine _ (by decide)]
    exact ⟨slot, ptype, psource, pkcv.trans e, op, frame, only⟩
  · obtain ⟨slots, op, flag, frame, only⟩ := s.keyBegin_mismatch 0x31
    rw [s.keyTake_refuses i bad, only.confine _ (by decide)]
    exact ⟨slots, op, flag, frame⟩

theorem exec_keyPromote_acts (hr : s.mcRuns = true) (hq : s.mgt.execQ = c :: rest) (hn : s.key.keyOp = none) (hop : c.opcode = 0x32) :
    ∃ t, exec .keyPromote s = .next t ∧
      ∀ serial i type kdfId kcv wrapped, Config.keyBody 0x32 c.body = some (serial, i, type, kdfId, kcv, wrapped) → i < 512 →
        (2 ≤ s.fld (F.KEY_SLOT_INFO_STATE i) → kcvOf (s.slot i).pend = kcv →
          t.slot i = (s.slot i).switch.setPend .zero ∧ t.fld (F.KEY_SLOT_INFO_STATE i) = 1 ∧
          t.fld (F.KEY_SLOT_INFO_TYPE i) = s.fld (F.KEY_SLOT_PEND_TYPE i) ∧
          t.fld (F.KEY_SLOT_INFO_SOURCE i) = s.fld (F.KEY_SLOT_PEND_SOURCE i) ∧
          t.fld (F.KEY_SLOT_INFO_KCV i) = s.fld (F.KEY_SLOT_PEND_KCV i) ∧ t.reg (K.KEY_SLOT_PEND i) = 0 ∧
          t.key.keyOp = some (0x32, 0) ∧ s.RegsBut t (slotKeys i) ∧ s.Only t [.regs, .key]) ∧
        (s.fld (F.KEY_SLOT_INFO_STATE i) < 2 ∨ kcvOf (s.slot i).pend ≠ kcv →
          t.key.slots = s.key.slots ∧ t.key.keyOp = some (0x32, 0x17) ∧ s.RegsBut t (K.KEY_STATUS :: journalKeys)) := by
  refine ⟨_, exec_keyPromote s hr, fun serial i type kdfId kcv wrapped hb _ => ?_⟩
  have head := State.keyHead_of hr hq hn (hop ▸ hb)
  rw [hop] at head
  have eq : s.keyPromote = if s.fld (F.KEY_SLOT_INFO_STATE i) < 2 ∨ kcvOf (s.slot i).pend ≠ kcv then s.keyBegin 0x32 0x17
      else (s.promote i).keyBegin 0x32 0 := by
    simp only [State.keyPromote, head]
  rw [eq]
  refine ⟨fun waiting e => ?_, fun bad => ?_⟩
  · obtain ⟨slot, state, ptype, source, skcv, cleared, frame, only⟩ := s.promote_switches i
    obtain ⟨key', _, frame', only'⟩ := (s.promote i).keyBegin_done 0x32
    have info (g : Fld) (hg : g.key = K.KEY_SLOT_INFO i) := frame'.fld (f := g) (hg ▸ keyStatus_ne_info i)
    rw [if_neg (not_or.mpr ⟨by omega, not_not_intro e⟩), (only.comp only').confine _ (by decide)]
    refine ⟨?_, (info _ rfl).trans state, (info _ rfl).trans ptype, (info _ rfl).trans source, (info _ rfl).trans skcv,
      (frame' _ (keyStatus_ne_pend i)).trans cleared, congrArg (fun k => k.keyOp) key',
      frame.comp (frame'.mono (by simp [slotKeys])), only.comp only'⟩
    rw [State.slot, key']
    exact slot
  · obtain ⟨slots, op, _, frame, only⟩ := s.keyBegin_mismatch 0x32
    rw [if_pos bad, only.confine _ (by decide)]
    exact ⟨slots, op, frame⟩

theorem exec_keyErase_acts (hr : s.mcRuns = true) (hq : s.mgt.execQ = c :: rest) (hn : s.key.keyOp = none) (hop : c.opcode = 0x33) :
    ∃ t, exec .keyErase s = .next t ∧
      ∀ serial i type kdfId kcv wrapped, Config.keyBody 0x33 c.body = some (serial, i, type, kdfId, kcv, wrapped) → i < 512 →
        t.slot i = .empty ∧ t.reg (K.KEY_SLOT_INFO i) = 0 ∧ t.reg (K.KEY_SLOT_PEND i) = 0 ∧
        (∀ j, j ≠ i → t.slot j = s.slot j) ∧ t.key.keyOp = some (0x33, 0) ∧
        s.RegsBut t (slotKeys i) ∧ s.Only t [.regs, .key] := by
  refine ⟨_, exec_keyErase s hr, fun serial i type kdfId kcv wrapped hb _ => ?_⟩
  have head := State.keyHead_of hr hq hn (hop ▸ hb)
  rw [hop] at head
  have eq : s.keyErase = (s.eraseSlot i).keyBegin 0x33 0 := by simp only [State.keyErase, head]
  obtain ⟨slot, info, pend, others, frame, only⟩ := s.eraseSlot_empties i
  obtain ⟨key', _, frame', only'⟩ := (s.eraseSlot i).keyBegin_done 0x33
  rw [eq, (only.comp only').confine _ (by decide)]
  have slots (j : Nat) : ((s.eraseSlot i).keyBegin 0x33 0).slot j = (s.eraseSlot i).slot j := by rw [State.slot, key']; rfl
  exact ⟨(slots i).trans slot, (frame' _ (keyStatus_ne_info i)).trans info, (frame' _ (keyStatus_ne_pend i)).trans pend,
    fun j hj => (slots j).trans (others j hj), congrArg (fun k => k.keyOp) key', frame.comp (frame'.mono (by simp [slotKeys])),
    only.comp only'⟩

end

/-- Settles O44. Each key command that may start reads its body, changes the slot it names where its checks hold, and begins its
operation with the status its completion will have. -/
theorem keyCommandsActOnTheirSlot : Obligations.KeyCommandsActOnTheirSlot := by
  unfold Obligations.KeyCommandsActOnTheirSlot
  exact fun s c rest hr hq hn => ⟨exec_keyLoad_acts hr hq hn, exec_keyDerive_acts hr hq hn, exec_keyPromote_acts hr hq hn,
    exec_keyErase_acts hr hq hn⟩

end Sys2Proof.Machine
end

section /-! SUPPORT. What an event may change of the MC and of the key store: the journal, the events and the frames that carry them, and
the signature requests (spec/16, R472, R475). Operations of the packet buffer change no more of the two. -/
namespace Sys2Proof.Machine

/-- Of the MC and the key store no more than an event's own parts may differ. -/
def State.Noted (s t : State) : Prop :=
  t.mgt = { s.mgt with
    jrn := t.mgt.jrn, statements := t.mgt.statements, events := t.mgt.events, evSeq := t.mgt.evSeq
    mcLane := t.mgt.mcLane, mcWait := t.mgt.mcWait } ∧
  s.KeysKept t

section
variable {s t u : State}

theorem State.Noted.refl (s : State) : s.Noted s := ⟨rfl, rfl⟩

theorem State.Noted.comp (h : s.Noted t) (h' : t.Noted u) : s.Noted u :=
  ⟨h'.1.trans (by rw [h.1]), h.2.comp h'.2⟩

/-- What changes neither the MC nor the key store. -/
theorem State.noted_of (hm : t.mgt = s.mgt) (hk : t.key = s.key) : s.Noted t :=
  ⟨by rw [hm], State.keysKept_of_key hk⟩

theorem State.Journaled.noted (h : s.Journaled t) (hk : s.KeysKept t) : s.Noted t :=
  ⟨h.trans (by rw [h]), hk⟩

theorem State.Noted.keeps {α : Type} (h : s.Noted t) (g : MgtSt → α)
    (hg : ∀ m j st e q l w, g { m with jrn := j, statements := st, events := e, evSeq := q, mcLane := l, mcWait := w } = g m) :
    g t.mgt = g s.mgt := (congrArg g h.1).trans (hg _ _ _ _ _ _ _)

theorem State.Noted.execQ (h : s.Noted t) : t.mgt.execQ = s.mgt.execQ := h.keeps (fun m => m.execQ) (fun _ _ _ _ _ _ _ => rfl)

theorem State.Noted.respSpi (h : s.Noted t) : t.mgt.respSpi = s.mgt.respSpi := h.keeps (fun m => m.respSpi) (fun _ _ _ _ _ _ _ => rfl)

theorem State.Noted.mcFrames (h : s.Noted t) : t.mgt.mcFrames = s.mgt.mcFrames := h.keeps (fun m => m.mcFrames) (fun _ _ _ _ _ _ _ => rfl)

theorem State.Noted.cmdQ (h : s.Noted t) : t.mgt.cmdQ = s.mgt.cmdQ := h.keeps (fun m => m.cmdQ) (fun _ _ _ _ _ _ _ => rfl)

theorem State.Noted.inbox (h : s.Noted t) : t.mgt.inbox = s.mgt.inbox := h.keeps (fun m => m.inbox) (fun _ _ _ _ _ _ _ => rfl)

theorem State.Noted.wvLane (h : s.Noted t) : t.mgt.wvLane = s.mgt.wvLane := h.keeps (fun m => m.wvLane) (fun _ _ _ _ _ _ _ => rfl)

theorem State.Noted.drs (h : s.Noted t) : t.key.drs = s.key.drs := by
  have key : t.key = { s.key with signQ := t.key.signQ } := h.2
  rw [key]

theorem forEach_noted {α : Type} (f : α → State → State) (hf : ∀ x s, State.Noted s (f x s)) (l : List α) (s : State) :
    s.Noted (forEach l f s) := by
  induction l generalizing s with
  | nil => exact State.Noted.refl s
  | cons x r ih => exact (hf x s).comp (ih (f x s))

end

section
variable (s : State)

/-! ## Events -/

theorem State.appendGroup_noted (origin opcode cseq : Nat) (l : List (Nat × Nat × List Byte)) : s.Noted (s.appendGroup origin opcode cseq l) :=
  (s.appendGroup_journaled origin opcode cseq l).noted (s.appendGroup_keysKept origin opcode cseq l)

theorem State.mcSend_noted (f : LaneFrame) : s.Noted (s.mcSend f) := by
  unfold State.mcSend
  split <;> exact ⟨rfl, rfl⟩

theorem State.queueEvent_noted (c : Nat) (b : List Byte) : s.Noted (s.queueEvent c b) := by
  unfold State.queueEvent
  split
  · exact State.noted_of rfl rfl
  · have queued (e : EvMsg) (n : Nat) : s.Noted { s with mgt := { s.mgt with events := s.mgt.events ++ [e], evSeq := n } } := ⟨rfl, rfl⟩
    simp only
    split
    · exact (queued _ _).comp (State.mcSend_noted _ _)
    · exact queued _ _

theorem State.raise_noted (c : Nat) (d : List Byte) : s.Noted (s.raise c d) := by
  have entry := s.appendGroup_noted 255 c 0 [(5, 0, d)]
  have counted : (s.append 5 255 c 0 0 d).Noted ((s.append 5 255 c 0 0 d).inc (C.mgt 7)) := State.noted_of rfl rfl
  exact (entry.comp counted).comp (State.queueEvent_noted _ c (entryBody s.nextJseq 5 255 c 0 s.nowNs 0 d))

theorem State.raiseFlag_noted (f : Fld) (d : List Byte) : s.Noted (s.raiseFlag f d) := by
  unfold State.raiseFlag
  split
  · exact State.Noted.refl s
  · exact State.Noted.comp (t := s.setFld f 1) (State.noted_of rfl rfl) (State.raise_noted _ _ _)

theorem State.bufEvent_noted (c i : Nat) : s.Noted (s.bufEvent c i) := by
  unfold State.bufEvent
  split
  · exact State.noted_of rfl rfl
  · have logged (l : List Word) : s.Noted { s with bufLog := l } := State.noted_of rfl rfl
    exact (logged _).comp (State.raise_noted _ _ _)

theorem State.safEvent_noted (c d : Nat) : s.Noted (s.safEvent c d) := by
  have logged (l : List Word) : s.Noted { s.inc (C.saf 14) with safLog := l } := State.noted_of rfl rfl
  unfold State.safEvent
  simp only
  split
  · exact State.noted_of rfl rfl
  · exact (logged _).comp (State.raise_noted _ _ _)

/-! ## The packet buffer -/

theorem State.modFrame_noted (h : Nat) (g : Frame → Frame) : s.Noted (s.modFrame h g) := by
  unfold State.modFrame
  split <;> exact State.noted_of rfl rfl

theorem State.returnCell_noted (k : Nat) : s.Noted (s.returnCell k) := by
  unfold State.returnCell
  split <;> exact State.noted_of rfl rfl

theorem State.returnChain_noted (h : Nat) : s.Noted (s.returnChain h) := by
  unfold State.returnChain
  split
  · exact State.Noted.refl s
  · exact (forEach_noted _ (fun k s => s.returnCell_noted k) _ s).comp (State.noted_of rfl rfl)

theorem State.release_noted (h : Nat) : s.Noted (s.release h) := by
  have ends (u : State) (f : Frame) : u.Noted (if f.live then (u.setFrame h { f with ref := 0 }).returnChain h else
      { u.setFrame h { f with ref := 0 } with data := { (u.setFrame h { f with ref := 0 }).data with
        frames := mapErase h (u.setFrame h { f with ref := 0 }).data.frames
        infos := mapErase h (u.setFrame h { f with ref := 0 }).data.infos } }) := by
    split
    · exact (State.noted_of rfl rfl).comp (State.returnChain_noted _ h)
    · exact State.noted_of rfl rfl
  unfold State.release
  split
  · exact State.Noted.refl s
  split
  · exact s.bufEvent_noted 7 h
  split
  · cases (s.info h).credit with
    | none => exact ends s _
    | some c =>
      have credited : s.Noted (s.creditBack c.1 c.2) := State.noted_of rfl rfl
      exact credited.comp (ends (s.creditBack c.1 c.2) _)
  · exact State.noted_of rfl rfl

theorem State.markCell_noted (h k : Nat) : s.Noted (s.markCell h k) := by
  unfold State.markCell
  split
  · exact State.Noted.refl s
  · split
    · exact State.noted_of rfl rfl
    · exact State.Noted.refl s

theorem State.bufError_noted (h : Nat) (e : BufErr) : s.Noted (s.bufError h e) := by
  have safe : s.Noted ((s.inc (C.saf 2)).safEvent 0x11 h) :=
    (State.noted_of (s := s) (t := s.inc (C.saf 2)) rfl rfl).comp (State.safEvent_noted _ _ _)
  have found (u : State) (c i a : Nat) : u.Noted ((u.bufEvent c i).inc a) := (u.bufEvent_noted c i).comp (State.noted_of rfl rfl)
  cases e with
  | none => exact State.Noted.refl s
  | nodeList => exact State.Noted.refl s
  | cellData k => exact (safe.comp (found _ 1 _ _)).comp (State.markCell_noted _ _ _)
  | linkWord k => exact (safe.comp (found _ 2 _ _)).comp (State.modFrame_noted _ _ _)
  | descriptor => exact (safe.comp (found _ 3 _ _)).comp (State.modFrame_noted _ _ _)
  | mapWord w =>
    refine safe.comp (forEach_noted _ (fun k s => ?_) _ _)
    split
    · exact State.noted_of rfl rfl
    · exact State.Noted.refl _

theorem State.dmaError_noted (h : Option Nat) (e : BufErr) : s.Noted (s.dmaError h e) := by
  cases h with
  | none => exact State.noted_of rfl rfl
  | some h =>
    have released : s.Noted ((s.bufError h e).release h) := (s.bufError_noted h e).comp (State.release_noted _ h)
    exact released.comp (t := (s.bufError h e).release h) (State.noted_of rfl rfl)

end
end Sys2Proof.Machine
end
section /-! SUPPORT. What a DMA transfer that meets an uncorrectable error changes (spec/05, R162; spec/16, R470). -/
namespace Sys2Proof.Machine

/-- The parts that an error of the packet buffer changes. -/
def dmaParts : List Part := [.regs, .cnts, .bufLog, .safLog, .data, .mgt, .key]

/-- The counters of an error of the packet buffer and of its events. -/
def errorCounters : List Nat := C.saf 2 :: C.saf 14 :: C.buf 15 :: C.buf 16 :: eventCounters

/-- No more than an error of the packet buffer changes. -/
def State.ErrKept (s t : State) : Prop := s.Only t dmaParts ∧ s.RegsBut t bufKeys ∧ s.CntsBut t errorCounters

section
variable {s t u : State}

theorem State.ErrKept.refl (s : State) : s.ErrKept s := ⟨s.only_refl _, State.RegsBut.refl s _, State.CntsBut.refl s _⟩

theorem State.ErrKept.comp (h : s.ErrKept t) (h' : t.ErrKept u) : s.ErrKept u :=
  ⟨h.1.comp h'.1, h.2.1.comp h'.2.1, h.2.2.comp h'.2.2⟩

theorem State.BufKept.err (h : s.BufKept t) : s.ErrKept t :=
  ⟨h.1.mono _ (by decide), h.2.1, h.2.2.mono (by decide)⟩

theorem State.errKept_inc (s : State) {c : Nat} (hc : c ∈ errorCounters) : s.ErrKept (s.inc c) :=
  ⟨rfl, State.regsBut_of_regs rfl _, (s.cntsBut_inc c).mono (fun _ hk => List.mem_singleton.mp hk ▸ hc)⟩

theorem State.safEvent_errKept (s : State) (c d : Nat) : s.ErrKept (s.safEvent c d) := by
  have counted := s.errKept_inc (c := C.saf 14) (by decide)
  have logged (l : List Word) : (s.inc (C.saf 14)).ErrKept { s.inc (C.saf 14) with safLog := l } :=
    ⟨rfl, State.regsBut_of_regs rfl _, State.cntsBut_of_cnts rfl _⟩
  unfold State.safEvent
  simp only
  split
  · exact counted
  · exact (counted.comp (logged _)).comp (State.raise_holdKept _ _ _).1.err

theorem State.markCell_bufKept (s : State) (h k : Nat) : s.BufKept (s.markCell h k) := by
  unfold State.markCell
  split
  · exact .refl s
  · split
    · exact s.bufKept_data _
    · exact .refl s

theorem State.bufError_errKept (s : State) (h : Nat) (e : BufErr) : s.ErrKept (s.bufError h e) := by
  have safe : s.ErrKept ((s.inc (C.saf 2)).safEvent 0x11 h) := (s.errKept_inc (by decide)).comp (State.safEvent_errKept _ _ _)
  have found (u : State) (c i a : Nat) (ha : a ∈ errorCounters) : u.ErrKept ((u.bufEvent c i).inc a) :=
    (u.bufEvent_holdKept c i).1.err.comp (State.errKept_inc _ ha)
  cases e with
  | none => exact .refl s
  | nodeList => exact .refl s
  | cellData k => exact (safe.comp (found _ 1 _ _ (by decide))).comp (State.markCell_bufKept _ _ _).err
  | linkWord k => exact (safe.comp (found _ 2 _ _ (by decide))).comp (State.modFrame_holdKept _ _ _).1.err
  | descriptor => exact (safe.comp (found _ 3 _ _ (by decide))).comp (State.modFrame_holdKept _ _ _).1.err
  | mapWord w =>
    refine safe.comp (State.BufKept.err (forEach_bufKept _ (fun _ s => ?_) _ _))
    split
    · exact s.bufKept_data _
    · exact .refl s

/-- The discarded frame is counted, beside what the error itself changes. -/
theorem State.dmaError_frame (s : State) (h : Option Nat) (e : BufErr) :
    s.Only (s.dmaError h e) dmaParts ∧ s.RegsBut (s.dmaError h e) bufKeys ∧
      s.CntsBut (s.dmaError h e) (C.mgt 11 :: errorCounters) ∧ (s.dmaError h e).cnt (C.mgt 11) = s.cnt (C.mgt 11) + 1 := by
  have counted (u : State) (kept : s.ErrKept u) : s.Only (u.inc (C.mgt 11)) dmaParts ∧ s.RegsBut (u.inc (C.mgt 11)) bufKeys ∧
      s.CntsBut (u.inc (C.mgt 11)) (C.mgt 11 :: errorCounters) ∧ (u.inc (C.mgt 11)).cnt (C.mgt 11) = s.cnt (C.mgt 11) + 1 := by
    obtain ⟨only, regs, cnts⟩ := kept
    refine ⟨only.comp rfl, regs.after rfl, ?_, ?_⟩
    · exact (cnts.mono (fun k hk => List.mem_cons_of_mem _ hk)).comp ((u.cntsBut_inc _).mono (by decide))
    · rw [u.cnt_inc_same, cnts (C.mgt 11) (by decide)]
  cases h with
  | none => exact counted s (.refl s)
  | some h => exact counted ((s.bufError h e).release h) ((s.bufError_errKept h e).comp (State.release_holdKept _ h).1.err)

end
end Sys2Proof.Machine
end
section /-! SUPPORT. The answers of commands that came on MGT_SPI (spec/16, R459 and R470). -/
namespace Sys2Proof.Machine

section
variable {s t : State} {c : Cmd} {data : List Byte}

/-- What an answer reads of the unit: its keys, its life cycle and its role. -/
theorem State.spiAnswer_congr (hn : s.Noted t) {keys : List Nat} (hr : s.RegsBut t keys)
    (hk : ∀ k ∈ [K.DEVICE_SERIAL_LO, K.DEVICE_SERIAL_HI, K.LCS_STATUS, K.PAIR_CFG, K.PAIR_STATUS], k ∉ keys) (c : Cmd) (status : Nat) (data : List Byte) :
    t.spiAnswer c status data = s.spiAnswer c status data ∧ t.standby = s.standby := by
  have cfg := hr.fld (f := F.PAIR_CFG_MODE) (hk _ (by decide))
  have role := hr.fld (f := F.PAIR_STATUS_ROLE) (hk _ (by decide))
  have lc := hr.fld (f := F.LCS_STATUS_STATE) (hk _ (by decide))
  have lo := hr K.DEVICE_SERIAL_LO (hk _ (by decide))
  have hi := hr K.DEVICE_SERIAL_HI (hk _ (by decide))
  refine ⟨?_, ?_⟩
  · simp only [State.spiAnswer, State.cmdKeyOf, State.epochKey, State.serial, State.lcState, State.pair, hn.drs, lc, lo, hi]
  · simp only [State.standby, cfg, role]

theorem State.answer_spi (hc : c.chan = .spi) (hs : s.standby = false) (status : Nat) (hl : data.length ≤ 4100) :
    s.answer c status data = { s with mgt := { s.mgt with respSpi := s.mgt.respSpi ++ [s.spiAnswer c status data] } } := by
  have one : parts Chan.spi.room 254 data = [data] := if_pos hl
  simp only [State.answer, hs, one, Bool.false_eq_true, if_false, hc, State.respond]
  rfl

/-- A class D command of MGT_SPI ends: it leaves the execution queue, its COMPLETION entry is journaled, its answer waits to be read. -/
theorem State.endData_spi (hc : c.chan = .spi) (hs : s.standby = false) (hl : data.length ≤ 4100) :
    (s.endData c data).mgt.execQ = s.mgt.execQ.drop 1 ∧
    (s.endData c data).mgt.respSpi = s.mgt.respSpi ++ [s.spiAnswer c 1 data] ∧
    s.RegsBut (s.endData c data) journalKeys ∧ s.Only (s.endData c data) [.regs, .mgt, .key] ∧ (s.endData c data).mgt.mcFrames = s.mgt.mcFrames := by
  have noted : s.popExec.Noted (s.endCmd c 0 0) := s.popExec.appendGroup_noted _ _ _ _
  have regs : s.popExec.RegsBut (s.endCmd c 0 0) journalKeys := (s.endCmd_regsBut c 0 0).from rfl
  obtain ⟨same, role⟩ := State.spiAnswer_congr noted regs (by decide) c 1 data
  have answered : s.endData c data = _ := State.answer_spi hc (role.trans hs) 1 hl
  have only : s.Only (s.endData c data) [.regs, .mgt, .key] :=
    (s.endCmd_only c 0 0).comp ((State.answer_only _ c 1 data).mono _ (by decide))
  refine ⟨?_, ?_, s.endData_regsBut c data, only, ?_⟩
  · rw [answered]
    exact noted.execQ
  · rw [answered, same]
    exact congrArg (· ++ [s.spiAnswer c 1 data]) noted.respSpi
  · rw [answered]
    exact noted.mcFrames

end
end Sys2Proof.Machine
end

section /-! SUPPORT. Commands that read answer and end (spec/11, R328; spec/12, R350; spec/16, R461, R467, R470, R471, R477). -/
namespace Sys2Proof.Machine

section
variable {s : State} {c : Cmd} {rest : List Cmd} {data : List Byte}

/-- A command in hand that ends with an answer on MGT_SPI and does nothing else. -/
theorem exec_of_endData {i : Instr} {effect : State → State} (run : exec i s = .next (s.confine [.regs, .mgt, .key] (effect s)))
    (heff : effect s = s.endData c data) (hq : s.mgt.execQ = c :: rest) (hc : c.chan = .spi) (hs : s.standby = false)
    (hl : data.length ≤ 4100) :
    ∃ t, exec i s = .next t ∧ t.mgt.execQ = rest ∧ t.mgt.respSpi = s.mgt.respSpi ++ [s.spiAnswer c 1 data] ∧
      s.RegsBut t journalKeys ∧ s.Only t [.regs, .mgt, .key] := by
  obtain ⟨popped, answered, regs, only, _⟩ := State.endData_spi hc hs hl
  rw [heff, only.confine _ (by decide)] at run
  exact ⟨_, run, popped.trans (by rw [hq]; rfl), answered, regs, only⟩

theorem State.frameRead_empty (head : s.execHead 0x71 = some c) (hm : s.mgt.mcFrames = []) : s.frameRead = s.endData c [] := by
  simp only [State.frameRead, head, hm]

/-- The fence forgets the failure that it reports. -/
def State.fenceTaken (s : State) : State := { s with mgt := { s.mgt with fenceFail := 0, fenceTag := 0 } }

theorem State.writeFence_passes (head : s.execHead 0x104 = some c) (hp : s.mgt.posted.any (fun p => p.before c.tag) = false) :
    s.writeFence = s.fenceTaken.endData c (beBytes 2 s.mgt.fenceFail ++ beBytes 2 s.mgt.fenceTag) := by
  simp only [State.writeFence, head, hp, Bool.false_eq_true, if_false]
  rfl

theorem exec_reading (hr : s.mcRuns = true) (hq : s.mgt.execQ = c :: rest) (hc : c.chan = .spi) (hs : s.standby = false)
    (i : Instr) (op : Nat) (data : List Byte)
    (h : (i = .certRead ∧ op = 0x37 ∧
        data = (if beAt c.body 0 4 = 0 then s.key.cert else (s.key.statements[beAt c.body 0 4 - 1]?).getD [])) ∨
      (i = .ledgerRead ∧ op = 0x50 ∧
        data = ((List.range (beAt c.body 4 4)).filterMap (fun k => s.ldgAt (beAt c.body 0 4 + k))).flatMap id) ∨
      (i = .ledgerSigRead ∧ op = 0x51 ∧
        data = ((s.ldg.signatures.find? (fun x => x.2.1 == beAt c.body 0 4)).map (fun x => x.2.2)).getD []) ∨
      (i = .jrnRead ∧ op = 0x60 ∧ data = s.entriesFrom (beAt c.body 8 4) (beAt c.body 0 8)) ∨
      (i = .checkpointRead ∧ op = 0x62 ∧
        data = ((s.mgt.statements.find? (fun x => x.jseq == beAt c.body 0 8)).bind (fun x => x.signed)).getD []) ∨
      (i = .frameRead ∧ op = 0x71 ∧ s.mgt.mcFrames = [] ∧ data = []) ∨
      (i = .writeFence ∧ op = 0x104 ∧ s.mgt.posted.any (fun p => p.before c.tag) = false ∧
        data = beBytes 2 s.mgt.fenceFail ++ beBytes 2 s.mgt.fenceTag))
    (hop : c.opcode = op) (hl : data.length ≤ 4100) :
    ∃ t, exec i s = .next t ∧ t.mgt.execQ = rest ∧ t.mgt.respSpi = s.mgt.respSpi ++ [s.spiAnswer c 1 data] ∧
      s.RegsBut t journalKeys ∧ s.Only t [.regs, .mgt, .key] := by
  have head := State.execHead_of hr hq
  rw [hop] at head
  rcases h with ⟨rfl, rfl, e⟩ | ⟨rfl, rfl, e⟩ | ⟨rfl, rfl, e⟩ | ⟨rfl, rfl, e⟩ | ⟨rfl, rfl, e⟩ | ⟨rfl, rfl, hm, e⟩ | ⟨rfl, rfl, hp, e⟩
  · exact exec_of_endData (exec_certRead s hr) (by simp only [State.certRead, head, e]) hq hc hs hl
  · exact exec_of_endData (exec_ledgerRead s hr) (by simp only [State.ledgerRead, head, e]) hq hc hs hl
  · refine exec_of_endData (exec_ledgerSigRead s hr) ?_ hq hc hs hl
    simp only [State.ledgerSigRead, head, e]
    cases s.ldg.signatures.find? (fun x => x.2.1 == beAt c.body 0 4) <;> rfl
  · exact exec_of_endData (exec_jrnRead s hr) (by simp only [State.jrnRead, head, e]) hq hc hs hl
  · refine exec_of_endData (exec_checkpointRead s hr) ?_ hq hc hs hl
    simp only [State.checkpointRead, head, e]
    cases s.mgt.statements.find? (fun x => x.jseq == beAt c.body 0 8) <;> rfl
  · have run := exec_frameRead s hr
    obtain ⟨popped, answered, regs, only, _⟩ := State.endData_spi hc hs hl
    rw [State.frameRead_empty head hm, ← e, (only.mono dmaParts (by decide)).confine _ (by decide)] at run
    exact ⟨_, run, popped.trans (by rw [hq]; rfl), answered, regs, only⟩
  · have run := exec_writeFence s hr
    obtain ⟨popped, answered, regs, only, _⟩ := State.endData_spi (s := s.fenceTaken) hc hs hl
    have only' : s.Only (s.fenceTaken.endData c data) [.regs, .mgt, .key] := State.Only.comp (t := s.fenceTaken) rfl only
    rw [State.writeFence_passes head hp, ← e, only'.confine _ (by decide)] at run
    exact ⟨_, run, popped.trans (show s.mgt.execQ.drop 1 = rest by rw [hq]; rfl), answered, regs.from rfl, only'⟩

/-- What FRAME_READ answers with about a frame for the MC (R470). -/
def McFrame.shown (f : McFrame) : List Byte :=
  beBytes 1 f.port ++ beBytes 1 f.kind ++ beBytes 2 (withFcs f.bytes).length ++ beBytes 6 (secOf (f.stamp / fracPerNs)) ++
    beBytes 4 (nsOf (f.stamp / fracPerNs)) ++ [0, 0] ++ (withFcs f.bytes).take 1400

theorem beBytes_length (n x : Nat) : (beBytes n x).length = n := by
  simp [beBytes]

theorem McFrame.shown_length (f : McFrame) : f.shown.length ≤ 4100 := by
  simp only [McFrame.shown, List.length_append, beBytes_length, List.length_take, List.length_cons, List.length_nil]
  omega

/-- The frame is taken from those that wait for the MC. -/
def State.mcTaken (s : State) (r : List McFrame) : State := { s with mgt := { s.mgt with mcFrames := r } }

theorem State.frameRead_head {f : McFrame} {r : List McFrame} (head : s.execHead 0x71 = some c) (hm : s.mgt.mcFrames = f :: r) :
    s.frameRead = if stopsDma (s.dmaMeets f.head) then ((s.mcTaken r).dmaError f.head (s.dmaMeets f.head)).endCmd c 3 0
      else ((s.mcTaken r).releaseDma f.head).endData c f.shown := by
  simp only [State.frameRead, head, hm]
  rfl

theorem State.releaseDma_holdKept (u : State) (h : Option Nat) : u.HoldKept (u.releaseDma h) := by
  cases h with
  | none => exact .refl u
  | some h => exact u.release_holdKept h

theorem State.releaseDma_noted (u : State) (h : Option Nat) : u.Noted (u.releaseDma h) := by
  cases h with
  | none => exact .refl u
  | some h => exact u.release_noted h

/-- R470: the frame read leaves the frames that wait; an error of its transfer fails the command, otherwise it is the answer. -/
theorem exec_frameRead_reads {f : McFrame} {r : List McFrame} (hr : s.mcRuns = true) (hq : s.mgt.execQ = c :: rest)
    (hc : c.chan = .spi) (hs : s.standby = false) (hop : c.opcode = 0x71) (hm : s.mgt.mcFrames = f :: r) :
    ∃ t, exec .frameRead s = .next t ∧ t.mgt.mcFrames = r ∧ t.mgt.execQ = rest ∧
      s.Only t dmaParts ∧
      (stopsDma (s.dmaMeets f.head) = false → f.head = none → s.RegsBut t journalKeys ∧ s.Only t [.regs, .mgt, .key]) ∧
      (stopsDma (s.dmaMeets f.head) = true → t.mgt.respSpi = s.mgt.respSpi ∧ t.cnt (C.mgt 11) = s.cnt (C.mgt 11) + 1) ∧
      (stopsDma (s.dmaMeets f.head) = false → t.mgt.respSpi = s.mgt.respSpi ++ [s.spiAnswer c 1 f.shown]) := by
  have run := exec_frameRead s hr
  have head := State.execHead_of hr hq
  rw [hop] at head
  rw [State.frameRead_head head hm] at run
  have taken : s.Only (s.mcTaken r) dmaParts := rfl
  have queue : (s.mcTaken r).mgt.execQ.drop 1 = rest := show s.mgt.execQ.drop 1 = rest by rw [hq]; rfl
  cases he : stopsDma (s.dmaMeets f.head)
  case true =>
    let u := (s.mcTaken r).dmaError f.head (s.dmaMeets f.head)
    obtain ⟨uOnly, _, _, count⟩ := (s.mcTaken r).dmaError_frame f.head (s.dmaMeets f.head)
    have noted := (s.mcTaken r).dmaError_noted f.head (s.dmaMeets f.head)
    have ended : u.popExec.Noted (u.endCmd c 3 0) := u.popExec.appendGroup_noted _ _ _ _
    have only : s.Only (u.endCmd c 3 0) dmaParts := (taken.comp uOnly).comp ((u.endCmd_only c 3 0).mono _ (by decide))
    rw [he, if_pos rfl, only.confine _ (by decide)] at run
    exact ⟨_, run, ended.mcFrames.trans noted.mcFrames, ended.execQ.trans ((congrArg (List.drop 1) noted.execQ).trans queue), only,
      (by simp), fun _ => ⟨ended.respSpi.trans noted.respSpi, (State.cnt_congr (u.endCmd_cnts c 3 0) _).trans count⟩, (by simp)⟩
  case false =>
    let u := (s.mcTaken r).releaseDma f.head
    have kept := (s.mcTaken r).releaseDma_holdKept f.head
    have noted := (s.mcTaken r).releaseDma_noted f.head
    obtain ⟨same, role⟩ := State.spiAnswer_congr noted kept.1.2.1 (by decide) c 1 f.shown
    obtain ⟨popped, answered, regs, only, frames⟩ := State.endData_spi (s := u) hc (role.trans hs) f.shown_length
    have whole : s.Only (u.endData c f.shown) dmaParts :=
      (taken.comp (kept.1.1.mono _ (by decide))).comp (only.mono _ (by decide))
    rw [he, if_neg (by simp), whole.confine _ (by decide)] at run
    refine ⟨_, run, frames.trans noted.mcFrames, popped.trans ((congrArg (List.drop 1) noted.execQ).trans queue), whole,
      fun _ none' => ?_, (by simp), fun _ => ?_⟩
    · have u_eq : u = s.mcTaken r := by simp only [u, none']; rfl
      rw [u_eq] at regs only ⊢
      exact ⟨regs.from rfl, State.Only.comp (t := s.mcTaken r) rfl only⟩
    · rw [answered, same, noted.respSpi]
      rfl

end

/-- Settles O46. A reading command is an answer on its channel and its end; FRAME_READ takes the frame and its hold beside. -/
theorem readingCommandsAnswerAndEnd : Obligations.ReadingCommandsAnswerAndEnd := by
  unfold Obligations.ReadingCommandsAnswerAndEnd
  intro s c rest hr hq hc hs
  refine ⟨exec_reading hr hq hc hs, fun hop f r err hm herr => ?_⟩
  subst herr
  exact exec_frameRead_reads hr hq hc hs hop hm

end Sys2Proof.Machine
end

section /-! SUPPORT. Commands whose change of time is no step: what follows them is the pulse outputs alone (spec/07, R229). -/
namespace Sys2Proof.Machine

/-- A change that does not step network time is followed by the pulse outputs alone. -/
theorem State.settled_quiet {s x : State} {f : State → State} {l : List Part} (hx : f s.unstepped = x) (step : x.time.stepped = false)
    (ho : s.unstepped.Only x l) (ht : [Part.time, .out].all (fun p => l.any (fun q => decide (q = p))) = true) :
    s.settled f = x.ppsAll ∧ s.Only x.ppsAll l := by
  have time : [Part.time].all (fun p => l.any (fun q => decide (q = p))) = true := by
    simp only [List.all_cons, List.all_nil, Bool.and_true, Bool.and_eq_true] at ht ⊢
    exact ht.1
  refine ⟨?_, ((s.unstepped_only.mono l time).comp ho).comp (x.ppsAll_only.mono l ht)⟩
  rw [← x.settleTime_plain step, ← hx]
  rfl

end Sys2Proof.Machine
end
section /-! SUPPORT. Commands on stored images, firmware, records and frames (spec/02, R54, R65; spec/11, R331; spec/16). -/
namespace Sys2Proof.Machine

section
variable {s : State} {c : Cmd} {rest : List Cmd}

/-- A change of the stored images with the end of its command. -/
theorem State.endCmd_stored {u : State} (hu : s.Only u [.boot]) (hq : s.mgt.execQ = c :: rest) (status : Nat) :
    (u.endCmd c status 0).mgt.execQ = rest ∧ s.RegsBut (u.endCmd c status 0) journalKeys ∧
    (u.endCmd c status 0).boot = u.boot ∧ s.Only (u.endCmd c status 0) [.regs, .mgt, .key, .boot] := by
  have ended : u.popExec.Noted (u.endCmd c status 0) := u.popExec.appendGroup_noted _ _ _ _
  have queue : u.mgt = s.mgt := hu.keeps State.mgt rfl
  have only := u.endCmd_only c status 0
  refine ⟨ended.execQ.trans ?_, (u.endCmd_regsBut c status 0).from (hu.keeps State.regs rfl), only.keeps State.boot rfl,
    (hu.mono _ (by decide)).comp (only.mono _ (by decide))⟩
  show u.mgt.execQ.drop 1 = rest
  rw [queue, hq]
  rfl

/-- An answer changes of the MC no more than what carries it. -/
theorem State.answer_keeps {α : Type} (s : State) (c : Cmd) (status : Nat) (data : List Byte) (g : MgtSt → α)
    (spi : ∀ m r, g { m with respSpi := r } = g m) (lane : ∀ m l, g { m with mcLane := l } = g m)
    (wait : ∀ m l, g { m with mcWait := l } = g m) : g (s.answer c status data).mgt = g s.mgt := by
  have sent (u : State) (f : LaneFrame) : g (u.mcSend f).mgt = g u.mgt := by
    unfold State.mcSend
    split
    · exact lane _ _
    · exact wait _ _
  have responded (u : State) (msg : List Byte) : g (u.respond c.chan msg).mgt = g u.mgt := by
    unfold State.respond
    split
    · exact spi _ _
    · exact sent _ _
  have same (u : State) : (s.confine [.mgt] u).mgt = u.mgt := rfl
  unfold State.answer
  rw [same]
  split
  · rfl
  · exact forEach_part _ _ (fun s : State => g s.mgt) (fun _ _ => responded _ _) s

theorem State.answer_execQ (s : State) (c : Cmd) (status : Nat) (data : List Byte) : (s.answer c status data).mgt.execQ = s.mgt.execQ :=
  s.answer_keeps c status data (fun m => m.execQ) (fun _ _ => rfl) (fun _ _ => rfl) (fun _ _ => rfl)

theorem State.slotBytes_setSlotBytes {n k : Nat} (hn : n < 2) (hk : k < 2) (b : List Byte) :
    (s.setSlotBytes k b).slotBytes n = if n = k then b else s.slotBytes n := by
  interval_cases n <;> interval_cases k <;> rfl

theorem exec_imageErase_erases (hr : s.mcRuns = true) (hq : s.mgt.execQ = c :: rest) (hop : c.opcode = 0x20) :
    ∃ t, exec .imageErase s = .next t ∧ t.mgt.execQ = rest ∧ s.RegsBut t journalKeys ∧
      (∀ n, n < 2 → beAt c.body 0 4 < 2 → t.slotBytes n = if n = beAt c.body 0 4 then [] else s.slotBytes n) ∧
      s.Only t [.regs, .mgt, .key, .boot] := by
  have run := exec_imageErase s hr
  have head := State.execHead_of hr hq
  rw [hop] at head
  have effect : s.imageErase = (s.setSlotBytes (beAt c.body 0 4) []).endCmd c 0 0 := by simp only [State.imageErase, head]
  obtain ⟨queue, regs, boot, only⟩ := State.endCmd_stored (u := s.setSlotBytes (beAt c.body 0 4) []) rfl hq 0
  rw [effect, only.confine _ (by decide)] at run
  refine ⟨_, run, queue, regs, fun n hn hk => ?_, only⟩
  rw [← State.slotBytes_setSlotBytes hn hk, State.slotBytes, boot]
  rfl

theorem exec_imageWrite_writes (hr : s.mcRuns = true) (hq : s.mgt.execQ = c :: rest) (hop : c.opcode = 0x21) :
    ∃ t, exec .imageWrite s = .next t ∧ t.mgt.execQ = rest ∧ s.RegsBut t journalKeys ∧
      (∀ n, n < 2 → beAt c.body 0 1 < 2 → t.slotBytes n = if n = beAt c.body 0 1
        then spliceBytes (s.slotBytes n) (beAt c.body 4 4) (c.body.drop 8) else s.slotBytes n) ∧
      s.Only t [.regs, .mgt, .key, .boot] := by
  have run := exec_imageWrite s hr
  have head := State.execHead_of hr hq
  rw [hop] at head
  let b := spliceBytes (s.slotBytes (beAt c.body 0 1)) (beAt c.body 4 4) (c.body.drop 8)
  have effect : s.imageWrite = (s.setSlotBytes (beAt c.body 0 1) b).endCmd c 0 0 := by simp only [State.imageWrite, head, b]
  obtain ⟨queue, regs, boot, only⟩ := State.endCmd_stored (u := s.setSlotBytes (beAt c.body 0 1) b) rfl hq 0
  rw [effect, only.confine _ (by decide)] at run
  refine ⟨_, run, queue, regs, fun n hn hk => ?_, only⟩
  have stored : ((s.setSlotBytes (beAt c.body 0 1) b).endCmd c 0 0).slotBytes n = (s.setSlotBytes (beAt c.body 0 1) b).slotBytes n := by
    rw [State.slotBytes, boot]
    rfl
  rw [stored, State.slotBytes_setSlotBytes hn hk]
  by_cases hnk : n = beAt c.body 0 1
  · rw [if_pos hnk, if_pos hnk, hnk]
  · rw [if_neg hnk, if_neg hnk]

/-- The status and the version that IMAGE_VERIFY answers with. -/
def State.verifyData (s : State) (nvm : Bool) (b : List Byte) : List Byte :=
  if nvm = false then beBytes 4 0x10 ++ beBytes 4 0
  else if headerOk (s.fld F.GLB_ID_REVISION) b = false then beBytes 4 0x11 ++ beBytes 4 (beAt b 16 4)
  else if mapGet (fun _ => []) s.key.imgHash s.lcState ≠ sha256 (blockKey b) then beBytes 4 0x21 ++ beBytes 4 (beAt b 16 4)
  else if blockGood b = false then beBytes 4 0x20 ++ beBytes 4 (beAt b 16 4)
  else beBytes 4 (s.checkImage b true false).1 ++ beBytes 4 (beAt b 16 4)

theorem State.checkImage_head (b : List Byte) (h : s.checkHead b false ≠ 0) : s.checkImage b true false = (s.checkHead b false, 0) := by
  simp [State.checkImage, h]

/-- R54: the first check that fails is the one that is answered. -/
theorem State.verifyData_first (nvm : Bool) (b : List Byte) :
    beBytes 4 (s.checkImage b nvm false).1 ++ beBytes 4 (if nvm then beAt b 16 4 else 0) = s.verifyData nvm b := by
  cases nvm with
  | false => rfl
  | true =>
    unfold State.verifyData
    rw [if_pos rfl, if_neg (show ¬ true = false by decide)]
    by_cases h1 : headerOk (s.fld F.GLB_ID_REVISION) b = false
    · have first : s.checkHead b false = 0x11 := by simp [State.checkHead, h1]
      rw [if_pos h1, State.checkImage_head b (by rw [first]; decide), first]
    rw [if_neg h1]
    by_cases h2 : mapGet (fun _ => []) s.key.imgHash s.lcState ≠ sha256 (blockKey b)
    · have first : s.checkHead b false = 0x21 := by simp [State.checkHead, h1, h2]
      rw [if_pos h2, State.checkImage_head b (by rw [first]; decide), first]
    rw [if_neg h2]
    by_cases h3 : blockGood b = false
    · have first : s.checkHead b false = 0x20 := by simp [State.checkHead, h1, not_not.mp h2, h3]
      rw [if_pos h3, State.checkImage_head b (by rw [first]; decide), first]
    rw [if_neg h3]

theorem State.verifyData_length (nvm : Bool) (b : List Byte) : (s.verifyData nvm b).length ≤ 4100 := by
  rw [← State.verifyData_first, List.length_append, beBytes_length, beBytes_length]
  decide

theorem exec_imageVerify_answers (hr : s.mcRuns = true) (hq : s.mgt.execQ = c :: rest) (hop : c.opcode = 0x22) (nvm : Bool) :
    ∃ t, exec (.imageVerify nvm) s = .next t ∧ t.mgt.execQ = rest ∧ s.RegsBut t journalKeys ∧ s.Only t [.regs, .mgt, .key] ∧
      (c.chan = .spi → s.standby = false → ∀ b, b = imageOf (s.slotBytes (beAt c.body 0 4)) →
        t.mgt.respSpi = s.mgt.respSpi ++ [s.spiAnswer c 1 (s.verifyData nvm b)]) := by
  have run := exec_imageVerify s nvm hr
  have head := State.execHead_of hr hq
  rw [hop] at head
  let data := s.verifyData nvm (imageOf (s.slotBytes (beAt c.body 0 4)))
  have effect : s.imageVerify nvm = s.endData c data := by
    simp only [State.imageVerify, head]
    rw [State.verifyData_first]
  have only : s.Only (s.endData c data) [.regs, .mgt, .key] := (s.endCmd_only c 0 0).comp ((State.answer_only _ c 1 data).mono _ (by decide))
  rw [effect, only.confine _ (by decide)] at run
  have ended : s.popExec.Noted (s.endCmd c 0 0) := s.popExec.appendGroup_noted _ _ _ _
  have queue : (s.endData c data).mgt.execQ = rest :=
    ((s.endCmd c 0 0).answer_execQ c 1 data).trans (ended.execQ.trans (show s.mgt.execQ.drop 1 = rest by rw [hq]; rfl))
  refine ⟨_, run, queue, s.endData_regsBut c data, only, fun hc hs b hb => ?_⟩
  obtain ⟨_, answered, _, _, _⟩ := State.endData_spi (data := data) hc hs (State.verifyData_length nvm _)
  rw [hb]
  exact answered

theorem exec_imageActivate_chooses (hr : s.mcRuns = true) (hq : s.mgt.execQ = c :: rest) (hop : c.opcode = 0x23)
    (hst : s.fld F.BOOT_STATUS_STATE = 0xB) (hb : beAt c.body 0 4 < 2) {env : StartEnv} (he : startOk env = true) :
    ∃ t, exec (.imageActivate env) s = .next t ∧ t.fld F.BOOT_PREF_SLOT = beAt c.body 0 4 ∧
      t.mgt.execQ = rest ∧ s.RegsBut t (K.BOOT_PREF :: journalKeys) ∧ s.Only t [.regs, .mgt, .key] := by
  have run := exec_imageActivate s env he hr
  have head := State.execHead_of hr hq
  rw [hop] at head
  let u := s.setFld F.BOOT_PREF_SLOT (beAt c.body 0 4)
  have effect : s.imageActivate env = u.endCmd c 0 0 := by
    simp only [State.imageActivate, head, hst]
    rfl
  have only : s.Only (u.endCmd c 0 0) [.regs, .mgt, .key] := State.Only.comp (t := u) rfl (u.endCmd_only c 0 0)
  have ended : u.popExec.Noted (u.endCmd c 0 0) := u.popExec.appendGroup_noted _ _ _ _
  rw [effect, only.confine _ (by decide)] at run
  refine ⟨_, run, ?_, ended.execQ.trans (show s.mgt.execQ.drop 1 = rest by rw [hq]; rfl), ?_, only⟩
  · rw [(u.endCmd_regsBut c 0 0).fld (by decide)]
    exact (s.fld_setFld_same F.BOOT_PREF_SLOT _ (by decide) (by decide)).trans (Nat.mod_eq_of_lt hb)
  · exact ((s.regsBut_setFld F.BOOT_PREF_SLOT _).mono (by decide)).comp ((u.endCmd_regsBut c 0 0).mono (by decide))

/-- The firmware copy that FIRMWARE_WRITE writes: the one not running, or copy A in FW_BAD (R65). -/
def State.firmwarePut (s : State) (body : List Byte) : State :=
  { s with boot := if s.fld F.BOOT_STATUS_STATE = 0xD ∨ s.flag F.FW_STATUS_COPY = true
      then { s.boot with fwA := spliceBytes s.boot.fwA (beAt body 0 4) (body.drop 4) }
      else { s.boot with fwB := spliceBytes s.boot.fwB (beAt body 0 4) (body.drop 4) } }

theorem exec_firmwareWrite_writes (hr : s.mcRuns = true) (hq : s.mgt.execQ = c :: rest) (hop : c.opcode = 0x24) :
    ∃ t, exec .firmwareWrite s = .next t ∧ s.Only t [.regs, .mgt, .key, .boot] ∧ t.mgt.execQ = rest ∧
      t.boot = (s.firmwarePut c.body).boot ∧ s.RegsBut t journalKeys := by
  have run := exec_firmwareWrite s hr
  have head := State.execHead_of hr hq
  rw [hop] at head
  have effect : s.firmwareWrite = (s.firmwarePut c.body).endCmd c 0 0 := by
    simp only [State.firmwareWrite, head, Bool.or_eq_true, beq_iff_eq]
    rfl
  obtain ⟨queue, regs, boot, only⟩ := State.endCmd_stored (u := s.firmwarePut c.body) rfl hq 0
  rw [effect, only.confine _ (by decide)] at run
  exact ⟨_, run, only, queue, boot, regs⟩

/-! ## RECORD_APPLY -/

theorem State.recordApply_waits (head : s.execHead 0x40 = some c) (ho : s.ownOutstanding = true) : s.recordApply = s := by
  simp only [State.recordApply, head, ho, if_true]

theorem State.recordApply_foreign {r : Rec} (head : s.execHead 0x40 = some c) (ho : s.ownOutstanding = false)
    (hr : applyRec c.body = some r) (hf : (r.known && r.forUnit s.unitId) = false) : s.recordApply = s.endCmd c 0 0 := by
  simp only [State.recordApply, head, ho, hr, hf, Bool.false_eq_true, if_false]

theorem State.recordApply_applies {r : Rec} (head : s.execHead 0x40 = some c) (ho : s.ownOutstanding = false)
    (hr : applyRec c.body = some r) (hf : (r.known && r.forUnit s.unitId) = true) :
    s.recordApply = (s.translate true r.number r.words).endCmd c 0 0 := by
  simp only [State.recordApply, head, ho, hr, hf, Bool.false_eq_true, if_false, if_true]

/-- The parts that RECORD_APPLY may change. -/
def recordParts : List Part := [.regs, .cnts, .heldLo, .held, .fresh, .bufLog, .nmLog, .data, .ports, .time, .mgt, .edge, .nm, .wvr,
  .ldg, .twin, .key, .saf, .boot, .out]

/-- RECORD_APPLY whose effect is the end of the command after a change of registers. -/
theorem exec_recordApply_ends (hr : s.mcRuns = true) (hq : s.mgt.execQ = c :: rest) {u : State} (hu : s.unstepped.Only u [.regs])
    (effect : s.unstepped.recordApply = u.endCmd c 0 0) :
    exec .recordApply s = .next (u.endCmd c 0 0).ppsAll ∧ (u.endCmd c 0 0).ppsAll.mgt.execQ = rest ∧
      (u.endCmd c 0 0).ppsAll.regs = (u.endCmd c 0 0).regs ∧ s.Only (u.endCmd c 0 0).ppsAll [.regs, .time, .mgt, .key, .out] := by
  have run := exec_recordApply s hr
  have ends := u.endCmd_only c 0 0
  have only : s.unstepped.Only (u.endCmd c 0 0) [.regs, .time, .mgt, .key, .out] :=
    (hu.mono _ (by decide)).comp (ends.mono _ (by decide))
  have step : (u.endCmd c 0 0).time.stepped = false :=
    (ends.keeps (fun s => s.time.stepped) rfl).trans (hu.keeps (fun s => s.time.stepped) rfl)
  obtain ⟨settled, whole⟩ := State.settled_quiet (f := fun s => s.recordApply) effect step only (by decide)
  have pulses := (u.endCmd c 0 0).ppsAll_only
  have ended : u.popExec.Noted (u.endCmd c 0 0) := u.popExec.appendGroup_noted _ _ _ _
  have queue : u.mgt = s.mgt := hu.keeps State.mgt rfl
  rw [settled, whole.confine _ (by decide)] at run
  refine ⟨run, ?_, pulses.keeps State.regs rfl, whole⟩
  rw [pulses.keeps State.mgt rfl, ended.execQ]
  show u.mgt.execQ.drop 1 = rest
  rw [queue, hq]
  rfl

theorem exec_recordApply_acts (hr : s.mcRuns = true) (hq : s.mgt.execQ = c :: rest) (hop : c.opcode = 0x40) :
    (s.ownOutstanding = true → ∃ t, exec .recordApply s = .next t ∧ t.mgt = s.mgt ∧ s.RegsBut t [] ∧ s.Only t [.time, .out]) ∧
    (s.ownOutstanding = false → ∀ r, applyRec c.body = some r →
      ((r.known && r.forUnit s.unitId) = false →
        ∃ t, exec .recordApply s = .next t ∧ t.mgt.execQ = rest ∧ s.RegsBut t journalKeys ∧ t.data = s.data ∧ t.ldg = s.ldg) ∧
      (r.number = 0x800 → (r.known && r.forUnit s.unitId) = true →
        ∃ t, exec .recordApply s = .next t ∧ t.mgt.execQ = rest ∧ t.ldg = s.ldg ∧
          t.fld F.LDG_CFG_PERIOD_S = orElse (bits (wd r.words 0) 31 20) 60 ∧
          t.fld F.LDG_CFG_STALE_MS = orElse (bits (wd r.words 0) 19 8) 200 ∧
          s.RegsBut t (K.LDG_CFG :: journalKeys))) := by
  have head : s.unstepped.execHead 0x40 = some c := hop ▸ State.execHead_of (s := s.unstepped) hr hq
  refine ⟨fun ho => ?_, fun ho r hrec => ⟨fun hf => ?_, fun hn hf => ?_⟩⟩
  · have run := exec_recordApply s hr
    obtain ⟨settled, whole⟩ := State.settled_quiet (f := fun s => s.recordApply) (l := [.time, .out])
      (State.recordApply_waits head ho) rfl (s.unstepped.only_refl _) (by decide)
    rw [settled, whole.confine _ (by decide)] at run
    exact ⟨_, run, whole.keeps State.mgt rfl, State.regsBut_of_regs (whole.keeps State.regs rfl) _, whole⟩
  · obtain ⟨run, queue, regs, whole⟩ := exec_recordApply_ends hr hq (s.unstepped.only_refl _)
      (State.recordApply_foreign head ho hrec hf)
    exact ⟨_, run, queue, ((s.unstepped.endCmd_regsBut c 0 0).from rfl).after regs, whole.keeps State.data rfl, whole.keeps State.ldg rfl⟩
  · have effect := State.recordApply_applies head ho hrec hf
    rw [hn] at effect
    obtain ⟨run, queue, regs, whole⟩ := exec_recordApply_ends hr hq (u := s.unstepped.trLedger r.words) rfl effect
    have ends := (s.unstepped.trLedger r.words).endCmd_regsBut c 0 0
    have stored (v hi lo d : Nat) (hd : d < 2 ^ 12) (hw : hi - lo + 1 = 12) : orElse (bits v hi lo) d < 2 ^ 12 := by
      unfold orElse
      split
      · exact hd
      · unfold bits
        rw [hw]
        exact Nat.mod_lt _ (by decide)
    refine ⟨_, run, queue, whole.keeps State.ldg rfl, ?_, ?_, ?_⟩
    · rw [State.fld_of_reg (State.reg_congr regs _), ends.fld (by decide)]
      exact (s.unstepped.fld_setFlds_at [] _ F.LDG_CFG_PERIOD_S _ (by decide) (by decide) rfl).trans
        (Nat.mod_eq_of_lt (stored _ _ _ _ (by decide) rfl))
    · rw [State.fld_of_reg (State.reg_congr regs _), ends.fld (by decide)]
      exact (s.unstepped.fld_setFlds_at [(F.LDG_CFG_PERIOD_S, _)] _ F.LDG_CFG_STALE_MS _ (by decide) (by decide) rfl).trans
        (Nat.mod_eq_of_lt (stored _ _ _ _ (by decide) rfl))
    · have ledger : s.unstepped.RegsBut (s.unstepped.trLedger r.words) (K.LDG_CFG :: journalKeys) :=
        s.unstepped.regsBut_setFlds_keys rfl
      exact ((ledger.from rfl).comp (ends.mono (fun _ hk => List.mem_cons_of_mem _ hk))).after regs

/-! ## CHECKPOINT and FRAME_SEND -/

theorem beAt_append {l : List Byte} {at_ : Nat} (h : l.length = at_) (m r : List Byte) {n : Nat} (hm : m.length = n) :
    beAt (l ++ (m ++ r)) at_ n = beNat m := by
  subst h hm
  simp [beAt, slice]

theorem entryBody_kind (jseq kind origin opcode cseq timeNs part : Nat) (data : List Byte) (hk : kind < 256) :
    beAt (entryBody jseq kind origin opcode cseq timeNs part data) 8 1 = kind := by
  simp only [entryBody, List.append_assoc]
  rw [beAt_append (beBytes_length 8 jseq) (beBytes 1 kind) _ (beBytes_length 1 kind)]
  simp [beBytes, beNat]
  omega

/-- The entry that a checkpoint appends. -/
def State.checkpointEntry (s : State) (origin opcode cseq : Nat) : JEntry :=
  let body := entryBody s.nextJseq 7 origin opcode cseq s.nowNs 0 (beBytes 4 s.signPosition)
  ⟨s.nextJseq, body, chainOf s.lastChain body⟩

theorem State.checkpoint_eq (origin opcode cseq : Nat) :
    s.checkpoint origin opcode cseq = (s.putEntry (s.checkpointEntry origin opcode cseq)).putStatement (s.checkpointEntry origin opcode cseq) :=
  rfl

theorem State.requestSign_mem (k : Nat) (w : SignFor) (p : List Byte) : ⟨k, w, p, s.cycle / 2⟩ ∈ (s.requestSign k w p).key.signQ := by
  simp [State.requestSign]

/-- A statement that is to be signed: the journal stays, its signature is requested, and waits where the key is not ready. -/
theorem State.putStatement_asks (e : JEntry) : (s.putStatement e).mgt.jrn = s.mgt.jrn ∧
    (∃ r, r ∈ (s.putStatement e).key.signQ ∧ r.key = 1 ∧ r.what = .checkpoint e.jseq) ∧
    (s.flag (F.LMS_STATUS_READY 1) = false → (s.putStatement e).flag F.JRN_STATUS_SIGN_WAIT = true) := by
  let u : State := ({ s with mgt := { s.mgt with statements := (s.statementOf e :: s.mgt.statements).take 64 } } : State).setPair
    K.JRN_CP_LO K.JRN_CP_HI e.jseq
  let v := u.requestSign 1 (.checkpoint e.jseq) (s.statementOf e).payload
  have eq : s.putStatement e = if v.flag (F.LMS_STATUS_READY 1) then v else v.setFld F.JRN_STATUS_SIGN_WAIT 1 := rfl
  have asked : ∃ r, r ∈ v.key.signQ ∧ r.key = 1 ∧ r.what = .checkpoint e.jseq := ⟨_, u.requestSign_mem _ _ _, rfl, rfl⟩
  have ready : v.flag (F.LMS_STATUS_READY 1) = s.flag (F.LMS_STATUS_READY 1) :=
    (State.RegsBut.from (State.regsBut_setPair _ K.JRN_CP_LO K.JRN_CP_HI e.jseq) rfl : s.RegsBut u _).flag (by decide)
  rw [eq, ready]
  split
  next h => exact ⟨rfl, asked, by simp [h]⟩
  next h => exact ⟨rfl, asked, fun _ => (v.flag_setFld_same F.JRN_STATUS_SIGN_WAIT 1 rfl (by decide)).trans rfl⟩

theorem exec_checkpoint_asks (hr : s.mcRuns = true) (hq : s.mgt.execQ = c :: rest) (hop : c.opcode = 0x61)
    (hj : s.journalHeld = false) (hw : s.mgt.cpWait = none) :
    ∃ t e, exec .checkpoint s = .next t ∧ t.mgt.jrn.head? = some e ∧ e.jseq = s.nextJseq ∧ beAt e.body 8 1 = 7 ∧
      t.mgt.cpWait = some e.jseq ∧ t.mgt.execQ = s.mgt.execQ ∧
      (∃ r, r ∈ t.key.signQ ∧ r.key = 1 ∧ r.what = .checkpoint e.jseq) ∧
      (s.flag (F.LMS_STATUS_READY 1) = false → t.flag F.JRN_STATUS_SIGN_WAIT = true) ∧ s.RegsBut t journalKeys ∧
      s.Only t [.regs, .mgt, .key] := by
  have run := exec_checkpoint s hr
  have head := State.execHead_of hr hq
  rw [hop] at head
  let e := s.checkpointEntry c.origin c.opcode c.seq
  let u := s.checkpoint c.origin c.opcode c.seq
  have effect : s.checkpointCmd = { u with mgt := { u.mgt with cpWait := some (u.nextJseq - 1) } } := by
    simp only [State.checkpointCmd, head, hj, hw, Bool.false_eq_true, if_false, Option.isSome_none]
    rfl
  have noted : s.Noted u := (s.checkpoint_journaled _ _ _).noted (s.checkpoint_keysKept _ _ _)
  obtain ⟨journal, asked, waits⟩ := (s.putEntry e).putStatement_asks e
  have ring : u.mgt.jrn = e :: s.mgt.jrn.take 65535 := journal
  have next : u.nextJseq - 1 = e.jseq := by
    rw [State.nextJseq, ring]
    rfl
  have only : s.Only { u with mgt := { u.mgt with cpWait := some (u.nextJseq - 1) } } [.regs, .mgt, .key] :=
    (s.checkpoint_only c.origin c.opcode c.seq).comp rfl
  have ready : (s.putEntry e).flag (F.LMS_STATUS_READY 1) = s.flag (F.LMS_STATUS_READY 1) := (s.putEntry_regsBut e).flag (by decide)
  rw [effect, only.confine _ (by decide)] at run
  exact ⟨_, e, run, (congrArg List.head? ring).trans rfl, rfl, entryBody_kind _ 7 _ _ _ _ _ _ (by decide), congrArg some next,
    noted.execQ, asked, fun h => waits (ready.trans h), (s.checkpoint_regsBut _ _ _).after rfl, only⟩

/-- The frame that FRAME_SEND gives to the MC's lane. -/
def State.sentFrame (s : State) (body : List Byte) : LaneFrame :=
  let w := beAt body 0 4
  ⟨body.drop 16, ⟨if w.testBit 28 then bits w 27 24 else s.mgtZone, none,
    if w.testBit 23 then some (beAt body 4 6 * 1000000000 + beAt body 10 4) else none⟩⟩

theorem exec_frameSend_sends (hr : s.mcRuns = true) (hq : s.mgt.execQ = c :: rest) (hop : c.opcode = 0x70) :
    (s.mgt.mcLane.length < 64 → ∃ t f, exec .frameSend s = .next t ∧ s.Only t [.regs, .cnts, .mgt, .key] ∧
      t.mgt.execQ = rest ∧
      t.mgt.mcLane = s.mgt.mcLane ++ [f] ∧ t.cnts = s.cnts ∧ s.RegsBut t journalKeys) ∧
    (64 ≤ s.mgt.mcLane.length → ∃ t, exec .frameSend s = .next t ∧ s.Only t [.regs, .cnts, .mgt, .key] ∧
      t.mgt.execQ = rest ∧ t.mgt.mcLane = s.mgt.mcLane ∧
      t.cnt (C.mgt 13) = s.cnt (C.mgt 13) + 1 ∧ s.CntsBut t [C.mgt 13]) := by
  have run := exec_frameSend s hr
  have head := State.execHead_of hr hq
  rw [hop] at head
  have effect : s.frameSend = if 64 ≤ s.mgt.mcLane.length then (s.inc (C.mgt 13)).endCmd c 3 0
      else { s with mgt := { s.mgt with mcLane := s.mgt.mcLane ++ [s.sentFrame c.body] } }.endCmd c 0 0 := by
    simp only [State.frameSend, head]
    rfl
  have popped : s.mgt.execQ.drop 1 = rest := by rw [hq]; rfl
  rw [effect] at run
  refine ⟨fun room => ?_, fun full => ?_⟩
  · let u : State := { s with mgt := { s.mgt with mcLane := s.mgt.mcLane ++ [s.sentFrame c.body] } }
    have only : s.Only (u.endCmd c 0 0) [.regs, .cnts, .mgt, .key] :=
      State.Only.comp (t := u) rfl ((u.endCmd_only c 0 0).mono _ (by decide))
    have ended := u.endCmd_journaled c 0 0
    rw [if_neg (by omega), only.confine _ (by decide)] at run
    exact ⟨_, s.sentFrame c.body, run, only, ended.execQ.trans popped, congrArg (fun m => m.mcLane) ended,
      u.endCmd_cnts c 0 0, (u.endCmd_regsBut c 0 0).from rfl⟩
  · let u := s.inc (C.mgt 13)
    have only : s.Only (u.endCmd c 3 0) [.regs, .cnts, .mgt, .key] :=
      State.Only.comp (t := u) rfl ((u.endCmd_only c 3 0).mono _ (by decide))
    have ended := u.endCmd_journaled c 3 0
    rw [if_pos full, only.confine _ (by decide)] at run
    exact ⟨_, run, only, ended.execQ.trans popped, congrArg (fun m => m.mcLane) ended, s.cnt_inc_same (C.mgt 13), s.cntsBut_inc (C.mgt 13)⟩

end

/-- Settles O57. Each command on images, firmware, records and frames changes what its rule names and ends; CHECKPOINT waits for its
signature. -/
theorem storedImagesAndRecordsChange : Obligations.StoredImagesAndRecordsChange := by
  unfold Obligations.StoredImagesAndRecordsChange
  exact fun s c rest hr hq => ⟨exec_imageErase_erases hr hq, exec_imageWrite_writes hr hq,
    fun hop nvm => exec_imageVerify_answers hr hq hop nvm,
    fun hop hst hb env he => exec_imageActivate_chooses hr hq hop hst hb he, exec_firmwareWrite_writes hr hq,
    fun hop => (exec_recordApply_acts hr hq hop).1, fun hop => (exec_recordApply_acts hr hq hop).2,
    exec_checkpoint_asks hr hq, exec_frameSend_sends hr hq⟩

end Sys2Proof.Machine
end

section /-! SUPPORT. Records of the energy ledger and the batches that close over them (spec/12, R347 to R350). -/
namespace Sys2Proof.Machine

section
variable (s : State)

theorem State.mem_requestSign (k : Nat) (w : SignFor) (p : List Byte) (r : SignReq) :
    r ∈ (s.requestSign k w p).key.signQ ↔ r = ⟨k, w, p, s.cycle / 2⟩ ∨ r ∈ s.key.signQ := by
  simp only [State.requestSign, List.partition_eq_filter_filter, List.mem_append, List.mem_cons, List.mem_filter, Function.comp_apply,
    Bool.not_eq_true']
  cases (r.cycle != s.cycle / 2 || decide (k ≤ r.key)) <;> tauto

theorem State.requestSign_length (k : Nat) (w : SignFor) (p : List Byte) :
    (s.requestSign k w p).key.signQ.length = s.key.signQ.length + 1 := by
  simp only [State.requestSign, List.partition_eq_filter_filter, List.length_append, List.length_cons]
  exact congrArg (· + 1) (List.length_eq_length_filter_add _).symm

/-! ## What the ledger keeps of its meters -/

/-- Registers NEXT and STATUS, the records and the signature requests may differ; what the meters hold does not. -/
def State.MeterKept (s t : State) : Prop :=
  s.RegsBut t [K.LDG_NEXT, K.LDG_STATUS] ∧ (∀ f ∈ [F.LDG_STATUS_GAP0, F.LDG_STATUS_GAP1], t.flag f = s.flag f) ∧
    t.ldg.residual = s.ldg.residual ∧ t.time.ldgMs = s.time.ldgMs ∧ s.Only t [.regs, .time, .ldg, .key]

variable {s} {t u : State}

theorem State.MeterKept.refl (s : State) : s.MeterKept s := ⟨State.RegsBut.refl s _, fun _ _ => rfl, rfl, rfl, s.only_refl _⟩

theorem State.MeterKept.comp (h : s.MeterKept t) (h' : t.MeterKept u) : s.MeterKept u := by
  obtain ⟨regs, gaps, residual, ms, only⟩ := h
  obtain ⟨regs', gaps', residual', ms', only'⟩ := h'
  exact ⟨regs.comp regs', fun f hf => (gaps' f hf).trans (gaps f hf), residual'.trans residual, ms'.trans ms, only.comp only'⟩

theorem State.MeterKept.gapBit (h : s.MeterKept t) (m : Nat) : t.gapBit m = s.gapBit m := by
  obtain ⟨_, gaps, _⟩ := h
  simp only [State.gapBit, gaps F.LDG_STATUS_GAP0 (by decide), gaps F.LDG_STATUS_GAP1 (by decide)]

/-- The registers of the accumulators are above NEXT and STATUS. -/
theorem State.MeterKept.acc (h : s.MeterKept t) (a : Nat) : t.acc a = s.acc a := by
  obtain ⟨regs, _⟩ := h
  have lo : K.LDG_ACC_LO a ∉ [K.LDG_NEXT, K.LDG_STATUS] := by
    simp only [K.LDG_ACC_LO, K.LDG_NEXT, K.LDG_STATUS, List.mem_cons, List.not_mem_nil, or_false]
    omega
  have hi : K.LDG_ACC_HI a ∉ [K.LDG_NEXT, K.LDG_STATUS] := by
    simp only [K.LDG_ACC_HI, K.LDG_NEXT, K.LDG_STATUS, List.mem_cons, List.not_mem_nil, or_false]
    omega
  simp only [State.acc, State.pair, regs _ lo, regs _ hi]

theorem State.MeterKept.residualOf (h : s.MeterKept t) (a : Nat) : t.residual a = s.residual a := by
  obtain ⟨_, _, residual, _⟩ := h
  rw [State.residual, residual, State.residual]

/-- A status bit beside those of the gaps. -/
theorem State.meterKept_status (s : State) {f : Fld} (v : Nat) (hk : f.key = K.LDG_STATUS)
    (h : [F.LDG_STATUS_GAP0, F.LDG_STATUS_GAP1].all (fun g => f.beside g) = true) : s.MeterKept (s.setFld f v) := by
  refine ⟨(s.regsBut_setFld f v).mono (fun k m => ?_), fun g hg => ?_, rfl, rfl, rfl⟩
  · rw [List.mem_singleton.mp m, hk]
    decide
  · have apart := List.all_eq_true.mp h g hg
    have bit : g.hi = g.lo := by
      simp only [List.mem_cons, List.not_mem_nil, or_false] at hg
      rcases hg with rfl | rfl <;> rfl
    rw [State.flag_eq _ _ bit, State.fld_setFld_beside _ v apart, State.flag_eq _ _ bit]

/-! ## Batches -/

variable (s)

/-- A batch's statement as it is asked for. -/
theorem State.closeBatch_eq (h : s.ldg.batchFirst < s.fld F.LDG_NEXT_INDEX) : ∃ payload,
    s.closeBatch =
      let u := { s with ldg := { s.ldg with batchFirst := s.fld F.LDG_NEXT_INDEX } }.requestSign 2
        (.batch s.ldg.batchFirst (s.fld F.LDG_NEXT_INDEX - 1)) payload
      if s.flag (F.LMS_STATUS_READY 2) then u else u.setFld F.LDG_STATUS_SIGN_WAIT 1 := by
  exact ⟨_, if_neg (by omega)⟩

/-- R350: a batch that closes asks for its signature by the LDG key. -/
theorem State.closeBatch_closes (h : s.ldg.batchFirst < s.fld F.LDG_NEXT_INDEX) :
    s.closeBatch.ldg = { s.ldg with batchFirst := s.fld F.LDG_NEXT_INDEX } ∧
    (∃ r, r ∈ s.closeBatch.key.signQ ∧ r.key = 2 ∧ r.what = .batch s.ldg.batchFirst (s.fld F.LDG_NEXT_INDEX - 1)) ∧
    (∀ r ∈ s.closeBatch.key.signQ, r.key = 2 ∨ r ∈ s.key.signQ) ∧
    (s.flag (F.LMS_STATUS_READY 2) = false → s.closeBatch.flag F.LDG_STATUS_SIGN_WAIT = true) := by
  obtain ⟨payload, eq⟩ := s.closeBatch_eq h
  let v : State := { s with ldg := { s.ldg with batchFirst := s.fld F.LDG_NEXT_INDEX } }
  let u := v.requestSign 2 (.batch s.ldg.batchFirst (s.fld F.LDG_NEXT_INDEX - 1)) payload
  have asked : ∃ r, r ∈ u.key.signQ ∧ r.key = 2 ∧ r.what = .batch s.ldg.batchFirst (s.fld F.LDG_NEXT_INDEX - 1) :=
    ⟨_, (v.mem_requestSign _ _ _ _).mpr (.inl rfl), rfl, rfl⟩
  have others : ∀ r ∈ u.key.signQ, r.key = 2 ∨ r ∈ s.key.signQ := fun r hr =>
    ((v.mem_requestSign _ _ _ r).mp hr).imp (fun e => by rw [e]) id
  rw [eq]
  cases ready : s.flag (F.LMS_STATUS_READY 2)
  · exact ⟨rfl, asked, others, fun _ => (u.flag_setFld_same F.LDG_STATUS_SIGN_WAIT 1 rfl (by decide)).trans rfl⟩
  · exact ⟨rfl, asked, others, (by simp)⟩

theorem State.closeBatch_frame : s.RegsBut s.closeBatch [K.LDG_STATUS] ∧ s.MeterKept s.closeBatch ∧ s.KeysKept s.closeBatch ∧
    s.Only s.closeBatch [.regs, .ldg, .key] ∧ s.closeBatch.ldg.records = s.ldg.records := by
  by_cases h : s.ldg.batchFirst < s.fld F.LDG_NEXT_INDEX
  · obtain ⟨payload, eq⟩ := s.closeBatch_eq h
    let u := { s with ldg := { s.ldg with batchFirst := s.fld F.LDG_NEXT_INDEX } }.requestSign 2
      (.batch s.ldg.batchFirst (s.fld F.LDG_NEXT_INDEX - 1)) payload
    have asked : s.MeterKept u := ⟨State.regsBut_of_regs rfl _, fun _ _ => rfl, rfl, rfl, rfl⟩
    rw [eq]
    cases ready : s.flag (F.LMS_STATUS_READY 2)
    · exact ⟨(u.regsBut_setFld F.LDG_STATUS_SIGN_WAIT 1).from rfl, asked.comp (u.meterKept_status 1 rfl rfl), rfl, rfl, rfl⟩
    · exact ⟨State.regsBut_of_regs rfl _, asked, rfl, rfl, rfl⟩
  · have idle : s.closeBatch = s := if_pos (by omega)
    rw [idle]
    exact ⟨State.RegsBut.refl s _, .refl s, rfl, s.only_refl _, rfl⟩

theorem State.closeBatch_gapMs : s.closeBatch.ldg.gapMs = s.ldg.gapMs := by
  by_cases h : s.ldg.batchFirst < s.fld F.LDG_NEXT_INDEX
  · rw [(s.closeBatch_closes h).1]
  · rw [show s.closeBatch = s from if_pos (by omega)]

/-! ## Records -/

/-- A record put into the ring; the next INDEX follows. -/
def State.ldgPut (s : State) (type : Nat) : State :=
  let n := s.fld F.LDG_NEXT_INDEX
  let lost := decide (ldgRing ≤ n) && decide (s.ldg.unsigned ≤ n - ldgRing)
  let s := { s with ldg := { s.ldg with records := (s.ldgRecord type :: s.ldg.records).take ldgRing, gapMs := 0, standbyUsed := false } }
  let s := s.setFld F.LDG_NEXT_INDEX (n + 1)
  if lost then s.setFld F.LDG_STATUS_OVERWRITE 1 else s

theorem State.ldgAppend_eq (type : Nat) : s.ldgAppend type =
    if s.fld F.LDG_NEXT_INDEX % 256 = 255 ∨ type = 3 then (s.ldgPut type).closeBatch else s.ldgPut type := rfl

theorem State.ldgPut_puts (type : Nat) :
    (s.fld F.LDG_NEXT_INDEX + 1 < 2 ^ 32 → (s.ldgPut type).fld F.LDG_NEXT_INDEX = s.fld F.LDG_NEXT_INDEX + 1) ∧
    (s.ldgPut type).ldg =
      { s.ldg with records := (s.ldgRecord type :: s.ldg.records).take 32768, gapMs := 0, standbyUsed := false } ∧
    (s.ldgPut type).key = s.key ∧ s.MeterKept (s.ldgPut type) ∧ s.Only (s.ldgPut type) [.regs, .ldg] := by
  let l := { s.ldg with records := (s.ldgRecord type :: s.ldg.records).take ldgRing, gapMs := 0, standbyUsed := false }
  have put (n : Nat) : ({ s with ldg := l } : State).MeterKept ({ s with ldg := l }.setFld F.LDG_NEXT_INDEX n) := by
    refine ⟨(State.regsBut_setFld _ F.LDG_NEXT_INDEX n).mono (by decide), fun f hf => ?_, rfl, rfl, rfl⟩
    refine (State.regsBut_setFld _ F.LDG_NEXT_INDEX n).flag ?_
    simp only [List.mem_cons, List.not_mem_nil, or_false] at hf
    rcases hf with rfl | rfl <;> decide
  have stored : s.MeterKept { s with ldg := l } := ⟨State.regsBut_of_regs rfl _, fun _ _ => rfl, rfl, rfl, rfl⟩
  let u := ({ s with ldg := l } : State).setFld F.LDG_NEXT_INDEX (s.fld F.LDG_NEXT_INDEX + 1)
  have next (h : s.fld F.LDG_NEXT_INDEX + 1 < 2 ^ 32) : u.fld F.LDG_NEXT_INDEX = s.fld F.LDG_NEXT_INDEX + 1 :=
    (State.fld_setFld_same _ F.LDG_NEXT_INDEX _ (by decide) (by decide)).trans (Nat.mod_eq_of_lt h)
  have eq : s.ldgPut type = if decide (ldgRing ≤ s.fld F.LDG_NEXT_INDEX) && decide (s.ldg.unsigned ≤ s.fld F.LDG_NEXT_INDEX - ldgRing)
      then u.setFld F.LDG_STATUS_OVERWRITE 1 else u := rfl
  rw [eq]
  split
  · exact ⟨fun h => (u.fld_setFld_key F.LDG_STATUS_OVERWRITE F.LDG_NEXT_INDEX 1 (by decide)).trans (next h), rfl, rfl,
      (stored.comp (put _)).comp (u.meterKept_status 1 rfl rfl), rfl⟩
  · exact ⟨next, rfl, rfl, stored.comp (put _), rfl⟩

theorem State.ldgAppend_meterKept (type : Nat) : s.MeterKept (s.ldgAppend type) ∧ s.KeysKept (s.ldgAppend type) ∧
    s.Only (s.ldgAppend type) [.regs, .ldg, .key] := by
  obtain ⟨_, _, key, kept, only⟩ := s.ldgPut_puts type
  obtain ⟨_, kept', keys', only', _⟩ := (s.ldgPut type).closeBatch_frame
  rw [s.ldgAppend_eq]
  split
  · exact ⟨kept.comp kept', (State.keysKept_of_key key).comp keys', (only.mono _ (by decide)).comp only'⟩
  · exact ⟨kept, State.keysKept_of_key key, only.mono _ (by decide)⟩

end
end Sys2Proof.Machine
end
section /-! SUPPORT. One millisecond of a meter (spec/12, R343 and R344). -/
namespace Sys2Proof.Machine

section
variable (s : State)

/-! ## An amount of energy -/

/-- An amount joins a residual, and its whole microwatt-hours their accumulator. -/
def State.addEnergy (s : State) (a e : Nat) : State :=
  (s.setResidual a ((s.residual a + e) % 3600000)).setAcc a (s.acc a + (s.residual a + e) / 3600000)

theorem State.addEnergy_same (a e : Nat) :
    (s.addEnergy a e).acc a = (s.acc a + (s.residual a + e) / 3600000) % 2 ^ 64 ∧
    (s.addEnergy a e).residual a = (s.residual a + e) % 3600000 := by
  have apart : K.LDG_ACC_LO a ≠ K.LDG_ACC_HI a := by simp only [K.LDG_ACC_LO, K.LDG_ACC_HI]; omega
  exact ⟨State.pair_setPair _ apart (Nat.mod_lt _ (by decide)), mapGet_mapSet_same _ s.ldg.residual a _⟩

theorem State.addEnergy_other {a b : Nat} (h : b ≠ a) (e : Nat) :
    (s.addEnergy a e).acc b = s.acc b ∧ (s.addEnergy a e).residual b = s.residual b := by
  have regs : (s.setResidual a ((s.residual a + e) % 3600000)).RegsBut (s.addEnergy a e) [K.LDG_ACC_LO a, K.LDG_ACC_HI a] :=
    State.regsBut_setPair _ _ _ _
  have lo : K.LDG_ACC_LO b ∉ [K.LDG_ACC_LO a, K.LDG_ACC_HI a] := by
    simp only [K.LDG_ACC_LO, K.LDG_ACC_HI, List.mem_cons, List.not_mem_nil, or_false]
    omega
  have hi : K.LDG_ACC_HI b ∉ [K.LDG_ACC_LO a, K.LDG_ACC_HI a] := by
    simp only [K.LDG_ACC_LO, K.LDG_ACC_HI, List.mem_cons, List.not_mem_nil, or_false]
    omega
  refine ⟨?_, mapGet_mapSet_other _ s.ldg.residual _ h.symm⟩
  simp only [State.acc, State.pair, regs _ lo, regs _ hi]
  rfl

theorem State.integrate_none {m i v : Nat} (h : s.sampleOf i * s.sampleOf v = 0) : s.integrate m i v = s := if_pos h

theorem State.integrate_some {m i v : Nat} (h : s.sampleOf i * s.sampleOf v ≠ 0) :
    s.integrate m i v = s.addEnergy (2 * m + if 0 < s.sampleOf i * s.sampleOf v then 1 else 0) (s.sampleOf i * s.sampleOf v).natAbs :=
  if_neg h

/-! ## A meter's millisecond -/

/-- The registers that a meter's millisecond can change. -/
def energyKeys (m : Nat) : List Nat :=
  [K.LDG_STATUS, K.LDG_ACC_LO (2 * m), K.LDG_ACC_HI (2 * m), K.LDG_ACC_LO (2 * m + 1), K.LDG_ACC_HI (2 * m + 1)]

/-- What a millisecond of meter m leaves alone: the inputs, their staleness and what the other meter holds. -/
def State.SampleKept (s t : State) (m : Nat) : Prop :=
  s.RegsBut t (energyKeys m) ∧ t.fld F.LDG_STATUS_STALE = s.fld F.LDG_STATUS_STALE ∧
    (∀ a, a ≠ 2 * m → a ≠ 2 * m + 1 → t.acc a = s.acc a ∧ t.residual a = s.residual a) ∧
    t.ldg = { s.ldg with residual := t.ldg.residual, gapMs := t.ldg.gapMs, standbyUsed := t.ldg.standbyUsed } ∧
    s.Only t [.regs, .ldg]

variable {s} {t u : State} {m : Nat}

theorem State.SampleKept.comp (h : s.SampleKept t m) (h' : t.SampleKept u m) : s.SampleKept u m := by
  obtain ⟨regs, stale, others, ldg, only⟩ := h
  obtain ⟨regs', stale', others', ldg', only'⟩ := h'
  refine ⟨regs.comp regs', stale'.trans stale, fun a h1 h2 => ?_, ldg'.trans (by rw [ldg]), only.comp only'⟩
  exact ⟨(others' a h1 h2).1.trans (others a h1 h2).1, (others' a h1 h2).2.trans (others a h1 h2).2⟩

theorem State.sampleKept_ldg (s : State) (m gap : Nat) (used : Bool) :
    s.SampleKept { s with ldg := { s.ldg with gapMs := gap, standbyUsed := used } } m :=
  ⟨State.regsBut_of_regs rfl _, rfl, fun _ _ _ => ⟨rfl, rfl⟩, rfl, rfl⟩

theorem State.addEnergy_sampleKept (s : State) {m a : Nat} (ha : a = 2 * m ∨ a = 2 * m + 1) (e : Nat) : s.SampleKept (s.addEnergy a e) m := by
  have regs : s.RegsBut (s.addEnergy a e) [K.LDG_ACC_LO a, K.LDG_ACC_HI a] :=
    (State.regsBut_setPair _ _ _ _).from (t := s.setResidual a ((s.residual a + e) % 3600000)) rfl
  refine ⟨regs.mono ?_, regs.fld ?_, fun b h1 h2 => s.addEnergy_other (by omega) e, rfl, rfl⟩
  · rcases ha with rfl | rfl <;> simp [energyKeys]
  · simp only [F.LDG_STATUS_STALE, K.LDG_STATUS, K.LDG_ACC_LO, K.LDG_ACC_HI, List.mem_cons, List.not_mem_nil, or_false]
    omega

/-- The bit of a meter's gap. -/
def gapFld (m : Nat) : Fld := if m = 0 then F.LDG_STATUS_GAP0 else F.LDG_STATUS_GAP1

theorem State.setGap_sampleKept (s : State) (hm : m < 2) (v : Nat) : s.SampleKept (s.setFld (gapFld m) v) m := by
  have key : (gapFld m).key = K.LDG_STATUS := by
    interval_cases m <;> rfl
  have regs : s.RegsBut (s.setFld (gapFld m) v) [K.LDG_STATUS] := key ▸ s.regsBut_setFld (gapFld m) v
  have above (k : Nat) (hk : 0x260020 ≤ k) : (s.setFld (gapFld m) v).reg k = s.reg k :=
    regs k (by simp only [K.LDG_STATUS, List.mem_singleton]; omega)
  refine ⟨regs.mono (by simp [energyKeys]), s.fld_setFld_beside v ?_, fun a _ _ => ⟨?_, rfl⟩, rfl, rfl⟩
  · interval_cases m <;> decide
  · simp only [State.acc, State.pair, above (K.LDG_ACC_LO a) (by simp only [K.LDG_ACC_LO]; omega),
      above (K.LDG_ACC_HI a) (by simp only [K.LDG_ACC_HI]; omega)]

theorem State.gapBit_setGap (s : State) (hm : m < 2) (b : Bool) : (s.setFld (gapFld m) (b2n b)).gapBit m = b := by
  have bit : decide (b2n b % 2 = 1) = b := by cases b <;> rfl
  match m, hm with
  | 0, _ => exact (s.flag_setFld_same F.LDG_STATUS_GAP0 _ rfl (by decide)).trans bit
  | 1, _ => exact (s.flag_setFld_same F.LDG_STATUS_GAP1 _ rfl (by decide)).trans bit

theorem State.gapBit_setGap_other (s : State) {k : Nat} (hm : m < 2) (hk : k < 2) (h : k ≠ m) (v : Nat) :
    (s.setFld (gapFld m) v).gapBit k = s.gapBit k := by
  match m, hm, k, hk with
  | 0, _, 0, _ => exact absurd rfl h
  | 0, _, 1, _ => exact s.flag_setFld_bits (f := F.LDG_STATUS_GAP0) (g := F.LDG_STATUS_GAP1) v rfl rfl (by decide) rfl (by decide)
  | 1, _, 0, _ => exact s.flag_setFld_bits (f := F.LDG_STATUS_GAP1) (g := F.LDG_STATUS_GAP0) v rfl rfl (by decide) rfl (by decide)
  | 1, _, 1, _ => exact absurd rfl h

theorem State.gapBit_of_status (h : t.reg K.LDG_STATUS = s.reg K.LDG_STATUS) (k : Nat) : t.gapBit k = s.gapBit k := by
  have f0 : t.flag F.LDG_STATUS_GAP0 = s.flag F.LDG_STATUS_GAP0 := State.flag_of_reg h
  have f1 : t.flag F.LDG_STATUS_GAP1 = s.flag F.LDG_STATUS_GAP1 := State.flag_of_reg h
  rw [State.gapBit, f0, f1, State.gapBit]

theorem State.SampleKept.sampleOf (h : s.SampleKept t m) (hm : m < 2) (k : Nat) : t.sampleOf k = s.sampleOf k := by
  obtain ⟨regs, _, _, ldg, only⟩ := h
  have time : t.time = s.time := only.keeps State.time rfl
  have delivered : t.ldg.delivered = s.ldg.delivered := by rw [ldg]
  have before : t.ldg.before = s.ldg.before := by rw [ldg]
  have input : t.fld (F.LDG_INPUT_VALUE k) = s.fld (F.LDG_INPUT_VALUE k) := regs.fld (by
    simp only [F.LDG_INPUT_VALUE, K.LDG_INPUT, energyKeys, K.LDG_STATUS, K.LDG_ACC_LO, K.LDG_ACC_HI, List.mem_cons, List.not_mem_nil,
      or_false]
    omega)
  simp only [State.sampleOf, time, delivered, before, input]

theorem State.SampleKept.ldgSources (h : s.SampleKept t m) (k : Nat) : t.ldgSources k = s.ldgSources k := by
  obtain ⟨_, stale, _, ldg, _⟩ := h
  have cfg : t.ldg.cfg = s.ldg.cfg := by rw [ldg]
  have enabled : t.ldgEnabled k = s.ldgEnabled k := by rw [State.ldgEnabled, cfg, State.ldgEnabled]
  have standby : t.ldgStandby = s.ldgStandby := by rw [State.ldgStandby, cfg, State.ldgStandby]
  have staleOf (j : Nat) : t.ldgStale j = s.ldgStale j := by rw [State.ldgStale, stale, State.ldgStale]
  have source (j : Nat) : t.ldgSource j = s.ldgSource j := by
    rw [State.ldgSource, staleOf, staleOf, standby, State.ldgSource]
  rw [State.ldgSources, enabled, source, source, State.ldgSources]

/-- What a meter's millisecond does to its accumulators: nothing in a gap; otherwise the magnitude of its power joins the residual of
its sign (R344). -/
def State.Integrates (s t : State) (m : Nat) (src : Option (Nat × Nat)) : Prop :=
  (src = none → t.acc (2 * m) = s.acc (2 * m) ∧ t.acc (2 * m + 1) = s.acc (2 * m + 1) ∧
    t.residual (2 * m) = s.residual (2 * m) ∧ t.residual (2 * m + 1) = s.residual (2 * m + 1)) ∧
  (∀ i v p, src = some (i, v) → p = s.sampleOf i * s.sampleOf v →
    (0 < p → t.acc (2 * m + 1) = (s.acc (2 * m + 1) + (s.residual (2 * m + 1) + p.natAbs) / 3600000) % 2 ^ 64 ∧
      t.residual (2 * m + 1) = (s.residual (2 * m + 1) + p.natAbs) % 3600000 ∧
      t.acc (2 * m) = s.acc (2 * m) ∧ t.residual (2 * m) = s.residual (2 * m)) ∧
    (p < 0 → t.acc (2 * m) = (s.acc (2 * m) + (s.residual (2 * m) + p.natAbs) / 3600000) % 2 ^ 64 ∧
      t.residual (2 * m) = (s.residual (2 * m) + p.natAbs) % 3600000 ∧
      t.acc (2 * m + 1) = s.acc (2 * m + 1) ∧ t.residual (2 * m + 1) = s.residual (2 * m + 1)) ∧
    (p = 0 → t.acc (2 * m) = s.acc (2 * m) ∧ t.acc (2 * m + 1) = s.acc (2 * m + 1) ∧
      t.residual (2 * m) = s.residual (2 * m) ∧ t.residual (2 * m + 1) = s.residual (2 * m + 1)))

/-- A gap bit and the use of a standby change none of the accumulators: every register of these is above STATUS. -/
theorem State.MeterKept.accs_of_status (regs : s.RegsBut t [K.LDG_STATUS]) (a : Nat) : t.acc a = s.acc a := by
  have above (k : Nat) (hk : 0x260020 ≤ k) : t.reg k = s.reg k :=
    regs k (by simp only [K.LDG_STATUS, List.mem_singleton]; omega)
  simp only [State.acc, State.pair, above (K.LDG_ACC_LO a) (by simp only [K.LDG_ACC_LO]; omega),
    above (K.LDG_ACC_HI a) (by simp only [K.LDG_ACC_HI]; omega)]

/-- The integration over a state whose inputs and accumulators are those of s. -/
theorem State.integrate_integrates {i v : Nat} (acc : ∀ a, u.acc a = s.acc a) (res : ∀ a, u.residual a = s.residual a)
    (smp : ∀ k, u.sampleOf k = s.sampleOf k) : s.Integrates (u.integrate m i v) m (some (i, v)) := by
  refine ⟨(by simp), fun i' v' p e hp => ?_⟩
  cases e
  rw [← smp, ← smp] at hp
  refine ⟨fun pos => ?_, fun neg => ?_, fun zero => ?_⟩
  · rw [u.integrate_some (by omega), ← hp, if_pos pos]
    obtain ⟨a1, r1⟩ := u.addEnergy_same (2 * m + 1) p.natAbs
    obtain ⟨a0, r0⟩ := u.addEnergy_other (a := 2 * m + 1) (b := 2 * m) (by omega) p.natAbs
    exact ⟨a1.trans (by rw [acc, res]), r1.trans (by rw [res]), a0.trans (acc _), r0.trans (res _)⟩
  · rw [u.integrate_some (by omega), ← hp, if_neg (by omega)]
    obtain ⟨a0, r0⟩ := u.addEnergy_same (2 * m) p.natAbs
    obtain ⟨a1, r1⟩ := u.addEnergy_other (a := 2 * m) (b := 2 * m + 1) (by omega) p.natAbs
    exact ⟨a0.trans (by rw [acc, res]), r0.trans (by rw [res]), a1.trans (acc _), r1.trans (res _)⟩
  · rw [u.integrate_none (by omega)]
    exact ⟨acc _, acc _, res _, res _⟩

theorem State.integrate_sampleKept (u : State) (m i v : Nat) : u.SampleKept (u.integrate m i v) m := by
  by_cases h : u.sampleOf i * u.sampleOf v = 0
  · rw [u.integrate_none h]
    exact u.sampleKept_ldg m u.ldg.gapMs u.ldg.standbyUsed
  · rw [u.integrate_some h]
    exact u.addEnergy_sampleKept (by split <;> omega) _

theorem State.integrate_status (u : State) (m i v : Nat) : (u.integrate m i v).reg K.LDG_STATUS = u.reg K.LDG_STATUS ∧
    (u.integrate m i v).ldg.gapMs = u.ldg.gapMs := by
  by_cases h : u.sampleOf i * u.sampleOf v = 0
  · rw [u.integrate_none h]
    exact ⟨rfl, rfl⟩
  · rw [u.integrate_some h]
    refine ⟨?_, rfl⟩
    have regs (a e : Nat) : (u.addEnergy a e).reg K.LDG_STATUS = u.reg K.LDG_STATUS :=
      (State.regsBut_setPair (u.setResidual a ((u.residual a + e) % 3600000)) _ _ _) K.LDG_STATUS (by
        simp only [K.LDG_STATUS, K.LDG_ACC_LO, K.LDG_ACC_HI, List.mem_cons, List.not_mem_nil, or_false]
        omega)
    exact regs _ _

/-- The use of a standby source is marked for the next record. -/
def State.useStandby (s : State) (i v : Nat) : State :=
  if 4 ≤ i ∨ 4 ≤ v then { s with ldg := { s.ldg with standbyUsed := true } } else s

theorem State.useStandby_sampleKept (s : State) (m i v : Nat) : s.SampleKept (s.useStandby i v) m := by
  unfold State.useStandby
  split
  · exact s.sampleKept_ldg m s.ldg.gapMs true
  · exact s.sampleKept_ldg m s.ldg.gapMs s.ldg.standbyUsed

theorem State.useStandby_keeps (s : State) (i v : Nat) : (s.useStandby i v).ldg.gapMs = s.ldg.gapMs ∧
    (s.useStandby i v).ldg.residual = s.ldg.residual ∧ (s.useStandby i v).regs = s.regs := by
  unfold State.useStandby
  split <;> exact ⟨rfl, rfl, rfl⟩

/-- What a meter does with its sources once its gap bit is set. -/
def State.sampleSources (s : State) (m : Nat) : Option (Nat × Nat) → State
  | none => { s with ldg := { s.ldg with gapMs := s.ldg.gapMs + 1 } }
  | some (i, v) => (s.useStandby i v).integrate m i v

/-- One millisecond of one meter. -/
theorem State.sampleMeter_samples (s : State) (hm : m < 2) :
    (s.sampleMeter m).1 = (s.gapBit m != (s.ldgSources m).isNone) ∧
    (s.sampleMeter m).2.gapBit m = (s.ldgSources m).isNone ∧
    (∀ k, k < 2 → k ≠ m → (s.sampleMeter m).2.gapBit k = s.gapBit k) ∧
    (s.sampleMeter m).2.ldg.gapMs = s.ldg.gapMs + b2n (s.ldgSources m).isNone ∧
    s.Integrates (s.sampleMeter m).2 m (s.ldgSources m) ∧ s.SampleKept (s.sampleMeter m).2 m := by
  have gapped := s.setGap_sampleKept hm (b2n (s.ldgSources m).isNone)
  have bit := s.gapBit_setGap hm (s.ldgSources m).isNone
  have others (k : Nat) (hk : k < 2) (hkm : k ≠ m) := s.gapBit_setGap_other hm hk hkm (b2n (s.ldgSources m).isNone)
  have acc (a : Nat) : (s.setFld (gapFld m) (b2n (s.ldgSources m).isNone)).acc a = s.acc a := by
    refine State.MeterKept.accs_of_status ?_ a
    match m, hm with
    | 0, _ => exact s.regsBut_setFld F.LDG_STATUS_GAP0 _
    | 1, _ => exact s.regsBut_setFld F.LDG_STATUS_GAP1 _
  have ldg : (s.setFld (gapFld m) (b2n (s.ldgSources m).isNone)).ldg = s.ldg := rfl
  have eq : s.sampleMeter m = (s.gapBit m != (s.ldgSources m).isNone,
      (s.setFld (gapFld m) (b2n (s.ldgSources m).isNone)).sampleSources m (s.ldgSources m)) := rfl
  rw [eq]
  generalize s.setFld (gapFld m) (b2n (s.ldgSources m).isNone) = g at gapped bit others acc ldg
  have residual (a : Nat) : g.residual a = s.residual a := by rw [State.residual, ldg, State.residual]
  cases hs : s.ldgSources m with
  | none =>
    rw [hs] at bit
    let u : State := { g with ldg := { g.ldg with gapMs := g.ldg.gapMs + 1 } }
    have kept : s.SampleKept u m := gapped.comp (g.sampleKept_ldg m (g.ldg.gapMs + 1) g.ldg.standbyUsed)
    exact ⟨rfl, bit, others, congrArg (fun l => l.gapMs + 1) ldg,
      ⟨fun _ => ⟨acc _, acc _, residual _, residual _⟩, (by simp)⟩, kept⟩
  | some c =>
    obtain ⟨i, v⟩ := c
    rw [hs] at bit
    let u : State := g.useStandby i v
    have standby : g.SampleKept u m := g.useStandby_sampleKept m i v
    have uldg : u.ldg.gapMs = g.ldg.gapMs ∧ u.ldg.residual = g.ldg.residual ∧ u.regs = g.regs := g.useStandby_keeps i v
    obtain ⟨ugap, ures, uregs⟩ := uldg
    obtain ⟨status, gap⟩ := u.integrate_status m i v
    have same (k : Nat) : (u.integrate m i v).gapBit k = g.gapBit k :=
      State.gapBit_of_status (status.trans (State.reg_congr uregs _)) k
    refine ⟨rfl, (same m).trans bit, fun k hk hkm => (same k).trans (others k hk hkm), ?_, ?_, ?_⟩
    · exact gap.trans (ugap.trans (congrArg (fun l => l.gapMs) ldg))
    · refine State.integrate_integrates (fun a => ?_) (fun a => ?_) ((gapped.comp standby).sampleOf hm)
      · rw [State.acc, State.pair, State.reg_congr uregs, State.reg_congr uregs]
        exact acc a
      · rw [State.residual, ures]
        exact residual a
    · exact (gapped.comp standby).comp (u.integrate_sampleKept m i v)

end
end Sys2Proof.Machine
end
section /-! SUPPORT. The ledger's commands (spec/12): a millisecond of both meters, staleness, the stored record, period records, batches
and the read window. -/
namespace Sys2Proof.Machine

section
variable {s t u v : State} {m : Nat} {src : Option (Nat × Nat)}

/-! ## A millisecond -/

theorem State.Integrates.from (h : u.Integrates t m src) (accs : ∀ a, a = 2 * m ∨ a = 2 * m + 1 → u.acc a = s.acc a ∧ u.residual a = s.residual a)
    (smp : ∀ k, u.sampleOf k = s.sampleOf k) : s.Integrates t m src := by
  obtain ⟨a0, r0⟩ := accs (2 * m) (.inl rfl)
  obtain ⟨a1, r1⟩ := accs (2 * m + 1) (.inr rfl)
  unfold State.Integrates at h ⊢
  simp only [a0, r0, a1, r1, smp] at h
  exact h

theorem State.Integrates.after (h : s.Integrates t m src)
    (accs : ∀ a, a = 2 * m ∨ a = 2 * m + 1 → u.acc a = t.acc a ∧ u.residual a = t.residual a) : s.Integrates u m src := by
  obtain ⟨a0, r0⟩ := accs (2 * m) (.inl rfl)
  obtain ⟨a1, r1⟩ := accs (2 * m + 1) (.inr rfl)
  unfold State.Integrates
  rw [a0, r0, a1, r1]
  exact h

theorem State.setStale_meterKept (s : State) (k : Nat) (b : Bool) : s.MeterKept (s.setStale k b) := s.meterKept_status _ rfl rfl

theorem State.ldgInputStale_meterKept (s : State) (k : Nat) : s.MeterKept (s.ldgInputStale k) ∧ s.Only (s.ldgInputStale k) [.regs] := by
  unfold State.ldgInputStale
  split
  · exact ⟨.refl s, s.only_refl _⟩
  · split
    · exact ⟨s.setStale_meterKept k true, rfl⟩
    · exact ⟨.refl s, s.only_refl _⟩

theorem forEach_meterKept {α : Type} (f : α → State → State) (hf : ∀ x s, State.MeterKept s (f x s)) (l : List α) (s : State) :
    s.MeterKept (forEach l f s) := by
  induction l generalizing s with
  | nil => exact .refl s
  | cons x r ih => exact (hf x s).comp (ih (f x s))

/-- The inputs that have become stale at a millisecond. -/
def State.stales (s : State) : State := forEach (List.range 8) (fun k s => s.ldgInputStale k) s

theorem State.Only.time (h : s.Only t [.regs, .ldg]) : t.time = s.time := h.keeps State.time rfl

theorem State.Only.timeLdg (h : s.Only t [.regs]) : t.time = s.time ∧ t.ldg = s.ldg :=
  ⟨h.keeps State.time rfl, h.keeps State.ldg rfl⟩

theorem State.ldgInputStale_regsBut (s : State) (k : Nat) : s.RegsBut (s.ldgInputStale k) [K.LDG_STATUS] := by
  unfold State.ldgInputStale
  split
  · exact State.RegsBut.refl s _
  · split
    · exact s.regsBut_setFld F.LDG_STATUS_STALE _
    · exact State.RegsBut.refl s _

theorem State.stales_regsBut (s : State) : s.RegsBut s.stales [K.LDG_STATUS] :=
  forEach_regsBut _ (fun k (s : State) => s.ldgInputStale k) _ (fun k s => s.ldgInputStale_regsBut k) s

theorem State.stales_kept (s : State) : s.MeterKept s.stales ∧ s.Only s.stales [.regs] :=
  ⟨forEach_meterKept _ (fun k s => (s.ldgInputStale_meterKept k).1) _ s,
    forEach_only (l := [.regs]) (fun k (s : State) => s.ldgInputStale k) (fun k s => (s.ldgInputStale_meterKept k).2) _ s⟩

theorem State.MeterKept.sampleOf (h : s.MeterKept t) (only : s.Only t [.regs]) (k : Nat) : t.sampleOf k = s.sampleOf k := by
  obtain ⟨regs, _⟩ := h
  obtain ⟨time, ldg⟩ := only.timeLdg
  have input : t.fld (F.LDG_INPUT_VALUE k) = s.fld (F.LDG_INPUT_VALUE k) := regs.fld (by
    simp only [F.LDG_INPUT_VALUE, K.LDG_INPUT, K.LDG_NEXT, K.LDG_STATUS, List.mem_cons, List.not_mem_nil, or_false]
    omega)
  simp only [State.sampleOf, time, ldg, input]

/-- A millisecond has been sampled. -/
def State.countMs (s : State) : State := { s with time := { s.time with ldgMs := s.time.ldgMs + 1 } }

theorem State.countMs_regs (s : State) : s.countMs.regs = s.regs := rfl

theorem State.countMs_only (s : State) : s.Only s.countMs [.regs, .time, .ldg] := rfl

/-- Both meters at a millisecond, whose count follows. -/
def State.sampleBoth (s : State) : State := ((s.stales.sampleMeter 0).2.sampleMeter 1).2.countMs

/-- A change of a gap is recorded. -/
def State.gapRecordIf (s : State) (c : Bool) : State := if c then s.gapRecord else s

theorem State.ldgSample_eq (h : s.time.ldgMs < s.nowNs / 1000000) :
    s.ldgSample = (s.sampleBoth.ldgPeriod.gapRecordIf (s.stales.sampleMeter 0).1).gapRecordIf ((s.stales.sampleMeter 0).2.sampleMeter 1).1 := by
  unfold State.ldgSample
  rw [if_neg (by omega)]
  unfold State.sampleBoth State.stales
  dsimp only
  generalize forEach (List.range 8) (fun k s => s.ldgInputStale k) s = u
  generalize u.sampleMeter 0 = p0
  generalize p0.2.sampleMeter 1 = p1
  rfl

/-- The registers of the ledger that a millisecond without a record changes. -/
def ledgerKeys : List Nat := K.LDG_STATUS :: (List.range 4).flatMap (fun a => [K.LDG_ACC_LO a, K.LDG_ACC_HI a])

theorem energyKeys_ledger (hm : m < 2) : ∀ k ∈ energyKeys m, k ∈ ledgerKeys := by
  match m, hm with
  | 0, _ => decide
  | 1, _ => decide

theorem State.sampleBoth_samples (s : State) :
    (∀ k, k < 2 → s.sampleBoth.gapBit k = (s.stales.ldgSources k).isNone) ∧
    (∀ k, k < 2 → s.Integrates s.sampleBoth k (s.stales.ldgSources k)) ∧
    (s.stales.sampleMeter 0).1 = (s.gapBit 0 != (s.stales.ldgSources 0).isNone) ∧
    ((s.stales.sampleMeter 0).2.sampleMeter 1).1 = (s.gapBit 1 != (s.stales.ldgSources 1).isNone) ∧
    s.sampleBoth.ldg.gapMs = s.ldg.gapMs + b2n (s.stales.ldgSources 0).isNone + b2n (s.stales.ldgSources 1).isNone ∧
    s.sampleBoth.ldg = { s.ldg with residual := s.sampleBoth.ldg.residual, gapMs := s.sampleBoth.ldg.gapMs, standbyUsed := s.sampleBoth.ldg.standbyUsed } ∧
    s.sampleBoth.time = { s.time with ldgMs := s.time.ldgMs + 1 } ∧
    s.RegsBut s.sampleBoth ledgerKeys ∧ s.Only s.sampleBoth [.regs, .time, .ldg] := by
  obtain ⟨kept, only⟩ := s.stales_kept
  have smp := kept.sampleOf only
  obtain ⟨stime, sldg⟩ := only.timeLdg
  obtain ⟨ch0, bit0, others0, gap0, int0, kept0⟩ := s.stales.sampleMeter_samples (m := 0) (by decide)
  obtain ⟨ch1, bit1, others1, gap1, int1, kept1⟩ := (s.stales.sampleMeter 0).2.sampleMeter_samples (m := 1) (by decide)
  have smp0 := kept0.sampleOf (by decide)
  rw [kept0.ldgSources] at ch1 bit1 gap1 int1
  rw [State.sampleBoth]
  generalize s.stales.sampleMeter 0 = p0 at ch0 bit0 others0 gap0 int0 kept0 ch1 bit1 others1 gap1 int1 kept1 smp0 ⊢
  generalize p0.2.sampleMeter 1 = p1 at ch1 bit1 others1 gap1 int1 kept1 ⊢
  obtain ⟨regs0, _, oth0, ldg0, only0⟩ := kept0
  obtain ⟨regs1, _, oth1, ldg1, only1⟩ := kept1
  have regs := s.stales_regsBut
  refine ⟨fun k hk => ?_, fun k hk => ?_, ?_, ?_, ?_, ?_, ?_, ?_, ?_⟩
  · match k, hk with
    | 0, _ => exact (others1 0 (by decide) (by decide)).trans bit0
    | 1, _ => exact bit1
  · match k, hk with
    | 0, _ =>
      exact (int0.from (fun a _ => ⟨kept.acc a, kept.residualOf a⟩) smp).after (fun a ha => oth1 a (by omega) (by omega))
    | 1, _ =>
      refine State.Integrates.after (t := p1.2) (int1.from (fun a ha => ?_) (fun k => (smp0 k).trans (smp k))) (fun _ _ => ⟨rfl, rfl⟩)
      obtain ⟨ac, re⟩ := oth0 a (by omega) (by omega)
      exact ⟨ac.trans (kept.acc a), re.trans (kept.residualOf a)⟩
  · rw [ch0, kept.gapBit]
  · rw [ch1, others0 1 (by decide) (by decide), kept.gapBit]
  · show p1.2.ldg.gapMs = _
    rw [gap1, gap0, sldg]
  · show p1.2.ldg = _
    rw [ldg1, ldg0, sldg]
    rfl
  · have time : p1.2.time = s.time :=
      only1.time.trans (only0.time.trans stime)
    rw [State.countMs, time]
  · have both : s.RegsBut p1.2 ledgerKeys :=
      ((regs.mono (by decide)).comp (regs0.mono (energyKeys_ledger (by decide)))).comp (regs1.mono (energyKeys_ledger (by decide)))
    exact both.after p1.2.countMs_regs
  · have both : s.Only p1.2 [.regs, .time, .ldg] :=
      ((only.mono _ (by decide)).comp (only0.mono _ (by decide))).comp (only1.mono _ (by decide))
    exact both.comp p1.2.countMs_only

theorem State.ldgPeriod_idle (h : s.periodDue = false) : s.ldgPeriod = s := by
  simp [State.ldgPeriod, h]

theorem State.ldgPeriod_due (h : s.periodDue = true) : s.ldgPeriod = { s.ldgAppend 0 with
    ldg := { (s.ldgAppend 0).ldg with gapRecords := 0, cfg := (s.ldgAppend 0).reg K.LDG_CFG }
    time := { (s.ldgAppend 0).time with ldgSec := (s.ldgAppend 0).nowNs / 1000000000 } } := by
  simp [State.ldgPeriod, h]

theorem State.ldgPeriod_meterKept (s : State) : s.MeterKept s.ldgPeriod := by
  cases h : s.periodDue
  · rw [State.ldgPeriod_idle h]
    exact .refl s
  · obtain ⟨kept, _, _⟩ := s.ldgAppend_meterKept 0
    have noted (u : State) (g : Nat) (c : Word) (n : Nat) :
        u.MeterKept { u with ldg := { u.ldg with gapRecords := g, cfg := c }, time := { u.time with ldgSec := n } } :=
      ⟨State.regsBut_of_regs rfl _, fun _ _ => rfl, rfl, rfl, rfl⟩
    rw [State.ldgPeriod_due h]
    exact kept.comp (noted _ _ _ _)

theorem State.gapRecord_meterKept (s : State) : s.MeterKept s.gapRecord := by
  have noted (u : State) (g : Nat) : u.MeterKept { u with ldg := { u.ldg with gapRecords := g } } :=
    ⟨State.regsBut_of_regs rfl _, fun _ _ => rfl, rfl, rfl, rfl⟩
  unfold State.gapRecord
  split
  · exact .refl s
  · exact (s.ldgAppend_meterKept 1).1.comp (noted _ _)

theorem State.gapRecordIf_meterKept (s : State) (c : Bool) : s.MeterKept (s.gapRecordIf c) := by
  cases c
  · exact .refl s
  · exact s.gapRecord_meterKept

theorem State.periodDue_congr (hc : t.ldg.cfg = s.ldg.cfg) (ht : t.time.ldgSec = s.time.ldgSec) (hn : t.time.now = s.time.now) :
    t.periodDue = s.periodDue := by
  have period : t.ldgPeriodS = s.ldgPeriodS := by rw [State.ldgPeriodS, hc, State.ldgPeriodS]
  have now : t.nowNs = s.nowNs := by rw [State.nowNs, hn, State.nowNs]
  rw [State.periodDue, period, ht, now, State.periodDue]

/-- R344: what a millisecond that has not been sampled leaves. -/
theorem exec_ledgerSample_samples (hr : s.mcRuns = true) (hms : s.time.ldgMs < s.nowNs / 1000000) :
    ∃ t, exec .ledgerSample s = .next t ∧ s.Only t [.regs, .time, .ldg, .key] ∧ t.time.ldgMs = s.time.ldgMs + 1 ∧
      (∀ m, m < 2 → t.gapBit m = (s.stales.ldgSources m).isNone) ∧
      (∀ m, m < 2 → s.Integrates t m (s.stales.ldgSources m)) ∧
      (s.periodDue = false → (∀ m, m < 2 → s.gapBit m = (s.stales.ldgSources m).isNone) →
        t.time = { s.time with ldgMs := s.time.ldgMs + 1 } ∧ t.ldg.records = s.ldg.records ∧ t.key = s.key ∧
        t.ldg.gapMs = s.ldg.gapMs + b2n (s.stales.ldgSources 0).isNone + b2n (s.stales.ldgSources 1).isNone ∧
        s.RegsBut t ledgerKeys) := by
  have run := exec_ledgerSample s hr
  obtain ⟨gaps, ints, ch0, ch1, gapMs, ldg, time, regs, only⟩ := s.sampleBoth_samples
  rw [State.ldgSample_eq hms, ch0, ch1] at run
  generalize s.sampleBoth = v at run gaps ints gapMs ldg time regs only
  have kept := (v.ldgPeriod_meterKept.comp (State.gapRecordIf_meterKept _ (s.gapBit 0 != (s.stales.ldgSources 0).isNone))).comp
    (State.gapRecordIf_meterKept _ (s.gapBit 1 != (s.stales.ldgSources 1).isNone))
  have whole := (only.mono [.regs, .time, .ldg, .key] (by decide)).comp kept.2.2.2.2
  rw [whole.confine _ (by decide)] at run
  refine ⟨_, run, whole, ?_, fun m hm => (kept.gapBit m).trans (gaps m hm),
    fun m hm => (ints m hm).after (fun a _ => ⟨kept.acc a, kept.residualOf a⟩), fun notDue same => ?_⟩
  · rw [kept.2.2.2.1, time]
  · have due : v.periodDue = false := by
      rw [← notDue]
      exact State.periodDue_congr (by rw [ldg]) (by rw [time]) (by rw [time])
    have quiet : (v.ldgPeriod.gapRecordIf (s.gapBit 0 != (s.stales.ldgSources 0).isNone)).gapRecordIf
        (s.gapBit 1 != (s.stales.ldgSources 1).isNone) = v := by
      rw [State.ldgPeriod_idle due, same 0 (by decide), same 1 (by decide)]
      simp [State.gapRecordIf]
    rw [quiet]
    exact ⟨time, by rw [ldg], only.keeps State.key rfl, gapMs, regs⟩

/-! ## The other commands -/

theorem State.setStale_sets (s : State) {k : Nat} (hk : k < 8) : (s.setStale k true).ldgStale k = true ∧
    (∀ j, j ≠ k → (s.setStale k true).ldgStale j = s.ldgStale j) ∧ s.RegsBut (s.setStale k true) [K.LDG_STATUS] := by
  have stale : (s.setStale k true).fld F.LDG_STATUS_STALE = s.fld F.LDG_STATUS_STALE ||| 2 ^ k := by
    refine (s.fld_setFld_same F.LDG_STATUS_STALE _ (by decide) (by decide)).trans (Nat.mod_eq_of_lt ?_)
    exact Nat.or_lt_two_pow (s.fld_lt F.LDG_STATUS_STALE) (Nat.pow_lt_pow_right (by decide) hk)
  refine ⟨?_, fun j hj => ?_, s.regsBut_setFld F.LDG_STATUS_STALE _⟩
  · simp [State.ldgStale, stale]
  · simp [State.ldgStale, stale, Nat.testBit_two_pow_of_ne hj.symm]

theorem exec_inputStale_marks (hr : s.mcRuns = true) {k t0 : Nat} (hk : k < 8) (hd : mapGet (fun _ => none) s.ldg.delivered k = some t0)
    (ht : t0 + s.ldgStaleMs * 1000000 ≤ s.nowNs) :
    ∃ t, exec (.inputStale k) s = .next t ∧ t.ldgStale k = true ∧ (∀ j, j < 8 → j ≠ k → t.ldgStale j = s.ldgStale j) ∧
      s.RegsBut t [K.LDG_STATUS] ∧ s.Only t [.regs] := by
  have run := exec_inputStale s k (decide_eq_true hk) hr
  have effect : s.ldgInputStale k = s.setStale k true := by simp only [State.ldgInputStale, hd, ht, if_true]
  obtain ⟨marked, others, regs⟩ := s.setStale_sets hk
  have only : s.Only (s.setStale k true) [.regs] := rfl
  rw [effect, only.confine _ (by decide)] at run
  exact ⟨_, run, marked, fun j _ => others j, regs, only⟩

theorem State.setAcc_same (s : State) (a v : Nat) : (s.setAcc a v).acc a = v % 2 ^ 64 := by
  have apart : K.LDG_ACC_LO a ≠ K.LDG_ACC_HI a := by simp only [K.LDG_ACC_LO, K.LDG_ACC_HI]; omega
  exact s.pair_setPair apart (Nat.mod_lt _ (by decide))

theorem State.setAcc_other (s : State) {a b : Nat} (h : b ≠ a) (v : Nat) : (s.setAcc a v).acc b = s.acc b := by
  have regs : s.RegsBut (s.setAcc a v) [K.LDG_ACC_LO a, K.LDG_ACC_HI a] := s.regsBut_setPair _ _ _
  have lo : K.LDG_ACC_LO b ∉ [K.LDG_ACC_LO a, K.LDG_ACC_HI a] := by
    simp only [K.LDG_ACC_LO, K.LDG_ACC_HI, List.mem_cons, List.not_mem_nil, or_false]
    omega
  have hi : K.LDG_ACC_HI b ∉ [K.LDG_ACC_LO a, K.LDG_ACC_HI a] := by
    simp only [K.LDG_ACC_LO, K.LDG_ACC_HI, List.mem_cons, List.not_mem_nil, or_false]
    omega
  simp only [State.acc, State.pair, regs _ lo, regs _ hi]

/-- Accumulators taken from what was saved. -/
theorem forEach_setAcc_other {l : List Nat} {a : Nat} (h : a ∉ l) (s : State) :
    (forEach l (fun a s => s.setAcc a (s.ldg.saved.getD a 0)) s).acc a = s.acc a := by
  induction l generalizing s with
  | nil => rfl
  | cons b r ih =>
    obtain ⟨other, rest⟩ := not_or.mp (fun m => h (List.mem_cons.mpr m))
    exact (ih rest _).trans (s.setAcc_other other _)

theorem forEach_setAcc {l : List Nat} (hl : l.Nodup) (s : State) :
    ∀ a ∈ l, (forEach l (fun a s => s.setAcc a (s.ldg.saved.getD a 0)) s).acc a = s.ldg.saved.getD a 0 % 2 ^ 64 := by
  induction l generalizing s with
  | nil => simp
  | cons b r ih =>
    obtain ⟨fresh, rest⟩ := List.nodup_cons.mp hl
    intro a ha
    rcases List.mem_cons.mp ha with rfl | ha
    · exact (forEach_setAcc_other fresh _).trans (s.setAcc_same a _)
    · exact ih rest (s.setAcc b (s.ldg.saved.getD b 0)) a ha

theorem State.acc_lt (a : Nat) : s.acc a < 2 ^ 64 := by
  simp only [State.acc, State.pair]
  have lo := (s.reg (K.LDG_ACC_LO a)).isLt
  have hi := (s.reg (K.LDG_ACC_HI a)).isLt
  omega

theorem exec_ledgerPersist_stores (hr : s.mcRuns = true) :
    ∃ t, exec .ledgerPersist s = .next t ∧ s.Only t [.ldg] ∧
      t.ldg.record = s.ldg.record.write
        ((List.range 4).flatMap (fun a => beBytes 8 (s.acc a)) ++ (List.range 4).flatMap (fun a => beBytes 4 (s.residual a))) ∧
      ∀ a, a < 4 → t.ldgResume.acc a = s.acc a ∧ t.ldgResume.residual a = s.residual a := by
  have run := exec_ledgerPersist s hr
  have only : s.Only s.ldgPersist [.ldg] := rfl
  rw [only.confine _ (by decide)] at run
  refine ⟨_, run, only, rfl, fun a ha => ⟨?_, rfl⟩⟩
  have saved : ((List.range 4).map s.acc).getD a 0 = s.acc a := by simp [List.getD, ha]
  have resumed := forEach_setAcc (List.nodup_range (n := 4)) s.ldgPersist a (List.mem_range.mpr ha)
  exact resumed.trans ((congrArg (· % 2 ^ 64) saved).trans (Nat.mod_eq_of_lt (s.acc_lt a)))

/-- R348: a PERIOD record at a whole multiple of PERIOD_S. -/
theorem exec_periodRecord_records (hr : s.mcRuns = true) (hn : s.fld F.LDG_NEXT_INDEX + 1 < 2 ^ 32) (due : s.periodDue = true) :
    ∃ t, exec .periodRecord s = .next t ∧ t.ldg.records = (s.ldgRecord 0 :: s.ldg.records).take 32768 ∧
      t.fld F.LDG_NEXT_INDEX = s.fld F.LDG_NEXT_INDEX + 1 ∧ t.ldg.gapMs = 0 ∧ t.ldg.cfg = s.reg K.LDG_CFG ∧
      (∀ a, t.acc a = s.acc a) ∧
      (s.fld F.LDG_NEXT_INDEX % 256 = 255 → s.ldg.batchFirst ≤ s.fld F.LDG_NEXT_INDEX →
        t.ldg.batchFirst = t.fld F.LDG_NEXT_INDEX ∧
        ∃ r, r ∈ t.key.signQ ∧ r.key = 2 ∧ r.what = .batch s.ldg.batchFirst (s.fld F.LDG_NEXT_INDEX)) ∧
      t.time = { s.time with ldgSec := s.nowNs / 1000000000 } ∧ s.Only t [.regs, .time, .ldg, .key] := by
  have run := exec_periodRecord s hr
  obtain ⟨next, ldg, _, kept, put⟩ := s.ldgPut_puts 0
  obtain ⟨keptAll, _, only⟩ := s.ldgAppend_meterKept 0
  obtain ⟨regs, _⟩ := id keptAll
  have appended : (s.ldgAppend 0).fld F.LDG_NEXT_INDEX = s.fld F.LDG_NEXT_INDEX + 1 ∧ (s.ldgAppend 0).ldg.gapMs = 0 ∧
      (s.ldgAppend 0).ldg.records = (s.ldgRecord 0 :: s.ldg.records).take 32768 ∧
      (s.fld F.LDG_NEXT_INDEX % 256 = 255 → s.ldg.batchFirst ≤ s.fld F.LDG_NEXT_INDEX →
        (s.ldgAppend 0).ldg.batchFirst = s.fld F.LDG_NEXT_INDEX + 1 ∧
        ∃ r, r ∈ (s.ldgAppend 0).key.signQ ∧ r.key = 2 ∧ r.what = .batch s.ldg.batchFirst (s.fld F.LDG_NEXT_INDEX)) := by
    obtain ⟨status, _, _, _, records⟩ := (s.ldgPut 0).closeBatch_frame
    have first : (s.ldgPut 0).ldg.batchFirst = s.ldg.batchFirst := by rw [ldg]
    rw [s.ldgAppend_eq]
    by_cases whole : s.fld F.LDG_NEXT_INDEX % 256 = 255
    · rw [if_pos (.inl whole)]
      refine ⟨(status.fld (by decide)).trans (next hn), (s.ldgPut 0).closeBatch_gapMs.trans (by rw [ldg]), records.trans (by rw [ldg]),
        fun _ h => ?_⟩
      obtain ⟨closed, asked, _, _⟩ := (s.ldgPut 0).closeBatch_closes (by rw [first, next hn]; omega)
      rw [first, next hn, Nat.add_sub_cancel] at asked
      refine ⟨?_, asked⟩
      rw [closed, next hn]
    · rw [if_neg (by omega)]
      exact ⟨next hn, by rw [ldg], by rw [ldg], fun h => absurd h whole⟩
  have now : (s.ldgAppend 0).time = s.time := only.keeps State.time rfl
  have effect := State.ldgPeriod_due due
  generalize s.ldgAppend 0 = u at effect appended now only keptAll regs
  obtain ⟨index, gap, records, batch⟩ := appended
  have whole : s.Only s.ldgPeriod [.regs, .time, .ldg, .key] := by
    rw [effect]
    exact (only.mono _ (by decide)).comp rfl
  rw [whole.confine _ (by decide), effect] at run
  rw [effect] at whole
  have cfg : u.reg K.LDG_CFG = s.reg K.LDG_CFG := regs _ (by decide)
  refine ⟨_, run, records, index, gap, cfg, keptAll.acc, fun h1 h2 => ?_, ?_, whole⟩
  · obtain ⟨first, asked⟩ := batch h1 h2
    exact ⟨first.trans index.symm, asked⟩
  · show { u.time with ldgSec := u.nowNs / 1000000000 } = _
    rw [State.nowNs, now, State.nowNs]

/-- R350: SIGN closes the open batch, once at a time. -/
theorem exec_ledgerSign_signs (hr : s.mcRuns = true) (idle : s.ldg.signing = none) (h : s.ldg.batchFirst < s.fld F.LDG_NEXT_INDEX) :
    ∃ t r, exec .ledgerSign s = .next t ∧ t.ldg.batchFirst = s.fld F.LDG_NEXT_INDEX ∧
      t.ldg.signing = some (s.fld F.LDG_NEXT_INDEX - 1) ∧ t.ldg.records = s.ldg.records ∧ r ∈ t.key.signQ ∧ r.key = 2 ∧
      r.what = .batch s.ldg.batchFirst (s.fld F.LDG_NEXT_INDEX - 1) ∧
      (s.flag (F.LMS_STATUS_READY 2) = false → t.flag F.LDG_STATUS_SIGN_WAIT = true) ∧
      s.RegsBut t [K.LDG_STATUS] ∧ s.Only t [.regs, .ldg, .key] := by
  have run := exec_ledgerSign s hr
  have effect : s.ldgSign =
      { s.closeBatch with ldg := { s.closeBatch.ldg with signing := some (s.fld F.LDG_NEXT_INDEX - 1) } } := by
    have later : ¬ s.fld F.LDG_NEXT_INDEX ≤ s.ldg.batchFirst := by omega
    simp only [State.ldgSign, idle, Option.isSome_none, Bool.false_eq_true, if_false, later]
  obtain ⟨ldg, ⟨r, mem, key, what⟩, _, waits⟩ := s.closeBatch_closes h
  obtain ⟨regs, _, _, only, records⟩ := s.closeBatch_frame
  rw [effect] at run
  generalize s.closeBatch = u at run ldg mem waits regs only records
  have whole : s.Only { u with ldg := { u.ldg with signing := some (s.fld F.LDG_NEXT_INDEX - 1) } } [.regs, .ldg, .key] := only.comp rfl
  rw [whole.confine _ (by decide)] at run
  exact ⟨_, r, run, by rw [ldg], rfl, records, mem, key, what, waits, regs.after rfl, whole⟩

theorem exec_ledgerSign_idle (hr : s.mcRuns = true) (idle : s.ldg.signing = none) (h : s.fld F.LDG_NEXT_INDEX ≤ s.ldg.batchFirst) :
    exec .ledgerSign s = .next s := by
  have effect : s.ldgSign = s := by
    simp only [State.ldgSign, idle, Option.isSome_none, Bool.false_eq_true, if_false, h, if_true]
  rw [exec_ledgerSign s hr, effect, s.confine_self]

theorem exec_ledgerSign_busy (hr : s.mcRuns = true) (busy : s.ldg.signing ≠ none) :
    ∃ t, exec .ledgerSign s = .next t ∧ t.flag F.LDG_CTRL_ERR_BUSY = true ∧ s.RegsBut t [K.LDG_CTRL] ∧ s.Only t [.regs] := by
  have run := exec_ledgerSign s hr
  have effect : s.ldgSign = s.setFld F.LDG_CTRL_ERR_BUSY 1 := if_pos (Option.isSome_iff_ne_none.mpr busy)
  have only : s.Only (s.setFld F.LDG_CTRL_ERR_BUSY 1) [.regs] := rfl
  rw [effect, only.confine _ (by decide)] at run
  exact ⟨_, run, (s.flag_setFld_same F.LDG_CTRL_ERR_BUSY 1 rfl (by decide)).trans rfl, s.regsBut_setFld _ _, only⟩

theorem ldgRdData_injective : Function.Injective K.LDG_RD_DATA := fun i j h => by simp only [K.LDG_RD_DATA] at h; omega

theorem putBits_whole (w : Word) (v : Nat) : putBits w 31 0 v = BitVec.ofNat 32 v := by
  have full : maskOf 31 0 = BitVec.allOnes 32 := by decide
  simp only [putBits, full, BitVec.not_allOnes, BitVec.and_zero, BitVec.zero_or, BitVec.and_allOnes, BitVec.shiftLeft_zero]

/-- R353: the read window shows the record that the index names, or zeros. -/
theorem exec_ledgerRdIndexWrite_shows (hr : s.mcRuns = true) (w : Word) :
    ∃ t, exec (.ledgerRdIndexWrite w) s = .next t ∧ t.reg K.LDG_RD_INDEX = w ∧
      t.flag F.LDG_STATUS_GONE = (s.ldgAt w.toNat).isNone ∧
      (∀ j, j < 16 → t.reg (K.LDG_RD_DATA j) = BitVec.ofNat 32 (beAt ((s.ldgAt w.toNat).getD (List.replicate 64 0)) (4 * j) 4)) ∧
      s.RegsBut t (K.LDG_RD_INDEX :: K.LDG_STATUS :: (List.range 16).map K.LDG_RD_DATA) ∧ s.Only t [.regs] := by
  have run := exec_ledgerRdIndexWrite s w hr
  let u := (s.setReg K.LDG_RD_INDEX w).setFld F.LDG_RD_INDEX_INDEX w.toNat
  let b := (s.ldgAt w.toNat).getD (List.replicate 64 0)
  have index : u.reg K.LDG_RD_INDEX = w := by
    refine ((s.setReg K.LDG_RD_INDEX w).reg_setReg_same K.LDG_RD_INDEX _).trans ((putBits_whole _ _).trans ?_)
    exact BitVec.ofNat_toNat 32 w
  have first : s.RegsBut u [K.LDG_RD_INDEX] := (s.regsBut_setReg _ _).comp (State.regsBut_setFld _ F.LDG_RD_INDEX_INDEX _)
  have at_ : u.ldgAt w.toNat = s.ldgAt w.toNat := by
    have next : u.fld F.LDG_NEXT_INDEX = s.fld F.LDG_NEXT_INDEX := first.fld (by decide)
    rw [State.ldgAt, next]
    rfl
  have effect : s.writeLdgIndex 0xFFFFFFFF w = (u.latchRow K.LDG_RD_DATA 16 b).setFld F.LDG_STATUS_GONE (b2n (s.ldgAt w.toNat).isNone) := by
    have eq : s.writeLdgIndex 0xFFFFFFFF w = (s.setReg K.LDG_RD_INDEX w).ldgRead w.toNat := by
      rw [State.writeLdgIndex, show maskWord (s.reg K.LDG_RD_INDEX) 0xFFFFFFFF w = w from maskWord_ones _ w]
    have read : (s.setReg K.LDG_RD_INDEX w).ldgRead w.toNat = match u.ldgAt w.toNat with
      | some r => (u.showBytes K.LDG_RD_DATA r).setFld F.LDG_STATUS_GONE 0
      | none => (u.showBytes K.LDG_RD_DATA (List.replicate 64 0)).setFld F.LDG_STATUS_GONE 1 := rfl
    rw [eq, read, at_]
    simp only [b, State.showBytes_eq]
    cases s.ldgAt w.toNat <;> rfl
  have row := u.latchRow_regsBut (key := K.LDG_RD_DATA) b 16
  have gone := (u.latchRow K.LDG_RD_DATA 16 b).regsBut_setFld F.LDG_STATUS_GONE (b2n (s.ldgAt w.toNat).isNone)
  have only : s.Only ((u.latchRow K.LDG_RD_DATA 16 b).setFld F.LDG_STATUS_GONE (b2n (s.ldgAt w.toNat).isNone)) [.regs] :=
    (State.Only.comp (show s.Only u [.regs] from rfl) (u.latchRow_only b 16)).comp rfl
  rw [effect, only.confine _ (by decide)] at run
  refine ⟨_, run, ?_, ?_, fun j hj => ?_, ?_, only⟩
  · rw [gone _ (by decide), row _ (by decide), index]
  · rw [State.flag_setFld_same _ _ _ rfl (by decide)]
    cases (s.ldgAt w.toNat).isNone <;> rfl
  · rw [gone _ (by simp only [F.LDG_STATUS_GONE, K.LDG_STATUS, K.LDG_RD_DATA, List.mem_singleton]; omega),
      u.latchRow_reg b ldgRdData_injective hj]
  · exact ((first.mono (by simp)).comp (row.mono (fun k hk => List.mem_cons_of_mem _ (List.mem_cons_of_mem _ hk)))).comp
      (gone.mono (by simp [F.LDG_STATUS_GONE]))

end

/-- Settles O47. A millisecond samples each meter by its sources and keeps what the other holds; a record, a batch and the read window
each change their own registers. -/
theorem ledgerIntegratesAndRecords : Obligations.LedgerIntegratesAndRecords := by
  unfold Obligations.LedgerIntegratesAndRecords
  refine ⟨fun s hr done => ?_, fun s u hr hms hu => ?_, fun s hr => ⟨fun k t0 hk hd ht => exec_inputStale_marks hr hk hd ht,
    exec_ledgerPersist_stores hr, fun notDue => ?_, fun hn due => exec_periodRecord_records hr hn due,
    fun idle h => exec_ledgerSign_signs hr idle h, fun idle h => exec_ledgerSign_idle hr idle h,
    fun busy => exec_ledgerSign_busy hr busy, fun w => exec_ledgerRdIndexWrite_shows hr w⟩⟩
  · have effect : s.ldgSample = s := if_pos done
    rw [exec_ledgerSample s hr, effect, s.confine_self]
  · subst hu
    obtain ⟨t, run, only, ms, gaps, ints, quiet⟩ := exec_ledgerSample_samples hr hms
    exact ⟨t, run, only, ms, gaps, fun m hm => (ints m hm).1, fun m i v p hm => (ints m hm).2 i v p, quiet⟩
  · rw [exec_periodRecord s hr, State.ldgPeriod_idle notDue, s.confine_self]

end Sys2Proof.Machine
end

section
/-!
SUPPORT. The key engine beside the key commands (spec/11): the leaf pairs of the signing keys, what a signature changes when it is
released, and a life cycle that waits for its batch.
-/
namespace Sys2Proof.Machine

section
variable {s t : State} {c : Cmd} {rest : List Cmd}

/-! ## Commands that end -/

theorem State.endCmd_execQ {u : State} (hq : u.mgt.execQ = c :: rest) (status : Nat) : (u.endCmd c status 0).mgt.execQ = rest := by
  rw [(u.endCmd_journaled c status 0).execQ]
  show u.mgt.execQ.drop 1 = rest
  rw [hq]
  rfl

/-- The MC runs on where the registers of the start, sleep, faults and BOOT stay. -/
theorem State.RegsBut.mcRuns {keys : List Nat} (h : s.RegsBut t keys) (hk : K.BOOT_STATUS ∉ keys) (nm : t.nm = s.nm) (boot : t.boot = s.boot)
    (saf : t.saf = s.saf) (hr : s.mcRuns = true) : t.mcRuns = true := by
  have state : t.fld F.BOOT_STATUS_STATE = s.fld F.BOOT_STATUS_STATE := h.fld hk
  rw [State.mcRuns, nm, boot, saf, state]
  exact hr

theorem exec_keyOperationDone_ends (hr : s.mcRuns = true) (hq : s.mgt.execQ = c :: rest) {status : Nat}
    (h : s.key.keyOp = some (c.opcode, status)) :
    ∃ t, exec .keyOperationDone s = .next t ∧ t.key.keyOp = none ∧ t.flag F.KEY_STATUS_BUSY = false ∧ t.mgt.execQ = rest ∧
      t.key.slots = s.key.slots ∧ s.RegsBut t (K.KEY_STATUS :: journalKeys) ∧ s.Only t [.regs, .mgt, .key] := by
  have run := exec_keyOperationDone s hr
  let u := { s with key := { s.key with keyOp := none } }.setFld F.KEY_STATUS_BUSY 0
  have idle : s.RegsBut u [K.KEY_STATUS] := (State.regsBut_setFld _ F.KEY_STATUS_BUSY 0).from rfl
  have head : u.execHead c.opcode = some c := State.execHead_of (s := u) (idle.mcRuns (by decide) rfl rfl rfl hr) hq
  have effect : s.keyDone = u.endCmd c status 0 := by
    simp only [State.keyDone, h]
    show (match u.execHead c.opcode with | none => u | some c => u.endCmd c status 0) = _
    rw [head]
  have only : s.Only (u.endCmd c status 0) [.regs, .mgt, .key] :=
    (show s.Only u [.regs, .mgt, .key] from rfl).comp (u.endCmd_only c status 0)
  have ended := u.endCmd_regsBut c status 0
  rw [effect, only.confine _ (by decide)] at run
  refine ⟨_, run, (u.endCmd_keysKept c status 0).keyOp, ?_, State.endCmd_execQ (u := u) hq status, (u.endCmd_keysKept c status 0).slots,
    (idle.mono (by simp)).comp (ended.mono (fun k hk => List.mem_cons_of_mem _ hk)), only⟩
  exact (ended.flag (by decide)).trans ((State.flag_setFld_same _ F.KEY_STATUS_BUSY 0 rfl (by decide)).trans rfl)

theorem lastSeq_fresh (e : Nat) : K.MGT_LAST_SEQ e ∉ journalKeys := by
  simp only [journalKeys, K.MGT_LAST_SEQ, K.MGT_CFG, K.JRN_STATUS, K.JRN_HEAD_LO, K.JRN_HEAD_HI, K.JRN_CP_LO, K.JRN_CP_HI, List.mem_cons,
    List.not_mem_nil, or_false]
  omega

theorem exec_cmdKeyAdvance_ends (hr : s.mcRuns = true) (hq : s.mgt.execQ = c :: rest) (hop : c.opcode = 0x34) :
    ∃ t, exec .cmdKeyAdvance s = .next t ∧ t.fld (F.MGT_LAST_SEQ_SEQ c.origin) = 0 ∧ t.mgt.execQ = rest ∧
      s.RegsBut t (K.MGT_LAST_SEQ c.origin :: journalKeys) ∧ s.Only t [.regs, .mgt, .key] := by
  have run := exec_cmdKeyAdvance s hr
  have head : s.execHead 0x34 = some c := hop ▸ State.execHead_of hr hq
  let u := s.endCmd c 0 0
  have effect : s.cmdKeyAdvance = u.setFld (F.MGT_LAST_SEQ_SEQ c.origin) 0 := by simp only [State.cmdKeyAdvance, head, u]
  have only : s.Only (u.setFld (F.MGT_LAST_SEQ_SEQ c.origin) 0) [.regs, .mgt, .key] := (s.endCmd_only c 0 0).comp rfl
  rw [effect, only.confine _ (by decide)] at run
  refine ⟨_, run, ?_, State.endCmd_execQ hq 0, ((s.endCmd_regsBut c 0 0).mono (fun k hk => List.mem_cons_of_mem _ hk)).comp
    ((u.regsBut_setFld (F.MGT_LAST_SEQ_SEQ c.origin) 0).mono (by simp [F.MGT_LAST_SEQ_SEQ])), only⟩
  exact (u.fld_setFld_same (F.MGT_LAST_SEQ_SEQ c.origin) 0 (by simp [F.MGT_LAST_SEQ_SEQ]) (by simp [F.MGT_LAST_SEQ_SEQ])).trans
    (Nat.zero_mod _)

theorem exec_attest_asks (hr : s.mcRuns = true) (hq : s.mgt.execQ = c :: rest) (hop : c.opcode = 0x35) (h : s.mgt.attesting = false) :
    ∃ t r, exec .attest s = .next t ∧ t.mgt = { s.mgt with attesting := true } ∧ r ∈ t.key.signQ ∧ r.key = 0 ∧
      r.what = .attest c ∧ r.payload = s.attestPayload c.body ∧ t.key.signQ.length = s.key.signQ.length + 1 ∧
      s.Only t [.mgt, .key] := by
  have run := exec_attest s hr
  have head : s.execHead 0x35 = some c := hop ▸ State.execHead_of hr hq
  let u : State := { s with mgt := { s.mgt with attesting := true } }
  have effect : s.attest = u.requestSign 0 (.attest c) (s.attestPayload c.body) := by
    simp only [State.attest, head, h, Bool.false_eq_true, if_false, u]
  generalize s.attestPayload c.body = p at effect ⊢
  have only : s.Only (u.requestSign 0 (.attest c) p) [.mgt, .key] := rfl
  rw [effect, only.confine _ (by decide)] at run
  exact ⟨_, _, run, rfl, (u.mem_requestSign 0 (.attest c) p _).mpr (.inl rfl), rfl, rfl, rfl, u.requestSign_length 0 (.attest c) p, only⟩

/-! ## Keys that are ready -/

theorem exec_signingKeyReady_retired (k : Nat) (hr : s.mcRuns = true) (h : 4 ≤ s.lcState) : exec (.signingKeyReady k) s = .next s := by
  by_cases wf : Instr.wf (.signingKeyReady k) = true
  · rw [exec_signingKeyReady s k wf hr, show s.keyReady k = s from if_pos h, s.confine_self]
  · exact exec_illFormed (by simpa using wf) s

theorem lmsStatus_far (k : Nat) (hk : k < 3) : K.LMS_STATUS k ≠ K.JRN_STATUS ∧ K.LMS_STATUS k ≠ K.LDG_STATUS := by
  simp only [K.LMS_STATUS, K.JRN_STATUS, K.LDG_STATUS]
  omega

theorem exec_signingKeyReady_serves {k : Nat} (hr : s.mcRuns = true) (hk : k < 3) (h : s.lcState < 4) :
    ∃ t, exec (.signingKeyReady k) s = .next t ∧ t.flag (F.LMS_STATUS_READY k) = true ∧
      (k = 1 → t.flag F.JRN_STATUS_SIGN_WAIT = false) ∧ (k = 2 → t.flag F.LDG_STATUS_SIGN_WAIT = false) ∧
      s.RegsBut t [K.LMS_STATUS k, K.JRN_STATUS, K.LDG_STATUS] ∧ s.Only t [.regs] := by
  have run := exec_signingKeyReady s k (by simpa [Instr.wf] using hk) hr
  let u := s.setFld (F.LMS_STATUS_READY k) 1
  obtain ⟨jrn, ldg⟩ := lmsStatus_far k hk
  have ready : u.flag (F.LMS_STATUS_READY k) = true :=
    (s.flag_setFld_same (F.LMS_STATUS_READY k) 1 rfl (show 0 < 32 by decide)).trans rfl
  have regs : s.RegsBut u [K.LMS_STATUS k, K.JRN_STATUS, K.LDG_STATUS] :=
    (s.regsBut_setFld (F.LMS_STATUS_READY k) 1).mono (by simp [F.LMS_STATUS_READY])
  have whole : s.Only (s.keyReady k) [.regs] := by
    unfold State.keyReady
    split <;> [rfl; skip]
    simp only
    split <;> [rfl; skip]
    split <;> rfl
  have effect : s.keyReady k = if k = 1 then u.setFld F.JRN_STATUS_SIGN_WAIT 0 else if k = 2 then u.setFld F.LDG_STATUS_SIGN_WAIT 0 else u :=
    if_neg (by omega)
  rw [whole.confine _ (by decide), effect] at run
  rw [effect] at whole
  refine ⟨_, run, ?_, fun h1 => ?_, fun h2 => ?_, ?_, whole⟩
  · split
    · exact ((u.regsBut_setFld F.JRN_STATUS_SIGN_WAIT 0).flag (fun m => jrn (List.mem_singleton.mp m))).trans ready
    · split
      · exact ((u.regsBut_setFld F.LDG_STATUS_SIGN_WAIT 0).flag (fun m => ldg (List.mem_singleton.mp m))).trans ready
      · exact ready
  · rw [if_pos h1, u.flag_setFld_same F.JRN_STATUS_SIGN_WAIT 0 rfl (by decide)]
    rfl
  · rw [if_neg (by omega), if_pos h2, u.flag_setFld_same F.LDG_STATUS_SIGN_WAIT 0 rfl (by decide)]
    rfl
  · split
    · exact regs.comp ((u.regsBut_setFld F.JRN_STATUS_SIGN_WAIT 0).mono (by simp [F.JRN_STATUS_SIGN_WAIT]))
    · split
      · exact regs.comp ((u.regsBut_setFld F.LDG_STATUS_SIGN_WAIT 0).mono (by simp [F.LDG_STATUS_SIGN_WAIT]))
      · exact regs

theorem exec_lmsTreeReady_stands {k : Nat} (hr : s.mcRuns = true) (hk : k < 3) (h : s.flag (F.LMS_STATUS_READY k) = true)
    (hn : s.lmsNext k % 2 ^ 20 ≠ 0) :
    ∃ t, exec (.lmsTreeReady k) s = .next t ∧ t.flag (F.LMS_STATUS_NEXT_TREE k) = true ∧
      s.RegsBut t [K.LMS_STATUS k] ∧ s.Only t [.regs] := by
  have run := exec_lmsTreeReady s k (by simpa [Instr.wf] using hk) hr
  have effect : s.treeReady k = s.setFld (F.LMS_STATUS_NEXT_TREE k) 1 := if_pos ⟨h, hn⟩
  have only : s.Only (s.setFld (F.LMS_STATUS_NEXT_TREE k) 1) [.regs] := rfl
  rw [effect, only.confine _ (by decide)] at run
  exact ⟨_, run, (s.flag_setFld_same (F.LMS_STATUS_NEXT_TREE k) 1 rfl (show 1 < 32 by decide)).trans rfl, s.regsBut_setFld _ _, only⟩

/-! ## Leaf pairs -/

/-- The registers of the signing keys are among those that `keys` leaves. -/
theorem State.RegsBut.lmsNext {keys : List Nat} (h : s.RegsBut t keys) {k : Nat} (lo : K.LMS_NEXT_LO k ∉ keys) (hi : K.LMS_NEXT_HI k ∉ keys) :
    t.lmsNext k = s.lmsNext k := by
  simp only [State.lmsNext, State.pair, h _ lo, h _ hi]

/-- What the release of a signature can change beside the key's own registers. -/
def releaseKeys : List Nat := K.LDG_SIGNED :: journalKeys

theorem lms_apart (k : Nat) (hk : k < 3) :
    K.LMS_STATUS k ∉ releaseKeys ∧ K.LMS_NEXT_LO k ∉ releaseKeys ∧ K.LMS_NEXT_HI k ∉ releaseKeys := by
  interval_cases k <;> decide

theorem State.writeRec_leaves {n : Nat} (h : n ≠ recEnergy) (payload : List Byte) :
    (s.writeRec n payload).regs = s.regs ∧ (s.writeRec n payload).mgt = s.mgt ∧ (s.writeRec n payload).ldg = s.ldg ∧
    (s.writeRec n payload).key.signQ = s.key.signQ := by
  unfold State.writeRec State.setTwoPhase
  rw [if_neg h]
  exact ⟨rfl, rfl, rfl, rfl⟩

/-- R328, R329: the pair of the next signature is one further, and the last one exhausts the key. -/
theorem State.takeLeaf_takes {k : Nat} (hk : k < 3) (hn : s.lmsNext k < 2 ^ 40) (hx : s.flag (F.LMS_STATUS_EXHAUSTED k) = false) :
    (s.takeLeaf k).lmsNext k = s.lmsNext k + 1 ∧ (s.takeLeaf k).flag (F.LMS_STATUS_EXHAUSTED k) = decide (s.lmsNext k + 1 = 2 ^ 40) ∧
    s.RegsBut (s.takeLeaf k) [K.LMS_STATUS k, K.LMS_NEXT_LO k, K.LMS_NEXT_HI k] ∧ (s.takeLeaf k).mgt = s.mgt ∧
    (s.takeLeaf k).key.signQ = s.key.signQ ∧ (s.takeLeaf k).ldg = s.ldg := by
  let a := if s.lmsNext k % 0x100000 = 0 then s.setFld (F.LMS_STATUS_NEXT_TREE k) 0 else s
  let b := a.setPair (K.LMS_NEXT_LO k) (K.LMS_NEXT_HI k) (s.lmsNext k + 1)
  let d := b.writeRec (recLms k) (beBytes 8 (s.lmsNext k + 1))
  have eq : s.takeLeaf k = if s.lmsNext k + 1 = 2 ^ 40 then d.setFld (F.LMS_STATUS_EXHAUSTED k) 1 else d := rfl
  obtain ⟨regs, mgt', ldg', queue⟩ : d.regs = b.regs ∧ d.mgt = b.mgt ∧ d.ldg = b.ldg ∧ d.key.signQ = b.key.signQ :=
    State.writeRec_leaves (by simp only [recLms, recEnergy]; omega) _
  have tree : s.RegsBut a [K.LMS_STATUS k] ∧ a.mgt = s.mgt ∧ a.key = s.key ∧ a.ldg = s.ldg ∧ a.flag (F.LMS_STATUS_EXHAUSTED k) = false := by
    simp only [a]
    split
    · exact ⟨s.regsBut_setFld _ _, rfl, rfl, rfl,
        (s.flag_setFld_bits (f := F.LMS_STATUS_NEXT_TREE k) (g := F.LMS_STATUS_EXHAUSTED k) 0 rfl rfl (show 1 < 32 by decide) rfl
          (show 1 ≠ 2 by decide)).trans hx⟩
    · exact ⟨State.RegsBut.refl s _, rfl, rfl, rfl, hx⟩
  obtain ⟨status, mgt, key, ldg, fresh⟩ := tree
  have signQ : d.key.signQ = s.key.signQ := queue.trans (congrArg (fun k => k.signQ) key)
  have same : d.mgt = s.mgt ∧ d.ldg = s.ldg := ⟨mgt'.trans mgt, ldg'.trans ldg⟩
  have halves : K.LMS_NEXT_LO k ≠ K.LMS_NEXT_HI k := by simp [K.LMS_NEXT_LO, K.LMS_NEXT_HI]
  have next : b.lmsNext k = s.lmsNext k + 1 := a.pair_setPair halves (by omega)
  have pairOnly := a.regsBut_setPair (K.LMS_NEXT_LO k) (K.LMS_NEXT_HI k) (s.lmsNext k + 1)
  have next' : d.lmsNext k = s.lmsNext k + 1 := ((State.regsBut_of_regs regs []).lmsNext (by simp) (by simp)).trans next
  have all : s.RegsBut d [K.LMS_STATUS k, K.LMS_NEXT_LO k, K.LMS_NEXT_HI k] :=
    ((status.mono (by simp)).comp (pairOnly.mono (by simp))).after regs
  have unspent : d.flag (F.LMS_STATUS_EXHAUSTED k) = false := by
    refine Eq.trans ?_ fresh
    refine State.RegsBut.flag (l := [K.LMS_NEXT_LO k, K.LMS_NEXT_HI k]) (pairOnly.after regs) ?_
    simp [F.LMS_STATUS_EXHAUSTED, K.LMS_STATUS, K.LMS_NEXT_LO, K.LMS_NEXT_HI]
  rw [eq]
  split
  case isTrue last =>
    have mark := d.regsBut_setFld (F.LMS_STATUS_EXHAUSTED k) 1
    refine ⟨(mark.lmsNext ?_ ?_).trans next', ?_, all.comp (mark.mono (by simp [F.LMS_STATUS_EXHAUSTED])), same.1, signQ, same.2⟩
    · simp [F.LMS_STATUS_EXHAUSTED, K.LMS_STATUS, K.LMS_NEXT_LO]
    · simp [F.LMS_STATUS_EXHAUSTED, K.LMS_STATUS, K.LMS_NEXT_HI]
    · rw [d.flag_setFld_same (F.LMS_STATUS_EXHAUSTED k) 1 rfl (show 2 < 32 by decide), decide_eq_true last]
      rfl
  case isFalse more =>
    exact ⟨next', unspent.trans (decide_eq_false more).symm, all, same.1, signQ, same.2⟩

/-- A signature that is delivered leaves the key's own registers. -/
theorem State.deliverSigned_frame (w : SignFor) (b : List Byte) : s.RegsBut (s.deliverSigned w b) releaseKeys ∧
    (∀ c, w = .attest c → (s.deliverSigned w b).mgt.attesting = false) ∧
    (∀ first last, w = .batch first last → (s.deliverSigned w b).fld F.LDG_SIGNED_INDEX = last % 2 ^ 32 ∧
      (s.deliverSigned w b).ldg.unsigned = last + 1 ∧ (s.deliverSigned w b).key = s.key ∧ (s.deliverSigned w b).mgt = s.mgt) := by
  have data (u : State) (c : Cmd) (d : List Byte) (h : u.regs = s.regs) : s.RegsBut (u.endData c d) releaseKeys :=
    ((u.endData_regsBut c d).from h).mono (fun k hk => List.mem_cons_of_mem _ hk)
  cases w with
  | checkpoint j =>
    refine ⟨?_, (fun _ h => by cases h), (fun _ _ h => by cases h)⟩
    simp only [State.deliverSigned, State.endCheckpoint]
    split
    · split
      · exact data _ _ _ rfl
      · exact State.regsBut_of_regs rfl _
    · exact State.regsBut_of_regs rfl _
  | attest c =>
    refine ⟨data _ c b rfl, fun _ _ => ?_, (fun _ _ h => by cases h)⟩
    let u : State := { s with mgt := { s.mgt with attesting := false } }
    show (u.endData c b).mgt.attesting = false
    rw [State.endData, (u.endCmd c 0 0).answer_keeps c 1 b (fun m => m.attesting) (fun _ _ => rfl) (fun _ _ => rfl) (fun _ _ => rfl)]
    exact congrArg (fun m => m.attesting) (u.endCmd_journaled c 0 0)
  | batch first last =>
    let u : State := { s with ldg := { s.ldg with
      signatures := ((first, last, b) :: s.ldg.signatures).take 128, unsigned := last + 1,
      signing := if s.ldg.signing = some last then none else s.ldg.signing } }
    have eq : s.deliverSigned (.batch first last) b = u.setFld F.LDG_SIGNED_INDEX last := rfl
    rw [eq]
    refine ⟨((u.regsBut_setFld F.LDG_SIGNED_INDEX last).mono (by decide)).from rfl, (fun _ h => by cases h), fun _ _ h => ?_⟩
    obtain ⟨rfl, rfl⟩ := SignFor.batch.inj h
    exact ⟨u.fld_setFld_same F.LDG_SIGNED_INDEX _ (by decide) (by decide), rfl, rfl, rfl⟩
  | transition => exact ⟨State.regsBut_of_regs rfl _, (fun _ h => by cases h), (fun _ _ h => by cases h)⟩

/-- R328: a released signature takes the next pair of its key. -/
theorem exec_signatureRelease_takes (hr : s.mcRuns = true) {r : SignReq} (found : s.key.signQ.find? s.signable = some r) (hk : r.key < 3)
    (hn : s.lmsNext r.key < 2 ^ 40) :
    ∃ t, exec .signatureRelease s = .next t ∧ s.Only t [.regs, .mgt, .ldg, .key] ∧ t.lmsNext r.key = s.lmsNext r.key + 1 ∧
      (∀ k, k < 3 → k ≠ r.key → t.lmsNext k = s.lmsNext k) ∧
      t.flag (F.LMS_STATUS_EXHAUSTED r.key) = decide (s.lmsNext r.key + 1 = 2 ^ 40) ∧
      (∀ c, r.what = .attest c → t.mgt.attesting = false) ∧
      (∀ a b, r.what = .batch a b → t.fld F.LDG_SIGNED_INDEX = b % 2 ^ 32 ∧ t.ldg.unsigned = b + 1 ∧
        t.key.signQ = s.key.signQ.erase r ∧ t.mgt = s.mgt) := by
  have run := exec_signatureRelease s hr
  let u : State := { s with key := { s.key with signQ := s.key.signQ.erase r } }
  let v := u.takeLeaf r.key
  have unspent : u.flag (F.LMS_STATUS_EXHAUSTED r.key) = false := by
    have able := List.find?_some found
    simp only [State.signable, Bool.and_eq_true, Bool.not_eq_true'] at able
    exact able.1.2
  obtain ⟨next, exhausted, regs, mgt, signQ, _⟩ := State.takeLeaf_takes (s := u) hk hn unspent
  obtain ⟨cose, effect⟩ : ∃ cose, s.signNext = v.deliverSigned r.what cose := by
    simp only [State.signNext, found]
    exact ⟨_, rfl⟩
  rw [effect] at run
  obtain ⟨regs', attest, batch⟩ := State.deliverSigned_frame (s := v) r.what cose
  generalize v.deliverSigned r.what cose = w at run regs' attest batch
  obtain ⟨status, lo, hi⟩ := lms_apart r.key hk
  refine ⟨_, run, s.only_confine _ _, (regs'.lmsNext lo hi).trans next, fun k hk' ne => ?_, (regs'.flag status).trans exhausted, attest,
    fun a b h => ?_⟩
  · obtain ⟨_, lo', hi'⟩ := lms_apart k hk'
    refine (regs'.lmsNext lo' hi').trans ((regs.lmsNext ?_ ?_).trans rfl)
    · simp only [K.LMS_STATUS, K.LMS_NEXT_LO, K.LMS_NEXT_HI, List.mem_cons, List.not_mem_nil, or_false]
      omega
    · simp only [K.LMS_STATUS, K.LMS_NEXT_LO, K.LMS_NEXT_HI, List.mem_cons, List.not_mem_nil, or_false]
      omega
  · obtain ⟨index, unsigned, key, mgt'⟩ := batch a b h
    exact ⟨index, unsigned, (congrArg (fun k => k.signQ) key).trans signQ, mgt'.trans mgt⟩

/-! ## A life cycle that waits -/

/-- A TRANSITION record closes its batch, and no request of the LDG key can be signed while that key is not ready. -/
theorem State.ldgAppend_closes (hn : s.fld F.LDG_NEXT_INDEX + 1 < 2 ^ 32) (hb : s.ldg.batchFirst ≤ s.fld F.LDG_NEXT_INDEX) :
    (s.ldgAppend 3).fld F.LDG_NEXT_INDEX = s.fld F.LDG_NEXT_INDEX + 1 ∧
    (s.ldgAppend 3).ldg.batchFirst = s.fld F.LDG_NEXT_INDEX + 1 ∧
    (∃ r, r ∈ (s.ldgAppend 3).key.signQ ∧ r.what = .batch s.ldg.batchFirst (s.fld F.LDG_NEXT_INDEX)) ∧
    (∀ r ∈ (s.ldgAppend 3).key.signQ, r.key = 2 ∨ r ∈ s.key.signQ) ∧
    (s.flag (F.LMS_STATUS_READY 2) = false → (s.ldgAppend 3).flag F.LDG_STATUS_SIGN_WAIT = true) := by
  obtain ⟨next, ldg, key, ⟨regs, _⟩, _⟩ := s.ldgPut_puts 3
  have first : (s.ldgPut 3).ldg.batchFirst = s.ldg.batchFirst := by rw [ldg]
  have stands : (s.ldgPut 3).ldg.batchFirst < (s.ldgPut 3).fld F.LDG_NEXT_INDEX := by rw [first, next hn]; omega
  obtain ⟨closed, ⟨r, mem, _, what⟩, others, waits⟩ := (s.ldgPut 3).closeBatch_closes stands
  obtain ⟨status, _⟩ := (s.ldgPut 3).closeBatch_frame
  rw [first, next hn, Nat.add_sub_cancel] at what
  rw [s.ldgAppend_eq, if_pos (.inr rfl)]
  refine ⟨(status.fld (by decide)).trans (next hn), by rw [closed, next hn], ⟨r, mem, what⟩, fun q hq => ?_, fun h => waits ?_⟩
  · exact (others q hq).imp id (fun m => by rwa [key] at m)
  · exact (regs.flag (by decide)).trans h

theorem State.reg_ne_zero_of_flag {f : Fld} (h : s.flag f = true) : s.reg f.key ≠ 0#32 := fun zero => by
  simp [State.flag, zero] at h

/-- While the registers of the ledger alone change, and its status is not 0, no request can be signed that could not be before. -/
theorem State.signable_of_after (regs : s.RegsBut t [K.LDG_NEXT, K.LDG_STATUS]) (waits : t.flag F.LDG_STATUS_SIGN_WAIT = true) (r : SignReq)
    (h : t.signable r = true) : s.signable r = true := by
  have far : K.LMS_STATUS r.key ∉ [K.LDG_NEXT, K.LDG_STATUS] := by
    simp only [K.LMS_STATUS, K.LDG_NEXT, K.LDG_STATUS, List.mem_cons, List.not_mem_nil, or_false]
    omega
  have lo : t.reg (K.LMS_NEXT_LO r.key) = s.reg (K.LMS_NEXT_LO r.key) := regs _ (by
    simp only [K.LMS_NEXT_LO, K.LDG_NEXT, K.LDG_STATUS, List.mem_cons, List.not_mem_nil, or_false]
    omega)
  have hi : t.reg (K.LMS_NEXT_HI r.key) = s.reg (K.LMS_NEXT_HI r.key) ∨ t.reg (K.LMS_NEXT_HI r.key) ≠ 0#32 := by
    by_cases shared : K.LMS_NEXT_HI r.key = K.LDG_STATUS
    · exact .inr (shared ▸ State.reg_ne_zero_of_flag waits)
    · refine .inl (regs _ ?_)
      simp only [List.mem_cons, List.not_mem_nil, or_false, not_or]
      exact ⟨by simp only [K.LMS_NEXT_HI, K.LDG_NEXT]; omega, shared⟩
  have low (u : State) : u.lmsNext r.key % 0x100000 = (u.reg (K.LMS_NEXT_LO r.key)).toNat % 0x100000 := by
    simp only [State.lmsNext, State.pair]
    omega
  have start : t.lmsNext r.key = 0 → s.lmsNext r.key = 0 := fun zero => by
    rcases hi with same | nonzero
    · simpa only [State.lmsNext, State.pair, lo, same] using zero
    · have : (t.reg (K.LMS_NEXT_HI r.key)).toNat ≠ 0 := fun e => nonzero (BitVec.eq_of_toNat_eq (by simpa using e))
      simp only [State.lmsNext, State.pair] at zero
      omega
  have state : t.lcState = s.lcState := regs.fld (by decide)
  have ready : t.flag (F.LMS_STATUS_READY r.key) = s.flag (F.LMS_STATUS_READY r.key) := regs.flag far
  have spent : t.flag (F.LMS_STATUS_EXHAUSTED r.key) = s.flag (F.LMS_STATUS_EXHAUSTED r.key) := regs.flag far
  have tree : t.flag (F.LMS_STATUS_NEXT_TREE r.key) = s.flag (F.LMS_STATUS_NEXT_TREE r.key) := regs.flag far
  simp only [State.signable, state, ready, spent, tree, low, lo, Bool.and_eq_true, Bool.or_eq_true, beq_iff_eq] at h ⊢
  exact ⟨h.1, h.2.imp (Or.imp id start) id⟩

theorem State.signable_congr (regs : s.RegsBut t [K.LCS_STATUS]) (state : t.lcState = s.lcState) (r : SignReq) : t.signable r = s.signable r := by
  have far : K.LMS_STATUS r.key ∉ [K.LCS_STATUS] := by
    simp only [K.LMS_STATUS, K.LCS_STATUS, List.mem_singleton]
    omega
  have next : t.lmsNext r.key = s.lmsNext r.key :=
    regs.lmsNext (by simp only [K.LMS_NEXT_LO, K.LCS_STATUS, List.mem_singleton]; omega)
      (by simp only [K.LMS_NEXT_HI, K.LCS_STATUS, List.mem_singleton]; omega)
  simp only [State.signable, state, next, regs.flag (f := F.LMS_STATUS_READY r.key) far, regs.flag (f := F.LMS_STATUS_EXHAUSTED r.key) far,
    regs.flag (f := F.LMS_STATUS_NEXT_TREE r.key) far]

theorem State.lcSteps_waits {x : Transition} (h : s.key.transition = some x) (step : x.step = 2) (waits : s.batchWaits = true)
    (nothing : s.key.signQ.any s.signable = false) (fuel : Nat) : s.lcSteps (fuel + 1) = (s, false) := by
  simp only [State.lcSteps, h, step, waits, nothing, if_true, Bool.false_eq_true, if_false]

/-- The registers of a transition that begins. -/
def State.lcMark (s : State) (target : Nat) : State := s.setFlds [(F.LCS_STATUS_TRANSITION, 1), (F.LCS_STATUS_TARGET, target)]

theorem State.lcMark_marks {target : Nat} (ht : target < 8) :
    (s.lcMark target).flag F.LCS_STATUS_TRANSITION = true ∧ (s.lcMark target).fld F.LCS_STATUS_TARGET = target := by
  exact ⟨(s.flag_setFlds_at [] [(F.LCS_STATUS_TARGET, target)] F.LCS_STATUS_TRANSITION 1 rfl (by decide) rfl).trans rfl,
    (s.fld_setFlds_at [(F.LCS_STATUS_TRANSITION, 1)] [] F.LCS_STATUS_TARGET target (by decide) (by decide) rfl).trans
      (Nat.mod_eq_of_lt ht)⟩

theorem State.lcMark_frame (target : Nat) : s.RegsBut (s.lcMark target) [K.LCS_STATUS] ∧ (s.lcMark target).lcState = s.lcState ∧
    s.Only (s.lcMark target) [.regs] :=
  ⟨s.regsBut_setFlds_keys rfl, s.fld_setFlds_beside rfl, rfl⟩

/-- The transition that stands in its second step. -/
def State.begun (s : State) (c : Cmd) (target : Nat) (hash : List Byte) : State :=
  { s with key := { s.key with transition := some ⟨target, hash, c.jseq, 2, s.ldg.records.headD []⟩ } }

/-- R325: what the beginning of an advance changes. -/
theorem State.lcBegin_begins (c : Cmd) {target : Nat} (ht : target < 8) (hash : List Byte) (hn : s.fld F.LDG_NEXT_INDEX < 0xFFFFFFFF)
    (hb : s.ldg.batchFirst ≤ s.fld F.LDG_NEXT_INDEX) :
    (s.lcBegin c target hash).flag F.LCS_STATUS_TRANSITION = true ∧ (s.lcBegin c target hash).fld F.LCS_STATUS_TARGET = target ∧
    (s.lcBegin c target hash).lcState = s.lcState ∧ (s.lcBegin c target hash).mgt = s.mgt ∧
    (s.lcBegin c target hash).fld F.LDG_NEXT_INDEX = s.fld F.LDG_NEXT_INDEX + 1 ∧
    (s.lcBegin c target hash).ldg.batchFirst = (s.lcBegin c target hash).fld F.LDG_NEXT_INDEX ∧
    (s.lcBegin c target hash).key.intent = s.key.intent ∧ (s.lcBegin c target hash).key.slots = s.key.slots := by
  let u := s.lcMark target
  obtain ⟨mark, state, only⟩ := s.lcMark_frame target
  obtain ⟨transition, aim⟩ := s.lcMark_marks ht
  have index : u.fld F.LDG_NEXT_INDEX = s.fld F.LDG_NEXT_INDEX := mark.fld (by decide)
  have ldg : u.ldg = s.ldg := only.keeps State.ldg rfl
  have key : u.key = s.key := only.keeps State.key rfl
  have mgt : u.mgt = s.mgt := only.keeps State.mgt rfl
  obtain ⟨next, first, _⟩ := State.ldgAppend_closes (s := u) (by omega) (by rw [ldg, index]; exact hb)
  obtain ⟨⟨regs, _⟩, keys, appended⟩ := u.ldgAppend_meterKept 3
  have begun : s.lcBegin c target hash = (u.ldgAppend 3).begun c target hash := rfl
  rw [begun]
  generalize u.ldgAppend 3 = w at next first regs keys appended
  have regs' : u.RegsBut (w.begun c target hash) [K.LDG_NEXT, K.LDG_STATUS] := regs.after rfl
  have intent : w.key.intent = u.key.intent := congrArg (fun k => k.intent) keys
  have next' : (w.begun c target hash).fld F.LDG_NEXT_INDEX = u.fld F.LDG_NEXT_INDEX + 1 := next
  refine ⟨(regs'.flag (by decide)).trans transition, (regs'.fld (by decide)).trans aim, (regs'.fld (by decide)).trans state,
    (appended.keeps State.mgt rfl).trans mgt, next'.trans (by rw [index]), first.trans next'.symm,
    intent.trans (by rw [key]), keys.slots.trans (by rw [key])⟩

/-- R325: an advance waits in its second step until the batch is signed. -/
theorem State.lcBegin_waits (c : Cmd) (target : Nat) (hash : List Byte) (nothing : s.key.signQ.any s.signable = false)
    (unready : s.flag (F.LMS_STATUS_READY 2) = false) (hn : s.fld F.LDG_NEXT_INDEX < 0xFFFFFFFF) (hb : s.ldg.batchFirst ≤ s.fld F.LDG_NEXT_INDEX) :
    (s.lcBegin c target hash).lcSteps 256 = (s.lcBegin c target hash, false) := by
  let u := s.lcMark target
  obtain ⟨mark, state, only⟩ := s.lcMark_frame target
  have index : u.fld F.LDG_NEXT_INDEX = s.fld F.LDG_NEXT_INDEX := mark.fld (by decide)
  have ldg : u.ldg = s.ldg := only.keeps State.ldg rfl
  have key : u.key = s.key := only.keeps State.key rfl
  have unready' : u.flag (F.LMS_STATUS_READY 2) = false := (mark.flag (by decide)).trans unready
  obtain ⟨_, _, ⟨b, mem, what⟩, others, waits⟩ := State.ldgAppend_closes (s := u) (by omega) (by rw [ldg, index]; exact hb)
  obtain ⟨⟨regs, _⟩, _⟩ := u.ldgAppend_meterKept 3
  let v := s.lcBegin c target hash
  have regsV : v.regs = (u.ldgAppend 3).regs := rfl
  have queue : v.key.signQ = (u.ldgAppend 3).key.signQ := rfl
  have waitsV : v.flag F.LDG_STATUS_SIGN_WAIT = true := waits unready'
  have regs' : u.RegsBut v [K.LDG_NEXT, K.LDG_STATUS] := regs.after regsV
  refine State.lcSteps_waits rfl rfl ?_ ?_ 255
  · exact List.any_eq_true.mpr ⟨b, queue ▸ mem, by simp only [what]⟩
  · refine List.any_eq_false.mpr fun r hr able => ?_
    have able' : s.signable r = true := (State.signable_congr mark state r) ▸ State.signable_of_after regs' waitsV r able
    rcases others r (queue ▸ hr) with k2 | old
    · simp [State.signable, k2, unready] at able'
    · exact List.any_eq_false.mp nothing r (key ▸ old) able'

theorem exec_lcAdvance_waits (hr : s.mcRuns = true) (hq : s.mgt.execQ = c :: rest) (hop : c.opcode = 0x36) (env : StartEnv)
    (lost : Option Nat) (he : startOk env = true) (hl : ∀ k, lost = some k → 5 ≤ k ∧ k ≤ 7) (idle : s.key.transition = none)
    (nothing : s.key.signQ.any s.signable = false) (unready : s.flag (F.LMS_STATUS_READY 2) = false) (hn : s.fld F.LDG_NEXT_INDEX < 0xFFFFFFFF)
    (hb : s.ldg.batchFirst ≤ s.fld F.LDG_NEXT_INDEX) :
    ∃ t, exec (.lcAdvance ⟨env, lost⟩) s = .next t ∧
      ∀ serial target hash, Config.lcBody c.body = some (serial, target, hash) → target < 8 →
        t.flag F.LCS_STATUS_TRANSITION = true ∧ t.fld F.LCS_STATUS_TARGET = target ∧
        t.fld F.LCS_STATUS_STATE = s.fld F.LCS_STATUS_STATE ∧ t.mgt = s.mgt ∧ t.data = s.data ∧ t.ports = s.ports ∧
        t.fld F.LDG_NEXT_INDEX = s.fld F.LDG_NEXT_INDEX + 1 ∧ t.ldg.batchFirst = t.fld F.LDG_NEXT_INDEX ∧
        t.key.intent = s.key.intent ∧ t.key.slots = s.key.slots := by
  have wf : Instr.wf (.lcAdvance ⟨env, lost⟩) = true := by
    cases lost with
    | none => simpa [Instr.wf] using he
    | some k => simpa [Instr.wf, he, within] using hl k rfl
  have run := exec_lcAdvance s ⟨env, lost⟩ wf hr
  refine ⟨_, run, fun serial target hash body ht => ?_⟩
  have head : s.execHead 0x36 = some c := hop ▸ State.execHead_of hr hq
  have effect : s.lcAdvance env lost = s.confine [.regs, .mgt, .ldg, .key] (s.lcBegin c target hash) := by
    have begins : (if s.key.transition.isSome then s else s.lcBegin c target hash) = s.lcBegin c target hash := by rw [idle]; rfl
    simp only [State.lcAdvance, head, body, begins, s.lcBegin_waits c target hash nothing unready hn hb, Bool.false_eq_true, if_false]
  rw [effect]
  have begins := s.lcBegin_begins c ht hash hn hb
  generalize s.lcBegin c target hash = v at begins ⊢
  obtain ⟨transition, aim, state, mgt, next, first, intent, slots⟩ := begins
  exact ⟨transition, aim, state, mgt, rfl, rfl, next, first, intent, slots⟩

end

/-- Settles O45. A released signature takes the next leaf pair and its delivery leaves the registers of the keys; an advance stops at its
second step, where its batch waits for a key that is not ready. -/
theorem keyEngineServesItsCommands : Obligations.KeyEngineServesItsCommands := by
  unfold Obligations.KeyEngineServesItsCommands
  refine ⟨fun s c rest hr hq => ⟨fun _ h => exec_keyOperationDone_ends hr hq h, fun hop _ => exec_cmdKeyAdvance_ends hr hq hop,
    fun hop h => exec_attest_asks hr hq hop h, fun hop env lost he hl idle nothing unready hn hb =>
      exec_lcAdvance_waits hr hq hop env lost he hl idle nothing unready hn hb⟩,
    fun s hr => ⟨fun r found hk hn => exec_signatureRelease_takes hr found hk hn, fun k h => exec_signingKeyReady_retired k hr h,
      fun k hk h => exec_signingKeyReady_serves hr hk h, fun k hk h hn => exec_lmsTreeReady_stands hr hk h hn⟩⟩

end Sys2Proof.Machine
end

section
/-!
SUPPORT. A grandmaster's Syncs and a servo without measurements (spec/07, R216 and R223): a message that joins a queue leaves network time
alone, and a missed measurement changes the status and, at the limit, the rate.
-/
namespace Sys2Proof.Machine

section
variable (s : State)

/-! ## Sending as a grandmaster -/

theorem State.headTag_time (q st : Nat) : (s.headTag q st).time = s.time := by
  unfold State.headTag
  split <;> rfl

theorem State.pushCopy_time (q : Nat) (c : Copy) : (s.pushCopy q c).time = s.time := by
  unfold State.pushCopy
  simp only
  split
  · exact State.headTag_time _ _ _
  · rfl

theorem State.sendGptp_time (p : Nat) (note : CopyNote) (b : List Byte) : (s.sendGptp p note b).time = s.time := by
  simp only [State.sendGptp, State.enqueue]
  split
  · rfl
  · exact s.pushCopy_time _ _

variable {s} {t : State}

theorem forEach_time {α : Type} {f : α → State → State} (hf : ∀ x s, (f x s).time = s.time) (l : List α) (s : State) :
    (forEach l f s).time = s.time := by
  induction l generalizing s with
  | nil => rfl
  | cons x r ih => exact (ih (f x s)).trans (hf x s)

/-- The next sequence number, and the Syncs that await their timestamps. -/
def State.gmNext (s : State) : State :=
  { s with time := { s.time with
      gmSeq := (s.time.gmSeq + 1) % 65536,
      gmPorts := s.time.gmPorts ++ ((List.range 34).filter (fun p => s.gptpRole p == 1)).map (fun p => ((s.time.gmSeq + 1) % 65536, p, none)) } }

theorem exec_gmSyncSend_early (hr : s.running = true) (h : s.syncDue = false) : exec .gmSyncSend s = .next s := by
  have effect : s.gmSync = s := if_pos (.inr (.inr (by rw [h]; rfl)))
  rw [exec_gmSyncSend s hr, effect, s.confine_self]

theorem exec_gmSyncSend_sends (hr : s.running = true) (source : s.timeSource = 0 ∨ (s.timeSource = 1 ∧ s.time.ppsSeen = true))
    (due : s.syncDue = true) :
    ∃ t, exec .gmSyncSend s = .next t ∧ s.Only t [.cnts, .data, .time, .twin] ∧ t.time = s.gmNext.time ∧ t.regs = s.regs := by
  have run := exec_gmSyncSend s hr
  have sends : ¬ (s.timeSource = 2 ∨ (s.timeSource = 1 ∧ (!s.time.ppsSeen) = true) ∨ (!s.syncDue) = true) := by
    rcases source with h | ⟨h, seen⟩
    · simp [h, due]
    · simp [h, due, seen]
  have effect : s.gmSync = forEach ((List.range 34).filter (fun p => s.gptpRole p == 1)) (fun p t =>
      t.sendGptp p (.sync ((s.time.gmSeq + 1) % 65536)) (t.syncMessage p ((s.time.gmSeq + 1) % 65536))) s.gmNext := if_neg sends
  have time : s.gmSync.time = s.gmNext.time := by
    rw [effect]
    exact forEach_time (fun p t => t.sendGptp_time p _ _) _ _
  exact ⟨_, run, s.only_confine _ _, time, rfl⟩

/-! ## A servo without measurements -/

theorem State.avg_bounds (s : State) : -2 ^ 31 ≤ s.avg ∧ s.avg < 2 ^ 31 := by
  have small : s.fld F.SERVO_AVG_VALUE < 2 ^ 32 := s.fld_lt F.SERVO_AVG_VALUE
  simp only [State.avg, toSigned, Nat.mod_eq_of_lt small]
  split <;> omega

/-- A whole register that takes the averaged rate. -/
theorem State.signed_setFld (s u : State) {f : Fld} (hl : f.lo = 0) (hh : f.hi = 31) :
    toSigned 32 ((u.setFld f (ofSigned 32 s.avg)).fld f) = s.avg := by
  obtain ⟨low, high⟩ := s.avg_bounds
  have small : ofSigned 32 s.avg < 2 ^ 32 := by
    simp only [ofSigned]
    omega
  rw [u.fld_setFld_same f _ (by omega) (by omega), hl, hh, Nat.mod_eq_of_lt small]
  exact toSigned_ofSigned low high

theorem State.setServo_sets (h : s.servoState ≠ 3) : (s.setServo 3).servoState = 3 ∧
    (s.setServo 3).fld F.TIME_STATUS_MISSED = s.fld F.TIME_STATUS_MISSED ∧
    s.RegsBut (s.setServo 3) (K.TIME_STATUS :: journalKeys) ∧ s.CntsBut (s.setServo 3) eventCounters := by
  let u := s.setFld F.TIME_STATUS_STATE 3
  have eq : s.setServo 3 = u.raiseFlag F.TIME_STATUS_STATE_CHANGED (beBytes 1 3) := if_neg (Ne.symm h)
  rw [eq]
  refine ⟨?_, ?_, ?_, u.raiseFlag_cntsBut _ _⟩
  · exact (u.raiseFlag_fld F.TIME_STATUS_STATE_CHANGED F.TIME_STATUS_STATE _ (by decide) (by decide) (by decide) rfl (by decide)
      (by decide)).trans (s.fld_setFld_same F.TIME_STATUS_STATE 3 (by decide) (by decide))
  · exact (u.raiseFlag_fld F.TIME_STATUS_STATE_CHANGED F.TIME_STATUS_MISSED _ (by decide) (by decide) (by decide) rfl (by decide)
      (by decide)).trans (s.fld_setFld_beside 3 (by decide))
  · exact ((s.regsBut_setFld F.TIME_STATUS_STATE 3).mono (by simp [F.TIME_STATUS_STATE])).comp (u.raiseFlag_regsBut _ _)

/-- R223: HOLDOVER runs on at the averaged rate. -/
theorem State.holdover_holds (h : s.servoState ≠ 3) : s.holdover.servoState = 3 ∧ s.holdover.rateAdj = s.avg ∧ s.holdover.integ = s.avg ∧
    s.holdover.fld F.TIME_STATUS_MISSED = s.fld F.TIME_STATUS_MISSED ∧ s.holdover.cnt (C.time 8) = s.cnt (C.time 8) + 1 ∧
    s.holdover.cnt (C.time 3) = s.cnt (C.time 3) := by
  let a := s.setRate s.avg
  let b := a.setInteg s.avg
  have rate : s.RegsBut a [K.TIME_RATE] := s.regsBut_setFld F.TIME_RATE_RATE_ADJ _
  have integ : a.RegsBut b [K.SERVO_INTEG] := a.regsBut_setFld F.SERVO_INTEG_VALUE _
  have kept : s.RegsBut b [K.TIME_RATE, K.SERVO_INTEG] := (rate.mono (by simp)).comp (integ.mono (by simp))
  have state : b.servoState = s.servoState := kept.fld (by decide)
  obtain ⟨held, missed, regs, cnts⟩ := State.setServo_sets (s := b) (state ▸ h)
  have rateAdj : b.rateAdj = s.avg :=
    (congrArg (toSigned 32) (integ.fld (f := F.TIME_RATE_RATE_ADJ) (by decide))).trans (s.signed_setFld s (f := F.TIME_RATE_RATE_ADJ) rfl rfl)
  have integ' : b.integ = s.avg := s.signed_setFld a (f := F.SERVO_INTEG_VALUE) rfl rfl
  have same : b.cnts = s.cnts := rfl
  have eq : s.holdover = (b.setServo 3).inc (C.time 8) := rfl
  rw [eq]
  generalize b.setServo 3 = c at held missed regs cnts
  refine ⟨held, (congrArg (toSigned 32) (regs.fld (f := F.TIME_RATE_RATE_ADJ) (by decide))).trans rateAdj,
    (congrArg (toSigned 32) (regs.fld (f := F.SERVO_INTEG_VALUE) (by decide))).trans integ', missed.trans (kept.fld (by decide)), ?_, ?_⟩
  · rw [State.cnt_inc_same, cnts _ (by decide), State.cnt, same, State.cnt]
  · rw [State.cnt_inc_other _ (by decide), cnts _ (by decide), State.cnt, same, State.cnt]

/-- A measurement that is missed is counted. -/
def State.countMiss (s : State) : State :=
  (s.setFld F.TIME_STATUS_MISSED (min 15 (s.fld F.TIME_STATUS_MISSED + 1))).inc (C.time 3)

theorem State.countMiss_counts (s : State) : s.countMiss.fld F.TIME_STATUS_MISSED = min 15 (s.fld F.TIME_STATUS_MISSED + 1) ∧
    s.countMiss.cnt (C.time 3) = s.cnt (C.time 3) + 1 ∧ s.countMiss.cnt (C.time 8) = s.cnt (C.time 8) ∧
    s.RegsBut s.countMiss [K.TIME_STATUS] ∧ s.countMiss.servoState = s.servoState := by
  let u := s.setFld F.TIME_STATUS_MISSED (min 15 (s.fld F.TIME_STATUS_MISSED + 1))
  have eq : s.countMiss = u.inc (C.time 3) := rfl
  have missed : u.fld F.TIME_STATUS_MISSED = min 15 (s.fld F.TIME_STATUS_MISSED + 1) :=
    (s.fld_setFld_same F.TIME_STATUS_MISSED _ (by decide) (by decide)).trans (Nat.mod_eq_of_lt (by
      simp only [F.TIME_STATUS_MISSED]; omega))
  have state : u.servoState = s.servoState := s.fld_setFld_beside (f := F.TIME_STATUS_MISSED) (g := F.TIME_STATUS_STATE) _ (by decide)
  rw [eq]
  refine ⟨missed, State.cnt_inc_same _ _, State.cnt_inc_other _ (by decide), ?_, state⟩
  exact (s.regsBut_setFld F.TIME_STATUS_MISSED _).after rfl

theorem exec_syncMissed_counts (hr : s.running = true) (source : s.timeSource ≠ 0) :
    ∃ t, exec .syncMissed s = .next t ∧ s.Only t [.regs, .cnts, .mgt, .key] ∧
      t.fld F.TIME_STATUS_MISSED = min 15 (s.fld F.TIME_STATUS_MISSED + 1) ∧ t.cnt (C.time 3) = s.cnt (C.time 3) + 1 ∧
      (s.servoState = 2 → max 2 (s.fld F.SERVO_CFG_MISS_LIMIT) ≤ min 15 (s.fld F.TIME_STATUS_MISSED + 1) →
        t.servoState = 3 ∧ t.rateAdj = s.avg ∧ t.integ = s.avg ∧ t.cnt (C.time 8) = s.cnt (C.time 8) + 1) ∧
      (s.servoState ≠ 2 ∨ min 15 (s.fld F.TIME_STATUS_MISSED + 1) < max 2 (s.fld F.SERVO_CFG_MISS_LIMIT) →
        t.servoState = s.servoState ∧ t.rateAdj = s.rateAdj ∧ s.RegsBut t [K.TIME_STATUS]) := by
  have run := exec_syncMissed s hr
  obtain ⟨missed, count, holds, regs, state⟩ := s.countMiss_counts
  have limit : s.countMiss.fld F.SERVO_CFG_MISS_LIMIT = s.fld F.SERVO_CFG_MISS_LIMIT := regs.fld (by decide)
  have effect : s.missInterval = if s.countMiss.servoState = 2 ∧
      max 2 (s.countMiss.fld F.SERVO_CFG_MISS_LIMIT) ≤ min 15 (s.fld F.TIME_STATUS_MISSED + 1) then s.countMiss.holdover else s.countMiss :=
    if_neg source
  rw [effect, state, limit] at run
  have avg : s.countMiss.avg = s.avg := congrArg (toSigned 32) (regs.fld (f := F.SERVO_AVG_VALUE) (by decide))
  have rate : s.countMiss.rateAdj = s.rateAdj := congrArg (toSigned 32) (regs.fld (f := F.TIME_RATE_RATE_ADJ) (by decide))
  refine ⟨_, run, s.only_confine _ _, ?_⟩
  by_cases h : s.servoState = 2 ∧ max 2 (s.fld F.SERVO_CFG_MISS_LIMIT) ≤ min 15 (s.fld F.TIME_STATUS_MISSED + 1)
  · have held := State.holdover_holds (s := s.countMiss) (by rw [state, h.1]; decide)
    rw [if_pos h]
    generalize s.countMiss.holdover = u at held
    obtain ⟨servo, rateAdj, integ, missed', count8, count3⟩ := held
    exact ⟨missed'.trans missed, count3.trans count, fun _ _ => ⟨servo, rateAdj.trans avg, integ.trans avg, count8.trans (by rw [holds])⟩,
      fun other => by omega⟩
  · rw [if_neg h]
    generalize s.countMiss = u at missed count holds regs state rate
    exact ⟨missed, count, fun h1 h2 => absurd ⟨h1, h2⟩ h, fun _ => ⟨state, rate, regs.after rfl⟩⟩

end

/-- Settles O33. The Syncs that are queued leave network time alone; holdover runs on at the averaged rate. -/
theorem grandmasterAndHoldover : Obligations.GrandmasterAndHoldover := by
  unfold Obligations.GrandmasterAndHoldover
  exact fun s hr => ⟨fun h => exec_gmSyncSend_early hr h, fun source due => exec_gmSyncSend_sends hr source due,
    fun source => exec_syncMissed_counts hr source⟩

end Sys2Proof.Machine
end

section
/-!
SUPPORT. The epoch of the asynchronous inputs (spec/14, R386 and R387) below the sixteenth disagreement: each input changes its own
agreed level and run, and no wake input changes the groups' hard sources.
-/
namespace Sys2Proof.Machine

/-! ## Hard sources that stay -/

section
variable (s : State)

theorem maskList_andNot (m : Nat) : maskList 16 (m &&& notMask m) = [] := by
  refine List.filter_eq_nil_iff.mpr fun i hi => ?_
  have small : i < 16 := List.mem_range.mp hi
  have rest : (notMask m).testBit i = !m.testBit i := by
    rw [show notMask m = 2 ^ 16 - (m % 2 ^ 16 + 1) by simp only [notMask]; omega,
      Nat.testBit_two_pow_sub_succ (Nat.mod_lt _ (Nat.two_pow_pos _)), Nat.testBit_mod_two_pow]
    simp [small]
  rw [Nat.testBit_and, rest]
  cases m.testBit i <;> decide

theorem State.afterHard_same {t : State} (h : t.hardMask = s.hardMask) : t.afterHard s.hardMask = t := by
  rw [State.afterHard, State.restartTimers, h, maskList_andNot]
  rfl

/-- An input's agreed level is set. -/
def State.setAgreed (s : State) (i : Nat) (b : Bool) : State :=
  { s with saf := { s.saf with agreed := mapSet (fun _ => false) s.saf.agreed i b } }

theorem State.agreedIn_setAgreed (i : Nat) (b : Bool) : (s.setAgreed i b).agreedIn i = b := mapGet_mapSet_same _ s.saf.agreed i b

theorem State.agreedIn_setAgreed_other {i j : Nat} (h : j ≠ i) (b : Bool) : (s.setAgreed i b).agreedIn j = s.agreedIn j :=
  mapGet_mapSet_other _ s.saf.agreed b h.symm

theorem State.lineUsed_setAgreed (i : Nat) (b : Bool) (n : Nat) : (s.setAgreed i b).lineUsed n = s.lineUsed n := rfl

/-- A wake input whose level is agreed already, or that is not in use, wakes nothing. -/
theorem State.wakeEpoch_quiet {n : Nat} (h : s.lineUsed n = true → (s.fld F.WAKE_STATUS_LEVEL).testBit n = s.agreedIn (10 + n)) :
    s.wakeEpoch n = s.setAgreed (10 + n) ((s.fld F.WAKE_STATUS_LEVEL).testBit n) := by
  let u := s.setAgreed (10 + n) ((s.fld F.WAKE_STATUS_LEVEL).testBit n)
  have line (m : Nat) : u.lineActive m = s.lineActive m := by
    have used : u.lineUsed m = s.lineUsed m := rfl
    rw [State.lineActive, used, State.lineActive]
    by_cases hm : m = n
    · subst hm
      cases hu : s.lineUsed m
      · rfl
      · rw [s.agreedIn_setAgreed, h hu]
    · rw [s.agreedIn_setAgreed_other (by omega)]
  have hard : u.hardMask = s.hardMask := by
    have groups (m : Nat) : u.fld (F.WAKE_IN_GROUPS_GROUPS m) = s.fld (F.WAKE_IN_GROUPS_GROUPS m) := rfl
    have keep : u.fld F.NM_KEEP_KEEP = s.fld F.NM_KEEP_KEEP := rfl
    simp only [State.hardMask, line, groups, keep]
  have off : ((s.fld F.WAKE_STATUS_LEVEL).testBit n && !s.agreedIn (10 + n) && u.lineActive n) = false := by
    rw [line, State.lineActive]
    cases hu : s.lineUsed n
    · simp
    · rw [h hu]
      cases s.agreedIn (10 + n) <;> rfl
  have eq : s.wakeEpoch n = State.afterHard s.hardMask (if (s.fld F.WAKE_STATUS_LEVEL).testBit n && !s.agreedIn (10 + n) && u.lineActive n
      then u.sourceOn (u.fld (F.WAKE_IN_GROUPS_GROUPS n)) (0xC0 + n) (2 ^ n) else u) := rfl
  rw [eq, off, if_neg (by decide)]
  exact s.afterHard_same hard

/-! ## One input -/

/-- The registers of an epoch. -/
def epochKeys : List Nat := K.SAF_AGREE :: (List.range 8).map K.MAC_STATUS

/-- What an epoch leaves: all but the epoch's registers, the count of disagreements, the agreed levels and the runs. -/
def State.EpochKept (s t : State) : Prop :=
  s.Only t [.regs, .cnts, .saf] ∧ s.RegsBut t epochKeys ∧ s.CntsBut t [C.saf 6] ∧
  t.saf = { s.saf with agreed := t.saf.agreed, runs := t.saf.runs }

theorem State.EpochKept.comp {s t u : State} (h : s.EpochKept t) (h' : t.EpochKept u) : s.EpochKept u := by
  obtain ⟨only, regs, cnts, saf⟩ := h
  obtain ⟨only', regs', cnts', saf'⟩ := h'
  exact ⟨only.comp only', regs.comp regs', cnts.comp cnts',
    saf'.trans (congrArg (fun m => { m with agreed := u.saf.agreed, runs := u.saf.runs }) saf)⟩

theorem State.EpochKept.refl : s.EpochKept s := ⟨s.only_refl _, State.RegsBut.refl s _, State.CntsBut.refl s _, rfl⟩

/-- The level that an agreed sample of an input stands for. -/
def State.sampled (s : State) (a i : Nat) : Bool := if i < 10 then a.testBit i else (s.fld F.WAKE_STATUS_LEVEL).testBit (i - 10)

/-- The samples of the inputs of `l` take effect: agreed ones as sampled, others counted with their levels kept. -/
def State.Sampled (s t : State) (a b : Nat) (l : List Nat) : Prop :=
  s.EpochKept t ∧
  (∀ i ∈ l, a.testBit i = b.testBit i → t.runOf i = 0 ∧ t.agreedIn i = s.sampled a i) ∧
  (∀ i ∈ l, a.testBit i ≠ b.testBit i → t.agreedIn i = s.agreedIn i ∧ t.runOf i = s.runOf i + 1) ∧
  (∀ i, i ∉ l → t.agreedIn i = s.agreedIn i ∧ t.runOf i = s.runOf i) ∧
  (∀ p, p < 8 → t.flag (F.MAC_STATUS_PHY_INT p) =
    if p ∈ l ∧ a.testBit p = b.testBit p then a.testBit p else s.flag (F.MAC_STATUS_PHY_INT p)) ∧
  t.cnt (C.saf 6) = s.cnt (C.saf 6) + BitVec.ofNat 64 ((l.filter (fun i => a.testBit i != b.testBit i)).length)

/-- An agreed sample in its agreed level, its run and the register of the last disagreement. -/
def State.agreedOn (s : State) (i : Nat) (b : Bool) : State :=
  let s := { s with saf := { s.saf with
    agreed := mapSet (fun _ => false) s.saf.agreed i b, runs := mapSet (fun _ => 0) s.saf.runs i 0 } }
  if s.fld F.SAF_AGREE_LAST_INPUT = i then s.setFld F.SAF_AGREE_RUN 0 else s

theorem State.agreedOn_keeps (i : Nat) (b : Bool) : s.EpochKept (s.agreedOn i b) ∧ s.RegsBut (s.agreedOn i b) [K.SAF_AGREE] ∧
    (s.agreedOn i b).saf = { s.saf with
      agreed := mapSet (fun _ => false) s.saf.agreed i b, runs := mapSet (fun _ => 0) s.saf.runs i 0 } ∧
    (s.agreedOn i b).cnts = s.cnts := by
  unfold State.agreedOn
  simp only
  split
  · have regs (u : State) : u.RegsBut (u.setFld F.SAF_AGREE_RUN 0) [K.SAF_AGREE] := u.regsBut_setFld F.SAF_AGREE_RUN 0
    exact ⟨⟨rfl, ((regs _).mono (by decide)).from rfl, State.cntsBut_of_cnts rfl _, rfl⟩, (regs _).from rfl, rfl, rfl⟩
  · exact ⟨⟨rfl, State.regsBut_of_regs rfl _, State.cntsBut_of_cnts rfl _, rfl⟩, State.regsBut_of_regs rfl _, rfl, rfl⟩

theorem phyInt_apart {p i : Nat} (hp : p ≠ i) : K.MAC_STATUS p ∉ [K.MAC_STATUS i] := by
  simp only [K.MAC_STATUS, List.mem_singleton]
  omega

theorem phyInt_fresh (p : Nat) : K.MAC_STATUS p ∉ [K.SAF_AGREE] := by
  simp only [K.MAC_STATUS, K.SAF_AGREE, List.mem_singleton]
  omega

theorem State.agreeInput_agrees {i : Nat} (v : Bool) : s.EpochKept (s.agreeInput i v) ∧
    (s.agreeInput i v).runOf i = 0 ∧ (s.agreeInput i v).agreedIn i = v ∧
    (∀ j, j ≠ i → (s.agreeInput i v).agreedIn j = s.agreedIn j ∧ (s.agreeInput i v).runOf j = s.runOf j) ∧
    (∀ p, p < 8 → (s.agreeInput i v).flag (F.MAC_STATUS_PHY_INT p) = if p = i then v else s.flag (F.MAC_STATUS_PHY_INT p)) ∧
    (s.agreeInput i v).cnts = s.cnts := by
  let u := s.agreedOn i v
  obtain ⟨kept, regs, saf, cnts⟩ := s.agreedOn_keeps i v
  have eq : s.agreeInput i v = if i < 8 then u.setFld (F.MAC_STATUS_PHY_INT i) (b2n v) else u := rfl
  have levels {t : State} (h : t.saf = u.saf) : t.runOf i = 0 ∧ t.agreedIn i = v ∧
      ∀ j, j ≠ i → t.agreedIn j = s.agreedIn j ∧ t.runOf j = s.runOf j := by
    simp only [State.runOf, State.agreedIn, h, u, saf]
    exact ⟨mapGet_mapSet_same _ _ _ _, mapGet_mapSet_same _ _ _ _, fun j hj => ⟨mapGet_mapSet_other _ _ _ hj.symm,
      mapGet_mapSet_other _ _ _ hj.symm⟩⟩
  rw [eq]
  split
  case isTrue small =>
    obtain ⟨run, agreed, others⟩ := levels (t := u.setFld (F.MAC_STATUS_PHY_INT i) (b2n v)) rfl
    have pin := u.regsBut_setFld (F.MAC_STATUS_PHY_INT i) (b2n v)
    have member : K.MAC_STATUS i ∈ epochKeys := List.mem_cons_of_mem _ (List.mem_map.mpr ⟨i, List.mem_range.mpr small, rfl⟩)
    refine ⟨kept.comp ⟨rfl, pin.mono (fun k hk => List.mem_singleton.mp hk ▸ member), State.cntsBut_of_cnts rfl _, rfl⟩, run, agreed, others,
      fun p _ => ?_, cnts⟩
    split
    case isTrue same =>
      rw [same, u.flag_setFld_same (F.MAC_STATUS_PHY_INT i) (b2n v) rfl (show 2 < 32 by decide)]
      cases v <;> rfl
    case isFalse other => exact (pin.flag (phyInt_apart other)).trans (regs.flag (phyInt_fresh p))
  case isFalse large =>
    obtain ⟨run, agreed, others⟩ := levels (t := u) rfl
    refine ⟨kept, run, agreed, others, fun p hp => ?_, cnts⟩
    rw [if_neg (by omega)]
    exact regs.flag (phyInt_fresh p)

theorem State.disagreeInput_counts {i : Nat} (h : s.runOf i < 15) : s.EpochKept (s.disagreeInput i) ∧
    (s.disagreeInput i).runOf i = s.runOf i + 1 ∧ (∀ j, (s.disagreeInput i).agreedIn j = s.agreedIn j) ∧
    (∀ j, j ≠ i → (s.disagreeInput i).runOf j = s.runOf j) ∧
    (∀ p, (s.disagreeInput i).flag (F.MAC_STATUS_PHY_INT p) = s.flag (F.MAC_STATUS_PHY_INT p)) ∧
    (s.disagreeInput i).cnt (C.saf 6) = s.cnt (C.saf 6) + 1 := by
  let u : State := { s with saf := { s.saf with runs := mapSet (fun _ => 0) s.saf.runs i (s.runOf i + 1) } }
  let l := [(F.SAF_AGREE_LAST_INPUT, i), (F.SAF_AGREE_RUN, min (s.runOf i + 1) 31)]
  have eq : s.disagreeInput i = (u.inc (C.saf 6)).setFlds l := if_neg (by omega)
  have regs : (u.inc (C.saf 6)).RegsBut ((u.inc (C.saf 6)).setFlds l) [K.SAF_AGREE] := State.regsBut_setFlds_keys _ rfl
  have counted := u.cntsBut_inc (C.saf 6)
  have runs (j : Nat) : ((u.inc (C.saf 6)).setFlds l).runOf j = mapGet (fun _ => 0) (mapSet (fun _ => 0) s.saf.runs i (s.runOf i + 1)) j := rfl
  rw [eq]
  refine ⟨⟨rfl, (regs.mono (by decide)).from rfl, counted, rfl⟩, (runs i).trans (mapGet_mapSet_same _ _ _ _), fun _ => rfl,
    fun j hj => (runs j).trans (mapGet_mapSet_other _ _ _ hj.symm), fun p => regs.flag (phyInt_fresh p), u.cnt_inc_same (C.saf 6)⟩

/-- The sample of one input takes effect. -/
theorem State.epochInput_samples {a b i : Nat} (normal : s.saf.mode = .normal) (run : s.runOf i < 15)
    (line : ∀ n, i = 10 + n → s.lineUsed n = true → (s.fld F.WAKE_STATUS_LEVEL).testBit n = s.agreedIn (10 + n)) :
    s.Sampled (State.epochInput a b i s) a b [i] := by
  by_cases differ : a.testBit i = b.testBit i
  · have eq : ∃ v, State.epochInput a b i s = v.agreeInput i (s.sampled a i) ∧ s.EpochKept v ∧ v.cnts = s.cnts ∧ v.regs = s.regs ∧
        ∀ j, j ≠ i → v.agreedIn j = s.agreedIn j ∧ v.runOf j = s.runOf j := by
      unfold State.epochInput State.sampled
      rw [if_neg (not_not.mpr differ)]
      by_cases low : i < 10
      · rw [if_pos low, if_pos low]
        exact ⟨s, rfl, State.EpochKept.refl s, rfl, rfl, fun _ _ => ⟨rfl, rfl⟩⟩
      · obtain ⟨n, rfl⟩ : ∃ n, i = 10 + n := ⟨i - 10, by omega⟩
        rw [if_neg low, if_neg low, if_pos normal, Nat.add_sub_cancel_left, s.wakeEpoch_quiet (line n rfl)]
        exact ⟨_, rfl, ⟨rfl, State.regsBut_of_regs rfl _, State.cntsBut_of_cnts rfl _, rfl⟩, rfl, rfl,
          fun j hj => ⟨s.agreedIn_setAgreed_other hj _, rfl⟩⟩
    obtain ⟨v, eq, kept, cnts, regs, levels⟩ := eq
    obtain ⟨kept', zero, agreed, others, pins, cnts'⟩ := v.agreeInput_agrees (i := i) (s.sampled a i)
    rw [eq]
    refine ⟨kept.comp kept', ?_, ?_, ?_, fun p hp => ?_, ?_⟩
    · intro j hj _
      rw [List.mem_singleton.mp hj]
      exact ⟨zero, agreed⟩
    · intro j hj h
      exact absurd (List.mem_singleton.mp hj ▸ differ) h
    · intro j hj
      have ne : j ≠ i := fun e => hj (by simp [e])
      exact ⟨(others j ne).1.trans (levels j ne).1, (others j ne).2.trans (levels j ne).2⟩
    · rw [pins p hp, show v.flag (F.MAC_STATUS_PHY_INT p) = s.flag (F.MAC_STATUS_PHY_INT p) from State.flag_congr regs _]
      by_cases same : p = i
      · subst same
        simp [differ, State.sampled, show p < 10 by omega]
      · simp [same]
    · simp only [State.cnt, cnts', cnts, differ, List.filter_cons, bne_self_eq_false]
      simp
  · obtain ⟨kept, more, agreed, others, pins, count⟩ := s.disagreeInput_counts run
    rw [show State.epochInput a b i s = s.disagreeInput i from if_pos differ]
    refine ⟨kept, ?_, ?_, ?_, fun p _ => ?_, ?_⟩
    · intro j hj h
      exact absurd (List.mem_singleton.mp hj ▸ h) differ
    · intro j hj _
      rw [List.mem_singleton.mp hj]
      exact ⟨agreed i, more⟩
    · intro j hj
      exact ⟨agreed j, others j (fun e => hj (by simp [e]))⟩
    · rw [pins, if_neg]
      rintro ⟨hp, h⟩
      exact differ (List.mem_singleton.mp hp ▸ h)
    · rw [count, List.filter_cons, if_pos (by simpa using differ)]
      rfl

/-! ## All inputs -/

theorem not_mem_epochKeys {k : Nat} (h1 : k ≠ K.SAF_AGREE) (h2 : 0x50000 ≤ k) : k ∉ epochKeys := by
  intro mem
  rcases List.mem_cons.mp mem with e | mem
  · exact h1 e
  · obtain ⟨p, hp, e⟩ := List.mem_map.mp mem
    have := List.mem_range.mp hp
    simp only [K.MAC_STATUS] at e
    omega

theorem State.EpochKept.keeps {s t : State} (h : s.EpochKept t) {n : Nat} (hn : n < 5) : t.saf.mode = s.saf.mode ∧ t.lineUsed n = s.lineUsed n ∧
    t.fld F.WAKE_STATUS_LEVEL = s.fld F.WAKE_STATUS_LEVEL ∧ ∀ a i, t.sampled a i = s.sampled a i := by
  obtain ⟨_, regs, _, saf⟩ := h
  have cfg : K.WAKE_IN_CFG n ∉ epochKeys :=
    not_mem_epochKeys (by simp only [K.WAKE_IN_CFG, K.SAF_AGREE, ne_eq]; omega) (by simp only [K.WAKE_IN_CFG]; omega)
  have level : t.fld F.WAKE_STATUS_LEVEL = s.fld F.WAKE_STATUS_LEVEL := regs.fld (by decide)
  refine ⟨by rw [saf], ?_, level, fun a i => by rw [State.sampled, level, State.sampled]⟩
  rw [State.lineUsed, regs.flag (f := F.WAKE_IN_CFG_EN n) cfg, regs.fld (f := F.WAKE_STATUS_CHATTER) (by decide),
    regs.fld (f := F.WAKE_STATUS_STUCK) (by decide), State.lineUsed]

/-- The samples of one input before those of others. -/
theorem State.Sampled.comp {s t u : State} {a b i : Nat} {l : List Nat} (fresh : i ∉ l) (h : s.Sampled t a b [i]) (h' : t.Sampled u a b l) :
    s.Sampled u a b (i :: l) := by
  obtain ⟨kept, agree, differ, others, pins, count⟩ := h
  obtain ⟨kept', agree', differ', others', pins', count'⟩ := h'
  obtain ⟨_, _, _, sampled⟩ := kept.keeps (n := 0) (by decide)
  have apart {j : Nat} (hj : j ∈ l) : j ∉ [i] := fun e => fresh (List.mem_singleton.mp e ▸ hj)
  refine ⟨kept.comp kept', fun j hj e => ?_, fun j hj e => ?_, fun j hj => ?_, fun p hp => ?_, ?_⟩
  · rcases List.mem_cons.mp hj with rfl | hj
    · obtain ⟨agreed, run⟩ := others' j fresh
      exact ⟨run.trans (agree j (by simp) e).1, agreed.trans (agree j (by simp) e).2⟩
    · exact ⟨(agree' j hj e).1, (agree' j hj e).2.trans (sampled a j)⟩
  · rcases List.mem_cons.mp hj with rfl | hj
    · obtain ⟨agreed, run⟩ := others' j fresh
      exact ⟨agreed.trans (differ j (by simp) e).1, run.trans (differ j (by simp) e).2⟩
    · obtain ⟨agreed, run⟩ := others j (apart hj)
      exact ⟨(differ' j hj e).1.trans agreed, (differ' j hj e).2.trans (by rw [run])⟩
  · obtain ⟨ne, out⟩ := not_or.mp (fun m => hj (List.mem_cons.mpr m))
    exact ⟨(others' j out).1.trans (others j (by simpa using ne)).1, (others' j out).2.trans (others j (by simpa using ne)).2⟩
  · rw [pins' p hp, pins p hp]
    by_cases e : a.testBit p = b.testBit p
    · by_cases m : p ∈ l <;> simp [m, e]
    · simp [e]
  · rw [count', count, BitVec.add_assoc, ← BitVec.ofNat_add, List.filter_cons, List.filter_cons]
    split <;> simp [Nat.add_comm]

theorem forEach_epochInput (s : State) (a b : Nat) {l : List Nat} (hl : l.Nodup) (normal : s.saf.mode = .normal) (runs : ∀ i ∈ l, s.runOf i < 15)
    (few : ∀ n, 10 + n ∈ l → n < 5)
    (lines : ∀ n, 10 + n ∈ l → s.lineUsed n = true → (s.fld F.WAKE_STATUS_LEVEL).testBit n = s.agreedIn (10 + n)) :
    s.Sampled (forEach l (State.epochInput a b) s) a b l := by
  induction l generalizing s with
  | nil => exact ⟨State.EpochKept.refl s, by simp, by simp, fun _ _ => ⟨rfl, rfl⟩, fun _ _ => by simp [forEach], by simp [forEach]⟩
  | cons i l ih =>
    obtain ⟨fresh, rest⟩ := List.nodup_cons.mp hl
    have first := s.epochInput_samples (a := a) (b := b) normal (runs i (by simp)) (fun n e => lines n (by simp [e]))
    refine first.comp fresh (ih _ rest ?_ ?_ (fun n hn => few n (by simp [hn])) ?_)
    all_goals obtain ⟨kept, _, _, others, _, _⟩ := first
    · exact (kept.keeps (n := 0) (by decide)).1.trans normal
    · intro j hj
      rw [(others j (fun e => fresh (List.mem_singleton.mp e ▸ hj))).2]
      exact runs j (by simp [hj])
    · intro n hn used
      obtain ⟨_, line, level, _⟩ := kept.keeps (few n (by simp [hn]))
      rw [level, (others _ (fun e => fresh (List.mem_singleton.mp e ▸ hn))).1]
      exact lines n (by simp [hn]) (line ▸ used)

/-! ## The pulse outputs -/

theorem State.EpochKept.ppsLevel {s t : State} (h : s.EpochKept t) {n : Nat} (hn : n < 4) : t.ppsLevel n = s.ppsLevel n := by
  obtain ⟨only, regs, _, saf⟩ := h
  have apart (k : Nat) (h1 : 0x140400 ≤ k) (h2 : k < 0x140480) : k ∉ epochKeys :=
    not_mem_epochKeys (by simp only [K.SAF_AGREE]; omega) (by omega)
  have time : t.time = s.time := only.keeps State.time rfl
  have reg (k : Nat) (h1 : 0x140400 ≤ k) (h2 : k < 0x140480) : t.reg k = s.reg k := regs k (apart k h1 h2)
  have fld (f : Fld) (h1 : 0x140400 ≤ f.key) (h2 : f.key < 0x140480) : t.fld f = s.fld f := State.fld_of_reg (reg _ h1 h2)
  have start : t.ppsStart n = s.ppsStart n := by
    rw [State.ppsStart, State.pair, reg (K.PPS_OUT_START_S_LO n) (by simp only [K.PPS_OUT_START_S_LO]; omega)
      (by simp only [K.PPS_OUT_START_S_LO]; omega), reg (K.PPS_OUT_START_S_HI n) (by simp only [K.PPS_OUT_START_S_HI]; omega)
      (by simp only [K.PPS_OUT_START_S_HI]; omega), fld (F.PPS_OUT_START_NS_NS n) (by simp only [F.PPS_OUT_START_NS_NS, K.PPS_OUT_START_NS]; omega)
      (by simp only [F.PPS_OUT_START_NS_NS, K.PPS_OUT_START_NS]; omega)]
    rfl
  have ctrl : t.reg (K.PPS_OUT_CTRL n) = s.reg (K.PPS_OUT_CTRL n) :=
    reg _ (by simp only [K.PPS_OUT_CTRL]; omega) (by simp only [K.PPS_OUT_CTRL]; omega)
  have period : t.fld (F.PPS_OUT_PERIOD_NS n) = s.fld (F.PPS_OUT_PERIOD_NS n) :=
    fld _ (by simp only [F.PPS_OUT_PERIOD_NS, K.PPS_OUT_PERIOD]; omega) (by simp only [F.PPS_OUT_PERIOD_NS, K.PPS_OUT_PERIOD]; omega)
  have width : t.fld (F.PPS_OUT_WIDTH_NS n) = s.fld (F.PPS_OUT_WIDTH_NS n) :=
    fld _ (by simp only [F.PPS_OUT_WIDTH_NS, K.PPS_OUT_WIDTH]; omega) (by simp only [F.PPS_OUT_WIDTH_NS, K.PPS_OUT_WIDTH]; omega)
  have servo : t.servoState = s.servoState := regs.fld (by decide)
  have mode : t.saf.mode = s.saf.mode := by rw [saf]
  have active : t.ppsActive n = s.ppsActive n := by
    simp only [State.ppsActive, State.nowNs, time, start, period, width, servo, mode, State.flag_of_reg (f := F.PPS_OUT_CTRL_EN n) ctrl,
      State.flag_of_reg (f := F.PPS_OUT_CTRL_QUALIFY n) ctrl]
    rfl
  rw [State.ppsLevel, active, State.flag_of_reg (f := F.PPS_OUT_CTRL_POLARITY n) ctrl, State.ppsLevel]

theorem State.ppsUpdate_quiet {n : Nat} (h : s.ppsLevel n = mapGet (fun _ => false) s.time.ppsOut n) : s.ppsUpdate n = s := if_pos h

theorem State.ppsAll_quiet (h : ∀ n, n < 4 → s.ppsLevel n = mapGet (fun _ => false) s.time.ppsOut n) : s.ppsAll = s := by
  have each : forEach (List.range 4) (fun n s => s.ppsUpdate n) s = s := by
    show (((s.ppsUpdate 0).ppsUpdate 1).ppsUpdate 2).ppsUpdate 3 = s
    rw [s.ppsUpdate_quiet (h 0 (by decide)), s.ppsUpdate_quiet (h 1 (by decide)), s.ppsUpdate_quiet (h 2 (by decide)),
      s.ppsUpdate_quiet (h 3 (by decide))]
  rw [State.ppsAll, each, s.confine_self]

theorem exec_ppsOutEdge_follows {n : Nat} (hr : s.powered = true) (hn : n < 4) :
    (s.ppsLevel n ≠ mapGet (fun _ => false) s.time.ppsOut n →
      ∃ t, exec (.ppsOutEdge n) s = .next t ∧ mapGet (fun _ => false) t.time.ppsOut n = s.ppsLevel n ∧
        t.out = .pps n (s.ppsActive n != s.flag (F.PPS_OUT_CTRL_POLARITY n)) :: s.out ∧ s.Only t [.time, .out]) ∧
    (s.ppsLevel n = mapGet (fun _ => false) s.time.ppsOut n → exec (.ppsOutEdge n) s = .next s) := by
  have run := exec_ppsOutEdge s n (by simpa [Instr.wf] using hn) hr
  refine ⟨fun h => ⟨_, run, ?_, ?_, s.only_confine _ _⟩, fun h => by rw [run, s.ppsUpdate_quiet h, s.confine_self]⟩
  · rw [State.ppsUpdate, if_neg h]
    exact mapGet_mapSet_same _ s.time.ppsOut n _
  · rw [State.ppsUpdate, if_neg h]
    rfl

theorem exec_ppsInEdge_stamps (hr : s.powered = true) (falling : Bool) (diff : Nat) :
    (s.flag F.PPS_IN_CFG_EN = true → s.flag F.PPS_IN_CFG_FALLING = falling →
      ∃ t, exec (.ppsInEdge falling diff) s = .next t ∧
        t.time = { s.time with ppsEdge := some (s.time.now - 6 * fracPerNs, s.time.now - 6 * fracPerNs + diff) } ∧ s.Only t [.time]) ∧
    ((s.flag F.PPS_IN_CFG_EN = false ∨ s.flag F.PPS_IN_CFG_FALLING ≠ falling) → exec (.ppsInEdge falling diff) s = .next s) := by
  have run := exec_ppsInEdge s falling diff hr
  refine ⟨fun en edge => ⟨_, run, ?_, s.only_confine _ _⟩, fun h => ?_⟩
  · simp only [State.ppsEdge, en, edge, beq_self_eq_true, Bool.and_self, if_true]
    rfl
  · have effect : s.ppsEdge falling diff = s := if_neg (by
      rcases h with h | h
      · simp [h]
      · simp [h])
    rw [run, effect, s.confine_self]

/-! ## The epoch -/

/-- The inputs that an epoch samples. -/
def epochInputs : List Nat := (List.range 15).filter (fun i => i != 9)

theorem mem_epochInputs {i : Nat} : i ∈ epochInputs ↔ i < 15 ∧ i ≠ 9 := by
  simp [epochInputs]

/-- Lee time follows the time counter. -/
def State.followLee (s : State) : State := { s with saf := { s.saf with leeTime := s.time.now, leeRate := s.rateAdj } }

theorem exec_inputEpoch_samples {a b : Nat} (ha : a < 32768) (hb : b < 32768) (hr : s.powered = true) (hc : s.cycle % 64 = 0)
    (edge : s.time.ppsEdge = none) (normal : s.saf.mode = .normal) (runs : ∀ i, i < 15 → i ≠ 9 → s.runOf i < 15)
    (lines : ∀ n, n < 5 → s.lineUsed n = true → (s.fld F.WAKE_STATUS_LEVEL).testBit n = s.agreedIn (10 + n)) :
    ∃ t, exec (.inputEpoch a b) s = .next t ∧
      (∀ i, i < 15 → i ≠ 9 → a.testBit i = b.testBit i → t.runOf i = 0 ∧ t.agreedIn i = s.sampled a i) ∧
      (∀ i, i < 15 → i ≠ 9 → a.testBit i ≠ b.testBit i → t.agreedIn i = s.agreedIn i ∧ t.runOf i = s.runOf i + 1) ∧
      (∀ p, p < 8 → t.flag (F.MAC_STATUS_PHY_INT p) =
        if a.testBit p = b.testBit p then a.testBit p else s.flag (F.MAC_STATUS_PHY_INT p)) ∧
      t.cnt (C.saf 6) = s.cnt (C.saf 6) +
        BitVec.ofNat 64 (((List.range 15).filter (fun i => i != 9 && a.testBit i != b.testBit i)).length) ∧
      s.CntsBut t [C.saf 6] ∧ t.saf.leeTime = s.time.now ∧ t.data = s.data ∧ s.TimeKept t ∧
      ((∀ n, n < 4 → s.ppsLevel n = mapGet (fun _ => false) s.time.ppsOut n) → t.out = s.out) := by
  have run := exec_inputEpoch s a b (by simp [Instr.wf, ha, hb]) hr
  rw [if_pos hc] at run
  let u := forEach epochInputs (State.epochInput a b) s.unstepped
  have sampled : s.unstepped.Sampled u a b epochInputs := forEach_epochInput s.unstepped a b (by decide) normal
    (fun i hi => runs i (mem_epochInputs.mp hi).1 (mem_epochInputs.mp hi).2) (fun n hn => by have := mem_epochInputs.mp hn; omega)
    (fun n hn => lines n (by have := mem_epochInputs.mp hn; omega))
  obtain ⟨kept, agree, differ, _, pins, count⟩ := sampled
  obtain ⟨only, _, cnts, saf⟩ := id kept
  have time : u.time = { s.time with stepped := false } := only.keeps State.time rfl
  have effect : s.unstepped.inputEpoch a b = u.followLee := by
    have none : u.time.ppsEdge = none := by rw [time]; exact edge
    have mode : u.saf.mode = .normal := (kept.keeps (n := 0) (by decide)).1.trans normal
    show (if u.agreePps.saf.mode = .normal then u.agreePps.followLee else u.agreePps) = _
    rw [State.agreePps, none]
    exact if_pos mode
  have level (n : Nat) (hn : n < 4) : u.followLee.ppsLevel n = s.ppsLevel n := kept.ppsLevel hn
  generalize u = v at *
  obtain ⟨settled, whole⟩ := State.settled_quiet (f := fun s => s.inputEpoch a b) (l := [.regs, .cnts, .time, .saf, .out]) effect
    (by show v.time.stepped = false; rw [time]) ((only.mono _ (by decide)).comp rfl) (by decide)
  rw [settled, whole.confine _ (by decide)] at run
  obtain pulses := v.followLee.ppsAll_only
  have safe : v.followLee.ppsAll.saf = v.followLee.saf := pulses.keeps State.saf rfl
  have agreedIn (i : Nat) : v.followLee.ppsAll.agreedIn i = v.agreedIn i := by rw [State.agreedIn, safe]; rfl
  have runOf (i : Nat) : v.followLee.ppsAll.runOf i = v.runOf i := by rw [State.runOf, safe]; rfl
  have regs : v.followLee.ppsAll.regs = v.regs := pulses.keeps State.regs rfl
  have counts : v.followLee.ppsAll.cnts = v.cnts := pulses.keeps State.cnts rfl
  refine ⟨_, run, fun i h1 h2 e => ?_, fun i h1 h2 e => ?_, fun p hp => ?_, ?_, ?_, ?_, ?_, ?_, fun quiet => ?_⟩
  · rw [agreedIn, runOf]
    exact agree i (mem_epochInputs.mpr ⟨h1, h2⟩) e
  · rw [agreedIn, runOf]
    exact differ i (mem_epochInputs.mpr ⟨h1, h2⟩) e
  · have member : p ∈ epochInputs := mem_epochInputs.mpr ⟨by omega, by omega⟩
    rw [State.flag_congr regs, pins p hp]
    simp only [member, true_and]
    rfl
  · have filtered : epochInputs.filter (fun i => a.testBit i != b.testBit i) =
        (List.range 15).filter (fun i => i != 9 && a.testBit i != b.testBit i) := by
      rw [epochInputs, List.filter_filter]
      exact List.filter_congr fun i _ => Bool.and_comm _ _
    rw [State.cnt_congr counts, count, filtered]
    rfl
  · exact fun c hc => (State.cnt_congr counts c).trans (cnts c hc)
  · rw [safe]
    show v.time.now = _
    rw [time]
  · exact (whole.keeps State.data rfl)
  · have after := v.followLee.ppsAll_time
    rw [show v.followLee.time = { s.time with stepped := false } from time] at after
    exact after
  · have still : v.followLee.ppsAll = v.followLee := State.ppsAll_quiet _ (fun n hn => by
      rw [level n hn, quiet n hn]
      show _ = mapGet _ v.time.ppsOut n
      rw [time])
    rw [still]
    exact only.keeps State.out rfl

end

/-- Settles O34. Below the sixteenth disagreement no epoch is fatal, and a wake input whose level is agreed already wakes nothing. -/
theorem pulsesAndInputsTakeEffect : Obligations.PulsesAndInputsTakeEffect := by
  unfold Obligations.PulsesAndInputsTakeEffect
  refine ⟨fun s diff n falling hr hn => ?_, fun s a b hr hc => ?_, fun s a b ha hb hr hc edge normal runs lines =>
    exec_inputEpoch_samples s ha hb hr hc edge normal runs lines⟩
  · obtain ⟨stamps, idle⟩ := exec_ppsInEdge_stamps s hr falling diff
    obtain ⟨follows, still⟩ := exec_ppsOutEdge_follows s hr hn
    exact ⟨stamps, idle, follows, still⟩
  · by_cases wf : Instr.wf (.inputEpoch a b) = true
    · rw [exec_inputEpoch s a b wf hr, if_neg hc, s.confine_self]
    · exact exec_illFormed (by simpa using wf) s

end Sys2Proof.Machine
end

section
/-!
SUPPORT. A step of network time (spec/07, R225 and R226) and what follows it: the Weaver takes the new time and a commit is aborted
(spec/09, R254; spec/13, R363), which leave network time, its registers and counters and the messages that wait.
-/
namespace Sys2Proof.Machine

/-- A register or counter of network time (spec/07). -/
def ofTime (k : Nat) : Prop := 0x140000 ≤ k ∧ k < 0x150000

/-- Network time, its registers and counters and the messages that wait are kept. -/
def State.ClockKept (s t : State) : Prop :=
  t.time = s.time ∧ t.mgt.inbox = s.mgt.inbox ∧ (∀ k, ofTime k → t.reg k = s.reg k) ∧ ∀ k, ofTime k → t.cnt k = s.cnt k

section
variable {s t u : State}

theorem State.ClockKept.refl (s : State) : s.ClockKept s := ⟨rfl, rfl, fun _ _ => rfl, fun _ _ => rfl⟩

theorem State.ClockKept.comp (h : s.ClockKept t) (h' : t.ClockKept u) : s.ClockKept u := by
  obtain ⟨time, inbox, regs, cnts⟩ := h
  obtain ⟨time', inbox', regs', cnts'⟩ := h'
  exact ⟨time'.trans time, inbox'.trans inbox, fun k hk => (regs' k hk).trans (regs k hk), fun k hk => (cnts' k hk).trans (cnts k hk)⟩

/-- A change beside registers, counters, network time and the messages that wait. -/
theorem State.clockKept_of (regs : t.regs = s.regs) (cnts : t.cnts = s.cnts) (time : t.time = s.time) (inbox : t.mgt.inbox = s.mgt.inbox) :
    s.ClockKept t :=
  ⟨time, inbox, fun k _ => State.reg_congr regs k, fun k _ => State.cnt_congr cnts k⟩

/-- A change before which only the rest differs. -/
theorem State.ClockKept.from (h : t.ClockKept u) (regs : t.regs = s.regs) (cnts : t.cnts = s.cnts) (time : t.time = s.time)
    (inbox : t.mgt.inbox = s.mgt.inbox) : s.ClockKept u := (State.clockKept_of regs cnts time inbox).comp h

/-- A change after which only the rest differs. -/
theorem State.ClockKept.after (h : s.ClockKept t) (regs : u.regs = t.regs) (cnts : u.cnts = t.cnts) (time : u.time = t.time)
    (inbox : u.mgt.inbox = t.mgt.inbox) : s.ClockKept u := h.comp (State.clockKept_of regs cnts time inbox)

theorem State.clockKept_but {keys cs : List Nat} (regs : s.RegsBut t keys) (cnts : s.CntsBut t cs) (time : t.time = s.time)
    (inbox : t.mgt.inbox = s.mgt.inbox) (hk : ∀ k ∈ keys, ¬ ofTime k) (hc : ∀ k ∈ cs, ¬ ofTime k) : s.ClockKept t :=
  ⟨time, inbox, fun k h => regs k (fun m => hk k m h), fun k h => cnts k (fun m => hc k m h)⟩

theorem forEach_clockKept {α : Type} {l : List α} {f : α → State → State} (hf : ∀ x s, State.ClockKept s (f x s)) (s : State) :
    s.ClockKept (forEach l f s) := by
  induction l generalizing s with
  | nil => exact State.ClockKept.refl s
  | cons x r ih => exact (hf x s).comp (ih (f x s))

theorem State.ClockKept.ite {c : Prop} [Decidable c] (h : s.ClockKept t) (h' : s.ClockKept u) : s.ClockKept (if c then t else u) := by
  split
  · exact h
  · exact h'

variable (s)

theorem State.setFld_clockKept (f : Fld) (v : Nat) (h : 0x150000 ≤ f.key) : s.ClockKept (s.setFld f v) :=
  State.clockKept_but (s.regsBut_setFld f v) (State.cntsBut_of_cnts rfl []) rfl rfl
    (fun k hk => by rw [List.mem_singleton.mp hk, ofTime]; omega) (by simp)

theorem State.inc_clockKept (c : Nat) (h : 0x150000 ≤ c) : s.ClockKept (s.inc c) :=
  State.clockKept_but (State.regsBut_of_regs rfl []) (s.cntsBut_inc c) rfl rfl (by simp)
    (fun k hk => by rw [List.mem_singleton.mp hk, ofTime]; omega)

theorem journalKeys_notTime : ∀ k ∈ journalKeys, ¬ ofTime k := by
  intro k hk
  simp only [journalKeys, List.mem_cons, List.not_mem_nil, or_false] at hk
  rcases hk with rfl | rfl | rfl | rfl | rfl | rfl <;> simp only [ofTime] <;> decide

theorem eventCounters_notTime : ∀ k ∈ eventCounters, ¬ ofTime k := by
  intro k hk
  simp only [eventCounters, List.mem_cons, List.not_mem_nil, or_false] at hk
  rcases hk with rfl | rfl <;> simp only [ofTime] <;> decide

theorem State.raise_clockKept (c : Nat) (d : List Byte) : s.ClockKept (s.raise c d) :=
  State.clockKept_but (s.raise_regsBut c d) (s.raise_cntsBut c d) ((s.raise_only c d).keeps State.time rfl) (s.raise_noted c d).inbox
    journalKeys_notTime eventCounters_notTime

theorem State.raiseFlag_clockKept (f : Fld) (d : List Byte) (h : 0x150000 ≤ f.key) : s.ClockKept (s.raiseFlag f d) := by
  refine State.clockKept_but (s.raiseFlag_regsBut f d) (s.raiseFlag_cntsBut f d) ((s.raiseFlag_only f d).keeps State.time rfl)
    (s.raiseFlag_noted f d).inbox (fun k hk => ?_) eventCounters_notTime
  rcases List.mem_cons.mp hk with rfl | hk
  · rw [ofTime]; omega
  · exact journalKeys_notTime k hk

theorem State.wvrEvent_clockKept (b : Nat) : s.ClockKept (s.wvrEvent b) := s.raiseFlag_clockKept ⟨K.WVR_EVT, b, b⟩ [] (show 0x150000 ≤ K.WVR_EVT by decide)

theorem State.nmEvent_clockKept (e source groups : Nat) : s.ClockKept (s.nmEvent e source groups) := by
  unfold State.nmEvent
  split
  · exact State.ClockKept.refl s
  · exact State.ClockKept.from (State.raise_clockKept _ _ _) rfl rfl rfl rfl

theorem State.mcSend_clockKept (f : LaneFrame) : s.ClockKept (s.mcSend f) := by
  unfold State.mcSend
  split <;> exact State.clockKept_of rfl rfl rfl rfl

/-! ## A copy of the unit's own -/

theorem State.headTag_clockKept (q st : Nat) : s.ClockKept (s.headTag q st) := by
  unfold State.headTag
  split
  · exact State.ClockKept.refl s
  · exact State.clockKept_of rfl rfl rfl rfl

theorem State.pushCopy_clockKept (q : Nat) (c : Copy) : s.ClockKept (s.pushCopy q c) := by
  unfold State.pushCopy
  simp only
  split
  · exact State.ClockKept.from (State.headTag_clockKept _ _ _) rfl rfl rfl rfl
  · exact State.clockKept_of rfl rfl rfl rfl

/-- A copy without a received frame joins its queue, or is counted at a sleeping port. -/
theorem State.enqueue_clockKept (p n : Nat) {c : Copy} (h : c.frame = none) : s.ClockKept (s.enqueue p n c) := by
  simp only [State.enqueue, h]
  split
  · exact s.inc_clockKept _ (by decide)
  · exact s.pushCopy_clockKept _ _

theorem State.pairSend_clockKept (ty : Nat) (body : List Byte) : s.ClockKept (s.pairSend ty body) := by
  have sent : s.ClockKept (forEach ({ s with twin := { s.twin with
      txSeq := mapModify (fun _ => 0) s.twin.txSeq ty (fun n => (n + 1) % 2 ^ 32) } }.pairUp) (fun p t => t.enqueue p 7
      ⟨none, { s with twin := { s.twin with txSeq := mapModify (fun _ => 0) s.twin.txSeq ty (fun n => (n + 1) % 2 ^ 32) } }.pairFrame ty body,
        none, 0, none, false, none, 0, .pair, false, none⟩)
      { s with twin := { s.twin with txSeq := mapModify (fun _ => 0) s.twin.txSeq ty (fun n => (n + 1) % 2 ^ 32) } }) :=
    (State.clockKept_of rfl rfl rfl rfl).comp (forEach_clockKept (fun p t => t.enqueue_clockKept p 7 rfl) _)
  obtain ⟨_, _, _, cnts⟩ := sent
  exact ⟨rfl, rfl, fun _ _ => rfl, cnts⟩

/-! ## The Weaver takes the new time -/

/-- A frame that does not find a place in the lane. -/
theorem State.laneFull_clockKept : s.ClockKept ((s.inc (C.wvr 13)).wvrEvent 6) :=
  (s.inc_clockKept (C.wvr 13) (by decide)).comp (State.wvrEvent_clockKept _ _)

theorem State.laned_clockKept (l : List LaneFrame) : s.ClockKept ({ s with mgt := { s.mgt with wvLane := l } }.inc (C.wvr 12)) :=
  State.ClockKept.from (State.inc_clockKept _ (C.wvr 12) (by decide)) rfl rfl rfl rfl

theorem State.closeFrame_clockKept (c : Nat) : s.ClockKept (s.closeFrame c) := by
  have cleared (u : State) (l : List OpenPdu) : u.ClockKept (forEach l (fun p s => s.setFld (F.WVR_PDU_STATE_IN_FRAME p.pdu) 0) u) :=
    forEach_clockKept (fun p t => t.setFld_clockKept _ _ (by simp only [F.WVR_PDU_STATE_IN_FRAME, K.WVR_PDU_STATE]; omega)) u
  unfold State.closeFrame
  simp only
  split
  · exact State.ClockKept.refl s
  · generalize (s.openFrame c).pdus = l
    refine (cleared s l).comp ?_
    generalize forEach l (fun p s => s.setFld (F.WVR_PDU_STATE_IN_FRAME p.pdu) 0) s = v
    refine State.ClockKept.ite ?_ ?_
    · exact State.ClockKept.from (State.laneFull_clockKept _) rfl rfl rfl rfl
    · exact State.ClockKept.from (State.laned_clockKept _ _) rfl rfl rfl rfl

theorem State.closeReady_clockKept : s.ClockKept s.closeReady :=
  forEach_clockKept (fun c t => (t.closeFrame_clockKept c).ite (State.ClockKept.refl t)) s

theorem State.wvrRefused_clockKept : s.ClockKept s.wvrRefused := (s.inc_clockKept _ (by decide)).comp (State.wvrEvent_clockKept _ _)

theorem State.canRequest_clockKept (n : Nat) (r : CanReq) : s.ClockKept (s.canRequest n r).2 := by
  have edge (k : Nat) : 0x150000 ≤ C.edge n k := by simp only [C.edge]; omega
  unfold State.canRequest
  simp only
  split
  · exact s.inc_clockKept _ (edge _)
  · split
    · exact ((s.inc_clockKept _ (edge _)).ite (State.ClockKept.refl s)).after rfl rfl rfl rfl
    · split
      · exact s.inc_clockKept _ (edge _)
      · exact State.clockKept_of rfl rfl rfl rfl

theorem State.linRequest_clockKept (n : Nat) (d : List Byte) : s.ClockKept (s.linRequest n d) := by
  unfold State.linRequest
  simp only
  split
  · exact (s.inc_clockKept _ (by simp only [C.edge]; omega)).comp (State.wvrRefused_clockKept _)
  · exact ((s.inc_clockKept (C.wvr 11) (by decide)).ite (State.ClockKept.refl s)).after rfl rfl rfl rfl

theorem pduState_far (i : Nat) : 0x150000 ≤ K.WVR_PDU_STATE i := by simp only [K.WVR_PDU_STATE]; omega

theorem State.addToFrame_clockKept (i t : Nat) (launch : Option Nat) : s.ClockKept (s.addToFrame i t launch) := by
  unfold State.addToFrame
  simp only
  split
  · exact State.ClockKept.refl s
  · split
    · exact State.ClockKept.from (State.inc_clockKept _ (C.wvr 11) (by decide)) rfl rfl rfl rfl
    · refine State.ClockKept.comp ?_ (State.setFld_clockKept _ _ _ (pduState_far i))
      exact State.ClockKept.after ((s.closeFrame_clockKept _).ite (State.ClockKept.refl s)) rfl rfl rfl rfl

/-- A PDU's image that is sent: counted, stamped and no longer deferred. -/
def State.sentNow (s : State) (i t : Nat) : State :=
  let s := ((s.inc (C.wvr 8)).setStamp i t).setFld (F.WVR_PDU_STATE_DEFERRED i) 0
  { s with wvr := { s.wvr with lastSend := mapSet (fun _ => none) s.wvr.lastSend i (some s.cycle) } }

theorem State.sentNow_clockKept (i t : Nat) : s.ClockKept (s.sentNow i t) := by
  have counted := s.inc_clockKept (C.wvr 8) (by decide)
  have stamped : s.ClockKept ((s.inc (C.wvr 8)).setStamp i t) := counted.after rfl rfl rfl rfl
  exact (stamped.comp (State.setFld_clockKept _ (F.WVR_PDU_STATE_DEFERRED i) 0 (pduState_far i))).after rfl rfl rfl rfl

/-- Where a PDU goes: its CAN channel, the diagnostic frame of its LIN channel or its carrier. -/
def State.sendOn (s : State) (i t : Nat) : State :=
  let d := (s.image i).take (s.pduLen i)
  match s.pduKind i with
  | 0 =>
    let (ok, s) := s.canRequest (s.pduChannel i) ⟨s.pduFmt i, s.pduId i, (s.pdu2 i 27 27 == 1), (s.pdu2 i 26 26 == 1),
      if s.pduFmt i = 2 then [0, 0, 0, 0] else [], d, 0⟩
    if ok then s else s.wvrRefused
  | 1 => if s.pduId i = 0x3C then s.linRequest (s.pduChannel i - 24) d else s
  | _ => s.addToFrame i t (if s.pdu2 i 28 28 = 1 then some (t + s.fld (F.WVR_PDU_DATA6_LAUNCH_NS i)) else none)

theorem State.doSend_eq (i t : Nat) : s.doSend i t = (s.sentNow i t).sendOn i t := rfl

theorem State.sendOn_clockKept (i t : Nat) : s.ClockKept (s.sendOn i t) := by
  unfold State.sendOn
  simp only
  split
  · exact (s.canRequest_clockKept _ _).comp ((State.ClockKept.refl _).ite (State.wvrRefused_clockKept _))
  · exact (State.linRequest_clockKept _ _ _).ite (State.ClockKept.refl _)
  · exact State.addToFrame_clockKept _ _ _ _

theorem State.doSend_clockKept (i t : Nat) : s.ClockKept (s.doSend i t) :=
  s.doSend_eq i t ▸ (s.sentNow_clockKept i t).comp (State.sendOn_clockKept _ i t)

theorem State.startDeadline_clockKept (i : Nat) : s.ClockKept (s.startDeadline i) := by
  unfold State.startDeadline
  exact State.clockKept_of rfl rfl rfl rfl

/-- The deadlines, the due times and the deferred sends that a step starts again. -/
def State.stepDeadlines (s : State) : State :=
  forEach s.wvr.deadline (fun c s => if c.2.isSome then s.startDeadline c.1 else s) s

def State.stepDues (s : State) : State := forEach s.wvr.due (fun c s => s.setDue c.1 (s.firstDue c.1 (s.nowNs + 1))) s

def State.stepDeferred (s : State) (i : Nat) : State :=
  if s.flag (F.WVR_PDU_STATE_DEFERRED i) then
    (if s.maySend i then s.doSend i s.nowNs else s.setFld (F.WVR_PDU_STATE_DEFERRED i) 0)
  else s

def State.stepSends (s : State) : State := forEach s.pduList (fun i s => s.stepDeferred i) s

theorem State.wvrStep_eq : s.wvrStep = s.stepDeadlines.stepDues.stepSends.closeReady := rfl

theorem State.stepDeferred_clockKept (i : Nat) : s.ClockKept (s.stepDeferred i) :=
  ((s.doSend_clockKept _ _).ite (s.setFld_clockKept _ _ (pduState_far i))).ite (State.ClockKept.refl s)

theorem State.wvrStep_clockKept : s.ClockKept s.wvrStep := by
  have deadlines : s.ClockKept s.stepDeadlines := by
    refine forEach_clockKept (fun c t => ?_) s
    exact State.ClockKept.ite (t.startDeadline_clockKept c.1) (State.ClockKept.refl t)
  have dues (u : State) : u.ClockKept u.stepDues := by
    refine forEach_clockKept (fun c t => ?_) u
    exact State.clockKept_of rfl rfl rfl rfl
  have sends (u : State) : u.ClockKept u.stepSends := forEach_clockKept (fun i t => t.stepDeferred_clockKept i) u
  rw [s.wvrStep_eq]
  exact ((deadlines.comp (dues _)).comp (sends _)).comp (State.closeReady_clockKept _)

/-! ## A commit that is aborted -/

theorem State.tellStandby_clockKept (set : Nat) (abort : Bool) : s.ClockKept (s.tellStandby set abort) := by
  unfold State.tellStandby
  split
  · exact s.pairSend_clockKept _ _
  · exact State.ClockKept.refl s

/-- A commit that begins: the groups, the members told and the time. -/
def State.commitMark (s : State) (groups : Nat) (forced : Bool) : State :=
  { s with nm := { s.nm with
    committed := groups, tCommit := s.nowNs + 1000 * s.fld F.NM_CFG_GUARD_US, told := s.membersOf groups,
    armed := true, latched := none, visiting := none, set := if forced then groups else s.nm.set } }

/-- A commit's messages to its members. -/
def State.commitTell (s : State) (groups : Nat) (forced : Bool) (told : List Nat) : State :=
  forEach told (fun m s => s.ringSend 3 s.nm.round groups 255 (b2n forced) s.nm.tCommit m) s

/-- The LIN channels that a commit puts to sleep. -/
def State.commitLin (s : State) (groups : Nat) : State :=
  forEach (s.commanders groups) (fun n s => s.setLin n { s.lin n with goSleep := true, slept := false }) s

theorem State.commitSleep_eq (groups : Nat) (forced : Bool) : s.commitSleep groups forced =
    (((((((s.commitMark groups forced).commitTell groups forced (s.membersOf groups)).tellStandby groups false).commitLin groups).setFld
      F.NM_STATE_RING 2).inc (C.nm 3)).nmEvent 4 255 groups) := rfl

theorem State.commitSleep_clockKept (groups : Nat) (forced : Bool) : s.ClockKept (s.commitSleep groups forced) := by
  have told (u : State) (l : List Nat) : u.ClockKept (u.commitTell groups forced l) := forEach_clockKept (fun m t => t.mcSend_clockKept _) u
  have lin (u : State) : u.ClockKept (u.commitLin groups) := forEach_clockKept (fun n t =>
    show t.ClockKept (t.setLin n { t.lin n with goSleep := true, slept := false }) from State.clockKept_of rfl rfl rfl rfl) u
  have mark : s.ClockKept (s.commitMark groups forced) := State.clockKept_of rfl rfl rfl rfl
  rw [s.commitSleep_eq]
  exact (((((mark.comp (told _ _)).comp (State.tellStandby_clockKept _ _ _)).comp (lin _)).comp
    (State.setFld_clockKept _ F.NM_STATE_RING 2 (by decide))).comp (State.inc_clockKept _ (C.nm 3) (by decide))).comp
    (State.nmEvent_clockKept _ _ _ _)

/-- The next forced commit, where one waits. -/
def State.forcedNext (s : State) : State :=
  match s.nm.forced with
  | [] => s
  | g :: r => { s with nm := { s.nm with forced := r } }.commitSleep (2 ^ g) true

theorem State.ringIdle_eq : s.ringIdle = (s.setFld F.NM_STATE_RING 0).forcedNext := rfl

theorem State.forcedNext_clockKept : s.ClockKept s.forcedNext := by
  unfold State.forcedNext
  split
  · exact State.ClockKept.refl _
  · exact State.ClockKept.from (State.commitSleep_clockKept _ _ _) rfl rfl rfl rfl

theorem State.ringIdle_clockKept : s.ClockKept s.ringIdle :=
  s.ringIdle_eq ▸ (s.setFld_clockKept F.NM_STATE_RING 0 (by decide)).comp (State.forcedNext_clockKept _)

theorem State.setFlds_clockKept {l : List (Fld × Nat)} (h : ∀ c ∈ l, 0x150000 ≤ c.1.key) : s.ClockKept (s.setFlds l) := by
  induction l generalizing s with
  | nil => exact State.ClockKept.refl s
  | cons c r ih =>
    exact (s.setFld_clockKept c.1 c.2 (h c (by simp))).comp (ih _ (fun x hx => h x (by simp [hx])))

theorem State.linAgain_clockKept (n : Nat) : s.ClockKept (s.linAgain n) := by
  unfold State.linAgain State.linSwitchTo
  refine (State.clockKept_of rfl rfl rfl rfl).comp (State.setFlds_clockKept _ (fun c hc => ?_))
  simp only [List.mem_cons, List.not_mem_nil, or_false] at hc
  rcases hc with rfl | rfl | rfl <;>
    simp only [F.LIN_STATUS_TABLE, F.LIN_STATUS_ENTRY, F.LIN_STATUS_SWITCH_PENDING, K.LIN_STATUS] <;> omega

theorem State.linPulse_clockKept (n : Nat) : s.ClockKept (s.linPulse n) := by
  unfold State.linPulse
  split
  · exact State.clockKept_of rfl rfl rfl rfl
  · exact State.ClockKept.refl s

theorem State.wakeOut_clockKept : s.ClockKept s.wakeOut := by
  unfold State.wakeOut
  split
  · exact State.clockKept_of rfl rfl rfl rfl
  · exact State.ClockKept.refl s

/-- The members and the LIN channels of an aborted commit. -/
def State.abortTell (s : State) : State :=
  if s.standby then s else forEach s.nm.told (s := s) (fun m t => t.ringSend 4 t.nm.round s.nm.committed 255 0 t.nm.tCommit m)

def State.abortLin (s : State) (set : Nat) : State :=
  forEach (s.commanders set) (fun n s =>
    let l := s.lin n
    let s := s.setLin n { l with goSleep := false, slept := false }
    if l.slept then (s.linPulse n).linAgain n else s) s

def State.abortGroups (s : State) : State := forEach (List.range 16) (fun g s => s.setFld (F.NM_GROUP_STATUS_RUN g) 0) s

/-- No commit stands any more. -/
def State.abortMark (s : State) : State := { s with nm := { s.nm with committed := 0, told := [], armed := false } }

def State.wakeUnless (s : State) (byBus : Bool) : State := if byBus then s else s.wakeOut

theorem State.abortCommit_eq (byBus : Bool) : s.abortCommit byBus =
    (((((((s.abortTell.tellStandby s.nm.committed true).wakeUnless byBus).abortLin s.nm.committed).abortGroups).abortMark).inc (C.nm 4)).nmEvent 5
      255 s.nm.committed).ringIdle := rfl

theorem State.abortLin_clockKept (set : Nat) : s.ClockKept (s.abortLin set) := by
  refine forEach_clockKept (fun n u => ?_) s
  exact State.ClockKept.ite (State.ClockKept.from ((State.linPulse_clockKept _ _).comp (State.linAgain_clockKept _ _)) rfl rfl rfl rfl)
    (State.clockKept_of rfl rfl rfl rfl)

theorem State.abortCommit_clockKept (byBus : Bool) : s.ClockKept (s.abortCommit byBus) := by
  have told : s.ClockKept s.abortTell := (State.ClockKept.refl s).ite (forEach_clockKept (fun m t => t.mcSend_clockKept _) s)
  have wakes (u : State) : u.ClockKept (u.wakeUnless byBus) := (State.ClockKept.refl u).ite u.wakeOut_clockKept
  have groups (u : State) : u.ClockKept u.abortGroups :=
    forEach_clockKept (fun g t => t.setFld_clockKept _ _ (by simp only [F.NM_GROUP_STATUS_RUN, K.NM_GROUP_STATUS]; omega)) u
  have mark (u : State) : u.ClockKept u.abortMark := State.clockKept_of rfl rfl rfl rfl
  rw [s.abortCommit_eq]
  exact (((((((told.comp (State.tellStandby_clockKept _ _ _)).comp (wakes _)).comp (State.abortLin_clockKept _ _)).comp (groups _)).comp
    (mark _)).comp (State.inc_clockKept _ (C.nm 4) (by decide))).comp (State.nmEvent_clockKept _ _ _ _)).comp (State.ringIdle_clockKept _)

/-- After a step the Weaver and the ring act; that the step is over is all that network time shows of it. -/
theorem State.afterStep_clockKept : { s with time := { s.time with stepped := false } }.ClockKept s.afterStep := by
  unfold State.afterStep
  split
  · have wvr := State.wvrStep_clockKept { s with time := { s.time with stepped := false } }
    exact wvr.comp ((State.abortCommit_clockKept _ _).ite (State.ClockKept.refl _))
  case isFalse h =>
    have still : s.time.stepped = false := by simpa using h
    have same : ({ s with time := { s.time with stepped := false } } : State) = s := by rw [← still]
    rw [same]
    exact State.ClockKept.refl s

/-! ## The step itself -/

theorem State.fillBucket_only (full : Bool) (l b : Nat) : s.Only (s.fillBucket full l b) [.regs, .held, .data] := rfl

theorem State.tickBucket_only (l r b : Nat) : s.Only (s.tickBucket l r b) [.regs, .held, .data] := rfl

theorem State.fillAll_only (full : Bool) (bs : List Bucket) : s.Only (s.fillAll full bs) [.regs, .held, .data] := by
  induction bs generalizing s with
  | nil => exact s.only_refl _
  | cons b r ih => exact (s.fillBucket_only full b.level b.burst).comp (ih _)

theorem State.feedAll_only (bs : List Bucket) : s.Only (s.feedAll bs) [.regs, .held, .data] := by
  induction bs generalizing s with
  | nil => exact s.only_refl _
  | cons b r ih => exact (s.tickBucket_only b.level b.rate b.burst).comp (ih _)

theorem State.takeUnit_only (ctrl : Nat) (bs : List Bucket) : s.Only (s.takeUnit ctrl bs) [.regs, .held, .data] := by
  have en (u : State) : u.Only (u.takeEn ctrl) [.regs, .held, .data] := by
    unfold State.takeEn
    split <;> rfl
  exact ((s.commitAll_only _).mono _ (by decide)).comp (en _)

theorem State.tickUnit_only (ctrl : Nat) (bs : List Bucket) : s.Only (s.tickUnit ctrl bs) [.regs, .held, .data] := by
  have done (u : State) : u.Only (u.setFld ⟨ctrl, 4, 4⟩ 0) [.regs, .held, .data] := rfl
  unfold State.tickUnit
  split
  · exact ((s.takeUnit_only ctrl bs).comp (State.fillAll_only _ _ _)).comp (done _)
  · split
    · exact s.feedAll_only bs
    · exact s.only_refl _

/-- A meter that commits what it held. -/
def State.meterCommit (s : State) (i : Nat) : State :=
  let commit := s.flag (F.MTR_CTRL_PENDING i)
  let s := if commit then (s.commitAll [K.MTR_CIR i, K.MTR_CBS i, K.MTR_PIR i, K.MTR_PBS i]).setFld (F.MTR_CTRL_PENDING i) 0 else s
  { s with data := { s.data with meterStart := s.data.meterStart.filter (fun k => k != i) } }

theorem State.meterCommit_only (i : Nat) : s.Only (s.meterCommit i) [.regs, .held, .data] := by
  unfold State.meterCommit
  simp only
  split
  · exact ((s.commitAll_only _).mono _ (by decide)).comp rfl
  · rfl

theorem State.tickMeter_eq (i : Nat) : s.tickMeter i =
    let u := s.meterCommit i
    if s.flag (F.MTR_CTRL_PENDING i) || s.data.meterStart.contains i then
      let full := u.flag (F.MTR_CTRL_RESET_FILL i)
      (u.fillBucket full (K.MTR_C_LEVEL i) (K.MTR_CBS i)).fillBucket full (K.MTR_P_LEVEL i) (K.MTR_PBS i)
    else if u.flag (F.STRM_WIN_FILTER_METER_EN i) then
      (u.tickBucket (K.MTR_C_LEVEL i) (K.MTR_CIR i) (K.MTR_CBS i)).tickBucket (K.MTR_P_LEVEL i) (K.MTR_PIR i) (K.MTR_PBS i)
    else u := rfl

theorem State.tickMeter_only (i : Nat) : s.Only (s.tickMeter i) [.regs, .held, .data] := by
  rw [s.tickMeter_eq]
  simp only
  split
  · exact (s.meterCommit_only i).comp ((State.fillBucket_only _ _ _ _).comp (State.fillBucket_only _ _ _ _))
  · split
    · exact (s.meterCommit_only i).comp ((State.tickBucket_only _ _ _ _).comp (State.tickBucket_only _ _ _ _))
    · exact s.meterCommit_only i

theorem State.tick_only : s.Only s.tick [.regs, .held, .data] := by
  rw [s.tick_rounds]
  have shapers (u : State) : u.Only u.tickShapers [.regs, .held, .data] :=
    forEach_only (l := [.regs, .held, .data]) State.tickShaper (fun q t => tickShaper_eq q t ▸ t.tickUnit_only _ _) _ u
  have meters (u : State) : u.Only u.tickMeters [.regs, .held, .data] :=
    forEach_only (l := [.regs, .held, .data]) State.tickMeter (fun q t => t.tickMeter_only q) _ u
  have policers (u : State) : u.Only u.tickPolicers [.regs, .held, .data] :=
    forEach_only (l := [.regs, .held, .data]) State.tickPolicer (fun q t => tickPolicer_eq q t ▸ t.tickUnit_only _ _) _ u
  exact ((shapers s).comp (meters _)).comp (policers _)

theorem State.tick_clockKept : s.ClockKept s.tick := by
  have only := s.tick_only
  refine ⟨only.keeps State.time rfl, congrArg (fun m => m.inbox) (only.keeps State.mgt rfl), fun k hk => ?_,
    fun k _ => State.cnt_congr (only.keeps State.cnts rfl) k⟩
  obtain ⟨low, high⟩ := hk
  have place : s.tick.place k = s.place k := by
    rw [s.tick_rounds, State.tickPolicers_place _ (by omega), State.tickMeters_place _ (by omega), State.tickShapers_place _ (by omega)]
  exact congrArg (fun p => p.1) place

/-- Network time after a step to `t`. -/
def TimeSt.at (x : TimeSt) (t : Int) : TimeSt :=
  { x with now := (t % (timeMod : Int)).toNat, stepped := true, ppsLate := [],
           ldgMs := (t % (timeMod : Int)).toNat / fracPerNs / 1000000,
           ldgSec := (t % (timeMod : Int)).toNat / fracPerNs / 1000000000 }

/-- R225: a step puts the counter, is counted and ticks the token buckets. -/
theorem State.stepTo_steps (t : Int) : (s.stepTo t).time = s.time.at t ∧ (s.stepTo t).mgt.inbox = s.mgt.inbox ∧
    (∀ k, ofTime k → (s.stepTo t).reg k = s.reg k) ∧ (s.stepTo t).cnt (C.time 6) = s.cnt (C.time 6) + 1 ∧
    (∀ c, ofTime c → c ≠ C.time 6 → (s.stepTo t).cnt c = s.cnt c) := by
  let u := { s with time := s.time.at t }.inc (C.time 6)
  obtain ⟨time, inbox, regs, cnts⟩ := u.tick_clockKept
  have eq : s.stepTo t = u.tick := rfl
  rw [eq]
  refine ⟨time, inbox, regs, (cnts _ (by simp only [ofTime]; decide)).trans (State.cnt_inc_same _ _), fun c hc ne => ?_⟩
  exact (cnts c hc).trans (State.cnt_inc_other _ ne.symm)

end
end Sys2Proof.Machine
end

section /-! SUPPORT. What settles after a command on network time (spec/07, R225 and R229), and the states of the servo (R224). -/
namespace Sys2Proof.Machine

section
variable {s : State}

/-- A command that may step network time: what follows it keeps network time's registers and counters. -/
theorem State.settled_clock {x : State} {f : State → State} (hx : f s.unstepped = x) :
    (s.settled f).time = { x.time with stepped := false, ppsOut := (s.settled f).time.ppsOut } ∧ (s.settled f).mgt.inbox = x.mgt.inbox ∧
    (∀ k, ofTime k → (s.settled f).reg k = x.reg k) ∧ ∀ k, ofTime k → (s.settled f).cnt k = x.cnt k := by
  have eq : s.settled f = x.settleTime := hx ▸ rfl
  obtain ⟨time, inbox, regs, cnts⟩ := State.afterStep_clockKept x.ppsAll
  have pulses := x.ppsAll_only
  rw [eq]
  have after : x.settleTime.time = x.ppsAll.afterStep.time := rfl
  refine ⟨?_, inbox.trans (congrArg (fun m => m.inbox) (pulses.keeps State.mgt rfl)),
    fun k hk => (regs k hk).trans (State.reg_congr (pulses.keeps State.regs rfl) k),
    fun k hk => (cnts k hk).trans (State.cnt_congr (pulses.keeps State.cnts rfl) k)⟩
  rw [after, time]
  exact congrArg (fun t => { t with stepped := false }) x.ppsAll_time

theorem State.timeKept_ppsAll {x : State} (h : x.time = s.unstepped.time) : s.TimeKept x.ppsAll := by
  have after := x.ppsAll_time
  rw [h] at after
  exact after

/-- A command that changes nothing but what settles. -/
theorem State.settled_same {f : State → State} (hf : f s.unstepped = s.unstepped) :
    s.TimeKept (s.settled f) ∧ s.Only (s.settled f) [.time, .out] := by
  obtain ⟨settled, only⟩ := State.settled_quiet (f := f) (l := [.time, .out]) hf rfl (s.unstepped.only_refl _) (by decide)
  rw [settled]
  exact ⟨State.timeKept_ppsAll rfl, only⟩

/-! ## Signed registers -/

theorem toSigned_bounds {k : Nat} (h : k < 2 ^ 32) : -2 ^ 31 ≤ toSigned 32 k ∧ toSigned 32 k < 2 ^ 31 := by
  simp only [toSigned, Nat.mod_eq_of_lt h]
  split <;> omega

theorem State.rateAdj_bounds (s : State) : -2 ^ 31 ≤ s.rateAdj ∧ s.rateAdj < 2 ^ 31 := toSigned_bounds (s.fld_lt F.TIME_RATE_RATE_ADJ)

/-- A whole register holds a signed value. -/
theorem State.toSigned_setFld (u : State) {f : Fld} (hl : f.lo = 0) (hh : f.hi = 31) {x : Int} (h : -2 ^ 31 ≤ x ∧ x < 2 ^ 31) :
    toSigned 32 ((u.setFld f (ofSigned 32 x)).fld f) = x := by
  have small : ofSigned 32 x < 2 ^ 32 := by
    simp only [ofSigned]
    omega
  rw [u.fld_setFld_same f _ (by omega) (by omega), hl, hh, Nat.mod_eq_of_lt small]
  exact toSigned_ofSigned h.1 h.2

/-! ## States of the servo -/

theorem State.setServo_to (s : State) {st : Nat} (hst : st < 4) : (s.setServo st).servoState = st ∧
    s.RegsBut (s.setServo st) (K.TIME_STATUS :: journalKeys) ∧ s.CntsBut (s.setServo st) eventCounters ∧
    s.Only (s.setServo st) [.regs, .cnts, .mgt, .key] ∧ s.Noted (s.setServo st) ∧
    (st ≠ s.servoState → (s.setServo st).flag F.TIME_STATUS_STATE_CHANGED = true) := by
  by_cases h : st = s.servoState
  · rw [show s.setServo st = s from if_pos h]
    exact ⟨h.symm, State.RegsBut.refl s _, State.CntsBut.refl s _, s.only_refl _, .refl s, fun e => absurd h e⟩
  · let u := s.setFld F.TIME_STATUS_STATE st
    have eq : s.setServo st = u.raiseFlag F.TIME_STATUS_STATE_CHANGED (beBytes 1 st) := if_neg h
    rw [eq]
    refine ⟨?_, ?_, u.raiseFlag_cntsBut _ _, ?_, ?_, fun _ => u.raiseFlag_flag _ _ rfl (by decide) (by decide)⟩
    · exact (u.raiseFlag_fld F.TIME_STATUS_STATE_CHANGED F.TIME_STATUS_STATE _ (by decide) (by decide) (by decide) rfl (by decide)
        (by decide)).trans ((s.fld_setFld_same F.TIME_STATUS_STATE st (by decide) (by decide)).trans (Nat.mod_eq_of_lt hst))
    · exact ((s.regsBut_setFld F.TIME_STATUS_STATE st).mono (by simp [F.TIME_STATUS_STATE])).comp (u.raiseFlag_regsBut _ _)
    · exact (show s.Only u [.regs, .cnts, .mgt, .key] from rfl).comp (u.raiseFlag_only _ _)
    · exact (State.noted_of (t := u) rfl rfl).comp (u.raiseFlag_noted _ _)

end

section
variable (s : State)

/-! ## Captures -/

theorem exec_timeNowCapture_captures (hr : s.mcRuns = true) :
    ∃ t, exec .timeNowCapture s = .next t ∧ t.time = { s.time with capNow := s.time.now } ∧
      t.busData = BitVec.ofNat 32 (s.time.now / fracPerNs % 1000000000) ∧ s.Only t [.busData, .time] :=
  ⟨_, exec_timeNowCapture s hr, rfl, rfl, s.only_confine _ _⟩

theorem exec_ppsInStampCapture_captures (hr : s.mcRuns = true) :
    ∃ t, exec .ppsInStampCapture s = .next t ∧ t.time = { s.time with capPps := s.time.ppsStamp } ∧
      t.busData = BitVec.ofNat 32 (s.time.ppsStamp / fracPerNs % 1000000000) ∧ s.Only t [.busData, .time] :=
  ⟨_, exec_ppsInStampCapture s hr, rfl, rfl, s.only_confine _ _⟩

/-! ## SOURCE -/

/-- The rate that a new SOURCE starts from, and its first state. -/
def State.restartServo (s : State) (src : Nat) : State :=
  (((s.setFld F.TIME_CTRL_SOURCE src).setInteg s.rateAdj).setAvg s.rateAdj).setServo (if src = 0 then 0 else 1)

/-- The input pulse counts afresh. -/
def State.unseen (s : State) : State := { s with time := { s.time with ppsSeen := false } }

theorem State.writeSource_eq {src : Nat} (h : src < 3) (ne : src ≠ s.fld F.TIME_CTRL_SOURCE) :
    s.writeSource src = (s.restartServo src).unseen := by
  have rate : (s.setFld F.TIME_CTRL_SOURCE src).rateAdj = s.rateAdj :=
    congrArg (toSigned 32) (s.fld_setFld_key F.TIME_CTRL_SOURCE F.TIME_RATE_RATE_ADJ src (by decide))
  have taken : ¬ (3 ≤ src ∨ src = s.fld F.TIME_CTRL_SOURCE) := by omega
  simp only [State.writeSource, taken, if_false, rate]
  rfl

theorem State.restartServo_restarts {src : Nat} (h : src < 3) :
    (s.restartServo src).fld F.TIME_CTRL_SOURCE = src ∧ (s.restartServo src).integ = s.rateAdj ∧ (s.restartServo src).avg = s.rateAdj ∧
    (s.restartServo src).servoState = (if src = 0 then 0 else 1) ∧ (s.restartServo src).rateAdj = s.rateAdj ∧
    s.Only (s.restartServo src) [.regs, .cnts, .mgt, .key] ∧
    s.RegsBut (s.restartServo src) (K.TIME_CTRL :: K.SERVO_INTEG :: K.SERVO_AVG :: K.TIME_STATUS :: journalKeys) := by
  let a := s.setFld F.TIME_CTRL_SOURCE src
  let b := a.setInteg s.rateAdj
  let c := b.setAvg s.rateAdj
  have source : a.fld F.TIME_CTRL_SOURCE = src :=
    (s.fld_setFld_same F.TIME_CTRL_SOURCE src (by decide) (by decide)).trans (Nat.mod_eq_of_lt (show src < 4 by omega))
  have first : s.RegsBut a [K.TIME_CTRL] := s.regsBut_setFld F.TIME_CTRL_SOURCE src
  have second : a.RegsBut b [K.SERVO_INTEG] := a.regsBut_setFld F.SERVO_INTEG_VALUE _
  have third : b.RegsBut c [K.SERVO_AVG] := b.regsBut_setFld F.SERVO_AVG_VALUE _
  have integ : b.integ = s.rateAdj := a.toSigned_setFld (f := F.SERVO_INTEG_VALUE) rfl rfl s.rateAdj_bounds
  have avg : c.avg = s.rateAdj := b.toSigned_setFld (f := F.SERVO_AVG_VALUE) rfl rfl s.rateAdj_bounds
  have all : s.RegsBut c [K.TIME_CTRL, K.SERVO_INTEG, K.SERVO_AVG] :=
    ((first.mono (by simp)).comp (second.mono (by simp))).comp (third.mono (by simp))
  obtain ⟨state, regs, _, only, _, _⟩ := c.setServo_to (st := if src = 0 then 0 else 1) (by split <;> decide)
  have eq : s.restartServo src = c.setServo (if src = 0 then 0 else 1) := rfl
  rw [eq]
  refine ⟨?_, ?_, ?_, state, ?_, (show s.Only c [.regs, .cnts, .mgt, .key] from rfl).comp only, ?_⟩
  · exact (regs.fld (by decide)).trans ((third.fld (by decide)).trans ((second.fld (by decide)).trans source))
  · exact (congrArg (toSigned 32) ((regs.fld (f := F.SERVO_INTEG_VALUE) (by decide)).trans (third.fld (by decide)))).trans integ
  · exact (congrArg (toSigned 32) (regs.fld (f := F.SERVO_AVG_VALUE) (by decide))).trans avg
  · exact congrArg (toSigned 32) ((regs.fld (f := F.TIME_RATE_RATE_ADJ) (by decide)).trans (all.fld (by decide)))
  · refine (all.mono (fun k hk => ?_)).comp (regs.mono (fun k hk => ?_))
    · exact List.mem_append_left (K.TIME_STATUS :: journalKeys) hk
    · exact List.mem_append_right [K.TIME_CTRL, K.SERVO_INTEG, K.SERVO_AVG] hk

theorem exec_sourceWrite_keeps (hr : s.mcRuns = true) {src : Nat} (hs : src < 4) (h : 3 ≤ src ∨ src = s.fld F.TIME_CTRL_SOURCE) :
    ∃ t, exec (.sourceWrite src) s = .next t ∧ s.TimeKept t ∧ s.Only t [.time, .out] := by
  have run := exec_sourceWrite s src (by simpa [Instr.wf] using hs) hr
  have effect : s.unstepped.writeSource src = s.unstepped := if_pos h
  obtain ⟨time, only⟩ := State.settled_same (f := fun s => s.writeSource src) effect
  rw [only.confine _ (by decide)] at run
  exact ⟨_, run, time, only⟩

theorem exec_sourceWrite_restarts (hr : s.mcRuns = true) {src : Nat} (hs : src < 3) (ne : src ≠ s.fld F.TIME_CTRL_SOURCE) :
    ∃ t, exec (.sourceWrite src) s = .next t ∧ s.Only t [.regs, .cnts, .time, .mgt, .key, .out] ∧
      t.fld F.TIME_CTRL_SOURCE = src ∧ t.integ = s.rateAdj ∧ t.avg = s.rateAdj ∧
      t.servoState = (if src = 0 then 0 else 1) ∧ t.rateAdj = s.rateAdj ∧
      t.time = { s.time with ppsSeen := false, stepped := false, ppsOut := t.time.ppsOut } ∧
      s.RegsBut t (K.TIME_CTRL :: K.SERVO_INTEG :: K.SERVO_AVG :: K.TIME_STATUS :: journalKeys) := by
  have run := exec_sourceWrite s src (by simp [Instr.wf]; omega) hr
  have effect := s.unstepped.writeSource_eq hs ne
  obtain ⟨source, integ, avg, state, rate, only, regs⟩ := s.unstepped.restartServo_restarts hs
  have time : (s.unstepped.restartServo src).time = s.unstepped.time := only.keeps State.time rfl
  generalize s.unstepped.restartServo src = u at *
  have stepped : u.time.stepped = false := by rw [time]; rfl
  obtain ⟨settled, whole⟩ := State.settled_quiet (f := fun s => s.writeSource src) (l := [.regs, .cnts, .time, .mgt, .key, .out]) effect
    stepped ((only.mono _ (by decide)).comp rfl) (by decide)
  have after := u.unseen.ppsAll_time
  rw [show u.unseen.time = { s.time with ppsSeen := false, stepped := false } from congrArg (fun t => { t with ppsSeen := false }) time] at after
  have kept : u.unseen.ppsAll.regs = u.regs := (State.ppsAll_only _).keeps State.regs rfl
  generalize u.unseen.ppsAll = v at *
  rw [settled, whole.confine _ (by decide)] at run
  exact ⟨_, run, whole, (State.fld_congr kept _).trans source, (congrArg (toSigned 32) (State.fld_congr kept _)).trans integ,
    (congrArg (toSigned 32) (State.fld_congr kept _)).trans avg, (State.fld_congr kept _).trans state,
    (congrArg (toSigned 32) (State.fld_congr kept _)).trans rate, after, (regs.after kept).from rfl⟩

/-! ## ACQUIRE -/

theorem exec_acquire_acquires (hr : s.mcRuns = true) (h : s.servoState = 2 ∨ s.servoState = 3) :
    ∃ t, exec .acquire s = .next t ∧ s.Only t [.regs, .cnts, .time, .mgt, .key, .out] ∧ s.TimeKept t ∧ t.servoState = 1 ∧
      t.flag F.TIME_STATUS_STATE_CHANGED = true ∧ t.rateAdj = s.rateAdj ∧
      s.RegsBut t (K.TIME_STATUS :: journalKeys) ∧ s.CntsBut t eventCounters := by
  have run := exec_acquire s hr
  have effect : s.unstepped.commandAcquire = s.unstepped.setServo 1 := if_pos h
  obtain ⟨state, regs, cnts, only, _, changed⟩ := s.unstepped.setServo_to (st := 1) (by decide)
  have differs : 1 ≠ s.servoState := by omega
  have time : (s.unstepped.setServo 1).time = s.unstepped.time := only.keeps State.time rfl
  generalize s.unstepped.setServo 1 = u at *
  obtain ⟨settled, whole⟩ := State.settled_quiet (f := fun s => s.commandAcquire) (l := [.regs, .cnts, .time, .mgt, .key, .out]) effect
    (by rw [time]; rfl) (only.mono _ (by decide)) (by decide)
  have pulses := u.ppsAll_only
  have kept : u.ppsAll.regs = u.regs := pulses.keeps State.regs rfl
  rw [settled, whole.confine _ (by decide)] at run
  exact ⟨_, run, whole, State.timeKept_ppsAll time, (State.fld_congr kept _).trans state, (State.flag_congr kept _).trans (changed differs),
    congrArg (toSigned 32) ((State.fld_congr kept _).trans (regs.fld (by decide))), (regs.after kept).from rfl,
    fun c hc => (State.cnt_congr (pulses.keeps State.cnts rfl) c).trans (cnts c hc)⟩

theorem exec_acquire_idle (hr : s.mcRuns = true) (h2 : s.servoState ≠ 2) (h3 : s.servoState ≠ 3) :
    ∃ t, exec .acquire s = .next t ∧ s.TimeKept t ∧ s.Only t [.time, .out] := by
  have run := exec_acquire s hr
  have effect : s.unstepped.commandAcquire = s.unstepped := if_neg (not_or.mpr ⟨h2, h3⟩)
  obtain ⟨time, only⟩ := State.settled_same (f := fun s => s.commandAcquire) effect
  rw [only.confine _ (by decide)] at run
  exact ⟨_, run, time, only⟩

/-! ## STEP -/

/-- The time that a STEP command puts. -/
def State.setNs (s : State) : Nat := s.pair K.TIME_SET_S_LO K.TIME_SET_S_HI * 1000000000 + s.fld F.TIME_SET_NS_NS

/-- What a STEP command that is taken shows. -/
def State.stepShown (s : State) : State := (s.stepTo ((s.setNs * fracPerNs : Nat) : Int)).setFld F.TIME_CTRL_STEP_DONE 1

theorem State.stepShown_shows : s.stepShown.flag F.TIME_CTRL_STEP_DONE = true ∧ s.stepShown.time.now = s.setNs * fracPerNs % timeMod ∧
    s.stepShown.cnt (C.time 6) = s.cnt (C.time 6) + 1 ∧ s.stepShown.servoState = s.servoState := by
  obtain ⟨time, _, regs, count, _⟩ := s.stepTo_steps ((s.setNs * fracPerNs : Nat) : Int)
  have done := (s.stepTo ((s.setNs * fracPerNs : Nat) : Int)).regsBut_setFld F.TIME_CTRL_STEP_DONE 1
  refine ⟨(State.flag_setFld_same _ F.TIME_CTRL_STEP_DONE 1 rfl (by decide)).trans rfl, ?_, count,
    (done.fld (by decide)).trans (State.fld_of_reg (f := F.TIME_STATUS_STATE) (regs K.TIME_STATUS (by simp only [ofTime]; decide)))⟩
  exact (congrArg TimeSt.now time).trans (by simp only [TimeSt.at]; omega)

theorem exec_stepTime_steps (hr : s.mcRuns = true) (h : s.servoState = 1 ∨ ∀ p, p < 34 → s.flag (F.GATE_CTRL_GATE_EN p) = false) :
    ∃ t, exec .stepTime s = .next t ∧ t.flag F.TIME_CTRL_STEP_DONE = true ∧
      t.time.now = (s.pair K.TIME_SET_S_LO K.TIME_SET_S_HI * 1000000000 + s.fld F.TIME_SET_NS_NS) * fracPerNs % timeMod ∧
      t.cnt (C.time 6) = s.cnt (C.time 6) + 1 ∧ t.servoState = (if s.servoState = 0 then 0 else 1) := by
  have run := exec_stepTime s hr
  have may : s.unstepped.servoState = 1 ∨ (List.range 34).all (fun p => !s.unstepped.flag (F.GATE_CTRL_GATE_EN p)) = true :=
    h.imp id (fun h => List.all_eq_true.mpr (fun p hp => by
      rw [show s.unstepped.flag (F.GATE_CTRL_GATE_EN p) = false from h p (List.mem_range.mp hp)]; rfl))
  obtain ⟨done, now, count, state⟩ := s.unstepped.stepShown_shows
  let x := if s.unstepped.stepShown.servoState = 0 then s.unstepped.stepShown else s.unstepped.stepShown.setServo 1
  have effect : s.unstepped.commandStep = x := if_pos may
  obtain ⟨time, _, regs, cnts⟩ := State.settled_clock (f := fun s => s.commandStep) effect
  have shown : x.flag F.TIME_CTRL_STEP_DONE = true ∧ x.time.now = s.setNs * fracPerNs % timeMod ∧
      x.cnt (C.time 6) = s.cnt (C.time 6) + 1 ∧ x.servoState = if s.servoState = 0 then 0 else 1 := by
    have state' : s.unstepped.stepShown.servoState = s.servoState := state
    simp only [x, state']
    split
    case isTrue zero => exact ⟨done, now, count, state'.trans zero⟩
    case isFalse =>
      obtain ⟨acquiring, regs', cnts', only, _, _⟩ := s.unstepped.stepShown.setServo_to (st := 1) (by decide)
      exact ⟨(regs'.flag (by decide)).trans done, (congrArg TimeSt.now (only.keeps State.time rfl)).trans now,
        (cnts' _ (by decide)).trans count, acquiring⟩
  obtain ⟨done', now', count', state'⟩ := shown
  refine ⟨_, run, (State.flag_of_reg (regs K.TIME_CTRL (by simp only [ofTime]; decide))).trans done', ?_,
    (cnts (C.time 6) (by simp only [ofTime]; decide)).trans count',
    (State.fld_of_reg (regs K.TIME_STATUS (by simp only [ofTime]; decide))).trans state'⟩
  exact (congrArg TimeSt.now time).trans now'

theorem exec_stepTime_rejects (hr : s.mcRuns = true) (h : s.servoState ≠ 1) (hp : ∃ p, p < 34 ∧ s.flag (F.GATE_CTRL_GATE_EN p) = true) :
    ∃ t, exec .stepTime s = .next t ∧ t.flag F.TIME_CTRL_STEP_REJECT = true ∧ s.RegsBut t [K.TIME_CTRL] ∧
      s.TimeKept t ∧ s.Only t [.regs, .time, .out] := by
  have run := exec_stepTime s hr
  obtain ⟨p, small, gated⟩ := hp
  let x := s.unstepped.setFld F.TIME_CTRL_STEP_REJECT 1
  have effect : s.unstepped.commandStep = x := by
    refine if_neg (not_or.mpr ⟨h, fun all => ?_⟩)
    have off := List.all_eq_true.mp all p (List.mem_range.mpr small)
    rw [show s.unstepped.flag (F.GATE_CTRL_GATE_EN p) = true from gated] at off
    exact absurd off (by decide)
  obtain ⟨settled, whole⟩ := State.settled_quiet (f := fun s => s.commandStep) (l := [.regs, .time, .out]) effect rfl rfl (by decide)
  have kept : x.ppsAll.regs = x.regs := x.ppsAll_only.keeps State.regs rfl
  rw [settled, whole.confine _ (by decide)] at run
  refine ⟨_, run, ?_, ((s.unstepped.regsBut_setFld F.TIME_CTRL_STEP_REJECT 1).after kept).from rfl, State.timeKept_ppsAll rfl, whole⟩
  exact (State.flag_congr kept _).trans ((s.unstepped.flag_setFld_same F.TIME_CTRL_STEP_REJECT 1 rfl (by decide)).trans rfl)

end

/-- Settles O30. What settles after a step leaves network time, its registers and its counters. -/
theorem timeCommandsAct : Obligations.TimeCommandsAct := by
  unfold Obligations.TimeCommandsAct
  exact ⟨fun s hr => ⟨exec_timeNowCapture_captures s hr, exec_ppsInStampCapture_captures s hr⟩,
    fun s src hs hr => ⟨fun h => exec_sourceWrite_keeps s hr hs h, fun h ne => exec_sourceWrite_restarts s hr h ne⟩,
    fun s hr => ⟨fun h => exec_stepTime_steps s hr h, fun h hp => exec_stepTime_rejects s hr h hp⟩,
    fun s hr => ⟨fun h => exec_acquire_acquires s hr h, fun h2 h3 => exec_acquire_idle s hr h2 h3⟩⟩

end Sys2Proof.Machine
end

section
/-!
SUPPORT. Syncs (spec/07, R216 to R218): a message that joins a queue keeps network time, and an update of the servo keeps the Syncs stored,
their count and the offset shown.
-/
namespace Sys2Proof.Machine

/-! ## Messages that join a queue -/

section
variable (s : State)

theorem State.headTag_only (q st : Nat) : s.Only (s.headTag q st) [.data] := by
  unfold State.headTag
  split
  · exact s.only_refl _
  · rfl

theorem State.pushCopy_only (q : Nat) (c : Copy) : s.Only (s.pushCopy q c) [.data] := by
  unfold State.pushCopy
  simp only
  split
  · exact State.Only.comp (t := s.setQueue q (s.queue q ++ [c])) rfl (State.headTag_only _ _ _)
  · rfl

theorem State.sendGptp_only (p : Nat) (note : CopyNote) (b : List Byte) : s.Only (s.sendGptp p note b) [.cnts, .data] := by
  simp only [State.sendGptp, State.enqueue]
  split
  · rfl
  · exact (s.pushCopy_only _ _).mono _ (by decide)

theorem State.sendGptp_clockKept (p : Nat) (note : CopyNote) (b : List Byte) : s.ClockKept (s.sendGptp p note b) :=
  s.enqueue_clockKept _ _ rfl

theorem State.pushCopy_queue (q : Nat) (c : Copy) : (s.pushCopy q c).queue q = s.queue q ++ [c] := by
  have queued : (s.setQueue q (s.queue q ++ [c])).queue q = s.queue q ++ [c] := mapGet_mapSet_same _ _ _ _
  unfold State.pushCopy
  simp only
  split
  · rw [State.queue, State.headTag_queues]
    exact queued
  · exact queued

/-- A message of a port that is awake is the last of its queue. -/
theorem State.sendGptp_queue {p : Nat} (awake : s.sleepingQueue (8 * p + s.fld (F.GPTP_PORT_CFG_QUEUE p)) = false) (note : CopyNote)
    (b : List Byte) : ∃ c : Copy, (s.sendGptp p note b).queue (8 * p + s.fld (F.GPTP_PORT_CFG_QUEUE p)) =
      s.queue (8 * p + s.fld (F.GPTP_PORT_CFG_QUEUE p)) ++ [c] ∧ c.frame = none ∧ c.own = b ++ List.replicate (60 - b.length) 0 := by
  let c : Copy := ⟨none, padTo (max 60 b.length) 0 b, none, 0, none, false, none, s.usec, note, false, none⟩
  have sent : s.sendGptp p note b = s.pushCopy (8 * p + s.fld (F.GPTP_PORT_CFG_QUEUE p)) c := by
    simp only [State.sendGptp, State.enqueue, awake, Bool.false_eq_true, if_false, c]
  have own : c.own = b ++ List.replicate (60 - b.length) 0 := by
    show padTo (max 60 b.length) 0 b = _
    rw [padTo, List.take_of_length_le (by omega), show max 60 b.length - b.length = 60 - b.length by omega]
  exact ⟨c, sent ▸ s.pushCopy_queue _ c, rfl, own⟩

/-! ## The header of a message -/

theorem gptp_header (p ty fl seq : Nat) (corr : Int) (interval : Nat) (body r : List Byte) (hty : ty < 16) :
    ptpType ((s.gptpMessage p ty fl seq corr interval body ++ r).drop 14) = ty ∧
    ptpSeq ((s.gptpMessage p ty fl seq corr interval body ++ r).drop 14) = seq % 65536 := by
  let eth := beBytes 6 0x0180C200000E ++ beBytes 6 (s.pair K.NM_SA_LO K.NM_SA_HI) ++ beBytes 2 0x88F7
  let mid := beBytes 1 0x12 ++ beBytes 2 (34 + body.length) ++ [0, 0] ++ beBytes 2 fl ++ beBytes 8 (ofSigned 64 corr) ++ beBytes 4 0 ++
    s.portIdentity p
  let tail := beBytes 1 (if ty = 0 then 0 else if ty = 8 then 2 else 5) ++ beBytes 1 interval ++ body ++ r
  have shape : s.gptpMessage p ty fl seq corr interval body ++ r = eth ++ (beBytes 1 (0x10 + ty) ++ (mid ++ (beBytes 2 seq ++ tail))) := by
    simp only [State.gptpMessage, eth, mid, tail, List.append_assoc]
  have header : eth.length = 14 := by simp only [eth, List.length_append, beBytes_length]
  have middle : (beBytes 1 (0x10 + ty) ++ mid).length = 30 := by
    simp only [mid, State.portIdentity, List.length_append, beBytes_length, List.length_cons, List.length_nil]
  have rest : (s.gptpMessage p ty fl seq corr interval body ++ r).drop 14 = beBytes 1 (0x10 + ty) ++ (mid ++ (beBytes 2 seq ++ tail)) := by
    rw [shape, ← header, List.drop_left]
  rw [rest]
  constructor
  · rw [ptpType, ← List.nil_append (beBytes 1 (0x10 + ty) ++ _), beAt_append (l := []) (at_ := 0) rfl _ _ (beBytes_length 1 _)]
    simp [beBytes, beNat]
    omega
  · rw [ptpSeq, ← List.append_assoc, beAt_append middle _ _ (beBytes_length 2 _)]
    simp [beBytes, beNat, List.range_succ, Nat.shiftRight_eq_div_pow]
    omega

/-! ## An update of the servo -/

/-- Kept while the servo updates: the Syncs stored and their count, the messages that wait and the offset shown. -/
def State.SyncKept (s t : State) : Prop :=
  t.time.syncs = s.time.syncs ∧ t.mgt.inbox = s.mgt.inbox ∧ t.cnt (C.time 0) = s.cnt (C.time 0) ∧ t.reg K.SERVO_OFFSET = s.reg K.SERVO_OFFSET

end

section
variable {s t u : State}

theorem State.SyncKept.refl (s : State) : s.SyncKept s := ⟨rfl, rfl, rfl, rfl⟩

theorem State.SyncKept.comp (h : s.SyncKept t) (h' : t.SyncKept u) : s.SyncKept u := by
  obtain ⟨syncs, inbox, count, offset⟩ := h
  obtain ⟨syncs', inbox', count', offset'⟩ := h'
  exact ⟨syncs'.trans syncs, inbox'.trans inbox, count'.trans count, offset'.trans offset⟩

theorem State.SyncKept.ite {c : Prop} [Decidable c] (h : s.SyncKept t) (h' : s.SyncKept u) : s.SyncKept (if c then t else u) := by
  split
  · exact h
  · exact h'

theorem State.setFld_syncKept (s : State) {f : Fld} (v : Nat) (h : f.key ≠ K.SERVO_OFFSET) : s.SyncKept (s.setFld f v) :=
  ⟨rfl, rfl, rfl, (s.regsBut_setFld f v) _ (fun m => h (List.mem_singleton.mp m).symm)⟩

theorem State.inc_syncKept (s : State) {c : Nat} (h : c ≠ C.time 0) : s.SyncKept (s.inc c) :=
  ⟨rfl, rfl, State.cnt_inc_other _ h, rfl⟩

theorem State.setServo_syncKept (s : State) {st : Nat} (h : st < 4) : s.SyncKept (s.setServo st) := by
  obtain ⟨_, regs, cnts, only, noted, _⟩ := s.setServo_to h
  exact ⟨congrArg TimeSt.syncs (only.keeps State.time rfl), noted.inbox, cnts _ (by decide), regs _ (by decide)⟩

theorem State.stepTo_syncKept (s : State) (t : Int) : s.SyncKept (s.stepTo t) := by
  obtain ⟨time, inbox, regs, _, cnts⟩ := s.stepTo_steps t
  exact ⟨by rw [time]; rfl, inbox, cnts _ (by simp only [ofTime]; decide) (by decide), regs _ (by simp only [ofTime]; decide)⟩

/-- The rate's change of an update: limited, or with the integral. -/
def State.slewOf (s : State) (e : Int) : Int × State :=
  let p := ((s.fld F.SERVO_KP_GAIN : Int) * e) >>> 16
  let slew : Int := (min (s.fld F.SERVO_SLEW_SLEW) 439804651 : Nat)
  if slew < p.natAbs then ((if p < 0 then -slew else slew), s.inc (C.time 7))
  else (p, s.setInteg (clamp31 (s.integ + (((s.fld F.SERVO_KI_GAIN : Int) * e) >>> 16))))

/-- The new rate and its average. -/
def State.newRate (s : State) (p : Int) : State :=
  let rate := clamp31 (s.integ + p)
  let s := s.setRate rate
  s.setAvg (s.avg + ((rate - s.avg) >>> s.fld F.SERVO_CFG_AVG_W))

/-- The measurements in a row within the threshold, and the lock. -/
def State.countLock (s : State) (e : Int) : State :=
  let run := if (e.natAbs : Int) ≤ (s.fld F.SERVO_THR_LOCK_NS : Int) * 65536 then min (s.fld F.TIME_STATUS_LOCK_RUN + 1) 255 else 0
  let s := s.setFld F.TIME_STATUS_LOCK_RUN run
  if s.servoState = 1 ∧ max 1 (s.fld F.SERVO_CFG_LOCK_COUNT) ≤ run then s.setServo 2 else s

/-- A first offset too large to slew. -/
def State.stepAway (s : State) (e ratio : Int) : State :=
  let s := s.stepTo ((s.time.now : Int) + e * 16777216)
  let s := if s.timeSource = 2 then s.setInteg (clamp31 ratio) else s
  s.setFld F.TIME_STATUS_LOCK_RUN 0

/-- The offset as its register shows it. -/
def shownOffset (e : Int) : Nat := ofSigned 32 (max (-2147483648) (min 2147483647 (e / 65536)))

theorem State.servoUpdate_eq (s : State) (e ratio : Int) : s.servoUpdate e ratio =
    let u := s.setFld F.SERVO_OFFSET_E_NS (shownOffset e)
    if u.servoState = 1 ∧ (u.fld F.SERVO_STEP_STEP_NS : Int) * 65536 < e.natAbs then u.stepAway e ratio
    else ((u.slewOf e).2.newRate (u.slewOf e).1).countLock e := rfl

theorem State.slewOf_syncKept (s : State) (e : Int) : s.SyncKept (s.slewOf e).2 := by
  unfold State.slewOf
  simp only
  split
  · exact s.inc_syncKept (by decide)
  · exact s.setFld_syncKept (f := F.SERVO_INTEG_VALUE) _ (by decide)

theorem State.newRate_syncKept (s : State) (p : Int) : s.SyncKept (s.newRate p) :=
  (s.setFld_syncKept (f := F.TIME_RATE_RATE_ADJ) _ (by decide)).comp (State.setFld_syncKept _ (f := F.SERVO_AVG_VALUE) _ (by decide))

theorem State.countLock_syncKept (s : State) (e : Int) : s.SyncKept (s.countLock e) :=
  (s.setFld_syncKept (f := F.TIME_STATUS_LOCK_RUN) _ (by decide)).comp
    ((State.setServo_syncKept _ (by decide)).ite (State.SyncKept.refl _))

theorem State.stepAway_syncKept (s : State) (e ratio : Int) : s.SyncKept (s.stepAway e ratio) :=
  ((s.stepTo_syncKept _).comp ((State.setFld_syncKept _ (f := F.SERVO_INTEG_VALUE) _ (by decide)).ite (State.SyncKept.refl _))).comp
    (State.setFld_syncKept _ (f := F.TIME_STATUS_LOCK_RUN) _ (by decide))

/-- R221: an update shows its offset. -/
theorem State.servoUpdate_shows (s : State) (e ratio : Int) : (s.servoUpdate e ratio).fld F.SERVO_OFFSET_E_NS = shownOffset e ∧
    (s.servoUpdate e ratio).time.syncs = s.time.syncs ∧ (s.servoUpdate e ratio).mgt.inbox = s.mgt.inbox ∧
    (s.servoUpdate e ratio).cnt (C.time 0) = s.cnt (C.time 0) := by
  let u := s.setFld F.SERVO_OFFSET_E_NS (shownOffset e)
  have small : shownOffset e < 2 ^ 32 := by
    simp only [shownOffset, ofSigned]
    omega
  have shown : u.fld F.SERVO_OFFSET_E_NS = shownOffset e :=
    (s.fld_setFld_same F.SERVO_OFFSET_E_NS _ (by decide) (by decide)).trans (Nat.mod_eq_of_lt small)
  have kept : u.SyncKept (s.servoUpdate e ratio) := by
    rw [s.servoUpdate_eq]
    exact (u.stepAway_syncKept e ratio).ite (((u.slewOf_syncKept e).comp (State.newRate_syncKept _ _)).comp (State.countLock_syncKept _ _))
  obtain ⟨syncs, inbox, count, offset⟩ := kept
  exact ⟨(State.fld_of_reg offset).trans shown, syncs, inbox, count⟩

theorem State.measure_shows (s : State) (e ratio : Int) : (s.measure e ratio).fld F.SERVO_OFFSET_E_NS = shownOffset e ∧
    (s.measure e ratio).time.syncs = s.time.syncs ∧ (s.measure e ratio).mgt.inbox = s.mgt.inbox ∧
    (s.measure e ratio).cnt (C.time 0) = s.cnt (C.time 0) := by
  let u := s.setFld F.TIME_STATUS_MISSED 0
  let v := if u.servoState = 3 then u.setServo 2 else u
  have kept : s.SyncKept v := (s.setFld_syncKept _ (by decide)).comp ((u.setServo_syncKept (by decide)).ite (State.SyncKept.refl u))
  obtain ⟨shown, syncs, inbox, count⟩ := v.servoUpdate_shows e ratio
  obtain ⟨syncs', inbox', count', _⟩ := kept
  exact ⟨shown, syncs.trans syncs', inbox.trans inbox', count.trans count'⟩

/-! ## Messages that are taken -/

section
variable {m : InFrame} {b : List Byte} {types : List Nat}

/-- A message that is taken leaves the queue of received messages alone but for itself. -/
theorem State.takeGptp_taken (h : s.takeGptp types = some (m, b, u)) :
    u = { s with mgt := { s.mgt with inbox := s.mgt.inbox.erase m } } ∧ b = s.ptpBody m.bytes ∧
    s.unstepped.takeGptp types = some (m, b, { s.unstepped with mgt := { s.mgt with inbox := s.mgt.inbox.erase m } }) := by
  simp only [State.takeGptp, State.takeInbox] at h
  cases found : s.mgt.inbox.find? (fun m => m.kind == .gptp && types.contains (ptpType (s.ptpBody m.bytes))) with
  | none =>
    rw [found] at h
    cases h
  | some x =>
    rw [found] at h
    obtain ⟨rfl, rfl, rfl⟩ := h
    have found' : s.unstepped.mgt.inbox.find? (fun m => m.kind == .gptp && types.contains (ptpType (s.unstepped.ptpBody m.bytes))) = some x :=
      found
    refine ⟨rfl, rfl, ?_⟩
    simp only [State.takeGptp, State.takeInbox, found']
    rfl

end

/-! ## Syncs received -/

/-- A two-step Sync as it is stored. -/
def storedSync (m : InFrame) (b : List Byte) (ports : List Nat) : SyncSt :=
  ⟨ptpSeq b, m.stamp, ptpCorr b, none, ptpSource b, ports.map (fun q => (q, none))⟩

/-- The Sync that is sent on to the ports to relay to. -/
def State.relaySync (s : State) (seq : Nat) (ports : List Nat) : State :=
  forEach ports (fun q s => s.sendGptp q (.sync seq) (s.syncMessage q seq)) s

theorem State.relaySync_keeps (s : State) (seq : Nat) (ports : List Nat) : s.Only (s.relaySync seq ports) [.cnts, .data] :=
  forEach_only (l := [.cnts, .data]) (fun q s => s.sendGptp q (.sync seq) (s.syncMessage q seq)) (fun q s => s.sendGptp_only q _ _) ports s

theorem exec_syncReceive_stores {m : InFrame} {b : List Byte} (hr : s.running = true) (taken : s.takeGptp [0] = some (m, b, u))
    (slave : s.gptpRole m.port = 2) (able : s.flag (F.GPTP_PORT_STATUS_AS_CAPABLE m.port) = true) (two : ptpTwoStep b = true) :
    ∃ t, exec .syncReceive s = .next t ∧ t.mgt.inbox = s.mgt.inbox.erase m ∧
      t.time.syncs = keptSyncs s.time.syncs ++ [storedSync m b s.relayPorts] ∧ t.regs = s.regs := by
  have run := exec_syncReceive s hr
  obtain ⟨_, _, taken'⟩ := State.takeGptp_taken taken
  let v : State := { s.unstepped with mgt := { s.mgt with inbox := s.mgt.inbox.erase m } }
  let stored := v.setSyncs (v.time.syncs ++ [storedSync m b s.relayPorts])
  have effect : s.unstepped.syncIn = stored.relaySync (ptpSeq b) s.relayPorts := by
    have role : v.gptpRole m.port = 2 := slave
    have capable : v.flag (F.GPTP_PORT_STATUS_AS_CAPABLE m.port) = true := able
    simp only [State.syncIn, taken', two, if_true]
    show (if v.gptpRole m.port = 0 then v.inc (C.time 5)
      else if v.gptpRole m.port ≠ 2 ∨ (!v.flag (F.GPTP_PORT_STATUS_AS_CAPABLE m.port)) = true then v
      else stored.relaySync (ptpSeq b) s.relayPorts) = _
    rw [role, capable, if_neg (by decide), if_neg (by decide)]
  have only := stored.relaySync_keeps (ptpSeq b) s.relayPorts
  have kept : (keptSyncs (s.time.syncs ++ [storedSync m b s.relayPorts])) = keptSyncs s.time.syncs ++ [storedSync m b s.relayPorts] := by
    simp [keptSyncs, storedSync]
  have time : (stored.relaySync (ptpSeq b) s.relayPorts).time = stored.time := only.keeps State.time rfl
  have mgt : (stored.relaySync (ptpSeq b) s.relayPorts).mgt = stored.mgt := only.keeps State.mgt rfl
  have regs : (stored.relaySync (ptpSeq b) s.relayPorts).regs = stored.regs := only.keeps State.regs rfl
  have whole : s.unstepped.Only (stored.relaySync (ptpSeq b) s.relayPorts) [.cnts, .data, .time, .mgt, .out] :=
    (show s.unstepped.Only stored [.cnts, .data, .time, .mgt, .out] from rfl).comp (only.mono _ (by decide))
  obtain ⟨settled, all⟩ := State.settled_quiet (f := fun s => s.syncIn) effect (by rw [time]; rfl) whole (by decide)
  generalize stored.relaySync (ptpSeq b) s.relayPorts = x at *
  rw [settled, all.confine _ (by decide)] at run
  have pulses := x.ppsAll_only
  refine ⟨_, run, ?_, ?_, ?_⟩
  · rw [pulses.keeps State.mgt rfl, mgt]
    rfl
  · rw [x.ppsAll_time]
    show x.time.syncs = _
    rw [time, ← kept]
    rfl
  · rw [pulses.keeps State.regs rfl, regs]
    rfl

theorem exec_followUpReceive_measures {m : InFrame} {b : List Byte} {st : SyncSt} (hr : s.running = true)
    (taken : s.takeGptp [8] = some (m, b, u)) (slave : s.gptpRole m.port = 2)
    (found : s.time.syncs.find? (fun x => x.origin.isNone && x.seq == ptpSeq b && x.src == ptpSource b) = some st) :
    ∃ t, exec .followUpReceive s = .next t ∧ t.mgt.inbox = s.mgt.inbox.erase m ∧
      t.time.syncs = keptSyncs (s.time.syncs.map (fun x => if x = st then { st with origin := some (ptpTime b 34, ptpCorr b, ptpCsro b) } else x)) ∧
      t.cnt (C.time 0) = s.cnt (C.time 0) + 1 ∧
      t.fld F.SERVO_OFFSET_E_NS = shownOffset (s.syncOffset m.port (ptpTime b 34) (st.correction + ptpCorr b) (ptpCsro b) st.stamp) := by
  have run := exec_followUpReceive s hr
  obtain ⟨_, _, taken'⟩ := State.takeGptp_taken taken
  let v : State := { s.unstepped with mgt := { s.mgt with inbox := s.mgt.inbox.erase m } }
  let known := v.putSync st { st with origin := some (ptpTime b 34, ptpCorr b, ptpCsro b) }
  have offset : known.syncOffset m.port (ptpTime b 34) (st.correction + ptpCorr b) (ptpCsro b) st.stamp =
      s.syncOffset m.port (ptpTime b 34) (st.correction + ptpCorr b) (ptpCsro b) st.stamp := rfl
  have effect : s.unstepped.followIn = (known.inc (C.time 0)).measure
      (s.syncOffset m.port (ptpTime b 34) (st.correction + ptpCorr b) (ptpCsro b) st.stamp) (known.rateRatio m.port (ptpCsro b)) := by
    have role : v.gptpRole m.port = 2 := slave
    have found' : v.time.syncs.find? (fun x => x.origin.isNone && x.seq == ptpSeq b && x.src == ptpSource b) = some st := found
    rw [← offset]
    simp only [State.followIn, taken']
    show (if v.gptpRole m.port = 0 then v.inc (C.time 5)
      else match v.time.syncs.find? (fun x => x.origin.isNone && x.seq == ptpSeq b && x.src == ptpSource b) with
      | none => v
      | some st => if v.gptpRole m.port ≠ 2 then v
        else (v.putSync st { st with origin := some (ptpTime b 34, ptpCorr b, ptpCsro b) }).acceptSync m.port (ptpTime b 34)
          (st.correction + ptpCorr b) (ptpCsro b) st.stamp) = _
    rw [role, found', if_neg (by decide)]
    exact if_neg (by decide)
  obtain ⟨time, inbox, regs, cnts⟩ := State.settled_clock (f := fun s => s.followIn) effect
  obtain ⟨shown, syncs, inbox', count⟩ := (known.inc (C.time 0)).measure_shows
    (s.syncOffset m.port (ptpTime b 34) (st.correction + ptpCorr b) (ptpCsro b) st.stamp) (known.rateRatio m.port (ptpCsro b))
  generalize (known.inc (C.time 0)).measure _ _ = x at *
  refine ⟨_, run, inbox.trans inbox', ?_, ?_, ?_⟩
  · exact (congrArg TimeSt.syncs time).trans syncs
  · exact (cnts (C.time 0) (by simp only [ofTime]; decide)).trans (count.trans (known.cnt_inc_same (C.time 0)))
  · exact (State.fld_of_reg (regs K.SERVO_OFFSET (by simp only [ofTime]; decide))).trans shown

/-! ## Follow_Ups -/

variable (s)

theorem exec_followupMissing_drops {st : SyncSt} (hr : s.running = true) (found : s.time.syncs.find? (fun x => x.origin.isNone) = some st) :
    ∃ t, exec .followupMissing s = .next t ∧ t.time = { s.time with syncs := s.time.syncs.erase st } ∧
      t.cnt (C.time 2) = s.cnt (C.time 2) + 1 ∧ s.CntsBut t [C.time 2] ∧ s.Only t [.cnts, .time] := by
  have run := exec_followupMissing s hr
  let u : State := { s with time := { s.time with syncs := s.time.syncs.erase st } }
  have effect : s.followMissing = u.inc (C.time 2) := by simp only [State.followMissing, found, u]
  have only : s.Only (u.inc (C.time 2)) [.cnts, .time] := rfl
  rw [effect, only.confine _ (by decide)] at run
  exact ⟨_, run, rfl, u.cnt_inc_same (C.time 2), u.cntsBut_inc (C.time 2), only⟩

theorem exec_followUpRelay_relays {st : SyncSt} {p e : Nat} {o : Nat × Int × Int} (hr : s.running = true) (hp : p < 34)
    (found : s.time.syncs.find? (fun x => x.ready p) = some st) (origin : st.origin = some o)
    (port : st.ports.find? (fun c => c.1 == p) = some (p, some e))
    (awake : s.sleepingQueue (8 * p + s.fld (F.GPTP_PORT_CFG_QUEUE p)) = false) :
    ∃ t c, exec (.followUpRelay p) s = .next t ∧ s.Only t [.cnts, .data, .ports, .time, .twin] ∧
      t.time = { s.time with syncs := keptSyncs (s.time.syncs.map (fun x =>
        if x = st then { st with ports := st.ports.filter (fun c => c.1 != p) } else x)) } ∧
      t.queue (8 * p + s.fld (F.GPTP_PORT_CFG_QUEUE p)) = s.queue (8 * p + s.fld (F.GPTP_PORT_CFG_QUEUE p)) ++ [c] ∧
      c.frame = none ∧ ptpType (c.own.drop 14) = 8 ∧ ptpSeq (c.own.drop 14) = st.seq % 65536 := by
  have run := exec_followUpRelay s p (by simpa [Instr.wf] using hp) hr
  let u := s.putSync st { st with ports := st.ports.filter (fun c => c.1 != p) }
  obtain ⟨corr, interval, body, effect⟩ : ∃ corr interval body, s.followRelay p = u.sendGptp p .other (s.gptpMessage p 8 0 st.seq corr interval body) := by
    obtain ⟨o1, o2, o3⟩ := o
    refine ⟨s.relayCorr st o2 o3 e, logOctet (s.fld F.GPTP_CFG_SYNC_LOG), ptpStamp o1 ++ followTlv (s.rateRatio s.slavePort o3), ?_⟩
    simp only [State.followRelay, found, State.sendRelay, origin, port, u]
  generalize message : s.gptpMessage p 8 0 st.seq corr interval body = b at effect
  obtain ⟨c, queue, frame, own⟩ := u.sendGptp_queue (p := p) awake .other b
  have only := u.sendGptp_only p .other b
  have time : (u.sendGptp p .other b).time = u.time := only.keeps State.time rfl
  generalize u.sendGptp p .other b = x at *
  have whole : s.Only x [.cnts, .data, .ports, .time, .twin] :=
    (show s.Only u [.cnts, .data, .ports, .time, .twin] from rfl).comp (only.mono _ (by decide))
  rw [effect, whole.confine _ (by decide)] at run
  obtain ⟨kind, seq⟩ := gptp_header s p 8 0 st.seq corr interval body (List.replicate (60 - b.length) 0) (by decide)
  rw [message, ← own] at kind seq
  exact ⟨_, c, run, whole, time, queue, frame, kind, seq⟩

end

/-- Settles O31. The messages of a relay keep network time, and an update of the servo keeps the Syncs stored. -/
theorem syncsAreMeasuredAndRelayed : Obligations.SyncsAreMeasuredAndRelayed := by
  unfold Obligations.SyncsAreMeasuredAndRelayed
  exact ⟨fun s u m b hr => ⟨fun taken slave able two => exec_syncReceive_stores hr taken slave able two,
      fun st taken slave found => exec_followUpReceive_measures hr taken slave found⟩,
    fun s st hr => ⟨fun found => exec_followupMissing_drops s hr found,
      fun p o e hp found origin port awake => exec_followUpRelay_relays s hr hp found origin port awake⟩⟩

end Sys2Proof.Machine
end

section /-! SUPPORT. Peer delay (spec/07, R215): an exchange on a port that the unit does not have. -/
namespace Sys2Proof.Machine

/-- A Pdelay_Resp_Follow_Up that answers the request 0 of port 95. -/
def strayResponse : List Byte :=
  List.replicate 12 0 ++ [0x88, 0xF7] ++ [10] ++ List.replicate 52 0 ++ [96]

/-- An exchange of port 95 that awaits its last message, after 2560 × 2^-16 ns. -/
def strayExchange : GPort := { GPort.fresh with reqOut := true, t1 := some 0, t2t4 := some (0, 2560) }

/-- The unit forwards, port 95 takes part in gPTP and its last message waits. -/
def State.straying : State := { State.reset with
  regs := [(K.BOOT_STATUS, 0xB), (K.GPTP_PORT_CFG 95, 1), (K.GPTP_PORT_STATUS 95, 0), (K.PAIR_CFG, 0), (K.GPTP_CLOCK_ID_LO, 0),
    (K.GPTP_CLOCK_ID_HI, 0), (K.GPTP_CFG, 0)],
  boot := { BootSt.reset with held := false },
  time := { TimeSt.reset with ports := [(95, strayExchange)] },
  mgt := { MgtSt.reset with inbox := [⟨none, .gptp, 95, 0, strayResponse⟩] } }

/-- The message that waits, as it is received. -/
def strayFrame : InFrame := ⟨none, .gptp, 95, 0, strayResponse⟩

theorem State.straying_takes : State.straying.takeGptp [3, 10] =
    some (strayFrame, strayResponse.drop 14, { State.straying with mgt := { State.straying.mgt with inbox := [] } }) := by
  have found : [strayFrame].find? (fun m => m.kind == .gptp && [3, 10].contains (ptpType (State.straying.ptpBody m.bytes))) = some strayFrame := by
    decide
  have body : State.straying.ptpBody strayFrame.bytes = strayResponse.drop 14 := by decide
  have inbox : State.straying.mgt.inbox = [strayFrame] := rfl
  simp only [State.takeGptp, State.takeInbox, inbox, found, Option.map_some, body, List.erase_cons_head]

/-- DELAY of port 95 has the address of its STATUS, whose LOST and NRR_OFFSET are written after it. -/
theorem State.straying_delay : State.straying.pdelayResp.fld (F.GPTP_PORT_DELAY_DELAY 95) = 0 := by decide

theorem State.confine_shows (s t : State) (f : Fld) : (s.confine [.regs, .cnts, .time, .mgt] t).fld f = t.fld f := rfl

/-- Refutes O32: the port of a message is any number, and the exchange of a port 95, whose GPTP_PORT_DELAY would have the address of its
GPTP_PORT_STATUS (spec/07, R215), ends with DELAY 0 where the formula gives 5. -/
theorem not_peerDelayIsMeasured : ¬ Obligations.PeerDelayIsMeasured := by
  unfold Obligations.PeerDelayIsMeasured
  intro h
  obtain ⟨_, _, response⟩ := h State.straying _ strayFrame (strayResponse.drop 14) (by decide)
  obtain ⟨_, last⟩ := response State.straying_takes (by decide) (by decide) (by decide) (by decide)
  obtain ⟨t, run, _, _, _, delay, _⟩ := last 0 0 2560 (by decide) rfl rfl rfl rfl
  have done := run.symm.trans (exec_pdelayRespReceive State.straying (by decide))
  obtain rfl := Host.Outcome.next.inj done
  rw [State.confine_shows, show strayFrame.port = 95 from rfl, State.straying_delay] at delay
  exact absurd delay (by decide)

end Sys2Proof.Machine
end

section
/-!
SUPPORT. The Weaver's timeouts and the frames of its carriers (spec/09, R257, R266 and R279): what a passed deadline and a frame that closes
change.
-/
namespace Sys2Proof.Machine

section
variable (s : State)

/-! ## Events and senders -/

theorem State.wvrEvent_keeps {a : Nat} (b : Nat) (hb : b < 32) (h : s.flag ⟨K.WVR_EVT, a, a⟩ = true) :
    (s.wvrEvent b).flag ⟨K.WVR_EVT, a, a⟩ = true := by
  by_cases same : b = a
  · exact same ▸ s.wvrEvent_flag hb
  · have kept : (s.wvrEvent b).fld ⟨K.WVR_EVT, a, a⟩ = s.fld ⟨K.WVR_EVT, a, a⟩ :=
      s.raiseFlag_fld ⟨K.WVR_EVT, b, b⟩ ⟨K.WVR_EVT, a, a⟩ [] (Nat.le_refl b) hb (show K.WVR_EVT ∉ journalKeys by decide) rfl (Nat.le_refl a)
        (show b < a ∨ a < b by omega)
    rw [State.flag_eq _ _ rfl, kept, ← State.flag_eq _ _ rfl]
    exact h

theorem State.wvrEvent_cnt (b : Nat) {c : Nat} (hc : c ∉ eventCounters) : (s.wvrEvent b).cnt c = s.cnt c := s.wvrEvent_cntsBut b c hc

theorem State.judgeSender_cntsBut (k : Nat) : s.CntsBut (s.judgeSender k) eventCounters := by
  unfold State.judgeSender
  simp only
  split
  · exact State.CntsBut.refl s _
  · split
    · exact State.cntsBut_of_cnts rfl _
    · exact State.wvrEvent_cntsBut _ _

theorem State.judgeSender_event (k : Nat) {a : Nat} (h : s.flag ⟨K.WVR_EVT, a, a⟩ = true) :
    (s.judgeSender k).flag ⟨K.WVR_EVT, a, a⟩ = true := by
  have shown (x y z : Nat) : (s.setFlds [(F.WVR_SND_STATUS_SILENT k, x), (F.WVR_SND_STATUS_PDUS k, y),
      (F.WVR_SND_STATUS_TIMED_OUT k, z)]).flag ⟨K.WVR_EVT, a, a⟩ = true := by
    have regs := State.regsBut_setFlds (l := [(F.WVR_SND_STATUS_SILENT k, x), (F.WVR_SND_STATUS_PDUS k, y), (F.WVR_SND_STATUS_TIMED_OUT k, z)])
      (k := K.WVR_SND_STATUS k) s (by simp [F.WVR_SND_STATUS_SILENT, F.WVR_SND_STATUS_PDUS, F.WVR_SND_STATUS_TIMED_OUT])
    refine (regs.flag (f := ⟨K.WVR_EVT, a, a⟩) ?_).trans h
    simp only [K.WVR_EVT, K.WVR_SND_STATUS, List.mem_singleton]
    omega
  unfold State.judgeSender
  simp only
  split
  · exact h
  · split
    · exact shown _ _ _
    · exact State.wvrEvent_keeps _ _ (by split <;> decide) (shown _ _ _)

theorem State.judgeSender_wvr (k : Nat) : (s.judgeSender k).wvr = s.wvr := (s.judgeSender_only k).keeps State.wvr rfl

/-! ## A passed deadline -/

/-- A PDU without its deadline, timed out, counted and shown. -/
def State.deadlineOver (s : State) (i : Nat) : State :=
  let s := { s with wvr := { s.wvr with deadline := mapSet (fun _ => none) s.wvr.deadline i none } }
  ((s.setFld (F.WVR_PDU_STATE_TIMED_OUT i) 1).inc (C.wvr 6)).wvrEvent 0

/-- What a passed deadline shows, whatever becomes of its unit. -/
def State.TimedOut (s t : State) (i : Nat) : Prop :=
  t.flag (F.WVR_PDU_STATE_TIMED_OUT i) = true ∧ mapGet (fun _ => none) t.wvr.deadline i = none ∧
  t.cnt (C.wvr 6) = s.cnt (C.wvr 6) + 1 ∧ t.flag ⟨K.WVR_EVT, 0, 0⟩ = true

theorem timedOut_addr (i : Nat) : (F.WVR_PDU_STATE_TIMED_OUT i).key % 0x100000000 = 0x1c0014 := addr_of_entry i (by decide)

/-- The PDU that timed out, with its sender judged again. -/
def State.judgedOver (s : State) (i : Nat) : State := (s.deadlineOver i).judgeSender ((s.deadlineOver i).pduSender i)

theorem State.judgedOver_shows (i : Nat) : s.TimedOut (s.judgedOver i) i ∧
    (s.judgedOver i).wvr = { s.wvr with deadline := mapSet (fun _ => none) s.wvr.deadline i none } ∧
    (s.judgedOver i).cnt (C.wvr 3) = s.cnt (C.wvr 3) ∧ (s.judgedOver i).cycle = s.cycle := by
  let a : State := { s with wvr := { s.wvr with deadline := mapSet (fun _ => none) s.wvr.deadline i none } }
  let b := (a.setFld (F.WVR_PDU_STATE_TIMED_OUT i) 1).inc (C.wvr 6)
  let d := b.wvrEvent 0
  let k := d.pduSender i
  have event := b.wvrEvent_flag (b := 0) (by decide)
  have shown : b.flag (F.WVR_PDU_STATE_TIMED_OUT i) = true :=
    (a.flag_setFld_same (F.WVR_PDU_STATE_TIMED_OUT i) 1 rfl (show 31 < 32 by decide)).trans rfl
  have first : b.AddrsBut d (K.WVR_EVT :: journalKeys) := (b.wvrEvent_regsBut 0).addrs (by decide)
  have judged := d.judgeSender_addrs k
  have only := (b.wvrEvent_only 0).comp (d.judgeSender_only k)
  have wvr : (d.judgeSender k).wvr = b.wvr := only.keeps State.wvr rfl
  have cnt {c : Nat} (hc : c ∉ eventCounters) : (d.judgeSender k).cnt c = b.cnt c := (d.judgeSender_cntsBut k c hc).trans (b.wvrEvent_cnt 0 hc)
  have eq : s.judgedOver i = d.judgeSender k := rfl
  rw [eq]
  refine ⟨⟨?_, ?_, (cnt (by decide)).trans (State.cnt_inc_same _ _), d.judgeSender_event k event⟩, wvr,
    (cnt (by decide)).trans (State.cnt_inc_other _ (by decide)), only.keeps State.cycle rfl⟩
  · rw [judged.flag (by rw [timedOut_addr]; decide), first.flag (by rw [timedOut_addr]; decide), shown]
  · rw [wvr]
    exact mapGet_mapSet_same (fun _ => none) s.wvr.deadline i none

theorem rankIn_length (u : WUnit) (l : List WUnit) : (rankIn u l).length = l.length + 1 := by
  induction l with
  | nil => rfl
  | cons v r ih =>
    simp only [rankIn]
    split
    · rfl
    · simp [ih]

theorem State.placeUnit_units (u : WUnit) : (s.placeUnit u).wvr.units = s.wvr.units.take (s.wvr.units.length - s.newUnits) ++
    rankIn u (s.wvr.units.drop (s.wvr.units.length - s.newUnits)) := rfl

theorem State.placeUnit_length (u : WUnit) : (s.placeUnit u).wvr.units.length = s.wvr.units.length + 1 := by
  rw [s.placeUnit_units, List.length_append, rankIn_length, List.length_take, List.length_drop]
  omega

/-- The queue without the last of its new units, where that is another one. -/
def State.lastDropped (s : State) (u : WUnit) : State :=
  let t := s.placeUnit u
  if t.wvr.units.getLast? = some u then s
  else { t with wvr := { t.wvr with units := t.wvr.units.dropLast, newCount := t.wvr.newCount - 1 } }

theorem State.queueUnit_timeout (i : Nat) : s.queueUnit (.timeout i) =
    if 256 < (s.placeUnit (.timeout i)).wvr.units.length then ((s.lastDropped (.timeout i)).inc (C.wvr 3)).wvrEvent 4
    else s.placeUnit (.timeout i) := rfl

theorem State.lastDropped_keeps (u : WUnit) : (s.lastDropped u).regs = s.regs ∧ (s.lastDropped u).cnts = s.cnts ∧
    (s.lastDropped u).wvr.deadline = s.wvr.deadline ∧ s.Only (s.lastDropped u) [.wvr] ∧
    (s.newUnits = 0 → (s.lastDropped u).wvr.units = s.wvr.units) := by
  have last (none : s.newUnits = 0) : (s.placeUnit u).wvr.units.getLast? = some u := by
    rw [s.placeUnit_units, none, Nat.sub_zero, List.drop_length, List.take_length]
    simp [rankIn]
  unfold State.lastDropped
  simp only
  split
  · exact ⟨rfl, rfl, rfl, rfl, fun _ => rfl⟩
  case isFalse other => exact ⟨rfl, rfl, rfl, rfl, fun none => absurd (last none) other⟩

variable {s} {t u : State}

theorem State.TimedOut.after {i : Nat} (h : s.TimedOut t i) (regs : u.regs = t.regs) (cnts : u.cnts = t.cnts)
    (deadline : u.wvr.deadline = t.wvr.deadline) : s.TimedOut u i := by
  obtain ⟨out, none, count, event⟩ := h
  exact ⟨(State.flag_congr regs _).trans out, deadline ▸ none, (State.cnt_congr cnts _).trans count, (State.flag_congr regs _).trans event⟩

theorem State.TimedOut.lost {i : Nat} (h : s.TimedOut t i) : s.TimedOut ((t.inc (C.wvr 3)).wvrEvent 4) i := by
  obtain ⟨out, none, count, event⟩ := h
  have regs := (t.inc (C.wvr 3)).wvrEvent_regsBut 4
  have wvr : ((t.inc (C.wvr 3)).wvrEvent 4).wvr = t.wvr := ((t.inc (C.wvr 3)).wvrEvent_only 4).keeps State.wvr rfl
  have apart : (F.WVR_PDU_STATE_TIMED_OUT i).key ∉ K.WVR_EVT :: journalKeys := fun m => by
    have addr := timedOut_addr i
    have mods : ∀ k ∈ K.WVR_EVT :: journalKeys, k % 0x100000000 ≠ 0x1c0014 := by decide
    exact mods _ m addr
  exact ⟨(regs.flag apart).trans out, wvr ▸ none, (State.wvrEvent_cnt _ 4 (by decide)).trans ((t.cnt_inc_other (by decide)).trans count),
    State.wvrEvent_keeps _ 4 (by decide) event⟩

theorem exec_pduTimeout_times {i d : Nat} (hi : i < 4096) (hr : s.running = true) (deadline : mapGet (fun _ => none) s.wvr.deadline i = some d)
    (late : d ≤ s.nowNs) (active : s.pduStandby i = false) :
    ∃ t, exec (.pduTimeout i) s = .next t ∧ s.Only t [.regs, .cnts, .mgt, .wvr, .key] ∧
      t.flag (F.WVR_PDU_STATE_TIMED_OUT i) = true ∧
      mapGet (fun _ => none) t.wvr.deadline i = none ∧ t.cnt (C.wvr 6) = s.cnt (C.wvr 6) + 1 ∧
      t.flag ⟨K.WVR_EVT, 0, 0⟩ = true ∧
      (s.wvr.units.length < 256 → t.cnt (C.wvr 3) = s.cnt (C.wvr 3) ∧
        t.wvr.units = s.wvr.units.take (s.wvr.units.length - s.newUnits) ++
          rankIn (.timeout i) (s.wvr.units.drop (s.wvr.units.length - s.newUnits))) ∧
      (s.newUnits = 0 → s.wvr.units.length < 256 → t.wvr.units = s.wvr.units ++ [.timeout i]) ∧
      (s.newUnits = 0 → 256 ≤ s.wvr.units.length → t.wvr.units = s.wvr.units ∧ t.cnt (C.wvr 3) = s.cnt (C.wvr 3) + 1) := by
  have run := exec_pduTimeout s i (by simpa [Instr.wf] using hi) hr
  have effect : s.pduTimeout i (s.pduStandby i) = (s.judgedOver i).queueUnit (.timeout i) := by
    have due : ¬ (s.pduStandby i = true ∨ s.nowNs < d) := by
      rw [active]
      simpa using late
    simp only [State.pduTimeout, deadline, due, if_false]
    rfl
  obtain ⟨shown, wvr, count, cycle⟩ := s.judgedOver_shows i
  generalize s.judgedOver i = v at *
  rw [effect, v.queueUnit_timeout, v.placeUnit_length] at run
  have units : v.wvr.units = s.wvr.units := by rw [wvr]
  have fresh : v.newUnits = s.newUnits := by rw [State.newUnits, State.ctrlCycle, wvr, cycle]; rfl
  have placed : (v.placeUnit (.timeout i)).wvr.units = s.wvr.units.take (s.wvr.units.length - s.newUnits) ++
      rankIn (.timeout i) (s.wvr.units.drop (s.wvr.units.length - s.newUnits)) := by rw [v.placeUnit_units, units, fresh]
  rw [units] at run
  by_cases room : s.wvr.units.length < 256
  · rw [if_neg (by omega)] at run
    obtain ⟨out, none, sixth, event⟩ := shown.after (u := v.placeUnit (.timeout i)) rfl rfl rfl
    refine ⟨_, run, s.only_confine _ _, out, none, sixth, event, fun _ => ⟨count, placed⟩, fun new _ => ?_, fun _ full => by omega⟩
    refine placed.trans ?_
    rw [new, Nat.sub_zero, List.drop_length, List.take_length]
    rfl
  · rw [if_pos (by omega)] at run
    obtain ⟨regs, cnts, kept, _, same⟩ := v.lastDropped_keeps (.timeout i)
    generalize v.lastDropped (.timeout i) = w at *
    obtain ⟨out, none, sixth, event⟩ := (shown.after regs cnts kept).lost
    refine ⟨_, run, s.only_confine _ _, out, none, sixth, event, fun few => absurd few room, fun _ few => absurd few room, fun new _ => ⟨?_, ?_⟩⟩
    · have after : ((w.inc (C.wvr 3)).wvrEvent 4).wvr = w.wvr := ((w.inc (C.wvr 3)).wvrEvent_only 4).keeps State.wvr rfl
      exact (congrArg (fun x => x.units) after).trans ((same (fresh.trans new)).trans units)
    · refine (State.wvrEvent_cnt _ 4 (by decide)).trans ((w.cnt_inc_same (C.wvr 3)).trans ?_)
      rw [State.cnt_congr cnts, count]

theorem exec_pduTimeout_waits {i d : Nat} (hi : i < 4096) (hr : s.running = true) (deadline : mapGet (fun _ => none) s.wvr.deadline i = some d)
    (h : s.nowNs < d ∨ s.pduStandby i = true) : exec (.pduTimeout i) s = .next s := by
  have effect : s.pduTimeout i (s.pduStandby i) = s := by
    simp only [State.pduTimeout, deadline]
    exact if_pos h.symm
  rw [exec_pduTimeout s i (by simpa [Instr.wf] using hi) hr, effect, s.confine_self]

/-! ## Frames that close -/

/-- The PDUs of a frame are in no frame any more. -/
def State.leaveFrame (s : State) (l : List OpenPdu) : State := forEach l (fun p s => s.setFld (F.WVR_PDU_STATE_IN_FRAME p.pdu) 0) s

theorem inFrame_addr (i : Nat) : (F.WVR_PDU_STATE_IN_FRAME i).key % 0x100000000 = 0x1c0014 := addr_of_entry i (by decide)

theorem State.setInFrame_keeps (s : State) (i j : Nat) (h : s.flag (F.WVR_PDU_STATE_IN_FRAME i) = false) :
    (s.setFld (F.WVR_PDU_STATE_IN_FRAME j) 0).flag (F.WVR_PDU_STATE_IN_FRAME i) = false := by
  by_cases same : i = j
  · subst same
    exact (s.flag_setFld_same (F.WVR_PDU_STATE_IN_FRAME i) 0 rfl (show 28 < 32 by decide)).trans rfl
  · refine ((s.regsBut_setFld (F.WVR_PDU_STATE_IN_FRAME j) 0).flag ?_).trans h
    simp only [F.WVR_PDU_STATE_IN_FRAME, K.WVR_PDU_STATE, List.mem_singleton]
    omega

theorem State.leaveFrame_keeps (s : State) (i : Nat) (l : List OpenPdu) (h : s.flag (F.WVR_PDU_STATE_IN_FRAME i) = false) :
    (s.leaveFrame l).flag (F.WVR_PDU_STATE_IN_FRAME i) = false := by
  induction l generalizing s with
  | nil => exact h
  | cons p r ih => exact ih _ (s.setInFrame_keeps i p.pdu h)

theorem State.leaveFrame_leaves (s : State) (l : List OpenPdu) :
    (∀ p ∈ l, (s.leaveFrame l).flag (F.WVR_PDU_STATE_IN_FRAME p.pdu) = false) ∧ s.AddrsBut (s.leaveFrame l) [0x1c0014] ∧
    s.Only (s.leaveFrame l) [.regs] := by
  have one (u : State) (p : OpenPdu) : u.AddrsBut (u.setFld (F.WVR_PDU_STATE_IN_FRAME p.pdu) 0) [0x1c0014] :=
    (u.regsBut_setFld _ _).addrs (fun k hk => by rw [List.mem_singleton.mp hk, inFrame_addr]; simp)
  refine ⟨?_, ?_, forEach_only (l := [.regs]) (fun (p : OpenPdu) s => s.setFld (F.WVR_PDU_STATE_IN_FRAME p.pdu) 0) (fun _ _ => rfl) l s⟩
  · induction l generalizing s with
    | nil => simp
    | cons p r ih =>
      intro q hq
      rcases List.mem_cons.mp hq with rfl | hq
      · exact State.leaveFrame_keeps _ _ r ((s.flag_setFld_same (F.WVR_PDU_STATE_IN_FRAME q.pdu) 0 rfl (show 28 < 32 by decide)).trans rfl)
      · exact ih _ q hq
  · exact forEach_addrsBut _ _ (fun p _ u => one u p) s

/-- The carrier's frame is empty, and its sequence number is the next. -/
def State.frameEmptied (s : State) (c md : Nat) : State :=
  let s := s.setOpen c ⟨[], 0⟩
  { s with wvr := { s.wvr with carSeq := mapModify (fun _ => 0) s.wvr.carSeq c (fun n => (n + 1) % md) } }

/-- A frame of the Weaver joins its lane, or is lost and counted. -/
def State.laneFrame (s : State) (f : LaneFrame) : State :=
  if 64 ≤ s.mgt.wvLane.length then (s.inc (C.wvr 13)).wvrEvent 6
  else { s with mgt := { s.mgt with wvLane := s.mgt.wvLane ++ [f] } }.inc (C.wvr 12)

/-- The numbers of a carrier's sequence. -/
def State.carModulus (s : State) (c : Nat) : Nat := if s.fld (F.WVR_CAR_CFG0_FORMAT c) = 0 then 256 else 65536

/-- The frame of a carrier as it is sent. -/
def State.carrierSent (s : State) (c : Nat) (f : OpenFrame) : List Byte :=
  s.carrierFrame c (f.pdus.flatMap (fun p => s.entryBytes p.pdu p.img p.time))

theorem State.closeFrame_eq {c : Nat} {f : OpenFrame} (h : s.openFrame c = f) (filled : f.pdus ≠ []) : s.closeFrame c =
    let u := (s.leaveFrame f.pdus).frameEmptied c (s.carModulus c)
    u.laneFrame ⟨s.carrierSent c f, ⟨u.fld (F.WVR_CAR_CFG0_ZONE c), none, earliest (f.pdus.map OpenPdu.launch)⟩⟩ := by
  subst h
  exact if_neg (by simpa using filled)

theorem State.laneFrame_joins (s : State) (f : LaneFrame) : s.Only (s.laneFrame f) [.regs, .cnts, .mgt, .key] ∧
    s.AddrsBut (s.laneFrame f) (K.WVR_EVT :: journalKeys) ∧
    (s.mgt.wvLane.length < 64 → (s.laneFrame f).cnt (C.wvr 12) = s.cnt (C.wvr 12) + 1 ∧ (s.laneFrame f).mgt.wvLane = s.mgt.wvLane ++ [f]) ∧
    (64 ≤ s.mgt.wvLane.length → (s.laneFrame f).mgt.wvLane = s.mgt.wvLane ∧ (s.laneFrame f).cnt (C.wvr 13) = s.cnt (C.wvr 13) + 1) := by
  unfold State.laneFrame
  split
  case isTrue full =>
    exact ⟨State.Only.comp (show s.Only (s.inc (C.wvr 13)) [.regs, .cnts, .mgt, .key] from rfl) (State.wvrEvent_only _ 6),
      ((State.wvrEvent_regsBut _ 6).addrs (by decide)).from rfl, fun few => by omega,
      fun _ => ⟨(State.raiseFlag_noted _ _ _).wvLane, (State.wvrEvent_cnt _ 6 (by decide)).trans (s.cnt_inc_same (C.wvr 13))⟩⟩
  case isFalse full =>
    exact ⟨rfl, (State.AddrsBut.refl s _).after rfl, fun _ => ⟨State.cnt_inc_same _ _, rfl⟩, fun h => absurd h full⟩

theorem exec_carrierFrameClose_closes {c : Nat} {f : OpenFrame} (hc : c < 512) (hr : s.running = true) (h : s.openFrame c = f)
    (filled : f.pdus ≠ []) (late : f.since + 500 * s.fld (F.WVR_CAR_CFG1_HOLD_US c) ≤ s.cycle) :
    ∃ t, exec (.carrierFrameClose c) s = .next t ∧ s.Only t [.regs, .cnts, .mgt, .wvr, .key] ∧ t.openFrame c = ⟨[], 0⟩ ∧
      (∀ p ∈ f.pdus, t.flag (F.WVR_PDU_STATE_IN_FRAME p.pdu) = false) ∧
      mapGet (fun _ => 0) t.wvr.carSeq c =
        (mapGet (fun _ => 0) s.wvr.carSeq c + 1) % (if s.fld (F.WVR_CAR_CFG0_FORMAT c) = 0 then 256 else 65536) ∧
      (s.mgt.wvLane.length < 64 → t.cnt (C.wvr 12) = s.cnt (C.wvr 12) + 1 ∧
        t.mgt.wvLane = s.mgt.wvLane ++ [⟨s.carrierFrame c (f.pdus.flatMap (fun p => s.entryBytes p.pdu p.img p.time)),
          ⟨s.fld (F.WVR_CAR_CFG0_ZONE c), none, earliest (f.pdus.map (fun p => p.launch))⟩⟩]) ∧
      (64 ≤ s.mgt.wvLane.length → t.mgt.wvLane = s.mgt.wvLane ∧ t.cnt (C.wvr 13) = s.cnt (C.wvr 13) + 1) := by
  have run := exec_carrierFrameClose s c (by simpa [Instr.wf] using hc) hr
  have effect : s.holdClose c = s.closeFrame c := by
    refine if_neg ?_
    rw [h, usCycles]
    simpa [filled] using late
  obtain ⟨left, addrs, only⟩ := s.leaveFrame_leaves f.pdus
  have zone : (s.leaveFrame f.pdus).fld (F.WVR_CAR_CFG0_ZONE c) = s.fld (F.WVR_CAR_CFG0_ZONE c) :=
    addrs.fld (by rw [show (F.WVR_CAR_CFG0_ZONE c).key % 0x100000000 = 0x1c0184 from addr_of_entry c (by decide)]; decide)
  have cnts : (s.leaveFrame f.pdus).cnts = s.cnts := only.keeps State.cnts rfl
  have mgt : (s.leaveFrame f.pdus).mgt = s.mgt := only.keeps State.mgt rfl
  have wvr : (s.leaveFrame f.pdus).wvr = s.wvr := only.keeps State.wvr rfl
  rw [effect, State.closeFrame_eq h filled] at run
  generalize s.leaveFrame f.pdus = a at *
  let u := a.frameEmptied c (s.carModulus c)
  have zone' : u.fld (F.WVR_CAR_CFG0_ZONE c) = s.fld (F.WVR_CAR_CFG0_ZONE c) := zone
  have run' : exec (.carrierFrameClose c) s = .next (s.confine [.regs, .cnts, .mgt, .wvr, .key] (u.laneFrame ⟨s.carrierSent c f,
      ⟨u.fld (F.WVR_CAR_CFG0_ZONE c), none, earliest (f.pdus.map OpenPdu.launch)⟩⟩)) := run
  rw [zone'] at run'
  have joined := u.laneFrame_joins ⟨s.carrierSent c f, ⟨s.fld (F.WVR_CAR_CFG0_ZONE c), none, earliest (f.pdus.map OpenPdu.launch)⟩⟩
  obtain ⟨x, lane⟩ : ∃ x, u.laneFrame ⟨s.carrierSent c f, ⟨s.fld (F.WVR_CAR_CFG0_ZONE c), none, earliest (f.pdus.map OpenPdu.launch)⟩⟩ = x :=
    ⟨_, rfl⟩
  rw [lane] at joined run'
  obtain ⟨only', addrs', room, full⟩ := joined
  have emptied : u.wvr.openFrames = mapSet (fun _ => ⟨[], 0⟩) a.wvr.openFrames c ⟨[], 0⟩ := rfl
  have next : u.wvr.carSeq = mapModify (fun _ => 0) a.wvr.carSeq c (fun n => (n + 1) % s.carModulus c) := rfl
  have same : u.mgt = s.mgt ∧ u.cnts = s.cnts := ⟨mgt, cnts⟩
  have flags (i : Nat) : u.flag (F.WVR_PDU_STATE_IN_FRAME i) = a.flag (F.WVR_PDU_STATE_IN_FRAME i) := rfl
  rw [same.1] at room full
  have wvr' := only'.keeps State.wvr rfl
  refine ⟨_, run', s.only_confine _ _, ?_, fun p hp => ?_, ?_, fun few => ?_, fun many => ?_⟩
  · show mapGet _ x.wvr.openFrames c = _
    rw [wvr', emptied]
    exact mapGet_mapSet_same _ _ _ _
  · refine (addrs'.flag ?_).trans ((flags p.pdu).trans (left p hp))
    rw [inFrame_addr]
    decide
  · show mapGet _ x.wvr.carSeq c = _
    rw [wvr', next, wvr]
    exact mapGet_mapSet_same _ _ _ _
  · exact ⟨(room few).1.trans (by rw [State.cnt_congr same.2]), (room few).2⟩
  · exact ⟨(full many).1, (full many).2.trans (by rw [State.cnt_congr same.2])⟩

theorem exec_carrierFrameClose_holds {c : Nat} {f : OpenFrame} (hc : c < 512) (hr : s.running = true) (h : s.openFrame c = f)
    (early : s.cycle < f.since + 500 * s.fld (F.WVR_CAR_CFG1_HOLD_US c)) : exec (.carrierFrameClose c) s = .next s := by
  have effect : s.holdClose c = s := if_pos (.inr (by rw [h]; exact early))
  rw [exec_carrierFrameClose s c (by simpa [Instr.wf] using hc) hr, effect, s.confine_self]

end

/-- Settles O41. The unit of a timeout is placed among the new ones; a frame that closes frees its PDUs and joins the Weaver's lane. -/
theorem weaverTimesOutAndCloses : Obligations.WeaverTimesOutAndCloses := by
  unfold Obligations.WeaverTimesOutAndCloses
  exact ⟨fun s i d hi hr deadline => ⟨fun late active => exec_pduTimeout_times hi hr deadline late active,
      fun h => exec_pduTimeout_waits hi hr deadline h⟩,
    fun s c f hc hr h filled => ⟨fun late => exec_carrierFrameClose_closes hc hr h filled late,
      fun early => exec_carrierFrameClose_holds hc hr h early⟩⟩

end Sys2Proof.Machine
end

section
/-!
SUPPORT. Sends of the Weaver (spec/09, R270 to R275): the request that a send places on its CAN channel, and what the frames that close after it
leave alone.
-/
namespace Sys2Proof.Machine

/-! ## Frames that close after a send -/

/-- Kept while frames close: the channels, what the sends have counted and stamped, the due times and the deferred sends. -/
def State.SendKept (s t : State) : Prop :=
  t.edge = s.edge ∧ t.cnt (C.wvr 8) = s.cnt (C.wvr 8) ∧ t.cnt (C.wvr 10) = s.cnt (C.wvr 10) ∧ t.wvr.lastSend = s.wvr.lastSend ∧
  t.wvr.stamps = s.wvr.stamps ∧ t.wvr.due = s.wvr.due ∧
  (∀ i, t.flag (F.WVR_PDU_STATE_DEFERRED i) = s.flag (F.WVR_PDU_STATE_DEFERRED i)) ∧ s.Only t [.regs, .cnts, .mgt, .wvr, .key]

section
variable {s t u : State}

theorem State.SendKept.refl (s : State) : s.SendKept s := ⟨rfl, rfl, rfl, rfl, rfl, rfl, fun _ => rfl, s.only_refl _⟩

theorem State.SendKept.comp (h : s.SendKept t) (h' : t.SendKept u) : s.SendKept u := by
  obtain ⟨edge, sends, defers, last, stamps, due, deferred, only⟩ := h
  obtain ⟨edge', sends', defers', last', stamps', due', deferred', only'⟩ := h'
  exact ⟨edge'.trans edge, sends'.trans sends, defers'.trans defers, last'.trans last, stamps'.trans stamps, due'.trans due,
    fun i => (deferred' i).trans (deferred i), only.comp only'⟩

theorem deferred_addr (i : Nat) : (F.WVR_PDU_STATE_DEFERRED i).key % 0x100000000 = 0x1c0014 := addr_of_entry i (by decide)

theorem State.setInFrame_deferred (s : State) (i j : Nat) :
    (s.setFld (F.WVR_PDU_STATE_IN_FRAME j) 0).flag (F.WVR_PDU_STATE_DEFERRED i) = s.flag (F.WVR_PDU_STATE_DEFERRED i) := by
  by_cases same : j = i
  · subst same
    exact s.flag_setFld_bits (f := F.WVR_PDU_STATE_IN_FRAME j) (g := F.WVR_PDU_STATE_DEFERRED j) 0 rfl rfl (show 28 < 32 by decide) rfl
      (show 28 ≠ 29 by decide)
  · refine (s.regsBut_setFld (F.WVR_PDU_STATE_IN_FRAME j) 0).flag ?_
    simp only [F.WVR_PDU_STATE_IN_FRAME, F.WVR_PDU_STATE_DEFERRED, K.WVR_PDU_STATE, List.mem_singleton]
    omega

theorem State.leaveFrame_sendKept (s : State) (l : List OpenPdu) : s.SendKept (s.leaveFrame l) := by
  induction l generalizing s with
  | nil => exact State.SendKept.refl s
  | cons p r ih =>
    exact State.SendKept.comp (t := s.setFld (F.WVR_PDU_STATE_IN_FRAME p.pdu) 0) ⟨rfl, rfl, rfl, rfl, rfl, rfl, fun i => s.setInFrame_deferred i p.pdu, rfl⟩ (ih _)

theorem State.laneFrame_sendKept (s : State) (f : LaneFrame) : s.SendKept (s.laneFrame f) := by
  obtain ⟨only, addrs, _, _⟩ := s.laneFrame_joins f
  have cnt {c : Nat} (h1 : c ≠ C.wvr 12) (h2 : c ≠ C.wvr 13) (hc : c ∉ eventCounters) : (s.laneFrame f).cnt c = s.cnt c := by
    unfold State.laneFrame
    split
    · exact (State.wvrEvent_cnt _ 6 hc).trans (s.cnt_inc_other h2.symm)
    · exact State.cnt_inc_other _ h1.symm
  have wvr : (s.laneFrame f).wvr = s.wvr := only.keeps State.wvr rfl
  exact ⟨only.keeps State.edge rfl, cnt (by decide) (by decide) (by decide), cnt (by decide) (by decide) (by decide), by rw [wvr], by rw [wvr],
    by rw [wvr], fun i => addrs.flag (by rw [deferred_addr]; decide), only.mono _ (by decide)⟩

theorem State.closeFrame_sendKept (s : State) (c : Nat) : s.SendKept (s.closeFrame c) := by
  by_cases empty : (s.openFrame c).pdus = []
  · rw [show s.closeFrame c = s from if_pos (by simp [empty])]
    exact State.SendKept.refl s
  · rw [State.closeFrame_eq rfl empty]
    have emptied (v : State) (md : Nat) : v.SendKept (v.frameEmptied c md) := ⟨rfl, rfl, rfl, rfl, rfl, rfl, fun _ => rfl, rfl⟩
    exact ((s.leaveFrame_sendKept _).comp (emptied _ _)).comp (State.laneFrame_sendKept _ _)

theorem State.closeReady_sendKept (s : State) : s.SendKept s.closeReady := by
  have closes (l : List Nat) : ∀ v : State, v.SendKept (forEach l (fun c s => if s.fld (F.WVR_CAR_CFG1_HOLD_US c) = 0 then s.closeFrame c else s) v) := by
    induction l with
    | nil => exact State.SendKept.refl
    | cons c r ih =>
      intro v
      refine State.SendKept.comp ?_ (ih _)
      show v.SendKept (if v.fld (F.WVR_CAR_CFG1_HOLD_US c) = 0 then v.closeFrame c else v)
      split
      · exact v.closeFrame_sendKept c
      · exact State.SendKept.refl v
  exact closes _ s

/-! ## What a send reads -/

theorem State.pdu_congr {i : Nat} (h : s.RegsBut t [K.WVR_PDU_STATE i]) : t.pduKind i = s.pduKind i ∧ t.pduChannel i = s.pduChannel i ∧
    t.pduFmt i = s.pduFmt i ∧ t.pduId i = s.pduId i ∧ (∀ hi lo, t.pdu2 i hi lo = s.pdu2 i hi lo) ∧ t.image i = s.image i ∧
    t.pduLen i = s.pduLen i := by
  have data0 : t.reg (K.WVR_PDU_DATA0 i) = s.reg (K.WVR_PDU_DATA0 i) := h _ (by simp [K.WVR_PDU_DATA0, K.WVR_PDU_STATE])
  have data1 : t.reg (K.WVR_PDU_DATA1 i) = s.reg (K.WVR_PDU_DATA1 i) := h _ (by simp [K.WVR_PDU_DATA1, K.WVR_PDU_STATE])
  have data2 : t.reg (K.WVR_PDU_DATA2 i) = s.reg (K.WVR_PDU_DATA2 i) := h _ (by simp [K.WVR_PDU_DATA2, K.WVR_PDU_STATE])
  have words (j : Nat) : t.reg (K.WVR_IMG j i) = s.reg (K.WVR_IMG j i) := h _ (by
    simp only [K.WVR_IMG, K.WVR_PDU_STATE, List.mem_singleton]
    omega)
  refine ⟨State.fld_of_reg data0, State.fld_of_reg data0, State.fld_of_reg data0, State.fld_of_reg data1, fun hi lo => ?_, ?_, ?_⟩
  · rw [State.pdu2, data2, State.pdu2]
  · simp only [State.image, words]
  · rw [State.pduLen, State.fld_of_reg (f := F.WVR_PDU_DATA0_LEN i) data0, State.pduLen]

/-- A CAN channel takes requests: it runs, is neither held nor isolated nor off the bus, does not shadow and has room. -/
structure State.Takes (s : State) (n : Nat) : Prop where
  mode : s.fld (F.CAN_CTRL_MODE n) = 1
  free : s.chanHeld n = false
  joined : s.flag (F.CAN_STATUS_ISOLATED n) = false
  onBus : s.fld (F.CAN_STATUS_STATE n) ≠ 2
  own : s.flag (F.CAN_CTRL_SHADOW n) = false
  room : (s.can n).reqs.length + b2n (s.can n).cur.isSome < 32

theorem State.Takes.congr {i n : Nat} (h : s.Takes n) (hn : n < 32) (regs : s.RegsBut t [K.WVR_PDU_STATE i]) (edge : t.edge = s.edge) : t.Takes n := by
  obtain ⟨mode, free, joined, onBus, own, room⟩ := h
  have ctrl : t.reg (K.CAN_CTRL n) = s.reg (K.CAN_CTRL n) := regs _ (by simp only [K.CAN_CTRL, K.WVR_PDU_STATE, List.mem_singleton]; omega)
  have status : t.reg (K.CAN_STATUS n) = s.reg (K.CAN_STATUS n) := regs _ (by
    simp only [K.CAN_STATUS, K.WVR_PDU_STATE, List.mem_singleton]; omega)
  have rst : t.reg (K.RST_HELD ((34 + n) / 32)) = s.reg (K.RST_HELD ((34 + n) / 32)) := regs _ (by
    simp only [K.RST_HELD, K.WVR_PDU_STATE, List.mem_singleton]; omega)
  have group : t.reg (K.NM_CHAN_GROUP (n / 8)) = s.reg (K.NM_CHAN_GROUP (n / 8)) := regs _ (by
    simp only [K.NM_CHAN_GROUP, K.WVR_PDU_STATE, List.mem_singleton]; omega)
  have asleep (g : Nat) : t.asleep g = s.asleep g := by
    rw [State.asleep, regs.fld (f := F.NM_STATE_ASLEEP) (by simp [F.NM_STATE_ASLEEP, K.NM_STATE, K.WVR_PDU_STATE]; omega), State.asleep]
  have can : t.can n = s.can n := by rw [State.can, edge, State.can]
  have held : t.chanHeld n = s.chanHeld n := by
    rw [State.chanHeld, State.rstHeld, rst, State.chanGroup, State.fld_of_reg (f := F.NM_CHAN_GROUP_GROUP (n / 8)) group, asleep]
    rfl
  exact ⟨(State.fld_of_reg ctrl).trans mode, held.trans free, (State.flag_of_reg status).trans joined,
    fun e => onBus ((State.fld_of_reg (f := F.CAN_STATUS_STATE n) status).symm.trans e), (State.flag_of_reg ctrl).trans own, by rw [can]; exact room⟩

theorem State.Takes.request {n : Nat} (h : s.Takes n) (r : CanReq) : s.canRequest n r = (true, s.setCan n { s.can n with reqs := (s.can n).reqs ++ [r] }) := by
  obtain ⟨mode, free, joined, onBus, own, room⟩ := h
  simp [State.canRequest, mode, free, joined, onBus, own, Nat.not_le.mpr room]

/-- The request of a PDU on a CAN channel. -/
def State.pduRequest (s : State) (i : Nat) : CanReq :=
  ⟨s.pduFmt i, s.pduId i, s.pdu2 i 27 27 == 1, s.pdu2 i 26 26 == 1, if s.pduFmt i = 2 then [0, 0, 0, 0] else [], (s.image i).take (s.pduLen i), 0⟩

theorem State.can_setCan_same (s : State) (n : Nat) (c : CanSt) : (s.setCan n c).can n = c := mapGet_mapSet_same _ s.edge.can n c

/-- R271: a send counts, stamps and places its request. -/
theorem State.doSend_places {i n : Nat} (kind : s.pduKind i = 0) (channel : n = s.pduChannel i) (takes : s.Takes n) (t0 : Nat) :
    ((s.doSend i t0).can n).reqs = (s.can n).reqs ++ [s.pduRequest i] ∧ (s.doSend i t0).cnt (C.wvr 8) = s.cnt (C.wvr 8) + 1 ∧
    (s.doSend i t0).flag (F.WVR_PDU_STATE_DEFERRED i) = false ∧ mapGet (fun _ => none) (s.doSend i t0).wvr.lastSend i = some s.cycle ∧
    mapGet (fun _ => 0) (s.doSend i t0).wvr.stamps i = t0 ∧ (s.doSend i t0).wvr.due = s.wvr.due ∧
    s.Only (s.doSend i t0) [.regs, .cnts, .edge, .wvr] := by
  let u := s.sentNow i t0
  have regs : s.RegsBut u [K.WVR_PDU_STATE i] := (State.regsBut_setFld _ (F.WVR_PDU_STATE_DEFERRED i) 0).from rfl
  have small : n < 32 := channel ▸ s.fld_lt (F.WVR_PDU_DATA0_CHANNEL i)
  obtain ⟨kind', channel', fmt, id, word2, image, len⟩ := State.pdu_congr regs
  have takes' : u.Takes n := takes.congr small regs rfl
  have request : u.pduRequest i = s.pduRequest i := by simp only [State.pduRequest, fmt, id, word2, image, len]
  have sent : s.doSend i t0 = u.setCan n { s.can n with reqs := (s.can n).reqs ++ [s.pduRequest i] } := by
    have can : u.can n = s.can n := rfl
    rw [s.doSend_eq]
    show u.sendOn i t0 = _
    rw [← request, ← can]
    simp only [State.sendOn, kind', kind, channel', ← channel]
    show (if (u.canRequest n (u.pduRequest i)).1 = true then (u.canRequest n (u.pduRequest i)).2
      else (u.canRequest n (u.pduRequest i)).2.wvrRefused) = _
    rw [takes'.request]
    rfl
  have last : u.wvr.lastSend = mapSet (fun _ => none) s.wvr.lastSend i (some s.cycle) := rfl
  have stamps : u.wvr.stamps = mapSet (fun _ => 0) s.wvr.stamps i t0 := rfl
  rw [sent]
  refine ⟨congrArg CanSt.reqs (u.can_setCan_same n _), s.cnt_inc_same (C.wvr 8), ?_, ?_, ?_, rfl, rfl⟩
  rotate_left
  · show mapGet _ u.wvr.lastSend i = _
    rw [last, mapGet_mapSet_same]
  · show mapGet _ u.wvr.stamps i = _
    rw [stamps, mapGet_mapSet_same]
  exact (State.flag_setFld_same _ (F.WVR_PDU_STATE_DEFERRED i) 0 rfl (show 29 < 32 by decide)).trans rfl

/-! ## SEND, and the sends that were deferred or are due -/

/-- What a send shows when the frames that are ready have closed. -/
theorem State.SendKept.placed {i n : Nat} {r : CanReq} {sends last stamp : Nat} (h : t.SendKept u)
    (placed : (t.can n).reqs = (s.can n).reqs ++ [r] ∧ t.cnt (C.wvr 8) = sends ∧ t.flag (F.WVR_PDU_STATE_DEFERRED i) = false ∧
      mapGet (fun _ => none) t.wvr.lastSend i = some last ∧ mapGet (fun _ => 0) t.wvr.stamps i = stamp) :
    (u.can n).reqs = (s.can n).reqs ++ [r] ∧ u.cnt (C.wvr 8) = sends ∧ u.flag (F.WVR_PDU_STATE_DEFERRED i) = false ∧
      mapGet (fun _ => none) u.wvr.lastSend i = some last ∧ mapGet (fun _ => 0) u.wvr.stamps i = stamp := by
  obtain ⟨edge, count, _, lastSend, stamps, _, deferred, _⟩ := h
  obtain ⟨reqs, count', deferred', last', stamp'⟩ := placed
  have can : u.can n = t.can n := by rw [State.can, edge, State.can]
  exact ⟨by rw [can, reqs], count.trans count', (deferred i).trans deferred', by rw [lastSend, last'], by rw [stamps, stamp']⟩

theorem State.isTx_of_maySend {i : Nat} (h : s.maySend i = true) : s.isTxPdu i = true := by
  simp only [State.maySend, Bool.and_eq_true] at h
  exact h.1.1.1

theorem exec_send_places {i n : Nat} (kind : s.pduKind i = 0) (channel : n = s.pduChannel i) (may : s.maySend i = true) (takes : s.Takes n)
    (index : i = s.fld F.WVR_PDU_INDEX_INDEX) (hr : s.mcRuns = true) (free : s.cyclicNow i = false) (gap : ∀ e, s.gapEnd i = some e → e ≤ s.cycle) :
    ∃ t, exec .send s = .next t ∧ s.Only t [.regs, .cnts, .mgt, .edge, .wvr, .key] ∧
      (t.can n).reqs = (s.can n).reqs ++ [s.pduRequest i] ∧ t.cnt (C.wvr 8) = s.cnt (C.wvr 8) + 1 ∧
      mapGet (fun _ => none) t.wvr.lastSend i = some s.cycle ∧ mapGet (fun _ => 0) t.wvr.stamps i = s.nowNs := by
  have run := exec_send s hr
  have effect : s.sendCommand = (s.doSend i s.nowNs).closeReady := by
    have event : s.eventSend i s.nowNs = s.doSend i s.nowNs := by
      simp only [State.eventSend, may, free, Bool.not_true, Bool.or_self, Bool.false_eq_true, if_false]
      cases ends : s.gapEnd i with
      | none => rfl
      | some e => exact if_pos (by simpa using gap e ends)
    rw [State.sendCommand, ← index, if_pos (State.isTx_of_maySend may), event]
  obtain ⟨reqs, count, deferred, last, stamp, _, _⟩ := State.doSend_places kind channel takes s.nowNs
  obtain ⟨reqs', count', _, last', stamp'⟩ := (State.closeReady_sendKept (s.doSend i s.nowNs)).placed ⟨reqs, count, deferred, last, stamp⟩
  rw [effect] at run
  exact ⟨_, run, s.only_confine _ _, reqs', count', last', stamp'⟩

theorem exec_send_cyclic {i : Nat} (may : s.maySend i = true) (index : i = s.fld F.WVR_PDU_INDEX_INDEX) (hr : s.mcRuns = true)
    (now : s.cyclicNow i = true) : ∃ t, exec .send s = .next t ∧ t.edge = s.edge ∧ t.cnt (C.wvr 8) = s.cnt (C.wvr 8) := by
  have run := exec_send s hr
  have effect : s.sendCommand = s.closeReady := by
    rw [State.sendCommand, ← index, if_pos (State.isTx_of_maySend may), show s.eventSend i s.nowNs = s from if_pos (by simp [now])]
  obtain ⟨edge, count, _⟩ := s.closeReady_sendKept
  rw [effect] at run
  exact ⟨_, run, edge, count⟩

theorem exec_send_defers {i e : Nat} (may : s.maySend i = true) (index : i = s.fld F.WVR_PDU_INDEX_INDEX) (hr : s.mcRuns = true)
    (free : s.cyclicNow i = false) (gap : s.gapEnd i = some e) (early : s.cycle < e) (first : s.flag (F.WVR_PDU_STATE_DEFERRED i) = false) :
    ∃ t, exec .send s = .next t ∧ s.Only t [.regs, .cnts, .mgt, .edge, .wvr, .key] ∧ t.edge = s.edge ∧
      t.flag (F.WVR_PDU_STATE_DEFERRED i) = true ∧ t.cnt (C.wvr 10) = s.cnt (C.wvr 10) + 1 := by
  have run := exec_send s hr
  let u := (s.setFld (F.WVR_PDU_STATE_DEFERRED i) 1).inc (C.wvr 10)
  have effect : s.sendCommand = u.closeReady := by
    have event : s.eventSend i s.nowNs = u := by
      have late : decide (e ≤ s.cycle) = false := decide_eq_false (by omega)
      simp only [State.eventSend, may, free, gap, late, first, Bool.not_true, Bool.or_self, Bool.false_eq_true, if_false, u]
    rw [State.sendCommand, ← index, if_pos (State.isTx_of_maySend may), event]
  obtain ⟨edge, _, count, _, _, _, deferred, _⟩ := u.closeReady_sendKept
  rw [effect] at run
  refine ⟨_, run, s.only_confine _ _, edge, (deferred i).trans ?_, count.trans (State.cnt_inc_same _ _)⟩
  exact (s.flag_setFld_same (F.WVR_PDU_STATE_DEFERRED i) 1 rfl (show 29 < 32 by decide)).trans rfl

theorem exec_deferredSend_places {i n e : Nat} (kind : s.pduKind i = 0) (channel : n = s.pduChannel i) (may : s.maySend i = true)
    (takes : s.Takes n) (hr : s.running = true) (ready : s.deferredReady = [(i, e)]) :
    ∃ t, exec .deferredSend s = .next t ∧ s.Only t [.regs, .cnts, .mgt, .edge, .wvr, .key] ∧
      (t.can n).reqs = (s.can n).reqs ++ [s.pduRequest i] ∧ t.cnt (C.wvr 8) = s.cnt (C.wvr 8) + 1 ∧
      t.flag (F.WVR_PDU_STATE_DEFERRED i) = false ∧ mapGet (fun _ => 0) t.wvr.stamps i = s.nowNs - 2 * (s.cycle - e) := by
  have run := exec_deferredSend s hr
  have effect : s.deferredSend = (s.doSend i (s.nowNs - 2 * (s.cycle - e))).closeReady := by
    simp only [State.deferredSend, ready, List.map_cons, List.map_nil, List.foldl_cons, List.foldl_nil, List.filter_cons, List.filter_nil,
      beq_self_eq_true, if_true, forEach, may]
  obtain ⟨reqs, count, deferred, last, stamp, _, _⟩ := State.doSend_places kind channel takes (s.nowNs - 2 * (s.cycle - e))
  obtain ⟨reqs', count', deferred', _, stamp'⟩ :=
    (State.closeReady_sendKept (s.doSend i (s.nowNs - 2 * (s.cycle - e)))).placed ⟨reqs, count, deferred, last, stamp⟩
  rw [effect] at run
  exact ⟨_, run, s.only_confine _ _, reqs', count', deferred', stamp'⟩

/-- A cyclic send in its cycle is noted. -/
def State.cyclicSent (s : State) (i : Nat) : State :=
  { s with wvr := { s.wvr with lastCyclic := mapSet (fun _ => none) s.wvr.lastCyclic i (some s.ctrlCycle) } }

theorem exec_cyclicSend_places {i n d : Nat} (kind : s.pduKind i = 0) (channel : n = s.pduChannel i) (may : s.maySend i = true)
    (takes : s.Takes n) (hr : s.running = true) (only : s.wvr.due = [(i, some d)]) (late : d ≤ s.nowNs) :
    ∃ t, exec .cyclicSend s = .next t ∧ s.Only t [.regs, .cnts, .mgt, .edge, .wvr, .key] ∧
      (t.can n).reqs = (s.can n).reqs ++ [s.pduRequest i] ∧ t.cnt (C.wvr 8) = s.cnt (C.wvr 8) + 1 ∧
      t.dueOf i = some (d + 1000 * s.pduUs i) ∧ mapGet (fun _ => 0) t.wvr.stamps i = d := by
  have run := exec_cyclicSend s hr
  let u := s.setDue i (some (d + 1000 * s.pduUs i))
  let v := (u.doSend i d).cyclicSent i
  have effect : s.cyclicSend = v.closeReady := by
    have due : ¬ s.nowNs < d := by omega
    have may' : u.maySend i = true := may
    simp only [State.cyclicSend, only, List.foldl_cons, List.foldl_nil, due, if_false, List.filter_cons, List.filter_nil, beq_self_eq_true,
      if_true, List.map_cons, List.map_nil, forEach]
    show State.closeReady (if u.maySend i = true then v else u) = _
    rw [if_pos may']
  have takes' : u.Takes n := takes.congr (i := i) (channel ▸ s.fld_lt (F.WVR_PDU_DATA0_CHANNEL i)) (State.regsBut_of_regs rfl _) rfl
  obtain ⟨reqs, count, deferred, last, stamp, due, _⟩ := State.doSend_places (s := u) (i := i) kind channel takes' d
  have next : mapGet (fun _ => none) u.wvr.due i = some (d + 1000 * s.pduUs i) := mapGet_mapSet_same (fun _ => none) s.wvr.due i (some (d + 1000 * s.pduUs i))
  have kept := v.closeReady_sendKept
  obtain ⟨_, _, _, _, _, due', _, _⟩ := id kept
  have shown : v.wvr.due = (u.doSend i d).wvr.due := rfl
  obtain ⟨reqs', count', _, _, stamp'⟩ := kept.placed (s := u) (i := i) (n := n) (r := u.pduRequest i) ⟨reqs, count, deferred, last, stamp⟩
  rw [effect] at run
  refine ⟨_, run, s.only_confine _ _, reqs', count', ?_, stamp'⟩
  show mapGet _ v.closeReady.wvr.due i = _
  rw [due', shown, due, next]

end

/-- Settles O42. A send places its request after it has counted and stamped; the frames that close afterwards leave all of that. -/
theorem sendsPlaceRequests : Obligations.SendsPlaceRequests := by
  unfold Obligations.SendsPlaceRequests
  intro s i n kind channel may mode free joined onBus own room req
  have takes : s.Takes n := ⟨mode, free, joined, onBus, own, room⟩
  exact ⟨fun index hr now gap => exec_send_places kind channel may takes index hr now gap,
    fun index hr now => exec_send_cyclic may index hr now,
    fun e index hr now gap early first => exec_send_defers may index hr now gap early first,
    fun e hr ready => exec_deferredSend_places kind channel may takes hr ready,
    fun d hr only late => exec_cyclicSend_places kind channel may takes hr only late⟩

end Sys2Proof.Machine
end

section
/-!
SUPPORT. Queues that are kept clean (spec/05, R158, R163 and R164): what the sweep takes from the heads of the queues, what the end of a quarantine
releases, and what the audit makes of each cell.
-/
namespace Sys2Proof.Machine

/-! ## The sweep -/

/-- Kept by a sweep: the quarantines, and all that an age is judged by. -/
def State.SweepKept (s t : State) : Prop :=
  (∀ q, (t.qs q).quar = (s.qs q).quar) ∧ t.cycle = s.cycle ∧ ∀ q, t.ageLimit q = s.ageLimit q

section
variable {s t u : State}

theorem State.SweepKept.refl (s : State) : s.SweepKept s := ⟨fun _ => rfl, rfl, fun _ => rfl⟩

theorem State.SweepKept.comp (h : s.SweepKept t) (h' : t.SweepKept u) : s.SweepKept u := by
  obtain ⟨quar, cycle, limit⟩ := h
  obtain ⟨quar', cycle', limit'⟩ := h'
  exact ⟨fun q => (quar' q).trans (quar q), cycle'.trans cycle, fun q => (limit' q).trans (limit q)⟩

theorem State.SweepKept.aged (h : s.SweepKept t) (q : Nat) (c : Copy) : t.aged q c = s.aged q c := by
  obtain ⟨_, cycle, limit⟩ := h
  simp only [State.aged, State.usec, cycle, limit]
  rfl

theorem State.BufKept.ageLimit (h : s.BufKept t) (q : Nat) : t.ageLimit q = s.ageLimit q := by
  obtain ⟨_, regs, _⟩ := h
  have queue : K.QUE_WIN_AGE q ∉ bufKeys := by
    simp only [bufKeys, journalKeys, K.QUE_WIN_AGE, K.BUF_STATUS, K.BUF_AUDIT, K.MGT_CFG, K.JRN_STATUS, K.JRN_HEAD_LO, K.JRN_HEAD_HI,
      K.JRN_CP_LO, K.JRN_CP_HI, List.mem_cons, List.not_mem_nil, or_false]
    omega
  rw [State.ageLimit, regs.fld (f := F.QUE_WIN_AGE_AGE_LIMIT q) queue, regs.fld (f := F.VOQ_AGE_AGE_LIMIT) (by decide), State.ageLimit]

theorem State.HoldKept.sweepKept (h : s.HoldKept t) : s.SweepKept t := ⟨fun q => by rw [h.qs], h.1.cycle, h.1.ageLimit⟩

theorem State.queue_setQueue_same (s : State) (q : Nat) (l : List Copy) : (s.setQueue q l).queue q = l := mapGet_mapSet_same _ s.data.queues q l

theorem State.queue_setQueue_other (s : State) {q r : Nat} (h : r ≠ q) (l : List Copy) : (s.setQueue q l).queue r = s.queue r :=
  mapGet_mapSet_other _ s.data.queues l h.symm

theorem State.qs_setQs_same (s : State) (q : Nat) (x : QState) : (s.setQs q x).qs q = x := mapGet_mapSet_same _ s.data.qst q x

theorem State.qs_setQs_other (s : State) {q r : Nat} (h : r ≠ q) (x : QState) : (s.setQs q x).qs r = s.qs r :=
  mapGet_mapSet_other _ s.data.qst x h.symm

theorem State.headTag_sweepKept (s : State) (q st : Nat) : s.SweepKept (s.headTag q st) := by
  refine ⟨fun r => ?_, (s.headTag_bufKept q st).cycle, (s.headTag_bufKept q st).ageLimit⟩
  unfold State.headTag
  split
  · rfl
  · by_cases same : r = q
    · subst same
      exact (congrArg QState.quar (s.qs_setQs_same r _)).trans rfl
    · exact congrArg QState.quar (s.qs_setQs_other same _)

theorem State.popHead_pops (s : State) (q : Nat) : s.SweepKept (s.popHead q) ∧ (s.popHead q).queue q = (s.queue q).tail ∧
    ∀ r, r ≠ q → (s.popHead q).queue r = s.queue r := by
  have eq : s.popHead q = if q < 280 then (s.setQueue q (s.queue q).tail).headTag q ((s.finTag q).getD ((s.setQueue q (s.queue q).tail).vt (qPort q)))
    else s.setQueue q (s.queue q).tail := rfl
  have tagged (v : State) (st r : Nat) : (v.headTag q st).queue r = v.queue r := by rw [State.queue, v.headTag_queues, State.queue]
  have kept : s.SweepKept (s.setQueue q (s.queue q).tail) := ⟨fun _ => rfl, rfl, fun _ => rfl⟩
  rw [eq]
  split
  · exact ⟨kept.comp (State.headTag_sweepKept _ _ _), (tagged _ _ q).trans (s.queue_setQueue_same _ _),
      fun r hr => (tagged _ _ r).trans (s.queue_setQueue_other hr _)⟩
  · exact ⟨kept, s.queue_setQueue_same _ _, fun r hr => s.queue_setQueue_other hr _⟩

/-- The head of a queue ages out. -/
def State.ageOut (s : State) (q : Nat) (c : Copy) : State := ((s.popHead q).endCopy q c).inc (C.buf 4)

theorem State.ageOut_takes (s : State) (q : Nat) (c : Copy) : s.SweepKept (s.ageOut q c) ∧ (s.ageOut q c).queue q = (s.queue q).tail ∧
    ∀ r, r ≠ q → (s.ageOut q c).queue r = s.queue r := by
  obtain ⟨kept, own, others⟩ := s.popHead_pops q
  have ended := (s.popHead q).endCopy_holdKept q c
  have counted (v : State) : v.SweepKept (v.inc (C.buf 4)) := ⟨fun _ => rfl, rfl, fun _ => rfl⟩
  exact ⟨(kept.comp ended.sweepKept).comp (counted _), (ended.queue q).trans own, fun r hr => (ended.queue r).trans (others r hr)⟩

/-- A queue is swept: it lost heads only, and its head is not aged. -/
def State.SweptAt (s t : State) (q : Nat) : Prop :=
  (∃ n, t.queue q = (s.queue q).drop n) ∧ ∀ c rest, t.queue q = c :: rest → s.aged q c = false

theorem State.ageHeads_sweeps (q : Nat) : ∀ (fuel : Nat) (s : State), (s.queue q).length ≤ fuel →
    s.SweepKept (s.ageHeads q fuel) ∧ s.SweptAt (s.ageHeads q fuel) q ∧ ∀ r, r ≠ q → (s.ageHeads q fuel).queue r = s.queue r := by
  intro fuel
  induction fuel with
  | zero =>
    intro s h
    have empty : s.queue q = [] := List.length_eq_zero_iff.mp (Nat.le_zero.mp h)
    exact ⟨State.SweepKept.refl s, ⟨⟨0, rfl⟩, fun c rest e => absurd (empty.symm.trans e) (by simp)⟩, fun _ _ => rfl⟩
  | succ fuel ih =>
    intro s h
    cases queue : s.queue q with
    | nil =>
      rw [show s.ageHeads q (fuel + 1) = s by simp only [State.ageHeads, queue]]
      exact ⟨State.SweepKept.refl s, ⟨⟨0, rfl⟩, fun c rest e => absurd (queue.symm.trans e) (by simp)⟩, fun _ _ => rfl⟩
    | cons c rest =>
      cases aged : s.aged q c with
      | false =>
        rw [show s.ageHeads q (fuel + 1) = s by simp only [State.ageHeads, queue, aged, Bool.false_eq_true, if_false]]
        refine ⟨State.SweepKept.refl s, ⟨⟨0, rfl⟩, fun d r e => ?_⟩, fun _ _ => rfl⟩
        obtain ⟨rfl, _⟩ := List.cons.inj (queue.symm.trans e)
        exact aged
      | true =>
        obtain ⟨kept, own, others⟩ := s.ageOut_takes q c
        rw [show s.ageHeads q (fuel + 1) = (s.ageOut q c).ageHeads q fuel by simp only [State.ageHeads, queue, aged, if_true]; rfl]
        have shorter : ((s.ageOut q c).queue q).length ≤ fuel := by
          rw [queue] at h
          rw [own, queue]
          simpa using h
        obtain ⟨kept', ⟨⟨n, drops⟩, fresh⟩, others'⟩ := ih _ shorter
        refine ⟨kept.comp kept', ⟨⟨n + 1, ?_⟩, fun d r e => ?_⟩, fun r hr => (others' r hr).trans (others r hr)⟩
        · rw [drops, own, queue]
          rfl
        · exact (kept.aged q d).symm.trans (fresh d r e)

/-- The sweep of one queue, which leaves a quarantined one. -/
def State.sweepOne (s : State) (q : Nat) : State := if (s.qs q).quar then s else s.ageHeads q (s.queue q).length

theorem State.sweepOne_sweeps (s : State) (q : Nat) : s.SweepKept (s.sweepOne q) ∧ ((s.qs q).quar = false → s.SweptAt (s.sweepOne q) q) ∧
    ((s.qs q).quar = true → (s.sweepOne q).queue q = s.queue q) ∧ ∀ r, r ≠ q → (s.sweepOne q).queue r = s.queue r := by
  unfold State.sweepOne
  cases quar : (s.qs q).quar with
  | true => exact ⟨State.SweepKept.refl s, (by simp), fun _ => rfl, fun _ _ => rfl⟩
  | false =>
    obtain ⟨kept, swept, others⟩ := State.ageHeads_sweeps q _ s (Nat.le_refl _)
    exact ⟨kept, fun _ => swept, (by simp), others⟩

theorem forEach_sweepOne (l : List Nat) : ∀ s : State, s.SweepKept (forEach l (fun q s => s.sweepOne q) s) ∧
    (∀ q, q ∉ l → (forEach l (fun q s => s.sweepOne q) s).queue q = s.queue q) ∧
    (∀ q, (s.qs q).quar = true → (forEach l (fun q s => s.sweepOne q) s).queue q = s.queue q) ∧
    ∀ q ∈ l, (s.qs q).quar = false → s.SweptAt (forEach l (fun q s => s.sweepOne q) s) q := by
  induction l with
  | nil => exact fun s => ⟨State.SweepKept.refl s, fun _ _ => rfl, fun _ _ => rfl, by simp⟩
  | cons x r ih =>
    intro s
    obtain ⟨kept, swept, same, others⟩ := s.sweepOne_sweeps x
    obtain ⟨kept', out, held, rest⟩ := ih (s.sweepOne x)
    have quar (q : Nat) : ((s.sweepOne x).qs q).quar = (s.qs q).quar := kept.1 q
    refine ⟨kept.comp kept', fun q hq => ?_, fun q hq => ?_, fun q hq free => ?_⟩
    · obtain ⟨ne, more⟩ := not_or.mp (fun m => hq (List.mem_cons.mpr m))
      exact (out q more).trans (others q ne)
    · refine (held q ((quar q).trans hq)).trans ?_
      by_cases e : q = x
      · exact e ▸ same (e ▸ hq)
      · exact others q e
    · have later : q ∈ r → s.SweptAt (forEach r (fun q s => s.sweepOne q) (s.sweepOne x)) q := fun m => by
        obtain ⟨⟨n, drops⟩, fresh⟩ := rest q m ((quar q).trans free)
        refine ⟨?_, fun c l e => (kept.aged q c).symm.trans (fresh c l e)⟩
        by_cases e : q = x
        · subst e
          obtain ⟨⟨k, first⟩, _⟩ := swept free
          exact ⟨k + n, by rw [drops, first, List.drop_drop]⟩
        · exact ⟨n, by rw [drops, others q e]⟩
      by_cases m : q ∈ r
      · exact later m
      · have e : q = x := by simpa [m] using hq
        subst e
        obtain ⟨drops, fresh⟩ := swept free
        have unchanged := out q m
        exact ⟨by rw [show (forEach (q :: r) (fun q s => s.sweepOne q) s).queue q = (s.sweepOne q).queue q from unchanged]; exact drops,
          fun c l h => fresh c l (unchanged.symm.trans h)⟩

/-- A key that a finite map does not hold reads as the default. -/
theorem mapGet_of_not_mem {α : Type} (d : Nat → α) (k : Nat) (m : List (Nat × α)) (h : k ∉ m.map (fun c => c.1)) : mapGet d m k = d k := by
  induction m with
  | nil => rfl
  | cons c r ih =>
    obtain ⟨ne, more⟩ := not_or.mp (fun e => h (List.mem_cons.mpr e))
    rw [mapGet, if_neg (Ne.symm ne), ih more]

theorem exec_queueAgeSweep_sweeps (hr : s.running = true) :
    ∃ t, exec .queueAgeSweep s = .next t ∧ s.Only t [.regs, .cnts, .bufLog, .data, .mgt, .key] ∧
      (∀ q, (s.qs q).quar = false → ∃ n, t.queue q = (s.queue q).drop n) ∧
      (∀ q c rest, (s.qs q).quar = false → t.queue q = c :: rest → s.aged q c = false) ∧
      (∀ q, (s.qs q).quar = true → t.queue q = s.queue q) := by
  have run := exec_queueAgeSweep s hr
  have effect : s.ageSweep = forEach s.busyQueues (fun q s => s.sweepOne q) s := rfl
  obtain ⟨_, out, held, swept⟩ := forEach_sweepOne s.busyQueues s
  rw [effect] at run
  generalize forEach s.busyQueues (fun q s => s.sweepOne q) s = x at *
  have idle (q : Nat) (h : q ∉ s.busyQueues) : s.queue q = [] := mapGet_of_not_mem _ q s.data.queues h
  refine ⟨_, run, s.only_confine _ _, fun q free => ?_, fun q c rest free e => ?_, fun q quar => held q quar⟩
  · by_cases m : q ∈ s.busyQueues
    · exact (swept q m free).1
    · exact ⟨0, out q m⟩
  · by_cases m : q ∈ s.busyQueues
    · exact (swept q m free).2 c rest e
    · have empty : x.queue q = [] := (out q m).trans (idle q m)
      exact absurd (empty.symm.trans e) (by simp)

/-! ## The end of a quarantine -/

theorem exec_quarantineEnd_empties {q : Nat} (hq : q < 568) (hr : s.running = true) (quar : (s.qs q).quar = true) :
    ∃ t, exec (.quarantineEnd q) s = .next t ∧ s.Only t [.regs, .cnts, .bufLog, .data, .mgt, .key] ∧ t.queue q = [] ∧
      (t.qs q).quar = false ∧ ∀ r, r ≠ q → t.queue r = s.queue r ∧ t.qs r = s.qs r := by
  have run := exec_quarantineEnd s q (by simpa [Instr.wf] using hq) hr
  have kept := forEach_holdKept (fun c s => s.endCopy q c) (fun c s => s.endCopy_holdKept q c) (s.queue q) (s.setQueue q [])
  have effect : s.reclaim q = (forEach (s.queue q) (fun c s => s.endCopy q c) (s.setQueue q [])).setQs q
      { (forEach (s.queue q) (fun c s => s.endCopy q c) (s.setQueue q [])).qs q with quar := false } := by
    rw [State.reclaim, quar]
    rfl
  rw [effect] at run
  generalize forEach (s.queue q) (fun c s => s.endCopy q c) (s.setQueue q []) = x at *
  exact ⟨_, run, s.only_confine _ _, (kept.queue q).trans (s.queue_setQueue_same q []), congrArg QState.quar (x.qs_setQs_same q _),
    fun r hr => ⟨(kept.queue r).trans (s.queue_setQueue_other hr []), (x.qs_setQs_other hr _).trans (kept.qs r)⟩⟩

/-! ## The audit -/

/-- The audit has made `c` of cell k and left the other cells, the frames and the mark of an audit on the way. -/
def State.CellMade (s t : State) (k : Nat) (c : Cell) : Prop :=
  t.cell k = c ∧ (∀ j, j ≠ k → t.cell j = s.cell j) ∧ t.data.frames = s.data.frames ∧ t.data.audit = s.data.audit

theorem State.cellMade_of_data (h : t.data = s.data) (k : Nat) : s.CellMade t k (s.cell k) := by
  refine ⟨?_, fun j _ => ?_, by rw [h], by rw [h]⟩ <;> rw [State.cell, h, State.cell]

theorem State.setCell_cellMade (s : State) (k : Nat) (c : Cell) : s.CellMade (s.setCell k c) k c :=
  ⟨mapGet_mapSet_same _ s.data.cells k c, fun _ hj => mapGet_mapSet_other _ s.data.cells c hj.symm, rfl, rfl⟩

theorem State.CellMade.comp {k : Nat} {c d : Cell} (h : s.CellMade t k c) (h' : t.CellMade u k d) : s.CellMade u k d := by
  obtain ⟨_, others, frames, audit⟩ := h
  obtain ⟨own, others', frames', audit'⟩ := h'
  exact ⟨own, fun j hj => (others' j hj).trans (others j hj), frames'.trans frames, audit'.trans audit⟩

theorem State.CellMade.data {k : Nat} {c : Cell} (h : s.CellMade t k c) (hd : u.data = t.data) : s.CellMade u k c :=
  h.1 ▸ h.comp (State.cellMade_of_data hd k)

theorem State.bufEvent_data (s : State) (c i : Nat) : (s.bufEvent c i).data = s.data := by
  unfold State.bufEvent
  split <;> rfl

/-- The audit's finding that no live frame holds the chain of a cell. -/
def State.holdsChain (s : State) (h : Nat) : Bool :=
  match s.frame h with
  | some f => f.live && decide (1 ≤ f.ref)
  | none => false

/-- What the audit makes of a cell (R164), by whether the cell took a new strike and whether a live frame holds its chain. -/
def Cell.audited (c : Cell) (dirty live : Bool) : Cell :=
  match c.state with
  | .free => { c with map := true }
  | .quarantined => if c.strike || dirty then { c with map := false } else { Cell.fresh with strike := true }
  | .inChain => if live then { c with map := false } else { Cell.fresh with strike := c.strike }
  | .marked => if live then { c with map := false } else ⟨0, false, 0, .quarantined, c.strike, false⟩

theorem State.mapped_cellMade (s : State) (k : Nat) (b : Bool) :
    s.CellMade (if (s.cell k).map = b then s else (s.setCell k { s.cell k with map := b }).bufEvent 6 k) k { s.cell k with map := b } := by
  split
  · next h =>
    have same : { s.cell k with map := b } = s.cell k := by rw [← h]
    rw [same]
    exact State.cellMade_of_data rfl k
  · exact (s.setCell_cellMade k _).data (State.bufEvent_data _ _ _)

theorem State.auditCell_made (s : State) (dirty : List Nat) (k : Nat) :
    s.CellMade (State.auditCell dirty s k) k ((s.cell k).audited (dirty.contains k) (s.holdsChain (s.cell k).head)) := by
  have unmapped : s.CellMade (if (s.cell k).map then (s.setCell k { s.cell k with map := false }).bufEvent 6 k else s) k
      { s.cell k with map := false } := by
    have h := s.mapped_cellMade k false
    cases m : (s.cell k).map <;> simpa [m] using h
  have remade (u : State) (c : Cell) : u.CellMade (u.setCell k c) k c := u.setCell_cellMade k c
  have logged (u : State) (c i : Nat) : (u.bufEvent c i).data = u.data := u.bufEvent_data c i
  have mapped := s.mapped_cellMade k true
  unfold State.auditCell Cell.audited
  generalize s.cell k = c at unmapped mapped ⊢
  obtain ⟨next, last, head, state, strike, map⟩ := c
  cases state with
  | free => exact mapped
  | quarantined =>
    dsimp only
    split
    · exact unmapped
    · exact unmapped.comp ((remade _ _).data (logged _ _ _))
  | inChain =>
    show s.CellMade (if s.holdsChain head then _ else _) k (if s.holdsChain head then _ else _)
    split
    · exact unmapped
    · exact (remade _ _).data (logged _ _ _)
  | marked =>
    show s.CellMade (if s.holdsChain head then _ else _) k (if s.holdsChain head then _ else _)
    split
    · exact unmapped
    · exact (remade _ _).data (logged _ _ _)

theorem State.holdsChain_congr (h : t.data.frames = s.data.frames) (f : Nat) : t.holdsChain f = s.holdsChain f := by
  rw [State.holdsChain, State.frame, h, State.holdsChain, State.frame]

/-- The audit visits each cell of its list: one that stands in it once is made as R164 says, one outside it is left. -/
theorem foldl_auditCell (dirty : List Nat) (k : Nat) : ∀ (l : List Nat) (s : State),
    (l.foldl (State.auditCell dirty) s).data.audit = s.data.audit ∧
    (l.count k = 0 → (l.foldl (State.auditCell dirty) s).cell k = s.cell k) ∧
    (l.count k = 1 → (l.foldl (State.auditCell dirty) s).cell k = (s.cell k).audited (dirty.contains k) (s.holdsChain (s.cell k).head)) := by
  intro l
  induction l with
  | nil => exact fun s => ⟨rfl, fun _ => rfl, by simp⟩
  | cons j r ih =>
    intro s
    obtain ⟨own, others, frames, audit⟩ := s.auditCell_made dirty j
    obtain ⟨audit', left, visited⟩ := ih (State.auditCell dirty s j)
    refine ⟨audit'.trans audit, fun h => ?_, fun h => ?_⟩
    · rw [List.count_cons] at h
      have ne : k ≠ j := by rintro rfl; simp at h
      exact (left (by omega)).trans (others k ne)
    · by_cases e : j = k
      · subst e
        rw [List.count_cons_self] at h
        exact (left (by omega)).trans own
      · rw [List.count_cons_of_ne e] at h
        refine (visited h).trans ?_
        rw [others k (Ne.symm e), State.holdsChain_congr frames]

/-- The one entry of a key in a finite map. -/
theorem mapGet_of_filter {α : Type} (d : Nat → α) (m : List (Nat × α)) {k : Nat} {v : α} (h : m.filter (fun x => x.1 == k) = [(k, v)]) :
    mapGet d m k = v ∧ (m.map (fun c => c.1)).count k = 1 := by
  constructor
  · have found := mapGet_filter d (fun j => j == k) m k
    rw [h] at found
    simpa [mapGet] using found.symm
  · rw [List.count_eq_countP, List.countP_map, List.countP_eq_length_filter]
    exact congrArg List.length h

theorem exec_bufferAudit_audits {dirty : List Nat} (hd : dirty.all (fun k => decide (k < cellCount)) = true) (hr : s.running = true) :
    ∃ t, exec (.bufferAudit dirty) s = .next t ∧ s.Only t [.regs, .cnts, .bufLog, .data, .mgt, .key] ∧ t.data.audit = true ∧
      ∀ k c, s.data.cells.filter (fun x => x.1 == k) = [(k, c)] → t.cell k = c.audited (dirty.contains k) (s.holdsChain c.head) := by
  have run := exec_bufferAudit s dirty hd hr
  refine ⟨_, run, s.only_confine _ _, ?_, fun k c one => ?_⟩
  · exact (foldl_auditCell dirty 0 _ _).1
  · obtain ⟨cell, once⟩ := mapGet_of_filter (fun _ => .fresh) s.data.cells one
    have made := (foldl_auditCell dirty k (s.data.cells.map (fun c => c.1)) { s with data := { s.data with audit := true } }).2.2 once
    have now : ({ s with data := { s.data with audit := true } } : State).cell k = c := cell
    rw [now] at made
    exact made

/-! ## The end of the audit -/

/-- The audit has ended and FREE_CELLS has the count it found. -/
def State.auditCorrected (s : State) : State :=
  (({ s with data := { s.data with audit := false } } : State).setFld F.BUF_STATUS_FREE_CELLS s.tally).raiseFlag F.BUF_AUDIT_COUNT_FIXED
    (beBytes 4 s.tally)

theorem State.auditCorrected_only (s : State) : s.Only s.auditCorrected [.regs, .cnts, .data, .mgt, .key] :=
  State.Only.comp (t := ({ s with data := { s.data with audit := false } } : State).setFld F.BUF_STATUS_FREE_CELLS s.tally) rfl
    ((State.raiseFlag_only _ _ _).mono _ (by decide))

theorem State.auditCorrected_fld (s : State) {g : Fld} (hg : g.lo ≤ g.hi) (hk : g.key ∉ journalKeys) (hs : K.BUF_STATUS ≠ g.key)
    (h : K.BUF_AUDIT ≠ g.key ∨ g.hi < 18) : s.auditCorrected.fld g = s.fld g := by
  have before : (({ s with data := { s.data with audit := false } } : State).setFld F.BUF_STATUS_FREE_CELLS s.tally).fld g = s.fld g :=
    State.fld_setFld_key _ _ g _ hs
  rcases h with h | h
  · refine ((State.raiseFlag_regsBut _ _ _).fld ?_).trans before
    exact fun m => (List.mem_cons.mp m).elim (fun e => h e.symm) hk
  · by_cases e : K.BUF_AUDIT = g.key
    · exact (State.raiseFlag_fld _ F.BUF_AUDIT_COUNT_FIXED g _ (by decide) (by decide) (by decide) e hg (Or.inr h)).trans before
    · refine ((State.raiseFlag_regsBut _ _ _).fld ?_).trans before
      exact fun m => (List.mem_cons.mp m).elim (fun e' => e e'.symm) hk

theorem State.auditCorrected_count (s : State) : s.auditCorrected.fld F.BUF_STATUS_FREE_CELLS = s.tally := by
  have small : s.tally < 2 ^ 18 := Nat.lt_of_le_of_lt (Nat.sub_le _ _) (by decide)
  refine ((State.raiseFlag_regsBut _ _ _).fld (by decide)).trans ((State.fld_setFld_same _ _ _ (by decide) (by decide)).trans ?_)
  exact Nat.mod_eq_of_lt small

/-- The reaction to the number of cells in quarantine, at the end of an audit. -/
def State.judgeQuar (s : State) : State :=
  if s.fld F.BUF_AUDIT_QUAR_CELLS ≤ s.fld F.BUF_CFG_QUAR_LIMIT then s
  else if (s.raiseFlag F.BUF_AUDIT_LIMIT_HIT (beBytes 4 (s.fld F.BUF_AUDIT_QUAR_CELLS))).flag F.SAF_CFG_QUAR_FATAL then
    (s.raiseFlag F.BUF_AUDIT_LIMIT_HIT (beBytes 4 (s.fld F.BUF_AUDIT_QUAR_CELLS))).fatalFault 0x20 (s.fld F.BUF_AUDIT_QUAR_CELLS)
  else (s.raiseFlag F.BUF_AUDIT_LIMIT_HIT (beBytes 4 (s.fld F.BUF_AUDIT_QUAR_CELLS))).safEvent 0x20 (s.fld F.BUF_AUDIT_QUAR_CELLS)

theorem State.auditEnd_cases (s : State) : s.auditEnd = if !s.data.audit then s
    else (if s.tally = s.freeCells then { s with data := { s.data with audit := false } } else s.auditCorrected).judgeQuar := rfl

/-- An audit on the way ends with FREE_CELLS corrected, where few cells are in quarantine. -/
theorem State.auditEnd_eq (s : State) (ha : s.data.audit = true) (off : s.tally ≠ s.freeCells)
    (few : s.fld F.BUF_AUDIT_QUAR_CELLS ≤ s.fld F.BUF_CFG_QUAR_LIMIT) : s.auditEnd = s.auditCorrected := by
  have limit : s.auditCorrected.fld F.BUF_AUDIT_QUAR_CELLS ≤ s.auditCorrected.fld F.BUF_CFG_QUAR_LIMIT := by
    rw [s.auditCorrected_fld (by decide) (by decide) (by decide) (.inr (by decide)),
      s.auditCorrected_fld (by decide) (by decide) (by decide) (.inl (by decide))]
    exact few
  rw [s.auditEnd_cases, ha, if_neg (by decide), if_neg off]
  exact if_pos limit

theorem exec_auditEnd_corrects (hr : s.running = true) (ha : s.data.audit = true) (off : s.tally ≠ s.freeCells)
    (few : s.fld F.BUF_AUDIT_QUAR_CELLS ≤ s.fld F.BUF_CFG_QUAR_LIMIT) :
    ∃ t, exec .auditEnd s = .next t ∧ s.Only t [.regs, .cnts, .safLog, .data, .ports, .mgt, .edge, .twin, .key, .saf, .out] ∧
      t.data.audit = false ∧ t.fld F.BUF_STATUS_FREE_CELLS = s.tally ∧ t.flag F.BUF_AUDIT_COUNT_FIXED = true := by
  have run := exec_auditEnd s hr
  have only := s.auditCorrected_only
  rw [s.auditEnd_eq ha off few, only.confine _ (by decide)] at run
  refine ⟨_, run, only.mono _ (by decide), ?_, s.auditCorrected_count, State.raiseFlag_flag _ _ _ rfl (by decide) (by decide)⟩
  have data (u : State) (f : Fld) (d : List Byte) : (u.raiseFlag f d).data = u.data := by
    unfold State.raiseFlag
    split <;> rfl
  exact congrArg DataSt.audit (data _ _ _)

end

/-! ## The obligation -/

/-- Settles O19: the sweep takes heads alone from each queue that is not quarantined until one is not aged; the queue whose quarantine
ends gives up its copies, which touches no queue; the audit makes each cell of what it finds of that cell alone. -/
theorem queuesAreKeptClean : Obligations.QueuesAreKeptClean := by
  unfold Obligations.QueuesAreKeptClean
  refine ⟨fun s hr => exec_queueAgeSweep_sweeps hr, fun s q hq hr quar => exec_quarantineEnd_empties hq hr quar,
    fun s dirty hd hr => ⟨?_, fun ha off few => exec_auditEnd_corrects hr ha off few⟩⟩
  obtain ⟨t, run, only, audit, cells⟩ := exec_bufferAudit_audits hd hr
  refine ⟨t, run, only, audit, fun k c one => ?_⟩
  rw [cells k c one]
  refine ⟨fun state map strike clean => ?_, fun state map kept => ?_, fun state dead => ?_, fun state map => ?_⟩
  · simp [Cell.audited, state, strike, clean]
  · have same : { c with map := false } = c := by rw [← map]
    have stays : c.strike || dirty.contains k := by simpa using kept
    simp only [Cell.audited, state, stays, if_true]
    rw [← state]
    exact same
  · have none : s.holdsChain c.head = false := by
      unfold State.holdsChain
      cases f : s.frame c.head with
      | none => rfl
      | some f' => simp [dead f' f]
    simp [Cell.audited, state, none]
  · simp [Cell.audited, state]

end Sys2Proof.Machine
end

section
/-!
SUPPORT. A command message that leaves the queue changes nothing that the checks of a message read (spec/16, R456): the translation of a
record that RECORD_APPLY carries commutes with taking the message, so that its record is bad before exactly where it is bad after.
-/
namespace Sys2Proof.Machine

/-- The message has left the queue, with no acknowledgement awaited. -/
def State.cmdTaken (s : State) (r : List QCmd) : State := { s with mgt := { s.mgt with cmdQ := r }, twin := { s.twin with acks := [] } }

section
variable {s : State} {r : List QCmd}

/-! ## What a message taken from the queue leaves to read -/

@[simp] theorem State.cmdTaken_reg (k : Nat) : (s.cmdTaken r).reg k = s.reg k := rfl
@[simp] theorem State.cmdTaken_fld (f : Fld) : (s.cmdTaken r).fld f = s.fld f := rfl
@[simp] theorem State.cmdTaken_flag (f : Fld) : (s.cmdTaken r).flag f = s.flag f := rfl
@[simp] theorem State.cmdTaken_pair (lo hi : Nat) : (s.cmdTaken r).pair lo hi = s.pair lo hi := rfl
@[simp] theorem State.cmdTaken_regs : (s.cmdTaken r).regs = s.regs := rfl
@[simp] theorem State.cmdTaken_data : (s.cmdTaken r).data = s.data := rfl

/-! ## What commutes with taking a message -/

@[simp] theorem State.setReg_cmdTaken (k : Nat) (w : Word) : (s.cmdTaken r).setReg k w = (s.setReg k w).cmdTaken r := rfl
@[simp] theorem State.setNat_cmdTaken (s : State) (k v : Nat) : (s.cmdTaken r).setNat k v = (s.setNat k v).cmdTaken r := rfl
@[simp] theorem State.setFld_cmdTaken (f : Fld) (v : Nat) : (s.cmdTaken r).setFld f v = (s.setFld f v).cmdTaken r := rfl
@[simp] theorem State.inc_cmdTaken (a : Nat) : (s.cmdTaken r).inc a = (s.inc a).cmdTaken r := rfl
@[simp] theorem State.hold_cmdTaken (k : Nat) (w : Word) : (s.cmdTaken r).hold k w = (s.hold k w).cmdTaken r := rfl
@[simp] theorem State.unhold_cmdTaken (k : Nat) : (s.cmdTaken r).unhold k = (s.unhold k).cmdTaken r := rfl
@[simp] theorem State.putEntry_cmdTaken (e : JEntry) : (s.cmdTaken r).putEntry e = (s.putEntry e).cmdTaken r := rfl
@[simp] theorem State.requestSign_cmdTaken (k : Nat) (w : SignFor) (p : List Byte) :
    (s.cmdTaken r).requestSign k w p = (s.requestSign k w p).cmdTaken r := rfl

theorem ite_cmdTaken (c : Prop) [Decidable c] (a b : State) : (if c then a.cmdTaken r else b.cmdTaken r) = (if c then a else b).cmdTaken r :=
  (apply_ite (fun t => State.cmdTaken t r) c a b).symm

theorem forEach_cmdTaken {α : Type} (f : α → State → State) (hf : ∀ x s, f x (State.cmdTaken s r) = (f x s).cmdTaken r) (l : List α) :
    ∀ s : State, forEach l f (s.cmdTaken r) = (forEach l f s).cmdTaken r := by
  induction l with
  | nil => exact fun _ => rfl
  | cons x l ih => exact fun s => (congrArg (forEach l f) (hf x s)).trans (ih _)

@[simp] theorem State.setFlds_cmdTaken (l : List (Fld × Nat)) : ∀ s : State, (s.cmdTaken r).setFlds l = (s.setFlds l).cmdTaken r := by
  induction l with
  | nil => exact fun _ => rfl
  | cons c l ih => exact fun s => ih (s.setFld c.1 c.2)

@[simp] theorem State.setNats_cmdTaken (l : List (Nat × Nat)) : ∀ s : State, (s.cmdTaken r).setNats l = (s.setNats l).cmdTaken r := by
  induction l with
  | nil => exact fun _ => rfl
  | cons c l ih => exact fun s => ih (s.setNat c.1 c.2)

@[simp] theorem State.holdNats_cmdTaken (l : List (Nat × Nat)) : ∀ s : State, (s.cmdTaken r).holdNats l = (s.holdNats l).cmdTaken r := by
  induction l with
  | nil => exact fun _ => rfl
  | cons c l ih => exact fun s => ih (s.hold c.1 (BitVec.ofNat 32 c.2))

@[simp] theorem State.commitHeld_cmdTaken (s : State) (k : Nat) : (s.cmdTaken r).commitHeld k = (s.commitHeld k).cmdTaken r := by
  have held : (s.cmdTaken r).heldOr k = s.heldOr k := rfl
  rw [State.commitHeld, held, State.commitHeld]
  rfl

@[simp] theorem State.commitAll_cmdTaken (l : List Nat) : ∀ s : State, (s.cmdTaken r).commitAll l = (s.commitAll l).cmdTaken r := by
  induction l with
  | nil => exact fun _ => rfl
  | cons k l ih => exact fun s => (congrArg (fun t => State.commitAll t l) (s.commitHeld_cmdTaken k)).trans (ih _)

/-- A statement stored, with its signature asked for. -/
def State.statementAsked (s : State) (e : JEntry) : State :=
  (({ s with mgt := { s.mgt with statements := (s.statementOf e :: s.mgt.statements).take 64 } } : State).setPair
    K.JRN_CP_LO K.JRN_CP_HI e.jseq).requestSign 1 (.checkpoint e.jseq) (s.statementOf e).payload

@[simp] theorem State.putStatement_cmdTaken (e : JEntry) : (s.cmdTaken r).putStatement e = (s.putStatement e).cmdTaken r := by
  have eq (u : State) : u.putStatement e =
      if (u.statementAsked e).flag (F.LMS_STATUS_READY 1) then u.statementAsked e else (u.statementAsked e).setFld F.JRN_STATUS_SIGN_WAIT 1 := rfl
  have asked : (s.cmdTaken r).statementAsked e = (s.statementAsked e).cmdTaken r := rfl
  rw [eq s, eq (s.cmdTaken r), asked, State.cmdTaken_flag, State.setFld_cmdTaken, ite_cmdTaken]

@[simp] theorem State.checkpoint_cmdTaken (o op q : Nat) : (s.cmdTaken r).checkpoint o op q = (s.checkpoint o op q).cmdTaken r := by
  rw [State.checkpoint_eq, State.checkpoint_eq, ← State.putStatement_cmdTaken, ← State.putEntry_cmdTaken]
  rfl

@[simp] theorem State.appendGroup_cmdTaken (o op q : Nat) (l : List (Nat × Nat × List Byte)) :
    (s.cmdTaken r).appendGroup o op q l = (s.appendGroup o op q l).cmdTaken r := by
  have held : (s.cmdTaken r).journalHeld = s.journalHeld := rfl
  have next : (s.cmdTaken r).nextJseq = s.nextJseq := rfl
  have entries := forEach_cmdTaken (r := r) (fun (e : Nat × Nat × List Byte) s => s.appendRaw e.1 o op q e.2.1 e.2.2) (fun _ _ => rfl) l s
  unfold State.appendGroup
  dsimp only
  rw [held, next, entries]
  split
  · rfl
  · split
    · exact State.checkpoint_cmdTaken _ _ _
    · rfl

@[simp] theorem State.mcSend_cmdTaken (f : LaneFrame) : (s.cmdTaken r).mcSend f = (s.mcSend f).cmdTaken r :=
  ite_cmdTaken ((decide (s.mgt.mcLane.length < 64) && s.mgt.mcWait.isEmpty) = true) { s with mgt := { s.mgt with mcLane := s.mgt.mcLane ++ [f] } }
    { s with mgt := { s.mgt with mcWait := s.mgt.mcWait ++ [f] } }

/-- An event stored among those that wait to be acknowledged, and its frame. -/
def State.eventQueued (s : State) (c : Nat) (b : List Byte) : State :=
  { s with mgt := { s.mgt with events := s.mgt.events ++ [⟨s.mgt.evSeq, c, b⟩], evSeq := (s.mgt.evSeq + 1) % 0x100000000 } }

def State.eventSent (s : State) (e : EvMsg) : State :=
  if s.fld F.MGT_CFG_EVT_PORT ≠ 127 ∧ s.pair K.NM_SA_LO K.NM_SA_HI ≠ 0 ∧ s.lcState < 4 then s.mcSend (s.eventFrame (s.eventMessage e)) else s

@[simp] theorem State.queueEvent_cmdTaken (c : Nat) (b : List Byte) : (s.cmdTaken r).queueEvent c b = (s.queueEvent c b).cmdTaken r := by
  have long : (s.cmdTaken r).mgt.events = s.mgt.events := rfl
  have eq (u : State) : u.queueEvent c b = if 256 ≤ u.mgt.events.length then (u.inc (C.mgt 8)).setFld F.MGT_CFG_EVT_LOST 1
      else (u.eventQueued c b).eventSent ⟨u.mgt.evSeq, c, b⟩ := rfl
  have sent (u : State) (e : EvMsg) : (u.cmdTaken r).eventSent e = (u.eventSent e).cmdTaken r := by
    unfold State.eventSent
    rw [← ite_cmdTaken, ← State.mcSend_cmdTaken]
    rfl
  rw [eq s, eq (s.cmdTaken r), long, ← ite_cmdTaken, ← sent]
  rfl

@[simp] theorem State.raise_cmdTaken (c : Nat) (d : List Byte) : (s.cmdTaken r).raise c d = (s.raise c d).cmdTaken r := by
  have effect : ((s.cmdTaken r).append 5 255 c 0 0 d).inc (C.mgt 7) = ((s.append 5 255 c 0 0 d).inc (C.mgt 7)).cmdTaken r := by
    rw [State.append, State.appendGroup_cmdTaken]
    rfl
  unfold State.raise
  dsimp only
  rw [effect, State.queueEvent_cmdTaken]
  rfl

@[simp] theorem State.raiseFlag_cmdTaken (f : Fld) (d : List Byte) : (s.cmdTaken r).raiseFlag f d = (s.raiseFlag f d).cmdTaken r := by
  unfold State.raiseFlag
  simp only [State.cmdTaken_flag, State.setFld_cmdTaken, State.raise_cmdTaken]
  exact ite_cmdTaken _ _ _

@[simp] theorem State.wvrEvent_cmdTaken (b : Nat) : (s.cmdTaken r).wvrEvent b = (s.wvrEvent b).cmdTaken r := State.raiseFlag_cmdTaken _ _

/-! ## Records of Basic form -/

@[simp] theorem State.clsWriteWord_cmdTaken (j : Nat) (m d : Word) : (s.cmdTaken r).clsWriteWord j m d = (s.clsWriteWord j m d).cmdTaken r := by
  have index : (s.cmdTaken r).clsIndex = s.clsIndex := rfl
  have entry (i : Nat) : (s.cmdTaken r).tcamAt i = s.tcamAt i := rfl
  have stored (i : Nat) (e : TcamEntry) : (s.cmdTaken r).setTcam i e = (s.setTcam i e).cmdTaken r := rfl
  unfold State.clsWriteWord
  simp only [index, entry, stored, State.raiseFlag_cmdTaken, ite_cmdTaken]

@[simp] theorem State.clsWriteCtrl_cmdTaken (m d : Word) : (s.cmdTaken r).clsWriteCtrl m d = (s.clsWriteCtrl m d).cmdTaken r := by
  have index : (s.cmdTaken r).clsIndex = s.clsIndex := rfl
  have entry (i : Nat) : (s.cmdTaken r).tcamAt i = s.tcamAt i := rfl
  have stored (i : Nat) (e : TcamEntry) : (s.cmdTaken r).setTcam i e = (s.setTcam i e).cmdTaken r := rfl
  have retiring : (s.cmdTaken r).retiring = s.retiring := rfl
  unfold State.clsWriteCtrl
  simp only [index, entry, stored, retiring, State.raiseFlag_cmdTaken, ite_cmdTaken]

theorem State.trRule_cmdTaken (w : List Nat) : (s.cmdTaken r).trRule w = (s.trRule w).cmdTaken r := by
  unfold State.trRule
  simp only [State.cmdTaken_reg, State.setNat_cmdTaken, State.clsWriteCtrl_cmdTaken, forEach_cmdTaken, State.clsWriteWord_cmdTaken,
    State.setReg_cmdTaken, implies_true]

theorem State.trStatic_cmdTaken (w : List Nat) : (s.cmdTaken r).trStatic w = (s.trStatic w).cmdTaken r := by
  have key : (s.cmdTaken r).staticKey w = s.staticKey w := rfl
  have find (a b : Nat) : (s.cmdTaken r).fdbFind a b = s.fdbFind a b := rfl
  have free (u : State) (a b : Nat) : (u.cmdTaken r).fdbFree a b = u.fdbFree a b := rfl
  have entry (u : State) (i : Nat) : (u.cmdTaken r).fdbAt i = u.fdbAt i := rfl
  have stored (u : State) (i : Nat) (e : Option FdbEntry) : (u.cmdTaken r).setFdb i e = (u.setFdb i e).cmdTaken r := rfl
  unfold State.trStatic
  simp only [key, find, State.cmdTaken_data, State.setNats_cmdTaken, ite_cmdTaken, free, entry, stored]
  split <;> rfl

theorem State.trVlan_cmdTaken (w : List Nat) : (s.cmdTaken r).trVlan w = (s.trVlan w).cmdTaken r := by
  unfold State.trVlan
  rw [State.unhold_cmdTaken, State.unhold_cmdTaken, State.unhold_cmdTaken, State.setNats_cmdTaken]

theorem State.trGptp_cmdTaken (w : List Nat) : (s.cmdTaken r).trGptp w = (s.trGptp w).cmdTaken r := by
  unfold State.trGptp
  rw [State.setFlds_cmdTaken]

theorem State.trZone_cmdTaken (w : List Nat) : (s.cmdTaken r).trZone w = (s.trZone w).cmdTaken r := by
  unfold State.trZone
  dsimp only
  split <;> rw [State.setFld_cmdTaken]

theorem State.trMember_cmdTaken (w : List Nat) : (s.cmdTaken r).trMember w = (s.trMember w).cmdTaken r := by
  unfold State.trMember
  rw [State.setNats_cmdTaken]

theorem State.trLee_cmdTaken (n : Nat) (w : List Nat) : (s.cmdTaken r).trLee n w = (s.trLee n w).cmdTaken r := by
  unfold State.trLee
  split
  · rfl
  · split <;> rfl

theorem State.trLag_cmdTaken (w : List Nat) : (s.cmdTaken r).trLag w = (s.trLag w).cmdTaken r := by
  unfold State.trLag
  simp only [State.setFlds_cmdTaken]
  exact forEach_cmdTaken _ (fun _ s => s.setNat_cmdTaken _ _) _ _

theorem State.trLinTable_cmdTaken (w : List Nat) : (s.cmdTaken r).trLinTable true w = (s.trLinTable true w).cmdTaken r := by
  unfold State.trLinTable
  simp only [Bool.true_or, if_true]
  rw [forEach_cmdTaken _ (fun _ _ => rfl)]
  rfl

theorem State.putSa_cmdTaken (p i : Nat) (l : List Word) : (s.cmdTaken r).putSa p i l = (s.putSa p i l).cmdTaken r :=
  forEach_cmdTaken _ (fun _ _ => rfl) _ s

theorem State.commitSa_cmdTaken (p i : Nat) (w : Word) : (s.cmdTaken r).commitSa p i w = (s.commitSa p i w).cmdTaken r := by
  have held : (s.cmdTaken r).heldOr = s.heldOr := rfl
  have receiving (u : State) : (u.cmdTaken r).receiving p = u.receiving p := rfl
  have freed := forEach_cmdTaken (r := r) (fun k s => State.unhold s k) (fun _ _ => rfl) (saKeysOf p i) s
  unfold State.commitSa
  dsimp only
  rw [held, freed, receiving]
  split
  · rfl
  · exact State.putSa_cmdTaken _ _ _

theorem State.trSa_cmdTaken (w : List Nat) : (s.cmdTaken r).trSa w = (s.trSa w).cmdTaken r := by
  unfold State.trSa
  simp only [State.holdNats_cmdTaken, State.commitSa_cmdTaken]

@[simp] theorem State.commitHeader_cmdTaken (i : Nat) : (s.cmdTaken r).commitHeader i = (s.commitHeader i).cmdTaken r := by
  have stored (n : Nat) (x : TwoPhase) : (s.cmdTaken r).setTwoPhase n x = (s.setTwoPhase n x).cmdTaken r := by
    unfold State.setTwoPhase
    split <;> rfl
  exact stored _ _

@[simp] theorem State.countSlots_cmdTaken : (s.cmdTaken r).countSlots = s.countSlots.cmdTaken r := by
  have listed (a : Nat) : (s.cmdTaken r).listedEntries a = s.listedEntries a := rfl
  simp only [State.countSlots, State.setFld_cmdTaken, State.cmdTaken_fld, listed]

theorem State.setPend_cmdTaken (i type source : Nat) (key : List Byte) :
    (s.cmdTaken r).setPend i type source key = (s.setPend i type source key).cmdTaken r := by
  have slots (n : Nat) (k : KeySlot) : (s.cmdTaken r).setSlot n k = (s.setSlot n k).cmdTaken r := rfl
  have slot (n : Nat) : (s.cmdTaken r).slot n = s.slot n := rfl
  unfold State.setPend
  simp only [slots, slot, State.cmdTaken_fld, State.setFlds_cmdTaken, State.commitHeader_cmdTaken, State.countSlots_cmdTaken]

theorem State.promote_cmdTaken (i : Nat) : (s.cmdTaken r).promote i = (s.promote i).cmdTaken r := by
  have slots (u : State) (n : Nat) (k : KeySlot) : (u.cmdTaken r).setSlot n k = (u.setSlot n k).cmdTaken r := rfl
  have slot (u : State) (n : Nat) : (u.cmdTaken r).slot n = u.slot n := rfl
  unfold State.promote
  dsimp only
  rw [slot, slots, State.cmdTaken_fld, State.cmdTaken_fld, State.cmdTaken_fld, State.setFlds_cmdTaken, State.setReg_cmdTaken,
    State.commitHeader_cmdTaken, slot, slots, State.countSlots_cmdTaken]

theorem State.trSlot_cmdTaken (w : List Nat) : (s.cmdTaken r).trSlot w = (s.trSlot w).cmdTaken r := by
  have key (n k x : Nat) : (s.cmdTaken r).sakKey n k x = s.sakKey n k x := rfl
  unfold State.trSlot State.slotDerive
  simp only [State.cmdTaken_fld, key, State.setPend_cmdTaken, State.promote_cmdTaken, ite_cmdTaken]

@[simp] theorem State.setImage_cmdTaken (i : Nat) (b : List Byte) : (s.cmdTaken r).setImage i b = (s.setImage i b).cmdTaken r :=
  forEach_cmdTaken _ (fun _ _ => rfl) _ s

@[simp] theorem State.pduClear_cmdTaken (i : Nat) : (s.cmdTaken r).pduClear i = (s.pduClear i).cmdTaken r := by
  unfold State.pduClear
  rw [State.setImage_cmdTaken]
  rfl

@[simp] theorem State.judgeSender_cmdTaken (k : Nat) : (s.cmdTaken r).judgeSender k = (s.judgeSender k).cmdTaken r := by
  have sent : (s.cmdTaken r).sentBy k = s.sentBy k := rfl
  unfold State.judgeSender
  simp only [sent, State.cmdTaken_flag, State.setFlds_cmdTaken, State.wvrEvent_cmdTaken, ite_cmdTaken]

theorem State.commitPdu_cmdTaken (i : Nat) : (s.cmdTaken r).commitPdu i = (s.commitPdu i).cmdTaken r := by
  have sender (u : State) : (u.cmdTaken r).pduSender i = u.pduSender i := rfl
  have deadline (u : State) : (u.cmdTaken r).startDeadline i = (u.startDeadline i).cmdTaken r := rfl
  have due (u : State) (d : Option Nat) : (u.cmdTaken r).setDue i d = (u.setDue i d).cmdTaken r := rfl
  have first (u : State) (t : Nat) : (u.cmdTaken r).firstDue i t = u.firstDue i t := rfl
  have now (u : State) : (u.cmdTaken r).nowNs = u.nowNs := rfl
  unfold State.commitPdu
  simp only [State.cmdTaken_reg, sender, State.commitAll_cmdTaken, State.setFld_cmdTaken, State.pduClear_cmdTaken, ite_cmdTaken, deadline,
    first, now, due, State.judgeSender_cmdTaken]

theorem State.trPdu_cmdTaken (w : List Nat) : (s.cmdTaken r).trPdu w = (s.trPdu w).cmdTaken r := by
  unfold State.trPdu
  simp only [State.holdNats_cmdTaken, State.commitPdu_cmdTaken, State.setImage_cmdTaken, ite_cmdTaken]

theorem State.commitRoute_cmdTaken (n : Nat) (w : Word) : (s.cmdTaken r).commitRoute n w = (s.commitRoute n w).cmdTaken r := by
  have held (k : Nat) : (s.cmdTaken r).heldOr k = s.heldOr k := rfl
  have owner : (s.cmdTaken r).routeOwner n = s.routeOwner n := rfl
  have sends (i : Nat) : (s.cmdTaken r).isTxPdu i = s.isTxPdu i := rfl
  have zone (i : Nat) : (s.cmdTaken r).pduZone i = s.pduZone i := rfl
  unfold State.commitRoute
  simp only [held, owner, sends, zone, State.cmdTaken_flag, State.wvrEvent_cmdTaken, State.commitAll_cmdTaken, State.setReg_cmdTaken,
    ite_cmdTaken]

theorem State.trRoute_cmdTaken (w : List Nat) : (s.cmdTaken r).trRoute w = (s.trRoute w).cmdTaken r := by
  unfold State.trRoute
  dsimp only
  split
  · rfl
  · simp only [State.holdNats_cmdTaken, State.commitRoute_cmdTaken]

/-- Whether a record that RECORD_APPLY carries clashes is not for the queue of messages to say. -/
theorem State.clashes_cmdTaken (x : Rec) : (s.cmdTaken r).clashes true [x] [] x = s.clashes true [x] [] x := rfl

/-- The records whose clashes read the configuration have a translation that commutes with taking a message. -/
theorem State.translated_cmdTaken (x : Rec) : ((s.cmdTaken r).translate true x.number x.words).clashes true [x] [] x =
    (s.translate true x.number x.words).clashes true [x] [] x := by
  have same {f : State → List Nat → State} (h : f (s.cmdTaken r) x.words = (f s x.words).cmdTaken r) :
      (f (s.cmdTaken r) x.words).clashes true [x] [] x = (f s x.words).clashes true [x] [] x := by rw [h, State.clashes_cmdTaken]
  by_cases n : x.number ∈ [0x110, 0x210, 0x220, 0x230, 0x401, 0x483, 0x510, 0x530, 0x700, 0x711, 0x780, 0x843, 0x910, 0x920, 0x930, 0x980]
  · simp only [List.mem_cons, List.not_mem_nil, or_false] at n
    rcases n with n | n | n | n | n | n | n | n | n | n | n | n | n | n | n | n <;> rw [n] <;> simp only [State.translate]
    · exact same (State.trRule_cmdTaken _)
    · exact same (State.trVlan_cmdTaken _)
    · exact same (State.trStatic_cmdTaken _)
    · exact same (State.trLag_cmdTaken _)
    · exact same (State.trGptp_cmdTaken _)
    · exact same (f := fun s w => s.trLinTable true w) (State.trLinTable_cmdTaken _)
    · exact same (State.trPdu_cmdTaken _)
    · exact same (State.trRoute_cmdTaken _)
    · exact same (State.trZone_cmdTaken _)
    · exact same (State.trSa_cmdTaken _)
    · exact same (State.trSlot_cmdTaken _)
    · exact same (State.trMember_cmdTaken _)
    · exact same (f := fun s w => s.trLee 0x910 w) (State.trLee_cmdTaken _ _)
    · exact same (f := fun s w => s.trLee 0x920 w) (State.trLee_cmdTaken _ _)
    · exact same (f := fun s w => s.trLee 0x930 w) (State.trLee_cmdTaken _ _)
    · have alone (u v : State) : u.clashes true [x] [] x = v.clashes true [x] [] x := by
        simp only [State.clashes, n]
      exact alone _ _
  · have quiet (u : State) : u.clashes true [x] [] x = false := by
      simp only [List.mem_cons, List.not_mem_nil, or_false, not_or] at n
      unfold State.clashes
      split <;> simp_all
    rw [quiet, quiet]

theorem State.recordBad_cmdTaken (x : Rec) : (s.cmdTaken r).recordBad x = s.recordBad x := by
  have unit : (s.cmdTaken r).unitId = s.unitId := rfl
  unfold State.recordBad
  rw [unit, State.translated_cmdTaken]

end
end Sys2Proof.Machine
end

section
/-!
SUPPORT. Commands that are admitted (spec/16, R451 to R457): what a command message joins, what each check does, and what the journal and
LAST_SEQ hold of a command refused or accepted.
-/
namespace Sys2Proof.Machine

/-! ## Numbers of the bodies -/

theorem beNat_lt (l : List Byte) : beNat l < 256 ^ l.length := by
  have bound : ∀ (l : List Byte) (a : Nat), l.foldl (fun a b => a * 256 + b.toNat) a < (a + 1) * 256 ^ l.length := by
    intro l
    induction l with
    | nil => exact fun a => by simp
    | cons b r ih =>
      intro a
      have byte : b.toNat < 256 := b.isLt
      refine Nat.lt_of_lt_of_le (ih (a * 256 + b.toNat)) ?_
      rw [List.length_cons, pow_succ, ← Nat.mul_assoc, Nat.mul_right_comm]
      exact Nat.mul_le_mul_right _ (by omega)
  simpa [beNat] using bound l 0

theorem beAt_lt (l : List Byte) (off n : Nat) : beAt l off n < 256 ^ n := by
  have short : (slice l off n).length ≤ n := by simp [slice]
  exact Nat.lt_of_lt_of_le (beNat_lt _) (Nat.pow_le_pow_right (by decide) short)

section
variable (s : State)

/-! ## What a response changes -/

theorem State.respond_only (ch : Chan) (msg : List Byte) : s.Only (s.respond ch msg) [.mgt] := by
  unfold State.respond State.mcSend
  split
  · rfl
  · dsimp only
    split <;> rfl

theorem State.respond_keeps {α : Type} (ch : Chan) (msg : List Byte) (g : MgtSt → α) (spi : ∀ m r, g { m with respSpi := r } = g m)
    (lane : ∀ m l, g { m with mcLane := l } = g m) (wait : ∀ m l, g { m with mcWait := l } = g m) :
    g (s.respond ch msg).mgt = g s.mgt := by
  unfold State.respond State.mcSend
  split
  · exact spi _ _
  · dsimp only
    split
    · exact lane _ _
    · exact wait _ _

theorem State.raiseGen_mgt (c : Cmd) : (s.raiseGen c).mgt = s.mgt := by
  unfold State.raiseGen State.writeRec State.setTwoPhase
  dsimp only
  split
  · split <;> rfl
  · rfl

theorem State.raiseGen_cnts (c : Cmd) : (s.raiseGen c).cnts = s.cnts := by
  unfold State.raiseGen State.writeRec State.setTwoPhase
  dsimp only
  split
  · split <;> rfl
  · rfl

theorem State.raiseGen_regsBut (c : Cmd) : s.RegsBut (s.raiseGen c) [K.CMD_GEN c.origin] := by
  have written (u : State) (n : Nat) (b : List Byte) : (u.writeRec n b).regs = u.regs := by
    unfold State.writeRec State.setTwoPhase
    split <;> rfl
  unfold State.raiseGen
  dsimp only
  split
  · exact (s.regsBut_setFld (F.CMD_GEN_GEN c.origin) _).after (written _ _ _)
  · exact State.RegsBut.refl s _

/-- CMD_KEY_ADVANCE raises the generation of its origin while it has one to go to. -/
theorem State.raiseGen_raises (c : Cmd) (ho : c.origin < 64) (room : c.opcode = 0x34 → s.fld (F.CMD_GEN_GEN c.origin) ≠ 65535) :
    (s.raiseGen c).fld (F.CMD_GEN_GEN c.origin) = s.fld (F.CMD_GEN_GEN c.origin) + b2n (c.opcode == 0x34) := by
  have written (u : State) (n : Nat) (b : List Byte) (f : Fld) : (u.writeRec n b).fld f = u.fld f := by
    unfold State.writeRec State.setTwoPhase
    split <;> rfl
  have small : s.fld (F.CMD_GEN_GEN c.origin) < 2 ^ 16 := s.fld_lt _
  unfold State.raiseGen
  dsimp only
  by_cases op : c.opcode = 0x34
  · have below : s.fld (F.CMD_GEN_GEN c.origin) + 1 < 2 ^ 16 := by have := room op; omega
    rw [if_pos ⟨op, ho⟩, written, s.fld_setFld_same _ _ (show 0 ≤ 15 by decide) (show 15 < 32 by decide), op]
    exact Nat.mod_eq_of_lt below
  · have other : (c.opcode == 0x34) = false := by simpa using op
    rw [if_neg (fun h => op h.1), other]
    rfl

/-! ## The journal grows -/

theorem State.putEntry_nextJseq (e : JEntry) : (s.putEntry e).nextJseq = e.jseq + 1 := by
  have head : (s.putEntry e).mgt.jrn = e :: s.mgt.jrn.take 65535 := rfl
  rw [State.nextJseq, head]

theorem State.appendRaw_nextJseq (kind origin opcode cseq part : Nat) (data : List Byte) :
    (s.appendRaw kind origin opcode cseq part data).nextJseq = s.nextJseq + 1 := s.putEntry_nextJseq _

theorem forEach_appendRaw_nextJseq (origin opcode cseq : Nat) (l : List (Nat × Nat × List Byte)) : ∀ s : State,
    (forEach l (fun e s => s.appendRaw e.1 origin opcode cseq e.2.1 e.2.2) s).nextJseq = s.nextJseq + l.length := by
  induction l with
  | nil => exact fun _ => rfl
  | cons e r ih =>
    intro s
    refine (ih _).trans ?_
    rw [s.appendRaw_nextJseq, List.length_cons]
    omega

theorem State.checkpoint_nextJseq (origin opcode cseq : Nat) : (s.checkpoint origin opcode cseq).nextJseq = s.nextJseq + 1 := by
  have same := (State.putStatement_asks (s := s.putEntry (s.checkpointEntry origin opcode cseq)) (s.checkpointEntry origin opcode cseq)).1
  rw [s.checkpoint_eq, State.nextJseq, same]
  exact s.putEntry_nextJseq _

/-- A journal that takes entries numbers all of a group. -/
theorem State.appendGroup_nextJseq (origin opcode cseq : Nat) (l : List (Nat × Nat × List Byte)) (hj : s.journalHeld = false) :
    s.nextJseq + l.length ≤ (s.appendGroup origin opcode cseq l).nextJseq := by
  unfold State.appendGroup
  rw [hj, if_neg (by decide)]
  dsimp only
  have entries := forEach_appendRaw_nextJseq origin opcode cseq l s
  split
  · rw [State.checkpoint_nextJseq, entries]
    omega
  · exact entries.ge

/-! ## Messages that arrive -/

theorem State.commandArrive_full (hr : s.mcRuns = true) (ch : Chan) (msg : List Byte) (h : 16 ≤ s.mgt.cmdQ.length) :
    s.commandArrive ch msg = (s.inc (C.mgt 0)).inc (C.mgt 5) := by
  have long : 16 ≤ (s.inc (C.mgt 0)).mgt.cmdQ.length := h
  unfold State.commandArrive
  rw [hr]
  exact if_pos long

theorem State.commandArrive_joins (hr : s.mcRuns = true) (ch : Chan) (msg : List Byte) (h : s.mgt.cmdQ.length < 16) :
    s.commandArrive ch msg = { s.inc (C.mgt 0) with mgt := { s.mgt with cmdQ := s.mgt.cmdQ ++ [⟨ch, msg⟩] } } := by
  have short : ¬ 16 ≤ (s.inc (C.mgt 0)).mgt.cmdQ.length := Nat.not_le.mpr h
  unfold State.commandArrive
  rw [hr]
  exact if_neg short

end

section
variable {s : State}

theorem exec_writeCommand_queues (hr : s.mcRuns = true) (bytes : List Byte) :
    ∃ t, exec (.writeCommand bytes) s = .next t ∧ s.Only t [.cnts, .mgt] ∧ t.cnt (C.mgt 0) = s.cnt (C.mgt 0) + 1 ∧
      (s.mgt.cmdQ.length < 16 → t.mgt = { s.mgt with cmdQ := s.mgt.cmdQ ++ [⟨.spi, bytes⟩] } ∧ s.CntsBut t [C.mgt 0]) ∧
      (16 ≤ s.mgt.cmdQ.length → t.mgt = s.mgt ∧ t.cnt (C.mgt 5) = s.cnt (C.mgt 5) + 1 ∧ s.CntsBut t [C.mgt 0, C.mgt 5]) := by
  have run := exec_writeCommand s bytes hr
  have first : s.CntsBut (s.inc (C.mgt 0)) [C.mgt 0] := s.cntsBut_inc _
  by_cases h : s.mgt.cmdQ.length < 16
  · rw [s.commandArrive_joins hr _ _ h] at run
    exact ⟨_, run, s.only_confine _ _, s.cnt_inc_same _, fun _ => ⟨rfl, first⟩, fun full => absurd h (Nat.not_lt.mpr full)⟩
  · rw [s.commandArrive_full hr _ _ (Nat.not_lt.mp h)] at run
    refine ⟨_, run, s.only_confine _ _, ?_, fun short => absurd short h, fun _ => ⟨rfl, ?_, ?_⟩⟩
    · exact ((s.inc (C.mgt 0)).cnt_inc_other (by decide)).trans (s.cnt_inc_same _)
    · exact ((s.inc (C.mgt 0)).cnt_inc_same _).trans (by rw [s.cnt_inc_other (by decide)])
    · exact (first.mono (by decide)).comp ((State.cntsBut_inc (s.inc (C.mgt 0)) (C.mgt 5)).mono (by decide))

/-- The frame has left those that wait for the MC. -/
def State.inboxTaken (s : State) (f : InFrame) : State := { s with mgt := { s.mgt with inbox := s.mgt.inbox.erase f } }

theorem State.takeInbox_some {g : InFrame → Bool} {f : InFrame} {u : State} (h : s.takeInbox g = some (f, u)) : u = s.inboxTaken f := by
  unfold State.takeInbox at h
  split at h
  · cases h
  · obtain ⟨rfl, rfl⟩ := Prod.mk.inj (Option.some.inj h)
    rfl

/-- The channel that a command frame names. -/
def State.frameChan (s : State) (f : InFrame) : Chan :=
  .frame f.port (f.bytes.take 6) (slice f.bytes 6 6) (if afterTags s.altTpid f.bytes 3 12 = 12 then [] else slice f.bytes 12 4)

theorem State.commandFrame_taken {f : InFrame} {u : State} (h : s.takeInbox (fun m => m.kind == .command) = some (f, u)) (err : BufErr) :
    s.commandFrame err = if stopsDma err then (s.inboxTaken f).dmaError f.head err
      else ((s.inboxTaken f).releaseDma f.head).commandArrive (((s.inboxTaken f).releaseDma f.head).frameChan f)
        (frameMessage f.bytes (((s.inboxTaken f).releaseDma f.head).ptpBody f.bytes)) := by
  obtain rfl := s.takeInbox_some h
  rw [State.commandFrame, h]
  rfl

theorem State.mcRuns_congr {t : State} {keys : List Nat} (regs : s.RegsBut t keys) (hk : K.BOOT_STATUS ∉ keys) (nm : t.nm = s.nm)
    (boot : t.boot = s.boot) (saf : t.saf = s.saf) : t.mcRuns = s.mcRuns := by
  rw [State.mcRuns, regs.fld (f := F.BOOT_STATUS_STATE) hk, nm, boot, saf, State.mcRuns]

theorem exec_commandFrame_discards {f : InFrame} {u : State} (hr : s.mcRuns = true)
    (h : s.takeInbox (fun m => m.kind == .command) = some (f, u)) (err : BufErr) (he : stopsDma err = true) :
    ∃ t, exec (.commandFrameReceive err) s = .next t ∧ s.Only t [.regs, .cnts, .bufLog, .safLog, .data, .mgt, .key] ∧
      t.mgt.cmdQ = s.mgt.cmdQ ∧ t.mgt.inbox = s.mgt.inbox.erase f ∧ t.cnt (C.mgt 0) = s.cnt (C.mgt 0) ∧
      t.cnt (C.mgt 11) = s.cnt (C.mgt 11) + 1 ∧ (f.head = none → s.CntsBut t [C.mgt 11] ∧ s.Only t [.cnts, .mgt]) := by
  have run := exec_commandFrameReceive s err hr
  obtain ⟨only, regs, cnts, count⟩ := (s.inboxTaken f).dmaError_frame f.head err
  have noted := (s.inboxTaken f).dmaError_noted f.head err
  have whole : s.Only ((s.inboxTaken f).dmaError f.head err) dmaParts := State.Only.comp (t := s.inboxTaken f) rfl only
  rw [s.commandFrame_taken h, if_pos he, whole.confine _ (by decide)] at run
  refine ⟨_, run, whole, noted.cmdQ, noted.inbox, (cnts (C.mgt 0) (by decide)).trans rfl, count, fun head => ?_⟩
  rw [head]
  exact ⟨(s.inboxTaken f).cntsBut_inc (C.mgt 11), rfl⟩

theorem exec_commandFrame_joins {f : InFrame} {u : State} (hr : s.mcRuns = true)
    (h : s.takeInbox (fun m => m.kind == .command) = some (f, u)) (short : s.mgt.cmdQ.length < 16) (err : BufErr) (he : stopsDma err = false) :
    ∃ t q, exec (.commandFrameReceive err) s = .next t ∧ s.Only t [.regs, .cnts, .bufLog, .safLog, .data, .mgt, .key] ∧
      q.chan.isFrame = true ∧ t.mgt.inbox = s.mgt.inbox.erase f ∧ t.mgt.cmdQ = s.mgt.cmdQ ++ [q] ∧
      t.cnt (C.mgt 0) = s.cnt (C.mgt 0) + 1 ∧ t.cnt (C.mgt 11) = s.cnt (C.mgt 11) ∧ (f.head = none → s.Only t [.cnts, .mgt]) := by
  have run := exec_commandFrameReceive s err hr
  have kept := (s.inboxTaken f).releaseDma_holdKept f.head
  have noted := (s.inboxTaken f).releaseDma_noted f.head
  have none' : f.head = none → (s.inboxTaken f).releaseDma f.head = s.inboxTaken f := fun e => by rw [e]; rfl
  rw [s.commandFrame_taken h, if_neg (by simp [he])] at run
  generalize (s.inboxTaken f).releaseDma f.head = v at *
  obtain ⟨only, regs, cnts⟩ := kept.1
  have runs : v.mcRuns = true :=
    (State.mcRuns_congr (s := s.inboxTaken f) regs (by decide) (only.keeps State.nm rfl) (only.keeps State.boot rfl) (only.keeps State.saf rfl)).trans hr
  have queue : v.mgt.cmdQ = s.mgt.cmdQ := noted.cmdQ
  rw [v.commandArrive_joins runs _ _ (by rw [queue]; exact short)] at run
  refine ⟨_, ⟨v.frameChan f, _⟩, run, s.only_confine _ _, rfl, noted.inbox, congrArg (· ++ [_]) queue, ?_, ?_, fun head => ?_⟩
  · exact (v.cnt_inc_same _).trans (by rw [cnts (C.mgt 0) (by decide)]; rfl)
  · exact (v.cnt_inc_other (by decide)).trans (cnts (C.mgt 11) (by decide))
  · rw [none' head]
    rfl

/-! ## Checks -/

/-- What the checks make of a message. -/
def State.checkMsg (s : State) (q : QCmd) : State :=
  if !framed q.chan q.msg then s.inc (C.mgt 6)
  else if !s.authentic q.msg then s.inc (C.mgt 3)
  else if !s.fresh? q.msg then s.replayCmd q.chan q.msg
  else s.judgeCmd q.chan q.msg

theorem State.commandAccept_checks {q : QCmd} {r : List QCmd} (hr : s.mcRuns = true) (hq : s.mgt.cmdQ = q :: r) (hp : s.pairActive = false) :
    s.commandAccept = (s.cmdTaken r).checkMsg q := by
  simp only [State.commandAccept, hq, hr, hp, Bool.not_true, Bool.false_and, Bool.or_self, Bool.false_eq_true, if_false]
  rfl

theorem State.relayJournal_alone (hp : s.pairActive = false) : s.relayJournal = s := by
  unfold State.relayJournal
  rw [hp]
  rfl

theorem State.pairActive_congr {t : State} {keys : List Nat} (regs : s.RegsBut t keys) (hc : K.PAIR_CFG ∉ keys) (hk : K.PAIR_STATUS ∉ keys) :
    t.pairActive = s.pairActive := by
  rw [State.pairActive, regs.fld (f := F.PAIR_CFG_MODE) hc, regs.fld (f := F.PAIR_STATUS_ROLE) hk, State.pairActive]

/-- The REFUSED entry of a message and its count. -/
def State.refusedEntry (s : State) (m : List Byte) (status : Nat) : State :=
  (s.append 4 (msgOrigin m) (msgOp m) (msgSeq m) 0 (beBytes 2 status ++ (msgBody m).take 16)).inc (C.mgt 2)

/-- LAST_SEQ after a refusal. -/
def State.refusedSeq (s : State) (m : List Byte) (status : Nat) : State :=
  if s.journalHeld then s.refusedEntry m status
  else (s.refusedEntry m status).setFld (F.MGT_LAST_SEQ_SEQ (msgOrigin m)) (msgSeq m)

/-- A refusal of a unit without a partner to relay to. -/
theorem State.refuseCmd_alone (ch : Chan) (m : List Byte) (status : Nat) (hp : s.pairActive = false) :
    ∃ msg, s.refuseCmd ch m status = (s.refusedSeq m status).respond ch msg := by
  have eq : s.refuseCmd ch m status = ((s.refusedSeq m status).respond ch
      (message ((s.refusedSeq m status).cmdKey (msgOrigin m)) 0xC1 (msgOrigin m) (msgSeq m) (msgOp m)
        (rspBody status 0 1 (if s.journalHeld then 0 else s.nextJseq) []))).relayJournal := rfl
  have entry : s.RegsBut (s.refusedEntry m status) journalKeys := (s.appendGroup_regsBut _ _ _ _).after rfl
  have seq : s.RegsBut (s.refusedSeq m status) (K.MGT_LAST_SEQ (msgOrigin m) :: journalKeys) := by
    unfold State.refusedSeq
    split
    · exact entry.mono (fun _ hk => List.mem_cons_of_mem _ hk)
    · exact (entry.mono (fun _ hk => List.mem_cons_of_mem _ hk)).comp
        ((State.regsBut_setFld _ (F.MGT_LAST_SEQ_SEQ (msgOrigin m)) _).mono (fun _ hk => List.mem_cons.mpr (.inl (List.mem_singleton.mp hk))))
  have apart (k : Nat) (hk : k ∉ journalKeys) (low : k < 0x340000) : k ∉ K.MGT_LAST_SEQ (msgOrigin m) :: journalKeys := by
    refine fun h => (List.mem_cons.mp h).elim (fun e => ?_) hk
    simp only [K.MGT_LAST_SEQ] at e
    omega
  refine ⟨_, eq.trans (State.relayJournal_alone ?_)⟩
  exact (State.pairActive_congr (seq.after ((State.respond_only _ _ _).keeps State.regs rfl)) (apart _ (by decide) (by decide))
    (apart _ (by decide) (by decide))).trans hp

theorem State.refuseCmd_refuses (ch : Chan) (m : List Byte) (status : Nat) (hp : s.pairActive = false) :
    (s.refuseCmd ch m status).mgt.cmdQ = s.mgt.cmdQ ∧ (s.refuseCmd ch m status).mgt.execQ = s.mgt.execQ ∧
    (s.journalHeld = false → (s.refuseCmd ch m status).cnt (C.mgt 2) = s.cnt (C.mgt 2) + 1 ∧
      (s.refuseCmd ch m status).fld (F.MGT_LAST_SEQ_SEQ (msgOrigin m)) = msgSeq m ∧ s.nextJseq < (s.refuseCmd ch m status).nextJseq) := by
  obtain ⟨msg, eq⟩ := State.refuseCmd_alone ch m status hp
  have noted : s.Noted (s.refusedSeq m status) := by
    have entry : s.Noted (s.refusedEntry m status) := (s.appendGroup_noted _ _ _ _).comp (State.noted_of rfl rfl)
    unfold State.refusedSeq
    split
    · exact entry
    · exact entry.comp (State.noted_of rfl rfl)
  rw [eq]
  have only := (s.refusedSeq m status).respond_only ch msg
  refine ⟨((s.refusedSeq m status).respond_keeps ch msg (fun m => m.cmdQ) (fun _ _ => rfl) (fun _ _ => rfl) (fun _ _ => rfl)).trans noted.cmdQ,
    ((s.refusedSeq m status).respond_keeps ch msg (fun m => m.execQ) (fun _ _ => rfl) (fun _ _ => rfl) (fun _ _ => rfl)).trans noted.execQ,
    fun held => ⟨?_, ?_, ?_⟩⟩
  · rw [State.cnt_congr (only.keeps State.cnts rfl)]
    unfold State.refusedSeq
    rw [held]
    refine (State.cnt_inc_same _ _).trans ?_
    rw [State.cnt_congr ((s.append_only _ _ _ _ _ _).keeps State.cnts rfl)]
  · rw [State.fld_congr (only.keeps State.regs rfl)]
    unfold State.refusedSeq
    rw [held]
    exact (State.fld_setFld_same _ _ _ (show 0 ≤ 31 by decide) (show 31 < 32 by decide)).trans (Nat.mod_eq_of_lt (beAt_lt m 4 4))
  · have grows := s.appendGroup_nextJseq (msgOrigin m) (msgOp m) (msgSeq m) [(4, 0, beBytes 2 status ++ (msgBody m).take 16)] held
    have same : ((s.refusedSeq m status).respond ch msg).mgt.jrn = (s.refusedSeq m status).mgt.jrn :=
      (s.refusedSeq m status).respond_keeps ch msg (fun m => m.jrn) (fun _ _ => rfl) (fun _ _ => rfl) (fun _ _ => rfl)
    have kept : (s.refusedSeq m status).mgt.jrn =
        (s.appendGroup (msgOrigin m) (msgOp m) (msgSeq m) [(4, 0, beBytes 2 status ++ (msgBody m).take 16)]).mgt.jrn := by
      unfold State.refusedSeq
      rw [held]
      rfl
    have next : ((s.refusedSeq m status).respond ch msg).nextJseq =
        (s.appendGroup (msgOrigin m) (msgOp m) (msgSeq m) [(4, 0, beBytes 2 status ++ (msgBody m).take 16)]).nextJseq := by
      rw [State.nextJseq, same, kept, State.nextJseq]
    rw [next]
    exact grows

end

/-! ## Acceptance -/

section
variable {s : State}

/-- LAST_SEQ and the count of an accepted command. -/
def State.acceptedSeq (s : State) (c : Cmd) : State := (s.setFld (F.MGT_LAST_SEQ_SEQ c.origin) c.seq).inc (C.mgt 1)

/-- The answer of an accepted command that is not of class D. -/
def State.acceptedAnswer (s : State) (c : Cmd) : State := if classD c.opcode then s.acceptedSeq c else (s.acceptedSeq c).answer c 0 []

theorem State.acceptedAnswer_only (c : Cmd) : (s.acceptedSeq c).Only (s.acceptedAnswer c) [.mgt] := by
  unfold State.acceptedAnswer
  split
  · exact State.only_refl _ _
  · exact State.answer_only _ _ _ _

theorem State.acceptCmd_keeps {α : Type} (c : Cmd) (g : MgtSt → α) (spi : ∀ m r, g { m with respSpi := r } = g m)
    (lane : ∀ m l, g { m with mcLane := l } = g m) (wait : ∀ m l, g { m with mcWait := l } = g m) : g (s.acceptCmd c).mgt = g s.mgt := by
  have answered : g (s.acceptedAnswer c).mgt = g s.mgt := by
    unfold State.acceptedAnswer
    split
    · rfl
    · exact (s.acceptedSeq c).answer_keeps c 0 [] g spi lane wait
  exact (congrArg g ((s.acceptedAnswer c).raiseGen_mgt c)).trans answered

theorem State.acceptCmd_regsBut (c : Cmd) : s.RegsBut (s.acceptCmd c) [K.MGT_LAST_SEQ c.origin, K.CMD_GEN c.origin] := by
  have seq : s.RegsBut (s.acceptedAnswer c) [K.MGT_LAST_SEQ c.origin] :=
    (s.regsBut_setFld (F.MGT_LAST_SEQ_SEQ c.origin) c.seq).after ((State.acceptedAnswer_only c).keeps State.regs rfl)
  exact (seq.mono (by simp)).comp (((s.acceptedAnswer c).raiseGen_regsBut c).mono (by simp))

theorem lastSeq_ne_gen (o : Nat) : K.MGT_LAST_SEQ o ≠ K.CMD_GEN o := by
  simp only [K.MGT_LAST_SEQ, K.CMD_GEN]
  omega

theorem State.acceptCmd_accepts (c : Cmd) (ho : c.origin < 64) (hs : c.seq < 2 ^ 32)
    (room : c.opcode = 0x34 → s.fld (F.CMD_GEN_GEN c.origin) ≠ 65535) :
    (s.acceptCmd c).fld (F.CMD_GEN_GEN c.origin) = s.fld (F.CMD_GEN_GEN c.origin) + b2n (c.opcode == 0x34) ∧
    (s.acceptCmd c).fld (F.MGT_LAST_SEQ_SEQ c.origin) = c.seq ∧ (s.acceptCmd c).cnt (C.mgt 1) = s.cnt (C.mgt 1) + 1 := by
  have only := State.acceptedAnswer_only (s := s) c
  have gen : (s.acceptedAnswer c).fld (F.CMD_GEN_GEN c.origin) = s.fld (F.CMD_GEN_GEN c.origin) :=
    (State.fld_congr (only.keeps State.regs rfl) _).trans (s.fld_setFld_key (F.MGT_LAST_SEQ_SEQ c.origin) _ c.seq (lastSeq_ne_gen _))
  refine ⟨?_, ?_, ?_⟩
  · rw [← gen]
    exact (s.acceptedAnswer c).raiseGen_raises c ho (gen ▸ room)
  · refine (((s.acceptedAnswer c).raiseGen_regsBut c).fld (f := F.MGT_LAST_SEQ_SEQ c.origin) ?_).trans ?_
    · exact fun h => lastSeq_ne_gen _ (List.mem_singleton.mp h)
    · rw [State.fld_congr (only.keeps State.regs rfl)]
      exact (s.fld_setFld_same _ c.seq (show 0 ≤ 31 by decide) (show 31 < 32 by decide)).trans (Nat.mod_eq_of_lt hs)
  · refine (State.cnt_congr ((s.acceptedAnswer c).raiseGen_cnts c) _).trans ?_
    rw [State.cnt_congr (only.keeps State.cnts rfl)]
    exact State.cnt_inc_same _ _

/-- The command of a message. -/
def State.cmdOf (s : State) (ch : Chan) (m : List Byte) : Cmd :=
  ⟨ch, msgOrigin m, msgSeq m, msgOp m, msgBody m, s.nextJseq, s.fld F.BRG_TAG_NEXT, s.fld (F.CMD_GEN_GEN (msgOrigin m))⟩

/-- The COMMAND entry and the DATA entries of a message. -/
def State.journaledMsg (s : State) (m : List Byte) : State :=
  s.appendGroup (msgOrigin m) (msgOp m) (msgSeq m) (commandEntries (msgOp m) (msgBody m))

theorem State.takeCmd_alone (ch : Chan) (m : List Byte) (ho : msgOrigin m < 64) (hp : s.pairActive = false) :
    s.takeCmd ch m = { (s.journaledMsg m).acceptCmd (s.cmdOf ch m) with
      mgt := { ((s.journaledMsg m).acceptCmd (s.cmdOf ch m)).mgt with
        execQ := ((s.journaledMsg m).acceptCmd (s.cmdOf ch m)).mgt.execQ ++ [s.cmdOf ch m] } } := by
  have journaled : (s.journaledMsg m).pairActive = false :=
    (State.pairActive_congr (s.appendGroup_regsBut _ _ _ _) (by decide) (by decide)).trans hp
  have apart (k : Nat) (low : k < 0x240000 ∨ 0x250000 ≤ k ∧ k < 0x340000) :
      k ∉ [K.MGT_LAST_SEQ (s.cmdOf ch m).origin, K.CMD_GEN (s.cmdOf ch m).origin] := by
    have small : (s.cmdOf ch m).origin < 64 := ho
    simp only [K.MGT_LAST_SEQ, K.CMD_GEN, List.mem_cons, List.not_mem_nil, or_false]
    omega
  have accepted : ((s.journaledMsg m).acceptCmd (s.cmdOf ch m)).pairActive = false :=
    (State.pairActive_congr (State.acceptCmd_regsBut _) (apart _ (by decide)) (apart _ (by decide))).trans journaled
  have eq : s.takeCmd ch m = (s.journaledMsg m).replicate (s.cmdOf ch m) := rfl
  rw [eq, State.replicate, State.relayJournal_alone journaled]
  simp only [journaled, Bool.false_and, Bool.false_eq_true, if_false, State.scheduleCmd, accepted]

theorem State.takeCmd_takes (ch : Chan) (m : List Byte) (ho : msgOrigin m < 64) (hp : s.pairActive = false) (hj : s.journalHeld = false)
    (room : msgOp m = 0x34 → s.fld (F.CMD_GEN_GEN (msgOrigin m)) ≠ 65535) :
    (s.takeCmd ch m).mgt.cmdQ = s.mgt.cmdQ ∧ (s.takeCmd ch m).mgt.execQ = s.mgt.execQ ++ [s.cmdOf ch m] ∧
    (s.takeCmd ch m).fld (F.CMD_GEN_GEN (msgOrigin m)) = s.fld (F.CMD_GEN_GEN (msgOrigin m)) + b2n (msgOp m == 0x34) ∧
    (s.takeCmd ch m).fld (F.MGT_LAST_SEQ_SEQ (msgOrigin m)) = msgSeq m ∧ (s.takeCmd ch m).cnt (C.mgt 1) = s.cnt (C.mgt 1) + 1 ∧
    s.nextJseq + (commandEntries (msgOp m) (msgBody m)).length ≤ (s.takeCmd ch m).nextJseq := by
  have noted : s.Noted (s.journaledMsg m) := s.appendGroup_noted _ _ _ _
  have regs : s.RegsBut (s.journaledMsg m) journalKeys := s.appendGroup_regsBut _ _ _ _
  have gen : (s.journaledMsg m).fld (F.CMD_GEN_GEN (msgOrigin m)) = s.fld (F.CMD_GEN_GEN (msgOrigin m)) := by
    refine regs.fld (show K.CMD_GEN (msgOrigin m) ∉ journalKeys from ?_)
    simp only [journalKeys, K.CMD_GEN, K.MGT_CFG, K.JRN_STATUS, K.JRN_HEAD_LO, K.JRN_HEAD_HI, K.JRN_CP_LO, K.JRN_CP_HI, List.mem_cons,
      List.not_mem_nil, or_false]
    omega
  obtain ⟨raised, seq, count⟩ := State.acceptCmd_accepts (s := s.journaledMsg m) (s.cmdOf ch m) ho (beAt_lt m 4 4) (gen.symm ▸ room)
  have cmdQ : ((s.journaledMsg m).acceptCmd (s.cmdOf ch m)).mgt.cmdQ = s.mgt.cmdQ :=
    (State.acceptCmd_keeps _ (fun m => m.cmdQ) (fun _ _ => rfl) (fun _ _ => rfl) (fun _ _ => rfl)).trans noted.cmdQ
  have execQ : ((s.journaledMsg m).acceptCmd (s.cmdOf ch m)).mgt.execQ = s.mgt.execQ :=
    (State.acceptCmd_keeps _ (fun m => m.execQ) (fun _ _ => rfl) (fun _ _ => rfl) (fun _ _ => rfl)).trans noted.execQ
  have jrn : ((s.journaledMsg m).acceptCmd (s.cmdOf ch m)).mgt.jrn = (s.journaledMsg m).mgt.jrn :=
    State.acceptCmd_keeps _ (fun m => m.jrn) (fun _ _ => rfl) (fun _ _ => rfl) (fun _ _ => rfl)
  rw [State.takeCmd_alone ch m ho hp]
  refine ⟨cmdQ, congrArg (· ++ [_]) execQ, raised.trans (congrArg (· + _) gen), seq, count.trans ?_, ?_⟩
  · exact congrArg (· + 1) (State.cnt_congr ((s.appendGroup_only _ _ _ _).keeps State.cnts rfl) _)
  · have grows := s.appendGroup_nextJseq (msgOrigin m) (msgOp m) (msgSeq m) (commandEntries (msgOp m) (msgBody m)) hj
    have next : ((s.journaledMsg m).acceptCmd (s.cmdOf ch m)).nextJseq = (s.journaledMsg m).nextJseq := by
      rw [State.nextJseq, jrn, State.nextJseq]
    exact grows.trans next.ge

theorem State.refuseLate_generation {m : List Byte} (h : s.refuseLate m = 0) (hop : msgOp m = 0x34) :
    s.fld (F.CMD_GEN_GEN (msgOrigin m)) ≠ 65535 := by
  intro full
  have barred : s.notPermitted (msgOrigin m) (msgOp m) (msgBody m) = true := by
    simp [State.notPermitted, hop, full]
  unfold State.refuseLate at h
  simp only [barred, if_true] at h
  split at h
  · cases h
  · split at h <;> cases h

/-! ## The command at the head of the queue -/

theorem State.replayCmd_replays (s : State) (ch : Chan) (m : List Byte) :
    (s.replayCmd ch m).mgt.cmdQ = s.mgt.cmdQ ∧ (s.replayCmd ch m).cnt (C.mgt 4) = s.cnt (C.mgt 4) + 1 ∧ s.RegsBut (s.replayCmd ch m) [] ∧
    (s.replayCmd ch m).mgt.jrn = s.mgt.jrn ∧ (s.replayCmd ch m).mgt.execQ = s.mgt.execQ := by
  have eq : ∃ msg, s.replayCmd ch m = (s.respond ch msg).inc (C.mgt 4) := ⟨_, rfl⟩
  obtain ⟨msg, eq⟩ := eq
  have only := s.respond_only ch msg
  rw [eq]
  refine ⟨s.respond_keeps ch msg (fun m => m.cmdQ) (fun _ _ => rfl) (fun _ _ => rfl) (fun _ _ => rfl), ?_,
    State.regsBut_of_regs (only.keeps State.regs rfl) _,
    s.respond_keeps ch msg (fun m => m.jrn) (fun _ _ => rfl) (fun _ _ => rfl) (fun _ _ => rfl),
    s.respond_keeps ch msg (fun m => m.execQ) (fun _ _ => rfl) (fun _ _ => rfl) (fun _ _ => rfl)⟩
  rw [State.cnt_inc_same, State.cnt_congr (only.keeps State.cnts rfl)]

/-- A message that the early conditions, the role or the late conditions refuse is refused or passed on; every other is taken. -/
theorem State.judgeCmd_judges (ch : Chan) (m : List Byte) (ho : msgOrigin m < 64) (hp : s.pairActive = false) (hj : s.journalHeld = false) :
    (s.judgeCmd ch m).mgt.cmdQ = s.mgt.cmdQ ∧
    (if s.refuseEarly ch m ≠ 0 ∨ s.standby = true ∨ s.refuseLate m ≠ 0 then
      (s.judgeCmd ch m).mgt.execQ = s.mgt.execQ ∧ (s.standby = false → (s.judgeCmd ch m).cnt (C.mgt 2) = s.cnt (C.mgt 2) + 1 ∧
        (s.judgeCmd ch m).fld (F.MGT_LAST_SEQ_SEQ (msgOrigin m)) = msgSeq m ∧ s.nextJseq < (s.judgeCmd ch m).nextJseq)
    else
      (s.judgeCmd ch m).mgt.execQ = s.mgt.execQ ++ [s.cmdOf ch m] ∧
      (s.judgeCmd ch m).fld (F.CMD_GEN_GEN (msgOrigin m)) = s.fld (F.CMD_GEN_GEN (msgOrigin m)) + b2n (msgOp m == 0x34) ∧
      (s.judgeCmd ch m).fld (F.MGT_LAST_SEQ_SEQ (msgOrigin m)) = msgSeq m ∧ (s.judgeCmd ch m).cnt (C.mgt 1) = s.cnt (C.mgt 1) + 1 ∧
      s.nextJseq + (commandEntries (msgOp m) (msgBody m)).length ≤ (s.judgeCmd ch m).nextJseq) := by
  have refused (status : Nat) := s.refuseCmd_refuses ch m status hp
  unfold State.judgeCmd
  dsimp only
  by_cases early : s.refuseEarly ch m ≠ 0
  · obtain ⟨cmdQ, execQ, rest⟩ := refused (s.refuseEarly ch m)
    rw [if_pos early, if_pos (.inl early)]
    exact ⟨cmdQ, execQ, fun _ => rest hj⟩
  rw [if_neg early]
  cases standby : s.standby with
  | true =>
    obtain ⟨cmdQ, execQ, _⟩ := refused 0x16
    rw [if_pos (show s.refuseEarly ch m ≠ 0 ∨ true = true ∨ s.refuseLate m ≠ 0 from .inr (.inl rfl)), if_pos (show true = true from rfl)]
    split
    · exact ⟨rfl, rfl, by simp⟩
    · exact ⟨cmdQ, execQ, by simp⟩
  | false =>
    by_cases late : s.refuseLate m ≠ 0
    · obtain ⟨cmdQ, execQ, rest⟩ := refused (s.refuseLate m)
      rw [if_neg (by decide), if_pos late, if_pos (.inr (.inr late))]
      exact ⟨cmdQ, execQ, fun _ => rest hj⟩
    · obtain ⟨cmdQ, rest⟩ := s.takeCmd_takes ch m ho hp hj (State.refuseLate_generation (not_not.mp late))
      rw [if_neg (by decide), if_neg late, if_neg (by simp [early, late])]
      exact ⟨cmdQ, rest⟩

theorem State.refuseLate_cmdTaken (r : List QCmd) (m : List Byte) : (s.cmdTaken r).refuseLate m = s.refuseLate m := by
  have permitted : (s.cmdTaken r).notPermitted (msgOrigin m) (msgOp m) (msgBody m) = s.notPermitted (msgOrigin m) (msgOp m) (msgBody m) := rfl
  have field : (s.cmdTaken r).invalidField (msgOp m) (msgBody m) = s.invalidField (msgOp m) (msgBody m) := by
    unfold State.invalidField
    simp only [State.recordBad_cmdTaken]
    rfl
  have address : (s.cmdTaken r).forbidden (msgOp m) (msgBody m) = s.forbidden (msgOp m) (msgBody m) := rfl
  unfold State.refuseLate
  simp only [permitted, field, address]

theorem exec_commandAccept_judges {q : QCmd} {r : List QCmd} (hr : s.mcRuns = true) (hq : s.mgt.cmdQ = q :: r) (hp : s.pairActive = false)
    (hj : s.journalHeld = false) :
    ∃ t, exec .commandAccept s = .next t ∧ s.Only t [.regs, .cnts, .data, .mgt, .twin, .key, .out] ∧ t.mgt.cmdQ = r ∧
      (if framed q.chan q.msg = false then
        t.cnt (C.mgt 6) = s.cnt (C.mgt 6) + 1 ∧ s.CntsBut t [C.mgt 6] ∧ s.RegsBut t [] ∧ t.mgt = { s.mgt with cmdQ := r }
      else if s.authentic q.msg = false then
        t.cnt (C.mgt 3) = s.cnt (C.mgt 3) + 1 ∧ s.CntsBut t [C.mgt 3] ∧ s.RegsBut t [] ∧ t.mgt = { s.mgt with cmdQ := r }
      else if s.fresh? q.msg = false then
        t.cnt (C.mgt 4) = s.cnt (C.mgt 4) + 1 ∧ s.RegsBut t [] ∧ t.mgt.jrn = s.mgt.jrn ∧ t.mgt.execQ = s.mgt.execQ
      else if s.refuseEarly q.chan q.msg ≠ 0 ∨ s.standby = true ∨ s.refuseLate q.msg ≠ 0 then
        t.mgt.execQ = s.mgt.execQ ∧ (s.standby = false → t.cnt (C.mgt 2) = s.cnt (C.mgt 2) + 1 ∧
          t.fld (F.MGT_LAST_SEQ_SEQ (msgOrigin q.msg)) = msgSeq q.msg ∧ s.nextJseq < t.nextJseq)
      else
        t.mgt.execQ = s.mgt.execQ ++ [s.cmdOf q.chan q.msg] ∧
        t.fld (F.CMD_GEN_GEN (msgOrigin q.msg)) = s.fld (F.CMD_GEN_GEN (msgOrigin q.msg)) + b2n (msgOp q.msg == 0x34) ∧
        t.fld (F.MGT_LAST_SEQ_SEQ (msgOrigin q.msg)) = msgSeq q.msg ∧ t.cnt (C.mgt 1) = s.cnt (C.mgt 1) + 1 ∧
        s.nextJseq + (commandEntries (msgOp q.msg) (msgBody q.msg)).length ≤ t.nextJseq) := by
  have run := exec_commandAccept s hr
  rw [State.commandAccept_checks hr hq hp] at run
  refine ⟨_, run, s.only_confine _ _, ?_⟩
  unfold State.checkMsg
  cases framing : framed q.chan q.msg with
  | false => exact ⟨rfl, State.cnt_inc_same (s.cmdTaken r) _, State.cntsBut_inc (s.cmdTaken r) _, State.regsBut_of_regs rfl _, rfl⟩
  | true =>
  cases authentic : s.authentic q.msg with
  | false =>
    rw [show (s.cmdTaken r).authentic q.msg = false from authentic]
    exact ⟨rfl, State.cnt_inc_same (s.cmdTaken r) _, State.cntsBut_inc (s.cmdTaken r) _, State.regsBut_of_regs rfl _, rfl⟩
  | true =>
  rw [show (s.cmdTaken r).authentic q.msg = true from authentic]
  cases fresh : s.fresh? q.msg with
  | false =>
    rw [show (s.cmdTaken r).fresh? q.msg = false from fresh]
    exact (s.cmdTaken r).replayCmd_replays q.chan q.msg
  | true =>
  rw [show (s.cmdTaken r).fresh? q.msg = true from fresh]
  have origin : msgOrigin q.msg < 64 := by
    simp only [State.authentic, Bool.and_eq_true, decide_eq_true_eq] at authentic
    exact authentic.1.1
  obtain ⟨queue, judged⟩ := State.judgeCmd_judges (s := s.cmdTaken r) q.chan q.msg origin hp hj
  simp only [Bool.not_true, Bool.false_eq_true, Bool.true_eq_false, if_false]
  refine ⟨queue, ?_⟩
  rw [show (s.cmdTaken r).refuseEarly q.chan q.msg = s.refuseEarly q.chan q.msg from rfl, show (s.cmdTaken r).standby = s.standby from rfl,
    State.refuseLate_cmdTaken] at judged
  generalize (s.cmdTaken r).judgeCmd q.chan q.msg = t at judged ⊢
  split
  next h =>
    rw [if_pos h] at judged
    exact judged
  next h =>
    rw [if_neg h] at judged
    exact judged

end

/-- Settles O55: a message joins the queue or is counted as lost, and at its head framing, authenticity, sequence and status are checked in
this order; a refusal and an acceptance are journaled and set LAST_SEQ. -/
theorem commandsAreAdmittedInOrder : Obligations.CommandsAreAdmittedInOrder := by
  unfold Obligations.CommandsAreAdmittedInOrder
  intro s hr
  refine ⟨fun bytes => exec_writeCommand_queues hr bytes, fun f u h => ⟨fun err he => exec_commandFrame_discards hr h err he,
    fun short err he => exec_commandFrame_joins hr h short err he⟩, fun q r hq ha hp hj => exec_commandAccept_judges hr hq hp hj⟩

end Sys2Proof.Machine
end

section
/-!
SUPPORT. Messages between the units of a pair (spec/15, R419 to R431): what a sent message changes, and the entries, acknowledgements and
commits that carry the journal to the standby.
-/
namespace Sys2Proof.Machine

/-! ## A message sent -/

section
variable {s : State}

theorem State.enqueue_only (p n : Nat) {c : Copy} (h : c.frame = none) : s.Only (s.enqueue p n c) [.cnts, .data] := by
  simp only [State.enqueue, h]
  split
  · rfl
  · exact (s.pushCopy_only _ _).mono _ (by decide)

theorem State.enqueue_cntsBut (p n : Nat) {c : Copy} (h : c.frame = none) : s.CntsBut (s.enqueue p n c) [C.nm 11] := by
  simp only [State.enqueue, h]
  split
  · exact s.cntsBut_inc _
  · exact State.cntsBut_of_cnts ((s.pushCopy_only _ _).keeps State.cnts rfl) _

theorem forEach_cntsBut {α : Type} {l : List Nat} (f : α → State → State) (hf : ∀ x s, State.CntsBut s (f x s) l) (xs : List α) (s : State) :
    s.CntsBut (forEach xs f s) l := by
  induction xs generalizing s with
  | nil => exact State.CntsBut.refl s l
  | cons x r ih => exact (hf x s).comp (ih (f x s))

/-- The next sequence number of a message type is used. -/
def State.seqUsed (s : State) (ty : Nat) : State :=
  { s with twin := { s.twin with txSeq := mapModify (fun _ => 0) s.twin.txSeq ty (fun n => (n + 1) % 2 ^ 32) } }

/-- A message leaves on the ports to the partner that are up. -/
def State.toPartner (s : State) (b : List Byte) : State :=
  forEach s.pairUp (fun p s => s.enqueue p 7 ⟨none, b, none, 0, none, false, none, 0, .pair, false, none⟩) s

theorem State.pairSend_eq (ty : Nat) (body : List Byte) :
    s.pairSend ty body = s.confine [.cnts, .data, .twin] ((s.seqUsed ty).toPartner ((s.seqUsed ty).pairFrame ty body)) := rfl

theorem State.toPartner_only (b : List Byte) : s.Only (s.toPartner b) [.cnts, .data] :=
  forEach_only _ (fun p s => s.enqueue_only p 7 rfl) _ s

theorem State.pairSend_only (ty : Nat) (body : List Byte) : s.Only (s.pairSend ty body) [.cnts, .data, .twin] := s.only_confine _ _

theorem State.pairSend_cntsBut (ty : Nat) (body : List Byte) : s.CntsBut (s.pairSend ty body) [C.nm 11] :=
  forEach_cntsBut _ (fun p s => s.enqueue_cntsBut p 7 rfl) _ (s.seqUsed ty)

theorem State.pairSend_twin (ty : Nat) (body : List Byte) : (s.pairSend ty body).twin = (s.seqUsed ty).twin :=
  State.toPartner_only (s := s.seqUsed ty) _ |>.keeps State.twin rfl

theorem State.pairSend_pairSeq (ty : Nat) (body : List Byte) : (s.pairSend ty body).pairSeq ty = (s.pairSeq ty + 1) % 2 ^ 32 := by
  rw [State.pairSeq, State.pairSend_twin]
  exact mapGet_mapSet_same (fun _ => 0) s.twin.txSeq ty _

/-- What a message sent leaves of the pair. -/
theorem State.pairSend_keeps {α : Type} (g : PairSt → α) (hg : ∀ p q, g { p with txSeq := q } = g p) (ty : Nat) (body : List Byte) :
    g (s.pairSend ty body).twin = g s.twin := (congrArg g (State.pairSend_twin ty body)).trans (hg _ _)

/-! ## Events of the pair -/

theorem State.queueEvent_jrn (c : Nat) (b : List Byte) : (s.queueEvent c b).mgt.jrn = s.mgt.jrn := by
  have sent (u : State) (f : LaneFrame) : (u.mcSend f).mgt.jrn = u.mgt.jrn := by
    unfold State.mcSend
    split <;> rfl
  unfold State.queueEvent
  dsimp only
  split
  · rfl
  · split
    · exact sent _ _
    · rfl

/-- The STANDBY's journal is its partner's: its own events make no entry there. -/
theorem State.raiseFlag_jrn (f : Fld) (d : List Byte) (hf : f.key ≠ K.PAIR_CFG ∧ f.key ≠ K.PAIR_STATUS) (held : s.journalHeld = true) :
    (s.raiseFlag f d).mgt.jrn = s.mgt.jrn := by
  have raised (u : State) (c : Nat) (h : u.journalHeld = true) : (u.raise c d).mgt.jrn = u.mgt.jrn := by
    have entry : u.append 5 255 c 0 0 d = u := by
      rw [State.append, State.appendGroup, h]
      rfl
    refine (State.queueEvent_jrn (s := (u.append 5 255 c 0 0 d).inc (C.mgt 7)) c _).trans ?_
    rw [entry]
    rfl
  have same : (s.setFld f 1).journalHeld = s.journalHeld := by
    rw [State.journalHeld, s.fld_setFld_key f F.PAIR_CFG_MODE 1 hf.1, s.fld_setFld_key f F.PAIR_STATUS_ROLE 1 hf.2, State.journalHeld]
  unfold State.raiseFlag
  split
  · rfl
  · exact raised (s.setFld f 1) _ (same.trans held)

/-- The bit of a field is the flag at its place. -/
theorem State.fld_testBit (g : Fld) {i : Nat} (h : i ≤ g.hi - g.lo) : (s.fld g).testBit i = s.flag ⟨g.key, g.lo + i, g.lo + i⟩ := by
  rw [State.fld, wordBits_testBit, decide_eq_true (show i < g.hi - g.lo + 1 by omega), Bool.true_and, State.flag]

theorem State.pairEvent_shows (bit : Nat) (h : bit < 8) : ((s.pairEvent bit).fld F.PAIR_EVT_EVENTS).testBit bit = true := by
  rw [State.fld_testBit F.PAIR_EVT_EVENTS (show bit ≤ 7 - 0 by omega)]
  have set := s.raiseFlag_flag ⟨K.PAIR_EVT, bit, bit⟩ (beBytes 1 bit) rfl (show bit < 32 by omega) (show K.PAIR_EVT ∉ journalKeys by decide)
  have place : (⟨F.PAIR_EVT_EVENTS.key, F.PAIR_EVT_EVENTS.lo + bit, F.PAIR_EVT_EVENTS.lo + bit⟩ : Fld) = ⟨K.PAIR_EVT, bit, bit⟩ := by
    rw [show F.PAIR_EVT_EVENTS.lo = 0 from rfl, Nat.zero_add]
    rfl
  rw [place]
  exact set

/-! ## Messages taken -/

theorem State.takePair_some {ty : Nat} {f : InFrame} {u : State} (h : s.takePair ty = some (f, u)) : u = s.inboxTaken f := s.takeInbox_some h

/-! ## The journal of the standby -/

theorem State.putStatement_keys (e : JEntry) : s.RegsBut (s.putStatement e) [K.JRN_CP_LO, K.JRN_CP_HI, K.JRN_STATUS] := by
  have eq : s.putStatement e = if (s.statementAsked e).flag (F.LMS_STATUS_READY 1) then s.statementAsked e
      else (s.statementAsked e).setFld F.JRN_STATUS_SIGN_WAIT 1 := rfl
  have asked : s.RegsBut (s.statementAsked e) [K.JRN_CP_LO, K.JRN_CP_HI, K.JRN_STATUS] :=
    ((State.regsBut_setPair _ K.JRN_CP_LO K.JRN_CP_HI e.jseq).mono (by decide)).after rfl
  rw [eq]
  split
  · exact asked
  · exact asked.comp ((State.regsBut_setFld _ _ _).mono (by decide))

/-- A command of the active unit waits for its commit. -/
def State.awaitCommit (s : State) (e : JEntry) : State :=
  { s with twin := { s.twin with uncommitted := s.twin.uncommitted ++
      [⟨.spi, beAt e.body 9 1, beAt e.body 12 4, beAt e.body 10 2, [], e.jseq, 0, 0⟩] } }

theorem State.takeEntry_eq (e : JEntry) : s.takeEntry e =
    if beAt e.body 8 1 = 7 then (s.putEntry e).putStatement e
    else if beAt e.body 8 1 = 4 ∧ beAt e.body 9 1 < 64 then (s.putEntry e).setFld (F.MGT_LAST_SEQ_SEQ (beAt e.body 9 1)) (beAt e.body 12 4)
    else if beAt e.body 8 1 = 1 then (s.putEntry e).awaitCommit e else s.putEntry e := rfl

/-- The entry the standby takes: its chain goes on with it, and only its LAST_SEQ, a checkpoint's statement and the commands not yet committed
change beside. -/
theorem State.takeEntry_takes (e : JEntry) (small : e.jseq < 2 ^ 64) : (s.takeEntry e).mgt.jrn = (e :: s.mgt.jrn).take 65536 ∧
    (s.takeEntry e).pair K.JRN_HEAD_LO K.JRN_HEAD_HI = e.jseq ∧ (s.takeEntry e).twin.txSeq = s.twin.txSeq ∧
    s.Only (s.takeEntry e) [.regs, .cnts, .data, .mgt, .twin, .key] := by
  have put : (s.putEntry e).mgt.jrn = (e :: s.mgt.jrn).take 65536 := rfl
  have head : (s.putEntry e).pair K.JRN_HEAD_LO K.JRN_HEAD_HI = e.jseq := State.pair_setPair _ (by decide) small
  have stated : s.Only ((s.putEntry e).putStatement e) [.regs, .cnts, .data, .mgt, .twin, .key] :=
    State.Only.comp (t := s.putEntry e) rfl ((State.putStatement_only _ e).mono _ (by decide))
  rw [State.takeEntry_eq]
  by_cases seven : beAt e.body 8 1 = 7
  · rw [if_pos seven]
    have kept := (s.putEntry e).putStatement_keys e
    refine ⟨(State.putStatement_asks e).1.trans put, ?_, (State.putStatement_only _ e).keeps (fun s => s.twin.txSeq) rfl, stated⟩
    rw [State.pair, kept _ (by decide), kept _ (by decide)]
    exact head
  rw [if_neg seven]
  by_cases four : beAt e.body 8 1 = 4 ∧ beAt e.body 9 1 < 64
  · rw [if_pos four]
    refine ⟨put, ?_, rfl, rfl⟩
    have lo : (F.MGT_LAST_SEQ_SEQ (beAt e.body 9 1)).key ≠ K.JRN_HEAD_LO := by
      simp only [F.MGT_LAST_SEQ_SEQ, K.MGT_LAST_SEQ, K.JRN_HEAD_LO]
      omega
    have hi : (F.MGT_LAST_SEQ_SEQ (beAt e.body 9 1)).key ≠ K.JRN_HEAD_HI := by
      simp only [F.MGT_LAST_SEQ_SEQ, K.MGT_LAST_SEQ, K.JRN_HEAD_HI]
      omega
    rw [State.pair, State.reg_setFld_other _ _ _ lo, State.reg_setFld_other _ _ _ hi]
    exact head
  rw [if_neg four]
  by_cases one : beAt e.body 8 1 = 1
  · rw [if_pos one]
    exact ⟨put, head, rfl, rfl⟩
  · rw [if_neg one]
    exact ⟨put, head, rfl, rfl⟩

theorem exec_journalReceive_takes {f : InFrame} {u : State} {e : JEntry} (hl : s.linked = true) (role : s.role = 4)
    (h : s.takePair 2 = some (f, u)) (he : e = entryAt (pmBody f.bytes) 8) (follows : s.follows e = true) (small : e.jseq < 2 ^ 64) :
    ∃ t, exec .journalReceive s = .next t ∧ s.Only t [.regs, .cnts, .data, .mgt, .twin, .key] ∧ t.mgt.jrn = (e :: s.mgt.jrn).take 65536 ∧
      t.pair K.JRN_HEAD_LO K.JRN_HEAD_HI = e.jseq ∧ t.pairSeq 3 = (s.pairSeq 3 + 1) % 2 ^ 32 := by
  have run := exec_journalReceive s hl
  obtain rfl := State.takePair_some h
  have effect : s.journalReceive = ((s.inboxTaken f).takeEntry e).pairSend 3 (beBytes 8 e.jseq) := by
    have role' : (s.inboxTaken f).role = 4 := role
    have follows' : (s.inboxTaken f).follows e = true := follows
    simp only [State.journalReceive, h, role', ← he, follows', ne_eq, not_true, if_true, if_false]
  obtain ⟨jrn, head, seq, only⟩ := State.takeEntry_takes (s := s.inboxTaken f) e small
  rw [effect] at run
  generalize (s.inboxTaken f).takeEntry e = v at *
  have sent := State.pairSend_only (s := v) 3 (beBytes 8 e.jseq)
  refine ⟨_, run, s.only_confine _ _, (congrArg MgtSt.jrn (sent.keeps State.mgt rfl)).trans jrn, ?_, ?_⟩
  · exact head
  · refine (State.pairSend_pairSeq (s := v) 3 _).trans ?_
    rw [State.pairSeq, seq]
    rfl

/-- The standby rejoins, with the event. -/
def State.rejoining (s : State) : State :=
  { s.pairEvent 7 with twin := { (s.pairEvent 7).twin with rejoined := false, step := 1, tSync := none, snapping := false } }

theorem State.settleReady_not (h : s.pairReady = false) : s.settleReady = s.setFld F.PAIR_STATUS_READY 0 := by
  unfold State.settleReady
  simp only [h, Bool.false_eq_true, if_false]
  rfl

theorem State.missEntry_rejoins (step : s.twin.step = 0) : s.missEntry = s.rejoining.setFld F.PAIR_STATUS_READY 0 := by
  have unready : s.rejoining.pairReady = false := by
    have out : s.rejoining.twin.rejoined = false := rfl
    rw [State.pairReady, out]
    simp
  rw [← State.settleReady_not unready, State.missEntry, step, if_neg (by decide)]
  rfl

theorem exec_journalReceive_misses {f : InFrame} {u : State} {e : JEntry} (hl : s.linked = true) (pair : s.fld F.PAIR_CFG_MODE = 1)
    (role : s.role = 4) (h : s.takePair 2 = some (f, u)) (he : e = entryAt (pmBody f.bytes) 8) (follows : s.follows e = false)
    (later : s.nextJseq ≤ e.jseq) (step : s.twin.step = 0) :
    ∃ t, exec .journalReceive s = .next t ∧ s.Only t [.regs, .cnts, .data, .mgt, .twin, .key] ∧ t.mgt.jrn = s.mgt.jrn ∧ t.twin.step = 1 ∧
      t.twin.rejoined = false ∧ t.flag F.PAIR_STATUS_READY = false ∧ (t.fld F.PAIR_EVT_EVENTS).testBit 7 = true := by
  have run := exec_journalReceive s hl
  obtain rfl := State.takePair_some h
  have effect : s.journalReceive = (s.inboxTaken f).rejoining.setFld F.PAIR_STATUS_READY 0 := by
    have role' : (s.inboxTaken f).role = 4 := role
    have follows' : (s.inboxTaken f).follows e = false := follows
    have later' : ¬ e.jseq < (s.inboxTaken f).nextJseq := Nat.not_lt.mpr later
    rw [← State.missEntry_rejoins (s := s.inboxTaken f) step]
    simp only [State.journalReceive, h, role', ← he, follows', later', ne_eq, not_true, if_false, Bool.false_eq_true]
  have held : (s.inboxTaken f).journalHeld = true := by
    have role' : s.fld F.PAIR_STATUS_ROLE = 4 := role
    have shown : (s.inboxTaken f).journalHeld = (s.fld F.PAIR_CFG_MODE == 1 && s.fld F.PAIR_STATUS_ROLE == 4) := rfl
    rw [shown, pair, role']
    rfl
  rw [effect] at run
  refine ⟨_, run, s.only_confine _ _, ?_, rfl, rfl, ?_, ?_⟩
  · exact State.raiseFlag_jrn (s := s.inboxTaken f) _ _ (by decide) held
  · exact ((s.inboxTaken f).rejoining.flag_setFld_same F.PAIR_STATUS_READY 0 rfl (by decide)).trans rfl
  · have kept := (s.inboxTaken f).rejoining.fld_setFld_key F.PAIR_STATUS_READY F.PAIR_EVT_EVENTS 0 (by decide)
    exact (congrArg (fun n => Nat.testBit n 7) kept).trans (State.pairEvent_shows (s := s.inboxTaken f) 7 (by decide))

/-! ## Commits -/

theorem State.journaledCmd_fields {e : JEntry} {c : Cmd} (h : s.journaledCmd e = some c) :
    c.origin = beAt e.body 9 1 ∧ c.seq = beAt e.body 12 4 := by
  unfold State.journaledCmd at h
  obtain ⟨b, _, rfl⟩ := Option.map_eq_some_iff.mp h
  exact ⟨rfl, rfl⟩

/-- A command whose commit arrives is no longer uncommitted, and LAST_SEQ is its. -/
def State.committed (s : State) (j : Nat) (e : JEntry) : State :=
  ({ s with twin := { s.twin with uncommitted := s.twin.uncommitted.filter (fun c => c.jseq != j) } } : State).setFld
    (F.MGT_LAST_SEQ_SEQ (beAt e.body 9 1)) (beAt e.body 12 4)

theorem State.journaledCmd_committed (j : Nat) (e : JEntry) : (s.committed j e).journaledCmd e = s.journaledCmd e := by
  have body : (s.committed j e).journaledBody e = s.journaledBody e := rfl
  have gen : (s.committed j e).fld (F.CMD_GEN_GEN (beAt e.body 9 1)) = s.fld (F.CMD_GEN_GEN (beAt e.body 9 1)) :=
    State.fld_setFld_key _ _ _ _ (lastSeq_ne_gen _)
  have tag : (s.committed j e).fld F.BRG_TAG_NEXT = s.fld F.BRG_TAG_NEXT := by
    refine State.fld_setFld_key _ _ _ _ ?_
    simp only [F.MGT_LAST_SEQ_SEQ, K.MGT_LAST_SEQ, F.BRG_TAG_NEXT, K.BRG_TAG]
    omega
  rw [State.journaledCmd, body, gen, tag, State.journaledCmd]

/-- The registers of CMD_GEN that the acceptance of a command changes. -/
def genKeys (c : Cmd) : List Nat := if c.opcode = 0x34 then [K.CMD_GEN c.origin] else []

theorem State.raiseGen_genKeys (c : Cmd) : s.RegsBut (s.raiseGen c) (genKeys c) := by
  by_cases op : c.opcode = 0x34
  · rw [genKeys, if_pos op]
    exact s.raiseGen_regsBut c
  · rw [State.raiseGen, if_neg (fun h => op h.1)]
    exact State.RegsBut.refl s _

theorem State.raiseGen_time (c : Cmd) : (s.raiseGen c).time = s.time ∧ (s.raiseGen c).twin = s.twin := by
  unfold State.raiseGen State.writeRec State.setTwoPhase
  dsimp only
  split
  · split <;> exact ⟨rfl, rfl⟩
  · exact ⟨rfl, rfl⟩

theorem State.raiseGen_wraps (c : Cmd) (ho : c.origin < 64) (op : c.opcode = 0x34) :
    (s.raiseGen c).fld (F.CMD_GEN_GEN c.origin) = (s.fld (F.CMD_GEN_GEN c.origin) + 1) % 2 ^ 16 := by
  have written (u : State) (n : Nat) (b : List Byte) (f : Fld) : (u.writeRec n b).fld f = u.fld f := by
    unfold State.writeRec State.setTwoPhase
    split <;> rfl
  rw [State.raiseGen, if_pos ⟨op, ho⟩]
  exact (written _ _ _ _).trans (s.fld_setFld_same _ _ (show 0 ≤ 15 by decide) (show 15 < 32 by decide))

theorem exec_commitReceive_schedules {f : InFrame} {u : State} {e : JEntry} {c : Cmd} {T : Nat} (hl : s.linked = true) (role : s.role = 4)
    (h : s.takePair 4 = some (f, u)) (entry : s.entryOf (beAt (pmBody f.bytes) 0 8) = some e) (cmd : s.journaledCmd e = some c)
    (ho : c.origin < 64) (hT : T = beAt (pmBody f.bytes) 8 6 * 1000000000 + beAt (pmBody f.bytes) 14 4) (ahead : s.nowNs < T) :
    ∃ t, exec .commitReceive s = .next t ∧ s.Only t [.regs, .cnts, .mgt, .twin, .key] ∧ t.twin.commits = s.twin.commits ++ [(c, T)] ∧
      t.fld (F.MGT_LAST_SEQ_SEQ c.origin) = c.seq ∧ t.mgt.execQ = s.mgt.execQ ∧
      (c.opcode = 0x34 → t.fld (F.CMD_GEN_GEN c.origin) = (s.fld (F.CMD_GEN_GEN c.origin) + 1) % 2 ^ 16) ∧
      s.RegsBut t (K.MGT_LAST_SEQ c.origin :: if c.opcode = 0x34 then [K.CMD_GEN c.origin] else []) := by
  have run := exec_commitReceive s hl
  obtain rfl := State.takePair_some h
  let v := (s.inboxTaken f).committed (beAt (pmBody f.bytes) 0 8) e
  obtain ⟨origin, seq⟩ := State.journaledCmd_fields cmd
  have cmd' : v.journaledCmd e = some c := (State.journaledCmd_committed _ e).trans cmd
  obtain ⟨time, twin⟩ := State.raiseGen_time (s := v) c
  have effect : s.commitReceive = { v.raiseGen c with twin := { (v.raiseGen c).twin with commits := (v.raiseGen c).twin.commits ++ [(c, T)] } } := by
    have role' : (s.inboxTaken f).role = 4 := role
    have entry' : (s.inboxTaken f).entryOf (beAt (pmBody f.bytes) 0 8) = some e := entry
    have ahead' : (v.raiseGen c).nowNs < T := by
      rw [State.nowNs, time]
      exact ahead
    have noted : ({ s.inboxTaken f with twin := { (s.inboxTaken f).twin with
        uncommitted := (s.inboxTaken f).twin.uncommitted.filter (fun c => c.jseq != beAt (pmBody f.bytes) 0 8) } } : State).setFld
          (F.MGT_LAST_SEQ_SEQ (beAt e.body 9 1)) (beAt e.body 12 4) = v := rfl
    simp only [State.commitReceive, h, role', entry', noted, cmd', ← hT, ahead', ne_eq, not_true, if_false, if_true]
  have set : v.fld (F.MGT_LAST_SEQ_SEQ c.origin) = c.seq := by
    rw [origin, seq]
    exact (State.fld_setFld_same _ _ _ (show 0 ≤ 31 by decide) (show 31 < 32 by decide)).trans (Nat.mod_eq_of_lt (beAt_lt e.body 12 4))
  have first : s.RegsBut v [K.MGT_LAST_SEQ c.origin] := by
    rw [origin]
    exact State.regsBut_setFld s (F.MGT_LAST_SEQ_SEQ (beAt e.body 9 1)) (beAt e.body 12 4)
  have gen : v.fld (F.CMD_GEN_GEN c.origin) = s.fld (F.CMD_GEN_GEN c.origin) :=
    first.fld (fun m => lastSeq_ne_gen _ (List.mem_singleton.mp m).symm)
  have raised := State.raiseGen_genKeys (s := v) c
  rw [effect] at run
  refine ⟨_, run, s.only_confine _ _, ?_, ?_, ?_, fun op => ?_, ?_⟩
  · exact (congrArg (fun p => PairSt.commits p ++ [(c, T)]) twin).trans rfl
  · refine ((v.raiseGen_regsBut c).fld (f := F.MGT_LAST_SEQ_SEQ c.origin) ?_).trans set
    exact fun m => lastSeq_ne_gen _ (List.mem_singleton.mp m)
  · exact (congrArg MgtSt.execQ (v.raiseGen_mgt c)).trans rfl
  · exact (State.raiseGen_wraps c ho op).trans (by rw [gen])
  · exact (first.mono (fun _ m => List.mem_cons.mpr (.inl (List.mem_singleton.mp m)))).comp
      (raised.mono (fun _ m => List.mem_cons_of_mem _ m))

/-! ## Catching up -/

/-- The entry of the active unit replaces what differs. -/
def State.entryReplaced (s : State) (e : JEntry) : State :=
  ({ s with mgt := { s.mgt with jrn := s.mgt.jrn.filter (fun x => decide (x.jseq < e.jseq)) } } : State).putEntry e

theorem State.catchUpRun_jrn (e : JEntry) : (s.catchUpRun e).mgt.jrn = s.mgt.jrn ∧ (s.catchUpRun e).cnts = s.cnts := by
  unfold State.catchUpRun
  dsimp only
  split
  · exact ⟨rfl, rfl⟩
  · split
    · exact ⟨rfl, rfl⟩
    · split
      · split
        · exact ⟨(congrArg MgtSt.jrn (State.raiseGen_mgt _ _)).trans rfl, (State.raiseGen_cnts _ _).trans rfl⟩
        · exact ⟨rfl, rfl⟩
      · exact ⟨rfl, rfl⟩

/-- What an entry of a catch-up changes beside the journal. -/
def State.entryNoted (s : State) (e : JEntry) : State :=
  if (beAt e.body 8 1 = 1 ∨ beAt e.body 8 1 = 4) ∧ beAt e.body 9 1 < 64 then
    (if beAt e.body 8 1 = 7 then s.putStatement e else s).setFld (F.MGT_LAST_SEQ_SEQ (beAt e.body 9 1)) (beAt e.body 12 4)
  else if beAt e.body 8 1 = 7 then s.putStatement e else s

theorem State.entryNoted_jrn (e : JEntry) : (s.entryNoted e).mgt.jrn = s.mgt.jrn ∧ (s.entryNoted e).cnts = s.cnts := by
  have stated : (if beAt e.body 8 1 = 7 then s.putStatement e else s).mgt.jrn = s.mgt.jrn ∧
      (if beAt e.body 8 1 = 7 then s.putStatement e else s).cnts = s.cnts := by
    split
    · exact ⟨(State.putStatement_asks e).1, (s.putStatement_only e).keeps State.cnts rfl⟩
    · exact ⟨rfl, rfl⟩
  unfold State.entryNoted
  split
  · exact stated
  · exact stated

theorem State.catchUpEntry_eq (e : JEntry) : s.catchUpEntry e = if s.entryOf e.jseq = some e then s
    else (((if (s.mgt.jrn.filter (fun x => decide (e.jseq ≤ x.jseq))).length = 0 then s
      else s.count (C.pair 14) (s.mgt.jrn.filter (fun x => decide (e.jseq ≤ x.jseq))).length).entryReplaced e).entryNoted e).catchUpRun e := rfl

theorem State.catchUpEntry_replaces (e : JEntry) (new : s.entryOf e.jseq ≠ some e) :
    (s.catchUpEntry e).mgt.jrn = (e :: s.mgt.jrn.filter (fun x => decide (x.jseq < e.jseq))).take 65536 ∧
    (s.catchUpEntry e).cnt (C.pair 14) = s.cnt (C.pair 14) +
      BitVec.ofNat 64 (s.mgt.jrn.filter (fun x => decide (e.jseq ≤ x.jseq))).length := by
  let n := (s.mgt.jrn.filter (fun x => decide (e.jseq ≤ x.jseq))).length
  let v : State := if n = 0 then s else s.count (C.pair 14) n
  have jrn : v.mgt.jrn = s.mgt.jrn := by
    show (if n = 0 then s else s.count (C.pair 14) n).mgt.jrn = s.mgt.jrn
    split <;> rfl
  have cnt : v.cnt (C.pair 14) = s.cnt (C.pair 14) + BitVec.ofNat 64 n := by
    show (if n = 0 then s else s.count (C.pair 14) n).cnt (C.pair 14) = _
    split
    · next none =>
      rw [none]
      exact (BitVec.add_zero _).symm
    · exact mapGet_mapSet_same (fun _ => 0) s.cnts (C.pair 14) _
  have eq : s.catchUpEntry e = ((v.entryReplaced e).entryNoted e).catchUpRun e := (s.catchUpEntry_eq e).trans (if_neg new)
  obtain ⟨jrn₁, cnts₁⟩ := State.entryNoted_jrn (s := v.entryReplaced e) e
  obtain ⟨jrn₂, cnts₂⟩ := State.catchUpRun_jrn (s := (v.entryReplaced e).entryNoted e) e
  rw [eq]
  refine ⟨jrn₂.trans (jrn₁.trans ?_), ?_⟩
  · show (e :: v.mgt.jrn.filter (fun x => decide (x.jseq < e.jseq))).take 65536 = _
    rw [jrn]
  · exact (State.cnt_congr cnts₂ _).trans ((State.cnt_congr cnts₁ _).trans cnt)

theorem exec_catchUpReceive_replaces {f : InFrame} {u : State} {e : JEntry} (hl : s.linked = true) (role : s.role = 4)
    (h : s.takePair 11 = some (f, u)) (step : s.twin.step = 3) (one : (pmBody f.bytes).length = 64) (he : e = entryAt (pmBody f.bytes) 0)
    (new : s.entryOf e.jseq ≠ some e) :
    ∃ t, exec .catchUpReceive s = .next t ∧ s.Only t [.regs, .cnts, .mgt, .key] ∧
      t.mgt.jrn = (e :: s.mgt.jrn.filter (fun x => decide (x.jseq < e.jseq))).take 65536 ∧
      t.cnt (C.pair 14) = s.cnt (C.pair 14) + BitVec.ofNat 64 (s.mgt.jrn.filter (fun x => decide (e.jseq ≤ x.jseq))).length := by
  have run := exec_catchUpReceive s hl
  obtain rfl := State.takePair_some h
  have effect : s.catchUpReceive = (s.inboxTaken f).catchUpEntry e := by
    have role' : (s.inboxTaken f).role = 4 := role
    have step' : (s.inboxTaken f).twin.step = 3 := step
    have entries : (List.range ((pmBody f.bytes).length / 64)).map (fun k => entryAt (pmBody f.bytes) (64 * k)) = [e] := by
      rw [one, he]
      rfl
    simp only [State.catchUpReceive, h, role', step', entries, ne_eq, not_true, or_self, if_false]
    rfl
  obtain ⟨jrn, cnt⟩ := State.catchUpEntry_replaces (s := s.inboxTaken f) e new
  rw [effect] at run
  exact ⟨_, run, s.only_confine _ _, jrn, cnt⟩

/-! ## Acknowledgements -/

/-- No acknowledgement is awaited. -/
def State.unawaited (s : State) : State := { s with twin := { s.twin with acks := [] } }

/-- The time at which a command accepted now is applied. -/
def State.applyAt (s : State) : Nat := s.nowNs + 1000 * s.fld F.PAIR_TIMING_APPLY_US

theorem State.acceptCmd_keptParts (c : Cmd) : (s.acceptCmd c).time = s.time ∧ (s.acceptCmd c).twin = s.twin := by
  have only := State.acceptedAnswer_only (s := s) c
  obtain ⟨time, twin⟩ := State.raiseGen_time (s := s.acceptedAnswer c) c
  exact ⟨time.trans (only.keeps State.time rfl), twin.trans (only.keeps State.twin rfl)⟩

theorem State.acceptCmd_genKeys (c : Cmd) : s.RegsBut (s.acceptCmd c) (K.MGT_LAST_SEQ c.origin :: genKeys c) := by
  have seq : s.RegsBut (s.acceptedAnswer c) [K.MGT_LAST_SEQ c.origin] :=
    (s.regsBut_setFld (F.MGT_LAST_SEQ_SEQ c.origin) c.seq).after ((State.acceptedAnswer_only c).keeps State.regs rfl)
  exact (seq.mono (fun _ m => List.mem_cons.mpr (.inl (List.mem_singleton.mp m)))).comp
    ((State.raiseGen_genKeys (s := s.acceptedAnswer c) c).mono (fun _ m => List.mem_cons_of_mem _ m))

/-- The registers of the pair are none that the acceptance of a command changes. -/
theorem genKeys_apart {c : Cmd} (ho : c.origin < 64) {k : Nat} (high : 0x250000 ≤ k) (low : k < 0x340000) :
    k ∉ K.MGT_LAST_SEQ c.origin :: genKeys c := by
  unfold genKeys
  split <;> simp only [K.MGT_LAST_SEQ, K.CMD_GEN, List.mem_cons, List.not_mem_nil, or_false] <;> omega

theorem State.acceptCmd_lastSeq (c : Cmd) (hs : c.seq < 2 ^ 32) : (s.acceptCmd c).fld (F.MGT_LAST_SEQ_SEQ c.origin) = c.seq ∧
    (s.acceptCmd c).cnt (C.mgt 1) = s.cnt (C.mgt 1) + 1 := by
  have only := State.acceptedAnswer_only (s := s) c
  constructor
  · refine (((s.acceptedAnswer c).raiseGen_regsBut c).fld (f := F.MGT_LAST_SEQ_SEQ c.origin) ?_).trans ?_
    · exact fun h => lastSeq_ne_gen _ (List.mem_singleton.mp h)
    · rw [State.fld_congr (only.keeps State.regs rfl)]
      exact (s.fld_setFld_same _ c.seq (show 0 ≤ 31 by decide) (show 31 < 32 by decide)).trans (Nat.mod_eq_of_lt hs)
  · refine (State.cnt_congr ((s.acceptedAnswer c).raiseGen_cnts c) _).trans ?_
    rw [State.cnt_congr (only.keeps State.cnts rfl)]
    exact State.cnt_inc_same _ _

/-- In a pair the command that is accepted is scheduled for its time, and the partner is told. -/
theorem State.acceptAcked_schedules {c : Cmd} {n : Nat} (pair : s.fld F.PAIR_CFG_MODE = 1) (role : s.role = 3) (ha : s.twin.acks = [(c, n)])
    (ho : c.origin < 64) (hs : c.seq < 2 ^ 32) :
    s.acceptAcked.twin.acks = [] ∧ s.acceptAcked.fld (F.MGT_LAST_SEQ_SEQ c.origin) = c.seq ∧
    s.RegsBut s.acceptAcked (K.MGT_LAST_SEQ c.origin :: genKeys c) ∧ s.acceptAcked.twin.commits = s.twin.commits ++ [(c, s.applyAt)] ∧
    s.acceptAcked.pairSeq 4 = (s.pairSeq 4 + 1) % 2 ^ 32 ∧ s.acceptAcked.cnt (C.mgt 1) = s.cnt (C.mgt 1) + 1 := by
  obtain ⟨time, twin⟩ := State.acceptCmd_keptParts (s := s.unawaited) c
  have regs := State.acceptCmd_genKeys (s := s.unawaited) c
  obtain ⟨seq, count⟩ := State.acceptCmd_lastSeq (s := s.unawaited) c hs
  have active : s.pairActive = true := by
    have role' : s.fld F.PAIR_STATUS_ROLE = 3 := role
    rw [State.pairActive, pair, role']
    rfl
  have effect : s.acceptAcked = (s.unawaited.acceptCmd c).scheduleCmd c := by
    simp only [State.acceptAcked, ha]
    exact if_pos active
  generalize s.unawaited.acceptCmd c = v at *
  have active' : v.pairActive = true :=
    (State.pairActive_congr regs (genKeys_apart ho (by decide) (by decide)) (genKeys_apart ho (by decide) (by decide))).trans active
  have at' : v.applyAt = s.applyAt := by
    rw [State.applyAt, State.nowNs, time, regs.fld (f := F.PAIR_TIMING_APPLY_US) (genKeys_apart ho (by decide) (by decide))]
    rfl
  let b := beBytes 8 c.jseq ++ beBytes 6 (secOf v.applyAt) ++ beBytes 4 (nsOf v.applyAt)
  have scheduled : v.scheduleCmd c =
      { v.pairSend 4 b with twin := { (v.pairSend 4 b).twin with commits := (v.pairSend 4 b).twin.commits ++ [(c, v.applyAt)] } } := by
    rw [State.scheduleCmd, if_pos active']
    rfl
  have sent := State.pairSend_only (s := v) 4 b
  have kept {α : Type} (g : PairSt → α) (hg : ∀ p q, g { p with txSeq := q } = g p) : g (v.pairSend 4 b).twin = g s.unawaited.twin :=
    (State.pairSend_keeps g hg 4 b).trans (congrArg g twin)
  rw [effect, scheduled]
  refine ⟨kept PairSt.acks (fun _ _ => rfl), ?_, ?_, ?_, ?_, ?_⟩
  · exact (State.fld_congr (sent.keeps State.regs rfl) _).trans seq
  · exact (regs.from rfl).after (sent.keeps State.regs rfl)
  · show (v.pairSend 4 b).twin.commits ++ [(c, v.applyAt)] = _
    rw [kept PairSt.commits (fun _ _ => rfl), at']
    rfl
  · refine (State.pairSend_pairSeq (s := v) 4 b).trans ?_
    rw [State.pairSeq, twin]
    rfl
  · exact (State.pairSend_cntsBut (s := v) 4 b (C.mgt 1) (by decide)).trans count

theorem exec_journalAckReceive_accepts {c : Cmd} {n : Nat} {f : InFrame} {u : State} (hl : s.linked = true) (pair : s.fld F.PAIR_CFG_MODE = 1)
    (role : s.role = 3) (ha : s.twin.acks = [(c, n)]) (ho : c.origin < 64) (hs : c.seq < 2 ^ 32) (h : s.takePair 3 = some (f, u))
    (whole : c.jseq + s.groupSize c.jseq ≤ beAt (pmBody f.bytes) 0 8 + 1) :
    ∃ t, exec .journalAckReceive s = .next t ∧ s.Only t [.regs, .cnts, .data, .mgt, .twin, .key] ∧ t.twin.acks = [] ∧
      t.fld (F.MGT_LAST_SEQ_SEQ c.origin) = c.seq ∧ s.RegsBut t (K.MGT_LAST_SEQ c.origin :: genKeys c) ∧
      t.twin.commits = s.twin.commits ++ [(c, s.applyAt)] ∧ t.pairSeq 4 = (s.pairSeq 4 + 1) % 2 ^ 32 ∧
      t.cnt (C.mgt 1) = s.cnt (C.mgt 1) + 1 := by
  have run := exec_journalAckReceive s hl
  obtain rfl := State.takePair_some h
  have effect : s.journalAck = ((s.inboxTaken f).inc (C.pair 5)).acceptAcked := by
    have awaited : ((s.inboxTaken f).inc (C.pair 5)).twin.acks = [(c, n)] := ha
    have group : ((s.inboxTaken f).inc (C.pair 5)).groupSize c.jseq = s.groupSize c.jseq := rfl
    simp only [State.journalAck, h, awaited, group, whole, if_true]
  obtain ⟨acks, seq, regs, commits, used, count⟩ :=
    State.acceptAcked_schedules (s := (s.inboxTaken f).inc (C.pair 5)) (c := c) (n := n) pair role ha ho hs
  rw [effect] at run
  exact ⟨_, run, s.only_confine _ _, acks, seq, regs.from rfl, commits, used, count.trans
    (congrArg (· + 1) ((s.inboxTaken f).cnt_inc_other (by decide)))⟩

/-- The entries of a command that awaits its acknowledgement. -/
def State.awaitedEntries (s : State) (c : Cmd) : List JEntry :=
  (s.mgt.jrn.filter (fun e => decide (c.jseq ≤ e.jseq) && decide (e.jseq < c.jseq + s.groupSize c.jseq))).reverse

/-- Entries are sent to the partner. -/
def State.sendEntries (s : State) (l : List JEntry) : State := forEach l (fun e s => s.pairSend 2 (beBytes 8 e.jseq ++ e.bytes)) s

theorem forEach_twin {α β : Type} (g : PairSt → β) (f : α → State → State) (hf : ∀ x s, g (f x s).twin = g (State.twin s)) (l : List α) (s : State) :
    g (forEach l f s).twin = g s.twin := by
  induction l generalizing s with
  | nil => rfl
  | cons x r ih => exact (ih (f x s)).trans (hf x s)

theorem exec_journalAckTimeout_repeats {c : Cmd} {n : Nat} (hl : s.linked = true) (ha : s.twin.acks = [(c, n)]) (few : n ≤ 3)
    (here : s.partnerHere = true) :
    ∃ t, exec .journalAckTimeout s = .next t ∧ s.Only t [.cnts, .data, .twin] ∧ t.twin.acks = [(c, n + 1)] ∧
      t.cnt (C.pair 6) = s.cnt (C.pair 6) + 1 ∧ t.twin.commits = s.twin.commits ∧ s.RegsBut t [] := by
  have run := exec_journalAckTimeout s hl
  let v := s.sendEntries (s.awaitedEntries c)
  have effect : s.ackTimeout = ({ v with twin := { v.twin with acks := [(c, n + 1)] } } : State).inc (C.pair 6) := by
    simp only [State.ackTimeout, ha, here, Nat.not_lt.mpr few, Bool.not_true, Bool.false_eq_true, or_self, if_false]
    rfl
  have only : s.Only v [.cnts, .data, .twin] := forEach_only _ (fun e s => s.pairSend_only 2 _) _ s
  have cnts : s.CntsBut v [C.nm 11] := forEach_cntsBut _ (fun e s => s.pairSend_cntsBut 2 _) _ s
  have commits : v.twin.commits = s.twin.commits :=
    forEach_twin PairSt.commits _ (fun e s => State.pairSend_keeps PairSt.commits (fun _ _ => rfl) 2 _) _ s
  have whole : s.Only (({ v with twin := { v.twin with acks := [(c, n + 1)] } } : State).inc (C.pair 6)) [.cnts, .data, .twin] := only.comp rfl
  rw [effect, whole.confine _ (by decide)] at run
  refine ⟨_, run, whole, rfl, ?_, commits, State.regsBut_of_regs (whole.keeps State.regs rfl) _⟩
  exact (State.cnt_inc_same _ _).trans (congrArg (· + 1) (cnts (C.pair 6) (by decide)))

theorem exec_journalAckTimeout_accepts {c : Cmd} {n : Nat} (hl : s.linked = true) (pair : s.fld F.PAIR_CFG_MODE = 1) (role : s.role = 3)
    (ha : s.twin.acks = [(c, n)]) (ho : c.origin < 64) (hs : c.seq < 2 ^ 32) (gone : 3 < n ∨ s.partnerHere = false) :
    ∃ t, exec .journalAckTimeout s = .next t ∧ s.Only t [.regs, .cnts, .data, .mgt, .twin, .key] ∧ t.twin.acks = [] ∧
      t.fld (F.MGT_LAST_SEQ_SEQ c.origin) = c.seq ∧ t.twin.commits = s.twin.commits ++ [(c, s.applyAt)] := by
  have run := exec_journalAckTimeout s hl
  have effect : s.ackTimeout = s.acceptAcked := by
    simp only [State.ackTimeout, ha]
    exact if_pos (by simpa using gone)
  obtain ⟨acks, seq, _, commits, _⟩ := State.acceptAcked_schedules (s := s) (c := c) (n := n) pair role ha ho hs
  rw [effect] at run
  exact ⟨_, run, s.only_confine _ _, acks, seq, commits⟩

end

/-- Settles O53: the standby's journal takes the entry that follows it, or the standby rejoins; the active unit's command is accepted when its
acknowledgement arrives or no more is to be waited for, and is applied at its time. -/
theorem journalGoesToTheStandby : Obligations.JournalGoesToTheStandby := by
  unfold Obligations.JournalGoesToTheStandby
  intro s hl pair
  refine ⟨fun role _ => ⟨fun f u e h he => ⟨fun follows small => exec_journalReceive_takes hl role h he follows small,
      fun follows later step => exec_journalReceive_misses hl pair role h he follows later step⟩,
    fun f u e c T h entry cmd ho hT ahead => exec_commitReceive_schedules hl role h entry cmd ho hT ahead,
    fun f u e h step one he new => exec_catchUpReceive_replaces hl role h step one he new⟩, fun role c n ha ho hs => ⟨?_, ?_, ?_⟩, ?_⟩
  · exact fun f u h whole => exec_journalAckReceive_accepts hl pair role ha ho hs h whole
  · exact fun few here => exec_journalAckTimeout_repeats hl ha few here
  · exact fun gone => exec_journalAckTimeout_accepts hl pair role ha ho hs gone
  · exact ⟨_, exec_commandApplyTime s hl, rfl, rfl, rfl⟩

end Sys2Proof.Machine
end

section
/-!
SUPPORT. Roles of a pair (spec/15, R416 to R428): what each operation of the unit leaves of the pair's own registers and counters, the entry
into a role, and the role table.
-/
namespace Sys2Proof.Machine

/-- A register of the pair. -/
def ofPair (k : Nat) : Bool := decide (0x300000 ≤ k) && decide (k < 0x301000)

/-- A counter of the pair. -/
def ofPairCnt (a : Nat) : Bool := decide (0x301000 ≤ a) && decide (a < 0x302000)

/-- Of the pair's registers no field that meets none of `l`, and of its counters none outside `m`, is changed. -/
def State.PairBut (s t : State) (l : List Fld) (m : List Nat) : Prop :=
  (∀ g : Fld, ofPair g.key → l.all (fun f => f.beside g) = true → t.fld g = s.fld g) ∧ ∀ a, ofPairCnt a → a ∉ m → t.cnt a = s.cnt a

section
variable {s t u : State} {l l' : List Fld} {m m' : List Nat}

theorem State.PairBut.refl (s : State) (l : List Fld) (m : List Nat) : s.PairBut s l m := ⟨fun _ _ _ => rfl, fun _ _ _ => rfl⟩

theorem State.PairBut.comp (h : s.PairBut t l m) (h' : t.PairBut u l' m') : s.PairBut u (l ++ l') (m ++ m') := by
  obtain ⟨flds, cnts⟩ := h
  obtain ⟨flds', cnts'⟩ := h'
  refine ⟨fun g hg hl => ?_, fun a ha hm => ?_⟩
  · rw [List.all_append, Bool.and_eq_true] at hl
    exact (flds' g hg hl.2).trans (flds g hg hl.1)
  · obtain ⟨first, second⟩ := not_or.mp (fun h => hm (List.mem_append.mpr h))
    exact (cnts' a ha second).trans (cnts a ha first)

/-- Two changes within one frame. -/
theorem State.PairBut.also (h : s.PairBut t l m) (h' : t.PairBut u l m) : s.PairBut u l m :=
  ⟨fun g hg hl => (h'.1 g hg hl).trans (h.1 g hg hl), fun a ha hm => (h'.2 a ha hm).trans (h.2 a ha hm)⟩

theorem State.PairBut.mono (h : s.PairBut t l m) (hl : ∀ f ∈ l, f ∈ l') (hm : ∀ a ∈ m, a ∈ m') : s.PairBut t l' m' := by
  refine ⟨fun g hg all => h.1 g hg (List.all_eq_true.mpr (fun f hf => ?_)), fun a ha out => h.2 a ha (fun k => out (hm a k))⟩
  exact List.all_eq_true.mp all f (hl f hf)

theorem State.pairBut_of (regs : t.regs = s.regs) (cnts : t.cnts = s.cnts) (l : List Fld) (m : List Nat) : s.PairBut t l m :=
  ⟨fun g _ _ => State.fld_congr regs g, fun a _ _ => State.cnt_congr cnts a⟩

/-- What changes no register and no counter of the pair. -/
theorem State.pairBut_apart {keys cs : List Nat} (regs : s.RegsBut t keys) (cnts : s.CntsBut t cs)
    (hk : ∀ k ∈ keys, ¬ ofPair k) (hc : ∀ a ∈ cs, ¬ ofPairCnt a) (l : List Fld) (m : List Nat) : s.PairBut t l m :=
  ⟨fun _ hg _ => regs.fld (fun h => hk _ h hg), fun a ha _ => cnts a (fun h => hc a h ha)⟩

theorem State.pairBut_setFld (s : State) (f : Fld) (v : Nat) : s.PairBut (s.setFld f v) [f] [] := by
  refine ⟨fun g _ h => s.fld_setFld_beside v ?_, fun _ _ _ => rfl⟩
  simpa using h

/-- A field of a register that is none of the pair's. -/
theorem State.pairBut_setFld_apart (s : State) {f : Fld} (hf : ¬ ofPair f.key) (v : Nat) (l : List Fld) (m : List Nat) :
    s.PairBut (s.setFld f v) l m :=
  ⟨fun g hg _ => s.fld_setFld_key f g v (fun e => hf (e ▸ hg)), fun _ _ _ => rfl⟩

theorem State.pairBut_inc (s : State) (a : Nat) : s.PairBut (s.inc a) [] [a] :=
  ⟨fun _ _ _ => rfl, fun _ _ h => State.cnt_inc_other _ (fun e => h (List.mem_singleton.mpr e.symm))⟩

theorem State.pairBut_inc_apart (s : State) {a : Nat} (ha : ¬ ofPairCnt a) (l : List Fld) (m : List Nat) : s.PairBut (s.inc a) l m :=
  ⟨fun _ _ _ => rfl, fun _ h _ => State.cnt_inc_other _ (fun e => ha (e ▸ h))⟩

theorem State.PairBut.fld (h : s.PairBut t l m) {g : Fld} (hg : ofPair g.key) (hl : l.all (fun f => f.beside g) = true) : t.fld g = s.fld g :=
  h.1 g hg hl

theorem State.PairBut.flag (h : s.PairBut t l m) {g : Fld} (hg : ofPair g.key) (one : g.hi = g.lo) (hl : l.all (fun f => f.beside g) = true) :
    t.flag g = s.flag g := by rw [State.flag_eq _ _ one, h.1 g hg hl, State.flag_eq _ _ one]

theorem forEach_pairBut {α : Type} (f : α → State → State) (hf : ∀ x s, State.PairBut s (f x s) l m) (xs : List α) (s : State) :
    s.PairBut (forEach xs f s) l m := by
  induction xs generalizing s with
  | nil => exact .refl s l m
  | cons x r ih => exact (hf x s).also (ih (f x s))


theorem forEach_pairBut_of_mem {α : Type} (f : α → State → State) (xs : List α) (hf : ∀ x ∈ xs, ∀ s, State.PairBut s (f x s) l m) (s : State) :
    s.PairBut (forEach xs f s) l m := by
  induction xs generalizing s with
  | nil => exact .refl s l m
  | cons x r ih => exact (hf x (by simp) s).also (ih (fun y hy => hf y (List.mem_cons_of_mem _ hy)) (f x s))

theorem not_ofPair {k : Nat} (h : k < 0x300000) : ¬ ofPair k = true := by
  simp only [ofPair, Bool.and_eq_true, decide_eq_true_eq, not_and]
  omega

/-! ## What leaves the pair's registers alone -/

theorem State.raiseFlag_pairBut (s : State) (f : Fld) (d : List Byte) (hf : ¬ ofPair f.key) (l : List Fld) (m : List Nat) :
    s.PairBut (s.raiseFlag f d) l m := by
  refine State.pairBut_apart (s.raiseFlag_regsBut f d) (s.raiseFlag_cntsBut f d) (fun k hk => ?_) (by decide) l m
  rcases List.mem_cons.mp hk with rfl | hk
  · exact hf
  · have apart : ∀ k ∈ journalKeys, ¬ ofPair k := by decide
    exact apart k hk

/-- An event of the pair changes its own flag alone. -/
theorem State.pairEvent_pairBut (s : State) (bit : Nat) (m : List Nat) : s.PairBut (s.pairEvent bit) [⟨K.PAIR_EVT, bit, bit⟩] m := by
  have raised (u : State) (c : Nat) (d : List Byte) : u.PairBut (u.raise c d) [⟨K.PAIR_EVT, bit, bit⟩] m :=
    State.pairBut_apart (u.raise_regsBut c d) (u.raise_cntsBut c d) (by decide) (by decide) _ _
  unfold State.pairEvent State.raiseFlag
  split
  · exact .refl s _ _
  · exact ((s.pairBut_setFld ⟨K.PAIR_EVT, bit, bit⟩ 1).mono (by simp) (by simp)).also (raised _ _ _)

theorem State.appendGroup_pairBut (s : State) (a b c : Nat) (e : List (Nat × Nat × List Byte)) (l : List Fld) (m : List Nat) :
    s.PairBut (s.appendGroup a b c e) l m :=
  State.pairBut_apart (s.appendGroup_regsBut a b c e) (State.cntsBut_of_cnts ((s.appendGroup_only a b c e).keeps State.cnts rfl) [])
    (by decide) (by simp) l m

theorem State.setServo_pairBut (s : State) {st : Nat} (hst : st < 4) (l : List Fld) (m : List Nat) : s.PairBut (s.setServo st) l m := by
  obtain ⟨_, regs, cnts, _⟩ := s.setServo_to hst
  exact State.pairBut_apart regs cnts (by decide) (by decide) l m

theorem State.pairSend_pairBut (s : State) (ty : Nat) (b : List Byte) (l : List Fld) (m : List Nat) : s.PairBut (s.pairSend ty b) l m :=
  State.pairBut_apart (State.regsBut_of_regs ((State.pairSend_only ty b).keeps State.regs rfl) []) (State.pairSend_cntsBut ty b)
    (by simp) (by decide) l m

theorem State.BufKept.pairBut (h : s.BufKept t) (l : List Fld) (m : List Nat) : s.PairBut t l m :=
  State.pairBut_apart h.2.1 h.2.2 (by decide) (by decide) l m

/-! ## Time in a pair -/

/-- What follows a change that may start or end the following of the partner's time. -/
theorem State.withTime_after (s : State) (f : State → State) : (f s).PairBut (s.withTime f) [] [] ∧
    (f s).Only (s.withTime f) [.regs, .cnts, .mgt, .key] := by
  have servo (u : State) {st : Nat} (h : st < 4) : u.PairBut (u.setServo st) [] [] ∧ u.Only (u.setServo st) [.regs, .cnts, .mgt, .key] := by
    obtain ⟨_, _, _, only, _⟩ := u.setServo_to h
    exact ⟨u.setServo_pairBut h [] [], only⟩
  have counted (u : State) : u.PairBut (u.inc (C.time 8)) [] [] := u.pairBut_inc_apart (by decide) [] []
  have rate (u : State) : u.PairBut (u.setRate u.avg) [] [] := u.pairBut_setFld_apart (by decide) _ [] []
  have returned (u : State) : u.PairBut u.returnTime [] [] ∧ u.Only u.returnTime [.regs, .cnts, .mgt, .key] := by
    have first : u.Only (u.setRate u.avg) [.regs, .cnts, .mgt, .key] := rfl
    unfold State.returnTime
    dsimp only
    split
    · obtain ⟨kept, only⟩ := servo (u.setRate u.avg) (st := 0) (by decide)
      exact ⟨(rate u).also kept, first.comp only⟩
    split
    · exact ⟨rate u, first⟩
    · obtain ⟨kept, only⟩ := servo (u.setRate u.avg) (st := 3) (by decide)
      exact ⟨((rate u).also kept).also (counted _), (first.comp only).comp rfl⟩
  have followed (u : State) : u.PairBut u.followTime [] [] ∧ u.Only u.followTime [.regs, .cnts, .mgt, .key] := by
    unfold State.followTime
    split
    · exact servo u (by decide)
    · exact ⟨.refl u _ _, u.only_refl _⟩
  unfold State.withTime
  dsimp only
  split
  · exact returned (f s)
  split
  · exact followed (f s)
  · exact ⟨.refl _ _ _, State.only_refl _ _⟩

/-! ## Readiness -/

theorem State.settleReady_settles (s : State) : s.PairBut s.settleReady [F.PAIR_STATUS_READY, F.PAIR_STATUS_TAKEOVER_BLOCKED] [] ∧
    s.settleReady.flag F.PAIR_STATUS_READY = s.pairReady ∧ s.RegsBut s.settleReady [K.PAIR_STATUS] ∧ s.Only s.settleReady [.regs] := by
  let v := s.setFld F.PAIR_STATUS_READY (b2n s.pairReady)
  have eq : s.settleReady = if s.pairReady then v.setFld F.PAIR_STATUS_TAKEOVER_BLOCKED 0 else v := rfl
  have first : s.PairBut v [F.PAIR_STATUS_READY, F.PAIR_STATUS_TAKEOVER_BLOCKED] [] := (s.pairBut_setFld _ _).mono (by simp) (by simp)
  have regs : s.RegsBut v [K.PAIR_STATUS] := s.regsBut_setFld F.PAIR_STATUS_READY _
  have shown : v.flag F.PAIR_STATUS_READY = s.pairReady := by
    refine (s.flag_setFld_same F.PAIR_STATUS_READY _ rfl (by decide)).trans ?_
    cases s.pairReady <;> rfl
  rw [eq]
  split
  · next ready =>
    refine ⟨first.also ((v.pairBut_setFld _ _).mono (by simp) (by simp)), ?_, regs.comp (v.regsBut_setFld F.PAIR_STATUS_TAKEOVER_BLOCKED 0), rfl⟩
    rw [← shown]
    exact (v.pairBut_setFld F.PAIR_STATUS_TAKEOVER_BLOCKED 0).flag (by decide) rfl (by decide)
  · exact ⟨first, shown, regs, rfl⟩

/-! ## Entry into a role -/

theorem State.driveHold_drives (s : State) (b : Bool) : s.PairBut (s.driveHold b) [F.PAIR_STATUS_HOLD_OUT] [] ∧
    (s.driveHold b).flag F.PAIR_STATUS_HOLD_OUT = b ∧ s.Only (s.driveHold b) [.regs, .out] := by
  unfold State.driveHold
  split
  · next h => exact ⟨.refl s _ _, h, s.only_refl _⟩
  · refine ⟨(s.pairBut_setFld F.PAIR_STATUS_HOLD_OUT _).also (State.pairBut_of rfl rfl _ _), ?_, rfl⟩
    refine (s.flag_setFld_same F.PAIR_STATUS_HOLD_OUT (b2n b) rfl (by decide)).trans ?_
    cases b <;> rfl

theorem State.openReplay_opens (s : State) : s.PairBut s.openReplay [] [] ∧ s.openReplay.twin.replaying = true ∧
    s.openReplay.twin.mask = s.twin.mask ∧ s.Only s.openReplay [.ports, .twin] := by
  let moved (c : Nat × Option Tx) (s : State) : State := match c.2 with
    | some t => if t.held then (s.setTx c.1 none).setReplay (c.1 / 2) (s.replayList (c.1 / 2) ++ [(t.queue, t.copy)]) else s
    | none => s
  have step (c : Nat × Option Tx) (s : State) : s.Only (moved c s) [.ports, .twin] ∧ (moved c s).twin.mask = s.twin.mask := by
    dsimp only [moved]
    split
    · split
      · exact ⟨rfl, rfl⟩
      · exact ⟨s.only_refl _, rfl⟩
    · exact ⟨s.only_refl _, rfl⟩
  have all : s.Only (forEach s.ports.tx moved s) [.ports, .twin] := forEach_only moved (fun c s => (step c s).1) _ s
  have mask : (forEach s.ports.tx moved s).twin.mask = s.twin.mask := forEach_part _ moved (fun s => s.twin.mask) (fun c s => (step c s).2) s
  have eq : s.openReplay = { forEach s.ports.tx moved s with twin := { (forEach s.ports.tx moved s).twin with replaying := true } } := rfl
  rw [eq]
  exact ⟨State.pairBut_of (all.keeps State.regs rfl) (all.keeps State.cnts rfl) _ _, rfl, mask, all.comp rfl⟩

theorem State.takeJournal_takes (s : State) : s.PairBut s.takeJournal [] [] ∧ s.takeJournal.twin.replaying = s.twin.replaying ∧
    s.takeJournal.twin.mask = s.twin.mask := by
  let u : State := { s with
    mgt := { s.mgt with execQ := s.mgt.execQ ++ s.twin.commits.map (fun c => c.1) }
    twin := { s.twin with commits := [], uncommitted := [] } }
  let recorded (c : Cmd) (s : State) : State := s.append 8 255 0 0 0 (beBytes 8 c.jseq ++ beBytes 4 (s.groupSize c.jseq))
  have entries : u.PairBut (forEach s.twin.uncommitted recorded u) [] [] :=
    forEach_pairBut recorded (fun c s => s.appendGroup_pairBut _ _ _ _ _ _) _ u
  have twin : (forEach s.twin.uncommitted recorded u).twin = u.twin :=
    forEach_part _ recorded State.twin (fun c s => (s.append_only _ _ _ _ _ _).keeps State.twin rfl) u
  have eq : s.takeJournal = { forEach s.twin.uncommitted recorded u with
      twin := { (forEach s.twin.uncommitted recorded u).twin with sent := (forEach s.twin.uncommitted recorded u).nextJseq } } := rfl
  rw [eq]
  refine ⟨((State.pairBut_of (s := s) rfl rfl [] []).also entries).also (State.pairBut_of rfl rfl [] []), ?_, ?_⟩
  · exact (congrArg PairSt.replaying twin).trans rfl
  · exact (congrArg PairSt.mask twin).trans rfl

/-- The fields of the pair that a role entered sets. -/
def roleFields : List Fld := [F.PAIR_STATUS_ROLE, F.PAIR_STATUS_HOLD_OUT, F.PAIR_STATUS_READY, F.PAIR_STATUS_TAKEOVER_BLOCKED]

/-- A role is entered: it stands in ROLE, HOLD_OUT is driven as it asks, and of the pair's registers no more is changed. -/
def State.Enters (s t : State) (role : Nat) (hold : Bool) : Prop :=
  t.role = role ∧ t.flag F.PAIR_STATUS_HOLD_OUT = hold ∧ s.PairBut t roleFields [] ∧ t.twin.mask = s.twin.mask

/-- The role and its line, before what follows of it. -/
theorem State.roleDriven (s : State) {role : Nat} (h : role < 16) (hold : Bool) :
    s.Enters ((s.setRole role).driveHold hold) role hold ∧ ((s.setRole role).driveHold hold).twin = s.twin := by
  obtain ⟨kept, line, only⟩ := (s.setRole role).driveHold_drives hold
  have set : (s.setRole role).role = role := (s.fld_setFld_same F.PAIR_STATUS_ROLE role (by decide) (by decide)).trans (Nat.mod_eq_of_lt h)
  have twin : ((s.setRole role).driveHold hold).twin = s.twin := only.keeps State.twin rfl
  refine ⟨⟨(kept.fld (g := F.PAIR_STATUS_ROLE) (by decide) (by decide)).trans set, line, ?_, congrArg PairSt.mask twin⟩, twin⟩
  exact ((s.pairBut_setFld F.PAIR_STATUS_ROLE role).mono (by decide) (by decide)).also (kept.mono (by decide) (by decide))

/-- What changes no field of the pair but READY and TAKEOVER_BLOCKED leaves the role entered. -/
theorem State.Enters.after {role : Nat} {hold : Bool} (h : s.Enters t role hold)
    (kept : t.PairBut u [F.PAIR_STATUS_READY, F.PAIR_STATUS_TAKEOVER_BLOCKED] []) (mask : u.twin.mask = t.twin.mask) : s.Enters u role hold := by
  obtain ⟨set, line, before, mask'⟩ := h
  exact ⟨(kept.fld (g := F.PAIR_STATUS_ROLE) (by decide) (by decide)).trans set,
    (kept.flag (g := F.PAIR_STATUS_HOLD_OUT) (by decide) rfl (by decide)).trans line, before.also (kept.mono (by decide) (by decide)), mask.trans mask'⟩

theorem State.enterActive_enters (s : State) : s.Enters s.enterActive 3 true ∧ s.enterActive.twin.replaying = true := by
  let a := (s.setRole 3).driveHold true
  let b := a.openReplay
  let c := b.takeJournal
  let d : State := { c with twin := { c.twin with activeSince := c.nowNs, step := 0, tSync := none, rejoined := false, snapping := false } }
  obtain ⟨driven, _⟩ := s.roleDriven (role := 3) (by decide) true
  obtain ⟨opened, replaying, mask, _⟩ := a.openReplay_opens
  obtain ⟨taken, replaying', mask'⟩ := b.takeJournal_takes
  have still : c.PairBut d [] [] := State.pairBut_of rfl rfl _ _
  obtain ⟨settled, _, _, only⟩ := d.settleReady_settles
  obtain ⟨after, only'⟩ := s.withTime_after (fun s => (({ ((s.setRole 3).driveHold true).openReplay.takeJournal with
    twin := { ((s.setRole 3).driveHold true).openReplay.takeJournal.twin with
      activeSince := ((s.setRole 3).driveHold true).openReplay.takeJournal.nowNs, step := 0, tSync := none, rejoined := false, snapping := false } } :
    State)).settleReady)
  have twin : s.enterActive.twin = d.twin := (only'.keeps State.twin rfl).trans (only.keeps State.twin rfl)
  have kept : a.PairBut s.enterActive [F.PAIR_STATUS_READY, F.PAIR_STATUS_TAKEOVER_BLOCKED] [] :=
    ((((opened.also taken).also still).mono (by simp) (by simp)).also settled).also (after.mono (by simp) (by simp))
  refine ⟨driven.after kept ?_, ?_⟩
  · rw [twin]
    exact mask'.trans mask
  · rw [twin]
    exact replaying'.trans replaying

theorem State.canRequeue_only (s : State) (n : Nat) : s.Only (s.canRequeue n) [.edge] := by
  unfold State.canRequeue
  dsimp only
  split
  · exact s.only_refl _
  · rfl

theorem State.Only.shadowed_twin (h : s.Only t [.regs, .edge]) : t.twin = s.twin := h.keeps State.twin rfl

theorem State.shadowAll_keeps (s : State) : s.PairBut s.shadowAll [] [] ∧ s.Only s.shadowAll [.regs, .edge] := by
  let can (n : Nat) (s : State) : State := if s.fld (F.CAN_CTRL_MODE n) ≠ 0 then (s.canRequeue n).setFld (F.CAN_CTRL_SHADOW n) 1 else s
  let lin (n : Nat) (s : State) : State := if s.fld (F.LIN_CTRL_MODE n) ≠ 0 then s.setFld (F.LIN_CTRL_SHADOW n) 1 else s
  have canKept (n : Nat) (hn : n < 24) (s : State) : s.PairBut (can n s) [] [] := by
    have requeued : s.PairBut (s.canRequeue n) [] [] :=
      State.pairBut_of ((s.canRequeue_only n).keeps State.regs rfl) ((s.canRequeue_only n).keeps State.cnts rfl) _ _
    have apart : ¬ ofPair (F.CAN_CTRL_SHADOW n).key := not_ofPair (by simp only [F.CAN_CTRL_SHADOW, K.CAN_CTRL]; omega)
    dsimp only [can]
    split
    · exact requeued.also (State.pairBut_setFld_apart _ apart 1 _ _)
    · exact .refl s _ _
  have linKept (n : Nat) (hn : n < 8) (s : State) : s.PairBut (lin n s) [] [] := by
    have apart : ¬ ofPair (F.LIN_CTRL_SHADOW n).key := not_ofPair (by simp only [F.LIN_CTRL_SHADOW, K.LIN_CTRL]; omega)
    dsimp only [lin]
    split
    · exact s.pairBut_setFld_apart apart 1 _ _
    · exact .refl s _ _
  have canOnly (n : Nat) (s : State) : s.Only (can n s) [.regs, .edge] := by
    dsimp only [can]
    split
    · exact ((s.canRequeue_only n).mono _ (by decide)).comp rfl
    · exact s.only_refl _
  have linOnly (n : Nat) (s : State) : s.Only (lin n s) [.regs, .edge] := by
    dsimp only [lin]
    split
    · rfl
    · exact s.only_refl _
  exact ⟨(forEach_pairBut_of_mem can _ (fun n h => canKept n (List.mem_range.mp h)) s).also
      (forEach_pairBut_of_mem lin _ (fun n h => linKept n (List.mem_range.mp h)) _),
    (forEach_only can canOnly _ s).comp (forEach_only lin linOnly _ _)⟩

/-- A rejoin begins. -/
def State.rejoinBegun (s : State) : State :=
  { s with twin := { s.twin with replaying := false, step := 1, tSync := none, rejoined := false, snapping := false } }

theorem State.rejoinBegun_pairBut (s : State) : s.PairBut s.rejoinBegun [] [] := State.pairBut_of rfl rfl _ _

theorem State.rejoinBegun_mask (s : State) : s.rejoinBegun.twin.mask = s.twin.mask := rfl

theorem State.rejoinBegun_step (s : State) : s.rejoinBegun.twin.step = 1 := rfl

theorem State.enterStandby_enters (s : State) : s.Enters s.enterStandby 4 false ∧ s.enterStandby.twin.step = 1 := by
  let a := (s.setRole 4).driveHold false
  let d := a.shadowAll.rejoinBegun
  obtain ⟨driven, _⟩ := s.roleDriven (role := 4) (by decide) false
  obtain ⟨shadowed, only⟩ := a.shadowAll_keeps
  have still := a.shadowAll.rejoinBegun_pairBut
  obtain ⟨settled, _, _, only'⟩ := d.settleReady_settles
  obtain ⟨after, only''⟩ := s.withTime_after (fun s => ((s.setRole 4).driveHold false).shadowAll.rejoinBegun.settleReady)
  have twin : s.enterStandby.twin = d.twin := (only''.keeps State.twin rfl).trans (only'.keeps State.twin rfl)
  have kept : a.PairBut s.enterStandby [F.PAIR_STATUS_READY, F.PAIR_STATUS_TAKEOVER_BLOCKED] [] :=
    (((shadowed.also still).mono (by simp) (by simp)).also settled).also (after.mono (by simp) (by simp))
  have same : a.shadowAll.twin = a.twin := only.shadowed_twin
  have mask : a.shadowAll.twin.mask = a.twin.mask := by rw [same]
  refine ⟨driven.after kept ?_, ?_⟩
  · rw [twin, State.rejoinBegun_mask, mask]
  · rw [twin, State.rejoinBegun_step]

/-- What HOLD_IN reads as follows its flag and the mask. -/
theorem State.holdIn_congr (mask : t.twin.mask = s.twin.mask) (line : t.flag F.PAIR_STATUS_HOLD_IN = s.flag F.PAIR_STATUS_HOLD_IN) :
    t.holdIn = s.holdIn := by rw [State.holdIn, mask, line, State.holdIn]

theorem State.holdIn_unmasked (mask : s.twin.mask = 0) : s.holdIn = s.flag F.PAIR_STATUS_HOLD_IN := by
  rw [State.holdIn, mask]
  rfl

/-- A claim is decided at once where HOLD_IN is asserted. -/
theorem State.claimRule_decides (s : State) : s.claimRule = if s.holdIn then (if s.unitId = 0 then s.enterActive else s.enterStandby) else s := rfl

theorem State.Enters.holdIn {role : Nat} {hold : Bool} (h : s.Enters t role hold) : t.holdIn = s.holdIn :=
  State.holdIn_congr h.2.2.2 (h.2.2.1.flag (g := F.PAIR_STATUS_HOLD_IN) (by decide) rfl (by decide))

/-- A decided claim: UNIT_ID 0 becomes ACTIVE, 1 STANDBY. -/
theorem State.claimRule_role (s : State) (held : s.holdIn = true) :
    s.claimRule.role = (if s.unitId = 0 then 3 else 4) ∧ s.claimRule.flag F.PAIR_STATUS_HOLD_OUT = decide (s.unitId = 0) := by
  rw [s.claimRule_decides, held, if_pos rfl]
  by_cases first : s.unitId = 0
  · obtain ⟨⟨role, line, _⟩, _⟩ := s.enterActive_enters
    rw [if_pos first, if_pos first, decide_eq_true first]
    exact ⟨role, line⟩
  · obtain ⟨⟨role, line, _⟩, _⟩ := s.enterStandby_enters
    rw [if_neg first, if_neg first, decide_eq_false first]
    exact ⟨role, line⟩

theorem State.enterClaiming_claims (s : State) : ∃ u, s.Enters u 2 true ∧ s.enterClaiming = u.claimRule ∧ u.unitId = s.unitId := by
  obtain ⟨driven, _⟩ := s.roleDriven (role := 2) (by decide) true
  obtain ⟨_, _, only⟩ := (s.setRole 2).driveHold_drives true
  refine ⟨_, driven, rfl, ?_⟩
  have regs : s.RegsBut ((s.setRole 2).driveHold true) [K.PAIR_STATUS] := by
    have first : s.RegsBut (s.setRole 2) [K.PAIR_STATUS] := s.regsBut_setFld F.PAIR_STATUS_ROLE 2
    unfold State.driveHold
    split
    · exact first
    · exact (first.comp ((s.setRole 2).regsBut_setFld F.PAIR_STATUS_HOLD_OUT _)).after rfl
  exact regs.fld (by decide)

/-! ## The role table -/

theorem State.pairReady_congr (kept : s.PairBut t l m)
    (hl : [F.PAIR_CFG_MODE, F.PAIR_STATUS_ROLE, F.PAIR_STATUS_PARTNER_PRESENT, F.PAIR_STATUS_MISMATCH, F.PAIR_CFG_TIME_PAIR,
      F.PAIR_STATUS_LINE_FAULT].all (fun g => l.all (fun f => f.beside g)) = true) (servo : t.servoState = s.servoState) (twin : t.twin = s.twin) :
    t.pairReady = s.pairReady := by
  simp only [List.all_cons, List.all_nil, Bool.and_true, Bool.and_eq_true] at hl
  obtain ⟨mode, role, present, mismatch, pair, fault⟩ := hl
  have mode' := kept.fld (g := F.PAIR_CFG_MODE) (by decide) mode
  have role' : t.role = s.role := kept.fld (g := F.PAIR_STATUS_ROLE) (by decide) role
  have present' : t.partnerHere = s.partnerHere := kept.flag (g := F.PAIR_STATUS_PARTNER_PRESENT) (by decide) rfl present
  have mismatch' := kept.flag (g := F.PAIR_STATUS_MISMATCH) (by decide) rfl mismatch
  have pair' := kept.flag (g := F.PAIR_CFG_TIME_PAIR) (by decide) rfl pair
  have fault' := kept.flag (g := F.PAIR_STATUS_LINE_FAULT) (by decide) rfl fault
  rw [State.pairReady, State.timeCondition, mode', role', present', mismatch', pair', fault', servo, twin, State.pairReady, State.timeCondition]

/-- The role table of a unit of a standby pair outside a fault. -/
theorem State.holdRule_eq (mode : s.fld F.PAIR_CFG_MODE = 1) (normal : s.saf.mode = .normal) : s.holdRule =
    match s.role with
    | 1 => if s.holdIn && s.forwarding then s.enterStandby else s
    | 2 => s.claimRule
    | 4 => if s.holdIn then s else if s.pairReady then s.takeover else s.setFld F.PAIR_STATUS_TAKEOVER_BLOCKED 1
    | _ => s := by
  unfold State.holdRule
  rw [mode, normal]
  rfl

/-- A level of HOLD_IN agreed. -/
def State.heldIn (s : State) (level : Bool) : State := s.setFld F.PAIR_STATUS_HOLD_IN (b2n level)

theorem State.heldIn_reads (s : State) (level : Bool) : (s.heldIn level).flag F.PAIR_STATUS_HOLD_IN = level ∧
    s.PairBut (s.heldIn level) [F.PAIR_STATUS_HOLD_IN] [] ∧ s.RegsBut (s.heldIn level) [K.PAIR_STATUS] := by
  refine ⟨(s.flag_setFld_same F.PAIR_STATUS_HOLD_IN _ rfl (by decide)).trans ?_, s.pairBut_setFld _ _, s.regsBut_setFld F.PAIR_STATUS_HOLD_IN _⟩
  cases level <;> rfl

theorem State.holdInChange_eq {level : Bool} (line : s.flag F.PAIR_STATUS_HOLD_IN = !level) (agreed : s.agreedIn 8 = level) :
    s.holdInChange = (s.heldIn level).holdRule := by
  unfold State.holdInChange
  dsimp only
  rw [agreed, line]
  cases level <;> rfl

/-- The role table as it reads the level agreed. -/
theorem State.heldIn_rule {level : Bool} (mode : s.fld F.PAIR_CFG_MODE = 1) (normal : s.saf.mode = .normal) (mask : s.twin.mask = 0) :
    (s.heldIn level).holdRule = match s.role with
    | 1 => if level && s.forwarding then (s.heldIn level).enterStandby else s.heldIn level
    | 2 => (s.heldIn level).claimRule
    | 4 => if level then s.heldIn level else if s.pairReady then (s.heldIn level).takeover
        else (s.heldIn level).setFld F.PAIR_STATUS_TAKEOVER_BLOCKED 1
    | _ => s.heldIn level := by
  obtain ⟨line, kept, regs⟩ := s.heldIn_reads level
  have mode' : (s.heldIn level).fld F.PAIR_CFG_MODE = 1 := (kept.fld (by decide) (by decide)).trans mode
  have role : (s.heldIn level).role = s.role := kept.fld (g := F.PAIR_STATUS_ROLE) (by decide) (by decide)
  have held : (s.heldIn level).holdIn = level := (State.holdIn_unmasked (s := s.heldIn level) mask).trans line
  have on : (s.heldIn level).forwarding = s.forwarding := by
    rw [State.forwarding, regs.fld (f := F.BOOT_STATUS_STATE) (by decide), State.forwarding]
  have ready : (s.heldIn level).pairReady = s.pairReady :=
    State.pairReady_congr kept (by decide) (regs.fld (f := F.TIME_STATUS_STATE) (by decide)) rfl
  rw [State.holdRule_eq mode' normal, role, held, on, ready]

theorem State.takeover_takes (s : State) : s.takeover.role = 3 ∧ s.takeover.flag F.PAIR_STATUS_HOLD_OUT = true ∧
    (s.takeover.fld F.PAIR_EVT_EVENTS).testBit 0 = true ∧ s.takeover.twin.replaying = true ∧ s.takeover.cnt (C.pair 2) = s.cnt (C.pair 2) + 1 := by
  obtain ⟨⟨role, line, kept, _⟩, replaying⟩ := s.enterActive_enters
  have noted := s.enterActive.pairEvent_pairBut 0 []
  have shown := State.pairEvent_shows (s := s.enterActive) 0 (by decide)
  have twin : (s.enterActive.pairEvent 0).twin = s.enterActive.twin := (s.enterActive.raiseFlag_only _ _).keeps State.twin rfl
  have eq : s.takeover = (s.enterActive.pairEvent 0).inc (C.pair 2) := rfl
  rw [eq]
  generalize s.enterActive.pairEvent 0 = x at *
  refine ⟨(noted.fld (g := F.PAIR_STATUS_ROLE) (by decide) (by decide)).trans role,
    (noted.flag (g := F.PAIR_STATUS_HOLD_OUT) (by decide) rfl (by decide)).trans line, shown, ?_, ?_⟩
  · exact (congrArg PairSt.replaying twin).trans replaying
  · rw [State.cnt_inc_same, noted.2 (C.pair 2) (by decide) (by simp), kept.2 (C.pair 2) (by decide) (by simp)]

section
variable (mode : s.fld F.PAIR_CFG_MODE = 1) (normal : s.saf.mode = .normal) (mask : s.twin.mask = 0)
include mode normal mask

theorem exec_holdInChange_takesOver (hp : s.powered = true) (role : s.role = 4) (line : s.flag F.PAIR_STATUS_HOLD_IN = true)
    (agreed : s.agreedIn 8 = false) (ready : s.pairReady = true) :
    ∃ t, exec .holdInChange s = .next t ∧ s.Only t [.regs, .cnts, .ports, .mgt, .edge, .twin, .key, .out] ∧ t.role = 3 ∧
      t.flag F.PAIR_STATUS_HOLD_OUT = true ∧ (t.fld F.PAIR_EVT_EVENTS).testBit 0 = true ∧ t.twin.replaying = true ∧
      t.cnt (C.pair 2) = s.cnt (C.pair 2) + 1 := by
  have run := exec_holdInChange s hp
  have takes := (s.heldIn false).takeover_takes
  rw [State.holdInChange_eq (level := false) line agreed, State.heldIn_rule mode normal mask, role] at run
  simp only [Bool.false_eq_true, if_false, ready, if_true] at run
  generalize (s.heldIn false).takeover = x at *
  exact ⟨_, run, s.only_confine _ _, takes⟩

theorem exec_holdInChange_blocked (hp : s.powered = true) (role : s.role = 4) (line : s.flag F.PAIR_STATUS_HOLD_IN = true)
    (agreed : s.agreedIn 8 = false) (ready : s.pairReady = false) :
    ∃ t, exec .holdInChange s = .next t ∧ t.role = 4 ∧ t.flag F.PAIR_STATUS_TAKEOVER_BLOCKED = true ∧ t.flag F.PAIR_STATUS_HOLD_IN = false ∧
      s.RegsBut t [K.PAIR_STATUS] ∧ s.Only t [.regs] := by
  have run := exec_holdInChange s hp
  obtain ⟨low, kept, regs⟩ := s.heldIn_reads false
  have blocked := (s.heldIn false).pairBut_setFld F.PAIR_STATUS_TAKEOVER_BLOCKED 1
  have whole : s.Only ((s.heldIn false).setFld F.PAIR_STATUS_TAKEOVER_BLOCKED 1) [.regs] := rfl
  rw [State.holdInChange_eq (level := false) line agreed, State.heldIn_rule mode normal mask, role] at run
  simp only [Bool.false_eq_true, if_false, ready] at run
  rw [whole.confine _ (by decide)] at run
  refine ⟨_, run, ?_, ?_, ?_, regs.comp ((s.heldIn false).regsBut_setFld F.PAIR_STATUS_TAKEOVER_BLOCKED 1), whole⟩
  · exact ((kept.comp blocked).fld (g := F.PAIR_STATUS_ROLE) (by decide) (by decide)).trans role
  · exact ((s.heldIn false).flag_setFld_same F.PAIR_STATUS_TAKEOVER_BLOCKED 1 rfl (by decide)).trans rfl
  · exact (blocked.flag (g := F.PAIR_STATUS_HOLD_IN) (by decide) rfl (by decide)).trans low

theorem exec_holdInChange_stands (hp : s.powered = true) (role : s.role = 1) (on : s.forwarding = true)
    (line : s.flag F.PAIR_STATUS_HOLD_IN = false) (agreed : s.agreedIn 8 = true) :
    ∃ t, exec .holdInChange s = .next t ∧ s.Only t [.regs, .cnts, .ports, .mgt, .edge, .twin, .key, .out] ∧ t.role = 4 ∧
      t.flag F.PAIR_STATUS_HOLD_OUT = false ∧ t.twin.step = 1 := by
  have run := exec_holdInChange s hp
  obtain ⟨⟨standby, out, _⟩, step⟩ := (s.heldIn true).enterStandby_enters
  rw [State.holdInChange_eq (level := true) line agreed, State.heldIn_rule mode normal mask, role] at run
  simp only [on, Bool.and_self, if_true] at run
  generalize (s.heldIn true).enterStandby = x at *
  exact ⟨_, run, s.only_confine _ _, standby, out, step⟩

theorem exec_holdInChange_decides (hp : s.powered = true) (role : s.role = 2) (line : s.flag F.PAIR_STATUS_HOLD_IN = false)
    (agreed : s.agreedIn 8 = true) :
    ∃ t, exec .holdInChange s = .next t ∧ s.Only t [.regs, .cnts, .ports, .mgt, .edge, .twin, .key, .out] ∧
      t.role = (if s.unitId = 0 then 3 else 4) ∧ t.flag F.PAIR_STATUS_HOLD_OUT = decide (s.unitId = 0) := by
  have run := exec_holdInChange s hp
  obtain ⟨high, _, regs⟩ := s.heldIn_reads true
  have unit : (s.heldIn true).unitId = s.unitId := regs.fld (f := F.BOOT_STATUS_UNIT_ID) (by decide)
  have decided := (s.heldIn true).claimRule_role ((State.holdIn_unmasked (s := s.heldIn true) mask).trans high)
  rw [unit] at decided
  rw [State.holdInChange_eq (level := true) line agreed, State.heldIn_rule mode normal mask, role] at run
  generalize (s.heldIn true).claimRule = x at *
  exact ⟨_, run, s.only_confine _ _, decided⟩

end

/-! ## Claims -/

/-- A claim with HOLD_IN as it reads before. -/
theorem State.enterClaiming_open (free : s.holdIn = false) : s.enterClaiming.role = 2 ∧ s.enterClaiming.flag F.PAIR_STATUS_HOLD_OUT = true := by
  obtain ⟨u, entered, eq, _⟩ := s.enterClaiming_claims
  rw [eq, u.claimRule_decides, entered.holdIn, free]
  exact ⟨entered.1, entered.2.1⟩

theorem State.enterClaiming_decided (held : s.holdIn = true) : s.enterClaiming.role = if s.unitId = 0 then 3 else 4 := by
  obtain ⟨u, entered, eq, unit⟩ := s.enterClaiming_claims
  rw [eq, ← unit]
  exact (u.claimRule_role (entered.holdIn.trans held)).1

theorem exec_claimTimeout_activates (hl : s.linked = true) (mask : s.twin.mask = 0) (role : s.role = 2)
    (line : s.flag F.PAIR_STATUS_HOLD_IN = false) :
    ∃ t, exec .claimTimeout s = .next t ∧ s.Only t [.regs, .cnts, .ports, .mgt, .edge, .twin, .key, .out] ∧ t.role = 3 ∧
      t.flag F.PAIR_STATUS_HOLD_OUT = true := by
  have run := exec_claimTimeout s hl
  obtain ⟨⟨active, out, _⟩, _⟩ := s.enterActive_enters
  have effect : s.claimTimeout = s.enterActive := if_pos ⟨role, (State.holdIn_unmasked mask).trans line⟩
  rw [effect] at run
  generalize s.enterActive = x at *
  exact ⟨_, run, (s.only_confine _ _).mono _ (by decide), active, out⟩

theorem exec_claimDeferEnd_claims (hl : s.linked = true) (mode : s.fld F.PAIR_CFG_MODE = 1) (mask : s.twin.mask = 0) (role : s.role = 1)
    (on : s.forwarding = true) (prefer : s.twin.prefer = true) (line : s.flag F.PAIR_STATUS_HOLD_IN = false) :
    ∃ t, exec .claimDeferEnd s = .next t ∧ s.Only t [.regs, .cnts, .ports, .mgt, .edge, .twin, .key, .out] ∧ t.role = 2 ∧
      t.flag F.PAIR_STATUS_HOLD_OUT = true := by
  have run := exec_claimDeferEnd s hl
  have free : s.holdIn = false := (State.holdIn_unmasked mask).trans line
  have claims := State.enterClaiming_open free
  have effect : s.claimDeferEnd = s.enterClaiming := if_pos ⟨mode, role, on, prefer, free⟩
  rw [effect] at run
  generalize s.enterClaiming = x at *
  exact ⟨_, run, s.only_confine _ _, claims⟩

theorem exec_activeYield_yields (hl : s.linked = true) (mode : s.fld F.PAIR_CFG_MODE = 1) (mask : s.twin.mask = 0) (role : s.role = 3)
    (unit : s.unitId = 1) (line : s.flag F.PAIR_STATUS_HOLD_IN = true) :
    ∃ t, exec .activeYield s = .next t ∧ s.Only t [.regs, .cnts, .mgt, .edge, .twin, .key, .out] ∧ t.role = 4 ∧
      t.flag F.PAIR_STATUS_HOLD_OUT = false := by
  have run := exec_activeYield s hl
  obtain ⟨⟨standby, out, _⟩, _⟩ := s.enterStandby_enters
  have active : s.pairActive = true := by
    have role' : s.fld F.PAIR_STATUS_ROLE = 3 := role
    rw [State.pairActive, mode, role']
    rfl
  have effect : s.activeYield = s.enterStandby := if_pos ⟨active, unit, (State.holdIn_unmasked mask).trans line⟩
  rw [effect] at run
  generalize s.enterStandby = x at *
  exact ⟨_, run, s.only_confine _ _, standby, out⟩

theorem exec_claim_claims (hr : s.mcRuns = true) (mask : s.twin.mask = 0) :
    (s.role = 4 → s.flag F.PAIR_STATUS_HOLD_IN = false →
      ∃ t, exec .claim s = .next t ∧ s.Only t [.regs, .cnts, .ports, .mgt, .edge, .twin, .key, .out] ∧ t.role = 2 ∧
        t.flag F.PAIR_STATUS_HOLD_OUT = true) ∧
    (s.role = 4 → s.flag F.PAIR_STATUS_HOLD_IN = true →
      ∃ t, exec .claim s = .next t ∧ s.Only t [.regs, .cnts, .ports, .mgt, .edge, .twin, .key, .out] ∧
        t.role = (if s.unitId = 0 then 3 else 4)) ∧
    (s.role = 2 →
      ∃ t, exec .claim s = .next t ∧ t.flag F.PAIR_CTRL_ERR_BUSY = true ∧ t.role = 2 ∧ s.RegsBut t [K.PAIR_CTRL] ∧ s.Only t [.regs]) := by
  have run := exec_claim s hr
  have standby (role : s.role = 4) : s.claim = s.enterClaiming := by
    rw [State.claim, role, if_neg (by decide), if_pos rfl]
  refine ⟨fun role line => ?_, fun role line => ?_, fun role => ?_⟩
  · have claims := State.enterClaiming_open ((State.holdIn_unmasked mask).trans line)
    rw [standby role] at run
    generalize s.enterClaiming = x at *
    exact ⟨_, run, s.only_confine _ _, claims⟩
  · have decided := State.enterClaiming_decided ((State.holdIn_unmasked mask).trans line)
    rw [standby role] at run
    generalize s.enterClaiming = x at *
    exact ⟨_, run, s.only_confine _ _, decided⟩
  · have effect : s.claim = s.setFld F.PAIR_CTRL_ERR_BUSY 1 := if_pos role
    have whole : s.Only (s.setFld F.PAIR_CTRL_ERR_BUSY 1) [.regs] := rfl
    rw [effect, whole.confine _ (by decide)] at run
    exact ⟨_, run, (s.flag_setFld_same F.PAIR_CTRL_ERR_BUSY 1 rfl (by decide)).trans rfl,
      ((s.pairBut_setFld F.PAIR_CTRL_ERR_BUSY 1).fld (g := F.PAIR_STATUS_ROLE) (by decide) (by decide)).trans role,
      s.regsBut_setFld F.PAIR_CTRL_ERR_BUSY 1, whole⟩

/-! ## A masked HOLD_IN -/

/-- A chattering HOLD_IN is masked: it reads asserted. -/
def State.chatterMasked (s : State) : State :=
  (({ s with twin := { s.twin with mask := 2 } } : State).setFlds [(F.PAIR_STATUS_HOLD_MASKED, 1), (F.PAIR_STATUS_LINE_FAULT, 1)]).pairEvent 5

/-- A stuck HOLD_IN is masked: it reads deasserted. -/
def State.stuckMasked (s : State) : State :=
  (({ s with twin := { s.twin with mask := 1 } } : State).setFld F.PAIR_STATUS_HOLD_MASKED 1).pairEvent 4

theorem State.chatterMasked_masks (s : State) : s.chatterMasked.twin = { s.twin with mask := 2 } ∧
    s.chatterMasked.flag F.PAIR_STATUS_HOLD_MASKED = true ∧ s.chatterMasked.flag F.PAIR_STATUS_LINE_FAULT = true ∧
    (s.chatterMasked.fld F.PAIR_EVT_EVENTS).testBit 5 = true ∧ s.chatterMasked.saf = s.saf ∧
    s.PairBut s.chatterMasked [F.PAIR_STATUS_HOLD_MASKED, F.PAIR_STATUS_LINE_FAULT, ⟨K.PAIR_EVT, 5, 5⟩] [] := by
  let a : State := { s with twin := { s.twin with mask := 2 } }
  let b := a.setFlds [(F.PAIR_STATUS_HOLD_MASKED, 1), (F.PAIR_STATUS_LINE_FAULT, 1)]
  have noted := b.pairEvent_pairBut 5 []
  have only := b.raiseFlag_only ⟨K.PAIR_EVT, 5, 5⟩ (beBytes 1 5)
  have set : a.PairBut b [F.PAIR_STATUS_HOLD_MASKED, F.PAIR_STATUS_LINE_FAULT] [] :=
    (a.pairBut_setFld _ _).comp ((a.setFld F.PAIR_STATUS_HOLD_MASKED 1).pairBut_setFld _ _)
  have masked : b.flag F.PAIR_STATUS_HOLD_MASKED = true :=
    (a.flag_setFlds_at [] [(F.PAIR_STATUS_LINE_FAULT, 1)] F.PAIR_STATUS_HOLD_MASKED 1 rfl (by decide) (by decide)).trans rfl
  have fault : b.flag F.PAIR_STATUS_LINE_FAULT = true :=
    (a.flag_setFlds_at [(F.PAIR_STATUS_HOLD_MASKED, 1)] [] F.PAIR_STATUS_LINE_FAULT 1 rfl (by decide) (by decide)).trans rfl
  have shown := State.pairEvent_shows (s := b) 5 (by decide)
  have eq : s.chatterMasked = b.pairEvent 5 := rfl
  rw [eq]
  refine ⟨only.keeps State.twin rfl, (noted.flag (g := F.PAIR_STATUS_HOLD_MASKED) (by decide) rfl (by decide)).trans masked,
    (noted.flag (g := F.PAIR_STATUS_LINE_FAULT) (by decide) rfl (by decide)).trans fault, shown, only.keeps State.saf rfl, ?_⟩
  exact (State.pairBut_of (s := s) (t := a) rfl rfl [] []).comp (set.comp noted)

theorem State.stuckMasked_masks (s : State) : s.stuckMasked.twin = { s.twin with mask := 1 } ∧
    s.stuckMasked.flag F.PAIR_STATUS_HOLD_MASKED = true ∧ (s.stuckMasked.fld F.PAIR_EVT_EVENTS).testBit 4 = true ∧
    s.stuckMasked.saf = s.saf ∧ s.PairBut s.stuckMasked [F.PAIR_STATUS_HOLD_MASKED, ⟨K.PAIR_EVT, 4, 4⟩] [] := by
  let a : State := { s with twin := { s.twin with mask := 1 } }
  let b := a.setFld F.PAIR_STATUS_HOLD_MASKED 1
  have noted := b.pairEvent_pairBut 4 []
  have only := b.raiseFlag_only ⟨K.PAIR_EVT, 4, 4⟩ (beBytes 1 4)
  have masked : b.flag F.PAIR_STATUS_HOLD_MASKED = true := (a.flag_setFld_same F.PAIR_STATUS_HOLD_MASKED 1 rfl (by decide)).trans rfl
  have shown := State.pairEvent_shows (s := b) 4 (by decide)
  have eq : s.stuckMasked = b.pairEvent 4 := rfl
  rw [eq]
  refine ⟨only.keeps State.twin rfl, (noted.flag (g := F.PAIR_STATUS_HOLD_MASKED) (by decide) rfl (by decide)).trans masked, shown,
    only.keeps State.saf rfl, ?_⟩
  exact (State.pairBut_of (s := s) (t := a) rfl rfl [] []).comp ((a.pairBut_setFld _ _).comp noted)

/-- A masked line makes no standby ready. -/
theorem State.pairReady_masked (h : s.twin.mask ≠ 0) : s.pairReady = false := by
  have off : (s.twin.mask == 0) = false := by simpa using h
  rw [State.pairReady, off]
  simp

section
variable (mode : s.fld F.PAIR_CFG_MODE = 1) (normal : s.saf.mode = .normal) (role : s.role = 4)
include mode normal role

theorem exec_holdInMask_chatters (hp : s.powered = true) (mask : s.twin.mask = 0) :
    ∃ t, exec (.holdInMask true) s = .next t ∧ s.Only t [.regs, .cnts, .ports, .mgt, .edge, .twin, .key, .out] ∧ t.holdIn = true ∧
      t.flag F.PAIR_STATUS_HOLD_MASKED = true ∧ t.flag F.PAIR_STATUS_LINE_FAULT = true ∧ (t.fld F.PAIR_EVT_EVENTS).testBit 5 = true ∧
      t.role = 4 ∧ t.flag F.PAIR_STATUS_READY = false := by
  have run := exec_holdInMask s true hp
  obtain ⟨twin, masked, fault, shown, saf, kept⟩ := s.chatterMasked_masks
  have read : s.chatterMasked.holdIn = true := by
    rw [State.holdIn, twin]
    rfl
  have role' : s.chatterMasked.role = 4 := (kept.fld (g := F.PAIR_STATUS_ROLE) (by decide) (by decide)).trans role
  have effect : s.holdMask true = s.chatterMasked.settleReady := by
    have rule : s.chatterMasked.holdRule = s.chatterMasked := by
      rw [State.holdRule_eq ((kept.fld (g := F.PAIR_CFG_MODE) (by decide) (by decide)).trans mode) (saf ▸ normal), role', read]
      rfl
    refine Eq.trans ?_ (congrArg State.settleReady rule)
    rw [State.holdMask, if_neg (by simp [mode, role, mask])]
    rfl
  obtain ⟨settled, ready, _, only⟩ := s.chatterMasked.settleReady_settles
  rw [effect] at run
  have unready : s.chatterMasked.pairReady = false := State.pairReady_masked (by rw [twin]; simp)
  have twin' : s.chatterMasked.settleReady.twin = s.chatterMasked.twin := only.keeps State.twin rfl
  generalize s.chatterMasked.settleReady = x at *
  refine ⟨_, run, s.only_confine _ _, ?_, ?_, ?_, ?_, ?_, ready.trans unready⟩
  · exact (State.holdIn_congr (congrArg PairSt.mask twin') (settled.flag (g := F.PAIR_STATUS_HOLD_IN) (by decide) rfl (by decide))).trans read
  · exact (settled.flag (g := F.PAIR_STATUS_HOLD_MASKED) (by decide) rfl (by decide)).trans masked
  · exact (settled.flag (g := F.PAIR_STATUS_LINE_FAULT) (by decide) rfl (by decide)).trans fault
  · exact (congrArg (fun n => Nat.testBit n 5) (settled.fld (g := F.PAIR_EVT_EVENTS) (by decide) (by decide))).trans shown
  · exact (settled.fld (g := F.PAIR_STATUS_ROLE) (by decide) (by decide)).trans role'

theorem exec_holdInMask_sticks (hp : s.powered = true) (mask : s.twin.mask = 0) (line : s.flag F.PAIR_STATUS_HOLD_IN = true)
    (claiming : s.fld F.PAIR_STATUS_PARTNER_ROLE ≠ 2) (active : s.fld F.PAIR_STATUS_PARTNER_ROLE ≠ 3) :
    ∃ t, exec (.holdInMask false) s = .next t ∧ s.Only t [.regs, .cnts, .ports, .mgt, .edge, .twin, .key, .out] ∧ t.holdIn = false ∧
      t.flag F.PAIR_STATUS_HOLD_MASKED = true ∧ (t.fld F.PAIR_EVT_EVENTS).testBit 4 = true ∧ t.role = 4 ∧
      t.flag F.PAIR_STATUS_TAKEOVER_BLOCKED = true ∧ t.flag F.PAIR_STATUS_READY = false := by
  have run := exec_holdInMask s false hp
  obtain ⟨twin, masked, shown, saf, kept⟩ := s.stuckMasked_masks
  have read : s.stuckMasked.holdIn = false := by
    rw [State.holdIn, twin]
    rfl
  have role' : s.stuckMasked.role = 4 := (kept.fld (g := F.PAIR_STATUS_ROLE) (by decide) (by decide)).trans role
  have unready : s.stuckMasked.pairReady = false := State.pairReady_masked (by rw [twin]; simp)
  let b := s.stuckMasked.setFld F.PAIR_STATUS_TAKEOVER_BLOCKED 1
  have blocked := s.stuckMasked.pairBut_setFld F.PAIR_STATUS_TAKEOVER_BLOCKED 1
  have still : b.pairReady = false := State.pairReady_masked (show s.stuckMasked.twin.mask ≠ 0 by rw [twin]; simp)
  have effect : s.holdMask false = b.setFld F.PAIR_STATUS_READY 0 := by
    have rule : s.stuckMasked.holdRule = b := by
      rw [State.holdRule_eq ((kept.fld (g := F.PAIR_CFG_MODE) (by decide) (by decide)).trans mode) (saf ▸ normal), role', read, unready]
      rfl
    refine Eq.trans ?_ ((congrArg State.settleReady rule).trans (State.settleReady_not still))
    rw [State.holdMask, if_neg (by simp [mode, role, mask]), if_neg (by decide), if_pos (by simp [line, claiming, active])]
    rfl
  have last := b.pairBut_setFld F.PAIR_STATUS_READY 0
  have both := blocked.comp last
  have twin' : (b.setFld F.PAIR_STATUS_READY 0).twin = s.stuckMasked.twin := rfl
  have shut : b.flag F.PAIR_STATUS_TAKEOVER_BLOCKED = true :=
    (s.stuckMasked.flag_setFld_same F.PAIR_STATUS_TAKEOVER_BLOCKED 1 rfl (by decide)).trans rfl
  have idle : (b.setFld F.PAIR_STATUS_READY 0).flag F.PAIR_STATUS_READY = false :=
    (b.flag_setFld_same F.PAIR_STATUS_READY 0 rfl (by decide)).trans rfl
  rw [effect] at run
  generalize b.setFld F.PAIR_STATUS_READY 0 = x at *
  refine ⟨_, run, s.only_confine _ _, ?_, ?_, ?_, ?_, ?_, idle⟩
  · exact (State.holdIn_congr (congrArg PairSt.mask twin') (both.flag (g := F.PAIR_STATUS_HOLD_IN) (by decide) rfl (by decide))).trans read
  · exact (both.flag (g := F.PAIR_STATUS_HOLD_MASKED) (by decide) rfl (by decide)).trans masked
  · exact (congrArg (fun n => Nat.testBit n 4) (both.fld (g := F.PAIR_EVT_EVENTS) (by decide) (by decide))).trans shown
  · exact (both.fld (g := F.PAIR_STATUS_ROLE) (by decide) (by decide)).trans role'
  · exact (last.flag (g := F.PAIR_STATUS_TAKEOVER_BLOCKED) (by decide) rfl (by decide)).trans shut

theorem exec_holdInUnmask_unmasks (hp : s.powered = true) (mask : s.twin.mask ≠ 0) (line : s.flag F.PAIR_STATUS_HOLD_IN = true) :
    ∃ t, exec .holdInUnmask s = .next t ∧ s.Only t [.regs, .cnts, .ports, .mgt, .edge, .twin, .key, .out] ∧ t.twin.mask = 0 ∧
      t.flag F.PAIR_STATUS_HOLD_MASKED = false ∧ t.role = 4 := by
  have run := exec_holdInUnmask s hp
  let a : State := { s with twin := { s.twin with mask := 0 } }
  let b := a.setFld F.PAIR_STATUS_HOLD_MASKED 0
  obtain ⟨settled, _, _, only⟩ := b.settleReady_settles
  have kept : s.PairBut b.settleReady [F.PAIR_STATUS_HOLD_MASKED, F.PAIR_STATUS_READY, F.PAIR_STATUS_TAKEOVER_BLOCKED] [] :=
    (State.pairBut_of (s := s) (t := a) rfl rfl [] []).comp ((a.pairBut_setFld F.PAIR_STATUS_HOLD_MASKED 0).comp settled)
  have open' : b.flag F.PAIR_STATUS_HOLD_MASKED = false := (a.flag_setFld_same F.PAIR_STATUS_HOLD_MASKED 0 rfl (by decide)).trans rfl
  have free : b.settleReady.twin.mask = 0 := congrArg PairSt.mask (only.keeps State.twin rfl)
  have effect : s.holdUnmask = b.settleReady := by
    have role' : b.settleReady.role = 4 := (kept.fld (g := F.PAIR_STATUS_ROLE) (by decide) (by decide)).trans role
    have read : b.settleReady.holdIn = true :=
      (State.holdIn_unmasked free).trans ((kept.flag (g := F.PAIR_STATUS_HOLD_IN) (by decide) rfl (by decide)).trans line)
    have normal' : b.settleReady.saf.mode = .normal := (congrArg SafSt.mode (only.keeps State.saf rfl)).trans normal
    have rule : b.settleReady.holdRule = b.settleReady := by
      rw [State.holdRule_eq ((kept.fld (g := F.PAIR_CFG_MODE) (by decide) (by decide)).trans mode) normal', role', read]
      rfl
    exact (if_neg mask).trans rule
  rw [effect] at run
  generalize b.settleReady = x at *
  exact ⟨_, run, s.only_confine _ _, free, (settled.flag (g := F.PAIR_STATUS_HOLD_MASKED) (by decide) rfl (by decide)).trans open',
    (kept.fld (g := F.PAIR_STATUS_ROLE) (by decide) (by decide)).trans role⟩

omit mode normal in
theorem exec_lineFaultClear_clears (hp : s.powered = true) (line : s.flag F.PAIR_STATUS_HOLD_IN = true) :
    ∃ t, exec .lineFaultClear s = .next t ∧ t.flag F.PAIR_STATUS_LINE_FAULT = false ∧ t.role = 4 ∧ s.RegsBut t [K.PAIR_STATUS] ∧
      s.Only t [.regs] := by
  have run := exec_lineFaultClear s hp
  let b := s.setFld F.PAIR_STATUS_LINE_FAULT 0
  obtain ⟨settled, _, regs, only⟩ := b.settleReady_settles
  have clear : b.flag F.PAIR_STATUS_LINE_FAULT = false := (s.flag_setFld_same F.PAIR_STATUS_LINE_FAULT 0 rfl (by decide)).trans rfl
  have kept := (s.pairBut_setFld F.PAIR_STATUS_LINE_FAULT 0).comp settled
  have effect : s.lineFaultClear = b.settleReady := if_pos line
  have whole : s.Only b.settleReady [.regs] := State.Only.comp (t := b) rfl only
  rw [effect, whole] at run
  exact ⟨_, run, (settled.flag (g := F.PAIR_STATUS_LINE_FAULT) (by decide) rfl (by decide)).trans clear,
    (kept.fld (g := F.PAIR_STATUS_ROLE) (by decide) (by decide)).trans role, (s.regsBut_setFld F.PAIR_STATUS_LINE_FAULT 0).comp regs, whole⟩

end

theorem exec_lineFaultClear_idle (hp : s.powered = true) (line : s.flag F.PAIR_STATUS_HOLD_IN = false) : exec .lineFaultClear s = .next s := by
  have run := exec_lineFaultClear s hp
  have effect : s.lineFaultClear = s := if_neg (by simp [line])
  rw [effect] at run
  exact run

/-! ## HELLO -/

theorem State.pairSend_pairSeq_other {ty other : Nat} (h : other ≠ ty) (body : List Byte) : (s.pairSend ty body).pairSeq other = s.pairSeq other := by
  rw [State.pairSeq, State.pairSend_twin]
  exact mapGet_mapSet_other (fun _ => 0) s.twin.txSeq _ h.symm

theorem State.relayJournal_keeps (s : State) : s.PairBut s.relayJournal [] [] ∧ s.relayJournal.pairSeq 1 = s.pairSeq 1 := by
  unfold State.relayJournal
  split
  · exact ⟨.refl s _ _, rfl⟩
  · refine ⟨(forEach_pairBut _ (fun e s => s.pairSend_pairBut 2 _ _ _) _ s).also (State.pairBut_of rfl rfl _ _), ?_⟩
    exact forEach_part _ _ (fun s => s.pairSeq 1) (fun e s => State.pairSend_pairSeq_other (by decide) _) s

theorem exec_helloSend_sends (hl : s.linked = true) (mode : s.fld F.PAIR_CFG_MODE ≠ 0) :
    ∃ t, exec .helloSend s = .next t ∧ s.Only t [.regs, .cnts, .data, .twin] ∧ t.pairSeq 1 = (s.pairSeq 1 + 1) % 2 ^ 32 ∧
      t.cnt (C.pair 0) = s.cnt (C.pair 0) + 1 := by
  have run := exec_helloSend s hl
  let a := s.pairSend 1 s.helloBody
  let b := (a.inc (C.pair 0)).settleReady
  have effect : s.helloSend.relayJournal = b.relayJournal := congrArg State.relayJournal (if_neg mode)
  obtain ⟨settled, _, _, only⟩ := (a.inc (C.pair 0)).settleReady_settles
  obtain ⟨relayed, seq⟩ := b.relayJournal_keeps
  rw [effect] at run
  have twin : b.twin = a.twin := only.keeps State.twin rfl
  have used : b.pairSeq 1 = (s.pairSeq 1 + 1) % 2 ^ 32 := by
    rw [State.pairSeq, twin]
    exact State.pairSend_pairSeq (s := s) 1 s.helloBody
  have count : b.cnt (C.pair 0) = s.cnt (C.pair 0) + 1 := by
    rw [settled.2 (C.pair 0) (by decide) (by simp), State.cnt_inc_same]
    exact congrArg (· + 1) (State.pairSend_cntsBut (s := s) 1 s.helloBody (C.pair 0) (by decide))
  generalize b.relayJournal = x at *
  exact ⟨_, run, s.only_confine _ _, seq.trans used, (relayed.2 (C.pair 0) (by decide) (by simp)).trans count⟩

/-- What a HELLO sets of the partner. -/
def partnerFields : List Fld := [F.PAIR_STATUS_PARTNER_PRESENT, ⟨K.PAIR_EVT, 2, 2⟩, F.PAIR_STATUS_PARTNER_ROLE, F.PAIR_STATUS_PARTNER_READY,
  ⟨K.PAIR_PARTNER_SERIAL_LO, 31, 0⟩, ⟨K.PAIR_PARTNER_SERIAL_HI, 31, 0⟩]

/-- The registers that a HELLO sets of the partner. -/
def partnerKeys : List Nat := K.PAIR_STATUS :: K.PAIR_EVT :: K.PAIR_PARTNER_SERIAL_LO :: K.PAIR_PARTNER_SERIAL_HI :: journalKeys

theorem State.pairEvent_regsBut (s : State) (bit : Nat) : s.RegsBut (s.pairEvent bit) partnerKeys :=
  (s.raiseFlag_regsBut ⟨K.PAIR_EVT, bit, bit⟩ (beBytes 1 bit)).mono (fun k hk => by
    rcases List.mem_cons.mp hk with rfl | hk
    · exact List.mem_cons_of_mem _ (List.mem_cons_self ..)
    · exact List.mem_cons_of_mem _ (List.mem_cons_of_mem _ (List.mem_cons_of_mem _ (List.mem_cons_of_mem _ hk))))

theorem State.setPair_setFlds (s : State) (lo hi v : Nat) : s.setPair lo hi v = s.setFlds [(⟨lo, 31, 0⟩, v), (⟨hi, 31, 0⟩, v / 2 ^ 32)] := by
  have whole (u : State) (k x : Nat) : u.setReg k (BitVec.ofNat 32 x) = u.setFld ⟨k, 31, 0⟩ x :=
    congrArg (u.setReg k) (putBits_whole _ _).symm
  rw [State.setPair, whole, whole]
  rfl

theorem State.pairBut_setFlds (s : State) : ∀ l : List (Fld × Nat), s.PairBut (s.setFlds l) (l.map (fun c => c.1)) [] := by
  intro l
  induction l generalizing s with
  | nil => exact .refl s _ _
  | cons c r ih => exact (s.pairBut_setFld c.1 c.2).comp (ih (s.setFld c.1 c.2))

/-- The partner is present. -/
def State.partnerFound (s : State) : State := if s.partnerHere then s else (s.setFld F.PAIR_STATUS_PARTNER_PRESENT 1).pairEvent 2

theorem State.partnerFound_finds (s : State) : s.partnerFound.partnerHere = true ∧
    s.PairBut s.partnerFound [F.PAIR_STATUS_PARTNER_PRESENT, ⟨K.PAIR_EVT, 2, 2⟩] [] ∧ s.RegsBut s.partnerFound partnerKeys ∧
    s.Only s.partnerFound [.regs, .cnts, .mgt, .key] := by
  let a := s.setFld F.PAIR_STATUS_PARTNER_PRESENT 1
  have first := s.pairBut_setFld F.PAIR_STATUS_PARTNER_PRESENT 1
  have noted := a.pairEvent_pairBut 2 []
  have present : a.partnerHere = true := (s.flag_setFld_same F.PAIR_STATUS_PARTNER_PRESENT 1 rfl (by decide)).trans rfl
  have only : s.Only (a.pairEvent 2) [.regs, .cnts, .mgt, .key] := State.Only.comp (t := a) rfl (a.raiseFlag_only _ _)
  unfold State.partnerFound
  split
  · next here => exact ⟨here, .refl s _ _, State.RegsBut.refl s _, s.only_refl _⟩
  · refine ⟨(noted.flag (g := F.PAIR_STATUS_PARTNER_PRESENT) (by decide) rfl (by decide)).trans present, first.comp noted, ?_, only⟩
    exact ((s.regsBut_setFld F.PAIR_STATUS_PARTNER_PRESENT 1).mono (by decide)).comp (a.pairEvent_regsBut 2)

/-- The fields that a HELLO's body gives. -/
def helloFields (m : List Byte) : List (Fld × Nat) :=
  [(F.PAIR_STATUS_PARTNER_ROLE, pmRole m), (F.PAIR_STATUS_PARTNER_READY, b2n (pmRole m == 4 && (beAt (pmBody m) 0 2).testBit 0)),
    (⟨K.PAIR_PARTNER_SERIAL_LO, 31, 0⟩, beAt (pmBody m) 32 8), (⟨K.PAIR_PARTNER_SERIAL_HI, 31, 0⟩, beAt (pmBody m) 32 8 / 2 ^ 32)]

theorem State.helloNote_eq (s : State) (m : List Byte) : s.helloNote m =
    ({ s.partnerFound with twin := { s.partnerFound.twin with partnerFlags := beAt (pmBody m) 0 2 } } : State).setFlds (helloFields m) := by
  have eq : s.helloNote m = (({ s.partnerFound with twin := { s.partnerFound.twin with partnerFlags := beAt (pmBody m) 0 2 } } : State).setFlds
    [(F.PAIR_STATUS_PARTNER_ROLE, pmRole m), (F.PAIR_STATUS_PARTNER_READY, b2n (pmRole m == 4 && (beAt (pmBody m) 0 2).testBit 0))]).setPair
      K.PAIR_PARTNER_SERIAL_LO K.PAIR_PARTNER_SERIAL_HI (beAt (pmBody m) 32 8) := rfl
  rw [eq, State.setPair_setFlds, ← State.setFlds_append]
  rfl

theorem State.helloNote_notes (s : State) (m : List Byte) : (s.helloNote m).partnerHere = true ∧
    (s.helloNote m).fld F.PAIR_STATUS_PARTNER_ROLE = pmRole m ∧ s.PairBut (s.helloNote m) partnerFields [] ∧
    s.RegsBut (s.helloNote m) partnerKeys ∧ (s.helloNote m).data = s.data := by
  obtain ⟨here, kept, regs, only⟩ := s.partnerFound_finds
  let a : State := { s.partnerFound with twin := { s.partnerFound.twin with partnerFlags := beAt (pmBody m) 0 2 } }
  have set := a.pairBut_setFlds (helloFields m)
  have data : (a.setFlds (helloFields m)).data = s.data := only.keeps State.data rfl
  have shown := a.fld_setFlds_at [] (helloFields m).tail F.PAIR_STATUS_PARTNER_ROLE (pmRole m) (by decide) (by decide) rfl
  have small : pmRole m < 16 := Nat.mod_lt _ (by decide)
  have regs' : a.RegsBut (a.setFlds (helloFields m)) partnerKeys := a.regsBut_setFlds_keys rfl
  have both := kept.comp ((State.pairBut_of (s := s.partnerFound) (t := a) rfl rfl [] []).comp set)
  rw [s.helloNote_eq]
  exact ⟨(set.flag (g := F.PAIR_STATUS_PARTNER_PRESENT) (by decide) rfl rfl).trans here, shown.trans (Nat.mod_eq_of_lt small),
    both, regs.comp (regs'.from rfl), data⟩

theorem State.helloBad_congr {t : State} (regs : s.RegsBut t partnerKeys) (data : t.data = s.data) (m : List Byte) : t.helloBad m = s.helloBad m := by
  have build : t.buildId = s.buildId := by
    have word (k : Nat) (hk : k < 4) : t.reg (K.BOOT_BUILD k) = s.reg (K.BOOT_BUILD k) := by
      interval_cases k <;> exact regs _ (by decide)
    unfold State.buildId
    exact List.flatMap_congr (fun k hk => by rw [word k (List.mem_range.mp hk)])
  have mode := regs.fld (f := F.PAIR_CFG_MODE) (by decide)
  have unit : t.unitId = s.unitId := regs.fld (f := F.BOOT_STATUS_UNIT_ID) (by decide)
  rw [State.helloBad, build, mode, unit, data, State.helloBad]

theorem State.helloMismatch_shows (s : State) (m : List Byte) : (s.helloMismatch m).flag F.PAIR_STATUS_MISMATCH = s.helloBad m ∧
    s.PairBut (s.helloMismatch m) [⟨K.PAIR_EVT, 3, 3⟩, F.PAIR_STATUS_MISMATCH] [] := by
  let a := if s.helloBad m && !s.flag F.PAIR_STATUS_MISMATCH then s.pairEvent 3 else s
  have noted : s.PairBut a [⟨K.PAIR_EVT, 3, 3⟩] [] := by
    show s.PairBut (if s.helloBad m && !s.flag F.PAIR_STATUS_MISMATCH then s.pairEvent 3 else s) _ _
    split
    · exact s.pairEvent_pairBut 3 []
    · exact .refl s _ _
  refine ⟨(a.flag_setFld_same F.PAIR_STATUS_MISMATCH (b2n (s.helloBad m)) rfl (by decide)).trans ?_, noted.comp (a.pairBut_setFld _ _)⟩
  cases s.helloBad m <;> rfl

/-- What may change of the pair when dual activity is found, beside what joins or suspends a pairing. -/
def dualFields : List Fld := F.PAIR_STATUS_LINE_FAULT :: ⟨K.PAIR_EVT, 6, 6⟩ :: roleFields

theorem State.helloDual_pairBut (s : State) (m : List Byte) : s.PairBut (s.helloDual m) dualFields [C.pair 13] := by
  have yielded (s : State) : s.PairBut (((s.enterStandby.setFld F.PAIR_STATUS_LINE_FAULT 1).pairEvent 6).inc (C.pair 13)).settleReady
      dualFields [C.pair 13] := by
    obtain ⟨⟨_, _, entered, _⟩, _⟩ := s.enterStandby_enters
    have noted := (s.enterStandby.setFld F.PAIR_STATUS_LINE_FAULT 1).pairEvent_pairBut 6 []
    obtain ⟨settled, _⟩ := (((s.enterStandby.setFld F.PAIR_STATUS_LINE_FAULT 1).pairEvent 6).inc (C.pair 13)).settleReady_settles
    exact (((((entered.comp (State.pairBut_setFld _ _ _)).comp noted).comp (State.pairBut_inc _ _)).comp settled)).mono (by decide) (by decide)
  unfold State.helloDual State.dualActive
  dsimp only
  split
  · split
    · split
      · exact yielded s
      · exact .refl s _ _
    · split
      · exact yielded s
      · exact .refl s _ _
  · exact .refl s _ _

theorem State.rejoinHello_pairBut (s : State) (l : List Fld) (m : List Nat) : s.PairBut s.rejoinHello l m := by
  unfold State.rejoinHello
  dsimp only
  split
  · exact .refl s _ _
  · split <;> split <;> exact State.pairBut_of rfl rfl _ _

theorem State.catchUp_pairBut (l : List Fld) (m : List Nat) : ∀ (fuel : Nat) (e : List JEntry) (s : State), s.PairBut (s.catchUp fuel e) l m := by
  intro fuel
  induction fuel with
  | zero => exact fun e s => .refl s _ _
  | succ n ih =>
    intro e s
    have sent := s.pairSend_pairBut 11 ((e.take 22).flatMap JEntry.bytes) l m
    unfold State.catchUp
    dsimp only
    split
    · exact sent
    · exact sent.also (ih _ _)

theorem State.serveRejoin_pairBut (s : State) (ready : Bool) (l : List Fld) (m : List Nat) : s.PairBut (s.serveRejoin ready) l m := by
  unfold State.serveRejoin
  dsimp only
  split
  · split
    · exact State.pairBut_of rfl rfl _ _
    · exact .refl s _ _
  split
  · exact .refl s _ _
  · exact ((State.catchUp_pairBut l m _ _ s).also (State.pairSend_pairBut _ _ _ _ _)).also (State.pairBut_of rfl rfl _ _)

/-- The VOQ of a suspended pairing is emptied. -/
def State.voqDropped (s : State) (v : Nat) : State :=
  if (s.queue (280 + v)).length = 0 then s
  else (s.dropCopies (280 + v) (fun _ => true)).count (C.buf 12) (s.queue (280 + v)).length

theorem State.voqDropped_keeps (s : State) (v : Nat) : s.PairBut (s.voqDropped v) [] [] ∧ (s.voqDropped v).twin = s.twin := by
  unfold State.voqDropped
  split
  · exact ⟨.refl s _ _, rfl⟩
  · have dropped := s.dropCopies_bufKept (280 + v) (fun _ => true)
    have counted (u : State) (n : Nat) : u.PairBut (u.count (C.buf 12) n) [] [] := by
      refine ⟨fun _ _ _ => rfl, fun a ha _ => mapGet_mapSet_other (fun _ => 0) u.cnts _ (fun e => ?_)⟩
      have apart : ¬ ofPairCnt (C.buf 12) = true := by decide
      exact apart (e ▸ ha)
    exact ⟨(dropped.pairBut [] []).also (counted _ _), dropped.1.keeps State.twin rfl⟩

/-- Joined pairing that starts or is suspended sets ROLE, and of the unit's own state of the pair its credit alone. -/
theorem State.joinRule_keeps (s : State) : s.PairBut s.joinRule [F.PAIR_STATUS_ROLE] [] ∧ s.joinRule.twin.acks = s.twin.acks ∧
    s.joinRule.twin.step = s.twin.step := by
  have dropped : ∀ l : List Nat, s.PairBut (forEach l (fun v s => s.voqDropped v) s) [] [] ∧
      (forEach l (fun v s => s.voqDropped v) s).twin = s.twin := fun l =>
    ⟨forEach_pairBut _ (fun v s => (s.voqDropped_keeps v).1) l s, forEach_part l _ State.twin (fun v s => (s.voqDropped_keeps v).2) s⟩
  have eq : s.joinRule = if s.fld F.PAIR_CFG_MODE ≠ 2 ∨ !s.forwarding then s
      else if (s.partnerHere && !s.flag F.PAIR_STATUS_MISMATCH) = true ∧ s.role ≠ 6 then (s.setRole 6).creditStart
      else if (!(s.partnerHere && !s.flag F.PAIR_STATUS_MISMATCH)) = true ∧ s.role = 6 then
        ((forEach (List.range 288) (fun v s => s.voqDropped v) s).setRole 7).fdbDropPartner
      else s := rfl
  rw [eq]
  split
  · exact ⟨.refl s _ _, rfl, rfl⟩
  split
  · exact ⟨(s.pairBut_setFld F.PAIR_STATUS_ROLE 6).also (State.pairBut_of rfl rfl _ _), rfl, rfl⟩
  split
  · obtain ⟨kept, twin⟩ := dropped (List.range 288)
    generalize forEach (List.range 288) (fun v s => s.voqDropped v) s = x at *
    exact ⟨(kept.comp (x.pairBut_setFld F.PAIR_STATUS_ROLE 7)).also (State.pairBut_of rfl rfl _ _), congrArg PairSt.acks twin,
      congrArg PairSt.step twin⟩
  · exact ⟨.refl s _ _, rfl, rfl⟩

theorem State.helloIn_notes (s : State) (m : List Byte) : (s.helloIn m).partnerHere = true ∧
    (s.helloIn m).fld F.PAIR_STATUS_PARTNER_ROLE = pmRole m ∧ (s.helloIn m).flag F.PAIR_STATUS_MISMATCH = s.helloBad m ∧
    (s.helloIn m).cnt (C.pair 1) = s.cnt (C.pair 1) + 1 := by
  let a := s.inc (C.pair 1)
  let b := a.helloNote m
  let c := b.helloMismatch m
  let d := c.helloDual m
  let e := d.rejoinHello.serveRejoin ((beAt (pmBody m) 0 2).testBit 0)
  obtain ⟨here, role, noted, regs, data⟩ := a.helloNote_notes m
  obtain ⟨bad, shown⟩ := b.helloMismatch_shows m
  have dual := c.helloDual_pairBut m
  have served : d.PairBut e [] [] :=
    (d.rejoinHello_pairBut [] []).also (State.serveRejoin_pairBut _ _ _ _)
  obtain ⟨joined, _⟩ := e.joinRule_keeps
  obtain ⟨settled, _⟩ := e.joinRule.settleReady_settles
  have after : c.PairBut e.joinRule.settleReady _ _ := ((dual.comp served).comp joined).comp settled
  have late := shown.comp after
  have eq : s.helloIn m = e.joinRule.settleReady := rfl
  rw [eq]
  refine ⟨?_, ?_, ?_, ?_⟩
  · exact (late.flag (g := F.PAIR_STATUS_PARTNER_PRESENT) (by decide) rfl (by decide)).trans here
  · exact (late.fld (g := F.PAIR_STATUS_PARTNER_ROLE) (by decide) (by decide)).trans role
  · refine (after.flag (g := F.PAIR_STATUS_MISMATCH) (by decide) rfl (by decide)).trans (bad.trans ?_)
    exact (State.helloBad_congr regs data m).trans rfl
  · rw [late.2 (C.pair 1) (by decide) (by decide), noted.2 (C.pair 1) (by decide) (by simp), State.cnt_inc_same]

theorem exec_helloReceive_notes {f : InFrame} {u : State} (hl : s.linked = true) (mode : s.fld F.PAIR_CFG_MODE ≠ 0)
    (h : s.takePair 1 = some (f, u)) :
    ∃ t, exec .helloReceive s = .next t ∧ s.Only t [.regs, .cnts, .bufLog, .data, .mgt, .edge, .twin, .key, .out] ∧ t.partnerHere = true ∧
      t.fld F.PAIR_STATUS_PARTNER_ROLE = pmRole f.bytes ∧ t.flag F.PAIR_STATUS_MISMATCH = s.helloBad f.bytes ∧
      t.cnt (C.pair 1) = s.cnt (C.pair 1) + 1 := by
  have run := exec_helloReceive s hl
  obtain rfl := State.takePair_some h
  have effect : s.helloReceive = (s.inboxTaken f).withTime (State.helloIn f.bytes) := by
    have mode' : (s.inboxTaken f).fld F.PAIR_CFG_MODE ≠ 0 := mode
    simp only [State.helloReceive, h, mode', if_false]
  obtain ⟨here, role, bad, count⟩ := (s.inboxTaken f).helloIn_notes f.bytes
  obtain ⟨after, _⟩ := (s.inboxTaken f).withTime_after (State.helloIn f.bytes)
  rw [effect] at run
  generalize (s.inboxTaken f).withTime (State.helloIn f.bytes) = x at *
  generalize State.helloIn f.bytes (s.inboxTaken f) = y at *
  refine ⟨_, run, s.only_confine _ _, ?_, ?_, ?_, ?_⟩
  · exact (after.flag (g := F.PAIR_STATUS_PARTNER_PRESENT) (by decide) rfl (by decide)).trans here
  · exact (after.fld (g := F.PAIR_STATUS_PARTNER_ROLE) (by decide) (by decide)).trans role
  · exact (after.flag (g := F.PAIR_STATUS_MISMATCH) (by decide) rfl (by decide)).trans bad
  · exact (after.2 (C.pair 1) (by decide) (by simp)).trans count

/-! ### The loss of the partner and the resynchronisation -/

/-- The partner is no longer shown. -/
def State.partnerUnshown (s : State) : State :=
  (s.setFlds [(F.PAIR_STATUS_PARTNER_PRESENT, 0), (F.PAIR_STATUS_PARTNER_READY, 0)]).pairEvent 1

/-- What the loss leaves of a resynchronisation: a standby's fails, another unit's ends. -/
def State.resyncLost (s : State) : State :=
  if s.role = 4 then s.rejoinFail else { s with twin := { s.twin with step := 0, tSync := none } }

def State.lossNoted (s : State) : State := s.partnerUnshown.resyncLost.joinRule.settleReady

theorem State.partnerLoss_eq (here : s.partnerHere = true) : s.partnerLoss = s.withTime State.lossNoted := by
  unfold State.partnerLoss
  rw [here]
  rfl

theorem State.partnerUnshown_hides (s : State) : s.partnerUnshown.partnerHere = false ∧
    s.partnerUnshown.flag F.PAIR_STATUS_PARTNER_READY = false ∧
    s.PairBut s.partnerUnshown [F.PAIR_STATUS_PARTNER_PRESENT, F.PAIR_STATUS_PARTNER_READY, ⟨K.PAIR_EVT, 1, 1⟩] [] ∧
    s.partnerUnshown.twin = s.twin := by
  let a := s.setFlds [(F.PAIR_STATUS_PARTNER_PRESENT, 0), (F.PAIR_STATUS_PARTNER_READY, 0)]
  have noted : a.PairBut s.partnerUnshown [⟨K.PAIR_EVT, 1, 1⟩] [] := a.pairEvent_pairBut 1 []
  have unseen : a.flag F.PAIR_STATUS_PARTNER_PRESENT = false :=
    s.flag_setFlds_at [] [(F.PAIR_STATUS_PARTNER_READY, 0)] F.PAIR_STATUS_PARTNER_PRESENT 0 rfl (by decide) rfl
  have unready : a.flag F.PAIR_STATUS_PARTNER_READY = false :=
    s.flag_setFlds_at [(F.PAIR_STATUS_PARTNER_PRESENT, 0)] [] F.PAIR_STATUS_PARTNER_READY 0 rfl (by decide) rfl
  have raised : a.Only s.partnerUnshown [.regs, .cnts, .mgt, .key] := a.raiseFlag_only _ _
  exact ⟨(noted.flag (by decide) rfl (by decide)).trans unseen, (noted.flag (by decide) rfl (by decide)).trans unready,
    (s.pairBut_setFlds _).comp noted, raised.keeps State.twin rfl⟩

theorem State.resyncLost_ends (s : State) : s.PairBut s.resyncLost [] [C.pair 8] ∧ s.resyncLost.twin.acks = s.twin.acks ∧
    (s.role = 4 → s.twin.step ≠ 0 → s.twin.step ≠ 9 →
      s.resyncLost.twin.step = 9 ∧ s.resyncLost.cnt (C.pair 8) = s.cnt (C.pair 8) + 1) := by
  unfold State.resyncLost State.rejoinFail
  split
  next =>
    split
    next idle => exact ⟨.refl s _ _, rfl, fun _ some open9 => absurd idle (by simp [some, open9])⟩
    next =>
      have counted : State.PairBut s ({ s with twin := { s.twin with step := 9, tSync := none, snapping := false } }.inc (C.pair 8)) [] [C.pair 8] :=
        (State.pairBut_of rfl rfl [] [C.pair 8]).also (State.pairBut_inc _ _)
      exact ⟨counted, rfl, fun _ _ _ => ⟨rfl, State.cnt_inc_same _ _⟩⟩
  next other => exact ⟨State.pairBut_of rfl rfl _ _, rfl, fun role => absurd role other⟩

theorem State.pairReady_alone (h : s.partnerHere = false) : s.pairReady = false := by
  simp [State.pairReady, h]

theorem State.lossNoted_notes (s : State) : s.lossNoted.partnerHere = false ∧ s.lossNoted.flag F.PAIR_STATUS_PARTNER_READY = false ∧
    s.lossNoted.flag F.PAIR_STATUS_READY = false ∧ s.lossNoted.twin.acks = s.twin.acks ∧
    (s.role = 4 → s.twin.step ≠ 0 → s.twin.step ≠ 9 →
      s.lossNoted.twin.step = 9 ∧ s.lossNoted.cnt (C.pair 8) = s.cnt (C.pair 8) + 1) := by
  obtain ⟨gone, unready, hidden, twin⟩ := s.partnerUnshown_hides
  obtain ⟨ended, acks, failed⟩ := s.partnerUnshown.resyncLost_ends
  obtain ⟨joined, joinAcks, joinStep⟩ := s.partnerUnshown.resyncLost.joinRule_keeps
  obtain ⟨settled, ready, _, only⟩ := s.partnerUnshown.resyncLost.joinRule.settleReady_settles
  have alone : s.partnerUnshown.resyncLost.joinRule.partnerHere = false :=
    ((ended.comp joined).flag (g := F.PAIR_STATUS_PARTNER_PRESENT) (by decide) rfl (by decide)).trans gone
  have late := (ended.comp joined).comp settled
  have twin' : s.lossNoted.twin = s.partnerUnshown.resyncLost.joinRule.twin := only.keeps State.twin rfl
  refine ⟨(settled.flag (g := F.PAIR_STATUS_PARTNER_PRESENT) (by decide) rfl (by decide)).trans alone,
    (late.flag (g := F.PAIR_STATUS_PARTNER_READY) (by decide) rfl (by decide)).trans unready, ready.trans (State.pairReady_alone alone), ?_,
    fun role some open9 => ?_⟩
  · rw [twin', joinAcks, acks, twin]
  · have role' : s.partnerUnshown.role = 4 := (hidden.fld (g := F.PAIR_STATUS_ROLE) (by decide) (by decide)).trans role
    obtain ⟨step, count⟩ := failed role' (by rwa [twin]) (by rwa [twin])
    refine ⟨by rw [twin', joinStep, step], ?_⟩
    exact ((joined.comp settled).2 (C.pair 8) (by decide) (by simp)).trans (count.trans
      (congrArg (· + 1) (hidden.2 (C.pair 8) (by decide) (by simp))))

theorem exec_partnerLoss_loses (hl : s.linked = true) (here : s.partnerHere = true) (acks : s.twin.acks = []) :
    ∃ t, exec .partnerLoss s = .next t ∧ s.Only t [.regs, .cnts, .bufLog, .data, .mgt, .twin, .key] ∧ t.partnerHere = false ∧
      t.flag F.PAIR_STATUS_PARTNER_READY = false ∧ t.flag F.PAIR_STATUS_READY = false ∧
      (s.role = 4 → s.twin.step ≠ 0 → s.twin.step ≠ 9 → t.twin.step = 9 ∧ t.cnt (C.pair 8) = s.cnt (C.pair 8) + 1) := by
  have run := exec_partnerLoss s hl
  obtain ⟨gone, unready, notReady, lossAcks, failed⟩ := s.lossNoted_notes
  obtain ⟨after, only⟩ := s.withTime_after State.lossNoted
  have effect : s.partnerGone = s.withTime State.lossNoted := by
    have twin : (s.withTime State.lossNoted).twin = s.lossNoted.twin := only.keeps State.twin rfl
    unfold State.partnerGone
    rw [State.partnerLoss_eq here]
    dsimp only
    split
    · rfl
    · unfold State.acceptAcked
      rw [twin, lossAcks, acks]
  rw [effect] at run
  generalize s.withTime State.lossNoted = x at *
  generalize s.lossNoted = y at *
  have twin : x.twin = y.twin := only.keeps State.twin rfl
  refine ⟨_, run, s.only_confine _ _, ?_, ?_, ?_, fun role some open9 => ?_⟩
  · exact (after.flag (g := F.PAIR_STATUS_PARTNER_PRESENT) (by decide) rfl (by decide)).trans gone
  · exact (after.flag (g := F.PAIR_STATUS_PARTNER_READY) (by decide) rfl (by decide)).trans unready
  · exact (after.flag (g := F.PAIR_STATUS_READY) (by decide) rfl (by decide)).trans notReady
  · obtain ⟨step, count⟩ := failed role some open9
    exact ⟨(congrArg PairSt.step twin).trans step, (after.2 (C.pair 8) (by decide) (by simp)).trans count⟩

theorem exec_rejoinRetry_begins (hl : s.linked = true) (step : s.twin.step = 9) :
    ∃ t, exec .rejoinRetry s = .next t ∧ t.twin = { s.twin with step := 1 } ∧ s.Only t [.twin] := by
  have run := exec_rejoinRetry s hl
  have effect : s.rejoinRetry = { s with twin := { s.twin with step := 1 } } := if_pos step
  have whole : s.Only { s with twin := { s.twin with step := 1 } } [.twin] := rfl
  rw [effect, whole.confine _ (by decide)] at run
  exact ⟨_, run, rfl, whole⟩

theorem exec_resync_begins (hr : s.mcRuns = true) (role : s.role = 4) (idle : s.twin.step = 0 ∨ 4 < s.twin.step) :
    ∃ t, exec .resync s = .next t ∧ t.twin.step = 1 ∧ t.twin.rejoined = false ∧ t.flag F.PAIR_STATUS_READY = false ∧
      s.RegsBut t [K.PAIR_STATUS] ∧ s.Only t [.regs, .twin] := by
  have run := exec_resync s hr
  let u : State := { s with twin := { s.twin with step := 1, tSync := none, rejoined := false } }
  have notReady : u.pairReady = false := by simp [State.pairReady, u]
  have outside : within s.twin.step 1 4 = false := by
    simp only [within, Bool.and_eq_false_iff, decide_eq_false_iff_not]
    omega
  have effect : s.resync = u.setFld F.PAIR_STATUS_READY 0 := by
    unfold State.resync
    rw [if_neg (by simp [role]), outside, if_neg (by decide)]
    exact State.settleReady_not notReady
  have whole : s.Only (u.setFld F.PAIR_STATUS_READY 0) [.regs, .twin] := rfl
  rw [effect, whole.confine _ (by decide)] at run
  exact ⟨_, run, rfl, rfl, u.flag_setFld_same F.PAIR_STATUS_READY 0 rfl (by decide), u.regsBut_setFld F.PAIR_STATUS_READY 0, whole⟩

theorem exec_resync_busy (hr : s.mcRuns = true) (role : s.role = 4) (low : 1 ≤ s.twin.step) (high : s.twin.step ≤ 4) :
    ∃ t, exec .resync s = .next t ∧ t.flag F.PAIR_CTRL_ERR_BUSY = true ∧ s.RegsBut t [K.PAIR_CTRL] ∧ s.Only t [.regs] := by
  have run := exec_resync s hr
  have inside : within s.twin.step 1 4 = true := by simp [within, low, high]
  have effect : s.resync = s.setFld F.PAIR_CTRL_ERR_BUSY 1 := by
    unfold State.resync
    rw [if_neg (by simp [role]), inside, if_pos rfl]
  have whole : s.Only (s.setFld F.PAIR_CTRL_ERR_BUSY 1) [.regs] := rfl
  rw [effect, whole.confine _ (by decide)] at run
  exact ⟨_, run, s.flag_setFld_same F.PAIR_CTRL_ERR_BUSY 1 rfl (by decide), s.regsBut_setFld F.PAIR_CTRL_ERR_BUSY 1, whole⟩

end

/-- Settles O52, command by command: `State.PairBut` keeps the fields of the pair that a stage does not write, so that each role entered
is read off the last stage that sets it. -/
theorem pairRolesFollowTheTable : Obligations.PairRolesFollowTheTable := by
  unfold Obligations.PairRolesFollowTheTable
  refine ⟨fun s hl => ⟨exec_helloSend_sends hl, fun f u => exec_helloReceive_notes hl, exec_partnerLoss_loses hl, exec_rejoinRetry_begins hl,
      exec_resync_begins, exec_resync_busy⟩,
    fun s hp mode normal mask => ⟨fun role line agreed => ⟨?_, ?_⟩, ?_, ?_, fun hl => ⟨?_, ?_, ?_⟩, fun hr => exec_claim_claims hr mask⟩,
    fun s hp mode normal role => ⟨fun mask => ⟨?_, ?_⟩, ?_, ?_, exec_lineFaultClear_idle hp⟩⟩
  · exact exec_holdInChange_takesOver mode normal mask hp role line agreed
  · exact exec_holdInChange_blocked mode normal mask hp role line agreed
  · exact exec_holdInChange_stands mode normal mask hp
  · exact exec_holdInChange_decides mode normal mask hp
  · exact exec_claimTimeout_activates hl mask
  · exact exec_claimDeferEnd_claims hl mode mask
  · exact exec_activeYield_yields hl mode mask
  · exact exec_holdInMask_chatters mode normal role hp mask
  · exact exec_holdInMask_sticks mode normal role hp mask
  · exact exec_holdInUnmask_unmasks mode normal role hp
  · exact exec_lineFaultClear_clears role hp

end Sys2Proof.Machine
end

section
/-! SUPPORT. The counters that passing a frame may count (spec/04 R104, spec/05 R134 to R146, spec/06 R173 to R206, spec/09 R255): the
counters of the path from the lookup into the queues and of the checks at a frame's end, beside the event counters. No counter of a port,
of the classifier's verdicts or of the pairing is among them but PAIR_BAD, which counts a foreign message. -/

namespace Sys2Proof.Machine

/-- The counters of the data path behind the verdict. -/
def pathCounters : List Nat := eventCounters ++
  [C.cls 2, C.buf 1, C.buf 2, C.buf 3, C.buf 5, C.buf 6, C.buf 9, C.buf 10, C.buf 12, C.buf 19, C.sch 0, C.sch 1, C.sch 2, C.sch 3, C.sch 4,
   C.sch 5, C.sch 6, C.sch 7, C.sch 9, C.time 5, C.wvr 1, C.wvr 3, C.wvr 6, C.zone 0, C.zone 1, C.nm 10, C.nm 11, C.pair 12]

/-- No counter but those of the path changed. -/
abbrev State.PathCounted (s t : State) : Prop := s.CntsBut t pathCounters

section
variable {s t : State}

theorem State.pathCounted_of_cnts (h : t.cnts = s.cnts) : s.PathCounted t := State.cntsBut_of_cnts h _

theorem State.BufKept.pathCounted (h : s.BufKept t) : s.PathCounted t := h.2.2.mono (by decide)

theorem State.HoldKept.pathCounted (h : s.HoldKept t) : s.PathCounted t := h.1.pathCounted

end

section
variable (s : State)

theorem State.inc_pathCounted {a : Nat} (ha : a ∈ pathCounters) : s.PathCounted (s.inc a) :=
  (s.cntsBut_inc a).mono (fun k hk => by rwa [List.mem_singleton.mp hk])

theorem State.raiseFlag_pathCounted (f : Fld) (d : List Byte) : s.PathCounted (s.raiseFlag f d) := (s.raiseFlag_cntsBut f d).mono (by decide)

theorem State.markBad_pathCounted (h : Nat) : s.PathCounted (s.markBad h) := by
  obtain ⟨u, v, first, marked, last⟩ := s.markBad_parts h
  have middle : u.PathCounted v := by
    obtain rfl | rfl := marked
    · exact State.CntsBut.refl _ _
    · exact State.pathCounted_of_cnts rfl
  exact (first.pathCounted.comp middle).comp last.pathCounted

/-! ## Zones, streams and meters -/

theorem State.zoneJudge_pathCounted (f : Frame) (port zone d : Nat) : s.PathCounted (s.zoneJudge f port zone d).2.2 := by
  unfold State.zoneJudge
  dsimp only
  split
  · exact ((s.inc_pathCounted (by decide)).comp (State.pathCounted_of_cnts (State.setFlds_cnts _ _))).comp (State.raiseFlag_pathCounted _ _ _)
  split
  · exact State.CntsBut.refl _ _
  split
  · exact State.CntsBut.refl _ _
  split
  · exact s.inc_pathCounted (by decide)
  · exact State.pathCounted_of_cnts rfl

theorem State.judgePlans_pathCounted (f : Frame) (port zone : Nat) : ∀ (l : List Plan) (s : State), s.PathCounted (s.judgePlans f port zone l).2.2
  | [], _ => State.CntsBut.refl _ _
  | p :: r, s => (s.zoneJudge_pathCounted f port zone p.dest).comp (State.judgePlans_pathCounted f port zone r _)

theorem State.sduFail_pathCounted (i : Nat) : s.PathCounted (s.sduFail i) := by
  have counted : s.PathCounted (s.inc (C.sch 0)) := s.inc_pathCounted (by decide)
  unfold State.sduFail
  dsimp only
  split
  · exact counted.comp (State.pathCounted_of_cnts rfl)
  · exact counted

theorem State.streamFilter_pathCounted (f : Frame) (i : Nat) : s.PathCounted (s.streamFilter f i).2.2 := by
  unfold State.streamFilter
  split
  · exact s.inc_pathCounted (by decide)
  split
  · exact State.CntsBut.refl _ _
  split
  · exact s.sduFail_pathCounted i
  · exact State.CntsBut.refl _ _

theorem State.recover_pathCounted (i q : Nat) : s.PathCounted (s.recover i q).2 := by
  unfold State.recover
  dsimp only
  split
  · exact State.pathCounted_of_cnts rfl
  split
  · split
    · exact s.inc_pathCounted (by decide)
    · exact State.pathCounted_of_cnts rfl
  split
  · exact s.inc_pathCounted (by decide)
  split
  · split
    · exact s.inc_pathCounted (by decide)
    · exact State.pathCounted_of_cnts rfl
  · exact State.pathCounted_of_cnts rfl

theorem State.logSync_cnts (e : SyncLog) : (s.logSync e).cnts = s.cnts := by
  unfold State.logSync
  split
  · rfl
  split <;> rfl

theorem State.frerRecover_pathCounted (i : Nat) (rtag : Option Nat) : s.PathCounted (s.frerRecover i rtag).2 := by
  unfold State.frerRecover
  split
  · exact State.CntsBut.refl _ _
  split
  · exact s.inc_pathCounted (by decide)
  · exact (State.pathCounted_of_cnts (s.logSync_cnts _)).comp (State.recover_pathCounted _ _ _)

theorem State.frerGenerate_pathCounted (i : Nat) : s.PathCounted (s.frerGenerate i).2 := by
  unfold State.frerGenerate
  split
  · exact State.CntsBut.refl _ _
  · exact (State.pathCounted_of_cnts (s := s) rfl).comp (State.inc_pathCounted _ (by decide))

theorem State.meter_cnts (f : Frame) (i c : Nat) : (s.meter f i c).2.2.cnts = s.cnts := by
  unfold State.meter
  generalize (if s.flag (F.STRM_WIN_FILTER_CB i) then 0 else c) = k
  dsimp only
  split
  · rfl
  split <;> rfl

/-- A yellow frame is dropped by its stream filter. -/
def State.dropsYellow (s : State) (d : Deal) : Bool :=
  match d.stream with
  | some i => s.flag (F.STRM_WIN_FILTER_DROP_YELLOW i)
  | none => false

theorem State.policeColour_pathCounted (d : Deal) (c : Nat) (pop : Bool) (sdu : Option Nat) : s.PathCounted (s.policeColour d c pop sdu).2 := by
  have counted : s.PathCounted (if c = 1 then s.inc (C.sch 4) else s) := by
    split
    · exact s.inc_pathCounted (by decide)
    · exact State.CntsBut.refl _ _
  have eq : s.policeColour d c pop sdu = (let u := if c = 1 then s.inc (C.sch 4) else s
      if c = 2 then (none, u.inc (C.sch 2))
      else if c == 1 && u.dropsYellow d then (none, u.inc (C.sch 3))
      else if d.seqFn = 1 then (some ⟨c, (u.frerGenerate d.frer).1, pop, sdu⟩, (u.frerGenerate d.frer).2)
      else (some ⟨c, none, pop, sdu⟩, u)) := rfl
  rw [eq]
  generalize (if c = 1 then s.inc (C.sch 4) else s) = u at *
  dsimp only
  split
  · exact counted.comp (u.inc_pathCounted (by decide))
  split
  · exact counted.comp (u.inc_pathCounted (by decide))
  split
  · exact counted.comp (u.frerGenerate_pathCounted _)
  · exact counted

/-- What remains of the police once the stream filter and the recovery function have passed the frame. -/
def State.policeRest (s : State) (f : Frame) (d : Deal) (sdu : Option Nat) : Option Policed × List Charge × State :=
  let pop := d.seqFn == 2 && s.flag (F.SEQR_WIN_CFG_EN d.frer) && s.flag (F.SEQR_WIN_CFG_POP_RTAG d.frer)
  match d.stream with
  | some i =>
    if s.flag (F.STRM_WIN_FILTER_METER_EN i) then
      let (c, ch, s) := s.meter f i d.colour
      let (r, s) := s.policeColour d c pop sdu
      (r, ch, s)
    else
      let (r, s) := s.policeColour d d.colour pop sdu
      (r, [], s)
  | none =>
    let (r, s) := s.policeColour d d.colour pop sdu
    (r, [], s)

theorem State.policeRest_pathCounted (f : Frame) (d : Deal) (sdu : Option Nat) : s.PathCounted (s.policeRest f d sdu).2.2 := by
  unfold State.policeRest
  dsimp only
  split
  · split
    · exact (State.pathCounted_of_cnts (s.meter_cnts f _ _)).comp (State.policeColour_pathCounted _ _ _ _ _)
    · exact s.policeColour_pathCounted _ _ _ _
  · exact s.policeColour_pathCounted _ _ _ _

theorem State.police_pathCounted (f : Frame) (d : Deal) (rtag : Option Nat) : s.PathCounted (s.police f d rtag).2.2 := by
  let a := match d.stream with
    | some i => s.streamFilter f i
    | none => (true, none, s)
  have filtered : s.PathCounted a.2.2 := by
    show s.PathCounted (match d.stream with
      | some i => s.streamFilter f i
      | none => (true, none, s)).2.2
    split
    · exact s.streamFilter_pathCounted f _
    · exact State.CntsBut.refl _ _
  let b := if d.seqFn = 2 then a.2.2.frerRecover d.frer rtag else (true, a.2.2)
  have recovered : a.2.2.PathCounted b.2 := by
    show State.PathCounted _ (if d.seqFn = 2 then a.2.2.frerRecover d.frer rtag else (true, a.2.2)).2
    split
    · exact State.frerRecover_pathCounted _ _ _
    · exact State.CntsBut.refl _ _
  have eq : s.police f d rtag = if !a.1 then (none, [], a.2.2) else if !b.1 then (none, [], b.2) else b.2.policeRest f d a.2.1 := rfl
  rw [eq]
  split
  · exact filtered
  split
  · exact filtered.comp recovered
  · exact (filtered.comp recovered).comp (State.policeRest_pathCounted _ _ _ _)

/-! ## Queues -/

theorem State.pushCopy_bufKept (q : Nat) (c : Copy) : s.BufKept (s.pushCopy q c) := by
  unfold State.pushCopy
  dsimp only
  split
  · exact (s.bufKept_data _).comp (State.headTag_bufKept _ _ _)
  · exact s.bufKept_data _

theorem State.wred_cnts (q colour : Nat) : (s.wred q colour).2.cnts = s.cnts := by
  have drawn : (s.logDraw q).cnts = s.cnts := by
    unfold State.logDraw
    split <;> rfl
  have set (u : State) (x : QState) : (u.setQs q x).cnts = u.cnts := rfl
  unfold State.wred
  simp only [apply_ite Prod.snd, apply_ite State.cnts, set, drawn, ite_self]

theorem State.admitTo_pathCounted (q colour : Nat) : s.PathCounted (s.admitTo q colour).2 := by
  have counted (u : State) (hu : s.PathCounted u) {a : Nat} (ha : a ∈ pathCounters) : s.PathCounted (u.inc a) := hu.comp (u.inc_pathCounted ha)
  have drawn : s.PathCounted (if s.flag (F.QUE_WIN_CFG_WRED_EN q) then s.wred q colour else (true, s)).2 := by
    split
    · exact State.pathCounted_of_cnts (s.wred_cnts q colour)
    · exact State.CntsBut.refl _ _
  unfold State.admitTo
  generalize (if s.flag (F.QUE_WIN_CFG_WRED_EN q) then s.wred q colour else (true, s)) = w at *
  dsimp only
  split
  · exact s.inc_pathCounted (by decide)
  split
  · exact s.inc_pathCounted (by decide)
  split
  · exact s.inc_pathCounted (by decide)
  split
  · exact s.inc_pathCounted (by decide)
  split
  · exact counted _ drawn (by decide)
  split
  · exact counted _ drawn (by decide)
  · exact drawn

theorem State.enqueue_pathCounted (p n : Nat) (c : Copy) : s.PathCounted (s.enqueue p n c) := by
  unfold State.enqueue
  split
  · split
    · exact s.inc_pathCounted (by decide)
    · exact (s.pushCopy_bufKept _ _).pathCounted
  split
  · exact State.CntsBut.refl _ _
  next f _ =>
    have admitted := s.admitTo_pathCounted (8 * p + n) f.colour
    dsimp only
    split
    · exact admitted
    · exact (admitted.comp (State.modFrame_holdKept _ _ _).pathCounted).comp (State.pushCopy_bufKept _ _ _).pathCounted

theorem State.enqueueVoq_pathCounted (v : Nat) (c : Copy) : s.PathCounted (s.enqueueVoq v c) := by
  unfold State.enqueueVoq
  split
  · exact State.CntsBut.refl _ _
  dsimp only
  split
  · exact s.inc_pathCounted (by decide)
  split
  · exact s.inc_pathCounted (by decide)
  split
  · exact s.inc_pathCounted (by decide)
  · exact (State.modFrame_holdKept _ _ _).pathCounted.comp (State.pushCopy_bufKept _ _ _).pathCounted

theorem State.dealCopy_pathCounted (h : Nat) (d : Deal) (p : Policed) (second : Bool) (pl : Plan) : s.PathCounted (s.dealCopy h d p second pl) := by
  unfold State.dealCopy
  split
  · exact State.CntsBut.refl _ _
  dsimp only
  split
  · exact s.enqueue_pathCounted _ _ _
  · exact s.enqueueVoq_pathCounted _ _

theorem State.deal_pathCounted (h : Nat) (d : Deal) (second : Bool) : s.PathCounted (s.deal h d second) := by
  unfold State.deal
  split
  · exact State.CntsBut.refl _ _
  next f _ =>
    have judged := State.judgePlans_pathCounted f f.port d.zone d.ordered s
    generalize s.judgePlans f f.port d.zone d.ordered = j at *
    obtain ⟨pl, ch, u⟩ := j
    have policed := u.police_pathCounted f d (u.info h).walk.rtag
    dsimp only
    split
    · exact judged.comp (State.pathCounted_of_cnts rfl)
    generalize u.police f d (u.info h).walk.rtag = q at *
    obtain ⟨r, mc, v⟩ := q
    dsimp only
    split
    · exact (judged.comp policed).comp (State.pathCounted_of_cnts rfl)
    · refine ((judged.comp policed).comp ?_).comp (forEach_cntsBut _ (fun x s => s.dealCopy_pathCounted h d _ second x) _ _)
      exact (State.setInfo_holdKept _ _ _).pathCounted.comp (State.modFrame_holdKept _ _ _).pathCounted

theorem State.learnLookup_pathCounted (vid port sa : Nat) : s.PathCounted (s.learnLookup vid port sa).2 := by
  unfold State.learnLookup
  dsimp only
  split
  · exact State.CntsBut.refl _ _
  split
  · exact State.CntsBut.refl _ _
  split
  · exact State.pathCounted_of_cnts rfl
  split
  · exact (State.pathCounted_of_cnts (s := s) rfl).comp (State.inc_pathCounted _ (by decide))
  · exact State.pathCounted_of_cnts rfl

/-! ## The end of a frame -/

theorem State.lateWalk_pathCounted (h : Nat) : s.PathCounted (s.lateWalk h) := by
  unfold State.lateWalk
  split
  · exact State.CntsBut.refl _ _
  dsimp only
  split
  · exact State.CntsBut.refl _ _
  split
  · exact ((State.setInfo_holdKept _ _ _).pathCounted.comp (State.inc_pathCounted _ (by decide))).comp (State.markBad_pathCounted _ _)
  · exact (State.setInfo_holdKept _ _ _).pathCounted

theorem State.lateSdu_pathCounted (h : Nat) : s.PathCounted (s.lateSdu h) := by
  unfold State.lateSdu
  split
  · dsimp only
    split
    · exact ((State.setInfo_holdKept _ _ _).pathCounted.comp (State.sduFail_pathCounted _ _)).comp (State.markBad_pathCounted _ _)
    · exact (State.setInfo_holdKept _ _ _).pathCounted
  · exact State.CntsBut.refl _ _

theorem State.refund_cnts (len : Nat) (c : Charge) : (s.refund len c).cnts = s.cnts := by
  unfold State.refund
  split <;> rfl

theorem State.refunds_pathCounted (h : Nat) : s.PathCounted (s.refunds h) := by
  unfold State.refunds
  split
  · exact State.CntsBut.refl _ _
  · exact (State.setInfo_holdKept _ _ _).pathCounted.comp
      (forEach_cntsBut _ (fun c s => State.pathCounted_of_cnts (s.refund_cnts _ c)) _ _)

theorem State.queueLearn_pathCounted (r : LearnReq) : s.PathCounted (s.queueLearn r) := by
  unfold State.queueLearn
  split
  · exact (s.inc_pathCounted (by decide)).comp (State.inc_pathCounted _ (by decide))
  · exact State.pathCounted_of_cnts rfl

theorem State.judgeSender_pathCounted (k : Nat) : s.PathCounted (s.judgeSender k) := (s.judgeSender_cntsBut k).mono (by decide)

theorem State.wvrEvent_pathCounted (k : Nat) : s.PathCounted (s.wvrEvent k) := (s.wvrEvent_cntsBut k).mono (by decide)

theorem State.pduReceived_pathCounted (i stamp : Nat) : s.PathCounted (s.pduReceived i stamp) := by
  have stamped : s.PathCounted ((s.startDeadline i).setStamp i stamp) := State.pathCounted_of_cnts rfl
  unfold State.pduReceived
  generalize (s.startDeadline i).setStamp i stamp = a at *
  have cleared : a.PathCounted (a.setFld (F.WVR_PDU_STATE_TIMED_OUT i) 0) := State.pathCounted_of_cnts rfl
  dsimp only
  split
  · generalize a.setFld (F.WVR_PDU_STATE_TIMED_OUT i) 0 = b at *
    exact ((stamped.comp cleared).comp (b.wvrEvent_pathCounted 1)).comp (State.judgeSender_pathCounted _ _)
  · exact stamped

theorem State.count_pathCounted {a : Nat} (n : Nat) (ha : a ∈ pathCounters) : s.PathCounted (s.count a n) := fun _ hb =>
  mapGet_mapSet_other _ s.cnts _ (fun e => hb (e ▸ ha))

theorem State.cancelTimeout_pathCounted (i : Nat) : s.PathCounted (s.cancelTimeout i) := by
  have undone (u : State) : u.PathCounted (((u.count (C.wvr 6) (2 ^ 64 - 1)).setFld (F.WVR_PDU_STATE_TIMED_OUT i) 0).judgeSender (s.pduSender i)) := by
    have counted := u.count_pathCounted (a := C.wvr 6) (2 ^ 64 - 1) (by decide)
    generalize u.count (C.wvr 6) (2 ^ 64 - 1) = a at *
    have cleared : a.PathCounted (a.setFld (F.WVR_PDU_STATE_TIMED_OUT i) 0) := State.pathCounted_of_cnts rfl
    exact (counted.comp cleared).comp (State.judgeSender_pathCounted _ _)
  have listed (w : WvrSt) : s.PathCounted { s with wvr := w } := State.pathCounted_of_cnts rfl
  unfold State.cancelTimeout
  dsimp only
  split
  · exact (listed _).comp (undone _)
  · exact State.CntsBut.refl _ _

/-- The timeout unit of a received PDU that still waits is taken back. -/
def State.timeoutTakenBack (s : State) (ty src z : Nat) (f id : Nat) : State :=
  match s.pduMatch ty src z f id with
  | some i => s.cancelTimeout i
  | none => s

/-- A received PDU with a definition is noted. -/
def State.pduNoted (s : State) (ty src z : Nat) (f id : Nat) (stamp : Nat) : State :=
  match s.pduMatch ty src z f id with
  | some i => s.pduReceived i stamp
  | none => s

/-- A unit that found no place is counted. -/
def State.unitLost (s : State) (u : WUnit) : State := ((s.lastDropped u).inc (C.wvr 3)).wvrEvent 4

theorem State.unitLost_pathCounted (u : WUnit) : s.PathCounted (s.unitLost u) := by
  obtain ⟨_, cnts, _⟩ := s.lastDropped_keeps u
  exact ((State.pathCounted_of_cnts cnts).comp (State.inc_pathCounted _ (by decide))).comp (State.wvrEvent_pathCounted _ _)

theorem State.queueUnit_pdu (ty src z f id : Nat) (d : List Byte) (stamp : Nat) (k : Proto) : s.queueUnit (.pdu ty src z f id d stamp k) =
    (let v := s.timeoutTakenBack ty src z f id
     if 256 < (v.placeUnit (.pdu ty src z f id d stamp k)).wvr.units.length then v.unitLost (.pdu ty src z f id d stamp k)
     else (v.placeUnit (.pdu ty src z f id d stamp k)).pduNoted ty src z f id stamp) := rfl

theorem State.queueUnit_pathCounted (u : WUnit) : s.PathCounted (s.queueUnit u) := by
  cases u with
  | timeout i =>
    rw [s.queueUnit_timeout i]
    split
    · exact s.unitLost_pathCounted _
    · exact State.pathCounted_of_cnts rfl
  | pdu ty src z f id d stamp k =>
    have back : s.PathCounted (s.timeoutTakenBack ty src z f id) := by
      unfold State.timeoutTakenBack
      split
      · exact s.cancelTimeout_pathCounted _
      · exact State.CntsBut.refl _ _
    have noted (v : State) : v.PathCounted (v.pduNoted ty src z f id stamp) := by
      unfold State.pduNoted
      split
      · exact v.pduReceived_pathCounted _ _
      · exact State.CntsBut.refl _ _
    rw [s.queueUnit_pdu]
    generalize s.timeoutTakenBack ty src z f id = v at *
    have placed : v.PathCounted (v.placeUnit (.pdu ty src z f id d stamp k)) := State.pathCounted_of_cnts rfl
    dsimp only
    split
    · exact back.comp (v.unitLost_pathCounted _)
    · exact (back.comp placed).comp (noted _)

theorem State.handAcf_pathCounted (zone : Nat) : ∀ (fuel : Nat) (b : List Byte) (left : Nat) (s : State), s.PathCounted (s.handAcf zone b fuel left) := by
  intro fuel
  induction fuel with
  | zero => exact fun _ _ _ => State.CntsBut.refl _ _
  | succ fuel ih =>
    intro b left s
    unfold State.handAcf
    dsimp only
    split
    · exact State.CntsBut.refl _ _
    · refine State.CntsBut.comp ?_ (ih _ _ _)
      split
      · exact s.queueUnit_pathCounted _
      · exact s.inc_pathCounted (by decide)

theorem State.handContainers_pathCounted (zone : Nat) : ∀ (fuel : Nat) (b : List Byte) (s : State),
    s.PathCounted (s.handContainers zone b fuel) := by
  intro fuel
  induction fuel with
  | zero => exact fun _ _ => State.CntsBut.refl _ _
  | succ fuel ih =>
    intro b s
    unfold State.handContainers
    dsimp only
    split
    · exact State.CntsBut.refl _ _
    · exact (s.queueUnit_pathCounted _).comp (ih _ _)

theorem State.handOver_pathCounted (h : Nat) : s.PathCounted (s.handOver h) := by
  have taken (i : PassInfo) := (s.setInfo_holdKept h i).pathCounted
  unfold State.handOver
  dsimp only
  split
  · exact (taken _).comp (State.handAcf_pathCounted _ _ _ _ _)
  · exact (taken _).comp (State.handContainers_pathCounted _ _ _ _)

theorem State.deliverSpecial_pathCounted (h : Nat) : s.PathCounted (s.deliverSpecial h) := by
  unfold State.deliverSpecial
  split
  · split
    · exact State.CntsBut.refl _ _
    split
    · exact s.inc_pathCounted (by decide)
    split
    · exact s.inc_pathCounted (by decide)
    split
    · exact s.inc_pathCounted (by decide)
    · dsimp only
      split
      · exact (s.modFrame_holdKept h _).pathCounted.comp (State.pathCounted_of_cnts rfl)
      · exact State.pathCounted_of_cnts rfl
  · exact State.CntsBut.refl _ _

/-- The learn request of a good frame joins the queue. -/
def State.learnAtEnd (s : State) (h : Nat) : State :=
  match (s.info h).learn with
  | some r => (s.setInfo h { s.info h with learn := none }).queueLearn r
  | none => s

/-- The units of a good frame go to the Weaver. -/
def State.weaveAtEnd (s : State) (h : Nat) : State := if (s.info h).toWeaver then s.handOver h else s

/-- A good special frame is delivered. -/
def State.specialAtEnd (s : State) (h : Nat) : State :=
  if (s.info h).special = some .crossing then s.deliverSpecial h
  else (s.deliverSpecial h).setInfo h { (s.deliverSpecial h).info h with special := none }

theorem State.goodEnd_good {h : Nat} {f : Frame} (hf : s.frame h = some f) (good : f.bad = false) :
    s.goodEnd h = ((s.learnAtEnd h).weaveAtEnd h).specialAtEnd h := by
  unfold State.goodEnd
  rw [hf]
  dsimp only
  rw [good, if_neg (by decide)]
  rfl

theorem State.goodEnd_bad {h : Nat} (bad : ∀ f, s.frame h = some f → f.bad = true) : s.goodEnd h = s := by
  unfold State.goodEnd
  split
  · rfl
  next f hf => rw [bad f hf, if_pos rfl]

theorem State.goodEnd_pathCounted (h : Nat) : s.PathCounted (s.goodEnd h) := by
  have learnt : s.PathCounted (s.learnAtEnd h) := by
    unfold State.learnAtEnd
    split
    · exact (s.setInfo_holdKept h _).pathCounted.comp (State.queueLearn_pathCounted _ _)
    · exact State.CntsBut.refl _ _
  have woven (u : State) : u.PathCounted (u.weaveAtEnd h) := by
    unfold State.weaveAtEnd
    split
    · exact u.handOver_pathCounted h
    · exact State.CntsBut.refl _ _
  have delivered (u : State) : u.PathCounted (u.specialAtEnd h) := by
    unfold State.specialAtEnd
    split
    · exact u.deliverSpecial_pathCounted h
    · exact (u.deliverSpecial_pathCounted h).comp (State.setInfo_holdKept _ _ _).pathCounted
  cases hf : s.frame h with
  | none => rw [s.goodEnd_bad (fun f h => absurd (hf.symm.trans h) (by simp))]; exact State.CntsBut.refl _ _
  | some f =>
    cases hb : f.bad with
    | true => rw [s.goodEnd_bad (fun g hg => by rw [hf] at hg; cases hg; exact hb)]; exact State.CntsBut.refl _ _
    | false =>
      rw [s.goodEnd_good hf hb]
      exact (learnt.comp (woven _)).comp (delivered _)

theorem State.endChecks_pathCounted (h : Nat) : s.PathCounted (s.endChecks h) := by
  have checked := ((s.lateWalk_pathCounted h).comp (State.lateSdu_pathCounted _ h)).comp (State.refunds_pathCounted _ h)
  unfold State.endChecks
  split
  · exact State.CntsBut.refl _ _
  split
  · exact State.CntsBut.refl _ _
  generalize ((s.lateWalk h).lateSdu h).refunds h = u at *
  dsimp only
  split
  · exact checked
  split
  · exact (checked.comp (u.goodEnd_pathCounted h)).comp (State.tryRelease_holdKept _ h).pathCounted
  · exact checked

end
end Sys2Proof.Machine
end

section
/-! Snapshots, sleep messages, credits and crossing frames of a pair (O54; spec/15, R428 to R442): a message taken from the inbox, the
items of a snapshot applied, the credits of a VOQ counted, a crossing frame passed, an unacknowledged copy given up. -/

namespace Sys2Proof.Machine

section
variable {s : State}

/-! ## Snapshots -/

theorem exec_syncSnapshot_sends {T : Nat} (hl : s.linked = true) (mode : s.fld F.PAIR_CFG_MODE = 1) (planned : s.twin.tSync = some T)
    (due : T ≤ s.nowNs) (step : s.twin.step = 4) (role : s.role = 3) :
    ∃ t, exec .syncSnapshot s = .next t ∧ s.Only t [.cnts, .data, .twin] ∧ t.twin.tSync = none ∧ t.twin.step = 0 ∧
      t.pairSeq 6 = (s.pairSeq 6 + 1) % 2 ^ 32 ∧ s.RegsBut t [] := by
  have run := exec_syncSnapshot s hl
  have active : s.pairActive = true := by
    have role' : s.fld F.PAIR_STATUS_ROLE = 3 := role
    rw [State.pairActive, mode, role']
    rfl
  let m := s.pairSend 6 (Config.syncBody (s.snapshot.map snapCode))
  have effect : s.syncSnapshot = { m with twin := { m.twin with step := 0, tSync := none } } := by
    unfold State.syncSnapshot
    rw [planned]
    dsimp only
    rw [if_neg (by omega), active, if_pos rfl]
  have sent : s.Only m [.cnts, .data, .twin] := s.pairSend_only _ _
  have whole : s.Only { m with twin := { m.twin with step := 0, tSync := none } } [.cnts, .data, .twin] :=
    sent.comp rfl
  rw [effect, whole.confine _ (by decide)] at run
  exact ⟨_, run, whole, rfl, rfl, s.pairSend_pairSeq 6 _, State.regsBut_of_regs (whole.keeps State.regs rfl) _⟩

theorem exec_syncSnapshot_records {T : Nat} (hl : s.linked = true) (planned : s.twin.tSync = some T) (due : T ≤ s.nowNs)
    (step : s.twin.step = 4) (role : s.role = 4) :
    ∃ t, exec .syncSnapshot s = .next t ∧ t.twin.snap = s.snapshot ∧ t.twin.snapping = true ∧ t.twin.syncLog = [] ∧
      t.twin.tSync = none ∧ s.Only t [.twin] := by
  have run := exec_syncSnapshot s hl
  have passive : s.pairActive = false := by
    have role' : s.fld F.PAIR_STATUS_ROLE = 4 := role
    rw [State.pairActive, role']
    exact Bool.and_false _
  let t : State := { s with twin := { s.twin with snap := s.snapshot, snapping := true, syncLog := [], draws := [], overflow := false, tSync := none } }
  have effect : s.syncSnapshot = t := by
    unfold State.syncSnapshot
    rw [planned]
    dsimp only
    rw [if_neg (by omega), passive, if_neg (by decide), if_pos role]
  have whole : s.Only t [.twin] := rfl
  rw [effect, whole.confine _ (by decide)] at run
  exact ⟨_, run, rfl, rfl, rfl, rfl, whole⟩

theorem exec_syncReceivePair_plans {f : InFrame} {u : State} (hl : s.linked = true) (role : s.role = 4) (h : s.takePair 6 = some (f, u))
    (T : Nat) (items : List (Nat × Nat × Int)) (step : s.twin.step = 3) :
    ∃ t, exec (.syncReceivePair (some T) items) s = .next t ∧ t.twin = { s.twin with step := 4, tSync := some T } ∧
      t.mgt.inbox = s.mgt.inbox.erase f ∧ s.Only t [.mgt, .twin] := by
  have run := exec_syncReceivePair s (some T) items hl
  obtain rfl := State.takePair_some h
  let t : State := { s.inboxTaken f with twin := { s.twin with step := 4, tSync := some T } }
  have effect : s.syncReceivePair (some T) items = t := by
    unfold State.syncReceivePair
    rw [h]
    have role' : ¬ (s.inboxTaken f).role ≠ 4 := not_not.mpr role
    have step' : (s.inboxTaken f).twin.step = 3 := step
    dsimp only
    rw [if_neg role', if_pos step']
    rfl
  have whole : s.Only t [.mgt, .twin] := rfl
  rw [effect, whole.confine _ (by decide)] at run
  exact ⟨_, run, rfl, rfl, whole⟩

theorem exec_syncReceivePair_overflows {f : InFrame} {u : State} (hl : s.linked = true) (role : s.role = 4) (h : s.takePair 6 = some (f, u))
    (items : List (Nat × Nat × Int)) (snapping : s.twin.snapping = true) (overflow : s.twin.overflow = true) (step : s.twin.step = 4) :
    ∃ t, exec (.syncReceivePair none items) s = .next t ∧ s.Only t [.regs, .cnts, .data, .mgt, .edge, .wvr, .ldg, .twin, .key] ∧
      t.twin.step = 9 ∧ t.cnt (C.pair 8) = s.cnt (C.pair 8) + 1 ∧ s.RegsBut t [] := by
  have run := exec_syncReceivePair s none items hl
  obtain rfl := State.takePair_some h
  let t := State.inc { s.inboxTaken f with twin := { s.twin with step := 9, tSync := none, snapping := false } } (C.pair 8)
  have effect : s.syncReceivePair none items = t := by
    unfold State.syncReceivePair
    rw [h]
    have role' : ¬ (s.inboxTaken f).role ≠ 4 := not_not.mpr role
    have snapping' : (s.inboxTaken f).twin.snapping = true := snapping
    have overflow' : (s.inboxTaken f).twin.overflow = true := overflow
    have fails : (s.inboxTaken f).rejoinFail = t := if_neg (by
      show ¬ (s.twin.step = 0 ∨ s.twin.step = 9)
      rw [step]
      decide)
    dsimp only
    rw [if_neg role', snapping', if_neg (by decide), overflow', if_pos rfl, fails]
  have whole : s.Only t [.cnts, .mgt, .twin] := rfl
  rw [effect, whole.confine _ (by decide)] at run
  exact ⟨_, run, whole.mono _ (by decide), rfl, State.cnt_inc_same _ _, State.regsBut_of_regs rfl _⟩

/-- The items of the partner's snapshot are applied, then the unit's own that it does not name. -/
def State.itemsApplied (s : State) (l : List (SnapKind × Int)) : State :=
  forEach (l.map (fun c => c.1) ++ (s.twin.snap.map (fun c => c.1)).filter (fun k => !(l.map (fun c => c.1)).contains k))
    (fun k s => s.applyItem l k) s

/-- The sync log is closed. -/
def State.logClosed (s : State) : State :=
  { s with twin := { s.twin with snapping := false, snap := [], syncLog := [], draws := [] } }

/-- The unit has rejoined. -/
def State.rejoinEnded (s : State) : State := { s with twin := { s.twin with step := 0, rejoined := true } }

/-- The snapshot is done with: the log is run again, the unit has rejoined. -/
def State.rejoinDone (s : State) : State :=
  ((forEach s.twin.syncLog (fun e s => s.rerun e) s.logClosed).rejoinEnded.inc (C.pair 7)).settleReady

theorem State.syncReceivePair_eq {f : InFrame} {u : State} (items : List (Nat × Nat × Int)) (h : s.takePair 6 = some (f, u)) (role : u.role = 4)
    (snapping : u.twin.snapping = true) (overflow : u.twin.overflow = false) :
    s.syncReceivePair none items = (u.itemsApplied (items.map (fun c => (snapKind c.1 c.2.1, c.2.2)))).rejoinDone := by
  unfold State.syncReceivePair
  rw [h]
  dsimp only
  rw [if_neg (not_not.mpr role), snapping, if_neg (by decide), overflow, if_neg (by decide)]
  rfl

theorem State.itemsApplied_one {k : Nat} {v d : Int} (snap : s.twin.snap = [(SnapKind.delta k, d)]) :
    s.itemsApplied [(SnapKind.delta k, v)] =
      s.setReg k (putBits (s.reg k) 15 0 (ofSigned 16 ((wordBits (s.reg k) 15 0 : Int) + (v - d)))) := by
  have none : (s.twin.snap.map (fun c => c.1)).filter (fun j => !([(SnapKind.delta k, v)].map (fun c => c.1)).contains j) = [] := by
    simp [snap]
  have item : s.applyItem [(SnapKind.delta k, v)] (.delta k) =
      s.setReg k (putBits (s.reg k) 15 0 (ofSigned 16 ((wordBits (s.reg k) 15 0 : Int) + (v - d)))) := by
    unfold State.applyItem
    rw [snap]
    simp only [snapAt, List.find?_cons, beq_self_eq_true]
  unfold State.itemsApplied
  rw [none]
  exact item

theorem State.rejoinDone_ends (log : s.twin.syncLog = []) : s.rejoinDone.twin.step = 0 ∧ s.rejoinDone.twin.rejoined = true ∧
    s.rejoinDone.twin.snapping = false ∧ s.rejoinDone.cnt (C.pair 7) = s.cnt (C.pair 7) + 1 ∧ s.RegsBut s.rejoinDone [K.PAIR_STATUS] := by
  have eq : s.rejoinDone = (s.logClosed.rejoinEnded.inc (C.pair 7)).settleReady := by
    unfold State.rejoinDone
    rw [log]
    rfl
  obtain ⟨_, _, regs, only⟩ := (s.logClosed.rejoinEnded.inc (C.pair 7)).settleReady_settles
  rw [eq]
  have twin : (s.logClosed.rejoinEnded.inc (C.pair 7)).settleReady.twin = s.logClosed.rejoinEnded.twin := only.keeps State.twin rfl
  have cnts : (s.logClosed.rejoinEnded.inc (C.pair 7)).settleReady.cnts = (s.logClosed.rejoinEnded.inc (C.pair 7)).cnts :=
    only.keeps State.cnts rfl
  rw [twin]
  exact ⟨rfl, rfl, rfl, (State.cnt_congr cnts _).trans (State.cnt_inc_same _ _), regs⟩

theorem exec_syncReceivePair_applies {f : InFrame} {u : State} (hl : s.linked = true) (role : s.role = 4) (h : s.takePair 6 = some (f, u))
    (i : Nat) (v d : Int) (snapping : s.twin.snapping = true) (overflow : s.twin.overflow = false) (log : s.twin.syncLog = [])
    (snap : s.twin.snap = [(SnapKind.delta (K.SEQG_WIN_CFG i), d)]) :
    ∃ t, exec (.syncReceivePair none [(0, K.SEQG_WIN_CFG i, v)]) s = .next t ∧
      s.Only t [.regs, .cnts, .data, .mgt, .edge, .wvr, .ldg, .twin, .key] ∧ t.twin.step = 0 ∧ t.twin.rejoined = true ∧
      t.twin.snapping = false ∧ t.cnt (C.pair 7) = s.cnt (C.pair 7) + 1 ∧
      t.reg (K.SEQG_WIN_CFG i) = putBits (s.reg (K.SEQG_WIN_CFG i)) 15 0
        (ofSigned 16 ((wordBits (s.reg (K.SEQG_WIN_CFG i)) 15 0 : Int) + (v - d))) ∧
      s.RegsBut t [K.SEQG_WIN_CFG i, K.PAIR_STATUS] := by
  have run := exec_syncReceivePair s none [(0, K.SEQG_WIN_CFG i, v)] hl
  obtain rfl := State.takePair_some h
  let k := K.SEQG_WIN_CFG i
  let w := putBits (s.reg k) 15 0 (ofSigned 16 ((wordBits (s.reg k) 15 0 : Int) + (v - d)))
  let a := (s.inboxTaken f).setReg k w
  have other : k ≠ K.PAIR_STATUS := by simp only [k, K.SEQG_WIN_CFG, K.PAIR_STATUS]; omega
  have effect : s.syncReceivePair none [(0, k, v)] = a.rejoinDone :=
    (State.syncReceivePair_eq _ h role snapping overflow).trans
      (congrArg State.rejoinDone (State.itemsApplied_one (s := s.inboxTaken f) (v := v) snap))
  obtain ⟨step, rejoined, done, count, regs⟩ := State.rejoinDone_ends (s := a) log
  rw [effect] at run
  generalize a.rejoinDone = x at *
  refine ⟨_, run, s.only_confine _ _, step, rejoined, done, count, ?_, ?_⟩
  · exact (regs k (by simpa using other)).trans (State.reg_setReg_same _ _ _)
  · have set : s.RegsBut a [k] := (s.inboxTaken f).regsBut_setReg k w
    exact (set.mono (by simp [k])).comp ((regs.mono (by simp)).after rfl)

/-! ## Sleep and wake messages -/

/-- A network management event is logged, or not in Calm or where the log is full; it goes to the journal and to the MC. -/
theorem State.nmEvent_keeps (e source groups : Nat) : s.Only (s.nmEvent e source groups) [.regs, .cnts, .nmLog, .mgt, .key] ∧
    s.RegsBut (s.nmEvent e source groups) journalKeys ∧ s.CntsBut (s.nmEvent e source groups) eventCounters := by
  unfold State.nmEvent
  split
  · exact ⟨s.only_refl _, State.RegsBut.refl _ _, State.CntsBut.refl _ _⟩
  · have logged (l : List Word) (c : Nat) (d : List Byte) (u : State) (hu : u = { s with nmLog := l }) :
        s.Only (u.raise c d) [.regs, .cnts, .nmLog, .mgt, .key] ∧ s.RegsBut (u.raise c d) journalKeys ∧ s.CntsBut (u.raise c d) eventCounters := by
      have only : s.Only u [.regs, .cnts, .nmLog, .mgt, .key] := by subst hu; rfl
      exact ⟨only.comp ((u.raise_only c d).mono _ (by decide)), (u.raise_regsBut c d).from (by subst hu; rfl),
        (State.cntsBut_of_cnts (by subst hu; rfl) _).comp (u.raise_cntsBut c d)⟩
    exact logged _ _ _ _ rfl

/-- The commanders among the LIN channels send go-to-sleep. -/
def State.linsToSleep (s : State) (l : List Nat) : State :=
  forEach l (fun n s => s.setLin n { s.lin n with goSleep := true, slept := false }) s

theorem State.linsToSleep_only (l : List Nat) : s.Only (s.linsToSleep l) [.edge] := by
  have one (n : Nat) (s : State) (x : LinSt) : s.Only (s.setLin n x) [.edge] := rfl
  exact forEach_only _ (fun n s => one n s _) l s

/-- The commit of the partner stands. -/
def State.commitStands (s : State) (b : List Byte) : State :=
  { s with nm := { s.nm with round := beAt b 0 2, committed := beAt b 2 2, told := [], armed := true, latched := none,
                             tCommit := beAt b 6 6 * 1000000000 + beAt b 12 4 } }

theorem exec_sleepPairReceive_commits {f : InFrame} {u : State} (hl : s.linked = true) (mode : s.fld F.PAIR_CFG_MODE = 1) (role : s.role = 4)
    (h : s.takePair 7 = some (f, u)) (commit : beAt (pmBody f.bytes) 4 1 = 0) :
    ∃ t, exec .sleepPairReceive s = .next t ∧ s.Only t [.regs, .cnts, .nmLog, .data, .mgt, .edge, .nm, .twin, .key, .out] ∧
      t.fld F.NM_STATE_RING = 2 ∧ t.nm.committed = beAt (pmBody f.bytes) 2 2 ∧ t.nm.round = beAt (pmBody f.bytes) 0 2 ∧
      t.nm.armed = true ∧ t.nm.tCommit = beAt (pmBody f.bytes) 6 6 * 1000000000 + beAt (pmBody f.bytes) 12 4 := by
  have run := exec_sleepPairReceive s hl
  obtain rfl := State.takePair_some h
  let set := beAt (pmBody f.bytes) 2 2
  let a := (s.inboxTaken f).commitStands (pmBody f.bytes)
  let b := a.linsToSleep (a.commanders set)
  let c := b.setFld F.NM_STATE_RING 2
  let d := c.inc (C.nm 3)
  have standby : (s.inboxTaken f).standby = true := by
    have role' : s.fld F.PAIR_STATUS_ROLE = 4 := role
    show s.standby = true
    rw [State.standby, mode, role']
    rfl
  have effect : s.sleepPair = d.nmEvent 4 255 set := by
    unfold State.sleepPair
    rw [h]
    dsimp only
    rw [standby, if_neg (by decide), if_pos commit]
    rfl
  obtain ⟨only, regs, _⟩ := State.nmEvent_keeps (s := d) 4 255 set
  have quiet : a.Only b [.edge] := State.linsToSleep_only _
  have nm : (d.nmEvent 4 255 set).nm = a.nm :=
    (only.keeps State.nm rfl).trans (quiet.keeps State.nm rfl)
  have ring : (d.nmEvent 4 255 set).fld F.NM_STATE_RING = 2 :=
    (regs.fld (f := F.NM_STATE_RING) (by decide)).trans (b.fld_setFld_same F.NM_STATE_RING 2 (by decide) (by decide))
  rw [effect] at run
  generalize d.nmEvent 4 255 set = x at *
  have at_ {α : Type} (g : NmSt → α) : g x.nm = g a.nm := congrArg g nm
  exact ⟨_, run, s.only_confine _ _, ring, at_ NmSt.committed, at_ NmSt.round, at_ NmSt.armed, at_ NmSt.tCommit⟩

theorem State.wakeOut_keeps : s.Only s.wakeOut [.nm, .out] ∧ s.wakeOut.nm.calm = s.nm.calm ∧ s.wakeOut.nm.due = s.nm.due ∧
    s.wakeOut.nm.committed = s.nm.committed ∧ s.wakeOut.nm.tCommit = s.nm.tCommit := by
  unfold State.wakeOut
  split
  · exact ⟨rfl, rfl, rfl, rfl, rfl⟩
  · exact ⟨s.only_refl _, rfl, rfl, rfl, rfl⟩

/-- A wake while no sleep is committed makes the sleeping groups among those it names due. -/
theorem State.wake_idle (passive : s.standby = false) (calm : s.nm.calm = false) (ring : s.fld F.NM_STATE_RING = 0)
    (groups lines stamp : Nat) : (s.wake groups 0xFF lines stamp).nm.due = s.nm.due ||| (groups &&& s.asleepMask) ∧
      (s.wake groups 0xFF lines stamp).mgt = s.mgt := by
  obtain ⟨only, _, due, _⟩ := State.wakeOut_keeps (s := s)
  have regs : s.wakeOut.regs = s.regs := only.keeps State.regs rfl
  have asleep : s.wakeOut.asleepMask = s.asleepMask := State.fld_congr regs _
  have mgt : s.wakeOut.mgt = s.mgt := only.keeps State.mgt rfl
  have eq : s.wake groups 0xFF lines stamp = if groups = 0 then s
      else if (groups &&& s.wakeOut.asleepMask) = 0 then s.wakeOut
      else { s.wakeOut with nm := { s.wakeOut.nm with due := s.wakeOut.nm.due ||| (groups &&& s.wakeOut.asleepMask), dueCode := 0xFF } } := by
    have low : ¬ 2 ≤ s.fld F.NM_STATE_RING := by omega
    unfold State.wake
    simp only [passive, calm, Bool.false_and, Bool.false_eq_true, if_false, low, false_and, show ((0xFF : Nat) == 0xC4) = false from rfl]
  rw [eq]
  split
  next none => exact ⟨by rw [none, Nat.zero_and, Nat.or_zero], rfl⟩
  split
  next none =>
    rw [asleep] at none
    exact ⟨by rw [none, Nat.or_zero, due], mgt⟩
  next => exact ⟨by rw [← asleep, ← due], mgt⟩

theorem exec_wakePairReceive_wakes {f : InFrame} {u : State} (hl : s.linked = true) (mode : s.fld F.PAIR_CFG_MODE = 1) (role : s.role = 3)
    (calm : s.nm.calm = false) (ring : s.fld F.NM_STATE_RING = 0) (h : s.takePair 8 = some (f, u)) :
    ∃ t, exec .wakePairReceive s = .next t ∧ s.Only t [.regs, .cnts, .nmLog, .data, .mgt, .edge, .nm, .twin, .key, .out] ∧
      t.nm.due = s.nm.due ||| (beAt (pmBody f.bytes) 0 2 &&& s.asleepMask) ∧ t.mgt.inbox = s.mgt.inbox.erase f := by
  have run := exec_wakePairReceive s hl
  obtain rfl := State.takePair_some h
  have role' : s.fld F.PAIR_STATUS_ROLE = 3 := role
  have active : (s.inboxTaken f).pairActive = true := by
    show s.pairActive = true
    rw [State.pairActive, mode, role']
    rfl
  have passive : (s.inboxTaken f).standby = false := by
    show s.standby = false
    rw [State.standby, role']
    exact Bool.and_false _
  have effect : s.wakePair = (s.inboxTaken f).wake (beAt (pmBody f.bytes) 0 2) 0xFF 0
      (beAt (pmBody f.bytes) 2 6 * 1000000000 + beAt (pmBody f.bytes) 8 4) := by
    unfold State.wakePair
    rw [h]
    dsimp only
    rw [active, if_pos rfl]
  obtain ⟨due, mgt⟩ := State.wake_idle (s := s.inboxTaken f) passive calm ring (beAt (pmBody f.bytes) 0 2) 0
    (beAt (pmBody f.bytes) 2 6 * 1000000000 + beAt (pmBody f.bytes) 8 4)
  rw [effect] at run
  generalize (s.inboxTaken f).wake (beAt (pmBody f.bytes) 0 2) 0xFF 0 (beAt (pmBody f.bytes) 2 6 * 1000000000 + beAt (pmBody f.bytes) 8 4) = x at *
  exact ⟨_, run, s.only_confine _ _, due, congrArg MgtSt.inbox mgt⟩

/-! ## Credits -/

theorem State.pushCopy_returned (q : Nat) (c : Copy) : (s.pushCopy q c).data.returned = s.data.returned := by
  have tagged (u : State) (st : Nat) : (u.headTag q st).data.returned = u.data.returned := by
    unfold State.headTag
    split <;> rfl
  unfold State.pushCopy
  dsimp only
  split
  · exact tagged _ _
  · rfl

theorem State.pairSend_returned (ty : Nat) (body : List Byte) : (s.pairSend ty body).data.returned = s.data.returned := by
  have queued (p : Nat) (b : List Byte) (u : State) :
      (u.enqueue p 7 ⟨none, b, none, 0, none, false, none, 0, .pair, false, none⟩).data.returned = u.data.returned := by
    unfold State.enqueue
    dsimp only
    split
    · rfl
    · exact State.pushCopy_returned _ _
  rw [s.pairSend_eq]
  exact forEach_part _ _ (fun u : State => u.data.returned) (fun p u => queued p _ u) (s.seqUsed ty)

theorem exec_creditSend_sends {v n : Nat} (hr : s.running = true) (joined : s.joined = true) (returned : s.data.returned = [(v, n)])
    (changed : mapGet (fun _ => 0) s.twin.credited v ≠ n) :
    ∃ t, exec .creditSend s = .next t ∧ s.Only t [.cnts, .data, .twin] ∧ t.pairSeq 5 = (s.pairSeq 5 + 1) % 2 ^ 32 ∧
      t.twin.credited = [(v, n)] ∧ t.data.returned = [(v, n)] := by
  have run := exec_creditSend s hr
  let a : State := { s with twin := { s.twin with credited := [(v, n)] } }
  have effect : s.creditSend = a.pairSend 5 (creditBody 0 [(v, n)]) := by
    have listed : s.data.returned.filter (fun c => mapGet (fun _ => 0) s.twin.credited c.1 != c.2) = [(v, n)] := by
      rw [returned, List.filter_cons_of_pos (by simpa using changed)]
      rfl
    unfold State.creditSend
    dsimp only
    rw [joined, if_neg (by decide), listed, returned]
    rfl
  have seq := State.pairSend_pairSeq (s := a) 5 (creditBody 0 [(v, n)])
  have kept := State.pairSend_keeps (s := a) PairSt.credited (fun _ _ => rfl) 5 (creditBody 0 [(v, n)])
  have still := State.pairSend_returned (s := a) 5 (creditBody 0 [(v, n)])
  rw [effect] at run
  generalize a.pairSend 5 (creditBody 0 [(v, n)]) = x at *
  exact ⟨_, run, s.only_confine _ _, seq, kept, still.trans returned⟩

theorem beAt_drop (b : List Byte) (k off n : Nat) : beAt (b.drop k) off n = beAt b (k + off) n := by
  unfold beAt slice
  rw [List.drop_drop]

theorem State.creditReset_resets (v : Nat) : (s.creditReset v).voqBack v = 0 ∧ (s.creditReset v).voqSent v = 0 ∧
    (s.creditReset v).cnts = s.cnts :=
  ⟨mapGet_mapSet_same (fun _ => 0) s.twin.voqBack v 0, mapGet_mapSet_same (fun _ => 0) s.twin.voqSent v 0, rfl⟩

theorem State.creditReceive_eq {f : InFrame} {u : State} (h : s.takePair 5 = some (f, u)) (joined : u.joined = true)
    (one : beAt (pmBody f.bytes) 1 1 = 1) : s.creditReceive = if beAt (pmBody f.bytes) 0 1 = 1
      then (u.creditReset (beAt (pmBody f.bytes) 2 2)).inc (C.pair 11) else u.setVoqBack (beAt (pmBody f.bytes) 2 2) (beAt (pmBody f.bytes) 4 4) := by
  have entry : creditEntries ((pmBody f.bytes).drop 2) 1 = [(beAt (pmBody f.bytes) 2 2, beAt (pmBody f.bytes) 4 4)] := by
    simp [creditEntries, beAt_drop]
  unfold State.creditReceive
  rw [h]
  dsimp only
  rw [joined, if_neg (by decide), one, entry]
  rfl

theorem exec_creditReceive_updates {f : InFrame} {u : State} (hr : s.running = true) (joined : s.joined = true) (h : s.takePair 5 = some (f, u))
    (one : beAt (pmBody f.bytes) 1 1 = 1) (update : beAt (pmBody f.bytes) 0 1 = 0) :
    ∃ t, exec .creditReceive s = .next t ∧ s.Only t [.cnts, .data, .mgt, .twin] ∧
      t.voqBack (beAt (pmBody f.bytes) 2 2) = beAt (pmBody f.bytes) 4 4 ∧
      (∀ v, v ≠ beAt (pmBody f.bytes) 2 2 → t.voqBack v = s.voqBack v) ∧ (∀ v, t.voqSent v = s.voqSent v) ∧ t.cnts = s.cnts := by
  have run := exec_creditReceive s hr
  obtain rfl := State.takePair_some h
  rw [State.creditReceive_eq h joined one, update, if_neg (by decide)] at run
  exact ⟨_, run, s.only_confine _ _, mapGet_mapSet_same (fun _ => 0) s.twin.voqBack _ _,
    fun v hv => mapGet_mapSet_other (fun _ => 0) s.twin.voqBack _ (Ne.symm hv), fun _ => rfl, rfl⟩

theorem exec_creditReceive_resets {f : InFrame} {u : State} (hr : s.running = true) (joined : s.joined = true) (h : s.takePair 5 = some (f, u))
    (one : beAt (pmBody f.bytes) 1 1 = 1) (reset : beAt (pmBody f.bytes) 0 1 = 1) :
    ∃ t, exec .creditReceive s = .next t ∧ s.Only t [.cnts, .data, .mgt, .twin] ∧ t.voqBack (beAt (pmBody f.bytes) 2 2) = 0 ∧
      t.voqSent (beAt (pmBody f.bytes) 2 2) = 0 ∧ t.cnt (C.pair 11) = s.cnt (C.pair 11) + 1 ∧ s.CntsBut t [C.pair 11] := by
  have run := exec_creditReceive s hr
  obtain rfl := State.takePair_some h
  obtain ⟨back, sent, cnts⟩ := State.creditReset_resets (s := s.inboxTaken f) (beAt (pmBody f.bytes) 2 2)
  rw [State.creditReceive_eq h joined one, reset, if_pos rfl] at run
  generalize (s.inboxTaken f).creditReset (beAt (pmBody f.bytes) 2 2) = x at *
  refine ⟨_, run, s.only_confine _ _, back, sent, (x.cnt_inc_same _).trans (congrArg (· + 1) (State.cnt_congr cnts _)), ?_⟩
  exact (State.cntsBut_of_cnts cnts _).comp (x.cntsBut_inc _)

theorem exec_creditResetTimeout_resets {v : Nat} (hr : s.running = true) (joined : s.joined = true) (hv : v < 288)
    (waits : s.queue (280 + v) ≠ []) :
    ∃ t, exec (.creditResetTimeout v) s = .next t ∧ s.Only t [.cnts, .data, .twin] ∧ t.voqBack v = 0 ∧ t.voqSent v = 0 ∧
      t.cnt (C.pair 11) = s.cnt (C.pair 11) + 1 ∧ t.pairSeq 5 = (s.pairSeq 5 + 1) % 2 ^ 32 := by
  have run := exec_creditResetTimeout s v (decide_eq_true hv) hr
  have effect : s.creditTimeout v = ((s.pairSend 5 (creditBody 1 [(v, 0)])).creditReset v).inc (C.pair 11) := by
    unfold State.creditTimeout
    rw [if_neg (by simp [joined, List.isEmpty_iff, waits])]
  have seq := State.pairSend_pairSeq (s := s) 5 (creditBody 1 [(v, 0)])
  have cnts := State.pairSend_cntsBut (s := s) 5 (creditBody 1 [(v, 0)])
  rw [effect] at run
  generalize s.pairSend 5 (creditBody 1 [(v, 0)]) = a at *
  obtain ⟨back, sent, same⟩ := State.creditReset_resets (s := a) v
  have count : ((a.creditReset v).inc (C.pair 11)).cnt (C.pair 11) = s.cnt (C.pair 11) + 1 := by
    rw [State.cnt_inc_same, State.cnt_congr same, cnts (C.pair 11) (by decide)]
  exact ⟨_, run, s.only_confine _ _, back, sent, count, seq⟩

/-! ## Crossing frames -/

/-- The header of a crossing frame: its VID, the port it entered, its destination; a redirected frame keeps out of the VLAN's rules. -/
def crossVid (f : Frame) : Nat := beAt f.bytes 18 2 % 4096
def crossIngress (f : Frame) : Nat := 64 + beAt f.bytes 15 1 / 2
def crossDest (f : Frame) : Nat := beAt f.bytes 16 1 / 4
def crossRedir (f : Frame) : Bool := (beAt f.bytes 17 1).testBit 4

/-- A crossing frame is described for its pass. -/
def State.crossBegun (s : State) (h : Nat) (f : Frame) : State :=
  let i := { s.info h with zone := beAt f.bytes 17 1 % 16, acf := false }
  let a := (s.modFrame h (fun g => { g with start := 8, gen := beAt f.bytes 15 1 % 2 })).setInfo h i
  let w := a.walkPass { f with start := 8 } i false true
  a.setInfo h { i with walk := w, late := false, special := none, sa := w.sa }

/-- What the walk of a crossing frame finds. -/
def State.crossWalk (s : State) (h : Nat) (f : Frame) : Walk :=
  let i := { s.info h with zone := beAt f.bytes 17 1 % 16, acf := false }
  ((s.modFrame h (fun g => { g with start := 8, gen := beAt f.bytes 15 1 % 2 })).setInfo h i).walkPass { f with start := 8 } i false true

/-- Its source address is learned where its VLAN takes the frame. -/
def State.crossLearnt (s : State) (h : Nat) (f : Frame) (sa : Nat) : State :=
  let l := if crossRedir f || s.vlanDrops (crossVid f) (crossIngress f) then (none, s) else s.learnLookup (crossVid f) (crossIngress f) sa
  l.2.setInfo h { l.2.info h with learn := l.1 }

/-- Its copies are made. -/
def State.crossDealt (s : State) (h : Nat) (f : Frame) (w : Walk) : State :=
  let mk (l : List Plan) : Deal :=
    { Deal.plain (beAt f.bytes 17 1 % 16) (beAt f.bytes 17 1 / 32) (crossVid f) (crossRedir f) l with colour := beAt f.bytes 16 1 % 4 }
  if crossDest f < 35 then
    (if !crossRedir f && (!s.flag (F.VLAN_WIN_DATA0_VALID (crossVid f)) || !(s.vlanMember (crossVid f)).testBit (crossDest f)) then s.inc (C.buf 8)
    else s.deal h (mk [⟨crossDest f, 0, !crossRedir f⟩]) true)
  else if crossDest f = 35 then s.deal h (mk ((s.flood (crossVid f) (crossIngress f) w false).map (fun d => ⟨d, 0, true⟩))) true
  else s

theorem State.crossPass_eq {h : Nat} {f : Frame} (hf : s.frame h = some f) : s.crossPass h =
    ((((s.crossBegun h f).crossLearnt h f (s.crossWalk h f).sa).crossDealt h f (s.crossWalk h f)).setStage h .passed).endChecks h := by
  unfold State.crossPass
  rw [hf]
  rfl

theorem State.crossBegun_keeps (h : Nat) (f : Frame) : (s.crossBegun h f).cnts = s.cnts ∧ (s.crossBegun h f).regs = s.regs := by
  have modified (g : Frame → Frame) : (s.modFrame h g).cnts = s.cnts ∧ (s.modFrame h g).regs = s.regs := by
    unfold State.modFrame
    split <;> exact ⟨rfl, rfl⟩
  exact modified _

theorem State.crossLearnt_pathCounted (h : Nat) (f : Frame) (sa : Nat) : s.PathCounted (s.crossLearnt h f sa) := by
  unfold State.crossLearnt
  dsimp only
  split
  · exact State.pathCounted_of_cnts rfl
  · exact (s.learnLookup_pathCounted _ _ _).comp (State.pathCounted_of_cnts rfl)

theorem State.crossDealt_counted (h : Nat) (f : Frame) (w : Walk) : s.CntsBut (s.crossDealt h f w) (C.buf 8 :: pathCounters) := by
  have dealt (d : Deal) : s.CntsBut (s.deal h d true) (C.buf 8 :: pathCounters) :=
    (s.deal_pathCounted h d true).mono (fun _ hk => List.mem_cons_of_mem _ hk)
  unfold State.crossDealt
  dsimp only
  split
  · split
    · exact (s.cntsBut_inc _).mono (by simp)
    · exact dealt _
  split
  · exact dealt _
  · exact State.CntsBut.refl _ _

/-- A frame whose VLAN does not take it is dropped and counted. -/
theorem State.crossDealt_dropped (h : Nat) {f : Frame} (w : Walk) (kept : crossRedir f = false) (dest : crossDest f < 35)
    (invalid : s.flag (F.VLAN_WIN_DATA0_VALID (crossVid f)) = false) : s.crossDealt h f w = s.inc (C.buf 8) := by
  unfold State.crossDealt
  dsimp only
  rw [if_pos dest, if_pos (by simp [kept, invalid])]

theorem State.crossLearnt_dropped (h : Nat) {f : Frame} (sa : Nat) (invalid : s.flag (F.VLAN_WIN_DATA0_VALID (crossVid f)) = false) :
    (s.crossLearnt h f sa).cnts = s.cnts ∧ (s.crossLearnt h f sa).regs = s.regs := by
  have drops : (crossRedir f || s.vlanDrops (crossVid f) (crossIngress f)) = true := by simp [State.vlanDrops, invalid]
  unfold State.crossLearnt
  rw [drops]
  exact ⟨rfl, rfl⟩

theorem State.setStage_cnts (h : Nat) (g : Stage) : (s.setStage h g).cnts = s.cnts := by
  unfold State.setStage State.modFrame
  split <;> rfl

/-- The stage is set and the end looked at. -/
theorem State.passEnded_pathCounted (s : State) (h : Nat) : s.PathCounted ((s.setStage h .passed).endChecks h) :=
  (State.pathCounted_of_cnts (State.setStage_cnts h .passed)).comp (State.endChecks_pathCounted _ h)

theorem State.crossPass_counts {h : Nat} {f : Frame} (hf : s.frame h = some f) : s.CntsBut (s.crossPass h) (C.buf 8 :: pathCounters) ∧
    (crossRedir f = false → crossDest f < 35 → s.flag (F.VLAN_WIN_DATA0_VALID (crossVid f)) = false →
      (s.crossPass h).cnt (C.buf 8) = s.cnt (C.buf 8) + 1) := by
  obtain ⟨cnts, regs⟩ := State.crossBegun_keeps (s := s) h f
  rw [State.crossPass_eq hf]
  generalize s.crossBegun h f = a at *
  have learnt := (State.pathCounted_of_cnts cnts).comp (a.crossLearnt_pathCounted h f (s.crossWalk h f).sa)
  have dropped := a.crossLearnt_dropped h (f := f) (s.crossWalk h f).sa
  generalize a.crossLearnt h f (s.crossWalk h f).sa = b at *
  have dealt := b.crossDealt_counted h f (s.crossWalk h f)
  have wide {u v : State} (l : u.PathCounted v) : u.CntsBut v (C.buf 8 :: pathCounters) := l.mono (fun _ hk => List.mem_cons_of_mem _ hk)
  refine ⟨((wide learnt).comp dealt).comp (wide (State.passEnded_pathCounted _ h)), fun kept dest invalid => ?_⟩
  obtain ⟨cnts', regs'⟩ := dropped ((State.flag_congr regs _).trans invalid)
  rw [State.passEnded_pathCounted _ h (C.buf 8) (by decide),
    b.crossDealt_dropped h (s.crossWalk h f) kept dest ((State.flag_congr (regs'.trans regs) _).trans invalid), State.cnt_inc_same,
    State.cnt_congr (cnts'.trans cnts)]

/-- The first crossing frame is taken from the list. -/
def State.crossTaken (s : State) (h : Nat) : State := { s with data := { s.data with crossing := s.data.crossing.erase h } }

/-- A crossing frame may be taken: its last byte is written, or it is gone. -/
def State.crossReady (s : State) (h : Nat) : Bool :=
  match s.frame h with
  | some f => f.written
  | none => true

/-- What becomes of the crossing frame taken. -/
def State.crossNext (s : State) (h : Nat) : State :=
  match s.frame h with
  | none => s
  | some f =>
    if f.bad ∨ !(s.inc (C.pair 10)).joined then ((s.inc (C.pair 10)).setStage h .passed).endChecks h else (s.inc (C.pair 10)).crossPass h

theorem State.crossingReceive_eq (s : State) : s.crossingReceive = match s.data.crossing.find? s.crossReady with
    | none => s
    | some h => (s.crossTaken h).crossNext h := rfl

theorem exec_crossingFrameReceive_passes {h : Nat} {rest : List Nat} {f : Frame} (hr : s.running = true) (crossing : s.data.crossing = h :: rest)
    (hf : s.frame h = some f) (written : f.written = true) :
    ∃ t, exec .crossingFrameReceive s = .next t ∧ s.Only t [.regs, .cnts, .bufLog, .data, .ports, .mgt, .wvr, .twin, .key] ∧
      t.cnt (C.pair 10) = s.cnt (C.pair 10) + 1 ∧
      (s.joined = true → f.bad = false → (beAt f.bytes 17 1).testBit 4 = false → beAt f.bytes 16 1 / 4 < 35 →
        s.flag (F.VLAN_WIN_DATA0_VALID (beAt f.bytes 18 2 % 4096)) = false → t.cnt (C.buf 8) = s.cnt (C.buf 8) + 1) := by
  have run := exec_crossingFrameReceive s hr
  let a := (s.crossTaken h).inc (C.pair 10)
  have effect : s.crossingReceive = if f.bad ∨ !s.joined then (a.setStage h .passed).endChecks h else a.crossPass h := by
    have found : s.data.crossing.find? s.crossReady = some h := by
      rw [crossing, List.find?_cons_of_pos]
      rw [State.crossReady, hf]
      exact written
    have hf' : (s.crossTaken h).frame h = some f := hf
    rw [State.crossingReceive_eq, found]
    dsimp only
    rw [State.crossNext, hf']
    rfl
  have count : a.cnt (C.pair 10) = s.cnt (C.pair 10) + 1 := State.cnt_inc_same _ _
  have other : a.cnt (C.buf 8) = s.cnt (C.buf 8) := (State.cnt_inc_other _ (by decide)).trans rfl
  have hf' : a.frame h = some f := hf
  rw [effect] at run
  by_cases skip : f.bad ∨ !s.joined
  · rw [if_pos skip] at run
    refine ⟨_, run, s.only_confine _ _, ((a.passEnded_pathCounted h) (C.pair 10) (by decide)).trans count, fun joined good => ?_⟩
    simp [joined, good] at skip
  · rw [if_neg skip] at run
    obtain ⟨counted, dropped⟩ := a.crossPass_counts hf'
    refine ⟨_, run, s.only_confine _ _, (counted (C.pair 10) (by decide)).trans count, fun _ _ kept dest invalid => ?_⟩
    exact (dropped kept dest invalid).trans (congrArg (· + 1) other)

/-! ## The replay list -/

theorem exec_replayListExit_gives {p q : Nat} {c : Copy} {r : List (Nat × Copy)} (hr : s.running = true) (idle : s.twin.replaying = false)
    (hp : p < 34) (list : s.replayList p = (q, c) :: r) (none : c.frame = none) :
    ∃ t, exec (.replayListExit p) s = .next t ∧ s.Only t [.regs, .cnts, .bufLog, .data, .mgt, .twin, .key] ∧ t.replayList p = r ∧
      ∀ k, k ≠ p → t.replayList k = s.replayList k := by
  have run := exec_replayListExit s p (decide_eq_true hp) hr
  have effect : s.replayExit p = s.setReplay p r := by
    unfold State.replayExit
    rw [idle, if_neg (by decide), list]
    dsimp only
    unfold State.endCopy
    rw [none]
  rw [effect] at run
  exact ⟨_, run, s.only_confine _ _, mapGet_mapSet_same _ s.twin.replay p r, fun k hk => mapGet_mapSet_other _ s.twin.replay r (Ne.symm hk)⟩

theorem exec_replayListExit_empty {p : Nat} (hr : s.running = true) (hp : p < 34) (list : s.replayList p = []) :
    exec (.replayListExit p) s = .next s := by
  have effect : s.replayExit p = s := by
    unfold State.replayExit
    rw [list]
    split <;> rfl
  rw [exec_replayListExit s p (decide_eq_true hp) hr, effect, (s.only_refl []).confine _ rfl]

end

/-- Settles O54, message by message: the state that each leaves is named, and the counters of a crossing frame's path are apart from
those of the pair. -/
theorem snapshotsAndCredits : Obligations.SnapshotsAndCredits := by
  unfold Obligations.SnapshotsAndCredits
  refine ⟨fun s hl mode => ⟨fun T planned due step => ⟨?_, ?_⟩, fun role f u h => ⟨?_, ?_, ?_⟩, ?_, ?_⟩,
    fun s hr => ⟨fun joined => ⟨?_, fun f u h one => ⟨?_, ?_⟩, ?_⟩, ?_, fun idle => ⟨?_, ?_⟩⟩⟩
  · exact exec_syncSnapshot_sends hl mode planned due step
  · exact exec_syncSnapshot_records hl planned due step
  · exact exec_syncReceivePair_plans hl role h
  · exact fun i v d snapping overflow log _ snap => exec_syncReceivePair_applies hl role h i v d snapping overflow log snap
  · exact exec_syncReceivePair_overflows hl role h
  · exact fun role f u => exec_sleepPairReceive_commits hl mode role
  · exact fun role calm ring f u => exec_wakePairReceive_wakes hl mode role calm ring
  · exact fun v n _ => exec_creditSend_sends hr joined
  · exact exec_creditReceive_updates hr joined h one
  · exact exec_creditReceive_resets hr joined h one
  · exact fun v => exec_creditResetTimeout_resets hr joined
  · exact fun h rest f => exec_crossingFrameReceive_passes hr
  · exact fun p q c r => exec_replayListExit_gives hr idle
  · exact fun p => exec_replayListExit_empty hr

end Sys2Proof.Machine
end

section
/-! Wakes of groups and the wake inputs (O49; spec/13, R366 to R377): what a wake leaves while no sleep is committed, the registers of
the groups that wake, and a wake input through its filter, its mask and the epoch. -/

namespace Sys2Proof.Machine

section
variable (s : State)

/-! ## Groups -/

theorem testBit_notMask {m g : Nat} (hg : g < 16) : (notMask m).testBit g = !m.testBit g := by
  rw [show notMask m = 2 ^ 16 - (m % 2 ^ 16 + 1) by simp only [notMask]; omega,
    Nat.testBit_two_pow_sub_succ (Nat.mod_lt _ (Nat.two_pow_pos _)), Nat.testBit_mod_two_pow]
  simp [hg]

theorem mem_maskList {n m g : Nat} : g ∈ maskList n m ↔ g < n ∧ m.testBit g = true := by
  simp [maskList]

/-- The registers of the groups' timers and run counts. -/
def groupKeys : List Nat := (List.range 16).map K.NM_GROUP_STATUS

theorem groupKey_mem {g : Nat} (hg : g < 16) : K.NM_GROUP_STATUS g ∈ groupKeys := List.mem_map.mpr ⟨g, List.mem_range.mpr hg, rfl⟩

theorem not_mem_groupKeys {k : Nat} (h : k < 0x280080 ∨ 0x2800C0 ≤ k) : k ∉ groupKeys := by
  intro mem
  obtain ⟨g, hg, rfl⟩ := List.mem_map.mp mem
  have := List.mem_range.mp hg
  simp only [K.NM_GROUP_STATUS] at h
  omega

/-- A group's timer starts again. -/
def State.timerRestarted (s : State) (g : Nat) : State :=
  { (s.setFld (F.NM_GROUP_STATUS_AWAKE_S g) 0) with nm := { s.nm with awakeSince := mapSet (fun _ => 0) s.nm.awakeSince g s.aon } }

theorem forEach_timerRestarted_fld (l : List Nat) (g : Nat) : ∀ s : State,
    (s.fld (F.NM_GROUP_STATUS_AWAKE_S g) = 0 ∨ g ∈ l) → (forEach l (fun g s => s.timerRestarted g) s).fld (F.NM_GROUP_STATUS_AWAKE_S g) = 0 := by
  induction l with
  | nil => exact fun s h => h.elim id (by simp)
  | cons k r ih =>
    intro s h
    refine ih (s.timerRestarted k) ?_
    by_cases same : g = k
    · subst same
      exact .inl (s.fld_setFld_same (F.NM_GROUP_STATUS_AWAKE_S g) 0 (show 0 ≤ 15 by decide) (show 15 < 32 by decide))
    · have apart : K.NM_GROUP_STATUS k ≠ K.NM_GROUP_STATUS g := by simp only [K.NM_GROUP_STATUS]; omega
      refine h.imp (fun zero => ?_) (fun mem => (List.mem_cons.mp mem).resolve_left same)
      exact (s.fld_setFld_key (F.NM_GROUP_STATUS_AWAKE_S k) (F.NM_GROUP_STATUS_AWAKE_S g) 0 apart).trans zero

theorem State.restartTimers_restarts (m : Nat) : s.Only (s.restartTimers m) [.regs, .nm] ∧ s.RegsBut (s.restartTimers m) groupKeys ∧
    (s.restartTimers m).nm = { s.nm with awakeSince := (s.restartTimers m).nm.awakeSince } ∧
    ∀ g, g < 16 → m.testBit g = true → (s.restartTimers m).fld (F.NM_GROUP_STATUS_AWAKE_S g) = 0 := by
  have eq : s.restartTimers m = forEach (maskList 16 m) (fun g s => s.timerRestarted g) s := rfl
  have part (l : List Nat) : ∀ s : State, (∀ g ∈ l, g < 16) → s.Only (forEach l (fun g s => s.timerRestarted g) s) [.regs, .nm] ∧
      s.RegsBut (forEach l (fun g s => s.timerRestarted g) s) groupKeys ∧
      (forEach l (fun g s => s.timerRestarted g) s).nm =
        { s.nm with awakeSince := (forEach l (fun g s => s.timerRestarted g) s).nm.awakeSince } := by
    induction l with
    | nil => exact fun s _ => ⟨s.only_refl _, State.RegsBut.refl _ _, rfl⟩
    | cons k r ih =>
      intro s small
      obtain ⟨only, regs, nm⟩ := ih (s.timerRestarted k) (fun g hg => small g (List.mem_cons_of_mem _ hg))
      have first : s.RegsBut (s.timerRestarted k) groupKeys := ((s.regsBut_setFld (F.NM_GROUP_STATUS_AWAKE_S k) 0).mono
        (fun j hj => List.mem_singleton.mp hj ▸ groupKey_mem (small k (List.mem_cons_self ..)))).after rfl
      exact ⟨State.Only.comp (t := s.timerRestarted k) rfl only, first.comp regs, nm⟩
  obtain ⟨only, regs, nm⟩ := part (maskList 16 m) s (fun g hg => (mem_maskList.mp hg).1)
  rw [eq]
  exact ⟨only, regs, nm, fun g hg bit => forEach_timerRestarted_fld _ g s (.inr (mem_maskList.mpr ⟨hg, bit⟩))⟩

/-! ## A wake while no sleep is committed -/

variable {s}

/-- A wake is passed on over WAKE_BUS, but where it came over it. -/
def State.wakeDriven (s : State) (code : Nat) : State := if code == 0xC4 then s else s.wakeOut

theorem State.wakeDriven_keeps (code : Nat) : s.Only (s.wakeDriven code) [.nm, .out] ∧ ∃ pulse at_,
    (s.wakeDriven code).nm = { s.nm with pulse := pulse, pulseAt := at_ } := by
  unfold State.wakeDriven State.wakeOut
  split
  · exact ⟨s.only_refl _, _, _, rfl⟩
  split
  · exact ⟨rfl, _, _, rfl⟩
  · exact ⟨s.only_refl _, _, _, rfl⟩

theorem State.wake_awake (active : s.standby = false) (calm : s.nm.calm = false) (ring : s.fld F.NM_STATE_RING = 0)
    (groups code lines stamp : Nat) : s.Only (s.wake groups code lines stamp) [.nm, .out] ∧
      (s.wake groups code lines stamp).nm.due = s.nm.due ||| (groups &&& s.asleepMask) ∧
      (s.wake groups code lines stamp).nm.committed = s.nm.committed ∧
      (s.wake groups code lines stamp).nm.waking = s.nm.waking := by
  have eq : s.wake groups code lines stamp = if groups = 0 then s
      else if (groups &&& (s.wakeDriven code).asleepMask) = 0 then s.wakeDriven code
      else { s.wakeDriven code with nm := { (s.wakeDriven code).nm with
        due := (s.wakeDriven code).nm.due ||| (groups &&& (s.wakeDriven code).asleepMask), dueCode := code } } := by
    have low : ¬ 2 ≤ s.fld F.NM_STATE_RING := by omega
    unfold State.wake
    simp only [active, calm, Bool.false_and, Bool.false_eq_true, if_false, low, false_and]
    rfl
  obtain ⟨only, pulse, at_, nm⟩ := State.wakeDriven_keeps (s := s) code
  have regs : (s.wakeDriven code).regs = s.regs := only.keeps State.regs rfl
  have asleep : (s.wakeDriven code).asleepMask = s.asleepMask := State.fld_congr regs _
  rw [eq]
  generalize s.wakeDriven code = w at *
  split
  next none => exact ⟨s.only_refl _, by rw [none, Nat.zero_and, Nat.or_zero], rfl, rfl⟩
  split
  next none =>
    rw [asleep] at none
    exact ⟨only, by rw [none, Nat.or_zero, nm], by rw [nm], by rw [nm]⟩
  next =>
    have set (x : NmSt) : w.Only { w with nm := x } [.nm, .out] := rfl
    exact ⟨only.comp (set _), by rw [asleep, nm], by rw [nm], by rw [nm]⟩

theorem State.mcRuns_awake (hr : s.mcRuns = true) : s.nm.calm = false := by
  unfold State.mcRuns at hr
  cases h : s.nm.calm
  · rfl
  · simp [h] at hr

theorem exec_wakeReqReceive_wakes {f : InFrame} {b : List Byte} {u : State} (hr : s.mcRuns = true) (run : s.running = true)
    (active : s.standby = false) (ring : s.fld F.NM_STATE_RING = 0) (h : s.takeRing 5 = some (f, b, u)) :
    ∃ t, exec .wakeReqReceive s = .next t ∧ s.Only t [.regs, .cnts, .nmLog, .data, .mgt, .edge, .nm, .twin, .key, .out] ∧
      t.mgt.inbox = s.mgt.inbox.erase f ∧ t.nm.due = s.nm.due ||| (beAt b 4 2 &&& s.asleepMask) ∧ s.RegsBut t [] := by
  have run := exec_wakeReqReceive s run
  have taken : u = s.inboxTaken f := by
    unfold State.takeRing at h
    cases h' : s.takeInbox (fun m => m.kind == .ring && beAt m.bytes (s.ringOff m.bytes + 1) 1 == 5) with
    | none => simp [h'] at h
    | some r =>
      obtain ⟨f', u'⟩ := r
      rw [h'] at h
      obtain ⟨rfl, -, rfl⟩ := by simpa using h
      exact s.takeInbox_some h'
  subst taken
  have effect : ∃ code stamp, s.wakeReq = (s.inboxTaken f).wake (beAt b 4 2) code 0 stamp := by
    unfold State.wakeReq
    rw [h]
    exact ⟨_, _, rfl⟩
  obtain ⟨code, stamp, effect⟩ := effect
  obtain ⟨only, due, _⟩ := State.wake_awake (s := s.inboxTaken f) active (State.mcRuns_awake hr) ring (beAt b 4 2) code 0 stamp
  rw [effect] at run
  generalize (s.inboxTaken f).wake (beAt b 4 2) code 0 stamp = x at *
  have mgt : x.mgt = (s.inboxTaken f).mgt := only.keeps State.mgt rfl
  have regs : x.regs = s.regs := only.keeps State.regs rfl
  exact ⟨_, run, s.only_confine _ _, congrArg MgtSt.inbox mgt, due, State.regsBut_of_regs regs _⟩

theorem and_and_or (g a c : Nat) : (g &&& a) &&& (a ||| c) = g &&& a := by
  refine Nat.eq_of_testBit_eq fun i => ?_
  simp only [Nat.testBit_and, Nat.testBit_or]
  cases g.testBit i <;> cases a.testBit i <;> rfl

theorem exec_nmWake_wakes {groups : Nat} (hg : groups < 65536) (hr : s.mcRuns = true) (active : s.standby = false)
    (ring : s.fld F.NM_STATE_RING = 0) (idle : s.nm.waking = 0) :
    ∃ t, exec (.nmWake groups) s = .next t ∧ s.Only t [.regs, .cnts, .nmLog, .data, .mgt, .edge, .nm, .twin, .key, .out] ∧
      t.nm.due = s.nm.due ||| (groups &&& s.asleepMask) ∧ t.nm.waking = groups &&& s.asleepMask ∧ s.RegsBut t [] := by
  have run := exec_nmWake s groups (decide_eq_true hg) hr
  let a : State := { s with nm := { s.nm with waking := groups &&& s.asleepMask } }
  obtain ⟨only, due, committed, waking⟩ := State.wake_awake (s := a) active (State.mcRuns_awake hr) ring groups 0xE1 0 s.nowNs
  let b := a.wake groups 0xE1 0 s.nowNs
  have effect : s.nmWake groups = { b with nm := { b.nm with waking := b.nm.waking &&& (b.asleepMask ||| b.nm.committed) } } := by
    have low : ¬ 2 ≤ s.fld F.NM_STATE_RING := by omega
    unfold State.nmWake
    simp only [idle, low, if_false, Nat.or_zero, ne_eq, not_true_eq_false]
    rfl
  have regs : b.regs = s.regs := only.keeps State.regs rfl
  have asleep : b.asleepMask = s.asleepMask := State.fld_congr regs _
  rw [effect] at run
  refine ⟨_, run, s.only_confine _ _, due, ?_, State.regsBut_of_regs regs _⟩
  show b.nm.waking &&& (b.asleepMask ||| b.nm.committed) = groups &&& s.asleepMask
  rw [waking, asleep]
  exact and_and_or _ _ _

theorem exec_nmWake_busy {groups : Nat} (hg : groups < 65536) (hr : s.mcRuns = true) (busy : s.nm.waking ≠ 0) :
    ∃ t, exec (.nmWake groups) s = .next t ∧ t.flag F.NM_WAKE_ERR_BUSY = true ∧ t.nm = s.nm ∧ s.RegsBut t [K.NM_WAKE] ∧ s.Only t [.regs] := by
  have run := exec_nmWake s groups (decide_eq_true hg) hr
  have effect : s.nmWake groups = s.setFld F.NM_WAKE_ERR_BUSY 1 := if_pos busy
  have whole : s.Only (s.setFld F.NM_WAKE_ERR_BUSY 1) [.regs] := rfl
  rw [effect, whole.confine _ (by decide)] at run
  exact ⟨_, run, s.flag_setFld_same F.NM_WAKE_ERR_BUSY 1 rfl (by decide), rfl, s.regsBut_setFld F.NM_WAKE_ERR_BUSY 1, whole⟩

/-! ## The groups that wake -/

/-- A relation that every step of a loop keeps. -/
theorem forEach_relates {α : Type} {R : State → State → Prop} (refl : ∀ s, R s s) (trans : ∀ {s t u}, R s t → R t u → R s u)
    (f : α → State → State) (l : List α) (hf : ∀ x ∈ l, ∀ s, R s (f x s)) (s : State) : R s (forEach l f s) := by
  induction l generalizing s with
  | nil => exact refl s
  | cons x r ih => exact trans (hf x (by simp) s) (ih (fun y hy => hf y (List.mem_cons_of_mem _ hy)) (f x s))

/-- No more than the edge and its registers changed. -/
def State.EdgeRun (s t : State) : Prop := s.Only t [.regs, .edge] ∧ ∀ k, 0x200000 ≤ k → t.reg k = s.reg k

theorem State.EdgeRun.refl (s : State) : s.EdgeRun s := ⟨s.only_refl _, fun _ _ => rfl⟩

theorem State.EdgeRun.comp {s t u : State} (h : s.EdgeRun t) (h' : t.EdgeRun u) : s.EdgeRun u :=
  ⟨h.1.comp h'.1, fun k hk => (h'.2 k hk).trans (h.2 k hk)⟩

theorem State.edgeRun_of_regsBut {s t : State} {key : Nat} (only : s.Only t [.regs, .edge]) (regs : s.RegsBut t [key]) (low : key < 0x200000) :
    s.EdgeRun t := ⟨only, fun k hk => regs k (by rw [List.mem_singleton]; omega)⟩

theorem State.linAgain_edgeRun (s : State) {n : Nat} (hn : n < 8) : s.EdgeRun (s.linAgain n) := by
  have key : K.LIN_STATUS n < 0x200000 := by simp only [K.LIN_STATUS]; omega
  let u := s.setLin n { s.lin n with next := 0, slotAt := some (s.wholeMs 1000000) }
  let l := [(F.LIN_STATUS_TABLE n, s.fld (F.LIN_STATUS_TABLE n)), (F.LIN_STATUS_ENTRY n, 0), (F.LIN_STATUS_SWITCH_PENDING n, 0)]
  have moved : s.Only u [.regs, .edge] := rfl
  have shown : u.RegsBut (u.setFlds l) [K.LIN_STATUS n] :=
    u.regsBut_setFlds_keys (by simp [l, F.LIN_STATUS_TABLE, F.LIN_STATUS_ENTRY, F.LIN_STATUS_SWITCH_PENDING])
  have eq : s.linAgain n = u.setFlds l := rfl
  rw [eq]
  exact State.edgeRun_of_regsBut (moved.comp ((u.setFlds_only l).mono _ (by decide))) (shown.from rfl) key

theorem State.chanStart_edgeRun (s : State) {n : Nat} (hn : n < 32) : s.EdgeRun (s.chanStart n) := by
  unfold State.chanStart
  split
  · exact .refl s
  split
  next can =>
    split
    · exact .refl s
    · exact State.edgeRun_of_regsBut (key := K.CAN_STATUS n) ((s.setFlds_only _).mono _ (by decide))
        (State.regsBut_setFlds_keys _ (by simp [F.CAN_STATUS_TEC, F.CAN_STATUS_REC, F.CAN_STATUS_WARN, F.CAN_STATUS_STATE, F.CAN_STATUS_BUS_IDLE]))
        (by simp only [K.CAN_STATUS]; omega)
  next lin =>
    split
    · exact .refl s
    · have idle : s.EdgeRun (s.setFld (F.LIN_STATUS_BUS_IDLE (n - 24)) 1) :=
        State.edgeRun_of_regsBut (key := K.LIN_STATUS (n - 24)) rfl (s.regsBut_setFld (F.LIN_STATUS_BUS_IDLE (n - 24)) 1)
          (by simp only [K.LIN_STATUS]; omega)
      dsimp only
      split
      · exact idle.comp (State.linAgain_edgeRun _ (by omega))
      · exact idle

theorem State.wvrResume_only (s : State) (n : Nat) : s.Only (s.wvrResume n) [.wvr] := by
  have one (i : Nat) (s : State) : s.Only (if s.pduKind i ≤ 1 ∧ s.pduChannel i = n then s.startDeadline i else s) [.wvr] := by
    split
    · rfl
    · exact s.only_refl _
  exact forEach_only _ one _ s

/-- The groups of `g` are awake again. -/
def State.groupsAwake (s : State) (g : Nat) : State := s.withStandbyAll (fun s => s.setFld F.NM_STATE_ASLEEP (s.asleepMask &&& notMask g))

theorem State.groupsAwake_wakes (s : State) (g : Nat) : s.Only (s.groupsAwake g) [.regs, .wvr] ∧ s.RegsBut (s.groupsAwake g) [K.NM_STATE] ∧
    (s.groupsAwake g).asleepMask = s.asleepMask &&& notMask g := by
  let a := s.setFld F.NM_STATE_ASLEEP (s.asleepMask &&& notMask g)
  have resumed (n : Nat) (s : State) : s.Only (if s.chanStandby n then s else s.wvrResume n) [.wvr] := by
    split
    · exact s.only_refl _
    · exact s.wvrResume_only n
  have rest : a.Only (s.groupsAwake g) [.wvr] := forEach_only _ resumed _ a
  have regs : (s.groupsAwake g).regs = a.regs := rest.keeps State.regs rfl
  have set : a.asleepMask = (s.asleepMask &&& notMask g) % 65536 := s.fld_setFld_same F.NM_STATE_ASLEEP _ (by decide) (by decide)
  have small : (s.asleepMask &&& notMask g) < 65536 := Nat.lt_of_le_of_lt Nat.and_le_left (s.fld_lt F.NM_STATE_ASLEEP)
  have first : s.Only a [.regs, .wvr] := rfl
  exact ⟨first.comp (rest.mono _ (by decide)), (s.regsBut_setFld F.NM_STATE_ASLEEP _).after regs,
    (State.fld_congr regs _).trans (set.trans (Nat.mod_eq_of_lt small))⟩

/-- A group that wakes is isolated no more, its run count is 0, and it is counted. -/
def State.groupCounted (s : State) (k : Nat) : State :=
  (s.setFlds [(F.NM_GROUP_STATUS_ISOLATED k, 0), (F.NM_GROUP_STATUS_RUN k, 0)]).inc (C.nm 7)

theorem State.groupCounted_shows (s : State) (k : Nat) : (s.groupCounted k).flag (F.NM_GROUP_STATUS_ISOLATED k) = false ∧
    (s.groupCounted k).fld (F.NM_GROUP_STATUS_RUN k) = 0 ∧
    (s.groupCounted k).fld (F.NM_GROUP_STATUS_AWAKE_S k) = s.fld (F.NM_GROUP_STATUS_AWAKE_S k) ∧
    s.RegsBut (s.groupCounted k) [K.NM_GROUP_STATUS k] := by
  let l := [(F.NM_GROUP_STATUS_ISOLATED k, 0), (F.NM_GROUP_STATUS_RUN k, 0)]
  have run : (s.setFlds l).fld (F.NM_GROUP_STATUS_RUN k) = 0 := by
    exact (s.fld_setFlds_at [(F.NM_GROUP_STATUS_ISOLATED k, 0)] [] (F.NM_GROUP_STATUS_RUN k) 0 (by simp [F.NM_GROUP_STATUS_RUN])
      (by simp [F.NM_GROUP_STATUS_RUN]) rfl).trans rfl
  have keys : s.RegsBut (s.setFlds l) [K.NM_GROUP_STATUS k] :=
    s.regsBut_setFlds_keys (by simp [l, F.NM_GROUP_STATUS_ISOLATED, F.NM_GROUP_STATUS_RUN])
  have isolated : (s.setFlds l).flag (F.NM_GROUP_STATUS_ISOLATED k) = false :=
    s.flag_setFlds_at [] [(F.NM_GROUP_STATUS_RUN k, 0)] (F.NM_GROUP_STATUS_ISOLATED k) 0 rfl (by simp [F.NM_GROUP_STATUS_ISOLATED]) (by simp [Fld.beside, F.NM_GROUP_STATUS_RUN, F.NM_GROUP_STATUS_ISOLATED])
  refine ⟨isolated, run, ?_, keys⟩
  exact s.fld_setFlds_beside (by simp [Fld.beside, F.NM_GROUP_STATUS_RUN, F.NM_GROUP_STATUS_ISOLATED, F.NM_GROUP_STATUS_AWAKE_S])

/-- A group's status after a wake. -/
def State.GroupUp (s : State) (g : Nat) : Prop :=
  s.flag (F.NM_GROUP_STATUS_ISOLATED g) = false ∧ s.fld (F.NM_GROUP_STATUS_RUN g) = 0 ∧ s.fld (F.NM_GROUP_STATUS_AWAKE_S g) = 0

theorem State.GroupUp.of_reg {s t : State} {g : Nat} (h : s.GroupUp g) (reg : t.reg (K.NM_GROUP_STATUS g) = s.reg (K.NM_GROUP_STATUS g)) :
    t.GroupUp g := by
  obtain ⟨isolated, run, timer⟩ := h
  exact ⟨(State.flag_of_reg reg).trans isolated, (State.fld_of_reg reg).trans run, (State.fld_of_reg reg).trans timer⟩

theorem groupKey_other {j k : Nat} (h : j ≠ k) : K.NM_GROUP_STATUS j ∉ [K.NM_GROUP_STATUS k] := by
  simp only [K.NM_GROUP_STATUS, List.mem_singleton]
  omega

theorem forEach_groupCounted_up (g : Nat) (l : List Nat) : ∀ s : State, s.fld (F.NM_GROUP_STATUS_AWAKE_S g) = 0 → (s.GroupUp g ∨ g ∈ l) →
    (forEach l (fun k s => s.groupCounted k) s).GroupUp g := by
  induction l with
  | nil => exact fun s _ h => h.elim id (by simp)
  | cons k r ih =>
    intro s timer h
    obtain ⟨isolated, run, kept, regs⟩ := s.groupCounted_shows k
    by_cases same : g = k
    · subst same
      have up : (s.groupCounted g).GroupUp g := ⟨isolated, run, kept.trans timer⟩
      exact ih _ (kept.trans timer) (.inl up)
    · have reg : (s.groupCounted k).reg (K.NM_GROUP_STATUS g) = s.reg (K.NM_GROUP_STATUS g) := regs _ (groupKey_other same)
      exact ih _ ((State.fld_of_reg reg).trans timer) (h.imp (fun up => up.of_reg reg) (fun mem => (List.mem_cons.mp mem).resolve_left same))

theorem forEach_groupCounted_keeps (l : List Nat) : ∀ s : State, (∀ k ∈ l, k < 16) →
    s.Only (forEach l (fun k s => s.groupCounted k) s) [.regs, .cnts] ∧ s.RegsBut (forEach l (fun k s => s.groupCounted k) s) groupKeys ∧
    (forEach l (fun k s => s.groupCounted k) s).cnt (C.nm 7) = s.cnt (C.nm 7) + BitVec.ofNat 64 l.length := by
  induction l with
  | nil => exact fun s _ => ⟨s.only_refl _, State.RegsBut.refl _ _, (BitVec.add_zero _).symm⟩
  | cons k r ih =>
    intro s small
    obtain ⟨only, regs, count⟩ := ih (s.groupCounted k) (fun j hj => small j (List.mem_cons_of_mem _ hj))
    obtain ⟨_, _, _, first⟩ := s.groupCounted_shows k
    have one : s.Only (s.groupCounted k) [.regs, .cnts] := ((s.setFlds_only _).mono _ (by decide)).comp (State.Only.mono (l := [.cnts]) (m := [.regs, .cnts]) rfl (by decide))
    have counted : (s.groupCounted k).cnt (C.nm 7) = s.cnt (C.nm 7) + 1 := (State.cnt_inc_same _ _).trans (congrArg (· + 1) (State.cnt_congr (State.setFlds_cnts _ _) _))
    refine ⟨one.comp only, (first.mono (fun j hj => List.mem_singleton.mp hj ▸ groupKey_mem (small k (List.mem_cons_self ..)))).comp regs, ?_⟩
    show (forEach r (fun k s => s.groupCounted k) (s.groupCounted k)).cnt (C.nm 7) = _
    rw [count, counted, List.length_cons, BitVec.add_assoc]
    congr 1
    rw [Nat.add_comm, BitVec.ofNat_add]
    rfl

/-- The groups of `g` are due no more. -/
def State.dueTaken (s : State) (g : Nat) : State :=
  { s with nm := { s.nm with due := s.nm.due &&& notMask g, waking := s.nm.waking &&& notMask g } }

/-- The groups of `g` sleep no more, and their timers run. -/
def State.groupsTimed (s : State) (g : Nat) : State := (((s.dueTaken g).groupsAwake g).dropCandidates g).restartTimers g

/-- The groups of `g` in their registers. -/
def State.groupsShown (s : State) (g : Nat) : State :=
  forEach (maskList 16 g) (fun k s => s.groupCounted k) (s.groupsTimed g)

/-- The ports and channels of the groups run, and the ring is told. -/
def State.membersUp (s : State) (g : Nat) : State :=
  let t := forEach (s.groupPorts g) (fun p s => s.phyPin p) s
  forEach (t.groupChans g) (fun n s => s.chanStart n) t

def State.ringTold (s : State) (g : Nat) : State :=
  if s.standby then s else forEach (s.membersOf g) (fun m s => s.ringSend 5 s.nm.round g 255 0 0 m) s

theorem State.phyPins_only (s : State) (l : List Nat) : s.Only (forEach l (fun p s => s.phyPin p) s) [.out] := by
  have one (p : Nat) (s : State) : s.Only (s.phyPin p) [.out] := by
    unfold State.phyPin
    split
    · rfl
    · exact s.only_refl _
  exact forEach_only _ one l s

theorem State.groupWake_eq (s : State) (groups code : Nat) : s.groupWake groups code =
    if (groups &&& s.asleepMask) = 0 then s.dueTaken (groups &&& s.asleepMask)
    else (((s.groupsShown (groups &&& s.asleepMask)).membersUp (groups &&& s.asleepMask)).nmEvent 9 code (groups &&& s.asleepMask)).ringTold
      (groups &&& s.asleepMask) := rfl

/-- Other candidates. -/
def State.withCandidates (s : State) (candidates stayed : Nat) : State := { s with nm := { s.nm with candidates := candidates, stayed := stayed } }

theorem State.dropCandidates_form (s : State) (m : Nat) : ∃ x y, s.dropCandidates m = s.withCandidates x y := ⟨_, _, rfl⟩

theorem State.groupsTimed_times (s : State) (g : Nat) : (s.groupsTimed g).asleepMask = s.asleepMask &&& notMask g ∧
    (s.groupsTimed g).nm.due = s.nm.due &&& notMask g ∧
    (∀ k, k < 16 → g.testBit k = true → (s.groupsTimed g).fld (F.NM_GROUP_STATUS_AWAKE_S k) = 0) ∧ (s.groupsTimed g).cnts = s.cnts := by
  obtain ⟨only, _, asleep⟩ := (s.dueTaken g).groupsAwake_wakes g
  have before : (s.dueTaken g).asleepMask = s.asleepMask := rfl
  have taken : (s.dueTaken g).nm.due = s.nm.due &&& notMask g := rfl
  have counts : (s.dueTaken g).cnts = s.cnts := rfl
  rw [before] at asleep
  have due := (congrArg NmSt.due (only.keeps State.nm rfl)).trans taken
  have cnts := (only.keeps State.cnts rfl).trans counts
  unfold State.groupsTimed
  generalize (s.dueTaken g).groupsAwake g = a at *
  obtain ⟨x, y, form⟩ := a.dropCandidates_form g
  rw [form]
  obtain ⟨only', regs', nm, timers⟩ := (a.withCandidates x y).restartTimers_restarts g
  exact ⟨(regs'.fld (f := F.NM_STATE_ASLEEP) (not_mem_groupKeys (by decide))).trans asleep, (congrArg NmSt.due nm).trans due, timers,
    (only'.keeps State.cnts rfl).trans cnts⟩

theorem State.groupCounted_nm (s : State) (k : Nat) : (s.groupCounted k).nm = s.nm := by
  have counted (u : State) : (u.inc (C.nm 7)).nm = u.nm := rfl
  exact (counted _).trans ((s.setFlds_only _).keeps State.nm rfl)

theorem State.groupsShown_nm (s : State) (g : Nat) : (s.groupsShown g).nm = (s.groupsTimed g).nm :=
  forEach_part (maskList 16 g) (fun k s => s.groupCounted k) State.nm (fun k s => s.groupCounted_nm k) (s.groupsTimed g)

/-- The status of the groups of `g` after a wake, in their own registers and in NM_STATE. -/
theorem State.groupsShown_shows (s : State) (g : Nat) : (s.groupsShown g).asleepMask = s.asleepMask &&& notMask g ∧
    (s.groupsShown g).nm.due = s.nm.due &&& notMask g ∧ (∀ k, k < 16 → g.testBit k = true → (s.groupsShown g).GroupUp k) ∧
    (s.groupsShown g).cnt (C.nm 7) = s.cnt (C.nm 7) + BitVec.ofNat 64 (maskList 16 g).length := by
  obtain ⟨asleep, due, timers, cnts⟩ := s.groupsTimed_times g
  have nm := s.groupsShown_nm g
  have eq : s.groupsShown g = forEach (maskList 16 g) (fun k s => s.groupCounted k) (s.groupsTimed g) := rfl
  generalize s.groupsShown g = d at *
  generalize s.groupsTimed g = c at *
  obtain ⟨_, regs, count⟩ := forEach_groupCounted_keeps (maskList 16 g) c (fun k hk => (mem_maskList.mp hk).1)
  have up (k : Nat) (hk : k < 16) (bit : g.testBit k = true) := forEach_groupCounted_up k (maskList 16 g) c (timers k hk bit)
    (.inr (mem_maskList.mpr ⟨hk, bit⟩))
  rw [← eq] at regs count up
  rw [← State.cnt_congr cnts]
  exact ⟨(regs.fld (f := F.NM_STATE_ASLEEP) (not_mem_groupKeys (by decide))).trans asleep, (congrArg NmSt.due nm).trans due, up, count⟩

/-- What the members of groups that wake leave of the groups' status. -/
theorem State.membersUp_keeps (s : State) (g : Nat) : s.Only (s.membersUp g) [.regs, .edge, .out] ∧
    ∀ k, 0x200000 ≤ k → (s.membersUp g).reg k = s.reg k := by
  let t := forEach (s.groupPorts g) (fun p s => s.phyPin p) s
  have pins : s.Only t [.out] := s.phyPins_only _
  have small : ∀ n ∈ t.groupChans g, n < 32 := fun n hn => List.mem_range.mp (List.mem_filter.mp hn).1
  obtain ⟨only, regs⟩ := forEach_relates State.EdgeRun.refl State.EdgeRun.comp (fun n s => s.chanStart n) (t.groupChans g)
    (fun n hn s => s.chanStart_edgeRun (small n hn)) t
  exact ⟨(pins.mono _ (by decide)).comp (only.mono _ (by decide)), fun k hk => (regs k hk).trans (State.reg_congr (pins.keeps State.regs rfl) k)⟩

theorem State.ringTold_only (s : State) (g : Nat) : s.Only (s.ringTold g) [.mgt] := by
  have sent (m : Nat) (s : State) : s.Only (s.ringSend 5 s.nm.round g 255 0 0 m) [.mgt] := by
    unfold State.ringSend State.mcSend
    dsimp only
    split
    · rfl
    · rfl
  unfold State.ringTold
  split
  · exact s.only_refl _
  · exact forEach_only _ sent _ s

/-- A wake of the groups due: which still sleep, and what their status shows. -/
theorem State.groupWake_shows (s : State) (code : Nat) : (s.groupWake s.nm.due code).asleepMask = s.asleepMask &&& notMask (s.nm.due &&& s.asleepMask) ∧
    (s.groupWake s.nm.due code).nm.due = s.nm.due &&& notMask (s.nm.due &&& s.asleepMask) ∧
    (∀ k, k < 16 → (s.nm.due &&& s.asleepMask).testBit k = true → (s.groupWake s.nm.due code).GroupUp k) ∧
    (s.groupWake s.nm.due code).cnt (C.nm 7) = s.cnt (C.nm 7) + BitVec.ofNat 64 (maskList 16 (s.nm.due &&& s.asleepMask)).length := by
  rw [s.groupWake_eq]
  split
  next none =>
    rw [none]
    have all : s.asleepMask &&& notMask 0 = s.asleepMask := by
      have small : s.asleepMask < 2 ^ 16 := s.fld_lt F.NM_STATE_ASLEEP
      exact Nat.and_two_pow_sub_one_of_lt_two_pow small
    exact ⟨all.symm, rfl, fun k _ bit => absurd bit (by simp), (BitVec.add_zero _).symm⟩
  next =>
    generalize s.nm.due &&& s.asleepMask = g
    obtain ⟨asleep, due, up, count⟩ := s.groupsShown_shows g
    generalize s.groupsShown g = a at *
    obtain ⟨only, regs⟩ := a.membersUp_keeps g
    generalize a.membersUp g = b at *
    obtain ⟨noted, journal, counted⟩ := State.nmEvent_keeps (s := b) 9 code g
    generalize b.nmEvent 9 code g = c at *
    have told := c.ringTold_only g
    generalize c.ringTold g = d at *
    have reg (k : Nat) (high : 0x200000 ≤ k) (apart : k ∉ journalKeys) : d.reg k = a.reg k :=
      (State.reg_congr (told.keeps State.regs rfl) k).trans ((journal k apart).trans (regs k high))
    have nm : d.nm = a.nm := (told.keeps State.nm rfl).trans ((noted.keeps State.nm rfl).trans (only.keeps State.nm rfl))
    have group (k : Nat) (hk : k < 16) : d.reg (K.NM_GROUP_STATUS k) = a.reg (K.NM_GROUP_STATUS k) := by
      refine reg _ (by simp only [K.NM_GROUP_STATUS]; omega) ?_
      have : ∀ j < 16, K.NM_GROUP_STATUS j ∉ journalKeys := by decide
      exact this k hk
    refine ⟨(State.fld_of_reg (reg K.NM_STATE (by decide) (by decide))).trans asleep, (congrArg NmSt.due nm).trans due,
      fun k hk bit => (up k hk bit).of_reg (group k hk), ?_⟩
    rw [State.cnt_congr (told.keeps State.cnts rfl), counted (C.nm 7) (by decide), State.cnt_congr (only.keeps State.cnts rfl), count]

theorem exec_groupWake_wakes {s : State} (hr : s.mcRuns = true) (run : s.running = true) (ring : s.fld F.NM_STATE_RING = 0) :
    ∃ t, exec .groupWake s = .next t ∧ s.Only t [.regs, .cnts, .nmLog, .mgt, .edge, .nm, .wvr, .key, .out] ∧
      (∀ g, g < 16 → t.asleep g = (s.asleep g && !s.nm.due.testBit g)) ∧
      (∀ g, g < 16 → s.asleep g = true → s.nm.due.testBit g = true →
        t.flag (F.NM_GROUP_STATUS_ISOLATED g) = false ∧ t.fld (F.NM_GROUP_STATUS_RUN g) = 0 ∧
        t.fld (F.NM_GROUP_STATUS_AWAKE_S g) = 0 ∧ t.nm.due.testBit g = false) ∧
      t.cnt (C.nm 7) = s.cnt (C.nm 7) + BitVec.ofNat 64 (maskList 16 (s.nm.due &&& s.asleepMask)).length := by
  have run := exec_groupWake s run
  have effect : s.groupWakeDue = s.groupWake s.nm.due s.nm.dueCode := if_neg (by simp [State.mcRuns_awake hr, ring])
  obtain ⟨asleep, due, up, count⟩ := s.groupWake_shows s.nm.dueCode
  rw [effect] at run
  generalize s.groupWake s.nm.due s.nm.dueCode = x at *
  have sleeps (g : Nat) : s.asleep g = s.asleepMask.testBit g := rfl
  refine ⟨_, run, s.only_confine _ _, fun g hg => ?_, fun g hg sleeping named => ?_, count⟩
  · show x.asleepMask.testBit g = _
    rw [asleep, Nat.testBit_and, testBit_notMask hg, Nat.testBit_and, sleeps]
    cases s.asleepMask.testBit g <;> simp
  · have bit : (s.nm.due &&& s.asleepMask).testBit g = true := by rw [Nat.testBit_and, named, ← sleeps, sleeping]; rfl
    obtain ⟨isolated, runs, timer⟩ := up g hg bit
    refine ⟨isolated, runs, timer, ?_⟩
    show x.nm.due.testBit g = false
    rw [due, Nat.testBit_and, testBit_notMask hg, bit]
    exact Bool.and_false _

/-! ## A wake input and its filter -/

theorem xor_two_pow_bit (m n k : Nat) : (Nat.xor m (2 ^ n)).testBit k = (m.testBit k != decide (k = n)) := by
  show (m ^^^ 2 ^ n).testBit k = _
  rw [Nat.testBit_xor, Nat.testBit_two_pow]
  by_cases h : n = k
  · simp [h]
  · simp [h, Ne.symm h]

theorem xor_two_pow_lt {m n w : Nat} (hm : m < 2 ^ w) (hn : n < w) : Nat.xor m (2 ^ n) < 2 ^ w :=
  Nat.xor_lt_two_pow hm (Nat.pow_lt_pow_right (by decide) hn)

/-- The filter takes a new level of an input. -/
def State.levelTurned (s : State) (n : Nat) : State :=
  { s with nm := { s.nm with levelAt := mapSet (fun _ => 0) s.nm.levelAt n s.aon } }.setFld F.WAKE_STATUS_LEVEL
    (Nat.xor (s.fld F.WAKE_STATUS_LEVEL) (2 ^ n))

theorem State.levelTurned_turns (s : State) {n : Nat} (hn : n < 5) :
    (∀ k, ((s.levelTurned n).fld F.WAKE_STATUS_LEVEL).testBit k = ((s.fld F.WAKE_STATUS_LEVEL).testBit k != decide (k = n))) ∧
    s.RegsBut (s.levelTurned n) [K.WAKE_STATUS] ∧
    (s.levelTurned n).fld F.WAKE_STATUS_CHATTER = s.fld F.WAKE_STATUS_CHATTER ∧
    (s.levelTurned n).fld F.WAKE_STATUS_STUCK = s.fld F.WAKE_STATUS_STUCK := by
  let u : State := { s with nm := { s.nm with levelAt := mapSet (fun _ => 0) s.nm.levelAt n s.aon } }
  let v := Nat.xor (s.fld F.WAKE_STATUS_LEVEL) (2 ^ n)
  have small : v < 2 ^ 5 := xor_two_pow_lt (s.fld_lt F.WAKE_STATUS_LEVEL) hn
  have set : (s.levelTurned n).fld F.WAKE_STATUS_LEVEL = v :=
    (u.fld_setFld_same F.WAKE_STATUS_LEVEL v (by decide) (by decide)).trans (Nat.mod_eq_of_lt small)
  refine ⟨fun k => by rw [set]; exact xor_two_pow_bit _ n k, u.regsBut_setFld F.WAKE_STATUS_LEVEL v, ?_, ?_⟩
  · exact u.fld_setFld_beside (f := F.WAKE_STATUS_LEVEL) (g := F.WAKE_STATUS_CHATTER) v (by decide)
  · exact u.fld_setFld_beside (f := F.WAKE_STATUS_LEVEL) (g := F.WAKE_STATUS_STUCK) v (by decide)

/-- The changes of an input within CHATTER_MS, this one among them. -/
def State.recentChanges (s : State) (n : Nat) : List Nat :=
  (s.aonMs :: mapGet (fun _ => []) s.nm.changes n).filter (fun t => decide (s.aonMs < t + s.fld F.WAKE_LIMITS_CHATTER_MS))

/-- A change of an input is noted. -/
def State.changeKept (s : State) (n : Nat) : State :=
  { s with nm := { s.nm with changes := mapSet (fun _ => []) s.nm.changes n (s.recentChanges n) } }

/-- A chattering input is masked. -/
def State.chatterSeen (s : State) (n : Nat) : State :=
  ((s.setFld F.WAKE_STATUS_CHATTER (s.fld F.WAKE_STATUS_CHATTER ||| 2 ^ n)).maskInput n 2).inc (C.nm 9)

theorem State.noteChange_eq (s : State) (n : Nat) : s.noteChange n =
    if s.fld F.WAKE_LIMITS_CHATTER_N < (s.recentChanges n).length ∧ (s.fld F.WAKE_STATUS_CHATTER).testBit n = false ∧ (s.fld F.WAKE_STATUS_STUCK).testBit n = false
    then (s.changeKept n).chatterSeen n else s.changeKept n := rfl

theorem State.chatterSeen_keeps (s : State) (n : Nat) : (s.chatterSeen n).nm = s.nm ∧
    (s.chatterSeen n).fld F.WAKE_STATUS_LEVEL = s.fld F.WAKE_STATUS_LEVEL := by
  let u := s.setFld F.WAKE_STATUS_CHATTER (s.fld F.WAKE_STATUS_CHATTER ||| 2 ^ n)
  obtain ⟨only, regs, _⟩ := State.nmEvent_keeps (s := u) 2 (0xC0 + n) (u.fld (F.WAKE_IN_GROUPS_GROUPS n))
  have nm : (s.chatterSeen n).nm = u.nm := only.keeps State.nm rfl
  have level : (s.chatterSeen n).fld F.WAKE_STATUS_LEVEL = u.fld F.WAKE_STATUS_LEVEL := regs.fld (by decide)
  exact ⟨nm, level.trans (s.fld_setFld_beside (f := F.WAKE_STATUS_CHATTER) (g := F.WAKE_STATUS_LEVEL) _ (by decide))⟩

theorem State.noteChange_keeps (s : State) (n : Nat) : (s.noteChange n).nm = { s.nm with changes := (s.noteChange n).nm.changes } ∧
    (s.noteChange n).fld F.WAKE_STATUS_LEVEL = s.fld F.WAKE_STATUS_LEVEL := by
  rw [s.noteChange_eq]
  split
  · obtain ⟨nm, level⟩ := (s.changeKept n).chatterSeen_keeps n
    exact ⟨by rw [nm]; rfl, level⟩
  · exact ⟨rfl, rfl⟩

/-- In Calm a raised input is a wake. -/
def State.calmWake (s : State) (n : Nat) : State :=
  if s.nm.calm ∧ s.lineRaised n = true then s.wake (s.fld (F.WAKE_IN_GROUPS_GROUPS n)) (0xC0 + n) (2 ^ n) s.nowNs else s

/-- What the latch holds after a wake. -/
def latchedWith (l : Option (Nat × Nat × Nat)) (groups code lines : Nat) : Nat × Nat × Nat :=
  match l with
  | none => (groups, code, lines)
  | some (g, c, n) => (g ||| groups, c, n ||| lines)

theorem State.wake_calm {s : State} (calm : s.nm.calm = true) (groups code lines stamp : Nat) : (s.wake groups code lines stamp).regs = s.regs ∧
    (s.wake groups code lines stamp).nm.levelAt = s.nm.levelAt ∧
    (groups ≠ 0 → (s.wake groups code lines stamp).nm.latched = some (latchedWith s.nm.latched groups code lines)) := by
  have eq : s.wake groups code lines stamp = if groups = 0 then s else (s.wakeDriven code).latch groups code lines := by
    unfold State.wake
    simp only [calm, Bool.not_true, Bool.and_false, Bool.false_and, Bool.false_eq_true, if_false, if_true]
    rfl
  obtain ⟨only, pulse, at_, nm⟩ := s.wakeDriven_keeps code
  have regs : (s.wakeDriven code).regs = s.regs := only.keeps State.regs rfl
  rw [eq]
  generalize s.wakeDriven code = w at *
  split
  next none => exact ⟨rfl, rfl, fun h => absurd none h⟩
  next =>
    have latched : (w.latch groups code lines).nm.latched = some (latchedWith w.nm.latched groups code lines) := rfl
    refine ⟨regs, ?_, fun _ => latched.trans ?_⟩
    · show w.nm.levelAt = _
      rw [nm]
    · rw [nm]

theorem State.filterPass_eq {s : State} {n : Nat} (en : s.flag (F.WAKE_IN_CFG_EN n) = true) (free : n = 4 → s.nm.pulse = false ∧ s.nm.busFree ≤ s.aon) :
    s.filterPass n = State.afterHard s.hardMask (((s.levelTurned n).noteChange n).calmWake n) := by
  have pass : ¬ (!s.flag (F.WAKE_IN_CFG_EN n) ∨ (n = 4 ∧ (s.nm.pulse ∨ s.aon < s.nm.busFree))) := by
    rintro (off | ⟨four, busy⟩)
    · simp [en] at off
    · obtain ⟨idle, over_⟩ := free four
      rcases busy with h | h
      · simp [idle] at h
      · omega
  unfold State.filterPass
  rw [if_neg pass]
  rfl

/-- What the change of an input leaves of the network management's state. -/
theorem State.filterPass_parts {s : State} {n : Nat} (hn : n < 5) (u : State) (hu : u = State.afterHard s.hardMask (((s.levelTurned n).noteChange n).calmWake n)) :
    (∀ k, (u.fld F.WAKE_STATUS_LEVEL).testBit k = ((s.fld F.WAKE_STATUS_LEVEL).testBit k != decide (k = n))) ∧
    mapGet (fun _ => 0) u.nm.levelAt n = s.aon ∧ (s.nm.calm = false → u.nm.due = s.nm.due ∧ u.nm.latched = s.nm.latched) ∧
    u.nm.latched = (((s.levelTurned n).noteChange n).calmWake n).nm.latched := by
  obtain ⟨turned, _, _, _⟩ := s.levelTurned_turns hn
  have at_ : (s.levelTurned n).nm.levelAt = mapSet (fun _ => 0) s.nm.levelAt n s.aon := rfl
  have calm : (s.levelTurned n).nm.calm = s.nm.calm := rfl
  have due : (s.levelTurned n).nm.due = s.nm.due := rfl
  have latched : (s.levelTurned n).nm.latched = s.nm.latched := rfl
  generalize s.levelTurned n = a at *
  obtain ⟨noted, level⟩ := a.noteChange_keeps n
  have woken : ((a.noteChange n).calmWake n).regs = (a.noteChange n).regs ∧ ((a.noteChange n).calmWake n).nm.levelAt = (a.noteChange n).nm.levelAt ∧
      ((a.noteChange n).nm.calm = false → (a.noteChange n).calmWake n = a.noteChange n) := by
    unfold State.calmWake
    split
    next h =>
      obtain ⟨regs, kept, _⟩ := State.wake_calm h.1 ((a.noteChange n).fld (F.WAKE_IN_GROUPS_GROUPS n)) (0xC0 + n) (2 ^ n) (a.noteChange n).nowNs
      exact ⟨regs, kept, fun awake => absurd h.1 (by simp [awake])⟩
    · exact ⟨rfl, rfl, fun _ => rfl⟩
  obtain ⟨regs, kept, same⟩ := woken
  generalize a.noteChange n = b at *
  generalize b.calmWake n = c at *
  obtain ⟨_, timed, nm, _⟩ := c.restartTimers_restarts (s.hardMask &&& notMask c.hardMask)
  have hu' : u = c.restartTimers (s.hardMask &&& notMask c.hardMask) := hu
  rw [← hu'] at timed nm
  refine ⟨fun k => ?_, ?_, fun awake => ?_, by rw [nm]⟩
  · rw [timed.fld (f := F.WAKE_STATUS_LEVEL) (not_mem_groupKeys (by decide)), State.fld_congr regs, level, turned]
  · rw [nm, kept, noted, at_]
    exact mapGet_mapSet_same _ _ _ _
  · have awake' : b.nm.calm = false := by rw [noted, calm]; exact awake
    rw [nm, same awake', noted]
    exact ⟨due, latched⟩

/-- The wake that an input latches in Calm. -/
theorem State.filterPass_latches {s : State} {n : Nat} (hn : n < 5) (en : s.flag (F.WAKE_IN_CFG_EN n) = true)
    (low : (s.fld F.WAKE_STATUS_LEVEL).testBit n = false) (steady : (s.fld F.WAKE_STATUS_CHATTER).testBit n = false)
    (unstuck : (s.fld F.WAKE_STATUS_STUCK).testBit n = false) (few : (s.recentChanges n).length ≤ s.fld F.WAKE_LIMITS_CHATTER_N)
    (calm : s.nm.calm = true) (groups : s.fld (F.WAKE_IN_GROUPS_GROUPS n) ≠ 0) :
    (((s.levelTurned n).noteChange n).calmWake n).nm.latched =
      some (latchedWith s.nm.latched (s.fld (F.WAKE_IN_GROUPS_GROUPS n)) (0xC0 + n) (2 ^ n)) := by
  obtain ⟨turned, regs, chatter, stuck⟩ := s.levelTurned_turns hn
  have limit : (s.levelTurned n).fld F.WAKE_LIMITS_CHATTER_N = s.fld F.WAKE_LIMITS_CHATTER_N := regs.fld (by decide)
  have span : (s.levelTurned n).fld F.WAKE_LIMITS_CHATTER_MS = s.fld F.WAKE_LIMITS_CHATTER_MS := regs.fld (by decide)
  have recent : (s.levelTurned n).recentChanges n = s.recentChanges n := by
    unfold State.recentChanges
    rw [span]
    rfl
  have noted : (s.levelTurned n).noteChange n = (s.levelTurned n).changeKept n := by
    rw [State.noteChange_eq, if_neg]
    rintro ⟨many, _⟩
    rw [limit, recent] at many
    omega
  have named : ((s.levelTurned n).changeKept n).fld (F.WAKE_IN_GROUPS_GROUPS n) = s.fld (F.WAKE_IN_GROUPS_GROUPS n) :=
    regs.fld (f := F.WAKE_IN_GROUPS_GROUPS n) (by simp only [F.WAKE_IN_GROUPS_GROUPS, K.WAKE_IN_GROUPS, K.WAKE_STATUS, List.mem_singleton]; omega)
  have enabled : (s.levelTurned n).flag (F.WAKE_IN_CFG_EN n) = true :=
    (regs.flag (f := F.WAKE_IN_CFG_EN n) (by simp only [F.WAKE_IN_CFG_EN, K.WAKE_IN_CFG, K.WAKE_STATUS, List.mem_singleton]; omega)).trans en
  have raised : ((s.levelTurned n).changeKept n).lineRaised n = true := by
    show (s.levelTurned n).lineRaised n = true
    rw [State.lineRaised, State.lineUsed, enabled, chatter, steady, stuck, unstuck, turned, low]
    simp
  rw [noted, State.calmWake, if_pos ⟨calm, raised⟩, named]
  obtain ⟨_, _, latched⟩ := State.wake_calm (s := (s.levelTurned n).changeKept n) calm (s.fld (F.WAKE_IN_GROUPS_GROUPS n)) (0xC0 + n) (2 ^ n)
    ((s.levelTurned n).changeKept n).nowNs
  exact latched groups

section
variable {s : State} {n : Nat} (hn : n < 5)
include hn

theorem exec_wakeInputFilterPass_turns (en : s.flag (F.WAKE_IN_CFG_EN n) = true) (free : n = 4 → s.nm.pulse = false ∧ s.nm.busFree ≤ s.aon) :
    ∃ t, exec (.wakeInputFilterPass n) s = .next t ∧ s.Only t [.regs, .cnts, .nmLog, .data, .mgt, .edge, .nm, .twin, .key, .out] ∧
      (∀ k, (t.fld F.WAKE_STATUS_LEVEL).testBit k = ((s.fld F.WAKE_STATUS_LEVEL).testBit k != decide (k = n))) ∧
      mapGet (fun _ => 0) t.nm.levelAt n = s.aon ∧
      (s.nm.calm = false → t.nm.due = s.nm.due ∧ t.nm.latched = s.nm.latched) ∧
      ((s.fld F.WAKE_STATUS_LEVEL).testBit n = false → (s.fld F.WAKE_STATUS_CHATTER).testBit n = false →
        (s.fld F.WAKE_STATUS_STUCK).testBit n = false →
        ((s.aonMs :: mapGet (fun _ => []) s.nm.changes n).filter
          (fun x => decide (s.aonMs < x + s.fld F.WAKE_LIMITS_CHATTER_MS))).length ≤ s.fld F.WAKE_LIMITS_CHATTER_N →
        s.nm.calm = true → s.fld (F.WAKE_IN_GROUPS_GROUPS n) ≠ 0 →
        (s.nm.latched = none → t.nm.latched = some (s.fld (F.WAKE_IN_GROUPS_GROUPS n), 0xC0 + n, 2 ^ n)) ∧
        (∀ g c l, s.nm.latched = some (g, c, l) →
          t.nm.latched = some (g ||| s.fld (F.WAKE_IN_GROUPS_GROUPS n), c, l ||| 2 ^ n))) := by
  have run := exec_wakeInputFilterPass s n (decide_eq_true hn)
  rw [State.filterPass_eq en free] at run
  obtain ⟨level, at_, awake, latched⟩ := State.filterPass_parts hn _ rfl (s := s)
  have latches := State.filterPass_latches hn en
  generalize State.afterHard s.hardMask (((s.levelTurned n).noteChange n).calmWake n) = x at *
  refine ⟨_, run, s.only_confine _ _, level, at_, awake, fun low steady unstuck few calm groups => ?_⟩
  have held := latched.trans (latches low steady unstuck few calm groups)
  refine ⟨fun none => held.trans ?_, fun g c l some_ => held.trans ?_⟩
  · rw [none, latchedWith]
  · rw [some_, latchedWith]

theorem exec_wakeInputFilterPass_idle (h : s.flag (F.WAKE_IN_CFG_EN n) = false ∨ (n = 4 ∧ (s.nm.pulse = true ∨ s.aon < s.nm.busFree))) :
    exec (.wakeInputFilterPass n) s = .next s := by
  have effect : s.filterPass n = s := if_pos (h.imp (fun off => by simp [off]) (fun busy => busy))
  rw [exec_wakeInputFilterPass s n (decide_eq_true hn), effect, s.confine_self]

theorem exec_wakeInputStuck_waits (h : s.aon ≤ mapGet (fun _ => 0) s.nm.levelAt n + s.fld F.WAKE_LIMITS_STUCK * 100 * aonPerMs) :
    exec (.wakeInputStuck n) s = .next s := by
  have effect : s.inputStuck n = s := if_pos (.inr h)
  rw [exec_wakeInputStuck s n (decide_eq_true hn), effect, s.confine_self]

theorem exec_wakeInputStuck_masks (raised : s.lineRaised n = true)
    (over_ : mapGet (fun _ => 0) s.nm.levelAt n + s.fld F.WAKE_LIMITS_STUCK * 100 * aonPerMs < s.aon) :
    ∃ t, exec (.wakeInputStuck n) s = .next t ∧ s.Only t [.regs, .cnts, .nmLog, .mgt, .nm, .key] ∧
      (t.fld F.WAKE_STATUS_STUCK).testBit n = true ∧ t.lineActive n = false ∧
      t.cnt (C.nm 8) = s.cnt (C.nm 8) + 1 ∧ s.CntsBut t (C.nm 8 :: eventCounters) := by
  have run := exec_wakeInputStuck s n (decide_eq_true hn)
  let v := s.fld F.WAKE_STATUS_STUCK ||| 2 ^ n
  let b := s.setFld F.WAKE_STATUS_STUCK v
  let c := b.maskInput n 1
  let d := c.inc (C.nm 8)
  have effect : s.inputStuck n = d.restartTimers (s.hardMask &&& notMask d.hardMask) := if_neg (by
    rintro (off | early)
    · simp [raised] at off
    · omega)
  have small : v < 2 ^ 5 := Nat.or_lt_two_pow (s.fld_lt F.WAKE_STATUS_STUCK) (Nat.pow_lt_pow_right (by decide) hn)
  have set : b.fld F.WAKE_STATUS_STUCK = v :=
    (s.fld_setFld_same F.WAKE_STATUS_STUCK v (by decide) (by decide)).trans (Nat.mod_eq_of_lt small)
  obtain ⟨_, regs, counted⟩ := State.nmEvent_keeps (s := b) 1 (0xC0 + n) (b.fld (F.WAKE_IN_GROUPS_GROUPS n))
  obtain ⟨timed, keys, _, _⟩ := d.restartTimers_restarts (s.hardMask &&& notMask d.hardMask)
  have shown : c.fld F.WAKE_STATUS_STUCK = v := (regs.fld (f := F.WAKE_STATUS_STUCK) (by decide)).trans set
  have cnts : b.CntsBut c eventCounters := counted
  have count : d.cnt (C.nm 8) = s.cnt (C.nm 8) + 1 := (c.cnt_inc_same _).trans (congrArg (· + 1) (cnts (C.nm 8) (by decide)))
  have apart : s.CntsBut d (C.nm 8 :: eventCounters) :=
    ((State.cntsBut_of_cnts rfl _ : s.CntsBut b _).comp (cnts.mono (fun _ hk => List.mem_cons_of_mem _ hk))).comp
      ((c.cntsBut_inc _).mono (by simp))
  have bit : (d.fld F.WAKE_STATUS_STUCK).testBit n = true := by
    show (c.fld F.WAKE_STATUS_STUCK).testBit n = true
    rw [shown, Nat.testBit_or, Nat.testBit_two_pow_self, Bool.or_true]
  rw [effect] at run
  generalize d = d' at *
  generalize d'.restartTimers (s.hardMask &&& notMask d'.hardMask) = x at *
  have stuck : (x.fld F.WAKE_STATUS_STUCK).testBit n = true := by
    rw [keys.fld (f := F.WAKE_STATUS_STUCK) (not_mem_groupKeys (by decide))]
    exact bit
  have same : x.cnts = d'.cnts := timed.keeps State.cnts rfl
  refine ⟨_, run, s.only_confine _ _, stuck, ?_, (State.cnt_congr same _).trans count, fun a ha => (State.cnt_congr same a).trans (apart a ha)⟩
  show (x.lineUsed n && _) = false
  rw [State.lineUsed, stuck]
  simp

omit hn in
/-- A mask without a bit, among the five inputs. -/
theorem clearBit_bits : ∀ x < 32, ∀ n < 5, (if x.testBit n then x - 2 ^ n else x) < 32 ∧
    ∀ k < 5, (if x.testBit n then x - 2 ^ n else x).testBit k = (x.testBit k && decide (k ≠ n)) := by decide

theorem exec_wakeInputUnmask_unmasks (masked : (s.fld F.WAKE_STATUS_CHATTER ||| s.fld F.WAKE_STATUS_STUCK).testBit n = true)
    (low : (s.fld F.WAKE_STATUS_LEVEL).testBit n = false) :
    ∃ t, exec (.wakeInputUnmask n) s = .next t ∧ s.Only t [.regs, .cnts, .nmLog, .mgt, .key] ∧
      (t.fld F.WAKE_STATUS_CHATTER).testBit n = false ∧ (t.fld F.WAKE_STATUS_STUCK).testBit n = false ∧
      (∀ k, k < 5 → k ≠ n → (t.fld F.WAKE_STATUS_CHATTER).testBit k = (s.fld F.WAKE_STATUS_CHATTER).testBit k ∧
        (t.fld F.WAKE_STATUS_STUCK).testBit k = (s.fld F.WAKE_STATUS_STUCK).testBit k) ∧
      s.RegsBut t (K.WAKE_STATUS :: journalKeys) ∧ s.CntsBut t eventCounters := by
  have run := exec_wakeInputUnmask s n (decide_eq_true hn)
  let c := if (s.fld F.WAKE_STATUS_CHATTER).testBit n then s.fld F.WAKE_STATUS_CHATTER - 2 ^ n else s.fld F.WAKE_STATUS_CHATTER
  let k := if (s.fld F.WAKE_STATUS_STUCK).testBit n then s.fld F.WAKE_STATUS_STUCK - 2 ^ n else s.fld F.WAKE_STATUS_STUCK
  let b := s.setFlds [(F.WAKE_STATUS_CHATTER, c), (F.WAKE_STATUS_STUCK, k)]
  have effect : s.inputUnmask n = b.maskInput n 3 := if_neg (by simp [masked, low])
  obtain ⟨smallC, bitsC⟩ := clearBit_bits _ (s.fld_lt F.WAKE_STATUS_CHATTER) n hn
  obtain ⟨smallK, bitsK⟩ := clearBit_bits _ (s.fld_lt F.WAKE_STATUS_STUCK) n hn
  have setC : b.fld F.WAKE_STATUS_CHATTER = c :=
    (s.fld_setFlds_at [] [(F.WAKE_STATUS_STUCK, k)] F.WAKE_STATUS_CHATTER c (by decide) (by decide) rfl).trans (Nat.mod_eq_of_lt smallC)
  have setK : b.fld F.WAKE_STATUS_STUCK = k :=
    (s.fld_setFlds_at [(F.WAKE_STATUS_CHATTER, c)] [] F.WAKE_STATUS_STUCK k (by decide) (by decide) rfl).trans (Nat.mod_eq_of_lt smallK)
  have keys : s.RegsBut b [K.WAKE_STATUS] := s.regsBut_setFlds_keys rfl
  obtain ⟨only, regs, counted⟩ := State.nmEvent_keeps (s := b) 3 (0xC0 + n) (b.fld (F.WAKE_IN_GROUPS_GROUPS n))
  have whole : s.Only (b.maskInput n 3) [.regs, .cnts, .nmLog, .mgt, .key] := ((s.setFlds_only _).mono _ (by decide)).comp only
  have cnts : s.CntsBut (b.maskInput n 3) eventCounters := (State.cntsBut_of_cnts (State.setFlds_cnts _ _) _).comp counted
  have after : b.RegsBut (b.maskInput n 3) journalKeys := regs
  rw [effect, whole.confine _ (by decide)] at run
  generalize b.maskInput n 3 = x at *
  have fldC : x.fld F.WAKE_STATUS_CHATTER = c := (after.fld (by decide)).trans setC
  have fldK : x.fld F.WAKE_STATUS_STUCK = k := (after.fld (by decide)).trans setK
  refine ⟨_, run, whole, ?_, ?_, fun j hj ne => ⟨?_, ?_⟩, (keys.mono (by simp)).comp (after.mono (fun _ hk => List.mem_cons_of_mem _ hk)), cnts⟩
  · rw [fldC, bitsC n hn]
    simp
  · rw [fldK, bitsK n hn]
    simp
  · rw [fldC, bitsC j hj]
    simp [ne]
  · rw [fldK, bitsK j hj]
    simp [ne]

end

theorem exec_wakeOutPulseEnd_ends {s : State} (pulse : s.nm.pulse = true) (over_ : s.nm.pulseAt + s.fld F.NM_CFG_PULSE * 50000 ≤ s.aon) :
    ∃ t, exec .wakeOutPulseEnd s = .next t ∧ t.nm = { s.nm with pulse := false, busFree := s.aon + 10000 } ∧ t.out = .pin 0 true :: s.out ∧
      s.Only t [.nm, .out] := by
  have run := exec_wakeOutPulseEnd s
  have effect : s.wakePulseEnd = { s with nm := { s.nm with pulse := false, busFree := s.aon + 10000 } }.emit (.pin 0 true) := if_pos ⟨pulse, over_⟩
  have whole : s.Only ({ s with nm := { s.nm with pulse := false, busFree := s.aon + 10000 } }.emit (.pin 0 true)) [.nm, .out] := rfl
  rw [effect, whole.confine _ (by decide)] at run
  exact ⟨_, run, rfl, rfl, whole⟩

theorem exec_wakeOutPulseEnd_waits {s : State} (h : s.nm.pulse = false ∨ s.aon < s.nm.pulseAt + s.fld F.NM_CFG_PULSE * 50000) :
    exec .wakeOutPulseEnd s = .next s := by
  have effect : s.wakePulseEnd = s := if_neg (by
    rintro ⟨pulse, over_⟩
    rcases h with h | h
    · simp [h] at pulse
    · omega)
  rw [exec_wakeOutPulseEnd, effect, s.confine_self]

/-! ## A wake input that an epoch agrees -/

/-- What the samples of other inputs leave of the wake inputs. -/
def State.LinesKept (s t : State) : Prop := s.EpochKept t ∧ ∀ k, k < 5 → t.agreedIn (10 + k) = s.agreedIn (10 + k)

theorem State.LinesKept.comp {s t u : State} (h : s.LinesKept t) (h' : t.LinesKept u) : s.LinesKept u :=
  ⟨h.1.comp h'.1, fun k hk => (h'.2 k hk).trans (h.2 k hk)⟩

theorem State.epochInput_other {s : State} {a i n : Nat} (normal : s.saf.mode = .normal) (hi : i < 15) (ne : i ≠ 10 + n)
    (lines : ∀ m, m < 5 → m ≠ n → (s.fld F.WAKE_STATUS_LEVEL).testBit m = s.agreedIn (10 + m)) :
    s.LinesKept (State.epochInput a a i s) := by
  unfold State.epochInput
  rw [if_neg (not_not.mpr rfl)]
  by_cases low : i < 10
  · rw [if_pos low]
    obtain ⟨kept, _, _, others, _⟩ := s.agreeInput_agrees (i := i) (a.testBit i)
    exact ⟨kept, fun k _ => (others (10 + k) (by omega)).1⟩
  · obtain ⟨m, rfl⟩ : ∃ m, i = 10 + m := ⟨i - 10, by omega⟩
    have quiet := lines m (by omega) (by omega)
    rw [if_neg low, if_pos normal, Nat.add_sub_cancel_left, s.wakeEpoch_quiet (fun _ => quiet)]
    have set : s.EpochKept (s.setAgreed (10 + m) ((s.fld F.WAKE_STATUS_LEVEL).testBit m)) :=
      ⟨rfl, State.regsBut_of_regs rfl _, State.cntsBut_of_cnts rfl _, rfl⟩
    have other (j : Nat) (h : j ≠ 10 + m) := s.agreedIn_setAgreed_other h ((s.fld F.WAKE_STATUS_LEVEL).testBit m)
    obtain ⟨kept, _, agreed, others, _⟩ := (s.setAgreed (10 + m) ((s.fld F.WAKE_STATUS_LEVEL).testBit m)).agreeInput_agrees (i := 10 + m)
      ((s.fld F.WAKE_STATUS_LEVEL).testBit m)
    refine ⟨set.comp kept, fun k _ => ?_⟩
    by_cases same : k = m
    · subst same
      exact agreed.trans quiet
    · exact (others (10 + k) (by omega)).1.trans (other (10 + k) (by omega))

theorem State.LinesKept.lines {s t : State} {n : Nat} (h : s.LinesKept t)
    (lines : ∀ m, m < 5 → m ≠ n → (s.fld F.WAKE_STATUS_LEVEL).testBit m = s.agreedIn (10 + m)) :
    t.saf.mode = s.saf.mode ∧ ∀ m, m < 5 → m ≠ n → (t.fld F.WAKE_STATUS_LEVEL).testBit m = t.agreedIn (10 + m) := by
  obtain ⟨kept, agreed⟩ := h
  obtain ⟨mode, _, level, _⟩ := kept.keeps (n := 0) (by decide)
  exact ⟨mode, fun m hm ne => by rw [level, agreed m hm]; exact lines m hm ne⟩

theorem forEach_epochInput_other {a n : Nat} (l : List Nat) : ∀ s : State, s.saf.mode = .normal → (∀ i ∈ l, i < 15 ∧ i ≠ 10 + n) →
    (∀ m, m < 5 → m ≠ n → (s.fld F.WAKE_STATUS_LEVEL).testBit m = s.agreedIn (10 + m)) → s.LinesKept (forEach l (State.epochInput a a) s) := by
  induction l with
  | nil => exact fun s _ _ _ => ⟨State.EpochKept.refl s, fun _ _ => rfl⟩
  | cons i r ih =>
    intro s normal hl lines
    have first := State.epochInput_other (a := a) normal (hl i (by simp)).1 (hl i (by simp)).2 lines
    obtain ⟨mode, lines'⟩ := first.lines lines
    exact first.comp (ih _ (mode.trans normal) (fun j hj => hl j (by simp [hj])) lines')

theorem State.sourceOn_wakes {s : State} (active : s.standby = false) (calm : s.nm.calm = false) (ring : s.fld F.NM_STATE_RING = 0)
    (groups code lines : Nat) : s.Only (s.sourceOn groups code lines) [.regs, .nm, .out] ∧ s.RegsBut (s.sourceOn groups code lines) groupKeys ∧
      (s.sourceOn groups code lines).nm.due = s.nm.due ||| (groups &&& s.asleepMask) := by
  obtain ⟨x, y, form⟩ := s.dropCandidates_form groups
  unfold State.sourceOn
  rw [form]
  have first : s.Only (s.withCandidates x y) [.regs, .nm, .out] := rfl
  have due : (s.withCandidates x y).nm.due = s.nm.due := rfl
  obtain ⟨only, regs, nm, _⟩ := (s.withCandidates x y).restartTimers_restarts groups
  have same : s.RegsBut ((s.withCandidates x y).restartTimers groups) groupKeys := regs
  have due' : ((s.withCandidates x y).restartTimers groups).nm.due = s.nm.due := by rw [nm, due]
  have calm' : ((s.withCandidates x y).restartTimers groups).nm.calm = false := by rw [nm]; exact calm
  have whole := first.comp (only.mono [.regs, .nm, .out] (by decide))
  generalize (s.withCandidates x y).restartTimers groups = a at *
  have ring' : a.fld F.NM_STATE_RING = 0 := (same.fld (not_mem_groupKeys (by decide))).trans ring
  have active' : a.standby = false := by
    rw [State.standby, same.fld (f := F.PAIR_CFG_MODE) (not_mem_groupKeys (by decide)),
      same.fld (f := F.PAIR_STATUS_ROLE) (not_mem_groupKeys (by decide))]
    exact active
  have asleep : a.asleepMask = s.asleepMask := same.fld (f := F.NM_STATE_ASLEEP) (not_mem_groupKeys (by decide))
  obtain ⟨woken, dues, _⟩ := State.wake_awake active' calm' ring' groups code lines s.nowNs
  exact ⟨whole.comp (woken.mono _ (by decide)), same.after (woken.keeps State.regs rfl), by rw [dues, due', asleep]⟩

/-- A raised input that is agreed: its groups are due. -/
theorem State.wakeEpoch_raised {s : State} {n : Nat} (active : s.standby = false) (calm : s.nm.calm = false)
    (ring : s.fld F.NM_STATE_RING = 0) (raised : s.lineRaised n = true) (fresh : s.agreedIn (10 + n) = false) :
    s.Only (s.wakeEpoch n) [.regs, .nm, .saf, .out] ∧ s.RegsBut (s.wakeEpoch n) groupKeys ∧
      (s.wakeEpoch n).saf = (s.setAgreed (10 + n) true).saf ∧
      (s.wakeEpoch n).nm.due = s.nm.due ||| (s.fld (F.WAKE_IN_GROUPS_GROUPS n) &&& s.asleepMask) := by
  obtain ⟨used, high⟩ : s.lineUsed n = true ∧ (s.fld F.WAKE_STATUS_LEVEL).testBit n = true := by simpa [State.lineRaised] using raised
  let u := s.setAgreed (10 + n) true
  have line : u.lineActive n = true := by
    have used' : u.lineUsed n = true := used
    rw [State.lineActive, used', s.agreedIn_setAgreed]
    rfl
  have eq : s.wakeEpoch n = State.afterHard s.hardMask (u.sourceOn (s.fld (F.WAKE_IN_GROUPS_GROUPS n)) (0xC0 + n) (2 ^ n)) := by
    unfold State.wakeEpoch
    dsimp only
    rw [high, fresh]
    show State.afterHard s.hardMask (if (true && !false && u.lineActive n) = true then _ else u) = _
    rw [line]
    rfl
  obtain ⟨only, regs, due⟩ := State.sourceOn_wakes (s := u) active calm ring (s.fld (F.WAKE_IN_GROUPS_GROUPS n)) (0xC0 + n) (2 ^ n)
  have first : s.Only u [.regs, .nm, .saf, .out] := rfl
  rw [eq]
  generalize u.sourceOn (s.fld (F.WAKE_IN_GROUPS_GROUPS n)) (0xC0 + n) (2 ^ n) = c at *
  obtain ⟨timed, keys, nm, _⟩ := c.restartTimers_restarts (s.hardMask &&& notMask c.hardMask)
  unfold State.afterHard
  generalize c.restartTimers (s.hardMask &&& notMask c.hardMask) = x at *
  have saf : x.saf = u.saf := (timed.keeps State.saf rfl).trans (only.keeps State.saf rfl)
  exact ⟨(first.comp (only.mono _ (by decide))).comp (timed.mono _ (by decide)), (regs.from rfl).comp keys, saf, by rw [nm]; exact due⟩

theorem State.lineUsed_congr {s t : State} {n : Nat} {keys : List Nat} (regs : s.RegsBut t keys) (cfg : K.WAKE_IN_CFG n ∉ keys)
    (status : K.WAKE_STATUS ∉ keys) : t.lineUsed n = s.lineUsed n := by
  rw [State.lineUsed, regs.flag (f := F.WAKE_IN_CFG_EN n) cfg, regs.fld (f := F.WAKE_STATUS_CHATTER) status,
    regs.fld (f := F.WAKE_STATUS_STUCK) status, State.lineUsed]

/-- The epoch's sample of a raised input that was not agreed. -/
theorem State.epochInput_wakes {s : State} {n a : Nat} (hn : n < 5) (normal : s.saf.mode = .normal) (active : s.standby = false)
    (calm : s.nm.calm = false) (ring : s.fld F.NM_STATE_RING = 0) (raised : s.lineRaised n = true) (fresh : s.agreedIn (10 + n) = false) :
    s.Only (State.epochInput a a (10 + n) s) [.regs, .cnts, .nm, .saf, .out] ∧
    (State.epochInput a a (10 + n) s).saf.mode = .normal ∧ (State.epochInput a a (10 + n) s).lineUsed n = true ∧
    (State.epochInput a a (10 + n) s).agreedIn (10 + n) = true ∧
    (State.epochInput a a (10 + n) s).fld F.WAKE_STATUS_LEVEL = s.fld F.WAKE_STATUS_LEVEL ∧
    (∀ m, m ≠ n → (State.epochInput a a (10 + n) s).agreedIn (10 + m) = s.agreedIn (10 + m)) ∧
    (State.epochInput a a (10 + n) s).nm.due = s.nm.due ||| (s.fld (F.WAKE_IN_GROUPS_GROUPS n) &&& s.asleepMask) := by
  obtain ⟨used, high⟩ : s.lineUsed n = true ∧ (s.fld F.WAKE_STATUS_LEVEL).testBit n = true := by simpa [State.lineRaised] using raised
  have eq : State.epochInput a a (10 + n) s = (s.wakeEpoch n).agreeInput (10 + n) true := by
    unfold State.epochInput
    rw [if_neg (not_not.mpr rfl), if_neg (by omega), if_pos normal, Nat.add_sub_cancel_left, high]
  obtain ⟨only, regs, saf, due⟩ := State.wakeEpoch_raised active calm ring raised fresh
  have others (m : Nat) (h : m ≠ n) : (s.setAgreed (10 + n) true).agreedIn (10 + m) = s.agreedIn (10 + m) :=
    s.agreedIn_setAgreed_other (by omega) true
  have mode : (s.setAgreed (10 + n) true).saf.mode = s.saf.mode := rfl
  have lined : (s.wakeEpoch n).lineUsed n = s.lineUsed n :=
    State.lineUsed_congr regs (not_mem_groupKeys (by simp only [K.WAKE_IN_CFG]; omega)) (not_mem_groupKeys (by decide))
  rw [eq]
  generalize s.wakeEpoch n = w at *
  obtain ⟨kept, _, agreed, apart, _⟩ := w.agreeInput_agrees (i := 10 + n) true
  obtain ⟨mode', lined', level', _⟩ := kept.keeps hn
  have nm : (w.agreeInput (10 + n) true).nm = w.nm := kept.1.keeps State.nm rfl
  refine ⟨(only.mono _ (by decide)).comp (kept.1.mono _ (by decide)), ?_, lined'.trans (lined.trans used), agreed,
    level'.trans (regs.fld (f := F.WAKE_STATUS_LEVEL) (not_mem_groupKeys (by decide))), fun m hm => ?_, by rw [nm, due]⟩
  · rw [mode', saf, mode, normal]
  · rw [(apart (10 + m) (by omega)).1, State.agreedIn, saf]
    exact others m hm

theorem forEach_epochInput_wakes {s : State} {n a : Nat} (hn : n < 5) (normal : s.saf.mode = .normal) (active : s.standby = false)
    (calm : s.nm.calm = false) (ring : s.fld F.NM_STATE_RING = 0) (raised : s.lineRaised n = true) (fresh : s.agreedIn (10 + n) = false)
    (lines : ∀ m, m < 5 → m ≠ n → (s.fld F.WAKE_STATUS_LEVEL).testBit m = s.agreedIn (10 + m)) :
    ∃ u, forEach epochInputs (State.epochInput a a) s = u ∧ s.Only u [.regs, .cnts, .nm, .saf, .out] ∧ u.saf.mode = .normal ∧
      u.lineActive n = true ∧ u.nm.due = s.nm.due ||| (s.fld (F.WAKE_IN_GROUPS_GROUPS n) &&& s.asleepMask) := by
  obtain ⟨pre, post, split⟩ := List.append_of_mem (mem_epochInputs.mpr (show 10 + n < 15 ∧ 10 + n ≠ 9 by omega))
  have unique : (pre ++ (10 + n) :: post).Nodup := split ▸ (by decide : epochInputs.Nodup)
  have inputs : ∀ i ∈ pre ++ post, i < 15 ∧ i ≠ 10 + n := by
    intro i hi
    have mem : i ∈ epochInputs := by
      rw [split]
      simp only [List.mem_append, List.mem_cons] at hi ⊢
      exact hi.imp id .inr
    refine ⟨(mem_epochInputs.mp mem).1, fun e => ?_⟩
    subst e
    rw [List.nodup_middle] at unique
    exact (List.nodup_cons.mp unique).1 hi
  have before := forEach_epochInput_other (a := a) (n := n) pre s normal (fun i hi => inputs i (List.mem_append_left _ hi)) lines
  rw [split, forEach_append]
  generalize forEach pre (State.epochInput a a) s = b at *
  obtain ⟨mode, lines'⟩ := before.lines lines
  obtain ⟨⟨only, regs, _⟩, agreed⟩ := before
  have apart (k : Nat) (h1 : k ≠ K.SAF_AGREE) (h2 : 0x50000 ≤ k) : k ∉ epochKeys := not_mem_epochKeys h1 h2
  have nm : b.nm = s.nm := only.keeps State.nm rfl
  have passive : b.standby = s.standby := by
    rw [State.standby, regs.fld (f := F.PAIR_CFG_MODE) (by decide), regs.fld (f := F.PAIR_STATUS_ROLE) (by decide), State.standby]
  have level : b.fld F.WAKE_STATUS_LEVEL = s.fld F.WAKE_STATUS_LEVEL := regs.fld (by decide)
  have lined : b.lineUsed n = s.lineUsed n := State.lineUsed_congr regs
    (apart _ (by simp only [K.WAKE_IN_CFG, K.SAF_AGREE, ne_eq]; omega) (by simp only [K.WAKE_IN_CFG]; omega)) (apart _ (by decide) (by decide))
  have groups : b.fld (F.WAKE_IN_GROUPS_GROUPS n) = s.fld (F.WAKE_IN_GROUPS_GROUPS n) := regs.fld
    (apart _ (by simp only [F.WAKE_IN_GROUPS_GROUPS, K.WAKE_IN_GROUPS, K.SAF_AGREE, ne_eq]; omega)
      (by simp only [F.WAKE_IN_GROUPS_GROUPS, K.WAKE_IN_GROUPS]; omega))
  have asleep : b.asleepMask = s.asleepMask := regs.fld (f := F.NM_STATE_ASLEEP) (by decide)
  obtain ⟨only2, mode2, used2, agreed2, level2, others2, due2⟩ := State.epochInput_wakes (s := b) (a := a) hn (mode.trans normal)
    (passive.trans active) (by rw [nm]; exact calm) ((regs.fld (f := F.NM_STATE_RING) (by decide)).trans ring)
    (by rw [State.lineRaised, lined, level]; exact raised) ((agreed n hn).trans fresh)
  have step : forEach ((10 + n) :: post) (State.epochInput a a) b = forEach post (State.epochInput a a) (State.epochInput a a (10 + n) b) := rfl
  rw [step]
  refine ⟨_, rfl, ?_⟩
  generalize State.epochInput a a (10 + n) b = c at *
  have after := forEach_epochInput_other (a := a) (n := n) post c mode2 (fun i hi => inputs i (List.mem_append_right _ hi))
    (fun m hm ne => by rw [level2, others2 m ne]; exact lines' m hm ne)
  generalize forEach post (State.epochInput a a) c = d at *
  obtain ⟨kept, agreed3⟩ := after
  obtain ⟨mode3, used3, _, _⟩ := kept.keeps hn
  have nm3 : d.nm = c.nm := kept.1.keeps State.nm rfl
  refine ⟨((only.mono _ (by decide)).comp only2).comp (kept.1.mono _ (by decide)), mode3.trans mode2, ?_, ?_⟩
  · rw [State.lineActive, used3, used2, agreed3 n hn, agreed2]
    rfl
  · rw [nm3, due2, nm, groups, asleep]

theorem exec_inputEpoch_wakes {s : State} {n a : Nat} (hn : n < 5) (ha : a < 32768) (hp : s.powered = true) (hc : s.cycle % 64 = 0)
    (edge : s.time.ppsEdge = none) (normal : s.saf.mode = .normal) (active : s.standby = false) (ring : s.fld F.NM_STATE_RING = 0)
    (raised : s.lineRaised n = true) (fresh : s.agreedIn (10 + n) = false)
    (lines : ∀ m, m < 5 → m ≠ n → (s.fld F.WAKE_STATUS_LEVEL).testBit m = s.agreedIn (10 + m)) :
    ∃ t, exec (.inputEpoch a a) s = .next t ∧ t.lineActive n = true ∧
      t.nm.due = s.nm.due ||| (s.fld (F.WAKE_IN_GROUPS_GROUPS n) &&& s.asleepMask) := by
  have run := exec_inputEpoch s a a (by simp [Instr.wf, ha]) hp
  rw [if_pos hc] at run
  have calm : s.nm.calm = false := by simpa [State.powered] using (Bool.and_eq_true_iff.mp hp).2
  obtain ⟨u, sampled, only, mode, line, due⟩ := forEach_epochInput_wakes (s := s.unstepped) (a := a) hn normal active calm ring raised fresh lines
  have time : u.time = { s.time with stepped := false } := only.keeps State.time rfl
  have effect : s.unstepped.inputEpoch a a = u.followLee := by
    have none : u.time.ppsEdge = none := by rw [time]; exact edge
    show (let v := forEach epochInputs (State.epochInput a a) s.unstepped
      if v.agreePps.saf.mode = .normal then v.agreePps.followLee else v.agreePps) = _
    rw [sampled]
    dsimp only
    rw [State.agreePps, none]
    exact if_pos mode
  obtain ⟨settled, whole⟩ := State.settled_quiet (f := fun s => s.inputEpoch a a) (l := [.regs, .cnts, .time, .nm, .saf, .out]) effect
    (by show u.time.stepped = false; rw [time]) ((only.mono _ (by decide)).comp rfl) (by decide)
  rw [settled, whole.confine _ (by decide)] at run
  have pulses := u.followLee.ppsAll_only
  generalize u.followLee.ppsAll = x at *
  have saf : x.saf = u.followLee.saf := pulses.keeps State.saf rfl
  have regs : x.regs = u.regs := pulses.keeps State.regs rfl
  have nm : x.nm = u.nm := pulses.keeps State.nm rfl
  refine ⟨_, run, ?_, by rw [nm]; exact due⟩
  have used : x.lineUsed n = u.lineUsed n := State.lineUsed_congr (State.regsBut_of_regs regs []) (by simp) (by simp)
  have agreed : x.agreedIn (10 + n) = u.agreedIn (10 + n) := by rw [State.agreedIn, saf]; rfl
  rw [State.lineActive, used, agreed]
  exact line

end

/-- Settles O49, command by command: a wake while no sleep is committed names the groups due, their registers are read group by group,
and an epoch's other inputs leave what a raised wake input needs. -/
theorem wakesAreFilteredAndGroupsWake : Obligations.WakesAreFilteredAndGroupsWake := by
  unfold Obligations.WakesAreFilteredAndGroupsWake
  refine ⟨fun s hr run active ring => ⟨fun f b u => ?_, fun groups hg => ?_, fun groups hg => ?_, ?_⟩, fun s n hn =>
    ⟨exec_wakeInputFilterPass_idle hn, exec_wakeInputFilterPass_turns hn, fun a ha hp hc edge normal active ring raised fresh lines => ?_,
      exec_wakeInputStuck_waits hn, exec_wakeInputStuck_masks hn, exec_wakeInputUnmask_unmasks hn, exec_wakeOutPulseEnd_ends,
      exec_wakeOutPulseEnd_waits⟩⟩
  · exact exec_wakeReqReceive_wakes hr run active ring
  · exact exec_nmWake_wakes hg hr active ring
  · exact exec_nmWake_busy hg hr
  · exact exec_groupWake_wakes hr run ring
  · exact exec_inputEpoch_wakes hn ha hp hc edge normal active ring raised fresh lines

end Sys2Proof.Machine
end

section
/-!
SUPPORT. The register bridge at rest and at work (spec/15, R444; spec/16, R464 to R468; spec/17, R486): words of the scratchpad, what a
failed write logs, the commands that read and write one register, and the ends of what was outstanding.
-/

namespace Sys2Proof.Machine

/-! ## Words of the scratchpad -/

theorem leNat_leBytes_word (w : Word) : leNat (leBytes 4 w.toNat) = w.toNat := by
  have small := w.isLt
  have bytes : leBytes 4 w.toNat = [BitVec.ofNat 8 w.toNat, BitVec.ofNat 8 (w.toNat >>> 8), BitVec.ofNat 8 (w.toNat >>> 16),
    BitVec.ofNat 8 (w.toNat >>> 24)] := rfl
  rw [bytes]
  simp only [leNat, BitVec.toNat_ofNat, Nat.shiftRight_eq_div_pow]
  omega

section
variable (s : State)

theorem State.writeWord_only (a : Nat) (m d : Word) : s.Only (s.writeWord a m d) [.mem] := (s.writeBytes_frame _ a).symm

theorem leBytes_length (n v : Nat) : (leBytes n v).length = n := by simp [leBytes]

theorem State.readByte_writeWord (a : Nat) (m d : Word) (i : Nat) (hi : i < (leBytes 4 ((s.readWord a &&& ~~~ m) ||| (d &&& m)).toNat).length) :
    (s.writeWord a m d).readByte (a + i) = (leBytes 4 ((s.readWord a &&& ~~~ m) ||| (d &&& m)).toNat)[i] :=
  State.readByte_writeBytes _ s a i hi

/-- A word written under a mask is read back. -/
theorem State.readWord_writeWord (a : Nat) (m d : Word) :
    (s.writeWord a m d).readWord a = (s.readWord a &&& ~~~ m) ||| (d &&& m) := by
  have b0 := s.readByte_writeWord a m d 0 (by rw [leBytes_length]; decide)
  have b1 := s.readByte_writeWord a m d 1 (by rw [leBytes_length]; decide)
  have b2 := s.readByte_writeWord a m d 2 (by rw [leBytes_length]; decide)
  have b3 := s.readByte_writeWord a m d 3 (by rw [leBytes_length]; decide)
  generalize (s.readWord a &&& ~~~ m) ||| (d &&& m) = w at *
  have bytes : [(s.writeWord a m d).readByte a, (s.writeWord a m d).readByte (a + 1), (s.writeWord a m d).readByte (a + 2),
      (s.writeWord a m d).readByte (a + 3)] = leBytes 4 w.toNat := by
    rw [show (s.writeWord a m d).readByte a = _ from b0, show (s.writeWord a m d).readByte (a + 1) = _ from b1,
      show (s.writeWord a m d).readByte (a + 2) = _ from b2, show (s.writeWord a m d).readByte (a + 3) = _ from b3]
    rfl
  rw [State.readWord, bytes, leNat_leBytes_word, BitVec.ofNat_toNat, BitVec.setWidth_eq]

theorem State.readByte_writeWord_other (a : Nat) (m d : Word) {x : Nat} (h : x < a ∨ a + 4 ≤ x) :
    (s.writeWord a m d).readByte x = s.readByte x :=
  State.readByte_writeBytes_other _ s a x (by rwa [leBytes_length])

theorem State.readWord_congr {s t : State} (h : t.mem = s.mem) (a : Nat) : t.readWord a = s.readWord a := by
  simp only [State.readWord, State.readByte_congr h]

/-! ## A write that fails (R466) -/

/-- The failure log with a write's failure added, as WRITE_FENCE counts it. -/
def State.failLogged (s : State) (cause tag a : Nat) : State :=
  { s with mgt := { s.mgt with
    fenceFail := min 65535 (s.mgt.fenceFail + 1)
    fenceTag := tag
    pwfl := s.mgt.pwfl ++ [⟨cause, tag, a, s.nowNs⟩] } }

theorem State.writeFailed_eq (cause tag a : Nat) (room : s.mgt.pwfl.length < 32) :
    s.writeFailed cause tag a = (s.failLogged cause tag a).raise (0x1000 + cause) (beBytes 4 a ++ beBytes 2 tag) := by
  have full : ¬ 32 ≤ s.mgt.pwfl.length := Nat.not_le.mpr room
  simp only [State.writeFailed, full, if_false]
  have logged : s.Only (s.failLogged cause tag a) [.regs, .cnts, .mgt, .key] := rfl
  exact (logged.comp (State.raise_only _ _ _)).confine _ (by decide)

theorem State.writeFailed_only (cause tag a : Nat) : s.Only (s.writeFailed cause tag a) [.regs, .cnts, .mgt, .key] := s.only_confine _ _

theorem State.writeFailed_noted (cause tag a : Nat) (room : s.mgt.pwfl.length < 32) :
    (s.failLogged cause tag a).Noted (s.writeFailed cause tag a) := by
  rw [s.writeFailed_eq cause tag a room]
  exact State.raise_noted _ _ _

theorem State.writeFailed_regsBut (cause tag a : Nat) (room : s.mgt.pwfl.length < 32) :
    s.RegsBut (s.writeFailed cause tag a) journalKeys := by
  rw [s.writeFailed_eq cause tag a room]
  exact (State.raise_regsBut _ _ _).from rfl

end

/-! ## A bridge with nothing to go on with -/

section
variable {s : State}

theorem State.drain_empty (h : s.mgt.posted = []) : ∀ n, s.drain n = s
  | 0 => rfl
  | n + 1 => by simp only [State.drain, h, List.find?_nil]

theorem State.pump_empty (h : s.mgt.toPost = []) : ∀ n, s.pump n = s
  | 0 => rfl
  | n + 1 => by simp only [State.pump, h]

theorem State.advance_rests (h : s.readNext = (s, false)) : ∀ n, s.advance n = s
  | 0 => rfl
  | n + 1 => by simp only [State.advance, h, Bool.false_eq_true, if_false]

theorem State.readNext_idle (h : s.mgt.run = none) : s.readNext = (s, false) := by simp only [State.readNext, h]

theorem State.readNext_whole {w : List Word} {f : Option Nat} {k : Bool} (h : s.mgt.run = some ⟨[], w, f, k⟩) :
    s.readNext = (s, false) := by
  simp only [State.readNext, h]

theorem State.serveWaits_none (h : s.mgt.served = []) : s.serveWaits = s := by
  simp only [State.serveWaits, h, List.isEmpty_nil, Bool.true_or, if_true]

/-- With nothing outstanding and nothing to post, an answer lets only the reads go on. -/
theorem State.goOn_reads (hp : s.mgt.posted = []) (ht : s.mgt.toPost = []) (hs : s.mgt.served = []) (h : s.readNext = (s, false)) :
    s.goOn = s.endReads := by
  have waits : (!s.mgt.toPost.isEmpty) = false := by rw [ht]; rfl
  simp only [State.goOn, waits, State.drain_empty hp, State.pump_empty ht, Bool.false_eq_true, if_false, State.serveWaits_none hs,
    State.advance_rests h]

theorem State.goOn_idle (hp : s.mgt.posted = []) (ht : s.mgt.toPost = []) (hs : s.mgt.served = []) (hr : s.mgt.run = none) :
    s.goOn = s := by
  rw [State.goOn_reads hp ht hs (State.readNext_idle hr)]
  simp only [State.endReads, hr]

/-! ## Answers to MGT_SPI -/

/-- The command in hand has left the execution queue and an answer waits to be read. -/
def State.answeredBy (s : State) (msg : List Byte) : State :=
  { s with mgt := { s.mgt with execQ := s.mgt.execQ.drop 1, respSpi := s.mgt.respSpi ++ [msg] } }

theorem State.endAnswer_spi {c : Cmd} {data : List Byte} (hc : c.chan = .spi) (hs : s.standby = false) (code status : Nat)
    (hl : data.length ≤ 4100) :
    (s.answeredBy (s.spiAnswer c status data)).Noted ((s.endCmd c code 0).answer c status data) ∧
      s.RegsBut ((s.endCmd c code 0).answer c status data) journalKeys ∧
      s.Only ((s.endCmd c code 0).answer c status data) [.regs, .mgt, .key] := by
  have noted : s.popExec.Noted (s.endCmd c code 0) := s.popExec.appendGroup_noted _ _ _ _
  have regs := s.endCmd_regsBut c code 0
  obtain ⟨same, role⟩ := State.spiAnswer_congr noted (regs.from rfl) (by decide) c status data
  have answered := State.answer_spi hc (role.trans hs) status hl
  have same' : (s.endCmd c code 0).spiAnswer c status data = s.spiAnswer c status data := same
  refine ⟨?_, ?_, (s.endCmd_only c code 0).comp ((State.answer_only _ c status data).mono _ (by decide))⟩
  · rw [answered, same']
    obtain ⟨mgt, key⟩ := noted
    refine ⟨?_, key⟩
    generalize s.endCmd c code 0 = u at *
    show { u.mgt with respSpi := u.mgt.respSpi ++ [s.spiAnswer c status data] } = _
    rw [mgt]
    rfl
  · exact regs.after ((State.answer_only _ c status data).regs rfl)

end

/-! ## Reads of one register (R465, R468) -/

section
variable {s : State} {c : Cmd} {rest : List Cmd}

/-- The reads of a command, one word still to come or all there. -/
def State.reading (s : State) (l : List Nat) (w : List Word) (f : Option Nat) : State := s.setRun (some ⟨l, w, f, false⟩)

theorem State.startReads_one {a : Nat} {u : State} {w : List Word} {f : Option Nat} (hr : s.mgt.run = none)
    (first : (s.reading [a] [] none).readNext = (u.reading [] w f, true)) :
    s.startReads [a] = (u.reading [] w f).endReads := by
  have whole : (u.reading [] w f).readNext = (u.reading [] w f, false) := State.readNext_whole rfl
  have steps : (s.reading [a] [] none).advance 257 = u.reading [] w f := by
    rw [State.advance, first]
    exact State.advance_rests whole 256
  have idle : s.mgt.run.isSome = false := by rw [hr]; rfl
  simp only [State.startReads, idle, Bool.false_eq_true, if_false]
  exact congrArg State.endReads steps

/-- A register whose read has no effect and that holds all of its value. -/
theorem State.busRead_plain {a : Nat} (pop : a ∉ [K.BUF_QLOG, K.NM_LOG, K.SAF_LOG, K.BRG_PWFL, K.EVT_POP, K.TIME_NOW_NS, K.PPS_IN_STAMP_NS,
      K.WVR_PDU_STAMP_NS]) (lo : isLo a = false) (hi : isHi a = false) : s.busRead a = { s with busData := s.peek a } := by
  simp only [List.mem_cons, List.not_mem_nil, or_false, not_or] at pop
  obtain ⟨h1, h2, h3, h4, h5, h6, h7, h8⟩ := pop
  rw [State.busRead, if_neg h1, if_neg h2, if_neg h3, if_neg h4, if_neg h5, if_neg h6, if_neg h7, if_neg h8, lo, hi]
  rfl

theorem State.shown_glbScratch (e : Nat) (w : Word) : s.shown K.GLB_SCRATCH e w = none := by
  simp (decide := true) only [State.shown, if_false]

theorem State.peek_glbScratch : s.peek K.GLB_SCRATCH = s.reg K.GLB_SCRATCH := by
  have here : s.regHere K.GLB_SCRATCH = some (glbScratchDesc, K.GLB_SCRATCH) := by
    simp only [State.regHere, regAt_glbScratch]
    exact if_pos rfl
  rw [State.peek, if_neg (by decide), if_neg (by decide), here]
  simp only [State.shown_glbScratch, Option.getD_none]

theorem State.ownRead_register {a : Nat} (h : placeOf a = .register) : s.ownRead a = s.busRead a := by
  delta State.ownRead
  rw [h]

theorem State.readOne_glbScratch (hp : s.mgt.posted = []) (r : ReadRun) :
    s.readOne r K.GLB_SCRATCH = (({ s with busData := s.reg K.GLB_SCRATCH }).wordIn r (s.reg K.GLB_SCRATCH) false, true) := by
  have free : s.pageBusy K.GLB_SCRATCH = false := by rw [State.pageBusy, hp]; rfl
  have near : isNear K.GLB_SCRATCH = true := by decide
  have place : placeOf K.GLB_SCRATCH = .register := by decide
  have lo : isLo K.GLB_SCRATCH = false := by decide
  have hi : isHi K.GLB_SCRATCH = false := by decide
  have bus := State.busRead_plain (s := s) (a := K.GLB_SCRATCH) (by decide) lo hi
  have read : s.ownRead K.GLB_SCRATCH = { s with busData := s.reg K.GLB_SCRATCH } :=
    (State.ownRead_register place).trans (bus.trans (congrArg (fun w => { s with busData := w }) State.peek_glbScratch))
  simp only [State.readOne, free, near, read, Bool.false_eq_true, if_false, if_true]


/-- An address that names nothing fails at once. -/
theorem State.readOne_outside {a : Nat} (hp : s.mgt.posted = []) (h : placeOf a = .outside) (r : ReadRun) :
    s.readOne r a = (s.wordIn r 0 true, true) := by
  have free : s.pageBusy a = false := by rw [State.pageBusy, hp]; rfl
  have near : isNear a = false := by rw [isNear, h]; rfl
  simp only [State.readOne, free, near, h, Bool.false_eq_true, if_false]

/-- Reads whose words are all there end the command. -/
theorem State.endReads_good {w : Word} (hq : s.mgt.execQ = c :: rest) :
    (s.reading [] [w] none).endReads = (s.setRun none).endData c (beBytes 4 w.toNat) := by
  have hq' : (s.reading [] [w] none).mgt.execQ = c :: rest := hq
  have run : (s.reading [] [w] none).mgt.run = some ⟨[], [w], none, false⟩ := rfl
  simp only [State.endReads, hq', run, List.isEmpty_nil, if_true, List.flatMap_cons, List.flatMap_nil, List.append_nil]
  rfl

theorem State.endReads_failed {w : Word} (hq : s.mgt.execQ = c :: rest) :
    (s.reading [] [w] (some 0)).endReads = ((s.setRun none).endCmd c 2 0).answer c 2 (beBytes 4 w.toNat ++ beBytes 4 0) := by
  have hq' : (s.reading [] [w] (some 0)).mgt.execQ = c :: rest := hq
  have run : (s.reading [] [w] (some 0)).mgt.run = some ⟨[], [w], some 0, false⟩ := rfl
  simp only [State.endReads, hq', run, List.isEmpty_nil, if_true, List.flatMap_cons, List.flatMap_nil, List.append_nil]
  rfl

/-- A read whose word is there without a failure is answered as DONE. -/
theorem State.endReads_answers {w : Word} (hq : s.mgt.execQ = c :: rest) (hc : c.chan = .spi) (hs : s.standby = false) :
    ((s.setRun none).answeredBy (s.spiAnswer c 1 (beBytes 4 w.toNat))).Noted (s.reading [] [w] none).endReads ∧
      s.RegsBut (s.reading [] [w] none).endReads journalKeys ∧ s.Only (s.reading [] [w] none).endReads [.regs, .mgt, .key] := by
  obtain ⟨noted, regs, only⟩ := State.endAnswer_spi (s := s.setRun none) (c := c) (data := beBytes 4 w.toNat) hc hs 0 1
    (by rw [beBytes_length]; decide)
  rw [State.endReads_good hq]
  exact ⟨noted, regs.from rfl, State.Only.comp (t := s.setRun none) rfl only⟩

theorem State.endReads_answersFailed {w : Word} (hq : s.mgt.execQ = c :: rest) (hc : c.chan = .spi) (hs : s.standby = false) :
    ((s.setRun none).answeredBy (s.spiAnswer c 2 (beBytes 4 w.toNat ++ beBytes 4 0))).Noted (s.reading [] [w] (some 0)).endReads ∧
      s.RegsBut (s.reading [] [w] (some 0)).endReads journalKeys ∧ s.Only (s.reading [] [w] (some 0)).endReads [.regs, .mgt, .key] := by
  obtain ⟨noted, regs, only⟩ := State.endAnswer_spi (s := s.setRun none) (c := c) (data := beBytes 4 w.toNat ++ beBytes 4 0) hc hs 2 2
    (by simp only [List.length_append, beBytes_length]; decide)
  rw [State.endReads_failed hq]
  exact ⟨noted, regs.from rfl, State.Only.comp (t := s.setRun none) rfl only⟩

/-- A command that reads GLB_SCRATCH alone. -/
theorem State.startReads_glbScratch (hq : s.mgt.execQ = c :: rest) (hc : c.chan = .spi) (hs : s.standby = false)
    (hr : s.mgt.run = none) (hp : s.mgt.posted = []) :
    ((s.setRun none).answeredBy (s.spiAnswer c 1 (beBytes 4 (s.reg K.GLB_SCRATCH).toNat))).Noted (s.startReads [K.GLB_SCRATCH]) ∧
      s.RegsBut (s.startReads [K.GLB_SCRATCH]) journalKeys ∧ s.Only (s.startReads [K.GLB_SCRATCH]) [.regs, .busData, .mgt, .key] := by
  let u : State := { s with busData := s.reg K.GLB_SCRATCH }
  have first : (s.reading [K.GLB_SCRATCH] [] none).readNext = (u.reading [] [s.reg K.GLB_SCRATCH] none, true) :=
    State.readOne_glbScratch (s := s.reading [K.GLB_SCRATCH] [] none) hp _
  obtain ⟨noted, regs, only⟩ := State.endReads_answers (s := u) (w := s.reg K.GLB_SCRATCH) hq hc hs
  rw [State.startReads_one hr first]
  exact ⟨noted, regs.from rfl, State.Only.comp (t := u) rfl (only.mono _ (by decide))⟩

/-- A command that reads one address that names nothing. -/
theorem State.startReads_outside {a : Nat} (hq : s.mgt.execQ = c :: rest) (hc : c.chan = .spi) (hs : s.standby = false)
    (hr : s.mgt.run = none) (hp : s.mgt.posted = []) (ha : placeOf a = .outside) :
    ((s.setRun none).answeredBy (s.spiAnswer c 2 (beBytes 4 0xFFFFFFFF ++ beBytes 4 0))).Noted (s.startReads [a]) ∧
      s.RegsBut (s.startReads [a]) journalKeys ∧ s.Only (s.startReads [a]) [.regs, .cnts, .mgt, .key] ∧
      (s.startReads [a]).cnt (C.mgt 9) = s.cnt (C.mgt 9) + 1 := by
  let u : State := s.inc (C.mgt 9)
  have first : (s.reading [a] [] none).readNext = (u.reading [] [0xFFFFFFFF] (some 0), true) :=
    State.readOne_outside (s := s.reading [a] [] none) hp ha _
  obtain ⟨noted, regs, only⟩ := State.endReads_answersFailed (s := u) (w := 0xFFFFFFFF) hq hc hs
  rw [State.startReads_one hr first]
  refine ⟨noted, regs.from rfl, State.Only.comp (t := u) rfl (only.mono _ (by decide)), ?_⟩
  exact (State.cnt_congr (only.keeps State.cnts rfl) _).trans (s.cnt_inc_same _)

/-- What a read answered on MGT_SPI leaves of the MC. -/
theorem State.Noted.answered {msg : List Byte} {t : State} (h : ((s.setRun none).answeredBy msg).Noted t) (hq : s.mgt.execQ = c :: rest) :
    t.mgt.execQ = rest ∧ t.mgt.run = none ∧ t.mgt.respSpi = s.mgt.respSpi ++ [msg] :=
  ⟨h.execQ.trans (by show s.mgt.execQ.drop 1 = rest; rw [hq]; rfl), h.keeps (fun m => m.run) (fun _ _ _ _ _ _ _ => rfl), h.respSpi⟩

theorem exec_readScratch_answers (hr : s.mcRuns = true) (hq : s.mgt.execQ = c :: rest) (hc : c.chan = .spi) (hs : s.standby = false)
    (idle : s.mgt.run = none) (hp : s.mgt.posted = []) (i : Instr)
    (h : (i = .regRead ∧ c.opcode = 0x100 ∧ bodyWords c.body = [K.GLB_SCRATCH]) ∨
      (i = .regBurstRead ∧ c.opcode = 0x102 ∧ beAt c.body 0 4 = K.GLB_SCRATCH ∧ beAt c.body 4 4 = 1)) :
    ∃ t, exec i s = .next t ∧ t.mgt.execQ = rest ∧ t.mgt.run = none ∧ s.RegsBut t journalKeys ∧
      t.mgt.respSpi = s.mgt.respSpi ++ [s.spiAnswer c 1 (beBytes 4 (s.reg K.GLB_SCRATCH).toNat)] := by
  have head := State.execHead_of hr hq
  obtain ⟨noted, regs, only⟩ := State.startReads_glbScratch hq hc hs idle hp
  obtain ⟨popped, run', answered⟩ := noted.answered hq
  rcases h with ⟨rfl, op, words⟩ | ⟨rfl, op, addr, one⟩
  · have run := exec_regRead s hr
    rw [op] at head
    have effect : s.regRead = s.startReads [K.GLB_SCRATCH] := by simp only [State.regRead, head, words]
    rw [effect, only.confine _ (by decide)] at run
    exact ⟨_, run, popped, run', regs, answered⟩
  · have run := exec_regBurstRead s hr
    rw [op] at head
    have effect : s.regBurstRead = s.startReads [K.GLB_SCRATCH] := by simp only [State.regBurstRead, head, addr, one]; rfl
    rw [effect, only.confine _ (by decide)] at run
    exact ⟨_, run, popped, run', regs, answered⟩

theorem exec_regRead_outside (hr : s.mcRuns = true) (hq : s.mgt.execQ = c :: rest) (hc : c.chan = .spi) (hs : s.standby = false)
    (idle : s.mgt.run = none) (hp : s.mgt.posted = []) (op : c.opcode = 0x100) (words : bodyWords c.body = [0x3FFFFC]) :
    ∃ t, exec .regRead s = .next t ∧ t.mgt.execQ = rest ∧ t.cnt (C.mgt 9) = s.cnt (C.mgt 9) + 1 ∧
      t.mgt.respSpi = s.mgt.respSpi ++ [s.spiAnswer c 2 (beBytes 4 0xFFFFFFFF ++ beBytes 4 0)] ∧ s.RegsBut t journalKeys := by
  have head := State.execHead_of hr hq
  rw [op] at head
  obtain ⟨noted, regs, only, count⟩ := State.startReads_outside (a := 0x3FFFFC) hq hc hs idle hp (by decide)
  obtain ⟨popped, -, answered⟩ := noted.answered hq
  have run := exec_regRead s hr
  have effect : s.regRead = s.startReads [0x3FFFFC] := by simp only [State.regRead, head, words]
  rw [effect, only.confine _ (by decide)] at run
  exact ⟨_, run, popped, count, answered, regs⟩


/-! ## Writes of one register (R466) -/

/-- A write's tag is taken. -/
def State.tagTaken (s : State) : State := s.setFld F.BRG_TAG_NEXT ((s.fld F.BRG_TAG_NEXT + 1) % 65536)

/-- A command starts to issue its writes; the only one is in hand. -/
def State.issuing (s : State) : State := { s with mgt := { s.mgt with toPost := [], swapPending := false } }

theorem bank_ne_tag (b : Nat) : K.BANK_OWNER b ∉ [K.BRG_TAG] := by
  rw [List.mem_singleton, K.BANK_OWNER, K.BRG_TAG]
  omega

theorem State.bridgeOwns_tagTaken (b : Nat) : s.tagTaken.bridgeOwns b = s.bridgeOwns b := by
  have kept : s.RegsBut s.tagTaken [K.BRG_TAG] := s.regsBut_setFld _ _
  simp only [State.bridgeOwns, State.bankOwner, State.bankState, kept.fld (f := F.BANK_OWNER_OWNER b) (bank_ne_tag b),
    kept.fld (f := F.BANK_OWNER_STATE b) (bank_ne_tag b)]

section
variable {a : Nat} {m d : Word}

theorem State.postWrite_outside (hm : m ≠ 0) (h : placeOf a = .outside) :
    s.postWrite a m d = s.tagTaken.writeFailed 5 (s.fld F.BRG_TAG_NEXT) a := by
  simp only [State.postWrite, hm, if_false, h]
  rfl

theorem State.postWrite_owned {off : Nat} (hm : m ≠ 0) (h : placeOf a = .scratch off) (hb : s.bridgeOwns (bankOf off) = true) :
    s.postWrite a m d = s.tagTaken.setPosted (s.mgt.posted ++ [⟨s.fld F.BRG_TAG_NEXT, a, m, d, false, s.mgt.execQ.head?⟩]) := by
  have hb' : s.tagTaken.bridgeOwns (bankOf off) = true := (s.bridgeOwns_tagTaken _).trans hb
  simp only [State.postWrite, hm, if_false, h]
  exact if_pos hb'

theorem State.postWrite_foreign {off : Nat} (hm : m ≠ 0) (h : placeOf a = .scratch off) (hb : s.bridgeOwns (bankOf off) = false) :
    s.postWrite a m d = s.tagTaken.writeFailed 3 (s.fld F.BRG_TAG_NEXT) a := by
  have hb' : ¬ s.tagTaken.bridgeOwns (bankOf off) = true := by rw [s.bridgeOwns_tagTaken, hb]; decide
  simp only [State.postWrite, hm, if_false, h]
  exact if_neg hb'

theorem State.postWrite_near (hm : m ≠ 0) (h : isNear a = true) (hp : s.mgt.posted = []) :
    s.postWrite a m d = s.tagTaken.writeFor s.mgt.execQ.head? a m d := by
  have place : placeOf a = .register := by
    rw [isNear, Bool.and_eq_true, beq_iff_eq] at h
    exact h.1
  have own : s.tagTaken.ownOutstanding = false := by
    show s.mgt.posted.any _ = false
    rw [hp]
    rfl
  have near : (isNear a && !s.tagTaken.ownOutstanding) = true := by rw [h, own]; rfl
  simp only [State.postWrite, hm, if_false, place]
  exact if_pos near

theorem State.startWrites_one {w : State} (ht : s.mgt.toPost = []) (hp : s.mgt.posted = []) (hw : s.issuing.postWrite a m d = w)
    (done : w.mgt.toPost = []) (hq : w.mgt.execQ = c :: rest) (op : c.opcode = 0x101 ∨ c.opcode = 0x103) :
    s.startWrites [(a, m, d)] = w.endCmd c (b2n w.mgt.swapPending) 0 := by
  have free : ¬ 192 ≤ s.mgt.posted.length := by rw [hp]; decide
  have idle : s.mgt.toPost.isEmpty = true := by rw [ht]; rfl
  have issued : ({ s with mgt := { s.mgt with toPost := [(a, m, d)], swapPending := false } } : State).pump 257 = w := by
    rw [State.pump]
    simp only [free, if_false]
    exact (congrArg (fun u => u.pump 256) hw).trans (State.pump_empty done 256)
  have ends : w.endWrites = w.endCmd c (b2n w.mgt.swapPending) 0 := by
    rcases op with op | op <;> simp [State.endWrites, hq, done, op]
  simp only [State.startWrites, idle, if_true, issued, ends]

/-- What a command with one write leaves: the state `w` of its write, with the command ended. -/
theorem exec_oneWrite (hr : s.mcRuns = true) (hq : s.mgt.execQ = c :: rest) (ht : s.mgt.toPost = []) (hp : s.mgt.posted = [])
    (i : Instr) (h : (i = .regWrite ∧ c.opcode = 0x101 ∧ bodyTriples c.body = [(a, m, d)]) ∨
      (i = .regBurstWrite ∧ c.opcode = 0x103 ∧ bodyBurst c.body = [(a, m, d)]))
    {w : State} (hw : s.unstepped.issuing.postWrite a m d = w) (done : w.mgt.toPost = []) (hq' : w.mgt.execQ = s.mgt.execQ)
    (only : s.unstepped.Only w [.regs, .cnts, .mgt, .key]) :
    ∃ t, exec i s = .next t ∧ t.mgt.execQ = rest ∧ w.popExec.Noted t ∧ w.RegsBut t journalKeys ∧ s.MemSame t := by
  have head := State.execHead_of hr hq
  let x := w.endCmd c (b2n w.mgt.swapPending) 0
  have ended := w.endCmd_only c (b2n w.mgt.swapPending) 0
  have noted : w.popExec.Noted x := w.popExec.appendGroup_noted _ _ _ _
  have whole : s.unstepped.Only x [.regs, .cnts, .time, .mgt, .key, .out] := (only.mono _ (by decide)).comp (ended.mono _ (by decide))
  have step : x.time.stepped = false := (congrArg (fun y => y.stepped) (ended.keeps State.time rfl)).trans
    (congrArg (fun y => y.stepped) (only.keeps State.time rfl))
  have pulses := x.ppsAll_only
  have noted' : w.popExec.Noted x.ppsAll := noted.comp (State.noted_of (pulses.keeps State.mgt rfl) (pulses.keeps State.key rfl))
  have popped : x.ppsAll.mgt.execQ = rest := noted'.execQ.trans (by show w.mgt.execQ.drop 1 = rest; rw [hq', hq]; rfl)
  have mem : x.ppsAll.mem = s.mem :=
    (pulses.keeps State.mem rfl).trans ((ended.keeps State.mem rfl).trans (only.keeps State.mem rfl))
  have regs : w.RegsBut x.ppsAll journalKeys := (w.endCmd_regsBut c _ 0).after (pulses.regs rfl)
  have ends (f : State → State) (op : c.opcode = 0x101 ∨ c.opcode = 0x103) (hf : f s.unstepped = s.unstepped.startWrites [(a, m, d)]) :
      s.settled f = x.ppsAll ∧ s.Only x.ppsAll [.regs, .cnts, .time, .mgt, .key, .out] :=
    State.settled_quiet (hf.trans (State.startWrites_one (s := s.unstepped) ht hp hw done (hq'.trans hq) op)) step whole (by decide)
  refine ⟨x.ppsAll, ?_, popped, noted', regs, State.memSame_of_mem mem⟩
  rcases h with ⟨rfl, op, list⟩ | ⟨rfl, op, list⟩
  · rw [op] at head
    have head' : s.unstepped.execHead 0x101 = some c := head
    obtain ⟨settled, all⟩ := ends (fun s => s.regWrite) (Or.inl op) (by simp only [State.regWrite, head', list])
    rw [exec_regWrite s hr, settled, all.confine _ (by decide)]
  · rw [op] at head
    have head' : s.unstepped.execHead 0x103 = some c := head
    obtain ⟨settled, all⟩ := ends (fun s => s.regBurstWrite) (Or.inr op) (by simp only [State.regBurstWrite, head', list])
    rw [exec_regBurstWrite s hr, settled, all.confine _ (by decide)]

/-- GLB_SCRATCH with a word written under a mask. -/
def State.scratchWritten (s : State) (m d : Word) : State :=
  { s.setReg K.GLB_SCRATCH ((s.reg K.GLB_SCRATCH &&& ~~~ m) ||| (d &&& m)) with mgt := { s.mgt with writer := none } }

theorem State.ownWrite_register (h : placeOf a = .register) : s.ownWrite a m d = s.busWrite a m d := by
  delta State.ownWrite
  rw [h]

theorem State.ownWrite_scratch {off : Nat} (h : placeOf a = .scratch off) : s.ownWrite a m d = s.writeWord off m d := by
  delta State.ownWrite
  rw [h]

theorem State.writeFor_glbScratch (hm : m ≠ 0) (k : Option Cmd) : s.writeFor k K.GLB_SCRATCH m d = s.scratchWritten m d := by
  let u : State := { s with mgt := { s.mgt with writer := k } }
  have stored : u.ownWrite K.GLB_SCRATCH m d = u.setReg K.GLB_SCRATCH ((s.reg K.GLB_SCRATCH &&& ~~~ m) ||| (d &&& m)) := by
    rw [State.ownWrite_register (by decide),
      State.busWrite_own ⟨0, regAt_glbScratch⟩ rfl (by decide) blockWrite_glbScratch u hm]
    exact congrArg _ (RegDesc.after_rw glbScratchDesc rfl rfl _ _ _)
  show ({ u.ownWrite K.GLB_SCRATCH m d with mgt := { (u.ownWrite K.GLB_SCRATCH m d).mgt with writer := none } } : State) = _
  rw [stored]
  rfl

theorem State.postWrite_glbScratch (hm : m ≠ 0) (hp : s.mgt.posted = []) :
    s.postWrite K.GLB_SCRATCH m d = s.tagTaken.scratchWritten m d := by
  have near : isNear K.GLB_SCRATCH = true := by decide
  rw [State.postWrite_near hm near hp, State.writeFor_glbScratch hm]

theorem State.tagTaken_next : s.tagTaken.fld F.BRG_TAG_NEXT = (s.fld F.BRG_TAG_NEXT + 1) % 65536 :=
  (s.fld_setFld_same F.BRG_TAG_NEXT _ (by decide) (by decide)).trans (Nat.mod_eq_of_lt (Nat.mod_lt _ (by decide)))

theorem State.tagTaken_regsBut : s.RegsBut s.tagTaken [K.BRG_TAG] := s.regsBut_setFld _ _

theorem State.scratchWritten_regsBut : s.RegsBut (s.scratchWritten m d) [K.GLB_SCRATCH] := s.regsBut_setReg _ _

theorem State.scratchWritten_reg : (s.scratchWritten m d).reg K.GLB_SCRATCH = (s.reg K.GLB_SCRATCH &&& ~~~ m) ||| (d &&& m) :=
  s.reg_setReg_same _ _

theorem State.scratchWritten_only : s.Only (s.scratchWritten m d) [.regs, .cnts, .mgt, .key] := rfl

theorem State.scratchWritten_mgt : (s.scratchWritten m d).mgt = { s.mgt with writer := none } := rfl

section
variable (hr : s.mcRuns = true) (hq : s.mgt.execQ = c :: rest) (ht : s.mgt.toPost = []) (hp : s.mgt.posted = [])
include hr hq ht hp

theorem exec_writeScratch_stores (hm : m ≠ 0) (i : Instr)
    (h : (i = .regWrite ∧ c.opcode = 0x101 ∧ bodyTriples c.body = [(K.GLB_SCRATCH, m, d)]) ∨
      (i = .regBurstWrite ∧ c.opcode = 0x103 ∧ bodyBurst c.body = [(K.GLB_SCRATCH, m, d)])) :
    ∃ t, exec i s = .next t ∧ t.mgt.execQ = rest ∧ t.mgt.posted = [] ∧
      t.reg K.GLB_SCRATCH = (s.reg K.GLB_SCRATCH &&& ~~~ m) ||| (d &&& m) ∧
      t.fld F.BRG_TAG_NEXT = (s.fld F.BRG_TAG_NEXT + 1) % 65536 ∧
      s.RegsBut t (K.GLB_SCRATCH :: K.BRG_TAG :: journalKeys) ∧ s.MemSame t := by
  let v := s.unstepped.issuing.tagTaken
  have tagged : s.RegsBut v [K.BRG_TAG] := (State.tagTaken_regsBut (s := s.unstepped.issuing)).from rfl
  have next : v.fld F.BRG_TAG_NEXT = (s.fld F.BRG_TAG_NEXT + 1) % 65536 := State.tagTaken_next (s := s.unstepped.issuing)
  have hw : s.unstepped.issuing.postWrite K.GLB_SCRATCH m d = v.scratchWritten m d :=
    State.postWrite_glbScratch (s := s.unstepped.issuing) hm hp
  have mgt : v.mgt = s.unstepped.issuing.mgt := rfl
  have vOnly : s.unstepped.Only v [.regs, .cnts, .mgt, .key] := rfl
  have stored : v.RegsBut (v.scratchWritten m d) [K.GLB_SCRATCH] := State.scratchWritten_regsBut
  have word : (v.scratchWritten m d).reg K.GLB_SCRATCH = (v.reg K.GLB_SCRATCH &&& ~~~ m) ||| (d &&& m) := State.scratchWritten_reg
  have only : s.unstepped.Only (v.scratchWritten m d) [.regs, .cnts, .mgt, .key] := vOnly.comp State.scratchWritten_only
  have mgt' : (v.scratchWritten m d).mgt = { s.mgt with toPost := [], swapPending := false, writer := none } :=
    State.scratchWritten_mgt.trans (by rw [mgt]; rfl)
  rw [tagged K.GLB_SCRATCH (by decide)] at word
  generalize v.scratchWritten m d = w at *
  obtain ⟨t, run, popped, noted, regs, mem⟩ := exec_oneWrite hr hq ht hp i h hw (by rw [mgt']) (by rw [mgt']) only
  have posted : t.mgt.posted = w.mgt.posted := noted.keeps (fun m => m.posted) (fun _ _ _ _ _ _ _ => rfl)
  refine ⟨t, run, popped, posted.trans (by rw [mgt']; exact hp),
    (regs K.GLB_SCRATCH (by decide)).trans word, ((regs.fld (by decide)).trans (stored.fld (by decide))).trans next, ?_, mem⟩
  exact ((tagged.mono (by simp)).comp (stored.mono (by simp))).comp (regs.mono (fun k hk => List.mem_cons_of_mem _ (List.mem_cons_of_mem _ hk)))

theorem exec_regWrite_waits {off : Nat} (hm : m ≠ 0) (op : c.opcode = 0x101) (list : bodyTriples c.body = [(a, m, d)])
    (ha : placeOf a = .scratch off) (hb : s.bridgeOwns (bankOf off) = true) :
    ∃ t, exec .regWrite s = .next t ∧ t.mgt.execQ = rest ∧ s.MemSame t ∧
      t.mgt.posted = [⟨s.fld F.BRG_TAG_NEXT, a, m, d, false, some c⟩] := by
  have hw := State.postWrite_owned (s := s.unstepped.issuing) (d := d) hm ha hb
  obtain ⟨t, run, popped, noted, -, mem⟩ := exec_oneWrite hr hq ht hp .regWrite (Or.inl ⟨rfl, op, list⟩) hw rfl rfl rfl
  refine ⟨t, run, popped, mem, (noted.keeps (fun m => m.posted) (fun _ _ _ _ _ _ _ => rfl)).trans ?_⟩
  show s.mgt.posted ++ [⟨s.fld F.BRG_TAG_NEXT, a, m, d, false, s.mgt.execQ.head?⟩] = _
  rw [hp, hq]
  rfl

theorem exec_regWrite_fails {cause : Nat} (room : s.mgt.pwfl.length < 32) (op : c.opcode = 0x101) (list : bodyTriples c.body = [(a, m, d)])
    (hw : s.unstepped.issuing.postWrite a m d = s.unstepped.issuing.tagTaken.writeFailed cause (s.fld F.BRG_TAG_NEXT) a) :
    ∃ t, exec .regWrite s = .next t ∧ t.mgt.execQ = rest ∧ s.MemSame t ∧ t.mgt.posted = [] ∧
      t.mgt.pwfl = s.mgt.pwfl ++ [⟨cause, s.fld F.BRG_TAG_NEXT, a, s.nowNs⟩] ∧
      t.mgt.fenceFail = min 65535 (s.mgt.fenceFail + 1) ∧ t.mgt.fenceTag = s.fld F.BRG_TAG_NEXT := by
  let v := s.unstepped.issuing.tagTaken
  have failed : (v.failLogged cause (s.fld F.BRG_TAG_NEXT) a).Noted (v.writeFailed cause (s.fld F.BRG_TAG_NEXT) a) :=
    v.writeFailed_noted _ _ _ room
  have only : s.unstepped.Only (v.writeFailed cause (s.fld F.BRG_TAG_NEXT) a) [.regs, .cnts, .mgt, .key] :=
    State.Only.comp (t := v) rfl (v.writeFailed_only _ _ _)
  obtain ⟨t, run, popped, noted, -, mem⟩ := exec_oneWrite hr hq ht hp .regWrite (Or.inl ⟨rfl, op, list⟩) hw
    (failed.keeps (fun m => m.toPost) (fun _ _ _ _ _ _ _ => rfl)) failed.execQ only
  have kept {α : Type} (g : MgtSt → α)
      (hg : ∀ m j st e q l w, g { m with jrn := j, statements := st, events := e, evSeq := q, mcLane := l, mcWait := w } = g m)
      (pop : ∀ m q, g { m with execQ := q } = g m) : g t.mgt = g (v.failLogged cause (s.fld F.BRG_TAG_NEXT) a).mgt :=
    ((noted.keeps g hg).trans (pop _ _)).trans (failed.keeps g hg)
  exact ⟨t, run, popped, mem, (kept (fun m => m.posted) (fun _ _ _ _ _ _ _ => rfl) (fun _ _ => rfl)).trans hp,
    kept (fun m => m.pwfl) (fun _ _ _ _ _ _ _ => rfl) (fun _ _ => rfl),
    kept (fun m => m.fenceFail) (fun _ _ _ _ _ _ _ => rfl) (fun _ _ => rfl),
    kept (fun m => m.fenceTag) (fun _ _ _ _ _ _ _ => rfl) (fun _ _ => rfl)⟩

end

end


/-! ## The ends of what was outstanding -/

/-- The parts that a bridge command may change. -/
def bridgeParts : List Part :=
  [.regs, .cnts, .caps, .heldLo, .held, .busData, .fresh, .mem, .bufLog, .nmLog, .safLog, .data, .ports, .time, .mgt, .edge, .nm, .wvr,
    .ldg, .twin, .key, .saf, .out]

/-- A bridge command that leaves network time alone ends in its effect and the pulse outputs that follow. -/
theorem exec_bridged {i : Instr} {f : State → State} {x : State} (run : exec i s = .next (s.confine bridgeParts (s.settled f)))
    (hx : f s.unstepped = x) (only : s.unstepped.Only x [.regs, .cnts, .busData, .mem, .data, .mgt, .twin, .key]) :
    ∃ t, exec i s = .next t ∧ x.Only t [.time, .out] := by
  have step : x.time.stepped = false := congrArg (fun y => y.stepped) (only.keeps State.time rfl)
  obtain ⟨settled, all⟩ := State.settled_quiet (l := bridgeParts) hx step (only.mono _ (by decide)) (by decide)
  rw [settled, all.confine _ (by decide)] at run
  exact ⟨_, run, x.ppsAll_only⟩

theorem isNear_scratch {a off : Nat} (h : placeOf a = .scratch off) : isNear a = false := by rw [isNear, h]; rfl

section
variable {a off tag : Nat} {m d : Word} {w : Option Cmd}

theorem State.finishWrite_lone {p : Posted} (hp : s.mgt.posted = [p]) (parity : Bool) :
    s.finishWrite p parity =
      (if (if parity then 4 else (s.setPosted []).endCause p.addr) = 0 then (s.setPosted []).writeFor p.cmd p.addr p.mask p.data
      else (s.setPosted []).writeFailed (if parity then 4 else (s.setPosted []).endCause p.addr) p.tag p.addr) := by
  have erased : s.mgt.posted.erase p = [] := by rw [hp, List.erase_cons_head]
  simp only [State.finishWrite, erased]

theorem State.endCause_scratch (h : placeOf a = .scratch off) :
    s.endCause a = if s.bankOwner (bankOf off) == 2 && decide (s.bankState (bankOf off) ≤ 1) then 0 else 3 := by
  delta State.endCause
  rw [h]

theorem State.failCause_scratch (h : placeOf a = .scratch off) : s.failCause a = if s.bridgeOwns (bankOf off) then 0 else 3 := by
  delta State.failCause
  rw [h]

theorem State.ownRead_scratch (h : placeOf a = .scratch off) : s.ownRead a = { s with busData := s.readWord off } := by
  delta State.ownRead
  rw [h]

/-- The command that issued a write is known while it is made. -/
def State.writtenBy (s : State) (k : Option Cmd) : State := { s with mgt := { s.mgt with writer := k } }

theorem State.writeFor_scratch (h : placeOf a = .scratch off) (k : Option Cmd) :
    s.writeFor k a m d = ((s.writtenBy k).writeWord off m d).writtenBy none :=
  congrArg (State.writtenBy · none) (State.ownWrite_scratch (s := s.writtenBy k) h)

/-- A write of a word of the scratchpad, by whatever way it came. -/
def State.WordStored (s : State) (off : Nat) (m d : Word) (t : State) : Prop :=
  t.readWord off = (s.readWord off &&& ~~~ m) ||| (d &&& m) ∧ ∀ x, x < off ∨ off + 4 ≤ x → t.readByte x = s.readByte x

theorem State.writeWord_stores : s.WordStored off m d (s.writeWord off m d) :=
  ⟨s.readWord_writeWord off m d, fun _ h => s.readByte_writeWord_other off m d h⟩

theorem State.WordStored.after {t u : State} (h : s.WordStored off m d t) (hm : u.mem = t.mem) : s.WordStored off m d u :=
  ⟨(State.readWord_congr hm off).trans h.1, fun x hx => (State.readByte_congr hm x).trans (h.2 x hx)⟩

theorem State.writeFor_stores (h : placeOf a = .scratch off) (k : Option Cmd) :
    s.WordStored off m d (s.writeFor k a m d) ∧ s.Only (s.writeFor k a m d) [.mem, .mgt] ∧
      (s.writeFor k a m d).mgt = { s.mgt with writer := none } := by
  have only := (s.writtenBy k).writeWord_only off m d
  have mgt : ((s.writtenBy k).writeWord off m d).mgt = { s.mgt with writer := k } := only.keeps State.mgt rfl
  have stored : s.WordStored off m d ((s.writtenBy k).writeWord off m d) := State.writeWord_stores (s := s.writtenBy k)
  have whole : s.Only ((s.writtenBy k).writeWord off m d) [.mem, .mgt] :=
    State.Only.comp (t := s.writtenBy k) rfl (only.mono _ (by decide))
  rw [State.writeFor_scratch h k]
  generalize (s.writtenBy k).writeWord off m d = x at *
  refine ⟨stored.after rfl, whole.comp rfl, ?_⟩
  show { x.mgt with writer := none } = _
  rw [mgt]

section
variable (ht : s.mgt.toPost = []) (hs : s.mgt.served = [])
include ht hs

theorem exec_postedWriteComplete_stores (hr : s.mcRuns = true) (run : s.mgt.run = none) (hp : s.mgt.posted = [⟨tag, a, m, d, false, w⟩])
    (ha : placeOf a = .scratch off) (own : s.bankOwner (bankOf off) = 2) (state : s.bankState (bankOf off) ≤ 1) :
    ∃ t, exec (.postedWriteComplete false) s = .next t ∧ t.mgt.posted = [] ∧
      t.readWord off = (s.readWord off &&& ~~~ m) ||| (d &&& m) ∧
      (∀ x, x < off ∨ off + 4 ≤ x → t.readByte x = s.readByte x) ∧ s.RegsBut t [] := by
  let u := s.unstepped.setPosted []
  have good : u.endCause a = 0 := by
    have own' : u.bankOwner (bankOf off) = 2 := own
    have state' : u.bankState (bankOf off) ≤ 1 := state
    rw [State.endCause_scratch ha, own', decide_eq_true state']
    rfl
  obtain ⟨stored, only, mgt⟩ := State.writeFor_stores (s := u) (m := m) (d := d) ha w
  have finish : s.unstepped.finishWrite ⟨tag, a, m, d, false, w⟩ false = u.writeFor w a m d := by
    rw [State.finishWrite_lone (s := s.unstepped) hp]
    simp only [Bool.false_eq_true, if_false]
    exact if_pos good
  have hx : s.unstepped.postedDone false = u.writeFor w a m d := by
    have found : s.unstepped.mgt.posted.find? (fun p => !p.sent) = some ⟨tag, a, m, d, false, w⟩ := by
      show s.mgt.posted.find? _ = _
      rw [hp]
      rfl
    simp only [State.postedDone, found, finish]
    exact State.goOn_idle (by rw [mgt]; rfl) (by rw [mgt]; exact ht) (by rw [mgt]; exact hs) (by rw [mgt]; exact run)
  have whole : s.unstepped.Only (u.writeFor w a m d) [.mem, .mgt] := State.Only.comp (t := u) rfl only
  obtain ⟨t, runs, pulses⟩ := exec_bridged (f := fun s => s.postedDone false) (exec_postedWriteComplete s false hr) hx (whole.mono _ (by decide))
  obtain ⟨word, others⟩ := State.WordStored.after (s := s) stored (pulses.keeps State.mem rfl)
  have posted : t.mgt.posted = [] := (congrArg (fun y => y.posted) (pulses.keeps State.mgt rfl)).trans (by rw [mgt]; rfl)
  exact ⟨t, runs, posted, word, others, State.regsBut_of_regs ((pulses.regs rfl).trans (whole.keeps State.regs rfl)) _⟩

/-- No write is outstanding any more, and a message may have left the inbox. -/
def State.noneLeft (s : State) (q : List InFrame) : State := { s with mgt := { s.mgt with posted := [], inbox := q } }

/-- What is left when a write outstanding alone has failed. -/
theorem exec_bridged_fails {i : Instr} {f : State → State} {cause : Nat} {q : List InFrame} (run : exec i s = .next (s.confine bridgeParts (s.settled f)))
    (idle : s.mgt.run = none) (room : s.mgt.pwfl.length < 32)
    (hx : f s.unstepped = ((s.unstepped.noneLeft q).writeFailed cause tag a).goOn) :
    ∃ t, exec i s = .next t ∧ t.mgt.posted = [] ∧ t.mgt.pwfl = s.mgt.pwfl ++ [⟨cause, tag, a, s.nowNs⟩] ∧ s.MemSame t ∧
      s.RegsBut t journalKeys := by
  let u := s.unstepped.noneLeft q
  have failed : (u.failLogged cause tag a).Noted (u.writeFailed cause tag a) := u.writeFailed_noted cause tag a room
  have posted : (u.writeFailed cause tag a).mgt.posted = [] := failed.keeps (fun m => m.posted) (fun _ _ _ _ _ _ _ => rfl)
  have pwfl : (u.writeFailed cause tag a).mgt.pwfl = s.mgt.pwfl ++ [⟨cause, tag, a, s.nowNs⟩] :=
    failed.keeps (fun m => m.pwfl) (fun _ _ _ _ _ _ _ => rfl)
  have rests : (u.writeFailed cause tag a).goOn = u.writeFailed cause tag a :=
    State.goOn_idle posted ((failed.keeps (fun m => m.toPost) (fun _ _ _ _ _ _ _ => rfl)).trans ht)
      ((failed.keeps (fun m => m.served) (fun _ _ _ _ _ _ _ => rfl)).trans hs)
      ((failed.keeps (fun m => m.run) (fun _ _ _ _ _ _ _ => rfl)).trans idle)
  have only : s.unstepped.Only (u.writeFailed cause tag a) [.regs, .cnts, .mgt, .key] :=
    State.Only.comp (t := u) rfl (u.writeFailed_only cause tag a)
  have regs : s.RegsBut (u.writeFailed cause tag a) journalKeys := (u.writeFailed_regsBut cause tag a room).from rfl
  obtain ⟨t, runs, pulses⟩ := exec_bridged run (hx.trans rests) (only.mono _ (by decide))
  have mgt : t.mgt = (u.writeFailed cause tag a).mgt := pulses.keeps State.mgt rfl
  exact ⟨t, runs, by rw [mgt, posted], by rw [mgt, pwfl],
    State.memSame_of_mem ((pulses.keeps State.mem rfl).trans (only.keeps State.mem rfl)), regs.after (pulses.regs rfl)⟩

theorem exec_postedWriteComplete_fails (hr : s.mcRuns = true) (run : s.mgt.run = none) (hp : s.mgt.posted = [⟨tag, a, m, d, false, w⟩])
    (ha : placeOf a = .scratch off) (bad : s.bankOwner (bankOf off) ≠ 2 ∨ 1 < s.bankState (bankOf off)) (room : s.mgt.pwfl.length < 32) :
    ∃ t, exec (.postedWriteComplete false) s = .next t ∧ t.mgt.posted = [] ∧ t.mgt.pwfl = s.mgt.pwfl ++ [⟨3, tag, a, s.nowNs⟩] ∧
      s.MemSame t ∧ s.RegsBut t journalKeys := by
  let u := s.unstepped.setPosted []
  have cause : u.endCause a = 3 := by
    have cond : (u.bankOwner (bankOf off) == 2 && decide (u.bankState (bankOf off) ≤ 1)) = false := by
      show (s.bankOwner (bankOf off) == 2 && decide (s.bankState (bankOf off) ≤ 1)) = false
      rw [Bool.and_eq_false_iff, beq_eq_false_iff_ne, decide_eq_false_iff_not, Nat.not_le]
      exact bad
    rw [State.endCause_scratch ha, cond]
    rfl
  have hx : s.unstepped.postedDone false = (u.writeFailed 3 tag a).goOn := by
    have found : s.unstepped.mgt.posted.find? (fun p => !p.sent) = some ⟨tag, a, m, d, false, w⟩ := by
      show s.mgt.posted.find? _ = _
      rw [hp]
      rfl
    have finish : s.unstepped.finishWrite ⟨tag, a, m, d, false, w⟩ false = u.writeFailed 3 tag a := by
      rw [State.finishWrite_lone (s := s.unstepped) hp]
      have cause' : (s.unstepped.setPosted []).endCause a = 3 := cause
      simp only [Bool.false_eq_true, if_false, cause']
      rfl
    simp only [State.postedDone, found, finish]
  exact exec_bridged_fails ht hs (f := fun s => s.postedDone false) (q := s.mgt.inbox) (exec_postedWriteComplete s false hr) run room hx

/-- A read in hand whose word has come ends its command. -/
theorem State.goOn_whole {ws : List Word} {f : Option Nat} (hp : s.mgt.posted = []) :
    (s.reading [] ws f).goOn = (s.reading [] ws f).endReads :=
  State.goOn_reads hp ht hs (State.readNext_whole rfl)

section
variable (hr : s.mcRuns = true) (hq : s.mgt.execQ = c :: rest) (hc : c.chan = .spi) (st : s.standby = false) (hp : s.mgt.posted = [])
  (run : s.mgt.run = some ⟨[a], [], none, false⟩) (ha : placeOf a = .scratch off)
include hr hq hc st hp run ha

theorem exec_farReadComplete_answers (own : s.bridgeOwns (bankOf off) = true) :
    ∃ t, exec (.farReadComplete false) s = .next t ∧ t.mgt.run = none ∧ t.mgt.execQ = rest ∧ s.MemSame t ∧
      t.mgt.respSpi = s.mgt.respSpi ++ [s.spiAnswer c 1 (beBytes 4 (s.readWord off).toNat)] ∧ s.RegsBut t journalKeys := by
  let u : State := { s.unstepped with busData := s.readWord off }
  have near := isNear_scratch ha
  have free : s.unstepped.pageBusy a = false := by rw [State.pageBusy, show s.unstepped.mgt.posted = [] from hp]; rfl
  have good : s.unstepped.failCause a = 0 := (State.failCause_scratch ha).trans (if_pos own)
  have read : s.unstepped.ownRead a = u := State.ownRead_scratch ha
  have run' : s.unstepped.mgt.run = some ⟨[a], [], none, false⟩ := run
  have hx : s.unstepped.farReadDone false = (u.reading [] [s.readWord off] none).endReads := by
    simp only [State.farReadDone, run', near, free, ha, good, read, Bool.or_self, Bool.false_eq_true, if_false, bne_self_eq_false]
    exact State.goOn_whole (s := u) ht hs hp
  obtain ⟨noted, regs, only⟩ := State.endReads_answers (s := u) (w := s.readWord off) hq hc st
  have whole : s.unstepped.Only (u.reading [] [s.readWord off] none).endReads [.regs, .busData, .mgt, .key] :=
    State.Only.comp (t := u) rfl (only.mono _ (by decide))
  obtain ⟨t, runs, pulses⟩ := exec_bridged (f := fun s => s.farReadDone false) (exec_farReadComplete s false hr) hx (whole.mono _ (by decide))
  obtain ⟨popped, done, answered⟩ := noted.answered hq
  have mgt := pulses.keeps State.mgt rfl
  exact ⟨t, runs, by rw [mgt, done], by rw [mgt, popped],
    State.memSame_of_mem ((pulses.keeps State.mem rfl).trans (whole.keeps State.mem rfl)), by rw [mgt]; exact answered,
    State.RegsBut.after (regs.from rfl) (pulses.regs rfl)⟩

theorem exec_farReadComplete_fails :
    ∃ t, exec (.farReadComplete true) s = .next t ∧ t.mgt.run = none ∧ t.mgt.execQ = rest ∧ s.MemSame t ∧
      t.mgt.respSpi = s.mgt.respSpi ++ [s.spiAnswer c 2 (beBytes 4 0xFFFFFFFF ++ beBytes 4 0)] ∧
      t.cnt (C.mgt 9) = s.cnt (C.mgt 9) + 1 := by
  let u : State := s.unstepped.inc (C.mgt 9)
  have near := isNear_scratch ha
  have free : s.unstepped.pageBusy a = false := by rw [State.pageBusy, show s.unstepped.mgt.posted = [] from hp]; rfl
  have run' : s.unstepped.mgt.run = some ⟨[a], [], none, false⟩ := run
  have hx : s.unstepped.farReadDone true = (u.reading [] [0xFFFFFFFF] (some 0)).endReads := by
    simp only [State.farReadDone, run', near, free, ha, Bool.or_self, Bool.true_or, Bool.false_eq_true, if_false, if_true]
    exact State.goOn_whole (s := u) ht hs hp
  obtain ⟨noted, regs, only⟩ := State.endReads_answersFailed (s := u) (w := 0xFFFFFFFF) hq hc st
  have whole : s.unstepped.Only (u.reading [] [0xFFFFFFFF] (some 0)).endReads [.regs, .cnts, .mgt, .key] :=
    State.Only.comp (t := u) rfl (only.mono _ (by decide))
  obtain ⟨t, runs, pulses⟩ := exec_bridged (f := fun s => s.farReadDone true) (exec_farReadComplete s true hr) hx (whole.mono _ (by decide))
  obtain ⟨popped, done, answered⟩ := noted.answered hq
  have mgt := pulses.keeps State.mgt rfl
  have count : t.cnt (C.mgt 9) = s.cnt (C.mgt 9) + 1 :=
    (State.cnt_congr ((pulses.keeps State.cnts rfl).trans (only.keeps State.cnts rfl)) _).trans (s.unstepped.cnt_inc_same _)
  exact ⟨t, runs, by rw [mgt, done], by rw [mgt, popped],
    State.memSame_of_mem ((pulses.keeps State.mem rfl).trans (whole.keeps State.mem rfl)), by rw [mgt]; exact answered, count⟩

end

end

/-! ## The partner's side (R444) -/

theorem State.takePair_of {u v : State} {ty : Nat} {f : InFrame} (h : s.takePair ty = some (f, u)) (hm : v.mgt = s.mgt) :
    v.takePair ty = some (f, v.inboxTaken f) := by
  unfold State.takePair State.takeInbox at h ⊢
  rw [hm]
  cases found : s.mgt.inbox.find? (fun m => m.kind == .pair && pmType m.bytes == ty) with
  | none => rw [found] at h; exact nomatch h
  | some x =>
    rw [found] at h
    have same : x = f := congrArg (·.1) (Option.some.inj h)
    rw [← same]
    show some (x, ({ v with mgt := { s.mgt with inbox := s.mgt.inbox.erase x } } : State)) = _
    rw [← hm]
    rfl

theorem placeOf_window (h : off < 0x400000) : placeOf (0x400000 + off) = .scratch off := by
  have page : regPage ((0x400000 + off) / 0x1000) = false := by
    simp only [regPage, Bool.or_eq_false_iff, Bool.and_eq_false_iff, beq_eq_false_iff_ne, decide_eq_false_iff_not]
    omega
  rw [placeOf, page, if_neg (by decide), if_pos (by omega), Nat.add_sub_cancel_left]

theorem exec_bridgeReqReceive_writes {f : InFrame} {u : State} (hr : s.mcRuns = true) (h : s.takePair 9 = some (f, u)) (small : tag < 65536)
    (aligned : off % 4 = 0) (inside : off < 0x400000) (joined : s.joined = true)
    (hs : s.mgt.served = []) :
    (s.bridgeOwns (bankOf off) = true →
      ∃ t, exec (.bridgeReqReceive true tag (0x400000 + off) m d) s = .next t ∧
        t.readWord off = (s.readWord off &&& ~~~ m) ||| (d &&& m) ∧
        (∀ x, x < off ∨ off + 4 ≤ x → t.readByte x = s.readByte x) ∧ t.pairSeq 10 = (s.pairSeq 10 + 1) % 2 ^ 32 ∧ s.RegsBut t []) ∧
    (s.bridgeOwns (bankOf off) = false →
      ∃ t, exec (.bridgeReqReceive true tag (0x400000 + off) m d) s = .next t ∧ s.MemSame t ∧
        t.pairSeq 10 = (s.pairSeq 10 + 1) % 2 ^ 32 ∧ s.RegsBut t []) := by
  let v := s.unstepped.inboxTaken f
  have taken : s.unstepped.takePair 9 = some (f, v) := State.takePair_of h rfl
  have joined' : v.joined = true := joined
  have place := placeOf_window inside
  have wf : Instr.wf (.bridgeReqReceive true tag (0x400000 + off) m d) = true := by
    show (decide (tag < 65536) && decide (0x400000 + off < 0x2000000) && (0x400000 + off) % 4 == 0) = true
    simp only [Bool.and_eq_true, decide_eq_true_eq, beq_iff_eq]
    omega
  have served : v.servedCause (0x400000 + off) = if s.bridgeOwns (bankOf off) then 0 else 3 := by
    have same : v.servedCause (0x400000 + off) = v.failCause (0x400000 + off) := by
      delta State.servedCause
      rw [place]
    exact same.trans (State.failCause_scratch place)
  have run := exec_bridgeReqReceive s true tag (0x400000 + off) m d wf hr
  refine ⟨fun own => ?_, fun foreign => ?_⟩
  · have good : v.servedCause (0x400000 + off) = 0 := served.trans (if_pos own)
    have outside : isCls (0x400000 + off) = false := by
      simp only [isCls, Bool.and_eq_false_iff, decide_eq_false_iff_not]
      omega
    have waits : ((isCls (0x400000 + off) && v.clsBusy) || !v.mgt.served.isEmpty) = false := by
      rw [outside, show v.mgt.served = [] from hs]
      rfl
    let x := v.writeWord off m d
    have written : v.ownWrite (0x400000 + off) m d = x := State.ownWrite_scratch place
    have hx : s.unstepped.bridgeReq true tag (0x400000 + off) m d = x.pairSend 10 (Config.bridgeBody [1, tag, 0, 0]) := by
      simp only [State.bridgeReq, taken, joined', good, waits, State.serveWrite, written, Bool.not_true, Bool.false_eq_true, if_false, if_true,
        ne_eq, not_true]
    have sent := x.pairSend_only 10 (Config.bridgeBody [1, tag, 0, 0])
    have vx : v.Only x [.mem] := v.writeWord_only off m d
    have whole : s.unstepped.Only (x.pairSend 10 (Config.bridgeBody [1, tag, 0, 0])) [.cnts, .mem, .data, .mgt, .twin] :=
      State.Only.comp (t := v) rfl ((vx.mono _ (by decide)).comp (sent.mono _ (by decide)))
    have seq : (x.pairSend 10 (Config.bridgeBody [1, tag, 0, 0])).pairSeq 10 = (s.pairSeq 10 + 1) % 2 ^ 32 := by
      rw [State.pairSend_pairSeq, State.pairSeq, vx.keeps State.twin rfl]
      rfl
    have stored : v.WordStored off m d (x.pairSend 10 (Config.bridgeBody [1, tag, 0, 0])) :=
      (State.writeWord_stores (s := v)).after (sent.keeps State.mem rfl)
    obtain ⟨t, runs, pulses⟩ := exec_bridged (f := fun s => s.bridgeReq true tag (0x400000 + off) m d) run hx (whole.mono _ (by decide))
    obtain ⟨word, others⟩ := State.WordStored.after (s := s) stored (pulses.keeps State.mem rfl)
    exact ⟨t, runs, word, others, by rw [State.pairSeq, pulses.keeps State.twin rfl]; exact seq,
      State.regsBut_of_regs ((pulses.regs rfl).trans (whole.keeps State.regs rfl)) _⟩
  · have cause : v.servedCause (0x400000 + off) = 3 := served.trans (if_neg (by rw [foreign]; decide))
    have hx : s.unstepped.bridgeReq true tag (0x400000 + off) m d = v.pairSend 10 (Config.bridgeBody [b2n true, tag, 3, 0xFFFFFFFF]) := by
      simp only [State.bridgeReq, taken, joined', cause, Bool.not_true, Bool.false_eq_true, if_false]
      exact if_pos (by decide)
    have sent := v.pairSend_only 10 (Config.bridgeBody [b2n true, tag, 3, 0xFFFFFFFF])
    have whole : s.unstepped.Only (v.pairSend 10 (Config.bridgeBody [b2n true, tag, 3, 0xFFFFFFFF])) [.cnts, .data, .mgt, .twin] :=
      State.Only.comp (t := v) rfl (sent.mono _ (by decide))
    have seq : (v.pairSend 10 (Config.bridgeBody [b2n true, tag, 3, 0xFFFFFFFF])).pairSeq 10 = (s.pairSeq 10 + 1) % 2 ^ 32 :=
      State.pairSend_pairSeq (s := v) 10 _
    obtain ⟨t, runs, pulses⟩ := exec_bridged (f := fun s => s.bridgeReq true tag (0x400000 + off) m d) run hx (whole.mono _ (by decide))
    exact ⟨t, runs, State.memSame_of_mem ((pulses.keeps State.mem rfl).trans (whole.keeps State.mem rfl)),
      by rw [State.pairSeq, pulses.keeps State.twin rfl]; exact seq,
      State.regsBut_of_regs ((pulses.regs rfl).trans (whole.keeps State.regs rfl)) _⟩

/-- The write of a tag outstanding at the partner, the only one, is the one that an answer names. -/
theorem State.find_sent {p : Posted} {g : Posted → Bool} (hp : s.mgt.posted = [p]) (hg : g p = true) : s.mgt.posted.find? g = some p := by
  rw [hp, List.find?_cons_of_pos hg]

theorem State.partnerWriteEnds_lone {p : Posted} (hp : s.mgt.posted = [p]) (cause : Nat) :
    s.partnerWriteEnds p cause = (if cause = 0 then s.setPosted [] else (s.setPosted []).writeFailed cause p.tag p.addr).goOn := by
  have erased : s.mgt.posted.erase p = [] := by rw [hp, List.erase_cons_head]
  simp only [State.partnerWriteEnds, erased]

theorem exec_bridgeRspReceive_ends {f : InFrame} {u : State} {v : Word} (hr : s.mcRuns = true) (ht : s.mgt.toPost = [])
    (hs : s.mgt.served = []) (h : s.takePair 10 = some (f, u)) (idle : s.mgt.run = none)
    (hp : s.mgt.posted = [⟨tag, a, m, d, true, w⟩]) (small : tag < 65536) (room : s.mgt.pwfl.length < 32) :
    (∃ t, exec (.bridgeRspReceive tag false 0 v) s = .next t ∧ t.mgt.posted = [] ∧ t.mgt.pwfl = s.mgt.pwfl ∧ s.MemSame t ∧ s.RegsBut t []) ∧
    (∀ cause, 0 < cause → cause < 8 → ∃ t, exec (.bridgeRspReceive tag false cause v) s = .next t ∧ t.mgt.posted = [] ∧
      t.mgt.pwfl = s.mgt.pwfl ++ [⟨cause, tag, a, s.nowNs⟩] ∧ s.MemSame t) := by
  let x := s.unstepped.inboxTaken f
  have taken : s.unstepped.takePair 10 = some (f, x) := State.takePair_of h rfl
  have wf (cause : Nat) (hc : cause < 8) : Instr.wf (.bridgeRspReceive tag false cause v) = true := by
    show (decide (tag < 65536) && decide (cause < 8)) = true
    rw [decide_eq_true small, decide_eq_true hc]
    rfl
  have found : x.mgt.posted.find? (fun p => p.sent && p.tag == tag) = some ⟨tag, a, m, d, true, w⟩ :=
    State.find_sent (s := x) hp (by simp only [beq_self_eq_true, Bool.and_self])
  have effect (cause : Nat) : s.unstepped.bridgeRsp tag false cause v = x.partnerWriteEnds ⟨tag, a, m, d, true, w⟩ cause := by
    simp only [State.bridgeRsp, taken, found, Bool.false_eq_true, if_false]
  refine ⟨?_, fun cause pos lt => ?_⟩
  · have hx : s.unstepped.bridgeRsp tag false 0 v = x.setPosted [] := by
      rw [effect, State.partnerWriteEnds_lone (s := x) hp, if_pos rfl]
      exact State.goOn_idle (s := x.setPosted []) rfl ht hs idle
    have only : s.unstepped.Only (x.setPosted []) [.mgt] := rfl
    obtain ⟨t, runs, pulses⟩ := exec_bridged (f := fun s => s.bridgeRsp tag false 0 v)
      (exec_bridgeRspReceive s tag false 0 v (wf 0 (by decide)) hr) hx (only.mono _ (by decide))
    have mgt := pulses.keeps State.mgt rfl
    exact ⟨t, runs, by rw [mgt]; rfl, by rw [mgt]; rfl, State.memSame_of_mem (pulses.keeps State.mem rfl), State.regsBut_of_regs (pulses.regs rfl) _⟩
  · have hx : s.unstepped.bridgeRsp tag false cause v = ((s.unstepped.noneLeft (s.mgt.inbox.erase f)).writeFailed cause tag a).goOn := by
      rw [effect, State.partnerWriteEnds_lone (s := x) hp, if_neg (Nat.pos_iff_ne_zero.mp pos)]
      rfl
    obtain ⟨t, runs, posted, log, mem, -⟩ := exec_bridged_fails ht hs (f := fun s => s.bridgeRsp tag false cause v)
      (exec_bridgeRspReceive s tag false cause v (wf cause lt) hr) idle room hx
    exact ⟨t, runs, posted, log, mem⟩

theorem exec_bridgeRspTimeout_fails (hr : s.mcRuns = true) (ht : s.mgt.toPost = []) (hs : s.mgt.served = []) (idle : s.mgt.run = none)
    (hp : s.mgt.posted = [⟨tag, a, m, d, true, w⟩]) (room : s.mgt.pwfl.length < 32) :
    ∃ t, exec .bridgeRspTimeout s = .next t ∧ t.mgt.posted = [] ∧ s.MemSame t ∧ t.mgt.pwfl = s.mgt.pwfl ++ [⟨1, tag, a, s.nowNs⟩] := by
  have found : s.unstepped.mgt.posted.find? (fun p => p.sent) = some ⟨tag, a, m, d, true, w⟩ := State.find_sent (s := s.unstepped) hp rfl
  have hx : s.unstepped.bridgeTimeout = ((s.unstepped.noneLeft s.mgt.inbox).writeFailed 1 tag a).goOn := by
    have timeout : s.unstepped.bridgeTimeout = s.unstepped.partnerWriteEnds ⟨tag, a, m, d, true, w⟩ 1 := by
      simp only [State.bridgeTimeout, found]
    rw [timeout, State.partnerWriteEnds_lone (s := s.unstepped) hp, if_neg (by decide)]
    rfl
  obtain ⟨t, runs, posted, log, mem, -⟩ := exec_bridged_fails ht hs (f := fun s => s.bridgeTimeout) (exec_bridgeRspTimeout s hr) idle room hx
  exact ⟨t, runs, posted, mem, log⟩

end

end

/-- Settles O58: each command of the bridge by the lemma about it, with one register or one word in hand. -/
theorem registerBridgeReadsAndWrites : Obligations.RegisterBridgeReadsAndWrites := by
  unfold Obligations.RegisterBridgeReadsAndWrites
  refine ⟨fun s c rest hr hq hc st idle ht hp => ⟨?_, ?_, ?_, ?_, ?_⟩, fun s hr ht hs => ⟨?_, ?_, ?_, ?_, ?_⟩⟩
  · exact fun i h => exec_readScratch_answers hr hq hc st idle hp i h
  · exact fun op words => exec_regRead_outside hr hq hc st idle hp op words
  · intro i m d hm h
    refine exec_writeScratch_stores hr hq ht hp hm i (h.imp_right ?_)
    rintro ⟨rfl, op, -, list⟩
    exact ⟨rfl, op, list⟩
  · refine fun m d off hm inside op list => ⟨fun own => ?_, fun foreign room => ?_⟩
    · exact exec_regWrite_waits hr hq ht hp hm op list (placeOf_window inside) own
    · obtain ⟨t, run, popped, mem, posted, log, -⟩ := exec_regWrite_fails hr hq ht hp room op list
        (State.postWrite_foreign (s := s.unstepped.issuing) hm (placeOf_window inside) foreign)
      exact ⟨t, run, popped, mem, posted, log⟩
  · intro m d hm room op list
    obtain ⟨t, run, popped, mem, -, log, fails, last⟩ := exec_regWrite_fails hr hq ht hp room op list
      (State.postWrite_outside (s := s.unstepped.issuing) hm (by decide))
    exact ⟨t, run, popped, mem, log, fails, last⟩
  · refine fun a off tag m d w idle hp ha => ⟨exec_postedWriteComplete_stores ht hs hr idle hp ha, fun bad room => ?_⟩
    obtain ⟨t, run, posted, log, mem, regs⟩ := exec_postedWriteComplete_fails ht hs hr idle hp ha bad room
    exact ⟨t, run, posted, mem, log, regs⟩
  · exact fun c rest a off hq hc st hp run ha =>
      ⟨exec_farReadComplete_answers ht hs hr hq hc st hp run ha, exec_farReadComplete_fails ht hs hr hq hc st hp run ha⟩
  · exact fun f u tag off m d h small aligned inside joined => exec_bridgeReqReceive_writes hr h small aligned inside joined hs
  · exact fun f u tag a m d w v h idle hp small room => exec_bridgeRspReceive_ends hr ht hs h idle hp small room
  · exact fun tag a m d w idle hp room => exec_bridgeRspTimeout_fails hr ht hs idle hp room

end Sys2Proof.Machine
end

section
/-!
SUPPORT. Isolation of the edge channels, the end of shadow operation, and the commands SWITCH and WAKE of the LIN channels (spec/08, R245,
R246, R249, R251, R252).
-/

namespace Sys2Proof.Machine

/-! ## Registers of the edge channels -/

theorem canEvt_not_journal (n : Nat) : K.CAN_EVT n ∉ journalKeys := by
  simp only [journalKeys, K.CAN_EVT, K.MGT_CFG, K.JRN_STATUS, K.JRN_HEAD_LO, K.JRN_HEAD_HI, K.JRN_CP_LO, K.JRN_CP_HI, List.mem_cons,
    List.not_mem_nil, or_false, not_or]
  omega

theorem canCtrl_not_event {n : Nat} (hn : n < 24) : K.CAN_CTRL n ∉ K.CAN_EVT n :: journalKeys := by
  simp only [journalKeys, K.CAN_CTRL, K.CAN_EVT, K.MGT_CFG, K.JRN_STATUS, K.JRN_HEAD_LO, K.JRN_HEAD_HI, K.JRN_CP_LO, K.JRN_CP_HI,
    List.mem_cons, List.not_mem_nil, or_false, not_or]
  omega

/-- A register of a LIN channel's page is none of the journal's. -/
theorem linPage_not_journal {n o : Nat} (hn : n < 8) (ho : o < 0x400) : 0x186000 + o + 0x400 * n ∉ journalKeys := by
  simp only [journalKeys, K.MGT_CFG, K.JRN_STATUS, K.JRN_HEAD_LO, K.JRN_HEAD_HI, K.JRN_CP_LO, K.JRN_CP_HI, List.mem_cons,
    List.not_mem_nil, or_false, not_or]
  omega

theorem linEvt_not_journal {n : Nat} (hn : n < 8) : K.LIN_EVT n ∉ journalKeys := linPage_not_journal (o := 0x24) hn (by decide)

theorem linStatus_not_event {n : Nat} (hn : n < 8) : K.LIN_STATUS n ∉ K.LIN_EVT n :: journalKeys := by
  refine List.not_mem_cons_of_ne_of_not_mem ?_ (linPage_not_journal (o := 0x20) hn (by decide))
  simp only [K.LIN_STATUS, K.LIN_EVT]
  omega

theorem linCtrl_not_event {n : Nat} (hn : n < 8) : K.LIN_CTRL n ∉ K.LIN_EVT n :: journalKeys := by
  refine List.not_mem_cons_of_ne_of_not_mem ?_ (linPage_not_journal (o := 0) hn (by decide))
  simp only [K.LIN_CTRL, K.LIN_EVT]
  omega

/-! ## The state and the events of a LIN channel -/

@[simp] theorem State.lin_setLin (s : State) (n : Nat) (l : LinSt) : (s.setLin n l).lin n = l :=
  mapGet_mapSet_same _ s.edge.lin n l

theorem State.lin_congr {s t : State} (h : t.edge = s.edge) (n : Nat) : t.lin n = s.lin n := by rw [State.lin, h, State.lin]

/-- Events of a LIN channel were raised: their flags, the journal and the counters of events may differ, and nothing else. -/
structure State.LinRaised (s t : State) (n : Nat) : Prop where
  only : s.Only t [.regs, .cnts, .mgt, .key]
  regs : s.RegsBut t (K.LIN_EVT n :: journalKeys)
  cnts : s.CntsBut t eventCounters

theorem State.linEvent_raised (s : State) (n bit : Nat) : s.LinRaised (s.linEvent n bit) n :=
  ⟨s.raiseFlag_only _ _, s.raiseFlag_regsBut _ _, s.raiseFlag_cntsBut _ _⟩

theorem State.linEvent_flag (s : State) {n bit : Nat} (hn : n < 8) (hb : bit < 32) : (s.linEvent n bit).flag ⟨K.LIN_EVT n, bit, bit⟩ = true :=
  s.raiseFlag_flag _ _ rfl hb (linEvt_not_journal hn)

theorem State.canEvent_flag (s : State) {n bit : Nat} (hb : bit < 32) : (s.canEvent n bit).flag ⟨K.CAN_EVT n, bit, bit⟩ = true :=
  s.raiseFlag_flag _ _ rfl hb (canEvt_not_journal n)

section
variable {s : State} {n : Nat}

theorem State.LinRaised.lin {t : State} (h : s.LinRaised t n) : t.lin n = s.lin n := State.lin_congr (h.only.keeps State.edge rfl) n

/-- A channel that is isolated takes no part in its bus. -/
theorem State.canLive_isolated (h : s.flag (F.CAN_STATUS_ISOLATED n) = true) : s.canLive n = false := by
  rw [State.canLive, h]
  exact Bool.and_false _

theorem State.linLive_isolated (h : s.flag (F.LIN_STATUS_ISOLATED n) = true) : s.linLive n = false := by
  rw [State.linLive, h]
  exact Bool.and_false _

/-! ## Isolation (R245, R246) -/

theorem State.canRequeue_cur (s : State) (n : Nat) : ((s.canRequeue n).can n).cur = none := by
  unfold State.canRequeue
  dsimp only
  split
  · next h => exact h
  · rw [State.can_setCan]

/-- A channel that is isolated is shown so, and no bus is shown idle. -/
theorem State.setIsolated_shows (u : State) (k : Nat) {f g : Fld} (hf : f = ⟨k, 7, 7⟩ ∧ g = ⟨k, 8, 8⟩ ∨ f = ⟨k, 1, 1⟩ ∧ g = ⟨k, 0, 0⟩) :
    (u.setFlds [(f, 1), (g, 0)]).flag f = true ∧ u.RegsBut (u.setFlds [(f, 1), (g, 0)]) [k] := by
  have whole (hi : f.hi = f.lo) (hb : f.hi < 32) (ha : g.Apart f) (hk : g.key = k) :
      (u.setFlds [(f, 1), (g, 0)]).flag f = true ∧ u.RegsBut (u.setFlds [(f, 1), (g, 0)]) [k] := by
    refine ⟨?_, u.regsBut_setFlds (List.forall_mem_cons.mpr ⟨ha.key.symm.trans hk, List.forall_mem_singleton.mpr hk⟩)⟩
    rw [State.flag_eq _ _ hi, u.fld_setFlds_head (hi ▸ Nat.le_refl _) hb (v := 1) (by rw [hi]; simp) (List.forall_mem_singleton.mpr ha)]
    rfl
  rcases hf with ⟨rfl, rfl⟩ | ⟨rfl, rfl⟩
  · exact whole rfl (by show 7 < 32; decide) (Fld.apart_mk k (by decide)) rfl
  · exact whole rfl (by show 1 < 32; decide) (Fld.apart_mk k (by decide)) rfl

theorem exec_canIsolate_isolates (hn : n < 24) (hp : s.powered = true) (live : s.canLive n = true) (receiving : Bool) :
    ∃ t, exec (.canIsolate n receiving) s = .next t ∧ s.Only t [.regs, .cnts, .mgt, .edge, .key] ∧
      t.flag (F.CAN_STATUS_ISOLATED n) = true ∧ t.canLive n = false ∧
      (t.can n).cur = none ∧ t.flag ⟨K.CAN_EVT n, 3, 3⟩ = true ∧ t.cnt (C.edge n 8) = s.cnt (C.edge n 8) + 1 ∧
      s.RegsBut t (K.CAN_STATUS n :: K.CAN_EVT n :: journalKeys) := by
  let a := (s.canRequeue n).setFlds [(F.CAN_STATUS_ISOLATED n, 1), (F.CAN_STATUS_BUS_IDLE n, 0)]
  let b := if receiving then a.inc (C.edge n 2) else a
  let x := (b.canEvent n 3).inc (C.edge n 8)
  have effect : s.canIsolate n receiving = x := by
    simp only [State.canIsolate, live, Bool.not_true, Bool.false_eq_true, if_false]
    rfl
  have queued := s.canRequeue_only n
  have aOnly : s.Only a [.regs, .cnts, .mgt, .edge, .key] := (queued.mono _ (by decide)).comp ((State.setFlds_only _ _).mono _ (by decide))
  obtain ⟨isolated, aRegs⟩ := State.setIsolated_shows (s.canRequeue n) (K.CAN_STATUS n) (f := F.CAN_STATUS_ISOLATED n)
    (g := F.CAN_STATUS_BUS_IDLE n) (Or.inl ⟨rfl, rfl⟩)
  have ab : a.Only b [.cnts] ∧ b.cnt (C.edge n 8) = a.cnt (C.edge n 8) := by
    cases receiving
    · exact ⟨a.only_refl _, rfl⟩
    · exact ⟨rfl, a.cnt_inc_other (by simp only [C.edge]; omega)⟩
  have raised := b.canEvent_raised n 3
  have bx : b.Only x [.regs, .cnts, .mgt, .key] := raised.only.comp (t := b.canEvent n 3) rfl
  have only : s.Only x [.regs, .cnts, .mgt, .edge, .key] := (aOnly.comp (ab.1.mono _ (by decide))).comp (bx.mono _ (by decide))
  have xRegs : a.RegsBut x (K.CAN_EVT n :: journalKeys) := raised.regs.from (ab.1.keeps State.regs rfl)
  have shown : x.flag (F.CAN_STATUS_ISOLATED n) = true := by
    rw [State.flag_eq _ _ rfl, show x.fld (F.CAN_STATUS_ISOLATED n) = b.fld _ from raised.fld rfl,
      State.fld_congr (ab.1.keeps State.regs rfl), ← State.flag_eq _ _ rfl]
    exact isolated
  have cur : (x.can n).cur = none := by
    rw [State.can_congr (t := x) (s := b) (bx.keeps State.edge rfl), State.can_congr (ab.1.keeps State.edge rfl),
      State.can_congr ((State.setFlds_only (s.canRequeue n) _).keeps State.edge rfl)]
    exact s.canRequeue_cur n
  have count : x.cnt (C.edge n 8) = s.cnt (C.edge n 8) + 1 := by
    rw [show x.cnt (C.edge n 8) = (b.canEvent n 3).cnt (C.edge n 8) + 1 from State.cnt_inc_same _ _,
      raised.cnts _ (edge_not_event (by decide)), ab.2, State.cnt_congr (State.setFlds_cnts _ _), State.cnt_congr (queued.keeps State.cnts rfl)]
  have run := exec_canIsolate s n receiving (decide_eq_true hn) hp
  rw [effect, only.confine _ (by decide)] at run
  refine ⟨x, run, only, shown, State.canLive_isolated shown, cur, b.canEvent_flag (by decide), count, ?_⟩
  exact ((aRegs.from (queued.keeps State.regs rfl)).mono (by simp)).comp (xRegs.mono (fun k hk => List.mem_cons_of_mem _ hk))

theorem exec_linIsolate_isolates (hn : n < 8) (hp : s.powered = true) (live : s.linLive n = true) :
    ∃ t, exec (.linIsolate n) s = .next t ∧ s.Only t [.regs, .cnts, .mgt, .edge, .key] ∧
      t.flag (F.LIN_STATUS_ISOLATED n) = true ∧ t.linLive n = false ∧
      (t.lin n).await = none ∧ t.flag ⟨K.LIN_EVT n, 4, 4⟩ = true ∧ t.cnt (C.edge (24 + n) 8) = s.cnt (C.edge (24 + n) 8) + 1 ∧
      s.RegsBut t (K.LIN_STATUS n :: K.LIN_EVT n :: journalKeys) := by
  let o := s.setLin n { s.lin n with await := none, waiting := none, busy := none }
  let a := o.setFlds [(F.LIN_STATUS_ISOLATED n, 1), (F.LIN_STATUS_BUS_IDLE n, 0)]
  let x := (a.linEvent n 4).inc (C.edge (24 + n) 8)
  have effect : s.linIsolate n = x := by
    simp only [State.linIsolate, live, Bool.not_true, Bool.false_eq_true, if_false]
    rfl
  have oa : o.Only a [.regs] := State.setFlds_only _ _
  have aOnly : s.Only a [.regs, .cnts, .mgt, .edge, .key] := State.Only.comp (t := o) rfl (oa.mono _ (by decide))
  obtain ⟨isolated, aRegs⟩ := State.setIsolated_shows o (K.LIN_STATUS n) (f := F.LIN_STATUS_ISOLATED n)
    (g := F.LIN_STATUS_BUS_IDLE n) (Or.inr ⟨rfl, rfl⟩)
  have raised := a.linEvent_raised n 4
  have ax : a.Only x [.regs, .cnts, .mgt, .key] := raised.only.comp (t := a.linEvent n 4) rfl
  have only : s.Only x [.regs, .cnts, .mgt, .edge, .key] := aOnly.comp (ax.mono _ (by decide))
  have xRegs : a.RegsBut x (K.LIN_EVT n :: journalKeys) := raised.regs
  have shown : x.flag (F.LIN_STATUS_ISOLATED n) = true := (xRegs.flag (linStatus_not_event hn)).trans isolated
  have await : (x.lin n).await = none := by
    rw [State.lin_congr (t := x) (s := a) (ax.keeps State.edge rfl), State.lin_congr (oa.keeps State.edge rfl)]
    exact congrArg LinSt.await (s.lin_setLin n _)
  have count : x.cnt (C.edge (24 + n) 8) = s.cnt (C.edge (24 + n) 8) + 1 := by
    rw [show x.cnt (C.edge (24 + n) 8) = (a.linEvent n 4).cnt (C.edge (24 + n) 8) + 1 from State.cnt_inc_same _ _,
      raised.cnts _ (edge_not_event (by decide)), State.cnt_congr (State.setFlds_cnts _ _)]
    rfl
  have run := exec_linIsolate s n (decide_eq_true hn) hp
  rw [effect, only.confine _ (by decide)] at run
  refine ⟨x, run, only, shown, State.linLive_isolated shown, await, a.linEvent_flag hn (by decide), count, ?_⟩
  exact ((aRegs.from rfl).mono (by simp)).comp (xRegs.mono (fun k hk => List.mem_cons_of_mem _ hk))

/-- A channel that integrates shows no count and no idle bus. -/
theorem State.canRestart_starts (u : State) (n : Nat) :
    (u.canRestart n).fld (F.CAN_STATUS_STATE n) = 3 ∧ (u.canRestart n).fld (F.CAN_STATUS_TEC n) = 0 ∧
      (u.canRestart n).fld (F.CAN_STATUS_REC n) = 0 ∧ u.RegsBut (u.canRestart n) [K.CAN_STATUS n] ∧
      (u.canRestart n).flag (F.CAN_STATUS_ISOLATED n) = u.flag (F.CAN_STATUS_ISOLATED n) := by
  have eq : u.canRestart n = u.setFlds [(F.CAN_STATUS_TEC n, 0), (F.CAN_STATUS_REC n, 0), (F.CAN_STATUS_WARN n, 0),
    (F.CAN_STATUS_STATE n, 3), (F.CAN_STATUS_BUS_IDLE n, 0)] := rfl
  rw [eq]
  refine ⟨?_, ?_, ?_, u.regsBut_setFlds ?_, ?_⟩
  · rw [State.setFlds, State.setFlds, State.setFlds]
    refine State.fld_setFlds_head _ (show 0 ≤ 1 by decide) (show 1 < 32 by decide) (show 3 < 4 by decide) ?_
    exact List.forall_mem_singleton.mpr (Fld.apart_mk _ (by decide))
  · refine State.fld_setFlds_head _ (show 15 ≤ 23 by decide) (show 23 < 32 by decide) (show 0 < 512 by decide) ?_
    simp only [List.forall_mem_cons, List.not_mem_nil, false_imp_iff, implies_true, and_true]
    exact ⟨Fld.apart_mk _ (by decide), Fld.apart_mk _ (by decide), Fld.apart_mk _ (by decide), Fld.apart_mk _ (by decide)⟩
  · rw [State.setFlds]
    refine State.fld_setFlds_head _ (show 24 ≤ 31 by decide) (show 31 < 32 by decide) (show 0 < 256 by decide) ?_
    simp only [List.forall_mem_cons, List.not_mem_nil, false_imp_iff, implies_true, and_true]
    exact ⟨Fld.apart_mk _ (by decide), Fld.apart_mk _ (by decide), Fld.apart_mk _ (by decide)⟩
  · simp only [List.forall_mem_cons, List.not_mem_nil, false_imp_iff, implies_true, and_true]
    exact ⟨rfl, rfl, rfl, rfl, rfl⟩
  · rw [State.flag_eq _ _ rfl, State.flag_eq _ _ rfl, State.fld_setFlds_apart]
    simp only [List.forall_mem_cons, List.not_mem_nil, false_imp_iff, implies_true, and_true]
    exact ⟨Fld.apart_mk _ (by decide), Fld.apart_mk _ (by decide), Fld.apart_mk _ (by decide), Fld.apart_mk _ (by decide), Fld.apart_mk _ (by decide)⟩

/-- A change at one channel's transceiver lets at most the Weaver's deadlines start. -/
theorem State.withStandby_only (s : State) (n : Nat) (f : State → State) : (f s).Only (s.withStandby n f) [.wvr] := by
  unfold State.withStandby
  dsimp only
  split
  · exact State.wvrResume_only _ _
  · exact State.only_refl _ _

theorem exec_canIsolationEnd_rejoins (hn : n < 24) (hp : s.powered = true) (isolated : s.flag (F.CAN_STATUS_ISOLATED n) = true) :
    ∃ t, exec (.canIsolationEnd n) s = .next t ∧ t.flag (F.CAN_STATUS_ISOLATED n) = false ∧ t.fld (F.CAN_STATUS_STATE n) = 3 ∧
      t.fld (F.CAN_STATUS_TEC n) = 0 ∧ t.fld (F.CAN_STATUS_REC n) = 0 ∧ s.RegsBut t [K.CAN_STATUS n] ∧ s.Only t [.regs, .wvr] := by
  let a := s.setFld (F.CAN_STATUS_ISOLATED n) 0
  have rejoin : s.canRejoin n = a.canRestart n := if_pos isolated
  have after := s.withStandby_only n (fun s => s.canRejoin n)
  rw [rejoin] at after
  obtain ⟨state, tec, rec, regs, kept⟩ := State.canRestart_starts a n
  have off : a.flag (F.CAN_STATUS_ISOLATED n) = false := s.flag_setFld_same (F.CAN_STATUS_ISOLATED n) 0 rfl (by show 7 < 32; decide)
  have restart : a.Only (a.canRestart n) [.regs] := State.setFlds_only _ _
  have only : s.Only (s.withStandby n (fun s => s.canRejoin n)) [.regs, .wvr] :=
    State.Only.comp (t := a) rfl ((restart.mono _ (by decide)).comp (after.mono _ (by decide)))
  have run := exec_canIsolationEnd s n (decide_eq_true hn) hp
  rw [only.confine _ (by decide)] at run
  have same := after.keeps State.regs rfl
  refine ⟨_, run, (State.flag_congr same _).trans (kept.trans off), (State.fld_congr same _).trans state, (State.fld_congr same _).trans tec,
    (State.fld_congr same _).trans rec, ?_, only⟩
  exact ((s.regsBut_setFld (F.CAN_STATUS_ISOLATED n) 0).comp regs).after same

theorem exec_linIsolationEnd_rejoins (hn : n < 8) (hp : s.powered = true) (isolated : s.flag (F.LIN_STATUS_ISOLATED n) = true) :
    ∃ t, exec (.linIsolationEnd n) s = .next t ∧ t.flag (F.LIN_STATUS_ISOLATED n) = false ∧ t.flag (F.LIN_STATUS_BUS_IDLE n) = true ∧
      s.RegsBut t [K.LIN_STATUS n] ∧ s.Only t [.regs] := by
  have rejoin : s.linRejoin n = s.setFlds [(F.LIN_STATUS_ISOLATED n, 0), (F.LIN_STATUS_BUS_IDLE n, 1)] := if_pos isolated
  have only : s.Only (s.linRejoin n) [.regs] := by
    rw [rejoin]
    exact s.setFlds_only _
  have run := exec_linIsolationEnd s n (decide_eq_true hn) hp
  rw [only.confine _ (by decide)] at run
  refine ⟨_, run, ?_, ?_, ?_, only⟩
  · have idle : (F.LIN_STATUS_BUS_IDLE n).Apart (F.LIN_STATUS_ISOLATED n) := Fld.apart_mk _ (by decide)
    have shown : (s.setFlds [(F.LIN_STATUS_ISOLATED n, 0), (F.LIN_STATUS_BUS_IDLE n, 1)]).fld (F.LIN_STATUS_ISOLATED n) = 0 :=
      s.fld_setFlds_head (show 1 ≤ 1 by decide) (show 1 < 32 by decide) (show 0 < 2 by decide) (List.forall_mem_singleton.mpr idle)
    rw [rejoin, State.flag_eq _ _ rfl, shown]
    rfl
  · rw [rejoin, State.setFlds, State.flag_eq _ _ rfl,
      State.fld_setFlds_head _ (show 0 ≤ 0 by decide) (show 0 < 32 by decide) (show 1 < 2 by decide) (List.forall_mem_nil _)]
    rfl
  · rw [rejoin]
    exact s.regsBut_setFlds (List.forall_mem_cons.mpr ⟨rfl, List.forall_mem_singleton.mpr rfl⟩)

/-! ## SWITCH and WAKE (R249) -/

theorem State.setLin_only (s : State) (n : Nat) (l : LinSt) : s.Only (s.setLin n l) [.edge] := rfl

/-- A table that is shown as the active one, from its first entry and without a switch that waits. -/
theorem State.setTable_shows (o : State) (n : Nat) {k : Nat} (hk : k < 4) {t : State}
    (ht : t = o.setFlds [(F.LIN_STATUS_TABLE n, k), (F.LIN_STATUS_ENTRY n, 0), (F.LIN_STATUS_SWITCH_PENDING n, 0)]) :
    t.fld (F.LIN_STATUS_TABLE n) = k ∧ t.flag (F.LIN_STATUS_SWITCH_PENDING n) = false ∧ o.RegsBut t [K.LIN_STATUS n] ∧ o.Only t [.regs] := by
  have entry : (F.LIN_STATUS_ENTRY n).Apart (F.LIN_STATUS_TABLE n) := Fld.apart_mk _ (by decide)
  have pending : (F.LIN_STATUS_SWITCH_PENDING n).Apart (F.LIN_STATUS_TABLE n) := Fld.apart_mk _ (by decide)
  subst ht
  refine ⟨o.fld_setFlds_head (show 4 ≤ 5 by decide) (show 5 < 32 by decide) hk
    (List.forall_mem_cons.mpr ⟨entry, List.forall_mem_singleton.mpr pending⟩), ?_,
    o.regsBut_setFlds (List.forall_mem_cons.mpr ⟨rfl, List.forall_mem_cons.mpr ⟨rfl, List.forall_mem_singleton.mpr rfl⟩⟩), o.setFlds_only _⟩
  rw [State.setFlds, State.setFlds, State.flag_eq _ _ rfl,
    State.fld_setFlds_head _ (show 2 ≤ 2 by decide) (show 2 < 32 by decide) (show 0 < 2 by decide) (List.forall_mem_nil _)]
  rfl

/-- A table that becomes the active one starts at its first entry. -/
theorem State.linSwitchTo_starts (u : State) (n k : Nat) (hk : k < 4) :
    (u.linSwitchTo n k).fld (F.LIN_STATUS_TABLE n) = k ∧ (u.linSwitchTo n k).flag (F.LIN_STATUS_SWITCH_PENDING n) = false ∧
      (u.linSwitchTo n k).lin n = { u.lin n with next := 0, slotAt := some (u.wholeMs 1000000) } ∧
      u.RegsBut (u.linSwitchTo n k) [K.LIN_STATUS n] ∧ u.Only (u.linSwitchTo n k) [.regs, .edge] := by
  unfold State.linSwitchTo
  generalize { u.lin n with next := 0, slotAt := some (u.wholeMs 1000000) } = l
  obtain ⟨table, pending, regs, only⟩ := State.setTable_shows (u.setLin n l) n hk rfl
  have first := u.setLin_only n l
  exact ⟨table, pending, (State.lin_congr (only.keeps State.edge rfl) n).trans (u.lin_setLin n l), regs.from (first.keeps State.regs rfl),
    (first.mono _ (by decide)).comp (only.mono _ (by decide))⟩

theorem State.linCtrl_table_lt (s : State) (n : Nat) : s.fld (F.LIN_CTRL_TABLE n) < 4 := s.fld_lt (F.LIN_CTRL_TABLE n)

/-- A command's flag of one bit is set, and nothing else. -/
theorem State.setFlag_sets (s : State) (f : Fld) (hf : f.hi = f.lo) (hb : f.hi < 32) :
    (s.setFld f 1).flag f = true ∧ s.RegsBut (s.setFld f 1) [f.key] ∧ s.Only (s.setFld f 1) [.regs] :=
  ⟨s.flag_setFld_same f 1 hf hb, s.regsBut_setFld f 1, rfl⟩

section
variable (hn : n < 8) (hr : s.busRuns (K.LIN_CTRL n) = true)
include hn hr

theorem exec_switch_busy (pending : s.flag (F.LIN_STATUS_SWITCH_PENDING n) = true) :
    ∃ t, exec (.switch n) s = .next t ∧ t.flag (F.LIN_CTRL_ERR_BUSY n) = true ∧ s.RegsBut t [K.LIN_CTRL n] ∧ s.Only t [.regs] := by
  have effect : s.linSwitch n = s.setFld (F.LIN_CTRL_ERR_BUSY n) 1 := if_pos pending
  obtain ⟨shown, regs, only⟩ := s.setFlag_sets (F.LIN_CTRL_ERR_BUSY n) rfl (by show 11 < 32; decide)
  have run := exec_switch s n (decide_eq_true hn) hr
  rw [effect, only.confine _ (by decide)] at run
  exact ⟨_, run, shown, regs, only⟩

theorem exec_switch_starts (pending : s.flag (F.LIN_STATUS_SWITCH_PENDING n) = false)
    (idle : s.linTableLen n (s.fld (F.LIN_STATUS_TABLE n)) = 0 ∨ s.fld (F.LIN_CTRL_MODE n) ≠ 1) :
    ∃ t, exec (.switch n) s = .next t ∧ t.fld (F.LIN_STATUS_TABLE n) = s.fld (F.LIN_CTRL_TABLE n) ∧ (t.lin n).next = 0 ∧
      (t.lin n).slotAt = some ((s.nowNs + 1999999) / 1000000 * 1000000) ∧ s.RegsBut t [K.LIN_STATUS n] ∧ s.Only t [.regs, .edge] := by
  have effect : s.linSwitch n = s.linSwitchTo n (s.fld (F.LIN_CTRL_TABLE n)) := by
    unfold State.linSwitch
    rw [pending, if_neg Bool.false_ne_true, if_pos idle]
    rfl
  obtain ⟨table, -, lin, regs, only⟩ := s.linSwitchTo_starts n _ (s.linCtrl_table_lt n)
  have run := exec_switch s n (decide_eq_true hn) hr
  rw [effect, only.confine _ (by decide)] at run
  refine ⟨_, run, table, by rw [lin], ?_, regs, only⟩
  rw [lin]
  exact congrArg (fun k => some (k / 1000000 * 1000000)) (Nat.add_assoc _ _ _)

theorem exec_switch_waits (pending : s.flag (F.LIN_STATUS_SWITCH_PENDING n) = false)
    (runs : s.linTableLen n (s.fld (F.LIN_STATUS_TABLE n)) ≠ 0) (commander : s.fld (F.LIN_CTRL_MODE n) = 1) :
    ∃ t, exec (.switch n) s = .next t ∧ t.flag (F.LIN_STATUS_SWITCH_PENDING n) = true ∧ s.RegsBut t [K.LIN_STATUS n] ∧ s.Only t [.regs] := by
  have effect : s.linSwitch n = s.setFld (F.LIN_STATUS_SWITCH_PENDING n) 1 := by
    unfold State.linSwitch
    rw [pending, if_neg Bool.false_ne_true, if_neg (fun h => h.elim runs (fun g => g commander))]
  obtain ⟨shown, regs, only⟩ := s.setFlag_sets (F.LIN_STATUS_SWITCH_PENDING n) rfl (by show 2 < 32; decide)
  have run := exec_switch s n (decide_eq_true hn) hr
  rw [effect, only.confine _ (by decide)] at run
  exact ⟨_, run, shown, regs, only⟩

theorem exec_wake_busy (pulse : (s.lin n).pulse = true) :
    ∃ t, exec (.wake n) s = .next t ∧ t.flag (F.LIN_CTRL_ERR_BUSY n) = true ∧ s.RegsBut t [K.LIN_CTRL n] ∧ s.Only t [.regs] := by
  have effect : s.linWake n = s.setFld (F.LIN_CTRL_ERR_BUSY n) 1 := if_pos pulse
  obtain ⟨shown, regs, only⟩ := s.setFlag_sets (F.LIN_CTRL_ERR_BUSY n) rfl (by show 11 < 32; decide)
  have run := exec_wake s n (decide_eq_true hn) hr
  rw [effect, only.confine _ (by decide)] at run
  exact ⟨_, run, shown, regs, only⟩

theorem exec_wake_pulses (pulse : (s.lin n).pulse = false) (live : s.linLive n = true) (shadow : s.flag (F.LIN_CTRL_SHADOW n) = false) :
    ∃ t, exec (.wake n) s = .next t ∧ (t.lin n).pulse = true ∧ t.out = .linWake n :: s.out ∧ s.Only t [.edge, .out] := by
  have effect : s.linWake n = (s.setLin n { s.lin n with pulse := true }).emit (.linWake n) := by
    unfold State.linWake State.linPulse
    rw [pulse, if_neg Bool.false_ne_true, live, shadow]
    rfl
  have run := exec_wake s n (decide_eq_true hn) hr
  have only : s.Only ((s.setLin n { s.lin n with pulse := true }).emit (.linWake n)) [.edge, .out] := rfl
  rw [effect, only.confine _ (by decide)] at run
  exact ⟨_, run, congrArg LinSt.pulse (s.lin_setLin n _), rfl, only⟩

end

theorem exec_linWakePulseEnd_ends (hn : n < 8) (hp : s.powered = true) :
    ∃ t, exec (.linWakePulseEnd n) s = .next t ∧ (t.lin n).pulse = false ∧ (t.lin n).await = (s.lin n).await ∧ s.Only t [.edge] :=
  ⟨_, exec_linWakePulseEnd s n (decide_eq_true hn) hp, congrArg LinSt.pulse (s.lin_setLin n _), (congrArg LinSt.await (s.lin_setLin n { s.lin n with pulse := false })).trans rfl,
    s.only_confine _ _⟩

/-! ## The end of shadow operation (R251, R252) -/

theorem exec_shadowClear_can (hn : n < 24) (hp : s.powered = true) (free : s.shadows = false) (shadow : s.flag (F.CAN_CTRL_SHADOW n) = true) :
    ∃ t, exec (.shadowClear n) s = .next t ∧ s.Only t [.regs, .cnts, .mgt, .edge, .key] ∧
      t.flag (F.CAN_CTRL_SHADOW n) = false ∧ t.fld (F.CAN_STATUS_TEC n) = 0 ∧ t.fld (F.CAN_STATUS_REC n) = 0 ∧
      t.flag ⟨K.CAN_EVT n, 7, 7⟩ = true ∧ s.RegsBut t (K.CAN_CTRL n :: K.CAN_STATUS n :: K.CAN_EVT n :: journalKeys) := by
  let o := s.setCan n { s.can n with holdOver := false, asked := false, recovering := false }
  let a := o.setFld (F.CAN_CTRL_SHADOW n) 0
  let b := a.canState n 0 0
  let c := b.setFld (F.CAN_STATUS_BUS_IDLE n) 1
  let x := c.canEvent n 7
  have effect : s.unshadow n = x := by
    unfold State.unshadow State.canUnshadow
    rw [if_pos hn, shadow, free]
    rfl
  have other : K.CAN_CTRL n ≠ K.CAN_STATUS n := by simp only [K.CAN_CTRL, K.CAN_STATUS]; omega
  have raised := c.canEvent_raised n 7
  obtain ⟨bOnly, bRegs⟩ := a.canState_zero_keeps n
  have bc : b.RegsBut c [K.CAN_STATUS n] := b.regsBut_setFld _ _
  have idle (f : Fld) (hf : (F.CAN_STATUS_BUS_IDLE n).Apart f) : c.fld f = b.fld f :=
    b.fld_setFld_bits _ _ _ hf.key hf.order hf.width hf.order' hf.bits
  have ac : a.RegsBut c [K.CAN_STATUS n] := bRegs.comp bc
  have off : c.flag (F.CAN_CTRL_SHADOW n) = false :=
    (ac.flag (f := F.CAN_CTRL_SHADOW n) (fun h => other (List.mem_singleton.mp h))).trans (o.flag_setFld_same (F.CAN_CTRL_SHADOW n) 0 rfl (by show 2 < 32; decide))
  have only : s.Only x [.regs, .cnts, .mgt, .edge, .key] :=
    State.Only.comp (t := a) rfl ((bOnly.mono _ (by decide)).comp (State.Only.comp (t := c) rfl (raised.only.mono _ (by decide))))
  have run := exec_shadowClear s n (decide_eq_true (by omega)) hp
  rw [effect, only.confine _ (by decide)] at run
  refine ⟨x, run, only, (raised.regs.flag (canCtrl_not_event hn)).trans off, ?_, ?_, c.canEvent_flag (by decide), ?_⟩
  · rw [show x.fld (F.CAN_STATUS_TEC n) = c.fld _ from raised.fld rfl, idle (F.CAN_STATUS_TEC n) (Fld.apart_mk _ (by decide)), a.canState_tec n 0 0]
    rfl
  · rw [show x.fld (F.CAN_STATUS_REC n) = c.fld _ from raised.fld rfl, idle (F.CAN_STATUS_REC n) (Fld.apart_mk _ (by decide)), a.canState_rec n 0 0]
    rfl
  · have sa : s.RegsBut a [K.CAN_CTRL n] := (o.regsBut_setFld _ _).from rfl
    exact ((sa.mono (by simp)).comp (ac.mono (by simp))).comp
      (raised.regs.mono (fun k hk => List.mem_cons_of_mem _ (List.mem_cons_of_mem _ hk)))

theorem exec_shadowClear_lin (hn : n < 8) (hp : s.powered = true) (free : s.shadows = false) (shadow : s.flag (F.LIN_CTRL_SHADOW n) = true) :
    ∃ t, exec (.shadowClear (24 + n)) s = .next t ∧ s.Only t [.regs, .cnts, .mgt, .key] ∧
      t.flag (F.LIN_CTRL_SHADOW n) = false ∧ t.flag ⟨K.LIN_EVT n, 7, 7⟩ = true ∧
      s.RegsBut t (K.LIN_CTRL n :: K.LIN_EVT n :: journalKeys) := by
  let a := s.setFld (F.LIN_CTRL_SHADOW n) 0
  have effect : s.unshadow (24 + n) = a.linEvent n 7 := by
    unfold State.unshadow State.linUnshadow
    rw [if_neg (by omega), Nat.add_sub_cancel_left, shadow, free]
    rfl
  have raised := a.linEvent_raised n 7
  have off : a.flag (F.LIN_CTRL_SHADOW n) = false := s.flag_setFld_same (F.LIN_CTRL_SHADOW n) 0 rfl (by show 4 < 32; decide)
  have only : s.Only (a.linEvent n 7) [.regs, .cnts, .mgt, .key] := State.Only.comp (t := a) rfl raised.only
  have run := exec_shadowClear s (24 + n) (decide_eq_true (by omega)) hp
  rw [effect, only.confine _ (by decide)] at run
  exact ⟨_, run, only, (raised.regs.flag (linCtrl_not_event hn)).trans off, a.linEvent_flag hn (by decide),
    ((s.regsBut_setFld (F.LIN_CTRL_SHADOW n) 0).mono (by simp [F.LIN_CTRL_SHADOW])).comp (raised.regs.mono (fun k hk => List.mem_cons_of_mem _ hk))⟩

end

/-- Settles O37: isolation and its end on both kinds of channel, the LIN commands, and the end of shadow operation. -/
theorem stuckChannelsAndShadows : Obligations.StuckChannelsAndShadows := by
  unfold Obligations.StuckChannelsAndShadows
  refine ⟨fun s hp => ⟨fun n receiving hn live => ?_, fun n hn isolated => ?_, fun n hn live => ?_, fun n hn isolated => ?_⟩,
    fun s n hn hp => ⟨fun hr => ⟨?_, ?_, ?_, ?_, ?_⟩, ?_, fun free => ⟨fun m hm shadow => ?_, fun shadow => ?_⟩⟩⟩
  · exact exec_canIsolate_isolates hn hp live receiving
  · exact exec_canIsolationEnd_rejoins hn hp isolated
  · exact exec_linIsolate_isolates hn hp live
  · exact exec_linIsolationEnd_rejoins hn hp isolated
  · exact exec_switch_busy hn hr
  · exact exec_switch_starts hn hr
  · exact exec_switch_waits hn hr
  · exact exec_wake_busy hn hr
  · exact exec_wake_pulses hn hr
  · exact exec_linWakePulseEnd_ends hn hp
  · exact exec_shadowClear_can hm hp free shadow
  · exact exec_shadowClear_lin hn hp free shadow

end Sys2Proof.Machine
end

section
/-!
SUPPORT. The LIN channels (spec/08, R238, R239, R247 to R249, R251): what a header, a response and a slot change of a channel and of its
bus, and how a response is judged.
-/

namespace Sys2Proof.Machine

/-! ## Sources of the wake logic -/

/-- Traffic while no commit is in hand is a soft source of its group and nothing else (spec/13, R357). -/
theorem State.softSource_quiet {s : State} (ring : s.fld F.NM_STATE_RING < 2) (groups code stamp : Nat) (isWake : Bool) :
    s.Only (s.softSource groups code stamp isWake) [.nm] := by
  let f (g : Nat) (s : State) : State :=
    if s.flag (F.NM_GROUP_STATUS_ISOLATED g) && s.fld (F.NM_GROUP_STATUS_LAST_SOURCE g) == code then s
    else { (s.dropCandidates (2 ^ g)) with nm := { (s.dropCandidates (2 ^ g)).nm with
      lastSoft := mapSet (fun _ => 0xFF) s.nm.lastSoft g code, softAt := mapSet (fun _ => 0) s.nm.softAt g s.aon } }
  have one (g : Nat) (s : State) : s.Only (f g s) [.nm] := by
    unfold f
    split
    · exact s.only_refl _
    · rfl
  have all := forEach_only f one (maskList 16 groups) s
  have ring' : (forEach (maskList 16 groups) f s).fld F.NM_STATE_RING < 2 := (State.fld_congr (all.keeps State.regs rfl) _).trans_lt ring
  have eq : s.softSource groups code stamp isWake =
      if isWake ∧ 2 ≤ (forEach (maskList 16 groups) f s).fld F.NM_STATE_RING ∧ (groups &&& (forEach (maskList 16 groups) f s).nm.committed) ≠ 0
      then (forEach (maskList 16 groups) f s).wake (groups &&& (forEach (maskList 16 groups) f s).nm.committed) code 0 stamp
      else forEach (maskList 16 groups) f s := rfl
  rw [eq, if_neg (fun h => absurd h.2.1 (Nat.not_le.mpr ring'))]
  exact all

theorem State.chanTraffic_quiet {s : State} (ring : s.fld F.NM_STATE_RING < 2) (n stamp : Nat) : s.Only (s.chanTraffic n stamp) [.nm] :=
  State.softSource_quiet ring _ _ _ _

/-! ## What the channel sends -/

/-- A channel sends: its registers but LIN_STATUS stay, of its state what waits, is awaited or is on the bus may differ. -/
structure State.LinSends (s t : State) (n : Nat) : Prop where
  only : s.Only t [.regs, .cnts, .edge, .wvr, .out]
  regs : s.RegsBut t [K.LIN_STATUS n]
  entry : t.fld (F.LIN_STATUS_ENTRY n) = s.fld (F.LIN_STATUS_ENTRY n)
  lin : ∃ d a w b st, t.lin n = { s.lin n with diag := d, await := a, waiting := w, busy := b, stamp := st }

section
variable {s t u : State} {n : Nat}

theorem State.LinSends.comp (h : s.LinSends t n) (h' : t.LinSends u n) : s.LinSends u n := by
  obtain ⟨d, a, w, b, st, lin⟩ := h.lin
  obtain ⟨d', a', w', b', st', lin'⟩ := h'.lin
  exact ⟨h.only.comp h'.only, h.regs.comp h'.regs, h'.entry.trans h.entry, d', a', w', b', st', by rw [lin', lin]⟩

/-- What touches neither the registers nor the edge channels. -/
theorem State.linSends_of (h : s.Only t [.cnts, .wvr, .out]) : s.LinSends t n :=
  ⟨h.mono _ (by decide), State.regsBut_of_regs (h.keeps State.regs rfl) _, State.fld_congr (h.keeps State.regs rfl) _, (s.lin n).diag, (s.lin n).await,
    (s.lin n).waiting, (s.lin n).busy, (s.lin n).stamp, State.lin_congr (h.keeps State.edge rfl) n⟩

theorem State.LinSends.refl (s : State) (n : Nat) : s.LinSends s n := State.linSends_of (s.only_refl _)

theorem State.linSends_setLin {l : LinSt} (hl : ∃ d a w b st, l = { s.lin n with diag := d, await := a, waiting := w, busy := b, stamp := st }) :
    s.LinSends (s.setLin n l) n := by
  obtain ⟨d, a, w, b, st, rfl⟩ := hl
  exact ⟨(s.setLin_only n _).mono _ (by decide), State.regsBut_of_regs ((s.setLin_only n _).keeps State.regs rfl) _,
    State.fld_congr ((s.setLin_only n _).keeps State.regs rfl) _, d, a, w, b, st, s.lin_setLin n _⟩

/-- A bus that is shown idle, or not. -/
theorem State.linSends_idle (s : State) (n v : Nat) : s.LinSends (s.setFld (F.LIN_STATUS_BUS_IDLE n) v) n := by
  have apart : (F.LIN_STATUS_BUS_IDLE n).Apart (F.LIN_STATUS_ENTRY n) := Fld.apart_mk _ (by decide)
  have only : s.Only (s.setFld (F.LIN_STATUS_BUS_IDLE n) v) [.regs] := rfl
  exact ⟨only.mono _ (by decide), s.regsBut_setFld _ v,
    s.fld_setFld_bits _ _ v apart.key apart.order apart.width apart.order' apart.bits, (s.lin n).diag, (s.lin n).await, (s.lin n).waiting,
    (s.lin n).busy, (s.lin n).stamp, rfl⟩

/-- The settings of a channel, which no sending changes. -/
theorem linSettings (n : Nat) (e : Nat) : K.LIN_FRAME_CFG n e ∉ [K.LIN_STATUS n] ∧ K.LIN_SCHED_ENTRY n e ∉ [K.LIN_STATUS n] ∧
    K.LIN_CTRL n ∉ [K.LIN_STATUS n] ∧ K.LIN_CFG n ∉ [K.LIN_STATUS n] := by
  simp only [List.mem_singleton, K.LIN_FRAME_CFG, K.LIN_SCHED_ENTRY, K.LIN_CTRL, K.LIN_CFG, K.LIN_STATUS]
  omega

section
variable (h : s.RegsBut t [K.LIN_STATUS n])
include h

theorem State.RegsBut.linDir (id : Nat) : t.linDir n id = s.linDir n id := by
  rw [State.linDir, h.fld (f := F.LIN_FRAME_CFG_DIR n (linFrameKey id)) (linSettings n _).1, State.linDir]

theorem State.RegsBut.linLen (id : Nat) : t.linLen n id = s.linLen n id := by
  rw [State.linLen, h.fld (f := F.LIN_FRAME_CFG_LEN_M1 n (linFrameKey id)) (linSettings n _).1, State.linLen]

theorem State.RegsBut.linChecksum (id : Nat) (l : List Byte) : t.linChecksum n id l = s.linChecksum n id l := by
  rw [State.linChecksum, h.flag (f := F.LIN_FRAME_CFG_ENHANCED n (linFrameKey id)) (linSettings n _).1, State.linChecksum]

theorem State.RegsBut.linShadow : t.flag (F.LIN_CTRL_SHADOW n) = s.flag (F.LIN_CTRL_SHADOW n) :=
  h.flag (f := F.LIN_CTRL_SHADOW n) (linSettings n 0).2.2.1

/-- The frame that a response to an identifier puts on the bus. -/
def State.linReply (s : State) (n id : Nat) (data : List Byte) : WireOut :=
  .linResponse n (padTo (s.linLen n id) 0 data ++ [s.linChecksum n id (padTo (s.linLen n id) 0 data)])

/-- The header of an identifier on the bus. -/
def State.linHead (s : State) (n id : Nat) : WireOut := .linHeader n (s.fld (F.LIN_CFG_BREAK_BITS n)) 0x55 (linPid id)

theorem State.RegsBut.linReply (id : Nat) (d : List Byte) : t.linReply n id d = s.linReply n id d := by
  rw [State.linReply, State.linReply, h.linLen, h.linChecksum]

theorem State.RegsBut.linHead (id : Nat) : t.linHead n id = s.linHead n id := by
  rw [State.linHead, h.fld (f := F.LIN_CFG_BREAK_BITS n) (linSettings n 0).2.2.2, State.linHead]

end

section
variable (h : s.LinSends t n)
include h

theorem State.LinSends.data (id : Nat) : t.linData n id = s.linData n id := by
  obtain ⟨d, a, w, b, st, lin⟩ := h.lin
  rw [State.linData, lin, State.linData]

theorem State.LinSends.slot : (t.lin n).next = (s.lin n).next ∧ (t.lin n).slotAt = (s.lin n).slotAt ∧ (t.lin n).fifo = (s.lin n).fifo ∧
    (t.lin n).goSleep = (s.lin n).goSleep ∧ (t.lin n).slept = (s.lin n).slept := by
  obtain ⟨d, a, w, b, st, lin⟩ := h.lin
  rw [lin]
  exact ⟨rfl, rfl, rfl, rfl, rfl⟩

end

/-- The channel holds the bus: what it awaits and what waits stay, and nothing is sent by it. -/
theorem State.linHold_holds (s : State) (n k : Nat) : s.LinSends (s.linHold n k) n ∧ s.Only (s.linHold n k) [.regs, .edge] ∧
    ((s.linHold n k).lin n).await = (s.lin n).await ∧ ((s.linHold n k).lin n).waiting = (s.lin n).waiting ∧
    ((s.linHold n k).lin n).stamp = (s.lin n).stamp := by
  obtain ⟨b, eq⟩ : ∃ b, s.linHold n k = (s.setLin n { s.lin n with busy := b }).setFld (F.LIN_STATUS_BUS_IDLE n) 0 := ⟨_, rfl⟩
  rw [eq]
  let l : LinSt := { s.lin n with busy := b }
  have first : s.LinSends (s.setLin n l) n := State.linSends_setLin ⟨_, _, _, _, _, rfl⟩
  have second := (s.setLin n l).linSends_idle n 0
  have same : ((s.setLin n l).setFld (F.LIN_STATUS_BUS_IDLE n) 0).lin n = l :=
    (State.lin_congr (s := s.setLin n l) rfl n).trans (s.lin_setLin n l)
  refine ⟨first.comp second, rfl, ?_, ?_, ?_⟩
  · exact (congrArg LinSt.await same).trans rfl
  · exact (congrArg LinSt.waiting same).trans rfl
  · exact (congrArg LinSt.stamp same).trans rfl

/-- What a response leaves (R239, R248). -/
structure State.LinReplied (s t : State) (n id : Nat) (data : List Byte) : Prop where
  sends : s.LinSends t n
  out : t.out = s.linReply n id data :: s.out
  wvr : t.wvr = { s.wvr with confirms := mapSet (fun _ => 0) s.wvr.confirms (24 + n) (s.lin n).stamp }
  cnts : s.CntsBut t [C.edge (24 + n) 2]
  count : t.cnt (C.edge (24 + n) 2) = s.cnt (C.edge (24 + n) 2) + 1
  await : (t.lin n).await = (s.lin n).await
  waiting : (t.lin n).waiting = (s.lin n).waiting

theorem State.linRespond_replies (s : State) (n id : Nat) (data : List Byte) : s.LinReplied (s.linRespond n id data) n id data := by
  let v := ((s.inc (C.edge (24 + n) 2)).confirm (24 + n) (s.lin n).stamp).emit (s.linReply n id data)
  have eq : s.linRespond n id data = v.linHold n (10 * ((padTo (s.linLen n id) 0 data).length + 1)) := rfl
  obtain ⟨held, only, await, waiting, -⟩ := v.linHold_holds n (10 * ((padTo (s.linLen n id) 0 data).length + 1))
  have first : s.LinSends v n := State.linSends_of rfl
  have cnts := only.keeps State.cnts rfl
  rw [eq]
  exact {
    sends := first.comp held
    out := only.keeps State.out rfl
    wvr := only.keeps State.wvr rfl
    cnts := (State.CntsBut.comp (t := v) (s.cntsBut_inc _) (State.cntsBut_of_cnts cnts _))
    count := (State.cnt_congr cnts _).trans (s.cnt_inc_same _)
    await := await
    waiting := waiting }

/-- What a header that leaves changes (R247). -/
structure State.LinHeaded (s t : State) (n id : Nat) : Prop where
  sends : s.LinSends t n
  out : t.out = s.linHead n id :: s.out
  wvr : t.wvr = s.wvr
  cnts : s.CntsBut t [C.edge (24 + n) 0]
  count : t.cnt (C.edge (24 + n) 0) = s.cnt (C.edge (24 + n) 0) + 1
  await : (t.lin n).await = (s.lin n).await
  waiting : (t.lin n).waiting = (s.lin n).waiting

theorem State.linBreak_heads (shadow : s.flag (F.LIN_CTRL_SHADOW n) = false) (id : Nat) : s.LinHeaded (s.linBreak n id) n id := by
  let l : LinSt := { s.lin n with stamp := s.edgeStamp 0 }
  let v := ((s.setLin n l).inc (C.edge (24 + n) 0)).emit (s.linHead n id)
  have eq : s.linBreak n id = v.linHold n (s.fld (F.LIN_CFG_BREAK_BITS n) + 21) := by
    unfold State.linBreak
    rw [shadow, if_neg Bool.false_ne_true]
    rfl
  obtain ⟨held, only, await, waiting, -⟩ := v.linHold_holds n (s.fld (F.LIN_CFG_BREAK_BITS n) + 21)
  have first : s.LinSends (s.setLin n l) n := State.linSends_setLin ⟨_, _, _, _, _, rfl⟩
  have second : (s.setLin n l).LinSends v n := State.linSends_of rfl
  have cnts := only.keeps State.cnts rfl
  have same : v.lin n = l := (State.lin_congr (s := s.setLin n l) rfl n).trans (s.lin_setLin n l)
  rw [same] at await waiting
  rw [eq]
  exact {
    sends := (first.comp second).comp held
    out := only.keeps State.out rfl
    wvr := only.keeps State.wvr rfl
    cnts := ((s.cntsBut_inc (C.edge (24 + n) 0)).comp (t := v) (State.cntsBut_of_cnts cnts _))
    count := (State.cnt_congr cnts _).trans (s.cnt_inc_same _)
    await := await
    waiting := waiting }


/-! ## What follows a header (R248) -/

theorem State.linAfter_silent {id : Nat} (dir : s.linDir n id = 0) : s.linAfter n id = s := by
  simp only [State.linAfter, dir]

theorem State.linAfter_unsupplied {id : Nat} (dir : s.linDir n id = 1) (data : s.linData n id = none) : s.linAfter n id = s := by
  simp only [State.linAfter, dir, data]

theorem State.linAfter_replies {id : Nat} {d : List Byte} (dir : s.linDir n id = 1) (data : s.linData n id = some d)
    (shadow : s.flag (F.LIN_CTRL_SHADOW n) = false) : s.linAfter n id = s.linRespond n id d := by
  simp only [State.linAfter, dir, data, shadow, Bool.false_eq_true, if_false]

theorem State.linAfter_awaits_eq {id : Nat} (dir : s.linDir n id = 2) :
    s.linAfter n id = (s.setLin n { s.lin n with await := some id }).setFld (F.LIN_STATUS_BUS_IDLE n) 0 := by
  simp only [State.linAfter, dir]

theorem State.linDir_cases (s : State) (n id : Nat) : s.linDir n id = 0 ∨ s.linDir n id = 1 ∨ s.linDir n id = 2 := by
  have := Nat.mod_lt (s.fld (F.LIN_FRAME_CFG_DIR n (linFrameKey id))) (by decide : 0 < 3)
  rw [State.linDir]
  omega

/-- A response of another node is awaited, and no bus is idle meanwhile. -/
theorem State.linAfter_awaits {id : Nat} (dir : s.linDir n id = 2) : s.LinSends (s.linAfter n id) n ∧
    s.Only (s.linAfter n id) [.regs, .edge] ∧ ((s.linAfter n id).lin n).await = some id := by
  let l : LinSt := { s.lin n with await := some id }
  have first : s.LinSends (s.setLin n l) n := State.linSends_setLin ⟨_, _, _, _, _, rfl⟩
  rw [State.linAfter_awaits_eq dir]
  exact ⟨first.comp (State.linSends_idle _ n 0), rfl,
    congrArg LinSt.await ((State.lin_congr (s := s.setLin n l) rfl n).trans (s.lin_setLin n l))⟩

theorem State.linAfter_sends (s : State) (n id : Nat) : s.LinSends (s.linAfter n id) n ∧ s.CntsBut (s.linAfter n id) [C.edge (24 + n) 2] := by
  have same : s.LinSends s n ∧ s.CntsBut s [C.edge (24 + n) 2] := ⟨State.LinSends.refl s n, State.CntsBut.refl s _⟩
  rcases s.linDir_cases n id with dir | dir | dir
  · rw [State.linAfter_silent dir]
    exact same
  · cases data : s.linData n id with
    | none => rw [State.linAfter_unsupplied dir data]; exact same
    | some d =>
      cases shadow : s.flag (F.LIN_CTRL_SHADOW n) with
      | true =>
        have quiet : s.linAfter n id = s := by simp only [State.linAfter, dir, data, shadow, if_true]
        rw [quiet]
        exact same
      | false =>
        rw [State.linAfter_replies dir data shadow]
        have replied := s.linRespond_replies n id d
        exact ⟨replied.sends, replied.cnts⟩
  · obtain ⟨sends, only, -⟩ := State.linAfter_awaits (s := s) dir
    exact ⟨sends, State.cntsBut_of_cnts (only.keeps State.cnts rfl) _⟩

/-! ## Headers of a commander (R247, R249, R251) -/

theorem State.linBreak_sends (s : State) (n id : Nat) : s.LinSends (s.linBreak n id) n := by
  cases shadow : s.flag (F.LIN_CTRL_SHADOW n) with
  | true =>
    have quiet : s.linBreak n id = s := if_pos shadow
    rw [quiet]
    exact State.LinSends.refl s n
  | false => exact (State.linBreak_heads shadow id).sends

theorem State.linHeader_sends (s : State) (n id : Nat) (d : Option (List Byte)) : s.LinSends (s.linHeader n id d) n := by
  have first := s.linBreak_sends n id
  cases d with
  | none => exact first.comp ((s.linBreak n id).linAfter_sends n id).1
  | some d =>
    unfold State.linHeader
    dsimp only
    split
    · exact first
    · exact first.comp (State.linRespond_replies _ n id d).sends

theorem State.linStart_sends (s : State) (n id : Nat) (d : Option (List Byte)) : s.LinSends (s.linStart n id d) n := by
  unfold State.linStart
  split
  · have first : s.LinSends (s.setLin n { s.lin n with waiting := some (id, d) }) n := State.linSends_setLin ⟨_, _, _, _, _, rfl⟩
    exact first.comp (State.linSends_of rfl)
  · exact s.linHeader_sends n id d

theorem State.linEntry_sends (s : State) (n k : Nat) : s.LinSends (s.linEntry n k) n := by
  unfold State.linEntry
  dsimp only
  split
  · split
    · exact State.LinSends.refl s n
    · next d _ =>
      have first : s.LinSends (s.setLin n { s.lin n with diag := none }) n := State.linSends_setLin ⟨_, _, _, _, _, rfl⟩
      exact first.comp (State.linStart_sends _ n 0x3C (some d))
  · exact s.linStart_sends n 0x3D none
  · exact s.linStart_sends n _ none

/-- What a slot's header leaves where the bus is free and the channel sends. -/
structure State.LinStarted (s t : State) (n id : Nat) : Prop where
  count : t.cnt (C.edge (24 + n) 0) = s.cnt (C.edge (24 + n) 0) + 1
  silent : s.linDir n id = 0 → t.out = s.linHead n id :: s.out ∧ (t.lin n).await = (s.lin n).await ∧ (t.lin n).waiting = (s.lin n).waiting
  awaits : s.linDir n id = 2 → (t.lin n).await = some id ∧ t.out = s.linHead n id :: s.out
  replies : s.linDir n id = 1 → ∀ d, s.linData n id = some d → t.out = s.linReply n id d :: s.linHead n id :: s.out

theorem State.linHeader_starts (shadow : s.flag (F.LIN_CTRL_SHADOW n) = false) (id : Nat) : s.LinStarted (s.linHeader n id none) n id := by
  have headed := State.linBreak_heads shadow id
  have eq : s.linHeader n id none = (s.linBreak n id).linAfter n id := rfl
  have shadow' := headed.sends.regs.linShadow.trans shadow
  obtain ⟨-, cnts⟩ := (s.linBreak n id).linAfter_sends n id
  rw [eq]
  refine ⟨(cnts _ (by simp [C.edge])).trans headed.count, fun dir => ?_, fun dir => ?_, fun dir d data => ?_⟩
  · rw [State.linAfter_silent ((headed.sends.regs.linDir id).trans dir)]
    exact ⟨headed.out, headed.await, headed.waiting⟩
  · obtain ⟨-, only, await⟩ := State.linAfter_awaits ((headed.sends.regs.linDir id).trans dir)
    exact ⟨await, (only.keeps State.out rfl).trans headed.out⟩
  · have replied := (s.linBreak n id).linRespond_replies n id d
    rw [State.linAfter_replies ((headed.sends.regs.linDir id).trans dir) ((headed.sends.data id).trans data) shadow', replied.out, headed.out,
      headed.sends.regs.linReply]

/-! ## Slots (R249) -/

/-- The state in which an entry has taken its slot. -/
theorem State.linTake_takes (s : State) (n t k len : Nat) :
    s.Only (s.linTake n t k len) [.regs, .edge] ∧ s.RegsBut (s.linTake n t k len) [K.LIN_STATUS n] ∧
      (s.linTake n t k len).fld (F.LIN_STATUS_ENTRY n) = k % 64 ∧
      (s.linTake n t k len).lin n = { s.lin n with
        next := k + 1
        slotAt := (s.lin n).slotAt.map (fun a => a + 100000 * s.fld (F.LIN_SCHED_ENTRY_DELAY n (32 * t + (k + 1) % len))) } := by
  unfold State.linTake
  dsimp only
  generalize (s.lin n).slotAt.map (fun a => a + 100000 * s.fld (F.LIN_SCHED_ENTRY_DELAY n (32 * t + (k + 1) % len))) = a
  let o := s.setLin n { s.lin n with next := k + 1, slotAt := a }
  have entry := o.fld_setFld_same (F.LIN_STATUS_ENTRY n) k (show 6 ≤ 11 by decide) (show 11 < 32 by decide)
  exact ⟨rfl, (o.regsBut_setFld (F.LIN_STATUS_ENTRY n) k).from rfl, entry, (State.lin_congr (s := o) rfl n).trans (s.lin_setLin n _)⟩

section
variable (live : s.linLive n = true) (mode : s.fld (F.LIN_CTRL_MODE n) = 1)
include live mode

/-- A live commander's slot, by what takes it. -/
theorem State.linSlot_live : s.linSlot n =
    if !s.slotDue n then s
    else if (s.lin n).goSleep then s.linGoSleep n
    else if s.groupQuiet (s.chanGroup (24 + n)) then s
    else if s.flag (F.LIN_STATUS_SWITCH_PENDING n) && decide (s.linTableLen n (s.fld (F.LIN_STATUS_TABLE n)) ≤ (s.lin n).next) then s.linSwitchNow n
    else if s.linTableLen n (s.fld (F.LIN_STATUS_TABLE n)) = 0 then s
    else (s.linTake n (s.fld (F.LIN_STATUS_TABLE n)) (if s.linTableLen n (s.fld (F.LIN_STATUS_TABLE n)) ≤ (s.lin n).next then 0 else (s.lin n).next)
      (s.linTableLen n (s.fld (F.LIN_STATUS_TABLE n)))).linEntry n (32 * s.fld (F.LIN_STATUS_TABLE n) +
        if s.linTableLen n (s.fld (F.LIN_STATUS_TABLE n)) ≤ (s.lin n).next then 0 else (s.lin n).next) := by
  have on := live
  simp only [State.linLive, Bool.and_eq_true, Bool.not_eq_true'] at on
  obtain ⟨⟨⟨edge, -⟩, held⟩, -⟩ := on
  unfold State.linSlot
  rw [edge, held, mode]
  simp only [live, Bool.not_true, bne_self_eq_false, Bool.or_false, Bool.false_or, Bool.and_true, if_true]

theorem exec_linSlot_takes (hn : n < 8) (hp : s.powered = true) (due : s.slotDue n = true) (awake : (s.lin n).goSleep = false)
    (quiet : s.groupQuiet (s.chanGroup (24 + n)) = false) (pending : s.flag (F.LIN_STATUS_SWITCH_PENDING n) = false)
    (some_ : s.linTableLen n (s.fld (F.LIN_STATUS_TABLE n)) ≠ 0) {k : Nat}
    (hk : k = (if s.linTableLen n (s.fld (F.LIN_STATUS_TABLE n)) ≤ (s.lin n).next then 0 else (s.lin n).next)) :
    exec (.linSlot n) s = .next ((s.linTake n (s.fld (F.LIN_STATUS_TABLE n)) k (s.linTableLen n (s.fld (F.LIN_STATUS_TABLE n)))).linEntry n
      (32 * s.fld (F.LIN_STATUS_TABLE n) + k)) := by
  have effect := State.linSlot_live live mode
  rw [due, awake, quiet, pending, ← hk] at effect
  simp only [Bool.not_true, Bool.false_eq_true, if_false, Bool.false_and, some_] at effect
  obtain ⟨taken, -⟩ := s.linTake_takes n (s.fld (F.LIN_STATUS_TABLE n)) k (s.linTableLen n (s.fld (F.LIN_STATUS_TABLE n)))
  generalize s.linTake n (s.fld (F.LIN_STATUS_TABLE n)) k (s.linTableLen n (s.fld (F.LIN_STATUS_TABLE n))) = u at *
  have only := (taken.mono [.regs, .cnts, .edge, .wvr, .out] (by decide)).comp (u.linEntry_sends n (32 * s.fld (F.LIN_STATUS_TABLE n) + k)).only
  rw [exec_linSlot s n (decide_eq_true hn) hp, effect, only.confine _ (by decide)]

end

/-- A slot whose entry names an identifier, by what is on the bus. -/
theorem State.linEntry_named {e id : Nat} (h : (s.fld (F.LIN_SCHED_ENTRY_TYPE n e) < 2 ∧ id = s.fld (F.LIN_SCHED_ENTRY_ID n e)) ∨
    (s.fld (F.LIN_SCHED_ENTRY_TYPE n e) = 3 ∧ id = 0x3D)) : s.linEntry n e = s.linStart n id none := by
  unfold State.linEntry
  rcases h with ⟨small, rfl⟩ | ⟨type, rfl⟩
  · obtain type | type : s.fld (F.LIN_SCHED_ENTRY_TYPE n e) = 0 ∨ s.fld (F.LIN_SCHED_ENTRY_TYPE n e) = 1 := by omega
    · rw [type]
      rfl
    · rw [type]
      rfl
  · rw [type]
    rfl

theorem State.linEntry_noRequest {e : Nat} (type : s.fld (F.LIN_SCHED_ENTRY_TYPE n e) = 2) (diag : (s.lin n).diag = none) :
    s.linEntry n e = s := by
  unfold State.linEntry
  rw [type]
  simp only [diag]

theorem State.linStart_waits {id : Nat} {d : Option (List Byte)} (busy : s.linBusy n = true) :
    s.linStart n id d = (s.setLin n { s.lin n with waiting := some (id, d) }).inc (C.edge (24 + n) 7) := if_pos busy

theorem State.linStart_free {id : Nat} {d : Option (List Byte)} (busy : s.linBusy n = false) : s.linStart n id d = s.linHeader n id d :=
  if_neg (by rw [busy]; decide)

/-! ## A slot of the schedule, as its rule states it -/

/-- A header or its wait, on the bus of the state `s` that the slot began with. -/
structure State.SlotServed (s t : State) (n id : Nat) : Prop where
  waits : s.linBusy n = true → t.out = s.out ∧ t.wvr = s.wvr ∧ (t.lin n).waiting = some (id, none) ∧
    t.cnt (C.edge (24 + n) 7) = s.cnt (C.edge (24 + n) 7) + 1
  starts : s.linBusy n = false → s.LinStarted t n id

theorem State.linStart_serves (shadow : s.flag (F.LIN_CTRL_SHADOW n) = false) (id : Nat) : s.SlotServed (s.linStart n id none) n id := by
  refine ⟨fun busy => ?_, fun busy => ?_⟩
  · rw [State.linStart_waits busy]
    refine ⟨rfl, rfl, ?_, s.cnt_inc_same _⟩
    let l : LinSt := { s.lin n with waiting := some (id, none) }
    exact (congrArg LinSt.waiting (s.lin_setLin n l)).trans rfl
  · rw [State.linStart_free busy]
    exact State.linHeader_starts shadow id

/-- A slot that is served reads the same from a state that differs in what the slot itself has set. -/
theorem State.SlotServed.before {id : Nat} (h : u.SlotServed t n id) (only : s.Only u [.regs, .edge]) (regs : s.RegsBut u [K.LIN_STATUS n])
    (await : (u.lin n).await = (s.lin n).await) (waiting : (u.lin n).waiting = (s.lin n).waiting) (busy : u.linBusy n = s.linBusy n)
    (data : u.linData n id = s.linData n id) : s.SlotServed t n id := by
  have out := only.keeps State.out rfl
  have cnts (a : Nat) : u.cnt a = s.cnt a := State.cnt_congr (only.keeps State.cnts rfl) a
  refine ⟨fun b => ?_, fun b => ?_⟩
  · obtain ⟨same, wvr, waits, count⟩ := h.waits (busy.trans b)
    exact ⟨same.trans out, wvr.trans (only.keeps State.wvr rfl), waits, by rw [count, cnts]⟩
  · have started := h.starts (busy.trans b)
    refine ⟨by rw [started.count, cnts], fun dir => ?_, fun dir => ?_, fun dir d supplied => ?_⟩
    · obtain ⟨head, a, w⟩ := started.silent ((regs.linDir id).trans dir)
      exact ⟨by rw [head, out, regs.linHead], a.trans await, w.trans waiting⟩
    · obtain ⟨a, head⟩ := started.awaits ((regs.linDir id).trans dir)
      exact ⟨a, by rw [head, out, regs.linHead]⟩
    · rw [started.replies ((regs.linDir id).trans dir) d (data.trans supplied), out, regs.linReply, regs.linHead]

theorem State.linBusy_of {l : LinSt} (hu : u.lin n = l) (await : l.await = (s.lin n).await) (busy : l.busy = (s.lin n).busy)
    (cycle : u.cycle = s.cycle) : u.linBusy n = s.linBusy n := by
  rw [State.linBusy, hu, await, busy, cycle, State.linBusy]

/-- A slot of a schedule: where it stands in its table, and what it puts on the bus. -/
theorem exec_linSlot_serves (hn : n < 8) (hp : s.powered = true) (live : s.linLive n = true) (mode : s.fld (F.LIN_CTRL_MODE n) = 1)
    (due : s.slotDue n = true) (awake : (s.lin n).goSleep = false) (quiet : s.groupQuiet (s.chanGroup (24 + n)) = false)
    (pending : s.flag (F.LIN_STATUS_SWITCH_PENDING n) = false) (some_ : s.linTableLen n (s.fld (F.LIN_STATUS_TABLE n)) ≠ 0) {k : Nat}
    (hk : k = (if s.linTableLen n (s.fld (F.LIN_STATUS_TABLE n)) ≤ (s.lin n).next then 0 else (s.lin n).next)) :
    ∃ t, exec (.linSlot n) s = .next t ∧ s.Only t [.regs, .cnts, .edge, .wvr, .out] ∧ t.fld (F.LIN_STATUS_ENTRY n) = k % 64 ∧
      (t.lin n).next = k + 1 ∧
      (t.lin n).slotAt = (s.lin n).slotAt.map (fun a => a + 100000 * s.fld (F.LIN_SCHED_ENTRY_DELAY n
        (32 * s.fld (F.LIN_STATUS_TABLE n) + (k + 1) % s.linTableLen n (s.fld (F.LIN_STATUS_TABLE n))))) ∧
      (∀ id, s.flag (F.LIN_CTRL_SHADOW n) = false →
        ((s.fld (F.LIN_SCHED_ENTRY_TYPE n (32 * s.fld (F.LIN_STATUS_TABLE n) + k)) < 2 ∧
            id = s.fld (F.LIN_SCHED_ENTRY_ID n (32 * s.fld (F.LIN_STATUS_TABLE n) + k))) ∨
          (s.fld (F.LIN_SCHED_ENTRY_TYPE n (32 * s.fld (F.LIN_STATUS_TABLE n) + k)) = 3 ∧ id = 0x3D)) → s.SlotServed t n id) ∧
      (s.fld (F.LIN_SCHED_ENTRY_TYPE n (32 * s.fld (F.LIN_STATUS_TABLE n) + k)) = 2 → (s.lin n).diag = none → t.out = s.out ∧ t.cnts = s.cnts) := by
  obtain ⟨taken, regs, entry, lin⟩ := s.linTake_takes n (s.fld (F.LIN_STATUS_TABLE n)) k (s.linTableLen n (s.fld (F.LIN_STATUS_TABLE n)))
  have run := exec_linSlot_takes live mode hn hp due awake quiet pending some_ hk
  generalize (s.lin n).slotAt.map (fun a => a + 100000 * s.fld (F.LIN_SCHED_ENTRY_DELAY n
    (32 * s.fld (F.LIN_STATUS_TABLE n) + (k + 1) % s.linTableLen n (s.fld (F.LIN_STATUS_TABLE n))))) = at_ at *
  generalize 32 * s.fld (F.LIN_STATUS_TABLE n) + k = e at *
  generalize s.linTake n (s.fld (F.LIN_STATUS_TABLE n)) k (s.linTableLen n (s.fld (F.LIN_STATUS_TABLE n))) = u at *
  have sends := u.linEntry_sends n e
  obtain ⟨next, slotAt, -⟩ := sends.slot
  have type : u.fld (F.LIN_SCHED_ENTRY_TYPE n e) = s.fld (F.LIN_SCHED_ENTRY_TYPE n e) := regs.fld (f := F.LIN_SCHED_ENTRY_TYPE n e) (linSettings n e).2.1
  have ident : u.fld (F.LIN_SCHED_ENTRY_ID n e) = s.fld (F.LIN_SCHED_ENTRY_ID n e) := regs.fld (f := F.LIN_SCHED_ENTRY_ID n e) (linSettings n e).2.1
  refine ⟨_, run, (taken.mono _ (by decide)).comp sends.only, sends.entry.trans entry, by rw [next, lin], by rw [slotAt, lin],
    fun id shadow named => ?_, fun two none_ => ?_⟩
  · rw [State.linEntry_named (s := u) (by rw [type, ident]; exact named)]
    refine State.SlotServed.before (u.linStart_serves (regs.linShadow.trans shadow) id) taken regs (by rw [lin]) (by rw [lin])
      (State.linBusy_of lin rfl rfl (taken.keeps State.cycle rfl)) (by rw [State.linData, lin, State.linData])
  · have diag : (u.lin n).diag = none := by rw [lin]; exact none_
    rw [State.linEntry_noRequest (type.trans two) diag]
    exact ⟨taken.keeps State.out rfl, taken.keeps State.cnts rfl⟩

/-! ## Headers seen by a responder (R248) -/

/-- A responder has heard a header: nothing is awaited, and its stamp is that of the break. -/
def State.linHeard (s : State) (n ago : Nat) : State :=
  s.setLin n { s.lin n with await := none, waiting := none, stamp := s.edgeStamp ago }

theorem State.linHeard_lin (s : State) (n ago : Nat) :
    (s.linHeard n ago).lin n = { s.lin n with await := none, waiting := none, stamp := s.edgeStamp ago } := s.lin_setLin n _

theorem State.linHeard_sends (s : State) (n ago : Nat) : s.LinSends (s.linHeard n ago) n := State.linSends_setLin ⟨_, _, _, _, _, rfl⟩

theorem State.linHeard_only (s : State) (n ago : Nat) : s.Only (s.linHeard n ago) [.edge] := rfl

section
variable {id ago : Nat} (hn : n < 8) (hi : id < 64) (hp : s.powered = true)
include hn hi hp

theorem exec_linHeaderReceive_runs (good : Bool) : exec (.linHeaderReceive n id ⟨good, ago⟩) s =
    .next (s.confine [.regs, .cnts, .mgt, .edge, .wvr, .key, .out] (s.linHeaderIn n id good ago)) :=
  exec_linHeaderReceive s n id ⟨good, ago⟩ (by show (decide (n < 8) && decide (id < 64)) = true; rw [decide_eq_true hn, decide_eq_true hi]; rfl) hp

theorem exec_linHeaderReceive_unheard (h : s.linLive n = false ∨ s.fld (F.LIN_CTRL_MODE n) ≠ 2) (good : Bool) :
    exec (.linHeaderReceive n id ⟨good, ago⟩) s = .next s := by
  have deaf : (!s.linLive n || s.fld (F.LIN_CTRL_MODE n) != 2) = true := by
    rcases h with h | h
    · rw [h]; rfl
    · rw [bne_iff_ne.mpr h]; exact Bool.or_true _
  have effect : s.linHeaderIn n id good ago = s := if_pos deaf
  rw [exec_linHeaderReceive_runs hn hi hp, effect, s.confine_self]

variable (live : s.linLive n = true) (mode : s.fld (F.LIN_CTRL_MODE n) = 2)
include live mode

theorem exec_linHeaderReceive_bad : ∃ t, exec (.linHeaderReceive n id ⟨false, ago⟩) s = .next t ∧ s.Only t [.regs, .cnts, .mgt, .key] ∧
    t.cnt (C.edge (24 + n) 9) = s.cnt (C.edge (24 + n) 9) + 1 ∧ t.flag ⟨K.LIN_EVT n, 5, 5⟩ = true := by
  let u := s.inc (C.edge (24 + n) 9)
  have effect : s.linHeaderIn n id false ago = u.linEvent n 5 := by
    simp only [State.linHeaderIn, live, mode, Bool.not_true, bne_self_eq_false, Bool.or_self, Bool.false_eq_true, if_false, Bool.not_false,
      if_true]
    rfl
  have raised := u.linEvent_raised n 5
  have only : s.Only (u.linEvent n 5) [.regs, .cnts, .mgt, .key] := State.Only.comp (t := u) rfl raised.only
  have run := exec_linHeaderReceive_runs (ago := ago) hn hi hp false
  rw [effect, only.confine _ (by decide)] at run
  exact ⟨_, run, only, (raised.cnts _ (edge_not_event (by decide))).trans (s.cnt_inc_same _), u.linEvent_flag hn (by decide)⟩

theorem exec_linHeaderReceive_heard : exec (.linHeaderReceive n id ⟨true, ago⟩) s = .next ((s.linHeard n ago).linAfter n id) := by
  have effect : s.linHeaderIn n id true ago = (s.linHeard n ago).linAfter n id := by
    simp only [State.linHeaderIn, live, mode, Bool.not_true, bne_self_eq_false, Bool.or_self, Bool.false_eq_true, if_false]
    rfl
  have only := ((s.linHeard_sends n ago).comp ((s.linHeard n ago).linAfter_sends n id).1).only
  rw [exec_linHeaderReceive_runs hn hi hp, effect, only.confine _ (by decide)]

/-- A responder that does not answer hears the header and stays silent. -/
theorem exec_linHeaderReceive_silent (dir : s.linDir n id = 0 ∨ s.linDir n id = 1 ∧ s.linData n id = none) :
    ∃ t, exec (.linHeaderReceive n id ⟨true, ago⟩) s = .next t ∧ (t.lin n).await = none ∧ t.out = s.out ∧ t.cnts = s.cnts ∧ s.Only t [.edge] := by
  have run := exec_linHeaderReceive_heard (ago := ago) hn hi hp live mode
  have heard := s.linHeard_sends n ago
  have quiet : (s.linHeard n ago).linAfter n id = s.linHeard n ago := by
    rcases dir with dir | ⟨dir, data⟩
    · exact State.linAfter_silent ((heard.regs.linDir id).trans dir)
    · exact State.linAfter_unsupplied ((heard.regs.linDir id).trans dir) ((heard.data id).trans data)
  rw [quiet] at run
  exact ⟨_, run, by rw [s.linHeard_lin], rfl, rfl, s.linHeard_only n ago⟩

theorem exec_linHeaderReceive_awaits (dir : s.linDir n id = 2) :
    ∃ t, exec (.linHeaderReceive n id ⟨true, ago⟩) s = .next t ∧ s.Only t [.regs, .edge] ∧ (t.lin n).await = some id ∧
      s.RegsBut t [K.LIN_STATUS n] := by
  have run := exec_linHeaderReceive_heard (id := id) (ago := ago) hn hi hp live mode
  have heard := s.linHeard_sends n ago
  obtain ⟨sends, only, await⟩ := State.linAfter_awaits ((heard.regs.linDir id).trans dir)
  exact ⟨_, run, ((s.linHeard_only n ago).mono _ (by decide)).comp only, await, heard.regs.comp sends.regs⟩

theorem exec_linHeaderReceive_replies {d : List Byte} (dir : s.linDir n id = 1) (data : s.linData n id = some d)
    (shadow : s.flag (F.LIN_CTRL_SHADOW n) = false) :
    ∃ t, exec (.linHeaderReceive n id ⟨true, ago⟩) s = .next t ∧ s.Only t [.regs, .cnts, .edge, .wvr, .out] ∧
      t.cnt (C.edge (24 + n) 2) = s.cnt (C.edge (24 + n) 2) + 1 ∧
      t.wvr = { s.wvr with confirms := mapSet (fun _ => 0) s.wvr.confirms (24 + n) (s.edgeStamp ago) } ∧ t.out = s.linReply n id d :: s.out := by
  have run := exec_linHeaderReceive_heard (id := id) (ago := ago) hn hi hp live mode
  have heard := s.linHeard_sends n ago
  have lin := s.linHeard_lin n ago
  have only := s.linHeard_only n ago
  have cnts := only.keeps State.cnts rfl
  have wvr := only.keeps State.wvr rfl
  have out := only.keeps State.out rfl
  rw [State.linAfter_replies ((heard.regs.linDir id).trans dir) ((heard.data id).trans data) (heard.regs.linShadow.trans shadow)] at run
  generalize s.linHeard n ago = h at *
  have replied := h.linRespond_replies n id d
  refine ⟨_, run, heard.only.comp replied.sends.only, by rw [replied.count, State.cnt_congr cnts], ?_, ?_⟩
  · rw [replied.wvr, wvr, lin]
  · rw [replied.out, out, heard.regs.linReply]

end

/-! ## Responses (R240, R248) -/

/-- The bus is free, and nothing is awaited or waits. -/
def State.linFreed (s : State) (n : Nat) : State :=
  (s.setLin n { s.lin n with await := none, waiting := none, busy := none }).setFld (F.LIN_STATUS_BUS_IDLE n) 1

theorem State.linFreed_lin (s : State) (n : Nat) : (s.linFreed n).lin n = { s.lin n with await := none, waiting := none, busy := none } :=
  s.lin_setLin n _

theorem State.linFreed_only (s : State) (n : Nat) : s.Only (s.linFreed n) [.regs, .edge] := rfl

theorem State.linFreed_sends (s : State) (n : Nat) : s.LinSends (s.linFreed n) n := by
  have first : s.LinSends (s.setLin n { s.lin n with await := none, waiting := none, busy := none }) n := State.linSends_setLin ⟨_, _, _, _, _, rfl⟩
  exact first.comp (State.linSends_idle _ n 1)

theorem State.linFree_none (waiting : (s.lin n).waiting = none) : s.linFree n = s.linFreed n := by
  unfold State.linFree
  simp only [waiting]
  rfl

theorem State.linFree_some {id : Nat} {d : Option (List Byte)} (waiting : (s.lin n).waiting = some (id, d)) :
    s.linFree n = (s.linFreed n).linHeader n id d := by
  unfold State.linFree
  simp only [waiting]
  rfl

/-- A response that failed is counted by its cause, and its event is raised. -/
def State.linFaulted (s : State) (n cause bit : Nat) : State := (s.inc (C.edge (24 + n) cause)).linEvent n bit

theorem State.linFaulted_counts (s : State) (hn : n < 8) (cause : Nat) {bit : Nat} (hb : bit < 32) (hc : cause < 32) :
    s.Only (s.linFaulted n cause bit) [.regs, .cnts, .mgt, .key] ∧
      (s.linFaulted n cause bit).cnt (C.edge (24 + n) cause) = s.cnt (C.edge (24 + n) cause) + 1 ∧
      (∀ k, k < 32 → k ≠ cause → (s.linFaulted n cause bit).cnt (C.edge (24 + n) k) = s.cnt (C.edge (24 + n) k)) ∧
      (s.linFaulted n cause bit).flag ⟨K.LIN_EVT n, bit, bit⟩ = true ∧ (s.linFaulted n cause bit).lin n = s.lin n := by
  let u := s.inc (C.edge (24 + n) cause)
  have raised := u.linEvent_raised n bit
  refine ⟨State.Only.comp (t := u) rfl raised.only, (raised.cnts _ (edge_not_event hc)).trans (s.cnt_inc_same _), fun k hk other => ?_,
    u.linEvent_flag hn hb, raised.lin.trans (State.lin_congr rfl n)⟩
  exact (raised.cnts _ (edge_not_event hk)).trans (s.cnt_inc_other (by simp only [C.edge]; omega))

/-- A good response is counted, becomes a source of the Lee routes, and enters the FIFO of a unit that runs. -/
def State.linDelivered (s : State) (n i ago : Nat) (d : List Byte) : State :=
  let u := s.inc (C.edge (24 + n) 1)
  let v := u.leeSource (24 + n) 0 i (u.edgeStamp ago) d
  if v.running then v.linFifo n (.pdu 0 (24 + n) 0 0 i d (u.edgeStamp ago) .none) (s.linLen n i) else v

/-- A source of the Lee routes is remembered by the Lee path alone. -/
theorem State.leeSource_form (s : State) (channel fmt id stamp : Nat) (data : List Byte) :
    ∃ x, s.leeSource channel fmt id stamp data = { s with saf := { s.saf with srcs := x } } := by
  unfold State.leeSource
  split
  · exact ⟨_, rfl⟩
  · exact ⟨s.saf.srcs, rfl⟩

theorem State.linFifo_takes (s : State) (n : Nat) (u : WUnit) (len : Nat) :
    s.Only (s.linFifo n u len) [.cnts, .edge] ∧ s.CntsBut (s.linFifo n u len) [C.edge (24 + n) 10] ∧
      ((s.linFifo n u len).lin n).await = (s.lin n).await ∧
      (fifoFits (s.lin n).fifo len = true → ((s.linFifo n u len).lin n).fifo = (s.lin n).fifo ++ [u]) := by
  unfold State.linFifo
  dsimp only
  split
  · have same := s.lin_setLin n { s.lin n with fifo := (s.lin n).fifo ++ [u] }
    exact ⟨rfl, State.CntsBut.refl s _, (congrArg LinSt.await same).trans rfl, fun _ => (congrArg LinSt.fifo same).trans rfl⟩
  · next full => exact ⟨rfl, s.cntsBut_inc _, rfl, fun fits => absurd fits full⟩

theorem State.linDelivered_delivers (s : State) (n i ago : Nat) (d : List Byte) :
    s.Only (s.linDelivered n i ago d) [.cnts, .edge, .saf] ∧ ((s.linDelivered n i ago d).lin n).await = (s.lin n).await ∧
      (s.linDelivered n i ago d).cnt (C.edge (24 + n) 1) = s.cnt (C.edge (24 + n) 1) + 1 ∧
      (s.running = true → fifoFits (s.lin n).fifo (s.linLen n i) = true →
        ((s.linDelivered n i ago d).lin n).fifo = (s.lin n).fifo ++ [.pdu 0 (24 + n) 0 0 i d (s.edgeStamp ago) .none]) := by
  let u := s.inc (C.edge (24 + n) 1)
  have stamp : u.edgeStamp ago = s.edgeStamp ago := rfl
  obtain ⟨x, form⟩ := u.leeSource_form (24 + n) 0 i (u.edgeStamp ago) d
  let v : State := { u with saf := { u.saf with srcs := x } }
  have eq : s.linDelivered n i ago d =
      if v.running then v.linFifo n (.pdu 0 (24 + n) 0 0 i d (s.edgeStamp ago) .none) (s.linLen n i) else v := by
    unfold State.linDelivered
    dsimp only
    rw [form]
    rfl
  have running : v.running = s.running := rfl
  have first : s.Only v [.cnts, .edge, .saf] := rfl
  have one : v.cnt (C.edge (24 + n) 1) = s.cnt (C.edge (24 + n) 1) + 1 := s.cnt_inc_same _
  have lin : v.lin n = s.lin n := rfl
  rw [eq, running, stamp.symm]
  generalize v = v at *
  obtain ⟨only, cnts, await, fifo⟩ := v.linFifo_takes n (.pdu 0 (24 + n) 0 0 i d (u.edgeStamp ago) .none) (s.linLen n i)
  split
  · refine ⟨first.comp (only.mono _ (by decide)), await.trans (by rw [lin]), (cnts _ (by simp [C.edge])).trans one, fun _ fits => ?_⟩
    rw [fifo (by rw [lin]; exact fits), lin]
  · next stopped => exact ⟨first, by rw [lin], one, fun runs => absurd runs stopped⟩

section
variable {i : Nat} (hn : n < 8) (hp : s.powered = true) (live : s.linLive n = true) (await : (s.lin n).await = some i)
include hn hp live await

omit hn hp in
theorem State.linTimeout_faults : s.linTimeout n = (s.linFree n).linFaulted n 3 0 := by
  simp only [State.linTimeout, await, live, Bool.not_true, Bool.false_eq_true, if_false]
  rfl

theorem exec_linResponseTimeout_counts (waiting : (s.lin n).waiting = none) :
    ∃ t, exec (.linResponseTimeout n) s = .next t ∧ s.Only t [.regs, .cnts, .mgt, .edge, .key] ∧
      (t.lin n).await = none ∧ t.cnt (C.edge (24 + n) 3) = s.cnt (C.edge (24 + n) 3) + 1 ∧ t.flag ⟨K.LIN_EVT n, 0, 0⟩ = true := by
  have freed := s.linFreed_only n
  have lin := s.linFreed_lin n
  have effect := State.linTimeout_faults live await
  rw [State.linFree_none waiting] at effect
  generalize s.linFreed n = u at *
  obtain ⟨only, count, -, flag, same⟩ := u.linFaulted_counts hn 3 (bit := 0) (by decide) (by decide)
  have whole : s.Only (u.linFaulted n 3 0) [.regs, .cnts, .mgt, .edge, .key] := (freed.mono _ (by decide)).comp (only.mono _ (by decide))
  have run := exec_linResponseTimeout s n (decide_eq_true hn) hp
  rw [effect, whole.confine _ (by decide)] at run
  exact ⟨_, run, whole, by rw [same, lin], count.trans (by rw [State.cnt_congr (freed.keeps State.cnts rfl)]), flag⟩

theorem exec_linResponseTimeout_frees {id : Nat} (waiting : (s.lin n).waiting = some (id, none)) (shadow : s.flag (F.LIN_CTRL_SHADOW n) = false)
    (dir : s.linDir n id = 0) :
    ∃ t, exec (.linResponseTimeout n) s = .next t ∧ (t.lin n).await = none ∧ (t.lin n).waiting = none ∧ t.out = s.linHead n id :: s.out ∧
      t.cnt (C.edge (24 + n) 0) = s.cnt (C.edge (24 + n) 0) + 1 ∧ t.cnt (C.edge (24 + n) 3) = s.cnt (C.edge (24 + n) 3) + 1 ∧
      t.flag ⟨K.LIN_EVT n, 0, 0⟩ = true := by
  have freed := s.linFreed_only n
  have lin := s.linFreed_lin n
  have sends := s.linFreed_sends n
  have effect := State.linTimeout_faults live await
  rw [State.linFree_some waiting] at effect
  generalize s.linFreed n = u at *
  have shadow' := sends.regs.linShadow.trans shadow
  have started := State.linHeader_starts shadow' id
  obtain ⟨out, a, w⟩ := started.silent ((sends.regs.linDir id).trans dir)
  have sent := u.linHeader_sends n id none
  have three : (u.linHeader n id none).cnt (C.edge (24 + n) 3) = u.cnt (C.edge (24 + n) 3) := by
    have headed := State.linBreak_heads shadow' id
    have after := ((u.linBreak n id).linAfter_sends n id).2
    exact (after _ (by simp [C.edge])).trans (headed.cnts _ (by simp [C.edge]))
  generalize u.linHeader n id none = v at *
  obtain ⟨only, count, others, flag, same⟩ := v.linFaulted_counts hn 3 (bit := 0) (by decide) (by decide)
  have whole : s.Only (v.linFaulted n 3 0) [.regs, .cnts, .mgt, .edge, .wvr, .key, .out] :=
    ((freed.mono _ (by decide)).comp (sent.only.mono _ (by decide))).comp (only.mono _ (by decide))
  have cnts (k : Nat) : u.cnt k = s.cnt k := State.cnt_congr (freed.keeps State.cnts rfl) k
  have run := exec_linResponseTimeout s n (decide_eq_true hn) hp
  rw [effect, whole.confine _ (by decide)] at run
  refine ⟨_, run, by rw [same, a, lin], by rw [same, w, lin], ?_, ?_, ?_, flag⟩
  · rw [only.keeps State.out rfl, out, freed.keeps State.out rfl, sends.regs.linHead]
  · rw [others 0 (by decide) (by decide), started.count, cnts]
  · rw [count, three, cnts]

variable {bytes : List Byte} {ago : Nat} (hb : bytes.length < 10) (waiting : (s.lin n).waiting = none)
include hb waiting

omit live await waiting in
/-- A response that is not delivered: counted by its cause, and no source of the wake logic. -/
theorem exec_linFrameReceive_counts {fin : LinEnd} {cause bit : Nat} (hbit : bit < 32) (hc : cause < 32) (one : cause ≠ 1)
    (effect : s.linResponseIn n bytes fin ago = (s.linFreed n).linFaulted n cause bit) :
    ∃ t, exec (.linFrameReceive n bytes fin ago) s = .next t ∧ (t.lin n).await = none ∧ (t.lin n).fifo = (s.lin n).fifo ∧
      t.cnt (C.edge (24 + n) cause) = s.cnt (C.edge (24 + n) cause) + 1 ∧ t.flag ⟨K.LIN_EVT n, bit, bit⟩ = true ∧
      s.Only t [.regs, .cnts, .mgt, .edge, .key] := by
  have freed := s.linFreed_only n
  have lin := s.linFreed_lin n
  generalize s.linFreed n = u at *
  obtain ⟨only, count, others, flag, same⟩ := u.linFaulted_counts hn cause hbit hc
  have whole : s.Only (u.linFaulted n cause bit) [.regs, .cnts, .mgt, .edge, .key] := (freed.mono _ (by decide)).comp (only.mono _ (by decide))
  have cnts (k : Nat) : u.cnt k = s.cnt k := State.cnt_congr (freed.keeps State.cnts rfl) k
  have still : (s.linResponseIn n bytes fin ago).cnt (C.edge (24 + n) 1) = s.cnt (C.edge (24 + n) 1) := by
    rw [effect, others 1 (by decide) (Ne.symm one), cnts]
  have quiet : s.linIn n bytes fin ago = u.linFaulted n cause bit := (if_pos (Or.inl still)).trans effect
  have run := exec_linFrameReceive s n bytes fin ago
    (by show (decide (n < 8) && decide (bytes.length < 10)) = true; rw [decide_eq_true hn, decide_eq_true hb]; rfl) hp
  rw [quiet, whole.confine _ (by decide)] at run
  exact ⟨_, run, by rw [same, lin], by rw [same, lin], by rw [count, cnts], flag, whole⟩

omit hn hp hb in
/-- How a response is judged (R248). -/
theorem State.linResponseIn_faults :
    s.linResponseIn n bytes .collision ago = (s.linFreed n).linFaulted n 6 3 ∧
    s.linResponseIn n bytes .framing ago = (s.linFreed n).linFaulted n 5 2 ∧
    s.linResponseIn n bytes .bit ago = (s.linFreed n).linFaulted n 5 2 ∧
    (bytes.length ≤ s.linLen n i → s.linResponseIn n bytes .whole ago = (s.linFreed n).linFaulted n 3 0) ∧
    (s.linLen n i < bytes.length → bytes.getD (s.linLen n i) 0 ≠ s.linChecksum n i (bytes.take (s.linLen n i)) →
      s.linResponseIn n bytes .whole ago = (s.linFreed n).linFaulted n 4 1) ∧
    (s.linLen n i < bytes.length → bytes.getD (s.linLen n i) 0 = s.linChecksum n i (bytes.take (s.linLen n i)) →
      s.linResponseIn n bytes .whole ago = (s.linFreed n).linDelivered n i ago (bytes.take (s.linLen n i))) := by
  have regs := (s.linFreed_sends n).regs
  refine ⟨?_, ?_, ?_, fun short => ?_, fun whole bad => ?_, fun whole good => ?_⟩
  · simp only [State.linResponseIn, await, live, Bool.not_true, Bool.false_eq_true, if_false, State.linFree_none waiting]
    rfl
  · simp only [State.linResponseIn, await, live, Bool.not_true, Bool.false_eq_true, if_false, State.linFree_none waiting]
    rfl
  · simp only [State.linResponseIn, await, live, Bool.not_true, Bool.false_eq_true, if_false, State.linFree_none waiting]
    rfl
  · simp only [State.linResponseIn, await, live, Bool.not_true, Bool.false_eq_true, if_false, State.linFree_none waiting, regs.linLen, short,
      if_true]
    rfl
  · simp only [State.linResponseIn, await, live, Bool.not_true, Bool.false_eq_true, if_false, State.linFree_none waiting, regs.linLen,
      regs.linChecksum, Nat.not_le.mpr whole, bad, ne_eq, not_false_eq_true, if_true]
    rfl
  · simp only [State.linResponseIn, await, live, Bool.not_true, Bool.false_eq_true, if_false, State.linFree_none waiting, regs.linLen,
      regs.linChecksum, Nat.not_le.mpr whole, good, ne_eq, not_true_eq_false]
    rw [State.linDelivered, regs.linLen]

omit live await waiting in
/-- A good response, delivered while no commit is in hand. -/
theorem exec_linFrameReceive_delivers (ring : s.fld F.NM_STATE_RING < 2) {d : List Byte}
    (effect : s.linResponseIn n bytes .whole ago = (s.linFreed n).linDelivered n i ago d) :
    ∃ t, exec (.linFrameReceive n bytes .whole ago) s = .next t ∧ s.Only t [.regs, .cnts, .mgt, .edge, .nm, .key, .saf] ∧
      (t.lin n).await = none ∧ t.cnt (C.edge (24 + n) 1) = s.cnt (C.edge (24 + n) 1) + 1 ∧
      (s.running = true → fifoFits (s.lin n).fifo (s.linLen n i) = true →
        (t.lin n).fifo = (s.lin n).fifo ++ [.pdu 0 (24 + n) 0 0 i d (s.edgeStamp ago) .none]) := by
  have freed := s.linFreed_only n
  have lin := s.linFreed_lin n
  have sends := s.linFreed_sends n
  have stamp : (s.linFreed n).edgeStamp ago = s.edgeStamp ago := rfl
  have runs : (s.linFreed n).running = s.running := by
    have other : K.BOOT_STATUS ∉ [K.LIN_STATUS n] := by
      simp only [List.mem_singleton, K.BOOT_STATUS, K.LIN_STATUS]
      omega
    rw [State.running, sends.regs.fld (f := F.BOOT_STATUS_STATE) other]
    rfl
  generalize s.linFreed n = u at *
  obtain ⟨only, a, count, fifo⟩ := u.linDelivered_delivers n i ago d
  have ring' : (u.linDelivered n i ago d).fld F.NM_STATE_RING < 2 := by
    have other : K.NM_STATE ∉ [K.LIN_STATUS n] := by
      simp only [List.mem_singleton, K.NM_STATE, K.LIN_STATUS]
      omega
    rw [State.fld_congr (only.keeps State.regs rfl), sends.regs.fld (f := F.NM_STATE_RING) other]
    exact ring
  have whole : s.Only (u.linDelivered n i ago d) [.regs, .cnts, .mgt, .edge, .nm, .key, .saf] :=
    (freed.mono _ (by decide)).comp (only.mono _ (by decide))
  have counted : (u.linDelivered n i ago d).cnt (C.edge (24 + n) 1) = s.cnt (C.edge (24 + n) 1) + 1 := by
    rw [count, State.cnt_congr (freed.keeps State.cnts rfl)]
  have traffic := State.chanTraffic_quiet ring' (24 + n) (s.edgeStamp ago)
  have run := exec_linFrameReceive s n bytes .whole ago
    (by show (decide (n < 8) && decide (bytes.length < 10)) = true; rw [decide_eq_true hn, decide_eq_true hb]; rfl) hp
  have ends : (u.linDelivered n i ago d).Only (s.linIn n bytes .whole ago) [.nm] := by
    have eq : s.linIn n bytes .whole ago =
        if (s.linResponseIn n bytes .whole ago).cnt (C.edge (24 + n) 1) = s.cnt (C.edge (24 + n) 1) ∨ !s.drives then s.linResponseIn n bytes .whole ago
        else (s.linResponseIn n bytes .whole ago).chanTraffic (24 + n) (s.edgeStamp ago) := rfl
    rw [eq, effect]
    split
    · exact State.only_refl _ _
    · exact traffic
  have all : s.Only (s.linIn n bytes .whole ago) [.regs, .cnts, .mgt, .edge, .nm, .key, .saf] := whole.comp (ends.mono _ (by decide))
  rw [all.confine _ (by decide)] at run
  have same := State.lin_congr (ends.keeps State.edge rfl) n
  refine ⟨_, run, all, by rw [same, a, lin], by rw [State.cnt_congr (ends.keeps State.cnts rfl), counted], fun running fits => ?_⟩
  have kept : (u.lin n).fifo = (s.lin n).fifo := by rw [lin]
  rw [same, fifo (runs.trans running) (by rw [kept, sends.regs.linLen]; exact fits), kept, stamp]

end

end
/-- Settles O38: a slot is the entry's turn and its header, a header is heard, and a response is judged by its length and checksum. -/
theorem linSlotsAndResponses : Obligations.LinSlotsAndResponses := by
  unfold Obligations.LinSlotsAndResponses
  refine ⟨fun s n k hn hp live mode due awake quiet pending some_ hk => ?_, fun s n id ago hn hi hp live mode => ⟨?_, fun dir => ?_, ?_, ?_⟩,
    fun s n i ago bytes hn hb hp live await waiting ring => ⟨?_, ?_⟩⟩
  · obtain ⟨t, run, only, entry, next, slotAt, served, idle⟩ := exec_linSlot_serves hn hp live mode due awake quiet pending some_ hk
    refine ⟨t, run, only, entry, next, slotAt, fun id e he shadow named => ?_, idle⟩
    subst he
    have slot := served id shadow named
    refine ⟨slot.waits, fun free => ?_⟩
    have started := slot.starts free
    exact ⟨started.count, fun dir => (started.silent dir).1, started.awaits, started.replies⟩
  · exact exec_linHeaderReceive_bad hn hi hp live mode
  · obtain ⟨t, run, await, -, -, only⟩ := exec_linHeaderReceive_silent (ago := ago) hn hi hp live mode (Or.inl dir)
    exact ⟨t, run, only, await⟩
  · exact exec_linHeaderReceive_awaits hn hi hp live mode
  · exact fun d dir data shadow => exec_linHeaderReceive_replies hn hi hp live mode dir data shadow
  · exact exec_linResponseTimeout_counts hn hp live await waiting
  · obtain ⟨-, -, -, short, bad, good⟩ := State.linResponseIn_faults (ago := ago) (bytes := bytes) live await waiting
    rcases Nat.lt_or_ge (s.linLen n i) bytes.length with long | few
    · by_cases sum : bytes.getD (s.linLen n i) 0 = s.linChecksum n i (bytes.take (s.linLen n i))
      · obtain ⟨t, run, only, a, count, fifo⟩ := exec_linFrameReceive_delivers hn hp hb ring (good long sum)
        exact ⟨t, run, only, a, fun few => absurd few (Nat.not_le.mpr long), fun _ other => absurd sum other, fun _ _ => ⟨count, fifo⟩⟩
      · obtain ⟨t, run, a, fifo, count, flag, only⟩ := exec_linFrameReceive_counts hn hp hb (by decide) (by decide) (by decide) (bad long sum)
        exact ⟨t, run, only.mono _ (by decide), a, fun few => absurd few (Nat.not_le.mpr long), fun _ _ => ⟨fifo, count, flag⟩,
          fun _ same => absurd same sum⟩
    · obtain ⟨t, run, a, fifo, count, flag, only⟩ := exec_linFrameReceive_counts hn hp hb (by decide) (by decide) (by decide) (short few)
      exact ⟨t, run, only.mono _ (by decide), a, fun _ => ⟨fifo, count, flag⟩, fun long => absurd long (Nat.not_lt.mpr few),
        fun long => absurd long (Nat.not_lt.mpr few)⟩

end Sys2Proof.Machine
end

section
/-!
SUPPORT. The COMPLETION entries of the commands on stored images, records and frames (spec/16, R461, R470, R475, R477; spec/02, R48, R54).
-/

namespace Sys2Proof.Machine

/-! ## The COMPLETION entry -/

theorem beNat_concat (l : List Byte) (b : Byte) : beNat (l ++ [b]) = beNat l * 256 + b.toNat := by
  simp [beNat, List.foldl_append]

/-- The big-endian bytes of a number that fits are read back. -/
theorem beNat_beBytes {n v : Nat} (h : v < 256 ^ n) : beNat (beBytes n v) = v := by
  induction n generalizing v with
  | zero =>
    have zero : v = 0 := by simpa using h
    simp [zero, beBytes, beNat]
  | succ n ih =>
    have split : beBytes (n + 1) v = beBytes n (v / 256) ++ [BitVec.ofNat 8 v] := by
      simp only [beBytes, List.range_succ, List.map_append, List.map_cons, List.map_nil]
      congr 1
      · refine List.map_congr_left (fun i hi => ?_)
        have hi := List.mem_range.mp hi
        rw [Nat.shiftRight_eq_div_pow, Nat.shiftRight_eq_div_pow, Nat.div_div_eq_div_mul,
          show 8 * (n + 1 - 1 - i) = 8 + 8 * (n - 1 - i) by omega, pow_add, show 256 = 2 ^ 8 by decide]
      · simp
    rw [split, beNat_concat, ih (Nat.div_lt_of_lt_mul (by rw [← pow_succ']; exact h)), BitVec.toNat_ofNat]
    omega

/-- What is at a place in the data of an entry. -/
theorem entryBody_data {jseq kind origin opcode cseq timeNs part off n : Nat} {pre mid post : List Byte} (hp : pre.length = off) (hm : mid.length = n)
    (fits : (pre ++ (mid ++ post)).length ≤ 20) :
    beAt (entryBody jseq kind origin opcode cseq timeNs part (pre ++ (mid ++ post))) (28 + off) n = beNat mid := by
  have padded : padTo 20 0 (pre ++ (mid ++ post)) = pre ++ (mid ++ (post ++ List.replicate (20 - (pre ++ (mid ++ post)).length) 0)) := by
    rw [padTo, List.take_of_length_le fits]
    simp only [List.append_assoc]
  rw [entryBody, padded, ← List.append_assoc _ pre]
  refine beAt_append ?_ _ _ hm
  simp only [List.length_append, beBytes_length, hp]

section
variable {s u : State} {c : Cmd} {rest : List Cmd} {status : Nat}

/-- The entry of a command that ends. -/
def State.completionEntry (s : State) (c : Cmd) (status : Nat) : JEntry :=
  let body := entryBody s.nextJseq 3 c.origin c.opcode c.seq s.nowNs 0 (beBytes 8 c.jseq ++ beBytes 2 status ++ beBytes 4 0)
  ⟨s.nextJseq, body, chainOf s.lastChain body⟩

theorem State.completionEntry_reads (s : State) (c : Cmd) {status : Nat} (hc : c.jseq < 2 ^ 64) (hs : status < 65536) :
    beAt (s.completionEntry c status).body 8 1 = 3 ∧ beAt (s.completionEntry c status).body 28 8 = c.jseq ∧
      beAt (s.completionEntry c status).body 36 2 = status := by
  refine ⟨entryBody_kind _ 3 _ _ _ _ _ _ (by decide), ?_, ?_⟩
  · have at_ := entryBody_data (jseq := s.nextJseq) (kind := 3) (origin := c.origin) (opcode := c.opcode) (cseq := c.seq) (timeNs := s.nowNs)
      (part := 0) (pre := []) (mid := beBytes 8 c.jseq) (post := beBytes 2 status ++ beBytes 4 0) rfl (beBytes_length _ _)
      (by simp only [List.length_append, List.length_nil, beBytes_length]; decide)
    rw [beNat_beBytes (by rwa [show 256 ^ 8 = 2 ^ 64 by decide])] at at_
    simpa only [State.completionEntry, List.append_assoc, List.nil_append, List.length_nil, Nat.add_zero] using at_
  · have at_ := entryBody_data (jseq := s.nextJseq) (kind := 3) (origin := c.origin) (opcode := c.opcode) (cseq := c.seq) (timeNs := s.nowNs)
      (part := 0) (pre := beBytes 8 c.jseq) (mid := beBytes 2 status) (post := beBytes 4 0) (beBytes_length _ _) (beBytes_length _ _)
      (by simp only [List.length_append, beBytes_length]; decide)
    rw [beNat_beBytes (by rwa [show 256 ^ 2 = 65536 by decide])] at at_
    simpa only [State.completionEntry, List.append_assoc] using at_

/-- A group of one entry leaves it in the ring, behind at most a checkpoint. -/
theorem State.append_keeps (held : s.journalHeld = false) (kind origin opcode cseq part : Nat) (data : List Byte) :
    (⟨s.nextJseq, entryBody s.nextJseq kind origin opcode cseq s.nowNs part data,
      chainOf s.lastChain (entryBody s.nextJseq kind origin opcode cseq s.nowNs part data)⟩ : JEntry) ∈
      (s.append kind origin opcode cseq part data).mgt.jrn := by
  let e : JEntry := ⟨s.nextJseq, entryBody s.nextJseq kind origin opcode cseq s.nowNs part data,
    chainOf s.lastChain (entryBody s.nextJseq kind origin opcode cseq s.nowNs part data)⟩
  have first : (s.putEntry e).mgt.jrn = e :: s.mgt.jrn.take 65535 := rfl
  have eq : s.append kind origin opcode cseq part data =
      if s.nextJseq / 4096 < (s.nextJseq + 1 + 1) / 4096 then (s.putEntry e).checkpoint 255 0 0 else s.putEntry e := by
    unfold State.append State.appendGroup
    rw [held, if_neg Bool.false_ne_true]
    rfl
  rw [eq]
  generalize s.putEntry e = v at *
  split
  · let k := v.checkpointEntry 255 0 0
    have journal : (v.checkpoint 255 0 0).mgt.jrn = k :: v.mgt.jrn.take 65535 := ((v.putEntry k).putStatement_asks k).1
    rw [journal, first]
    exact List.mem_cons_of_mem _ List.mem_cons_self
  · rw [first]
    exact List.mem_cons_self

theorem State.nextJseq_congr (h : u.mgt.jrn = s.mgt.jrn) : u.nextJseq = s.nextJseq := by rw [State.nextJseq, h, State.nextJseq]

theorem State.endCmd_completes (held : u.journalHeld = false) (same : u.mgt.jrn = s.mgt.jrn) (hc : c.jseq < 2 ^ 64) (hs : status < 65536) :
    s.completed (u.endCmd c status 0) c status := by
  obtain ⟨kind, ended, state⟩ := u.popExec.completionEntry_reads c hc hs
  have entry : u.popExec.completionEntry c status ∈ (u.endCmd c status 0).mgt.jrn :=
    State.append_keeps (s := u.popExec) held 3 c.origin c.opcode c.seq 0 (beBytes 8 c.jseq ++ beBytes 2 status ++ beBytes 4 0)
  have next : u.popExec.nextJseq = s.nextJseq := State.nextJseq_congr same
  exact ⟨_, entry, Nat.le_of_eq next.symm, kind, ended, state⟩

theorem State.completed_congr {t v : State} (h : s.completed t c status) (hv : v.mgt.jrn = t.mgt.jrn) : s.completed v c status := by
  rw [State.completed, hv]
  exact h

theorem State.endCmd_leaves (u : State) (c : Cmd) (status : Nat) : (u.endCmd c status 0).mgt.execQ = u.mgt.execQ.drop 1 ∧
    (u.endCmd c status 0).mgt.mcLane = u.mgt.mcLane :=
  ⟨(u.endCmd_journaled c status 0).execQ, congrArg (fun m => m.mcLane) (u.endCmd_journaled c status 0)⟩

theorem lastSeq_not_journal (o : Nat) : K.MGT_LAST_SEQ o ∉ journalKeys := by
  simp only [journalKeys, K.MGT_LAST_SEQ, K.MGT_CFG, K.JRN_STATUS, K.JRN_HEAD_LO, K.JRN_HEAD_HI, K.JRN_CP_LO, K.JRN_CP_HI, List.mem_cons,
    List.not_mem_nil, or_false, not_or]
  omega

/-- The newest statement is that of the entry given. -/
theorem State.putStatement_first (s : State) (e : JEntry) : (s.putStatement e).mgt.statements.head? = some (s.statementOf e) := by
  unfold State.putStatement
  dsimp only
  split <;> rfl

/-! ## The commands (R461) -/

theorem State.setSlotBytes_firmware (s : State) (n : Nat) (b : List Byte) :
    (s.setSlotBytes n b).boot.fwA = s.boot.fwA ∧ (s.setSlotBytes n b).boot.fwB = s.boot.fwB := by
  unfold State.setSlotBytes
  dsimp only
  split <;> exact ⟨rfl, rfl⟩

section
variable (hr : s.mcRuns = true) (hq : s.mgt.execQ = c :: rest) (held : s.journalHeld = false) (hc : c.jseq < 2 ^ 64)
include hr hq held hc

omit hr in
/-- A command that stores something in the non-volatile memory and ends. -/
theorem exec_stores_completes {i : Instr} {effect : State → State} (run : exec i s = .next (s.confine [.regs, .mgt, .key, .boot] (effect s)))
    (heff : effect s = u.endCmd c 0 0) (hu : s.Only u [.boot]) :
    ∃ t, exec i s = .next t ∧ t.mgt.execQ = rest ∧ s.completed t c 0 ∧ t.mgt.mcLane = s.mgt.mcLane ∧ t.boot = u.boot := by
  have mgt : u.mgt = s.mgt := hu.keeps State.mgt rfl
  have held' : u.journalHeld = false := by
    rw [State.journalHeld, State.fld_congr (hu.keeps State.regs rfl), State.fld_congr (hu.keeps State.regs rfl)]
    exact held
  obtain ⟨popped, lane⟩ := u.endCmd_leaves c 0
  have ends := u.endCmd_only c 0 0
  have only : s.Only (u.endCmd c 0 0) [.regs, .mgt, .key, .boot] := (hu.mono _ (by decide)).comp (ends.mono _ (by decide))
  rw [heff, only.confine _ (by decide)] at run
  exact ⟨_, run, by rw [popped, mgt, hq]; rfl, State.endCmd_completes held' (by rw [mgt]) hc (by decide), by rw [lane, mgt], ends.keeps State.boot rfl⟩

theorem exec_imageErase_completes (op : c.opcode = 0x20) :
    ∃ t, exec .imageErase s = .next t ∧ t.mgt.execQ = rest ∧ s.completed t c 0 ∧ t.mgt.mcLane = s.mgt.mcLane := by
  have head := State.execHead_of hr hq
  rw [op] at head
  obtain ⟨t, run, popped, done, lane, -⟩ := exec_stores_completes hq held hc (exec_imageErase s hr)
    (u := s.setSlotBytes (beAt c.body 0 4) []) (by simp only [State.imageErase, head]) rfl
  exact ⟨t, run, popped, done, lane⟩

theorem exec_imageWrite_completes (op : c.opcode = 0x21) :
    ∃ t, exec .imageWrite s = .next t ∧ t.mgt.execQ = rest ∧ s.completed t c 0 ∧ t.boot.fwA = s.boot.fwA ∧ t.boot.fwB = s.boot.fwB := by
  have head := State.execHead_of hr hq
  rw [op] at head
  let b := spliceBytes (s.slotBytes (beAt c.body 0 1)) (beAt c.body 4 4) (c.body.drop 8)
  obtain ⟨t, run, popped, done, -, boot⟩ := exec_stores_completes hq held hc (exec_imageWrite s hr)
    (u := s.setSlotBytes (beAt c.body 0 1) b) (by simp only [State.imageWrite, head, b]) rfl
  obtain ⟨a, b'⟩ := s.setSlotBytes_firmware (beAt c.body 0 1) b
  exact ⟨t, run, popped, done, by rw [boot, a], by rw [boot, b']⟩

theorem exec_firmwareWrite_completes (op : c.opcode = 0x24) :
    ∃ t, exec .firmwareWrite s = .next t ∧ t.mgt.execQ = rest ∧ s.completed t c 0 ∧ t.boot.slotA = s.boot.slotA ∧ t.boot.slotB = s.boot.slotB := by
  have head := State.execHead_of hr hq
  rw [op] at head
  have effect : s.firmwareWrite = (s.firmwarePut c.body).endCmd c 0 0 := by
    simp only [State.firmwareWrite, head, Bool.or_eq_true, beq_iff_eq]
    rfl
  obtain ⟨t, run, popped, done, -, boot⟩ := exec_stores_completes hq held hc (exec_firmwareWrite s hr) effect rfl
  have slots : (s.firmwarePut c.body).boot.slotA = s.boot.slotA ∧ (s.firmwarePut c.body).boot.slotB = s.boot.slotB := by
    unfold State.firmwarePut
    dsimp only
    split <;> exact ⟨rfl, rfl⟩
  exact ⟨t, run, popped, done, by rw [boot, slots.1], by rw [boot, slots.2]⟩

theorem exec_imageVerify_completes (op : c.opcode = 0x22) (nvm : Bool) :
    ∃ t, exec (.imageVerify nvm) s = .next t ∧ t.mgt.execQ = rest ∧ s.completed t c 0 := by
  have run := exec_imageVerify s nvm hr
  have head := State.execHead_of hr hq
  rw [op] at head
  let data := s.verifyData nvm (imageOf (s.slotBytes (beAt c.body 0 4)))
  have effect : s.imageVerify nvm = (s.endCmd c 0 0).answer c 1 data := by
    simp only [State.imageVerify, head]
    rw [State.verifyData_first]
    rfl
  have only : s.Only ((s.endCmd c 0 0).answer c 1 data) [.regs, .mgt, .key] :=
    (s.endCmd_only c 0 0).comp ((State.answer_only _ c 1 data).mono _ (by decide))
  have journal : ((s.endCmd c 0 0).answer c 1 data).mgt.jrn = (s.endCmd c 0 0).mgt.jrn :=
    State.answer_keeps _ c 1 data (fun m => m.jrn) (fun _ _ => rfl) (fun _ _ => rfl) (fun _ _ => rfl)
  obtain ⟨popped, -⟩ := s.endCmd_leaves c 0
  have done : s.completed (s.endCmd c 0 0) c 0 := State.endCmd_completes held rfl hc (by decide)
  rw [effect, only.confine _ (by decide)] at run
  exact ⟨_, run, ((s.endCmd c 0 0).answer_execQ c 1 data).trans (popped.trans (by rw [hq]; rfl)),
    State.completed_congr done journal⟩

theorem exec_imageActivate_completes (op : c.opcode = 0x23) (bad : s.fld F.BOOT_STATUS_STATE ≠ 0xC) (firmware : s.fld F.BOOT_STATUS_STATE ≠ 0xD)
    {env : StartEnv} (he : startOk env = true) :
    ∃ t, exec (.imageActivate env) s = .next t ∧ t.mgt.execQ = rest ∧ s.completed t c 0 ∧
      t.fld F.BOOT_STATUS_STATE = s.fld F.BOOT_STATUS_STATE ∧ t.boot = s.boot := by
  have run := exec_imageActivate s env he hr
  have head := State.execHead_of hr hq
  rw [op] at head
  let u := s.setFld F.BOOT_PREF_SLOT (beAt c.body 0 4)
  have effect : s.imageActivate env = u.endCmd c 0 0 := by
    simp only [State.imageActivate, head, bad, firmware, if_false]
    rfl
  have only : s.Only (u.endCmd c 0 0) [.regs, .mgt, .key] := State.Only.comp (t := u) rfl (u.endCmd_only c 0 0)
  have regs : s.RegsBut u [K.BOOT_PREF] := s.regsBut_setFld _ _
  have held' : u.journalHeld = false := by
    rw [State.journalHeld, regs.fld (f := F.PAIR_CFG_MODE) (by decide), regs.fld (f := F.PAIR_STATUS_ROLE) (by decide)]
    exact held
  obtain ⟨popped, -⟩ := u.endCmd_leaves c 0
  rw [effect, only.confine _ (by decide)] at run
  refine ⟨_, run, popped.trans (show s.mgt.execQ.drop 1 = rest by rw [hq]; rfl), State.endCmd_completes held' rfl hc (by decide), ?_,
    only.keeps State.boot rfl⟩
  rw [(u.endCmd_regsBut c 0 0).fld (by decide), regs.fld (by decide)]

theorem exec_recordApply_completes (hu : s.unstepped.Only u [.regs]) (keys : s.RegsBut u [K.LDG_CFG])
    (effect : s.unstepped.recordApply = u.endCmd c 0 0) :
    ∃ t, exec .recordApply s = .next t ∧ t.mgt.execQ = rest ∧ s.completed t c 0 ∧ t.regs = (u.endCmd c 0 0).regs := by
  obtain ⟨run, queue, regs, -⟩ := exec_recordApply_ends hr hq hu effect
  have held' : u.journalHeld = false := by
    rw [State.journalHeld, keys.fld (f := F.PAIR_CFG_MODE) (by decide), keys.fld (f := F.PAIR_STATUS_ROLE) (by decide)]
    exact held
  have mgt : u.mgt = s.mgt := hu.keeps State.mgt rfl
  have done : s.completed (u.endCmd c 0 0) c 0 := State.endCmd_completes held' (by rw [mgt]) hc (by decide)
  exact ⟨_, run, queue, State.completed_congr done (congrArg (fun m => m.jrn) ((u.endCmd c 0 0).ppsAll_only.keeps State.mgt rfl)), regs⟩

omit hc in
/-- CHECKPOINT writes the statement of its entry and waits for the signature. -/
theorem exec_checkpoint_states (op : c.opcode = 0x61) (idle : s.mgt.cpWait = none) :
    ∃ t st, exec .checkpoint s = .next t ∧ t.mgt.statements.head? = some st ∧ st.jseq = s.nextJseq ∧
      st.lastSeq = (List.range 64).map (fun o => s.fld (F.MGT_LAST_SEQ_SEQ o)) ∧ st.signed = none ∧
      t.mgt.cpWait = some s.nextJseq ∧ t.mgt.execQ = c :: rest := by
  have run := exec_checkpoint s hr
  have head := State.execHead_of hr hq
  rw [op] at head
  let e := s.checkpointEntry c.origin c.opcode c.seq
  let u := s.checkpoint c.origin c.opcode c.seq
  have effect : s.checkpointCmd = { u with mgt := { u.mgt with cpWait := some (u.nextJseq - 1) } } := by
    simp only [State.checkpointCmd, head, held, idle, Bool.false_eq_true, if_false, Option.isSome_none]
    rfl
  have noted : s.Noted u := (s.checkpoint_journaled _ _ _).noted (s.checkpoint_keysKept _ _ _)
  have ring : u.mgt.jrn = e :: s.mgt.jrn.take 65535 := ((s.putEntry e).putStatement_asks e).1
  have next : u.nextJseq - 1 = s.nextJseq := by
    rw [State.nextJseq, ring]
    rfl
  have first : u.mgt.statements.head? = some ((s.putEntry e).statementOf e) := State.putStatement_first _ e
  have only : s.Only { u with mgt := { u.mgt with cpWait := some (u.nextJseq - 1) } } [.regs, .mgt, .key] :=
    (s.checkpoint_only c.origin c.opcode c.seq).comp rfl
  have seqs (o : Nat) : (s.putEntry e).fld (F.MGT_LAST_SEQ_SEQ o) = s.fld (F.MGT_LAST_SEQ_SEQ o) :=
    (s.putEntry_regsBut e).fld (lastSeq_not_journal o)
  rw [effect, only.confine _ (by decide)] at run
  refine ⟨_, _, run, first, rfl, ?_, rfl, congrArg some next, noted.execQ.trans hq⟩
  exact List.map_congr_left (fun o _ => seqs o)

theorem exec_frameSend_completes (op : c.opcode = 0x70) :
    (s.mgt.mcLane.length < 64 → ∃ t f, exec .frameSend s = .next t ∧ t.mgt.execQ = rest ∧ s.completed t c 0 ∧
      t.mgt.mcLane = s.mgt.mcLane ++ [f] ∧ f.bytes = c.body.drop 16) ∧
    (64 ≤ s.mgt.mcLane.length → ∃ t, exec .frameSend s = .next t ∧ t.mgt.execQ = rest ∧ s.completed t c 3) := by
  have run := exec_frameSend s hr
  have head := State.execHead_of hr hq
  rw [op] at head
  have effect : s.frameSend = if 64 ≤ s.mgt.mcLane.length then (s.inc (C.mgt 13)).endCmd c 3 0
      else { s with mgt := { s.mgt with mcLane := s.mgt.mcLane ++ [s.sentFrame c.body] } }.endCmd c 0 0 := by
    simp only [State.frameSend, head]
    rfl
  have popped : s.mgt.execQ.drop 1 = rest := by rw [hq]; rfl
  rw [effect] at run
  refine ⟨fun room => ?_, fun full => ?_⟩
  · let u : State := { s with mgt := { s.mgt with mcLane := s.mgt.mcLane ++ [s.sentFrame c.body] } }
    have only : s.Only (u.endCmd c 0 0) [.regs, .cnts, .mgt, .key] :=
      State.Only.comp (t := u) rfl ((u.endCmd_only c 0 0).mono _ (by decide))
    obtain ⟨queue, lane⟩ := u.endCmd_leaves c 0
    rw [if_neg (by omega), only.confine _ (by decide)] at run
    exact ⟨_, s.sentFrame c.body, run, queue.trans popped, State.endCmd_completes held rfl hc (by decide), lane, rfl⟩
  · let u := s.inc (C.mgt 13)
    have only : s.Only (u.endCmd c 3 0) [.regs, .cnts, .mgt, .key] :=
      State.Only.comp (t := u) rfl ((u.endCmd_only c 3 0).mono _ (by decide))
    obtain ⟨queue, -⟩ := u.endCmd_leaves c 3
    rw [if_pos full, only.confine _ (by decide)] at run
    exact ⟨_, run, queue.trans popped, State.endCmd_completes held rfl hc (by decide)⟩

end

end
/-! ## Slots of a LIN channel without an entry of the schedule (R249; spec/13, R369) -/

section
variable {s : State} {n : Nat} (hn : n < 8) (hp : s.powered = true) (live : s.linLive n = true) (mode : s.fld (F.LIN_CTRL_MODE n) = 1)
include hn hp live mode

theorem exec_linSlot_early (due : s.slotDue n = false) : exec (.linSlot n) s = .next s := by
  have effect := State.linSlot_live live mode
  rw [due] at effect
  have same : s.linSlot n = s := effect.trans rfl
  rw [exec_linSlot s n (decide_eq_true hn) hp, same, s.confine_self]

theorem exec_linSlot_sleeps (due : s.slotDue n = true) (asked : (s.lin n).goSleep = true) (free : s.linBusy n = false)
    (shadow : s.flag (F.LIN_CTRL_SHADOW n) = false) :
    ∃ t, exec (.linSlot n) s = .next t ∧ t.out = s.linReply n 0x3C (0 :: List.replicate 7 0xFF) :: s.linHead n 0x3C :: s.out ∧
      (t.lin n).goSleep = false ∧ (t.lin n).slept = true ∧ s.Only t [.regs, .cnts, .edge, .wvr, .out] := by
  have effect := State.linSlot_live live mode
  let o := s.setLin n { s.lin n with goSleep := false, slept := true }
  have lin : o.lin n = { s.lin n with goSleep := false, slept := true } := s.lin_setLin n _
  have first : s.Only o [.edge] := s.setLin_only n _
  have regs : s.RegsBut o [K.LIN_STATUS n] := State.regsBut_of_regs (first.keeps State.regs rfl) _
  have free' : o.linBusy n = false := (State.linBusy_of lin rfl rfl rfl).trans free
  rw [due, asked] at effect
  have start : s.linSlot n = o.linStart n 0x3C (some (0 :: List.replicate 7 0xFF)) := effect.trans rfl
  rw [State.linStart_free free'] at start
  have out : o.out = s.out := first.keeps State.out rfl
  generalize o = o at *
  have shadow' := regs.linShadow.trans shadow
  have headed := State.linBreak_heads shadow' 0x3C
  have quiet : o.linHeader n 0x3C (some (0 :: List.replicate 7 0xFF)) = (o.linBreak n 0x3C).linRespond n 0x3C (0 :: List.replicate 7 0xFF) :=
    if_neg (by rw [headed.sends.regs.linShadow, shadow']; decide)
  have replied := (o.linBreak n 0x3C).linRespond_replies n 0x3C (0 :: List.replicate 7 0xFF)
  obtain ⟨-, -, -, asleep, slept⟩ := (headed.sends.comp replied.sends).slot
  have only := (first.mono [.regs, .cnts, .edge, .wvr, .out] (by decide)).comp (headed.sends.comp replied.sends).only
  have run := exec_linSlot s n (decide_eq_true hn) hp
  rw [start, quiet, only.confine _ (by decide)] at run
  refine ⟨_, run, ?_, by rw [asleep, lin], by rw [slept, lin], only⟩
  rw [replied.out, headed.out, headed.sends.regs.linReply, regs.linReply, regs.linHead, out]

theorem exec_linSlot_switches (due : s.slotDue n = true) (awake : (s.lin n).goSleep = false)
    (quiet : s.groupQuiet (s.chanGroup (24 + n)) = false) (pending : s.flag (F.LIN_STATUS_SWITCH_PENDING n) = true)
    (ended : s.linTableLen n (s.fld (F.LIN_STATUS_TABLE n)) ≤ (s.lin n).next) :
    ∃ t, exec (.linSlot n) s = .next t ∧ t.fld (F.LIN_STATUS_TABLE n) = s.fld (F.LIN_CTRL_TABLE n) ∧ (t.lin n).next = 0 ∧
      t.flag (F.LIN_STATUS_SWITCH_PENDING n) = false ∧ (t.lin n).slotAt = some (s.wholeMs 1000000) ∧
      s.RegsBut t [K.LIN_STATUS n] ∧ s.Only t [.regs, .edge] := by
  have effect := State.linSlot_live live mode
  rw [due, awake, quiet, pending, decide_eq_true ended] at effect
  have switch : s.linSlot n = s.linSwitchTo n (s.fld (F.LIN_CTRL_TABLE n)) := effect.trans rfl
  obtain ⟨table, done, lin, regs, only⟩ := s.linSwitchTo_starts n _ (s.linCtrl_table_lt n)
  have run := exec_linSlot s n (decide_eq_true hn) hp
  rw [switch, only.confine _ (by decide)] at run
  exact ⟨_, run, table, by rw [lin], done, by rw [lin], regs, only⟩

end

/-- Settles O60: the slots and responses of a LIN channel, and each command's COMPLETION entry. -/
theorem linAndStoredCommandsComplete : Obligations.LinAndStoredCommandsComplete := by
  unfold Obligations.LinAndStoredCommandsComplete
  refine ⟨fun s n hn hp live mode => ⟨?_, fun due asked free shadow => ?_, ?_⟩,
    fun s n id ago hn hi hp => ⟨fun live mode dir data => ?_, fun h good => ?_⟩,
    fun s n i id ago bytes hn hb hp live await => ⟨fun waiting shadow dir => ?_, fun waiting => ⟨?_, fun fin h => ?_⟩⟩,
    fun s c rest hr hq held hc => ⟨?_, ?_, ?_, ?_, ?_, fun op own none_ => ?_, fun op own r hrec h => ?_, ?_, ?_⟩⟩
  · exact exec_linSlot_early hn hp live mode
  · obtain ⟨t, run, out, asleep, slept, only⟩ := exec_linSlot_sleeps hn hp live mode due asked free shadow
    exact ⟨t, _, run, rfl, out, asleep, slept, only⟩
  · exact exec_linSlot_switches hn hp live mode
  · exact exec_linHeaderReceive_silent hn hi hp live mode (Or.inr ⟨dir, data⟩)
  · exact exec_linHeaderReceive_unheard hn hi hp h good
  · exact exec_linResponseTimeout_frees hn hp live await waiting shadow dir
  · obtain ⟨collision, -⟩ := State.linResponseIn_faults (ago := ago) (bytes := bytes) live await waiting
    exact exec_linFrameReceive_counts hn hp hb (by decide) (by decide) (by decide) collision
  · obtain ⟨-, framing, bit, -⟩ := State.linResponseIn_faults (ago := ago) (bytes := bytes) live await waiting
    rcases h with rfl | rfl
    · exact exec_linFrameReceive_counts hn hp hb (by decide) (by decide) (by decide) framing
    · exact exec_linFrameReceive_counts hn hp hb (by decide) (by decide) (by decide) bit
  · exact exec_imageErase_completes hr hq held hc
  · intro op
    obtain ⟨t, run, popped, done, a, b⟩ := exec_imageWrite_completes hr hq held hc op
    exact ⟨t, run, popped, done, a, b⟩
  · exact exec_imageVerify_completes hr hq held hc
  · exact fun op bad firmware env he => exec_imageActivate_completes hr hq held hc op bad firmware he
  · exact exec_firmwareWrite_completes hr hq held hc
  · have head : s.unstepped.execHead 0x40 = some c := op ▸ State.execHead_of (s := s.unstepped) hr hq
    have own' : s.unstepped.ownOutstanding = false := own
    have effect : s.unstepped.recordApply = s.unstepped.endCmd c 0 0 := by
      simp only [State.recordApply, head, own', none_, Bool.false_eq_true, if_false]
    obtain ⟨t, run, popped, done, regs⟩ := exec_recordApply_completes hr hq held hc (s.unstepped.only_refl _)
      (State.RegsBut.from (State.RegsBut.refl _ _) rfl) effect
    exact ⟨t, run, popped, done, ((s.unstepped.endCmd_regsBut c 0 0).from rfl).after regs⟩
  · have head : s.unstepped.execHead 0x40 = some c := op ▸ State.execHead_of (s := s.unstepped) hr hq
    have own' : s.unstepped.ownOutstanding = false := own
    by_cases applies : (r.known && r.forUnit s.unitId) = true
    · have number : r.number = 0x800 := h.resolve_left (by rw [applies]; decide)
      have effect := State.recordApply_applies head own' hrec applies
      rw [number] at effect
      obtain ⟨t, run, popped, done, -⟩ := exec_recordApply_completes hr hq held hc (u := s.unstepped.trLedger r.words) rfl
        ((s.unstepped.regsBut_setFlds_keys rfl).from rfl) effect
      exact ⟨t, run, popped, done⟩
    · have effect := State.recordApply_foreign head own' hrec (Bool.eq_false_of_not_eq_true applies)
      obtain ⟨t, run, popped, done, -⟩ := exec_recordApply_completes hr hq held hc (s.unstepped.only_refl _)
        (State.RegsBut.from (State.RegsBut.refl _ _) rfl) effect
      exact ⟨t, run, popped, done⟩
  · exact fun op idle _ => exec_checkpoint_states hr hq held op idle
  · exact exec_frameSend_completes hr hq held hc

end Sys2Proof.Machine
end

section
/-!
SUPPORT. `Obligations.CanFramesComeAndGo`: a frame on the bus of a CAN channel, the arbitration and the end of a transmission, each as
lemmas about the stages of the operation (spec/08, R234, R235, R238 to R241, R251).
-/

namespace Sys2Proof.Machine

/-! ## CAN_STATUS besides the fields of the counters -/

/-- A correct frame was seen: LEC is cleared and the bus is idle. -/
def State.canSeen (s : State) (n : Nat) : State :=
  ((s.inc (C.edge n 0)).setFld (F.CAN_STATUS_LEC n) 0).setFld (F.CAN_STATUS_BUS_IDLE n) 1

section
variable (s : State) (n : Nat)

theorem State.canSeen_only : s.Only (s.canSeen n) [.regs, .cnts] := rfl

theorem State.canSeen_cntsBut : s.CntsBut (s.canSeen n) [C.edge n 0] := s.cntsBut_inc _

theorem State.canSeen_counts : (s.canSeen n).cnt (C.edge n 0) = s.cnt (C.edge n 0) + 1 := s.cnt_inc_same _

theorem State.canSeen_regsBut : s.RegsBut (s.canSeen n) [K.CAN_STATUS n] :=
  ((State.regsBut_setFld (s.inc (C.edge n 0)) (F.CAN_STATUS_LEC n) 0).comp (State.regsBut_setFld _ (F.CAN_STATUS_BUS_IDLE n) 1)).from rfl

theorem State.canSeen_flds : (s.canSeen n).fld (F.CAN_STATUS_LEC n) = 0 ∧ (s.canSeen n).flag (F.CAN_STATUS_BUS_IDLE n) = true ∧
    ∀ g : Fld, (F.CAN_STATUS_LEC n).Apart g → (F.CAN_STATUS_BUS_IDLE n).Apart g → (s.canSeen n).fld g = s.fld g := by
  have idle {g : Fld} (t : State) (v : Nat) (h : (F.CAN_STATUS_BUS_IDLE n).Apart g) : (t.setFld (F.CAN_STATUS_BUS_IDLE n) v).fld g = t.fld g :=
    State.fld_setFlds_apart (l := [(F.CAN_STATUS_BUS_IDLE n, v)]) t (List.forall_mem_singleton.mpr h)
  have lec {g : Fld} (t : State) (v : Nat) (h : (F.CAN_STATUS_LEC n).Apart g) : (t.setFld (F.CAN_STATUS_LEC n) v).fld g = t.fld g :=
    State.fld_setFlds_apart (l := [(F.CAN_STATUS_LEC n, v)]) t (List.forall_mem_singleton.mpr h)
  refine ⟨?_, State.flag_setFld_same _ (F.CAN_STATUS_BUS_IDLE n) 1 rfl (show 8 < 32 by decide), fun g h h' => ?_⟩
  · rw [State.canSeen, idle (g := F.CAN_STATUS_LEC n) _ _ (Fld.apart_mk _ (by decide))]
    exact State.fld_setFld_same _ (F.CAN_STATUS_LEC n) 0 (show 9 ≤ 11 by decide) (show 11 < 32 by decide)
  · rw [State.canSeen, idle _ _ h', lec _ _ h]
    rfl

/-- A move of the counters touches the status and the events of its channel. -/
theorem State.canState_only (tec rec : Nat) : s.Only (s.canState n tec rec) [.regs, .cnts, .mgt, .edge, .key] := by
  rw [State.canState_eq]
  exact ((s.canNote_keeps n tec rec).1.mono _ (by decide)).comp ((State.setFlds_only _ _).mono _ (by decide))

theorem State.canState_regsBut (tec rec : Nat) : s.RegsBut (s.canState n tec rec) (K.CAN_STATUS n :: K.CAN_EVT n :: journalKeys) := by
  have keys : ∀ c ∈ counterFlds n tec rec, c.1.key = K.CAN_STATUS n := by
    simp [counterFlds, F.CAN_STATUS_WARN, F.CAN_STATUS_STATE, F.CAN_STATUS_TEC, F.CAN_STATUS_REC]
  have noted : s.RegsBut (s.canNote n tec rec) (K.CAN_EVT n :: journalKeys) := by
    have warned := s.canWarn_raised n tec rec
    unfold State.canNote
    split
    · exact ((warned.comp (State.canEvent_raised _ n 0)).regs).after rfl
    · exact warned.regs
  rw [State.canState_eq]
  exact (noted.mono (fun k hk => List.mem_cons_of_mem _ hk)).comp ((State.regsBut_setFlds _ keys).mono (by simp))

theorem State.canState_cntsBut (tec rec : Nat) : s.CntsBut (s.canState n tec rec) (C.edge n 7 :: eventCounters) := by
  intro a ha
  obtain ⟨other, rest⟩ := not_or.mp (fun h => ha (List.mem_cons.mpr h))
  rw [s.canState_cnt n tec rec rest, if_neg (fun h => other h.2.2.symm)]

/-! ## The receive FIFO -/

/-- A frame entered the receive FIFO of its channel, or was lost and counted. -/
structure State.CanStored (s t : State) (n : Nat) (w : WUnit) (len : Nat) : Prop where
  only : s.Only t [.regs, .cnts, .mgt, .edge, .key]
  regs : s.RegsBut t (K.CAN_EVT n :: journalKeys)
  cnts : s.CntsBut t (C.edge n 6 :: eventCounters)
  reqs : (t.can n).reqs = (s.can n).reqs
  fits : fifoFits (s.can n).fifo len = true → t.can n = { s.can n with fifo := (s.can n).fifo ++ [w] }
  full : fifoFits (s.can n).fifo len = false → t.can n = s.can n ∧ t.cnt (C.edge n 6) = s.cnt (C.edge n 6) + 1 ∧
    t.flag ⟨K.CAN_EVT n, 4, 4⟩ = true

theorem State.canFifo_stores (w : WUnit) (len : Nat) : s.CanStored (s.canFifo n w len) n w len := by
  unfold State.canFifo
  dsimp only
  split
  · next fits =>
    have same := s.can_setCan n { s.can n with fifo := (s.can n).fifo ++ [w] }
    exact { only := rfl, regs := State.RegsBut.refl s _, cnts := State.CntsBut.refl s _, reqs := (congrArg CanSt.reqs same).trans rfl,
            fits := fun _ => same, full := fun full => absurd (fits.symm.trans full) (by decide) }
  · next full =>
    have raised := (s.inc (C.edge n 6)).canEvent_raised n 4
    have lost : s.Only (s.inc (C.edge n 6)) [.cnts] := rfl
    have can : ((s.inc (C.edge n 6)).canEvent n 4).can n = s.can n := State.can_congr (raised.only.keeps State.edge rfl) n
    exact { only := (lost.mono _ (by decide)).comp (raised.only.mono _ (by decide)), regs := raised.regs.from rfl,
            cnts := ((s.cntsBut_inc (C.edge n 6)).mono (by simp)).comp (raised.cnts.mono (fun k hk => List.mem_cons_of_mem _ hk)),
            reqs := congrArg CanSt.reqs can, fits := fun fits => absurd fits full,
            full := fun _ => ⟨can, (raised.cnts _ (edge_not_event (by decide))).trans (s.cnt_inc_same _), State.canEvent_flag _ (by decide)⟩ }

/-! ## A frame that the protocol does not take -/

/-- A frame of an unknown format before the counters move: it is counted, and answered with an error frame. -/
def State.canRefused (s : State) (n : Nat) : State :=
  ((s.used.inc (C.edge n 2)).setFld (F.CAN_STATUS_LEC n) (1 + s.freeNat 3 % 6)).canErrorFrame n

theorem State.canUnknown_eq : s.canUnknown n = if (s.canRefused n).flag (F.CAN_CTRL_SHADOW n) then s.canRefused n
    else (s.canRefused n).canState n ((s.canRefused n).fld (F.CAN_STATUS_TEC n)) ((s.canRefused n).fld (F.CAN_STATUS_REC n) + 1) := rfl

theorem State.canRefused_answers : s.Only (s.canRefused n) [.regs, .cnts, .fresh, .out] ∧
    (s.canRefused n).cnt (C.edge n 2) = s.cnt (C.edge n 2) + 1 ∧ s.CntsBut (s.canRefused n) [C.edge n 2] ∧
    s.RegsBut (s.canRefused n) [K.CAN_STATUS n] ∧
    (s.canRefused n).out = (if s.flag (F.CAN_CTRL_SHADOW n) = true ∨ s.fld (F.CAN_CTRL_MODE n) = 2 then s.out else .canError n :: s.out) ∧
    (s.canRefused n).fld (F.CAN_STATUS_REC n) = s.fld (F.CAN_STATUS_REC n) := by
  have counted : s.Only (s.used.inc (C.edge n 2)) [.cnts, .fresh] := rfl
  have one : (s.used.inc (C.edge n 2)).cnt (C.edge n 2) = s.cnt (C.edge n 2) + 1 := s.used.cnt_inc_same _
  have cnts : s.CntsBut (s.used.inc (C.edge n 2)) [C.edge n 2] := s.used.cntsBut_inc _
  unfold State.canRefused
  generalize s.used.inc (C.edge n 2) = a at *
  generalize 1 + s.freeNat 3 % 6 = code
  have lec : a.Only (a.setFld (F.CAN_STATUS_LEC n) code) [.regs] := rfl
  have regs : s.RegsBut (a.setFld (F.CAN_STATUS_LEC n) code) [K.CAN_STATUS n] :=
    (a.regsBut_setFld (F.CAN_STATUS_LEC n) code).from (counted.keeps State.regs rfl)
  have reception : (a.setFld (F.CAN_STATUS_LEC n) code).fld (F.CAN_STATUS_REC n) = s.fld (F.CAN_STATUS_REC n) :=
    (State.fld_setFlds_apart (l := [(F.CAN_STATUS_LEC n, code)]) a (List.forall_mem_singleton.mpr (Fld.apart_mk _ (by decide)))).trans
      (State.fld_congr (counted.keeps State.regs rfl) _)
  generalize a.setFld (F.CAN_STATUS_LEC n) code = b at *
  have frame := b.canErrorFrame_only n
  have before : s.Only b [.regs, .cnts, .fresh, .out] := (counted.mono _ (by decide)).comp (lec.mono _ (by decide))
  have keepsCnts : (b.canErrorFrame n).cnts = a.cnts := (frame.keeps State.cnts rfl).trans (lec.keeps State.cnts rfl)
  refine ⟨before.comp (frame.mono _ (by decide)), (State.cnt_congr keepsCnts _).trans one,
    fun k hk => (State.cnt_congr keepsCnts k).trans (cnts k hk), regs.after (frame.keeps State.regs rfl), ?_,
    (State.fld_congr (frame.keeps State.regs rfl) _).trans reception⟩
  rw [State.canErrorFrame, regs.flag (f := F.CAN_CTRL_SHADOW n) (canCtrl_not_status n), regs.fld (f := F.CAN_CTRL_MODE n) (canCtrl_not_status n)]
  have out : b.out = s.out := (lec.keeps State.out rfl).trans (counted.keeps State.out rfl)
  by_cases silent : s.flag (F.CAN_CTRL_SHADOW n) = true ∨ s.fld (F.CAN_CTRL_MODE n) = 2
  · rw [if_pos silent, if_pos (by simpa using silent), out]
  · rw [if_neg silent, if_neg (by simpa using silent), State.emit, out]

theorem State.canUnknown_answers : s.Only (s.canUnknown n) [.regs, .cnts, .fresh, .mgt, .key, .out] ∧
    (s.canUnknown n).cnt (C.edge n 2) = s.cnt (C.edge n 2) + 1 ∧
    (s.canUnknown n).out = (if s.flag (F.CAN_CTRL_SHADOW n) = true ∨ s.fld (F.CAN_CTRL_MODE n) = 2 then s.out else .canError n :: s.out) ∧
    (s.flag (F.CAN_CTRL_SHADOW n) = false → (s.canUnknown n).fld (F.CAN_STATUS_REC n) = min (s.fld (F.CAN_STATUS_REC n) + 1) 255) ∧
    s.RegsBut (s.canUnknown n) (K.CAN_STATUS n :: K.CAN_EVT n :: journalKeys) ∧
    s.CntsBut (s.canUnknown n) (C.edge n 2 :: C.edge n 7 :: eventCounters) := by
  obtain ⟨only, count, cnts, regs, out, rec⟩ := s.canRefused_answers n
  have shadow := regs.flag (f := F.CAN_CTRL_SHADOW n) (canCtrl_not_status n)
  have within : s.RegsBut (s.canRefused n) (K.CAN_STATUS n :: K.CAN_EVT n :: journalKeys) := regs.mono (by simp)
  have counted : s.CntsBut (s.canRefused n) (C.edge n 2 :: C.edge n 7 :: eventCounters) := cnts.mono (by simp)
  rw [State.canUnknown_eq, shadow]
  generalize s.canRefused n = u at *
  split
  · next silent =>
    exact ⟨only.mono _ (by decide), count, out, fun off => absurd (silent.symm.trans off) (by decide), within, counted⟩
  · have moved : u.Only _ [.regs, .cnts, .mgt, .key] := ((u.canNote_keeps n (u.fld (F.CAN_STATUS_TEC n)) (u.fld (F.CAN_STATUS_REC n) + 1)).1).comp
      ((State.setFlds_only _ (counterFlds n (u.fld (F.CAN_STATUS_TEC n)) (u.fld (F.CAN_STATUS_REC n) + 1))).mono _ (by decide))
    have cntsBut := u.canState_cntsBut n (u.fld (F.CAN_STATUS_TEC n)) (u.fld (F.CAN_STATUS_REC n) + 1)
    refine ⟨(only.mono _ (by decide)).comp (moved.mono _ (by decide)), ?_, (u.canState_out n _ _).trans out, fun _ => ?_,
      within.comp (u.canState_regsBut n _ _), counted.comp (cntsBut.mono (fun a ha => List.mem_cons_of_mem _ ha))⟩
    · rw [cntsBut _ ?_, count]
      simp only [List.mem_cons, not_or]
      exact ⟨by simp [C.edge], edge_not_event (by decide)⟩
    · rw [u.canState_rec, rec]

/-- A frame that starts the protocol exception event. -/
def State.canExcepted (s : State) (n : Nat) : State :=
  (((s.inc (C.edge n 9)).canEvent n 6).setFld (F.CAN_STATUS_STATE n) 3).setFld (F.CAN_STATUS_BUS_IDLE n) 0

theorem State.canExcepted_integrates : s.Only (s.canExcepted n) [.regs, .cnts, .mgt, .key] ∧
    (s.canExcepted n).cnt (C.edge n 9) = s.cnt (C.edge n 9) + 1 ∧ (s.canExcepted n).fld (F.CAN_STATUS_STATE n) = 3 ∧
    s.CntsBut (s.canExcepted n) (C.edge n 9 :: eventCounters) := by
  have raised := (s.inc (C.edge n 9)).canEvent_raised n 6
  have counted : s.Only (s.inc (C.edge n 9)) [.cnts] := rfl
  have cnts := s.cntsBut_inc (C.edge n 9)
  have one := s.cnt_inc_same (C.edge n 9)
  unfold State.canExcepted
  generalize s.inc (C.edge n 9) = t at *
  generalize t.canEvent n 6 = u at *
  refine ⟨((counted.mono _ (by decide)).comp raised.only).comp (t := u) rfl, ?_, ?_,
    (cnts.mono (by simp)).comp (raised.cnts.mono (fun k hk => List.mem_cons_of_mem _ hk))⟩
  · exact (raised.cnts _ (edge_not_event (by decide))).trans one
  · have kept : ((u.setFld (F.CAN_STATUS_STATE n) 3).setFld (F.CAN_STATUS_BUS_IDLE n) 0).fld (F.CAN_STATUS_STATE n) =
        (u.setFld (F.CAN_STATUS_STATE n) 3).fld (F.CAN_STATUS_STATE n) :=
      State.fld_setFlds_apart (l := [(F.CAN_STATUS_BUS_IDLE n, 0)]) _ (List.forall_mem_singleton.mpr (Fld.apart_mk _ (by decide)))
    rw [kept]
    exact u.fld_setFld_same (F.CAN_STATUS_STATE n) 3 (show 0 ≤ 1 by decide) (show 1 < 32 by decide)

/-! ## A frame that the channel delivers -/

/-- What a received frame leaves after the error counters: it is counted, seen, remembered for the Lee path and stored. -/
def State.canDelivered (s : State) (n : Nat) (f : CanFrame) (ago : Nat) : State :=
  let u := s.canSeen n
  let v := u.leeSource n f.fmt f.id (u.edgeStamp ago) f.data
  if v.running then
    v.canFifo n (.pdu 0 n 0 f.fmt f.id f.data (u.edgeStamp ago) ⟨f.fdf, f.brs, f.rtr, f.xl⟩) f.data.length
  else v

theorem canStatus_not_boot (n : Nat) : K.BOOT_STATUS ∉ [K.CAN_STATUS n] ∧ K.NM_STATE ∉ [K.CAN_STATUS n] := by
  simp only [K.BOOT_STATUS, K.NM_STATE, K.CAN_STATUS, List.mem_singleton]
  omega

theorem canStatus_not_event {n : Nat} : K.CAN_STATUS n ∉ K.CAN_EVT n :: journalKeys := by
  simp only [journalKeys, K.CAN_STATUS, K.CAN_EVT, K.MGT_CFG, K.JRN_STATUS, K.JRN_HEAD_LO, K.JRN_HEAD_HI, K.JRN_CP_LO, K.JRN_CP_HI,
    List.mem_cons, List.not_mem_nil, or_false, not_or]
  omega

/-- What the delivery of a frame to a running unit leaves. -/
structure State.CanDelivers (s t : State) (n : Nat) (w : WUnit) (len : Nat) : Prop where
  only : s.Only t [.regs, .cnts, .mgt, .edge, .nm, .key, .saf]
  regs : s.RegsBut t (K.CAN_STATUS n :: K.CAN_EVT n :: journalKeys)
  cnts : s.CntsBut t (C.edge n 0 :: C.edge n 6 :: eventCounters)
  count : t.cnt (C.edge n 0) = s.cnt (C.edge n 0) + 1
  lec : t.fld (F.CAN_STATUS_LEC n) = 0
  idle : t.flag (F.CAN_STATUS_BUS_IDLE n) = true
  rest : ∀ g : Fld, (F.CAN_STATUS_LEC n).Apart g → (F.CAN_STATUS_BUS_IDLE n).Apart g → t.fld g = s.fld g
  reqs : (t.can n).reqs = (s.can n).reqs
  fits : fifoFits (s.can n).fifo len = true → t.can n = { s.can n with fifo := (s.can n).fifo ++ [w] }
  full : fifoFits (s.can n).fifo len = false → t.can n = s.can n ∧ t.cnt (C.edge n 6) = s.cnt (C.edge n 6) + 1 ∧
    t.flag ⟨K.CAN_EVT n, 4, 4⟩ = true

theorem State.canDelivered_delivers (f : CanFrame) (ago : Nat) (running : s.running = true) :
    s.CanDelivers (s.canDelivered n f ago) n (.pdu 0 n 0 f.fmt f.id f.data (s.edgeStamp ago) ⟨f.fdf, f.brs, f.rtr, f.xl⟩)
      f.data.length := by
  have seen := s.canSeen_only n
  have seenRegs := s.canSeen_regsBut n
  have seenCnts := s.canSeen_cntsBut n
  have counts := s.canSeen_counts n
  obtain ⟨lec, idle, rest⟩ := s.canSeen_flds n
  have stamp : (s.canSeen n).edgeStamp ago = s.edgeStamp ago := rfl
  obtain ⟨x, form⟩ := (s.canSeen n).leeSource_form n f.fmt f.id (s.edgeStamp ago) f.data
  unfold State.canDelivered
  dsimp only
  rw [stamp, form]
  have runs : (s.canSeen n).running = true := by
    rw [← running, State.running, State.running, seenRegs.fld (f := F.BOOT_STATUS_STATE) (canStatus_not_boot n).1]
    rfl
  generalize s.canSeen n = u at *
  obtain ⟨v, hv⟩ : ∃ v : State, v = { u with saf := { u.saf with srcs := x } } := ⟨_, rfl⟩
  have uv : u.Only v [.saf] := by rw [hv]; rfl
  have runs' : v.running = true := by rw [hv]; exact runs
  rw [← hv, if_pos runs']
  have can : v.can n = s.can n := State.can_congr ((uv.keeps State.edge rfl).trans (seen.keeps State.edge rfl)) n
  have stored := v.canFifo_stores n (.pdu 0 n 0 f.fmt f.id f.data (s.edgeStamp ago) ⟨f.fdf, f.brs, f.rtr, f.xl⟩) f.data.length
  generalize v.canFifo n _ _ = w at stored ⊢
  have regs : s.RegsBut v [K.CAN_STATUS n] := seenRegs.after (uv.keeps State.regs rfl)
  have cnts : s.CntsBut v [C.edge n 0] := fun a ha => (State.cnt_congr (uv.keeps State.cnts rfl) a).trans (seenCnts a ha)
  have kept {g : Fld} (hg : g.key = K.CAN_STATUS n) : w.fld g = u.fld g := by
    refine (stored.regs.fld ?_).trans (State.fld_congr (uv.keeps State.regs rfl) g)
    rw [hg]
    exact canStatus_not_event
  exact {
    only := ((seen.mono _ (by decide)).comp (uv.mono _ (by decide))).comp (stored.only.mono _ (by decide))
    regs := (regs.mono (by simp)).comp (stored.regs.mono (fun k hk => List.mem_cons_of_mem _ hk))
    cnts := (cnts.mono (by simp)).comp (stored.cnts.mono (fun k hk => List.mem_cons_of_mem _ hk))
    count := by
      rw [stored.cnts _ (by simp only [List.mem_cons, not_or]; exact ⟨by simp [C.edge], edge_not_event (by decide)⟩),
        State.cnt_congr (uv.keeps State.cnts rfl), counts]
    lec := (kept rfl).trans lec
    idle := by rw [State.flag_eq _ _ rfl, kept rfl, ← State.flag_eq _ _ rfl]; exact idle
    rest := fun g h h' => (kept h.key.symm).trans (rest g h h')
    reqs := stored.reqs.trans (congrArg CanSt.reqs can)
    fits := fun fits => by rw [stored.fits (by rw [can]; exact fits), can]
    full := fun full => by
      obtain ⟨same, lost, flag⟩ := stored.full (by rw [can]; exact full)
      exact ⟨same.trans can, by rw [lost, cnts _ (by simp [C.edge])], flag⟩ }

end

theorem State.CanDelivers.after {s t u : State} {n len : Nat} {w : WUnit} (h : s.CanDelivers t n w len) (only : t.Only u [.nm]) :
    s.CanDelivers u n w len := by
  have regs : u.regs = t.regs := only.keeps State.regs rfl
  have cnts : u.cnts = t.cnts := only.keeps State.cnts rfl
  have can : u.can n = t.can n := State.can_congr (only.keeps State.edge rfl) n
  exact {
    only := h.only.comp (only.mono _ (by decide))
    regs := h.regs.after regs
    cnts := fun a ha => (State.cnt_congr cnts a).trans (h.cnts a ha)
    count := (State.cnt_congr cnts _).trans h.count
    lec := (State.fld_congr regs _).trans h.lec
    idle := (State.flag_congr regs _).trans h.idle
    rest := fun g h1 h2 => (State.fld_congr regs g).trans (h.rest g h1 h2)
    reqs := (congrArg CanSt.reqs can).trans h.reqs
    fits := fun fits => can.trans (h.fits fits)
    full := fun full => by
      obtain ⟨same, lost, flag⟩ := h.full full
      exact ⟨can.trans same, (State.cnt_congr cnts _).trans lost, (State.flag_congr regs _).trans flag⟩ }

/-! ## A frame on the bus -/

/-- A received frame is that of a request. -/
def CanReq.met (f : CanFrame) (r : CanReq) : Bool := r.id == f.id && r.fmt == f.fmt && r.fdf == f.fdf && r.data == f.data

/-- The requests that a frame matches are gone from a channel that shadows. -/
def State.canRetired (s : State) (n : Nat) (f : CanFrame) : State :=
  (s.setCan n { s.can n with reqs := (s.can n).reqs.filter (fun r => !CanReq.met f r) }).inc (C.edge n 10)


section
variable {s : State} {n : Nat} {f : CanFrame} {ago : Nat} (bus : s.canOnBus n = true) (cur : (s.can n).cur = none)
include bus cur

/-- On a channel that takes part in its bus and sends nothing a frame meets the protocol. -/
theorem State.canReceive_judged : s.canReceive n f ago = match s.canFormat n f with
    | 1 => s.canUnknown n
    | 2 => (((s.inc (C.edge n 9)).canEvent n 6).setFld (F.CAN_STATUS_STATE n) 3).setFld (F.CAN_STATUS_BUS_IDLE n) 0
    | _ => (if (s.canRetire n f).flag (F.CAN_CTRL_SHADOW n) then s.canRetire n f
        else ((s.canRetire n f).recAfter n).2.canState n (((s.canRetire n f).recAfter n).2.fld (F.CAN_STATUS_TEC n))
          ((s.canRetire n f).recAfter n).1).canDelivered n f ago := by
  have lost : s.canLost n = s := if_neg (by rw [cur]; decide)
  simp only [State.canReceive, State.canIntegrate_onBus bus, bus, Bool.not_true, Bool.false_eq_true, if_false, lost]
  rfl

/-- A frame that the channel handles moves REC, where the channel does not shadow. -/
theorem State.canReceive_handled (format : s.canFormat n f = 0) (shadow : s.flag (F.CAN_CTRL_SHADOW n) = false)
    (low : s.fld (F.CAN_STATUS_REC n) ≤ 127) : s.canReceive n f ago =
      (s.canState n (s.fld (F.CAN_STATUS_TEC n)) (s.fld (F.CAN_STATUS_REC n) - 1)).canDelivered n f ago := by
  have retire : s.canRetire n f = s := by simp [State.canRetire, shadow]
  have after : s.recAfter n = (s.fld (F.CAN_STATUS_REC n) - 1, s) := if_neg (by omega)
  rw [State.canReceive_judged bus cur, format, retire, after]
  simp only [shadow, Bool.false_eq_true, if_false]

/-- A frame retires the request that it matches on a channel that shadows. -/
theorem State.canReceive_retired (format : s.canFormat n f = 0) (shadow : s.flag (F.CAN_CTRL_SHADOW n) = true)
    (hit : (s.can n).reqs.any (CanReq.met f) = true) :
    s.canReceive n f ago = (s.canRetired n f).canDelivered n f ago := by
  have retire : s.canRetire n f = s.canRetired n f := by
    simp only [State.canRetire, shadow, Bool.not_true, Bool.false_eq_true, if_false]
    exact if_pos hit
  rw [State.canReceive_judged bus cur, format, retire]
  have kept : (s.canRetired n f).flag (F.CAN_CTRL_SHADOW n) = true := shadow
  simp only [kept, if_true]

end

/-! ## The command -/

section
variable {s : State} {n : Nat} {f : CanFrame} {ago : Nat} (hn : n < 24) (hf : canFrameOk f = true) (hp : s.powered = true)
include hn hf hp

theorem exec_canFrameReceive_runs : exec (.canFrameReceive n f ago) s = .next (s.confine [.regs, .cnts, .fresh, .nmLog, .data,
    .ports, .time, .mgt, .edge, .nm, .wvr, .twin, .key, .saf, .out] (s.canIn n f ago)) :=
  exec_canFrameReceive s n f ago (by show (decide (n < 24) && canFrameOk f) = true; rw [decide_eq_true hn, hf]; rfl) hp

/-- A frame that was not delivered is no sign of traffic. -/
theorem exec_canFrameReceive_undelivered {u : State} (effect : s.canReceive n f ago = u) {l : List Part} (only : s.Only u l)
    (sub : (l.all fun p => [Part.regs, .cnts, .fresh, .nmLog, .data, .ports, .time, .mgt, .edge, .nm, .wvr, .twin, .key, .saf, .out].any
      fun q => decide (q = p)) = true)
    (count : u.cnt (C.edge n 0) = s.cnt (C.edge n 0)) : exec (.canFrameReceive n f ago) s = .next u := by
  have ends : s.canIn n f ago = u := by
    unfold State.canIn
    rw [effect]
    exact if_pos (Or.inl count)
  rw [exec_canFrameReceive_runs hn hf hp, ends, (only.mono _ sub).confine _ rfl]

/-- A delivered frame is traffic of its channel, which a ring that is at rest notes and no more. -/
theorem exec_canFrameReceive_delivers (running : s.running = true) (ring : s.fld F.NM_STATE_RING < 2) {u : State}
    (effect : s.canReceive n f ago = u.canDelivered n f ago) (only : s.Only u [.regs, .cnts, .mgt, .edge, .key])
    (regs : s.RegsBut u (K.CAN_STATUS n :: K.CAN_EVT n :: journalKeys)) :
    ∃ t, exec (.canFrameReceive n f ago) s = .next t ∧ s.Only t [.regs, .cnts, .mgt, .edge, .nm, .key, .saf] ∧
      u.CanDelivers t n (.pdu 0 n 0 f.fmt f.id f.data (s.edgeStamp ago) ⟨f.fdf, f.brs, f.rtr, f.xl⟩) f.data.length := by
  have boot : K.BOOT_STATUS ∉ K.CAN_STATUS n :: K.CAN_EVT n :: journalKeys ∧ K.NM_STATE ∉ K.CAN_STATUS n :: K.CAN_EVT n :: journalKeys := by
    simp only [journalKeys, K.BOOT_STATUS, K.NM_STATE, K.CAN_STATUS, K.CAN_EVT, K.MGT_CFG, K.JRN_STATUS, K.JRN_HEAD_LO, K.JRN_HEAD_HI,
      K.JRN_CP_LO, K.JRN_CP_HI, List.mem_cons, List.not_mem_nil, or_false, not_or]
    omega
  have runs : u.running = true := by
    rw [← running, State.running, State.running, regs.fld (f := F.BOOT_STATUS_STATE) boot.1, only.keeps State.saf rfl]
  have stamp : u.edgeStamp ago = s.edgeStamp ago := by
    rw [State.edgeStamp, State.stampClock, only.keeps State.saf rfl, only.keeps State.time rfl]
    rfl
  have delivers := u.canDelivered_delivers n f ago runs
  rw [stamp] at delivers
  generalize u.canDelivered n f ago = v at effect delivers
  have ring' : v.fld F.NM_STATE_RING < 2 := by
    rw [delivers.regs.fld (f := F.NM_STATE_RING) boot.2, regs.fld (f := F.NM_STATE_RING) boot.2]
    exact ring
  have ends : v.Only (s.canIn n f ago) [.nm] := by
    have eq : s.canIn n f ago = if (s.canReceive n f ago).cnt (C.edge n 0) = s.cnt (C.edge n 0) ∨ !s.drives then s.canReceive n f ago
        else (s.canReceive n f ago).chanTraffic n (s.edgeStamp ago) := rfl
    rw [eq, effect]
    split
    · exact State.only_refl _ _
    · exact State.chanTraffic_quiet ring' n _
  have run := exec_canFrameReceive_runs hn hf hp (ago := ago)
  have final := delivers.after ends
  generalize s.canIn n f ago = x at run final
  have whole : s.Only x [.regs, .cnts, .mgt, .edge, .nm, .key, .saf] := (only.mono _ (by decide)).comp final.only
  rw [whole.confine _ (by decide)] at run
  exact ⟨x, run, whole, final⟩


variable (running : s.running = true) (bus : s.canOnBus n = true) (cur : (s.can n).cur = none) (ring : s.fld F.NM_STATE_RING < 2)
include running bus cur ring

/-- A frame that the channel handles lowers REC and enters the receive FIFO, or is lost. -/
theorem exec_canFrameReceive_handled (format : s.canFormat n f = 0) (shadow : s.flag (F.CAN_CTRL_SHADOW n) = false)
    (low : s.fld (F.CAN_STATUS_REC n) ≤ 127) :
    ∃ t, exec (.canFrameReceive n f ago) s = .next t ∧ s.Only t [.regs, .cnts, .mgt, .edge, .nm, .key, .saf] ∧
      t.cnt (C.edge n 0) = s.cnt (C.edge n 0) + 1 ∧
      t.fld (F.CAN_STATUS_REC n) = s.fld (F.CAN_STATUS_REC n) - 1 ∧
      t.fld (F.CAN_STATUS_LEC n) = 0 ∧ t.flag (F.CAN_STATUS_BUS_IDLE n) = true ∧
      (fifoFits (s.can n).fifo f.data.length = true → t.can n = { s.can n with
        fifo := (s.can n).fifo ++ [.pdu 0 n 0 f.fmt f.id f.data (s.edgeStamp ago) ⟨f.fdf, f.brs, f.rtr, f.xl⟩] }) ∧
      (fifoFits (s.can n).fifo f.data.length = false → t.can n = s.can n ∧
        t.cnt (C.edge n 6) = s.cnt (C.edge n 6) + 1 ∧ t.flag ⟨K.CAN_EVT n, 4, 4⟩ = true) := by
  have effect := State.canReceive_handled (ago := ago) bus cur format shadow low
  have less : (s.canState n (s.fld (F.CAN_STATUS_TEC n)) (s.fld (F.CAN_STATUS_REC n) - 1)).fld (F.CAN_STATUS_REC n) =
      s.fld (F.CAN_STATUS_REC n) - 1 := by
    rw [State.canState_rec]
    omega
  have can : (s.canState n (s.fld (F.CAN_STATUS_TEC n)) (s.fld (F.CAN_STATUS_REC n) - 1)).can n = s.can n :=
    State.can_congr (s.canState_edge n _ _) n
  have cnt {k : Nat} (hk : k < 32) (other : k ≠ 7) :
      (s.canState n (s.fld (F.CAN_STATUS_TEC n)) (s.fld (F.CAN_STATUS_REC n) - 1)).cnt (C.edge n k) = s.cnt (C.edge n k) := by
    rw [s.canState_cnt n _ _ (edge_not_event hk), if_neg]
    rintro ⟨-, -, same⟩
    simp only [C.edge] at same
    omega
  obtain ⟨t, run, only, delivers⟩ := exec_canFrameReceive_delivers hn hf hp running ring effect (s.canState_only n _ _) (s.canState_regsBut n _ _)
  have kept := delivers.rest (F.CAN_STATUS_REC n) (Fld.apart_mk _ (by decide)) (Fld.apart_mk _ (by decide))
  have fits := delivers.fits
  have full := delivers.full
  rw [can] at fits full
  refine ⟨t, run, only, by rw [delivers.count, cnt (by decide) (by decide)], kept.trans less, delivers.lec, delivers.idle, fits, fun no => ?_⟩
  obtain ⟨same, lost, flag⟩ := full no
  exact ⟨same, by rw [lost, cnt (by decide) (by decide)], flag⟩

/-- On a channel that shadows a frame retires the request that it matches. -/
theorem exec_canFrameReceive_retires (format : s.canFormat n f = 0) (shadow : s.flag (F.CAN_CTRL_SHADOW n) = true)
    (hit : (s.can n).reqs.any (CanReq.met f) = true) :
    ∃ t, exec (.canFrameReceive n f ago) s = .next t ∧ s.Only t [.regs, .cnts, .mgt, .edge, .nm, .key, .saf] ∧
      t.cnt (C.edge n 10) = s.cnt (C.edge n 10) + 1 ∧
      (t.can n).reqs = (s.can n).reqs.filter (fun r => !CanReq.met f r) ∧
      t.fld (F.CAN_STATUS_REC n) = s.fld (F.CAN_STATUS_REC n) ∧ t.fld (F.CAN_STATUS_TEC n) = s.fld (F.CAN_STATUS_TEC n) := by
  have effect := State.canReceive_retired (ago := ago) bus cur format shadow hit
  have regs : (s.canRetired n f).regs = s.regs := rfl
  have can : ((s.canRetired n f).can n).reqs = (s.can n).reqs.filter (fun r => !CanReq.met f r) :=
    (congrArg CanSt.reqs (s.can_setCan n { s.can n with reqs := (s.can n).reqs.filter (fun r => !CanReq.met f r) })).trans rfl
  have count : (s.canRetired n f).cnt (C.edge n 10) = s.cnt (C.edge n 10) + 1 :=
    State.cnt_inc_same (s.setCan n { s.can n with reqs := (s.can n).reqs.filter (fun r => !CanReq.met f r) }) _
  have first : s.Only (s.canRetired n f) [.cnts, .edge] := rfl
  obtain ⟨t, run, only, delivers⟩ := exec_canFrameReceive_delivers hn hf hp running ring effect (first.mono _ (by decide))
    (State.regsBut_of_regs regs _)
  have kept (g : Fld) (h : (F.CAN_STATUS_LEC n).Apart g) (h' : (F.CAN_STATUS_BUS_IDLE n).Apart g) : t.fld g = s.fld g :=
    (delivers.rest g h h').trans (State.fld_congr regs g)
  refine ⟨t, run, only, ?_, delivers.reqs.trans can, kept (F.CAN_STATUS_REC n) (Fld.apart_mk _ (by decide)) (Fld.apart_mk _ (by decide)),
    kept (F.CAN_STATUS_TEC n) (Fld.apart_mk _ (by decide)) (Fld.apart_mk _ (by decide))⟩
  rw [delivers.cnts _ ?_, count]
  simp only [List.mem_cons, not_or]
  exact ⟨by simp [C.edge], by simp [C.edge], edge_not_event (by decide)⟩


omit running ring in
/-- A frame that the protocol does not know is answered with an error frame and raises REC, where the channel does not shadow. -/
theorem exec_canFrameReceive_unknown (format : s.canFormat n f = 1) :
    ∃ t, exec (.canFrameReceive n f ago) s = .next t ∧ s.Only t [.regs, .cnts, .fresh, .mgt, .key, .out] ∧
      t.cnt (C.edge n 2) = s.cnt (C.edge n 2) + 1 ∧
      t.out = (if s.flag (F.CAN_CTRL_SHADOW n) = true ∨ s.fld (F.CAN_CTRL_MODE n) = 2 then s.out else .canError n :: s.out) ∧
      (s.flag (F.CAN_CTRL_SHADOW n) = false → t.fld (F.CAN_STATUS_REC n) = min (s.fld (F.CAN_STATUS_REC n) + 1) 255) ∧
      s.RegsBut t (K.CAN_STATUS n :: K.CAN_EVT n :: journalKeys) ∧
      s.CntsBut t (C.edge n 2 :: C.edge n 7 :: eventCounters) := by
  have effect : s.canReceive n f ago = s.canUnknown n := by rw [State.canReceive_judged bus cur, format]; rfl
  obtain ⟨only, count, out, rec, regs, cnts⟩ := s.canUnknown_answers n
  have one : (s.canUnknown n).cnt (C.edge n 0) = s.cnt (C.edge n 0) := by
    refine cnts _ ?_
    simp only [List.mem_cons, not_or]
    exact ⟨by simp [C.edge], by simp [C.edge], edge_not_event (by decide)⟩
  exact ⟨_, exec_canFrameReceive_undelivered hn hf hp effect only (by decide) one, only, count, out, rec, regs, cnts⟩

omit running ring in
/-- A frame that starts the protocol exception event is counted, and the channel integrates. -/
theorem exec_canFrameReceive_exception (format : s.canFormat n f = 2) :
    ∃ t, exec (.canFrameReceive n f ago) s = .next t ∧ s.Only t [.regs, .cnts, .mgt, .key] ∧
      t.cnt (C.edge n 9) = s.cnt (C.edge n 9) + 1 ∧
      t.fld (F.CAN_STATUS_STATE n) = 3 ∧ s.CntsBut t (C.edge n 9 :: eventCounters) := by
  have effect : s.canReceive n f ago = s.canExcepted n := by rw [State.canReceive_judged bus cur, format]; rfl
  obtain ⟨only, count, state, cnts⟩ := s.canExcepted_integrates n
  have one : (s.canExcepted n).cnt (C.edge n 0) = s.cnt (C.edge n 0) := by
    refine cnts _ ?_
    simp only [List.mem_cons, not_or]
    exact ⟨by simp [C.edge], edge_not_event (by decide)⟩
  exact ⟨_, exec_canFrameReceive_undelivered hn hf hp effect only (by decide) one, only, count, state, cnts⟩

end

/-! ## Arbitration and the end of a transmission -/

section
variable {l : List CanReq} {r : CanReq}

theorem foldl_rank_le (a : CanReq) : ∀ x ∈ a :: l, (l.foldl (fun a b => if b.rank < a.rank then b else a) a).rank ≤ x.rank := by
  induction l generalizing a with
  | nil => simp
  | cons b l ih =>
    have rest := ih (if b.rank < a.rank then b else a)
    have first : (if b.rank < a.rank then b else a).rank ≤ a.rank ∧ (if b.rank < a.rank then b else a).rank ≤ b.rank := by
      split <;> omega
    intro x hx
    rw [List.foldl_cons]
    rcases List.mem_cons.mp hx with rfl | hx
    · exact (rest _ List.mem_cons_self).trans first.1
    · rcases List.mem_cons.mp hx with rfl | hx
      · exact (rest _ List.mem_cons_self).trans first.2
      · exact rest x (List.mem_cons_of_mem _ hx)

/-- The request that ranks first ranks no lower than any other. -/
theorem firstReq_ranks (h : firstReq l = some r) : ∀ x ∈ l, r.rank ≤ x.rank := by
  cases l with
  | nil => cases h
  | cons a l =>
    cases h
    exact foldl_rank_le a

end

section
variable {s : State} {n : Nat} (hn : n < 24) (hp : s.powered = true) (bus : s.canOnBus n = true)
include hn hp bus

theorem exec_canArbitration_enters {r : CanReq} (first : firstReq (s.can n).reqs = some r) (cur : (s.can n).cur = none)
    (shadow : s.flag (F.CAN_CTRL_SHADOW n) = false) (mode : s.fld (F.CAN_CTRL_MODE n) = 1) (quiet : s.groupQuiet (s.chanGroup n) = false) :
    ∃ t, exec (.canArbitration n) s = .next t ∧ (t.can n).cur = some (r, s.edgeStamp 0) ∧
      (t.can n).reqs = (s.can n).reqs.erase r ∧
      t.flag (F.CAN_STATUS_BUS_IDLE n) = false ∧ (∀ m, m ≠ n → t.can m = s.can m) ∧ s.RegsBut t [K.CAN_STATUS n] ∧
      s.Only t [.regs, .edge] := by
  let c : CanSt := { s.can n with reqs := (s.can n).reqs.erase r, cur := some (r, s.edgeStamp 0) }
  have enters : s.canArbitrate n = (s.setCan n c).setFld (F.CAN_STATUS_BUS_IDLE n) 0 := by
    simp only [State.canArbitrate, State.canIntegrate_onBus bus, bus, shadow, mode, cur, quiet, first]
    rfl
  have run := exec_canArbitration s n (decide_eq_true hn) hp
  have only : s.Only ((s.setCan n c).setFld (F.CAN_STATUS_BUS_IDLE n) 0) [.regs, .edge] := rfl
  rw [enters, only.confine _ (by decide)] at run
  have same := s.can_setCan n c
  exact ⟨_, run, congrArg CanSt.cur same, congrArg CanSt.reqs same,
    State.flag_setFld_same (s.setCan n c) (F.CAN_STATUS_BUS_IDLE n) 0 rfl (show 8 < 32 by decide),
    fun m other => mapGet_mapSet_other (fun _ => CanSt.fresh) s.edge.can c (Ne.symm other),
    (State.regsBut_setFld (s.setCan n c) (F.CAN_STATUS_BUS_IDLE n) 0).from rfl, only⟩

omit bus in
theorem exec_canTxComplete_shadow (shadow : s.flag (F.CAN_CTRL_SHADOW n) = true) : exec (.canTxComplete n) s = .next s := by
  have kept : s.canSent n = s := by
    unfold State.canSent
    dsimp only
    split
    · rfl
    · rw [shadow, Bool.or_true]
      rfl
  rw [exec_canTxComplete s n (decide_eq_true hn) hp, kept, s.confine_self]

/-- The end of a transmission, before TEC falls. -/
def State.canConfirmed (s : State) (n : Nat) (r : CanReq) (stamp : Nat) : State :=
  (((s.setCan n { s.can n with cur := none }).confirm n stamp).inc (C.edge n 1)).emit (.can n r.fmt r.id (b2n r.fdf + 2 * b2n r.brs) r.xl r.data)

theorem exec_canTxComplete_confirms {r : CanReq} {stamp : Nat} (cur : (s.can n).cur = some (r, stamp))
    (shadow : s.flag (F.CAN_CTRL_SHADOW n) = false) :
    ∃ t, exec (.canTxComplete n) s = .next t ∧ s.Only t [.regs, .cnts, .mgt, .edge, .wvr, .key, .out] ∧
      t.can n = { s.can n with cur := none } ∧
      t.wvr = { s.wvr with confirms := mapSet (fun _ => 0) s.wvr.confirms n stamp } ∧
      t.cnt (C.edge n 1) = s.cnt (C.edge n 1) + 1 ∧
      t.out = .can n r.fmt r.id (b2n r.fdf + 2 * b2n r.brs) r.xl r.data :: s.out ∧
      t.fld (F.CAN_STATUS_TEC n) = s.fld (F.CAN_STATUS_TEC n) - 1 ∧ t.flag (F.CAN_STATUS_BUS_IDLE n) = true := by
  have sends : s.canSent n = ((s.canConfirmed n r stamp).canState n (s.fld (F.CAN_STATUS_TEC n) - 1)
      (s.fld (F.CAN_STATUS_REC n))).setFld (F.CAN_STATUS_BUS_IDLE n) 1 := by
    simp only [State.canSent, cur, bus, shadow, Bool.not_true, Bool.or_self, Bool.false_eq_true, if_false]
    rfl
  have first : s.Only (s.canConfirmed n r stamp) [.cnts, .edge, .wvr, .out] := rfl
  have can : (s.canConfirmed n r stamp).can n = { s.can n with cur := none } := s.can_setCan n { s.can n with cur := none }
  have wvr : (s.canConfirmed n r stamp).wvr = { s.wvr with confirms := mapSet (fun _ => 0) s.wvr.confirms n stamp } := rfl
  have count : (s.canConfirmed n r stamp).cnt (C.edge n 1) = s.cnt (C.edge n 1) + 1 :=
    State.cnt_inc_same ((s.setCan n { s.can n with cur := none }).confirm n stamp) _
  have out : (s.canConfirmed n r stamp).out = .can n r.fmt r.id (b2n r.fdf + 2 * b2n r.brs) r.xl r.data :: s.out := rfl
  have run := exec_canTxComplete s n (decide_eq_true hn) hp
  rw [sends] at run
  generalize s.canConfirmed n r stamp = u at *
  have moved := u.canState_only n (s.fld (F.CAN_STATUS_TEC n) - 1) (s.fld (F.CAN_STATUS_REC n))
  have tec := u.canState_tec n (s.fld (F.CAN_STATUS_TEC n) - 1) (s.fld (F.CAN_STATUS_REC n))
  have edge := u.canState_edge n (s.fld (F.CAN_STATUS_TEC n) - 1) (s.fld (F.CAN_STATUS_REC n))
  have outs := u.canState_out n (s.fld (F.CAN_STATUS_TEC n) - 1) (s.fld (F.CAN_STATUS_REC n))
  have cnts := u.canState_cntsBut n (s.fld (F.CAN_STATUS_TEC n) - 1) (s.fld (F.CAN_STATUS_REC n))
  generalize u.canState n (s.fld (F.CAN_STATUS_TEC n) - 1) (s.fld (F.CAN_STATUS_REC n)) = v at *
  have idle : v.Only (v.setFld (F.CAN_STATUS_BUS_IDLE n) 1) [.regs] := rfl
  have shown := v.flag_setFld_same (F.CAN_STATUS_BUS_IDLE n) 1 rfl (show 8 < 32 by decide)
  have other : (v.setFld (F.CAN_STATUS_BUS_IDLE n) 1).fld (F.CAN_STATUS_TEC n) = v.fld (F.CAN_STATUS_TEC n) :=
    State.fld_setFlds_apart (l := [(F.CAN_STATUS_BUS_IDLE n, 1)]) v (List.forall_mem_singleton.mpr (Fld.apart_mk _ (by decide)))
  generalize v.setFld (F.CAN_STATUS_BUS_IDLE n) 1 = x at *
  have whole : s.Only x [.regs, .cnts, .mgt, .edge, .wvr, .key, .out] :=
    ((first.mono _ (by decide)).comp (moved.mono _ (by decide))).comp (idle.mono _ (by decide))
  rw [whole.confine _ rfl] at run
  refine ⟨x, run, whole, (State.can_congr ((idle.keeps State.edge rfl).trans edge) n).trans can,
    ((idle.keeps State.wvr rfl).trans (moved.keeps State.wvr rfl)).trans wvr, ?_,
    ((idle.keeps State.out rfl).trans outs).trans out, ?_, shown⟩
  · rw [State.cnt_congr (idle.keeps State.cnts rfl), cnts _ ?_, count]
    simp only [List.mem_cons, not_or]
    exact ⟨by simp [C.edge], edge_not_event (by decide)⟩
  · have small : s.fld (F.CAN_STATUS_TEC n) < 512 := s.fld_lt (F.CAN_STATUS_TEC n)
    rw [other, tec]
    omega

end

/-- Settles O35: a frame meets the protocol of its channel, and of one that the channel handles the counters' move and the delivery are
one stage each; a request that ranks first is what the fold over the waiting requests leaves. -/
theorem canFramesComeAndGo : Obligations.CanFramesComeAndGo := by
  unfold Obligations.CanFramesComeAndGo
  constructor
  · intro s n ago f hn hf hp running bus cur ring
    exact ⟨exec_canFrameReceive_handled hn hf hp running bus cur ring, exec_canFrameReceive_retires hn hf hp running bus cur ring,
      exec_canFrameReceive_unknown hn hf hp bus cur, exec_canFrameReceive_exception hn hf hp bus cur⟩
  · intro s n hn hp bus
    refine ⟨fun r first cur shadow mode quiet => ⟨firstReq_ranks first, exec_canArbitration_enters hn hp bus first cur shadow mode quiet⟩,
      fun r stamp cur => ⟨exec_canTxComplete_shadow hn hp, exec_canTxComplete_confirms hn hp bus cur⟩⟩

end Sys2Proof.Machine
end

section
/-!
SUPPORT. `Obligations.LeePathSendsAtItsSlots`: the counterexample to its clause of PLL_RELOCK (spec/14, R398, R399).
-/

namespace Sys2Proof.Machine

/-- Lee mode waits for the root PLL while group 1 sleeps, with the commander LIN0 in it. -/
def State.relocking : State := { State.reset with
  regs := [(K.NM_STATE, 0x20000), (K.NM_PORT_GROUP 0, 0), (K.NM_PORT_GROUP 1, 0), (K.NM_PORT_GROUP 2, 0), (K.NM_PORT_GROUP 3, 0),
    (K.NM_PORT_GROUP 4, 0), (K.NM_CHAN_GROUP 0, 0), (K.NM_CHAN_GROUP 1, 0), (K.NM_CHAN_GROUP 2, 0), (K.NM_CHAN_GROUP 3, 1),
    (K.RST_HELD 1, 0), (K.LIN_CTRL 0, 1), (K.LIN_STATUS 0, 0), (K.CLK_STATUS, 0)],
  boot := { BootSt.reset with held := false },
  saf := { SafSt.reset with mode := .lee, pllWait := true } }

/-- The wake of group 1 starts the schedule of LIN0 afresh. -/
theorem State.relocking_slot : (State.relocking.pllRelock.lin 0).slotAt ≠ (State.relocking.lin 0).slotAt := by decide

/-- Refutes O51: PLL_RELOCK in Lee mode wakes every sleeping group, and a LIN commander that is released starts its schedule afresh
(spec/14, R398; spec/17, R501), which is state of the edge: more than the registers, the Lee path and the pins changes. -/
theorem not_leePathSendsAtItsSlots : ¬ Obligations.LeePathSendsAtItsSlots := by
  unfold Obligations.LeePathSendsAtItsSlots
  intro h
  obtain ⟨relock, _⟩ := h State.relocking (by decide)
  obtain ⟨t, run, only, _⟩ := relock (by decide) (by decide)
  have done := run.symm.trans (exec_pllRelock State.relocking (by decide))
  obtain rfl := Host.Outcome.next.inj done
  have same := only.keeps State.edge rfl
  rw [State.confine_edge] at same
  exact State.relocking_slot (congrArg LinSt.slotAt (State.lin_congr same 0))

end Sys2Proof.Machine
end

section
/-!
SUPPORT. `Obligations.FaultsLeadToTheirReactions`: the fatal reaction in its stages, and what checks, scrubs and monitors leave (spec/14,
R388 to R398, R411).
-/

namespace Sys2Proof.Machine

/-! ## A state steps away from what is queued -/

/-- The stages of the fatal reaction after the drop: frames, queues and requests stay, and what they send is not the level of EVT_N. -/
structure State.Reacts (s t : State) : Prop where
  only : s.Only t [.regs, .edge, .saf, .out]
  reqs : ∀ n, (t.can n).reqs = (s.can n).reqs
  out : ∃ l, t.out = l ++ s.out ∧ .pin 5 false ∉ l

theorem State.Reacts.refl (s : State) : s.Reacts s := ⟨s.only_refl _, fun _ => rfl, [], rfl, by simp⟩

theorem State.Reacts.comp {s t u : State} (h : s.Reacts t) (h' : t.Reacts u) : s.Reacts u := by
  obtain ⟨l, out, no⟩ := h.out
  obtain ⟨l', out', no'⟩ := h'.out
  exact ⟨h.only.comp h'.only, fun n => (h'.reqs n).trans (h.reqs n), l' ++ l, by rw [out', out, List.append_assoc], by simp [no, no']⟩

/-- A stage that touches registers and the safety block alone. -/
theorem State.reacts_of {s t : State} (h : s.Only t [.regs, .saf]) : s.Reacts t :=
  ⟨h.mono _ (by decide), fun n => congrArg CanSt.reqs (State.can_congr (h.keeps State.edge rfl) n),
    [], h.keeps State.out rfl, by simp⟩

theorem State.Reacts.emit {s t : State} (h : s.Reacts t) {o : WireOut} (ho : o ≠ .pin 5 false) : s.Reacts (t.emit o) :=
  h.comp ⟨rfl, fun _ => rfl, [o], rfl, by simpa using Ne.symm ho⟩

theorem State.Reacts.sent {s t : State} (h : s.Reacts t) {o : WireOut} (ho : o ∈ s.out) : o ∈ t.out := by
  obtain ⟨l, out, _⟩ := h.out
  rw [out]
  exact List.mem_append_right l ho

/-! ## The groups wake -/

theorem State.linAgain_can (s : State) (n m : Nat) : (s.linAgain n).can m = s.can m := by
  have eq : s.linAgain n = (s.setLin n { s.lin n with next := 0, slotAt := some (s.wholeMs 1000000) }).setFlds
    [(F.LIN_STATUS_TABLE n, s.fld (F.LIN_STATUS_TABLE n)), (F.LIN_STATUS_ENTRY n, 0), (F.LIN_STATUS_SWITCH_PENDING n, 0)] := rfl
  rw [eq]
  exact State.can_congr (State.setFlds_edge _ _) m

theorem State.chanStart_can (s : State) (n m : Nat) : (s.chanStart n).can m = s.can m := by
  unfold State.chanStart
  split
  · rfl
  split
  · split
    · rfl
    · exact State.can_congr (State.setFlds_edge _ _) m
  · split
    · rfl
    · dsimp only
      split
      · exact State.linAgain_can _ _ m
      · rfl

/-- Pins follow the groups of PHYs, channels start: the registers besides the edge's own stay. -/
structure State.Woken (s t : State) : Prop where
  reacts : s.Reacts t
  regs : ∀ k, 0x200000 ≤ k → t.reg k = s.reg k
  saf : t.saf = s.saf

theorem State.Woken.refl (s : State) : s.Woken s := ⟨.refl s, fun _ _ => rfl, rfl⟩

theorem State.Woken.comp {s t u : State} (h : s.Woken t) (h' : t.Woken u) : s.Woken u :=
  ⟨h.reacts.comp h'.reacts, fun k hk => (h'.regs k hk).trans (h.regs k hk), h'.saf.trans h.saf⟩

theorem State.phyPin_woken (s : State) (p : Nat) : s.Woken (s.phyPin p) := by
  unfold State.phyPin
  split
  · have other : WireOut.pin (8 + p) (!s.asleep (s.portGroup p)) ≠ .pin 5 false := by
      intro same
      have pins : 8 + p = 5 := (WireOut.pin.inj same).1
      omega
    exact ⟨(State.Reacts.refl s).emit other, fun _ _ => rfl, rfl⟩
  · exact .refl s

theorem State.chanStart_woken (s : State) {n : Nat} (hn : n < 32) : s.Woken (s.chanStart n) := by
  obtain ⟨only, regs⟩ := s.chanStart_edgeRun hn
  exact ⟨⟨only.mono _ (by decide), fun m => congrArg CanSt.reqs (s.chanStart_can n m), [], only.keeps State.out rfl, by simp⟩,
    regs, only.keeps State.saf rfl⟩

/-- Every group wakes: ASLEEP reads 0, and the registers of the safety block and the pair stay. -/
theorem State.wakeAll_wakes (s : State) : s.Reacts s.wakeAll ∧ s.wakeAll.asleepMask = 0 ∧ s.wakeAll.saf = s.saf ∧
    ∀ k, 0x280004 ≤ k → s.wakeAll.reg k = s.reg k := by
  let u := s.setFld F.NM_STATE_ASLEEP 0
  have first : s.Only u [.regs] := rfl
  have zero : u.fld F.NM_STATE_ASLEEP = 0 := (s.fld_setFld_same F.NM_STATE_ASLEEP 0 (by decide) (by decide)).trans rfl
  have regs : s.RegsBut u [K.NM_STATE] := s.regsBut_setFld _ _
  have eq : s.wakeAll = forEach ((forEach (u.groupPorts s.asleepMask) (fun p s => s.phyPin p) u).groupChans s.asleepMask)
    (fun n s => s.chanStart n) (forEach (u.groupPorts s.asleepMask) (fun p s => s.phyPin p) u) := rfl
  rw [eq]
  generalize u = u at *
  have pins := forEach_relates State.Woken.refl State.Woken.comp (fun p s => State.phyPin s p) (u.groupPorts s.asleepMask)
    (fun p _ s => s.phyPin_woken p) u
  generalize forEach (u.groupPorts s.asleepMask) (fun p s => State.phyPin s p) u = v at *
  have small (n : Nat) (hn : n ∈ v.groupChans s.asleepMask) : n < 32 := List.mem_range.mp (List.mem_of_mem_filter hn)
  have chans := forEach_relates State.Woken.refl State.Woken.comp (fun n s => State.chanStart s n) (v.groupChans s.asleepMask)
    (fun n hn s => s.chanStart_woken (small n hn)) v
  have all := pins.comp chans
  generalize forEach (v.groupChans s.asleepMask) (fun n s => State.chanStart s n) v = w at *
  refine ⟨(State.reacts_of (first.mono _ (by decide))).comp all.reacts, ?_, all.saf.trans (first.keeps State.saf rfl), fun k hk => ?_⟩
  · exact (State.fld_of_reg (all.regs K.NM_STATE (by decide))).trans zero
  · exact (all.regs k (by omega)).trans (regs k (by rw [List.mem_singleton, K.NM_STATE]; omega))

/-! ## What is queued is dropped -/

/-- Frames, queues and requests are gone, and EVT_N keeps its level. -/
structure State.Dropped (s t : State) : Prop where
  queues : t.data.queues = []
  tx : t.ports.tx = []
  rx : t.ports.rx = []
  reqs : ∀ n, (t.can n).reqs = []
  out : ∃ l, t.out = l ++ s.out ∧ .pin 5 false ∉ l

theorem State.Dropped.reacts {s t u : State} (h : s.Dropped t) (h' : t.Reacts u) : s.Dropped u := by
  obtain ⟨l, out, no⟩ := h.out
  obtain ⟨l', out', no'⟩ := h'.out
  have data : u.data = t.data := h'.only.keeps State.data rfl
  have ports : u.ports = t.ports := h'.only.keeps State.ports rfl
  exact ⟨by rw [data, h.queues], by rw [ports, h.tx], by rw [ports, h.rx], fun n => (h'.reqs n).trans (h.reqs n),
    l' ++ l, by rw [out', out, List.append_assoc], by simp [no, no']⟩

theorem mapGet_map {α : Type} (d : Nat → α) (g : α → α) (hd : ∀ k, g (d k) = d k) (l : List (Nat × α)) (k : Nat) :
    mapGet d (l.map (fun c => (c.1, g c.2))) k = g (mapGet d l k) := by
  induction l with
  | nil => exact (hd k).symm
  | cons c r ih =>
    obtain ⟨j, v⟩ := c
    simp only [List.map_cons, mapGet]
    split
    · rfl
    · exact ih

/-- A transmission that is broken off is sent as far as it went. -/
theorem State.stompOne_sends (s : State) (m : Nat) (x : Tx) : s.Only (s.stompOne m x) [.cnts, .fresh, .out] ∧
    ∃ l, (s.stompOne m x).out = l ++ s.out ∧ .pin 5 false ∉ l := by
  have sends (u : State) (hu : s.Only u [.cnts, .fresh]) (q : Nat) (b : List Byte) : s.Only (u.emit (.frame q b false)) [.cnts, .fresh, .out] ∧
      ∃ l, (u.emit (.frame q b false)).out = l ++ s.out ∧ .pin 5 false ∉ l :=
    ⟨(hu.mono _ (by decide)).comp (t := u) rfl, [.frame q b false], congrArg (List.cons _) (hu.keeps State.out rfl), by simp⟩
  unfold State.stompOne
  dsimp only
  split
  · exact ⟨s.only_refl _, [], rfl, by simp⟩
  split
  · exact sends _ (by rfl) _ _
  split
  · exact sends _ (by rfl) _ _
  · exact sends _ (by rfl) _ _

/-- The data plane, the ports and the replay list are empty, but for the cells. -/
def State.emptied (s : State) : State :=
  { s with
    ports := { s.ports with tx := [], rx := [] },
    data := { s.data with frames := [], infos := [], queues := [], waiting := [], recirc := [],
                          crossing := [], learnQ := [] },
    twin := { s.twin with replay := [], replaying := false } }.resetCells s.data.cells

theorem State.emptied_clears (s : State) : s.Only s.emptied [.regs, .data, .ports, .twin] ∧
    s.emptied.data.queues = [] ∧ s.emptied.ports.tx = [] ∧ s.emptied.ports.rx = [] := ⟨rfl, rfl, rfl, rfl⟩

theorem State.dropRequests_drops (s : State) : s.Only s.dropRequests [.edge] ∧ ∀ n, (s.dropRequests.can n).reqs = [] :=
  ⟨rfl, fun n => congrArg CanSt.reqs (mapGet_map (fun _ => CanSt.fresh) (fun c => { c with reqs := [] }) (fun _ => rfl) s.edge.can n)⟩

/-- What the fatal reaction drops (R398). -/
def State.faultDropped (s : State) : State := s.stompAll.dropRequests

theorem State.faultDropped_drops (s : State) : s.Dropped s.faultDropped ∧
    s.Only s.faultDropped [.regs, .cnts, .fresh, .data, .ports, .edge, .twin, .out] := by
  let stomp (c : Nat × Option Tx) (s : State) : State := match c.2 with
    | some t => s.stompOne c.1 t
    | none => s
  have each (c : Nat × Option Tx) (s : State) : s.Only (stomp c s) [.cnts, .fresh, .out] ∧
      ∃ l, (stomp c s).out = l ++ s.out ∧ .pin 5 false ∉ l := by
    obtain ⟨m, _ | x⟩ := c
    · exact ⟨s.only_refl _, [], rfl, by simp⟩
    · exact s.stompOne_sends m x
  have only := forEach_only stomp (fun c s => (each c s).1) s.ports.tx s
  have out : ∃ l, (forEach s.ports.tx stomp s).out = l ++ s.out ∧ .pin 5 false ∉ l := by
    refine forEach_relates (R := fun s t => ∃ l, t.out = l ++ s.out ∧ .pin 5 false ∉ l) (fun s => ⟨[], rfl, by simp⟩) ?_ stomp s.ports.tx
      (fun c _ s => (each c s).2) s
    rintro s t u ⟨l, h, no⟩ ⟨l', h', no'⟩
    exact ⟨l' ++ l, by rw [h', h, List.append_assoc], by simp [no, no']⟩
  have eq : s.faultDropped = ((forEach s.ports.tx stomp s).emptied).dropRequests := rfl
  rw [eq]
  generalize forEach s.ports.tx stomp s = u at *
  obtain ⟨clear, queues, tx, rx⟩ := u.emptied_clears
  generalize u.emptied = v at *
  obtain ⟨requests, reqs⟩ := v.dropRequests_drops
  generalize v.dropRequests = w at *
  obtain ⟨l, out, no⟩ := out
  have data : w.data = v.data := requests.keeps State.data rfl
  have ports : w.ports = v.ports := requests.keeps State.ports rfl
  have kept : w.out = u.out := (requests.keeps State.out rfl).trans (clear.keeps State.out rfl)
  exact ⟨⟨by rw [data, queues], by rw [ports, tx], by rw [ports, rx], reqs, l, kept.trans out, no⟩,
    ((only.mono _ (by decide)).comp (clear.mono _ (by decide))).comp (requests.mono _ (by decide))⟩

/-! ## The stages of the reaction -/

/-- A unit that is in a role of the pair leaves it (R425). -/
def State.faultRole (s : State) : State :=
  if s.fld F.PAIR_CFG_MODE = 1 ∧ 2 ≤ s.fld F.PAIR_STATUS_ROLE ∧ s.fld F.PAIR_STATUS_ROLE ≤ 4 then s.setFld F.PAIR_STATUS_ROLE 5 else s

/-- The reaction is noted with its time, its cause and the health record. -/
def State.faultNotes (s : State) (m : SafMode) (code detail : Nat) : State :=
  { s with saf := { s.saf with
      mode := m, enterAt := s.aon, leeTime := s.time.now, leeRate := s.rateAdj, pllWait := code == 6,
      health := (code, detail, s.nowNs) :: s.saf.health } }.setFlds
    [(F.SAF_STATUS_LAST_STATE, if m = SafMode.lee then 1 else 2), (F.SAF_STATUS_LAST_CAUSE, code)]

/-- The loss of a clock is shown. -/
def State.faultClock (s : State) (code detail : Nat) : State :=
  if code = 6 then
    (if 2 ≤ detail ∧ detail ≤ 6 then s.setFld F.CLK_STATUS_MON_FAIL (s.fld F.CLK_STATUS_MON_FAIL ||| 2 ^ (detail - 2)) else s).setFld F.CLK_STATUS_PLL_LOCK 0
  else s

/-- Lee mode takes the egress. -/
def State.faultTakes (s : State) (m : SafMode) (code : Nat) : State :=
  if m = SafMode.lee then (if code = 6 then s.emit (.pin 5 false) else (s.emit (.pin 5 false)).leeTakes) else s

/-- The reaction before Lee mode takes the egress. -/
def State.faultNoted (s : State) (m : SafMode) (code detail : Nat) : State :=
  (((s.faultRole.emit (.pin 4 false)).driveHold false).faultNotes m code detail).faultClock code detail

theorem State.fatalFault_eq (s : State) (code detail : Nat) (normal : s.saf.mode = .normal) : s.fatalFault code detail =
    s.confine [.regs, .cnts, .fresh, .data, .ports, .edge, .twin, .saf, .out]
      ((s.faultDropped.faultNoted s.faultMode code detail).faultTakes s.faultMode code) := by
  unfold State.fatalFault
  rw [if_neg (by rw [normal]; decide)]
  rfl

/-- What the notes leave of a state that holds nothing more. -/
structure State.FaultShown (s t : State) (m : SafMode) (code detail : Nat) : Prop where
  reacts : s.Reacts t
  pin : .pin 4 false ∈ t.out
  hold : t.flag F.PAIR_STATUS_HOLD_OUT = false
  cause : t.fld F.SAF_STATUS_LAST_CAUSE = code
  state : t.fld F.SAF_STATUS_LAST_STATE = if m = .lee then 1 else 2
  mode : t.saf.mode = m
  wait : t.saf.pllWait = (code == 6)
  health : t.saf.health = (code, detail, s.nowNs) :: s.saf.health

theorem State.driveHold_low (s : State) : s.Reacts (s.driveHold false) ∧ (s.driveHold false).flag F.PAIR_STATUS_HOLD_OUT = false ∧
    (s.driveHold false).saf = s.saf ∧ (s.driveHold false).nowNs = s.nowNs := by
  unfold State.driveHold
  split
  · next low => exact ⟨.refl s, low, rfl, rfl⟩
  · have put : s.Only (s.setFld F.PAIR_STATUS_HOLD_OUT (b2n false)) [.regs] := rfl
    exact ⟨(State.reacts_of (put.mono _ (by decide))).emit (by simp), s.flag_setFld_same F.PAIR_STATUS_HOLD_OUT 0 rfl (by decide), rfl, rfl⟩

theorem State.faultNotes_cause (s : State) (m : SafMode) {code : Nat} (detail : Nat) (small : code < 256) :
    (s.faultNotes m code detail).fld F.SAF_STATUS_LAST_CAUSE = code ∧
      (s.faultNotes m code detail).fld F.SAF_STATUS_LAST_STATE = if m = .lee then 1 else 2 := by
  have size : (if m = SafMode.lee then 1 else 2) < 2 ^ 2 := by split <;> decide
  constructor
  · exact (State.fld_setFld_same _ F.SAF_STATUS_LAST_CAUSE code (by decide) (by decide)).trans (Nat.mod_eq_of_lt small)
  · refine State.fld_setFlds_head _ (by decide) (by decide) size ?_
    exact List.forall_mem_singleton.mpr (Fld.apart_mk _ (by decide))

theorem State.faultClock_shows (s : State) (code detail : Nat) : s.Only (s.faultClock code detail) [.regs] ∧
    s.RegsBut (s.faultClock code detail) [K.CLK_STATUS] := by
  unfold State.faultClock
  split
  · split
    · exact ⟨rfl, (s.regsBut_setFld F.CLK_STATUS_MON_FAIL _).comp (State.regsBut_setFld _ F.CLK_STATUS_PLL_LOCK 0)⟩
    · exact ⟨rfl, s.regsBut_setFld F.CLK_STATUS_PLL_LOCK 0⟩
  · exact ⟨s.only_refl _, State.RegsBut.refl s _⟩

theorem State.faultNoted_shows (s : State) (m : SafMode) {code : Nat} (detail : Nat) (small : code < 256) :
    s.FaultShown (s.faultNoted m code detail) m code detail := by
  have role : s.Only s.faultRole [.regs] := by
    unfold State.faultRole
    split <;> rfl
  unfold State.faultNoted
  generalize s.faultRole = a at *
  have pins : s.Reacts (a.emit (.pin 4 false)) := (State.reacts_of (role.mono _ (by decide))).emit (by simp)
  have pin : .pin 4 false ∈ (a.emit (.pin 4 false)).out := List.mem_cons_self
  have time : (a.emit (.pin 4 false)).nowNs = s.nowNs := congrArg (fun t => t.now / fracPerNs) (role.keeps State.time rfl)
  have health : (a.emit (.pin 4 false)).saf = s.saf := role.keeps State.saf rfl
  generalize a.emit (.pin 4 false) = b at *
  obtain ⟨held, low, same, now⟩ := b.driveHold_low
  generalize b.driveHold false = c at *
  have noted : c.Only (c.faultNotes m code detail) [.regs, .saf] := rfl
  obtain ⟨cause, state⟩ := c.faultNotes_cause m detail small
  have regs : c.RegsBut (c.faultNotes m code detail) [K.SAF_STATUS] := State.regsBut_setFlds _ (by simp [F.SAF_STATUS_LAST_STATE, F.SAF_STATUS_LAST_CAUSE])
  have mode : (c.faultNotes m code detail).saf.mode = m := rfl
  have wait : (c.faultNotes m code detail).saf.pllWait = (code == 6) := rfl
  have record : (c.faultNotes m code detail).saf.health = (code, detail, c.nowNs) :: c.saf.health := rfl
  generalize c.faultNotes m code detail = d at *
  have clock : d.Only (d.faultClock code detail) [.regs] ∧ d.RegsBut (d.faultClock code detail) [K.CLK_STATUS] := d.faultClock_shows code detail
  obtain ⟨clock, status⟩ := clock
  generalize d.faultClock code detail = e at *
  have saf : e.saf = d.saf := clock.keeps State.saf rfl
  have after : b.Reacts e := (held.comp (State.reacts_of noted)).comp (State.reacts_of (clock.mono _ (by decide)))
  exact {
    reacts := pins.comp after
    pin := after.sent pin
    hold := by rw [status.flag (by decide), regs.flag (by decide)]; exact low
    cause := by rw [status.fld (by decide)]; exact cause
    state := by rw [status.fld (by decide)]; exact state
    mode := by rw [saf, mode]
    wait := by rw [saf, wait]
    health := by rw [saf, record, now, time, same, health] }

/-! ## The whole reaction -/

/-- What a fatal fault leaves (R397, R398). -/
structure State.Fatal (s t : State) (code detail : Nat) : Prop where
  only : s.Only t [.regs, .cnts, .fresh, .data, .ports, .edge, .twin, .saf, .out]
  mode : t.saf.mode = s.faultMode
  cause : t.fld F.SAF_STATUS_LAST_CAUSE = code
  state : t.fld F.SAF_STATUS_LAST_STATE = if s.faultMode = .lee then 1 else 2
  hold : t.flag F.PAIR_STATUS_HOLD_OUT = false
  pin : .pin 4 false ∈ t.out
  lee : s.faultMode = .lee → .pin 5 false ∈ t.out
  halted : s.faultMode ≠ .lee → ∃ l, t.out = l ++ s.out ∧ .pin 5 false ∉ l
  dropped : t.data.queues = [] ∧ t.ports.tx = [] ∧ t.ports.rx = [] ∧ ∀ n, (t.can n).reqs = []
  health : t.saf.health = (code, detail, s.nowNs) :: s.saf.health
  wait : t.saf.pllWait = (code == 6)
  wakes : s.faultMode = .lee → code ≠ 6 → t.asleepMask = 0

/-- A unit whose fault is noted drops to Lee mode or stops. -/
theorem State.faultTakes_takes {s t : State} {m : SafMode} {code detail : Nat} (h : s.FaultShown t m code detail) :
    s.Only (t.faultTakes m code) [.regs, .edge, .saf, .out] ∧ (t.faultTakes m code).saf = t.saf ∧
      (∀ k, 0x280004 ≤ k → (t.faultTakes m code).reg k = t.reg k) ∧ (∀ o ∈ t.out, o ∈ (t.faultTakes m code).out) ∧
      (∀ n, ((t.faultTakes m code).can n).reqs = (s.can n).reqs) ∧
      (m = .lee → .pin 5 false ∈ (t.faultTakes m code).out) ∧ (m = .lee → code ≠ 6 → (t.faultTakes m code).asleepMask = 0) ∧
      (m ≠ .lee → t.faultTakes m code = t) := by
  unfold State.faultTakes
  by_cases lee : m = .lee
  · have pin : t.Only (t.emit (.pin 5 false)) [.regs, .edge, .saf, .out] := rfl
    rw [if_pos lee]
    by_cases clock : code = 6
    · rw [if_pos clock]
      exact ⟨h.reacts.only.comp pin, rfl, fun _ _ => rfl, fun o ho => List.mem_cons_of_mem _ ho, fun n => h.reacts.reqs n,
        fun _ => List.mem_cons_self, fun _ other => absurd clock other, fun other => absurd lee other⟩
    · rw [if_neg clock]
      obtain ⟨reacts, asleep, saf, regs⟩ := (t.emit (.pin 5 false)).wakeAll_wakes
      exact ⟨(h.reacts.only.comp pin).comp reacts.only, saf, regs, fun o ho => reacts.sent (List.mem_cons_of_mem _ ho),
        fun n => (reacts.reqs n).trans (h.reacts.reqs n), fun _ => reacts.sent List.mem_cons_self, fun _ _ => asleep,
        fun other => absurd lee other⟩
  · rw [if_neg lee]
    exact ⟨h.reacts.only, rfl, fun _ _ => rfl, fun _ ho => ho, h.reacts.reqs, fun yes => absurd yes lee, fun yes => absurd yes lee, fun _ => rfl⟩

theorem State.fatalFault_fatal (s : State) {code : Nat} (detail : Nat) (small : code < 256) (normal : s.saf.mode = .normal) :
    s.Fatal (s.fatalFault code detail) code detail := by
  obtain ⟨drops, only⟩ := s.faultDropped_drops
  have now : s.faultDropped.nowNs = s.nowNs := congrArg (fun t => t.now / fracPerNs) (only.keeps State.time rfl)
  have saf : s.faultDropped.saf = s.saf := only.keeps State.saf rfl
  have shown := s.faultDropped.faultNoted_shows s.faultMode detail small
  rw [s.fatalFault_eq code detail normal]
  generalize s.faultDropped = u at *
  generalize u.faultNoted s.faultMode code detail = v at *
  obtain ⟨takes, safTakes, regs, sent, reqs, pin, wakes, stays⟩ := State.faultTakes_takes shown
  generalize v.faultTakes s.faultMode code = w at *
  have whole : s.Only w [.regs, .cnts, .fresh, .data, .ports, .edge, .twin, .saf, .out] := (only.mono _ (by decide)).comp (takes.mono _ (by decide))
  have data : w.data = u.data := takes.keeps State.data rfl
  have ports : w.ports = u.ports := takes.keeps State.ports rfl
  rw [whole.confine _ (by decide)]
  exact {
    only := whole
    mode := by rw [safTakes, shown.mode]
    cause := (State.fld_of_reg (regs K.SAF_STATUS (by decide))).trans shown.cause
    state := (State.fld_of_reg (regs K.SAF_STATUS (by decide))).trans shown.state
    hold := (State.flag_of_reg (regs K.PAIR_STATUS (by decide))).trans shown.hold
    pin := sent _ shown.pin
    lee := pin
    halted := fun other => by
      rw [stays other]
      exact (drops.reacts shown.reacts).out
    dropped := ⟨by rw [data, drops.queues], by rw [ports, drops.tx], by rw [ports, drops.rx], fun n => (reqs n).trans (drops.reqs n)⟩
    health := by rw [safTakes, shown.health, now, saf]
    wait := by rw [safTakes, shown.wait]
    wakes := wakes }

theorem State.Fatal.stops {s t : State} {code detail : Nat} (h : s.Fatal t code detail) : t.saf.mode ≠ .normal := by
  rw [h.mode]
  unfold State.faultMode
  split <;> decide

/-- A fault that a check found after it was counted. -/
theorem State.Fatal.before {s u t : State} {code detail : Nat} (h : u.Fatal t code detail) (only : s.Only u [.cnts]) :
    s.Only t [.regs, .cnts, .fresh, .data, .ports, .edge, .twin, .saf, .out] := (only.mono _ (by decide)).comp h.only

section
variable {s : State} {code detail : Nat} (hp : s.powered = true)
include hp

theorem exec_fatalFault_reacts (hc : fatalCodes.contains code = true) (normal : s.saf.mode = .normal) :
    ∃ t, exec (.fatalFault code detail) s = .next t ∧ s.Only t [.regs, .cnts, .fresh, .data, .ports, .edge, .twin, .saf, .out] ∧
      t.saf.mode = (if s.fld F.BOOT_STATUS_STATE = 0xB ∧ s.heldPort 0 = false ∧
        s.partnerReady = false then .lee else .halted) ∧
      t.fld F.SAF_STATUS_LAST_CAUSE = code ∧
      t.fld F.SAF_STATUS_LAST_STATE = (if t.saf.mode = .lee then 1 else 2) ∧
      t.flag F.PAIR_STATUS_HOLD_OUT = false ∧ .pin 4 false ∈ t.out ∧ (t.saf.mode = .lee → .pin 5 false ∈ t.out) ∧
      t.data.queues = [] ∧ t.ports.tx = [] ∧ t.ports.rx = [] ∧ (∀ n, n < 24 → (t.can n).reqs = []) ∧
      t.saf.health = (code, detail, s.nowNs) :: s.saf.health ∧ t.evtPin = true ∧ t.mcRuns = false ∧
      (t.saf.mode = .lee → code ≠ 6 → t.asleepMask = 0 ∧ t.leeOn = true) ∧ (code = 6 → t.leeOn = false) ∧
      (t.saf.mode = .halted → t.leeOn = false ∧ ∀ l, t.out = l ++ s.out → .pin 5 false ∉ l) := by
  have small : code < 256 := by
    have all : ∀ c ∈ fatalCodes, c < 256 := by decide
    exact all code (by simpa using hc)
  have fatal := s.fatalFault_fatal detail small normal
  have run := exec_fatalFault s code detail hc hp
  rw [fatal.only.confine _ (by decide)] at run
  have stops := fatal.stops
  generalize s.fatalFault code detail = t at *
  obtain ⟨queues, tx, rx, reqs⟩ := fatal.dropped
  have mode := fatal.mode
  have which : s.faultMode = if s.fld F.BOOT_STATUS_STATE = 0xB ∧ s.heldPort 0 = false ∧ s.partnerReady = false then .lee else .halted := by
    unfold State.faultMode State.forwarding
    by_cases boot : s.fld F.BOOT_STATUS_STATE = 0xB <;> cases held : s.heldPort 0 <;> cases ready : s.partnerReady <;> simp [boot]
  rw [← mode] at which
  refine ⟨t, run, fatal.only, which, fatal.cause, by rw [mode]; exact fatal.state, fatal.hold, fatal.pin, fun lee => fatal.lee (by rw [← mode]; exact lee),
    queues, tx, rx, fun n _ => reqs n, fatal.health, ?_, ?_, fun lee other => ⟨fatal.wakes (by rw [← mode]; exact lee) other, ?_⟩, fun six => ?_,
    fun halted => ⟨?_, fun l out => ?_⟩⟩
  · simp [State.evtPin, stops]
  · simp [State.mcRuns, stops]
  · simp [State.leeOn, lee, fatal.wait, other]
  · simp [State.leeOn, fatal.wait, six]
  · simp [State.leeOn, halted]
  · obtain ⟨l', out', no⟩ := fatal.halted (by rw [← mode, halted]; decide)
    rw [List.append_cancel_right (out.symm.trans out')]
    exact no

end

/-! ## Events of the safety block -/

theorem State.safEvent_notes (s : State) (code detail : Nat) : s.RegsBut (s.safEvent code detail) journalKeys ∧
    s.CntsBut (s.safEvent code detail) (C.saf 14 :: eventCounters) ∧ (s.safEvent code detail).cnt (C.saf 14) = s.cnt (C.saf 14) + 1 ∧
    (s.safLog.length < 64 → (s.safEvent code detail).safLog = s.safLog ++ [BitVec.ofNat 32 (code * 0x1000000 + detail % 0x1000000)]) := by
  have counted := s.cntsBut_inc (C.saf 14)
  have one := s.cnt_inc_same (C.saf 14)
  have log : (s.inc (C.saf 14)).safLog = s.safLog := rfl
  have regs : (s.inc (C.saf 14)).regs = s.regs := rfl
  unfold State.safEvent
  dsimp only
  generalize s.inc (C.saf 14) = u at *
  split
  · next full =>
    exact ⟨State.regsBut_of_regs regs _, counted.mono (by simp), one, fun short => absurd full (by rw [log]; omega)⟩
  · obtain ⟨v, hv⟩ : ∃ v : State, v = { u with safLog := u.safLog ++ [BitVec.ofNat 32 (code * 0x1000000 + detail % 0x1000000)] } := ⟨_, rfl⟩
    have safLog : v.safLog = s.safLog ++ [BitVec.ofNat 32 (code * 0x1000000 + detail % 0x1000000)] := by rw [hv, ← log]
    have kept : v.regs = s.regs ∧ v.cnts = u.cnts := by rw [hv]; exact ⟨regs, rfl⟩
    rw [← hv]
    generalize (BitVec.ofNat 32 (code * 0x1000000 + detail % 0x1000000)).toNat = w
    have raised := v.raise_cntsBut (0xE00 + code) (beBytes 4 w)
    have before : s.CntsBut v (C.saf 14 :: eventCounters) := fun a ha =>
      (State.cnt_congr kept.2 a).trans (counted a (fun h => ha (by rw [List.mem_singleton.mp h]; exact List.mem_cons_self)))
    refine ⟨(v.raise_regsBut _ _).from kept.1, before.comp (raised.mono (fun a ha => List.mem_cons_of_mem _ ha)), ?_,
      fun _ => ((v.raise_only _ _).keeps State.safLog rfl).trans safLog⟩
    exact (raised _ (by decide)).trans ((State.cnt_congr kept.2 _).trans one)

/-- A check counted what it found and raised an event of the safety block. -/
theorem State.safEvent_counts (s : State) {k : Nat} (hk : C.saf k ∉ C.saf 14 :: eventCounters) (code detail : Nat) :
    s.Only ((s.inc (C.saf k)).safEvent code detail) [.regs, .cnts, .safLog, .mgt, .key] ∧
      ((s.inc (C.saf k)).safEvent code detail).cnt (C.saf k) = s.cnt (C.saf k) + 1 ∧
      ((s.inc (C.saf k)).safEvent code detail).cnt (C.saf 14) = s.cnt (C.saf 14) + 1 ∧
      s.RegsBut ((s.inc (C.saf k)).safEvent code detail) journalKeys ∧
      s.CntsBut ((s.inc (C.saf k)).safEvent code detail) (C.saf k :: C.saf 14 :: eventCounters) := by
  have counted : s.Only (s.inc (C.saf k)) [.regs, .cnts, .safLog, .mgt, .key] := rfl
  have one := s.cnt_inc_same (C.saf k)
  have cnts := s.cntsBut_inc (C.saf k)
  have regs : (s.inc (C.saf k)).regs = s.regs := rfl
  generalize s.inc (C.saf k) = u at *
  obtain ⟨regs', cnts', one', _⟩ := u.safEvent_notes code detail
  refine ⟨counted.comp (u.safEvent_only code detail), (cnts' _ hk).trans one, one'.trans (by rw [cnts]; simpa using fun h => hk (by rw [h]; simp)),
    regs'.from regs, (cnts.mono (by simp)).comp (cnts'.mono (fun a ha => List.mem_cons_of_mem _ ha))⟩

/-! ## Digests, scrubs and monitors of a running unit -/

section
variable {s : State} (hp : s.powered = true)

theorem State.digests_taken (none_ : s.saf.digests = []) : { s with saf := { s.saf with digests := [] } } = s := by
  rw [← none_]

theorem find_bit (g : Nat) (hg : g < 32) : (List.range 32).filter (fun i => (2 ^ g).testBit i || ([] : List Nat).contains i) = [g] := by
  have all : ∀ g ∈ List.range 32, (List.range 32).filter (fun i => (2 ^ g).testBit i || ([] : List Nat).contains i) = [g] := by decide
  exact all g (List.mem_range.mpr hg)

/-- The compare of one group that differs. -/
theorem State.digestCompare_one (none_ : s.saf.digests = []) {g : Nat} (hg : g < 32) : s.digestCompare (2 ^ g) =
    if g < 24 ∨ (s.fld F.SAF_DIGEST_MODE_REPORT).testBit (g - 24) = false then s.fatalFault 2 g
    else (s.inc (C.saf 7)).safEvent 2 g := by
  have one := find_bit g hg
  unfold State.digestCompare
  simp only [none_, one, State.digests_taken none_]
  by_cases fatal : g < 24 ∨ (s.fld F.SAF_DIGEST_MODE_REPORT).testBit (g - 24) = false
  · have found : (decide (g < 24) || !(s.fld F.SAF_DIGEST_MODE_REPORT).testBit (g - 24)) = true := by simpa using fatal
    rw [if_pos fatal]
    simp only [List.find?_cons, found]
  · have found : (decide (g < 24) || !(s.fld F.SAF_DIGEST_MODE_REPORT).testBit (g - 24)) = false := by simpa using fatal
    rw [if_neg fatal]
    simp only [List.find?_cons, found, List.find?_nil]
    rfl

/-- What an uncorrectable word of the buffer memory leaves, whatever it held. -/
theorem State.bufError_found (s : State) (h : Nat) {err : BufErr} (found : err ≠ .none ∧ err ≠ .nodeList) :
    s.Only (s.bufError h err) [.regs, .cnts, .bufLog, .safLog, .data, .mgt, .key] ∧
      (s.bufError h err).cnt (C.saf 2) = s.cnt (C.saf 2) + 1 ∧ (s.bufError h err).cnt (C.saf 14) = s.cnt (C.saf 14) + 1 ∧
      (∀ f, err = .descriptor → s.frame h = some f → (s.bufError h err).frame h = some { f with live := false }) ∧
      (∀ f k, err = .linkWord k → s.frame h = some f → (s.bufError h err).frame h = some { f with badLink := some k }) := by
  obtain ⟨only, two, fourteen, -, -⟩ := s.safEvent_counts (k := 2) (by decide) 0x11 h
  have data : ((s.inc (C.saf 2)).safEvent 0x11 h).data = s.data := only.keeps State.data rfl
  have stays (u w : State) (kept : u.Only w [.regs, .cnts, .bufLog, .data, .mgt, .key]) (cnts : u.CntsBut w (C.buf 15 :: C.buf 16 :: eventCounters))
      (eq : (s.inc (C.saf 2)).safEvent 0x11 h = u) : s.Only w [.regs, .cnts, .bufLog, .safLog, .data, .mgt, .key] ∧
      w.cnt (C.saf 2) = s.cnt (C.saf 2) + 1 ∧ w.cnt (C.saf 14) = s.cnt (C.saf 14) + 1 := by
    subst eq
    exact ⟨(only.mono _ (by decide)).comp (kept.mono _ (by decide)), (cnts _ (by decide)).trans two, (cnts _ (by decide)).trans fourteen⟩
  have noted (u : State) (c i : Nat) {a : Nat} (ha : a = C.buf 15 ∨ a = C.buf 16) :
      u.Only ((u.bufEvent c i).inc a) [.regs, .cnts, .bufLog, .data, .mgt, .key] ∧
      u.CntsBut ((u.bufEvent c i).inc a) (C.buf 15 :: C.buf 16 :: eventCounters) ∧ ((u.bufEvent c i).inc a).data = u.data := by
    obtain ⟨kept, -, cnts⟩ := (u.bufEvent_holdKept c i).1
    refine ⟨kept.comp (t := u.bufEvent c i) rfl, ?_, u.bufEvent_data c i⟩
    exact (cnts.mono (fun k hk => by simp [hk])).comp (((u.bufEvent c i).cntsBut_inc a).mono (by rcases ha with rfl | rfl <;> simp))
  have framed (u : State) (c i : Nat) (g : Frame → Frame) : u.Only (((u.bufEvent c i).inc (C.buf 16)).modFrame h g) [.regs, .cnts, .bufLog, .data, .mgt, .key] ∧
      u.CntsBut (((u.bufEvent c i).inc (C.buf 16)).modFrame h g) (C.buf 15 :: C.buf 16 :: eventCounters) ∧
      ∀ f, u.frame h = some f → (((u.bufEvent c i).inc (C.buf 16)).modFrame h g).frame h = some (g f) := by
    obtain ⟨only', cnts', data'⟩ := noted u c i (.inr rfl)
    generalize (u.bufEvent c i).inc (C.buf 16) = v at *
    obtain ⟨kept, -, cnts⟩ := (v.modFrame_holdKept h g).1
    refine ⟨only'.comp kept, cnts'.comp (cnts.mono (fun k hk => by simp [hk])), fun f hf => ?_⟩
    have here : v.frame h = some f := by rw [State.frame, data']; exact hf
    rw [State.modFrame, here]
    exact mapGet_mapSet_same (fun _ => none) v.data.frames h (some (g f))
  have frame (f : Frame) (hf : s.frame h = some f) : ((s.inc (C.saf 2)).safEvent 0x11 h).frame h = some f := by
    rw [State.frame, data]; exact hf
  cases err with
  | none => exact absurd rfl found.1
  | nodeList => exact absurd rfl found.2
  | cellData k =>
    have eq : s.bufError h (.cellData k) = ((((s.inc (C.saf 2)).safEvent 0x11 h).bufEvent 1 (((s.inc (C.saf 2)).safEvent 0x11 h).cellAt h k)).inc
      (C.buf 15)).markCell h k := rfl
    obtain ⟨only', cnts', -⟩ := noted ((s.inc (C.saf 2)).safEvent 0x11 h) 1 (((s.inc (C.saf 2)).safEvent 0x11 h).cellAt h k) (.inl rfl)
    rw [eq]
    generalize (((s.inc (C.saf 2)).safEvent 0x11 h).bufEvent 1 (((s.inc (C.saf 2)).safEvent 0x11 h).cellAt h k)).inc (C.buf 15) = v at *
    obtain ⟨kept, -, cnts⟩ := v.markCell_bufKept h k
    obtain ⟨all, two', fourteen'⟩ := stays _ (v.markCell h k) (only'.comp kept) (cnts'.comp (cnts.mono (fun k hk => by simp [hk]))) rfl
    exact ⟨all, two', fourteen', fun f same => by simp at same, fun f k same => by simp at same⟩
  | linkWord k =>
    obtain ⟨only', cnts', frame'⟩ := framed ((s.inc (C.saf 2)).safEvent 0x11 h) 2 (((s.inc (C.saf 2)).safEvent 0x11 h).cellAt h k)
      (fun f => { f with badLink := some k })
    obtain ⟨all, two', fourteen'⟩ := stays _ _ only' cnts' rfl
    exact ⟨all, two', fourteen', fun f same => by simp at same, fun f j same hf => by
      obtain rfl := BufErr.linkWord.inj same
      exact frame' f (frame f hf)⟩
  | descriptor =>
    obtain ⟨only', cnts', frame'⟩ := framed ((s.inc (C.saf 2)).safEvent 0x11 h) 3 h (fun f => { f with live := false })
    obtain ⟨all, two', fourteen'⟩ := stays _ _ only' cnts' rfl
    exact ⟨all, two', fourteen', fun f _ hf => frame' f (frame f hf), fun f k same => by simp at same⟩
  | mapWord w =>
    let each (k : Nat) (s : State) : State := if (s.cell k).state = .free then s.setCell k { s.cell k with map := false } else s
    have eq : s.bufError h (.mapWord w) = forEach ((List.range 32).map (fun i => 32 * w + i)) each ((s.inc (C.saf 2)).safEvent 0x11 h) := rfl
    have kept : State.BufKept ((s.inc (C.saf 2)).safEvent 0x11 h) (forEach ((List.range 32).map (fun i => 32 * w + i)) each ((s.inc (C.saf 2)).safEvent 0x11 h)) := by
      refine forEach_bufKept each (fun k s => ?_) _ _
      unfold each
      split
      · exact s.bufKept_data _
      · exact .refl s
    rw [eq]
    obtain ⟨kept, -, cnts⟩ := kept
    obtain ⟨all, two', fourteen'⟩ := stays _ _ kept (cnts.mono (fun k hk => by simp [hk])) rfl
    exact ⟨all, two', fourteen', fun f same => by simp at same, fun f k same => by simp at same⟩

include hp

/-- A scrub that leaves a state within the footprint of its command. -/
theorem exec_scrubVisit_runs {find : ScrubFind} (hw : scrubOk find = true) {t : State} (effect : s.scrubVisit find = t)
    (only : s.Only t [.regs, .cnts, .fresh, .bufLog, .safLog, .data, .ports, .mgt, .edge, .nm, .twin, .key, .saf, .boot, .out]) :
    exec (.scrubVisit find) s = .next t := by
  have run := exec_scrubVisit s find hw hp
  rwa [effect, only.confine _ (by decide)] at run

theorem exec_scrubVisit_counts {find : ScrubFind} (hw : scrubOk find = true) {k : Nat} (effect : s.scrubVisit find = s.inc (C.saf k)) :
    ∃ t, exec (.scrubVisit find) s = .next t ∧ t.cnt (C.saf k) = s.cnt (C.saf k) + 1 ∧ s.CntsBut t [C.saf k] ∧ s.Only t [.cnts] :=
  have only : s.Only (s.inc (C.saf k)) [.cnts] := rfl
  ⟨_, exec_scrubVisit_runs hp hw effect (only.mono _ (by decide)), s.cnt_inc_same _, s.cntsBut_inc _, only⟩

theorem exec_scrubVisit_single {e : Nat} (he : e < 2816) :
    ∀ x ∈ [(ScrubFind.sramSingle, 0), (.mramSingle, 1), (.tcam e, 4), (.voted, 8)],
      ∃ t, exec (.scrubVisit x.1) s = .next t ∧ t.cnt (C.saf x.2) = s.cnt (C.saf x.2) + 1 ∧ s.CntsBut t [C.saf x.2] ∧ s.Only t [.cnts] := by
  simp only [List.forall_mem_cons, List.not_mem_nil, false_imp_iff, implies_true, and_true]
  exact ⟨exec_scrubVisit_counts hp rfl rfl, exec_scrubVisit_counts hp rfl rfl, exec_scrubVisit_counts (find := .tcam e) hp (decide_eq_true he) rfl,
    exec_scrubVisit_counts hp rfl rfl⟩

theorem exec_scrubVisit_mram (a : Nat) : ∃ t, exec (.scrubVisit (.mramDouble none a)) s = .next t ∧ t.cnt (C.saf 3) = s.cnt (C.saf 3) + 1 ∧
    t.cnt (C.saf 14) = s.cnt (C.saf 14) + 1 ∧ s.Only t [.regs, .cnts, .safLog, .mgt, .key] := by
  obtain ⟨only, three, fourteen, -, -⟩ := s.safEvent_counts (k := 3) (by decide) 0x19 a
  exact ⟨_, exec_scrubVisit_runs hp rfl rfl (only.mono _ (by decide)), three, fourteen, only⟩

theorem exec_scrubVisit_nodes {q : Nat} (hq : q < 280) :
    ∃ t, exec (.scrubVisit (.buffer q .nodeList)) s = .next t ∧ (t.qs q).quar = true ∧ t.cnt (C.saf 2) = s.cnt (C.saf 2) + 1 ∧
      t.cnt (C.saf 14) = s.cnt (C.saf 14) + 1 ∧ s.Only t [.regs, .cnts, .bufLog, .safLog, .data, .mgt, .key] := by
  obtain ⟨only, two, fourteen, -, -⟩ := s.safEvent_counts (k := 2) (by decide) 0x11 q
  have effect : s.scrubVisit (.buffer q .nodeList) = ((((s.inc (C.saf 2)).safEvent 0x11 q).bufEvent 9 q).inc (C.buf 16)).quarantine q := rfl
  obtain ⟨kept, -, cnts⟩ := (((s.inc (C.saf 2)).safEvent 0x11 q).bufEvent_holdKept 9 q).1
  have more := (((s.inc (C.saf 2)).safEvent 0x11 q).bufEvent 9 q).cntsBut_inc (C.buf 16)
  have counted : (((s.inc (C.saf 2)).safEvent 0x11 q).bufEvent 9 q).Only ((((s.inc (C.saf 2)).safEvent 0x11 q).bufEvent 9 q).inc (C.buf 16)) bufParts := rfl
  generalize (s.inc (C.saf 2)).safEvent 0x11 q = u at *
  generalize u.bufEvent 9 q = v at *
  generalize v.inc (C.buf 16) = w at *
  have quar : ((w.setQs q { w.qs q with quar := true }).qs q).quar = true :=
    congrArg QState.quar (mapGet_mapSet_same (fun _ => QState.fresh) w.data.qst q { w.qs q with quar := true })
  have put : w.Only (w.setQs q { w.qs q with quar := true }) bufParts := rfl
  have same : (w.setQs q { w.qs q with quar := true }).cnts = w.cnts := rfl
  have ends : w.quarantine q = (w.setQs q { w.qs q with quar := true }).bufEvent 4 q := rfl
  rw [ends] at effect
  generalize w.setQs q { w.qs q with quar := true } = x at *
  obtain ⟨⟨kept', -, cnts'⟩, -⟩ := x.bufEvent_holdKept 4 q
  have qs : ((x.bufEvent 4 q).qs q).quar = true := by rw [State.qs, x.bufEvent_data]; exact quar
  have whole : s.Only (x.bufEvent 4 q) [.regs, .cnts, .bufLog, .safLog, .data, .mgt, .key] :=
    (((only.mono _ (by decide)).comp (kept.mono _ (by decide))).comp (counted.mono _ (by decide))).comp
      ((put.mono _ (by decide)).comp (kept'.mono _ (by decide)))
  have cnt (a : Nat) (ha : a ∉ C.buf 16 :: eventCounters) : (x.bufEvent 4 q).cnt a = u.cnt a := by
    obtain ⟨other, rest⟩ := not_or.mp (fun h => ha (List.mem_cons.mpr h))
    rw [cnts' a rest, State.cnt_congr same, more a (by simpa using other), cnts a rest]
  exact ⟨_, exec_scrubVisit_runs (find := .buffer q .nodeList) hp (decide_eq_true hq) effect (whole.mono _ (by decide)), qs, (cnt _ (by decide)).trans two,
    (cnt _ (by decide)).trans fourteen, whole⟩

theorem exec_scrubVisit_buffer {h : Nat} (hh : h < 131072) {err : BufErr} (found : err ≠ .none ∧ err ≠ .nodeList) :
    ∃ t, exec (.scrubVisit (.buffer h err)) s = .next t ∧ t.cnt (C.saf 2) = s.cnt (C.saf 2) + 1 ∧
      t.cnt (C.saf 14) = s.cnt (C.saf 14) + 1 ∧ s.Only t [.regs, .cnts, .bufLog, .safLog, .data, .mgt, .key] ∧
      (∀ f, err = .descriptor → s.frame h = some f → t.frame h = some { f with live := false }) ∧
      (∀ f k, err = .linkWord k → s.frame h = some f → t.frame h = some { f with badLink := some k }) := by
  obtain ⟨only, two, fourteen, descriptor, link⟩ := s.bufError_found h found
  have effect : s.scrubVisit (.buffer h err) = s.bufError h err := by
    cases err with
    | nodeList => exact absurd rfl found.2
    | none | cellData k | linkWord k | descriptor | mapWord k => rfl
  have ok : scrubOk (.buffer h err) = true := by
    simp only [scrubOk, if_neg found.2, decide_eq_true_eq]
    exact hh
  exact ⟨_, exec_scrubVisit_runs hp ok effect (only.mono _ (by decide)), two, fourteen, only, descriptor, link⟩

theorem exec_scrubVisit_aon {n k : Nat} (hk : aonFields[n]? = some k) :
    ∃ t, exec (.scrubVisit (.aonField n)) s = .next t ∧ t.reg k = resetWord k ∧ t.cnt (C.saf 14) = s.cnt (C.saf 14) + 1 := by
  have mem : k ∈ aonFields := List.mem_of_getElem? hk
  have apart : ∀ j ∈ aonFields, j ∉ groupKeys ∧ j ∉ journalKeys := by decide
  have effect : s.scrubVisit (.aonField n) = ((s.setReg k (resetWord k)).afterHard s.hardMask).safEvent 0x22 n := by
    show s.aonParity n = _
    unfold State.aonParity
    rw [hk]
  have put := s.reg_setReg_same k (resetWord k)
  have first : s.Only (s.setReg k (resetWord k)) [.regs] := rfl
  unfold State.afterHard at effect
  generalize s.setReg k (resetWord k) = u at *
  obtain ⟨timed, regs, -, -⟩ := u.restartTimers_restarts (s.hardMask &&& notMask u.hardMask)
  generalize u.restartTimers (s.hardMask &&& notMask u.hardMask) = v at *
  obtain ⟨regs', -, count, -⟩ := v.safEvent_notes 0x22 n
  have only : s.Only (v.safEvent 0x22 n) [.regs, .cnts, .safLog, .mgt, .nm, .key] :=
    ((first.mono _ (by decide)).comp (timed.mono _ (by decide))).comp ((v.safEvent_only 0x22 n).mono _ (by decide))
  have index : n < aonFields.length := (List.getElem?_eq_some_iff.mp hk).1
  refine ⟨_, exec_scrubVisit_runs (find := .aonField n) hp (decide_eq_true index) effect (only.mono _ (by decide)), ?_, ?_⟩
  · rw [regs' k (apart k mem).2, regs k (apart k mem).1, put]
  · rw [count, State.cnt_congr (timed.keeps State.cnts rfl), State.cnt_congr (first.keeps State.cnts rfl)]

/-- A scrub whose find is fatal is counted first. -/
theorem exec_scrubVisit_fatal {find : ScrubFind} (hw : scrubOk find = true) {code a : Nat} (small : code < 256) (normal : s.saf.mode = .normal)
    (effect : s.scrubVisit find = (s.inc (C.saf 2)).fatalFault code a) :
    ∃ t, exec (.scrubVisit find) s = .next t ∧
      s.Only t [.regs, .cnts, .fresh, .safLog, .data, .ports, .mgt, .edge, .twin, .key, .saf, .out] ∧
      t.fld F.SAF_STATUS_LAST_CAUSE = code ∧ t.saf.mode ≠ .normal := by
  have fatal := (s.inc (C.saf 2)).fatalFault_fatal a small normal
  have only := fatal.before (s := s) rfl
  exact ⟨_, exec_scrubVisit_runs hp hw effect (only.mono _ (by decide)), only.mono _ (by decide), fatal.cause, fatal.stops⟩

theorem exec_scrubVisit_fdbDynamic {i : Nat} (hi : i < 32768) {e : FdbEntry} (at_ : s.fdbAt i = some e) (dynamic : e.static = false)
    (normal : s.saf.mode = .normal) :
    ∃ t, exec (.scrubVisit (.fdb i)) s = .next t ∧
      s.Only t [.regs, .cnts, .fresh, .safLog, .data, .ports, .mgt, .edge, .twin, .key, .saf, .out] ∧ t.fdbAt i = none ∧
      (∀ j, j ≠ i → t.fdbAt j = s.fdbAt j) ∧
      t.cnt (C.saf 5) = s.cnt (C.saf 5) + 1 ∧ t.cnt (C.saf 2) = s.cnt (C.saf 2) + 1 ∧ t.saf.mode = .normal := by
  have effect : s.scrubVisit (.fdb i) = (((s.inc (C.saf 2)).setFdb i none).inc (C.saf 5)).safEvent 0x12 i := by
    have here : (s.inc (C.saf 2)).fdbAt i = some e := at_
    show s.fdbUncorr i = _
    simp only [State.fdbUncorr, here, dynamic, Bool.false_eq_true, if_false]
  have two := s.cnt_inc_same (C.saf 2)
  have five := s.cntsBut_inc (C.saf 2)
  have first : s.Only ((s.inc (C.saf 2)).setFdb i none) [.cnts, .data] := rfl
  have here : ((s.inc (C.saf 2)).setFdb i none).fdbAt i = none := mapGet_mapSet_same (fun _ => none) s.data.fdb i none
  have others (j : Nat) (hj : j ≠ i) : ((s.inc (C.saf 2)).setFdb i none).fdbAt j = s.fdbAt j :=
    mapGet_mapSet_other (fun _ => none) s.data.fdb none hj.symm
  have same : ((s.inc (C.saf 2)).setFdb i none).cnts = (s.inc (C.saf 2)).cnts := rfl
  generalize (s.inc (C.saf 2)).setFdb i none = u at *
  generalize s.inc (C.saf 2) = v at *
  obtain ⟨only, count, -, -, cnts⟩ := u.safEvent_counts (k := 5) (by decide) 0x12 i
  generalize (u.inc (C.saf 5)).safEvent 0x12 i = t at *
  have whole : s.Only t [.regs, .cnts, .safLog, .data, .mgt, .key] := (first.mono _ (by decide)).comp (only.mono _ (by decide))
  have data : t.data = u.data := only.keeps State.data rfl
  refine ⟨t, exec_scrubVisit_runs (find := .fdb i) hp (decide_eq_true hi) effect (whole.mono _ (by decide)), whole.mono _ (by decide), ?_, fun j hj => ?_, ?_, ?_, ?_⟩
  · rw [State.fdbAt, data]; exact here
  · rw [State.fdbAt, data]; exact others j hj
  · rw [count, State.cnt_congr same, five _ (by decide)]
  · rw [cnts _ (by decide), State.cnt_congr same, two]
  · rw [whole.keeps State.saf rfl]; exact normal

theorem exec_scrubVisit_fdbStatic {i : Nat} (hi : i < 32768) {e : FdbEntry} (at_ : s.fdbAt i = some e) (static : e.static = true)
    (normal : s.saf.mode = .normal) :
    ∃ t, exec (.scrubVisit (.fdb i)) s = .next t ∧
      s.Only t [.regs, .cnts, .fresh, .safLog, .data, .ports, .mgt, .edge, .twin, .key, .saf, .out] ∧
      t.fld F.SAF_STATUS_LAST_CAUSE = 0x13 ∧ t.saf.mode ≠ .normal := by
  have effect : s.scrubVisit (.fdb i) = (s.inc (C.saf 2)).fatalFault 0x13 i := by
    have here : (s.inc (C.saf 2)).fdbAt i = some e := at_
    show s.fdbUncorr i = _
    simp only [State.fdbUncorr, here, static, if_true]
  exact exec_scrubVisit_fatal (find := .fdb i) hp (decide_eq_true hi) (by decide) normal effect

/-! ## Digests -/

theorem exec_digestCompare_none (none_ : s.saf.digests = []) : exec (.digestCompare 0) s = .next s := by
  have same : s.digestCompare 0 = s := by
    have zero : (List.range 32).filter (fun g => (0 : Nat).testBit g || ([] : List Nat).contains g) = [] := by decide
    unfold State.digestCompare
    simp only [none_, zero, State.digests_taken none_, List.find?_nil]
    rfl
  rw [exec_digestCompare s 0 (by decide) hp, same, ite_self, s.confine_self]

theorem exec_digestCompare_between (differ : Nat) (hw : s.cycle % 500000 ≠ 0) : exec (.digestCompare differ) s = .next s := by
  by_cases hd : differ < 0x100000000
  case neg => exact exec_illFormed (c := .digestCompare differ) (decide_eq_false hd) s
  rw [exec_digestCompare s differ (decide_eq_true hd) hp, if_neg hw, s.confine_self]

theorem exec_digestCompare_runs {g : Nat} (hg : g < 32) (due : s.cycle % 500000 = 0) {t : State} (effect : s.digestCompare (2 ^ g) = t)
    (only : s.Only t [.regs, .cnts, .fresh, .safLog, .data, .ports, .mgt, .edge, .twin, .key, .saf, .out]) :
    exec (.digestCompare (2 ^ g)) s = .next t := by
  have small : 2 ^ g < 0x100000000 := Nat.pow_lt_pow_right (by decide) hg
  have run := exec_digestCompare s (2 ^ g) (decide_eq_true small) hp
  rwa [if_pos due, effect, only.confine _ (by decide)] at run

theorem exec_digestCompare_fatal {g : Nat} (hg : g < 24) (none_ : s.saf.digests = []) (due : s.cycle % 500000 = 0) (normal : s.saf.mode = .normal) :
    ∃ t, exec (.digestCompare (2 ^ g)) s = .next t ∧
      s.Only t [.regs, .cnts, .fresh, .safLog, .data, .ports, .mgt, .edge, .twin, .key, .saf, .out] ∧
      t.fld F.SAF_STATUS_LAST_CAUSE = 2 ∧
      t.saf.health = (2, g, s.nowNs) :: s.saf.health ∧ t.saf.mode ≠ .normal := by
  have effect := (State.digestCompare_one none_ (show g < 32 by omega)).trans (if_pos (Or.inl hg))
  have fatal := s.fatalFault_fatal (code := 2) g (by decide) normal
  exact ⟨_, exec_digestCompare_runs hp (by omega) due effect (fatal.only.mono _ (by decide)), fatal.only.mono _ (by decide), fatal.cause,
    fatal.health, fatal.stops⟩

theorem exec_digestCompare_reports {g : Nat} (low : 24 ≤ g) (hg : g < 32) (none_ : s.saf.digests = []) (due : s.cycle % 500000 = 0)
    (report : (s.fld F.SAF_DIGEST_MODE_REPORT).testBit (g - 24) = true) :
    ∃ t, exec (.digestCompare (2 ^ g)) s = .next t ∧
      s.Only t [.regs, .cnts, .fresh, .safLog, .data, .ports, .mgt, .edge, .twin, .key, .saf, .out] ∧
      t.cnt (C.saf 7) = s.cnt (C.saf 7) + 1 ∧ t.saf = s.saf ∧
      s.RegsBut t journalKeys ∧ s.CntsBut t (C.saf 7 :: C.saf 14 :: eventCounters) := by
  have effect := (State.digestCompare_one none_ hg).trans (if_neg (by simp [report]; omega))
  obtain ⟨only, seven, -, regs, cnts⟩ := s.safEvent_counts (k := 7) (by decide) 2 g
  exact ⟨_, exec_digestCompare_runs hp hg due effect (only.mono _ (by decide)), only.mono _ (by decide), seven, only.keeps State.saf rfl, regs, cnts⟩

/-! ## Monitors -/

omit hp in
theorem State.setTj (s : State) {tj : Nat} (ht : tj < 256) : (s.setFld F.SAF_MON_TJ tj).fld F.SAF_MON_TJ = tj ∧
    (s.setFld F.SAF_MON_TJ tj).fld F.SAF_CFG_TJ_WARN = s.fld F.SAF_CFG_TJ_WARN :=
  ⟨(s.fld_setFld_same F.SAF_MON_TJ tj (by decide) (by decide)).trans (Nat.mod_eq_of_lt ht), s.fld_setFld_key _ _ tj (by decide)⟩

theorem exec_temperatureWarning_warns {tj : Nat} (ht : tj < 256) (hot : (s.fld F.SAF_CFG_TJ_WARN : Int) < tjOf tj) :
    ∃ t, exec (.temperatureWarning tj) s = .next t ∧ t.fld F.SAF_MON_TJ = tj ∧
      (s.saf.warned = false → t.flag F.SAF_MON_TJ_HIGH = true ∧ t.saf.warned = true ∧
        t.cnt (C.saf 14) = s.cnt (C.saf 14) + 1) ∧
      (s.saf.warned = true → s.RegsBut t [K.SAF_MON] ∧ s.Only t [.regs]) := by
  obtain ⟨shown, limit⟩ := s.setTj ht
  have run := exec_temperatureWarning s tj (decide_eq_true ht) hp
  have effect : s.tjWarn tj = if ((s.setFld F.SAF_MON_TJ tj).fld F.SAF_CFG_TJ_WARN : Int) < tjOf tj ∧ s.saf.warned = false then
      ({ (s.setFld F.SAF_MON_TJ tj) with saf := { s.saf with warned := true } }.setFld F.SAF_MON_TJ_HIGH 1).safEvent 9 0
    else s.setFld F.SAF_MON_TJ tj := rfl
  have regs : s.RegsBut (s.setFld F.SAF_MON_TJ tj) [K.SAF_MON] := s.regsBut_setFld _ _
  have only : s.Only (s.setFld F.SAF_MON_TJ tj) [.regs] := rfl
  rw [limit] at effect
  generalize s.setFld F.SAF_MON_TJ tj = u at *
  cases warned : s.saf.warned
  · rw [if_pos ⟨hot, warned⟩] at effect
    obtain ⟨v, hv⟩ : ∃ v : State, v = { u with saf := { s.saf with warned := true } } := ⟨_, rfl⟩
    have kept : u.Only v [.saf] := by rw [hv]; rfl
    have saf : v.saf.warned = true := by rw [hv]
    rw [← hv] at effect
    have high := v.flag_setFld_same F.SAF_MON_TJ_HIGH 1 rfl (by decide)
    have apart : (v.setFld F.SAF_MON_TJ_HIGH 1).fld F.SAF_MON_TJ = v.fld F.SAF_MON_TJ :=
      State.fld_setFlds_apart (l := [(F.SAF_MON_TJ_HIGH, 1)]) v (List.forall_mem_singleton.mpr (Fld.apart_mk _ (by decide)))
    have put : v.Only (v.setFld F.SAF_MON_TJ_HIGH 1) [.regs] := rfl
    generalize v.setFld F.SAF_MON_TJ_HIGH 1 = w at *
    obtain ⟨regs', cnts', count, -⟩ := w.safEvent_notes 9 0
    have event := w.safEvent_only 9 0
    have whole : s.Only (w.safEvent 9 0) [.regs, .cnts, .safLog, .mgt, .key, .saf] :=
      ((only.mono _ (by decide)).comp (kept.mono _ (by decide))).comp ((put.mono _ (by decide)).comp (event.mono _ (by decide)))
    rw [effect, whole.confine _ (by decide)] at run
    refine ⟨_, run, ?_, fun _ => ⟨?_, ?_, ?_⟩, fun yes => absurd yes (by decide)⟩
    · rw [regs'.fld (by decide), apart, State.fld_congr (kept.keeps State.regs rfl), shown]
    · rw [regs'.flag (by decide)]; exact high
    · rw [event.keeps State.saf rfl, put.keeps State.saf rfl, saf]
    · rw [count, State.cnt_congr (put.keeps State.cnts rfl), State.cnt_congr (kept.keeps State.cnts rfl), State.cnt_congr (only.keeps State.cnts rfl)]
  · rw [if_neg (by simp [warned])] at effect
    rw [effect, only.confine _ (by decide)] at run
    exact ⟨_, run, shown, fun no => absurd no (by decide), fun _ => ⟨regs, only⟩⟩

theorem exec_tjWarnRearm_rearms {tj : Nat} (ht : tj < 256) (cool : tjOf tj ≤ (s.fld F.SAF_CFG_TJ_WARN : Int) - 5) :
    ∃ t, exec (.tjWarnRearm tj) s = .next t ∧ t.fld F.SAF_MON_TJ = tj ∧ t.flag F.SAF_MON_TJ_HIGH = false ∧
      t.saf = { s.saf with warned := false } ∧ s.RegsBut t [K.SAF_MON] ∧ s.Only t [.regs, .saf] := by
  obtain ⟨shown, limit⟩ := s.setTj ht
  have run := exec_tjWarnRearm s tj (decide_eq_true ht) hp
  have effect : s.tjRearm tj = if tjOf tj ≤ ((s.setFld F.SAF_MON_TJ tj).fld F.SAF_CFG_TJ_WARN : Int) - 5 then
      { (s.setFld F.SAF_MON_TJ tj) with saf := { s.saf with warned := false } }.setFld F.SAF_MON_TJ_HIGH 0
    else s.setFld F.SAF_MON_TJ tj := rfl
  have regs : s.RegsBut (s.setFld F.SAF_MON_TJ tj) [K.SAF_MON] := s.regsBut_setFld _ _
  have only : s.Only (s.setFld F.SAF_MON_TJ tj) [.regs] := rfl
  rw [limit, if_pos cool] at effect
  generalize s.setFld F.SAF_MON_TJ tj = u at *
  obtain ⟨v, hv⟩ : ∃ v : State, v = { u with saf := { s.saf with warned := false } } := ⟨_, rfl⟩
  have kept : u.Only v [.saf] := by rw [hv]; rfl
  have saf : v.saf = { s.saf with warned := false } := by rw [hv]
  rw [← hv] at effect
  have apart : (v.setFld F.SAF_MON_TJ_HIGH 0).fld F.SAF_MON_TJ = v.fld F.SAF_MON_TJ :=
    State.fld_setFlds_apart (l := [(F.SAF_MON_TJ_HIGH, 0)]) v (List.forall_mem_singleton.mpr (Fld.apart_mk _ (by decide)))
  have put : v.Only (v.setFld F.SAF_MON_TJ_HIGH 0) [.regs] := rfl
  have whole : s.Only (v.setFld F.SAF_MON_TJ_HIGH 0) [.regs, .saf] :=
    ((only.mono _ (by decide)).comp (kept.mono _ (by decide))).comp (put.mono _ (by decide))
  rw [effect, whole.confine _ (by decide)] at run
  exact ⟨_, run, apart.trans ((State.fld_congr (kept.keeps State.regs rfl) _).trans shown), v.flag_setFld_same F.SAF_MON_TJ_HIGH 0 rfl (by decide),
    (put.keeps State.saf rfl).trans saf, (regs.after (kept.keeps State.regs rfl)).comp (v.regsBut_setFld F.SAF_MON_TJ_HIGH 0), whole⟩

theorem exec_aonClockFault_reacts : ∃ t, exec .aonClockFault s = .next t ∧ s.Only t [.regs, .cnts, .safLog, .mgt, .key, .saf] ∧
    t.flag F.CLK_STATUS_AON_FAIL = true ∧ t.flag F.SAF_MON_AON_CLK_FAIL = true ∧
    t.calmNext = false ∧ t.cnt (C.saf 14) = s.cnt (C.saf 14) + 1 := by
  obtain ⟨u, hu⟩ : ∃ u : State, u = { s with saf := { s.saf with aonFault := true } } := ⟨_, rfl⟩
  have kept : s.Only u [.saf] := by rw [hu]; rfl
  have fault : u.saf.aonFault = true := by rw [hu]
  have effect : s.aonClockFault = (u.setFlds [(F.CLK_STATUS_AON_FAIL, 1), (F.SAF_MON_AON_CLK_FAIL, 1)]).safEvent 7 0 := by rw [hu]; rfl
  have clock : (u.setFlds [(F.CLK_STATUS_AON_FAIL, 1), (F.SAF_MON_AON_CLK_FAIL, 1)]).flag F.CLK_STATUS_AON_FAIL = true := by
    have other : ((u.setFld F.CLK_STATUS_AON_FAIL 1).setFld F.SAF_MON_AON_CLK_FAIL 1).flag F.CLK_STATUS_AON_FAIL =
        (u.setFld F.CLK_STATUS_AON_FAIL 1).flag F.CLK_STATUS_AON_FAIL := (State.regsBut_setFld _ _ _).flag (by decide)
    exact other.trans (u.flag_setFld_same F.CLK_STATUS_AON_FAIL 1 rfl (by decide))
  have mon : (u.setFlds [(F.CLK_STATUS_AON_FAIL, 1), (F.SAF_MON_AON_CLK_FAIL, 1)]).flag F.SAF_MON_AON_CLK_FAIL = true :=
    (u.setFld F.CLK_STATUS_AON_FAIL 1).flag_setFld_same F.SAF_MON_AON_CLK_FAIL 1 rfl (by decide)
  have put := u.setFlds_only [(F.CLK_STATUS_AON_FAIL, 1), (F.SAF_MON_AON_CLK_FAIL, 1)]
  generalize u.setFlds [(F.CLK_STATUS_AON_FAIL, 1), (F.SAF_MON_AON_CLK_FAIL, 1)] = v at *
  obtain ⟨regs, -, count, -⟩ := v.safEvent_notes 7 0
  have event := v.safEvent_only 7 0
  have whole : s.Only (v.safEvent 7 0) [.regs, .cnts, .safLog, .mgt, .key, .saf] :=
    ((kept.mono _ (by decide)).comp (put.mono _ (by decide))).comp (event.mono _ (by decide))
  have run := exec_aonClockFault s hp
  rw [effect, whole.confine _ (by decide)] at run
  have still : (v.safEvent 7 0).saf.aonFault = true := by rw [event.keeps State.saf rfl, put.keeps State.saf rfl, fault]
  refine ⟨_, run, whole, (regs.flag (by decide)).trans clock, (regs.flag (by decide)).trans mon, by simp [State.calmNext, still], ?_⟩
  rw [count, State.cnt_congr (put.keeps State.cnts rfl), State.cnt_congr (kept.keeps State.cnts rfl)]

theorem exec_wakeFilterCopyFault_logs {n : Nat} (hn : n < 5) : ∃ t, exec (.wakeFilterCopyFault n) s = .next t ∧
    t.cnt (C.saf 14) = s.cnt (C.saf 14) + 1 ∧ (s.safLog.length < 64 → t.safLog = s.safLog ++ [BitVec.ofNat 32 (0x23000000 + n)]) ∧
    s.RegsBut t journalKeys ∧ s.CntsBut t (C.saf 14 :: eventCounters) ∧ s.Only t [.regs, .cnts, .safLog, .mgt, .key] := by
  obtain ⟨regs, cnts, count, log⟩ := s.safEvent_notes 0x23 n
  have only := s.safEvent_only 0x23 n
  have run := exec_wakeFilterCopyFault s n (decide_eq_true hn) hp
  rw [show s.filterCopyFault n = s.safEvent 0x23 n from rfl, only.confine _ (by decide)] at run
  refine ⟨_, run, count, fun room => ?_, regs, cnts, only⟩
  rw [log room, Nat.mod_eq_of_lt (by omega)]

/-! ## Injected faults -/

omit hp in
theorem exec_faultInject_alarms (normal : s.saf.mode = .normal) (hr : s.mcRuns = true) {g : Nat} (hg : g < 64) :
    (∃ t, exec (.faultInject 0 g) s = .next t ∧ s.Only t [.regs, .cnts, .fresh, .data, .ports, .edge, .twin, .saf, .out] ∧
      t.fld F.SAF_STATUS_LAST_CAUSE = 1 ∧ t.saf.mode ≠ .normal) ∧
    (g < 32 → ∃ t, exec (.faultInject 1 g) s = .next t ∧ t.saf = { s.saf with digests := s.saf.digests ++ [g] } ∧ s.Only t [.saf]) := by
  have ok (k : Nat) (hk : k < 2) : Instr.wf (.faultInject k g) = true := by simp [Instr.wf, hk, hg]
  constructor
  · have fatal := s.fatalFault_fatal (code := 1) g (by decide) normal
    have run := exec_faultInject s 0 g (ok 0 (by decide)) hr
    rw [show s.faultInject 0 g = s.fatalFault 1 g from rfl, fatal.only.confine _ (by decide)] at run
    exact ⟨_, run, fatal.only, fatal.cause, fatal.stops⟩
  · intro small
    have run := exec_faultInject s 1 g (ok 1 (by decide)) hr
    have effect : s.faultInject 1 g = { s with saf := { s.saf with digests := s.saf.digests ++ [g] } } := if_pos small
    have only : s.Only { s with saf := { s.saf with digests := s.saf.digests ++ [g] } } [.saf] := rfl
    rw [effect, only.confine _ (by decide)] at run
    exact ⟨_, run, rfl, only⟩

end

/-- Settles O50: the fatal reaction is a chain of stages, of which the first drops what is queued and each later one keeps that; the checks
and scrubs that are not fatal count their find and raise an event of the safety block. -/
theorem faultsLeadToTheirReactions : Obligations.FaultsLeadToTheirReactions := by
  unfold Obligations.FaultsLeadToTheirReactions
  constructor
  · intro s code detail hc hp
    refine ⟨exec_fatalFault_reacts hp hc, fun stopped => ?_⟩
    have same : s.fatalFault code detail = s := by
      unfold State.fatalFault
      rw [if_pos stopped, s.confine_self]
    rw [exec_fatalFault s code detail hc hp, same, s.confine_self]
  · intro s hp normal
    refine ⟨exec_digestCompare_none hp, fun differ between => exec_digestCompare_between hp differ between, fun g hg none_ due => exec_digestCompare_fatal hp hg none_ due normal,
      fun g low hg none_ due report => exec_digestCompare_reports hp low hg none_ due report, fun e he => exec_scrubVisit_single hp he,
      exec_scrubVisit_mram hp, fun q hq => exec_scrubVisit_nodes hp hq, fun h k hh err mem => ?_, fun n k hk => exec_scrubVisit_aon hp hk,
      fun a => exec_scrubVisit_fatal (find := .scratchDouble a) hp rfl (by decide) normal rfl,
      fun a => exec_scrubVisit_fatal (find := .tableDouble a) hp rfl (by decide) normal rfl,
      fun i e hi at_ dynamic => exec_scrubVisit_fdbDynamic hp hi at_ dynamic normal,
      fun i e hi at_ static => exec_scrubVisit_fdbStatic hp hi at_ static normal, fun tj ht hot => exec_temperatureWarning_warns hp ht hot,
      fun tj ht cool => exec_tjWarnRearm_rearms hp ht cool, exec_aonClockFault_reacts hp, fun n hn => exec_wakeFilterCopyFault_logs hp hn,
      fun hr g hg => exec_faultInject_alarms normal hr hg⟩
    have found : err ≠ .none ∧ err ≠ .nodeList := by
      simp only [List.mem_cons, List.not_mem_nil, or_false] at mem
      rcases mem with rfl | rfl | rfl | rfl <;> simp
    obtain ⟨t, run, two, fourteen, only, descriptor, link⟩ := exec_scrubVisit_buffer hp hh found
    exact ⟨t, run, two, fourteen, only, descriptor, fun f => link f k⟩

end Sys2Proof.Machine
end

section
/-!
SUPPORT. `Obligations.UnitsRunTheirRoutes`: the image of a PDU, the receive FIFOs as they hand over a frame, and a unit with no route or
with one that stores (spec/09, R256 to R262).
-/

namespace Sys2Proof.Machine

/-! ## Images -/

theorem beNat_append_byte (l : List Byte) (b : Byte) : beNat (l ++ [b]) = beNat l * 256 + b.toNat := by
  simp [beNat, List.foldl_append]

/-- The bytes of a number that bytes make are those bytes. -/
theorem beBytes_beNat (l : List Byte) : beBytes l.length (beNat l) = l := by
  induction l using List.reverseRecOn with
  | nil => rfl
  | append_singleton l b ih =>
    have small : b.toNat < 256 := b.isLt
    rw [beNat_append_byte, List.length_append, List.length_singleton, beBytes, List.range_succ, List.map_append]
    congr 1
    · refine Eq.trans (List.map_congr_left fun i hi => ?_) ih
      have lt := List.mem_range.mp hi
      have shift : 8 * (l.length + 1 - 1 - i) = 8 + 8 * (l.length - 1 - i) := by omega
      rw [shift, Nat.shiftRight_add]
      congr 2
      rw [Nat.shiftRight_eq_div_pow]
      omega
    · simp only [List.map_singleton, Nat.add_sub_cancel, Nat.sub_self, Nat.mul_zero, Nat.shiftRight_zero]
      congr 1
      exact BitVec.eq_of_toNat_eq (by simp; omega)

theorem flatMap_slices (l : List Byte) (n : Nat) : (List.range n).flatMap (fun j => slice l (4 * j) 4) = l.take (4 * n) := by
  induction n with
  | zero => rfl
  | succ n ih =>
    rw [List.range_succ, List.flatMap_append, ih, List.flatMap_singleton, slice, Nat.mul_succ, List.take_add]

theorem beBytes_beAt {l : List Byte} {off n : Nat} (h : off + n ≤ l.length) : beBytes n (beAt l off n) = slice l off n := by
  have length : (slice l off n).length = n := by simp [slice]; omega
  have same := beBytes_beNat (slice l off n)
  rwa [length] at same

section
variable (s : State)

/-- The word of an image after images were written word by word. -/
theorem forEach_setImg_reg (i : Nat) (b : List Byte) (j : Nat) : ∀ (l : List Nat) (s : State),
    (forEach l (fun j s => s.setReg (K.WVR_IMG j i) (BitVec.ofNat 32 (beAt b (4 * j) 4))) s).reg (K.WVR_IMG j i) =
      if j ∈ l then BitVec.ofNat 32 (beAt b (4 * j) 4) else s.reg (K.WVR_IMG j i) := by
  intro l
  induction l with
  | nil => intro s; rfl
  | cons k r ih =>
    intro s
    refine (ih _).trans ?_
    by_cases mem : j ∈ r
    · simp [mem]
    · by_cases same : j = k
      · subst same
        rw [if_neg mem, if_pos List.mem_cons_self]
        exact s.reg_setReg_same _ _
      · rw [if_neg mem, if_neg (by simp [mem, same])]
        exact s.reg_setReg_other _ (by simp only [K.WVR_IMG]; omega)

theorem State.image_setImage (i : Nat) {b : List Byte} (h : b.length = 64) : (s.setImage i b).image i = b := by
  have word (j : Nat) (hj : j ∈ List.range 16) : beBytes 4 ((s.setImage i b).reg (K.WVR_IMG j i)).toNat = slice b (4 * j) 4 := by
    have lt := List.mem_range.mp hj
    have small : beAt b (4 * j) 4 < 2 ^ 32 := beAt_lt b (4 * j) 4
    rw [State.setImage, forEach_setImg_reg, if_pos hj, BitVec.toNat_ofNat, Nat.mod_eq_of_lt small, beBytes_beAt (by omega)]
  rw [State.image, List.flatMap_congr word, flatMap_slices]
  exact List.take_of_length_le (by omega)

end

/-- The bytes that a signal is inserted into keep their number. -/
theorem insertSig_length (b : List Byte) (start len : Nat) (sawtooth : Bool) (v : Int) : (insertSig b start len sawtooth v).length = b.length := by
  have each (l : List (Nat × Nat)) (x : Nat) : ∀ b : List Byte, (l.foldl (fun b c => setImgBit b c.2 (x.testBit c.1)) b).length = b.length := by
    induction l with
    | nil => exact fun _ => rfl
    | cons c r ih =>
      intro b
      rw [List.foldl_cons, ih]
      exact List.length_set
  exact each _ _ b

theorem State.image_length (s : State) (i : Nat) : (s.image i).length = 64 := by
  simp [State.image, List.length_flatMap, beBytes_length]

/-! ## The unit that is taken -/

/-- Counters and images are all that a unit changes before its routes. -/
def unitAddrs : List Nat := 0x1c0014 :: (List.range 16).map (fun j => 0x1c0080 + 4 * j)

theorem entry_not_unit {a : Nat} (e : Nat) (ha : a < 0x100000000 ∧ a ∉ unitAddrs) : (a + 0x100000000 * e) % 0x100000000 ∉ unitAddrs := by
  rw [addr_of_entry e ha.1]
  exact ha.2

section
variable {s t : State} (h : s.AddrsBut t unitAddrs)
include h

theorem State.AddrsBut.rtCompute (r : Nat) (img : List Byte) (out : Bool) : t.rtCompute r img out = s.rtCompute r img out := by
  have d0 : t.reg (K.WVR_RT_DATA0 r) = s.reg (K.WVR_RT_DATA0 r) := h _ (entry_not_unit r (by decide))
  have d1 : t.reg (K.WVR_RT_DATA1 r) = s.reg (K.WVR_RT_DATA1 r) := h _ (entry_not_unit r (by decide))
  have d3 : t.reg (K.WVR_RT_DATA3 r) = s.reg (K.WVR_RT_DATA3 r) := h _ (entry_not_unit r (by decide))
  have d4 : t.reg (K.WVR_RT_DATA4 r) = s.reg (K.WVR_RT_DATA4 r) := h _ (entry_not_unit r (by decide))
  have d5 : t.reg (K.WVR_RT_DATA5 r) = s.reg (K.WVR_RT_DATA5 r) := h _ (entry_not_unit r (by decide))
  have d6 : t.reg (K.WVR_RT_DATA6 r) = s.reg (K.WVR_RT_DATA6 r) := h _ (entry_not_unit r (by decide))
  have d7 : t.reg (K.WVR_RT_DATA7 r) = s.reg (K.WVR_RT_DATA7 r) := h _ (entry_not_unit r (by decide))
  have en (e : Nat) : t.reg (K.WVR_ENUM_DATA e) = s.reg (K.WVR_ENUM_DATA e) := h _ (entry_not_unit e (by decide))
  have flds0 (f : Fld) (hf : f.key = K.WVR_RT_DATA0 r) : t.fld f = s.fld f ∧ t.flag f = s.flag f := by
    rw [State.fld, State.flag, hf, d0, ← hf]; exact ⟨rfl, rfl⟩
  have flds1 (f : Fld) (hf : f.key = K.WVR_RT_DATA1 r) : t.fld f = s.fld f ∧ t.flag f = s.flag f := by
    rw [State.fld, State.flag, hf, d1, ← hf]; exact ⟨rfl, rfl⟩
  have enum (table : Nat) (x : Int) : t.enumAt table x = s.enumAt table x := by
    simp only [State.enumAt, State.fld, State.flag, F.WVR_ENUM_DATA_UNDEF, F.WVR_ENUM_DATA_VALUE, en]
    rfl
  have range (y : Option Int) : t.rtOutOfRange r y = s.rtOutOfRange r y := by
    simp only [State.rtOutOfRange, State.rtWord, d7, (flds0 (F.WVR_RT_DATA0_RANGE_ACT r) rfl).1]
  simp only [State.rtCompute, State.rtWord, d3, d4, d5, d6, d7, enum, range, (flds0 (F.WVR_RT_DATA0_TMO_ACT r) rfl).2,
    (flds0 (F.WVR_RT_DATA0_ENUM_EN r) rfl).2, (flds0 (F.WVR_RT_DATA0_ENUM_TABLE r) rfl).1, (flds0 (F.WVR_RT_DATA0_ROUND r) rfl).2,
    (flds0 (F.WVR_RT_DATA0_RANGE_EN r) rfl).2, (flds1 (F.WVR_RT_DATA1_SRC_START r) rfl).1, (flds1 (F.WVR_RT_DATA1_SRC_LEN_M1 r) rfl).1,
    (flds1 (F.WVR_RT_DATA1_SRC_ORDER r) rfl).2, (flds1 (F.WVR_RT_DATA1_SRC_SIGNED r) rfl).2, (flds1 (F.WVR_RT_DATA1_S r) rfl).1]
  rfl

theorem State.AddrsBut.routesOf (i : Nat) : t.routesOf i = s.routesOf i := by
  have d2 : t.reg (K.WVR_PDU_DATA2 i) = s.reg (K.WVR_PDU_DATA2 i) := h _ (entry_not_unit i (by decide))
  have valid (r : Nat) : t.flag (F.WVR_RT_DATA0_VALID r) = s.flag (F.WVR_RT_DATA0_VALID r) := h.flag (entry_not_unit r (by decide))
  simp only [State.routesOf, State.pdu2, d2, valid]

theorem State.AddrsBut.rtCovered (r n : Nat) : t.rtCovered r n = s.rtCovered r n := by
  have start : t.fld (F.WVR_RT_DATA1_SRC_START r) = s.fld (F.WVR_RT_DATA1_SRC_START r) := h.fld (entry_not_unit r (by decide))
  have length : t.fld (F.WVR_RT_DATA1_SRC_LEN_M1 r) = s.fld (F.WVR_RT_DATA1_SRC_LEN_M1 r) := h.fld (entry_not_unit r (by decide))
  have order : t.flag (F.WVR_RT_DATA1_SRC_ORDER r) = s.flag (F.WVR_RT_DATA1_SRC_ORDER r) := h.flag (entry_not_unit r (by decide))
  simp only [State.rtCovered, State.rtSrc, start, length, order]

/-- Where and how a route stores. -/
theorem State.AddrsBut.rtStores (r : Nat) : t.fld (F.WVR_RT_DATA0_DST r) = s.fld (F.WVR_RT_DATA0_DST r) ∧
    t.flag (F.WVR_RT_DATA0_DST_KIND r) = s.flag (F.WVR_RT_DATA0_DST_KIND r) ∧
    t.fld (F.WVR_RT_DATA2_DST_START r) = s.fld (F.WVR_RT_DATA2_DST_START r) ∧
    t.fld (F.WVR_RT_DATA2_DST_LEN_M1 r) = s.fld (F.WVR_RT_DATA2_DST_LEN_M1 r) ∧
    t.flag (F.WVR_RT_DATA2_DST_ORDER r) = s.flag (F.WVR_RT_DATA2_DST_ORDER r) ∧ ∀ y, t.rtClamp r y = s.rtClamp r y := by
  have length : t.fld (F.WVR_RT_DATA2_DST_LEN_M1 r) = s.fld (F.WVR_RT_DATA2_DST_LEN_M1 r) := h.fld (entry_not_unit r (by decide))
  have signed : t.flag (F.WVR_RT_DATA2_DST_SIGNED r) = s.flag (F.WVR_RT_DATA2_DST_SIGNED r) := h.flag (entry_not_unit r (by decide))
  exact ⟨h.fld (entry_not_unit r (by decide)), h.flag (entry_not_unit r (by decide)), h.fld (entry_not_unit r (by decide)), length,
    h.flag (entry_not_unit r (by decide)), fun y => by simp only [State.rtClamp, length, signed]⟩

theorem State.AddrsBut.pdu (i : Nat) : t.isTxPdu i = s.isTxPdu i ∧ t.pduKind i = s.pduKind i ∧ t.pdu2 i 31 30 = s.pdu2 i 31 30 := by
  have valid : t.flag (F.WVR_PDU_DATA0_VALID i) = s.flag (F.WVR_PDU_DATA0_VALID i) := h.flag (entry_not_unit i (by decide))
  have dir : t.flag (F.WVR_PDU_DATA0_DIR i) = s.flag (F.WVR_PDU_DATA0_DIR i) := h.flag (entry_not_unit i (by decide))
  have d2 : t.reg (K.WVR_PDU_DATA2 i) = s.reg (K.WVR_PDU_DATA2 i) := h _ (entry_not_unit i (by decide))
  exact ⟨by simp only [State.isTxPdu, State.pduValid, State.pduTx, valid, dir], h.fld (entry_not_unit i (by decide)), by simp only [State.pdu2, d2]⟩

end

section
variable {s : State}

/-- A loop whose steps change nothing. -/
theorem forEach_fixed {α : Type} (f : α → State → State) (l : List α) (hf : ∀ x ∈ l, f x s = s) : forEach l f s = s := by
  induction l with
  | nil => rfl
  | cons x r ih =>
    have first : forEach (x :: r) f s = forEach r f (f x s) := rfl
    rw [first, hf x List.mem_cons_self]
    exact ih (fun y hy => hf y (List.mem_cons_of_mem _ hy))

theorem State.closeReady_none (none_ : s.wvr.openFrames = []) : s.closeReady = s := by
  rw [State.closeReady, none_]
  rfl

/-- A unit with no route changes nothing after its image. -/
theorem State.runUnit_none (i : Nat) (img : List Byte) (n t : Nat) (routes : s.routesOf i = []) (none_ : s.wvr.openFrames = []) :
    s.runUnit i img n t false = s := by
  simp only [State.runUnit, routes, State.runRoutes, List.any_nil, Bool.and_false, Bool.false_eq_true, if_false]
  rw [forEach_fixed _ _ (fun _ _ => rfl)]
  exact State.closeReady_none none_

/-- What a route that stores leaves. -/
def State.routeStored (s : State) (r : Nat) (y : Int) : State :=
  let dst := s.fld (F.WVR_RT_DATA0_DST r)
  ((s.inc (C.wvr 4)).setImage dst (insertSig (s.image dst) (s.fld (F.WVR_RT_DATA2_DST_START r)) (s.fld (F.WVR_RT_DATA2_DST_LEN_M1 r) + 1)
    (s.flag (F.WVR_RT_DATA2_DST_ORDER r)) (s.rtClamp r y))).setFld (F.WVR_PDU_STATE_WRITTEN dst) 1

theorem State.runRoute_stores {r : Nat} {img : List Byte} {y : Int} (t : Nat) (value : s.rtCompute r img false = ⟨some y, false, false⟩)
    (kind : s.flag (F.WVR_RT_DATA0_DST_KIND r) = false) (tx : s.isTxPdu (s.fld (F.WVR_RT_DATA0_DST r)) = true) :
    s.runRoute r img t false = s.routeStored r y := by
  have kind' : (s.inc (C.wvr 4)).flag (F.WVR_RT_DATA0_DST_KIND r) = false := kind
  have tx' : (s.inc (C.wvr 4)).isTxPdu (s.fld (F.WVR_RT_DATA0_DST r)) = true := tx
  simp only [State.runRoute, value, Bool.false_eq_true, if_false, kind', tx', if_true]
  rfl

theorem State.routeStored_stores (r : Nat) (y : Int) {dst : Nat} (hd : dst = s.fld (F.WVR_RT_DATA0_DST r)) :
    s.Only (s.routeStored r y) [.regs, .cnts] ∧ s.AddrsBut (s.routeStored r y) unitAddrs ∧
      (s.routeStored r y).image dst = insertSig (s.image dst) (s.fld (F.WVR_RT_DATA2_DST_START r)) (s.fld (F.WVR_RT_DATA2_DST_LEN_M1 r) + 1)
        (s.flag (F.WVR_RT_DATA2_DST_ORDER r)) (s.rtClamp r y) ∧
      (s.routeStored r y).flag (F.WVR_PDU_STATE_WRITTEN dst) = true ∧ (s.routeStored r y).cnt (C.wvr 4) = s.cnt (C.wvr 4) + 1 ∧
      s.CntsBut (s.routeStored r y) [C.wvr 4] := by
  subst hd
  have counted : s.Only (s.inc (C.wvr 4)) [.regs, .cnts] := rfl
  have one := s.cnt_inc_same (C.wvr 4)
  have cnts := s.cntsBut_inc (C.wvr 4)
  have regs : (s.inc (C.wvr 4)).regs = s.regs := rfl
  have length : (insertSig (s.image (s.fld (F.WVR_RT_DATA0_DST r))) (s.fld (F.WVR_RT_DATA2_DST_START r)) (s.fld (F.WVR_RT_DATA2_DST_LEN_M1 r) + 1)
    (s.flag (F.WVR_RT_DATA2_DST_ORDER r)) (s.rtClamp r y)).length = 64 := (insertSig_length _ _ _ _ _).trans (s.image_length _)
  unfold State.routeStored
  dsimp only
  generalize s.fld (F.WVR_RT_DATA0_DST r) = dst at *
  generalize insertSig (s.image dst) _ _ _ _ = b at *
  generalize s.inc (C.wvr 4) = u at *
  have image := u.image_setImage dst length
  have put := u.setImage_only dst b
  have addrs := (u.setImage_addrs dst b).mono (bs := unitAddrs) (fun a ha => List.mem_cons_of_mem _ ha)
  generalize u.setImage dst b = v at *
  have written : v.Only (v.setFld (F.WVR_PDU_STATE_WRITTEN dst) 1) [.regs] := rfl
  have state := v.regsBut_setFld (F.WVR_PDU_STATE_WRITTEN dst) 1
  have same : (v.setFld (F.WVR_PDU_STATE_WRITTEN dst) 1).image dst = v.image dst := by
    have word (j : Nat) (hj : j ∈ List.range 16) : beBytes 4 ((v.setFld (F.WVR_PDU_STATE_WRITTEN dst) 1).reg (K.WVR_IMG j dst)).toNat =
        beBytes 4 (v.reg (K.WVR_IMG j dst)).toNat := by
      rw [state _ (by simp only [List.mem_singleton, F.WVR_PDU_STATE_WRITTEN, K.WVR_PDU_STATE, K.WVR_IMG]; omega)]
    exact List.flatMap_congr word
  have kept : (v.setFld (F.WVR_PDU_STATE_WRITTEN dst) 1).cnts = u.cnts := (written.keeps State.cnts rfl).trans (put.keeps State.cnts rfl)
  refine ⟨(counted.comp (put.mono _ (by decide))).comp (written.mono _ (by decide)), ?_, same.trans image,
    v.flag_setFld_same (F.WVR_PDU_STATE_WRITTEN dst) 1 rfl (show 30 < 32 by decide), (State.cnt_congr kept _).trans one,
    fun a ha => (State.cnt_congr kept a).trans (cnts a ha)⟩
  refine (addrs.from regs).comp (state.addrs (fun k hk => ?_))
  rw [List.mem_singleton.mp hk, F.WVR_PDU_STATE_WRITTEN, K.WVR_PDU_STATE, addr_of_entry dst (by decide)]
  exact List.mem_cons_self

/-- A unit whose one route stores, into a PDU that the store does not send. -/
theorem State.runUnit_stores {i r dst : Nat} {img : List Byte} {y : Int} (t : Nat) (routes : s.routesOf i = [r])
    (covered : s.rtCovered r img.length = true) (value : s.rtCompute r img false = ⟨some y, false, false⟩)
    (kind : s.flag (F.WVR_RT_DATA0_DST_KIND r) = false) (hd : dst = s.fld (F.WVR_RT_DATA0_DST r)) (tx : s.isTxPdu dst = true)
    (mode : s.pdu2 dst 31 30 = 0) (carrier : 2 ≤ s.pduKind dst) (none_ : s.wvr.openFrames = []) :
    s.runUnit i img img.length t false = s.routeStored r y := by
  obtain ⟨only, addrs, -⟩ := s.routeStored_stores r y hd
  have ran : s.runRoute r img t false = s.routeStored r y := State.runRoute_stores t value kind (hd ▸ tx)
  have run : s.runRoutes img img.length t false [r] [] = ([r], s.routeStored r y) := by
    simp only [State.runRoutes, covered, Bool.not_true, Bool.and_false, Bool.false_eq_true, if_false, ran, value, Option.isSome_some, kind,
      Bool.not_false, ← hd, tx, Bool.and_self, if_true, List.nil_append]
  have stays (before : List Byte) : (s.routeStored r y).afterUnit before dst [r] [r] t = s.routeStored r y := by
    obtain ⟨-, kind', mode'⟩ := addrs.pdu dst
    have other : ¬((s.routeStored r y).pduKind dst = 1 ∧ (s.routeStored r y).pduId dst ≠ 0x3C) := fun h => by omega
    unfold State.afterUnit
    rw [if_neg other]
    simp only [mode', mode]
  have openFrames : (s.routeStored r y).wvr.openFrames = [] := by rw [only.keeps State.wvr rfl]; exact none_
  simp only [State.runUnit, routes, List.any_cons, List.any_nil, covered, Bool.not_true, Bool.or_self, Bool.and_false, Bool.false_eq_true, if_false, run]
  rw [forEach_fixed _ _ (fun d _ => ?_), State.closeReady_none openFrames]
  split
  · next hit =>
    have here : d.1 = dst := by
      rw [hd, ← (addrs.rtStores r).1]
      exact Eq.symm (by simpa using hit)
    rw [here]
    exact stays d.2
  · rfl

/-! ## The command -/

theorem State.logSync_idle (still : s.twin.snapping = false) (e : SyncLog) : s.logSync e = s := by
  rw [State.logSync, still]
  rfl

/-- The unit is taken from the queue. -/
def State.unitTaken (s : State) (rest : List WUnit) : State := { s with wvr := { s.wvr with units := rest } }

/-- With empty receive FIFOs the oldest unit is taken. -/
theorem State.weaverUnit_takes {w : WUnit} {rest : List WUnit} (still : s.twin.snapping = false) (fifos : s.fifosEmpty)
    (units : s.wvr.units = w :: rest) : s.weaverUnit = (s.unitTaken rest).doUnit w := by
  obtain ⟨can, lin⟩ := fifos
  have none_ {α : Type} {p : α → Bool} {l : List α} (h : l.all p = true) : l.filter (fun c => !p c) = [] := by
    rw [List.filter_eq_nil_iff]
    intro c hc
    simp [List.all_eq_true.mp h c hc]
  have intake : s.edgeIntake = s := by
    simp only [State.edgeIntake, none_ can, forEach, none_ lin]
  rw [State.weaverUnit, intake, units]
  exact congrArg (fun t => t.doUnit w) (State.logSync_idle (s := s.unitTaken rest) still _)

variable {ty src z fmt id stamp : Nat} {pr : Proto} {data : List Byte} {rest : List WUnit}

/-- A unit without a definition is counted. -/
theorem State.doUnit_undefined (u : State) (none_ : u.pduMatch ty src z fmt id = none) : u.doUnit (.pdu ty src z fmt id data stamp pr) =
    (u.inc (C.wvr 0)).inc (C.wvr 1) := by
  simp only [State.doUnit, none_]

theorem State.undefined_counts (u : State) : u.Only ((u.inc (C.wvr 0)).inc (C.wvr 1)) [.cnts] ∧
    ((u.inc (C.wvr 0)).inc (C.wvr 1)).cnt (C.wvr 0) = u.cnt (C.wvr 0) + 1 ∧
    ((u.inc (C.wvr 0)).inc (C.wvr 1)).cnt (C.wvr 1) = u.cnt (C.wvr 1) + 1 ∧
    u.CntsBut ((u.inc (C.wvr 0)).inc (C.wvr 1)) [C.wvr 0, C.wvr 1] := by
  have both : u.Only ((u.inc (C.wvr 0)).inc (C.wvr 1)) [.cnts] := rfl
  have zero := u.cnt_inc_same (C.wvr 0)
  have cnts := u.cntsBut_inc (C.wvr 0)
  generalize u.inc (C.wvr 0) = v at *
  exact ⟨both, (v.cnt_inc_other (by decide)).trans zero, (v.cnt_inc_same _).trans (by rw [cnts _ (by decide)]),
    (cnts.mono (by simp)).comp ((v.cntsBut_inc _).mono (by simp))⟩

/-- The image of the unit's PDU is what was received. -/
def State.unitImage (s : State) (i : Nat) (data : List Byte) : State := (s.inc (C.wvr 0)).setImage i (padTo 64 0 (data.take (s.pduLen i)))

theorem State.doUnit_defined (u : State) {i : Nat} (some_ : u.pduMatch ty src z fmt id = some i) :
    u.doUnit (.pdu ty src z fmt id data stamp pr) =
      (u.unitImage i data).runUnit i (data.take (u.pduLen i)) (data.take (u.pduLen i)).length stamp false := by
  simp only [State.doUnit, some_]
  rfl

theorem padTo_length {α : Type} (n : Nat) (x : α) (l : List α) : (padTo n x l).length = n := by
  simp [padTo]
  omega

theorem State.unitImage_addrs (u : State) (i : Nat) (data : List Byte) : u.AddrsBut (u.unitImage i data) unitAddrs :=
  (((u.inc (C.wvr 0)).setImage_addrs i _).mono (fun _ ha => List.mem_cons_of_mem _ ha)).from rfl

theorem State.unitImage_shows (u : State) (i : Nat) (data : List Byte) : u.Only (u.unitImage i data) [.regs, .cnts] ∧
    (u.unitImage i data).image i = padTo 64 0 (data.take (u.pduLen i)) ∧
    u.RegsBut (u.unitImage i data) ((List.range 16).map (fun j => K.WVR_IMG j i)) ∧
    (u.unitImage i data).cnt (C.wvr 0) = u.cnt (C.wvr 0) + 1 ∧ u.CntsBut (u.unitImage i data) [C.wvr 0] := by
  have counted : u.Only (u.inc (C.wvr 0)) [.cnts] := rfl
  have one := u.cnt_inc_same (C.wvr 0)
  have cnts := u.cntsBut_inc (C.wvr 0)
  unfold State.unitImage
  generalize u.inc (C.wvr 0) = v at *
  generalize hb : padTo 64 0 (data.take (u.pduLen i)) = b
  have length : b.length = 64 := by rw [← hb]; exact padTo_length 64 0 _
  have put := v.setImage_only i b
  have image := v.image_setImage i length
  have regs : v.RegsBut (v.setImage i b) ((List.range 16).map (fun j => K.WVR_IMG j i)) := by
    refine forEach_relates (R := fun s t => s.RegsBut t _) (fun s => State.RegsBut.refl s _) State.RegsBut.comp
      (fun j s => State.setReg s (K.WVR_IMG j i) (BitVec.ofNat 32 (beAt b (4 * j) 4))) (List.range 16) (fun j hj s => ?_) v
    exact (s.regsBut_setReg _ _).mono (fun k hk => by rw [List.mem_singleton.mp hk]; exact List.mem_map.mpr ⟨j, hj, rfl⟩)
  generalize v.setImage i b = w at *
  exact ⟨(counted.mono _ (by decide)).comp (put.mono _ (by decide)), image, regs.from (counted.keeps State.regs rfl),
    (State.cnt_congr (put.keeps State.cnts rfl) _).trans one, fun a ha => (State.cnt_congr (put.keeps State.cnts rfl) a).trans (cnts a ha)⟩

end

section
variable {s : State} {ty src z fmt id stamp : Nat} {pr : Proto} {data : List Byte} {rest : List WUnit}

/-- What a state that differs in its units alone runs. -/
theorem exec_weaverUnit_taken {w : WUnit} (hr : s.running = true) (still : s.twin.snapping = false) (fifos : s.fifosEmpty)
    (units : s.wvr.units = w :: rest) {t : State} (effect : (s.unitTaken rest).doUnit w = t)
    (only : s.Only t [.regs, .cnts, .wvr]) : exec .weaverUnit s = .next t := by
  have run := exec_weaverUnit s hr
  rwa [State.weaverUnit_takes still fifos units, effect, (only.mono [.regs, .cnts, .mgt, .edge, .wvr, .ldg, .twin, .key] (by decide)).confine _ (by decide)] at run

variable (hr : s.running = true) (still : s.twin.snapping = false) (fifos : s.fifosEmpty)
  (units : s.wvr.units = .pdu ty src z fmt id data stamp pr :: rest)
include hr still fifos units

theorem exec_weaverUnit_undefined (none_ : s.pduMatch ty src z fmt id = none) :
    ∃ t, exec .weaverUnit s = .next t ∧ t.wvr = { s.wvr with units := rest } ∧ t.cnt (C.wvr 0) = s.cnt (C.wvr 0) + 1 ∧
      t.cnt (C.wvr 1) = s.cnt (C.wvr 1) + 1 ∧ s.CntsBut t [C.wvr 0, C.wvr 1] ∧ s.Only t [.cnts, .wvr] := by
  obtain ⟨only, zero, one, cnts⟩ := (s.unitTaken rest).undefined_counts
  have whole : s.Only (((s.unitTaken rest).inc (C.wvr 0)).inc (C.wvr 1)) [.cnts, .wvr] :=
    State.Only.comp (t := s.unitTaken rest) rfl (only.mono _ (by decide))
  exact ⟨_, exec_weaverUnit_taken hr still fifos units ((s.unitTaken rest).doUnit_undefined none_) (whole.mono _ (by decide)),
    only.keeps State.wvr rfl, zero, one, cnts, whole⟩

theorem exec_weaverUnit_routeless {i : Nat} (some_ : s.pduMatch ty src z fmt id = some i) (routes : s.routesOf i = [])
    (none_ : s.wvr.openFrames = []) :
    ∃ t, exec .weaverUnit s = .next t ∧ t.wvr = { s.wvr with units := rest } ∧ t.cnt (C.wvr 0) = s.cnt (C.wvr 0) + 1 ∧
      s.CntsBut t [C.wvr 0] ∧ t.image i = padTo 64 0 (data.take (s.pduLen i)) ∧
      s.RegsBut t ((List.range 16).map (fun j => K.WVR_IMG j i)) ∧ s.Only t [.regs, .cnts, .wvr] := by
  have effect := (s.unitTaken rest).doUnit_defined (stamp := stamp) (pr := pr) (data := data) some_
  have addrs := (s.unitTaken rest).unitImage_addrs i data
  obtain ⟨only, image, regs, count, cnts⟩ := (s.unitTaken rest).unitImage_shows i data
  have wvr : ((s.unitTaken rest).unitImage i data).wvr = { s.wvr with units := rest } := only.keeps State.wvr rfl
  have routes' : ((s.unitTaken rest).unitImage i data).routesOf i = [] := (addrs.routesOf i).trans routes
  rw [State.runUnit_none _ _ _ _ routes' (by rw [wvr]; exact none_)] at effect
  have whole : s.Only ((s.unitTaken rest).unitImage i data) [.regs, .cnts, .wvr] := State.Only.comp (t := s.unitTaken rest) rfl (only.mono _ (by decide))
  exact ⟨_, exec_weaverUnit_taken hr still fifos units effect whole, wvr, count, cnts, image, regs, whole⟩

omit hr still fifos units in
/-- A PDU whose frames are received is no transmit PDU. -/
theorem State.pduMatch_ne {i dst : Nat} (some_ : s.pduMatch ty src z fmt id = some i) (tx : s.isTxPdu dst = true) : dst ≠ i := by
  rintro rfl
  have found := List.find?_some some_
  simp only [State.isTxPdu, Bool.and_eq_true] at tx found
  simp [tx.2] at found

theorem exec_weaverUnit_stores {i r dst : Nat} {y : Int} (none_ : s.wvr.openFrames = []) (some_ : s.pduMatch ty src z fmt id = some i)
    (routes : s.routesOf i = [r]) (covered : s.rtCovered r (data.take (s.pduLen i)).length = true)
    (value : s.rtCompute r (data.take (s.pduLen i)) false = ⟨some y, false, false⟩) (kind : s.flag (F.WVR_RT_DATA0_DST_KIND r) = false)
    (hd : dst = s.fld (F.WVR_RT_DATA0_DST r)) (tx : s.isTxPdu dst = true) (mode : s.pdu2 dst 31 30 = 0) (carrier : 2 ≤ s.pduKind dst) :
    ∃ t, exec .weaverUnit s = .next t ∧ s.Only t [.regs, .cnts, .mgt, .edge, .wvr, .ldg, .twin, .key] ∧
      t.wvr = { s.wvr with units := rest } ∧
      t.image dst = insertSig (s.image dst) (s.fld (F.WVR_RT_DATA2_DST_START r)) (s.fld (F.WVR_RT_DATA2_DST_LEN_M1 r) + 1)
        (s.flag (F.WVR_RT_DATA2_DST_ORDER r)) (s.rtClamp r y) ∧
      t.flag (F.WVR_PDU_STATE_WRITTEN dst) = true ∧ t.cnt (C.wvr 0) = s.cnt (C.wvr 0) + 1 ∧
      t.cnt (C.wvr 4) = s.cnt (C.wvr 4) + 1 ∧ s.CntsBut t [C.wvr 0, C.wvr 4] := by
  have other := State.pduMatch_ne some_ tx
  have effect := (s.unitTaken rest).doUnit_defined (stamp := stamp) (pr := pr) (data := data) some_
  have addrs : s.AddrsBut ((s.unitTaken rest).unitImage i data) unitAddrs := ((s.unitTaken rest).unitImage_addrs i data).from rfl
  obtain ⟨only, -, regs, count, cnts⟩ := (s.unitTaken rest).unitImage_shows i data
  have wvr : ((s.unitTaken rest).unitImage i data).wvr = { s.wvr with units := rest } := only.keeps State.wvr rfl
  have image : ((s.unitTaken rest).unitImage i data).image dst = s.image dst := by
    refine List.flatMap_congr (fun j hj => ?_)
    have below := List.mem_range.mp hj
    rw [regs (K.WVR_IMG j dst) ?_]
    · rfl
    · intro mem
      obtain ⟨k, hk, same⟩ := List.mem_map.mp mem
      have small := List.mem_range.mp hk
      simp only [K.WVR_IMG] at same
      omega
  have whole : s.Only ((s.unitTaken rest).unitImage i data) [.regs, .cnts, .wvr] := State.Only.comp (t := s.unitTaken rest) rfl (only.mono _ (by decide))
  have zero : ((s.unitTaken rest).unitImage i data).cnt (C.wvr 0) = s.cnt (C.wvr 0) + 1 := count
  have others : s.CntsBut ((s.unitTaken rest).unitImage i data) [C.wvr 0] := cnts
  have length : (s.unitTaken rest).pduLen i = s.pduLen i := rfl
  rw [length] at effect
  generalize (s.unitTaken rest).unitImage i data = u at *
  obtain ⟨dst', kind', start, len, order, clamp⟩ := addrs.rtStores r
  obtain ⟨tx', carrier', mode'⟩ := addrs.pdu dst
  have ran := State.runUnit_stores (s := u) (i := i) (img := data.take (s.pduLen i)) stamp ((addrs.routesOf i).trans routes)
    ((addrs.rtCovered r _).trans covered) ((addrs.rtCompute r _ _).trans value) (kind'.trans kind) (hd.trans dst'.symm) (tx'.trans tx)
    (mode'.trans mode) (by rw [carrier']; exact carrier) (by rw [wvr]; exact none_)
  obtain ⟨stored, -, image', written, four, cnts'⟩ := u.routeStored_stores r y (hd.trans dst'.symm)
  rw [image, start, len, order, clamp] at image'
  rw [ran] at effect
  have all : s.Only (u.routeStored r y) [.regs, .cnts, .wvr] := whole.comp (stored.mono _ (by decide))
  exact ⟨_, exec_weaverUnit_taken hr still fifos units effect all, all.mono _ (by decide), (stored.keeps State.wvr rfl).trans wvr, image', written,
    (cnts' _ (by decide)).trans zero, four.trans (by rw [others _ (by decide)]), (others.mono (by simp)).comp (cnts'.mono (by simp))⟩

end

/-! ## A frame that a receive FIFO holds -/

section
variable {s : State} {n ty src z fmt id stamp : Nat} {pr : Proto} {data : List Byte} {c : CanSt} {r : List WUnit}

/-- A CAN channel hands over the oldest frame of its receive FIFO. -/
def State.canHands (c : Nat × CanSt) (s : State) : State :=
  match c.2.fifo with
  | [] => s
  | u :: r => (s.setCan c.1 { c.2 with fifo := r }).queueUnit u

/-- A LIN channel hands over the oldest frame of its receive FIFO. -/
def State.linHands (c : Nat × LinSt) (s : State) : State :=
  match c.2.fifo with
  | [] => s
  | u :: r => (s.setLin c.1 { c.2 with fifo := r }).queueUnit u

theorem State.edgeIntake_eq (s : State) : s.edgeIntake =
    let t := forEach (s.edge.can.filter (fun c => !c.2.fifo.isEmpty)) State.canHands s
    forEach (t.edge.lin.filter (fun c => !c.2.fifo.isEmpty)) State.linHands t := rfl

/-- The one waiting frame of a channel enters the empty queue of units. -/
theorem State.weaverUnit_intake (still : s.twin.snapping = false) (can : s.edge.can = [(n, c)])
    (fifo : c.fifo = .pdu ty src z fmt id data stamp pr :: r) (lin : s.edge.lin = []) (units : s.wvr.units = [])
    (none_ : s.pduMatch ty src z fmt id = none) : ∃ u, s.weaverUnit = (u.inc (C.wvr 0)).inc (C.wvr 1) ∧ s.Only u [.edge, .wvr] ∧
      u.edge = (s.setCan n { c with fifo := r }).edge ∧ u.wvr.units = [] := by
  let w : WUnit := .pdu ty src z fmt id data stamp pr
  let a := s.setCan n { c with fifo := r }
  have none' : a.pduMatch ty src z fmt id = none := none_
  have empty : a.wvr.units = [] := units
  have back : a.timeoutTakenBack ty src z fmt id = a := by
    unfold State.timeoutTakenBack
    rw [none']
  have placed : (a.placeUnit w).wvr.units = [w] := by
    rw [a.placeUnit_units, empty]
    simp [rankIn]
  have queued : a.queueUnit w = a.placeUnit w := by
    have match_ : (a.placeUnit w).pduMatch ty src z fmt id = none := none_
    rw [show a.queueUnit w = _ from a.queueUnit_pdu ty src z fmt id data stamp pr, back]
    dsimp only
    rw [if_neg (by rw [placed]; simp)]
    unfold State.pduNoted
    rw [match_]
  have intake : s.edgeIntake = a.placeUnit w := by
    have some_ : s.edge.can.filter (fun c => !c.2.fifo.isEmpty) = [(n, c)] := by rw [can]; simp [fifo]
    have first : forEach (s.edge.can.filter (fun c => !c.2.fifo.isEmpty)) State.canHands s = a.placeUnit w := by
      rw [some_, ← queued]
      show State.canHands (n, c) s = _
      unfold State.canHands
      rw [fifo]
    have lin' : (a.placeUnit w).edge.lin = [] := lin
    rw [State.edgeIntake_eq, first]
    dsimp only
    rw [lin']
    rfl
  have still' : ((a.placeUnit w).unitTaken []).twin.snapping = false := still
  have none'' : ((a.placeUnit w).unitTaken []).pduMatch ty src z fmt id = none := none_
  refine ⟨(a.placeUnit w).unitTaken [], ?_, rfl, rfl, rfl⟩
  rw [State.weaverUnit, intake]
  dsimp only
  rw [placed]
  refine Eq.trans ?_ (State.doUnit_undefined (data := data) (stamp := stamp) (pr := pr) _ none'')
  exact congrArg (fun t => t.doUnit w) (State.logSync_idle (s := (a.placeUnit w).unitTaken []) still' _)

theorem exec_weaverUnit_intake (hr : s.running = true) (still : s.twin.snapping = false) (can : s.edge.can = [(n, c)])
    (fifo : c.fifo = .pdu ty src z fmt id data stamp pr :: r) (lin : s.edge.lin = []) (units : s.wvr.units = [])
    (none_ : s.pduMatch ty src z fmt id = none) :
    ∃ t, exec .weaverUnit s = .next t ∧ t.can n = { c with fifo := r } ∧ t.wvr.units = [] ∧
      t.cnt (C.wvr 0) = s.cnt (C.wvr 0) + 1 ∧ t.cnt (C.wvr 1) = s.cnt (C.wvr 1) + 1 ∧ s.CntsBut t [C.wvr 0, C.wvr 1] ∧
      s.Only t [.cnts, .edge, .wvr] := by
  obtain ⟨u, effect, before, edge, empty⟩ := State.weaverUnit_intake still can fifo lin units none_
  obtain ⟨only, zero, one, cnts⟩ := u.undefined_counts
  have same : u.cnts = s.cnts := before.keeps State.cnts rfl
  have whole : s.Only ((u.inc (C.wvr 0)).inc (C.wvr 1)) [.cnts, .edge, .wvr] := (before.mono _ (by decide)).comp (only.mono _ (by decide))
  have run := exec_weaverUnit s hr
  rw [effect, (whole.mono [.regs, .cnts, .mgt, .edge, .wvr, .ldg, .twin, .key] (by decide)).confine _ (by decide)] at run
  refine ⟨_, run, ?_, ?_, zero.trans (by rw [State.cnt_congr same]), one.trans (by rw [State.cnt_congr same]),
    fun a ha => (cnts a ha).trans (State.cnt_congr same a), whole⟩
  · exact (State.can_congr ((only.keeps State.edge rfl).trans edge) n).trans (s.can_setCan n _)
  · rw [only.keeps State.wvr rfl]; exact empty

end

/-- Settles O39: the unit in front, which is taken where no receive FIFO holds a frame, and which the one waiting frame becomes, runs its
routes on the state that its image has been written to; images and the state of PDUs are all that a route writes. -/
theorem unitsRunTheirRoutes : Obligations.UnitsRunTheirRoutes := by
  unfold Obligations.UnitsRunTheirRoutes
  refine ⟨fun s ty src z fmt id stamp pr data rest hr still fifos units => ⟨exec_weaverUnit_undefined hr still fifos units,
      fun i some_ routes none_ => exec_weaverUnit_routeless hr still fifos units some_ routes none_⟩,
    fun s n ty src z fmt id stamp pr data c r hr still can fifo lin units none_ => exec_weaverUnit_intake hr still can fifo lin units none_,
    fun s ty src z fmt id stamp i r dst y pr data rest hr still fifos units none_ some_ routes covered value kind hd tx mode carrier =>
      exec_weaverUnit_stores hr still fifos units none_ some_ routes covered value kind hd tx mode carrier⟩

end Sys2Proof.Machine
end


section
/-!
SUPPORT. The start and the end of a transmission (spec/05, R136, R158 to R162; spec/06, R187 to R191; spec/15, R422 and R425): what the discards at
the heads and the shown eligibility leave alone, the start of a copy that nothing holds back, and the end of one, held or on the wire.
-/
namespace Sys2Proof.Machine

/-! ## The heads before a choice -/

section
variable {s t u : State} {p : Nat}

/-- Addresses of the registers that the discards at the heads and the shown eligibility write. -/
def headAddrs : List Nat := 0x100028 :: bufKeys

/-- No more than the buffer, its events and the shown eligibility changed. -/
def State.HeadsKept (s t : State) : Prop := s.Only t bufParts ∧ s.AddrsBut t headAddrs

theorem State.HeadsKept.refl (s : State) : s.HeadsKept s := ⟨s.only_refl _, State.AddrsBut.refl s _⟩

theorem State.HeadsKept.comp (h : s.HeadsKept t) (h' : t.HeadsKept u) : s.HeadsKept u := ⟨h.1.comp h'.1, h.2.comp h'.2⟩

theorem State.BufKept.headsKept (h : s.BufKept t) : s.HeadsKept t := ⟨h.1, h.2.1.addrs (by decide)⟩

theorem State.inc_headsKept (s : State) (a : Nat) : s.HeadsKept (s.inc a) :=
  ⟨rfl, (State.regsBut_of_regs rfl headAddrs).addrs (by decide)⟩

theorem State.HeadsKept.txAt (h : s.HeadsKept t) (m : Nat) : t.txAt m = s.txAt m := by
  rw [State.txAt, h.1.keeps State.ports rfl, State.txAt]

theorem State.HeadsKept.twin (h : s.HeadsKept t) : t.twin = s.twin := h.1.keeps State.twin rfl

theorem State.HeadsKept.maxFrame (h : s.HeadsKept t) (hp : p < 35) : t.fld (F.MAC_FRAME_MAX_FRAME p) = s.fld (F.MAC_FRAME_MAX_FRAME p) := by
  have low : K.MAC_FRAME p % 0x100000000 < 0x80000 := by unfold K.MAC_FRAME; omega
  exact h.2.fld (fun mem => (List.mem_cons.mp mem).elim (fun same => by rw [show (F.MAC_FRAME_MAX_FRAME p).key = K.MAC_FRAME p from rfl] at same; omega)
    (not_mem_bufKeys low))

theorem State.HeadsKept.unsecured (h : s.HeadsKept t) (plain : 10 ≤ p ∨ s.flag (F.SEC_CFG_TX_EN p) = false) (b : List Byte) :
    t.secApplies p b = false := by
  unfold State.secApplies
  by_cases near : p < 10
  · have clear : ∀ k ∈ headAddrs, k < 0x208000 ∨ 0x20a800 ≤ k := by decide
    have key : K.SEC_CFG p % 0x100000000 ∉ headAddrs := fun mem => by
      have := clear _ mem
      unfold K.SEC_CFG at this
      omega
    rw [h.2.flag (f := F.SEC_CFG_TX_EN p) key, plain.resolve_left (by omega)]
    simp
  · simp [near]

theorem State.popHead_bufKept (s : State) (q : Nat) : s.BufKept (s.popHead q) := by
  unfold State.popHead
  split
  · exact (s.bufKept_data _).comp (State.headTag_bufKept _ q _)
  · exact s.bufKept_data _

theorem State.headGone_kept (s : State) (q a : Nat) (c : Copy) : s.HeadsKept (((s.popHead q).endCopy q c).inc a) :=
  ((s.popHead_bufKept q).comp (State.endCopy_holdKept _ q c).1).headsKept.comp (State.inc_headsKept _ a)

theorem State.cleanHead_kept (p n : Nat) : ∀ (fuel : Nat) (s : State), s.HeadsKept (s.cleanHead p n fuel)
  | 0, s => .refl s
  | fuel + 1, s => by
    rw [State.cleanHead]
    cases s.queue (8 * p + n) with
    | nil => exact .refl s
    | cons c r =>
      dsimp only
      split
      · exact (s.headGone_kept _ _ c).comp (State.cleanHead_kept p n fuel _)
      split
      · exact (s.headGone_kept _ _ c).comp (State.cleanHead_kept p n fuel _)
      · exact .refl s

theorem State.cleanHeads_kept (s : State) (p : Nat) : s.HeadsKept (s.cleanHeads p) :=
  forEach_relates State.HeadsKept.refl State.HeadsKept.comp _ _ (fun n _ v => by
    split
    · exact .refl v
    · exact v.cleanHead_kept p n _) s

theorem State.setEligible_kept (s : State) (q v : Nat) : s.HeadsKept (s.setFld (F.SCH_QUE_STATUS_ELIGIBLE q) v) := by
  refine ⟨rfl, (s.regsBut_setFld _ v).addrs (fun k hk => ?_)⟩
  obtain rfl := List.mem_singleton.mp hk
  have address : K.SCH_QUE_STATUS q % 0x100000000 = 0x100028 := by unfold K.SCH_QUE_STATUS; omega
  exact List.mem_cons.mpr (.inl address)

theorem State.showReady_kept (s : State) (p : Nat) (pre : Bool) : s.HeadsKept (s.showReady p pre) :=
  forEach_relates State.HeadsKept.refl State.HeadsKept.comp _ _ (fun n _ v => by
    split
    · split
      · exact v.setEligible_kept _ _
      · exact .refl v
    · exact v.setEligible_kept _ _) s

/-- The heads of a port as a selection finds them. -/
theorem State.headsShown_kept (s : State) (p : Nat) (pre : Bool) : s.HeadsKept ((s.cleanHeads p).showReady p pre) :=
  (s.cleanHeads_kept p).comp (State.showReady_kept _ p pre)

end

/-! ## The start of a copy -/

section
variable {s : State} {p m q n sent : Nat} {c : Copy} {rest : List Copy}

/-- The copy that a MAC begins to send. -/
def State.started (s : State) (p q : Nat) (c : Copy) (len : Nat) : Tx :=
  ⟨q, c, len, false, false, false, 0, false, ({ s with time := { s.time with now := s.instant } } : State).txStamp p,
    decide (p < 10) && s.flag (F.SEC_CFG_TX_EN p), s.heldPort p && !c.note.free, 0, none⟩

theorem State.begin_own (s : State) (p q len : Nat) (own : c.frame = none) :
    s.begin p (2 * p) q c none len = (s.setTx (2 * p) (some (s.started p q c len))).plcaUse p := by
  have whole : s.startsEarly c = false := by unfold State.startsEarly; rw [own]
  have even : ¬2 * p % 2 = 1 := by omega
  unfold State.begin State.started
  simp only [whole, even, Bool.false_eq_true, if_false, Option.isNone_none, Bool.true_and]

theorem State.charge_keeps (s : State) (k n : Nat) : s.Only (s.charge k n) [.regs, .data] ∧ (s.charge k n).data.queues = s.data.queues := ⟨rfl, rfl⟩

theorem State.chargeShaper_keeps (s : State) (q len : Nat) : s.Only (s.chargeShaper q len) [.regs, .data] ∧
    (s.chargeShaper q len).data.queues = s.data.queues := by
  unfold State.chargeShaper
  split
  · obtain ⟨only, queues⟩ := s.charge_keeps (K.SHP_C_LEVEL q) len
    obtain ⟨only', queues'⟩ := (s.charge (K.SHP_C_LEVEL q) len).charge_keeps (K.SHP_P_LEVEL q) len
    exact ⟨only.comp only', queues'.trans queues⟩
  · exact ⟨s.only_refl _, rfl⟩

theorem State.plcaUse_keeps (s : State) (p : Nat) : s.Only (s.plcaUse p) [.ports] ∧ (s.plcaUse p).ports.tx = s.ports.tx := by
  unfold State.plcaUse
  split
  · exact ⟨rfl, rfl⟩
  · exact ⟨s.only_refl _, rfl⟩

/-- A copy of bytes of the unit's own within the length limit, without launch time and outside MACsec, starts. -/
theorem State.launchCopy_own (s : State) (p q : Nat) (own : c.frame = none) (launch : c.launch = none) (cross : c.cross = none)
    (fits : c.own.length + 4 ≤ s.fld (F.MAC_FRAME_MAX_FRAME p)) (plain : s.secApplies p (s.copyBytes c) = false) :
    s.launchCopy p (2 * p) q c .none true = (true, (s.chargeShaper q (s.wireLen p c)).begin p (2 * p) q c none (s.wireLen p c)) := by
  have live : s.deadFrame c = false := by unfold State.deadFrame; rw [own]
  have time : s.tooLate q c = false := by unfold State.tooLate; rw [launch]
  have bytes : s.copyBytes c = c.own := by unfold State.copyBytes; rw [own]
  have whole : s.copyWhole c = true := by unfold State.copyWhole; rw [own]
  have short : s.oversize p c = false := by
    have limit : s.maxLen p c = s.fld (F.MAC_FRAME_MAX_FRAME p) := by unfold State.maxLen; rw [cross]; rfl
    unfold State.oversize State.copyLen
    rw [whole, limit, bytes]
    simpa using fits
  unfold State.launchCopy
  rw [live, own]
  simp only [Bool.false_eq_true, if_false, time, short, plain, if_true]

end

/-! ## An express selection -/

section
variable {s u : State} {p n sent : Nat} {c : Copy} {rest : List Copy}

/-- What a served queue's virtual time becomes. -/
def State.vtimeTaken (s : State) (p q : Nat) : State :=
  match s.finTag q with
  | some f => { s with data := { s.data with vtime := mapSet (fun _ => 0) s.data.vtime p f } }
  | none => s

theorem State.vtimeTaken_keeps (s : State) (p q : Nat) : s.BufKept (s.vtimeTaken p q) ∧ (s.vtimeTaken p q).data.queues = s.data.queues := by
  unfold State.vtimeTaken
  cases s.finTag q with
  | none => exact ⟨.refl s, rfl⟩
  | some f => exact ⟨s.bufKept_data _, rfl⟩

theorem State.serve_starts {pre : Bool} {fuel : Nat} {u v : State} (hu : u = s.cleanHeads p) (chosen : u.choose p (u.ready p pre) = some n)
    (head : u.queue (8 * p + n) = c :: rest)
    (starts : ((u.vtimeTaken p (8 * p + n)).popHead (8 * p + n)).launchCopy p (2 * p + b2n pre) (8 * p + n) c .none true = (true, v)) :
    s.serve p pre .none (fuel + 1) = (true, v) := by
  subst hu
  rw [State.serve]
  dsimp only
  rw [chosen]
  dsimp only
  rw [head]
  dsimp only
  rw [if_neg (by simp)]
  unfold State.vtimeTaken at starts
  cases tag : (s.cleanHeads p).finTag (8 * p + n) with
  | none =>
    rw [tag] at starts
    dsimp only at starts ⊢
    rw [starts]
  | some f =>
    rw [tag] at starts
    dsimp only at starts ⊢
    rw [starts]

theorem State.preempt_idle (idle : s.txAt (2 * p + 1) = none) (sent : Nat) : s.preempt p sent = s := by
  unfold State.preempt
  rw [idle]

theorem State.selectExpress_serves {v : State} (hu : u = (s.cleanHeads p).showReady p false) (express : u.txAt (2 * p) = none)
    (pre : u.txAt (2 * p + 1) = none) (live : u.twin.replaying = false) (turn : u.plcaOpen p = true)
    (serves : u.serve p false .none (u.nodesUsed + 1) = (true, v)) : s.selectExpress p sent .none = v := by
  have idle : u.macIdle p = true := by unfold State.macIdle; rw [express, pre]; rfl
  have replay : u.serveReplay p false .none = (false, u) := by unfold State.serveReplay; rw [live]; rfl
  unfold State.selectExpress
  rw [← hu]
  dsimp only
  rw [State.preempt_idle pre, ite_self, idle, turn, replay]
  dsimp only
  rw [serves]
  rfl

theorem select_express (hr : s.running = true) (hup : s.portUp p = true) : s.select p .express sent .none = s.selectExpress p sent .none := by
  unfold State.select
  rw [hr, hup, if_neg (by simp)]

theorem select_preemptable (hr : s.running = true) (hup : s.portUp p = true) : s.select p .preemptable sent .none = s.selectPre p .none := by
  unfold State.select
  rw [hr, hup, if_neg (by simp)]

theorem exec_egressSelection_starts (hp : p < 35) (hr : s.running = true) (hup : s.portUp p = true) (hu : u = (s.cleanHeads p).showReady p false)
    (express : u.txAt (2 * p) = none) (pre : u.txAt (2 * p + 1) = none) (live : s.twin.replaying = false) (turn : u.plcaOpen p = true)
    (chosen : (u.cleanHeads p).choose p ((u.cleanHeads p).ready p false) = some n) (head : (u.cleanHeads p).queue (8 * p + n) = c :: rest)
    (own : c.frame = none) (launch : c.launch = none) (fits : c.own.length + 4 ≤ s.fld (F.MAC_FRAME_MAX_FRAME p)) (cross : c.cross = none)
    (plain : 10 ≤ p ∨ s.flag (F.SEC_CFG_TX_EN p) = false) :
    ∃ t x, exec (.egressSelection p .express sent .none) s = .next t ∧
      s.Only t [.regs, .cnts, .fresh, .bufLog, .safLog, .data, .ports, .time, .mgt, .twin, .key] ∧ t.txAt (2 * p) = some x ∧ x.copy = c ∧
      x.queue = 8 * p + n ∧ x.waiting = false ∧ x.stomp = false ∧ t.queue (8 * p + n) = rest ∧ t.txAt (2 * p + 1) = none := by
  have shown : s.HeadsKept u := hu ▸ s.headsShown_kept p false
  have run := exec_egressSelection s p .express sent .none (by simp [Instr.wf, txForm, hp]) hr
  have cleaned := u.cleanHeads_kept p
  have serves := fun v => State.serve_starts (s := u) (v := v) (fuel := u.nodesUsed) rfl chosen head
  obtain ⟨taken, queues⟩ := (u.cleanHeads p).vtimeTaken_keeps p (8 * p + n)
  obtain ⟨-, left, -⟩ := ((u.cleanHeads p).vtimeTaken p (8 * p + n)).popHead_pops (8 * p + n)
  have popped := ((u.cleanHeads p).vtimeTaken p (8 * p + n)).popHead_bufKept (8 * p + n)
  have tail : (((u.cleanHeads p).vtimeTaken p (8 * p + n)).popHead (8 * p + n)).queue (8 * p + n) = rest := by
    rw [left, State.queue, queues, ← State.queue, head]; rfl
  have whole := ((shown.comp cleaned).comp taken.headsKept).comp popped.headsKept
  generalize ((u.cleanHeads p).vtimeTaken p (8 * p + n)).popHead (8 * p + n) = a at *
  have launched := a.launchCopy_own p (8 * p + n) own launch cross (by rw [whole.maxFrame hp]; exact fits) (whole.unsecured plain _)
  have effect := State.selectExpress_serves (sent := sent) hu express pre (by rw [shown.twin]; exact live) turn (serves _ launched)
  rw [State.begin_own _ p _ _ own] at effect
  obtain ⟨charged, same⟩ := a.chargeShaper_keeps (8 * p + n) (a.wireLen p c)
  generalize hx : State.started _ p (8 * p + n) c (a.wireLen p c) = x at effect
  generalize a.chargeShaper (8 * p + n) (a.wireLen p c) = b at *
  obtain ⟨used, tx⟩ := (b.setTx (2 * p) (some x)).plcaUse_keeps p
  have only : s.Only ((b.setTx (2 * p) (some x)).plcaUse p) [.regs, .cnts, .bufLog, .data, .ports, .mgt, .key] :=
    (whole.1.mono _ (by decide)).comp ((charged.mono _ (by decide)).comp ((State.Only.comp (t := b.setTx (2 * p) (some x)) rfl (used.mono _ (by decide)))))
  have at_ (m : Nat) : ((b.setTx (2 * p) (some x)).plcaUse p).txAt m = (b.setTx (2 * p) (some x)).txAt m := by
    rw [State.txAt, tx, State.txAt]
  have before (m : Nat) : b.txAt m = s.txAt m := (congrArg (fun x : PortSt => mapGet (fun _ => none) x.tx m) (charged.keeps State.ports rfl)).trans (whole.txAt m)
  rw [select_express hr hup, effect, only.confine _ (by decide)] at run
  subst hx
  refine ⟨_, _, run, only.mono _ (by decide), (at_ _).trans ((State.txAt_setTx _ _ _ _).trans (if_pos rfl)), rfl, rfl, rfl, rfl, ?_, ?_⟩
  · rw [State.queue, used.keeps State.data rfl]
    exact (congrArg (fun l => mapGet (fun _ => []) l (8 * p + n)) same).trans tail
  · rw [at_, State.txAt_setTx, if_neg (by omega), before, ← shown.txAt, pre]

end

/-! ## A preempted frame that resumes -/

section
variable {s u : State} {p sent : Nat} {x : Tx}

theorem State.selectPre_resumes (hu : u = (s.cleanHeads p).showReady p true) (express : u.txAt (2 * p) = none) (calm : u.expressReady p = false)
    (hold : u.flag (F.GATE_STATUS_HOLD_ACTIVE p) = false) (some_ : u.txAt (2 * p + 1) = some x) (waits : x.waiting = true) :
    s.selectPre p .none = u.setTx (2 * p + 1) (some { x with waiting := false }) := by
  have idle : u.macIdle p = true := by unfold State.macIdle; rw [express, some_]; exact waits
  unfold State.selectPre
  rw [← hu]
  dsimp only
  rw [idle, calm, hold, some_]
  rfl

theorem exec_egressSelection_resumes (hp : p < 35) (hr : s.running = true) (hup : s.portUp p = true)
    (hu : u = (s.cleanHeads p).showReady p true) (merges : p < 26) (express : u.txAt (2 * p) = none) (calm : u.expressReady p = false)
    (hold : u.flag (F.GATE_STATUS_HOLD_ACTIVE p) = false) (some_ : u.txAt (2 * p + 1) = some x) (waits : x.waiting = true) :
    ∃ t, exec (.egressSelection p .preemptable sent .none) s = .next t ∧
      s.Only t [.regs, .cnts, .fresh, .bufLog, .safLog, .data, .ports, .time, .mgt, .twin, .key] ∧
      t.txAt (2 * p + 1) = some { x with waiting := false } ∧ t.txAt (2 * p) = none ∧ t.data.queues = u.data.queues := by
  have shown : s.HeadsKept u := hu ▸ s.headsShown_kept p true
  have run := exec_egressSelection s p .preemptable sent .none (by simp [Instr.wf, txForm, hp, hasMerge, merges]) hr
  have only : s.Only (u.setTx (2 * p + 1) (some { x with waiting := false })) [.regs, .cnts, .bufLog, .data, .ports, .mgt, .key] :=
    (shown.1.mono _ (by decide)).comp rfl
  rw [select_preemptable hr hup, State.selectPre_resumes hu express calm hold some_ waits, only.confine _ (by decide)] at run
  refine ⟨_, run, only.mono _ (by decide), (State.txAt_setTx _ _ _ _).trans (if_pos rfl), ?_, rfl⟩
  rw [State.txAt_setTx, if_neg (by omega), express]

end

/-! ## The end of a transmission -/

/-- The line of a port's two that a MAC sends on. -/
def macLine : MacSel → Nat
  | .express => 0
  | .preemptable => 1

section
variable {s : State} {p m : Nat} {mac : MacSel} {tx : Tx}

/-- PMAC_TX falls at the end of a preemptable frame. -/
def State.pmacEnds (s : State) (p m : Nat) : State := if m % 2 = 1 then s.setFld (F.MERGE_STATUS_PMAC_TX p) 0 else s

theorem State.pmacEnds_keeps (s : State) (p m : Nat) : s.Only (s.pmacEnds p m) [.regs] ∧ s.RegsBut (s.pmacEnds p m) [K.MERGE_STATUS p] := by
  unfold State.pmacEnds
  split
  · exact ⟨rfl, s.regsBut_setFld _ 0⟩
  · exact ⟨s.only_refl _, .refl s _⟩

theorem State.pmacEnds_wire (s : State) (m : Nat) (hp : p < 34) (whole : tx.cutThrough = false) :
    (s.pmacEnds p m).wireBytes p tx false = s.wireBytes p tx false := by
  obtain ⟨only, regs⟩ := s.pmacEnds_keeps p m
  have data := only.keeps State.data rfl
  generalize s.pmacEnds p m = u at *
  have tpid : u.altTpid = s.altTpid := by
    have clear (k : Nat) (h : 0x80000 ≤ k) : k ∉ [K.MERGE_STATUS p] := by
      rw [List.mem_singleton]
      unfold K.MERGE_STATUS
      omega
    unfold State.altTpid
    rw [regs.flag (clear _ (by decide)), regs.fld (f := F.PRS_TPID_ALT) (clear _ (by decide))]
  have view (h : Nat) : u.frameView h = s.frameView h := by
    unfold State.frameView State.frame State.info
    rw [data]
  have bytes : u.copyBytes tx.copy = s.copyBytes tx.copy := by
    unfold State.copyBytes
    simp only [view, tpid]
  unfold State.wireBytes State.wireBody
  rw [bytes, whole]
  rfl

/-- The frame of a transmission is bad. -/
def State.sendsBad (s : State) (tx : Tx) : Bool :=
  match tx.copy.frame with
  | some h => (match s.frame h with
    | some f => f.bad
    | none => false)
  | none => false

theorem State.sendsBad_good (good : ∀ h f, tx.copy.frame = some h → s.frame h = some f → f.bad = false) : s.sendsBad tx = false := by
  unfold State.sendsBad
  cases frame : tx.copy.frame with
  | none => rfl
  | some h =>
    cases found : s.frame h with
    | none => dsimp only; rw [found]
    | some f => dsimp only; rw [found]; exact good h f frame found

/-- The end of a held transmission. -/
def State.heldEnd (s u : State) (p m : Nat) (tx : Tx) : State := ((u.setTx m none).inc (C.pair 3)).setReplay p (s.replayList p ++ [(tx.queue, tx.copy)])

/-- The end of one that was on the wire. -/
def State.wireEnd (u : State) (p m : Nat) (tx : Tx) : State :=
  (((u.txReal p tx (u.wireBytes p tx false) false false).setTx m none).noteSent p tx.copy.note tx.stamp).endCopy tx.queue tx.copy

theorem State.transmitEnd_held (hm : m = 2 * p + macLine mac) (some_ : s.txAt m = some tx) (hr : s.running = true)
    (ends : s.txCanEnd p tx = true) (held : tx.held = true) :
    s.transmitEnd p mac .none = (s.pmacEnds p m).heldEnd (s.pmacEnds p m) p m tx := by
  subst hm
  unfold State.transmitEnd
  change (match s.txAt (2 * p + macLine mac) with | none => s | some t => _) = _
  rw [some_]
  dsimp only
  rw [hr, ends, if_neg (by simp), if_pos held]
  cases frame : tx.copy.frame with
  | none => rfl
  | some h => rfl

theorem State.transmitEnd_wire (hm : m = 2 * p + macLine mac) (some_ : s.txAt m = some tx) (hr : s.running = true)
    (ends : s.txCanEnd p tx = true) (whole : tx.cutThrough = false) (real : tx.held = false) (clean : tx.stomp = false)
    (good : s.sendsBad tx = false) :
    s.transmitEnd p mac .none = (s.pmacEnds p m).wireEnd p m tx := by
  subst hm
  unfold State.transmitEnd
  change (match s.txAt (2 * p + macLine mac) with | none => s | some t => _) = _
  rw [some_]
  dsimp only
  rw [hr, ends, if_neg (by simp), whole, real, clean]
  unfold State.sendsBad at good
  cases frame : tx.copy.frame with
  | none => rfl
  | some h =>
    rw [frame] at good
    have quiet : s.bufError h .none = s := rfl
    dsimp only at good ⊢
    cases found : s.frame h with
    | none =>
      simp only [quiet, found, Option.isSome_some, Bool.and_false, Bool.false_and, Bool.or_false, Bool.false_eq_true, if_false]
      rfl
    | some f =>
      rw [found] at good
      dsimp only at good
      simp only [quiet, found, good, Option.isSome_some, Bool.and_false, Bool.false_and, Bool.or_false, Bool.false_eq_true, if_false]
      rfl

/-- What a frame on the wire counts of its crossing and of MACsec. -/
def State.sentCounts (s : State) (p : Nat) (tx : Tx) : State :=
  let s := if tx.copy.cross.isSome then s.inc (C.pair 9) else s
  if tx.sec.isSome then s.inc (C.sec p 6) else if tx.bypass then s.inc (C.sec p 7) else s

theorem State.sentCounts_keeps (s : State) (p : Nat) (tx : Tx) : s.Only (s.sentCounts p tx) [.cnts] ∧
    s.CntsBut (s.sentCounts p tx) [C.pair 9, C.sec p 6, C.sec p 7] := by
  have step (u : State) (c : Bool) (a : Nat) (h : a ∈ [C.pair 9, C.sec p 6, C.sec p 7]) (v : State)
      (hv : u.Only v [.cnts] ∧ u.CntsBut v [C.pair 9, C.sec p 6, C.sec p 7]) :
      u.Only (if c then u.inc a else v) [.cnts] ∧ u.CntsBut (if c then u.inc a else v) [C.pair 9, C.sec p 6, C.sec p 7] := by
    split
    · exact ⟨rfl, (u.cntsBut_inc a).mono (by simpa using h)⟩
    · exact hv
  have same (u : State) : u.Only u [.cnts] ∧ u.CntsBut u [C.pair 9, C.sec p 6, C.sec p 7] := ⟨u.only_refl _, .refl u _⟩
  obtain ⟨only, cnts⟩ := step s tx.copy.cross.isSome (C.pair 9) (by simp) s (same s)
  unfold State.sentCounts
  generalize (if tx.copy.cross.isSome then s.inc (C.pair 9) else s) = u at *
  obtain ⟨only', cnts'⟩ := step u tx.sec.isSome (C.sec p 6) (by simp) _ (step u tx.bypass (C.sec p 7) (by simp) u (same u))
  exact ⟨only.comp only', cnts.comp cnts'⟩

theorem State.txReal_eq (s : State) (tx : Tx) (b : List Byte) (hp : p < 34) :
    s.txReal p tx b false false = (((s.count (C.mac p 10) b.length).inc (C.mac p 11)).sentCounts p tx).emit (.frame p b true) := by
  unfold State.txReal
  rw [if_neg (show p ≠ 34 by omega)]
  rfl

/-- What a whole frame on the wire counts and emits. -/
theorem State.txReal_sends (s : State) (tx : Tx) (b : List Byte) (hp : p < 34) :
    s.Only (s.txReal p tx b false false) [.cnts, .out] ∧ (s.txReal p tx b false false).out = .frame p b true :: s.out ∧
      (s.txReal p tx b false false).cnt (C.mac p 10) = s.cnt (C.mac p 10) + BitVec.ofNat 64 b.length ∧
      (s.txReal p tx b false false).cnt (C.mac p 11) = s.cnt (C.mac p 11) + 1 := by
  have apart (k : Nat) (hk : k < 16) : C.mac p k ∉ [C.pair 9, C.sec p 6, C.sec p 7] := by
    simp only [List.mem_cons, List.not_mem_nil, or_false, C.mac, C.pair, C.sec]
    omega
  have ten : ((s.count (C.mac p 10) b.length).inc (C.mac p 11)).cnt (C.mac p 10) = s.cnt (C.mac p 10) + BitVec.ofNat 64 b.length := by
    rw [State.cnt_inc_other _ (by unfold C.mac; omega)]
    exact mapGet_mapSet_same (fun _ => 0) s.cnts _ _
  have eleven : ((s.count (C.mac p 10) b.length).inc (C.mac p 11)).cnt (C.mac p 11) = s.cnt (C.mac p 11) + 1 := by
    rw [State.cnt_inc_same]
    exact congrArg (· + 1) (mapGet_mapSet_other (fun _ => 0) s.cnts _ (by unfold C.mac; omega))
  have counted : s.Only ((s.count (C.mac p 10) b.length).inc (C.mac p 11)) [.cnts, .out] := rfl
  rw [s.txReal_eq tx b hp]
  obtain ⟨only, cnts⟩ := ((s.count (C.mac p 10) b.length).inc (C.mac p 11)).sentCounts_keeps p tx
  have out : ((s.count (C.mac p 10) b.length).inc (C.mac p 11)).out = s.out := rfl
  generalize (s.count (C.mac p 10) b.length).inc (C.mac p 11) = u at *
  exact ⟨counted.comp (State.Only.comp (t := u.sentCounts p tx) (only.mono _ (by decide)) rfl), congrArg _ ((only.keeps State.out rfl).trans out),
    (cnts _ (apart 10 (by decide))).trans ten, (cnts _ (apart 11 (by decide))).trans eleven⟩

theorem State.sendGptp_cntsBut (s : State) (p : Nat) (note : CopyNote) (b : List Byte) : s.CntsBut (s.sendGptp p note b) [C.nm 11] :=
  State.enqueue_cntsBut _ _ rfl

theorem State.noteSent_keeps (s : State) (p : Nat) (note : CopyNote) (stamp : Nat) : s.Only (s.noteSent p note stamp) [.cnts, .data, .time] ∧
    s.CntsBut (s.noteSent p note stamp) [C.time 1, C.nm 11] := by
  have stamped (u : State) (q : Nat) : u.Only (u.stampSync p q stamp) [.time] := by
    unfold State.stampSync
    split
    · rfl
    · rfl
  unfold State.noteSent
  cases note with
  | sync q =>
    have only := stamped (s.inc (C.time 1)) q
    exact ⟨State.Only.comp (t := s.inc (C.time 1)) rfl (only.mono _ (by decide)), ((s.cntsBut_inc (C.time 1)).mono (by simp)).comp
      (State.cntsBut_of_cnts (only.keeps State.cnts rfl) _)⟩
  | pdelayReq q =>
    dsimp only
    split
    · exact ⟨rfl, State.CntsBut.refl s _⟩
    · exact ⟨s.only_refl _, State.CntsBut.refl s _⟩
  | pdelayResp q =>
    dsimp only
    split
    · next a found =>
      have only := (s.setGport p { s.gport p with answers := (s.gport p).answers.erase a }).sendGptp_only p .pdelayFollow
        (s.gptpMessage p 10 0 q (((stamp % fracPerNs) / 16777216 : Nat) : Int) 0x7F (ptpStamp (stamp / fracPerNs) ++ a.2))
      have cnts := (s.setGport p { s.gport p with answers := (s.gport p).answers.erase a }).sendGptp_cntsBut p .pdelayFollow
        (s.gptpMessage p 10 0 q (((stamp % fracPerNs) / 16777216 : Nat) : Int) 0x7F (ptpStamp (stamp / fracPerNs) ++ a.2))
      exact ⟨State.Only.comp (t := s.setGport p _) rfl (only.mono _ (by decide)), fun k hk => cnts k (fun mem => hk (by simp_all))⟩
    · exact ⟨s.only_refl _, State.CntsBut.refl s _⟩
  | _ => exact ⟨s.only_refl _, State.CntsBut.refl s _⟩

theorem State.wireEnd_shows (s : State) (m : Nat) (hp : p < 34) :
    s.Only (s.wireEnd p m tx) [.regs, .cnts, .bufLog, .data, .ports, .time, .mgt, .key, .out] ∧ (s.wireEnd p m tx).txAt m = none ∧
      (s.wireEnd p m tx).out = .frame p (s.wireBytes p tx false) true :: s.out ∧
      (s.wireEnd p m tx).cnt (C.mac p 10) = s.cnt (C.mac p 10) + BitVec.ofNat 64 (s.wireBytes p tx false).length ∧
      (s.wireEnd p m tx).cnt (C.mac p 11) = s.cnt (C.mac p 11) + 1 := by
  have clear (k : Nat) (hk : k < 16) : C.mac p k ∉ [C.time 1, C.nm 11] ∧ C.mac p k ∉ eventCounters := by
    simp only [eventCounters, List.mem_cons, List.not_mem_nil, or_false, C.mac, C.time, C.nm, C.mgt]
    omega
  obtain ⟨only, out, ten, eleven⟩ := s.txReal_sends tx (s.wireBytes p tx false) hp
  unfold State.wireEnd
  generalize s.txReal p tx (s.wireBytes p tx false) false false = u at *
  have idle : (u.setTx m none).txAt m = none := (State.txAt_setTx _ _ _ _).trans (if_pos rfl)
  obtain ⟨noted, cnts⟩ := (u.setTx m none).noteSent_keeps p tx.copy.note tx.stamp
  have tx' : ((u.setTx m none).noteSent p tx.copy.note tx.stamp).txAt m = none := by
    rw [State.txAt, noted.keeps State.ports rfl, ← State.txAt, idle]
  have out' : ((u.setTx m none).noteSent p tx.copy.note tx.stamp).out = u.out := noted.keeps State.out rfl
  have whole : s.Only ((u.setTx m none).noteSent p tx.copy.note tx.stamp) [.regs, .cnts, .bufLog, .data, .ports, .time, .mgt, .key, .out] :=
    (only.mono _ (by decide)).comp (State.Only.comp (t := u.setTx m none) rfl (noted.mono _ (by decide)))
  have counts (k : Nat) (hk : k < 16) : ((u.setTx m none).noteSent p tx.copy.note tx.stamp).cnt (C.mac p k) = u.cnt (C.mac p k) :=
    cnts _ (clear k hk).1
  generalize (u.setTx m none).noteSent p tx.copy.note tx.stamp = v at *
  have ended := (v.endCopy_holdKept tx.queue tx.copy).1
  exact ⟨whole.comp (ended.1.mono _ (by decide)), (ended.txAt m).trans tx', (ended.out.trans out').trans out,
    ((ended.2.2 _ (clear 10 (by decide)).2).trans (counts 10 (by decide))).trans ten,
    ((ended.2.2 _ (clear 11 (by decide)).2).trans (counts 11 (by decide))).trans eleven⟩

theorem exec_transmitEnd_wire (hm : m = 2 * p + macLine mac) (hp : p < 34) (form : txForm p mac = true) (hr : s.running = true)
    (powered : s.powered = true) (some_ : s.txAt m = some tx) (ends : s.txCanEnd p tx = true) (whole : tx.cutThrough = false)
    (real : tx.held = false) (clean : tx.stomp = false) (good : s.sendsBad tx = false) :
    ∃ t, exec (.transmitEnd p mac .none) s = .next t ∧
      s.Only t [.regs, .cnts, .fresh, .bufLog, .safLog, .data, .ports, .time, .mgt, .twin, .key, .out] ∧ t.txAt m = none ∧
      t.out = .frame p (s.wireBytes p tx false) true :: s.out ∧
      t.cnt (C.mac p 10) = s.cnt (C.mac p 10) + BitVec.ofNat 64 (s.wireBytes p tx false).length ∧
      t.cnt (C.mac p 11) = s.cnt (C.mac p 11) + 1 := by
  have run := exec_transmitEnd s p mac .none form powered
  have effect := State.transmitEnd_wire hm some_ hr ends whole real clean good
  obtain ⟨ended, -⟩ := s.pmacEnds_keeps p m
  obtain ⟨only, idle, out, ten, eleven⟩ := (s.pmacEnds p m).wireEnd_shows (tx := tx) m hp
  rw [s.pmacEnds_wire m hp whole] at out ten
  rw [ended.keeps State.out rfl] at out
  rw [State.cnt_congr (ended.keeps State.cnts rfl)] at ten eleven
  have all : s.Only ((s.pmacEnds p m).wireEnd p m tx) [.regs, .cnts, .bufLog, .data, .ports, .time, .mgt, .key, .out] :=
    (ended.mono _ (by decide)).comp only
  rw [effect, all.confine _ (by decide)] at run
  exact ⟨_, run, all.mono _ (by decide), idle, out, ten, eleven⟩

theorem exec_transmitEnd_held (hm : m = 2 * p + macLine mac) (form : txForm p mac = true) (hr : s.running = true)
    (powered : s.powered = true) (some_ : s.txAt m = some tx) (ends : s.txCanEnd p tx = true) (held : tx.held = true) :
    ∃ t, exec (.transmitEnd p mac .none) s = .next t ∧ t.txAt m = none ∧ t.replayList p = s.replayList p ++ [(tx.queue, tx.copy)] ∧
      t.cnt (C.pair 3) = s.cnt (C.pair 3) + 1 ∧ s.CntsBut t [C.pair 3] ∧ s.Only t [.regs, .cnts, .ports, .twin] := by
  have run := exec_transmitEnd s p mac .none form powered
  have effect := State.transmitEnd_held hm some_ hr ends held
  obtain ⟨ended, -⟩ := s.pmacEnds_keeps p m
  have twin : (s.pmacEnds p m).twin = s.twin := ended.keeps State.twin rfl
  have list : (s.pmacEnds p m).replayList p = s.replayList p := by rw [State.replayList, twin, State.replayList]
  have cnts : (s.pmacEnds p m).cnts = s.cnts := ended.keeps State.cnts rfl
  have all : s.Only ((s.pmacEnds p m).heldEnd (s.pmacEnds p m) p m tx) [.regs, .cnts, .ports, .twin] := (ended.mono _ (by decide)).comp rfl
  rw [effect, all.confine _ (by decide)] at run
  generalize s.pmacEnds p m = u at *
  refine ⟨_, run, (State.txAt_setTx u m m none).trans (if_pos rfl), (mapGet_mapSet_same (fun _ => []) _ p _).trans (by rw [list]),
    ((u.setTx m none).cnt_inc_same (C.pair 3)).trans (congrArg (· + 1) (State.cnt_congr cnts _)),
    fun a ha => ((u.setTx m none).cntsBut_inc (C.pair 3) a ha).trans (State.cnt_congr cnts a), all⟩

end

/-- Settles O18: what cleans and shows the heads leaves the ports, and a choice, a resumption or an end is one step on the state it leaves. -/
theorem egressStartsAndEnds : Obligations.EgressStartsAndEnds := by
  unfold Obligations.EgressStartsAndEnds
  refine ⟨fun s u p sent hp hr hup => ⟨fun hu express pre live turn n c rest chosen head own launch fits cross plain =>
      exec_egressSelection_starts hp hr hup hu express pre live turn chosen head own launch fits cross plain,
    fun hu merges express calm hold x some_ waits => exec_egressSelection_resumes hp hr hup hu merges express calm hold some_ waits⟩,
    fun s p mac tx hp form hr powered some_ ends whole => ⟨fun held => ?_, fun real clean good => ?_⟩⟩
  · cases mac with
    | express => exact exec_transmitEnd_held rfl form hr powered some_ ends held
    | preemptable => exact exec_transmitEnd_held rfl form hr powered some_ ends held
  · cases mac with
    | express => exact exec_transmitEnd_wire rfl hp form hr powered some_ ends whole real clean (State.sendsBad_good good)
    | preemptable => exact exec_transmitEnd_wire rfl hp form hr powered some_ ends whole real clean (State.sendsBad_good good)

end Sys2Proof.Machine
end


section
/-!
SUPPORT. The end of a frame (spec/04, R104; spec/05, R136 and R144): a frame found bad stays so and leaves every queue, and what the checks of the
end leave alone.
-/
namespace Sys2Proof.Machine

section
variable {s t u : State} {h k q : Nat} {f g : Frame}

/-! ## Frames that stay bad -/

/-- A frame is gone or bad. -/
def State.lost (s : State) (h : Nat) : Prop := ∀ f, s.frame h = some f → f.bad = true

/-- What is gone or bad stays so. -/
def State.BadKept (s t : State) : Prop := ∀ h, s.lost h → t.lost h

theorem State.BadKept.refl (s : State) : s.BadKept s := fun _ => id

theorem State.BadKept.comp (a : s.BadKept t) (b : t.BadKept u) : s.BadKept u := fun h l => b h (a h l)

theorem State.frame_setFrame (s : State) (k h : Nat) (g : Frame) : (s.setFrame k g).frame h = if k = h then some g else s.frame h := by
  by_cases same : k = h
  · subst same
    rw [if_pos rfl]
    exact mapGet_mapSet_same (fun _ => none) s.data.frames k (some g)
  · rw [if_neg same]
    exact mapGet_mapSet_other (fun _ => none) s.data.frames (some g) same

theorem State.badKept_of_frames (e : t.data.frames = s.data.frames) : s.BadKept t := fun h l f hf =>
  l f (by rw [State.frame, ← e]; exact hf)

theorem State.setFrame_badKept (found : s.frame k = some f) (same : g.bad = f.bad) : s.BadKept (s.setFrame k g) := fun h l f' hf' => by
  rw [State.frame_setFrame] at hf'
  split at hf'
  · next e =>
    subst e
    cases hf'
    exact same.trans (l f found)
  · exact l f' hf'

theorem State.modFrame_badKept (s : State) (k : Nat) (e : Frame → Frame) (same : ∀ f, (e f).bad = f.bad) : s.BadKept (s.modFrame k e) := by
  unfold State.modFrame
  split
  · next f found => exact State.setFrame_badKept found (same f)
  · exact .refl s

theorem State.erase_badKept (s : State) (k : Nat) :
    s.BadKept { s with data := { s.data with frames := mapErase k s.data.frames, infos := mapErase k s.data.infos } } := fun h l f hf => by
  by_cases same : k = h
  · subst same
    exact absurd ((mapGet_mapErase_same (fun _ => none) k s.data.frames).symm.trans hf) (by simp)
  · exact l f ((mapGet_mapErase_other (fun _ => none) s.data.frames same).symm.trans hf)

theorem State.returnChain_badKept (s : State) (k : Nat) : s.BadKept (s.returnChain k) := by
  have cell (j : Nat) (v : State) : v.BadKept (v.returnCell j) := by
    refine State.badKept_of_frames ?_
    unfold State.returnCell
    split <;> rfl
  unfold State.returnChain
  split
  · exact .refl s
  · exact (forEach_relates State.BadKept.refl State.BadKept.comp _ _ (fun j _ v => cell j v) s).comp (State.erase_badKept _ k)

/-- A frame without holds gives up its cells. -/
def State.freed (s : State) (f : Frame) (k : Nat) : State :=
  let s := s.setFrame k { f with ref := 0 }
  if f.live then s.returnChain k
  else { s with data := { s.data with frames := mapErase k s.data.frames, infos := mapErase k s.data.infos } }

theorem State.release_badKept (s : State) (k : Nat) : s.BadKept (s.release k) := by
  unfold State.release
  split
  · exact .refl s
  next f found =>
  split
  · exact State.badKept_of_frames (by rw [s.bufEvent_data])
  split
  · have freed (v : State) (kept : s.BadKept v) (found' : v.frame k = some f) : s.BadKept (v.freed f k) := by
      have counted := kept.comp (State.setFrame_badKept (g := { f with ref := 0 }) found' rfl)
      unfold State.freed
      split
      · exact counted.comp (State.returnChain_badKept _ k)
      · exact counted.comp (State.erase_badKept _ k)
    cases (s.info k).credit with
    | none => exact freed s (.refl s) found
    | some c => exact freed (s.creditBack c.1 c.2) (State.badKept_of_frames rfl) found
  · exact State.setFrame_badKept found rfl

theorem State.tryRelease_badKept (s : State) (k : Nat) : s.BadKept (s.tryRelease k) := by
  unfold State.tryRelease
  split
  · exact .refl s
  next f found =>
  split
  · exact (State.setFrame_badKept (g := { f with ihold := false }) found rfl).comp (State.release_badKept _ k)
  · exact .refl s

theorem State.endCopy_badKept (s : State) (q : Nat) (c : Copy) : s.BadKept (s.endCopy q c) := by
  unfold State.endCopy
  split
  · exact .refl s
  · refine State.BadKept.comp (t := if _ then _ else s) ?_ (State.release_badKept _ _)
    split
    · exact s.modFrame_badKept _ _ (fun _ => rfl)
    · exact .refl s

/-! ## Copies dropped from the queues -/

/-- A queue without the copies that are to go, its new head tagged. -/
def State.withoutCopies (s : State) (q : Nat) (p : Copy → Bool) : State :=
  let headGone := match s.queue q with
    | c :: _ => p c
    | [] => false
  let t := s.setQueue q ((s.queue q).filter (fun c => !p c))
  if headGone && decide (q < 280) then t.headTag q ((s.finTag q).getD (t.vt (qPort q))) else t

theorem State.dropCopies_eq (s : State) (q : Nat) (p : Copy → Bool) : s.dropCopies q p =
    if ((s.queue q).filter p).isEmpty then s else forEach ((s.queue q).filter p) (fun c s => s.endCopy q c) (s.withoutCopies q p) := rfl

/-- Kept by drops from queues: what is bad, and the learn requests. -/
def State.DropKept (s t : State) : Prop := s.BadKept t ∧ t.data.learnQ = s.data.learnQ

theorem State.DropKept.refl (s : State) : s.DropKept s := ⟨.refl s, rfl⟩

theorem State.DropKept.comp (a : s.DropKept t) (b : t.DropKept u) : s.DropKept u := ⟨a.1.comp b.1, b.2.trans a.2⟩

theorem State.HoldKept.learnQ (a : s.HoldKept t) : t.data.learnQ = s.data.learnQ := by rw [a.2]

theorem State.withoutCopies_keeps (s : State) (q : Nat) (p : Copy → Bool) : s.DropKept (s.withoutCopies q p) ∧
    (s.withoutCopies q p).data.queues = (s.setQueue q ((s.queue q).filter (fun c => !p c))).data.queues := by
  have tag (c : Bool) (u : State) (st : Nat) : u.DropKept (if c then u.headTag q st else u) ∧
      (if c then u.headTag q st else u).data.queues = u.data.queues := by
    cases c with
    | false => exact ⟨.refl u, rfl⟩
    | true =>
      refine ⟨?_, State.headTag_queues _ _ _⟩
      rw [if_pos rfl, State.headTag]
      split
      · exact .refl u
      · exact ⟨State.badKept_of_frames rfl, rfl⟩
  have set_ : s.DropKept (s.setQueue q ((s.queue q).filter (fun c => !p c))) := ⟨State.badKept_of_frames rfl, rfl⟩
  exact ⟨set_.comp (tag _ _ _).1, (tag _ _ _).2⟩

theorem State.dropCopies_drops (s : State) (q : Nat) (p : Copy → Bool) : s.DropKept (s.dropCopies q p) ∧
    ∀ r, (s.dropCopies q p).queue r = if r = q then (s.queue r).filter (fun c => !p c) else s.queue r := by
  rw [s.dropCopies_eq]
  split
  · next empty =>
    refine ⟨.refl s, fun r => ?_⟩
    split
    · next same =>
      subst same
      exact (List.filter_eq_self.mpr (fun c hc => by simpa using List.filter_eq_nil_iff.mp (List.isEmpty_iff.mp empty) c hc)).symm
    · rfl
  · obtain ⟨kept, queues⟩ := s.withoutCopies_keeps q p
    have held := forEach_holdKept (fun c s => s.endCopy q c) (fun c s => s.endCopy_holdKept q c) ((s.queue q).filter p) (s.withoutCopies q p)
    have bad := forEach_relates State.BadKept.refl State.BadKept.comp (fun c s => s.endCopy q c) ((s.queue q).filter p)
      (fun c _ s => s.endCopy_badKept q c) (s.withoutCopies q p)
    refine ⟨kept.comp ⟨bad, held.learnQ⟩, fun r => ?_⟩
    rw [held.queue, State.queue, queues, ← State.queue]
    split
    · next same => subst same; exact s.queue_setQueue_same _ _
    · next other => exact s.queue_setQueue_other other _

theorem forEach_dropCopies (p : Copy → Bool) (l : List Nat) : ∀ s : State, s.DropKept (forEach l (fun q s => s.dropCopies q p) s) ∧
    ∀ r, (forEach l (fun q s => s.dropCopies q p) s).queue r = if r ∈ l then (s.queue r).filter (fun c => !p c) else s.queue r := by
  induction l with
  | nil => exact fun s => ⟨.refl s, fun r => by rw [if_neg (by simp)]; rfl⟩
  | cons q l ih =>
    intro s
    obtain ⟨kept, queue⟩ := s.dropCopies_drops q p
    obtain ⟨kept', queue'⟩ := ih (s.dropCopies q p)
    refine ⟨kept.comp kept', fun r => (queue' r).trans ?_⟩
    rw [queue]
    by_cases same : r = q <;> by_cases later : r ∈ l <;> simp [same, later, List.filter_filter]

theorem State.dropFrame_drops (s : State) (h : Nat) : s.DropKept (s.dropFrame h) ∧
    ∀ r c, c ∈ (s.dropFrame h).queue r → c.frame ≠ some h := by
  obtain ⟨kept, queue⟩ := forEach_dropCopies (fun c => c.frame == some h) s.busyQueues s
  refine ⟨kept, fun r c hc => ?_⟩
  rw [State.dropFrame, queue] at hc
  split at hc
  · simpa using (List.mem_filter.mp hc).2
  · next absent =>
    rw [State.queue, mapGet_of_not_mem _ _ _ absent] at hc
    simp at hc

theorem State.markBad_cntsBut (s : State) (h : Nat) : s.CntsBut (s.markBad h) eventCounters := by
  obtain ⟨u, v, first, rfl | rfl, last⟩ := s.markBad_parts h
  · exact first.2.2.comp last.2.2
  · exact (first.2.2.comp (State.cntsBut_of_cnts rfl _)).comp last.2.2

/-- A frame found bad is gone or bad, in no queue, and the learn requests stand. -/
theorem State.markBad_drops (s : State) (found : s.frame h = some f) (good : f.bad = false) : (s.markBad h).lost h ∧
    (s.markBad h).data.learnQ = s.data.learnQ ∧ ∀ r c, c ∈ (s.markBad h).queue r → c.frame ≠ some h := by
  rw [s.markBad_found found good]
  have bad : (s.setFrame h { f with bad := true }).lost h := fun g hg => by
    rw [State.frame_setFrame, if_pos rfl] at hg
    cases hg
    rfl
  obtain ⟨kept, clear⟩ := (s.setFrame h { f with bad := true }).dropFrame_drops h
  have dropped := kept.1 h bad
  have learn : ((s.setFrame h { f with bad := true }).dropFrame h).data.learnQ = s.data.learnQ := kept.2
  generalize (s.setFrame h { f with bad := true }).dropFrame h = v at *
  have marked : ((v.stompTx h).unlistFrame h).lost h := dropped
  have queues : ((v.stompTx h).unlistFrame h).data.queues = v.data.queues := rfl
  have learn' : ((v.stompTx h).unlistFrame h).data.learnQ = v.data.learnQ := rfl
  generalize (v.stompTx h).unlistFrame h = w at *
  have passed : w.BadKept (w.passIfEnded h f) := by
    unfold State.passIfEnded
    split
    · exact w.modFrame_badKept _ _ (fun _ => rfl)
    · exact .refl w
  have held := (w.passIfEnded_holdKept h f).comp (State.tryRelease_holdKept _ h)
  refine ⟨(passed.comp (State.tryRelease_badKept _ h)) h marked, (held.learnQ.trans learn').trans learn, fun r c hc => clear r c ?_⟩
  rw [held.queue, State.queue, queues] at hc
  exact hc

/-! ## The end of a frame that is lost -/

theorem State.refund_keeps (s : State) (len : Nat) (c : Charge) : (s.refund len c).data.queues = s.data.queues ∧ s.DropKept (s.refund len c) := by
  unfold State.refund
  split
  · exact ⟨rfl, State.badKept_of_frames rfl, rfl⟩
  · exact ⟨rfl, .refl s⟩

/-- What the later checks leave of a lost frame's end. -/
def State.LossKept (s t : State) : Prop := t.data.queues = s.data.queues ∧ s.DropKept t ∧ s.CntsBut t eventCounters

theorem State.LossKept.refl (s : State) : s.LossKept s := ⟨rfl, .refl s, .refl s _⟩

theorem State.LossKept.comp (a : s.LossKept t) (b : t.LossKept u) : s.LossKept u := ⟨b.1.trans a.1, a.2.1.comp b.2.1, a.2.2.comp b.2.2⟩

theorem State.setInfo_lossKept (s : State) (h : Nat) (i : PassInfo) : s.LossKept (s.setInfo h i) :=
  ⟨rfl, ⟨State.badKept_of_frames rfl, rfl⟩, State.cntsBut_of_cnts rfl _⟩

theorem State.lateSdu_lost (lost : s.lost h) : s.LossKept (s.lateSdu h) := by
  unfold State.lateSdu
  split
  · next f i found _ =>
    dsimp only
    rw [lost f found]
    exact s.setInfo_lossKept h _
  · exact .refl s

theorem State.refunds_lossKept (s : State) (h : Nat) : s.LossKept (s.refunds h) := by
  unfold State.refunds
  split
  · exact .refl s
  · exact (s.setInfo_lossKept h _).comp (forEach_relates State.LossKept.refl State.LossKept.comp _ _ (fun c _ v =>
      ⟨(v.refund_keeps _ c).1, (v.refund_keeps _ c).2, State.cntsBut_of_cnts (v.refund_cnts _ c) _⟩) _)

theorem State.tryRelease_lossKept (s : State) (h : Nat) : s.LossKept (s.tryRelease h) :=
  ⟨(s.tryRelease_holdKept h).queues, ⟨s.tryRelease_badKept h, (s.tryRelease_holdKept h).learnQ⟩, (s.tryRelease_holdKept h).1.2.2⟩

/-- The three checks at a frame's end. -/
def State.endJudged (s : State) (h : Nat) : State := ((s.lateWalk h).lateSdu h).refunds h

theorem State.endChecks_eq (found : s.frame h = some f) (written : f.written = true) : s.endChecks h = (match (s.endJudged h).frame h with
    | none => s.endJudged h
    | some g => if g.stage = .passed ∨ g.bad then ((s.endJudged h).goodEnd h).tryRelease h else s.endJudged h) := by
  unfold State.endChecks
  rw [found]
  dsimp only
  rw [written]
  rfl

/-- Of a frame that the late walk finds contradictory no copy stays, and it is delivered nowhere. -/
theorem State.endChecks_contradicted (found : s.frame h = some f) (written : f.written = true) (good : f.bad = false)
    (late : s.lateFirst f (s.info h) = true ∨ s.lateSecond f (s.info h) = true) :
    (s.endChecks h).cnt (C.cls 2) = s.cnt (C.cls 2) + 1 ∧ (s.endChecks h).data.learnQ = s.data.learnQ ∧
      ∀ r c, c ∈ (s.endChecks h).queue r → c.frame ≠ some h := by
  have due : ((s.info h).late || (s.info h).late2) = true := by
    rcases late with l | l
    · rw [Bool.or_eq_true]; exact .inl (Bool.and_eq_true _ _ ▸ l).1
    · rw [Bool.or_eq_true]; exact .inr (Bool.and_eq_true _ _ ▸ l).1
  have walk : s.lateWalk h = ((s.setInfo h { s.info h with late := false, late2 := false }).inc (C.cls 2)).markBad h := by
    unfold State.lateWalk
    rw [found]
    dsimp only
    rw [due, good, if_neg (by simp), if_pos (by simpa using late)]
  have counted : ((s.setInfo h { s.info h with late := false, late2 := false }).inc (C.cls 2)).cnt (C.cls 2) = s.cnt (C.cls 2) + 1 :=
    (s.setInfo h _).cnt_inc_same (C.cls 2)
  have found' : ((s.setInfo h { s.info h with late := false, late2 := false }).inc (C.cls 2)).frame h = some f := found
  have learn : ((s.setInfo h { s.info h with late := false, late2 := false }).inc (C.cls 2)).data.learnQ = s.data.learnQ := rfl
  generalize (s.setInfo h { s.info h with late := false, late2 := false }).inc (C.cls 2) = v at *
  obtain ⟨lost, learn', clear⟩ := v.markBad_drops found' good
  have cnt : (v.markBad h).cnt (C.cls 2) = v.cnt (C.cls 2) := v.markBad_cntsBut h _ (by decide)
  have judged : (v.markBad h).LossKept (s.endJudged h) := by
    unfold State.endJudged
    rw [walk]
    exact (State.lateSdu_lost lost).comp (State.refunds_lossKept _ h)
  have ended : (v.markBad h).LossKept (s.endChecks h) := by
    rw [State.endChecks_eq found written]
    have lost' := judged.2.1.1 h lost
    split
    · exact judged
    split
    · rw [State.goodEnd_bad (s.endJudged h) lost']
      exact judged.comp (State.tryRelease_lossKept _ h)
    · exact judged
  refine ⟨(ended.2.2 _ (by decide)).trans (cnt.trans counted), (ended.2.1.2.trans learn').trans learn, fun r c hc => clear r c ?_⟩
  rw [State.queue, ended.1] at hc
  exact hc

/-! ## The end of a frame without late checks -/

theorem State.info_setInfo (s : State) (h : Nat) (i : PassInfo) : (s.setInfo h i).info h = i :=
  mapGet_mapSet_same (fun _ => PassInfo.empty) s.data.infos h i

theorem State.queueLearn_joins (s : State) (r : LearnReq) : (s.queueLearn r).data.frames = s.data.frames ∧
    (s.queueLearn r).data.infos = s.data.infos ∧ (s.data.learnQ.length < 64 → (s.queueLearn r).data.learnQ = s.data.learnQ ++ [r]) ∧
    (64 ≤ s.data.learnQ.length → (s.queueLearn r).data.learnQ = s.data.learnQ ∧ (s.queueLearn r).cnt (C.buf 19) = s.cnt (C.buf 19) + 1) := by
  unfold State.queueLearn
  split
  · next full =>
    refine ⟨rfl, rfl, fun room => by omega, fun _ => ⟨rfl, ?_⟩⟩
    rw [State.cnt_inc_same, State.cnt_inc_other _ (by decide)]
  · next room => exact ⟨rfl, rfl, fun _ => rfl, fun full => absurd full room⟩

/-- Nothing is checked late of a frame that awaits no check. -/
theorem State.endJudged_none (found : s.frame h = some f) (late : (s.info h).late = false) (late2 : (s.info h).late2 = false)
    (sdu : (s.info h).sdu = none) (charges : (s.info h).charges = []) : s.endJudged h = s.setInfo h { s.info h with charges := [] } := by
  have walk : s.lateWalk h = s := by
    unfold State.lateWalk
    rw [found]
    dsimp only
    rw [late, late2]
    rfl
  have size : s.lateSdu h = s := by
    unfold State.lateSdu
    rw [found, sdu]
  unfold State.endJudged State.refunds
  rw [walk, size, found]
  dsimp only
  rw [charges]
  rfl

theorem State.specialAtEnd_none (none_ : (s.info h).special = none) : s.specialAtEnd h = s.setInfo h { s.info h with special := none } := by
  have kept : s.deliverSpecial h = s := by
    unfold State.deliverSpecial
    rw [none_]
    cases s.frame h <;> rfl
  unfold State.specialAtEnd
  rw [none_, kept, if_neg (by simp)]

theorem State.weaveAtEnd_none (none_ : (s.info h).toWeaver = false) : s.weaveAtEnd h = s := by
  unfold State.weaveAtEnd
  rw [none_, if_neg (by decide)]

/-- A frame without late checks passes its learn request on and then gives up its hold. -/
theorem State.endChecks_passed {r : LearnReq} (found : s.frame h = some f) (written : f.written = true) (good : f.bad = false)
    (passed : f.stage = .passed) (late : (s.info h).late = false) (late2 : (s.info h).late2 = false) (sdu : (s.info h).sdu = none)
    (charges : (s.info h).charges = []) (special : (s.info h).special = none) (weaver : (s.info h).toWeaver = false)
    (learn : (s.info h).learn = some r) :
    ∃ v : State, s.endChecks h = v.tryRelease h ∧ v.frame h = some f ∧ (s.data.learnQ.length < 64 → v.data.learnQ = s.data.learnQ ++ [r]) ∧
      (64 ≤ s.data.learnQ.length → v.data.learnQ = s.data.learnQ ∧ v.cnt (C.buf 19) = s.cnt (C.buf 19) + 1) := by
  obtain ⟨frames, infos, joins, full⟩ :=
    ((s.setInfo h { s.info h with charges := [] }).setInfo h { s.info h with charges := [], learn := none }).queueLearn_joins r
  have learnt : (s.setInfo h { s.info h with charges := [] }).learnAtEnd h =
      ((s.setInfo h { s.info h with charges := [] }).setInfo h { s.info h with charges := [], learn := none }).queueLearn r := by
    unfold State.learnAtEnd
    rw [s.info_setInfo]
    dsimp only
    rw [learn]
  have info : (((s.setInfo h { s.info h with charges := [] }).setInfo h { s.info h with charges := [], learn := none }).queueLearn r).info h =
      { s.info h with charges := [], learn := none } := by
    rw [State.info, infos]
    exact State.info_setInfo _ h _
  have checks : s.endChecks h = ((s.endJudged h).goodEnd h).tryRelease h := by
    rw [State.endChecks_eq found written, State.endJudged_none found late late2 sdu charges,
      show (s.setInfo h { s.info h with charges := [] }).frame h = some f from found]
    dsimp only
    rw [if_pos (.inl passed)]
  rw [State.endJudged_none found late late2 sdu charges, State.goodEnd_good (s := s.setInfo h _) found good, learnt] at checks
  generalize ((s.setInfo h { s.info h with charges := [] }).setInfo h { s.info h with charges := [], learn := none }).queueLearn r = v at *
  rw [State.weaveAtEnd_none (by rw [info]; exact weaver), State.specialAtEnd_none (by rw [info]; exact special)] at checks
  refine ⟨_, checks, ?_, joins, full⟩
  show v.frame h = _
  rw [State.frame, frames]
  exact found

/-- The hold that ends of a frame that others hold. -/
theorem State.tryRelease_held (found : s.frame h = some f) (hold : f.ihold = true) (passed : f.stage = .passed) (written : f.written = true)
    (shared : 2 ≤ f.ref) : (s.tryRelease h).frame h = some { f with ihold := false, ref := f.ref - 1 } := by
  have first : (s.setFrame h { f with ihold := false }).frame h = some { f with ihold := false } := by rw [State.frame_setFrame, if_pos rfl]
  unfold State.tryRelease
  rw [found]
  dsimp only
  rw [if_pos ⟨hold, passed, .inl written⟩, State.release, first]
  dsimp only
  rw [if_neg (by omega), if_neg (by omega), State.frame_setFrame, if_pos rfl]

theorem exec_frameEndWritten_at {p : Nat} (hp : p < 35) (hr : s.running = true) (ended : s.unwritten p = some h) (found : s.frame h = some f) :
    exec (.frameEndWritten p) s = .next (s.confine [.regs, .cnts, .bufLog, .data, .ports, .mgt, .wvr, .key]
      ((s.setFrame h { f with written := true }).endChecks h)) := by
  rw [exec_frameEndWritten s p (by simpa [Instr.wf] using hp) hr]
  unfold State.endNext
  rw [ended]
  dsimp only
  unfold State.writeEnd State.modFrame
  rw [found]

end

/-- Settles O21: the end of the frame is its checks on the state that shows it written, and a contradiction there takes it out of every queue. -/
theorem frameEndMakesTheLateChecks : Obligations.FrameEndMakesTheLateChecks := by
  unfold Obligations.FrameEndMakesTheLateChecks
  intro s p h f hp hr ended found good
  have run := exec_frameEndWritten_at hp hr ended found
  have found' : (s.setFrame h { f with written := true }).frame h = some { f with written := true } := by rw [State.frame_setFrame, if_pos rfl]
  refine ⟨fun late late2 sdu charges special weaver passed r learn => ?_, fun late => ?_⟩
  · obtain ⟨v, ends, frame, joins, full⟩ := State.endChecks_passed (s := s.setFrame h { f with written := true }) found' rfl good passed late late2 sdu
      charges special weaver learn
    have held := v.tryRelease_holdKept h
    rw [ends] at run
    refine ⟨_, run, s.only_confine _ _, fun room => held.learnQ.trans (joins room), fun over_ => ?_, fun hold shared => ?_⟩
    · exact ⟨held.learnQ.trans (full over_).1, (held.1.2.2 _ (by decide)).trans (full over_).2⟩
    · exact State.tryRelease_held frame hold passed rfl shared
  · obtain ⟨count, learn, clear⟩ := State.endChecks_contradicted found' rfl good late
    exact ⟨_, run, s.only_confine _ _, count, learn, clear⟩

end Sys2Proof.Machine
end


section
/-!
SUPPORT. Passes of the pipeline (spec/01, R28, R30 and R36; spec/04, R107, R113 to R116): what a pass that finds no entry, one whose entry recirculates
and a second pass leave of a frame.
-/
namespace Sys2Proof.Machine

section
variable {s : State} {h e : Nat} {f : Frame} {i : PassInfo} {w : Walk} {rest : List Nat}

/-! ## The verdict of the lookup -/

theorem State.classify_misses {gen port : Nat} (miss : s.tcamLookup w.key gen = none) (ok : w.status = .ok) :
    s.classify w gen port = (.dflt (s.fld (F.PRS_PORT_DEFAULT_NOMATCH port)), s.inc (C.cls 3)) := by
  unfold State.classify
  rw [miss]
  dsimp only
  rw [if_pos ok]

theorem State.classify_infos (s : State) (w : Walk) (gen port : Nat) : (s.classify w gen port).2.data.infos = s.data.infos := by
  unfold State.classify
  split
  · dsimp only
    split <;> rfl
  · split <;> rfl

theorem State.actInvalid_congr {t : State} (same : t.regs = s.regs) (a : Nat) (w : Walk) : t.actInvalid a w = s.actInvalid a w := by
  have mode : t.joinedCfg = s.joinedCfg := by rw [State.joinedCfg, State.fld_congr same, State.joinedCfg]
  have valid (d : Nat) : t.portValid d = s.portValid d := by rw [State.portValid, mode, State.portValid]
  unfold State.actInvalid State.actStatic
  rw [valid, valid]

/-- An entry has been hit. -/
def State.entryHit (s : State) (e : Nat) : State := s.setTcam e { s.tcamAt e with hit := (s.tcamAt e).hit + 1 }

theorem State.classify_hits {gen port : Nat} (hit : s.tcamLookup w.key gen = some e) (valid : s.actInvalid (wordsNat (s.tcamAt e).act) w = false) :
    s.classify w gen port = (.act (wordsNat (s.tcamAt e).act), s.entryHit e) := by
  have valid' : (s.entryHit e).actInvalid (wordsNat (s.tcamAt e).act) w = false := (State.actInvalid_congr rfl _ w).trans valid
  unfold State.classify
  rw [hit]
  dsimp only
  unfold State.entryHit at valid'
  rw [valid']
  rfl

theorem State.entryHit_hit (s : State) (e : Nat) : ((s.entryHit e).tcamAt e).hit = (s.tcamAt e).hit + 1 :=
  congrArg (fun x => (Option.getD x (tcamFresh e)).hit)
    (mapGet_mapSet_same (fun _ => none) s.data.tcam e (some { s.tcamAt e with hit := (s.tcamAt e).hit + 1 }))

theorem State.doDefault_drops (s : State) (h : Nat) (f : Frame) (w : Walk) (second : Bool) : s.doDefault h f w 0 second = s := rfl

theorem State.endChecks_unwritten (found : s.frame h = some f) (unwritten : f.written = false) : s.endChecks h = s := by
  unfold State.endChecks
  rw [found]
  dsimp only
  rw [unwritten]
  rfl

theorem State.setStage_found (found : s.frame h = some f) (g : Stage) : s.setStage h g = s.setFrame h { f with stage := g } := by
  unfold State.setStage State.modFrame
  rw [found]

/-! ## The first pass -/

/-- A frame as its first pass looks it up. -/
def State.lookedUp (s : State) (h : Nat) (f : Frame) (i : PassInfo) (w : Walk) : State :=
  (((s.setFrame h f).setInfo h i).setInfo h { i with walk := w, late := !f.endKnown && w.status != .inconsistent, sa := w.sa }).setFrame h
    { f with gen := s.fld F.CLS_GEN_ACTIVE }

theorem State.firstPass_eq (found : s.frame h = some f) (open_ : f.ended = false) (unwritten : f.written = false)
    (hi : i = { s.info h with zone := s.portZone (min f.port 34), metaByte := 0, acf := false }) (own : i.inj = none)
    (hw : w = State.walkFirst s h f i) (ok : w.status = .ok)
    (plain : s.special f (((s.setFrame h f).setInfo h i).frameView h) w = (none, false)) :
    s.firstPass h = (match (s.lookedUp h f i w).classify w (s.fld F.CLS_GEN_ACTIVE) (min f.port 34) with
      | (.act a, u) => if A.disposition a = 6 then (u.recirculate h w a).endChecks h
        else ((u.doAction h f w a false).setStage h .passed).endChecks h
      | (.dflt d, u) => ((u.doDefault h f w d false).setStage h .passed).endChecks h) := by
  unfold State.firstPass
  rw [found]
  dsimp -zeta only
  extract_lets zone f' s1 src1 i' s2 w' s3 s4 src2 s5 src3 src4 s6
  have zone_ : zone = s.portZone (min f.port 34) := by
    have own' : (s.info h).inj = none := by rw [hi] at own; exact own
    show (match (s.info h).inj with | some j => j.zone | none => s.portZone (min f.port 34)) = _
    rw [own']
  have frame_ : f' = f := by
    have same : f.written = (f.ended && !f.cut) := by rw [unwritten, open_]; rfl
    show { f with written := f.ended && !f.cut } = f
    rw [← same]
  clear_value zone f'
  subst zone_ frame_
  have info_ : i' = i := hi.symm
  clear_value i'
  subst info_
  have walk_ : w' = w := hw.symm
  clear_value w'
  subst walk_
  have counted : s4 = s3 := by
    show s3.countStatus w'.status = s3
    rw [ok]
    rfl
  have found' : s3.frame h = some f' := by
    show (s.setFrame h f').frame h = _
    rw [State.frame_setFrame, if_pos rfl]
  have looked : s6 = s.lookedUp h f' i' w' := by
    show s4.modFrame h (fun f => { f with gen := s4.fld F.CLS_GEN_ACTIVE }) = _
    rw [counted]
    unfold State.modFrame
    rw [found']
    rfl
  have view : s3.frameView h = s2.frameView h := by
    have info_ : s3.info h = { i' with walk := w', late := !f'.endKnown && w'.status != .inconsistent, sa := w'.sa } := State.info_setInfo _ h _
    have info' : s2.info h = i' := State.info_setInfo _ h _
    have frame_ : s3.frame h = s2.frame h := rfl
    unfold State.frameView
    rw [info_, info', frame_]
  have plain' : s4.special f' (s4.frameView h) w' = (none, false) := by
    rw [counted, view]
    exact plain
  have inj : ((s.lookedUp h f' i' w').info h).inj = none := by
    rw [show (s.lookedUp h f' i' w').info h = _ from State.info_setInfo _ h _]
    exact own
  clear_value s6
  subst looked
  rw [plain']
  dsimp only
  have infos := (s.lookedUp h f' i' w').classify_infos w' (s.fld F.CLS_GEN_ACTIVE) (min f'.port 34)
  rw [show (s.lookedUp h f' i' w').fld F.CLS_GEN_ACTIVE = s.fld F.CLS_GEN_ACTIVE from rfl]
  generalize (s.lookedUp h f' i' w').classify w' (s.fld F.CLS_GEN_ACTIVE) (min f'.port 34) = r at *
  obtain ⟨v, u⟩ := r
  dsimp only at infos ⊢
  rw [State.info, infos, ← State.info, inj]
  cases v with
  | act a => rfl
  | dflt d => rfl

/-- Of the data plane a pass that queues no copy changes the frames, what is known of them, the hits and the second passes that wait. -/
def State.PassKept (s t : State) : Prop :=
  s.Only t [.cnts, .data] ∧ t.data = { s.data with
    frames := t.data.frames, infos := t.data.infos, tcam := t.data.tcam, recirc := t.data.recirc }

theorem State.PassKept.queues {t : State} (k : s.PassKept t) : t.data.queues = s.data.queues ∧ t.data.waiting = s.data.waiting :=
  ⟨by rw [k.2], by rw [k.2]⟩

theorem State.PassKept.comp {t u : State} (k : s.PassKept t) (k' : t.PassKept u) : s.PassKept u := ⟨k.1.comp k'.1, k'.2.trans (by rw [k.2])⟩

theorem State.inc_passKept (s : State) (a : Nat) : s.PassKept (s.inc a) := ⟨rfl, rfl⟩

theorem State.setFrame_passKept (s : State) (h : Nat) (f : Frame) : s.PassKept (s.setFrame h f) := ⟨rfl, rfl⟩

theorem State.lookedUp_kept (s : State) (h : Nat) (f : Frame) (i : PassInfo) (w : Walk) : s.PassKept (s.lookedUp h f i w) := ⟨rfl, rfl⟩

theorem State.lookedUp_cnts (s : State) (h : Nat) (f : Frame) (i : PassInfo) (w : Walk) : (s.lookedUp h f i w).cnts = s.cnts := rfl

theorem State.lookedUp_recirc (s : State) (h : Nat) (f : Frame) (i : PassInfo) (w : Walk) : (s.lookedUp h f i w).data.recirc = s.data.recirc := rfl

theorem State.lookedUp_tcamAt (s : State) (h : Nat) (f : Frame) (i : PassInfo) (w : Walk) (e : Nat) :
    (s.lookedUp h f i w).tcamAt e = s.tcamAt e := rfl

theorem State.lookedUp_frame (s : State) (h : Nat) (f : Frame) (i : PassInfo) (w : Walk) :
    (s.lookedUp h f i w).frame h = some { f with gen := s.fld F.CLS_GEN_ACTIVE } := by
  unfold State.lookedUp
  rw [State.frame_setFrame, if_pos rfl]

/-- A frame whose last byte is not written passes on. -/
theorem State.passedOn (found : s.frame h = some f) (unwritten : f.written = false) :
    (s.setStage h .passed).endChecks h = s.setFrame h { f with stage := .passed } := by
  rw [State.setStage_found found, State.endChecks_unwritten (f := { f with stage := .passed }) (by rw [State.frame_setFrame, if_pos rfl]) unwritten]

theorem State.firstPass_drops (found : s.frame h = some f) (open_ : f.ended = false) (unwritten : f.written = false)
    (hi : i = { s.info h with zone := s.portZone (min f.port 34), metaByte := 0, acf := false }) (own : i.inj = none)
    (hw : w = State.walkFirst s h f i) (ok : w.status = .ok)
    (plain : s.special f (((s.setFrame h f).setInfo h i).frameView h) w = (none, false))
    (miss : s.tcamLookup w.key (s.fld F.CLS_GEN_ACTIVE) = none) (drop : s.fld (F.PRS_PORT_DEFAULT_NOMATCH (min f.port 34)) = 0) :
    s.firstPass h = ((s.lookedUp h f i w).inc (C.cls 3)).setFrame h { f with gen := s.fld F.CLS_GEN_ACTIVE, stage := .passed } := by
  have drop' : (s.lookedUp h f i w).fld (F.PRS_PORT_DEFAULT_NOMATCH (min f.port 34)) = 0 := drop
  rw [State.firstPass_eq found open_ unwritten hi own hw ok plain, State.classify_misses (s := s.lookedUp h f i w) miss ok, drop']
  dsimp only
  rw [State.doDefault_drops]
  exact State.passedOn (f := { f with gen := s.fld F.CLS_GEN_ACTIVE }) (s.lookedUp_frame h f i w) unwritten

/-- What RECIRCULATE leaves of a frame whose last byte is not written. -/
theorem State.recirculate_open (found : s.frame h = some f) (unwritten : f.written = false) (good : f.bad = false) (a : Nat) :
    ∃ t, (s.recirculate h w a).endChecks h = t ∧ s.PassKept t ∧ t.data.tcam = s.data.tcam ∧
      (s.data.recirc.length < 64 → t.data.recirc = s.data.recirc ++ [h] ∧ (∃ g, t.frame h = some g ∧ g.stage = .second ∧ g.gen = f.gen) ∧
        t.cnts = s.cnts) ∧
      (64 ≤ s.data.recirc.length → t.data.recirc = s.data.recirc ∧ t.cnt (C.cls 8) = s.cnt (C.cls 8) + 1 ∧ s.CntsBut t [C.cls 8] ∧
        ∃ g, t.frame h = some g ∧ g.stage = .passed) := by
  unfold State.recirculate
  split
  · next full =>
    have late : (s.inc (C.cls 8)).passEnd h = (s.inc (C.cls 8)).setFrame h { f with stage := .passed } := by
      unfold State.passEnd
      rw [State.setStage_found (s := s.inc (C.cls 8)) found]
      unfold State.tryRelease
      rw [State.frame_setFrame, if_pos rfl]
      dsimp only
      rw [unwritten, good, if_neg (by simp)]
    rw [late, State.endChecks_unwritten (f := { f with stage := .passed }) (by rw [State.frame_setFrame, if_pos rfl]) unwritten]
    exact ⟨_, rfl, ⟨rfl, rfl⟩, rfl, fun room => absurd full (by omega), fun _ => ⟨rfl, s.cnt_inc_same (C.cls 8), s.cntsBut_inc (C.cls 8),
      _, by rw [State.frame_setFrame, if_pos rfl], rfl⟩⟩
  · next room =>
    dsimp only
    unfold State.modFrame
    rw [show (s.setInfo h _).frame h = some f from found]
    dsimp only
    rw [State.endChecks_unwritten (f := { f with start := _, stage := .second }) (by
      exact (State.frame_setFrame _ h h _).trans (if_pos rfl)) unwritten]
    exact ⟨_, rfl, ⟨rfl, rfl⟩, rfl, fun _ => ⟨rfl, ⟨_, (State.frame_setFrame _ h h _).trans (if_pos rfl), rfl, rfl⟩, rfl⟩,
      fun full => absurd full room⟩

theorem State.firstPass_recirculates (found : s.frame h = some f) (open_ : f.ended = false) (unwritten : f.written = false)
    (hi : i = { s.info h with zone := s.portZone (min f.port 34), metaByte := 0, acf := false }) (own : i.inj = none)
    (hw : w = State.walkFirst s h f i) (ok : w.status = .ok)
    (plain : s.special f (((s.setFrame h f).setInfo h i).frameView h) w = (none, false))
    (hit : s.tcamLookup w.key (s.fld F.CLS_GEN_ACTIVE) = some e) (valid : s.actInvalid (wordsNat (s.tcamAt e).act) w = false)
    (again : A.disposition (wordsNat (s.tcamAt e).act) = 6) :
    s.firstPass h = (((s.lookedUp h f i w).entryHit e).recirculate h w (wordsNat (s.tcamAt e).act)).endChecks h := by
  have entry : (s.lookedUp h f i w).tcamAt e = s.tcamAt e := rfl
  have valid' : (s.lookedUp h f i w).actInvalid (wordsNat ((s.lookedUp h f i w).tcamAt e).act) w = false := by
    rw [entry]
    exact (State.actInvalid_congr rfl _ w).trans valid
  have hit' : (s.lookedUp h f i w).tcamLookup w.key (s.fld F.CLS_GEN_ACTIVE) = some e := hit
  rw [State.firstPass_eq found open_ unwritten hi own hw ok plain, State.classify_hits hit' valid']
  dsimp only
  rw [entry, if_pos again]

/-- A frame leaves the list of those that wait for their first pass. -/
def State.dequeued (s : State) (h : Nat) : State := { s with data := { s.data with waiting := s.data.waiting.erase h } }

theorem exec_pipelinePass_first (hr : s.running = true) (first : s.passFirst = some h) (none_ : s.secondDue = none) (lane : s.nextLane = none) :
    exec .pipelinePass s = .next (s.confine [.regs, .cnts, .bufLog, .data, .ports, .mgt, .wvr, .twin, .key] ((s.dequeued h).firstPass h)) := by
  have calm : s.inject = s := by unfold State.inject; rw [lane]
  rw [exec_pipelinePass s hr]
  unfold State.passNext
  rw [calm]
  dsimp only
  rw [none_, first]
  rfl

theorem State.walkPass_congr {t : State} (same : t.regs = s.regs) (f : Frame) (i : PassInfo) (second known : Bool) :
    t.walkPass f i second known = s.walkPass f i second known := by
  have cfg : t.prsCfg = s.prsCfg := by
    unfold State.prsCfg State.altTpid
    rw [State.flag_congr same, State.flag_congr same, State.fld_congr same, State.fld_congr same]
  rw [State.walkPass, cfg, State.walkPass]

theorem State.special_congr {t : State} (same : t.regs = s.regs) (f : Frame) (b : List Byte) (w : Walk) : t.special f b w = s.special f b w := by
  have pair : t.pairPort f.port = s.pairPort f.port := by
    unfold State.pairPort
    rw [State.fld_congr same, State.flag_congr same]
  have cfg : t.joinedCfg = s.joinedCfg := by rw [State.joinedCfg, State.fld_congr same, State.joinedCfg]
  have zone : t.portZone f.port = s.portZone f.port := by rw [State.portZone, State.fld_congr same, State.portZone]
  have mgt : t.mgtZone = s.mgtZone := by rw [State.mgtZone, State.fld_congr same, State.mgtZone]
  unfold State.special
  rw [pair, cfg, zone, mgt]

theorem State.dequeued_walk (s : State) (h : Nat) (f : Frame) (i : PassInfo) : (s.dequeued h).walkFirst h f i = s.walkFirst h f i :=
  State.walkPass_congr (s := (s.setFrame h f).setInfo h i) rfl f i false f.endKnown

theorem State.dequeued_special (s : State) (h : Nat) (f : Frame) (i : PassInfo) (w : Walk) :
    (s.dequeued h).special f ((((s.dequeued h).setFrame h f).setInfo h i).frameView h) w =
      s.special f (((s.setFrame h f).setInfo h i).frameView h) w :=
  State.special_congr rfl f _ w

/-- The second pass due takes the frame in front. -/
def State.recircTaken (s : State) : State := { s with data := { s.data with recirc := s.data.recirc.tail } }

theorem exec_secondPass_front (hr : s.running = true) (front : s.data.recirc = h :: rest) (due : (s.info h).secondAt ≤ s.cycle) :
    exec .secondPass s = .next (s.confine [.regs, .cnts, .bufLog, .data, .ports, .mgt, .wvr, .twin, .key] (s.recircTaken.secondPassOf h)) := by
  have due' : s.secondDue = some h := by
    unfold State.secondDue
    rw [front]
    exact if_pos due
  rw [exec_secondPass s hr]
  unfold State.secondNext
  rw [due']
  rfl

theorem exec_pipelinePass_drops (hr : s.running = true) (first : s.passFirst = some h) (none_ : s.secondDue = none) (lane : s.nextLane = none)
    (found : s.frame h = some f) (open_ : f.ended = false) (unwritten : f.written = false)
    (hi : i = { s.info h with zone := s.portZone (min f.port 34), metaByte := 0, acf := false }) (own : i.inj = none)
    (hw : w = State.walkFirst s h f i) (ok : w.status = .ok)
    (plain : s.special f (((s.setFrame h f).setInfo h i).frameView h) w = (none, false))
    (miss : s.tcamLookup w.key (s.fld F.CLS_GEN_ACTIVE) = none) (drop : s.fld (F.PRS_PORT_DEFAULT_NOMATCH (min f.port 34)) = 0) :
    ∃ t, exec .pipelinePass s = .next t ∧ t.data.waiting = s.data.waiting.erase h ∧ t.data.queues = s.data.queues ∧
      (∃ g, t.frame h = some g ∧ g.stage = .passed ∧ g.gen = s.fld F.CLS_GEN_ACTIVE) ∧
      t.cnt (C.cls 3) = s.cnt (C.cls 3) + 1 ∧ s.CntsBut t [C.cls 3] ∧ s.Only t [.cnts, .data] := by
  have run := exec_pipelinePass_first hr first none_ lane
  have effect := State.firstPass_drops (s := s.dequeued h) found open_ unwritten hi own (hw.trans (s.dequeued_walk h f i).symm) ok
    ((s.dequeued_special h f i w).trans plain) miss drop
  have kept := (s.dequeued h).lookedUp_kept h f i w
  have cnts := (s.dequeued h).lookedUp_cnts h f i w
  generalize (s.dequeued h).lookedUp h f i w = u at *
  have kept' : (s.dequeued h).PassKept ((u.inc (C.cls 3)).setFrame h { f with gen := (s.dequeued h).fld F.CLS_GEN_ACTIVE, stage := .passed }) :=
    kept.comp ⟨rfl, rfl⟩
  have only : s.Only _ [.cnts, .data] := State.Only.comp (t := s.dequeued h) rfl kept'.1
  rw [effect, only.confine _ (by decide)] at run
  exact ⟨_, run, kept'.queues.2, kept'.queues.1, ⟨_, (State.frame_setFrame _ h h _).trans (if_pos rfl), rfl, rfl⟩,
    (u.cnt_inc_same (C.cls 3)).trans (congrArg (· + 1) (State.cnt_congr cnts _)),
    fun a ha => (u.cntsBut_inc (C.cls 3) a ha).trans (State.cnt_congr cnts a), only⟩

theorem exec_pipelinePass_recirculates (hr : s.running = true) (first : s.passFirst = some h) (none_ : s.secondDue = none)
    (lane : s.nextLane = none) (found : s.frame h = some f) (open_ : f.ended = false) (unwritten : f.written = false) (good : f.bad = false)
    (hi : i = { s.info h with zone := s.portZone (min f.port 34), metaByte := 0, acf := false }) (own : i.inj = none)
    (hw : w = State.walkFirst s h f i) (ok : w.status = .ok)
    (plain : s.special f (((s.setFrame h f).setInfo h i).frameView h) w = (none, false))
    (hit : s.tcamLookup w.key (s.fld F.CLS_GEN_ACTIVE) = some e) (valid : s.actInvalid (wordsNat (s.tcamAt e).act) w = false)
    (again : A.disposition (wordsNat (s.tcamAt e).act) = 6) :
    ∃ t, exec .pipelinePass s = .next t ∧ s.Only t [.regs, .cnts, .bufLog, .data, .ports, .mgt, .wvr, .twin, .key] ∧
      t.data.waiting = s.data.waiting.erase h ∧ t.data.queues = s.data.queues ∧ (t.tcamAt e).hit = (s.tcamAt e).hit + 1 ∧
      (s.data.recirc.length < 64 → t.data.recirc = s.data.recirc ++ [h] ∧
        (∃ g, t.frame h = some g ∧ g.stage = .second ∧ g.gen = s.fld F.CLS_GEN_ACTIVE) ∧ t.cnts = s.cnts) ∧
      (64 ≤ s.data.recirc.length → t.data.recirc = s.data.recirc ∧ t.cnt (C.cls 8) = s.cnt (C.cls 8) + 1 ∧ s.CntsBut t [C.cls 8] ∧
        ∃ g, t.frame h = some g ∧ g.stage = .passed) := by
  have run := exec_pipelinePass_first hr first none_ lane
  have valid' : (s.dequeued h).actInvalid (wordsNat (s.tcamAt e).act) w = false := (State.actInvalid_congr rfl _ w).trans valid
  have effect := State.firstPass_recirculates (s := s.dequeued h) (e := e) found open_ unwritten hi own
    (hw.trans (s.dequeued_walk h f i).symm) ok ((s.dequeued_special h f i w).trans plain) hit valid' again
  have kept : (s.dequeued h).PassKept (((s.dequeued h).lookedUp h f i w).entryHit e) := ((s.dequeued h).lookedUp_kept h f i w).comp ⟨rfl, rfl⟩
  have cnts : (((s.dequeued h).lookedUp h f i w).entryHit e).cnts = _ := (s.dequeued h).lookedUp_cnts h f i w
  have recirc : (((s.dequeued h).lookedUp h f i w).entryHit e).data.recirc = _ := (s.dequeued h).lookedUp_recirc h f i w
  have entry := ((s.dequeued h).lookedUp h f i w).entryHit_hit e
  rw [State.lookedUp_tcamAt] at entry
  have looked := (s.dequeued h).lookedUp_frame h f i w
  have found' : (((s.dequeued h).lookedUp h f i w).entryHit e).frame h = _ := looked
  generalize ((s.dequeued h).lookedUp h f i w).entryHit e = u at *
  obtain ⟨t, ends, kept', tcam, joins, full⟩ := u.recirculate_open (w := w) found' unwritten good (wordsNat ((s.dequeued h).tcamAt e).act)
  have all := kept.comp kept'
  have only : s.Only t [.cnts, .data] := State.Only.comp (t := s.dequeued h) rfl all.1
  rw [effect, ends, only.confine _ (by decide)] at run
  rw [recirc] at joins full
  refine ⟨t, run, only.mono _ (by decide), all.queues.2, all.queues.1, ?_, fun room => ?_, fun over_ => ?_⟩
  · rw [State.tcamAt, tcam, ← State.tcamAt, entry]
    rfl
  · obtain ⟨added, frame, counts⟩ := joins room
    exact ⟨added, frame, counts.trans cnts⟩
  · obtain ⟨left, count, counts, frame⟩ := full over_
    exact ⟨left, count.trans (congrArg (· + 1) (State.cnt_congr cnts _)), fun a ha => (counts a ha).trans (State.cnt_congr cnts a), frame⟩

/-! ## The second pass -/

/-- A frame as its second pass looks it up. -/
def State.lookedAgain (s : State) (h : Nat) (f : Frame) (w : Walk) : State :=
  (s.setInfo h { s.info h with walk := w, late2 := !f.endKnown && w.status != .inconsistent }).inc (C.cls 7)

theorem State.secondPassOf_eq (found : s.frame h = some f) (hw : w = s.walkPass f (s.info h) true f.endKnown) (ok : w.status = .ok) :
    s.secondPassOf h = (match (s.lookedAgain h f w).classify w f.gen (min f.port 34) with
      | (.act a, u) => ((if A.disposition a = 6 then ((u.inc (C.cls 1)).inc (C.cls 6)).doDefault h f { w with status := .inconsistent }
          (u.parseErrDefault (min f.port 34)) true
        else u.doAction h f w a true).setStage h .passed).endChecks h
      | (.dflt d, u) => ((u.doDefault h f w d true).setStage h .passed).endChecks h) := by
  unfold State.secondPassOf
  rw [found]
  dsimp -zeta only
  extract_lets i' w' s1 s2 s3
  have walk_ : w' = w := hw.symm
  clear_value w'
  subst walk_
  have counted : s2 = s.lookedAgain h f w' := by
    show (s1.inc (C.cls 7)).countStatus w'.status = _
    rw [ok]
    rfl
  rcases verdict : (s.lookedAgain h f w').classify w' f.gen (min f.port 34) with ⟨v, u⟩
  cases v with
  | act a =>
    have third : s3 = if A.disposition a = 6 then ((u.inc (C.cls 1)).inc (C.cls 6)).doDefault h f { w' with status := .inconsistent }
        (u.parseErrDefault (min f.port 34)) true else u.doAction h f w' a true := by
      simp only [s3, counted, verdict, ok, reduceCtorEq, if_false]
    rw [third]
  | dflt d =>
    have third : s3 = u.doDefault h f w' d true := by simp only [s3, counted, verdict]
    rw [third]

theorem State.lookedAgain_shows (s : State) (h : Nat) (f : Frame) (w : Walk) : s.PassKept (s.lookedAgain h f w) ∧
    (s.lookedAgain h f w).data.recirc = s.data.recirc ∧ (s.lookedAgain h f w).data.frames = s.data.frames ∧
    (s.lookedAgain h f w).cnt (C.cls 7) = s.cnt (C.cls 7) + 1 ∧ s.CntsBut (s.lookedAgain h f w) [C.cls 7] :=
  ⟨⟨rfl, rfl⟩, rfl, rfl, State.cnt_inc_same _ (C.cls 7), State.cntsBut_inc _ (C.cls 7)⟩

theorem State.lookedAgain_frame (s : State) (h : Nat) (f : Frame) (w : Walk) (k : Nat) : (s.lookedAgain h f w).frame k = s.frame k := rfl

theorem State.entryHit_keeps (s : State) (e : Nat) : s.PassKept (s.entryHit e) ∧ (s.entryHit e).data.recirc = s.data.recirc ∧
    (s.entryHit e).cnts = s.cnts := ⟨⟨rfl, rfl⟩, rfl, rfl⟩

theorem State.entryHit_frame (s : State) (e k : Nat) : (s.entryHit e).frame k = s.frame k := rfl

theorem State.lookedAgain_tcamAt (s : State) (h : Nat) (f : Frame) (w : Walk) (e : Nat) : (s.lookedAgain h f w).tcamAt e = s.tcamAt e := rfl

theorem State.recircTaken_recirc (s : State) (front : s.data.recirc = h :: rest) : s.recircTaken.data.recirc = rest := by
  show s.data.recirc.tail = rest
  rw [front]
  rfl

theorem State.recircTaken_walk (s : State) (f : Frame) (h : Nat) :
    s.recircTaken.walkPass f (s.recircTaken.info h) true f.endKnown = s.walkPass f (s.info h) true f.endKnown :=
  State.walkPass_congr (s := s) rfl f (s.info h) true f.endKnown

theorem State.secondPassOf_drops (found : s.frame h = some f) (unwritten : f.written = false)
    (hw : w = s.walkPass f (s.info h) true f.endKnown) (ok : w.status = .ok) (miss : s.tcamLookup w.key f.gen = none)
    (drop : s.fld (F.PRS_PORT_DEFAULT_NOMATCH (min f.port 34)) = 0) :
    s.secondPassOf h = ((s.lookedAgain h f w).inc (C.cls 3)).setFrame h { f with stage := .passed } := by
  have drop' : (s.lookedAgain h f w).fld (F.PRS_PORT_DEFAULT_NOMATCH (min f.port 34)) = 0 := drop
  have miss' : (s.lookedAgain h f w).tcamLookup w.key f.gen = none := miss
  rw [State.secondPassOf_eq found hw ok, State.classify_misses miss' ok, drop']
  dsimp only
  rw [State.doDefault_drops]
  exact State.passedOn found unwritten

theorem State.secondPassOf_thirdAsked (found : s.frame h = some f) (unwritten : f.written = false)
    (hw : w = s.walkPass f (s.info h) true f.endKnown) (ok : w.status = .ok) (hit : s.tcamLookup w.key f.gen = some e)
    (valid : s.actInvalid (wordsNat (s.tcamAt e).act) w = false) (again : A.disposition (wordsNat (s.tcamAt e).act) = 6)
    (drop : s.fld (F.PRS_PORT_DEFAULT_PARSEERR (min f.port 34)) = 0) :
    s.secondPassOf h = ((((s.lookedAgain h f w).entryHit e).inc (C.cls 1)).inc (C.cls 6)).setFrame h { f with stage := .passed } := by
  have hit' : (s.lookedAgain h f w).tcamLookup w.key f.gen = some e := hit
  have valid' : (s.lookedAgain h f w).actInvalid (wordsNat ((s.lookedAgain h f w).tcamAt e).act) w = false := by
    rw [State.lookedAgain_tcamAt]
    exact (State.actInvalid_congr rfl _ w).trans valid
  have drop' : ((s.lookedAgain h f w).entryHit e).parseErrDefault (min f.port 34) = 0 := drop
  rw [State.secondPassOf_eq found hw ok, State.classify_hits hit' valid']
  dsimp only
  rw [State.lookedAgain_tcamAt, if_pos again, drop', State.doDefault_drops]
  have found' : ((s.lookedAgain h f w).entryHit e).frame h = some f := (State.entryHit_frame _ e h).trans ((s.lookedAgain_frame h f w h).trans found)
  generalize (s.lookedAgain h f w).entryHit e = u at *
  exact State.passedOn (s := (u.inc (C.cls 1)).inc (C.cls 6)) found' unwritten

theorem exec_secondPass_drops (hr : s.running = true) (front : s.data.recirc = h :: rest) (due : (s.info h).secondAt ≤ s.cycle)
    (found : s.frame h = some f) (unwritten : f.written = false) (hw : w = s.walkPass f (s.info h) true f.endKnown) (ok : w.status = .ok)
    (miss : s.tcamLookup w.key f.gen = none) (drop : s.fld (F.PRS_PORT_DEFAULT_NOMATCH (min f.port 34)) = 0) :
    ∃ t, exec .secondPass s = .next t ∧ t.data.recirc = rest ∧ t.data.queues = s.data.queues ∧ (∃ g, t.frame h = some g ∧ g.stage = .passed) ∧
      t.cnt (C.cls 7) = s.cnt (C.cls 7) + 1 ∧ t.cnt (C.cls 3) = s.cnt (C.cls 3) + 1 ∧ s.CntsBut t [C.cls 7, C.cls 3] ∧
      s.Only t [.cnts, .data] := by
  have run := exec_secondPass_front hr front due
  have effect := State.secondPassOf_drops (s := s.recircTaken) found unwritten (hw.trans (s.recircTaken_walk f h).symm) ok miss drop
  obtain ⟨kept, recirc, -, seven, cnts⟩ := s.recircTaken.lookedAgain_shows h f w
  have tail := s.recircTaken_recirc front
  generalize s.recircTaken.lookedAgain h f w = u at *
  have kept' : s.recircTaken.PassKept ((u.inc (C.cls 3)).setFrame h { f with stage := .passed }) := kept.comp ⟨rfl, rfl⟩
  have only : s.Only _ [.cnts, .data] := State.Only.comp (t := s.recircTaken) rfl kept'.1
  rw [effect, only.confine _ (by decide)] at run
  refine ⟨_, run, recirc.trans tail, kept'.queues.1, ⟨_, (State.frame_setFrame _ h h _).trans (if_pos rfl), rfl⟩, ?_, ?_, ?_, only⟩
  · exact (State.cnt_inc_other u (by decide)).trans seven
  · exact (u.cnt_inc_same (C.cls 3)).trans (congrArg (· + 1) (cnts _ (by decide)))
  · exact State.CntsBut.comp (t := u) (cnts.mono (by simp)) ((u.cntsBut_inc (C.cls 3)).mono (by simp))

theorem exec_secondPass_thirdAsked (hr : s.running = true) (front : s.data.recirc = h :: rest) (due : (s.info h).secondAt ≤ s.cycle)
    (found : s.frame h = some f) (unwritten : f.written = false) (hw : w = s.walkPass f (s.info h) true f.endKnown) (ok : w.status = .ok)
    (hit : s.tcamLookup w.key f.gen = some e) (valid : s.actInvalid (wordsNat (s.tcamAt e).act) w = false)
    (again : A.disposition (wordsNat (s.tcamAt e).act) = 6) (drop : s.fld (F.PRS_PORT_DEFAULT_PARSEERR (min f.port 34)) = 0) :
    ∃ t, exec .secondPass s = .next t ∧ t.data.recirc = rest ∧ t.data.queues = s.data.queues ∧
      t.cnt (C.cls 7) = s.cnt (C.cls 7) + 1 ∧ t.cnt (C.cls 6) = s.cnt (C.cls 6) + 1 ∧ t.cnt (C.cls 1) = s.cnt (C.cls 1) + 1 ∧
      s.CntsBut t [C.cls 7, C.cls 6, C.cls 1] ∧ s.Only t [.cnts, .data] := by
  have run := exec_secondPass_front hr front due
  have valid' : s.recircTaken.actInvalid (wordsNat (s.tcamAt e).act) w = false := (State.actInvalid_congr rfl _ w).trans valid
  have effect := State.secondPassOf_thirdAsked (s := s.recircTaken) (e := e) found unwritten (hw.trans (s.recircTaken_walk f h).symm) ok hit valid'
    again drop
  obtain ⟨kept, recirc, -, seven, cnts⟩ := s.recircTaken.lookedAgain_shows h f w
  have tail := s.recircTaken_recirc front
  obtain ⟨kept', recirc', cnts'⟩ := (s.recircTaken.lookedAgain h f w).entryHit_keeps e
  rw [effect] at run
  generalize s.recircTaken.lookedAgain h f w = u at *
  replace kept := kept.comp kept'
  replace seven := (State.cnt_congr cnts' _).trans seven
  replace cnts : s.CntsBut (u.entryHit e) [C.cls 7] := fun a ha => (State.cnt_congr cnts' a).trans (cnts a ha)
  replace recirc := (recirc'.trans recirc).trans tail
  generalize u.entryHit e = v at *
  have kept'' : s.recircTaken.PassKept (((v.inc (C.cls 1)).inc (C.cls 6)).setFrame h { f with stage := .passed }) :=
    ((kept.comp (v.inc_passKept (C.cls 1))).comp (State.inc_passKept _ (C.cls 6))).comp (State.setFrame_passKept _ h _)
  have only : s.Only _ [.cnts, .data] := State.Only.comp (t := s.recircTaken) rfl kept''.1
  rw [only.confine _ (by decide)] at run
  have whole : s.CntsBut (v.inc (C.cls 1)) [C.cls 7, C.cls 6, C.cls 1] := State.CntsBut.comp (t := v) (cnts.mono (by simp))
    ((v.cntsBut_inc (C.cls 1)).mono (by simp))
  refine ⟨_, run, recirc, kept''.queues.1, ?_, ?_, ?_, whole.comp (((v.inc (C.cls 1)).cntsBut_inc (C.cls 6)).mono (by simp)), only⟩
  · exact ((State.cnt_inc_other (v.inc (C.cls 1)) (by decide)).trans (State.cnt_inc_other v (by decide))).trans seven
  · exact ((v.inc (C.cls 1)).cnt_inc_same (C.cls 6)).trans (congrArg (· + 1) ((State.cnt_inc_other v (by decide)).trans (cnts _ (by decide))))
  · exact ((State.cnt_inc_other (v.inc (C.cls 1)) (by decide)).trans (v.cnt_inc_same (C.cls 1))).trans (congrArg (· + 1) (cnts _ (by decide)))

end

/-- Settles O20: each pass is its verdict on the state that shows the frame looked up, and a frame whose last byte is not written passes on as
the verdict leaves it. -/
theorem passesFollowTheVerdict : Obligations.PassesFollowTheVerdict := by
  unfold Obligations.PassesFollowTheVerdict
  refine ⟨fun s h f i w hr first none_ lane found open_ unwritten good hi own hw ok plain => ⟨fun miss drop => ?_, fun e hit valid again => ?_⟩,
    fun s h rest f w hr front due found unwritten hw ok => ⟨fun miss drop => ?_, fun e hit valid again drop => ?_⟩⟩
  · exact exec_pipelinePass_drops hr first none_ lane found open_ unwritten hi own hw ok plain miss drop
  · exact exec_pipelinePass_recirculates hr first none_ lane found open_ unwritten good hi own hw ok plain hit valid again
  · exact exec_secondPass_drops hr front due found unwritten hw ok miss drop
  · exact exec_secondPass_thirdAsked hr front due found unwritten hw ok hit valid again drop

end Sys2Proof.Machine
end


section
/-!
SUPPORT. Reception (spec/03, R76 and R95): what the buffer, the Lee store and the wake logic leave of a port's counters and receptions, and what the
end of a frame counts.
-/
namespace Sys2Proof.Machine

/-! ## Counters of the MACs -/

section
variable {s t u : State}

/-- The receptions and the counters of the MACs stand. -/
def State.MacKept (s t : State) : Prop := t.ports.rx = s.ports.rx ∧ ∀ a, a < 0xC0000 → t.cnt a = s.cnt a

theorem State.MacKept.refl (s : State) : s.MacKept s := ⟨rfl, fun _ _ => rfl⟩

theorem State.MacKept.comp (h : s.MacKept t) (h' : t.MacKept u) : s.MacKept u := ⟨h'.1.trans h.1, fun a ha => (h'.2 a ha).trans (h.2 a ha)⟩

theorem State.MacKept.from (h : t.MacKept u) (rx : t.ports.rx = s.ports.rx) (cnts : t.cnts = s.cnts) : s.MacKept u :=
  ⟨h.1.trans rx, fun a ha => (h.2 a ha).trans (State.cnt_congr cnts a)⟩

theorem State.MacKept.ite {c : Prop} [Decidable c] (h : s.MacKept t) (h' : s.MacKept u) : s.MacKept (if c then t else u) := by
  split
  · exact h
  · exact h'

theorem State.macKept_of (rx : t.ports.rx = s.ports.rx) (cnts : t.cnts = s.cnts) : s.MacKept t := ⟨rx, fun a _ => State.cnt_congr cnts a⟩

theorem State.macKept_of_cntsBut {l : List Nat} (rx : t.ports.rx = s.ports.rx) (cnts : s.CntsBut t l) (high : ∀ a ∈ l, 0xC0000 ≤ a) :
    s.MacKept t := ⟨rx, fun a ha => cnts a (fun mem => by have := high a mem; omega)⟩

theorem State.cnt_count_other (s : State) {a b : Nat} (h : a ≠ b) (n : Nat) : (s.count a n).cnt b = s.cnt b := by
  rw [State.cnt_count, if_neg h]

theorem State.inc_macKept (s : State) (a : Nat) (ha : 0xC0000 ≤ a) : s.MacKept (s.inc a) :=
  State.macKept_of_cntsBut rfl (s.cntsBut_inc a) (by simpa using ha)

theorem forEach_macKept {α : Type} {f : α → State → State} (hf : ∀ x s, State.MacKept s (f x s)) (l : List α) (s : State) :
    s.MacKept (forEach l f s) := forEach_relates State.MacKept.refl State.MacKept.comp f l (fun x _ s => hf x s) s

/-! ## The wake logic -/

theorem State.wakeOut_macKept (s : State) : s.MacKept s.wakeOut := by
  obtain ⟨only, -⟩ := s.wakeOut_keeps
  exact State.macKept_of (by rw [only.keeps State.ports rfl]) (only.keeps State.cnts rfl)

theorem State.pairSend_macKept (s : State) (ty : Nat) (body : List Byte) : s.MacKept (s.pairSend ty body) :=
  State.macKept_of_cntsBut (by rw [(s.pairSend_only ty body).keeps State.ports rfl]) (s.pairSend_cntsBut ty body) (by decide)

theorem State.tellStandby_macKept (s : State) (set : Nat) (abort : Bool) : s.MacKept (s.tellStandby set abort) :=
  (s.pairSend_macKept _ _).ite (.refl s)

theorem State.ringSend_macKept (s : State) (ty round set member flags tNs m : Nat) : s.MacKept (s.ringSend ty round set member flags tNs m) := by
  unfold State.ringSend State.mcSend
  exact State.MacKept.ite (State.macKept_of rfl rfl) (State.macKept_of rfl rfl)

theorem State.nmEvent_macKept (s : State) (e source groups : Nat) : s.MacKept (s.nmEvent e source groups) := by
  obtain ⟨only, -, cnts⟩ := s.nmEvent_keeps e source groups
  exact State.macKept_of_cntsBut (by rw [only.keeps State.ports rfl]) cnts (by decide)

theorem State.commitSleep_macKept (s : State) (groups : Nat) (forced : Bool) : s.MacKept (s.commitSleep groups forced) := by
  have told (u : State) (l : List Nat) : u.MacKept (u.commitTell groups forced l) := forEach_macKept (fun m t => t.ringSend_macKept _ _ _ _ _ _ m) l u
  have lin (u : State) : u.MacKept (u.commitLin groups) := forEach_macKept (fun n t =>
    show t.MacKept (t.setLin n { t.lin n with goSleep := true, slept := false }) from State.macKept_of rfl rfl) _ u
  have mark : s.MacKept (s.commitMark groups forced) := State.macKept_of rfl rfl
  have ring (u : State) : u.MacKept (u.setFld F.NM_STATE_RING 2) := State.macKept_of rfl rfl
  rw [s.commitSleep_eq]
  exact (((((mark.comp (told _ _)).comp (State.tellStandby_macKept _ _ _)).comp (lin _)).comp (ring _)).comp
    (State.inc_macKept _ (C.nm 3) (by decide))).comp (State.nmEvent_macKept _ _ _ _)

theorem State.ringIdle_macKept (s : State) : s.MacKept s.ringIdle := by
  rw [s.ringIdle_eq]
  refine State.MacKept.comp (t := s.setFld F.NM_STATE_RING 0) (State.macKept_of rfl rfl) ?_
  unfold State.forcedNext
  split
  · exact .refl _
  · exact (State.commitSleep_macKept _ _ _).from rfl rfl

theorem State.abortLin_macKept (s : State) (set : Nat) : s.MacKept (s.abortLin set) := by
  have pulse (u : State) (n : Nat) : u.MacKept (u.linPulse n) := by
    unfold State.linPulse
    exact State.MacKept.ite (State.macKept_of rfl rfl) (.refl u)
  have again (u : State) (n : Nat) : u.MacKept (u.linAgain n) := by
    have only : (u.setLin n { u.lin n with next := 0, slotAt := some (u.wholeMs 1000000) }).Only (u.linAgain n) [.regs] := State.setFlds_only _ _
    exact (State.macKept_of (by rw [only.keeps State.ports rfl]) (only.keeps State.cnts rfl)).from rfl rfl
  refine forEach_macKept (fun n u => ?_) _ s
  exact State.MacKept.ite (((pulse _ n).comp (again _ n)).from rfl rfl) (State.macKept_of rfl rfl)

theorem State.abortCommit_macKept (s : State) (byBus : Bool) : s.MacKept (s.abortCommit byBus) := by
  have told : s.MacKept s.abortTell := (State.MacKept.refl s).ite (forEach_macKept (fun m t => t.ringSend_macKept _ _ _ _ _ _ m) _ s)
  have wakes (u : State) : u.MacKept (u.wakeUnless byBus) := (State.MacKept.refl u).ite u.wakeOut_macKept
  have groups (u : State) : u.MacKept u.abortGroups := forEach_macKept (fun g t =>
    show t.MacKept (t.setFld (F.NM_GROUP_STATUS_RUN g) 0) from State.macKept_of rfl rfl) _ u
  have mark (u : State) : u.MacKept u.abortMark := State.macKept_of rfl rfl
  rw [s.abortCommit_eq]
  exact (((((((told.comp (State.tellStandby_macKept _ _ _)).comp (wakes _)).comp (State.abortLin_macKept _ _)).comp (groups _)).comp
    (mark _)).comp (State.inc_macKept _ (C.nm 4) (by decide))).comp (State.nmEvent_macKept _ _ _ _)).comp (State.ringIdle_macKept _)

theorem State.wake_macKept (s : State) (groups code lines stamp : Nat) : s.MacKept (s.wake groups code lines stamp) := by
  have latched (u : State) : u.MacKept (u.latch groups code lines) := State.macKept_of rfl rfl
  have due (u : State) (x : Nat) : u.MacKept { u with nm := { u.nm with due := x, dueCode := code } } := State.macKept_of rfl rfl
  have out (u : State) (c : Bool) : u.MacKept (if c then u else u.wakeOut) := (State.MacKept.refl u).ite u.wakeOut_macKept
  have told : s.MacKept (if s.standby && !s.nm.calm && s.partnerHere then s.pairSend 8 (beBytes 2 groups ++ ptpStamp stamp) else s) :=
    (s.pairSend_macKept _ _).ite (.refl s)
  have stopped (u : State) (c : Bool) : u.MacKept (if u.standby then u else u.abortCommit c) := (State.MacKept.refl u).ite (u.abortCommit_macKept c)
  unfold State.wake
  dsimp only
  generalize (if s.standby && !s.nm.calm && s.partnerHere then s.pairSend 8 (beBytes 2 groups ++ ptpStamp stamp) else s) = v at *
  have free := out v (code == 0xC4)
  generalize (if code == 0xC4 then v else v.wakeOut) = w at *
  refine (State.MacKept.refl s).ite (State.MacKept.ite ((told.comp free).comp (latched w)) ((told.comp free).comp ?_))
  exact ((stopped w _).comp (due _ _)).ite ((latched w).ite ((State.MacKept.refl w).ite (due w _)))

theorem State.softSource_macKept (s : State) (groups code stamp : Nat) (isWake : Bool) : s.MacKept (s.softSource groups code stamp isWake) := by
  unfold State.softSource
  refine State.MacKept.comp (forEach_macKept (fun g t => ?_) _ s) ((State.wake_macKept _ _ _ _ _).ite (.refl _))
  exact (State.MacKept.refl t).ite (State.macKept_of rfl rfl)

theorem State.portTraffic_macKept (s : State) (p stamp : Nat) (b : List Byte) : s.MacKept (s.portTraffic p stamp b) := by
  unfold State.portTraffic
  exact (State.MacKept.refl s).ite (s.softSource_macKept _ _ _ _)

/-! ## Frames in the buffer -/

/-- Within that, the registers of the MACs stand. -/
def State.StoreKept (s t : State) : Prop := s.MacKept t ∧ ∀ k, k < 0x80000 → t.reg k = s.reg k

theorem State.StoreKept.refl (s : State) : s.StoreKept s := ⟨.refl s, fun _ _ => rfl⟩

theorem State.StoreKept.comp (h : s.StoreKept t) (h' : t.StoreKept u) : s.StoreKept u := ⟨h.1.comp h'.1, fun k hk => (h'.2 k hk).trans (h.2 k hk)⟩

theorem State.BufKept.storeKept (h : s.BufKept t) : s.StoreKept t :=
  ⟨State.macKept_of_cntsBut (by rw [h.ports]) h.2.2 (by decide), fun k hk => h.2.1 k (not_mem_bufKeys hk)⟩

theorem State.inc_storeKept (s : State) (a : Nat) (ha : 0xC0000 ≤ a) : s.StoreKept (s.inc a) := ⟨s.inc_macKept a ha, fun _ _ => rfl⟩

theorem State.markBad_storeKept (s : State) (h : Nat) : s.StoreKept (s.markBad h) :=
  ⟨State.macKept_of_cntsBut (s.markBad_rx h) (s.markBad_cntsBut h) (by decide), fun _ hk => s.markBad_macReg hk h⟩

theorem State.grantCell_bufKept {o : Option Nat} {k : Nat} (h : s.grantCell o = some (k, t)) : s.BufKept t ∧ t.data.frames = s.data.frames := by
  unfold State.grantCell at h
  split at h
  · cases h
  · cases h
    refine ⟨((s.setCell_holdKept _ _).1.comp (State.bufKept_data _ _)).comp (State.holdKept_setFld _ (by decide) _).1, rfl⟩

theorem State.growChain_bufKept (h : Nat) : ∀ (n : Nat) (s : State), s.BufKept (s.growChain h n).1
  | 0, s => .refl s
  | n + 1, s => by
    unfold State.growChain
    split
    · next f k t _ granted =>
      exact (((s.grantCell_bufKept granted).1.comp (t.setCell_holdKept _ _).1).comp (State.setFrame_holdKept _ h _).1).comp
        (State.growChain_bufKept h n _)
    · exact .refl s

theorem State.writeFrame_storeKept (s : State) (h : Nat) (b : List Byte) : s.StoreKept (s.writeFrame h b) := by
  unfold State.writeFrame
  split
  · exact .refl s
  next f _ =>
  split
  · exact .refl s
  have set_ : s.BufKept (s.setFrame h { f with bytes := f.bytes ++ b }) := (s.setFrame_holdKept h _).1
  dsimp only
  generalize s.setFrame h { f with bytes := f.bytes ++ b } = v at *
  split
  · exact set_.storeKept
  have grown := v.growChain_bufKept h (cellsOf (f.bytes.length + b.length) - max 1 (cellsOf f.bytes.length))
  split
  · next w eq => rw [eq] at grown; exact (set_.comp grown).storeKept
  · next w eq =>
    rw [eq] at grown
    exact (((set_.comp grown).comp (w.modFrame_holdKept h _).1).storeKept.comp (State.inc_storeKept _ (C.buf 0) (by decide))).comp
      (State.markBad_storeKept _ h)

theorem State.discardFrame_storeKept (s : State) (h : Nat) : s.StoreKept (s.discardFrame h) := by
  have ended := (s.markBad h).modFrame_holdKept h (fun f => { f with ended := true, stage := .passed })
  exact (s.markBad_storeKept h).comp ((ended.1.comp (State.bufKept_data _ _)).comp (State.tryRelease_holdKept _ h).1).storeKept

theorem State.parseWindow_storeKept (s : State) (h : Nat) : s.StoreKept (s.parseWindow h) := by
  have noted (u : State) : u.BufKept (u.noteCredit h) := by
    unfold State.noteCredit
    split
    · exact .refl u
    · dsimp only
      split
      · exact (u.setInfo_holdKept h _).1
      · exact .refl u
  unfold State.parseWindow
  split
  · exact .refl s
  split
  · exact .refl s
  split
  · exact s.discardFrame_storeKept h
  · exact ((((s.modFrame_holdKept h _).1.comp (noted _)).comp (State.setInfo_holdKept _ h _).1).comp (State.bufKept_data _ _)).storeKept

theorem State.rxFrame_storeKept (s : State) (h row : Nat) (bad : Bool) : s.StoreKept (s.rxFrame h row bad) := by
  unfold State.rxFrame
  split
  · exact s.discardFrame_storeKept h
  split
  · exact (s.markBad_storeKept h).comp ((State.modFrame_holdKept _ h _).1.comp (State.tryRelease_holdKept _ h).1).storeKept
  · exact s.parseWindow_storeKept h

theorem State.leeReceive_macKept (s : State) (p stamp : Nat) (b : List Byte) : s.MacKept (s.leeReceive p stamp b) := by
  have kept (u : State) (i : Nat) (l : List (Nat × List Byte)) : u.MacKept (u.leeKeep i p l) := by
    unfold State.leeKeep
    dsimp only
    split
    · exact State.macKept_of rfl rfl
    · exact State.macKept_of_cntsBut rfl (fun a ha => (u.setLeeStore i _).cnt_count_other (by simpa using Ne.symm (by simpa using ha)) _) (l := [C.saf 11]) (by decide)
  unfold State.leeReceive
  refine forEach_macKept (fun c u => ?_) _ s
  exact (State.MacKept.refl u).ite ((u.inc_macKept _ (by decide)).ite ((kept u _ _).comp (State.inc_macKept _ _ (by decide))))

theorem State.applySaWait_macKept (s : State) (p : Nat) : s.MacKept (s.applySaWait p) := by
  have put (u : State) (i : Nat) (l : List Word) : u.MacKept (u.putSa p i l) := forEach_macKept (fun (c : Nat × Word) t =>
    show t.MacKept (t.setReg c.1 c.2) from State.macKept_of rfl rfl) _ u
  unfold State.applySaWait
  exact (State.MacKept.refl s).ite ((forEach_macKept (fun c t => put t _ _) _ _).from rfl rfl)

end

/-! ## The part of a frame that is stored -/

section
variable {s t u : State} {p m h : Nat} {r x : RxProg}

/-- A port without receive MACsec, for a frame in reception. -/
def RxProg.plain (p : Nat) (r : RxProg) : Prop := 10 ≤ p ∨ r.rxEn = false

theorem RxProg.plain_view (plain : r.plain p) (s : State) (ended : Bool) : s.secView p r ended = some r.raw := by
  unfold State.secView
  exact if_pos (plain.imp id (by simp))

theorem RxProg.plain_end (plain : r.plain p) (s : State) : s.secEnd p r = (false, s) := by
  unfold State.secEnd
  exact if_pos (plain.imp id (by simp))

/-- A reception as it was but for what its frame's place in the buffer makes of it. -/
def RxProg.Same (r x : RxProg) : Prop := x.raw = r.raw ∧ x.cfg = r.cfg

/-- A new frame's first bytes are stored. -/
def State.storeFirst (s : State) (p m h : Nat) (r : RxProg) : State :=
  (((s.setRx m (some { r with passed := s.inPipeline h })).modFrame h (fun f => { f with ended := f.ended || true })).writeFrame h
    ((r.raw.take (s.fld (F.MAC_FRAME_MAX_FRAME p) + 1)).drop (match s.frame h with
      | some f => f.bytes.length
      | none => r.raw.length))).checkRx m

theorem State.storeView_lost (plain : r.plain p) (lost : r.lost = true ∨ r.raw = []) : s.storeView p m r true = s.setRx m (some r) := by
  unfold State.storeView
  rw [r.plain_view plain]
  exact if_pos lost

theorem State.storeView_refused (plain : r.plain p) (taken : ¬(r.lost = true ∨ r.raw = [])) (none_ : r.head = none)
    (new : s.newFrame p (m % 2 == 1) r.stamp none = (none, t)) : s.storeView p m r true = t.setRx m (some { r with head := none, lost := true }) := by
  unfold State.storeView
  rw [r.plain_view plain]
  dsimp only
  rw [if_neg taken, none_, new]
  rfl

theorem State.storeView_granted (plain : r.plain p) (taken : ¬(r.lost = true ∨ r.raw = [])) (none_ : r.head = none)
    (new : s.newFrame p (m % 2 == 1) r.stamp none = (some h, t)) :
    s.storeView p m r true = t.storeFirst p m h { r with head := some h, lost := false } := by
  unfold State.storeView
  rw [r.plain_view plain]
  dsimp only
  rw [if_neg taken, none_, new]
  rfl

theorem State.rxAt_setRx_same (s : State) (m : Nat) (r : RxProg) : (s.setRx m (some r)).rxAt m = some r :=
  mapGet_mapSet_same (fun _ => none) s.ports.rx m (some r)

/-- A frame in reception that loses its place in the buffer is still in reception. -/
theorem State.checkRx_shows (some_ : s.rxAt m = some r) : (∃ x, (s.checkRx m).rxAt m = some x ∧ r.Same x) ∧
    (s.checkRx m).cnts = s.cnts ∧ (s.checkRx m).regs = s.regs ∧
    ((∃ k f, r.head = some k ∧ s.frame k = some f ∧ f.cut = false) → s.checkRx m = s) := by
  have lost : (∃ x, (s.loseRx m r).rxAt m = some x ∧ r.Same x) ∧ (s.loseRx m r).cnts = s.cnts ∧ (s.loseRx m r).regs = s.regs :=
    ⟨⟨_, s.rxAt_setRx_same m _, rfl, rfl⟩, rfl, rfl⟩
  have same : (∃ x, s.rxAt m = some x ∧ r.Same x) ∧ s.cnts = s.cnts ∧ s.regs = s.regs := ⟨⟨r, some_, rfl, rfl⟩, rfl, rfl⟩
  obtain ⟨seen, cnts, regs⟩ := lost
  unfold State.checkRx
  rw [some_]
  dsimp only
  cases head : r.head with
  | none => exact ⟨same.1, rfl, rfl, fun _ => rfl⟩
  | some k =>
    dsimp only
    cases found : s.frame k with
    | none => exact ⟨seen, cnts, regs, fun ⟨k', f, hk, hf, _⟩ => by cases hk; rw [found] at hf; cases hf⟩
    | some f =>
      dsimp only
      split
      · next cut => exact ⟨seen, cnts, regs, fun ⟨k', g, hk, hg, whole⟩ => by cases hk; rw [found] at hg; cases hg; rw [cut] at whole; cases whole⟩
      · exact ⟨same.1, rfl, rfl, fun _ => rfl⟩

/-- A new frame of one cell is written whole. -/
theorem State.writeFrame_first {f : Frame} {b : List Byte} (found : s.frame h = some f) (empty : f.bytes = []) (whole : f.cut = false)
    (stage : f.stage = .arriving) (short : b.length ≤ 128) : s.writeFrame h b = s.setFrame h { f with bytes := b } := by
  have none_ : cellsOf (f.bytes.length + b.length) - max 1 (cellsOf f.bytes.length) = 0 := by
    unfold cellsOf
    rw [empty, List.length_nil]
    omega
  unfold State.writeFrame
  rw [found]
  dsimp only
  rw [whole, none_, stage, if_neg (by simp), if_neg (by simp), empty]
  rfl

theorem State.checkRx_kept (s : State) (m : Nat) : (s.checkRx m).cnts = s.cnts ∧ (s.checkRx m).regs = s.regs := by
  cases seen : s.rxAt m with
  | none =>
    unfold State.checkRx
    rw [seen]
    exact ⟨rfl, rfl⟩
  | some r =>
    obtain ⟨-, cnts, regs, -⟩ := State.checkRx_shows seen
    exact ⟨cnts, regs⟩

theorem State.storeFirst_kept (s : State) (p m h : Nat) (r : RxProg) : (∀ a, a < 0xC0000 → (s.storeFirst p m h r).cnt a = s.cnt a) ∧
    ∀ k, k < 0x80000 → (s.storeFirst p m h r).reg k = s.reg k := by
  have cnts : (s.setRx m (some { r with passed := s.inPipeline h })).cnts = s.cnts := rfl
  have regs : (s.setRx m (some { r with passed := s.inPipeline h })).regs = s.regs := rfl
  unfold State.storeFirst
  generalize s.setRx m (some { r with passed := s.inPipeline h }) = u at *
  generalize (r.raw.take (s.fld (F.MAC_FRAME_MAX_FRAME p) + 1)).drop _ = b
  have all := (u.modFrame_holdKept h (fun f => { f with ended := f.ended || true })).1.storeKept.comp (State.writeFrame_storeKept _ h b)
  generalize (u.modFrame h (fun f => { f with ended := f.ended || true })).writeFrame h b = w at *
  obtain ⟨cnts', regs'⟩ := w.checkRx_kept m
  exact ⟨fun a ha => by rw [State.cnt_congr cnts', all.1.2 a ha, State.cnt_congr cnts],
    fun k hk => by rw [State.reg_congr regs', all.2 k hk, State.reg_congr regs]⟩

theorem State.storeFirst_shows {f : Frame} (found : s.frame h = some f) : (∃ x, (s.storeFirst p m h r).rxAt m = some x ∧ r.Same x) ∧
    (r.head = some h → f.bytes = [] → f.cut = false → f.stage = .arriving → r.raw.length ≤ 128 →
      ∃ x, (s.storeFirst p m h r).rxAt m = some x ∧ x.head = some h ∧ r.Same x) := by
  have first := s.rxAt_setRx_same m { r with passed := s.inPipeline h }
  have frame_ : (s.setRx m (some { r with passed := s.inPipeline h })).frame h = some f := found
  unfold State.storeFirst
  rw [found]
  dsimp only
  generalize s.setRx m (some { r with passed := s.inPipeline h }) = u at *
  have marked := (u.modFrame_holdKept h (fun f => { f with ended := f.ended || true })).1
  have frame' : (u.modFrame h (fun f => { f with ended := f.ended || true })).frame h = some { f with ended := f.ended || true } := by
    rw [State.modFrame, frame_]
    exact (u.frame_setFrame h h _).trans (if_pos rfl)
  generalize u.modFrame h (fun f => { f with ended := f.ended || true }) = v at *
  have all := marked.storeKept.comp (v.writeFrame_storeKept h ((r.raw.take (s.fld (F.MAC_FRAME_MAX_FRAME p) + 1)).drop f.bytes.length))
  have seen := (congrArg (fun l => mapGet (fun _ => none) l m) all.1.1).trans first
  obtain ⟨⟨x, at_, same⟩, -, -, kept⟩ := State.checkRx_shows (s := v.writeFrame h _) seen
  refine ⟨⟨x, at_, same⟩, fun head empty whole stage short => ?_⟩
  have written := State.writeFrame_first (b := (r.raw.take (s.fld (F.MAC_FRAME_MAX_FRAME p) + 1)).drop f.bytes.length) frame' empty whole stage
    (by rw [List.length_drop, List.length_take]; omega)
  rw [kept ⟨h, { f with ended := f.ended || true, bytes := _ }, head, by rw [written]; exact (v.frame_setFrame h h _).trans (if_pos rfl), whole⟩]
  exact ⟨_, seen, head, rfl, rfl⟩

/-- A frame that has just been given its first cell. -/
theorem State.newFrame_granted {pre : Bool} {stamp : Nat} {inj : Option Inj} (new : s.newFrame p pre stamp inj = (some h, t)) :
    s.BufKept t ∧ ∃ f, t.frame h = some f ∧ f.bytes = [] ∧ f.cut = false ∧ f.stage = .arriving := by
  unfold State.newFrame at new
  split at new
  · cases new
  next k u granted =>
  cases new
  have made := (State.setFrame_holdKept u h ⟨p, [], false, false, false, false, false, pre, h, 0, 1, true, 0, 0, 0, 0, 0, true, .arriving, none, stamp⟩).1
  exact ⟨((s.grantCell_bufKept granted).1.comp made).comp (State.setInfo_holdKept _ h _).1, _, (u.frame_setFrame h h _).trans (if_pos rfl), rfl, rfl, rfl⟩

theorem State.newFrame_refused {pre : Bool} {stamp : Nat} {inj : Option Inj} (new : s.newFrame p pre stamp inj = (none, t)) :
    t = s.inc (C.buf 0) ∧ s.grantCell none = none := by
  unfold State.newFrame at new
  split at new
  · next none_ => cases new; exact ⟨rfl, none_⟩
  · cases new

theorem State.storeView_held (plain : r.plain p) (taken : ¬(r.lost = true ∨ r.raw = [])) (some_ : r.head = some h) :
    s.storeView p m r true = s.storeFirst p m h r := by
  unfold State.storeView
  rw [r.plain_view plain]
  dsimp only
  rw [if_neg taken, some_]
  dsimp only
  rw [some_]
  unfold State.storeFirst
  rw [some_] <;> rfl

/-- Storing leaves the counters and registers of the MACs. -/
theorem State.storeView_kept (plain : r.plain p) (s : State) : (∀ a, a < 0xC0000 → (s.storeView p m r true).cnt a = s.cnt a) ∧
    ∀ k, k < 0x80000 → (s.storeView p m r true).reg k = s.reg k := by
  by_cases lost : r.lost = true ∨ r.raw = []
  · rw [State.storeView_lost plain lost]
    exact ⟨fun _ _ => rfl, fun _ _ => rfl⟩
  cases head : r.head with
  | some h =>
    rw [State.storeView_held plain lost head]
    exact s.storeFirst_kept p m h r
  | none =>
    rcases new : s.newFrame p (m % 2 == 1) r.stamp none with ⟨_ | h, t⟩
    · obtain ⟨rfl, -⟩ := State.newFrame_refused new
      rw [State.storeView_refused plain lost head new]
      have counted := s.inc_storeKept (C.buf 0) (by decide)
      exact ⟨counted.1.2, counted.2⟩
    · obtain ⟨kept, -⟩ := State.newFrame_granted new
      rw [State.storeView_granted plain lost head new]
      obtain ⟨cnts, regs⟩ := t.storeFirst_kept p m h { r with head := some h, lost := false }
      exact ⟨fun a ha => (cnts a ha).trans (kept.storeKept.1.2 a ha), fun k hk => (regs k hk).trans (kept.storeKept.2 k hk)⟩

/-- The reception of a new frame's first bytes. -/
theorem State.storeView_stores (plain : r.plain p) (none_ : r.head = none) : (∃ x, (s.storeView p m r true).rxAt m = some x ∧ r.Same x) ∧
    (r.lost = true → (s.storeView p m r true).rxAt m = some r) ∧
    (r.lost = false → r.raw ≠ [] → r.raw.length ≤ 128 → (s.grantCell none).isSome = true →
      ∃ x, (s.storeView p m r true).rxAt m = some x ∧ x.head.isSome = true ∧ r.Same x) := by
  by_cases lost : r.lost = true ∨ r.raw = []
  · rw [State.storeView_lost plain lost]
    refine ⟨⟨r, s.rxAt_setRx_same m r, rfl, rfl⟩, fun _ => s.rxAt_setRx_same m r, fun here data => ?_⟩
    exact absurd lost (by simp [here, data])
  rcases new : s.newFrame p (m % 2 == 1) r.stamp none with ⟨_ | h, t⟩
  · obtain ⟨rfl, full⟩ := State.newFrame_refused new
    rw [State.storeView_refused plain lost none_ new]
    exact ⟨⟨_, State.rxAt_setRx_same _ m _, rfl, rfl⟩, fun l => absurd (.inl l) lost, fun _ _ _ room => by rw [full] at room; cases room⟩
  · obtain ⟨-, f, found, empty, whole, stage⟩ := State.newFrame_granted new
    rw [State.storeView_granted plain lost none_ new]
    obtain ⟨⟨x, at_, same⟩, one⟩ := State.storeFirst_shows (p := p) (m := m) (r := { r with head := some h, lost := false }) found
    refine ⟨⟨x, at_, same⟩, fun l => absurd (.inl l) lost, fun _ _ short _ => ?_⟩
    obtain ⟨y, here, head, same'⟩ := one rfl empty whole stage short
    exact ⟨y, here, by rw [head]; rfl, same'⟩

end

/-! ## What the end of a frame counts -/

section
variable {s t : State} {p m j : Nat} {r x : RxProg} {bytes : List Byte}

theorem State.cnt_incMac (s : State) (p k j : Nat) : (s.inc (C.mac p k)).cnt (C.mac p j) = s.cnt (C.mac p j) + if j = k then 1 else 0 := by
  split
  · next same => rw [same, State.cnt_inc_same]
  · next other =>
    rw [State.cnt_inc_other _ (by unfold C.mac; omega)]
    simp

theorem State.cnt_countMac (s : State) (p k j n : Nat) :
    (s.count (C.mac p k) n).cnt (C.mac p j) = s.cnt (C.mac p j) + if j = k then BitVec.ofNat 64 n else 0 := by
  split
  · next same => rw [same, State.cnt_count, if_pos rfl]
  · next other =>
    rw [State.cnt_count_other _ (by unfold C.mac; omega)]
    simp

theorem mac_low (hp : p < 34) (hj : j < 16) : C.mac p j < 0xC0000 := by unfold C.mac; omega

/-- The counter of the row of R76 that a frame meets. -/
def rowCounter (row : Nat) : Nat :=
  match row with
  | 1 => 4
  | 2 => 5
  | 3 => 3
  | 4 => 6
  | _ => 1

/-- The rows of R76 with a counter of their own. -/
def State.rowCounted (s : State) (p row : Nat) : State :=
  match row with
  | 1 => s.inc (C.mac p 4)
  | 2 => s.inc (C.mac p 5)
  | 4 => s.inc (C.mac p 6)
  | _ => s

/-- The bytes of a frame that ended, and its FCS. -/
def State.fcsCounted (s : State) (p row : Nat) (raw : List Byte) : State :=
  let s := s.count (C.mac p 0) raw.length
  let s := if fcsStomped raw then s.inc (C.buf 18) else s
  if row = 3 ∨ fcsStomped raw then s.inc (C.mac p 3) else s

/-- What the end of any frame counts. -/
def State.rxTally (s : State) (p row : Nat) (raw : List Byte) : State := (s.fcsCounted p row raw).rowCounted p row

/-- A good frame that reached the pipeline is counted. -/
def State.rxSeen (s : State) (p : Nat) (seen : Bool) (raw : List Byte) : State :=
  if seen then (s.inc (C.mac p 1)).doIf ((beAt raw 0 1).testBit 0) (fun s => s.inc (C.mac p 2)) else s

/-- What becomes of a frame that ended. -/
def State.rxGiven (s : State) (p row : Nat) (r : RxProg) : State :=
  let s := if row == 0 then s.leeReceive p r.stamp r.raw else s
  let s := match r.head with
    | none => s
    | some h => s.rxFrame h row false
  s.applySaWait p

theorem State.rxGiven_macKept (s : State) (p row : Nat) (r : RxProg) : s.MacKept (s.rxGiven p row r) := by
  have lee : s.MacKept (if row == 0 then s.leeReceive p r.stamp r.raw else s) := (s.leeReceive_macKept _ _ _).ite (.refl s)
  unfold State.rxGiven
  generalize (if row == 0 then s.leeReceive p r.stamp r.raw else s) = u at *
  dsimp only
  cases r.head with
  | none => exact lee.comp (u.applySaWait_macKept p)
  | some h => exact (lee.comp (u.rxFrame_storeKept h row false).1).comp (State.applySaWait_macKept _ p)

theorem State.rxEnd_plain (plain : r.plain p) (s : State) : s.rxEnd p m r =
    (((s.setRx m none).rxTally p ((s.setRx m none).rxRow p r) r.raw).rxSeen p
      ((s.setRx m none).rxRow p r == 0 && (r.head.isSome || r.passed)) r.raw).rxGiven p ((s.setRx m none).rxRow p r) r := by
  unfold State.rxEnd
  dsimp only
  rw [r.plain_view plain, r.plain_end plain, ite_self]
  dsimp only
  simp only [Option.isNone_some, Bool.not_false, Bool.and_true, Option.getD_some]
  rfl

theorem State.rowCounted_counts (s : State) (p row j : Nat) : (s.rowCounted p row).ports = s.ports ∧
    (s.rowCounted p row).cnt (C.mac p j) = s.cnt (C.mac p j) + if 4 ≤ j ∧ j = rowCounter row then 1 else 0 := by
  have own (k : Nat) (hk : 4 ≤ k) : (s.inc (C.mac p k)).cnt (C.mac p j) = s.cnt (C.mac p j) + if 4 ≤ j ∧ j = k then 1 else 0 := by
    rw [State.cnt_incMac]
    by_cases same : j = k <;> simp [same, hk]
  have low (k : Nat) (hk : k < 4) : s.cnt (C.mac p j) = s.cnt (C.mac p j) + if 4 ≤ j ∧ j = k then 1 else 0 := by
    rw [if_neg (by omega)]
    simp
  unfold State.rowCounted rowCounter
  split
  · exact ⟨rfl, own 4 (by decide)⟩
  · exact ⟨rfl, own 5 (by decide)⟩
  · exact ⟨rfl, own 6 (by decide)⟩
  · refine ⟨rfl, ?_⟩
    split
    · contradiction
    · contradiction
    · exact low 3 (by decide)
    · contradiction
    · exact low 1 (by decide)

theorem State.fcsCounted_counts (s : State) (p row : Nat) (raw : List Byte) (hj : j < 16) :
    (s.fcsCounted p row raw).ports = s.ports ∧
    (s.fcsCounted p row raw).cnt (C.mac p j) = s.cnt (C.mac p j) + (if j = 0 then BitVec.ofNat 64 raw.length else 0) +
      (if j = 3 ∧ (row = 3 ∨ fcsStomped raw = true) then 1 else 0) := by
  have bytes := s.cnt_countMac p 0 j raw.length
  have ports : (s.count (C.mac p 0) raw.length).ports = s.ports := rfl
  have stomped (u : State) : (if fcsStomped raw then u.inc (C.buf 18) else u).ports = u.ports ∧
      (if fcsStomped raw then u.inc (C.buf 18) else u).cnt (C.mac p j) = u.cnt (C.mac p j) := by
    split
    · exact ⟨rfl, State.cnt_inc_other u (by unfold C.buf C.mac; omega)⟩
    · exact ⟨rfl, rfl⟩
  unfold State.fcsCounted
  dsimp only
  obtain ⟨ports', same⟩ := stomped (s.count (C.mac p 0) raw.length)
  generalize (if fcsStomped raw then (s.count (C.mac p 0) raw.length).inc (C.buf 18) else s.count (C.mac p 0) raw.length) = u at *
  rw [← bytes, ← same, ← ports, ← ports']
  split
  · next bad =>
    refine ⟨rfl, ?_⟩
    rw [State.cnt_incMac]
    simp only [bad, and_true]
  · next good =>
    refine ⟨rfl, ?_⟩
    simp only [good, and_false, if_false]
    simp

theorem State.rxTally_counts (s : State) (p row : Nat) (raw : List Byte) (hj : j < 16) :
    (s.rxTally p row raw).cnt (C.mac p j) = s.cnt (C.mac p j) + (if j = 0 then BitVec.ofNat 64 raw.length else 0) +
      (if j = 3 ∧ (row = 3 ∨ fcsStomped raw = true) then 1 else 0) + (if 4 ≤ j ∧ j = rowCounter row then 1 else 0) := by
  rw [State.rxTally, (State.rowCounted_counts _ p row j).2, (s.fcsCounted_counts p row raw hj).2]

theorem State.rxSeen_counts (s : State) (seen : Bool) (raw : List Byte) :
    (s.rxSeen p seen raw).cnt (C.mac p j) = s.cnt (C.mac p j) + (if seen = true ∧ j = 1 then 1 else 0) +
      (if seen = true ∧ j = 2 ∧ (beAt raw 0 1).testBit 0 = true then 1 else 0) := by
  unfold State.rxSeen State.doIf
  cases seen with
  | false => simp
  | true =>
    split
    · split
      · next odd => rw [State.cnt_incMac, State.cnt_incMac]; simp [odd]
      · next even => rw [State.cnt_incMac]; simp [even]
    · next h => exact absurd rfl h

theorem State.rxTally_rx (s : State) (p row : Nat) (raw : List Byte) : (s.rxTally p row raw).ports = s.ports := by
  exact (State.rowCounted_counts _ p row 0).1.trans (s.fcsCounted_counts (j := 0) p row raw (by decide)).1

theorem State.rxSeen_rx (s : State) (p : Nat) (seen : Bool) (raw : List Byte) : (s.rxSeen p seen raw).ports = s.ports := by
  unfold State.rxSeen State.doIf
  split
  · split <;> rfl
  · rfl

/-- What the end of a frame leaves of its MAC's counters and reception. -/
theorem State.rxEnd_counts (plain : r.plain p) (s : State) (hp : p < 34) : (s.rxEnd p m r).rxAt m = none ∧
    ∀ j, j < 16 → (s.rxEnd p m r).cnt (C.mac p j) = s.cnt (C.mac p j) + (if j = 0 then BitVec.ofNat 64 r.raw.length else 0) +
      (if j = 3 ∧ (s.rxRow p r = 3 ∨ fcsStomped r.raw = true) then 1 else 0) + (if 4 ≤ j ∧ j = rowCounter (s.rxRow p r) then 1 else 0) +
      (if (s.rxRow p r == 0 && (r.head.isSome || r.passed)) = true ∧ j = 1 then 1 else 0) +
      (if (s.rxRow p r == 0 && (r.head.isSome || r.passed)) = true ∧ j = 2 ∧ (beAt r.raw 0 1).testBit 0 = true then 1 else 0) := by
  have row : (s.setRx m none).rxRow p r = s.rxRow p r := by
    unfold State.rxRow
    rw [r.plain_view plain, r.plain_view plain]
    rfl
  have gone : (s.setRx m none).rxAt m = none := mapGet_mapSet_same (fun _ => none) s.ports.rx m none
  have cnts : (s.setRx m none).cnts = s.cnts := rfl
  rw [State.rxEnd_plain plain, row]
  generalize s.setRx m none = u at *
  generalize s.rxRow p r = k
  have kept := State.rxGiven_macKept ((u.rxTally p k r.raw).rxSeen p (k == 0 && (r.head.isSome || r.passed)) r.raw) p k r
  refine ⟨?_, fun j hj => ?_⟩
  · rw [State.rxAt, kept.1, State.rxSeen_rx, State.rxTally_rx]
    exact gone
  · rw [kept.2 _ (mac_low hp hj), State.rxSeen_counts, State.rxTally_counts _ _ _ _ hj, State.cnt_congr cnts]

/-! ## The frame that arrives whole -/

/-- A frame in reception whose bytes have all arrived at once. -/
def State.rxWhole (s : State) (p : Nat) (bytes : List Byte) : RxProg := { s.rxBegin p (s.rxStamp p) 0 (!s.running) with raw := bytes }

theorem State.rxWhole_plain (s : State) (bytes : List Byte) (off : 10 ≤ p ∨ s.flag (F.SEC_CFG_RX_EN p) = false) : (s.rxWhole p bytes).plain p := by
  by_cases far : 10 ≤ p
  · exact .inl far
  · refine .inr ?_
    have cfg : (s.rxWhole p bytes).cfg = s.reg (K.SEC_CFG p) := if_pos (by omega)
    unfold RxProg.rxEn
    rw [cfg]
    exact off.resolve_left far

theorem State.rxTake_express (idle : s.rxAt (2 * p) = none) : s.rxTake p (2 * p) .express = (some (s.rxBegin p (s.rxStamp p) 0 (!s.running)), s) := by
  unfold State.rxTake
  rw [idle]

theorem State.receive_whole (idle : s.rxAt (2 * p) = none) (stored : (s.storeView p (2 * p) (s.rxWhole p bytes) true).rxAt (2 * p) = some x) :
    s.receive p .express bytes .ended = (s.storeView p (2 * p) x true).rxEnd p (2 * p) x := by
  unfold State.receive
  dsimp only
  rw [if_neg (by decide), if_pos rfl, Nat.add_zero, State.rxTake_express idle]
  dsimp only
  unfold State.rxWhole at stored
  rw [show (s.rxBegin p (s.rxStamp p) 0 (!s.running)).raw ++ bytes = bytes from rfl, stored]

theorem State.frameIn_macKept (s : State) (p : Nat) (kind : MPacket) (bytes : List Byte) (fin : RxEnd) :
    (s.receive p kind bytes fin).MacKept (s.frameIn p kind bytes fin) := by
  unfold State.frameIn
  dsimp only
  split
  · split
    · exact (State.portTraffic_macKept _ _ _ _).ite (.refl _)
    · exact .refl _
  · exact .refl _

/-- The reception as it stands when its whole frame has been stored. -/
theorem State.rxWhole_stored (s : State) (bytes : List Byte) (off : 10 ≤ p ∨ s.flag (F.SEC_CFG_RX_EN p) = false) :
    ∃ x, (s.storeView p (2 * p) (s.rxWhole p bytes) true).rxAt (2 * p) = some x ∧ x.raw = bytes ∧ x.plain p ∧
      (s.running = false → (x.head.isSome || x.passed) = false) ∧
      (s.running = true → bytes ≠ [] → bytes.length ≤ 128 → (s.grantCell none).isSome = true → x.head.isSome = true) := by
  have plain := s.rxWhole_plain bytes off
  have moved {x : RxProg} (same : (s.rxWhole p bytes).Same x) : x.plain p := plain.imp id (fun en => by unfold RxProg.rxEn; rw [same.2]; exact en)
  obtain ⟨⟨x, at_, same⟩, lost, one⟩ := s.storeView_stores (m := 2 * p) plain rfl
  have held : (s.rxWhole p bytes).lost = !s.running := rfl
  cases run : s.running with
  | false =>
    rw [run] at held
    exact ⟨_, lost held, rfl, plain, fun _ => rfl, fun h => by cases h⟩
  | true =>
    rw [run] at held
    by_cases fits : bytes ≠ [] ∧ bytes.length ≤ 128 ∧ (s.grantCell none).isSome = true
    · obtain ⟨y, here, head, same'⟩ := one held fits.1 fits.2.1 fits.2.2
      exact ⟨y, here, same'.1, moved same', (fun h => by cases h), fun _ _ _ _ => head⟩
    · exact ⟨x, at_, same.1, moved same, (fun h => by cases h), fun _ data short room => absurd ⟨data, short, room⟩ fits⟩

theorem State.rxRow_counter (plain : r.plain p) (s : State) : s.rxRow p r ≤ 4 ∧ rowCounter (s.rxRow p r) =
    if r.raw.length < 64 then 4 else if s.fld (F.MAC_FRAME_MAX_FRAME p) < r.raw.length then 5 else if fcsGood r.raw = false then 3
      else if beAt r.raw 12 2 = 0x8808 then 6 else 1 := by
  unfold State.rxRow
  rw [r.plain_view plain]
  dsimp only
  split
  · exact ⟨by decide, rfl⟩
  split
  · exact ⟨by decide, rfl⟩
  cases good : fcsGood r.raw with
  | false => exact ⟨by simp, by simp [rowCounter]⟩
  | true =>
    simp only [Bool.not_true, Bool.false_eq_true, if_false, reduceCtorEq]
    split
    · exact ⟨by decide, rfl⟩
    · exact ⟨by decide, rfl⟩

theorem rowCounter_fcs (k : Nat) : k = 3 ↔ rowCounter k = 3 := by
  unfold rowCounter
  split <;> simp_all

theorem rowCounter_good {k : Nat} (h : k ≤ 4) : k = 0 ↔ rowCounter k = 1 := by
  interval_cases k <;> decide

/-- The counts of a frame that arrives whole. -/
theorem State.receive_counts (hp : p < 34) (idle : s.rxAt (2 * p) = none) (off : 10 ≤ p ∨ s.flag (F.SEC_CFG_RX_EN p) = false) {row : Nat}
    (hrow : row = if bytes.length < 64 then 4 else if s.fld (F.MAC_FRAME_MAX_FRAME p) < bytes.length then 5 else if fcsGood bytes = false then 3
      else if beAt bytes 12 2 = 0x8808 then 6 else 1) :
    (s.receive p .express bytes .ended).rxAt (2 * p) = none ∧ ∃ seen : Bool, (s.running = false → seen = false) ∧
      (s.running = true → bytes ≠ [] → bytes.length ≤ 128 → (s.grantCell none).isSome = true → seen = true) ∧
      ∀ j, j < 16 → (s.receive p .express bytes .ended).cnt (C.mac p j) = s.cnt (C.mac p j) +
        (if j = 0 then BitVec.ofNat 64 bytes.length else 0) + (if j = 3 ∧ (row = 3 ∨ fcsStomped bytes = true) then 1 else 0) +
        (if 4 ≤ j ∧ j = row then 1 else 0) + (if (row = 1 ∧ seen = true) ∧ j = 1 then 1 else 0) +
        (if (row = 1 ∧ seen = true) ∧ j = 2 ∧ (beAt bytes 0 1).testBit 0 = true then 1 else 0) := by
  obtain ⟨x, stored, raw, plain, stopped, taken⟩ := s.rxWhole_stored bytes off
  rw [State.receive_whole idle stored]
  obtain ⟨cnts, regs⟩ := State.storeView_kept (m := 2 * p) plain s
  generalize s.storeView p (2 * p) x true = u at *
  obtain ⟨gone, counts⟩ := State.rxEnd_counts (m := 2 * p) plain u hp
  obtain ⟨small, code⟩ := State.rxRow_counter plain u
  have limit : u.fld (F.MAC_FRAME_MAX_FRAME p) = s.fld (F.MAC_FRAME_MAX_FRAME p) := State.fld_of_reg (regs _ (by
    show K.MAC_FRAME p < _
    unfold K.MAC_FRAME
    omega))
  rw [limit, raw, ← hrow] at code
  refine ⟨gone, x.head.isSome || x.passed, stopped, fun run data short room => by rw [taken run data short room]; rfl, fun j hj => ?_⟩
  have third : u.rxRow p x = 3 ↔ row = 3 := code ▸ rowCounter_fcs _
  have good : (u.rxRow p x == 0 && (x.head.isSome || x.passed)) = true ↔ (row = 1 ∧ (x.head.isSome || x.passed) = true) := by
    rw [Bool.and_eq_true, beq_iff_eq, rowCounter_good small, code]
  rw [counts j hj, cnts _ (mac_low hp hj), code, raw]
  simp only [third, good]

/-- A continuation of a frame that never started is counted and lost. -/
theorem State.frameIn_stray {count frag : Nat} (idle : s.rxAt (2 * p + 1) = none) :
    s.frameIn p (.cont count frag) bytes .ended = (s.inc (C.mac p 9)).inc (C.mac p 7) := by
  have take (u : State) (none_ : u.rxAt (2 * p + 1) = none) : u.rxTake p (2 * p + 1) (.cont count frag) = (none, u.inc (C.mac p 7)) := by
    unfold State.rxTake
    rw [none_]
  have got : s.receive p (.cont count frag) bytes .ended = (s.inc (C.mac p 9)).inc (C.mac p 7) := by
    unfold State.receive
    dsimp only
    rw [if_neg (by decide), if_neg (by simp), take (s.inc (C.mac p 9)) idle]
  unfold State.frameIn
  dsimp only
  rw [if_neg (by simp), take s idle, got]

end

/-- Settles O15: storing, the Lee store and the wake logic leave the counters of the MAC, so that the row of R76 which a frame meets is all that
counts it. -/
theorem receptionIsJudged : Obligations.ReceptionIsJudged := by
  unfold Obligations.ReceptionIsJudged
  refine ⟨fun s p bytes hp powered up idle off => ?_, fun s p kind bytes form powered up => ⟨?_, fun count frag hk idle => ?_⟩⟩
  · have run := exec_frameReceive s p .express bytes .ended (by simp [Instr.wf, rxForm, hp]) (by rw [powered, up]; rfl)
    obtain ⟨row, hrow⟩ : ∃ row, row = if bytes.length < 64 then 4 else if s.fld (F.MAC_FRAME_MAX_FRAME p) < bytes.length then 5
      else if fcsGood bytes = false then 3 else if beAt bytes 12 2 = 0x8808 then 6 else 1 := ⟨_, rfl⟩
    obtain ⟨gone, seen, stopped, taken, counts⟩ := State.receive_counts (bytes := bytes) hp idle off hrow
    obtain ⟨rx, low⟩ := s.frameIn_macKept p .express bytes .ended
    have shown (j : Nat) (hj : j < 16) := (low _ (mac_low hp hj)).trans (counts j hj)
    refine ⟨_, run, s.only_confine _ _, (congrArg (fun l => mapGet (fun _ => none) l (2 * p)) rx).trans gone,
      (shown 0 (by decide)).trans (by simp), ?_⟩
    dsimp only
    rw [← hrow]
    have unseen (no : row ≠ 1 ∨ s.running = false) : ¬(row = 1 ∧ seen = true) := fun both =>
      no.elim (absurd both.1) (fun off => by rw [stopped off] at both; exact absurd both.2 (by decide))
    refine ⟨fun j hj least => (shown j hj).trans ?_, (shown 3 (by decide)).trans (by simp), fun no => ⟨(shown 1 (by decide)).trans ?_,
      (shown 2 (by decide)).trans ?_⟩, fun good here short room => ?_⟩
    · have apart : j ≠ 0 ∧ j ≠ 1 ∧ j ≠ 2 ∧ j ≠ 3 := by omega
      simp [apart, least]
    · simp [unseen no]
    · simp [unseen no]
    · have data : bytes ≠ [] := fun none_ => by rw [none_] at hrow; simp only [List.length_nil] at hrow; rw [if_pos (by decide)] at hrow; omega
      have yes := taken here data short room
      exact ⟨(shown 1 (by decide)).trans (by simp [good, yes]), (shown 2 (by decide)).trans (by simp [good, yes])⟩
  · have run := exec_frameReceive s p kind bytes .smdErr form (by rw [powered, up]; rfl)
    have only : s.Only (s.inc (C.mac p 8)) [.cnts] := rfl
    rw [show s.frameIn p kind bytes .smdErr = s.inc (C.mac p 8) from rfl, only.confine _ (by decide)] at run
    exact ⟨_, run, s.cnt_inc_same _, s.cntsBut_inc _, only⟩
  · subst hk
    have run := exec_frameReceive s p (.cont count frag) bytes .ended form (by rw [powered, up]; rfl)
    have effect := State.frameIn_stray (s := s) (p := p) (bytes := bytes) (count := count) (frag := frag) idle
    have only : s.Only ((s.inc (C.mac p 9)).inc (C.mac p 7)) [.cnts] := rfl
    rw [effect, only.confine _ (by decide)] at run
    refine ⟨_, run, ?_, ?_, ((s.cntsBut_inc (C.mac p 9)).mono (by simp)).comp ((State.cntsBut_inc _ (C.mac p 7)).mono (by simp)), only⟩
    · rw [State.cnt_inc_same, State.cnt_incMac]
      simp
    · rw [State.cnt_incMac, State.cnt_inc_same]
      simp

end Sys2Proof.Machine
end


section
/-! SUPPORT. The consent ring and sleep (spec/13, R356 to R371): what the token's move asks for, what a forced sleep commits, and
what a sleep entry powers down. -/

namespace Sys2Proof.Machine

/-! ## Messages to members -/

section
variable (s : State) (ty round set member flags tNs m : Nat)

theorem State.mcSend_sends (f : LaneFrame) : s.Only (s.mcSend f) [.mgt] ∧ (s.mcSend f).mgt.inbox = s.mgt.inbox ∧
    (s.mcSend f).mgt.mcLane.length + (s.mcSend f).mgt.mcWait.length = s.mgt.mcLane.length + s.mgt.mcWait.length + 1 := by
  unfold State.mcSend
  split
  · exact ⟨rfl, rfl, by simp only [List.length_append, List.length_singleton]; omega⟩
  · exact ⟨rfl, rfl, by simp only [List.length_append, List.length_singleton]; omega⟩

theorem State.ringSend_sends : s.Only (s.ringSend ty round set member flags tNs m) [.mgt] ∧
    (s.ringSend ty round set member flags tNs m).mgt.inbox = s.mgt.inbox ∧
    (s.ringSend ty round set member flags tNs m).mgt.mcLane.length + (s.ringSend ty round set member flags tNs m).mgt.mcWait.length =
      s.mgt.mcLane.length + s.mgt.mcWait.length + 1 :=
  s.mcSend_sends _

end

/-! ## The token's move -/

section
variable {s t : State}

/-- The token goes to member `m`, and `r` are left to visit. -/
def State.tokenAt (s : State) (m : Nat) (r : List Nat) : State :=
  { s with nm := { s.nm with visiting := some m, toVisit := r, askedAt := s.aon } }

/-- The member that the token is with is asked. -/
def State.asked (s : State) (m : Nat) (r : List Nat) : State := (s.tokenAt m r).ringSend 1 s.nm.round s.nm.set m 0 0 m

theorem State.ringGo_asks {m : Nat} {r : List Nat} (n : Nat) (next : s.nm.toVisit.dropWhile (fun m => !s.visitable m) = m :: r) :
    s.ringGo (n + 1) = s.asked m r := by
  have visit : s.visitNext = some (s.asked m r) := by
    unfold State.visitNext
    rw [next]
    rfl
  rw [State.ringGo, visit]

theorem State.asked_asks (s : State) (m : Nat) (r : List Nat) : s.Only (s.asked m r) [.mgt, .nm] ∧ (s.asked m r).nm = (s.tokenAt m r).nm ∧
    (s.asked m r).mgt.inbox = s.mgt.inbox ∧
    (s.asked m r).mgt.mcLane.length + (s.asked m r).mgt.mcWait.length = s.mgt.mcLane.length + s.mgt.mcWait.length + 1 := by
  obtain ⟨only, inbox, lanes⟩ := (s.tokenAt m r).ringSend_sends 1 s.nm.round s.nm.set m 0 0 m
  exact ⟨State.Only.comp (t := s.tokenAt m r) rfl (only.mono _ (by decide)), only.keeps State.nm rfl, inbox, lanes⟩

/-- Which members are visited rests on the registers and the set. -/
theorem State.visitable_congr (regs : t.regs = s.regs) (set : t.nm.set = s.nm.set) (m : Nat) : t.visitable m = s.visitable m := by
  unfold State.visitable State.memberGroups State.asleep State.portGroup
  simp only [State.fld_congr regs, State.flag_congr regs, set]

theorem State.endVisit_idle (h : s.nm.memberWait = []) : s.endVisit = { s with nm := { s.nm with visiting := none, memberWait := [] } } := by
  unfold State.endVisit
  rw [h]
  rfl

/-- A visit that ends while no entry waits: the next member in the list is asked. -/
theorem State.endVisit_asks {m' : Nat} {r : List Nat} (rest : s.nm.toVisit = m' :: r) (vis : s.visitable m' = true) (wait : s.nm.memberWait = []) :
    s.endVisit.ringGo 3 = ({ s with nm := { s.nm with visiting := none, memberWait := [] } } : State).asked m' r := by
  have vis' : ({ s with nm := { s.nm with visiting := none, memberWait := [] } } : State).visitable m' = true :=
    (State.visitable_congr rfl rfl m').trans vis
  rw [State.endVisit_idle wait]
  refine State.ringGo_asks 2 ?_
  rw [rest, List.dropWhile_cons_of_neg (by simp [vis'])]

/-! ## A group that idles, a round that starts -/

theorem exec_groupIdle_joins {g : Nat} (hr : s.running = true) (hg : g < 16) (may : s.mayConsent g = true)
    (idle : mapGet (fun _ => 0) s.nm.softAt g + s.fld F.NM_TIMING_IDLE_MS * aonPerMs ≤ s.aon) :
    ∃ t, exec (.groupIdle g) s = .next t ∧ t.nm = { s.nm with candidates := s.nm.candidates ||| 2 ^ g } ∧ s.Only t [.nm] := by
  have run := exec_groupIdle s g (decide_eq_true hg) hr
  rw [State.groupIdle, if_pos ⟨may, idle⟩] at run
  exact ⟨_, run, rfl, s.only_confine _ _⟩

theorem exec_groupIdle_waits {g : Nat} (hr : s.running = true) (hg : g < 16) (h : s.mayConsent g = false ∨
    s.aon < mapGet (fun _ => 0) s.nm.softAt g + s.fld F.NM_TIMING_IDLE_MS * aonPerMs) : exec (.groupIdle g) s = .next s := by
  have not : ¬ (s.mayConsent g = true ∧ mapGet (fun _ => 0) s.nm.softAt g + s.fld F.NM_TIMING_IDLE_MS * aonPerMs ≤ s.aon) := by
    rintro ⟨may, idle⟩
    rcases h with h | h
    · rw [may] at h; cases h
    · omega
  rw [exec_groupIdle s g (decide_eq_true hg) hr, State.groupIdle, if_neg not, (s.only_refl [.nm]).confine _ (by decide)]

theorem exec_ringRoundStart_waits (hr : s.running = true) (h : s.retryOver = false) : exec .ringRoundStart s = .next s := by
  rw [exec_ringRoundStart s hr, State.roundStart, if_pos (by simp [h]), (s.only_refl [.nm]).confine _ (by decide)]

/-- The first number below a bound that a test singles out. -/
theorem dropWhile_range {n m : Nat} {p : Nat → Bool} (hm : m < n) (h : ∀ k, k ≤ m → p k = decide (k = m)) :
    ∃ r, (List.range n).dropWhile (fun k => !p k) = m :: r := by
  have parts : List.range n = List.range m ++ m :: (List.range' (m + 1) (n - m - 1)) := by
    rw [List.range_eq_range', List.range_eq_range', ← List.range'_succ, show n - m - 1 + 1 = n - m by omega]
    have := List.range'_append (s := 0) (m := m) (n := n - m) (step := 1)
    simpa [show m + (n - m) = n by omega] using this.symm
  have before : ∀ k ∈ List.range m, (fun k => !p k) k = true := fun k hk => by
    have lt := List.mem_range.mp hk
    simp [h k (by omega), show k ≠ m by omega]
  have here : p m = true := by simp [h m le_rfl]
  exact ⟨_, by rw [parts, List.dropWhile_append_of_pos before, List.dropWhile_cons_of_neg (by simp [here])]⟩

theorem State.openRound_opens (s : State) : s.Only s.openRound [.regs, .cnts, .nm] ∧ s.RegsBut s.openRound [K.NM_STATE] ∧
    s.openRound.fld F.NM_STATE_RING = 1 ∧ s.CntsBut s.openRound [C.nm 0] ∧ s.openRound.cnt (C.nm 0) = s.cnt (C.nm 0) + 1 ∧
    s.openRound.nm = { s.nm with round := (s.nm.round + 1) % 65536, set := s.candidates, stayed := s.candidates, vetoed := 0,
                                 visiting := none, toVisit := List.range 32 } :=
  ⟨rfl, s.regsBut_setFld F.NM_STATE_RING 1, s.fld_setFld_same F.NM_STATE_RING 1 (by decide) (by decide), s.cntsBut_inc (C.nm 0),
    s.cnt_inc_same (C.nm 0), rfl⟩

/-- A round that opens visits whom its set names. -/
theorem State.openRound_visitable (s : State) (k : Nat) :
    s.openRound.visitable k = State.visitable { s with nm := { s.nm with set := s.candidates } } k := by
  obtain ⟨-, regs, -, -, -, nm⟩ := s.openRound_opens
  have asleep : s.openRound.fld F.NM_STATE_ASLEEP = s.fld F.NM_STATE_ASLEEP :=
    s.fld_setFld_beside (f := F.NM_STATE_RING) (g := F.NM_STATE_ASLEEP) 1 (by decide)
  have far (f : Fld) (hf : f.key ≠ K.NM_STATE) : s.openRound.fld f = s.fld f := regs.fld (by simpa using hf)
  have en (i : Nat) : s.openRound.flag (F.NM_MBR_DATA0_EN i) = s.flag (F.NM_MBR_DATA0_EN i) :=
    regs.flag (by simp only [List.mem_singleton, F.NM_MBR_DATA0_EN, K.NM_MBR_DATA0, K.NM_STATE]; omega)
  have groups : s.openRound.memberGroups k = s.memberGroups k := by
    unfold State.memberGroups
    rw [en, far _ (by simp only [F.NM_MBR_DATA3_GROUPS, K.NM_MBR_DATA3, K.NM_STATE]; omega)]
  have port : s.openRound.fld (F.NM_MBR_DATA0_PORT k) = s.fld (F.NM_MBR_DATA0_PORT k) :=
    far _ (by simp only [F.NM_MBR_DATA0_PORT, K.NM_MBR_DATA0, K.NM_STATE]; omega)
  have group (p : Nat) : s.openRound.portGroup p = s.portGroup p := by
    unfold State.portGroup
    rw [far _ (by simp only [F.NM_PORT_GROUP_GROUP, K.NM_PORT_GROUP, K.NM_STATE]; omega)]
  unfold State.visitable State.asleep
  rw [groups, port, group, asleep, nm]
  rfl

theorem exec_ringRoundStart_opens {m : Nat} (hr : s.running = true) (calm : s.nm.calm = false) (active : s.standby = false)
    (ring : s.fld F.NM_STATE_RING = 0) (some_ : s.candidates ≠ 0) (retry : s.retryOver = true) (hm : m < 32)
    (first : ∀ k, k ≤ m → State.visitable { s with nm := { s.nm with set := s.candidates } } k = decide (k = m)) :
    ∃ t, exec .ringRoundStart s = .next t ∧ t.fld F.NM_STATE_RING = 1 ∧ t.nm.round = (s.nm.round + 1) % 65536 ∧
      t.nm.set = s.candidates ∧ t.nm.visiting = some m ∧ t.nm.vetoed = 0 ∧ t.cnt (C.nm 0) = s.cnt (C.nm 0) + 1 ∧
      t.mgt.mcLane.length + t.mgt.mcWait.length = s.mgt.mcLane.length + s.mgt.mcWait.length + 1 ∧
      s.RegsBut t [K.NM_STATE] ∧ s.CntsBut t [C.nm 0] ∧ s.Only t [.regs, .cnts, .mgt, .nm] := by
  have run := exec_ringRoundStart s hr
  obtain ⟨r, next⟩ := dropWhile_range (p := s.openRound.visitable) hm (fun k hk => (s.openRound_visitable k).trans (first k hk))
  obtain ⟨opened, regs, ringing, cnts, counted, nm⟩ := s.openRound_opens
  have effect : s.roundStart = s.openRound.asked m r := by
    rw [State.roundStart, if_neg (by simp [active, calm, ring, some_, retry])]
    exact State.ringGo_asks 2 (by rw [nm]; exact next)
  obtain ⟨asks, token, -, lanes⟩ := s.openRound.asked_asks m r
  have only : s.Only (s.openRound.asked m r) [.regs, .cnts, .mgt, .nm] := (opened.mono _ (by decide)).comp (asks.mono _ (by decide))
  have sameRegs : (s.openRound.asked m r).regs = s.openRound.regs := asks.keeps State.regs rfl
  have sameCnts : (s.openRound.asked m r).cnts = s.openRound.cnts := asks.keeps State.cnts rfl
  have mgt : s.openRound.mgt = s.mgt := rfl
  have told : (s.openRound.asked m r).nm = { s.openRound.nm with visiting := some m, toVisit := r, askedAt := s.openRound.aon } := token
  rw [effect, only.confine _ (by decide)] at run
  refine ⟨_, run, (State.fld_congr sameRegs _).trans ringing, ?_, ?_, ?_, ?_, (State.cnt_congr sameCnts _).trans counted, by rw [lanes, mgt],
    regs.after sameRegs, fun k hk => (State.cnt_congr sameCnts k).trans (cnts k hk), only⟩
  · rw [told, nm]
  · rw [told, nm]
  · rw [told]
  · rw [told, nm]

/-! ## Answers to the token -/

theorem State.inVisit_of {m : Nat} (ring : s.fld F.NM_STATE_RING = 1) (visit : s.nm.visiting = some m) : s.inVisit = true := by
  rw [State.inVisit, ring, visit]
  rfl

theorem exec_consentRspTimeout_waits (hr : s.running = true) (early : s.aon < s.nm.askedAt + s.fld F.NM_TIMING_RSP_MS * aonPerMs) :
    exec .consentRspTimeout s = .next s := by
  rw [exec_consentRspTimeout s hr, State.consentTimeout, if_pos (.inr early), (s.only_refl [.nm]).confine _ (by decide)]

theorem exec_consentRspTimeout_consents {m m' : Nat} {r : List Nat} (hr : s.running = true) (ring : s.fld F.NM_STATE_RING = 1)
    (visit : s.nm.visiting = some m) (rest : s.nm.toVisit = m' :: r) (vis : s.visitable m' = true) (wait : s.nm.memberWait = [])
    (over_ : s.nm.askedAt + s.fld F.NM_TIMING_RSP_MS * aonPerMs ≤ s.aon) :
    ∃ t, exec .consentRspTimeout s = .next t ∧ t.cnt (C.nm 2) = s.cnt (C.nm 2) + 1 ∧ t.nm.visiting = some m' ∧
      t.nm.toVisit = r ∧ t.nm.vetoed = s.nm.vetoed ∧ t.nm.round = s.nm.round ∧ s.RegsBut t [] ∧ s.CntsBut t [C.nm 2] ∧
      s.Only t [.cnts, .mgt, .nm] := by
  have run := exec_consentRspTimeout s hr
  let a : State := { s.inc (C.nm 2) with nm := { s.nm with visiting := none, memberWait := [] } }
  have effect : s.consentTimeout = a.asked m' r := by
    rw [State.consentTimeout, if_neg (by rw [State.inVisit_of ring visit]; simpa using over_)]
    exact State.endVisit_asks (s := s.inc (C.nm 2)) rest ((State.visitable_congr rfl rfl m').trans vis) wait
  obtain ⟨asks, token, -, -⟩ := a.asked_asks m' r
  have first : s.Only a [.cnts, .mgt, .nm] := rfl
  have only : s.Only (a.asked m' r) [.cnts, .mgt, .nm] := first.comp (asks.mono _ (by decide))
  have regs : (a.asked m' r).regs = s.regs := asks.keeps State.regs rfl
  have cnts : (a.asked m' r).cnts = (s.inc (C.nm 2)).cnts := asks.keeps State.cnts rfl
  have at_ {α : Type} (g : NmSt → α) : g (a.asked m' r).nm = g (a.tokenAt m' r).nm := congrArg g token
  rw [effect, only.confine _ (by decide)] at run
  exact ⟨_, run, (State.cnt_congr cnts _).trans (s.cnt_inc_same _), at_ NmSt.visiting, at_ NmSt.toVisit, at_ NmSt.vetoed, at_ NmSt.round,
    State.regsBut_of_regs regs _, fun k hk => (State.cnt_congr cnts k).trans (s.cntsBut_inc _ k hk), only⟩

theorem State.takeRing_some {ty : Nat} {f : InFrame} {b : List Byte} {u : State} (h : s.takeRing ty = some (f, b, u)) : u = s.inboxTaken f := by
  unfold State.takeRing at h
  cases h' : s.takeInbox (fun m => m.kind == .ring && beAt m.bytes (s.ringOff m.bytes + 1) 1 == ty) with
  | none => simp [h'] at h
  | some r =>
    obtain ⟨f', u'⟩ := r
    rw [h'] at h
    obtain ⟨rfl, -, rfl⟩ := by simpa using h
    exact s.takeInbox_some h'

/-- A soft source that is no wake notes which groups stay awake, and nothing of the round. -/
theorem State.softSource_notes (s : State) (groups code stamp : Nat) : s.Only (s.softSource groups code stamp false) [.nm] ∧
    ∃ c y l a, (s.softSource groups code stamp false).nm = { s.nm with candidates := c, stayed := y, lastSoft := l, softAt := a } := by
  have refl (u : State) : u.Only u [.nm] ∧ ∃ c y l a, u.nm = { u.nm with candidates := c, stayed := y, lastSoft := l, softAt := a } :=
    ⟨u.only_refl _, _, _, _, _, rfl⟩
  unfold State.softSource
  simp only [Bool.false_eq_true, false_and, if_false]
  refine forEach_relates (R := fun u v => u.Only v [.nm] ∧ ∃ c y l a, v.nm = { u.nm with candidates := c, stayed := y, lastSoft := l, softAt := a })
    refl ?_ _ _ (fun g _ u => ?_) s
  · rintro u v w ⟨only, c, y, l, a, nm⟩ ⟨only', c', y', l', a', nm'⟩
    exact ⟨only.comp only', c', y', l', a', by rw [nm', nm]⟩
  · dsimp only
    split
    · exact refl u
    · exact ⟨rfl, _, _, _, _, rfl⟩

/-- What a member answered is noted: a veto is counted, and its groups stay awake. -/
def State.vetoNoted (s : State) (f : InFrame) (v m : Nat) : State :=
  if v = 0 then s else (s.inc (C.nm 1)).softSource v (0x80 + m) (f.stamp / fracPerNs) false

theorem State.vetoNoted_notes (s : State) (f : InFrame) (v m : Nat) : s.Only (s.vetoNoted f v m) [.cnts, .nm] ∧
    (∃ c y l a, (s.vetoNoted f v m).nm = { s.nm with candidates := c, stayed := y, lastSoft := l, softAt := a }) ∧
    (s.vetoNoted f v m).cnt (C.nm 1) = s.cnt (C.nm 1) + (if v = 0 then 0 else 1) := by
  unfold State.vetoNoted
  split
  · exact ⟨s.only_refl _, ⟨_, _, _, _, rfl⟩, by simp⟩
  · obtain ⟨only, c, y, l, a, nm⟩ := (s.inc (C.nm 1)).softSource_notes v (0x80 + m) (f.stamp / fracPerNs)
    exact ⟨State.Only.comp (t := s.inc (C.nm 1)) rfl (only.mono _ (by decide)), ⟨c, y, l, a, nm⟩,
      (State.cnt_congr (only.keeps State.cnts rfl) _).trans (s.cnt_inc_same _)⟩

/-- The members that vetoed so far. -/
def State.vetoes (s : State) (v : Nat) : State := { s with nm := { s.nm with vetoed := s.nm.vetoed ||| v } }

theorem State.consentRsp_taken {f : InFrame} {b : List Byte} {u : State} {m : Nat} (h : s.takeRing 2 = some (f, b, u)) (visit : u.nm.visiting = some m) :
    s.consentRsp = if u.fld F.NM_STATE_RING ≠ 1 ∨ beAt b 2 2 ≠ u.nm.round ∨ beAt b 8 1 ≠ m ∨ u.ringFrom f.port f.bytes m = false then u
      else ((u.vetoNoted f (beAt b 6 2 &&& u.memberGroups m) m).vetoes (beAt b 6 2 &&& u.memberGroups m)).endVisit.ringGo 3 := by
  unfold State.consentRsp
  rw [h]
  dsimp only
  rw [visit]
  rfl

theorem exec_consentRspReceive_ignores {f : InFrame} {b : List Byte} {u : State} {m : Nat} (hr : s.running = true)
    (visit : s.nm.visiting = some m) (h : s.takeRing 2 = some (f, b, u)) (other : beAt b 2 2 ≠ s.nm.round ∨ beAt b 8 1 ≠ m) :
    ∃ t, exec .consentRspReceive s = .next t ∧ t.mgt.inbox = s.mgt.inbox.erase f ∧ t.nm = s.nm ∧ s.Only t [.mgt] := by
  have run := exec_consentRspReceive s hr
  have effect := State.consentRsp_taken h (m := m)
  obtain rfl := State.takeRing_some h
  have only : s.Only (s.inboxTaken f) [.mgt] := rfl
  have refuses : (s.inboxTaken f).fld F.NM_STATE_RING ≠ 1 ∨ beAt b 2 2 ≠ (s.inboxTaken f).nm.round ∨ beAt b 8 1 ≠ m ∨
      (s.inboxTaken f).ringFrom f.port f.bytes m = false := .inr (other.imp id .inl)
  rw [effect visit, if_pos refuses, only.confine _ (by decide)] at run
  exact ⟨_, run, rfl, rfl, only⟩

theorem exec_consentRspReceive_takes {f : InFrame} {b : List Byte} {u : State} {m m' : Nat} {r : List Nat} (hr : s.running = true)
    (ring : s.fld F.NM_STATE_RING = 1) (visit : s.nm.visiting = some m) (rest : s.nm.toVisit = m' :: r) (vis : s.visitable m' = true)
    (wait : s.nm.memberWait = []) (h : s.takeRing 2 = some (f, b, u)) (round : beAt b 2 2 = s.nm.round) (member : beAt b 8 1 = m)
    (sender : s.ringFrom f.port f.bytes m = true) :
    ∃ t, exec .consentRspReceive s = .next t ∧ s.Only t [.regs, .cnts, .nmLog, .data, .mgt, .edge, .nm, .twin, .key, .out] ∧
      t.mgt.inbox = s.mgt.inbox.erase f ∧ t.nm.visiting = some m' ∧
      t.nm.vetoed = s.nm.vetoed ||| (beAt b 6 2 &&& s.memberGroups m) ∧ t.nm.round = s.nm.round ∧
      t.cnt (C.nm 1) = s.cnt (C.nm 1) + (if beAt b 6 2 &&& s.memberGroups m = 0 then 0 else 1) ∧ s.RegsBut t [] := by
  have run := exec_consentRspReceive s hr
  have effect := State.consentRsp_taken h (m := m)
  obtain rfl := State.takeRing_some h
  have accepts : ¬ ((s.inboxTaken f).fld F.NM_STATE_RING ≠ 1 ∨ beAt b 2 2 ≠ (s.inboxTaken f).nm.round ∨ beAt b 8 1 ≠ m ∨
      (s.inboxTaken f).ringFrom f.port f.bytes m = false) := by
    have ring' : (s.inboxTaken f).fld F.NM_STATE_RING = 1 := ring
    have sender' : (s.inboxTaken f).ringFrom f.port f.bytes m = true := sender
    have round' : beAt b 2 2 = (s.inboxTaken f).nm.round := round
    simp [ring', round', member, sender']
  have groups : (s.inboxTaken f).memberGroups m = s.memberGroups m := rfl
  rw [effect visit, if_neg accepts, groups] at run
  generalize beAt b 6 2 &&& s.memberGroups m = v at *
  obtain ⟨noted, ⟨c, y, l, a, nm⟩, counted⟩ := (s.inboxTaken f).vetoNoted_notes f v m
  have regs : ((s.inboxTaken f).vetoNoted f v m).regs = s.regs := noted.keeps State.regs rfl
  have inbox : ((s.inboxTaken f).vetoNoted f v m).mgt = (s.inboxTaken f).mgt := noted.keeps State.mgt rfl
  generalize (s.inboxTaken f).vetoNoted f v m = w at *
  have rest' : (w.vetoes v).nm.toVisit = m' :: r := by rw [State.vetoes, nm]; exact rest
  have wait' : (w.vetoes v).nm.memberWait = [] := by rw [State.vetoes, nm]; exact wait
  have set : (w.vetoes v).nm.set = s.nm.set := by rw [State.vetoes, nm]; rfl
  rw [State.endVisit_asks rest' ((State.visitable_congr regs set m').trans vis) wait'] at run
  let z : State := { w.vetoes v with nm := { (w.vetoes v).nm with visiting := none, memberWait := [] } }
  obtain ⟨asks, token, inbox', -⟩ := z.asked_asks m' r
  have at_ {α : Type} (g : NmSt → α) : g (z.asked m' r).nm = g (z.tokenAt m' r).nm := congrArg g token
  have regs' : (z.asked m' r).regs = s.regs := (asks.keeps State.regs rfl).trans regs
  have cnts' : (z.asked m' r).cnts = w.cnts := asks.keeps State.cnts rfl
  refine ⟨_, run, s.only_confine _ _, ?_, at_ NmSt.visiting, ?_, ?_, (State.cnt_congr cnts' _).trans counted, State.regsBut_of_regs regs' _⟩
  · exact inbox'.trans (congrArg MgtSt.inbox inbox)
  · refine (at_ NmSt.vetoed).trans ?_
    show w.nm.vetoed ||| v = _
    rw [nm]
    rfl
  · refine (at_ NmSt.round).trans ?_
    show w.nm.round = _
    rw [nm]
    rfl

/-! ## A commit -/

theorem State.tellStandby_tells (s : State) (set : Nat) (abort : Bool) : s.Only (s.tellStandby set abort) [.cnts, .data, .twin] ∧
    s.CntsBut (s.tellStandby set abort) [C.nm 11] := by
  unfold State.tellStandby
  split
  · exact ⟨State.pairSend_only _ _, State.pairSend_cntsBut _ _⟩
  · exact ⟨s.only_refl _, .refl s _⟩

/-- The counters that a commit may move. -/
def commitCounters : List Nat := C.nm 3 :: C.nm 11 :: eventCounters

/-- The groups are committed: what the ring then shows, and what else a commit touches. -/
structure State.Commits (s t : State) (groups : Nat) (forced : Bool) : Prop where
  only : s.Only t [.regs, .cnts, .nmLog, .data, .mgt, .edge, .nm, .twin, .key]
  regs : s.RegsBut t (K.NM_STATE :: journalKeys)
  cnts : s.CntsBut t commitCounters
  ring : t.fld F.NM_STATE_RING = 2
  asleep : t.fld F.NM_STATE_ASLEEP = s.fld F.NM_STATE_ASLEEP
  nm : t.nm = (s.commitMark groups forced).nm

/-- What a commit has sent when it shows itself: to the members, to the standby and to the commanders. -/
def State.commitSent (s : State) (groups : Nat) (forced : Bool) : State :=
  (((s.commitMark groups forced).commitTell groups forced (s.membersOf groups)).tellStandby groups false).commitLin groups

theorem State.commitSent_sends (s : State) (groups : Nat) (forced : Bool) : s.Only (s.commitSent groups forced) [.cnts, .data, .mgt, .edge, .nm, .twin] ∧
    s.CntsBut (s.commitSent groups forced) [C.nm 11] ∧ (s.commitSent groups forced).nm = (s.commitMark groups forced).nm := by
  have told (u : State) : u.Only (u.commitTell groups forced (s.membersOf groups)) [.mgt] :=
    forEach_only _ (fun m u => (u.ringSend_sends _ _ _ _ _ _ m).1) _ u
  have lins (u : State) : u.Only (u.commitLin groups) [.edge] := forEach_only _ (fun n u => u.setLin_only n _) _ u
  unfold State.commitSent
  have first := told (s.commitMark groups forced)
  generalize (s.commitMark groups forced).commitTell groups forced (s.membersOf groups) = v at *
  obtain ⟨second, counted⟩ := v.tellStandby_tells groups false
  generalize v.tellStandby groups false = w at *
  have mark : s.Only (s.commitMark groups forced) [.cnts, .data, .mgt, .edge, .nm, .twin] := rfl
  refine ⟨((mark.comp (first.mono _ (by decide))).comp (second.mono _ (by decide))).comp ((lins w).mono _ (by decide)), ?_, ?_⟩
  · intro k hk
    have kept : v.cnts = s.cnts := first.keeps State.cnts rfl
    rw [State.cnt_congr ((lins w).keeps State.cnts rfl) k, counted k hk, State.cnt_congr kept]
  · exact ((lins w).keeps State.nm rfl).trans ((second.keeps State.nm rfl).trans (first.keeps State.nm rfl))

theorem State.commitSleep_commits (s : State) (groups : Nat) (forced : Bool) : s.Commits (s.commitSleep groups forced) groups forced := by
  have eq : s.commitSleep groups forced = (((s.commitSent groups forced).setFld F.NM_STATE_RING 2).inc (C.nm 3)).nmEvent 4 255 groups := rfl
  obtain ⟨sent, counted, nm⟩ := s.commitSent_sends groups forced
  rw [eq]
  generalize s.commitSent groups forced = v at *
  obtain ⟨only, regs, cnts⟩ := State.nmEvent_keeps (s := (v.setFld F.NM_STATE_RING 2).inc (C.nm 3)) 4 255 groups
  have shown : v.Only ((v.setFld F.NM_STATE_RING 2).inc (C.nm 3)) [.regs, .cnts] := rfl
  have kept : v.regs = s.regs := sent.keeps State.regs rfl
  have put : v.RegsBut ((v.setFld F.NM_STATE_RING 2).inc (C.nm 3)) [K.NM_STATE] := v.regsBut_setFld F.NM_STATE_RING 2
  generalize hw : (v.setFld F.NM_STATE_RING 2).inc (C.nm 3) = w at *
  refine ⟨((sent.mono _ (by decide)).comp (shown.mono _ (by decide))).comp (only.mono _ (by decide)), ?_, ?_, ?_, ?_, ?_⟩
  · exact ((put.from kept).mono (by decide)).comp (regs.mono (by decide))
  · have here : v.CntsBut w commitCounters := hw ▸ (v.setFld F.NM_STATE_RING 2).cntsBut_inc (C.nm 3) |>.mono (by decide)
    exact ((counted.mono (by decide)).comp here).comp (cnts.mono (by decide))
  · exact (regs.fld (by decide)).trans (hw ▸ v.fld_setFld_same F.NM_STATE_RING 2 (by decide) (by decide))
  · have beside : w.fld F.NM_STATE_ASLEEP = v.fld F.NM_STATE_ASLEEP :=
      hw ▸ v.fld_setFld_beside (f := F.NM_STATE_RING) (g := F.NM_STATE_ASLEEP) 2 (by decide)
    exact (regs.fld (by decide)).trans (beside.trans (State.fld_congr kept _))
  · exact (only.keeps State.nm rfl).trans ((shown.keeps State.nm rfl).trans nm)

/-! ## The idle ring -/

theorem State.forcedNext_none (h : s.nm.forced = []) : s.forcedNext = s := by
  unfold State.forcedNext
  rw [h]

theorem State.forcedNext_some {g : Nat} {r : List Nat} (h : s.nm.forced = g :: r) :
    s.forcedNext = ({ s with nm := { s.nm with forced := r } } : State).commitSleep (2 ^ g) true := by
  unfold State.forcedNext
  rw [h]

/-- What an idle ring may touch: it shows its state, or makes the forced commit that waits. -/
theorem State.ringIdle_keeps (s : State) : s.Only s.ringIdle [.regs, .cnts, .nmLog, .data, .mgt, .edge, .nm, .twin, .key] ∧
    s.RegsBut s.ringIdle (K.NM_STATE :: journalKeys) ∧ s.CntsBut s.ringIdle commitCounters ∧
    s.ringIdle.fld F.NM_STATE_ASLEEP = s.fld F.NM_STATE_ASLEEP ∧ s.ringIdle.nm.calm = s.nm.calm ∧ s.ringIdle.nm.due = s.nm.due ∧
    s.ringIdle.nm.dueCode = s.nm.dueCode := by
  have shown : s.RegsBut (s.setFld F.NM_STATE_RING 0) (K.NM_STATE :: journalKeys) := (s.regsBut_setFld F.NM_STATE_RING 0).mono (by decide)
  have asleep : (s.setFld F.NM_STATE_RING 0).fld F.NM_STATE_ASLEEP = s.fld F.NM_STATE_ASLEEP :=
    s.fld_setFld_beside (f := F.NM_STATE_RING) (g := F.NM_STATE_ASLEEP) 0 (by decide)
  rw [s.ringIdle_eq]
  cases h : s.nm.forced with
  | nil => rw [State.forcedNext_none (s := s.setFld F.NM_STATE_RING 0) h]; exact ⟨rfl, shown, fun _ _ => rfl, asleep, rfl, rfl, rfl⟩
  | cons g r =>
    rw [State.forcedNext_some (s := s.setFld F.NM_STATE_RING 0) h]
    generalize hv : s.setFld F.NM_STATE_RING 0 = v at *
    have only : s.Only v [.regs, .cnts, .nmLog, .data, .mgt, .edge, .nm, .twin, .key] := hv ▸ rfl
    have nm : v.nm = s.nm := hv ▸ rfl
    have cnts : v.cnts = s.cnts := hv ▸ rfl
    have commits := ({ v with nm := { v.nm with forced := r } } : State).commitSleep_commits (2 ^ g) true
    generalize ({ v with nm := { v.nm with forced := r } } : State).commitSleep (2 ^ g) true = w at *
    have at_ {α : Type} (f : NmSt → α) : f w.nm = f (({ v with nm := { v.nm with forced := r } } : State).commitMark (2 ^ g) true).nm :=
      congrArg f commits.nm
    have same {α : Type} (f : NmSt → α) : f v.nm = f s.nm := congrArg f nm
    refine ⟨only.comp ((State.Only.comp (t := { v with nm := { v.nm with forced := r } }) rfl commits.only)), shown.comp (commits.regs.from rfl),
      fun k hk => (commits.cnts k hk).trans (State.cnt_congr cnts k), commits.asleep.trans asleep, ?_, ?_, ?_⟩
    · exact (at_ NmSt.calm).trans (same NmSt.calm)
    · exact (at_ NmSt.due).trans (same NmSt.due)
    · exact (at_ NmSt.dueCode).trans (same NmSt.dueCode)

/-! ## A forced sleep -/

/-- A group's awake timer has run out: its last source is isolated, logged and counted. -/
def State.isolates (s : State) (g : Nat) : State :=
  (((s.setFlds [(F.NM_GROUP_STATUS_LAST_SOURCE g, mapGet (fun _ => 0xFF) s.nm.lastSoft g), (F.NM_GROUP_STATUS_ISOLATED g, 1)]).nmEvent 7
    (mapGet (fun _ => 0xFF) s.nm.lastSoft g) (2 ^ g)).nmEvent 6 (mapGet (fun _ => 0xFF) s.nm.lastSoft g) (2 ^ g)).inc (C.nm 5)

/-- The status of group `g` names its last source as isolated, and the forced sleep is counted against `s`. -/
structure State.Isolates (s t : State) (g : Nat) : Prop where
  only : s.Only t [.regs, .cnts, .nmLog, .data, .mgt, .edge, .nm, .twin, .key]
  isolated : t.flag (F.NM_GROUP_STATUS_ISOLATED g) = true
  source : t.fld (F.NM_GROUP_STATUS_LAST_SOURCE g) = mapGet (fun _ => 0xFF) s.nm.lastSoft g % 256
  counted : t.cnt (C.nm 5) = s.cnt (C.nm 5) + 1

theorem groupStatus_notCommit {g : Nat} (hg : g < 16) : K.NM_GROUP_STATUS g ∉ K.NM_STATE :: journalKeys := by
  have low : ∀ k ∈ K.NM_STATE :: journalKeys, k < 0x280080 ∨ 0x2800C0 ≤ k := by decide
  intro h
  have := low _ h
  unfold K.NM_GROUP_STATUS at this
  omega

/-- A commit touches neither the status of a group nor the count of forced sleeps. -/
theorem State.Isolates.from {u : State} {g : Nat} (h : s.Isolates t g) (hg : g < 16)
    (only : t.Only u [.regs, .cnts, .nmLog, .data, .mgt, .edge, .nm, .twin, .key]) (regs : t.RegsBut u (K.NM_STATE :: journalKeys))
    (cnts : t.CntsBut u commitCounters) : s.Isolates u g :=
  ⟨h.only.comp only, (regs.flag (groupStatus_notCommit hg)).trans h.isolated, (regs.fld (groupStatus_notCommit hg)).trans h.source,
    (cnts (C.nm 5) (by decide)).trans h.counted⟩

theorem State.isolates_isolates (s : State) {g : Nat} (hg : g < 16) : s.Isolates (s.isolates g) g ∧ (s.isolates g).nm = s.nm ∧
    s.RegsBut (s.isolates g) (K.NM_GROUP_STATUS g :: journalKeys) := by
  let src := mapGet (fun _ => 0xFF) s.nm.lastSoft g
  let fields : List (Fld × Nat) := [(F.NM_GROUP_STATUS_LAST_SOURCE g, src), (F.NM_GROUP_STATUS_ISOLATED g, 1)]
  have shown : s.RegsBut (s.setFlds fields) [K.NM_GROUP_STATUS g] :=
    s.regsBut_setFlds_keys (by simp [fields, F.NM_GROUP_STATUS_LAST_SOURCE, F.NM_GROUP_STATUS_ISOLATED])
  have first : s.Only (s.setFlds fields) [.regs] := s.setFlds_only _
  have source : (s.setFlds fields).fld (F.NM_GROUP_STATUS_LAST_SOURCE g) = src % 256 :=
    s.fld_setFlds_at [] [(F.NM_GROUP_STATUS_ISOLATED g, 1)] (F.NM_GROUP_STATUS_LAST_SOURCE g) src (show 16 ≤ 23 by decide) (show 23 < 32 by decide)
      (by simp [Fld.beside, F.NM_GROUP_STATUS_LAST_SOURCE, F.NM_GROUP_STATUS_ISOLATED])
  have isolated : (s.setFlds fields).flag (F.NM_GROUP_STATUS_ISOLATED g) = true :=
    s.flag_setFlds_at [(F.NM_GROUP_STATUS_LAST_SOURCE g, src)] [] (F.NM_GROUP_STATUS_ISOLATED g) 1 rfl (show 30 < 32 by decide) rfl
  have eq : s.isolates g = (((s.setFlds fields).nmEvent 7 src (2 ^ g)).nmEvent 6 src (2 ^ g)).inc (C.nm 5) := rfl
  rw [eq]
  generalize s.setFlds fields = v at *
  obtain ⟨only7, regs7, cnts7⟩ := State.nmEvent_keeps (s := v) 7 src (2 ^ g)
  generalize v.nmEvent 7 src (2 ^ g) = w at *
  obtain ⟨only6, regs6, cnts6⟩ := State.nmEvent_keeps (s := w) 6 src (2 ^ g)
  generalize w.nmEvent 6 src (2 ^ g) = x at *
  have only : v.Only x [.regs, .cnts, .nmLog, .mgt, .key] := only7.comp only6
  have regs : v.RegsBut x journalKeys := regs7.comp regs6
  have status : K.NM_GROUP_STATUS g ∉ journalKeys := fun h => groupStatus_notCommit hg (List.mem_cons_of_mem _ h)
  have all : s.Only (x.inc (C.nm 5)) [.regs, .cnts, .nmLog, .data, .mgt, .edge, .nm, .twin, .key] :=
    (first.mono _ (by decide)).comp (State.Only.comp (t := x) (only.mono _ (by decide)) rfl)
  refine ⟨⟨all, (regs.flag status).trans isolated, (regs.fld status).trans source, ?_⟩, ?_, (shown.mono (by simp)).comp (regs.mono fun k hk => List.mem_cons_of_mem _ hk)⟩
  · rw [x.cnt_inc_same, (cnts7.comp cnts6) _ (by decide), State.cnt_congr (first.keeps State.cnts rfl)]
  · exact (only.keeps State.nm rfl).trans (first.keeps State.nm rfl)

/-- What keeps a group awake no longer: its awake timer has run out (R359). -/
def State.mayForce (s : State) (g : Nat) : Prop :=
  s.fld F.NM_LIMITS_MAX_AWAKE_S ≠ 0 ∧ s.asleep g = false ∧ (s.fld F.NM_SLEEP_EN_SLEEP_EN).testBit g = true ∧
    s.hardMask.testBit g = false ∧ s.usedGroups.testBit g = true

theorem State.forcedSleep_eq {g : Nat} (may : s.mayForce g) (active : s.standby = false) (over_ : s.fld F.NM_LIMITS_MAX_AWAKE_S ≤ s.awakeSeconds g)
    (still : (s.isolates g).standby = s.standby) :
    s.forcedSleep g = if (s.isolates g).fld F.NM_STATE_RING = 0
      then ({ s.isolates g with nm := { (s.isolates g).nm with forced := (s.isolates g).nm.forced ++ [g] } } : State).ringIdle
      else { s.isolates g with nm := { (s.isolates g).nm with forced := (s.isolates g).nm.forced ++ [g] } } := by
  obtain ⟨max, awake, enabled, hard, used⟩ := may
  have acts : ¬ (s.fld F.NM_LIMITS_MAX_AWAKE_S = 0 ∨ s.asleep g = true ∨ (!(s.fld F.NM_SLEEP_EN_SLEEP_EN).testBit g) = true ∨
      s.hardMask.testBit g = true ∨ (!s.usedGroups.testBit g) = true ∨ s.awakeSeconds g < s.fld F.NM_LIMITS_MAX_AWAKE_S) := by
    simp [max, awake, enabled, hard, used, over_]
  unfold State.forcedSleep
  rw [if_neg acts]
  show (if (s.isolates g).standby = true then s.isolates g else _) = _
  rw [still, active, if_neg (by decide)]
  rfl

theorem exec_forcedSleep_waits {g : Nat} (hr : s.running = true) (hg : g < 16) (early : s.awakeSeconds g < s.fld F.NM_LIMITS_MAX_AWAKE_S) :
    exec (.forcedSleep g) s = .next s := by
  rw [exec_forcedSleep s g (decide_eq_true hg) hr, State.forcedSleep, if_pos (.inr (.inr (.inr (.inr (.inr early))))),
    (s.only_refl [.nm]).confine _ (by decide)]

theorem exec_forcedSleep_forces {g : Nat} (hr : s.running = true) (hg : g < 16) (may : s.mayForce g) (active : s.standby = false)
    (over_ : s.fld F.NM_LIMITS_MAX_AWAKE_S ≤ s.awakeSeconds g) :
    ∃ t, exec (.forcedSleep g) s = .next t ∧ s.Isolates t g ∧
      (s.fld F.NM_STATE_RING = 0 → s.nm.forced = [] → t.fld F.NM_STATE_RING = 2 ∧ t.nm.committed = 2 ^ g ∧
        t.nm.set = 2 ^ g ∧ t.nm.tCommit = s.nowNs + 1000 * s.fld F.NM_CFG_GUARD_US ∧ t.nm.armed = true) ∧
      (s.fld F.NM_STATE_RING ≠ 0 → t.nm = { s.nm with forced := s.nm.forced ++ [g] }) := by
  have run := exec_forcedSleep s g (decide_eq_true hg) hr
  obtain ⟨isolates, nm, regs⟩ := s.isolates_isolates hg
  have kept (f : Fld) (hf : f.key ∉ journalKeys) (far : f.key < 0x280080 ∨ 0x2800C0 ≤ f.key) : (s.isolates g).fld f = s.fld f :=
    regs.fld (by simp only [List.mem_cons, not_or]; exact ⟨by unfold K.NM_GROUP_STATUS; omega, hf⟩)
  have still : (s.isolates g).standby = s.standby := by
    unfold State.standby
    rw [kept _ (by decide) (by decide), kept _ (by decide) (by decide)]
  have ring := kept F.NM_STATE_RING (by decide) (by decide)
  have guard := kept F.NM_CFG_GUARD_US (by decide) (by decide)
  have now : (s.isolates g).nowNs = s.nowNs := isolates.only.keeps State.nowNs rfl
  rw [State.forcedSleep_eq may active over_ still] at run
  generalize s.isolates g = v at *
  let w : State := { v with nm := { v.nm with forced := v.nm.forced ++ [g] } }
  have isolates' : s.Isolates w g := ⟨isolates.only.comp rfl, isolates.isolated, isolates.source, isolates.counted⟩
  by_cases idle : s.fld F.NM_STATE_RING = 0
  · rw [if_pos (ring.trans idle)] at run
    obtain ⟨only, regs', cnts, -⟩ := w.ringIdle_keeps
    have forces := isolates'.from hg only regs' cnts
    rw [forces.only.confine _ (by decide)] at run
    refine ⟨_, run, forces, fun _ waits => ?_, fun busy => absurd idle busy⟩
    have listed : (w.setFld F.NM_STATE_RING 0).nm.forced = [g] := by
      show v.nm.forced ++ [g] = [g]
      rw [nm, waits]
      rfl
    rw [w.ringIdle_eq, State.forcedNext_some listed]
    have zeroed : w.RegsBut (w.setFld F.NM_STATE_RING 0) [K.NM_STATE] := w.regsBut_setFld F.NM_STATE_RING 0
    have guard' : (w.setFld F.NM_STATE_RING 0).fld F.NM_CFG_GUARD_US = s.fld F.NM_CFG_GUARD_US := (zeroed.fld (by decide)).trans guard
    have now' : (w.setFld F.NM_STATE_RING 0).nowNs = s.nowNs := now
    generalize w.setFld F.NM_STATE_RING 0 = x at *
    have commits := ({ x with nm := { x.nm with forced := [] } } : State).commitSleep_commits (2 ^ g) true
    have at_ {α : Type} (f : NmSt → α) := congrArg f commits.nm
    refine ⟨commits.ring, at_ NmSt.committed, at_ NmSt.set, ?_, at_ NmSt.armed⟩
    rw [← now', ← guard']
    exact at_ NmSt.tCommit
  · rw [if_neg (fun h => idle (ring.symm.trans h)), isolates'.only.confine _ (by decide)] at run
    refine ⟨_, run, isolates', fun h => absurd h idle, fun _ => ?_⟩
    show ({ v.nm with forced := v.nm.forced ++ [g] } : NmSt) = _
    rw [nm]

end

/-! ## What members that are powered down leave -/

/-- The sleep controller's own state, and the register that shows it, are as they were. -/
def State.SleepKept (s t : State) : Prop := t.nm = s.nm ∧ t.reg K.NM_STATE = s.reg K.NM_STATE

section
variable {s t u : State}

theorem State.SleepKept.refl (s : State) : s.SleepKept s := ⟨rfl, rfl⟩

theorem State.SleepKept.comp (h : s.SleepKept t) (h' : t.SleepKept u) : s.SleepKept u := ⟨h'.1.trans h.1, h'.2.trans h.2⟩

theorem State.sleepKept_of (nm : t.nm = s.nm) (regs : t.regs = s.regs) : s.SleepKept t := ⟨nm, State.reg_congr regs _⟩

theorem State.sleepKept_but {keys : List Nat} (nm : t.nm = s.nm) (regs : s.RegsBut t keys) (h : K.NM_STATE ∉ keys) : s.SleepKept t :=
  ⟨nm, regs _ h⟩

theorem State.BufKept.sleepKept (h : s.BufKept t) : s.SleepKept t := State.sleepKept_but (h.1.keeps State.nm rfl) h.2.1 (by decide)

theorem State.setReg_sleepKept (s : State) {k : Nat} (w : Word) (h : k ≠ K.NM_STATE) : s.SleepKept (s.setReg k w) :=
  ⟨rfl, s.reg_setReg_other w h⟩

theorem State.setFlds_sleepKept {l : List (Fld × Nat)} (h : ∀ c ∈ l, c.1.key ≠ K.NM_STATE) (s : State) : s.SleepKept (s.setFlds l) :=
  ⟨(s.setFlds_only l).keeps State.nm rfl, State.reg_setFlds_other s h⟩

theorem forEach_sleepKept {α : Type} (f : α → State → State) (l : List α) (hf : ∀ x ∈ l, ∀ s, State.SleepKept s (f x s)) (s : State) :
    s.SleepKept (forEach l f s) := forEach_relates .refl .comp f l hf s

theorem State.raiseFlag_sleepKept (s : State) {f : Fld} (d : List Byte) (h : f.key ≠ K.NM_STATE) : s.SleepKept (s.raiseFlag f d) := by
  refine State.sleepKept_but ((s.raiseFlag_only f d).keeps State.nm rfl) (s.raiseFlag_regsBut f d) ?_
  simp only [List.mem_cons, not_or]
  exact ⟨h.symm, by decide⟩

/-! ### Ports -/

theorem State.applySaWait_sleepKept (s : State) (p : Nat) : s.SleepKept (s.applySaWait p) := by
  have away (i : Nat) : ∀ k ∈ saKeysOf p i, k ≠ K.NM_STATE := by
    simp only [saKeysOf, K.SEC_SA_SCI_LO, K.SEC_SA_SCI_HI, K.SEC_SA_PN_LO, K.SEC_SA_PN_HI, K.SEC_SA_SALT0, K.SEC_SA_SALT1,
      K.SEC_SA_SALT2, K.SEC_SA_SSCI, K.SEC_SA_CFG, K.NM_STATE, List.forall_mem_cons, List.not_mem_nil, false_imp_iff, implies_true, and_true]
    omega
  have put (i : Nat) (w : List Word) (u : State) : u.SleepKept (u.putSa p i w) :=
    forEach_sleepKept _ _ (fun c hc v => v.setReg_sleepKept c.2 (away i c.1 (List.of_mem_zip hc).1)) u
  unfold State.applySaWait
  split
  · exact .refl s
  · exact State.SleepKept.comp (t := { s with ports := { s.ports with saWait := s.ports.saWait.filter (fun c => c.1 / 32 != p) } })
      (State.sleepKept_of rfl rfl) (forEach_sleepKept _ _ (fun c _ v => put (c.1 % 32) c.2 v) _)

theorem State.markBad_sleepKept (s : State) (h : Nat) : s.SleepKept (s.markBad h) := by
  obtain ⟨u, v, first, rfl | rfl, last⟩ := s.markBad_parts h
  · exact first.sleepKept.comp last.sleepKept
  · exact (first.sleepKept.comp (State.sleepKept_of rfl rfl)).comp last.sleepKept

theorem State.cutRx_sleepKept (s : State) (m : Nat) : s.SleepKept (s.cutRx m) := by
  unfold State.cutRx State.rxCut
  split
  next r _ =>
    have begun : s.SleepKept (((s.setRx m none).count (C.mac (m / 2) 0) r.raw.length).applySaWait (m / 2)) :=
      (State.sleepKept_of (t := (s.setRx m none).count (C.mac (m / 2) 0) r.raw.length) rfl rfl).comp (State.applySaWait_sleepKept _ _)
    dsimp only
    split
    · exact begun
    · exact (((begun.comp (State.modFrame_holdKept _ _ _).1.sleepKept).comp (State.markBad_sleepKept _ _)).comp
        (State.modFrame_holdKept _ _ _).1.sleepKept).comp (State.tryRelease_holdKept _ _).1.sleepKept
  next => exact .refl s

theorem State.abortTx_sleepKept (s : State) (m : Nat) : s.SleepKept (s.abortTx m) := by
  unfold State.abortTx
  split
  · exact .refl s
  · exact State.SleepKept.comp (State.sleepKept_of rfl rfl) (State.endCopy_holdKept _ _ _).1.sleepKept

theorem State.restartVerify_sleepKept (s : State) (p : Nat) : s.SleepKept (s.restartVerify p) :=
  State.sleepKept_but rfl (State.restartVerify_regsBut (s := s) (p := p)) (by simp only [List.mem_singleton, K.NM_STATE, K.MERGE_STATUS]; omega)

theorem portStatus_away (p : Nat) : K.MAC_STATUS p ≠ K.NM_STATE ∧ K.MERGE_STATUS p ≠ K.NM_STATE := by
  unfold K.MAC_STATUS K.MERGE_STATUS K.NM_STATE
  omega

theorem State.relink_sleepKept (s : State) (p : Nat) : s.SleepKept (s.relink p) := by
  obtain ⟨mac, merge⟩ := portStatus_away p
  unfold State.relink
  extract_lets s1 now s2 s3
  have first : s.SleepKept s1 := by
    unfold s1
    split
    · exact s.setReg_sleepKept _ mac
    · exact .refl s
  have changed : s.SleepKept s2 := first.comp ((s1.setReg_sleepKept _ mac).comp (State.raiseFlag_sleepKept _ _ mac))
  have ended : s.SleepKept s3 := changed.comp ((((s2.abortTx_sleepKept _).comp (State.abortTx_sleepKept _ _)).comp
    (State.cutRx_sleepKept _ _)).comp (State.cutRx_sleepKept _ _))
  split
  · exact first
  split
  · split
    · exact changed.comp (State.restartVerify_sleepKept _ p)
    · exact changed
  · split
    · exact ended.comp (State.setReg_sleepKept _ _ merge)
    · exact ended

theorem State.portReset_sleepKept (s : State) (p : Nat) : s.SleepKept (s.portReset p) := by
  obtain ⟨mac, -⟩ := portStatus_away p
  have lock : s.SleepKept ((s.setPhyLink p false).setFld (F.MAC_STATUS_LOCK p) 0) :=
    State.SleepKept.comp (t := s.setPhyLink p false) (State.sleepKept_of rfl rfl) (State.setReg_sleepKept _ _ mac)
  have down : s.SleepKept (s.portDown p) := (lock.comp (State.relink_sleepKept _ p)).comp (State.setReg_sleepKept _ 0 mac)
  rw [State.portReset_eq]
  split
  · exact down.comp (State.restartVerify_sleepKept _ p)
  · exact down

/-! ### Channels -/

theorem State.canReset_sleepKept (s : State) {n : Nat} (hn : n < 24) : s.SleepKept (s.canReset n) := by
  have status : K.CAN_STATUS n ≠ K.NM_STATE := by unfold K.CAN_STATUS K.NM_STATE; omega
  have evt : K.CAN_EVT n ≠ K.NM_STATE := by unfold K.CAN_EVT K.NM_STATE; omega
  have ctrl : K.CAN_CTRL n ≠ K.NM_STATE := by unfold K.CAN_CTRL K.NM_STATE; omega
  have cnt : K.CAN_CNT_CTRL n ≠ K.NM_STATE := by unfold K.CAN_CNT_CTRL K.NM_STATE; omega
  have discard : s.SleepKept (s.canDiscard n) := by
    unfold State.canDiscard
    dsimp only
    split
    · exact State.sleepKept_of rfl rfl
    · exact State.sleepKept_of rfl rfl
  rw [State.canReset_eq]
  exact ((discard.comp (State.setReg_sleepKept _ _ status)).comp (State.setReg_sleepKept _ 0 evt)).comp
    (State.setFlds_sleepKept (forall_mem_two ctrl cnt) _)

theorem State.linReset_sleepKept (s : State) {n : Nat} (hn : n < 8) : s.SleepKept (s.linReset n) := by
  have status : K.LIN_STATUS n ≠ K.NM_STATE := by unfold K.LIN_STATUS K.NM_STATE; omega
  have evt : K.LIN_EVT n ≠ K.NM_STATE := by unfold K.LIN_EVT K.NM_STATE; omega
  have ctrl : K.LIN_CTRL n ≠ K.NM_STATE := by unfold K.LIN_CTRL K.NM_STATE; omega
  have cnt : K.LIN_CNT_CTRL n ≠ K.NM_STATE := by unfold K.LIN_CNT_CTRL K.NM_STATE; omega
  have fresh : s.SleepKept (s.setLin n .fresh) := State.sleepKept_of rfl rfl
  exact ((fresh.comp (State.setReg_sleepKept _ 0 status)).comp (State.setReg_sleepKept _ 0 evt)).comp
    (State.setFlds_sleepKept (forall_mem_two ctrl cnt) _)

theorem State.chanReset_sleepKept (s : State) {n : Nat} (hn : n < 32) : s.SleepKept (s.chanReset n) := by
  unfold State.chanReset
  split
  · exact s.canReset_sleepKept ‹_›
  · exact s.linReset_sleepKept (by omega)

/-! ### Groups -/

/-- The awake timers of groups that go to sleep stop. -/
def State.timersStopped (s : State) (g : Nat) : State :=
  forEach (maskList 16 g) (fun k s => s.setFld (F.NM_GROUP_STATUS_AWAKE_S k) (s.awakeSeconds k)) s

/-- The copies that wait for a port that goes to sleep are dropped and counted. -/
def State.portEmptied (s : State) (p : Nat) : State :=
  forEach (List.range 8) (fun n s =>
    let k := (s.queue (8 * p + n)).length
    if k = 0 then s else (s.dropCopies (8 * p + n) (fun _ => true)).count (C.nm 11) k) s

/-- Members of groups that sleep: their ports, and their channels. -/
def State.portsDown (s : State) (g : Nat) : State := forEach (s.groupPorts g) (fun p s => ((s.portReset p).portEmptied p).phyPin p) s
def State.chansDown (s : State) (g : Nat) : State := forEach (s.groupChans g) (fun n s => s.chanReset n) s

theorem State.powerDown_eq (s : State) (groups : Nat) : s.powerDown groups =
    ((((s.timersStopped (groups &&& notMask s.asleepMask)).setFld F.NM_STATE_ASLEEP
      ((s.timersStopped (groups &&& notMask s.asleepMask)).asleepMask ||| (groups &&& notMask s.asleepMask))).dropCandidates
        (groups &&& notMask s.asleepMask)).portsDown (groups &&& notMask s.asleepMask)).chansDown (groups &&& notMask s.asleepMask) := rfl

theorem State.timersStopped_sleepKept (s : State) (g : Nat) : s.SleepKept (s.timersStopped g) :=
  forEach_sleepKept _ _ (fun k _ u => u.setReg_sleepKept _ (by simp only [F.NM_GROUP_STATUS_AWAKE_S, K.NM_GROUP_STATUS, K.NM_STATE]; omega)) s

theorem State.portEmptied_sleepKept (s : State) (p : Nat) : s.SleepKept (s.portEmptied p) := by
  refine forEach_sleepKept _ _ (fun n _ u => ?_) s
  dsimp only
  split
  · exact .refl u
  · exact (State.dropCopies_bufKept _ _ _).sleepKept.comp (State.sleepKept_of rfl rfl)

theorem State.phyPin_sleepKept (s : State) (p : Nat) : s.SleepKept (s.phyPin p) := by
  unfold State.phyPin
  split
  · exact State.sleepKept_of rfl rfl
  · exact .refl _

theorem State.portsDown_sleepKept (s : State) (g : Nat) : s.SleepKept (s.portsDown g) :=
  forEach_sleepKept _ _ (fun p _ u =>
    ((u.portReset_sleepKept p).comp (State.portEmptied_sleepKept _ p)).comp (State.phyPin_sleepKept _ p)) s

theorem State.chansDown_sleepKept (s : State) (g : Nat) : s.SleepKept (s.chansDown g) :=
  forEach_sleepKept _ _ (fun _ hn u => u.chanReset_sleepKept (List.mem_range.mp (List.mem_filter.mp hn).1)) s

/-- Groups that are powered down: they sleep, and are no candidates any more. -/
theorem State.powerDown_sleeps (s : State) (groups : Nat) :
    (s.powerDown groups).fld F.NM_STATE_ASLEEP = (s.asleepMask ||| (groups &&& notMask s.asleepMask)) % 65536 ∧
      ∃ c y, (s.powerDown groups).nm = { s.nm with candidates := c, stayed := y } := by
  rw [s.powerDown_eq]
  generalize groups &&& notMask s.asleepMask = g
  have stopped := s.timersStopped_sleepKept g
  have mask : (s.timersStopped g).asleepMask = s.asleepMask := State.fld_of_reg stopped.2
  rw [mask]
  generalize s.timersStopped g = v at *
  let w := (v.setFld F.NM_STATE_ASLEEP (s.asleepMask ||| g)).dropCandidates g
  have shown : w.fld F.NM_STATE_ASLEEP = (s.asleepMask ||| g) % 65536 := v.fld_setFld_same F.NM_STATE_ASLEEP _ (by decide) (by decide)
  have down := (w.portsDown_sleepKept g).comp (State.chansDown_sleepKept _ g)
  refine ⟨(State.fld_of_reg down.2).trans shown, w.nm.candidates, w.nm.stayed, down.1.trans ?_⟩
  show ({ v.nm with candidates := _, stayed := _ } : NmSt) = _
  rw [stopped.1]
  rfl

/-! ## Sleep entry -/

theorem exec_sleepEntry_waits (hr : s.running = true) (due : s.entryDue = true) (waits : s.entryWaits = true) :
    ∃ t, exec .sleepEntry s = .next t ∧ t.fld F.NM_STATE_RING = 3 ∧ s.RegsBut t [K.NM_STATE] ∧ s.Only t [.regs] := by
  have run := exec_sleepEntry s hr
  have only : s.Only (s.setFld F.NM_STATE_RING 3) [.regs] := rfl
  have effect : s.sleepEntry = s.setFld F.NM_STATE_RING 3 := by
    rw [State.sleepEntry, due, waits]
    rfl
  rw [effect, only.confine _ (by decide)] at run
  exact ⟨_, run, s.fld_setFld_same F.NM_STATE_RING 3 (by decide) (by decide), s.regsBut_setFld F.NM_STATE_RING 3, only⟩

/-- The commanders of groups have nothing to send any more. -/
def State.commandersDone (s : State) (g : Nat) : State :=
  forEach (s.commanders g) (fun n s => s.setLin n { s.lin n with goSleep := false, slept := false }) s

/-- No groups are committed. -/
def State.commitOver (s : State) : State := { s with nm := { s.nm with committed := 0, told := [], armed := false } }

theorem State.enterSleep_eq (s : State) : s.enterSleep =
    s.confine [.regs, .cnts, .fresh, .bufLog, .data, .ports, .mgt, .edge, .nm, .key, .out]
      ((s.powerDown s.nm.committed).commandersDone s.nm.committed).commitOver := rfl

/-- Steps 1 and 2 of a sleep entry: the committed groups sleep with those that slept, and no group is committed. -/
theorem State.enterSleep_sleeps (s : State) :
    s.enterSleep.fld F.NM_STATE_ASLEEP = (s.asleepMask ||| (s.nm.committed &&& notMask s.asleepMask)) % 65536 ∧
      ∃ c y, s.enterSleep.nm = { s.nm with candidates := c, stayed := y, committed := 0, told := [], armed := false } := by
  obtain ⟨asleep, c, y, nm⟩ := s.powerDown_sleeps s.nm.committed
  rw [s.enterSleep_eq]
  generalize s.powerDown s.nm.committed = v at *
  have done : v.Only (v.commandersDone s.nm.committed) [.edge] := forEach_only _ (fun n u => u.setLin_only n _) _ v
  have nm' : (v.commandersDone s.nm.committed).nm = v.nm := done.keeps State.nm rfl
  have regs : (v.commandersDone s.nm.committed).regs = v.regs := done.keeps State.regs rfl
  generalize v.commandersDone s.nm.committed = w at *
  refine ⟨(State.fld_congr (show _ = v.regs from regs) _).trans asleep, c, y, ?_⟩
  show ({ w.nm with committed := 0, told := [], armed := false } : NmSt) = _
  rw [nm', nm]

/-- What was latched meanwhile is due, of the groups that sleep. -/
def State.latchedDue (s : State) : State :=
  match s.nm.latched with
  | none => s
  | some (g, c, _) => { s with nm := { s.nm with due := s.nm.due ||| (g &&& s.asleepMask), dueCode := c, latched := none,
                                                 waking := s.nm.waking &&& s.asleepMask } }

theorem State.endInLull_eq (s : State) : s.endInLull = s.latchedDue.ringIdle := by
  have latched : s.Only s.latchedDue [.regs, .cnts, .nmLog, .data, .mgt, .edge, .nm, .twin, .key] := by
    unfold State.latchedDue
    split
    · exact s.only_refl _
    · rfl
  have only := latched.comp s.latchedDue.ringIdle_keeps.1
  have eq : s.endInLull = s.confine [.regs, .cnts, .nmLog, .data, .mgt, .edge, .nm, .twin, .key] s.latchedDue.ringIdle := by
    unfold State.endInLull State.latchedDue
    cases s.nm.latched <;> rfl
  rw [eq, only.confine _ (by decide)]

/-- The end of an entry in Lull: the groups sleep on, what was latched is due, and the ring is idle or makes the forced commit that waits. -/
theorem State.endInLull_ends (s : State) : s.endInLull.fld F.NM_STATE_ASLEEP = s.fld F.NM_STATE_ASLEEP ∧ s.endInLull.nm.calm = s.nm.calm ∧
    (s.nm.forced = [] → s.endInLull.fld F.NM_STATE_RING = 0 ∧ s.endInLull.nm.committed = s.nm.committed ∧ s.endInLull.nm.armed = s.nm.armed) ∧
    (∀ g c l, s.nm.latched = some (g, c, l) → s.endInLull.nm.due = s.nm.due ||| (g &&& s.asleepMask) ∧ s.endInLull.nm.dueCode = c) := by
  rw [s.endInLull_eq]
  obtain ⟨-, -, -, asleep, calm, due, code⟩ := s.latchedDue.ringIdle_keeps
  have regs : s.latchedDue.regs = s.regs := by unfold State.latchedDue; split <;> rfl
  have kept : s.latchedDue.nm.calm = s.nm.calm ∧ s.latchedDue.nm.forced = s.nm.forced ∧ s.latchedDue.nm.committed = s.nm.committed ∧
      s.latchedDue.nm.armed = s.nm.armed := by
    unfold State.latchedDue
    split
    · exact ⟨rfl, rfl, rfl, rfl⟩
    · exact ⟨rfl, rfl, rfl, rfl⟩
  obtain ⟨calm', forced, committed, armed⟩ := kept
  refine ⟨asleep.trans (State.fld_congr regs _), calm.trans calm', fun none_ => ?_, fun g c l h => ?_⟩
  · rw [State.ringIdle_eq, State.forcedNext_none (s := s.latchedDue.setFld F.NM_STATE_RING 0) (forced.trans none_)]
    exact ⟨s.latchedDue.fld_setFld_same F.NM_STATE_RING 0 (by decide) (by decide), committed, armed⟩
  · have taken : s.latchedDue.nm.due = s.nm.due ||| (g &&& s.asleepMask) ∧ s.latchedDue.nm.dueCode = c := by
      unfold State.latchedDue
      rw [h]
      exact ⟨rfl, rfl⟩
    exact ⟨due.trans taken.1, code.trans taken.2⟩

/-- A group sleeps where it slept or is added, within the sixteen. -/
theorem testBit_sleeps {a c g : Nat} (hg : g < 16) :
    ((a ||| (c &&& notMask a)) % 65536).testBit g = (a.testBit g || c.testBit g) := by
  rw [show (65536 : Nat) = 2 ^ 16 from rfl, Nat.testBit_mod_two_pow, Nat.testBit_or, Nat.testBit_and, testBit_notMask hg]
  simp only [hg, decide_true, Bool.true_and]
  cases a.testBit g <;> simp

theorem exec_sleepEntry_lulls (hr : s.running = true) (awake : s.nm.calm = false) (due : s.entryDue = true) (ready : s.entryWaits = false)
    (lull : s.enterSleep.calmNext = false) :
    ∃ t, exec .sleepEntry s = .next t ∧ (∀ g, g < 16 → t.asleep g = (s.asleep g || s.nm.committed.testBit g)) ∧ t.nm.calm = false ∧
      (s.nm.forced = [] → t.fld F.NM_STATE_RING = 0 ∧ t.nm.committed = 0 ∧ t.nm.armed = false) ∧
      (∀ g c l, s.nm.latched = some (g, c, l) → t.nm.due = s.nm.due ||| (g &&& t.asleepMask) ∧ t.nm.dueCode = c) := by
  have run := exec_sleepEntry s hr
  have effect : s.sleepEntry = s.enterSleep.endInLull := by
    unfold State.sleepEntry
    rw [due, ready]
    dsimp only
    rw [lull]
    rfl
  obtain ⟨sleeps, c, y, nm⟩ := s.enterSleep_sleeps
  rw [effect] at run
  generalize s.enterSleep = v at *
  obtain ⟨asleep, calm, idle, latched⟩ := v.endInLull_ends
  generalize v.endInLull = w at *
  refine ⟨_, run, fun g hg => ?_, ?_, fun none_ => ?_, fun g k l h => ?_⟩
  · have bits := testBit_sleeps (a := s.asleepMask) (c := s.nm.committed) hg
    rw [← sleeps, ← asleep] at bits
    exact bits
  · refine calm.trans ?_
    rw [nm]
    exact awake
  · obtain ⟨ring, committed, armed⟩ := idle (by rw [nm]; exact none_)
    rw [nm] at committed armed
    exact ⟨ring, committed, armed⟩
  · obtain ⟨shown, code⟩ := latched g k l (by rw [nm]; exact h)
    rw [nm, show v.asleepMask = w.asleepMask from asleep.symm] at shown
    exact ⟨shown, code⟩

theorem State.enterCalm_calm (s : State) : s.enterCalm.nm.calm = true := rfl

theorem exec_sleepEntry_calms (hr : s.running = true) (due : s.entryDue = true) (ready : s.entryWaits = false)
    (calm : s.enterSleep.calmNext = true) : ∃ t, exec .sleepEntry s = .next t ∧ t.nm.calm = true := by
  have run := exec_sleepEntry s hr
  have effect : s.sleepEntry = s.enterSleep.enterCalm := by
    unfold State.sleepEntry
    rw [due, ready]
    dsimp only
    rw [calm]
    rfl
  have calmed := s.enterSleep.enterCalm_calm
  rw [effect] at run
  generalize s.enterSleep.enterCalm = v at *
  exact ⟨_, run, calmed⟩

end

/-- Settles O48. -/
theorem ringAndForcedSleep : Obligations.RingAndForcedSleep := by
  unfold Obligations.RingAndForcedSleep
  constructor
  · intro s hr calm active
    refine ⟨fun g hg may idle => exec_groupIdle_joins hr hg may idle, fun g hg h => exec_groupIdle_waits hr hg h,
      exec_ringRoundStart_waits hr, fun ring cand retry m hm first => exec_ringRoundStart_opens hr calm active ring cand retry hm first,
      fun ring m m' r visit rest vis wait => ⟨exec_consentRspTimeout_waits hr, ?_, ?_, ?_⟩⟩
    · exact exec_consentRspTimeout_consents hr ring visit rest vis wait
    · exact fun f b u h round member sender => exec_consentRspReceive_takes hr ring visit rest vis wait h round member sender
    · exact fun f b u h other => exec_consentRspReceive_ignores hr visit h other
  · intro s hr calm
    refine ⟨fun g hg max awake enabled hard used active => ⟨exec_forcedSleep_waits hr hg, fun over_ => ?_⟩, fun due =>
      ⟨exec_sleepEntry_waits hr due, exec_sleepEntry_lulls hr calm due, exec_sleepEntry_calms hr due⟩⟩
    obtain ⟨t, run, forces, idle, busy⟩ := exec_forcedSleep_forces hr hg ⟨max, awake, enabled, hard, used⟩ active over_
    exact ⟨t, run, forces.only, forces.isolated, forces.source, forces.counted, idle, busy⟩

end Sys2Proof.Machine
end
